-- ==== Sys2Proof/Word.lean ====
section
/-! DEFINITION. The word types of the module's registers and memories. -/

namespace Sys2Proof

/-- A 32-bit register or memory word. -/
abbrev Word := BitVec 32
/-- A 64-bit register value. -/
abbrev Word64 := BitVec 64
/-- A byte. -/
abbrev Byte := BitVec 8

end Sys2Proof
end

