-- ==== Sys2Proof/Syntax.lean ====
section
/-! DEFINITION. The commands of the module, one constructor for each row of the opcode table, and the operand types they
use.  An operand whose range is a plain bound carries it in its type. -/

namespace Sys2Proof
/-- A wire pair on which a comparator changes: a pair of an encoder port (0 A, 1 B, 2 Z) or a latch land. -/
inductive Wire where
  | port (n : Fin 40) (pair : Fin 3)
  | latch (n : Fin 32)
  deriving DecidableEq, Repr
/-- The kind of a parallel move (R301). -/
inductive MvKind where
  | none | load | store | ill
  deriving DecidableEq, Repr
/-- A parallel move of classes 0x1 and 0x6: any X register. -/
structure Move where
  kind : MvKind
  d : Fin 16
  x : Fin 8
  deriving DecidableEq, Repr
/-- A parallel move of one of two slots: slot 1 uses X0–X3, slot 2 X4–X7. -/
structure Move2 where
  kind : MvKind
  d : Fin 16
  x : Fin 4
  deriving DecidableEq, Repr
/-- The operands of an ALU instruction: class 0x1 with a move slot, or class 0x2 with imm16. -/
inductive AluSrc where
  | reg (s t : Fin 16) (mv : Move)
  | imm (v : BitVec 16)
  deriving DecidableEq, Repr
/-- The addressing modes of R274. -/
inductive AMode where
  | ind | inc | dec
  | addD (j : Fin 16)
  | off (o : BitVec 10)
  deriving DecidableEq, Repr
/-- A count or shift: immediate or from a D register. -/
inductive LpCount where
  | imm (n : BitVec 16)
  | reg (d : Fin 16)
  deriving DecidableEq, Repr
/-- The operand of EXP: a D register or an accumulator. -/
inductive ExpSrc where
  | d (i : Fin 16)
  | a (i : Fin 4)
  deriving DecidableEq, Repr
/-- The part of an accumulator that MOVA and MOVTA name. -/
inductive AccPart where
  | l | h | g
  deriving DecidableEq, Repr
/-- The source of SETX: a D register or imm18. -/
inductive SetxSrc where
  | reg (d : Fin 16)
  | imm (v : BitVec 18)
  deriving DecidableEq, Repr
/-- What an Ethernet frame carries, as far as the switch and the Ramaux engine look at it (R310, R323, R341). -/
inductive EthKind where
  /-- a PTP event message: a Sync that this module originates; peer-to-peer or IEEE 802.1AS operation -/
  | ptpEvent (originSync p2p : Bool)
  | ptpGeneral
  | cyclic | acyclic | bell
  | other
  deriving DecidableEq, Repr
/-- The MACsec tag of a protected frame (R316): the receive channel, the association and the SAK slot it names, the packet
number, and whether the ICV holds. -/
structure SecTag where
  chan : Fin 8
  an : Fin 4
  slot : Fin 48
  pn : BitVec 32
  icvOk : Bool
  deriving DecidableEq, Repr
/-- An Ethernet frame.  `corr` is the correctionField of a PTP message and `origin` its originTimestamp, in 2^−16 ns;
`inPort` and `inStamp` are filled where it enters. -/
structure EthFrame where
  dst : BitVec 48
  src : BitVec 48
  /-- PCP and VID of the 802.1Q tag -/
  tag : Option (Fin 8 × Fin 4096) := none
  rtag : Option (BitVec 16) := none
  kind : EthKind := .other
  /-- bytes with all tags and the FCS -/
  len : Nat := 64
  fcsOk : Bool := true
  sec : Option SecTag := none
  corr : Int := 0
  origin : Int := 0
  inPort : Nat := 0
  inStamp : Option Int := none
  swts : Bool := false
  /-- Ramaux header and body -/
  body : List Byte := []
  deriving DecidableEq, Repr
/-- A bell (R363). -/
structure Bell where
  origin : Fin 1024
  epoch : BitVec 8
  bkind : BitVec 8
  reporter : Fin 1024
  cause : BitVec 8
  hops : BitVec 8
  dcycle : Word
  nsub : Word
  /-- BCRC holds -/
  crcOk : Bool := true
  deriving DecidableEq, Repr
/-- A trajectory segment in a Tack frame (R110, R383). -/
structure TackSeg where
  start : Word64
  p0 : Word64
  v0 : Word64
  a0 : Word64
  j : Word64
  dur : Word
  move : Word
  last : Bool
  deriving DecidableEq, Repr
/-- The states that a VEL or NET record carries (R383). -/
structure TackVel where
  iV : Word
  vHat : Word
  tL : Word
  tPrev : Word
  bq : Vector Word 8
  nt : Vector Word 4
  torque : Word
  deriving DecidableEq, Repr
/-- The states that a POS or NET record carries; `vc` is the velocity command that R387 compares. -/
structure TackPos where
  iP : Word
  f : Word
  ePrev : Word
  c : Word64
  aPrev : Word64
  p : Word64
  v : Word64
  a : Word64
  phase : Word64
  rem : Word
  vc : Word
  deriving DecidableEq, Repr
/-- A Tack-line frame (R383). -/
inductive TackFrame where
  /-- module time at send (2^−16 ns), one-way delay (eighths of a tick), READY, role, the sender's operating state -/
  | hb (sent : Word64) (delay : BitVec 12) (ready : Bool) (role : Fin 3) (st : Fin 5)
  | cur (a : Fin 32) (w : Vector Word 3) (udc theta we torque xd xq : Word) (cmp : Vector Word 3)
  | vel (a : Fin 32) (v : TackVel)
  | pos (a : Fin 80) (p : TackPos)
  | net (a : Fin 32) (p : TackPos) (v : TackVel)
  /-- accepted commands and parameters, as the registers they write -/
  | regs (l : List (BitVec 24 × Word))
  | segs (a : Fin 80) (l : List TackSeg)
  | cam (table : Fin 256) (periodic : Bool) (pts : List (Word64 × Word64 × Word64))
  | token (k : Fin 8)
  | state (st : Fin 5)
  /-- a message to agent 0x40's stall -/
  | stall (b : Fin 28) (words : List Word)
  /-- the CRC of the image that the Active runs on an LP -/
  | image (k : Fin 16) (crc : Word)
  | snapshotEnd
  deriving DecidableEq, Repr
/-- A CAN frame: IDE, RTR, identifier (a standard one in bits 28:18), FDF, BRS, ESI, DLC, data. -/
structure CanFrame where
  ide : Bool
  rtr : Bool
  id : BitVec 29
  fdf : Bool
  brs : Bool
  esi : Bool
  dlc : Fin 16
  data : List Byte
  deriving DecidableEq, Repr
/-- How a fire message arrives: from a unit of the module (the oldest on its way), in a Tack-line frame (session, time of fire
coded as LSk_STAMP), or in the record of a subscription of CU_FIRESUBj. -/
inductive FireVia where
  | here
  | twin (session : BitVec 16) (tf : Word64)
  | sub (j : Fin 4)
  deriving DecidableEq, Repr
/-- Where an integrity error strikes (R596). -/
inductive MemPart where
  | dram | sram | fabric
  /-- the shadows of a PWM group -/
  | pwmShadow (g : Fin 40)
  deriving DecidableEq, Repr
/-- A command as it starts (R486): tag, UNIT, P0 to P5 and the payload; `fault`: the payload could not be read. -/
structure Cmd where
  tag : BitVec 16
  unit : Byte := 0xFF
  p : Vector Word 6 := Vector.replicate 6 0
  payload : List Byte := []
  fault : Bool := false
  deriving DecidableEq, Repr
/-- A sigma-delta stream and its latest bits, newest first (R208). -/
structure StreamBits where
  j : Fin 96
  bits : List Bool
  deriving DecidableEq, Repr
/-- The bits of the DC-link stream at a presentation, and the phase of SDCLK, in eighths of a tick, that a module which listens has
observed (R203). -/
structure DcBits where
  bits : List Bool
  ph : Fin 320 := 0
  deriving DecidableEq, Repr
/-- The agent that reads a lock, and those that read it in the same cycle of FCLK (R541). -/
structure Contest where
  agent : Fin 29
  rivals : List (Fin 29) := []
  deriving DecidableEq, Repr
/-- What the NAND reports of a program: the block of the write point failed; the block that is erased for it failed (R574). -/
structure ProgramEnd where
  bad : Bool
  fails : Bool := false
  deriving DecidableEq, Repr
/-- What the boot ROM finds of a yard image (R605): the signature and key hash hold, the NAND reads, its SVN, its length. -/
structure BootImage where
  signed : Bool
  reads : Bool
  svn : Word
  mib : BitVec 9
  deriving DecidableEq, Repr

/-- The commands, in the order of the opcode table; each cites its row and rule. -/
inductive Instr where
  /-- POWER_ON_RESET (R601) -/
  | powerOnReset
  /-- BROWN_OUT (R601) -/
  | brownOut
  /-- CLOCK_RESET (R601) -/
  | clockReset
  /-- RESET_RELEASE (R603) -/
  | resetRelease
  /-- PLL_LOCK (R17) -/
  | pllLock
  /-- DRAM_INIT_DONE (R604) -/
  | dramInitDone (bad : Bool)
  /-- BOOT_IMAGE_SELECT (R605) -/
  | bootImageSelect (pref other : BootImage)
  /-- FIRMWARE_START (R604) -/
  | firmwareStart (utc : Option Word64) (torn : Bool)
  /-- SELF_TEST_DONE (R606) -/
  | selfTestDone (sram fabric pwm : Bool) (cle : Byte) (lp : BitVec 16)
  /-- MORNING_ENTRY (R604) -/
  | morningEntry
  /-- STATE_CHANGE (R607) -/
  | stateChange
  /-- FIRMWARE_STATE_DECISION (R610) -/
  | firmwareStateDecision
  /-- YARD_WATCHDOG_EXPIRE (R607) -/
  | yardWatchdogExpire
  /-- SYS_RESET_WRITE (R613) -/
  | sysResetWrite (v : Word)
  /-- REF_LOST (R19) -/
  | refLost
  /-- REF_RETURN (R19) -/
  | refReturn
  /-- REF_IN_ACQUIRE (R19) -/
  | refInAcquire
  /-- SYS_CLK_WRITE (R20) -/
  | sysClkWrite (v : Word)
  /-- BAR0_READ_LOW_WORD (R36) -/
  | bar0ReadLowWord (r : Fin 10) (a : BitVec 24)
  /-- BAR0_READ_HIGH_WORD (R36) -/
  | bar0ReadHighWord (r : Fin 10) (a : BitVec 24)
  /-- BAR0_WRITE_LOW_WORD (R36) -/
  | bar0WriteLowWord (r : Fin 10) (a : BitVec 24) (v : Word)
  /-- BAR0_WRITE_HIGH_WORD (R36) -/
  | bar0WriteHighWord (r : Fin 10) (a : BitVec 24) (v : Word)
  /-- UNMAPPED_ACCESS (R37) by requester `r`; `odd`: its width or alignment is another than that of a word -/
  | unmappedAccess (r : Fin 10) (a : BitVec 24) (write odd : Bool)
  /-- REGISTER_WRITE (R28) -/
  | registerWrite (r : Fin 10) (a : BitVec 24) (v : Word)
  /-- BADACC_CLR (R38) -/
  | badaccClr (r : Fin 10)
  /-- BAR2_WRITE (R474) -/
  | bar2Write (o : BitVec 28) (data : List Byte)
  /-- FRAME_BOUNDARY (R45) -/
  | frameBoundary
  /-- FRAME_LENGTH_WRITE (R48) -/
  | frameLengthWrite (v : Word)
  /-- POSITION_BOUNDARY (R49) -/
  | positionBoundary (n : Fin 80)
  /-- VELOCITY_BOUNDARY (R49) -/
  | velocityBoundary (n : Fin 32)
  /-- CURRENT_UPDATE_BOUNDARY (R49) -/
  | currentUpdateBoundary (n : Fin 32)
  /-- TB_CHANGE_EFFECT (R50) -/
  | tbChangeEffect (n : Fin 80)
  /-- POSITION_RUN (R178) -/
  | positionRun (n : Fin 32)
  /-- MOVE_END (R113) -/
  | moveEnd (n : Fin 80)
  /-- REG_MISS (R163) -/
  | regMiss (k : Fin 32)
  /-- VELOCITY_RUN (R180) -/
  | velocityRun (n : Fin 32)
  /-- NETWORK_RUN (R188) -/
  | networkRun (i : Fin 32)
  /-- VIRTUAL_RUN (R137) -/
  | virtualRun (j : Fin 16)
  /-- OVERHEAD_RUN (R289) -/
  | overheadRun (k : Fin 16)
  /-- RECOVERY_LAW_RUN (R296) -/
  | recoveryLawRun (n : Fin 80)
  /-- LATE_CLR (R59) -/
  | lateClr (n : Fin 80)
  /-- CTOK_ARM (R62) -/
  | ctokArm (k : Fin 8)
  /-- CTOK_CANCEL (R64) -/
  | ctokCancel (k : Fin 8)
  /-- TOKEN_EXECUTE (R63) -/
  | tokenExecute (k : Fin 8)
  /-- PAIR_TRANSITION (R69) -/
  | pairTransition (w : Wire) (neg lvl : Bool) (t32 : Nat)
  /-- LEVEL_ACCEPTED (R70) -/
  | levelAccepted (n : Fin 40) (pair : Fin 3)
  /-- STILL_TIMEOUT (R77) -/
  | stillTimeout (n : Fin 40)
  /-- WIRE_FAULT (R90) -/
  | wireFault (n : Fin 40) (pair : Fin 4)
  /-- PRESET_APPLY (R93) -/
  | presetApply (n : Fin 40)
  /-- PORT_SETTINGS_EFFECT (R94) -/
  | portSettingsEffect (n : Fin 40)
  /-- SSI_FRAME_START (R82) -/
  | ssiFrameStart (n : Fin 40)
  /-- SSI_FRAME_END (R81); `hi` and `lo`: the bits that the encoder has sent, the last one in bit 0 of `lo`; `mono`: its monoflop bit -/
  | ssiFrameEnd (n : Fin 40) (hi : BitVec 16) (lo : Word) (mono : Bool)
  /-- PORT_LOAD (R93) -/
  | portLoad (n : Fin 40)
  /-- PORT_REVAL (R92) -/
  | portReval (n : Fin 40)
  /-- PORT_REARM (R100) -/
  | portRearm (n : Fin 40)
  /-- PORT_CLRFLAGS (R100) -/
  | portClrflags (n : Fin 40)
  /-- PORT_CLRCNT (R100) -/
  | portClrcnt (n : Fin 40)
  /-- LATCH_EDGE (R147) -/
  | latchEdge (n : Fin 32)
  /-- LATCH_ENTRY_COMPLETE (R149) -/
  | latchEntryComplete (n : Fin 32)
  /-- LATCH_POP (R150) -/
  | latchPop (n : Fin 32)
  /-- LATCH_CLR (R168) -/
  | latchClr (n : Fin 32)
  /-- LATCH_CLRCNT (R168) -/
  | latchClrcnt (n : Fin 32)
  /-- CO_ARM (R153) -/
  | coArm (n : Fin 16) (start : BitVec 12)
  /-- CO_DISARM (R166) -/
  | coDisarm (n : Fin 16)
  /-- CO_CLRCNT (R168) -/
  | coClrcnt (n : Fin 16)
  /-- COMPARE_RAM_WRITE (R157) -/
  | compareRamWrite (j : Fin 262144) (v : Word)
  /-- COMPARE_PULSE_END (R155) -/
  | comparePulseEnd (n : Fin 16)
  /-- REG_CLRTGT (R165) -/
  | regClrtgt (k : Fin 32)
  /-- LOOP_APPLY (R195) -/
  | loopApply (n : Fin 64)
  /-- LOOP_APPLY_EFFECT (R195) -/
  | loopApplyEffect (n : Fin 64)
  /-- INJ_START (R194) -/
  | injStart (k : Fin 16)
  /-- INJ_STOP (R200) -/
  | injStop (k : Fin 16)
  /-- INJ_DONE (R194) -/
  | injDone (k : Fin 16)
  /-- OVERCURRENT (R207) -/
  | overcurrent (j : Fin 96) (bits : List Bool)
  /-- STREAM_LOSS (R208) -/
  | streamLoss (x : StreamBits)
  /-- UDC_HOLD_EXPIRED (R209) -/
  | udcHoldExpired (a : Fin 32)
  /-- CLE_PRESENTATION (R215) -/
  | clePresentation (a : Fin 32) (u v w : List Bool) (dc : DcBits)
  /-- ANGLOSS (R225) -/
  | angloss (a : Fin 32)
  /-- CLE_BSWAP (R227) -/
  | cleBswap (a : Fin 32)
  /-- CLE_BANK_SWAP (R227) -/
  | cleBankSwap (a : Fin 32)
  /-- CLE_CLRFLAGS (R234) -/
  | cleClrflags (a : Fin 32)
  /-- CLE_CLRCNT (R233) -/
  | cleClrcnt (a : Fin 32)
  /-- CLE_LAT_CLR (R231) -/
  | cleLatClr (k : Fin 8)
  /-- PWM_COMMIT_CMPC (R249) -/
  | pwmCommitCmpc (n : Fin 32)
  /-- PWM_COMMIT_ALL (R249) -/
  | pwmCommitAll (n : Fin 32)
  /-- AUX_COMMIT_ALL (R249) -/
  | auxCommitAll (j : Fin 8)
  /-- PWM_COMMIT_EFFECT (R248) -/
  | pwmCommitEffect (g : Fin 40)
  /-- AUX_PERIOD_START (R240) -/
  | auxPeriodStart (j : Fin 8)
  /-- TRIP_LAND_CHANGE (R255) -/
  | tripLandChange (i : Fin 36) (lvl : Bool) (t32 : Nat)
  /-- TRIP_DETECT (R255) -/
  | tripDetect (i : Fin 36)
  /-- ATC_WINDOW_OPEN (R257) -/
  | atcWindowOpen (k : Fin 16)
  /-- ATC_WINDOW_CLOSE (R258) -/
  | atcWindowClose (k : Fin 16)
  /-- ATC_SETTINGS_EFFECT (R257) -/
  | atcSettingsEffect (k : Fin 16)
  /-- PWM_TCLR (R260) -/
  | pwmTclr (n : Fin 32)
  /-- PWM_CLRFLAGS (R267) -/
  | pwmClrflags (n : Fin 32)
  /-- PWM_CLRCNT (R267) -/
  | pwmClrcnt (n : Fin 32)
  /-- AUX_CLRFLAGS (R268) -/
  | auxClrflags (j : Fin 8)
  /-- AUX_CLRCNT (R268) -/
  | auxClrcnt (j : Fin 8)
  /-- GTRIP_TCLR (R263) -/
  | gtripTclr (k : Fin 4)
  /-- GTRIP_CLRCNT (R269) -/
  | gtripClrcnt (k : Fin 4)
  /-- LP_MEMORY_WRITE (R271) -/
  | lpMemoryWrite (k : Fin 16) (i : Fin 65536) (v : Word)
  /-- LP_VERIFYA (R298) -/
  | lpVerifya (k : Fin 16)
  /-- LP_VERIFYB (R298) -/
  | lpVerifyb (k : Fin 16)
  /-- VERIFY_DONE (R298) -/
  | verifyDone (k : Fin 16)
  /-- LP_CLRCNT (R304) -/
  | lpClrcnt (k : Fin 16)
  /-- LP_INTERRUPT (R293) -/
  | lpInterrupt (k : Fin 16)
  /-- LP_FAULT (R296) -/
  | lpFault (k : Fin 16) (causes : BitVec 6)
  /-- MAP_TREF_WRITE (R291) -/
  | mapTrefWrite (a : Fin 80) (v : Word)
  /-- MAP_IQREF_WRITE (R291) -/
  | mapIqrefWrite (a : Fin 80) (v : Word)
  /-- MAP_ASTAMP_WRITE (R291) -/
  | mapAstampWrite (a : Fin 80) (v : Word)
  /-- MAP_CMP4_WRITE (R290) -/
  | mapCmp4Write (a : Fin 80) (v : Word)
  /-- MAP_CMPC_WRITE (R290) -/
  | mapCmpcWrite (a : Fin 80) (v : Word)
  /-- MAP_EVENT_WRITE (R290) -/
  | mapEventWrite (a : Fin 80) (v : Word)
  /-- MOLPIN_NOP (R301) -/
  | molpinNop (k : Fin 16)
  /-- B (R288) -/
  | b (k : Fin 16) (cc : BitVec 4) (t : BitVec 18)
  /-- CALL (R288) -/
  | call (k : Fin 16) (t : BitVec 18)
  /-- RET (R288) -/
  | ret (k : Fin 16)
  /-- REP (R284) -/
  | rep (k : Fin 16) (c : LpCount) (last : BitVec 18)
  /-- END (R289) -/
  | end_ (k : Fin 16)
  /-- RTI (R293) -/
  | rti (k : Fin 16)
  /-- ADD (R301) -/
  | add (k : Fin 16) (d : Fin 16) (src : AluSrc)
  /-- SUB (R301) -/
  | sub (k : Fin 16) (d : Fin 16) (src : AluSrc)
  /-- AND (R301) -/
  | and_ (k : Fin 16) (d : Fin 16) (src : AluSrc)
  /-- OR (R301) -/
  | or_ (k : Fin 16) (d : Fin 16) (src : AluSrc)
  /-- XOR (R301) -/
  | xor_ (k : Fin 16) (d : Fin 16) (src : AluSrc)
  /-- ASR (R301) -/
  | asr (k : Fin 16) (d : Fin 16) (src : AluSrc)
  /-- LSR (R301) -/
  | lsr (k : Fin 16) (d : Fin 16) (src : AluSrc)
  /-- LSL (R301) -/
  | lsl (k : Fin 16) (d : Fin 16) (src : AluSrc)
  /-- ADDS (R301) -/
  | adds (k : Fin 16) (d x y : Fin 16) (mv : Move)
  /-- SUBS (R301) -/
  | subs (k : Fin 16) (d x y : Fin 16) (mv : Move)
  /-- MIN (R301) -/
  | min (k : Fin 16) (d : Fin 16) (src : AluSrc)
  /-- MAX (R301) -/
  | max (k : Fin 16) (d : Fin 16) (src : AluSrc)
  /-- ABS (R301) -/
  | abs (k : Fin 16) (d : Fin 16) (src : AluSrc)
  /-- NEG (R301) -/
  | neg (k : Fin 16) (d : Fin 16) (src : AluSrc)
  /-- CMP (R301) -/
  | cmp (k : Fin 16) (d : Fin 16) (src : AluSrc)
  /-- MOV (R301) -/
  | mov (k : Fin 16) (d : Fin 16) (src : AluSrc)
  /-- LD (R274) -/
  | ld (k : Fin 16) (d : Fin 16) (x : Fin 8) (m : AMode)
  /-- ST (R274) -/
  | st (k : Fin 16) (d : Fin 16) (x : Fin 8) (m : AMode)
  /-- LD64 (R274) -/
  | ld64 (k : Fin 16) (p : Fin 8) (x : Fin 8) (m : AMode)
  /-- ST64 (R274) -/
  | st64 (k : Fin 16) (p : Fin 8) (x : Fin 8) (m : AMode)
  /-- MOVP (R301) -/
  | movp (k : Fin 16) (m1 m2 : Move2)
  /-- MPY (R277) -/
  | mpy (k : Fin 16) (am : Fin 4) (x y : Fin 16) (m1 m2 : Move2)
  /-- MAC (R277) -/
  | mac (k : Fin 16) (am : Fin 4) (x y : Fin 16) (m1 m2 : Move2)
  /-- MSU (R277) -/
  | msu (k : Fin 16) (am : Fin 4) (x y : Fin 16) (m1 m2 : Move2)
  /-- MPYSU (R277) -/
  | mpysu (k : Fin 16) (am : Fin 4) (x y : Fin 16) (m1 m2 : Move2)
  /-- CMAC (R277) -/
  | cmac (k : Fin 16) (pair : Bool) (p q : Fin 8) (m1 m2 : Move2)
  /-- CMACC (R277) -/
  | cmacc (k : Fin 16) (pair : Bool) (p q : Fin 8) (m1 m2 : Move2)
  /-- CLRA (R301) -/
  | clra (k : Fin 16) (am : Fin 4) (mv : Move)
  /-- SHA (R301) -/
  | sha (k : Fin 16) (am : Fin 4) (left : Bool) (sh : Fin 64) (mv : Move)
  /-- ADDA (R301) -/
  | adda (k : Fin 16) (am : Fin 4) (p : Fin 8) (mv : Move)
  /-- MOVR (R279) -/
  | movr (k : Fin 16) (d : Fin 16) (am : Fin 4) (sh : LpCount) (mv : Move)
  /-- MOVR64 (R279) -/
  | movr64 (k : Fin 16) (p : Fin 8) (am : Fin 4) (sh : LpCount) (mv : Move)
  /-- MOVA (R301) -/
  | mova (k : Fin 16) (d : Fin 16) (am : Fin 4) (part : AccPart) (mv : Move)
  /-- MOVTA (R301) -/
  | movta (k : Fin 16) (am : Fin 4) (d : Fin 16) (part : AccPart) (mv : Move)
  /-- EXP (R281) -/
  | exp (k : Fin 16) (d : Fin 16) (src : ExpSrc) (mv : Move)
  /-- NORM (R281) -/
  | norm (k : Fin 16) (am : Fin 4) (d : Fin 16) (mv : Move)
  /-- CMULR (R280) -/
  | cmulr (k : Fin 16) (d x y : Fin 16) (sh : Fin 64)
  /-- SINCOS (R282) -/
  | sincos (k : Fin 16) (p : Fin 8) (x : Fin 16)
  /-- DIVS (R282) -/
  | divs (k : Fin 16) (d x y : Fin 16) (f : Fin 32)
  /-- SETX (R301) -/
  | setx (k : Fin 16) (kind i : Fin 8) (src : SetxSrc)
  /-- TBR (R301) -/
  | tbr (k : Fin 16) (p : Fin 8)
  /-- MTSR (R273) -/
  | mtsr (k : Fin 16) (d : Fin 16)
  /-- MFSR (R273) -/
  | mfsr (k : Fin 16) (d : Fin 16)
  /-- CLRF (R273) -/
  | clrf (k : Fin 16)
  /-- LDI32 (R301) -/
  | ldi32 (k : Fin 16) (d : Fin 16) (v : Word)
  /-- BL (R301) -/
  | bl (k : Fin 16) (t : Word)
  /-- SWITCH_FRAME_RECEIVE (R308) -/
  | switchFrameReceive (p : Fin 4) (e : Fin 8) (f : EthFrame)
  /-- PORT_FRAME_TRANSMIT (R312) -/
  | portFrameTransmit (p : Fin 3) (c e : Fin 8) (slot : Fin 48)
  /-- GCL_CYCLE_START (R311) -/
  | gclCycleStart (p : Fin 3)
  /-- GATE_INTERVAL_END (R311) -/
  | gateIntervalEnd (p : Fin 3)
  /-- GCL_CHG (R313) -/
  | gclChg (p : Fin 3)
  /-- GCL_CHANGE_EFFECT (R313) -/
  | gclChangeEffect (p : Fin 3)
  /-- FRER_RESET (R314) -/
  | frerReset (i : Fin 64)
  /-- LINK_UP (R324) -/
  | linkUp (p : Fin 3) (speed : Fin 4) (master : Bool)
  /-- NT_TRIM_WRITE (R319) -/
  | ntTrimWrite (v : Word)
  /-- STEPGO (R320) -/
  | stepgo
  /-- SETGO (R320) -/
  | setgo
  /-- NT_NS_READ (R335) -/
  | ntNsRead (r : Fin 10)
  /-- LEAP_SECOND (R322) -/
  | leapSecond
  /-- PTP_SERVO_UPDATE (R329) -/
  | ptpServoUpdate (p : Fin 3) (offset delay : Word64) (seq : BitVec 16) (utc : Option (BitVec 16))
  /-- PTP_HOLDOVER (R329) -/
  | ptpHoldover
  /-- SERVO_TIMEOUT (R329) -/
  | servoTimeout
  /-- PPS_OUT_EDGE (R330) -/
  | ppsOutEdge
  /-- PPS_OUT_END (R330) -/
  | ppsOutEnd
  /-- PPS_IN_EDGE (R331) -/
  | ppsInEdge (e : Fin 8)
  /-- RAMAUX_TRANSMIT_SLOT (R348) -/
  | ramauxTransmitSlot
  /-- CYCLIC_FRAME_RECEIVE (R353) -/
  | cyclicFrameReceive (f : List Byte)
  /-- LINE_SHAFT_COAST (R133) -/
  | lineShaftCoast (k : Fin 16)
  /-- LINE_SHAFT_LOST (R134) -/
  | lineShaftLost (k : Fin 16)
  /-- RAMAUX_ENABLE (R351) -/
  | ramauxEnable (v : Word)
  /-- RM_NEXT_ARM (R358) -/
  | rmNextArm
  /-- EPOCH_CHANGE (R358) -/
  | epochChange
  /-- GRACE_END (R357) -/
  | graceEnd
  /-- RM_CLRCNT (R375) -/
  | rmClrcnt
  /-- ACYCLIC_REQUEST_RECEIVE (R361) -/
  | acyclicRequestReceive (peer : Fin 1024) (sec : Bool) (body : List Byte)
  /-- ACYCLIC_SEGMENT_TIMEOUT (R361) -/
  | acyclicSegmentTimeout
  /-- ACYCLIC_RESPONSE_RECEIVE (R360) -/
  | acyclicResponseReceive (node : Fin 1024) (body : List Byte)
  /-- BELL_NOTICE (R364) -/
  | bellNotice
  /-- BELL_REPORT (R365) -/
  | bellReport (origin : Fin 1024)
  /-- BELL_RECEIVE (R366) -/
  | bellReceive (p : Fin 4) (b : Bell)
  /-- BELL_ENTRY_AGEOUT (R366) -/
  | bellEntryAgeout (i : Fin 64)
  /-- BELL_RECORD (R368) -/
  | bellRecord (origin : Fin 1024)
  /-- SAFE_WDT_EXPIRE (R370) -/
  | safeWdtExpire (c : Fin 32)
  /-- ACT_OUT_ASSERT (R379) -/
  | actOutAssert
  /-- ACT_CONFLICT (R380) -/
  | actConflict
  /-- KEEPER_EXPIRY (R381) -/
  | keeperExpiry
  /-- ACTIVE_RELEASE (R390) -/
  | activeRelease
  /-- HEARTBEAT_SEND (R383) -/
  | heartbeatSend
  /-- TACK_FRAME_RECEIVE (R382) -/
  | tackFrameReceive (crcOk : Bool) (f : TackFrame)
  /-- TACK_LOST (R389) -/
  | tackLost
  /-- HANDOVER_GO (R393) -/
  | handoverGo
  /-- HANDOVER_RELEASE (R393) -/
  | handoverRelease
  /-- TW_CLRFLAGS (R399) -/
  | twClrflags
  /-- TW_CLRCNT (R399) -/
  | twClrcnt
  /-- FIRMWARE_RESTART_DONE (R395) -/
  | firmwareRestartDone (ok : Bool) (svn : Word)
  /-- SAFETY_CYCLE (R402) -/
  | safetyCycle (b : Bool) (pos : List (Fin 40 × BitVec 40)) (bad : List (Fin 40))
  /-- SAFE_INPUT_ACCEPT (R417) -/
  | safeInputAccept (i : Fin 8) (wireB lvl : Bool)
  /-- SAFE_INPUT_DISCREPANCY (R418) -/
  | safeInputDiscrepancy (i : Fin 8)
  /-- OFF_PULSE (R421) -/
  | offPulse (b : Bool) (o : Fin 12) (good : Bool)
  /-- SAFE_RESET_EDGE (R422) -/
  | safeResetEdge (hiA hiB skew : Word)
  /-- SAFE_RESET_LONG_HIGH (R422) -/
  | safeResetLongHigh
  /-- SWITCH_BANK_SAMPLE (R427) -/
  | switchBankSample (a b : BitVec 8)
  /-- SBC_DELAY_END (R414) -/
  | sbcDelayEnd (n : Fin 32)
  /-- BRAKE_TEST_END (R415) -/
  | brakeTestEnd (n : Fin 32) (iq : Word)
  /-- BRAKE_TEST_OVERDUE (R416) -/
  | brakeTestOverdue (k : Fin 8)
  /-- BRAKE_TEST_LOCK (R416) -/
  | brakeTestLock (k : Fin 8)
  /-- DIO_INPUT_ACCEPT (R439) -/
  | dioInputAccept (c : Fin 32) (lvl : Bool) (back : BitVec 17)
  /-- DIO_OUT_WRITE (R441) -/
  | dioOutWrite (v : Word)
  /-- DIO_OSET (R441) -/
  | dioOset (v : Word)
  /-- DIO_OCLR (R441) -/
  | dioOclr (v : Word)
  /-- OUTPUT_SHORT_CIRCUIT (R442) -/
  | outputShortCircuit (c : Fin 32)
  /-- OUTPUT_OVERTEMP (R442) -/
  | outputOvertemp (c : Fin 32) (cool : Word64)
  /-- OUTPUT_RETRY (R442) -/
  | outputRetry (c : Fin 32)
  /-- READBACK_ERROR (R443) -/
  | readbackError (c : Fin 32) (raw : Bool)
  /-- FIELD_SUPPLY_SAMPLE (R444) -/
  | fieldSupplySample (k : Fin 4) (v : BitVec 16) (raw : Byte)
  /-- FG_REARM (R446) -/
  | fgRearm (k : Fin 4)
  /-- FG_CLRFLAGS (R453) -/
  | fgClrflags (k : Fin 4)
  /-- FG_CLRCNT (R452) -/
  | fgClrcnt (k : Fin 4)
  /-- ANALOGUE_SAMPLE (R448) -/
  | analogueSample (codes : Vector (BitVec 16) 8)
  /-- SHUNT_OPEN (R449) -/
  | shuntOpen (i : Fin 8)
  /-- SHUNT_RECONNECT (R449) -/
  | shuntReconnect (i : Fin 8)
  /-- CAN_FRAME_RECEIVE (R457) -/
  | canFrameReceive (n : Fin 4) (f : CanFrame) (back : BitVec 24)
  /-- CAN_TXGO (R461) -/
  | canTxgo (n : Fin 4) (m : Word64)
  /-- CAN_TXWD (R461) -/
  | canTxwd (n : Fin 4) (m : Word64)
  /-- CAN_TX_DONE (R461) -/
  | canTxDone (n : Fin 4) (back : BitVec 24) (d : Option (BitVec 7))
  /-- CAN_TX_ERROR (R462) -/
  | canTxError (n : Fin 4) (back : BitVec 24) (code : Fin 7) (dataPhase late exc : Bool) (more : Fin 32)
  /-- CAN_RECOVER_BIT (R463) -/
  | canRecoverBit (n : Fin 4)
  /-- BUS_OFF_RECOVERY_DONE (R463) -/
  | busOffRecoveryDone (n : Fin 4)
  /-- CAN_FRESH_CLEAR (R458) -/
  | canFreshClear (n : Fin 4) (k : Fin 64)
  /-- FIFO0_RELEASE (R459) -/
  | fifo0Release (n : Fin 4)
  /-- FIFO1_RELEASE (R459) -/
  | fifo1Release (n : Fin 4)
  /-- CAN_HALT_EFFECT (R466) -/
  | canHaltEffect (n : Fin 4)
  /-- RING_ENABLE (R481) -/
  | ringEnable (n : Fin 128) (v : Word)
  /-- RING_DISABLE (R481) -/
  | ringDisable (n : Fin 128) (v : Word)
  /-- RING_DOORBELL (R480) -/
  | ringDoorbell (n : Fin 128) (v : Word)
  /-- RING_FETCH (R483) -/
  | ringFetch (n : Fin 128) (bus : List Byte) (fault : Bool)
  /-- COMMAND_COMPLETION (R490) -/
  | commandCompletion (fault : Bool)
  /-- COALESCE_TIMER (R485) -/
  | coalesceTimer (n : Fin 128)
  /-- FUNCTION_LEVEL_RESET (R476) -/
  | functionLevelReset
  /-- PCIE_LINK_DOWN (R476) -/
  | pcieLinkDown
  /-- HQ_READ (R477) -/
  | hqRead (a : Word) (k : Fin 65536)
  /-- HQ_WRITE (R477) -/
  | hqWrite (a : Word) (ws : List Word)
  /-- HQ_STATUS (R477) -/
  | hqStatus
  /-- HOST_KICK (R491) -/
  | hostKick
  /-- HOST_WATCHDOG_EXPIRE (R491) -/
  | hostWatchdogExpire
  /-- HOST_CLRCNT (R502) -/
  | hostClrcnt
  /-- STREAM_POINT_MOVE (R497) -/
  | streamPointMove (n : Fin 128) (e : List Byte) (fault : Bool)
  /-- DELIVERY_RECORD_WRITE (R498) -/
  | deliveryRecordWrite (n : Fin 128) (fault : Bool)
  /-- NOP (R512) -/
  | nop (c : Cmd)
  /-- IDENTIFY (R512) -/
  | identify (c : Cmd)
  /-- ABORT (R494) -/
  | abort (c : Cmd)
  /-- SET_STATE (R607) -/
  | setState (c : Cmd)
  /-- EXPERT (R27) -/
  | expert (c : Cmd)
  /-- SET_HAMODE (R496) -/
  | setHamode (c : Cmd)
  /-- TOKEN (R62) -/
  | token (c : Cmd)
  /-- SET_CLOCK (R20) -/
  | setClock (c : Cmd)
  /-- ASSIGN (R24) -/
  | assign (c : Cmd)
  /-- READ_REG (R512) -/
  | readReg (c : Cmd)
  /-- AXIS_CONFIG (R506) -/
  | axisConfig (c : Cmd)
  /-- ENABLE (R226) -/
  | enable (c : Cmd)
  /-- TRIP_CLEAR (R260) -/
  | tripClear (c : Cmd)
  /-- HOLD_TORQUE (R415) -/
  | holdTorque (c : Cmd)
  /-- HOLD_TORQUE_END (R512) -/
  | holdTorqueEnd (n : Fin 32)
  /-- AUX_CONFIG (R506) -/
  | auxConfig (c : Cmd)
  /-- ATC_CONFIG (R257) -/
  | atcConfig (c : Cmd)
  /-- SET_SOURCE (R121) -/
  | setSource (c : Cmd)
  /-- MOVE_PTP (R117) -/
  | movePtp (c : Cmd)
  /-- MOVE_LINEAR (R117) -/
  | moveLinear (c : Cmd)
  /-- MOVE_CIRC (R117) -/
  | moveCirc (c : Cmd)
  /-- MOVE_SPLINE (R117) -/
  | moveSpline (c : Cmd)
  /-- MOVE_PVT (R117) -/
  | movePvt (c : Cmd)
  /-- STOP (R119) -/
  | stop (c : Cmd)
  /-- STOP_BOUNDARY (R119) -/
  | stopBoundary
  /-- PHASE_MOVE (R123) -/
  | phaseMove (c : Cmd)
  /-- GROUP_CONFIG (R506) -/
  | groupConfig (c : Cmd)
  /-- GEAR (R121) -/
  | gear (c : Cmd)
  /-- CAM_LOAD (R126) -/
  | camLoad (c : Cmd)
  /-- CAM_ENGAGE (R128) -/
  | camEngage (c : Cmd)
  /-- CAM_SWITCH (R129) -/
  | camSwitch (c : Cmd)
  /-- CAM_ARM (R143) -/
  | camArm (n : Fin 80)
  /-- LS_CONFIG (R506) -/
  | lsConfig (c : Cmd)
  /-- VX_CONFIG (R506) -/
  | vxConfig (c : Cmd)
  /-- LOOP_PARAM (R195) -/
  | loopParam (c : Cmd)
  /-- LOOP_FB (R171) -/
  | loopFb (c : Cmd)
  /-- CLE_BANK (R227) -/
  | cleBank (c : Cmd)
  /-- CLE_CONFIG (R228) -/
  | cleConfig (c : Cmd)
  /-- TABLE_LOAD (R191) -/
  | tableLoad (c : Cmd)
  /-- TABLE_READ (R514) -/
  | tableRead (c : Cmd)
  /-- INJECT (R194) -/
  | inject (c : Cmd)
  /-- LAWSEL (R300) -/
  | lawsel (c : Cmd)
  /-- PORT_CONFIG (R506) -/
  | portConfig (c : Cmd)
  /-- PORT_CMD (R515) -/
  | portCmd (c : Cmd)
  /-- LATCH_CONFIG (R506) -/
  | latchConfig (c : Cmd)
  /-- LATCH_READ (R515) -/
  | latchRead (c : Cmd)
  /-- COMPARE_LOAD (R515) -/
  | compareLoad (c : Cmd)
  /-- COMPARE_ARM (R153) -/
  | compareArm (c : Cmd)
  /-- CO_CONFIG (R506) -/
  | coConfig (c : Cmd)
  /-- REG_CONFIG (R506) -/
  | regConfig (c : Cmd)
  /-- REG_TARGET (R164) -/
  | regTarget (c : Cmd)
  /-- SWITCH_CONFIG (R313) -/
  | switchConfig (c : Cmd)
  /-- PTP_CONFIG (R329) -/
  | ptpConfig (c : Cmd)
  /-- PTP_CORRECT (R329) -/
  | ptpCorrect (c : Cmd)
  /-- RAMAUX_TABLE (R376) -/
  | ramauxTable (c : Cmd)
  /-- EPOCH_ARM (R358) -/
  | epochArm (c : Cmd)
  /-- RAMAUX_CONFIG (R351) -/
  | ramauxConfig (c : Cmd)
  /-- ACYCLIC (R516) -/
  | acyclic (c : Cmd)
  /-- CAN_CONFIG (R516) -/
  | canConfig (c : Cmd)
  /-- CAN_SEND (R516) -/
  | canSend (c : Cmd)
  /-- CAN_READ (R516) -/
  | canRead (c : Cmd)
  /-- CAN_RECOVER (R463) -/
  | canRecover (c : Cmd)
  /-- IO_CONFIG (R506) -/
  | ioConfig (c : Cmd)
  /-- IO_WRITE (R517) -/
  | ioWrite (c : Cmd)
  /-- IO_READ (R517) -/
  | ioRead (c : Cmd)
  /-- GROUP_REARM (R446) -/
  | groupRearm (c : Cmd)
  /-- SAFE_STATUS (R517) -/
  | safeStatus (c : Cmd)
  /-- CAPTURE_CONFIG (R517) -/
  | captureConfig (c : Cmd)
  /-- CAPTURE_ARM (R552) -/
  | captureArm (c : Cmd)
  /-- CAPTURE_READ (R517) -/
  | captureRead (c : Cmd)
  /-- LOG_READ (R576) -/
  | logRead (c : Cmd)
  /-- LOG_FREEZE (R577) -/
  | logFreeze (c : Cmd)
  /-- LOG_CLEAR (R579) -/
  | logClear (c : Cmd)
  /-- KEY_LOAD (R589) -/
  | keyLoad (c : Cmd)
  /-- KEY_ERASE (R590) -/
  | keyErase (c : Cmd)
  /-- TAMPER_POLICY (R590) -/
  | tamperPolicy (c : Cmd)
  /-- DEBUG_CHALLENGE (R595) -/
  | debugChallenge (c : Cmd)
  /-- CHALLENGE_EXPIRY (R595) -/
  | challengeExpiry
  /-- DEBUG_OPEN (R595) -/
  | debugOpen (c : Cmd)
  /-- TWIN_CONFIG (R506) -/
  | twinConfig (c : Cmd)
  /-- TWIN_START (R379) -/
  | twinStart (c : Cmd)
  /-- JOIN (R388) -/
  | join (c : Cmd)
  /-- HANDOVER (R393) -/
  | handover (c : Cmd)
  /-- FW_WRITE (R518) -/
  | fwWrite (c : Cmd)
  /-- FW_VERIFY (R592) -/
  | fwVerify (c : Cmd)
  /-- FW_RESTART (R395) -/
  | fwRestart (c : Cmd)
  /-- LP_IMAGE (R592) -/
  | lpImage (c : Cmd)
  /-- SAFETY_SLOT (R426) -/
  | safetySlot (c : Cmd)
  /-- NX2416_NOP (R520) -/
  | nx2416Nop (c : Cmd)
  /-- STATUS (R520) -/
  | status (c : Cmd)
  /-- GO_RUN (R520) -/
  | goRun (c : Cmd)
  /-- GO_STOP (R520) -/
  | goStop (c : Cmd)
  /-- GO_CONFIG (R520) -/
  | goConfig (c : Cmd)
  /-- AXIS_ON_OFF (R520) -/
  | axisOnOff (c : Cmd)
  /-- FAULT_RESET (R520) -/
  | faultReset (c : Cmd)
  /-- MOVE_ABS (R520) -/
  | moveAbs (c : Cmd)
  /-- MOVE_STOP (R520) -/
  | moveStop (c : Cmd)
  /-- GEAR_ON (R520) -/
  | gearOn (c : Cmd)
  /-- GEAR_OFF (R520) -/
  | gearOff (c : Cmd)
  /-- OUT_WRITE (R520) -/
  | outWrite (c : Cmd)
  /-- IN_READ (R520) -/
  | inRead (c : Cmd)
  /-- WORK_ITEM_POST (R525) -/
  | workItemPost (src : Fin 10) (flow : BitVec 16) (ctl handler : Byte) (a0 : Word) (a1 a2 : Word64)
  /-- WORK_ITEM_DISPATCH (R526) -/
  | workItemDispatch
  /-- AFFINITY_WINDOW_END (R527) -/
  | affinityWindowEnd
  /-- WORK_ITEM_DONE (R528) -/
  | workItemDone (c : Fin 8)
  /-- POST (R532) -/
  | post (a b : Fin 29)
  /-- POP (R533) -/
  | pop (b a : Fin 29)
  /-- WAIT (R535) -/
  | wait (a : Fin 29)
  /-- WAIT_RETURN (R535) -/
  | waitReturn (a : Fin 29)
  /-- CROSSING_DETECTED (R536) -/
  | crossingDetected (a b : Fin 29)
  /-- LOCK_ACQUIRE (R539) -/
  | lockAcquire (a : Contest) (n : Fin 64)
  /-- LOCK_RELEASE (R540) -/
  | lockRelease (a : Fin 29) (n : Fin 64)
  /-- CU_ARM (R552) -/
  | cuArm (u : Fin 8)
  /-- CU_DISARM (R559) -/
  | cuDisarm (u : Fin 8)
  /-- CU_FIRE (R554) -/
  | cuFire (u : Fin 8)
  /-- CAPTURE_SAMPLE (R549) -/
  | captureSample (u : Fin 8) (safeReset ppsIn : Bool)
  /-- FIRE_RECORD_WRITE (R557) -/
  | fireRecordWrite
  /-- FIRE_RECEIVE (R558) -/
  | fireReceive (via : FireVia)
  /-- HOLDOFF_END (R559) -/
  | holdoffEnd (u : Fin 8)
  /-- RECORD_APPEND (R566) -/
  | recordAppend
  /-- RECORD_PROGRAM (R573) -/
  | recordProgram (x : ProgramEnd)
  /-- MERGE_WINDOW_END (R572) -/
  | mergeWindowEnd
  /-- FREEZE_TIMEOUT (R577) -/
  | freezeTimeout
  /-- LOG_CURSOR_WRITE (R575) -/
  | logCursorWrite (q : Word64)
  /-- LOG_NEXT (R575) -/
  | logNext
  /-- LOG_LOAD_DONE (R575) -/
  | logLoadDone
  /-- TAMPER_ALARM (R594) -/
  | tamperAlarm (sensors : BitVec 5) (utc : Word64)
  /-- SEC_POLICY_WRITE (R594) -/
  | secPolicyWrite (v : Word)
  /-- SEC_CLRCNT (R600) -/
  | secClrcnt
  /-- SVN_ADVANCE (R592) -/
  | svnAdvance
  /-- UNCORRECTABLE_ERROR (R596) -/
  | uncorrectableError (m : MemPart)
  /-- POWER_LOSS (R21) -/
  | powerLoss (vbat : Bool)
  /-- SAFETY_SUPPLY_LOSS (R409) -/
  | safetySupplyLoss
  /-- SAFETY_CHANNEL_START (R434) -/
  | safetyChannelStart (b good : Bool)
  /-- STREAM_RETURN (R208) -/
  | streamReturn (j : Fin 96)
  /-- PWM_EDGE (R244) -/
  | pwmEdge (g : Fin 40) (i : Fin 4)
  /-- PORT_LINK_DOWN (R337) -/
  | portLinkDown (p : Fin 3)
  /-- PCIE_LINK_UP (R603) -/
  | pcieLinkUp (speed : Fin 3) (two : Bool)
  /-- PERST_ASSERT (R601) -/
  | perstAssert
  /-- TACK_LANE_DOWN (R383) -/
  | tackLaneDown (k : Fin 2)
  /-- TACK_LANE_UP (R383) -/
  | tackLaneUp (k : Fin 2)
  /-- CAN_RX_ERROR (R462) -/
  | canRxError (n : Fin 4) (code : Fin 7) (dataPhase : Bool) (more : Fin 32)
  /-- ECC_CORRECTED (R596) -/
  | eccCorrected (m : MemPart)
  deriving DecidableEq, Repr

end Sys2Proof
end

