-- ==== Sys2Proof/Decode.lean ====
section
/-! DEFINITION. The decoding of table words.  spec/opcode_table.json gives no row any bits: the commands of this block are
writes, operations and events of its interfaces, not words of a program. So no word spells a command. -/

namespace Sys2Proof

/-- The command that a word spells by the table's bits; the table gives none. -/
def decodeTableWord (_nbits _w : Nat) : Option Instr := none

end Sys2Proof
end

