-- ==== Sys2Proof/Config.lean ====
section
/-! DEFINITION. What the manual leaves open: constants without a body, of which nothing can be proved.  A free value
stands where the manual states that a value results but not which. -/

namespace Sys2Proof.Config

/-- A value the manual leaves open, one for each use: applied to the counter `State.freeCount`. -/
opaque freeWord : Nat → Word
/-- An open 64-bit value (a nonce, a random number). -/
opaque freeWord64 : Nat → Word64
/-- Whether a quotient that is not exact, and for which the manual states no rounding, is taken upwards: applied to the
numerator and the denominator. -/
opaque roundUp : Int → Int → Bool
/-- Sine and cosine of a U32 angle in Q1.30 are formed with an error of at most 2 LSB (R185, R282): which of the four
integers within 2 LSB results. -/
opaque sinPick : Nat → Fin 4
opaque cosPick : Nat → Fin 4
/-- Whether the phase advance of run `k` of a logarithmic chirp, where it is not a whole number of 2^−32 turns, is taken upwards: R193
states no rounding.  Start, end, k, duration. -/
opaque logChirpUp : Nat → Nat → Nat → Nat → Bool
/-- A value that a reserved or unlisted choice leaves open, of the operands. -/
opaque openResult : Nat → Word → Word → Word
/-- The delay in 1/32 ticks from a trip's detection to the off-state of the gates: at most 4 ticks (R255). -/
opaque cutDelay : Nat → Fin 129
/-- Whether a drive's safety state is unexpected under the SDATA sent to it (R430): the manual lists no states. -/
opaque driveOdd : Nat → Nat → Bool
/-- The length in bytes of Ohmalmac's standard law image, which the manual does not give (R297). -/
opaque stdLen : Fin 16321
/-- The condition codes of a Molpin branch, whose coding the manual does not give: code and flags V, C, N, Z (bits 3 to 0). -/
opaque condTaken : Nat → Nat → Bool
/-- C and V after a Molpin ALU instruction for which the manual does not state them: operation and operands. -/
opaque aluC : Nat → Word → Word → Bool
opaque aluV : Nat → Word → Word → Bool
/-- Whether a Molpin immediate (by kind) is sign-extended. -/
opaque immSigned : Nat → Bool
/-- A left shift of an accumulator that loses bits: value and distance. -/
opaque shaOpen : Int → Nat → Int
/-- Bytes of host memory that the host never showed the module. -/
opaque hostByte : Nat → Byte
/-- The module's own MAC address. -/
opaque macAddress : BitVec 48
/-- Whether an ECDSA P-256 signature verifies: public key, signed bytes, signature. -/
opaque sigOk : List Byte → List Byte → List Byte → Bool
/-- The SVN in the trailer of a firmware bundle, from its listed bytes; none where the key hash or the signature fails (R592).
Where the trailer lies in a bundle is not stated. -/
opaque bundleSvn : List (Nat × Byte) → Option Nat
/-- SHA-256. -/
opaque sha256 : List Byte → List Byte
/-- The key that a wrapped key unwraps to under an ephemeral public key and the device key (R588); none where the integrity
check fails. -/
opaque unwrapKey : List Byte → List Byte → Option (List Byte)
/-- VBAT in mV as it is measured at a tick (R600): no row carries it. -/
opaque vbat : Nat → Nat
/-- The fuse fields FWKH and DBGKH, and the device public key (R585, R586). -/
opaque fwkh : List Byte
opaque dbgkh : List Byte
opaque devPub : List Byte

end Sys2Proof.Config
end

