-- ==== Sys2Proof/Machine/Arith.lean ====
section
/-! DEFINITION. The fixed-point arithmetic of the manual (R9, R10): exact integers, narrowed explicitly at the end. -/

namespace Sys2Proof.Machine

/-- Saturate to a signed number of `n` bits. -/
def satS (n : Nat) (x : Int) : Int := max (-(2 ^ (n - 1))) (min (2 ^ (n - 1) - 1) x)
/-- Saturate to S32 (R10). -/
def sat32 (x : Int) : Int := satS 32 x
/-- Saturate to an unsigned number of `n` bits. -/
def satU (n : Nat) (x : Nat) : Nat := min (2 ^ n - 1) x
/-- Limit to a closed range. -/
def clampI (lo hi x : Int) : Int := max lo (min hi x)
/-- Quotient of a positive denominator, rounded to nearest with ties to even ("convergently", R10). -/
def divConv (num : Int) (den : Int) : Int :=
  if den ≤ 0 then 0 else
    let q := num / den
    let r := num % den
    if 2 * r < den then q else if 2 * r > den then q + 1 else if q % 2 = 0 then q else q + 1
/-- Convergent right shift. -/
def shrConv (x : Int) (sh : Nat) : Int := divConv x (2 ^ sh)
/-- A loop coefficient applied to a signal (R10): 64-bit product, convergent right shift, saturation to S32. -/
def coef (m : Int) (sh : Nat) (x : Int) : Int := sat32 (shrConv (m * x) sh)
/-- A quotient for which the manual states no rounding: exact where it is, else one of the two neighbours, which one is
left open (`Config.roundUp`). -/
def divOpen (num den : Int) : Int :=
  if den = 0 then 0
  else if num % den = 0 then num / den
  else if Config.roundUp num den then num / den + 1 else num / den
/-- Two's complement wrap to `n` bits, as a signed number. -/
def wrapS (n : Nat) (x : Int) : Int := (BitVec.ofInt n x).toInt
/-- The sign of a number. -/
def sgn (x : Int) : Int := if x < 0 then -1 else if x = 0 then 0 else 1
/-- |x|. -/
def absI (x : Int) : Int := if x < 0 then -x else x
/-- x reduced into [−m/2, m/2). -/
def centre (x m : Int) : Int := if m ≤ 0 then x else (x + m / 2) % m - m / 2
/-- Bit `i` of a number. -/
def nbit (v i : Nat) : Bool := v / 2 ^ i % 2 == 1
/-- Bits [hi:lo] of a number. -/
def nbits (v hi lo : Nat) : Nat := v / 2 ^ lo % 2 ^ (hi + 1 - lo)
/-- v with bit `i` set or cleared. -/
def nsetBit (v i : Nat) (b : Bool) : Nat := if nbit v i == b then v else if b then v + 2 ^ i else v - 2 ^ i
/-- A saturating count of `w` bits, one higher. -/
def incSat (w v : Nat) : Nat := if v + 1 < 2 ^ w then v + 1 else 2 ^ w - 1
/-- A list of numbers below `n` for which `p` holds. -/
def idxWhere (n : Nat) (p : Nat → Bool) : List Nat := (List.range n).filter p
/-- 0 or 1. -/
def b2n (b : Bool) : Nat := if b then 1 else 0
/-- Little-endian bytes of a number. -/
def leBytes : Nat → Nat → List Byte
  | 0, _ => []
  | k + 1, v => BitVec.ofNat 8 v :: leBytes k (v / 256)
/-- The number that little-endian bytes spell. -/
def leNat : List Byte → Nat
  | [] => 0
  | b :: bs => b.toNat + 256 * leNat bs
/-- Words of a byte list, little-endian, a short tail filled with zeros. -/
def wordsOf : List Byte → List Word
  | a :: b :: c :: d :: rest => BitVec.ofNat 32 (leNat [a, b, c, d]) :: wordsOf rest
  | [] => []
  | l => [BitVec.ofNat 32 (leNat l)]
/-- The bytes of a list of words. -/
def bytesOf (ws : List Word) : List Byte := ws.flatMap fun w => leBytes 4 w.toNat

/-- A module-time instant (2^−32 ns) in the coding of LSk_STAMP: rounded to the nearest nanosecond (R642). -/
def lsCode (mt : Nat) : Nat :=
  let ns := (divConv mt (2 ^ 32)).toNat
  ns / 1000000000 % 2 ^ 34 * 2 ^ 30 + ns % 1000000000
/-- The instant (2^−16 ns) that such a code names. -/
def lsDecode (c : Nat) : Nat := (c / 2 ^ 30 * 1000000000 + c % 2 ^ 30) * 65536

/-! ### Sine and cosine -/

/-- π in units of 2^−64. -/
def pi64 : Nat := 57952155664616982739
/-- The Taylor sum of a term `t` in 2^−64 with `x2 = x²` in 2^−64: each next term is −t·x²/(k(k+1)). -/
def taylor (x2 : Int) : Nat → Int → Int → Int → Int
  | 0, _, _, acc => acc
  | n + 1, k, t, acc => taylor x2 n (k + 2) (-(t * x2 / 2 ^ 64) / (k * (k + 1))) (acc + t)
/-- The floor of sin in Q1.30 of a U32 angle. -/
def sinFloor (a : Nat) : Int :=
  let th := a % 2 ^ 32
  let r := th % 2 ^ 30
  let x : Int := (r * pi64 / 2 ^ 31 : Nat)
  let x2 := x * x / 2 ^ 64
  let s := taylor x2 16 2 x 0
  let c := taylor x2 16 1 (2 ^ 64) 0
  let v := match th / 2 ^ 30 with
    | 0 => s
    | 1 => c
    | 2 => -s
    | _ => -c
  v / 2 ^ 34
/-- sin in Q1.30 with an error of at most 2 LSB: one of the four integers around the exact value. -/
def sinQ30 (a : Nat) : Int := sinFloor a - 1 + ((Config.sinPick (a % 2 ^ 32)).val : Int)
def cosQ30 (a : Nat) : Int := sinFloor (a + 2 ^ 30) - 1 + ((Config.cosPick (a % 2 ^ 32)).val : Int)

end Sys2Proof.Machine
end

