-- ==== Sys2Proof/Machine/RegMap.lean ====
section
/-! DEFINITION. The BAR0 register map of the module (R35), written from the register tables of the chapters:
for every register its block, offset, width, fields, access code (R6), reset value, range (R7, R641) and the condition
under which a host write is accepted.  `regReset` is what a word reads after reset, `BLK_REG` the offset of a register,
`BLK_REG_FIELD` the place of a field. -/

namespace Sys2Proof.Machine

/-- The place of a field inside its register: its lowest bit and its width. -/
structure Fld where
  lo : Nat
  w : Nat
  deriving DecidableEq, Repr

/-- The access codes of R6. -/
inductive Acc where
  | rw | ro | wo | w1c | w1s | rwc
  deriving DecidableEq, Repr

/-- When a host write of a field is accepted, beyond the class bit of R28. -/
inductive Cond where
  | always
  /-- in Morning only -/
  | morning
  /-- in Morning, and in Noon while the unit's EN reads 0 -/
  | morningOrOff
  /-- ignored while the commit token is pending (R61) -/
  | tokenIdle
  /-- ignored while the test-signal generator runs (R200) -/
  | notRunning
  /-- the inactive parameter bank only (R227) -/
  | bankIdle
  /-- a CAN configuration field: only while HALT = 1 (R466) -/
  | halted
  /-- a ring field: ignored while EN or ACTIVE, but for EN itself (R501) -/
  | ringIdle
  /-- only while the ring's EN is 0 -/
  | ringOff
  deriving DecidableEq, Repr

/-- The range of a field (R7); `mag` is a magnitude register (R641). -/
inductive Chk where
  | any
  | range (lo hi : Nat)
  | srange (lo hi : Int)
  /-- 0, or 64 to 1 048 575 -/
  | pwmPeriod
  /-- a negative limit: 0x8000_0000 to 0 -/
  | nonPositive
  | mag (least : Nat)
  /-- a range outside of which the field keeps its old value also where the register takes or leaves a write as a whole (R7) -/
  | own (lo hi : Nat)
  deriving DecidableEq, Repr

/-- A reset value: a number, or one that follows the instance. -/
inductive Rst where
  | val (v : Nat)
  /-- the instance number -/
  | inst
  /-- the instance number modulo 32 (EPn_SYNC) -/
  | inst32
  /-- FB1 of AXn_LFB: n for a local axis, 0x3E for a network axis (R198) -/
  | fb1
  | axA | axB | axC
  deriving DecidableEq, Repr

/-- The expert class of a block (R35). -/
inductive Cls where
  | any
  | never
  /-- the bit of SYS_EXPERT -/
  | bit (c : Nat)
  /-- both AXIS and LOOP (the token block) -/
  | token
  /-- MOTION for AXn, GEAR/CAM for VXj -/
  | motionOrGear
  deriving DecidableEq, Repr

/-- The blocks of the register map. -/
inductive Blk where
  | sys | tb | ctok | ep | ax | ls | grp | li | co | rc | axl | lpinj | sdclk | sd | cle | slot | bank | pwm | pwmx | atc | gtrip | lp | nt | port | gcl | fr | ms | rm | pub | sub | subst | bt | rsafe | tw | sf | sfax | dio | diog | fg | ai | can | canflt | canbuf | canf0 | canf1 | ring | host | sysx | msix | msixpba | cu | cug | log | sec
  deriving DecidableEq, Repr

structure FieldSpec where
  hi : Nat
  lo : Nat
  acc : Acc
  rst : Rst
  chk : Chk
  cond : Cond
  deriving DecidableEq, Repr

/-- A register of a block; an array register repeats `cnt` times at `stride`.  `whole`: a field outside its range leaves
the whole register unchanged. -/
structure RegSpec where
  off : Nat
  wide : Bool
  cnt : Nat
  stride : Nat
  whole : Bool
  fields : List FieldSpec
  deriving DecidableEq, Repr

structure BlockSpec where
  blk : Blk
  base : Nat
  dims : List (Nat × Nat)
  cls : Cls
  regs : List RegSpec
  deriving DecidableEq, Repr

/-- A field that is read-only and resets to 0. -/
def roF (hi lo : Nat) : FieldSpec := ⟨hi, lo, .ro, .val 0, .any, .always⟩
/-- A field without a range or a condition. -/
def plainF (hi lo : Nat) (a : Acc) (v : Nat) : FieldSpec := ⟨hi, lo, a, .val v, .any, .always⟩
/-- A single 32-bit register. -/
def r32 (off : Nat) (fs : List FieldSpec) : RegSpec := ⟨off, false, 1, 0, false, fs⟩
/-- A single 32-bit register left unchanged as a whole by a field outside its range. -/
def r32w (off : Nat) (fs : List FieldSpec) : RegSpec := ⟨off, false, 1, 0, true, fs⟩
/-- A single 64-bit register. -/
def r64 (off : Nat) (fs : List FieldSpec) : RegSpec := ⟨off, true, 1, 0, false, fs⟩

def regs_sys : List RegSpec :=
  [ r32 0x0 [plainF 31 16 .ro 25650, plainF 15 12 .ro 13, ⟨11, 8, .ro, .val 1, .any, .always⟩]
  , r32 0x10 [roF 7 7, plainF 6 6 .w1c 0, roF 5 4, plainF 3 3 .rw 0, ⟨1, 0, .rw, .val 0, .range 0 2, .morning⟩]
  , r32 0x20 [roF 14 11, roF 9 0]
  , r32 0x24 [roF 5 0]
  , r32 0x30 [roF 31 24, roF 23 2, roF 1 1, plainF 0 0 .wo 0] ]

/-- R20; R29; R33; R38. -/
def block_sys : BlockSpec := ⟨.sys, 0x0, [], .any, regs_sys⟩

def regs_tb : List RegSpec :=
  [ r32 0x0 [plainF 31 31 .w1c 0, roF 30 30, ⟨7, 0, .rw, .val 4, .range 1 128, .morning⟩]
  , r64 0x8 [roF 63 0]
  , r64 0x10 [roF 63 0]
  , r32 0x18 [roF 31 0] ]

/-- R44; R45; R46; R47. -/
def block_tb : BlockSpec := ⟨.tb, 0x100, [], .any, regs_tb⟩

def regs_ctok : List RegSpec :=
  [ r32 0x0 [plainF 31 31 .wo 0, plainF 30 30 .wo 0, plainF 29 29 .w1c 0, roF 6 4, plainF 0 0 .rw 0]
  , r32 0x4 [⟨31, 0, .rw, .val 0, .any, .tokenIdle⟩]
  , r32 0x8 [⟨31, 0, .rw, .val 0, .any, .tokenIdle⟩]
  , r32 0xC [⟨15, 0, .rw, .val 0, .any, .tokenIdle⟩]
  , r64 0x10 [⟨63, 0, .rw, .val 0, .any, .tokenIdle⟩]
  , r32 0x18 [roF 31 0] ]

/-- R61. -/
def block_ctok : BlockSpec := ⟨.ctok, 0x200, [(0x20, 8)], .token, regs_ctok⟩

def regs_ep0 : List RegSpec :=
  [ r32w 0x0 [⟨15, 15, .rw, .val 0, .any, .morning⟩, ⟨14, 14, .rw, .val 1, .any, .morning⟩, ⟨13, 12, .rw, .val 0, .range 0 2, .morning⟩, ⟨11, 10, .rw, .val 0, .any, .morning⟩, ⟨9, 7, .rw, .val 7, .any, .morning⟩, ⟨6, 4, .rw, .val 0, .any, .morning⟩, ⟨3, 3, .rw, .val 0, .any, .morning⟩, ⟨2, 0, .rw, .val 0, .range 0 5, .morning⟩]
  , r32 0x4 [plainF 31 16 .rw 400, plainF 15 8 .rw 4, plainF 7 0 .rw 2]
  , r32 0x8 [⟨9, 8, .rw, .val 2, .any, .morning⟩, ⟨5, 0, .rw, .inst32, .any, .morning⟩]
  , r32 0xC [⟨18, 0, .rw, .val 12500, .range 400 400000, .always⟩]
  , r32 0x10 [⟨18, 0, .rw, .val 40000, .range 400 400000, .always⟩]
  , r32w 0x14 [⟨29, 24, .rw, .val 25, .range 1 48, .morning⟩, ⟨23, 18, .rw, .val 0, .own 0 47, .morning⟩, ⟨17, 12, .rw, .val 25, .range 8 48, .morning⟩, ⟨11, 0, .rw, .val 400, .range 40 4000, .morning⟩]
  , r32 0x18 [⟨31, 31, .rw, .val 1, .any, .morning⟩, ⟨30, 30, .rw, .val 1, .any, .morning⟩, ⟨27, 16, .rw, .val 0, .any, .morning⟩, ⟨15, 0, .rw, .val 8000, .any, .morning⟩]
  , r32 0x1C [⟨31, 0, .rw, .val 0, .any, .morning⟩]
  , r32 0x20 [plainF 24 24 .rw 0, plainF 23 8 .rw 16, plainF 7 0 .rw 2]
  , r32 0x24 [roF 31 0]
  , r64 0x28 [roF 63 0]
  , r32 0x30 [roF 31 0]
  , r32 0x34 [roF 31 0]
  , r32 0x38 [roF 21 0]
  , r32 0x3C [roF 21 0]
  , r32 0x40 [roF 31 0]
  , r32 0x44 [plainF 15 15 .w1c 0, plainF 14 14 .w1c 0, plainF 13 13 .w1c 0, plainF 12 12 .w1c 0, plainF 11 11 .w1c 0, plainF 10 10 .w1c 0, roF 9 8, plainF 7 7 .w1c 0, roF 6 6, roF 5 5, roF 4 4, roF 3 3, roF 2 2, roF 1 1, roF 0 0]
  , r32 0x48 [roF 31 24, roF 23 16, roF 15 0]
  , r32 0x4C [roF 31 0]
  , r64 0x50 [plainF 63 0 .rw 0] ]

def regs_ep1 : List RegSpec :=
  [ r32 0x58 [plainF 4 4 .wo 0, plainF 3 3 .wo 0, plainF 2 2 .wo 0, plainF 1 1 .wo 0, plainF 0 0 .wo 0]
  , r32 0x5C [roF 10 8, roF 5 0]
  , r64 0x60 [roF 47 0] ]

/-- R95; R96; R97; R98; R99; R100. -/
def block_ep : BlockSpec := ⟨.ep, 0x40000, [(0x1000, 40)], .bit 5, regs_ep0 ++ regs_ep1⟩

def regs_ax0 : List RegSpec :=
  [ r32 0x0 [⟨23, 16, .rw, .axA, .range 1 128, .morning⟩, ⟨15, 8, .rw, .axB, .range 1 16, .morning⟩, ⟨7, 0, .rw, .axC, .range 1 64, .morning⟩]
  , r32 0x4 [⟨11, 0, .rw, .val 0, .any, .morning⟩]
  , r32 0x8 [roF 31 16, roF 15 0]
  , r32 0xC [plainF 31 31 .wo 0, roF 23 16, roF 15 0]
  , r32w 0x10 [⟨16, 16, .rw, .val 0, .any, .morning⟩, ⟨15, 8, .rw, .val 255, .any, .morning⟩, ⟨3, 0, .rw, .val 0, .range 0 7, .morning⟩]
  , r32 0x14 [⟨31, 0, .rw, .val 1, .any, .morning⟩]
  , r32 0x18 [⟨31, 0, .rw, .val 1, .range 1 4294967295, .morning⟩]
  , r32 0x1C [roF 31 0]
  , r64 0x20 [roF 63 0]
  , r64 0x28 [roF 63 0]
  , r64 0x30 [roF 63 0]
  , r64 0x38 [roF 63 0]
  , r64 0x40 [roF 63 0]
  , r64 0x48 [plainF 63 0 .rw 0]
  , r64 0x50 [⟨63, 0, .rw, .val 1099511627776, .mag 0, .always⟩]
  , r64 0x58 [⟨63, 0, .rw, .val 1099511627776, .mag 1, .always⟩]
  , r64 0x60 [⟨63, 0, .rw, .val 17592186044416, .mag 1, .always⟩]
  , r32 0x68 [roF 31 31, roF 30 30, roF 29 29, plainF 25 25 .rw 0, plainF 24 24 .rw 0, plainF 23 16 .rw 0, plainF 15 15 .wo 0, roF 7 0]
  , r32 0x6C [roF 25 16, roF 15 0]
  , r32 0x70 [⟨31, 0, .rw, .val 0, .srange (-1048576) 1048575, .morning⟩] ]

def regs_ax1 : List RegSpec :=
  [ r32 0x74 [plainF 7 0 .rw 2]
  , r32 0x78 [plainF 31 0 .rw 0]
  , r32 0x7C [⟨23, 8, .rw, .val 0, .any, .morning⟩, ⟨5, 0, .rw, .val 24, .range 0 62, .morning⟩]
  , r32 0x80 [roF 11 11, roF 10 10, plainF 9 9 .w1c 0, plainF 8 8 .w1c 0, plainF 7 7 .w1c 0, plainF 6 6 .w1c 0, plainF 5 5 .w1c 0, plainF 4 4 .w1c 0, plainF 3 3 .w1c 0, roF 2 2, roF 1 1, roF 0 0]
  , r32 0x84 [roF 31 16, roF 15 0]
  , r64 0x88 [⟨63, 0, .rw, .val 0, .mag 0, .morning⟩] ]

/-- R50; R51; R58; R59; R142; R143. -/
def block_ax : BlockSpec := ⟨.ax, 0xD0000, [(0x200, 80)], .motionOrGear, regs_ax0 ++ regs_ax1⟩

def regs_ls : List RegSpec :=
  [ r32 0x0 [⟨31, 31, .rw, .val 0, .any, .morning⟩, ⟨30, 30, .rw, .val 0, .any, .morning⟩, ⟨15, 8, .rw, .val 64, .range 0 79, .morning⟩, ⟨7, 0, .rw, .val 0, .any, .morning⟩]
  , r32 0x4 [plainF 7 0 .rw 8]
  , r64 0x8 [⟨63, 0, .rw, .val 1099511627776, .mag 1, .always⟩]
  , r64 0x10 [⟨63, 0, .rw, .val 17592186044416, .mag 1, .always⟩]
  , r64 0x18 [⟨63, 0, .rw, .val 268435456, .mag 0, .always⟩]
  , r64 0x20 [roF 63 0]
  , r32 0x28 [roF 15 8, roF 2 2, roF 1 1, roF 0 0]
  , r32 0x2C [roF 31 16, roF 15 0] ]

/-- R144. -/
def block_ls : BlockSpec := ⟨.ls, 0xDC000, [(0x100, 16)], .bit 3, regs_ls⟩

def regs_grp : List RegSpec :=
  [ r32 0x0 [⟨31, 0, .rw, .val 4294967295, .any, .morning⟩]
  , r32 0x4 [⟨31, 0, .rw, .val 4294967295, .any, .morning⟩]
  , r32 0x8 [plainF 16 16 .rw 0, ⟨8, 0, .rw, .val 32, .range 1 256, .always⟩]
  , r64 0x10 [plainF 63 0 .rw 16777216]
  , r64 0x18 [plainF 63 0 .rw 4194304]
  , ⟨0x20, false, 8, 0x4, false, [⟨31, 0, .rw, .val 65536, .range 1 4294967295, .always⟩]⟩
  , r64 0x40 [plainF 63 0 .rw 17592186044416]
  , r64 0x48 [plainF 63 0 .rw 17592186044416]
  , r64 0x50 [plainF 63 0 .rw 281474976710656] ]

/-- R145. -/
def block_grp : BlockSpec := ⟨.grp, 0xDE000, [(0x100, 16)], .bit 2, regs_grp⟩

def regs_li : List RegSpec :=
  [ r32w 0x0 [⟨31, 24, .rw, .val 0, .any, .morningOrOff⟩, ⟨23, 16, .rw, .val 2, .any, .morningOrOff⟩, ⟨15, 10, .rw, .val 0, .own 0 39, .morningOrOff⟩, ⟨9, 8, .rw, .val 2, .any, .morningOrOff⟩, ⟨4, 4, .rw, .val 0, .any, .morningOrOff⟩, ⟨3, 3, .rw, .val 0, .any, .morningOrOff⟩, ⟨2, 2, .rw, .val 0, .any, .morningOrOff⟩, ⟨1, 1, .rw, .val 0, .any, .morningOrOff⟩, ⟨0, 0, .rw, .val 0, .any, .morningOrOff⟩]
  , r32 0x4 [roF 31 24, roF 23 8, plainF 5 5 .w1c 0, roF 4 0]
  , r64 0x8 [roF 63 0]
  , r64 0x10 [roF 63 0]
  , r32 0x18 [roF 1 1, roF 0 0]
  , r32 0x1C [plainF 2 2 .wo 0, plainF 1 1 .wo 0, plainF 0 0 .wo 0] ]

/-- R168; R169. -/
def block_li : BlockSpec := ⟨.li, 0xC0000, [(0x40, 32)], .bit 6, regs_li⟩

def regs_co : List RegSpec :=
  [ r32w 0x0 [⟨29, 24, .rw, .val 0, .range 0 39, .morningOrOff⟩, ⟨23, 5, .rw, .val 40, .own 4 400000, .morningOrOff⟩, ⟨4, 4, .rw, .val 0, .any, .morningOrOff⟩, ⟨3, 3, .rw, .val 0, .any, .morningOrOff⟩, ⟨2, 2, .rw, .val 0, .any, .morningOrOff⟩]
  , r32w 0x4 [plainF 31 16 .rw 0, ⟨12, 0, .rw, .val 0, .own 0 4096, .always⟩]
  , r64 0x8 [plainF 63 0 .rw 0]
  , r32 0x10 [roF 11 0]
  , r32 0x14 [roF 31 0]
  , r32 0x18 [plainF 8 8 .w1c 0, roF 7 7, plainF 6 6 .w1c 0, plainF 5 5 .w1c 0, plainF 4 4 .w1c 0, plainF 3 3 .w1c 0, plainF 2 2 .w1c 0, roF 1 1, roF 0 0]
  , r32 0x1C [plainF 31 20 .wo 0, plainF 2 2 .wo 0, plainF 1 1 .wo 0, plainF 0 0 .wo 0]
  , r32 0x20 [roF 31 0] ]

/-- R168; R169. -/
def block_co : BlockSpec := ⟨.co, 0xC1000, [(0x40, 16)], .bit 6, regs_co⟩

def regs_rc : List RegSpec :=
  [ r32 0x0 [⟨31, 31, .rw, .val 0, .any, .morningOrOff⟩, ⟨30, 30, .wo, .val 0, .any, .morningOrOff⟩, ⟨5, 0, .rw, .val 0, .any, .morningOrOff⟩]
  , r64 0x8 [plainF 63 0 .rw 0]
  , r64 0x10 [⟨63, 0, .rw, .val 17592186044416, .mag 1, .always⟩]
  , r64 0x18 [⟨63, 0, .rw, .val 0, .mag 0, .always⟩]
  , r32 0x20 [plainF 31 16 .rw 32768, plainF 15 0 .rw 32768]
  , r32 0x24 [plainF 1 1 .rw 0, plainF 0 0 .rw 0]
  , r64 0x28 [⟨63, 0, .rw, .val 33554432, .mag 0, .always⟩]
  , r64 0x30 [⟨63, 0, .rw, .val 34359738368, .mag 0, .always⟩]
  , r32 0x38 [plainF 31 0 .rw 25600]
  , r32 0x3C [plainF 7 0 .rw 4]
  , r64 0x40 [roF 63 0]
  , r64 0x48 [roF 63 0]
  , r64 0x50 [plainF 63 0 .rw 0]
  , r32 0x58 [roF 5 5, roF 4 4, roF 3 3, plainF 2 2 .w1c 0, roF 1 1, roF 0 0]
  , r32 0x5C [roF 31 24, roF 23 16, roF 15 8, roF 7 0] ]

/-- R168; R169. -/
def block_rc : BlockSpec := ⟨.rc, 0xC2000, [(0x80, 32)], .bit 6, regs_rc⟩

def regs_axl0 : List RegSpec :=
  [ r32 0x0 [plainF 31 31 .wo 0, ⟨23, 19, .rwc, .val 8, .range 0 24, .always⟩, ⟨18, 14, .rwc, .val 0, .range 0 24, .always⟩, plainF 13 13 .rwc 0, plainF 12 12 .rwc 0, plainF 11 11 .rwc 0, plainF 10 10 .rwc 0, plainF 9 9 .rwc 0, plainF 8 7 .rwc 0, plainF 6 5 .rwc 0]
  , r32w 0x4 [⟨21, 16, .rw, .val 63, .any, .morning⟩, ⟨8, 8, .rw, .val 0, .any, .morning⟩, ⟨5, 0, .rw, .fb1, .any, .morning⟩]
  , r32 0x8 [⟨29, 24, .rwc, .val 0, .range 0 62, .always⟩, ⟨23, 18, .rwc, .val 0, .range 0 62, .always⟩, ⟨17, 12, .rwc, .val 0, .range 0 62, .always⟩, ⟨11, 6, .rwc, .val 0, .range 0 62, .always⟩, ⟨5, 0, .rwc, .val 0, .range 0 62, .always⟩]
  , r32 0xC [⟨29, 24, .rwc, .val 0, .range 0 62, .always⟩, ⟨23, 18, .rwc, .val 0, .range 0 62, .always⟩, ⟨17, 12, .rwc, .val 0, .range 0 62, .always⟩, ⟨11, 6, .rwc, .val 0, .range 0 62, .always⟩, ⟨5, 0, .rwc, .val 0, .range 0 62, .always⟩]
  , r32 0x10 [⟨29, 24, .rwc, .val 0, .range 0 62, .always⟩, ⟨23, 18, .rwc, .val 0, .range 0 62, .always⟩, ⟨17, 12, .rwc, .val 0, .range 0 62, .always⟩, ⟨11, 6, .rwc, .val 0, .range 0 62, .always⟩, ⟨5, 0, .rwc, .val 0, .range 0 62, .always⟩]
  , r32 0x14 [plainF 31 0 .rwc 0]
  , r32 0x18 [plainF 31 0 .rwc 0]
  , r32 0x1C [plainF 31 0 .rwc 0]
  , r32 0x20 [plainF 31 0 .rwc 0]
  , r32 0x24 [plainF 31 0 .rwc 0]
  , r32 0x28 [plainF 31 0 .rwc 0]
  , r32 0x2C [plainF 31 0 .rwc 0]
  , r32 0x30 [plainF 31 0 .rwc 0]
  , r32 0x34 [plainF 31 0 .rwc 0]
  , r32 0x38 [plainF 31 0 .rwc 0]
  , r32 0x3C [plainF 31 0 .rwc 0]
  , r32 0x40 [plainF 31 0 .rwc 0]
  , r32 0x44 [plainF 31 0 .rwc 0]
  , r32 0x48 [plainF 31 0 .rwc 0]
  , r32 0x4C [plainF 31 0 .rwc 0] ]

def regs_axl1 : List RegSpec :=
  [ r32 0x50 [⟨31, 0, .rwc, .val 0, .range 0 2147483647, .always⟩]
  , r32 0x54 [⟨31, 0, .rwc, .val 65536, .range 0 2147483647, .always⟩]
  , r32 0x58 [⟨31, 0, .rwc, .val 16777216, .range 0 2147483647, .always⟩]
  , r32 0x5C [⟨31, 0, .rwc, .val 4278190080, .nonPositive, .always⟩]
  , r32 0x60 [⟨31, 0, .rwc, .val 16777216, .range 1 2147483647, .always⟩]
  , r32 0x64 [⟨31, 0, .rwc, .val 2097152, .range 0 2147483647, .always⟩]
  , r32 0x68 [⟨31, 0, .rwc, .val 8388608, .range 0 2147483647, .always⟩]
  , r32 0x6C [plainF 31 0 .rwc 25600]
  , r64 0x70 [⟨63, 0, .rwc, .val 1099511627776, .mag 0, .always⟩]
  , r64 0x78 [⟨63, 0, .rwc, .val 17179869184, .mag 0, .always⟩]
  , r32 0x80 [plainF 31 0 .rwc 1073741824]
  , r32 0x84 [plainF 31 0 .rwc 0]
  , r32 0x88 [plainF 31 0 .rwc 0]
  , r32 0x8C [plainF 31 0 .rwc 0]
  , r32 0x90 [plainF 31 0 .rwc 0]
  , r32 0x94 [plainF 31 0 .rwc 1073741824]
  , r32 0x98 [plainF 31 0 .rwc 0]
  , r32 0x9C [plainF 31 0 .rwc 0]
  , r32 0xA0 [plainF 31 0 .rwc 0]
  , r32 0xA4 [plainF 31 0 .rwc 0] ]

def regs_axl2 : List RegSpec :=
  [ r32 0xA8 [plainF 31 31 .rwc 0]
  , r32 0xAC [plainF 31 0 .rwc 0]
  , r32 0xB0 [⟨31, 0, .rwc, .val 1065353216, .range 0 1073741823, .always⟩]
  , r32 0xB4 [⟨31, 0, .rwc, .val 1073741824, .range 0 1073741824, .always⟩]
  , r32 0xB8 [plainF 31 31 .rwc 0]
  , r32 0xBC [plainF 31 0 .rwc 0]
  , r32 0xC0 [⟨31, 0, .rwc, .val 1065353216, .range 0 1073741823, .always⟩]
  , r32 0xC4 [⟨31, 0, .rwc, .val 1073741824, .range 0 1073741824, .always⟩]
  , r32 0xC8 [⟨19, 16, .rwc, .val 10, .range 6 12, .always⟩, plainF 15 0 .rwc 0]
  , r32 0xCC [plainF 31 31 .rwc 0, plainF 30 30 .rwc 0, roF 29 29, ⟨28, 27, .rwc, .val 0, .range 0 2, .always⟩, ⟨26, 21, .rwc, .val 0, .range 0 39, .always⟩, ⟨20, 17, .rwc, .val 10, .range 6 14, .always⟩, plainF 15 0 .rwc 0]
  , r32 0xD0 [⟨29, 24, .rwc, .val 0, .range 0 62, .always⟩, plainF 7 0 .rwc 0]
  , r32 0xD4 [plainF 31 0 .rwc 0]
  , r32 0xD8 [plainF 31 16 .rwc 0, ⟨15, 0, .rwc, .val 0, .range 0 16384, .always⟩]
  , r32 0xDC [⟨31, 0, .rwc, .val 2097152, .range 0 2147483647, .always⟩]
  , r64 0xE0 [⟨63, 0, .rwc, .val 0, .mag 0, .always⟩]
  , r32 0xE8 [roF 15 15, plainF 14 14 .w1c 0, plainF 13 13 .w1c 0, roF 12 12, plainF 11 11 .w1c 0, roF 10 10, roF 9 9, plainF 8 8 .w1c 0, roF 7 7, plainF 6 6 .w1c 0, plainF 5 5 .w1c 0, plainF 4 4 .w1c 0, plainF 3 3 .w1c 0, plainF 2 2 .w1c 0, roF 1 1, roF 0 0]
  , r32 0xEC [roF 31 24, roF 23 16, roF 15 8, roF 7 0]
  , r64 0xF0 [roF 63 0]
  , r32 0xF8 [roF 31 0]
  , r32 0xFC [⟨31, 0, .rw, .val 65536, .any, .morning⟩] ]

/-- R198; R199. -/
def block_axl : BlockSpec := ⟨.axl, 0xD0100, [(0x200, 64)], .bit 4, regs_axl0 ++ regs_axl1 ++ regs_axl2⟩

def regs_lpinj : List RegSpec :=
  [ r32 0x0 [⟨31, 31, .wo, .val 0, .any, .notRunning⟩, ⟨30, 30, .wo, .val 0, .any, .notRunning⟩, ⟨27, 21, .rw, .val 0, .range 0 79, .notRunning⟩, ⟨20, 18, .rw, .val 2, .range 0 3, .notRunning⟩, ⟨17, 15, .rw, .val 0, .range 0 5, .notRunning⟩, ⟨14, 12, .rw, .val 0, .any, .notRunning⟩]
  , r32 0x4 [⟨31, 0, .rw, .val 0, .any, .notRunning⟩]
  , r32 0x8 [⟨31, 0, .rw, .val 0, .any, .notRunning⟩]
  , r32 0xC [⟨31, 0, .rw, .val 0, .any, .notRunning⟩]
  , r32 0x10 [⟨31, 0, .rw, .val 0, .any, .notRunning⟩]
  , r32 0x14 [⟨31, 0, .rw, .val 0, .any, .notRunning⟩]
  , r32 0x18 [roF 31 31, plainF 30 30 .w1c 0, plainF 29 29 .w1c 0, roF 23 0] ]

/-- R200. -/
def block_lpinj : BlockSpec := ⟨.lpinj, 0xE0800, [(0x1000, 16)], .bit 4, regs_lpinj⟩

def regs_sdclk : List RegSpec :=
  [ r32 0x0 [roF 31 31, ⟨13, 8, .rw, .val 8, .any, .morning⟩, ⟨4, 4, .rw, .val 0, .any, .morning⟩, ⟨3, 0, .rw, .val 1, .range 0 4, .morning⟩] ]

/-- R232. -/
def block_sdclk : BlockSpec := ⟨.sdclk, 0x80000, [(0x4, 8)], .bit 4, regs_sdclk⟩

def regs_sd : List RegSpec :=
  [ r32 0x0 [⟨23, 20, .rw, .val 1, .any, .morning⟩, ⟨17, 16, .rw, .val 2, .any, .morning⟩, ⟨15, 8, .rw, .val 32, .range 8 255, .morning⟩, ⟨1, 1, .rw, .val 0, .any, .morning⟩, ⟨0, 0, .rw, .val 0, .any, .morning⟩]
  , r32 0x4 [⟨31, 0, .rw, .val 0, .range 0 2147483647, .always⟩]
  , r32 0x8 [roF 31 0]
  , r32 0xC [roF 31 24, roF 23 16, plainF 2 2 .w1c 0, plainF 1 1 .w1c 0, roF 0 0] ]

/-- R231; R232. -/
def block_sd : BlockSpec := ⟨.sd, 0x80100, [(0x10, 96)], .bit 4, regs_sd⟩

def regs_cle : List RegSpec :=
  [ r32 0x0 [plainF 31 31 .wo 0, roF 15 8, roF 7 0] ]

/-- R231. -/
def block_cle : BlockSpec := ⟨.cle, 0x90000, [(0x2000, 8)], .bit 4, regs_cle⟩

def regs_slot0 : List RegSpec :=
  [ r32w 0x0 [⟨29, 24, .rw, .inst, .any, .morning⟩, ⟨23, 18, .rw, .val 63, .any, .morning⟩, ⟨17, 12, .rw, .val 1, .own 1 63, .morning⟩, ⟨11, 10, .rw, .val 0, .any, .morning⟩, ⟨9, 9, .rw, .val 0, .any, .morning⟩, ⟨8, 8, .rw, .val 0, .any, .morning⟩, ⟨7, 7, .rw, .val 0, .any, .morning⟩, ⟨6, 6, .rw, .val 0, .any, .morning⟩, ⟨5, 0, .rw, .val 63, .any, .morning⟩]
  , r32w 0x4 [⟨31, 22, .rw, .val 25, .range 20 1023, .morning⟩, ⟨21, 12, .rw, .val 120, .any, .morning⟩, ⟨11, 4, .rw, .val 0, .any, .morning⟩, ⟨3, 0, .rw, .val 0, .range 3 8, .morning⟩]
  , r32 0x8 [⟨31, 0, .rw, .val 0, .any, .morning⟩]
  , r32 0xC [⟨31, 0, .rw, .val 65536, .range 1 4294967295, .morning⟩]
  , r32 0x10 [plainF 31 0 .rw 0]
  , r32 0x14 [⟨31, 0, .rw, .val 0, .any, .morning⟩]
  , r32 0x18 [⟨31, 0, .rw, .val 0, .any, .morning⟩]
  , r32 0x1C [⟨31, 0, .rw, .val 0, .any, .morning⟩]
  , r32 0x20 [⟨31, 0, .rw, .val 0, .any, .morning⟩]
  , r32 0x24 [⟨31, 0, .rw, .val 0, .any, .morning⟩]
  , r32 0x28 [⟨31, 0, .rw, .val 0, .any, .morning⟩]
  , r32 0x2C [⟨17, 12, .rw, .val 0, .range 0 62, .morning⟩, ⟨11, 6, .rw, .val 0, .range 0 62, .morning⟩, ⟨5, 0, .rw, .val 0, .range 0 62, .morning⟩]
  , r32 0x30 [plainF 31 0 .rw 16777216]
  , r32 0x34 [⟨31, 16, .rw, .val 1024, .range 1 65535, .morning⟩, ⟨7, 0, .rw, .val 16, .any, .morning⟩]
  , r32 0x38 [plainF 2 2 .wo 0, plainF 1 1 .wo 0, plainF 0 0 .wo 0]
  , r32 0x3C [roF 15 15, roF 14 14, roF 13 13, roF 12 12, roF 11 11, roF 10 10, plainF 9 9 .w1c 0, plainF 8 8 .w1c 0, plainF 7 7 .w1c 0, plainF 6 6 .w1c 0, plainF 5 5 .w1c 0, plainF 4 4 .w1c 0, plainF 3 3 .w1c 0, roF 2 2, roF 1 1]
  , r32 0x40 [roF 31 16, roF 15 0]
  , r32 0x44 [roF 31 0]
  , r32 0x48 [roF 31 0]
  , r32 0x4C [roF 31 0] ]

def regs_slot1 : List RegSpec :=
  [ r32 0x50 [roF 31 0]
  , r32 0x54 [roF 31 0]
  , r32 0x58 [roF 31 0]
  , r32 0x5C [roF 31 0]
  , r32 0x60 [roF 31 0]
  , r32 0x64 [roF 15 0]
  , r32 0x68 [roF 31 0]
  , r32 0x6C [roF 31 0] ]

/-- R233; R234. -/
def block_slot : BlockSpec := ⟨.slot, 0x90400, [(0x2000, 8), (0x400, 4)], .bit 4, regs_slot0 ++ regs_slot1⟩

def regs_bank : List RegSpec :=
  [ r32 0x0 [⟨31, 0, .rw, .val 0, .any, .bankIdle⟩]
  , r32 0x4 [⟨31, 0, .rw, .val 0, .any, .bankIdle⟩]
  , r32 0x8 [⟨31, 0, .rw, .val 0, .any, .bankIdle⟩]
  , r32 0xC [⟨31, 0, .rw, .val 0, .any, .bankIdle⟩]
  , r32 0x10 [⟨31, 0, .rw, .val 0, .any, .bankIdle⟩]
  , r32 0x14 [⟨31, 0, .rw, .val 0, .any, .bankIdle⟩]
  , r32 0x18 [⟨31, 0, .rw, .val 0, .any, .bankIdle⟩]
  , r32 0x1C [⟨31, 0, .rw, .val 0, .any, .bankIdle⟩]
  , r32 0x20 [⟨31, 0, .rw, .val 0, .any, .bankIdle⟩]
  , r32 0x24 [⟨29, 24, .rw, .val 0, .range 0 62, .bankIdle⟩, ⟨23, 18, .rw, .val 0, .range 0 62, .bankIdle⟩, ⟨17, 12, .rw, .val 0, .range 0 62, .bankIdle⟩, ⟨11, 6, .rw, .val 0, .range 0 62, .bankIdle⟩, ⟨5, 0, .rw, .val 0, .range 0 62, .bankIdle⟩]
  , r32 0x28 [⟨23, 18, .rw, .val 0, .range 0 62, .bankIdle⟩, ⟨17, 12, .rw, .val 0, .range 0 62, .bankIdle⟩, ⟨11, 6, .rw, .val 0, .range 0 62, .bankIdle⟩, ⟨5, 0, .rw, .val 0, .range 0 62, .bankIdle⟩]
  , r32 0x2C [⟨31, 0, .rw, .val 0, .any, .bankIdle⟩]
  , r32 0x30 [⟨31, 0, .rw, .val 16777216, .range 0 2147483647, .bankIdle⟩]
  , r32 0x34 [⟨31, 0, .rw, .val 1030792151, .range 0 1073741824, .bankIdle⟩]
  , r32 0x38 [⟨14, 0, .rw, .val 0, .any, .bankIdle⟩]
  , r32 0x3C [⟨31, 0, .rw, .val 524288, .any, .bankIdle⟩]
  , r32 0x40 [⟨3, 3, .rw, .val 1, .any, .bankIdle⟩, ⟨2, 2, .rw, .val 0, .any, .bankIdle⟩, ⟨1, 1, .rw, .val 1, .any, .bankIdle⟩, ⟨0, 0, .rw, .val 1, .any, .bankIdle⟩] ]

/-- R235. -/
def block_bank : BlockSpec := ⟨.bank, 0x90500, [(0x2000, 8), (0x400, 4), (0x80, 2)], .bit 4, regs_bank⟩

def regs_pwm : List RegSpec :=
  [ r32 0x0 [⟨19, 0, .rwc, .val 0, .pwmPeriod, .always⟩]
  , r32 0x4 [plainF 24 0 .rwc 0]
  , r32 0x8 [plainF 24 0 .rwc 0]
  , r32 0xC [plainF 24 0 .rwc 0]
  , r32 0x10 [plainF 25 16 .rwc 40, plainF 9 0 .rwc 40]
  , r32 0x14 [plainF 25 16 .rwc 40, plainF 9 0 .rwc 40]
  , r32 0x18 [plainF 25 16 .rwc 40, plainF 9 0 .rwc 40]
  , r32 0x1C [plainF 17 17 .rwc 0, plainF 16 16 .rwc 0, plainF 14 0 .rwc 0]
  , r32w 0x20 [⟨31, 31, .rw, .val 1, .any, .morning⟩, ⟨30, 30, .rw, .val 0, .any, .morning⟩, ⟨29, 29, .rw, .val 0, .any, .morning⟩, ⟨28, 28, .rw, .val 0, .any, .morning⟩, ⟨24, 20, .rw, .val 31, .any, .morning⟩, ⟨7, 0, .rw, .val 0, .any, .morning⟩]
  , r32 0x24 [⟨5, 0, .rw, .val 0, .any, .morning⟩]
  , r32 0x28 [plainF 1 1 .wo 0, plainF 0 0 .wo 0]
  , r32 0x2C [plainF 2 2 .wo 0, plainF 1 1 .wo 0, plainF 0 0 .wo 0]
  , r32 0x30 [roF 27 24, roF 23 23, roF 22 22, roF 21 21, plainF 15 15 .ro 1, roF 14 14, roF 13 13, roF 12 12, plainF 8 8 .w1c 0, plainF 7 7 .w1c 0, plainF 6 6 .w1c 0, plainF 5 5 .w1c 0, plainF 4 4 .w1c 0, plainF 3 3 .w1c 0, plainF 2 2 .w1c 0, plainF 1 1 .w1c 0, plainF 0 0 .w1c 0]
  , r32 0x34 [roF 31 16, roF 15 0]
  , r32 0x38 [roF 31 0]
  , r32 0x3C [roF 31 31, roF 19 0]
  , r32 0x40 [roF 31 0]
  , r32 0x44 [roF 31 0]
  , r32 0x48 [roF 31 0]
  , r32 0x4C [roF 31 0] ]

/-- R266; R267. -/
def block_pwm : BlockSpec := ⟨.pwm, 0xA0000, [(0x800, 32)], .bit 1, regs_pwm⟩

def regs_pwmx : List RegSpec :=
  [ r32 0x0 [⟨31, 31, .rw, .val 0, .any, .morning⟩, ⟨30, 30, .rw, .val 0, .any, .morning⟩, ⟨29, 29, .rw, .val 0, .any, .morning⟩, ⟨28, 28, .rw, .val 0, .any, .morning⟩, ⟨25, 24, .rw, .val 0, .any, .morning⟩, ⟨23, 23, .rw, .val 0, .any, .morning⟩, ⟨22, 22, .rw, .val 0, .any, .morning⟩, ⟨20, 16, .rw, .val 0, .any, .morning⟩]
  , r32 0x4 [⟨19, 0, .rwc, .val 0, .pwmPeriod, .always⟩]
  , r32 0x8 [plainF 24 0 .rwc 0]
  , r32 0xC [plainF 25 16 .rwc 40, plainF 9 0 .rwc 40]
  , r32 0x10 [plainF 17 17 .rwc 0, plainF 16 16 .rwc 0, plainF 14 0 .rwc 0]
  , r32 0x14 [plainF 0 0 .wo 0]
  , r32 0x18 [plainF 2 2 .wo 0, plainF 1 1 .wo 0]
  , r32 0x1C [plainF 15 15 .ro 1, roF 14 14, roF 12 12, plainF 8 8 .w1c 0, plainF 7 7 .w1c 0, plainF 6 6 .w1c 0, plainF 5 5 .w1c 0, plainF 4 4 .w1c 0, plainF 3 3 .w1c 0, plainF 2 2 .w1c 0, plainF 0 0 .w1c 0]
  , r32 0x20 [roF 31 0] ]

/-- R268. -/
def block_pwmx : BlockSpec := ⟨.pwmx, 0xB0000, [(0x100, 8)], .bit 1, regs_pwmx⟩

def regs_atc : List RegSpec :=
  [ r32w 0x0 [plainF 31 31 .rw 0, ⟨21, 16, .rw, .val 0, .range 0 39, .always⟩, plainF 10 8 .rw 0, plainF 1 0 .rw 0]
  , r32 0x4 [plainF 27 16 .rw 0, plainF 9 0 .rw 0]
  , r32 0x8 [roF 31 16, roF 0 0] ]

/-- R269. -/
def block_atc : BlockSpec := ⟨.atc, 0xB1000, [(0x20, 16)], .bit 1, regs_atc⟩

def regs_gtrip : List RegSpec :=
  [ r32w 0x0 [⟨31, 31, .rw, .val 0, .any, .morning⟩, ⟨30, 30, .rw, .val 0, .any, .morning⟩, ⟨28, 28, .rw, .val 0, .any, .morning⟩, ⟨24, 20, .rw, .val 31, .any, .morning⟩, ⟨7, 0, .rw, .val 0, .any, .morning⟩]
  , r32 0x4 [⟨31, 0, .rw, .val 0, .any, .morning⟩]
  , r32 0x8 [⟨7, 0, .rw, .val 0, .any, .morning⟩]
  , r32 0xC [plainF 1 1 .wo 0, plainF 0 0 .wo 0]
  , r32 0x10 [roF 31 16, plainF 3 3 .w1c 0, roF 2 2, roF 1 1, plainF 0 0 .w1c 0]
  , r32 0x14 [roF 31 0] ]

/-- R269. -/
def block_gtrip : BlockSpec := ⟨.gtrip, 0xB2000, [(0x20, 4)], .bit 1, regs_gtrip⟩

def regs_lp : List RegSpec :=
  [ r32 0x0 [⟨31, 31, .rw, .val 0, .any, .morning⟩, plainF 2 0 .rw 0]
  , r32 0x4 [roF 31 30, roF 29 29, roF 28 28, roF 27 27, plainF 6 0 .ro 5]
  , r32 0x8 [roF 31 30, roF 29 27, roF 26 26, roF 14 0]
  , r32 0xC [roF 31 30, roF 29 27, roF 26 26, roF 14 0]
  , r32 0x10 [plainF 3 3 .wo 0, plainF 1 1 .wo 0, plainF 0 0 .wo 0]
  , r32 0x14 [roF 31 26, roF 25 25, roF 24 24, roF 14 0]
  , r32 0x18 [roF 31 0]
  , r32 0x1C [roF 31 0]
  , r32 0x20 [roF 2 0]
  , r32 0x24 [roF 31 16, roF 15 0]
  , ⟨0x40, false, 10, 0x4, false, [⟨30, 28, .rw, .val 0, .any, .morning⟩, ⟨26, 24, .rw, .val 0, .any, .morning⟩, ⟨22, 20, .rw, .val 0, .any, .morning⟩, ⟨18, 16, .rw, .val 0, .any, .morning⟩, ⟨14, 12, .rw, .val 0, .any, .morning⟩, ⟨10, 8, .rw, .val 0, .any, .morning⟩, ⟨6, 4, .rw, .val 0, .any, .morning⟩, ⟨2, 0, .rw, .val 0, .any, .morning⟩]⟩ ]

/-- R300; R304; R305. -/
def block_lp : BlockSpec := ⟨.lp, 0xE0000, [(0x1000, 16)], .bit 4, regs_lp⟩

def regs_nt : List RegSpec :=
  [ r32 0x0 [plainF 31 31 .wo 0, plainF 30 30 .wo 0]
  , r32 0x4 [roF 31 30, plainF 6 6 .w1c 0, plainF 5 5 .w1c 0, plainF 4 4 .w1c 0, plainF 3 3 .w1c 0, roF 2 2]
  , r32 0x8 [roF 29 0]
  , r64 0x10 [roF 47 0]
  , r32 0x18 [roF 15 0]
  , r32 0x1C [plainF 31 0 .rw 0]
  , r64 0x20 [plainF 63 0 .rw 0]
  , r64 0x28 [plainF 47 0 .rw 0]
  , r32 0x30 [⟨29, 0, .rw, .val 0, .range 0 999999999, .always⟩]
  , r32 0x34 [plainF 18 18 .rw 0, plainF 17 17 .rw 0, plainF 16 16 .rw 0, plainF 15 0 .rw 37]
  , r32 0x38 [plainF 31 31 .rw 0, plainF 30 30 .rw 0, plainF 29 29 .rw 0, ⟨18, 0, .rw, .val 100000, .range 1 500000, .always⟩]
  , r32 0x3C [⟨31, 0, .rw, .val 0, .srange (-500000000) 499999999, .always⟩]
  , r64 0x40 [roF 47 0]
  , r64 0x48 [roF 45 0]
  , r32 0x50 [plainF 7 0 .rw 8] ]

/-- R335; R336. -/
def block_nt : BlockSpec := ⟨.nt, 0x250000, [], .bit 7, regs_nt⟩

def regs_port : List RegSpec :=
  [ r32 0x0 [⟨31, 31, .rw, .val 0, .any, .morning⟩, ⟨29, 28, .rw, .val 3, .range 1 3, .morning⟩, ⟨27, 26, .rw, .val 0, .range 0 2, .morning⟩, ⟨8, 8, .rw, .val 1, .any, .morning⟩, ⟨7, 7, .rw, .val 1, .any, .morning⟩, ⟨5, 5, .rw, .val 0, .any, .morning⟩]
  , r32 0x4 [roF 31 31, roF 30 29, roF 28 28]
  , r32 0x8 [⟨31, 0, .rw, .val 0, .any, .morning⟩]
  , r32 0xC [⟨31, 0, .rw, .val 0, .any, .morning⟩]
  , r32 0x10 [plainF 31 0 .rw 0]
  , r32 0x14 [plainF 31 0 .rw 0]
  , r32 0x18 [roF 31 16, roF 15 0] ]

/-- R337. -/
def block_port : BlockSpec := ⟨.port, 0x251000, [(0x400, 4)], .bit 7, regs_port⟩

def regs_gcl : List RegSpec :=
  [ r32 0x0 [plainF 31 31 .wo 0, ⟨6, 0, .rw, .val 0, .range 0 64, .always⟩]
  , r64 0x8 [plainF 63 0 .rw 0]
  , r64 0x10 [plainF 63 0 .rw 0]
  , r32 0x18 [⟨20, 0, .rw, .val 12500, .range 400 1600000, .always⟩]
  , r32 0x1C [plainF 2 2 .w1c 0, plainF 1 1 .w1c 0, roF 0 0]
  , ⟨0x100, false, 64, 0x4, false, [plainF 31 24 .rw 0, plainF 20 0 .rw 0]⟩
  , ⟨0x200, false, 64, 0x4, false, [roF 31 24, roF 20 0]⟩ ]

/-- R338. -/
def block_gcl : BlockSpec := ⟨.gcl, 0x252000, [(0x800, 4)], .bit 7, regs_gcl⟩

def regs_fr : List RegSpec :=
  [ r32 0x0 [⟨7, 0, .rw, .val 10, .range 1 255, .always⟩]
  , r32 0x4 [roF 31 16, roF 15 0]
  , r32 0x8 [roF 31 16, roF 15 0] ]

/-- R338. -/
def block_fr : BlockSpec := ⟨.fr, 0x254000, [], .bit 7, regs_fr⟩

def regs_ms : List RegSpec :=
  [ r32 0x0 [plainF 31 31 .rw 0, plainF 9 9 .rw 0, plainF 8 8 .rw 0, plainF 7 0 .rw 0]
  , r32 0x4 [roF 31 16, roF 15 0] ]

/-- R338. -/
def block_ms : BlockSpec := ⟨.ms, 0x255000, [(0x100, 4)], .bit 7, regs_ms⟩

def regs_rm : List RegSpec :=
  [ r32 0x0 [⟨31, 31, .rw, .val 0, .any, .morning⟩, ⟨25, 16, .rw, .val 0, .any, .morning⟩, ⟨15, 0, .rw, .val 34997, .any, .morning⟩]
  , r32 0x4 [⟨20, 0, .rw, .val 5000, .any, .morning⟩]
  , r32 0x8 [⟨20, 0, .rw, .val 25000, .any, .morning⟩]
  , r32 0xC [⟨31, 24, .rw, .val 64, .range 16 255, .morning⟩, ⟨19, 16, .rw, .val 2, .any, .morning⟩, ⟨15, 0, .rw, .val 2500, .range 1000 12499, .morning⟩]
  , r32 0x10 [plainF 18 16 .rw 1, plainF 15 8 .rw 4, plainF 7 0 .ro 1]
  , r32 0x14 [plainF 31 31 .wo 0, roF 30 30, plainF 29 29 .w1c 0, plainF 7 0 .rw 0]
  , r64 0x18 [plainF 63 0 .rw 0]
  , r64 0x20 [⟨47, 0, .rw, .val 3298534883328, .any, .morning⟩]
  , r32 0x28 [⟨11, 0, .rw, .val 1, .range 1 4094, .morning⟩]
  , r32 0x2C [⟨31, 31, .rw, .val 1, .any, .morning⟩, ⟨30, 30, .rw, .val 0, .any, .morning⟩, ⟨1, 0, .rw, .val 0, .any, .morning⟩]
  , r32 0x30 [roF 4 4, roF 3 3, plainF 1 1 .w1c 0, plainF 0 0 .w1c 0]
  , r32 0x34 [roF 31 16, roF 15 0]
  , r32 0x38 [roF 31 16, roF 15 0]
  , r32 0x3C [roF 31 16, roF 15 0]
  , r32 0x40 [roF 31 16, roF 15 0]
  , r32 0x44 [roF 31 16, roF 15 0]
  , r32 0x48 [roF 31 16, roF 15 0]
  , r32 0x4C [roF 31 16, roF 15 0]
  , r32 0x50 [plainF 0 0 .wo 0]
  , ⟨0x60, false, 8, 0x4, false, [plainF 31 31 .rw 0, plainF 9 0 .rw 0]⟩ ]

/-- R375. -/
def block_rm : BlockSpec := ⟨.rm, 0x260000, [], .bit 7, regs_rm⟩

def regs_pub : List RegSpec :=
  [ r32 0x0 [plainF 31 31 .rw 0, plainF 26 24 .rw 0, plainF 23 16 .rw 0, plainF 15 0 .rw 0]
  , r32 0x4 [plainF 10 0 .rw 0]
  , r32 0x8 [plainF 31 0 .rw 0]
  , r32 0xC [plainF 7 0 .rw 0] ]

/-- R376. -/
def block_pub : BlockSpec := ⟨.pub, 0x261000, [(0x10, 128)], .bit 7, regs_pub⟩

def regs_sub : List RegSpec :=
  [ r32 0x0 [plainF 31 31 .rw 0, plainF 26 24 .rw 0, plainF 23 16 .rw 0, plainF 15 0 .rw 0]
  , r32 0x4 [plainF 25 16 .rw 0, plainF 10 0 .rw 0]
  , r32 0x8 [plainF 31 0 .rw 0]
  , r32 0xC [plainF 7 0 .rw 0] ]

/-- R376. -/
def block_sub : BlockSpec := ⟨.sub, 0x262000, [(0x10, 256)], .bit 7, regs_sub⟩

def regs_subst : List RegSpec :=
  [ r32 0x0 [roF 31 0]
  , r32 0x4 [roF 31 16, roF 15 0] ]

/-- R375. -/
def block_subst : BlockSpec := ⟨.subst, 0x263000, [(0x8, 256)], .bit 7, regs_subst⟩

def regs_bt : List RegSpec :=
  [ r32 0x0 [roF 31 31, roF 25 24, roF 23 16, roF 9 0]
  , r32 0x4 [roF 31 24, roF 15 0]
  , r32 0x8 [roF 31 0] ]

/-- R376. -/
def block_bt : BlockSpec := ⟨.bt, 0x264000, [(0x10, 64)], .bit 7, regs_bt⟩

def regs_rsafe : List RegSpec :=
  [ r32 0x0 [roF 31 31, roF 30 30, roF 25 16, roF 15 0]
  , r32 0x4 [roF 31 16, roF 15 0]
  , r32 0x8 [roF 15 0]
  , r32 0xC [roF 15 0] ]

/-- R376. -/
def block_rsafe : BlockSpec := ⟨.rsafe, 0x265000, [(0x10, 32)], .bit 7, regs_rsafe⟩

def regs_tw : List RegSpec :=
  [ r32 0x0 [⟨31, 31, .rw, .val 0, .any, .morning⟩, ⟨27, 16, .rw, .val 1200, .range 400 4095, .morning⟩]
  , r32 0x4 [roF 31 31, roF 30 30, roF 29 29, roF 28 28, roF 27 26, roF 25 25, roF 24 24, roF 23 23, roF 22 22, roF 21 21, roF 20 20, plainF 19 19 .w1c 0, plainF 18 18 .w1c 0, plainF 17 17 .w1c 0, plainF 16 16 .w1c 0, plainF 15 15 .w1c 0]
  , r32 0x8 [plainF 2 2 .rw 1, plainF 1 1 .rw 1, plainF 0 0 .rw 1]
  , r32 0xC [plainF 31 31 .wo 0, roF 30 30, plainF 29 29 .w1c 0]
  , r64 0x10 [plainF 63 0 .rw 0]
  , r32 0x18 [roF 31 0]
  , r32 0x1C [⟨31, 0, .rw, .val 65536, .range 0 2147483647, .always⟩]
  , r32 0x20 [roF 11 0]
  , r32 0x24 [roF 31 16, roF 15 0]
  , r32 0x28 [roF 31 16, roF 15 0]
  , r32 0x2C [roF 31 16, roF 15 0]
  , r32 0x30 [plainF 1 1 .wo 0, plainF 0 0 .wo 0] ]

/-- R398; R399. -/
def block_tw : BlockSpec := ⟨.tw, 0x270000, [], .bit 14, regs_tw⟩

def regs_sf : List RegSpec :=
  [ r32 0x0 [roF 31 31, roF 30 29, roF 28 27, plainF 26 26 .ro 1, plainF 25 25 .ro 1, roF 24 24, roF 23 23, roF 22 22, roF 21 21, roF 20 20, roF 19 19, roF 18 18, roF 17 17, roF 15 8, roF 7 0]
  , r32 0x4 [roF 31 28, roF 27 24, roF 23 22]
  , r32 0x8 [roF 31 0]
  , r32 0xC [roF 31 0]
  , r32 0x10 [roF 31 0]
  , r64 0x18 [roF 63 0]
  , r32 0x20 [roF 23 16, roF 15 8, roF 7 0]
  , r32 0x24 [roF 27 16, roF 11 0]
  , r32 0x28 [roF 31 16, roF 15 0]
  , ⟨0x80, false, 8, 0x4, false, [roF 31 31, roF 30 30, roF 29 29, roF 15 0]⟩ ]

/-- R433; R434. -/
def block_sf : BlockSpec := ⟨.sf, 0x280000, [], .never, regs_sf⟩

def regs_sfax : List RegSpec :=
  [ r64 0x0 [roF 63 32, plainF 31 31 .ro 1, roF 30 30, roF 29 29, roF 28 28, roF 27 27, roF 26 25, roF 24 24, roF 23 23, roF 22 22, roF 15 15, roF 14 12, roF 11 11] ]

/-- R434. -/
def block_sfax : BlockSpec := ⟨.sfax, 0x280100, [(0x8, 64)], .never, regs_sfax⟩

def regs_dio : List RegSpec :=
  [ r32 0x0 [⟨31, 31, .rw, .val 0, .any, .morning⟩, ⟨30, 30, .rw, .val 0, .any, .morning⟩, ⟨29, 29, .rw, .val 0, .any, .morning⟩, ⟨28, 27, .rw, .val 0, .range 0 2, .morning⟩, ⟨26, 26, .rw, .val 0, .any, .morning⟩, ⟨25, 25, .rw, .val 0, .any, .morning⟩, ⟨15, 0, .rw, .val 0, .any, .morning⟩]
  , r32 0x4 [roF 6 6, roF 5 5, plainF 4 4 .w1c 0, plainF 3 3 .w1c 0, plainF 2 2 .w1c 0, plainF 1 1 .w1c 0]
  , r32 0x8 [roF 31 0] ]

/-- R452; R453. -/
def block_dio : BlockSpec := ⟨.dio, 0xF0000, [(0x10, 32)], .bit 9, regs_dio⟩

def regs_diog : List RegSpec :=
  [ r32 0x0 [roF 31 0]
  , r32 0x4 [roF 31 0]
  , r32 0x8 [plainF 31 0 .rw 0]
  , r32 0xC [plainF 31 0 .wo 0]
  , r32 0x10 [plainF 31 0 .wo 0] ]

/-- R452. -/
def block_diog : BlockSpec := ⟨.diog, 0xF0400, [], .bit 9, regs_diog⟩

def regs_fg : List RegSpec :=
  [ r32 0x0 [⟨0, 0, .rw, .val 0, .any, .morning⟩]
  , r32 0x4 [roF 31 16, plainF 5 5 .w1c 0, roF 4 4, plainF 2 0 .ro 3]
  , r32 0x8 [plainF 2 2 .wo 0, plainF 1 1 .wo 0, plainF 0 0 .wo 0]
  , r32 0xC [roF 31 16, roF 15 0] ]

/-- R452; R453. -/
def block_fg : BlockSpec := ⟨.fg, 0xF0800, [(0x10, 4)], .bit 9, regs_fg⟩

def regs_ai : List RegSpec :=
  [ r32 0x0 [⟨31, 31, .rw, .val 0, .any, .morning⟩, ⟨29, 28, .rw, .val 0, .range 0 2, .morning⟩, ⟨18, 16, .rw, .val 0, .range 0 4, .morning⟩, ⟨7, 0, .rw, .val 16, .any, .morning⟩]
  , r32 0x4 [roF 31 0]
  , r32 0x8 [roF 31 0]
  , r32 0xC [roF 3 3, plainF 2 2 .w1c 0, roF 0 0] ]

/-- R452. -/
def block_ai : BlockSpec := ⟨.ai, 0xF1000, [(0x20, 8)], .bit 9, regs_ai⟩

def regs_can : List RegSpec :=
  [ r32 0x0 [plainF 31 31 .rw 1, ⟨30, 30, .rw, .val 0, .any, .halted⟩, ⟨29, 29, .rw, .val 0, .any, .halted⟩, ⟨28, 28, .rw, .val 0, .any, .halted⟩, ⟨27, 27, .rw, .val 0, .any, .halted⟩, ⟨26, 26, .rw, .val 1, .any, .halted⟩, ⟨25, 25, .rw, .val 0, .any, .halted⟩, ⟨24, 24, .rw, .val 0, .any, .halted⟩, plainF 23 23 .wo 0]
  , r32w 0x4 [⟨31, 24, .rw, .val 1, .any, .halted⟩, ⟨23, 16, .rw, .val 62, .own 1 255, .halted⟩, ⟨14, 8, .rw, .val 15, .own 1 127, .halted⟩, ⟨6, 0, .rw, .val 15, .any, .halted⟩]
  , r32w 0x8 [⟨31, 28, .rw, .val 7, .any, .halted⟩, ⟨27, 24, .rw, .val 7, .any, .halted⟩, ⟨20, 16, .rw, .val 30, .any, .halted⟩, ⟨4, 0, .rw, .val 0, .any, .halted⟩]
  , r32 0xC [⟨30, 24, .rw, .val 32, .any, .halted⟩, roF 6 0]
  , r32 0x10 [roF 16 8, roF 7 0]
  , r32 0x14 [roF 14 12, roF 10 8, roF 7 7, roF 6 6, roF 5 5, plainF 4 4 .w1c 0, plainF 3 3 .w1c 0, plainF 2 2 .w1c 0]
  , r32 0x18 [roF 31 16, roF 15 0]
  , r32 0x1C [roF 31 31, roF 28 0]
  , r32 0x20 [⟨31, 31, .rw, .val 0, .any, .halted⟩, ⟨25, 24, .rw, .val 0, .any, .halted⟩, ⟨21, 16, .rw, .val 0, .range 0 56, .halted⟩, ⟨3, 0, .rw, .val 0, .any, .halted⟩]
  , r32 0x24 [plainF 31 31 .rw 0, roF 20 16, roF 13 8, roF 7 0]
  , r32 0x28 [plainF 31 31 .rw 0, roF 20 16, roF 13 8, roF 7 0]
  , r32 0x2C [plainF 1 1 .wo 0, plainF 0 0 .wo 0]
  , r32 0x30 [roF 31 0]
  , r32 0x34 [roF 31 0]
  , r64 0x40 [plainF 63 0 .w1s 0]
  , r64 0x48 [plainF 63 0 .wo 0]
  , r64 0x50 [plainF 63 0 .w1c 0]
  , r64 0x58 [⟨63, 0, .rw, .val 0, .any, .halted⟩]
  , r64 0x60 [roF 63 0] ]

/-- R460; R469; R470. -/
def block_can : BlockSpec := ⟨.can, 0x240000, [(0x4000, 4)], .bit 8, regs_can⟩

def regs_canflt : List RegSpec :=
  [ r32 0x0 [⟨31, 30, .rw, .val 0, .any, .halted⟩, ⟨29, 29, .rw, .val 0, .any, .halted⟩, ⟨28, 0, .rw, .val 0, .any, .halted⟩]
  , r32 0x4 [⟨28, 0, .rw, .val 0, .any, .halted⟩] ]

/-- R469. -/
def block_canflt : BlockSpec := ⟨.canflt, 0x240080, [(0x4000, 4), (0x8, 32)], .bit 8, regs_canflt⟩

def regs_canbuf : List RegSpec :=
  [ r32 0x0 [plainF 31 31 .rw 0, plainF 30 30 .rw 0, plainF 28 0 .rw 0]
  , r32 0x4 [plainF 31 31 .rw 0, plainF 30 30 .rw 0, roF 29 29, plainF 28 28 .rw 0, plainF 3 0 .rw 0]
  , r32 0x8 [roF 31 0]
  , r32 0xC [plainF 31 31 .w1c 0, plainF 30 30 .w1c 0, plainF 29 29 .w1c 0, plainF 28 28 .w1c 0, roF 27 24]
  , r32 0x10 [plainF 31 31 .rw 0, plainF 28 0 .rw 0]
  , ⟨0x20, false, 16, 0x4, false, [plainF 31 0 .rw 0]⟩ ]

/-- R471. -/
def block_canbuf : BlockSpec := ⟨.canbuf, 0x241000, [(0x4000, 4), (0x60, 64)], .bit 8, regs_canbuf⟩

def regs_canf0 : List RegSpec :=
  [ r32 0x0 [roF 31 0]
  , r32 0x4 [roF 31 0]
  , r32 0x8 [roF 31 0]
  , r32 0xC [roF 31 0]
  , r32 0x10 [roF 31 0]
  , ⟨0x20, false, 16, 0x4, false, [roF 31 0]⟩ ]

/-- R471. -/
def block_canf0 : BlockSpec := ⟨.canf0, 0x242800, [(0x4000, 4), (0x60, 32)], .bit 8, regs_canf0⟩

def regs_canf1 : List RegSpec :=
  [ r32 0x0 [roF 31 0]
  , r32 0x4 [roF 31 0]
  , r32 0x8 [roF 31 0]
  , r32 0xC [roF 31 0]
  , r32 0x10 [roF 31 0]
  , ⟨0x20, false, 16, 0x4, false, [roF 31 0]⟩ ]

/-- R471. -/
def block_canf1 : BlockSpec := ⟨.canf1, 0x243400, [(0x4000, 4), (0x60, 32)], .bit 8, regs_canf1⟩

def regs_ring : List RegSpec :=
  [ r32w 0x0 [⟨31, 31, .rw, .val 0, .any, .ringIdle⟩, roF 30 30, ⟨29, 28, .rw, .val 3, .any, .ringIdle⟩, ⟨27, 26, .rw, .val 0, .range 0 2, .ringIdle⟩, ⟨25, 25, .rw, .val 0, .any, .ringIdle⟩, ⟨24, 24, .rw, .val 0, .any, .ringIdle⟩, ⟨12, 0, .rw, .val 0, .any, .ringIdle⟩]
  , r64 0x8 [⟨63, 0, .rw, .val 0, .any, .ringIdle⟩]
  , r64 0x10 [⟨63, 0, .rw, .val 0, .any, .ringIdle⟩]
  , r32 0x18 [plainF 15 0 .rw 0]
  , r32 0x1C [roF 15 0]
  , r32 0x20 [roF 15 0]
  , r32 0x24 [plainF 15 0 .rw 0]
  , r32 0x28 [plainF 31 16 .rw 0, plainF 7 0 .rw 0]
  , r32 0x2C [roF 31 31, roF 30 30, plainF 5 5 .w1c 0, plainF 4 4 .w1c 0, plainF 3 3 .w1c 0, plainF 2 2 .w1c 0, plainF 1 1 .w1c 0, plainF 0 0 .w1c 0]
  , r32 0x30 [roF 31 16, roF 15 0]
  , r32 0x34 [⟨31, 16, .rw, .val 0, .any, .ringOff⟩, ⟨7, 0, .rw, .val 0, .any, .ringOff⟩] ]

/-- R501. -/
def block_ring : BlockSpec := ⟨.ring, 0x10000, [(0x200, 128)], .any, regs_ring⟩

def regs_host : List RegSpec :=
  [ r32 0x0 [⟨31, 16, .rw, .val 0, .any, .morning⟩, ⟨2, 2, .rw, .val 0, .any, .morning⟩, ⟨1, 0, .rw, .val 0, .range 0 2, .morning⟩]
  , r32 0x4 [plainF 31 0 .wo 0]
  , r32 0x8 [plainF 31 31 .w1c 0, plainF 30 30 .w1c 0, roF 5 4, roF 3 0]
  , r32 0xC [plainF 3 0 .rw 12]
  , r32 0x10 [plainF 7 0 .w1c 0]
  , r32 0x14 [plainF 7 0 .rw 255]
  , r32 0x18 [roF 31 16, roF 15 0]
  , r32 0x1C [roF 12 0]
  , r32 0x20 [plainF 1 1 .wo 0] ]

/-- R502. -/
def block_host : BlockSpec := ⟨.host, 0x400, [], .any, regs_host⟩

def regs_sysx : List RegSpec :=
  [ r32 0x0 [⟨9, 0, .wo, .val 0, .range 0 800, .morning⟩]
  , r32 0x10 [roF 16 16, roF 15 8, roF 2 0]
  , r32 0x14 [roF 31 16, roF 7 0]
  , r32 0x18 [plainF 15 0 .wo 0]
  , r32 0x1C [roF 31 31, roF 30 30, roF 29 29, roF 7 0]
  , r32 0x20 [roF 31 31, roF 30 30, roF 29 29, roF 28 28, roF 27 27, roF 26 26, roF 23 16, roF 15 0] ]

/-- R530; R612; R613. -/
def block_sysx : BlockSpec := ⟨.sysx, 0x40, [], .bit 0, regs_sysx⟩

def regs_msix : List RegSpec :=
  [ r64 0x0 [plainF 63 0 .rw 0]
  , r32 0x8 [plainF 31 0 .rw 0]
  , r32 0xC [plainF 0 0 .rw 0] ]

/-- R475. -/
def block_msix : BlockSpec := ⟨.msix, 0x20000, [(0x10, 136)], .any, regs_msix⟩

def regs_msixpba : List RegSpec :=
  [ ⟨0x0, false, 5, 0x4, false, [roF 31 0]⟩ ]

/-- R475. -/
def block_msixpba : BlockSpec := ⟨.msixpba, 0x21000, [], .any, regs_msixpba⟩

def regs_cu : List RegSpec :=
  [ r32 0x0 [plainF 30 30 .rw 0, plainF 29 29 .rw 0, plainF 28 28 .rw 0, plainF 27 27 .rw 0, plainF 26 26 .rw 0, plainF 25 24 .rw 0, plainF 19 16 .rw 0, ⟨6, 0, .rw, .val 0, .range 0 64, .always⟩]
  , r32w 0x4 [plainF 31 28 .rw 4, ⟨22, 16, .rw, .val 0, .range 0 79, .always⟩, plainF 15 0 .rw 0]
  , r32 0x8 [plainF 31 16 .rw 0, plainF 15 0 .rw 0]
  , r32 0xC [plainF 31 0 .rw 1000]
  , r32 0x10 [plainF 31 16 .rw 0, plainF 15 0 .rw 0]
  , r32 0x14 [plainF 15 0 .rw 0]
  , r32 0x18 [plainF 2 2 .wo 0, plainF 1 1 .wo 0, plainF 0 0 .wo 0]
  , r32 0x1C [roF 31 30, roF 27 24, plainF 23 23 .w1c 0, plainF 22 22 .w1c 0, roF 21 19, plainF 18 18 .w1c 0]
  , r32 0x20 [roF 31 24, roF 23 16, roF 15 8, roF 7 0]
  , ⟨0x100, false, 64, 0x4, false, [plainF 21 17 .rw 0, plainF 16 16 .rw 0, plainF 15 0 .rw 0]⟩
  , ⟨0x200, false, 8, 0x10, false, [plainF 31 31 .rw 0, plainF 30 28 .rw 0, plainF 21 16 .rw 0, plainF 4 0 .rw 0]⟩
  , ⟨0x204, false, 8, 0x10, false, [plainF 31 0 .rw 0]⟩
  , ⟨0x208, false, 8, 0x10, false, [plainF 31 0 .rw 0]⟩
  , ⟨0x20C, false, 8, 0x10, false, [plainF 15 0 .rw 1]⟩
  , ⟨0x300, true, 16, 0x20, false, [roF 63 0]⟩
  , ⟨0x308, true, 16, 0x20, false, [roF 63 0]⟩
  , ⟨0x310, false, 16, 0x20, false, [roF 31 0]⟩
  , ⟨0x314, false, 16, 0x20, false, [roF 31 0]⟩
  , ⟨0x318, false, 16, 0x20, false, [roF 31 31, roF 30 30, roF 29 29, roF 28 28, roF 27 27, roF 26 26, roF 7 0]⟩
  , ⟨0x31C, false, 16, 0x20, false, [roF 31 0]⟩ ]

/-- R564; R565. -/
def block_cu : BlockSpec := ⟨.cu, 0x290000, [(0x1000, 8)], .bit 11, regs_cu⟩

def regs_cug : List RegSpec :=
  [ r32 0x0 [plainF 0 0 .rw 0]
  , r32 0x4 [plainF 31 31 .rw 0, plainF 6 0 .rw 0]
  , ⟨0x8, false, 4, 0x4, false, [plainF 31 31 .rw 0, plainF 7 0 .rw 0]⟩ ]

/-- R564. -/
def block_cug : BlockSpec := ⟨.cug, 0x29F000, [], .bit 11, regs_cug⟩

def regs_log : List RegSpec :=
  [ r64 0x0 [plainF 63 0 .rw 0]
  , r32 0x8 [plainF 0 0 .wo 0]
  , r32 0xC [roF 31 31, roF 30 30, roF 29 29, roF 28 28, roF 27 27]
  , ⟨0x20, false, 8, 0x4, false, [roF 31 0]⟩
  , r64 0x40 [roF 63 0]
  , r64 0x48 [roF 63 0]
  , r32 0x50 [roF 31 31, plainF 30 30 .w1c 0, roF 29 29, roF 28 28, roF 8 0]
  , r32 0x54 [roF 31 16, roF 15 0]
  , r32 0x58 [⟨31, 16, .rw, .val 60, .range 1 3600, .always⟩, plainF 15 0 .rw 1000]
  , r32 0x5C [roF 31 24, roF 23 0]
  , r32 0x60 [roF 31 0]
  , r64 0x68 [roF 63 0]
  , ⟨0x1000, false, 1024, 0x4, false, [roF 31 0]⟩ ]

/-- R583; R584. -/
def block_log : BlockSpec := ⟨.log, 0x2A0000, [], .bit 12, regs_log⟩

def regs_sec : List RegSpec :=
  [ r32 0x0 [roF 31 31, roF 30 30, roF 29 29, roF 7 0]
  , r32 0x4 [plainF 4 0 .w1c 0]
  , r32 0x8 [plainF 9 0 .rw 22]
  , r32 0xC [roF 31 31, roF 15 0]
  , r64 0x10 [plainF 63 0 .w1c 0]
  , r64 0x18 [roF 63 0]
  , ⟨0x20, false, 5, 0x4, false, [roF 31 0]⟩
  , r32 0x34 [roF 31 0]
  , r32 0x40 [roF 31 16, roF 15 0]
  , r32 0x44 [roF 31 16, roF 15 8, roF 7 0]
  , r32 0x48 [plainF 0 0 .wo 0]
  , ⟨0x100, false, 16, 0x4, false, [roF 31 0]⟩ ]

/-- R600. -/
def block_sec : BlockSpec := ⟨.sec, 0x2B0000, [], .bit 13, regs_sec⟩

/-- Every block of registers. -/
def regMap : List BlockSpec :=
  [block_sys, block_tb, block_ctok, block_ep, block_ax, block_ls, block_grp, block_li,
   block_co, block_rc, block_axl, block_lpinj, block_sdclk, block_sd, block_cle, block_slot,
   block_bank, block_pwm, block_pwmx, block_atc, block_gtrip, block_lp, block_nt, block_port,
   block_gcl, block_fr, block_ms, block_rm, block_pub, block_sub, block_subst, block_bt,
   block_rsafe, block_tw, block_sf, block_sfax, block_dio, block_diog, block_fg, block_ai,
   block_can, block_canflt, block_canbuf, block_canf0, block_canf1, block_ring, block_host, block_sysx,
   block_msix, block_msixpba, block_cu, block_cug, block_log, block_sec]

/-- The indices of an offset inside an array of instances, outermost first, and what remains of it. -/
def splitDims : List (Nat × Nat) → Nat → Option (List Nat × Nat)
  | [], r => some ([], r)
  | (st, ct) :: ds, r =>
    if r / st < ct then (splitDims ds (r % st)).map fun p => (r / st :: p.1, p.2) else none

/-- A word of the register map: its block, instance indices, register, index in a register array, and whether it is the
high word of a 64-bit register. -/
structure Hit where
  blk : Blk
  cls : Cls
  idx : List Nat
  reg : RegSpec
  arr : Nat
  high : Bool
  deriving DecidableEq, Repr

/-- The register of a list that holds offset `r`, its array index, and whether `r` is its high word. -/
def findReg : List RegSpec → Nat → Option (RegSpec × Nat × Bool)
  | [], _ => none
  | s :: rest, r =>
    if s.off ≤ r then
      let d := r - s.off
      let i := if s.stride = 0 then 0 else d / s.stride
      let e := if s.stride = 0 then d else d % s.stride
      if i < s.cnt && (e == 0 || (s.wide && e == 4)) then some (s, i, e == 4) else findReg rest r
    else findReg rest r

/-- The word of the register map at a BAR0 offset; none where no register lies. -/
def lookupIn : List BlockSpec → Nat → Option Hit
  | [], _ => none
  | b :: bs, a =>
    if b.base ≤ a then
      match splitDims b.dims (a - b.base) with
      | some (ix, r) =>
        match findReg b.regs r with
        | some (s, j, h) => some ⟨b.blk, b.cls, ix, s, j, h⟩
        | none => lookupIn bs a
      | none => lookupIn bs a
    else lookupIn bs a

def lookupReg (a : Nat) : Option Hit := lookupIn regMap a

/-- The first instance index of a word, 0 for a single block; a leg slot or a bank is numbered by its axis. -/
def Hit.inst (h : Hit) : Nat :=
  match h.blk with
  | .slot | .bank => 4 * h.idx.getD 0 0 + h.idx.getD 1 0
  | _ => h.idx.getD 0 0

/-- The reset value of a field, by the instance it lies in. -/
def Rst.value (n : Nat) : Rst → Nat
  | .val v => v
  | .inst => n
  | .inst32 => n % 32
  | .fb1 => if n < 32 then n else 0x3E
  | .axA => 1
  | .axB => if n < 32 then 2 else if n < 64 then 1 else 0
  | .axC => if n < 32 then 5 else 0

/-- The reset value of the register a word belongs to. -/
def Hit.resetValue (h : Hit) : Nat :=
  h.reg.fields.foldl (fun v f => v + (f.rst.value h.inst) * 2 ^ f.lo) 0

/-- What the word at a BAR0 offset holds after reset. -/
def regReset (a : Nat) : BitVec 32 :=
  match lookupReg a with
  | some h => if h.high then BitVec.ofNat 32 (h.resetValue / 2 ^ 32) else BitVec.ofNat 32 h.resetValue
  | none => 0

/-- R38. -/
def SYS_ID : Nat := 0x0
def SYS_ID_PART : Fld := ⟨16, 16⟩
def SYS_ID_REVN : Fld := ⟨12, 4⟩
def SYS_ID_VARIANT : Fld := ⟨8, 4⟩
/-- R20. -/
def SYS_CLK : Nat := 0x10
def SYS_CLK_LOCK : Fld := ⟨7, 1⟩
def SYS_CLK_REF_LOST : Fld := ⟨6, 1⟩
def SYS_CLK_ACTIVE_SRC : Fld := ⟨4, 2⟩
def SYS_CLK_AUTO_RET : Fld := ⟨3, 1⟩
def SYS_CLK_SRC : Fld := ⟨0, 2⟩
/-- R29. -/
def SYS_EXPERT : Nat := 0x20
def SYS_EXPERT_HI : Fld := ⟨11, 4⟩
def SYS_EXPERT_LO : Fld := ⟨0, 10⟩
/-- R33. -/
def SYS_HAMODE : Nat := 0x24
def SYS_HAMODE_SEL : Fld := ⟨0, 6⟩
/-- R38. -/
def SYS_BADACC : Nat := 0x30
def SYS_BADACC_COUNT : Fld := ⟨24, 8⟩
def SYS_BADACC_OFFSET : Fld := ⟨2, 22⟩
def SYS_BADACC_REASON : Fld := ⟨1, 1⟩
def SYS_BADACC_CLR : Fld := ⟨0, 1⟩
/-- R46. -/
def TB_FRAME : Nat := 0x100
def TB_FRAME_SLIP : Fld := ⟨31, 1⟩
def TB_FRAME_SLEW : Fld := ⟨30, 1⟩
def TB_FRAME_M : Fld := ⟨0, 8⟩
/-- R44. -/
def TB_TICK : Nat := 0x108
/-- R45. -/
def TB_FCOUNT : Nat := 0x110
/-- R47. -/
def TB_PHERR : Nat := 0x118
/-- R61. -/
def CTOK_CTRL (n : Nat) : Nat := 0x200 + 0x20 * n
def CTOK_CTRL_ARM : Fld := ⟨31, 1⟩
def CTOK_CTRL_CANCEL : Fld := ⟨30, 1⟩
def CTOK_CTRL_HELD : Fld := ⟨29, 1⟩
def CTOK_CTRL_STATE : Fld := ⟨4, 3⟩
def CTOK_CTRL_NEXT : Fld := ⟨0, 1⟩
/-- R61. -/
def CTOK_PWM (n : Nat) : Nat := 0x204 + 0x20 * n
/-- R61. -/
def CTOK_CLE (n : Nat) : Nat := 0x208 + 0x20 * n
/-- R61. -/
def CTOK_LP (n : Nat) : Nat := 0x20C + 0x20 * n
def CTOK_LP_V : Fld := ⟨0, 16⟩
/-- R61. -/
def CTOK_TARGET (n : Nat) : Nat := 0x210 + 0x20 * n
/-- R61. -/
def CTOK_DONE (n : Nat) : Nat := 0x218 + 0x20 * n
/-- R96. -/
def EP_CFG (n : Nat) : Nat := 0x40000 + 0x1000 * n
def EP_CFG_DIRINV : Fld := ⟨15, 1⟩
def EP_CFG_INTERP : Fld := ⟨14, 1⟩
def EP_CFG_PDEDGE : Fld := ⟨12, 2⟩
def EP_CFG_IDXQ : Fld := ⟨10, 2⟩
def EP_CFG_PAIRCHK : Fld := ⟨7, 3⟩
def EP_CFG_TERM : Fld := ⟨4, 3⟩
def EP_CFG_EN : Fld := ⟨3, 1⟩
def EP_CFG_MODE : Fld := ⟨0, 3⟩
/-- R97. -/
def EP_FILT (n : Nat) : Nat := 0x40004 + 0x1000 * n
def EP_FILT_WFT : Fld := ⟨16, 16⟩
def EP_FILT_ERRLIM : Fld := ⟨8, 8⟩
def EP_FILT_N : Fld := ⟨0, 8⟩
/-- R97. -/
def EP_SYNC (n : Nat) : Nat := 0x40008 + 0x1000 * n
def EP_SYNC_CYCLE : Fld := ⟨8, 2⟩
def EP_SYNC_AXIS : Fld := ⟨0, 6⟩
/-- R95. -/
def EP_WIN (n : Nat) : Nat := 0x4000C + 0x1000 * n
def EP_WIN_WIN : Fld := ⟨0, 19⟩
/-- R95. -/
def EP_STILL (n : Nat) : Nat := 0x40010 + 0x1000 * n
def EP_STILL_STILL : Fld := ⟨0, 19⟩
/-- R98. -/
def EP_SSI (n : Nat) : Nat := 0x40014 + 0x1000 * n
def EP_SSI_POSLEN : Fld := ⟨24, 6⟩
def EP_SSI_SKIP : Fld := ⟨18, 6⟩
def EP_SSI_LEN : Fld := ⟨12, 6⟩
def EP_SSI_CLKPER : Fld := ⟨0, 12⟩
/-- R98. -/
def EP_SSIT (n : Nat) : Nat := 0x40018 + 0x1000 * n
def EP_SSIT_LDC : Fld := ⟨31, 1⟩
def EP_SSIT_EXTRAP : Fld := ⟨30, 1⟩
def EP_SSIT_DELAY : Fld := ⟨16, 12⟩
def EP_SSIT_TM : Fld := ⟨0, 16⟩
/-- R95. -/
def EP_CPR (n : Nat) : Nat := 0x4001C + 0x1000 * n
def EP_CPR_CPR : Fld := ⟨0, 32⟩
/-- R97. -/
def EP_IDX (n : Nat) : Nat := 0x40020 + 0x1000 * n
def EP_IDX_CORR : Fld := ⟨24, 1⟩
def EP_IDX_MAXCORR : Fld := ⟨8, 16⟩
def EP_IDX_TOL : Fld := ⟨0, 8⟩
/-- R95. -/
def EP_PSTAMP (n : Nat) : Nat := 0x40024 + 0x1000 * n
/-- R95. -/
def EP_POS (n : Nat) : Nat := 0x40028 + 0x1000 * n
/-- R95. -/
def EP_TURN (n : Nat) : Nat := 0x40030 + 0x1000 * n
/-- R95. -/
def EP_EDGES (n : Nat) : Nat := 0x40034 + 0x1000 * n
/-- R95. -/
def EP_TFIRST (n : Nat) : Nat := 0x40038 + 0x1000 * n
def EP_TFIRST_V : Fld := ⟨0, 22⟩
/-- R95. -/
def EP_TLAST (n : Nat) : Nat := 0x4003C + 0x1000 * n
def EP_TLAST_V : Fld := ⟨0, 22⟩
/-- R95. -/
def EP_SPEED (n : Nat) : Nat := 0x40040 + 0x1000 * n
/-- R99. -/
def EP_STAT (n : Nat) : Nat := 0x40044 + 0x1000 * n
def EP_STAT_SSI_SLOW : Fld := ⟨15, 1⟩
def EP_STAT_SSI_FRAME : Fld := ⟨14, 1⟩
def EP_STAT_INDEX_BIG : Fld := ⟨13, 1⟩
def EP_STAT_INDEX_MISS : Fld := ⟨12, 1⟩
def EP_STAT_INDEX_SLIP : Fld := ⟨11, 1⟩
def EP_STAT_ERR : Fld := ⟨10, 1⟩
def EP_STAT_WF_PAIR : Fld := ⟨8, 2⟩
def EP_STAT_WIRE_FAULT : Fld := ⟨7, 1⟩
def EP_STAT_LINE_BAD : Fld := ⟨6, 1⟩
def EP_STAT_REV : Fld := ⟨5, 1⟩
def EP_STAT_LOW : Fld := ⟨4, 1⟩
def EP_STAT_STILLST : Fld := ⟨3, 1⟩
def EP_STAT_DIR : Fld := ⟨2, 1⟩
def EP_STAT_REFD : Fld := ⟨1, 1⟩
def EP_STAT_VALID : Fld := ⟨0, 1⟩
/-- R100. -/
def EP_CNT (n : Nat) : Nat := 0x40048 + 0x1000 * n
def EP_CNT_WFCNT : Fld := ⟨24, 8⟩
def EP_CNT_SLIPCNT : Fld := ⟨16, 8⟩
def EP_CNT_ERRCNT : Fld := ⟨0, 16⟩
/-- R95. -/
def EP_IDXERR (n : Nat) : Nat := 0x4004C + 0x1000 * n
/-- R95. -/
def EP_PRESET (n : Nat) : Nat := 0x40050 + 0x1000 * n
/-- R100. -/
def EP_CMD (n : Nat) : Nat := 0x40058 + 0x1000 * n
def EP_CMD_CLRFLAGS : Fld := ⟨4, 1⟩
def EP_CMD_CLRCNT : Fld := ⟨3, 1⟩
def EP_CMD_REARM : Fld := ⟨2, 1⟩
def EP_CMD_REVAL : Fld := ⟨1, 1⟩
def EP_CMD_LOAD : Fld := ⟨0, 1⟩
/-- R100. -/
def EP_LINE (n : Nat) : Nat := 0x4005C + 0x1000 * n
def EP_LINE_HSECT : Fld := ⟨8, 3⟩
def EP_LINE_WIRES : Fld := ⟨0, 6⟩
/-- R95. -/
def EP_SSIRAW (n : Nat) : Nat := 0x40060 + 0x1000 * n
def EP_SSIRAW_V : Fld := ⟨0, 48⟩
/-- R50. -/
def AX_TB (n : Nat) : Nat := 0xD0000 + 0x200 * n
def AX_TB_A : Fld := ⟨16, 8⟩
def AX_TB_B : Fld := ⟨8, 8⟩
def AX_TB_C : Fld := ⟨0, 8⟩
/-- R51. -/
def AX_PHASE (n : Nat) : Nat := 0xD0004 + 0x200 * n
def AX_PHASE_PHASE : Fld := ⟨0, 12⟩
/-- R58. -/
def AX_LAT (n : Nat) : Nat := 0xD0008 + 0x200 * n
def AX_LAT_MAX : Fld := ⟨16, 16⟩
def AX_LAT_LAST : Fld := ⟨0, 16⟩
/-- R59. -/
def AX_LATE (n : Nat) : Nat := 0xD000C + 0x200 * n
def AX_LATE_CLR : Fld := ⟨31, 1⟩
def AX_LATE_RUN : Fld := ⟨16, 8⟩
def AX_LATE_COUNT : Fld := ⟨0, 16⟩
/-- R143. -/
def AX_SRC (n : Nat) : Nat := 0xD0010 + 0x200 * n
def AX_SRC_MACT : Fld := ⟨16, 1⟩
def AX_SRC_MSEL : Fld := ⟨8, 8⟩
def AX_SRC_SRC : Fld := ⟨0, 4⟩
/-- R142. -/
def AX_GEARN (n : Nat) : Nat := 0xD0014 + 0x200 * n
def AX_GEARN_N : Fld := ⟨0, 32⟩
/-- R142. -/
def AX_GEARD (n : Nat) : Nat := 0xD0018 + 0x200 * n
def AX_GEARD_D : Fld := ⟨0, 32⟩
/-- R142. -/
def AX_GREM (n : Nat) : Nat := 0xD001C + 0x200 * n
/-- R142. -/
def AX_SPPOS (n : Nat) : Nat := 0xD0020 + 0x200 * n
/-- R142. -/
def AX_SPVEL (n : Nat) : Nat := 0xD0028 + 0x200 * n
/-- R142. -/
def AX_SPACC (n : Nat) : Nat := 0xD0030 + 0x200 * n
/-- R142. -/
def AX_PHOFS (n : Nat) : Nat := 0xD0038 + 0x200 * n
/-- R142. -/
def AX_MPOS (n : Nat) : Nat := 0xD0040 + 0x200 * n
/-- R142. -/
def AX_CAMSW (n : Nat) : Nat := 0xD0048 + 0x200 * n
/-- R142. -/
def AX_VSTEP (n : Nat) : Nat := 0xD0050 + 0x200 * n
/-- R142. -/
def AX_DSDEC (n : Nat) : Nat := 0xD0058 + 0x200 * n
/-- R142. -/
def AX_DSJERK (n : Nat) : Nat := 0xD0060 + 0x200 * n
/-- R143. -/
def AX_CAM (n : Nat) : Nat := 0xD0068 + 0x200 * n
def AX_CAM_PEND : Fld := ⟨31, 1⟩
def AX_CAM_CAM_OUT : Fld := ⟨30, 1⟩
def AX_CAM_PERIODIC : Fld := ⟨29, 1⟩
def AX_CAM_ABS : Fld := ⟨25, 1⟩
def AX_CAM_DIRB : Fld := ⟨24, 1⟩
def AX_CAM_NEXT : Fld := ⟨16, 8⟩
def AX_CAM_ARM : Fld := ⟨15, 1⟩
def AX_CAM_TABLE : Fld := ⟨0, 8⟩
/-- R142. -/
def AX_SEGQ (n : Nat) : Nat := 0xD006C + 0x200 * n
def AX_SEGQ_QUEUED : Fld := ⟨16, 10⟩
def AX_SEGQ_MOVE : Fld := ⟨0, 16⟩
/-- R142. -/
def AX_TOFS (n : Nat) : Nat := 0xD0070 + 0x200 * n
def AX_TOFS_TOFS : Fld := ⟨0, 32⟩
/-- R142. -/
def AX_HS (n : Nat) : Nat := 0xD0074 + 0x200 * n
def AX_HS_HSLIM : Fld := ⟨0, 8⟩
/-- R142. -/
def AX_AIK (n : Nat) : Nat := 0xD0078 + 0x200 * n
def AX_AIK_AIK : Fld := ⟨0, 32⟩
/-- R142. -/
def AX_AICFG (n : Nat) : Nat := 0xD007C + 0x200 * n
def AX_AICFG_DB : Fld := ⟨8, 16⟩
def AX_AICFG_SHIFT : Fld := ⟨0, 6⟩
/-- R143. -/
def AX_STAT (n : Nat) : Nat := 0xD0080 + 0x200 * n
def AX_STAT_DUSK : Fld := ⟨11, 1⟩
def AX_STAT_MSYNC_STOP : Fld := ⟨10, 1⟩
def AX_STAT_HS_LATE : Fld := ⟨9, 1⟩
def AX_STAT_AI_INV : Fld := ⟨8, 1⟩
def AX_STAT_CAM_REFUSED : Fld := ⟨7, 1⟩
def AX_STAT_GEAR_REFUSED : Fld := ⟨6, 1⟩
def AX_STAT_SEG_JOIN : Fld := ⟨5, 1⟩
def AX_STAT_UNDERRUN : Fld := ⟨4, 1⟩
def AX_STAT_LS_STEP : Fld := ⟨3, 1⟩
def AX_STAT_MLOST : Fld := ⟨2, 1⟩
def AX_STAT_COAST : Fld := ⟨1, 1⟩
def AX_STAT_BUSY : Fld := ⟨0, 1⟩
/-- R142. -/
def AX_CNT (n : Nat) : Nat := 0xD0084 + 0x200 * n
def AX_CNT_COASTED : Fld := ⟨16, 16⟩
def AX_CNT_LATEPTS : Fld := ⟨0, 16⟩
/-- R142. -/
def AX_MOD (n : Nat) : Nat := 0xD0088 + 0x200 * n
/-- R144. -/
def LS_CFG (n : Nat) : Nat := 0xDC000 + 0x100 * n
def LS_CFG_EN : Fld := ⟨31, 1⟩
def LS_CFG_ROLE : Fld := ⟨30, 1⟩
def LS_CFG_SRCAX : Fld := ⟨8, 8⟩
def LS_CFG_SUB : Fld := ⟨0, 8⟩
/-- R144. -/
def LS_COAST (n : Nat) : Nat := 0xDC004 + 0x100 * n
def LS_COAST_LSCOAST : Fld := ⟨0, 8⟩
/-- R144. -/
def LS_DEC (n : Nat) : Nat := 0xDC008 + 0x100 * n
/-- R144. -/
def LS_JERK (n : Nat) : Nat := 0xDC010 + 0x100 * n
/-- R144. -/
def LS_TOL (n : Nat) : Nat := 0xDC018 + 0x100 * n
/-- R144. -/
def LS_STAMP (n : Nat) : Nat := 0xDC020 + 0x100 * n
/-- R144. -/
def LS_STAT (n : Nat) : Nat := 0xDC028 + 0x100 * n
def LS_STAT_LAG : Fld := ⟨8, 8⟩
def LS_STAT_LOST : Fld := ⟨2, 1⟩
def LS_STAT_COAST : Fld := ⟨1, 1⟩
def LS_STAT_VALID : Fld := ⟨0, 1⟩
/-- R144. -/
def LS_CNT (n : Nat) : Nat := 0xDC02C + 0x100 * n
def LS_CNT_OLD : Fld := ⟨16, 16⟩
def LS_CNT_MISSED : Fld := ⟨0, 16⟩
/-- R145. -/
def GRP_MEMB0 (n : Nat) : Nat := 0xDE000 + 0x100 * n
/-- R145. -/
def GRP_MEMB1 (n : Nat) : Nat := 0xDE004 + 0x100 * n
/-- R145. -/
def GRP_CFG (n : Nat) : Nat := 0xDE008 + 0x100 * n
def GRP_CFG_SYNC : Fld := ⟨16, 1⟩
def GRP_CFG_LA : Fld := ⟨0, 9⟩
/-- R145. -/
def GRP_CTOL (n : Nat) : Nat := 0xDE010 + 0x100 * n
/-- R145. -/
def GRP_CHTOL (n : Nat) : Nat := 0xDE018 + 0x100 * n
/-- R145. -/
def GRP_SCALE (n : Nat) (j : Nat) : Nat := 0xDE020 + 0x100 * n + 0x4 * j
/-- R145. -/
def GRP_VMAX (n : Nat) : Nat := 0xDE040 + 0x100 * n
/-- R145. -/
def GRP_AMAX (n : Nat) : Nat := 0xDE048 + 0x100 * n
/-- R145. -/
def GRP_JMAX (n : Nat) : Nat := 0xDE050 + 0x100 * n
/-- R169. -/
def LI_CFG (n : Nat) : Nat := 0xC0000 + 0x40 * n
def LI_CFG_SRC : Fld := ⟨24, 8⟩
def LI_CFG_N : Fld := ⟨16, 8⟩
def LI_CFG_IDXP : Fld := ⟨10, 6⟩
def LI_CFG_EDGE : Fld := ⟨8, 2⟩
def LI_CFG_OVFMODE : Fld := ⟨4, 1⟩
def LI_CFG_ISEL : Fld := ⟨3, 1⟩
def LI_CFG_SE : Fld := ⟨2, 1⟩
def LI_CFG_TERM : Fld := ⟨1, 1⟩
def LI_CFG_EN : Fld := ⟨0, 1⟩
/-- R169. -/
def LI_STAT (n : Nat) : Nat := 0xC0004 + 0x40 * n
def LI_STAT_GLITCH : Fld := ⟨24, 8⟩
def LI_STAT_OVFCNT : Fld := ⟨8, 16⟩
def LI_STAT_OVF : Fld := ⟨5, 1⟩
def LI_STAT_LEVEL : Fld := ⟨0, 5⟩
/-- R168. -/
def LI_ESTAMP (n : Nat) : Nat := 0xC0008 + 0x40 * n
/-- R168. -/
def LI_EPOS (n : Nat) : Nat := 0xC0010 + 0x40 * n
/-- R168. -/
def LI_EFLAG (n : Nat) : Nat := 0xC0018 + 0x40 * n
def LI_EFLAG_PINV : Fld := ⟨1, 1⟩
def LI_EFLAG_RISING : Fld := ⟨0, 1⟩
/-- R168. -/
def LI_CMD (n : Nat) : Nat := 0xC001C + 0x40 * n
def LI_CMD_CLRCNT : Fld := ⟨2, 1⟩
def LI_CMD_CLR : Fld := ⟨1, 1⟩
def LI_CMD_POP : Fld := ⟨0, 1⟩
/-- R169. -/
def CO_CFG (n : Nat) : Nat := 0xC1000 + 0x40 * n
def CO_CFG_SRCP : Fld := ⟨24, 6⟩
def CO_CFG_DWIDTH : Fld := ⟨5, 19⟩
def CO_CFG_WRAP : Fld := ⟨4, 1⟩
def CO_CFG_IDLE : Fld := ⟨3, 1⟩
def CO_CFG_EN : Fld := ⟨2, 1⟩
/-- R168. -/
def CO_LIST (n : Nat) : Nat := 0xC1004 + 0x40 * n
def CO_LIST_BASE : Fld := ⟨16, 16⟩
def CO_LIST_COUNT : Fld := ⟨0, 13⟩
/-- R168. -/
def CO_CYCOFS (n : Nat) : Nat := 0xC1008 + 0x40 * n
/-- R168. -/
def CO_PTR (n : Nat) : Nat := 0xC1010 + 0x40 * n
def CO_PTR_V : Fld := ⟨0, 12⟩
/-- R168. -/
def CO_CYC (n : Nat) : Nat := 0xC1014 + 0x40 * n
/-- R169. -/
def CO_STAT (n : Nat) : Nat := 0xC1018 + 0x40 * n
def CO_STAT_JUMP : Fld := ⟨8, 1⟩
def CO_STAT_ARMED : Fld := ⟨7, 1⟩
def CO_STAT_DONE : Fld := ⟨6, 1⟩
def CO_STAT_BEHIND : Fld := ⟨5, 1⟩
def CO_STAT_LATEFIRED : Fld := ⟨4, 1⟩
def CO_STAT_WCLAMP : Fld := ⟨3, 1⟩
def CO_STAT_BADENT : Fld := ⟨2, 1⟩
def CO_STAT_SRCINV : Fld := ⟨1, 1⟩
def CO_STAT_ACTIVE : Fld := ⟨0, 1⟩
/-- R168. -/
def CO_CMD (n : Nat) : Nat := 0xC101C + 0x40 * n
def CO_CMD_START : Fld := ⟨20, 12⟩
def CO_CMD_CLRCNT : Fld := ⟨2, 1⟩
def CO_CMD_DISARM : Fld := ⟨1, 1⟩
def CO_CMD_ARM : Fld := ⟨0, 1⟩
/-- R168. -/
def CO_FIRED (n : Nat) : Nat := 0xC1020 + 0x40 * n
/-- R168. -/
def RC_CFG (n : Nat) : Nat := 0xC2000 + 0x80 * n
def RC_CFG_EN : Fld := ⟨31, 1⟩
def RC_CFG_CLRTGT : Fld := ⟨30, 1⟩
def RC_CFG_FAX : Fld := ⟨0, 6⟩
/-- R168. -/
def RC_EXPECT (n : Nat) : Nat := 0xC2008 + 0x80 * n
/-- R168. -/
def RC_REPEAT (n : Nat) : Nat := 0xC2010 + 0x80 * n
/-- R168. -/
def RC_WIN (n : Nat) : Nat := 0xC2018 + 0x80 * n
/-- R168. -/
def RC_GAIN (n : Nat) : Nat := 0xC2020 + 0x80 * n
def RC_GAIN_KP : Fld := ⟨16, 16⟩
def RC_GAIN_KF : Fld := ⟨0, 16⟩
/-- R168. -/
def RC_GAINX (n : Nat) : Nat := 0xC2024 + 0x80 * n
def RC_GAINX_KP16 : Fld := ⟨1, 1⟩
def RC_GAINX_KF16 : Fld := ⟨0, 1⟩
/-- R168. -/
def RC_DB (n : Nat) : Nat := 0xC2028 + 0x80 * n
/-- R168. -/
def RC_LIMIT (n : Nat) : Nat := 0xC2030 + 0x80 * n
/-- R168. -/
def RC_RATE (n : Nat) : Nat := 0xC2038 + 0x80 * n
/-- R168. -/
def RC_MISS (n : Nat) : Nat := 0xC203C + 0x80 * n
def RC_MISS_MISSLIM : Fld := ⟨0, 8⟩
/-- R168. -/
def RC_ERR (n : Nat) : Nat := 0xC2040 + 0x80 * n
/-- R168. -/
def RC_TGT (n : Nat) : Nat := 0xC2048 + 0x80 * n
/-- R168. -/
def RC_HTGT (n : Nat) : Nat := 0xC2050 + 0x80 * n
/-- R169. -/
def RC_STAT (n : Nat) : Nat := 0xC2058 + 0x80 * n
def RC_STAT_NOGEAR : Fld := ⟨5, 1⟩
def RC_STAT_HOLD : Fld := ⟨4, 1⟩
def RC_STAT_MISS : Fld := ⟨3, 1⟩
def RC_STAT_LIM : Fld := ⟨2, 1⟩
def RC_STAT_SETTLED : Fld := ⟨1, 1⟩
def RC_STAT_ACTIVEMARK : Fld := ⟨0, 1⟩
/-- R168. -/
def RC_CNT (n : Nat) : Nat := 0xC205C + 0x80 * n
def RC_CNT_BADMARK : Fld := ⟨24, 8⟩
def RC_CNT_NOWIN : Fld := ⟨16, 8⟩
def RC_CNT_DOUBLE : Fld := ⟨8, 8⟩
def RC_CNT_MISSED : Fld := ⟨0, 8⟩
/-- R199. -/
def AXL_LCFG (n : Nat) : Nat := 0xD0100 + 0x200 * n
def AXL_LCFG_APPLY : Fld := ⟨31, 1⟩
def AXL_LCFG_DSH : Fld := ⟨19, 5⟩
def AXL_LCFG_FFSH : Fld := ⟨14, 5⟩
def AXL_LCFG_VSRC : Fld := ⟨13, 1⟩
def AXL_LCFG_OBSVFB : Fld := ⟨12, 1⟩
def AXL_LCFG_OBS : Fld := ⟨11, 1⟩
def AXL_LCFG_FRIC : Fld := ⟨10, 1⟩
def AXL_LCFG_COG : Fld := ⟨9, 1⟩
def AXL_LCFG_NTEN : Fld := ⟨7, 2⟩
def AXL_LCFG_BQEN : Fld := ⟨5, 2⟩
/-- R198. -/
def AXL_LFB (n : Nat) : Nat := 0xD0104 + 0x200 * n
def AXL_LFB_FB2 : Fld := ⟨16, 6⟩
def AXL_LFB_DUALLOOP : Fld := ⟨8, 1⟩
def AXL_LFB_FB1 : Fld := ⟨0, 6⟩
/-- R198. -/
def AXL_SH0 (n : Nat) : Nat := 0xD0108 + 0x200 * n
def AXL_SH0_S4 : Fld := ⟨24, 6⟩
def AXL_SH0_S3 : Fld := ⟨18, 6⟩
def AXL_SH0_S2 : Fld := ⟨12, 6⟩
def AXL_SH0_S1 : Fld := ⟨6, 6⟩
def AXL_SH0_S0 : Fld := ⟨0, 6⟩
/-- R198. -/
def AXL_SH1 (n : Nat) : Nat := 0xD010C + 0x200 * n
def AXL_SH1_S4 : Fld := ⟨24, 6⟩
def AXL_SH1_S3 : Fld := ⟨18, 6⟩
def AXL_SH1_S2 : Fld := ⟨12, 6⟩
def AXL_SH1_S1 : Fld := ⟨6, 6⟩
def AXL_SH1_S0 : Fld := ⟨0, 6⟩
/-- R198. -/
def AXL_SH2 (n : Nat) : Nat := 0xD0110 + 0x200 * n
def AXL_SH2_S4 : Fld := ⟨24, 6⟩
def AXL_SH2_S3 : Fld := ⟨18, 6⟩
def AXL_SH2_S2 : Fld := ⟨12, 6⟩
def AXL_SH2_S1 : Fld := ⟨6, 6⟩
def AXL_SH2_S0 : Fld := ⟨0, 6⟩
/-- R198. -/
def AXL_KPP (n : Nat) : Nat := 0xD0114 + 0x200 * n
/-- R198. -/
def AXL_KIP (n : Nat) : Nat := 0xD0118 + 0x200 * n
/-- R198. -/
def AXL_KDP (n : Nat) : Nat := 0xD011C + 0x200 * n
/-- R198. -/
def AXL_KDF (n : Nat) : Nat := 0xD0120 + 0x200 * n
/-- R198. -/
def AXL_KVC (n : Nat) : Nat := 0xD0124 + 0x200 * n
/-- R198. -/
def AXL_KPV (n : Nat) : Nat := 0xD0128 + 0x200 * n
/-- R198. -/
def AXL_KIV (n : Nat) : Nat := 0xD012C + 0x200 * n
/-- R198. -/
def AXL_KVFF (n : Nat) : Nat := 0xD0130 + 0x200 * n
/-- R198. -/
def AXL_KAFF (n : Nat) : Nat := 0xD0134 + 0x200 * n
/-- R198. -/
def AXL_KJFF (n : Nat) : Nat := 0xD0138 + 0x200 * n
/-- R198. -/
def AXL_OBJ (n : Nat) : Nat := 0xD013C + 0x200 * n
/-- R198. -/
def AXL_OBL1 (n : Nat) : Nat := 0xD0140 + 0x200 * n
/-- R198. -/
def AXL_OBL2 (n : Nat) : Nat := 0xD0144 + 0x200 * n
/-- R198. -/
def AXL_KOBS (n : Nat) : Nat := 0xD0148 + 0x200 * n
/-- R198. -/
def AXL_KFV (n : Nat) : Nat := 0xD014C + 0x200 * n
/-- R198. -/
def AXL_FC (n : Nat) : Nat := 0xD0150 + 0x200 * n
/-- R198. -/
def AXL_VTH (n : Nat) : Nat := 0xD0154 + 0x200 * n
/-- R198. -/
def AXL_TLIMP (n : Nat) : Nat := 0xD0158 + 0x200 * n
/-- R198. -/
def AXL_TLIMN (n : Nat) : Nat := 0xD015C + 0x200 * n
/-- R198. -/
def AXL_VLIM (n : Nat) : Nat := 0xD0160 + 0x200 * n
/-- R198. -/
def AXL_IMAXP (n : Nat) : Nat := 0xD0164 + 0x200 * n
/-- R198. -/
def AXL_IMAXV (n : Nat) : Nat := 0xD0168 + 0x200 * n
/-- R198. -/
def AXL_CORRRATE (n : Nat) : Nat := 0xD016C + 0x200 * n
/-- R198. -/
def AXL_FELIM (n : Nat) : Nat := 0xD0170 + 0x200 * n
/-- R198. -/
def AXL_FBDEV (n : Nat) : Nat := 0xD0178 + 0x200 * n
/-- R198. -/
def AXL_BQ0B0 (n : Nat) : Nat := 0xD0180 + 0x200 * n
/-- R198. -/
def AXL_BQ0B1 (n : Nat) : Nat := 0xD0184 + 0x200 * n
/-- R198. -/
def AXL_BQ0B2 (n : Nat) : Nat := 0xD0188 + 0x200 * n
/-- R198. -/
def AXL_BQ0A1 (n : Nat) : Nat := 0xD018C + 0x200 * n
/-- R198. -/
def AXL_BQ0A2 (n : Nat) : Nat := 0xD0190 + 0x200 * n
/-- R198. -/
def AXL_BQ1B0 (n : Nat) : Nat := 0xD0194 + 0x200 * n
/-- R198. -/
def AXL_BQ1B1 (n : Nat) : Nat := 0xD0198 + 0x200 * n
/-- R198. -/
def AXL_BQ1B2 (n : Nat) : Nat := 0xD019C + 0x200 * n
/-- R198. -/
def AXL_BQ1A1 (n : Nat) : Nat := 0xD01A0 + 0x200 * n
/-- R198. -/
def AXL_BQ1A2 (n : Nat) : Nat := 0xD01A4 + 0x200 * n
/-- R198. -/
def AXL_NT0CFG (n : Nat) : Nat := 0xD01A8 + 0x200 * n
def AXL_NT0CFG_MODE : Fld := ⟨31, 1⟩
/-- R198. -/
def AXL_NT0ARG (n : Nat) : Nat := 0xD01AC + 0x200 * n
/-- R198. -/
def AXL_NT0RHO (n : Nat) : Nat := 0xD01B0 + 0x200 * n
/-- R198. -/
def AXL_NT0DEPTH (n : Nat) : Nat := 0xD01B4 + 0x200 * n
/-- R198. -/
def AXL_NT1CFG (n : Nat) : Nat := 0xD01B8 + 0x200 * n
def AXL_NT1CFG_MODE : Fld := ⟨31, 1⟩
/-- R198. -/
def AXL_NT1ARG (n : Nat) : Nat := 0xD01BC + 0x200 * n
/-- R198. -/
def AXL_NT1RHO (n : Nat) : Nat := 0xD01C0 + 0x200 * n
/-- R198. -/
def AXL_NT1DEPTH (n : Nat) : Nat := 0xD01C4 + 0x200 * n
/-- R198. -/
def AXL_COG (n : Nat) : Nat := 0xD01C8 + 0x200 * n
def AXL_COG_SZ : Fld := ⟨16, 4⟩
def AXL_COG_BASE : Fld := ⟨0, 16⟩
/-- R199. -/
def AXL_RCFG (n : Nat) : Nat := 0xD01CC + 0x200 * n
def AXL_RCFG_REN : Fld := ⟨31, 1⟩
def AXL_RCFG_FREEZE : Fld := ⟨30, 1⟩
def AXL_RCFG_HOST : Fld := ⟨29, 1⟩
def AXL_RCFG_REF : Fld := ⟨27, 2⟩
def AXL_RCFG_RPORT : Fld := ⟨21, 6⟩
def AXL_RCFG_SZ : Fld := ⟨17, 4⟩
def AXL_RCFG_BASE : Fld := ⟨0, 16⟩
/-- R198. -/
def AXL_RLEAD (n : Nat) : Nat := 0xD01D0 + 0x200 * n
def AXL_RLEAD_KLSH : Fld := ⟨24, 6⟩
def AXL_RLEAD_LEAD : Fld := ⟨0, 8⟩
/-- R198. -/
def AXL_RKL (n : Nat) : Nat := 0xD01D4 + 0x200 * n
/-- R198. -/
def AXL_RFORG (n : Nat) : Nat := 0xD01D8 + 0x200 * n
def AXL_RFORG_FORG : Fld := ⟨16, 16⟩
def AXL_RFORG_QC : Fld := ⟨0, 16⟩
/-- R198. -/
def AXL_RLIM (n : Nat) : Nat := 0xD01DC + 0x200 * n
/-- R198. -/
def AXL_RPER (n : Nat) : Nat := 0xD01E0 + 0x200 * n
/-- R199. -/
def AXL_LSTAT (n : Nat) : Nat := 0xD01E8 + 0x200 * n
def AXL_LSTAT_APPLYPEND : Fld := ⟨15, 1⟩
def AXL_LSTAT_TBL_CLASH : Fld := ⟨14, 1⟩
def AXL_LSTAT_NOTCH_REF : Fld := ⟨13, 1⟩
def AXL_LSTAT_REP_REFINV : Fld := ⟨12, 1⟩
def AXL_LSTAT_SPEEDHI : Fld := ⟨11, 1⟩
def AXL_LSTAT_COG_NOREF : Fld := ⟨10, 1⟩
def AXL_LSTAT_TOFF : Fld := ⟨9, 1⟩
def AXL_LSTAT_FBLOSS : Fld := ⟨8, 1⟩
def AXL_LSTAT_FBALT : Fld := ⟨7, 1⟩
def AXL_LSTAT_FBDEVF : Fld := ⟨6, 1⟩
def AXL_LSTAT_OVERSPD : Fld := ⟨5, 1⟩
def AXL_LSTAT_FE : Fld := ⟨4, 1⟩
def AXL_LSTAT_VDSAT : Fld := ⟨3, 1⟩
def AXL_LSTAT_EPSAT : Fld := ⟨2, 1⟩
def AXL_LSTAT_TLIM : Fld := ⟨1, 1⟩
def AXL_LSTAT_VLIMIT : Fld := ⟨0, 1⟩
/-- R198. -/
def AXL_LCNT (n : Nat) : Nat := 0xD01EC + 0x200 * n
def AXL_LCNT_FE : Fld := ⟨24, 8⟩
def AXL_LCNT_OVERSPD : Fld := ⟨16, 8⟩
def AXL_LCNT_SPEEDHI : Fld := ⟨8, 8⟩
def AXL_LCNT_EPSAT : Fld := ⟨0, 8⟩
/-- R198. -/
def AXL_PERR (n : Nat) : Nat := 0xD01F0 + 0x200 * n
/-- R198. -/
def AXL_TREF (n : Nat) : Nat := 0xD01F8 + 0x200 * n
/-- R198. -/
def AXL_FB2K (n : Nat) : Nat := 0xD01FC + 0x200 * n
/-- R200. -/
def LPINJ_CFG (n : Nat) : Nat := 0xE0800 + 0x1000 * n
def LPINJ_CFG_START : Fld := ⟨31, 1⟩
def LPINJ_CFG_STOP : Fld := ⟨30, 1⟩
def LPINJ_CFG_AXIS : Fld := ⟨21, 7⟩
def LPINJ_CFG_POINT : Fld := ⟨18, 3⟩
def LPINJ_CFG_TYPE : Fld := ⟨15, 3⟩
def LPINJ_CFG_PRBSN : Fld := ⟨12, 3⟩
/-- R200. -/
def LPINJ_AMP (n : Nat) : Nat := 0xE0804 + 0x1000 * n
/-- R200. -/
def LPINJ_F0 (n : Nat) : Nat := 0xE0808 + 0x1000 * n
/-- R200. -/
def LPINJ_F1 (n : Nat) : Nat := 0xE080C + 0x1000 * n
/-- R200. -/
def LPINJ_DUR (n : Nat) : Nat := 0xE0810 + 0x1000 * n
/-- R200. -/
def LPINJ_OFS (n : Nat) : Nat := 0xE0814 + 0x1000 * n
/-- R200. -/
def LPINJ_STAT (n : Nat) : Nat := 0xE0818 + 0x1000 * n
def LPINJ_STAT_RUNNING : Fld := ⟨31, 1⟩
def LPINJ_STAT_DONE : Fld := ⟨30, 1⟩
def LPINJ_STAT_ABORTED : Fld := ⟨29, 1⟩
def LPINJ_STAT_RUNS : Fld := ⟨0, 24⟩
/-- R232. -/
def SDCLK_CFG (n : Nat) : Nat := 0x80000 + 0x4 * n
def SDCLK_CFG_LISTEN : Fld := ⟨31, 1⟩
def SDCLK_CFG_SMPL : Fld := ⟨8, 6⟩
def SDCLK_CFG_EN : Fld := ⟨4, 1⟩
def SDCLK_CFG_DIV : Fld := ⟨0, 4⟩
/-- R232. -/
def SD_CFG (n : Nat) : Nat := 0x80100 + 0x10 * n
def SD_CFG_OCN : Fld := ⟨20, 4⟩
def SD_CFG_OCOSR : Fld := ⟨16, 2⟩
def SD_CFG_SLBITS : Fld := ⟨8, 8⟩
def SD_CFG_INV : Fld := ⟨1, 1⟩
def SD_CFG_EN : Fld := ⟨0, 1⟩
/-- R231. -/
def SD_OCLIM (n : Nat) : Nat := 0x80104 + 0x10 * n
/-- R231. -/
def SD_WORD (n : Nat) : Nat := 0x80108 + 0x10 * n
/-- R232. -/
def SD_STAT (n : Nat) : Nat := 0x8010C + 0x10 * n
def SD_STAT_OCCNT : Fld := ⟨24, 8⟩
def SD_STAT_LOSSCNT : Fld := ⟨16, 8⟩
def SD_STAT_OC : Fld := ⟨2, 1⟩
def SD_STAT_LOSS : Fld := ⟨1, 1⟩
def SD_STAT_LOST : Fld := ⟨0, 1⟩
/-- R231. -/
def CLE_LAT (n : Nat) : Nat := 0x90000 + 0x2000 * n
def CLE_LAT_CLR : Fld := ⟨31, 1⟩
def CLE_LAT_MAX : Fld := ⟨8, 8⟩
def CLE_LAT_LAST : Fld := ⟨0, 8⟩
/-- R234. -/
def SLOT_CFG (a : Nat) : Nat := 0x90400 + 0x2000 * (a / 4) + 0x400 * (a % 4)
def SLOT_CFG_UDCSRC : Fld := ⟨24, 6⟩
def SLOT_CFG_CPORT : Fld := ⟨18, 6⟩
def SLOT_CFG_PP : Fld := ⟨12, 6⟩
def SLOT_CFG_CMODE : Fld := ⟨10, 2⟩
def SLOT_CFG_S2ROLE : Fld := ⟨9, 1⟩
def SLOT_CFG_UPD : Fld := ⟨8, 1⟩
def SLOT_CFG_ANGALT : Fld := ⟨7, 1⟩
def SLOT_CFG_QMODE : Fld := ⟨6, 1⟩
def SLOT_CFG_HPORT : Fld := ⟨0, 6⟩
/-- R233. -/
def SLOT_WIN (a : Nat) : Nat := 0x90404 + 0x2000 * (a / 4) + 0x400 * (a % 4)
def SLOT_WIN_WLEAD : Fld := ⟨22, 10⟩
def SLOT_WIN_SETTLE : Fld := ⟨12, 10⟩
def SLOT_WIN_MODDLY : Fld := ⟨4, 8⟩
def SLOT_WIN_OSR : Fld := ⟨0, 4⟩
/-- R233. -/
def SLOT_ANG (a : Nat) : Nat := 0x90408 + 0x2000 * (a / 4) + 0x400 * (a % 4)
/-- R233. -/
def SLOT_WR (a : Nat) : Nat := 0x9040C + 0x2000 * (a / 4) + 0x400 * (a % 4)
/-- R233. -/
def SLOT_HALL (a : Nat) : Nat := 0x90410 + 0x2000 * (a / 4) + 0x400 * (a % 4)
/-- R233. -/
def SLOT_OFS0 (a : Nat) : Nat := 0x90414 + 0x2000 * (a / 4) + 0x400 * (a % 4)
/-- R233. -/
def SLOT_OFS1 (a : Nat) : Nat := 0x90418 + 0x2000 * (a / 4) + 0x400 * (a % 4)
/-- R233. -/
def SLOT_OFS2 (a : Nat) : Nat := 0x9041C + 0x2000 * (a / 4) + 0x400 * (a % 4)
/-- R233. -/
def SLOT_GAIN0 (a : Nat) : Nat := 0x90420 + 0x2000 * (a / 4) + 0x400 * (a % 4)
/-- R233. -/
def SLOT_GAIN1 (a : Nat) : Nat := 0x90424 + 0x2000 * (a / 4) + 0x400 * (a % 4)
/-- R233. -/
def SLOT_GAIN2 (a : Nat) : Nat := 0x90428 + 0x2000 * (a / 4) + 0x400 * (a % 4)
/-- R233. -/
def SLOT_GSH (a : Nat) : Nat := 0x9042C + 0x2000 * (a / 4) + 0x400 * (a % 4)
def SLOT_GSH_G2 : Fld := ⟨12, 6⟩
def SLOT_GSH_G1 : Fld := ⟨6, 6⟩
def SLOT_GSH_G0 : Fld := ⟨0, 6⟩
/-- R233. -/
def SLOT_UDC (a : Nat) : Nat := 0x90430 + 0x2000 * (a / 4) + 0x400 * (a % 4)
/-- R233. -/
def SLOT_LIM (a : Nat) : Nat := 0x90434 + 0x2000 * (a / 4) + 0x400 * (a % 4)
def SLOT_LIM_XLIM : Fld := ⟨16, 16⟩
def SLOT_LIM_UDCHOLD : Fld := ⟨0, 8⟩
/-- R233. -/
def SLOT_CMD (a : Nat) : Nat := 0x90438 + 0x2000 * (a / 4) + 0x400 * (a % 4)
def SLOT_CMD_CLRCNT : Fld := ⟨2, 1⟩
def SLOT_CMD_CLRFLAGS : Fld := ⟨1, 1⟩
def SLOT_CMD_BSWAP : Fld := ⟨0, 1⟩
/-- R234. -/
def SLOT_STAT (a : Nat) : Nat := 0x9043C + 0x2000 * (a / 4) + 0x400 * (a % 4)
def SLOT_STAT_RUN : Fld := ⟨15, 1⟩
def SLOT_STAT_BANK : Fld := ⟨14, 1⟩
def SLOT_STAT_SWPEND : Fld := ⟨13, 1⟩
def SLOT_STAT_ANGNOREF : Fld := ⟨12, 1⟩
def SLOT_STAT_ANGX : Fld := ⟨11, 1⟩
def SLOT_STAT_ANGALT_ON : Fld := ⟨10, 1⟩
def SLOT_STAT_ANGLOSS : Fld := ⟨9, 1⟩
def SLOT_STAT_ANGSW : Fld := ⟨8, 1⟩
def SLOT_STAT_UDCLOSS : Fld := ⟨7, 1⟩
def SLOT_STAT_SLOSS : Fld := ⟨6, 1⟩
def SLOT_STAT_OC : Fld := ⟨5, 1⟩
def SLOT_STAT_TRIPWIN : Fld := ⟨4, 1⟩
def SLOT_STAT_STRADDLE : Fld := ⟨3, 1⟩
def SLOT_STAT_VSAT : Fld := ⟨2, 1⟩
def SLOT_STAT_ISAT : Fld := ⟨1, 1⟩
/-- R233. -/
def SLOT_CNT (a : Nat) : Nat := 0x90440 + 0x2000 * (a / 4) + 0x400 * (a % 4)
def SLOT_CNT_STRADDLE : Fld := ⟨16, 16⟩
def SLOT_CNT_TRIPWIN : Fld := ⟨0, 16⟩
/-- R233. -/
def SLOT_ID (a : Nat) : Nat := 0x90444 + 0x2000 * (a / 4) + 0x400 * (a % 4)
/-- R233. -/
def SLOT_IQ (a : Nat) : Nat := 0x90448 + 0x2000 * (a / 4) + 0x400 * (a % 4)
/-- R233. -/
def SLOT_VD (a : Nat) : Nat := 0x9044C + 0x2000 * (a / 4) + 0x400 * (a % 4)
/-- R233. -/
def SLOT_VQ (a : Nat) : Nat := 0x90450 + 0x2000 * (a / 4) + 0x400 * (a % 4)
/-- R233. -/
def SLOT_UDCW (a : Nat) : Nat := 0x90454 + 0x2000 * (a / 4) + 0x400 * (a % 4)
/-- R233. -/
def SLOT_THS (a : Nat) : Nat := 0x90458 + 0x2000 * (a / 4) + 0x400 * (a % 4)
/-- R233. -/
def SLOT_WE (a : Nat) : Nat := 0x9045C + 0x2000 * (a / 4) + 0x400 * (a % 4)
/-- R233. -/
def SLOT_TS (a : Nat) : Nat := 0x90460 + 0x2000 * (a / 4) + 0x400 * (a % 4)
/-- R233. -/
def SLOT_WEND (a : Nat) : Nat := 0x90464 + 0x2000 * (a / 4) + 0x400 * (a % 4)
def SLOT_WEND_V : Fld := ⟨0, 16⟩
/-- R233. -/
def SLOT_XD (a : Nat) : Nat := 0x90468 + 0x2000 * (a / 4) + 0x400 * (a % 4)
/-- R233. -/
def SLOT_XQ (a : Nat) : Nat := 0x9046C + 0x2000 * (a / 4) + 0x400 * (a % 4)
/-- R235. -/
def BANK_KPD (a : Nat) (k : Nat) : Nat := 0x90500 + 0x2000 * (a / 4) + 0x400 * (a % 4) + 0x80 * k
/-- R235. -/
def BANK_KID (a : Nat) (k : Nat) : Nat := 0x90504 + 0x2000 * (a / 4) + 0x400 * (a % 4) + 0x80 * k
/-- R235. -/
def BANK_KPQ (a : Nat) (k : Nat) : Nat := 0x90508 + 0x2000 * (a / 4) + 0x400 * (a % 4) + 0x80 * k
/-- R235. -/
def BANK_KIQ (a : Nat) (k : Nat) : Nat := 0x9050C + 0x2000 * (a / 4) + 0x400 * (a % 4) + 0x80 * k
/-- R235. -/
def BANK_RS (a : Nat) (k : Nat) : Nat := 0x90510 + 0x2000 * (a / 4) + 0x400 * (a % 4) + 0x80 * k
/-- R235. -/
def BANK_LD (a : Nat) (k : Nat) : Nat := 0x90514 + 0x2000 * (a / 4) + 0x400 * (a % 4) + 0x80 * k
/-- R235. -/
def BANK_LQ (a : Nat) (k : Nat) : Nat := 0x90518 + 0x2000 * (a / 4) + 0x400 * (a % 4) + 0x80 * k
/-- R235. -/
def BANK_PSI (a : Nat) (k : Nat) : Nat := 0x9051C + 0x2000 * (a / 4) + 0x400 * (a % 4) + 0x80 * k
/-- R235. -/
def BANK_KTI (a : Nat) (k : Nat) : Nat := 0x90520 + 0x2000 * (a / 4) + 0x400 * (a % 4) + 0x80 * k
/-- R235. -/
def BANK_SHA (a : Nat) (k : Nat) : Nat := 0x90524 + 0x2000 * (a / 4) + 0x400 * (a % 4) + 0x80 * k
def BANK_SHA_KPD : Fld := ⟨24, 6⟩
def BANK_SHA_KID : Fld := ⟨18, 6⟩
def BANK_SHA_KPQ : Fld := ⟨12, 6⟩
def BANK_SHA_KIQ : Fld := ⟨6, 6⟩
def BANK_SHA_KTI : Fld := ⟨0, 6⟩
/-- R235. -/
def BANK_SHB (a : Nat) (k : Nat) : Nat := 0x90528 + 0x2000 * (a / 4) + 0x400 * (a % 4) + 0x80 * k
def BANK_SHB_RS : Fld := ⟨18, 6⟩
def BANK_SHB_LD : Fld := ⟨12, 6⟩
def BANK_SHB_LQ : Fld := ⟨6, 6⟩
def BANK_SHB_PSI : Fld := ⟨0, 6⟩
/-- R235. -/
def BANK_IDREF (a : Nat) (k : Nat) : Nat := 0x9052C + 0x2000 * (a / 4) + 0x400 * (a % 4) + 0x80 * k
/-- R235. -/
def BANK_IMAX (a : Nat) (k : Nat) : Nat := 0x90530 + 0x2000 * (a / 4) + 0x400 * (a % 4) + 0x80 * k
/-- R235. -/
def BANK_VFRAC (a : Nat) (k : Nat) : Nat := 0x90534 + 0x2000 * (a / 4) + 0x400 * (a % 4) + 0x80 * k
/-- R235. -/
def BANK_DTC (a : Nat) (k : Nat) : Nat := 0x90538 + 0x2000 * (a / 4) + 0x400 * (a % 4) + 0x80 * k
def BANK_DTC_V : Fld := ⟨0, 15⟩
/-- R235. -/
def BANK_DTCTH (a : Nat) (k : Nat) : Nat := 0x9053C + 0x2000 * (a / 4) + 0x400 * (a % 4) + 0x80 * k
/-- R235. -/
def BANK_BFLAGS (a : Nat) (k : Nat) : Nat := 0x90540 + 0x2000 * (a / 4) + 0x400 * (a % 4) + 0x80 * k
def BANK_BFLAGS_MODSV : Fld := ⟨3, 1⟩
def BANK_BFLAGS_DTCEN : Fld := ⟨2, 1⟩
def BANK_BFLAGS_DECEN : Fld := ⟨1, 1⟩
def BANK_BFLAGS_FFEN : Fld := ⟨0, 1⟩
/-- R266. -/
def PWM_PER (n : Nat) : Nat := 0xA0000 + 0x800 * n
def PWM_PER_PER : Fld := ⟨0, 20⟩
/-- R266. -/
def PWM_CMPU (n : Nat) : Nat := 0xA0004 + 0x800 * n
def PWM_CMPU_C : Fld := ⟨0, 25⟩
/-- R266. -/
def PWM_CMPV (n : Nat) : Nat := 0xA0008 + 0x800 * n
def PWM_CMPV_C : Fld := ⟨0, 25⟩
/-- R266. -/
def PWM_CMPW (n : Nat) : Nat := 0xA000C + 0x800 * n
def PWM_CMPW_C : Fld := ⟨0, 25⟩
/-- R266. -/
def PWM_DTU (n : Nat) : Nat := 0xA0010 + 0x800 * n
def PWM_DTU_DTF : Fld := ⟨16, 10⟩
def PWM_DTU_DTR : Fld := ⟨0, 10⟩
/-- R266. -/
def PWM_DTV (n : Nat) : Nat := 0xA0014 + 0x800 * n
def PWM_DTV_DTF : Fld := ⟨16, 10⟩
def PWM_DTV_DTR : Fld := ⟨0, 10⟩
/-- R266. -/
def PWM_DTW (n : Nat) : Nat := 0xA0018 + 0x800 * n
def PWM_DTW_DTF : Fld := ⟨16, 10⟩
def PWM_DTW_DTR : Fld := ⟨0, 10⟩
/-- R266. -/
def PWM_MODE (n : Nat) : Nat := 0xA001C + 0x800 * n
def PWM_MODE_CLAMP : Fld := ⟨17, 1⟩
def PWM_MODE_MPMODE : Fld := ⟨16, 1⟩
def PWM_MODE_MINP : Fld := ⟨0, 15⟩
/-- R267. -/
def PWM_TRIP (n : Nat) : Nat := 0xA0020 + 0x800 * n
def PWM_TRIP_TEN : Fld := ⟨31, 1⟩
def PWM_TRIP_TMODE : Fld := ⟨30, 1⟩
def PWM_TRIP_TOFF : Fld := ⟨29, 1⟩
def PWM_TRIP_TPOL : Fld := ⟨28, 1⟩
def PWM_TRIP_BLKSEL : Fld := ⟨20, 5⟩
def PWM_TRIP_TFILT : Fld := ⟨0, 8⟩
/-- R266. -/
def PWM_POL (n : Nat) : Nat := 0xA0024 + 0x800 * n
def PWM_POL_V : Fld := ⟨0, 6⟩
/-- R266. -/
def PWM_COMMIT (n : Nat) : Nat := 0xA0028 + 0x800 * n
def PWM_COMMIT_ALL : Fld := ⟨1, 1⟩
def PWM_COMMIT_CMPC : Fld := ⟨0, 1⟩
/-- R266. -/
def PWM_CMD (n : Nat) : Nat := 0xA002C + 0x800 * n
def PWM_CMD_CLRCNT : Fld := ⟨2, 1⟩
def PWM_CMD_CLRFLAGS : Fld := ⟨1, 1⟩
def PWM_CMD_TCLR : Fld := ⟨0, 1⟩
/-- R267. -/
def PWM_STAT (n : Nat) : Nat := 0xA0030 + 0x800 * n
def PWM_STAT_GCAUSE : Fld := ⟨24, 4⟩
def PWM_STAT_OCAUSE : Fld := ⟨23, 1⟩
def PWM_STAT_SCAUSE : Fld := ⟨22, 1⟩
def PWM_STAT_LCAUSE : Fld := ⟨21, 1⟩
def PWM_STAT_STOPPED : Fld := ⟨15, 1⟩
def PWM_STAT_CUT : Fld := ⟨14, 1⟩
def PWM_STAT_TIN : Fld := ⟨13, 1⟩
def PWM_STAT_BLANK : Fld := ⟨12, 1⟩
def PWM_STAT_TDT : Fld := ⟨8, 1⟩
def PWM_STAT_DTSUP : Fld := ⟨7, 1⟩
def PWM_STAT_MPSTR : Fld := ⟨6, 1⟩
def PWM_STAT_MPDROP : Fld := ⟨5, 1⟩
def PWM_STAT_CLAMPED : Fld := ⟨4, 1⟩
def PWM_STAT_PERBAD : Fld := ⟨3, 1⟩
def PWM_STAT_PERIOD_ONLY : Fld := ⟨2, 1⟩
def PWM_STAT_CLR_REFUSED : Fld := ⟨1, 1⟩
def PWM_STAT_TRIPPED : Fld := ⟨0, 1⟩
/-- R266. -/
def PWM_CNT (n : Nat) : Nat := 0xA0034 + 0x800 * n
def PWM_CNT_TRIPS : Fld := ⟨16, 16⟩
def PWM_CNT_CBCHOLD : Fld := ⟨0, 16⟩
/-- R266. -/
def PWM_TSTAMP (n : Nat) : Nat := 0xA0038 + 0x800 * n
/-- R266. -/
def PWM_CTR (n : Nat) : Nat := 0xA003C + 0x800 * n
def PWM_CTR_HALF : Fld := ⟨31, 1⟩
def PWM_CTR_V : Fld := ⟨0, 20⟩
/-- R266. -/
def PWM_ACTPER (n : Nat) : Nat := 0xA0040 + 0x800 * n
/-- R266. -/
def PWM_ACTU (n : Nat) : Nat := 0xA0044 + 0x800 * n
/-- R266. -/
def PWM_ACTV (n : Nat) : Nat := 0xA0048 + 0x800 * n
/-- R266. -/
def PWM_ACTW (n : Nat) : Nat := 0xA004C + 0x800 * n
/-- R268. -/
def PWMX_CFG (n : Nat) : Nat := 0xB0000 + 0x100 * n
def PWMX_CFG_EN : Fld := ⟨31, 1⟩
def PWMX_CFG_ROLE : Fld := ⟨30, 1⟩
def PWMX_CFG_SYNC : Fld := ⟨29, 1⟩
def PWMX_CFG_ALIGN : Fld := ⟨28, 1⟩
def PWMX_CFG_POL : Fld := ⟨24, 2⟩
def PWMX_CFG_TSEL : Fld := ⟨23, 1⟩
def PWMX_CFG_TOFF : Fld := ⟨22, 1⟩
def PWMX_CFG_AXIS : Fld := ⟨16, 5⟩
/-- R268. -/
def PWMX_PER (n : Nat) : Nat := 0xB0004 + 0x100 * n
def PWMX_PER_PER : Fld := ⟨0, 20⟩
/-- R268. -/
def PWMX_CMP (n : Nat) : Nat := 0xB0008 + 0x100 * n
def PWMX_CMP_C : Fld := ⟨0, 25⟩
/-- R268. -/
def PWMX_DT (n : Nat) : Nat := 0xB000C + 0x100 * n
def PWMX_DT_DTF : Fld := ⟨16, 10⟩
def PWMX_DT_DTR : Fld := ⟨0, 10⟩
/-- R268. -/
def PWMX_MODE (n : Nat) : Nat := 0xB0010 + 0x100 * n
def PWMX_MODE_CLAMP : Fld := ⟨17, 1⟩
def PWMX_MODE_MPMODE : Fld := ⟨16, 1⟩
def PWMX_MODE_MINP : Fld := ⟨0, 15⟩
/-- R268. -/
def PWMX_COMMIT (n : Nat) : Nat := 0xB0014 + 0x100 * n
def PWMX_COMMIT_ALL : Fld := ⟨0, 1⟩
/-- R268. -/
def PWMX_CMD (n : Nat) : Nat := 0xB0018 + 0x100 * n
def PWMX_CMD_CLRCNT : Fld := ⟨2, 1⟩
def PWMX_CMD_CLRFLAGS : Fld := ⟨1, 1⟩
/-- R268. -/
def PWMX_STAT (n : Nat) : Nat := 0xB001C + 0x100 * n
def PWMX_STAT_STOPPED : Fld := ⟨15, 1⟩
def PWMX_STAT_CUT : Fld := ⟨14, 1⟩
def PWMX_STAT_BLANK : Fld := ⟨12, 1⟩
def PWMX_STAT_TDT : Fld := ⟨8, 1⟩
def PWMX_STAT_DTSUP : Fld := ⟨7, 1⟩
def PWMX_STAT_MPSTR : Fld := ⟨6, 1⟩
def PWMX_STAT_MPDROP : Fld := ⟨5, 1⟩
def PWMX_STAT_CLAMPED : Fld := ⟨4, 1⟩
def PWMX_STAT_PERBAD : Fld := ⟨3, 1⟩
def PWMX_STAT_PERIOD_ONLY : Fld := ⟨2, 1⟩
def PWMX_STAT_TRIPPED : Fld := ⟨0, 1⟩
/-- R268. -/
def PWMX_ACT (n : Nat) : Nat := 0xB0020 + 0x100 * n
/-- R269. -/
def ATC_CFG (n : Nat) : Nat := 0xB1000 + 0x20 * n
def ATC_CFG_EN : Fld := ⟨31, 1⟩
def ATC_CFG_SRC : Fld := ⟨16, 6⟩
def ATC_CFG_LEGS : Fld := ⟨8, 3⟩
def ATC_CFG_EDGES : Fld := ⟨0, 2⟩
/-- R269. -/
def ATC_WIN (n : Nat) : Nat := 0xB1004 + 0x20 * n
def ATC_WIN_LEN : Fld := ⟨16, 12⟩
def ATC_WIN_START : Fld := ⟨0, 10⟩
/-- R269. -/
def ATC_STAT (n : Nat) : Nat := 0xB1008 + 0x20 * n
def ATC_STAT_WINS : Fld := ⟨16, 16⟩
def ATC_STAT_OPEN : Fld := ⟨0, 1⟩
/-- R269. -/
def GTRIP_CFG (n : Nat) : Nat := 0xB2000 + 0x20 * n
def GTRIP_CFG_EN : Fld := ⟨31, 1⟩
def GTRIP_CFG_TMODE : Fld := ⟨30, 1⟩
def GTRIP_CFG_TPOL : Fld := ⟨28, 1⟩
def GTRIP_CFG_BLKSEL : Fld := ⟨20, 5⟩
def GTRIP_CFG_TFILT : Fld := ⟨0, 8⟩
/-- R269. -/
def GTRIP_AXMASK (n : Nat) : Nat := 0xB2004 + 0x20 * n
/-- R269. -/
def GTRIP_XMASK (n : Nat) : Nat := 0xB2008 + 0x20 * n
def GTRIP_XMASK_V : Fld := ⟨0, 8⟩
/-- R269. -/
def GTRIP_CMD (n : Nat) : Nat := 0xB200C + 0x20 * n
def GTRIP_CMD_CLRCNT : Fld := ⟨1, 1⟩
def GTRIP_CMD_TCLR : Fld := ⟨0, 1⟩
/-- R269. -/
def GTRIP_STAT (n : Nat) : Nat := 0xB2010 + 0x20 * n
def GTRIP_STAT_TRIPS : Fld := ⟨16, 16⟩
def GTRIP_STAT_CLR_REFUSED : Fld := ⟨3, 1⟩
def GTRIP_STAT_LATCHED : Fld := ⟨2, 1⟩
def GTRIP_STAT_TIN : Fld := ⟨1, 1⟩
def GTRIP_STAT_TRIPPED : Fld := ⟨0, 1⟩
/-- R269. -/
def GTRIP_TSTAMP (n : Nat) : Nat := 0xB2014 + 0x20 * n
/-- R304. -/
def LP_CTRL (n : Nat) : Nat := 0xE0000 + 0x1000 * n
def LP_CTRL_ACTIVE : Fld := ⟨31, 1⟩
def LP_CTRL_IRQEN : Fld := ⟨0, 3⟩
/-- R305. -/
def LP_STAT (n : Nat) : Nat := 0xE0004 + 0x1000 * n
def LP_STAT_MODE : Fld := ⟨30, 2⟩
def LP_STAT_BANK : Fld := ⟨29, 1⟩
def LP_STAT_SWAPPEND : Fld := ⟨28, 1⟩
def LP_STAT_IRQACT : Fld := ⟨27, 1⟩
def LP_STAT_NAX : Fld := ⟨0, 7⟩
/-- R305. -/
def LP_BANKA (n : Nat) : Nat := 0xE0008 + 0x1000 * n
def LP_BANKA_STATE : Fld := ⟨30, 2⟩
def LP_BANKA_VRES : Fld := ⟨27, 3⟩
def LP_BANKA_VBUSY : Fld := ⟨26, 1⟩
def LP_BANKA_LENW : Fld := ⟨0, 15⟩
/-- R305. -/
def LP_BANKB (n : Nat) : Nat := 0xE000C + 0x1000 * n
def LP_BANKB_STATE : Fld := ⟨30, 2⟩
def LP_BANKB_VRES : Fld := ⟨27, 3⟩
def LP_BANKB_VBUSY : Fld := ⟨26, 1⟩
def LP_BANKB_LENW : Fld := ⟨0, 15⟩
/-- R304. -/
def LP_CMD (n : Nat) : Nat := 0xE0010 + 0x1000 * n
def LP_CMD_CLRCNT : Fld := ⟨3, 1⟩
def LP_CMD_VERIFYB : Fld := ⟨1, 1⟩
def LP_CMD_VERIFYA : Fld := ⟨0, 1⟩
/-- R305. -/
def LP_FAULT (n : Nat) : Nat := 0xE0014 + 0x1000 * n
def LP_FAULT_CAUSE : Fld := ⟨26, 6⟩
def LP_FAULT_MULTI : Fld := ⟨25, 1⟩
def LP_FAULT_SECOND : Fld := ⟨24, 1⟩
def LP_FAULT_PC : Fld := ⟨0, 15⟩
/-- R304. -/
def LP_DEMAND (n : Nat) : Nat := 0xE0018 + 0x1000 * n
/-- R304. -/
def LP_DEMANDI (n : Nat) : Nat := 0xE001C + 0x1000 * n
/-- R304. -/
def LP_IRQ (n : Nat) : Nat := 0xE0020 + 0x1000 * n
def LP_IRQ_PEND : Fld := ⟨0, 3⟩
/-- R304. -/
def LP_CNT (n : Nat) : Nat := 0xE0024 + 0x1000 * n
def LP_CNT_IRQS : Fld := ⟨16, 16⟩
def LP_CNT_SWAPS : Fld := ⟨0, 16⟩
/-- R300. -/
def LP_LAWSEL (n : Nat) (j : Nat) : Nat := 0xE0040 + 0x1000 * n + 0x4 * j
def LP_LAWSEL_S7 : Fld := ⟨28, 3⟩
def LP_LAWSEL_S6 : Fld := ⟨24, 3⟩
def LP_LAWSEL_S5 : Fld := ⟨20, 3⟩
def LP_LAWSEL_S4 : Fld := ⟨16, 3⟩
def LP_LAWSEL_S3 : Fld := ⟨12, 3⟩
def LP_LAWSEL_S2 : Fld := ⟨8, 3⟩
def LP_LAWSEL_S1 : Fld := ⟨4, 3⟩
def LP_LAWSEL_S0 : Fld := ⟨0, 3⟩
/-- R336. -/
def NT_CTRL : Nat := 0x250000
def NT_CTRL_STEPGO : Fld := ⟨31, 1⟩
def NT_CTRL_SETGO : Fld := ⟨30, 1⟩
/-- R336. -/
def NT_STAT : Nat := 0x250004
def NT_STAT_SYNC : Fld := ⟨30, 2⟩
def NT_STAT_PPSDUP : Fld := ⟨6, 1⟩
def NT_STAT_PPSIN_NEW : Fld := ⟨5, 1⟩
def NT_STAT_SRV_LATE : Fld := ⟨4, 1⟩
def NT_STAT_TRIMCLAMP : Fld := ⟨3, 1⟩
def NT_STAT_GM : Fld := ⟨2, 1⟩
/-- R335. -/
def NT_NS : Nat := 0x250008
def NT_NS_V : Fld := ⟨0, 30⟩
/-- R335. -/
def NT_SEC : Nat := 0x250010
def NT_SEC_V : Fld := ⟨0, 48⟩
/-- R335. -/
def NT_FRAC : Nat := 0x250018
def NT_FRAC_V : Fld := ⟨0, 16⟩
/-- R335. -/
def NT_TRIM : Nat := 0x25001C
/-- R335. -/
def NT_STEP : Nat := 0x250020
/-- R335. -/
def NT_SETSEC : Nat := 0x250028
def NT_SETSEC_V : Fld := ⟨0, 48⟩
/-- R335. -/
def NT_SETNS : Nat := 0x250030
def NT_SETNS_V : Fld := ⟨0, 30⟩
/-- R335. -/
def NT_UTC : Nat := 0x250034
def NT_UTC_LEAP59 : Fld := ⟨18, 1⟩
def NT_UTC_LEAP61 : Fld := ⟨17, 1⟩
def NT_UTC_UVALID : Fld := ⟨16, 1⟩
def NT_UTC_OFS : Fld := ⟨0, 16⟩
/-- R335. -/
def NT_PPSCFG : Nat := 0x250038
def NT_PPSCFG_PPSEN : Fld := ⟨31, 1⟩
def NT_PPSCFG_LEVEL : Fld := ⟨30, 1⟩
def NT_PPSCFG_PPSDISC : Fld := ⟨29, 1⟩
def NT_PPSCFG_PPSW : Fld := ⟨0, 19⟩
/-- R335. -/
def NT_PPSOFS : Nat := 0x25003C
/-- R335. -/
def NT_PPSINSEC : Nat := 0x250040
def NT_PPSINSEC_V : Fld := ⟨0, 48⟩
/-- R335. -/
def NT_PPSINNSF : Nat := 0x250048
def NT_PPSINNSF_V : Fld := ⟨0, 46⟩
/-- R335. -/
def NT_SRVTO : Nat := 0x250050
def NT_SRVTO_V : Fld := ⟨0, 8⟩
/-- R337. -/
def PORT_CFG (n : Nat) : Nat := 0x251000 + 0x400 * n
def PORT_CFG_EN : Fld := ⟨31, 1⟩
def PORT_CFG_ADV : Fld := ⟨28, 2⟩
def PORT_CFG_MSCFG : Fld := ⟨26, 2⟩
def PORT_CFG_HWTS : Fld := ⟨8, 1⟩
def PORT_CFG_CT : Fld := ⟨7, 1⟩
def PORT_CFG_LATLOCK : Fld := ⟨5, 1⟩
/-- R337. -/
def PORT_STAT (n : Nat) : Nat := 0x251004 + 0x400 * n
def PORT_STAT_LINK : Fld := ⟨31, 1⟩
def PORT_STAT_SPEED : Fld := ⟨29, 2⟩
def PORT_STAT_MASTER : Fld := ⟨28, 1⟩
/-- R337. -/
def PORT_INGLAT (n : Nat) : Nat := 0x251008 + 0x400 * n
/-- R337. -/
def PORT_EGRLAT (n : Nat) : Nat := 0x25100C + 0x400 * n
/-- R337. -/
def PORT_ASYM (n : Nat) : Nat := 0x251010 + 0x400 * n
/-- R337. -/
def PORT_LDELAY (n : Nat) : Nat := 0x251014 + 0x400 * n
/-- R337. -/
def PORT_CNT (n : Nat) : Nat := 0x251018 + 0x400 * n
def PORT_CNT_CTBAD : Fld := ⟨16, 16⟩
def PORT_CNT_FCSERR : Fld := ⟨0, 16⟩
/-- R338. -/
def GCL_CTRL (n : Nat) : Nat := 0x252000 + 0x800 * n
def GCL_CTRL_CHG : Fld := ⟨31, 1⟩
def GCL_CTRL_COUNT : Fld := ⟨0, 7⟩
/-- R338. -/
def GCL_BASE (n : Nat) : Nat := 0x252008 + 0x800 * n
/-- R338. -/
def GCL_CHGTIME (n : Nat) : Nat := 0x252010 + 0x800 * n
/-- R338. -/
def GCL_CYCLE (n : Nat) : Nat := 0x252018 + 0x800 * n
def GCL_CYCLE_CYCLE : Fld := ⟨0, 21⟩
/-- R338. -/
def GCL_STAT (n : Nat) : Nat := 0x25201C + 0x800 * n
def GCL_STAT_BADLIST : Fld := ⟨2, 1⟩
def GCL_STAT_TRUNC : Fld := ⟨1, 1⟩
def GCL_STAT_PEND : Fld := ⟨0, 1⟩
/-- R338. -/
def GCL_ADM (n : Nat) (j : Nat) : Nat := 0x252100 + 0x800 * n + 0x4 * j
def GCL_ADM_GATES : Fld := ⟨24, 8⟩
def GCL_ADM_INTERVAL : Fld := ⟨0, 21⟩
/-- R338. -/
def GCL_OPER (n : Nat) (j : Nat) : Nat := 0x252200 + 0x800 * n + 0x4 * j
def GCL_OPER_GATES : Fld := ⟨24, 8⟩
def GCL_OPER_INTERVAL : Fld := ⟨0, 21⟩
/-- R338. -/
def FR_CFG : Nat := 0x254000
def FR_CFG_RSTO : Fld := ⟨0, 8⟩
/-- R338. -/
def FR_CNT0 : Nat := 0x254004
def FR_CNT0_DISCARD : Fld := ⟨16, 16⟩
def FR_CNT0_LOST : Fld := ⟨0, 16⟩
/-- R338. -/
def FR_CNT1 : Nat := 0x254008
def FR_CNT1_ROGUE : Fld := ⟨16, 16⟩
def FR_CNT1_RESETS : Fld := ⟨0, 16⟩
/-- R338. -/
def MS_CFG (n : Nat) : Nat := 0x255000 + 0x100 * n
def MS_CFG_EN : Fld := ⟨31, 1⟩
def MS_CFG_CONF : Fld := ⟨9, 1⟩
def MS_CFG_SUITE : Fld := ⟨8, 1⟩
def MS_CFG_REPLAY : Fld := ⟨0, 8⟩
/-- R338. -/
def MS_CNT (n : Nat) : Nat := 0x255004 + 0x100 * n
def MS_CNT_ICVBAD : Fld := ⟨16, 16⟩
def MS_CNT_REPLAYED : Fld := ⟨0, 16⟩
/-- R375. -/
def RM_CFG : Nat := 0x260000
def RM_CFG_EN : Fld := ⟨31, 1⟩
def RM_CFG_NODE : Fld := ⟨16, 10⟩
def RM_CFG_ETYPE : Fld := ⟨0, 16⟩
/-- R375. -/
def RM_CYC : Nat := 0x260004
def RM_CYC_TXSLOT : Fld := ⟨0, 21⟩
/-- R375. -/
def RM_CYCEND : Nat := 0x260008
def RM_CYCEND_CYCEND : Fld := ⟨0, 21⟩
/-- R375. -/
def RM_BELL : Nat := 0x26000C
def RM_BELL_BELLAGE : Fld := ⟨24, 8⟩
def RM_BELL_HUSH : Fld := ⟨16, 4⟩
def RM_BELL_BELLWIN : Fld := ⟨0, 16⟩
/-- R375. -/
def RM_EPOCH : Nat := 0x260010
def RM_EPOCH_MAXAGE : Fld := ⟨16, 3⟩
def RM_EPOCH_GRACE : Fld := ⟨8, 8⟩
def RM_EPOCH_EPOCH : Fld := ⟨0, 8⟩
/-- R375. -/
def RM_NEXT : Nat := 0x260014
def RM_NEXT_ARM : Fld := ⟨31, 1⟩
def RM_NEXT_PEND : Fld := ⟨30, 1⟩
def RM_NEXT_EPREFUSED : Fld := ⟨29, 1⟩
def RM_NEXT_NEPOCH : Fld := ⟨0, 8⟩
/-- R375. -/
def RM_ACTFRAME : Nat := 0x260018
/-- R375. -/
def RM_MC : Nat := 0x260020
def RM_MC_V : Fld := ⟨0, 48⟩
/-- R375. -/
def RM_VLAN : Nat := 0x260028
def RM_VLAN_VID : Fld := ⟨0, 12⟩
/-- R375. -/
def RM_ACY : Nat := 0x26002C
def RM_ACY_ACYEN : Fld := ⟨31, 1⟩
def RM_ACY_ACYSEC : Fld := ⟨30, 1⟩
def RM_ACY_PRIO : Fld := ⟨0, 2⟩
/-- R375. -/
def RM_STAT : Nat := 0x260030
def RM_STAT_WATCHSUP : Fld := ⟨4, 1⟩
def RM_STAT_GRACERUN : Fld := ⟨3, 1⟩
def RM_STAT_TXOVER : Fld := ⟨1, 1⟩
def RM_STAT_CFGBAD : Fld := ⟨0, 1⟩
/-- R375. -/
def RM_CNT0 : Nat := 0x260034
def RM_CNT0_HI : Fld := ⟨16, 16⟩
def RM_CNT0_LO : Fld := ⟨0, 16⟩
/-- R375. -/
def RM_CNT1 : Nat := 0x260038
def RM_CNT1_HI : Fld := ⟨16, 16⟩
def RM_CNT1_LO : Fld := ⟨0, 16⟩
/-- R375. -/
def RM_CNT2 : Nat := 0x26003C
def RM_CNT2_HI : Fld := ⟨16, 16⟩
def RM_CNT2_LO : Fld := ⟨0, 16⟩
/-- R375. -/
def RM_CNT3 : Nat := 0x260040
def RM_CNT3_HI : Fld := ⟨16, 16⟩
def RM_CNT3_LO : Fld := ⟨0, 16⟩
/-- R375. -/
def RM_CNT4 : Nat := 0x260044
def RM_CNT4_HI : Fld := ⟨16, 16⟩
def RM_CNT4_LO : Fld := ⟨0, 16⟩
/-- R375. -/
def RM_CNT5 : Nat := 0x260048
def RM_CNT5_HI : Fld := ⟨16, 16⟩
def RM_CNT5_LO : Fld := ⟨0, 16⟩
/-- R375. -/
def RM_CNT6 : Nat := 0x26004C
def RM_CNT6_HI : Fld := ⟨16, 16⟩
def RM_CNT6_LO : Fld := ⟨0, 16⟩
/-- R375. -/
def RM_CMD : Nat := 0x260050
def RM_CMD_CLRCNT : Fld := ⟨0, 1⟩
/-- R375. -/
def RM_ACL (j : Nat) : Nat := 0x260060 + 0x4 * j
def RM_ACL_EN : Fld := ⟨31, 1⟩
def RM_ACL_NODE : Fld := ⟨0, 10⟩
/-- R376. -/
def PUB_W0 (n : Nat) : Nat := 0x261000 + 0x10 * n
def PUB_W0_EN : Fld := ⟨31, 1⟩
def PUB_W0_KIND : Fld := ⟨24, 3⟩
def PUB_W0_EPOCH : Fld := ⟨16, 8⟩
def PUB_W0_PUBID : Fld := ⟨0, 16⟩
/-- R376. -/
def PUB_W1 (n : Nat) : Nat := 0x261004 + 0x10 * n
def PUB_W1_PLEN : Fld := ⟨0, 11⟩
/-- R376. -/
def PUB_BUF (n : Nat) : Nat := 0x261008 + 0x10 * n
def PUB_BUF_BUF : Fld := ⟨0, 32⟩
/-- R376. -/
def PUB_REF (n : Nat) : Nat := 0x26100C + 0x10 * n
def PUB_REF_REF : Fld := ⟨0, 8⟩
/-- R376. -/
def SUB_W0 (n : Nat) : Nat := 0x262000 + 0x10 * n
def SUB_W0_EN : Fld := ⟨31, 1⟩
def SUB_W0_KIND : Fld := ⟨24, 3⟩
def SUB_W0_EPOCH : Fld := ⟨16, 8⟩
def SUB_W0_PUBID : Fld := ⟨0, 16⟩
/-- R376. -/
def SUB_W1 (n : Nat) : Nat := 0x262004 + 0x10 * n
def SUB_W1_SRCNODE : Fld := ⟨16, 10⟩
def SUB_W1_PLEN : Fld := ⟨0, 11⟩
/-- R376. -/
def SUB_BUF (n : Nat) : Nat := 0x262008 + 0x10 * n
def SUB_BUF_BUF : Fld := ⟨0, 32⟩
/-- R376. -/
def SUB_REF (n : Nat) : Nat := 0x26200C + 0x10 * n
def SUB_REF_REF : Fld := ⟨0, 8⟩
/-- R375. -/
def SUBST_LASTCYC (n : Nat) : Nat := 0x263000 + 0x8 * n
/-- R375. -/
def SUBST_CNT (n : Nat) : Nat := 0x263004 + 0x8 * n
def SUBST_CNT_MISSED : Fld := ⟨16, 16⟩
def SUBST_CNT_BAD : Fld := ⟨0, 16⟩
/-- R376. -/
def BT_KEY (n : Nat) : Nat := 0x264000 + 0x10 * n
def BT_KEY_USED : Fld := ⟨31, 1⟩
def BT_KEY_BKIND : Fld := ⟨24, 2⟩
def BT_KEY_EPOCH : Fld := ⟨16, 8⟩
def BT_KEY_ORIGIN : Fld := ⟨0, 10⟩
/-- R376. -/
def BT_W1 (n : Nat) : Nat := 0x264004 + 0x10 * n
def BT_W1_AGE : Fld := ⟨24, 8⟩
def BT_W1_COUNT : Fld := ⟨0, 16⟩
/-- R376. -/
def BT_FIRST (n : Nat) : Nat := 0x264008 + 0x10 * n
/-- R376. -/
def RSAFE_W0 (n : Nat) : Nat := 0x265000 + 0x10 * n
def RSAFE_W0_EN : Fld := ⟨31, 1⟩
def RSAFE_W0_WDEXP : Fld := ⟨30, 1⟩
def RSAFE_W0_PEER : Fld := ⟨16, 10⟩
def RSAFE_W0_CONNID : Fld := ⟨0, 16⟩
/-- R376. -/
def RSAFE_SEQ (n : Nat) : Nat := 0x265004 + 0x10 * n
def RSAFE_SEQ_RXSEQ : Fld := ⟨16, 16⟩
def RSAFE_SEQ_TXSEQ : Fld := ⟨0, 16⟩
/-- R376. -/
def RSAFE_WDT (n : Nat) : Nat := 0x265008 + 0x10 * n
def RSAFE_WDT_V : Fld := ⟨0, 16⟩
/-- R376. -/
def RSAFE_ERR (n : Nat) : Nat := 0x26500C + 0x10 * n
def RSAFE_ERR_SAFEERR : Fld := ⟨0, 16⟩
/-- R398. -/
def TW_CFG : Nat := 0x270000
def TW_CFG_EN : Fld := ⟨31, 1⟩
def TW_CFG_HBTO : Fld := ⟨16, 12⟩
/-- R399. -/
def TW_STAT : Nat := 0x270004
def TW_STAT_PRIMARY : Fld := ⟨31, 1⟩
def TW_STAT_ACTIN : Fld := ⟨30, 1⟩
def TW_STAT_ACTOUT : Fld := ⟨29, 1⟩
def TW_STAT_TWIN_OK : Fld := ⟨28, 1⟩
def TW_STAT_ROLE : Fld := ⟨26, 2⟩
def TW_STAT_READY : Fld := ⟨25, 1⟩
def TW_STAT_PEER_READY : Fld := ⟨24, 1⟩
def TW_STAT_LANE1 : Fld := ⟨23, 1⟩
def TW_STAT_LANE0 : Fld := ⟨22, 1⟩
def TW_STAT_LOCKED : Fld := ⟨21, 1⟩
def TW_STAT_IMGDIFF : Fld := ⟨20, 1⟩
def TW_STAT_TACK_LOST : Fld := ⟨19, 1⟩
def TW_STAT_CMPERR : Fld := ⟨18, 1⟩
def TW_STAT_LTOLERR : Fld := ⟨17, 1⟩
def TW_STAT_CLKGAP : Fld := ⟨16, 1⟩
def TW_STAT_TOOK : Fld := ⟨15, 1⟩
/-- R398. -/
def TW_YIELD : Nat := 0x270008
def TW_YIELD_DRAMUE : Fld := ⟨2, 1⟩
def TW_YIELD_YCWDT : Fld := ⟨1, 1⟩
def TW_YIELD_LPFAULT : Fld := ⟨0, 1⟩
/-- R398. -/
def TW_HO : Nat := 0x27000C
def TW_HO_GO : Fld := ⟨31, 1⟩
def TW_HO_PEND : Fld := ⟨30, 1⟩
def TW_HO_HOREF : Fld := ⟨29, 1⟩
/-- R398. -/
def TW_HOFRAME : Nat := 0x270010
/-- R398. -/
def TW_OFFS : Nat := 0x270018
/-- R398. -/
def TW_LTOL : Nat := 0x27001C
/-- R398. -/
def TW_LAT : Nat := 0x270020
def TW_LAT_V : Fld := ⟨0, 12⟩
/-- R398. -/
def TW_CNT0 : Nat := 0x270024
def TW_CNT0_HI : Fld := ⟨16, 16⟩
def TW_CNT0_LO : Fld := ⟨0, 16⟩
/-- R398. -/
def TW_CNT1 : Nat := 0x270028
def TW_CNT1_HI : Fld := ⟨16, 16⟩
def TW_CNT1_LO : Fld := ⟨0, 16⟩
/-- R398. -/
def TW_CNT2 : Nat := 0x27002C
def TW_CNT2_HI : Fld := ⟨16, 16⟩
def TW_CNT2_LO : Fld := ⟨0, 16⟩
/-- R398. -/
def TW_CMD : Nat := 0x270030
def TW_CMD_CLRCNT : Fld := ⟨1, 1⟩
def TW_CMD_CLRFLAGS : Fld := ⟨0, 1⟩
/-- R434. -/
def SF_STAT : Nat := 0x280000
def SF_STAT_NOSAFE : Fld := ⟨31, 1⟩
def SF_STAT_CHA : Fld := ⟨29, 2⟩
def SF_STAT_CHB : Fld := ⟨27, 2⟩
def SF_STAT_GLOBAL_STO : Fld := ⟨26, 1⟩
def SF_STAT_RSTWAIT : Fld := ⟨25, 1⟩
def SF_STAT_RSTFLT : Fld := ⟨24, 1⟩
def SF_STAT_RSTDISC : Fld := ⟨23, 1⟩
def SF_STAT_SETPEND : Fld := ⟨22, 1⟩
def SF_STAT_SWFAULT : Fld := ⟨21, 1⟩
def SF_STAT_SETFAULT : Fld := ⟨20, 1⟩
def SF_STAT_XFAULT : Fld := ⟨19, 1⟩
def SF_STAT_IOFAULT : Fld := ⟨18, 1⟩
def SF_STAT_SWS4ON : Fld := ⟨17, 1⟩
def SF_STAT_SWSA : Fld := ⟨8, 8⟩
def SF_STAT_SWSB : Fld := ⟨0, 8⟩
/-- R433. -/
def SF_SET : Nat := 0x280004
def SF_SET_ACTIVE : Fld := ⟨28, 4⟩
def SF_SET_SELECTED : Fld := ⟨24, 4⟩
def SF_SET_ROUTE : Fld := ⟨22, 2⟩
/-- R433. -/
def SF_SETID : Nat := 0x280008
/-- R433. -/
def SF_CHKA : Nat := 0x28000C
/-- R433. -/
def SF_CHKB : Nat := 0x280010
/-- R433. -/
def SF_SLOTS : Nat := 0x280018
/-- R433. -/
def SF_FSI : Nat := 0x280020
def SF_FSI_DISCFLT : Fld := ⟨16, 8⟩
def SF_FSI_AW : Fld := ⟨8, 8⟩
def SF_FSI_BW : Fld := ⟨0, 8⟩
/-- R433. -/
def SF_OUT : Nat := 0x280024
def SF_OUT_RBF : Fld := ⟨16, 12⟩
def SF_OUT_ON : Fld := ⟨0, 12⟩
/-- R433. -/
def SF_CNT : Nat := 0x280028
def SF_CNT_EDGES : Fld := ⟨16, 16⟩
def SF_CNT_XC : Fld := ⟨0, 16⟩
/-- R433. -/
def SF_BT (j : Nat) : Nat := 0x280080 + 0x4 * j
def SF_BT_OVERDUE : Fld := ⟨31, 1⟩
def SF_BT_LOCK : Fld := ⟨30, 1⟩
def SF_BT_FAIL : Fld := ⟨29, 1⟩
def SF_BT_HOURS : Fld := ⟨0, 16⟩
/-- R434. -/
def SFAX_AX (n : Nat) : Nat := 0x280100 + 0x8 * n
def SFAX_AX_SPEED : Fld := ⟨32, 32⟩
def SFAX_AX_STO : Fld := ⟨31, 1⟩
def SFAX_AX_SS1 : Fld := ⟨30, 1⟩
def SFAX_AX_SS2 : Fld := ⟨29, 1⟩
def SFAX_AX_SOS : Fld := ⟨28, 1⟩
def SFAX_AX_SLS : Fld := ⟨27, 1⟩
def SFAX_AX_SLSLIM : Fld := ⟨25, 2⟩
def SFAX_AX_SDI : Fld := ⟨24, 1⟩
def SFAX_AX_SLP : Fld := ⟨23, 1⟩
def SFAX_AX_BT : Fld := ⟨22, 1⟩
def SFAX_AX_VIOL : Fld := ⟨15, 1⟩
def SFAX_AX_VCAUSE : Fld := ⟨12, 3⟩
def SFAX_AX_WDEXP : Fld := ⟨11, 1⟩
/-- R453. -/
def DIO_CFG (n : Nat) : Nat := 0xF0000 + 0x10 * n
def DIO_CFG_DIR : Fld := ⟨31, 1⟩
def DIO_CFG_TYPE : Fld := ⟨30, 1⟩
def DIO_CFG_FTYPE : Fld := ⟨29, 1⟩
def DIO_CFG_PAR : Fld := ⟨27, 2⟩
def DIO_CFG_NIGHTON : Fld := ⟨26, 1⟩
def DIO_CFG_AUTORST : Fld := ⟨25, 1⟩
def DIO_CFG_FILT : Fld := ⟨0, 16⟩
/-- R453. -/
def DIO_ST (n : Nat) : Nat := 0xF0004 + 0x10 * n
def DIO_ST_RAW : Fld := ⟨6, 1⟩
def DIO_ST_ON : Fld := ⟨5, 1⟩
def DIO_ST_SCFLT : Fld := ⟨4, 1⟩
def DIO_ST_THFLT : Fld := ⟨3, 1⟩
def DIO_ST_RBERR : Fld := ⟨2, 1⟩
def DIO_ST_RBHI : Fld := ⟨1, 1⟩
/-- R452. -/
def DIO_TS (n : Nat) : Nat := 0xF0008 + 0x10 * n
/-- R452. -/
def DIOG_IN : Nat := 0xF0400
/-- R452. -/
def DIOG_VALID : Nat := 0xF0404
/-- R452. -/
def DIOG_OUT : Nat := 0xF0408
/-- R452. -/
def DIOG_OSET : Nat := 0xF040C
/-- R452. -/
def DIOG_OCLR : Nat := 0xF0410
/-- R452. -/
def FG_CFG (n : Nat) : Nat := 0xF0800 + 0x10 * n
def FG_CFG_AUTO : Fld := ⟨0, 1⟩
/-- R453. -/
def FG_STAT (n : Nat) : Nat := 0xF0804 + 0x10 * n
def FG_STAT_VOLT : Fld := ⟨16, 16⟩
def FG_STAT_REARM_REFUSED : Fld := ⟨5, 1⟩
def FG_STAT_HOLD : Fld := ⟨4, 1⟩
def FG_STAT_STATE : Fld := ⟨0, 3⟩
/-- R452. -/
def FG_CMD (n : Nat) : Nat := 0xF0808 + 0x10 * n
def FG_CMD_CLRCNT : Fld := ⟨2, 1⟩
def FG_CMD_CLRFLAGS : Fld := ⟨1, 1⟩
def FG_CMD_REARM : Fld := ⟨0, 1⟩
/-- R452. -/
def FG_CNT (n : Nat) : Nat := 0xF080C + 0x10 * n
def FG_CNT_LOWS : Fld := ⟨16, 16⟩
def FG_CNT_WARNS : Fld := ⟨0, 16⟩
/-- R452. -/
def AI_CFG (n : Nat) : Nat := 0xF1000 + 0x20 * n
def AI_CFG_EN : Fld := ⟨31, 1⟩
def AI_CFG_RANGE : Fld := ⟨28, 2⟩
def AI_CFG_AVG : Fld := ⟨16, 3⟩
def AI_CFG_OVN : Fld := ⟨0, 8⟩
/-- R452. -/
def AI_VAL (n : Nat) : Nat := 0xF1004 + 0x20 * n
/-- R452. -/
def AI_STAMP (n : Nat) : Nat := 0xF1008 + 0x20 * n
/-- R452. -/
def AI_STAT (n : Nat) : Nat := 0xF100C + 0x20 * n
def AI_STAT_SHOPEN : Fld := ⟨3, 1⟩
def AI_STAT_OVR : Fld := ⟨2, 1⟩
def AI_STAT_VALID : Fld := ⟨0, 1⟩
/-- R470. -/
def CAN_CTRL (n : Nat) : Nat := 0x240000 + 0x4000 * n
def CAN_CTRL_HALT : Fld := ⟨31, 1⟩
def CAN_CTRL_BMON : Fld := ⟨30, 1⟩
def CAN_CTRL_RESTR : Fld := ⟨29, 1⟩
def CAN_CTRL_FDEN : Fld := ⟨28, 1⟩
def CAN_CTRL_BRSEN : Fld := ⟨27, 1⟩
def CAN_CTRL_AUTOREC : Fld := ⟨26, 1⟩
def CAN_CTRL_ONESHOT : Fld := ⟨25, 1⟩
def CAN_CTRL_SSPEN : Fld := ⟨24, 1⟩
def CAN_CTRL_RECOVER : Fld := ⟨23, 1⟩
/-- R469. -/
def CAN_APTIM (n : Nat) : Nat := 0x240004 + 0x4000 * n
def CAN_APTIM_PRE : Fld := ⟨24, 8⟩
def CAN_APTIM_SEG1 : Fld := ⟨16, 8⟩
def CAN_APTIM_SEG2 : Fld := ⟨8, 7⟩
def CAN_APTIM_SJW : Fld := ⟨0, 7⟩
/-- R469. -/
def CAN_DPTIM (n : Nat) : Nat := 0x240008 + 0x4000 * n
def CAN_DPTIM_SJW : Fld := ⟨28, 4⟩
def CAN_DPTIM_SEG2 : Fld := ⟨24, 4⟩
def CAN_DPTIM_SEG1 : Fld := ⟨16, 5⟩
def CAN_DPTIM_PRE : Fld := ⟨0, 5⟩
/-- R469. -/
def CAN_SSP (n : Nat) : Nat := 0x24000C + 0x4000 * n
def CAN_SSP_SSPO : Fld := ⟨24, 7⟩
def CAN_SSP_SSPD : Fld := ⟨0, 7⟩
/-- R469. -/
def CAN_ERRC (n : Nat) : Nat := 0x240010 + 0x4000 * n
def CAN_ERRC_TEC : Fld := ⟨8, 9⟩
def CAN_ERRC_REC : Fld := ⟨0, 8⟩
/-- R470. -/
def CAN_STAT (n : Nat) : Nat := 0x240014 + 0x4000 * n
def CAN_STAT_DLASTERR : Fld := ⟨12, 3⟩
def CAN_STAT_LASTERR : Fld := ⟨8, 3⟩
def CAN_STAT_BUSOFF : Fld := ⟨7, 1⟩
def CAN_STAT_PASSIVE : Fld := ⟨6, 1⟩
def CAN_STAT_WARNING : Fld := ⟨5, 1⟩
def CAN_STAT_DIVFULL : Fld := ⟨4, 1⟩
def CAN_STAT_SSPFAIL : Fld := ⟨3, 1⟩
def CAN_STAT_CLASH : Fld := ⟨2, 1⟩
/-- R469. -/
def CAN_CNT (n : Nat) : Nat := 0x240018 + 0x4000 * n
def CAN_CNT_IDCLASH : Fld := ⟨16, 16⟩
def CAN_CNT_BUSOFFS : Fld := ⟨0, 16⟩
/-- R469. -/
def CAN_CLASH (n : Nat) : Nat := 0x24001C + 0x4000 * n
def CAN_CLASH_IDE : Fld := ⟨31, 1⟩
def CAN_CLASH_ID : Fld := ⟨0, 29⟩
/-- R469. -/
def CAN_URG (n : Nat) : Nat := 0x240020 + 0x4000 * n
def CAN_URG_DIVEN : Fld := ⟨31, 1⟩
def CAN_URG_ALT : Fld := ⟨24, 2⟩
def CAN_URG_DIVBASE : Fld := ⟨16, 6⟩
def CAN_URG_CLASHLIM : Fld := ⟨0, 4⟩
/-- R469. -/
def CAN_FIFO0 (n : Nat) : Nat := 0x240024 + 0x4000 * n
def CAN_FIFO0_KEEPNEW : Fld := ⟨31, 1⟩
def CAN_FIFO0_RDIX : Fld := ⟨16, 5⟩
def CAN_FIFO0_LEVEL : Fld := ⟨8, 6⟩
def CAN_FIFO0_LOST : Fld := ⟨0, 8⟩
/-- R469. -/
def CAN_FIFO1 (n : Nat) : Nat := 0x240028 + 0x4000 * n
def CAN_FIFO1_KEEPNEW : Fld := ⟨31, 1⟩
def CAN_FIFO1_RDIX : Fld := ⟨16, 5⟩
def CAN_FIFO1_LEVEL : Fld := ⟨8, 6⟩
def CAN_FIFO1_LOST : Fld := ⟨0, 8⟩
/-- R469. -/
def CAN_FREL (n : Nat) : Nat := 0x24002C + 0x4000 * n
def CAN_FREL_REL1 : Fld := ⟨1, 1⟩
def CAN_FREL_REL0 : Fld := ⟨0, 1⟩
/-- R460. -/
def CAN_TICK (n : Nat) : Nat := 0x240030 + 0x4000 * n
/-- R469. -/
def CAN_NOMATCH (n : Nat) : Nat := 0x240034 + 0x4000 * n
/-- R469. -/
def CAN_TXGO (n : Nat) : Nat := 0x240040 + 0x4000 * n
/-- R469. -/
def CAN_TXWD (n : Nat) : Nat := 0x240048 + 0x4000 * n
/-- R469. -/
def CAN_TXOK (n : Nat) : Nat := 0x240050 + 0x4000 * n
/-- R469. -/
def CAN_BDIR (n : Nat) : Nat := 0x240058 + 0x4000 * n
/-- R469. -/
def CAN_FRESH (n : Nat) : Nat := 0x240060 + 0x4000 * n
/-- R469. -/
def CANFLT_FLT (n : Nat) (i : Nat) : Nat := 0x240080 + 0x4000 * n + 0x8 * i
def CANFLT_FLT_TGT : Fld := ⟨30, 2⟩
def CANFLT_FLT_IDE : Fld := ⟨29, 1⟩
def CANFLT_FLT_ID : Fld := ⟨0, 29⟩
/-- R469. -/
def CANFLT_FMSK (n : Nat) (i : Nat) : Nat := 0x240084 + 0x4000 * n + 0x8 * i
def CANFLT_FMSK_MASK : Fld := ⟨0, 29⟩
/-- R471. -/
def CANBUF_W0 (n : Nat) (i : Nat) : Nat := 0x241000 + 0x4000 * n + 0x60 * i
def CANBUF_W0_IDE : Fld := ⟨31, 1⟩
def CANBUF_W0_RTR : Fld := ⟨30, 1⟩
def CANBUF_W0_ID : Fld := ⟨0, 29⟩
/-- R471. -/
def CANBUF_W1 (n : Nat) (i : Nat) : Nat := 0x241004 + 0x4000 * n + 0x60 * i
def CANBUF_W1_FDF : Fld := ⟨31, 1⟩
def CANBUF_W1_BRS : Fld := ⟨30, 1⟩
def CANBUF_W1_ESI : Fld := ⟨29, 1⟩
def CANBUF_W1_URG : Fld := ⟨28, 1⟩
def CANBUF_W1_DLC : Fld := ⟨0, 4⟩
/-- R471. -/
def CANBUF_TS (n : Nat) (i : Nat) : Nat := 0x241008 + 0x4000 * n + 0x60 * i
/-- R471. -/
def CANBUF_FLAGS (n : Nat) (i : Nat) : Nat := 0x24100C + 0x4000 * n + 0x60 * i
def CANBUF_FLAGS_FRESH : Fld := ⟨31, 1⟩
def CANBUF_FLAGS_OVERWR : Fld := ⟨30, 1⟩
def CANBUF_FLAGS_DIVERTED : Fld := ⟨29, 1⟩
def CANBUF_FLAGS_TXABORT : Fld := ⟨28, 1⟩
def CANBUF_FLAGS_CLASHES : Fld := ⟨24, 4⟩
/-- R471. -/
def CANBUF_MASKW (n : Nat) (i : Nat) : Nat := 0x241010 + 0x4000 * n + 0x60 * i
def CANBUF_MASKW_MIDE : Fld := ⟨31, 1⟩
def CANBUF_MASKW_MASK : Fld := ⟨0, 29⟩
/-- R471. -/
def CANBUF_DATA (n : Nat) (i : Nat) (j : Nat) : Nat := 0x241020 + 0x4000 * n + 0x60 * i + 0x4 * j
/-- R471. -/
def CANF0_W0 (n : Nat) (i : Nat) : Nat := 0x242800 + 0x4000 * n + 0x60 * i
/-- R471. -/
def CANF0_W1 (n : Nat) (i : Nat) : Nat := 0x242804 + 0x4000 * n + 0x60 * i
/-- R471. -/
def CANF0_TS (n : Nat) (i : Nat) : Nat := 0x242808 + 0x4000 * n + 0x60 * i
/-- R471. -/
def CANF0_FLAGS (n : Nat) (i : Nat) : Nat := 0x24280C + 0x4000 * n + 0x60 * i
/-- R471. -/
def CANF0_MASKW (n : Nat) (i : Nat) : Nat := 0x242810 + 0x4000 * n + 0x60 * i
/-- R471. -/
def CANF0_DATA (n : Nat) (i : Nat) (j : Nat) : Nat := 0x242820 + 0x4000 * n + 0x60 * i + 0x4 * j
/-- R471. -/
def CANF1_W0 (n : Nat) (i : Nat) : Nat := 0x243400 + 0x4000 * n + 0x60 * i
/-- R471. -/
def CANF1_W1 (n : Nat) (i : Nat) : Nat := 0x243404 + 0x4000 * n + 0x60 * i
/-- R471. -/
def CANF1_TS (n : Nat) (i : Nat) : Nat := 0x243408 + 0x4000 * n + 0x60 * i
/-- R471. -/
def CANF1_FLAGS (n : Nat) (i : Nat) : Nat := 0x24340C + 0x4000 * n + 0x60 * i
/-- R471. -/
def CANF1_MASKW (n : Nat) (i : Nat) : Nat := 0x243410 + 0x4000 * n + 0x60 * i
/-- R471. -/
def CANF1_DATA (n : Nat) (i : Nat) (j : Nat) : Nat := 0x243420 + 0x4000 * n + 0x60 * i + 0x4 * j
/-- R501. -/
def RING_CFG (n : Nat) : Nat := 0x10000 + 0x200 * n
def RING_CFG_EN : Fld := ⟨31, 1⟩
def RING_CFG_PORT : Fld := ⟨30, 1⟩
def RING_CFG_PRIO : Fld := ⟨28, 2⟩
def RING_CFG_MODE : Fld := ⟨26, 2⟩
def RING_CFG_LOC : Fld := ⟨25, 1⟩
def RING_CFG_CRCREQ : Fld := ⟨24, 1⟩
def RING_CFG_DEPTH : Fld := ⟨0, 13⟩
/-- R501. -/
def RING_SQBASE (n : Nat) : Nat := 0x10008 + 0x200 * n
/-- R501. -/
def RING_CQBASE (n : Nat) : Nat := 0x10010 + 0x200 * n
/-- R501. -/
def RING_TAIL (n : Nat) : Nat := 0x10018 + 0x200 * n
def RING_TAIL_V : Fld := ⟨0, 16⟩
/-- R501. -/
def RING_HEAD (n : Nat) : Nat := 0x1001C + 0x200 * n
def RING_HEAD_V : Fld := ⟨0, 16⟩
/-- R501. -/
def RING_CQTAIL (n : Nat) : Nat := 0x10020 + 0x200 * n
def RING_CQTAIL_V : Fld := ⟨0, 16⟩
/-- R501. -/
def RING_CQHEAD (n : Nat) : Nat := 0x10024 + 0x200 * n
def RING_CQHEAD_V : Fld := ⟨0, 16⟩
/-- R501. -/
def RING_IMOD (n : Nat) : Nat := 0x10028 + 0x200 * n
def RING_IMOD_ITIME : Fld := ⟨16, 16⟩
def RING_IMOD_ICNT : Fld := ⟨0, 8⟩
/-- R501. -/
def RING_STAT (n : Nat) : Nat := 0x1002C + 0x200 * n
def RING_STAT_ACTIVE : Fld := ⟨31, 1⟩
def RING_STAT_CQWAIT : Fld := ⟨30, 1⟩
def RING_STAT_TAILBAD : Fld := ⟨5, 1⟩
def RING_STAT_BINDERR : Fld := ⟨4, 1⟩
def RING_STAT_GAPSEEN : Fld := ⟨3, 1⟩
def RING_STAT_DMAERR : Fld := ⟨2, 1⟩
def RING_STAT_PTBAD : Fld := ⟨1, 1⟩
def RING_STAT_ECRCERR : Fld := ⟨0, 1⟩
/-- R501. -/
def RING_CNT (n : Nat) : Nat := 0x10030 + 0x200 * n
def RING_CNT_REFUSED : Fld := ⟨16, 16⟩
def RING_CNT_TAGBUSY : Fld := ⟨0, 16⟩
/-- R501. -/
def RING_BIND (n : Nat) : Nat := 0x10034 + 0x200 * n
def RING_BIND_LOWAT : Fld := ⟨16, 16⟩
def RING_BIND_UNIT : Fld := ⟨0, 8⟩
/-- R502. -/
def HOST_WDT : Nat := 0x400
def HOST_WDT_TIMEOUT : Fld := ⟨16, 16⟩
def HOST_WDT_KICKDB : Fld := ⟨2, 1⟩
def HOST_WDT_HWACT : Fld := ⟨0, 2⟩
/-- R502. -/
def HOST_KICK : Nat := 0x404
/-- R502. -/
def HOST_STAT : Nat := 0x408
def HOST_STAT_WDEXP : Fld := ⟨31, 1⟩
def HOST_STAT_FLRSEEN : Fld := ⟨30, 1⟩
def HOST_STAT_SPEED : Fld := ⟨4, 2⟩
def HOST_STAT_WIDTH : Fld := ⟨0, 4⟩
/-- R502. -/
def HOST_B2PAGE : Nat := 0x40C
def HOST_B2PAGE_V : Fld := ⟨0, 4⟩
/-- R502. -/
def HOST_EVT : Nat := 0x410
def HOST_EVT_V : Fld := ⟨0, 8⟩
/-- R502. -/
def HOST_EVMASK : Nat := 0x414
def HOST_EVMASK_V : Fld := ⟨0, 8⟩
/-- R502. -/
def HOST_CNT0 : Nat := 0x418
def HOST_CNT0_LATE : Fld := ⟨16, 16⟩
def HOST_CNT0_B2REFUSED : Fld := ⟨0, 16⟩
/-- R502. -/
def HOST_TAGS : Nat := 0x41C
def HOST_TAGS_V : Fld := ⟨0, 13⟩
/-- R502. -/
def HOST_CMD : Nat := 0x420
def HOST_CMD_CLRCNT : Fld := ⟨1, 1⟩
/-- R530. -/
def SYS_GROOM : Nat := 0x40
def SYS_GROOM_AFWIN : Fld := ⟨0, 10⟩
/-- R613. -/
def SYS_STATE : Nat := 0x50
def SYS_STATE_DUSKDONE : Fld := ⟨16, 1⟩
def SYS_STATE_DCAUSE : Fld := ⟨8, 8⟩
def SYS_STATE_STATE : Fld := ⟨0, 3⟩
/-- R612. -/
def SYS_RSTCAUSE : Nat := 0x54
def SYS_RSTCAUSE_RESETS : Fld := ⟨16, 16⟩
def SYS_RSTCAUSE_CAUSE : Fld := ⟨0, 8⟩
/-- R613. -/
def SYS_RESET : Nat := 0x58
def SYS_RESET_KEY : Fld := ⟨0, 16⟩
/-- R613. -/
def SYS_BOOT : Nat := 0x5C
def SYS_BOOT_BOOTFAIL : Fld := ⟨31, 1⟩
def SYS_BOOT_FALLBACK : Fld := ⟨30, 1⟩
def SYS_BOOT_IMAGE : Fld := ⟨29, 1⟩
def SYS_BOOT_FAILWHY : Fld := ⟨0, 8⟩
/-- R613. -/
def SYS_STEST : Nat := 0x60
def SYS_STEST_DONE : Fld := ⟨31, 1⟩
def SYS_STEST_PASS : Fld := ⟨30, 1⟩
def SYS_STEST_FABRIC : Fld := ⟨29, 1⟩
def SYS_STEST_PWMPAR : Fld := ⟨28, 1⟩
def SYS_STEST_DRAM : Fld := ⟨27, 1⟩
def SYS_STEST_SRAM : Fld := ⟨26, 1⟩
def SYS_STEST_CLEFAIL : Fld := ⟨16, 8⟩
def SYS_STEST_LPFAIL : Fld := ⟨0, 16⟩
/-- R475. -/
def MSIX_ADDR (n : Nat) : Nat := 0x20000 + 0x10 * n
/-- R475. -/
def MSIX_DATA (n : Nat) : Nat := 0x20008 + 0x10 * n
/-- R475. -/
def MSIX_CTRL (n : Nat) : Nat := 0x2000C + 0x10 * n
def MSIX_CTRL_MASK : Fld := ⟨0, 1⟩
/-- R475. -/
def MSIXPBA_PBA (j : Nat) : Nat := 0x21000 + 0x4 * j
/-- R565. -/
def CU_CFG (n : Nat) : Nat := 0x290000 + 0x1000 * n
def CU_CFG_FAST : Fld := ⟨30, 1⟩
def CU_CFG_MEM : Fld := ⟨29, 1⟩
def CU_CFG_COMB : Fld := ⟨28, 1⟩
def CU_CFG_TXFIRE : Fld := ⟨27, 1⟩
def CU_CFG_RXFIRE : Fld := ⟨26, 1⟩
def CU_CFG_HOMODE : Fld := ⟨24, 2⟩
def CU_CFG_SEGS : Fld := ⟨16, 4⟩
def CU_CFG_NCH : Fld := ⟨0, 7⟩
/-- R564. -/
def CU_TICK (n : Nat) : Nat := 0x290004 + 0x1000 * n
def CU_TICK_TSRC : Fld := ⟨28, 4⟩
def CU_TICK_AXIS : Fld := ⟨16, 7⟩
def CU_TICK_DIV : Fld := ⟨0, 16⟩
/-- R564. -/
def CU_MEM (n : Nat) : Nat := 0x290008 + 0x1000 * n
def CU_MEM_BASE : Fld := ⟨16, 16⟩
def CU_MEM_SIZE : Fld := ⟨0, 16⟩
/-- R564. -/
def CU_POST (n : Nat) : Nat := 0x29000C + 0x1000 * n
/-- R564. -/
def CU_HOLD (n : Nat) : Nat := 0x290010 + 0x1000 * n
def CU_HOLD_HOTIME : Fld := ⟨16, 16⟩
def CU_HOLD_HOEVT : Fld := ⟨0, 16⟩
/-- R564. -/
def CU_SESS (n : Nat) : Nat := 0x290014 + 0x1000 * n
def CU_SESS_SESSION : Fld := ⟨0, 16⟩
/-- R564. -/
def CU_CMD (n : Nat) : Nat := 0x290018 + 0x1000 * n
def CU_CMD_FIRE : Fld := ⟨2, 1⟩
def CU_CMD_DISARM : Fld := ⟨1, 1⟩
def CU_CMD_ARM : Fld := ⟨0, 1⟩
/-- R565. -/
def CU_STAT (n : Nat) : Nat := 0x29001C + 0x1000 * n
def CU_STAT_PHASE : Fld := ⟨30, 2⟩
def CU_STAT_SEG : Fld := ⟨24, 4⟩
def CU_STAT_DONE : Fld := ⟨23, 1⟩
def CU_STAT_ARMREF : Fld := ⟨22, 1⟩
def CU_STAT_ARMCAUSE : Fld := ⟨19, 3⟩
def CU_STAT_FIREDROP : Fld := ⟨18, 1⟩
/-- R564. -/
def CU_CNT (n : Nat) : Nat := 0x290020 + 0x1000 * n
def CU_CNT_SENT : Fld := ⟨24, 8⟩
def CU_CNT_TAKEN : Fld := ⟨16, 8⟩
def CU_CNT_IGNORED : Fld := ⟨8, 8⟩
def CU_CNT_FIREDROPC : Fld := ⟨0, 8⟩
/-- R564. -/
def CU_CH (n : Nat) (j : Nat) : Nat := 0x290100 + 0x1000 * n + 0x4 * j
def CU_CH_BIT : Fld := ⟨17, 5⟩
def CU_CH_HIGH : Fld := ⟨16, 1⟩
def CU_CH_SIG : Fld := ⟨0, 16⟩
/-- R564. -/
def CU_TCCFG (n : Nat) (j : Nat) : Nat := 0x290200 + 0x1000 * n + 0x10 * j
def CU_TCCFG_EN : Fld := ⟨31, 1⟩
def CU_TCCFG_KIND : Fld := ⟨28, 3⟩
def CU_TCCFG_CH : Fld := ⟨16, 6⟩
def CU_TCCFG_BIT : Fld := ⟨0, 5⟩
/-- R564. -/
def CU_TCMASK (n : Nat) (j : Nat) : Nat := 0x290204 + 0x1000 * n + 0x10 * j
/-- R564. -/
def CU_TCVAL (n : Nat) (j : Nat) : Nat := 0x290208 + 0x1000 * n + 0x10 * j
/-- R564. -/
def CU_TCCNT (n : Nat) (j : Nat) : Nat := 0x29020C + 0x1000 * n + 0x10 * j
def CU_TCCNT_COUNT : Fld := ⟨0, 16⟩
/-- R565. -/
def CU_SEGTPOINT (n : Nat) (j : Nat) : Nat := 0x290300 + 0x1000 * n + 0x20 * j
/-- R565. -/
def CU_SEGTNET (n : Nat) (j : Nat) : Nat := 0x290308 + 0x1000 * n + 0x20 * j
/-- R565. -/
def CU_SEGTROW (n : Nat) (j : Nat) : Nat := 0x290310 + 0x1000 * n + 0x20 * j
/-- R565. -/
def CU_SEGPREN (n : Nat) (j : Nat) : Nat := 0x290314 + 0x1000 * n + 0x20 * j
/-- R565. -/
def CU_SEGFLAGS (n : Nat) (j : Nat) : Nat := 0x290318 + 0x1000 * n + 0x20 * j
def CU_SEGFLAGS_VALID : Fld := ⟨31, 1⟩
def CU_SEGFLAGS_POSTCLAMPED : Fld := ⟨30, 1⟩
def CU_SEGFLAGS_ALIGNLOST : Fld := ⟨29, 1⟩
def CU_SEGFLAGS_MANUAL : Fld := ⟨28, 1⟩
def CU_SEGFLAGS_REMOTE : Fld := ⟨27, 1⟩
def CU_SEGFLAGS_CUT : Fld := ⟨26, 1⟩
def CU_SEGFLAGS_COND : Fld := ⟨0, 8⟩
/-- R565. -/
def CU_SEGPOSTN (n : Nat) (j : Nat) : Nat := 0x29031C + 0x1000 * n + 0x20 * j
/-- R564. -/
def CUG_HLFPAGE : Nat := 0x29F000
def CUG_HLFPAGE_PAGE : Fld := ⟨0, 1⟩
/-- R564. -/
def CUG_FIREPUB : Nat := 0x29F004
def CUG_FIREPUB_EN : Fld := ⟨31, 1⟩
def CUG_FIREPUB_IDX : Fld := ⟨0, 7⟩
/-- R564. -/
def CUG_FIRESUB (j : Nat) : Nat := 0x29F008 + 0x4 * j
def CUG_FIRESUB_EN : Fld := ⟨31, 1⟩
def CUG_FIRESUB_IDX : Fld := ⟨0, 8⟩
/-- R583. -/
def LOG_CURSOR : Nat := 0x2A0000
/-- R583. -/
def LOG_CTRL : Nat := 0x2A0008
def LOG_CTRL_NEXT : Fld := ⟨0, 1⟩
/-- R583. -/
def LOG_RSTAT : Nat := 0x2A000C
def LOG_RSTAT_BUSY : Fld := ⟨31, 1⟩
def LOG_RSTAT_HAVE : Fld := ⟨30, 1⟩
def LOG_RSTAT_CRCBAD : Fld := ⟨29, 1⟩
def LOG_RSTAT_BEFORE : Fld := ⟨28, 1⟩
def LOG_RSTAT_AFTER : Fld := ⟨27, 1⟩
/-- R583. -/
def LOG_HDR (j : Nat) : Nat := 0x2A0020 + 0x4 * j
/-- R583. -/
def LOG_OLDEST : Nat := 0x2A0040
/-- R583. -/
def LOG_NEWEST : Nat := 0x2A0048
/-- R584. -/
def LOG_STAT : Nat := 0x2A0050
def LOG_STAT_FROZEN : Fld := ⟨31, 1⟩
def LOG_STAT_FRZTO : Fld := ⟨30, 1⟩
def LOG_STAT_STAGEFULL : Fld := ⟨29, 1⟩
def LOG_STAT_WEARHI : Fld := ⟨28, 1⟩
def LOG_STAT_STAGEKIB : Fld := ⟨0, 9⟩
/-- R583. -/
def LOG_LOST : Nat := 0x2A0054
def LOG_LOST_FRZ : Fld := ⟨16, 16⟩
def LOG_LOST_TOTAL : Fld := ⟨0, 16⟩
/-- R583. -/
def LOG_CFG : Nat := 0x2A0058
def LOG_CFG_FRZMAX : Fld := ⟨16, 16⟩
def LOG_CFG_MERGEWIN : Fld := ⟨0, 16⟩
/-- R583. -/
def LOG_WEAR : Nat := 0x2A005C
def LOG_WEAR_RETIRED : Fld := ⟨24, 8⟩
def LOG_WEAR_MEAN : Fld := ⟨0, 24⟩
/-- R583. -/
def LOG_CLRCNT : Nat := 0x2A0060
/-- R583. -/
def LOG_NONCE : Nat := 0x2A0068
/-- R583. -/
def LOG_WIN (j : Nat) : Nat := 0x2A1000 + 0x4 * j
/-- R600. -/
def SEC_STAT : Nat := 0x2B0000
def SEC_STAT_KEYLOST : Fld := ⟨31, 1⟩
def SEC_STAT_DBGOPEN : Fld := ⟨30, 1⟩
def SEC_STAT_ALARM : Fld := ⟨29, 1⟩
def SEC_STAT_DBGCNT : Fld := ⟨0, 8⟩
/-- R600. -/
def SEC_TAMPER : Nat := 0x2B0004
def SEC_TAMPER_V : Fld := ⟨0, 5⟩
/-- R600. -/
def SEC_POLICY : Nat := 0x2B0008
def SEC_POLICY_V : Fld := ⟨0, 10⟩
/-- R600. -/
def SEC_BAT : Nat := 0x2B000C
def SEC_BAT_BATLOW : Fld := ⟨31, 1⟩
def SEC_BAT_VBAT : Fld := ⟨0, 16⟩
/-- R600. -/
def SEC_ALARMT : Nat := 0x2B0010
/-- R600. -/
def SEC_NONCE : Nat := 0x2B0018
/-- R600. -/
def SEC_SLOTS (j : Nat) : Nat := 0x2B0020 + 0x4 * j
/-- R600. -/
def SEC_SVN : Nat := 0x2B0034
/-- R600. -/
def SEC_INTCNT0 : Nat := 0x2B0040
def SEC_INTCNT0_DRAM : Fld := ⟨16, 16⟩
def SEC_INTCNT0_SRAM : Fld := ⟨0, 16⟩
/-- R600. -/
def SEC_INTCNT1 : Nat := 0x2B0044
def SEC_INTCNT1_UNCORR : Fld := ⟨16, 16⟩
def SEC_INTCNT1_FABRIC : Fld := ⟨8, 8⟩
def SEC_INTCNT1_SHPAR : Fld := ⟨0, 8⟩
/-- R600. -/
def SEC_CMD : Nat := 0x2B0048
def SEC_CMD_CLRCNT : Fld := ⟨0, 1⟩
/-- R600. -/
def SEC_DEVPUB (j : Nat) : Nat := 0x2B0100 + 0x4 * j

end Sys2Proof.Machine
end

