-- ==== Sys2Proof/Machine/Sparse.lean ====
section
/-! DEFINITION. A memory as plain data: a list of (address, value) pairs in one canonical form, addresses strictly rising
and no entry equal to what an unlisted address reads as (`d`). -/

namespace Sys2Proof.Machine

/-- The value at address `a`: the listed one, else `d a`. -/
def spGet {β : Type} (d : Nat → β) : List (Nat × β) → Nat → β
  | [], a => d a
  | (k, v) :: rest, a => if a = k then v else if a < k then d a else spGet d rest a

/-- Write `v` at address `a`, keeping the canonical form. -/
def spSet {β : Type} [DecidableEq β] (d : Nat → β) : List (Nat × β) → Nat → β → List (Nat × β)
  | [], a, v => if v = d a then [] else [(a, v)]
  | (k, w) :: rest, a, v =>
    if a = k then (if v = d a then rest else (a, v) :: rest)
    else if a < k then (if v = d a then (k, w) :: rest else (a, v) :: (k, w) :: rest)
    else (k, w) :: spSet d rest a v

/-- Every address of the list is at least `lo`, addresses rise strictly, and no entry equals its default. -/
def spWfFrom {β : Type} [DecidableEq β] (d : Nat → β) : Nat → List (Nat × β) → Bool
  | _, [] => true
  | lo, (k, v) :: rest => decide (lo ≤ k) && !decide (v = d k) && spWfFrom d (k + 1) rest

/-- The canonical form. -/
def spWf {β : Type} [DecidableEq β] (d : Nat → β) (l : List (Nat × β)) : Bool := spWfFrom d 0 l

/-- The value of a vector at a number, `d` beyond its end. -/
def vget {α : Type} {n : Nat} (v : Vector α n) (i : Nat) (d : α) : α := if h : i < n then v[i] else d

/-- A vector with the element at a number changed; unchanged beyond its end. -/
def vmod {α : Type} {n : Nat} (v : Vector α n) (i : Nat) (f : α → α) : Vector α n :=
  if h : i < n then v.set i (f v[i]) else v

/-- Entry `i` of an association list without an order, `d` where there is none. -/
def aget {β : Type} (d : β) (l : List (Nat × β)) (i : Nat) : β := (l.lookup i).getD d

end Sys2Proof.Machine
end

