-- ==== Sys2Proof/Machine/State.lean ====
section
/-! DEFINITION. The state of the module as plain data: the BAR0 registers (sparse over `regReset`), the memories, and for
every engine the state the manual gives it beside its registers.  Instants are in 1/32 ticks (R46) unless a field says
otherwise. -/

namespace Sys2Proof.Machine

/-- Why the machine stops. -/
inductive Fault where
  /-- Raised by a host write that sets a reserved bit: the manual calls the module's response undefined (R5).
  Safe: the model stops where the hardware may do anything. -/
  | reservedBit
  deriving DecidableEq, Repr

/-- Why a command is not given a meaning. -/
inductive Refusal where
  /-- The command's meaning is not written; raised only by `exec`'s arms. Safe: the model stops. -/
  | notModelled (mnemonic : String)
  deriving DecidableEq, Repr

/-- A register file: (BAR0 word offset, value), canonical over `regReset`. -/
abbrev RegFile := List (Nat × Word)
/-- A byte memory. -/
abbrev ByteMem := List (Nat × Byte)
/-- A word memory. -/
abbrev WordMem := List (Nat × Word)

/-- An event that hardware raises towards the LPs, the firmware or the Stud book. -/
inductive EventKind where
  | wireFault | lockForced | indexSlip | indexMiss | indexBig | validLost | trip | clrRefused | oc | streamLoss | udcLoss | angLoss
  | followingError | overspeed | fbAlt | fbLoss | fbDev | torqueOff | underrun | segJoin | gearRefused | camRefused
  | masterLost | lsStep | regMiss | dusk | late | frameSlip | stateChange | powerUp | camOut | lpFault | lpHalted | lpEvent
  | shadowParity | epochChange | bell | roleChange | tackLost | cmpErr | ltolErr | handover | actConflict
  | safetyViolation | globalFault | xFault | brakeTest | resetEdge | switchBank | setActive
  | busOff | idClash | outputFault | groupState | shunt | overrange | hostWatchdog | tamper | keyLost | debugOpen
  | uncorrectable | nandRetired | commandRefused | crossing | gapRecord | merged | clear | timeStep | syncChange | linkChange
  | reset | refLost | hsLate | aiInvalid | security | update | measurement | applyParam | mapEvent | shaftCoast | shaftLost | fwRestart
  deriving DecidableEq, Repr

/-- An event: its kind, the unit it concerns, and one value (a counter, a cause, a deviation). -/
structure Event where
  kind : EventKind
  unit : Nat
  val : Int
  /-- module time at which it was raised, 2^−32 ns -/
  mt : Nat := 0
  deriving DecidableEq, Repr

/-- The power and reset state (R601–R605). -/
inductive Phase where
  /-- module reset asserted -/
  | held
  /-- released, PLL not locked -/
  | released
  /-- running -/
  | running
  deriving DecidableEq, Repr

/-- The five operating states (R12), coded as SYS_STATE. -/
inductive OpState where
  | dawn | morning | noon | dusk | night
  deriving DecidableEq, Repr

/-- The clock tree, TB_TICK and module time. -/
structure TimeSt where
  /-- TB_TICK -/
  tick : Nat := 0
  /-- module time in 2^−32 ns (R318) -/
  mt : Nat := 0
  /-- tick in which the latest TRIM landed, and the TRIM before it (R319, R333) -/
  trimAt : Option Nat := none
  trimPrev : Int := 0
  /-- the trim in effect, 2^−32 ns per tick -/
  trim : Int := 0
  /-- a STEP or SET of module time waiting for the next tick: (whether it sets, value in 2^−32 ns) -/
  stepPend : Option (Bool × Int) := none
  /-- REF_IN is awaited after a write of SRC (R19) -/
  refWait : Bool := false
  /-- REF_IN was lost and AUTO_RET watches for its return -/
  refGone : Bool := false
  /-- the frame in progress: start (1/32 ticks), number, and the number of the frame that follows -/
  frameStart : Nat := 0
  frameNum : Nat := 0
  frameNext : Nat := 1
  /-- the frame grid is to be re-phased: the next boundary is placed at its exact instant (R48) -/
  rephase : Bool := true
  /-- M in effect (R48) -/
  m : Nat := 4
  /-- the frame numbers at which the pending tokens are to execute -/
  tok : Vector Nat 8 := Vector.replicate 8 0
  /-- the tick in which the law run in progress started -/
  runAt : Nat := 0
  deriving DecidableEq, Repr

/-- The boundary grid of an axis (R49, R643). -/
structure GridSt where
  /-- fields in effect (R50) -/
  a : Nat := 1
  b : Nat := 2
  c : Nat := 5
  phase : Nat := 0
  /-- frame of the axis' grid, index of the latest finest boundary inside it, and its instant (1/32 ticks) -/
  fr : Nat := 0
  k : Nat := 0
  last : Nat := 0
  /-- a velocity or a position boundary has fallen whose run has not joined the queue -/
  curDue : Bool := false
  velDue : Bool := false
  posDue : Bool := false
  deriving DecidableEq, Repr

/-- A requester's read latch and write holding register (R36). -/
structure ReqSt where
  latch : Option (Nat × Word64) := none
  hold : Option (Nat × Word) := none
  deriving DecidableEq, Repr

/-- A master state (R104): position and derivatives in Q40.24 (per second), the sample instant in 2^−16 ns of module time,
the modulo value (0: linear). -/
structure MState where
  p : Int := 0
  v : Int := 0
  a : Int := 0
  j : Int := 0
  ts : Nat := 0
  modulo : Int := 0
  deriving DecidableEq, Repr

/-- One differential pair of an encoder port or a latch input (R69, R70, R90). -/
structure PairSt where
  /-- comparator level of the positive wire -/
  p : Bool := false
  /-- comparator level of the negative wire -/
  n : Bool := false
  /-- the level the receiver reports -/
  rx : Bool := false
  /-- the raw instant of a transition still in the level filter -/
  pend : Option Nat := none
  /-- the accepted level -/
  lvl : Bool := false
  /-- tick since which both wires read the same level -/
  suspect : Option Nat := none
  deriving DecidableEq, Repr

/-- The SSI receiver of a port (R79–R83). -/
structure SsiSt where
  /-- the last good field value -/
  prev : Option Nat := none
  /-- count and sample instant of the last good value -/
  good : Option (Int × Nat) := none
  /-- a calibration frame is needed -/
  cal : Bool := true
  /-- the first falling clock edge of the frame in progress, in 1/32 ticks: the port's own, or on a Watch the one it observed (R67) -/
  start : Option Nat := none
  /-- this module drives the clock on pair A: from its first frame start on, while it is not the Watch of a pair (R67) -/
  drive : Bool := false
  /-- the sync boundary for which the latest frame was started or skipped: one frame for each (R82) -/
  forB : Option Nat := none
  /-- the level of pair B as the frame began, and its changes since, newest first -/
  lvl0 : Bool := false
  data : List (Nat × Bool) := []
  /-- the latest frame was skipped (R82) -/
  skipped : Bool := false
  /-- end of the pause after the last sample -/
  busyUntil : Nat := 0
  /-- consecutive frame errors -/
  errs : Nat := 0
  /-- the last frame was good -/
  lastGood : Bool := false
  deriving DecidableEq, Repr

/-- An encoder port beside its registers. -/
structure EPort where
  pairs : Vector PairSt 3 := Vector.replicate 3 {}
  /-- the accumulated count (R75) -/
  count : Int := 0
  /-- the raw increment count: before direction, preset and index correction (R400) -/
  raw : Int := 0
  /-- stamp of the last counted edge -/
  lastEdge : Option Nat := none
  /-- interval between the last two counted edges -/
  lastInt : Option Nat := none
  /-- instants at which the interval between edges lost its meaning: presets and the end of a freeze (R92, R93), newest first -/
  breaks : List Nat := []
  /-- jumps of the count that are no edges (R88, R93): the first instant whose word holds the jump, and its size -/
  shifts : List (Nat × Int) := []
  /-- stamps, directions and acceptance ticks of the recent counted edges, newest first -/
  edges : List (Nat × Bool × Nat) := []
  /-- tick in which the direction of pulse/direction mode last changed -/
  dirTick : Option Nat := none
  /-- the Hall sector, and the tick since which the code is invalid -/
  sector : Option Nat := none
  hallBad : Option Nat := none
  /-- the reference count (R86) -/
  rRef : Int := 0
  /-- count at the last qualified index -/
  lastIdx : Option Int := none
  /-- an index miss has been raised since -/
  missed : Bool := false
  /-- the word frozen by a wire fault -/
  frozen : Option Int := none
  /-- ticks of the recent decoding errors, newest first (R74) -/
  errAt : List Nat := []
  /-- tick of enabling -/
  since : Nat := 0
  /-- tick of the latest write of FILT, WIN, STILL or IDX, and what these held before the writes of that tick (R94) -/
  setTick : Option Nat := none
  setOld : List (Nat × Word) := []
  /-- tick of the latest preset -/
  presetTick : Option Nat := none
  /-- the port as a master at its latest sync boundary: word, velocity and acceleration per second (Q40.24), instant
  (2^−16 ns) (R104) -/
  mp : Int := 0
  mv : Int := 0
  ma : Int := 0
  mts : Nat := 0
  /-- that state at the first sync boundary of a frame, and the frame (R130) -/
  mFrame : Option (Nat × MState) := none
  /-- sum of the errors corrected so far (R88), Q40.24; the recent ones: the first instant whose word holds it, and its size -/
  corr : Int := 0
  corrs : List (Nat × Int) := []
  /-- a preset is waiting for the sync boundary -/
  load : Bool := false
  ssi : SsiSt := {}
  deriving DecidableEq, Repr

/-- One FIFO entry of a latch (R148). -/
structure LatchEnt where
  /-- eighths of a tick -/
  stamp : Nat
  pos : Int
  pinv : Bool
  rising : Bool
  deriving DecidableEq, Repr

/-- A latch input beside its registers. -/
structure LatchSt where
  pair : PairSt := {}
  /-- accepted edges whose entry is not complete: raw instant and direction, oldest first -/
  open_ : List (Nat × Bool) := []
  fifo : List LatchEnt := []
  /-- tick of the last raw transition -/
  lastTick : Option Nat := none
  /-- the latest entry that found the FIFO full: its tick, the entry, and LIn_STAT before it (R150) -/
  ovf : Option (Nat × LatchEnt × Word) := none
  deriving DecidableEq, Repr

/-- A compare RAM entry (R152). -/
structure CmpEntry where
  pos : Int := 0
  width : Nat := 0
  flags : Nat := 0
  deriving DecidableEq, Repr

/-- A change of a compare land: its tick, what the ACTION does, and the width of a pulse. -/
structure CmpLand where
  at_ : Nat
  /-- 0 pulse, 1 set active, 2 set idle -/
  act : Nat
  width : Nat
  deriving DecidableEq, Repr

/-- A compare output beside its registers. -/
structure CompareSt where
  /-- index of the armed entry, or of the entry about to be loaded -/
  armed : Option Nat := none
  /-- the entry as it was loaded, CYCOFS added to its POS -/
  ent : CmpEntry := {}
  /-- the tick in which the entry is (re-)checked, and whether it is read from RAM first (R153, R156–R158) -/
  check : Option (Nat × Bool) := none
  /-- the tick from which the armed entry is armed -/
  since : Nat := 0
  /-- the tick of a crossing of the armed entry whose fire has not been worked off -/
  hit : Option Nat := none
  /-- the SSI change being worked off (R154) -/
  jump : Option (Int × Int) := none
  /-- completed wraps -/
  wraps : Nat := 0
  /-- changes on their way to the land, oldest first (R155) -/
  lands : List CmpLand := []
  /-- the level the land has: active or idle -/
  active : Bool := false
  /-- tick at which the running pulse ends at the land -/
  pulseEnd : Option Nat := none
  deriving DecidableEq, Repr

/-- A register controller beside its registers. -/
structure RcSt where
  eF : Int := 0
  /-- repeat numbers of the accepted marks, newest first -/
  reps : List Int := []
  /-- repeat number at the follower's last position run -/
  seenRep : Option Int := none
  /-- consecutive repeats without a mark -/
  missRun : Nat := 0
  /-- the targets written and their ticks, newest first (R162) -/
  tgts : List (Nat × Int) := []
  /-- CLRTGT moves the channel of a disabled controller back (R165) -/
  clearing : Bool := false
  deriving DecidableEq, Repr

/-- The statuses of completions (R490, R510). -/
inductive Status where
  | ok | tagBusy | ecrcBad | crcRequired | pcrcBad | payloadFault | reservedSet | ringStopped | aborted | notFound
  | notAbortable | portRefused | badOpcode | badState | watchRole | badUnit | badParam | variant | hamode | protected_
  | busy | noSpace | signature | checkFailed | sws4on | vstepRefused | tableBusy | tableBad | superseded | inRamp | angNoRef
  | loadBudget | tokenRefused | clearRefused | epochRefused | horef | verifyBad | btNotRunning | pathBad
  deriving DecidableEq, Repr

/-- What a command that "waits" waits for (R507, R508); the number in R0 of an ABORTED completion is its stage. -/
inductive WaitKind where
  /-- stage 1: a trigger -/
  | source | token | epoch | hoframe | captureTrigger | apply | gate | bankSwap | stateChange | portLoad
  /-- stage 2: the end of an action already running -/
  | moveEnd | injection | canTx | stopBoundary | verify | captureEnd
  /-- stage 3: a transfer in progress -/
  | acyclic | snapshot | transfer
  deriving DecidableEq, Repr

/-- A command whose completion waits for an event of a unit. -/
structure Wait where
  tag : Nat
  kind : WaitKind
  unit : Nat
  deriving DecidableEq, Repr

/-- A command in flight: fetched, and its completion not yet written (R492). -/
structure Inflight where
  tag : Nat
  opcode : Nat
  ring : Nat := 0
  sqidx : Nat := 0
  /-- capacity of its result buffer and its address; the buffer lies in the host area of DRAM -/
  rlen : Nat := 67108864
  raddr : Nat := 0
  rloc : Bool := false
  /-- it has started -/
  started : Bool := true
  /-- its completion is formed and waits to be written -/
  done : Bool := false
  /-- its completion is to be discarded and counted in LATE (R476) -/
  drop : Bool := false
  /-- the entry as fetched (64 bytes); none for a command given without a ring -/
  entry : List Byte := []
  /-- it came through the Ramaux acyclic channel: its requester -/
  peer : Option Nat := none
  deriving DecidableEq, Repr

/-- A completion formed and not yet written (R490). -/
structure Completion where
  tag : Nat
  status : Status
  opcode : Nat
  ring : Nat
  sqidx : Nat
  dup : Bool
  r0 : Nat
  r1 : Nat
  r2 : Nat
  raddr : Nat
  rlen : Nat
  data : List Byte
  rloc : Bool := false
  peer : Option Nat := none
  deriving DecidableEq, Repr

/-- A trajectory segment (R110). -/
structure Seg where
  start : Nat
  p0 : Int
  v0 : Int
  a0 : Int
  j : Int
  dur : Nat
  move : Nat
  last : Bool
  deriving DecidableEq, Repr

/-- A Dusk ramp or another jerk-limited path (R107): start state at `t0` (2^−16 ns of module time), then phases of
(length in 1/32 ticks, jerk). -/
structure Ramp where
  t0 : Nat
  p : Int
  v : Int
  a : Int
  phases : List (Nat × Int)
  deriving DecidableEq, Repr

/-- A change of set-point source, gear ratio or cam that waits for its run (R121, R122, R129). -/
structure SrcChange where
  src : Nat
  msel : Nat
  mact : Bool
  n : Int
  d : Nat
  table : Nat
  abs : Bool
  /-- wait for the master to reach AXn_CAMSW -/
  sched : Bool
  tag : Option Nat
  /-- the cam in use switches tables (R129) -/
  camSwitch : Bool
  /-- it leaves an engaged gear engaged and changes its ratio (R121) -/
  ratio : Bool := false
  /-- master position at the latest run that looked for the scheduled position -/
  seen : Option Int := none
  deriving DecidableEq, Repr

/-- A DIST-mode phase move (R123). -/
structure DistMove where
  dphi : Int
  len : Int
  m0 : Int
  /-- the command that waits for its end -/
  tag : Option Nat := none
  deriving DecidableEq, Repr

/-- The motion state of an axis beside its registers (R101–R145). -/
structure AxMo where
  /-- queued segments, the one in use first -/
  segs : List Seg := []
  /-- segments planned that have not found room in the queue -/
  plan : List Seg := []
  /-- the number of the latest move -/
  moveNo : Nat := 0
  /-- the first queued segment has been taken into use -/
  inUse : Bool := false
  /-- base value with its derivatives, and the t* (2^−16 ns) and instant (1/32 ticks) of the latest run -/
  base : Int := 0
  vBase : Int := 0
  aBase : Int := 0
  jBase : Int := 0
  tStar : Nat := 0
  runAt : Nat := 0
  /-- t* of the run before -/
  tPrev : Nat := 0
  /-- master position of the previous run -/
  mPrev : Option Int := none
  /-- master position at cam engagement, and OFS of R128 -/
  mE : Int := 0
  camOfs : Int := 0
  /-- changes that wait for their run, in order of issue -/
  chgs : List SrcChange := []
  /-- remainder of the exact integral of the analogue velocity (source 0x6) -/
  aiRem : Int := 0
  ramp : Option Ramp := none
  /-- an own Dusk ramp has decoupled the axis from its source: it holds after the ramp until it is engaged again (R109) -/
  off : Bool := false
  /-- boundary of the run in which supervision started the ramp (R196) -/
  rampB : Option Nat := none
  /-- the source has been chosen in Morning, or Noon has been entered: the first run engages it -/
  engage : Bool := false
  /-- the set-point state as the latest run published it, that before it, and the tick of publication (R57, R104); the state of
  the run at the latest frame boundary (R130) -/
  sp : MState := {}
  spOld : MState := {}
  spAt : Nat := 0
  spFrame : MState := {}
  /-- a Dusk ramp is to start at the next position run (R608) -/
  duskReq : Bool := false
  /-- commanded phase channel: settled offset, a running TIME move, a running and a queued DIST move -/
  phase : Int := 0
  phaseTime : Option Ramp := none
  /-- the command that waits for the end of the TIME move -/
  phaseTag : Option Nat := none
  phaseDist : Option DistMove := none
  phaseNext : Option DistMove := none
  /-- register correction channel -/
  regChan : Int := 0
  /-- host stream points: frame, value, tick of arrival -/
  points : List (Nat × Int × Nat) := []
  /-- the two points last used -/
  lastPts : List (Nat × Int) := []
  /-- host points that the run before missed -/
  hsRun : Nat := 0
  /-- torque set-point of sources 0x5 and 0x7 -/
  tSet : Int := 0
  deriving DecidableEq, Repr

/-- The path of a group move in path units (Q40.24), one value for each member (R117). -/
inductive PathGeo where
  | line (a b : List Int)
  /-- start point; members i, j and h; centre; end point; the end of h; turning direction -/
  | arc (a : List Int) (i j : Nat) (h : Option Nat) (ci cj ei ej eh : Int) (ccw : Bool)
  /-- points; start and end slope of a clamped spline -/
  | spline (pts : List (List Int)) (ends : Option (List Int × List Int))
  deriving DecidableEq, Repr

/-- A group move that the planner holds: its command, whether that waits for the end, its path and feed rate. -/
structure PlanMove where
  tag : Option Nat
  wait : Bool
  geo : PathGeo
  feed : Int
  deriving DecidableEq, Repr

/-- The planner of an axis group (R116–R118): moves whose segments are not queued yet, oldest first; for the path that runs
on: the latest three control points, the path speed and the time left over at its end; the move numbers in use. -/
structure GrpPlan where
  moves : List PlanMove := []
  ctl : List (List Rat) := []
  /-- the knot spacing of that path in frames, and the frame of its next segment -/
  step : Nat := 0
  next : Nat := 0
  speed : Rat := 0
  rest : Rat := 0
  deriving DecidableEq, Repr

/-- A STOP that waits for its boundary (R119): command, UNIT, frame. -/
structure StopReq where
  tag : Nat
  unit : Nat
  frame : Nat
  deriving DecidableEq, Repr

/-- A line shaft (R130–R135). -/
structure LsSt where
  /-- the newest accepted state, with COAST, DEC and JRK carried in it -/
  newest : Option MState := none
  /-- tick of its acceptance, and the newest state before that tick (R57, R132) -/
  at_ : Nat := 0
  prev : Option MState := none
  /-- the frame whose lag has been formed (R133) -/
  frame : Option Nat := none
  coast : Nat := 8
  dec : Int := 0
  jerk : Int := 0
  /-- the state before it, kept while a return from coasting is to be checked (R135) -/
  before : Option MState := none
  /-- the master continuation: a Dusk ramp of the master -/
  cont : Option Ramp := none
  /-- a continuation starts at the next frame boundary (R135) -/
  stepPend : Bool := false
  /-- the state published at the latest frame boundary -/
  out : MState := {}
  deriving DecidableEq, Repr

/-- A cam table (R125, R126). -/
structure Cam where
  table : Nat
  periodic : Bool
  /-- (M, F, S) of every point -/
  pts : List (Int × Int × Int)
  deriving DecidableEq, Repr

/-- A network axis' drive publications (R104, R173): the three newest (POS, STAMP in 2^−16 ns), the newest status word and
torque, and whether one has arrived in the frame in progress. -/
structure NetAx where
  newer : Option (Int × Nat) := none
  older : Option (Int × Nat) := none
  oldest : Option (Int × Nat) := none
  dstat : Nat := 0
  torque : Int := 0
  arrived : Bool := false
  /-- a publication has been accepted and its run is due -/
  due : Bool := false
  /-- a run of the frame in progress has published -/
  ran : Bool := false
  /-- the run that waits has been counted late at its slot (R59, R60) -/
  slotLate : Bool := false
  /-- FB1 was lost through missing publications (R60) -/
  lost : Bool := false
  /-- a drive publication has ever been accepted; FB1 counts as valid -/
  valid : Bool := false
  deriving DecidableEq, Repr

/-- The states of a biquad (R184). -/
structure BqSt where
  x1 : Int := 0
  x2 : Int := 0
  y1 : Int := 0
  y2 : Int := 0
  deriving DecidableEq, Repr

/-- What the hardware captures for an axis at a boundary: the input fields of its map window (R290). -/
structure AxIn where
  wpos : Int := 0
  wvel : Int := 0
  speed : Int := 0
  posValid : Bool := false
  velValid : Bool := false
  refd1 : Bool := false
  refd2 : Bool := false
  newPub : Bool := false
  /-- the velocity port's word one velocity period before, and the corrections taken in since (R173); the turn word of FB1 and its
  CPR, none where FB1 has no reference (R183); the reference port's word and VALID (R189); words and VALID of both ports (R177) -/
  wBack : Option Int := none
  corBack : Int := 0
  turn : Option (Int × Nat) := none
  rword : Int := 0
  rvalid : Bool := false
  p1 : Int := 0
  p2 : Int := 0
  valid1 : Bool := false
  valid2 : Bool := false
  /-- sum of the corrections of the position-loop port up to the boundary (R174), and what of it came since the boundary before
  (R290) -/
  corSum : Int := 0
  corr : Int := 0
  /-- the boundary in 1/32 ticks -/
  b : Nat := 0
  npos : Int := 0
  nstamp : Nat := 0
  deriving DecidableEq, Repr

/-- The loop state of a local, network or virtual axis (R170–R196). -/
structure AxLoop where
  /-- enabled by an AXIS-class command -/
  enabled : Bool := false
  inp : AxIn := {}
  /-- inputs of the velocity law at its own boundary -/
  inpV : AxIn := {}
  /-- correction offset c of R174, and the port's corrections already taken in -/
  c : Int := 0
  seenP : Int := 0
  iP : Int := 0
  fD : Int := 0
  ePrev : Int := 0
  aPrev : Int := 0
  first : Bool := true
  vlimSign : Int := 0
  vc : Int := 0
  aS : Int := 0
  jS : Int := 0
  /-- tick of the latest hand-over of v_c, a*ₛ, j*ₛ, and the values before it -/
  vcAt : Nat := 0
  vcOld : Int := 0
  aSOld : Int := 0
  jSOld : Int := 0
  iV : Int := 0
  vHat : Int := 0
  tL : Int := 0
  tPrev : Int := 0
  tlimSign : Int := 0
  bq0 : BqSt := {}
  bq1 : BqSt := {}
  /-- notch states: real and imaginary part -/
  nt0 : Int × Int := (0, 0)
  nt1 : Int × Int := (0, 0)
  /-- consecutive velocity runs above the overspeed limit -/
  ovRuns : Nat := 0
  /-- torque-off: torque at its start and steps made -/
  toff : Option (Int × Nat) := none
  /-- a holding torque commanded for a brake test, and the tick at which it ends (R415) -/
  hold : Option (Int × Nat) := none
  /-- the position law, or the velocity law, runs on the other port; offset of the position -/
  alt : Bool := false
  altV : Bool := false
  altOfs : Int := 0
  /-- torque set-point that takes the place of the law's sum (R103), and the one before; the repetitive output before -/
  tq : Option Int := none
  tqOld : Option Int := none
  tRepOld : Int := 0
  /-- boundary of the latest position run on p_act (R174), and of the latest one that handed over a command -/
  posAt : Option Nat := none
  runB : Option Nat := none
  /-- the word at the latest velocity boundary, and the port's correction sum there (R173) -/
  wBefore : Option Int := none
  corBefore : Int := 0
  /-- p₁₀ and p₂₀ of R177 -/
  p10 : Int := 0
  p20 : Int := 0
  tRep : Int := 0
  repX : Option Rat := none
  repE : Int := 0
  repDir : Int := 1
  /-- tables refused by an APPLY: cogging, repetitive; notches refused -/
  cogOff : Bool := false
  repOff : Bool := false
  ntOff0 : Bool := false
  ntOff1 : Bool := false
  /-- captured parameters (58 words from +0x100) and the tick of the APPLY -/
  cap : List Word := []
  capAt : Option Nat := none
  /-- torque reference as published: value, tick of publication, and the value before -/
  tRef : Int := 0
  tRefAt : Nat := 0
  tRefOld : Int := 0
  /-- boundary of the run that published it -/
  tRefB : Nat := 0
  /-- direct current references of law code (R291): present value, tick, value before; none before IQREF is written -/
  iRef : Option (Int × Int) := none
  iRefAt : Nat := 0
  iRefOld : Option (Int × Int) := none
  idStage : Int := 0
  /-- angle, speed and stamp that law code published (R223), the tick from which they are present, and those before -/
  lawAng : Option (Nat × Int × Nat) := none
  lawAngAt : Nat := 0
  lawAngOld : Option (Nat × Int × Nat) := none
  angStage : Nat := 0
  weStage : Int := 0
  /-- p_act and v_m of the latest runs; the signals the catalogue names (R547) before the latest run, and the tick at which
  that run published -/
  pAct : Int := 0
  vM : Int := 0
  outs : List Int := []
  outsAt : Nat := 0
  deriving DecidableEq, Repr

/-- The kinds of law run (R289). -/
inductive RunKind where
  | pos | vel | net | virt | overhead
  deriving DecidableEq, Repr

/-- A run that waits in the queue of an LP (R56). -/
structure RunReq where
  kind : RunKind
  axis : Nat
  /-- its boundary (1/32 ticks) -/
  b : Nat
  /-- the tick in which it joined, and the next boundary of the same law (1/32 ticks) -/
  at_ : Nat := 0
  due : Nat := 0
  /-- what the hardware captured at that boundary (R290) -/
  inp : AxIn := {}
  deriving DecidableEq, Repr

/-- The test-signal generator of an LP (R193). -/
structure InjSt where
  /-- tick of START -/
  startAt : Nat := 0
  k : Nat := 0
  /-- accumulated phase, U32 -/
  phase : Nat := 0
  /-- the PRBS register -/
  prbs : Nat := 0
  deriving DecidableEq, Repr

/-- One leg: the ideal waveform and the gates (R242–R245). -/
structure LegSt where
  /-- the ideal level of the high side -/
  ideal : Bool := false
  /-- ideal edges of the present span still to come: instant (1/32 ticks), on -/
  edges : List (Nat × Bool) := []
  /-- gates, on or off -/
  h : Bool := false
  l : Bool := false
  /-- instants at which each gate last went off -/
  offH : Nat := 0
  offL : Nat := 0
  /-- a turn-on that waits out its dead time: instant, high side -/
  due : Option (Nat × Bool) := none
  deriving DecidableEq, Repr

/-- A captured commit: the tick of its write, and the (register, value) pairs it carries (R248). -/
structure PwmCommit where
  at_ : Nat
  words : List (Nat × Word)
  /-- an ALL commit carries every field -/
  all : Bool := false
  deriving DecidableEq, Repr

/-- A leg group: 0–31 the axis groups, 32–39 the auxiliary legs. -/
structure PwmSt where
  /-- U, V, W and the fourth leg; leg 0 of an auxiliary group -/
  legs : Vector LegSt 4 := Vector.replicate 4 {}
  /-- start and length of the present span, start of its period (1/32 ticks); the span is the second half -/
  b0 : Nat := 0
  span : Nat := 0
  perStart : Nat := 0
  second : Bool := false
  /-- compare parts and other fields written since they were last captured: register addresses -/
  cmpPart : List Nat := []
  fieldPart : List Nat := []
  /-- what a commit token carries, where a write came within 16 ticks of its boundary (R64) -/
  tokCap : Option (List (Nat × Word)) := none
  /-- captured commits, oldest first -/
  caps : List PwmCommit := []
  /-- a period taken over at a middle, in effect from the next period start -/
  perNext : Option Word := none
  /-- legs whose compare value a commit with a period left unchanged: measured at the next span; those of a period taken over at a middle -/
  kept : List Nat := []
  keptNext : List Nat := []
  /-- compare values that a CLE has computed, and the tick at which they reach the shadow with a commit (R216) -/
  fly : Option (Nat × List (Nat × Word)) := none
  /-- the gates are driven (R238) -/
  drv : Bool := false
  /-- a shadow field failed its parity: held until a commit takes effect (R596) -/
  parBad : Bool := false
  /-- legs are held at their off-state -/
  cut : Bool := false
  /-- sources that cut in cycle-by-cycle mode: 0 to 31 TRIPn, 32 to 35 GTRIPk -/
  cbc : List Nat := []
  /-- the period before was cut -/
  cutPrev : Bool := false
  /-- instants at which a trip cut the legs (1/32 ticks), newest first -/
  cuts : List Nat := []
  /-- recent ideal edges for the window placement: instant and length of the larger dead time in 1/32 ticks -/
  past : List (Nat × Nat) := []
  /-- a free-running leg starts its first period in this tick (R241) -/
  startAt : Option Nat := none
  deriving DecidableEq, Repr

/-- A trip land: 0–31 TRIPn, 32–35 GTRIPk (R255). -/
structure TripSt where
  /-- the electrical level; an open land reads low (R626) -/
  level : Bool := false
  /-- instant since which the land has been active and watched -/
  since : Option Nat := none
  /-- the present activity has been detected, and the tick of the latest detection -/
  det : Bool := false
  detAt : Option Nat := none
  /-- the activity that ended last: its first instant, its end, whether it was detected, and the filtered level -/
  gap : Option (Nat × Nat × Bool × Bool) := none
  deriving DecidableEq, Repr

/-- An auxiliary timer channel (R257): windows to come (opening and closing tick), and the closing tick of the open one. -/
structure AtcSt where
  wins : List (Nat × Nat) := []
  closeAt : Option Nat := none
  deriving DecidableEq, Repr

/-- A sigma-delta stream (R201–R208). -/
structure SdSt where
  /-- tick since which it produces bits on the present clock, and the bits produced before it -/
  since : Option Nat := none
  base : Nat := 0
  /-- the latest sinc2 value, converted, exceeds OCLIM -/
  ocNow : Bool := false
  /-- the latest sinc3 word, and the latest while the stream was not lost -/
  word : Int := 0
  good : Int := 0
  /-- the latest sinc2 word -/
  w2 : Int := 0
  deriving DecidableEq, Repr

/-- A CLE slot, one for each local axis, beside its registers (R210–R228). -/
structure CleSt where
  /-- window end e of the update now running (1/32 ticks), start B₀ and end B of that update -/
  e : Nat := 0
  b0 : Nat := 0
  b : Nat := 0
  /-- a computation has been made for it -/
  doneB : Bool := true
  /-- computations without a good DC-link word; the axis has tripped for this loss -/
  udcRun : Nat := 0
  udcTrip : Bool := false
  /-- a token has executed and its swap is still to come; the words that it carries in place of those written too late
  for it, by address (R64) -/
  tokSwap : Bool := false
  late : List (Nat × Word) := []
  /-- tick of a swap request -/
  swapAt : Option Nat := none
  /-- the last good angle with its instant, the last good ω_e (angle units per tick, Q4.28 scaled by 2^32/CPR·PP exactly) -/
  ang : Nat := 0
  angAt : Nat := 0
  we : Rat := 0
  /-- the port now used for the angle differs: offset that keeps θ continuous -/
  alt : Option (Nat × Nat) := none
  /-- the encoder has taken over from the Hall sensors -/
  hallDone : Bool := false
  /-- extrapolated computations in a row -/
  xRuns : Nat := 0
  /-- signs in which the previous computation clamped v_d and v_q -/
  limD : Int := 0
  limQ : Int := 0
  /-- LCLK cycles are counted from here: the presentation tick -/
  pres : Nat := 0
  deriving DecidableEq, Repr

/-- A work item (R524). -/
structure GItem where
  flow : Nat
  cls : Nat
  tap : Bool
  handler : Nat
  arg0 : Word
  arg1 : Word64
  arg2 : Word64
  agent : Nat
  /-- TB_TICK [31:0] at admission -/
  ptick : Word
  /-- posted by a hardware event source: it takes a reserved place -/
  hw : Bool
  /-- its place in the order in which items became eligible; none while it is not -/
  elig : Option Nat
  /-- tick at which it came first in dispatch order, from which AFWIN counts (R527) -/
  held : Option Nat
  deriving DecidableEq, Repr

/-- The Groom (R524–R529). -/
structure GroomSt where
  /-- queued items in admission order -/
  items : List GItem := []
  /-- the item in service at each yard core -/
  svc : Vector (Option GItem) 8 := Vector.replicate 8 none
  /-- the core that ran the previous item of a team -/
  affinity : List (Nat × Nat) := []
  eligNext : Nat := 0
  /-- hardware events of a kind (handler) that found the reserve full, merged: kind, team, CTL of the first, count -/
  merged : List (Nat × Nat × Nat × Nat) := []
  /-- AFWIN in ticks -/
  afwin : Nat := 100
  /-- a firmware restart has stopped dispatch -/
  stopped : Bool := false
  deriving DecidableEq, Repr

/-- A message in a stall (R532). -/
structure Msg where
  seq : Nat
  len : Nat
  words : List Word
  /-- module time at post (2^−32 ns) and tick -/
  stamp : Nat
  at_ : Nat
  deriving DecidableEq, Repr

/-- A stall between a sender and a receiver (R531–R533). -/
structure StallSt where
  /-- staging words and LEN -/
  stg : WordMem := []
  len : Nat := 64
  /-- unpopped messages, oldest first -/
  msgs : List Msg := []
  /-- tick since which it holds a message -/
  since : Nat := 0
  /-- the SEQ of the latest post -/
  seq : Nat := 0
  ackSeq : Nat := 0
  discarded : Bool := false
  deriving DecidableEq, Repr

/-- An agent (R523) beside its stalls: its doorbell mask, WAITARM, WSTAT, BADREL, and the tick of a pending WAIT read. -/
structure AgentSt where
  dbmask : Nat := 0x1FFFFFFF
  armStall : Nat := 31
  armSeq : Nat := 0
  cross : Bool := false
  peer : Nat := 0
  badRel : Nat := 0
  waiting : Option Nat := none
  deriving DecidableEq, Repr

/-- A write on its way through the LP pipeline (R286). -/
inductive PendWr where
  | d (i : Nat) (v : Word)
  /-- an accumulator, as the instructions other than the MAC group read it -/
  | av (i : Nat) (v : BitVec 80)
  /-- an accumulator written by the accumulator group -/
  | acc (i : Nat) (v : BitVec 80)
  /-- one part of an accumulator: 0 L, 1 H, 2 G -/
  | accPart (i part : Nat) (v : Word)
  | x (i : Nat) (v : Word)
  | xb (i : Nat) (v : Word)
  | xl (i : Nat) (v : BitVec 19)
  | xs (i : Nat) (v : BitVec 16)
  | flags (n z c v : Bool)
  | sr (satm ie : Bool)
  deriving DecidableEq, Repr

/-- A repeat level (R284): first and last word of the body, and the passes still to make. -/
structure RepLv where
  first : Nat
  last : Nat
  left : Nat
  deriving DecidableEq, Repr

/-- One register set of an LP (R272). -/
structure LpSet where
  d : Vector Word 16 := Vector.replicate 16 0
  /-- accumulators as the MAC group reads them, and as the other instructions do -/
  acc : Vector (BitVec 80) 4 := Vector.replicate 4 0
  accV : Vector (BitVec 80) 4 := Vector.replicate 4 0
  x : Vector Word 8 := Vector.replicate 8 0
  xb : Vector Word 8 := Vector.replicate 8 0
  xl : Vector (BitVec 19) 8 := Vector.replicate 8 0
  xs : Vector (BitVec 16) 8 := Vector.replicate 8 0
  n : Bool := false
  z : Bool := false
  c : Bool := false
  v : Bool := false
  av : Bool := false
  avs : Bool := false
  inx : Bool := false
  satf : Bool := false
  satm : Bool := false
  ie : Bool := true
  rep : List RepLv := []
  call : List Nat := []
  /-- writes in flight: slots until they are seen -/
  pipe : List (Nat × PendWr) := []
  deriving DecidableEq, Repr

/-- A loop processor beside its registers and memory. -/
structure LpSt where
  main : LpSet := {}
  shadow : LpSet := {}
  /-- the shadow set is in use: a handler runs -/
  sh : Bool := false
  /-- word index of the next instruction -/
  pc : Nat := 0
  /-- where the branch before goes after this delay slot -/
  target : Option Nat := none
  /-- where RTI resumes -/
  resume : Nat := 0
  /-- the run dispatched to law code -/
  run : Option RunReq := none
  /-- tick from which the LP is free for its next run -/
  free : Nat := 0
  /-- banks A and B hold an image with FLAGS bit 0: the standard law -/
  stdA : Bool := false
  stdB : Bool := false
  /-- the bank that VERIFY reads and the tick it began -/
  verify : Option (Bool × Nat) := none
  /-- a token's swap, due at this tick, waits for the end of a run or handler that began before it -/
  swapWait : Option Nat := none
  /-- events looked at as interrupt sources -/
  evSeen : Nat := 0
  /-- sources 1 and 2 among those events that an interrupt of another source left pending -/
  evPend : Nat := 0
  /-- the D register that a pending WAIT load fills -/
  waitD : Option Nat := none
  deriving DecidableEq, Repr

/-- A gate control list in use on an egress port (R311, R313), its queues and its learned stamp of activity. -/
structure GclSt where
  /-- operational list: BASE (2^−32 ns), CYCLE in ticks, COUNT; the entries are Qp_OPER -/
  base : Nat := 0
  cycle : Nat := 12500
  count : Nat := 0
  /-- entry in use, its start and the start of the cycle (1/32 ticks) -/
  idx : Nat := 0
  entAt : Nat := 0
  cycAt : Nat := 0
  /-- a pending change: administrative base, cycle and entries captured at CHG, and the earliest module time (2^−32 ns) -/
  pend : Option (Nat × Nat × List Word × Nat) := none
  /-- frames waiting, by traffic class -/
  queues : Vector (List EthFrame) 8 := Vector.replicate 8 []
  /-- the line is occupied until this instant -/
  busy : Nat := 0
  /-- the frame sent last -/
  sent : Option EthFrame := none
  deriving DecidableEq, Repr

/-- A recovered stream (R314): destination and VLAN, the vector recovery state, and the tick of its last frame. -/
structure FrerSt where
  dst : BitVec 48
  vid : Nat
  takeAny : Bool := true
  recov : Nat := 65535
  /-- history, newest first -/
  hist : List Bool := List.replicate 32 false
  at_ : Nat := 0
  /-- sequence number, tick and port of the latest copy taken -/
  took : Nat × Nat × Nat := (0, 0, 0)
  deriving DecidableEq, Repr

/-- The PTP servo and PPS (R329–R331). -/
structure PtpSt where
  kp : Int := 0
  ki : Int := 0
  kpSh : Nat := 0
  kiSh : Nat := 0
  logSync : Int := -3
  mech : Nat := 0
  /-- step threshold in ns -/
  thr : Nat := 1000000
  integ : Int := 0
  /-- the latest measured offset -/
  lastOff : Int := 0
  /-- consecutive Sync intervals within ±50 ns -/
  run : Nat := 0
  /-- tick of the host's latest correction -/
  corrAt : Nat := 0
  /-- PPS_OUT active, the instant of its latest edge (1/32 ticks), the second of that edge -/
  ppsOn : Bool := false
  ppsAt : Nat := 0
  ppsSec : Option Nat := none
  /-- measurement records for the delivery ring: port, offset, delay, stamp, sequence -/
  recs : List (Nat × Int × Int × Nat × Nat) := []
  lost : Nat := 0
  deriving DecidableEq, Repr

/-- The switch and network time beside their registers. -/
structure NetSt where
  gcls : Vector GclSt 4 := Vector.replicate 4 {}
  /-- learned addresses: MAC, port, tick -/
  macs : List (BitVec 48 × Nat × Nat) := []
  frer : List FrerSt := []
  /-- the talker's next sequence number -/
  seqTx : Nat := 0
  /-- highest packet number + 1 per (port, channel, association) -/
  pns : List (Nat × Nat) := []
  /-- SAK slots that associations name -/
  sakUsed : List Nat := []
  /-- the frame last delivered to P0 -/
  p0 : Option EthFrame := none
  /-- NT_SEC and NT_FRAC latched for each requester -/
  ntLatch : Vector (Nat × Nat) 10 := Vector.replicate 10 (0, 0)
  ptp : PtpSt := {}
  deriving DecidableEq, Repr

/-- A lost origin at this partner (R365): its node, the boundary D, the role (0 hush, 1 report, 2 suppressed, 3 back before the
hush ended), NSUB, its BELLSUPP count, whether its publications are back, whether the record is written. -/
structure LostNode where
  node : Nat
  d : Nat
  epoch : Nat
  role : Nat := 0
  nsub : Nat := 0
  supp : Nat := 0
  back : Bool := false
  recorded : Bool := false
  deriving DecidableEq, Repr

/-- An acyclic request on its way in (R360, R361): requester, ID, frame of its first segment, the segments with their index,
MORE flag and content, and whether every one arrived through a port whose SecY validated it. -/
structure AcyReq where
  peer : Nat
  id : Nat
  frame : Nat
  segs : List (Nat × Bool × List Byte) := []
  sec : Bool := true
  deriving DecidableEq, Repr

/-- An own acyclic request: REQID, node, tag of the waiting command, frame sent, response segments. -/
structure AcyAsk where
  id : Nat
  node : Nat
  tag : Nat
  frame : Nat
  segs : List (Nat × Bool × List Byte) := []
  deriving DecidableEq, Repr

/-- The Ramaux engine beside its registers. -/
structure RmSt where
  /-- frame of the previous epoch change, the epoch before it, and the frame at which GRACE ends -/
  change : Option Nat := none
  prev : Nat := 0
  graceEnd : Nat := 0
  /-- an armed change: NEPOCH, ACTFRAME -/
  armed : Option (Nat × Nat) := none
  /-- blocks accepted: subscription, cycle -/
  acc : List (Nat × Nat) := []
  /-- arrival tick of user blocks -/
  subTick : List (Nat × Nat) := []
  lost : List LostNode := []
  /-- notices to ring: cause, frame of the decision, rung, recorded -/
  notices : List (Nat × Nat × Bool × Bool) := []
  /-- requests coming in; keys executing with their command tag; the last 16 responses -/
  reqs : List AcyReq := []
  executing : List (Nat × Nat × Nat) := []
  kept : List (Nat × Nat × List Byte) := []
  asked : List AcyAsk := []
  nextId : Nat := 0
  /-- the latest merge-table entry made by a bell: its number, tick and port -/
  bellTook : Nat × Nat × Nat := (0, 0, 0)
  deriving DecidableEq, Repr

/-- The pair (R377–R393) beside its registers. -/
structure TwinSt where
  /-- TWIN_START has named the module: 1 Active, 2 Watch -/
  named : Nat := 0
  /-- ticks of the latest heartbeat sent and of the latest valid frame received -/
  hbSent : Nat := 0
  rx : Nat := 0
  /-- the firmware has stopped refreshing the health word -/
  unhealthy : Bool := false
  /-- the twin's operating state, as its heartbeats show it -/
  peer : Nat := 0
  /-- tick at which a snapshot ended, and tick of the latest record missing or bad -/
  joined : Option Nat := none
  bad : Option Nat := none
  /-- CRC of the Active's image on each LP -/
  crc : Vector (Option Nat) 16 := Vector.replicate 16 none
  /-- ticks in which neither module drove SDCLK -/
  gap : Option (Nat × Nat) := none
  /-- phase of the rising edges of each SDCLK against multiples of its period (1/32 ticks): 0, or as observed by a listening module (R203) -/
  sdPh : Vector Nat 8 := Vector.replicate 8 0
  /-- tick of the release seen on ACT_IN -/
  released : Option Nat := none
  deriving DecidableEq, Repr

/-- A safe input (R417, R418): the filtered levels of its wires, the tick since which they disagree, a latched discrepancy,
and whether both wires have read demand together since. -/
structure SafeIn where
  a : Bool := false
  b : Bool := false
  since : Option Int := none
  disc : Bool := false
  both : Bool := false
  deriving DecidableEq, Repr

/-- What one safety channel holds of one axis (R402–R415). -/
structure ChAx where
  /-- sampled positions, newest first, and whether the newest is valid -/
  hist : List Int := []
  ok : Bool := true
  /-- the SSI frame before the newest sample had failed -/
  ssiFail : Bool := false
  /-- STO is in force, held until a reset edge -/
  sto : Bool := true
  /-- latched violation, coded as VCAUSE; 0 none -/
  viol : Nat := 0
  /-- tick at which it latched -/
  violAt : Nat := 0
  /-- SS1 or SS2 runs: the cycle of t₀, |v(t₀)|, and whether it is SS2 -/
  ss1 : Option (Nat × Rat × Bool) := none
  /-- p_SOS -/
  sos : Option Int := none
  /-- SLS: limit selected, the cycle of its latest activation or fall, the speed then -/
  sls : Option (Nat × Nat × Rat) := none
  /-- SDI: travel in the forbidden direction -/
  sdi : Option Int := none
  slp : Bool := false
  /-- brake test: position at its start -/
  bt : Option Int := none
  /-- the brake stays open after a test until the next STO -/
  btHeld : Bool := false
  deriving DecidableEq, Repr

/-- A safety channel (R400–R402). -/
structure SafeCh where
  /-- 0 starting, 1 running, 2 fault -/
  st : Nat := 0
  /-- safety cycles completed -/
  cyc : Nat := 0
  /-- its own wires of FSI0–FSI7 as its latest cycle sampled them (R400, R402) -/
  inp : Vector Bool 8 := Vector.replicate 8 false
  ax : Vector ChAx 64 := Vector.replicate 64 {}
  /-- its STO lines -/
  line : Vector Bool 32 := Vector.replicate 32 false
  /-- its switches of FSO0–FSO3, FBO0–FBO7 -/
  out : Vector Bool 12 := Vector.replicate 12 false
  /-- SBC actions to come: axis, tick, and whether the brake is what follows -/
  sbc : List (Nat × Nat × Bool) := []
  /-- consecutive mismatches -/
  mism : Nat := 0
  /-- the latest switch samples, newest first, and the confirmed contacts -/
  sws : List Nat := []
  swsOk : Option Nat := none
  deriving DecidableEq, Repr

/-- A slot of the safety parameter sets (R424, R426): its bytes, and the check values the channels have confirmed. -/
structure SafeSlot where
  bytes : List Byte := []
  confirmed : Option Nat := none
  deriving DecidableEq, Repr

/-- A Ramaux Safe connection (R369, R370). -/
structure SafeConn where
  /-- tick of the last valid container -/
  at_ : Nat := 0
  /-- the watchdog has expired, and a valid container has arrived since -/
  exp : Bool := false
  back : Bool := false
  /-- SDATA of the drive's last valid container -/
  drive : Word := 0
  /-- consecutive cycles in which the channels disagreed on its container -/
  dis : Nat := 0
  deriving DecidableEq, Repr

/-- A count pair of an encoder port as channel B receives it (R68, R401): the receiver's report, the accepted level, the instant of a transition
still in the filter, and the instant since which both wires read the same level (1/32 ticks). -/
structure ChbPair where
  rx : Bool := false
  lvl : Bool := false
  pend : Option Nat := none
  eq : Option Nat := none
  deriving DecidableEq, Repr
/-- Channel B's decoder of an encoder port: pairs A and B, and its count. -/
structure ChbPort where
  a : ChbPair := {}
  b : ChbPair := {}
  count : Int := 0
  deriving DecidableEq, Repr

/-- The safety channels. -/
structure SafeSt where
  /-- channel B's decoders of EP0–EP39 -/
  dec : Vector ChbPort 40 := Vector.replicate 40 {}
  chs : Vector SafeCh 2 := Vector.replicate 2 {}
  ins : Vector SafeIn 8 := Vector.replicate 8 {}
  slots : Vector SafeSlot 16 := Vector.replicate 16 {}
  /-- the accepted key set: four public keys -/
  keySet : List Byte := []
  /-- the active set -/
  set : List Byte := []
  /-- check value of the last active set -/
  lastChk : Option Nat := none
  /-- offset between the counts of the channels, fixed by the first samples under the active set -/
  offs : Vector (Option Int) 64 := Vector.replicate 64 none
  /-- SAFE_RESET has been high too long and is ignored until low -/
  longHigh : Bool := false
  /-- tick of the latest confirmed switch change -/
  swAt : Option Nat := none
  /-- tick since which the channels disagree on a switch -/
  swDiff : Option Nat := none
  conns : Vector SafeConn 32 := Vector.replicate 32 {}
  /-- a reset edge has been accepted since Night was entered -/
  nightEdge : Bool := false
  /-- tick of the last passed test of each brake; below 0 where a module reset has restarted TB_TICK since -/
  btPass : Vector Int 8 := Vector.replicate 8 0
  /-- instant at which the running brake test of each axis began to hold -/
  btAt : List (Nat × Nat) := []
  /-- outputs whose latest read-back was bad -/
  rbBad : Vector Bool 12 := Vector.replicate 12 false
  /-- tick since which each output is on -/
  onAt : Vector Nat 12 := Vector.replicate 12 0
  deriving DecidableEq, Repr

/-- A field I/O channel (R438–R443): the tick at which its output switched off by protection, and the tick from which its
junction is below 135 °C. -/
structure DioSt where
  off : Option Nat := none
  coolAt : Nat := 0
  deriving DecidableEq, Repr

/-- A field supply group (R444): consecutive samples below 19.2 V, 16 V and 9 V (to 2), the tick since which every sample has
been at or above 19.2 V, and the tick from which readback runs again. -/
structure FgSt where
  n1 : Nat := 0
  n2 : Nat := 0
  n3 : Nat := 0
  good : Option Nat := none
  rbFrom : Nat := 0
  deriving DecidableEq, Repr

/-- An analogue channel (R447–R449): the value and validity before those in its registers, and the tick from which those are
present; the samples of the running mean; the count of consecutive samples at a limit and within range. -/
structure AiSt where
  old : Word := 0
  oldStamp : Word := 0
  oldOk : Bool := false
  ok : Bool := false
  at_ : Nat := 0
  sum : Int := 0
  cnt : Nat := 0
  first : Nat := 0
  lim : Nat := 0
  good : Nat := 0
  bad : Bool := false
  openAt : Nat := 0
  deriving DecidableEq, Repr

/-- Field I/O and analogue inputs beside their registers. -/
structure IoSt where
  dios : Vector DioSt 32 := Vector.replicate 32 {}
  fgs : Vector FgSt 4 := Vector.replicate 4 {}
  ais : Vector AiSt 8 := Vector.replicate 8 {}
  /-- the PCLK cycle of the latest write of DIO_OCLR, and the bits it clears (R450) -/
  clrAt : Nat := 0
  clrBits : Nat := 0
  deriving DecidableEq, Repr

/-- The latest store into a FIFO (R467): its CCLK cycle, the FIFO, LEVEL, RDIX and LOST before it, the frame and its stamp. -/
structure CanIn where
  cyc : Nat := 0
  fifo : Nat := 0
  level : Nat := 0
  rdix : Nat := 0
  lost : Nat := 0
  frame : CanFrame
  ts : Nat := 0
  deriving DecidableEq, Repr

/-- The latest divert (R464): its CCLK cycle, DIVFULL before it, the buffers sent on with their slot and their DIVERTED before. -/
structure CanDiv where
  cyc : Nat := 0
  full : Bool := false
  sent : List (Nat × Nat × Bool) := []
  deriving DecidableEq, Repr

/-- A CAN controller beside its registers. -/
structure CanSt where
  /-- events of the present CCLK cycle that decide a coincidence (R467): the buffer stored last and its cycle, the FIFO store,
  the bits withdrawn last and their cycle, the latest divert -/
  stored : Option (Nat × Nat) := none
  fifoIn : Option CanIn := none
  wdAt : Nat := 0
  wdBits : Nat := 0
  div : Option CanDiv := none
  /-- HALT is in effect -/
  halted : Bool := true
  /-- tick of the latest request of each transmit buffer; requests withdrawn: buffer, tick of its request, of its withdrawal -/
  req : Vector Nat 64 := Vector.replicate 64 0
  withdrawn : List (Nat × Nat × Nat) := []
  /-- buffers whose latest attempt clashed -/
  clashed : List Nat := []
  /-- the recovery from bus-off counts -/
  recov : Bool := false
  deriving DecidableEq, Repr

/-- A ring beside its registers (R479–R498): completions or records written and not signalled, the tick of the oldest; the
frame of the last stream point; records lost since the last one delivered; ACTIVE entries are those in `State.inflight`. -/
structure RingSt where
  unsig : Nat := 0
  unsigAt : Nat := 0
  lastFrame : Option Nat := none
  lost : Nat := 0
  /-- tick of the latest doorbell -/
  bell : Nat := 0
  /-- enabled through HQ -/
  hq : Bool := false
  /-- CQHEAD before its latest write, and that write's PCLK cycle (R499) -/
  headWas : Nat := 0
  headAt : Nat := 0
  deriving DecidableEq, Repr

/-- The latest completion written (R499): its PCLK cycle, ring, count and place, what lay there, the ring's signalling and the
vectors raised before it. -/
structure CqLast where
  cyc : Nat := 0
  ring : Nat := 0
  idx : Nat := 0
  loc : Bool := false
  addr : Nat := 0
  old : List Byte := []
  unsig : Nat := 0
  unsigAt : Nat := 0
  vecs : Nat := 0
  posts : Nat := 0
  deriving DecidableEq, Repr

/-- The host interface beside its registers. -/
structure HostSt where
  last : Option CqLast := none
  rings : Vector RingSt 128 := Vector.replicate 128 {}
  /-- for each PRIO class the ring served last (R484) -/
  turn : Vector Nat 4 := Vector.replicate 4 127
  /-- tick from which the watchdog counts; it has expired and waits for a kick -/
  kickAt : Nat := 0
  wdOff : Bool := false
  /-- the last HQ write was refused (R477) -/
  hqRefused : Bool := false
  /-- the words that the latest HQ read transaction returned -/
  hqRead : List Word := []
  /-- the axes that host software streams (R496) -/
  stream : Nat := 0
  /-- data written to host memory: bus address and bytes, oldest first -/
  posted : List (Nat × List Byte) := []
  /-- PERST# is asserted -/
  perst : Bool := false
  deriving DecidableEq, Repr

/-- A capture that has its trigger point (R553): the trigger row since ARM, COND, MANUAL, REMOTE, ALIGNLOST, its instant. -/
structure CapTrig where
  row : Nat
  cond : Nat
  manual : Bool
  remote : Bool
  lost : Bool
  at_ : Nat
  deriving DecidableEq, Repr

/-- A fire message (R556, R557): session, unit, COND, MANUAL, t_f coded as LSk_STAMP, sequence number. -/
structure FireMsg where
  session : Nat
  cu : Nat
  cond : Nat
  manual : Bool
  tf : Nat
  seq : Nat
  deriving DecidableEq, Repr

/-- A capture unit beside its registers (R546–R565). -/
structure CapSt where
  /-- rows written since the segment was armed, and their instants (1/32 ticks), newest first: those held and the one before -/
  rows : Nat := 0
  stamps : List Nat := []
  /-- boundaries of its source since ARM; the instant of a boundary to be sampled -/
  bounds : Nat := 0
  due : Option Nat := none
  last : Option Nat := none
  /-- the words of the previous sample; none before the first -/
  prev : Option (List Nat) := none
  /-- how often each condition has been true; all together; levels re-armed -/
  trues : Vector Nat 8 := Vector.replicate 8 0
  all_ : Nat := 0
  ready : Vector Bool 8 := Vector.replicate 8 false
  trig : Option CapTrig := none
  /-- the tick in which the trigger acts, and CUu_CNT and FIREDROP before it: a DISARM of that tick applies (R554, R562) -/
  trigAt : Nat := 0
  cntWas : Word := 0
  dropWas : Bool := false
  /-- FIRE names the next sample; a fire message waits for the sample at or beyond its t_f (1/32 ticks) -/
  fire : Bool := false
  await_ : Option Nat := none
  /-- hold-off: tick of its start and triggers counted in it -/
  hoAt : Nat := 0
  hoEvt : Nat := 0
  seq : Nat := 0
  deriving DecidableEq, Repr

/-- The capture units together: fires on their way to local units, the queue of the fire publication, the frame in which it
last took a record, and the (ORIGIN, ORIGCU, SEQ) last taken from each subscription. -/
structure AcqSt where
  units : Vector CapSt 8 := Vector.replicate 8 {}
  fires : List FireMsg := []
  queue : List FireMsg := []
  pubFrame : Option Nat := none
  taken : Vector (Nat × Nat × Nat) 4 := Vector.replicate 4 (0, 0, 0)
  deriving DecidableEq, Repr

/-- A merge window (R572): TYPE, UNIT and the first 16 body bytes, the SEQ of its first record, the tick of that record, the
count of those that followed and the time of the last (UTC in 2^−32 ns, TSYNC). -/
structure MergeKey where
  type : Nat
  unit : Nat
  head : List Byte
  seq : Nat
  at_ : Nat
  agent : Nat
  count : Nat := 0
  utc : Nat := 0
  sync : Bool := false
  deriving DecidableEq, Repr

/-- The Stud book (R566–R584) beside its registers. -/
structure LogSt where
  /-- events of `State.events` that the firmware has taken -/
  seen : Nat := 0
  /-- the SEQ of the next record -/
  next : Nat := 1
  /-- records programmed, newest first: erase block, SEQ, bytes -/
  store : List (Nat × Nat × List Byte) := []
  /-- the block of the write point and the bytes used in it; retired blocks; erasures -/
  block : Nat := 0
  used : Nat := 0
  retired : List Nat := []
  erases : Nat := 0
  /-- numbered records on their way to the NAND and in the staging RAM, oldest first -/
  buffer : List (Nat × List Byte) := []
  staging : List (Nat × List Byte) := []
  /-- the tick of the latest record numbered and the first SEQ of that tick (R581) -/
  appAt : Nat := 0
  appFirst : Nat := 0
  /-- the latest unfreeze: its tick, the room left in the staging RAM, the count lost and the UTC seconds of the first, the SEQ of
  the GAP record or 0 (R581) -/
  thaw : Option (Nat × Nat × Nat × Nat × Nat) := none
  /-- tick of the freeze; UTC seconds of the first record lost in it -/
  frozen : Option Nat := none
  lostUtc : Nat := 0
  keys : List MergeKey := []
  /-- (controller, identifier, tick) of CAN_CLASH records -/
  clashes : List (Nat × Nat × Nat) := []
  /-- the SEQ a load looks for; the SEQ of the record shown -/
  load : Option Nat := none
  shown : Option Nat := none
  /-- the calendar clock is not valid -/
  calBad : Bool := false
  /-- module time at which the restarted firmware went on -/
  resumed : Nat := 0
  /-- a partly written record ended the store -/
  torn : Bool := false
  /-- clears performed -/
  clears : Nat := 0
  deriving DecidableEq, Repr

/-- Keys and the battery domain (R585–R595).  Only what has an effect is held: the maintenance public keys, the seeds, and
which slots are valid (SEC_SLOTS). -/
structure SecSt where
  mkeys : List (Nat × List Byte) := []
  seeds : Vector Word 32 := Vector.replicate 32 0
  /-- a debug challenge: 96 bits and the tick of its issue -/
  challenge : Option (Nat × Nat) := none
  /-- the tick of the latest erasure by an alarm, and whether it took all key SRAM -/
  erasedAt : Option (Nat × Bool) := none
  /-- the latest KEY_LOAD that wrote a slot: tick, KIND, tag; SEC_POLICY before the latest TAMPER_POLICY, and that one's tick (R598) -/
  loaded : Option (Nat × Nat × Nat) := none
  polWas : Option (Nat × Nat) := none
  /-- alarms whose SECURITY record the firmware has still to write: sensor and policy applied -/
  alarms : List (Nat × Nat) := []
  /-- the directory of the key SRAM fails its check at the next power-up -/
  dirBad : Bool := false
  deriving DecidableEq, Repr

/-- Supply, boot and operating-state control (R601–R613). -/
structure PowerSt where
  /-- VIN is at or above the reset threshold -/
  vin : Bool := true
  /-- VIN has been below 5.0 V -/
  low : Bool := false
  phase : Phase := .held
  /-- cause of the reset that is asserted or was last; module resets since manufacture -/
  cause : Nat := 1
  resets : Nat := 1
  /-- configuration store: preferred image (0 A, 1 B) and UTC offset (R321) -/
  prefB : Bool := false
  ofs : Int := 37
  /-- the images and the boot: image selected, FALLBACK, FAILWHY, BOOTFAIL, its SVN, and the tick at which it is copied -/
  booted : Bool := false
  imageB : Bool := false
  svn : Nat := 0
  /-- SYS_BOOT as it stood after the latest boot -/
  bootWord : Word := 0
  bootAt : Nat := 0
  /-- DRAM initialisation has ended; the self-tests have ended and passed -/
  dram : Bool := false
  dramBad : Bool := false
  tested : Bool := false
  /-- the firmware runs, and since which tick -/
  fwRun : Bool := false
  fwAt : Nat := 0
  /-- tick of the first yard-watchdog expiry -/
  wdFirst : Option Nat := none
  /-- tick of the latest entry to Dusk (R521) -/
  duskAt : Option Nat := none
  /-- a firmware restart: the tick it began, the image it restarts on, the tag of its FW_RESTART -/
  restart : Option (Nat × Bool × Option Nat) := none
  /-- the restarted bundle's SVN and the tick at which it went on (R592) -/
  newSvn : Option (Nat × Nat) := none
  /-- a SET_STATE in progress: target, tag, and the cause code of its last transition -/
  want : Option (Nat × Nat × Nat) := none
  /-- a decision of the firmware that waits for its boundary: target state, cause code -/
  decided : Option (Nat × Nat) := none
  /-- events of `State.events` that the firmware has judged (R610) -/
  seen : Nat := 0
  /-- the firmware images A and B as FW_WRITE writes them, and whether the inactive one has verified -/
  verified : Bool := false
  deriving DecidableEq, Repr

/-- The memories. -/
structure Mems where
  /-- compare RAM, 64 Ki entries of four words (R152) -/
  cmpRam : WordMem := []
  /-- the table pool, 64 Ki bins (R183, R189) -/
  pool : WordMem := []
  /-- LP local data, word 32768·k + i; LP code banks, word 32768·k + 16384·bank + i (R270, R271) -/
  lpData : WordMem := []
  lpCode : WordMem := []
  /-- USER words of the map windows, word 32·a + i (R290) -/
  user : WordMem := []
  /-- shared SRAM, 8 MiB -/
  sram : WordMem := []
  /-- the Hayloft, 16 MiB (R551); DRAM as the host, the firmware and the capture extension address it (R23, R474), by word -/
  hay : WordMem := []
  dram : WordMem := []
  /-- the yard-firmware images: byte 2^32·image + offset (R395) -/
  fw : ByteMem := []
  deriving DecidableEq, Repr

/-- The whole module. -/
structure State where
  /-- the commands that wait, first in, first out -/
  pending : List Instr := []
  /-- the BAR0 registers -/
  regs : RegFile := []
  /-- the values in effect of staged registers -/
  act : RegFile := []
  mem : Mems := {}
  /-- the ordering code is NX6432-F (R1) -/
  variantF : Bool := false
  /-- events on their way to the firmware, oldest first -/
  events : List Event := []
  /-- MSI-X vectors raised, oldest first -/
  vectors : List Nat := []
  /-- how many open values have been used -/
  freeCount : Nat := 0
  time : TimeSt := {}
  grids : Vector GridSt 80 := Vector.replicate 80 {}
  reqs : Vector ReqSt 10 := Vector.replicate 10 {}
  ports : Vector EPort 40 := Vector.replicate 40 {}
  latches : Vector LatchSt 32 := Vector.replicate 32 {}
  compares : Vector CompareSt 16 := Vector.replicate 16 {}
  rcs : Vector RcSt 32 := Vector.replicate 32 {}
  motion : Vector AxMo 80 := Vector.replicate 80 {}
  plans : Vector GrpPlan 16 := Vector.replicate 16 {}
  stops : List StopReq := []
  shafts : Vector LsSt 16 := Vector.replicate 16 {}
  /-- usable cam tables -/
  cams : List Cam := []
  /-- commands fetched and not completed -/
  inflight : List Inflight := []
  waits : List Wait := []
  /-- completions formed and not yet written, oldest first -/
  completions : List Completion := []
  netAxes : Vector NetAx 32 := Vector.replicate 32 {}
  loops : Vector AxLoop 80 := Vector.replicate 80 {}
  injs : Vector InjSt 16 := Vector.replicate 16 {}
  /-- the LP that serves each axis (R24) -/
  assign : Vector Nat 80 := Vector.ofFn fun i => if i.val < 32 then i.val / 2 else if i.val < 64 then (i.val - 32) / 2 else i.val - 64
  /-- the queue of every LP, first to run first -/
  runQ : Vector (List RunReq) 16 := Vector.replicate 16 []
  pwms : Vector PwmSt 40 := Vector.replicate 40 {}
  trips : Vector TripSt 36 := Vector.replicate 36 {}
  atcs : Vector AtcSt 16 := Vector.replicate 16 {}
  sds : Vector SdSt 96 := Vector.replicate 96 {}
  cles : Vector CleSt 32 := Vector.replicate 32 {}
  /-- the value that the latest read, post or acquire returned to its agent -/
  rdata : Word := 0
  groom : GroomSt := {}
  /-- stalls by 32·sender + receiver -/
  stalls : List (Nat × StallSt) := []
  agents : Vector AgentSt 29 := Vector.replicate 29 {}
  /-- XTIME in µs -/
  xtime : Nat := 100
  /-- the owner of each lock, and the rotating pointer of each bank (R539, R541) -/
  locks : Vector (Option Nat) 64 := Vector.replicate 64 none
  lockPtr : Vector Nat 2 := Vector.replicate 2 0
  lps : Vector LpSt 16 := Vector.replicate 16 {}
  nw : NetSt := {}
  safe : SafeSt := {}
  rm : RmSt := {}
  tw : TwinSt := {}
  sec : SecSt := {}
  io : IoSt := {}
  cans : Vector CanSt 4 := Vector.replicate 4 {}
  acq : AcqSt := {}
  log : LogSt := {}
  host : HostSt := {}
  pw : PowerSt := {}
  deriving DecidableEq, Repr

/-- The module right after reset: module reset is asserted, every register at its reset value (`regReset`), every engine
idle, no memory listed, no command waiting. -/
def State.reset : State := {}

end Sys2Proof.Machine
end

