-- ==== Sys2Proof/Machine/Ops.lean ====
section
/-! DEFINITION. The named operations over registers and memories: every meaning reads and writes the register file and the
memories through these. -/

namespace Sys2Proof.Machine

/-! ### Registers -/

/-- The word a register holds. -/
def State.rd (s : State) (a : Nat) : Word := spGet regReset s.regs a
/-- Put a word into a register. -/
def State.wr (s : State) (a : Nat) (v : Word) : State := { s with regs := spSet regReset s.regs a v }
/-- A register as a number. -/
def State.rdN (s : State) (a : Nat) : Nat := (s.rd a).toNat
/-- A register as a signed number. -/
def State.rdI (s : State) (a : Nat) : Int := (s.rd a).toInt
/-- Put a number into a register, modulo 2^32. -/
def State.wrN (s : State) (a : Nat) (v : Nat) : State := s.wr a (BitVec.ofNat 32 v)
/-- Put a signed number into a register, modulo 2^32. -/
def State.wrI (s : State) (a : Nat) (v : Int) : State := s.wr a (BitVec.ofInt 32 v)
/-- A field of a register. -/
def State.get (s : State) (a : Nat) (f : Fld) : Nat := s.rdN a / 2 ^ f.lo % 2 ^ f.w
/-- A one-bit field. -/
def State.flag (s : State) (a : Nat) (f : Fld) : Bool := s.get a f == 1
/-- A field as a signed number. -/
def State.getI (s : State) (a : Nat) (f : Fld) : Int := (BitVec.ofNat f.w (s.get a f)).toInt
/-- Put a number into a field, modulo its width. -/
def State.put (s : State) (a : Nat) (f : Fld) (v : Nat) : State :=
  let old := s.rdN a
  s.wrN a (old - (old / 2 ^ f.lo % 2 ^ f.w) * 2 ^ f.lo + (v % 2 ^ f.w) * 2 ^ f.lo)
/-- Set or clear a one-bit field. -/
def State.putB (s : State) (a : Nat) (f : Fld) (b : Bool) : State := s.put a f (b2n b)
def State.setf (s : State) (a : Nat) (f : Fld) : State := s.put a f 1
def State.clrf (s : State) (a : Nat) (f : Fld) : State := s.put a f 0
/-- Count one in a saturating counter field. -/
def State.count (s : State) (a : Nat) (f : Fld) : State := s.put a f (incSat f.w (s.get a f))
/-- Clear the bits of a mask. -/
def State.clrBits (s : State) (a : Nat) (m : Word) : State := s.wr a (s.rd a &&& ~~~m)
/-- A 64-bit register: low word at `a`, high word at `a + 4`. -/
def State.rd64 (s : State) (a : Nat) : Word64 := s.rd (a + 4) ++ s.rd a
def State.rd64N (s : State) (a : Nat) : Nat := (s.rd64 a).toNat
def State.rd64I (s : State) (a : Nat) : Int := (s.rd64 a).toInt
def State.wr64 (s : State) (a : Nat) (v : Word64) : State :=
  (s.wr a (v.setWidth 32)).wr (a + 4) ((v >>> 32).setWidth 32)
def State.wr64N (s : State) (a : Nat) (v : Nat) : State := s.wr64 a (BitVec.ofNat 64 v)
def State.wr64I (s : State) (a : Nat) (v : Int) : State := s.wr64 a (BitVec.ofInt 64 v)

/-! ### Values in effect of staged registers (RWC) and of settings that wait for a boundary -/

/-- The value in effect of a staged register. -/
def State.ard (s : State) (a : Nat) : Word := spGet regReset s.act a
def State.awr (s : State) (a : Nat) (v : Word) : State := { s with act := spSet regReset s.act a v }
def State.ardN (s : State) (a : Nat) : Nat := (s.ard a).toNat
def State.ardI (s : State) (a : Nat) : Int := (s.ard a).toInt
def State.aget (s : State) (a : Nat) (f : Fld) : Nat := s.ardN a / 2 ^ f.lo % 2 ^ f.w
def State.aflag (s : State) (a : Nat) (f : Fld) : Bool := s.aget a f == 1
def State.agetI (s : State) (a : Nat) (f : Fld) : Int := (BitVec.ofNat f.w (s.aget a f)).toInt
def State.ard64I (s : State) (a : Nat) : Int := (s.ard (a + 4) ++ s.ard a).toInt
/-- The staged value of a register takes effect. -/
def State.commit (s : State) (a : Nat) : State := s.awr a (s.rd a)
/-- The staged values of the words from `a`, `k` of them, take effect. -/
def State.commitN (s : State) (a : Nat) : Nat → State
  | 0 => s
  | k + 1 => (s.commit a).commitN (a + 4) k

/-! ### Memories -/

/-- A byte of a byte memory; a byte nothing has written reads 0. -/
def memGet (m : ByteMem) (a : Nat) : Byte := spGet (fun _ => 0) m a
def memSet (m : ByteMem) (a : Nat) (v : Byte) : ByteMem := spSet (fun _ => 0) m a v
/-- `k` bytes from address `a`. -/
def memRead (m : ByteMem) (a : Nat) : Nat → List Byte
  | 0 => []
  | k + 1 => memGet m a :: memRead m (a + 1) k
def memWrite (m : ByteMem) (a : Nat) : List Byte → ByteMem
  | [] => m
  | b :: bs => memWrite (memSet m a b) (a + 1) bs
/-- A word of a word memory; a word nothing has written reads 0. -/
def wmGet (m : WordMem) (i : Nat) : Word := spGet (fun _ => 0) m i
def wmSet (m : WordMem) (i : Nat) (v : Word) : WordMem := spSet (fun _ => 0) m i v
def wmWrite (m : WordMem) (i : Nat) : List Word → WordMem
  | [] => m
  | w :: ws => wmWrite (wmSet m i w) (i + 1) ws

/-! ### Time, events, free values -/

/-- TB_TICK. -/
def State.tick (s : State) : Nat := s.time.tick
/-- The present instant in 1/32 ticks. -/
def State.now (s : State) : Nat := 32 * s.time.tick
/-- The advance of module time in one tick: 2.5 ns plus the trim, in 2^−32 ns (R318). -/
def State.rate (s : State) : Int := 10737418240 + s.time.trim
/-- Time runs on to tick `t`; it never runs back.  A step or setting of module time that waits takes effect in the first
tick (R320). -/
def State.advanceTo (s : State) (t : Nat) : State :=
  if s.time.tick < t then
    let mt := (s.time.mt + s.rate * (t - s.time.tick : Nat)).toNat
    { s with time := { s.time with
        tick := t
        mt := match s.time.stepPend with
          | none => mt
          | some (true, v) => (v + s.rate * (t - s.time.tick - 1 : Nat)).toNat
          | some (false, v) => (mt + v).toNat
        stepPend := none } }
  else s
/-- The instant (1/32 ticks) at which module time reaches `m`. -/
def State.instantOf (s : State) (m : Nat) : Nat :=
  (s.now + ((m : Int) - s.time.mt) * 32 / s.rate).toNat
/-- Module time at an instant given in 1/32 ticks.  Within the tick in which a TRIM lands the old one holds (R333). -/
def State.mtAt (s : State) (t32 : Nat) : Nat :=
  let old := decide (s.time.trimAt = some s.tick) && decide (t32 / 32 = s.tick)
  (s.time.mt + ((t32 : Int) - s.now) * (if old then 10737418240 + s.time.trimPrev else s.rate) / 32).toNat
/-- An event reaches the firmware and the LPs. -/
def State.event (s : State) (k : EventKind) (u : Nat) (v : Int := 0) : State :=
  { s with events := s.events ++ [⟨k, u, v, s.time.mt⟩] }
/-- A value the manual leaves open; the counter moves on, so that no two uses share one. -/
def State.freeWord (s : State) : Word × State :=
  (Config.freeWord s.freeCount, { s with freeCount := s.freeCount + 1 })
def State.freeWord64 (s : State) : Word64 × State :=
  (Config.freeWord64 s.freeCount, { s with freeCount := s.freeCount + 1 })

/-- The vector of a ring or an event group is raised once (R475). A vector masked in the MSI-X table is held in the
pending-bit array. -/
def State.raiseVector (s : State) (v : Nat) : State :=
  if s.flag (MSIX_CTRL v) MSIX_CTRL_MASK then
    s.wrN (MSIXPBA_PBA (v / 32)) (nsetBit (s.rdN (MSIXPBA_PBA (v / 32))) (v % 32) true)
  else { s with vectors := s.vectors ++ [v] }
/-- An event of group E`g` (R475). -/
def State.group (s : State) (g : Nat) : State :=
  let ev := s.rdN HOST_EVT
  let s1 := s.wrN HOST_EVT (nsetBit ev g true)
  if !nbit ev g && nbit (s.rdN HOST_EVMASK) g then s1.raiseVector (128 + g) else s1

/-- A Ramaux counter counts, an event of group E3. -/
def State.rmCount (s : State) (a : Nat) (f : Fld) : State := (s.count a f).group 3

/-- Apply `f` to the state for every number of a list. -/
def State.forEach (s : State) (l : List Nat) (f : State → Nat → State) : State := l.foldl f s

/-! ### Operating state -/

/-- SYS_STATE STATE. -/
def State.opState (s : State) : Nat := s.get SYS_STATE SYS_STATE_STATE
def State.inDawn (s : State) : Bool := s.opState == 0
def State.inMorning (s : State) : Bool := s.opState == 1
def State.inNoon (s : State) : Bool := s.opState == 2
def State.inDusk (s : State) : Bool := s.opState == 3
def State.inNight (s : State) : Bool := s.opState == 4
/-- Noon or Dusk. -/
def State.running (s : State) : Bool := s.inNoon || s.inDusk
/-- The module belongs to a redundant pair, and its role in it (R377, R378). -/
def State.paired (s : State) : Bool := s.flag TW_CFG TW_CFG_EN
def State.isActive (s : State) : Bool := s.get TW_STAT TW_STAT_ROLE == 1
/-- It drives the lands that only the Active of a pair drives (R67, R159, R203). -/
def State.drivesLands (s : State) : Bool := !s.paired || s.isActive
/-- The ordering code has the safety die (R1). -/
def State.isS (s : State) : Bool := !s.variantF
/-- The frame length in ticks (R45). -/
def State.frameLen (s : State) : Nat := 12500 * s.time.m
/-- Record a refused or unmapped access in SYS_BADACC (R38). -/
def State.badAcc (s : State) (a : Nat) (refused : Bool) : State :=
  ((s.count SYS_BADACC SYS_BADACC_COUNT).put SYS_BADACC SYS_BADACC_OFFSET (a / 4)).putB SYS_BADACC SYS_BADACC_REASON refused

/-! ### Units -/

def State.port (s : State) (n : Nat) : EPort := vget s.ports n {}
def State.modPort (s : State) (n : Nat) (f : EPort → EPort) : State := { s with ports := vmod s.ports n f }
def State.latch (s : State) (n : Nat) : LatchSt := vget s.latches n {}
def State.modLatch (s : State) (n : Nat) (f : LatchSt → LatchSt) : State := { s with latches := vmod s.latches n f }
def State.compare (s : State) (n : Nat) : CompareSt := vget s.compares n {}
def State.modCompare (s : State) (n : Nat) (f : CompareSt → CompareSt) : State := { s with compares := vmod s.compares n f }
def State.rc (s : State) (n : Nat) : RcSt := vget s.rcs n {}
def State.modRc (s : State) (n : Nat) (f : RcSt → RcSt) : State := { s with rcs := vmod s.rcs n f }
def State.grid (s : State) (n : Nat) : GridSt := vget s.grids n {}
def State.modGrid (s : State) (n : Nat) (f : GridSt → GridSt) : State := { s with grids := vmod s.grids n f }

/-! ### Commands -/

/-- A command completes: its completion is formed and waits to be written (R489, R490).  A command that is no longer in
flight, or that has completed, completes to nobody. -/
def State.finish (s : State) (tag : Nat) (st : Status) (r0 : Nat := 0) (r1 : Nat := 0) (r2 : Nat := 0)
    (data : List Byte := []) : State :=
  match s.inflight.find? (fun i => i.tag == tag && !i.done) with
  | none => { s with waits := s.waits.filter fun w => w.tag != tag }
  | some i =>
    { s with
      inflight := s.inflight.map fun j => if j.tag == tag then { j with done := true } else j
      waits := s.waits.filter fun w => w.tag != tag
      completions := s.completions ++
        [{ tag := tag, status := st, opcode := i.opcode, ring := i.ring, sqidx := i.sqidx, dup := false, r0 := r0, r1 := r1
           r2 := r2, raddr := i.raddr, rlen := i.rlen, data := data, rloc := i.rloc, peer := i.peer }] }

/-- The command waits for an event of a unit. -/
def State.await (s : State) (tag : Nat) (k : WaitKind) (u : Nat) : State := { s with waits := s.waits ++ [⟨tag, k, u⟩] }

/-- Every command that waits for this event of this unit completes. -/
def State.resolve (s : State) (k : WaitKind) (u : Nat) (st : Status) (r0 : Nat := 0) (r1 : Nat := 0) (r2 : Nat := 0)
    (data : List Byte := []) : State :=
  (s.waits.filter fun w => w.kind == k && w.unit == u).foldl (fun s w => s.finish w.tag st r0 r1 r2 data) s

def State.mo (s : State) (n : Nat) : AxMo := vget s.motion n {}
def State.modMo (s : State) (n : Nat) (f : AxMo → AxMo) : State := { s with motion := vmod s.motion n f }
def State.shaft (s : State) (k : Nat) : LsSt := vget s.shafts k {}
def State.modShaft (s : State) (k : Nat) (f : LsSt → LsSt) : State := { s with shafts := vmod s.shafts k f }
/-- The drive side of network axis AX(32 + i). -/
def State.net (s : State) (i : Nat) : NetAx := vget s.netAxes i {}
def State.modNet (s : State) (i : Nat) (f : NetAx → NetAx) : State := { s with netAxes := vmod s.netAxes i f }

def State.loop (s : State) (n : Nat) : AxLoop := vget s.loops n {}
def State.modLoop (s : State) (n : Nat) (f : AxLoop → AxLoop) : State := { s with loops := vmod s.loops n f }
def State.inj (s : State) (k : Nat) : InjSt := vget s.injs k {}
def State.modInj (s : State) (k : Nat) (f : InjSt → InjSt) : State := { s with injs := vmod s.injs k f }
/-- The LP that serves an axis. -/
def State.lpOf (s : State) (n : Nat) : Nat := vget s.assign n 0

def State.ai (s : State) (i : Nat) : AiSt := vget s.io.ais i {}
/-- The value of an analogue channel that is present at tick `t`, and whether the channel is valid (R448, R449). -/
def State.aiVal (s : State) (i t : Nat) : Word := if (s.ai i).at_ ≤ t then s.rd (AI_VAL i) else (s.ai i).old
def State.aiStamp (s : State) (i t : Nat) : Word := if (s.ai i).at_ ≤ t then s.rd (AI_STAMP i) else (s.ai i).oldStamp
def State.aiValid (s : State) (i t : Nat) : Bool :=
  s.flag (AI_CFG i) AI_CFG_EN && !s.flag (AI_STAT i) AI_STAT_SHOPEN && (if (s.ai i).at_ ≤ t then (s.ai i).ok else (s.ai i).oldOk)
/-- What a law run uses: the latest value present before the tick in which it started. -/
def State.aiLaw (s : State) (i : Nat) : Int := (s.aiVal i (s.time.runAt - 1)).toInt

/-! ### Agents and stalls (R523, R531–R538) -/

/-- The agent ID of an index. -/
def agentId (i : Nat) : Nat :=
  if i < 2 then i else if i < 10 then 0x10 + (i - 2) else if i < 26 then 0x20 + (i - 10) else if i = 26 then 0x30 else if i = 27 then 0x31 else 0x40
/-- The stall from agent index `a` to `b` exists. -/
def State.stallExists (s : State) (a b : Nat) : Bool :=
  let yc := fun i => decide (2 ≤ i ∧ i < 10)
  let lp := fun i => decide (10 ≤ i ∧ i < 26)
  if a = b then false
  else if b < 2 then yc a || lp a
  else if yc b then a < 2 || yc a || lp a || ((a == 26 || a == 27) && s.isS) || a == 28
  else if lp b then a < 2 || yc a || lp a
  else b == 28 && yc a
def State.stall (s : State) (a b : Nat) : StallSt := spGet (fun _ => {}) s.stalls (32 * a + b)
def State.modStall (s : State) (a b : Nat) (f : StallSt → StallSt) : State :=
  { s with stalls := spSet (fun _ => {}) s.stalls (32 * a + b) (f (s.stall a b)) }
def State.agent (s : State) (i : Nat) : AgentSt := vget s.agents i {}
def State.modAgent (s : State) (i : Nat) (f : AgentSt → AgentSt) : State := { s with agents := vmod s.agents i f }

/-- DOORBELL of an agent (R534). -/
def State.doorbell (s : State) (b : Nat) : Nat :=
  (List.range 29).foldl (fun d a => d + (if s.stallExists a b && !(s.stall a b).msgs.isEmpty then 2 ^ a else 0)) 0
def State.doorbellMasked (s : State) (b : Nat) : Nat := s.doorbell b &&& (s.agent b).dbmask

/-- SEQ after `n`: 1 after 65 535. -/
def nextSeq (n : Nat) : Nat := if n ≥ 65535 then 1 else n + 1
/-- The tick for which the twin link is lost: posts to it are refused (R537). -/
def State.tackLost (s : State) : Bool := s.flag TW_STAT TW_STAT_TACK_LOST

/-- The staged words of a message of `n` bytes; the bytes beyond are 0. -/
def stagedWords (m : WordMem) (n : Nat) : List Word :=
  (List.range ((n + 3) / 4)).map fun i => if 4 * i + 4 ≤ n then wmGet m i else BitVec.ofNat 32 ((wmGet m i).toNat % 256 ^ (n - 4 * i))
/-- A stall takes a message: SEQ, length and words. -/
def State.stallPut (s : State) (a b len : Nat) (ws : List Word) : State :=
  s.modStall a b fun q =>
    { q with seq := nextSeq q.seq, msgs := q.msgs ++ [⟨nextSeq q.seq, len, ws, s.time.mt, s.tick⟩], since := if q.msgs.isEmpty then s.tick else q.since }

/-- A read of POST: the value returned, and the message posted (R532, R545). -/
def State.post (s : State) (a b : Nat) : Word × State :=
  if !s.stallExists a b then (0, s)
  else
    let q := s.stall a b
    if b = 28 && s.tackLost then (0x80000000, s)
    else if 4 ≤ q.msgs.length then (0x40000000, s)
    else (BitVec.ofNat 32 (nextSeq q.seq), s.stallPut a b q.len (stagedWords q.stg q.len))
/-- POP by receiver `b` of its stall from `a` (R533). -/
def State.pop (s : State) (b a : Nat) : State :=
  match (s.stall a b).msgs with
  | [] => s
  | m :: rest => s.modStall a b fun q => { q with msgs := rest, ackSeq := m.seq, discarded := false }
/-- The messages of a stall are discarded, each acknowledged as such (R538). -/
def State.discardStall (s : State) (a b : Nat) : State :=
  match (s.stall a b).msgs.getLast? with
  | none => s
  | some m => s.modStall a b fun q => { q with msgs := [], ackSeq := m.seq, discarded := true }

/-- Law code of the LP that serves axis `n` reports to the firmware through the stall from its LP to a yard core (R40).  Neither the
core nor the coding of the message is stated: YC0 receives one open word (DESIGN CHOICE); where the stall is full nothing is posted
(R532), and the event itself reaches the firmware all the same. An entry to Dusk that the firmware decided is not reported back. -/
def State.lpNotice (s : State) (n : Nat) (k : EventKind) : State :=
  if k == .dusk then s
  else
    let a := 10 + s.lpOf n
    let (w, s1) := s.freeWord
    if 4 ≤ (s1.stall a 2).msgs.length then s1 else s1.stallPut a 2 4 [w]

end Sys2Proof.Machine
end

