-- ==== Sys2Proof/Machine/Compare.lean ====
section
/-! DEFINITION. Compare outputs (R151–R159). -/

namespace Sys2Proof.Machine

/-- Entry `i` of compare RAM; word `j` of the RAM lies at BAR0 0x0010_0000 + 4j. -/
def State.cmpEntry (s : State) (i : Nat) : CmpEntry :=
  let w2 := (wmGet s.mem.cmpRam (4 * i + 2)).toNat
  { pos := (wmGet s.mem.cmpRam (4 * i + 1) ++ wmGet s.mem.cmpRam (4 * i)).toInt
    width := w2 % 2 ^ 24
    flags := w2 / 2 ^ 24 }

/-- The entry whose DIR or ACTION code is 0b11 is skipped with BADENT. -/
def CmpEntry.bad (e : CmpEntry) : Bool := e.flags % 4 == 3 || e.flags / 8 % 4 == 3
def CmpEntry.late (e : CmpEntry) : Bool := nbit e.flags 2
/-- DIR allows a crossing upwards (`up`) or downwards. -/
def CmpEntry.allows (e : CmpEntry) (up : Bool) : Bool :=
  e.flags % 4 == 0 || (e.flags % 4 == 1 && up) || (e.flags % 4 == 2 && !up)

/-- Entry `idx` of the list of COn with the wraps so far added to its POS (R153). -/
def State.coEntry (s : State) (n idx : Nat) : CmpEntry :=
  let e := s.cmpEntry (s.get (CO_LIST n) CO_LIST_BASE + idx)
  { e with pos := e.pos + s.rd64I (CO_CYCOFS n) * (s.compare n).wraps }

/-- The entry lies behind the count (R156). -/
def CmpEntry.behind (e : CmpEntry) (count : Int) (up : Bool) : Bool :=
  match e.flags % 4 with
  | 1 => decide (count ≥ e.pos)
  | 2 => decide (count ≤ e.pos)
  | _ => if up then decide (count ≥ e.pos) else decide (count ≤ e.pos)

/-- The lands changes due up to tick `t` happen: a pulse holds its level for its width, a new one restarts it, and set and idle
end it (R155). -/
def CompareSt.landTo (c : CompareSt) (t : Nat) : CompareSt :=
  let c1 := (c.lands.filter fun l => decide (l.at_ ≤ t)).foldl (fun c l =>
    match l.act with
    | 0 => { c with active := true, pulseEnd := some (l.at_ + l.width) }
    | 1 => { c with active := true, pulseEnd := none }
    | _ => { c with active := false, pulseEnd := none }) { c with lands := c.lands.filter fun l => decide (t < l.at_) }
  match c1.pulseEnd with
  | some e => if e ≤ t then { c1 with active := false, pulseEnd := none } else c1
  | none => c1

/-- A fire in tick `t`: the land follows 8 ticks later (R155), with the width clamped as R152 states. -/
def State.coFire (s : State) (n : Nat) (t : Nat) : State :=
  let e := (s.compare n).ent
  let w0 := if e.width = 0 then s.get (CO_CFG n) CO_CFG_DWIDTH else e.width
  let w := if e.width = 0 then w0 else max 4 (min 400000 w0)
  let s1 := if e.width ≠ 0 && w ≠ w0 then s.setf (CO_STAT n) CO_STAT_WCLAMP else s
  (s1.wrN (CO_FIRED n) (incSat 32 (s1.rdN (CO_FIRED n)))).modCompare n fun c =>
    { c with lands := c.lands ++ [{ at_ := t + 8, act := e.flags / 8 % 4, width := w }], hit := none }

/-- Disarm: no entry is armed; the output keeps its level and a running pulse completes. -/
def State.coDisarm (s : State) (n : Nat) : State :=
  (s.clrf (CO_STAT n) CO_STAT_ARMED).modCompare n fun c => { c with armed := none, check := none, hit := none, jump := none }

/-- Whether a change of the source count from `c0` to `c1` crosses an entry (R153, R154): onto POS in the incremental
modes; past it too in the SSI modes. -/
def CmpEntry.crossed (e : CmpEntry) (ssi : Bool) (c0 c1 : Int) : Bool :=
  if ssi then
    (decide (c0 < c1) && decide (c0 < e.pos) && decide (e.pos ≤ c1) && e.allows true)
    || (decide (c1 < c0) && decide (c1 ≤ e.pos) && decide (e.pos < c0) && e.allows false)
  else decide (c1 = e.pos) && e.allows (decide (c0 < c1))

/-- Entry `idx`, or the next one that is not skipped with BADENT, is loaded in tick `t`; at the end of the list the output stops or
goes on at entry 0 (R152, R153).  `fuel` bounds the entries passed over: a list without a usable entry disarms the output. -/
def State.coLoad (n t : Nat) : Nat → State → Nat → State
  | 0, s, _ => s.coDisarm n
  | fuel + 1, s, idx =>
    if s.get (CO_LIST n) CO_LIST_COUNT = 0 then s.coDisarm n
    else if s.get (CO_LIST n) CO_LIST_COUNT ≤ idx then
      if s.flag (CO_CFG n) CO_CFG_WRAP then
        State.coLoad n t fuel ((s.wrN (CO_CYC n) (incSat 32 (s.rdN (CO_CYC n)))).modCompare n fun c => { c with wraps := c.wraps + 1 }) 0
      else (s.coDisarm n).setf (CO_STAT n) CO_STAT_DONE
    else
      let e := s.coEntry n idx
      if e.bad then State.coLoad n t fuel (s.setf (CO_STAT n) CO_STAT_BADENT) (idx + 1)
      else ((s.wrN (CO_PTR n) idx).setf (CO_STAT n) CO_STAT_ARMED).modCompare n fun c => { c with armed := some idx, ent := e, since := t }

/-- The next entry of the list is to become armed in tick `t`. -/
def State.coNext (s : State) (n t : Nat) : State :=
  s.modCompare n fun c => { c with armed := c.armed.map (· + 1), check := some (t, true), since := t }

/-- The check of tick `t`, at which the source counts `count` (R156): an entry that the SSI change at work crossed fires, one that
lies behind sets BEHIND and fires only with LATE. -/
def State.coCheck (s : State) (n t : Nat) (read : Bool) (count : Int) : State :=
  let s0 := s.modCompare n fun c => { c with check := none }
  match (s0.compare n).armed with
  | none => s0
  | some idx =>
    let s1 := if read then State.coLoad n t (2 * s.get (CO_LIST n) CO_LIST_COUNT + 2) s0 idx else s0
    if (s1.compare n).armed.isNone then s1
    else
      let c := s1.compare n
      let hit := match c.jump with
        | some (c0, c1) => c.ent.crossed true c0 c1
        | none => false
      if hit then ((s1.coFire n t).setf (CO_STAT n) CO_STAT_JUMP).coNext n (t + 1)
      else
        let s2 := s1.modCompare n fun c => { c with jump := none }
        if c.ent.behind count (s.flag (EP_STAT (s.get (CO_CFG n) CO_CFG_SRCP)) EP_STAT_DIR) then
          let s3 := s2.setf (CO_STAT n) CO_STAT_BEHIND
          if c.ent.late then ((s3.coFire n t).setf (CO_STAT n) CO_STAT_LATEFIRED).coNext n (t + 1) else s3
        else s2

/-- The output works off what is due up to tick `t`, tick by tick, while the source counts `count`: a crossing seen in an earlier
tick fires in its own tick, and the entry after a fire becomes armed in the tick that follows it (R153, R154). -/
def State.coSettle (n t : Nat) (count : Int) : Nat → State → State
  | 0, s => s
  | fuel + 1, s =>
    match (s.compare n).hit, (s.compare n).check with
    | some h, _ => if h < t then State.coSettle n t count fuel ((s.coFire n h).coNext n (h + 1)) else s
    | none, some (c, read) => if c ≤ t then State.coSettle n t count fuel (s.coCheck n c read count) else s
    | none, none => s
/-- The output at the present tick; every tick holds at most two of its actions. -/
def State.coUpdate (s : State) (n : Nat) : State :=
  let from_ := match (s.compare n).hit, (s.compare n).check with
    | some h, _ => h
    | none, some (c, _) => c
    | none, none => s.tick
  (State.coSettle n s.tick (s.port (s.get (CO_CFG n) CO_CFG_SRCP)).count (2 * (s.tick + 1 - from_) + 2) s).modCompare n fun c => c.landTo s.tick
/-- The outputs on port `p` work off what is due before its count changes. -/
def State.coPort (s : State) (p : Nat) : State :=
  s.forEach (List.range 16) fun s n => if s.get (CO_CFG n) CO_CFG_SRCP = p then s.coUpdate n else s

/-- ARM (R153): entry START becomes the armed entry in the next tick; the wrap count starts from 0. Compare outputs run in Morning,
Noon and Dusk (R159). -/
def State.coArm (s : State) (n start : Nat) : State :=
  if s.flag (CO_CFG n) CO_CFG_EN && start < s.get (CO_LIST n) CO_LIST_COUNT && (s.inMorning || s.running) then
    (((s.coUpdate n).wrN (CO_CYC n) 0).setf (CO_STAT n) CO_STAT_ARMED).modCompare n fun c =>
      { c with wraps := 0, armed := some start, check := some (s.tick + 1, true), since := s.tick + 1, hit := none, jump := none }
  else s
/-- DISARM: a crossing in the tick of the write does not fire (R166). -/
def State.coStop (s : State) (n : Nat) : State := (s.coUpdate n).coDisarm n

/-- The count of port `p` moved from `c0` to `c1`: every compare output on that port looks for a crossing of an entry that is armed
by this tick (R153, R158). -/
def State.coCountChange (s : State) (p : Nat) (ssi : Bool) (c0 c1 : Int) : State :=
  s.forEach (List.range 16) fun s n =>
    if s.get (CO_CFG n) CO_CFG_SRCP = p && s.flag (CO_CFG n) CO_CFG_EN then
      if s.flag (EP_STAT p) EP_STAT_VALID then
        let c := s.compare n
        if c.armed.isSome && c.hit.isNone && c.since ≤ s.tick && c.ent.crossed ssi c0 c1 then
          s.modCompare n fun c => { c with hit := some s.tick, jump := if ssi then some (c0, c1) else none }
        else s
      else s.setf (CO_STAT n) CO_STAT_SRCINV
    else s

/-- A jump of the count by a preset or an index correction is no crossing: the armed entry is re-checked in the tick
after (R158). -/
def State.coCountJump (s : State) (p : Nat) : State :=
  s.forEach (List.range 16) fun s n =>
    if s.get (CO_CFG n) CO_CFG_SRCP = p then
      s.modCompare n fun c =>
        match c.check with
        | some (_, true) => c
        | _ => { c with check := some (s.tick + 1, false) }
    else s

/-- SRCINV follows VALID of the source port. -/
def State.coSrcOne (s : State) (n : Nat) : State :=
  s.putB (CO_STAT n) CO_STAT_SRCINV (!s.flag (EP_STAT (s.get (CO_CFG n) CO_CFG_SRCP)) EP_STAT_VALID)
def State.coSrcValid (s : State) (p : Nat) : State :=
  s.forEach (List.range 16) fun s n => if s.get (CO_CFG n) CO_CFG_SRCP = p then s.coSrcOne n else s

/-- A write of word `j` of compare RAM; a write of an entry's word at +0x08 makes the outputs on which it is armed
re-read it in the next tick (R157). -/
def State.cmpRamWrite (s : State) (j : Nat) (v : Word) : State :=
  let s0 := s.forEach (List.range 16) fun s n => s.coUpdate n
  let s1 := { s0 with mem := { s0.mem with cmpRam := wmSet s0.mem.cmpRam j v } }
  if j % 4 = 2 then
    s1.forEach (List.range 16) fun s n =>
      match (s.compare n).armed with
      | none => s
      | some idx =>
        if s.get (CO_LIST n) CO_LIST_BASE + idx = j / 4 then s.modCompare n fun c => { c with check := some (s.tick + 1, true) } else s
  else s1

/-- The land of COn is at its active level at the present tick. -/
def State.coActive (s : State) (n : Nat) : Bool := ((s.coUpdate n).compare n).active
/-- The tick at which the running pulse ends: the first end that no later change of the land comes before or with (R166). -/
def CompareSt.nextEnd : List CmpLand → Option Nat → Option Nat
  | [], e => e
  | l :: rest, some e => if e < l.at_ then some e else CompareSt.nextEnd rest (if l.act = 0 then some (l.at_ + l.width) else none)
  | l :: rest, none => CompareSt.nextEnd rest (if l.act = 0 then some (l.at_ + l.width) else none)
/-- A running compare pulse has held its level for WIDTH ticks (R155). -/
def State.coPulseEnd (s : State) (n : Nat) : State :=
  let s1 := s.coUpdate n
  match CompareSt.nextEnd (s1.compare n).lands (s1.compare n).pulseEnd with
  | none => s
  | some e => (s1.advanceTo e).modCompare n fun c => c.landTo e
/-- The level of the land of COn: IDLE inverted while active; none at high impedance, as on the Watch of a pair (R159, R169). -/
def State.coLand (s : State) (n : Nat) : Option Bool :=
  if s.drivesLands then some (s.coActive n != s.flag (CO_CFG n) CO_CFG_IDLE) else none

/-- Every compare output disarms and drives its idle level: entry to Dawn or Night (R159). -/
def State.coAllIdle (s : State) : State :=
  s.forEach (List.range 16) fun s n =>
    (s.coDisarm n).modCompare n fun c => { c with active := false, lands := [], pulseEnd := none }

end Sys2Proof.Machine
end

