-- ==== Sys2Proof/Machine/Ports.lean ====
section
/-! DEFINITION. Encoder ports (R65–R100): level filter, decoders, position word, speed window, SSI, index check, wire
fault, preset. -/

namespace Sys2Proof.Machine

def State.portMode (s : State) (p : Nat) : Nat := s.get (EP_CFG p) EP_CFG_MODE
def State.portOn (s : State) (p : Nat) : Bool := s.flag (EP_CFG p) EP_CFG_EN
/-- SSI, binary or Gray. -/
def State.portSsi (s : State) (p : Nat) : Bool := s.portMode p == 4 || s.portMode p == 5
def State.portValid (s : State) (p : Nat) : Bool := s.flag (EP_STAT p) EP_STAT_VALID
/-- The filter N in effect (R94). -/
def State.portN (s : State) (p : Nat) : Nat := s.aget (EP_FILT p) EP_FILT_N

/-- Whether the wire-fault check watches pair `i` (0 A, 1 B, 2 Z) in the port's mode (R65). -/
def State.pairChecked (s : State) (p i : Nat) : Bool :=
  let on := nbit (s.get (EP_CFG p) EP_CFG_PAIRCHK) i
  match s.portMode p with
  | 1 | 3 => on
  | 4 | 5 => on && i == 1
  | _ => false

/-- VALID is cleared. -/
def State.portInvalid (s : State) (p : Nat) : State := (s.clrf (EP_STAT p) EP_STAT_VALID).coSrcValid p

/-- LINE_BAD shows whether a checked pair is suspect now. -/
def State.lineBad (s : State) (p : Nat) : State :=
  s.putB (EP_STAT p) EP_STAT_LINE_BAD ((List.range 3).any fun i => (vget (s.port p).pairs i {}).suspect.isSome)
def State.modPair (s : State) (p i : Nat) (f : PairSt → PairSt) : State :=
  s.modPort p fun e => { e with pairs := vmod e.pairs i f }
/-- Which pairs are suspect now: those checked whose wires read the same level (R90). -/
def State.suspects (s : State) (p : Nat) : State :=
  ((List.range 3).foldl (fun s i =>
    s.modPair p i fun q =>
      { q with suspect := if s.pairChecked p i && q.p == q.n then (if q.suspect.isSome then q.suspect else some s.tick) else none }) s).lineBad p
/-- The level the receiver of a pair reports: in Hall mode that of the positive wire (R65); else the wires' where they differ, and
where they do not the level before they met (R90). -/
def PairSt.level (q : PairSt) (hall : Bool) : Bool := if hall || q.p != q.n then q.p else q.rx

/-- The Hall sector of a code U·V·W (R72); none for 0b000 and 0b111. -/
def hallSector (u v w : Bool) : Option Nat :=
  match u, v, w with
  | false, false, true => some 0
  | false, true, true => some 1
  | false, true, false => some 2
  | true, true, false => some 3
  | true, false, false => some 4
  | true, false, true => some 5
  | _, _, _ => none
/-- The code that the accepted levels form. -/
def EPort.hallCode (e : EPort) : Option Nat :=
  hallSector (vget e.pairs 0 {}).lvl (vget e.pairs 1 {}).lvl (vget e.pairs 2 {}).lvl
/-- In Hall mode the port takes the sector that the accepted levels give; HSECT shows it, or 7 (R100). -/
def State.hallTake (s : State) (p : Nat) : State :=
  let k := if s.portMode p = 2 then (s.port p).hallCode else none
  (s.put (EP_LINE p) EP_LINE_HSECT (k.getD 7)).modPort p fun e =>
    { e with sector := k, hallBad := if s.portMode p = 2 && k.isNone then some s.tick else none }

/-- Enabling a port, or a change of its mode (R75): count 0, REFD 0, VALID 1, but 0 in SSI mode.  The decoder starts from the levels
that the receivers report in that tick, as after a freeze (R92) (DEDUCED). -/
def State.portEnable (s : State) (p : Nat) : State :=
  let s1 := (s.clrf (EP_STAT p) EP_STAT_REFD).putB (EP_STAT p) EP_STAT_VALID (!s.portSsi p)
  let hall := s.portMode p == 2
  (((s1.clrf (EP_STAT p) EP_STAT_STILLST).modPort p fun e =>
    { e with
      pairs := e.pairs.map fun q => { q with rx := q.level hall, lvl := q.level hall, pend := none }
      count := 0, lastEdge := none, lastInt := none, edges := [], breaks := [], shifts := [], rRef := 0, lastIdx := none
      missed := false, frozen := none, errAt := [], since := s.tick
      ssi := { drive := e.ssi.drive } }).hallTake p).coSrcValid p

/-! ### Output lands of a port -/

/-- The termination of pair `i` is on: TERM, but forced off in Hall mode and on pair A in the SSI modes (R65, R66). -/
def State.termOn (s : State) (p i : Nat) : Bool :=
  nbit (s.get (EP_CFG p) EP_CFG_TERM) i && s.portMode p != 2 && !(s.portSsi p && i == 0)
/-- The level of the SSI clock that the port drives on pair A at an instant (R79): it idles high, falls at S and again every P
until the monoflop bit is launched, and rises half a period after each fall.  None at high impedance: outside the SSI modes, on the
Watch of a pair, and until the first frame start (R67). -/
def State.ssiClock (s : State) (p t32 : Nat) : Option Bool :=
  let P := 32 * s.get (EP_SSI p) EP_SSI_CLKPER
  if !(s.portOn p && s.portSsi p && s.drivesLands && (s.port p).ssi.drive) then none
  else match (s.port p).ssi.start with
    | none => some true
    | some S => some (t32 < S || (s.get (EP_SSI p) EP_SSI_LEN + 1) * P ≤ t32 - S || P / 2 ≤ (t32 - S) % max 1 P)

/-! ### The position word (R75–R78) -/

/-- The counted edges stamped at or before `t32` that reached the decoder by tick `by_`. -/
def EPort.edgesBy (e : EPort) (t32 by_ : Nat) : List (Nat × Bool × Nat) :=
  e.edges.filter fun x => decide (x.1 ≤ t32) && decide (x.2.2 ≤ by_)
def EPort.edgesAt (e : EPort) (t32 : Nat) : List (Nat × Bool × Nat) := e.edgesBy t32 (t32 / 32)

/-- The integer count at an instant, of the edges that reached the decoder by tick `by_`: the others are taken back, and so are the
jumps that enter the word later (R88, R93). -/
def EPort.countBy (e : EPort) (t32 by_ : Nat) : Int :=
  e.shifts.foldl (fun c x => if t32 < x.1 then c - x.2 else c)
    (e.edges.foldl (fun c x => if x.1 ≤ t32 && x.2.2 ≤ by_ then c else if x.2.1 then c - 1 else c + 1) e.count)
def EPort.countAt (e : EPort) (t32 : Nat) : Int := e.countBy t32 (t32 / 32)
/-- The sum of the index corrections that the word of an instant holds (R88, R174). -/
def EPort.corrAt (e : EPort) (t32 : Nat) : Int := e.corrs.foldl (fun c x => if t32 < x.1 then c - x.2 else c) e.corr
/-- The turn word at an instant, with CPR (R86, R183); none without a reference. -/
def State.turnAt (s : State) (p t32 : Nat) : Option (Int × Nat) :=
  let cpr := s.rdN (EP_CPR p)
  if cpr = 0 || !s.flag (EP_STAT p) EP_STAT_REFD then none else some (((s.port p).countAt t32 - (s.port p).rRef) % cpr, cpr)

/-- An interval that began at `t0` still counts at `t32`: no preset and no end of a freeze lies between (R92, R93). -/
def EPort.unbroken (e : EPort) (t0 t32 : Nat) : Bool := !e.breaks.any fun b => decide (t0 ≤ b) && decide (b < t32)

/-- The fraction of R76 in 2^−24 at an instant: 0 until two edges in one direction have been counted, and once STILL ticks have
passed without an edge (R77). -/
def State.portFrac (s : State) (p t32 by_ : Nat) : Int :=
  let e := s.port p
  if s.flag (EP_CFG p) EP_CFG_INTERP then
    match e.edgesBy t32 by_ with
    | (t1, up, _) :: (t0, up0, _) :: _ =>
      if up == up0 && t0 < t1 && t32 / 32 < t1 / 32 + s.aget (EP_STILL p) EP_STILL_STILL && e.unbroken t0 t32 then
        let f := min (divOpen (((t32 - t1 : Nat) : Int) * 2 ^ 24) ((t1 - t0 : Nat) : Int)) (2 ^ 24 - 1)
        if up then f else -f
      else 0
    | _ => 0
  else 0

/-- The word of a port at an instant, of the edges that reached the decoder by tick `by_` (R78, R82, R90, R148), Q40.24. -/
def State.portWordBy (s : State) (p t32 by_ : Nat) : Int :=
  let e := s.port p
  match e.frozen with
  | some w => w
  | none =>
    if s.portSsi p then
      let base := e.countBy t32 by_ * 2 ^ 24
      match e.ssi.good with
      | some (_, at32) =>
        if s.flag (EP_SSIT p) EP_SSIT_EXTRAP || !e.ssi.lastGood || e.ssi.skipped then
          wrapS 64 (base + divOpen (s.rdI (EP_SPEED p) * ((t32 : Int) - at32)) (32 * 16))
        else wrapS 64 base
      | none => wrapS 64 base
    else wrapS 64 (e.countBy t32 by_ * 2 ^ 24 + s.portFrac p t32 by_)
/-- The word a port offers at a boundary: only the edges accepted by its tick (R78). -/
def State.portWord (s : State) (p t32 : Nat) : Int := s.portWordBy p t32 (t32 / 32)

/-! ### References of the feedback deviation (R177) -/

/-- The word of a feedback code at an instant: a port's, or the newest position that the drive published. -/
def State.fbWord (s : State) (n p b : Nat) : Int :=
  if p < 40 then s.portWord p b else match (s.net (n - 32)).newer with
    | some (w, _) => w
    | none => 0
/-- p₁₀ and p₂₀ are taken at an instant. -/
def State.devRefs (s : State) (n t32 : Nat) : State :=
  let p1 := s.fbWord n (s.get (AXL_LFB n) AXL_LFB_FB1) t32
  let p2 := s.fbWord n (s.get (AXL_LFB n) AXL_LFB_FB2) t32
  s.modLoop n fun l => { l with p10 := p1, p20 := p2 }
/-- The axes that have port `p` as FB1 or FB2 take them after a preset of it. -/
def State.devPreset (s : State) (p t32 : Nat) : State :=
  s.forEach (idxWhere 64 fun n => s.get (AXL_LFB n) AXL_LFB_FB1 == p || s.get (AXL_LFB n) AXL_LFB_FB2 == p) fun s n => s.devRefs n t32

/-! ### Counting (R71–R73) -/

/-- A decoding or frame error: ERRCNT, and ERR for a decoding error. -/
def State.portError (s : State) (p : Nat) : State :=
  ((s.count (EP_CNT p) EP_CNT_ERRCNT).setf (EP_STAT p) EP_STAT_ERR).modPort p fun e => { e with errAt := s.tick :: e.errAt }

/-- The index miss check (R89). -/
def State.portMissCheck (s : State) (p : Nat) : State :=
  let e := s.port p
  match e.lastIdx with
  | some c0 =>
    if s.rdN (EP_CPR p) ≠ 0 && !e.missed && decide (absI (wrapS 40 (e.count - c0)) > s.rdN (EP_CPR p) + s.aget (EP_IDX p) EP_IDX_TOL) then
      ((((s.setf (EP_STAT p) EP_STAT_INDEX_MISS).count (EP_CNT p) EP_CNT_SLIPCNT).modPort p fun e =>
        { e with missed := true }).event .indexMiss p).group 2
    else s
  | none => s

/-- One increment is counted from an edge stamped `st`. -/
def State.portCount (s00 : State) (p : Nat) (up0 : Bool) (st : Nat) : State :=
  let s := s00.coPort p
  let up := up0 != s.flag (EP_CFG p) EP_CFG_DIRINV
  let e := s.port p
  let c1 := wrapS 40 (if up then e.count + 1 else e.count - 1)
  let s1 := ((s.putB (EP_STAT p) EP_STAT_DIR up).clrf (EP_STAT p) EP_STAT_STILLST).modPort p fun e =>
    { e with
      count := c1
      raw := wrapS 40 (if up0 then e.raw + 1 else e.raw - 1)
      lastInt := e.lastEdge.map fun t => st - t
      lastEdge := some st
      edges := (st, up, s.tick) :: e.edges }
  (s1.coCountChange p false e.count c1).portMissCheck p

/-! ### Index (R86–R88) -/

/-- The qualified index goes to the latches whose ISEL names the port (R147). -/
def State.indexToLatches (s : State) (p st : Nat) : State :=
  s.forEach (List.range 32) fun s n =>
    if s.flag (LI_CFG n) LI_CFG_ISEL && s.get (LI_CFG n) LI_CFG_IDXP = p && s.flag (LI_CFG n) LI_CFG_EN
        && nbit (s.get (LI_CFG n) LI_CFG_EDGE) 0 then
      s.modLatch n fun l => { l with open_ := l.open_ ++ [(st, true)] }
    else s

/-- The error of an index: the count minus the nearest R_ref + k·CPR (R87). -/
def indexError (count ref cpr : Int) : Int :=
  if cpr ≤ 0 then 0 else let d := (count - ref) % cpr; if 2 * d > cpr then d - cpr else d

/-- A wire fault falls by tick `t`: a pair, or an invalid Hall code, has been suspect for WFT ticks (R90). -/
def State.faultDue (s : State) (p t : Nat) : Bool :=
  let wft := s.aget (EP_FILT p) EP_FILT_WFT
  let due := fun (x : Option Nat) => match x with
    | some t0 => decide (t0 + wft ≤ t)
    | none => false
  wft ≠ 0 && s.portOn p && (s.port p).frozen.isNone &&
    (due (s.port p).hallBad || (List.range 3).any fun i => due (vget (s.port p).pairs i {}).suspect)

/-- A jump of the count: it is in the word from the tick after on (R88, R93). -/
def EPort.shift (e : EPort) (t : Nat) (d : Int) : EPort := { e with count := wrapS 40 (e.count + d), shifts := (32 * (t + 1), d) :: e.shifts }

/-- A qualified index is accepted: a reference, which needs VALID = 1 (R86); or the check of R87 and the correction of R88.  In the
tick of a preset or of a wire fault it is discarded (R94). -/
def State.portIndex (s00 : State) (p : Nat) : State :=
  let s := s00.coPort p
  let e := s.port p
  let cpr : Int := s.rdN (EP_CPR p)
  if cpr = 0 || e.presetTick == some s.tick || s.faultDue p s.tick then s
  else if !s.flag (EP_STAT p) EP_STAT_REFD then
    if s.portValid p then
      (s.setf (EP_STAT p) EP_STAT_REFD).modPort p fun e => { e with rRef := e.count, lastIdx := some e.count, missed := false }
    else s
  else
    let er := indexError e.count e.rRef cpr
    let s1 := (s.wrI (EP_IDXERR p) er).modPort p fun e => { e with lastIdx := some e.count, missed := false }
    let corr := s.aflag (EP_IDX p) EP_IDX_CORR
    if absI er ≤ s.aget (EP_IDX p) EP_IDX_TOL && !(corr && s.aget (EP_IDX p) EP_IDX_MAXCORR = 0 && er ≠ 0) then s1
    else
      let s2 := (((s1.setf (EP_STAT p) EP_STAT_INDEX_SLIP).count (EP_CNT p) EP_CNT_SLIPCNT).event .indexSlip p er).group 2
      if !corr then s2
      else if absI er ≤ s.aget (EP_IDX p) EP_IDX_MAXCORR then
        (s2.modPort p fun e => { e.shift s.tick (-er) with corr := e.corr + er * 2 ^ 24, corrs := (32 * (s.tick + 1), er * 2 ^ 24) :: e.corrs, lastIdx := some (wrapS 40 (e.count - er)) }).coCountJump p
      else
        (((s2.setf (EP_STAT p) EP_STAT_INDEX_BIG).clrf (EP_STAT p) EP_STAT_REFD).portInvalid p).event .indexBig p er

/-- The index is qualified as IDXQ selects, by the levels the decoder holds (R86). -/
def State.indexQualified (s : State) (p : Nat) : Bool :=
  let e := s.port p
  let a := (vget e.pairs 0 {}).lvl
  let b := (vget e.pairs 1 {}).lvl
  match s.get (EP_CFG p) EP_CFG_IDXQ with
  | 0 => true
  | 1 => a && b
  | 2 => !a && !b
  | _ => false

/-! ### Level filter and decoders -/

/-- The tick in which a transition still in the filter reaches the decoder (R70). -/
def PairSt.acceptTick (q : PairSt) (n : Nat) : Option Nat := q.pend.map fun st => st / 32 + max n 1

/-- Whether the level pending in the filter has lasted N ticks at instant `t32` (R70); with N = 0 it is accepted in the tick
after its own. -/
def PairSt.settled (q : PairSt) (n t32 : Nat) : Bool :=
  match q.pend with
  | none => false
  | some st => if n = 0 then decide (st / 32 < t32 / 32) else decide (st + 32 * n ≤ t32)

/-- The new Hall code after accepted changes: an adjacent sector counts, another valid one is a decoding error (R72). -/
def State.hallStep (s : State) (p st : Nat) : State :=
  match (s.port p).hallCode with
  | none => (s.put (EP_LINE p) EP_LINE_HSECT 7).modPort p fun e => { e with hallBad := if e.hallBad.isSome then e.hallBad else some s.tick }
  | some k =>
    let old := (s.port p).sector
    let s1 := (s.put (EP_LINE p) EP_LINE_HSECT k).modPort p fun e => { e with hallBad := none, sector := some k }
    match old with
    | none => s1
    | some o =>
      if k = o then s1
      else if k = (o + 1) % 6 then s1.portCount p true st
      else if o = (k + 1) % 6 then s1.portCount p false st
      else s1.portError p

/-- An accepted level of pair `i`, stamped `st`, reaches the decoder of the port's mode.  `other`: the other count pair is
accepted in the same tick. -/
def State.decode (s : State) (p i st : Nat) (other : Bool) : State :=
  let e := s.port p
  let a := (vget e.pairs 0 {}).lvl
  let b := (vget e.pairs 1 {}).lvl
  match s.portMode p with
  | 1 =>
    if i = 2 then
      if (vget e.pairs 2 {}).lvl && s.indexQualified p then (s.indexToLatches p st).portIndex p else s
    else if other then s.portError p
    else if i = 0 then s.portCount p (a != b) st
    else s.portCount p (a == b) st
  | 2 => s.hallStep p st
  | 3 =>
    if i = 2 then
      if (vget e.pairs 2 {}).lvl && s.indexQualified p then (s.indexToLatches p st).portIndex p else s
    else if i = 0 then
      let edge := s.get (EP_CFG p) EP_CFG_PDEDGE
      if edge = 2 || (edge = 0 && a) || (edge = 1 && !a) then
        s.portCount p (if e.dirTick = some s.tick then !b else b) st
      else s
    else s.modPort p fun e => { e with dirTick := some s.tick }
  | _ => s

/-- Pair `i` has a level that is accepted in tick `t`, and it is not suspect. -/
def State.pairDue (s : State) (p i t : Nat) : Bool :=
  let q := vget (s.port p).pairs i {}
  q.acceptTick (s.portN p) == some t && q.suspect.isNone
/-- The receiver's level of pair `i` is the accepted one. -/
def State.acceptPair (s : State) (p i : Nat) : State := s.modPair p i fun q => { q with lvl := q.rx, pend := none }
/-- The accepted level of pair `i`, stamped `st`, reaches the decoder in tick `t`.  Transitions of A and B that reach the decoder in
one tick are taken together in quadrature mode (R71), and so are those of U, V and W in Hall mode (R72). -/
def State.acceptOne (s : State) (p i st t : Nat) : State :=
  if s.portMode p = 2 then
    ((List.range 3).foldl (fun s' j => if j == i || s.pairDue p j t then s'.acceptPair p j else s') s).decode p i st false
  else
    let other := s.portMode p == 1 && decide (i ≤ 1) && s.pairDue p (1 - i) t
    ((if other then s.acceptPair p (1 - i) else s).acceptPair p i).decode p i st other
/-- A level of pair `i` that has been stable for N ticks is accepted (R70) and decoded.  A Z edge sees the levels of A and B as they
are after those accepted in its tick (R86).  A transition still in the filter when its pair becomes suspect brings the accepted level
but is not decoded: R90 says only that no transition is accepted while the pair is suspect (DESIGN CHOICE). -/
def State.levelAccepted (s : State) (p i : Nat) : State :=
  let q := vget (s.port p).pairs i {}
  match q.pend, q.acceptTick (s.portN p) with
  | some st, some t =>
    let s1 := s.advanceTo t
    if !s.portOn p || (s.port p).frozen.isSome || q.suspect.isSome then s1.acceptPair p i
    else if i = 2 && s.portMode p ≠ 2 then
      let first := fun (s : State) (j : Nat) =>
        if s.pairDue p j t then s.acceptOne p j ((vget (s.port p).pairs j {}).pend.getD 0) t else s
      (first (first s1 0) 1).acceptOne p i st t
    else s1.acceptOne p i st t
  | _, _ => s

/-- The SSI receiver sees a change of pair `i` to `lvl`: on pair B the data of the frame; on pair A, where this module does not drive
the clock, the first falling edge starts the frame that the Active clocks (R67). -/
def State.ssiWire (s : State) (p i : Nat) (lvl : Bool) (t32 : Nat) : State :=
  if !(s.portOn p && s.portSsi p) then s
  else if i = 1 then s.modPort p fun e => { e with ssi := { e.ssi with data := if e.ssi.start.isSome then (t32, lvl) :: e.ssi.data else [] } }
  else if i = 0 && !lvl && !s.drivesLands && (s.port p).ssi.start.isNone then
    s.modPort p fun e => { e with ssi := { e.ssi with start := some t32, data := [], lvl0 := (vget e.pairs 1 {}).rx } }
  else s

/-- A comparator of wire `neg` of pair `i` changes to `lvl` at instant `at_`, stamped to 1/8 tick (R69, R90): a change of the receiver's
level enters the level filter, and a level that did not last N ticks is discarded with its return.  With N = 0 a transition and its
return in one tick cancel each other: R71 lets the decoder accept at most one and does not say which (DESIGN CHOICE). -/
def State.pairTransition (s : State) (p i : Nat) (neg lvl : Bool) (at_ : Nat) : State :=
  let t32 := at_ / 4 * 4
  let s0 := s.advanceTo (t32 / 32)
  let q := vget (s0.port p).pairs i {}
  let s1 := if q.settled (s0.portN p) t32 then s0.levelAccepted p i else s0
  let q := vget (s1.port p).pairs i {}
  let q1 := if neg then { q with n := lvl } else { q with p := lvl }
  let rx := q1.level (s1.portMode p == 2)
  let bit := 2 * i + b2n neg
  let s2 := s1.put (EP_LINE p) EP_LINE_WIRES (nsetBit (s1.get (EP_LINE p) EP_LINE_WIRES) bit lvl)
  let s3 := (s2.modPair p i fun _ =>
    { q1 with rx := rx, pend := if rx == q.rx then q.pend else if q.pend.isSome then none else some t32 }).suspects p
  if rx == q.rx then s3 else s3.ssiWire p i rx t32

/-- A wire fault is detected (R90): WIRE_FAULT, WF_PAIR and WFCNT; VALID and REFD clear and the word freezes, all in one
tick. -/
def State.portWireFault (s : State) (p wf t : Nat) : State :=
  let s1 := s.advanceTo t
  let w := s1.portWord p (32 * t)
  (((((((s1.setf (EP_STAT p) EP_STAT_WIRE_FAULT).put (EP_STAT p) EP_STAT_WF_PAIR wf).count (EP_CNT p) EP_CNT_WFCNT).clrf
    (EP_STAT p) EP_STAT_REFD).modPort p fun e => { e with frozen := some w }).portInvalid p).event .wireFault p wf).group 2

/-- WIRE_FAULT of pair `i` (3: the Hall code): it falls WFT ticks after the pair became suspect; with WFT = 0 the check is
off. -/
def State.wireFault (s : State) (p i : Nat) : State :=
  let wft := s.aget (EP_FILT p) EP_FILT_WFT
  let since := if i = 3 then (s.port p).hallBad else (vget (s.port p).pairs i {}).suspect
  match since with
  | some t0 => if wft = 0 || !s.portOn p || (s.port p).frozen.isSome then s else s.portWireFault p i (t0 + wft)
  | none => s

/-- STILL ticks have passed since the last counted edge (R77); before the first one they count from enabling (DEDUCED: 'no edge has
been counted for STILL ticks'). -/
def State.stillTimeout (s : State) (p : Nat) : State :=
  let t := (match (s.port p).lastEdge with
    | some st => st / 32
    | none => (s.port p).since) + s.aget (EP_STILL p) EP_STILL_STILL
  if s.portOn p && !s.portSsi p then (s.advanceTo t).setf (EP_STAT p) EP_STAT_STILLST else s

/-! ### Speed window (R84, R85) -/

/-- The edges since the last reversal, of a list newest first. -/
def sinceReversal : List (Nat × Bool × Nat) → List (Nat × Bool × Nat)
  | a :: b :: rest => if a.2.1 == b.2.1 then a :: sinceReversal (b :: rest) else [a]
  | l => l

/-- ±`num`/`den` ticks in Q4.28 increments per tick, saturated to S32; `den` in 1/32 ticks. -/
def speedOf (up : Bool) (num den : Int) : Int :=
  if den ≤ 0 then 0 else let v := divOpen (num * 32 * 2 ^ 28) den; sat32 (if up then v else -v)

/-- A reversal among edges, newest first, that lies at or after `start`: an edge whose direction differs from the one before it. -/
def reversedSince (start : Nat) : List (Nat × Bool × Nat) → Bool
  | a :: b :: rest => (decide (start ≤ a.1) && a.2.1 != b.2.1) || reversedSince start (b :: rest)
  | _ => false

/-- The speed window that ends at `t32` (R84): EDGES, TFIRST, TLAST, SPEED and the flags of R85. -/
def State.speedWindow (s : State) (p t32 : Nat) : State :=
  let e := s.port p
  let win := 32 * s.aget (EP_WIN p) EP_WIN_WIN
  let still := 32 * s.aget (EP_STILL p) EP_STILL_STILL
  let start := t32 - win
  let all := e.edgesAt t32
  let ws := all.filter fun x => decide (start ≤ x.1)
  let net : Int := ws.foldl (fun c x => if x.2.1 then c + 1 else c - 1) 0
  let first := match ws.getLast? with
    | some x => if net = 0 then 0 else (x.1 - start) / 4
    | none => 0
  let last := match ws.head? with
    | some x => if net = 0 then 0 else (x.1 - start) / 4
    | none => 0
  let run := sinceReversal ws
  let up := s.flag (EP_STAT p) EP_STAT_DIR
  let prevInt := match all with
    | a :: b :: _ => if e.unbroken b.1 t32 then a.1 - b.1 else 0
    | _ => 0
  let elapsed := match all.head? with
    | some x => t32 - x.1
    | none => t32 - 32 * e.since
  let speed : Int :=
    match run with
    | [] =>
      if still < elapsed then 0
      else if elapsed ≤ prevInt then s.rdI (EP_SPEED p)
      else if all.isEmpty then 0
      else speedOf up 1 elapsed
    | [x] => if prevInt ≤ still && prevInt ≠ 0 then speedOf x.2.1 1 prevInt else 0
    | x :: _ => match run.getLast? with
      | some y => speedOf x.2.1 (run.length - 1) ((x.1 : Int) - y.1)
      | none => 0
  let s1 := ((((s.wrI (EP_EDGES p) net).wrN (EP_TFIRST p) first).wrN (EP_TLAST p) last).wrI (EP_SPEED p) speed)
  let s2 := (s1.putB (EP_STAT p) EP_STAT_REV (reversedSince start all)).putB (EP_STAT p) EP_STAT_LOW (decide (run.length < 2))
  let s3 := if run.isEmpty && still < elapsed then s2.setf (EP_STAT p) EP_STAT_STILLST else s2
  let lim := s.aget (EP_FILT p) EP_FILT_ERRLIM
  let errs := (e.errAt.filter fun t => decide (start < 32 * t ∧ 32 * t ≤ t32)).length
  if lim ≠ 0 && lim < errs then (s3.portInvalid p).event .validLost p errs else s3

/-! ### Sync boundary (R78, R93, R94) -/

/-- The settings that wait for a sync boundary (R94). -/
def staged (p : Nat) : List Nat := [EP_FILT p, EP_WIN p, EP_STILL p, EP_IDX p]
/-- A write of one of them is about to change it in the present tick: its value before the tick is kept. -/
def State.portStage (s : State) (p a : Nat) : State :=
  s.modPort p fun e =>
    let old := if e.setTick == some s.tick then e.setOld else []
    { e with setTick := some s.tick, setOld := if old.any (·.1 == a) then old else (a, s.rd a) :: old }
/-- Written settings take effect at a sync boundary, but not those written in its tick (R94). -/
def State.portSettings (s : State) (p t32 : Nat) : State :=
  let e := s.port p
  (staged p).foldl (fun s a => match if e.setTick == some (t32 / 32) then e.setOld.find? (·.1 == a) else none with
    | some x => s.awr a x.2
    | none => s.commit a) s

/-- A pending LOAD is applied at `t32` (R93): the edges stamped later count on from the preset, among them one stamped before the
instant but accepted after it, which R93 does not speak of (DESIGN CHOICE: it counts on top of the preset, since it was in no word
before). -/
def State.presetApply (s00 : State) (p t32 : Nat) : State :=
  if (s00.port p).load then
    let s := s00.coPort p
    let e := s.port p
    let later := e.count - e.countAt t32
    let v := wrapS 40 (s.rd64I (EP_PRESET p) / 2 ^ 24 + later)
    (((s.putB (EP_STAT p) EP_STAT_REFD (s.rdN (EP_CPR p) == 0)).modPort p fun e =>
      { e.shift (t32 / 32) (v - e.count) with
        load := false, rRef := 0, lastIdx := none, missed := false, lastInt := none, breaks := t32 :: e.breaks, presetTick := some (t32 / 32) }).coCountJump p).devPreset p (32 * (t32 / 32 + 1)) |>.resolve
      .portLoad p .ok
  else s00

/-- What a port does at its sync boundary at `t32` before anything of it changes: the word is taken and the speed window ends.
Outside the SSI modes EPn_PSTAMP takes the boundary instant: R95 gives it as the sample instant, and R78 evaluates the word there
(DESIGN CHOICE). -/
def State.portTake (s : State) (p t32 : Nat) : State :=
  if s.portOn p then
    let st := match s.portSsi p, (s.port p).ssi.good with
      | true, some (_, t) => t
      | _, _ => t32
    let s1 := (s.wr64I (EP_POS p) (s.portWord p t32)).wrN (EP_PSTAMP p) (st / 4)
    let s2 := if s.portSsi p then s1 else s1.speedWindow p t32
    let v := s2.rdI (EP_SPEED p) * 25000000
    let ts := s.mtAt t32 / 65536
    s2.modPort p fun e =>
      let a := if e.mts < ts then divOpen ((v - e.mv) * 65536000000000) ((ts - e.mts : Nat) : Int) else e.ma
      { e with
        mp := s.portWord p t32, mv := v, mts := ts, ma := a
        edges := (e.edges.take 2) ++ (e.edges.drop 2).filter fun x => decide (t32 ≤ x.1 + 12800000)
        mFrame := if e.mFrame.any (fun x => x.1 == s.time.frameNum) then e.mFrame
          else some (s.time.frameNum, { p := s.portWord p t32, v := v, a := a, ts := ts })
        errAt := e.errAt.filter fun t => decide (t32 ≤ 32 * t + 12800000)
        shifts := e.shifts.filter fun x => decide (t32 ≤ x.1 + 12800000)
        corrs := e.corrs.filter fun x => decide (t32 ≤ x.1 + 12800000)
        breaks := e.breaks.filter fun b => decide (t32 ≤ b + 12800000) }
  else s
/-- What follows at the same boundary: a preset, and written settings. -/
def State.portAfter (s : State) (p t32 : Nat) : State :=
  (if s.portOn p then s.presetApply p t32 else s).portSettings p t32
def State.portSync (s : State) (p t32 : Nat) : State := (s.portTake p t32).portAfter p t32

/-! ### SSI frames (R79–R83) -/

/-- T_F = (LEN + 1) × P + DELAY (R79). -/
def State.ssiFrameTime (s : State) (p : Nat) : Nat :=
  (s.get (EP_SSI p) EP_SSI_LEN + 1) * s.get (EP_SSI p) EP_SSI_CLKPER + s.get (EP_SSIT p) EP_SSIT_DELAY

/-- Gray code to binary over `k` bits. -/
def grayToBin : Nat → Nat → Nat
  | 0, _ => 0
  | k + 1, g => let hi := grayToBin k (g / 2); 2 * hi + (hi + g) % 2

/-- The position field of the received bits (R81). -/
def State.ssiField (s : State) (p raw : Nat) : Nat :=
  let len := s.get (EP_SSI p) EP_SSI_LEN
  let n := s.get (EP_SSI p) EP_SSI_POSLEN
  let f := raw / 2 ^ (len - s.get (EP_SSI p) EP_SSI_SKIP - n) % 2 ^ n
  if s.portMode p = 5 then grayToBin n f else f

/-- A frame of boundary `b` starts at S, the present tick (R82): skipped with SSI_SLOW while the previous one or its pause has not
ended.  The Watch of a pair starts none: its frames begin with the clock it observes (R67). -/
def State.ssiStart (s : State) (p b : Nat) : State :=
  let e := s.port p
  if !(s.portOn p && s.portSsi p && s.drivesLands) then s
  else
    let s1 := s.modPort p fun e => { e with ssi := { e.ssi with forB := some b } }
    if e.ssi.start.isSome || s.tick < e.ssi.busyUntil then
      (s1.setf (EP_STAT p) EP_STAT_SSI_SLOW).modPort p fun e => { e with ssi := { e.ssi with skipped := true } }
    else
      s1.modPort p fun e => { e with ssi := { e.ssi with start := some s.now, drive := true, data := [], lvl0 := (vget e.pairs 1 {}).rx } }
/-- The module leaves the Active role: its SSI clocks go to high impedance (R67, R390). -/
def State.ssiRelease (s : State) : State :=
  s.forEach (List.range 40) fun s p => s.modPort p fun e => { e with ssi := { e.ssi with drive := false } }

/-- A good value enters the count (R81), and the compare outputs see the whole change (R154). -/
def State.ssiValue (s00 : State) (p f samp32 : Nat) : State :=
  let s := s00.coPort p
  let e := s.port p
  let n := s.get (EP_SSI p) EP_SSI_POSLEN
  match e.ssi.prev with
  | none =>
    (((s.setf (EP_STAT p) EP_STAT_VALID).coSrcValid p).modPort p fun e =>
      { e with count := f, raw := f, ssi := { e.ssi with prev := some f, good := some ((f : Int), samp32), lastGood := true, skipped := false, errs := 0 } })
  | some v =>
    let d0 := wrapS n ((f : Int) - v)
    let d := if s.flag (EP_CFG p) EP_CFG_DIRINV then -d0 else d0
    let c1 := wrapS 40 (e.count + d)
    let sp := match e.ssi.good with
      | some (_, t0) => if t0 < samp32 then sat32 (divOpen (d * 32 * 2 ^ 28) ((samp32 : Int) - t0)) else 0
      | none => 0
    let s1 := (s.modPort p fun e =>
      { e with count := c1, raw := wrapS 40 (e.raw + d0), ssi := { e.ssi with prev := some f, good := some (c1, samp32), lastGood := true, skipped := false, errs := 0 } })
    let s2 := (s1.wrI (EP_SPEED p) sp)
    let s3 := if d = 0 then s2 else s2.putB (EP_STAT p) EP_STAT_DIR (decide (0 < d))
    (s3.coCountChange p true e.count c1).portMissCheck p

/-- A frame in error (R83): the next frame is a calibration frame (R80), and ERRLIM consecutive errors clear VALID (R74). -/
def State.ssiError (s : State) (p : Nat) : State :=
  let lim := s.aget (EP_FILT p) EP_FILT_ERRLIM
  let n := (s.port p).ssi.errs + 1
  let s1 := ((s.setf (EP_STAT p) EP_STAT_SSI_FRAME).count (EP_CNT p) EP_CNT_ERRCNT).modPort p fun e =>
    { e with ssi := { e.ssi with errs := n, cal := true, lastGood := false } }
  if lim ≠ 0 && lim ≤ n then (s1.portInvalid p).event .validLost p n else s1

/-- The level of the frame's data at an instant: that of its latest change, newest first. -/
def SsiSt.levelAt (x : SsiSt) (t32 : Nat) : Bool :=
  match x.data.find? fun d => decide (d.1 ≤ t32) with
  | some d => d.2
  | none => x.lvl0
/-- Rising edge `k` of the clock of a frame that began at `S` (R79). -/
def State.ssiRise (s : State) (p S k : Nat) : Nat := let P := s.get (EP_SSI p) EP_SSI_CLKPER; S + 16 * P + 32 * ((k - 1) * P)
/-- Bit `k` as the port samples it (R79). -/
def State.ssiBit (s : State) (p S k : Nat) : Bool :=
  (s.port p).ssi.levelAt (s.ssiRise p S k + 32 * s.get (EP_SSIT p) EP_SSIT_DELAY + 16 * s.get (EP_SSI p) EP_SSI_CLKPER)
/-- All bits of a frame, bit 1 in bit LEN − 1 (R81). -/
def State.ssiRaw (s : State) (p S : Nat) : Nat :=
  (List.range (s.get (EP_SSI p) EP_SSI_LEN)).foldl (fun r i => 2 * r + b2n (s.ssiBit p S (i + 1))) 0

/-- The number of the first 0 bit of a frame, the monoflop bit among them, of which the encoder has sent the bits `w` and `mono`; 0 where it
has sent none (R80). -/
def State.ssiFirst (s : State) (p w : Nat) (mono : Bool) : Nat :=
  let len := s.get (EP_SSI p) EP_SSI_LEN
  match (List.range len).find? fun i => !nbit w (len - 1 - i) with
  | some i => i + 1
  | none => if mono then 0 else len + 1
/-- The end of an SSI frame (R79–R83).  The data are what pair B brought since S.  `first` is the number of the bit that the encoder
sent as its first 0: it tells which rising edge launched the first falling edge of data, which the wire alone does not show; with
0 no edge launched it, and no DELAY is measured.  A
delay above the 4 095 ticks that the field holds is stored as 4 095 (DESIGN CHOICE).  The frame ends when its value is decoded, or, where
no data edge has come by T_F, at that edge or at the limit of R80. -/
def State.ssiEnd (s : State) (p first : Nat) : State :=
  match (s.port p).ssi.start with
  | none => s
  | some S =>
    let tf := s.ssiFrameTime p
    let P := s.get (EP_SSI p) EP_SSI_CLKPER
    let len := s.get (EP_SSI p) EP_SSI_LEN
    let limit := S + 32 * (tf + 4 * P)
    let fall := ((s.port p).ssi.data.filter fun d => !d.2 && decide (d.1 ≤ limit)).getLast?.map (·.1)
    let done := match fall with
      | some f => max (S / 32 + tf + 4) ((f + 31) / 32)
      | none => limit / 32
    let s1 := (s.advanceTo done).modPort p fun e =>
      { e with ssi := { e.ssi with start := none, data := [], busyUntil := S / 32 + tf + s.get (EP_SSIT p) EP_SSIT_TM } }
    let r := s.ssiRaw p S
    let s2 := s1.wr64N (EP_SSIRAW p) r
    let fault := s.flag (EP_STAT p) EP_STAT_WIRE_FAULT && s.get (EP_STAT p) EP_STAT_WF_PAIR = 1
    match fall with
    | none => s2.ssiError p
    | some f =>
      if fault || (!(s.port p).ssi.cal && s.ssiBit p S (len + 1)) then s2.ssiError p
      else
        let d := (f - s.ssiRise p S first) / 32
        let s3 := if s.flag (EP_SSIT p) EP_SSIT_LDC && first ≠ 0 then s2.put (EP_SSIT p) EP_SSIT_DELAY (min 4095 d) else s2
        if (s.port p).ssi.cal then s3.modPort p fun e => { e with ssi := { e.ssi with cal := false, lastGood := true } }
        else s3.ssiValue p (s.ssiField p r) (S + 16 * s.get (EP_SSIT p) EP_SSIT_DELAY)

/-! ### Port commands (R92, R93, R100) -/

/-- REVAL is refused: a pair is suspect, a wire fault falls in this tick, or in SSI mode the last frame was not good (R92, R94). -/
def State.revalRefused (s : State) (p : Nat) : Bool :=
  s.flag (EP_STAT p) EP_STAT_LINE_BAD || s.faultDue p s.tick || (s.portSsi p && !(s.port p).ssi.lastGood)
/-- REVAL (R92); it ends a freeze: transitions are accepted again from the levels that the receivers report in that tick. -/
def State.portReval (s : State) (p : Nat) : State :=
  if s.revalRefused p then s
  else
    let s1 := (s.setf (EP_STAT p) EP_STAT_VALID).coSrcValid p
    if (s.port p).frozen.isSome then
      (s1.modPort p fun e =>
        { e with
          frozen := none, lastInt := none, breaks := s.now :: e.breaks
          pairs := e.pairs.map fun q => { q with lvl := q.rx, pend := none } }).hallTake p
    else s1

def State.portRearm (s : State) (p : Nat) : State :=
  (s.clrf (EP_STAT p) EP_STAT_REFD).modPort p fun e => { e with rRef := 0, lastIdx := none, missed := false }

/-- CLRFLAGS clears the W1C bits; WIRE_FAULT stays while LINE_BAD is 1 (R92). -/
def State.portClrFlags (s : State) (p : Nat) : State :=
  s.clrBits (EP_STAT p) (if s.flag (EP_STAT p) EP_STAT_LINE_BAD then 0xFC00 else 0xFC80)

def State.portLoad (s : State) (p : Nat) : State := s.modPort p fun e => { e with load := true }
def State.portClrCnt (s : State) (p : Nat) : State := s.wrN (EP_CNT p) 0

end Sys2Proof.Machine
end

