-- ==== Sys2Proof/Machine/Motion.lean ====
section
/-! DEFINITION. Set-points (R101–R145): master states, Dusk ramps, segments, gears, cams, superimposed phase, line shafts,
host streams and analogue sources, and the set-point of one position run. -/

namespace Sys2Proof.Machine

/-- Round an exact value to an integer, convergently. -/
def roundQ (q : Rat) : Int := divConv q.num q.den
/-- Units of 2^−16 ns in a second, and of 1/32 tick. -/
def perSec16 : Nat := 65536000000000
def perSec32 : Nat := 12800000000

/-- Integer square root, by bits from `k` down. -/
def isqrtBits (n : Nat) : Nat → Nat → Nat
  | 0, r => r
  | k + 1, r => let c := r + 2 ^ k; isqrtBits n k (if c * c ≤ n then c else r)
/-- Square root of an exact value to 2^−32. -/
def sqrtQ (q : Rat) : Rat := if q ≤ 0 then 0 else mkRat (isqrtBits (q.num.toNat * 2 ^ 64 / q.den) 160 0) (2 ^ 32)

/-! ### Jerk-limited paths -/

/-- The state `tau` seconds on along a constant jerk. -/
def advance (x : Rat × Rat × Rat) (j tau : Rat) : Rat × Rat × Rat :=
  (x.1 + x.2.1 * tau + x.2.2 * tau * tau / 2 + j * tau * tau * tau / 6, x.2.1 + x.2.2 * tau + j * tau * tau / 2, x.2.2 + j * tau)

/-- Follow a path for `tau` seconds; beyond its end the position holds. -/
def followPath : List (Nat × Int) → Rat × Rat × Rat → Rat → Rat × Rat × Rat
  | [], x, _ => (x.1, 0, 0)
  | (n, j) :: rest, x, tau =>
    let len := mkRat n perSec32
    if tau < len then advance x j tau else followPath rest (advance x j len) (tau - len)

/-- The jerk in force `tau` seconds along a path. -/
def jerkAt : List (Nat × Int) → Rat → Int
  | [], _ => 0
  | (n, j) :: rest, tau => if tau < mkRat n perSec32 then j else jerkAt rest (tau - mkRat n perSec32)

/-- Phases given in seconds; the switching instants, counted from the start, are rounded to the nearest 1/32 tick (R107). `T` is the
exact instant at which the next phase starts. -/
def roundInstants : Rat → List (Rat × Int) → List (Nat × Int)
  | _, [] => []
  | T, (d, j) :: rest => ((roundQ ((T + d) * perSec32) - roundQ (T * perSec32)).toNat, j) :: roundInstants (T + d) rest

/-- Phases 2 to 4 of R107 from velocity `v` and an acceleration opposing it of magnitude `A`. -/
def stopPhases (v A D J : Rat) : List (Rat × Int) :=
  if v = 0 then []
  else
    let s : Int := if v < 0 then -1 else 1
    let V := if v < 0 then -v else v
    let j := (roundQ J) * s
    if D ≤ A then
      [(((A - D) / J), j), (((V - A * A / (2 * J)) / D), 0), (D / J, j)]
    else if (2 * D * D - A * A) / (2 * J) ≤ V then
      [(((D - A) / J), -j), (((V - (2 * D * D - A * A) / (2 * J)) / D), 0), (D / J, j)]
    else
      let P := sqrtQ ((2 * J * V + A * A) / 2)
      [(((P - A) / J), -j), (P / J, j)]

/-- The phases of a Dusk ramp (R107, R108). -/
def rampPhases (v0 a0 D J : Int) : List (Nat × Int) :=
  if D ≤ 0 || J ≤ 0 then []
  else roundInstants 0 <|
    let A : Rat := absI a0
    let back := a0 ≠ 0 && (v0 = 0 || sgn a0 = sgn v0 || decide (2 * J * absI v0 < a0 * a0))
    if back then
      (A / J, -(sgn a0) * J) :: stopPhases ((v0 : Rat) + a0 * A / (2 * J)) 0 D J
    else stopPhases v0 A D J

/-- A Dusk ramp from a state at `t0` (2^−16 ns). -/
def rampFrom (t0 : Nat) (p v a D J : Int) : Ramp := ⟨t0, p, v, a, rampPhases v a D J⟩

/-- The ramp at `t` (2^−16 ns), exactly. -/
def Ramp.at (r : Ramp) (t : Nat) : Rat × Rat × Rat :=
  followPath r.phases (r.p, r.v, r.a) (mkRat ((t : Int) - r.t0) perSec16)
/-- The length of a ramp in 1/32 ticks, and its end (2^−16 ns). -/
def Ramp.len (r : Ramp) : Nat := r.phases.foldl (fun n x => n + x.1) 0
def Ramp.jerk (r : Ramp) (t : Nat) : Int := jerkAt r.phases (mkRat ((t : Int) - r.t0) perSec16)
def Ramp.endAt (r : Ramp) : Nat := r.t0 + r.len * 5120

/-! ### Rest-to-rest profiles (R117, R123) -/

/-- Times of the acceleration part to peak velocity `v`: jerk time and constant-acceleration time. -/
def accelTimes (v A J : Rat) : Rat × Rat :=
  if A * A ≤ v * J then (A / J, v / A - A / J) else (sqrtQ (v / J), 0)
/-- The largest peak velocity (Q40.24) whose acceleration and braking fit in distance `d`, by bits. -/
def peakVel (d A J vmax : Rat) : Nat → Nat → Nat
  | 0, v => v
  | k + 1, v =>
    let c := v + 2 ^ k
    let t := accelTimes c A J
    peakVel d A J vmax k (if (c : Rat) ≤ vmax ∧ (c : Rat) * (2 * t.1 + t.2) ≤ d then c else v)
/-- The seven phases of a jerk-limited move over `d` from rest to rest. -/
def movePhases (d vmax amax jmax : Int) : List (Nat × Int) :=
  if d = 0 || vmax ≤ 0 || amax ≤ 0 || jmax ≤ 0 then []
  else
    let s := sgn d
    let D : Rat := absI d
    let v := peakVel D amax jmax vmax 63 0
    if v = 0 then []
    else
      let t := accelTimes v amax jmax
      let hold := (D - v * (2 * t.1 + t.2)) / v
      roundInstants 0
        [(t.1, s * jmax), (t.2, 0), (t.1, -s * jmax), (hold, 0), (t.1, -s * jmax), (t.2, 0), (t.1, s * jmax)]

/-! ### Grid of an axis -/

/-- A signed 64-bit field, little-endian. -/
def leS64 (x : Int) : List Byte := leBytes 8 (BitVec.ofInt 64 x).toNat
/-- The 64 bytes that a segment occupies in its axis's queue in shared SRAM (R110); of the queue the spec gives no address. -/
def Seg.bytes (g : Seg) : List Byte :=
  leBytes 8 g.start ++ leS64 g.p0 ++ leS64 g.v0 ++ leS64 g.a0 ++ leS64 g.j ++ leBytes 4 g.dur ++ leBytes 2 g.move ++ leBytes 1 (b2n g.last) ++
    List.replicate 17 0
/-- The bytes of a cam table in the cam area of shared SRAM, 32 for each point (R125); of the area the spec gives no address. -/
def Cam.bytes (c : Cam) : List Byte := c.pts.flatMap fun x => leS64 x.1 ++ leS64 x.2.1 ++ leS64 x.2.2 ++ List.replicate 8 0
/-- The fields of AXn_TB and AXn_PHASE in effect give whole periods within the limits of R49 (R643). -/
def State.gridOk (s : State) (n : Nat) : Bool :=
  let g := s.grid n
  let F := s.frameLen
  if n < 32 then
    g.a ≠ 0 && g.b ≠ 0 && g.c ≠ 0 && F % g.a = 0 && 12500 ≤ F / g.a && F / g.a % g.b = 0 && 6250 ≤ F / g.a / g.b
      && F / g.a / g.b % g.c = 0 && 2000 ≤ F / g.a / g.b / g.c && g.phase < F / g.a / g.b / g.c
  else if n < 64 then true
  else g.a ≠ 0 && F % g.a = 0 && 12500 ≤ F / g.a
/-- Periods of an axis in ticks: position, velocity, current update (R49); the frame where the axis has fallen back. -/
def State.perPos (s : State) (n : Nat) : Nat := if s.gridOk n && n / 32 ≠ 1 then s.frameLen / (s.grid n).a else s.frameLen
def State.perVel (s : State) (n : Nat) : Nat :=
  if s.gridOk n && n < 32 then s.frameLen / (s.grid n).a / (s.grid n).b else s.perPos n
def State.perCur (s : State) (n : Nat) : Nat :=
  if s.gridOk n && n < 32 then s.frameLen / (s.grid n).a / (s.grid n).b / (s.grid n).c else s.perPos n
/-- Module time (2^−16 ns) at an instant in 1/32 ticks, and at the start of a frame. -/
def State.mt16 (s : State) (t32 : Nat) : Nat := s.mtAt t32 / 65536
def State.frameTime (s : State) (f : Nat) : Nat := f * s.time.m * 31250 * 65536

/-- The target instant t* of a run at boundary `b` (R102), in 1/32 ticks. -/
def State.targetOf (s : State) (n b : Nat) : Nat :=
  let tofs := s.rdI (AX_TOFS n)
  if n < 32 then ((b : Int) + 32 * s.perCur n + tofs).toNat
  else if n < 64 then ((b : Int) + 32 * s.frameLen + tofs).toNat
  else b

/-! ### Master states (R104, R105) -/

/-- A master state evaluated at `t` (2^−16 ns), exactly. -/
def MState.exact (m : MState) (t : Nat) : Rat × Rat × Rat :=
  advance (m.p, m.v, m.a) m.j (mkRat ((t : Int) - m.ts) perSec16)

/-- An input that became present in tick `t` is used by a law run only where the run started in a later tick (R57); outside of runs it
is there. -/
def State.seen (s : State) (t : Nat) : Bool := s.time.runAt == 0 || decide (t < s.time.runAt)

/-- The newest accepted state of line shaft `k` (R104, R132). -/
def State.shaftNewest (s : State) (k : Nat) : Option MState := if s.seen (s.shaft k).at_ then (s.shaft k).newest else (s.shaft k).prev
/-- The state of line shaft `k`, jerk included: the continuation from its start on; while a return from coasting is not taken, the
coasting extrapolation (R135); else the newest accepted state. -/
def State.shaftAt (s : State) (k t : Nat) : Option ((Rat × Rat × Rat) × Int) :=
  let l := s.shaft k
  let of_ := fun (m : MState) => (m.exact t, m.j)
  match l.cont with
  | some r => if r.t0 ≤ t then some (r.at t, r.jerk t) else (s.shaftNewest k).map of_
  | none => match l.before with
    | some m => some (of_ m)
    | none => (s.shaftNewest k).map of_

/-- The set-point state of an axis as its latest run published it (R57, R104). -/
def State.setpointState (s : State) (n : Nat) : MState :=
  let m := s.mo n
  { (if s.seen m.spAt then m.sp else m.spOld) with modulo := s.rd64I (AX_MOD n) }

/-- The actual position of an axis as a master (R104): its primary feedback port, or its drive's publications. -/
def State.actualState (s : State) (n : Nat) : Option MState :=
  let fb := s.get (AXL_LFB n) AXL_LFB_FB1
  if 64 ≤ n then some (s.setpointState n)
  else if fb < 40 then
    let e := s.port fb
    some { p := e.mp, v := e.mv, a := e.ma, ts := e.mts, modulo := s.rd64I (AX_MOD n) }
  else if 32 ≤ n && fb = 0x3E then
    match (s.net (n - 32)).newer, (s.net (n - 32)).older with
    | some (p1, t1), some (p0, t0) =>
      let slope := fun (a b : Int × Nat) => if b.2 < a.2 then divOpen ((a.1 - b.1) * perSec16) ((a.2 - b.2 : Nat) : Int) else 0
      let v := slope (p1, t1) (p0, t0)
      let a := match (s.net (n - 32)).oldest with
        | some z => if t0 < t1 then divOpen ((v - slope (p0, t0) z) * perSec16) ((t1 - t0 : Nat) : Int) else 0
        | none => 0
      some { p := p1, v := v, a := a, ts := t1, modulo := s.rd64I (AX_MOD n) }
    | some (p1, t1), none => some { p := p1, ts := t1, modulo := s.rd64I (AX_MOD n) }
    | _, _ => none
  else none

/-- The master state that MSEL and MACT name (R104); line shafts are evaluated by `shaftAt`. -/
def State.masterOf (s : State) (msel : Nat) (mact : Bool) : Option MState :=
  if msel < 0x40 then
    if mact then s.actualState msel else some (s.setpointState msel)
  else if msel < 0x50 then some (s.setpointState (msel - 0x40 + 64))
  else if msel < 0x78 then
    let e := s.port (msel - 0x50)
    some { p := e.mp, v := e.mv, a := e.ma, ts := e.mts }
  else if 0x80 ≤ msel && msel < 0x90 then s.shaftNewest (msel - 0x80)
  else none

/-- The position of a master, reduced into [0, modulo) (R105). -/
def MState.reduce (m : MState) (p : Int) : Int := if 0 < m.modulo then p % m.modulo else p
/-- A master at `t` (2^−16 ns), rounded once to Q40.24 (R105): position, reduced for a modulo master, velocity, acceleration; and its
jerk. -/
def State.masterAt (s : State) (msel : Nat) (mact : Bool) (t : Nat) : Option (Int × Int × Int × Int) :=
  match s.masterOf msel mact with
  | none => none
  | some m =>
    let x := if 0x80 ≤ msel && msel < 0x90 then (s.shaftAt (msel - 0x80) t).getD (m.exact t, m.j) else (m.exact t, m.j)
    some (m.reduce (roundQ x.1.1), roundQ x.1.2.1, roundQ x.1.2.2, x.2)

/-- The position that a latch or register-control source code names, at an instant in 1/32 ticks (R148); encoder edges count that
reached their decoder by tick `by_`. -/
def State.sourcePos (s : State) (src t32 by_ : Nat) : Int :=
  if src < 0x40 then
    let fb := s.get (AXL_LFB src) AXL_LFB_FB1
    if fb < 40 then s.portWordBy fb t32 by_
    else match s.actualState src with
      | some m => m.reduce (roundQ (({ m with a := 0 } : MState).exact (s.mt16 t32)).1)
      | none => 0
  else if src < 0x50 || (0x80 ≤ src && src < 0x90) then
    match s.masterOf src false with
    | some m => m.reduce (roundQ (m.exact (s.mt16 t32)).1)
    | none => 0
  else if src < 0x78 then s.portWordBy (src - 0x50) t32 by_
  else 0

/-! ### Dusk ramps and the end of a source -/

/-- A command, if there is one, completes. -/
def State.finishAny (s : State) (tag : Option Nat) (st : Status) (r0 : Nat := 0) : State :=
  match tag with
  | some t => s.finish t st r0
  | none => s
/-- Unit of the wait for the end of a move: the axis and the number of the move. -/
def moveUnit (n mv : Nat) : Nat := n + 128 * mv
/-- A move of axis `n` has ended: a command that waits for it, and for no further axis, completes. -/
def State.moveDone (s : State) (n mv : Nat) : State :=
  (s.waits.filter fun w => w.kind == .moveEnd && w.unit == moveUnit n mv).foldl (fun s w =>
    let s1 := { s with waits := s.waits.filter fun x => x != w }
    if s1.waits.any fun x => x.tag == w.tag && x.kind == .moveEnd then s1 else s1.finish w.tag .ok) s
/-- The group that holds an axis. -/
def State.groupOf (s : State) (n : Nat) : Option Nat :=
  (List.range 16).find? fun g => (List.range 8).any fun i => nbits (s.rdN (GRP_MEMB0 g + 4 * (i / 4))) (8 * (i % 4) + 7) (8 * (i % 4)) == n
/-- The axis's queue and what is planned for it are dropped: commands that wait for its moves, or whose moves are still with
the planner, complete PROTECTED (R509). -/
def State.dropMoves (s : State) (n : Nat) : State :=
  let stat := s.rdN (AX_STAT n)
  let s1 := (s.waits.filter fun w => w.kind == .moveEnd && w.unit % 128 == n).foldl (fun s w => s.finish w.tag .protected_ stat) s
  let s2 := s1.modMo n fun m => { m with segs := [], plan := [], inUse := false }
  match s.groupOf n with
  | none => s2
  | some g => { (vget s.plans g {}).moves.foldl (fun s m => s.finishAny m.tag .protected_ stat) s2 with plans := vmod s2.plans g fun _ => {} }

/-- A running test signal of the axis aborts (R194). -/
def State.injAbort (s : State) (n : Nat) : State :=
  let k := s.lpOf n
  if s.flag (LPINJ_STAT k) LPINJ_STAT_RUNNING && s.get (LPINJ_CFG k) LPINJ_CFG_AXIS = n then
    ((s.clrf (LPINJ_STAT k) LPINJ_STAT_RUNNING).setf (LPINJ_STAT k) LPINJ_STAT_ABORTED).resolve .injection k .protected_ (s.rdN (AX_STAT n))
  else s

/-- The source an axis runs: AXn_SRC, or hold once an own Dusk ramp has decoupled it (R109). -/
def State.srcOf (s : State) (n : Nat) : Nat := if (s.mo n).off then 0 else s.get (AX_SRC n) AX_SRC_SRC

/-- The axis's own Dusk ramp starts from the given state at `t` (R109): the axis is decoupled from its master, and a
pending source change ends refused.  On a master's continuation the module's own entry to Dusk starts none, since the axis stops with it
(R134); any other cause ends that following. -/
def State.startRampAt (s : State) (n t : Nat) (p v a : Int) (cause : EventKind) : State :=
  if (s.mo n).ramp.isSome || (cause == .dusk && s.flag (AX_STAT n) AX_STAT_MSYNC_STOP) then s
  else
    let s1 := (((s.setf (AX_STAT n) AX_STAT_DUSK).clrf (AX_STAT n) AX_STAT_MSYNC_STOP).injAbort n).modMo n fun m =>
      { m with
        ramp := some (rampFrom t p v a (s.rd64I (AX_DSDEC n)) (s.rd64I (AX_DSJERK n))), duskReq := false, off := true
        chgs := [], base := p }
    (((((s1.resolve .source n .protected_ (s1.rdN (AX_STAT n))).clrf (AX_CAM n) AX_CAM_PEND).dropMoves n).lpNotice n cause).event cause n).group 2

/-- The own Dusk ramp from the set-point state of the latest run. -/
def State.startRamp (s : State) (n : Nat) (cause : EventKind) : State :=
  let m := s.mo n
  s.startRampAt n m.tStar m.base m.vBase m.aBase cause
/-- The base goes on from the run before to `t` along its velocity and acceleration: the set-point state of a run whose source gives
no value (R109; DEDUCED). -/
def State.carryBase (s : State) (n t : Nat) : State :=
  s.modMo n fun m =>
    let x := advance ((m.base : Rat), (m.vBase : Rat), (m.aBase : Rat)) 0 (mkRat ((t : Int) - m.tPrev) perSec16)
    { m with base := roundQ x.1, vBase := roundQ x.2.1, aBase := roundQ x.2.2, jBase := 0 }

/-! ### Segments (R110–R114) -/

/-- A segment at `t`, exactly. -/
def State.segAt (s : State) (g : Seg) (t : Nat) : Rat × Rat × Rat :=
  advance (g.p0, g.v0, g.a0) g.j (mkRat ((t : Int) - s.frameTime g.start) perSec16)
/-- Two values differ by at most one increment (R112). -/
def near (x : Rat) (y : Int) : Bool := decide (x - y ≤ 16777216) && decide (y - x ≤ 16777216)

/-- Set the base value of an axis. -/
def State.setBase (s : State) (n : Nat) (p v a : Int) (j : Int := 0) : State :=
  s.modMo n fun m => { m with base := p, vBase := v, aBase := a, jBase := j }
def State.holdBase (s : State) (n : Nat) : State := s.modMo n fun m => { m with vBase := 0, aBase := 0, jBase := 0 }

/-- Segments queued and the MOVE in use, in AXn_SEGQ, and BUSY. -/
def State.segRegs (s : State) (n : Nat) : State :=
  let m := s.mo n
  let s1 := s.put (AX_SEGQ n) AX_SEGQ_QUEUED m.segs.length
  let s2 := match m.segs with
    | g :: _ => if m.inUse then s1.put (AX_SEGQ n) AX_SEGQ_MOVE g.move else s1
    | [] => s1
  s2.putB (AX_STAT n) AX_STAT_BUSY (m.inUse || m.phaseTime.isSome || m.phaseDist.isSome)

/-- The base follows the running ramp at `t`; at its end the axis holds the final position. -/
def State.followRamp (s : State) (n t : Nat) : State :=
  match (s.mo n).ramp with
  | none => s
  | some r =>
    let x := r.at t
    let s1 := s.setBase n (roundQ x.1) (roundQ x.2.1) (roundQ x.2.2) (r.jerk t)
    if r.endAt ≤ t then ((s1.holdBase n).clrf (AX_STAT n) AX_STAT_DUSK).modMo n fun m => { m with ramp := none, rampB := none } else s1

/-- The trajectory source at `t` (R111–R114). -/
def State.trajectory (n t : Nat) : Nat → State → State
  | 0, s => s
  | fuel + 1, s =>
    let m := s.mo n
    match m.segs with
    | [] => s.holdBase n
    | g :: rest =>
      if !m.inUse then
        if t < s.frameTime g.start then s.holdBase n
        else if near m.base g.p0 && near 0 g.v0 && near 0 g.a0 then
          State.trajectory n t fuel (s.modMo n fun m => { m with inUse := true })
        else ((s.setf (AX_STAT n) AX_STAT_SEG_JOIN).startRampAt n (s.frameTime g.start) m.base 0 0 .segJoin).followRamp n t
      else
        let e := s.frameTime (g.start + g.dur)
        if t < e then
          let x := s.segAt g t
          s.setBase n (roundQ x.1) (roundQ x.2.1) (roundQ x.2.2) g.j
        else
          let x := s.segAt g e
          let pe := roundQ x.1
          match rest with
          | [] =>
            if g.last && near x.2.1 0 && near x.2.2 0 then
              ((s.setBase n pe 0 0).modMo n fun m => { m with segs := [], inUse := false }).moveDone n g.move
            else ((s.setf (AX_STAT n) AX_STAT_UNDERRUN).startRampAt n e pe (roundQ x.2.1) (roundQ x.2.2) .underrun).followRamp n t
          | h :: _ =>
            if h.start = g.start + g.dur && near x.1 h.p0 && near x.2.1 h.v0 && near x.2.2 h.a0 then
              State.trajectory n t fuel
                (let s1 := s.modMo n fun m => { m with segs := rest }
                 if h.move ≠ g.move then s1.moveDone n g.move else s1)
            else ((s.setf (AX_STAT n) AX_STAT_SEG_JOIN).startRampAt n e pe (roundQ x.2.1) (roundQ x.2.2) .segJoin).followRamp n t

/-! ### Gears (R120) -/

/-- One gear step: q and the carried remainder r, with 0 ≤ r < D. -/
def gearStep (dm n : Int) (d : Nat) (r : Nat) : Int × Nat :=
  let x := dm * n + r
  (x / d, (x % d).toNat)

/-- The gear source: the base advances by the master's advance times N/D. -/
def State.gear (s : State) (n t : Nat) : State :=
  let msel := s.get (AX_SRC n) AX_SRC_MSEL
  let mact := s.flag (AX_SRC n) AX_SRC_MACT
  match s.masterAt msel mact t with
  | none => s.holdBase n
  | some (m, vm, am, jm) =>
    let N := s.rdI (AX_GEARN n)
    let D := s.rdN (AX_GEARD n)
    if D = 0 then s.holdBase n
    else
      let modulo := ((s.masterOf msel mact).map (·.modulo)).getD 0
      let dm := match (s.mo n).mPrev with
        | some p => centre (m - p) modulo
        | none => 0
      let (q, r) := gearStep dm N D (s.rdN (AX_GREM n))
      ((s.wrN (AX_GREM n) r).wr64I (AX_MPOS n) m).modMo n fun x =>
        { x with base := wrapS 64 (x.base + q), vBase := divConv (vm * N) D, aBase := divConv (am * N) D, jBase := divConv (jm * N) D, mPrev := some m }

/-! ### Cams (R125–R129) -/

/-- The value and the first three derivatives of a cam piece at coordinate `u`, exactly (R127); `(M, F, S)` with S in Q32.32. -/
def camCubic (a b : Int × Int × Int) (u : Rat) : Rat × Rat × Rat × Rat :=
  let h : Rat := b.1 - a.1
  let x := (u - a.1) / h
  let s0 := mkRat a.2.2 (2 ^ 32)
  let s1 := mkRat b.2.2 (2 ^ 32)
  ((2 * x * x * x - 3 * x * x + 1) * a.2.1 + (x * x * x - 2 * x * x + x) * h * s0 + (3 * x * x - 2 * x * x * x) * b.2.1
     + (x * x * x - x * x) * h * s1,
   ((6 * x * x - 6 * x) * a.2.1 + (6 * x - 6 * x * x) * b.2.1) / h + (3 * x * x - 4 * x + 1) * s0 + (3 * x * x - 2 * x) * s1,
   (((12 * x - 6) * a.2.1 + (6 - 12 * x) * b.2.1) / h + (6 * x - 4) * s0 + (6 * x - 2) * s1) / h,
   (12 * ((a.2.1 : Rat) - b.2.1) / h + 6 * s0 + 6 * s1) / (h * h))

/-- The interval of a table that holds `u`. -/
def camFind : List (Int × Int × Int) → Rat → Rat × Rat × Rat × Rat
  | a :: b :: rest, u =>
    match rest with
    | [] => camCubic a b u
    | _ => if u < b.1 then camCubic a b u else camFind (b :: rest) u
  | [a], _ => (a.2.1, 0, 0, 0)
  | [], _ => (0, 0, 0, 0)

/-- A cam at coordinate `u`: value and three derivatives, and CAM_OUT. -/
def Cam.eval (c : Cam) (u : Int) : (Rat × Rat × Rat × Rat) × Bool :=
  match c.pts.head?, c.pts.getLast? with
  | some f, some l =>
    if c.periodic then
      let W := l.1 - f.1
      if W ≤ 0 then ((f.2.1, 0, 0, 0), false)
      else
        let k := (u - f.1) / W
        let x := camFind c.pts (u - k * W : Int)
        ((x.1 + k * (l.2.1 - f.2.1 : Int), x.2), false)
    else if u < f.1 then ((f.2.1 + (u - f.1 : Int) * mkRat f.2.2 (2 ^ 32), mkRat f.2.2 (2 ^ 32), 0, 0), true)
    else if l.1 < u then ((l.2.1 + (u - l.1 : Int) * mkRat l.2.2 (2 ^ 32), mkRat l.2.2 (2 ^ 32), 0, 0), true)
    else (camFind c.pts u, false)
  | _, _ => ((0, 0, 0, 0), false)

def State.cam? (s : State) (t : Nat) : Option Cam := s.cams.find? fun c => c.table == t
/-- The first M of a table. -/
def Cam.m0 (c : Cam) : Int := match c.pts with
  | f :: _ => f.1
  | [] => 0

/-- The cam source.  A cam chosen in Morning is engaged by its first run: in relative mode it continues the base. -/
def State.camRun (s : State) (n t : Nat) : State :=
  let msel := s.get (AX_SRC n) AX_SRC_MSEL
  match s.masterAt msel (s.flag (AX_SRC n) AX_SRC_MACT) t, s.cam? (s.get (AX_CAM n) AX_CAM_TABLE) with
  | some (m, vm, am, jm), some c =>
    let e := if (s.mo n).engage then m else (s.mo n).mE
    let x := c.eval (m - e + c.m0)
    ((s.wr64I (AX_MPOS n) m).putB (AX_CAM n) AX_CAM_CAM_OUT x.2).modMo n fun y =>
      let ofs := if y.engage then (if s.flag (AX_CAM n) AX_CAM_ABS then 0 else y.base - roundQ x.1.1) else y.camOfs
      { y with
        base := roundQ x.1.1 + ofs, camOfs := ofs, vBase := roundQ (x.1.2.1 * vm)
        aBase := roundQ (x.1.2.2.1 * vm * vm + x.1.2.1 * am)
        jBase := roundQ (x.1.2.2.2 * vm * vm * vm + 3 * x.1.2.2.1 * vm * am + x.1.2.1 * jm), mPrev := some m, mE := e, engage := false }
  | _, _ => s.holdBase n

/-! ### Host streams and analogue sources (R138, R139) -/

/-- The points of an axis that its run may use, frame and value: those that arrived before the tick in which it started (R57, R139). -/
def State.pointsSeen (s : State) (n : Nat) : List (Nat × Int) :=
  ((s.mo n).points.filter fun x => s.seen x.2.2).map fun x => (x.1, x.2.1)
/-- The last point at or before `t` and the first after it. -/
def State.bracket (s : State) (pts : List (Nat × Int)) (t : Nat) : Option (Nat × Int) × Option (Nat × Int) :=
  ((pts.filter fun x => s.frameTime x.1 ≤ t).getLast?, pts.find? fun x => t < s.frameTime x.1)

/-- `late` host points are missing at `t`: extrapolation for up to HSLIM frames with HS_LATE, every late point counted once, then the
own Dusk ramp from the extrapolated state (R139). -/
def State.hsLate (s : State) (n t late : Nat) (ok : State → State) : State :=
  if late = 0 then (ok s).modMo n fun m => { m with hsRun := 0 }
  else
    let more := late - (s.mo n).hsRun
    let s1 := ((ok (s.setf (AX_STAT n) AX_STAT_HS_LATE)).put (AX_CNT n) AX_CNT_LATEPTS (min 65535 (s.get (AX_CNT n) AX_CNT_LATEPTS + more))).modMo n
      fun m => { m with hsRun := late }
    if late ≤ s.get (AX_HS n) AX_HS_HSLIM then s1
    else let m := s1.mo n; s1.startRampAt n t m.base m.vBase m.aBase .hsLate

/-- The host position stream (R139). -/
def State.hostPos (s : State) (n t : Nat) : State :=
  let m := s.mo n
  let pts := s.pointsSeen n
  match s.bracket pts t with
  | (some a, some b) =>
    let h := mkRat ((b.1 : Int) - a.1) 1 * s.frameTime 1
    let x := (mkRat ((t : Int) - s.frameTime a.1) 1) / h
    (s.setBase n (roundQ (a.2 + (b.2 - a.2 : Int) * x)) (roundQ ((b.2 - a.2 : Int) * perSec16 / h)) 0).modMo n fun m =>
      { m with hsRun := 0, lastPts := [a, b], points := m.points.filter fun x => a.1 ≤ x.1 }
  | (some a, none) =>
    -- points a + 1 … up to the frame that t needs are missing
    let late := (t - s.frameTime a.1 + s.frameTime 1 - 1) / max 1 (s.frameTime 1)
    match (pts.reverse.drop 1).head?, m.lastPts with
    | some z, _ | none, z :: _ =>
      s.hsLate n t late fun s =>
        let h := mkRat ((a.1 : Int) - z.1) 1 * s.frameTime 1
        if h = 0 then s.holdBase n
        else
          let sl := (a.2 - z.2 : Int) / h
          s.setBase n (roundQ (a.2 + sl * mkRat ((t : Int) - s.frameTime a.1) 1)) (roundQ (sl * perSec16)) 0
    | none, [] => s.hsLate n t late fun s => s.setBase n a.2 0 0
  | (none, _) => s.holdBase n

/-- The host torque stream (R139): the latest point at or before t* applies and is held. -/
def State.hostTorque (s : State) (n t : Nat) : State :=
  match s.bracket (s.pointsSeen n) t with
  | (some a, b) =>
    s.hsLate n t (if b.isNone then (t - s.frameTime a.1) / max 1 (s.frameTime 1) else 0) fun s =>
      s.modMo n fun m => { m with tSet := a.2, points := m.points.filter fun x => a.1 ≤ x.1 }
  | (none, _) => s

/-- The scaled analogue value of channel `ch` for an axis, before saturation: the dead band, then x·AIK shifted (R138). -/
def State.analogueOf (s : State) (n ch : Nat) : Int :=
  let x := s.aiLaw ch
  let db : Int := 256 * s.get (AX_AICFG n) AX_AICFG_DB
  shrConv ((if absI x < db then 0 else x) * s.rdI (AX_AIK n)) (s.get (AX_AICFG n) AX_AICFG_SHIFT)
def State.analogue (s : State) (n : Nat) : Int := s.analogueOf n (s.get (AX_SRC n) AX_SRC_MSEL % 8)
def State.analogueOk (s : State) (n : Nat) : Bool := s.aiValid (s.get (AX_SRC n) AX_SRC_MSEL % 8) (s.time.runAt - 1)

/-- The channel is invalid: AI_INV and the own Dusk ramp, from the base carried on to `t`. -/
def State.analogueLost (s : State) (n t : Nat) : State :=
  let s1 := (s.setf (AX_STAT n) AX_STAT_AI_INV).carryBase n t
  let m := s1.mo n
  s1.startRampAt n t m.base m.vBase m.aBase .aiInvalid
/-- The analogue velocity source: the base is the exact integral of the velocity. -/
def State.analogueVel (s : State) (n t : Nat) : State :=
  if s.analogueOk n then
    let v := s.analogue n
    let m := s.mo n
    let x := v * ((t : Int) - m.tPrev) + m.aiRem
    s.modMo n fun m => { m with base := wrapS 64 (m.base + x / perSec16), aiRem := x % perSec16, vBase := v, aBase := 0, jBase := 0 }
  else s.analogueLost n t
/-- The analogue torque source. -/
def State.analogueTorque (s : State) (n t : Nat) : State :=
  if s.analogueOk n then s.modMo n fun m => { m with tSet := sat32 (s.analogue n) } else s.analogueLost n t

/-! ### Source changes (R121, R122, R128, R129) -/

/-- The velocity a changed source would have at `t`. -/
def State.changeVel (s : State) (n t : Nat) (c : SrcChange) : Int :=
  match c.src with
  | 1 =>
    match (s.mo n).segs with
    | g :: _ => if s.frameTime g.start ≤ t then roundQ (s.segAt g t).2.1 else 0
    | [] => 0
  | 2 => match s.masterAt c.msel c.mact t with
    | some (_, v, _, _) => if c.d = 0 then 0 else divConv (v * c.n) c.d
    | none => 0
  | 3 => match s.masterAt c.msel c.mact t, s.cam? c.table with
    | some (m, v, _, _), some k =>
      let e := if c.camSwitch then (s.mo n).mE else m
      roundQ ((k.eval (m - e + k.m0)).1.2.1 * v)
    | _, _ => 0
  | 4 =>
    let pts := s.pointsSeen n
    let slope := fun (a b : Nat × Int) => if a.1 = b.1 then 0 else roundQ ((b.2 - a.2 : Int) * perSec16 / (mkRat ((b.1 : Int) - a.1) 1 * s.frameTime 1))
    match s.bracket pts t with
    | (some a, some b) => slope a b
    | (some a, none) => match (pts.reverse.drop 1).head? with
      | some z => slope z a
      | none => 0
    | (none, _) => 0
  | 6 => s.analogueOf n (c.msel % 8)
  | _ => 0

/-- PEND shows whether a scheduled change waits. -/
def State.pendFlag (s : State) (n : Nat) : State := s.putB (AX_CAM n) AX_CAM_PEND ((s.mo n).chgs.any fun c => c.sched)
/-- The command of a change completes. -/
def State.changeDone (s : State) (c : SrcChange) (st : Status) (r0 : Nat := 0) : State := s.finishAny c.tag st r0

/-- Refusal of a change: the axis goes on as before. -/
def State.refuseChange (s : State) (n : Nat) (c : SrcChange) : State :=
  let s1 := if c.src = 3 then s.setf (AX_STAT n) AX_STAT_CAM_REFUSED else s.setf (AX_STAT n) AX_STAT_GEAR_REFUSED
  (s1.event (if c.src = 3 then .camRefused else .gearRefused) n).changeDone c .vstepRefused (s1.rdN (AX_STAT n))

/-- A change is due in this run: at once, or once the master reaches or passes AXn_CAMSW in the direction that DIRB selects, over the
wrap of a modulo master too (R122, R129, R140). The first run looks from its master position at the t* of the run before. -/
def State.changeDue (s : State) (n t : Nat) (c : SrcChange) : Bool :=
  let modulo := ((s.masterOf c.msel c.mact).map (·.modulo)).getD 0
  let back := s.flag (AX_CAM n) AX_CAM_DIRB
  let wrap := fun (d : Int) => if 0 < modulo then d % modulo else d
  !c.sched || match (s.masterAt c.msel c.mact t).map (·.1), c.seen.orElse fun _ => (s.masterAt c.msel c.mact (s.mo n).tPrev).map (·.1) with
    | some m, some p =>
      let adv := if 0 < modulo then centre (m - p) modulo else m - p
      let sw := s.rd64I (AX_CAMSW n)
      -- what is left to the position, in the direction of travel, from the run before
      let left := if back then wrap (p - sw) else wrap (sw - p)
      let go := if back then -adv else adv
      (decide (0 < left) && decide (left ≤ go)) || (decide (wrap (m - sw) = 0) && decide (0 ≤ go))
    | _, _ => false
/-! ### Superimposed phase (R123, R124, R162) -/

/-- A DIST move's offset at master position `m`: ΔΦ·(3s² − 2s³), and whether it has ended. -/
def DistMove.at (d : DistMove) (m : Int) : Rat × Bool :=
  let x := mkRat (m - d.m0) d.len.toNat
  let y : Rat := if x < 0 then 0 else if 1 < x then 1 else x
  (d.dphi * (3 * y * y - 2 * y * y * y), decide (1 ≤ x))

/-- The commanded phase channel at `t`: value, velocity, acceleration, jerk. -/
def State.phaseNow (s : State) (n t : Nat) : Int × Int × Int × Int :=
  let m := s.mo n
  match m.phaseTime with
  | some r => let x := r.at t; (roundQ x.1, roundQ x.2.1, roundQ x.2.2, r.jerk t)
  | none =>
    match m.phaseDist, s.masterAt (s.get (AX_SRC n) AX_SRC_MSEL) (s.flag (AX_SRC n) AX_SRC_MACT) t with
    | some d, some (p, v, a, j) =>
      let z := mkRat (p - d.m0) d.len.toNat
      let L : Rat := d.len
      if 0 < z ∧ z < 1 then
        let f1 : Rat := d.dphi * (6 * z - 6 * z * z) / L
        let f2 : Rat := d.dphi * (6 - 12 * z) / (L * L)
        let f3 : Rat := d.dphi * (-12) / (L * L * L)
        (m.phase + roundQ (d.at p).1, roundQ (f1 * v), roundQ (f2 * v * v + f1 * a), roundQ (f3 * v * v * v + 3 * f2 * v * a + f1 * j))
      else (m.phase + roundQ (d.at p).1, 0, 0, 0)
    | _, _ => (m.phase, 0, 0, 0)

/-- The phase moves advance at `t`: a move that has ended settles, and the queued DIST move starts. -/
def State.phaseStep (s : State) (n t : Nat) : State :=
  let m := s.mo n
  match m.phaseTime with
  | some r =>
    if r.endAt ≤ t then
      (s.modMo n fun m => { m with phase := roundQ (r.at r.endAt).1, phaseTime := none, phaseTag := none }).finishAny m.phaseTag .ok
    else s
  | none =>
    match m.phaseDist, s.masterAt (s.get (AX_SRC n) AX_SRC_MSEL) (s.flag (AX_SRC n) AX_SRC_MACT) t with
    | some d, some (p, _) =>
      if (d.at p).2 then
        (s.modMo n fun m =>
          { m with phase := m.phase + d.dphi, phaseDist := m.phaseNext.map fun x => { x with m0 := d.m0 + d.len }, phaseNext := none }).finishAny d.tag .ok
      else s
    | _, _ => s

/-- The register channel moves towards its target (R162), held at 0 by LIMIT 0 (R167); the channel of a disabled controller holds, but
where CLRTGT moves it back (R165). -/
def State.regChannel (s : State) (n b : Nat) : State :=
  s.forEach (List.range 32) fun s k =>
    if (s.flag (RC_CFG k) RC_CFG_EN || (s.rc k).clearing) && s.get (RC_CFG k) RC_CFG_FAX = n then
      let m := s.mo n
      let tgt := if s.rd64I (RC_LIMIT k) = 0 then 0 else (((s.rc k).tgts.find? fun x => decide (x.1 ≤ b / 32)).map (·.2)).getD 0
      let step := divConv ((s.rdN (RC_RATE k) * 65536 * (b - m.runAt) : Nat) : Int) perSec32
      let c := m.regChan + clampI (-step) step (tgt - m.regChan)
      (((s.modMo n fun m => { m with regChan := c }).modRc k fun r => { r with clearing := r.clearing && c != 0 }).putB (RC_STAT k)
        RC_STAT_SETTLED (decide (c = s.rd64I (RC_TGT k))))
    else s

/-! ### The set-point of a run (R101) -/

/-- The followers of a line shaft. -/
def State.followers (s : State) (k : Nat) : List Nat :=
  idxWhere 80 fun n => (s.srcOf n == 2 || s.srcOf n == 3) && s.get (AX_SRC n) AX_SRC_MSEL == 0x80 + k
/-- The return of a coasting shaft is judged at the first run that sees the new state (R135): within LSk_TOL the shaft is normal and the
new state is used at once; otherwise every follower sets LS_STEP, and until the continuation starts at the next frame boundary the
coasting extrapolation goes on (DEDUCED). -/
def State.shaftReturn (s : State) (k t : Nat) : State :=
  let l := s.shaft k
  match l.before, s.shaftNewest k with
  | some old, some new =>
    if l.stepPend || new.ts ≤ old.ts then s
    else if absI (roundQ (new.exact t).1 - roundQ (old.exact t).1) ≤ s.rd64I (LS_TOL k) then
      (s.clrf (LS_STAT k) LS_STAT_COAST).modShaft k fun l => { l with before := none }
    else
      (s.forEach (s.followers k) fun s n => (s.setf (AX_STAT n) AX_STAT_LS_STEP).event .lsStep n).modShaft k fun l => { l with stepPend := true }
  | _, _ => s
/-- The master status of a follower: COAST of its line shaft, the return check of R135, and the end of a master continuation. -/
def State.shaftStatus (s : State) (n t : Nat) : State :=
  let src := s.srcOf n
  let msel := s.get (AX_SRC n) AX_SRC_MSEL
  if (src = 2 || src = 3) && 0x80 ≤ msel && msel < 0x90 then
    let k := msel - 0x80
    let s1 := s.shaftReturn k t
    let s2 := s1.putB (AX_STAT n) AX_STAT_COAST (s1.flag (LS_STAT k) LS_STAT_COAST)
    match (s.shaft k).cont with
    | some r => if s.flag (AX_STAT n) AX_STAT_MSYNC_STOP && r.endAt ≤ t then s2.clrf (AX_STAT n) AX_STAT_DUSK else s2
    | none => s2
  else s.clrf (AX_STAT n) AX_STAT_COAST

/-- The base value by the source in effect (R103). -/
def State.baseRun (s : State) (n t : Nat) : State :=
  match (s.mo n).ramp with
  | some _ => s.followRamp n t
  | none =>
    match s.srcOf n with
    | 1 => State.trajectory n t 520 s
    | 2 => s.gear n t
    | 3 => s.camRun n t
    | 4 => s.hostPos n t
    | 5 => (s.carryBase n t).hostTorque n t
    | 6 => s.analogueVel n t
    | 7 => (s.carryBase n t).analogueTorque n t
    | _ => s.holdBase n

/-- The torque set-point of a torque source in effect (R103, R138, R139). -/
def State.torqueSet (s : State) (n : Nat) : Option Int :=
  if (s.srcOf n = 5 || s.srcOf n = 7) && (s.mo n).ramp.isNone && n < 64 then some (sat32 (s.mo n).tSet) else none

/-- An axis is engaged by command, to a master `msel` (R134): its flags of a loss clear, and once no follower of a lost shaft is left on the
continuation the shaft takes states again. -/
def State.reengage (s : State) (n msel : Nat) : State :=
  let old := s.get (AX_SRC n) AX_SRC_MSEL
  let s1 := if s.flag (AX_STAT n) AX_STAT_MLOST then
      (((s.clrf (AX_STAT n) AX_STAT_MLOST).clrf (AX_STAT n) AX_STAT_MSYNC_STOP).clrf (AX_STAT n) AX_STAT_COAST).putB (AX_STAT n)
        AX_STAT_DUSK (s.mo n).ramp.isSome
    else s
  s1.forEach (idxWhere 16 fun k => old == 0x80 + k || msel == 0x80 + k) fun s k =>
    if (s.shaft k).cont.isSome && !((List.range 80).any fun m => s.flag (AX_STAT m) AX_STAT_MLOST && s.get (AX_SRC m) AX_SRC_MSEL == 0x80 + k) then
      ((s.clrf (LS_STAT k) LS_STAT_LOST).clrf (LS_STAT k) LS_STAT_COAST).modShaft k fun l => { l with cont := none, stepPend := false, before := none }
    else s
/-- The cam flags of AXn_CAM follow the source: PERIODIC shows a periodic table in use, CAM_OUT starts clear. -/
def State.camFlags (s : State) (n : Nat) : State :=
  let per := s.srcOf n == 3 && ((s.cam? (s.get (AX_CAM n) AX_CAM_TABLE)).map (·.periodic)).getD false
  (s.putB (AX_CAM n) AX_CAM_PERIODIC per).clrf (AX_CAM n) AX_CAM_CAM_OUT

/-- A change takes effect at `t`, on the base value that the old source gave this run: a gear engages relative to it (R121), a cam
in relative mode takes the OFS that continues it (R128, R129), and the other sources go on from it.  A new engagement of a gear starts
with remainder 0, of which R120 says nothing (DESIGN CHOICE); a change of ratio keeps it (R122). -/
def State.applyChange (s00 : State) (n t : Nat) (c : SrcChange) : State :=
  let s := (s00.reengage n c.msel).modMo n fun m => { m with off := false, engage := false }
  let s1 := ((s.put (AX_SRC n) AX_SRC_SRC c.src).put (AX_SRC n) AX_SRC_MSEL c.msel).putB (AX_SRC n) AX_SRC_MACT c.mact
  let mpos := (s.masterAt c.msel c.mact t).map (·.1)
  let s2 := match c.src with
    | 2 =>
      let s2 := (s1.wrI (AX_GEARN n) c.n).wrN (AX_GEARD n) c.d
      (if c.ratio then s2 else s2.wrN (AX_GREM n) 0).modMo n fun m => { m with mPrev := mpos }
    | 3 =>
      match s.cam? c.table, mpos with
      | some k, some m =>
        let e := if c.camSwitch then (s.mo n).mE else m
        let val := roundQ (k.eval (m - e + k.m0)).1.1
        ((s1.put (AX_CAM n) AX_CAM_TABLE c.table).putB (AX_CAM n) AX_CAM_ABS c.abs).modMo n
          fun x => { x with mE := e, camOfs := if c.abs then 0 else x.base - val, mPrev := some m }
      | _, _ => s1
    | _ => s1.modMo n fun m => { m with mPrev := none, aiRem := 0, tPrev := t }
  ((s2.camFlags n).changeDone c .ok).baseRun n t
/-- A due change is checked against the set-point velocity, phase included, that the old source gives at this t*, and taken or refused (R121, R128). -/
def State.takeChange (s : State) (n t : Nat) (c : SrcChange) : State :=
  let m? := (s.masterAt c.msel c.mact t).map (·.1)
  let dv := absI (s.changeVel n t c - ((s.mo n).vBase + (s.phaseNow n t).2.1))
  let jump : Int := match s.cam? c.table, m? with
    | some k, some m =>
      let e := if c.camSwitch then (s.mo n).mE else m
      absI (roundQ (k.eval (m - e + k.m0)).1.1 - (s.mo n).base)
    | _, _ => 0
  let noCam := c.src = 3 && (s.cam? c.table).isNone
  let noMaster := (c.src = 2 || c.src = 3) && m?.isNone
  if dv ≤ s.rd64I (AX_VSTEP n) && !noCam && !noMaster && !(c.src = 3 && c.abs && decide (16777216 < jump)) then
    s.applyChange n t c
  else s.refuseChange n c
/-- Pending changes are looked at in this run (R121, R122, R129).  Of several that are due in one run the one issued last applies
and the earlier ones complete superseded (R140). -/
def State.sourceChange (s : State) (n t : Nat) : State :=
  let cs := (s.mo n).chgs.map fun c => if c.camSwitch then { c with table := s.get (AX_CAM n) AX_CAM_NEXT } else c
  if cs.isEmpty then s
  else
    let due := cs.filter fun c => s.changeDue n t c
    let rest := (cs.filter fun c => !s.changeDue n t c).map fun c => { c with seen := (s.masterAt c.msel c.mact t).map (·.1) }
    let s1 := (s.modMo n fun m => { m with chgs := rest }).pendFlag n
    match due.reverse with
    | [] => s1
    | c :: old => (old.foldl (fun s o => s.changeDone o .superseded (c.tag.getD 0)) s1).takeChange n t c

/-- The delay from sample to publication (R58). -/
def State.latNote (s : State) (n b : Nat) : State :=
  let d := min 65535 (s.tick - b / 32)
  let s1 := s.put (AX_LAT n) AX_LAT_LAST d
  s1.put (AX_LAT n) AX_LAT_MAX (max d (s1.get (AX_LAT n) AX_LAT_MAX))
/-- The set-point state of a run is published as a master (R57, R58, R104); the run of a frame boundary also serves a line shaft
(R130). -/
def State.publishSp (s : State) (n b : Nat) (sp : MState) : State :=
  (s.latNote n b).modMo n fun m =>
    { m with spOld := if m.spAt = s.tick then m.spOld else m.sp, sp := sp, spAt := s.tick, spFrame := if b / 32 = s.time.frameStart / 32 then sp else m.spFrame }

/-- The set-point of the run at boundary `b` (1/32 ticks): source change, base, a pending Dusk ramp from the set-point state of
this run (R109), phase and register channels; AXn_SPPOS, SPVEL, SPACC and PHOFS follow.  The base and AXn_SPPOS of a modulo axis run on without a wrap: R105 reduces the position of a
modulo master where it is used, and no rule says that AXn_SPPOS wraps (DESIGN CHOICE). -/
def State.setpoint (s : State) (n b : Nat) : State :=
  let t := s.mt16 (s.targetOf n b)
  let s0 := s.modMo n fun m => { m with tPrev := m.tStar, tStar := t }
  let due := (s.mo n).duskReq
  let s0b := (s0.shaftStatus n t).baseRun n t
  let s1 := if due then s0b else s0b.sourceChange n t
  let m1 := s1.mo n
  let s2 := if due then (s1.startRampAt n t m1.base m1.vBase m1.aBase .dusk).modMo n fun m => { m with duskReq := false } else s1
  let s3 := ((s2.phaseStep n t).regChannel n b).modMo n fun m => { m with runAt := b }
  let ph := s3.phaseNow n t
  let m := s3.mo n
  let off := ph.1 + m.regChan
  let sp : MState := { p := m.base + off, v := m.vBase + ph.2.1, a := m.aBase + ph.2.2.1, j := m.jBase + ph.2.2.2, ts := t }
  let s4 := (((s3.wr64I (AX_SPPOS n) (m.base + off)).wr64I (AX_SPVEL n) (m.vBase + ph.2.1)).wr64I (AX_SPACC n) (m.aBase + ph.2.2.1)).wr64I
    (AX_PHOFS n) off
  (s4.segRegs n).publishSp n b sp

/-! ### Line shafts (R130–R135) -/

/-- A state arrives for subscriber LSk (R132): accepted when its stamp is later than the newest accepted one. -/
def State.shaftAccept (s : State) (k : Nat) (m : MState) (coast : Nat) (dec jerk : Int) : State :=
  let l := s.shaft k
  if !s.flag (LS_CFG k) LS_CFG_EN then s
  else if l.cont.isSome then s.count (LS_CNT k) LS_CNT_OLD
  else
    let later := match l.newest with
      | some o => decide (o.ts < m.ts)
      | none => true
    if later then
      let ns := (roundQ (mkRat m.ts 65536)).toNat
      let s1 := (((s.wr64N (LS_STAMP k) (ns / 1000000000 % 2 ^ 34 * 2 ^ 30 + ns % 1000000000)).put (LS_COAST k) LS_COAST_LSCOAST coast).wr64I
        (LS_DEC k) dec).wr64I (LS_JERK k) jerk
      (s1.setf (LS_STAT k) LS_STAT_VALID).modShaft k fun l =>
        { l with
          newest := some m, prev := if l.at_ = s.tick then l.prev else l.newest, at_ := s.tick, coast := coast, dec := dec, jerk := jerk
          before := if l.before.isNone && s.flag (LS_STAT k) LS_STAT_COAST then l.newest else l.before }
    else s.count (LS_CNT k) LS_CNT_OLD

/-- The master's continuation starts at `td` from state `m` (R134). -/
def State.shaftLose (s : State) (k : Nat) (m : MState) (td : Nat) : State :=
  let x := m.exact td
  let s1 := (s.setf (LS_STAT k) LS_STAT_LOST).modShaft k fun l =>
    { l with
      newest := some m, prev := some m
      cont := some (rampFrom td (roundQ x.1) (roundQ x.2.1) (roundQ x.2.2) l.dec l.jerk), stepPend := false, before := none }
  (((s1.forEach (s1.followers k) fun s n =>
    (((s.setf (AX_STAT n) AX_STAT_MLOST).setf (AX_STAT n) AX_STAT_MSYNC_STOP).setf (AX_STAT n) AX_STAT_DUSK).lpNotice n .shaftLost).event
    .shaftLost k).group 3).group 2

/-- The lag of a subscribed shaft at a frame boundary (R133) and its consequences: coasting, loss, a step.  A state accepted in the
boundary tick does not avert a loss (R140). Every boundary is judged once. -/
def State.shaftFrame (s00 : State) (k : Nat) : State :=
  let l := s00.shaft k
  if !s00.flag (LS_CFG k) LS_CFG_EN || l.frame == some s00.time.frameNum then s00
  else
    let s := s00.modShaft k fun l => { l with frame := some s00.time.frameNum }
    let b := s.frameTime s.time.frameNum
    let lagOf := fun (m : MState) => (b - m.ts + s.frameTime 1 / 2) / max 1 (s.frameTime 1)
    let earlier := if l.at_ = s.tick then l.prev else l.newest
    match l.newest with
    | none => s
    | some new =>
      let lost := fun (m : MState) => decide (2 ≤ lagOf m) && decide (l.coast < lagOf m - 1)
      let m := if (earlier.map lost).getD false then earlier.getD new else new
      let lag := lagOf m
      let s1 := s.put (LS_STAT k) LS_STAT_LAG (min 255 lag)
      if l.cont.isSome then s1
      else if l.stepPend then s1.shaftLose k new b
      else if lag ≤ 1 then (if l.before.isNone then s1.clrf (LS_STAT k) LS_STAT_COAST else s1)
      else
        let first := !s.flag (LS_STAT k) LS_STAT_COAST
        let s2 := (s1.setf (LS_STAT k) LS_STAT_COAST).count (LS_CNT k) LS_CNT_MISSED
        let s3 := if first then (s2.event .shaftCoast k).group 3 else s2
        if lost m then s3.shaftLose k m (m.ts + (l.coast + 2) * s.frameTime 1)
        else s3.forEach (s3.followers k) fun s n => s.count (AX_CNT n) AX_CNT_COASTED

/-- The state a publishing shaft has at the transmit slot (R130), with t_s the frame boundary: of a virtual source the set-point state
of its run at that boundary (out of Noon and Dusk the axis rests there), of a real source the state of R104 that its port formed
first in this frame. -/
def State.shaftFill (s : State) (k : Nat) : State :=
  if s.flag (LS_CFG k) LS_CFG_EN && s.flag (LS_CFG k) LS_CFG_ROLE then
    let src := s.get (LS_CFG k) LS_CFG_SRCAX
    let n := src - 0x40 + 64
    let fb := s.get (AXL_LFB src) AXL_LFB_FB1
    let m : Option MState :=
      if 0x40 ≤ src then
        let x := { (s.mo n).spFrame with modulo := s.rd64I (AX_MOD n) }
        some (if s.running then x else { x with v := 0, a := 0, j := 0, ts := s.frameTime s.time.frameNum })
      else if fb < 40 then
        match (s.port fb).mFrame with
        | some (f, x) => if f = s.time.frameNum then some { x with modulo := s.rd64I (AX_MOD src) } else s.actualState src
        | none => s.actualState src
      else s.actualState src
    match m with
    | some y => s.modShaft k fun l => { l with out := { y with ts := (roundQ (mkRat y.ts 65536)).toNat * 65536 } }
    | none => s
  else s

/-! ### End of motion (R608) -/

/-- An axis whose ramp has ended holds its final position (R608). -/
def State.restEnded (s : State) (n : Nat) : State :=
  match (s.mo n).ramp with
  | some r =>
    if r.endAt ≤ s.mt16 s.now then
      let s1 := s.followRamp n r.endAt
      let p := (s1.mo n).base + s1.rd64I (AX_PHOFS n)
      (s1.wr64I (AX_SPPOS n) p).modMo n fun m => { m with sp := { p := p, ts := r.endAt } }
    else s
  | none => s

/-- Loops stop: no ramp, move or change of the axis goes on, and it holds where it stands (R608). -/
def State.stopMotion (s : State) (n : Nat) : State :=
  let s := s.restEnded n
  let m := s.mo n
  let stat := s.rdN (AX_STAT n)
  let tags := (m.chgs.map (·.tag)) ++ [m.phaseTag, m.phaseDist.bind (·.tag), m.phaseNext.bind (·.tag)]
  let s1 := (tags.foldl (fun s t => s.finishAny t .protected_ stat) (s.dropMoves n)).modMo n fun m =>
    { m with
      chgs := [], ramp := none, duskReq := false, vBase := 0, aBase := 0, phase := (s.phaseNow n m.tStar).1
      phaseTime := none, phaseTag := none, phaseDist := none, phaseNext := none }
  let s2 := (s1.clrf (AX_CAM n) AX_CAM_PEND).clrf (AX_STAT n) AX_STAT_BUSY
  (if m.ramp.isSome then s2.clrf (AX_STAT n) AX_STAT_DUSK else s2).segRegs n

end Sys2Proof.Machine
end

