-- ==== Sys2Proof/Machine/Loops.lean ====
section
/-! DEFINITION. Position and velocity laws (R170–R196): feedback, PID, feed-forward, observer, filters, supervision,
repetitive control, test signals and the APPLY of staged parameters. -/

namespace Sys2Proof.Machine

/-- The term of a loop coefficient: mantissa register `a`, shift field `f` of register `sh`, both as in effect. -/
def State.term (s : State) (a sh : Nat) (f : Fld) (x : Int) : Int := coef (s.ardI a) (s.aget sh f) x

/-! ### Torque-off and fallback (R175, R176) -/

/-- Torque-off (R176): the torque falls from its last value over 64 velocity runs; a running test signal aborts, pending changes and
moves end, and the firmware is told (R40). -/
def State.torqueOff (s : State) (n : Nat) : State :=
  if (s.loop n).toff.isSome then s
  else
    let s1 := ((s.setf (AXL_LSTAT n) AXL_LSTAT_TOFF).modLoop n fun l => { l with toff := some (l.tRef, 0), iP := 0, iV := 0 }).injAbort n
    let s2 := ((s1.modMo n fun m => { m with chgs := [] }).resolve .source n .protected_ (s1.rdN (AX_STAT n))).clrf (AX_CAM n) AX_CAM_PEND
    (((s2.dropMoves n).lpNotice n .torqueOff).event .torqueOff n).group 2

/-- Loss of feedback: FBLOSS and torque-off. -/
def State.fbLoss (s : State) (n : Nat) : State :=
  ((s.setf (AXL_LSTAT n) AXL_LSTAT_FBLOSS).torqueOff n).event .fbLoss n

/-- The own Dusk ramp of a supervision that acts in the run of boundary `b`, or torque-off when the own ramp already runs (R186); two
checks of one boundary start one ramp (R196). -/
def State.superviseStop (s : State) (n : Nat) (k : EventKind) (b : Nat) : State :=
  if (s.mo n).ramp.isSome then
    if (s.mo n).rampB == some b then s.event k n else (s.torqueOff n).event k n
  else (s.startRamp n k).modMo n fun m => { m with rampB := some b }

/-- Port codes: of the position law and of the velocity law (R171). -/
def State.posPort (s : State) (n : Nat) : Nat :=
  if s.flag (AXL_LFB n) AXL_LFB_DUALLOOP then s.get (AXL_LFB n) AXL_LFB_FB2 else s.get (AXL_LFB n) AXL_LFB_FB1
def State.velPort (s : State) (n : Nat) : Nat := s.get (AXL_LFB n) AXL_LFB_FB1
def State.otherPort (s : State) (n p : Nat) : Nat :=
  if p = s.get (AXL_LFB n) AXL_LFB_FB1 then s.get (AXL_LFB n) AXL_LFB_FB2 else s.get (AXL_LFB n) AXL_LFB_FB1
/-- VALID of a feedback code. -/
def State.fbValid (s : State) (n p : Nat) : Bool :=
  if p < 40 then s.portValid p else p == 0x3E && (s.net (n - 32)).valid
/-- The ports in use by the position law and by the velocity law, after a fallback the other one (R175). -/
def State.posUse (s : State) (n : Nat) : Nat := if (s.loop n).alt then s.otherPort n (s.posPort n) else s.posPort n
def State.velUse (s : State) (n : Nat) : Nat := if (s.loop n).altV then s.otherPort n (s.velPort n) else s.velPort n
/-- FB2K (U32 Q16.16: FB1 increments per FB2 increment) applied to, or taken out of, a position difference. -/
def State.viaK (s : State) (n : Nat) (toFb1 : Bool) (x : Int) : Int :=
  let k : Int := s.rdN (AXL_FB2K n)
  if k = 0 then 0 else if toFb1 then shrConv (x * k) 16 else divConv (x * 65536) k
/-- The sum of the index corrections of a feedback code up to an instant. -/
def State.fbCor (s : State) (p b : Nat) : Int := if p < 40 then (s.port p).corrAt b else 0

/-- The inputs the hardware captures at a boundary of an axis (R55, R290). -/
def State.capture (s : State) (n b : Nat) : AxIn :=
  let l := s.loop n
  let pp := s.posUse n
  let vp := s.velUse n
  let f1 := s.get (AXL_LFB n) AXL_LFB_FB1
  let f2 := s.get (AXL_LFB n) AXL_LFB_FB2
  let rp := s.aget (AXL_RCFG n) AXL_RCFG_RPORT
  let net := s.net (n - 32)
  let same := l.inpV.b == b
  { wpos := s.fbWord n pp b, wvel := s.fbWord n vp b
    speed := if vp < 40 then s.rdI (EP_SPEED vp) else 0
    posValid := s.fbValid n pp, velValid := s.fbValid n vp
    refd1 := s.flag (EP_STAT f1) EP_STAT_REFD && decide (f1 < 40)
    refd2 := s.flag (EP_STAT f2) EP_STAT_REFD && decide (f2 < 40)
    newPub := decide (32 ≤ n ∧ n < 64) && net.arrived
    wBack := if 40 ≤ vp then net.older.map (·.1) else if same then l.inpV.wBack else l.wBefore
    corBack := if 40 ≤ vp then 0 else if same then l.inpV.corBack else s.fbCor vp b - l.corBefore
    turn := if f1 < 40 then s.turnAt f1 b else none
    rword := s.portWord rp b, rvalid := s.portValid rp
    p1 := s.fbWord n f1 b, p2 := s.fbWord n f2 b, valid1 := s.fbValid n f1, valid2 := s.fbValid n f2
    corSum := s.fbCor pp b, corr := if l.inp.b == b then l.inp.corr else s.fbCor pp b - l.inp.corSum
    b := b
    npos := (net.newer.map (·.1)).getD 0, nstamp := (net.newer.map (·.2)).getD 0 }
/-- The inputs of the velocity law at its boundary; the word and the corrections there serve the next one (R173). -/
def State.captureVel (s : State) (n b : Nat) : State :=
  let vp := s.velUse n
  s.modLoop n fun l => { l with inpV := s.capture n b, wBefore := some (s.fbWord n vp b), corBefore := s.fbCor vp b }
/-- The inputs of the position law at its boundary. -/
def State.capturePos (s : State) (n b : Nat) : State := s.modLoop n fun l => { l with inp := s.capture n b }

/-! ### Test signals (R193, R194) -/

/-- The period in ticks of an axis' velocity runs (position runs for a virtual axis): f_v = 400 000 000 000 / period, in mHz. -/
def State.runPeriod (s : State) (n : Nat) : Nat := max 1 (if n < 64 then s.perVel n else s.perPos n)

/-- The PRBS register of length N with its tap: one step. -/
def prbsStep (sel r : Nat) : Nat :=
  let (n, t) := match sel with
    | 0 => (9, 5) | 1 => (10, 7) | 2 => (11, 9) | 3 => (15, 14) | 4 => (17, 14) | 5 => (20, 17) | 6 => (23, 18) | _ => (31, 28)
  (2 * r + b2n (nbit r (n - 1) != nbit r (t - 1))) % 2 ^ n
def prbsLen (sel : Nat) : Nat :=
  match sel with
  | 0 => 9 | 1 => 10 | 2 => 11 | 3 => 15 | 4 => 17 | 5 => 20 | 6 => 23 | _ => 31

/-- The first parameter, as an offset in the generator's block, outside the ranges of R193; a chirp also needs DUR (R194). -/
def State.injBad (s : State) (k : Nat) : Option Nat :=
  let n := s.get (LPINJ_CFG k) LPINJ_CFG_AXIS
  let pt := s.get (LPINJ_CFG k) LPINJ_CFG_POINT
  let ty := s.get (LPINJ_CFG k) LPINJ_CFG_TYPE
  let f0 := s.rdN (LPINJ_F0 k)
  let half := fun f : Nat => decide (2 * f * s.runPeriod n ≤ 400000000000)
  let chirp := ty == 1 || ty == 2
  if 80 ≤ n || 3 < pt || (64 ≤ n && pt != 0) || 5 < ty || s.lpOf n != k then some 0
  else if (ty == 0 && !half f0) || ((ty == 2 || ty == 3 || ty == 5) && f0 == 0) || (ty == 3 && decide (65535 < f0)) then some 8
  else if chirp && !half (s.rdN (LPINJ_F1 k)) then some 0xC
  else if chirp && s.rdN (LPINJ_DUR k) == 0 then some 0x10 else none

/-- START (R194): only in Noon, for an axis this LP serves, and with parameters in range; else refused with ABORTED, and so in the axis's
own Dusk ramp (R196). -/
def State.injStart (s : State) (k : Nat) : State :=
  let n := s.get (LPINJ_CFG k) LPINJ_CFG_AXIS
  if s.flag (LPINJ_STAT k) LPINJ_STAT_RUNNING then s
  else if s.inNoon && (s.injBad k).isNone && (s.mo n).ramp.isNone then
    (((s.setf (LPINJ_STAT k) LPINJ_STAT_RUNNING).put (LPINJ_STAT k) LPINJ_STAT_RUNS 0).modInj k fun _ =>
      { startAt := s.tick, k := 0, phase := 0, prbs := 2 ^ prbsLen (s.get (LPINJ_CFG k) LPINJ_CFG_PRBSN) - 1 })
  else s.setf (LPINJ_STAT k) LPINJ_STAT_ABORTED

/-- STOP. -/
def State.injStop (s : State) (k : Nat) : State :=
  if s.flag (LPINJ_STAT k) LPINJ_STAT_RUNNING then (s.clrf (LPINJ_STAT k) LPINJ_STAT_RUNNING).resolve .injection k .ok (s.get (LPINJ_STAT k) LPINJ_STAT_RUNS)
  else s

/-- g(k) in Q1.30; 0 for a sine of frequency 0 (R197). -/
def State.injShape (s : State) (k : Nat) : Int :=
  let i := s.inj k
  let f0 := s.rdN (LPINJ_F0 k)
  match s.get (LPINJ_CFG k) LPINJ_CFG_TYPE with
  | 0 => if f0 = 0 then 0 else sinQ30 i.phase
  | 1 | 2 => sinQ30 i.phase
  | 3 => if nbit i.prbs 0 then 2 ^ 30 else -(2 ^ 30)
  | 4 => if i.k < f0 then 0 else 2 ^ 30
  | _ => if (i.k / max 1 f0) % 2 = 0 then 2 ^ 30 else -(2 ^ 30)

/-- The largest x below 2^`j` + `r` whose `n`-th power, times `d`, is at most `a`; by bits. -/
def rootBits (a d n : Nat) : Nat → Nat → Nat
  | 0, r => r
  | j + 1, r => rootBits a d n j (if (r + 2 ^ j) ^ n * d ≤ a then r + 2 ^ j else r)
/-- The phase advance of run `k` of a logarithmic chirp in 2^−32 turns: `per`·2^32/(4·10^11) times F0·(F1/F0)^(k/DUR) mHz, rounded down or
up. -/
def logAdvance (f0 f1 k dur per : Nat) : Nat :=
  let a := f0 ^ (dur - k) * f1 ^ k * (per * 2 ^ 32) ^ dur
  let d := 400000000000 ^ dur
  let x := rootBits a d dur 33 0
  if x ^ dur * d = a then x else x + b2n (Config.logChirpUp f0 f1 k dur)

/-- The phase advance of the present run in 2^−32 turns (R193); the rounding is not stated. -/
def State.injAdvance (s : State) (k : Nat) : Nat :=
  let i := (s.inj k).k
  let f0 := s.rdN (LPINJ_F0 k)
  let f1 := s.rdN (LPINJ_F1 k)
  let dur := max 1 (s.rdN (LPINJ_DUR k))
  let per := s.runPeriod (s.get (LPINJ_CFG k) LPINJ_CFG_AXIS)
  match s.get (LPINJ_CFG k) LPINJ_CFG_TYPE with
  | 1 => (divOpen (((f0 : Int) * dur + ((f1 : Int) - f0) * i) * per * 2 ^ 32) ((dur * 400000000000 : Nat) : Int)).toNat
  | 2 => logAdvance f0 f1 i dur per
  | _ => (divOpen ((f0 * per * 2 ^ 32 : Nat) : Int) 400000000000).toNat

/-- The generator of LPk works in a run of axis `n`: it serves the axis, and the run started at least 16 ticks after START (R194). -/
def State.injActive (s : State) (n : Nat) : Bool :=
  let k := s.lpOf n
  s.flag (LPINJ_STAT k) LPINJ_STAT_RUNNING && s.get (LPINJ_CFG k) LPINJ_CFG_AXIS == n && decide ((s.inj k).startAt + 16 ≤ s.time.runAt)
/-- The value that the generator of an axis' LP adds at `point` in this run. -/
def State.injValue (s : State) (n point : Nat) : Int :=
  let k := s.lpOf n
  if s.injActive n && s.get (LPINJ_CFG k) LPINJ_CFG_POINT == point then
    sat32 (s.rdI (LPINJ_OFS k) + shrConv (s.rdI (LPINJ_AMP k) * s.injShape k) 30)
  else 0

/-- After a run of its rate the generator moves on, and after DUR runs stops with DONE (R194). -/
def State.injStep (s : State) (n : Nat) : State :=
  let k := s.lpOf n
  if s.injActive n then
    let i := s.inj k
    let adv := s.injAdvance k
    let f0 := max 1 (s.rdN (LPINJ_F0 k))
    let s1 := (s.put (LPINJ_STAT k) LPINJ_STAT_RUNS (min (2 ^ 24 - 1) (i.k + 1))).modInj k fun i =>
      { i with
        k := i.k + 1, phase := (i.phase + adv) % 2 ^ 32
        prbs := if (i.k + 1) % f0 = 0 then prbsStep (s.get (LPINJ_CFG k) LPINJ_CFG_PRBSN) i.prbs else i.prbs }
    let dur := s.rdN (LPINJ_DUR k)
    if dur ≠ 0 && dur ≤ i.k + 1 then
      ((s1.clrf (LPINJ_STAT k) LPINJ_STAT_RUNNING).setf (LPINJ_STAT k) LPINJ_STAT_DONE).resolve .injection k .ok (i.k + 1)
    else s1
  else s

/-! ### Repetitive control (R189, R190) -/

/-- Period of the reference angle; 0 where there is none. -/
def State.repPeriod (s : State) (n : Nat) : Int :=
  let p := s.ard64I (AXL_RPER n)
  if p ≠ 0 then p
  else match s.aget (AXL_RCFG n) AXL_RCFG_REF with
    | 1 => ((s.masterOf (s.get (AX_SRC n) AX_SRC_MSEL) (s.flag (AX_SRC n) AX_SRC_MACT)).map (·.modulo)).getD 0
    | 2 => (s.rdN (EP_CPR (s.aget (AXL_RCFG n) AXL_RCFG_RPORT)) : Int) * 2 ^ 24
    | _ => if s.posPort n < 40 then (s.rdN (EP_CPR (s.posPort n)) : Int) * 2 ^ 24 else 0

/-- The reference position of the run, none where it is invalid: its port has VALID = 0, or its master is lost (R190). -/
def State.repRef (s : State) (n : Nat) (pact : Int) (b : Nat) : Option Int :=
  let i := (s.loop n).inp
  match s.aget (AXL_RCFG n) AXL_RCFG_REF with
  | 1 =>
    let msel := s.get (AX_SRC n) AX_SRC_MSEL
    let mact := s.flag (AX_SRC n) AX_SRC_MACT
    let port := if 0x50 ≤ msel && msel < 0x78 then msel - 0x50
      else if msel < 0x40 && mact then s.get (AXL_LFB msel) AXL_LFB_FB1 else 0x3F
    if s.flag (AX_STAT n) AX_STAT_MLOST || (decide (port < 40) && !s.portValid port) then none
    else (s.masterAt msel mact (s.mt16 b)).map (·.1)
  | 2 => if i.rvalid then some i.rword else none
  | _ => if i.posValid then some pact else none

def State.bin (s : State) (i : Nat) : Int := (wmGet s.mem.pool i).toInt
def State.setBin (s : State) (i : Nat) (v : Int) : State :=
  { s with mem := { s.mem with pool := wmSet s.mem.pool i (BitVec.ofInt 32 v) } }

/-- Learning at one crossed bin (R190 step 2); each product is rounded by itself (R10). -/
def State.repLearn (s : State) (n base nb : Nat) (lim dir : Int) (e : Int) (i : Nat) : State :=
  let forg : Int := s.aget (AXL_RFORG n) AXL_RFORG_FORG
  let qc : Int := s.aget (AXL_RFORG n) AXL_RFORG_QC
  let T := s.bin (base + i)
  let kl := coef (s.ardI (AXL_RKL n)) (s.aget (AXL_RLEAD n) AXL_RLEAD_KLSH) e
  let s1 := s.setBin (base + i) (clampI (-lim) lim (shrConv ((65536 - forg) * T) 16 + kl))
  if qc = 0 then s1
  else
    let h := if 0 < dir then (i + nb - 1) % nb else (i + 1) % nb
    let l := s1.bin (base + (h + nb - 1) % nb)
    let r := s1.bin (base + (h + 1) % nb)
    s1.setBin (base + h) (clampI (-lim) lim
      (shrConv (qc * l) 16 + shrConv ((65536 - 2 * qc) * s1.bin (base + h)) 16 + shrConv (qc * r) 16))

/-- The table interpolated between bin centres at coordinate `x`. -/
def State.binAt (s : State) (base nb : Nat) (x : Rat) : Int :=
  let y := x - 1 / 2
  let f := y.floor
  let i := (f % nb).toNat
  let T0 := s.bin (base + i)
  let T1 := s.bin (base + (i + 1) % nb)
  roundQ (T0 + (y - f) * (T1 - T0 : Int))

/-- The repetitive controller of a position run with error `e`, at boundary `b`. -/
def State.repetitive (s : State) (n : Nat) (pact e : Int) (b : Nat) : State :=
  if !s.aflag (AXL_RCFG n) AXL_RCFG_REN || (s.loop n).repOff then s.modLoop n fun l => { l with tRep := 0, repX := none }
  else
    let per := s.repPeriod n
    match s.repRef n pact b with
    | none => (s.setf (AXL_LSTAT n) AXL_LSTAT_REP_REFINV).modLoop n fun l => { l with tRep := 0, repX := none }
    | some q =>
      if per ≤ 0 then (s.setf (AXL_LSTAT n) AXL_LSTAT_REP_REFINV).modLoop n fun l => { l with tRep := 0, repX := none }
      else
        let nb : Nat := 2 ^ s.aget (AXL_RCFG n) AXL_RCFG_SZ
        let base := s.aget (AXL_RCFG n) AXL_RCFG_BASE
        let lim := s.ardI (AXL_RLIM n)
        let x1 : Rat := mkRat ((q % per) * nb) per.toNat
        let s0 := s.clrf (AXL_LSTAT n) AXL_LSTAT_REP_REFINV
        let x0 := (s.loop n).repX.getD x1
        let d0 := x1 - x0
        let d : Rat := if (nb : Rat) / 2 < d0 then d0 - nb else if d0 < -((nb : Rat) / 2) then d0 + nb else d0
        let dir : Int := if 0 < d then 1 else if d < 0 then -1 else (s.loop n).repDir
        let xe := x0 + d
        let lo := ((if 0 < d then x0 else xe) - 1 / 2)
        let hi := ((if 0 < d then xe else x0) - 1 / 2)
        -- centres i + 1/2 in (x0, x1] forwards, [x1, x0) backwards
        let c0 : Int := if 0 < d then lo.floor + 1 else lo.ceil
        let c1 : Int := if 0 < d then hi.floor else hi.ceil - 1
        let k := (c1 - c0 + 1).toNat
        let hold := s.aflag (AXL_RCFG n) AXL_RCFG_FREEZE || s.flag (AXL_RCFG n) AXL_RCFG_HOST || (s.mo n).ramp.isSome
        let s1 :=
          if hold || d = 0 then s0
          else if 16 < k then (s0.setf (AXL_LSTAT n) AXL_LSTAT_SPEEDHI).count (AXL_LCNT n) AXL_LCNT_SPEEDHI
          else
            s0.forEach (List.range k) fun s j =>
              let c : Int := if 0 < d then c0 + j else c1 - j
              let ei := sat32 (roundQ ((s.loop n).repE + (e - (s.loop n).repE : Int) * ((c + 1 / 2 : Rat) - x0) / d))
              s.repLearn n base nb lim dir ei (c % nb).toNat
        let out := clampI (-lim) lim (s1.binAt base nb (x1 + (s.aget (AXL_RLEAD n) AXL_RLEAD_LEAD : Nat) * dir))
        s1.modLoop n fun l => { l with tRep := out, repX := some x1, repE := e, repDir := dir }

/-! ### Position law (R172–R178) -/

/-- Fallback of the position law (R175). -/
def State.posFallback (s : State) (n : Nat) : State :=
  let o := s.otherPort n (s.posUse n)
  if !(s.loop n).alt && s.fbValid n o && s.rdN (AXL_FB2K n) ≠ 0 then
    let b := (s.loop n).inp.b
    let wo := s.viaK n (o == s.get (AXL_LFB n) AXL_LFB_FB2) (s.fbWord n o b)
    let cor := s.fbCor o b
    (((s.setf (AXL_LSTAT n) AXL_LSTAT_FBALT).modLoop n fun l => { l with alt := true, altOfs := l.inp.wpos - wo, seenP := cor }).event .fbAlt n).startRamp n .fbAlt
  else s.fbLoss n

/-- p_act of the run (R172), and c moved as R174 states: by CORRRATE over the time since the previous run, or over one period where there is none
(DEDUCED). -/
def State.actual (s : State) (n : Nat) : Int × State :=
  let l := s.loop n
  let rate := s.ardN (AXL_CORRRATE n)
  let since : Nat := (l.posAt.map (l.inp.b - ·)).getD (32 * s.perPos n)
  let step := divConv ((rate * 65536 * since : Nat) : Int) perSec32
  let new := if l.posAt.isSome then l.inp.corSum - l.seenP else 0
  let c := if rate = 0 then 0 else l.c - clampI (-step) step l.c + new
  let w := if l.alt then s.viaK n (s.otherPort n (s.posPort n) == s.get (AXL_LFB n) AXL_LFB_FB2) l.inp.wpos + l.altOfs else l.inp.wpos
  (wrapS 64 (w + c), s.modLoop n fun l => { l with c := c, seenP := l.inp.corSum, posAt := some l.inp.b })

/-- Deviation of the two feedbacks (R177). -/
def State.deviation (s : State) (n : Nat) : State :=
  let lim := s.ard64I (AXL_FBDEV n)
  let l := s.loop n
  if l.inp.valid1 && l.inp.valid2 && s.rdN (AXL_FB2K n) ≠ 0 && lim ≠ 0 && s.get (AXL_LFB n) AXL_LFB_FB2 < 40 then
    let d := (l.inp.p1 - l.p10) - s.viaK n true (l.inp.p2 - l.p20)
    if lim < absI d then ((s.setf (AXL_LSTAT n) AXL_LSTAT_FBDEVF).lpNotice n .fbDev).event .fbDev n d else s
  else s

/-- The position error d of a run on p_act, with the test signal of point 0 (R178 steps 2 and 3). -/
def State.posError (s : State) (n : Nat) (pact : Int) : Int := wrapS 64 (s.rd64I (AX_SPPOS n) + s.injValue n 0 * 65536 - pact)
/-- The following-error check (R178 step 3, R186): twice FELIM while the own Dusk ramp runs. -/
def State.feCheck (s : State) (n : Nat) (pact : Int) : State :=
  let lim := s.ard64I (AXL_FELIM n)
  if lim ≠ 0 && decide (lim * (if (s.mo n).ramp.isSome then 2 else 1) < absI (s.posError n pact)) then
    ((s.setf (AXL_LSTAT n) AXL_LSTAT_FE).count (AXL_LCNT n) AXL_LCNT_FE).superviseStop n .followingError (s.loop n).inp.b
  else s
/-- Steps 4 to 10 of R178 on p_act, after the following-error check: a test signal that the check has aborted adds 0 in this run
(R194). -/
def State.posLaw (s : State) (n : Nat) (pact : Int) : State :=
  let l := s.loop n
  let d := s.posError n pact
  let e0 := shrConv d 16
  let e := sat32 e0
  let s1 := s.wr64I (AXL_PERR n) d
  let s2 := if e = e0 then s1 else (s1.setf (AXL_LSTAT n) AXL_LSTAT_EPSAT).count (AXL_LCNT n) AXL_LCNT_EPSAT
  let ki := s.term (AXL_KIP n) (AXL_SH0 n) AXL_SH0_S3 e
  let imax := s.ardI (AXL_IMAXP n)
  let iP := if l.vlimSign ≠ 0 && sgn ki = l.vlimSign then l.iP else clampI (-imax) imax (sat32 (l.iP + ki))
  let de := sat32 (e - (if l.first then e else l.ePrev))
  let fD := if s.ardI (AXL_KDF n) = 0 then 0 else sat32 (l.fD + s.term (AXL_KDF n) (AXL_SH0 n) AXL_SH0_S1 (sat32 (de - l.fD)))
  let a := s.rd64I (AX_SPACC n)
  let j := divOpen ((a - (if l.first then a else l.aPrev)) * 400000000) (max 1 (s.perPos n : Int))
  let ff := 24 - s.aget (AXL_LCFG n) AXL_LCFG_FFSH
  let vS := sat32 (shrConv (s.rd64I (AX_SPVEL n)) ff)
  let aS := sat32 (shrConv a ff)
  let jS := sat32 (shrConv j ff)
  let v0 := sat32 (s.term (AXL_KPP n) (AXL_SH0 n) AXL_SH0_S4 e + iP + s.term (AXL_KDP n) (AXL_SH0 n) AXL_SH0_S2 fD
    + s.term (AXL_KVFF n) (AXL_SH1 n) AXL_SH1_S2 vS + s.injValue n 1)
  let vlim := s.ardI (AXL_VLIM n)
  let vc := clampI (-vlim) vlim v0
  (s2.putB (AXL_LSTAT n) AXL_LSTAT_VLIMIT (vc ≠ v0)).modLoop n fun x =>
    { x with
      iP := iP, fD := fD, ePrev := e, aPrev := a, first := false, vlimSign := (if vc = v0 then 0 else sgn v0)
      pAct := pact, vc := vc, aS := aS, jS := jS, tq := none }

/-- A run under a torque source (R103): the position law is bypassed and the torque set-point goes to the velocity law.  The base follows the
actual position and its velocity, so that a ramp or a change of source goes on from where the axis is: the spec does not state the
set-point position of a torque source (DESIGN CHOICE). -/
def State.trackTorque (s : State) (n : Nat) (pact tau : Int) : State :=
  let l := s.loop n
  let m := s.mo n
  let v := match (s.loop n).tq, l.runB with
    | some _, some b => if b < l.inp.b then divOpen ((pact - l.pAct) * perSec32) ((l.inp.b - b : Nat) : Int) else m.vBase
    | _, _ => m.vBase
  let s1 := ((s.wr64I (AX_SPPOS n) pact).wr64I (AX_SPVEL n) v).wr64I (AX_SPACC n) 0
  (s1.modMo n fun m => { m with base := pact - s.rd64I (AX_PHOFS n), vBase := v, aBase := 0, jBase := 0, sp := { m.sp with p := pact, v := v, a := 0, j := 0 } }).modLoop n
    fun l => { l with tq := some tau, first := true, pAct := pact, tRep := 0, repX := none }

/-- What the position law does in a run, the set-point being formed: it hands over the velocity command or the torque set-point with the
output of the repetitive controller; the values before stay for a velocity run that has started (R57). -/
def State.posBody (s : State) (n b : Nat) : State :=
  if !(s.loop n).inp.posValid then s.posFallback n
  else
    let (pact, s1) := s.actual n
    let s2 := s1.deviation n
    let s3 := match s2.torqueSet n with
      | some tau => s2.trackTorque n pact tau
      | none =>
        let s3 := s2.feCheck n pact
        if (s3.loop n).toff.isSome then s3.wr64I (AXL_PERR n) (s3.posError n pact)
        else let s4 := s3.posLaw n pact; s4.repetitive n pact (s4.loop n).ePrev b
    let o := s.loop n
    s3.modLoop n fun l =>
      { l with vcOld := o.vc, aSOld := o.aS, jSOld := o.jS, tRepOld := o.tRep, tqOld := o.tq, vcAt := s.tick, runB := some b }

/-- A position run of a local axis whose inputs were captured at its boundary (R178).  The set-point is formed in every
run, except in torque-off, where no stage runs (R176); the law proper runs while the axis is enabled. -/
def State.posRun (s : State) (n : Nat) : State :=
  if (s.loop n).toff.isSome then s
  else
    let b := (s.loop n).inp.b
    let s1 := s.setpoint n b
    if (s1.loop n).enabled && (s1.loop n).toff.isNone then s1.posBody n b else s1

/-! ### Velocity law (R173, R180–R185) -/

/-- The measured velocity of the run (R173) and the advance Δ; the saturation of Δ sets VDSAT. -/
def State.measured (s : State) (n : Nat) : Int × Int × State :=
  let l := s.loop n
  let i := l.inpV
  let toFb1 := s.velUse n == s.get (AXL_LFB n) AXL_LFB_FB2
  let raw := match i.wBack with
    | some w0 => wrapS 64 (i.wvel - w0 + i.corBack)
    | none => 0
  let dw := if l.altV then s.viaK n toFb1 raw else raw
  let d0 := shrConv dw (s.aget (AXL_LCFG n) AXL_LCFG_DSH)
  let d := sat32 d0
  let byPort := s.aflag (AXL_LCFG n) AXL_LCFG_VSRC && n < 32
  let sp := if l.altV then sat32 (s.viaK n toFb1 i.speed) else i.speed
  let v := s.term (AXL_KVC n) (AXL_SH0 n) AXL_SH0_S0 (if byPort then sp else d)
  (v, dw, if d = d0 || byPort then s else s.setf (AXL_LSTAT n) AXL_LSTAT_VDSAT)

/-- One biquad (R184). -/
def State.biquad (s : State) (a : Nat) (q : BqSt) (x : Int) : Int × BqSt :=
  let y := sat32 (shrConv (s.ardI a * x + s.ardI (a + 4) * q.x1 + s.ardI (a + 8) * q.x2 - s.ardI (a + 12) * q.y1 - s.ardI (a + 16) * q.y2) 30)
  (y, ⟨x, q.x1, y, q.y1⟩)

/-- One notch (R185) with angle `th` per run: its registers lie from `a` (CFG, ARG, RHO, DEPTH). -/
def State.notch (s : State) (a : Nat) (th : Nat) (st : Int × Int) (x : Int) : Int × (Int × Int) :=
  let rho := s.ardI (a + 8)
  let c := cosQ30 th
  let sn := sinQ30 th
  let re := sat32 (shrConv (shrConv (rho * c) 30 * st.1 - shrConv (rho * sn) 30 * st.2 + (2 ^ 30 - rho) * x) 30)
  let im := sat32 (shrConv (shrConv (rho * c) 30 * st.2 + shrConv (rho * sn) 30 * st.1) 30)
  (sat32 (x - shrConv (s.ardI (a + 12) * 2 * re) 30), (re, im))

/-- The angle of a notch: FIXED, or ORDER of the shaft's advance `dw` (R185). -/
def State.notchAngle (s : State) (n a : Nat) (dw : Int) : Nat :=
  if nbit (s.ardN a) 31 then
    let cpr := if s.velPort n < 40 then s.rdN (EP_CPR (s.velPort n)) else 0
    if cpr = 0 then 0 else ((divOpen ((s.ardN (a + 4) % 65536 : Nat) * dw) cpr) % 2 ^ 32).toNat
  else s.ardN (a + 4)

/-- The cogging term by the turn word of FB1 at the run's boundary (R55, R183). -/
def State.cogging (s : State) (n : Nat) : Int × State :=
  if !s.aflag (AXL_LCFG n) AXL_LCFG_COG || (s.loop n).cogOff || 32 ≤ n then (0, s.clrf (AXL_LSTAT n) AXL_LSTAT_COG_NOREF)
  else match (s.loop n).inpV.turn with
    | none => (0, s.setf (AXL_LSTAT n) AXL_LSTAT_COG_NOREF)
    | some (turn, cpr) =>
      let nb := 2 ^ s.aget (AXL_COG n) AXL_COG_SZ
      (s.binAt (s.aget (AXL_COG n) AXL_COG_BASE) nb (mkRat (turn * nb) cpr), s.clrf (AXL_LSTAT n) AXL_LSTAT_COG_NOREF)

/-- The torque reference is handed over (R57, R58): the value before stays for a consumer that starts in this tick. -/
def State.publishT (s : State) (n : Nat) (T : Int) (b : Nat) : State :=
  ((s.wrI (AXL_TREF n) T).latNote n b).modLoop n fun l =>
    { l with tRefOld := l.tRef, tRef := T, tRefAt := s.tick, tRefB := b, tPrev := T, iRefOld := l.iRef, iRef := none, iRefAt := s.tick }

/-- A step of torque-off (R176): linear from the last value to 0 over 64 runs. -/
def State.torqueOffStep (s : State) (n : Nat) : State :=
  match (s.loop n).toff with
  | none => s
  | some (T0, k) =>
    let j := min 64 (k + 1)
    (s.modLoop n fun l => { l with toff := some (T0, j) }).publishT n (divOpen (T0 * (64 - j)) 64) (s.loop n).inpV.b

/-- Steps 3 to 10 of R180 on the measured velocity `vm` and the advance `dw`.  The inputs from the position law are the most
recent ones present before the tick in which the run started (R57, R179, R187); a network run (`same`) uses
its own.  Under a torque source the set-point takes the place of all terms of step 7 but the test signal, so the PI stage, the
feed-forwards and the friction, cogging and repetitive terms are left out; the filters and the limits follow: the spec says only that the
position law is bypassed (DESIGN CHOICE). -/
def State.velLaw (s : State) (n : Nat) (vm dw : Int) (same : Bool) : State :=
  let l0 := s.loop n
  let l := if same || l0.vcAt < s.time.runAt then l0 else
    { l0 with vc := l0.vcOld, aS := l0.aSOld, jS := l0.jSOld, tRep := l0.tRepOld, tq := l0.tqOld }
  let obs := s.aflag (AXL_LCFG n) AXL_LCFG_OBS
  let eps := sat32 (vm - l.vHat)
  let vHat := if obs then sat32 (l.vHat + s.term (AXL_OBJ n) (AXL_SH2 n) AXL_SH2_S4 (sat32 (l.tPrev - l.tL)) + s.term (AXL_OBL1 n) (AXL_SH2 n) AXL_SH2_S3 eps) else 0
  let tL := if obs then sat32 (l.tL - s.term (AXL_OBL2 n) (AXL_SH2 n) AXL_SH2_S2 eps) else 0
  let vfb := if s.aflag (AXL_LCFG n) AXL_LCFG_OBSVFB then vHat else vm
  let ev := sat32 (l.vc - vfb)
  let ki := s.term (AXL_KIV n) (AXL_SH1 n) AXL_SH1_S3 ev
  let imax := s.ardI (AXL_IMAXV n)
  let iV := if l.tq.isSome || (l.tlimSign ≠ 0 && sgn ki = l.tlimSign) then l.iV else clampI (-imax) imax (sat32 (l.iV + ki))
  let vth := s.ardI (AXL_VTH n)
  let ratio := if vth = 0 then sgn l.vc * 2 ^ 24 else clampI (-(2 ^ 24)) (2 ^ 24) (divConv (l.vc * 2 ^ 24) vth)
  let fric := if s.aflag (AXL_LCFG n) AXL_LCFG_FRIC then
      sat32 (shrConv (s.ardI (AXL_FC n) * ratio) 24 + s.term (AXL_KFV n) (AXL_SH2 n) AXL_SH2_S0 l.vc) else 0
  let (cog, s1) := s.cogging n
  let sum := s.term (AXL_KPV n) (AXL_SH1 n) AXL_SH1_S4 ev + iV + s.term (AXL_KAFF n) (AXL_SH1 n) AXL_SH1_S1 l.aS
    + s.term (AXL_KJFF n) (AXL_SH1 n) AXL_SH1_S0 l.jS + fric + (if obs then s.term (AXL_KOBS n) (AXL_SH2 n) AXL_SH2_S1 tL else 0)
    + cog + l.tRep
  let T0 := sat32 (l.tq.getD sum + s.injValue n 2)
  let bqen := s.aget (AXL_LCFG n) AXL_LCFG_BQEN
  let nten := s.aget (AXL_LCFG n) AXL_LCFG_NTEN
  let (y0, q0) := if nbit bqen 0 then s.biquad (AXL_BQ0B0 n) l.bq0 T0 else (T0, l.bq0)
  let (y1, q1) := if nbit bqen 1 then s.biquad (AXL_BQ1B0 n) l.bq1 y0 else (y0, l.bq1)
  let (z0, n0) := if nbit nten 0 && !l.ntOff0 then s.notch (AXL_NT0CFG n) (s.notchAngle n (AXL_NT0CFG n) dw) l.nt0 y1 else (y1, l.nt0)
  let (z1, n1) := if nbit nten 1 && !l.ntOff1 then s.notch (AXL_NT1CFG n) (s.notchAngle n (AXL_NT1CFG n) dw) l.nt1 z0 else (z0, l.nt1)
  let t := match l.hold with
    | some (h, _) => if n < 32 && s.flag (SFAX_AX n) SFAX_AX_BT then h else sat32 (z1 + s.injValue n 3)
    | none => sat32 (z1 + s.injValue n 3)
  let T := clampI (s.ardI (AXL_TLIMN n)) (s.ardI (AXL_TLIMP n)) t
  ((s1.putB (AXL_LSTAT n) AXL_LSTAT_TLIM (T ≠ t)).modLoop n fun x =>
    { x with vM := vm, vHat := vHat, tL := tL, iV := iV, tlimSign := if T = t then 0 else sgn t, bq0 := q0, bq1 := q1, nt0 := n0, nt1 := n1 }).publishT n T l.inpV.b

/-- Overspeed: |v_m| > VLIM + VLIM/8 in two consecutive velocity runs (R186). -/
def State.overspeed (s : State) (n : Nat) (vm : Int) : State :=
  let vlim := s.ardI (AXL_VLIM n)
  if 8 * vlim + vlim < 8 * absI vm then
    let s1 := s.modLoop n fun l => { l with ovRuns := l.ovRuns + 1 }
    if (s.loop n).ovRuns = 0 then s1
    else ((s1.setf (AXL_LSTAT n) AXL_LSTAT_OVERSPD).count (AXL_LCNT n) AXL_LCNT_OVERSPD).superviseStop n .overspeed (s.loop n).inpV.b
  else s.modLoop n fun l => { l with ovRuns := 0 }

/-- Fallback of the velocity law (R175): the difference starts afresh on the other port. -/
def State.velFallback (s : State) (n : Nat) : State :=
  let o := s.otherPort n (s.velPort n)
  if !(s.loop n).altV && s.fbValid n o && s.rdN (AXL_FB2K n) ≠ 0 then
    let b := (s.loop n).inpV.b
    let w := s.fbWord n o b
    let cor := s.fbCor o b
    (((s.setf (AXL_LSTAT n) AXL_LSTAT_FBALT).modLoop n fun l => { l with altV := true, wBefore := some w, corBefore := cor }).event .fbAlt n).startRamp n .fbAlt
  else s.fbLoss n

/-- The velocity law of a run, torque-off and the generator's step included (R176, R180). -/
def State.velBody (s : State) (n : Nat) (same : Bool) : State :=
  if (s.loop n).toff.isSome then s.torqueOffStep n
  else if !(s.loop n).inpV.velValid then (s.velFallback n).torqueOffStep n
  else
    let (vm, dw, s1) := s.measured n
    let s2 := s1.overspeed n vm
    if (s2.loop n).toff.isSome then s2.torqueOffStep n else (s2.velLaw n vm dw same).injStep n

/-- A velocity run of a local axis; it runs while the axis is enabled. -/
def State.velRun (s : State) (n : Nat) : State := if (s.loop n).enabled then s.velBody n false else s

/-- A run of a network axis: set-point, position law and velocity law in one (R188). -/
def State.netRun (s : State) (n : Nat) : State :=
  if (s.loop n).toff.isSome then s.torqueOffStep n
  else
    let b := (s.loop n).inp.b
    let s1 := s.setpoint n b
    if !(s1.loop n).enabled then s1
    else (if (s1.loop n).toff.isSome then s1 else s1.posBody n b).velBody n true

/-- A run of a virtual axis: its set-point is its actual position (R137), with the test signal of point 0; it raises no following
error (R26). -/
def State.virtRun (s : State) (n : Nat) : State :=
  let s1 := s.setpoint n (s.loop n).inp.b
  let v := s1.injValue n 0 * 65536
  ((s1.wr64I (AX_SPPOS n) (s1.rd64I (AX_SPPOS n) + v)).modMo n fun m => { m with sp := { m.sp with p := m.sp.p + v } }).injStep n

/-! ### APPLY (R195, R192) -/

/-- The words of the staged parameters, +0x100 to +0x1E7 but for AXn_LFB. -/
def loopWords (n : Nat) : List Nat := ((List.range 58).map fun i => AXL_LCFG n + 4 * i).filter fun a => a != AXL_LFB n

/-- APPLY captures the staged parameters; a later one replaces it. -/
def State.loopApply (s : State) (n : Nat) : State :=
  (s.setf (AXL_LSTAT n) AXL_LSTAT_APPLYPEND).modLoop n fun l => { l with cap := (loopWords n).map s.rd, capAt := some s.tick }

/-- The enabled tables of every axis but `n`: (first bin, bins). -/
def State.tablesOf (s : State) (n : Nat) : List (Nat × Nat) :=
  (idxWhere 64 (· != n)).flatMap fun m =>
    (if s.aflag (AXL_LCFG m) AXL_LCFG_COG && !(s.loop m).cogOff && m < 32 then
      [(s.aget (AXL_COG m) AXL_COG_BASE, 2 ^ s.aget (AXL_COG m) AXL_COG_SZ)] else []) ++
    (if s.aflag (AXL_RCFG m) AXL_RCFG_REN && !(s.loop m).repOff then
      [(s.aget (AXL_RCFG m) AXL_RCFG_BASE, 2 ^ s.aget (AXL_RCFG m) AXL_RCFG_SZ)] else [])
def overlaps (a b : Nat × Nat) : Bool := decide (a.1 < b.1 + b.2 ∧ b.1 < a.1 + a.2)
/-- Bins of the pool that lie in a table whose repetitive controller has REN set: a load into them is refused (R191). -/
def State.tableInUse (s : State) (first k : Nat) : Bool :=
  (List.range 64).any fun n =>
    s.aflag (AXL_RCFG n) AXL_RCFG_REN && overlaps (first, k) (s.aget (AXL_RCFG n) AXL_RCFG_BASE, 2 ^ s.aget (AXL_RCFG n) AXL_RCFG_SZ)
/-- The cogging and the repetitive table of an axis as its registers in effect enable them. -/
def State.cogTable (s : State) (n : Nat) : Option (Nat × Nat) :=
  if s.aflag (AXL_LCFG n) AXL_LCFG_COG && n < 32 then some (s.aget (AXL_COG n) AXL_COG_BASE, 2 ^ s.aget (AXL_COG n) AXL_COG_SZ) else none
def State.repTable (s : State) (n : Nat) : Option (Nat × Nat) :=
  if s.aflag (AXL_RCFG n) AXL_RCFG_REN then some (s.aget (AXL_RCFG n) AXL_RCFG_BASE, 2 ^ s.aget (AXL_RCFG n) AXL_RCFG_SZ) else none
/-- An enabled table that extends beyond bin 65 535 or overlaps one of `ts`. -/
def clashes (t : Option (Nat × Nat)) (ts : List (Nat × Nat)) : Bool :=
  match t with
  | some x => decide (65536 < x.1 + x.2) || ts.any (overlaps x)
  | none => false

/-- The tables of axis `n` that an APPLY leaves off (R192): cogging, repetitive; `o` is the state before the APPLY.  A table that was on
stays on against one that is newly enabled on its bins; where both are new the cogging table stays on (DESIGN CHOICE). -/
def State.tableClash (s o : State) (n : Nat) : Bool × Bool :=
  let others := s.tablesOf n
  let keepCog := (s.cogTable n).isSome && s.cogTable n == o.cogTable n && !(o.loop n).cogOff
  let keepRep := (s.repTable n).isSome && s.repTable n == o.repTable n && !(o.loop n).repOff
  if keepRep && !keepCog then (clashes (s.cogTable n) (others ++ (s.repTable n).toList), clashes (s.repTable n) others)
  else
    let cogBad := clashes (s.cogTable n) others
    (cogBad, clashes (s.repTable n) (others ++ if cogBad then [] else (s.cogTable n).toList))

/-- The captured set takes effect at a boundary at tick `t` that lies at least 16 ticks after the APPLY (R195): integrators are clamped to
new limits, a newly enabled biquad starts at 0, tables that do not fit or overlap stay off with TBL_CLASH (R192), an ORDER notch
without CPR with NOTCH_REF (R185), a controller without a period or reference with REP_REFINV (R189). -/
def State.loopApplyAt (s : State) (n t : Nat) : State :=
  match (s.loop n).capAt with
  | none => s
  | some t0 =>
    if t < t0 + 16 then s
    else
      let oldBq := s.aget (AXL_LCFG n) AXL_LCFG_BQEN
      let s1 := ((loopWords n).zip (s.loop n).cap).foldl (fun s p => s.awr p.1 p.2) s
      let newBq := s1.aget (AXL_LCFG n) AXL_LCFG_BQEN
      let (cogBad, repBad) := s1.tableClash s n
      let rport := if s1.aget (AXL_RCFG n) AXL_RCFG_REF = 2 then s1.aget (AXL_RCFG n) AXL_RCFG_RPORT else s1.posPort n
      let noRef := s1.aflag (AXL_RCFG n) AXL_RCFG_REN && (decide (s1.repPeriod n ≤ 0)
        || (s1.ard64I (AXL_RPER n) = 0 && s1.aget (AXL_RCFG n) AXL_RCFG_REF ≠ 1 && rport < 40 && !s1.flag (EP_STAT rport) EP_STAT_REFD))
      let s3 := if cogBad || repBad then s1.setf (AXL_LSTAT n) AXL_LSTAT_TBL_CLASH else s1
      let s4 := if noRef then s3.setf (AXL_LSTAT n) AXL_LSTAT_REP_REFINV else s3
      let noCpr := decide (40 ≤ s1.velPort n) || s1.rdN (EP_CPR (s1.velPort n)) == 0
      let nt := fun (i a : Nat) => nbit (s1.aget (AXL_LCFG n) AXL_LCFG_NTEN) i && nbit (s1.ardN a) 31 && noCpr
      let s5 := if nt 0 (AXL_NT0CFG n) || nt 1 (AXL_NT1CFG n) then s4.setf (AXL_LSTAT n) AXL_LSTAT_NOTCH_REF else s4
      let ip := s1.ardI (AXL_IMAXP n)
      let iv := s1.ardI (AXL_IMAXV n)
      ((s5.clrf (AXL_LSTAT n) AXL_LSTAT_APPLYPEND).modLoop n fun l =>
        { l with
          cap := [], capAt := none, cogOff := cogBad, repOff := repBad || noRef
          ntOff0 := nt 0 (AXL_NT0CFG n), ntOff1 := nt 1 (AXL_NT1CFG n)
          iP := clampI (-ip) ip l.iP, iV := clampI (-iv) iv l.iV
          bq0 := if nbit newBq 0 && !nbit oldBq 0 then {} else l.bq0
          bq1 := if nbit newBq 1 && !nbit oldBq 1 then {} else l.bq1 }).resolve .apply n .ok

end Sys2Proof.Machine
end

