-- ==== Sys2Proof/Machine/Latch.lean ====
section
/-! DEFINITION. Latch inputs (R146–R150) and register control (R160–R165). -/

namespace Sys2Proof.Machine

def State.latchN (s : State) (n : Nat) : Nat := s.get (LI_CFG n) LI_CFG_N

/-- The latch accepts the edge in its filter; EDGE selects whether it makes an entry. -/
def State.latchEdge (s : State) (n : Nat) : State :=
  let q := (s.latch n).pair
  match q.pend with
  | none => s
  | some st =>
    let s1 := (s.advanceTo (st / 32 + max (s.latchN n) 1)).modLatch n fun l => { l with pair := { l.pair with lvl := !l.pair.lvl, pend := none } }
    let e := s.get (LI_CFG n) LI_CFG_EDGE
    if s.flag (LI_CFG n) LI_CFG_EN && !s.flag (LI_CFG n) LI_CFG_ISEL && (if q.lvl then nbit e 1 else nbit e 0) then
      s1.modLatch n fun l => { l with open_ := l.open_ ++ [(st, !q.lvl)] }
    else s1

/-- A comparator of a latch land changes (R147): the receiver and the level filter are those of R69, R70 and R90; with SE set
the negative wire plays no part. With N = 0 a second transition in one tick is discarded and counted in GLITCH, and the
level the first one brought stands. -/
def State.latchWire (s : State) (n : Nat) (neg lvl : Bool) (at_ : Nat) : State :=
  let t32 := at_ / 4 * 4
  let s0 := s.advanceTo (t32 / 32)
  let s1 := if (s0.latch n).pair.settled (s0.latchN n) t32 then s0.latchEdge n else s0
  let q := (s1.latch n).pair
  let wp := if neg then q.p else lvl
  let wn := if neg then lvl else q.n
  let rx := if s1.flag (LI_CFG n) LI_CFG_SE then wp else if wp != wn then wp else q.rx
  let set := fun (s : State) (pend : Option Nat) =>
    s.modLatch n fun l => { l with pair := { l.pair with p := wp, n := wn, rx := rx, pend := pend } }
  if rx == q.rx then set s1 q.pend
  else if s1.latchN n = 0 && (s1.latch n).lastTick = some (t32 / 32) then (set s1 q.pend).count (LI_STAT n) LI_STAT_GLITCH
  else if q.pend.isSome || rx == q.lvl then set s1 none
  else (set s1 (some t32)).modLatch n fun l => { l with lastTick := some (t32 / 32) }

/-- A wire of an encoder port or of a latch input changes. -/
def State.wireTransition (s : State) (w : Wire) (neg lvl : Bool) (t32 : Nat) : State :=
  match w with
  | .port p i => s.pairTransition p i neg lvl t32
  | .latch n => s.latchWire n neg lvl t32

/-- The head of the FIFO in LIn_ESTAMP, EPOS and EFLAG, and LEVEL. -/
def State.latchRegs (s : State) (n : Nat) : State :=
  let l := s.latch n
  let s1 := s.put (LI_STAT n) LI_STAT_LEVEL l.fifo.length
  match l.fifo with
  | [] => ((s1.wr64N (LI_ESTAMP n) 0).wr64N (LI_EPOS n) 0).wrN (LI_EFLAG n) 0
  | e :: _ => ((s1.wr64N (LI_ESTAMP n) e.stamp).wr64I (LI_EPOS n) e.pos).wrN (LI_EFLAG n) (2 * b2n e.pinv + b2n e.rising)

/-- An entry enters the FIFO; on a full one OVFMODE says which entry goes, and OVF and OVFCNT tell (R150). -/
def State.latchPush (s : State) (n : Nat) (e : LatchEnt) : State :=
  let l := s.latch n
  if 16 ≤ l.fifo.length then
    let s1 := ((s.setf (LI_STAT n) LI_STAT_OVF).count (LI_STAT n) LI_STAT_OVFCNT).modLatch n fun l => { l with ovf := some (s.tick, e, s.rd (LI_STAT n)) }
    if s.flag (LI_CFG n) LI_CFG_OVFMODE then (s1.modLatch n fun l => { l with fifo := l.fifo.drop 1 ++ [e] }).latchRegs n else s1
  else (s.modLatch n fun l => { l with fifo := l.fifo ++ [e] }).latchRegs n

/-- POP.  In the tick in which an entry found the FIFO full the POP applies first: the entry is kept and no overflow counts (R150). -/
def State.latchPop (s : State) (n : Nat) : State :=
  match (s.latch n).ovf with
  | some (t, e, w) =>
    if t = s.tick then
      let s1 := (s.put (LI_STAT n) LI_STAT_OVFCNT (w.toNat / 2 ^ LI_STAT_OVFCNT.lo)).put (LI_STAT n) LI_STAT_OVF (w.toNat / 2 ^ LI_STAT_OVF.lo)
      (s1.modLatch n fun l => { l with ovf := none, fifo := if s.flag (LI_CFG n) LI_CFG_OVFMODE then l.fifo else l.fifo.drop 1 ++ [e] }).latchRegs n
    else (s.modLatch n fun l => { l with ovf := none, fifo := l.fifo.drop 1 }).latchRegs n
  | none => (s.modLatch n fun l => { l with fifo := l.fifo.drop 1 }).latchRegs n
def State.latchClr (s : State) (n : Nat) : State := (s.modLatch n fun l => { l with ovf := none, fifo := [] }).latchRegs n
def State.latchClrCnt (s : State) (n : Nat) : State := (s.put (LI_STAT n) LI_STAT_GLITCH 0).put (LI_STAT n) LI_STAT_OVFCNT 0

/-! ### Register control -/

def State.regKF (s : State) (k : Nat) : Int := min 65536 (s.get (RC_GAIN k) RC_GAIN_KF + 65536 * s.get (RC_GAINX k) RC_GAINX_KF16)
def State.regKP (s : State) (k : Nat) : Int := min 65536 (s.get (RC_GAIN k) RC_GAIN_KP + 65536 * s.get (RC_GAINX k) RC_GAINX_KP16)

/-- The target is written, clamped to ±LIMIT (R161 step 8); `from_` is the first tick whose run it reaches (R162, R166). -/
def State.regTarget (s : State) (k : Nat) (v : Int) (from_ : Nat) : State :=
  let lim := s.rd64I (RC_LIMIT k)
  let c := clampI (-lim) lim v
  let s1 := if c = v then s else s.setf (RC_STAT k) RC_STAT_LIM
  (s1.modRc k fun r =>
    { r with tgts := (from_, c) :: (r.tgts.filter fun x => decide (s.tick < x.1)) ++ (r.tgts.filter fun x => decide (x.1 ≤ s.tick)).take 1 }).wr64I (RC_TGT k) c

/-- The follower of a controller runs source 0x2, in its gear or in a Dusk ramp out of it (R160, R164). -/
def State.regGeared (s : State) (fax : Nat) : Bool :=
  s.get (AX_SRC fax) AX_SRC_SRC == 2 && (!(s.mo fax).off || s.flag (AX_STAT fax) AX_STAT_DUSK)
/-- NOGEAR and HOLD of RCk as the follower stands now. -/
def State.regFlags (s : State) (k : Nat) : State :=
  let fax := s.get (RC_CFG k) RC_CFG_FAX
  (s.putB (RC_STAT k) RC_STAT_NOGEAR (s.flag (RC_CFG k) RC_CFG_EN && !s.regGeared fax)).putB (RC_STAT k) RC_STAT_HOLD
    (s.flag (RC_CFG k) RC_CFG_EN && s.flag (AX_STAT fax) AX_STAT_DUSK)
/-- The repeat that holds a position of the latch source (R161 step 4). -/
def State.regRepeat (s : State) (k : Nat) (pos : Int) : Int :=
  (pos - s.rd64I (RC_EXPECT k) + s.rd64I (RC_REPEAT k) / 2) / s.rd64I (RC_REPEAT k)

/-- A complete latch entry reaches RCk, whose follower must run source 0x2 (R160, R161, R164). -/
def State.regMark (s00 : State) (k : Nat) (e : LatchEnt) : State :=
  let s := s00.regFlags k
  let fax := s.get (RC_CFG k) RC_CFG_FAX
  if !s.flag (RC_CFG k) RC_CFG_EN || !s.regGeared fax then s
  else if e.pinv then s.count (RC_CNT k) RC_CNT_BADMARK
  else
    let rep := s.rd64I (RC_REPEAT k)
    let em := centre (e.pos - s.rd64I (RC_EXPECT k)) rep
    let win := s.rd64I (RC_WIN k)
    let idx := s.regRepeat k e.pos
    if win ≠ 0 && decide (win < absI em) then s.count (RC_CNT k) RC_CNT_NOWIN
    else if (s.rc k).reps.contains idx then s.count (RC_CNT k) RC_CNT_DOUBLE
    else
      let er := divConv (em * s.rdI (AX_GEARN fax)) (max 1 (s.rdN (AX_GEARD fax) : Int))
      let s1 := (((s.wr64I (RC_ERR k) er).setf (RC_STAT k) RC_STAT_ACTIVEMARK).clrf (RC_STAT k) RC_STAT_MISS).modRc k fun r =>
        { r with reps := (idx :: r.reps).take 64 }
      if nbit (s.rdN SYS_HAMODE) 3 || s.flag (AX_STAT fax) AX_STAT_DUSK then s1
      else
        let eF := (s.rc k).eF + shrConv (s.regKF k * (er - (s.rc k).eF)) 16
        let s2 := s1.modRc k fun r => { r with eF := eF }
        if absI eF ≤ s.rd64I (RC_DB k) then s2
        else s2.regTarget k (s.rd64I (RC_TGT k) - shrConv (s.regKP k * eF) 16) (s.tick + 16 + 33)

/-- The missing-mark check at a position run of the follower (R163); it rests while the follower runs another source (R160) or
the line shaft has no state yet.  The repeats that have passed are those from the one of the run before up to the present one. -/
def State.regMiss (s : State) (k b : Nat) : State :=
  let ls := s.get (LI_CFG k) LI_CFG_SRC
  if !s.flag (RC_CFG k) RC_CFG_EN then s
  else if !s.regGeared (s.get (RC_CFG k) RC_CFG_FAX) || (0x80 ≤ ls && ls < 0x90 && !s.flag (LS_STAT (ls - 0x80)) LS_STAT_VALID) then
    s.modRc k fun r => { r with seenRep := none, missRun := 0, reps := [] }
  else
    let idx := s.regRepeat k (s.sourcePos ls b (b / 32))
    match (s.rc k).seenRep with
    | none => s.modRc k fun r => { r with seenRep := some idx }
    | some o =>
      if idx ≤ o then s
      else
        let lim := s.get (RC_MISS k) RC_MISS_MISSLIM
        let hits := (s.rc k).reps.filter fun r => decide (o ≤ r) && decide (r < idx)
        let missed := (idx - o).toNat - hits.length
        let n := match hits.foldl (fun m r => some (max r (m.getD r))) (none : Option Int) with
          | some r => (idx - 1 - r).toNat
          | none => (s.rc k).missRun + (idx - o).toNat
        let s1 := (s.modRc k fun r => { r with seenRep := some idx, missRun := n, reps := r.reps.filter fun r => decide (idx ≤ r + 2) }).put
          (RC_CNT k) RC_CNT_MISSED (min 255 (s.get (RC_CNT k) RC_CNT_MISSED + missed))
        if lim ≠ 0 && lim ≤ n && !s1.flag (RC_STAT k) RC_STAT_MISS then (s1.setf (RC_STAT k) RC_STAT_MISS).event .regMiss k else s1

/-- The missing-mark checks of every controller that an axis follows. -/
def State.regMissOf (s : State) (n b : Nat) : State :=
  s.forEach (List.range 32) fun s k => if s.get (RC_CFG k) RC_CFG_FAX = n then s.regMiss k b else s

/-- The oldest open entry completes max(N) + 6 ticks after its edge (R149). -/
def State.latchComplete (s : State) (n : Nat) : State :=
  match (s.latch n).open_ with
  | [] => s
  | (st, rising) :: rest =>
    let src := s.get (LI_CFG n) LI_CFG_SRC
    let port := if 0x50 ≤ src && src < 0x78 then src - 0x50 else if src < 0x40 then s.get (AXL_LFB src) AXL_LFB_FB1 else 64
    let nl := if s.flag (LI_CFG n) LI_CFG_ISEL then s.portN (s.get (LI_CFG n) LI_CFG_IDXP) else s.latchN n
    let ns := if port < 40 then s.portN port else 0
    let t := st / 32 + max nl ns + 6
    let s1 := (s.advanceTo t).modLatch n fun l => { l with open_ := rest }
    let e : LatchEnt :=
      { stamp := st / 4, rising := rising, pos := if src = 0xFF then 0 else s1.sourcePos src (st / 4 * 4) t
        pinv := decide (port < 40) && (!s1.portValid port || s1.faultDue port t) }
    (s1.latchPush n e).regMark n e

/-- CLRTGT sets the register target to 0, and the channel moves back at RATE, of a disabled controller too (R165).  It acts where
RCk_CFG is writable (R168). -/
def State.regClrTgt (s : State) (k : Nat) : State :=
  if s.inMorning || (s.inNoon && !s.flag (RC_CFG k) RC_CFG_EN) then (s.regTarget k 0 (s.tick + 32)).modRc k fun r => { r with clearing := true } else s

end Sys2Proof.Machine
end

