-- ==== Sys2Proof/Machine/Grid.lean ====
section
/-! DEFINITION. The boundary grid (R45–R51, R643): where the next boundary of the frame and of an axis falls. -/

namespace Sys2Proof.Machine

/-- One tick of nominal module time, 2.5 ns, in 2^−32 ns; a frame in the same unit. -/
def tickMt : Nat := 10737418240
def State.frameMt (s : State) : Nat := s.frameLen * tickMt

/-- The finest period of an axis in ticks and how many of them a frame holds (R49, R643). -/
def State.cells (s : State) (n : Nat) : Nat × Nat :=
  let g := s.grid n
  if n < 32 && s.gridOk n then (s.perCur n, g.a * g.b * g.c)
  else if 64 ≤ n && s.gridOk n then (s.perPos n, g.a)
  else (s.frameLen, 1)
/-- Finest periods per velocity and per position cycle. -/
def State.velCells (s : State) (n : Nat) : Nat := if n < 32 && s.gridOk n then (s.grid n).c else 1
def State.posCells (s : State) (n : Nat) : Nat := if n < 32 && s.gridOk n then (s.grid n).b * (s.grid n).c else 1
/-- The shift of R51. -/
def State.phaseOf (s : State) (n : Nat) : Nat := if n < 32 then (s.grid n).phase else 0

/-- The correction of R47: towards the ideal instant, by at most 1/32 tick for each full 250 ticks of `p`; and SLIP. -/
def correct (nominal ideal p : Nat) : Nat × Bool :=
  let err : Int := (ideal : Int) - nominal
  let lim : Int := (p / 250 : Nat)
  (((nominal : Int) + clampI (-lim) lim err).toNat, decide (lim < absI err))

/-- The next boundary of an axis whose index is a multiple of `m`: frame, index, instant (1/32 ticks), and whether it needed
more than the allowance.  A grid left behind by the present tick is taken up at its first boundary to come.  PHASE is counted in nominal ticks of 2.5 ns of module
time, so the shifted boundary is an instant of module time as an unshifted one is; the rule does not say whether it counts them so or in TCLK from the unshifted
boundary (R51, DESIGN CHOICE). -/
def State.nextBoundary (s : State) (n m : Nat) : Nat × Nat × Nat × Bool :=
  let g := s.grid n
  let (p, K) := s.cells n
  let m := max 1 m
  let at_ := fun fr k => s.instantOf ((fr * K + k) * p * tickMt + s.phaseOf n * tickMt)
  let k1 := (g.k / m + 1) * m
  let (fr, k) := if k1 < K then (g.fr, k1) else (if g.fr = s.time.frameNum then s.time.frameNext else g.fr + 1, 0)
  let steps := if k1 < K then k1 - g.k else K - g.k
  let (t, slip) := correct (g.last + 32 * p * steps) (at_ fr k) (p * steps)
  if s.now ≤ t + 31 then (fr, k, t, slip)
  else
    let u := p * m * tickMt
    let q := (s.time.mt - s.phaseOf n * tickMt + u - 1) / max 1 u * m
    (q / max 1 K, q % max 1 K, at_ (q / max 1 K) (q % max 1 K), false)

/-- The next boundary of an axis is the present frame boundary, shifted by PHASE. -/
def State.gridRestart (s : State) (n : Nat) : State :=
  let (p, K) := s.cells n
  s.modGrid n fun g => { g with k := K - 1, fr := s.time.frameNum - 1, last := s.time.frameStart + 32 * s.phaseOf n - 32 * p }
/-- The axis takes up the fields of AXn_TB and AXn_PHASE at the present frame (R50, R51). -/
def State.gridAdopt (s : State) (n : Nat) : State :=
  (s.modGrid n fun g =>
    { g with
      a := s.get (AX_TB n) AX_TB_A, b := s.get (AX_TB n) AX_TB_B, c := s.get (AX_TB n) AX_TB_C
      phase := if n < 32 then s.get (AX_PHASE n) AX_PHASE_PHASE else 0 }).gridRestart n
/-- The fields in effect differ from those written. -/
def State.gridStale (s : State) (n : Nat) : Bool :=
  let g := s.grid n
  g.a != s.get (AX_TB n) AX_TB_A || g.b != s.get (AX_TB n) AX_TB_B || g.c != s.get (AX_TB n) AX_TB_C
    || (decide (n < 32) && g.phase != s.get (AX_PHASE n) AX_PHASE_PHASE)

end Sys2Proof.Machine
end

