-- ==== Sys2Proof/Machine/Pwm.lean ====
section
/-! DEFINITION. PWM generation and trip inputs (R236–R269): spans and edges, gates and dead times, commits, blanking
windows, cuts and clears.  Group 0–31 is an axis, 32–39 an auxiliary leg. -/

namespace Sys2Proof.Machine

def State.pwm (s : State) (g : Nat) : PwmSt := vget s.pwms g {}
def State.modPwm (s : State) (g : Nat) (f : PwmSt → PwmSt) : State := { s with pwms := vmod s.pwms g f }
def State.trip (s : State) (i : Nat) : TripSt := vget s.trips i {}
def State.modTrip (s : State) (i : Nat) (f : TripSt → TripSt) : State := { s with trips := vmod s.trips i f }
def State.atc (s : State) (k : Nat) : AtcSt := vget s.atcs k {}
def State.modAtc (s : State) (k : Nat) (f : AtcSt → AtcSt) : State := { s with atcs := vmod s.atcs k f }
def PwmSt.leg (q : PwmSt) (i : Nat) : LegSt := vget q.legs i {}
def State.leg (s : State) (g i : Nat) : LegSt := (s.pwm g).leg i
def State.modLeg (s : State) (g i : Nat) (f : LegSt → LegSt) : State := s.modPwm g fun q => { q with legs := vmod q.legs i f }

/-! ### Which registers belong to a group -/

/-- The auxiliary leg that is the fourth leg of axis `n` (R252). -/
def State.fourth (s : State) (n : Nat) : Option Nat :=
  (List.range 8).find? fun j => s.flag (PWMX_CFG j) PWMX_CFG_ROLE && s.get (PWMX_CFG j) PWMX_CFG_AXIS == n
/-- A standalone auxiliary leg. -/
def State.standalone (s : State) (j : Nat) : Bool := !s.flag (PWMX_CFG j) PWMX_CFG_ROLE
/-- The legs of a group. -/
def State.legsOf (s : State) (g : Nat) : List Nat :=
  if g < 32 then (if (s.fourth g).isSome then [0, 1, 2, 3] else [0, 1, 2])
  else if s.standalone (g - 32) then [0] else []
/-- The compare and dead-time registers of a leg. -/
def State.cmpReg (s : State) (g i : Nat) : Nat :=
  if 32 ≤ g then PWMX_CMP (g - 32)
  else match i with
    | 0 => PWM_CMPU g | 1 => PWM_CMPV g | 2 => PWM_CMPW g | _ => PWMX_CMP ((s.fourth g).getD 0)
def State.dtReg (s : State) (g i : Nat) : Nat :=
  if 32 ≤ g then PWMX_DT (g - 32)
  else match i with
    | 0 => PWM_DTU g | 1 => PWM_DTV g | 2 => PWM_DTW g | _ => PWMX_DT ((s.fourth g).getD 0)
def perReg (g : Nat) : Nat := if g < 32 then PWM_PER g else PWMX_PER (g - 32)
def modeReg (g : Nat) : Nat := if g < 32 then PWM_MODE g else PWMX_MODE (g - 32)
/-- The status register of a leg: that of the auxiliary leg for a fourth leg.  Its flag bits lie alike. -/
def State.statReg (s : State) (g i : Nat) : Nat :=
  if 32 ≤ g then PWMX_STAT (g - 32) else if i = 3 then PWMX_STAT ((s.fourth g).getD 0) else PWM_STAT g
def statOf (g : Nat) : Nat := if g < 32 then PWM_STAT g else PWMX_STAT (g - 32)
/-- Dead times in effect in 1/32 ticks: before the high side, before the low side. -/
def State.dtr (s : State) (g i : Nat) : Nat := 32 * (s.ardN (s.dtReg g i) % 1024)
def State.dtf (s : State) (g i : Nat) : Nat := 32 * (s.ardN (s.dtReg g i) / 65536 % 1024)
/-- TOFF of a group. -/
def State.toff (s : State) (g : Nat) : Bool :=
  if g < 32 then s.flag (PWM_TRIP g) PWM_TRIP_TOFF else s.flag (PWMX_CFG (g - 32)) PWMX_CFG_TOFF
def State.doubleUpd (s : State) (g : Nat) : Bool := g < 32 && s.flag (SLOT_CFG g) SLOT_CFG_UPD
/-- The period of R239 in ticks: of an axis group, or of a standalone leg with SYNC = 1. -/
def State.gridPer (s : State) (g : Nat) : Nat :=
  if g < 32 then (s.cells g).1 * (if s.doubleUpd g then 2 else 1) else (s.cells (s.get (PWMX_CFG (g - 32)) PWMX_CFG_AXIS)).1
/-- A free-running standalone leg. -/
def State.freeRun (s : State) (g : Nat) : Bool := 32 ≤ g && s.standalone (g - 32) && !s.flag (PWMX_CFG (g - 32)) PWMX_CFG_SYNC
def State.stopped (s : State) (g : Nat) : Bool := s.flag (statOf g) PWM_STAT_STOPPED

/-! ### Gates (R237, R244, R245) -/

/-- A side goes off, or on, at an instant. -/
def LegSt.offAt (g : LegSt) (hi : Bool) (t : Nat) : LegSt :=
  if hi then (if g.h then { g with h := false, offH := t } else g) else if g.l then { g with l := false, offL := t } else g
def LegSt.allOff (g : LegSt) (t : Nat) : LegSt := { (g.offAt true t).offAt false t with due := none }
/-- The next event of a leg: its instant; a turn-on that is due comes before an edge of the same instant only if it
lies earlier (R245). -/
def LegSt.next (g : LegSt) : Option (Nat × Bool) :=
  match g.due, g.edges with
  | none, [] => none
  | some (t, _), [] => some (t, true)
  | none, (x, _) :: _ => some (x, false)
  | some (t, _), (x, _) :: _ => if t < x then some (t, true) else some (x, false)

/-- The next event of leg `i`, an ideal edge or a delayed turn-on (R244, R245). -/
def State.legEvent (s : State) (g i : Nat) : State :=
  let q := s.pwm g
  let l := q.leg i
  match l.next with
  | none => s
  | some (_, true) =>
    s.modLeg g i fun l => match l.due with
      | some (_, true) => { l with h := true, due := none }
      | _ => { l with l := true, due := none }
  | some (x, false) =>
    let on := (l.edges.head?.map (·.2)).getD false
    let drop := q.drv && l.due.isSome && !q.cut
    let s1 := s.modLeg g i fun l => { l with edges := l.edges.drop 1, ideal := on }
    if !q.drv || q.cut then s1
    else
      let s2 := if drop then s1.setf (s.statReg g i) PWM_STAT_DTSUP else s1
      s2.modLeg g i fun l =>
        let l1 := l.offAt (!on) x
        { l1 with due := some (x + (if on then s.dtr g i else s.dtf g i), on) }

/-- The events of leg `i` that fall at or before `t`; `k` bounds them. -/
def State.legTo (g i t : Nat) : Nat → State → State
  | 0, s => s
  | k + 1, s =>
    match (s.leg g i).next with
    | some (x, _) => if x ≤ t then State.legTo g i t k (s.legEvent g i) else s
    | none => s
/-- Every leg of a group comes up to instant `t`. -/
def State.pwmTo (s : State) (g t : Nat) : State := s.forEach [0, 1, 2, 3] fun s i => State.legTo g i t 12 s

/-- The legs follow their ideal level from `t`: a side turns on no earlier than its dead time after the other went off. -/
def State.pwmFollow (s : State) (g t : Nat) : State :=
  s.forEach (s.legsOf g) fun s i =>
    s.modLeg g i fun l =>
      if l.ideal then
        let l1 := l.offAt false t
        if l1.h then { l1 with due := none } else { l1 with due := some (max t (l1.offL + s.dtr g i), true) }
      else
        let l1 := l.offAt true t
        if l1.l then { l1 with due := none } else { l1 with due := some (max t (l1.offH + s.dtf g i), false) }

/-- Gates of a group that R238 lets drive. -/
def State.mayDrive (s : State) (g : Nat) : Bool :=
  s.running && !s.stopped g &&
    (if g < 32 then s.flag (SLOT_STAT g) SLOT_STAT_RUN
     else s.standalone (g - 32) && s.flag (PWMX_CFG (g - 32)) PWMX_CFG_EN)
/-- The gates of a group are driven, or go to idle, as R238 says, at instant `t`. -/
def State.pwmDrive (s : State) (g t : Nat) : State :=
  let d := s.mayDrive g
  if d == (s.pwm g).drv then s
  else if d then
    let s1 := (s.pwmTo g t).modPwm g fun q => { q with drv := true }
    if (s.pwm g).cut then s1 else s1.pwmFollow g t
  else
    let s1 := s.pwmTo g t
    s1.modPwm g fun q => { q with drv := false, legs := q.legs.map fun l => l.allOff t }

/-! ### Cuts (R254–R263) -/

/-- The legs go to their off-state at `t` (R261, R262).  The instant within the 4 ticks that R255 allows is open. -/
def State.pwmCut (s : State) (g t : Nat) : State :=
  let q := s.pwm g
  if q.cut then s
  else
    let s0 := s.pwmTo g t
    let u := t + (Config.cutDelay s0.freeCount).val
    let low := s0.toff g
    let drv := (s0.pwm g).drv
    let supp := drv && ((s0.legsOf g).any fun i => match (s0.leg g i).due with
      | some (_, hi) => hi || !low
      | none => false)
    let s1 := { s0 with freeCount := s0.freeCount + 1 }
    let s2 := if supp then s1.setf (statOf g) PWM_STAT_TDT else s1
    let s3 := (s2.setf (statOf g) PWM_STAT_CUT).modPwm g fun q => { q with cut := true, cuts := t :: q.cuts.take 15 }
    if !drv then s3
    else s3.forEach (s3.legsOf g) fun s i =>
      s.modLeg g i fun l =>
        if low then
          let l1 := l.offAt true u
          match l.due with
          | some (x, false) => { l1 with due := some (x, false) }
          | _ => if l1.l then { l1 with due := none } else { l1 with due := some (max u (l1.offH + s.dtf g i), false) }
        else l.allOff u

/-- The groups a trip source acts on: 0–31 TRIPn, 32–35 GTRIPk (R253, R254). -/
def State.actsOn (s : State) (i : Nat) : List Nat :=
  if i < 32 then
    i :: (idxWhere 8 fun j => s.standalone j && s.flag (PWMX_CFG j) PWMX_CFG_TSEL && s.get (PWMX_CFG j) PWMX_CFG_AXIS == i).map (· + 32)
  else
    let k := i - 32
    (idxWhere 32 fun n => nbit (s.rdN (GTRIP_AXMASK k)) n) ++
      (idxWhere 8 fun j => nbit (s.rdN (GTRIP_XMASK k)) j && s.standalone j).map (· + 32)
/-- Fields of a trip source. -/
def State.tripEn (s : State) (i : Nat) : Bool := if i < 32 then s.flag (PWM_TRIP i) PWM_TRIP_TEN else s.flag (GTRIP_CFG (i - 32)) GTRIP_CFG_EN
def State.tripLatched (s : State) (i : Nat) : Bool := if i < 32 then s.flag (PWM_TRIP i) PWM_TRIP_TMODE else s.flag (GTRIP_CFG (i - 32)) GTRIP_CFG_TMODE
def State.tripPol (s : State) (i : Nat) : Bool := if i < 32 then s.flag (PWM_TRIP i) PWM_TRIP_TPOL else s.flag (GTRIP_CFG (i - 32)) GTRIP_CFG_TPOL
def State.tripFilt (s : State) (i : Nat) : Nat := if i < 32 then s.get (PWM_TRIP i) PWM_TRIP_TFILT else s.get (GTRIP_CFG (i - 32)) GTRIP_CFG_TFILT
def State.tripBlk (s : State) (i : Nat) : Nat := if i < 32 then s.get (PWM_TRIP i) PWM_TRIP_BLKSEL else s.get (GTRIP_CFG (i - 32)) GTRIP_CFG_BLKSEL
/-- The latch of a source. -/
def State.tripHeld (s : State) (i : Nat) : Bool := if i < 32 then s.flag (PWM_STAT i) PWM_STAT_LCAUSE else s.flag (GTRIP_STAT (i - 32)) GTRIP_STAT_LATCHED
/-- The filtered level. -/
def State.tripIn (s : State) (i : Nat) : Bool := if i < 32 then s.flag (PWM_STAT i) PWM_STAT_TIN else s.flag (GTRIP_STAT (i - 32)) GTRIP_STAT_TIN
def State.setTripIn (s : State) (i : Nat) (b : Bool) : State :=
  if i < 32 then s.putB (PWM_STAT i) PWM_STAT_TIN b else s.putB (GTRIP_STAT (i - 32)) GTRIP_STAT_TIN b
/-- A window of ATCk covers the present tick (R257). -/
def State.atcCovers (s : State) (k : Nat) : Bool :=
  (match (s.atc k).closeAt with
    | some b => decide (s.tick < b)
    | none => false) || (s.atc k).wins.any fun w => decide (w.1 ≤ s.tick ∧ s.tick < w.2)
/-- A source is masked: the window of its ATC is open (R258). -/
def State.blanked (s : State) (i : Nat) : Bool := s.tripBlk i < 16 && s.atcCovers (s.tripBlk i)

/-- The stamp coding of PWMn_TSTAMP: TB_TICK bits [28:0] and eighths, of an instant in 1/32 ticks. -/
def stampOf (t32 : Nat) : Nat := (t32 / 4) % 2 ^ 32

/-- GCAUSE bit k of an axis. -/
def State.setGcause (s : State) (n k : Nat) (b : Bool) : State :=
  s.put (PWM_STAT n) PWM_STAT_GCAUSE (nsetBit (s.get (PWM_STAT n) PWM_STAT_GCAUSE) k b)

/-- A source holds a group. -/
def State.holds (s : State) (i g : Nat) : Bool := (s.actsOn i).contains g && (s.tripHeld i || (s.pwm g).cbc.contains i)
/-- Any source holds a group: trip lands, overcurrent and stream-loss latches. -/
def State.anyHold (s : State) (g : Nat) : Bool :=
  (List.range 36).any (fun i => s.holds i g) ||
    (decide (g < 32) && (s.flag (PWM_STAT g) PWM_STAT_OCAUSE || s.flag (PWM_STAT g) PWM_STAT_SCAUSE)) || (s.pwm g).parBad

/-- A detection on axis `n` is flagged, counted and stamped (R255). -/
def State.tripFlag (s : State) (n t : Nat) : State :=
  ((s.setf (PWM_STAT n) PWM_STAT_TRIPPED).count (PWM_CNT n) PWM_CNT_TRIPS).wrN (PWM_TSTAMP n) (stampOf t)

/-- Detection by a trip land at instant `t` (R255, R256, R263). -/
def State.tripDetect (s : State) (i t : Nat) : State :=
  let held := s.tripHeld i || (s.actsOn i).any (fun g => (s.pwm g).cbc.contains i)
  let again := !s.tripLatched i && (s.actsOn i).any (fun g => (s.pwm g).cutPrev)
  let s0 := s.modTrip i fun x => { x with det := true, detAt := some (t / 32) }
  let s1 :=
    if i < 32 then
      let a := s0.tripFlag i t
      if s0.tripLatched i then a.setf (PWM_STAT i) PWM_STAT_LCAUSE else a
    else
      let k := i - 32
      let a := ((s0.setf (GTRIP_STAT k) GTRIP_STAT_TRIPPED).count (GTRIP_STAT k) GTRIP_STAT_TRIPS).wrN (GTRIP_TSTAMP k) (stampOf t)
      if s0.tripLatched i then a.setf (GTRIP_STAT k) GTRIP_STAT_LATCHED else a
  let s2 := s1.forEach (s1.actsOn i) fun s g =>
    let a := s.pwmCut g t
    let b := if s.tripLatched i then a else a.modPwm g fun q => { q with cbc := i :: q.cbc.filter (· != i) }
    let c := if 32 ≤ g then b.setf (statOf g) PWM_STAT_TRIPPED else b
    if 32 ≤ i && g < 32 then c.setGcause g (i - 32) true else c
  if held || again then s2 else (s2.event .trip i (b2n (s.tripLatched i))).group 2

/-- A latched trip of axis `n` by overcurrent (R207) or stream loss (R209); a window cut by a stream loss is not among those
that R213 marks. -/
def State.tripCause (s : State) (n : Nat) (f : Fld) (k : EventKind) : State :=
  let held := s.flag (PWM_STAT n) f
  let s0 := ((s.tripFlag n s.now).setf (PWM_STAT n) f).pwmCut n s.now
  let s1 := if f = PWM_STAT_SCAUSE then s0.modPwm n fun q => { q with cuts := (s.pwm n).cuts } else s0
  if held then s1 else (s1.event k n).group 2

/-- A land active and watched, past its filter: detected unless masked (R255, R258). -/
def State.tripCheck (s : State) (i t : Nat) : State :=
  if s.tripIn i && !(s.trip i).det && !s.blanked i then s.tripDetect i t else s

/-- The land is active at `t`, watched since: with TFILT = 0 the level passes at once. -/
def State.tripActive (s : State) (i t : Nat) : State :=
  let s1 := s.modTrip i fun x => { x with since := some t, det := false }
  if s1.tripFilt i = 0 then (s1.setTripIn i true).tripCheck i t else s1

/-- The module starts to watch a land: at reset release, when TEN or EN is set, and when TPOL changes (R255). -/
def State.tripWatch (s : State) (i t : Nat) : State :=
  if s.tripEn i && (s.trip i).level == s.tripPol i then s.tripActive i t
  else (s.setTripIn i false).modTrip i fun x => { x with since := none, det := false }

/-- A trip land changes at instant `t32`. The filter samples at tick starts, so a return that no tick start finds is not seen
(R255). -/
def State.tripLand (s : State) (i : Nat) (lvl : Bool) (t32 : Nat) : State :=
  let s0 := s.advanceTo (t32 / 32)
  let x0 := s0.trip i
  let s1 := s0.modTrip i fun x => { x with level := lvl, gap := none }
  if !s1.tripEn i || lvl == x0.level then s1
  else if lvl == s1.tripPol i then
    match x0.gap with
    | some (a, b, d, f) =>
      if s1.tripFilt i ≠ 0 && decide (t32 ≤ (b + 31) / 32 * 32) then
        (s1.setTripIn i f).modTrip i fun x => { x with since := some a, det := d }
      else s1.tripActive i t32
    | none => s1.tripActive i t32
  else
    (s1.setTripIn i false).modTrip i fun x =>
      { x with since := none, det := false, gap := x0.since.map fun a => (a, t32, x0.det, s1.tripIn i) }

/-- The tick in which the filter of an active land reaches TFILT (R255): the first counted tick is the first whose start
finds the land active. -/
def State.tripTick (s : State) (i : Nat) : Option Nat := (s.trip i).since.map fun t => (t + 31) / 32 + (s.tripFilt i - 1)
/-- The filter of an active land reaches TFILT, and the source is detected. -/
def State.tripFiltered (s : State) (i : Nat) : State :=
  match s.tripTick i with
  | none => s
  | some t =>
    let s1 := s.advanceTo t
    (if t ≤ s1.tick then s1.setTripIn i true else s1).tripCheck i s1.now

/-- A filter that has reached TFILT by the present tick has passed its level on. -/
def State.tripSettle (s : State) (i : Nat) : State :=
  match s.tripTick i with
  | some t => if t ≤ s.tick && !s.tripIn i && s.tripFilt i ≠ 0 then (s.setTripIn i true).tripCheck i s.now else s
  | none => s

/-! ### Blanking windows (R257, R258) -/

/-- The windows that an edge at `x` (1/32 ticks) opens: opening and closing tick. -/
def State.atcWindow (s : State) (k x : Nat) : Nat × Nat :=
  let start := s.agetI (ATC_WIN k) ATC_WIN_START
  let len := s.aget (ATC_WIN k) ATC_WIN_LEN
  let a : Nat := ((x : Int) + 32 * start).toNat
  (a / 32, (a + 32 * len + 31) / 32)
/-- ATCk names an edge of leg `i` of group `g`. -/
def State.atcTakes (s : State) (k g i : Nat) (on : Bool) : Bool :=
  s.aflag (ATC_CFG k) ATC_CFG_EN && s.aget (ATC_CFG k) ATC_CFG_SRC == g && decide (i < 3) && nbit (s.aget (ATC_CFG k) ATC_CFG_LEGS) i
    && nbit (s.aget (ATC_CFG k) ATC_CFG_EDGES) (if on then 0 else 1) && s.aget (ATC_WIN k) ATC_WIN_LEN != 0
/-- Insert a window, merging what overlaps; windows are kept in order of opening. -/
def addWindow (w : Nat × Nat) : List (Nat × Nat) → List (Nat × Nat)
  | [] => [w]
  | v :: vs =>
    if w.2 < v.1 then w :: v :: vs
    else if v.2 < w.1 then v :: addWindow w vs
    else addWindow (min v.1 w.1, max v.2 w.2) vs
/-- Windows that begin by the end of the open one are part of it (R257). -/
def mergeOpen (b : Nat) : List (Nat × Nat) → Nat × List (Nat × Nat)
  | [] => (b, [])
  | w :: ws => if w.1 ≤ b then mergeOpen (max b w.2) ws else (b, w :: ws)
def AtcSt.merge (a : AtcSt) : AtcSt :=
  match a.closeAt with
  | some b => { a with closeAt := some (mergeOpen b a.wins).1, wins := (mergeOpen b a.wins).2 }
  | none => a
/-- The windows of the edges of a span (R257). -/
def State.atcSpan (s : State) (g : Nat) : State :=
  s.forEach (List.range 16) fun s k =>
    s.forEach (s.legsOf g) fun s i =>
      (s.leg g i).edges.foldl (fun s e =>
        if s.atcTakes k g i e.2 then s.modAtc k fun a => AtcSt.merge { a with wins := addWindow (s.atcWindow k e.1) a.wins } else s) s

/-- BLANK of the groups whose trip source an ATC masks. -/
def State.blankStat (s : State) : State :=
  let s1 := s.forEach (List.range 32) fun s n => s.putB (PWM_STAT n) PWM_STAT_BLANK (s.blanked n)
  s1.forEach (List.range 8) fun s j =>
    s.putB (PWMX_STAT j) PWMX_STAT_BLANK (s.flag (PWMX_CFG j) PWMX_CFG_TSEL && s.blanked (s.get (PWMX_CFG j) PWMX_CFG_AXIS))

/-- The next window of ATCk opens. -/
def State.atcOpen (s : State) (k : Nat) : State :=
  match (s.atc k).wins with
  | [] => s
  | (a, b) :: rest =>
    if (s.atc k).closeAt.isSome then s
    else
      let s1 := (s.advanceTo a).modAtc k fun x => { x with wins := rest, closeAt := some b }
      ((s1.setf (ATC_STAT k) ATC_STAT_OPEN).count (ATC_STAT k) ATC_STAT_WINS).blankStat
/-- The open window of ATCk closes; a source still active past its filter is detected in that tick. -/
def State.atcClose (s : State) (k : Nat) : State :=
  match (s.atc k).closeAt with
  | none => s
  | some b =>
    let s1 := (((s.advanceTo b).modAtc k fun x => { x with closeAt := none }).clrf (ATC_STAT k) ATC_STAT_OPEN).blankStat
    s1.forEach (List.range 36) fun s i => if s.tripBlk i = k then (s.tripSettle i).tripCheck i s.now else s
/-- Written settings of ATCk take effect (R257). -/
def State.atcAdopt (s : State) (k : Nat) : State :=
  if s.rd (ATC_CFG k) == s.ard (ATC_CFG k) && s.rd (ATC_WIN k) == s.ard (ATC_WIN k) then s
  else ((s.commit (ATC_CFG k)).commit (ATC_WIN k)).modAtc k fun a => { a with wins := [] }
/-- At a period start of group `g` the channels whose written SRC names it take their settings. -/
def State.atcSettings (s : State) (g : Nat) : State :=
  s.forEach (List.range 16) fun s k => if s.get (ATC_CFG k) ATC_CFG_SRC = g then s.atcAdopt k else s

/-! ### Spans (R239–R243, R247) -/

/-- The minimum-pulse rule (R247) on `C` with span `S`: the value, dropped, stretched. -/
def minPulse (C S m : Nat) (stretch : Bool) : Nat × Bool × Bool :=
  if C = 0 || S ≤ C || m = 0 then (C, false, false)
  else if S < 2 * m then
    if C < m || S - C < m then (if C ≤ S - C then (0, true, false) else (S, true, false)) else (C, false, false)
  else if C < m then (if stretch then (m, false, true) else (0, true, false))
  else if S - C < m then (if stretch then (S - m, false, true) else (S, true, false))
  else (C, false, false)
/-- m of R247. -/
def State.minOf (s : State) (g : Nat) : Nat :=
  let p := s.aget (modeReg g) PWM_MODE_MINP
  if s.doubleUpd g then (p + 1) / 2 else p

/-- The high-side interval [on, off) of a span (R242). -/
def highOf (edge double second : Bool) (b0 S c : Nat) : Nat × Nat :=
  if edge then (b0, b0 + c)
  else if double then (if second then (b0, b0 + c) else (b0 + S - c, b0 + S))
  else (b0 + (S - c) / 2, b0 + (S - c) / 2 + c)
/-- The ideal edges of a span: level changes against `lvl` at its start and inside it (R243). -/
def edgesOf (lvl : Bool) (b0 S : Nat) (iv : Nat × Nat) : List (Nat × Bool) :=
  let start := decide (iv.1 = b0 ∧ b0 < iv.2)
  (if start != lvl then [(b0, start)] else []) ++
    (if b0 < iv.1 ∧ iv.1 < iv.2 ∧ iv.1 < b0 + S then [(iv.1, true)] else []) ++
    (if b0 < iv.2 ∧ iv.1 < iv.2 ∧ iv.2 < b0 + S then [(iv.2, false)] else [])

/-- The compare value in effect of a leg; ACT shows it after R247 and R251. -/
def State.cmpOf (s : State) (g i : Nat) : Nat := s.ardN (s.cmpReg g i) % 2 ^ 25
def State.actReg (s : State) (g i : Nat) : Nat :=
  if 32 ≤ g then PWMX_ACT (g - 32)
  else match i with
    | 0 => PWM_ACTU g | 1 => PWM_ACTV g | 2 => PWM_ACTW g | _ => PWMX_ACT ((s.fourth g).getD 0)

/-- The span that starts at `b0`: kept values are measured (R251), the minimum-pulse rule applies, the edges follow. -/
def State.pwmSpan (s : State) (g b0 S : Nat) (second : Bool) : State :=
  let s0 := (s.pwmTo g (b0 - 1)).modPwm g fun q =>
    { q with b0 := b0, span := S, second := second, perStart := if second then q.perStart else b0
             past := q.past.filter fun x => decide (b0 < x.1 + 32 * 45000) }
  let m := s0.minOf g
  let s1 := s0.forEach (s0.legsOf g) fun s i =>
    let C := s.cmpOf g i
    let clamp := (s.pwm g).kept.contains i && decide (S ≤ C) && s.aflag (modeReg g) PWM_MODE_CLAMP
    let C1 := if clamp then (if m = 0 then S - 1 else S - m) else C
    let sA := if clamp then (s.awr (s.cmpReg g i) (BitVec.ofNat 32 C1)).setf (s.statReg g i) PWM_STAT_CLAMPED else s
    let (C2, dropped, stretched) := minPulse C1 S m (s.aflag (modeReg g) PWM_MODE_MPMODE)
    let sB := if dropped then sA.setf (s.statReg g i) PWM_STAT_MPDROP else sA
    let sC := if stretched then sB.setf (s.statReg g i) PWM_STAT_MPSTR else sB
    let es := edgesOf (s.leg g i).ideal b0 S (highOf (decide (32 ≤ g) && s.flag (PWMX_CFG (g - 32)) PWMX_CFG_ALIGN) (s.doubleUpd g) second b0 S (min C2 S))
    let dt := max (s.dtr g i) (s.dtf g i)
    ((sC.wrN (s.actReg g i) C2).modLeg g i fun l => { l with edges := es }).modPwm g fun q =>
      { q with past := q.past ++ es.map fun e => (e.1, dt) }
  (s1.modPwm g fun q => { q with kept := [] }).atcSpan g

/-! ### Commits (R248–R251) -/

/-- The newest captured commit was written in the PCLK cycle of tick `at_` (R17, R248). -/
def State.pwmSameCycle (s : State) (g at_ : Nat) : Option PwmCommit :=
  (s.pwm g).caps.getLast?.filter fun c => c.at_ / 2 == at_ / 2

/-- A stopped free-running leg whose newest commit carries a period other than 0 starts in the 4th tick after the commit write (R241). -/
def State.pwmStart (g : Nat) (s : State) : State :=
  match (s.pwm g).caps.getLast? with
  | some c =>
    if c.all && s.freeRun g && s.stopped g && c.words.any (fun w => w.1 == perReg g && w.2 != 0) then s.modPwm g fun q => { q with startAt := some (c.at_ + 4) }
    else s
  | none => s
/-- A staged write to a register of a leg group at tick `at_` enters its shadow; one in the PCLK cycle of a commit that
transfers its part is carried by that commit (R248). -/
def State.pwmStageAt (s : State) (g a : Nat) (isCmp : Bool) (at_ : Nat) : State :=
  State.pwmStart g <| match (s.pwmSameCycle g at_).filter fun c => isCmp || c.all with
  | some c =>
    s.modPwm g fun q => { q with caps := q.caps.dropLast ++ [{ c with words := c.words.filter (fun w => w.1 != a) ++ [(a, s.rd a)] }] }
  | none =>
    s.modPwm g fun q =>
      if isCmp then { q with cmpPart := q.cmpPart.filter (· != a) ++ [a] } else { q with fieldPart := q.fieldPart.filter (· != a) ++ [a] }
def State.pwmStage (s : State) (g a : Nat) (isCmp : Bool) : State := s.pwmStageAt g a isCmp s.tick

/-- A commit at tick `at_` captures the compare part, or both parts; commits of one PCLK cycle form one, whose lead counts from
the later of its two ticks (R248). -/
def State.pwmCaptureAt (s : State) (g : Nat) (all : Bool) (at_ : Nat) : State :=
  let q := s.pwm g
  let as := q.cmpPart ++ (if all then q.fieldPart else [])
  let words := as.map fun a => (a, s.rd a)
  let caps := match s.pwmSameCycle g at_ with
    | some c => q.caps.dropLast ++ [⟨at_ / 2 * 2 + 1, c.words.filter (fun w => !as.contains w.1) ++ words, c.all || all⟩]
    | none => q.caps ++ [⟨at_, words, all⟩]
  State.pwmStart g (s.modPwm g fun q => { q with cmpPart := [], fieldPart := if all then [] else q.fieldPart, caps := caps })
/-- Compare values that a CLE has computed reach the shadow by the present tick, with the commit of the axis (R216). -/
def State.flyTo (s : State) (g : Nat) : State :=
  match (s.pwm g).fly with
  | some (t, ws) =>
    if t ≤ s.tick then
      (ws.foldl (fun s w => (s.wr w.1 w.2).pwmStageAt g w.1 true t) (s.modPwm g fun q => { q with fly := none })).pwmCaptureAt g false t
    else s
  | none => s
def State.pwmCapture (s : State) (g : Nat) (all : Bool) : State := (s.flyTo g).pwmCaptureAt g all s.tick

/-- The period in effect: the counter stops at 0 and the group goes to idle, or it runs. -/
def State.pwmPeriod (s : State) (g : Nat) (v : Word) (t : Nat) : State :=
  let s1 := (s.awr (perReg g) v).putB (statOf g) PWM_STAT_STOPPED (v == 0)
  let s2 := if g < 32 then s1.wrN (PWM_ACTPER g) (if v == 0 then 0 else s.gridPer g) else s1
  if v == 0 then
    (s2.pwmDrive g t).modPwm g fun q => { q with drv := false, startAt := none, legs := q.legs.map fun l => { l.allOff t with ideal := false, edges := [] } }
  else s2

/-- The words of a commit take effect at `t`, at a middle (`mid`) or a period start. -/
def State.pwmApply (s : State) (g t : Nat) (mid : Bool) (c : PwmCommit) : State :=
  let per := c.words.find? fun w => w.1 == perReg g
  let cmps := (s.legsOf g).filter fun i => c.words.any fun w => w.1 == s.cmpReg g i
  let bad := match per with
    | some (_, v) => s.running && v != 0 && !s.freeRun g && v.toNat != s.gridPer g
    | none => false
  let s0 := s.modPwm g fun q =>
    { q with parBad := false, kept := q.kept.filter fun i => !cmps.contains i, keptNext := q.keptNext.filter fun i => !cmps.contains i }
  let s1 := (c.words.filter fun w => w.1 != perReg g).foldl (fun s w => s.awr w.1 w.2) s0
  match per with
  | none => s1
  | some (_, v) =>
    if bad then s1.setf (statOf g) PWM_STAT_PERBAD
    else
      let s2 := if mid then s1.modPwm g fun q => { q with perNext := some v } else s1.pwmPeriod g v t
      let s3 := if cmps.isEmpty then s2.setf (statOf g) PWM_STAT_PERIOD_ONLY else s2
      let rest := (s3.legsOf g).filter fun i => !cmps.contains i
      s3.modPwm g fun q => if mid then { q with keptNext := rest } else { q with kept := rest }

/-- The captured commits due at boundary `t` take effect, oldest first (R248). -/
def State.pwmCommits (s : State) (g t : Nat) (mid : Bool) : State :=
  let q := s.pwm g
  let (due, wait) := q.caps.partition fun c => decide (32 * (c.at_ + 2) ≤ t)
  due.foldl (fun s c => s.pwmApply g t mid c) (s.modPwm g fun q => { q with caps := wait })

/-- At a period start a cut ends where nothing holds (R259, R260); a detection in its tick keeps it for the period (R264). -/
def State.cutEnd (s00 : State) (g t : Nat) : State :=
  let s := s00.forEach (s00.pwm g).cbc State.tripSettle
  let q := s.pwm g
  let still := q.cbc.filter fun i => s.tripIn i || (s.trip i).detAt == some (t / 32)
  let s1 := s.modPwm g fun q => { q with cbc := still, cutPrev := q.cut }
  let s2 := if still.isEmpty then s1 else if g < 32 then s1.count (PWM_CNT g) PWM_CNT_CBCHOLD else s1
  let s3 := if g < 32 then
      s2.put (PWM_STAT g) PWM_STAT_GCAUSE ((List.range 4).foldl (fun a k => a + b2n (s2.holds (32 + k) g) * 2 ^ k) 0)
    else s2
  if q.cut && !s3.anyHold g then
    let s4 := ((s3.pwmTo g t).clrf (statOf g) PWM_STAT_CUT).modPwm g fun q => { q with cut := false }
    if (s4.pwm g).drv then s4.pwmFollow g t else s4
  else s3

/-- A boundary of a group's grid at `t`: `second` marks the middle, `S` the span that starts (1/32 ticks). -/
def State.pwmBoundary (s : State) (g t S : Nat) (second : Bool) : State :=
  let s0 := (s.flyTo g).pwmTo g (t - 1)
  let s1 := match second, (s0.pwm g).perNext with
    | false, some v => (s0.pwmPeriod g v t).modPwm g fun q => { q with perNext := none, kept := q.kept ++ q.keptNext, keptNext := [] }
    | _, _ => s0
  let s2 := s1.pwmCommits g t second
  let s3 := if second then s2 else s2.atcSettings g
  if s3.stopped g then s3
  else
    let s4 := (if second || 32 ≤ g then s3 else s3.wrN (PWM_ACTPER g) (s3.gridPer g)).pwmSpan g t S second
    let s5 := if second then s4 else s4.cutEnd g t
    s5.pwmDrive g t

/-- The period of a free-running standalone leg starts (R240, R241). -/
def State.auxStart (s : State) (j : Nat) : State :=
  let g := 32 + j
  let q := s.pwm g
  if !s.freeRun g then s
  else match q.startAt with
    | some t0 =>
      let s0 := (s.advanceTo t0).modPwm g fun q => { q with startAt := none }
      let s1 := s0.pwmCommits g (32 * t0) false
      let S := 32 * s1.ardN (perReg g)
      if S = 0 then s1 else (s1.atcSettings g).pwmBoundary g (32 * t0) S false
    | none =>
      if s.stopped g then s
      else
        let t := q.b0 + q.span
        let s0 := s.advanceTo (t / 32)
        let s1 := s0.pwmCommits g t false
        s1.pwmBoundary g t (32 * s1.ardN (perReg g)) false

/-! ### Lands (R236) -/

/-- The on level of the lands of a leg, high side and low side: PWMn_POL holds WL, WH, VL, VH, UL, UH from bit 5 down, PWMXj_CFG POL the low and the high side. -/
def State.landPol (s : State) (g i : Nat) (hi : Bool) : Bool :=
  let aux := fun j => nbit (s.get (PWMX_CFG j) PWMX_CFG_POL) (if hi then 0 else 1)
  if 32 ≤ g then aux (g - 32)
  else if i = 3 then aux ((s.fourth g).getD 0) else nbit (s.get (PWM_POL g) PWM_POL_V) (2 * i + b2n (!hi))
/-- The electrical level of a gate land: POL 0 makes high the level that means on. -/
def State.gateLand (s : State) (g i : Nat) (hi : Bool) : Bool :=
  let l := s.leg g i
  (if hi then l.h else l.l) != s.landPol g i hi
/-- The land of an auxiliary leg: its own gates, or those of the fourth leg of its axis (R252). -/
def State.auxLand (s : State) (j : Nat) (hi : Bool) : Bool :=
  if s.standalone j then s.gateLand (32 + j) 0 hi else s.gateLand (s.get (PWMX_CFG j) PWMX_CFG_AXIS) 3 hi

/-! ### Register control -/

/-- A pending commit token names the axis. -/
def State.tokenHolds (s : State) (a : Nat → Nat) (n : Nat) : Option Nat :=
  (List.range 8).find? fun k => s.get (CTOK_CTRL k) CTOK_CTRL_STATE == 1 && nbit (s.rdN (a k)) n

/-- CMPC. -/
def State.pwmCmpc (s : State) (n : Nat) : State := s.pwmCapture n false
/-- ALL: while a pending token holds the axis it is ignored and HELD is set (R249). -/
def State.pwmAll (s : State) (n : Nat) : State :=
  match s.tokenHolds CTOK_PWM n with
  | some k => s.setf (CTOK_CTRL k) CTOK_CTRL_HELD
  | none => s.pwmCapture n true
/-- PWMn_COMMIT as written. -/
def State.pwmCommitWrite (s : State) (n : Nat) (all cmpc : Bool) : State :=
  if all then
    match s.tokenHolds CTOK_PWM n with
    | some k => let s1 := s.setf (CTOK_CTRL k) CTOK_CTRL_HELD; if cmpc then s1.pwmCmpc n else s1
    | none => s.pwmAll n
  else if cmpc then s.pwmCmpc n else s
/-- PWMXj_COMMIT ALL, ignored for a fourth leg. -/
def State.auxCommit (s : State) (j : Nat) : State := if s.standalone j then s.pwmCapture (32 + j) true else s

/-- The overcurrent cause of an axis is active: a current stream's latest value exceeds OCLIM (R260). -/
def State.ocActive (s : State) (n : Nat) : Bool :=
  (List.range (if s.flag (SLOT_CFG n) SLOT_CFG_S2ROLE then 3 else 2)).any fun i => (vget s.sds (3 * n + i) {}).ocNow
/-- The stream that carries the DC-link voltage an axis uses; none with UDCNOM. -/
def State.udcStream (s : State) (n : Nat) : Option Nat :=
  let u := s.get (SLOT_CFG n) SLOT_CFG_UDCSRC
  if u < 32 then some (3 * u + 2) else none
/-- LOST of a current stream or of the DC-link stream the axis uses, or UDCLOSS. -/
def State.lossActive (s : State) (n : Nat) : Bool :=
  (List.range (if s.flag (SLOT_CFG n) SLOT_CFG_S2ROLE then 3 else 2)).any (fun i => s.flag (SD_STAT (3 * n + i)) SD_STAT_LOST) ||
    (match s.udcStream n with
     | some j => s.flag (SD_STAT j) SD_STAT_LOST
     | none => false) || decide (0 < (vget s.cles n {}).udcRun)

/-- TCLR of an axis (R260): accepted only if every latched cause is inactive. -/
def State.pwmTclr (s00 : State) (n : Nat) : State :=
  let s := s00.tripSettle n
  let l := s.flag (PWM_STAT n) PWM_STAT_LCAUSE
  let o := s.flag (PWM_STAT n) PWM_STAT_OCAUSE
  let x := s.flag (PWM_STAT n) PWM_STAT_SCAUSE
  if !(l || o || x) then s
  else if (l && s.tripIn n) || (o && s.ocActive n) || (x && s.lossActive n) then
    (s.setf (PWM_STAT n) PWM_STAT_CLR_REFUSED).event .clrRefused n
  else ((s.clrf (PWM_STAT n) PWM_STAT_LCAUSE).clrf (PWM_STAT n) PWM_STAT_OCAUSE).clrf (PWM_STAT n) PWM_STAT_SCAUSE
/-- TCLR of a global trip (R263). -/
def State.gtripTclr (s00 : State) (k : Nat) : State :=
  let s := s00.tripSettle (32 + k)
  if !s.flag (GTRIP_STAT k) GTRIP_STAT_LATCHED then s
  else if s.tripIn (32 + k) then (s.setf (GTRIP_STAT k) GTRIP_STAT_CLR_REFUSED).event .clrRefused (32 + k)
  else
    let s1 := s.clrf (GTRIP_STAT k) GTRIP_STAT_LATCHED
    s1.forEach (List.range 32) fun s n => s.setGcause n k (s.holds (32 + k) n)
/-- CLRFLAGS clears the W1C bits [8:0]. -/
def State.pwmClrFlags (s : State) (n : Nat) : State := s.clrBits (PWM_STAT n) 0x1FF
def State.auxClrFlags (s : State) (j : Nat) : State := s.clrBits (PWMX_STAT j) 0x1FF
def State.pwmClrCnt (s : State) (n : Nat) : State := s.wrN (PWM_CNT n) 0
def State.gtripClrCnt (s : State) (k : Nat) : State := s.put (GTRIP_STAT k) GTRIP_STAT_TRIPS 0

/-- The next gate event of a leg: an ideal edge or a delayed turn-on.  One at or after the end of the span waits for the boundary, whose edge may come first
(R245). -/
def State.pwmEdge (s : State) (g i : Nat) : State :=
  let q := s.pwm g
  match (s.leg g i).next with
  | none => s
  | some (x, _) => if !s.stopped g && q.b0 + q.span ≤ x then s else (s.advanceTo (x / 32)).legEvent g i

/-- PWMn_CTR: ticks since the period start, and the half. -/
def State.pwmCtr (s : State) (n : Nat) : Nat :=
  if s.stopped n then 0 else (s.tick - (s.pwm n).perStart / 32) % 2 ^ 20 + (if (s.pwm n).second then 2 ^ 31 else 0)

end Sys2Proof.Machine
end

