-- ==== Sys2Proof/Machine/Cle.lean ====
section
/-! DEFINITION. Sigma-delta inputs and current-loop engines (R201–R235): filters, overcurrent, stream loss, window placement,
the pipeline, the commutation angle, run state and parameter banks.  Slot `a` is axis `a`, slot a mod 4 of CLE a / 4. -/

namespace Sys2Proof.Machine

def State.sd (s : State) (j : Nat) : SdSt := vget s.sds j {}
def State.modSd (s : State) (j : Nat) (f : SdSt → SdSt) : State := { s with sds := vmod s.sds j f }
def State.cle (s : State) (a : Nat) : CleSt := vget s.cles a {}
def State.modCle (s : State) (a : Nat) (f : CleSt → CleSt) : State := { s with cles := vmod s.cles a f }

/-! ### Streams (R202–R208) -/

/-- The SDCLK period in ticks (R18, R232). -/
def sdDiv (code : Nat) : Nat :=
  match code with
  | 0 => 16 | 1 => 20 | 2 => 25 | 3 => 32 | _ => 40
def State.sdPer (s : State) (a : Nat) : Nat := sdDiv (s.get (SDCLK_CFG (a / 4)) SDCLK_CFG_DIV)
/-- Whether stream `j` produces bits: its clock and its input are on. -/
def State.sdOn (s : State) (j : Nat) : Bool := s.flag (SDCLK_CFG (j / 12)) SDCLK_CFG_EN && s.flag (SD_CFG j) SD_CFG_EN
/-- The module drives an SDCLK land (R203); where it does not, the land is at high impedance. -/
def State.sdDrives (s : State) (k : Nat) : Bool := s.drivesLands && s.flag (SDCLK_CFG k) SDCLK_CFG_EN
/-- Phase of the bit instants of an axis' streams: 0 on the module's own clock (R18), as observed on a listening module (R203). -/
def State.sdPhase (s : State) (a : Nat) : Nat := vget s.tw.sdPh (a / 4) 0 % (32 * s.sdPer a)
/-- A listening module has observed the rising edges of an SDCLK at phase `ph` in 1/8 ticks (R69, R203). -/
def State.sdSee (s : State) (a ph : Nat) : State :=
  if s.drivesLands then s else { s with tw := { s.tw with sdPh := vmod s.tw.sdPh (a / 4) fun _ => 4 * ph } }
/-- The latest instant at or before `x` on the grid of period `d` and phase `ph`. -/
def gridAt (d ph x : Nat) : Nat := (x + d - ph) / d * d + ph - d
/-- Bits that a stream has produced since it was enabled. -/
def State.sdBits (s : State) (j : Nat) : Nat :=
  match (s.sd j).since with
  | none => 0
  | some t =>
    let d := 32 * s.sdPer (j / 3)
    let ph := s.sdPhase (j / 3)
    (s.sd j).base + ((s.now + d - ph) / d - (32 * t + d - ph) / d)
/-- The filters of a stream start from zero state when it begins to produce bits. -/
def State.sdEnable (s : State) (j : Nat) : State :=
  s.modSd j fun x =>
    { x with since := if s.sdOn j then (if x.since.isSome then x.since else some s.tick) else none, base := if s.sdOn j then x.base else 0 }
/-- The clock of a stream is about to change: the bits produced so far are kept. -/
def State.sdHold (s : State) (j : Nat) : State :=
  let n := s.sdBits j
  s.modSd j fun x => { x with since := x.since.map fun _ => s.tick, base := n }
/-- The next tick at which a bit of stream `j` is sampled (R202). -/
def State.sdSample (s : State) (j : Nat) : Nat :=
  let d := 32 * s.sdPer (j / 3)
  let m := 32 * s.get (SDCLK_CFG (j / 12)) SDCLK_CFG_SMPL
  (gridAt d (s.sdPhase (j / 3)) (s.now - m + d - 1) + m + 31) / 32

/-- Weight `i` of a sinc3 response of ratio `R`: three running sums of `R` convolved; 3R − 2 weights. -/
def sinc3W (R i : Nat) : Nat :=
  let tri := fun k : Nat => k * (k + 1) / 2
  tri (i + 1) + 3 * tri (i + 1 - 2 * R) - 3 * tri (i + 1 - R) - tri (i + 1 - 3 * R)
/-- Weight `i` of a sinc2 response; 2R − 1 weights. -/
def sinc2W (R i : Nat) : Nat := min (i + 1) (2 * R - 1 - i)
/-- The weighted sum of the newest bits: 1 counts +1, 0 counts −1 (R204); bits beyond the list count 0 (R205). -/
def sincSum (w : Nat → Nat) (inv : Bool) : Nat → Nat → List Bool → Int
  | 0, _, _ => 0
  | _ + 1, _, [] => 0
  | n + 1, i, b :: bs => (if b != inv then (w i : Int) else -(w i : Int)) + sincSum w inv n (i + 1) bs
/-- The sinc3 word of a stream from its bits, newest first (R205). -/
def sinc3 (osr : Nat) (inv : Bool) (bits : List Bool) : Int :=
  sincSum (sinc3W (2 ^ osr)) inv (3 * 2 ^ osr - 2) 0 bits * 2 ^ (30 - 3 * osr)
/-- The sinc2 word (R207). -/
def sinc2 (osr : Nat) (inv : Bool) (bits : List Bool) : Int :=
  sincSum (sinc2W (2 ^ osr)) inv (2 * 2 ^ osr - 1) 0 bits * 2 ^ (30 - 2 * osr)

/-- The conversion of stream `i` of axis `a` (R206). -/
def State.sdConv (s : State) (a i : Nat) (x : Int) : Int :=
  let (o, g, f) := match i with
    | 0 => (SLOT_OFS0 a, SLOT_GAIN0 a, SLOT_GSH_G0)
    | 1 => (SLOT_OFS1 a, SLOT_GAIN1 a, SLOT_GSH_G1)
    | _ => (SLOT_OFS2 a, SLOT_GAIN2 a, SLOT_GSH_G2)
  coef (s.rdI g) (s.get (SLOT_GSH a) f) (sat32 (x - s.rdI o))

/-- Whether stream `j` carries a phase current (R201). -/
def State.isCurrent (s : State) (j : Nat) : Bool := j % 3 != 2 || s.flag (SLOT_CFG (j / 3)) SLOT_CFG_S2ROLE
/-- |y| > OCLIM for the sinc2 value of the newest bits. -/
def State.ocAbove (s : State) (j : Nat) (bits : List Bool) : Bool :=
  let y := s.sdConv (j / 3) (j % 3) (sinc2 (s.get (SD_CFG j) SD_CFG_OCOSR + 2) (s.flag (SD_CFG j) SD_CFG_INV) bits)
  s.rdI (SD_OCLIM j) < absI y && s.rdI (SD_OCLIM j) ≠ 0
/-- OCN consecutive values above OCLIM, and the one before not: a detection (R207). -/
def State.ocDetects (s : State) (j : Nat) (bits : List Bool) : Bool :=
  let n := s.get (SD_CFG j) SD_CFG_OCN + 1
  (List.range n).all (fun i => s.ocAbove j (bits.drop i)) && !s.ocAbove j (bits.drop n)
/-- The latest bits of a stream tell whether its overcurrent cause is active. -/
def State.ocLatest (s : State) (j : Nat) (bits : List Bool) : State :=
  s.modSd j fun x => { x with
      ocNow := s.isCurrent j && s.ocAbove j bits
      w2 := sinc2 (s.get (SD_CFG j) SD_CFG_OCOSR + 2) (s.flag (SD_CFG j) SD_CFG_INV) bits }

/-- The bits of stream `j`, newest first, complete an overcurrent. -/
def State.overcurrent (s : State) (j : Nat) (bits : List Bool) : State :=
  if !s.sdOn j || !s.isCurrent j then s
  else
    let s1 := (s.advanceTo (s.sdSample j)).ocLatest j bits
    if !s1.ocDetects j bits then s1
    else
      let a := j / 3
      (((s1.setf (SD_STAT j) SD_STAT_OC).count (SD_STAT j) SD_STAT_OCCNT).setf (SLOT_STAT a) SLOT_STAT_OC).tripCause a PWM_STAT_OCAUSE .oc

/-- The newest bits of a stream hold one level over SLBITS bits (R208). -/
def State.sdStuck (s : State) (j : Nat) (bits : List Bool) : Bool :=
  let n := s.get (SD_CFG j) SD_CFG_SLBITS
  decide (n ≤ bits.length) && (bits.take n).all fun b => b == bits.headD false
/-- SLBITS bits of one level have been sampled, `bits` being the latest, newest first (R208, R209). -/
def State.streamLoss (s : State) (j : Nat) (bits : List Bool) : State :=
  if !s.sdOn j || !s.sdStuck j bits || s.flag (SD_STAT j) SD_STAT_LOST then s
  else
    let s1 := s.advanceTo (s.sdSample j)
    let s2 := ((s1.setf (SD_STAT j) SD_STAT_LOST).setf (SD_STAT j) SD_STAT_LOSS).count (SD_STAT j) SD_STAT_LOSSCNT
    let a := j / 3
    if s2.isCurrent j && s2.flag (SLOT_STAT a) SLOT_STAT_RUN then
      ((s2.setf (SLOT_STAT a) SLOT_STAT_SLOSS).tripCause a PWM_STAT_SCAUSE .streamLoss).torqueOff a
    else s2
/-- A transition arrives on a lost stream. -/
def State.streamReturn (s : State) (j : Nat) : State :=
  if s.flag (SD_STAT j) SD_STAT_LOST then (s.advanceTo (s.sdSample j)).clrf (SD_STAT j) SD_STAT_LOST else s

/-- The DC-link stream an axis uses is lost. -/
def State.udcLost (s : State) (a : Nat) : Bool :=
  match s.udcStream a with
  | some j => s.flag (SD_STAT j) SD_STAT_LOST
  | none => false
/-- After UDCHOLD computations without a good DC-link word the axis trips (R209). -/
def State.udcExpired (s : State) (a : Nat) : State :=
  if s.flag (SLOT_STAT a) SLOT_STAT_RUN && s.udcLost a && s.get (SLOT_LIM a) SLOT_LIM_UDCHOLD ≤ (s.cle a).udcRun && !(s.cle a).udcTrip then
    (((s.setf (SLOT_STAT a) SLOT_STAT_UDCLOSS).modCle a fun c => { c with udcTrip := true }).tripCause a PWM_STAT_SCAUSE .udcLoss).torqueOff a
  else s

/-! ### Window placement (R210–R214) -/

/-- W in ticks; 0 while OSR lies outside 3–8. -/
def State.winLen (s : State) (a : Nat) : Nat :=
  let o := s.get (SLOT_WIN a) SLOT_WIN_OSR
  if 3 ≤ o && o ≤ 8 then (3 * 2 ^ o - 2) * s.sdPer a else 0
/-- The latest bit instant (1/32 ticks, period `d`, phase `ph`) from `e` down whose window of length `w` meets no zone. -/
def quietEnd (zones : List (Nat × Nat)) (w d ph lo : Nat) : Nat → Nat → Option Nat
  | 0, _ => none
  | k + 1, e =>
    if e < lo then none
    else
      let hit := zones.filter fun z => decide (z.1 ≤ e ∧ e ≤ z.2 + w)
      match hit with
      | [] => some e
      | z :: zs =>
        let a := zs.foldl (fun m y => min m y.1) z.1
        if a = 0 then none else quietEnd zones w d ph lo k (gridAt d ph (a - 1))
/-- The window of the update [B₀, B] is placed. -/
def State.placeWindow (s : State) (a b0 b : Nat) : State :=
  let w := 32 * s.winLen a
  if w = 0 then s.modCle a fun c => { c with b0 := b0, b := b, doneB := true }
  else
    let d := 32 * s.sdPer a
    let ph := s.sdPhase a
    let hi := gridAt d ph (b - 32 * (s.get (SLOT_WIN a) SLOT_WIN_WLEAD + 2))
    let lo := b0 + 256
    let md := 32 * s.get (SLOT_WIN a) SLOT_WIN_MODDLY
    let st := 32 * s.get (SLOT_WIN a) SLOT_WIN_SETTLE
    let zones := ((s.pwm a).past.filter fun x => decide (b0 ≤ x.1 + w ∧ x.1 ≤ b)).map fun x => (x.1 + md, x.1 + md + x.2 + st)
    let quiet := if s.flag (SLOT_CFG a) SLOT_CFG_QMODE then some hi else quietEnd zones w d ph lo (zones.length + 1) hi
    let s1 := s.modCle a fun c => { c with e := quiet.getD hi, b0 := b0, b := b, doneB := false }
    if quiet.isSome then s1 else (s1.setf (SLOT_STAT a) SLOT_STAT_STRADDLE).count (SLOT_CNT a) SLOT_CNT_STRADDLE

/-! ### Parameter banks (R227) -/

def State.bankOf (s : State) (a : Nat) : Nat := s.get (SLOT_STAT a) SLOT_STAT_BANK
/-- A swap is requested. -/
def State.swapRequest (s : State) (a : Nat) : State :=
  if (s.cle a).swapAt.isSome then s else (s.setf (SLOT_STAT a) SLOT_STAT_SWPEND).modCle a fun c => { c with swapAt := some s.tick }
/-- BSWAP: while a pending token names the axis it is ignored and HELD is set (R64). -/
def State.cleBswap (s : State) (a : Nat) : State :=
  match s.tokenHolds CTOK_CLE a with
  | some k => s.setf (CTOK_CTRL k) CTOK_CTRL_HELD
  | none => s.swapRequest a
/-- The address of a bank word in the other bank: bank B lies 0x80 above bank A (R233). -/
def otherBank (a : Nat) : Nat := if a / 128 % 2 = 0 then a + 128 else a - 128
/-- A swap of a token carries the words as they stood before the writes that came too late for it; those writes stay staged in the bank that is
inactive now (R64). -/
def State.cleLate (s : State) (a : Nat) : State :=
  (((s.cle a).late).foldl (fun s w => (s.wr (otherBank w.1) (s.rd w.1)).wr w.1 w.2) s).modCle a fun c => { c with late := [] }
/-- The word at `w` of the inactive bank is about to be overwritten too late for a token. -/
def State.cleKeep (s : State) (a w : Nat) : State :=
  if w / 128 % 2 = s.bankOf a || (s.cle a).late.any (fun x => x.1 == w) then s else s.modCle a fun c => { c with late := c.late ++ [(w, s.rd w)] }
/-- The swap is due: the update boundary before this computation lies at least 16 ticks after the request. -/
def State.bankSwap (s : State) (a : Nat) : State :=
  match (s.cle a).swapAt with
  | some t =>
    if 32 * (t + 16) ≤ (s.grid a).last then
      ((((s.putB (SLOT_STAT a) SLOT_STAT_BANK (s.bankOf a == 0)).clrf (SLOT_STAT a) SLOT_STAT_SWPEND).modCle a fun c =>
        { c with swapAt := none, tokSwap := false }).cleLate a).resolve .bankSwap a .ok (1 - s.bankOf a)
    else s
  | none => s

/-! ### Commutation angle (R223–R225) -/

/-- 2^32, a whole turn. -/
def turn32 : Int := 4294967296
/-- The port of the encoder angle: CPORT, or FB1 of the axis. -/
def State.angPort (s : State) (a : Nat) : Nat :=
  if s.get (SLOT_CFG a) SLOT_CFG_CPORT = 0x3F then s.get (AXL_LFB a) AXL_LFB_FB1 else s.get (SLOT_CFG a) SLOT_CFG_CPORT
/-- The encoder angle of port `p` at `t32`, ANGOFS included, of the edges accepted by tick `by_`. -/
def State.encAngle (s : State) (a p t32 by_ : Nat) : Int :=
  let cpr : Int := s.rdN (EP_CPR p)
  let w := s.portWordBy p t32 by_ - (if s.portSsi p then 0 else (s.port p).rRef * 2 ^ 24)
  let pp : Int := s.get (SLOT_CFG a) SLOT_CFG_PP
  if cpr = 0 then 0 else (divConv (w % (cpr * 2 ^ 24) * turn32 * pp) (cpr * 2 ^ 24) + s.rdN (SLOT_ANG a)) % turn32
/-- ω_e in angle units per tick from the port's SPEED. -/
def State.encSpeed (s : State) (a p : Nat) : Rat :=
  let cpr := s.rdN (EP_CPR p)
  if cpr = 0 then 0 else mkRat (s.rdI (EP_SPEED p) * 16 * s.get (SLOT_CFG a) SLOT_CFG_PP) cpr
/-- The Hall angle at `t32` and ω_e of the last sector interval. -/
def State.hallAngle (s : State) (a p t32 : Nat) : Int × Rat :=
  let e := s.port p
  let dir : Int := if s.flag (EP_STAT p) EP_STAT_DIR then 1 else -1
  let w : Rat := match e.lastInt with
    | some i => if i = 0 then 0 else mkRat (dir * turn32 * 32) (6 * i)
    | none => 0
  let adv : Rat := match e.lastEdge with
    | some t => w * (mkRat ((t32 : Int) - t) 32)
    | none => 0
  let lim : Rat := mkRat turn32 12
  let x : Rat := mkRat ((2 * s.get (EP_LINE p) EP_LINE_HSECT + 1 : Nat) * turn32) 12 + max (-lim) (min lim adv)
  ((divOpen x.num x.den + s.rdN (SLOT_HALL a)) % turn32, w)
/-- A port can carry the commutation angle: valid, and for an incremental encoder referenced, with CPR ≠ 0. -/
def State.angUsable (s : State) (p : Nat) : Bool :=
  p < 40 && s.portValid p && s.rdN (EP_CPR p) ≠ 0 && (s.portSsi p || s.flag (EP_STAT p) EP_STAT_REFD)
/-- The slot runs on its Hall port. -/
def State.angHall (s : State) (a : Nat) : Bool :=
  s.get (SLOT_CFG a) SLOT_CFG_CMODE == 1 || (s.get (SLOT_CFG a) SLOT_CFG_CMODE == 2 && !(s.cle a).hallDone)
/-- The other port of ANGALT (R225). -/
def State.angOther (s : State) (a : Nat) : Nat :=
  if (if s.angHall a then s.get (SLOT_CFG a) SLOT_CFG_HPORT else s.angPort a) = s.get (AXL_LFB a) AXL_LFB_FB1 then s.get (AXL_LFB a) AXL_LFB_FB2 else s.get (AXL_LFB a) AXL_LFB_FB1
/-- WR in angle units per tick. -/
def State.wr_ (s : State) (a : Nat) : Rat := mkRat (s.rdN (SLOT_WR a)) 65536

/-- The angle source of a computation whose sample instant is `ts`: θ_s, ω_e, or none where the source is not valid, and the
state with ANGSW, ANGALT_ON and the like set. -/
def State.angle (s : State) (a ts : Nat) : Option (Int × Rat) × State :=
  let c := s.cle a
  let mode := s.get (SLOT_CFG a) SLOT_CFG_CMODE
  let p := s.angPort a
  let h := s.get (SLOT_CFG a) SLOT_CFG_HPORT
  let take := mode == 2 && !c.hallDone && p < 40 && s.flag (EP_STAT p) EP_STAT_REFD
  let s1 := if take then ((s.setf (SLOT_STAT a) SLOT_STAT_ANGSW).clrf (SLOT_STAT a) SLOT_STAT_ANGALT_ON).modCle a fun c => { c with hallDone := true, alt := none } else s
  if mode = 3 then
    match (if (s.loop a).lawAngAt < s.tick then (s.loop a).lawAng else (s.loop a).lawAngOld) with
    | some (th, we, t) =>
      let w : Rat := mkRat we (2 ^ 24) * s.wr_ a
      let x : Rat := (th : Int) + w * mkRat ((ts : Int) - t) 32
      (some (divOpen x.num x.den % turn32, w), s1)
    | none => (none, s1)
  else
    match (s1.cle a).alt with
    | some (q, o) => if s.angUsable q then (some ((s.encAngle a q ts s.tick + o) % turn32, s.encSpeed a q), s1) else (none, s1)
    | none =>
      if s1.angHall a then
        if h < 40 && s.portValid h then (some (s.hallAngle a h ts), s1) else (none, s1)
      else if p < 40 && s.portValid p then (some (s.encAngle a p ts s.tick, s.encSpeed a p), s1) else (none, s1)

/-- The angle of a computation, with the other port or extrapolation in place of an invalid source (R225). -/
def State.angleOr (s : State) (a ts : Nat) : Int × Rat × State :=
  let c := s.cle a
  let x : Rat := (c.ang : Int) + c.we * mkRat ((ts : Int) - c.angAt) 32
  let ext := divOpen x.num x.den % turn32
  let keep := fun (s : State) (th : Int) (w : Rat) =>
    (s.clrf (SLOT_STAT a) SLOT_STAT_ANGX).modCle a fun c => { c with ang := th.toNat, angAt := ts, we := w, xRuns := 0 }
  match s.angle a ts with
  | (some (th, w), s1) => (th, w, keep s1 th w)
  | (none, s1) =>
    let q := s1.angOther a
    if s1.flag (SLOT_CFG a) SLOT_CFG_ANGALT && s1.angUsable q && (s1.cle a).alt.isNone && s1.get (SLOT_CFG a) SLOT_CFG_CMODE != 3 then
      let o := (ext - s1.encAngle a q ts s1.tick) % turn32
      let s2 := (s1.setf (SLOT_STAT a) SLOT_STAT_ANGALT_ON).modCle a fun c => { c with alt := some (q, o.toNat) }
      (ext, s2.encSpeed a q, keep s2 ext (s2.encSpeed a q))
    else (ext, c.we, (s1.setf (SLOT_STAT a) SLOT_STAT_ANGX).modCle a fun c => { c with xRuns := c.xRuns + 1 })

/-- The limit of extrapolation is reached. -/
def State.angOver (s : State) (a : Nat) : Bool :=
  s.flag (SLOT_STAT a) SLOT_STAT_ANGX && (decide (s.get (SLOT_LIM a) SLOT_LIM_XLIM ≤ (s.cle a).xRuns) ||
    ((s.loop a).toff.isSome && (s.loop a).tRef == 0))

/-! ### Run state (R226) -/

/-- An axis' slot enters RUN, or leaves it with its gates off; what the CLE still had to write is not written (R226). -/
def State.cleEnter (s : State) (a : Nat) : State :=
  if s.flag (SLOT_STAT a) SLOT_STAT_RUN then s
  else
    let s1 := (((s.setf (SLOT_STAT a) SLOT_STAT_RUN).wrN (SLOT_XD a) 0).wrN (SLOT_XQ a) 0).clrf (SLOT_STAT a) SLOT_STAT_ANGX
    ((s1.clrf (SLOT_STAT a) SLOT_STAT_ANGALT_ON).modCle a fun c =>
      { c with udcRun := 0, udcTrip := false, alt := none, hallDone := false, xRuns := 0, limD := 0, limQ := 0 }).pwmDrive a s.now
def State.cleLeave (s : State) (a : Nat) : State :=
  if s.flag (SLOT_STAT a) SLOT_STAT_RUN then
    ((((s.clrf (SLOT_STAT a) SLOT_STAT_RUN).clrf (SLOT_STAT a) SLOT_STAT_ANGX).clrf (SLOT_STAT a) SLOT_STAT_ANGALT_ON).modPwm a fun q => { q with fly := none }).pwmDrive a s.now
  else s
/-- ANGLOSS: the CLE takes the axis out of RUN with the gates off. -/
def State.angLoss (s : State) (a : Nat) : State :=
  if s.flag (SLOT_STAT a) SLOT_STAT_RUN && s.angOver a then ((s.cleLeave a).setf (SLOT_STAT a) SLOT_STAT_ANGLOSS).event .angLoss a else s

/-- The refusals of R228, then of R225, of an enable: none where the axis may enter RUN. -/
def State.enableCheck (s : State) (a : Nat) : Option Status :=
  let osr := s.get (SLOT_WIN a) SLOT_WIN_OSR
  let u := s.get (SLOT_CFG a) SLOT_CFG_UDCSRC
  let need := fun o => 3 * 2 ^ o - 2
  let own := (List.range 3).map (3 * a + ·)
  let short := own.any (fun j => s.flag (SD_CFG j) SD_CFG_EN && s.sdBits j < need osr)
    || (match s.udcStream a with
        | some j => decide (s.sdBits j < need (s.get (SLOT_WIN u) SLOT_WIN_OSR))
        | none => false)
  if osr < 3 || 8 < osr || (s.cells a).1 < s.winLen a
      || (u < 32 && (s.flag (SLOT_CFG u) SLOT_CFG_S2ROLE || !s.flag (SD_CFG (3 * u + 2)) SD_CFG_EN)) || short then some .badParam
  else
    let mode := s.get (SLOT_CFG a) SLOT_CFG_CMODE
    let p := s.angPort a
    let h := s.get (SLOT_CFG a) SLOT_CFG_HPORT
    let noEnc := (mode == 0 || mode == 2) && (decide (40 ≤ p) || s.rdN (EP_CPR p) == 0 || (mode == 0 && !s.portSsi p && !s.flag (EP_STAT p) EP_STAT_REFD))
    let noHall := (mode == 1 || mode == 2) && decide (40 ≤ h)
    if noEnc || noHall then some .angNoRef else none

/-! ### The pipeline (R215–R222) -/

def c1r3 : Int := 619925131
def c13 : Int := 357913941
def cR3h : Int := 929887697
/-- A product with a Q1.30 factor (R217). -/
def q30 (m x : Int) : Int := coef m 30 x
/-- Integer square root, rounded down. -/
def isqrtI (x : Int) : Int := if x ≤ 0 then 0 else (isqrtBits x.toNat 34 0 : Nat)

/-- A word of the active bank with its shift. -/
def State.bankTerm (s : State) (a k : Nat) (m : Nat → Nat → Nat) (sh : Nat) (f : Fld) (x : Int) : Int :=
  coef (s.rdI (m a k)) (s.get sh f) x

/-- Clarke (stage 2): α and β of the converted currents. -/
def clarke (three : Bool) (u v w : Int) : Int × Int :=
  if three then (sat32 (q30 c13 (2 * u - v - w)), sat32 (q30 c1r3 (v - w)))
  else (u, sat32 (q30 c1r3 (u + 2 * v)))
/-- Clarke and Park (stages 2 and 3): i_d and i_q at θ_s. -/
def parkDQ (three : Bool) (u v w ths : Int) : Int × Int :=
  let (ia, ib) := clarke three u v w
  let cs := cosQ30 ths.toNat
  let sn := sinQ30 ths.toNat
  (sat32 (q30 cs ia + q30 sn ib), sat32 (q30 cs ib - q30 sn ia))
/-- The limits of stage 4 and 7: d first, then q to the root of what is left. -/
def limitDQ (lim d q : Int) : Int × Int :=
  let d1 := clampI (-lim) lim d
  let r := isqrtI (lim * lim - d1 * d1)
  (d1, clampI (-r) r q)

/-- Duties of the three legs (stages 8 to 10) from the phase voltages, exactly, clamped to [0, 1]. -/
def duty (v udc : Int) (dtc : Rat) : Rat := max 0 (min 1 (1 / 2 + mkRat v udc.toNat + dtc))

/-- Stages 3 to 10 of an axis: the compare values, with ISAT, VSAT, the integrators and the read-outs set; they reach
the shadow at tick `at_`. -/
def State.pipeline (s : State) (a : Nat) (iu iv iw udc ths tho we : Int) (tripWin : Bool) (ref : Int × Int) (S at_ : Nat) : State :=
  let k := s.bankOf a
  let sha := BANK_SHA a k
  let shb := BANK_SHB a k
  let (id, iq) := parkDQ (s.flag (SLOT_CFG a) SLOT_CFG_S2ROLE) iu iv iw ths
  let imax := s.rdI (BANK_IMAX a k)
  let (rd, rq) := ref
  let ovr := decide (imax * imax < rd * rd + rq * rq)
  let (ids, iqs) := if ovr then limitDQ imax rd rq else (rd, rq)
  let ed := sat32 (ids - id)
  let eq := sat32 (iqs - iq)
  let c := s.cle a
  let kd := s.bankTerm a k BANK_KID sha BANK_SHA_KID ed
  let kq := s.bankTerm a k BANK_KIQ sha BANK_SHA_KIQ eq
  let x0d := s.rdI (SLOT_XD a)
  let x0q := s.rdI (SLOT_XQ a)
  let xd := if tripWin || (c.limD ≠ 0 && sgn kd = c.limD) then x0d else sat32 (x0d + kd)
  let xq := if tripWin || (c.limQ ≠ 0 && sgn kq = c.limQ) then x0q else sat32 (x0q + kq)
  let ff := s.flag (BANK_BFLAGS a k) BANK_BFLAGS_FFEN
  let dec := s.flag (BANK_BFLAGS a k) BANK_BFLAGS_DECEN
  let wid := sat32 (shrConv (we * id) 24)
  let wiq := sat32 (shrConv (we * iq) 24)
  let fd := (if ff then s.bankTerm a k BANK_RS shb BANK_SHB_RS ids else 0) - (if dec then s.bankTerm a k BANK_LQ shb BANK_SHB_LQ wiq else 0)
  let fq := (if ff then s.bankTerm a k BANK_RS shb BANK_SHB_RS iqs + s.bankTerm a k BANK_PSI shb BANK_SHB_PSI we else 0)
    + (if dec then s.bankTerm a k BANK_LD shb BANK_SHB_LD wid else 0)
  let vd0 := sat32 (s.bankTerm a k BANK_KPD sha BANK_SHA_KPD ed + xd + fd)
  let vq0 := sat32 (s.bankTerm a k BANK_KPQ sha BANK_SHA_KPQ eq + xq + fq)
  let sv := s.flag (BANK_BFLAGS a k) BANK_BFLAGS_MODSV
  let vf := q30 (s.rdN (BANK_VFRAC a k)) udc
  let vl := if sv then q30 c1r3 vf else shrConv vf 1
  let low := decide (udc ≤ 262144)
  let (vd, vq) := limitDQ vl vd0 vq0
  let co := cosQ30 tho.toNat
  let so := sinQ30 tho.toNat
  let va := sat32 (q30 co vd - q30 so vq)
  let vb := sat32 (q30 so vd + q30 co vq)
  let vu := va
  let vv := sat32 (q30 cR3h vb - shrConv va 1)
  let vw := sat32 (-(shrConv va 1) - q30 cR3h vb)
  let v0 := if sv then -(shrConv (max vu (max vv vw) + min vu (min vv vw)) 1) else 0
  let th := s.rdI (BANK_DTCTH a k)
  let dtc := fun i : Int => if s.flag (BANK_BFLAGS a k) BANK_BFLAGS_DTCEN then
      let ci : Rat := if th = 0 then (sgn i : Int) else max (-1) (min 1 ((i : Rat) / th))
      mkRat (s.rdN (BANK_DTC a k)) 1 * ci / S
    else 0
  let cmp := fun v i : Int =>
    let D : Rat := if low then 1 / 2 else duty (v + v0) udc (dtc i)
    let x := D * S
    min S (divOpen x.num x.den).toNat
  let s1 := (((s.wrI (SLOT_ID a) id).wrI (SLOT_IQ a) iq).wrI (SLOT_VD a) vd).wrI (SLOT_VQ a) vq
  let s2 := ((s1.wrI (SLOT_XD a) xd).wrI (SLOT_XQ a) xq).putB (SLOT_STAT a) SLOT_STAT_ISAT ovr
  let s3 := (s2.putB (SLOT_STAT a) SLOT_STAT_VSAT (low || vd ≠ vd0 || vq ≠ vq0)).modCle a fun c =>
    { c with limD := if vd = vd0 then 0 else sgn vd0, limQ := if vq = vq0 then 0 else sgn vq0 }
  s3.modPwm a fun q =>
    { q with fly := some (at_, [(0, cmp vu iu), (1, cmp vv iv), (2, cmp vw iw)].map fun x => (s3.cmpReg a x.1, BitVec.ofNat 32 x.2)) }

/-- The position of a slot among those presented in the same cycle, in slot order (R215, R216). -/
def State.slotOrder (s : State) (a : Nat) : Nat :=
  ((List.range (a % 4)).filter fun i => (s.cle (a / 4 * 4 + i)).pres == s.tick && s.flag (SLOT_STAT (a / 4 * 4 + i)) SLOT_STAT_RUN
    && (s.cle (a / 4 * 4 + i)).doneB).length

/-- The most recent current reference present at the presentation tick (R57, R218). -/
def State.curRef (s : State) (a : Nat) : Int × Int :=
  let l := s.loop a
  let k := s.bankOf a
  let T := if l.tRefAt < s.tick then l.tRef else l.tRefOld
  let d := if l.iRefAt < s.tick then l.iRef else l.iRefOld
  d.getD (s.rdI (BANK_IDREF a k), s.bankTerm a k BANK_KTI (BANK_SHA a k) BANK_SHA_KTI T)

/-- A window (1/32 ticks) contains a bit instant at which neither module drove SDCLK (R392). -/
def State.clkGap (s : State) (a lo hi : Nat) : Bool :=
  let p := max 1 (s.sdPer a)
  match s.tw.gap with
  | some (g0, g1) =>
    let k := gridAt (32 * p) (s.sdPhase a) (max (32 * g0) lo + 32 * p - 1)
    decide (k ≤ hi ∧ k < 32 * g1)
  | none => false

/-- The DC-link word at presentation (R201, R209, R222): the word of the stream that UDCSRC names, formed from the bits of `dc`
for another axis' stream, or its last good word while the stream is lost. -/
def State.dcWord (s : State) (a osr : Nat) (dc : List Bool) : Int × State :=
  let us := s.get (SLOT_CFG a) SLOT_CFG_UDCSRC
  match s.udcStream a with
  | none => (s.rdI (SLOT_UDC a), s)
  | some j =>
    let o := s.get (SLOT_WIN us) SLOT_WIN_OSR
    let x := sinc3 (if 3 ≤ o && o ≤ 8 then o else osr) (s.flag (SD_CFG j) SD_CFG_INV) dc
    if s.udcLost a then (s.sdConv us 2 (s.sd j).good, s)
    else if us = a then (s.sdConv a 2 (s.sd j).word, s)
    else (s.sdConv us 2 x, s.modSd j fun q => { q with good := x })

/-- The DC-link stream lost in RUN is counted with UDCLOSS; a good word ends the count (R209). -/
def State.udcCount (s : State) (a : Nat) : State :=
  match s.udcStream a with
  | none => s
  | some _ =>
    if s.udcLost a then (s.setf (SLOT_STAT a) SLOT_STAT_UDCLOSS).modCle a fun c => { c with udcRun := c.udcRun + 1 }
    else s.modCle a fun c => { c with udcRun := 0, udcTrip := false }

/-- ω_e (angle units per tick) in Q8.24 pu of WR. -/
def State.wePu (s : State) (a : Nat) (w : Rat) : Int :=
  let x : Rat := if s.rdN (SLOT_WR a) = 0 then 0 else w / s.wr_ a * (2 ^ 24 : Nat)
  sat32 (divOpen x.num x.den)

/-- The span (1/32 ticks) over which the compare values of the computation for boundary B act, with its correction (R47, R222, R242). -/
def State.cleSpan (s : State) (a : Nat) : Nat :=
  let next := fun s : State => (s.nextBoundary a 1).2.2.1
  if (s.grid a).last = (s.cle a).b then next s - (s.cle a).b
  else
    let (fr, k, t, _) := s.nextBoundary a 1
    next (s.modGrid a fun g => { g with fr := fr, k := k, last := t }) - t
/-- Out of RUN the words are still produced and the status of the measurement goes on (R226): UDC, THS, WE, ID and IQ, with
the angle of the source as it stands; no compare value is written. -/
def State.cleMeasure (s : State) (a ts osr : Nat) (dc : List Bool) : State :=
  let (dcw, s1) := s.dcWord a osr dc
  let (th, we) := match (s1.angle a ts).1 with
    | some (t, w) => (t, s1.wePu a w)
    | none => ((s1.rdN (SLOT_THS a) : Int), s1.rdI (SLOT_WE a))
  let iu := s1.sdConv a 0 (s1.sd (3 * a)).word
  let iv := s1.sdConv a 1 (s1.sd (3 * a + 1)).word
  let three := s1.flag (SLOT_CFG a) SLOT_CFG_S2ROLE
  let iw := if three then s1.sdConv a 2 (s1.sd (3 * a + 2)).word else sat32 (-(iu + iv))
  let (id, iq) := parkDQ three iu iv iw th
  ((((s1.wrI (SLOT_UDCW a) dcw).wrI (SLOT_THS a) th).wrI (SLOT_WE a) we).wrI (SLOT_ID a) id).wrI (SLOT_IQ a) iq

/-- The computation of an axis in RUN (R215–R225) from its words and the DC-link bits `dc`; `win` is TRIPWIN or a clock gap. -/
def State.cleCompute (s : State) (a ts osr : Nat) (dc : List Bool) (win : Bool) : State :=
  let c := s.cle a
  let (dcw, s4) := s.dcWord a osr dc
  let s5 := s4.udcCount a
  let (ths, wU, s6) := s5.angleOr a ts
  let span := 32 * (s6.cells a).1
  let we := s6.wePu a wU
  let adv : Rat := wU * mkRat ((c.b : Int) + span / 2 - ts) 32
  let tho := (ths + divOpen adv.num adv.den) % turn32
  let iu := s6.sdConv a 0 (s6.sd (3 * a)).word
  let iv := s6.sdConv a 1 (s6.sd (3 * a + 1)).word
  let iw := if s6.flag (SLOT_CFG a) SLOT_CFG_S2ROLE then s6.sdConv a 2 (s6.sd (3 * a + 2)).word else sat32 (-(iu + iv))
  let ref := s6.curRef a
  let s7 := (((s6.wrI (SLOT_UDCW a) dcw).wrI (SLOT_THS a) ths).wrI (SLOT_WE a) we).modCle a fun c => { c with pres := s6.tick }
  let lat := 25 + s7.slotOrder a
  let at_ := s7.tick + (lat + 1) / 2
  let s8 := s7.pipeline a iu iv iw dcw ths tho we win ref (s7.cleSpan a) at_
  (s8.put (CLE_LAT (a / 4)) CLE_LAT_LAST lat).put (CLE_LAT (a / 4)) CLE_LAT_MAX (max lat (s8.get (CLE_LAT (a / 4)) CLE_LAT_MAX))

/-- The word of stream `3·a + i` of a window is formed from its bits (R205), with the latest overcurrent value. -/
def State.sdWord (s : State) (a osr i : Nat) (bits : List Bool) : State :=
  let j := 3 * a + i
  if !s.sdOn j then s
  else
    let x := sinc3 osr (s.flag (SD_CFG j) SD_CFG_INV) bits
    ((s.wrI (SD_WORD j) x).modSd j fun q => { q with word := x, good := if s.flag (SD_STAT j) SD_STAT_LOST then q.good else x }).ocLatest j bits

/-- A cut of the axis lies in the window `[lo, hi]` (1/32 ticks). -/
def State.cutIn (s : State) (a lo hi : Nat) : Bool := (s.pwm a).cuts.any fun t => decide (lo ≤ t ∧ t ≤ hi)

/-- Presentation of an axis at B − WLEAD (R215); `ph`: the phase of the SDCLK edges that a listening module has observed.  The words of its three streams and of its DC-link stream are formed from
the bits, newest first, that end at e; in RUN the pipeline runs and its compare values are committed. -/
def State.clePresent (s00 : State) (a : Nat) (u v w dc : List Bool) (ph : Nat) : State :=
  let s := s00.sdSee a ph
  let c := s.cle a
  if c.doneB then s
  else
    let s0 := (s.advanceTo (c.b / 32 - s.get (SLOT_WIN a) SLOT_WIN_WLEAD)).modCle a fun x => { x with doneB := true }
    let osr := s0.get (SLOT_WIN a) SLOT_WIN_OSR
    let W := 32 * s0.winLen a
    let ts := c.e - W / 2
    let s1 := ((s0.sdWord a osr 0 u).sdWord a osr 1 v).sdWord a osr 2 w
    let cut := s1.cutIn a (c.e - W) c.e
    let gap := s1.clkGap a (c.e - W) c.e
    let s2 := if gap then (s1.setf TW_STAT TW_STAT_CLKGAP).count TW_CNT2 TW_CNT2_LO else s1
    let s3 := if cut then (s2.setf (SLOT_STAT a) SLOT_STAT_TRIPWIN).count (SLOT_CNT a) SLOT_CNT_TRIPWIN else s2
    let s4 := ((s3.wrN (SLOT_WEND a) ((c.e - c.b0) / 32 % 65536)).wrN (SLOT_TS a) (stampOf ts)).bankSwap a
    if !s4.flag (SLOT_STAT a) SLOT_STAT_RUN then s4.cleMeasure a ts osr dc
    else if s4.udcLost a && s4.get (SLOT_LIM a) SLOT_LIM_UDCHOLD ≤ (s4.cle a).udcRun then s4.udcExpired a
    else if s4.angOver a then s4.angLoss a
    else s4.cleCompute a ts osr dc (cut || gap)

def State.cleClrFlags (s : State) (a : Nat) : State := s.clrBits (SLOT_STAT a) 0x3F8
def State.cleClrCnt (s : State) (a : Nat) : State := s.wrN (SLOT_CNT a) 0
def State.cleLatClr (s : State) (k : Nat) : State := s.wrN (CLE_LAT k) 0

end Sys2Proof.Machine
end

