-- ==== Sys2Proof/Machine/Groom.lean ====
section
/-! DEFINITION. The Groom, stalls and locks (R523–R545). -/

namespace Sys2Proof.Machine

/-! ### The Groom (R524–R529) -/

/-- Items queued and in service that hold an unreserved place, or a reserved one. -/
def GroomSt.placed (g : GroomSt) (hw : Bool) : Nat :=
  (g.items.filter fun i => i.hw == hw).length + (g.svc.toList.filter fun o => match o with
    | some i => i.hw == hw
    | none => false).length
/-- The team has an item queued or in service. -/
def GroomSt.busyTeam (g : GroomSt) (flow : Nat) : Bool :=
  g.items.any (fun i => i.flow == flow) || g.svc.toList.any (fun o => match o with
    | some i => i.flow == flow
    | none => false)
/-- Eligible items in dispatch order: highest class first, then the order in which they became eligible. -/
def GroomSt.ready (g : GroomSt) : List GItem :=
  (List.range 4).flatMap fun c =>
    (g.items.filter fun i => i.cls == c && i.elig.isSome).mergeSort fun a b => decide (a.elig.getD 0 ≤ b.elig.getD 0)
def GroomSt.idle (g : GroomSt) : List Nat := idxWhere 8 fun c => (vget g.svc c none).isNone
/-- The items that come first in dispatch order, by their place in the order of eligibility: the first, and beyond each that is held
for its busy affinity core while another core is idle, the next (R527). -/
def groomFirsts (g : GroomSt) (t : Nat) : List GItem → List (Option Nat)
  | [] => []
  | i :: rest =>
    let held := match g.affinity.lookup i.flow with
      | some c => !g.idle.contains c && !g.idle.isEmpty && decide (t < i.held.getD t + g.afwin)
      | none => false
    i.elig :: (if held then groomFirsts g t rest else [])
/-- Items that come first in dispatch order keep the tick at which they did. -/
def State.groomHold (s : State) : State :=
  let g := s.groom
  let firsts := groomFirsts g s.tick g.ready
  { s with groom := { g with items := g.items.map fun i => if i.held.isNone && i.elig.isSome && firsts.contains i.elig then { i with held := some s.tick } else i } }
/-- Admission: a team's only item is eligible at once. -/
def State.groomAdmit (s : State) (i : GItem) : State :=
  let g := s.groom
  let e := !g.busyTeam i.flow
  { s with groom := { g with
      items := g.items ++ [{ i with ptick := BitVec.ofNat 32 s.tick, elig := if e then some g.eligNext else none, held := none }]
      eligNext := if e then g.eligNext + 1 else g.eligNext } }.groomHold
/-- POSTED 0, GROOM_FULL 1 as a post returns them. -/
def groomFull : Word := 1
/-- A post by the ring fetch (0), a hardware event source (1) or YC`src − 2` (R525). -/
def State.groomPost (s : State) (src flow ctl handler : Nat) (a0 : Word) (a1 a2 : Word64) : State :=
  let agent := if src < 2 then 0xFF else 0x10 + (src - 2)
  let i : GItem := ⟨flow, ctl % 4, nbit ctl 7, handler, a0, a1, a2, agent, 0, src == 1, none, none⟩
  let g := s.groom
  if src = 1 then
    if g.placed true < 1024 then s.groomAdmit i
    else
      match g.merged.find? fun m => m.1 == handler with
      | some _ => { s with groom := { g with merged := g.merged.map fun m => if m.1 = handler then (m.1, m.2.1, m.2.2.1, m.2.2.2 + 1) else m } }
      | none => { s with groom := { g with merged := g.merged ++ [(handler, flow, ctl, 1)] } }
  else if g.placed false < 15360 then { s.groomAdmit i with rdata := 0 }
  else if src = 0 then s else { s with rdata := groomFull }

/-- An item goes to a core. -/
def State.groomServe (s : State) (i : GItem) (c : Nat) : State :=
  let g := s.groom
  { s with groom := { g with
      items := g.items.filter fun j => j.elig != i.elig
      svc := vmod g.svc c fun _ => some i
      affinity := (i.flow, c) :: g.affinity.filter fun p => p.1 != i.flow } }
/-- The first item that the affinity rule lets go, with its core; items held on the way keep the tick they were held at (R527). -/
def groomPick (g : GroomSt) (t : Nat) : List GItem → Option (GItem × Nat)
  | [] => none
  | i :: rest =>
    match g.idle with
    | [] => none
    | low :: _ =>
      match g.affinity.lookup i.flow with
      | none => some (i, low)
      | some c =>
        if g.idle.contains c then some (i, c)
        else match i.held with
          | some h => if h + g.afwin ≤ t then some (i, low) else groomPick g t rest
          | none => none
/-- One dispatch. -/
def State.groomDispatch (s : State) : State :=
  if s.groom.stopped then s
  else
    let s1 := s.groomHold
    match groomPick s1.groom s1.tick s1.groom.ready with
    | some (i, c) => (s1.groomServe i c).groomHold
    | none => s1
/-- AFWIN of the first held item ends: it goes to the lowest-numbered idle core. -/
def State.groomAffinityEnd (s : State) : State :=
  let g := s.groom
  let away := fun (i : GItem) => match g.affinity.lookup i.flow with
    | some c => !g.idle.contains c && !g.idle.isEmpty
    | none => false
  match g.ready.find? fun i => i.held.isSome && away i with
  | some i => (s.advanceTo (i.held.getD 0 + s.groom.afwin)).groomDispatch
  | none => s
/-- A core reports its item done: the team's next item becomes eligible, and a place frees for a merged hardware event. -/
def State.groomDone (s : State) (c : Nat) : State :=
  let g := s.groom
  match vget g.svc c none with
  | none => s
  | some i =>
    let (pre, post) := g.items.span fun j => j.flow != i.flow
    let items := match post with
      | [] => pre
      | j :: rest => pre ++ { j with elig := some g.eligNext } :: rest
    let g1 := { g with svc := vmod g.svc c fun _ => none, items := items, eligNext := g.eligNext + 1 }
    let s1 := { s with groom := g1 }.groomHold
    match g1.merged, i.hw with
    | (h, f, ctl, n) :: rest, true =>
      ({ s1 with groom := { s1.groom with merged := rest } }).groomPost 1 f ctl h (BitVec.ofNat 32 n) 0 0
    | _, _ => s1

/-! ### Waits of agents (R535, R536) -/

/-- Every message up to the awaited SEQ has been popped; SEQ wraps to 1 after 65 535, so the nearer way round counts (DEDUCED). -/
def State.acked (s : State) (a : Nat) : Bool :=
  let g := s.agent a
  let q := s.stall a g.armStall
  g.armStall ≠ 31 && (q.ackSeq == g.armSeq || g.armSeq == 0 || (q.ackSeq != 0 && decide ((q.ackSeq + 65535 - g.armSeq) % 65535 < 32768)))
/-- What a WAIT read of an agent returns now; none while no condition holds (R535, R545). -/
def State.waitResult (s : State) (a : Nat) : Option Word :=
  let d := s.doorbellMasked a
  if s.acked a then some (BitVec.ofNat 32 d)
  else if d ≠ 0 then some (BitVec.ofNat 32 (2 ^ 29 + d)) else none
/-- A WAIT read: an agent with no condition waits; a host returns at once with NONE. -/
def State.waitRead (s : State) (a : Nat) : Option Word × State :=
  match s.waitResult a with
  | some w => (some w, s)
  | none => if a < 2 then (some 0x60000000, s) else (none, s.modAgent a fun g => { g with waiting := some s.tick })

/-- Both agents wait on an acknowledgement in their pair while each stall holds an unpopped message: since when (R536). -/
def State.crossSince (s : State) (a b : Nat) : Option Nat :=
  let ga := s.agent a
  let gb := s.agent b
  match ga.waiting, gb.waiting, (s.stall a b).msgs, (s.stall b a).msgs with
  | some ta, some tb, _ :: _, _ :: _ =>
    if ga.armStall = b && gb.armStall = a && a ≠ 28 && b ≠ 28 then some (max (max ta tb) (max (s.stall a b).since (s.stall b a).since)) else none
  | _, _, _, _ => none

/-! ### Locks (R539–R541) -/

/-- A read of LOCKn by agent index `a`; without the right it peeks. -/
def State.lockRead (s : State) (a n : Nat) (right : Bool) : Word × State :=
  match vget s.locks n none with
  | some o =>
    if !right then (BitVec.ofNat 32 (0xA0000000 + agentId o), s)
    else if o = a then (BitVec.ofNat 32 (0xC0000000 + agentId a), s) else (BitVec.ofNat 32 (0x80000000 + agentId o), s)
  | none =>
    if !right then (0xA0000000, s)
    else (0, { s with locks := vmod s.locks n fun _ => some a, lockPtr := vmod s.lockPtr (n / 32) fun _ => (a + 1) % 29 })
/-- A write to LOCKn: the owner's 0 releases it. -/
def State.lockWrite (s : State) (a n : Nat) (v : Word) : State :=
  if vget s.locks n none = some a then (if v = 0 then { s with locks := vmod s.locks n fun _ => none } else s)
  else s.modAgent a fun g => { g with badRel := incSat 16 g.badRel }
/-- Forced release of every lock that `p` owns. -/
def State.lockForce (s : State) (p : Nat → Bool) : State :=
  s.forEach (List.range 64) fun s n =>
    match vget s.locks n none with
    | some o => if p o then ({ s with locks := vmod s.locks n fun _ => none }).event .lockForced n o else s
    | none => s
/-- Simultaneous reads of one free lock by several agents: the first at or after the bank's pointer wins (R541). -/
def State.lockContend (s : State) (n : Nat) (as : List Nat) : Option Nat :=
  let p := vget s.lockPtr (n / 32) 0
  match as.filter (fun a => decide (p ≤ a)), as with
  | x :: xs, _ => some (xs.foldl min x)
  | [], x :: xs => some (xs.foldl min x)
  | [], [] => none

/-! ### The window of an agent (R544, R545) -/

/-- A read at an offset of the window of agent `a`; `right`: it may post, wait and acquire.  None: a WAIT that has to wait. -/
def State.winRead (s : State) (a off : Nat) (right : Bool) : Option Word × State :=
  let i := off / 256 % 32
  let r := off % 256
  if off % 4 ≠ 0 then (some 0, s)
  else if off < 0x1D00 && i < 29 then
    if !s.stallExists a i then (some 0, s)
    else
      let q := s.stall a i
      if r < 0x40 then (some (wmGet q.stg (r / 4)), s)
      else if r = 0x40 then (some (BitVec.ofNat 32 q.len), s)
      else if r = 0x44 then (if right then let (w, t) := s.post a i; (some w, t) else (some 0x80000000, s))
      else if r = 0x48 then (some (BitVec.ofNat 32 (q.ackSeq * 65536 + 8 * b2n q.discarded + q.msgs.length)), s)
      else (some 0, s.badAcc (0x30000 + off) false)
  else if 0x2000 ≤ off && off < 0x3D00 && i < 29 then
    if !s.stallExists i a then (some 0, s)
    else
      let q := s.stall i a
      let m := q.msgs.head?
      if r < 0x40 then (some ((m.bind fun m => m.words[r / 4]?).getD 0), s)
      else if r = 0x40 then (some (BitVec.ofNat 32 ((m.map fun m => agentId i * 2 ^ 24 + m.len * 65536 + m.seq).getD 0)), s)
      else if r = 0x48 then (some (BitVec.ofNat 32 ((m.map fun m => lsCode m.stamp).getD 0)), s)
      else if r = 0x4C then (some (BitVec.ofNat 32 ((m.map fun m => lsCode m.stamp / 2 ^ 32).getD 0)), s)
      else if r = 0x50 then (some 0, s)
      else if r = 0x54 then (some (BitVec.ofNat 32 q.msgs.length), s)
      else (some 0, s.badAcc (0x30000 + off) false)
  else
    let g := s.agent a
    match off with
    | 0x4000 => (some (BitVec.ofNat 32 (s.doorbell a)), s)
    | 0x4004 => (some (BitVec.ofNat 32 g.dbmask), s)
    | 0x4008 => (some (BitVec.ofNat 32 (g.armSeq * 65536 + g.armStall)), s)
    | 0x400C => if right then s.waitRead a else (some 0x60000000, s)
    | 0x4010 => (some (BitVec.ofNat 32 (b2n g.cross * 2 ^ 31 + g.peer)), s)
    | 0x4014 => (some (BitVec.ofNat 32 s.xtime), s)
    | 0x4018 => (some (BitVec.ofNat 32 g.badRel), s)
    | _ =>
      if 0x5000 ≤ off && off < 0x5100 then let (w, t) := s.lockRead a ((off - 0x5000) / 4) right; (some w, t)
      else (some 0, s.badAcc (0x30000 + off) false)

/-- A write at an offset of the window of agent `a`. -/
def State.winWrite (s : State) (a off : Nat) (v : Word) : State :=
  let i := off / 256 % 32
  let r := off % 256
  if off % 4 ≠ 0 then s
  else if off < 0x1D00 && i < 29 then
    if !s.stallExists a i then s
    else if r < 0x40 then s.modStall a i fun q => { q with stg := wmSet q.stg (r / 4) v }
    else if r = 0x40 then (if v.toNat % 128 ≤ 64 then s.modStall a i fun q => { q with len := v.toNat % 128 } else s)
    else if r ≤ 0x48 then s
    else s.badAcc (0x30000 + off) false
  else if 0x2000 ≤ off && off < 0x3D00 && i < 29 then
    if r = 0x50 then (if nbit v.toNat 0 && s.stallExists i a then s.pop a i else s)
    else if r ≤ 0x54 then s
    else s.badAcc (0x30000 + off) false
  else
    match off with
    | 0x4000 => s
    | 0x4004 => s.modAgent a fun g => { g with dbmask := v.toNat % 2 ^ 29 }
    | 0x4008 => s.modAgent a fun g => { g with armSeq := v.toNat / 65536, armStall := v.toNat % 32 }
    | 0x400C => s
    | 0x4010 => if nbit v.toNat 31 then s.modAgent a fun g => { g with cross := false } else s
    | 0x4014 => if a < 10 then { s with xtime := v.toNat % 65536 } else s
    | 0x4018 => s
    | _ => if 0x5000 ≤ off && off < 0x5100 then s.lockWrite a ((off - 0x5000) / 4) v else s.badAcc (0x30000 + off) false

/-! ### The rows -/

/-- An agent's right to post, wait and acquire: a host needs expert class SYS through PCIe (R544). -/
def State.winRight (s : State) (a : Nat) : Bool := if a = 0 then nbit (s.rdN SYS_EXPERT) 0 else a != 1
/-- The read of POST by agent `a` for receiver `b`. -/
def State.postRow (s : State) (a b : Nat) : State :=
  match s.winRead a (0x44 + 256 * b) (s.winRight a) with
  | (some w, t) => { t with rdata := w }
  | (none, t) => t
/-- The write of POP by agent `b` for sender `a`. -/
def State.popRow (s : State) (b a : Nat) : State :=
  if b < 2 && !s.winRight b then s.badAcc (0x32050 + 256 * a) true else s.winWrite b (0x2050 + 256 * a) 1
/-- The read of WAIT by agent `a`. -/
def State.waitRow (s : State) (a : Nat) : State :=
  match s.winRead a 0x400C (s.winRight a) with
  | (some w, t) => { t with rdata := w }
  | (none, t) => t
/-- A pending WAIT read returns once a condition holds. -/
def State.waitReturn (s : State) (a : Nat) : State :=
  match (s.agent a).waiting, s.waitResult a with
  | some _, some w => { s.modAgent a fun g => { g with waiting := none } with rdata := w }
  | _, _ => s
/-- The crossing detector ends both waits (R536). -/
def State.crossing (s : State) (a b : Nat) : State :=
  match s.crossSince a b with
  | some t =>
    if s.xtime = 0 then s
    else
      let s1 := s.advanceTo (t + 400 * s.xtime)
      let one := fun (s : State) (x y : Nat) => s.modAgent x fun g => { g with waiting := none, cross := true, peer := y }
      { (one (one s1 a b) b a).event .crossing a b with rdata := 0x40000000 }
  | none => s
/-- The read of LOCKn by agent `a`; `rivals`: the agents that read the lock in the same FCLK cycle.  Of those with the right the
pointer's order decides a free lock, and the others find it held by the winner (R541). -/
def State.lockAcquire (s : State) (a n : Nat) (rivals : List Nat) : State :=
  let win := if (vget s.locks n none).isNone then s.lockContend n ((a :: rivals).filter s.winRight) else none
  match win with
  | some w =>
    let t := (s.lockRead w n true).2
    { t with rdata := if w = a then 0 else if s.winRight a then (t.lockRead a n true).1 else 0xA0000000 }
  | none =>
    let (w, t) := s.lockRead a n (s.winRight a)
    { t with rdata := w }
def State.lockRelease (s : State) (a n : Nat) : State :=
  if a < 2 && !s.winRight a then s.badAcc (0x35000 + 4 * n) true else s.lockWrite a n 0

/-- Entry to Dawn empties the Groom and every stall and frees every lock (R528, R538, R540). -/
def State.groomDawn (s : State) : State :=
  { s.lockForce (fun _ => true) with
    groom := { afwin := s.groom.afwin }, stalls := [], agents := s.agents.map fun g => { g with waiting := none }
    lockPtr := Vector.replicate 2 0 }
/-- An LP leaves service: its inbound stalls are emptied and its locks freed (R538, R540). -/
def State.groomLpGone (s : State) (k : Nat) : State :=
  (s.forEach (List.range 29) fun s a => s.discardStall a (10 + k)).lockForce (fun o => o == 10 + k)

end Sys2Proof.Machine
end

