-- ==== Sys2Proof/Machine/Lp.lean ====
section
/-! DEFINITION. Loop processors: load budget (R53), memories and code banks (R270, R271, R297–R300), the loop data map
(R289–R292), interrupts, faults and the recovery law (R293–R296). -/

namespace Sys2Proof.Machine

def State.lp (s : State) (k : Nat) : LpSt := vget s.lps k {}
def State.modLp (s : State) (k : Nat) (f : LpSt → LpSt) : State := { s with lps := vmod s.lps k f }
/-- LPk_STAT MODE: 0 degraded, 1 normal, 2 recovery, 3 halted. -/
def State.lpMode (s : State) (k : Nat) : Nat := s.get (LP_STAT k) LP_STAT_MODE
def State.lpDeg (s : State) (k : Nat) : Bool := s.lpMode k != 1
/-- The axes an LP serves. -/
def State.served (s : State) (k : Nat) : List Nat := idxWhere 80 fun n => s.lpOf n == k
/-- The active bank: true for B. -/
def State.lpBank (s : State) (k : Nat) : Bool := s.flag (LP_STAT k) LP_STAT_BANK

/-! ### The run queue of an LP (R56) -/

/-- The runs that wait. -/
def State.queue (s : State) (k : Nat) : List RunReq := vget s.runQ k []
def State.modQueue (s : State) (k : Nat) (f : List RunReq → List RunReq) : State := { s with runQ := vmod s.runQ k f }
/-- The run at the head of an LP's queue has started in an earlier tick, its row being still to come (R56). -/
def State.headStarted (s : State) (k : Nat) : Bool :=
  match s.queue k with
  | r :: _ => (s.lp k).run.isNone && decide (max r.at_ (s.lp k).free < s.tick)
  | [] => false

/-! ### Code banks (R297, R298) -/

/-- Word `i` of a bank. -/
def State.codeWord (s : State) (k : Nat) (b : Bool) (i : Nat) : Word := wmGet s.mem.lpCode (32768 * k + 16384 * b2n b + i)
/-- A little-endian halfword at byte `o` of a bank. -/
def State.codeU16 (s : State) (k : Nat) (b : Bool) (o : Nat) : Nat := (s.codeWord k b (o / 4)).toNat / 65536 ^ (o / 2 % 2) % 65536
def State.codeU32 (s : State) (k : Nat) (b : Bool) (o : Nat) : Nat := (s.codeWord k b (o / 4)).toNat
/-- The bank holds the standard law. -/
def State.isStd (s : State) (k : Nat) (b : Bool) : Bool := if b then (s.lp k).stdB else (s.lp k).stdA
/-- The law slot of an axis (R300). -/
def State.lawSlot (s : State) (k a : Nat) : Nat := s.rdN (LP_LAWSEL k (a / 8)) / 16 ^ (a % 8) % 8
/-- Entry and cost of a slot's law: 0 position, 1 velocity, 2 network, 3 virtual. -/
def State.lawEntry (s : State) (k : Nat) (b : Bool) (slot kind : Nat) : Nat := s.codeU16 k b (64 + 16 * slot + 4 * kind)
def State.lawCost (s : State) (k : Nat) (b : Bool) (slot kind : Nat) : Nat := s.codeU16 k b (64 + 16 * slot + 4 * kind + 2)

/-- CRC-32 of the IEEE 802.3 polynomial, reflected, one bit at a time. -/
def crcBit (poly : Nat) : Nat → Nat → Nat
  | 0, c => c
  | k + 1, c => crcBit poly k (if c % 2 = 1 then (c / 2) ^^^ poly else c / 2)
def crcBytes (poly : Nat) : List Byte → Nat → Nat
  | [], c => c
  | b :: bs, c => crcBytes poly bs (crcBit poly 8 (c ^^^ b.toNat))
/-- CRC-32 (IEEE 802.3) and CRC-32C. -/
def crc32 (bs : List Byte) : Nat := crcBytes 0xEDB88320 bs 0xFFFFFFFF ^^^ 0xFFFFFFFF
def crc32c (bs : List Byte) : Nat := crcBytes 0x82F63B78 bs 0xFFFFFFFF ^^^ 0xFFFFFFFF

/-! ### Load budget (R53, R54) -/

/-- Cycles per second of `cost` cycles every `per` ticks. -/
def perSec (cost per : Nat) : Rat := mkRat (cost * 400000000) (max 1 per)
/-- A custom cost where bank `b` holds law code, else the standard one. -/
def State.costOf (s : State) (k : Nat) (b : Bool) (a kind std : Nat) : Nat :=
  if s.isStd k b then std else s.lawCost k b (s.lawSlot k a) kind
/-- The additions of R53 at the rate of the position law. -/
def State.addedPos (s : State) (a : Nat) : Nat :=
  let src := s.srcOf a
  let shaft := decide (0x80 ≤ s.get (AX_SRC a) AX_SRC_MSEL ∧ s.get (AX_SRC a) AX_SRC_MSEL < 0x90)
  (if src = 2 || (src = 3 && shaft) then 500 else 0) + (if src = 3 then 400 else 0)
    + (if (List.range 32).any (fun r => s.flag (RC_CFG r) RC_CFG_EN && s.get (RC_CFG r) RC_CFG_FAX == a) then 300 else 0)
    + (if a < 64 && s.aflag (AXL_RCFG a) AXL_RCFG_REN then 600 else 0)
/-- The demand of one axis on LPk under bank `b`. -/
def State.axisDemand (s : State) (k : Nat) (b : Bool) (a : Nat) : Rat :=
  let inj := if s.flag (LPINJ_STAT k) LPINJ_STAT_RUNNING && s.get (LPINJ_CFG k) LPINJ_CFG_AXIS == a then 200 else 0
  if a < 32 then
    perSec (s.costOf k b a 1 1800 + inj) (s.perVel a) + perSec (s.costOf k b a 0 2400 + s.addedPos a) (s.perPos a)
  else if a < 64 then perSec (s.costOf k b a 2 3600 + s.addedPos a + inj) s.frameLen
  else perSec (s.costOf k b a 3 800 + s.addedPos a + inj) (s.perPos a)
/-- The demand of an LP with a set of axes under bank `b`. -/
def State.demandOf (s : State) (k : Nat) (b : Bool) (axes : List Nat) : Rat :=
  axes.foldl (fun d a => d + s.axisDemand k b a)
    (perSec (if s.isStd k b then 2000 else s.codeU16 k b 22 + s.codeU16 k b 18) s.frameLen)
def State.lpDemand (s : State) (k : Nat) (b : Bool) : Rat := s.demandOf k b (s.served k)
/-- Within budget: at most 720 M cycles per second; a halted LP has no capacity (R606). -/
def State.inBudget (s : State) (k : Nat) : Bool :=
  if s.lpMode k = 3 then (s.served k).isEmpty else decide (s.lpDemand k (s.lpBank k) ≤ 720000000)
/-- LPk_STAT NAX follows the assignment. -/
def State.lpRegs (s : State) (k : Nat) : State := s.put (LP_STAT k) LP_STAT_NAX (s.served k).length
/-- LPk_DEMAND or LPk_DEMANDI as it reads: the demand with the active bank, or with the inactive one where it is VERIFIED (R304). -/
def State.demandReg (s : State) (k : Nat) (inactive : Bool) : Nat :=
  let b := s.lpBank k
  let ver := s.get (if b then LP_BANKA k else LP_BANKB k) LP_BANKA_STATE == 2
  if !inactive then (s.lpDemand k b).floor.toNat % 2 ^ 32
  else if ver then (s.lpDemand k (!b)).floor.toNat % 2 ^ 32 else 0

/-! ### VERIFY (R298) -/

def bankReg (k : Nat) (b : Bool) : Nat := if b then LP_BANKB k else LP_BANKA k
/-- State-map entry `i`: source, destination, words. -/
def State.mapEntry (s : State) (k : Nat) (b : Bool) (i : Nat) : Nat × Nat × Nat :=
  let o := s.codeU32 k b 24 + 12 * i
  (s.codeU32 k b o, s.codeU32 k b (o + 4), s.codeU32 k b (o + 8))
/-- The kinds of law that an axis needs. -/
def kindsOf (a : Nat) : List Nat := if a < 32 then [0, 1] else if a < 64 then [2] else [3]
/-- The first failing check of VERIFY on an image's words, in the order of R298 and coded as VRES; 0 where all hold. -/
def State.verifyImage (s : State) (k : Nat) (b : Bool) : Nat :=
  let len := s.codeU32 k b 8
  let nW := len / 4
  let entries := [s.codeU16 k b 16, s.codeU16 k b 20] ++ (List.range 32).map fun i => s.codeU16 k b (64 + 4 * i)
  let smap := s.codeU32 k b 24
  let smapn := s.codeU16 k b 28
  let maps := (List.range (min 64 smapn)).map (s.mapEntry k b)
  if s.codeU32 k b 0 ≠ 0x4D4F4C50 || s.codeU16 k b 4 ≠ 0x0100 then 1
  else if len < 256 || 65536 < len || len % 4 ≠ 0 then 2
  else if crc32 (bytesOf ((List.range nW).map fun i => if i = 3 then 0 else s.codeWord k b i)) ≠ s.codeU32 k b 12 then 3
  else if entries.any (fun e => decide (e ≠ 0xFFFF ∧ nW ≤ e)) || decide (len < smap + 12 * smapn) then 4
  else if 64 < smapn || maps.any (fun m => decide (131072 < m.1 + 4 * m.2.2 ∨ 131072 < m.2.1 + 4 * m.2.2))
      || 4096 < maps.foldl (fun n m => n + m.2.2) 0 then 5
  else if (List.range 32).any (fun i => s.codeU16 k b (64 + 4 * i) != 0xFFFF && s.codeU16 k b (66 + 4 * i) == 0)
      || (s.served k).any (fun a => (kindsOf a).any fun q => s.lawEntry k b (s.lawSlot k a) q == 0xFFFF) then 4
  else 0
/-- A bank that holds the firmware's own standard image, whose words the spec does not give: the model keeps no words for it. -/
def State.isBuilt (s : State) (k : Nat) (b : Bool) : Bool := s.isStd k b && s.codeWord k b 0 == 0
/-- VERIFY of a bank (R298): the image, then the demand with its costs.  The standard image as the firmware loads it holds a law in slot 0 alone
and passes the checks of its words (DEDUCED: the firmware verifies it). -/
def State.verifyCheck (s : State) (k : Nat) (b : Bool) : Nat :=
  let r := if s.isBuilt k b then (if (s.served k).any fun a => s.lawSlot k a != 0 then 4 else 0) else s.verifyImage k b
  if r ≠ 0 then r else if decide (720000000 < s.lpDemand k b) then 6 else 0
/-- The length in bytes of the image in a bank. -/
def State.imageLen (s : State) (k : Nat) (b : Bool) : Nat :=
  if s.isBuilt k b then 256 + 4 * Config.stdLen.val else min 65536 (s.codeU32 k b 8)

/-- VERIFY of a bank starts. -/
def State.lpVerify (s : State) (k : Nat) (b : Bool) : State :=
  match (s.lp k).verify with
  | some _ => s
  | none => (s.put (bankReg k b) LP_BANKA_VBUSY 1).modLp k fun l => { l with verify := some (b, s.tick) }
/-- VERIFY of a bank ends after LEN/8 + 64 LCLK cycles. -/
def State.verifyDone (s : State) (k : Nat) : State :=
  match (s.lp k).verify with
  | none => s
  | some (b, t) =>
    let len := s.imageLen k b
    let std := s.isBuilt k b || nbit (s.codeU16 k b 6) 0
    let s1 := (s.advanceTo (t + (len / 8 + 64 + 1) / 2)).modLp k fun l => { l with stdA := if b then l.stdA else std, stdB := if b then std else l.stdB }
    let r := s1.verifyCheck k b
    let s2 := ((s1.put (bankReg k b) LP_BANKA_VBUSY 0).put (bankReg k b) LP_BANKA_VRES r).put (bankReg k b) LP_BANKA_STATE (if r = 0 then 2 else 3)
    let s3 := (s2.put (bankReg k b) LP_BANKA_LENW (if r = 0 then len / 4 else 0)).modLp k fun l => { l with verify := none }
    (s3.lpRegs k).resolve .verify k (if r = 0 then .ok else .verifyBad) r
/-- A bank's state becomes LOADED; LENW is that of a verified image alone. -/
def State.bankMark (s : State) (k : Nat) (b : Bool) : State := (s.put (bankReg k b) LP_BANKA_STATE 1).put (bankReg k b) LP_BANKA_LENW 0
/-- A VERIFY in progress on a bank is aborted. -/
def State.verifyAbort (s : State) (k : Nat) (b : Bool) : State :=
  (((s.put (bankReg k b) LP_BANKA_VBUSY 0).put (bankReg k b) LP_BANKA_VRES 7).modLp k fun l => { l with verify := none }).resolve .verify k
    .verifyBad 7
/-- A bank becomes LOADED: a write to it, also one that aborts its VERIFY.  It no longer holds the standard law until a VERIFY finds it. -/
def State.bankLoaded (s : State) (k : Nat) (b : Bool) : State :=
  let s1 := (s.bankMark k b).modLp k fun l => { l with stdA := l.stdA && b, stdB := l.stdB && !b }
  match (s.lp k).verify with
  | some (vb, _) => if vb = b then s1.verifyAbort k b else s1
  | none => s1
/-- A new assignment or law selection returns a verified inactive bank to LOADED; one in the tick in which the bank's VERIFY ends leaves it
LOADED (R302). -/
def State.bankStale (s : State) (k : Nat) : State :=
  let b := !s.lpBank k
  let ends := match (s.lp k).verify with
    | some (vb, t) => vb == b && s.tick == t + (s.imageLen k b / 8 + 64 + 1) / 2
    | none => false
  let s1 := if ends then (s.bankMark k b).verifyAbort k b else if s.get (bankReg k b) LP_BANKA_STATE = 2 then s.bankMark k b else s
  s1.lpRegs k
/-- A host write to word `i` of the local memory of LPk: bank A, bank B, data (R271). -/
def State.lpMemWrite (s : State) (k i : Nat) (v : Word) : State :=
  let a := 0x400000 + 0x40000 * k + 4 * i
  if i < 32768 then
    let b := decide (16384 ≤ i)
    if b = s.lpBank k then s.badAcc a true
    else ({ s with mem := { s.mem with lpCode := wmSet s.mem.lpCode (32768 * k + i) v } }).bankLoaded k b
  else if s.inMorning then { s with mem := { s.mem with lpData := wmSet s.mem.lpData (32768 * k + (i - 32768)) v } }
  else s.badAcc a true

/-! ### Swap (R299) -/

def copyWords (m : WordMem) (src dst : Nat) : Nat → WordMem
  | 0 => m
  | n + 1 => copyWords (wmSet m dst (wmGet m src)) (src + 1) (dst + 1) n
/-- A register set of which nothing is known: every register but the stacks, which are empty (DESIGN CHOICE), holds a free value from number `n`. -/
def LpSet.free (n : Nat) : LpSet :=
  let w := fun i => Config.freeWord (n + i)
  let bit := fun i => (w 72).getLsbD i
  let acc := Vector.ofFn fun i : Fin 4 => ((w (16 + i) ++ w (20 + i) ++ w (24 + i)) : BitVec 96).setWidth 80
  { d := Vector.ofFn fun i => w i, acc := acc, accV := acc
    x := Vector.ofFn fun i => w (32 + i), xb := Vector.ofFn fun i => w (40 + i)
    xl := Vector.ofFn fun i => (w (48 + i)).setWidth 19, xs := Vector.ofFn fun i => (w (56 + i)).setWidth 16
    n := bit 0, z := bit 1, c := bit 2, v := bit 3, av := bit 4, avs := bit 5, inx := bit 6, satf := bit 7, satm := bit 8, ie := bit 9 }
/-- Registers are not carried across a swap (R299): what the new image finds in them is open. -/
def State.lpForget (s : State) (k : Nat) : State :=
  { s.modLp k fun l => { l with main := LpSet.free s.freeCount, shadow := LpSet.free (s.freeCount + 80) } with freeCount := s.freeCount + 160 }
/-- The banks swap and the new image's state map is copied within local data. -/
def State.bankFlip (s00 : State) (k : Nat) : State :=
  let s := s00.lpForget k
  let b := !s.lpBank k
  let n := min 64 (s.codeU16 k b 28)
  let m := (List.range n).foldl (fun m i =>
    let (src, dst, w) := s.mapEntry k b i
    copyWords m (32768 * k + src / 4 % 32768) (32768 * k + dst / 4 % 32768) (min w 4096)) s.mem.lpData
  let s1 := { s with mem := { s.mem with lpData := m } }
  let words := (List.range n).foldl (fun t i => t + (s.mapEntry k b i).2.2) 0
  ((((s1.putB (LP_STAT k) LP_STAT_BANK b).putB (LP_CTRL k) LP_CTRL_ACTIVE b).count (LP_CNT k) LP_CNT_SWAPS).modLp k fun l =>
    { l with swapWait := none, free := max l.free s.tick + (words + 1) / 2 }).lpRegs k
/-- A token's swap at the present frame boundary (R63, R299): a run or a handler that began before it ends on the old bank first.  A standard run
is made as a whole by its row, so a swap that waits for one is made before the first run that starts later. -/
def State.lpSwap (s : State) (k : Nat) : State :=
  let s1 := s.clrf (LP_STAT k) LP_STAT_SWAPPEND
  if (s.lp k).run.isSome || (s.lp k).sh || s.headStarted k || s.tick < (s.lp k).free then s1.modLp k fun l => { l with swapWait := some s.tick }
  else s1.bankFlip k
/-- ACTIVE written in Morning: only a VERIFIED bank is taken. -/
def State.lpActivate (s : State) (k : Nat) (b : Bool) : State :=
  if s.get (bankReg k b) LP_BANKA_STATE = 2 && s.inMorning then
    ((s.putB (LP_CTRL k) LP_CTRL_ACTIVE b).putB (LP_STAT k) LP_STAT_BANK b).lpRegs k
  else s

/-! ### Loop data map (R290–R292) -/

/-- The inputs of an axis' map window: those of its latest boundary. -/
def State.mapIn (s : State) (a : Nat) : AxIn := let l := s.loop a; if l.inp.b < l.inpV.b then l.inpV else l.inp
/-- The unwrapped instant (1/32 ticks) of a stamp coded as EPn_PSTAMP: the latest at or before now. -/
def State.unstamp (s : State) (c : Nat) : Nat :=
  let now8 := 8 * s.tick + 7
  (now8 - (now8 - c) % 2 ^ 32) * 4
/-- A read of the map window of axis `a` at word offset. -/
def State.mapRead (s : State) (k a off : Nat) : Word :=
  let i := s.mapIn a
  let hi := fun (x : Int) => BitVec.ofInt 32 (x / 2 ^ 32)
  let lo := fun (x : Int) => BitVec.ofInt 32 x
  if s.lpOf a ≠ k then 0
  else if 0x80 ≤ off then wmGet s.mem.user (32 * a + (off - 0x80) / 4)
  else match off with
    | 0x00 => lo i.wpos | 0x04 => hi i.wpos | 0x08 => lo i.wvel | 0x0C => hi i.wvel
    | 0x10 => lo i.speed
    | 0x14 => BitVec.ofNat 32 (32 * b2n i.velValid + 16 * b2n i.posValid + 8 * b2n i.refd1 + 4 * b2n i.refd2 + 2 * b2n (i.corr != 0) + b2n i.newPub)
    | 0x18 => lo (i.corr / 2 ^ 24)
    | 0x20 => lo (i.b / 32 : Nat) | 0x24 => hi (i.b / 32 : Nat)
    | 0x28 => lo i.npos | 0x2C => hi i.npos
    | 0x30 => lo (lsCode (i.nstamp * 65536)) | 0x34 => hi (lsCode (i.nstamp * 65536))
    | 0x38 => lo (s.targetOf a i.b) | 0x3C => hi (s.targetOf a i.b)
    | _ => 0
/-- The fourth-leg compare value of an axis enters its shadow. -/
def State.mapCmp4 (s : State) (a : Nat) (v : Word) : State :=
  match s.fourth a with
  | some j => ((s.flyTo a).wrN (PWMX_CMP j) (v.toNat % 2 ^ 25)).pwmStage a (PWMX_CMP j) true
  | none => s
/-- The direct current references are published (R291). -/
def State.mapIq (s : State) (a : Nat) (v : Word) : State :=
  (s.latNote a (s.mapIn a).b).modLoop a fun l =>
    { l with iRefOld := l.iRef, iRef := some (l.idStage, v.toInt), iRefAt := s.tick + 1 }
/-- Law code publishes the angle, the speed and their stamp (R291). -/
def State.mapAng (s : State) (a : Nat) (v : Word) : State :=
  (s.latNote a (s.mapIn a).b).modLoop a fun l =>
    { l with lawAngOld := l.lawAng, lawAng := some (l.angStage, l.weStage, s.unstamp v.toNat), lawAngAt := s.tick + 1 }
/-- A write into the map window of axis `a` by LPk; `handler`: only USER and EVENT take effect (R294). -/
def State.mapWrite (s : State) (k a off : Nat) (v : Word) (handler : Bool) : State :=
  if s.lpOf a ≠ k || off % 4 ≠ 0 then s
  else if 0x80 ≤ off then { s with mem := { s.mem with user := wmSet s.mem.user (32 * a + (off - 0x80) / 4) v } }
  else if off = 0x60 then (s.event .mapEvent a v.toInt).groomPost 1 0x80 0 0 v 0 0
  else if handler || 64 ≤ a then s
  else if off = 0x40 then (s.publishT a v.toInt (s.mapIn a).b).modLoop a fun l => { l with tRefAt := s.tick + 1, iRefAt := s.tick + 1 }
  else if 32 ≤ a then s
  else match off with
    | 0x44 => s.modLoop a fun l => { l with idStage := v.toInt }
    | 0x48 => s.mapIq a v
    | 0x4C => s.modLoop a fun l => { l with angStage := v.toNat }
    | 0x50 => s.modLoop a fun l => { l with weStage := v.toInt }
    | 0x54 => s.mapAng a v
    | 0x58 => s.mapCmp4 a v
    | 0x5C => if nbit v.toNat 0 then s.pwmCmpc a else s
    | _ => s
/-- A map-field write as a row: by the LP that serves the axis. -/
def State.mapRow (s : State) (a off : Nat) (v : Word) : State := s.mapWrite (s.lpOf a) a off v (s.lp (s.lpOf a)).sh

/-! ### Interrupts (R293, R294) -/

/-- A port serves an axis of the LP. -/
def State.portServes (s : State) (k p : Nat) : Bool :=
  (s.served k).any fun a =>
    (decide (a < 64) && (s.get (AXL_LFB a) AXL_LFB_FB1 == p || s.get (AXL_LFB a) AXL_LFB_FB2 == p))
      || (decide (a < 32) && (s.get (SLOT_CFG a) SLOT_CFG_CPORT == p || s.get (SLOT_CFG a) SLOT_CFG_HPORT == p))
/-- An event is a source of interrupt 1 or 2 of an LP. -/
def State.irqOf (s : State) (k : Nat) (e : Event) : Nat :=
  match e.kind with
  | .indexSlip | .indexMiss | .wireFault => if s.portServes k e.unit then 2 else 0
  | .shaftCoast | .shaftLost => if (s.followers e.unit).any (fun a => s.lpOf a == k) then 4 else 0
  | _ => 0
/-- The pending sources. -/
def State.lpPend (s : State) (k : Nat) : Nat :=
  (s.events.drop (s.lp k).evSeen).foldl (fun m e => m ||| s.irqOf k e) ((s.lp k).evPend ||| if s.doorbellMasked (10 + k) ≠ 0 then 1 else 0)

/-- Replace one part of an accumulator: 0 L [31:0], 1 H [63:32], 2 G [79:64], 3 the guard bits [39:32] of degraded mode (R283). -/
def setPart (a : BitVec 80) (part : Nat) (v : Word) : BitVec 80 :=
  match part with
  | 0 => a.extractLsb' 32 48 ++ v
  | 1 => a.extractLsb' 64 16 ++ v ++ a.extractLsb' 0 32
  | 3 => (v.extractLsb' 0 8 ++ a.extractLsb' 0 32).signExtend 80
  | _ => v.extractLsb' 0 16 ++ a.extractLsb' 0 64
/-- A write in flight is seen. -/
def applyPend (q : LpSet) (w : PendWr) : LpSet :=
  match w with
  | .d i v => { q with d := vmod q.d i fun _ => v }
  | .av i v => { q with accV := vmod q.accV i fun _ => v }
  | .acc i v => { q with acc := vmod q.acc i fun _ => v, accV := vmod q.accV i fun _ => v }
  | .accPart i p v => { q with acc := vmod q.acc i fun a => setPart a p v, accV := vmod q.accV i fun a => setPart a p v }
  | .x i v => { q with x := vmod q.x i fun _ => v }
  | .xb i v => { q with xb := vmod q.xb i fun _ => v }
  | .xl i v => { q with xl := vmod q.xl i fun _ => v }
  | .xs i v => { q with xs := vmod q.xs i fun _ => v }
  | .flags n z c v => { q with n := n, z := z, c := c, v := v }
  | .sr m i => { q with satm := m, ie := i }
def LpSet.flush (q : LpSet) : LpSet := { q.pipe.foldl (fun q w => applyPend q w.2) q with pipe := [] }
/-- One slot on: writes that are due are seen. -/
def LpSet.age (q : LpSet) : LpSet :=
  let p := q.pipe.map fun w => (w.1 - 1, w.2)
  let (due, wait) := p.partition fun w => w.1 == 0
  { due.foldl (fun q w => applyPend q w.2) q with pipe := wait }

/-- An enabled interrupt is taken (R293); IE is that of the slot that would come next (R286). -/
def State.lpInterrupt (s : State) (k : Nat) : State :=
  let l := s.lp k
  let m := s.lpPend k &&& s.get (LP_CTRL k) LP_CTRL_IRQEN
  if m = 0 || l.sh || !l.main.age.ie || l.target.isSome || l.waitD.isSome || 2 ≤ s.lpMode k then s
  else
    ((s.count (LP_CNT k) LP_CNT_IRQS).setf (LP_STAT k) LP_STAT_IRQACT).modLp k fun l =>
      { l with
        main := l.main.flush, shadow := { l.shadow.flush with ie := false }, sh := true, resume := l.pc
        pc := s.codeU16 k (s.lpBank k) 16, evSeen := s.events.length, evPend := s.lpPend k &&& 6 &&& (7 - m) }

/-! ### Faults and the recovery law (R295, R296) -/

/-- The tick after a fault: causes are bits CSTK 5, REPSTK 4, ADDR 3, ILL 2, RES 1, FPAR 0. -/
def State.lpFault (s : State) (k causes : Nat) : State :=
  if 3 ≤ s.lpMode k || causes % 64 = 0 then s
  else
    let l := s.lp k
    let many := ((List.range 6).filter fun i => nbit causes i).length
    let second := s.lpMode k == 2
    let s0 := s.advanceTo (s.tick + 1)
    let s1 := ((s0.put (LP_FAULT k) LP_FAULT_CAUSE (causes % 64)).putB (LP_FAULT k) LP_FAULT_MULTI (1 < many)).put (LP_FAULT k) LP_FAULT_PC l.pc
    let s2 := (s1.put (LP_STAT k) LP_STAT_MODE (if second then 3 else 2)).clrf (LP_STAT k) LP_STAT_IRQACT
    let s3 := (s2.modLp k fun l => { l with run := none, sh := false, target := none, waitD := none, pc := 16384 }).groomLpGone k
    if !second then s3.event .lpFault k causes
    else
      let s4 := s3.setf (LP_FAULT k) LP_FAULT_SECOND
      let s5 := s4.forEach (s.served k) fun s a =>
        if a < 32 then s.cleLeave a else if a < 64 then (s.wrN (AXL_TREF a) 0).modLoop a fun l => { l with tRef := 0 } else s
      s5.event .lpHalted k causes

/-- A recovery-law coefficient: mantissa bits [31:16], the shift reduced by 16. -/
def recCoef (m : Int) (sh : Nat) (x : Int) : Int := coef (m / 65536) (sh - 16) x
/-- The recovery law of one axis at its latest position boundary, once for each (R296): along the axis's own Dusk ramp, which starts with the first
such run. -/
def State.recoveryRun (s00 : State) (n : Nat) : State :=
  let b := (s00.loop n).inp.b
  if s00.lpMode (s00.lpOf n) ≠ 2 || !s00.running || (s00.loop n).posAt == some b then s00
  else
    let s := s00.modLoop n fun l => { l with inpV := l.inp }
    let l := s.loop n
    let active := l.enabled || decide (64 ≤ n)
    let mark := fun (s : State) => s.modLoop n fun l => { l with posAt := some b }
    if l.toff.isSome then mark (s.torqueOffStep n)
    else
      let s0 := if (s.mo n).ramp.isSome || (s.mo n).off || !active then s else s.startRamp n .lpFault
      let s1 := s0.setpoint n b
      if 64 ≤ n || !l.enabled then mark s1
      else if !l.inp.posValid || !l.inp.velValid then mark ((s1.torqueOff n).torqueOffStep n)
      else
        let (pact, s2) := s1.actual n
        let e := sat32 (shrConv (wrapS 64 (s2.rd64I (AX_SPPOS n) - pact)) 16)
        let vlim := s2.ardI (AXL_VLIM n)
        let vc := clampI (-vlim) vlim (recCoef (s2.ardI (AXL_KPP n)) (s2.aget (AXL_SH0 n) AXL_SH0_S4) e)
        let (vm, _, s3) := s2.measured n
        let T := clampI (s3.ardI (AXL_TLIMN n)) (s3.ardI (AXL_TLIMP n)) (recCoef (s3.ardI (AXL_KPV n)) (s3.aget (AXL_SH1 n) AXL_SH1_S4) (sat32 (vc - vm)))
        if (s3.mo n).ramp.isNone && decide (64 * absI vm < vlim) then (s3.torqueOff n).torqueOffStep n else s3.publishT n T b

end Sys2Proof.Machine
end

