-- ==== Sys2Proof/Machine/Molpin.lean ====
section
/-! DEFINITION. The instructions of a Molpin loop processor (R270–R288, R301): one command is one instruction issued at the
LP's PC, on the register set in use, with the delays of R286. -/

namespace Sys2Proof.Machine

/-! ### Register sets -/

def LpSt.cur (l : LpSt) : LpSet := if l.sh then l.shadow else l.main
def LpSt.putCur (l : LpSt) (q : LpSet) : LpSt := if l.sh then { l with shadow := q } else { l with main := q }
def LpSet.D (q : LpSet) (i : Nat) : Word := vget q.d i 0
/-- A D pair as a 64-bit value: the low word in the even register. -/
def LpSet.D64 (q : LpSet) (i : Nat) : Word64 := q.D (2 * i + 1) ++ q.D (2 * i)
def LpSet.X (q : LpSet) (i : Nat) : Word := vget q.x i 0
def LpSet.put (q : LpSet) (slots : Nat) (w : PendWr) : LpSet := { q with pipe := q.pipe ++ [(slots, w)] }
def LpSet.putD (q : LpSet) (slots i : Nat) (v : Word) : LpSet := q.put slots (.d i v)
def LpSet.putPair (q : LpSet) (slots i : Nat) (v : Word64) : LpSet :=
  (q.putD slots (2 * i) (v.setWidth 32)).putD slots (2 * i + 1) ((v >>> 32).setWidth 32)
def LpSet.flagsN (q : LpSet) : Nat := 8 * b2n q.v + 4 * b2n q.c + 2 * b2n q.n + b2n q.z

/-! ### Address generation (R274, R275) -/

def revBits : Nat → Nat → Nat
  | 0, _ => 0
  | k + 1, v => (v % 2) * 2 ^ k + revBits k (v / 2)
/-- Post-modification of X`i` by `step` (R274, R275). -/
def LpSet.modX (q : LpSet) (i : Nat) (step : Int) : LpSet :=
  let x := (q.X i).toNat
  let xb := (vget q.xb i 0).toNat
  let xl := (vget q.xl i 0).toNat
  let len := xl % 2 ^ 18
  let v : Int :=
    if nbit xl 18 then
      let k := Nat.log2 (max 1 len)
      let o := (((x : Int) - xb) % (2 ^ k : Nat)).toNat
      xb + revBits k ((revBits k o + revBits k (step % (2 ^ k : Nat)).toNat) % 2 ^ k)
    else if len ≠ 0 then xb + ((x : Int) - xb + step) % len
    else x + step
  { q with x := vmod q.x i fun _ => BitVec.ofInt 32 v }
def LpSet.xsI (q : LpSet) (i : Nat) : Int := (vget q.xs i 0).toInt
/-- The address of a memory operand, and the set after the modification. -/
def LpSet.addr (q : LpSet) (i : Nat) : AMode → Nat × LpSet
  | .ind => ((q.X i).toNat, q)
  | .inc => ((q.X i).toNat, q.modX i (q.xsI i))
  | .dec => ((q.X i).toNat, q.modX i (-q.xsI i))
  | .addD j => ((q.X i).toNat, q.modX i (q.D j).toInt)
  | .off o => (((q.X i).toInt + o.toInt) % 4294967296 |>.toNat, q)

/-! ### Data accesses (R270, R276) -/

/-- What a data access finds: a fault, a WAIT that has to wait, or a value. -/
inductive LpGot where
  | fault
  | waits
  | word (v : Word)
  deriving DecidableEq, Repr

/-- A 32-bit read by LPk. -/
def State.lpRead (s : State) (k a : Nat) : LpGot × State :=
  if a % 4 ≠ 0 then (.fault, s)
  else if a < 0x20000 then (.word (wmGet s.mem.lpData (32768 * k + a / 4)), s)
  else if a < 0x25000 then (.word (s.mapRead k ((a - 0x20000) / 256) (a % 256)), s)
  else if 0x28000 ≤ a && a < 0x2D000 then
    let n := (a - 0x28000) / 256
    let r := AXL_LCFG n + a % 256
    (.word (if 64 ≤ n then 0 else if (loopWords n).contains r then s.ard r else s.rd r), s)
  else if 0x40000 ≤ a && a < 0x80000 then (.word (wmGet s.mem.pool ((a - 0x40000) / 4)), s)
  else if 0x800000 ≤ a && a < 0x1000000 then (.word (wmGet s.mem.sram ((a - 0x800000) / 4)), s)
  else if 0x1000000 ≤ a && a < 0x1010000 then
    match s.winRead (10 + k) (a - 0x1000000) true with
    | (some w, t) => (.word w, t)
    | (none, t) => (.waits, t)
  else (.fault, s)
/-- A 32-bit write by LPk; none for a fault. -/
def State.lpWrite (s : State) (k a : Nat) (v : Word) : Option State :=
  if a % 4 ≠ 0 then none
  else if a < 0x20000 then some { s with mem := { s.mem with lpData := wmSet s.mem.lpData (32768 * k + a / 4) v } }
  else if a < 0x25000 then some (s.mapWrite k ((a - 0x20000) / 256) (a % 256) v (s.lp k).sh)
  else if 0x28000 ≤ a && a < 0x2D000 then some s
  else if 0x40000 ≤ a && a < 0x80000 then some { s with mem := { s.mem with pool := wmSet s.mem.pool ((a - 0x40000) / 4) v } }
  else if 0x800000 ≤ a && a < 0x1000000 then some { s with mem := { s.mem with sram := wmSet s.mem.sram ((a - 0x800000) / 4) v } }
  else if 0x1000000 ≤ a && a < 0x1010000 then some (s.winWrite (10 + k) (a - 0x1000000) v)
  else none

/-! ### Issue -/

/-- What an instruction leaves: the module, its register set, the faults it raised (coded as in LPk_FAULT), a branch target
that acts after the delay slot, and a next PC of its own. -/
structure LpOut where
  s : State
  q : LpSet
  fault : Nat := 0
  target : Option Nat := none
  jump : Option Nat := none
  waitD : Option Nat := none

def faultILL : Nat := 4
def faultADDR : Nat := 8
def faultREPSTK : Nat := 16
def faultCSTK : Nat := 32

/-- After the instruction at `last`: repeat levels that end there, the innermost first (R284). -/
def repNext (last next : Nat) : List RepLv → Nat × List RepLv
  | [] => (next, [])
  | r :: rs =>
    if r.last = last then (if 1 < r.left then (r.first, { r with left := r.left - 1 } :: rs) else repNext last next rs)
    else (next, r :: rs)
/-- A taken branch (B, BL) pops every level whose body its target leaves, with those inside it (R285).  CALL and RET, which R285 names beside the
branch, pop none: a level outlasts a subroutine that its body calls (DEDUCED). -/
def repLeave (t : Nat) (rs : List RepLv) : List RepLv :=
  if rs.any fun r => !(decide (r.first ≤ t) && decide (t ≤ r.last)) then
    ((rs.reverse).takeWhile fun r => decide (r.first ≤ t) && decide (t ≤ r.last)).reverse
  else rs

/-- Issue one instruction of `words` words at the PC of LPk.  `ctl`: a branch, CALL, RET, END or RTI, which may not stand in the last two places
of a repeat body (R285); a branch, CALL or RET (`ctl` without `stop`) may not stand in a delay slot either (R288: DEDUCED for CALL and RET,
which have one of their own); `degOk`: allowed in degraded mode.  A fetch outside the code space is an ADDR fault (R270). -/
def State.lpIssue (s : State) (k words : Nat) (ctl degOk : Bool) (f : State → LpSet → LpOut) (stop : Bool := false) : State :=
  let l := s.lp k
  if s.lpMode k = 3 || l.waitD.isSome then s
  else
    let q := l.cur.age
    let s0 := s.modLp k fun l => l.putCur q
    let last := l.pc + words - 1
    let bad := (ctl && ((l.target.isSome && !stop) || q.rep.any fun r => r.last == last || r.last == last + 1)) || (s.lpDeg k && !degOk)
    if 20480 ≤ last then s0.lpFault k faultADDR
    else if bad then s0.lpFault k faultILL
    else
      let o := f s0 q
      if o.fault ≠ 0 then o.s.lpFault k o.fault
      else
        let (pc, rep) := match l.target, o.jump with
          | some t, _ => (t, o.q.rep)
          | none, some t => (t, o.q.rep)
          | none, none => repNext last (l.pc + words) o.q.rep
        o.s.modLp k fun l => { l.putCur { o.q with rep := rep } with pc := pc, target := o.target, waitD := o.waitD }

/-! ### Parallel moves (R301) -/

/-- The fault that a parallel move raises on its own. -/
def State.lpMoveFault (s : State) (k : Nat) (q0 : LpSet) (kind : MvKind) (x : Nat) : Nat :=
  match kind with
  | .none => 0
  | .ill => faultILL
  | .load => match (s.lpRead k (q0.X x).toNat).1 with
    | .fault => faultADDR
    | _ => 0
  | .store => if (s.lpWrite k (q0.X x).toNat 0).isNone then faultADDR else 0
/-- One parallel move through X`x`; stores read the value before the instruction.  After a fault of the other slot it only adds its own
cause (R295). -/
def lpMove (k : Nat) (q0 : LpSet) (kind : MvKind) (d x : Nat) (o : LpOut) : LpOut :=
  if o.fault ≠ 0 then { o with fault := o.fault ||| o.s.lpMoveFault k q0 kind x }
  else
    let a := (q0.X x).toNat
    match kind with
    | .none => o
    | .ill => { o with fault := faultILL }
    | .load =>
      match o.s.lpRead k a with
      | (.fault, t) => { o with s := t, fault := faultADDR }
      | (.waits, t) => { o with s := t, q := o.q.modX x (q0.xsI x), waitD := some d }
      | (.word v, t) => { o with s := t, q := (o.q.modX x (q0.xsI x)).putD 2 d v }
    | .store =>
      match o.s.lpWrite k a (q0.D d) with
      | none => { o with fault := faultADDR }
      | some t => { o with s := t, q := o.q.modX x (q0.xsI x) }
def lpMove1 (k : Nat) (q0 : LpSet) (m : Move) (o : LpOut) : LpOut := lpMove k q0 m.kind m.d m.x o
/-- The two slots of classes 0x3 (MOVP), 0x4 and 0x5, in slot order. -/
def lpMoves (k : Nat) (q0 : LpSet) (m1 m2 : Move2) (o : LpOut) : LpOut :=
  lpMove k q0 m2.kind m2.d (m2.x.val + 4) (lpMove k q0 m1.kind m1.d m1.x o)

/-! ### ALU (R301) -/

inductive AluOp where
  | add | sub | and | or | xor | asr | lsr | lsl | adds | subs | min | max | abs | neg | cmp | mov
  deriving DecidableEq, Repr
def AluOp.code : AluOp → Nat
  | .add => 0 | .sub => 1 | .and => 2 | .or => 3 | .xor => 4 | .asr => 5 | .lsr => 6 | .lsl => 7 | .adds => 8 | .subs => 9
  | .min => 10 | .max => 11 | .abs => 12 | .neg => 13 | .cmp => 14 | .mov => 15
/-- The result of an ALU operation; a shift by 32 or more and the magnitude of −2^31 are open. -/
def aluResult (op : AluOp) (a b : Word) : Word :=
  match op with
  | .add => a + b
  | .sub | .cmp => a - b
  | .and => a &&& b
  | .or => a ||| b
  | .xor => a ^^^ b
  | .asr => if b.toNat < 32 then a.sshiftRight b.toNat else Config.openResult op.code a b
  | .lsr => if b.toNat < 32 then a >>> b.toNat else Config.openResult op.code a b
  | .lsl => if b.toNat < 32 then a <<< b.toNat else Config.openResult op.code a b
  | .adds => BitVec.ofInt 32 (sat32 (a.toInt + b.toInt))
  | .subs => BitVec.ofInt 32 (sat32 (a.toInt - b.toInt))
  | .min => if a.toInt ≤ b.toInt then a else b
  | .max => if b.toInt ≤ a.toInt then a else b
  | .abs => if a = 0x80000000 then Config.openResult op.code a b else if a.toInt < 0 then -a else a
  | .neg => if a = 0x80000000 then Config.openResult op.code a b else -a
  | .mov => a
/-- V and C; open where the manual does not state them. -/
def aluV (op : AluOp) (a b : Word) : Bool :=
  match op with
  | .add | .adds => decide (sat32 (a.toInt + b.toInt) ≠ a.toInt + b.toInt)
  | .sub | .subs | .cmp => decide (sat32 (a.toInt - b.toInt) ≠ a.toInt - b.toInt)
  | _ => Config.aluV op.code a b
def aluC (op : AluOp) (a b : Word) : Bool :=
  match op with
  | .add => decide (2 ^ 32 ≤ a.toNat + b.toNat)
  | _ => Config.aluC op.code a b
/-- imm16 as a word: sign- or zero-extended, which the manual does not say. -/
def imm16 (v : BitVec 16) : Word := if Config.immSigned 0 then v.signExtend 32 else v.setWidth 32
/-- An ALU instruction: unary operations of class 0x1 take Ds, of class 0x2 the immediate. -/
def lpAlu (op : AluOp) (k : Nat) (dd : Nat) (src : AluSrc) (s : State) : State :=
  let degOk := true
  s.lpIssue k 1 false degOk fun s q =>
    let unary := match op with
      | .abs | .neg | .mov => true
      | _ => false
    let (a, b) := match src with
      | .reg x y _ => (q.D x, q.D y)
      | .imm v => if unary then (imm16 v, imm16 v) else (q.D dd, imm16 v)
    let r := aluResult op a b
    let q1 := q.put 2 (.flags r.msb (r == 0) (aluC op a b) (aluV op a b))
    let q2 := match op with
      | .cmp => q1
      | _ => q1.putD 2 dd r
    let o : LpOut := { s := s, q := q2 }
    match src with
    | .reg _ _ mv => lpMove1 k q mv o
    | .imm _ => o

/-! ### Loads and stores -/

def State.lpLd (s : State) (k d x : Nat) (m : AMode) : State :=
  s.lpIssue k 1 false true fun s q =>
    let (a, q1) := q.addr x m
    match s.lpRead k a with
    | (.fault, t) => { s := t, q := q, fault := faultADDR }
    | (.waits, t) => { s := t, q := q1, waitD := some d }
    | (.word v, t) => { s := t, q := q1.putD 2 d v }
def State.lpSt (s : State) (k d x : Nat) (m : AMode) : State :=
  s.lpIssue k 1 false true fun s q =>
    let (a, q1) := q.addr x m
    match s.lpWrite k a (q.D d) with
    | none => { s := s, q := q, fault := faultADDR }
    | some t => { s := t, q := q1 }
/-- LD64 into pair `p`: the address is a multiple of 8 (R276). -/
def State.lpLd64 (s : State) (k p x : Nat) (m : AMode) : State :=
  s.lpIssue k 1 false true fun s q =>
    let (a, q1) := q.addr x m
    if a % 8 ≠ 0 then { s := s, q := q, fault := faultADDR }
    else match s.lpRead k a with
      | (.word lo, t) => match t.lpRead k (a + 4) with
        | (.word hi, u) => { s := u, q := q1.putPair 2 p (hi ++ lo) }
        | (.waits, u) => { s := u, q := q1.putD 2 (2 * p) lo, waitD := some (2 * p + 1) }
        | (.fault, u) => { s := u, q := q, fault := faultADDR }
      | (.waits, t) => { s := t, q := q1, waitD := some (2 * p) }
      | (.fault, t) => { s := t, q := q, fault := faultADDR }
def State.lpSt64 (s : State) (k p x : Nat) (m : AMode) : State :=
  s.lpIssue k 1 false true fun s q =>
    let (a, q1) := q.addr x m
    if a % 8 ≠ 0 then { s := s, q := q, fault := faultADDR }
    else match s.lpWrite k a (q.D (2 * p)) with
      | none => { s := s, q := q, fault := faultADDR }
      | some t => match t.lpWrite k (a + 4) (q.D (2 * p + 1)) with
        | none => { s := t, q := q, fault := faultADDR }
        | some u => { s := u, q := q1 }
def State.lpMovp (s : State) (k : Nat) (m1 m2 : Move2) : State :=
  s.lpIssue k 1 false true fun s q => lpMoves k q m1 m2 { s := s, q := q }

/-! ### Accumulators (R277–R283) -/

/-- A sum into an accumulator (R278): the value, and overflow. -/
def accSum (deg satm : Bool) (x : Int) : Int × Bool :=
  let w := if deg then 40 else 80
  if satS w x = x then (x, false) else if satm then (satS w x, true) else (wrapS w x, true)
def LpSet.accI (q : LpSet) (i : Nat) : Int := (vget q.acc i 0).toInt
def LpSet.accVI (q : LpSet) (i : Nat) : Int := (vget q.accV i 0).toInt
/-- AV, AVS and INX after accumulator additions of which one overflowed. -/
def LpSet.accFlags (q : LpSet) (ov : Bool) : LpSet := { q with av := ov, avs := q.avs || ov, inx := q.inx || (ov && q.satm) }
/-- The MAC group writes an accumulator: seen by the next MAC at once, by the others two slots on. -/
def LpSet.macPut (q : LpSet) (i : Nat) (v : Int) : LpSet :=
  let w := BitVec.ofInt 80 v
  { q with
    acc := vmod q.acc i fun _ => w
    pipe := (q.pipe.map fun p => match p with
      | (n, .acc j u) => if j = i then (n, .av j u) else p
      | _ => p) ++ [(2, .av i w)] }
/-- The product of two D registers as the mode forms it (R277, R283). -/
def lpProd (deg : Bool) (a b : Word) : Int :=
  if deg then (a.sshiftRight 16).toInt * (b.sshiftRight 16).toInt else a.toInt * b.toInt

inductive MacOp where
  | mpy | mac | msu | mpysu
  deriving DecidableEq, Repr
def lpMac (op : MacOp) (k am ds dt : Nat) (m1 m2 : Move2) (s : State) : State :=
  let deg := s.lpDeg k
  s.lpIssue k 1 false (op ≠ .mpysu && am < 2) fun s q =>
    let p := match op with
      | .mpysu => (q.D ds).toInt * (q.D dt).toNat
      | _ => lpProd deg (q.D ds) (q.D dt)
    let x := match op with
      | .mac => q.accI am + p
      | .msu => q.accI am - p
      | _ => p
    let (v, ov) := accSum deg q.satm x
    lpMoves k q m1 m2 { s := s, q := (q.macPut am v).accFlags ov }
/-- CMAC and CMACC on accumulator pair A0:A1 or A2:A3 and D pairs `p`, `r`. -/
def lpCmac (conj : Bool) (k : Nat) (pair : Bool) (p r : Nat) (m1 m2 : Move2) (s : State) : State :=
  s.lpIssue k 1 false false fun s q =>
    let a := (q.D (2 * p)).toInt
    let b := (q.D (2 * p + 1)).toInt
    let c := (q.D (2 * r)).toInt
    let d := if conj then -(q.D (2 * r + 1)).toInt else (q.D (2 * r + 1)).toInt
    let i := if pair then 2 else 0
    let (v0, o0) := accSum false q.satm (q.accI i + (a * c - b * d))
    let (v1, o1) := accSum false q.satm (q.accI (i + 1) + (a * d + b * c))
    lpMoves k q m1 m2 { s := s, q := ((q.macPut i v0).macPut (i + 1) v1).accFlags (o0 || o1) }

/-- An accumulator-group instruction: `degOk` and accumulators above A1 are checked in degraded mode. -/
def State.lpAcc (s : State) (k am : Nat) (degOk : Bool) (mv : Move) (f : LpSet → LpSet) : State :=
  s.lpIssue k 1 false (degOk && am < 2) fun s q => lpMove1 k q mv { s := s, q := f q }
def State.lpClra (s : State) (k am : Nat) (mv : Move) : State :=
  s.lpAcc k am true mv fun q => (q.put 2 (.acc am 0)).accFlags false
/-- SHA by −63 to +63, positive to the left; a left shift that loses bits is open. -/
def State.lpSha (s : State) (k am : Nat) (left : Bool) (sh : Nat) (mv : Move) : State :=
  let w := if s.lpDeg k then 40 else 80
  s.lpAcc k am true mv fun q =>
    let x := q.accVI am
    let y := if left then x * 2 ^ sh else x / 2 ^ sh
    let ov := decide (satS w y ≠ y)
    let v := if ov then wrapS w (Config.shaOpen x sh) else y
    { q.put 2 (.acc am (BitVec.ofInt 80 v)) with av := ov }
/-- ADDA: the D pair `p` is added to Am. -/
def State.lpAdda (s : State) (k am p : Nat) (mv : Move) : State :=
  let deg := s.lpDeg k
  s.lpAcc k am true mv fun q =>
    let (v, ov) := accSum deg q.satm (q.accVI am + (q.D64 p).toInt)
    (q.put 2 (.acc am (BitVec.ofInt 80 v))).accFlags ov
/-- The shift of MOVR: an immediate, or the low six bits of a D register. -/
def LpSet.shift (q : LpSet) : LpCount → Nat
  | .imm n => n.toNat % 64
  | .reg d => (q.D d).toNat % 64
def State.lpMovr (s : State) (k dd am : Nat) (sh : LpCount) (mv : Move) : State :=
  s.lpAcc k am true mv fun q =>
    let x := shrConv (q.accVI am) (q.shift sh)
    { q.putD 2 dd (BitVec.ofInt 32 (sat32 x)) with satf := q.satf || decide (sat32 x ≠ x) }
def State.lpMovr64 (s : State) (k p am : Nat) (sh : LpCount) (mv : Move) : State :=
  s.lpAcc k am false mv fun q =>
    let x := shrConv (q.accVI am) (q.shift sh)
    { q.putPair 2 p (BitVec.ofInt 64 (satS 64 x)) with satf := q.satf || decide (satS 64 x ≠ x) }
def accPartNum : AccPart → Nat
  | .l => 0 | .h => 1 | .g => 2
/-- MOVA: G, [39:32] in degraded mode (R283), is extended as the manual leaves open. -/
def State.lpMova (s : State) (k dd am : Nat) (p : AccPart) (mv : Move) : State :=
  s.lpAcc k am (p ≠ .h) mv fun q =>
    let a := vget q.accV am 0
    q.putD 2 dd (match p with
      | .l => a.extractLsb' 0 32
      | .h => a.extractLsb' 32 32
      | .g =>
        if s.lpDeg k then (if Config.immSigned 1 then (a.extractLsb' 32 8).signExtend 32 else (a.extractLsb' 32 8).setWidth 32)
        else if Config.immSigned 1 then (a.extractLsb' 64 16).signExtend 32 else (a.extractLsb' 64 16).setWidth 32)
def State.lpMovta (s : State) (k am dd : Nat) (p : AccPart) (mv : Move) : State :=
  s.lpAcc k am (p ≠ .h) mv fun q => q.put 2 (.accPart am (if s.lpDeg k && p == .g then 3 else accPartNum p) (q.D dd))

/-- Leading bits of an n-bit number equal to its sign bit. -/
def leadSign (n : Nat) (x : Int) : Nat :=
  let y := (if x < 0 then -x - 1 else x).toNat
  n - (if y = 0 then 0 else Nat.log2 y + 1)
/-- e of R281 for an accumulator. -/
def expAcc (x : Int) : Int := (leadSign 80 x : Int) - 17
def State.lpExp (s : State) (k dd : Nat) (src : ExpSrc) (mv : Move) : State :=
  let am := match src with
    | .a i => i.val
    | .d _ => 0
  s.lpAcc k am true mv fun q =>
    q.putD 2 dd (match src with
      | .d i => BitVec.ofNat 32 (leadSign 32 (q.D i).toInt - 1)
      | .a i => BitVec.ofInt 32 (expAcc (q.accVI i)))
def State.lpNorm (s : State) (k am dd : Nat) (mv : Move) : State :=
  s.lpAcc k am true mv fun q =>
    let x := q.accVI am
    let e := expAcc x
    let v := if 0 ≤ e then x * 2 ^ e.toNat else x / 2 ^ (-e).toNat
    (q.putD 2 dd (BitVec.ofInt 32 e)).put 2 (.acc am (BitVec.ofInt 80 v))

/-! ### Coefficient, function, address and system instructions -/

/-- CMULR (R280): Ds is the signal, Dm the mantissa. -/
def State.lpCmulr (s : State) (k dd ds dm sh : Nat) : State :=
  s.lpIssue k 1 false false fun s q =>
    let x := shrConv ((q.D dm).toInt * (q.D ds).toInt) sh
    { s := s, q := { q.putD 3 dd (BitVec.ofInt 32 (sat32 x)) with satf := q.satf || decide (sat32 x ≠ x) } }
def State.lpSincos (s : State) (k p ds : Nat) : State :=
  s.lpIssue k 1 false false fun s q =>
    let a := (q.D ds).toNat
    { s := s, q := (q.putD 3 (2 * p) (BitVec.ofInt 32 (cosQ30 a))).putD 3 (2 * p + 1) (BitVec.ofInt 32 (sinQ30 a)) }
/-- DIVS (R282). -/
def State.lpDivs (s : State) (k dd ds dt f : Nat) : State :=
  s.lpIssue k 1 false false fun s q =>
    let x := (q.D ds).toInt
    let y := (q.D dt).toInt
    if y = 0 then
      let r : Word := if 0 < x then 0x7FFFFFFF else if x < 0 then 0x80000000 else 0
      { s := s, q := { (q.putD 2 dd r).put 2 (.flags q.n q.z q.c true) with satf := true } }
    else
      let r := divConv (x * 2 ^ f * sgn y) (absI y)
      { s := s, q := { q.putD 2 dd (BitVec.ofInt 32 (sat32 r)) with satf := q.satf || decide (sat32 r ≠ r) } }
/-- SETX: register kinds 0 X, 1 XB, 2 XL with BR = 0, 3 XL with BR = 1, 4 XS; others are ILL faults. -/
def State.lpSetx (s : State) (k kind i : Nat) (src : SetxSrc) : State :=
  s.lpIssue k 1 false true fun s q =>
    let v : Word := match src with
      | .reg d => q.D d
      | .imm v => if Config.immSigned 2 then v.signExtend 32 else v.setWidth 32
    let len := v.toNat % 2 ^ 18
    match kind with
    | 0 => { s := s, q := q.put 3 (.x i v) }
    | 1 => { s := s, q := q.put 3 (.xb i v) }
    | 2 => { s := s, q := q.put 3 (.xl i (BitVec.ofNat 19 len)) }
    | 3 =>
      if (List.range 15).any fun j => len == 2 ^ (j + 3) then { s := s, q := q.put 3 (.xl i (BitVec.ofNat 19 (2 ^ 18 + len))) }
      else { s := s, q := q }
    | 4 => { s := s, q := q.put 3 (.xs i (BitVec.ofNat 16 v.toNat)) }
    | _ => { s := s, q := q, fault := faultILL }
def State.lpTbr (s : State) (k p : Nat) : State :=
  s.lpIssue k 1 false true fun s q => { s := s, q := q.putPair 2 p (BitVec.ofNat 64 s.tick) }
/-- SR of a set (R273). -/
def State.lpSr (s : State) (k : Nat) (q : LpSet) : Nat :=
  b2n (s.lpDeg k) * 2 ^ 31 + b2n (s.lp k).sh * 2 ^ 30 + b2n q.ie * 2 ^ 29 + q.rep.length * 2 ^ 20 + b2n q.satm * 256
    + b2n q.satf * 128 + b2n q.inx * 64 + b2n q.avs * 32 + b2n q.av * 16 + q.flagsN
def State.lpMtsr (s : State) (k d : Nat) : State :=
  s.lpIssue k 1 false true fun s q => { s := s, q := q.put 2 (.sr (nbit (q.D d).toNat 8) (nbit (q.D d).toNat 29)) }
def State.lpMfsr (s : State) (k d : Nat) : State :=
  s.lpIssue k 1 false true fun s q => { s := s, q := q.putD 2 d (BitVec.ofNat 32 (s.lpSr k q)) }
def State.lpClrf (s : State) (k : Nat) : State :=
  s.lpIssue k 1 false true fun s q => { s := s, q := { q with satf := false, inx := false, avs := false } }
def State.lpLdi (s : State) (k d : Nat) (v : Word) : State :=
  s.lpIssue k 2 false true fun s q => { s := s, q := q.putD 3 d v }

/-! ### Control (R284, R285, R288, R289, R293) -/

def State.lpNop (s : State) (k : Nat) : State := s.lpIssue k 1 false true fun s q => { s := s, q := q }
/-- B cc: taken as the condition code and the flags say. -/
def State.lpB (s : State) (k cc t : Nat) : State :=
  s.lpIssue k 1 true true fun s q =>
    if Config.condTaken cc q.flagsN then { s := s, q := { q with rep := repLeave t q.rep }, target := some t } else { s := s, q := q }
def State.lpBl (s : State) (k t : Nat) : State :=
  s.lpIssue k 2 true true fun s q => { s := s, q := { q with rep := repLeave t q.rep }, target := some t }
/-- CALL pushes the address after its delay slot. -/
def State.lpCall (s : State) (k t : Nat) : State :=
  s.lpIssue k 1 true true fun s q =>
    if 16 ≤ q.call.length then { s := s, q := q, fault := faultCSTK }
    else { s := s, q := { q with call := ((s.lp k).pc + 2) :: q.call }, target := some t }
def State.lpRet (s : State) (k : Nat) : State :=
  s.lpIssue k 1 true true fun s q =>
    match q.call with
    | [] => { s := s, q := q, fault := faultCSTK }
    | a :: rest => { s := s, q := { q with call := rest }, target := some a }
/-- REP: a count of 0 skips the body; an outer level that ends on the same instruction is then checked (DEDUCED from R284). -/
def State.lpRep (s : State) (k : Nat) (c : LpCount) (last : Nat) : State :=
  s.lpIssue k 1 false true fun s q =>
    let n := match c with
      | .imm n => n.toNat
      | .reg d => (q.D d).toNat % 65536
    if n = 0 then
      let (p, rep) := repNext last (last + 1) q.rep
      { s := s, q := { q with rep := rep }, jump := some p }
    else if 4 ≤ q.rep.length then { s := s, q := q, fault := faultREPSTK }
    else { s := s, q := { q with rep := ⟨(s.lp k).pc + 1, last, n⟩ :: q.rep } }
/-- A swap that waited is made. -/
def State.lpSwapDue (s : State) (k : Nat) : State :=
  if (s.lp k).swapWait.isSome && (s.lp k).run.isNone && !(s.lp k).sh then s.bankFlip k else s
/-- END ends the run. -/
def State.lpEnd (s : State) (k : Nat) : State :=
  let s1 := s.lpIssue k 1 true true (fun s q => { s := s, q := q.flush }) true
  if s1.lpMode k ≥ 2 then s1 else (s1.modLp k fun l => { l with run := none, free := max l.free s.tick }).lpSwapDue k
/-- RTI ends a handler. -/
def State.lpRti (s : State) (k : Nat) : State :=
  let s1 := s.lpIssue k 1 true true (fun s q => { s := s, q := q.flush }) true
  if (s1.lp k).sh && (s.lp k).sh then
    ((s1.clrf (LP_STAT k) LP_STAT_IRQACT).modLp k fun l => { l with sh := false, pc := l.resume }).lpSwapDue k
  else s1

/-- A pending WAIT of an agent returns; an LP's load then ends. -/
def State.waitReturnRow (s : State) (a : Nat) : State :=
  let s1 := s.waitReturn a
  if 10 ≤ a && a < 26 && (s.agent a).waiting.isSome && (s1.agent a).waiting.isNone then
    s1.modLp (a - 10) fun l => match l.waitD with
      | some d => { l.putCur (l.cur.putD 1 d s1.rdata) with waitD := none }
      | none => l
  else s1

end Sys2Proof.Machine
end

