-- ==== Sys2Proof/Machine/Plan.lean ====
section
/-! DEFINITION. Cubic splines, and the planner: moves of axes and groups become segments (R115–R119). -/

namespace Sys2Proof.Machine

/-! ### Cubic splines -/

/-- A tridiagonal system, rows (a, b, c, d) for a·x₋ + b·x + c·x₊ = d, after elimination of the row before (c′, d′). -/
def thomas : List (Rat × Rat × Rat × Rat) → Rat → Rat → List Rat
  | [], _, _ => []
  | (a, b, c, d) :: rest, cp, dp =>
    let den := b - a * cp
    let xs := thomas rest (c / den) ((d - a * dp) / den)
    ((d - a * dp) / den - c / den * xs.headD 0) :: xs
/-- The rows of the inner points of a spline through (x, y). -/
def splineRows : List (Rat × Rat) → List (Rat × Rat × Rat × Rat)
  | (x0, y0) :: (x1, y1) :: (x2, y2) :: rest =>
    let h0 := x1 - x0
    let h1 := x2 - x1
    (1 / h0, 2 * (1 / h0 + 1 / h1), 1 / h1, 3 * ((y1 - y0) / (h0 * h0) + (y2 - y1) / (h1 * h1))) ::
      splineRows ((x1, y1) :: (x2, y2) :: rest)
  | _ => []
/-- The slopes of the spline whose end slopes are given. -/
def clampedSlopes (p : List (Rat × Rat)) (a b : Rat) : List Rat :=
  thomas ((0, 1, 0, a) :: splineRows p ++ [(0, 1, 0, b)]) 0 0
/-- The slopes of the natural spline. -/
def naturalSlopes (p : List (Rat × Rat)) : List Rat :=
  match p, p.reverse with
  | (x0, y0) :: (x1, y1) :: _, (u0, w0) :: (u1, w1) :: _ =>
    thomas ((0, 2, 1, 3 * (y1 - y0) / (x1 - x0)) :: splineRows p ++ [(1, 2, 0, 3 * (w0 - w1) / (u0 - u1))]) 0 0
  | _, _ => []
/-- The slopes of the periodic spline: those of clamped ends, with the end slope that keeps the second derivative. -/
def periodicSlopes (p : List (Rat × Rat)) : List Rat :=
  match p, p.reverse with
  | (x0, y0) :: (x1, y1) :: _, (u0, w0) :: (u1, w1) :: _ =>
    let h0 := x1 - x0
    let hn := u0 - u1
    let A := clampedSlopes p 0 0
    let B := clampedSlopes (p.map fun q => (q.1, 0)) 1 1
    let wrap := fun (m : List Rat) => m.reverse.getD 1 0 / hn + 2 * (1 / hn + 1 / h0) * m.headD 0 + m.getD 1 0 / h0
    let rhs := 3 * ((w0 - w1) / (hn * hn) + (y1 - y0) / (h0 * h0))
    let x := (rhs - wrap A) / wrap B
    (A.zip B).map fun q => q.1 + x * q.2
  | _, _ => []
/-- A cubic Hermite piece over length `h` from value `a` and slope `m` to `b` and `n`, at `x`. -/
def hermite (h a m b n x : Rat) : Rat :=
  let u := x / h
  (2 * u * u * u - 3 * u * u + 1) * a + (u * u * u - 2 * u * u + u) * h * m + (3 * u * u - 2 * u * u * u) * b +
    (u * u * u - u * u) * h * n

/-! ### Paths of group moves (R117), in path units -/

def ratAbs (x : Rat) : Rat := if x < 0 then -x else x
def norm (v : List Rat) : Rat := sqrtQ (v.map fun x => x * x).sum
def vsub (a b : List Rat) : List Rat := (a.zip b).map fun p => p.1 - p.2
def rats (l : List Int) : List Rat := l.map fun (x : Int) => (x : Rat)

/-- sin and cos of an angle in 2^−64 rad, in 2^−64. -/
def trig64 (x : Nat) : Int × Int :=
  let half := pi64 / 2
  let r : Int := (x % half : Nat)
  let x2 := r * r / 2 ^ 64
  let s := taylor x2 16 2 r 0
  let c := taylor x2 16 1 (2 ^ 64) 0
  match x / half % 4 with
  | 0 => (s, c)
  | 1 => (c, -s)
  | 2 => (-s, -c)
  | _ => (-c, s)
/-- The largest angle below π, by bits, that does not pass the direction (dot, cross). -/
def angleBits (dot crs : Int) : Nat → Nat → Nat
  | 0, x => x
  | k + 1, x =>
    let c := x + 2 ^ k
    let t := trig64 c
    angleBits dot crs k (if c < pi64 ∧ 0 ≤ crs * t.2 - dot * t.1 then c else x)
/-- The angle of a direction in (0, 2π], in 2^−64 rad. -/
def sweepOf (dot crs : Int) : Nat :=
  if crs = 0 then (if dot < 0 then pi64 else 2 * pi64)
  else if crs < 0 then pi64 + angleBits (-dot) (-crs) 66 0
  else angleBits dot crs 66 0

/-- The turning angle of an arc, and its radius. -/
def arcSweep (ri rj ei ej : Int) (ccw : Bool) : Nat :=
  let crs := ri * ej - rj * ei
  sweepOf (ri * ei + rj * ej) (if ccw then crs else -crs)

/-- Knots of a spline: chord-length parameter and point of every host point. -/
def splineKnots : Rat → List (List Int) → List (Rat × List Int)
  | u, p :: q :: rest => (u, p) :: splineKnots (u + norm (vsub (rats q) (rats p))) (q :: rest)
  | u, [p] => [(u, p)]
  | _, [] => []
/-- Slopes of every member at every knot, by member. -/
def splineSlopesOf (pts : List (List Int)) (ends : Option (List Int × List Int)) : List (List Rat) :=
  let ks := splineKnots 0 pts
  (List.range (pts.headD []).length).map fun i =>
    let col := ks.map fun k => (k.1, ((k.2.getD i 0 : Int) : Rat))
    match ends with
    | some (a, b) => clampedSlopes col (mkRat (a.getD i 0) 16777216) (mkRat (b.getD i 0) 16777216)
    | none => naturalSlopes col
/-- The point of a spline at parameter `u`. -/
def splineAt (ks : List (Rat × List Int)) (sl : List (List Rat)) (u : Rat) : List Rat :=
  let k := min (ks.length - 2) ((ks.filter fun x => decide (x.1 ≤ u)).length - 1)
  let a := ks.getD k (0, [])
  let b := ks.getD (k + 1) (0, [])
  (List.range a.2.length).map fun i =>
    hermite (b.1 - a.1) (a.2.getD i 0 : Int) ((sl.getD i []).getD k 0) (b.2.getD i 0 : Int) ((sl.getD i []).getD (k + 1) 0) (u - a.1)
/-- Arc length against parameter, by sixteen chords a piece. -/
def arcTable (at_ : Rat → List Rat) : List Rat → Rat → List Rat → List (Rat × Rat)
  | [], _, _ => []
  | u :: rest, s, p =>
    let q := at_ u
    let s1 := s + norm (vsub q p)
    (s1, u) :: arcTable at_ rest s1 q
def splineTable (pts : List (List Int)) (ends : Option (List Int × List Int)) : List (Rat × Rat) :=
  let ks := splineKnots 0 pts
  let sl := splineSlopesOf pts ends
  let us := (ks.zip (ks.drop 1)).flatMap fun (a, b) => (List.range 16).map fun j => a.1 + (b.1 - a.1) * (j + 1) / 16
  (0, 0) :: arcTable (splineAt ks sl) us 0 (rats (pts.headD []))
/-- The parameter at arc length `s`. -/
def tableAt (t : List (Rat × Rat)) (s : Rat) : Rat :=
  match (t.zip (t.drop 1)).find? fun p => decide (s ≤ p.2.1) with
  | some (a, b) => if a.1 < b.1 then a.2 + (b.2 - a.2) * (s - a.1) / (b.1 - a.1) else a.2
  | none => (t.getLastD (0, 0)).2

/-- The length of a path. -/
def PathGeo.len : PathGeo → Rat
  | .line a b => norm (vsub (rats b) (rats a))
  | .arc a i j h ci cj ei ej eh ccw =>
    let ri := a.getD i 0 - ci
    let rj := a.getD j 0 - cj
    let w := norm [(ri : Rat), (rj : Rat)] * mkRat (arcSweep ri rj (ei - ci) (ej - cj) ccw) (2 ^ 64)
    match h with
    | some k => norm [w, ((eh - a.getD k 0 : Int) : Rat)]
    | none => w
  | .spline pts ends => ((splineTable pts ends).getLastD (0, 0)).1
/-- The point at path length `s`. -/
def PathGeo.at (g : PathGeo) (s0 : Rat) : List Rat :=
  let s := min s0 g.len
  match g with
  | .line a b => if g.len = 0 then rats b else (a.zip b).map fun (p : Int × Int) => (p.1 : Rat) + ((p.2 - p.1 : Int) : Rat) * s / g.len
  | .arc a i j h ci cj ei ej eh ccw =>
    let ri := a.getD i 0 - ci
    let rj := a.getD j 0 - cj
    let f := if g.len = 0 then 1 else s / g.len
    let t := trig64 (roundQ (f * arcSweep ri rj (ei - ci) (ej - cj) ccw)).toNat
    let sn : Rat := mkRat (if ccw then t.1 else -t.1) (2 ^ 64)
    let cs : Rat := mkRat t.2 (2 ^ 64)
    (List.range a.length).map fun k =>
      if k = i then ci + ri * cs - rj * sn
      else if k = j then cj + ri * sn + rj * cs
      else if h = some k then ((a.getD k 0 : Int) : Rat) + ((eh - a.getD k 0 : Int) : Rat) * f
      else ((a.getD k 0 : Int) : Rat)
  | .spline pts ends => splineAt (splineKnots 0 pts) (splineSlopesOf pts ends) (tableAt (splineTable pts ends) s)
/-- The end point of a path. -/
def PathGeo.endPoint : PathGeo → List Int
  | .line _ b => b
  | .arc a i j h _ _ ei ej eh _ => (List.range a.length).map fun k => if k = i then ei else if k = j then ej else if h = some k then eh else a.getD k 0
  | .spline pts _ => pts.getLastD []
/-- Unit directions at the start and the end, by chords of 1/1024 of the length. -/
def PathGeo.dirs (g : PathGeo) : List Rat × List Rat :=
  let d := g.len / 1024
  if d = 0 then ([], [])
  else (((vsub (g.at d) (g.at 0)).map (· / d)), (vsub (g.at g.len) (g.at (g.len - d))).map (· / d))
/-- The smallest radius of curvature; none for a straight path. -/
def PathGeo.radius (g : PathGeo) : Option Rat :=
  match g with
  | .line _ _ => none
  | .arc a i j _ ci cj .. => some (norm [((a.getD i 0 - ci : Int) : Rat), ((a.getD j 0 - cj : Int) : Rat)])
  | .spline pts _ =>
    let n := 16 * (pts.length - 1)
    let d := g.len / n
    if d = 0 then none
    else
      let r := (List.range (n - 1)).map fun k =>
        let q := vsub (vsub (g.at (d * (k + 2))) (g.at (d * (k + 1)))) (vsub (g.at (d * (k + 1))) (g.at (d * k)))
        if norm q = 0 then none else some (d * d / norm q)
      r.foldl (fun m x => match m, x with
        | some a, some b => some (min a b)
        | none, x => x
        | m, none => m) none

/-! ### Queues -/

def State.grpPlan (s : State) (g : Nat) : GrpPlan := vget s.plans g {}
def State.modPlan (s : State) (g : Nat) (f : GrpPlan → GrpPlan) : State := { s with plans := vmod s.plans g f }
/-- The length of a frame in seconds. -/
def State.frameSec (s : State) : Rat := mkRat s.frameLen 400000000
/-- The shortest segment in frames: at least 250 µs (R115). -/
def State.minSeg (s : State) : Nat := max 1 ((100000 + s.frameLen - 1) / s.frameLen)
/-- Everything planned for an axis, queued or not. -/
def State.planned (s : State) (n : Nat) : List Seg := (s.mo n).segs ++ (s.mo n).plan
/-- The position at the end of what is planned, and the frame of that end. -/
def State.endPos (s : State) (n : Nat) : Int :=
  match (s.planned n).getLast? with
  | some g => roundQ (s.segAt g (s.frameTime (g.start + g.dur))).1
  | none => (s.mo n).base
def State.endFrame (s : State) (n : Nat) : Option Nat := (s.planned n).getLast?.map fun g => g.start + g.dur
/-- Planned segments move into the queue while it has room (R111). -/
def State.refill (s : State) (n : Nat) : State :=
  let k := 512 - (s.mo n).segs.length
  (s.modMo n fun m => { m with segs := m.segs ++ m.plan.take k, plan := m.plan.drop k }).segRegs n
/-- The 64 bytes of a segment (R110), and the segment that 64 bytes spell. -/
def Seg.record (g : Seg) : List Byte :=
  leBytes 8 g.start ++ ([g.p0, g.v0, g.a0, g.j].flatMap fun x => leBytes 8 (BitVec.ofInt 64 x).toNat) ++ leBytes 4 g.dur ++ leBytes 2 g.move
    ++ leBytes 1 (b2n g.last) ++ List.replicate 17 0
def Seg.ofRecord (b : List Byte) : Seg :=
  let q := fun (i : Nat) => (BitVec.ofNat 64 (leNat ((b.drop i).take 8))).toInt
  { start := leNat (b.take 8), p0 := q 8, v0 := q 16, a0 := q 24, j := q 32, dur := leNat ((b.drop 40).take 4), move := leNat ((b.drop 44).take 2)
    last := leNat ((b.drop 46).take 1) % 2 == 1 }
/-- The planner hands segments to the LP as the records of R110. -/
def State.addSegs (s : State) (n : Nat) (l : List Seg) : State :=
  (s.modMo n fun m => { m with plan := m.plan ++ l.map fun g => Seg.ofRecord g.record }).refill n
/-- The frame at which a new move of these axes starts: where what is planned ends, else the second boundary to come; so late that an
axis which stands until then needs no segment shorter than R115 allows. -/
def State.startFrame (s : State) (ns : List Nat) : Nat :=
  let es := ns.filterMap s.endFrame
  es.foldl (fun f _ => match es.find? fun e => decide (e < f ∧ f < e + s.minSeg) with
    | some e => e + s.minSeg
    | none => f) (if es.isEmpty then s.time.frameNum + 2 else es.foldl max 0)
/-- An axis whose plan ends before frame `f` stands until then. -/
def State.standTo (s : State) (n f : Nat) : State :=
  match s.endFrame n with
  | some e => if e < f then s.addSegs n [{ start := e, p0 := s.endPos n, v0 := 0, a0 := 0, j := 0, dur := f - e, move := ((s.mo n).moveNo + 1) % 65536, last := false }] else s
  | none => s
/-- The next move number of an axis. -/
def State.nextMove (s : State) (n : Nat) : Nat × State :=
  let k := ((s.mo n).moveNo + 1) % 65536
  (k, s.modMo n fun m => { m with moveNo := k })

/-! ### Point-to-point moves (R117) -/

/-- Frames of the jerk, acceleration and cruise phases of a move over `d`, each rounded up. -/
def State.ptpFrames (s : State) (d v a j : Rat) : Nat × Nat × Nat :=
  let pv : Rat := peakVel d a j v 63 0
  if pv = 0 then (0, 0, 0)
  else
    let t := accelTimes pv a j
    let up := fun (x : Rat) => if x ≤ 0 then 0 else max s.minSeg (x / s.frameSec).ceil.toNat
    (up t.1, up t.2, up ((d - pv * (2 * t.1 + t.2)) / pv))
/-- The phases of a move over `d` in those frames: the jerk that covers `d` exactly. -/
def State.ptpPhases (s : State) (d : Rat) (n : Nat × Nat × Nat) : List (Nat × Rat) :=
  let f := s.frameSec
  let t1 := n.1 * f
  let t2 := n.2.1 * f
  let j := d / (t1 * (t1 + t2) * (2 * t1 + t2 + n.2.2 * f))
  [(n.1, j), (n.2.1, 0), (n.1, -j), (n.2.2, 0), (n.1, -j), (n.2.1, 0), (n.1, j)].filter fun x => x.1 != 0
/-- Segments from position, velocity and acceleration through phases of constant jerk. -/
def State.phaseSegs (s : State) (mv : Nat) : Nat → Rat × Rat × Rat → List (Nat × Rat) → List Seg
  | _, _, [] => []
  | start, x, (k, j) :: rest =>
    { start := start, p0 := roundQ x.1, v0 := roundQ x.2.1, a0 := roundQ x.2.2, j := roundQ j, dur := k, move := mv, last := rest.isEmpty } ::
      s.phaseSegs mv (start + k) (advance x j (k * s.frameSec)) rest
/-- One axis moves by `d` increments in the given frames from frame `f`. -/
def State.ptpAxis (s : State) (n f : Nat) (d : Int) (k : Nat × Nat × Nat) : State :=
  if d = 0 || k.1 = 0 then s
  else
    let p := s.endPos n
    let (mv, s1) := (s.standTo n f).nextMove n
    s1.addSegs n (s1.phaseSegs mv f (p, 0, 0) (s1.ptpPhases d k))
/-- The command of a move completes when its segments are queued, or waits for the end of the moves of these axes (R513). -/
def State.moveQueued (s : State) (tag : Option Nat) (wait : Bool) (ns : List Nat) : State :=
  match tag with
  | none => s
  | some t => if wait && !ns.isEmpty then ns.foldl (fun s n => s.await t .moveEnd (moveUnit n (s.mo n).moveNo)) s else s.finish t .ok
/-- A point-to-point move of axes with their distances in increments; `sync`: all end with the slowest. -/
def State.planPtp (s : State) (tag : Nat) (wait sync : Bool) (v a j : List Rat) (ds : List (Nat × Int)) : State :=
  let f := s.startFrame (ds.map (·.1))
  let ks := (List.range ds.length).map fun i => s.ptpFrames (absI (ds.getD i (0, 0)).2 : Int) (v.getD i 0) (a.getD i 0) (j.getD i 0)
  let total := fun (k : Nat × Nat × Nat) => 4 * k.1 + 2 * k.2.1 + k.2.2
  let slow := ks.foldl (fun m k => if total m < total k then k else m) (0, 0, 0)
  let s1 := (ds.zip ks).foldl (fun s x => s.ptpAxis x.1.1 f x.1.2 (if sync then slow else x.2)) s
  s1.moveQueued (some tag) wait ((ds.filter fun x => x.2 != 0).map (·.1))

/-! ### Paths (R117, R118) -/

/-- The members of a group: axes, and increments per path unit. -/
def State.grpMembers (s : State) (g : Nat) : List (Nat × Rat) :=
  (List.range 8).filterMap fun i =>
    let n := nbits (s.rdN (GRP_MEMB0 g + 4 * (i / 4))) (8 * (i % 4) + 7) (8 * (i % 4))
    if n = 0xFF then none else some (n, mkRat (s.rdN (GRP_SCALE g i)) 65536)
def State.grpV (s : State) (g : Nat) : Rat := (s.rd64I (GRP_VMAX g) : Int)
def State.grpA (s : State) (g : Nat) : Rat := (s.rd64I (GRP_AMAX g) : Int)
def State.grpJ (s : State) (g : Nat) : Rat := (s.rd64I (GRP_JMAX g) : Int)
/-- Distance and phases of a change of path speed. -/
def speedDist (v0 v1 A J : Rat) : Rat :=
  let t := accelTimes (ratAbs (v1 - v0)) A J
  (v0 + v1) / 2 * (2 * t.1 + t.2)
def speedPhases (v0 v1 A J : Rat) : List (Rat × Rat) :=
  let t := accelTimes (ratAbs (v1 - v0)) A J
  if v0 = v1 then [] else
    let j := (v1 - v0) / (t.1 * (t.1 + t.2))
    [(t.1, j), (t.2, 0), (t.1, -j)]
/-- The largest speed from `v` up, at most `cap`, that distance `L` allows. -/
def reachBits (v L A J cap : Rat) : Nat → Rat → Rat
  | 0, x => v + x
  | k + 1, x => reachBits v L A J cap k (if v + x + 2 ^ k ≤ cap ∧ speedDist v (v + x + 2 ^ k) A J ≤ L then x + 2 ^ k else x)
/-- The largest speed between `v0` and `v1` over distance `L`. -/
def cruiseBits (v0 v1 L A J cap : Rat) : Nat → Rat → Rat
  | 0, x => max v0 v1 + x
  | k + 1, x =>
    let c := max v0 v1 + x + 2 ^ k
    cruiseBits v0 v1 L A J cap k (if c ≤ cap ∧ speedDist v0 c A J + speedDist c v1 A J ≤ L then x + 2 ^ k else x)
/-- The time law of a path of length `L` from speed `v0` to `v1`: times and jerks. -/
def timeLaw (v0 v1 L A J cap : Rat) : List (Rat × Rat) :=
  let v := cruiseBits v0 v1 L A J cap 63 0
  let c := (L - speedDist v0 v A J - speedDist v v1 A J) / v
  speedPhases v0 v A J ++ [(max 0 c, 0)] ++ speedPhases v v1 A J
/-- Path length and speed after time `t` of a time law. -/
def lawAt : List (Rat × Rat) → Rat × Rat × Rat → Rat → Rat × Rat × Rat
  | [], x, t => advance x 0 t
  | (d, j) :: rest, x, t => if t < d then advance x j t else lawAt rest (advance x j d) (t - d)
def lawTime (l : List (Rat × Rat)) : Rat := (l.map (·.1)).sum

/-- The feed of a move: its rate within the limits of the group, and on a curve within what AMAX and JMAX allow. -/
def State.feedOf (s : State) (g : Nat) (m : PlanMove) : Rat :=
  let v := min (m.feed : Rat) (s.grpV g)
  match m.geo.radius with
  | none => v
  | some r =>
    let ok := fun (x : Rat) => decide (x * x ≤ s.grpA g * r ∧ x * x * x ≤ s.grpJ g * r * r)
    min v ((List.range 63).foldr (fun k x => if ok (x + 2 ^ (62 - k)) then x + 2 ^ (62 - k) else x) 0)
/-- The knot spacing of a path in frames: the largest for which corners stay within CTOL under the jerk limit and chords within
CHTOL, and no less than the shortest segment. -/
def State.knotStep (s : State) (g : Nat) : Nat :=
  let ok := fun (h : Nat) =>
    let t := h * s.frameSec
    decide (s.grpJ g * t * t * t ≤ 6 * (s.rd64N (GRP_CTOL g) : Rat) ∧ s.grpA g * t * t ≤ 6 * (s.rd64N (GRP_CHTOL g) : Rat))
  max s.minSeg ((List.range 16).foldr (fun k x => if ok (x + 2 ^ k) then x + 2 ^ k else x) 0)
/-- A curve can be resolved: its chords stay within CHTOL. -/
def State.chordOk (s : State) (g : Nat) : Bool :=
  let t := s.minSeg * s.frameSec
  decide (s.grpA g * t * t ≤ 6 * (s.rd64N (GRP_CHTOL g) : Rat))
/-- The junction speed between two moves (R118, pass 1): the corner that the knots of length `t` blend stays within CTOL under
the jerk limit. -/
def State.junction (s : State) (g h : Nat) (m n : PlanMove) : Rat :=
  let t := h * s.frameSec
  let d := norm (vsub n.geo.dirs.1 m.geo.dirs.2)
  let v := min (s.feedOf g m) (s.feedOf g n)
  if d = 0 then v else min v (min (s.grpJ g * t * t / d) (6 * (s.rd64N (GRP_CTOL g) : Rat) / (d * t)))
/-- The largest entry speed of a list of moves that lets the group stop at their end (R118, pass 2). -/
def State.entrySpeed (s : State) (g h : Nat) : List PlanMove → Rat
  | [] => 0
  | [m] => reachBits 0 m.geo.len (s.grpA g) (s.grpJ g) (s.feedOf g m) 63 0
  | m :: n :: rest =>
    let out := min (s.junction g h m n) (s.entrySpeed g h (n :: rest))
    reachBits out m.geo.len (s.grpA g) (s.grpJ g) (s.feedOf g m) 63 0

/-- A uniform cubic B-spline piece of four control values over time `t`: position, velocity, acceleration, jerk. -/
def bspline (t c0 c1 c2 c3 : Rat) : Rat × Rat × Rat × Rat :=
  ((c0 + 4 * c1 + c2) / 6, (c2 - c0) / (2 * t), (c0 - 2 * c1 + c2) / (t * t), (c3 - 3 * c2 + 3 * c1 - c0) / (t * t * t))
/-- The segments of one member for control values, `h` frames each, from frame `f`. -/
def State.bsplineSegs (s : State) (mv h : Nat) (scale : Rat) : Nat → List Rat → List Seg
  | f, c0 :: c1 :: c2 :: c3 :: rest =>
    let x := bspline (h * s.frameSec) c0 c1 c2 c3
    { start := f, p0 := roundQ (scale * x.1), v0 := roundQ (scale * x.2.1), a0 := roundQ (scale * x.2.2.1), j := roundQ (scale * x.2.2.2)
      dur := h, move := mv, last := rest.isEmpty } :: s.bsplineSegs mv h scale (f + h) (c1 :: c2 :: c3 :: rest)
  | _, _ => []
/-- The first move that the planner of a group holds becomes segments (R118, pass 3). -/
def State.planCommit (s : State) (g : Nat) : State :=
  let pl := s.grpPlan g
  match pl.moves with
  | [] => s
  | m :: rest =>
    let L := m.geo.len
    let ms := s.grpMembers g
    let s0 := s.modPlan g fun p => { p with moves := rest }
    if L = 0 then s0.finishAny m.tag .ok
    else
      let fresh := pl.ctl.isEmpty
      let h := if fresh then s.knotStep g else pl.step
      let f := if fresh then s.startFrame (ms.map (·.1)) else pl.next
      let hs := h * s.frameSec
      let v0 := if fresh then 0 else pl.speed
      let win := rest.take (s.get (GRP_CFG g) GRP_CFG_LA - 1)
      let v1 := match win with
        | [] => 0
        | n :: _ => min (min (s.junction g h m n) (s.entrySpeed g h win)) (reachBits v0 L (s.grpA g) (s.grpJ g) (s.feedOf g m) 63 0)
      let law := timeLaw v0 v1 L (s.grpA g) (s.grpJ g) (max v0 (s.feedOf g m))
      let T := lawTime law
      let t0 := if fresh then hs else pl.rest
      let k := if t0 < T then ((T - t0) / hs).ceil.toNat else 0
      let pts := (List.range k).map fun i => m.geo.at (lawAt law (0, v0, 0) (t0 + i * hs)).1
      let e := rats m.geo.endPoint
      let ctl := (if fresh then List.replicate 3 (m.geo.at 0) else pl.ctl) ++ pts ++ (if v1 = 0 then [e, e, e] else [])
      let n := ctl.length - 3
      let s1 := (List.range ms.length).foldl (fun s i =>
        let ax := ms.getD i (0, 1)
        let (mv, s2) := (s.standTo ax.1 f).nextMove ax.1
        s2.addSegs ax.1 (s2.bsplineSegs mv h ax.2 f (ctl.map fun c => c.getD i 0))) s0
      let s2 := s1.modPlan g fun p =>
        if v1 = 0 then { moves := p.moves }
        else { p with ctl := ctl.drop n, step := h, next := f + n * h, speed := v1, rest := t0 + k * hs - T }
      if n = 0 then s2.finishAny m.tag .ok else s2.moveQueued m.tag m.wait (ms.map (·.1))
/-- Every move that the planner of a group holds becomes segments. -/
def State.planFlush (s : State) (g : Nat) : State := (List.range (s.grpPlan g).moves.length).foldl (fun s _ => s.planCommit g) s
/-- Less than 64 ms of segments lie beyond the present frame (R115). -/
def State.planLow (s : State) (g : Nat) : Bool :=
  (s.grpMembers g).any fun x => match s.endFrame x.1 with
    | some f => decide (f * s.frameLen < s.time.frameNum * s.frameLen + 25600000 + 2 * s.frameLen)
    | none => true
/-- The planner's work at a frame boundary, while the firmware runs. -/
def State.planTick (s : State) : State :=
  if !s.pw.fwRun then s
  else
    let s1 := s.forEach (idxWhere 80 fun n => !(s.mo n).plan.isEmpty) fun s n => s.refill n
    s1.forEach (idxWhere 16 fun g => !(s1.grpPlan g).moves.isEmpty) fun s g =>
      (List.range (s.grpPlan g).moves.length).foldl (fun s _ => if s.planLow g then s.planCommit g else s) s
/-- A move of a group reaches the planner. -/
def State.planPath (s : State) (g tag : Nat) (wait : Bool) (geo : PathGeo) (feed : Int) : State :=
  let s1 := s.modPlan g fun p => { p with moves := p.moves ++ [{ tag := some tag, wait := wait, geo := geo, feed := feed }] }
  if s1.planLow g then s1.planCommit g else s1
/-- Where a new path of a group starts, in path units: the end of the last move held, or of what is planned. -/
def State.pathStart (s : State) (g : Nat) : List Int :=
  match (s.grpPlan g).moves.getLast? with
  | some m => m.geo.endPoint
  | none => (s.grpMembers g).map fun x => roundQ ((s.endPos x.1 : Rat) / x.2)

/-! ### STOP (R119) -/

/-- The first frame boundary at least 64 ms ahead. -/
def State.stopFrame (s : State) : Nat :=
  s.time.frameNum + (s.tick + 25600000 - s.time.frameStart / 32 + s.frameLen - 1) / s.frameLen
/-- The queued motion at `t`, and whether a segment holds it. -/
def State.queueAt (s : State) (l : List Seg) (t : Nat) : Option (Rat × Rat × Rat) :=
  (l.find? fun g => decide (t < s.frameTime (g.start + g.dur))).map fun g => s.segAt g (max t (s.frameTime g.start))
/-- Segments up to frame `b`; the one that is cut carries END where less than `k` frames of it are left, as R115 asks of one so
short. -/
def cutSegs (b k : Nat) (l : List Seg) : List Seg :=
  (l.filter fun g => decide (g.start < b)).map fun g =>
    if b < g.start + g.dur then { g with dur := b - g.start, last := decide (b - g.start < k) } else g
/-- The instants at which a stop looks at a queued motion: sixteen in every segment beyond `tb`. -/
def State.stopTimes (s : State) (tb : Nat) (l : List Seg) : List Nat :=
  (l.flatMap fun g => (List.range 16).map fun i => s.frameTime g.start + s.frameTime g.dur * (i + 1) / 16).filter fun u => decide (tb < u)
/-- A STOP takes over at frame `b`: axes with their increments per path unit, limits of the stop.  The group runs on along its queued
path, by the Dusk ramp of R107 in path length from its speed and acceleration there (R119). -/
def State.stopAxes (s : State) (tag b : Nat) (axs : List (Nat × Rat)) (A J : Rat) : State :=
  let tb := s.frameTime b
  let moving := axs.filter fun x => (s.queueAt (s.planned x.1) tb).isSome
  let at0 := fun (x : Nat × Rat) => (s.queueAt (s.planned x.1) tb).getD (0, 0, 0)
  -- speed and acceleration along the path where the stop begins
  let vs := moving.map fun x => (at0 x).2.1 / x.2
  let V := norm vs
  let A0 : Rat := if V = 0 then 0 else ((vs.zip (moving.map fun x => (at0 x).2.2 / x.2)).map fun p => p.1 * p.2).sum / V
  let law := rampFrom 0 0 (roundQ V) (roundQ A0) (roundQ A) (roundQ J)
  let T : Rat := mkRat law.len perSec32
  -- the instants of the queued motion, by the path length run since tb
  let point := fun (u : Nat) => moving.map fun x => match s.queueAt (s.planned x.1) u with
    | some y => y.1 / x.2
    | none => ((s.endPos x.1 : Int) : Rat) / x.2
  let us := (moving.flatMap fun x => s.stopTimes tb (s.planned x.1)).mergeSort
  let path := (0, (tb : Rat)) :: arcTable (fun u => point u.floor.toNat) (us.map fun (u : Nat) => (u : Rat)) 0 (point tb)
  let h := s.minSeg
  let hs := h * s.frameSec
  let k := if V = 0 then 0 else ((T / hs).ceil.toNat - 2)
  moving.foldl (fun s x =>
    let n := x.1
    let l := s.planned n
    let x0 := at0 x
    let pos := fun (t : Rat) =>
      match s.queueAt l (tableAt path (law.at (roundQ (t * perSec16)).toNat).1).floor.toNat with
      | some y => y.1
      | none => (s.endPos n : Int)
    let c0 := x0.1 - x0.2.2 * hs * hs / 6
    let c1 := c0 + x0.2.1 * hs + x0.2.2 * hs * hs / 2
    let cm := c0 - x0.2.1 * hs + x0.2.2 * hs * hs / 2
    let e := pos T
    let mv := match l.find? fun g => decide (tb < s.frameTime (g.start + g.dur)) with
      | some g => g.move
      | none => 0
    let new := s.bsplineSegs mv h 1 b ([cm, c0, c1] ++ ((List.range k).map fun i => pos ((i + 2) * hs)) ++ [e, e, e])
    let kept := cutSegs b h l
    let s1 := s.modMo n fun m => { m with segs := (kept ++ new).take 512, plan := (kept ++ new).drop 512 }
    let gone := s.waits.filter fun w => w.kind == .moveEnd && w.unit % 128 == n && w.unit / 128 != mv && !(kept.any fun g => g.move == w.unit / 128)
    (gone.foldl (fun s w => s.finish w.tag .superseded tag) s1).segRegs n) s
/-- A STOP whose boundary has come. -/
def State.stopNow (s : State) (r : StopReq) : State :=
  let s1 :=
    if r.unit < 80 then
      s.stopAxes r.tag r.frame [(r.unit, 1)] (s.rd64I (AX_DSDEC r.unit) : Int) (s.rd64I (AX_DSJERK r.unit) : Int)
    else
      let g := r.unit - 0x90
      let s0 := (s.grpPlan g).moves.foldl (fun s m => s.finishAny m.tag .superseded r.tag) s
      (s0.modPlan g fun _ => {}).stopAxes r.tag r.frame (s.grpMembers g) (s.grpA g) (s.grpJ g)
  s1.finish r.tag .ok
/-- The boundary of a STOP: every STOP that is due takes over. -/
def State.stopBoundary (s : State) : State :=
  let due := s.stops.filter fun r => decide (r.frame ≤ s.time.frameNum)
  due.foldl State.stopNow { s with stops := s.stops.filter fun r => !decide (r.frame ≤ s.time.frameNum) }

end Sys2Proof.Machine
end

