-- ==== Sys2Proof/Machine/Net.lean ====
section
/-! DEFINITION. Ports, switch, gate control lists, 802.1CB, MACsec, and network time (R306–R338). -/

namespace Sys2Proof.Machine

def State.modNw (s : State) (f : NetSt → NetSt) : State := { s with nw := f s.nw }
def State.gcl (s : State) (p : Nat) : GclSt := vget s.nw.gcls p {}
def State.modGcl (s : State) (p : Nat) (f : GclSt → GclSt) : State := s.modNw fun w => { w with gcls := vmod w.gcls p f }
def State.modPtp (s : State) (f : PtpSt → PtpSt) : State := s.modNw fun w => { w with ptp := f w.ptp }
/-- ROLE of the pair reads Watch (2) (R399). -/
def State.isWatch (s : State) : Bool := s.get TW_STAT TW_STAT_ROLE == 2

/-! ### Ports -/

def State.linkUp? (s : State) (p : Nat) : Bool := p == 0 || (s.flag (PORT_CFG p) PORT_CFG_EN && s.flag (PORT_STAT p) PORT_STAT_LINK)
/-- The rate class of a port: 1 for 1 Gb/s, 2 for 2.5 Gb/s. -/
def State.portRate (s : State) (p : Nat) : Nat := s.get (PORT_STAT p) PORT_STAT_SPEED

/-- A link comes up (R324): the latencies of the negotiated speed are loaded, unless LATLOCK is set. -/
def State.linkUp (s : State) (p speed : Nat) (master : Bool) : State :=
  let adv := s.get (PORT_CFG p) PORT_CFG_ADV
  if !s.flag (PORT_CFG p) PORT_CFG_EN || speed = 0 || 2 < speed || (p = 3 && speed = 2) || !nbit adv (speed - 1) then s
  else
    let s1 := ((s.setf (PORT_STAT p) PORT_STAT_LINK).put (PORT_STAT p) PORT_STAT_SPEED speed).putB (PORT_STAT p) PORT_STAT_MASTER master
    let s2 := s1.event .linkChange p 1
    if s.flag (PORT_CFG p) PORT_CFG_LATLOCK then s2
    else if speed = 1 then (s2.wrN (PORT_INGLAT p) 13926400).wrN (PORT_EGRLAT p) 6307840
    else (s2.wrN (PORT_INGLAT p) 75530240).wrN (PORT_EGRLAT p) 34406400

/-- A link goes down. -/
def State.linkDown (s : State) (p : Nat) : State :=
  if s.flag (PORT_STAT p) PORT_STAT_LINK then (s.clrf (PORT_STAT p) PORT_STAT_LINK).event .linkChange p 0 else s

/-! ### Timestamps (R323–R327) -/

/-- Whether a port stamps the frame in hardware. -/
def State.stamps (s : State) (p : Nat) (k : EthKind) : Bool :=
  p != 0 && s.flag (PORT_CFG p) PORT_CFG_HWTS && (match k with
    | .ptpEvent _ _ | .cyclic | .acyclic | .bell => true
    | _ => false)
/-- Module time (2^−16 ns) at an eighth of the present tick. -/
def State.stampAt (s : State) (e : Nat) : Int := (s.mtAt (s.now + 4 * (e % 8)) / 65536 : Nat)

/-! ### MACsec (R316, R317, R591) -/

def State.sakValid (s : State) (slot : Nat) : Bool := nbit (s.rdN (SEC_SLOTS (1 + slot / 32))) (slot % 32)
def State.useSak (s : State) (slot : Nat) : State :=
  if s.nw.sakUsed.contains slot then s else s.modNw fun w => { w with sakUsed := slot :: w.sakUsed }

/-- The check of a received frame: none where it is dropped. PTP frames use the uncontrolled port. -/
def State.macsecIn (s : State) (p : Nat) (f : EthFrame) : Bool × State :=
  let open_ := match f.kind with
    | .ptpEvent _ _ | .ptpGeneral => true
    | _ => false
  if p = 0 || !s.flag (MS_CFG p) MS_CFG_EN || open_ then (true, s)
  else
    match f.sec with
    | none => (false, s.count (MS_CNT p) MS_CNT_ICVBAD)
    | some t =>
      let s1 := s.useSak t.slot
      if !s.sakValid t.slot || !t.icvOk then (false, s1.count (MS_CNT p) MS_CNT_ICVBAD)
      else
        let key := 32 * p + 4 * t.chan.val + t.an.val
        let next := Sys2Proof.Machine.aget 0 s.nw.pns key
        let win := s.get (MS_CFG p) MS_CFG_REPLAY
        if t.pn.toNat + win < next then (false, s1.count (MS_CNT p) MS_CNT_REPLAYED)
        else (true, s1.modNw fun w => { w with pns := (key, max next (t.pn.toNat + 1)) :: w.pns.filter fun x => x.1 != key })

/-! ### Frame replication and elimination (R314, R315) -/

/-- The vector recovery algorithm on one copy: whether it is the first, the new state, and the counts of frames lost,
discarded and rogue. -/
def FrerSt.step (r : FrerSt) (q : Nat) : Bool × FrerSt × Nat × Nat × Nat :=
  let shift := fun (h : List Bool) (b : Bool) => (b :: h).take 32
  let gone := fun (h : List Bool) => if h.getLast?.getD true then 0 else 1
  if r.takeAny then (true, { r with takeAny := false, recov := q, hist := true :: r.hist.drop 1 }, 0, 0, 0)
  else
    let d := wrapS 16 ((q : Int) - r.recov)
    if 32 ≤ d || d ≤ -32 then (false, r, 0, 0, 1)
    else if d ≤ 0 then
      if r.hist.getD d.natAbs true then (false, r, 0, 1, 0)
      else (true, { r with hist := r.hist.set d.natAbs true }, 0, 0, 0)
    else
      let (h, l) := (List.range (d.toNat - 1)).foldl (fun (x : List Bool × Nat) _ => (shift x.1 false, x.2 + gone x.1)) (r.hist, 0)
      (true, { r with recov := q, hist := shift h true }, l + gone h, 0, 0)

def State.addCount (s : State) (a : Nat) (f : Fld) (n : Nat) : State := s.put a f (min (2 ^ f.w - 1) (s.get a f + n))

/-- A copy of a stream reaches the module on P1 or P2: whether it is delivered and relayed. -/
def State.frerIn (s : State) (p : Nat) (f : EthFrame) (q : Nat) : Bool × State :=
  let vid := match f.tag with
    | some t => t.2.val
    | none => 0
  let known := s.nw.frer.any fun r => r.dst == f.dst && r.vid == vid
  if !known && 64 ≤ s.nw.frer.length then (true, s)
  else
    let l := if known then s.nw.frer else s.nw.frer ++ [{ dst := f.dst, vid := vid }]
    let r := (l.find? fun r => r.dst == f.dst && r.vid == vid).getD { dst := f.dst, vid := vid }
    let (ok, r1, lost, disc, rogue) := r.step q
    let s1 := s.modNw fun w => { w with frer := l.map fun x => if x.dst == f.dst && x.vid == vid then { r1 with at_ := s.tick, took := if ok then (q, s.tick, p) else r.took } else x }
    (ok, ((s1.addCount FR_CNT0 FR_CNT0_LOST lost).addCount FR_CNT0 FR_CNT0_DISCARD disc).addCount FR_CNT1 FR_CNT1_ROGUE rogue)

/-- A stream that has received nothing for RSTO resets its history. -/
def State.frerReset (s : State) (i : Nat) : State :=
  match s.nw.frer[i]? with
  | none => s
  | some r =>
    if r.takeAny then s
    else
      let s1 := s.advanceTo (r.at_ + 400000 * s.get FR_CFG FR_CFG_RSTO)
      (s1.count FR_CNT1 FR_CNT1_RESETS).modNw fun w => { w with frer := w.frer.set i { dst := r.dst, vid := r.vid, at_ := r.at_ } }

/-! ### Forwarding (R308–R310) -/

/-- The traffic class of a frame. -/
def ethClass (f : EthFrame) : Nat :=
  match f.kind with
  | .ptpEvent _ _ | .ptpGeneral => 7
  | .cyclic => 6
  | .bell => 5
  | .acyclic => 4
  | .other => match f.tag with
    | some t => t.1.val
    | none => 0

/-- The ports a frame leaves by: a learned address its port, else every other port.  A stream leaves the ring by the uplink too, or no other ring
would have it (DEDUCED from R340). -/
def State.egressOf (s : State) (p : Nat) (f : EthFrame) : List Nat :=
  let all := [0, 1, 2, 3].filter fun q => q != p && s.linkUp? q
  if f.rtag.isSome then all
  else if f.dst == Config.macAddress then all.filter (· == 0)
  else
    match s.nw.macs.find? fun m => m.1 == f.dst && decide (s.tick ≤ m.2.2 + 120000000000) with
    | some m => if f.dst.toNat / 2 ^ 40 % 2 = 1 then all else all.filter (· == m.2.1)
    | none => all

/-- The source address is learned; the table holds 4 096. -/
def State.learn (s : State) (p : Nat) (f : EthFrame) : State :=
  let l := s.nw.macs.filter fun m => m.1 != f.src && decide (s.tick ≤ m.2.2 + 120000000000)
  if l.length < 4096 then s.modNw fun w => { w with macs := (f.src, p, s.tick) :: l } else s.modNw fun w => { w with macs := l }

/-- A frame joins the queue of its class, or reaches P0.  The R-TAG is carried on a ring alone (R342). -/
def State.egress (s : State) (f : EthFrame) (q : Nat) : State :=
  if q = 0 then s.modNw fun w => { w with p0 := some f }
  else
    let f1 := if q = 3 && f.rtag.isSome then { f with rtag := none, len := max 64 (f.len - 6) } else f
    s.modGcl q fun g => { g with queues := vmod g.queues (ethClass f) fun l => l ++ [f1] }
/-- Frames of a class still queued on some ports are taken out again. -/
def State.unqueue (s : State) (ports : List Nat) (c : Nat) (bad : EthFrame → Bool) : State :=
  s.forEach ports fun s q => s.modGcl q fun g => { g with queues := vmod g.queues c fun l => l.filter fun f => !bad f }
/-- Of two copies of one sequence number in one tick the P1 copy is taken (R315): where the P2 copy came first, the P1 copy takes its place in the
queues.  What P0 has delivered of it is the same. -/
def State.frerSwap (s : State) (f : EthFrame) (q : Nat) (outs : List Nat) : State :=
  let vid := match f.tag with
    | some t => t.2.val
    | none => 0
  if s.nw.frer.any fun r => r.dst == f.dst && r.vid == vid && r.took == (q, s.tick, 2) then
    let s1 := s.unqueue [1, 3] (ethClass f) fun x => x.dst == f.dst && x.inPort == 2 && x.src == f.src && x.body == f.body
    (outs.filter (· ≠ 0)).foldl (fun s p => s.egress f p) s1
  else s

/-- A frame enters the switch by port `p` in eighth `e` of the present tick. -/
def State.switchIn (s : State) (p e : Nat) (f0 : EthFrame) : State :=
  if !s.linkUp? p then s
  else if 2048 < f0.len then (if p = 0 then s else s.count (PORT_CNT p) PORT_CNT_FCSERR)
  else
    let hw := s.stamps p f0.kind
    let f1 := { f0 with
      inPort := p
      inStamp := if hw then some (s.stampAt e - s.rdN (PORT_INGLAT p)) else none
      swts := match f0.kind with
        | .ptpEvent _ _ => p != 0 && !hw
        | _ => false }
    let own : BitVec 48 := BitVec.ofNat 48 (s.rd64N RM_MC + s.get RM_CFG RM_CFG_NODE)
    let cyclic := match f1.kind with
      | .cyclic => true
      | _ => false
    if p = 0 && cyclic && s.isWatch then s
    else if p ≠ 0 && cyclic && f1.dst == own then s
    else
      let ct := fun q => (p = 0 || (s.flag (PORT_CFG p) PORT_CFG_CT && !s.flag (MS_CFG p) MS_CFG_EN)) && (q = 0 || s.flag (PORT_CFG q) PORT_CFG_CT)
        && (p = 0 || q = 0 || decide (s.portRate q ≤ s.portRate p))
      let (outs, held) := (s.egressOf p f1).partition fun q => f1.fcsOk || ct q
      let sa := if f1.fcsOk || outs.isEmpty then s else s.count (PORT_CNT p) PORT_CNT_CTBAD
      let s0 := if f1.fcsOk || (held.isEmpty && !outs.isEmpty) then sa else sa.count (PORT_CNT p) PORT_CNT_FCSERR
      if outs.isEmpty then s0
      else if !f1.fcsOk then s0.forEach outs fun s q => s.egress f1 q
      else
        let (ok, s1) := s0.macsecIn p f1
        if !ok then s1
        else
          let s2 := s1.learn p f1
          let f2 := { f1 with sec := none }
          if p = 0 && cyclic then
            let f3 := { f2 with rtag := some (BitVec.ofNat 16 s.nw.seqTx), len := max 64 (f2.body.length + 28) }
            (s2.modNw fun w => { w with seqTx := (w.seqTx + 1) % 65536 }).forEach outs fun s q => s.egress f3 q
          else
            match f2.rtag with
            | none => s2.forEach outs fun s q => s.egress f2 q
            | some q =>
              let (take, s3) := s2.frerIn p f2 q.toNat
              if take then s3.forEach outs fun s q => s.egress f2 q else if p = 1 then s3.frerSwap f2 q.toNat outs else s3

/-! ### Scheduled traffic (R311–R313) -/

/-- The operational entries: gate states and interval. -/
def State.operList (s : State) (p : Nat) : List (Nat × Nat) :=
  (List.range (s.gcl p).count).map fun i => (s.get (GCL_OPER p i) GCL_OPER_GATES, s.get (GCL_OPER p i) GCL_OPER_INTERVAL)
/-- The end of the entry in use (1/32 ticks): the last one holds until the cycle ends, and the cycle end cuts the list. -/
def State.entryEnd (s : State) (p : Nat) : Nat :=
  let g := s.gcl p
  let ce := g.cycAt + 32 * g.cycle
  if g.idx + 1 < g.count then min ce (g.entAt + 32 * s.get (GCL_OPER p g.idx) GCL_OPER_INTERVAL) else ce

/-- The intervals of the entries from `l` on, cut at `room` ticks, the last one filling it. -/
def cutList : List (Nat × Nat) → Nat → List (Nat × Nat)
  | [], _ => []
  | [(g, _)], room => [(g, room)]
  | (g, t) :: rest, room => if room ≤ t then [(g, room)] else (g, t) :: cutList rest (room - t)
/-- How long a gate stays open over a list of entries (1/32 ticks), and whether over all of it. -/
def openRun (c : Nat) : List (Nat × Nat) → Nat × Bool
  | [] => (0, true)
  | (g, t) :: rest => if nbit g c then let r := openRun c rest; (32 * t + r.1, r.2) else (0, false)

/-- Whether the gate of class `c` is open now for `need` (1/32 ticks). -/
def State.gateFor (s : State) (p c need : Nat) : Bool :=
  let g := s.gcl p
  if g.count = 0 then true
  else
    let l := s.operList p
    if !nbit ((l.getD g.idx (0, 0)).1) c then false
    else
      let left := s.entryEnd p - s.now
      let (r1, all1) := openRun c (cutList (l.drop (g.idx + 1)) ((g.cycAt + 32 * g.cycle - s.entryEnd p) / 32))
      let (r2, all2) := openRun c (cutList l g.cycle)
      decide (need ≤ left) || decide (need ≤ left + r1) || (all1 && (all2 || decide (need ≤ left + r1 + r2)))

/-- The time a frame with preamble and gap takes on the wire (1/32 ticks). -/
def State.wireTime (s : State) (p len : Nat) : Nat :=
  if s.portRate p = 2 then ((len + 20) * 1024 + 24) / 25 else ((len + 20) * 512 + 4) / 5

/-- The next cycle start of a grid after `m` (2^−32 ns). -/
def cycleAfter (base cycle m : Nat) : Nat :=
  let c := max 1 (cycle * 10737418240)
  (((m : Int) - base) / c * c + c + base).toNat

/-- A gate control list cycle starts: entry 0 applies. -/
def State.gclCycle (s : State) (p : Nat) : State :=
  let g := s.gcl p
  if g.count = 0 then s
  else
    let t := s.instantOf (cycleAfter g.base g.cycle s.time.mt)
    let cut := decide (g.cycle < (s.operList p).foldl (fun n e => n + e.2) 0)
    let s1 := (s.advanceTo ((t + 31) / 32)).modGcl p fun g => { g with idx := 0, entAt := t, cycAt := t }
    if cut then s1.setf (GCL_STAT p) GCL_STAT_TRUNC else s1

/-- An interval ends inside the cycle: the next entry applies. -/
def State.gateEnd (s : State) (p : Nat) : State :=
  let g := s.gcl p
  let t := s.entryEnd p
  if g.idx + 1 < g.count && t < g.cycAt + 32 * g.cycle then
    (s.advanceTo ((t + 31) / 32)).modGcl p fun g => { g with idx := g.idx + 1, entAt := t }
  else s

/-- A write of CHG submits the administrative list, or is refused (R313). -/
def State.gclChg (s : State) (p : Nat) : State :=
  let n := s.get (GCL_CTRL p) GCL_CTRL_COUNT
  let adm := (List.range n).map fun i => s.rd (GCL_ADM p i)
  if adm.any fun w => w.toNat % 2 ^ 21 == 0 || decide (1600000 < w.toNat % 2 ^ 21) then s.setf (GCL_STAT p) GCL_STAT_BADLIST
  else
    let base := lsDecode (s.rd64N (GCL_BASE p)) * 65536
    let least := max (lsDecode (s.rd64N (GCL_CHGTIME p)) * 65536) (s.mtAt (s.now + 512))
    (s.setf (GCL_STAT p) GCL_STAT_PEND).modGcl p fun g => { g with pend := some (base, s.get (GCL_CYCLE p) GCL_CYCLE_CYCLE, adm, least) }

/-- The administrative list becomes operational at the first start of its own grid that qualifies. -/
def State.gclEffect (s : State) (p : Nat) : State :=
  match (s.gcl p).pend with
  | none => s
  | some (base, cycle, adm, least) =>
    let t := s.instantOf (cycleAfter base cycle (least - 1))
    let s1 := (s.advanceTo ((t + 31) / 32)).clrf (GCL_STAT p) GCL_STAT_PEND
    let s2 := s1.forEach (List.range 64) fun s i => s.wr (GCL_OPER p i) (adm.getD i 0)
    (s2.modGcl p fun g =>
      { g with base := base, cycle := cycle, count := adm.length, idx := 0, entAt := t, cycAt := t, pend := none }).resolve .gate p .ok

/-- A queued frame of class `c` starts on an egress port in eighth `e`, protected under SAK `slot` where the SecY is on. -/
def State.portTransmit (s : State) (p c e slot : Nat) : State :=
  let g := s.gcl p
  match vget g.queues c [] with
  | [] => s
  | f :: rest =>
    let need := s.wireTime p f.len
    let ready := fun k => match vget g.queues k [] with
      | [] => false
      | h :: _ => s.gateFor p k (s.wireTime p h.len)
    let higher := (List.range 8).any fun k => decide (c < k) && ready k
    if !s.linkUp? p || s.now < g.busy || higher || !s.gateFor p c need then s
    else
      let s1 := s.modGcl p fun g => { g with queues := vmod g.queues c fun _ => rest }
      let ptp := match f.kind with
        | .ptpEvent _ _ | .ptpGeneral => true
        | _ => false
      let prot := s.flag (MS_CFG p) MS_CFG_EN && !ptp
      let s2 := if prot then s1.useSak slot else s1
      if prot && !s.sakValid slot then s2.count (MS_CNT p) MS_CNT_ICVBAD
      else
        let out := s.stampAt e + s.rdN (PORT_EGRLAT p)
        let f1 := match f.kind with
          | .ptpEvent orig p2p =>
            if !s.stamps p f.kind then { f with swts := true }
            else if f.inPort = 0 then (if orig then { f with origin := out } else f)
            else match f.inStamp with
              | none => f
              | some i =>
                { f with corr := f.corr + (out - i) + (if p2p then s.rdI (PORT_LDELAY f.inPort) + s.rdI (PORT_ASYM f.inPort) else 0) }
          | _ => f
        -- which association a protected frame leaves under is the firmware's key agreement's: an open value
        let (w, s3) := if prot then s2.freeWord else (0, s2)
        let pn := Sys2Proof.Machine.aget 1 s3.nw.pns (128 + slot)
        let s4 := if prot then s3.modNw fun w => { w with pns := (128 + slot, pn + 1) :: w.pns.filter fun x => x.1 != 128 + slot } else s3
        let f2 := if prot then { f1 with sec := some { chan := 0, an := Fin.ofNat 4 w.toNat, slot := Fin.ofNat 48 slot, pn := BitVec.ofNat 32 pn, icvOk := true } } else f1
        s4.modGcl p fun g => { g with busy := s.now + need, sent := some f2 }

/-! ### The local clock (R318–R322) -/

/-- Seconds, nanoseconds and the 16-bit fraction of a module time in 2^−32 ns. -/
def secOf (mt : Nat) : Nat := mt / 2 ^ 32 / 1000000000 % 2 ^ 48
def nsOf (mt : Nat) : Nat := mt / 2 ^ 32 % 1000000000
def fracOf (mt : Nat) : Nat := mt / 2 ^ 16 % 2 ^ 16
def second32 : Nat := 1000000000 * 2 ^ 32

/-- TRIM changes: from the next tick (R319). -/
def State.setTrim (s : State) (t : Int) : State :=
  let prev := if s.time.trimAt = some s.tick then s.time.trimPrev else s.time.trim
  { s with time := { s.time with trim := t, trimPrev := prev, trimAt := some s.tick } }
/-- A write of TRIM, clamped to ±1 000 ppm (R319). -/
def State.ntTrim (s : State) (v : Int) : State :=
  let t := clampI (-10737418) 10737418 v
  let s1 := (s.wrI NT_TRIM t).setTrim t
  if t = v then s1 else s1.setf NT_STAT NT_STAT_TRIMCLAMP

/-- The grid is placed anew at a step in Dawn or Morning; in Noon and Dusk it is worked off (R48).  Of a step in Night the rule says nothing: SLEW is not
set, the grid is not placed anew and the error is worked off with SLIP, as R47 treats any error (DESIGN CHOICE). -/
def State.stepGrid (s : State) : State :=
  if s.running then s.setf TB_FRAME TB_FRAME_SLEW
  else if s.inNight then s
  else { s with time := { s.time with rephase := true } }
/-- A step of `d` (2^−16 ns) in the next tick; a setting in the same tick discards it. -/
def State.stepBy (s : State) (d : Int) : State :=
  match s.time.stepPend with
  | some (true, _) => s
  | _ => ({ s with time := { s.time with stepPend := some (false, d * 65536) } }.stepGrid).event .timeStep 0 d
def State.stepGo (s : State) : State := s.stepBy (s.rd64I NT_STEP)
/-- NT_SETSEC and NT_SETNS are loaded in the next tick, in Morning only. -/
def State.setGo (s : State) : State :=
  if s.inMorning then
    { s with time := { s.time with
        stepPend := some (true, ((s.rd64N NT_SETSEC % 2 ^ 48 * 1000000000 + s.get NT_SETNS NT_SETNS_V) * 2 ^ 32 : Nat)) } }.stepGrid
  else s

/-- A read of NT_NS latches NT_SEC and NT_FRAC for the requester. -/
def State.ntNsRead (s : State) (r : Nat) : State :=
  let m := s.time.mt
  { (s.modNw fun w => { w with ntLatch := vmod w.ntLatch r fun _ => (secOf m, fracOf m) }) with rdata := BitVec.ofNat 32 (nsOf m) }

/-- The end of the UTC day with LEAP61 or LEAP59 set. -/
def State.leapSecond (s : State) : State :=
  let l61 := s.flag NT_UTC NT_UTC_LEAP61
  let l59 := s.flag NT_UTC NT_UTC_LEAP59
  if l61 || l59 then
    let ofs := s.getI NT_UTC NT_UTC_OFS
    let day : Int := 86400 * second32
    let utc : Int := (s.time.mt : Int) - ofs * second32
    let s1 := s.advanceTo ((s.instantOf ((utc / day * day + day + ofs * second32).toNat) + 31) / 32)
    ((s1.put NT_UTC NT_UTC_OFS (ofs + b2n l61 - b2n l59 + 65536).toNat).clrf NT_UTC NT_UTC_LEAP61).clrf NT_UTC NT_UTC_LEAP59
  else s

/-! ### PTP (R328, R329) -/

def State.setSync (s : State) (v : Nat) : State :=
  if s.get NT_STAT NT_STAT_SYNC = v then s else ((s.put NT_STAT NT_STAT_SYNC v).event .syncChange v).group 4
/-- The host runs the servo. -/
def State.ptpHost (s : State) : Bool := nbit (s.rdN SYS_HAMODE) 1

/-- SYNC reads locked once the offset has stayed within ±50 ns for 16 consecutive Sync intervals. -/
def State.ptpSync (s : State) (off : Int) : State :=
  let r := if absI off ≤ 50 * 65536 then s.nw.ptp.run + 1 else 0
  (s.modPtp fun p => { p with run := min 16 r }).setSync (if 16 ≤ r then 2 else 1)

/-- A measurement of the PTP instance of a port: offset and link delay in 2^−16 ns, and the grandmaster's valid UTC offset.  Without the yard cores
there is none, and the trim holds (R43). -/
def State.ptpMeasure (s : State) (port : Nat) (off delay : Int) (seq : Nat) (utc : Option Int) : State :=
  let s0 := match utc with
    | some u => (s.put NT_UTC NT_UTC_OFS ((u + 65536) % 65536).toNat).setf NT_UTC NT_UTC_UVALID
    | none => s
  let s1 := (((s0.wrI (PORT_LDELAY port) delay).modPtp fun p => { p with lastOff := off }).clrf NT_STAT NT_STAT_GM).ptpSync off
  if !s.pw.fwRun then s
  else if s.isWatch then s1
  else if s.ptpHost then
    (s1.modPtp fun p => { p with recs := p.recs ++ [(port, off, delay, lsCode s.time.mt, seq)] }).event .measurement port
  else
    let p := s.nw.ptp
    if (p.thr : Int) * 65536 < absI off then s1.stepBy (-off)
    else
      let x := sat32 off
      let i := sat32 (p.integ + coef p.ki p.kiSh x)
      ((s1.modPtp fun p => { p with integ := i }).ntTrim (clampI (-10737418) 10737418 (sat32 (coef p.kp p.kpSh x + i))))

/-- The grandmaster is lost: SYNC reads holdover, TRIM is held.  Which node is grandmaster then the selection of IEEE 802.1AS decides, of which the
spec gives no more than GM of NT_STAT: its result is an open value, and a later measurement shows another grandmaster (DESIGN CHOICE). -/
def State.ptpHoldover (s : State) : State :=
  let (w, s1) := s.freeWord
  ((s1.modPtp fun p => { p with run := 0 }).putB NT_STAT NT_STAT_GM (nbit w.toNat 0)).setSync 3

/-- No correction of the host within SRVTO seconds (R329). -/
def State.servoTimeout (s : State) : State :=
  let tmo := s.get NT_SRVTO NT_SRVTO_V
  if !s.ptpHost || tmo = 0 || s.flag NT_STAT NT_STAT_SRV_LATE then s
  else (((s.advanceTo (s.nw.ptp.corrAt + tmo * 400000000)).setSync 3).setf NT_STAT NT_STAT_SRV_LATE).event .syncChange 4 |>.group 4

/-- A correction of the host: TRIM, and a step (2^−16 ns; 0 none). -/
def State.ptpCorrect (s : State) (trim step : Int) : State :=
  let s1 := (s.modPtp fun p => { p with corrAt := s.tick }).ntTrim trim
  if step = 0 then s1 else (s1.wr64I NT_STEP step).stepGo

/-! ### PPS (R330, R331) -/

/-- Module time + PPSOFS passes a whole second. -/
def State.ppsEdge (s : State) : State :=
  if s.flag NT_PPSCFG NT_PPSCFG_PPSEN then
    let s0 := if s.time.stepPend.isSome then s.advanceTo (s.tick + 1) else s
    let ofs : Int := s.rdI NT_PPSOFS * 2 ^ 32
    let k := ((s0.time.mt : Int) + ofs) / second32 + 1
    let t := s0.instantOf (k * second32 - ofs).toNat
    let dup := match s.nw.ptp.ppsSec with
      | some q => decide (k ≤ q)
      | none => false
    let s1 := ((s0.advanceTo (t / 32)).modPtp fun p => { p with ppsOn := true, ppsAt := t, ppsSec := some k.toNat }).group 4
    if dup then s1.setf NT_STAT NT_STAT_PPSDUP else s1
  else s

def State.ppsEnd (s : State) : State :=
  if s.nw.ptp.ppsOn then
    (s.advanceTo (s.nw.ptp.ppsAt / 32 + 400 * s.get NT_PPSCFG NT_PPSCFG_PPSW)).modPtp fun p => { p with ppsOn := false }
  else s

/-- An active edge on PPS_IN in eighth `e` of the present tick.  While the module is grandmaster with PPSDISC set, the
firmware disciplines module time to it; the TRIM it chooses is left open. -/
def State.ppsIn (s : State) (e : Nat) : State :=
  let m := s.mtAt (s.now + 4 * (e % 8))
  let s1 := ((s.wr64N NT_PPSINSEC (secOf m)).wr64N NT_PPSINNSF (nsOf m * 65536 + fracOf m)).setf NT_STAT NT_STAT_PPSIN_NEW |>.group 4
  if s.flag NT_PPSCFG NT_PPSCFG_PPSDISC && s.flag NT_STAT NT_STAT_GM && s.pw.fwRun then
    let (w, s2) := s1.freeWord
    s2.ntTrim (clampI (-10737418) 10737418 w.toInt)
  else s1

end Sys2Proof.Machine
end

