-- ==== Sys2Proof/Machine/SafeSet.lean ====
section
/-! DEFINITION. Safety parameter sets (R424–R429): their bytes, the range checks, the check value and the slot states. -/

namespace Sys2Proof.Machine

/-- An unsigned little-endian field of `k` bytes at offset `o`. -/
def bU (b : List Byte) (o k : Nat) : Nat := leNat ((b.drop o).take k)
/-- A signed field. -/
def bS (b : List Byte) (o k : Nat) : Int := wrapS (8 * k) (bU b o k)
/-- All bytes of a range are 0. -/
def bZero (b : List Byte) (o k : Nat) : Bool := ((b.drop o).take k).all (· == 0)

/-- Axis record `n`, input record `i`, output record `o`, connection record `c` of a set. -/
def setAxis (b : List Byte) (n : Nat) : List Byte := (b.drop (128 + 128 * n)).take 128
def setInput (b : List Byte) (i : Nat) : List Byte := (b.drop (8320 + 16 * i)).take 16
def setOutput (b : List Byte) (o : Nat) : List Byte := (b.drop (8448 + 16 * o)).take 16
def setConn (b : List Byte) (c : Nat) : List Byte := (b.drop (8640 + 16 * c)).take 16

def setFormat (b : List Byte) : Nat := bU b 4 2
def setLen (b : List Byte) : Nat := bU b 8 4
def setIsKeys (b : List Byte) : Bool := nbit (bU b 6 2) 0
/-- An NX2416 block (R428). -/
def setIsOld (b : List Byte) : Bool := setFormat b == 0x0116
/-- The check value: CRC-32 over bytes 0–63 and 128 to LEN − 1. -/
def setCheck (b : List Byte) : Nat := crc32 (b.take 64 ++ (b.take (setLen b)).drop 128)
def setSigned (b : List Byte) : List Byte := b.take 64 ++ (b.take (setLen b)).drop 128

/-- The record that serves axis `n`: an NX2416 block maps its axes 0–15 to AX0–AX15 and 16–23 to AX32–AX39. -/
def setRec (b : List Byte) (n : Nat) : List Byte :=
  if setIsOld b then (if n < 16 then setAxis b n else if 32 ≤ n ∧ n < 40 then setAxis b (n - 16) else [])
  else setAxis b n

def recFunc (b r : List Byte) : Nat :=
  let f := bU r 0 2
  if setIsOld b then f % 32 + (if nbit f 6 then 64 else 0) else f
def recPort (r : List Byte) : Nat := if r.isEmpty then 0xFF else bU r 2 1

/-- The range check of an axis record (R425). -/
def axisRecOk (b : List Byte) (n : Nat) : Bool :=
  let r := setAxis b n
  let f := bU r 0 2
  let inR := fun v lo hi => decide (lo ≤ v ∧ v ≤ hi)
  let p31 := 2147483647
  let port := bU r 2 1
  let sls := (List.range 4).map fun i => bU r (36 + 4 * i) 4
  decide (f < 256) && (inR port 0 39 || port == 0xFF) && decide (bU r 3 1 < 16) && decide (1 ≤ bU r 4 4) && decide (2 ≤ bU r 8 2)
    && inR (bU r 10 1) 1 16 && (inR (bU r 11 1) 0 7 || bU r 11 1 == 0xFF) && decide (bU r 12 2 ≤ 5000) && inR (bU r 14 2) 10 30000
    && inR (bU r 16 4) 1 p31 && decide (bU r 20 4 ≤ p31) && decide (bU r 24 4 ≤ p31) && decide (bU r 28 4 ≤ p31)
    && decide (bU r 32 4 ≤ p31) && sls.all (fun v => inR v 1 p31) && (sls.zip (sls.drop 1)).all (fun x => decide (x.1 ≤ x.2))
    && decide (bU r 52 2 ≤ 10000) && decide (bU r 54 2 ≤ 500) && decide (bU r 56 4 ≤ p31) && inR (bU r 60 4) 1 p31
    && (!nbit f 5 || decide (bS r 64 8 < bS r 72 8)) && decide (bU r 80 2 ≤ 8760) && decide (bU r 82 1 ≤ 168)
    && inR (bU r 84 2) 100 5000 && decide (bU r 88 4 ≤ p31) && bZero r 83 1 && bZero r 86 2 && bZero r 96 32
    && ((if setIsOld b then 16 ≤ n else 32 ≤ n) || port != 0xFF
        || ((f &&& 0b11111110) == 0 && !(nbit f 0 && nbit (bU r 3 1) 0)))
def inputRecOk (r : List Byte) : Bool :=
  decide (bU r 0 1 ≤ 10) && decide (bU r 1 1 ≤ 1)
    && (bU r 0 1 == 0 || (decide (5 ≤ bU r 2 2 ∧ bU r 2 2 ≤ 500) && decide (250 ≤ bU r 4 2 ∧ bU r 4 2 ≤ 1000))) && bZero r 6 2
def outputRecOk (o : Nat) (r : List Byte) : Bool :=
  decide (bU r 0 1 ≤ 4) && (bU r 0 1 != 4 || decide (4 ≤ o)) && bZero r 1 1
    && (bU r 0 1 == 0 || (decide (100 ≤ bU r 2 2 ∧ bU r 2 2 ≤ 500) && decide (10 ≤ bU r 4 2 ∧ bU r 4 2 ≤ 1000))) && bZero r 6 2
def connUsed (r : List Byte) : Bool := !bZero r 0 16
def connRecOk (r : List Byte) : Bool :=
  !connUsed r || (decide (bU r 2 2 < 1024) && decide (32 ≤ bU r 4 1 ∧ bU r 4 1 < 64) && decide (bU r 5 1 < 32)
    && decide (1 ≤ bU r 6 2 ∧ bU r 6 2 ≤ 1000) && bZero r 8 8)
/-- No brake output is named by two axes. -/
def brakesOk (b : List Byte) : Bool :=
  let l := ((List.range 64).map fun n => setAxis b n).filter fun r => nbit (bU r 0 2) 6 && bU r 11 1 != 0xFF
  decide ((l.map fun r => bU r 11 1).Nodup)

/-- The format and range check of a set (R425). -/
def setOk (b : List Byte) : Bool :=
  bU b 0 4 == 0x53465053 && (setFormat b == 0x0200 || setIsOld b) && decide (bU b 6 2 ≤ 1) && bZero b 25 39 && decide (bU b 24 1 ≤ 3)
    && decide (b.length = setLen b)
    && (if setIsKeys b then setLen b == 384 && !setIsOld b
        else setLen b == 9152 && (List.range 64).all (axisRecOk b) && (List.range 8).all (fun i => inputRecOk (setInput b i))
          && (List.range 12).all (fun o => outputRecOk o (setOutput b o)) && (List.range 32).all (fun c => connRecOk (setConn b c))
          && brakesOk b
          && (List.range 64).all (fun n => !(nbit (recFunc b (setAxis b n)) 5) || decide (recPort (setAxis b n) < 40)))

def State.modSafe (s : State) (f : SafeSt → SafeSt) : State := { s with safe := f s.safe }
def State.slot (s : State) (i : Nat) : SafeSlot := vget s.safe.slots i {}

/-- SLP may be enabled only on an SSI port (R412), which the channels see on the port. -/
def State.slpPortsOk (s : State) (b : List Byte) : Bool :=
  setIsKeys b || (List.range 64).all fun n => !(nbit (recFunc b (setRec b n)) 5) || s.portSsi (recPort (setRec b n))

/-- The state of a slot (R426): 0 EMPTY, 1 SIGNED, 2 UNCONFIRMED, 3 CONFIRMED, 4 BAD. -/
def State.slotState (s : State) (i : Nat) : Nat :=
  let x := s.slot i
  if x.bytes.isEmpty then 0
  else if !setOk x.bytes || !s.slpPortsOk x.bytes then 4
  else
    let key := (s.safe.keySet.drop (64 * bU x.bytes 24 1)).take 64
    if !setIsOld x.bytes && !setIsKeys x.bytes && decide (key.length = 64)
        && Config.sigOk key (Config.sha256 (setSigned x.bytes)) ((x.bytes.drop 64).take 64) then 1
    else if x.confirmed = some (setCheck x.bytes) then 3
    else 2
/-- A usable set: SIGNED, or a CONFIRMED parameter set. -/
def State.slotUsable (s : State) (i : Nat) : Bool :=
  s.slotState i == 1 || (s.slotState i == 3 && !setIsKeys (s.slot i).bytes)

/-- SF_SLOTS and the check values of the selected slot. -/
def State.slotRegs (s : State) : State :=
  let v := (List.range 16).foldl (fun n i => n + s.slotState i * 16 ^ i) 0
  let b := (s.slot (s.get SF_SET SF_SET_SELECTED)).bytes
  let c := if b.isEmpty then 0 else setCheck b
  ((s.wr64N SF_SLOTS v).wrN SF_CHKA c).wrN SF_CHKB c

end Sys2Proof.Machine
end

