-- ==== Sys2Proof/Machine/SafeCh.lean ====
section
/-! DEFINITION. The safety channels (R400–R435): the safety cycle, the functions, STO lines, outputs, inputs, reset, switch
bank, brake tests, Ramaux Safe connections. -/

namespace Sys2Proof.Machine

def State.ch (s : State) (c : Nat) : SafeCh := vget s.safe.chs c {}
def State.modCh (s : State) (c : Nat) (f : SafeCh → SafeCh) : State := s.modSafe fun x => { x with chs := vmod x.chs c f }
def State.chAx (s : State) (c n : Nat) : ChAx := vget (s.ch c).ax n {}
def State.modChAx (s : State) (c n : Nat) (f : ChAx → ChAx) : State := s.modCh c fun x => { x with ax := vmod x.ax n f }
def State.sin (s : State) (i : Nat) : SafeIn := vget s.safe.ins i {}
def State.modSin (s : State) (i : Nat) (f : SafeIn → SafeIn) : State := s.modSafe fun x => { x with ins := vmod x.ins i f }
def State.conn (s : State) (c : Nat) : SafeConn := vget s.safe.conns c {}
def State.modConn (s : State) (c : Nat) (f : SafeConn → SafeConn) : State := s.modSafe fun x => { x with conns := vmod x.conns c f }
/-- The record of axis `n` in the active set. -/
def State.sRec (s : State) (n : Nat) : List Byte := setRec s.safe.set n
def State.sFunc (s : State) (n i : Nat) : Bool := nbit (recFunc s.safe.set (s.sRec n)) i
/-- A bit of MODE in an axis record. -/
def State.sMode (s : State) (n i : Nat) : Bool := nbit (bU (s.sRec n) 3 1) i
/-- The safety die is present and both its channels run. -/
def State.chRuns (s : State) (c : Nat) : Bool := (s.ch c).st == 1

/-! ### Registers -/

def sfFaults : List Fld := [SF_STAT_SWFAULT, SF_STAT_SETFAULT, SF_STAT_XFAULT, SF_STAT_IOFAULT]
def State.globalFault (s : State) : Bool := sfFaults.any (fun f => s.flag SF_STAT f) || (s.ch 0).st == 2 || (s.ch 1).st == 2

/-- SF_AXn from the two channels: the SPEED of channel A; STO or a violation in either. -/
def State.sfAx (s : State) (n : Nat) : State :=
  let a := s.chAx 0 n
  let b := s.chAx 1 n
  let r := s.sRec n
  let spdN := max 1 (bU r 10 1)
  let v : Int := match a.hist with
    | p :: rest => match (rest.take spdN).getLast? with
      | some q => sat32 (divOpen ((p - q) * 4000) spdN)
      | none => 0
    | [] => 0
  let viol := if a.viol ≠ 0 then a.viol else b.viol
  let wd := (List.range 32).any fun c => (s.conn c).exp && bU (setConn s.safe.set c) 4 1 == n
  let run := fun (x : ChAx) (ss2 : Bool) => match x.ss1 with
    | some (_, _, k) => k == ss2
    | none => false
  let lim := match a.sls with
    | some (l, _, _) => l
    | none => 0
  let low := b2n (a.sto || b.sto) * 2 ^ 31 + b2n (run a false || run b false) * 2 ^ 30 + b2n (run a true || run b true) * 2 ^ 29
    + b2n (a.sos.isSome || b.sos.isSome) * 2 ^ 28 + b2n (a.sls.isSome || b.sls.isSome) * 2 ^ 27 + lim * 2 ^ 25
    + b2n (a.sdi.isSome || b.sdi.isSome) * 2 ^ 24 + b2n (a.slp || b.slp) * 2 ^ 23 + b2n (a.bt.isSome || b.bt.isSome) * 2 ^ 22
    + b2n (viol ≠ 0) * 2 ^ 15 + viol * 2 ^ 12 + b2n wd * 2 ^ 11
  let s1 := (s.wrN (SFAX_AX n) low).wrI (SFAX_AX n + 4) v
  if nbit (s.rdN (SFAX_AX n)) 15 == (viol ≠ 0) then s1 else s1.event .safetyViolation n viol |>.group 1

/-- SF_OUT, SF_FSI and GLOBAL_STO. -/
def State.sfRegs (s : State) : State :=
  let bits := fun (l : List Nat) (p : Nat → Bool) => l.foldl (fun n i => n + b2n (p i) * 2 ^ i) 0
  let on := bits (List.range 12) fun o => vget (s.ch 0).out o false && vget (s.ch 1).out o false
  let s1 := s.put SF_OUT SF_OUT_ON on
  let s2 := ((s1.put SF_FSI SF_FSI_AW (bits (List.range 8) fun i => (s.sin i).a)).put SF_FSI SF_FSI_BW (bits (List.range 8) fun i => (s.sin i).b)).put
    SF_FSI SF_FSI_DISCFLT (bits (List.range 8) fun i => (s.sin i).disc)
  let held := !(List.range 2).any fun c => (List.range 32).any fun n => vget (s.ch c).line n false
  ((s2.putB SF_STAT SF_STAT_GLOBAL_STO held).put SF_STAT SF_STAT_CHA (s.ch 0).st).put SF_STAT SF_STAT_CHB (s.ch 1).st

/-! ### Demands (R417–R419) -/

/-- An input is in demand: a wire reads low, or a discrepancy is held.  With TYPE = 1 the B wire is inverted.  Channel A reads the A wire and channel B
the B wire, each at the start of its cycle, and each knows the other's wire from the other's latest completed cycle (R400, R402). -/
def State.inDemand (s : State) (i : Nat) : Bool :=
  let a := vget (s.ch 0).inp i false
  let b := vget (s.ch 1).inp i false
  !a || !(if bU (setInput s.safe.set i) 1 1 = 1 then !b else b) || (s.sin i).disc
/-- A channel samples its own wires of the safe inputs. -/
def State.sampleInputs (s : State) (c : Nat) : State :=
  s.modCh c fun x => { x with inp := Vector.ofFn fun i => if c = 0 then (s.sin i).a else (s.sin i).b }
/-- The wires of an input disagree. -/
def State.inDisagree (s : State) (i : Nat) : Bool :=
  let x := s.sin i
  let b := if bU (setInput s.safe.set i) 1 1 = 1 then !x.b else x.b
  x.a != b
/-- The inputs that carry function `f` for axis `n`. -/
def State.inputsOf (s : State) (f n : Nat) : List Nat :=
  if s.safe.set.isEmpty then []
  else (List.range 8).filter fun i => bU (setInput s.safe.set i) 0 1 == f && nbit (bU (setInput s.safe.set i) 8 8) n
def State.demanded (s : State) (f n : Nat) : Bool := (s.inputsOf f n).any s.inDemand
/-- The SLS limit that the select inputs name; a discrepancy gives limit 0 (R411). -/
def State.slsSelect (s : State) (n : Nat) : Nat :=
  let l := s.inputsOf 6 n ++ s.inputsOf 7 n
  let bit := fun f => match s.inputsOf f n with
    | [] => false
    | is => is.all fun i => !s.inDemand i
  if l.any fun i => s.inDisagree i || (s.sin i).disc then 0 else b2n (bit 6) + 2 * b2n (bit 7)

/-! ### Functions of one axis (R407–R415) -/

/-- The safe speed (R403), exactly: increments per second over SPD_N cycles of 250 µs. -/
def safeSpeed (hist : List Int) (spdN : Nat) : Rat :=
  match hist with
  | p :: rest => match (rest.take spdN).getLast? with
    | some q => mkRat ((p - q) * 4000) (min spdN rest.length)
    | none => 0
  | [] => 0
def absR (x : Rat) : Rat := if x < 0 then -x else x

/-- STO of an axis in one channel: the other functions end. -/
def ChAx.stop (x : ChAx) (cause : Nat) : ChAx :=
  { x with sto := true, viol := if x.viol = 0 then cause else x.viol, ss1 := none, sos := none, sls := none, sdi := none, slp := false, bt := none }

/-- The envelope of SS1 (R410) at `ms4` quarter milliseconds after t₀. -/
def ssEnv (r : List Byte) (v0 : Rat) (q : Nat) : Rat :=
  let top := v0 + bU r 20 4
  let t0 := 4 * bU r 12 2
  max (bU r 24 4 : Rat) (if q < t0 then top else top - mkRat (bU r 16 4 * (q - t0)) 4000)
/-- The falling envelope of SLS (R411). -/
def slsEnv (r : List Byte) (lim : Nat) (v0 : Rat) (q : Nat) : Rat :=
  let t := 4 * bU r 52 2
  if t ≤ q ∨ v0 ≤ lim then (lim : Rat) else v0 - (v0 - lim) * mkRat q (max 1 t)

/-- The position breaks SLP_LO or SLP_HI, or its stop distance does (R412). -/
def slpBad (r : List Byte) (p : Int) (v : Rat) : Bool :=
  let dist : Rat := v * v / (2 * (max 1 (bU r 60 4) : Nat))
  decide (p < bS r 64 8) || decide (bS r 72 8 < p)
    || decide (0 < v ∧ (bS r 72 8 : Rat) < (p : Rat) + dist) || decide (v < 0 ∧ (p : Rat) - dist < (bS r 64 8 : Rat))

/-- Steps of the monitored functions of local axis `n` at cycle `k` of a channel, after the position has been sampled. -/
def State.evalAxis (s : State) (n k : Nat) (x : ChAx) : ChAx :=
  let r := s.sRec n
  let f := s.sFunc n
  let v := safeSpeed x.hist (max 1 (bU r 10 1))
  let p := x.hist.headD 0
  -- functions that need a position; SLS reacts with SS1 where SLS_REACT says so, and a ramp-monitored SS1 needs a position itself
  let other := f 1 || f 2 || f 4 || f 5 || (f 0 && s.sMode n 0)
  let needs := other || f 3
  if s.demanded 1 n || s.inNight then x.stop 0
  else if x.sto then x
  else if needs && !x.ok && (other || !s.sMode n 1) then x.stop 6
  else
    -- SS1 and SS2; SS1 is the stronger
    let lost := needs && !x.ok
    let x := if lost && x.ss1.isNone then { x with viol := if x.viol = 0 then 6 else x.viol, sos := none, sls := none, ss1 := some (k, absR v, false) } else x
    let x1 := match x.ss1 with
      | some (_, _, true) => if f 0 && s.demanded 2 n then { x with ss1 := some (k, absR v, false) } else x
      | some _ => x
      | none =>
        if f 0 && s.demanded 2 n then { x with ss1 := some (k, absR v, false), sos := none, sls := none }
        else if f 1 && s.demanded 3 n && x.sos.isNone then { x with ss1 := some (k, absR v, true), sls := none }
        else x
    let x2 := match x1.ss1 with
      | none => x1
      | some (k0, v0, ss2) =>
        let q := k - k0
        let mon := ss2 || s.sMode n 0
        if mon && ssEnv r v0 q < absR v then x1.stop 1
        else if (mon && absR v ≤ bU r 24 4) || 4 * bU r 14 2 ≤ q then
          (if ss2 then { x1 with ss1 := none, sos := some p } else x1.stop 0)
        else x1
    if x2.sto then x2
    else
      -- SOS
      let x3 := match x2.sos, x2.ss1 with
        | none, none => if f 2 && s.demanded 4 n then { x2 with sos := some p, sls := none } else x2
        | some _, _ => if s.demanded 4 n || s.demanded 3 n then x2 else { x2 with sos := none }
        | _, _ => x2
      let bad3 := match x3.sos with
        | some q => decide ((bU r 28 4 : Int) < absI (p - q)) || decide ((bU r 32 4 : Rat) < absR v)
        | none => false
      if bad3 then x3.stop 2
      else
        -- SLS
        let idle := x3.sos.isNone && x3.ss1.isNone
        let lim := fun i => bU r (36 + 4 * i) 4
        let i := s.slsSelect n
        let x4 := if f 3 && idle && s.demanded 5 n then
            match x3.sls with
            | none => { x3 with sls := some (i, k, absR v) }
            | some (j, k0, v0) => if lim i < lim j then { x3 with sls := some (i, k, absR v) } else { x3 with sls := some (i, k0, v0) }
          else { x3 with sls := none }
        let bad4 := match x4.sls with
          | some (j, k0, v0) => decide (slsEnv r (lim j) v0 (k - k0) < absR v)
          | none => false
        if bad4 && !s.sMode n 1 then x4.stop 3
        else
          let x5 := if bad4 then { x4 with viol := if x4.viol = 0 then 3 else x4.viol, sls := none, ss1 := some (k, absR v, false) } else x4
          -- SDI
          let d := p - x5.hist.getD 1 p
          let forb := if s.sMode n 2 then decide (0 < d) else decide (d < 0)
          let x6 := if f 4 && (s.demanded 8 n || (s.inputsOf 8 n).isEmpty) then
              { x5 with sdi := match x5.sdi with
                  | none => some 0
                  | some t => some (if d = 0 then t else if forb then t + absI d else 0) }
            else { x5 with sdi := none }
          if decide ((bU r 56 4 : Int) < x6.sdi.getD 0) then x6.stop 4
          else
            -- SLP
            let act := f 5 && (s.demanded 9 n || (s.inputsOf 9 n).isEmpty)
            let x7 := { x6 with slp := act }
            if act && slpBad r p v then x7.stop 5
            else
              -- brake test
              if f 7 && s.demanded 10 n then { x7 with bt := some (x7.bt.getD p), btHeld := true } else { x7 with bt := none }

/-- A network axis: the drive monitors; the channel holds the demands (R430). -/
def State.evalNet (s : State) (n k : Nat) (x : ChAx) : ChAx :=
  let f := s.sFunc n
  if s.demanded 1 n || s.inNight then x.stop 0
  else if x.sto then x
  else
    let x1 := if f 0 && s.demanded 2 n && x.ss1.isNone then { x with ss1 := some (k, 0, false) } else x
    let done := (List.range 32).any fun c => bU (setConn s.safe.set c) 4 1 == n && connUsed (setConn s.safe.set c) && nbit (s.conn c).drive.toNat 1
    let late := match x1.ss1 with
      | some (k0, _, _) => decide (4 * bU (s.sRec n) 14 2 ≤ k - k0)
      | none => false
    if x1.ss1.isSome && (done || late) then x1.stop 0
    else { x1 with sls := if f 3 && x1.ss1.isNone && s.demanded 5 n then some (s.slsSelect n, k, 0) else none }

/-! ### STO lines, brakes and outputs (R405, R414, R420) -/

/-- The brake output of an axis with SBC. -/
def State.brakeOf (s : State) (n : Nat) : Option Nat :=
  let r := s.sRec n
  if n < 32 && s.sFunc n 6 && bU r 11 1 < 8 then some (4 + bU r 11 1) else none
def State.setOut (s : State) (c o : Nat) (b : Bool) : State :=
  let was := vget (s.ch c).out o false
  let s1 := s.modCh c fun x => { x with out := vmod x.out o fun _ => b }
  if b && !was then s1.modSafe fun x => { x with onAt := vmod x.onAt o fun _ => s.tick } else s1
def State.setLine (s : State) (c n : Nat) (b : Bool) : State := s.modCh c fun x => { x with line := vmod x.line n fun _ => b }

/-- A channel permits torque on axis `n`. -/
def State.permits (s : State) (c n : Nat) : Bool :=
  s.chRuns c && !s.globalFault && !s.flag SF_STAT SF_STAT_RSTWAIT && !s.safe.set.isEmpty && !s.inNight && !(s.chAx c n).sto

/-- A channel drives the STO line and the brake switch of axis `n`.  A brake that is open already, as after a brake test, delays nothing (R415). -/
def State.driveAxis (s : State) (c n : Nat) : State :=
  let x := s.chAx c n
  let r := s.sRec n
  let dly := bU r 54 2 * 400000
  let line := vget (s.ch c).line n false
  let s1 :=
    if s.permits c n then (s.modCh c fun y => { y with sbc := y.sbc.filter fun e => e.1 != n }).setLine c n true
    else if line && s.sMode n 3 && (s.brakeOf n).any (fun o => vget (s.ch c).out o false) && x.viol = 0 && !s.globalFault && s.chRuns (1 - c) && 0 < dly then
      -- the brake opens first, the line follows SBC_DLY later
      if (s.ch c).sbc.any fun e => e.1 == n then s else s.modCh c fun y => { y with sbc := y.sbc ++ [(n, s.tick + dly, false)] }
    else s.setLine c n false
  match s.brakeOf n with
  | none => s1
  | some o =>
    if s.permits c n then s1.setOut c o (x.bt.isNone && !x.btHeld)
    else if line && !s.sMode n 3 && 0 < dly && vget (s.ch c).out o false then
      if (s.ch c).sbc.any fun e => e.1 == n then s1 else s1.modCh c fun y => { y with sbc := y.sbc ++ [(n, s.tick + dly, true)] }
    else if (s.ch c).sbc.any fun e => e.1 == n && e.2.2 then s1
    else s1.setOut c o false

/-- The switch of a safe output (R420). -/
def State.outputOn (s : State) (c o : Nat) : Bool :=
  let r := setOutput s.safe.set o
  let axes := (List.range 64).filter fun n => nbit (bU r 8 8) n
  if s.safe.set.isEmpty || s.globalFault || !s.chRuns c then false
  else match bU r 0 1 with
    | 1 => axes.all fun n => !(s.chAx c n).sto
    | 2 => axes.all fun n => (s.chAx c n).sos.isSome
    | 3 => axes.all fun n =>
      let x := s.chAx c n
      match x.sls with
      | some (j, _, _) => decide (absR (safeSpeed x.hist (max 1 (bU (s.sRec n) 10 1))) < (bU (s.sRec n) (36 + 4 * j) 4 : Rat))
      | none => true
    | _ => false
def State.driveAll (s : State) (c : Nat) : State :=
  let s1 := s.forEach (List.range 32) fun s n => s.driveAxis c n
  s1.forEach (List.range 12) fun s o =>
    if bU (setOutput s.safe.set o) 0 1 = 4 then s
    else s.setOut c o (s.outputOn c o && !nbit (s.get SF_OUT SF_OUT_RBF) o)

/-- Global faults reach the firmware when they arise, and every STO line goes low in the channel that detects it. -/
def State.raiseGlobal (s : State) (c : Nat) (f : Fld) : State :=
  let s1 := if s.flag SF_STAT f then s else ((s.setf SF_STAT f).event .globalFault f.lo).group 1
  let s2 := (s1.setf SF_STAT SF_STAT_RSTWAIT).forEach (List.range 64) fun s n => s.modChAx c n fun x => x.stop 0
  (s2.driveAll c).sfRegs

/-! ### The safety cycle (R402, R403) -/

/-! ### Channel B's encoder decoders (R68, R400, R401) -/

/-- A transition that has lasted 2 ticks is accepted, where the wires of its pair differ. -/
def ChbPair.due (x : ChbPair) (t32 : Nat) : Bool := x.eq.isNone && (match x.pend with
  | some st => decide (st + 64 ≤ t32)
  | none => false)
def ChbPair.take (x : ChbPair) : ChbPair := { x with lvl := x.rx, pend := none }
/-- One accepted transition counts: A of pair A (`isA`), or of pair B (R71). -/
def ChbPort.step (c : ChbPort) (isA : Bool) : ChbPort :=
  let d := if isA then { c with a := c.a.take } else { c with b := c.b.take }
  { d with count := wrapS 40 (if (d.a.lvl != d.b.lvl) == isA then d.count + 1 else d.count - 1) }
/-- Everything accepted by an instant reaches the decoder, in order; transitions of A and B in one tick do not count (R71). -/
def ChbPort.settle (c : ChbPort) (t32 : Nat) : ChbPort :=
  match c.a.due t32, c.b.due t32 with
  | false, false => c
  | true, false => c.step true
  | false, true => c.step false
  | true, true =>
    let ta := c.a.pend.getD 0
    let tb := c.b.pend.getD 0
    if ta / 32 = tb / 32 then { c with a := c.a.take, b := c.b.take }
    else if ta < tb then (c.step true).step false else (c.step false).step true
/-- The wires of a pair as they read at an instant: a pair with equal wires is suspect, and its receiver keeps its report (R90). -/
def ChbPair.wires (x : ChbPair) (p n : Bool) (t32 : Nat) : ChbPair :=
  if p == n then { x with eq := some (x.eq.getD t32) }
  else { x with eq := none, rx := p, pend := if p == x.lvl then none else if p == x.rx && x.pend.isSome then x.pend else some t32 }
/-- Channel B's receivers see the wires of port `p` at an instant. -/
def State.chbPort (s : State) (p t32 : Nat) : State :=
  let q := fun i => vget (s.port p).pairs i {}
  s.modSafe fun x =>
    { x with dec := vmod x.dec p fun c =>
        let d := c.settle t32
        { d with a := d.a.wires (q 0).p (q 0).n t32, b := d.b.wires (q 1).p (q 1).n t32 } }
/-- A wire of a port changes: channel B of the safety die sees it too. -/
def State.chbWire (s : State) (w : Wire) (t32 : Nat) : State :=
  match w with
  | .port p _ => if s.isS then s.chbPort p t32 else s
  | .latch _ => s
/-- A pair of the port has had equal wires for 400 ticks, the WFT of channel B. -/
def State.chbFault (s : State) (p : Nat) : Bool :=
  let c := vget s.safe.dec p {}
  let bad := fun (x : ChbPair) => match x.eq with
    | some t => decide (t + 32 * 400 ≤ s.now)
    | none => false
  bad c.a || bad c.b

/-- The position a channel samples for axis `n`, whether the port serves, and whether its latest SSI frame has failed (R403): channel A the raw count of the port's decoder, channel B that of its own decoder, or on an SSI port the
value of `posB`, which it has read by listening: no rule says how its SSI decoder knows the format (R68, R401); `badB`: SSI ports whose value is bad. -/
def State.samplePos (s : State) (c n : Nat) (posB : List (Nat × Int)) (badB : List Nat) : Int × Bool × Bool :=
  let p := recPort (s.sRec n)
  let mode := s.portMode p
  let ok := decide (p < 40) && s.portOn p && (mode == 1 || s.portSsi p)
  if c = 0 then ((s.port p).raw, ok && !s.flag (EP_STAT p) EP_STAT_WIRE_FAULT, s.portSsi p && !(s.port p).ssi.lastGood)
  else if mode == 1 then ((vget s.safe.dec p {}).count, ok && !s.chbFault p, false)
  else ((posB.lookup p).getD ((s.chAx 1 n).hist.headD 0), ok, badB.contains p)

/-- The two channels agree on axis `n`: positions within XTOL of the fixed offset, and the same demands. -/
def State.agree (s : State) (n : Nat) : Bool :=
  let a := s.chAx 0 n
  let b := s.chAx 1 n
  let r := s.sRec n
  (recPort r == 0xFF || a.hist.isEmpty || b.hist.isEmpty
    || decide (absI (a.hist.headD 0 - b.hist.headD 0 - (vget s.safe.offs n none).getD 0) ≤ bU r 8 2)) && a.sto == b.sto
/-- The offset between the counts of the channels is fixed once both have a sample under the active set. -/
def State.fixOffs (s : State) : State :=
  s.modSafe fun x =>
    { x with offs := Vector.ofFn fun n =>
        match vget x.offs n.val none, (s.chAx 0 n.val).hist, (s.chAx 1 n.val).hist with
        | none, a :: _, b :: _ => some (a - b)
        | o, _, _ => o }

/-- The safety cycle of channel `c` (0 A, 1 B); channel B's samples of SSI ports come with the command. -/
def State.safetyCycle (s0 : State) (c : Nat) (posB : List (Nat × Int)) (badB : List Nat) : State :=
  if !s0.isS || !s0.chRuns c then s0
  else
    let s := (if c = 0 then s0.advanceTo ((s0.tick / 100000 + 1) * 100000) else s0.forEach (List.range 40) fun s p => s.chbPort p s.now).sampleInputs c
    let k := (s.ch c).cyc + 1
    let o := 1 - c
    let s1 := s.forEach (List.range 64) fun s n =>
      let (p, ok, fail) := s.samplePos c n posB badB
      let x := s.chAx c n
      let x1 := { x with hist := (p :: x.hist).take 17, ok := ok && !(fail && x.ssiFail), ssiFail := fail }
      let x2 := if n < 32 then s.evalAxis n k x1 else s.evalNet n k x1
      -- an axis violation of the other channel is followed at the exchange
      let ov := (s.chAx o n).viol
      let x3 := if s.chRuns o && ov ≠ 0 && x2.viol = 0 && (s.chAx o n).sto then x2.stop ov else x2
      let failed := match x.bt, x3.bt with
        | some p0, some _ => decide ((bU (s.sRec n) 88 4 : Int) < absI (p - p0))
        | _, _ => false
      let x4 := if failed then { x3.stop 0 with btHeld := true } else x3
      let s1 := s.modChAx c n fun _ =>
        { x4 with btHeld := x4.btHeld && !x4.sto, violAt := if x.viol = 0 && x4.viol ≠ 0 then s.tick else x.violAt }
      -- the firmware starts the own Dusk ramp at the next position run (R410)
      let s2 := if x.ss1.isNone && x4.ss1.isSome && (s.chAx o n).ss1.isNone then s1.modMo n fun m => { m with duskReq := true } else s1
      let s3 := match x.bt, x4.bt with
        | none, some _ => (s2.event .brakeTest n).modSafe fun y => { y with btAt := (n, s.tick) :: y.btAt.filter fun e => e.1 != n }
        | _, _ => s2
      if failed then (s3.setf (SF_BT (bU (s.sRec n) 11 1 % 8)) SF_BT_FAIL).event .brakeTest n 1 else s3
    let s2 := (s1.modCh c fun x => { x with cyc := k }).fixOffs
    let bad := s2.chRuns o && !((List.range 32).all s2.agree && (s2.ch 0).out == (s2.ch 1).out && decide ((s2.ch 0).swsOk = (s2.ch 1).swsOk ∨ s2.safe.swDiff.isSome))
    let s3 := if bad then s2.count SF_CNT SF_CNT_XC else s2
    let s4 := s3.modCh c fun x => { x with mism := if bad then x.mism + 1 else 0 }
    let s5 := if bad && 2 ≤ (s4.ch c).mism then s4.raiseGlobal c SF_STAT_XFAULT else s4
    -- a global fault of the other channel is followed at the exchange, or once the exchange fails
    let s6 := if s5.globalFault || !s5.chRuns o then s5.forEach (List.range 64) fun s n => s.modChAx c n fun x => x.stop 0 else s5
    ((s6.driveAll c).forEach (List.range 64) fun s n => s.sfAx n).sfRegs

/-! ### Inputs (R417, R418) -/

/-- A change of a wire of FSIn passes FILT: wire A or B, the new level. -/
def State.safeInput (s : State) (i : Nat) (b lvl : Bool) : State :=
  if !s.isS then s
  else
    let s1 := s.modSin i fun x => if b then { x with b := lvl } else { x with a := lvl }
    let dis := s1.inDisagree i
    let dem := !(s1.sin i).a && !(if bU (setInput s.safe.set i) 1 1 = 1 then !(s1.sin i).b else (s1.sin i).b)
    (s1.modSin i fun x =>
      { x with since := if dis then (match x.since with
                  | some t => some t
                  | none => some s.tick) else none
               both := x.both || (x.disc && dem) }).sfRegs

/-- The wires have disagreed for longer than DISC. -/
def State.safeDiscrepancy (s : State) (i : Nat) : State :=
  match (s.sin i).since with
  | none => s
  | some t =>
    if s.safe.set.isEmpty || (s.sin i).disc then s
    else ((s.advanceTo (t + (bU (setInput s.safe.set i) 2 2 * 400000 : Nat)).toNat).modSin i fun x => { x with disc := true, both := false }).sfRegs

/-! ### Off-pulses (R421) -/

/-- A channel's off-pulse of output `o`, or the continuous check of an output that is off, with what the read-back found. -/
def State.offPulse (s : State) (c o : Nat) (good : Bool) : State :=
  if !s.isS || !s.chRuns c then s
  else
    let on := vget (s.ch 0).out o false && vget (s.ch 1).out o false
    let tpi := bU (setOutput s.safe.set o) 4 2 * 400000
    let at0 := vget s.safe.onAt o 0 + (if c = 1 then tpi / 2 else 0)
    let due := if tpi = 0 then s.tick else at0 + ((s.tick - at0) / tpi + 1) * tpi
    let s1 := (if on then s.advanceTo due else s).modSafe fun x => { x with rbBad := vmod x.rbBad o fun _ => !good }
    if good then s1
    else
      let s2 := (s1.setOut 0 o false).setOut 1 o false
      (s2.put SF_OUT SF_OUT_RBF (nsetBit (s2.get SF_OUT SF_OUT_RBF) o true)).raiseGlobal c SF_STAT_IOFAULT

/-- SBC_DLY ends on axis `n`: the brake output opens, or the STO lines go low. -/
def State.sbcDelayEnd (s : State) (n : Nat) : State :=
  let due := ((s.ch 0).sbc ++ (s.ch 1).sbc).filter fun e => e.1 == n
  match due with
  | [] => s
  | e :: _ =>
    let s1 := s.advanceTo e.2.1
    ([0, 1].foldl (fun (s : State) (c : Nat) =>
      let mine := (s.ch c).sbc.filter fun x => x.1 == n && decide (x.2.1 ≤ s.tick)
      let s2 := s.modCh c fun x => { x with sbc := x.sbc.filter fun y => !(y.1 == n && decide (y.2.1 ≤ s.tick)) }
      mine.foldl (fun s x =>
        if x.2.2 then (match s.brakeOf n with
          | some o => s.setOut c o false
          | none => s)
        else s.setLine c n false) s2) s1).sfRegs

/-! ### Brake tests (R415, R416) -/

def State.btHours (s : State) (k : Nat) : Nat := min 65535 (((s.tick : Int) - vget s.safe.btPass k 0) / 1440000000000).toNat
/-- The axis whose brake output is FBOk. -/
def State.brakeAxis (s : State) (k : Nat) : Option Nat := (List.range 32).find? fun n => s.brakeOf n == some (4 + k)

/-- A brake test has held for BT_TIME: it passes when channel A finds the measured q current `iq` (Q8.24 pu) at or beyond BT_IQ
and both channels find no movement beyond BT_POS; it is not counted while the current stays below. -/
def State.brakeTestEnd (s : State) (n : Nat) (iq : Int) : State :=
  let r := s.sRec n
  let k := bU r 11 1 % 8
  match s.safe.btAt.lookup n, (s.chAx 0 n).bt, (s.chAx 1 n).bt with
  | some t, some pa, some pb =>
    let s1 := s.advanceTo (t + bU r 84 2 * 400000)
    let moved := decide ((bU r 88 4 : Int) < absI ((s.chAx 0 n).hist.headD 0 - pa)) || decide ((bU r 88 4 : Int) < absI ((s.chAx 1 n).hist.headD 0 - pb))
    let done := s1.modSafe fun x => { x with btAt := x.btAt.filter fun e => e.1 != n }
    if moved then
      let s2 := (done.setf (SF_BT k) SF_BT_FAIL).forEach [0, 1] fun s c => s.modChAx c n fun x => x.stop 0
      (((s2.driveAxis 0 n).driveAxis 1 n).event .brakeTest n 1).sfAx n |>.sfRegs
    else if absI iq < absI (bS r 92 4) then s1.modSafe fun x => { x with btAt := (n, s1.tick) :: x.btAt.filter fun e => e.1 != n }
    else
      ((((done.clrf (SF_BT k) SF_BT_OVERDUE).clrf (SF_BT k) SF_BT_LOCK).modSafe fun x => { x with btPass := vmod x.btPass k fun _ => s1.tick }).event .brakeTest n 2).modLoop n fun l => { l with hold := none }
  | _, _, _ => s

/-- BT_INT hours without a passed test. -/
def State.brakeOverdue (s : State) (k : Nat) : State :=
  match s.brakeAxis k with
  | none => s
  | some n =>
    let h := bU (s.sRec n) 80 2
    if h = 0 then s else ((s.advanceTo (vget s.safe.btPass k 0 + h * 1440000000000).toNat).setf (SF_BT k) SF_BT_OVERDUE).event .brakeTest n 3
/-- BT_GRACE hours after OVERDUE. -/
def State.brakeLock (s : State) (k : Nat) : State :=
  match s.brakeAxis k with
  | none => s
  | some n =>
    if s.flag (SF_BT k) SF_BT_OVERDUE then
      (s.advanceTo (vget s.safe.btPass k 0 + ((bU (s.sRec n) 80 2 + bU (s.sRec n) 82 1) * 1440000000000 : Nat)).toNat).setf (SF_BT k) SF_BT_LOCK
    else s

/-! ### Sets, switch bank and reset (R422–R429) -/

/-- A slot's set becomes active: every axis stays in STO, the offsets between the counts are fixed anew, the connections are
those of the set. -/
def State.activateSet (s : State) (i : Nat) : State :=
  let b := (s.slot i).bytes
  let s1 := s.modSafe fun x =>
    { x with set := b, lastChk := some (setCheck b), conns := Vector.replicate 32 { at_ := s.tick }, offs := Vector.replicate 64 none }
  let s2 := s1.forEach [0, 1] fun s c => s.forEach (List.range 64) fun s n => s.modChAx c n fun x => { x.stop 0 with viol := 0, hist := [], ssiFail := false }
  let s3 := ((s2.put SF_SET SF_SET_ACTIVE i).put SF_SET SF_SET_ROUTE (if s.slotState i = 1 then 1 else 2)).wrN SF_SETID (bU b 12 4)
  s3.forEach (List.range 32) fun s c =>
    let r := setConn b c
    let s1 := s.wrN (RSAFE_W0 c) (b2n (connUsed r) * 2 ^ 31 + bU r 2 2 % 1024 * 2 ^ 16 + bU r 0 2)
    ((s1.wrN (RSAFE_SEQ c) 0).wrN (RSAFE_WDT c) (bU r 6 2)).wrN (RSAFE_ERR c) 0

/-- A set change waits for a reset edge, and STO stays low until then (R427). -/
def State.setPending (s : State) : State :=
  let s1 := ((s.setf SF_STAT SF_STAT_SETPEND).setf SF_STAT SF_STAT_RSTWAIT).forEach [0, 1] fun s c =>
    s.forEach (List.range 64) fun s n => s.modChAx c n fun x => x.stop 0
  (((s1.driveAll 0).driveAll 1).forEach (List.range 64) fun s n => s.sfAx n).sfRegs
/-- The check of the selected slot at power-up (R427). -/
def State.setAtPowerUp (s : State) : State :=
  let i := s.get SF_SET SF_SET_SELECTED
  let same := s.safe.lastChk == some (setCheck (s.slot i).bytes)
  if !s.slotUsable i || (!same && !s.flag SF_STAT SF_STAT_SWS4ON) then s.raiseGlobal 0 SF_STAT_SETFAULT
  else if same then s.activateSet i
  else s.setPending

/-- Contacts confirmed by three samples in a row in both channels. -/
def State.switchConfirm (s : State) : State :=
  match (s.ch 0).swsOk, (s.ch 1).swsOk with
  | some a, some b =>
    if a ≠ b then s
    else
      let old := s.get SF_STAT SF_STAT_SWSA
      let first := s.safe.swAt.isNone
      let s1 := (((s.put SF_STAT SF_STAT_SWSA a).put SF_STAT SF_STAT_SWSB b).putB SF_STAT SF_STAT_SWS4ON (nbit a 4)).put SF_SET SF_SET_SELECTED (a % 16)
      let s2 := (if 32 ≤ a then s1.raiseGlobal 0 SF_STAT_SWFAULT else s1).slotRegs
      if first then (s2.modSafe fun x => { x with swAt := some s.tick }).setAtPowerUp
      else if old = a then s2
      else
        let s3 := s2.modSafe fun x => { x with swAt := some s.tick }
        if s.running || (a % 16 ≠ old % 16 && !nbit a 4 && !s.inDawn) then s3.raiseGlobal 0 SF_STAT_SWFAULT
        else if a % 16 ≠ old % 16 && s.inMorning && nbit a 4 && s3.slotUsable (a % 16) then s3.setPending
        else s3
  | _, _ => s

/-- Each channel samples its contacts every 10 ms. -/
def State.switchSample (s0 : State) (a b : Nat) : State :=
  if !s0.isS then s0
  else
    let s := s0.advanceTo ((s0.tick / 4000000 + 1) * 4000000)
    let upd := fun (x : SafeCh) v =>
      let l := (v :: x.sws).take 3
      { x with sws := l, swsOk := if l.length = 3 && l.all (· == v) then some v else x.swsOk }
    let s1 := (s.modCh 0 fun x => upd x a).modCh 1 fun x => upd x b
    let diff := a ≠ b
    let s2 := s1.modSafe fun x =>
      { x with swDiff := if diff then (match x.swDiff with
                 | some t => some t
                 | none => some s.tick) else none }
    let s3 := match s2.safe.swDiff with
      | some t => if t + 12000000 < s.tick then s2.raiseGlobal 0 SF_STAT_SWFAULT else s2
      | none => s2
    if (s3.ch 0).st = 0 || (s3.ch 1).st = 0 then s3 else s3.switchConfirm

/-- A channel ends its start-up and self-test. -/
def State.channelStart (s : State) (c : Nat) (good : Bool) : State :=
  if !s.isS || (s.ch c).st ≠ 0 then s
  else
    let s1 := s.modCh c fun x => { x with st := if good then 1 else 2, cyc := 0, mism := 0 }
    (if good then s1 else s1.event .globalFault (29 - 2 * c)).sfRegs.slotRegs

/-- The safety die loses its supply: channel B demands STO, and the loss counts as a global fault (R409). -/
def State.safetySupplyLoss (s : State) : State :=
  if !s.isS then s
  else
    let s1 := s.modCh 1 fun x => { x with st := 0, line := Vector.replicate 32 false, out := Vector.replicate 12 false, sbc := [], sws := [], swsOk := none }
    let s2 := (s1.event .globalFault 27).setf SF_STAT SF_STAT_RSTWAIT
    let s3 := s2.forEach [0, 1] fun s c => s.forEach (List.range 64) fun s n => s.modChAx c n fun x => x.stop 0
    ((s3.driveAll 0).forEach (List.range 64) fun s n => s.sfAx n).sfRegs

/-- SAFE_RESET has been high for more than 3 s. -/
def State.resetLongHigh (s : State) : State := (s.setf SF_STAT SF_STAT_RSTFLT).modSafe fun x => { x with longHigh := true }

/-- The brake of an axis is locked: it may leave STO only for a brake test. -/
def State.btLocked (s : State) (n : Nat) : Bool :=
  match s.brakeOf n with
  | some o => s.flag (SF_BT (o - 4)) SF_BT_LOCK && s.sFunc n 7 && !s.demanded 10 n
  | none => false

/-- A remaining demand holds the axis in STO. -/
def State.stoDemand (s : State) (c n : Nat) : Bool :=
  s.demanded 1 n || (s.sFunc n 0 && s.demanded 2 n) || (s.chAx c n).viol ≠ 0 || s.btLocked n

/-- An accepted reset edge (R423, R426, R429).  STO is released by each channel's next safety cycle, which drives the lines after it has evaluated every
function (R402).  A read-back fault has gone when the latest read-back of the output found it good (DEDUCED). -/
def State.resetEdge (s : State) : State :=
  let s0 := (((s.count SF_CNT SF_CNT_EDGES).clrf SF_STAT SF_STAT_RSTDISC).clrf SF_STAT SF_STAT_RSTFLT).event .resetEdge 0
  let i := s0.get SF_SET SF_SET_SELECTED
  -- confirmation of a check value
  let conf := s.inMorning && s.flag SF_STAT SF_STAT_SWS4ON && s0.slotState i = 2 && s0.rdN SF_CHKA = s0.rdN SF_CHKB
  let b := (s.slot i).bytes
  let s1 := if conf then
      (s0.modSafe fun x =>
        { x with slots := vmod x.slots i fun y => { y with confirmed := some (setCheck b) }
                 keySet := if setIsKeys b then (b.take (setLen b)).drop 128 else x.keySet })
    else s0
  -- violations, discrepancies and faults whose cause has gone; what latched in this safety cycle stays (R431)
  let pend := s1.flag SF_STAT SF_STAT_SETPEND || (conf && !setIsKeys b)
  let s3 := s1.forEach [0, 1] fun s c => s.forEach (List.range 64) fun s n => s.modChAx c n fun x =>
    let r := s.sRec n
    let slp := s.sFunc n 5 && (s.demanded 9 n || (s.inputsOf 9 n).isEmpty) && slpBad r (x.hist.headD 0) (safeSpeed x.hist (max 1 (bU r 10 1)))
    let stays := x.violAt / 100000 == s.tick / 100000 || (x.viol = 5 && slp) || (x.viol = 6 && !x.ok) || (x.viol = 7 && (List.range 32).any fun k => (s.conn k).exp && !(s.conn k).back && bU (setConn s.safe.set k) 4 1 == n)
    if stays then x else { x with viol := 0 }
  let s4 := s3.modSafe fun x =>
    { x with ins := x.ins.map fun y => if y.disc && y.both then { y with disc := false, both := false } else y
             conns := x.conns.map fun y => if y.exp && y.back then { y with exp := false, back := false } else y }
  let s5 := s4.forEach (List.range 32) fun s c => s.putB (RSAFE_W0 c) RSAFE_W0_WDEXP (s.conn c).exp
  let swGood := decide ((s5.ch 0).swsOk = (s5.ch 1).swsOk) && decide ((((s5.ch 0).swsOk).getD 0) < 32)
  let s6 := if swGood then s5.clrf SF_STAT SF_STAT_SWFAULT else s5
  let s7 := if s6.slotUsable i && (pend || !s6.safe.set.isEmpty) then s6.clrf SF_STAT SF_STAT_SETFAULT else s6
  let s8 := if (s7.ch 0).mism = 0 && (s7.ch 1).mism = 0 then s7.clrf SF_STAT SF_STAT_XFAULT else s7
  let rb := (List.range 12).foldl (fun m o => if vget s8.safe.rbBad o false then m else nsetBit m o false) (s8.get SF_OUT SF_OUT_RBF)
  let s8b := (s8.putB SF_STAT SF_STAT_IOFAULT (s8.flag SF_STAT SF_STAT_IOFAULT && rb != 0)).put SF_OUT SF_OUT_RBF rb
  -- a pending set change, or the set just confirmed; a global fault keeps it pending (R431)
  let s8c := if !pend then s8b else if s8b.slotUsable i && !s8b.globalFault then (s8b.activateSet i).clrf SF_STAT SF_STAT_SETPEND else s8b.setf SF_STAT SF_STAT_SETPEND
  let s9 := if sfFaults.any fun f => s0.flag SF_STAT f && !s8c.flag SF_STAT f then s8c.event .safetyViolation 0xFF else s8c
  let good := !s9.globalFault && !s9.safe.set.isEmpty && s9.chRuns 0 && s9.chRuns 1
  let s10 := if good then
      ((s9.clrf SF_STAT SF_STAT_RSTWAIT).modSafe fun x => { x with nightEdge := true }).forEach [0, 1] fun s c =>
        s.forEach (List.range 64) fun s n => if s.stoDemand c n then s else s.modChAx c n fun x => { x with sto := false, btHeld := false }
    else s9
  (s10.forEach (List.range 64) fun s n => s.sfAx n).slotRegs.sfRegs

/-- A falling edge of SAFE_RESET: the time the land was high as each channel timed it (ticks), and the time between the two
channels' edges. -/
def State.safeResetEdge (s : State) (hiA hiB skew : Nat) : State :=
  if s.safe.longHigh then s.modSafe fun x => { x with longHigh := false }
  else
    let ok := fun h => decide (20000000 ≤ h ∧ h ≤ 1200000000)
    if !s.isS then
      (if ok hiA then (s.event .resetEdge 0).modSafe fun x => { x with nightEdge := true } else s)
    else if ok hiA && ok hiB && skew ≤ 4000000 then
      (if s.safe.swAt.any fun t => t / 100000 == s.tick / 100000 then s else s.resetEdge)
    else if ok hiA || ok hiB then s.setf SF_STAT SF_STAT_RSTDISC
    else s

/-- Night demands STO on every axis; leaving it needs an accepted edge (R12, R408). -/
def State.safeNight (s : State) : State :=
  let s0 := s.modSafe fun x => { x with nightEdge := false }
  if s.isS then
    let s1 := (s0.setf SF_STAT SF_STAT_RSTWAIT).forEach [0, 1] fun s c => s.forEach (List.range 64) fun s n => s.modChAx c n fun x => x.stop 0
    (((s1.driveAll 0).driveAll 1).forEach (List.range 64) fun s n => s.sfAx n).sfRegs
  else s0

/-- The level of an STO line at its land: channel `c` of axis `n` (R405; R436 on the NX6432-F). -/
def State.stoLine (s : State) (c n : Nat) : Bool :=
  if s.isS then vget (s.ch c).line n false
  else s.flag (SLOT_STAT n) SLOT_STAT_RUN && !(vget s.pwms n {}).cut && (s.loop n).toff.isNone

/-! ### Ramaux Safe (R369, R370, R430) -/

/-- SDATA towards the drive of a connection, as channel `h` forms it from its own demands. -/
def State.sdata (s : State) (c h : Nat) : Nat :=
  let n := bU (setConn s.safe.set c) 4 1
  let x := s.chAx h n
  let run := !x.sto && !(s.conn c).exp && !s.globalFault && !s.flag SF_STAT SF_STAT_RSTWAIT
  let (lim, act) := match x.sls with
    | some (l, _, _) => (l, true)
    | none => (0, false)
  b2n run + 2 * b2n x.ss1.isSome + 4 * lim + 16 * b2n act
/-- The container of connection `c`, with its SEQ; none where the channels do not send: not both run, or they disagree on it, which in two
consecutive cycles is XFAULT (R370, R430). -/
def State.safeContainer (s : State) (c : Nat) : Option (List Byte) × State :=
  let r := setConn s.safe.set c
  if !s.isS || s.safe.set.isEmpty || !connUsed r || !s.chRuns 0 || !s.chRuns 1 then (none, s)
  else if s.sdata c 0 ≠ s.sdata c 1 then
    let s1 := s.modConn c fun x => { x with dis := x.dis + 1 }
    (none, if 2 ≤ (s1.conn c).dis then s1.raiseGlobal 0 SF_STAT_XFAULT else s1)
  else
    let seq := (s.get (RSAFE_SEQ c) RSAFE_SEQ_TXSEQ + 1) % 65536
    let seed := vget s.sec.seeds (bU r 5 1) 0
    let body := leBytes 2 (bU r 0 2) ++ leBytes 2 seq ++ leBytes 4 (s.sdata c 0) ++ leBytes 4 0
    (some (body ++ leBytes 4 (crc32c (leBytes 4 seed.toNat ++ body))),
      (s.put (RSAFE_SEQ c) RSAFE_SEQ_TXSEQ seq).modConn c fun x => { x with dis := 0 })

/-- An axis violation of a network axis from its connection. -/
def State.safeConnViol (s : State) (c : Nat) : State :=
  let n := bU (setConn s.safe.set c) 4 1
  let stop := fun (x : ChAx) => { x.stop 7 with violAt := if x.viol = 0 then s.tick else x.violAt }
  ((s.modChAx 0 n stop).modChAx 1 n stop).sfAx n
/-- The watchdog of a connection expires (R370, R430). -/
def State.connExpire (s : State) (c : Nat) : State :=
  ((s.modConn c fun x => { x with exp := true, back := false }).setf (RSAFE_W0 c) RSAFE_W0_WDEXP).safeConnViol c

/-- A container arrives: both channels check SCRC, CONNID and SEQ (R370).  One in the safety cycle in which the watchdog expires does not avert the
expiry (R431). -/
def State.safeReceive (s00 : State) (c : Nat) (p : List Byte) : State :=
  let r := setConn s00.safe.set c
  if !s00.isS || s00.safe.set.isEmpty || !connUsed r then s00
  else
    let ended := !(s00.conn c).exp && decide (((s00.conn c).at_ + bU r 6 2 * 400000) / 100000 ≤ s00.tick / 100000)
    let s := if ended then s00.connExpire c else s00
    let seed := vget s.sec.seeds (bU r 5 1) 0
    let good := decide (p.length = 16) && crc32c (leBytes 4 seed.toNat ++ p.take 12) == bU p 12 4 && bU p 0 2 == bU r 0 2
    let d := (bU p 2 2 + 65536 - s.get (RSAFE_SEQ c) RSAFE_SEQ_RXSEQ) % 65536
    if good && 1 ≤ d && d ≤ 4 then
      let s1 := (s.put (RSAFE_SEQ c) RSAFE_SEQ_RXSEQ (bU p 2 2)).modConn c fun x =>
        { x with at_ := s.tick, drive := BitVec.ofNat 32 (bU p 4 4), back := x.exp }
      if nbit (bU p 4 4) 4 || Config.driveOdd (bU p 5 1) (s.sdata c 0) then s1.safeConnViol c else s1
    else s.count (RSAFE_ERR c) RSAFE_ERR_SAFEERR

/-- No valid container within WDT. -/
def State.safeWdt (s : State) (c : Nat) : State :=
  let r := setConn s.safe.set c
  if !s.isS || s.safe.set.isEmpty || !connUsed r || (s.conn c).exp then s
  else
    (s.advanceTo ((s.conn c).at_ + bU r 6 2 * 400000)).connExpire c

/-- The state after a safety row; a change of SF_STAT or of an SF_AXn is event group E1 (R475). -/
def State.safeGroup (s t : State) : State :=
  if t.rdN SF_STAT != s.rdN SF_STAT || (List.range 32).any fun n => t.rd64N (SFAX_AX n) != s.rd64N (SFAX_AX n) then t.group 1 else t

end Sys2Proof.Machine
end

