-- ==== Sys2Proof/Machine/Runs.lean ====
section
/-! DEFINITION. The run queues of the LPs (R56) and lateness (R59). -/

namespace Sys2Proof.Machine

/-- The rank of a run: local, network, virtual, overhead. -/
def RunReq.rank (r : RunReq) : Nat :=
  match r.kind with
  | .pos | .vel => 0
  | .net => 1
  | .virt => 2
  | .overhead => 3
/-- Whether `r` runs before `q`: by rank; local runs by boundary, axis, position before velocity; network runs as they
arrived; virtual runs by boundary and axis. -/
def RunReq.before (r q : RunReq) : Bool :=
  if r.rank ≠ q.rank then decide (r.rank < q.rank)
  else match r.kind with
    | .net | .overhead => false
    | _ =>
      if r.b ≠ q.b then decide (r.b < q.b)
      else if r.axis ≠ q.axis then decide (r.axis < q.axis)
      else r.kind == .pos && q.kind == .vel
def insertRun (r : RunReq) : List RunReq → List RunReq
  | [] => [r]
  | q :: rest => if r.before q then r :: q :: rest else q :: insertRun r rest
/-- A run of an axis is late: COUNT and RUN; when RUN reaches 3 the LP brings the axis to Dusk. -/
def State.lateRun (s : State) (n : Nat) (missing : Bool := false) : State :=
  let s1 := (s.count (AX_LATE n) AX_LATE_COUNT).count (AX_LATE n) AX_LATE_RUN
  if s1.get (AX_LATE n) AX_LATE_RUN = 3 && !missing && !s.flag (AX_STAT n) AX_STAT_DUSK then s1.startRamp n .late else s1
def State.onTime (s : State) (n : Nat) : State := s.put (AX_LATE n) AX_LATE_RUN 0

/-- A run joins its LP's queue.  At most one run of each law of an axis waits: a run of the previous boundary that has not
started is replaced and counts as late, a network run but once where its slot has counted it.  Work is not pre-empted: a run that has started stays in front. -/
def State.enqueue (s : State) (r : RunReq) : State :=
  let k := if r.kind == .overhead then r.axis else s.lpOf r.axis
  let same := fun q : RunReq => q.kind == r.kind && q.axis == r.axis
  let m := if s.headStarted k then 1 else 0
  let counted := r.kind == .overhead || (r.kind == .net && (s.net (r.axis - 32)).slotLate)
  let s0 := if ((s.queue k).drop m).any same && !counted then s.lateRun r.axis else s
  let s1 := if r.kind == .net then s0.modNet (r.axis - 32) fun x => { x with slotLate := false } else s0
  s1.modQueue k fun l => l.take m ++ insertRun r ((l.drop m).filter fun q => !same q)

end Sys2Proof.Machine
end

