-- ==== Sys2Proof/Machine/Ramaux.lean ====
section
/-! DEFINITION. Ramaux (R339–R376): tables, the transmit slot, reception, epochs, node loss and the Yard bell. -/

namespace Sys2Proof.Machine

def State.modRm (s : State) (f : RmSt → RmSt) : State := { s with rm := f s.rm }
def State.epoch (s : State) : Nat := s.get RM_EPOCH RM_EPOCH_EPOCH
def State.node (s : State) : Nat := s.get RM_CFG RM_CFG_NODE
def State.rmOn (s : State) : Bool := s.flag RM_CFG RM_CFG_EN
def State.pubInForce (s : State) (i : Nat) : Bool := s.flag (PUB_W0 i) PUB_W0_EN && s.get (PUB_W0 i) PUB_W0_EPOCH == s.epoch
def State.subInForce (s : State) (i : Nat) : Bool := s.flag (SUB_W0 i) SUB_W0_EN && s.get (SUB_W0 i) SUB_W0_EPOCH == s.epoch
/-- A multicast address of the domain (R341). -/
def State.rmAddr (s : State) (low : Nat) : BitVec 48 := BitVec.ofNat 48 (s.rd64N RM_MC / 4096 * 4096 + low)

/-! ### Shared SRAM, byte offsets -/

def State.sramBytes (s : State) (o k : Nat) : List Byte :=
  ((bytesOf ((List.range ((k + o % 4 + 3) / 4)).map fun i => wmGet s.mem.sram (o / 4 + i))).drop (o % 4)).take k
def State.sramPut (s : State) (o : Nat) (bs : List Byte) : State :=
  { s with mem := { s.mem with sram := wmWrite s.mem.sram (o / 4) (wordsOf bs) } }
/-- The buffer of a user block: a control word and two halves of PLEN bytes; bit 0 of the control word names the half. -/
def State.userHalf (s : State) (buf plen : Nat) (other : Bool) : Nat :=
  buf + 4 + (if (wmGet s.mem.sram (buf / 4)).toNat % 2 = 1 then (if other then 0 else plen) else (if other then plen else 0))

/-! ### Table entries (R376) -/

/-- PLEN matches KIND (R346). -/
def plenOk (kind plen : Nat) : Bool :=
  match kind with
  | 1 => plen == 32
  | 2 => plen == 24
  | 3 => plen == 72
  | 4 => plen == 16
  | 5 => decide (plen ≤ 1400) && plen % 4 == 0
  | _ => false
def refOk (kind ref : Nat) : Bool :=
  match kind with
  | 1 | 2 => decide (32 ≤ ref ∧ ref < 64)
  | 3 => decide (ref < 16)
  | 4 => decide (ref < 32)
  | 5 => true
  | _ => false
/-- Whether the four words of an entry may be written to entry `i` of the publication (`pub`) or subscription table (R376).  KIND 0 has no PLEN and no
coding of REF: an entry that is not enabled may hold it (DEDUCED). -/
def State.entryOk (s : State) (pub : Bool) (i : Nat) (w0 w1 buf ref : Nat) : Bool :=
  let en := nbit w0 31
  let kind := nbits w0 26 24
  let epoch := nbits w0 23 16
  let id := w0 % 65536
  let dup := if pub then (List.range 128).any fun j => j != i && s.flag (PUB_W0 j) PUB_W0_EN && s.get (PUB_W0 j) PUB_W0_EPOCH == epoch
      && s.get (PUB_W0 j) PUB_W0_PUBID == id
    else (List.range 256).any fun j => j != i && s.flag (SUB_W0 j) SUB_W0_EN && s.get (SUB_W0 j) SUB_W0_EPOCH == epoch
      && s.get (SUB_W0 j) SUB_W0_PUBID == id && s.get (SUB_W1 j) SUB_W1_SRCNODE == nbits w1 25 16
  buf % 8 == 0 && (if kind = 0 then !en
    else plenOk kind (w1 % 2048) && refOk kind (ref % 256) && !dup && !(en && epoch == 0) && !(kind == 4 && !s.isS))
/-- Entries of the current epoch are writable in Morning only, those of another epoch in any state (R356). -/
def State.entryOpen (s : State) (old new : Nat) : Bool :=
  s.inMorning || (!(nbit old 31 && nbits old 23 16 == s.epoch) && !(nbit new 31 && nbits new 23 16 == s.epoch))
/-- The words of an entry are written, or the entry stays and CFGBAD is set. -/
def State.entryWrite (s : State) (pub : Bool) (i : Nat) (w0 w1 buf ref : Nat) : State :=
  let a := if pub then PUB_W0 i else SUB_W0 i
  if !s.entryOpen (s.rdN a) w0 then s
  else if s.entryOk pub i w0 w1 buf ref then (((s.wrN a w0).wrN (a + 4) w1).wrN (a + 8) buf).wrN (a + 12) (ref % 256)
  else s.setf RM_STAT RM_STAT_CFGBAD

/-- RM_CFG is written (R351): EN = 1 only with BELLWIN < TXSLOT < CYCEND ≤ F; the firmware then writes the gate control list
of R350 on P1–P3. -/
def State.rmEnable (s : State) (v : Nat) : State :=
  let win := s.get RM_BELL RM_BELL_BELLWIN
  let tx := s.get RM_CYC RM_CYC_TXSLOT
  let ce := s.get RM_CYCEND RM_CYCEND_CYCEND
  if !s.inMorning then s
  else if nbit v 31 then
    if win < tx && tx < ce && ce ≤ s.frameLen then
      let s1 := s.wrN RM_CFG (v % 2 ^ 26 + 2 ^ 31)
      let base := lsCode (s.frameTime (s.time.frameNum + 1) * 65536)
      s1.forEach [1, 2, 3] fun s p =>
        let s1 := ((s.wrN (GCL_ADM p 0) (0x20 * 2 ^ 24 + win)).wrN (GCL_ADM p 1) (0xC0 * 2 ^ 24 + (ce - win))).wrN (GCL_ADM p 2) (0xDF * 2 ^ 24 + (s.frameLen - ce))
        let s2 := (s1.put (GCL_CTRL p) GCL_CTRL_COUNT (if ce = s.frameLen then 2 else 3)).put (GCL_CYCLE p) GCL_CYCLE_CYCLE s.frameLen
        ((s2.wr64N (GCL_BASE p) base).wr64N (GCL_CHGTIME p) base).gclChg p
    else s.setf RM_STAT RM_STAT_CFGBAD
  else
    let s1 := s.wrN RM_CFG (v % 2 ^ 26)
    if s.rmOn then s1.modRm fun r => { r with notices := r.notices ++ [(5, s.time.frameNum, false, false)] } else s1

/-! ### Transmit (R342–R349, R352) -/

def pubBlock (id kind rep plen epoch : Nat) (p : List Byte) : List Byte :=
  let b := leBytes 2 id ++ leBytes 1 kind ++ leBytes 1 rep ++ leBytes 2 plen ++ leBytes 1 epoch ++ leBytes 1 0 ++ p
  b ++ leBytes 4 (crc32 b)

/-- The state of a network axis at the transmit slot (R59, R60): late and missing outputs, loss of FB1, which R175 then handles for each law that
it serves, torque-off; and whether the previous torque goes out marked as repeated. -/
def State.netSlot (s : State) (n : Nat) : Bool × State :=
  let x := s.net (n - 32)
  if !(s.running && (s.loop n).enabled) then (false, s)
  else if (s.loop n).toff.isSome && x.lost then (true, s.torqueOffStep n)
  else if x.ran then (false, s.onTime n)
  else
    let missing := !x.arrived && !x.lost
    let s1 := (s.lateRun n missing).modNet (n - 32) fun y => { y with slotLate := true }
    if missing && s1.get (AX_LATE n) AX_LATE_RUN = 3 then
      let s2 := s1.modNet (n - 32) fun y => { y with valid := false, lost := true }
      let s3 := if s2.flag (AXL_LFB n) AXL_LFB_DUALLOOP then s2 else s2.posFallback n
      let s4 := if (s3.loop n).toff.isSome then s3 else s3.velFallback n
      (true, if (s4.loop n).toff.isSome then s4.torqueOffStep n else s4)
    else (true, s1)

/-- The payload of an axis command (R347, R352). -/
def State.cmdPayload (s : State) (n : Nat) : List Byte :=
  let run := s.running && (s.loop n).enabled
  let T := if run then (s.loop n).tRef else 0
  let b := if run && (s.loop n).tRefAt ≠ 0 then (s.loop n).tRefB else s.time.frameStart
  let sample := s.mtAt b
  let app := ((sample : Int) + s.frameLen * 10737418240 + s.rdI (AX_TOFS n) * 335544320).toNat
  let en := run && !((s.loop n).toff.isSome && T = 0)
  leBytes 4 (BitVec.ofInt 32 T).toNat ++ leBytes 4 (b2n en + 2 * b2n (s.flag (AX_STAT n) AX_STAT_DUSK)) ++ leBytes 8 (lsCode sample) ++ leBytes 8 (lsCode app)

/-- The payload of a line-shaft master state (R347). -/
def State.shaftPayload (s : State) (k : Nat) : List Byte :=
  let m := (s.shaft k).out
  let q := fun x => leBytes 8 (BitVec.ofInt 64 x).toNat
  let src := s.get (LS_CFG k) LS_CFG_SRCAX
  let real := decide (src < 64)
  let bad := real && !s.fbValid src (s.get (AXL_LFB src) AXL_LFB_FB1)
  let dusk := s.flag (AX_STAT (if src < 0x40 then src else src - 0x40 + 64)) AX_STAT_DUSK
  q m.p ++ q m.v ++ q m.a ++ q m.j ++ leBytes 8 (lsCode (m.ts * 65536)) ++ q m.modulo ++ leBytes 8 (s.rd64N (LS_DEC k)) ++ leBytes 8 (s.rd64N (LS_JERK k))
    ++ leBytes 1 (s.get (LS_COAST k) LS_COAST_LSCOAST) ++ leBytes 1 (b2n real + 2 * b2n bad + 4 * b2n dusk) ++ leBytes 6 0

/-- The block that entry `i` sends at the transmit slot, with the effects of forming it. -/
def State.pubEntry (s : State) (i : Nat) : Option (List Byte) × State :=
  let kind := s.get (PUB_W0 i) PUB_W0_KIND
  let plen := s.get (PUB_W1 i) PUB_W1_PLEN
  let ref := s.get (PUB_REF i) PUB_REF_REF
  let buf := s.rdN (PUB_BUF i)
  let blk := fun rep p => pubBlock (s.get (PUB_W0 i) PUB_W0_PUBID) kind rep plen s.epoch p
  match kind with
  | 2 =>
    let (rep, s1) := s.netSlot ref
    let p := s1.cmdPayload ref
    let s2 := if rep then s1.rmCount RM_CNT3 RM_CNT3_HI else s1
    (some (blk (b2n rep) p), s2.sramPut buf p)
  | 3 =>
    if s.flag (LS_CFG ref) LS_CFG_EN && s.flag (LS_CFG ref) LS_CFG_ROLE then
      let s := s.shaftFill ref
      let p := s.shaftPayload ref
      let m := (s.shaft ref).out
      -- the engine delivers the state to the module's own followers (R131)
      let s1 := (s.sramPut buf p).shaftAccept ref m (s.get (LS_COAST ref) LS_COAST_LSCOAST) (s.rd64I (LS_DEC ref)) (s.rd64I (LS_JERK ref))
      (some (blk 0 p), s1)
    else (none, s)
  | 4 => match s.safeContainer ref with
    | (some p, s1) => (some (blk 0 p), s1.sramPut buf p)
    | (none, s1) => (none, s1)
  | 5 => (some (blk 0 (s.sramBytes (s.userHalf buf plen false) plen)), s)
  | _ => (none, s)

/-- Blocks packed in order into at most four bodies of 2 004 bytes; what does not fit is counted. -/
def packBlocks : List (List Byte) → List (List (List Byte)) → Nat → List (List (List Byte)) × Nat
  | [], acc, d => (acc, d)
  | b :: rest, acc, d =>
    match acc.getLast? with
    | some cur =>
      if (cur.foldl (fun n x => n + x.length) 0) + b.length ≤ 2004 then packBlocks rest (acc.dropLast ++ [cur ++ [b]]) d
      else if acc.length < 4 then packBlocks rest (acc ++ [[b]]) d
      else packBlocks rest acc (d + 1)
    | none => packBlocks rest [[b]] d

/-- The Ramaux header (R343). -/
def rmHeader (type flags node cycle len npub : Nat) : List Byte :=
  let h := leBytes 1 (16 + type) ++ leBytes 1 flags ++ leBytes 2 node ++ leBytes 4 cycle ++ leBytes 2 len ++ leBytes 1 npub ++ leBytes 1 0
  h ++ leBytes 4 (crc32 h)
def State.rmFrameOf (s : State) (kind : EthKind) (low pcp : Nat) (bytes : List Byte) : EthFrame :=
  { dst := s.rmAddr low, src := Config.macAddress, tag := some (Fin.ofNat 8 pcp, Fin.ofNat 4096 (s.get RM_VLAN RM_VLAN_VID))
    kind := kind, len := max 64 (bytes.length + 22), body := bytes }

/-- The transmit slot of the frame in progress (R348). -/
def State.txSlot (s0 : State) : State :=
  if s0.inDawn || !s0.rmOn then s0
  else
    let s := s0.advanceTo (s0.time.frameStart / 32 + s0.get RM_CYC RM_CYC_TXSLOT)
    let (blocks, s1) := ((List.range 128).filter s.pubInForce).foldl (fun (x : List (List Byte) × State) i =>
      match x.2.pubEntry i with
      | (some b, t) => (x.1 ++ [b], t)
      | (none, t) => (x.1, t)) ([], s)
    let (frames, dropped) := packBlocks blocks [] 0
    let s2 := if dropped = 0 then s1 else (s1.setf RM_STAT RM_STAT_TXOVER).addCount RM_CNT3 RM_CNT3_LO dropped
    (List.range frames.length).foldl (fun s j =>
      let bs := frames.getD j []
      let body := bs.flatten
      let hdr := rmHeader 1 (b2n (j + 1 == frames.length) + 2 * j) s.node (s.time.frameNum % 2 ^ 32) body.length bs.length
      s.switchIn 0 0 (s.rmFrameOf .cyclic s.node 6 (hdr ++ body))) s2

/-! ### Receive (R353, R354, R357) -/

/-- A drive's publication for network axis `n` (R56, R347): its law joins the queue. -/
def State.netArrive (s : State) (n : Nat) (p : List Byte) : State :=
  let x := s.net (n - 32)
  let st := lsDecode (bU p 8 8)
  let s1 := s.modNet (n - 32) fun y =>
    { y with
      oldest := y.older, older := y.newer, newer := some (bS p 0 8, st), torque := bS p 16 4, dstat := bU p 20 4, arrived := true, due := true
      valid := if y.lost then false else nbit (bU p 20 4) 0 }
  if s.running && !x.lost then s1.enqueue { kind := .net, axis := n, b := s.time.frameStart, at_ := s.tick } else s1

/-- A block that passed every check is delivered to subscription `i`. -/
def State.deliver (s : State) (i cycle : Nat) (p : List Byte) : State :=
  let ref := s.get (SUB_REF i) SUB_REF_REF
  let buf := s.rdN (SUB_BUF i)
  let plen := s.get (SUB_W1 i) SUB_W1_PLEN
  -- a block of the previous cycle accepted in the boundary tick that found its node lost: it is not lost (R373)
  let late := s.tick == s.time.frameStart / 32 && cycle == (s.time.frameNum + 2 ^ 32 - 1) % 2 ^ 32
  let node := s.get (SUB_W1 i) SUB_W1_SRCNODE
  let s1 := (s.wrN (SUBST_LASTCYC i) cycle).modRm fun r =>
    { r with acc := (i, cycle) :: r.acc, lost := if late then r.lost.filter fun l => !(l.node == node && l.d == s.time.frameNum) else r.lost }
  match s.get (SUB_W0 i) SUB_W0_KIND with
  | 1 => (s1.sramPut buf p).netArrive ref p
  | 3 =>
    let q := fun o => bS p o 8
    (s1.sramPut buf p).shaftAccept ref { p := q 0, v := q 8, a := q 16, j := q 24, ts := lsDecode (bU p 32 8), modulo := q 40 }
      (bU p 64 1) (q 48) (q 56)
  | 4 => (s1.sramPut buf p).safeReceive ref p
  | 5 =>
    let o := s1.userHalf buf plen true
    let w := (wmGet s1.mem.sram (buf / 4)).toNat
    let s2 := s1.sramPut o p
    { s2 with mem := { s2.mem with sram := wmSet s2.mem.sram (buf / 4) (BitVec.ofNat 32 (nsetBit w 0 (w % 2 == 0))) } }.modRm fun r =>
      { r with subTick := (i, s.tick) :: r.subTick.filter fun x => x.1 != i }
  | _ => s1

/-- A frame of the previous epoch during GRACE. -/
def State.inGrace (s : State) : Bool := s.flag RM_STAT RM_STAT_GRACERUN

/-- The blocks of a cyclic body, from the node `node` in cycle `cycle`. -/
def State.blocks (node cycle : Nat) : Nat → List Byte → State → State
  | 0, _, s => s
  | k + 1, b, s =>
    let plen := bU b 4 2
    let kind := bU b 2 1
    if b.length < 12 || b.length < plen + 12 || kind = 0 || 5 < kind then s.rmCount RM_CNT2 RM_CNT2_HI
    else
      let rest := b.drop (plen + 12)
      let go := State.blocks node cycle k rest
      if crc32 (b.take (8 + plen)) ≠ bU b (8 + plen) 4 then go (s.rmCount RM_CNT0 RM_CNT0_LO)
      else
        match (List.range 256).find? fun i => s.subInForce i && s.get (SUB_W0 i) SUB_W0_PUBID == bU b 0 2 && s.get (SUB_W1 i) SUB_W1_SRCNODE == node with
        | none => go (s.rmCount RM_CNT2 RM_CNT2_LO)
        | some i =>
          if kind ≠ s.get (SUB_W0 i) SUB_W0_KIND || plen ≠ s.get (SUB_W1 i) SUB_W1_PLEN then
            go ((s.rmCount RM_CNT2 RM_CNT2_HI).count (SUBST_CNT i) SUBST_CNT_BAD)
          else if bU b 6 1 ≠ s.epoch then
            if s.inGrace && bU b 6 1 = s.rm.prev then go s
            else go ((s.rmCount RM_CNT1 RM_CNT1_HI).count (SUBST_CNT i) SUBST_CNT_BAD)
          else go (s.deliver i cycle ((b.drop 8).take plen))

/-- A cyclic frame arrives with a good FCS: header and body (R353). -/
def State.cyclicIn (s : State) (f : List Byte) : State :=
  if s.inDawn then s
  else if bU f 0 1 ≠ 0x11 || crc32 (f.take 12) ≠ bU f 12 4 then s.rmCount RM_CNT0 RM_CNT0_HI
  else
    let a := (s.time.frameNum + 2 ^ 32 - bU f 4 4 % 2 ^ 32) % 2 ^ 32
    if s.get RM_EPOCH RM_EPOCH_MAXAGE < a then s.rmCount RM_CNT1 RM_CNT1_LO
    else State.blocks (bU f 2 2 % 1024) (bU f 4 4) (bU f 10 1) ((f.drop 16).take (bU f 8 2)) s

/-! ### Epochs (R356–R358) -/

/-- ARM of RM_NEXT: accepted, or refused with EPREFUSED. -/
def State.epochArm (s : State) (ne act : Nat) : Bool × State :=
  let least := match s.rm.change with
    | some c => c + s.get RM_EPOCH RM_EPOCH_GRACE + s.get RM_EPOCH RM_EPOCH_MAXAGE + 2
    | none => 0
  if ne = 0 || ne = s.epoch || act < s.time.frameNum + 3 || act < least || s.flag RM_NEXT RM_NEXT_PEND then (false, s.setf RM_NEXT RM_NEXT_EPREFUSED)
  else (true, (s.setf RM_NEXT RM_NEXT_PEND).modRm fun r => { r with armed := some (ne, act) })

/-- At the boundary of ACTFRAME the current epoch becomes NEPOCH. -/
def State.epochChange (s : State) : State :=
  match s.rm.armed with
  | none => s
  | some (ne, act) =>
    if s.time.frameNum < act then s
    else
      let g := s.get RM_EPOCH RM_EPOCH_GRACE
      let s1 := ((s.put RM_EPOCH RM_EPOCH_EPOCH ne).clrf RM_NEXT RM_NEXT_PEND).putB RM_STAT RM_STAT_GRACERUN (0 < g)
      ((s1.modRm fun r => { r with armed := none, change := some s.time.frameNum, prev := s.epoch, graceEnd := s.time.frameNum + g }).event
        .epochChange ne).resolve .epoch 0 .ok

/-- GRACE frames after the change. -/
def State.graceEnd (s : State) : State := if s.inGrace && s.rm.graceEnd ≤ s.time.frameNum then s.clrf RM_STAT RM_STAT_GRACERUN else s

/-! ### The Yard bell (R363–R368) -/

/-- A notice of this node is to be rung (R364). -/
def State.notice (s : State) (cause : Nat) : State := s.modRm fun r => { r with notices := r.notices ++ [(cause, s.time.frameNum, false, false)] }

def bellBytes (b : Bell) (hops : Nat) : List Byte :=
  let x := leBytes 2 b.origin.val ++ [b.epoch, b.bkind] ++ leBytes 2 b.reporter.val ++ [b.cause, BitVec.ofNat 8 hops] ++ leBytes 4 b.dcycle.toNat
    ++ leBytes 4 b.nsub.toNat ++ leBytes 4 0
  x ++ leBytes 4 (crc32 x)

def State.btMatch (s : State) (i origin epoch : Nat) : Bool :=
  s.flag (BT_KEY i) BT_KEY_USED && s.get (BT_KEY i) BT_KEY_ORIGIN == origin && s.get (BT_KEY i) BT_KEY_EPOCH == epoch

/-- A bell reaches P0: a partner that hushes for this origin suppresses its report (R365). -/
def State.bellToP0 (s : State) (b : Bell) : State :=
  let hit := fun (l : LostNode) => l.node == b.origin.val && l.epoch == b.epoch.toNat && l.role == 0
  let s1 := if s.rm.lost.any hit then s.rmCount RM_CNT4 RM_CNT4_LO else s
  s1.modRm fun r => { r with lost := r.lost.map fun l => if hit l then { l with role := 2, supp := l.supp + 1 } else l }

/-- A bell reaches the switch by port `p` (R366). -/
def State.bellIn (s : State) (p : Nat) (b : Bell) : State :=
  let kind := b.bkind.toNat
  if !b.crcOk || kind = 0 || 2 < kind then s.rmCount RM_CNT2 RM_CNT2_HI
  else
    let mine := fun i => s.btMatch i b.origin b.epoch.toNat && s.get (BT_KEY i) BT_KEY_BKIND == kind
    let go := fun (s : State) =>
      let hops := b.hops.toNat
      if hops = 0 then s
      else
        let out := rmHeader 3 0 s.node (s.time.frameNum % 2 ^ 32) 24 0 ++ bellBytes b (hops - 1)
        let f := { s.rmFrameOf .bell 1024 5 out with inPort := p }
        s.forEach ([1, 2, 3].filter fun q => q != p && s.linkUp? q) fun s q => s.egress f q
    match (List.range 64).find? mine with
    | some i =>
      let s1 := (s.count (BT_W1 i) BT_W1_COUNT).rmCount RM_CNT5 RM_CNT5_HI
      -- of two bells of one key in one tick the P1 copy is the one that entered the table (R373)
      let (j, t, q) := s.rm.bellTook
      if p = 1 && q ≠ 0 && j = i && t = s.tick then
        go ((s1.unqueue [1, 2, 3] 5 fun f => f.kind == .bell && f.inPort == q && (f.body.drop 16).take 4 == (bellBytes b 0).take 4).modRm fun r =>
          { r with bellTook := (i, t, 1) })
      else s1
    | none =>
      let s1 := match (List.range 64).find? fun i => !s.flag (BT_KEY i) BT_KEY_USED with
        | some i =>
          (((s.wrN (BT_KEY i) (2 ^ 31 + kind * 2 ^ 24 + b.epoch.toNat * 2 ^ 16 + b.origin.val)).wrN (BT_W1 i) 0).wrN (BT_FIRST i) (s.time.frameNum % 2 ^ 32)).modRm
            fun r => { r with bellTook := (i, s.tick, p) }
        | none => s.rmCount RM_CNT5 RM_CNT5_LO
      go (if p = 0 then s1 else s1.bellToP0 b)

/-- A frame enters a switch port: a bell goes by the merge table, every other frame by the forwarding rules. -/
def State.switchFrame (s : State) (p e : Nat) (f : EthFrame) : State :=
  match f.kind with
  | .bell =>
    if !s.linkUp? p || !f.fcsOk then s.switchIn p e f
    else if bU f.body 0 1 ≠ 0x13 || crc32 (f.body.take 12) ≠ bU f.body 12 4 then s.rmCount RM_CNT0 RM_CNT0_HI
    else
      let b := f.body.drop 16
      s.bellIn p
        { origin := Fin.ofNat 1024 (bU b 0 2), epoch := BitVec.ofNat 8 (bU b 2 1), bkind := BitVec.ofNat 8 (bU b 3 1), reporter := Fin.ofNat 1024 (bU b 4 2)
          cause := BitVec.ofNat 8 (bU b 6 1), hops := BitVec.ofNat 8 (bU b 7 1), dcycle := BitVec.ofNat 32 (bU b 8 4), nsub := BitVec.ofNat 32 (bU b 12 4)
          crcOk := crc32 (b.take 20) == bU b 20 4 }
  | _ => s.switchIn p e f

def State.bellOf (s : State) (origin kind cause d nsub : Nat) : Bell :=
  { origin := Fin.ofNat 1024 origin, epoch := BitVec.ofNat 8 s.epoch, bkind := BitVec.ofNat 8 kind, reporter := Fin.ofNat 1024 s.node
    cause := BitVec.ofNat 8 cause, hops := 32, dcycle := BitVec.ofNat 32 d, nsub := BitVec.ofNat 32 nsub }

/-- The oldest notice not yet rung leaves in the bell window of a frame after its decision; a Watch module rings none, and while
the yard cores restart notices, reports and records wait (R43, R368). -/
def State.bellNotice (s : State) : State :=
  match s.rm.notices.find? fun x => !x.2.2.1 with
  | none => s
  | some (cause, d, _, _) =>
    if s.time.frameNum ≤ d || s.isWatch || !s.pw.fwRun || s.inDawn || !s.rmOn && cause ≠ 5 then s
    else
      let s1 := s.modRm fun r => { r with notices := (r.notices.takeWhile (·.2.2.1)) ++ ((r.notices.dropWhile (·.2.2.1)).map fun x => x).modifyHead fun x => (x.1, x.2.1, true, x.2.2.2) }
      (s1.rmCount RM_CNT4 RM_CNT4_HI).bellIn 0 (s.bellOf s.node 1 cause d 0)

/-- A partner reports a lost origin in its slot, or suppresses the report (R365). -/
def State.bellReport (s : State) (origin : Nat) : State :=
  match s.rm.lost.find? fun l => l.node == origin && l.role == 0 with
  | none => s
  | some l =>
    let setRole := fun r => s.modRm fun x => { x with lost := x.lost.map fun y => if y.node == origin && y.role == 0 then { y with role := r, supp := y.supp + b2n (r == 2) } else y }
    if s.time.frameNum < l.d + s.get RM_BELL RM_BELL_HUSH + s.node % 32 || s.isWatch || !s.pw.fwRun then s
    else if l.back then setRole 3
    else if (List.range 64).any fun i => s.btMatch i origin l.epoch then (setRole 2).rmCount RM_CNT4 RM_CNT4_LO
    else ((setRole 1).rmCount RM_CNT4 RM_CNT4_HI).bellIn 0 (s.bellOf origin 2 0x10 l.d l.nsub)

/-- A merge-table entry ages out BELLAGE frames after it was made. -/
def State.bellAgeout (s : State) (i : Nat) : State :=
  if s.flag (BT_KEY i) BT_KEY_USED && s.get RM_BELL RM_BELL_BELLAGE ≤ (s.time.frameNum + 2 ^ 32 - s.rdN (BT_FIRST i)) % 2 ^ 32 then
    ((s.wrN (BT_KEY i) 0).wrN (BT_W1 i) 0).wrN (BT_FIRST i) 0
  else s

/-- At frame D + HUSH + 32 one record per key is written (R368). -/
def State.bellRecord (s : State) (origin : Nat) : State :=
  let due := fun d => s.pw.fwRun && decide (d + s.get RM_BELL RM_BELL_HUSH + 32 ≤ s.time.frameNum)
  match s.rm.lost.find? fun l => l.node == origin && !l.recorded && due l.d with
  | some l =>
    (s.modRm fun r => { r with lost := r.lost.map fun y => if y.node == origin && !y.recorded && due y.d then { y with recorded := true } else y }).event
      .bell origin (l.role + 4 * l.nsub + 4096 * l.supp : Nat)
  | none =>
    match s.rm.notices.find? fun x => origin == s.node && x.2.2.1 && !x.2.2.2 && due x.2.1 with
    | some (c, d, _, _) =>
      (s.modRm fun r => { r with notices := r.notices.filter fun y => !(y.1 == c && y.2.1 == d) }).event .bell origin (1048576 + c : Nat)
    | none => s

/-- The Ramaux part of a frame boundary (R355, R366, R376): missing publications, lost nodes, ages. -/
def State.rmBoundary (s : State) : State :=
  let c := (s.time.frameNum + 2 ^ 32 - 1) % 2 ^ 32
  let subs := (List.range 256).filter s.subInForce
  let took := fun i => s.rm.acc.contains (i, c)
  let s1 := if s.inDawn then s else s.forEach (subs.filter fun i => !took i) fun s i => s.count (SUBST_CNT i) SUBST_CNT_MISSED
  let nodes := (subs.map fun i => s.get (SUB_W1 i) SUB_W1_SRCNODE).eraseDups
  let mine := fun m => subs.filter fun i => s.get (SUB_W1 i) SUB_W1_SRCNODE == m
  let gone := if s.inDawn then [] else nodes.filter fun m => (mine m).all fun i => !took i
  let s2 := s1.modRm fun r =>
    let kept := (r.lost.map fun l => if gone.contains l.node then l else { l with back := true }).filter fun l => !(l.back && l.recorded)
    let fresh := gone.filter fun m => !kept.any fun l => l.node == m && !l.back
    { r with
      acc := r.acc.filter fun x => decide ((s.time.frameNum + 2 ^ 32 - x.2) % 2 ^ 32 ≤ 16)
      lost := kept ++ fresh.map fun m => { node := m, d := s.time.frameNum, epoch := s.epoch, nsub := (mine m).length } }
  -- publications accepted again before the report suppress it
  let back := fun (l : LostNode) => l.back && l.role == 0 && decide (l.d + s.get RM_BELL RM_BELL_HUSH < s.time.frameNum)
  let s3 := (s2.forEach (s2.rm.lost.filter back |>.map (·.node)) fun s _ => s.rmCount RM_CNT4 RM_CNT4_LO).modRm fun r =>
    { r with lost := r.lost.map fun l => if back l then { l with role := 2, supp := l.supp + 1 } else l }
  let s4 := s3.forEach (List.range 64) fun s i =>
    if s.flag (BT_KEY i) BT_KEY_USED then s.put (BT_W1 i) BT_W1_AGE (min 255 ((s.time.frameNum + 2 ^ 32 - s.rdN (BT_FIRST i)) % 2 ^ 32)) else s
  s4.forEach (List.range 32) fun s i =>
    let s1 := s.modNet i fun x => { x with arrived := false, ran := false }
    -- an axis that has lost FB1 and runs on FB2 runs at each frame boundary (R60)
    if (s.net i).lost && s.running && (s.loop (32 + i)).enabled && (s.loop (32 + i)).toff.isNone then s1.enqueue { kind := .net, axis := 32 + i, b := s.time.frameStart, at_ := s.time.frameStart / 32 } else s1

end Sys2Proof.Machine
end

