-- ==== Sys2Proof/Machine/Twin.lean ====
section
/-! DEFINITION. The redundant pair (R377–R399): authority, the Tack line, the Watch's checks, release, takeover, handover. -/

namespace Sys2Proof.Machine

def State.modTw (s : State) (f : TwinSt → TwinSt) : State := { s with tw := f s.tw }
def State.primary (s : State) : Bool := s.flag TW_STAT TW_STAT_PRIMARY
/-- A YIELD condition: the bit is set and the twin is ready. -/
def State.yields (s : State) (f : Fld) : Bool := s.flag TW_YIELD f && s.flag TW_STAT TW_STAT_PEER_READY

/-- TWIN_OK (R389). -/
def State.twinOk (s : State) : State :=
  let lanes := s.flag TW_STAT TW_STAT_LANE0 && s.flag TW_STAT TW_STAT_LANE1
  let hb := s.tw.rx ≠ 0 && s.tick ≤ s.tw.rx + s.get TW_CFG TW_CFG_HBTO && !s.flag TW_STAT TW_STAT_TACK_LOST
  let ready := if s.isWatch then s.flag TW_STAT TW_STAT_READY else s.flag TW_STAT TW_STAT_PEER_READY
  s.putB TW_STAT TW_STAT_TWIN_OK (lanes && hb && ready)

/-- READY of a Watch (R388): the Active's operating state, locked time, no record missing in the last 2 frames, and 2 frames
since the snapshot. -/
def State.twinReady (s : State) : State :=
  let two := 2 * s.frameLen
  let quiet := match s.tw.bad with
    | some t => decide (t + two ≤ s.tick)
    | none => true
  let joined := match s.tw.joined with
    | some t => decide (t + two ≤ s.tick)
    | none => false
  s.putB TW_STAT TW_STAT_READY (s.isWatch && s.tw.peer = s.opState && s.flag TW_STAT TW_STAT_LOCKED && quiet && joined)

/-- While it is Watch a module listens on the SDCLK lands; one that ceases to drive lets go of the SSI clocks (R67, R203, R390). -/
def State.roleLands (s : State) (old : Bool) : State :=
  let s1 := s.forEach (List.range 8) fun s k => s.putB (SDCLK_CFG k) SDCLK_CFG_LISTEN s.isWatch
  if old && !s.drivesLands then s1.ssiRelease else s1
/-- The role changes: 0 none, 1 Active, 2 Watch; `code`: the cause code of its STATE record, 8 takeover, 9 handover (R610), else 0. -/
def State.setRole (s : State) (r code : Nat) : State :=
  let s1 := (((s.put TW_STAT TW_STAT_ROLE r).roleLands s.drivesLands).putB TW_STAT TW_STAT_ACTOUT (r == 1)).putB RM_STAT RM_STAT_WATCHSUP (r == 2)
  let s2 := if r = 2 then s1 else s1.clrf TW_STAT TW_STAT_READY
  if s.get TW_STAT TW_STAT_ROLE = r then s2 else (s2.event .roleChange r ((s.get TW_STAT TW_STAT_ROLE + 16 * code : Nat) : Int)).group 0

/-- The Active releases ACT_OUT (R390): it becomes Watch; its SDCLK, SSI-clock and compare drivers go to high impedance. -/
def State.twinRelease (s : State) (cause : Nat) : State :=
  if s.flag TW_STAT TW_STAT_ACTOUT then
    (s.setRole (if s.inDawn then 0 else 2) (if cause = 1 then 9 else 8)).event .handover cause
  else s

/-- ACT_IN, two ticks behind the line, reads deasserted from this tick on, and after W ticks the module asserts ACT_OUT (R379, R391). -/
def State.actOutAssert (s0 : State) : State :=
  let allowed := s0.running || (s0.inMorning && s0.tw.named = 1)
  if !s0.paired || s0.flag TW_STAT TW_STAT_ACTOUT || !allowed || (s0.tw.unhealthy && s0.yields TW_YIELD_YCWDT) then s0
  else
    let wait := if s0.primary then 80 else 160
    let was := s0.isWatch
    let s := (s0.advanceTo (s0.tick + wait)).clrf TW_STAT TW_STAT_ACTIN
    let s1 := (s.setRole 1 (if !was then 0 else if s.flag TW_HO TW_HO_PEND then 9 else 8)).modTw fun t => { t with gap := if was then some (s0.tick - 2, s.tick) else t.gap, hbSent := s.tick }
    if !was || !s.running then s1
    else
      let s2 := ((s1.count TW_CNT1 TW_CNT1_LO).notice 3).event .handover 4
      if s.flag TW_STAT TW_STAT_READY then s2
      else (s2.setf TW_STAT TW_STAT_TOOK).forEach (List.range 80) fun s n => s.modMo n fun m => { m with duskReq := true }

/-- ACT_IN reads asserted while ACT_OUT is asserted: the module that is not strapped PRIMARY becomes Watch (R380). -/
def State.actConflict (s : State) : State :=
  let s1 := s.setf TW_STAT TW_STAT_ACTIN
  if !s.flag TW_STAT TW_STAT_ACTOUT then s1
  else if s.primary then s1.event .actConflict 1
  else ((s1.advanceTo (s.tick + 4)).setRole 2 0).event .actConflict 0

/-- No heartbeat for 800 ticks: the keeper deasserts ACT_OUT (R381); at the boundary of HOFRAME that is one release, recorded as a
handover (R396). -/
def State.keeperExpiry (s : State) : State :=
  if s.flag TW_STAT TW_STAT_ACTOUT then
    let s1 := s.advanceTo (s.tw.hbSent + 800)
    if s1.flag TW_HO TW_HO_PEND && decide (s1.rd64N TW_HOFRAME ≤ s1.time.frameNum) then
      ((s1.clrf TW_HO TW_HO_PEND).twinRelease 1).resolve .hoframe 0 .ok
    else s1.twinRelease 3
  else s

/-- A heartbeat is sent every 400 ticks; it refreshes the keeper while the firmware refreshes the health word (R383, R390). -/
def State.heartbeat (s : State) : State :=
  if !s.paired || s.inDawn then s
  else
    let t := max s.tick (s.tw.hbSent + 400)
    if s.tw.unhealthy && s.yields TW_YIELD_YCWDT then s.advanceTo t
    else (s.advanceTo t).modTw fun x => { x with hbSent := t }

/-- No valid frame within HBTO (R389). -/
def State.tackLostRow (s : State) : State :=
  if !s.paired || s.flag TW_STAT TW_STAT_TACK_LOST then s
  else
    let s1 := ((s.advanceTo (s.tw.rx + s.get TW_CFG TW_CFG_HBTO)).setf TW_STAT TW_STAT_TACK_LOST).event .tackLost 0
    (s1.forEach (List.range 28) fun s a => s.discardStall a 28).twinOk

/-- A lane goes down or comes up. -/
def State.lane (s : State) (k : Nat) (up : Bool) : State :=
  (s.putB TW_STAT (if k = 0 then TW_STAT_LANE0 else TW_STAT_LANE1) up).twinOk

/-! ### Records (R386, R387) -/

/-- Comparisons of an LP's records are suspended while the two modules run different images on it. -/
def State.imgDiff (s : State) (k : Nat) : Bool :=
  match vget s.tw.crc k none with
  | some c => decide (c ≠ s.codeU32 k (s.flag (LP_STAT k) LP_STAT_BANK) 12)
  | none => false

/-- The torque reference or velocity command of a record against the module's own. -/
def State.ltol (s : State) (n : Nat) (own rec_ : Int) : State :=
  if s.imgDiff (s.lpOf n) then s
  else if s.rdI TW_LTOL < absI (own - rec_) then ((s.setf TW_STAT TW_STAT_LTOLERR).count TW_CNT0 TW_CNT0_LO).event .ltolErr n
  else s

/-- The check pass on a CUR record, and the loading of its states. -/
def State.curRecord (s : State) (a : Nat) (w : Vector Word 3) (udc theta we torque xd xq : Word) (cmp : Vector Word 3) : State :=
  let span := 32 * (s.cells a).1
  let wU : Rat := s.wr_ a * mkRat we.toInt (2 ^ 24)
  let c := s.cle a
  let W := 32 * s.winLen a
  let ts := c.e - W / 2
  let adv : Rat := wU * mkRat ((c.b : Int) + span / 2 - ts) 32
  let tho := ((theta.toNat : Int) + divOpen adv.num adv.den) % turn32
  let iu := s.sdConv a 0 w[0].toInt
  let iv := s.sdConv a 1 w[1].toInt
  let iw := if s.flag (SLOT_CFG a) SLOT_CFG_S2ROLE then s.sdConv a 2 w[2].toInt else sat32 (-(iu + iv))
  let k := s.bankOf a
  let win := s.cutIn a (c.e - W) c.e || s.clkGap a (c.e - W) c.e
  let ref := (s.rdI (BANK_IDREF a k), s.bankTerm a k BANK_KTI (BANK_SHA a k) BANK_SHA_KTI torque.toInt)
  let t := s.pipeline a iu iv iw udc.toInt theta.toNat tho we.toInt win ref (s.cleSpan a) s.tick
  let same := t.rd (SLOT_XD a) == xd && t.rd (SLOT_XQ a) == xq
    && ((t.pwm a).fly.map fun x => x.2.map (·.2)) == some cmp.toList
  let s1 := if same then s else ((s.setf TW_STAT TW_STAT_CMPERR).count TW_CNT0 TW_CNT0_HI).event .cmpErr a
  ((((s1.wr (SLOT_XD a) xd).wr (SLOT_XQ a) xq).wr (SLOT_UDCW a) udc).wr (SLOT_THS a) theta).wr (SLOT_WE a) we

def State.velStates (s : State) (n : Nat) (v : TackVel) : State :=
  let b := fun i => (vget v.bq i 0).toInt
  let t := fun i => (vget v.nt i 0).toInt
  s.modLoop n fun l =>
    { l with
      iV := v.iV.toInt, vHat := v.vHat.toInt, tL := v.tL.toInt, tPrev := v.tPrev.toInt, bq0 := ⟨b 0, b 1, b 2, b 3⟩, bq1 := ⟨b 4, b 5, b 6, b 7⟩
      nt0 := (t 0, t 1), nt1 := (t 2, t 3) }
def State.posStates (s : State) (n : Nat) (p : TackPos) : State :=
  let s1 := s.modLoop n fun l => { l with iP := p.iP.toInt, fD := p.f.toInt, ePrev := p.ePrev.toInt, c := p.c.toInt, aPrev := p.aPrev.toInt, first := false }
  let s2 := (((s1.wr64 (AX_SPPOS n) p.p).wr64 (AX_SPVEL n) p.v).wr64 (AX_SPACC n) p.a).wr64 (AX_PHOFS n) p.phase
  (s2.wr (AX_GREM n) p.rem).setBase n (p.p.toInt - p.phase.toInt) p.v.toInt p.a.toInt

/-! ### Frames (R382–R388) -/

/-- A heartbeat: the delay, the offset of the two clocks, and on the Watch the trim that removes it, whose law R384 does not give: an open value. -/
def State.hbReceive (s : State) (sent : Nat) (delay : Nat) (ready : Bool) (role st : Nat) : State :=
  let missed := (s.tick - s.tw.rx) / 400 - 1
  let s1 := if s.tw.rx = 0 then s else s.addCount TW_CNT2 TW_CNT2_HI missed
  let off : Int := (s.time.mt / 65536 : Nat) - (sent : Int) - (delay * 20480 : Nat)
  let s2 := ((s1.put TW_LAT TW_LAT_V delay).putB TW_STAT TW_STAT_PEER_READY ready).modTw fun t => { t with peer := st }
  let s3 := if s.isWatch then
      let lock := decide (absI off ≤ 65536)
      let (w, s3) := s2.freeWord
      let v := clampI (-10737418) 10737418 w.toInt
      (((s3.wrI TW_OFFS off).putB TW_STAT TW_STAT_LOCKED lock).wrI NT_TRIM v).setTrim v
    else s2
  -- a handover is cancelled when PEER_READY falls
  if !ready && s3.flag TW_HO TW_HO_PEND && role ≠ 1 then ((s3.clrf TW_HO TW_HO_PEND).setf TW_HO TW_HO_HOREF).resolve .hoframe 0 .horef else s3

/-- A frame arrives on the Tack line. -/
def State.tackReceive (s : State) (crcOk : Bool) (f : TackFrame) : State :=
  if !s.paired then s
  else if !crcOk then (s.count TW_CNT1 TW_CNT1_HI).modTw fun t => { t with bad := some s.tick }
  else
    let s1 : State := match f with
      | .hb sent delay ready role st => s.hbReceive sent.toNat delay.toNat ready role st
      | .cur a w udc th we T xd xq cmp => if s.isWatch then s.curRecord a w udc th we T xd xq cmp else s
      | .vel a v => if s.isWatch then (s.ltol a (s.loop a).tRef v.torque.toInt).velStates a v else s
      | .pos a p => if s.isWatch then (s.ltol a (s.loop a).vc p.vc.toInt).posStates a p else s
      | .net a p v =>
        if s.isWatch then ((s.ltol (32 + a) (s.loop (32 + a)).tRef v.torque.toInt).velStates (32 + a) v).posStates (32 + a) p else s
      | .regs l => if s.isWatch then l.foldl (fun s x => s.wr x.1.toNat x.2) s else s
      | .segs a l => if s.isWatch then s.modMo a fun m =>
          { m with segs := l.map fun (g : TackSeg) =>
              ⟨g.start.toNat, g.p0.toInt, g.v0.toInt, g.a0.toInt, g.j.toInt, g.dur.toNat, g.move.toNat, g.last⟩ } else s
      | .cam t per pts => if s.isWatch then
          { s with cams := ⟨t, per, pts.map fun (x : Word64 × Word64 × Word64) => (x.1.toInt, x.2.1.toInt, x.2.2.toInt)⟩ :: s.cams.filter fun c => c.table != t.val } else s
      | .token k => if s.isWatch then s.put (CTOK_CTRL k) CTOK_CTRL_STATE 1 else s
      | .state st => if s.isWatch then s.modTw fun t => { t with peer := st } else s
      | .stall b words =>
        let t := s.modStall 28 b fun x => { x with stg := wmWrite [] 0 (words.take 64), len := min 64 words.length }
        (t.post 28 b).2
      | .image k crc =>
        let t := s.modTw fun t => { t with crc := vmod t.crc k fun _ => some crc.toNat }
        t.putB TW_STAT TW_STAT_IMGDIFF ((List.range 16).any t.imgDiff)
      | .snapshotEnd => s.modTw fun t => { t with joined := some s.tick }
    (s1.modTw fun t => { t with rx := s.tick }).twinReady.twinOk

/-! ### Handover (R393) -/

/-- GO: armed, or refused with HOREF. -/
def State.handoverGo (s : State) : Bool × State :=
  if s.flag TW_STAT TW_STAT_PEER_READY && s.time.frameNum + 2 ≤ s.rd64N TW_HOFRAME && !s.flag TW_HO TW_HO_PEND then (true, s.setf TW_HO TW_HO_PEND)
  else (false, s.setf TW_HO TW_HO_HOREF)

/-- At the boundary of HOFRAME, after its actions, the Active releases ACT_OUT. -/
def State.handoverRelease (s : State) : State :=
  if s.flag TW_HO TW_HO_PEND && s.rd64N TW_HOFRAME ≤ s.time.frameNum then
    ((s.clrf TW_HO TW_HO_PEND).twinRelease 1).resolve .hoframe 0 .ok
  else s

def State.twClrFlags (s : State) : State := s.clrBits TW_STAT 0x000F8000
def State.twClrCnt (s : State) : State := ((s.wrN TW_CNT0 0).wrN TW_CNT1 0).wrN TW_CNT2 0
def State.rmClrCnt (s : State) : State := s.forEach (List.range 7) fun s i => s.wrN (RM_CNT0 + 4 * i) 0

/-- TWIN_START names the module Active or Watch in Morning. -/
def State.twinStart (s : State) (watch : Bool) : State :=
  let s1 := s.modTw fun t => { t with named := if watch then 2 else 1 }
  if watch then s1.setRole 2 0 else s1

end Sys2Proof.Machine
end

