-- ==== Sys2Proof/Machine/Io.lean ====
section
/-! DEFINITION. Field I/O, field supply groups and analogue inputs (R437–R453). -/

namespace Sys2Proof.Machine

def State.dio (s : State) (c : Nat) : DioSt := vget s.io.dios c {}
def State.modDio (s : State) (c : Nat) (f : DioSt → DioSt) : State := { s with io := { s.io with dios := vmod s.io.dios c f } }
def State.fg (s : State) (k : Nat) : FgSt := vget s.io.fgs k {}
def State.modFg (s : State) (k : Nat) (f : FgSt → FgSt) : State := { s with io := { s.io with fgs := vmod s.io.fgs k f } }
def State.modAi (s : State) (i : Nat) (f : AiSt → AiSt) : State := { s with io := { s.io with ais := vmod s.io.ais i f } }
/-- The state of a channel's group: 0 GOOD, 1 WARN, 2 LOW, 3 MISSING. -/
def State.fgState (s : State) (k : Nat) : Nat := s.get (FG_STAT k) FG_STAT_STATE
/-- The inputs of a group are valid, and its outputs not off by hardware. -/
def State.fgOk (s : State) (k : Nat) : Bool := s.fgState k ≤ 1
def State.isOutput (s : State) (c : Nat) : Bool := s.flag (DIO_CFG c) DIO_CFG_DIR

/-! ### Outputs (R440–R443) -/

/-- The channel that controls channel `c`: the lowest of its joined pair or quad (R440). -/
def State.dioLead (s : State) (c : Nat) : Nat :=
  if s.get (DIO_CFG (c / 4 * 4)) DIO_CFG_PAR = 2 then c / 4 * 4
  else if s.get (DIO_CFG (c / 2 * 2)) DIO_CFG_PAR = 1 then c / 2 * 2
  else c
/-- Whether the operating state and the role let channel `c` follow its command (R441). -/
def State.dioAllowed (s : State) (c : Nat) : Bool :=
  !s.inDawn && !s.isWatch && (!s.inNight || s.flag (DIO_CFG c) DIO_CFG_NIGHTON)
/-- The output's switch is to be on but for its own protection. -/
def State.dioDriven (s : State) (c : Nat) : Bool :=
  let l := s.dioLead c
  s.isOutput c && nbit (s.rdN DIOG_OUT) l && s.dioAllowed l && s.fgOk (c / 8) && !s.flag (FG_STAT (c / 8)) FG_STAT_HOLD
/-- ON of DIOc_ST. -/
def State.dioOn (s : State) (c : Nat) : Bool :=
  let d := s.dio (s.dioLead c)
  s.dioDriven c && d.off.isNone && decide (d.coolAt ≤ s.tick)
/-- DIOc_ST as it reads: ON, RAW of its own land, the flags of the channel that controls it. -/
def State.dioSt (s : State) (c : Nat) : Word :=
  let own := s.rdN (DIO_ST c)
  BitVec.ofNat 32 (own / 64 % 2 * 64 + 32 * b2n (s.dioOn c) + s.rdN (DIO_ST (s.dioLead c)) % 32)

/-- DIO_OUT takes a value; a bit written 0 ends the off-state that protection latched (R442). -/
def State.dioOut (s : State) (v : Nat) : State :=
  (s.wrN DIOG_OUT v).forEach (List.range 32) fun s c => if nbit v c then s else s.modDio c fun d => { d with off := none }
/-- The bits that DIO_OCLR has cleared in the present PCLK cycle (R450). -/
def State.dioCleared (s : State) : Nat := if s.io.clrAt = s.tick / 2 + 1 then s.io.clrBits else 0
/-- A write of DIO_OSET; a clear of the same PCLK cycle applies whatever order the two came in (R450). -/
def State.dioSet (s : State) (m : Nat) : State :=
  s.dioOut (s.rd DIOG_OUT ||| (BitVec.ofNat 32 m &&& ~~~BitVec.ofNat 32 s.dioCleared)).toNat
/-- A write of DIO_OCLR. -/
def State.dioClear (s : State) (m : Nat) : State :=
  let s1 := s.dioOut (s.rd DIOG_OUT &&& ~~~BitVec.ofNat 32 m).toNat
  { s1 with io := { s1.io with clrAt := s.tick / 2 + 1, clrBits := (BitVec.ofNat 32 m ||| BitVec.ofNat 32 s.dioCleared).toNat } }

/-- The protection switches an output off: its flag, and one event unless it was off already. -/
def State.dioFault (s : State) (c : Nat) (f : Fld) : State :=
  let l := s.dioLead c
  let s1 := s.setf (DIO_ST l) f
  if (s.dio l).off.isSome then s1
  else ((s1.modDio l fun d => { d with off := some s.tick }).event .outputFault l).group 5
/-- The current limit has acted for 100 µs. -/
def State.outputShort (s : State) (c : Nat) : State :=
  if s.dioOn c || (s.dio (s.dioLead c)).off = some s.tick then s.dioFault c DIO_ST_SCFLT else s
/-- The junction exceeds 150 °C; it is below 135 °C again at tick `cool`. -/
def State.outputHot (s : State) (c cool : Nat) : State :=
  if s.dioOn c || (s.dio (s.dioLead c)).off = some s.tick then
    (s.dioFault c DIO_ST_THFLT).modDio (s.dioLead c) fun d => { d with coolAt := cool }
  else s
/-- With AUTORST an output switched off retries 100 ms later, where it is commanded on and cool; else 100 ms later again. -/
def State.outputRetry (s : State) (c : Nat) : State :=
  let l := s.dioLead c
  match (s.dio l).off with
  | some t =>
    if !s.flag (DIO_CFG l) DIO_CFG_AUTORST then s
    else
      let s1 := s.advanceTo (t + 40000000)
      s1.modDio l fun d => { d with off := if nbit (s1.rdN DIOG_OUT) l && decide (d.coolAt ≤ s1.tick) then none else some s1.tick }
  | none => s
/-- A land has disagreed with its command for 1 ms (R443). -/
def State.readback (s : State) (c : Nat) (raw : Bool) : State :=
  let s1 := s.putB (DIO_ST c) DIO_ST_RAW raw
  let l := s.dioLead c
  if !s.isOutput c || !s.fgOk (c / 8) || decide (s.tick < (s.fg (c / 8)).rbFrom) then s1
  else if s.dioDriven c && !raw && !s.flag (DIO_ST l) DIO_ST_SCFLT && !s.flag (DIO_ST l) DIO_ST_THFLT then
    ((s1.setf (DIO_ST l) DIO_ST_RBERR).event .outputFault c 1).group 5
  else if !s.dioDriven c && raw then ((s1.setf (DIO_ST l) DIO_ST_RBHI).event .outputFault c 2).group 5
  else s1

/-! ### Inputs (R439) -/

/-- A filter accepts a new level: the stamp is the field tick of the raw sample that began it, FILT field ticks back for the
debounce filter, `back` for the counter. -/
def State.dioAccept (s : State) (c : Nat) (lvl : Bool) (back : Nat) : State :=
  if s.isOutput c || !s.fgOk (c / 8) || nbit (s.rdN DIOG_IN) c == lvl then s
  else
    let filt := s.get (DIO_CFG c) DIO_CFG_FILT
    let k := if filt = 0 then 0 else if s.flag (DIO_CFG c) DIO_CFG_FTYPE then back else filt
    ((s.wrN DIOG_IN (nsetBit (s.rdN DIOG_IN) c lvl)).putB (DIO_ST c) DIO_ST_RAW lvl).wrN (DIO_TS c) ((s.tick / 400 - k) * 400)

/-! ### Supply groups (R444–R446) -/

/-- A group changes state. -/
def State.fgEnter (s : State) (k st raw : Nat) : State :=
  let mask := 255 * 2 ^ (8 * k)
  let bits := fun (v new : Nat) => v - v / 2 ^ (8 * k) % 256 * 2 ^ (8 * k) + new * 2 ^ (8 * k)
  let inputs := ((List.range 8).map fun j => if s.isOutput (8 * k + j) then 0 else b2n (nbit raw j) * 2 ^ j).sum
  let s1 := ((s.put (FG_STAT k) FG_STAT_STATE st).event .groupState k (16 * s.fgState k + st : Nat)).group 5
  match st with
  | 0 =>
    let s2 := ((s1.wrN DIOG_VALID (bits (s.rdN DIOG_VALID) 255)).wrN DIOG_IN (bits (s.rdN DIOG_IN) inputs)).modFg k fun g => { g with rbFrom := s.tick + 4000000 }
    if s.flag (FG_CFG k) FG_CFG_AUTO || s.fgOk k then s2 else s2.setf (FG_STAT k) FG_STAT_HOLD
  | 1 => s1.count (FG_CNT k) FG_CNT_WARNS
  | _ => ((s1.count (FG_CNT k) FG_CNT_LOWS).clrBits DIOG_VALID (BitVec.ofNat 32 mask)).clrBits DIOG_IN (BitVec.ofNat 32 mask)

/-- The monitor's sample of FV24_k, every 4 000 ticks: `v` in 10 mV, and the levels at the group's lands. -/
def State.fgSample (s0 : State) (k v raw : Nat) : State :=
  let s1 := s0.advanceTo ((s0.tick + 3999) / 4000 * 4000)
  let s := (s1.put (FG_STAT k) FG_STAT_VOLT v).forEach (List.range 8) fun s j => s.putB (DIO_ST (8 * k + j)) DIO_ST_RAW (nbit raw j)
  let g := s.fg k
  let up := fun (n lim : Nat) => if v < lim then min 2 (n + 1) else 0
  let n1 := up g.n1 1920
  let n2 := up g.n2 1600
  let n3 := up g.n3 900
  let good := if v < 1920 then none else some (g.good.getD s.tick)
  let s2 := s.modFg k fun g => { g with n1 := n1, n2 := n2, n3 := n3, good := good }
  let st := s.fgState k
  let long := match good with
    | some t => decide (t + 4000000 ≤ s.tick)
    | none => false
  let next := if n3 = 2 then 3 else if n2 = 2 && (st ≤ 1 || 900 ≤ v) then 2 else if n1 = 2 && st = 0 then 1 else if long then 0 else st
  if next = st then s2 else s2.fgEnter k next raw

/-- REARM (R446): whether it is accepted. -/
def State.fgRearm (s : State) (k : Nat) : Bool × State :=
  if s.fgState k = 0 then (true, s.clrf (FG_STAT k) FG_STAT_HOLD) else (false, s.setf (FG_STAT k) FG_STAT_REARM_REFUSED)
def State.fgClrFlags (s : State) (k : Nat) : State :=
  (s.clrf (FG_STAT k) FG_STAT_REARM_REFUSED).forEach (List.range 8) fun s j => s.clrBits (DIO_ST (8 * k + j)) 0x1E
def State.fgClrCnt (s : State) (k : Nat) : State := s.wrN (FG_CNT k) 0

/-! ### Analogue inputs (R447–R449) -/

/-- One channel's sample at the present tick: its 16-bit code. -/
def State.aiSample (s : State) (i code : Nat) : State :=
  let a := s.ai i
  let range := s.get (AI_CFG i) AI_CFG_RANGE
  let c : Int := if range = 0 then (BitVec.ofNat 16 code).toInt else (code : Int)
  let atLim := if range = 0 then decide (32767 ≤ absI c) else code = 0 || code = 65535
  let ovn := s.get (AI_CFG i) AI_CFG_OVN
  let lim := if atLim then min 255 (a.lim + 1) else 0
  let good := if atLim then 0 else min 255 (a.good + 1)
  let over_ := decide (max 1 ovn ≤ lim)
  let bad := ovn ≠ 0 && (if a.bad then decide (good < ovn) else over_)
  let s1 := if over_ && !s.flag (AI_STAT i) AI_STAT_OVR then ((s.setf (AI_STAT i) AI_STAT_OVR).event .overrange i).group 5 else s
  let n := 2 ^ s.get (AI_CFG i) AI_CFG_AVG
  let sum := a.sum + c * (if range = 0 then 512 else 256)
  let first := if a.cnt = 0 then s.tick else a.first
  let ok := s.flag (AI_CFG i) AI_CFG_EN && !bad
  let keep := { a with lim := lim, good := good, bad := bad, sum := sum, cnt := a.cnt + 1, first := first }
  let shift := { keep with oldOk := a.ok, ok := ok, at_ := s.tick + 400, old := s.rd (AI_VAL i), oldStamp := s.rd (AI_STAMP i) }
  if n ≤ a.cnt + 1 then
    ((s1.wrI (AI_VAL i) (divConv sum n)).wrN (AI_STAMP i) ((first + s.tick) / 2 * 8)).modAi i fun _ => { shift with sum := 0, cnt := 0 }
  else s1.modAi i fun _ => shift

/-- All channels sample together at a multiple of 1 600 ticks. -/
def State.analogueSample (s : State) (codes : Vector (BitVec 16) 8) : State :=
  (s.advanceTo ((s.tick + 1599) / 1600 * 1600)).forEach (List.range 8) fun s i => s.aiSample i (vget codes i 0).toNat

/-- The shunt protection of a 0–20 mA input opens above 25 mA. -/
def State.shuntOpen (s : State) (i : Nat) : State :=
  if s.get (AI_CFG i) AI_CFG_RANGE = 1 && !s.flag (AI_STAT i) AI_STAT_SHOPEN then
    (((s.setf (AI_STAT i) AI_STAT_SHOPEN).modAi i fun a => { a with openAt := s.tick }).event .shunt i).group 5
  else s
/-- It reconnects 100 ms later. -/
def State.shuntReconnect (s : State) (i : Nat) : State :=
  if s.flag (AI_STAT i) AI_STAT_SHOPEN then (s.advanceTo ((s.ai i).openAt + 40000000)).clrf (AI_STAT i) AI_STAT_SHOPEN else s

end Sys2Proof.Machine
end

