-- ==== Sys2Proof/Machine/Can.lean ====
section
/-! DEFINITION. The CAN FD controllers (R454–R471). -/

namespace Sys2Proof.Machine

def State.can (s : State) (n : Nat) : CanSt := vget s.cans n {}
def State.modCan (s : State) (n : Nat) (f : CanSt → CanSt) : State := { s with cans := vmod s.cans n f }
/-- CANn_TICK at a tick (R460). -/
def canTick (t : Nat) : Nat := t / 5 % 2 ^ 32
def State.canBusOff (s : State) (n : Nat) : Bool := s.flag (CAN_STAT n) CAN_STAT_BUSOFF
/-- The CCLK cycle of the present tick. -/
def State.cclk (s : State) : Nat := s.tick / 5
/-- The controller takes part in bus traffic: not halted, not bus-off. -/
def State.canOn (s : State) (n : Nat) : Bool := !(s.can n).halted && !s.canBusOff n
/-- It may send: neither bus monitoring (the Watch always monitors) nor restricted operation. -/
def State.canSends (s : State) (n : Nat) : Bool :=
  s.canOn n && !s.isWatch && !s.flag (CAN_CTRL n) CAN_CTRL_BMON && !s.flag (CAN_CTRL n) CAN_CTRL_RESTR
/-- HALT of a written CANn_CTRL: a clear takes effect at once, and Dawn forces 1 (R466). -/
def State.canHaltWritten (s : State) (n : Nat) : State :=
  if s.inDawn then s.setf (CAN_CTRL n) CAN_CTRL_HALT
  else if s.flag (CAN_CTRL n) CAN_CTRL_HALT then s else s.modCan n fun c => { c with halted := false }
/-- A set HALT takes effect at the end of a frame in progress or at bus idle. -/
def State.canHalt (s : State) (n : Nat) : State :=
  if s.flag (CAN_CTRL n) CAN_CTRL_HALT then s.modCan n fun c => { c with halted := true } else s

/-! ### Reception (R457–R460) -/

/-- Bytes that a DLC stands for. -/
def canLen (fdf : Bool) (dlc : Nat) : Nat :=
  if dlc ≤ 8 then dlc
  else if !fdf then 8
  else match dlc with
    | 9 => 12 | 10 => 16 | 11 => 20 | 12 => 24 | 13 => 32 | 14 => 48 | _ => 64
/-- The header words of a frame. -/
def canW0 (f : CanFrame) : Nat := b2n f.ide * 2 ^ 31 + b2n f.rtr * 2 ^ 30 + f.id.toNat
def canW1 (f : CanFrame) : Nat := b2n f.fdf * 2 ^ 31 + b2n f.brs * 2 ^ 30 + b2n f.esi * 2 ^ 29 + f.dlc.val
/-- The 16 data words, bytes beyond the DLC written 0. -/
def canData (f : CanFrame) : List Word :=
  let k := if f.rtr && !f.fdf then 0 else canLen f.fdf f.dlc
  wordsOf ((List.range 64).map fun i => if i < k then f.data.getD i 0 else 0)
/-- Header, stamp and data go into the entry at address `a`. -/
def State.canStore (s : State) (a : Nat) (f : CanFrame) (ts : Nat) : State :=
  let s1 := ((s.wrN a (canW0 f)).wrN (a + 4) (canW1 f)).wrN (a + 8) ts
  ((canData f).zipIdx).foldl (fun s x => s.wr (a + 0x20 + 4 * x.2) x.1) s1

/-- A receive buffer takes the frame: FRESH, and OVERWR where the frame before was not read (R458). -/
def State.canBuffer (s : State) (n k : Nat) (f : CanFrame) (ts : Nat) : State :=
  let s1 := if s.flag (CANBUF_FLAGS n k) CANBUF_FLAGS_FRESH then s.setf (CANBUF_FLAGS n k) CANBUF_FLAGS_OVERWR else s
  ((s1.canStore (CANBUF_W0 n k) f ts).setf (CANBUF_FLAGS n k) CANBUF_FLAGS_FRESH).modCan n fun c => { c with stored := some (s.cclk, k) }
/-- The registers of FIFO `j`. -/
def canFifo (n j : Nat) : Nat := if j = 0 then CAN_FIFO0 n else CAN_FIFO1 n
def canEntry (n j e : Nat) : Nat := if j = 0 then CANF0_W0 n e else CANF1_W0 n e
/-- A FIFO takes the frame behind the last one filled; a full one discards it, or with KEEPNEW its oldest (R459). -/
def State.canFifoIn (s : State) (n j : Nat) (f : CanFrame) (ts : Nat) : State :=
  let a := canFifo n j
  let rd := s.get a CAN_FIFO0_RDIX
  let lv := s.get a CAN_FIFO0_LEVEL
  let s0 := s.modCan n fun c => { c with fifoIn := some ⟨s.cclk, j, lv, rd, s.get a CAN_FIFO0_LOST, f, ts⟩ }
  if lv < 32 then (s0.canStore (canEntry n j ((rd + lv) % 32)) f ts).put a CAN_FIFO0_LEVEL (lv + 1)
  else
    let s1 := s0.count a CAN_FIFO0_LOST
    if s.flag a CAN_FIFO0_KEEPNEW then (s1.canStore (canEntry n j rd) f ts).put a CAN_FIFO0_RDIX (rd + 1) else s1
/-- RELEASE frees the entry at RDIX. -/
def State.fifoFree (s : State) (n j : Nat) : State :=
  let a := canFifo n j
  let lv := s.get a CAN_FIFO0_LEVEL
  if lv = 0 then s else (s.put a CAN_FIFO0_LEVEL (lv - 1)).put a CAN_FIFO0_RDIX (s.get a CAN_FIFO0_RDIX + 1)
/-- A write of RELEASE.  In the CCLK cycle of a store it applies before the store (R467): an entry stored into an empty FIFO
stays, and the frame that met a full FIFO has the entry freed, without a loss. -/
def State.fifoRelease (s : State) (n j : Nat) : State :=
  let a := canFifo n j
  match (s.can n).fifoIn with
  | some i =>
    if i.cyc ≠ s.cclk || i.fifo ≠ j then s.fifoFree n j
    else if i.level = 0 then s
    else if i.level < 32 then s.fifoFree n j
    else
      let s1 := (s.canStore (canEntry n j i.rdix) i.frame i.ts).put a CAN_FIFO0_RDIX (i.rdix + 1)
      (s1.put a CAN_FIFO0_LOST i.lost).modCan n fun c => { c with fifoIn := none }
  | none => s.fifoFree n j

def idMatch (id ref mask : Nat) : Bool := (BitVec.ofNat 29 id ^^^ BitVec.ofNat 29 ref) &&& BitVec.ofNat 29 mask == 0
/-- The receive buffer whose ID and MASK match. -/
def State.canBufMatch (s : State) (n : Nat) (f : CanFrame) (k : Nat) : Bool :=
  !nbit (s.rd64N (CAN_BDIR n)) k
    && idMatch f.id.toNat (s.get (CANBUF_W0 n k) CANBUF_W0_ID) (s.get (CANBUF_MASKW n k) CANBUF_MASKW_MASK)
    && (!s.flag (CANBUF_MASKW n k) CANBUF_MASKW_MIDE || s.flag (CANBUF_W0 n k) CANBUF_W0_IDE == f.ide)
def State.canFltMatch (s : State) (n : Nat) (f : CanFrame) (i : Nat) : Bool :=
  s.get (CANFLT_FLT n i) CANFLT_FLT_TGT ≠ 0 && s.flag (CANFLT_FLT n i) CANFLT_FLT_IDE == f.ide
    && idMatch f.id.toNat (s.get (CANFLT_FLT n i) CANFLT_FLT_ID) (s.get (CANFLT_FMSK n i) CANFLT_FMSK_MASK)

/-! ### Error counters (R462) -/

/-- TEC and REC take values; WARNING and PASSIVE follow. -/
def State.canErrc (s : State) (n tec rec_ : Nat) : State :=
  let hi := max (min 256 tec) (min 255 rec_)
  let s1 := (s.put (CAN_ERRC n) CAN_ERRC_TEC (min 256 tec)).put (CAN_ERRC n) CAN_ERRC_REC (min 255 rec_)
  (s1.putB (CAN_STAT n) CAN_STAT_WARNING (96 ≤ hi)).putB (CAN_STAT n) CAN_STAT_PASSIVE (128 ≤ hi)
def State.canTec (s : State) (n : Nat) : Nat := s.get (CAN_ERRC n) CAN_ERRC_TEC
def State.canRec (s : State) (n : Nat) : Nat := s.get (CAN_ERRC n) CAN_ERRC_REC
/-- A frame has been received: REC falls by one; from the error-passive range it goes to a value from 119 to 127 that ISO
11898-1 leaves open. -/
def State.canRecDown (s : State) (n : Nat) : State :=
  let r := s.canRec n
  if r = 0 then s
  else if r ≤ 127 then s.canErrc n (s.canTec n) (r - 1)
  else
    let (w, s1) := s.freeWord
    s1.canErrc n (s.canTec n) (119 + w.toNat % 9)

/-- A frame is received without error, its start-of-frame sample `back` CCLK cycles ago. -/
def State.canReceive (s : State) (n : Nat) (f : CanFrame) (back : Nat) : State :=
  if !s.canOn n || (f.fdf && !s.flag (CAN_CTRL n) CAN_CTRL_FDEN) then s
  else
    let ts := (canTick s.tick + 2 ^ 32 - back) % 2 ^ 32
    let s1 := s.canRecDown n
    if nbit (s.rdN SYS_HAMODE) 2 then s1.canFifoIn n 0 f ts
    else match (List.range 64).find? (s.canBufMatch n f) with
      | some k => s1.canBuffer n k f ts
      | none => match (List.range 32).find? (s.canFltMatch n f) with
        | some i => match s.get (CANFLT_FLT n i) CANFLT_FLT_TGT with
          | 1 => s1.canFifoIn n 0 f ts
          | 2 => s1.canFifoIn n 1 f ts
          | _ => s1
        | none => s1.count (CAN_NOMATCH n) ⟨0, 32⟩

/-- A write of 1 to FRESH of a buffer; in the CCLK cycle of a store FRESH stays set (R467). -/
def State.freshClear (s : State) (n k : Nat) : State :=
  if (s.can n).stored = some (s.cclk, k) then s else s.clrf (CANBUF_FLAGS n k) CANBUF_FLAGS_FRESH
/-- CANn_FRESH as it reads. -/
def State.canFresh (s : State) (n : Nat) : Nat :=
  ((List.range 64).map fun k => s.get (CANBUF_FLAGS n k) CANBUF_FLAGS_FRESH * 2 ^ k).sum

/-! ### Transmission (R461) -/

def State.canPending (s : State) (n k : Nat) : Bool := nbit (s.rd64N (CAN_TXGO n)) k
/-- The buffers withdrawn in the present CCLK cycle: a request of the same cycle sends nothing (R467). -/
def State.canWd (s : State) (n k : Nat) : Bool := (s.can n).wdAt == s.cclk + 1 && nbit (s.can n).wdBits k
/-- Requests of transmit buffers. -/
def State.canRequest (s : State) (n m : Nat) : State :=
  (idxWhere 64 fun k => nbit m k && nbit (s.rd64N (CAN_BDIR n)) k && !s.canPending n k).foldl (fun s k =>
    ((s.wr64N (CAN_TXGO n) (nsetBit (s.rd64N (CAN_TXGO n)) k true)).put (CANBUF_FLAGS n k) CANBUF_FLAGS_CLASHES 0).modCan n fun c =>
      { c with req := vmod c.req k fun _ => s.tick, clashed := c.clashed.filter (· ≠ k) }) s
/-- The request of a buffer ends. -/
def State.canCancel (s : State) (n k : Nat) : State := s.wr64N (CAN_TXGO n) (nsetBit (s.rd64N (CAN_TXGO n)) k false)
/-- Requests are withdrawn; a frame already on the bus goes on. -/
def State.canTxwd (s : State) (n m : Nat) : State :=
  let s1 := s.modCan n fun c =>
    { c with wdAt := s.cclk + 1, wdBits := if c.wdAt = s.cclk + 1 then (BitVec.ofNat 64 c.wdBits ||| BitVec.ofNat 64 m).toNat else m }
  (idxWhere 64 fun k => nbit m k && s.canPending n k).foldl (fun s k =>
    (s.canCancel n k).modCan n fun c =>
      let older := c.withdrawn.filter fun x => x.1 ≠ k
      { c with withdrawn := if vget c.req k 0 / 5 = s.cclk then older else (k, vget c.req k 0, s.tick) :: older }) s1
/-- The arbitration field of a buffer as a number: the lower goes first. -/
def State.canKey (s : State) (n k : Nat) : Nat :=
  let id := s.get (CANBUF_W0 n k) CANBUF_W0_ID
  let rtr := s.flag (CANBUF_W0 n k) CANBUF_W0_RTR && !s.flag (CANBUF_W1 n k) CANBUF_W1_FDF
  if s.flag (CANBUF_W0 n k) CANBUF_W0_IDE then id / 2 ^ 18 * 2 ^ 21 + 3 * 2 ^ 19 + id % 2 ^ 18 * 2 + b2n rtr
  else id / 2 ^ 18 * 2 ^ 21 + b2n rtr * 2 ^ 20
/-- The buffer of a list that comes first in priority order. -/
def State.canFirst (s : State) (n : Nat) (l : List Nat) : Option Nat :=
  l.foldl (fun b k => match b with
    | none => some k
    | some j => if s.canKey n k < s.canKey n j || (s.canKey n k = s.canKey n j && k < j) then some k else some j) none
/-- The buffer on the bus since tick `t`: the first of those whose request stood then, and whether it has been withdrawn
since. -/
def State.canSending (s : State) (n t : Nat) : Option (Nat × Bool) :=
  let c := s.can n
  let live := idxWhere 64 fun k => s.canPending n k && decide (vget c.req k 0 ≤ t)
  let gone := (c.withdrawn.filter fun x => x.2.1 ≤ t && t < x.2.2 && !live.contains x.1).map (·.1)
  (s.canFirst n (live ++ gone)).map fun k => (k, gone.contains k)
/-- The loop delay measured in a frame with bit-rate switch (R456); none: no edge returned. -/
def State.canSspd (s : State) (n k : Nat) (d : Option Nat) : State :=
  if s.flag (CAN_CTRL n) CAN_CTRL_SSPEN && s.flag (CAN_CTRL n) CAN_CTRL_FDEN && s.flag (CAN_CTRL n) CAN_CTRL_BRSEN
      && s.flag (CANBUF_W1 n k) CANBUF_W1_FDF && s.flag (CANBUF_W1 n k) CANBUF_W1_BRS then
    match d with
    | some v => s.put (CAN_SSP n) CAN_SSP_SSPD v
    | none => s.setf (CAN_STAT n) CAN_STAT_SSPFAIL
  else s

/-- The frame that started `back` CCLK cycles ago has been sent. -/
def State.canTxDone (s : State) (n back : Nat) (d : Option Nat) : State :=
  if !s.canSends n then s
  else match s.canSending n (s.tick - 5 * back) with
    | none => s
    | some (k, gone) =>
      let s1 := if gone then s.modCan n fun c => { c with withdrawn := c.withdrawn.filter fun x => x.1 ≠ k } else s.canCancel n k
      let s2 := (s1.wr64N (CAN_TXOK n) (nsetBit (s.rd64N (CAN_TXOK n)) k true)).wrN (CANBUF_TS n k) ((canTick s.tick + 2 ^ 32 - back) % 2 ^ 32)
      let s3 := ((s2.put (CANBUF_FLAGS n k) CANBUF_FLAGS_CLASHES 0).modCan n fun c => { c with clashed := c.clashed.filter (· ≠ k) }).canSspd n k d
      (s3.canErrc n (s.canTec n - 1) (s.canRec n)).resolve .canTx (64 * n + k) .ok

/-- The urgent requests of a bus-off controller go to free slots of ALT, in priority order (R464). -/
def State.canMove (s : State) (n : Nat) : Nat → State
  | 0 => s
  | fuel + 1 =>
    let alt := s.get (CAN_URG n) CAN_URG_ALT
    let base := s.get (CAN_URG n) CAN_URG_DIVBASE
    match s.canFirst n (idxWhere 64 fun k => s.canPending n k && s.flag (CANBUF_W1 n k) CANBUF_W1_URG) with
    | none => s
    | some k =>
      let slot := ((List.range 8).map (base + ·)).find? fun j => nbit (s.rd64N (CAN_BDIR alt)) j && !s.canPending alt j
      match slot, s.canBusOff alt || s.flag (CAN_CTRL alt) CAN_CTRL_HALT with
      | some j, false =>
        let s1 := (s.wr (CANBUF_W0 alt j) (s.rd (CANBUF_W0 n k))).wr (CANBUF_W1 alt j) (s.rd (CANBUF_W1 n k))
        let s2 := s1.forEach (List.range 16) fun s i => s.wr (CANBUF_DATA alt j i) (s.rd (CANBUF_DATA n k i))
        let s3 := (s2.canCancel n k).setf (CANBUF_FLAGS n k) CANBUF_FLAGS_DIVERTED
        let s4 := s3.modCan n fun c => { c with div := c.div.map fun d =>
          { d with sent := (k, j, s.flag (CANBUF_FLAGS n k) CANBUF_FLAGS_DIVERTED) :: d.sent } }
        (s4.canRequest alt (2 ^ j)).canMove n fuel
      | _, _ => s.setf (CAN_STAT n) CAN_STAT_DIVFULL

/-- The divert of controller `n`, where it has one. -/
def State.canDivertOwn (s : State) (n : Nat) : State :=
  if !s.flag (CAN_URG n) CAN_URG_DIVEN || s.get (CAN_URG n) CAN_URG_ALT = n then s
  else
    let d := match (s.can n).div with
      | some d => if d.cyc = s.cclk then d else ⟨s.cclk, s.flag (CAN_STAT n) CAN_STAT_DIVFULL, []⟩
      | none => ⟨s.cclk, s.flag (CAN_STAT n) CAN_STAT_DIVFULL, []⟩
    (s.modCan n fun c => { c with div := some d }).canMove n 65
/-- The divert that controller `n` made in the present CCLK cycle is taken back. -/
def State.canUndo (s : State) (n : Nat) : State :=
  match (s.can n).div with
  | none => s
  | some d =>
    let alt := s.get (CAN_URG n) CAN_URG_ALT
    let s1 := d.sent.foldl (fun s x =>
      let s1 := (s.canCancel alt x.2.1).wr64N (CAN_TXGO n) (nsetBit (s.rd64N (CAN_TXGO n)) x.1 true)
      s1.putB (CANBUF_FLAGS n x.1) CANBUF_FLAGS_DIVERTED x.2.2) s
    (s1.putB (CAN_STAT n) CAN_STAT_DIVFULL d.full).modCan n fun c => { c with div := none }
/-- The divert of controller `n`; of controllers that divert in one CCLK cycle the lower-numbered fills its slots first (R467). -/
def State.canDivert (s : State) (n : Nat) : State :=
  let later := (List.range 4).filter fun m => decide (n < m) && (match (s.can m).div with
    | some d => d.cyc == s.cclk
    | none => false)
  later.foldl (fun s m => s.canDivertOwn m) ((later.reverse.foldl (fun s m => s.canUndo m) s).canDivertOwn n)
/-- A write of CANn_TXGO; in the CCLK cycle of a bus-off entry a new urgent request is diverted too (R467). -/
def State.canTxgo (s : State) (n m : Nat) : State :=
  let s1 := s.canRequest n (m - ((List.range 64).map fun k => if nbit m k && s.canWd n k then 2 ^ k else 0).sum)
  match (s.can n).div with
  | some d => if d.cyc = s.cclk && s.canBusOff n then s1.canDivert n else s1
  | none => s1

/-- TEC has passed 255: bus-off (R463). -/
def State.canGoBusOff (s : State) (n : Nat) : State :=
  let s1 := (((s.setf (CAN_STAT n) CAN_STAT_BUSOFF).count (CAN_CNT n) CAN_CNT_BUSOFFS).modCan n fun c =>
    { c with recov := s.flag (CAN_CTRL n) CAN_CTRL_AUTOREC }).event .busOff n |>.group 5
  s1.canDivert n
/-- RECOVER, in bus-off only. -/
def State.canRecover (s : State) (n : Nat) : State := if s.canBusOff n then s.modCan n fun c => { c with recov := true } else s
/-- 128 occurrences of 11 recessive bits have passed. -/
def State.canRecovered (s : State) (n : Nat) : State :=
  if s.canBusOff n && (s.can n).recov then ((s.canErrc n 0 0).clrf (CAN_STAT n) CAN_STAT_BUSOFF).modCan n fun c => { c with recov := false } else s

/-- LASTERR or DLASTERR. -/
def State.canLastErr (s : State) (n code : Nat) (dataPhase : Bool) : State :=
  s.put (CAN_STAT n) (if dataPhase then CAN_STAT_DLASTERR else CAN_STAT_LASTERR) code
/-- A clash of buffer `k` (R465). -/
def State.canClash (s : State) (n k : Nat) : State :=
  let again := (s.can n).clashed.contains k
  let c := if again then min 15 (s.get (CANBUF_FLAGS n k) CANBUF_FLAGS_CLASHES + 1) else 1
  let s1 := (s.put (CANBUF_FLAGS n k) CANBUF_FLAGS_CLASHES c).modCan n fun x => { x with clashed := k :: x.clashed.filter (· ≠ k) }
  let w0 := s.rdN (CANBUF_W0 n k)
  let s2 := if again then
      (((s1.count (CAN_CNT n) CAN_CNT_IDCLASH).wrN (CAN_CLASH n) (w0 / 2 ^ 31 * 2 ^ 31 + w0 % 2 ^ 29)).setf (CAN_STAT n) CAN_STAT_CLASH).event .idClash n
        (w0 % 2 ^ 29) |>.group 5
    else s1
  let lim := s.get (CAN_URG n) CAN_URG_CLASHLIM
  if lim ≠ 0 && c = lim && s.canPending n k then (s2.canCancel n k).setf (CANBUF_FLAGS n k) CANBUF_FLAGS_TXABORT else s2

/-- The frame that started `back` CCLK cycles ago lost arbitration (code 0), or met the error `code` in the data phase or not;
`late`: after it had won arbitration, in the control, data or CRC field.  `exc`: one of the two exceptions of ISO 11898-1
holds, in which TEC stays (an acknowledgement error without a dominant bit in the passive error flag; a stuff error in
arbitration on a recessive stuff bit).  `more`: further steps of 8 for dominant bits after the error flag. -/
def State.canTxError (s : State) (n back code : Nat) (dataPhase late exc : Bool) (more : Nat) : State :=
  if !s.canSends n then s
  else match s.canSending n (s.tick - 5 * back) with
    | none => s
    | some (k, gone) =>
      let s1 := if gone then s.modCan n fun c => { c with withdrawn := c.withdrawn.filter fun x => x.1 ≠ k }
        else if s.flag (CAN_CTRL n) CAN_CTRL_ONESHOT then s.canCancel n k else s
      if code = 0 then s1.modCan n fun c => { c with clashed := c.clashed.filter (· ≠ k) }
      else
        let keep := exc && ((code = 6 && s.flag (CAN_STAT n) CAN_STAT_PASSIVE) || (code = 3 && !late))
        let tec := s.canTec n + (if keep then 0 else 8) + 8 * more
        let s2 := (s1.canLastErr n code dataPhase).canErrc n tec (s.canRec n)
        let s3 := if late && (code = 1 || code = 2) then s2.canClash n k else s2.modCan n fun c => { c with clashed := c.clashed.filter (· ≠ k) }
        if 255 < tec then s3.canGoBusOff n else s3

/-- A frame being received meets an error: REC rises by 1, and by 8 for each of `more`: a dominant bit first after the error
flag, a bit error in an error or overload flag, further dominant bits. -/
def State.canRxError (s : State) (n code : Nat) (dataPhase : Bool) (more : Nat) : State :=
  if !s.canOn n then s else (s.canLastErr n code dataPhase).canErrc n (s.canTec n) (s.canRec n + 1 + 8 * more)

/-- A write of a bit timing register that R455 refuses. -/
def canTimingBad (data : Bool) (v : Nat) : Bool :=
  if data then decide (nbits v 27 24 < nbits v 31 28 ∨ (nbits v 4 0 + 1) * (3 + nbits v 20 16 + nbits v 27 24) < 10)
  else decide (nbits v 14 8 < nbits v 6 0 ∨ nbits v 23 16 = 0 ∨ nbits v 14 8 = 0 ∨ (nbits v 31 24 + 1) * (3 + nbits v 23 16 + nbits v 14 8) < 80)

end Sys2Proof.Machine
end

