-- ==== Sys2Proof/Machine/Capture.lean ====
section
/-! DEFINITION. Capture units and the Hayloft (R546–R565). -/

namespace Sys2Proof.Machine

def State.cu (s : State) (u : Nat) : CapSt := vget s.acq.units u {}
def State.modAcq (s : State) (f : AcqSt → AcqSt) : State := { s with acq := f s.acq }
def State.modCu (s : State) (u : Nat) (f : CapSt → CapSt) : State := s.modAcq fun a => { a with units := vmod a.units u f }
def State.cuPhase (s : State) (u : Nat) : Nat := s.get (CU_STAT u) CU_STAT_PHASE

/-! ### The signal catalogue (R547) -/

/-- EPn_TURN: the count since the reference in one turn; 0 without REFD or CPR. -/
def State.epTurn (s : State) (p : Nat) : Nat :=
  let cpr := s.rdN (EP_CPR p)
  if cpr = 0 || !s.flag (EP_STAT p) EP_STAT_REFD then 0 else (((s.port p).count - (s.port p).rRef) % cpr).toNat
def lo32 (x : Int) : Nat := (x % 2 ^ 32).toNat
def hi32 (x : Int) : Nat := (x / 2 ^ 32 % 2 ^ 32).toNat
/-- The law outputs of an axis in the catalogue's order, fields 0 to 14 and 17. -/
def State.axisOuts (s : State) (n : Nat) : List Int :=
  let l := s.loop n
  let sp := s.rd64I (AX_SPPOS n)
  let pa := if n < 64 then l.pAct else sp
  let ff := 24 - s.aget (AXL_LCFG n) AXL_LCFG_FFSH
  [lo32 sp, hi32 sp, lo32 pa, hi32 pa, sat32 (shrConv (s.rd64I (AX_SPVEL n)) ff), l.ePrev, l.vc, l.vM, l.tRef, l.tRep, l.vHat, l.tL, l.iP, l.iV,
    s.injValue n (s.get (LPINJ_CFG (s.lpOf n)) LPINJ_CFG_POINT), l.c]
/-- Those present before the tick of an instant. -/
def State.axisSig (s : State) (n f t32 : Nat) : Nat :=
  let l := s.loop n
  if f = 15 then s.rdN (AX_STAT n)
  else if f = 16 then (if n < 64 then s.rdN (AXL_LSTAT n) else 0)
  else
    let outs := if l.outsAt < t32 / 32 || l.outs.isEmpty then s.axisOuts n else l.outs
    lo32 (outs.getD (if f = 17 then 15 else f) 0)
/-- A digital land of group 0x0, as its level: for a gate the level that POL makes of it, for a compare output the one that IDLE makes of it (DEDUCED: the group is
named digital lands); `ext`: the levels at SAFE_RESET and PPS_IN. -/
def State.landSig (s : State) (i : Nat) (ext : Bool × Bool) : Bool :=
  if i < 192 then
    s.gateLand (i / 6) (i % 6 / 2) (i % 2 == 0)
  else if i < 208 then
    s.auxLand ((i - 192) / 2) (i % 2 == 0)
  else if i < 244 then (vget s.trips (i - 208) {}).level
  else if i < 276 then (s.latch (i - 244)).pair.rx
  else if i < 292 then s.coActive (i - 276) != s.flag (CO_CFG (i - 276)) CO_CFG_IDLE
  else if i < 324 then s.stoLine 0 (i - 292)
  else if i < 356 then s.stoLine 1 (i - 324)
  else if i < 388 then s.flag (DIO_ST (i - 356)) DIO_ST_RAW
  else match i with
    | 388 => ext.1
    | 389 => ext.2
    | 390 => s.nw.ptp.ppsOn
    | 391 => s.flag TW_STAT TW_STAT_ACTIN
    | 392 => s.flag TW_STAT TW_STAT_ACTOUT
    | _ => false
/-- The CLE slot signals of group 0x3. -/
def State.cleSig (s : State) (n f : Nat) : Nat :=
  let cur := fun i => s.sdConv n i (s.sd (3 * n + i)).word
  match f with
  | 0 => lo32 (cur 0)
  | 1 => lo32 (cur 1)
  | 2 => lo32 (if s.flag (SLOT_CFG n) SLOT_CFG_S2ROLE then cur 2 else sat32 (-(cur 0 + cur 1)))
  | 3 => s.rdN (SLOT_ID n)
  | 4 => s.rdN (SLOT_IQ n)
  | 5 => s.rdN (SLOT_VD n)
  | 6 => s.rdN (SLOT_VQ n)
  | 7 => s.rdN (SLOT_UDCW n)
  | 8 => s.rdN (SLOT_THS n)
  | 9 => s.rdN (SLOT_WE n)
  | 10 => s.rdN (SLOT_XD n)
  | 11 => s.rdN (SLOT_XQ n)
  | 15 => s.rdN (SLOT_STAT n)
  | _ => (s.flyTo n).rdN (s.cmpReg n (f - 12))
/-- The 32-bit word of signal `sig` at the instant `t32`. -/
def State.sigWord (s : State) (sig t32 : Nat) (ext : Bool × Bool) : Nat :=
  let i := sig % 4096
  let n := i / 16
  let f := i % 16
  match sig / 4096 with
  | 0 => b2n (s.landSig i ext)
  | 1 =>
    if 40 ≤ n then 0
    else match f with
      | 0 => (s.rd (EP_POS n)).toNat
      | 1 => (s.rd (EP_POS n + 4)).toNat
      | 2 => s.rdN (EP_SPEED n)
      | 3 => s.rdN (EP_EDGES n)
      | 4 => s.rdN (EP_STAT n)
      | 5 => s.rdN (EP_LINE n)
      | 6 => s.epTurn n
      | _ => 0
  | 2 => if i < 2560 && i % 32 < 18 then s.axisSig (i / 32) (i % 32) t32 else 0
  | 3 => if n < 32 then s.cleSig n f else 0
  | 4 => if i < 96 then s.rdN (SD_WORD i) else if i < 192 then lo32 (s.sd (i - 96)).w2 else 0
  | 5 =>
    if i < 16 then b2n (vget s.atcs i {}).closeAt.isSome
    else if i < 48 then b2n (s.flag (PWM_STAT (i - 16)) PWM_STAT_CUT)
    else if i < 80 then b2n (vget s.trips (i - 48) {}).det
    else 0
  | 6 => if i < 8 then (s.aiVal i (t32 / 32 - 1)).toNat else 0
  | 7 => match i with
    | 0 => nsOf (s.mtAt t32)
    | 1 => t32 / 32 % 2 ^ 32
    | 2 => s.rdN TB_PHERR
    | 3 => s.rdN NT_TRIM
    | _ => 0
  | 8 => match (if i < 8 then vget s.groom.svc i none else none) with
    | some w => if w.tap then 2 ^ 31 + w.handler * 65536 + w.flow else 0
    | none => 0
  | _ => 0

/-! ### Regions, rows, arming (R551–R553) -/

def State.cuFast (s : State) (u : Nat) : Bool := s.flag (CU_CFG u) CU_CFG_FAST
def State.cuNch (s : State) (u : Nat) : Nat := s.get (CU_CFG u) CU_CFG_NCH
def State.cuMem (s : State) (u : Nat) : Bool := s.flag (CU_CFG u) CU_CFG_MEM
def State.cuSegs (s : State) (u : Nat) : Nat := s.get (CU_CFG u) CU_CFG_SEGS + 1
def State.rowWords (s : State) (u : Nat) : Nat := if s.cuFast u then 1 else s.cuNch u + 1
/-- Words of a block. -/
def State.blockWords (s : State) (u : Nat) : Nat := if s.cuMem u then 262144 else 1024
/-- D, the rows of a segment. -/
def State.cuDepth (s : State) (u : Nat) : Nat := s.get (CU_MEM u) CU_MEM_SIZE * s.blockWords u / s.cuSegs u / max 1 (s.rowWords u)
/-- The word address of row `k` of segment `g` in the unit's memory. -/
def State.rowAt (s : State) (u g k : Nat) : Nat :=
  let d := s.cuDepth u
  (if s.cuMem u then 0x20000000 else 0) + s.get (CU_MEM u) CU_MEM_BASE * s.blockWords u + (g * d + k % max 1 d) * s.rowWords u
def State.capWord (s : State) (u i : Nat) : Word := wmGet (if s.cuMem u then s.mem.dram else s.mem.hay) i
def State.writeRow (s : State) (u a : Nat) (ws : List Word) : State :=
  if s.cuMem u then { s with mem := { s.mem with dram := wmWrite s.mem.dram a ws } } else { s with mem := { s.mem with hay := wmWrite s.mem.hay a ws } }
/-- POST as used: at most D − 1. -/
def State.cuPost (s : State) (u : Nat) : Nat := min (s.rdN (CU_POST u)) (s.cuDepth u - 1)

/-- Ticks between the samples of a unit. -/
def State.cuPeriod (s : State) (u : Nat) : Nat :=
  let a := s.get (CU_TICK u) CU_TICK_AXIS
  let p := match s.get (CU_TICK u) CU_TICK_TSRC with
    | 1 => s.perCur a
    | 2 => s.perVel a
    | 3 => s.perPos a
    | 4 => s.frameLen
    | _ => if a < 32 then s.aget (PWM_PER a) PWM_PER_PER else s.ardN (PWMX_PER (a - 32))
  p * (s.get (CU_TICK u) CU_TICK_DIV + 1)
/-- The axis has boundaries of the source. -/
def State.cuSourceOk (s : State) (u : Nat) : Bool :=
  let a := s.get (CU_TICK u) CU_TICK_AXIS
  match s.get (CU_TICK u) CU_TICK_TSRC with
  | 0 => s.cuFast u
  | 1 => decide (a < 32) && s.gridOk a
  | 2 => decide (a < 64) && s.gridOk a
  | 3 => decide (a < 80) && s.gridOk a
  | 4 => true
  | 5 => decide (a < 40) && s.cuPeriod u ≠ 0
  | _ => false
def State.cuOverlap (s : State) (u v : Nat) : Bool :=
  let b := fun w => s.get (CU_MEM w) CU_MEM_BASE
  let e := fun w => b w + s.get (CU_MEM w) CU_MEM_SIZE
  s.cuPhase v ≠ 0 && v ≠ u && s.cuMem u == s.cuMem v && decide (b u < e v ∧ b v < e u)
/-- The cause for which ARM is refused; 0 none (R552). -/
def State.armCause (s : State) (u : Nat) : Nat :=
  let rate := ((List.range 8).filter fun v => s.cuMem v && (v = u || s.cuPhase v ≠ 0)).foldl
    (fun (r : Rat) v => r + mkRat (4 * s.rowWords v : Nat) (max 1 (s.cuPeriod v))) 0
  if s.cuNch u = 0 || s.get (CU_MEM u) CU_MEM_SIZE = 0 || s.cuDepth u = 0 then 1
  else if (if s.cuMem u then 1024 else 4096) < s.get (CU_MEM u) CU_MEM_BASE + s.get (CU_MEM u) CU_MEM_SIZE || (List.range 8).any (s.cuOverlap u) then 2
  else if s.cuFast u && (s.cuMem u || 32 < s.cuNch u) then 3
  else if !s.cuFast u && !s.cuSourceOk u then 4
  else if s.cuMem u && decide (1 < rate) then 5
  else if s.inDawn then 6
  else 0
/-- A segment is armed: counts and rows start again; levels stay re-armed and the previous sample stays known, since these run from ARM (DEDUCED). -/
def State.armSegment (s : State) (u g : Nat) : State :=
  ((s.put (CU_STAT u) CU_STAT_PHASE 1).put (CU_STAT u) CU_STAT_SEG g).modCu u fun c =>
    { c with
      rows := 0, stamps := [], trues := Vector.replicate 8 0, all_ := 0, trig := none
      fire := false, await_ := none }
/-- ARM: the refusal's cause, or 0. -/
def State.cuArm (s : State) (u : Nat) : Nat × State :=
  let c := s.armCause u
  if c ≠ 0 then (c, (s.setf (CU_STAT u) CU_STAT_ARMREF).put (CU_STAT u) CU_STAT_ARMCAUSE c)
  else
    let s1 := s.forEach (List.range 128) fun s i => s.wrN (CU_SEGTPOINT u 0 + 4 * i) 0
    (0, (s1.modCu u fun c => 
      { c with bounds := 0, due := none, last := none, prev := none, ready := Vector.replicate 8 false }).armSegment u 0)

/-- A boundary of a tick source falls at `t32`: every armed unit that counts it keeps one in DIV (R549). -/
def State.capTick (s : State) (src axis t32 : Nat) : State :=
  s.forEach (List.range 8) fun s u =>
    if s.cuPhase u ≠ 0 && !s.cuFast u && s.get (CU_TICK u) CU_TICK_TSRC = src && (src = 4 || s.get (CU_TICK u) CU_TICK_AXIS = axis) then
      s.modCu u fun c =>
        { c with bounds := c.bounds + 1, due := if c.bounds % (s.get (CU_TICK u) CU_TICK_DIV + 1) = 0 then some t32 else c.due }
    else s

/-! ### Trigger conditions (R554) -/

/-- The word a condition watches, of this sample or another. -/
def State.tcWord (s : State) (u m : Nat) (ws : List Nat) : Nat := if s.cuFast u then ws.getD 0 0 else ws.getD (s.get (CU_TCCFG u m) CU_TCCFG_CH) 0
def s32 (w : Nat) : Int := (BitVec.ofNat 32 w).toInt
/-- Condition `m` is true in this sample. -/
def State.tcTrue (s : State) (u m : Nat) (ws : List Nat) : Bool :=
  let c := s.cu u
  let w := s.tcWord u m ws
  let v := s.rdN (CU_TCVAL u m)
  let bit := s.get (CU_TCCFG u m) CU_TCCFG_BIT
  let was := c.prev.map fun p => nbit (s.tcWord u m p) bit
  let is := nbit w bit
  s.flag (CU_TCCFG u m) CU_TCCFG_EN &&
  match s.get (CU_TCCFG u m) CU_TCCFG_KIND with
  | 0 => (BitVec.ofNat 32 w ^^^ BitVec.ofNat 32 v) &&& s.rd (CU_TCMASK u m) == 0
  | 1 => !s.cuFast u && decide (s32 v ≤ s32 w) && vget c.ready m false
  | 2 => !s.cuFast u && decide (s32 w ≤ s32 v) && vget c.ready m false
  | 3 => was == some false && is
  | 4 => was == some true && !is
  | 5 => was == some (!is)
  | _ => false
/-- Whether a level condition is re-armed after this sample. -/
def State.tcReady (s : State) (u m : Nat) (ws : List Nat) (now : Bool) : Bool :=
  let w := s32 (s.tcWord u m ws)
  let v := s32 (s.rdN (CU_TCVAL u m))
  let h : Int := s.rdN (CU_TCMASK u m)
  let far := if s.get (CU_TCCFG u m) CU_TCCFG_KIND = 1 then decide (w ≤ v - h) else decide (v + h ≤ w)
  if now then false else far || vget (s.cu u).ready m false
/-- The conditions seen in a sample: the mask of the true ones, whether the unit triggers, and the state with the counts. -/
def State.tcSample (s : State) (u : Nat) (ws : List Nat) : Nat × Bool × State :=
  let en := idxWhere 8 fun m => s.flag (CU_TCCFG u m) CU_TCCFG_EN
  let tr := en.filter fun m => s.tcTrue u m ws
  let cnt := fun m => max 1 (s.get (CU_TCCNT u m) CU_TCCNT_COUNT)
  let c := s.cu u
  let all := !en.isEmpty && tr.length = en.length
  let all_ := if all then c.all_ + 1 else c.all_
  let comb := s.flag (CU_CFG u) CU_CFG_COMB
  let go := if comb then all && all_ = cnt 0 else tr.any fun m => vget c.trues m 0 + 1 = cnt m
  let s1 := s.modCu u fun c =>
    { c with
      all_ := all_
      trues := Vector.ofFn fun i => vget c.trues i 0 + (if tr.contains i.val then 1 else 0)
      ready := Vector.ofFn fun i => s.tcReady u i ws (tr.contains i.val)
      prev := some ws }
  ((tr.map (2 ^ ·)).sum, go, s1)

/-! ### Fires (R556–R558) and the end of a capture (R553, R559) -/

/-- The segment record is written and hold-off begins. -/
def State.capEnd (s : State) (u : Nat) (cut : Bool) : State :=
  let c := s.cu u
  let g := s.get (CU_STAT u) CU_STAT_SEG
  let d := s.cuDepth u
  let post := s.cuPost u
  let stored := match c.trig with
    | some t => c.rows - 1 - t.row
    | none => 0
  let row := match c.trig with
    | some t => t.row
    | none => c.rows
  let pren := min row (d - 1 - (if c.trig.isSome then max post stored else 0))
  let t := c.trig.getD ⟨row, 0, false, false, false, 0⟩
  let s1 := ((s.wr64N (CU_SEGTPOINT u g) t.at_).wr64N (CU_SEGTNET u g) (if c.trig.isSome then lsCode (s.mtAt t.at_) else 0)).wrN (CU_SEGTROW u g) (row % max 1 d)
  let fl := 2 ^ 31 + b2n (decide (post < s.rdN (CU_POST u))) * 2 ^ 30 + b2n t.lost * 2 ^ 29 + b2n t.manual * 2 ^ 28 + b2n t.remote * 2 ^ 27 + b2n cut * 2 ^ 26 + t.cond
  ((((s1.wrN (CU_SEGPREN u g) pren).wrN (CU_SEGFLAGS u g) fl).wrN (CU_SEGPOSTN u g) stored).resolve .captureEnd u .ok).group 6

/-- The capture is complete when POST rows follow the trigger row. -/
def State.capDone (s : State) (u : Nat) : State :=
  match (s.cu u).trig with
  | some t =>
    if s.cuPost u ≤ (s.cu u).rows - 1 - t.row then
      ((s.capEnd u false).put (CU_STAT u) CU_STAT_PHASE 3).modCu u fun c =>
        { c with hoAt := s.tick, hoEvt := 0, trues := Vector.replicate 8 0, all_ := 0, trig := none }
    else s
  | none => s

/-- A unit reaches its trigger point: its waits reach their second stage, and with TXFIRE a fire message leaves.  Four later fires wait
for the publication; the first of a frame needs no place (R557). -/
def State.trigger (s : State) (u : Nat) (t : CapTrig) : State :=
  let s1 := (s.put (CU_STAT u) CU_STAT_PHASE 2).modCu u fun c => 
    { c with trig := some t, fire := false, await_ := none, trigAt := if t.remote && t.cond = 0 && !t.manual then s.tick else t.at_ / 32 + 1
             cntWas := s.rd (CU_CNT u), dropWas := s.flag (CU_STAT u) CU_STAT_FIREDROP }
  let s2 := { s1 with waits := s1.waits.map fun (w : Wait) => if w.kind == WaitKind.captureTrigger && w.unit == u then { w with kind := .captureEnd } else w }
  let ses := s.get (CU_SESS u) CU_SESS_SESSION
  let s3 :=
    if s.flag (CU_CFG u) CU_CFG_TXFIRE && ses ≠ 0 && (!t.remote || t.cond ≠ 0 || t.manual) then
      let q := (s.cu u).seq % (2 ^ 32 - 1) + 1
      let m : FireMsg := ⟨ses, u, t.cond, t.manual, lsCode (s.mtAt t.at_), q⟩
      let s4 := ((s2.count (CU_CNT u) CU_CNT_SENT).modCu u fun c => { c with seq := q }).modAcq fun a => { a with fires := a.fires ++ [m] }
      if !s.flag CUG_FIREPUB CUG_FIREPUB_EN then s4
      else if s4.acq.queue.length < (if s4.acq.pubFrame = some s4.time.frameNum then 4 else 5) then s4.modAcq fun a => { a with queue := a.queue ++ [m] }
      else (s4.count (CU_CNT u) CU_CNT_FIREDROPC).setf (CU_STAT u) CU_STAT_FIREDROP
    else s2
  s3.capDone u

/-- The row (counted since ARM) whose instant lies nearest `t`, of `rows` with the given instants, newest first; on a tie the
earlier. -/
def nearestRow (t : Nat) : Nat → List Nat → Nat × Nat
  | r, [] => (r, 0)
  | r, [a] => (r, a)
  | r, a :: b :: rest =>
    if absI ((t : Int) - a) < absI ((t : Int) - b) then (r, a) else nearestRow t (r - 1) (b :: rest)
/-- The unit takes as trigger point its own sample nearest `t` (R558). -/
def State.remoteTrigger (s : State) (u t : Nat) : State :=
  let c := s.cu u
  let (r, at_) := nearestRow t (c.rows - 1) c.stamps
  let d := s.cuDepth u
  if d ≤ c.rows - 1 - r then
    let oldest := c.rows - d
    s.trigger u ⟨oldest, 0, false, true, true, c.stamps.getD (d - 1) at_⟩
  else s.trigger u ⟨r, 0, false, true, false, at_⟩

/-- A fire of time `tf` (coded as LSk_STAMP) and session `ses` reaches unit `u`: one that names the sample of the unit's own trigger
leaves one trigger point, with REMOTE (R562).  A second fire while one waits for its sample is ignored and counted (DESIGN CHOICE: it is
not stated which of two would count). -/
def State.fireAt (s : State) (u ses tf : Nat) : State :=
  let t := s.instantOf (lsDecode tf * 65536)
  let same := match (s.cu u).trig with
    | some g => !g.remote && s.cuPhase u = 2 && (nearestRow t ((s.cu u).rows - 1) (s.cu u).stamps).1 = g.row
        && (match (s.cu u).stamps with
          | newest :: _ => decide (t ≤ newest)
          | [] => false)
    | none => false
  if !s.flag (CU_CFG u) CU_CFG_RXFIRE || ses = 0 || s.get (CU_SESS u) CU_SESS_SESSION ≠ ses then s
  else if same then
    (s.count (CU_CNT u) CU_CNT_TAKEN).modCu u fun c => { c with trig := c.trig.map fun g => { g with remote := true } }
  else if s.cuPhase u ≠ 1 || (s.cu u).await_.isSome then s.count (CU_CNT u) CU_CNT_IGNORED
  else
    let s1 := s.count (CU_CNT u) CU_CNT_TAKEN
    match (s.cu u).stamps with
    | newest :: _ => if newest < t then s1.modCu u fun c => { c with await_ := some t } else s1.remoteTrigger u t
    | [] => s1.modCu u fun c => { c with await_ := some t }

/-- A fire message arrives. -/
def State.fireReceive (s : State) (v : FireVia) : State :=
  match v with
  | .here => match s.acq.fires with
    | m :: rest => (s.modAcq fun a => { a with fires := rest }).forEach ((List.range 8).filter (· ≠ m.cu)) fun s u => s.fireAt u m.session m.tf
    | [] => s
  | .twin ses tf => s.forEach (List.range 8) fun s u => s.fireAt u ses.toNat tf.toNat
  | .sub j =>
    let i := s.get (CUG_FIRESUB j) CUG_FIRESUB_IDX
    if !s.flag (CUG_FIRESUB j) CUG_FIRESUB_EN || s.get (SUB_W0 i) SUB_W0_KIND ≠ 5 then s
    else
      let p := s.sramBytes (s.userHalf (s.rdN (SUB_BUF i)) (s.get (SUB_W1 i) SUB_W1_PLEN) false) 24
      let key := (bU p 2 2 % 1024, bU p 4 1 % 8, bU p 16 4)
      if key.2.2 = 0 || vget s.acq.taken j (0, 0, 0) = key then s
      else (s.modAcq fun a => { a with taken := vmod a.taken j fun _ => key }).forEach (List.range 8) fun s u => s.fireAt u (bU p 0 2) (bU p 8 8)

/-- A queued fire goes into the fire publication, at most one in a frame (R557). -/
def State.fireWrite (s : State) : State :=
  match s.acq.queue with
  | [] => s
  | m :: rest =>
    let i := s.get CUG_FIREPUB CUG_FIREPUB_IDX
    if !s.flag CUG_FIREPUB CUG_FIREPUB_EN || s.acq.pubFrame = some s.time.frameNum || s.get (PUB_W0 i) PUB_W0_KIND ≠ 5
        || s.get (PUB_W1 i) PUB_W1_PLEN ≠ 24 then s
    else
      let buf := s.rdN (PUB_BUF i)
      let rec_ := leBytes 2 m.session ++ leBytes 2 s.node ++ leBytes 1 m.cu ++ leBytes 1 (b2n m.manual) ++ leBytes 2 m.cond ++ leBytes 8 m.tf
        ++ leBytes 4 m.seq ++ leBytes 4 0
      let s1 := s.sramPut (s.userHalf buf 24 true) rec_
      let w := (wmGet s1.mem.sram (buf / 4)).toNat
      { s1 with mem := { s1.mem with sram := wmSet s1.mem.sram (buf / 4) (BitVec.ofNat 32 (nsetBit w 0 (w % 2 == 0))) } }.modAcq fun a =>
        { a with queue := rest, pubFrame := some s.time.frameNum }

/-- Hold-off ends as HOMODE selects (R559). -/
def State.holdoffEnd (s : State) (u : Nat) : State :=
  if s.cuPhase u ≠ 3 then s
  else
    let c := s.cu u
    let t := c.hoAt + 400 * s.get (CU_HOLD u) CU_HOLD_HOTIME
    let ev := decide (s.get (CU_HOLD u) CU_HOLD_HOEVT ≤ c.hoEvt)
    let go := fun (s : State) =>
      let g := s.get (CU_STAT u) CU_STAT_SEG + 1
      if g < s.cuSegs u then s.armSegment u g
      else (((s.setf (CU_STAT u) CU_STAT_DONE).put (CU_STAT u) CU_STAT_PHASE 0).modCu u fun c => { c with due := none }).group 6
    match s.get (CU_CFG u) CU_CFG_HOMODE with
    | 0 => go (s.advanceTo t)
    | 1 => if ev then go s else s
    | 2 => if ev then go (s.advanceTo t) else s
    | _ => if ev then go s else go (s.advanceTo t)

/-- The tick at which hold-off ends as far as the triggers counted decide; none: it waits for more of them. -/
def State.holdoffDue (s : State) (u : Nat) : Option Nat :=
  let c := s.cu u
  let t := c.hoAt + 400 * s.get (CU_HOLD u) CU_HOLD_HOTIME
  let ev := decide (s.get (CU_HOLD u) CU_HOLD_HOEVT ≤ c.hoEvt)
  if s.cuPhase u ≠ 3 then none
  else match s.get (CU_CFG u) CU_CFG_HOMODE with
    | 0 => some t
    | 1 => if ev then some s.tick else none
    | 2 => if ev then some (max t s.tick) else none
    | _ => if ev then some s.tick else some t

/-! ### A sample (R549) -/

/-- The instant at which unit `u` samples: the boundary that fell, or in fast mode the next tick. -/
def State.sampleAt (s : State) (u : Nat) : Option Nat :=
  if s.cuPhase u = 0 then none
  else if s.cuFast u then some (32 * (match (s.cu u).last with
    | some t => max s.tick (t / 32 + 1)
    | none => s.tick))
  else (s.cu u).due
/-- The unit samples its channels and, outside hold-off, writes a row; then the trigger conditions, FIRE, and a fire message
that waited.  A hold-off that has ended by then has armed the next segment (R562). -/
def State.capSample (s0 : State) (u : Nat) (ext : Bool × Bool) : State :=
  match s0.sampleAt u with
  | none => s0
  | some t32 =>
    let sA := s0.advanceTo (t32 / 32)
    let sB := match sA.holdoffDue u with
      | some t => if t ≤ sA.tick then sA.holdoffEnd u else sA
      | none => sA
    if sB.cuPhase u = 0 then sB else
    let s := sB.modCu u fun c => { c with due := none, last := some t32 }
    let sigs := (List.range (s.cuNch u)).map fun c => s.sigWord (s.get (CU_CH u c) CU_CH_SIG) t32 ext
    let ws := if s.cuFast u then [((List.range sigs.length).map fun c => b2n (nbit (sigs.getD c 0) (s.get (CU_CH u c) CU_CH_BIT)) * 2 ^ c).sum] else sigs
    let (cond, go, s1) := s.tcSample u ws
    if s.cuPhase u = 3 then
      if go then s1.modCu u fun c => { c with hoEvt := c.hoEvt + 1, trues := Vector.replicate 8 0, all_ := 0 } else s1
    else
      let stamp := t32 / 32 % 2 ^ 27 * 32 + t32 % 32
      let row := (if s.cuFast u then ws else stamp :: ws).map (BitVec.ofNat 32)
      let k := (s.cu u).rows
      let s2 := (s1.writeRow u (s.rowAt u (s.get (CU_STAT u) CU_STAT_SEG) k) row).modCu u fun c =>
        { c with rows := k + 1, stamps := (t32 :: c.stamps).take (s.cuDepth u + 1) }
      if s.cuPhase u = 2 then s2.capDone u
      else
        let own := go || (s.cu u).fire
        match (s.cu u).await_ with
        | some t =>
          if t ≤ t32 then
            if own && (nearestRow t k (s2.cu u).stamps).1 = k then s2.trigger u ⟨k, cond, (s.cu u).fire, true, false, t32⟩ else s2.remoteTrigger u t
          else if own then s2.trigger u ⟨k, cond, (s.cu u).fire, false, false, t32⟩ else s2
        | none => if own then s2.trigger u ⟨k, cond, (s.cu u).fire, false, false, t32⟩ else s2

/-- FIRE: the next sample is the trigger point. -/
def State.cuFire (s : State) (u : Nat) : State := if s.cuPhase u = 1 then s.modCu u fun c => { c with fire := true } else s
/-- A trigger that acts only in the present tick is taken back: a DISARM of that tick applies (R562). -/
def State.untrigger (s : State) (u : Nat) : State :=
  let c := s.cu u
  if c.trig.isNone || c.trigAt < s.tick then s
  else
    let mine := fun (m : FireMsg) => m.cu = u && m.seq = c.seq
    let sent := s.acq.fires.any mine
    let s1 := (s.modAcq fun a => { a with fires := a.fires.filter fun m => !mine m, queue := a.queue.filter fun m => !mine m }).modCu u fun c =>
      { c with trig := none, seq := if sent then c.seq - 1 else c.seq }
    (s1.wr (CU_CNT u) c.cntWas).putB (CU_STAT u) CU_STAT_FIREDROP c.dropWas
/-- DISARM ends any phase; a capture in progress gets its segment record. -/
def State.cuDisarm (s0 : State) (u : Nat) : State :=
  let s := s0.untrigger u
  let ph := s.cuPhase u
  let s1 := if ph = 1 || ph = 2 then s.capEnd u true else s
  ((s1.put (CU_STAT u) CU_STAT_PHASE 0).modCu u fun c => { c with due := none, trig := none, fire := false, await_ := none }).resolve
    .captureTrigger u .ok

end Sys2Proof.Machine
end

