-- ==== Sys2Proof/Machine/Log.lean ====
section
/-! DEFINITION. The Stud book (R566–R584): records, merging, programming, freeze, reading. -/

namespace Sys2Proof.Machine

def State.modLog (s : State) (f : LogSt → LogSt) : State := { s with log := f s.log }
def State.frozen (s : State) : Bool := s.log.frozen.isSome
/-- UTC at a module time, both in 2^−32 ns (R321). -/
def State.utcOf (s : State) (mt : Nat) : Nat := ((mt : Int) - s.getI NT_UTC NT_UTC_OFS * second32).toNat
def State.synced (s : State) : Bool := s.get NT_STAT NT_STAT_SYNC == 2

/-! ### Records (R567, R568, R571) -/

/-- A body padded with zeros to a multiple of 4 and to 16 bytes; an empty body stays empty. -/
def padBody (b : List Byte) : List Byte :=
  if b.isEmpty then [] else
    let k := max 16 ((b.length + 3) / 4 * 4)
    b ++ List.replicate (k - b.length) 0
/-- A record as stored. -/
def logRecord (type agent unit seq utc : Nat) (sync merged calBad : Bool) (body : List Byte) : List Byte :=
  let b := padBody body
  let h := leBytes 2 b.length ++ leBytes 2 type ++ leBytes 1 agent ++ leBytes 1 unit ++ leBytes 2 (b2n sync + 2 * b2n merged + 4 * b2n calBad)
    ++ leBytes 8 seq ++ leBytes 8 (utc / second32) ++ leBytes 4 (utc / 2 ^ 32 % 1000000000)
  h ++ leBytes 4 (crc32c (h ++ b)) ++ b
/-- The CRC of a stored record holds. -/
def logGood (r : List Byte) : Bool := crc32c (r.take 28 ++ r.drop 32) == bU r 28 4

def State.r4 (s : State) (a : Nat) : List Byte := leBytes 4 (s.rdN a)
def State.r8 (s : State) (a : Nat) : List Byte := leBytes 8 (s.rd64N a)

/-- A record to be written: TYPE, AGENT, UNIT, body. -/
structure Entry where
  type : Nat
  agent : Nat
  unit : Nat
  body : List Byte
  deriving DecidableEq, Repr

/-- A latched trip of an axis. -/
def State.tripEntry (s : State) (n : Nat) : Entry := ⟨0x0400, 0xFF, n, s.r4 (PWM_STAT n) ++ s.r8 (PWM_TSTAMP n)⟩
/-- A protective action on an axis, with the code of its cause. -/
def State.protEntry (s : State) (n cause : Nat) : Entry :=
  ⟨0x0401, 0x20 + s.lpOf n, n, s.r4 (AX_STAT n) ++ (if n < 64 then s.r4 (AXL_LSTAT n) else leBytes 4 0) ++ leBytes 4 cause⟩
def State.shaftEntry (s : State) (k : Nat) : Entry := ⟨0x1C02, 0xFF, k, s.r4 (LS_STAT k) ++ s.r8 (LS_STAMP k)⟩
def State.indexEntry (s : State) (p : Nat) : Entry := ⟨0x1400, 0xFF, p, s.r4 (EP_STAT p) ++ s.r4 (EP_IDXERR p)⟩
def State.twinEntry (s : State) : Entry := ⟨0x3800, 0xFF, 0xFF, s.r4 TW_STAT ++ s.r4 TW_CNT1⟩
/-- The SAFETY record of axis `n`, or of the module. -/
def State.safetyEntry (s : State) (n : Nat) : Entry := ⟨0x2800, 0x30, n, s.r4 SF_STAT ++ (if n < 64 then s.r8 (SFAX_AX n) else leBytes 8 0)⟩
def secEntry (unit sensor policy : Nat) : Entry := ⟨0x3400, 0xFF, unit, leBytes 4 sensor ++ leBytes 4 policy⟩

/-- The record that the firmware forms from an event; none for an event without a type in R571. -/
def State.entryOf (s : State) (e : Event) : Option Entry :=
  let n := e.unit
  let v := e.val.toNat
  match e.kind with
  | .powerUp => some ⟨0x0001, 0x10, 0xFF, s.r8 LOG_NEWEST ++ leBytes 1 (s.get SYS_RSTCAUSE SYS_RSTCAUSE_CAUSE)
      ++ leBytes 1 (s.get SYS_BOOT SYS_BOOT_IMAGE) ++ leBytes 1 (b2n s.log.torn)⟩
  | .stateChange => some ⟨0x0002, 0x10, 0xFF, leBytes 1 (v % 256) ++ leBytes 1 (v / 256 % 256) ++ leBytes 1 (v / 65536)⟩
  | .roleChange => some ⟨0x0002, 0x10, 0xFF, leBytes 1 (0x80 + v % 16) ++ leBytes 1 (0x80 + n) ++ leBytes 1 (v / 16)⟩
  | .frameSlip => some ⟨0x0003, 0xFF, 0xFF, s.r4 TB_PHERR ++ leBytes 8 s.time.frameNum⟩
  | .fwRestart => some ⟨0x0004, 0x10, 0xFF, leBytes 1 (v % 2) ++ leBytes 1 (v / 2 % 2) ++ leBytes 2 0 ++ leBytes 4 (v / 4 % 2 ^ 32) ++ leBytes 4 (v / 2 ^ 34)⟩
  | .lockForced => some ⟨0x0005, 0xFF, 0xFF, leBytes 1 n ++ leBytes 1 v⟩
  | .crossing => some ⟨0x0006, 0xFF, 0xFF, leBytes 1 n ++ leBytes 1 v⟩
  | .hostWatchdog => some ⟨0x0007, 0xFF, 0xFF, leBytes 1 (s.get HOST_WDT HOST_WDT_HWACT) ++ leBytes 1 0 ++ leBytes 2 (s.get HOST_WDT HOST_WDT_TIMEOUT)⟩
  | .trip =>
    if v = 0 then none
    else if n < 32 then some (s.tripEntry n) else some ⟨0x0400, 0xFF, 0xE0 + (n - 32), s.r4 (GTRIP_STAT (n - 32)) ++ s.r8 (GTRIP_TSTAMP (n - 32))⟩
  | .oc | .streamLoss | .udcLoss | .angLoss => some (s.tripEntry n)
  | .followingError => some (s.protEntry n 1)
  | .overspeed => some (s.protEntry n 2)
  | .fbAlt => some (s.protEntry n 3)
  | .fbLoss => some (s.protEntry n 4)
  | .torqueOff => some (s.protEntry n 5)
  | .underrun => some (s.protEntry n 6)
  | .masterLost => some (s.protEntry n 7)
  | .late => some (s.protEntry n 8)
  | .aiInvalid => some (s.protEntry n 9)
  | .hsLate => some (s.protEntry n 10)
  | .camOut => some (s.protEntry n 11)
  | .dusk => some (s.protEntry n 12)
  | .segJoin => some (s.protEntry n 13)
  | .lpFault | .lpHalted => some ⟨0x1000, 0x20 + n, n, s.r4 (LP_FAULT n) ++ s.r4 (LP_STAT n)⟩
  | .fbDev => some ⟨0x1001, 0x20 + s.lpOf n, n, leBytes 8 (BitVec.ofInt 64 e.val).toNat⟩
  | .indexSlip | .indexMiss | .indexBig => some (s.indexEntry n)
  | .regMiss => some ⟨0x1800, 0xFF, n, s.r4 (RC_CNT n)⟩
  | .bell => some ⟨0x1C00, 0xFF, 0xFF, leBytes 2 n ++ leBytes 1 s.epoch ++ leBytes 1 (if v < 1048576 then 0x10 else v % 256)
      ++ leBytes 1 (if v < 1048576 then v % 4 else 4) ++ leBytes 2 (if v < 1048576 then v / 4 % 1024 else 0)
      ++ leBytes 2 (if v < 1048576 then v / 4096 else 0)
      ++ leBytes 2 (match (List.range 64).find? fun i => s.btMatch i n s.epoch with
        | some i => s.get (BT_W1 i) BT_W1_COUNT
        | none => 0)⟩
  | .syncChange => some ⟨0x1C01, 0xFF, 0xFF, s.r4 NT_STAT ++ leBytes 8 (BitVec.ofInt 64 s.nw.ptp.lastOff).toNat⟩
  | .shaftCoast | .shaftLost | .lsStep => some (s.shaftEntry n)
  | .idClash =>
    if s.log.clashes.any fun x => x.1 == n && x.2.1 == v && decide (s.tick < x.2.2 + 400000000) then none
    else some ⟨0x2000, 0xFF, n, s.r4 (CAN_CLASH n) ++ s.r4 (CAN_CNT n)⟩
  | .groupState => some ⟨0x2400, 0xFF, n, leBytes 1 (v / 16) ++ leBytes 1 (v % 16) ++ leBytes 2 (s.get (FG_STAT n) FG_STAT_VOLT)⟩
  | .outputFault => if v = 0 then some ⟨0x2401, 0xFF, n, leBytes 4 (s.dioSt n).toNat⟩ else none
  | .safetyViolation => some (s.safetyEntry n)
  | .globalFault => some (s.safetyEntry 0xFF)
  | .tamper => some (secEntry 0xFF n v)
  | .keyLost => some (secEntry 0xFF 0x10 0)
  | .debugOpen => some (secEntry 0xFF 0x11 v)
  | .security => some (secEntry n (0x12 + v % 16) (v / 16))
  | .tackLost | .cmpErr | .handover => some s.twinEntry
  | .update => some ⟨0x3C00, 0x10, n, leBytes 4 (v % 2) ++ leBytes 4 (v / 2)⟩
  | _ => none

/-! ### Numbering, merging, staging (R569, R572, R577) -/

def stageBytes (l : List (Nat × List Byte)) : Nat := (l.map fun x => x.2.length).sum
/-- STAGEFULL and STAGEKIB. -/
def State.stageRegs (s : State) : State :=
  let u := stageBytes s.log.staging
  (s.putB LOG_STAT LOG_STAT_STAGEFULL (262144 - u < 4128)).put LOG_STAT LOG_STAT_STAGEKIB ((u + 1023) / 1024)
/-- A record takes the next SEQ and enters the write buffer, or while the book is frozen the staging RAM; one that does not
fit there is lost; in the tick of an unfreeze one that the staging RAM had no room for is lost too and counted in the GAP record
(R581).  Answers the SEQ, none where it is lost. -/
def State.appendRec (s : State) (type agent unit utc : Nat) (sync merged : Bool) (body : List Byte) : Option Nat × State :=
  let q := s.log.next
  let r := logRecord type agent unit q utc sync merged s.log.calBad body
  if !s.frozen then
    match s.log.thaw with
    | some (t, room, lost, lu, gap) =>
      if t = s.tick && room < r.length then
        let s1 := (s.count LOG_LOST LOG_LOST_TOTAL).modLog fun l => { l with thaw := some (t, room, lost + 1, if lost = 0 then utc / second32 else lu, if gap = 0 then q else gap) }
        let body := leBytes 4 (lost + 1) ++ leBytes 4 0 ++ leBytes 8 (if lost = 0 then utc / second32 else lu)
        if gap = 0 then (none, s1.modLog fun l => { l with next := q + 1, buffer := l.buffer ++ [(q, logRecord 0x3000 0x10 0xFF q utc sync false l.calBad body)] })
        else (none, s1.modLog fun l => { l with buffer := l.buffer.map fun x =>
          if x.1 = gap then (gap, logRecord 0x3000 0x10 0xFF gap utc sync false l.calBad body) else x })
      else (some q, s.modLog fun l => { l with next := q + 1, buffer := l.buffer ++ [(q, r)], thaw := if t = s.tick then some (t, room - r.length, lost, lu, gap) else none
                                               appAt := s.tick, appFirst := if l.appAt = s.tick then l.appFirst else q })
    | none => (some q, s.modLog fun l => { l with next := q + 1, buffer := l.buffer ++ [(q, r)], appAt := s.tick, appFirst := if l.appAt = s.tick then l.appFirst else q })
  else if stageBytes s.log.staging + r.length ≤ 262144 then
    (some q, (s.modLog fun l => { l with next := q + 1, staging := l.staging ++ [(q, r)] }).stageRegs)
  else
    let first := s.get LOG_LOST LOG_LOST_FRZ = 0
    (none, (((s.count LOG_LOST LOG_LOST_FRZ).count LOG_LOST LOG_LOST_TOTAL).modLog fun l =>
      if first then { l with lostUtc := utc / second32 } else l))
/-- TYPEs that are never merged. -/
def neverMerged (t : Nat) : Bool := [0x0001, 0x0002, 0x2800, 0x3400, 0x3000, 0x3001].contains t
/-- A merge window closes: one MERGED record carries a count above 0. -/
def State.closeKey (s : State) (k : MergeKey) : State :=
  let s1 := s.modLog fun l => { l with keys := l.keys.filter (· != k) }
  if k.count = 0 then s1 else (s1.appendRec k.type k.agent k.unit k.utc k.sync true (leBytes 8 k.seq ++ leBytes 4 k.count ++ leBytes 4 0)).2
def State.mergeTicks (s : State) : Nat := 400000 * s.get LOG_CFG LOG_CFG_MERGEWIN
/-- An entry is written, or counted in the window of its key. -/
def State.logEntry (s : State) (e : Entry) (utc : Nat) (sync : Bool) : State :=
  let body := padBody e.body
  let head := body.take 16
  let match_ := fun k : MergeKey => k.type == e.type && k.unit == e.unit && k.head == head
  let write := fun s : State => s.appendRec e.type e.agent e.unit utc sync false e.body
  if s.mergeTicks = 0 || neverMerged e.type then (write s).2
  else
    match s.log.keys.find? match_ with
    | some k =>
      if s.tick ≤ k.at_ + s.mergeTicks then
        s.modLog fun l => { l with keys := l.keys.map fun x => if x == k then { x with count := x.count + 1, utc := utc, sync := sync } else x }
      else
        let (q, s1) := write (s.closeKey k)
        s1.modLog fun l => { l with keys := l.keys ++ [{ type := e.type, unit := e.unit, head := head, seq := q.getD 0, at_ := s.tick, agent := e.agent }] }
    | none =>
      let s0 := match s.log.keys with
        | k :: _ => if 256 ≤ s.log.keys.length then s.closeKey k else s
        | [] => s
      let (q, s1) := write s0
      s1.modLog fun l => { l with keys := l.keys ++ [{ type := e.type, unit := e.unit, head := head, seq := q.getD 0, at_ := s.tick, agent := e.agent }] }

/-- The firmware takes the next event that gives a record and writes it; while it does not run nothing is written (R43, R566). -/
def State.recordAppend (s : State) : State :=
  if !s.pw.fwRun then s else
  let rest := s.events.drop s.log.seen
  let skip := (rest.takeWhile fun e => (s.entryOf e).isNone).length
  match (rest.drop skip).head? with
  | none => s.modLog fun l => { l with seen := l.seen + skip }
  | some e =>
    let s1 := s.modLog fun l =>
      { l with seen := l.seen + skip + 1, clashes := if e.kind == .idClash then (e.unit, e.val.toNat, s.tick) :: l.clashes else l.clashes }
    match s.entryOf e with
    | some x => (s1.logEntry x (s.utcOf (if e.mt < s.log.resumed then e.mt else s.time.mt)) s.synced).group 6
    | none => s1

/-- The oldest merge window ends. -/
def State.mergeEnd (s : State) : State :=
  if !s.pw.fwRun then s
  else match s.log.keys with
  | k :: _ => (s.advanceTo (k.at_ + s.mergeTicks)).closeKey k
  | [] => s

/-! ### Programming (R573, R574) -/

/-- The erase block that follows `b` in the ring, `k` blocks looked at. -/
def nextBlock (retired : List Nat) : Nat → Nat → Nat
  | 0, b => b
  | k + 1, b => if retired.contains ((b + 1) % 512) then nextBlock retired k ((b + 1) % 512) else (b + 1) % 512
def State.wearRegs (s : State) : State :=
  let r := s.log.retired.length
  ((s.put LOG_WEAR LOG_WEAR_RETIRED (min 255 r)).put LOG_WEAR LOG_WEAR_MEAN (min (2 ^ 24 - 1) (s.log.erases / 512))).putB LOG_STAT LOG_STAT_WEARHI (32 < r)
/-- LOG_OLDEST and LOG_NEWEST of the records held. -/
def State.rangeRegs (s : State) : State :=
  match s.log.store.getLast?, s.log.store.head? with
  | some o, some n => (s.wr64N LOG_OLDEST o.2.1).wr64N LOG_NEWEST n.2.1
  | _, _ => s
/-- The write point moves into the block kept erased, and the block after it, which holds the oldest records, is erased; `fails`: it
cannot be erased and is retired, and the one after it is erased. -/
def State.nextErase (s : State) (fails : Bool) : State :=
  let b := nextBlock s.log.retired 512 s.log.block
  let e0 := nextBlock s.log.retired 512 b
  let ret := if fails then e0 :: s.log.retired else s.log.retired
  let e := nextBlock ret 512 b
  let s1 := if fails then s.event .nandRetired e0 else s
  (s1.modLog fun l => { l with block := b, used := 0, erases := l.erases + 1, retired := ret
                               store := l.store.filter fun x => x.1 != e && !(fails && x.1 == e0) }).rangeRegs.wearRegs
/-- One record goes into the NAND. -/
def State.programOne (s : State) (q : Nat) (r : List Byte) (fails : Bool) : State :=
  let s1 := if 262144 < s.log.used + r.length then s.nextErase fails else s
  ((s1.modLog fun l => { l with store := (l.block, q, r) :: l.store, used := l.used + r.length }).rangeRegs)
/-- The oldest numbered record is programmed; `bad`: the block of the write point failed and is retired first; `fails`: the block that
this erases, if any, cannot be erased (R574). -/
def State.recordProgram (s : State) (bad fails : Bool) : State :=
  match s.log.buffer with
  | [] => s
  | (q, r) :: rest =>
    if s.frozen || !s.pw.fwRun then s
    else
      let s1 := if bad then (s.modLog fun l => { l with retired := l.block :: l.retired }).nextErase fails |>.event .nandRetired s.log.block else s
      (s1.modLog fun l => { l with buffer := rest }).programOne q r (fails && !bad)

/-! ### Freeze (R577, R578) and clear (R579, R580) -/

/-- The freeze; a record that took its SEQ in the same tick is staged (R581). -/
def State.freeze (s : State) : State :=
  if s.frozen then s
  else
    let now := fun (x : Nat × List Byte) => s.log.appAt == s.tick && decide (s.log.appFirst ≤ x.1)
    (((s.setf LOG_STAT LOG_STAT_FROZEN).put LOG_LOST LOG_LOST_FRZ 0).modLog fun l =>
      { l with frozen := some s.tick, thaw := none, buffer := l.buffer.filter fun x => !now x, staging := l.buffer.filter now }).stageRegs
/-- The unfreeze: the staged records go ahead of later ones, a GAP record follows them if any was lost. -/
def State.unfreeze (s : State) : State :=
  if !s.frozen then s
  else
    let lost := s.get LOG_LOST LOG_LOST_FRZ
    let s1 := ((s.clrf LOG_STAT LOG_STAT_FROZEN).modLog fun l => { l with frozen := none, buffer := l.buffer ++ l.staging, staging := [] }).stageRegs
    let s2 := if lost = 0 then s1
      else (s1.appendRec 0x3000 0x10 0xFF (s.utcOf s.time.mt) s.synced false (leBytes 4 lost ++ leBytes 4 0 ++ leBytes 8 s.log.lostUtc)).2
    (s2.put LOG_LOST LOG_LOST_FRZ 0).modLog fun l =>
      { l with thaw := some (s.tick, 262144 - stageBytes s.log.staging, lost, s.log.lostUtc, if lost = 0 then 0 else s1.log.next) }
/-- FRZMAX s after the freeze the firmware unfreezes the book. -/
def State.freezeTimeout (s : State) : State :=
  if !s.pw.fwRun then s
  else match s.log.frozen with
  | some t => ((s.advanceTo (t + 400000000 * s.get LOG_CFG LOG_CFG_FRZMAX)).unfreeze).setf LOG_STAT LOG_STAT_FRZTO
  | none => s

/-- The unfreeze command; in the tick in which FRZMAX ends, FRZTO is set all the same (R581). -/
def State.unfreezeCmd (s : State) : State :=
  match s.log.frozen with
  | some t => if t + 400000000 * s.get LOG_CFG LOG_CFG_FRZMAX ≤ s.tick then s.freezeTimeout else s.unfreeze
  | none => s
/-- The first field of a LOG_CLEAR payload that fails its check, as an offset. -/
def State.clearBad (s : State) (p : List Byte) : Nat :=
  if bU p 0 8 ≠ s.rd64N LOG_OLDEST then 0 else if bU p 8 8 < bU p 0 8 || s.rd64N LOG_NEWEST < bU p 8 8 then 8
  else 17 + ((p.drop 17).take 7).findIdx (· != 0)
/-- LOG_CLEAR: the status, and the state. -/
def State.logClear (s : State) (p : List Byte) : Status × State :=
  let first := bU p 0 8
  let last := bU p 8 8
  let key := bU p 16 1
  if s.frozen then (.busy, s)
  else if first ≠ s.rd64N LOG_OLDEST || last < first || s.rd64N LOG_NEWEST < last || (p.drop 17).take 7 ≠ List.replicate 7 0 then (.badParam, s)
  else
    let (w, s1) := s.freeWord64
    let s2 := s1.wr64 LOG_NONCE w
    let ok := bU p 24 8 == s.rd64N LOG_NONCE && match s.sec.mkeys.lookup key with
      | some k => Config.sigOk k (p.take 32) ((p.drop 32).take 64)
      | none => false
    if !ok then (.signature, s2)
    else
      let c := s.log.clears + 1
      let s3 := ((s2.modLog fun l => { l with store := l.store.filter fun x => decide (last < x.2.1), clears := c }).wrN LOG_CLRCNT c).wr64N LOG_OLDEST (last + 1)
      (.ok, (s3.appendRec 0x3001 0x10 0xFF (s.utcOf s.time.mt) s.synced false
        (leBytes 8 first ++ leBytes 8 last ++ leBytes 1 key ++ leBytes 7 0 ++ leBytes 8 (bU p 24 8) ++ leBytes 4 c ++ leBytes 4 0)).2)

/-! ### Reading (R575, R576) -/

/-- A load starts; the flags of the one before clear. -/
def State.logLoad (s : State) (q : Nat) : State :=
  ((s.wrN LOG_RSTAT (2 ^ 31 + 2 ^ 30 * s.get LOG_RSTAT LOG_RSTAT_HAVE)).modLog fun l => { l with load := some q })
def State.logCursor (s : State) (q : Nat) : State := (s.wr64N LOG_CURSOR q).logLoad q
/-- NEXT, ignored while BUSY. -/
def State.logNext (s : State) : State :=
  if s.flag LOG_RSTAT LOG_RSTAT_BUSY then s else s.logLoad (match s.log.shown with
    | some q => q + 1
    | none => 0)
/-- The stored record with the lowest SEQ from `q` on. -/
def State.logFind (s : State) (q : Nat) : Option (Nat × List Byte) :=
  (s.log.store.filter fun x => decide (q ≤ x.2.1)).getLast?.map fun x => x.2
/-- A load ends. -/
def State.logLoaded (s : State) : State :=
  if !s.pw.fwRun then s
  else match s.log.load with
  | none => s
  | some q =>
    let s1 := (s.clrf LOG_RSTAT LOG_RSTAT_BUSY).modLog fun l => { l with load := none }
    if s.rd64N LOG_NEWEST < q then s1.setf LOG_RSTAT LOG_RSTAT_AFTER
    else
      match s.logFind q with
      | none => s1
      | some (n, r) =>
        let s2 := ((s1.setf LOG_RSTAT LOG_RSTAT_HAVE).putB LOG_RSTAT LOG_RSTAT_BEFORE (q < s.rd64N LOG_OLDEST)).putB LOG_RSTAT LOG_RSTAT_CRCBAD (!logGood r)
        let s3 := s2.forEach (List.range 8) fun s w => s.wrN (LOG_HDR w) (bU r (4 * w) 4)
        (s3.forEach (List.range 1024) fun s w => s.wrN (LOG_WIN w) (bU r (32 + 4 * w) 4)).modLog fun l => { l with shown := some n }
/-- LOG_READ: records from `q` while whole ones fit in `room` bytes; the bytes, and the SEQ that follows. -/
def logCopy (raw : Bool) : List (Nat × List Byte) → Nat → Nat → List Byte × Nat
  | [], q, _ => ([], q)
  | (n, r) :: rest, q, room =>
    let out := if raw || logGood r then r
      else
        let h := leBytes 2 0 ++ leBytes 2 0x3002 ++ (r.drop 4).take 24
        h ++ leBytes 4 (crc32c h)
    if room < out.length then ([], q)
    else
      let (bs, q1) := logCopy raw rest (n + 1) (room - out.length)
      (out ++ bs, q1)
def State.logRead (s : State) (q room : Nat) (raw : Bool) : List Byte × Nat :=
  logCopy raw ((s.log.store.filter fun x => decide (q ≤ x.2.1)).reverse.map (·.2)) q room

end Sys2Proof.Machine
end

