-- ==== Sys2Proof/Machine/Security.lean ====
section
/-! DEFINITION. Keys, tamper alarms, debug access and integrity counting (R585–R600), and the Active's release for a cause
outside the pair (R390). -/

namespace Sys2Proof.Machine

def State.modSec (s : State) (f : SecSt → SecSt) : State := { s with sec := f s.sec }

/-! ### Key slots (R587–R591) -/

/-- The number of slots of a KIND: 1 maintenance keys, 2 SAKs, 3 session keys, 4 seeds. -/
def slotsOf (kind : Nat) : Nat := match kind with
  | 1 => 8
  | 2 => 48
  | 3 => 16
  | 4 => 32
  | _ => 0
/-- The word and the bit of SEC_SLOTS for a slot. -/
def slotBit (kind i : Nat) : Nat × Nat := match kind with
  | 1 => (SEC_SLOTS 0, i)
  | 2 => (SEC_SLOTS (1 + i / 32), i % 32)
  | 4 => (SEC_SLOTS 3, i)
  | _ => (SEC_SLOTS 4, i)
def State.keyValid (s : State) (kind i : Nat) : Bool := nbit (s.rdN (slotBit kind i).1) (slotBit kind i).2
def State.setKeyValid (s : State) (kind i : Nat) (b : Bool) : State :=
  s.wrN (slotBit kind i).1 (nsetBit (s.rdN (slotBit kind i).1) (slotBit kind i).2 b)
/-- An erased slot holds nothing. -/
def State.eraseSlot (s : State) (kind i : Nat) : State :=
  let s1 := s.setKeyValid kind i false
  match kind with
  | 1 => s1.modSec fun c => { c with mkeys := c.mkeys.filter fun x => x.1 != i }
  | 4 => s1.modSec fun c => { c with seeds := vmod c.seeds i fun _ => 0 }
  | _ => s1
/-- Erasure of the traffic and session keys, or of all key SRAM. -/
def State.eraseKeys (s : State) (all : Bool) : State :=
  let s1 := (((s.wrN (SEC_SLOTS 1) 0).wrN (SEC_SLOTS 2) 0).wrN (SEC_SLOTS 4) 0)
  if all then ((s1.wrN (SEC_SLOTS 0) 0).wrN (SEC_SLOTS 3) 0).modSec fun c => { c with mkeys := [], seeds := Vector.replicate 32 0 } else s1
/-- The nonce after a key command that passes the first check. -/
def State.newNonce (s : State) : State := let (w, s1) := s.freeWord64; s1.wr64 SEC_NONCE w

/-- The first field of a KEY_LOAD payload outside its coding, as an offset. -/
def keyLoadBad (p : List Byte) : Nat :=
  let kind := bU p 0 1
  if slotsOf kind = 0 then 0 else if slotsOf kind ≤ bU p 1 1 then 1 else if 8 ≤ bU p 2 1 && bU p 2 1 != 0xFF then 2
  else if !bZero p 3 5 then 3 + ((p.drop 3).take 5).findIdx (· != 0)
  else if kind == 1 && !bZero p 80 40 then 80 else 120 + ((p.drop 120).take 8).findIdx (· != 0)
/-- An erasure by an alarm in the present tick takes the slots of a KIND (R598). -/
def State.erasedNow (s : State) (kind : Nat) : Bool :=
  match s.sec.erasedAt with
  | some (t, all) => t == s.tick && (all || kind == 2 || kind == 3)
  | none => false
/-- KEY_LOAD with its 192 bytes (R588, R589, R598): the status, and the state. -/
def State.keyLoad (s : State) (p : List Byte) : Status × State :=
  let kind := bU p 0 1
  let i := bU p 1 1
  let sig := bU p 2 1
  let pub := (p.drop 16).take 64
  let wrap := (p.drop 80).take 40
  if s.flag SEC_STAT SEC_STAT_DBGOPEN then (.busy, s)
  else if slotsOf kind ≤ i || (8 ≤ sig && sig != 0xFF) || !bZero p 3 5 || !bZero p 120 8 || (kind == 1 && !bZero p 80 40) then (.badParam, s)
  else
    let s1 := s.newNonce
    let enrol := sig == 0xFF
    let key := if enrol then some pub else if s.keyValid 1 sig then s.sec.mkeys.lookup sig else none
    let signed := match key with
      | some k => Config.sigOk k (p.take 128) ((p.drop 128).take 64)
      | none => false
    let content := if kind = 1 then some pub else Config.unwrapKey pub wrap
    if bU p 8 8 ≠ s.rd64N SEC_NONCE || (enrol && (s.rdN (SEC_SLOTS 0) != 0 || kind != 1)) || !signed then (.signature, s1)
    else match content with
      | none => (.signature, s1)
      | some k =>
        if (kind == 2 && s.nw.sakUsed.contains i) || s.erasedNow kind then (.busy, s1)
        else
          let s2 := (s1.setKeyValid kind i true).modSec fun c =>
            match kind with
            | 1 => { c with mkeys := (i, k) :: c.mkeys.filter fun x => x.1 != i }
            | 4 => { c with seeds := vmod c.seeds i fun _ => BitVec.ofNat 32 (bU k 0 4) }
            | _ => c
          (.ok, (s2.event .security kind (16 * i : Nat)).group 6)

/-- The signed 96-byte payload of KEY_ERASE and TAMPER_POLICY (R590): its nonce and signature hold. -/
def State.signed96 (s : State) (p : List Byte) : Bool :=
  bU p 24 8 == s.rd64N SEC_NONCE && s.keyValid 1 (bU p 16 1) && match s.sec.mkeys.lookup (bU p 16 1) with
    | some k => Config.sigOk k (p.take 32) ((p.drop 32).take 64)
    | none => false
/-- The first field of a KEY_ERASE payload that fails the first check, as an offset. -/
def keyEraseBad (p : List Byte) : Nat :=
  let kind := bU p 0 1
  if slotsOf kind = 0 then 0 else if slotsOf kind ≤ bU p 1 1 then 1
  else if !bZero p 2 14 then 2 + ((p.drop 2).take 14).findIdx (· != 0)
  else if 8 ≤ bU p 16 1 then 16 else if !bZero p 17 7 then 17 + ((p.drop 17).take 7).findIdx (· != 0) else 1
/-- KEY_ERASE. -/
def State.keyErase (s : State) (p : List Byte) : Status × State :=
  let kind := bU p 0 1
  let i := bU p 1 1
  if slotsOf kind ≤ i || !bZero p 2 14 || 8 ≤ bU p 16 1 || !bZero p 17 7 then (.badParam, s)
  else if kind == 1 && s.rdN (SEC_SLOTS 0) == 2 ^ i then (.badParam, s)
  else if !s.signed96 p then (.signature, s.newNonce)
  else (.ok, ((s.newNonce.eraseSlot kind i).event .security kind (1 + 16 * i : Nat)).group 6)
/-- A policy code of a sensor; 0b11 is ignored. -/
def setPolicy (old new : Nat) (raiseOnly : Bool) : Nat :=
  (List.range 5).foldl (fun a k =>
    let o := nbits old (2 * k + 1) (2 * k)
    let n := nbits new (2 * k + 1) (2 * k)
    a + (if n = 3 || (raiseOnly && n < o) then o else n) * 4 ^ k) 0
/-- The first field of a TAMPER_POLICY payload that fails the first check, as an offset. -/
def tamperBad (p : List Byte) : Nat :=
  if 1024 ≤ bU p 0 4 then 0 else if !bZero p 4 12 then 4 + ((p.drop 4).take 12).findIdx (· != 0)
  else if 8 ≤ bU p 16 1 then 16 else 17 + ((p.drop 17).take 7).findIdx (· != 0)
/-- TAMPER_POLICY. -/
def State.tamperPolicy (s : State) (p : List Byte) : Status × State :=
  let w := bU p 0 4
  if 1024 ≤ w || !bZero p 4 12 || 8 ≤ bU p 16 1 || !bZero p 17 7 then (.badParam, s)
  else if !s.signed96 p then (.signature, s.newNonce)
  else (.ok, (((s.newNonce.wrN SEC_POLICY (setPolicy (s.rdN SEC_POLICY) w false)).modSec (fun c => { c with polWas := some (s.tick, s.rdN SEC_POLICY) })).event .security 0xFF (2 + 16 * w : Nat)).group 6)
/-- An expert write of SEC_POLICY only raises (R594). -/
def State.secPolicyWrite (s : State) (v : Nat) : State := s.wrN SEC_POLICY (setPolicy (s.rdN SEC_POLICY) v true)

/-! ### Tamper alarms (R593, R594, R598) -/

/-- The SECURITY records of latched alarms, by the firmware. -/
def State.alarmRecords (s : State) : State :=
  (s.sec.alarms.foldl (fun s a => (s.event .tamper a.1 a.2).group 6) s).modSec fun c => { c with alarms := [] }
/-- A KEY_LOAD of the same tick into a slot that an alarm erases is discarded and completes BUSY (R598). -/
def State.unload (s : State) : State :=
  match s.sec.loaded with
  | some (t, kind, tag) =>
    if t = s.tick && s.erasedNow kind then
      { s with completions := s.completions.map fun c => if c.tag = tag && c.opcode = 0x3400 && c.status == .ok then { c with status := .busy } else c }
    else s
  | none => s
/-- The sensors `m` raise an alarm in one check; lowered in the same tick, a policy still applies (R598); `utc` is the calendar clock in seconds.  BATT acts only while VIN is absent,
CLKGL and VGL only while it is present. -/
def State.tamperAlarm (s : State) (m utc : Nat) : State :=
  let live := (List.range 5).filter fun k => nbit m k && (if k = 4 then !s.pw.vin else if k = 1 || k = 2 then s.pw.vin else true)
  if live.isEmpty then s
  else
    let was := match s.sec.polWas with
      | some (t, w) => if t = s.tick then w else 0
      | none => 0
    let pol := fun k => max (nbits (s.rdN SEC_POLICY) (2 * k + 1) (2 * k)) (nbits was (2 * k + 1) (2 * k))
    let top := live.foldl (fun a k => max a (if pol k = 3 then 0 else pol k)) 0
    let s1 := live.foldl (fun s k => s.wrN SEC_TAMPER (nsetBit (s.rdN SEC_TAMPER) k true)) s
    let s2 := (if s.rd64N SEC_ALARMT = 0 then s1.wr64N SEC_ALARMT utc else s1).setf SEC_STAT SEC_STAT_ALARM
    let s3 := if top = 0 then s2 else ((s2.eraseKeys (top == 2)).modSec fun c => { c with erasedAt := some (s.tick, top == 2) }).unload
    let s4 := s3.modSec fun c => { c with alarms := c.alarms ++ live.map fun k => (k, top) }
    if s.pw.vin && s.pw.fwRun then s4.alarmRecords else s4
/-- ALARM follows SEC_TAMPER. -/
def State.alarmBit (s : State) : State := s.putB SEC_STAT SEC_STAT_ALARM (s.rdN SEC_TAMPER != 0)

/-! ### Debug access (R595) -/

/-- DEBUG_CHALLENGE: R0, R1 and R2. -/
def State.debugChallenge (s : State) : (Nat × Nat × Nat) × State :=
  let (a, s1) := s.freeWord64
  let (b, s2) := s1.freeWord
  let n := a.toNat + 2 ^ 64 * b.toNat
  ((n % 2 ^ 32, n / 2 ^ 32 % 2 ^ 32, n / 2 ^ 64), s2.modSec fun c => { c with challenge := some (n, s.tick) })
/-- 60 s after its issue a challenge expires. -/
def State.challengeExpiry (s : State) : State :=
  match s.sec.challenge with
  | some (_, t) => (s.advanceTo (t + 24000000000)).modSec fun c => { c with challenge := none }
  | none => s
/-- DEBUG_OPEN with its 128 bytes: the status, and the state. -/
def State.debugOpen (s : State) (p : List Byte) : Status × State :=
  let pub := p.take 64
  let good := match s.sec.challenge with
    | some (n, t) => decide (s.tick < t + 24000000000) && Config.sha256 pub == Config.dbgkh
        && Config.sigOk pub (leBytes 12 n ++ s.r4 SYS_ID ++ Config.devPub) ((p.drop 64).take 64)
    | none => false
  let n := s.get SEC_STAT SEC_STAT_DBGCNT
  if !good || 32 ≤ n then (.signature, s)
  else
    let s1 := ((s.eraseKeys true).modSec fun c => { c with challenge := none }).put SEC_STAT SEC_STAT_DBGCNT (n + 1)
    (.ok, ((s1.event .debugOpen 0xFF 2).group 6).setf SEC_STAT SEC_STAT_DBGOPEN)

/-! ### Integrity (R596) and the Active's release (R390) -/

/-- An error that is corrected or repeated is counted. -/
def State.eccCorrected (s : State) (m : MemPart) : State :=
  match m with
  | .dram => s.count SEC_INTCNT0 SEC_INTCNT0_DRAM
  | .sram => s.count SEC_INTCNT0 SEC_INTCNT0_SRAM
  | .fabric => s.count SEC_INTCNT1 SEC_INTCNT1_FABRIC
  | .pwmShadow _ => s
/-- An uncorrectable error: memories and fabric count it and raise an event, and the Active of a pair may release; a PWM
shadow discards the commit of its group and cuts its legs. -/
def State.uncorrectable (s : State) (m : MemPart) : State :=
  let counted := (s.count SEC_INTCNT1 SEC_INTCNT1_UNCORR).event .uncorrectable (match m with
    | .dram => 0
    | .sram => 1
    | _ => 2)
  match m with
  | .pwmShadow g =>
    let s1 := (s.count SEC_INTCNT1 SEC_INTCNT1_SHPAR).modPwm g fun q => { q with caps := [], perNext := none }
    ((s1.pwmCut g s1.now).modPwm g fun q => { q with parBad := true }).event .shadowParity g
  | .fabric => counted
  | _ =>
    if s.isActive && s.yields TW_YIELD_DRAMUE then ((s.count SEC_INTCNT1 SEC_INTCNT1_UNCORR).event .uncorrectable 3).twinRelease 5 else counted
/-- The Active releases for an unlocked PLL, at once, or for an LP in RECOVERY or HALTED where LPFAULT is set and the twin is
ready. -/
def State.activeRelease (s : State) : State :=
  if !s.flag SYS_CLK SYS_CLK_LOCK then s.twinRelease 2
  else if s.yields TW_YIELD_LPFAULT && (List.range 16).any (fun k => 2 ≤ s.lpMode k) then s.twinRelease 4 else s

end Sys2Proof.Machine
end

