-- ==== Sys2Proof/Machine/Timebase.lean ====
section
/-! DEFINITION. The control cycle (R44–R64): frame boundaries, the boundaries of the axes, the law runs of the LPs, commit
tokens. -/

namespace Sys2Proof.Machine

/-! ### Frame boundaries (R45–R48) -/

/-- The next frame boundary: number, instant (1/32 ticks), error left (1/32 ticks) and whether it needed more than the
allowance.  A re-phased grid, and one left behind by the present tick, is taken up at its exact instant: after a step or a
write of M the first that lies at least half a frame after the start of the frame in progress. -/
def State.nextFrame (s : State) : Nat × Nat × Int × Bool :=
  let F := if s.time.rephase then 12500 * s.get TB_FRAME TB_FRAME_M else s.frameLen
  let u := F * tickMt
  let first := fun mt : Nat => (mt + u - 1) / max 1 u
  let exact := fun n : Nat => (n, s.instantOf (n * u), (0 : Int), false)
  if s.time.rephase then exact (max (first (s.mtAt (s.time.frameStart + 16 * F))) (first s.time.mt))
  else
    let ideal := s.instantOf (s.time.frameNext * u)
    let (t, slip) := correct (s.time.frameStart + 32 * F) ideal F
    if s.now ≤ t + 31 then (s.time.frameNext, t, (t : Int) - ideal, slip) else exact (first s.time.mt)

/-- Every axis takes its next boundary from the frame boundary. -/
def State.gridsRestart (s : State) : State := s.forEach (List.range 80) fun s n => s.gridRestart n
/-- SLIP, and the event of R47. -/
def State.slip (s : State) (b : Bool) : State := if b then (s.setf TB_FRAME TB_FRAME_SLIP).event .frameSlip 0 else s

/-- The ports whose EPn_SYNC names this axis and cycle. -/
def State.portsAt (s : State) (n : Nat) (p : Nat → Bool) : List Nat :=
  idxWhere 40 fun e => s.get (EP_SYNC e) EP_SYNC_AXIS == n && p (s.get (EP_SYNC e) EP_SYNC_CYCLE)

/-- An own Dusk ramp, a torque-off or a master-loss continuation of an axis has ended, or none runs (R608);
a virtual axis has no enable and counts as enabled. -/
def State.rampEnded (s : State) (n : Nat) : Bool :=
  let m := s.mo n
  let at_ := s.mt16 s.now
  let own := match m.ramp with
    | some r => decide (r.endAt ≤ at_)
    | none => true
  let k := s.get (AX_SRC n) AX_SRC_MSEL - 0x80
  let cont := if s.flag (AX_STAT n) AX_STAT_MSYNC_STOP then
      match (s.shaft k).cont with
      | some r => decide (r.endAt ≤ at_)
      | none => true
    else true
  !((s.loop n).enabled || 64 ≤ n) || ((s.loop n).toff.isSome || (own && cont)) && !m.duskReq
/-- DUSKDONE is set in Dusk when every ramp has ended. -/
def State.duskCheck (s : State) : State :=
  if s.inDusk && !s.flag SYS_STATE SYS_STATE_DUSKDONE && (List.range 80).all s.rampEnded then s.setf SYS_STATE SYS_STATE_DUSKDONE else s

/-- A frame boundary falls. -/
def State.frameBoundary (s00 : State) : State :=
  if s00.pw.phase != Phase.running then s00
  else
    let s0 := if s00.time.stepPend.isSome then s00.advanceTo (s00.tick + 1) else s00
    let (num, t, err, slip) := s0.nextFrame
    let again := s0.time.rephase
    let s1 := s0.advanceTo (t / 32)
    let s2 := { s1 with time := { s1.time with
      m := s1.get TB_FRAME TB_FRAME_M, frameStart := t, frameNum := num, frameNext := num + 1, rephase := false } }
    let s3 := ((s2.wr64N TB_FCOUNT num).wrI TB_PHERR (sat32 err)).slip slip
    let s4 := if absI err < 1 then s3.clrf TB_FRAME TB_FRAME_SLEW else s3
    let s5 := if again || num ≠ s0.time.frameNext then s4.gridsRestart else s4
    let s6 := (s5.forEach (idxWhere 40 fun e => s5.get (EP_SYNC e) EP_SYNC_CYCLE == 3) fun s e => s.portSync e t).rmBoundary.epochChange.graceEnd
    let s6b := s6.forEach (List.range 32) fun s i => s.loopApplyAt (32 + i) (t / 32)
    let s7 := s6b.forEach (List.range 16) fun s k => s.shaftFrame k
    let s8 := s7.capTick 4 0 t
    let s9 := if s8.running then
        s8.forEach (idxWhere 16 fun k => s8.lpMode k == 1) fun s k =>
          s.enqueue { kind := .overhead, axis := k, b := t, at_ := t / 32, due := t + 32 * s.frameLen }
      else s8
    s9.planTick.duskCheck

/-- The present instant is that of the latest frame boundary. -/
def State.atFrame (s : State) : Bool := s.time.frameStart / 32 == s.tick
/-- Written AXn_TB and AXn_PHASE take effect at a frame boundary (R50, R51). -/
def State.tbEffect (s : State) (n : Nat) : State := if s.gridStale n && s.atFrame then s.gridAdopt n else s

/-! ### Boundaries of an axis (R49, R56) -/

/-- A run that is due joins its LP's queue, while loops run and the LP is in NORMAL. -/
def State.joinRun (s : State) (r : RunReq) : State :=
  if s.running && s.lpMode (s.lpOf r.axis) = 1 then s.enqueue r else s
/-- The next boundary of a law of an axis, `m` finest periods apart. -/
def State.lawDue (s : State) (n m : Nat) : Nat := (s.nextBoundary n m).2.2.1
def State.joinVel (s : State) (n : Nat) : State :=
  if !(s.grid n).velDue then s
  else
    let b := (s.loop n).inpV.b
    (s.modGrid n fun g => { g with velDue := false }).joinRun
      { kind := .vel, axis := n, b := b, at_ := b / 32, due := s.lawDue n (s.velCells n), inp := (s.loop n).inpV }
def State.joinPos (s : State) (n : Nat) : State :=
  if !(s.grid n).posDue then s
  else
    let b := (s.loop n).inp.b
    let s1 := s.modGrid n fun g => { g with posDue := false }
    if n < 32 || 64 ≤ n then
      s1.joinRun
        { kind := if n < 32 then .pos else .virt, axis := n, b := b, at_ := b / 32, due := s.lawDue n (s.posCells n), inp := (s.loop n).inp }
    else s1

/-- The next boundary of axis `n` whose index is a multiple of `m` falls: everything that follows the axis' boundaries
happens, and the laws due there are marked.  The words at the boundary are taken before a preset changes the count (R78, R93). -/
def State.axisBoundary (s00 : State) (n m : Nat) : State :=
  let (fr, k, t, slip) := s00.nextBoundary n m
  if s00.pw.phase != Phase.running || s00.time.frameNum < fr then s00
  else
    -- laws of the boundary before that have not joined
    let s0 := (s00.joinPos n).joinVel n
    let vel := k % max 1 (s0.velCells n) = 0
    let pos := k % max 1 (s0.posCells n) = 0
    let s1 := ((s0.advanceTo (t / 32)).modGrid n fun g => { g with fr := fr, k := k, last := t, curDue := true }).slip slip
    let S := s1.lawDue n 1 - t
    let second := s1.doubleUpd n && k % 2 = 1
    let aux := (idxWhere 8 fun j => s1.standalone j && s1.flag (PWMX_CFG j) PWMX_CFG_SYNC && s1.get (PWMX_CFG j) PWMX_CFG_AXIS == n).map (· + 32)
    let s2 := if n < 32 then
        let a := s1.pwmBoundary n t S second
        let b := if second then a else a.capTick 5 n t
        let c := b.forEach aux fun s g => (s.pwmBoundary g t S false).capTick 5 g t
        (c.placeWindow n t (t + S)).capTick 1 n t
      else s1
    let here := s2.portsAt n fun c => c == 0 || (c == 1 && vel) || (c == 2 && pos)
    let s2b := if pos && n < 32 then s2.loopApplyAt n (t / 32) else s2
    let s3 := s2b.forEach here fun s e => s.portTake e t
    let s4 := if vel then
        ((if n < 64 then s3.captureVel n t else s3).modGrid n fun g => { g with velDue := decide (n < 32) }).capTick 2 n t
      else s3
    let s5 := if pos then
        ((if n < 64 then s4.capturePos n t else s4.modLoop n fun l => { l with inp := { b := t } }).modGrid n fun g => { g with posDue := true }).capTick 3 n t
      else s4
    s5.forEach here fun s e => s.portAfter e t

/-- A position boundary: the next one falls where none is waiting, and the position law joins. -/
def State.positionBoundary (s : State) (n : Nat) : State :=
  (if (s.grid n).posDue then s else s.axisBoundary n (s.posCells n)).joinPos n
def State.velocityBoundary (s : State) (n : Nat) : State :=
  (if (s.grid n).velDue then s else s.axisBoundary n (s.velCells n)).joinVel n
/-- A current-update boundary: the next one falls, unless it fell with a boundary of a slower cycle. -/
def State.currentBoundary (s : State) (n : Nat) : State :=
  (if (s.grid n).curDue then s else s.axisBoundary n 1).modGrid n fun g => { g with curDue := false }

/-! ### Sync boundaries of the ports (R78, R82, R93, R94) -/

/-- Finest periods of the port's sync cycle; frame boundaries are its own for CYCLE 3. -/
def State.syncCells (s : State) (p : Nat) : Nat :=
  match s.get (EP_SYNC p) EP_SYNC_CYCLE with
  | 0 => 1
  | 1 => s.velCells (s.get (EP_SYNC p) EP_SYNC_AXIS)
  | _ => s.posCells (s.get (EP_SYNC p) EP_SYNC_AXIS)
/-- The instant of the next sync boundary of port `p`, and the length of its sync cycle in 1/32 ticks. -/
def State.syncInstant (s : State) (p : Nat) : Nat × Nat :=
  let n := s.get (EP_SYNC p) EP_SYNC_AXIS
  if s.get (EP_SYNC p) EP_SYNC_CYCLE = 3 then (s.nextFrame.2.1, 32 * s.frameLen)
  else ((s.nextBoundary n (s.syncCells p)).2.2.1, 32 * (s.cells n).1 * max 1 (s.syncCells p))
/-- The next sync boundary of port `p` falls, with all that follows it. -/
def State.syncRun (s : State) (p : Nat) : State :=
  let n := s.get (EP_SYNC p) EP_SYNC_AXIS
  if s.get (EP_SYNC p) EP_SYNC_CYCLE = 3 then s.frameBoundary
  else
    let s1 := if s.time.frameNum < (s.nextBoundary n (s.syncCells p)).1 then s.frameBoundary else s
    s1.axisBoundary n (s.syncCells p)
/-- PRESET_APPLY: a pending LOAD is applied at the next sync boundary (R93). -/
def State.presetRow (s : State) (p : Nat) : State := if (s.port p).load then s.syncRun p else s
/-- PORT_SETTINGS_EFFECT: written settings take effect at the next sync boundary (R94). -/
def State.settingsRow (s : State) (p : Nat) : State :=
  if (staged p).any fun a => s.rd a != s.ard a then s.syncRun p else s
/-- SSI_FRAME_START: the frame of the first sync boundary that can still have one starts at S = boundary − T_F − 8 (R82). -/
def State.ssiStartRow (s : State) (p : Nat) : State :=
  let (t, per) := s.syncInstant p
  let lead := 32 * (s.ssiFrameTime p + 8)
  let least := max (s.now + lead) (match (s.port p).ssi.forB with
    | some b => b + per / 2
    | none => 0)
  let b := t + per * ((least - t + per - 1) / max 1 per)
  if s.portOn p && s.portSsi p && s.drivesLands then (s.advanceTo ((b - lead) / 32)).ssiStart p b else s
/-- LEVEL_ACCEPTED: where a preset is pending and its sync boundary lies in the tick in which an index is accepted, the preset comes first and
the index is discarded (R94). -/
def State.levelRow (s : State) (p i : Nat) : State :=
  let due := match (vget (s.port p).pairs 2 {}).acceptTick (s.portN p) with
    | some t => (s.port p).load && t == (s.syncInstant p).1 / 32
    | none => false
  if i = 2 && s.portMode p ≠ 2 && due then
    let ab := fun (s : State) (j : Nat) => if s.pairDue p j ((s.syncInstant p).1 / 32) then s.levelAccepted p j else s
    ((ab (ab s 0) 1).syncRun p).levelAccepted p 2
  else s.levelAccepted p i
/-- LOOP_APPLY_EFFECT: the boundary at which the captured set takes effect falls (R195); of the next two boundaries one lies at least 16 ticks after
the APPLY. -/
def State.loopApplyRow (s : State) (n : Nat) : State :=
  let next := fun (s : State) =>
    if (s.loop n).capAt.isNone then s
    else if 32 ≤ n then s.frameBoundary
    else
      let s1 := if s.time.frameNum < (s.nextBoundary n (s.posCells n)).1 then s.frameBoundary else s
      s1.axisBoundary n (s.posCells n)
  next (next s)

/-- The next boundary of a leg group. -/
def State.groupBoundary (s : State) (g : Nat) : State :=
  if g < 32 then s.axisBoundary g 1
  else if s.freeRun g then s.auxStart (g - 32)
  else s.axisBoundary (s.get (PWMX_CFG (g - 32)) PWMX_CFG_AXIS) 1
/-- Captured commits of a group take effect at its next boundary (R248). -/
def State.commitEffect (s : State) (g : Nat) : State := if (s.pwm g).caps.isEmpty then s else s.groupBoundary g
/-- Written settings of ATCk take effect at a period start of the group that SRC names (R257). -/
def State.atcEffect (s : State) (k : Nat) : State :=
  if s.rd (ATC_CFG k) == s.ard (ATC_CFG k) && s.rd (ATC_WIN k) == s.ard (ATC_WIN k) then s else s.groupBoundary (s.get (ATC_CFG k) ATC_CFG_SRC)

/-! ### Law runs (R56–R60, R289) -/

/-- The duration in ticks of a standard run (R53), by kind. -/
def State.runTicks (s : State) (r : RunReq) : Nat :=
  let inj := if s.flag (LPINJ_STAT (s.lpOf r.axis)) LPINJ_STAT_RUNNING && s.get (LPINJ_CFG (s.lpOf r.axis)) LPINJ_CFG_AXIS = r.axis then 200 else 0
  let c := match r.kind with
    | .pos => 2400 + s.addedPos r.axis
    | .vel => 1800 + inj
    | .net => 3600 + s.addedPos r.axis + inj
    | .virt => 800 + s.addedPos r.axis + inj
    | .overhead => 2000
  (c + 1) / 2
/-- The number of a kind, as dispatch loads it into D1. -/
def runKindN : RunKind → Nat
  | .pos => 0
  | .vel => 1
  | .net => 2
  | .virt => 3
  | .overhead => 4
/-- Dispatch of a run to law code (R289). -/
def State.dispatchLaw (s : State) (k : Nat) (r : RunReq) : State :=
  let a := if r.kind == .overhead then 0xFF else r.axis
  let b := s.lpBank k
  let entry := if r.kind == .overhead then s.codeU16 k b 20
    else s.lawEntry k b (s.lawSlot k r.axis) (runKindN r.kind)
  s.modLp k fun l =>
    { l with
      run := some r, pc := entry, target := none
      main := { l.main.flush with
        d := (l.main.flush.d.set 0 (BitVec.ofNat 32 a)).set 1 (BitVec.ofNat 32 (runKindN r.kind))
        x := (l.main.flush.x.set 6 (BitVec.ofNat 32 (0x28000 + a * 0x100))).set 7 (BitVec.ofNat 32 (0x20000 + a * 0x100))
        } }
/-- A local or virtual run ends at tick `e`: late where its output comes after the next boundary of the law (R59). -/
def State.runEnd (s : State) (r : RunReq) (e : Nat) : State :=
  if r.kind == .overhead || r.kind == .net then s else if r.due < 32 * e then s.lateRun r.axis else s.onTime r.axis
/-- A run works on the inputs captured at its own boundary, though a later boundary may have fallen since (R55, R56). -/
def State.withInputs (s : State) (r : RunReq) (f : State → State) : State :=
  match r.kind with
  | .vel =>
    let own := (s.loop r.axis).inpV
    (f (s.modLoop r.axis fun l => { l with inpV := r.inp })).modLoop r.axis fun l => { l with inpV := own }
  | .pos | .virt =>
    let own := (s.loop r.axis).inp
    (f (s.modLoop r.axis fun l => { l with inp := r.inp })).modLoop r.axis fun l => { l with inp := own }
  | _ => f s
/-- The run at the head of an LP's queue is made, where it is of this kind and axis: a standard law takes its ticks from the
later of its joining and the end of the run before, and its outputs appear at its end; law code is dispatched. -/
def State.runLaw (s : State) (kind : RunKind) (axis : Nat) (f : State → State) : State :=
  let k := if kind == .overhead then axis else s.lpOf axis
  match s.queue k with
  | [] => s
  | r :: _ =>
    if r.kind != kind || r.axis != axis || (s.lp k).run.isSome || s.lpMode k ≠ 1 then s
    else
      -- a swap that waited for a run of the frame before is made ahead of the first run that starts after its boundary (R63)
      let flip := match (s.lp k).swapWait with
        | some T => decide (T ≤ max r.at_ (s.lp k).free)
        | none => false
      let s := if flip then s.lpSwapDue k else s
      let start := max r.at_ (s.lp k).free
      let s0 := s.modQueue k fun q => q.drop 1
      if !s.isStd k (s.lpBank k) then (s0.advanceTo start).dispatchLaw k r
      else
        let e := start + s.runTicks r
        let s1 := { s0 with time := { s0.time with tick := e, mt := s.mtAt (32 * e), runAt := start } }
        let s2 := s1.withInputs r f
        (({ s2 with time := s.time }.modLp k fun l => { l with free := e }).runEnd r e).duskCheck
/-- The signals of the catalogue before a run, and the tick at which it published (R547). -/
def State.withOuts (s : State) (n : Nat) (f : State → State) : State :=
  (f (s.modLoop n fun l => { l with outs := s.axisOuts n })).modLoop n fun l => { l with outsAt := s.tick }
def State.positionRun (s : State) (n : Nat) : State :=
  s.runLaw .pos n fun s => (s.regMissOf n (s.loop n).inp.b).withOuts n fun s => s.posRun n
def State.velocityRun (s : State) (n : Nat) : State := s.runLaw .vel n fun s => s.withOuts n fun s => s.velRun n
/-- A network run: the inputs are those of the frame boundary; its torque is in the buffer at the slot where it appears in
an earlier tick (R57, R59). -/
def State.networkRun (s : State) (n : Nat) : State :=
  let slot := s.time.frameStart / 32 + s.get RM_CYC RM_CYC_TXSLOT
  s.runLaw .net n fun s =>
    let b := s.time.frameStart
    let s1 := ((s.captureVel n b).capturePos n b).modNet (n - 32) fun x => { x with due := false, ran := decide (s.tick < slot) }
    (s1.regMissOf n b).withOuts n fun s => s.netRun n
def State.virtualRun (s : State) (n : Nat) : State :=
  s.runLaw .virt n fun s => (s.regMissOf n (s.loop n).inp.b).withOuts n fun s => s.virtRun n
/-- INJ_DONE: the run in which the generator of LPk completes DUR runs (R194). -/
def State.injDoneRow (s : State) (k : Nat) : State :=
  let n := s.get (LPINJ_CFG k) LPINJ_CFG_AXIS
  let dur := s.rdN (LPINJ_DUR k)
  if !s.flag (LPINJ_STAT k) LPINJ_STAT_RUNNING || dur = 0 || (s.inj k).k + 1 < dur then s
  else if n < 32 then s.velocityRun n else if n < 64 then s.networkRun n else s.virtualRun n
def State.overheadRun (s : State) (k : Nat) : State := s.runLaw .overhead k id
/-- END of law code: the run ends, and R59 applies to it. -/
def State.lpEndRow (s : State) (k : Nat) : State :=
  let s1 := s.lpEnd k
  match (s.lp k).run with
  | some r => if (s1.lp k).run.isNone && s1.lpMode k = 1 then s1.runEnd r s1.tick else s1
  | none => s1
/-- The recovery law of an axis at its position boundary (R296). -/
def State.recoveryRow (s : State) (n : Nat) : State := (s.recoveryRun n).duskCheck

/-- CLR of AXn_LATE (R59). -/
def State.lateClr (s : State) (n : Nat) : State :=
  ((s.put (AX_LATE n) AX_LATE_COUNT 0).put (AX_LATE n) AX_LATE_RUN 0).put (AX_LAT n) AX_LAT_MAX 0

/-! ### Commit tokens (R61–R64) -/

/-- The lead that ARM and CANCEL need: 16 ticks; 256 on the Active of a pair (R385). -/
def State.tokenLead (s : State) : Nat := if s.paired && s.isActive then 256 else 16
/-- Ticks that remain before the boundary of frame `f`. -/
def State.ticksTo (s : State) (f : Nat) : Nat :=
  let (num, t, _, _) := s.nextFrame
  (t / 32 + (f - num) * s.frameLen) - s.tick
def State.tokState (s : State) (k : Nat) : Nat := s.get (CTOK_CTRL k) CTOK_CTRL_STATE
def State.tokMask (s : State) (k i : Nat) : Nat := s.rdN (match i with
  | 0 => CTOK_PWM k
  | 1 => CTOK_CLE k
  | _ => CTOK_LP k)
/-- A member of the token is not ready: an LP without a verified inactive bank, or a member of another pending token. -/
def State.tokUnready (s : State) (k : Nat) : Bool :=
  (List.range 16).any (fun l => nbit (s.tokMask k 2) l && s.get (bankReg l (!s.lpBank l)) LP_BANKA_STATE != 2) ||
    (List.range 8).any fun j => j != k && s.tokState j == 1 &&
      (List.range 3).any fun i => (BitVec.ofNat 32 (s.tokMask k i) &&& BitVec.ofNat 32 (s.tokMask j i)) != 0
/-- The LPs of a token show SWAPPEND. -/
def State.tokSwap (s : State) (k : Nat) (b : Bool) : State :=
  s.forEach (idxWhere 16 fun l => nbit (s.tokMask k 2) l) fun s l => s.putB (LP_STAT l) LP_STAT_SWAPPEND b
/-- ARM. -/
def State.tokenArm (s : State) (k : Nat) : State :=
  if s.tokState k = 1 then s
  else
    let (num, _, _, _) := s.nextFrame
    let near := s.ticksTo num < s.tokenLead
    let target := if s.flag (CTOK_CTRL k) CTOK_CTRL_NEXT then (if near then num + 1 else num) else s.rd64N (CTOK_TARGET k)
    let st := if target < num || s.ticksTo target < s.tokenLead then 3 else if s.tokUnready k then 4 else 1
    let s1 := s.put (CTOK_CTRL k) CTOK_CTRL_STATE st
    if st = 1 then ({ s1 with time := { s1.time with tok := vmod s1.time.tok k fun _ => target } }).tokSwap k true else s1
/-- A pending token ends without execution. -/
def State.tokenDrop (s : State) (k st : Nat) : State :=
  let s1 := ((s.put (CTOK_CTRL k) CTOK_CTRL_STATE st).tokSwap k false).forEach (idxWhere 32 fun n => nbit (s.tokMask k 0) n) fun s n =>
    s.modPwm n fun q => match q.tokCap with
      | some l => { q with tokCap := none, fieldPart := l.map (·.1) ++ q.fieldPart.filter fun a => !(l.any fun x => x.1 == a) }
      | none => q
  (s1.forEach (idxWhere 32 fun n => nbit (s.tokMask k 1) n) fun s n => s.modCle n fun c => { c with late := [] }).resolve .token k .tokenRefused st
/-- CANCEL. -/
def State.tokenCancel (s : State) (k : Nat) : State :=
  if s.tokState k = 1 && s.tokenLead ≤ s.ticksTo (vget s.time.tok k 0) then s.tokenDrop k 5 else s
/-- Every pending token is cancelled by a state change. -/
def State.tokensCancel (s : State) : State := s.forEach (idxWhere 8 fun k => s.tokState k == 1) fun s k => s.tokenDrop k 6
/-- The staged fields that a pending token carries are kept apart from a write within the last ticks before its boundary
(R64). -/
def State.tokenHold (s : State) (n : Nat) : State :=
  match s.tokenHolds CTOK_PWM n with
  | none => s
  | some k =>
    if s.ticksTo (vget s.time.tok k 0) < 16 && (s.pwm n).tokCap.isNone then
      s.modPwm n fun q => { q with tokCap := some (q.fieldPart.map fun a => (a, s.rd a)), fieldPart := [] }
    else s
/-- A write to the inactive bank of a CLE member lands within the last ticks before the boundary, or before the swap that follows it: it stays staged
(R64), and after the swap it stands in the bank that is inactive then (DEDUCED). -/
def State.cleTooLate (s : State) (n : Nat) : Bool :=
  (s.cle n).tokSwap || (match s.tokenHolds CTOK_CLE n with
    | some k => decide (s.ticksTo (vget s.time.tok k 0) < 16)
    | none => false)
/-- A change to Dusk or Night takes effect in this tick, where the present frame boundary lies in it (R64). -/
def State.leaving (s : State) : Bool :=
  match s.pw.decided, s.pw.want with
  | some (t, _), _ => t == 4 || (t == 3 && s.inNoon)
  | none, some (t, _, _) => s.inNoon && (t == 1 || t == 3)
  | none, none => false
/-- A token executes at the first frame boundary whose number reaches its target: every member switches (R63); of a PWM member
the field part transfers (R249). -/
def State.tokenExecute (s : State) (k : Nat) : State :=
  if s.tokState k ≠ 1 || s.time.frameNum < vget s.time.tok k 0 then s
  else if s.atFrame && s.leaving then s.tokenDrop k 6
  else
    let t := s.time.frameStart / 32
    let s1 := s.forEach (idxWhere 32 fun n => nbit (s.tokMask k 0) n) fun s n =>
      let q := s.pwm n
      let words := q.tokCap.getD (q.fieldPart.map fun a => (a, s.rd a))
      s.modPwm n fun (q : PwmSt) =>
        { q with tokCap := none, fieldPart := if q.tokCap.isSome then q.fieldPart else [], caps := q.caps ++ [PwmCommit.mk (t - 2) words true] }
    let s2 := s1.forEach (idxWhere 32 fun n => nbit (s.tokMask k 1) n) fun s n =>
      (s.swapRequest n).modCle n fun c => { c with swapAt := some (t - 16), tokSwap := true }
    let s3 := s2.forEach (idxWhere 16 fun l => nbit (s.tokMask k 2) l) fun s l => s.lpSwap l
    ((s3.put (CTOK_CTRL k) CTOK_CTRL_STATE 2).wrN (CTOK_DONE k) t).resolve .token k .ok 2 (t % 2 ^ 32)

end Sys2Proof.Machine
end

