-- ==== Sys2Proof/Machine/Startup.lean ====
section
/-! DEFINITION. Resets, start-up and the operating states (R16–R22, R601–R615). -/

namespace Sys2Proof.Machine

def State.modPw (s : State) (f : PowerSt → PowerSt) : State := { s with pw := f s.pw }

/-! ### Module reset (R21, R601, R602) -/

/-- Put the words at some addresses as they stand in another state. -/
def State.keepRegs (s old : State) (as : List Nat) : State := as.foldl (fun s a => s.wr a (old.rd a)) s
/-- What a module reset keeps of the Stud book: records, numbering, wear. -/
def LogSt.kept (l : LogSt) : LogSt :=
  { next := l.next, store := l.store, block := l.block, used := l.used, retired := l.retired, erases := l.erases
    calBad := l.calBad, clears := l.clears }
/-- Module reset is asserted with a cause code.  Key SRAM, fuse counts, the Stud book, the Hayloft, DRAM, the firmware images,
the configuration store, the safety channels' stores and the levels at the lands stay.  The safety die is not reset while it keeps its supply (R21, R41): channel B runs on and at its
next cycle finds that the exchange fails; the ages, OVERDUE and LOCK of the brake tests run on (of a loss of VIN the spec says nothing: DESIGN CHOICE, they are kept). -/
def State.moduleReset (s : State) (cause : Nat) : State :=
  let base : State :=
    { pending := s.pending, variantF := s.variantF, freeCount := s.freeCount
      sec := { s.sec with challenge := none, erasedAt := none, loaded := none, polWas := none }
      mem := { hay := s.mem.hay, dram := s.mem.dram, fw := s.mem.fw }
      log := s.log.kept
      safe := { slots := s.safe.slots, keySet := s.safe.keySet, lastChk := s.safe.lastChk, btPass := s.safe.btPass.map (· - s.tick)
                chs := if s.isS && 1 < cause then vmod (Vector.replicate 2 {}) 1 fun _ => { s.ch 1 with sbc := [] } else Vector.replicate 2 {}
                ins := if s.isS && 1 < cause then s.safe.ins.map fun x => { x with since := x.since.map (· - s.tick) } else s.safe.ins.map fun x => { a := x.a, b := x.b }
                dec := if s.isS && 1 < cause then s.safe.dec.map fun c =>
                    let d := c.settle s.now
                    { d with a := { d.a with pend := d.a.pend.map (· - s.now), eq := d.a.eq.map (· - s.now) }
                             b := { d.b with pend := d.b.pend.map (· - s.now), eq := d.b.eq.map (· - s.now) } }
                  else Vector.replicate 40 {}
                longHigh := s.safe.longHigh }
      trips := s.trips.map fun t => { level := t.level }
      ports := s.ports.map fun e => { pairs := e.pairs.map fun q => { p := q.p, n := q.n } }
      latches := s.latches.map fun l => { pair := { p := l.pair.p, n := l.pair.n } }
      host := { perst := s.host.perst, posted := s.host.posted }
      pw := { vin := s.pw.vin, low := s.pw.low, cause := cause, resets := min 65535 (s.pw.resets + 1), prefB := s.pw.prefB
              ofs := s.pw.ofs, bootWord := s.pw.bootWord, imageB := s.pw.imageB } }
  let s1 := base.keepRegs s ([SEC_TAMPER, SEC_POLICY, SEC_ALARMT, SEC_ALARMT + 4, SEC_SVN] ++ (List.range 5).map SEC_SLOTS ++ (List.range 8).map SF_BT)
  (s1.put SEC_STAT SEC_STAT_DBGCNT (s.get SEC_STAT SEC_STAT_DBGCNT)).putB TW_STAT TW_STAT_PRIMARY s.primary |>.alarmBit

/-- VIN rises through 10.2 V after it has been below 5.0 V. -/
def State.powerOn (s : State) : State :=
  if s.pw.vin || !s.pw.low then s else (s.moduleReset 1).modPw fun p => { p with vin := true, low := false }
/-- VIN falls below 9.8 V for more than 2 µs without falling below 5.0 V. -/
def State.brownOut (s : State) : State := if s.pw.vin then s.moduleReset 2 else s
/-- LOCK stays 0 for 100 µs on the TCXO. -/
def State.clockReset (s : State) : State := if s.pw.vin then s.moduleReset 3 else s
/-- VIN falls below 5.0 V: volatile memory is lost; without VBAT the battery domain too (R21). -/
def State.powerLoss (s : State) (vbat : Bool) : State :=
  let s1 := (s.moduleReset 1).modPw fun p => { p with vin := false, low := true, resets := s.pw.resets }
  let s2 := { s1 with mem := { fw := s.mem.fw } }
  if vbat then s2
  else ((s2.eraseKeys true).modSec fun c => { c with dirBad := true }).modLog fun l => { l with calBad := true }

/-- Reset is released: the key engine checks its directory (R587), the trip lands are watched (R255). -/
def State.resetRelease (s : State) : State :=
  if !s.pw.vin || s.pw.phase != Phase.held then s
  else
    let s1 := ((s.modPw fun p => { p with phase := .released }).wrN SYS_RSTCAUSE (65536 * s.pw.resets + s.pw.cause)).wr SYS_BOOT s.pw.bootWord
    let s2 := if s.sec.dirBad then
        (((s1.eraseKeys true).setf SEC_STAT SEC_STAT_KEYLOST).modSec fun c => { c with dirBad := false }).event .keyLost 0
      else s1
    s2.newNonce.forEach (List.range 36) fun s i => s.tripWatch i s.now
/-- The PLL locks: tick 0. -/
def State.pllLock (s : State) : State :=
  if s.pw.phase != Phase.released then s
  else (s.modPw fun p => { p with phase := .running }).setf SYS_CLK SYS_CLK_LOCK

/-! ### Boot (R604–R606) -/

/-- DONE, PASS and, where a failure holds the module in Dawn, the STATE record, once the DRAM has been initialised and the other tests
have ended (R606). -/
def State.testsEnd (s : State) : State :=
  if !s.pw.dram || !s.pw.tested then s
  else
    let v := s.rdN SYS_STEST
    let hold := v / 2 ^ 26 % 16 != 0 || v / 2 ^ 16 % 256 != 0
    let s1 := (s.setf SYS_STEST SYS_STEST_DONE).putB SYS_STEST SYS_STEST_PASS (!hold)
    if hold then (s1.event .stateChange 0 (2 ^ 24 * (s1.rdN SYS_STEST / 2 ^ 16) : Nat)).group 0 else s1
/-- DRAM initialisation ends 167.8 ms after tick 0. -/
def State.dramDone (s : State) (bad : Bool) : State :=
  if s.pw.phase != Phase.running || s.pw.dram then s
  else
    let s1 := (s.advanceTo 67108864).modPw fun p => { p with dram := true, dramBad := bad }
    (if bad then s1.setf SYS_STEST SYS_STEST_DRAM else s1).testsEnd
/-- Why the boot ROM refuses an image, coded as FAILWHY. -/
def State.bootFault (s : State) (i : BootImage) : Nat :=
  if !i.reads then 3 else if !i.signed then 1 else if i.svn.toNat < s.rdN SEC_SVN then 2 else 0
/-- The boot ROM tries the preferred image, then the other one: 2 ms per MiB from the tick at which the lowest 256 MiB of
DRAM are ready. -/
def State.bootSelect (s : State) (pref other : BootImage) : State :=
  if s.pw.phase != Phase.running || s.pw.booted then s
  else
    let w1 := s.bootFault pref
    let w2 := s.bootFault other
    let t1 := 4194304 + 800000 * pref.mib.toNat
    let t := if w1 = 0 then t1 else t1 + 800000 * other.mib.toNat
    let b := if w1 = 0 then s.pw.prefB else !s.pw.prefB
    let fail := w1 ≠ 0 && w2 ≠ 0
    let word := b2n fail * 2 ^ 31 + b2n (w1 ≠ 0 && w2 = 0) * 2 ^ 30 + b2n (b && !fail) * 2 ^ 29 + w1
    ((s.advanceTo t).wrN SYS_BOOT word).modPw fun p =>
      { p with
        booted := !fail, imageB := b, prefB := if fail then p.prefB else b, bootAt := t, bootWord := BitVec.ofNat 32 word
        svn := if w1 = 0 then pref.svn.toNat else other.svn.toNat }
/-- The firmware starts: module time from the calendar clock plus OFS, the Stud book found, POWER_UP written. -/
def State.firmwareStart (s : State) (utc : Option Word64) (torn : Bool) : State :=
  if !s.pw.booted || s.pw.fwRun || !s.inDawn || s.pw.phase != Phase.running || s.pw.restart.isSome then s
  else
    let s1 := (s.advanceTo s.pw.bootAt).modPw fun p => { p with fwRun := true, fwAt := s.pw.bootAt }
    let s2 := s1.put NT_UTC NT_UTC_OFS (s.pw.ofs % 128).toNat
    let s3 := match utc with
      | some u =>
        if s.log.calBad then s2
        else { s2 with time := { s2.time with mt := (((u.toNat : Int) + s.pw.ofs) * second32).toNat, rephase := true } }
      | none => { s2 with log := { s2.log with calBad := true } }
    let (w, s4) := s3.freeWord64
    let s5 := (((s4.wr64 LOG_NONCE w).wrN LOG_CLRCNT s.log.clears).modLog fun l => { l with torn := torn }).rangeRegs.wearRegs
    (s5.event .powerUp 0).alarmRecords
/-- The Dawn self-tests end 25 ms after the firmware started (R606): SRAM, fabric, PWM, CLE and LP results.  Bank A of every LP
that passes holds the standard law image, VERIFIED. -/
def State.selfTest (s : State) (sram fabric pwm : Bool) (cle : Byte) (lp : BitVec 16) : State :=
  if !s.pw.fwRun || !s.inDawn || s.pw.tested then s
  else
    let v := b2n fabric * 2 ^ 29 + b2n pwm * 2 ^ 28 + b2n s.pw.dramBad * 2 ^ 27 + b2n sram * 2 ^ 26
      + cle.toNat * 2 ^ 16 + lp.toNat
    let s1 := ((s.advanceTo (s.pw.fwAt + 10000000)).wrN SYS_STEST v).modPw fun p => { p with tested := true }
    let s2 := s1.forEach (List.range 16) fun s k =>
      if nbit lp.toNat k then s.put (LP_STAT k) LP_STAT_MODE 3
      else (((s.put (LP_BANKA k) LP_BANKA_STATE 2).put (LP_BANKA k) LP_BANKA_LENW (64 + Config.stdLen.val)).modLp k fun l => { l with stdA := true }).lpRegs k
    s2.testsEnd

/-! ### Transitions (R607, R608) -/

/-- Loops stop: every slot leaves RUN, every axis is disabled, runs that wait are dropped. -/
def State.stopLoops (s : State) : State :=
  let s1 := s.forEach (List.range 32) fun s a => s.cleLeave a
  let s2 := s1.forEach (List.range 80) fun s n => ((s.injAbort n).stopMotion n).modLoop n fun l => { l with enabled := false, toff := none }
  { s2 with runQ := Vector.replicate 16 [] }
/-- The law states at entry to Noon (R179).  The repetitive controller, too, starts from its first run's coordinate (DEDUCED). -/
def AxLoop.fresh (l : AxLoop) : AxLoop :=
  { l with
    iP := 0, fD := 0, ePrev := 0, aPrev := 0, first := true, vlimSign := 0, vc := 0, aS := 0, jS := 0, vcOld := 0, aSOld := 0, jSOld := 0
    iV := 0, vHat := 0, tL := 0, tPrev := 0, tlimSign := 0, bq0 := {}, bq1 := {}, nt0 := (0, 0), nt1 := (0, 0), ovRuns := 0
    tRep := 0, tRepOld := 0, repX := none, tq := none, tqOld := none, posAt := none, runB := none, toff := none }
/-- What an axis does at entry to Noon: its law states are fresh; a law that R175 had moved onto the other port goes back where its own port is
valid again, of which the spec says nothing (DESIGN CHOICE); p₁₀ and p₂₀ are taken (R177); and the source of AXn_SRC engages anew in the
first run, also where an own Dusk ramp had decoupled the axis (DESIGN CHOICE). -/
def State.noonAxis (s : State) (n : Nat) : State :=
  let back := s.fbValid n (s.posPort n)
  let backV := s.fbValid n (s.velPort n)
  let s1 := (s.modLoop n fun l => let l := l.fresh; { l with alt := l.alt && !back, altV := l.altV && !backV }).modMo n fun m =>
    { m with off := false, engage := true, mPrev := none }
  if n < 64 then (s1.putB (AXL_LSTAT n) AXL_LSTAT_FBALT ((s1.loop n).alt || (s1.loop n).altV)).devRefs n s.now else s1
/-- SR at its reset value 0x2000_0000 on an entry to Morning (R273): IE set, no repeat level, all else clear. -/
def LpSet.srReset (q : LpSet) : LpSet :=
  { q.flush with
    n := false, z := false, c := false, v := false, av := false, avs := false, inx := false, satf := false, satm := false, ie := true, rep := [] }
/-- The module enters a state. -/
def State.enter (s : State) (st cause : Nat) : State :=
  let old := s.opState
  let s1 := ((s.put SYS_STATE SYS_STATE_STATE st).put SYS_STATE SYS_STATE_DCAUSE cause).clrf SYS_STATE SYS_STATE_DUSKDONE
  let s2 := if st = 1 || st = 4 then s1.stopLoops else s1
  let s3 := match st with
    | 1 => let s2 := s2.forEach (List.range 16) fun s k => s.modLp k fun l => { l with main := l.main.srReset, shadow := l.shadow.srReset }
      if old = 0 then
        (s2.forEach (List.range 16) fun s k => if s.lpMode k = 0 then (s.put (LP_STAT k) LP_STAT_MODE 1).lpRegs k else s)
      else s2
    | 2 => s2.forEach (List.range 80) State.noonAxis
    | 3 => (s2.modPw fun p => { p with duskAt := some s.tick }).tokensCancel.forEach (List.range 80) fun s n =>
        let m := s.mo n
        let s0 := s.injAbort n
        if ((s.loop n).enabled || (64 ≤ n && s.srcOf n ≠ 0)) && m.ramp.isNone && !s.flag (AX_STAT n) AX_STAT_MSYNC_STOP && (s.loop n).toff.isNone then
          s0.modMo n fun m => { m with duskReq := true }
        else s0
    | 4 => s2.tokensCancel.safeNight.coAllIdle
    | _ => s2
  let s4 := s3.forEach (List.range 40) fun s g => s.pwmDrive g s.now
  ((s4.event .stateChange 0 ((old + 256 * st + 65536 * cause : Nat) : Int)).group 0).duskCheck

/-- Entry to Morning from Dawn (R604 step 6), at a frame boundary. -/
def State.morningEntry (s : State) : State :=
  let banks := (List.range 16).all fun k => s.get (LP_BANKA k) LP_BANKA_STATE == 2 || s.lpMode k == 3
  if s.inDawn && s.pw.fwRun && s.pw.dram && s.pw.tested && s.flag SYS_STEST SYS_STEST_PASS && banks && s.atFrame then s.enter 1 2 else s

/-- The SET_STATE in progress completes. -/
def State.wantDone (s : State) (st : Status) (r0 : Nat) : State :=
  match s.pw.want with
  | some (_, tag, _) => (s.modPw fun p => { p with want := none }).finish tag st r0
  | none => s
/-- A decided or commanded transition takes effect: Night in the tick of its cause, the others at a frame boundary. -/
def State.stateChange (s : State) : State :=
  match s.pw.decided, s.pw.want with
  | some (4, c), _ => (((s.modPw fun p => { p with decided := none }).enter 4 c).wantDone .badState 4)
  | some (t, c), _ =>
    if !s.atFrame then s
    else
      let s1 := s.modPw fun p => { p with decided := none }
      if t = 3 && s.inNoon then
        let s2 := s1.enter 3 c
        match s.pw.want with
        | some (3, _, _) => s2.wantDone .ok 0
        | _ => s2
      else s1
  | none, some (t, _, c) =>
    if !s.atFrame then s
    else if t = 1 then
      (if s.inNoon then s.enter 3 1
       else if s.inDusk then (if s.flag SYS_STATE SYS_STATE_DUSKDONE then (s.enter 1 c).wantDone .ok 0 else s)
       else (s.enter 1 c).wantDone .ok 0)
    else if t = 2 then (s.enter 2 c).wantDone .ok 0
    else (if s.inNoon then s.enter 3 c else s).wantDone .ok 0
  | none, none => s

/-! ### Decisions of the firmware (R610) -/

/-- The decision on an event: state, cause code, bell cause. -/
def State.verdict (s : State) (e : Event) : Option (Nat × Nat × Nat) :=
  match e.kind with
  | .globalFault => some (4, 3, 2)
  | .lpHalted => if s.running then some (4, 0x0A, 2) else none
  | .shaftLost => if (s.followers e.unit).isEmpty then none else some (3, 4, 4)
  | .hostWatchdog => if s.get HOST_WDT HOST_WDT_HWACT = 2 then some (3, 5, 1) else none
  | .uncorrectable => if e.unit ≤ 1 then some (3, 6, 1) else none
  | _ => none
/-- The firmware looks at the events raised since: decisions for Night replace those for Dusk, and the first of two for Dusk
stands.  An axis whose torque-off has ended is disabled. -/
def State.firmwareDecision (s : State) : State :=
  if !s.pw.fwRun then s
  else
    let s1 := (s.events.drop s.pw.seen).foldl (fun s e =>
      match s.verdict e with
      | none => s
      | some (st, c, bell) =>
        let now := match s.pw.decided with
          | some (4, _) => false
          | some _ => st == 4
          | none => true
        if s.inNight || s.inDawn || !now || (st == 3 && !s.inNoon) || (st == 4 && s.inNight) then s
        else (s.modPw fun p => { p with decided := some (st, c) }).notice bell) s
    let s2 := s1.modPw fun p => { p with seen := s.events.length }
    s2.forEach (List.range 64) fun s n =>
      if (s.loop n).toff.isSome && (s.loop n).tRef == 0 then
        let s3 := s.modLoop n fun l => { l with enabled := false, toff := none }
        if n < 32 then s3.cleLeave n else s3
      else s

/-! ### Yard watchdog, firmware restart, host reset (R395, R592, R607, R613) -/

/-- The yard cores restart on image `b`. -/
def State.beginRestart (s : State) (b : Bool) (tag : Option Nat) : State :=
  ((((s.modPw fun p => { p with fwRun := false, restart := some (s.tick, b, tag), newSvn := none }).lockForce fun o => 2 ≤ o && o ≤ 9).modTw fun t =>
    { t with unhealthy := true }) |> fun s => { s with groom := { s.groom with stopped := true } })
/-- The yard-core watchdog expires: the second time within 60 s it resets the module. -/
def State.yardWatchdog (s : State) : State :=
  if !s.pw.fwRun then s
  else
    let again := match s.pw.wdFirst with
      | some t => decide (s.tick ≤ t + 24000000000)
      | none => false
    if again then s.moduleReset 4 else (s.modPw fun p => { p with wdFirst := some s.tick }).beginRestart s.pw.imageB none
/-- The yard cores run again: on the image chosen, or where it fails its check on the old one. -/
def State.restartDone (s : State) (ok : Bool) (svn : Word) : State :=
  match s.pw.restart with
  | none => s
  | some (_, b, tag) =>
    let old := s.pw.imageB
    let now := if ok then b else old
    let (c0, s1) := s.freeWord
    let (c1, s2) := s1.freeWord
    let s3 := s2.modPw fun p =>
      { p with fwRun := true, restart := none, imageB := now, prefB := now, svn := if ok then svn.toNat else p.svn
               newSvn := if ok && b != old then some (svn.toNat, s.tick) else none, verified := false }
    let s4 := (s3.putB SYS_BOOT SYS_BOOT_IMAGE now).modTw fun t => { t with unhealthy := false }
    let s5 := ({ s4 with groom := { s4.groom with stopped := false } }.modPw fun p => { p with bootWord := s4.rd SYS_BOOT }).modLog fun l =>
      { l with resumed := s.time.mt }
    let s6 := (s5.event .fwRestart 0 ((b2n old + 2 * b2n now + 4 * c0.toNat + 2 ^ 34 * c1.toNat : Nat) : Int)).event .update 0xFF
      ((b2n (if ok then b else !old) + 2 * (if ok then 0 else 0x020B) : Nat) : Int)
    match tag with
    | some t => s6.finish t (if ok then .ok else .signature) (b2n now)
    | none => s6
/-- After 60 s of a restarted bundle in Morning, Noon or Dusk the fuse SVN follows it. -/
def State.svnAdvance (s : State) : State :=
  match s.pw.newSvn with
  | some (v, t) =>
    if s.inMorning || s.inNoon || s.inDusk then
      ((s.advanceTo (t + 24000000000)).wrN SEC_SVN (max v (s.rdN SEC_SVN))).modPw fun p => { p with newSvn := none }
    else s
  | none => s
/-- A write of SYS_RESET; in the tick of the entry to Noon it is ignored (R614). -/
def State.sysReset (s : State) (v : Nat) : State :=
  let toNoon := s.inMorning && s.atFrame && s.pw.decided.isNone && (match s.pw.want with
    | some (2, _, _) => true
    | _ => false)
  if v % 65536 = 0xDA57 && (s.inMorning || s.inNight) && !toNoon then s.moduleReset 5 else s.badAcc SYS_RESET true

/-! ### The PLL reference (R19, R20) -/

/-- A write of SYS_CLK. -/
def State.sysClk (s : State) (v : Nat) : State :=
  let s1 := s.putB SYS_CLK SYS_CLK_AUTO_RET (nbit v 3)
  let s2 := if nbit v 6 then s1.clrf SYS_CLK SYS_CLK_REF_LOST else s1
  let src := v % 4
  if !s.inMorning || src = 3 then s2
  else
    let s3 := s2.put SYS_CLK SYS_CLK_SRC src
    let here := s.get SYS_CLK SYS_CLK_ACTIVE_SRC
    let s4 := { s3 with time := { s3.time with refWait := src ≠ 0 && here ≠ src, refGone := false } }
    if here = src then s4 else s4.put SYS_CLK SYS_CLK_ACTIVE_SRC 0
/-- Eight reference periods are missing: the PLL moves to, or stays on, the TCXO, and no longer waits for a first run of periods (R19). -/
def State.refLost (s : State) : State :=
  if s.get SYS_CLK SYS_CLK_ACTIVE_SRC = 0 && !s.time.refWait then s
  else
    let s1 := ((s.setf SYS_CLK SYS_CLK_REF_LOST).put SYS_CLK SYS_CLK_ACTIVE_SRC 0).event .refLost 0
    { s1 with time := { s1.time with refGone := true, refWait := false } }
/-- REF_IN has been good for 1 s. -/
def State.refReturn (s : State) : State :=
  if s.time.refGone && s.flag SYS_CLK SYS_CLK_AUTO_RET then
    let s1 := s.put SYS_CLK SYS_CLK_ACTIVE_SRC (s.get SYS_CLK SYS_CLK_SRC)
    { s1 with time := { s1.time with refGone := false, refWait := false } }
  else s
/-- The first run of 8 reference periods after a write of SRC. -/
def State.refAcquire (s : State) : State :=
  if s.time.refWait then
    let s1 := s.put SYS_CLK SYS_CLK_ACTIVE_SRC (s.get SYS_CLK SYS_CLK_SRC)
    { s1 with time := { s1.time with refWait := false, refGone := false } }
  else s

end Sys2Proof.Machine
end

