-- ==== Sys2Proof/Machine/Host.lean ====
section
/-! DEFINITION. The host interface: rings, entries and completions, stream and delivery rings, the host watchdog, resets of
the host interface (R472–R502). -/

namespace Sys2Proof.Machine

def State.modHost (s : State) (f : HostSt → HostSt) : State := { s with host := f s.host }
def State.ring (s : State) (n : Nat) : RingSt := vget s.host.rings n {}
def State.modRing (s : State) (n : Nat) (f : RingSt → RingSt) : State := s.modHost fun h => { h with rings := vmod h.rings n f }
/-- `a − b` of two free-running 16-bit counts (R480). -/
def count16 (a b : Nat) : Nat := (a + 65536 - b) % 65536

/-! ### The host area of DRAM (R474) -/

/-- `k` bytes of a word memory from byte offset `o`. -/
def wmBytes (m : WordMem) (o k : Nat) : List Byte :=
  ((bytesOf ((List.range ((k + o % 4 + 3) / 4)).map fun i => wmGet m (o / 4 + i))).drop (o % 4)).take k
/-- Put one byte into a word memory. -/
def wmPutByte (m : WordMem) (o : Nat) (b : Byte) : WordMem :=
  let w := (wmGet m (o / 4)).toNat
  let p := 256 ^ (o % 4)
  wmSet m (o / 4) (BitVec.ofNat 32 (w - (w / p % 256) * p + b.toNat * p))
/-- Put bytes into a word memory from byte offset `o`. -/
def wmPut (m : WordMem) (o : Nat) : List Byte → WordMem
  | [] => m
  | b :: bs => wmPut (wmPutByte m o b) (o + 1) bs
/-- The bytes lie in the host area. -/
def hostArea (o k : Nat) : Bool := decide (0xC0000000 ≤ o ∧ o + k ≤ 0x100000000)
def State.dramBytes (s : State) (o k : Nat) : List Byte := wmBytes s.mem.dram o k
def State.dramPut (s : State) (o : Nat) (bs : List Byte) : State := { s with mem := { s.mem with dram := wmPut s.mem.dram o bs } }
/-- Bytes go to host memory, or to the host area. -/
def State.hostPut (s : State) (loc : Bool) (a : Nat) (bs : List Byte) : State :=
  if loc then s.dramPut a bs else s.modHost fun h => { h with posted := h.posted ++ [(a, bs)] }
/-- A BAR2 write at offset `o` of the window (R473, R474). -/
def State.bar2Write (s : State) (o : Nat) (bs : List Byte) : State :=
  let page := s.get HOST_B2PAGE HOST_B2PAGE_V
  if bs.isEmpty || 64 < o % 64 + bs.length then s
  else if page < 12 then s.count HOST_CNT0 HOST_CNT0_B2REFUSED
  else s.dramPut (page * 0x10000000 + o) bs

/-! ### Rings (R479–R485) -/

def State.ringOn (s : State) (n : Nat) : Bool := s.flag (RING_CFG n) RING_CFG_EN
def State.ringMode (s : State) (n : Nat) : Nat := s.get (RING_CFG n) RING_CFG_MODE
def State.ringDepth (s : State) (n : Nat) : Nat := s.get (RING_CFG n) RING_CFG_DEPTH
def State.ringHead (s : State) (n : Nat) : Nat := s.get (RING_HEAD n) RING_HEAD_V
def State.ringTail (s : State) (n : Nat) : Nat := s.get (RING_TAIL n) RING_TAIL_V
def State.cqTail (s : State) (n : Nat) : Nat := s.get (RING_CQTAIL n) RING_CQTAIL_V
def State.cqHead (s : State) (n : Nat) : Nat := s.get (RING_CQHEAD n) RING_CQHEAD_V
/-- A depth that R479 allows. -/
def depthOk (d : Nat) : Bool := d == 0 || [16, 32, 64, 128, 256, 512, 1024, 2048, 4096].contains d
/-- CQHEAD as a fetch decision sees it: a write acts from the next PCLK cycle (R499). -/
def State.cqSeen (s : State) (n : Nat) : Nat := if (s.ring n).headAt = s.tick / 2 + 1 then (s.ring n).headWas else s.cqHead n
/-- A write of CQHEAD. -/
def State.cqHeadWrite (s : State) (n v : Nat) : State :=
  (s.modRing n fun r => { r with headWas := s.cqSeen n, headAt := s.tick / 2 + 1 }).wrN (RING_CQHEAD n) (v % 65536)
/-- CQWAIT: full completion array holds the fetch back (R483). -/
def State.cqWait (s : State) (n : Nat) : Bool :=
  s.ringOn n && s.ringMode n == 0 && s.ringHead n != s.ringTail n && decide (s.ringDepth n ≤ count16 (s.ringHead n) (s.cqSeen n))

/-- ACTIVE clears with the last completion of a stopped ring (R481). -/
def State.ringIdle (s : State) (n : Nat) : State :=
  if !s.ringOn n && !(s.inflight.any fun i => i.ring == n && i.peer.isNone && !i.drop) && !(s.completions.any fun c => c.ring == n && c.peer.isNone) then
    s.clrf (RING_STAT n) RING_STAT_ACTIVE
  else s
/-- EN = 0: fetching stops; entries that have not started complete RING_STOPPED (R481). -/
def State.ringStop (s : State) (n : Nat) : State :=
  let s1 := s.clrf (RING_CFG n) RING_CFG_EN
  (((s.inflight.filter fun i => i.ring == n && !i.started && !i.done && i.peer.isNone).foldl (fun s i => s.finish i.tag .ringStopped) s1).ringIdle n)
/-- A failed access on the bus (R482). -/
def State.dmaError (s : State) (n : Nat) : State := ((s.setf (RING_STAT n) RING_STAT_DMAERR).group 7).ringStop n
/-- An enabled stream ring other than `n` feeds axis `a`. -/
def State.streamFed (s : State) (n a : Nat) : Bool :=
  (List.range 128).any fun j => j != n && s.ringOn j && s.ringMode j == 1 && s.get (RING_BIND j) RING_BIND_UNIT == a
/-- A write of RINGn_CFG (R481, R497, R501); `hq`: through HQ (R478). -/
def State.ringCfg (s : State) (hq : Bool) (n v : Nat) : State :=
  if s.ringOn n || s.flag (RING_STAT n) RING_STAT_ACTIVE then
    if nbit v 31 || !s.ringOn n then s else s.ringStop n
  else
    let mode := nbits v 27 26
    let depth := v % 8192
    if mode = 3 || !depthOk depth then s
    else
      let s1 := s.wrN (RING_CFG n) (v % 2 ^ 30 - v % 2 ^ 24 + depth)
      if !nbit v 31 || depth = 0 then s1
      else
        let unit := s.get (RING_BIND n) RING_BIND_UNIT
        if hq && (!nbit v 25 || mode ≠ 0) then s1
        else if mode ≠ 0 && nbit v 25 then s1
        else if mode = 1 && (!nbit s.host.stream unit || s.streamFed n unit || 64 ≤ unit) then (s1.setf (RING_STAT n) RING_STAT_BINDERR).group 7
        else
          let s2 := (((s1.wrN (RING_TAIL n) 0).wrN (RING_HEAD n) 0).wrN (RING_CQTAIL n) 0).wrN (RING_CQHEAD n) 0
          (((s2.setf (RING_CFG n) RING_CFG_EN).putB (RING_CFG n) RING_CFG_PORT hq).setf (RING_STAT n) RING_STAT_ACTIVE).modRing n fun _ =>
            { hq := hq }

/-- The host watchdog expires (R491). -/
def State.hostWatchdog (s : State) : State :=
  let t := s.get HOST_WDT HOST_WDT_TIMEOUT
  if t = 0 || s.host.wdOff then s
  else
    let s1 := (s.advanceTo (s.host.kickAt + 400000 * t)).modHost fun h => { h with wdOff := true }
    let s2 := ((s1.setf HOST_STAT HOST_STAT_WDEXP).event .hostWatchdog 0).group 7
    if s.get HOST_WDT HOST_WDT_HWACT = 1 then
      s2.forEach (idxWhere 64 fun a => s.streamFed 128 a) fun s a => s.modMo a fun m => { m with duskReq := true }
    else s2
/-- A write of HOST_KICK (R491); an expiry of the same PCLK cycle stands (R499). -/
def State.hostKick (s : State) : State :=
  let due := s.host.kickAt + 400000 * s.get HOST_WDT HOST_WDT_TIMEOUT
  (if due / 2 ≤ s.tick / 2 then s.hostWatchdog else s).modHost fun h => { h with kickAt := s.tick, wdOff := false }
/-- The doorbell: a write of TAIL (R480).  A stream ring has no completion array; its entries are consumed as they are
moved. -/
def State.doorbellRing (s : State) (n v : Nat) : State :=
  let v := v % 65536
  let used := if s.ringMode n = 1 then s.ringHead n else s.cqHead n
  let s1 := if s.flag HOST_WDT HOST_WDT_KICKDB then s.hostKick else s
  if s.ringDepth n < count16 v used then s1.setf (RING_STAT n) RING_STAT_TAILBAD
  else (s1.wrN (RING_TAIL n) v).modRing n fun r => { r with bell := s.tick }

/-! ### Fetch (R483, R484, R487) -/

/-- The fields of an entry (R486). -/
def eOpcode (e : List Byte) : Nat := bU e 0 2
def eTag (e : List Byte) : Nat := bU e 2 2
def eFlags (e : List Byte) : Nat := bU e 4 1
def eUnit (e : List Byte) : Nat := bU e 5 1
def ePlen (e : List Byte) : Nat := bU e 8 4
def eP (e : List Byte) (i : Nat) : Nat := bU e (24 + 4 * i) 4
def eRlen (e : List Byte) : Nat := bU e 56 4
/-- A reserved bit or byte of the entry's common fields is not 0. -/
def eReserved (e : List Byte) : Bool := decide (32 ≤ eFlags e) || bU e 6 2 != 0
/-- ECRC holds. -/
def eCrcOk (e : List Byte) : Bool := crc32c (e.take 12 ++ leBytes 4 0 ++ e.drop 16) == bU e 12 4

/-- The ring may fetch now (R483). -/
def State.ringMay (s : State) (n : Nat) : Bool :=
  s.ringOn n && s.ringMode n == 0 && s.ringHead n != s.ringTail n && !s.cqWait n && decide (s.groom.placed false < 15360)
/-- The ring that is served next: the lowest PRIO first, in turn within a class (R484). -/
def State.ringNext (s : State) : Option Nat :=
  (List.range 4).findSome? fun c =>
    let turn := vget s.host.turn c 127
    (List.range 128).findSome? fun k =>
      let n := (turn + 1 + k) % 128
      if s.ringMay n && s.get (RING_CFG n) RING_CFG_PRIO == c then some n else none
/-- Classes SEC and UPDATE, the enable of EXPERT, a SET_HAMODE that sets a bit, and what feeds a host-assisted function: not served through
HQ or Ramaux (R34, R361, R496, R512, R518). -/
def portRefuses (opcode : Nat) (p : Nat → Nat) : Bool :=
  let cls := opcode / 1024
  cls == 0x0D || cls == 0x0F || (opcode == 0x0004 && nbit (p 1) 0) || (opcode == 0x0005 && (p 0 != 0 || p 1 != 0 || p 2 != 0))
/-- A function whose host-assisted mode is selected cannot be served through HQ (R34). -/
def State.haRefuses (s : State) (opcode : Nat) (p : Nat → Nat) : Bool :=
  let h := s.rdN SYS_HAMODE
  (opcode == 0x1C02 && nbit h 1) || (opcode == 0x1806 && nbit h 3) || (opcode == 0x3000 && nbit (p 2) 0 && nbit h 5) ||
  (opcode == 0x1004 && nbit h 4)

/-- A completion of an entry that takes no tag (R487 steps 1 to 4). -/
def State.dupCompletion (s : State) (n idx : Nat) (e : List Byte) (st : Status) : State :=
  { s with completions := s.completions ++
    [{ tag := eTag e, status := st, opcode := eOpcode e, ring := n, sqidx := idx, dup := true, r0 := 0, r1 := 0, r2 := 0
       raddr := 0, rlen := 0, data := [] }] }
/-- Ring `n` fetches the entry at HEAD; `bus`: what it reads of host memory, `fault`: the read fails. -/
def State.ringFetch (s : State) (n : Nat) (bus : List Byte) (fault : Bool) : State :=
  if s.ringNext ≠ some n then s
  else
    let idx := s.ringHead n
    let at_ := s.rd64N (RING_SQBASE n) + 64 * (idx % s.ringDepth n)
    let loc := s.flag (RING_CFG n) RING_CFG_LOC
    let s0 := s.modHost fun h => { h with turn := vmod h.turn (s.get (RING_CFG n) RING_CFG_PRIO) fun _ => n }
    if (loc && !hostArea at_ 64) || (!loc && fault) then s0.dmaError n
    else
      let e := if loc then s.dramBytes at_ 64 else bus
      let s1 := s0.wrN (RING_HEAD n) ((idx + 1) % 65536)
      let refused := fun (s : State) st => (s.count (RING_CNT n) RING_CNT_REFUSED).dupCompletion n idx e st
      if s.flag (RING_CFG n) RING_CFG_CRCREQ && !nbit (eFlags e) 0 then refused s1 .crcRequired
      else if nbit (eFlags e) 0 && !eCrcOk e then refused (s1.setf (RING_STAT n) RING_STAT_ECRCERR) .ecrcBad
      else if eReserved e then refused s1 .reservedSet
      else if s.inflight.any fun i => i.peer.isNone && i.tag % 4096 == eTag e % 4096 && decide (i.tag < 65536) then
        (s1.count (RING_CNT n) RING_CNT_TAGBUSY).dupCompletion n idx e .tagBusy
      else
        let i : Inflight := { tag := eTag e, opcode := eOpcode e, ring := n, sqidx := idx, rlen := eRlen e, raddr := bU e 48 8
                              rloc := nbit (eFlags e) 4, started := false, entry := e }
        let s2 := { s1 with inflight := s1.inflight ++ [i] }
        if (s.ring n).hq && (portRefuses (eOpcode e) (eP e) || s.haRefuses (eOpcode e) (eP e)) then s2.finish (eTag e) .portRefused
        else s2.groomPost 0 n (s.get (RING_CFG n) RING_CFG_PRIO) 0 (BitVec.ofNat 32 (eTag e)) 0 0

/-! ### Completions (R489, R490, R493, R485) -/

/-- The status codes of R490 and R510. -/
def Status.code : Status → Nat
  | .ok => 0 | .tagBusy => 0x0101 | .ecrcBad => 0x0102 | .crcRequired => 0x0103 | .pcrcBad => 0x0104 | .payloadFault => 0x0105
  | .reservedSet => 0x0106 | .ringStopped => 0x0107 | .aborted => 0x0108 | .notFound => 0x0109 | .notAbortable => 0x010A
  | .portRefused => 0x010B | .badOpcode => 0x0201 | .badState => 0x0202 | .watchRole => 0x0203 | .badUnit => 0x0204
  | .badParam => 0x0205 | .variant => 0x0206 | .hamode => 0x0207 | .protected_ => 0x0208 | .busy => 0x0209 | .noSpace => 0x020A
  | .signature => 0x020B | .checkFailed => 0x0301 | .sws4on => 0x0302 | .vstepRefused => 0x0303 | .tableBusy => 0x0304
  | .tableBad => 0x0305 | .superseded => 0x0306 | .inRamp => 0x0307 | .angNoRef => 0x0308 | .loadBudget => 0x0309
  | .tokenRefused => 0x030A | .clearRefused => 0x030B | .epochRefused => 0x030C | .horef => 0x030D | .verifyBad => 0x030E
  | .btNotRunning => 0x030F | .pathBad => 0x0310

/-- PHASE of the slot at a count: 1 in the first pass through an array (R490). -/
def passPhase (count depth : Nat) : Nat := (count / max 1 depth + 1) % 2
/-- The 32 bytes of a completion, the result bytes it writes, and whether data were dropped. -/
def Completion.bytes (c : Completion) (phase tick : Nat) : List Byte :=
  let bad := c.rloc && !c.data.isEmpty && !hostArea c.raddr (min c.data.length c.rlen)
  let k := if bad then 0 else min c.data.length c.rlen
  leBytes 2 c.tag ++ leBytes 2 (if bad then Status.payloadFault.code else c.status.code) ++ leBytes 2 c.opcode ++ leBytes 2 c.sqidx ++
    leBytes 4 (phase + 2 * b2n c.dup + 4 * b2n (!bad && decide (c.rlen < c.data.length))) ++ leBytes 4 k ++ leBytes 4 c.r0 ++
    leBytes 4 c.r1 ++ leBytes 4 c.r2 ++ leBytes 4 tick
/-- A completion or delivery record of ring `n` has been written: the ring's vector (R485). -/
def State.ringSignal (s : State) (n : Nat) : State :=
  let r := s.ring n
  let k := r.unsig + 1
  if max 1 (s.get (RING_IMOD n) RING_IMOD_ICNT) ≤ k then
    (if r.hq then s else s.raiseVector n).modRing n fun r => { r with unsig := 0 }
  else s.modRing n fun r => { r with unsig := k, unsigAt := if r.unsig = 0 then s.tick else r.unsigAt }
/-- The oldest completion formed is written, or discarded as late; `fault`: the write fails on the bus. -/
def State.completionWrite (s : State) (fault : Bool) : State :=
  match s.completions with
  | [] => s
  | c :: rest =>
    let s0 := { s with completions := rest }
    let mine := fun (i : Inflight) => !c.dup && i.tag == c.tag
    let s1 := { s0 with inflight := s0.inflight.filter fun i => !mine i }
    if c.peer.isSome || 128 ≤ c.ring then s1
    else if s.inflight.any fun i => mine i && i.drop then s1.count HOST_CNT0 HOST_CNT0_LATE
    else if !c.dup && !(s.inflight.any mine) then s1.count HOST_CNT0 HOST_CNT0_LATE
    else if fault then (s1.dmaError c.ring).ringIdle c.ring
    else
      let n := c.ring
      let loc := s.flag (RING_CFG n) RING_CFG_LOC
      let idx := s.cqTail n
      let s2 := if c.data.isEmpty || c.rlen = 0 || (c.rloc && !hostArea c.raddr (min c.data.length c.rlen)) then s1
        else s1.hostPut c.rloc c.raddr (c.data.take c.rlen)
      let at_ := s.rd64N (RING_CQBASE n) + 32 * (idx % max 1 (s.ringDepth n))
      let r := s.ring n
      let s3 := (s2.modHost fun h => { h with last := some ⟨s.tick / 2, n, idx, loc, at_, if loc then s2.dramBytes at_ 32 else [], r.unsig,
                                                            r.unsigAt, s.vectors.length, s2.host.posted.length⟩ }).hostPut loc at_
        (c.bytes (passPhase idx (s.ringDepth n)) s.tick)
      ((s3.wrN (RING_CQTAIL n) ((idx + 1) % 65536)).ringSignal n).ringIdle n
/-- ITIME µs after the oldest unsignalled completion (R485). -/
def State.coalesce (s : State) (n : Nat) : State :=
  let t := s.get (RING_IMOD n) RING_IMOD_ITIME
  let r := s.ring n
  if t = 0 || r.unsig = 0 then s
  else
    let s1 := s.advanceTo (r.unsigAt + 400 * t)
    (if r.hq then s1 else s1.raiseVector n).modRing n fun r => { r with unsig := 0 }
/-- HQ_INT# is low (R478). -/
def State.hqInt (s : State) : Bool :=
  (s.rdN HOST_EVT &&& s.rdN HOST_EVMASK) != 0 ||
    (List.range 128).any fun n => (s.ring n).hq && decide ((s.ring n).unsig < count16 (s.cqTail n) (s.cqHead n))

/-! ### Stream and delivery rings (R497, R498) -/

/-- One point of a stream entry goes into the queue of axis `a`. -/
def State.streamPoint (s : State) (n a : Nat) (p : List Byte) : State :=
  if !nbit (bU p 16 1) 0 then s
  else
    let f := bU p 0 8
    match (s.ring n).lastFrame with
    | some g => if f ≤ g then s.setf (RING_STAT n) RING_STAT_PTBAD
      else (s.modRing n fun r => { r with lastFrame := some f }).modMo a fun m => { m with points := m.points ++ [(f, bS p 8 8, s.tick)] }
    | none => (s.modRing n fun r => { r with lastFrame := some f }).modMo a fun m => { m with points := m.points ++ [(f, bS p 8 8, s.tick)] }
/-- The entry at HEAD of a stream ring moves into its axis's queue. -/
def State.streamMove (s : State) (n : Nat) (e : List Byte) (fault : Bool) : State :=
  let a := s.get (RING_BIND n) RING_BIND_UNIT
  let h := s.ringHead n
  if !s.ringOn n || s.ringMode n ≠ 1 || h = s.ringTail n || 62 < (s.mo a).points.length then s
  else if fault then s.dmaError n
  else
    let s1 := ((s.streamPoint n a (e.take 32)).streamPoint n a (e.drop 32)).wrN (RING_HEAD n) ((h + 1) % 65536)
    let low := s.get (RING_BIND n) RING_BIND_LOWAT
    if low ≠ 0 && count16 (s.ringTail n) ((h + 1) % 65536) = low then s1.raiseVector n else s1

/-- A record of `slots` slots and header fields is written into a delivery ring. -/
def State.deliverRecord (s : State) (n slots src lost : Nat) (body : List Byte) : State :=
  let idx := s.cqTail n
  let d := max 1 (s.ringDepth n)
  let hdr := leBytes 1 (passPhase idx d + 2 * b2n (lost != 0)) ++ leBytes 1 src ++ leBytes 2 0 ++ leBytes 4 lost
  let s1 := s.hostPut false (s.rd64N (RING_CQBASE n) + 64 * (idx % d)) (hdr ++ body)
  let s2 := if lost = 0 then s1 else s1.setf (RING_STAT n) RING_STAT_GAPSEEN
  (s2.wrN (RING_CQTAIL n) ((idx + slots) % 65536)).ringSignal n
/-- A record waits for delivery ring `n`: it is written where it finds room (R498). -/
def State.deliveryWrite (s : State) (n : Nat) (fault : Bool) : State :=
  let unit := s.get (RING_BIND n) RING_BIND_UNIT
  let free := s.ringDepth n - count16 (s.cqTail n) (s.cqHead n)
  if !s.ringOn n || s.ringMode n ≠ 2 then s
  else if unit < 4 then
    if s.get (CAN_FIFO0 unit) CAN_FIFO0_LEVEL = 0 || free < 2 then s
    else if fault then s.dmaError n
    else
      let at_ := s.get (CAN_FIFO0 unit) CAN_FIFO0_RDIX
      let ent := (List.range 24).flatMap fun i => s.r4 (CANF0_W0 unit (at_ % 32) + 4 * i)
      let cur := s.get (CAN_FIFO0 unit) CAN_FIFO0_LOST
      ((s.deliverRecord n 2 unit (cur - (s.ring n).lost) (leBytes 4 s.tick ++ leBytes 20 0 ++ ent)).modRing n fun r =>
        { r with lost := cur }).fifoRelease unit 0
  else if unit = 0x10 then
    match s.nw.ptp.recs with
    | [] => s
    | (port, off, delay, st, seq) :: rest =>
      let s1 := s.modPtp fun p => { p with recs := rest }
      if free < 1 then s1.modPtp fun p => { p with lost := p.lost + 1 }
      else if fault then s1.dmaError n
      else
        (s1.deliverRecord n 1 unit s.nw.ptp.lost
          (leBytes 1 port ++ leBytes 7 0 ++ leBytes 8 (off % 2 ^ 64).toNat ++ leBytes 8 (delay % 2 ^ 64).toNat ++ leBytes 8 st ++ leBytes 2 seq ++
            leBytes 22 0)).modPtp fun p => { p with lost := 0 }
  else s

/-! ### Watchdog and resets (R476, R491) -/

/-- A completion written in the present PCLK cycle is discarded and counted in LATE (R499). -/
def State.cqUndo (s : State) : State :=
  match s.host.last with
  | none => s
  | some c =>
    if c.cyc ≠ s.tick / 2 then s
    else
      let s1 := if c.loc then s.dramPut c.addr c.old
        else s.modHost fun h => { h with posted := h.posted.eraseIdx c.posts }
      let s2 := (s1.wrN (RING_CQTAIL c.ring) c.idx).modRing c.ring fun r => { r with unsig := c.unsig, unsigAt := c.unsigAt }
      ({ s2 with vectors := if s2.vectors.getD c.vecs 136 = c.ring then s2.vectors.eraseIdx c.vecs else s2.vectors }.modHost fun h => { h with last := none }).count HOST_CNT0 HOST_CNT0_LATE
/-- The host interface is reset: Function Level Reset, a link-down of more than 1 ms, PERST# (R476, R601). -/
def State.hostReset (s0 : State) : State :=
  let s := s0.cqUndo
  let s1 := s.forEach (idxWhere 128 fun n => s.ringOn n || s.flag (RING_STAT n) RING_STAT_ACTIVE) fun s n =>
    (s.clrf (RING_CFG n) RING_CFG_EN).clrf (RING_STAT n) RING_STAT_ACTIVE
  let ours := fun (i : Inflight) => i.peer.isNone && decide (i.ring < 128)
  let s2 := { s1 with
    inflight := (s1.inflight.filter fun i => !(ours i && !i.started && !i.done)).map fun i => if ours i then { i with drop := true } else i
    completions := s1.completions.filter fun c => !(c.dup && c.peer.isNone) }
  let late := (s.completions.filter fun c => c.dup && c.peer.isNone).length
  ((s2.addCount HOST_CNT0 HOST_CNT0_LATE late).setf HOST_STAT HOST_STAT_FLRSEEN).lockForce (· == 0)
/-- The link is down for more than 1 ms. -/
def State.pcieDown (s : State) : State := ((s.hostReset.put HOST_STAT HOST_STAT_SPEED 0).put HOST_STAT HOST_STAT_WIDTH 0)
/-- The link has trained: speed code 1 to 3, one lane or two (R472, R502, R603). -/
def State.pcieUp (s : State) (speed : Nat) (two : Bool) : State :=
  if s.pw.phase ≠ .running then s
  else ((s.put HOST_STAT HOST_STAT_SPEED (speed + 1)).put HOST_STAT HOST_STAT_WIDTH (1 + b2n two)).modHost fun h => { h with perst := false }
def State.perst (s : State) : State := s.pcieDown.modHost fun h => { h with perst := true }
/-- HOST_CMD CLRCNT (R502). -/
def State.hostClrCnt (s : State) : State := (s.wrN HOST_CNT0 0).forEach (List.range 128) fun s n => s.wrN (RING_CNT n) 0

end Sys2Proof.Machine
end

