-- ==== Sys2Proof/Machine/Source.lean ====
section
/-! DEFINITION. Requests of source, gear and cam changes, by command or register, and the end of motion on a change of state
(R103, R121, R122, R129, R134, R143, R608). -/

namespace Sys2Proof.Machine

/-- A code of the MSEL coding (R143). -/
def mselCode (v : Nat) : Bool :=
  decide (v < 0x50) || decide (0x50 ≤ v ∧ v < 0x78) || decide (0x80 ≤ v ∧ v < 0x90) || decide (0xC0 ≤ v ∧ v < 0xC8) || v == 0xFF
/-- A master that a gear or a cam can follow. -/
def mselMaster (v : Nat) : Bool := decide (v < 0x50) || decide (0x50 ≤ v ∧ v < 0x78) || decide (0x80 ≤ v ∧ v < 0x90)
/-- Axis `n` accepts source and master (R103, R143, R137). -/
def srcOk (n src msel : Nat) : Bool :=
  match src with
  | 0 | 1 | 4 => mselCode msel
  | 5 => mselCode msel && decide (n < 64)
  | 2 | 3 => mselMaster msel
  | 6 => decide (0xC0 ≤ msel ∧ msel < 0xC8)
  | 7 => decide (0xC0 ≤ msel ∧ msel < 0xC8) && decide (n < 64)
  | _ => false

/-- The source changes in Morning: no run checks it, and the first run engages it. -/
def State.setSourceNow (s : State) (n src msel : Nat) (mact : Bool) : State :=
  let s1 := ((((s.reengage n msel).put (AX_SRC n) AX_SRC_SRC src).put (AX_SRC n) AX_SRC_MSEL msel).putB (AX_SRC n) AX_SRC_MACT mact).wrN (AX_GREM n) 0
  (s1.modMo n fun m => { m with mPrev := none, aiRem := 0, off := false, engage := true }).camFlags n
/-- A write of AXn_SRC (R143). -/
def State.srcWrite (s : State) (n v : Nat) : State :=
  if srcOk n (v % 16) (nbits v 15 8) then s.setSourceNow n (v % 16) (nbits v 15 8) (nbit v 16) else s

/-- A change is asked for and waits for its run. -/
def State.requestChange (s : State) (n : Nat) (c : SrcChange) : State :=
  let s1 := (s.modMo n fun m => { m with chgs := m.chgs ++ [c] }).pendFlag n
  match c.tag with
  | some t => s1.await t .source n
  | none => s1
/-- A switch at AXn_CAMSW is armed (R129); it replaces a switch armed before.  NEXT and DIRB are read when it is looked at (R143). -/
def State.armCamSwitch (s : State) (n : Nat) (tag : Option Nat) : State :=
  let old := (s.mo n).chgs.filter (·.camSwitch)
  let s1 := (old.foldl (fun s c => s.changeDone c .superseded (tag.getD 0)) s).modMo n fun m => { m with chgs := m.chgs.filter fun c => !c.camSwitch }
  s1.requestChange n
    { src := 3, msel := s.get (AX_SRC n) AX_SRC_MSEL, mact := s.flag (AX_SRC n) AX_SRC_MACT, n := 1, d := 1, table := s.get (AX_CAM n) AX_CAM_NEXT
      abs := s.flag (AX_CAM n) AX_CAM_ABS, sched := true, tag := tag, camSwitch := true }
/-- A write of ARM to AXn_CAM (R143). -/
def State.camArm (s : State) (n : Nat) : State :=
  s.armCamSwitch n none
/-- The trigger of an aborted command is disarmed (R508). -/
def State.dropChange (s : State) (n tag : Nat) : State :=
  (s.modMo n fun m => { m with chgs := m.chgs.filter fun c => c.tag != some tag }).pendFlag n

/-- t* passes the last segment of a move that ends at rest (R113). -/
def State.trajectoryEnd (s : State) (n : Nat) : State :=
  let m := s.mo n
  let t := s.mt16 (s.targetOf n s.now)
  match m.segs with
  | [g] =>
    if s.running && m.ramp.isNone && m.inUse && g.last && s.srcOf n = 1 && s.frameTime (g.start + g.dur) ≤ t then
      (State.trajectory n t 2 s).segRegs n
    else s
  | _ => s

end Sys2Proof.Machine
end

