-- ==== Sys2Proof/Machine/Bar0.lean ====
section
/-! DEFINITION. Host access to BAR0: who may write what (R28, R34, R35, R41), the width rules of 64-bit registers (R36), the
access codes and ranges of fields (R5–R7), what a write of a register sets off, and the values that are formed at the read.
Requesters: 0 PCIe, 1 HQ, 2 + c yard core c (R36). -/

namespace Sys2Proof.Machine

/-! ### The register at an offset, and the right to write it -/

/-- The register at a BAR0 offset.  Ports, gate lists and SecYs are numbered from 1. -/
def regHit (a : Nat) : Option Hit :=
  match lookupReg a with
  | some h => if (h.blk == .port || h.blk == .gcl || h.blk == .ms) && h.inst == 0 then none else some h
  | none => none

/-- The offset of a register's low word. -/
def Hit.low (h : Hit) (a : Nat) : Nat := if h.high then a - 4 else a

/-- Requester `r` has the right of class bit `c` (R28, R34); the firmware has every right but SAFE. -/
def State.classBit (s : State) (r c : Nat) : Bool := 2 ≤ r || (r == 0 && nbit (s.rdN SYS_EXPERT) c)

/-- The requester may write the register (R28, R35, R61, R583). -/
def State.classOk (s : State) (r : Nat) (h : Hit) : Bool :=
  match h.cls with
  | .any => true
  | .never => false
  | .bit c => (h.blk == .log && decide (h.reg.off ≤ 8)) || s.classBit r c
  | .token => s.classBit r 1 && s.classBit r 4
  | .motionOrGear => s.classBit r (if h.inst < 64 then 2 else 3)

/-! ### Fields -/

/-- A field value lies in its range (R7, R641). -/
def Chk.ok (c : Chk) (w v : Nat) : Bool :=
  match c with
  | .any => true
  | .range lo hi => decide (lo ≤ v ∧ v ≤ hi)
  | .srange lo hi => let x := (BitVec.ofNat w v).toInt; decide (lo ≤ x ∧ x ≤ hi)
  | .pwmPeriod => v == 0 || decide (64 ≤ v ∧ v ≤ 1048575)
  | .nonPositive => v == 0 || decide (2 ^ (w - 1) ≤ v)
  | .mag least => decide (least ≤ v ∧ v < 2 ^ (w - 1))
  | .own lo hi => decide (lo ≤ v ∧ v ≤ hi)
/-- A value outside the range leaves the whole register as it is, where its chapter says so; otherwise only the field (R7). -/
def Chk.ofWhole (c : Chk) : Bool :=
  match c with
  | .own _ _ => false
  | _ => true

/-- EN of a latch input, compare output or register controller. -/
def State.unitEn (s : State) (h : Hit) : Bool :=
  match h.blk with
  | .li => s.flag (LI_CFG h.inst) LI_CFG_EN
  | .co => s.flag (CO_CFG h.inst) CO_CFG_EN
  | _ => s.flag (RC_CFG h.inst) RC_CFG_EN

/-- The condition under which a field accepts a write holds now. -/
def State.condOk (s : State) (h : Hit) (c : Cond) : Bool :=
  match c with
  | .always => true
  | .morning => s.inMorning
  | .morningOrOff => s.inMorning || (s.inNoon && !s.unitEn h)
  | .tokenIdle => s.tokState h.inst != 1
  | .notRunning => !s.flag (LPINJ_STAT h.inst) LPINJ_STAT_RUNNING
  | .bankIdle => s.bankOf h.inst != h.idx.getD 2 0
  | .halted => s.flag (CAN_CTRL (h.idx.getD 0 0)) CAN_CTRL_HALT
  | .ringIdle => !s.ringOn h.inst && !s.flag (RING_STAT h.inst) RING_STAT_ACTIVE
  | .ringOff => !s.ringOn h.inst

def FieldSpec.width (f : FieldSpec) : Nat := f.hi + 1 - f.lo
/-- A read-write field accepts the value that a word gives it. -/
def State.accepts (s : State) (h : Hit) (v : Nat) (f : FieldSpec) : Bool :=
  match f.acc with
  | .rw | .rwc => s.condOk h f.cond && f.chk.ok f.width (nbits v f.hi f.lo)
  | _ => true
/-- The value a field takes where a word is written (R6, R7). -/
def State.fieldNew (s : State) (h : Hit) (old v : Nat) (f : FieldSpec) : Nat :=
  let o := nbits old f.hi f.lo
  let n := nbits v f.hi f.lo
  match f.acc with
  | .rw | .rwc => if s.accepts h v f then n else o
  | .ro | .wo => o
  | .w1c => (BitVec.ofNat 64 o &&& ~~~BitVec.ofNat 64 n).toNat
  | .w1s => (BitVec.ofNat 64 o ||| BitVec.ofNat 64 n).toNat
/-- The value a register takes where a value is written; `whole` registers stay as they are if one field refuses. -/
def State.regNew (s : State) (h : Hit) (old v : Nat) : Nat :=
  if h.reg.whole && !(h.reg.fields.all fun f => !f.chk.ofWhole || s.accepts h v f) then old
  else h.reg.fields.foldl (fun x f => x + s.fieldNew h old v f * 2 ^ f.lo) 0
/-- Every read-write field accepts the value. -/
def State.regLegal (s : State) (h : Hit) (v : Nat) : Bool := h.reg.fields.all fun f => s.accepts h v f
/-- The value sets a bit that lies in no field (R5). -/
def Hit.reserved (h : Hit) (v : Nat) : Bool :=
  h.reg.fields.foldl (fun x f => x - nbits v f.hi f.lo * 2 ^ f.lo) v != 0
/-- What a register holds. -/
def State.regGet (s : State) (h : Hit) (a : Nat) : Nat := if h.reg.wide then s.rd64N a else s.rdN a
/-- The fields of the register at `a` take a written value. -/
def State.store (s : State) (h : Hit) (a v : Nat) : State :=
  let n := s.regNew h (s.regGet h a) v
  if h.reg.wide then s.wr64N a n else s.wrN a n

/-! ### What a write of a register sets off, block by block -/

/-- Apply `f` where bit `i` of the written value is set. -/
def State.onBit (s : State) (v i : Nat) (f : State → State) : State := if nbit v i then f s else s
/-- The value with bits [hi:lo] replaced by those of `old`. -/
def keepBits (old v hi lo : Nat) : Nat := v - nbits v hi lo * 2 ^ lo + nbits old hi lo * 2 ^ lo

/-- SYS block (R20, R38, R530, R613). -/
def State.writeSys (s : State) (h : Hit) (a v : Nat) : State :=
  if a = SYS_CLK then s.sysClk v
  else if a = SYS_BADACC then (if nbit v 0 then s.wrN SYS_BADACC 0 else s)
  else if a = SYS_GROOM then (if s.inMorning && v % 1024 ≤ 800 then { s with groom := { s.groom with afwin := v % 1024 } } else s)
  else if a = SYS_RESET then s.sysReset v
  else s.store h a v

/-- TB_FRAME: an M accepted in Morning re-phases the frame grid (R48). -/
def State.writeTb (s : State) (h : Hit) (a v : Nat) : State :=
  let s1 := s.store h a v
  if a = TB_FRAME && s.get TB_FRAME TB_FRAME_M != s1.get TB_FRAME TB_FRAME_M then { s1 with time := { s1.time with rephase := true } } else s1

/-- Commit tokens (R61, R62). -/
def State.writeToken (s : State) (h : Hit) (a v : Nat) : State :=
  let k := h.inst
  let s1 := s.store h a v
  if a = CTOK_CTRL k then (s1.onBit v 30 fun s => s.tokenCancel k).onBit v 31 fun s => s.tokenArm k else s1

/-- Encoder ports (R75, R92, R96, R98, R100).  Whether a written DELAY is taken is decided by the LDC of the same write: R98 does not say
whether the LDC written or the one held decides (DESIGN CHOICE). -/
def State.writePort (s : State) (h : Hit) (a v : Nat) : State :=
  let n := h.inst
  if a = EP_SSI n then
    (if v % 2 = 1 || nbits v 17 12 < nbits v 23 18 + nbits v 29 24 then s else s.store h a v)
  else if a = EP_SSIT n then s.store h a (if nbit v 31 then keepBits (s.rdN a) v 27 16 else v)
  else if a = EP_STAT n then s.store h a (if s.flag a EP_STAT_LINE_BAD then keepBits 0 v 7 7 else v)
  else if a = EP_CFG n then
    let s1 := s.store h a v
    (if (s1.portOn n && !s.portOn n) || s1.portMode n != s.portMode n then s1.portEnable n else s1).suspects n
  else if (staged n).contains a then (s.portStage n a).store h a v
  else if a = EP_CMD n then
    ((((s.onBit v 4 fun s => s.portClrFlags n).onBit v 3 fun s => s.portClrCnt n).onBit v 2 fun s => s.portRearm n).onBit v 1 fun s =>
      s.portReval n).onBit v 0 fun s => s.portLoad n
  else s.store h a v

/-- Axis trajectory registers (R50, R51, R59, R143). -/
def State.writeAx (s : State) (h : Hit) (a v : Nat) : State :=
  let n := h.inst
  if a = AX_TB n then
    (if 32 ≤ n && n < 64 then s else if 64 ≤ n then s.store h a (keepBits (s.rdN a) v 15 0) else s.store h a v)
  else if a = AX_PHASE n then (if n < 32 then s.store h a v else s)
  else if a = AX_LATE n then s.onBit v 31 fun s => s.lateClr n
  else if a = AX_SRC n then (if s.inMorning then s.srcWrite n v else s)
  else if a = AX_CAM n then (s.store h a v).onBit v 15 fun s => s.camArm n
  else s.store h a v

/-- Line shafts: on a subscriber COAST, DEC and JERK are read-only (R144). -/
def State.writeLs (s : State) (h : Hit) (a v : Nat) : State :=
  let k := h.inst
  if a = LS_COAST k || a = LS_DEC k || a = LS_JERK k then (if s.flag (LS_CFG k) LS_CFG_ROLE then s.store h a v else s)
  else if a = LS_CFG k then
    let s1 := s.store h a v
    if s1.flag a LS_CFG_EN && !s.flag a LS_CFG_EN then (s1.wrN (LS_STAT k) 0).modShaft k fun _ => {} else s1
  else s.store h a v

/-- The member codes of a group with one of its words replaced. -/
def State.memberCodes (s : State) (g : Nat) : List Nat :=
  [GRP_MEMB0 g, GRP_MEMB1 g].flatMap fun a => (List.range 4).map fun i => s.rdN a / 256 ^ i % 256
/-- Member codes that R145 allows in group `g`. -/
def State.memberWordOk (s : State) (g v : Nat) : Bool :=
  (List.range 4).all fun i =>
    let c := v / 256 ^ i % 256
    c == 0xFF || (decide (c < 0x50) && (List.range 16).all fun j => j == g || !(s.memberCodes j).contains c)
def State.writeGrp (s : State) (h : Hit) (a v : Nat) : State :=
  let g := h.inst
  if a = GRP_MEMB0 g || a = GRP_MEMB1 g then (if s.memberWordOk g v then s.store h a v else s) else s.store h a v

/-- Latch source codes (R148). -/
def latchSrcOk (c : Nat) : Bool :=
  decide (c < 0x50) || decide (0x50 ≤ c ∧ c < 0x78) || decide (0x80 ≤ c ∧ c < 0x90) || c == 0xFF
/-- Latch inputs (R168, R169). -/
def State.writeLi (s : State) (h : Hit) (a v : Nat) : State :=
  let n := h.inst
  if a = LI_CFG n then (if latchSrcOk (nbits v 31 24) then s.store h a v else s)
  else if a = LI_CMD n then
    ((s.onBit v 2 fun s => s.latchClrCnt n).onBit v 1 fun s => s.latchClr n).onBit v 0 fun s => s.latchPop n
  else s.store h a v

/-- Compare outputs (R151, R153, R166–R169): a write acts on the output as it stands then. -/
def State.writeCo (s : State) (h : Hit) (a v : Nat) : State :=
  let n := h.inst
  if a = CO_LIST n then
    let s1 := (s.coUpdate n).store h a v
    if 65536 < s1.get a CO_LIST_BASE + s1.get a CO_LIST_COUNT then s
    else if s1.get a CO_LIST_COUNT = 0 then s1.coDisarm n else s1
  else if a = CO_CFG n then
    let s1 := ((s.coUpdate n).store h a v).coSrcOne n
    if s.flag a CO_CFG_EN && !s1.flag a CO_CFG_EN then s1.coDisarm n else s1
  else if a = CO_CMD n then
    ((s.onBit v 2 fun s => s.wrN (CO_FIRED n) 0).onBit v 1 fun s => s.coStop n).onBit v 0 fun s => s.coArm n (v / 2 ^ 20 % 4096)
  else s.store h a v

/-- Bits of KF that a write would make 0: KF = 0 is ignored (R167).  KF and KP lie in two registers each, and a write between may give them a value above
65 536: it counts as 65 536, since R162 has no rule for it and the bound could not be reached otherwise (DESIGN CHOICE). -/
def regGainNew (old v mask other : Nat) : Nat := if v % mask + other = 0 then v - v % mask + old % mask else v
/-- Another enabled register controller corrects the same follower. -/
def State.followerTaken (s : State) (k fax : Nat) : Bool :=
  (List.range 32).any fun j => j != k && s.flag (RC_CFG j) RC_CFG_EN && s.get (RC_CFG j) RC_CFG_FAX == fax
/-- RCk_CFG accepts the value: one controller for a follower, and no change of FAX while enabled (R160). -/
def State.rcCfgOk (s : State) (k v : Nat) : Bool :=
  let old := s.flag (RC_CFG k) RC_CFG_EN
  let fax := v % 64
  !((old || nbit v 31) && old && fax != s.get (RC_CFG k) RC_CFG_FAX) && !(nbit v 31 && s.followerTaken k fax)
/-- Register controllers (R160–R168); LIMIT 0 holds the target at 0. -/
def State.writeRc (s : State) (h : Hit) (a v : Nat) : State :=
  let k := h.inst
  if a = RC_CFG k then
    let s1 := if s.rcCfgOk k v then
        let s1 := s.store h a v
        if s1.flag a RC_CFG_EN && !s.flag a RC_CFG_EN then
          (s1.clrf (RC_STAT k) RC_STAT_ACTIVEMARK).modRc k fun r => { ({} : RcSt) with tgts := r.tgts }
        else s1
      else s
    s1.onBit v 30 fun s => s.regClrTgt k
  else if a = RC_GAIN k then s.store h a (regGainNew (s.rdN a) v 65536 (s.get (RC_GAINX k) RC_GAINX_KF16))
  else if a = RC_GAINX k then s.store h a (regGainNew (s.rdN a) v 2 (s.get (RC_GAIN k) RC_GAIN_KF))
  else if a = RC_LIMIT k then
    let s1 := s.store h a v
    if s1.rd64I a = 0 then s1.regTarget k 0 s.tick else s1
  else s.store h a v

/-- Feedback codes that R171 allows for the axis. -/
def fbCodesOk (n v : Nat) : Bool :=
  let f1 := v % 64
  let f2 := nbits v 21 16
  (if 32 ≤ n then f1 == 0x3E else f1 == 0x3F || decide (f1 < 40)) && (f2 == 0x3F || decide (f2 < 40))
/-- Loop parameters (R171, R195). -/
def State.writeAxl (s : State) (h : Hit) (a v : Nat) : State :=
  let n := h.inst
  if a = AXL_LFB n then (if fbCodesOk n v then s.store h a v else s)
  else if a = AXL_LCFG n then (s.store h a v).onBit v 31 fun s => s.loopApply n
  else s.store h a v

/-- The test-signal generators (R194, R200). -/
def State.writeInj (s : State) (h : Hit) (a v : Nat) : State :=
  let k := h.inst
  let s1 := s.store h a v
  if a = LPINJ_CFG k then (s1.onBit v 30 fun s => s.injStop k).onBit v 31 fun s => s.injStart k else s1

/-- Sigma-delta clocks and inputs (R202, R208, R232). -/
def State.writeSd (s : State) (h : Hit) (a v : Nat) : State :=
  let j := h.inst
  if h.blk == .sdclk then
    let div := sdDiv (if v % 16 ≤ 4 then v % 16 else s.get a SDCLK_CFG_DIV)
    let js := (List.range 12).map (12 * j + ·)
    let s1 := (s.forEach js State.sdHold).store h a (if div ≤ nbits v 13 8 then keepBits (s.rdN a) v 13 8 else v)
    (if s1.drivesLands then { s1 with tw := { s1.tw with sdPh := vmod s1.tw.sdPh j fun _ => 0 } } else s1).forEach js State.sdEnable
  else if a = SD_CFG j then (s.store h a v).sdEnable j
  else if a = SD_STAT j then s.store h a (if s.flag a SD_STAT_LOST then keepBits 0 v 1 1 else v)
  else s.store h a v

/-- CLE_SCFG accepts the value (R234). -/
def slotCfgOk (v : Nat) : Bool :=
  let u := nbits v 29 24
  let c := nbits v 23 18
  let p := v % 64
  (decide (u < 32) || u == 0x3F) && (decide (c < 40) || c == 0x3F) && (decide (p < 40) || p == 0x3F)
/-- CLE slots (R231, R233, R234). -/
def State.writeSlot (s : State) (h : Hit) (a v : Nat) : State :=
  let n := h.inst
  if h.blk == .cle then (if nbit v 31 then s.cleLatClr n else s)
  else if a = SLOT_CFG n then (if slotCfgOk v then s.store h a v else s)
  else if a = SLOT_CMD n then
    ((s.onBit v 2 fun s => s.cleClrCnt n).onBit v 1 fun s => s.cleClrFlags n).onBit v 0 fun s => s.cleBswap n
  else s.store h a v

/-- BLKSEL names a blanking channel or none. -/
def blkselOk (v : Nat) : Bool := decide (nbits v 24 20 < 16) || nbits v 24 20 == 31
/-- A staged register of leg group `g` (R248). -/
def State.writeStaged (s : State) (h : Hit) (g a v : Nat) (isCmp : Bool) : State :=
  let s := s.flyTo g
  if s.regLegal h v then ((if g < 32 then s.tokenHold g else s).store h a v).pwmStage g a isCmp else s
/-- The settings of a trip source have been written: it is watched anew where TEN (EN) or TPOL has changed (R255). -/
def State.tripRewatch (s : State) (i : Nat) (old : Bool × Bool) : State := if (s.tripEn i, s.tripPol i) = old then s else s.tripWatch i s.now
/-- PWM of an axis (R248, R249, R255, R266, R267). -/
def State.writePwm (s : State) (h : Hit) (a v : Nat) : State :=
  let n := h.inst
  let o := h.reg.off
  if o < 0x20 then s.writeStaged h n a v (decide (4 ≤ o ∧ o < 0x10))
  else if a = PWM_TRIP n then (if blkselOk v && s.inMorning then (s.store h a v).tripRewatch n (s.tripEn n, s.tripPol n) else s)
  else if a = PWM_COMMIT n then s.pwmCommitWrite n (nbit v 1) (nbit v 0)
  else if a = PWM_CMD n then
    ((s.onBit v 2 fun s => s.pwmClrCnt n).onBit v 1 fun s => s.pwmClrFlags n).onBit v 0 fun s => s.pwmTclr n
  else s.store h a v
/-- An axis has another fourth leg than `j`. -/
def State.fourthTaken (s : State) (j ax : Nat) : Bool :=
  (List.range 8).any fun i => i != j && s.flag (PWMX_CFG i) PWMX_CFG_ROLE && s.get (PWMX_CFG i) PWMX_CFG_AXIS == ax
/-- Auxiliary legs (R241, R268). -/
def State.writePwmx (s : State) (h : Hit) (a v : Nat) : State :=
  let j := h.inst
  if a = PWMX_CFG j then (if nbit v 30 && s.fourthTaken j (nbits v 20 16) then s else (s.store h a v).pwmDrive (32 + j) s.now)
  else if a = PWMX_PER j || a = PWMX_MODE j then (if s.standalone j then s.writeStaged h (32 + j) a v false else s)
  else if a = PWMX_CMP j || a = PWMX_DT j then
    s.writeStaged h (if s.standalone j then 32 + j else s.get (PWMX_CFG j) PWMX_CFG_AXIS) a v (a == PWMX_CMP j)
  else if a = PWMX_COMMIT j then s.onBit v 0 fun s => s.auxCommit j
  else if a = PWMX_CMD j then s.onBit v 1 fun s => s.auxClrFlags j
  else s.store h a v
/-- Global trips (R255, R263, R269). -/
def State.writeGtrip (s : State) (h : Hit) (a v : Nat) : State :=
  let k := h.inst
  if a = GTRIP_CFG k then (if blkselOk v && s.inMorning then (s.store h a v).tripRewatch (32 + k) (s.tripEn (32 + k), s.tripPol (32 + k)) else s)
  else if a = GTRIP_CMD k then (s.onBit v 1 fun s => s.gtripClrCnt k).onBit v 0 fun s => s.gtripTclr k
  else s.store h a v

/-- LP control (R298, R300, R304). -/
def State.writeLp (s : State) (h : Hit) (a v : Nat) : State :=
  let k := h.inst
  if a = LP_CTRL k then
    let s1 := s.store h a (keepBits (s.rdN a) v 31 31)
    if nbit v 31 != s.flag a LP_CTRL_ACTIVE then s1.lpActivate k (nbit v 31) else s1
  else if a = LP_CMD k then
    ((s.onBit v 3 fun s => s.wrN (LP_CNT k) 0).onBit v 0 fun s => s.lpVerify k false).onBit v 1 fun s => s.lpVerify k true
  else if h.reg.off = 0x40 then
    let s1 := s.store h a v
    if s1.rd a == s.rd a then s1 else (s1.bankStale k).lpRegs k
  else s.store h a v

/-- Switch, ports and network time (R319, R320, R313, R336–R338).  A Watch takes no correction of its time (R332). -/
def State.writeNet (s : State) (h : Hit) (a v : Nat) : State :=
  let p := h.inst
  match h.blk with
  | .nt =>
    if a = NT_TRIM then (if s.isWatch then s else s.ntTrim (BitVec.ofNat 32 v).toInt)
    else if a = NT_CTRL then
      (if s.isWatch then s else if nbit v 30 then s.setGo else if nbit v 31 then s.stepGo else s)
    else s.store h a v
  | .gcl =>
    let s1 := s.store h a v
    if a = GCL_CTRL p then s1.onBit v 31 fun s => s.gclChg p else s1
  | _ => s.store h a (if a = PORT_CFG 3 then keepBits (s.rdN a) v 29 29 else v)

/-- The least BELLAGE for a bell window and a hush (R367). -/
def bellAgeLeast (win hush : Nat) : Nat :=
  let hw := (win * 25 * 10 - 67200) / 144875 + 1
  hush + 32 + (32 + hw - 1) / hw + 2
/-- Ramaux (R351, R358, R367, R375, R376). -/
def State.writeRm (s : State) (h : Hit) (a v : Nat) : State :=
  match h.blk with
  | .pub | .sub =>
    let i := h.inst
    let pub := h.blk == .pub
    let base := if pub then PUB_W0 i else SUB_W0 i
    let w := fun (j : Nat) => if a = base + 4 * j then v else s.rdN (base + 4 * j)
    s.entryWrite pub i (w 0) (w 1) (w 2) (w 3)
  | _ =>
    if a = RM_CFG then s.rmEnable v
    else if a = RM_BELL then (if nbits v 31 24 < bellAgeLeast (v % 65536) (nbits v 19 16) then s else s.store h a v)
    else if a = RM_MC then (if v % 4096 = 0 then s.store h a v else s)
    else if a = RM_NEXT then
      let s1 := s.store h a v
      s1.onBit v 31 fun s => (s.epochArm (s.get RM_NEXT RM_NEXT_NEPOCH) (s.rd64N RM_ACTFRAME)).2
    else if a = RM_CMD then s.onBit v 0 fun s => s.rmClrCnt
    else s.store h a v

/-- The pair (R393, R398). -/
def State.writeTw (s : State) (h : Hit) (a v : Nat) : State :=
  if a = TW_HO then (s.store h a v).onBit v 31 fun s => s.handoverGo.2
  else if a = TW_CMD then (s.onBit v 1 fun s => s.twClrCnt).onBit v 0 fun s => s.twClrFlags
  else s.store h a v

/-- What a write of DIOc_CFG gives: FILT of a debounce filter at most 64 000 (R439), PAR 3 ignored (R453), each by itself; none where the
write leaves the register unchanged, PAR being written on a channel that is not the lowest of its set or on a set with an input (R440). -/
def State.dioCfgNew (s : State) (c v : Nat) : Option Nat :=
  let old := s.rdN (DIO_CFG c)
  let v1 := if nbits v 28 27 = 3 then keepBits old v 28 27 else v
  let v2 := if nbit v1 29 || v1 % 65536 ≤ 64000 then v1 else keepBits old v1 15 0
  let size := if nbits v2 28 27 = 1 then 2 else if nbits v2 28 27 = 2 then 4 else 1
  if c % size ≠ 0 || (size ≠ 1 && !(nbit v2 31 && (List.range size).all fun i => i == 0 || s.flag (DIO_CFG (c + i)) DIO_CFG_DIR)) then none else some v2
/-- Field I/O (R439, R442, R446, R452). -/
def State.writeIo (s : State) (h : Hit) (a v : Nat) : State :=
  let n := h.inst
  if a = DIOG_OUT then s.dioOut v
  else if a = DIOG_OSET then s.dioSet v
  else if a = DIOG_OCLR then s.dioClear v
  else if h.blk == .dio && a == DIO_CFG n then (match s.dioCfgNew n v with
    | some w => s.store h a w
    | none => s)
  else if h.blk == .fg && a == FG_CMD n then
    ((s.onBit v 2 fun s => s.fgClrCnt n).onBit v 1 fun s => s.fgClrFlags n).onBit v 0 fun s => (s.fgRearm n).2
  else s.store h a v

/-- CAN FD (R456–R471). -/
def State.writeCan (s : State) (h : Hit) (a v : Nat) : State :=
  let n := h.idx.getD 0 0
  match h.blk with
  | .can =>
    if a = CAN_CTRL n then ((s.store h a v).canHaltWritten n).onBit v 23 fun s => s.canRecover n
    else if a = CAN_APTIM n then (let s1 := s.store h a v; if canTimingBad false (s1.rdN a) then s else s1)
    else if a = CAN_DPTIM n then (if canTimingBad true v then s else s.store h a v)
    else if a = CAN_TXGO n then s.canTxgo n v
    else if a = CAN_TXWD n then s.canTxwd n v
    else if a = CAN_FREL n then (s.onBit v 0 fun s => s.fifoRelease n 0).onBit v 1 fun s => s.fifoRelease n 1
    else s.store h a v
  | .canbuf =>
    let k := h.idx.getD 1 0
    if nbit (s.rd64N (CAN_BDIR n)) k && s.canPending n k then s
    else if a = CANBUF_FLAGS n k && (s.can n).stored = some (s.cclk, k) then s.store h a (v % 2 ^ 31)
    else s.store h a v
  | _ => s.store h a v

/-- Rings (R479–R481, R501); `hq`: through HQ. -/
def State.writeRing (s : State) (hq : Bool) (h : Hit) (a v : Nat) : State :=
  let n := h.inst
  if a = RING_CFG n then s.ringCfg hq n v
  else if a = RING_TAIL n then s.doorbellRing n v
  else if a = RING_CQHEAD n then s.cqHeadWrite n v
  else if a = RING_SQBASE n then (if v % 64 = 0 then s.store h a v else s)
  else if a = RING_CQBASE n then (if v % 32 = 0 then s.store h a v else s)
  else s.store h a v
/-- Host registers and the MSI-X table (R475, R491, R502). -/
def State.writeHost (s : State) (h : Hit) (a v : Nat) : State :=
  if a = HOST_KICK then s.hostKick
  else if a = HOST_CMD then s.onBit v 1 fun s => s.hostClrCnt
  else if a = HOST_WDT then
    let s1 := s.store h a v
    if s1.get a HOST_WDT_TIMEOUT == s.get a HOST_WDT_TIMEOUT then s1 else s1.modHost fun x => { x with kickAt := s.tick, wdOff := false }
  else if h.blk == .msix && a == MSIX_CTRL h.inst then
    let n := h.inst
    let s1 := s.store h a v
    if !s1.flag a MSIX_CTRL_MASK && nbit (s.rdN (MSIXPBA_PBA (n / 32))) (n % 32) then
      (s1.wrN (MSIXPBA_PBA (n / 32)) (nsetBit (s.rdN (MSIXPBA_PBA (n / 32))) (n % 32) false)).raiseVector n
    else s1
  else s.store h a v

/-- Capture units: while a unit is armed its registers other than CMD keep what they hold (R552). -/
def State.writeCu (s : State) (h : Hit) (a v : Nat) : State :=
  let u := h.inst
  if h.blk == .cug then s.store h a v
  else if a = CU_CMD u then ((s.onBit v 0 fun s => (s.cuArm u).2).onBit v 2 fun s => s.cuFire u).onBit v 1 fun s => s.cuDisarm u
  else if s.cuPhase u = 0 then s.store h a v
  else s

/-- Stud book window and cursor, security block (R575, R583, R594, R600). -/
def State.writeLogSec (s : State) (h : Hit) (a v : Nat) : State :=
  if a = LOG_CURSOR then s.logCursor v
  else if a = LOG_CTRL then s.onBit v 0 fun s => s.logNext
  else if a = SEC_POLICY then s.secPolicyWrite v
  else if a = SEC_TAMPER then (s.store h a v).alarmBit
  else if a = SEC_ALARMT then (if v = 2 ^ 64 - 1 then s.wr64N a 0 else s)
  else if a = SEC_CMD then s.onBit v 0 fun s => (s.wrN SEC_INTCNT0 0).wrN SEC_INTCNT1 0
  else s.store h a v

/-- A complete value is written to the register whose low word lies at `a`. -/
def State.regApply (s : State) (hq : Bool) (h : Hit) (a v : Nat) : State :=
  match h.blk with
  | .sys | .sysx => s.writeSys h a v
  | .tb => s.writeTb h a v
  | .ctok => s.writeToken h a v
  | .ep => s.writePort h a v
  | .ax => s.writeAx h a v
  | .ls => s.writeLs h a v
  | .grp => s.writeGrp h a v
  | .li => s.writeLi h a v
  | .co => s.writeCo h a v
  | .rc => s.writeRc h a v
  | .axl => s.writeAxl h a v
  | .lpinj => s.writeInj h a v
  | .sdclk | .sd => s.writeSd h a v
  | .cle | .slot => s.writeSlot h a v
  | .pwm => s.writePwm h a v
  | .pwmx => s.writePwmx h a v
  | .gtrip => s.writeGtrip h a v
  | .lp => s.writeLp h a v
  | .nt | .port | .gcl => s.writeNet h a v
  | .rm | .pub | .sub => s.writeRm h a v
  | .tw => s.writeTw h a v
  | .dio | .diog | .fg | .ai => s.writeIo h a v
  | .can | .canbuf => s.writeCan h a v
  | .ring => s.writeRing hq h a v
  | .host | .msix => s.writeHost h a v
  | .cu | .cug => s.writeCu h a v
  | .log | .sec => s.writeLogSec h a v
  | .bank => (if s.cleTooLate h.inst then s.cleKeep h.inst a else s).store h a v
  | .atc | .fr | .ms | .subst | .bt | .rsafe | .sf | .sfax | .canflt | .canf0 | .canf1 | .msixpba => s.store h a v

/-- The register whose low word lies at `a` is written by the module's own firmware, or by a row that names it. -/
def State.regStore (s : State) (a : Nat) (v : Nat) : State :=
  match regHit a with
  | some h => s.regApply false h a v
  | none => s

/-! ### The regions of BAR0 that hold no registers -/

inductive Region where
  | window (off : Nat)
  | cmpRam (j : Nat)
  | pool (i : Nat)
  | lpMem (k i : Nat)
  | hay (i : Nat)
  deriving DecidableEq, Repr

/-- The region an aligned offset lies in (R35). -/
def regionOf (a : Nat) : Option Region :=
  if a % 4 ≠ 0 then none
  else if 0x30000 ≤ a && a < 0x40000 then some (.window (a - 0x30000))
  else if 0x100000 ≤ a && a < 0x200000 then some (.cmpRam ((a - 0x100000) / 4))
  else if 0x200000 ≤ a && a < 0x240000 then some (.pool ((a - 0x200000) / 4))
  else if 0x400000 ≤ a && a < 0x800000 then some (.lpMem ((a - 0x400000) / 0x40000) (a % 0x40000 / 4))
  else if 0x800000 ≤ a && a < 0x1000000 then some (.hay ((a - 0x800000) / 4))
  else none

/-- The class bit of a region; none: it takes no writes. -/
def Region.bit : Region → Option Nat
  | .window _ => some 0
  | .cmpRam _ => some 6
  | .pool _ | .lpMem _ _ => some 4
  | .hay _ => none

def State.regionWrite (s : State) (r : Nat) (g : Region) (v : Word) : State :=
  match g with
  | .window off => s.winWrite r off v
  | .cmpRam j => s.cmpRamWrite j v
  | .pool i => if s.tableInUse i 1 then s.badAcc (0x200000 + 4 * i) true else s.setBin i v.toInt
  | .lpMem k i => s.lpMemWrite k i v
  | .hay _ => s

/-! ### Writes (R28, R36, R37) -/

/-- Level and class let requester `r` write offset `a`; an unmapped offset is refused by nothing. -/
def State.mayWrite (s : State) (r a : Nat) : Bool :=
  match regHit a, regionOf a with
  | some h, _ => s.classOk r h
  | none, some g =>
    match g.bit with
    | some c => s.classBit r c
    | none => true
  | none, none => true

def State.reqOf (s : State) (r : Nat) : ReqSt := vget s.reqs r {}
def State.modReq (s : State) (r : Nat) (f : ReqSt → ReqSt) : State := { s with reqs := vmod s.reqs r f }

/-- The word of a register is written: a low word of a 64-bit register is held, a high word applies both halves (R36). -/
def State.wordWrite (s : State) (r : Nat) (h : Hit) (a : Nat) (v : Word) : State :=
  let hq := r == 1
  if !h.reg.wide then s.regApply hq h a v.toNat
  else if !h.high then s.modReq r fun q => { q with hold := some (a, v) }
  else
    match (s.reqOf r).hold with
    | some (b, lo) =>
      if b = a - 4 then (s.modReq r fun q => { q with hold := none }).regApply hq h (a - 4) (v ++ lo).toNat
      else s.regApply hq h (a - 4) (v ++ s.rd (a - 4)).toNat
    | none => s.regApply hq h (a - 4) (v ++ s.rd (a - 4)).toNat

/-- A write of a BAR0 word by requester `r`; none: it sets a reserved bit (R5). -/
def State.bar0Write (s : State) (r a : Nat) (v : Word) : Option State :=
  if s.pw.phase ≠ .running then some s
  else if a % 4 ≠ 0 then some (s.badAcc a false)
  else
    match regHit a, regionOf a with
    | some h, _ =>
      if !s.classOk r h then some (s.badAcc a true)
      else if h.reserved (if h.high then v.toNat * 2 ^ 32 else v.toNat) then none
      else some (s.wordWrite r h a v)
    | none, some g =>
      match g.bit with
      | some c => some (if s.classBit r c then s.regionWrite r g v else s.badAcc a true)
      | none => some (s.badAcc a true)
    | none, none => some (s.badAcc a false)

/-- A write of a command bit or register whose effect has its own row: the right to write applies to it as to any other. -/
def State.hostCmd (s : State) (a : Nat) (f : State → State) : State :=
  if s.pw.phase ≠ .running then s else if s.mayWrite 0 a then f s else s.badAcc a true

/-! ### Reads (R36, R37) -/

/-- The value of a register, as a read by requester `r` forms it. -/
def State.regVal (s : State) (r : Nat) (h : Hit) (a : Nat) : Nat :=
  let n := h.inst
  let raw := s.regGet h a
  match h.blk with
  | .sys => if a = SYS_ID then raw - nbits raw 11 8 * 256 + (if s.variantF then 2 else 1) * 256 else raw
  | .tb => if a = TB_TICK then s.tick % 2 ^ 64 else raw
  | .nt =>
    if a = NT_NS then nsOf s.time.mt
    else if a = NT_SEC then (vget s.nw.ntLatch r (0, 0)).1
    else if a = NT_FRAC then (vget s.nw.ntLatch r (0, 0)).2
    else raw
  | .ep => if a = EP_TURN n then s.epTurn n else raw
  | .co =>
    let t := s.coUpdate n
    if a = CO_STAT n then nsetBit (t.regGet h a) 0 (t.compare n).active else t.regGet h a
  | .rc => if a = RC_STAT n then (s.regFlags n).rdN a else raw
  | .axl => if a = AXL_RCFG n && nbit raw 29 then nsetBit raw 30 true else raw
  | .dio => if a = DIO_ST n then (s.dioSt n).toNat else raw
  | .ai =>
    if a = AI_VAL n then (s.aiVal n s.tick).toNat
    else if a = AI_STAMP n then (s.aiStamp n s.tick).toNat
    else if a = AI_STAT n then nsetBit raw 0 (s.aiValid n s.tick)
    else raw
  | .can => if a = CAN_TICK n then canTick s.tick else if a = CAN_FRESH n then s.canFresh n else raw
  | .sf =>
    if s.variantF then (if a = SF_STAT then 2 ^ 31 else 0)
    else if h.reg.off = 0x80 then raw / 65536 * 65536 + s.btHours h.arr
    else raw
  | .sfax => if s.variantF then 0 else raw
  | .lp =>
    if a = LP_IRQ n then s.lpPend n else if a = LP_DEMAND n then s.demandReg n false
    else if a = LP_DEMANDI n then s.demandReg n true else raw
  | .pwm => if a = PWM_CTR n then s.pwmCtr n else (s.flyTo n).regGet h a
  | .host => if a = HOST_TAGS then (s.inflight.filter fun i => i.peer.isNone).length else raw
  | .ring => if a = RING_STAT n then nsetBit raw 30 (s.cqWait n) else raw
  | .sec =>
    if a = SEC_BAT then (let v := Config.vbat s.tick % 65536; v + (if v < 2500 then 2 ^ 31 else 0))
    else if h.reg.off = 0x100 then leNat ((Config.devPub.drop (4 * h.arr)).take 4) else raw
  | _ => raw

def State.regionRead (s : State) (r : Nat) (g : Region) : Option Word × State :=
  match g with
  | .window off => s.winRead r off (s.winRight r)
  | .cmpRam j => (some (wmGet s.mem.cmpRam j), s)
  | .pool i => (some (wmGet s.mem.pool i), s)
  | .lpMem k i => (some (if i < 32768 then wmGet s.mem.lpCode (32768 * k + i) else wmGet s.mem.lpData (32768 * k + (i - 32768))), s)
  | .hay i => (some (wmGet s.mem.hay (2097152 * s.get CUG_HLFPAGE CUG_HLFPAGE_PAGE + i)), s)

/-- A read of a BAR0 word by requester `r`: the word that comes back, none while a WAIT read waits. -/
def State.bar0Read (s : State) (r a : Nat) : Option Word × State :=
  if s.pw.phase ≠ .running then (none, s)
  else if a % 4 ≠ 0 then (some 0, s.badAcc a false)
  else
    match regHit a, regionOf a with
    | some h, _ =>
      if !h.reg.wide then
        let v := BitVec.ofNat 32 (s.regVal r h a)
        (some v, if a = NT_NS then s.ntNsRead r else s)
      else if !h.high then
        let v := BitVec.ofNat 64 (s.regVal r h a)
        (some (v.setWidth 32), s.modReq r fun q => { q with latch := some (a, v) })
      else
        match (s.reqOf r).latch with
        | some (b, v) =>
          if b = a - 4 then (some ((v >>> 32).setWidth 32), s) else (some (BitVec.ofNat 32 (s.regVal r h (a - 4) / 2 ^ 32)), s)
        | none => (some (BitVec.ofNat 32 (s.regVal r h (a - 4) / 2 ^ 32)), s)
    | none, some g => s.regionRead r g
    | none, none => (some 0, s.badAcc a false)

/-- The word read goes to the requester. -/
def State.bar0ReadRow (s : State) (r a : Nat) : State :=
  match s.bar0Read r a with
  | (some v, t) => { t with rdata := v }
  | (none, t) => t

/-! ### HQ (R477, R478) -/

/-- One word at an HQ address. -/
def State.hqWord (s : State) (a : Nat) : Word × State :=
  if a < 0x1000000 then
    match s.bar0Read 1 a with
    | (v, t) => (v.getD 0, t)
  else if 0x80000000 ≤ a && a < 0xC0000000 && a % 4 = 0 then (wmGet s.mem.dram ((a + 0x40000000) / 4), s)
  else (0, s)
/-- A read transaction of `k` words. -/
def State.hqReadN (s : State) (a : Nat) : Nat → State
  | 0 => s
  | k + 1 =>
    let (w, t) := s.hqWord a
    (({ t with rdata := w }).modHost fun h => { h with hqRead := h.hqRead ++ [w] }).hqReadN (a + 4) k
def State.hqReadRow (s : State) (a k : Nat) : State := (s.modHost fun h => { h with hqRead := [] }).hqReadN a k

/-- A write transaction: each word in turn, at the basic level; none: a reserved bit. -/
def State.hqWriteN (s : State) (a : Nat) : List Word → Option State
  | [] => some s
  | w :: ws =>
    if a < 0x1000000 then
      match s.bar0Write 1 a w with
      | some t => (t.modHost fun h => { h with hqRefused := !s.mayWrite 1 a }).hqWriteN (a + 4) ws
      | none => none
    else
      let t := if 0x80000000 ≤ a && a < 0xC0000000 then s.dramPut (a + 0x40000000) (leBytes 4 w.toNat) else s
      (t.modHost fun h => { h with hqRefused := false }).hqWriteN (a + 4) ws
/-- The status byte. -/
def State.hqStatus (s : State) : State := { s with rdata := BitVec.ofNat 32 (b2n s.hqInt + 2 * b2n s.host.hqRefused) }

/-! ### Rows of BAR0 access -/

/-- A word is written by a row of the host: it is refused, or sets a reserved bit, or `f` applies. -/
def hostWord (s : State) (a v : Nat) (f : State → State) : Host.Outcome State Fault Refusal :=
  if s.pw.phase ≠ .running then .next s
  else if !s.mayWrite 0 a then .next (s.badAcc a true)
  else
    match regHit a with
    | some h => if h.reserved v then .fault .reservedBit else .next (f s)
    | none => .next (f s)
/-- The offset is the low word of a 64-bit register, or the word of a 32-bit one. -/
def isLowWord (a : Nat) : Bool := decide (a % 4 = 0) && (match regHit a with
  | some h => !h.high
  | none => false)
/-- The offset is the high word of a 64-bit register. -/
def isHighWord (a : Nat) : Bool := decide (a % 4 = 0) && (match regHit a with
  | some h => h.high
  | none => false)
/-- No register and no region lies at the offset, or it is not aligned. -/
def isUnmapped (a : Nat) : Bool := decide (a % 4 ≠ 0) || ((regHit a).isNone && (regionOf a).isNone)
/-- An access that is treated as unmapped (R36, R37): `odd` says that it is not an aligned 32-bit access.  A read returns 0. -/
def State.unmappedRow (s : State) (a : Nat) (write odd : Bool) : State :=
  if s.pw.phase ≠ .running || !(odd || isUnmapped a) then s
  else if write then s.badAcc a false else { s.badAcc a false with rdata := 0 }
/-- A read of any word but a high word. -/
def State.readLow (s : State) (r a : Nat) : State := if isHighWord a then s else s.bar0ReadRow r a
def State.readHigh (s : State) (r a : Nat) : State := if isHighWord a then s.bar0ReadRow r a else s
/-- A write of a word that the row is about; a 1 in a reserved bit has no defined response (R5). -/
def writeRow (s : State) (r a : Nat) (v : Word) (mine : Bool) : Host.Outcome State Fault Refusal :=
  if !mine then .next s
  else
    match s.bar0Write r a v with
    | some t => .next t
    | none => .fault .reservedBit
/-- CLR of SYS_BADACC (R38). -/
def State.badAccClr (s : State) (r : Nat) : State :=
  if s.pw.phase ≠ .running then s else if s.mayWrite r SYS_BADACC then s.wrN SYS_BADACC 0 else s.badAcc SYS_BADACC true
def hqWriteRow (s : State) (a : Nat) (ws : List Word) : Host.Outcome State Fault Refusal :=
  match s.hqWriteN a ws with
  | some t => .next t
  | none => .fault .reservedBit

end Sys2Proof.Machine
end

