-- ==== Sys2Proof/Machine/Image.lean ====
section
/-! DEFINITION. Image commands (R506): a payload that copies registers word by word, checked before any of it stands. -/

namespace Sys2Proof.Machine

/-- `k` words from offset `a`. -/
def spanOf (a k : Nat) : List Nat := (List.range k).map fun i => a + 4 * i

/-- Bits of a register that act as read-only where it stands now (R50, R98, R144, R337). -/
def State.actsRo (s : State) (h : Hit) (a : Nat) : Nat :=
  let n := h.inst
  match h.blk with
  | .ax => if a = AX_TB n && 64 ≤ n then 0xFFFF else 0
  | .ls => if (a = LS_COAST n || a = LS_DEC n || a = LS_JERK n) && !s.flag (LS_CFG n) LS_CFG_ROLE then 2 ^ 64 - 1 else 0
  | .ep => if a = EP_SSIT n && nbit (s.rdN a) 31 then 0x0FFF0000 else 0
  | .port => if a = PORT_CFG 3 then 2 ^ 29 else 0
  | _ => 0

/-- The bits of a value that lie in fields of an access code. -/
def Hit.bitsOf (h : Hit) (p : Acc → Bool) (v : Nat) : Nat :=
  h.reg.fields.foldl (fun x f => if p f.acc then x + nbits v f.hi f.lo * 2 ^ f.lo else x) 0
def Acc.isRo : Acc → Bool
  | .ro => true
  | _ => false
def Acc.isWo : Acc → Bool
  | .wo => true
  | _ => false

/-- One register takes its value of an image; none: a reserved or write-only bit is set, or a field would ignore its value. -/
def State.imageReg (s : State) (h : Hit) (a v : Nat) : Option State :=
  if h.reg.fields.all (fun f => f.acc.isRo) then some s
  else if h.reserved v || h.bitsOf Acc.isWo v != 0 then none
  else
    let t := s.regApply false h a (v - h.bitsOf Acc.isRo v)
    let ro := t.actsRo h a
    let held := h.reg.fields.all fun f => match f.acc with
      | .rw | .rwc => nbit ro f.lo || nbits (t.regGet h a) f.hi f.lo == nbits v f.hi f.lo
      | _ => true
    if held then some t else none

/-- The registers of a list of words, with their lengths in bytes; a word of none is 4 bytes long. -/
def imageItems (as : List Nat) : List (Nat × Nat) :=
  as.filterMap fun a => match regHit a with
    | some h => if h.high then none else some (a, if h.reg.wide then 8 else 4)
    | none => some (a, 4)
/-- The registers of an image in turn, from payload offset `o`; or the payload offset of the first that refuses. -/
def State.imageSteps (s : State) : Nat → List (Nat × Nat) → List Byte → Except Nat State
  | _, [], _ => .ok s
  | o, (a, k) :: rest, b =>
    match regHit a with
    | none => if bU b 0 k = 0 then s.imageSteps (o + k) rest (b.drop k) else .error o
    | some h =>
      match s.imageReg h a (bU b 0 k) with
      | some t => t.imageSteps (o + k) rest (b.drop k)
      | none => .error o
/-- An image is applied as a whole, or not at all. -/
def State.applyImage (s : State) (as : List Nat) (b : List Byte) : Except Nat State := s.imageSteps 0 (imageItems as) b

/-! ### The registers that each image command names (R512–R518) -/

/-- The words of a CLE slot image: slot, three streams, their clock. -/
def cleImage (a : Nat) : List Nat :=
  spanOf (SLOT_CFG a) 14 ++ ([0, 1, 2].flatMap fun i => [SD_CFG (3 * a + i), SD_OCLIM (3 * a + i)]) ++ [SDCLK_CFG (a / 4)]
/-- Gate list and SecY of a switch port, without its Pp words (R313). -/
def gclImage (p : Nat) : List Nat :=
  [GCL_CTRL p] ++ spanOf (GCL_BASE p) 2 ++ spanOf (GCL_CHGTIME p) 2 ++ [GCL_CYCLE p] ++ spanOf (GCL_ADM p 0) 64 ++ [MS_CFG p]
/-- A capture unit without command, status and segment records. -/
def cuImage (u : Nat) : List Nat :=
  spanOf (CU_CFG u) 6 ++ spanOf (CU_CH u 0) 64 ++ spanOf (CU_TCCFG u 0) 32
/-- A CAN controller (R516). -/
def canImage (n : Nat) : List Nat :=
  spanOf (CAN_CTRL n) 4 ++ [CAN_URG n, CAN_FIFO0 n, CAN_FIFO1 n] ++ spanOf (CAN_BDIR n) 2 ++ spanOf (CANFLT_FLT n 0) 64

/-- The words that an image command copies, by opcode and UNIT. -/
def imageOf (op u : Nat) (short : Bool) : List Nat :=
  match op with
  | 0x0400 => spanOf (AX_TB u) 2 ++ spanOf (PWM_PER u) 10
  | 0x0404 => spanOf (PWMX_CFG u) 5
  | 0x0405 => spanOf (ATC_CFG u) 2
  | 0x0808 => (spanOf (GRP_MEMB0 (u - 0x90)) 22).drop (if short then 2 else 0)
  | 0x0C04 => spanOf (LS_CFG u) 8
  | 0x0C05 => AX_TB u :: spanOf (AX_SRC u) 32
  | 0x1000 => AXL_LCFG u :: spanOf (AXL_SH0 u) 56
  | 0x1001 => [AXL_LFB u, AXL_FB2K u]
  | 0x1003 => cleImage u
  | 0x1006 => spanOf (LPINJ_CFG u) 6
  | 0x1007 => spanOf (LP_LAWSEL u 0) 10
  | 0x1400 => spanOf (EP_CFG u) 9
  | 0x1800 => [LI_CFG u]
  | 0x1804 => [CO_CFG u]
  | 0x1805 => spanOf (RC_CFG u) 16
  | 0x1C00 => (if short then [] else spanOf (PORT_CFG u) 6) ++ gclImage u
  | 0x1C05 => spanOf RM_CFG 12 ++ spanOf (RM_ACL 0) 8
  | 0x2000 => canImage u
  | 0x2400 => (List.range 32).map DIO_CFG ++ (List.range 4).map FG_CFG ++ (List.range 8).map AI_CFG
  | 0x2C00 => cuImage u
  | 0x3800 => [TW_CFG, TW_YIELD, TW_LTOL]
  | _ => []

end Sys2Proof.Machine
end

