-- ==== Sys2Proof/Machine/Command.lean ====
section
/-! DEFINITION. Commands: the table of opcodes, the checks before a command acts, and its start (R486–R488, R503–R518). -/

namespace Sys2Proof.Machine

/-- A command as it is served: tag, opcode, UNIT, P0 to P5, payload; `fault`: the payload could not be read. -/
structure Req where
  tag : Nat
  op : Nat
  unit : Nat
  p : List Nat
  data : List Byte := []
  fault : Bool := false
  deriving DecidableEq, Repr

def Req.P (r : Req) (i : Nat) : Nat := r.p.getD i 0
/-- Pi:P(i+1), the low word in Pi. -/
def Req.P64 (r : Req) (i : Nat) : Nat := r.P i + 2 ^ 32 * r.P (i + 1)
def Req.S64 (r : Req) (i : Nat) : Int := wrapS 64 (r.P64 i)
def Req.bit (r : Req) (i b : Nat) : Bool := nbit (r.P i) b
/-- Field `i` of a payload of S64 fields. -/
def Req.fld (r : Req) (i : Nat) : Int := bS r.data (8 * i) 8
/-- P5 [31] DONEWAIT. -/
def Req.wait (r : Req) : Bool := nbit (r.P 5) 31

/-! ### The opcode table (R511–R518) -/

/-- The UNIT codings. -/
inductive UnitKind where
  | none
  /-- a plain index below a bound -/
  | below (n : Nat)
  | axisOrGrp | grp | trip | port | vx
  deriving DecidableEq, Repr

def UnitKind.ok (k : UnitKind) (u : Nat) : Bool :=
  match k with
  | .none => u == 0xFF
  | .below n => decide (u < n)
  | .axisOrGrp => decide (u < 80) || decide (0x90 ≤ u ∧ u < 0xA0)
  | .grp => decide (0x90 ≤ u ∧ u < 0xA0)
  | .trip => decide (u < 32) || decide (0xE0 ≤ u ∧ u < 0xE4)
  | .port => decide (1 ≤ u ∧ u ≤ 3)
  | .vx => decide (0x40 ≤ u ∧ u < 0x50)

/-- What the table gives an opcode: UNIT coding, the states that accept it (bit 0 Dawn to bit 4 Night), and the bits of each
parameter that are not reserved. -/
structure CmdSpec where
  unit : UnitKind
  states : Nat
  used : List Nat := []
  deriving DecidableEq, Repr

def allP : Nat := 0xFFFFFFFF
/-- Mo. -/
def stM : Nat := 2
def stMN : Nat := 6
def stN : Nat := 4
def stND : Nat := 12
def stMND : Nat := 14
/-- All except Dawn. -/
def stUp : Nat := 30
def stAll : Nat := 31

def cmdTableA : List (Nat × CmdSpec) :=
  [(0x0000, ⟨.none, stAll, []⟩), (0x0001, ⟨.none, stAll, []⟩), (0x0002, ⟨.none, stAll, [0xFFFF]⟩), (0x0003, ⟨.none, stAll, [7]⟩),
   (0x0004, ⟨.none, stAll, [0x7BFF, 1]⟩), (0x0005, ⟨.none, stM, [0x3E, allP, allP]⟩), (0x0006, ⟨.none, stMN, [0x107, allP, allP, 0xFFFF, allP, allP]⟩),
   (0x0007, ⟨.none, stM, [0xB]⟩), (0x0008, ⟨.below 80, stM, [0xF]⟩), (0x0009, ⟨.none, stUp, [allP, allP]⟩),
   (0x0400, ⟨.below 32, stM, []⟩), (0x0401, ⟨.below 64, stND + 16, [1]⟩), (0x0402, ⟨.trip, stUp, []⟩), (0x0403, ⟨.below 32, stN, [allP, allP]⟩),
   (0x0404, ⟨.below 8, stM, []⟩), (0x0405, ⟨.below 16, stUp, []⟩)]
def cmdTableB : List (Nat × CmdSpec) :=
  [(0x0800, ⟨.below 80, stMN, [0x1FF0F]⟩), (0x0801, ⟨.axisOrGrp, stN, [1, 0, 0, 0, 0, 2 ^ 31]⟩), (0x0802, ⟨.grp, stN, [1, 0, 0, 0, 0, 2 ^ 31]⟩),
   (0x0803, ⟨.grp, stN, [3, 0, 0, 0, 0, 2 ^ 31]⟩), (0x0804, ⟨.grp, stN, [1, 0, 0, 0, 0, 2 ^ 31]⟩), (0x0805, ⟨.below 80, stN, [1, 0, 0, 0, 0, 2 ^ 31]⟩),
   (0x0806, ⟨.axisOrGrp, stND, []⟩), (0x0807, ⟨.below 80, stN, [1, 0, 0, 0, 0, 2 ^ 31]⟩), (0x0808, ⟨.grp, stMN, []⟩),
   (0x0C00, ⟨.below 80, stN, [allP, allP, 0x301FF, allP, allP]⟩), (0x0C01, ⟨.none, stMN, [0xFF, allP, 3]⟩),
   (0x0C02, ⟨.below 80, stN, [0xFF, 0xFF07, allP, allP]⟩), (0x0C03, ⟨.below 80, stN, [0xFF, 1, allP, allP]⟩), (0x0C04, ⟨.below 16, stM, []⟩),
   (0x0C05, ⟨.vx, stM, []⟩)]
def cmdTableC : List (Nat × CmdSpec) :=
  [(0x1000, ⟨.below 64, stMN, [1]⟩), (0x1001, ⟨.below 64, stM, []⟩), (0x1002, ⟨.below 32, stMN, [1]⟩), (0x1003, ⟨.below 32, stM, []⟩),
   (0x1004, ⟨.none, stMN, [allP, allP]⟩), (0x1005, ⟨.none, stUp, [allP, allP]⟩), (0x1006, ⟨.below 16, stN, [1]⟩), (0x1007, ⟨.below 16, stM, []⟩),
   (0x1400, ⟨.below 40, stM, []⟩), (0x1401, ⟨.below 40, stMND, [0x1F, allP, allP]⟩), (0x1800, ⟨.below 32, stMN, []⟩),
   (0x1801, ⟨.below 32, stUp, [allP]⟩), (0x1802, ⟨.none, stMND, [allP, allP]⟩), (0x1803, ⟨.below 16, stMND, [0x0FFF0003, 0xFFFF1FFF, allP, allP]⟩),
   (0x1804, ⟨.below 16, stMN, []⟩), (0x1805, ⟨.below 32, stMN, []⟩), (0x1806, ⟨.below 32, stN, [allP, allP]⟩)]
def cmdTableD : List (Nat × CmdSpec) :=
  [(0x1C00, ⟨.port, stMN, [1]⟩), (0x1C01, ⟨.none, stM, [allP, allP, 0xFFF, allP, 3, allP]⟩), (0x1C02, ⟨.none, stMND, [allP, allP, allP]⟩),
   (0x1C03, ⟨.none, stUp, [1, allP, allP]⟩), (0x1C04, ⟨.none, stUp, [0xFF, allP, allP]⟩), (0x1C05, ⟨.none, stM, []⟩), (0x1C06, ⟨.none, stMND, [0x3FF]⟩),
   (0x2000, ⟨.below 4, stMN, []⟩), (0x2001, ⟨.below 4, stUp, [0x13F]⟩), (0x2002, ⟨.below 4, stUp, [3, allP]⟩), (0x2003, ⟨.below 4, stUp, []⟩),
   (0x2400, ⟨.none, stM, []⟩), (0x2401, ⟨.none, stUp, [allP, allP]⟩), (0x2402, ⟨.none, stUp, []⟩), (0x2403, ⟨.below 4, stMND, []⟩),
   (0x2800, ⟨.none, stAll, []⟩), (0x2C00, ⟨.below 8, stMND, []⟩), (0x2C01, ⟨.below 8, stMND, [1]⟩), (0x2C02, ⟨.below 8, stUp, [allP, allP, allP]⟩),
   (0x3000, ⟨.none, stAll, [allP, allP, 1]⟩), (0x3001, ⟨.none, stUp, [1]⟩), (0x3002, ⟨.none, stM, []⟩)]
def cmdTableE : List (Nat × CmdSpec) :=
  [(0x3400, ⟨.none, stM, []⟩), (0x3401, ⟨.none, stUp, [allP]⟩), (0x3402, ⟨.none, stM, []⟩), (0x3403, ⟨.none, stM, []⟩), (0x3404, ⟨.none, stM, []⟩),
   (0x3800, ⟨.none, stM, []⟩), (0x3801, ⟨.none, stM, [1]⟩), (0x3802, ⟨.none, stUp, []⟩), (0x3803, ⟨.none, stND, [allP, allP]⟩),
   (0x3C00, ⟨.none, stUp, [allP]⟩), (0x3C01, ⟨.none, stUp, []⟩), (0x3C02, ⟨.none, stMND, []⟩), (0x3C03, ⟨.below 16, stUp, [1]⟩),
   (0x3C04, ⟨.none, stM, [0xF]⟩)]
/-- Every native command. -/
def cmdTable : List (Nat × CmdSpec) := cmdTableA ++ cmdTableB ++ cmdTableC ++ cmdTableD ++ cmdTableE
def cmdSpec (op : Nat) : Option CmdSpec := cmdTable.lookup op

/-- The states that accept a command where its parameters or unit decide (R512, R515): the target of SET_STATE (in the tick of a
protective Dusk the target Dusk too, R521), the enable of EXPERT and of ENABLE, and
images of a latch input, compare output or register controller that is enabled. -/
def State.cmdStates (s : State) (r : Req) (sp : CmdSpec) : Nat :=
  match r.op with
  | 0x0003 => match r.P 0 with
    | 1 => 28
    | 2 => stM
    | 3 => if s.pw.duskAt = some s.tick then stND else stN
    | _ => stUp
  | 0x0004 => if r.bit 1 0 then stM else sp.states
  | 0x0401 => if r.bit 0 0 then stN else sp.states
  | 0x1800 => if s.flag (LI_CFG r.unit) LI_CFG_EN then stM else sp.states
  | 0x1804 => if s.flag (CO_CFG r.unit) CO_CFG_EN then stM else sp.states
  | 0x1805 => if s.flag (RC_CFG r.unit) RC_CFG_EN then stM else sp.states
  | _ => sp.states

/-- The read commands, ABORT, the classes ACQ, LOG, TWIN and UPDATE, and TOKEN with PWM and CLE masks of 0 (R505): what a Watch
accepts. -/
def watchTakes (r : Req) : Bool :=
  [0x0000, 0x0001, 0x0002, 0x0009, 0x1005, 0x1801, 0x2002, 0x2402, 0x2800].contains r.op || [0x0B, 0x0C, 0x0E, 0x0F].contains (r.op / 1024) ||
    (r.op == 0x0006 && r.P 1 == 0 && r.P 2 == 0)

/-! ### Parameters (R504 step 6, R511–R518) -/

/-- Members of the group that UNIT names; one for an axis. -/
def State.moveSize (s : State) (u : Nat) : Nat := if u < 0x90 then 1 else (s.grpMembers (u - 0x90)).length

/-- `n` entries from `first` lie in a table of `size`; else the offset of the field that fails, the count lying at `o`. -/
def rangeBad (first n size o : Nat) : Option Nat :=
  if n = 0 || size < n then some o else if size < first + n then some o else none
/-- The first parameter outside its range. -/
def Req.paramBad (r : Req) : Option Nat :=
  match r.op with
  | 0x0003 => if r.P 0 < 1 || 3 < r.P 0 then some 24 else none
  | 0x0007 => if r.P 0 % 4 = 3 then some 24 else none
  | 0x0009 => if r.P 0 % 4 ≠ 0 || 0x1000000 ≤ r.P 0 then some 24 else if r.P 1 < 1 || 1024 < r.P 1 then some 28 else none
  | 0x0403 => if r.P 1 < 1 || 65535 < r.P 1 then some 28 else none
  | 0x0800 => if srcOk r.unit (r.P 0 % 16) (nbits (r.P 0) 15 8) then none else some 24
  | 0x0C00 => if r.P 1 = 0 then some 28 else if mselMaster (r.P 2 % 256) then none else some 32
  | 0x0C01 => if 16384 < r.P 1 then some 28 else none
  | 0x0C02 => if mselMaster (nbits (r.P 1) 15 8) then none else some 28
  | 0x1004 | 0x1005 | 0x1802 => rangeBad (r.P 0) (r.P 1) 65536 28
  | 0x1801 => if r.P 0 < 1 || 16 < r.P 0 then some 24 else none
  | 0x1803 => if 65536 < nbits (r.P 1) 31 16 + r.P 1 % 8192 then some 28
    else if r.bit 0 0 && decide (r.P 1 % 8192 ≤ nbits (r.P 0) 27 16) then some 24 else none
  | 0x1C01 => if (wrapS 32 (r.P 3)) < -5 || 0 < wrapS 32 (r.P 3) then some 36 else if 2 < r.P 4 then some 40 else if r.P 5 = 0 then some 44 else none
  | 0x1C03 => if r.P 2 = 0 then none else rangeBad (r.P 1) (r.P 2) (if r.bit 0 0 then 256 else 128) 32
  | 0x2002 => if r.P 0 = 3 then some 24
    else if r.P 0 = 0 then (if 63 < r.P 1 then some 28 else none)
    else if r.P 1 < 1 || 32 < r.P 1 then some 28 else none
  | _ => none

/-- The word lists of GROUP_CONFIG and SWITCH_CONFIG differ outside Morning (R512, R516). -/
def State.imageShort (s : State) : Bool := !s.inMorning
/-- The payload length that a command asks for; none: any. -/
def State.plenOf (s : State) (r : Req) : Option Nat :=
  match r.op with
  | 0x0801 => some (24 + 8 * s.moveSize r.unit)
  | 0x0802 => some (8 + 8 * s.moveSize r.unit)
  | 0x0803 => some (if r.bit 0 1 then 56 else 48)
  | 0x0807 => some (if r.bit 0 0 then 24 else 32)
  | 0x0C01 => some (32 * r.P 1)
  | 0x1002 => some 68
  | 0x1004 => some (4 * r.P 1)
  | 0x1802 => some (16 * r.P 1)
  | 0x1C03 => some (16 * r.P 2)
  | 0x2001 => some 96
  | 0x3002 | 0x3401 | 0x3402 => some 96
  | 0x3400 => some 192
  | 0x3404 => some 128
  | _ => if imageOf r.op r.unit s.imageShort = [] then none else some (4 * (imageOf r.op r.unit s.imageShort).length)
/-- The payload length is one that the command accepts. -/
def State.plenFits (s : State) (r : Req) (plen : Nat) : Bool :=
  match r.op with
  | 0x0804 =>
    let m := 8 * s.moveSize r.unit
    let h := 8 + (if r.bit 0 0 then 2 * m else 0)
    m != 0 && decide (h + 2 * m ≤ plen) && (plen - h) % m == 0
  | 0x0805 => plen % 24 == 0
  | 0x1C06 => decide (64 ≤ plen ∧ plen ≤ 15360)
  | 0x3C03 => decide (132 ≤ plen ∧ plen ≤ 65536 + 132)
  | 0x3C04 => decide (plen ≤ 9152)
  | _ => match s.plenOf r with
    | some k => plen == k
    | none => true

/-! ### The checks (R504) -/

/-- The longest payload and result buffer (R486). -/
def maxLen : Nat := 67108864
/-- The first check of R504 that an entry fails before its payload is read: the status and R0. -/
def State.entryFail (s : State) (r : Req) (plen rlen : Nat) : Option (Status × Nat) :=
  match cmdSpec r.op with
  | none => some (.badOpcode, 0)
  | some sp =>
    if r.op == 0x3C04 && s.variantF then some (.variant, 0)
    else if s.isWatch && !watchTakes r then some (.watchRole, 0)
    else if !nbit (s.cmdStates r sp) s.opState then some (.badState, s.opState)
    else if !sp.unit.ok r.unit then some (.badUnit, 0)
    else if maxLen < plen then some (.badParam, 8)
    else
      match (List.range 6).find? fun i => r.P i != (r.P i &&& sp.used.getD i 0) with
      | some i => some (.badParam, 24 + 4 * i)
      | none =>
        match r.paramBad with
        | some o => some (.badParam, o)
        | none =>
          if maxLen < rlen then some (.badParam, 56)
          else if !s.plenFits r plen then some (.badParam, 8) else none

/-- The checks, the payload (R488), then what the command does. -/
def State.serveWith (s : State) (r : Req) (plen rlen : Nat) (pcrc : Option Nat) (go : State → Req → State) : State :=
  match s.entryFail r plen rlen with
  | some (st, r0) => s.finish r.tag st r0
  | none =>
    if plen ≠ 0 && r.fault then s.finish r.tag .payloadFault
    else if plen ≠ 0 && (match pcrc with
      | some c => crc32c r.data != c
      | none => false) then s.finish r.tag .pcrcBad
    else go s r

/-! ### Start of a command (R484, R485) -/

/-- The words of a command row. -/
def cmdReq (c : Cmd) (op : Nat) : Req :=
  { tag := c.tag.toNat, op := op, unit := c.unit.toNat, p := c.p.toList.map (·.toNat), data := c.payload, fault := c.fault }
/-- The entry of a ring that waits to start is this command: it is the first of its ring that has not started, with FENCE the
first that has not completed, and its fields are the row's. -/
def State.startsNow (s : State) (i : Inflight) (r : Req) : Bool :=
  let mine := s.inflight.filter fun j => j.ring == i.ring && j.peer.isNone && !j.drop
  let e := i.entry
  !i.started && i.opcode == r.op && eUnit e == r.unit && (List.range 6).all (fun k => eP e k == r.P k) &&
    ((mine.filter fun j => !j.started && !j.done).head?.map (·.tag)) == some i.tag &&
    (!nbit (eFlags e) 2 || mine.head?.map (·.tag) == some i.tag) &&
    (nbit (eFlags e) 3 || r.fault || r.data.length == ePlen e)
/-- The payload of an entry: from the host area under PLOC, else what the bus read. -/
def State.entryPayload (s : State) (e : List Byte) (r : Req) : Req :=
  if nbit (eFlags e) 3 then
    if hostArea (bU e 16 8) (ePlen e) then { r with data := s.dramBytes (bU e 16 8) (ePlen e), fault := false } else { r with data := [], fault := true }
  else r
/-- Without firmware only IDENTIFY is answered, and only where no image could be booted (R605). -/
def State.serves (s : State) (op : Nat) : Bool :=
  s.pw.phase == .running && (s.pw.fwRun || (op == 1 && s.flag SYS_BOOT SYS_BOOT_BOOTFAIL))
/-- A command starts: the entry of a ring that holds its tag, or a command given without a ring; `serve` takes the request,
PLEN, RLEN and the CRC that PCRCEN asks for. -/
def State.startWith (s : State) (c : Cmd) (op : Nat) (serve : State → Req → Nat → Nat → Option Nat → State) : State :=
  let r := cmdReq c op
  if !s.serves op then s
  else
    match s.inflight.find? fun i => i.tag == r.tag && !i.done with
    | none =>
      serve { s with inflight := s.inflight ++ [{ tag := r.tag, opcode := op, ring := 128 }] } r r.data.length 0 none
    | some i =>
      if !s.startsNow i r then s
      else
        let s1 : State := { s with inflight := s.inflight.map fun j => if j.tag == r.tag then { j with started := true } else j }
        serve s1 (s.entryPayload i.entry r) (ePlen i.entry) (eRlen i.entry) (if nbit (eFlags i.entry) 1 then some (bU i.entry 60 4) else none)
/-- A native command. -/
def State.command (s : State) (c : Cmd) (op : Nat) (go : State → Req → State) : State :=
  s.startWith c op fun s r plen rlen pcrc => s.serveWith r plen rlen pcrc go

/-! ### Common ends -/

/-- BAD_PARAM at an offset of the entry, or of the payload. -/
def State.bad (s : State) (r : Req) (o : Nat) : State := s.finish r.tag .badParam o
def State.badPay (s : State) (r : Req) (o : Nat) : State := s.finish r.tag .badParam (2 ^ 31 + o)
/-- An image command with nothing beyond its image. -/
def State.cmdImage (s : State) (r : Req) : State :=
  match s.applyImage (imageOf r.op r.unit s.imageShort) r.data with
  | .ok t => t.finish r.tag .ok
  | .error o => s.badPay r o
/-- HAMODE (R504 step 7). -/
def State.noHamode (s : State) (r : Req) : State := s.finish r.tag .hamode (s.rdN SYS_HAMODE)
/-- PROTECTED with the status of an axis (R509). -/
def State.protAxis (s : State) (r : Req) (n : Nat) : State := s.finish r.tag .protected_ (s.rdN (AX_STAT n))
/-- An axis runs a Dusk ramp of its own or of its master. -/
def State.ramping (s : State) (n : Nat) : Bool := (s.mo n).ramp.isSome || (s.mo n).duskReq ||
  (s.flag (AX_STAT n) AX_STAT_MSYNC_STOP && s.flag (AX_STAT n) AX_STAT_DUSK)

end Sys2Proof.Machine
end

