-- ==== Sys2Proof/Machine/CmdSys.lean ====
section
/-! DEFINITION. What the commands of the classes SYS, AXIS, CAN, IO, SAFE, ACQ, LOG, SEC, TWIN and UPDATE do once their checks
hold (R494, R512, R516–R518). -/

namespace Sys2Proof.Machine

/-! ### SYS -/

def State.cmdNop (s : State) (r : Req) : State := s.finish r.tag .ok
/-- SYS_ID as it reads. -/
def State.sysId (s : State) : Nat :=
  match regHit SYS_ID with
  | some h => s.regVal 2 h SYS_ID
  | none => 0
def State.cmdIdentify (s : State) (r : Req) : State :=
  s.finish r.tag .ok s.sysId 0x00040200 (s.opState + 16 * s.get TW_STAT TW_STAT_ROLE)

/-- The abort point of a wait, coded as R0 of the ABORTED completion (R508). -/
def abortStage (w : Wait) : Option Nat :=
  match w.kind with
  | .source | .token | .epoch | .hoframe | .captureTrigger => some 1
  | .moveEnd | .injection | .canTx | .captureEnd => some 2
  | .acyclic | .snapshot | .transfer => some 3
  | .apply | .gate | .bankSwap | .stateChange | .stopBoundary | .verify | .portLoad => none
/-- The trigger of a wait is disarmed (R508). -/
def State.abortTrigger (s : State) (w : Wait) : State :=
  match w.kind with
  | .source => s.dropChange w.unit w.tag
  | .token => s.tokenCancel w.unit
  | .epoch => (s.modRm fun r => { r with armed := none }).clrf RM_NEXT RM_NEXT_PEND
  | .hoframe => s.clrf TW_HO TW_HO_PEND
  | .captureTrigger => s.cuDisarm w.unit
  | .acyclic => s.modRm fun r => { r with asked := r.asked.filter fun a => a.tag != w.tag }
  | _ => s
/-- The tag of a phase move or of a move that the planner holds, which waits for its end. -/
def State.moveTags (s : State) : List Nat :=
  ((List.range 80).flatMap fun n =>
    let m := s.mo n
    m.phaseTag.toList ++ (m.phaseDist.bind (·.tag)).toList ++ (m.phaseNext.bind (·.tag)).toList) ++
  ((List.range 16).flatMap fun g => ((s.grpPlan g).moves.filter (·.wait)).filterMap (·.tag))
/-- The move runs on, but no command waits for it. -/
def State.untagMoves (s : State) (t : Nat) : State :=
  let un := fun (x : Option Nat) => if x = some t then none else x
  let s1 := s.forEach (List.range 80) fun s n => s.modMo n fun m =>
    { m with phaseTag := un m.phaseTag, phaseDist := m.phaseDist.map fun d => { d with tag := un d.tag }
             phaseNext := m.phaseNext.map fun d => { d with tag := un d.tag } }
  s1.forEach (List.range 16) fun s g => s.modPlan g fun p => { p with moves := p.moves.map fun m => { m with tag := un m.tag } }
/-- ABORT (R494, R495): the named command completes ABORTED before the ABORT does. -/
def State.cmdAbort (s : State) (r : Req) : State :=
  let t := r.P 0 % 65536
  match s.inflight.find? fun i => i.tag == t && !i.done && i.opcode != 2 with
  | none => s.finish r.tag .notFound
  | some i =>
    if !i.started then (s.finish t .aborted).finish r.tag .ok t
    else
      match s.waits.find? fun w => w.tag == t with
      | some w =>
        match abortStage w with
        | some 3 =>
          let (sent, s1) := s.freeWord
          ((s1.finish t .aborted 3 (if w.kind = .acyclic then 0 else sent.toNat)).abortTrigger w).finish r.tag .ok t
        | some k => ((s.finish t .aborted k).abortTrigger w).finish r.tag .ok t
        | none => s.finish r.tag .notAbortable
      | none =>
        if s.moveTags.contains t then ((s.untagMoves t).finish t .aborted 2).finish r.tag .ok t else s.finish r.tag .notAbortable

/-- The first check of R52 that fails: cause, and the axis or LP. -/
def State.noonCheck (s : State) : Option (Nat × Nat) :=
  let F := 12500 * s.get TB_FRAME TB_FRAME_M
  let A := fun (n : Nat) => s.get (AX_TB n) AX_TB_A
  let B := fun (n : Nat) => s.get (AX_TB n) AX_TB_B
  let C := fun (n : Nat) => s.get (AX_TB n) AX_TB_C
  let pc := fun (n : Nat) => F / A n / B n / C n
  let cyclesOk := fun (n : Nat) =>
    if n < 32 then
      A n ≠ 0 && B n ≠ 0 && C n ≠ 0 && F % A n = 0 && 12500 ≤ F / A n && F / A n % B n = 0 && 6250 ≤ F / A n / B n
        && F / A n / B n % C n = 0 && 2000 ≤ pc n
    else n < 64 || (A n ≠ 0 && F % A n = 0 && 12500 ≤ F / A n)
  let pwmOk := fun (n : Nat) =>
    let p := s.aget (PWM_PER n) PWM_PER_PER
    if s.flag (SLOT_CFG n) SLOT_CFG_UPD then p == 2 * pc n && F % (2 * pc n) == 0 else p == pc n
  match (List.range 80).find? fun n => !cyclesOk n with
  | some n => some (1, n)
  | none =>
    match (List.range 32).find? fun n => !pwmOk n with
    | some n => some (2, n)
    | none =>
      match (List.range 32).find? fun n => decide (pc n ≤ s.get (AX_PHASE n) AX_PHASE_PHASE) with
      | some n => some (3, n)
      | none => ((List.range 16).find? fun k => !s.inBudget k).map fun k => (4, k)
/-- The transition is one that R607 allows from the present state. -/
def State.mayEnter (s : State) (t : Nat) : Bool :=
  (s.inMorning && t == 2) || (s.inNoon && (t == 1 || t == 3)) || (s.inDusk && t == 1) ||
    (s.inNight && t == 1 && (if s.isS then !s.flag SF_STAT SF_STAT_RSTWAIT && !s.globalFault else s.safe.nightEdge))
/-- SET_STATE (R52, R427, R607, R609); in the tick of a protective Dusk the target Dusk is met (R521). -/
def State.cmdSetState (s : State) (r : Req) : State :=
  let t := r.P 0
  if t = 3 && s.inDusk && s.pw.duskAt = some s.tick then s.finish r.tag .ok
  else if !s.mayEnter t then s.finish r.tag .badState s.opState
  else if s.pw.want.isSome then s.finish r.tag .busy
  else
    match if t = 2 then s.noonCheck else none with
    | some (c, n) => s.finish r.tag .checkFailed c n
    | none =>
      if t = 2 && s.flag SF_STAT SF_STAT_SWS4ON then s.finish r.tag .sws4on
      else s.modPw fun p => { p with want := some (t, r.tag, if t = 1 && !s.inNight then 7 else 1) }

def State.cmdExpert (s : State) (r : Req) : State :=
  let old := s.rd SYS_EXPERT
  let m := BitVec.ofNat 32 (r.P 0)
  (s.wr SYS_EXPERT (if r.bit 1 0 then old ||| m else old &&& ~~~m)).finish r.tag .ok
/-- SET_HAMODE (R496, R191). -/
def State.cmdSetHamode (s : State) (r : Req) : State :=
  let mask := r.P64 1
  let s1 := (s.wrN SYS_HAMODE (nsetBit (r.P 0) 0 (mask != 0))).modHost fun h => { h with stream := mask }
  (s1.forEach (List.range 64) fun s n => s.putB (AXL_RCFG n) AXL_RCFG_HOST (r.bit 0 4)).finish r.tag .ok
/-- TOKEN (R61–R64): fills and arms the token, then waits. -/
def State.cmdToken (s : State) (r : Req) : State :=
  let k := r.P 0 % 8
  if s.tokState k = 1 then s.finish r.tag .tokenRefused 1
  else
    let s1 := ((((s.putB (CTOK_CTRL k) CTOK_CTRL_NEXT (r.bit 0 8)).wrN (CTOK_PWM k) (r.P 1)).wrN (CTOK_CLE k) (r.P 2)).wrN (CTOK_LP k) (r.P 3)).wr64N
      (CTOK_TARGET k) (r.P64 4)
    let s2 := s1.tokenArm k
    if s2.tokState k = 1 then s2.await r.tag .token k else s2.finish r.tag .tokenRefused (s2.tokState k)
def State.cmdSetClock (s : State) (r : Req) : State := (s.sysClk (r.P 0)).finish r.tag .ok
/-- ASSIGN (R24, R53). -/
def State.cmdAssign (s : State) (r : Req) : State :=
  let k := r.P 0
  let old := s.lpOf r.unit
  let d := s.demandOf k (s.lpBank k) (r.unit :: (s.served k).filter (· != r.unit))
  if k = old then s.finish r.tag .ok
  else if !(decide (d ≤ 720000000)) || s.lpMode k = 3 then s.finish r.tag .loadBudget k (d / 1000000).ceil.toNat
  else
    let s1 := { s with assign := vmod s.assign r.unit fun _ => k }
    ((s1.bankStale old).bankStale k).finish r.tag .ok
/-- `k` words from BAR0, read in turn. -/
def State.readWords (s : State) (a : Nat) : Nat → List Byte × State
  | 0 => ([], s)
  | k + 1 =>
    let (w, s1) := s.bar0Read 2 a
    let (bs, s2) := s1.readWords (a + 4) k
    (leBytes 4 (w.getD 0).toNat ++ bs, s2)
def State.cmdReadReg (s : State) (r : Req) : State :=
  let (bs, s1) := s.readWords (r.P 0) (r.P 1)
  s1.finish r.tag .ok 0 0 0 bs

/-! ### AXIS -/

/-- ENABLE (R225, R226, R228, R179); an enable after a disable ends torque-off (R176). -/
def State.cmdEnable (s : State) (r : Req) : State :=
  let n := r.unit
  if r.bit 0 0 then
    if (s.loop n).enabled then s.finish r.tag .ok
    else if s.ramping n then s.protAxis r n
    else
      match if n < 32 then s.enableCheck n else none with
      | some .badParam => s.finish r.tag .badParam 5
      | some st => (s.setf (SLOT_STAT n) SLOT_STAT_ANGNOREF).finish r.tag st
      | none =>
        let s0 := s.clrf (AXL_LSTAT n) AXL_LSTAT_TOFF
        let s1 := (if n < 32 then s0.clrf (SLOT_STAT n) SLOT_STAT_ANGNOREF else s0).modLoop n fun l => { l.fresh with enabled := true }
        ((if n < 32 then (s1.cleEnter n).pwmDrive n s1.now else s1)).finish r.tag .ok
  else
    let s1 := (s.injAbort n).modLoop n fun l => { l with enabled := false, toff := none }
    ((if n < 32 then (s1.cleLeave n).pwmDrive n s1.now else s1)).finish r.tag .ok
/-- TRIP_CLEAR (R260, R263). -/
def State.cmdTripClear (s : State) (r : Req) : State :=
  if r.unit < 32 then
    let a := PWM_STAT r.unit
    let held := fun (s : State) => s.flag a PWM_STAT_LCAUSE || s.flag a PWM_STAT_OCAUSE || s.flag a PWM_STAT_SCAUSE
    let t := s.pwmTclr r.unit
    if held t then t.finish r.tag .clearRefused (t.rdN a) else t.finish r.tag .ok
  else
    let a := GTRIP_STAT (r.unit - 0xE0)
    let t := s.gtripTclr (r.unit - 0xE0)
    if t.flag a GTRIP_STAT_LATCHED then t.finish r.tag .clearRefused (t.rdN a) else t.finish r.tag .ok
/-- HOLD_TORQUE (R415). -/
def State.cmdHoldTorque (s : State) (r : Req) : State :=
  if s.variantF || !nbit (s.rd64N (SFAX_AX r.unit)) 22 then s.finish r.tag .btNotRunning
  else (s.modLoop r.unit fun l => { l with hold := some (wrapS 32 (r.P 0), s.tick + 400000 * r.P 1) }).finish r.tag .ok
/-- The holding torque is released at the end of its duration, or when the test has ended. -/
def State.holdTorqueEnd (s : State) (n : Nat) : State :=
  match (s.loop n).hold with
  | none => s
  | some (_, t) => (if nbit (s.rd64N (SFAX_AX n)) 22 then s.advanceTo t else s).modLoop n fun l => { l with hold := none }

/-! ### CAN (R516) -/

/-- CAN_CONFIG: HALT is 1 while the image is written; the HALT of the image stands afterwards. -/
def State.cmdCanConfig (s : State) (r : Req) : State :=
  let n := r.unit
  let a := CAN_CTRL n
  let w := bU r.data 0 4
  let halt := fun (v : Nat) (b : Bool) => nsetBit v CAN_CTRL_HALT.lo b
  let s0 := (s.putB a CAN_CTRL_HALT true).canHaltWritten n
  match s0.applyImage (canImage n) (leBytes 4 (halt w true) ++ r.data.drop 4) with
  | .ok t => (if nbit w CAN_CTRL_HALT.lo then t else (t.putB a CAN_CTRL_HALT false).canHaltWritten n).finish r.tag .ok
  | .error o => s.badPay r o
def State.cmdCanSend (s : State) (r : Req) : State :=
  let n := r.unit
  let k := r.P 0 % 64
  if !nbit (s.rd64N (CAN_BDIR n)) k then s.bad r 24
  else if s.canPending n k then s.finish r.tag .busy
  else
    match s.applyImage (spanOf (CANBUF_W0 n k) 24) r.data with
    | .error o => s.badPay r o
    | .ok t =>
      let t1 := t.canTxgo n (2 ^ k)
      if r.bit 0 8 then t1.await r.tag .canTx (64 * n + k) else t1.finish r.tag .ok
/-- Entries of a FIFO, each read and released (R459). -/
def State.canDrain (s : State) (n j : Nat) : Nat → List Byte × State
  | 0 => ([], s)
  | k + 1 =>
    if s.get (canFifo n j) CAN_FIFO0_LEVEL = 0 then ([], s)
    else
      let a := canEntry n j (s.get (canFifo n j) CAN_FIFO0_RDIX)
      let e := (spanOf a 24).flatMap fun x => leBytes 4 (s.rdN x)
      let (bs, t) := (s.fifoRelease n j).canDrain n j k
      (e ++ bs, t)
def State.cmdCanRead (s : State) (r : Req) : State :=
  let n := r.unit
  if r.P 0 = 0 then
    let t := s.freshClear n (r.P 1)
    t.finish r.tag .ok 1 0 0 ((spanOf (CANBUF_W0 n (r.P 1)) 24).flatMap fun x => leBytes 4 (t.rdN x))
  else
    let (bs, t) := s.canDrain n (r.P 0 - 1) (r.P 1)
    t.finish r.tag .ok (bs.length / 96) 0 0 bs
def State.cmdCanRecover (s : State) (r : Req) : State := (s.canRecover r.unit).finish r.tag .ok

/-! ### IO and SAFE (R517) -/

/-- IO_WRITE: set, then clear, in one PCLK cycle (R450). -/
def State.cmdIoWrite (s : State) (r : Req) : State :=
  (s.dioOut ((s.rd DIOG_OUT ||| BitVec.ofNat 32 (r.P 0)) &&& ~~~BitVec.ofNat 32 (r.P 1)).toNat).finish r.tag .ok
/-- A register as it reads now. -/
def State.reading (s : State) (a : Nat) : Nat :=
  match regHit a with
  | some h => s.regVal 2 h a
  | none => 0
def State.cmdIoRead (s : State) (r : Req) : State :=
  let vals := (List.range 8).flatMap fun i => leBytes 4 (s.reading (AI_VAL i))
  let stats := (List.range 8).flatMap fun i => leBytes 4 (s.reading (AI_STAT i))
  s.finish r.tag .ok (s.rdN DIOG_IN) (s.rdN DIOG_VALID) 0 (vals ++ stats)
/-- GROUP_REARM (R446). -/
def State.cmdGroupRearm (s : State) (r : Req) : State :=
  match s.fgRearm r.unit with
  | (true, t) => t.finish r.tag .ok
  | (false, t) => t.finish r.tag .clearRefused (t.rdN (FG_STAT r.unit))
def State.cmdSafeStatus (s : State) (r : Req) : State :=
  let (bs, t) := s.readWords SF_STAT 192
  t.finish r.tag .ok (bU bs 0 4) 0 0 bs

/-! ### ACQ and LOG (R517) -/

def State.cmdCaptureConfig (s : State) (r : Req) : State :=
  if s.cuPhase r.unit ≠ 0 then s.finish r.tag .busy else s.cmdImage r
/-- CAPTURE_ARM (R552). -/
def State.cmdCaptureArm (s : State) (r : Req) : State :=
  match s.cuArm r.unit with
  | (0, t) => if r.bit 0 0 then t.await r.tag .captureTrigger r.unit else t.finish r.tag .ok
  | (c, t) =>
    if c = 2 || c = 5 then t.finish r.tag .busy
    else if c = 6 then t.finish r.tag .badState t.opState
    else t.finish r.tag .badParam 5
/-- CAPTURE_READ: rows of the unit's segments, in the order in which they lie in its memory. -/
def State.cmdCaptureRead (s : State) (r : Req) : State :=
  let u := r.unit
  let first := r.P64 0
  let n := r.P 2
  let d := s.cuDepth u
  if d * s.cuSegs u < first + n then s.bad r (if d * s.cuSegs u < first then 24 else 32)
  else
    let bs := (List.range n).flatMap fun i =>
      let k := first + i
      (List.range (s.rowWords u)).flatMap fun j => leBytes 4 (s.capWord u (s.rowAt u (k / max 1 d) (k % max 1 d) + j)).toNat
    s.finish r.tag .ok 0 0 0 bs

/-- The result buffer of a command in flight. -/
def State.roomOf (s : State) (tag : Nat) : Nat :=
  match s.inflight.find? fun i => i.tag == tag with
  | some i => i.rlen
  | none => 0
/-- LOG_READ (R576). -/
def State.cmdLogRead (s : State) (r : Req) : State :=
  if r.bit 2 0 && !nbit (s.rdN SYS_HAMODE) 5 then s.noHamode r
  else
    let (bs, q) := s.logRead (r.P64 0) (s.roomOf r.tag) (r.bit 2 0)
    s.finish r.tag .ok (q % 2 ^ 32) (q / 2 ^ 32) 0 bs
def State.cmdLogFreeze (s : State) (r : Req) : State := (if r.bit 0 0 then s.freeze else s.unfreezeCmd).finish r.tag .ok
/-- A command whose operation answers its status; `bad`: the offset in the payload that BAD_PARAM names. -/
def State.endWith (r : Req) (bad : Nat) (x : Status × State) : State :=
  x.2.finish r.tag x.1 (if x.1 = .badParam then 2 ^ 31 + bad else 0)
def State.cmdLogClear (s : State) (r : Req) : State := State.endWith r (s.clearBad r.data) (s.logClear r.data)

/-! ### SEC, TWIN, UPDATE (R518) -/

def State.cmdKeyLoad (s : State) (r : Req) : State :=
  let x := s.keyLoad r.data
  State.endWith r (keyLoadBad r.data)
    (x.1, if x.1 = .ok then x.2.modSec fun c => { c with loaded := some (s.tick, bU r.data 0 1, r.tag) } else x.2)
def State.cmdKeyErase (s : State) (r : Req) : State := State.endWith r (keyEraseBad r.data) (s.keyErase r.data)
def State.cmdTamperPolicy (s : State) (r : Req) : State := State.endWith r (tamperBad r.data) (s.tamperPolicy r.data)
def State.cmdDebugChallenge (s : State) (r : Req) : State :=
  let ((a, b, c), t) := s.debugChallenge
  t.finish r.tag .ok a b c
def State.cmdDebugOpen (s : State) (r : Req) : State := State.endWith r 0 (s.debugOpen r.data)

def State.cmdTwinStart (s : State) (r : Req) : State := (s.twinStart (!r.bit 0 0)).finish r.tag .ok
/-- JOIN (R388): the Active sends its snapshot; how many bytes it holds is open. -/
def State.cmdJoin (s : State) (r : Req) : State :=
  if s.isActive then
    let (n, t) := s.freeWord
    t.finish r.tag .ok n.toNat
  else s.finish r.tag .ok
/-- HANDOVER (R393). -/
def State.cmdHandover (s : State) (r : Req) : State :=
  let s1 := if s.flag TW_HO TW_HO_PEND then s else s.wr64N TW_HOFRAME (r.P64 0)
  match s1.handoverGo with
  | (true, t) => t.await r.tag .hoframe 0
  | (false, t) => t.finish r.tag .horef

/-- The number of the image that does not run. -/
def State.otherImage (s : State) : Nat := b2n (!s.pw.imageB)
/-- FW_WRITE: a part of a bundle goes into the inactive image. -/
def State.cmdFwWrite (s : State) (r : Req) : State :=
  if 2 ^ 32 < r.P 0 + r.data.length then s.bad r 24
  else
    let s1 := { s with mem := { s.mem with fw := memWrite s.mem.fw (2 ^ 32 * s.otherImage + r.P 0) r.data } }
    ((s1.modPw fun p => { p with verified := false }).event .update 0xFF (s.otherImage : Nat)).finish r.tag .ok
/-- FW_VERIFY (R592). -/
def State.cmdFwVerify (s : State) (r : Req) : State :=
  let base := 2 ^ 32 * s.otherImage
  let image := (s.mem.fw.filter fun x => x.1 / 2 ^ 32 == s.otherImage).map fun x => (x.1 - base, x.2)
  let good : Bool := match Config.bundleSvn image with
    | some v => decide (s.rdN SEC_SVN ≤ v)
    | none => false
  ((s.modPw fun p => { p with verified := good }).event .update 0xFF
    ((s.otherImage + 2 * (if good then 0 else Status.signature.code) : Nat) : Int)).finish r.tag (if good then .ok else .signature)
def State.cmdFwRestart (s : State) (r : Req) : State := s.beginRestart (!s.pw.imageB) (some r.tag)
/-- LP_IMAGE (R592, R298): a signed image goes into the inactive bank, which VERIFY then checks where the command asks for it. -/
def State.cmdLpImage (s : State) (r : Req) : State :=
  let k := r.unit
  let n := r.data.length - 132
  let key := (r.data.drop (n + 4)).take 64
  let good := decide (s.rdN SEC_SVN ≤ bU r.data n 4) && Config.sha256 key == Config.fwkh
    && Config.sigOk key (r.data.take (n + 4)) ((r.data.drop (n + 68)).take 64)
  if n % 4 ≠ 0 then s.bad r 8
  else if !good then (s.event .update k ((b2n (!s.lpBank k) + 2 * Status.signature.code : Nat) : Int)).finish r.tag .signature
  else
    let b := !s.lpBank k
    let s1 := (List.range (n / 4)).foldl (fun s i => s.lpMemWrite k (16384 * b2n b + i) (BitVec.ofNat 32 (bU r.data (4 * i) 4))) s |>.event .update k (b2n b)
    if r.bit 0 0 then (s1.lpVerify k b).await r.tag .verify k else s1.finish r.tag .ok
/-- SAFETY_SLOT (R426): the firmware only stores the bytes. -/
def State.cmdSafetySlot (s : State) (r : Req) : State :=
  ((s.modSafe fun x => { x with slots := vmod x.slots (r.P 0) fun c => { c with bytes := r.data } }).slotRegs).finish r.tag .ok

end Sys2Proof.Machine
end

