-- ==== Sys2Proof/Machine/CmdMotion.lean ====
section
/-! DEFINITION. What the commands of the classes MOTION, GEAR/CAM, LOOP, FEEDBACK, LATCH/COMPARE and NET do once their checks
hold (R513–R516). -/

namespace Sys2Proof.Machine

/-! ### Moves (R117, R119, R513) -/

/-- The axes that a move's UNIT names, with their increments per path unit. -/
def State.moveAxes (s : State) (u : Nat) : List (Nat × Rat) := if u < 0x90 then [(u, 1)] else s.grpMembers (u - 0x90)
/-- A move of these axes is refused by a protective action (R42, R509): the first axis that ramps. -/
def State.moveBlocked (s : State) (u : Nat) : Option Nat := ((s.moveAxes u).map (·.1)).find? s.ramping
/-- The first of `k` limits at the start of a payload that is not above 0. -/
def Req.limitBad (r : Req) (k : Nat) : Option Nat := ((List.range k).find? fun i => decide (r.fld i ≤ 0)).map (8 * ·)
/-- What the planner holds for the group of an axis, or for a group, becomes segments first. -/
def State.flushFor (s : State) (u : Nat) : State :=
  if 0x90 ≤ u then s.planFlush (u - 0x90)
  else match s.groupOf u with
    | some g => s.planFlush g
    | none => s

/-- MOVE_PTP. -/
def State.cmdMovePtp (s : State) (r : Req) : State :=
  match r.limitBad 3, s.moveBlocked r.unit with
  | some o, _ => s.badPay r o
  | none, some n => s.protAxis r n
  | none, none =>
    let s1 := s.flushFor r.unit
    let axs := s1.moveAxes r.unit
    let grp := decide (0x90 ≤ r.unit)
    let g := r.unit - 0x90
    let lim := fun (i : Nat) (top : Rat) => if grp then min (r.fld i : Rat) top else (r.fld i : Rat)
    let v := lim 0 (s1.grpV g)
    let a := lim 1 (s1.grpA g)
    let j := lim 2 (s1.grpJ g)
    let ds := (List.range axs.length).map fun i =>
      let x := axs.getD i (0, 1)
      let t := roundQ ((r.fld (3 + i) : Rat) * x.2)
      (x.1, if r.bit 0 0 then t else t - s1.endPos x.1)
    s1.planPtp r.tag r.wait (grp && s1.flag (GRP_CFG g) GRP_CFG_SYNC) (axs.map fun x => v * x.2) (axs.map fun x => a * x.2)
      (axs.map fun x => j * x.2) ds

/-- The checks that every path of a group shares, then the path from its start. -/
def State.pathMove (s : State) (r : Req) (go : State → List Int → State) : State :=
  match r.limitBad 1, s.moveBlocked r.unit with
  | some o, _ => s.badPay r o
  | none, some n => s.protAxis r n
  | none, none => go s (s.pathStart (r.unit - 0x90))
/-- MOVE_LINEAR. -/
def State.cmdMoveLinear (s : State) (r : Req) : State :=
  s.pathMove r fun s a =>
    let b := (List.range a.length).map fun i => r.fld (1 + i) + (if r.bit 0 0 then a.getD i 0 else 0)
    s.planPath (r.unit - 0x90) r.tag r.wait (.line a b) (r.fld 0)
/-- MOVE_CIRC. -/
def State.cmdMoveCirc (s : State) (r : Req) : State :=
  s.pathMove r fun s a =>
    let i := bU r.data 8 1
    let j := bU r.data 9 1
    let h := bU r.data 10 1
    let hel := r.bit 0 1
    let g := r.unit - 0x90
    let ci := r.fld 2
    let cj := r.fld 3
    let ei := r.fld 4
    let ej := r.fld 5
    if a.length ≤ i then s.badPay r 8
    else if a.length ≤ j || j = i then s.badPay r 9
    else if hel && (a.length ≤ h || h = i || h = j) then s.badPay r 10
    else if !bZero r.data 11 5 then s.badPay r 11
    else
      let r0 := norm [((a.getD i 0 - ci : Int) : Rat), ((a.getD j 0 - cj : Int) : Rat)]
      let r1 := norm [((ei - ci : Int) : Rat), ((ej - cj : Int) : Rat)]
      if r0 = 0 || decide ((s.rd64N (GRP_CHTOL g) : Rat) < ratAbs (r1 - r0)) || !s.chordOk g then s.finish r.tag .pathBad
      else s.planPath g r.tag r.wait (.arc a i j (if hel then some h else none) ci cj ei ej (r.fld 6) (r.bit 0 0)) (r.fld 0)
/-- Rows of `m` fields of a payload, from field `k`. -/
def Req.rows (r : Req) (m k n : Nat) : List (List Int) := (List.range n).map fun q => (List.range m).map fun i => r.fld (k + q * m + i)
/-- MOVE_SPLINE: the first point is where the path stands. -/
def State.cmdMoveSpline (s : State) (r : Req) : State :=
  s.pathMove r fun s a =>
    let m := a.length
    let g := r.unit - 0x90
    let k := 1 + (if r.bit 0 0 then 2 * m else 0)
    let pts := r.rows m k ((r.data.length / 8 - k) / max 1 m)
    let away := (a.zip (pts.headD [])).any fun x => decide (16777216 < absI (x.1 - x.2))
    let same := (List.range (pts.length - 1)).find? fun q => pts.getD q [] == pts.getD (q + 1) []
    if away then s.finish r.tag .pathBad 0
    else
      match same with
      | some q => s.finish r.tag .pathBad (q + 1)
      | none =>
        if !s.chordOk g then s.finish r.tag .pathBad 0
        else
          let ends := if r.bit 0 0 then some ((r.rows m 1 2).getD 0 [], (r.rows m 1 2).getD 1 []) else none
          s.planPath g r.tag r.wait (.spline (a :: pts.drop 1) ends) (r.fld 0)
/-- The segment between two PVT points: position, velocity and frame of each. -/
def State.pvtSeg (s : State) (mv : Nat) (last : Bool) (a b : Int × Int × Nat) : Seg :=
  let T : Rat := ((b.2.2 - a.2.2 : Nat) : Rat) * s.frameSec
  let d : Rat := ((b.1 - a.1 : Int) : Rat)
  let v0 : Rat := (a.2.1 : Rat)
  let v1 : Rat := (b.2.1 : Rat)
  { start := a.2.2, p0 := a.1, v0 := a.2.1, a0 := roundQ ((3 * d / T - 2 * v0 - v1) * 2 / T), j := roundQ (6 * (v0 + v1 - 2 * d / T) / (T * T))
    dur := b.2.2 - a.2.2, move := mv, last := last }
/-- MOVE_PVT (R117): a cubic Hermite segment between each pair of neighbouring points. -/
def State.cmdMovePvt (s : State) (r : Req) : State :=
  let n := r.unit
  let k := r.data.length / 24
  let ofs := if r.bit 0 0 then s.endPos n else 0
  let pts := (List.range k).map fun i => (r.fld (3 * i) + ofs, r.fld (3 * i + 1), bU r.data (24 * i + 16) 8)
  let frame := fun (i : Nat) => (pts.getD i (0, 0, 0)).2.2
  if s.ramping n then s.protAxis r n
  else
    match (List.range (k - 1)).find? fun i => decide ((frame (i + 1) - frame i) * s.frameLen < 100000) with
    | some i => s.finish r.tag .pathBad (i + 1)
    | none =>
      let room := 512 - (s.planned n).length
      if k < 2 then s.finish r.tag .ok
      else if room < k - 1 then s.finish r.tag .noSpace room
      else
        let (mv, s1) := s.nextMove n
        let segs := (List.range (k - 1)).map fun i => s.pvtSeg mv (i + 2 == k) (pts.getD i (0, 0, 0)) (pts.getD (i + 1) (0, 0, 0))
        (s1.addSegs n segs).moveQueued (some r.tag) r.wait [n]
/-- STOP (R119): completes at the stop boundary; an axis that already ramps needs none. -/
def State.cmdStop (s : State) (r : Req) : State :=
  if r.unit < 0x90 && s.ramping r.unit then s.finish r.tag .ok
  else
    let s1 : State := { s with stops := s.stops ++ [{ tag := r.tag, unit := r.unit, frame := s.stopFrame }] }
    s1.await r.tag .stopBoundary r.unit
/-- t* of the next position run of an axis. -/
def State.nextTarget (s : State) (n : Nat) : Nat := s.mt16 (s.targetOf n (s.nextBoundary n (s.posCells n)).2.2.1)
/-- A phase profile from the channel's offset, velocity and acceleration at `t` to `d` beyond that offset; one that does not start
from rest stops first. -/
def phaseRamp (t : Nat) (x : Int × Int × Int) (d v a j : Int) : Ramp :=
  if x.2.1 = 0 && x.2.2 = 0 then ⟨t, x.1, 0, 0, movePhases d v a j⟩
  else
    let stop := rampFrom t x.1 x.2.1 x.2.2 a j
    { stop with phases := stop.phases ++ movePhases (x.1 + d - roundQ (stop.at stop.endAt).1) v a j }
/-- PHASE_MOVE (R123, R124). -/
def State.cmdPhaseMove (s : State) (r : Req) : State :=
  let n := r.unit
  let m := s.mo n
  let dist := r.bit 0 0
  let d := r.fld 0
  let bad := (if dist then [2] else [1, 2, 3]).find? fun i => decide (r.fld i ≤ 0)
  let tag := if r.wait then some r.tag else none
  match bad with
  | some i => s.badPay r (8 * i)
  | none =>
    if s.ramping n then s.finish r.tag .inRamp
    else if d = 0 then s.finish r.tag .ok
    else if dist then
      let x : DistMove := { dphi := d, len := r.fld 2, m0 := r.fld 1, tag := tag }
      if m.phaseTime.isSome || m.phaseNext.isSome then s.finish r.tag .busy
      else
        let s1 := s.modMo n fun m => if m.phaseDist.isSome then { m with phaseNext := some x } else { m with phaseDist := some x }
        if r.wait then s1 else s1.finish r.tag .ok
    else if m.phaseDist.isSome then s.finish r.tag .busy
    else
      let t := s.nextTarget n
      let x := s.phaseNow n t
      let s1 := (s.finishAny m.phaseTag .superseded r.tag).modMo n fun m =>
        { m with phaseTime := some (phaseRamp t (x.1, x.2.1, x.2.2.1) d (r.fld 1) (r.fld 2) (r.fld 3)), phaseTag := tag }
      if r.wait then s1 else s1.finish r.tag .ok

/-! ### Sources, gears and cams (R121–R129, R512, R514) -/

/-- SET_SOURCE. -/
def State.cmdSetSource (s : State) (r : Req) : State :=
  let n := r.unit
  let src := r.P 0 % 16
  let msel := nbits (r.P 0) 15 8
  if (src = 4 || src = 5) && !(decide (n < 64) && nbit s.host.stream n) then s.noHamode r
  else if s.ramping n then s.protAxis r n
  else if s.inMorning then (s.setSourceNow n src msel (r.bit 0 16)).finish r.tag .ok
  else
    s.requestChange n
      { src := src, msel := msel, mact := r.bit 0 16, n := s.rdI (AX_GEARN n), d := s.rdN (AX_GEARD n), table := s.get (AX_CAM n) AX_CAM_TABLE
        abs := s.flag (AX_CAM n) AX_CAM_ABS, sched := false, tag := some r.tag, camSwitch := false }
/-- The position and direction of a scheduled change, where the command gives them. -/
def State.scheduleAt (s : State) (n : Nat) (at_ back : Bool) (pos : Nat) : State :=
  if at_ then (s.wr64N (AX_CAMSW n) pos).putB (AX_CAM n) AX_CAM_DIRB back else s
/-- GEAR. -/
def State.cmdGear (s : State) (r : Req) : State :=
  let n := r.unit
  if s.ramping n then s.protAxis r n
  else
    (s.scheduleAt n (r.bit 2 16) (r.bit 2 17) (r.P64 3)).requestChange n
      { src := 2, msel := r.P 2 % 256, mact := r.bit 2 8, n := wrapS 32 (r.P 0), d := r.P 1, table := s.get (AX_CAM n) AX_CAM_TABLE
        abs := s.flag (AX_CAM n) AX_CAM_ABS, sched := r.bit 2 16, tag := some r.tag, camSwitch := false
        ratio := s.srcOf n == 2 }
/-- CAM_ENGAGE. -/
def State.cmdCamEngage (s : State) (r : Req) : State :=
  let n := r.unit
  if s.ramping n then s.protAxis r n
  else
    (s.scheduleAt n (r.bit 1 1) (r.bit 1 2) (r.P64 2)).requestChange n
      { src := 3, msel := nbits (r.P 1) 15 8, mact := s.flag (AX_SRC n) AX_SRC_MACT, n := s.rdI (AX_GEARN n), d := s.rdN (AX_GEARD n)
        table := r.P 0, abs := r.bit 1 0, sched := r.bit 1 1, tag := some r.tag, camSwitch := false }
/-- CAM_SWITCH: as AXn_CAM NEXT, DIRB and ARM with AXn_CAMSW. -/
def State.cmdCamSwitch (s : State) (r : Req) : State :=
  let n := r.unit
  if s.ramping n then s.protAxis r n
  else ((s.scheduleAt n true (r.bit 1 0) (r.P64 2)).put (AX_CAM n) AX_CAM_NEXT (r.P 0)).armCamSwitch n (some r.tag)

/-- Slope at the ends and the vertex, and second derivative at the ends, of a cam piece, in increments. -/
def camPiece (a b : Int × Int × Int) : List Rat × List Rat :=
  let h := mkRat (b.1 - a.1) 16777216
  let d := mkRat (b.2.1 - a.2.1) 16777216
  let s0 := mkRat a.2.2 (2 ^ 32)
  let s1 := mkRat b.2.2 (2 ^ 32)
  let c0 := (6 * d / h - 4 * s0 - 2 * s1) / h
  let c1 := (-6 * d / h + 2 * s0 + 4 * s1) / h
  let x := if c0 = c1 then 0 else c0 / (c0 - c1)
  let top := if 0 < x ∧ x < 1 then [s0 + h * (c0 * x + (c1 - c0) * x * x / 2)] else []
  ([s0, s1] ++ top, [c0, c1])
/-- The largest magnitude of a list. -/
def peakOf (l : List Rat) : Rat := l.foldl (fun m x => max m (ratAbs x)) 0
/-- The points of a cam payload. -/
def Req.camPts (r : Req) : List (Int × Int × Int) := (List.range (r.P 1)).map fun i => (r.fld (4 * i), r.fld (4 * i + 1), r.fld (4 * i + 2))
/-- The slopes of the SPLINE load mode. -/
def splineCam (periodic : Bool) (p : List (Int × Int × Int)) : List (Int × Int × Int) :=
  let q := p.map fun x => (mkRat x.1 16777216, mkRat x.2.1 16777216)
  (p.zip (if periodic then periodicSlopes q else naturalSlopes q)).map fun x => (x.1.1, x.1.2.1, roundQ (x.2 * 2 ^ 32))
/-- CAM_LOAD (R125, R126). -/
def State.cmdCamLoad (s : State) (r : Req) : State :=
  let t := r.P 0
  let k := r.P 1
  let per := r.bit 2 1
  let raw := r.camPts
  let free := 65536 - ((s.cams.filter fun c => c.table != t).map fun c => c.pts.length).sum
  match (List.range k).find? fun i => !bZero r.data (32 * i + 24) 8 with
  | some i => s.badPay r (32 * i + 24)
  | none =>
    if (List.range 80).any fun n => s.get (AX_SRC n) AX_SRC_SRC == 3 && s.get (AX_CAM n) AX_CAM_TABLE == t then s.finish r.tag .tableBusy
    else if free < k then s.finish r.tag .noSpace free
    else if k < 2 then s.finish r.tag .tableBad 0 1
    else
      match (List.range (k - 1)).find? fun i => decide ((raw.getD (i + 1) (0, 0, 0)).1 ≤ (raw.getD i (0, 0, 0)).1) with
      | some i => s.finish r.tag .tableBad (i + 1) 2
      | none =>
        let pts := if r.bit 2 0 then splineCam per raw else raw
        if per && (pts.headD (0, 0, 0)).2.2 != (pts.getLastD (0, 0, 0)).2.2 then s.finish r.tag .tableBad (k - 1) 3
        else
          let ps := (pts.zip (pts.drop 1)).map fun x => camPiece x.1 x.2
          let slope := roundQ (peakOf (ps.flatMap (·.1)) * 2 ^ 32) % 2 ^ 64
          let curve := min (2 ^ 32 - 1) (roundQ (peakOf (ps.flatMap (·.2)) * 65536))
          let s1 : State := { s with cams := { table := t, periodic := per, pts := pts } :: s.cams.filter fun c => c.table != t }
          s1.finish r.tag .ok (slope % 2 ^ 32).toNat (slope / 2 ^ 32).toNat curve.toNat

/-! ### LOOP (R514) -/

/-- LOOP_PARAM. -/
def State.cmdLoopParam (s : State) (r : Req) : State :=
  match s.applyImage (imageOf r.op r.unit false) r.data with
  | .error o => s.badPay r o
  | .ok t => if r.bit 0 0 then (t.loopApply r.unit).await r.tag .apply r.unit else t.finish r.tag .ok
/-- CLE_BANK. -/
def State.cmdCleBank (s : State) (r : Req) : State :=
  let a := r.unit
  if r.bit 0 0 && (s.tokenHolds CTOK_CLE a).isSome then s.finish r.tag .busy
  else
    match s.applyImage (spanOf (BANK_SHA a (1 - s.bankOf a) - 0x24) 17) r.data with
    | .error o => s.badPay r o
    | .ok t => if r.bit 0 0 then (t.swapRequest a).await r.tag .bankSwap a else t.finish r.tag .ok
/-- TABLE_LOAD (R191). -/
def State.cmdTableLoad (s : State) (r : Req) : State :=
  if s.tableInUse (r.P 0) (r.P 1) then
    s.finish r.tag .tableBusy
  else ((List.range (r.P 1)).foldl (fun s i => s.setBin (r.P 0 + i) (bS r.data (4 * i) 4)) s).finish r.tag .ok
def State.cmdTableRead (s : State) (r : Req) : State :=
  s.finish r.tag .ok 0 0 0 ((List.range (r.P 1)).flatMap fun i => leBytes 4 (wmGet s.mem.pool (r.P 0 + i)).toNat)
/-- INJECT (R194). -/
def State.cmdInject (s : State) (r : Req) : State :=
  let k := r.unit
  if s.flag (LPINJ_STAT k) LPINJ_STAT_RUNNING then s.finish r.tag .busy
  else
    match s.applyImage (imageOf r.op k false) r.data with
    | .error o => s.badPay r o
    | .ok t =>
      if !r.bit 0 0 then t.finish r.tag .ok
      else
        let t1 := t.injStart k
        if t1.flag (LPINJ_STAT k) LPINJ_STAT_RUNNING then t1.await r.tag .injection k
        else if (t.mo (t.get (LPINJ_CFG k) LPINJ_CFG_AXIS)).ramp.isSome then t1.protAxis r (t.get (LPINJ_CFG k) LPINJ_CFG_AXIS)
        else s.badPay r ((t.injBad k).getD 0)

/-! ### FEEDBACK and LATCH/COMPARE (R515) -/

/-- PORT_CMD. -/
def State.cmdPort (s : State) (r : Req) : State :=
  let p := r.unit
  let v := r.P 0
  let s1 := (((s.onBit v 4 fun s => s.portClrFlags p).onBit v 3 fun s => s.portClrCnt p).onBit v 2 fun s => s.portRearm p)
  let refused := nbit v 1 && s1.revalRefused p
  let s2 := s1.onBit v 1 fun s => s.portReval p
  if refused then s2.finish r.tag .clearRefused (s2.rdN (EP_STAT p))
  else if nbit v 0 then ((s2.wr64N (EP_PRESET p) (r.P64 1)).portLoad p).await r.tag .portLoad p
  else s2.finish r.tag .ok
/-- Entries of a latch FIFO, each popped. -/
def State.latchDrain (s : State) (n : Nat) : Nat → List Byte × State
  | 0 => ([], s)
  | k + 1 =>
    if (s.latch n).fifo.isEmpty then ([], s)
    else
      let e := leBytes 8 (s.rd64N (LI_ESTAMP n)) ++ leBytes 8 (s.rd64N (LI_EPOS n)) ++ leBytes 4 (s.rdN (LI_EFLAG n)) ++ leBytes 4 0
      let (bs, t) := (s.latchPop n).latchDrain n k
      (e ++ bs, t)
def State.cmdLatchRead (s : State) (r : Req) : State :=
  let (bs, t) := s.latchDrain r.unit (r.P 0)
  t.finish r.tag .ok (bs.length / 24) 0 0 bs
def State.cmdCompareLoad (s : State) (r : Req) : State :=
  let wrong := (List.range (r.P 1)).findSome? fun i =>
    if bU r.data (16 * i + 11) 1 / 32 ≠ 0 then some (16 * i + 11)
    else if bU r.data (16 * i + 12) 4 ≠ 0 then some (16 * i + 12) else none
  match wrong with
  | some o => s.badPay r o
  | none =>
    ((List.range (4 * r.P 1)).foldl (fun s i => s.cmpRamWrite (4 * r.P 0 + i) (BitVec.ofNat 32 (bU r.data (4 * i) 4))) s).finish r.tag .ok
/-- COMPARE_ARM (R153). -/
def State.cmdCompareArm (s : State) (r : Req) : State :=
  let n := r.unit
  let s1 := (s.regStore (CO_LIST n) (r.P 1)).regStore (CO_CYCOFS n) (r.P64 2)
  let s2 := s1.onBit (r.P 0) 1 fun s => s.coStop n
  (s2.onBit (r.P 0) 0 fun s => s.coArm n (nbits (r.P 0) 27 16)).finish r.tag .ok
/-- REG_TARGET (R164). -/
def State.cmdRegTarget (s : State) (r : Req) : State :=
  let k := r.unit
  if !nbit (s.rdN SYS_HAMODE) 3 then s.noHamode r
  else if s.ramping (s.get (RC_CFG k) RC_CFG_FAX) then s.finish r.tag .inRamp
  else ((s.wr64N (RC_HTGT k) (r.P64 0)).regTarget k (r.S64 0) (s.tick + 32)).finish r.tag .ok

/-! ### NET (R516) -/

/-- SWITCH_CONFIG (R313): with CHG it completes when the list is operational. -/
def State.cmdSwitchConfig (s : State) (r : Req) : State :=
  match s.applyImage (imageOf r.op r.unit s.imageShort) r.data with
  | .error o => s.badPay r o
  | .ok t => if r.bit 0 0 then (t.gclChg r.unit).await r.tag .gate r.unit else t.finish r.tag .ok
def State.cmdPtpConfig (s : State) (r : Req) : State :=
  (s.modPtp fun p =>
    { p with kp := wrapS 32 (r.P 0), ki := wrapS 32 (r.P 1), kpSh := r.P 2 % 64, kiSh := nbits (r.P 2) 11 6, logSync := wrapS 32 (r.P 3)
             mech := r.P 4, thr := r.P 5 }).finish r.tag .ok
def State.cmdPtpCorrect (s : State) (r : Req) : State :=
  if !s.ptpHost then s.noHamode r else (s.ptpCorrect (wrapS 32 (r.P 0)) (r.S64 1)).finish r.tag .ok
/-- The entries of a table in turn; or the offset of the first that is refused (R376). -/
def State.tableSteps (s : State) (pub : Bool) : Nat → Nat → Nat → List Byte → Except Nat State
  | 0, _, _, _ => .ok s
  | k + 1, i, o, b =>
    let w := fun j => bU b (4 * j) 4
    let base := if pub then PUB_W0 i else SUB_W0 i
    let clean := (List.range 4).all fun j => match regHit (base + 4 * j) with
      | some h => !h.reserved (w j)
      | none => false
    let t := s.entryWrite pub i (w 0) (w 1) (w 2) (w 3)
    if clean && (List.range 4).all (fun j => t.rdN (base + 4 * j) == w j) then t.tableSteps pub k (i + 1) (o + 16) (b.drop 16) else .error o
/-- RAMAUX_TABLE: all entries, or none. -/
def State.cmdRamauxTable (s : State) (r : Req) : State :=
  match s.tableSteps (!r.bit 0 0) (r.P 2) (r.P 1) 0 r.data with
  | .ok t => t.finish r.tag .ok
  | .error o => s.badPay r o
/-- EPOCH_ARM (R358). -/
def State.cmdEpochArm (s : State) (r : Req) : State :=
  let s1 := if s.flag RM_NEXT RM_NEXT_PEND then s else (s.put RM_NEXT RM_NEXT_NEPOCH (r.P 0)).wr64N RM_ACTFRAME (r.P64 1)
  match s1.epochArm (r.P 0) (r.P64 1) with
  | (true, t) => t.await r.tag .epoch 0
  | (false, t) => t.finish r.tag .epochRefused
/-- RAMAUX_CONFIG: RM_CFG takes its value after the others, which its EN looks at (R351). -/
def State.cmdRamauxConfig (s : State) (r : Req) : State :=
  let as := imageOf r.op r.unit false
  match s.imageSteps 4 (imageItems (as.drop 1)) (r.data.drop 4) with
  | .error o => s.badPay r o
  | .ok t =>
    match t.imageSteps 0 (imageItems (as.take 1)) (r.data.take 4) with
    | .error o => s.badPay r o
    | .ok u => u.finish r.tag .ok

end Sys2Proof.Machine
end

