-- ==== Sys2Proof/Machine/AcqCmdRows.lean ====
section
/-! DEFINITION. The meanings of the commands of family AcqCmd, one definition for each row of the opcode table. -/

namespace Sys2Proof.Machine

/-- CAPTURE_CONFIG: Command CAPTURE_CONFIG writes a capture unit's registers (R517). -/
def execCaptureConfig (c : Cmd) (s : State) : Host.Outcome State Fault Refusal :=
  .next (s.command c 0x2C00 State.cmdCaptureConfig)

/-- CAPTURE_ARM: Command CAPTURE_ARM arms a capture unit and optionally waits for the capture (R552). -/
def execCaptureArm (c : Cmd) (s : State) : Host.Outcome State Fault Refusal :=
  .next (s.command c 0x2C01 State.cmdCaptureArm)

/-- CAPTURE_READ: Command CAPTURE_READ copies samples into the result buffer (R517). -/
def execCaptureRead (c : Cmd) (s : State) : Host.Outcome State Fault Refusal :=
  .next (s.command c 0x2C02 State.cmdCaptureRead)

/-- LOG_READ: Command LOG_READ copies Stud-book records into the result buffer (R576). -/
def execLogRead (c : Cmd) (s : State) : Host.Outcome State Fault Refusal :=
  .next (s.command c 0x3000 State.cmdLogRead)

/-- LOG_FREEZE: Command LOG_FREEZE freezes or unfreezes the Stud book (R577). -/
def execLogFreeze (c : Cmd) (s : State) : Host.Outcome State Fault Refusal :=
  .next (s.command c 0x3001 State.cmdLogFreeze)

/-- LOG_CLEAR: Command LOG_CLEAR removes the oldest records under a signature (R579). -/
def execLogClear (c : Cmd) (s : State) : Host.Outcome State Fault Refusal :=
  .next (s.command c 0x3002 State.cmdLogClear)

end Sys2Proof.Machine
end

