-- ==== Sys2Proof/Machine/Acyclic.lean ====
section
/-! DEFINITION. Commands that arrive as entries rather than as rows of their own: the translation of compatible NX2416
packets (R519, R520) and the Ramaux acyclic channel (R360–R362, R516). -/

namespace Sys2Proof.Machine

/-! ### Own acyclic requests (R516) -/

/-- The content of a message in segments of at most 1920 bytes; at least one. -/
def acySplit (bs : List Byte) : List (List Byte) :=
  (List.range (max 1 ((bs.length + 1919) / 1920))).map fun i => (bs.drop (1920 * i)).take 1920
/-- A segment's body (R360). -/
def acyBody (id peer flags seg : Nat) (bs : List Byte) : List Byte :=
  leBytes 2 id ++ leBytes 2 peer ++ leBytes 1 flags ++ leBytes 1 seg ++ leBytes 2 bs.length ++ bs
/-- A message goes to a node: in a request PEER is the destination, in a response the requester; either way the node the frames
are sent to.  `flags`: RESP and REFUSED. -/
def State.acySend (s : State) (node id flags : Nat) (bs : List Byte) : State :=
  if !s.rmOn then s
  else
    let segs := acySplit bs
    s.forEach (List.range segs.length) fun s i =>
      let body := acyBody id node (flags + 2 * b2n (decide (i + 1 < segs.length))) i (segs.getD i [])
      s.switchIn 0 0 (s.rmFrameOf .acyclic (2048 + node) 4 (rmHeader 2 0 s.node (s.time.frameNum % 2 ^ 32) body.length 0 ++ body))
/-- ACYCLIC: the request is sent, and the command waits for the response. -/
def State.cmdAcyclic (s : State) (r : Req) : State :=
  let id := s.rm.nextId
  let s1 := s.modRm fun m =>
    { m with nextId := (id + 1) % 65536, asked := m.asked ++ [{ id := id, node := r.P 0, tag := r.tag, frame := s.time.frameNum }] }
  (s1.acySend (r.P 0) id 0 r.data).await r.tag .acyclic 0

/-! ### What each opcode does -/

def goTableA : List (Nat × (State → Req → State)) :=
  [(0x0000, State.cmdNop), (0x0001, State.cmdIdentify), (0x0002, State.cmdAbort), (0x0003, State.cmdSetState), (0x0004, State.cmdExpert),
   (0x0005, State.cmdSetHamode), (0x0006, State.cmdToken), (0x0007, State.cmdSetClock), (0x0008, State.cmdAssign), (0x0009, State.cmdReadReg),
   (0x0400, State.cmdImage), (0x0401, State.cmdEnable), (0x0402, State.cmdTripClear), (0x0403, State.cmdHoldTorque), (0x0404, State.cmdImage),
   (0x0405, State.cmdImage), (0x0800, State.cmdSetSource), (0x0801, State.cmdMovePtp), (0x0802, State.cmdMoveLinear),
   (0x0803, State.cmdMoveCirc), (0x0804, State.cmdMoveSpline), (0x0805, State.cmdMovePvt), (0x0806, State.cmdStop), (0x0807, State.cmdPhaseMove),
   (0x0808, State.cmdImage)]
def goTableB : List (Nat × (State → Req → State)) :=
  [(0x0C00, State.cmdGear), (0x0C01, State.cmdCamLoad), (0x0C02, State.cmdCamEngage), (0x0C03, State.cmdCamSwitch), (0x0C04, State.cmdImage),
   (0x0C05, State.cmdImage), (0x1000, State.cmdLoopParam), (0x1001, State.cmdImage), (0x1002, State.cmdCleBank), (0x1003, State.cmdImage),
   (0x1004, State.cmdTableLoad), (0x1005, State.cmdTableRead), (0x1006, State.cmdInject), (0x1007, State.cmdImage), (0x1400, State.cmdImage),
   (0x1401, State.cmdPort), (0x1800, State.cmdImage), (0x1801, State.cmdLatchRead), (0x1802, State.cmdCompareLoad), (0x1803, State.cmdCompareArm),
   (0x1804, State.cmdImage), (0x1805, State.cmdImage), (0x1806, State.cmdRegTarget)]
def goTableC : List (Nat × (State → Req → State)) :=
  [(0x1C00, State.cmdSwitchConfig), (0x1C01, State.cmdPtpConfig), (0x1C02, State.cmdPtpCorrect), (0x1C03, State.cmdRamauxTable),
   (0x1C04, State.cmdEpochArm), (0x1C05, State.cmdRamauxConfig), (0x1C06, State.cmdAcyclic), (0x2000, State.cmdCanConfig), (0x2001, State.cmdCanSend),
   (0x2002, State.cmdCanRead), (0x2003, State.cmdCanRecover), (0x2400, State.cmdImage), (0x2401, State.cmdIoWrite), (0x2402, State.cmdIoRead),
   (0x2403, State.cmdGroupRearm), (0x2800, State.cmdSafeStatus), (0x2C00, State.cmdCaptureConfig), (0x2C01, State.cmdCaptureArm),
   (0x2C02, State.cmdCaptureRead), (0x3000, State.cmdLogRead), (0x3001, State.cmdLogFreeze), (0x3002, State.cmdLogClear)]
def goTableD : List (Nat × (State → Req → State)) :=
  [(0x3400, State.cmdKeyLoad), (0x3401, State.cmdKeyErase), (0x3402, State.cmdTamperPolicy), (0x3403, State.cmdDebugChallenge),
   (0x3404, State.cmdDebugOpen), (0x3800, State.cmdImage), (0x3801, State.cmdTwinStart), (0x3802, State.cmdJoin), (0x3803, State.cmdHandover),
   (0x3C00, State.cmdFwWrite), (0x3C01, State.cmdFwVerify), (0x3C02, State.cmdFwRestart), (0x3C03, State.cmdLpImage), (0x3C04, State.cmdSafetySlot)]
/-- What a command does once the checks of R504 hold; an opcode without a command never gets this far. -/
def State.cmdGo (s : State) (r : Req) : State :=
  match (goTableA ++ goTableB ++ goTableC ++ goTableD).lookup r.op with
  | some go => go s r
  | none => s.finish r.tag .badOpcode

/-! ### Compatible packets (R519, R520) -/

/-- The axis that a packet's UNIT or master code names. -/
def nxUnit (u : Nat) : Option Nat := if u < 16 then some u else if u < 24 then some (u + 16) else none
/-- A packet's opcode, its native command, whether UNIT names an axis, and the bits of each parameter that it uses. -/
def nxTable : List (Nat × Nat × Bool × List Nat) :=
  [(0x8000, 0x0000, false, []), (0x8001, 0x0001, false, []), (0x8010, 0x0003, false, []), (0x8011, 0x0003, false, []), (0x8012, 0x0003, false, []),
   (0x8100, 0x0401, true, [1]), (0x8101, 0x0402, true, []), (0x8200, 0x0801, true, [allP, allP, allP, allP, allP]), (0x8201, 0x0806, true, []),
   (0x8300, 0x0C00, true, [allP, 0xFF]), (0x8301, 0x0800, true, []), (0x8900, 0x2401, false, [allP]), (0x8901, 0x2402, false, [])]
/-- P0 to P5 and the payload of the native command. -/
def nxParams (r : Req) : List Nat × List Byte :=
  match r.op with
  | 0x8010 => ([2], [])
  | 0x8011 => ([3], [])
  | 0x8012 => ([1], [])
  | 0x8100 => ([r.P 0], [])
  | 0x8200 =>
    ([], leBytes 8 (r.P 2) ++ leBytes 8 (r.P 3) ++ leBytes 8 (r.P 4) ++ leBytes 8 (wrapS 64 (256 * r.P64 0) % 2 ^ 64).toNat)
  | 0x8300 => ([(wrapS 16 (r.P 0 % 65536) % 2 ^ 32).toNat, r.P 0 / 65536, (nxUnit (r.P 1 % 256)).getD 0], [])
  | 0x8301 => ([0xFF00], [])
  | 0x8900 => ([r.P 0 % 65536, r.P 0 / 65536], [])
  | _ => ([], [])
/-- The native command of a packet; none: an opcode with none. -/
def nxReq (r : Req) : Option Req :=
  (nxTable.lookup r.op).map fun t =>
    { tag := r.tag, op := t.1, unit := if t.2.1 then (nxUnit r.unit).getD 0xFE else r.unit, p := (nxParams r).1, data := (nxParams r).2 }
/-- The offset of the first packet parameter that is out of range. -/
def nxBad (r : Req) : Option Nat :=
  match nxTable.lookup r.op with
  | none => none
  | some t =>
    match (List.range 6).find? fun i => r.P i != (r.P i &&& t.2.2.getD i 0) with
    | some i => some (24 + 4 * i)
    | none =>
      if r.op = 0x8200 then ((List.range 3).find? fun i => r.P (2 + i) == 0).map fun i => 32 + 4 * i
      else if r.op = 0x8300 then (if r.P 0 / 65536 = 0 then some 24 else if (nxUnit (r.P 1 % 256)).isNone then some 28 else none) else none
/-- The native command runs.  IN_READ keeps only R0 [15:0] of its result. -/
def State.nxGo (s : State) (op : Nat) (t : Req) : State :=
  if op = 0x8901 then s.finish t.tag .ok (s.rdN DIOG_IN % 65536) else s.cmdGo t
/-- A compatible packet is served: by the checks of its native command, the parameters by the packet's own layout. -/
def State.servePacket (s : State) (r : Req) (rlen : Nat) : State :=
  match nxReq r with
  | none => s.finish r.tag .badOpcode
  | some t =>
    match s.entryFail t t.data.length rlen, nxBad r with
    | none, none => s.nxGo r.op t
    | none, some o | some (.badParam, _), some o => s.finish r.tag .badParam o
    | some (st, r0), _ => s.finish r.tag st r0
/-- A row of a compatible packet. -/
def State.packet (s : State) (c : Cmd) (op : Nat) : State := s.startWith c op fun s r _ rlen _ => s.servePacket r rlen

/-! ### Acyclic requests of other nodes (R360–R362) -/

/-- A segment's body read: REQID, PEER, AFLAGS, SEG and content; none where ALEN does not fit. -/
def acyParse (b : List Byte) : Option (Nat × Nat × Nat × Nat × List Byte) :=
  let n := bU b 6 2
  if b.length < 8 + n || 1920 < n || 7 < bU b 5 1 || 7 < bU b 4 1 then none
  else some (bU b 0 2, bU b 2 2 % 1024, bU b 4 1, bU b 5 1, (b.drop 8).take n)
/-- A segment joins those present; one that is there already is dropped. -/
def acyAdd (l : List (Nat × Bool × List Byte)) (seg : Nat) (more : Bool) (bs : List Byte) : List (Nat × Bool × List Byte) :=
  if l.any fun x => x.1 == seg then l else l ++ [(seg, more, bs)]
/-- The content, once the last segment and all before it are present. -/
def acyWhole (l : List (Nat × Bool × List Byte)) : Option (List Byte) :=
  match l.find? fun x => !x.2.1 with
  | none => none
  | some k =>
    if (List.range (k.1 + 1)).all fun i => l.any fun x => x.1 == i then
      some ((List.range (k.1 + 1)).flatMap fun i => ((l.find? fun x => x.1 == i).map (·.2.2)).getD [])
    else none
/-- PEER lies in an enabled RM_ACLi. -/
def State.aclHas (s : State) (peer : Nat) : Bool :=
  (List.range 8).any fun j => s.flag (RM_ACL j) RM_ACL_EN && s.get (RM_ACL j) RM_ACL_NODE == peer
/-- The tag under which an acyclic request runs: above the 16-bit tags of the rings. -/
def acyTag (peer id : Nat) : Nat := 65536 + 65536 * peer + id
/-- The longest result data that a response holds. -/
def acyRoom : Nat := 15360 - 32

/-- A complete request runs: the checks of an entry (R487), then those of a command (R504). -/
def State.acyRun (s : State) (peer id : Nat) (e : List Byte) : State :=
  let ent := e.take 64
  let pay := e.drop 64
  let tag := acyTag peer id
  let i : Inflight := { tag := tag, opcode := eOpcode ent, ring := 128, rlen := min (eRlen ent) acyRoom, entry := ent, peer := some peer }
  let s1 : State := ({ s with inflight := s.inflight ++ [i] }).modRm fun m => { m with executing := m.executing ++ [(peer, id, tag)] }
  let r : Req := { tag := tag, op := eOpcode ent, unit := eUnit ent, p := (List.range 6).map (eP ent), data := pay }
  if nbit (eFlags ent) 0 && !eCrcOk ent then s1.finish tag .ecrcBad
  else if eReserved ent then s1.finish tag .reservedSet
  else if s1.haRefuses r.op r.P then s1.finish tag .portRefused
  else if bU ent 16 8 ≠ 0 then s1.bad r 16
  else if ePlen ent ≠ pay.length then s1.bad r 8
  else if (nxReq r).isSome then s1.servePacket r (eRlen ent)
  else s1.serveWith r pay.length (eRlen ent) (if nbit (eFlags ent) 1 then some (bU ent 60 4) else none) State.cmdGo
/-- A request is refused. -/
def State.acyRefuse (s : State) (peer id : Nat) : State := (s.count RM_CNT6 RM_CNT6_LO).acySend peer id 5 []
/-- A segment of a request of node `peer`; `sec`: it came through a port whose SecY validated it. -/
def State.acyRequest (s : State) (peer : Nat) (sec : Bool) (b : List Byte) : State :=
  if s.inDawn then s
  else
    match acyParse b with
    | none => s
    | some (id, dest, fl, seg, bs) =>
      if fl % 2 = 1 || dest ≠ s.node then s
      else
        match s.rm.kept.find? fun k => k.1 == peer && k.2.1 == id with
        | some k => if seg = 0 then (s.count RM_CNT6 RM_CNT6_HI).acySend peer id 1 k.2.2 else s
        | none =>
          if s.rm.executing.any fun x => x.1 == peer && x.2.1 == id then s
          else
            let q := ((s.rm.reqs.find? fun q => q.peer == peer && q.id == id)).getD { peer := peer, id := id, frame := s.time.frameNum }
            let q1 := { q with segs := acyAdd q.segs seg (nbit fl 1) bs, sec := q.sec && sec }
            let rest := s.rm.reqs.filter fun q => !(q.peer == peer && q.id == id)
            match acyWhole q1.segs with
            | none => s.modRm fun m => { m with reqs := rest ++ [q1] }
            | some e =>
              let s1 := s.modRm fun m => { m with reqs := rest }
              if e.length < 64 then s1
              else if !s.flag RM_ACY RM_ACY_ACYEN || !s.aclHas peer || (s.flag RM_ACY RM_ACY_ACYSEC && !q1.sec) ||
                  portRefuses (eOpcode e) (eP e) then s1.acyRefuse peer id
              else s1.acyRun peer id e
/-- Ten frames have passed: incomplete requests are discarded (R361), and own requests without a response end BUSY (R516). -/
def State.acyTimeout (s : State) : State :=
  let old := fun (f : Nat) => decide (f + 10 ≤ s.time.frameNum)
  let gone := s.rm.asked.filter fun a => old a.frame
  gone.foldl (fun s a => s.finish a.tag .busy)
    (s.modRm fun m => { m with reqs := m.reqs.filter fun q => !old q.frame, asked := m.asked.filter fun a => !old a.frame })
/-- A segment of a response from `node` (R360). -/
def State.acyResponse (s : State) (node : Nat) (b : List Byte) : State :=
  if s.inDawn then s
  else
    match acyParse b with
    | none => s
    | some (id, peer, fl, seg, bs) =>
      match s.rm.asked.find? fun a => a.id == id && a.node == node with
      | none => s
      | some a =>
        if fl % 2 = 0 || peer ≠ s.node then s
        else
          let drop := fun (s : State) => s.modRm fun m => { m with asked := m.asked.filter fun x => x.tag != a.tag }
          if nbit fl 2 then (drop s).finish a.tag .portRefused
          else
            let a1 := { a with segs := acyAdd a.segs seg (nbit fl 1) bs }
            match acyWhole a1.segs with
            | some bs => (drop s).finish a.tag .ok 0 0 0 bs
            | none => s.modRm fun m => { m with asked := m.asked.map fun x => if x.tag == a.tag then a1 else x }

/-! ### Completions -/

/-- The oldest completion formed leaves: to its ring (R490), or as the response to an acyclic request (R360, R362). -/
def State.completionOut (s : State) (fault : Bool) : State :=
  match s.completions with
  | [] => s
  | c :: rest =>
    match c.peer with
    | none => s.completionWrite fault
    | some p =>
      let id := c.tag % 65536
      let tag := ((s.inflight.find? fun i => i.tag == c.tag).map fun i => eTag i.entry).getD 0
      let resp := (({ c with tag := tag }).bytes 0 s.tick) ++ c.data.take c.rlen
      let s1 : State := { s with completions := rest, inflight := s.inflight.filter fun i => i.tag != c.tag }
      (s1.modRm fun m =>
        { m with
          executing := m.executing.filter fun x => x.2.2 != c.tag
          kept := ((m.kept ++ [(p, id, resp)]).reverse.take 16).reverse }).acySend p id 1 resp

end Sys2Proof.Machine
end

