-- ==== Sys2Proof/Machine/AcyclicMsgRows.lean ====
section
/-! DEFINITION. The meanings of the commands of family AcyclicMsg, one definition for each row of the opcode table. -/

namespace Sys2Proof.Machine

/-- ACYCLIC_REQUEST_RECEIVE: A complete acyclic request is executed at the basic level, answered from the kept responses, or refused (R361). -/
def execAcyclicRequestReceive (peer : Fin 1024) (sec : Bool) (body : List Byte) (s : State) : Host.Outcome State Fault Refusal :=
  .next (s.acyRequest peer sec body)

/-- ACYCLIC_SEGMENT_TIMEOUT: A request whose segments are not all present within 10 frames is discarded (R361). -/
def execAcyclicSegmentTimeout (s : State) : Host.Outcome State Fault Refusal :=
  .next s.acyTimeout

/-- ACYCLIC_RESPONSE_RECEIVE: An acyclic response arrives for a waiting ACYCLIC command (R360). -/
def execAcyclicResponseReceive (node : Fin 1024) (body : List Byte) (s : State) : Host.Outcome State Fault Refusal :=
  .next (s.acyResponse node body)

/-- ACYCLIC: Command ACYCLIC sends an acyclic request and waits for the response (R516). -/
def execAcyclic (c : Cmd) (s : State) : Host.Outcome State Fault Refusal :=
  .next (s.command c 0x1C06 State.cmdAcyclic)

end Sys2Proof.Machine
end

