-- ==== Sys2Proof/Machine/AxisCmdRows.lean ====
section
/-! DEFINITION. The meanings of the commands of family AxisCmd, one definition for each row of the opcode table. -/

namespace Sys2Proof.Machine

/-- AXIS_CONFIG: Command AXIS_CONFIG writes the axis timebase and PWM registers as an image (R506). -/
def execAxisConfig (c : Cmd) (s : State) : Host.Outcome State Fault Refusal :=
  .next (s.command c 0x0400 State.cmdImage)

/-- ENABLE: Command ENABLE brings an axis into RUN or takes it out (R226). -/
def execEnable (c : Cmd) (s : State) : Host.Outcome State Fault Refusal :=
  .next (s.command c 0x0401 State.cmdEnable)

/-- TRIP_CLEAR: Command TRIP_CLEAR clears latched trips of an axis or global trip (R260). -/
def execTripClear (c : Cmd) (s : State) : Host.Outcome State Fault Refusal :=
  .next (s.command c 0x0402 State.cmdTripClear)

/-- HOLD_TORQUE: Command HOLD_TORQUE commands a holding torque during a brake test (R415). -/
def execHoldTorque (c : Cmd) (s : State) : Host.Outcome State Fault Refusal :=
  .next (s.command c 0x0403 State.cmdHoldTorque)

/-- AUX_CONFIG: Command AUX_CONFIG writes an auxiliary leg's registers as an image (R506). -/
def execAuxConfig (c : Cmd) (s : State) : Host.Outcome State Fault Refusal :=
  .next (s.command c 0x0404 State.cmdImage)

/-- ATC_CONFIG: Command ATC_CONFIG writes a blanking channel's registers (R257). -/
def execAtcConfig (c : Cmd) (s : State) : Host.Outcome State Fault Refusal :=
  .next (s.command c 0x0405 State.cmdImage)

end Sys2Proof.Machine
end

