-- ==== Sys2Proof/Machine/CanCmdRows.lean ====
section
/-! DEFINITION. The meanings of the commands of family CanCmd, one definition for each row of the opcode table. -/

namespace Sys2Proof.Machine

/-- CAN_CONFIG: Command CAN_CONFIG writes a CAN controller's configuration with HALT set (R516). -/
def execCanConfig (c : Cmd) (s : State) : Host.Outcome State Fault Refusal :=
  .next (s.command c 0x2000 State.cmdCanConfig)

/-- CAN_SEND: Command CAN_SEND fills a transmit buffer and requests it (R516). -/
def execCanSend (c : Cmd) (s : State) : Host.Outcome State Fault Refusal :=
  .next (s.command c 0x2001 State.cmdCanSend)

/-- CAN_READ: Command CAN_READ copies a buffer or FIFO entries into the result buffer (R516). -/
def execCanRead (c : Cmd) (s : State) : Host.Outcome State Fault Refusal :=
  .next (s.command c 0x2002 State.cmdCanRead)

/-- CAN_RECOVER: Command CAN_RECOVER starts bus-off recovery (R463). -/
def execCanRecover (c : Cmd) (s : State) : Host.Outcome State Fault Refusal :=
  .next (s.command c 0x2003 State.cmdCanRecover)

end Sys2Proof.Machine
end

