-- ==== Sys2Proof/Machine/CanRows.lean ====
section
/-! DEFINITION. The meanings of the commands of family Can, one definition for each row of the opcode table. -/

namespace Sys2Proof.Machine

/-- CAN_FRAME_RECEIVE: A frame received without error is placed in a buffer or FIFO, or rejected (R457). -/
def execCanFrameReceive (n : Fin 4) (f : CanFrame) (back : BitVec 24) (s : State) : Host.Outcome State Fault Refusal :=
  .next (s.canReceive n f back.toNat)

/-- CAN_TXGO: A write of 1 to a CANn_TXGO bit requests transmission of that buffer (R461). -/
def execCanTxgo (n : Fin 4) (m : Word64) (s : State) : Host.Outcome State Fault Refusal :=
  .next (s.hostCmd (CAN_TXGO n) fun s => s.canTxgo n m.toNat)

/-- CAN_TXWD: A write of 1 to a CANn_TXWD bit withdraws a transmission request (R461). -/
def execCanTxwd (n : Fin 4) (m : Word64) (s : State) : Host.Outcome State Fault Refusal :=
  .next (s.hostCmd (CAN_TXWD n) fun s => s.canTxwd n m.toNat)

/-- CAN_TX_DONE: A frame is sent successfully; TXOK is set and the buffer stamped (R461). -/
def execCanTxDone (n : Fin 4) (back : BitVec 24) (d : Option (BitVec 7)) (s : State) : Host.Outcome State Fault Refusal :=
  .next (s.canTxDone n back.toNat (d.map BitVec.toNat))

/-- CAN_TX_ERROR: A transmission loses arbitration or meets an error and the error counters update (R462). -/
def execCanTxError (n : Fin 4) (back : BitVec 24) (code : Fin 7) (dataPhase late exc : Bool) (more : Fin 32) (s : State) : Host.Outcome State Fault Refusal :=
  .next (s.canTxError n back.toNat code dataPhase late exc more)

/-- CAN_RECOVER_BIT: A write of RECOVER in bus-off starts the recovery count (R463). -/
def execCanRecoverBit (n : Fin 4) (s : State) : Host.Outcome State Fault Refusal :=
  .next (s.hostCmd (CAN_CTRL n) fun s => s.canRecover n)

/-- BUS_OFF_RECOVERY_DONE: 128 runs of 11 recessive bits end bus-off and transmission resumes (R463). -/
def execBusOffRecoveryDone (n : Fin 4) (s : State) : Host.Outcome State Fault Refusal :=
  .next (s.canRecovered n)

/-- CAN_FRESH_CLEAR: A write of 1 to FRESH of a receive buffer clears it (R458). -/
def execCanFreshClear (n : Fin 4) (k : Fin 64) (s : State) : Host.Outcome State Fault Refusal :=
  .next (s.hostCmd (CANBUF_FLAGS n k) fun s => s.freshClear n k)

/-- FIFO0_RELEASE: A write of RELEASE FIFO0 frees the entry at RDIX and advances RDIX (R459). -/
def execFifo0Release (n : Fin 4) (s : State) : Host.Outcome State Fault Refusal :=
  .next (s.hostCmd (CAN_FREL n) fun s => s.fifoRelease n 0)

/-- FIFO1_RELEASE: A write of RELEASE FIFO1 frees the entry at RDIX and advances RDIX (R459). -/
def execFifo1Release (n : Fin 4) (s : State) : Host.Outcome State Fault Refusal :=
  .next (s.hostCmd (CAN_FREL n) fun s => s.fifoRelease n 1)

/-- CAN_HALT_EFFECT: A set HALT takes effect at the end of the frame in progress or at bus idle (R466). -/
def execCanHaltEffect (n : Fin 4) (s : State) : Host.Outcome State Fault Refusal :=
  .next (s.canHalt n)

/-- CAN_RX_ERROR: A frame being received meets a bus error, so REC, LASTERR, WARNING and PASSIVE update (R462). -/
def execCanRxError (n : Fin 4) (code : Fin 7) (dataPhase : Bool) (more : Fin 32) (s : State) : Host.Outcome State Fault Refusal :=
  .next (s.canRxError n code dataPhase more)

end Sys2Proof.Machine
end

