-- ==== Sys2Proof/Machine/CaptureRows.lean ====
section
/-! DEFINITION. The meanings of the commands of family Capture, one definition for each row of the opcode table. -/

namespace Sys2Proof.Machine

/-- CU_ARM: A write of ARM to CUu_CMD arms a capture unit, or refuses it with ARMREF (R552). -/
def execCuArm (u : Fin 8) (s : State) : Host.Outcome State Fault Refusal :=
  .next (s.hostCmd (CU_CMD u) fun s => (s.cuArm u).2)

/-- CU_DISARM: A write of DISARM ends any capture phase at once (R559). -/
def execCuDisarm (u : Fin 8) (s : State) : Host.Outcome State Fault Refusal :=
  .next (s.hostCmd (CU_CMD u) fun s => s.cuDisarm u)

/-- CU_FIRE: A write of FIRE makes the next sample the trigger point (R554). -/
def execCuFire (u : Fin 8) (s : State) : Host.Outcome State Fault Refusal :=
  .next (s.hostCmd (CU_CMD u) fun s => s.cuFire u)

/-- CAPTURE_SAMPLE: A capture unit samples its channels at a boundary of its tick source and writes a row (R549). -/
def execCaptureSample (u : Fin 8) (safeReset ppsIn : Bool) (s : State) : Host.Outcome State Fault Refusal :=
  .next (s.capSample u (safeReset, ppsIn))

/-- FIRE_RECORD_WRITE: A queued fire is written into the fire publication at most once per frame (R557). -/
def execFireRecordWrite (s : State) : Host.Outcome State Fault Refusal :=
  .next s.fireWrite

/-- FIRE_RECEIVE: A fire message reaches an armed unit, which takes its sample nearest t_f as trigger point (R558). -/
def execFireReceive (via : FireVia) (s : State) : Host.Outcome State Fault Refusal :=
  .next (s.fireReceive via)

/-- HOLDOFF_END: Hold-off ends as HOMODE selects and the next segment is armed, or DONE is set (R559). -/
def execHoldoffEnd (u : Fin 8) (s : State) : Host.Outcome State Fault Refusal :=
  .next (s.holdoffEnd u)

end Sys2Proof.Machine
end

