-- ==== Sys2Proof/Machine/CleRows.lean ====
section
/-! DEFINITION. The meanings of the commands of family Cle, one definition for each row of the opcode table. -/

namespace Sys2Proof.Machine

/-- OVERCURRENT: A sinc2 value exceeds OCLIM for OCN consecutive bits and a latched trip is applied to the axis (R207). -/
def execOvercurrent (j : Fin 96) (bits : List Bool) (s : State) : Host.Outcome State Fault Refusal :=
  .next (s.overcurrent j bits)

/-- STREAM_LOSS: A stream holds one level for SLBITS bits; LOST and LOSS are set and R209 reacts (R208). -/
def execStreamLoss (x : StreamBits) (s : State) : Host.Outcome State Fault Refusal :=
  .next (s.streamLoss x.j x.bits)

/-- UDC_HOLD_EXPIRED: The DC-link stream is still lost after UDCHOLD computations, so the axis trips (R209). -/
def execUdcHoldExpired (a : Fin 32) (s : State) : Host.Outcome State Fault Refusal :=
  .next (s.udcExpired a)

/-- CLE_PRESENTATION: At B − WLEAD an axis in RUN enters its CLE pipeline and its compare values are written to the PWM shadow (R215). -/
def execClePresentation (a : Fin 32) (u v w : List Bool) (dc : DcBits) (s : State) : Host.Outcome State Fault Refusal :=
  .next (s.clePresent a u v w dc.bits dc.ph)

/-- ANGLOSS: After XLIM extrapolated computations or zero torque, the CLE takes the axis out of RUN (R225). -/
def execAngloss (a : Fin 32) (s : State) : Host.Outcome State Fault Refusal :=
  .next (s.angLoss a)

/-- CLE_BSWAP: A write of BSWAP requests a parameter bank swap (R227). -/
def execCleBswap (a : Fin 32) (s : State) : Host.Outcome State Fault Refusal :=
  .next (s.hostCmd (SLOT_CMD a) fun s => s.cleBswap a)

/-- CLE_BANK_SWAP: A requested bank swap takes effect at the first computation after the next update boundary at least 16 ticks later (R227). -/
def execCleBankSwap (a : Fin 32) (s : State) : Host.Outcome State Fault Refusal :=
  .next (s.bankSwap a)

/-- CLE_CLRFLAGS: A write of CLRFLAGS clears the W1C bits of CLEn_SSTATs (R234). -/
def execCleClrflags (a : Fin 32) (s : State) : Host.Outcome State Fault Refusal :=
  .next (s.hostCmd (SLOT_CMD a) fun s => s.cleClrFlags a)

/-- CLE_CLRCNT: A write of CLRCNT clears CLEn_SCNTs (R233). -/
def execCleClrcnt (a : Fin 32) (s : State) : Host.Outcome State Fault Refusal :=
  .next (s.hostCmd (SLOT_CMD a) fun s => s.cleClrCnt a)

/-- CLE_LAT_CLR: A write of CLR clears MAX and LAST of CLEn_LAT (R231). -/
def execCleLatClr (k : Fin 8) (s : State) : Host.Outcome State Fault Refusal :=
  .next (s.hostCmd (CLE_LAT k) fun s => s.cleLatClr k)

/-- STREAM_RETURN: A transition arrives on a lost sigma-delta stream and LOST clears (R208). -/
def execStreamReturn (j : Fin 96) (s : State) : Host.Outcome State Fault Refusal :=
  .next (s.streamReturn j)

end Sys2Proof.Machine
end

