-- ==== Sys2Proof/Machine/FbCmdRows.lean ====
section
/-! DEFINITION. The meanings of the commands of family FbCmd, one definition for each row of the opcode table. -/

namespace Sys2Proof.Machine

/-- PORT_CONFIG: Command PORT_CONFIG writes an encoder port's configuration as an image (R506). -/
def execPortConfig (c : Cmd) (s : State) : Host.Outcome State Fault Refusal :=
  .next (s.command c 0x1400 State.cmdImage)

/-- PORT_CMD: Command PORT_CMD issues encoder port commands and an optional preset (R515). -/
def execPortCmd (c : Cmd) (s : State) : Host.Outcome State Fault Refusal :=
  .next (s.command c 0x1401 State.cmdPort)

/-- LATCH_CONFIG: Command LATCH_CONFIG writes LIn_CFG (R506). -/
def execLatchConfig (c : Cmd) (s : State) : Host.Outcome State Fault Refusal :=
  .next (s.command c 0x1800 State.cmdImage)

/-- LATCH_READ: Command LATCH_READ pops latch entries into the result buffer (R515). -/
def execLatchRead (c : Cmd) (s : State) : Host.Outcome State Fault Refusal :=
  .next (s.command c 0x1801 State.cmdLatchRead)

/-- COMPARE_LOAD: Command COMPARE_LOAD writes compare-RAM entries (R515). -/
def execCompareLoad (c : Cmd) (s : State) : Host.Outcome State Fault Refusal :=
  .next (s.command c 0x1802 State.cmdCompareLoad)

/-- COMPARE_ARM: Command COMPARE_ARM arms or disarms a compare output with its list (R153). -/
def execCompareArm (c : Cmd) (s : State) : Host.Outcome State Fault Refusal :=
  .next (s.command c 0x1803 State.cmdCompareArm)

/-- CO_CONFIG: Command CO_CONFIG writes COn_CFG (R506). -/
def execCoConfig (c : Cmd) (s : State) : Host.Outcome State Fault Refusal :=
  .next (s.command c 0x1804 State.cmdImage)

/-- REG_CONFIG: Command REG_CONFIG writes a register controller's registers (R506). -/
def execRegConfig (c : Cmd) (s : State) : Host.Outcome State Fault Refusal :=
  .next (s.command c 0x1805 State.cmdImage)

/-- REG_TARGET: Command REG_TARGET writes a host register target in host-assisted mode (R164). -/
def execRegTarget (c : Cmd) (s : State) : Host.Outcome State Fault Refusal :=
  .next (s.command c 0x1806 State.cmdRegTarget)

end Sys2Proof.Machine
end

