-- ==== Sys2Proof/Machine/FeedbackRows.lean ====
section
/-! DEFINITION. The meanings of the commands of family Feedback, one definition for each row of the opcode table. -/

namespace Sys2Proof.Machine

/-- PAIR_TRANSITION: A comparator of an encoder or latch wire changes and the transition is stamped to 1/8 tick (R69). -/
def execPairTransition (w : Wire) (neg lvl : Bool) (t32 : Nat) (s : State) : Host.Outcome State Fault Refusal :=
  .next ((s.wireTransition w neg lvl t32).chbWire w t32)

/-- LEVEL_ACCEPTED: A new pair level has been stable for N ticks and reaches the decoder, which counts it (R70). -/
def execLevelAccepted (n : Fin 40) (pair : Fin 3) (s : State) : Host.Outcome State Fault Refusal :=
  .next (s.levelRow n pair)

/-- STILL_TIMEOUT: No edge has been counted for STILL ticks, so STILLST is set and the fraction held at 0 (R77). -/
def execStillTimeout (n : Fin 40) (s : State) : Host.Outcome State Fault Refusal :=
  .next (s.stillTimeout n)

/-- WIRE_FAULT: A pair stays suspect for WFT ticks; WIRE_FAULT is set, VALID and REFD clear and the word freezes (R90). -/
def execWireFault (n : Fin 40) (pair : Fin 4) (s : State) : Host.Outcome State Fault Refusal :=
  .next (s.wireFault n pair)

/-- PRESET_APPLY: A pending LOAD loads EPn_PRESET into the count at the next sync boundary instant (R93). -/
def execPresetApply (n : Fin 40) (s : State) : Host.Outcome State Fault Refusal :=
  .next (s.presetRow n)

/-- PORT_SETTINGS_EFFECT: Writes to EPn_FILT, EPn_WIN, EPn_STILL or EPn_IDX take effect at the next sync boundary (R94). -/
def execPortSettingsEffect (n : Fin 40) (s : State) : Host.Outcome State Fault Refusal :=
  .next (s.settingsRow n)

/-- SSI_FRAME_START: The port starts an SSI frame at S = boundary − T_F − 8, or skips it and sets SSI_SLOW (R82). -/
def execSsiFrameStart (n : Fin 40) (s : State) : Host.Outcome State Fault Refusal :=
  .next (s.ssiStartRow n)

/-- SSI_FRAME_END: An SSI frame ends; the value is decoded and unwrapped into the count, or the frame is in error (R81). -/
def execSsiFrameEnd (n : Fin 40) (hi : BitVec 16) (lo : Word) (mono : Bool) (s : State) : Host.Outcome State Fault Refusal :=
  .next (s.ssiEnd n (s.ssiFirst n (hi ++ lo).toNat mono))

/-- PORT_LOAD: A write of LOAD to EPn_CMD requests a preset at the next sync boundary (R93). -/
def execPortLoad (n : Fin 40) (s : State) : Host.Outcome State Fault Refusal :=
  .next (s.hostCmd (EP_CMD n) fun s => s.portLoad n)

/-- PORT_REVAL: A write of REVAL restores VALID if no pair is suspect, or is refused (R92). -/
def execPortReval (n : Fin 40) (s : State) : Host.Outcome State Fault Refusal :=
  .next (s.hostCmd (EP_CMD n) fun s => s.portReval n)

/-- PORT_REARM: A write of REARM clears R_ref and REFD so that the next qualified index sets the reference (R100). -/
def execPortRearm (n : Fin 40) (s : State) : Host.Outcome State Fault Refusal :=
  .next (s.hostCmd (EP_CMD n) fun s => s.portRearm n)

/-- PORT_CLRFLAGS: A write of CLRFLAGS clears the W1C bits of EPn_STAT, subject to R92 (R100). -/
def execPortClrflags (n : Fin 40) (s : State) : Host.Outcome State Fault Refusal :=
  .next (s.hostCmd (EP_CMD n) fun s => s.portClrFlags n)

/-- PORT_CLRCNT: A write of CLRCNT clears EPn_CNT (R100). -/
def execPortClrcnt (n : Fin 40) (s : State) : Host.Outcome State Fault Refusal :=
  .next (s.hostCmd (EP_CMD n) fun s => s.portClrCnt n)

end Sys2Proof.Machine
end

