-- ==== Sys2Proof/Machine/GearCmdRows.lean ====
section
/-! DEFINITION. The meanings of the commands of family GearCmd, one definition for each row of the opcode table. -/

namespace Sys2Proof.Machine

/-- GEAR: Command GEAR engages a gear or changes its ratio, optionally at a master position (R121). -/
def execGear (c : Cmd) (s : State) : Host.Outcome State Fault Refusal :=
  .next (s.command c 0x0C00 State.cmdGear)

/-- CAM_LOAD: Command CAM_LOAD loads and checks a cam table (R126). -/
def execCamLoad (c : Cmd) (s : State) : Host.Outcome State Fault Refusal :=
  .next (s.command c 0x0C01 State.cmdCamLoad)

/-- CAM_ENGAGE: Command CAM_ENGAGE engages a cam table on an axis (R128). -/
def execCamEngage (c : Cmd) (s : State) : Host.Outcome State Fault Refusal :=
  .next (s.command c 0x0C02 State.cmdCamEngage)

/-- CAM_SWITCH: Command CAM_SWITCH arms a switch to another cam table at AXn_CAMSW (R129). -/
def execCamSwitch (c : Cmd) (s : State) : Host.Outcome State Fault Refusal :=
  .next (s.command c 0x0C03 State.cmdCamSwitch)

/-- LS_CONFIG: Command LS_CONFIG writes a line shaft's registers as an image (R506). -/
def execLsConfig (c : Cmd) (s : State) : Host.Outcome State Fault Refusal :=
  .next (s.command c 0x0C04 State.cmdImage)

/-- VX_CONFIG: Command VX_CONFIG writes a virtual axis's registers as an image (R506). -/
def execVxConfig (c : Cmd) (s : State) : Host.Outcome State Fault Refusal :=
  .next (s.command c 0x0C05 State.cmdImage)

end Sys2Proof.Machine
end

