-- ==== Sys2Proof/Machine/GroomRows.lean ====
section
/-! DEFINITION. The meanings of the commands of family Groom, one definition for each row of the opcode table. -/

namespace Sys2Proof.Machine

/-- WORK_ITEM_POST: A yard core or hardware source posts a work item to the Groom, or gets GROOM_FULL (R525). -/
def execWorkItemPost (src : Fin 10) (flow : BitVec 16) (ctl handler : Byte) (a0 : Word) (a1 a2 : Word64) (s : State) : Host.Outcome State Fault Refusal :=
  .next (s.groomPost src flow.toNat ctl.toNat handler.toNat a0 a1 a2)

/-- WORK_ITEM_DISPATCH: The Groom offers the first eligible item to an idle yard core under the affinity rule (R526). -/
def execWorkItemDispatch (s : State) : Host.Outcome State Fault Refusal :=
  .next s.groomDispatch

/-- AFFINITY_WINDOW_END: AFWIN ends and a held item goes to the lowest-numbered idle core (R527). -/
def execAffinityWindowEnd (s : State) : Host.Outcome State Fault Refusal :=
  .next s.groomAffinityEnd

/-- WORK_ITEM_DONE: A yard core reports its item done and the team's next item becomes eligible (R528). -/
def execWorkItemDone (c : Fin 8) (s : State) : Host.Outcome State Fault Refusal :=
  .next (s.groomDone c)

/-- POST: A read of POST posts the staged message into a stall, or returns STALL_FULL or REFUSED (R532). -/
def execPost (a b : Fin 29) (s : State) : Host.Outcome State Fault Refusal :=
  .next (s.postRow a b)

/-- POP: A write of POP removes the oldest message of a stall and sets the sender's ACKSEQ (R533). -/
def execPop (b a : Fin 29) (s : State) : Host.Outcome State Fault Refusal :=
  .next (s.popRow b a)

/-- WAIT: A read of WAIT blocks the agent until an acknowledgement, doorbell or crossing (R535). -/
def execWait (a : Fin 29) (s : State) : Host.Outcome State Fault Refusal :=
  .next (s.waitRow a)

/-- WAIT_RETURN: A pending WAIT read returns with reason ACK or DOORBELL (R535). -/
def execWaitReturn (a : Fin 29) (s : State) : Host.Outcome State Fault Refusal :=
  .next (s.waitReturnRow a)

/-- CROSSING_DETECTED: Two agents have waited on each other's stalls for XTIME, so both waits return CROSSED (R536). -/
def execCrossingDetected (a b : Fin 29) (s : State) : Host.Outcome State Fault Refusal :=
  .next (s.crossing a b)

/-- LOCK_ACQUIRE: A read of LOCKn acquires a free lock, reports its owner, or peeks (R539). -/
def execLockAcquire (a : Contest) (n : Fin 64) (s : State) : Host.Outcome State Fault Refusal :=
  .next (s.lockAcquire a.agent n (a.rivals.map (·.val)))

/-- LOCK_RELEASE: A write of 0 by the owner releases a lock, or is counted in BADREL (R540). -/
def execLockRelease (a : Fin 29) (n : Fin 64) (s : State) : Host.Outcome State Fault Refusal :=
  .next (s.lockRelease a n)

end Sys2Proof.Machine
end

