-- ==== Sys2Proof/Machine/HostIfRows.lean ====
section
/-! DEFINITION. The meanings of the commands of family HostIf, one definition for each row of the opcode table. -/

namespace Sys2Proof.Machine

/-- BAR0_READ_LOW_WORD: A read of the low word of a 64-bit register returns it and loads the requester's read latch (R36). -/
def execBar0ReadLowWord (r : Fin 10) (a : BitVec 24) (s : State) : Host.Outcome State Fault Refusal :=
  .next (s.readLow r a.toNat)

/-- BAR0_READ_HIGH_WORD: A read of the high word of a 64-bit register returns the latched or the current high half (R36). -/
def execBar0ReadHighWord (r : Fin 10) (a : BitVec 24) (s : State) : Host.Outcome State Fault Refusal :=
  .next (s.readHigh r a.toNat)

/-- BAR0_WRITE_LOW_WORD: A write of the low word of a 64-bit register is held in the requester's holding register (R36). -/
def execBar0WriteLowWord (r : Fin 10) (a : BitVec 24) (v : Word) (s : State) : Host.Outcome State Fault Refusal :=
  writeRow s r a.toNat v (isLowWord a.toNat)

/-- BAR0_WRITE_HIGH_WORD: A write of the high word of a 64-bit register applies both halves in one PCLK cycle (R36). -/
def execBar0WriteHighWord (r : Fin 10) (a : BitVec 24) (v : Word) (s : State) : Host.Outcome State Fault Refusal :=
  writeRow s r a.toNat v (isHighWord a.toNat)

/-- UNMAPPED_ACCESS: An access to an unmapped or reserved offset, or one of the wrong width or alignment, reads 0 or is ignored and is recorded in SYS_BADACC (R37); `odd`: its width or alignment is another.  Which requester `r` makes it makes no difference. -/
def execUnmappedAccess (_r : Fin 10) (a : BitVec 24) (write odd : Bool) (s : State) : Host.Outcome State Fault Refusal :=
  .next (s.unmappedRow a.toNat write odd)

/-- REGISTER_WRITE: A host write to a register without behaviour of its own is applied, or refused by control level or state and recorded (R28). -/
def execRegisterWrite (r : Fin 10) (a : BitVec 24) (v : Word) (s : State) : Host.Outcome State Fault Refusal :=
  writeRow s r a.toNat v true

/-- BADACC_CLR: A write of CLR = 1 clears COUNT, OFFSET and REASON of SYS_BADACC (R38). -/
def execBadaccClr (r : Fin 10) (s : State) : Host.Outcome State Fault Refusal :=
  .next (s.badAccClr r)

/-- BAR2_WRITE: A BAR2 write reaches the host area of DRAM, or is ignored and counted in B2REFUSED for pages 0–11 (R474). -/
def execBar2Write (o : BitVec 28) (data : List Byte) (s : State) : Host.Outcome State Fault Refusal :=
  .next (s.bar2Write o.toNat data)

/-- RING_ENABLE: A write of EN = 1 zeroes the counts and starts a ring, or sets BINDERR for a stream ring (R481). -/
def execRingEnable (n : Fin 128) (v : Word) (s : State) : Host.Outcome State Fault Refusal :=
  hostWord s (RING_CFG n) v.toNat fun s => if nbit v.toNat 31 then s.ringCfg false n v.toNat else s

/-- RING_DISABLE: A write of EN = 0 stops fetching and completes unstarted entries with RING_STOPPED (R481). -/
def execRingDisable (n : Fin 128) (v : Word) (s : State) : Host.Outcome State Fault Refusal :=
  hostWord s (RING_CFG n) v.toNat fun s => if nbit v.toNat 31 then s else s.ringCfg false n v.toNat

/-- RING_DOORBELL: A write of TAIL rings the doorbell, or is ignored with TAILBAD (R480). -/
def execRingDoorbell (n : Fin 128) (v : Word) (s : State) : Host.Outcome State Fault Refusal :=
  hostWord s (RING_TAIL n) v.toNat fun s => s.doorbellRing n v.toNat

/-- RING_FETCH: The module fetches an entry when room allows and posts its work item (R483). -/
def execRingFetch (n : Fin 128) (bus : List Byte) (fault : Bool) (s : State) : Host.Outcome State Fault Refusal :=
  .next (s.ringFetch n bus (fault || bus.length != 64))

/-- COMMAND_COMPLETION: A completion is written after its result data, or discarded as late (R490). -/
def execCommandCompletion (fault : Bool) (s : State) : Host.Outcome State Fault Refusal :=
  .next (s.completionOut fault)

/-- COALESCE_TIMER: ITIME µs after the oldest unsignalled completion the ring's vector is raised (R485). -/
def execCoalesceTimer (n : Fin 128) (s : State) : Host.Outcome State Fault Refusal :=
  .next (s.coalesce n)

/-- FUNCTION_LEVEL_RESET: A Function Level Reset resets the host interface only and sets FLRSEEN (R476). -/
def execFunctionLevelReset (s : State) : Host.Outcome State Fault Refusal :=
  .next s.hostReset

/-- PCIE_LINK_DOWN: A link-down lasting more than 1 ms resets the host interface only (R476). -/
def execPcieLinkDown (s : State) : Host.Outcome State Fault Refusal :=
  .next s.pcieDown

/-- HQ_READ: A QSPI read transaction returns words from BAR0 or the host area (R477). -/
def execHqRead (a : Word) (k : Fin 65536) (s : State) : Host.Outcome State Fault Refusal :=
  .next (s.hqReadRow a.toNat k)

/-- HQ_WRITE: A QSPI write transaction writes words to BAR0 or the host area at the basic level (R477). -/
def execHqWrite (a : Word) (ws : List Word) (s : State) : Host.Outcome State Fault Refusal :=
  hqWriteRow s a.toNat ws

/-- HQ_STATUS: A QSPI status transaction returns the interrupt and refusal byte (R477). -/
def execHqStatus (s : State) : Host.Outcome State Fault Refusal :=
  .next s.hqStatus

/-- HOST_KICK: A write of HOST_KICK restarts the host watchdog (R491). -/
def execHostKick (s : State) : Host.Outcome State Fault Refusal :=
  .next (s.hostCmd HOST_KICK fun s => s.hostKick)

/-- HOST_WATCHDOG_EXPIRE: No kick lands for TIMEOUT ms; WDEXP is set and HWACT applied (R491). -/
def execHostWatchdogExpire (s : State) : Host.Outcome State Fault Refusal :=
  .next s.hostWatchdog

/-- HOST_CLRCNT: A write of CLRCNT clears HOST_CNT0 and every RINGn_CNT (R502). -/
def execHostClrcnt (s : State) : Host.Outcome State Fault Refusal :=
  .next (s.hostCmd HOST_CMD fun s => s.hostClrCnt)

/-- STREAM_POINT_MOVE: The fetch hardware moves stream points into an axis's point queue while it has room (R497). -/
def execStreamPointMove (n : Fin 128) (e : List Byte) (fault : Bool) (s : State) : Host.Outcome State Fault Refusal :=
  .next (s.streamMove n e fault)

/-- DELIVERY_RECORD_WRITE: A record from a CAN FIFO or PTP measurement is written into a delivery ring (R498). -/
def execDeliveryRecordWrite (n : Fin 128) (fault : Bool) (s : State) : Host.Outcome State Fault Refusal :=
  .next (s.deliveryWrite n fault)

/-- PCIE_LINK_UP: The PCIe link finishes training and HOST_STAT reports its speed and width (R603). -/
def execPcieLinkUp (speed : Fin 3) (two : Bool) (s : State) : Host.Outcome State Fault Refusal :=
  .next (s.pcieUp speed two)

/-- PERST_ASSERT: PERST# is asserted and resets the host interface only (R601). -/
def execPerstAssert (s : State) : Host.Outcome State Fault Refusal :=
  .next s.perst

end Sys2Proof.Machine
end

