-- ==== Sys2Proof/Machine/IoCmdRows.lean ====
section
/-! DEFINITION. The meanings of the commands of family IoCmd, one definition for each row of the opcode table. -/

namespace Sys2Proof.Machine

/-- IO_CONFIG: Command IO_CONFIG writes field and analogue configuration (R506). -/
def execIoConfig (c : Cmd) (s : State) : Host.Outcome State Fault Refusal :=
  .next (s.command c 0x2400 State.cmdImage)

/-- IO_WRITE: Command IO_WRITE sets and clears field outputs in one PCLK cycle (R517). -/
def execIoWrite (c : Cmd) (s : State) : Host.Outcome State Fault Refusal :=
  .next (s.command c 0x2401 State.cmdIoWrite)

/-- IO_READ: Command IO_READ returns the inputs and analogue values (R517). -/
def execIoRead (c : Cmd) (s : State) : Host.Outcome State Fault Refusal :=
  .next (s.command c 0x2402 State.cmdIoRead)

/-- GROUP_REARM: Command GROUP_REARM rearms a field group's outputs (R446). -/
def execGroupRearm (c : Cmd) (s : State) : Host.Outcome State Fault Refusal :=
  .next (s.command c 0x2403 State.cmdGroupRearm)

/-- SAFE_STATUS: Command SAFE_STATUS copies the SAFE block into the result buffer (R517). -/
def execSafeStatus (c : Cmd) (s : State) : Host.Outcome State Fault Refusal :=
  .next (s.command c 0x2800 State.cmdSafeStatus)

end Sys2Proof.Machine
end

