-- ==== Sys2Proof/Machine/IoRows.lean ====
section
/-! DEFINITION. The meanings of the commands of family Io, one definition for each row of the opcode table. -/

namespace Sys2Proof.Machine

/-- DIO_INPUT_ACCEPT: A field input's filter accepts a new level and DIOc_TS is stamped (R439). -/
def execDioInputAccept (c : Fin 32) (lvl : Bool) (back : BitVec 17) (s : State) : Host.Outcome State Fault Refusal :=
  .next (s.dioAccept c lvl back.toNat)

/-- DIO_OUT_WRITE: A write of DIO_OUT commands the field outputs (R441). -/
def execDioOutWrite (v : Word) (s : State) : Host.Outcome State Fault Refusal :=
  hostWord s DIOG_OUT v.toNat fun s => s.dioOut v.toNat

/-- DIO_OSET: A write to DIO_OSET sets DIO_OUT bits (R441). -/
def execDioOset (v : Word) (s : State) : Host.Outcome State Fault Refusal :=
  hostWord s DIOG_OSET v.toNat fun s => s.dioSet v.toNat

/-- DIO_OCLR: A write to DIO_OCLR clears DIO_OUT bits (R441). -/
def execDioOclr (v : Word) (s : State) : Host.Outcome State Fault Refusal :=
  hostWord s DIOG_OCLR v.toNat fun s => s.dioClear v.toNat

/-- OUTPUT_SHORT_CIRCUIT: An output's current limit acts for 100 µs, so it switches off and sets SCFLT (R442). -/
def execOutputShortCircuit (c : Fin 32) (s : State) : Host.Outcome State Fault Refusal :=
  .next (s.outputShort c)

/-- OUTPUT_OVERTEMP: An output switch junction exceeds 150 °C, so it switches off and sets THFLT (R442). -/
def execOutputOvertemp (c : Fin 32) (cool : Word64) (s : State) : Host.Outcome State Fault Refusal :=
  .next (s.outputHot c cool.toNat)

/-- OUTPUT_RETRY: With AUTORST set, a switched-off output retries after 100 ms (R442). -/
def execOutputRetry (c : Fin 32) (s : State) : Host.Outcome State Fault Refusal :=
  .next (s.outputRetry c)

/-- READBACK_ERROR: An output's land disagrees with its command for 1 ms, setting RBERR or RBHI (R443). -/
def execReadbackError (c : Fin 32) (raw : Bool) (s : State) : Host.Outcome State Fault Refusal :=
  .next (s.readback c raw)

/-- FIELD_SUPPLY_SAMPLE: The group monitor samples FV24_k every 10 µs and updates the group state (R444). -/
def execFieldSupplySample (k : Fin 4) (v : BitVec 16) (raw : Byte) (s : State) : Host.Outcome State Fault Refusal :=
  .next (s.fgSample k v.toNat raw.toNat)

/-- FG_REARM: A write of REARM releases HOLD on a GOOD group, or sets REARM_REFUSED (R446). -/
def execFgRearm (k : Fin 4) (s : State) : Host.Outcome State Fault Refusal :=
  .next (s.hostCmd (FG_CMD k) fun s => (s.fgRearm k).2)

/-- FG_CLRFLAGS: A write of CLRFLAGS clears the W1C bits of FGk_STAT and the group's DIOc_ST (R453). -/
def execFgClrflags (k : Fin 4) (s : State) : Host.Outcome State Fault Refusal :=
  .next (s.hostCmd (FG_CMD k) fun s => s.fgClrFlags k)

/-- FG_CLRCNT: A write of CLRCNT clears FGk_CNT (R452). -/
def execFgClrcnt (k : Fin 4) (s : State) : Host.Outcome State Fault Refusal :=
  .next (s.hostCmd (FG_CMD k) fun s => s.fgClrCnt k)

/-- ANALOGUE_SAMPLE: All analogue channels sample together every 1 600 ticks and values update as AVG selects (R448). -/
def execAnalogueSample (codes : Vector (BitVec 16) 8) (s : State) : Host.Outcome State Fault Refusal :=
  .next (s.analogueSample codes)

/-- SHUNT_OPEN: A 0–20 mA input exceeds 25 mA, so the shunt protection opens and SHOPEN is set (R449). -/
def execShuntOpen (i : Fin 8) (s : State) : Host.Outcome State Fault Refusal :=
  .next (s.shuntOpen i)

/-- SHUNT_RECONNECT: The shunt protection reconnects 100 ms after opening (R449). -/
def execShuntReconnect (i : Fin 8) (s : State) : Host.Outcome State Fault Refusal :=
  .next (s.shuntReconnect i)

end Sys2Proof.Machine
end

