-- ==== Sys2Proof/Machine/LatchRows.lean ====
section
/-! DEFINITION. The meanings of the commands of family Latch, one definition for each row of the opcode table. -/

namespace Sys2Proof.Machine

/-- LATCH_EDGE: A latch input accepts an edge, or a port index, and stamps it (R147). -/
def execLatchEdge (n : Fin 32) (s : State) : Host.Outcome State Fault Refusal :=
  .next (s.latchEdge n)

/-- LATCH_ENTRY_COMPLETE: A latch entry completes max(N) + 6 ticks after its edge and enters the FIFO and the register controller (R149). -/
def execLatchEntryComplete (n : Fin 32) (s : State) : Host.Outcome State Fault Refusal :=
  .next (s.latchComplete n)

/-- LATCH_POP: A write of POP removes the head entry of a latch FIFO (R150). -/
def execLatchPop (n : Fin 32) (s : State) : Host.Outcome State Fault Refusal :=
  .next (s.hostCmd (LI_CMD n) fun s => s.latchPop n)

/-- LATCH_CLR: A write of CLR empties a latch FIFO (R168). -/
def execLatchClr (n : Fin 32) (s : State) : Host.Outcome State Fault Refusal :=
  .next (s.hostCmd (LI_CMD n) fun s => s.latchClr n)

/-- LATCH_CLRCNT: A write of CLRCNT clears the latch counters (R168). -/
def execLatchClrcnt (n : Fin 32) (s : State) : Host.Outcome State Fault Refusal :=
  .next (s.hostCmd (LI_CMD n) fun s => s.latchClrCnt n)

/-- CO_ARM: A write of ARM to COn_CMD loads entry START as the armed entry (R153). -/
def execCoArm (n : Fin 16) (start : BitVec 12) (s : State) : Host.Outcome State Fault Refusal :=
  .next (s.hostCmd (CO_CMD n) fun s => s.coArm n start.toNat)

/-- CO_DISARM: A write of DISARM disarms a compare output (R166). -/
def execCoDisarm (n : Fin 16) (s : State) : Host.Outcome State Fault Refusal :=
  .next (s.hostCmd (CO_CMD n) fun s => s.coStop n)

/-- CO_CLRCNT: A write of CLRCNT clears COn_FIRED (R168). -/
def execCoClrcnt (n : Fin 16) (s : State) : Host.Outcome State Fault Refusal :=
  .next (s.hostCmd (CO_CMD n) fun s => s.wrN (CO_FIRED n) 0)

/-- COMPARE_RAM_WRITE: A write of the +0x08 word of the armed compare entry makes the output re-read it in the next tick (R157). -/
def execCompareRamWrite (j : Fin 262144) (v : Word) (s : State) : Host.Outcome State Fault Refusal :=
  .next (s.hostCmd (0x100000 + 4 * j) fun s => s.cmpRamWrite j v)

/-- COMPARE_PULSE_END: A compare pulse has held its active level for WIDTH ticks and the land returns to idle (R155). -/
def execComparePulseEnd (n : Fin 16) (s : State) : Host.Outcome State Fault Refusal :=
  .next (s.coPulseEnd n)

/-- REG_CLRTGT: A write of CLRTGT sets the register target to 0 (R165). -/
def execRegClrtgt (k : Fin 32) (s : State) : Host.Outcome State Fault Refusal :=
  .next (s.hostCmd (RC_CFG k) fun s => s.regClrTgt k)

end Sys2Proof.Machine
end

