-- ==== Sys2Proof/Machine/LogRows.lean ====
section
/-! DEFINITION. The meanings of the commands of family Log, one definition for each row of the opcode table. -/

namespace Sys2Proof.Machine

/-- RECORD_APPEND: The firmware forms a Stud-book record from an event and gives it the next SEQ, or merges it (R566). -/
def execRecordAppend (s : State) : Host.Outcome State Fault Refusal :=
  .next s.recordAppend

/-- RECORD_PROGRAM: A numbered record is programmed into NAND within 10 ms (R573). -/
def execRecordProgram (x : ProgramEnd) (s : State) : Host.Outcome State Fault Refusal :=
  .next (s.recordProgram x.bad x.fails)

/-- MERGE_WINDOW_END: A merge window ends and one MERGED record carries the count (R572). -/
def execMergeWindowEnd (s : State) : Host.Outcome State Fault Refusal :=
  .next s.mergeEnd

/-- FREEZE_TIMEOUT: FRZMAX seconds after a freeze the book unfreezes and FRZTO is set (R577). -/
def execFreezeTimeout (s : State) : Host.Outcome State Fault Refusal :=
  .next s.freezeTimeout

/-- LOG_CURSOR_WRITE: A write of LOG_CURSOR starts loading that record into the window (R575). -/
def execLogCursorWrite (q : Word64) (s : State) : Host.Outcome State Fault Refusal :=
  .next (s.hostCmd LOG_CURSOR fun s => s.logCursor q.toNat)

/-- LOG_NEXT: A write of NEXT starts loading the record after the one shown (R575). -/
def execLogNext (s : State) : Host.Outcome State Fault Refusal :=
  .next (s.hostCmd LOG_CTRL fun s => s.logNext)

/-- LOG_LOAD_DONE: A record load ends and the header and body appear, with BUSY clear (R575). -/
def execLogLoadDone (s : State) : Host.Outcome State Fault Refusal :=
  .next s.logLoaded

end Sys2Proof.Machine
end

