-- ==== Sys2Proof/Machine/LoopCmdRows.lean ====
section
/-! DEFINITION. The meanings of the commands of family LoopCmd, one definition for each row of the opcode table. -/

namespace Sys2Proof.Machine

/-- LOOP_PARAM: Command LOOP_PARAM stages loop parameters and optionally applies them (R195). -/
def execLoopParam (c : Cmd) (s : State) : Host.Outcome State Fault Refusal :=
  .next (s.command c 0x1000 State.cmdLoopParam)

/-- LOOP_FB: Command LOOP_FB writes AXn_LFB and AXn_FB2K in Morning (R171). -/
def execLoopFb (c : Cmd) (s : State) : Host.Outcome State Fault Refusal :=
  .next (s.command c 0x1001 State.cmdImage)

/-- CLE_BANK: Command CLE_BANK fills the inactive parameter bank and optionally swaps it (R227). -/
def execCleBank (c : Cmd) (s : State) : Host.Outcome State Fault Refusal :=
  .next (s.command c 0x1002 State.cmdCleBank)

/-- CLE_CONFIG: Command CLE_CONFIG writes a slot's configuration and its sigma-delta registers (R228). -/
def execCleConfig (c : Cmd) (s : State) : Host.Outcome State Fault Refusal :=
  .next (s.command c 0x1003 State.cmdImage)

/-- TABLE_LOAD: Command TABLE_LOAD writes bins into the table pool (R191). -/
def execTableLoad (c : Cmd) (s : State) : Host.Outcome State Fault Refusal :=
  .next (s.command c 0x1004 State.cmdTableLoad)

/-- TABLE_READ: Command TABLE_READ copies table-pool bins into the result buffer (R514). -/
def execTableRead (c : Cmd) (s : State) : Host.Outcome State Fault Refusal :=
  .next (s.command c 0x1005 State.cmdTableRead)

/-- INJECT: Command INJECT configures and starts the test-signal generator and waits for its end (R194). -/
def execInject (c : Cmd) (s : State) : Host.Outcome State Fault Refusal :=
  .next (s.command c 0x1006 State.cmdInject)

/-- LAWSEL: Command LAWSEL writes an LP's law-slot selections (R300). -/
def execLawsel (c : Cmd) (s : State) : Host.Outcome State Fault Refusal :=
  .next (s.command c 0x1007 State.cmdImage)

end Sys2Proof.Machine
end

