-- ==== Sys2Proof/Machine/LoopRows.lean ====
section
/-! DEFINITION. The meanings of the commands of family Loop, one definition for each row of the opcode table. -/

namespace Sys2Proof.Machine

/-- LOOP_APPLY: A write of APPLY captures the staged loop parameters (R195). -/
def execLoopApply (n : Fin 64) (s : State) : Host.Outcome State Fault Refusal :=
  .next (s.hostCmd (AXL_LCFG n) fun s => s.loopApply n)

/-- LOOP_APPLY_EFFECT: The captured loop parameters take effect at the first position boundary at least 16 ticks later (R195). -/
def execLoopApplyEffect (n : Fin 64) (s : State) : Host.Outcome State Fault Refusal :=
  .next (s.loopApplyRow n)

/-- INJ_START: A write of START starts the test-signal generator, or refuses it with ABORTED (R194). -/
def execInjStart (k : Fin 16) (s : State) : Host.Outcome State Fault Refusal :=
  .next (s.hostCmd (LPINJ_CFG k) fun s => s.injStart k)

/-- INJ_STOP: A write of STOP stops the test-signal generator (R200). -/
def execInjStop (k : Fin 16) (s : State) : Host.Outcome State Fault Refusal :=
  .next (s.hostCmd (LPINJ_CFG k) fun s => s.injStop k)

/-- INJ_DONE: The test-signal generator completes DUR runs and sets DONE (R194). -/
def execInjDone (k : Fin 16) (s : State) : Host.Outcome State Fault Refusal :=
  .next (s.injDoneRow k)

end Sys2Proof.Machine
end

