-- ==== Sys2Proof/Machine/LpRows.lean ====
section
/-! DEFINITION. The meanings of the commands of family Lp, one definition for each row of the opcode table. -/

namespace Sys2Proof.Machine

/-- LP_MEMORY_WRITE: A host write into LP local memory is accepted into the inactive bank or Morning data memory, or ignored and recorded (R271). -/
def execLpMemoryWrite (k : Fin 16) (i : Fin 65536) (v : Word) (s : State) : Host.Outcome State Fault Refusal :=
  .next (s.hostCmd (0x400000 + 0x40000 * k + 4 * i) fun s => s.lpMemWrite k i v)

/-- LP_VERIFYA: A write of VERIFYA starts verification of code bank A (R298). -/
def execLpVerifya (k : Fin 16) (s : State) : Host.Outcome State Fault Refusal :=
  .next (s.hostCmd (LP_CMD k) fun s => s.lpVerify k false)

/-- LP_VERIFYB: A write of VERIFYB starts verification of code bank B (R298). -/
def execLpVerifyb (k : Fin 16) (s : State) : Host.Outcome State Fault Refusal :=
  .next (s.hostCmd (LP_CMD k) fun s => s.lpVerify k true)

/-- VERIFY_DONE: A bank verification ends with VERIFIED or BAD, or is aborted by a write to the bank (R298). -/
def execVerifyDone (k : Fin 16) (s : State) : Host.Outcome State Fault Refusal :=
  .next (s.verifyDone k)

/-- LP_CLRCNT: A write of CLRCNT clears LPk_CNT (R304). -/
def execLpClrcnt (k : Fin 16) (s : State) : Host.Outcome State Fault Refusal :=
  .next (s.hostCmd (LP_CMD k) fun s => s.wrN (LP_CNT k) 0)

/-- LP_INTERRUPT: An enabled interrupt source is taken and the LP switches to the shadow set and the handler entry (R293). -/
def execLpInterrupt (k : Fin 16) (s : State) : Host.Outcome State Fault Refusal :=
  .next (s.lpInterrupt k)

/-- LP_FAULT: In the tick after a fault the LP abandons the run, records the cause and enters the recovery law, or halts (R296). -/
def execLpFault (k : Fin 16) (causes : BitVec 6) (s : State) : Host.Outcome State Fault Refusal :=
  .next (s.lpFault k causes.toNat)

/-- MAP_TREF_WRITE: Law code writes TREF, publishing the torque reference (R291). -/
def execMapTrefWrite (a : Fin 80) (v : Word) (s : State) : Host.Outcome State Fault Refusal :=
  .next (s.mapRow a 0x40 v)

/-- MAP_IQREF_WRITE: Law code writes IQREF, publishing the direct current references (R291). -/
def execMapIqrefWrite (a : Fin 80) (v : Word) (s : State) : Host.Outcome State Fault Refusal :=
  .next (s.mapRow a 0x48 v)

/-- MAP_ASTAMP_WRITE: Law code writes ASTAMP, publishing the angle, speed and stamp (R291). -/
def execMapAstampWrite (a : Fin 80) (v : Word) (s : State) : Host.Outcome State Fault Refusal :=
  .next (s.mapRow a 0x54 v)

/-- MAP_CMP4_WRITE: Law code writes CMP4 into the fourth leg's shadow (R290). -/
def execMapCmp4Write (a : Fin 80) (v : Word) (s : State) : Host.Outcome State Fault Refusal :=
  .next (s.mapRow a 0x58 v)

/-- MAP_CMPC_WRITE: Law code writes CMPC, commiting the axis's compare values (R290). -/
def execMapCmpcWrite (a : Fin 80) (v : Word) (s : State) : Host.Outcome State Fault Refusal :=
  .next (s.mapRow a 0x5C v)

/-- MAP_EVENT_WRITE: Law code writes EVENT and the value is raised as an event to the firmware (R290). -/
def execMapEventWrite (a : Fin 80) (v : Word) (s : State) : Host.Outcome State Fault Refusal :=
  .next (s.mapRow a 0x60 v)

end Sys2Proof.Machine
end

