-- ==== Sys2Proof/Machine/MolpinRows.lean ====
section
/-! DEFINITION. The meanings of the commands of family Molpin, one definition for each row of the opcode table. -/

namespace Sys2Proof.Machine

/-- MOLPIN_NOP: The NOP instruction does nothing for one cycle (R301). -/
def execMolpinNop (k : Fin 16) (s : State) : Host.Outcome State Fault Refusal :=
  .next (s.lpNop k)

/-- B: A delayed conditional branch instruction (R288). -/
def execB (k : Fin 16) (cc : BitVec 4) (t : BitVec 18) (s : State) : Host.Outcome State Fault Refusal :=
  .next (s.lpB k cc.toNat t.toNat)

/-- CALL: A delayed call instruction that pushes a return address (R288). -/
def execCall (k : Fin 16) (t : BitVec 18) (s : State) : Host.Outcome State Fault Refusal :=
  .next (s.lpCall k t.toNat)

/-- RET: A delayed return instruction (R288). -/
def execRet (k : Fin 16) (s : State) : Host.Outcome State Fault Refusal :=
  .next (s.lpRet k)

/-- REP: A hardware block-repeat instruction (R284). -/
def execRep (k : Fin 16) (c : LpCount) (last : BitVec 18) (s : State) : Host.Outcome State Fault Refusal :=
  .next (s.lpRep k c last.toNat)

/-- END: The instruction that ends a run (R289). -/
def execEnd_ (k : Fin 16) (s : State) : Host.Outcome State Fault Refusal :=
  .next (s.lpEndRow k)

/-- RTI: The instruction that ends a handler and returns to the main set (R293). -/
def execRti (k : Fin 16) (s : State) : Host.Outcome State Fault Refusal :=
  .next (s.lpRti k)

/-- ADD: 32-bit wrapping addition (R301). -/
def execAdd (k : Fin 16) (d : Fin 16) (src : AluSrc) (s : State) : Host.Outcome State Fault Refusal :=
  .next (lpAlu .add k d src s)

/-- SUB: 32-bit wrapping subtraction (R301). -/
def execSub (k : Fin 16) (d : Fin 16) (src : AluSrc) (s : State) : Host.Outcome State Fault Refusal :=
  .next (lpAlu .sub k d src s)

/-- AND: 32-bit bitwise and (R301). -/
def execAnd_ (k : Fin 16) (d : Fin 16) (src : AluSrc) (s : State) : Host.Outcome State Fault Refusal :=
  .next (lpAlu .and k d src s)

/-- OR: 32-bit bitwise or (R301). -/
def execOr_ (k : Fin 16) (d : Fin 16) (src : AluSrc) (s : State) : Host.Outcome State Fault Refusal :=
  .next (lpAlu .or k d src s)

/-- XOR: 32-bit bitwise exclusive or (R301). -/
def execXor_ (k : Fin 16) (d : Fin 16) (src : AluSrc) (s : State) : Host.Outcome State Fault Refusal :=
  .next (lpAlu .xor k d src s)

/-- ASR: 32-bit arithmetic shift right (R301). -/
def execAsr (k : Fin 16) (d : Fin 16) (src : AluSrc) (s : State) : Host.Outcome State Fault Refusal :=
  .next (lpAlu .asr k d src s)

/-- LSR: 32-bit logical shift right (R301). -/
def execLsr (k : Fin 16) (d : Fin 16) (src : AluSrc) (s : State) : Host.Outcome State Fault Refusal :=
  .next (lpAlu .lsr k d src s)

/-- LSL: 32-bit logical shift left (R301). -/
def execLsl (k : Fin 16) (d : Fin 16) (src : AluSrc) (s : State) : Host.Outcome State Fault Refusal :=
  .next (lpAlu .lsl k d src s)

/-- ADDS: Addition saturating to S32 (R301). -/
def execAdds (k : Fin 16) (d x y : Fin 16) (mv : Move) (s : State) : Host.Outcome State Fault Refusal :=
  .next (lpAlu .adds k d (.reg x y mv) s)

/-- SUBS: Subtraction saturating to S32 (R301). -/
def execSubs (k : Fin 16) (d x y : Fin 16) (mv : Move) (s : State) : Host.Outcome State Fault Refusal :=
  .next (lpAlu .subs k d (.reg x y mv) s)

/-- MIN: Minimum of two registers (R301). -/
def execMin (k : Fin 16) (d : Fin 16) (src : AluSrc) (s : State) : Host.Outcome State Fault Refusal :=
  .next (lpAlu .min k d src s)

/-- MAX: Maximum of two registers (R301). -/
def execMax (k : Fin 16) (d : Fin 16) (src : AluSrc) (s : State) : Host.Outcome State Fault Refusal :=
  .next (lpAlu .max k d src s)

/-- ABS: Absolute value (R301). -/
def execAbs (k : Fin 16) (d : Fin 16) (src : AluSrc) (s : State) : Host.Outcome State Fault Refusal :=
  .next (lpAlu .abs k d src s)

/-- NEG: Negation (R301). -/
def execNeg (k : Fin 16) (d : Fin 16) (src : AluSrc) (s : State) : Host.Outcome State Fault Refusal :=
  .next (lpAlu .neg k d src s)

/-- CMP: Compare, setting the ALU flags (R301). -/
def execCmp (k : Fin 16) (d : Fin 16) (src : AluSrc) (s : State) : Host.Outcome State Fault Refusal :=
  .next (lpAlu .cmp k d src s)

/-- MOV: Register or immediate move (R301). -/
def execMov (k : Fin 16) (d : Fin 16) (src : AluSrc) (s : State) : Host.Outcome State Fault Refusal :=
  .next (lpAlu .mov k d src s)

/-- LD: 32-bit load with address generation (R274). -/
def execLd (k : Fin 16) (d : Fin 16) (x : Fin 8) (m : AMode) (s : State) : Host.Outcome State Fault Refusal :=
  .next (s.lpLd k d x m)

/-- ST: 32-bit store with address generation (R274). -/
def execSt (k : Fin 16) (d : Fin 16) (x : Fin 8) (m : AMode) (s : State) : Host.Outcome State Fault Refusal :=
  .next (s.lpSt k d x m)

/-- LD64: 64-bit load into a D pair (R274). -/
def execLd64 (k : Fin 16) (p : Fin 8) (x : Fin 8) (m : AMode) (s : State) : Host.Outcome State Fault Refusal :=
  .next (s.lpLd64 k p x m)

/-- ST64: 64-bit store from a D pair (R274). -/
def execSt64 (k : Fin 16) (p : Fin 8) (x : Fin 8) (m : AMode) (s : State) : Host.Outcome State Fault Refusal :=
  .next (s.lpSt64 k p x m)

/-- MOVP: Two parallel moves and no other operation (R301). -/
def execMovp (k : Fin 16) (m1 m2 : Move2) (s : State) : Host.Outcome State Fault Refusal :=
  .next (s.lpMovp k m1 m2)

/-- MPY: Product into an accumulator (R277). -/
def execMpy (k : Fin 16) (am : Fin 4) (x y : Fin 16) (m1 m2 : Move2) (s : State) : Host.Outcome State Fault Refusal :=
  .next (lpMac .mpy k am x y m1 m2 s)

/-- MAC: Product added to an accumulator (R277). -/
def execMac (k : Fin 16) (am : Fin 4) (x y : Fin 16) (m1 m2 : Move2) (s : State) : Host.Outcome State Fault Refusal :=
  .next (lpMac .mac k am x y m1 m2 s)

/-- MSU: Product subtracted from an accumulator (R277). -/
def execMsu (k : Fin 16) (am : Fin 4) (x y : Fin 16) (m1 m2 : Move2) (s : State) : Host.Outcome State Fault Refusal :=
  .next (lpMac .msu k am x y m1 m2 s)

/-- MPYSU: Signed-by-unsigned product into an accumulator (R277). -/
def execMpysu (k : Fin 16) (am : Fin 4) (x y : Fin 16) (m1 m2 : Move2) (s : State) : Host.Outcome State Fault Refusal :=
  .next (lpMac .mpysu k am x y m1 m2 s)

/-- CMAC: Complex multiply-accumulate into an accumulator pair (R277). -/
def execCmac (k : Fin 16) (pair : Bool) (p q : Fin 8) (m1 m2 : Move2) (s : State) : Host.Outcome State Fault Refusal :=
  .next (lpCmac false k pair p q m1 m2 s)

/-- CMACC: Complex multiply-accumulate with the conjugate of the second operand (R277). -/
def execCmacc (k : Fin 16) (pair : Bool) (p q : Fin 8) (m1 m2 : Move2) (s : State) : Host.Outcome State Fault Refusal :=
  .next (lpCmac true k pair p q m1 m2 s)

/-- CLRA: Clear an accumulator (R301). -/
def execClra (k : Fin 16) (am : Fin 4) (mv : Move) (s : State) : Host.Outcome State Fault Refusal :=
  .next (s.lpClra k am mv)

/-- SHA: Shift an accumulator by up to ±63 (R301). -/
def execSha (k : Fin 16) (am : Fin 4) (left : Bool) (sh : Fin 64) (mv : Move) (s : State) : Host.Outcome State Fault Refusal :=
  .next (s.lpSha k am left sh mv)

/-- ADDA: Add a D pair to an accumulator (R301). -/
def execAdda (k : Fin 16) (am : Fin 4) (p : Fin 8) (mv : Move) (s : State) : Host.Outcome State Fault Refusal :=
  .next (s.lpAdda k am p mv)

/-- MOVR: Shift, round convergently and saturate an accumulator to S32 (R279). -/
def execMovr (k : Fin 16) (d : Fin 16) (am : Fin 4) (sh : LpCount) (mv : Move) (s : State) : Host.Outcome State Fault Refusal :=
  .next (s.lpMovr k d am sh mv)

/-- MOVR64: Shift, round convergently and saturate an accumulator to S64 (R279). -/
def execMovr64 (k : Fin 16) (p : Fin 8) (am : Fin 4) (sh : LpCount) (mv : Move) (s : State) : Host.Outcome State Fault Refusal :=
  .next (s.lpMovr64 k p am sh mv)

/-- MOVA: Move an accumulator part to a D register (R301). -/
def execMova (k : Fin 16) (d : Fin 16) (am : Fin 4) (part : AccPart) (mv : Move) (s : State) : Host.Outcome State Fault Refusal :=
  .next (s.lpMova k d am part mv)

/-- MOVTA: Move a D register to an accumulator part (R301). -/
def execMovta (k : Fin 16) (am : Fin 4) (d : Fin 16) (part : AccPart) (mv : Move) (s : State) : Host.Outcome State Fault Refusal :=
  .next (s.lpMovta k am d part mv)

/-- EXP: Measure the redundant sign bits of a register or accumulator (R281). -/
def execExp (k : Fin 16) (d : Fin 16) (src : ExpSrc) (mv : Move) (s : State) : Host.Outcome State Fault Refusal :=
  .next (s.lpExp k d src mv)

/-- NORM: Normalise an accumulator and write the shift (R281). -/
def execNorm (k : Fin 16) (am : Fin 4) (d : Fin 16) (mv : Move) (s : State) : Host.Outcome State Fault Refusal :=
  .next (s.lpNorm k am d mv)

/-- CMULR: Coefficient multiply with rounding and saturation as R10 states (R280). -/
def execCmulr (k : Fin 16) (d x y : Fin 16) (sh : Fin 64) (s : State) : Host.Outcome State Fault Refusal :=
  .next (s.lpCmulr k d x y sh)

/-- SINCOS: Cosine and sine of a U32 angle in Q1.30 (R282). -/
def execSincos (k : Fin 16) (p : Fin 8) (x : Fin 16) (s : State) : Host.Outcome State Fault Refusal :=
  .next (s.lpSincos k p x)

/-- DIVS: Saturating signed division in 34 cycles (R282). -/
def execDivs (k : Fin 16) (d x y : Fin 16) (f : Fin 32) (s : State) : Host.Outcome State Fault Refusal :=
  .next (s.lpDivs k d x y f)

/-- SETX: Write an address, base, length or step register (R301). -/
def execSetx (k : Fin 16) (kind i : Fin 8) (src : SetxSrc) (s : State) : Host.Outcome State Fault Refusal :=
  .next (s.lpSetx k kind i src)

/-- TBR: Read TB_TICK into a D pair (R301). -/
def execTbr (k : Fin 16) (p : Fin 8) (s : State) : Host.Outcome State Fault Refusal :=
  .next (s.lpTbr k p)

/-- MTSR: Write SR (R273). -/
def execMtsr (k : Fin 16) (d : Fin 16) (s : State) : Host.Outcome State Fault Refusal :=
  .next (s.lpMtsr k d)

/-- MFSR: Read SR (R273). -/
def execMfsr (k : Fin 16) (d : Fin 16) (s : State) : Host.Outcome State Fault Refusal :=
  .next (s.lpMfsr k d)

/-- CLRF: Clear the sticky flags of SR (R273). -/
def execClrf (k : Fin 16) (s : State) : Host.Outcome State Fault Refusal :=
  .next (s.lpClrf k)

/-- LDI32: Load a 32-bit immediate in two words (R301). -/
def execLdi32 (k : Fin 16) (d : Fin 16) (v : Word) (s : State) : Host.Outcome State Fault Refusal :=
  .next (s.lpLdi k d v)

/-- BL: Long branch in two words (R301). -/
def execBl (k : Fin 16) (t : Word) (s : State) : Host.Outcome State Fault Refusal :=
  .next (s.lpBl k t.toNat)

end Sys2Proof.Machine
end

