-- ==== Sys2Proof/Machine/MotionRows.lean ====
section
/-! DEFINITION. The meanings of the commands of family Motion, one definition for each row of the opcode table. -/

namespace Sys2Proof.Machine

/-- MOVE_END: t* passes the last segment of a move that ends at rest; the axis holds and BUSY clears (R113). -/
def execMoveEnd (n : Fin 80) (s : State) : Host.Outcome State Fault Refusal :=
  .next (s.trajectoryEnd n)

/-- REG_MISS: MISSLIM consecutive repeats pass without an accepted mark, setting MISS and holding the target (R163). -/
def execRegMiss (k : Fin 32) (s : State) : Host.Outcome State Fault Refusal :=
  .next (s.regMiss k s.now)

/-- LINE_SHAFT_COAST: The lag of the newest state reaches two frames, so the shaft coasts and COAST is set (R133). -/
def execLineShaftCoast (k : Fin 16) (s : State) : Host.Outcome State Fault Refusal :=
  .next (s.shaftFrame k)

/-- LINE_SHAFT_LOST: The lag exceeds LSCOAST, so LOST is set and every follower runs on the master's Dusk continuation (R134). -/
def execLineShaftLost (k : Fin 16) (s : State) : Host.Outcome State Fault Refusal :=
  .next (s.shaftFrame k)

/-- STOP_BOUNDARY: At the first frame boundary 64 ms after a STOP, the stop takes over and later segments are discarded (R119). -/
def execStopBoundary (s : State) : Host.Outcome State Fault Refusal :=
  .next s.stopBoundary

/-- CAM_ARM: A write of ARM to AXn_CAM arms a switch to NEXT at AXn_CAMSW (R143). -/
def execCamArm (n : Fin 80) (s : State) : Host.Outcome State Fault Refusal :=
  .next (s.hostCmd (AX_CAM n) fun s => s.camArm n)

end Sys2Proof.Machine
end

