-- ==== Sys2Proof/Machine/MoveCmdRows.lean ====
section
/-! DEFINITION. The meanings of the commands of family MoveCmd, one definition for each row of the opcode table. -/

namespace Sys2Proof.Machine

/-- SET_SOURCE: Command SET_SOURCE changes an axis's set-point source, checked against VSTEP in Noon (R121). -/
def execSetSource (c : Cmd) (s : State) : Host.Outcome State Fault Refusal :=
  .next (s.command c 0x0800 State.cmdSetSource)

/-- MOVE_PTP: Command MOVE_PTP plans a jerk-limited point-to-point move (R117). -/
def execMovePtp (c : Cmd) (s : State) : Host.Outcome State Fault Refusal :=
  .next (s.command c 0x0801 State.cmdMovePtp)

/-- MOVE_LINEAR: Command MOVE_LINEAR plans a straight path for a group (R117). -/
def execMoveLinear (c : Cmd) (s : State) : Host.Outcome State Fault Refusal :=
  .next (s.command c 0x0802 State.cmdMoveLinear)

/-- MOVE_CIRC: Command MOVE_CIRC plans an arc or helix for a group (R117). -/
def execMoveCirc (c : Cmd) (s : State) : Host.Outcome State Fault Refusal :=
  .next (s.command c 0x0803 State.cmdMoveCirc)

/-- MOVE_SPLINE: Command MOVE_SPLINE plans a cubic spline through host points (R117). -/
def execMoveSpline (c : Cmd) (s : State) : Host.Outcome State Fault Refusal :=
  .next (s.command c 0x0804 State.cmdMoveSpline)

/-- MOVE_PVT: Command MOVE_PVT plans Hermite segments through position-velocity-time points (R117). -/
def execMovePvt (c : Cmd) (s : State) : Host.Outcome State Fault Refusal :=
  .next (s.command c 0x0805 State.cmdMovePvt)

/-- STOP: Command STOP replans an axis or group to a jerk-limited stop (R119). -/
def execStop (c : Cmd) (s : State) : Host.Outcome State Fault Refusal :=
  .next (s.command c 0x0806 State.cmdStop)

/-- PHASE_MOVE: Command PHASE_MOVE starts or queues a superimposed phase move (R123). -/
def execPhaseMove (c : Cmd) (s : State) : Host.Outcome State Fault Refusal :=
  .next (s.command c 0x0807 State.cmdPhaseMove)

/-- GROUP_CONFIG: Command GROUP_CONFIG writes an axis group's registers as an image (R506). -/
def execGroupConfig (c : Cmd) (s : State) : Host.Outcome State Fault Refusal :=
  .next (s.command c 0x0808 State.cmdImage)

end Sys2Proof.Machine
end

