-- ==== Sys2Proof/Machine/NetCmdRows.lean ====
section
/-! DEFINITION. The meanings of the commands of family NetCmd, one definition for each row of the opcode table. -/

namespace Sys2Proof.Machine

/-- SWITCH_CONFIG: Command SWITCH_CONFIG writes a port's switch, gate list and SecY registers (R313). -/
def execSwitchConfig (c : Cmd) (s : State) : Host.Outcome State Fault Refusal :=
  .next (s.command c 0x1C00 State.cmdSwitchConfig)

/-- PTP_CONFIG: Command PTP_CONFIG sets the PTP servo parameters and profile (R329). -/
def execPtpConfig (c : Cmd) (s : State) : Host.Outcome State Fault Refusal :=
  .next (s.command c 0x1C01 State.cmdPtpConfig)

/-- PTP_CORRECT: Command PTP_CORRECT writes TRIM and an optional step from host software (R329). -/
def execPtpCorrect (c : Cmd) (s : State) : Host.Outcome State Fault Refusal :=
  .next (s.command c 0x1C02 State.cmdPtpCorrect)

/-- RAMAUX_TABLE: Command RAMAUX_TABLE writes publication or subscription entries (R376). -/
def execRamauxTable (c : Cmd) (s : State) : Host.Outcome State Fault Refusal :=
  .next (s.command c 0x1C03 State.cmdRamauxTable)

/-- EPOCH_ARM: Command EPOCH_ARM arms an epoch change and waits for activation (R358). -/
def execEpochArm (c : Cmd) (s : State) : Host.Outcome State Fault Refusal :=
  .next (s.command c 0x1C04 State.cmdEpochArm)

/-- RAMAUX_CONFIG: Command RAMAUX_CONFIG writes the Ramaux configuration registers (R351). -/
def execRamauxConfig (c : Cmd) (s : State) : Host.Outcome State Fault Refusal :=
  .next (s.command c 0x1C05 State.cmdRamauxConfig)

end Sys2Proof.Machine
end

