-- ==== Sys2Proof/Machine/NetRows.lean ====
section
/-! DEFINITION. The meanings of the commands of family Net, one definition for each row of the opcode table. -/

namespace Sys2Proof.Machine

/-- SWITCH_FRAME_RECEIVE: A frame enters a switch port and is forwarded cut-through or stored, or dropped (R308). -/
def execSwitchFrameReceive (p : Fin 4) (e : Fin 8) (f : EthFrame) (s : State) : Host.Outcome State Fault Refusal :=
  .next (s.switchFrame p e f)

/-- PORT_FRAME_TRANSMIT: A queued frame starts on an egress port when its gate allows the whole frame (R312). -/
def execPortFrameTransmit (p : Fin 3) (c e : Fin 8) (slot : Fin 48) (s : State) : Host.Outcome State Fault Refusal :=
  .next (s.portTransmit (p + 1) c e slot)

/-- GCL_CYCLE_START: A gate control list cycle starts and entry 0 applies (R311). -/
def execGclCycleStart (p : Fin 3) (s : State) : Host.Outcome State Fault Refusal :=
  .next (s.gclCycle (p + 1))

/-- GATE_INTERVAL_END: A gate control entry's interval ends and the next entry's gate states apply (R311). -/
def execGateIntervalEnd (p : Fin 3) (s : State) : Host.Outcome State Fault Refusal :=
  .next (s.gateEnd (p + 1))

/-- GCL_CHG: A write of CHG submits the administrative gate list, or refuses it with BADLIST (R313). -/
def execGclChg (p : Fin 3) (s : State) : Host.Outcome State Fault Refusal :=
  .next (s.hostCmd (GCL_CTRL (p + 1)) fun s => s.gclChg (p + 1))

/-- GCL_CHANGE_EFFECT: The administrative gate list becomes operational at the first qualifying cycle start (R313). -/
def execGclChangeEffect (p : Fin 3) (s : State) : Host.Outcome State Fault Refusal :=
  .next (s.gclEffect (p + 1))

/-- FRER_RESET: A stream that has received nothing for RSTO resets its history (R314). -/
def execFrerReset (i : Fin 64) (s : State) : Host.Outcome State Fault Refusal :=
  .next (s.frerReset i)

/-- LINK_UP: A port's link comes up and INGLAT and EGRLAT are loaded unless LATLOCK is set (R324). -/
def execLinkUp (p : Fin 3) (speed : Fin 4) (master : Bool) (s : State) : Host.Outcome State Fault Refusal :=
  .next (s.linkUp (p + 1) speed master)

/-- NT_TRIM_WRITE: A write of TRIM sets the rate of module time from the next tick, clamped to ±1 000 ppm (R319). -/
def execNtTrimWrite (v : Word) (s : State) : Host.Outcome State Fault Refusal :=
  hostWord s NT_TRIM v.toNat fun s => if s.isWatch then s else s.ntTrim v.toInt

/-- STEPGO: A write of STEPGO adds NT_STEP to module time in the next tick (R320). -/
def execStepgo (s : State) : Host.Outcome State Fault Refusal :=
  .next (s.hostCmd NT_CTRL fun s => if s.isWatch then s else s.stepGo)

/-- SETGO: A write of SETGO in Morning loads NT_SETSEC and NT_SETNS into module time (R320). -/
def execSetgo (s : State) : Host.Outcome State Fault Refusal :=
  .next (s.hostCmd NT_CTRL fun s => if s.isWatch then s else s.setGo)

/-- NT_NS_READ: A read of NT_NS latches NT_SEC and NT_FRAC for the requester (R335). -/
def execNtNsRead (r : Fin 10) (s : State) : Host.Outcome State Fault Refusal :=
  .next (s.ntNsRead r)

/-- LEAP_SECOND: At the end of the UTC day with LEAP61 or LEAP59 set, OFS changes by one and the flag clears (R322). -/
def execLeapSecond (s : State) : Host.Outcome State Fault Refusal :=
  .next s.leapSecond

/-- PTP_SERVO_UPDATE: The firmware servo writes TRIM, or steps, from a PTP measurement, or delivers it to the host (R329). -/
def execPtpServoUpdate (p : Fin 3) (offset delay : Word64) (seq : BitVec 16) (utc : Option (BitVec 16)) (s : State) : Host.Outcome State Fault Refusal :=
  .next (s.ptpMeasure (p + 1) offset.toInt delay.toInt seq.toNat (utc.map fun u => u.toInt))

/-- PTP_HOLDOVER: The grandmaster is lost, so SYNC reads holdover and TRIM is held (R329). -/
def execPtpHoldover (s : State) : Host.Outcome State Fault Refusal :=
  .next s.ptpHoldover

/-- SERVO_TIMEOUT: No host correction arrives for SRVTO seconds; TRIM is held and SRV_LATE set (R329). -/
def execServoTimeout (s : State) : Host.Outcome State Fault Refusal :=
  .next s.servoTimeout

/-- PPS_OUT_EDGE: Module time plus PPSOFS passes a whole second and PPS_OUT goes active (R330). -/
def execPpsOutEdge (s : State) : Host.Outcome State Fault Refusal :=
  .next s.ppsEdge

/-- PPS_OUT_END: PPS_OUT has been active for PPSW µs and returns to inactive (R330). -/
def execPpsOutEnd (s : State) : Host.Outcome State Fault Refusal :=
  .next s.ppsEnd

/-- PPS_IN_EDGE: An active edge on PPS_IN is stamped and sets PPSIN_NEW (R331). -/
def execPpsInEdge (e : Fin 8) (s : State) : Host.Outcome State Fault Refusal :=
  .next (s.ppsIn e)

/-- PORT_LINK_DOWN: An Ethernet port's link goes down and LINK clears (R337). -/
def execPortLinkDown (p : Fin 3) (s : State) : Host.Outcome State Fault Refusal :=
  .next (s.linkDown (p + 1))

end Sys2Proof.Machine
end

