-- ==== Sys2Proof/Machine/PacketRows.lean ====
section
/-! DEFINITION. The meanings of the commands of family Packet, one definition for each row of the opcode table. -/

namespace Sys2Proof.Machine

/-- NX2416_NOP: NX2416 packet NOP, translated to NOP (R520). -/
def execNx2416Nop (c : Cmd) (s : State) : Host.Outcome State Fault Refusal :=
  .next (s.packet c 0x8000)

/-- STATUS: NX2416 packet STATUS, translated to IDENTIFY (R520). -/
def execStatus (c : Cmd) (s : State) : Host.Outcome State Fault Refusal :=
  .next (s.packet c 0x8001)

/-- GO_RUN: NX2416 packet GO_RUN, translated to SET_STATE 2 (R520). -/
def execGoRun (c : Cmd) (s : State) : Host.Outcome State Fault Refusal :=
  .next (s.packet c 0x8010)

/-- GO_STOP: NX2416 packet GO_STOP, translated to SET_STATE 3 (R520). -/
def execGoStop (c : Cmd) (s : State) : Host.Outcome State Fault Refusal :=
  .next (s.packet c 0x8011)

/-- GO_CONFIG: NX2416 packet GO_CONFIG, translated to SET_STATE 1 (R520). -/
def execGoConfig (c : Cmd) (s : State) : Host.Outcome State Fault Refusal :=
  .next (s.packet c 0x8012)

/-- AXIS_ON_OFF: NX2416 packet AXIS_ON_OFF, translated to ENABLE (R520). -/
def execAxisOnOff (c : Cmd) (s : State) : Host.Outcome State Fault Refusal :=
  .next (s.packet c 0x8100)

/-- FAULT_RESET: NX2416 packet FAULT_RESET, translated to TRIP_CLEAR (R520). -/
def execFaultReset (c : Cmd) (s : State) : Host.Outcome State Fault Refusal :=
  .next (s.packet c 0x8101)

/-- MOVE_ABS: NX2416 packet MOVE_ABS, translated to MOVE_PTP (R520). -/
def execMoveAbs (c : Cmd) (s : State) : Host.Outcome State Fault Refusal :=
  .next (s.packet c 0x8200)

/-- MOVE_STOP: NX2416 packet MOVE_STOP, translated to STOP (R520). -/
def execMoveStop (c : Cmd) (s : State) : Host.Outcome State Fault Refusal :=
  .next (s.packet c 0x8201)

/-- GEAR_ON: NX2416 packet GEAR_ON, translated to GEAR (R520). -/
def execGearOn (c : Cmd) (s : State) : Host.Outcome State Fault Refusal :=
  .next (s.packet c 0x8300)

/-- GEAR_OFF: NX2416 packet GEAR_OFF, translated to SET_SOURCE hold (R520). -/
def execGearOff (c : Cmd) (s : State) : Host.Outcome State Fault Refusal :=
  .next (s.packet c 0x8301)

/-- OUT_WRITE: NX2416 packet OUT_WRITE, translated to IO_WRITE (R520). -/
def execOutWrite (c : Cmd) (s : State) : Host.Outcome State Fault Refusal :=
  .next (s.packet c 0x8900)

/-- IN_READ: NX2416 packet IN_READ, translated to IO_READ (R520). -/
def execInRead (c : Cmd) (s : State) : Host.Outcome State Fault Refusal :=
  .next (s.packet c 0x8901)

end Sys2Proof.Machine
end

