-- ==== Sys2Proof/Machine/PwmRows.lean ====
section
/-! DEFINITION. The meanings of the commands of family Pwm, one definition for each row of the opcode table. -/

namespace Sys2Proof.Machine

/-- PWM_COMMIT_CMPC: A write of CMPC captures the compare part of a leg group's shadow (R249). -/
def execPwmCommitCmpc (n : Fin 32) (s : State) : Host.Outcome State Fault Refusal :=
  .next (s.hostCmd (PWM_COMMIT n) fun s => s.pwmCmpc n)

/-- PWM_COMMIT_ALL: A write of ALL captures both parts of a leg group's shadow, unless a pending token holds the axis (R249). -/
def execPwmCommitAll (n : Fin 32) (s : State) : Host.Outcome State Fault Refusal :=
  .next (s.hostCmd (PWM_COMMIT n) fun s => s.pwmAll n)

/-- AUX_COMMIT_ALL: A write of ALL to PWMXj_COMMIT captures a standalone auxiliary leg's shadow (R249). -/
def execAuxCommitAll (j : Fin 8) (s : State) : Host.Outcome State Fault Refusal :=
  .next (s.hostCmd (PWMX_COMMIT j) fun s => s.auxCommit j)

/-- PWM_COMMIT_EFFECT: A captured commit takes effect at the first update boundary at least 2 ticks after the write (R248). -/
def execPwmCommitEffect (g : Fin 40) (s : State) : Host.Outcome State Fault Refusal :=
  .next (s.commitEffect g)

/-- AUX_PERIOD_START: A free-running standalone auxiliary leg starts its next period after PER ticks (R240). -/
def execAuxPeriodStart (j : Fin 8) (s : State) : Host.Outcome State Fault Refusal :=
  .next (s.auxStart j)

/-- TRIP_LAND_CHANGE: A trip land changes level; with TFILT = 0 an active edge is detected on the asynchronous path (R255). -/
def execTripLandChange (i : Fin 36) (lvl : Bool) (t32 : Nat) (s : State) : Host.Outcome State Fault Refusal :=
  .next (s.tripLand i lvl t32)

/-- TRIP_DETECT: A trip source is detected, the gates go to their off-state and TRIPPED, TRIPS and the stamp update (R255). -/
def execTripDetect (i : Fin 36) (s : State) : Host.Outcome State Fault Refusal :=
  .next (s.tripFiltered i)

/-- ATC_WINDOW_OPEN: A blanking window of ATCk opens at x + START and masks its trip sources (R257). -/
def execAtcWindowOpen (k : Fin 16) (s : State) : Host.Outcome State Fault Refusal :=
  .next (s.atcOpen k)

/-- ATC_WINDOW_CLOSE: A blanking window closes, and a source still active past its filter is detected (R258). -/
def execAtcWindowClose (k : Fin 16) (s : State) : Host.Outcome State Fault Refusal :=
  .next (s.atcClose k)

/-- ATC_SETTINGS_EFFECT: Writes to ATCk registers take effect at the next period start of the named source (R257). -/
def execAtcSettingsEffect (k : Fin 16) (s : State) : Host.Outcome State Fault Refusal :=
  .next (s.atcEffect k)

/-- PWM_TCLR: A write of TCLR to PWMn_CMD clears the axis's latched trips if every cause is inactive, otherwise it is refused (R260). -/
def execPwmTclr (n : Fin 32) (s : State) : Host.Outcome State Fault Refusal :=
  .next (s.hostCmd (PWM_CMD n) fun s => s.pwmTclr n)

/-- PWM_CLRFLAGS: A write of CLRFLAGS clears the W1C bits of PWMn_STAT (R267). -/
def execPwmClrflags (n : Fin 32) (s : State) : Host.Outcome State Fault Refusal :=
  .next (s.hostCmd (PWM_CMD n) fun s => s.pwmClrFlags n)

/-- PWM_CLRCNT: A write of CLRCNT clears PWMn_CNT (R267). -/
def execPwmClrcnt (n : Fin 32) (s : State) : Host.Outcome State Fault Refusal :=
  .next (s.hostCmd (PWM_CMD n) fun s => s.pwmClrCnt n)

/-- AUX_CLRFLAGS: A write of CLRFLAGS clears the W1C bits of PWMXj_STAT (R268). -/
def execAuxClrflags (j : Fin 8) (s : State) : Host.Outcome State Fault Refusal :=
  .next (s.hostCmd (PWMX_CMD j) fun s => s.auxClrFlags j)

/-- AUX_CLRCNT: A write of CLRCNT clears the counters of an auxiliary leg (R268). -/
def execAuxClrcnt (j : Fin 8) (s : State) : Host.Outcome State Fault Refusal :=
  .next (s.hostCmd (PWMX_CMD j) fun s => s)

/-- GTRIP_TCLR: A write of TCLR to GTRIPk_CMD clears a latched global trip or is refused (R263). -/
def execGtripTclr (k : Fin 4) (s : State) : Host.Outcome State Fault Refusal :=
  .next (s.hostCmd (GTRIP_CMD k) fun s => s.gtripTclr k)

/-- GTRIP_CLRCNT: A write of CLRCNT clears TRIPS of GTRIPk_STAT (R269). -/
def execGtripClrcnt (k : Fin 4) (s : State) : Host.Outcome State Fault Refusal :=
  .next (s.hostCmd (GTRIP_CMD k) fun s => s.gtripClrCnt k)

/-- PWM_EDGE: An ideal edge or its dead-time-delayed turn-on falls inside a span, switching a gate or suppressing a turn-on with DTSUP (R244). -/
def execPwmEdge (g : Fin 40) (i : Fin 4) (s : State) : Host.Outcome State Fault Refusal :=
  .next (s.pwmEdge g i)

end Sys2Proof.Machine
end

