-- ==== Sys2Proof/Machine/RamauxRows.lean ====
section
/-! DEFINITION. The meanings of the commands of family Ramaux, one definition for each row of the opcode table. -/

namespace Sys2Proof.Machine

/-- RAMAUX_TRANSMIT_SLOT: At TXSLOT the frame engine packs every publication in force into up to four cyclic frames (R348). -/
def execRamauxTransmitSlot (s : State) : Host.Outcome State Fault Refusal :=
  .next s.txSlot

/-- CYCLIC_FRAME_RECEIVE: An arriving cyclic Ramaux frame is checked block by block and its publications delivered (R353). -/
def execCyclicFrameReceive (f : List Byte) (s : State) : Host.Outcome State Fault Refusal :=
  .next (s.cyclicIn f)

/-- RAMAUX_ENABLE: A write of EN = 1 in RM_CFG is checked and the firmware writes the Ramaux gate control list (R351). -/
def execRamauxEnable (v : Word) (s : State) : Host.Outcome State Fault Refusal :=
  hostWord s RM_CFG v.toNat fun s => s.rmEnable v.toNat

/-- RM_NEXT_ARM: A write of ARM in RM_NEXT arms an epoch change, or refuses it with EPREFUSED (R358). -/
def execRmNextArm (s : State) : Host.Outcome State Fault Refusal :=
  .next (s.hostCmd RM_NEXT fun s => (s.epochArm (s.get RM_NEXT RM_NEXT_NEPOCH) (s.rd64N RM_ACTFRAME)).2)

/-- EPOCH_CHANGE: At the boundary of ACTFRAME the current epoch becomes NEPOCH (R358). -/
def execEpochChange (s : State) : Host.Outcome State Fault Refusal :=
  .next s.epochChange

/-- GRACE_END: GRACE frames after an epoch change pass, and old-epoch blocks are counted in EPOCHBAD again (R357). -/
def execGraceEnd (s : State) : Host.Outcome State Fault Refusal :=
  .next s.graceEnd

/-- RM_CLRCNT: A write of CLRCNT clears RM_CNT0–RM_CNT6 (R375). -/
def execRmClrcnt (s : State) : Host.Outcome State Fault Refusal :=
  .next (s.hostCmd RM_CMD fun s => s.rmClrCnt)

/-- BELL_NOTICE: A node rings an origin notice about itself in the bell window after the firmware's decision (R364). -/
def execBellNotice (s : State) : Host.Outcome State Fault Refusal :=
  .next s.bellNotice

/-- BELL_REPORT: After its hush a partner reports a lost origin in its slot, or suppresses the report (R365). -/
def execBellReport (origin : Fin 1024) (s : State) : Host.Outcome State Fault Refusal :=
  .next (s.bellReport origin)

/-- BELL_RECEIVE: A bell reaches a switch and is entered, merged or forwarded by the merge table (R366). -/
def execBellReceive (p : Fin 4) (b : Bell) (s : State) : Host.Outcome State Fault Refusal :=
  .next (s.bellIn p b)

/-- BELL_ENTRY_AGEOUT: A merge-table entry ages out BELLAGE frames after it was made (R366). -/
def execBellEntryAgeout (i : Fin 64) (s : State) : Host.Outcome State Fault Refusal :=
  .next (s.bellAgeout i)

/-- BELL_RECORD: At frame D + HUSH + 32 each involved module writes one Stud-book record per key (R368). -/
def execBellRecord (origin : Fin 1024) (s : State) : Host.Outcome State Fault Refusal :=
  .next (s.bellRecord origin)

end Sys2Proof.Machine
end

