-- ==== Sys2Proof/Machine/SafeRows.lean ====
section
/-! DEFINITION. The meanings of the commands of family Safe, one definition for each row of the opcode table. -/

namespace Sys2Proof.Machine

/-- SAFE_WDT_EXPIRE: No valid Ramaux Safe container arrives within WDT, so WDEXP is set and the channels react (R370). -/
def execSafeWdtExpire (c : Fin 32) (s : State) : Host.Outcome State Fault Refusal :=
  .next (s.safeGroup ((s.safeWdt c)))

/-- SAFETY_CYCLE: A safety channel samples, evaluates every function, cross-checks and drives its STO lines and outputs (R402). -/
def execSafetyCycle (b : Bool) (pos : List (Fin 40 × BitVec 40)) (bad : List (Fin 40)) (s : State) : Host.Outcome State Fault Refusal :=
  .next (s.safeGroup ((s.safetyCycle (b2n b) (pos.map fun x => (x.1.val, x.2.toInt)) (bad.map (·.val)))))

/-- SAFE_INPUT_ACCEPT: A safe input wire change passes FILT and becomes a demand or its end (R417). -/
def execSafeInputAccept (i : Fin 8) (wireB lvl : Bool) (s : State) : Host.Outcome State Fault Refusal :=
  .next (s.safeGroup ((s.safeInput i wireB lvl)))

/-- SAFE_INPUT_DISCREPANCY: The two wires of a safe input disagree for longer than DISC, setting DISCFLT (R418). -/
def execSafeInputDiscrepancy (i : Fin 8) (s : State) : Host.Outcome State Fault Refusal :=
  .next (s.safeGroup ((s.safeDiscrepancy i)))

/-- OFF_PULSE: A channel opens its switch of an on output for TPW every TPI and reads both sides back (R421). -/
def execOffPulse (b : Bool) (o : Fin 12) (good : Bool) (s : State) : Host.Outcome State Fault Refusal :=
  .next (s.safeGroup ((s.offPulse (b2n b) o good)))

/-- SAFE_RESET_EDGE: A falling edge of SAFE_RESET after a valid high is accepted by both channels, or ignored (R422). -/
def execSafeResetEdge (hiA hiB skew : Word) (s : State) : Host.Outcome State Fault Refusal :=
  .next (s.safeGroup ((s.safeResetEdge hiA.toNat hiB.toNat skew.toNat)))

/-- SAFE_RESET_LONG_HIGH: SAFE_RESET stays high for more than 3 s, so RSTFLT is set (R422). -/
def execSafeResetLongHigh (s : State) : Host.Outcome State Fault Refusal :=
  .next (s.safeGroup s.resetLongHigh)

/-- SWITCH_BANK_SAMPLE: Each channel samples the switch bank every 10 ms and acts on a confirmed change (R427). -/
def execSwitchBankSample (a b : BitVec 8) (s : State) : Host.Outcome State Fault Refusal :=
  .next (s.safeGroup ((s.switchSample a.toNat b.toNat)))

/-- SBC_DELAY_END: SBC_DLY after the first action, the brake output opens or the STO lines go low (R414). -/
def execSbcDelayEnd (n : Fin 32) (s : State) : Host.Outcome State Fault Refusal :=
  .next (s.safeGroup ((s.sbcDelayEnd n)))

/-- BRAKE_TEST_END: A brake test has held for BT_TIME and passes, fails, or is not counted (R415). -/
def execBrakeTestEnd (n : Fin 32) (iq : Word) (s : State) : Host.Outcome State Fault Refusal :=
  .next (s.safeGroup ((s.brakeTestEnd n iq.toInt)))

/-- BRAKE_TEST_OVERDUE: BT_INT hours pass without a passed test, so OVERDUE is set (R416). -/
def execBrakeTestOverdue (k : Fin 8) (s : State) : Host.Outcome State Fault Refusal :=
  .next (s.safeGroup ((s.brakeOverdue k)))

/-- BRAKE_TEST_LOCK: BT_GRACE hours after OVERDUE, LOCK is set (R416). -/
def execBrakeTestLock (k : Fin 8) (s : State) : Host.Outcome State Fault Refusal :=
  .next (s.safeGroup ((s.brakeLock k)))

/-- SAFETY_SUPPLY_LOSS: The safety die's own supply path fails, so channel B demands STO on its lines and the loss counts as a global fault (R409). -/
def execSafetySupplyLoss (s : State) : Host.Outcome State Fault Refusal :=
  .next (s.safeGroup s.safetySupplyLoss)

/-- SAFETY_CHANNEL_START: A safety channel ends its start-up and self-test after power-up or supply return, and CHA or CHB moves from starting to running or to fault (R434). -/
def execSafetyChannelStart (b good : Bool) (s : State) : Host.Outcome State Fault Refusal :=
  .next (s.safeGroup ((s.channelStart (b2n b) good)))

end Sys2Proof.Machine
end

