-- ==== Sys2Proof/Machine/SecCmdRows.lean ====
section
/-! DEFINITION. The meanings of the commands of family SecCmd, one definition for each row of the opcode table. -/

namespace Sys2Proof.Machine

/-- KEY_LOAD: Command KEY_LOAD loads or enrols a key after signature and unwrap checks (R589). -/
def execKeyLoad (c : Cmd) (s : State) : Host.Outcome State Fault Refusal :=
  .next (s.command c 0x3400 State.cmdKeyLoad)

/-- KEY_ERASE: Command KEY_ERASE erases a key slot under a signature (R590). -/
def execKeyErase (c : Cmd) (s : State) : Host.Outcome State Fault Refusal :=
  .next (s.command c 0x3401 State.cmdKeyErase)

/-- TAMPER_POLICY: Command TAMPER_POLICY writes the tamper policy under a signature (R590). -/
def execTamperPolicy (c : Cmd) (s : State) : Host.Outcome State Fault Refusal :=
  .next (s.command c 0x3402 State.cmdTamperPolicy)

/-- DEBUG_CHALLENGE: Command DEBUG_CHALLENGE returns a 96-bit challenge (R595). -/
def execDebugChallenge (c : Cmd) (s : State) : Host.Outcome State Fault Refusal :=
  .next (s.command c 0x3403 State.cmdDebugChallenge)

/-- DEBUG_OPEN: Command DEBUG_OPEN verifies the response, erases key SRAM and opens core debug (R595). -/
def execDebugOpen (c : Cmd) (s : State) : Host.Outcome State Fault Refusal :=
  .next (s.command c 0x3404 State.cmdDebugOpen)

/-- FW_WRITE: Command FW_WRITE writes part of a signed bundle into the inactive image (R518). -/
def execFwWrite (c : Cmd) (s : State) : Host.Outcome State Fault Refusal :=
  .next (s.command c 0x3C00 State.cmdFwWrite)

/-- FW_VERIFY: Command FW_VERIFY checks the inactive firmware image's signature (R592). -/
def execFwVerify (c : Cmd) (s : State) : Host.Outcome State Fault Refusal :=
  .next (s.command c 0x3C01 State.cmdFwVerify)

/-- FW_RESTART: Command FW_RESTART restarts the yard cores on the other image (R395). -/
def execFwRestart (c : Cmd) (s : State) : Host.Outcome State Fault Refusal :=
  .next (s.command c 0x3C02 State.cmdFwRestart)

/-- LP_IMAGE: Command LP_IMAGE writes a signed image into an LP's inactive bank and verifies it (R592). -/
def execLpImage (c : Cmd) (s : State) : Host.Outcome State Fault Refusal :=
  .next (s.command c 0x3C03 State.cmdLpImage)

/-- SAFETY_SLOT: Command SAFETY_SLOT stores a safety parameter set in a slot (R426). -/
def execSafetySlot (c : Cmd) (s : State) : Host.Outcome State Fault Refusal :=
  .next (s.command c 0x3C04 State.cmdSafetySlot)

end Sys2Proof.Machine
end

