-- ==== Sys2Proof/Machine/SecRows.lean ====
section
/-! DEFINITION. The meanings of the commands of family Sec, one definition for each row of the opcode table. -/

namespace Sys2Proof.Machine

/-- ACTIVE_RELEASE: The Active releases ACT_OUT on a hardware or firmware release cause (R390). -/
def execActiveRelease (s : State) : Host.Outcome State Fault Refusal :=
  .next s.activeRelease

/-- CHALLENGE_EXPIRY: A debug challenge expires 60 s after it was issued (R595). -/
def execChallengeExpiry (s : State) : Host.Outcome State Fault Refusal :=
  .next s.challengeExpiry

/-- TAMPER_ALARM: A tamper sensor raises an alarm and the policy is applied within 5 µs (R594). -/
def execTamperAlarm (sensors : BitVec 5) (utc : Word64) (s : State) : Host.Outcome State Fault Refusal :=
  .next (s.tamperAlarm sensors.toNat utc.toNat)

/-- SEC_POLICY_WRITE: An expert write of SEC_POLICY may only raise a sensor's policy (R594). -/
def execSecPolicyWrite (v : Word) (s : State) : Host.Outcome State Fault Refusal :=
  hostWord s SEC_POLICY v.toNat fun s => s.secPolicyWrite v.toNat

/-- SEC_CLRCNT: A write of CLRCNT clears INT_CNT0 and INT_CNT1 (R600). -/
def execSecClrcnt (s : State) : Host.Outcome State Fault Refusal :=
  .next (s.hostCmd SEC_CMD fun s => (s.wrN SEC_INTCNT0 0).wrN SEC_INTCNT1 0)

/-- SVN_ADVANCE: After 60 s of running a restarted bundle, the fuse SVN is raised to its SVN (R592). -/
def execSvnAdvance (s : State) : Host.Outcome State Fault Refusal :=
  .next s.svnAdvance

/-- UNCORRECTABLE_ERROR: An uncorrectable memory or fabric error is counted, raises an event and may release ACT_OUT (R596). -/
def execUncorrectableError (m : MemPart) (s : State) : Host.Outcome State Fault Refusal :=
  .next (s.uncorrectable m)

/-- ECC_CORRECTED: A single-bit ECC error or a fabric parity error is corrected or repeated and counted in INT_CNT0 or INT_CNT1 (R596). -/
def execEccCorrected (m : MemPart) (s : State) : Host.Outcome State Fault Refusal :=
  .next (s.eccCorrected m)

end Sys2Proof.Machine
end

