-- ==== Sys2Proof/Machine/StartupRows.lean ====
section
/-! DEFINITION. The meanings of the commands of family Startup, one definition for each row of the opcode table. -/

namespace Sys2Proof.Machine

/-- POWER_ON_RESET: VIN rises through 10.2 V after being below 5.0 V and the whole main die is put into reset (R601). -/
def execPowerOnReset (s : State) : Host.Outcome State Fault Refusal :=
  .next s.powerOn

/-- BROWN_OUT: VIN falls below 9.8 V for more than 2 µs without falling below 5.0 V, causing a module reset (R601). -/
def execBrownOut (s : State) : Host.Outcome State Fault Refusal :=
  .next s.brownOut

/-- CLOCK_RESET: PLL LOCK stays 0 for 100 µs on the TCXO, causing a module reset (R601). -/
def execClockReset (s : State) : Host.Outcome State Fault Refusal :=
  .next s.clockReset

/-- RESET_RELEASE: Reset is released once VIN has stayed at or above 10.2 V for 10 ms and all internal rails are good (R603). -/
def execResetRelease (s : State) : Host.Outcome State Fault Refusal :=
  .next s.resetRelease

/-- PLL_LOCK: The PLL locks after reset release and the dividers leave reset together at tick 0 of TB_TICK (R17). -/
def execPllLock (s : State) : Host.Outcome State Fault Refusal :=
  .next s.pllLock

/-- DRAM_INIT_DONE: The hardware finishes initialising DRAM with inline ECC (R604). -/
def execDramInitDone (bad : Bool) (s : State) : Host.Outcome State Fault Refusal :=
  .next (s.dramDone bad)

/-- BOOT_IMAGE_SELECT: The boot ROM verifies the preferred yard image, falls back to the other one if needed, or sets BOOTFAIL (R605). -/
def execBootImageSelect (pref other : BootImage) (s : State) : Host.Outcome State Fault Refusal :=
  .next (s.bootSelect pref other)

/-- FIRMWARE_START: The firmware starts, loads module time from the calendar clock and writes POWER_UP (R604). -/
def execFirmwareStart (utc : Option Word64) (torn : Bool) (s : State) : Host.Outcome State Fault Refusal :=
  .next (s.firmwareStart utc torn)

/-- SELF_TEST_DONE: The Dawn self-tests end; failed LPs are halted, or the module stays in Dawn (R606). -/
def execSelfTestDone (sram fabric pwm : Bool) (cle : Byte) (lp : BitVec 16) (s : State) : Host.Outcome State Fault Refusal :=
  .next (s.selfTest sram fabric pwm cle lp)

/-- MORNING_ENTRY: The module enters Morning at the first frame boundary at which DRAM init, the self-tests and the bank A verifications are complete (R604). -/
def execMorningEntry (s : State) : Host.Outcome State Fault Refusal :=
  .next s.morningEntry

/-- STATE_CHANGE: A decided or commanded transition between operating states takes effect at a frame boundary, or in the tick of the cause for Night and Dawn (R607). -/
def execStateChange (s : State) : Host.Outcome State Fault Refusal :=
  .next s.stateChange

/-- FIRMWARE_STATE_DECISION: The firmware decides Dusk or Night on an escalated event such as a global safety fault or a lost line shaft (R610). -/
def execFirmwareStateDecision (s : State) : Host.Outcome State Fault Refusal :=
  .next s.firmwareDecision

/-- YARD_WATCHDOG_EXPIRE: The yard-core watchdog expires; the first expiry restarts the firmware and a second within 60 s resets the module (R607). -/
def execYardWatchdogExpire (s : State) : Host.Outcome State Fault Refusal :=
  .next s.yardWatchdog

/-- SYS_RESET_WRITE: A write of KEY 0xDA57 to SYS_RESET in Morning or Night causes a module reset with cause 0x05 (R613). -/
def execSysResetWrite (v : Word) (s : State) : Host.Outcome State Fault Refusal :=
  hostWord s SYS_RESET v.toNat fun s => s.sysReset v.toNat

/-- REF_LOST: Eight consecutive missing REF_IN periods move the PLL phase-continuously to the TCXO and set REF_LOST (R19). -/
def execRefLost (s : State) : Host.Outcome State Fault Refusal :=
  .next s.refLost

/-- REF_RETURN: With AUTO_RET set, REF_IN good for 1 s returns the PLL to REF_IN (R19). -/
def execRefReturn (s : State) : Host.Outcome State Fault Refusal :=
  .next s.refReturn

/-- REF_IN_ACQUIRE: After SRC names REF_IN, a run of 8 good reference periods moves the PLL onto REF_IN (R19). -/
def execRefInAcquire (s : State) : Host.Outcome State Fault Refusal :=
  .next s.refAcquire

/-- SYS_CLK_WRITE: A write of SYS_CLK updates SRC in Morning only, writes AUTO_RET and clears REF_LOST by W1C (R20). -/
def execSysClkWrite (v : Word) (s : State) : Host.Outcome State Fault Refusal :=
  hostWord s SYS_CLK v.toNat fun s => s.sysClk v.toNat

/-- FIRMWARE_RESTART_DONE: The yard cores finish restarting on the other image, resume the rings and write a record (R395). -/
def execFirmwareRestartDone (ok : Bool) (svn : Word) (s : State) : Host.Outcome State Fault Refusal :=
  .next (s.restartDone ok svn)

/-- POWER_LOSS: VIN falls below 5.0 V or is removed; the main die goes into reset with gates and STO lines low, the battery domain moves to VBAT and unprogrammed records are lost (R21). -/
def execPowerLoss (vbat : Bool) (s : State) : Host.Outcome State Fault Refusal :=
  .next (s.powerLoss vbat)

end Sys2Proof.Machine
end

