-- ==== Sys2Proof/Machine/SysCmdRows.lean ====
section
/-! DEFINITION. The meanings of the commands of family SysCmd, one definition for each row of the opcode table. -/

namespace Sys2Proof.Machine

/-- NOP: Command NOP completes OK (R512). -/
def execNop (c : Cmd) (s : State) : Host.Outcome State Fault Refusal :=
  .next (s.command c 0x0000 State.cmdNop)

/-- IDENTIFY: Command IDENTIFY returns SYS_ID, firmware version, state and role (R512). -/
def execIdentify (c : Cmd) (s : State) : Host.Outcome State Fault Refusal :=
  .next (s.command c 0x0001 State.cmdIdentify)

/-- ABORT: Command ABORT removes or ends a named command at its abort point (R494). -/
def execAbort (c : Cmd) (s : State) : Host.Outcome State Fault Refusal :=
  .next (s.command c 0x0002 State.cmdAbort)

/-- SET_STATE: Command SET_STATE requests a transition to Morning, Noon or Dusk (R607). -/
def execSetState (c : Cmd) (s : State) : Host.Outcome State Fault Refusal :=
  .next (s.command c 0x0003 State.cmdSetState)

/-- EXPERT: Command EXPERT enables or disables expert access per class (R27). -/
def execExpert (c : Cmd) (s : State) : Host.Outcome State Fault Refusal :=
  .next (s.command c 0x0004 State.cmdExpert)

/-- SET_HAMODE: Command SET_HAMODE selects host-assisted functions and streamed axes in Morning (R496). -/
def execSetHamode (c : Cmd) (s : State) : Host.Outcome State Fault Refusal :=
  .next (s.command c 0x0005 State.cmdSetHamode)

/-- TOKEN: Command TOKEN fills and arms a commit token and waits for its execution (R62). -/
def execToken (c : Cmd) (s : State) : Host.Outcome State Fault Refusal :=
  .next (s.command c 0x0006 State.cmdToken)

/-- SET_CLOCK: Command SET_CLOCK writes SRC and AUTO_RET in Morning (R20). -/
def execSetClock (c : Cmd) (s : State) : Host.Outcome State Fault Refusal :=
  .next (s.command c 0x0007 State.cmdSetClock)

/-- ASSIGN: Command ASSIGN moves an axis to an LP within the load budget (R24). -/
def execAssign (c : Cmd) (s : State) : Host.Outcome State Fault Refusal :=
  .next (s.command c 0x0008 State.cmdAssign)

/-- READ_REG: Command READ_REG copies BAR0 words into the result buffer (R512). -/
def execReadReg (c : Cmd) (s : State) : Host.Outcome State Fault Refusal :=
  .next (s.command c 0x0009 State.cmdReadReg)

/-- HOLD_TORQUE_END: The holding torque is released at the end of its duration or of the test (R512). -/
def execHoldTorqueEnd (n : Fin 32) (s : State) : Host.Outcome State Fault Refusal :=
  .next (s.holdTorqueEnd n)

end Sys2Proof.Machine
end

