-- ==== Sys2Proof/Machine/TimebaseRows.lean ====
section
/-! DEFINITION. The meanings of the commands of family Timebase, one definition for each row of the opcode table. -/

namespace Sys2Proof.Machine

/-- FRAME_BOUNDARY: The timebase places a frame boundary at its module-time instant, with the correction of R47 (R45). -/
def execFrameBoundary (s : State) : Host.Outcome State Fault Refusal :=
  .next s.frameBoundary

/-- FRAME_LENGTH_WRITE: A write of M in TB_FRAME in Morning re-phases the frame grid (R48). -/
def execFrameLengthWrite (v : Word) (s : State) : Host.Outcome State Fault Refusal :=
  hostWord s TB_FRAME v.toNat fun s => s.regStore TB_FRAME v.toNat

/-- POSITION_BOUNDARY: A position boundary of an axis falls, and its position law joins the LP queue (R49). -/
def execPositionBoundary (n : Fin 80) (s : State) : Host.Outcome State Fault Refusal :=
  .next (s.positionBoundary n)

/-- VELOCITY_BOUNDARY: A velocity boundary of a local axis falls, and its velocity law joins the LP queue (R49). -/
def execVelocityBoundary (n : Fin 32) (s : State) : Host.Outcome State Fault Refusal :=
  .next (s.velocityBoundary n)

/-- CURRENT_UPDATE_BOUNDARY: A current-update boundary of a local axis falls; new compare values act and PWM periods or halves start (R49). -/
def execCurrentUpdateBoundary (n : Fin 32) (s : State) : Host.Outcome State Fault Refusal :=
  .next (s.currentBoundary n)

/-- TB_CHANGE_EFFECT: A change to AXn_TB or AXn_PHASE takes effect at the next frame boundary (R50). -/
def execTbChangeEffect (n : Fin 80) (s : State) : Host.Outcome State Fault Refusal :=
  .next (s.tbEffect n)

/-- POSITION_RUN: An LP runs the position law of an axis: set-point, error, PID, feed-forward, supervision and hand-over (R178). -/
def execPositionRun (n : Fin 32) (s : State) : Host.Outcome State Fault Refusal :=
  .next (s.positionRun n)

/-- VELOCITY_RUN: An LP runs the velocity law of a local axis and hands the torque reference to the CLE (R180). -/
def execVelocityRun (n : Fin 32) (s : State) : Host.Outcome State Fault Refusal :=
  .next (s.velocityRun n)

/-- NETWORK_RUN: An LP runs the network column for a network axis when the drive's publication arrives (R188). -/
def execNetworkRun (i : Fin 32) (s : State) : Host.Outcome State Fault Refusal :=
  .next (s.networkRun (32 + i))

/-- VIRTUAL_RUN: An LP runs the position law of a virtual axis (R137). -/
def execVirtualRun (j : Fin 16) (s : State) : Host.Outcome State Fault Refusal :=
  .next (s.virtualRun (64 + j))

/-- OVERHEAD_RUN: An LP runs its per-frame overhead work (R289). -/
def execOverheadRun (k : Fin 16) (s : State) : Host.Outcome State Fault Refusal :=
  .next (s.overheadRun k)

/-- RECOVERY_LAW_RUN: An LP in RECOVERY runs the recovery law at a position boundary, bringing its axes to Dusk or torque-off (R296). -/
def execRecoveryLawRun (n : Fin 80) (s : State) : Host.Outcome State Fault Refusal :=
  .next (s.recoveryRow n)

/-- LATE_CLR: A write of CLR to AXn_LATE clears COUNT, RUN and the MAX of AXn_LAT (R59). -/
def execLateClr (n : Fin 80) (s : State) : Host.Outcome State Fault Refusal :=
  .next (s.hostCmd (AX_LATE n) fun s => s.lateClr n)

/-- CTOK_ARM: A write of ARM to CTOKk_CTRL arms a commit token, or refuses it for a passed target or an unready member (R62). -/
def execCtokArm (k : Fin 8) (s : State) : Host.Outcome State Fault Refusal :=
  .next (s.hostCmd (CTOK_CTRL k) fun s => s.tokenArm k)

/-- CTOK_CANCEL: A write of CANCEL cancels a pending token unless fewer than 16 ticks remain (R64). -/
def execCtokCancel (k : Fin 8) (s : State) : Host.Outcome State Fault Refusal :=
  .next (s.hostCmd (CTOK_CTRL k) fun s => s.tokenCancel k)

/-- TOKEN_EXECUTE: A pending token executes at its target frame boundary, switching every member or none (R63). -/
def execTokenExecute (k : Fin 8) (s : State) : Host.Outcome State Fault Refusal :=
  .next (s.tokenExecute k)

end Sys2Proof.Machine
end

