-- ==== Sys2Proof/Machine/TwinCmdRows.lean ====
section
/-! DEFINITION. The meanings of the commands of family TwinCmd, one definition for each row of the opcode table. -/

namespace Sys2Proof.Machine

/-- TWIN_CONFIG: Command TWIN_CONFIG writes the pair configuration (R506). -/
def execTwinConfig (c : Cmd) (s : State) : Host.Outcome State Fault Refusal :=
  .next (s.command c 0x3800 State.cmdImage)

/-- TWIN_START: Command TWIN_START names the module Active or Watch in Morning (R379). -/
def execTwinStart (c : Cmd) (s : State) : Host.Outcome State Fault Refusal :=
  .next (s.command c 0x3801 State.cmdTwinStart)

/-- JOIN: Command JOIN sends a full snapshot to a joining Watch (R388). -/
def execJoin (c : Cmd) (s : State) : Host.Outcome State Fault Refusal :=
  .next (s.command c 0x3802 State.cmdJoin)

/-- HANDOVER: Command HANDOVER arms a handover at HOFRAME and waits for the release (R393). -/
def execHandover (c : Cmd) (s : State) : Host.Outcome State Fault Refusal :=
  .next (s.command c 0x3803 State.cmdHandover)

end Sys2Proof.Machine
end

