-- ==== Sys2Proof/Machine/TwinRows.lean ====
section
/-! DEFINITION. The meanings of the commands of family Twin, one definition for each row of the opcode table. -/

namespace Sys2Proof.Machine

/-- ACT_OUT_ASSERT: ACT_IN has read deasserted for W ticks and the module asserts ACT_OUT, becoming Active (R379). -/
def execActOutAssert (s : State) : Host.Outcome State Fault Refusal :=
  .next s.actOutAssert

/-- ACT_CONFLICT: ACT_IN reads asserted while ACT_OUT is asserted, and the non-primary module releases (R380). -/
def execActConflict (s : State) : Host.Outcome State Fault Refusal :=
  .next s.actConflict

/-- KEEPER_EXPIRY: No heartbeat has been sent for 800 ticks and the keeper deasserts ACT_OUT (R381). -/
def execKeeperExpiry (s : State) : Host.Outcome State Fault Refusal :=
  .next s.keeperExpiry

/-- HEARTBEAT_SEND: Every 400 ticks a heartbeat frame is sent on both Tack lanes (R383). -/
def execHeartbeatSend (s : State) : Host.Outcome State Fault Refusal :=
  .next s.heartbeat

/-- TACK_FRAME_RECEIVE: A Tack-line frame arrives at the twin and is checked and processed by its type (R382). -/
def execTackFrameReceive (crcOk : Bool) (f : TackFrame) (s : State) : Host.Outcome State Fault Refusal :=
  .next (s.tackReceive crcOk f)

/-- TACK_LOST: No valid Tack frame arrives within HBTO, so TACK_LOST is set (R389). -/
def execTackLost (s : State) : Host.Outcome State Fault Refusal :=
  .next s.tackLostRow

/-- HANDOVER_GO: A write of GO arms a handover at HOFRAME, or refuses it with HOREF (R393). -/
def execHandoverGo (s : State) : Host.Outcome State Fault Refusal :=
  .next (s.hostCmd TW_HO fun s => s.handoverGo.2)

/-- HANDOVER_RELEASE: At the boundary of HOFRAME the Active releases ACT_OUT after running that boundary's actions (R393). -/
def execHandoverRelease (s : State) : Host.Outcome State Fault Refusal :=
  .next s.handoverRelease

/-- TW_CLRFLAGS: A write of CLRFLAGS clears the W1C bits of TW_STAT (R399). -/
def execTwClrflags (s : State) : Host.Outcome State Fault Refusal :=
  .next (s.hostCmd TW_CMD fun s => s.twClrFlags)

/-- TW_CLRCNT: A write of CLRCNT clears TW_CNT0–TW_CNT2 (R399). -/
def execTwClrcnt (s : State) : Host.Outcome State Fault Refusal :=
  .next (s.hostCmd TW_CMD fun s => s.twClrCnt)

/-- TACK_LANE_DOWN: A Tack lane goes down, its LANE bit clears and every frame moves to the other lane (R383). -/
def execTackLaneDown (k : Fin 2) (s : State) : Host.Outcome State Fault Refusal :=
  .next (s.lane k false)

/-- TACK_LANE_UP: A Tack lane comes up and its LANE bit sets (R383). -/
def execTackLaneUp (k : Fin 2) (s : State) : Host.Outcome State Fault Refusal :=
  .next (s.lane k true)

end Sys2Proof.Machine
end

