-- ==== Sys2Proof/Machine/Dispatch.lean ====
section
/-! DEFINITION. What a command does: one direct call of its meaning for each constructor. -/

namespace Sys2Proof.Machine

def exec (i : Instr) (s : State) : Host.Outcome State Fault Refusal :=
  match i with
  | .powerOnReset => Sys2Proof.Machine.execPowerOnReset s
  | .brownOut => Sys2Proof.Machine.execBrownOut s
  | .clockReset => Sys2Proof.Machine.execClockReset s
  | .resetRelease => Sys2Proof.Machine.execResetRelease s
  | .pllLock => Sys2Proof.Machine.execPllLock s
  | .dramInitDone bad => Sys2Proof.Machine.execDramInitDone bad s
  | .bootImageSelect pref other => Sys2Proof.Machine.execBootImageSelect pref other s
  | .firmwareStart utc torn => Sys2Proof.Machine.execFirmwareStart utc torn s
  | .selfTestDone sram fabric pwm cle lp => Sys2Proof.Machine.execSelfTestDone sram fabric pwm cle lp s
  | .morningEntry => Sys2Proof.Machine.execMorningEntry s
  | .stateChange => Sys2Proof.Machine.execStateChange s
  | .firmwareStateDecision => Sys2Proof.Machine.execFirmwareStateDecision s
  | .yardWatchdogExpire => Sys2Proof.Machine.execYardWatchdogExpire s
  | .sysResetWrite v => Sys2Proof.Machine.execSysResetWrite v s
  | .refLost => Sys2Proof.Machine.execRefLost s
  | .refReturn => Sys2Proof.Machine.execRefReturn s
  | .refInAcquire => Sys2Proof.Machine.execRefInAcquire s
  | .sysClkWrite v => Sys2Proof.Machine.execSysClkWrite v s
  | .bar0ReadLowWord r a => Sys2Proof.Machine.execBar0ReadLowWord r a s
  | .bar0ReadHighWord r a => Sys2Proof.Machine.execBar0ReadHighWord r a s
  | .bar0WriteLowWord r a v => Sys2Proof.Machine.execBar0WriteLowWord r a v s
  | .bar0WriteHighWord r a v => Sys2Proof.Machine.execBar0WriteHighWord r a v s
  | .unmappedAccess r a write odd => Sys2Proof.Machine.execUnmappedAccess r a write odd s
  | .registerWrite r a v => Sys2Proof.Machine.execRegisterWrite r a v s
  | .badaccClr r => Sys2Proof.Machine.execBadaccClr r s
  | .bar2Write o data => Sys2Proof.Machine.execBar2Write o data s
  | .frameBoundary => Sys2Proof.Machine.execFrameBoundary s
  | .frameLengthWrite v => Sys2Proof.Machine.execFrameLengthWrite v s
  | .positionBoundary n => Sys2Proof.Machine.execPositionBoundary n s
  | .velocityBoundary n => Sys2Proof.Machine.execVelocityBoundary n s
  | .currentUpdateBoundary n => Sys2Proof.Machine.execCurrentUpdateBoundary n s
  | .tbChangeEffect n => Sys2Proof.Machine.execTbChangeEffect n s
  | .positionRun n => Sys2Proof.Machine.execPositionRun n s
  | .moveEnd n => Sys2Proof.Machine.execMoveEnd n s
  | .regMiss k => Sys2Proof.Machine.execRegMiss k s
  | .velocityRun n => Sys2Proof.Machine.execVelocityRun n s
  | .networkRun i0 => Sys2Proof.Machine.execNetworkRun i0 s
  | .virtualRun j => Sys2Proof.Machine.execVirtualRun j s
  | .overheadRun k => Sys2Proof.Machine.execOverheadRun k s
  | .recoveryLawRun n => Sys2Proof.Machine.execRecoveryLawRun n s
  | .lateClr n => Sys2Proof.Machine.execLateClr n s
  | .ctokArm k => Sys2Proof.Machine.execCtokArm k s
  | .ctokCancel k => Sys2Proof.Machine.execCtokCancel k s
  | .tokenExecute k => Sys2Proof.Machine.execTokenExecute k s
  | .pairTransition w neg lvl t32 => Sys2Proof.Machine.execPairTransition w neg lvl t32 s
  | .levelAccepted n pair => Sys2Proof.Machine.execLevelAccepted n pair s
  | .stillTimeout n => Sys2Proof.Machine.execStillTimeout n s
  | .wireFault n pair => Sys2Proof.Machine.execWireFault n pair s
  | .presetApply n => Sys2Proof.Machine.execPresetApply n s
  | .portSettingsEffect n => Sys2Proof.Machine.execPortSettingsEffect n s
  | .ssiFrameStart n => Sys2Proof.Machine.execSsiFrameStart n s
  | .ssiFrameEnd n hi lo mono => Sys2Proof.Machine.execSsiFrameEnd n hi lo mono s
  | .portLoad n => Sys2Proof.Machine.execPortLoad n s
  | .portReval n => Sys2Proof.Machine.execPortReval n s
  | .portRearm n => Sys2Proof.Machine.execPortRearm n s
  | .portClrflags n => Sys2Proof.Machine.execPortClrflags n s
  | .portClrcnt n => Sys2Proof.Machine.execPortClrcnt n s
  | .latchEdge n => Sys2Proof.Machine.execLatchEdge n s
  | .latchEntryComplete n => Sys2Proof.Machine.execLatchEntryComplete n s
  | .latchPop n => Sys2Proof.Machine.execLatchPop n s
  | .latchClr n => Sys2Proof.Machine.execLatchClr n s
  | .latchClrcnt n => Sys2Proof.Machine.execLatchClrcnt n s
  | .coArm n start => Sys2Proof.Machine.execCoArm n start s
  | .coDisarm n => Sys2Proof.Machine.execCoDisarm n s
  | .coClrcnt n => Sys2Proof.Machine.execCoClrcnt n s
  | .compareRamWrite j v => Sys2Proof.Machine.execCompareRamWrite j v s
  | .comparePulseEnd n => Sys2Proof.Machine.execComparePulseEnd n s
  | .regClrtgt k => Sys2Proof.Machine.execRegClrtgt k s
  | .loopApply n => Sys2Proof.Machine.execLoopApply n s
  | .loopApplyEffect n => Sys2Proof.Machine.execLoopApplyEffect n s
  | .injStart k => Sys2Proof.Machine.execInjStart k s
  | .injStop k => Sys2Proof.Machine.execInjStop k s
  | .injDone k => Sys2Proof.Machine.execInjDone k s
  | .overcurrent j bits => Sys2Proof.Machine.execOvercurrent j bits s
  | .streamLoss x => Sys2Proof.Machine.execStreamLoss x s
  | .udcHoldExpired a => Sys2Proof.Machine.execUdcHoldExpired a s
  | .clePresentation a u v w dc => Sys2Proof.Machine.execClePresentation a u v w dc s
  | .angloss a => Sys2Proof.Machine.execAngloss a s
  | .cleBswap a => Sys2Proof.Machine.execCleBswap a s
  | .cleBankSwap a => Sys2Proof.Machine.execCleBankSwap a s
  | .cleClrflags a => Sys2Proof.Machine.execCleClrflags a s
  | .cleClrcnt a => Sys2Proof.Machine.execCleClrcnt a s
  | .cleLatClr k => Sys2Proof.Machine.execCleLatClr k s
  | .pwmCommitCmpc n => Sys2Proof.Machine.execPwmCommitCmpc n s
  | .pwmCommitAll n => Sys2Proof.Machine.execPwmCommitAll n s
  | .auxCommitAll j => Sys2Proof.Machine.execAuxCommitAll j s
  | .pwmCommitEffect g => Sys2Proof.Machine.execPwmCommitEffect g s
  | .auxPeriodStart j => Sys2Proof.Machine.execAuxPeriodStart j s
  | .tripLandChange i0 lvl t32 => Sys2Proof.Machine.execTripLandChange i0 lvl t32 s
  | .tripDetect i0 => Sys2Proof.Machine.execTripDetect i0 s
  | .atcWindowOpen k => Sys2Proof.Machine.execAtcWindowOpen k s
  | .atcWindowClose k => Sys2Proof.Machine.execAtcWindowClose k s
  | .atcSettingsEffect k => Sys2Proof.Machine.execAtcSettingsEffect k s
  | .pwmTclr n => Sys2Proof.Machine.execPwmTclr n s
  | .pwmClrflags n => Sys2Proof.Machine.execPwmClrflags n s
  | .pwmClrcnt n => Sys2Proof.Machine.execPwmClrcnt n s
  | .auxClrflags j => Sys2Proof.Machine.execAuxClrflags j s
  | .auxClrcnt j => Sys2Proof.Machine.execAuxClrcnt j s
  | .gtripTclr k => Sys2Proof.Machine.execGtripTclr k s
  | .gtripClrcnt k => Sys2Proof.Machine.execGtripClrcnt k s
  | .lpMemoryWrite k i0 v => Sys2Proof.Machine.execLpMemoryWrite k i0 v s
  | .lpVerifya k => Sys2Proof.Machine.execLpVerifya k s
  | .lpVerifyb k => Sys2Proof.Machine.execLpVerifyb k s
  | .verifyDone k => Sys2Proof.Machine.execVerifyDone k s
  | .lpClrcnt k => Sys2Proof.Machine.execLpClrcnt k s
  | .lpInterrupt k => Sys2Proof.Machine.execLpInterrupt k s
  | .lpFault k causes => Sys2Proof.Machine.execLpFault k causes s
  | .mapTrefWrite a v => Sys2Proof.Machine.execMapTrefWrite a v s
  | .mapIqrefWrite a v => Sys2Proof.Machine.execMapIqrefWrite a v s
  | .mapAstampWrite a v => Sys2Proof.Machine.execMapAstampWrite a v s
  | .mapCmp4Write a v => Sys2Proof.Machine.execMapCmp4Write a v s
  | .mapCmpcWrite a v => Sys2Proof.Machine.execMapCmpcWrite a v s
  | .mapEventWrite a v => Sys2Proof.Machine.execMapEventWrite a v s
  | .molpinNop k => Sys2Proof.Machine.execMolpinNop k s
  | .b k cc t => Sys2Proof.Machine.execB k cc t s
  | .call k t => Sys2Proof.Machine.execCall k t s
  | .ret k => Sys2Proof.Machine.execRet k s
  | .rep k c last => Sys2Proof.Machine.execRep k c last s
  | .end_ k => Sys2Proof.Machine.execEnd_ k s
  | .rti k => Sys2Proof.Machine.execRti k s
  | .add k d src => Sys2Proof.Machine.execAdd k d src s
  | .sub k d src => Sys2Proof.Machine.execSub k d src s
  | .and_ k d src => Sys2Proof.Machine.execAnd_ k d src s
  | .or_ k d src => Sys2Proof.Machine.execOr_ k d src s
  | .xor_ k d src => Sys2Proof.Machine.execXor_ k d src s
  | .asr k d src => Sys2Proof.Machine.execAsr k d src s
  | .lsr k d src => Sys2Proof.Machine.execLsr k d src s
  | .lsl k d src => Sys2Proof.Machine.execLsl k d src s
  | .adds k d x y mv => Sys2Proof.Machine.execAdds k d x y mv s
  | .subs k d x y mv => Sys2Proof.Machine.execSubs k d x y mv s
  | .min k d src => Sys2Proof.Machine.execMin k d src s
  | .max k d src => Sys2Proof.Machine.execMax k d src s
  | .abs k d src => Sys2Proof.Machine.execAbs k d src s
  | .neg k d src => Sys2Proof.Machine.execNeg k d src s
  | .cmp k d src => Sys2Proof.Machine.execCmp k d src s
  | .mov k d src => Sys2Proof.Machine.execMov k d src s
  | .ld k d x m => Sys2Proof.Machine.execLd k d x m s
  | .st k d x m => Sys2Proof.Machine.execSt k d x m s
  | .ld64 k p x m => Sys2Proof.Machine.execLd64 k p x m s
  | .st64 k p x m => Sys2Proof.Machine.execSt64 k p x m s
  | .movp k m1 m2 => Sys2Proof.Machine.execMovp k m1 m2 s
  | .mpy k am x y m1 m2 => Sys2Proof.Machine.execMpy k am x y m1 m2 s
  | .mac k am x y m1 m2 => Sys2Proof.Machine.execMac k am x y m1 m2 s
  | .msu k am x y m1 m2 => Sys2Proof.Machine.execMsu k am x y m1 m2 s
  | .mpysu k am x y m1 m2 => Sys2Proof.Machine.execMpysu k am x y m1 m2 s
  | .cmac k pair p q m1 m2 => Sys2Proof.Machine.execCmac k pair p q m1 m2 s
  | .cmacc k pair p q m1 m2 => Sys2Proof.Machine.execCmacc k pair p q m1 m2 s
  | .clra k am mv => Sys2Proof.Machine.execClra k am mv s
  | .sha k am left sh mv => Sys2Proof.Machine.execSha k am left sh mv s
  | .adda k am p mv => Sys2Proof.Machine.execAdda k am p mv s
  | .movr k d am sh mv => Sys2Proof.Machine.execMovr k d am sh mv s
  | .movr64 k p am sh mv => Sys2Proof.Machine.execMovr64 k p am sh mv s
  | .mova k d am part mv => Sys2Proof.Machine.execMova k d am part mv s
  | .movta k am d part mv => Sys2Proof.Machine.execMovta k am d part mv s
  | .exp k d src mv => Sys2Proof.Machine.execExp k d src mv s
  | .norm k am d mv => Sys2Proof.Machine.execNorm k am d mv s
  | .cmulr k d x y sh => Sys2Proof.Machine.execCmulr k d x y sh s
  | .sincos k p x => Sys2Proof.Machine.execSincos k p x s
  | .divs k d x y f => Sys2Proof.Machine.execDivs k d x y f s
  | .setx k kind i0 src => Sys2Proof.Machine.execSetx k kind i0 src s
  | .tbr k p => Sys2Proof.Machine.execTbr k p s
  | .mtsr k d => Sys2Proof.Machine.execMtsr k d s
  | .mfsr k d => Sys2Proof.Machine.execMfsr k d s
  | .clrf k => Sys2Proof.Machine.execClrf k s
  | .ldi32 k d v => Sys2Proof.Machine.execLdi32 k d v s
  | .bl k t => Sys2Proof.Machine.execBl k t s
  | .switchFrameReceive p e f => Sys2Proof.Machine.execSwitchFrameReceive p e f s
  | .portFrameTransmit p c e slot => Sys2Proof.Machine.execPortFrameTransmit p c e slot s
  | .gclCycleStart p => Sys2Proof.Machine.execGclCycleStart p s
  | .gateIntervalEnd p => Sys2Proof.Machine.execGateIntervalEnd p s
  | .gclChg p => Sys2Proof.Machine.execGclChg p s
  | .gclChangeEffect p => Sys2Proof.Machine.execGclChangeEffect p s
  | .frerReset i0 => Sys2Proof.Machine.execFrerReset i0 s
  | .linkUp p speed master => Sys2Proof.Machine.execLinkUp p speed master s
  | .ntTrimWrite v => Sys2Proof.Machine.execNtTrimWrite v s
  | .stepgo => Sys2Proof.Machine.execStepgo s
  | .setgo => Sys2Proof.Machine.execSetgo s
  | .ntNsRead r => Sys2Proof.Machine.execNtNsRead r s
  | .leapSecond => Sys2Proof.Machine.execLeapSecond s
  | .ptpServoUpdate p offset delay seq utc => Sys2Proof.Machine.execPtpServoUpdate p offset delay seq utc s
  | .ptpHoldover => Sys2Proof.Machine.execPtpHoldover s
  | .servoTimeout => Sys2Proof.Machine.execServoTimeout s
  | .ppsOutEdge => Sys2Proof.Machine.execPpsOutEdge s
  | .ppsOutEnd => Sys2Proof.Machine.execPpsOutEnd s
  | .ppsInEdge e => Sys2Proof.Machine.execPpsInEdge e s
  | .ramauxTransmitSlot => Sys2Proof.Machine.execRamauxTransmitSlot s
  | .cyclicFrameReceive f => Sys2Proof.Machine.execCyclicFrameReceive f s
  | .lineShaftCoast k => Sys2Proof.Machine.execLineShaftCoast k s
  | .lineShaftLost k => Sys2Proof.Machine.execLineShaftLost k s
  | .ramauxEnable v => Sys2Proof.Machine.execRamauxEnable v s
  | .rmNextArm => Sys2Proof.Machine.execRmNextArm s
  | .epochChange => Sys2Proof.Machine.execEpochChange s
  | .graceEnd => Sys2Proof.Machine.execGraceEnd s
  | .rmClrcnt => Sys2Proof.Machine.execRmClrcnt s
  | .acyclicRequestReceive peer sec body => Sys2Proof.Machine.execAcyclicRequestReceive peer sec body s
  | .acyclicSegmentTimeout => Sys2Proof.Machine.execAcyclicSegmentTimeout s
  | .acyclicResponseReceive node body => Sys2Proof.Machine.execAcyclicResponseReceive node body s
  | .bellNotice => Sys2Proof.Machine.execBellNotice s
  | .bellReport origin => Sys2Proof.Machine.execBellReport origin s
  | .bellReceive p b => Sys2Proof.Machine.execBellReceive p b s
  | .bellEntryAgeout i0 => Sys2Proof.Machine.execBellEntryAgeout i0 s
  | .bellRecord origin => Sys2Proof.Machine.execBellRecord origin s
  | .safeWdtExpire c => Sys2Proof.Machine.execSafeWdtExpire c s
  | .actOutAssert => Sys2Proof.Machine.execActOutAssert s
  | .actConflict => Sys2Proof.Machine.execActConflict s
  | .keeperExpiry => Sys2Proof.Machine.execKeeperExpiry s
  | .activeRelease => Sys2Proof.Machine.execActiveRelease s
  | .heartbeatSend => Sys2Proof.Machine.execHeartbeatSend s
  | .tackFrameReceive crcOk f => Sys2Proof.Machine.execTackFrameReceive crcOk f s
  | .tackLost => Sys2Proof.Machine.execTackLost s
  | .handoverGo => Sys2Proof.Machine.execHandoverGo s
  | .handoverRelease => Sys2Proof.Machine.execHandoverRelease s
  | .twClrflags => Sys2Proof.Machine.execTwClrflags s
  | .twClrcnt => Sys2Proof.Machine.execTwClrcnt s
  | .firmwareRestartDone ok svn => Sys2Proof.Machine.execFirmwareRestartDone ok svn s
  | .safetyCycle b pos bad => Sys2Proof.Machine.execSafetyCycle b pos bad s
  | .safeInputAccept i0 wireB lvl => Sys2Proof.Machine.execSafeInputAccept i0 wireB lvl s
  | .safeInputDiscrepancy i0 => Sys2Proof.Machine.execSafeInputDiscrepancy i0 s
  | .offPulse b o good => Sys2Proof.Machine.execOffPulse b o good s
  | .safeResetEdge hiA hiB skew => Sys2Proof.Machine.execSafeResetEdge hiA hiB skew s
  | .safeResetLongHigh => Sys2Proof.Machine.execSafeResetLongHigh s
  | .switchBankSample a b => Sys2Proof.Machine.execSwitchBankSample a b s
  | .sbcDelayEnd n => Sys2Proof.Machine.execSbcDelayEnd n s
  | .brakeTestEnd n iq => Sys2Proof.Machine.execBrakeTestEnd n iq s
  | .brakeTestOverdue k => Sys2Proof.Machine.execBrakeTestOverdue k s
  | .brakeTestLock k => Sys2Proof.Machine.execBrakeTestLock k s
  | .dioInputAccept c lvl back => Sys2Proof.Machine.execDioInputAccept c lvl back s
  | .dioOutWrite v => Sys2Proof.Machine.execDioOutWrite v s
  | .dioOset v => Sys2Proof.Machine.execDioOset v s
  | .dioOclr v => Sys2Proof.Machine.execDioOclr v s
  | .outputShortCircuit c => Sys2Proof.Machine.execOutputShortCircuit c s
  | .outputOvertemp c cool => Sys2Proof.Machine.execOutputOvertemp c cool s
  | .outputRetry c => Sys2Proof.Machine.execOutputRetry c s
  | .readbackError c raw => Sys2Proof.Machine.execReadbackError c raw s
  | .fieldSupplySample k v raw => Sys2Proof.Machine.execFieldSupplySample k v raw s
  | .fgRearm k => Sys2Proof.Machine.execFgRearm k s
  | .fgClrflags k => Sys2Proof.Machine.execFgClrflags k s
  | .fgClrcnt k => Sys2Proof.Machine.execFgClrcnt k s
  | .analogueSample codes => Sys2Proof.Machine.execAnalogueSample codes s
  | .shuntOpen i0 => Sys2Proof.Machine.execShuntOpen i0 s
  | .shuntReconnect i0 => Sys2Proof.Machine.execShuntReconnect i0 s
  | .canFrameReceive n f back => Sys2Proof.Machine.execCanFrameReceive n f back s
  | .canTxgo n m => Sys2Proof.Machine.execCanTxgo n m s
  | .canTxwd n m => Sys2Proof.Machine.execCanTxwd n m s
  | .canTxDone n back d => Sys2Proof.Machine.execCanTxDone n back d s
  | .canTxError n back code dataPhase late exc more => Sys2Proof.Machine.execCanTxError n back code dataPhase late exc more s
  | .canRecoverBit n => Sys2Proof.Machine.execCanRecoverBit n s
  | .busOffRecoveryDone n => Sys2Proof.Machine.execBusOffRecoveryDone n s
  | .canFreshClear n k => Sys2Proof.Machine.execCanFreshClear n k s
  | .fifo0Release n => Sys2Proof.Machine.execFifo0Release n s
  | .fifo1Release n => Sys2Proof.Machine.execFifo1Release n s
  | .canHaltEffect n => Sys2Proof.Machine.execCanHaltEffect n s
  | .ringEnable n v => Sys2Proof.Machine.execRingEnable n v s
  | .ringDisable n v => Sys2Proof.Machine.execRingDisable n v s
  | .ringDoorbell n v => Sys2Proof.Machine.execRingDoorbell n v s
  | .ringFetch n bus fault => Sys2Proof.Machine.execRingFetch n bus fault s
  | .commandCompletion fault => Sys2Proof.Machine.execCommandCompletion fault s
  | .coalesceTimer n => Sys2Proof.Machine.execCoalesceTimer n s
  | .functionLevelReset => Sys2Proof.Machine.execFunctionLevelReset s
  | .pcieLinkDown => Sys2Proof.Machine.execPcieLinkDown s
  | .hqRead a k => Sys2Proof.Machine.execHqRead a k s
  | .hqWrite a ws => Sys2Proof.Machine.execHqWrite a ws s
  | .hqStatus => Sys2Proof.Machine.execHqStatus s
  | .hostKick => Sys2Proof.Machine.execHostKick s
  | .hostWatchdogExpire => Sys2Proof.Machine.execHostWatchdogExpire s
  | .hostClrcnt => Sys2Proof.Machine.execHostClrcnt s
  | .streamPointMove n e fault => Sys2Proof.Machine.execStreamPointMove n e fault s
  | .deliveryRecordWrite n fault => Sys2Proof.Machine.execDeliveryRecordWrite n fault s
  | .nop c => Sys2Proof.Machine.execNop c s
  | .identify c => Sys2Proof.Machine.execIdentify c s
  | .abort c => Sys2Proof.Machine.execAbort c s
  | .setState c => Sys2Proof.Machine.execSetState c s
  | .expert c => Sys2Proof.Machine.execExpert c s
  | .setHamode c => Sys2Proof.Machine.execSetHamode c s
  | .token c => Sys2Proof.Machine.execToken c s
  | .setClock c => Sys2Proof.Machine.execSetClock c s
  | .assign c => Sys2Proof.Machine.execAssign c s
  | .readReg c => Sys2Proof.Machine.execReadReg c s
  | .axisConfig c => Sys2Proof.Machine.execAxisConfig c s
  | .enable c => Sys2Proof.Machine.execEnable c s
  | .tripClear c => Sys2Proof.Machine.execTripClear c s
  | .holdTorque c => Sys2Proof.Machine.execHoldTorque c s
  | .holdTorqueEnd n => Sys2Proof.Machine.execHoldTorqueEnd n s
  | .auxConfig c => Sys2Proof.Machine.execAuxConfig c s
  | .atcConfig c => Sys2Proof.Machine.execAtcConfig c s
  | .setSource c => Sys2Proof.Machine.execSetSource c s
  | .movePtp c => Sys2Proof.Machine.execMovePtp c s
  | .moveLinear c => Sys2Proof.Machine.execMoveLinear c s
  | .moveCirc c => Sys2Proof.Machine.execMoveCirc c s
  | .moveSpline c => Sys2Proof.Machine.execMoveSpline c s
  | .movePvt c => Sys2Proof.Machine.execMovePvt c s
  | .stop c => Sys2Proof.Machine.execStop c s
  | .stopBoundary => Sys2Proof.Machine.execStopBoundary s
  | .phaseMove c => Sys2Proof.Machine.execPhaseMove c s
  | .groupConfig c => Sys2Proof.Machine.execGroupConfig c s
  | .gear c => Sys2Proof.Machine.execGear c s
  | .camLoad c => Sys2Proof.Machine.execCamLoad c s
  | .camEngage c => Sys2Proof.Machine.execCamEngage c s
  | .camSwitch c => Sys2Proof.Machine.execCamSwitch c s
  | .camArm n => Sys2Proof.Machine.execCamArm n s
  | .lsConfig c => Sys2Proof.Machine.execLsConfig c s
  | .vxConfig c => Sys2Proof.Machine.execVxConfig c s
  | .loopParam c => Sys2Proof.Machine.execLoopParam c s
  | .loopFb c => Sys2Proof.Machine.execLoopFb c s
  | .cleBank c => Sys2Proof.Machine.execCleBank c s
  | .cleConfig c => Sys2Proof.Machine.execCleConfig c s
  | .tableLoad c => Sys2Proof.Machine.execTableLoad c s
  | .tableRead c => Sys2Proof.Machine.execTableRead c s
  | .inject c => Sys2Proof.Machine.execInject c s
  | .lawsel c => Sys2Proof.Machine.execLawsel c s
  | .portConfig c => Sys2Proof.Machine.execPortConfig c s
  | .portCmd c => Sys2Proof.Machine.execPortCmd c s
  | .latchConfig c => Sys2Proof.Machine.execLatchConfig c s
  | .latchRead c => Sys2Proof.Machine.execLatchRead c s
  | .compareLoad c => Sys2Proof.Machine.execCompareLoad c s
  | .compareArm c => Sys2Proof.Machine.execCompareArm c s
  | .coConfig c => Sys2Proof.Machine.execCoConfig c s
  | .regConfig c => Sys2Proof.Machine.execRegConfig c s
  | .regTarget c => Sys2Proof.Machine.execRegTarget c s
  | .switchConfig c => Sys2Proof.Machine.execSwitchConfig c s
  | .ptpConfig c => Sys2Proof.Machine.execPtpConfig c s
  | .ptpCorrect c => Sys2Proof.Machine.execPtpCorrect c s
  | .ramauxTable c => Sys2Proof.Machine.execRamauxTable c s
  | .epochArm c => Sys2Proof.Machine.execEpochArm c s
  | .ramauxConfig c => Sys2Proof.Machine.execRamauxConfig c s
  | .acyclic c => Sys2Proof.Machine.execAcyclic c s
  | .canConfig c => Sys2Proof.Machine.execCanConfig c s
  | .canSend c => Sys2Proof.Machine.execCanSend c s
  | .canRead c => Sys2Proof.Machine.execCanRead c s
  | .canRecover c => Sys2Proof.Machine.execCanRecover c s
  | .ioConfig c => Sys2Proof.Machine.execIoConfig c s
  | .ioWrite c => Sys2Proof.Machine.execIoWrite c s
  | .ioRead c => Sys2Proof.Machine.execIoRead c s
  | .groupRearm c => Sys2Proof.Machine.execGroupRearm c s
  | .safeStatus c => Sys2Proof.Machine.execSafeStatus c s
  | .captureConfig c => Sys2Proof.Machine.execCaptureConfig c s
  | .captureArm c => Sys2Proof.Machine.execCaptureArm c s
  | .captureRead c => Sys2Proof.Machine.execCaptureRead c s
  | .logRead c => Sys2Proof.Machine.execLogRead c s
  | .logFreeze c => Sys2Proof.Machine.execLogFreeze c s
  | .logClear c => Sys2Proof.Machine.execLogClear c s
  | .keyLoad c => Sys2Proof.Machine.execKeyLoad c s
  | .keyErase c => Sys2Proof.Machine.execKeyErase c s
  | .tamperPolicy c => Sys2Proof.Machine.execTamperPolicy c s
  | .debugChallenge c => Sys2Proof.Machine.execDebugChallenge c s
  | .challengeExpiry => Sys2Proof.Machine.execChallengeExpiry s
  | .debugOpen c => Sys2Proof.Machine.execDebugOpen c s
  | .twinConfig c => Sys2Proof.Machine.execTwinConfig c s
  | .twinStart c => Sys2Proof.Machine.execTwinStart c s
  | .join c => Sys2Proof.Machine.execJoin c s
  | .handover c => Sys2Proof.Machine.execHandover c s
  | .fwWrite c => Sys2Proof.Machine.execFwWrite c s
  | .fwVerify c => Sys2Proof.Machine.execFwVerify c s
  | .fwRestart c => Sys2Proof.Machine.execFwRestart c s
  | .lpImage c => Sys2Proof.Machine.execLpImage c s
  | .safetySlot c => Sys2Proof.Machine.execSafetySlot c s
  | .nx2416Nop c => Sys2Proof.Machine.execNx2416Nop c s
  | .status c => Sys2Proof.Machine.execStatus c s
  | .goRun c => Sys2Proof.Machine.execGoRun c s
  | .goStop c => Sys2Proof.Machine.execGoStop c s
  | .goConfig c => Sys2Proof.Machine.execGoConfig c s
  | .axisOnOff c => Sys2Proof.Machine.execAxisOnOff c s
  | .faultReset c => Sys2Proof.Machine.execFaultReset c s
  | .moveAbs c => Sys2Proof.Machine.execMoveAbs c s
  | .moveStop c => Sys2Proof.Machine.execMoveStop c s
  | .gearOn c => Sys2Proof.Machine.execGearOn c s
  | .gearOff c => Sys2Proof.Machine.execGearOff c s
  | .outWrite c => Sys2Proof.Machine.execOutWrite c s
  | .inRead c => Sys2Proof.Machine.execInRead c s
  | .workItemPost src flow ctl handler a0 a1 a2 => Sys2Proof.Machine.execWorkItemPost src flow ctl handler a0 a1 a2 s
  | .workItemDispatch => Sys2Proof.Machine.execWorkItemDispatch s
  | .affinityWindowEnd => Sys2Proof.Machine.execAffinityWindowEnd s
  | .workItemDone c => Sys2Proof.Machine.execWorkItemDone c s
  | .post a b => Sys2Proof.Machine.execPost a b s
  | .pop b a => Sys2Proof.Machine.execPop b a s
  | .wait a => Sys2Proof.Machine.execWait a s
  | .waitReturn a => Sys2Proof.Machine.execWaitReturn a s
  | .crossingDetected a b => Sys2Proof.Machine.execCrossingDetected a b s
  | .lockAcquire a n => Sys2Proof.Machine.execLockAcquire a n s
  | .lockRelease a n => Sys2Proof.Machine.execLockRelease a n s
  | .cuArm u => Sys2Proof.Machine.execCuArm u s
  | .cuDisarm u => Sys2Proof.Machine.execCuDisarm u s
  | .cuFire u => Sys2Proof.Machine.execCuFire u s
  | .captureSample u safeReset ppsIn => Sys2Proof.Machine.execCaptureSample u safeReset ppsIn s
  | .fireRecordWrite => Sys2Proof.Machine.execFireRecordWrite s
  | .fireReceive via => Sys2Proof.Machine.execFireReceive via s
  | .holdoffEnd u => Sys2Proof.Machine.execHoldoffEnd u s
  | .recordAppend => Sys2Proof.Machine.execRecordAppend s
  | .recordProgram x => Sys2Proof.Machine.execRecordProgram x s
  | .mergeWindowEnd => Sys2Proof.Machine.execMergeWindowEnd s
  | .freezeTimeout => Sys2Proof.Machine.execFreezeTimeout s
  | .logCursorWrite q => Sys2Proof.Machine.execLogCursorWrite q s
  | .logNext => Sys2Proof.Machine.execLogNext s
  | .logLoadDone => Sys2Proof.Machine.execLogLoadDone s
  | .tamperAlarm sensors utc => Sys2Proof.Machine.execTamperAlarm sensors utc s
  | .secPolicyWrite v => Sys2Proof.Machine.execSecPolicyWrite v s
  | .secClrcnt => Sys2Proof.Machine.execSecClrcnt s
  | .svnAdvance => Sys2Proof.Machine.execSvnAdvance s
  | .uncorrectableError m => Sys2Proof.Machine.execUncorrectableError m s
  | .powerLoss vbat => Sys2Proof.Machine.execPowerLoss vbat s
  | .safetySupplyLoss => Sys2Proof.Machine.execSafetySupplyLoss s
  | .safetyChannelStart b good => Sys2Proof.Machine.execSafetyChannelStart b good s
  | .streamReturn j => Sys2Proof.Machine.execStreamReturn j s
  | .pwmEdge g i0 => Sys2Proof.Machine.execPwmEdge g i0 s
  | .portLinkDown p => Sys2Proof.Machine.execPortLinkDown p s
  | .pcieLinkUp speed two => Sys2Proof.Machine.execPcieLinkUp speed two s
  | .perstAssert => Sys2Proof.Machine.execPerstAssert s
  | .tackLaneDown k => Sys2Proof.Machine.execTackLaneDown k s
  | .tackLaneUp k => Sys2Proof.Machine.execTackLaneUp k s
  | .canRxError n code dataPhase more => Sys2Proof.Machine.execCanRxError n code dataPhase more s
  | .eccCorrected m => Sys2Proof.Machine.execEccCorrected m s

end Sys2Proof.Machine
end

