-- ==== Sys2Proof/Safety.lean ====
section
/-! DEFINITION. What holds of every state that the module can be in, in the terms the claims use. -/

namespace Sys2Proof.Machine

/-- A word memory is in canonical form. -/
def wmWf (m : WordMem) : Bool := spWf (fun _ => (0 : Word)) m
/-- A byte memory is in canonical form. -/
def memWf (m : ByteMem) : Bool := spWf (fun _ => (0 : Byte)) m

/-- Every memory is in canonical form: addresses strictly rising, no entry equal to what an unlisted address reads as. -/
def Memory.wf (m : Mems) : Bool :=
  wmWf m.cmpRam && wmWf m.pool && wmWf m.lpData && wmWf m.lpCode && wmWf m.user && wmWf m.sram && wmWf m.hay && wmWf m.dram && memWf m.fw

/-- The register file and the values in effect are in canonical form over the reset values. -/
def regsWf (s : State) : Bool := spWf regReset s.regs && spWf regReset s.act

/-- Registers and memories are canonical, so that equal contents are equal data. -/
def State.canonical (s : State) : Bool := regsWf s && Memory.wf s.mem

/-- The parts of the state that commands change: register file, values in effect, each memory, each unit. -/
inductive Part where
  | regs | act | cmpRam | pool | lpData | lpCode | user | sram | hay | dram | fw | events | vectors | time | grids
  | reqs | ports | latches | compares | rcs | motion | plans | stops | shafts | cams | inflight | waits | completions
  | netAxes | loops | injs | assign | runQ | pwms | trips | atcs | sds | cles | rdata | groom | stalls | agents
  | xtime | locks | lockPtr | lps | nw | safe | rm | tw | sec | io | cans | acq | log | host | pw
  deriving DecidableEq, Repr

/-- A part is the same in two states. -/
def Part.same (p : Part) (s t : State) : Prop :=
  match p with
  | .regs => t.regs = s.regs
  | .act => t.act = s.act
  | .cmpRam => t.mem.cmpRam = s.mem.cmpRam
  | .pool => t.mem.pool = s.mem.pool
  | .lpData => t.mem.lpData = s.mem.lpData
  | .lpCode => t.mem.lpCode = s.mem.lpCode
  | .user => t.mem.user = s.mem.user
  | .sram => t.mem.sram = s.mem.sram
  | .hay => t.mem.hay = s.mem.hay
  | .dram => t.mem.dram = s.mem.dram
  | .fw => t.mem.fw = s.mem.fw
  | .events => t.events = s.events
  | .vectors => t.vectors = s.vectors
  | .time => t.time = s.time
  | .grids => t.grids = s.grids
  | .reqs => t.reqs = s.reqs
  | .ports => t.ports = s.ports
  | .latches => t.latches = s.latches
  | .compares => t.compares = s.compares
  | .rcs => t.rcs = s.rcs
  | .motion => t.motion = s.motion
  | .plans => t.plans = s.plans
  | .stops => t.stops = s.stops
  | .shafts => t.shafts = s.shafts
  | .cams => t.cams = s.cams
  | .inflight => t.inflight = s.inflight
  | .waits => t.waits = s.waits
  | .completions => t.completions = s.completions
  | .netAxes => t.netAxes = s.netAxes
  | .loops => t.loops = s.loops
  | .injs => t.injs = s.injs
  | .assign => t.assign = s.assign
  | .runQ => t.runQ = s.runQ
  | .pwms => t.pwms = s.pwms
  | .trips => t.trips = s.trips
  | .atcs => t.atcs = s.atcs
  | .sds => t.sds = s.sds
  | .cles => t.cles = s.cles
  | .rdata => t.rdata = s.rdata
  | .groom => t.groom = s.groom
  | .stalls => t.stalls = s.stalls
  | .agents => t.agents = s.agents
  | .xtime => t.xtime = s.xtime
  | .locks => t.locks = s.locks
  | .lockPtr => t.lockPtr = s.lockPtr
  | .lps => t.lps = s.lps
  | .nw => t.nw = s.nw
  | .safe => t.safe = s.safe
  | .rm => t.rm = s.rm
  | .tw => t.tw = s.tw
  | .sec => t.sec = s.sec
  | .io => t.io = s.io
  | .cans => t.cans = s.cans
  | .acq => t.acq = s.acq
  | .log => t.log = s.log
  | .host => t.host = s.host
  | .pw => t.pw = s.pw

/-- Every part. -/
def Part.all : List Part :=
  [.regs, .act, .cmpRam, .pool, .lpData, .lpCode, .user, .sram, .hay, .dram, .fw, .events, .vectors, .time, .grids, .reqs,
   .ports, .latches, .compares, .rcs, .motion, .plans, .stops, .shafts, .cams, .inflight, .waits, .completions, .netAxes,
   .loops, .injs, .assign, .runQ, .pwms, .trips, .atcs, .sds, .cles, .rdata, .groom, .stalls, .agents, .xtime, .locks,
   .lockPtr, .lps, .nw, .safe, .rm, .tw, .sec, .io, .cans, .acq, .log, .host, .pw]

/-- The parts that a command may change; it leaves every other part as it is. -/
def touches (c : Instr) : List Part :=
  match c with
  | .pairTransition _ _ _ _ => [.regs, .events, .vectors, .time, .ports, .latches, .compares, .safe]
  | .levelAccepted _ _ =>
    [.regs, .act, .events, .vectors, .time, .grids, .ports, .latches, .compares, .motion, .plans, .shafts, .inflight, .waits, .completions, .netAxes, .loops, .runQ, .pwms, .trips, .atcs, .cles, .stalls, .rm, .acq]
  | .stillTimeout _ => [.regs, .time]
  | .wireFault _ _ => [.regs, .events, .vectors, .time, .ports]
  | .presetApply _ | .portSettingsEffect _ =>
    [.regs, .act, .events, .vectors, .time, .grids, .ports, .compares, .motion, .plans, .shafts, .inflight, .waits, .completions, .netAxes, .loops, .runQ, .pwms, .trips, .atcs, .cles, .stalls, .rm, .acq]
  | .ssiFrameStart _ => [.regs, .time, .ports]
  | .ssiFrameEnd _ _ _ _ => [.regs, .events, .vectors, .time, .ports, .compares]
  | .portLoad _ | .portReval _ | .portRearm _ => [.regs, .ports]
  | .portClrflags _ | .portClrcnt _ => [.regs]
  | .coArm _ _ | .coDisarm _ => [.regs, .compares]
  | .coClrcnt _ | .latchClrcnt _ => [.regs]
  | .compareRamWrite _ _ => [.regs, .cmpRam, .compares]
  | .comparePulseEnd _ => [.regs, .time, .compares]
  | .latchEdge _ => [.time, .latches]
  | .latchEntryComplete _ => [.regs, .time, .latches, .rcs]
  | .latchPop _ | .latchClr _ => [.regs, .latches]
  | .regClrtgt _ => [.regs, .rcs]
  | .moveEnd _ => [.regs, .events, .vectors, .motion, .plans, .inflight, .waits, .completions, .stalls]
  | .lineShaftCoast _ | .lineShaftLost _ => [.regs, .events, .vectors, .shafts, .stalls]
  | .regMiss _ => [.regs, .events, .rcs]
  | .camArm _ => [.regs, .motion, .inflight, .waits, .completions]
  | .stopBoundary => [.regs, .motion, .plans, .stops, .inflight, .waits, .completions]
  | .loopApply _ => [.regs, .loops]
  | .loopApplyEffect _ =>
    [.regs, .act, .events, .vectors, .time, .grids, .ports, .compares, .motion, .plans, .shafts, .inflight, .waits, .completions, .netAxes, .loops, .runQ, .pwms, .trips, .atcs, .cles, .stalls, .rm, .acq]
  | .injStart _ => [.regs, .injs]
  | .injStop _ => [.regs, .inflight, .waits, .completions]
  | .injDone _ =>
    [.regs, .pool, .lpData, .events, .vectors, .time, .rcs, .motion, .plans, .shafts, .inflight, .waits, .completions, .netAxes, .loops, .injs, .runQ, .stalls, .lps]
  | .overcurrent _ _ => [.regs, .events, .vectors, .time, .pwms, .sds]
  | .streamLoss _ => [.regs, .events, .vectors, .time, .motion, .plans, .inflight, .waits, .completions, .loops, .pwms, .stalls]
  | .streamReturn _ => [.regs, .time]
  | .udcHoldExpired _ => [.regs, .events, .vectors, .motion, .plans, .inflight, .waits, .completions, .loops, .pwms, .cles, .stalls]
  | .clePresentation _ _ _ _ _ => [.regs, .events, .vectors, .time, .motion, .plans, .inflight, .waits, .completions, .loops, .pwms, .sds, .cles, .stalls, .tw]
  | .angloss _ => [.regs, .events, .pwms]
  | .cleBswap _ => [.regs, .cles]
  | .cleBankSwap _ => [.regs, .inflight, .waits, .completions, .cles]
  | .cleClrflags _ | .cleClrcnt _ | .cleLatClr _ => [.regs]
  | .pwmCommitCmpc _ | .pwmCommitAll _ | .auxCommitAll _ => [.regs, .pwms]
  | .pwmCommitEffect _ | .atcSettingsEffect _ =>
    [.regs, .act, .events, .vectors, .time, .grids, .ports, .compares, .motion, .plans, .inflight, .waits, .completions, .netAxes, .loops, .runQ, .pwms, .trips, .atcs, .cles, .stalls, .acq]
  | .auxPeriodStart _ => [.regs, .act, .events, .vectors, .time, .pwms, .trips, .atcs]
  | .tripLandChange _ _ _ | .tripDetect _ => [.regs, .events, .vectors, .time, .pwms, .trips]
  | .atcWindowOpen _ => [.regs, .time, .atcs]
  | .atcWindowClose _ => [.regs, .events, .vectors, .time, .pwms, .trips, .atcs]
  | .pwmTclr _ | .gtripTclr _ => [.regs, .events, .vectors, .pwms, .trips]
  | .pwmClrflags _ | .pwmClrcnt _ | .auxClrflags _ | .auxClrcnt _ | .gtripClrcnt _ => [.regs]
  | .pwmEdge _ _ => [.regs, .time, .pwms]
  | .workItemPost _ _ _ _ _ _ _ | .workItemDone _ => [.rdata, .groom]
  | .workItemDispatch => [.groom]
  | .affinityWindowEnd => [.time, .groom]
  | .post _ _ | .wait _ => [.regs, .rdata, .stalls, .agents, .locks, .lockPtr]
  | .pop _ _ => [.regs, .stalls, .agents, .xtime, .locks]
  | .waitReturn _ => [.rdata, .agents, .lps]
  | .crossingDetected _ _ => [.events, .time, .rdata, .agents]
  | .lockAcquire _ _ => [.rdata, .locks, .lockPtr]
  | .lockRelease _ _ => [.regs, .agents, .locks]
  | .lpMemoryWrite _ _ _ => [.regs, .lpData, .lpCode, .inflight, .waits, .completions, .lps]
  | .lpVerifya _ | .lpVerifyb _ | .lpInterrupt _ => [.regs, .lps]
  | .verifyDone _ => [.regs, .time, .inflight, .waits, .completions, .lps]
  | .lpClrcnt _ => [.regs]
  | .lpFault _ _ => [.regs, .events, .time, .loops, .pwms, .stalls, .locks, .lps]
  | .mapTrefWrite _ _ | .mapIqrefWrite _ _ | .mapAstampWrite _ _ | .mapCmp4Write _ _ | .mapCmpcWrite _ _
  | .mapEventWrite _ _ => [.regs, .user, .events, .loops, .pwms, .rdata, .groom]
  | .molpinNop _ | .b _ _ _ | .call _ _ | .ret _ | .rep _ _ _ | .cmulr _ _ _ _ _ | .sincos _ _ _ | .divs _ _ _ _ _
  | .setx _ _ _ _ | .tbr _ _ | .mtsr _ _ | .mfsr _ _ | .clrf _ | .ldi32 _ _ _ | .bl _ _ => [.regs, .events, .time, .loops, .pwms, .stalls, .locks, .lps]
  | .end_ _ => [.regs, .lpData, .events, .vectors, .time, .motion, .plans, .inflight, .waits, .completions, .loops, .pwms, .stalls, .locks, .lps]
  | .rti _ => [.regs, .lpData, .events, .time, .loops, .pwms, .stalls, .locks, .lps]
  | .add _ _ _ | .sub _ _ _ | .and_ _ _ _ | .or_ _ _ _ | .xor_ _ _ _ | .asr _ _ _ | .lsr _ _ _ | .lsl _ _ _
  | .adds _ _ _ _ _ | .subs _ _ _ _ _ | .min _ _ _ | .max _ _ _ | .abs _ _ _ | .neg _ _ _ | .cmp _ _ _ | .mov _ _ _
  | .movp _ _ _ | .mpy _ _ _ _ _ _ | .mac _ _ _ _ _ _ | .msu _ _ _ _ _ _ | .mpysu _ _ _ _ _ _ | .cmac _ _ _ _ _ _
  | .cmacc _ _ _ _ _ _ | .clra _ _ _ | .sha _ _ _ _ _ | .adda _ _ _ _ | .movr _ _ _ _ _ | .movr64 _ _ _ _ _
  | .mova _ _ _ _ _ | .movta _ _ _ _ _ | .exp _ _ _ _ | .norm _ _ _ _ =>
    [.regs, .pool, .lpData, .user, .sram, .events, .time, .loops, .pwms, .rdata, .groom, .stalls, .agents, .xtime, .locks, .lockPtr, .lps]
  | .ld _ _ _ _ | .ld64 _ _ _ _ => [.regs, .events, .time, .loops, .pwms, .stalls, .agents, .locks, .lockPtr, .lps]
  | .st _ _ _ _ | .st64 _ _ _ _ => [.regs, .pool, .lpData, .user, .sram, .events, .time, .loops, .pwms, .rdata, .groom, .stalls, .agents, .xtime, .locks, .lps]
  | .switchFrameReceive _ _ _ => [.regs, .vectors, .nw, .rm]
  | .portFrameTransmit _ _ _ _ | .gclChg _ => [.regs, .nw]
  | .gclCycleStart _ | .frerReset _ => [.regs, .time, .nw]
  | .gateIntervalEnd _ | .ppsOutEnd => [.time, .nw]
  | .gclChangeEffect _ => [.regs, .time, .inflight, .waits, .completions, .nw]
  | .linkUp _ _ _ | .portLinkDown _ => [.regs, .events]
  | .ntTrimWrite _ | .setgo | .leapSecond => [.regs, .time]
  | .stepgo => [.regs, .events, .time]
  | .ntNsRead _ => [.rdata, .nw]
  | .ptpServoUpdate _ _ _ _ _ => [.regs, .events, .vectors, .time, .nw]
  | .ptpHoldover => [.regs, .events, .vectors, .nw]
  | .servoTimeout => [.regs, .events, .vectors, .time]
  | .ppsOutEdge => [.regs, .vectors, .time, .nw]
  | .ppsInEdge _ => [.regs, .vectors, .time]
  | .safetyCycle _ _ _ => [.regs, .events, .vectors, .time, .motion, .safe]
  | .safeInputAccept _ _ _ | .safeResetLongHigh => [.regs, .vectors, .safe]
  | .safeInputDiscrepancy _ | .sbcDelayEnd _ => [.regs, .vectors, .time, .safe]
  | .offPulse _ _ _ | .switchBankSample _ _ | .safeWdtExpire _ => [.regs, .events, .vectors, .time, .safe]
  | .safeResetEdge _ _ _ | .safetySupplyLoss | .safetyChannelStart _ _ => [.regs, .events, .vectors, .safe]
  | .brakeTestEnd _ _ => [.regs, .events, .vectors, .time, .loops, .safe]
  | .brakeTestOverdue _ => [.regs, .events, .vectors, .time]
  | .brakeTestLock _ => [.regs, .vectors, .time]
  | .ramauxTransmitSlot =>
    [.regs, .sram, .events, .vectors, .time, .motion, .plans, .shafts, .inflight, .waits, .completions, .netAxes, .loops, .stalls, .nw, .safe]
  | .cyclicFrameReceive _ => [.regs, .sram, .events, .vectors, .motion, .plans, .shafts, .inflight, .waits, .completions, .netAxes, .runQ, .stalls, .safe, .rm]
  | .ramauxEnable _ => [.regs, .nw, .rm]
  | .rmNextArm => [.regs, .rm]
  | .epochChange => [.regs, .events, .inflight, .waits, .completions, .rm]
  | .graceEnd | .rmClrcnt | .bellEntryAgeout _ => [.regs]
  | .bellNotice | .bellReport _ | .bellReceive _ _ => [.regs, .vectors, .nw, .rm]
  | .bellRecord _ => [.events, .rm]
  | .actOutAssert => [.regs, .events, .vectors, .time, .ports, .motion, .rm, .tw]
  | .actConflict => [.regs, .events, .vectors, .time, .ports]
  | .keeperExpiry => [.regs, .events, .vectors, .time, .ports, .inflight, .waits, .completions]
  | .heartbeatSend => [.time, .tw]
  | .tackFrameReceive _ _ => [.regs, .events, .time, .motion, .cams, .inflight, .waits, .completions, .loops, .pwms, .cles, .stalls, .tw]
  | .tackLost => [.regs, .events, .time, .stalls]
  | .handoverGo | .twClrflags | .twClrcnt | .tackLaneDown _ | .tackLaneUp _ => [.regs]
  | .handoverRelease => [.regs, .events, .vectors, .ports, .inflight, .waits, .completions]
  | .dioInputAccept _ _ _ | .fgRearm _ | .fgClrflags _ | .fgClrcnt _ => [.regs]
  | .dioOutWrite _ | .dioOset _ | .dioOclr _ => [.regs, .io]
  | .outputShortCircuit _ | .outputOvertemp _ _ | .shuntOpen _ => [.regs, .events, .vectors, .io]
  | .outputRetry _ => [.time, .io]
  | .readbackError _ _ => [.regs, .events, .vectors]
  | .fieldSupplySample _ _ _ | .analogueSample _ => [.regs, .events, .vectors, .time, .io]
  | .shuntReconnect _ => [.regs, .time]
  | .canFrameReceive _ _ _ | .canTxgo _ _ | .canTxwd _ _ | .canRecoverBit _ | .busOffRecoveryDone _ | .fifo0Release _
  | .fifo1Release _ => [.regs, .cans]
  | .canTxDone _ _ _ => [.regs, .inflight, .waits, .completions, .cans]
  | .canTxError _ _ _ _ _ _ _ => [.regs, .events, .vectors, .cans]
  | .canRxError _ _ _ _ | .canFreshClear _ _ => [.regs]
  | .canHaltEffect _ => [.cans]
  | .cuArm _ | .cuFire _ => [.regs, .acq]
  | .cuDisarm _ | .fireReceive _ => [.regs, .vectors, .inflight, .waits, .completions, .acq]
  | .captureSample _ _ _ => [.regs, .hay, .dram, .vectors, .time, .inflight, .waits, .completions, .acq]
  | .fireRecordWrite => [.sram, .acq]
  | .holdoffEnd _ => [.regs, .vectors, .time, .acq]
  | .recordAppend => [.regs, .vectors, .log]
  | .recordProgram _ => [.regs, .events, .log]
  | .mergeWindowEnd | .freezeTimeout => [.regs, .time, .log]
  | .logCursorWrite _ | .logNext | .logLoadDone => [.regs, .log]
  | .tamperAlarm _ _ => [.regs, .events, .vectors, .completions, .sec]
  | .secPolicyWrite _ | .secClrcnt | .eccCorrected _ => [.regs]
  | .challengeExpiry => [.time, .sec]
  | .uncorrectableError _ => [.regs, .events, .vectors, .ports, .pwms]
  | .activeRelease => [.regs, .events, .vectors, .ports]
  | .svnAdvance => [.regs, .time, .pw]
  | .frameBoundary =>
    [.regs, .act, .events, .vectors, .time, .grids, .ports, .compares, .motion, .plans, .shafts, .inflight, .waits, .completions, .netAxes, .loops, .runQ, .stalls, .rm, .acq]
  | .frameLengthWrite _ => Part.all
  | .positionBoundary _ | .velocityBoundary _ | .currentUpdateBoundary _ =>
    [.regs, .act, .events, .vectors, .time, .grids, .ports, .compares, .motion, .plans, .inflight, .waits, .completions, .netAxes, .loops, .runQ, .pwms, .trips, .atcs, .cles, .stalls, .acq]
  | .tbChangeEffect _ => [.grids]
  | .positionRun _ =>
    [.regs, .pool, .lpData, .events, .vectors, .time, .rcs, .motion, .plans, .shafts, .inflight, .waits, .completions, .loops, .runQ, .stalls, .lps]
  | .velocityRun _ => [.regs, .lpData, .events, .vectors, .time, .motion, .plans, .inflight, .waits, .completions, .loops, .injs, .runQ, .stalls, .lps]
  | .networkRun _ =>
    [.regs, .pool, .lpData, .events, .vectors, .time, .rcs, .motion, .plans, .shafts, .inflight, .waits, .completions, .netAxes, .loops, .injs, .runQ, .stalls, .lps]
  | .virtualRun _ =>
    [.regs, .lpData, .events, .vectors, .time, .rcs, .motion, .plans, .shafts, .inflight, .waits, .completions, .loops, .injs, .runQ, .stalls, .lps]
  | .overheadRun _ => [.regs, .lpData, .events, .vectors, .time, .motion, .plans, .inflight, .waits, .completions, .loops, .runQ, .stalls, .lps]
  | .recoveryLawRun _ => [.regs, .events, .vectors, .rcs, .motion, .plans, .shafts, .inflight, .waits, .completions, .loops, .stalls]
  | .lateClr _ => [.regs]
  | .ctokArm _ => [.regs, .time]
  | .ctokCancel _ => [.regs, .inflight, .waits, .completions, .pwms, .cles]
  | .tokenExecute _ => [.regs, .lpData, .inflight, .waits, .completions, .pwms, .cles, .lps]
  | .powerOnReset | .brownOut | .clockReset | .powerLoss _ | .yardWatchdogExpire | .sysResetWrite _ => Part.all
  | .resetRelease => [.regs, .events, .vectors, .pwms, .trips, .sec, .pw]
  | .pllLock => [.regs, .pw]
  | .dramInitDone _ => [.regs, .events, .vectors, .time, .pw]
  | .bootImageSelect _ _ => [.regs, .time, .pw]
  | .firmwareStart _ _ => [.regs, .events, .vectors, .time, .sec, .log, .pw]
  | .selfTestDone _ _ _ _ _ => [.regs, .events, .vectors, .time, .lps, .pw]
  | .morningEntry | .stateChange =>
    [.regs, .events, .vectors, .compares, .motion, .plans, .inflight, .waits, .completions, .loops, .runQ, .pwms, .cles, .lps, .safe, .pw]
  | .firmwareStateDecision => [.regs, .loops, .pwms, .rm, .pw]
  | .firmwareRestartDone _ _ => [.regs, .events, .inflight, .waits, .completions, .groom, .tw, .log, .pw]
  | .refLost => [.regs, .events, .time]
  | .refReturn | .refInAcquire | .sysClkWrite _ => [.regs, .time]
  | .bar0ReadLowWord _ _ | .bar0ReadHighWord _ _ => [.regs, .reqs, .rdata, .stalls, .agents, .locks, .lockPtr, .nw]
  | .bar0WriteLowWord _ _ _ | .bar0WriteHighWord _ _ _ | .registerWrite _ _ _ | .hqWrite _ _ => Part.all
  | .unmappedAccess _ _ _ _ => [.regs, .rdata]
  | .badaccClr _ | .hostClrcnt => [.regs]
  | .bar2Write _ _ => [.regs, .dram]
  | .ringEnable _ _ | .ringDisable _ _ => [.regs, .vectors, .inflight, .waits, .completions, .host]
  | .ringDoorbell _ _ | .hostKick | .hostWatchdogExpire => [.regs, .events, .vectors, .time, .motion, .host]
  | .ringFetch _ _ _ => [.regs, .vectors, .inflight, .waits, .completions, .rdata, .groom, .host]
  | .commandCompletion _ => [.regs, .dram, .vectors, .inflight, .waits, .completions, .nw, .rm, .host]
  | .coalesceTimer _ => [.regs, .vectors, .time, .host]
  | .functionLevelReset | .pcieLinkDown | .perstAssert => [.regs, .dram, .events, .vectors, .inflight, .completions, .locks, .host]
  | .hqRead _ _ => [.regs, .reqs, .rdata, .stalls, .agents, .locks, .lockPtr, .nw, .host]
  | .hqStatus => [.rdata]
  | .streamPointMove _ _ _ => [.regs, .vectors, .motion, .inflight, .waits, .completions, .host]
  | .deliveryRecordWrite _ _ => [.regs, .dram, .vectors, .inflight, .waits, .completions, .nw, .cans, .host]
  | .pcieLinkUp _ _ => [.regs, .host]
  | .acyclicRequestReceive _ _ _ => Part.all
  | .acyclicSegmentTimeout | .acyclicResponseReceive _ _ => [.inflight, .waits, .completions, .rm]
  | .acyclic _ => [.regs, .inflight, .waits, .completions, .nw, .rm]
  | .holdTorqueEnd _ => [.time, .loops]
  | .nop _ | .identify _ => [.inflight, .waits, .completions]
  | .abort _ => [.regs, .vectors, .motion, .plans, .inflight, .waits, .completions, .pwms, .cles, .rm, .acq]
  | .setState _ => [.inflight, .waits, .completions, .pw]
  | .expert _ => [.regs, .inflight, .waits, .completions]
  | .setHamode _ => [.regs, .inflight, .waits, .completions, .host]
  | .token _ | .setClock _ => [.regs, .time, .inflight, .waits, .completions]
  | .assign _ => [.regs, .inflight, .waits, .completions, .assign, .lps]
  | .readReg _ => [.regs, .reqs, .inflight, .waits, .completions, .rdata, .stalls, .agents, .locks, .lockPtr, .nw]
  | .axisConfig _ | .auxConfig _ | .atcConfig _ => Part.all
  | .enable _ => [.regs, .inflight, .waits, .completions, .loops, .pwms, .cles]
  | .tripClear _ => [.regs, .events, .vectors, .inflight, .waits, .completions, .pwms, .trips]
  | .holdTorque _ => [.inflight, .waits, .completions, .loops]
  | .setSource _ => [.regs, .motion, .shafts, .inflight, .waits, .completions]
  | .movePtp _ | .moveLinear _ | .moveCirc _ | .moveSpline _ => [.regs, .motion, .plans, .inflight, .waits, .completions]
  | .movePvt _ => [.regs, .motion, .inflight, .waits, .completions]
  | .stop _ => [.stops, .inflight, .waits, .completions]
  | .phaseMove _ => [.motion, .inflight, .waits, .completions]
  | .groupConfig _ => Part.all
  | .gear _ | .camEngage _ | .camSwitch _ => [.regs, .motion, .inflight, .waits, .completions]
  | .camLoad _ => [.cams, .inflight, .waits, .completions]
  | .lsConfig _ | .vxConfig _ => Part.all
  | .loopParam _ | .loopFb _ | .cleBank _ | .cleConfig _ | .inject _ | .lawsel _ => Part.all
  | .tableLoad _ => [.pool, .inflight, .waits, .completions]
  | .tableRead _ => [.inflight, .waits, .completions]
  | .portConfig _ | .latchConfig _ | .compareArm _ | .coConfig _ | .regConfig _ => Part.all
  | .portCmd _ => [.regs, .ports, .inflight, .waits, .completions]
  | .latchRead _ => [.regs, .latches, .inflight, .waits, .completions]
  | .compareLoad _ => [.regs, .cmpRam, .compares, .inflight, .waits, .completions]
  | .regTarget _ => [.regs, .rcs, .inflight, .waits, .completions]
  | .switchConfig _ | .ramauxConfig _ => Part.all
  | .ptpConfig _ => [.inflight, .waits, .completions, .nw]
  | .ptpCorrect _ => [.regs, .events, .time, .inflight, .waits, .completions, .nw]
  | .ramauxTable _ => [.regs, .inflight, .waits, .completions]
  | .epochArm _ => [.regs, .inflight, .waits, .completions, .rm]
  | .canConfig _ | .canSend _ => Part.all
  | .canRead _ => [.regs, .inflight, .waits, .completions, .cans]
  | .canRecover _ => [.inflight, .waits, .completions, .cans]
  | .ioConfig _ => Part.all
  | .ioWrite _ => [.regs, .inflight, .waits, .completions, .io]
  | .ioRead _ => [.inflight, .waits, .completions]
  | .groupRearm _ => [.regs, .inflight, .waits, .completions]
  | .safeStatus _ => [.regs, .reqs, .inflight, .waits, .completions, .rdata, .stalls, .agents, .locks, .lockPtr, .nw]
  | .captureConfig _ => Part.all
  | .captureArm _ => [.regs, .inflight, .waits, .completions, .acq]
  | .captureRead _ | .logRead _ => [.inflight, .waits, .completions]
  | .logFreeze _ => [.regs, .time, .inflight, .waits, .completions, .log]
  | .logClear _ => [.regs, .inflight, .waits, .completions, .log]
  | .keyLoad _ | .keyErase _ | .tamperPolicy _ | .debugOpen _ => [.regs, .events, .vectors, .inflight, .waits, .completions, .sec]
  | .debugChallenge _ => [.inflight, .waits, .completions, .sec]
  | .fwWrite _ => [.fw, .events, .inflight, .waits, .completions, .pw]
  | .fwVerify _ => [.events, .inflight, .waits, .completions, .pw]
  | .fwRestart _ => [.events, .inflight, .waits, .completions, .groom, .locks, .tw, .pw]
  | .lpImage _ => [.regs, .lpData, .lpCode, .events, .inflight, .waits, .completions, .lps]
  | .safetySlot _ => [.regs, .inflight, .waits, .completions, .safe]
  | .twinConfig _ => Part.all
  | .twinStart _ => [.regs, .events, .vectors, .ports, .inflight, .waits, .completions, .tw]
  | .join _ => [.inflight, .waits, .completions]
  | .handover _ => [.regs, .inflight, .waits, .completions]
  | .nx2416Nop _ | .status _ | .goRun _ | .goStop _ | .goConfig _ | .axisOnOff _ | .faultReset _ | .moveAbs _ | .moveStop _
  | .gearOn _ | .gearOff _ | .outWrite _ | .inRead _ => Part.all

/-- A write by the PCIe requester to the register at `a` is applied: the module runs, and control level and operating state
allow it (R7, R28). -/
def State.hostMay (s : State) (a : Nat) : Prop := s.pw.phase = .running ∧ s.mayWrite 0 a = true
/-- A word has no reserved bit of the register at `a` set. -/
def wordOk (a v : Nat) : Bool :=
  match regHit a with
  | some h => !h.reserved v
  | none => true
/-- A request passes every check of R504 and R488: entry, payload, payload CRC. -/
def State.passes (s : State) (r : Req) (plen rlen : Nat) (pcrc : Option Nat) : Bool :=
  (s.entryFail r plen rlen).isNone && !(plen ≠ 0 && r.fault) &&
    !(plen ≠ 0 && (match pcrc with
      | some c => crc32c r.data != c
      | none => false))
/-- A command of opcode `op` starts and passes every check: the state in which it is in flight, and the request it makes.  Either
no ring holds its tag and it is given directly, or it is the entry of a ring that starts now (R484, R485, R504). -/
def State.admits (s : State) (c : Cmd) (op : Nat) : Option (State × Req) :=
  let r := cmdReq c op
  if !s.serves op then none
  else
    match s.inflight.find? fun i => i.tag == r.tag && !i.done with
    | none =>
      let s1 : State := { s with inflight := s.inflight ++ [{ tag := r.tag, opcode := op, ring := 128 }] }
      if s1.passes r r.data.length 0 none then some (s1, r) else none
    | some i =>
      if !s.startsNow i r then none
      else
        let s1 : State := { s with inflight := s.inflight.map fun j => if j.tag == r.tag then { j with started := true } else j }
        let q := s.entryPayload i.entry r
        if s1.passes q (ePlen i.entry) (eRlen i.entry) (if nbit (eFlags i.entry) 1 then some (bU i.entry 60 4) else none) then some (s1, q)
        else none

/-- A compatible packet of opcode `op` starts and its native command passes every check (R519, R504): the state in which it is in
flight, and the native command. -/
def State.admitsPacket (s : State) (c : Cmd) (op : Nat) : Option (State × Req) :=
  let r := cmdReq c op
  let pass := fun (s1 : State) (r : Req) (rlen : Nat) => match nxReq r with
    | none => none
    | some t => if (s1.entryFail t t.data.length rlen).isNone && (nxBad r).isNone then some (s1, t) else none
  if !s.serves op then none
  else
    match s.inflight.find? fun i => i.tag == r.tag && !i.done with
    | none => pass { s with inflight := s.inflight ++ [{ tag := r.tag, opcode := op, ring := 128 }] } r 0
    | some i =>
      if !s.startsNow i r then none
      else
        pass { s with inflight := s.inflight.map fun j => if j.tag == r.tag then { j with started := true } else j }
          (s.entryPayload i.entry r) (eRlen i.entry)

/-- One register of an image takes its value as a register write does; a read-only register keeps its own. -/
def State.imageRegPut (s : State) (h : Hit) (a v : Nat) : State :=
  if h.reg.fields.all (fun f => f.acc.isRo) then s else s.regApply false h a (v - h.bitsOf Acc.isRo v)
/-- It takes it whole: no reserved or write-only bit is set, and every writable field then reads as the image has it. -/
def State.imageRegTaken (s : State) (h : Hit) (a v : Nat) : Bool :=
  h.reg.fields.all (fun f => f.acc.isRo) ||
    (!h.reserved v && h.bitsOf Acc.isWo v == 0 &&
      h.reg.fields.all fun f => match f.acc with
        | .rw | .rwc =>
          let t := s.imageRegPut h a v
          nbit (t.actsRo h a) f.lo || nbits (t.regGet h a) f.hi f.lo == nbits v f.hi f.lo
        | _ => true)
/-- The registers of an image, written in turn. -/
def State.imagePut : State → List (Nat × Nat) → List Byte → State
  | s, [], _ => s
  | s, (a, k) :: rest, b =>
    (match regHit a with
      | some h => s.imageRegPut h a (bU b 0 k)
      | none => s).imagePut rest (b.drop k)
/-- Every one of them takes its value whole; words of no register are 0. -/
def State.imageTaken : State → List (Nat × Nat) → List Byte → Bool
  | _, [], _ => true
  | s, (a, k) :: rest, b =>
    match regHit a with
    | some h => s.imageRegTaken h a (bU b 0 k) && (s.imageRegPut h a (bU b 0 k)).imageTaken rest (b.drop k)
    | none => bU b 0 k == 0 && s.imageTaken rest (b.drop k)

/-- A step ends neither in a fault nor in a refusal. -/
def safeStep (s : State) : Prop := ∃ t, step s = .next t

/-! ### An LP at an instruction -/

/-- The register set in use of LPk as the instruction at its PC sees it: one slot on (R286). -/
def State.lpSet (s : State) (k : Nat) : LpSet := (s.lp k).cur.age
/-- LPk is in NORMAL, waits for nothing, and its next instruction lies neither in a delay slot nor in a repeat body. -/
def State.lpReady (s : State) (k : Nat) : Prop :=
  s.lpMode k = 1 ∧ (s.lp k).waitD = none ∧ (s.lp k).target = none ∧ (s.lpSet k).rep = []
/-- LPk has issued an instruction of `words` words that leaves the register set `q`. -/
def State.lpThen (s : State) (k words : Nat) (q : LpSet) : State :=
  s.modLp k fun l => { l.putCur q with pc := l.pc + words, target := none, waitD := none }

end Sys2Proof.Machine
end

