-- ==== Sys2Proof/Certificates/Slice0/Obligations.lean ====
section
/-! DEFINITION. The statements for the provers. A statement `…CommandsComplete` says of each command named in it that exec answers
the next state of the command's own effect, under conditions on the state and the operands alone. -/

open Sys2Proof Sys2Proof.Machine

/-- For every command c and state s whose queue starts with c, the step is exec of c on s with the queue's rest (what the model's queue stands for: log entry 14). (02_cycle_and_timebase.md, 16_host_rings.md). -/
def Obligations.StepRunsFrontCommand : Prop :=
  ∀ (s : State) (c : Instr) (rest : List Instr), s.pending = c :: rest → step s = exec c { s with pending := rest }

/-- On an empty queue a running module lets TB_TICK advance by one and changes nothing but time, and a module in reset stands still. This is the model's choice, log entry 1. (02_cycle_and_timebase.md R44). -/
def Obligations.IdleStepIsOneTick : Prop :=
  (∀ s : State, s.pending = [] → s.pw.phase = .running → ∃ t, step s = .next t ∧ t.tick = s.tick + 1 ∧ t.regs = s.regs ∧ t.mem = s.mem ∧
    t.events = s.events) ∧
  (∀ s : State, s.pending = [] → s.pw.phase ≠ .running → step s = .next s)

/-- State.reset has an empty queue, no command in flight, every register file and memory in canonical form, and holds module reset asserted (the model's choice of log entry 4). (22_startup_and_states.md R601). -/
def Obligations.ResetStateIsCanonical : Prop :=
  State.reset.canonical = true ∧ State.reset.pending = [] ∧ State.reset.inflight = [] ∧ State.reset.pw.phase = .held ∧ State.reset.time.tick = 0

/-- After reset TB_FRAME reads 4, EPn_CFG reads 0x4380, EPn_FILT reads 0x1900402 and SYS_STATE reads 0, for every port n. (02_cycle_and_timebase.md R46, 03_feedback_ports.md R96, 03_feedback_ports.md R97, 22_startup_and_states.md R613). -/
def Obligations.RegistersAtReset : Prop :=
  State.reset.rdN TB_FRAME = 4 ∧ (∀ n < 40, State.reset.rdN (EP_CFG n) = 0x4380 ∧ State.reset.rdN (EP_FILT n) = 0x1900402) ∧ State.reset.opState = 0

/-- From any state whose register file, staged values and memories are in canonical form (addresses strictly rising, no entry equal to what an unlisted address reads as), a step that answers a next state leaves them so. (01_architecture.md R35, 19_acquisition_hayloft.md R551). -/
def Obligations.StepKeepsCanonicalForm : Prop :=
  ∀ s t : State, s.canonical = true → step s = .next t → t.canonical = true

/-- If the front command's step answers a next state, every part of State that is not in the command's list keeps its value (frame of all 411 commands): registers, staged values, each memory, each engine. (01_architecture.md R14). -/
def Obligations.StepChangesOnlyTouchedParts : Prop :=
  ∀ (s t : State) (c : Instr) (rest : List Instr) (p : Part), s.pending = c :: rest → step s = .next t → p ∉ touches c → p.same { s with pending := rest } t

/-- After a step on a queue c :: rest the queue is rest, the ordering code is as before, and the counter of open values has not gone back, so that no open value is used twice. (00_scope.md R1). -/
def Obligations.CommandsKeepQueueAndFreeValues : Prop :=
  ∀ (s t : State) (c : Instr) (rest : List Instr), s.pending = c :: rest → step s = .next t →
    t.pending = rest ∧ t.variantF = s.variantF ∧ s.freeCount ≤ t.freeCount

/-- exec never answers a refusal, and the only fault it answers is reservedBit, for every command and state (R5 calls the response to a 1 in a reserved bit undefined; log entry 8). (00_scope.md R5). -/
def Obligations.OnlyReservedBitsStop : Prop :=
  ∀ (c : Instr) (s : State), (∀ r, exec c s ≠ .refused r) ∧ (∀ f, exec c s = .fault f → f = .reservedBit)

/-- A register write that the requester may make and that sets a reserved bit ends in the fault reservedBit, because R5 leaves the module's response undefined (log entry 8). (00_scope.md R5). -/
def Obligations.ReservedBitWriteFaults : Prop :=
  ∀ (s : State) (r : Fin 10) (a : BitVec 24) (v : Word) (h : Hit), s.pw.phase = .running → a.toNat % 4 = 0 → regHit a.toNat = some h → h.high = false →
    s.classOk r h = true → h.reserved v.toNat = true → exec (.registerWrite r a v) s = .fault .reservedBit

/-- A read of an unmapped offset, or an access of another width than a register's word, returns 0; a write of either kind changes no register but SYS_BADACC; all count in SYS_BADACC with the offset, and complete. (R37). -/
def Obligations.UnmappedOffsets : Prop :=
  (∀ (s : State) (r : Fin 10) (a : BitVec 24) (wr odd : Bool), s.canonical = true → s.pw.phase = .running → (odd = true ∨ isUnmapped a.toNat = true) →
    ∃ t, exec (.unmappedAccess r a wr odd) s = .next t ∧ (wr = false → t.rdata = 0) ∧
    t.get SYS_BADACC SYS_BADACC_COUNT = incSat SYS_BADACC_COUNT.w (s.get SYS_BADACC SYS_BADACC_COUNT) ∧
    t.get SYS_BADACC SYS_BADACC_OFFSET = a.toNat / 4 % 2 ^ SYS_BADACC_OFFSET.w ∧
    (∀ b, b ≠ SYS_BADACC → t.rd b = s.rd b) ∧ t.act = s.act ∧ t.mem = s.mem)

/-- For every signed 32-bit mantissa and signal and every shift of 0 to 62, the result is the saturation to S32 of a number q that lies within half a unit of the exact 64-bit product shifted right, is even on a tie, and is the product itself for a shift of 0. (R10). -/
def Obligations.LoopCoefficient : Prop :=
  ∀ (m x : Word) (sh : Nat), sh ≤ 62 → ∃ q : Int, coef m.toInt sh x.toInt = sat32 q ∧
    2 * absI (m.toInt * x.toInt - q * 2 ^ sh) ≤ 2 ^ sh ∧ (2 * absI (m.toInt * x.toInt - q * 2 ^ sh) = 2 ^ sh → q % 2 = 0) ∧
    (sh = 0 → q = m.toInt * x.toInt) ∧ -2 ^ 63 ≤ m.toInt * x.toInt ∧ m.toInt * x.toInt < 2 ^ 63 ∧
    -2 ^ 31 ≤ coef m.toInt sh x.toInt ∧ coef m.toInt sh x.toInt < 2 ^ 31

/-- At a ready LP, CMULR Dd, Ds, Dm, #sh puts the coefficient product of mantissa Dm and signal Ds with shift sh into Dd, and the accumulators A0 to A3 are unchanged. (R280). -/
def Obligations.CmulrFormsTheCoefficient : Prop :=
  ∀ (s : State) (k d x y : Fin 16) (sh : Fin 64), s.lpReady k → ∃ t, exec (.cmulr k d x y sh) s = .next t ∧
    (3, PendWr.d d (BitVec.ofInt 32 (coef ((s.lpSet k).D y).toInt sh ((s.lpSet k).D x).toInt))) ∈ (t.lp k).cur.pipe ∧
    (t.lp k).cur.acc = (s.lpSet k).acc ∧ (t.lp k).cur.accV = (s.lpSet k).accV

/-- With TRIM in effect within its limit and no step waiting, an idle tick advances module time by 2.5 ns + TRIM × 2^−32 ns. A write of NT_TRIM takes effect from the next tick, and one beyond ±10 737 418 is clamped and sets TRIMCLAMP. On a Watch the write has no effect (R332), which the second clause leaves out. (R319). -/
def Obligations.ModuleTimeFollowsTrim : Prop :=
  (∀ s : State, s.pending = [] → s.pw.phase = .running → s.time.stepPend = none → absI s.time.trim ≤ 10737418 → ∃ t, step s = .next t ∧
    (t.time.mt : Int) = s.time.mt + 10737418240 + s.time.trim) ∧
  (∀ (s : State) (v : Word), s.canonical = true → s.hostMay NT_TRIM → wordOk NT_TRIM v.toNat = true → s.isWatch = false → ∃ t,
    exec (.ntTrimWrite v) s = .next t ∧ t.time.mt = s.time.mt ∧
    t.time.trim = (if v.toInt < -10737418 then -10737418 else if 10737418 < v.toInt then 10737418 else v.toInt) ∧
    (v.toInt < -10737418 ∨ 10737418 < v.toInt → t.flag NT_STAT NT_STAT_TRIMCLAMP = true))

/-- STEPGO adds NT_STEP (2^−16 ns) to module time in the tick after it, in any state. SETGO loads NT_SETSEC and NT_SETNS in the tick after it in Morning and is ignored in every other state. Neither changes TRIM. The commands are those of a module that is not Watch. (R320). -/
def Obligations.StepsAndSettingsOfModuleTime : Prop :=
  (∀ s : State, s.hostMay NT_CTRL → s.isWatch = false → s.time.stepPend = none → ∃ t, exec .stepgo s = .next t ∧ t.time.trim = s.time.trim ∧
    (t.advanceTo (t.tick + 1)).time.mt = (((s.time.mt : Int) + s.rate).toNat + s.rd64I NT_STEP * 2 ^ 16).toNat ∧
    (t.advanceTo (t.tick + 1)).tick = s.tick + 1) ∧
  (∀ s : State, s.hostMay NT_CTRL → s.isWatch = false → s.inMorning = true → ∃ t, exec .setgo s = .next t ∧ t.time.trim = s.time.trim ∧
    (t.advanceTo (t.tick + 1)).time.mt = (s.rd64N NT_SETSEC % 2 ^ 48 * 1000000000 + s.get NT_SETNS NT_SETNS_V) * 2 ^ 32) ∧
  (∀ s : State, s.hostMay NT_CTRL → s.isWatch = false → s.inMorning = false → exec .setgo s = .next s)

/-- When the fetch of the ring's next entry from host memory, or the write of a completion of one of its commands, fails, DMAERR is set, event group E7 is raised in HOST_EVT and the ring's EN is cleared. (R482). -/
def Obligations.FailedBusAccessStopsRing : Prop :=
  (∀ (s : State) (n : Fin 128) (bus : List Byte), s.canonical = true → s.ringNext = some n.val → s.flag (RING_CFG n) RING_CFG_LOC = false →
    ∃ t, exec (.ringFetch n bus true) s = .next t ∧ t.flag (RING_STAT n) RING_STAT_DMAERR = true ∧ nbit (t.rdN HOST_EVT) 7 = true ∧
    t.ringOn n = false) ∧
  (∀ (s : State) (c : Completion) (rest : List Completion), s.canonical = true → s.completions = c :: rest → c.dup = false → c.peer = none → c.ring < 128 →
    (∃ i ∈ s.inflight, i.tag = c.tag) → (∀ i ∈ s.inflight, i.tag = c.tag → i.drop = false) → ∃ t, exec (.commandCompletion true) s = .next t ∧
    t.flag (RING_STAT c.ring) RING_STAT_DMAERR = true ∧ nbit (t.rdN HOST_EVT) 7 = true ∧ t.ringOn c.ring = false)

/-- At a ready LP, a write of XLi with BR = 1 sets XLi to the length with BR where the length is 2^k with k from 3 to 17, and leaves XLi unchanged with any other length. (R275). -/
def Obligations.BitReversedLengths : Prop :=
  (∀ (s : State) (k : Fin 16) (kind i : Fin 8) (d : Fin 16) (j : Fin 15), s.lpReady k → kind.val = 3 →
    ((s.lpSet k).D d).toNat % 2 ^ 18 = 2 ^ (j.val + 3) →
    exec (.setx k kind i (.reg d)) s = .next (s.lpThen k 1 ((s.lpSet k).put 3 (.xl i (BitVec.ofNat 19 (2 ^ 18 + 2 ^ (j.val + 3))))))) ∧
  (∀ (s : State) (k : Fin 16) (kind i : Fin 8) (d : Fin 16), s.lpReady k → kind.val = 3 →
    (∀ j < 15, ((s.lpSet k).D d).toNat % 2 ^ 18 ≠ 2 ^ (j + 3)) → exec (.setx k kind i (.reg d)) s = .next (s.lpThen k 1 (s.lpSet k)))

/-- The corrected boundary lies within 1/32 tick for each full 250 ticks of the period of its nominal place, lies at its ideal instant where the allowance suffices, and SLIP is set exactly where it does not. (02_cycle_and_timebase.md R47). -/
def Obligations.BoundaryCorrectionIsBounded : Prop :=
  ∀ (nominal ideal p : Nat), p / 250 ≤ nominal → (correct nominal ideal p).1 ≤ nominal + p / 250 ∧ nominal ≤ (correct nominal ideal p).1 + p / 250 ∧
    (absI ((ideal : Int) - nominal) ≤ (p / 250 : Nat) → (correct nominal ideal p).1 = ideal) ∧
    ((correct nominal ideal p).2 = true ↔ ((p / 250 : Nat) : Int) < absI ((ideal : Int) - nominal))

/-- A host write of SYS_GROOM sets AFWIN in Morning where it is at most 800 and is ignored with a greater value and in every other state. (18_groom_mailboxes_locks.md R530). -/
def Obligations.GroomWindowSetting : Prop :=
  (∀ (s : State) (r : Fin 10) (v : Word), s.pw.phase = .running → s.mayWrite r SYS_GROOM = true → wordOk SYS_GROOM v.toNat = true → s.inMorning = true →
    v.toNat ≤ 800 → exec (.registerWrite r (BitVec.ofNat 24 SYS_GROOM) v) s = .next { s with groom := { s.groom with afwin := v.toNat } }) ∧
  (∀ (s : State) (r : Fin 10) (v : Word), s.pw.phase = .running → s.mayWrite r SYS_GROOM = true → wordOk SYS_GROOM v.toNat = true →
    (s.inMorning = false ∨ 800 < v.toNat) → exec (.registerWrite r (BitVec.ofNat 24 SYS_GROOM) v) s = .next s)

/-- Where a command whose tag no entry in flight uses is admitted, its request carries the command's tag, opcode, unit, parameters and payload, and the command is in flight with that opcode and nothing else has changed. (16_host_rings.md R477, 17_command_reference.md R504). -/
def Obligations.AdmittedRequestIsTheCommand : Prop :=
  ∀ (s s1 : State) (c : Cmd) (op : Nat) (r : Req), s.admits c op = some (s1, r) → (∀ i ∈ s.inflight, i.tag ≠ c.tag.toNat) →
    r.tag = c.tag.toNat ∧ r.op = op ∧ r.unit = c.unit.toNat ∧ r.p = c.p.toList.map (·.toNat) ∧ r.data = (cmdReq c op).data ∧
    s1 = { s with inflight := s.inflight ++ [{ tag := r.tag, opcode := op, ring := 128 }] }

/-- Each of the commands POWER_ON_RESET, BROWN_OUT, CLOCK_RESET, RESET_RELEASE, PLL_LOCK, DRAM_INIT_DONE, BOOT_IMAGE_SELECT and FIRMWARE_START answers the next state of its own effect under the conditions on the state that the rules give. (22_startup_and_states.md R601, 22_startup_and_states.md R604, 22_startup_and_states.md R605). -/
def Obligations.StartupResetCommandsComplete : Prop :=
  (∀ s : State, s.pw.vin = false → s.pw.low = true → ∃ t, exec .powerOnReset s = .next t ∧
    t.pw.phase = .held ∧ t.pw.vin = true ∧ t.pw.low = false ∧ t.pw.cause = 1 ∧ t.pw.resets = min 65535 (s.pw.resets + 1) ∧
    t.mem.dram = s.mem.dram ∧ t.inflight = [] ∧ t.time = {}) ∧
  (∀ s : State, s.pw.vin = true → ∃ t, exec .brownOut s = .next t ∧ t.pw.phase = .held ∧ t.pw.cause = 2 ∧
    t.pw.resets = min 65535 (s.pw.resets + 1) ∧ t.mem.dram = s.mem.dram ∧ t.inflight = [] ∧ t.time = {}) ∧
  (∀ s : State, s.pw.vin = true → ∃ t, exec .clockReset s = .next t ∧ t.pw.phase = .held ∧ t.pw.cause = 3 ∧
    t.pw.resets = min 65535 (s.pw.resets + 1) ∧ t.mem.dram = s.mem.dram ∧ t.inflight = [] ∧ t.time = {}) ∧
  (∀ s : State, s.pw.vin = true → s.pw.phase = .held → s.sec.dirBad = false →
    ∃ t, exec .resetRelease s = .next t ∧ t.pw = { s.pw with phase := .released } ∧ t.time = s.time ∧ t.mem.dram = s.mem.dram) ∧
  (∀ s : State, s.canonical = true → s.pw.phase = .released → ∃ t, exec .pllLock s = .next t ∧ t.pw = { s.pw with phase := .running } ∧
    t.flag SYS_CLK SYS_CLK_LOCK = true ∧ t.time = s.time ∧ ∀ a, a ≠ SYS_CLK → t.rd a = s.rd a) ∧
  (∀ (s : State) (bad : Bool), s.pw.phase = .running → s.pw.dram = false → ∃ t, exec (.dramInitDone bad) s = .next t ∧
    t.pw = { s.pw with dram := true, dramBad := bad } ∧ t.tick = max s.tick 67108864 ∧ (bad = false → s.pw.tested = false → t.regs = s.regs)) ∧
  (∀ (s : State) (pref other : BootImage), s.pw.phase = .running → s.pw.booted = false → s.bootFault pref = 0 →
    ∃ t, exec (.bootImageSelect pref other) s = .next t ∧ t.pw.booted = true ∧ t.pw.imageB = s.pw.prefB ∧ t.pw.prefB = s.pw.prefB ∧
    t.pw.svn = pref.svn.toNat ∧ t.tick = max s.tick (4194304 + 800000 * pref.mib.toNat)) ∧
  (∀ (s : State) (pref other : BootImage), s.pw.phase = .running → s.pw.booted = false → s.bootFault pref ≠ 0 → s.bootFault other = 0 →
    ∃ t, exec (.bootImageSelect pref other) s = .next t ∧ t.pw.booted = true ∧ t.pw.imageB = !s.pw.prefB ∧ t.pw.prefB = !s.pw.prefB ∧
    t.pw.svn = other.svn.toNat) ∧
  (∀ (s : State) (utc : Option Word64) (torn : Bool), s.pw.booted = true → s.pw.fwRun = false → s.inDawn = true → s.pw.phase = .running →
    s.pw.restart = none → ∃ t, exec (.firmwareStart utc torn) s = .next t ∧ t.pw.fwRun = true ∧ t.pw.fwAt = s.pw.bootAt ∧
    t.tick = max s.tick s.pw.bootAt ∧ t.log.torn = torn) ∧
  (∀ (s : State) (u : Word64) (torn : Bool), s.pw.booted = true → s.pw.fwRun = false → s.inDawn = true → s.pw.phase = .running →
    s.pw.restart = none → s.log.calBad = false → ∃ t, exec (.firmwareStart (some u) torn) s = .next t ∧
    t.time.mt = (((u.toNat : Int) + s.pw.ofs) * second32).toNat)

/-- Each of SELF_TEST_DONE, MORNING_ENTRY, STATE_CHANGE, FIRMWARE_STATE_DECISION, YARD_WATCHDOG_EXPIRE, SYS_RESET_WRITE, REF_LOST, REF_RETURN, REF_IN_ACQUIRE, SYS_CLK_WRITE, FIRMWARE_RESTART_DONE and POWER_LOSS answers the next state of its own effect. (22_startup_and_states.md R606, 22_startup_and_states.md R607, 22_startup_and_states.md R610, 01_architecture.md R18, 01_architecture.md R20). -/
def Obligations.StateChangeCommandsComplete : Prop :=
  (∀ (s : State) (sram fabric pwm : Bool) (cle : Byte) (lp : BitVec 16), s.pw.fwRun = true → s.inDawn = true → s.pw.tested = false →
    ∃ t, exec (.selfTestDone sram fabric pwm cle lp) s = .next t ∧ t.pw.tested = true ∧ t.tick = max s.tick (s.pw.fwAt + 10000000)) ∧
  (∀ s : State, s.inDawn = true → s.pw.fwRun = true → s.pw.dram = true → s.pw.tested = true → s.flag SYS_STEST SYS_STEST_PASS = true →
    s.atFrame = true → (∀ k < 16, s.get (LP_BANKA k) LP_BANKA_STATE = 2 ∨ s.lpMode k = 3) →
    exec .morningEntry s = .next (s.enter 1 2)) ∧
  (∀ (s : State) (c : Nat), s.pw.decided = some (4, c) → s.pw.want = none →
    exec .stateChange s = .next ((s.modPw fun p => { p with decided := none }).enter 4 c)) ∧
  (∀ (s : State) (tag c : Nat), s.pw.decided = none → s.pw.want = some (2, tag, c) → s.atFrame = true →
    exec .stateChange s = .next (((s.enter 2 c).modPw fun p => { p with want := none }).finish tag .ok)) ∧
  (∀ (s : State) (tag c : Nat), s.pw.decided = none → s.pw.want = some (1, tag, c) → s.atFrame = true → s.inNoon = true →
    exec .stateChange s = .next (s.enter 3 1)) ∧
  (∀ s : State, s.pw.fwRun = true → ∃ t, exec .firmwareStateDecision s = .next t ∧ t.pw.seen = s.events.length ∧ t.events = s.events) ∧
  (∀ s : State, s.pw.fwRun = true → s.pw.wdFirst = none → ∃ t, exec .yardWatchdogExpire s = .next t ∧
    t.pw.fwRun = false ∧ t.pw.wdFirst = some s.tick ∧ t.pw.restart = some (s.tick, s.pw.imageB, none) ∧ t.groom.stopped = true) ∧
  (∀ (s : State) (t0 : Nat), s.pw.fwRun = true → s.pw.wdFirst = some t0 → s.tick ≤ t0 + 24000000000 → ∃ t,
    exec .yardWatchdogExpire s = .next t ∧ t.pw.phase = .held ∧ t.pw.cause = 4) ∧
  (∀ (s : State) (v : Word), s.hostMay SYS_RESET → wordOk SYS_RESET v.toNat = true → v.toNat % 65536 = 0xDA57 →
    (s.inNight = true ∨ s.inMorning = true ∧ (s.atFrame = true → s.pw.decided = none → ∀ x, s.pw.want ≠ some (2, x))) →
    ∃ t, exec (.sysResetWrite v) s = .next t ∧ t.pw.phase = .held ∧ t.pw.cause = 5) ∧
  (∀ (s : State) (v : Word) (x : Nat × Nat), s.hostMay SYS_RESET → wordOk SYS_RESET v.toNat = true → s.inMorning = true → s.atFrame = true →
    s.pw.decided = none → s.pw.want = some (2, x) → exec (.sysResetWrite v) s = .next (s.badAcc SYS_RESET true)) ∧
  (∀ s : State, s.canonical = true → s.time.refWait = true → ∃ t, exec .refLost s = .next t ∧ t.flag SYS_CLK SYS_CLK_REF_LOST = true ∧
    t.get SYS_CLK SYS_CLK_ACTIVE_SRC = 0 ∧ t.time = { s.time with refGone := true, refWait := false } ∧ ∀ a, a ≠ SYS_CLK → t.rd a = s.rd a) ∧
  (∀ s : State, s.canonical = true → s.time.refGone = true → s.flag SYS_CLK SYS_CLK_AUTO_RET = true → ∃ t, exec .refReturn s = .next t ∧
    t.get SYS_CLK SYS_CLK_ACTIVE_SRC = s.get SYS_CLK SYS_CLK_SRC ∧ t.time = { s.time with refGone := false, refWait := false } ∧
    ∀ a, a ≠ SYS_CLK → t.rd a = s.rd a) ∧
  (∀ s : State, s.canonical = true → s.time.refWait = true → ∃ t, exec .refInAcquire s = .next t ∧
    t.get SYS_CLK SYS_CLK_ACTIVE_SRC = s.get SYS_CLK SYS_CLK_SRC ∧ t.time = { s.time with refWait := false, refGone := false } ∧
    ∀ a, a ≠ SYS_CLK → t.rd a = s.rd a) ∧
  (∀ (s : State) (v : Word), s.canonical = true → s.hostMay SYS_CLK → wordOk SYS_CLK v.toNat = true → s.inMorning = true → v.toNat % 4 ≠ 3 →
    ∃ t, exec (.sysClkWrite v) s = .next t ∧ t.get SYS_CLK SYS_CLK_SRC = v.toNat % 4 ∧ t.time.refGone = false ∧
    (nbit v.toNat 6 = true → t.flag SYS_CLK SYS_CLK_REF_LOST = false) ∧ ∀ a, a ≠ SYS_CLK → t.rd a = s.rd a) ∧
  (∀ (s : State) (ok : Bool) (svn : Word) (t0 : Nat) (b : Bool), s.pw.restart = some (t0, b, none) → ∃ t, exec (.firmwareRestartDone ok svn) s = .next t ∧
    t.pw.fwRun = true ∧ t.pw.restart = none ∧ t.pw.imageB = (if ok then b else s.pw.imageB) ∧ t.groom.stopped = false ∧
    t.freeCount = s.freeCount + 2) ∧
  (∀ (s : State) (vbat : Bool), ∃ t, exec (.powerLoss vbat) s = .next t ∧ t.pw.phase = .held ∧ t.pw.vin = false ∧ t.pw.low = true ∧
    t.mem = { fw := s.mem.fw } ∧ t.time = {})

/-- Reads and writes of low, high and single words, unmapped accesses, CLR of SYS_BADACC and BAR2 writes answer the next state of their own effect. (01_architecture.md R36, 01_architecture.md R37, 01_architecture.md R38, 16_host_rings.md R474). -/
def Obligations.Bar0CommandsComplete : Prop :=
  (∀ (s : State) (r : Fin 10) (a : BitVec 24) (h : Hit), s.pw.phase = .running → a.toNat % 4 = 0 → regHit a.toNat = some h →
    h.reg.wide = true → h.high = false → ∃ t, exec (.bar0ReadLowWord r a) s = .next t ∧
    t.rdata = (BitVec.ofNat 64 (s.regVal r h a.toNat)).setWidth 32 ∧
    (t.reqOf r).latch = some (a.toNat, BitVec.ofNat 64 (s.regVal r h a.toNat)) ∧ t.regs = s.regs) ∧
  (∀ (s : State) (r : Fin 10) (a : BitVec 24) (h : Hit) (v : Word64), s.pw.phase = .running → a.toNat % 4 = 0 → regHit a.toNat = some h →
    h.reg.wide = true → h.high = true → (s.reqOf r).latch = some (a.toNat - 4, v) → ∃ t, exec (.bar0ReadHighWord r a) s = .next t ∧
    t.rdata = (v >>> 32).setWidth 32 ∧ t.regs = s.regs) ∧
  (∀ (s : State) (r : Fin 10) (a : BitVec 24) (h : Hit), s.pw.phase = .running → a.toNat % 4 = 0 → regHit a.toNat = some h →
    h.reg.wide = true → h.high = true → (s.reqOf r).latch = none → ∃ t, exec (.bar0ReadHighWord r a) s = .next t ∧
    t.rdata = BitVec.ofNat 32 (s.regVal r h (a.toNat - 4) / 2 ^ 32) ∧ t.regs = s.regs) ∧
  (∀ (s : State) (r : Fin 10) (a : BitVec 24) (v : Word) (h : Hit), s.pw.phase = .running → a.toNat % 4 = 0 → regHit a.toNat = some h →
    h.reg.wide = true → h.high = false → s.classOk r h = true → h.reserved v.toNat = false →
    ∃ t, exec (.bar0WriteLowWord r a v) s = .next t ∧ (t.reqOf r).hold = some (a.toNat, v) ∧ t.regs = s.regs) ∧
  (∀ (s : State) (r : Fin 10) (a : BitVec 24) (v lo : Word) (h : Hit), s.pw.phase = .running → a.toNat % 4 = 0 → regHit a.toNat = some h →
    h.reg.wide = true → h.high = true → s.classOk r h = true → h.reserved (v.toNat * 2 ^ 32) = false →
    (s.reqOf r).hold = some (a.toNat - 4, lo) → exec (.bar0WriteHighWord r a v) s =
      .next ((s.modReq r fun q => { q with hold := none }).regApply (r.val == 1) h (a.toNat - 4) (v ++ lo).toNat)) ∧
  (∀ (s : State) (r : Fin 10) (a : BitVec 24) (odd : Bool), s.canonical = true → s.pw.phase = .running → (odd = true ∨ isUnmapped a.toNat = true) →
    ∃ t, exec (.unmappedAccess r a true odd) s = .next t ∧
    t.get SYS_BADACC SYS_BADACC_COUNT = incSat SYS_BADACC_COUNT.w (s.get SYS_BADACC SYS_BADACC_COUNT) ∧
    t.get SYS_BADACC SYS_BADACC_OFFSET = a.toNat / 4 % 2 ^ SYS_BADACC_OFFSET.w ∧ t.flag SYS_BADACC SYS_BADACC_REASON = false ∧
    ∀ b, b ≠ SYS_BADACC → t.rd b = s.rd b) ∧
  (∀ (s : State) (r : Fin 10) (a : BitVec 24) (odd : Bool), s.pw.phase = .running → (odd = true ∨ isUnmapped a.toNat = true) →
    ∃ t, exec (.unmappedAccess r a false odd) s = .next t ∧ t.rdata = 0 ∧ t.rd SYS_BADACC = (s.badAcc a.toNat false).rd SYS_BADACC) ∧
  (∀ (s : State) (r : Fin 10) (a : BitVec 24) (v : Word) (h : Hit), s.pw.phase = .running → a.toNat % 4 = 0 → regHit a.toNat = some h →
    h.reg.wide = false → h.high = false → s.classOk r h = true → h.reserved v.toNat = false →
    exec (.registerWrite r a v) s = .next (s.regApply (r.val == 1) h a.toNat v.toNat)) ∧
  (∀ (s : State) (r : Fin 10), s.canonical = true → s.pw.phase = .running → s.mayWrite r SYS_BADACC = true →
    ∃ t, exec (.badaccClr r) s = .next t ∧ t.rd SYS_BADACC = 0 ∧ ∀ b, b ≠ SYS_BADACC → t.rd b = s.rd b) ∧
  (∀ (s : State) (o : BitVec 28) (data : List Byte), data ≠ [] → o.toNat % 64 + data.length ≤ 64 → 12 ≤ s.get HOST_B2PAGE HOST_B2PAGE_V →
    ∃ t, exec (.bar2Write o data) s = .next t ∧
    t.mem = { s.mem with dram := wmPut s.mem.dram (s.get HOST_B2PAGE HOST_B2PAGE_V * 0x10000000 + o.toNat) data } ∧ t.regs = s.regs) ∧
  (∀ (s : State) (o : BitVec 28) (data : List Byte), data ≠ [] → o.toNat % 64 + data.length ≤ 64 → s.get HOST_B2PAGE HOST_B2PAGE_V < 12 →
    exec (.bar2Write o data) s = .next (s.count HOST_CNT0 HOST_CNT0_B2REFUSED))

/-- Enabling and disabling a ring, doorbells, fetches, completions, the coalescing timer, Function Level Reset, link-down and HQ reads answer the next state of their own effect. (16_host_rings.md R476, 16_host_rings.md R480, 16_host_rings.md R481, 16_host_rings.md R485, 16_host_rings.md R489, 16_host_rings.md R490). -/
def Obligations.RingCommandsComplete : Prop :=
  (∀ (s : State) (n : Fin 128) (v : Word), s.canonical = true → s.hostMay (RING_CFG n) → wordOk (RING_CFG n) v.toNat = true →
    nbit v.toNat 31 = true → nbits v.toNat 27 26 = 0 → depthOk (v.toNat % 8192) = true → v.toNat % 8192 ≠ 0 → s.ringOn n = false →
    s.flag (RING_STAT n) RING_STAT_ACTIVE = false → ∃ t, exec (.ringEnable n v) s = .next t ∧ t.ringOn n = true ∧
    t.flag (RING_STAT n) RING_STAT_ACTIVE = true ∧ t.rd (RING_TAIL n) = 0 ∧ t.rd (RING_HEAD n) = 0 ∧ t.rd (RING_CQTAIL n) = 0 ∧
    t.rd (RING_CQHEAD n) = 0 ∧ t.inflight = s.inflight ∧ t.completions = s.completions) ∧
  (∀ (s : State) (n : Fin 128) (v : Word), s.hostMay (RING_CFG n) → wordOk (RING_CFG n) v.toNat = true → nbit v.toNat 31 = false →
    s.ringOn n = true → exec (.ringDisable n v) s = .next (s.ringStop n)) ∧
  (∀ (s : State) (n : Fin 128) (v : Word), s.canonical = true → s.hostMay (RING_TAIL n) → wordOk (RING_TAIL n) v.toNat = true →
    s.ringMode n ≠ 1 → s.flag HOST_WDT HOST_WDT_KICKDB = false → count16 (v.toNat % 65536) (s.cqHead n) ≤ s.ringDepth n →
    ∃ t, exec (.ringDoorbell n v) s = .next t ∧ t.rdN (RING_TAIL n) = v.toNat % 65536 ∧ ∀ b, b ≠ RING_TAIL n → t.rd b = s.rd b) ∧
  (∀ (s : State) (n : Fin 128) (bus : List Byte), s.canonical = true → s.ringNext = some n.val → s.flag (RING_CFG n) RING_CFG_LOC = false →
    bus.length = 64 → s.flag (RING_CFG n) RING_CFG_CRCREQ = false → nbit (eFlags bus) 0 = false → eReserved bus = false →
    (∀ i ∈ s.inflight, i.peer = none → i.tag % 4096 ≠ eTag bus % 4096) → (s.ring n).hq = false →
    ∃ t, exec (.ringFetch n bus false) s = .next t ∧ t.rdN (RING_HEAD n) = (s.ringHead n + 1) % 65536 ∧
    t.inflight = s.inflight ++ [{ tag := eTag bus, opcode := eOpcode bus, ring := n, sqidx := s.ringHead n, rlen := eRlen bus, raddr := bU bus 48 8,
                                  rloc := nbit (eFlags bus) 4, started := false, entry := bus }] ∧ t.completions = s.completions) ∧
  (∀ (s : State) (c : Completion) (rest : List Completion), s.completions = c :: rest → c.dup = false → c.peer = none → c.ring < 128 →
    (∃ i ∈ s.inflight, i.tag = c.tag) → (∀ i ∈ s.inflight, i.tag = c.tag → i.drop = false) → ∃ t, exec (.commandCompletion false) s = .next t ∧
    t.completions = rest ∧ t.inflight = s.inflight.filter fun i => !(i.tag == c.tag)) ∧
  (∀ (s : State) (n : Fin 128), s.get (RING_IMOD n) RING_IMOD_ITIME ≠ 0 → (s.ring n).unsig ≠ 0 → (s.ring n).hq = false →
    s.flag (MSIX_CTRL n) MSIX_CTRL_MASK = false → ∃ t, exec (.coalesceTimer n) s = .next t ∧ t.vectors = s.vectors ++ [n.val] ∧
    (t.ring n).unsig = 0 ∧ t.tick = max s.tick ((s.ring n).unsigAt + 400 * s.get (RING_IMOD n) RING_IMOD_ITIME) ∧ t.regs = s.regs) ∧
  (∀ s : State, s.canonical = true → ∃ t, exec .functionLevelReset s = .next t ∧ t.flag HOST_STAT HOST_STAT_FLRSEEN = true ∧
    (∀ i ∈ t.inflight, i.peer = none → i.ring < 128 → i.drop = true ∧ (i.started = true ∨ i.done = true)) ∧ t.mem = s.cqUndo.mem ∧ t.motion = s.motion) ∧
  (∀ s : State, s.canonical = true → ∃ t, exec .pcieLinkDown s = .next t ∧ t.get HOST_STAT HOST_STAT_SPEED = 0 ∧
    t.get HOST_STAT HOST_STAT_WIDTH = 0 ∧ t.mem = s.cqUndo.mem ∧ t.motion = s.motion) ∧
  (∀ (s : State) (a : Word), 0x80000000 ≤ a.toNat → a.toNat < 0xC0000000 → a.toNat % 4 = 0 → ∃ t, exec (.hqRead a 1) s = .next t ∧
    t.rdata = wmGet s.mem.dram ((a.toNat + 0x40000000) / 4) ∧ t.host.hqRead = [wmGet s.mem.dram ((a.toNat + 0x40000000) / 4)] ∧
    t.regs = s.regs ∧ t.mem = s.mem)

/-- HQ writes and status, HOST_KICK, the host watchdog, CLRCNT, stream points, delivery records, link-up and PERST# answer the next state of their own effect. (16_host_rings.md R477, 16_host_rings.md R491, 16_host_rings.md R497, 16_host_rings.md R498, 16_host_rings.md R502). -/
def Obligations.HostLinkCommandsComplete : Prop :=
  (∀ (s : State) (a w : Word), 0x80000000 ≤ a.toNat → a.toNat < 0xC0000000 → ∃ t, exec (.hqWrite a [w]) s = .next t ∧
    t.mem = { s.mem with dram := wmPut s.mem.dram (a.toNat + 0x40000000) (leBytes 4 w.toNat) } ∧ t.host.hqRefused = false ∧ t.regs = s.regs) ∧
  (∀ s : State, exec .hqStatus s = .next { s with rdata := BitVec.ofNat 32 (b2n s.hqInt + 2 * b2n s.host.hqRefused) }) ∧
  (∀ s : State, s.hostMay HOST_KICK → ∃ t, exec .hostKick s = .next t ∧ t.host.kickAt = s.tick ∧ t.host.wdOff = false ∧
    ((s.get HOST_WDT HOST_WDT_TIMEOUT = 0 ∨ s.host.wdOff = true ∨ s.tick / 2 < (s.host.kickAt + 400000 * s.get HOST_WDT HOST_WDT_TIMEOUT) / 2) →
      t.regs = s.regs)) ∧
  (∀ s : State, s.get HOST_WDT HOST_WDT_TIMEOUT ≠ 0 → s.host.wdOff = false → ∃ t, exec .hostWatchdogExpire s = .next t ∧
    t.host.wdOff = true ∧ t.tick = max s.tick (s.host.kickAt + 400000 * s.get HOST_WDT HOST_WDT_TIMEOUT) ∧
    t.events.length = s.events.length + 1) ∧
  (∀ s : State, s.canonical = true → s.hostMay HOST_CMD → ∃ t, exec .hostClrcnt s = .next t ∧ t.rd HOST_CNT0 = 0 ∧
    ∀ n < 128, t.rd (RING_CNT n) = 0) ∧
  (∀ (s : State) (n : Fin 128) (e : List Byte), s.canonical = true → s.ringOn n = true → s.ringMode n = 1 → s.ringHead n ≠ s.ringTail n →
    s.get (RING_BIND n) RING_BIND_UNIT < 80 → (s.mo (s.get (RING_BIND n) RING_BIND_UNIT)).points.length ≤ 62 →
    s.get (RING_BIND n) RING_BIND_LOWAT = 0 → nbit (bU (e.take 32) 16 1) 0 = true → nbit (bU (e.drop 32) 16 1) 0 = false →
    (s.ring n).lastFrame = none → ∃ t, exec (.streamPointMove n e false) s = .next t ∧
    t.rdN (RING_HEAD n) = (s.ringHead n + 1) % 65536 ∧
    (t.mo (s.get (RING_BIND n) RING_BIND_UNIT)).points =
      (s.mo (s.get (RING_BIND n) RING_BIND_UNIT)).points ++ [(bU (e.take 32) 0 8, bS (e.take 32) 8 8, s.tick)]) ∧
  (∀ (s : State) (n : Fin 128) (port st seq : Nat) (off delay : Int) (rest : List (Nat × Int × Int × Nat × Nat)), s.ringOn n = true →
    s.ringMode n = 2 → s.get (RING_BIND n) RING_BIND_UNIT = 0x10 → s.nw.ptp.recs = (port, off, delay, st, seq) :: rest →
    1 ≤ s.ringDepth n - count16 (s.cqTail n) (s.cqHead n) → ∃ t, exec (.deliveryRecordWrite n false) s = .next t ∧
    t.nw.ptp.recs = rest ∧ t.nw.ptp.lost = 0) ∧
  (∀ (s : State) (speed : Fin 3) (two : Bool), s.canonical = true → s.pw.phase = .running → ∃ t, exec (.pcieLinkUp speed two) s = .next t ∧
    t.get HOST_STAT HOST_STAT_SPEED = speed.val + 1 ∧ t.get HOST_STAT HOST_STAT_WIDTH = 1 + b2n two ∧ t.host.perst = false ∧
    ∀ b, b ≠ HOST_STAT → t.rd b = s.rd b) ∧
  (∀ s : State, ∃ t, exec .perstAssert s = .next t ∧ t.host.perst = true ∧ t.mem = s.cqUndo.mem ∧ t.motion = s.motion)

/-- FRAME_BOUNDARY, FRAME_LENGTH_WRITE, the position, velocity and current boundaries of an axis and TB_CHANGE_EFFECT answer the next state of their own effect. (02_cycle_and_timebase.md R45, 02_cycle_and_timebase.md R48, 02_cycle_and_timebase.md R49, 02_cycle_and_timebase.md R50). -/
def Obligations.BoundaryCommandsComplete : Prop :=
  (∀ s : State, s.pw.phase = .running → s.time.stepPend = none → ∃ t, exec .frameBoundary s = .next t ∧
    t.time.frameNum = s.nextFrame.1 ∧ t.time.frameStart = s.nextFrame.2.1 ∧ t.time.frameNext = s.nextFrame.1 + 1 ∧
    t.time.m = s.get TB_FRAME TB_FRAME_M ∧ t.time.rephase = false ∧ t.tick = max s.tick (s.nextFrame.2.1 / 32)) ∧
  (∀ (s : State) (v : Word), s.hostMay TB_FRAME → wordOk TB_FRAME v.toNat = true →
    exec (.frameLengthWrite v) s = .next (s.regStore TB_FRAME v.toNat)) ∧
  (∀ (s : State) (n : Fin 80), s.pw.phase = .running → (s.grid n).posDue = false → (s.nextBoundary n (s.posCells n)).1 ≤ s.time.frameNum →
    ∃ t, exec (.positionBoundary n) s = .next t ∧ (t.grid n).fr = (s.nextBoundary n (s.posCells n)).1 ∧
    (t.grid n).k = (s.nextBoundary n (s.posCells n)).2.1 ∧ (t.grid n).last = (s.nextBoundary n (s.posCells n)).2.2.1 ∧
    t.tick = max s.tick ((s.nextBoundary n (s.posCells n)).2.2.1 / 32)) ∧
  (∀ (s : State) (n : Fin 32), s.pw.phase = .running → (s.grid n).velDue = false → (s.nextBoundary n (s.velCells n)).1 ≤ s.time.frameNum →
    ∃ t, exec (.velocityBoundary n) s = .next t ∧ (t.grid n).fr = (s.nextBoundary n (s.velCells n)).1 ∧
    (t.grid n).k = (s.nextBoundary n (s.velCells n)).2.1 ∧ (t.grid n).last = (s.nextBoundary n (s.velCells n)).2.2.1 ∧
    t.tick = max s.tick ((s.nextBoundary n (s.velCells n)).2.2.1 / 32)) ∧
  (∀ (s : State) (n : Fin 32), s.pw.phase = .running → (s.grid n).curDue = false → (s.nextBoundary n 1).1 ≤ s.time.frameNum →
    ∃ t, exec (.currentUpdateBoundary n) s = .next t ∧ (t.grid n).fr = (s.nextBoundary n 1).1 ∧ (t.grid n).k = (s.nextBoundary n 1).2.1 ∧
    (t.grid n).last = (s.nextBoundary n 1).2.2.1 ∧ t.tick = max s.tick ((s.nextBoundary n 1).2.2.1 / 32)) ∧
  (∀ (s : State) (n : Fin 80), s.gridStale n = true → s.atFrame = true → ∃ t, exec (.tbChangeEffect n) s = .next t ∧
    (t.grid n).a = s.get (AX_TB n) AX_TB_A ∧ (t.grid n).b = s.get (AX_TB n) AX_TB_B ∧ (t.grid n).c = s.get (AX_TB n) AX_TB_C ∧
    (n.val < 32 → (t.grid n).phase = s.get (AX_PHASE n) AX_PHASE_PHASE) ∧ t.regs = s.regs)

/-- The law runs remove the run at the head of the queue and take their ticks, LATE_CLR clears, and CTOK_ARM, CTOK_CANCEL and TOKEN_EXECUTE change the token as the rules say. (02_cycle_and_timebase.md R56, 02_cycle_and_timebase.md R59, 02_cycle_and_timebase.md R62, 02_cycle_and_timebase.md R63, 02_cycle_and_timebase.md R64). -/
def Obligations.LawRunAndTokenCommandsComplete : Prop :=
  (∀ (s : State) (n : Fin 32) (r : RunReq) (rest : List RunReq), s.queue (s.lpOf n) = r :: rest → r.kind = .pos → r.axis = n →
    (s.lp (s.lpOf n)).run = none → s.lpMode (s.lpOf n) = 1 → s.isStd (s.lpOf n) (s.lpBank (s.lpOf n)) = true →
    (∀ T, (s.lp (s.lpOf n)).swapWait = some T → max r.at_ (s.lp (s.lpOf n)).free < T) → ∃ t, exec (.positionRun n) s = .next t ∧ t.queue (s.lpOf n) = rest ∧
    (t.lp (s.lpOf n)).free = max r.at_ (s.lp (s.lpOf n)).free + s.runTicks r ∧ t.time = s.time) ∧
  (∀ (s : State) (n : Fin 32) (r : RunReq) (rest : List RunReq), s.queue (s.lpOf n) = r :: rest → r.kind = .vel → r.axis = n →
    (s.lp (s.lpOf n)).run = none → s.lpMode (s.lpOf n) = 1 → s.isStd (s.lpOf n) (s.lpBank (s.lpOf n)) = true →
    (∀ T, (s.lp (s.lpOf n)).swapWait = some T → max r.at_ (s.lp (s.lpOf n)).free < T) → ∃ t, exec (.velocityRun n) s = .next t ∧ t.queue (s.lpOf n) = rest ∧
    (t.lp (s.lpOf n)).free = max r.at_ (s.lp (s.lpOf n)).free + s.runTicks r ∧ t.time = s.time) ∧
  (∀ (s : State) (i : Fin 32) (r : RunReq) (rest : List RunReq), s.queue (s.lpOf (32 + i)) = r :: rest → r.kind = .net → r.axis = 32 + i.val →
    (s.lp (s.lpOf (32 + i))).run = none → s.lpMode (s.lpOf (32 + i)) = 1 → s.isStd (s.lpOf (32 + i)) (s.lpBank (s.lpOf (32 + i))) = true →
    (∀ T, (s.lp (s.lpOf (32 + i))).swapWait = some T → max r.at_ (s.lp (s.lpOf (32 + i))).free < T) → ∃ t, exec (.networkRun i) s = .next t ∧ t.queue (s.lpOf (32 + i)) = rest ∧
    (t.lp (s.lpOf (32 + i))).free = max r.at_ (s.lp (s.lpOf (32 + i))).free + s.runTicks r ∧ t.time = s.time) ∧
  (∀ (s : State) (j : Fin 16) (r : RunReq) (rest : List RunReq), s.queue (s.lpOf (64 + j)) = r :: rest → r.kind = .virt → r.axis = 64 + j.val →
    (s.lp (s.lpOf (64 + j))).run = none → s.lpMode (s.lpOf (64 + j)) = 1 → s.isStd (s.lpOf (64 + j)) (s.lpBank (s.lpOf (64 + j))) = true →
    (∀ T, (s.lp (s.lpOf (64 + j))).swapWait = some T → max r.at_ (s.lp (s.lpOf (64 + j))).free < T) → ∃ t, exec (.virtualRun j) s = .next t ∧ t.queue (s.lpOf (64 + j)) = rest ∧
    (t.lp (s.lpOf (64 + j))).free = max r.at_ (s.lp (s.lpOf (64 + j))).free + s.runTicks r ∧ t.time = s.time) ∧
  (∀ (s : State) (k : Fin 16) (r : RunReq) (rest : List RunReq), s.queue k = r :: rest → r.kind = .overhead → r.axis = k →
    (s.lp k).run = none → s.lpMode k = 1 → s.isStd k (s.lpBank k) = true →
    (∀ T, (s.lp k).swapWait = some T → max r.at_ (s.lp k).free < T) → ∃ t, exec (.overheadRun k) s = .next t ∧ t.queue k = rest ∧ (t.lp k).free = max r.at_ (s.lp k).free + 1000 ∧ t.time = s.time) ∧
  (∀ (s : State) (k : Fin 16) (r : RunReq) (rest : List RunReq) (T : Nat), s.queue k = r :: rest → r.kind = .overhead → r.axis = k →
    (s.lp k).run = none → s.lpMode k = 1 → (s.lp k).sh = false → (s.lp k).swapWait = some T → T ≤ max r.at_ (s.lp k).free →
    exec (.overheadRun k) s = exec (.overheadRun k) (s.bankFlip k)) ∧
  (∀ (s : State) (n : Fin 32) (r : RunReq) (rest : List RunReq), s.queue (s.lpOf n) = r :: rest → r.kind = .pos → r.axis = n →
    (s.lp (s.lpOf n)).run = none → s.lpMode (s.lpOf n) = 1 → s.isStd (s.lpOf n) (s.lpBank (s.lpOf n)) = false →
    (s.lp (s.lpOf n)).swapWait = none → ∃ t, exec (.positionRun n) s = .next t ∧ t.queue (s.lpOf n) = rest ∧ (t.lp (s.lpOf n)).run = some r ∧
    (t.lp (s.lpOf n)).pc = s.lawEntry (s.lpOf n) (s.lpBank (s.lpOf n)) (s.lawSlot (s.lpOf n) n) 0 ∧
    t.tick = max s.tick (max r.at_ (s.lp (s.lpOf n)).free)) ∧
  (∀ (s : State) (n : Fin 80), s.lpMode (s.lpOf n) ≠ 2 → ∃ t, exec (.recoveryLawRun n) s = .next t ∧ t.motion = s.motion ∧ t.loops = s.loops) ∧
  (∀ (s : State) (n : Fin 80), s.lpMode (s.lpOf n) = 2 → s.running = true → (s.loop n).posAt ≠ some (s.loop n).inp.b →
    ∃ t, exec (.recoveryLawRun n) s = .next t ∧ (t.loop n).posAt = some (s.loop n).inp.b ∧ t.time = s.time ∧ t.runQ = s.runQ) ∧
  (∀ (s : State) (n : Fin 80), n.val < 64 → s.lpMode (s.lpOf n) = 2 → s.running = true → (s.loop n).posAt ≠ some (s.loop n).inp.b → (s.loop n).enabled = true →
    (s.loop n).inp.posValid = false → ∃ t, exec (.recoveryLawRun n) s = .next t ∧ (t.loop n).toff.isSome = true ∧ t.time = s.time) ∧
  (∀ (s : State) (n : Fin 80), s.canonical = true → s.hostMay (AX_LATE n) → ∃ t, exec (.lateClr n) s = .next t ∧
    t.get (AX_LATE n) AX_LATE_COUNT = 0 ∧ t.get (AX_LATE n) AX_LATE_RUN = 0 ∧ t.get (AX_LAT n) AX_LAT_MAX = 0 ∧
    ∀ a, a ≠ AX_LATE n → a ≠ AX_LAT n → t.rd a = s.rd a) ∧
  (∀ (s : State) (k : Fin 8), s.canonical = true → s.hostMay (CTOK_CTRL k) → s.tokState k ≠ 1 → s.flag (CTOK_CTRL k) CTOK_CTRL_NEXT = false →
    s.nextFrame.1 ≤ s.rd64N (CTOK_TARGET k) → s.tokenLead ≤ s.ticksTo (s.rd64N (CTOK_TARGET k)) → s.tokUnready k = false →
    ∃ t, exec (.ctokArm k) s = .next t ∧ t.tokState k = 1 ∧ vget t.time.tok k 0 = s.rd64N (CTOK_TARGET k)) ∧
  (∀ (s : State) (k : Fin 8), s.canonical = true → s.hostMay (CTOK_CTRL k) → s.tokState k ≠ 1 → s.flag (CTOK_CTRL k) CTOK_CTRL_NEXT = false →
    s.rd64N (CTOK_TARGET k) < s.nextFrame.1 → ∃ t, exec (.ctokArm k) s = .next t ∧ t.tokState k = 3 ∧ t.time = s.time) ∧
  (∀ (s : State) (k : Fin 8), s.canonical = true → s.hostMay (CTOK_CTRL k) → s.tokState k = 1 →
    s.tokenLead ≤ s.ticksTo (vget s.time.tok k 0) → ∃ t, exec (.ctokCancel k) s = .next t ∧ t.tokState k = 5 ∧ t.time = s.time) ∧
  (∀ (s : State) (k : Fin 8), s.canonical = true → s.tokState k = 1 → vget s.time.tok k 0 ≤ s.time.frameNum → s.atFrame = true → s.leaving = true →
    ∃ t, exec (.tokenExecute k) s = .next t ∧ t.tokState k = 6 ∧ t.time = s.time) ∧
  (∀ (s : State) (k : Fin 8), s.canonical = true → s.tokState k = 1 → vget s.time.tok k 0 ≤ s.time.frameNum → (s.atFrame && s.leaving) = false → ∃ t, exec (.tokenExecute k) s = .next t ∧
    t.tokState k = 2 ∧ t.rdN (CTOK_DONE k) = s.time.frameStart / 32 % 2 ^ 32 ∧ t.time = s.time)

/-- A frame for P0 is forwarded, a queued frame is sent, gate lists cycle, change and are refused, a stream's history resets, and links come up and go down. (10_network_time.md R308, 10_network_time.md R311, 10_network_time.md R312, 10_network_time.md R313, 10_network_time.md R314, 10_network_time.md R324). -/
def Obligations.SwitchCommandsComplete : Prop :=
  (∀ (s : State) (p : Fin 4) (e : Fin 8) (f : EthFrame), p.val ≠ 0 → s.linkUp? p = true → f.len ≤ 2048 → f.fcsOk = true → f.kind = .other →
    f.rtag = none → f.dst = Config.macAddress → s.flag (MS_CFG p) MS_CFG_EN = false → ∃ t, exec (.switchFrameReceive p e f) s = .next t ∧
    t.nw.p0 = some { f with inPort := p, inStamp := none, swts := false, sec := none } ∧ t.regs = s.regs ∧ t.nw.gcls = s.nw.gcls) ∧
  (∀ (s : State) (p : Fin 4) (e : Fin 8) (f : EthFrame), s.canonical = true → p.val ≠ 0 → s.linkUp? p = true → 2048 < f.len → ∃ t,
    exec (.switchFrameReceive p e f) s = .next t ∧
    t.get (PORT_CNT p) PORT_CNT_FCSERR = incSat PORT_CNT_FCSERR.w (s.get (PORT_CNT p) PORT_CNT_FCSERR) ∧ t.nw = s.nw) ∧
  (∀ (s : State) (p : Fin 3) (c e : Fin 8) (slot : Fin 48) (f : EthFrame) (rest : List EthFrame), vget (s.gcl (p + 1)).queues c [] = f :: rest →
    s.linkUp? (p + 1) = true → (s.gcl (p + 1)).busy ≤ s.now → (s.gcl (p + 1)).count = 0 →
    (∀ k : Fin 8, c < k → vget (s.gcl (p + 1)).queues k [] = []) → s.flag (MS_CFG (p + 1)) MS_CFG_EN = false → f.kind = .other →
    ∃ t, exec (.portFrameTransmit p c e slot) s = .next t ∧ vget (t.gcl (p + 1)).queues c [] = rest ∧
    (t.gcl (p + 1)).busy = s.now + s.wireTime (p + 1) f.len ∧ (t.gcl (p + 1)).sent = some f ∧ t.regs = s.regs) ∧
  (∀ (s : State) (p : Fin 3), (s.gcl (p + 1)).count ≠ 0 → ∃ t, exec (.gclCycleStart p) s = .next t ∧ (t.gcl (p + 1)).idx = 0 ∧
    (t.gcl (p + 1)).cycAt = s.instantOf (cycleAfter (s.gcl (p + 1)).base (s.gcl (p + 1)).cycle s.time.mt) ∧
    t.tick = max s.tick ((s.instantOf (cycleAfter (s.gcl (p + 1)).base (s.gcl (p + 1)).cycle s.time.mt) + 31) / 32)) ∧
  (∀ (s : State) (p : Fin 3), (s.gcl (p + 1)).idx + 1 < (s.gcl (p + 1)).count →
    s.entryEnd (p + 1) < (s.gcl (p + 1)).cycAt + 32 * (s.gcl (p + 1)).cycle → ∃ t, exec (.gateIntervalEnd p) s = .next t ∧
    (t.gcl (p + 1)).idx = (s.gcl (p + 1)).idx + 1 ∧ (t.gcl (p + 1)).entAt = s.entryEnd (p + 1) ∧ t.regs = s.regs) ∧
  (∀ (s : State) (p : Fin 3), s.canonical = true → s.hostMay (GCL_CTRL (p + 1)) →
    (∀ i < s.get (GCL_CTRL (p + 1)) GCL_CTRL_COUNT, 0 < (s.rd (GCL_ADM (p + 1) i)).toNat % 2 ^ 21 ∧ (s.rd (GCL_ADM (p + 1) i)).toNat % 2 ^ 21 ≤ 1600000) →
    ∃ t, exec (.gclChg p) s = .next t ∧ t.flag (GCL_STAT (p + 1)) GCL_STAT_PEND = true ∧ (t.gcl (p + 1)).pend ≠ none ∧
    ∀ a, a ≠ GCL_STAT (p + 1) → t.rd a = s.rd a) ∧
  (∀ (s : State) (p : Fin 3) (i : Nat), s.canonical = true → s.hostMay (GCL_CTRL (p + 1)) → i < s.get (GCL_CTRL (p + 1)) GCL_CTRL_COUNT →
    1600000 < (s.rd (GCL_ADM (p + 1) i)).toNat % 2 ^ 21 → ∃ t, exec (.gclChg p) s = .next t ∧
    t.flag (GCL_STAT (p + 1)) GCL_STAT_BADLIST = true ∧ t.nw = s.nw) ∧
  (∀ (s : State) (p : Fin 3) (base cycle least : Nat) (adm : List Word), s.canonical = true → (s.gcl (p + 1)).pend = some (base, cycle, adm, least) →
    ∃ t, exec (.gclChangeEffect p) s = .next t ∧ (t.gcl (p + 1)).pend = none ∧ (t.gcl (p + 1)).count = adm.length ∧
    (t.gcl (p + 1)).base = base ∧ (t.gcl (p + 1)).cycle = cycle ∧ (t.gcl (p + 1)).idx = 0 ∧ t.flag (GCL_STAT (p + 1)) GCL_STAT_PEND = false) ∧
  (∀ (s : State) (i : Fin 64) (r : FrerSt), s.canonical = true → s.nw.frer[i.val]? = some r → r.takeAny = false → ∃ t,
    exec (.frerReset i) s = .next t ∧ t.nw.frer = s.nw.frer.set i { dst := r.dst, vid := r.vid, at_ := r.at_ } ∧
    t.get FR_CNT1 FR_CNT1_RESETS = incSat FR_CNT1_RESETS.w (s.get FR_CNT1 FR_CNT1_RESETS) ∧
    t.tick = max s.tick (r.at_ + 400000 * s.get FR_CFG FR_CFG_RSTO)) ∧
  (∀ (s : State) (p : Fin 3) (speed : Fin 4) (m : Bool), s.canonical = true → s.flag (PORT_CFG (p + 1)) PORT_CFG_EN = true → speed.val = 1 →
    nbit (s.get (PORT_CFG (p + 1)) PORT_CFG_ADV) 0 = true → s.flag (PORT_CFG (p + 1)) PORT_CFG_LATLOCK = false →
    ∃ t, exec (.linkUp p speed m) s = .next t ∧ t.flag (PORT_STAT (p + 1)) PORT_STAT_LINK = true ∧
    t.get (PORT_STAT (p + 1)) PORT_STAT_SPEED = 1 ∧ t.rdN (PORT_INGLAT (p + 1)) = 13926400 ∧ t.rdN (PORT_EGRLAT (p + 1)) = 6307840) ∧
  (∀ (s : State) (p : Fin 3), s.canonical = true → s.flag (PORT_STAT (p + 1)) PORT_STAT_LINK = true → ∃ t,
    exec (.portLinkDown p) s = .next t ∧ t.flag (PORT_STAT (p + 1)) PORT_STAT_LINK = false ∧ t.events.length = s.events.length + 1 ∧
    ∀ a, a ≠ PORT_STAT (p + 1) → t.rd a = s.rd a)

/-- NT_TRIM, STEPGO, SETGO, reads of NT_NS, leap seconds, the PTP servo, holdover, its timeout and PPS edges answer the next state of their own effect. What the firmware chooses to discipline time to PPS_IN is a free value. (10_network_time.md R319, 10_network_time.md R320, 10_network_time.md R322, 10_network_time.md R329, 10_network_time.md R330, 10_network_time.md R331). -/
def Obligations.NetworkTimeCommandsComplete : Prop :=
  (∀ (s : State) (v : Word), s.canonical = true → s.hostMay NT_TRIM → wordOk NT_TRIM v.toNat = true → s.isWatch = false →
    ∃ t, exec (.ntTrimWrite v) s = .next t ∧ t.time.trim = clampI (-10737418) 10737418 v.toInt ∧
    t.rd NT_TRIM = BitVec.ofInt 32 (clampI (-10737418) 10737418 v.toInt) ∧
    (v.toInt < -10737418 ∨ 10737418 < v.toInt → t.flag NT_STAT NT_STAT_TRIMCLAMP = true) ∧
    ∀ a, a ≠ NT_TRIM → a ≠ NT_STAT → t.rd a = s.rd a) ∧
  (∀ s : State, s.hostMay NT_CTRL → s.isWatch = false → s.time.stepPend = none → ∃ t, exec .stepgo s = .next t ∧
    t.time.stepPend = some (false, s.rd64I NT_STEP * 65536) ∧ t.time.mt = s.time.mt ∧ t.events.length = s.events.length + 1) ∧
  (∀ s : State, s.hostMay NT_CTRL → s.isWatch = false → s.inMorning = true → ∃ t, exec .setgo s = .next t ∧
    t.time.stepPend = some (true, (((s.rd64N NT_SETSEC % 2 ^ 48 * 1000000000 + s.get NT_SETNS NT_SETNS_V) * 2 ^ 32 : Nat) : Int)) ∧
    t.time.rephase = true ∧ t.time.mt = s.time.mt) ∧
  (∀ s : State, s.hostMay NT_CTRL → s.isWatch = false → s.inMorning = false → exec .setgo s = .next s) ∧
  (∀ (s : State) (r : Fin 10), ∃ t, exec (.ntNsRead r) s = .next t ∧ t.rdata = BitVec.ofNat 32 (nsOf s.time.mt) ∧
    vget t.nw.ntLatch r (0, 0) = (secOf s.time.mt, fracOf s.time.mt) ∧ t.regs = s.regs ∧ t.time = s.time) ∧
  (∀ s : State, s.canonical = true → s.flag NT_UTC NT_UTC_LEAP61 = true → s.flag NT_UTC NT_UTC_LEAP59 = false → ∃ t,
    exec .leapSecond s = .next t ∧ t.get NT_UTC NT_UTC_OFS = (s.get NT_UTC NT_UTC_OFS + 1) % 2 ^ NT_UTC_OFS.w ∧
    t.flag NT_UTC NT_UTC_LEAP61 = false ∧ t.flag NT_UTC NT_UTC_LEAP59 = false ∧ ∀ a, a ≠ NT_UTC → t.rd a = s.rd a) ∧
  (∀ (s : State) (p : Fin 3) (o d : Word64) (seq : BitVec 16), s.pw.fwRun = true → s.isWatch = false → s.ptpHost = true →
    ∃ t, exec (.ptpServoUpdate p o d seq none) s = .next t ∧
    t.nw.ptp.recs = s.nw.ptp.recs ++ [(p.val + 1, o.toInt, d.toInt, lsCode s.time.mt, seq.toNat)] ∧ t.nw.ptp.lastOff = o.toInt ∧ t.time = s.time) ∧
  (∀ (s : State) (p : Fin 3) (o d : Word64) (seq : BitVec 16), s.canonical = true → s.pw.fwRun = true → s.isWatch = false → s.ptpHost = false → s.time.stepPend = none →
    (s.nw.ptp.thr : Int) * 65536 < absI o.toInt → ∃ t, exec (.ptpServoUpdate p o d seq none) s = .next t ∧
    t.time.stepPend = some (false, -o.toInt * 65536) ∧ t.time.trim = s.time.trim ∧ t.rd (PORT_LDELAY (p + 1)) = BitVec.ofInt 32 d.toInt) ∧
  (∀ (s : State) (p : Fin 3) (o d : Word64) (seq : BitVec 16), s.pw.fwRun = false → exec (.ptpServoUpdate p o d seq none) s = .next s) ∧
  (∀ s : State, s.canonical = true → ∃ t, exec .ptpHoldover s = .next t ∧ t.flag NT_STAT NT_STAT_GM = nbit (Config.freeWord s.freeCount).toNat 0 ∧ t.get NT_STAT NT_STAT_SYNC = 3 ∧ t.time = s.time ∧ t.nw.ptp.run = 0) ∧
  (∀ s : State, s.canonical = true → s.ptpHost = true → s.get NT_SRVTO NT_SRVTO_V ≠ 0 → s.flag NT_STAT NT_STAT_SRV_LATE = false → ∃ t,
    exec .servoTimeout s = .next t ∧ t.flag NT_STAT NT_STAT_SRV_LATE = true ∧ t.get NT_STAT NT_STAT_SYNC = 3 ∧ t.time.trim = s.time.trim ∧
    t.tick = max s.tick (s.nw.ptp.corrAt + s.get NT_SRVTO NT_SRVTO_V * 400000000)) ∧
  (∀ s : State, s.flag NT_PPSCFG NT_PPSCFG_PPSEN = true → s.time.stepPend = none → ∃ t, exec .ppsOutEdge s = .next t ∧ t.nw.ptp.ppsOn = true ∧
    t.nw.ptp.ppsSec = some (((s.time.mt : Int) + s.rdI NT_PPSOFS * 2 ^ 32) / second32 + 1).toNat) ∧
  (∀ s : State, s.nw.ptp.ppsOn = true → ∃ t, exec .ppsOutEnd s = .next t ∧ t.nw.ptp.ppsOn = false ∧
    t.tick = max s.tick (s.nw.ptp.ppsAt / 32 + 400 * s.get NT_PPSCFG NT_PPSCFG_PPSW) ∧ t.regs = s.regs) ∧
  (∀ (s : State) (e : Fin 8), s.canonical = true → s.flag NT_PPSCFG NT_PPSCFG_PPSDISC = false → ∃ t, exec (.ppsInEdge e) s = .next t ∧
    t.rd64N NT_PPSINSEC = secOf (s.mtAt (s.now + 4 * e)) ∧ t.flag NT_STAT NT_STAT_PPSIN_NEW = true ∧ t.time = s.time) ∧
  (∀ (s : State) (e : Fin 8), s.canonical = true → s.flag NT_PPSCFG NT_PPSCFG_PPSDISC = true → s.flag NT_STAT NT_STAT_GM = true → s.pw.fwRun = true → ∃ t,
    exec (.ppsInEdge e) s = .next t ∧ t.freeCount = s.freeCount + 1 ∧
    t.time.trim = clampI (-10737418) 10737418 (Config.freeWord s.freeCount).toInt)

/-- The commands of the leg groups and auxiliary legs answer the next state of their own effect. (08_pwm_and_trips.md R240, 08_pwm_and_trips.md R244, 08_pwm_and_trips.md R248, 08_pwm_and_trips.md R249, 08_pwm_and_trips.md R257, 08_pwm_and_trips.md R267). -/
def Obligations.PwmCommandsComplete : Prop :=
  (∀ (s : State) (n : Fin 32), s.hostMay (PWM_COMMIT n) → (s.pwm n).fly = none → (s.pwm n).caps = [] → ∃ t, exec (.pwmCommitCmpc n) s = .next t ∧
    (t.pwm n).caps = [(⟨s.tick, (s.pwm n).cmpPart.map fun a => (a, s.rd a), false⟩ : PwmCommit)] ∧ (t.pwm n).cmpPart = [] ∧
    (t.pwm n).fieldPart = (s.pwm n).fieldPart ∧ t.regs = s.regs ∧ t.act = s.act) ∧
  (∀ (s : State) (n : Fin 32), s.hostMay (PWM_COMMIT n) → s.tokenHolds CTOK_PWM n = none → (s.pwm n).fly = none → (s.pwm n).caps = [] → ∃ t,
    exec (.pwmCommitAll n) s = .next t ∧
    (t.pwm n).caps = [(⟨s.tick, ((s.pwm n).cmpPart ++ (s.pwm n).fieldPart).map fun a => (a, s.rd a), true⟩ : PwmCommit)] ∧
    (t.pwm n).cmpPart = [] ∧ (t.pwm n).fieldPart = [] ∧ t.regs = s.regs ∧ t.act = s.act) ∧
  (∀ (s : State) (n : Fin 32) (k : Nat), s.canonical = true → s.hostMay (PWM_COMMIT n) → s.tokenHolds CTOK_PWM n = some k → ∃ t,
    exec (.pwmCommitAll n) s = .next t ∧ t.flag (CTOK_CTRL k) CTOK_CTRL_HELD = true ∧ t.pwms = s.pwms) ∧
  (∀ (s : State) (j : Fin 8), s.hostMay (PWMX_COMMIT j) → s.standalone j = true → (s.pwm (32 + j)).fly = none → (s.pwm (32 + j)).caps = [] → ∃ t,
    exec (.auxCommitAll j) s = .next t ∧ (t.pwm (32 + j)).cmpPart = [] ∧ (t.pwm (32 + j)).fieldPart = [] ∧
    (t.pwm (32 + j)).caps =
      [(⟨s.tick, ((s.pwm (32 + j)).cmpPart ++ (s.pwm (32 + j)).fieldPart).map fun a => (a, s.rd a), true⟩ : PwmCommit)] ∧ t.regs = s.regs ∧ t.act = s.act) ∧
  (∀ (s : State) (j : Fin 8), s.hostMay (PWMX_COMMIT j) → s.standalone j = false → exec (.auxCommitAll j) s = .next s) ∧
  (∀ (s : State) (g : Fin 40), s.pw.phase = .running → g.val < 32 → (s.pwm g).caps ≠ [] → (s.nextBoundary g 1).1 ≤ s.time.frameNum → ∃ t,
    exec (.pwmCommitEffect g) s = .next t ∧ (t.grid g).last = (s.nextBoundary g 1).2.2.1 ∧
    t.tick = max s.tick ((s.nextBoundary g 1).2.2.1 / 32)) ∧
  (∀ (s : State) (j : Fin 8), s.freeRun (32 + j) = true → (s.pwm (32 + j)).startAt = none → s.stopped (32 + j) = false → ∃ t,
    exec (.auxPeriodStart j) s = .next t ∧ t.tick = max s.tick (((s.pwm (32 + j)).b0 + (s.pwm (32 + j)).span) / 32) ∧ ((s.pwm (32 + j)).cbc = [] → t.events = s.events)) ∧
  (∀ (s : State) (k : Fin 16), s.pw.phase = .running → s.rd (ATC_CFG k) ≠ s.ard (ATC_CFG k) → s.get (ATC_CFG k) ATC_CFG_SRC < 32 →
    (s.nextBoundary (s.get (ATC_CFG k) ATC_CFG_SRC) 1).1 ≤ s.time.frameNum → ∃ t, exec (.atcSettingsEffect k) s = .next t ∧
    t.tick = max s.tick ((s.nextBoundary (s.get (ATC_CFG k) ATC_CFG_SRC) 1).2.2.1 / 32)) ∧
  (∀ (s : State) (g : Fin 40) (i : Fin 4) (x : Nat) (hi : Bool), (s.leg g i).due = some (x, hi) → (s.leg g i).edges = [] →
    (s.stopped g = false → x < (s.pwm g).b0 + (s.pwm g).span) → ∃ t,
    exec (.pwmEdge g i) s = .next t ∧ (t.leg g i).due = none ∧ (hi = true → (t.leg g i).h = true) ∧ (hi = false → (t.leg g i).l = true) ∧
    t.tick = max s.tick (x / 32) ∧ t.regs = s.regs) ∧
  (∀ (s : State) (g : Fin 40) (i : Fin 4) (x : Nat) (on : Bool) (rest : List (Nat × Bool)), (s.leg g i).due = none →
    (s.leg g i).edges = (x, on) :: rest → (s.pwm g).drv = true → (s.pwm g).cut = false →
    (s.stopped g = false → x < (s.pwm g).b0 + (s.pwm g).span) → ∃ t, exec (.pwmEdge g i) s = .next t ∧
    (t.leg g i).edges = rest ∧ (t.leg g i).ideal = on ∧ (on = true → (t.leg g i).l = false) ∧ (on = false → (t.leg g i).h = false) ∧
    (t.leg g i).due = some (x + (if on then s.dtr g i else s.dtf g i), on) ∧ t.regs = s.regs) ∧
  (∀ (s : State) (n : Fin 32), s.canonical = true → s.hostMay (PWM_CMD n) → ∃ t, exec (.pwmClrflags n) s = .next t ∧
    t.rd (PWM_STAT n) = s.rd (PWM_STAT n) &&& ~~~0x1FF ∧ ∀ a, a ≠ PWM_STAT n → t.rd a = s.rd a) ∧
  (∀ (s : State) (n : Fin 32), s.canonical = true → s.hostMay (PWM_CMD n) → ∃ t, exec (.pwmClrcnt n) s = .next t ∧
    t.rd (PWM_CNT n) = 0 ∧ ∀ a, a ≠ PWM_CNT n → t.rd a = s.rd a) ∧
  (∀ (s : State) (j : Fin 8), s.canonical = true → s.hostMay (PWMX_CMD j) → ∃ t, exec (.auxClrflags j) s = .next t ∧
    t.rd (PWMX_STAT j) = s.rd (PWMX_STAT j) &&& ~~~0x1FF ∧ ∀ a, a ≠ PWMX_STAT j → t.rd a = s.rd a) ∧
  (∀ (s : State) (j : Fin 8), s.hostMay (PWMX_CMD j) → exec (.auxClrcnt j) s = .next s)

/-- Land changes, detections, window openings and closings, TCLR of axes and global trips and their counters answer the next state of their own effect. (08_pwm_and_trips.md R255, 08_pwm_and_trips.md R257, 08_pwm_and_trips.md R258, 08_pwm_and_trips.md R260, 08_pwm_and_trips.md R263). -/
def Obligations.TripCommandsComplete : Prop :=
  (∀ (s : State) (i : Fin 36) (lvl : Bool) (t32 : Nat), s.tripEn i = false → ∃ t, exec (.tripLandChange i lvl t32) s = .next t ∧
    (t.trip i).level = lvl ∧ t.regs = s.regs ∧ t.pwms = s.pwms ∧ t.tick = max s.tick (t32 / 32)) ∧
  (∀ (s : State) (i : Fin 36) (lvl : Bool) (t32 : Nat), s.canonical = true → s.tripEn i = true → (s.trip i).level ≠ lvl → lvl = s.tripPol i →
    (s.trip i).gap = none → s.tripFilt i = 0 → (s.advanceTo (t32 / 32)).blanked i = false → ∃ t, exec (.tripLandChange i lvl t32) s = .next t ∧
    (t.trip i).det = true ∧ t.tripIn i = true ∧ (∀ g ∈ s.actsOn i, (t.pwm g).cut = true) ∧
    (i.val < 32 → t.flag (PWM_STAT i) PWM_STAT_TRIPPED = true ∧ t.rdN (PWM_TSTAMP i) = stampOf t32)) ∧
  (∀ (s : State) (i : Fin 36) (lvl : Bool) (t32 : Nat), s.canonical = true → s.tripEn i = true → (s.trip i).level ≠ lvl → lvl ≠ s.tripPol i →
    ∃ t, exec (.tripLandChange i lvl t32) s = .next t ∧ (t.trip i).since = none ∧ (t.trip i).det = false ∧ t.tripIn i = false ∧
    t.pwms = s.pwms) ∧
  (∀ (s : State) (i : Fin 36) (a : Nat), s.canonical = true → (s.trip i).since = some a → (s.trip i).det = false →
    (s.advanceTo ((a + 31) / 32 + (s.tripFilt i - 1))).blanked i = false → ∃ t,
    exec (.tripDetect i) s = .next t ∧ (t.trip i).det = true ∧ t.tripIn i = true ∧ (∀ g ∈ s.actsOn i, (t.pwm g).cut = true) ∧
    t.tick = max s.tick ((a + 31) / 32 + (s.tripFilt i - 1))) ∧
  (∀ (s : State) (k : Fin 16) (a b : Nat) (rest : List (Nat × Nat)), s.canonical = true → (s.atc k).wins = (a, b) :: rest →
    (s.atc k).closeAt = none → ∃ t, exec (.atcWindowOpen k) s = .next t ∧ (t.atc k).wins = rest ∧ (t.atc k).closeAt = some b ∧
    t.flag (ATC_STAT k) ATC_STAT_OPEN = true ∧ t.tick = max s.tick a) ∧
  (∀ (s : State) (k : Fin 16) (b : Nat), s.canonical = true → (s.atc k).closeAt = some b → ∃ t, exec (.atcWindowClose k) s = .next t ∧
    (t.atc k).closeAt = none ∧ t.flag (ATC_STAT k) ATC_STAT_OPEN = false ∧ t.tick = max s.tick b) ∧
  (∀ (s : State) (n : Fin 32), let u := s.tripSettle n; s.canonical = true → s.hostMay (PWM_CMD n) → u.flag (PWM_STAT n) PWM_STAT_LCAUSE = true → u.tripIn n = false →
    (u.flag (PWM_STAT n) PWM_STAT_OCAUSE = true → u.ocActive n = false) → (u.flag (PWM_STAT n) PWM_STAT_SCAUSE = true → u.lossActive n = false) →
    ∃ t, exec (.pwmTclr n) s = .next t ∧ t.flag (PWM_STAT n) PWM_STAT_LCAUSE = false ∧ t.flag (PWM_STAT n) PWM_STAT_OCAUSE = false ∧
    t.flag (PWM_STAT n) PWM_STAT_SCAUSE = false ∧ ∀ a, a ≠ PWM_STAT n → t.rd a = u.rd a) ∧
  (∀ (s : State) (n : Fin 32), let u := s.tripSettle n; s.canonical = true → s.hostMay (PWM_CMD n) → u.flag (PWM_STAT n) PWM_STAT_LCAUSE = true → u.tripIn n = true →
    ∃ t, exec (.pwmTclr n) s = .next t ∧ t.flag (PWM_STAT n) PWM_STAT_LCAUSE = true ∧ t.flag (PWM_STAT n) PWM_STAT_CLR_REFUSED = true ∧
    t.events.length = u.events.length + 1) ∧
  (∀ (s : State) (k : Fin 4), let u := s.tripSettle (32 + k); s.canonical = true → s.hostMay (GTRIP_CMD k) → u.flag (GTRIP_STAT k) GTRIP_STAT_LATCHED = true →
    u.tripIn (32 + k) = false → ∃ t, exec (.gtripTclr k) s = .next t ∧ t.flag (GTRIP_STAT k) GTRIP_STAT_LATCHED = false ∧ t.pwms = u.pwms) ∧
  (∀ (s : State) (k : Fin 4), s.canonical = true → s.hostMay (GTRIP_CMD k) → ∃ t, exec (.gtripClrcnt k) s = .next t ∧
    t.get (GTRIP_STAT k) GTRIP_STAT_TRIPS = 0 ∧ ∀ a, a ≠ GTRIP_STAT k → t.rd a = s.rd a)

/-- ADD, SUB, AND, OR, XOR, ASR, LSR, LSL and MIN of a ready LP put result and flags into the pipe two slots on and advance the PC, for register and immediate operands. Flags that the manual does not state are free values. (09_loop_processor.md R286, 09_loop_processor.md R301). -/
def Obligations.LpAluCommandsComplete : Prop :=
  (∀ (s : State) (k d x y : Fin 16) (mv : Move), s.lpReady k → mv.kind = .none → let a := (s.lpSet k).D x; let b := (s.lpSet k).D y; let r : Word := a + b; exec (.add k d (.reg x y mv)) s = .next (s.lpThen k 1 (((s.lpSet k).put 2 (.flags (r).msb ((r) == 0) (decide (2 ^ 32 ≤ (a).toNat + (b).toNat)) (decide (sat32 ((a).toInt + (b).toInt) ≠ (a).toInt + (b).toInt)))).putD 2 d r))) ∧
  (∀ (s : State) (k d : Fin 16) (v : BitVec 16), s.lpReady k → let a := (s.lpSet k).D d; let b := imm16 v; let r : Word := a + b; exec (.add k d (.imm v)) s = .next (s.lpThen k 1 (((s.lpSet k).put 2 (.flags (r).msb ((r) == 0) (decide (2 ^ 32 ≤ (a).toNat + (b).toNat)) (decide (sat32 ((a).toInt + (b).toInt) ≠ (a).toInt + (b).toInt)))).putD 2 d r))) ∧
  (∀ (s : State) (k d x y : Fin 16) (mv : Move), s.lpReady k → mv.kind = .none → let a := (s.lpSet k).D x; let b := (s.lpSet k).D y; let r : Word := a - b; exec (.sub k d (.reg x y mv)) s = .next (s.lpThen k 1 (((s.lpSet k).put 2 (.flags (r).msb ((r) == 0) (aluC .sub a b) (decide (sat32 ((a).toInt - (b).toInt) ≠ (a).toInt - (b).toInt)))).putD 2 d r))) ∧
  (∀ (s : State) (k d : Fin 16) (v : BitVec 16), s.lpReady k → let a := (s.lpSet k).D d; let b := imm16 v; let r : Word := a - b; exec (.sub k d (.imm v)) s = .next (s.lpThen k 1 (((s.lpSet k).put 2 (.flags (r).msb ((r) == 0) (aluC .sub a b) (decide (sat32 ((a).toInt - (b).toInt) ≠ (a).toInt - (b).toInt)))).putD 2 d r))) ∧
  (∀ (s : State) (k d x y : Fin 16) (mv : Move), s.lpReady k → mv.kind = .none → let a := (s.lpSet k).D x; let b := (s.lpSet k).D y; let r : Word := a &&& b; exec (.and_ k d (.reg x y mv)) s = .next (s.lpThen k 1 (((s.lpSet k).put 2 (.flags (r).msb ((r) == 0) (aluC .and a b) (aluV .and a b))).putD 2 d r))) ∧
  (∀ (s : State) (k d : Fin 16) (v : BitVec 16), s.lpReady k → let a := (s.lpSet k).D d; let b := imm16 v; let r : Word := a &&& b; exec (.and_ k d (.imm v)) s = .next (s.lpThen k 1 (((s.lpSet k).put 2 (.flags (r).msb ((r) == 0) (aluC .and a b) (aluV .and a b))).putD 2 d r))) ∧
  (∀ (s : State) (k d x y : Fin 16) (mv : Move), s.lpReady k → mv.kind = .none → let a := (s.lpSet k).D x; let b := (s.lpSet k).D y; let r : Word := a ||| b; exec (.or_ k d (.reg x y mv)) s = .next (s.lpThen k 1 (((s.lpSet k).put 2 (.flags (r).msb ((r) == 0) (aluC .or a b) (aluV .or a b))).putD 2 d r))) ∧
  (∀ (s : State) (k d : Fin 16) (v : BitVec 16), s.lpReady k → let a := (s.lpSet k).D d; let b := imm16 v; let r : Word := a ||| b; exec (.or_ k d (.imm v)) s = .next (s.lpThen k 1 (((s.lpSet k).put 2 (.flags (r).msb ((r) == 0) (aluC .or a b) (aluV .or a b))).putD 2 d r))) ∧
  (∀ (s : State) (k d x y : Fin 16) (mv : Move), s.lpReady k → mv.kind = .none → let a := (s.lpSet k).D x; let b := (s.lpSet k).D y; let r : Word := a ^^^ b; exec (.xor_ k d (.reg x y mv)) s = .next (s.lpThen k 1 (((s.lpSet k).put 2 (.flags (r).msb ((r) == 0) (aluC .xor a b) (aluV .xor a b))).putD 2 d r))) ∧
  (∀ (s : State) (k d : Fin 16) (v : BitVec 16), s.lpReady k → let a := (s.lpSet k).D d; let b := imm16 v; let r : Word := a ^^^ b; exec (.xor_ k d (.imm v)) s = .next (s.lpThen k 1 (((s.lpSet k).put 2 (.flags (r).msb ((r) == 0) (aluC .xor a b) (aluV .xor a b))).putD 2 d r))) ∧
  (∀ (s : State) (k d x y : Fin 16) (mv : Move), s.lpReady k → mv.kind = .none → ((s.lpSet k).D y).toNat < 32 → let a := (s.lpSet k).D x; let b := (s.lpSet k).D y; let r : Word := a.sshiftRight b.toNat; exec (.asr k d (.reg x y mv)) s = .next (s.lpThen k 1 (((s.lpSet k).put 2 (.flags (r).msb ((r) == 0) (aluC .asr a b) (aluV .asr a b))).putD 2 d r))) ∧
  (∀ (s : State) (k d : Fin 16) (v : BitVec 16), s.lpReady k → (imm16 v).toNat < 32 → let a := (s.lpSet k).D d; let b := imm16 v; let r : Word := a.sshiftRight b.toNat; exec (.asr k d (.imm v)) s = .next (s.lpThen k 1 (((s.lpSet k).put 2 (.flags (r).msb ((r) == 0) (aluC .asr a b) (aluV .asr a b))).putD 2 d r))) ∧
  (∀ (s : State) (k d x y : Fin 16) (mv : Move), s.lpReady k → mv.kind = .none → ((s.lpSet k).D y).toNat < 32 → let a := (s.lpSet k).D x; let b := (s.lpSet k).D y; let r : Word := a >>> b.toNat; exec (.lsr k d (.reg x y mv)) s = .next (s.lpThen k 1 (((s.lpSet k).put 2 (.flags (r).msb ((r) == 0) (aluC .lsr a b) (aluV .lsr a b))).putD 2 d r))) ∧
  (∀ (s : State) (k d : Fin 16) (v : BitVec 16), s.lpReady k → (imm16 v).toNat < 32 → let a := (s.lpSet k).D d; let b := imm16 v; let r : Word := a >>> b.toNat; exec (.lsr k d (.imm v)) s = .next (s.lpThen k 1 (((s.lpSet k).put 2 (.flags (r).msb ((r) == 0) (aluC .lsr a b) (aluV .lsr a b))).putD 2 d r))) ∧
  (∀ (s : State) (k d x y : Fin 16) (mv : Move), s.lpReady k → mv.kind = .none → ((s.lpSet k).D y).toNat < 32 → let a := (s.lpSet k).D x; let b := (s.lpSet k).D y; let r : Word := a <<< b.toNat; exec (.lsl k d (.reg x y mv)) s = .next (s.lpThen k 1 (((s.lpSet k).put 2 (.flags (r).msb ((r) == 0) (aluC .lsl a b) (aluV .lsl a b))).putD 2 d r))) ∧
  (∀ (s : State) (k d : Fin 16) (v : BitVec 16), s.lpReady k → (imm16 v).toNat < 32 → let a := (s.lpSet k).D d; let b := imm16 v; let r : Word := a <<< b.toNat; exec (.lsl k d (.imm v)) s = .next (s.lpThen k 1 (((s.lpSet k).put 2 (.flags (r).msb ((r) == 0) (aluC .lsl a b) (aluV .lsl a b))).putD 2 d r))) ∧
  (∀ (s : State) (k d x y : Fin 16) (mv : Move), s.lpReady k → mv.kind = .none → let a := (s.lpSet k).D x; let b := (s.lpSet k).D y; let r : Word := if a.toInt ≤ b.toInt then a else b; exec (.min k d (.reg x y mv)) s = .next (s.lpThen k 1 (((s.lpSet k).put 2 (.flags (r).msb ((r) == 0) (aluC .min a b) (aluV .min a b))).putD 2 d r))) ∧
  (∀ (s : State) (k d : Fin 16) (v : BitVec 16), s.lpReady k → let a := (s.lpSet k).D d; let b := imm16 v; let r : Word := if a.toInt ≤ b.toInt then a else b; exec (.min k d (.imm v)) s = .next (s.lpThen k 1 (((s.lpSet k).put 2 (.flags (r).msb ((r) == 0) (aluC .min a b) (aluV .min a b))).putD 2 d r)))

/-- The remaining ALU instructions, and the shifts by 32 or more and the magnitude and negation of the most negative number with their open result. (09_loop_processor.md R286, 09_loop_processor.md R301). -/
def Obligations.LpMoveAluCommandsComplete : Prop :=
  (∀ (s : State) (k d x y : Fin 16) (mv : Move), s.lpReady k → mv.kind = .none → let a := (s.lpSet k).D x; let b := (s.lpSet k).D y; let r : Word := if b.toInt ≤ a.toInt then a else b; exec (.max k d (.reg x y mv)) s = .next (s.lpThen k 1 (((s.lpSet k).put 2 (.flags (r).msb ((r) == 0) (aluC .max a b) (aluV .max a b))).putD 2 d r))) ∧
  (∀ (s : State) (k d : Fin 16) (v : BitVec 16), s.lpReady k → let a := (s.lpSet k).D d; let b := imm16 v; let r : Word := if b.toInt ≤ a.toInt then a else b; exec (.max k d (.imm v)) s = .next (s.lpThen k 1 (((s.lpSet k).put 2 (.flags (r).msb ((r) == 0) (aluC .max a b) (aluV .max a b))).putD 2 d r))) ∧
  (∀ (s : State) (k d x y : Fin 16) (mv : Move), s.lpReady k → mv.kind = .none → ((s.lpSet k).D x) ≠ 0x80000000 → let a := (s.lpSet k).D x; let b := (s.lpSet k).D y; let r : Word := if a.toInt < 0 then -a else a; exec (.abs k d (.reg x y mv)) s = .next (s.lpThen k 1 (((s.lpSet k).put 2 (.flags (r).msb ((r) == 0) (aluC .abs a b) (aluV .abs a b))).putD 2 d r))) ∧
  (∀ (s : State) (k d : Fin 16) (v : BitVec 16), s.lpReady k → (imm16 v) ≠ 0x80000000 → let a := imm16 v; let b := imm16 v; let r : Word := if a.toInt < 0 then -a else a; exec (.abs k d (.imm v)) s = .next (s.lpThen k 1 (((s.lpSet k).put 2 (.flags (r).msb ((r) == 0) (aluC .abs a b) (aluV .abs a b))).putD 2 d r))) ∧
  (∀ (s : State) (k d x y : Fin 16) (mv : Move), s.lpReady k → mv.kind = .none → ((s.lpSet k).D x) ≠ 0x80000000 → let a := (s.lpSet k).D x; let b := (s.lpSet k).D y; let r : Word := -a; exec (.neg k d (.reg x y mv)) s = .next (s.lpThen k 1 (((s.lpSet k).put 2 (.flags (r).msb ((r) == 0) (aluC .neg a b) (aluV .neg a b))).putD 2 d r))) ∧
  (∀ (s : State) (k d : Fin 16) (v : BitVec 16), s.lpReady k → (imm16 v) ≠ 0x80000000 → let a := imm16 v; let b := imm16 v; let r : Word := -a; exec (.neg k d (.imm v)) s = .next (s.lpThen k 1 (((s.lpSet k).put 2 (.flags (r).msb ((r) == 0) (aluC .neg a b) (aluV .neg a b))).putD 2 d r))) ∧
  (∀ (s : State) (k d x y : Fin 16) (mv : Move), s.lpReady k → mv.kind = .none → let a := (s.lpSet k).D x; let b := (s.lpSet k).D y; let r : Word := a - b; exec (.cmp k d (.reg x y mv)) s = .next (s.lpThen k 1 ((s.lpSet k).put 2 (.flags (r).msb ((r) == 0) (aluC .cmp a b) (decide (sat32 ((a).toInt - (b).toInt) ≠ (a).toInt - (b).toInt)))))) ∧
  (∀ (s : State) (k d : Fin 16) (v : BitVec 16), s.lpReady k → let a := (s.lpSet k).D d; let b := imm16 v; let r : Word := a - b; exec (.cmp k d (.imm v)) s = .next (s.lpThen k 1 ((s.lpSet k).put 2 (.flags (r).msb ((r) == 0) (aluC .cmp a b) (decide (sat32 ((a).toInt - (b).toInt) ≠ (a).toInt - (b).toInt)))))) ∧
  (∀ (s : State) (k d x y : Fin 16) (mv : Move), s.lpReady k → mv.kind = .none → let a := (s.lpSet k).D x; let b := (s.lpSet k).D y; let r : Word := a; exec (.mov k d (.reg x y mv)) s = .next (s.lpThen k 1 (((s.lpSet k).put 2 (.flags (r).msb ((r) == 0) (aluC .mov a b) (aluV .mov a b))).putD 2 d r))) ∧
  (∀ (s : State) (k d : Fin 16) (v : BitVec 16), s.lpReady k → let a := imm16 v; let b := imm16 v; let r : Word := a; exec (.mov k d (.imm v)) s = .next (s.lpThen k 1 (((s.lpSet k).put 2 (.flags (r).msb ((r) == 0) (aluC .mov a b) (aluV .mov a b))).putD 2 d r))) ∧
  (∀ (s : State) (k d x y : Fin 16) (mv : Move), s.lpReady k → mv.kind = .none → let a := (s.lpSet k).D x; let b := (s.lpSet k).D y; let r : Word := BitVec.ofInt 32 (sat32 (a.toInt + b.toInt)); exec (.adds k d x y mv) s = .next (s.lpThen k 1 (((s.lpSet k).put 2 (.flags (r).msb ((r) == 0) (aluC .adds a b) (decide (sat32 ((a).toInt + (b).toInt) ≠ (a).toInt + (b).toInt)))).putD 2 d r))) ∧
  (∀ (s : State) (k d x y : Fin 16) (mv : Move), s.lpReady k → mv.kind = .none → let a := (s.lpSet k).D x; let b := (s.lpSet k).D y; let r : Word := BitVec.ofInt 32 (sat32 (a.toInt - b.toInt)); exec (.subs k d x y mv) s = .next (s.lpThen k 1 (((s.lpSet k).put 2 (.flags (r).msb ((r) == 0) (aluC .subs a b) (decide (sat32 ((a).toInt - (b).toInt) ≠ (a).toInt - (b).toInt)))).putD 2 d r))) ∧
  (∀ (s : State) (k d x y : Fin 16) (mv : Move), s.lpReady k → mv.kind = .none → 32 ≤ ((s.lpSet k).D y).toNat → let a := (s.lpSet k).D x; let b := (s.lpSet k).D y; let r : Word := Config.openResult (AluOp.code .asr) a b; exec (.asr k d (.reg x y mv)) s = .next (s.lpThen k 1 (((s.lpSet k).put 2 (.flags (r).msb ((r) == 0) (aluC .asr a b) (aluV .asr a b))).putD 2 d r))) ∧
  (∀ (s : State) (k d x y : Fin 16) (mv : Move), s.lpReady k → mv.kind = .none → 32 ≤ ((s.lpSet k).D y).toNat → let a := (s.lpSet k).D x; let b := (s.lpSet k).D y; let r : Word := Config.openResult (AluOp.code .lsr) a b; exec (.lsr k d (.reg x y mv)) s = .next (s.lpThen k 1 (((s.lpSet k).put 2 (.flags (r).msb ((r) == 0) (aluC .lsr a b) (aluV .lsr a b))).putD 2 d r))) ∧
  (∀ (s : State) (k d x y : Fin 16) (mv : Move), s.lpReady k → mv.kind = .none → 32 ≤ ((s.lpSet k).D y).toNat → let a := (s.lpSet k).D x; let b := (s.lpSet k).D y; let r : Word := Config.openResult (AluOp.code .lsl) a b; exec (.lsl k d (.reg x y mv)) s = .next (s.lpThen k 1 (((s.lpSet k).put 2 (.flags (r).msb ((r) == 0) (aluC .lsl a b) (aluV .lsl a b))).putD 2 d r))) ∧
  (∀ (s : State) (k d x y : Fin 16) (mv : Move), s.lpReady k → mv.kind = .none → ((s.lpSet k).D x) = 0x80000000 → let a := (s.lpSet k).D x; let b := (s.lpSet k).D y; let r : Word := Config.openResult (AluOp.code .abs) a b; exec (.abs k d (.reg x y mv)) s = .next (s.lpThen k 1 (((s.lpSet k).put 2 (.flags (r).msb ((r) == 0) (aluC .abs a b) (aluV .abs a b))).putD 2 d r))) ∧
  (∀ (s : State) (k d x y : Fin 16) (mv : Move), s.lpReady k → mv.kind = .none → ((s.lpSet k).D x) = 0x80000000 → let a := (s.lpSet k).D x; let b := (s.lpSet k).D y; let r : Word := Config.openResult (AluOp.code .neg) a b; exec (.neg k d (.reg x y mv)) s = .next (s.lpThen k 1 (((s.lpSet k).put 2 (.flags (r).msb ((r) == 0) (aluC .neg a b) (aluV .neg a b))).putD 2 d r)))

/-- NOP leaves the set as it is, LD, ST, LD64, ST64 and MOVP of a ready LP read and write local data, the table pool and shared SRAM at the address that the addressing mode gives, and a misaligned access is an ADDR fault. (09_loop_processor.md R270, 09_loop_processor.md R274, 09_loop_processor.md R276, 09_loop_processor.md R295, 09_loop_processor.md R301). -/
def Obligations.LpMemoryCommandsComplete : Prop :=
  (∀ (s : State) (k : Fin 16), s.lpReady k → let q := s.lpSet k; 
    exec (.molpinNop k) s = .next (s.lpThen k 1 q)) ∧
  (∀ (s : State) (k d : Fin 16) (x : Fin 8) (m : AMode), s.lpReady k → ((s.lpSet k).addr x m).1 % 4 = 0 → ((s.lpSet k).addr x m).1 < 0x20000 → let q := s.lpSet k; let a := (q.addr x m).1;
    exec (.ld k d x m) s = .next (s.lpThen k 1 ((q.addr x m).2.putD 2 d (wmGet s.mem.lpData (32768 * k + a / 4))))) ∧
  (∀ (s : State) (k d : Fin 16) (x : Fin 8) (m : AMode), s.lpReady k → ((s.lpSet k).addr x m).1 % 4 = 0 → ((s.lpSet k).addr x m).1 < 0x20000 → let q := s.lpSet k; let a := (q.addr x m).1;
    exec (.st k d x m) s = .next ({ s with mem := { s.mem with lpData := wmSet s.mem.lpData (32768 * k + a / 4) (q.D d) } }.lpThen k 1 (q.addr x m).2)) ∧
  (∀ (s : State) (k d : Fin 16) (x : Fin 8) (m : AMode), s.lpReady k → ((s.lpSet k).addr x m).1 % 4 = 0 → 0x40000 ≤ ((s.lpSet k).addr x m).1 → ((s.lpSet k).addr x m).1 < 0x80000 → let q := s.lpSet k; let a := (q.addr x m).1;
    exec (.ld k d x m) s = .next (s.lpThen k 1 ((q.addr x m).2.putD 2 d (wmGet s.mem.pool ((a - 0x40000) / 4))))) ∧
  (∀ (s : State) (k d : Fin 16) (x : Fin 8) (m : AMode), s.lpReady k → ((s.lpSet k).addr x m).1 % 4 = 0 → 0x40000 ≤ ((s.lpSet k).addr x m).1 → ((s.lpSet k).addr x m).1 < 0x80000 → let q := s.lpSet k; let a := (q.addr x m).1;
    exec (.st k d x m) s = .next ({ s with mem := { s.mem with pool := wmSet s.mem.pool ((a - 0x40000) / 4) (q.D d) } }.lpThen k 1 (q.addr x m).2)) ∧
  (∀ (s : State) (k d : Fin 16) (x : Fin 8) (m : AMode), s.lpReady k → ((s.lpSet k).addr x m).1 % 4 = 0 → 0x800000 ≤ ((s.lpSet k).addr x m).1 → ((s.lpSet k).addr x m).1 < 0x1000000 → let q := s.lpSet k; let a := (q.addr x m).1;
    exec (.ld k d x m) s = .next (s.lpThen k 1 ((q.addr x m).2.putD 2 d (wmGet s.mem.sram ((a - 0x800000) / 4))))) ∧
  (∀ (s : State) (k d : Fin 16) (x : Fin 8) (m : AMode), s.lpReady k → ((s.lpSet k).addr x m).1 % 4 = 0 → 0x800000 ≤ ((s.lpSet k).addr x m).1 → ((s.lpSet k).addr x m).1 < 0x1000000 → let q := s.lpSet k; let a := (q.addr x m).1;
    exec (.st k d x m) s = .next ({ s with mem := { s.mem with sram := wmSet s.mem.sram ((a - 0x800000) / 4) (q.D d) } }.lpThen k 1 (q.addr x m).2)) ∧
  (∀ (s : State) (k : Fin 16) (p x : Fin 8) (m : AMode), s.lpReady k → ((s.lpSet k).addr x m).1 % 8 = 0 → ((s.lpSet k).addr x m).1 < 0x20000 → let q := s.lpSet k; let a := (q.addr x m).1;
    exec (.ld64 k p x m) s = .next (s.lpThen k 1 ((q.addr x m).2.putPair 2 p (wmGet s.mem.lpData (32768 * k + (a + 4) / 4) ++ wmGet s.mem.lpData (32768 * k + a / 4))))) ∧
  (∀ (s : State) (k : Fin 16) (p x : Fin 8) (m : AMode), s.lpReady k → ((s.lpSet k).addr x m).1 % 8 = 0 → ((s.lpSet k).addr x m).1 < 0x20000 → let q := s.lpSet k; let a := (q.addr x m).1;
    exec (.st64 k p x m) s = .next ({ s with mem := { s.mem with lpData := wmSet (wmSet s.mem.lpData (32768 * k + a / 4) (q.D (2 * p))) (32768 * k + (a + 4) / 4) (q.D (2 * p + 1)) } }.lpThen k 1 (q.addr x m).2)) ∧
  (∀ (s : State) (k d : Fin 16) (x : Fin 8) (m : AMode), s.canonical = true → s.lpReady k → ((s.lpSet k).addr x m).1 % 4 ≠ 0 →
    ∃ t, exec (.ld k d x m) s = .next t ∧ t.lpMode k = 2 ∧ t.get (LP_FAULT k) LP_FAULT_CAUSE = 8) ∧
  (∀ (s : State) (k d : Fin 16) (x : Fin 8) (m : AMode), s.canonical = true → s.lpReady k → ((s.lpSet k).addr x m).1 % 4 ≠ 0 →
    ∃ t, exec (.st k d x m) s = .next t ∧ t.lpMode k = 2 ∧ t.get (LP_FAULT k) LP_FAULT_CAUSE = 8) ∧
  (∀ (s : State) (k : Fin 16) (m1 m2 : Move2), s.lpReady k → m1.kind = .none → m2.kind = .none → let q := s.lpSet k; 
    exec (.movp k m1 m2) s = .next (s.lpThen k 1 q)) ∧
  (∀ (s : State) (k : Fin 16) (m1 m2 : Move2), s.lpReady k → m1.kind = .load → m2.kind = .none → ((s.lpSet k).X m1.x).toNat % 4 = 0 → ((s.lpSet k).X m1.x).toNat < 0x20000 → let q := s.lpSet k; 
    exec (.movp k m1 m2) s = .next (s.lpThen k 1 ((q.modX m1.x (q.xsI m1.x)).putD 2 m1.d (wmGet s.mem.lpData (32768 * k + (q.X m1.x).toNat / 4))))) ∧
  (∀ (s : State) (k : Fin 16) (m1 m2 : Move2), s.lpReady k → m1.kind = .none → m2.kind = .store → ((s.lpSet k).X (m2.x + 4)).toNat % 4 = 0 → ((s.lpSet k).X (m2.x + 4)).toNat < 0x20000 → let q := s.lpSet k; 
    exec (.movp k m1 m2) s = .next ({ s with mem := { s.mem with lpData := wmSet s.mem.lpData (32768 * k + (q.X (m2.x + 4)).toNat / 4) (q.D m2.d) } }.lpThen k 1 (q.modX (m2.x + 4) (q.xsI (m2.x + 4)))))

/-- SETX, TBR, MTSR, MFSR, CLRF and LDI32 of a ready LP, and the ILL fault of an unlisted register kind of SETX. (09_loop_processor.md R272, 09_loop_processor.md R273, 09_loop_processor.md R275, 09_loop_processor.md R301). -/
def Obligations.LpSystemCommandsComplete : Prop :=
  (∀ (s : State) (k : Fin 16) (kind i : Fin 8) (d : Fin 16), s.lpReady k → kind.val = 0 → let q := s.lpSet k; 
    exec (.setx k kind i (.reg d)) s = .next (s.lpThen k 1 (q.put 3 (.x i (q.D d))))) ∧
  (∀ (s : State) (k : Fin 16) (kind i : Fin 8) (d : Fin 16), s.lpReady k → kind.val = 1 → let q := s.lpSet k; 
    exec (.setx k kind i (.reg d)) s = .next (s.lpThen k 1 (q.put 3 (.xb i (q.D d))))) ∧
  (∀ (s : State) (k : Fin 16) (kind i : Fin 8) (d : Fin 16), s.lpReady k → kind.val = 2 → let q := s.lpSet k; 
    exec (.setx k kind i (.reg d)) s = .next (s.lpThen k 1 (q.put 3 (.xl i (BitVec.ofNat 19 ((q.D d).toNat % 2 ^ 18)))))) ∧
  (∀ (s : State) (k : Fin 16) (kind i : Fin 8) (d : Fin 16), s.lpReady k → kind.val = 4 → let q := s.lpSet k; 
    exec (.setx k kind i (.reg d)) s = .next (s.lpThen k 1 (q.put 3 (.xs i (BitVec.ofNat 16 (q.D d).toNat))))) ∧
  (∀ (s : State) (k : Fin 16) (kind i : Fin 8) (d : Fin 16) (j : Fin 15), s.lpReady k → kind.val = 3 → ((s.lpSet k).D d).toNat % 2 ^ 18 = 2 ^ (j.val + 3) → let q := s.lpSet k; 
    exec (.setx k kind i (.reg d)) s = .next (s.lpThen k 1 (q.put 3 (.xl i (BitVec.ofNat 19 (2 ^ 18 + 2 ^ (j.val + 3))))))) ∧
  (∀ (s : State) (k : Fin 16) (kind i : Fin 8) (src : SetxSrc), s.canonical = true → s.lpReady k → 4 < kind.val →
    ∃ t, exec (.setx k kind i src) s = .next t ∧ t.lpMode k = 2 ∧ t.get (LP_FAULT k) LP_FAULT_CAUSE = 4) ∧
  (∀ (s : State) (k : Fin 16) (p : Fin 8), s.lpReady k → let q := s.lpSet k; 
    exec (.tbr k p) s = .next (s.lpThen k 1 (q.putPair 2 p (BitVec.ofNat 64 s.tick)))) ∧
  (∀ (s : State) (k d : Fin 16), s.lpReady k → let q := s.lpSet k; 
    exec (.mtsr k d) s = .next (s.lpThen k 1 (q.put 2 (.sr (nbit (q.D d).toNat 8) (nbit (q.D d).toNat 29))))) ∧
  (∀ (s : State) (k d : Fin 16), s.lpReady k → let q := s.lpSet k; 
    exec (.mfsr k d) s = .next (s.lpThen k 1 (q.putD 2 d (BitVec.ofNat 32 (s.lpSr k q))))) ∧
  (∀ (s : State) (k : Fin 16), s.lpReady k → let q := s.lpSet k; 
    exec (.clrf k) s = .next (s.lpThen k 1 { q with satf := false, inx := false, avs := false })) ∧
  (∀ (s : State) (k d : Fin 16) (v : Word), s.lpReady k → let q := s.lpSet k; 
    exec (.ldi32 k d v) s = .next (s.lpThen k 2 (q.putD 3 d v)))

/-- MPY, MAC, MSU, MPYSU, CMAC, CMACC, CLRA, SHA, ADDA and MOVR of a ready LP. (09_loop_processor.md R277, 09_loop_processor.md R278, 09_loop_processor.md R279, 09_loop_processor.md R301). -/
def Obligations.LpMultiplyCommandsComplete : Prop :=
  (∀ (s : State) (k : Fin 16) (am : Fin 4) (x y : Fin 16) (m1 m2 : Move2), s.lpReady k → m1.kind = .none → m2.kind = .none → let q := s.lpSet k; let z := accSum false q.satm ((q.D x).toInt * (q.D y).toInt);
    exec (.mpy k am x y m1 m2) s = .next (s.lpThen k 1 ((q.macPut am z.1).accFlags z.2))) ∧
  (∀ (s : State) (k : Fin 16) (am : Fin 4) (x y : Fin 16) (m1 m2 : Move2), s.lpReady k → m1.kind = .none → m2.kind = .none → let q := s.lpSet k; let z := accSum false q.satm (q.accI am + (q.D x).toInt * (q.D y).toInt);
    exec (.mac k am x y m1 m2) s = .next (s.lpThen k 1 ((q.macPut am z.1).accFlags z.2))) ∧
  (∀ (s : State) (k : Fin 16) (am : Fin 4) (x y : Fin 16) (m1 m2 : Move2), s.lpReady k → m1.kind = .none → m2.kind = .none → let q := s.lpSet k; let z := accSum false q.satm (q.accI am - (q.D x).toInt * (q.D y).toInt);
    exec (.msu k am x y m1 m2) s = .next (s.lpThen k 1 ((q.macPut am z.1).accFlags z.2))) ∧
  (∀ (s : State) (k : Fin 16) (am : Fin 4) (x y : Fin 16) (m1 m2 : Move2), s.lpReady k → m1.kind = .none → m2.kind = .none → let q := s.lpSet k; let z := accSum false q.satm ((q.D x).toInt * (q.D y).toNat);
    exec (.mpysu k am x y m1 m2) s = .next (s.lpThen k 1 ((q.macPut am z.1).accFlags z.2))) ∧
  (∀ (s : State) (k : Fin 16) (pair : Bool) (p r : Fin 8) (m1 m2 : Move2), s.lpReady k → m1.kind = .none → m2.kind = .none → let q := s.lpSet k; let i := if pair then 2 else 0; let a := (q.D (2 * p)).toInt; let b := (q.D (2 * p + 1)).toInt; let c := (q.D (2 * r)).toInt; let d := (q.D (2 * r + 1)).toInt; let z := accSum false q.satm (q.accI i + (a * c - b * d)); let w := accSum false q.satm (q.accI (i + 1) + (a * d + b * c));
    exec (.cmac k pair p r m1 m2) s = .next (s.lpThen k 1 (((q.macPut i z.1).macPut (i + 1) w.1).accFlags (z.2 || w.2)))) ∧
  (∀ (s : State) (k : Fin 16) (pair : Bool) (p r : Fin 8) (m1 m2 : Move2), s.lpReady k → m1.kind = .none → m2.kind = .none → let q := s.lpSet k; let i := if pair then 2 else 0; let a := (q.D (2 * p)).toInt; let b := (q.D (2 * p + 1)).toInt; let c := (q.D (2 * r)).toInt; let d := -(q.D (2 * r + 1)).toInt; let z := accSum false q.satm (q.accI i + (a * c - b * d)); let w := accSum false q.satm (q.accI (i + 1) + (a * d + b * c));
    exec (.cmacc k pair p r m1 m2) s = .next (s.lpThen k 1 (((q.macPut i z.1).macPut (i + 1) w.1).accFlags (z.2 || w.2)))) ∧
  (∀ (s : State) (k : Fin 16) (am : Fin 4) (mv : Move), s.lpReady k → mv.kind = .none → let q := s.lpSet k; 
    exec (.clra k am mv) s = .next (s.lpThen k 1 ((q.put 2 (.acc am 0)).accFlags false))) ∧
  (∀ (s : State) (k : Fin 16) (am : Fin 4) (left : Bool) (sh : Fin 64) (mv : Move), s.lpReady k → mv.kind = .none → satS 80 (if left then (s.lpSet k).accVI am * 2 ^ sh.val else (s.lpSet k).accVI am / 2 ^ sh.val) = (if left then (s.lpSet k).accVI am * 2 ^ sh.val else (s.lpSet k).accVI am / 2 ^ sh.val) → let q := s.lpSet k; let y := if left then q.accVI am * 2 ^ sh.val else q.accVI am / 2 ^ sh.val;
    exec (.sha k am left sh mv) s = .next (s.lpThen k 1 { q.put 2 (.acc am (BitVec.ofInt 80 y)) with av := false })) ∧
  (∀ (s : State) (k : Fin 16) (am : Fin 4) (sh : Fin 64) (mv : Move), s.lpReady k → mv.kind = .none → satS 80 ((s.lpSet k).accVI am * 2 ^ sh.val) ≠ (s.lpSet k).accVI am * 2 ^ sh.val → let q := s.lpSet k; 
    exec (.sha k am true sh mv) s = .next (s.lpThen k 1 { q.put 2 (.acc am (BitVec.ofInt 80 (wrapS 80 (Config.shaOpen (q.accVI am) sh)))) with av := true })) ∧
  (∀ (s : State) (k : Fin 16) (am : Fin 4) (p : Fin 8) (mv : Move), s.lpReady k → mv.kind = .none → let q := s.lpSet k; let z := accSum false q.satm (q.accVI am + (q.D64 p).toInt);
    exec (.adda k am p mv) s = .next (s.lpThen k 1 ((q.put 2 (.acc am (BitVec.ofInt 80 z.1))).accFlags z.2))) ∧
  (∀ (s : State) (k d : Fin 16) (am : Fin 4) (sh : LpCount) (mv : Move), s.lpReady k → mv.kind = .none → let q := s.lpSet k; let x := shrConv (q.accVI am) (q.shift sh);
    exec (.movr k d am sh mv) s = .next (s.lpThen k 1 { q.putD 2 d (BitVec.ofInt 32 (sat32 x)) with satf := q.satf || decide (sat32 x ≠ x) }))

/-- MOVR64, MOVA, MOVTA, EXP, NORM, CMULR, SINCOS and DIVS of a ready LP, the last with its zero divisor. (09_loop_processor.md R279, 09_loop_processor.md R280, 09_loop_processor.md R281, 09_loop_processor.md R282). -/
def Obligations.LpAccumulatorCommandsComplete : Prop :=
  (∀ (s : State) (k : Fin 16) (p : Fin 8) (am : Fin 4) (sh : LpCount) (mv : Move), s.lpReady k → mv.kind = .none → let q := s.lpSet k; let x := shrConv (q.accVI am) (q.shift sh);
    exec (.movr64 k p am sh mv) s = .next (s.lpThen k 1 { q.putPair 2 p (BitVec.ofInt 64 (satS 64 x)) with satf := q.satf || decide (satS 64 x ≠ x) })) ∧
  (∀ (s : State) (k d : Fin 16) (am : Fin 4) (mv : Move), s.lpReady k → mv.kind = .none → let q := s.lpSet k; 
    exec (.mova k d am .l mv) s = .next (s.lpThen k 1 (q.putD 2 d ((vget q.accV am 0).extractLsb' 0 32)))) ∧
  (∀ (s : State) (k d : Fin 16) (am : Fin 4) (mv : Move), s.lpReady k → mv.kind = .none → let q := s.lpSet k; 
    exec (.mova k d am .h mv) s = .next (s.lpThen k 1 (q.putD 2 d ((vget q.accV am 0).extractLsb' 32 32)))) ∧
  (∀ (s : State) (k d : Fin 16) (am : Fin 4) (mv : Move), s.lpReady k → mv.kind = .none → let q := s.lpSet k; 
    exec (.mova k d am .g mv) s = .next (s.lpThen k 1 (q.putD 2 d (if Config.immSigned 1 then ((vget q.accV am 0).extractLsb' 64 16).signExtend 32 else ((vget q.accV am 0).extractLsb' 64 16).setWidth 32)))) ∧
  (∀ (s : State) (k : Fin 16) (am : Fin 4) (d : Fin 16) (part : AccPart) (mv : Move), s.lpReady k → mv.kind = .none → let q := s.lpSet k; 
    exec (.movta k am d part mv) s = .next (s.lpThen k 1 (q.put 2 (.accPart am (accPartNum part) (q.D d))))) ∧
  (∀ (s : State) (k d i : Fin 16) (mv : Move), s.lpReady k → mv.kind = .none → let q := s.lpSet k; 
    exec (.exp k d (.d i) mv) s = .next (s.lpThen k 1 (q.putD 2 d (BitVec.ofNat 32 (leadSign 32 (q.D i).toInt - 1))))) ∧
  (∀ (s : State) (k d : Fin 16) (i : Fin 4) (mv : Move), s.lpReady k → mv.kind = .none → let q := s.lpSet k; 
    exec (.exp k d (.a i) mv) s = .next (s.lpThen k 1 (q.putD 2 d (BitVec.ofInt 32 (expAcc (q.accVI i)))))) ∧
  (∀ (s : State) (k : Fin 16) (am : Fin 4) (d : Fin 16) (mv : Move), s.lpReady k → mv.kind = .none → let q := s.lpSet k; let x := q.accVI am; let e := expAcc x;
    exec (.norm k am d mv) s = .next (s.lpThen k 1 ((q.putD 2 d (BitVec.ofInt 32 e)).put 2 (.acc am (BitVec.ofInt 80 (if 0 ≤ e then x * 2 ^ e.toNat else x / 2 ^ (-e).toNat)))))) ∧
  (∀ (s : State) (k d x y : Fin 16) (sh : Fin 64), s.lpReady k → let q := s.lpSet k; let z := shrConv ((q.D y).toInt * (q.D x).toInt) sh;
    exec (.cmulr k d x y sh) s = .next (s.lpThen k 1 { q.putD 3 d (BitVec.ofInt 32 (sat32 z)) with satf := q.satf || decide (sat32 z ≠ z) })) ∧
  (∀ (s : State) (k : Fin 16) (p : Fin 8) (x : Fin 16), s.lpReady k → let q := s.lpSet k; 
    exec (.sincos k p x) s = .next (s.lpThen k 1 ((q.putD 3 (2 * p) (BitVec.ofInt 32 (cosQ30 (q.D x).toNat))).putD 3 (2 * p + 1) (BitVec.ofInt 32 (sinQ30 (q.D x).toNat))))) ∧
  (∀ (s : State) (k d x y : Fin 16) (f : Fin 32), s.lpReady k → ((s.lpSet k).D y).toInt ≠ 0 → let q := s.lpSet k; let z := divConv ((q.D x).toInt * 2 ^ f.val * sgn (q.D y).toInt) (absI (q.D y).toInt);
    exec (.divs k d x y f) s = .next (s.lpThen k 1 { q.putD 2 d (BitVec.ofInt 32 (sat32 z)) with satf := q.satf || decide (sat32 z ≠ z) })) ∧
  (∀ (s : State) (k d x y : Fin 16) (f : Fin 32), s.lpReady k → ((s.lpSet k).D y).toInt = 0 → 0 < ((s.lpSet k).D x).toInt → let q := s.lpSet k; 
    exec (.divs k d x y f) s = .next (s.lpThen k 1 { (q.putD 2 d 0x7FFFFFFF).put 2 (.flags q.n q.z q.c true) with satf := true }))

/-- Control instructions of a ready LP set the target that acts after the delay slot, keep the call and repeat stacks, and END and RTI end a run and a handler. (09_loop_processor.md R284, 09_loop_processor.md R288, 09_loop_processor.md R289, 09_loop_processor.md R293, 09_loop_processor.md R295). -/
def Obligations.LpControlCommandsComplete : Prop :=
  (∀ (s : State) (k : Fin 16) (cc : BitVec 4) (a : BitVec 18), s.lpReady k → ∃ t, exec (.b k cc a) s = .next t ∧ (t.lp k).pc = (s.lp k).pc + 1 ∧ (t.lp k).cur = s.lpSet k ∧
    (t.lp k).target = (if Config.condTaken cc.toNat (s.lpSet k).flagsN then some a.toNat else none) ∧ t.regs = s.regs ∧ t.mem = s.mem) ∧
  (∀ (s : State) (k : Fin 16) (a : Word), s.lpReady k → ∃ t, exec (.bl k a) s = .next t ∧ (t.lp k).pc = (s.lp k).pc + 2 ∧ (t.lp k).cur = s.lpSet k ∧ (t.lp k).target = some a.toNat ∧ t.regs = s.regs) ∧
  (∀ (s : State) (k : Fin 16) (a : BitVec 18), s.lpReady k → (s.lpSet k).call.length < 16 → ∃ t, exec (.call k a) s = .next t ∧ (t.lp k).pc = (s.lp k).pc + 1 ∧ (t.lp k).target = some a.toNat ∧
    (t.lp k).cur = { s.lpSet k with call := ((s.lp k).pc + 2) :: (s.lpSet k).call } ∧ t.regs = s.regs) ∧
  (∀ (s : State) (k : Fin 16) (a : BitVec 18), s.canonical = true → s.lpReady k → 16 ≤ (s.lpSet k).call.length → ∃ t, exec (.call k a) s = .next t ∧ t.lpMode k = 2 ∧ t.get (LP_FAULT k) LP_FAULT_CAUSE = 32) ∧
  (∀ (s : State) (k : Fin 16) (a : Nat) (rest : List Nat), s.lpReady k → (s.lpSet k).call = a :: rest → ∃ t, exec (.ret k) s = .next t ∧ (t.lp k).pc = (s.lp k).pc + 1 ∧ (t.lp k).target = some a ∧
    (t.lp k).cur = { s.lpSet k with call := rest } ∧ t.regs = s.regs) ∧
  (∀ (s : State) (k : Fin 16) (n : BitVec 16) (last : BitVec 18), s.lpReady k → n.toNat ≠ 0 → last.toNat ≠ (s.lp k).pc → ∃ t, exec (.rep k (.imm n) last) s = .next t ∧ (t.lp k).pc = (s.lp k).pc + 1 ∧
    (t.lp k).cur = { s.lpSet k with rep := [⟨(s.lp k).pc + 1, last.toNat, n.toNat⟩] } ∧ t.regs = s.regs) ∧
  (∀ (s : State) (k : Fin 16) (n : BitVec 16) (last : BitVec 18), s.lpReady k → n.toNat = 0 → ∃ t, exec (.rep k (.imm n) last) s = .next t ∧ (t.lp k).pc = last.toNat + 1 ∧ (t.lp k).cur = s.lpSet k) ∧
  (∀ (s : State) (k : Fin 16) (r : RunReq), s.lpReady k → (s.lp k).run = some r → (s.lp k).swapWait = none → ∃ t, exec (.end_ k) s = .next t ∧ (t.lp k).run = none ∧ (t.lp k).free = max (s.lp k).free s.tick ∧ (t.lp k).cur.pipe = [] ∧ t.time = s.time) ∧
  (∀ (s : State) (k : Fin 16), s.canonical = true → s.lpReady k → (s.lp k).sh = true → (s.lp k).swapWait = none → ∃ t, exec (.rti k) s = .next t ∧ (t.lp k).sh = false ∧ (t.lp k).pc = (s.lp k).resume ∧ (t.lp k).main = (s.lp k).main ∧
    t.flag (LP_STAT k) LP_STAT_IRQACT = false)

/-- Inputs accept levels and stamp them, DIO_OUT, OSET and OCLR drive outputs, protections switch off and retry, read-back errors are flagged, and a supply group samples. (14_field_io_analogue.md R439, 14_field_io_analogue.md R441, 14_field_io_analogue.md R442, 14_field_io_analogue.md R443, 14_field_io_analogue.md R444). -/
def Obligations.FieldIoCommandsComplete : Prop :=
  (∀ (s : State) (c : Fin 32) (lvl : Bool) (back : BitVec 17), s.canonical = true → s.isOutput c = false → s.fgOk (c / 8) = true →
    nbit (s.rdN DIOG_IN) c ≠ lvl → s.flag (DIO_CFG c) DIO_CFG_FTYPE = false → ∃ t, exec (.dioInputAccept c lvl back) s = .next t ∧
    nbit (t.rdN DIOG_IN) c = lvl ∧ t.rdN (DIO_TS c) = (s.tick / 400 - s.get (DIO_CFG c) DIO_CFG_FILT) * 400 % 2 ^ 32 ∧
    ∀ a, a ≠ DIOG_IN → a ≠ DIO_ST c → a ≠ DIO_TS c → t.rd a = s.rd a) ∧
  (∀ (s : State) (v : Word), s.canonical = true → s.hostMay DIOG_OUT → wordOk DIOG_OUT v.toNat = true → ∃ t, exec (.dioOutWrite v) s = .next t ∧
    t.rd DIOG_OUT = v ∧ (∀ c < 32, nbit v.toNat c = false → (t.dio c).off = none) ∧ ∀ a, a ≠ DIOG_OUT → t.rd a = s.rd a) ∧
  (∀ (s : State) (v : Word), s.canonical = true → s.hostMay DIOG_OSET → wordOk DIOG_OSET v.toNat = true → ∃ t, exec (.dioOset v) s = .next t ∧
    t.rd DIOG_OUT = s.rd DIOG_OUT ||| (v &&& ~~~BitVec.ofNat 32 s.dioCleared) ∧ ∀ a, a ≠ DIOG_OUT → t.rd a = s.rd a) ∧
  (∀ (s : State) (v : Word), s.canonical = true → s.hostMay DIOG_OCLR → wordOk DIOG_OCLR v.toNat = true → ∃ t, exec (.dioOclr v) s = .next t ∧
    t.rd DIOG_OUT = s.rd DIOG_OUT &&& ~~~v ∧ ∀ a, a ≠ DIOG_OUT → t.rd a = s.rd a) ∧
  (∀ (s : State) (c : Fin 32), s.canonical = true → s.dioOn c = true → ∃ t, exec (.outputShortCircuit c) s = .next t ∧
    t.flag (DIO_ST (s.dioLead c)) DIO_ST_SCFLT = true ∧ (t.dio (s.dioLead c)).off = some s.tick ∧ t.events.length = s.events.length + 1) ∧
  (∀ (s : State) (c : Fin 32) (cool : Word64), s.canonical = true → s.dioOn c = true → ∃ t, exec (.outputOvertemp c cool) s = .next t ∧
    t.flag (DIO_ST (s.dioLead c)) DIO_ST_THFLT = true ∧ (t.dio (s.dioLead c)).off = some s.tick ∧ (t.dio (s.dioLead c)).coolAt = cool.toNat) ∧
  (∀ (s : State) (c : Fin 32) (t0 : Nat), (s.dio (s.dioLead c)).off = some t0 → s.flag (DIO_CFG (s.dioLead c)) DIO_CFG_AUTORST = true →
    nbit (s.rdN DIOG_OUT) (s.dioLead c) = true → (s.dio (s.dioLead c)).coolAt ≤ t0 + 40000000 → ∃ t, exec (.outputRetry c) s = .next t ∧
    (t.dio (s.dioLead c)).off = none ∧ t.tick = max s.tick (t0 + 40000000) ∧ t.regs = s.regs) ∧
  (∀ (s : State) (c : Fin 32), s.canonical = true → s.isOutput c = true → s.fgOk (c / 8) = true → (s.fg (c / 8)).rbFrom ≤ s.tick →
    s.dioDriven c = true → s.flag (DIO_ST (s.dioLead c)) DIO_ST_SCFLT = false → s.flag (DIO_ST (s.dioLead c)) DIO_ST_THFLT = false → ∃ t,
    exec (.readbackError c false) s = .next t ∧ t.flag (DIO_ST (s.dioLead c)) DIO_ST_RBERR = true ∧ t.events.length = s.events.length + 1) ∧
  (∀ (s : State) (k : Fin 4) (v : BitVec 16) (raw : Byte), s.canonical = true → ∃ t, exec (.fieldSupplySample k v raw) s = .next t ∧
    t.get (FG_STAT k) FG_STAT_VOLT = v.toNat % 2 ^ FG_STAT_VOLT.w ∧ t.tick = (s.tick + 3999) / 4000 * 4000)

/-- A supply group goes LOW, re-arms and clears, analogue inputs sample together, and a shunt opens and reconnects. (14_field_io_analogue.md R444, 14_field_io_analogue.md R446, 14_field_io_analogue.md R447, 14_field_io_analogue.md R448). -/
def Obligations.SupplyAndAnalogueCommandsComplete : Prop :=
  (∀ (s : State) (k : Fin 4) (v : BitVec 16) (raw : Byte), s.canonical = true → s.fgState k ≤ 1 → 1 ≤ (s.fg k).n2 → 900 ≤ v.toNat →
    v.toNat < 1600 → ∃ t, exec (.fieldSupplySample k v raw) s = .next t ∧ t.fgState k = 2) ∧
  (∀ (s : State) (k : Fin 4), s.canonical = true → s.hostMay (FG_CMD k) → s.fgState k = 0 → ∃ t, exec (.fgRearm k) s = .next t ∧
    t.flag (FG_STAT k) FG_STAT_HOLD = false ∧ ∀ a, a ≠ FG_STAT k → t.rd a = s.rd a) ∧
  (∀ (s : State) (k : Fin 4), s.canonical = true → s.hostMay (FG_CMD k) → s.fgState k ≠ 0 → ∃ t, exec (.fgRearm k) s = .next t ∧
    t.flag (FG_STAT k) FG_STAT_REARM_REFUSED = true ∧ ∀ a, a ≠ FG_STAT k → t.rd a = s.rd a) ∧
  (∀ (s : State) (k : Fin 4), s.canonical = true → s.hostMay (FG_CMD k) → ∃ t, exec (.fgClrflags k) s = .next t ∧
    t.flag (FG_STAT k) FG_STAT_REARM_REFUSED = false ∧ ∀ j < 8, t.rd (DIO_ST (8 * k + j)) = s.rd (DIO_ST (8 * k + j)) &&& ~~~0x1E) ∧
  (∀ (s : State) (k : Fin 4), s.canonical = true → s.hostMay (FG_CMD k) → ∃ t, exec (.fgClrcnt k) s = .next t ∧ t.rd (FG_CNT k) = 0 ∧
    ∀ a, a ≠ FG_CNT k → t.rd a = s.rd a) ∧
  (∀ (s : State) (codes : Vector (BitVec 16) 8), s.canonical = true → ∃ t, exec (.analogueSample codes) s = .next t ∧
    t.tick = (s.tick + 1599) / 1600 * 1600 ∧
    ∀ i < 8, s.get (AI_CFG i) AI_CFG_RANGE = 0 → s.get (AI_CFG i) AI_CFG_AVG = 0 → (s.ai i).cnt = 0 → (s.ai i).sum = 0 →
      t.rd (AI_VAL i) = BitVec.ofInt 32 (divConv ((vget codes i 0).toInt * 512) 1)) ∧
  (∀ (s : State) (i : Fin 8), s.canonical = true → s.get (AI_CFG i) AI_CFG_RANGE = 1 → s.flag (AI_STAT i) AI_STAT_SHOPEN = false → ∃ t,
    exec (.shuntOpen i) s = .next t ∧ t.flag (AI_STAT i) AI_STAT_SHOPEN = true ∧ (t.ai i).openAt = s.tick ∧
    t.events.length = s.events.length + 1) ∧
  (∀ (s : State) (i : Fin 8), s.canonical = true → s.flag (AI_STAT i) AI_STAT_SHOPEN = true → ∃ t, exec (.shuntReconnect i) s = .next t ∧
    t.flag (AI_STAT i) AI_STAT_SHOPEN = false ∧ t.tick = max s.tick ((s.ai i).openAt + 40000000) ∧ t.io = s.io)

/-- The safety watchdog, a cycle, safe inputs and their discrepancy, off pulses, the reset button, the switch bank and the delay of the brake command answer the next state of their own effect. (13_safety.md R401, 13_safety.md R414, 13_safety.md R417, 13_safety.md R418, 13_safety.md R421, 13_safety.md R422, 13_safety.md R423, 13_safety.md R426, 13_safety.md R427, 13_safety.md R430). -/
def Obligations.SafetyCommandsComplete : Prop :=
  (∀ (s : State) (c : Fin 32), s.canonical = true → s.isS = true → s.safe.set ≠ [] → connUsed (setConn s.safe.set c) = true →
    (s.conn c).exp = false → bU (setConn s.safe.set c) 4 1 < 64 → ∃ t, exec (.safeWdtExpire c) s = .next t ∧ (t.conn c).exp = true ∧
    t.flag (RSAFE_W0 c) RSAFE_W0_WDEXP = true ∧ (t.chAx 0 (bU (setConn s.safe.set c) 4 1)).sto = true ∧
    (t.chAx 1 (bU (setConn s.safe.set c) 4 1)).sto = true ∧ t.tick = max s.tick ((s.conn c).at_ + bU (setConn s.safe.set c) 6 2 * 400000)) ∧
  (∀ (s : State) (pos : List (Fin 40 × BitVec 40)) (bad : List (Fin 40)), s.isS = true → s.chRuns 0 = true → ∃ t,
    exec (.safetyCycle false pos bad) s = .next t ∧ (t.ch 0).cyc = (s.ch 0).cyc + 1 ∧ t.tick = (s.tick / 100000 + 1) * 100000) ∧
  (∀ (s : State) (pos : List (Fin 40 × BitVec 40)) (bad : List (Fin 40)), s.isS = true → s.chRuns 1 = true → ∃ t,
    exec (.safetyCycle true pos bad) s = .next t ∧ (t.ch 1).cyc = (s.ch 1).cyc + 1 ∧ t.tick = s.tick) ∧
  (∀ (s : State) (b : Bool) (pos : List (Fin 40 × BitVec 40)) (bad : List (Fin 40)), s.chRuns (b2n b) = false →
    exec (.safetyCycle b pos bad) s = .next s) ∧
  (∀ (s : State) (i : Fin 8) (wireB lvl : Bool), s.isS = true → ∃ t, exec (.safeInputAccept i wireB lvl) s = .next t ∧
    (wireB = true → (t.sin i).b = lvl ∧ (t.sin i).a = (s.sin i).a) ∧ (wireB = false → (t.sin i).a = lvl ∧ (t.sin i).b = (s.sin i).b)) ∧
  (∀ (s : State) (i : Fin 8) (t0 : Int), (s.sin i).since = some t0 → s.safe.set ≠ [] → (s.sin i).disc = false → ∃ t,
    exec (.safeInputDiscrepancy i) s = .next t ∧ (t.sin i).disc = true ∧
    t.tick = max s.tick (t0 + (bU (setInput s.safe.set i) 2 2 * 400000 : Nat)).toNat) ∧
  (∀ (s : State) (b : Bool) (o : Fin 12), s.canonical = true → s.isS = true → s.chRuns (b2n b) = true → ∃ t,
    exec (.offPulse b o false) s = .next t ∧ t.flag SF_STAT SF_STAT_IOFAULT = true ∧ nbit (t.get SF_OUT SF_OUT_RBF) o = true ∧
    t.flag SF_STAT SF_STAT_RSTWAIT = true) ∧
  (∀ (s : State) (b : Bool) (o : Fin 12), s.isS = true → s.chRuns (b2n b) = true → ∃ t, exec (.offPulse b o true) s = .next t ∧
    vget t.safe.rbBad o true = false ∧ t.safe.chs = s.safe.chs ∧ t.rd SF_STAT = s.rd SF_STAT ∧ t.rd SF_OUT = s.rd SF_OUT) ∧
  (∀ (s : State) (hiA hiB skew : Word), s.safe.longHigh = true → ∃ t, exec (.safeResetEdge hiA hiB skew) s = .next t ∧
    t.safe = { s.safe with longHigh := false } ∧ t.regs = s.regs) ∧
  (∀ (s : State) (hiA hiB skew : Word), s.canonical = true → s.isS = true → s.safe.longHigh = false → 20000000 ≤ hiA.toNat → hiA.toNat ≤ 1200000000 →
    20000000 ≤ hiB.toNat → hiB.toNat ≤ 1200000000 → skew.toNat ≤ 4000000 →
    (s.safe.swAt.any fun (x : Nat) => x / 100000 == s.tick / 100000) = false → ∃ t,
    exec (.safeResetEdge hiA hiB skew) s = .next t ∧ t.get SF_CNT SF_CNT_EDGES = incSat SF_CNT_EDGES.w (s.get SF_CNT SF_CNT_EDGES) ∧
    t.flag SF_STAT SF_STAT_RSTDISC = false ∧ t.flag SF_STAT SF_STAT_RSTFLT = false ∧
    ((∀ o < 12, vget s.safe.rbBad o false = false) → t.flag SF_STAT SF_STAT_IOFAULT = false)) ∧
  (∀ (s : State) (hiA hiB skew : Word), s.canonical = true → s.isS = true → s.safe.longHigh = false → 20000000 ≤ hiA.toNat → hiA.toNat ≤ 1200000000 →
    hiB.toNat < 20000000 → ∃ t, exec (.safeResetEdge hiA hiB skew) s = .next t ∧ t.flag SF_STAT SF_STAT_RSTDISC = true ∧ t.safe = s.safe ∧ t.tick = s.tick) ∧
  (∀ s : State, s.canonical = true → ∃ t, exec .safeResetLongHigh s = .next t ∧ t.flag SF_STAT SF_STAT_RSTFLT = true ∧
    t.safe = { s.safe with longHigh := true })

/-- The end, the overdue and the lock of a brake test, the loss of the safety supply and the start of a channel answer the next state of their own effect. (13_safety.md R409, 13_safety.md R415, 13_safety.md R416, 13_safety.md R423). -/
def Obligations.SafetyTestCommandsComplete : Prop :=
  (∀ (s : State) (a b : BitVec 8), s.isS = true → ∃ t, exec (.switchBankSample a b) s = .next t ∧
    t.tick = (s.tick / 4000000 + 1) * 4000000 ∧ (t.ch 0).sws = (a.toNat :: (s.ch 0).sws).take 3 ∧ (t.ch 1).sws = (b.toNat :: (s.ch 1).sws).take 3) ∧
  (∀ (s : State) (n : Fin 32) (at_ o : Nat), (s.ch 0).sbc = [(n.val, at_, true)] → (s.ch 1).sbc = [] → s.brakeOf n = some o → ∃ t,
    exec (.sbcDelayEnd n) s = .next t ∧ (t.ch 0).sbc = [] ∧ vget (t.ch 0).out o false = false ∧ t.tick = max s.tick at_) ∧
  (∀ (s : State) (n : Fin 32) (at_ : Nat), (s.ch 0).sbc = [(n.val, at_, false)] → (s.ch 1).sbc = [] → ∃ t,
    exec (.sbcDelayEnd n) s = .next t ∧ (t.ch 0).sbc = [] ∧ vget (t.ch 0).line n false = false ∧ t.tick = max s.tick at_) ∧
  (∀ (s : State) (n : Fin 32) (iq : Word) (t0 : Nat) (pa pb : Int), s.canonical = true → s.safe.btAt.lookup n.val = some t0 →
    (s.chAx 0 n).bt = some pa → (s.chAx 1 n).bt = some pb → absI ((s.chAx 0 n).hist.headD 0 - pa) ≤ bU (s.sRec n) 88 4 →
    absI ((s.chAx 1 n).hist.headD 0 - pb) ≤ bU (s.sRec n) 88 4 → absI (bS (s.sRec n) 92 4) ≤ absI iq.toInt → ∃ t,
    exec (.brakeTestEnd n iq) s = .next t ∧ t.flag (SF_BT (bU (s.sRec n) 11 1 % 8)) SF_BT_OVERDUE = false ∧
    t.flag (SF_BT (bU (s.sRec n) 11 1 % 8)) SF_BT_LOCK = false ∧ t.flag (SF_BT (bU (s.sRec n) 11 1 % 8)) SF_BT_FAIL = s.flag (SF_BT (bU (s.sRec n) 11 1 % 8)) SF_BT_FAIL ∧ (t.loop n).hold = none ∧
    t.tick = max s.tick (t0 + bU (s.sRec n) 84 2 * 400000)) ∧
  (∀ (s : State) (n : Fin 32) (iq : Word) (t0 : Nat) (pa pb : Int), s.canonical = true → s.safe.btAt.lookup n.val = some t0 →
    (s.chAx 0 n).bt = some pa → (s.chAx 1 n).bt = some pb → (bU (s.sRec n) 88 4 : Int) < absI ((s.chAx 0 n).hist.headD 0 - pa) → ∃ t,
    exec (.brakeTestEnd n iq) s = .next t ∧ t.flag (SF_BT (bU (s.sRec n) 11 1 % 8)) SF_BT_FAIL = true ∧ (t.chAx 0 n).sto = true ∧
    (t.chAx 1 n).sto = true) ∧
  (∀ (s : State) (k : Fin 8) (n : Nat), s.canonical = true → s.brakeAxis k = some n → bU (s.sRec n) 80 2 ≠ 0 → ∃ t,
    exec (.brakeTestOverdue k) s = .next t ∧ t.flag (SF_BT k) SF_BT_OVERDUE = true ∧
    t.tick = max s.tick (vget s.safe.btPass k 0 + (bU (s.sRec n) 80 2 * 1440000000000 : Nat)).toNat) ∧
  (∀ (s : State) (k : Fin 8) (n : Nat), s.canonical = true → s.brakeAxis k = some n → s.flag (SF_BT k) SF_BT_OVERDUE = true → ∃ t,
    exec (.brakeTestLock k) s = .next t ∧ t.flag (SF_BT k) SF_BT_LOCK = true ∧ t.flag (SF_BT k) SF_BT_OVERDUE = true) ∧
  (∀ s : State, s.canonical = true → s.isS = true → ∃ t, exec .safetySupplyLoss s = .next t ∧ (t.ch 1).st = 0 ∧ t.flag SF_STAT SF_STAT_RSTWAIT = true ∧
    (∀ n < 32, vget (t.ch 1).line n false = false) ∧ ∀ n < 64, (t.chAx 0 n).sto = true ∧ (t.chAx 1 n).sto = true) ∧
  (∀ (s : State) (b good : Bool), s.isS = true → (s.ch (b2n b)).st = 0 → ∃ t, exec (.safetyChannelStart b good) s = .next t ∧
    (t.ch (b2n b)).st = (if good then 1 else 2) ∧ t.time = s.time)

/-- Each compatible packet that passes its checks has the effect of its native command with the translated parameters. (17_command_reference.md R519, 17_command_reference.md R520). -/
def Obligations.PacketCommandsComplete : Prop :=
  (∀ (s s1 : State) (c : Cmd) (t : Req), s.admitsPacket c 0x8000 = some (s1, t) →
    exec (.nx2416Nop c) s = .next (s1.cmdNop t) ∧ t.tag = c.tag.toNat ∧ t.op = 0x0000 ∧ t.data = []) ∧
  (∀ (s s1 : State) (c : Cmd) (t : Req), s.admitsPacket c 0x8001 = some (s1, t) →
    exec (.status c) s = .next (s1.cmdIdentify t) ∧ t.tag = c.tag.toNat ∧ t.op = 0x0001 ∧ t.data = []) ∧
  (∀ (s s1 : State) (c : Cmd) (t : Req), s.admitsPacket c 0x8010 = some (s1, t) →
    exec (.goRun c) s = .next (s1.cmdSetState t) ∧ t.tag = c.tag.toNat ∧ t.op = 0x0003 ∧ t.p = [2] ∧ t.data = []) ∧
  (∀ (s s1 : State) (c : Cmd) (t : Req), s.admitsPacket c 0x8011 = some (s1, t) →
    exec (.goStop c) s = .next (s1.cmdSetState t) ∧ t.tag = c.tag.toNat ∧ t.op = 0x0003 ∧ t.p = [3] ∧ t.data = []) ∧
  (∀ (s s1 : State) (c : Cmd) (t : Req), s.admitsPacket c 0x8012 = some (s1, t) →
    exec (.goConfig c) s = .next (s1.cmdSetState t) ∧ t.tag = c.tag.toNat ∧ t.op = 0x0003 ∧ t.p = [1] ∧ t.data = []) ∧
  (∀ (s s1 : State) (c : Cmd) (t : Req), s.admitsPacket c 0x8100 = some (s1, t) → nxUnit c.unit.toNat = some t.unit →
    exec (.axisOnOff c) s = .next (s1.cmdEnable t) ∧ t.tag = c.tag.toNat ∧ t.op = 0x0401 ∧ t.p = [(cmdReq c 0x8100).P 0] ∧ t.data = []) ∧
  (∀ (s s1 : State) (c : Cmd) (t : Req), s.admitsPacket c 0x8101 = some (s1, t) → nxUnit c.unit.toNat = some t.unit →
    exec (.faultReset c) s = .next (s1.cmdTripClear t) ∧ t.tag = c.tag.toNat ∧ t.op = 0x0402 ∧ t.p = [] ∧ t.data = []) ∧
  (∀ (s s1 : State) (c : Cmd) (t : Req), s.admitsPacket c 0x8200 = some (s1, t) → nxUnit c.unit.toNat = some t.unit → let r := cmdReq c 0x8200;
    exec (.moveAbs c) s = .next (s1.cmdMovePtp t) ∧ t.tag = c.tag.toNat ∧ t.op = 0x0801 ∧ t.p = [] ∧ t.data.length = 32 ∧
    t.fld 0 = r.P 2 ∧ t.fld 1 = r.P 3 ∧ t.fld 2 = r.P 4 ∧ t.fld 3 = wrapS 64 (256 * (r.P64 0 : Int))) ∧
  (∀ (s s1 : State) (c : Cmd) (t : Req), s.admitsPacket c 0x8201 = some (s1, t) → nxUnit c.unit.toNat = some t.unit →
    exec (.moveStop c) s = .next (s1.cmdStop t) ∧ t.tag = c.tag.toNat ∧ t.op = 0x0806 ∧ t.p = [] ∧ t.data = []) ∧
  (∀ (s s1 : State) (c : Cmd) (t : Req) (m : Nat), s.admitsPacket c 0x8300 = some (s1, t) → nxUnit c.unit.toNat = some t.unit →
    nxUnit ((cmdReq c 0x8300).P 1 % 256) = some m → let r := cmdReq c 0x8300;
    exec (.gearOn c) s = .next (s1.cmdGear t) ∧ t.tag = c.tag.toNat ∧ t.op = 0x0C00 ∧ wrapS 32 (t.P 0) = wrapS 16 (r.P 0 % 65536) ∧
    t.P 1 = r.P 0 / 65536 ∧ t.P 2 = m ∧ t.data = []) ∧
  (∀ (s s1 : State) (c : Cmd) (t : Req), s.admitsPacket c 0x8301 = some (s1, t) → nxUnit c.unit.toNat = some t.unit →
    exec (.gearOff c) s = .next (s1.cmdSetSource t) ∧ t.tag = c.tag.toNat ∧ t.op = 0x0800 ∧ t.p = [0xFF00] ∧ t.data = []) ∧
  (∀ (s s1 : State) (c : Cmd) (t : Req), s.admitsPacket c 0x8900 = some (s1, t) → let r := cmdReq c 0x8900;
    exec (.outWrite c) s = .next (s1.cmdIoWrite t) ∧ t.tag = c.tag.toNat ∧ t.op = 0x2401 ∧ t.p = [r.P 0 % 65536, r.P 0 / 65536] ∧ t.data = []) ∧
  (∀ (s s1 : State) (c : Cmd) (t : Req), s.admitsPacket c 0x8901 = some (s1, t) →
    exec (.inRead c) s = .next (s1.finish t.tag .ok (s1.rdN DIOG_IN % 65536)) ∧ t.tag = c.tag.toNat)

/-- Writes of LP memory, VERIFYA and VERIFYB, the end of a check, an interrupt, a fault and the writes of the loop data map answer the next state of their own effect. (09_loop_processor.md R271, 09_loop_processor.md R290, 09_loop_processor.md R291, 09_loop_processor.md R293, 09_loop_processor.md R295, 09_loop_processor.md R296, 09_loop_processor.md R297, 09_loop_processor.md R298). -/
def Obligations.LoopProcessorCommandsComplete : Prop :=
  (∀ (s : State) (k : Fin 16) (i : Fin 65536) (v : Word), s.canonical = true → s.hostMay (0x400000 + 0x40000 * k + 4 * i) → i.val < 32768 →
    decide (16384 ≤ i.val) ≠ s.lpBank k → ∃ t, exec (.lpMemoryWrite k i v) s = .next t ∧ wmGet t.mem.lpCode (32768 * k + i) = v ∧
    t.get (bankReg k (decide (16384 ≤ i.val))) LP_BANKA_STATE = 1 ∧ t.mem.lpData = s.mem.lpData) ∧
  (∀ (s : State) (k : Fin 16) (i : Fin 65536) (v : Word), s.canonical = true → s.hostMay (0x400000 + 0x40000 * k + 4 * i) → i.val < 32768 →
    decide (16384 ≤ i.val) = s.lpBank k → ∃ t, exec (.lpMemoryWrite k i v) s = .next t ∧ t.mem = s.mem ∧
    t.flag SYS_BADACC SYS_BADACC_REASON = true) ∧
  (∀ (s : State) (k : Fin 16) (i : Fin 65536) (v : Word), s.canonical = true → s.hostMay (0x400000 + 0x40000 * k + 4 * i) → 32768 ≤ i.val →
    s.inMorning = true → ∃ t, exec (.lpMemoryWrite k i v) s = .next t ∧ wmGet t.mem.lpData (32768 * k + (i - 32768)) = v ∧
    t.mem.lpCode = s.mem.lpCode ∧ t.regs = s.regs) ∧
  (∀ (s : State) (k : Fin 16), s.canonical = true → s.hostMay (LP_CMD k) → (s.lp k).verify = none → ∃ t, exec (.lpVerifya k) s = .next t ∧
    t.flag (LP_BANKA k) LP_BANKA_VBUSY = true ∧ (t.lp k).verify = some (false, s.tick) ∧ t.mem = s.mem) ∧
  (∀ (s : State) (k : Fin 16), s.canonical = true → s.hostMay (LP_CMD k) → (s.lp k).verify = none → ∃ t, exec (.lpVerifyb k) s = .next t ∧
    t.flag (LP_BANKB k) LP_BANKA_VBUSY = true ∧ (t.lp k).verify = some (true, s.tick) ∧ t.mem = s.mem) ∧
  (∀ (s : State) (k : Fin 16) (b : Bool) (t0 : Nat), let std := s.isBuilt k b || nbit (s.codeU16 k b 6) 0;
    let u := (s.advanceTo (t0 + (s.imageLen k b / 8 + 65) / 2)).modLp k fun l =>
      { l with stdA := if b then l.stdA else std, stdB := if b then std else l.stdB };
    s.canonical = true → (s.lp k).verify = some (b, t0) → ∃ t, exec (.verifyDone k) s = .next t ∧
    (t.lp k).verify = none ∧ t.flag (bankReg k b) LP_BANKA_VBUSY = false ∧ t.tick = max s.tick (t0 + (s.imageLen k b / 8 + 65) / 2) ∧
    t.get (bankReg k b) LP_BANKA_VRES = u.verifyCheck k b ∧
    t.get (bankReg k b) LP_BANKA_STATE = (if u.verifyCheck k b = 0 then 2 else 3)) ∧
  (∀ (s : State) (k : Fin 16), s.canonical = true → s.hostMay (LP_CMD k) → ∃ t, exec (.lpClrcnt k) s = .next t ∧ t.rd (LP_CNT k) = 0 ∧ t.mem = s.mem) ∧
  (∀ (s : State) (k : Fin 16), s.canonical = true → s.lpPend k &&& s.get (LP_CTRL k) LP_CTRL_IRQEN ≠ 0 → (s.lp k).sh = false →
    (s.lp k).main.age.ie = true → (s.lp k).target = none → (s.lp k).waitD = none → s.lpMode k < 2 → ∃ t, exec (.lpInterrupt k) s = .next t ∧
    (t.lp k).sh = true ∧ (t.lp k).resume = (s.lp k).pc ∧ (t.lp k).pc = s.codeU16 k (s.lpBank k) 16 ∧ (t.lp k).shadow.ie = false ∧
    t.flag (LP_STAT k) LP_STAT_IRQACT = true ∧
    t.get (LP_CNT k) LP_CNT_IRQS = incSat LP_CNT_IRQS.w (s.get (LP_CNT k) LP_CNT_IRQS)) ∧
  (∀ (s : State) (k : Fin 16) (causes : BitVec 6), s.canonical = true → causes ≠ 0 → s.lpMode k < 2 → ∃ t, exec (.lpFault k causes) s = .next t ∧
    t.lpMode k = 2 ∧ t.get (LP_FAULT k) LP_FAULT_CAUSE = causes.toNat ∧ t.get (LP_FAULT k) LP_FAULT_PC = (s.lp k).pc % 2 ^ LP_FAULT_PC.w ∧
    (t.lp k).pc = 16384 ∧ (t.lp k).run = none ∧ (t.lp k).sh = false ∧ t.tick = s.tick + 1) ∧
  (∀ (s : State) (k : Fin 16) (causes : BitVec 6), s.canonical = true → causes ≠ 0 → s.lpMode k = 2 → ∃ t, exec (.lpFault k causes) s = .next t ∧
    (t.lp k).run = none ∧ (t.lp k).sh = false ∧ t.tick = s.tick + 1 ∧ t.events.getLast?.map (fun (e : Event) => (e.kind, e.unit)) = some (EventKind.lpHalted, k.val)) ∧
  (∀ (s : State) (a : Fin 80) (v : Word), (s.lp (s.lpOf a)).sh = false → a.val < 64 → s.canonical = true → ∃ t, exec (.mapTrefWrite a v) s = .next t ∧
    (t.loop a).tRef = v.toInt ∧ (t.loop a).tRefAt = s.tick + 1 ∧ t.rd (AXL_TREF a) = v) ∧
  (∀ (s : State) (a : Fin 80) (v : Word), (s.lp (s.lpOf a)).sh = false → a.val < 32 → ∃ t, exec (.mapIqrefWrite a v) s = .next t ∧
    (t.loop a).iRef = some ((s.loop a).idStage, v.toInt) ∧ (t.loop a).iRefAt = s.tick + 1) ∧
  (∀ (s : State) (a : Fin 80) (v : Word), s.canonical = true → (s.lp (s.lpOf a)).sh = false → a.val < 32 → ∃ t, exec (.mapAstampWrite a v) s = .next t ∧
    (t.loop a).lawAng = some ((s.loop a).angStage, (s.loop a).weStage, s.unstamp v.toNat) ∧ (t.loop a).lawAngAt = s.tick + 1 ∧
    ∀ b, b ≠ AX_LAT a → t.rd b = s.rd b) ∧
  (∀ (s : State) (a : Fin 80) (v : Word) (j : Nat), s.canonical = true → (s.lp (s.lpOf a)).sh = false → a.val < 32 → s.fourth a = some j → ∃ t,
    exec (.mapCmp4Write a v) s = .next t ∧ t.rdN (PWMX_CMP j) = v.toNat % 2 ^ 25) ∧
  (∀ (s : State) (a : Fin 80) (v : Word), (s.lp (s.lpOf a)).sh = false → a.val < 32 → s.fourth a = none → exec (.mapCmp4Write a v) s = .next s) ∧
  (∀ (s : State) (a : Fin 80) (v : Word), (s.lp (s.lpOf a)).sh = false → a.val < 32 → nbit v.toNat 0 = true → ∃ t, exec (.mapCmpcWrite a v) s = .next t ∧
    (t.pwm a).cmpPart = [] ∧ (t.pwm a).fieldPart = (s.pwm a).fieldPart ∧ ((s.pwm a).fly = none → t.regs = s.regs)) ∧
  (∀ (s : State) (a : Fin 80) (v : Word), ∃ t, exec (.mapEventWrite a v) s = .next t ∧ t.regs = s.regs ∧
    (t.events.any fun (e : Event) => e.kind == EventKind.mapEvent && e.unit == a.val && e.val == v.toInt) = true) ∧
  (∀ (s : State) (a : Fin 80) (v : Word), (s.lp (s.lpOf a)).sh = true → exec (.mapTrefWrite a v) s = .next s ∧ exec (.mapIqrefWrite a v) s = .next s ∧
    exec (.mapAstampWrite a v) s = .next s ∧ exec (.mapCmp4Write a v) s = .next s ∧ exec (.mapCmpcWrite a v) s = .next s)

/-- RECORD_APPEND, RECORD_PROGRAM, MERGE_WINDOW_END, FREEZE_TIMEOUT, writes of LOG_CURSOR, NEXT and the end of a load answer the next state of their own effect. (20_stud_book.md R566, 20_stud_book.md R568, 20_stud_book.md R572, 20_stud_book.md R573, 20_stud_book.md R574, 20_stud_book.md R575, 20_stud_book.md R577, 20_stud_book.md R578). -/
def Obligations.StudBookCommandsComplete : Prop :=
  (∀ (s : State) (e : Event) (rest : List Event) (x : Entry), s.events.drop s.log.seen = e :: rest → s.entryOf e = some x → s.pw.fwRun = true → s.log.thaw = none →
    (s.mergeTicks = 0 ∨ neverMerged x.type = true) → s.frozen = false → ∃ t, exec .recordAppend s = .next t ∧ t.log.seen = s.log.seen + 1 ∧
    t.log.next = s.log.next + 1 ∧ t.log.buffer = s.log.buffer ++ [(s.log.next, logRecord x.type x.agent x.unit s.log.next
      (s.utcOf (if e.mt < s.log.resumed then e.mt else s.time.mt)) s.synced false s.log.calBad x.body)] ∧ t.log.store = s.log.store) ∧
  (∀ (s : State) (fails : Bool) (q : Nat) (r : List Byte) (rest : List (Nat × List Byte)), s.canonical = true → s.log.buffer = (q, r) :: rest → s.frozen = false →
    s.pw.fwRun = true → s.log.used + r.length ≤ 262144 → ∃ t, exec (.recordProgram ⟨false, fails⟩) s = .next t ∧ t.log.buffer = rest ∧
    t.log.store = (s.log.block, q, r) :: s.log.store ∧ t.log.used = s.log.used + r.length ∧ t.rd64N LOG_NEWEST = q % 2 ^ 64) ∧
  (∀ (s : State) (fails : Bool) (q : Nat) (r : List Byte) (rest : List (Nat × List Byte)), s.canonical = true → s.log.buffer = (q, r) :: rest → s.frozen = false →
    s.pw.fwRun = true → r.length ≤ 262144 → ∃ t, exec (.recordProgram ⟨true, fails⟩) s = .next t ∧ t.log.buffer = rest ∧
    t.log.retired.drop (b2n fails) = s.log.block :: s.log.retired ∧
    t.events.getLast?.map (fun (e : Event) => (e.kind, e.unit)) = some (EventKind.nandRetired, s.log.block) ∧ t.rd64N LOG_NEWEST = q % 2 ^ 64) ∧
  (∀ (s : State) (k : MergeKey) (rest : List MergeKey), s.log.keys = k :: rest → s.pw.fwRun = true → k.count = 0 → ∃ t, exec .mergeWindowEnd s = .next t ∧
    k ∉ t.log.keys ∧ t.log.buffer = s.log.buffer ∧ t.tick = max s.tick (k.at_ + s.mergeTicks)) ∧
  (∀ (s : State) (k : MergeKey) (rest : List MergeKey), s.log.keys = k :: rest → s.pw.fwRun = true → k.count ≠ 0 → s.frozen = false → s.log.thaw = none → ∃ t,
    exec .mergeWindowEnd s = .next t ∧ k ∉ t.log.keys ∧ t.log.next = s.log.next + 1 ∧ t.log.buffer = s.log.buffer ++
      [(s.log.next, logRecord k.type k.agent k.unit s.log.next k.utc k.sync true s.log.calBad (leBytes 8 k.seq ++ leBytes 4 k.count ++ leBytes 4 0))]) ∧
  (∀ (s : State) (t0 : Nat), s.canonical = true → s.log.frozen = some t0 → s.pw.fwRun = true → ∃ t, exec .freezeTimeout s = .next t ∧ t.frozen = false ∧
    t.flag LOG_STAT LOG_STAT_FROZEN = false ∧ t.flag LOG_STAT LOG_STAT_FRZTO = true ∧
    t.tick = max s.tick (t0 + 400000000 * s.get LOG_CFG LOG_CFG_FRZMAX)) ∧
  (∀ (s : State) (q : Word64), s.canonical = true → s.hostMay LOG_CURSOR → ∃ t, exec (.logCursorWrite q) s = .next t ∧ t.rd64 LOG_CURSOR = q ∧
    t.flag LOG_RSTAT LOG_RSTAT_BUSY = true ∧ t.log.load = some q.toNat) ∧
  (∀ (s : State) (q : Nat), s.canonical = true → s.hostMay LOG_CTRL → s.flag LOG_RSTAT LOG_RSTAT_BUSY = false → s.log.shown = some q → ∃ t,
    exec .logNext s = .next t ∧ t.flag LOG_RSTAT LOG_RSTAT_BUSY = true ∧ t.log.load = some (q + 1)) ∧
  (∀ s : State, s.hostMay LOG_CTRL → s.flag LOG_RSTAT LOG_RSTAT_BUSY = true → exec .logNext s = .next s) ∧
  (∀ (s : State) (q : Nat), s.canonical = true → s.log.load = some q → s.pw.fwRun = true → s.rd64N LOG_NEWEST < q → ∃ t, exec .logLoadDone s = .next t ∧
    t.flag LOG_RSTAT LOG_RSTAT_BUSY = false ∧ t.flag LOG_RSTAT LOG_RSTAT_AFTER = true ∧ t.log = { s.log with load := none }) ∧
  (∀ (s : State) (q n : Nat) (r : List Byte), s.canonical = true → s.log.load = some q → s.pw.fwRun = true → q ≤ s.rd64N LOG_NEWEST → s.logFind q = some (n, r) → ∃ t,
    exec .logLoadDone s = .next t ∧ t.flag LOG_RSTAT LOG_RSTAT_BUSY = false ∧ t.flag LOG_RSTAT LOG_RSTAT_HAVE = true ∧
    t.flag LOG_RSTAT LOG_RSTAT_CRCBAD = !logGood r ∧ t.log = { s.log with load := none, shown := some n } ∧
    t.rdN (LOG_HDR 0) = bU r 0 4 ∧ t.rdN (LOG_WIN 0) = bU r 32 4)

/-- Requests, responses and the segment timeout of the acyclic channel, and the command ACYCLIC, answer the next state of their own effect. (11_ramaux.md R360, 11_ramaux.md R361, 11_ramaux.md R362, 17_command_reference.md R516). -/
def Obligations.AcyclicCommandsComplete : Prop :=
  (∀ (s : State) (peer : Fin 1024) (sec : Bool) (body bs : List Byte) (id fl seg : Nat), s.inDawn = false →
    acyParse body = some (id, s.node, fl, seg, bs) → fl % 2 = 0 → nbit fl 1 = true → (∀ k ∈ s.rm.kept, ¬(k.1 = peer.val ∧ k.2.1 = id)) →
    (∀ x ∈ s.rm.executing, ¬(x.1 = peer.val ∧ x.2.1 = id)) → (∀ q ∈ s.rm.reqs, ¬(q.peer = peer.val ∧ q.id = id)) → ∃ t,
    exec (.acyclicRequestReceive peer sec body) s = .next t ∧
    t.rm.reqs = s.rm.reqs ++ [({ peer := peer, id := id, frame := s.time.frameNum, segs := [(seg, true, bs)], sec := sec } : AcyReq)] ∧ t.regs = s.regs) ∧
  (∀ (s : State) (peer : Fin 1024) (sec : Bool) (body bs : List Byte) (id fl : Nat), s.inDawn = false →
    acyParse body = some (id, s.node, fl, 0, bs) → fl % 2 = 0 → nbit fl 1 = false → (∀ k ∈ s.rm.kept, ¬(k.1 = peer.val ∧ k.2.1 = id)) →
    (∀ x ∈ s.rm.executing, ¬(x.1 = peer.val ∧ x.2.1 = id)) → (∀ q ∈ s.rm.reqs, ¬(q.peer = peer.val ∧ q.id = id)) → 64 ≤ bs.length →
    s.flag RM_ACY RM_ACY_ACYEN = true → s.aclHas peer = true → (s.flag RM_ACY RM_ACY_ACYSEC = true → sec = true) →
    portRefuses (eOpcode bs) (eP bs) = false → exec (.acyclicRequestReceive peer sec body) s = .next (s.acyRun peer id bs)) ∧
  (∀ (s : State) (peer : Fin 1024) (sec : Bool) (body bs : List Byte) (id fl : Nat), s.inDawn = false →
    acyParse body = some (id, s.node, fl, 0, bs) → fl % 2 = 0 → nbit fl 1 = false → (∀ k ∈ s.rm.kept, ¬(k.1 = peer.val ∧ k.2.1 = id)) →
    (∀ x ∈ s.rm.executing, ¬(x.1 = peer.val ∧ x.2.1 = id)) → (∀ q ∈ s.rm.reqs, ¬(q.peer = peer.val ∧ q.id = id)) → 64 ≤ bs.length →
    s.aclHas peer = false → exec (.acyclicRequestReceive peer sec body) s = .next (s.acyRefuse peer id)) ∧
  (∀ s : State, ∃ t, exec .acyclicSegmentTimeout s = .next t ∧ (∀ q ∈ t.rm.reqs, q ∈ s.rm.reqs ∧ s.time.frameNum < q.frame + 10) ∧
    (∀ a ∈ t.rm.asked, a ∈ s.rm.asked ∧ s.time.frameNum < a.frame + 10) ∧
    (∀ a ∈ s.rm.asked, a.frame + 10 ≤ s.time.frameNum → ∀ w ∈ t.waits, w.tag ≠ a.tag) ∧ t.regs = s.regs) ∧
  (∀ (s : State) (node : Fin 1024) (body bs : List Byte) (id fl : Nat) (a : AcyAsk), s.inDawn = false →
    acyParse body = some (id, s.node, fl, 0, bs) → fl % 2 = 1 → nbit fl 1 = false → nbit fl 2 = false →
    (s.rm.asked.find? fun a => a.id == id && a.node == node.val) = some a → a.segs = [] →
    exec (.acyclicResponseReceive node body) s =
      .next ((s.modRm fun m => { m with asked := m.asked.filter fun x => x.tag != a.tag }).finish a.tag .ok 0 0 0 bs)) ∧
  (∀ (s : State) (node : Fin 1024) (body bs : List Byte) (id fl seg : Nat) (a : AcyAsk), s.inDawn = false →
    acyParse body = some (id, s.node, fl, seg, bs) → fl % 2 = 1 → nbit fl 2 = true →
    (s.rm.asked.find? fun a => a.id == id && a.node == node.val) = some a →
    exec (.acyclicResponseReceive node body) s =
      .next ((s.modRm fun m => { m with asked := m.asked.filter fun x => x.tag != a.tag }).finish a.tag .portRefused)) ∧
  (∀ (s s1 : State) (c : Cmd) (r : Req), s.admits c 0x1C06 = some (s1, r) → ∃ t, exec (.acyclic c) s = .next t ∧
    t.rm.asked = s1.rm.asked ++ [({ id := s1.rm.nextId, node := r.P 0, tag := r.tag, frame := s1.time.frameNum } : AcyAsk)] ∧
    t.rm.nextId = (s1.rm.nextId + 1) % 65536 ∧ t.waits.any (fun (w : Wait) => w.tag == r.tag && w.kind == WaitKind.acyclic) = true)

/-- Edges, entries, pops and clears of latch inputs, arming, RAM writes and pulses of compare outputs and CLRTGT answer the next state of their own effect. (05_latch_compare_register.md R147, 05_latch_compare_register.md R148, 05_latch_compare_register.md R149, 05_latch_compare_register.md R150, 05_latch_compare_register.md R152, 05_latch_compare_register.md R153, 05_latch_compare_register.md R155, 05_latch_compare_register.md R156, 05_latch_compare_register.md R157, 05_latch_compare_register.md R165). -/
def Obligations.LatchCompareCommandsComplete : Prop :=
  (∀ (s : State) (n : Fin 32) (st : Nat), (s.latch n).pair.pend = some st → s.flag (LI_CFG n) LI_CFG_EN = true → s.flag (LI_CFG n) LI_CFG_ISEL = false →
    nbit (s.get (LI_CFG n) LI_CFG_EDGE) (b2n (s.latch n).pair.lvl) = true → ∃ t, exec (.latchEdge n) s = .next t ∧
    (t.latch n).open_ = (s.latch n).open_ ++ [(st, !(s.latch n).pair.lvl)] ∧ (t.latch n).pair.lvl = !(s.latch n).pair.lvl ∧
    (t.latch n).pair.pend = none ∧ t.tick = max s.tick (st / 32 + max (s.latchN n) 1)) ∧
  (∀ (s : State) (n : Fin 32) (st : Nat), (s.latch n).pair.pend = some st → s.flag (LI_CFG n) LI_CFG_EN = true → s.flag (LI_CFG n) LI_CFG_ISEL = false →
    nbit (s.get (LI_CFG n) LI_CFG_EDGE) (b2n (s.latch n).pair.lvl) = false → ∃ t, exec (.latchEdge n) s = .next t ∧
    (t.latch n).open_ = (s.latch n).open_ ∧ (t.latch n).pair.lvl = !(s.latch n).pair.lvl) ∧
  (∀ (s : State) (n : Fin 32) (st : Nat) (rising : Bool) (rest : List (Nat × Bool)), s.canonical = true → (s.latch n).open_ = (st, rising) :: rest →
    s.get (LI_CFG n) LI_CFG_SRC = 0xFF → s.flag (LI_CFG n) LI_CFG_ISEL = false → (s.latch n).fifo = [] → s.flag (RC_CFG n) RC_CFG_EN = false → ∃ t,
    exec (.latchEntryComplete n) s = .next t ∧ (t.latch n).open_ = rest ∧
    (t.latch n).fifo = [{ stamp := st / 4, rising := rising, pos := 0, pinv := false }] ∧ t.rd64N (LI_ESTAMP n) = st / 4 % 2 ^ 64 ∧
    t.get (LI_STAT n) LI_STAT_LEVEL = 1 ∧ t.tick = max s.tick (st / 32 + s.latchN n + 6)) ∧
  (∀ (s : State) (n : Fin 32) (e : LatchEnt) (rest : List LatchEnt), s.canonical = true → s.hostMay (LI_CMD n) → (s.latch n).fifo = e :: rest →
    (∀ x, (s.latch n).ovf = some x → x.1 ≠ s.tick) → ∃ t, exec (.latchPop n) s = .next t ∧ (t.latch n).fifo = rest ∧ t.get (LI_STAT n) LI_STAT_LEVEL = rest.length % 2 ^ LI_STAT_LEVEL.w ∧
    t.rd64 (LI_ESTAMP n) = BitVec.ofNat 64 ((rest.map (·.stamp)).headD 0)) ∧
  (∀ (s : State) (n : Fin 32) (e x : LatchEnt) (rest : List LatchEnt) (w : Word), s.canonical = true → s.hostMay (LI_CMD n) →
    (s.latch n).fifo = e :: rest → (s.latch n).ovf = some (s.tick, x, w) → s.flag (LI_CFG n) LI_CFG_OVFMODE = false →
    ∃ t, exec (.latchPop n) s = .next t ∧ (t.latch n).fifo = rest ++ [x] ∧
    t.get (LI_STAT n) LI_STAT_OVFCNT = w.toNat / 2 ^ LI_STAT_OVFCNT.lo % 2 ^ LI_STAT_OVFCNT.w) ∧
  (∀ (s : State) (n : Fin 32), s.canonical = true → s.hostMay (LI_CMD n) → ∃ t, exec (.latchClr n) s = .next t ∧ (t.latch n).fifo = [] ∧
    t.get (LI_STAT n) LI_STAT_LEVEL = 0 ∧ t.rd64 (LI_ESTAMP n) = 0 ∧ t.rd64 (LI_EPOS n) = 0 ∧ t.rd (LI_EFLAG n) = 0) ∧
  (∀ (s : State) (n : Fin 32), s.canonical = true → s.hostMay (LI_CMD n) → ∃ t, exec (.latchClrcnt n) s = .next t ∧
    t.get (LI_STAT n) LI_STAT_GLITCH = 0 ∧ t.get (LI_STAT n) LI_STAT_OVFCNT = 0 ∧ t.get (LI_STAT n) LI_STAT_LEVEL = s.get (LI_STAT n) LI_STAT_LEVEL ∧
    (t.latch n) = s.latch n) ∧
  (∀ (s : State) (n : Fin 16) (start : BitVec 12), s.canonical = true → s.hostMay (CO_CMD n) → s.flag (CO_CFG n) CO_CFG_EN = true →
    start.toNat < s.get (CO_LIST n) CO_LIST_COUNT → (s.inMorning || s.running) = true → ∃ t, exec (.coArm n start) s = .next t ∧
    (t.compare n).armed = some start.toNat ∧ (t.compare n).check = some (s.tick + 1, true) ∧ (t.compare n).wraps = 0 ∧
    t.flag (CO_STAT n) CO_STAT_ARMED = true ∧ t.rd (CO_CYC n) = 0) ∧
  (∀ (s : State) (n : Fin 16) (start : BitVec 12), s.hostMay (CO_CMD n) → s.get (CO_LIST n) CO_LIST_COUNT ≤ start.toNat →
    exec (.coArm n start) s = .next s) ∧
  (∀ (s : State) (n : Fin 16), s.canonical = true → s.hostMay (CO_CMD n) → ∃ t, exec (.coDisarm n) s = .next t ∧ (t.compare n).armed = none ∧
    t.flag (CO_STAT n) CO_STAT_ARMED = false ∧ (t.compare n).active = ((s.coUpdate n).compare n).active ∧
    (t.compare n).pulseEnd = ((s.coUpdate n).compare n).pulseEnd) ∧
  (∀ (s : State) (n : Fin 16), s.canonical = true → s.hostMay (CO_CMD n) → ∃ t, exec (.coClrcnt n) s = .next t ∧ t.rd (CO_FIRED n) = 0 ∧
    ∀ b, b ≠ CO_FIRED n → t.rd b = s.rd b) ∧
  (∀ (s : State) (j : Fin 262144) (v : Word), s.canonical = true → s.hostMay (0x100000 + 4 * j) → ∃ t,
    exec (.compareRamWrite j v) s = .next t ∧ wmGet t.mem.cmpRam j = v ∧ (∀ i, i ≠ j.val → wmGet t.mem.cmpRam i = wmGet s.mem.cmpRam i) ∧
    t.regs = (s.forEach (List.range 16) fun s n => s.coUpdate n).regs) ∧
  (∀ (s : State) (j : Fin 262144) (v : Word) (n : Fin 16) (i : Nat), s.hostMay (0x100000 + 4 * j) → j.val % 4 = 2 →
    (s.compare n).hit = none → (s.compare n).check = none → (s.compare n).armed = some i → s.get (CO_LIST n) CO_LIST_BASE + i = j.val / 4 → ∃ t,
    exec (.compareRamWrite j v) s = .next t ∧ (t.compare n).check = some (s.tick + 1, true)) ∧
  (∀ (s : State) (n : Fin 16) (e : Nat), ((s.coUpdate n).compare n).lands = [] → ((s.coUpdate n).compare n).pulseEnd = some e → ∃ t,
    exec (.comparePulseEnd n) s = .next t ∧ (t.compare n).active = false ∧ (t.compare n).pulseEnd = none ∧ t.tick = max s.tick e) ∧
  (∀ (s : State) (k : Fin 32), s.canonical = true → s.hostMay (RC_CFG k) → 0 ≤ s.rd64I (RC_LIMIT k) →
    (s.inMorning = true ∨ s.inNoon = true ∧ s.flag (RC_CFG k) RC_CFG_EN = false) → ∃ t, exec (.regClrtgt k) s = .next t ∧
    t.rd64 (RC_TGT k) = 0 ∧ (t.rc k).tgts.head? = some (s.tick + 32, 0) ∧ (t.rc k).clearing = true) ∧
  (∀ (s : State) (k : Fin 32), s.hostMay (RC_CFG k) → s.inMorning = false → (s.inNoon = false ∨ s.flag (RC_CFG k) RC_CFG_EN = true) →
    exec (.regClrtgt k) s = .next s)

/-- CU_ARM, DISARM and FIRE, samples, fire records and their reception and the end of a hold-off answer the next state of their own effect. (19_acquisition_hayloft.md R546, 19_acquisition_hayloft.md R549, 19_acquisition_hayloft.md R552, 19_acquisition_hayloft.md R553, 19_acquisition_hayloft.md R554, 19_acquisition_hayloft.md R557, 19_acquisition_hayloft.md R558, 19_acquisition_hayloft.md R559). -/
def Obligations.CaptureCommandsComplete : Prop :=
  (∀ (s : State) (u : Fin 8), s.canonical = true → s.hostMay (CU_CMD u) → s.armCause u = 0 → ∃ t, exec (.cuArm u) s = .next t ∧
    t.cuPhase u = 1 ∧ t.get (CU_STAT u) CU_STAT_SEG = 0 ∧ (t.cu u).rows = 0 ∧ (t.cu u).trig = none ∧ (t.cu u).fire = false) ∧
  (∀ (s : State) (u : Fin 8), s.canonical = true → s.hostMay (CU_CMD u) → s.armCause u ≠ 0 → ∃ t, exec (.cuArm u) s = .next t ∧
    t.flag (CU_STAT u) CU_STAT_ARMREF = true ∧ t.get (CU_STAT u) CU_STAT_ARMCAUSE = s.armCause u ∧ t.acq = s.acq) ∧
  (∀ (s : State) (u : Fin 8), s.canonical = true → s.hostMay (CU_CMD u) → ∃ t, exec (.cuDisarm u) s = .next t ∧ t.cuPhase u = 0 ∧
    (t.cu u).trig = none ∧ (t.cu u).fire = false ∧ (t.cu u).await_ = none) ∧
  (∀ (s : State) (u : Fin 8), s.canonical = true → s.hostMay (CU_CMD u) → s.cuPhase u = 1 → (s.cu u).trig = none → ∃ t,
    exec (.cuDisarm u) s = .next t ∧ t.flag (CU_SEGFLAGS u (s.get (CU_STAT u) CU_STAT_SEG)) CU_SEGFLAGS_VALID = true ∧
    t.flag (CU_SEGFLAGS u (s.get (CU_STAT u) CU_STAT_SEG)) CU_SEGFLAGS_CUT = true) ∧
  (∀ (s : State) (u : Fin 8), s.hostMay (CU_CMD u) → s.cuPhase u = 1 → ∃ t, exec (.cuFire u) s = .next t ∧ (t.cu u).fire = true ∧
    t.regs = s.regs) ∧
  (∀ (s : State) (u : Fin 8), s.hostMay (CU_CMD u) → s.cuPhase u ≠ 1 → exec (.cuFire u) s = .next s) ∧
  (∀ (s : State) (u : Fin 8) (r p : Bool) (t32 : Nat), s.sampleAt u = some t32 → s.cuPhase u = 1 →
    (∀ m < 8, s.flag (CU_TCCFG u m) CU_TCCFG_EN = false) → (s.cu u).fire = false → (s.cu u).await_ = none → ∃ t,
    exec (.captureSample u r p) s = .next t ∧ (t.cu u).rows = (s.cu u).rows + 1 ∧ (t.cu u).last = some t32 ∧ (t.cu u).due = none ∧
    t.regs = s.regs ∧ t.tick = max s.tick (t32 / 32)) ∧
  (∀ (s : State) (u : Fin 8) (r p : Bool) (t32 : Nat), s.canonical = true → s.sampleAt u = some t32 → s.cuPhase u = 1 → (s.cu u).fire = true →
    (s.cu u).await_ = none → 1 ≤ s.cuPost u → ∃ t, exec (.captureSample u r p) s = .next t ∧ t.cuPhase u = 2 ∧ (t.cu u).fire = false ∧
    (t.cu u).trig.map (fun (x : CapTrig) => (x.row, x.manual, x.remote, x.lost, x.at_)) = some ((s.cu u).rows, true, false, false, t32)) ∧
  (∀ s : State, s.acq.queue = [] → exec .fireRecordWrite s = .next s) ∧
  (∀ (s : State) (m : FireMsg) (rest : List FireMsg), s.acq.queue = m :: rest → s.flag CUG_FIREPUB CUG_FIREPUB_EN = true →
    s.acq.pubFrame ≠ some s.time.frameNum → s.get (PUB_W0 (s.get CUG_FIREPUB CUG_FIREPUB_IDX)) PUB_W0_KIND = 5 →
    s.get (PUB_W1 (s.get CUG_FIREPUB CUG_FIREPUB_IDX)) PUB_W1_PLEN = 24 → ∃ t, exec .fireRecordWrite s = .next t ∧ t.acq.queue = rest ∧
    t.acq.pubFrame = some s.time.frameNum ∧ t.regs = s.regs) ∧
  (∀ (s : State) (u : Fin 8) (ses : BitVec 16) (tf : Word64), s.canonical = true → ses ≠ 0 → s.flag (CU_CFG u) CU_CFG_RXFIRE = true →
    s.get (CU_SESS u) CU_SESS_SESSION = ses.toNat → s.cuPhase u = 1 → (s.cu u).await_ = none → (s.cu u).stamps = [] → ∃ t,
    exec (.fireReceive (.twin ses tf)) s = .next t ∧ (t.cu u).await_ = some (s.instantOf (lsDecode tf.toNat * 65536)) ∧
    t.get (CU_CNT u) CU_CNT_TAKEN = incSat CU_CNT_TAKEN.w (s.get (CU_CNT u) CU_CNT_TAKEN)) ∧
  (∀ (s : State) (m : FireMsg) (rest : List FireMsg), s.acq.fires = m :: rest → (∀ u < 8, s.flag (CU_CFG u) CU_CFG_RXFIRE = false) →
    exec (.fireReceive .here) s = .next { s with acq := { s.acq with fires := rest } }) ∧
  (∀ (s : State) (u : Fin 8), s.canonical = true → s.cuPhase u = 3 → s.get (CU_CFG u) CU_CFG_HOMODE = 0 →
    s.get (CU_STAT u) CU_STAT_SEG + 1 < s.cuSegs u → ∃ t, exec (.holdoffEnd u) s = .next t ∧ t.cuPhase u = 1 ∧
    t.get (CU_STAT u) CU_STAT_SEG = s.get (CU_STAT u) CU_STAT_SEG + 1 ∧ (t.cu u).rows = 0 ∧
    t.tick = max s.tick ((s.cu u).hoAt + 400 * s.get (CU_HOLD u) CU_HOLD_HOTIME)) ∧
  (∀ (s : State) (u : Fin 8), s.canonical = true → s.cuPhase u = 3 → s.get (CU_CFG u) CU_CFG_HOMODE = 0 →
    s.cuSegs u ≤ s.get (CU_STAT u) CU_STAT_SEG + 1 → ∃ t, exec (.holdoffEnd u) s = .next t ∧ t.cuPhase u = 0 ∧
    t.flag (CU_STAT u) CU_STAT_DONE = true ∧ nbit (t.rdN HOST_EVT) 6 = true)

/-- The end of a move, a missed mark, the coast and loss of a line shaft, a STOP boundary, arming a cam switch, APPLY and its effect and injections answer the next state of their own effect. (04_trajectory_gearing_line_shaft.md R113, 04_trajectory_gearing_line_shaft.md R119, 04_trajectory_gearing_line_shaft.md R129, 04_trajectory_gearing_line_shaft.md R133, 04_trajectory_gearing_line_shaft.md R134, 05_latch_compare_register.md R163, 06_position_velocity_loops.md R194, 06_position_velocity_loops.md R195). -/
def Obligations.MotionEventCommandsComplete : Prop :=
  (∀ (s : State) (n : Fin 80) (g : Seg), s.canonical = true → (s.mo n).segs = [g] → s.running = true → (s.mo n).ramp = none → (s.mo n).inUse = true →
    g.last = true → s.srcOf n = 1 → s.frameTime (g.start + g.dur) ≤ s.mt16 (s.targetOf n s.now) →
    let x := s.segAt g (s.frameTime (g.start + g.dur)); near x.2.1 0 = true → near x.2.2 0 = true → ∃ t, exec (.moveEnd n) s = .next t ∧
    (t.mo n).segs = [] ∧ (t.mo n).inUse = false ∧ (t.mo n).base = roundQ x.1 ∧ (t.mo n).vBase = 0 ∧ (t.mo n).aBase = 0 ∧
    t.get (AX_SEGQ n) AX_SEGQ_QUEUED = 0) ∧
  (∀ (s : State) (k : Fin 32) (o : Int), s.canonical = true → s.flag (RC_CFG k) RC_CFG_EN = true →
    s.regGeared (s.get (RC_CFG k) RC_CFG_FAX) = true → s.get (LI_CFG k) LI_CFG_SRC < 0x80 → (s.rc k).seenRep = some o →
    (s.rc k).reps = [] → s.flag (RC_STAT k) RC_STAT_MISS = false → s.get (RC_MISS k) RC_MISS_MISSLIM ≠ 0 →
    let idx := s.regRepeat k (s.sourcePos (s.get (LI_CFG k) LI_CFG_SRC) s.now (s.now / 32)); o < idx →
    s.get (RC_MISS k) RC_MISS_MISSLIM ≤ (s.rc k).missRun + (idx - o).toNat → ∃ t, exec (.regMiss k) s = .next t ∧
    t.flag (RC_STAT k) RC_STAT_MISS = true ∧ (t.rc k).seenRep = some idx ∧
    t.get (RC_CNT k) RC_CNT_MISSED = min 255 (s.get (RC_CNT k) RC_CNT_MISSED + (idx - o).toNat)) ∧
  (∀ (s : State) (k : Fin 16) (m : MState), s.canonical = true → s.flag (LS_CFG k) LS_CFG_EN = true → (s.shaft k).newest = some m →
    (s.shaft k).frame ≠ some s.time.frameNum → (s.shaft k).at_ ≠ s.tick → (s.shaft k).cont = none → (s.shaft k).stepPend = false →
    let lag := (s.frameTime s.time.frameNum - m.ts + s.frameTime 1 / 2) / max 1 (s.frameTime 1); 1 < lag → lag - 1 ≤ (s.shaft k).coast → ∃ t,
    exec (.lineShaftCoast k) s = .next t ∧ t.flag (LS_STAT k) LS_STAT_COAST = true ∧ t.get (LS_STAT k) LS_STAT_LAG = min 255 lag ∧
    t.get (LS_CNT k) LS_CNT_MISSED = incSat LS_CNT_MISSED.w (s.get (LS_CNT k) LS_CNT_MISSED) ∧ t.shaft k = { s.shaft k with frame := some s.time.frameNum }) ∧
  (∀ (s : State) (k : Fin 16), s.flag (LS_CFG k) LS_CFG_EN = true → (s.shaft k).frame = some s.time.frameNum → exec (.lineShaftCoast k) s = .next s ∧
    exec (.lineShaftLost k) s = .next s) ∧
  (∀ (s : State) (k : Fin 16) (m : MState), s.canonical = true → s.flag (LS_CFG k) LS_CFG_EN = true → (s.shaft k).newest = some m →
    (s.shaft k).frame ≠ some s.time.frameNum → (s.shaft k).at_ ≠ s.tick → (s.shaft k).cont = none → (s.shaft k).stepPend = false →
    let lag := (s.frameTime s.time.frameNum - m.ts + s.frameTime 1 / 2) / max 1 (s.frameTime 1); 1 < lag → (s.shaft k).coast < lag - 1 → ∃ t,
    exec (.lineShaftLost k) s = .next t ∧ t.flag (LS_STAT k) LS_STAT_LOST = true ∧ (t.shaft k).cont.isSome = true ∧
    t.get (LS_CNT k) LS_CNT_MISSED = incSat LS_CNT_MISSED.w (s.get (LS_CNT k) LS_CNT_MISSED) ∧
    ∀ n ∈ s.followers k, t.flag (AX_STAT n) AX_STAT_MLOST = true ∧ t.flag (AX_STAT n) AX_STAT_DUSK = true) ∧
  (∀ s : State, ∃ t, exec .stopBoundary s = .next t ∧ (∀ r ∈ t.stops, r ∈ s.stops ∧ s.time.frameNum < r.frame) ∧
    ∀ r ∈ s.stops, r.frame ≤ s.time.frameNum → ∀ w ∈ t.waits, w.tag ≠ r.tag) ∧
  (∀ (s : State) (n : Fin 80), s.canonical = true → s.hostMay (AX_CAM n) → ∃ t, exec (.camArm n) s = .next t ∧
    t.flag (AX_CAM n) AX_CAM_PEND = true ∧ (∃ c ∈ (t.mo n).chgs, c.camSwitch = true) ∧ ∀ c ∈ (t.mo n).chgs, c.camSwitch = true →
      c.src = 3 ∧ c.sched = true ∧ c.table = s.get (AX_CAM n) AX_CAM_NEXT ∧ c.abs = s.flag (AX_CAM n) AX_CAM_ABS) ∧
  (∀ (s : State) (n : Fin 64), s.canonical = true → s.hostMay (AXL_LCFG n) → ∃ t, exec (.loopApply n) s = .next t ∧
    t.flag (AXL_LSTAT n) AXL_LSTAT_APPLYPEND = true ∧ (t.loop n).cap = (loopWords n).map s.rd ∧ (t.loop n).capAt = some s.tick ∧ t.act = s.act) ∧
  (∀ (s : State) (n : Fin 64) (t0 : Nat) (f : Nat → Word), s.canonical = true → s.pw.phase = .running → (s.loop n).capAt = some t0 →
    (s.loop n).cap = (loopWords n).map f → let x := s.nextBoundary n (s.posCells n); n.val < 32 → x.1 ≤ s.time.frameNum → 32 * (t0 + 16) ≤ x.2.2.1 →
    ∃ t, exec (.loopApplyEffect n) s = .next t ∧ t.flag (AXL_LSTAT n) AXL_LSTAT_APPLYPEND = false ∧ (t.loop n).capAt = none ∧
    (∀ a ∈ loopWords n, t.ard a = f a) ∧ t.tick = max s.tick (x.2.2.1 / 32)) ∧
  (∀ (s : State) (n : Fin 64) (t0 : Nat) (f : Nat → Word), s.canonical = true → s.pw.phase = .running → s.time.stepPend = none →
    (s.loop n).capAt = some t0 → (s.loop n).cap = (loopWords n).map f → 32 ≤ n.val → 32 * (t0 + 16) ≤ s.nextFrame.2.1 →
    ∃ t, exec (.loopApplyEffect n) s = .next t ∧ t.flag (AXL_LSTAT n) AXL_LSTAT_APPLYPEND = false ∧ (t.loop n).capAt = none ∧
    (∀ a ∈ loopWords n, t.ard a = f a) ∧ t.tick = max s.tick (s.nextFrame.2.1 / 32)) ∧
  (∀ (s : State) (k : Fin 16), s.canonical = true → s.hostMay (LPINJ_CFG k) → s.flag (LPINJ_STAT k) LPINJ_STAT_RUNNING = false → s.inNoon = true →
    s.injBad k = none → (s.mo (s.get (LPINJ_CFG k) LPINJ_CFG_AXIS)).ramp = none → ∃ t, exec (.injStart k) s = .next t ∧
    t.flag (LPINJ_STAT k) LPINJ_STAT_RUNNING = true ∧ t.get (LPINJ_STAT k) LPINJ_STAT_RUNS = 0 ∧ (t.inj k).startAt = s.tick ∧ (t.inj k).k = 0) ∧
  (∀ (s : State) (k : Fin 16), s.canonical = true → s.hostMay (LPINJ_CFG k) → s.flag (LPINJ_STAT k) LPINJ_STAT_RUNNING = false → s.inNoon = false → ∃ t,
    exec (.injStart k) s = .next t ∧ t.flag (LPINJ_STAT k) LPINJ_STAT_ABORTED = true ∧ t.injs = s.injs) ∧
  (∀ (s : State) (k : Fin 16), s.canonical = true → s.hostMay (LPINJ_CFG k) → s.flag (LPINJ_STAT k) LPINJ_STAT_RUNNING = true → ∃ t,
    exec (.injStop k) s = .next t ∧ t.flag (LPINJ_STAT k) LPINJ_STAT_RUNNING = false ∧ t.injs = s.injs) ∧
  (∀ (s : State) (k : Fin 16) (r : RunReq) (rest : List RunReq), let n := s.get (LPINJ_CFG k) LPINJ_CFG_AXIS; s.canonical = true →
    s.flag (LPINJ_STAT k) LPINJ_STAT_RUNNING = true → s.lpOf n = k.val → n < 32 → s.queue k = r :: rest → r.kind = .vel → r.axis = n →
    (s.lp k).run = none → s.lpMode k = 1 → s.isStd k (s.lpBank k) = true → (s.lp k).swapWait = none →
    (s.inj k).startAt + 16 ≤ max r.at_ (s.lp k).free → (s.loop n).enabled = true → (s.loop n).toff = none → (s.loop n).ovRuns = 0 →
    r.inp.velValid = true → s.rdN (LPINJ_DUR k) ≠ 0 → s.rdN (LPINJ_DUR k) ≤ (s.inj k).k + 1 → ∃ t, exec (.injDone k) s = .next t ∧
    t.queue k = rest ∧ t.flag (LPINJ_STAT k) LPINJ_STAT_RUNNING = false ∧
    t.flag (LPINJ_STAT k) LPINJ_STAT_DONE = true ∧ (t.inj k).k = (s.inj k).k + 1)

/-- Transitions, accepted levels, standstill, wire faults, presets, settings, SSI frames and LOAD, REVAL, REARM, CLRFLAGS and CLRCNT answer the next state of their own effect. (03_feedback_ports.md R69, 03_feedback_ports.md R70, 03_feedback_ports.md R71, 03_feedback_ports.md R77, 03_feedback_ports.md R79, 03_feedback_ports.md R81, 03_feedback_ports.md R83, 03_feedback_ports.md R90, 03_feedback_ports.md R92, 03_feedback_ports.md R93, 03_feedback_ports.md R99, 03_feedback_ports.md R100). -/
def Obligations.EncoderPortCommandsComplete : Prop :=
  (∀ (s : State) (n : Fin 40) (i : Fin 3) (lvl : Bool) (at_ : Nat), (vget (s.port n).pairs i {}).pend = none → (vget (s.port n).pairs i {}).n = !lvl →
    (vget (s.port n).pairs i {}).rx = !lvl → ∃ t, exec (.pairTransition (.port n i) false lvl at_) s = .next t ∧
    (vget (t.port n).pairs i {}).rx = lvl ∧ (vget (t.port n).pairs i {}).p = lvl ∧ (vget (t.port n).pairs i {}).pend = some (at_ / 4 * 4) ∧
    (vget (t.port n).pairs i {}).suspect = none ∧ (t.port n).count = (s.port n).count ∧ t.tick = max s.tick (at_ / 4 * 4 / 32)) ∧
  (∀ (s : State) (n : Fin 32) (lvl : Bool) (at_ : Nat), (s.latch n).pair.pend = none → (s.latch n).pair.n = !lvl → (s.latch n).pair.rx = !lvl →
    (s.latch n).pair.lvl = !lvl → (s.latch n).lastTick = none → ∃ t, exec (.pairTransition (.latch n) false lvl at_) s = .next t ∧
    (t.latch n).pair.rx = lvl ∧ (t.latch n).pair.pend = some (at_ / 4 * 4) ∧ (t.latch n).open_ = (s.latch n).open_ ∧ t.regs = s.regs) ∧
  (∀ (s : State) (n : Fin 40) (st : Nat), s.canonical = true → (vget (s.port n).pairs 0 {}).pend = some st → s.portOn n = true → s.portMode n = 1 →
    (s.port n).frozen = none → (vget (s.port n).pairs 0 {}).suspect = none → (vget (s.port n).pairs 1 {}).pend = none →
    s.flag (EP_CFG n) EP_CFG_DIRINV = false → let up := (vget (s.port n).pairs 0 {}).rx != (vget (s.port n).pairs 1 {}).lvl; ∃ t,
    exec (.levelAccepted n 0) s = .next t ∧ (t.port n).count = wrapS 40 (if up then (s.port n).count + 1 else (s.port n).count - 1) ∧
    t.flag (EP_STAT n) EP_STAT_DIR = up ∧ (vget (t.port n).pairs 0 {}).lvl = (vget (s.port n).pairs 0 {}).rx ∧
    (vget (t.port n).pairs 0 {}).pend = none ∧ t.tick = max s.tick (st / 32 + max (s.portN n) 1)) ∧
  (∀ (s : State) (n : Fin 40) (st st1 : Nat), s.canonical = true → (vget (s.port n).pairs 0 {}).pend = some st → s.portOn n = true → s.portMode n = 1 →
    (s.port n).frozen = none → (vget (s.port n).pairs 0 {}).suspect = none → (vget (s.port n).pairs 1 {}).suspect = none →
    (vget (s.port n).pairs 1 {}).pend = some st1 → st1 / 32 = st / 32 → ∃ t, exec (.levelAccepted n 0) s = .next t ∧
    (t.port n).count = (s.port n).count ∧ t.flag (EP_STAT n) EP_STAT_ERR = true ∧
    t.get (EP_CNT n) EP_CNT_ERRCNT = incSat EP_CNT_ERRCNT.w (s.get (EP_CNT n) EP_CNT_ERRCNT) ∧ (vget (t.port n).pairs 1 {}).pend = none) ∧
  (∀ (s : State) (n : Fin 40) (st : Nat), s.canonical = true → s.portOn n = true → s.portSsi n = false → (s.port n).lastEdge = some st → ∃ t,
    exec (.stillTimeout n) s = .next t ∧ t.flag (EP_STAT n) EP_STAT_STILLST = true ∧
    t.tick = max s.tick (st / 32 + s.aget (EP_STILL n) EP_STILL_STILL)) ∧
  (∀ (s : State) (n : Fin 40) (i : Fin 3) (t0 : Nat), s.canonical = true → (vget (s.port n).pairs i {}).suspect = some t0 →
    s.aget (EP_FILT n) EP_FILT_WFT ≠ 0 → s.portOn n = true → (s.port n).frozen = none → ∃ t, exec (.wireFault n (i.castLE (by decide))) s = .next t ∧
    t.flag (EP_STAT n) EP_STAT_WIRE_FAULT = true ∧ t.get (EP_STAT n) EP_STAT_WF_PAIR = i ∧ t.flag (EP_STAT n) EP_STAT_VALID = false ∧
    t.flag (EP_STAT n) EP_STAT_REFD = false ∧ (t.port n).frozen.isSome = true ∧
    t.get (EP_CNT n) EP_CNT_WFCNT = incSat EP_CNT_WFCNT.w (s.get (EP_CNT n) EP_CNT_WFCNT) ∧
    t.tick = max s.tick (t0 + s.aget (EP_FILT n) EP_FILT_WFT)) ∧
  (∀ (s : State) (n : Fin 40), let b := s.nextFrame.2.1; s.canonical = true → (s.port n).load = true → s.portOn n = true → s.pw.phase = .running →
    s.time.stepPend = none → s.get (EP_SYNC n) EP_SYNC_CYCLE = 3 → (∀ x ∈ (s.port n).edges, x.1 ≤ b ∧ x.2.2 ≤ b / 32) →
    (∀ x ∈ (s.port n).shifts, x.1 ≤ b) → ∃ t, exec (.presetApply n) s = .next t ∧ (t.port n).load = false ∧
    (t.port n).count = wrapS 40 (s.rd64I (EP_PRESET n) / 2 ^ 24) ∧ t.flag (EP_STAT n) EP_STAT_REFD = (s.rdN (EP_CPR n) == 0) ∧
    t.tick = max s.tick (b / 32)) ∧
  (∀ (s : State) (n : Fin 40), let a := s.get (EP_SYNC n) EP_SYNC_AXIS; let b := (s.nextBoundary a (s.syncCells n)).2.2.1; s.canonical = true →
    (s.port n).load = true → s.portOn n = true → s.pw.phase = .running → s.get (EP_SYNC n) EP_SYNC_CYCLE ≠ 3 → a < 80 →
    (s.nextBoundary a (s.syncCells n)).1 ≤ s.time.frameNum → (∀ x ∈ (s.port n).edges, x.1 ≤ b ∧ x.2.2 ≤ b / 32) →
    (∀ x ∈ (s.port n).shifts, x.1 ≤ b) → ∃ t, exec (.presetApply n) s = .next t ∧ (t.port n).load = false ∧
    (t.port n).count = wrapS 40 (s.rd64I (EP_PRESET n) / 2 ^ 24) ∧ t.flag (EP_STAT n) EP_STAT_REFD = (s.rdN (EP_CPR n) == 0) ∧
    t.tick = max s.tick (b / 32)) ∧
  (∀ (s : State) (n : Fin 40), let b := s.nextFrame.2.1; s.canonical = true → s.pw.phase = .running → s.time.stepPend = none →
    s.get (EP_SYNC n) EP_SYNC_CYCLE = 3 → s.rd (EP_FILT n) ≠ s.ard (EP_FILT n) → (s.port n).setTick ≠ some (b / 32) →
    ∃ t, exec (.portSettingsEffect n) s = .next t ∧ t.ard (EP_FILT n) = s.rd (EP_FILT n) ∧ t.ard (EP_WIN n) = s.rd (EP_WIN n) ∧
    t.ard (EP_STILL n) = s.rd (EP_STILL n) ∧ t.ard (EP_IDX n) = s.rd (EP_IDX n) ∧ t.tick = max s.tick (b / 32)) ∧
  (∀ (s : State) (n : Fin 40), (∀ a ∈ staged n, s.rd a = s.ard a) → exec (.portSettingsEffect n) s = .next s) ∧
  (∀ (s : State) (n : Fin 40), let b := (s.syncInstant n).1; let lead := 32 * (s.ssiFrameTime n + 8); s.portOn n = true → s.portSsi n = true →
    s.drivesLands = true → (s.port n).ssi.start = none → (s.port n).ssi.forB = none → s.now + lead ≤ b →
    (s.port n).ssi.busyUntil ≤ (b - lead) / 32 → ∃ t, exec (.ssiFrameStart n) s = .next t ∧ (t.port n).ssi.start = some t.now ∧
    (t.port n).ssi.drive = true ∧ (t.port n).ssi.forB = some b ∧ t.tick = max s.tick ((b - lead) / 32) ∧ t.regs = s.regs) ∧
  (∀ (s : State) (n : Fin 40), let b := (s.syncInstant n).1; let lead := 32 * (s.ssiFrameTime n + 8); s.canonical = true → s.portOn n = true →
    s.portSsi n = true → s.drivesLands = true → (s.port n).ssi.forB = none → s.now + lead ≤ b →
    max s.tick ((b - lead) / 32) < (s.port n).ssi.busyUntil → ∃ t, exec (.ssiFrameStart n) s = .next t ∧
    t.flag (EP_STAT n) EP_STAT_SSI_SLOW = true ∧ (t.port n).ssi.start = (s.port n).ssi.start ∧ (t.port n).ssi.skipped = true) ∧
  (∀ (s : State) (n : Fin 40) (hi : BitVec 16) (lo : Word) (mono : Bool) (S f : Nat), s.canonical = true → (s.port n).ssi.start = some S → (s.port n).ssi.cal = true →
    s.flag (EP_STAT n) EP_STAT_WIRE_FAULT = false →
    ((s.port n).ssi.data.filter fun d => !d.2 && decide (d.1 ≤ S + 32 * (s.ssiFrameTime n + 4 * s.get (EP_SSI n) EP_SSI_CLKPER))).getLast? = some (f, false) →
    ∃ t, exec (.ssiFrameEnd n hi lo mono) s = .next t ∧ (t.port n).ssi.start = none ∧ (t.port n).ssi.cal = false ∧
    (t.port n).count = (s.port n).count ∧ t.rd64N (EP_SSIRAW n) = s.ssiRaw n S ∧
    t.tick = max s.tick (max (S / 32 + s.ssiFrameTime n + 4) ((f + 31) / 32))) ∧
  (∀ (s : State) (n : Fin 40) (hi : BitVec 16) (lo : Word) (mono : Bool) (S f : Nat), s.canonical = true → (s.port n).ssi.start = some S → (s.port n).ssi.cal = false →
    (s.port n).ssi.prev = none → s.flag (EP_STAT n) EP_STAT_WIRE_FAULT = false → s.ssiBit n S (s.get (EP_SSI n) EP_SSI_LEN + 1) = false →
    ((s.port n).ssi.data.filter fun d => !d.2 && decide (d.1 ≤ S + 32 * (s.ssiFrameTime n + 4 * s.get (EP_SSI n) EP_SSI_CLKPER))).getLast? = some (f, false) →
    ∃ t, exec (.ssiFrameEnd n hi lo mono) s = .next t ∧ t.flag (EP_STAT n) EP_STAT_VALID = true ∧ (t.port n).count = s.ssiField n (s.ssiRaw n S)) ∧
  (∀ (s : State) (n : Fin 40) (hi : BitVec 16) (lo : Word) (mono : Bool) (S : Nat), s.canonical = true → (s.port n).ssi.start = some S →
    ((∀ d ∈ (s.port n).ssi.data, d.2 = true) ∨ (s.port n).ssi.cal = false ∧ s.ssiBit n S (s.get (EP_SSI n) EP_SSI_LEN + 1) = true) →
    ∃ t, exec (.ssiFrameEnd n hi lo mono) s = .next t ∧ t.flag (EP_STAT n) EP_STAT_SSI_FRAME = true ∧ (t.port n).count = (s.port n).count ∧
    (t.port n).ssi.cal = true ∧ t.get (EP_CNT n) EP_CNT_ERRCNT = incSat EP_CNT_ERRCNT.w (s.get (EP_CNT n) EP_CNT_ERRCNT)) ∧
  (∀ (s : State) (n : Fin 40), s.hostMay (EP_CMD n) → ∃ t, exec (.portLoad n) s = .next t ∧ (t.port n).load = true ∧
    (t.port n).count = (s.port n).count ∧ t.regs = s.regs) ∧
  (∀ (s : State) (n : Fin 40), s.canonical = true → s.hostMay (EP_CMD n) → s.revalRefused n = false → ∃ t,
    exec (.portReval n) s = .next t ∧ t.flag (EP_STAT n) EP_STAT_VALID = true ∧ (t.port n).frozen = none ∧ (t.port n).count = (s.port n).count) ∧
  (∀ (s : State) (n : Fin 40), s.hostMay (EP_CMD n) → (s.flag (EP_STAT n) EP_STAT_LINE_BAD = true ∨
    s.portSsi n = true ∧ (s.port n).ssi.lastGood = false) → exec (.portReval n) s = .next s) ∧
  (∀ (s : State) (n : Fin 40), s.canonical = true → s.hostMay (EP_CMD n) → ∃ t, exec (.portRearm n) s = .next t ∧
    t.flag (EP_STAT n) EP_STAT_REFD = false ∧ (t.port n).lastIdx = none ∧ (t.port n).count = (s.port n).count) ∧
  (∀ (s : State) (n : Fin 40), s.canonical = true → s.hostMay (EP_CMD n) → ∃ t, exec (.portClrflags n) s = .next t ∧
    t.flag (EP_STAT n) EP_STAT_ERR = false ∧ t.flag (EP_STAT n) EP_STAT_SSI_FRAME = false ∧ t.flag (EP_STAT n) EP_STAT_INDEX_SLIP = false ∧
    t.flag (EP_STAT n) EP_STAT_WIRE_FAULT = (s.flag (EP_STAT n) EP_STAT_LINE_BAD && s.flag (EP_STAT n) EP_STAT_WIRE_FAULT) ∧
    t.flag (EP_STAT n) EP_STAT_VALID = s.flag (EP_STAT n) EP_STAT_VALID ∧ t.ports = s.ports) ∧
  (∀ (s : State) (n : Fin 40), s.canonical = true → s.hostMay (EP_CMD n) → ∃ t, exec (.portClrcnt n) s = .next t ∧ t.rd (EP_CNT n) = 0 ∧
    ∀ b, b ≠ EP_CNT n → t.rd b = s.rd b)

/-- ACT_OUT, a conflict, the keeper, heartbeats, Tack frames and lanes, the loss of Tack, handover and the clears answer the next state of their own effect. (12_twin_and_changeover.md R378, 12_twin_and_changeover.md R380, 12_twin_and_changeover.md R381, 12_twin_and_changeover.md R382, 12_twin_and_changeover.md R383, 12_twin_and_changeover.md R389, 12_twin_and_changeover.md R393, 12_twin_and_changeover.md R399). -/
def Obligations.TwinCommandsComplete : Prop :=
  (∀ s : State, s.canonical = true → s.paired = true → s.flag TW_STAT TW_STAT_ACTOUT = false → s.running = true → s.tw.unhealthy = false →
    s.isWatch = false → ∃ t, exec .actOutAssert s = .next t ∧ t.get TW_STAT TW_STAT_ROLE = 1 ∧ t.flag TW_STAT TW_STAT_ACTOUT = true ∧
    t.flag TW_STAT TW_STAT_ACTIN = false ∧ t.tick = s.tick + (if s.primary then 80 else 160)) ∧
  (∀ s : State, s.canonical = true → s.paired = true → s.flag TW_STAT TW_STAT_ACTOUT = false → s.running = true → s.tw.unhealthy = false →
    s.isWatch = true → s.flag TW_STAT TW_STAT_READY = true → ∃ t, exec .actOutAssert s = .next t ∧ t.get TW_STAT TW_STAT_ROLE = 1 ∧
    t.flag TW_STAT TW_STAT_ACTOUT = true ∧ t.get TW_CNT1 TW_CNT1_LO = incSat TW_CNT1_LO.w (s.get TW_CNT1 TW_CNT1_LO) ∧
    t.tw.gap = some (s.tick - 2, t.tick) ∧ t.events.getLast?.map (fun (e : Event) => (e.kind, e.unit)) = some (EventKind.handover, 4) ∧ t.motion = s.motion) ∧
  (∀ s : State, s.paired = false → exec .actOutAssert s = .next s) ∧
  (∀ s : State, s.canonical = true → s.flag TW_STAT TW_STAT_ACTOUT = true → s.primary = false → ∃ t, exec .actConflict s = .next t ∧
    t.get TW_STAT TW_STAT_ROLE = 2 ∧ t.flag TW_STAT TW_STAT_ACTOUT = false ∧ t.flag TW_STAT TW_STAT_ACTIN = true ∧ t.tick = s.tick + 4) ∧
  (∀ s : State, s.canonical = true → s.flag TW_STAT TW_STAT_ACTOUT = true → s.primary = true → ∃ t, exec .actConflict s = .next t ∧
    t.get TW_STAT TW_STAT_ROLE = s.get TW_STAT TW_STAT_ROLE ∧ t.flag TW_STAT TW_STAT_ACTOUT = true ∧ t.flag TW_STAT TW_STAT_ACTIN = true ∧
    t.events.getLast?.map (fun (e : Event) => (e.kind, e.unit)) = some (EventKind.actConflict, 1)) ∧
  (∀ s : State, s.canonical = true → s.flag TW_STAT TW_STAT_ACTOUT = true → s.inDawn = false → ∃ t, exec .keeperExpiry s = .next t ∧
    t.flag TW_STAT TW_STAT_ACTOUT = false ∧ t.get TW_STAT TW_STAT_ROLE = 2 ∧ t.tick = max s.tick (s.tw.hbSent + 800)) ∧
  (∀ s : State, s.flag TW_STAT TW_STAT_ACTOUT = false → exec .keeperExpiry s = .next s) ∧
  (∀ s : State, s.paired = true → s.inDawn = false → s.tw.unhealthy = false → ∃ t, exec .heartbeatSend s = .next t ∧
    t.tw.hbSent = max s.tick (s.tw.hbSent + 400) ∧ t.tick = t.tw.hbSent ∧ t.regs = s.regs) ∧
  (∀ (s : State) (f : TackFrame), s.canonical = true → s.paired = true → ∃ t, exec (.tackFrameReceive false f) s = .next t ∧
    t.get TW_CNT1 TW_CNT1_HI = incSat TW_CNT1_HI.w (s.get TW_CNT1 TW_CNT1_HI) ∧ t.tw = { s.tw with bad := some s.tick }) ∧
  (∀ (s : State) (sent : Word64) (delay : BitVec 12) (ready : Bool) (role : Fin 3) (st : Fin 5), s.canonical = true → s.paired = true → ∃ t,
    exec (.tackFrameReceive true (.hb sent delay ready role st)) s = .next t ∧ t.tw.rx = s.tick ∧ t.tw.peer = st ∧
    t.flag TW_STAT TW_STAT_PEER_READY = ready ∧ t.get TW_LAT TW_LAT_V = delay.toNat) ∧
  (∀ (s : State) (st : Fin 5), s.paired = true → s.isWatch = true → ∃ t, exec (.tackFrameReceive true (.state st)) s = .next t ∧
    t.tw.rx = s.tick ∧ t.tw.peer = st) ∧
  (∀ s : State, s.paired = true → ∃ t, exec (.tackFrameReceive true .snapshotEnd) s = .next t ∧ t.tw.rx = s.tick ∧ t.tw.joined = some s.tick) ∧
  (∀ (s : State) (k : Fin 8), s.canonical = true → s.paired = true → s.isWatch = true → ∃ t, exec (.tackFrameReceive true (.token k)) s = .next t ∧
    t.get (CTOK_CTRL k) CTOK_CTRL_STATE = 1 ∧ t.tw.rx = s.tick) ∧
  (∀ s : State, s.canonical = true → s.paired = true → s.flag TW_STAT TW_STAT_TACK_LOST = false → ∃ t, exec .tackLost s = .next t ∧
    t.flag TW_STAT TW_STAT_TACK_LOST = true ∧ t.flag TW_STAT TW_STAT_TWIN_OK = false ∧ (t.events.any fun (e : Event) => e.kind == EventKind.tackLost) = true ∧
    t.tick = max s.tick (s.tw.rx + s.get TW_CFG TW_CFG_HBTO)) ∧
  (∀ s : State, s.canonical = true → s.hostMay TW_HO → s.flag TW_STAT TW_STAT_PEER_READY = true → s.time.frameNum + 2 ≤ s.rd64N TW_HOFRAME →
    s.flag TW_HO TW_HO_PEND = false → ∃ t, exec .handoverGo s = .next t ∧ t.flag TW_HO TW_HO_PEND = true ∧
    t.flag TW_HO TW_HO_HOREF = s.flag TW_HO TW_HO_HOREF) ∧
  (∀ s : State, s.canonical = true → s.hostMay TW_HO → s.flag TW_STAT TW_STAT_PEER_READY = false → ∃ t, exec .handoverGo s = .next t ∧
    t.flag TW_HO TW_HO_HOREF = true ∧ t.flag TW_HO TW_HO_PEND = s.flag TW_HO TW_HO_PEND) ∧
  (∀ s : State, s.canonical = true → s.flag TW_HO TW_HO_PEND = true → s.rd64N TW_HOFRAME ≤ s.time.frameNum → s.flag TW_STAT TW_STAT_ACTOUT = true →
    s.inDawn = false → ∃ t, exec .handoverRelease s = .next t ∧ t.flag TW_HO TW_HO_PEND = false ∧ t.flag TW_STAT TW_STAT_ACTOUT = false ∧
    t.get TW_STAT TW_STAT_ROLE = 2) ∧
  (∀ s : State, s.canonical = true → s.hostMay TW_CMD → ∃ t, exec .twClrflags s = .next t ∧ t.flag TW_STAT TW_STAT_TACK_LOST = false ∧
    t.flag TW_STAT TW_STAT_CMPERR = false ∧ t.flag TW_STAT TW_STAT_LTOLERR = false ∧ t.flag TW_STAT TW_STAT_CLKGAP = false ∧
    t.flag TW_STAT TW_STAT_TOOK = false ∧ t.get TW_STAT TW_STAT_ROLE = s.get TW_STAT TW_STAT_ROLE) ∧
  (∀ s : State, s.canonical = true → s.hostMay TW_CMD → ∃ t, exec .twClrcnt s = .next t ∧ t.rd TW_CNT0 = 0 ∧ t.rd TW_CNT1 = 0 ∧ t.rd TW_CNT2 = 0) ∧
  (∀ (s : State) (k : Fin 2), s.canonical = true → ∃ t, exec (.tackLaneDown k) s = .next t ∧
    t.flag TW_STAT (if k = 0 then TW_STAT_LANE0 else TW_STAT_LANE1) = false ∧ t.flag TW_STAT TW_STAT_TWIN_OK = false) ∧
  (∀ (s : State) (k : Fin 2), s.canonical = true → ∃ t, exec (.tackLaneUp k) s = .next t ∧
    t.flag TW_STAT (if k = 0 then TW_STAT_LANE0 else TW_STAT_LANE1) = true ∧ t.tw = s.tw)

/-- The transmit slot, reception, EN, arming and change of an epoch, the end of grace, the counters and the bell answer the next state of their own effect. (11_ramaux.md R343, 11_ramaux.md R348, 11_ramaux.md R351, 11_ramaux.md R357, 11_ramaux.md R358, 11_ramaux.md R364, 11_ramaux.md R365, 11_ramaux.md R366, 11_ramaux.md R368, 11_ramaux.md R375). -/
def Obligations.RamauxCommandsComplete : Prop :=
  (∀ s : State, s.inDawn = false → s.rmOn = true → (List.range 128).filter s.pubInForce = [] →
    exec .ramauxTransmitSlot s = .next (s.advanceTo (s.time.frameStart / 32 + s.get RM_CYC RM_CYC_TXSLOT))) ∧
  (∀ (s : State) (i : Nat), s.inDawn = false → s.rmOn = true → (List.range 128).filter s.pubInForce = [i] → s.get (PUB_W0 i) PUB_W0_KIND = 5 →
    let b := pubBlock (s.get (PUB_W0 i) PUB_W0_PUBID) 5 0 (s.get (PUB_W1 i) PUB_W1_PLEN) s.epoch
      (s.sramBytes (s.userHalf (s.rdN (PUB_BUF i)) (s.get (PUB_W1 i) PUB_W1_PLEN) false) (s.get (PUB_W1 i) PUB_W1_PLEN));
    let h := rmHeader 1 1 s.node (s.time.frameNum % 2 ^ 32) b.length 1;
    exec .ramauxTransmitSlot s = .next ((s.advanceTo (s.time.frameStart / 32 + s.get RM_CYC RM_CYC_TXSLOT)).switchIn 0 0
      (s.rmFrameOf .cyclic s.node 6 (h ++ b)))) ∧
  (∀ (s : State) (f : List Byte), s.canonical = true → s.inDawn = false → bU f 0 1 ≠ 0x11 → ∃ t, exec (.cyclicFrameReceive f) s = .next t ∧
    t.get RM_CNT0 RM_CNT0_HI = incSat RM_CNT0_HI.w (s.get RM_CNT0 RM_CNT0_HI) ∧ t.mem = s.mem ∧ t.rm = s.rm) ∧
  (∀ (s : State) (f : List Byte) (i : Nat), s.inDawn = false → bU f 0 1 = 0x11 → crc32 (f.take 12) = bU f 12 4 →
    (s.time.frameNum + 2 ^ 32 - bU f 4 4 % 2 ^ 32) % 2 ^ 32 ≤ s.get RM_EPOCH RM_EPOCH_MAXAGE → bU f 10 1 = 1 →
    let b := (f.drop 16).take (bU f 8 2); let plen := bU b 4 2; plen + 12 ≤ b.length → 1 ≤ bU b 2 1 → bU b 2 1 ≤ 5 →
    crc32 (b.take (8 + plen)) = bU b (8 + plen) 4 →
    (List.range 256).find? (fun i => s.subInForce i && s.get (SUB_W0 i) SUB_W0_PUBID == bU b 0 2 &&
      s.get (SUB_W1 i) SUB_W1_SRCNODE == bU f 2 2 % 1024) = some i →
    bU b 2 1 = s.get (SUB_W0 i) SUB_W0_KIND → plen = s.get (SUB_W1 i) SUB_W1_PLEN → bU b 6 1 = s.epoch →
    exec (.cyclicFrameReceive f) s = .next (s.deliver i (bU f 4 4) ((b.drop 8).take plen))) ∧
  (∀ (s : State) (v : Word), s.canonical = true → s.hostMay RM_CFG → wordOk RM_CFG v.toNat = true → s.inMorning = true → nbit v.toNat 31 = true →
    s.get RM_BELL RM_BELL_BELLWIN < s.get RM_CYC RM_CYC_TXSLOT → s.get RM_CYC RM_CYC_TXSLOT < s.get RM_CYCEND RM_CYCEND_CYCEND →
    s.get RM_CYCEND RM_CYCEND_CYCEND ≤ s.frameLen → ∃ t, exec (.ramauxEnable v) s = .next t ∧ t.rmOn = true ∧
    t.rdN RM_CFG = v.toNat % 2 ^ 26 + 2 ^ 31 ∧ t.rm = s.rm) ∧
  (∀ (s : State) (v : Word), s.canonical = true → s.hostMay RM_CFG → wordOk RM_CFG v.toNat = true → s.inMorning = true → nbit v.toNat 31 = true →
    s.frameLen < s.get RM_CYCEND RM_CYCEND_CYCEND → ∃ t, exec (.ramauxEnable v) s = .next t ∧ t.flag RM_STAT RM_STAT_CFGBAD = true ∧
    t.rd RM_CFG = s.rd RM_CFG) ∧
  (∀ (s : State) (v : Word), s.canonical = true → s.hostMay RM_CFG → wordOk RM_CFG v.toNat = true → s.inMorning = true → nbit v.toNat 31 = false → ∃ t,
    exec (.ramauxEnable v) s = .next t ∧ t.rmOn = false ∧ t.rdN RM_CFG = v.toNat % 2 ^ 26) ∧
  (∀ s : State, s.canonical = true → s.hostMay RM_NEXT → s.rm.change = none → s.get RM_NEXT RM_NEXT_NEPOCH ≠ 0 →
    s.get RM_NEXT RM_NEXT_NEPOCH ≠ s.epoch → s.time.frameNum + 3 ≤ s.rd64N RM_ACTFRAME → s.flag RM_NEXT RM_NEXT_PEND = false → ∃ t,
    exec .rmNextArm s = .next t ∧ t.flag RM_NEXT RM_NEXT_PEND = true ∧
    t.rm.armed = some (s.get RM_NEXT RM_NEXT_NEPOCH, s.rd64N RM_ACTFRAME)) ∧
  (∀ s : State, s.canonical = true → s.hostMay RM_NEXT → s.rd64N RM_ACTFRAME < s.time.frameNum + 3 → ∃ t, exec .rmNextArm s = .next t ∧
    t.flag RM_NEXT RM_NEXT_EPREFUSED = true ∧ t.rm = s.rm) ∧
  (∀ (s : State) (ne act : Nat), s.canonical = true → s.rm.armed = some (ne, act) → act ≤ s.time.frameNum → ne < 256 → ∃ t,
    exec .epochChange s = .next t ∧ t.epoch = ne ∧ t.flag RM_NEXT RM_NEXT_PEND = false ∧ t.rm.armed = none ∧ t.rm.prev = s.epoch ∧
    t.rm.graceEnd = s.time.frameNum + s.get RM_EPOCH RM_EPOCH_GRACE ∧ t.inGrace = decide (0 < s.get RM_EPOCH RM_EPOCH_GRACE)) ∧
  (∀ (s : State) (ne act : Nat), s.rm.armed = some (ne, act) → s.time.frameNum < act → exec .epochChange s = .next s) ∧
  (∀ s : State, s.canonical = true → s.inGrace = true → s.rm.graceEnd ≤ s.time.frameNum → ∃ t, exec .graceEnd s = .next t ∧
    t.inGrace = false ∧ t.rm = s.rm) ∧
  (∀ s : State, s.canonical = true → s.hostMay RM_CMD → ∃ t, exec .rmClrcnt s = .next t ∧ ∀ i < 7, t.rd (RM_CNT0 + 4 * i) = 0) ∧
  (∀ (s : State) (cause d : Nat) (r : Bool) (rest : List (Nat × Nat × Bool × Bool)), s.rm.notices = (cause, d, false, r) :: rest →
    d < s.time.frameNum → s.isWatch = false → s.pw.fwRun = true → s.inDawn = false → s.rmOn = true → ∃ t, exec .bellNotice s = .next t ∧
    t.rm.notices = (cause, d, true, r) :: rest) ∧
  (∀ (s : State) (o : Fin 1024) (l : LostNode) (rest : List LostNode), s.rm.lost = l :: rest → l.node = o.val → l.role = 0 → l.back = false →
    l.d + s.get RM_BELL RM_BELL_HUSH + s.node % 32 ≤ s.time.frameNum → s.isWatch = false → s.pw.fwRun = true → (∀ i < 64, s.btMatch i o l.epoch = false) → ∃ t,
    exec (.bellReport o) s = .next t ∧ t.rm.lost.head? = some { l with role := 1 } ∧ t.rm.notices = s.rm.notices) ∧
  (∀ (s : State) (p : Fin 4) (b : Bell), s.canonical = true → b.crcOk = false → ∃ t, exec (.bellReceive p b) s = .next t ∧
    t.get RM_CNT2 RM_CNT2_HI = incSat RM_CNT2_HI.w (s.get RM_CNT2 RM_CNT2_HI) ∧ t.nw = s.nw) ∧
  (∀ (s : State) (p : Fin 4) (b : Bell), s.canonical = true → b.crcOk = true → b.bkind = 1 → (∀ i < 64, s.btMatch i b.origin b.epoch.toNat = false) →
    s.flag (BT_KEY 0) BT_KEY_USED = false → ∃ t, exec (.bellReceive p b) s = .next t ∧ t.flag (BT_KEY 0) BT_KEY_USED = true ∧
    t.get (BT_KEY 0) BT_KEY_ORIGIN = b.origin ∧ t.get (BT_KEY 0) BT_KEY_EPOCH = b.epoch.toNat ∧ t.get (BT_KEY 0) BT_KEY_BKIND = 1) ∧
  (∀ (s : State) (p : Fin 4) (b : Bell), s.canonical = true → b.crcOk = true → b.bkind = 1 → s.btMatch 0 b.origin b.epoch.toNat = true →
    s.get (BT_KEY 0) BT_KEY_BKIND = 1 → ∃ t, exec (.bellReceive p b) s = .next t ∧
    t.get (BT_W1 0) BT_W1_COUNT = incSat BT_W1_COUNT.w (s.get (BT_W1 0) BT_W1_COUNT) ∧
    (p.val ≠ 1 ∨ s.rm.bellTook.1 ≠ 0 ∨ s.rm.bellTook.2.1 ≠ s.tick ∨ s.rm.bellTook.2.2 = 0 → t.nw = s.nw)) ∧
  (∀ (s : State) (i : Fin 64), s.canonical = true → s.flag (BT_KEY i) BT_KEY_USED = true →
    s.get RM_BELL RM_BELL_BELLAGE ≤ (s.time.frameNum + 2 ^ 32 - s.rdN (BT_FIRST i)) % 2 ^ 32 → ∃ t, exec (.bellEntryAgeout i) s = .next t ∧
    t.rd (BT_KEY i) = 0 ∧ t.rd (BT_W1 i) = 0 ∧ t.rd (BT_FIRST i) = 0) ∧
  (∀ (s : State) (o : Fin 1024) (l : LostNode) (rest : List LostNode), s.rm.lost = l :: rest → l.node = o.val → l.recorded = false → s.pw.fwRun = true →
    l.d + s.get RM_BELL RM_BELL_HUSH + 32 ≤ s.time.frameNum → ∃ t, exec (.bellRecord o) s = .next t ∧
    t.rm.lost.head? = some { l with recorded := true } ∧ t.events.getLast?.map (fun (e : Event) => (e.kind, e.unit)) = some (EventKind.bell, o.val))

/-- Received frames, TXGO, TXWD, the end or an error of a transmission, bus-off and its recovery, releases and HALT answer the next state of their own effect. (15_can_fd.md R457, 15_can_fd.md R458, 15_can_fd.md R459, 15_can_fd.md R460, 15_can_fd.md R461, 15_can_fd.md R462, 15_can_fd.md R463, 15_can_fd.md R465, 15_can_fd.md R466). -/
def Obligations.CanCommandsComplete : Prop :=
  (∀ (s : State) (n : Fin 4) (f : CanFrame) (back : BitVec 24) (k : Nat), s.canonical = true → s.canOn n = true →
    (f.fdf = true → s.flag (CAN_CTRL n) CAN_CTRL_FDEN = true) → nbit (s.rdN SYS_HAMODE) 2 = false →
    (List.range 64).find? (s.canBufMatch n f) = some k → ∃ t, exec (.canFrameReceive n f back) s = .next t ∧
    t.flag (CANBUF_FLAGS n k) CANBUF_FLAGS_FRESH = true ∧ t.rdN (CANBUF_W0 n k) = canW0 f ∧ t.rdN (CANBUF_W0 n k + 4) = canW1 f ∧
    t.rdN (CANBUF_W0 n k + 8) = (canTick s.tick + 2 ^ 32 - back.toNat) % 2 ^ 32) ∧
  (∀ (s : State) (n : Fin 4) (f : CanFrame) (back : BitVec 24), s.canonical = true → s.canOn n = true →
    (f.fdf = true → s.flag (CAN_CTRL n) CAN_CTRL_FDEN = true) → nbit (s.rdN SYS_HAMODE) 2 = true → s.get (CAN_FIFO0 n) CAN_FIFO0_LEVEL < 32 → ∃ t,
    exec (.canFrameReceive n f back) s = .next t ∧ t.get (CAN_FIFO0 n) CAN_FIFO0_LEVEL = s.get (CAN_FIFO0 n) CAN_FIFO0_LEVEL + 1 ∧
    t.rdN (CANF0_W0 n ((s.get (CAN_FIFO0 n) CAN_FIFO0_RDIX + s.get (CAN_FIFO0 n) CAN_FIFO0_LEVEL) % 32)) = canW0 f) ∧
  (∀ (s : State) (n : Fin 4) (f : CanFrame) (back : BitVec 24), s.canOn n = false → exec (.canFrameReceive n f back) s = .next s) ∧
  (∀ (s : State) (n : Fin 4) (m : Word64) (k : Fin 64), s.canonical = true → s.hostMay (CAN_TXGO n) → nbit m.toNat k = true →
    nbit (s.rd64N (CAN_BDIR n)) k = true → s.canPending n k = false → s.canWd n k = false → s.canBusOff n = false → ∃ t,
    exec (.canTxgo n m) s = .next t ∧ t.canPending n k = true ∧
    vget (t.can n).req k 0 = s.tick ∧ t.get (CANBUF_FLAGS n k) CANBUF_FLAGS_CLASHES = 0) ∧
  (∀ (s : State) (n : Fin 4) (m : Word64) (k : Fin 64), s.canonical = true → s.hostMay (CAN_TXWD n) → nbit m.toNat k = true → ∃ t,
    exec (.canTxwd n m) s = .next t ∧ t.canPending n k = false ∧ ∀ j < 64, nbit m.toNat j = false → t.canPending n j = s.canPending n j) ∧
  (∀ (s : State) (n : Fin 4) (back : BitVec 24) (d : Option (BitVec 7)) (k : Nat), s.canonical = true → s.canSends n = true →
    s.canSending n (s.tick - 5 * back.toNat) = some (k, false) → ∃ t, exec (.canTxDone n back d) s = .next t ∧ t.canPending n k = false ∧
    nbit (t.rd64N (CAN_TXOK n)) k = true ∧ t.canTec n = min 256 (s.canTec n - 1)) ∧
  (∀ (s : State) (n : Fin 4) (back : BitVec 24) (dp late exc : Bool) (more : Fin 32) (k : Nat), s.canSends n = true →
    s.flag (CAN_CTRL n) CAN_CTRL_ONESHOT = false → s.canSending n (s.tick - 5 * back.toNat) = some (k, false) → ∃ t,
    exec (.canTxError n back 0 dp late exc more) s = .next t ∧ t.regs = s.regs ∧ (t.can n).clashed = (s.can n).clashed.filter (· ≠ k)) ∧
  (∀ (s : State) (n : Fin 4) (back : BitVec 24) (code : Fin 7) (dp : Bool) (more : Fin 32) (k : Nat), s.canonical = true → s.canSends n = true →
    s.canSending n (s.tick - 5 * back.toNat) = some (k, false) → code ≠ 0 → s.canTec n + 8 + 8 * more.val ≤ 255 → ∃ t,
    exec (.canTxError n back code dp false false more) s = .next t ∧ t.canTec n = s.canTec n + 8 + 8 * more.val ∧
    t.get (CAN_STAT n) (if dp then CAN_STAT_DLASTERR else CAN_STAT_LASTERR) = code) ∧
  (∀ (s : State) (n : Fin 4) (back : BitVec 24) (code : Fin 7) (dp : Bool) (more : Fin 32) (k : Nat), s.canonical = true → s.canSends n = true →
    s.canSending n (s.tick - 5 * back.toNat) = some (k, false) → code ≠ 0 → 255 < s.canTec n + 8 + 8 * more.val →
    s.flag (CAN_URG n) CAN_URG_DIVEN = false → ∃ t, exec (.canTxError n back code dp false false more) s = .next t ∧ t.canBusOff n = true ∧
    (t.can n).recov = s.flag (CAN_CTRL n) CAN_CTRL_AUTOREC ∧ nbit (t.rdN HOST_EVT) 5 = true) ∧
  (∀ (s : State) (n : Fin 4), s.hostMay (CAN_CTRL n) → s.canBusOff n = true → ∃ t, exec (.canRecoverBit n) s = .next t ∧ (t.can n).recov = true ∧
    t.regs = s.regs) ∧
  (∀ (s : State) (n : Fin 4), s.hostMay (CAN_CTRL n) → s.canBusOff n = false → exec (.canRecoverBit n) s = .next s) ∧
  (∀ (s : State) (n : Fin 4), s.canonical = true → s.canBusOff n = true → (s.can n).recov = true → ∃ t, exec (.busOffRecoveryDone n) s = .next t ∧
    t.canBusOff n = false ∧ t.canTec n = 0 ∧ t.canRec n = 0 ∧ (t.can n).recov = false) ∧
  (∀ (s : State) (n : Fin 4) (k : Fin 64), s.canonical = true → s.hostMay (CANBUF_FLAGS n k) → (s.can n).stored ≠ some (s.cclk, k.val) → ∃ t, exec (.canFreshClear n k) s = .next t ∧
    t.flag (CANBUF_FLAGS n k) CANBUF_FLAGS_FRESH = false ∧ ∀ b, b ≠ CANBUF_FLAGS n k → t.rd b = s.rd b) ∧
  (∀ (s : State) (n : Fin 4), s.canonical = true → s.hostMay (CAN_FREL n) → s.get (CAN_FIFO0 n) CAN_FIFO0_LEVEL ≠ 0 →
    (s.can n).fifoIn.all (fun (x : CanIn) => x.cyc != s.cclk || x.fifo != 0) = true → ∃ t,
    exec (.fifo0Release n) s = .next t ∧ t.get (CAN_FIFO0 n) CAN_FIFO0_LEVEL = s.get (CAN_FIFO0 n) CAN_FIFO0_LEVEL - 1 ∧
    t.get (CAN_FIFO0 n) CAN_FIFO0_RDIX = (s.get (CAN_FIFO0 n) CAN_FIFO0_RDIX + 1) % 2 ^ CAN_FIFO0_RDIX.w) ∧
  (∀ (s : State) (n : Fin 4), s.canonical = true → s.hostMay (CAN_FREL n) → s.get (CAN_FIFO1 n) CAN_FIFO0_LEVEL ≠ 0 →
    (s.can n).fifoIn.all (fun (x : CanIn) => x.cyc != s.cclk || x.fifo != 1) = true → ∃ t,
    exec (.fifo1Release n) s = .next t ∧ t.get (CAN_FIFO1 n) CAN_FIFO0_LEVEL = s.get (CAN_FIFO1 n) CAN_FIFO0_LEVEL - 1 ∧
    t.get (CAN_FIFO1 n) CAN_FIFO0_RDIX = (s.get (CAN_FIFO1 n) CAN_FIFO0_RDIX + 1) % 2 ^ CAN_FIFO0_RDIX.w) ∧
  (∀ (s : State) (n : Fin 4) (x : CanIn), s.hostMay (CAN_FREL n) → (s.can n).fifoIn = some x → x.cyc = s.cclk → x.fifo = 0 → x.level = 0 →
    exec (.fifo0Release n) s = .next s) ∧
  (∀ (s : State) (n : Fin 4) (k : Fin 64), s.hostMay (CANBUF_FLAGS n k) → (s.can n).stored = some (s.cclk, k.val) →
    exec (.canFreshClear n k) s = .next s) ∧
  (∀ (s : State) (n : Fin 4), s.flag (CAN_CTRL n) CAN_CTRL_HALT = true → ∃ t, exec (.canHaltEffect n) s = .next t ∧ (t.can n).halted = true ∧
    t.regs = s.regs) ∧
  (∀ (s : State) (n : Fin 4) (code : Fin 7) (dp : Bool) (more : Fin 32), s.canonical = true → s.canOn n = true → ∃ t,
    exec (.canRxError n code dp more) s = .next t ∧ t.canRec n = min 255 (s.canRec n + 1 + 8 * more.val) ∧
    t.get (CAN_STAT n) (if dp then CAN_STAT_DLASTERR else CAN_STAT_LASTERR) = code)

/-- Items are posted, dispatched and done, words are posted and popped, a WAIT stalls and returns, and locks are acquired and released. (18_groom_mailboxes_locks.md R525, 18_groom_mailboxes_locks.md R526, 18_groom_mailboxes_locks.md R527, 18_groom_mailboxes_locks.md R528, 18_groom_mailboxes_locks.md R532, 18_groom_mailboxes_locks.md R533, 18_groom_mailboxes_locks.md R534, 18_groom_mailboxes_locks.md R535, 18_groom_mailboxes_locks.md R536, 18_groom_mailboxes_locks.md R539, 18_groom_mailboxes_locks.md R540, 18_groom_mailboxes_locks.md R545). -/
def Obligations.GroomMailboxLockCommandsComplete : Prop :=
  (∀ (s : State) (src : Fin 10) (flow : BitVec 16) (ctl h : Byte) (a0 : Word) (a1 a2 : Word64), src ≠ 1 → s.groom.placed false < 15360 → ∃ t,
    exec (.workItemPost src flow ctl h a0 a1 a2) s = .next t ∧ t.rdata = 0 ∧
    t.groom.items.map (fun (j : GItem) => { j with held := none }) = s.groom.items.map (fun (j : GItem) => { j with held := none }) ++
      [({ flow := flow.toNat, cls := ctl.toNat % 4, tap := nbit ctl.toNat 7, handler := h.toNat, arg0 := a0, arg1 := a1, arg2 := a2,
          agent := if src.val < 2 then 0xFF else 0x10 + (src.val - 2), ptick := BitVec.ofNat 32 s.tick, hw := false,
          elig := if s.groom.busyTeam flow.toNat then none else some s.groom.eligNext, held := none } : GItem)]) ∧
  (∀ (s : State) (src : Fin 10) (flow : BitVec 16) (ctl h : Byte) (a0 : Word) (a1 a2 : Word64), 2 ≤ src.val → 15360 ≤ s.groom.placed false → ∃ t,
    exec (.workItemPost src flow ctl h a0 a1 a2) s = .next t ∧ t.groom = s.groom ∧ t.rdata = groomFull) ∧
  (∀ (s : State) (flow : BitVec 16) (ctl h : Byte) (a0 : Word) (a1 a2 : Word64), 1024 ≤ s.groom.placed true →
    s.groom.merged.find? (fun m => m.1 == h.toNat) = none → ∃ t, exec (.workItemPost 1 flow ctl h a0 a1 a2) s = .next t ∧
    t.groom = { s.groom with merged := s.groom.merged ++ [(h.toNat, flow.toNat, ctl.toNat, 1)] }) ∧
  (∀ (s : State) (i : GItem) (rest : List GItem) (c : Nat) (cs : List Nat), s.groom.stopped = false → s.groom.ready = i :: rest → s.groom.affinity.lookup i.flow = none → s.groom.idle = c :: cs → ∃ t,
    exec .workItemDispatch s = .next t ∧ (vget t.groom.svc c none).map (fun (j : GItem) => { j with held := none }) = some { i with held := none } ∧ t.groom.affinity.lookup i.flow = some c ∧ t.time = s.time) ∧
  (∀ s : State, s.groom.stopped = true → exec .workItemDispatch s = .next s) ∧
  (∀ (s : State) (i : GItem) (h : Nat), s.groom.ready.find? (fun (i : GItem) => i.held.isSome && (match s.groom.affinity.lookup i.flow with
      | some c => !s.groom.idle.contains c && !s.groom.idle.isEmpty
      | none => false)) = some i → i.held = some h → ∃ t,
    exec .affinityWindowEnd s = .next t ∧ t = (s.advanceTo (h + s.groom.afwin)).groomDispatch ∧ t.tick = max s.tick (h + s.groom.afwin)) ∧
  (∀ (s : State) (c : Fin 8) (i : GItem), vget s.groom.svc c none = some i → i.hw = false → ∃ t, exec (.workItemDone c) s = .next t ∧
    vget t.groom.svc c none = none ∧ t.groom.items.length = s.groom.items.length ∧ t.groom.merged = s.groom.merged ∧
    ((∀ j ∈ s.groom.items, j.flow ≠ i.flow) → t.groom.items.map (fun (j : GItem) => { j with held := none }) =
      s.groom.items.map (fun (j : GItem) => { j with held := none }))) ∧
  (∀ (s : State) (a b : Fin 29), s.stallExists a b = true → s.winRight a = true → b ≠ 28 → (s.stall a b).msgs.length < 4 → ∃ t,
    exec (.post a b) s = .next t ∧ t.rdata = BitVec.ofNat 32 (nextSeq (s.stall a b).seq) ∧ t.groom = s.groom) ∧
  (∀ (s : State) (a b : Fin 29), s.canonical = true → s.stallExists a b = true → s.winRight a = true → b ≠ 28 → (s.stall a b).msgs.length < 4 →
    ∃ t, exec (.post a b) s = .next t ∧ (t.stall a b).msgs = (s.stall a b).msgs ++
      [(⟨nextSeq (s.stall a b).seq, (s.stall a b).len, stagedWords (s.stall a b).stg (s.stall a b).len, s.time.mt, s.tick⟩ : Msg)]) ∧
  (∀ (s : State) (a b : Fin 29), s.stallExists a b = true → s.winRight a = true → b ≠ 28 → 4 ≤ (s.stall a b).msgs.length →
    exec (.post a b) s = .next { s with rdata := 0x40000000 }) ∧
  (∀ (s : State) (b a : Fin 29) (m : Msg) (rest : List Msg), s.canonical = true → s.stallExists a b = true → s.winRight b = true →
    (s.stall a b).msgs = m :: rest → ∃ t, exec (.pop b a) s = .next t ∧ (t.stall a b).msgs = rest ∧ (t.stall a b).ackSeq = m.seq) ∧
  (∀ (s : State) (a : Fin 29) (w : Word), s.winRight a = true → s.waitResult a = some w → exec (.wait a) s = .next { s with rdata := w }) ∧
  (∀ (s : State) (a : Fin 29), 2 ≤ a.val → s.waitResult a = none → ∃ t, exec (.wait a) s = .next t ∧ (t.agent a).waiting = some s.tick) ∧
  (∀ (s : State) (a : Fin 29), a.val < 2 → s.waitResult a = none → exec (.wait a) s = .next { s with rdata := 0x60000000 }) ∧
  (∀ (s : State) (a : Fin 29) (w : Word) (t0 : Nat), (s.agent a).waiting = some t0 → s.waitResult a = some w → ∃ t,
    exec (.waitReturn a) s = .next t ∧ t.rdata = w ∧ (t.agent a).waiting = none ∧ t.stalls = s.stalls) ∧
  (∀ (s : State) (a : Fin 29), s.waitResult a = none → exec (.waitReturn a) s = .next s) ∧
  (∀ (s : State) (a b : Fin 29) (t0 : Nat), s.crossSince a b = some t0 → s.xtime ≠ 0 → a ≠ b → ∃ t, exec (.crossingDetected a b) s = .next t ∧
    (t.agent a).cross = true ∧ (t.agent b).cross = true ∧ (t.agent a).peer = b ∧ (t.agent b).peer = a ∧ (t.agent a).waiting = none ∧
    (t.agent b).waiting = none ∧ t.tick = max s.tick (t0 + 400 * s.xtime) ∧ t.rdata = 0x40000000) ∧
  (∀ (s : State) (a : Fin 29) (n : Fin 64) (rs : List (Fin 29)), s.winRight a = true → (∀ r ∈ rs, s.winRight r = false) →
    vget s.locks n none = none → ∃ t, exec (.lockAcquire ⟨a, rs⟩ n) s = .next t ∧
    vget t.locks n none = some a.val ∧ t.rdata = 0 ∧ vget t.lockPtr (n / 32) 0 = (a.val + 1) % 29) ∧
  (∀ (s : State) (a w : Fin 29) (n : Fin 64) (rs : List (Fin 29)), s.winRight a = true → vget s.locks n none = none →
    s.lockContend n ((a.val :: rs.map (·.val)).filter s.winRight) = some w.val → ∃ t, exec (.lockAcquire ⟨a, rs⟩ n) s = .next t ∧
    vget t.locks n none = some w.val ∧ (w = a → t.rdata = 0) ∧ (w ≠ a → t.rdata = BitVec.ofNat 32 (0x80000000 + agentId w))) ∧
  (∀ (s : State) (a : Fin 29) (n : Fin 64) (rs : List (Fin 29)) (o : Nat), s.winRight a = true → vget s.locks n none = some o → o ≠ a.val →
    exec (.lockAcquire ⟨a, rs⟩ n) s = .next { s with rdata := BitVec.ofNat 32 (0x80000000 + agentId o) }) ∧
  (∀ (s : State) (a : Fin 29) (n : Fin 64), s.winRight a = true → vget s.locks n none = some a.val → ∃ t, exec (.lockRelease a n) s = .next t ∧
    vget t.locks n none = none ∧ t.agents = s.agents) ∧
  (∀ (s : State) (a : Fin 29) (n : Fin 64), s.winRight a = true → vget s.locks n none ≠ some a.val → ∃ t, exec (.lockRelease a n) s = .next t ∧
    t.locks = s.locks ∧ (t.agent a).badRel = incSat 16 (s.agent a).badRel)

/-- Overcurrent, loss and return of a stream, the hold of the link voltage, a presentation, the loss of angle, bank swaps and the clears answer the next state of their own effect. (07_current_loop.md R202, 07_current_loop.md R207, 07_current_loop.md R208, 07_current_loop.md R209, 07_current_loop.md R215, 07_current_loop.md R225, 07_current_loop.md R227). -/
def Obligations.CurrentLoopCommandsComplete : Prop :=
  (∀ (s : State) (j : Fin 96) (bits : List Bool), s.canonical = true → s.sdOn j = true → s.isCurrent j = true → s.ocDetects j bits = true → ∃ t,
    exec (.overcurrent j bits) s = .next t ∧ t.flag (SD_STAT j) SD_STAT_OC = true ∧ t.flag (SLOT_STAT (j / 3)) SLOT_STAT_OC = true ∧
    t.get (SD_STAT j) SD_STAT_OCCNT = incSat SD_STAT_OCCNT.w (s.get (SD_STAT j) SD_STAT_OCCNT) ∧
    t.flag (PWM_STAT (j / 3)) PWM_STAT_OCAUSE = true ∧ t.tick = max s.tick (s.sdSample j)) ∧
  (∀ (s : State) (j : Fin 96) (bits : List Bool), s.sdOn j = true → s.isCurrent j = true → s.ocDetects j bits = false → ∃ t,
    exec (.overcurrent j bits) s = .next t ∧ t.regs = s.regs ∧ (t.sd j).ocNow = s.ocAbove j bits ∧ t.tick = max s.tick (s.sdSample j)) ∧
  (∀ (s : State) (j : Fin 96) (bits : List Bool), s.sdOn j = false → exec (.overcurrent j bits) s = .next s) ∧
  (∀ (s : State) (j : Fin 96) (bits : List Bool), s.sdStuck j bits = false → exec (.streamLoss ⟨j, bits⟩) s = .next s) ∧
  (∀ (s : State) (j : Fin 96) (bits : List Bool), s.canonical = true → s.sdOn j = true → s.sdStuck j bits = true → s.flag (SD_STAT j) SD_STAT_LOST = false → ∃ t,
    exec (.streamLoss ⟨j, bits⟩) s = .next t ∧ t.flag (SD_STAT j) SD_STAT_LOST = true ∧ t.flag (SD_STAT j) SD_STAT_LOSS = true ∧
    t.get (SD_STAT j) SD_STAT_LOSSCNT = incSat SD_STAT_LOSSCNT.w (s.get (SD_STAT j) SD_STAT_LOSSCNT) ∧ t.tick = max s.tick (s.sdSample j)) ∧
  (∀ (s : State) (j : Fin 96) (bits : List Bool), s.canonical = true → s.sdOn j = true → s.sdStuck j bits = true → s.flag (SD_STAT j) SD_STAT_LOST = false → s.isCurrent j = true →
    s.flag (SLOT_STAT (j / 3)) SLOT_STAT_RUN = true → ∃ t, exec (.streamLoss ⟨j, bits⟩) s = .next t ∧ t.flag (SLOT_STAT (j / 3)) SLOT_STAT_SLOSS = true ∧
    t.flag (PWM_STAT (j / 3)) PWM_STAT_SCAUSE = true ∧ (t.loop (j / 3)).toff.isSome = true) ∧
  (∀ (s : State) (a : Fin 32), s.canonical = true → s.flag (SLOT_STAT a) SLOT_STAT_RUN = true → s.udcLost a = true →
    s.get (SLOT_LIM a) SLOT_LIM_UDCHOLD ≤ (s.cle a).udcRun → (s.cle a).udcTrip = false → ∃ t,
    exec (.udcHoldExpired a) s = .next t ∧ t.flag (SLOT_STAT a) SLOT_STAT_UDCLOSS = true ∧ t.flag (PWM_STAT a) PWM_STAT_SCAUSE = true ∧
    (t.loop a).toff.isSome = true) ∧
  (∀ (s : State) (a : Fin 32) (u v w dc : List Bool) (ph : Fin 320), (s.cle a).doneB = true → exec (.clePresentation a u v w ⟨dc, ph⟩) s = .next (s.sdSee a ph)) ∧
  (∀ (s : State) (a : Fin 32) (u v w dc : List Bool) (ph : Fin 320), s.canonical = true → (s.cle a).doneB = false → ∃ t,
    exec (.clePresentation a u v w ⟨dc, ph⟩) s = .next t ∧ (t.cle a).doneB = true ∧
    t.rdN (SLOT_WEND a) = ((s.cle a).e - (s.cle a).b0) / 32 % 65536 ∧
    t.tick = max s.tick ((s.cle a).b / 32 - s.get (SLOT_WIN a) SLOT_WIN_WLEAD)) ∧
  (∀ (s : State) (a : Fin 32) (u v w dc : List Bool) (ph : Fin 320), s.canonical = true → (s.cle a).doneB = false → s.flag (SLOT_STAT a) SLOT_STAT_RUN = true →
    s.udcLost a = false → s.flag (SLOT_STAT a) SLOT_STAT_ANGX = false → ∃ t, exec (.clePresentation a u v w ⟨dc, ph⟩) s = .next t ∧
    (t.cle a).pres = t.tick) ∧
  (∀ (s : State) (a : Fin 32), s.canonical = true → s.flag (SLOT_STAT a) SLOT_STAT_RUN = true → s.angOver a = true → ∃ t,
    exec (.angloss a) s = .next t ∧ t.flag (SLOT_STAT a) SLOT_STAT_RUN = false ∧ t.flag (SLOT_STAT a) SLOT_STAT_ANGLOSS = true ∧
    (t.events.any fun (e : Event) => e.kind == EventKind.angLoss && e.unit == a.val) = true) ∧
  (∀ (s : State) (a : Fin 32), s.canonical = true → s.hostMay (SLOT_CMD a) → s.tokenHolds CTOK_CLE a = none → (s.cle a).swapAt = none → ∃ t,
    exec (.cleBswap a) s = .next t ∧ t.flag (SLOT_STAT a) SLOT_STAT_SWPEND = true ∧ (t.cle a).swapAt = some s.tick ∧ t.bankOf a = s.bankOf a) ∧
  (∀ (s : State) (a : Fin 32) (k : Nat), s.canonical = true → s.hostMay (SLOT_CMD a) → s.tokenHolds CTOK_CLE a = some k → ∃ t,
    exec (.cleBswap a) s = .next t ∧ t.flag (CTOK_CTRL k) CTOK_CTRL_HELD = true ∧ t.cles = s.cles) ∧
  (∀ (s : State) (a : Fin 32) (t0 : Nat), s.canonical = true → (s.cle a).swapAt = some t0 → 32 * (t0 + 16) ≤ (s.grid a).last → ∃ t,
    exec (.cleBankSwap a) s = .next t ∧ t.bankOf a = 1 - s.bankOf a ∧ t.flag (SLOT_STAT a) SLOT_STAT_SWPEND = false ∧ (t.cle a).swapAt = none) ∧
  (∀ (s : State) (a : Fin 32), s.canonical = true → s.hostMay (SLOT_CMD a) → ∃ t, exec (.cleClrflags a) s = .next t ∧
    t.flag (SLOT_STAT a) SLOT_STAT_ANGLOSS = false ∧ t.flag (SLOT_STAT a) SLOT_STAT_OC = false ∧ t.flag (SLOT_STAT a) SLOT_STAT_TRIPWIN = false ∧
    t.flag (SLOT_STAT a) SLOT_STAT_RUN = s.flag (SLOT_STAT a) SLOT_STAT_RUN ∧ t.bankOf a = s.bankOf a) ∧
  (∀ (s : State) (a : Fin 32), s.canonical = true → s.hostMay (SLOT_CMD a) → ∃ t, exec (.cleClrcnt a) s = .next t ∧ t.rd (SLOT_CNT a) = 0 ∧
    ∀ b, b ≠ SLOT_CNT a → t.rd b = s.rd b) ∧
  (∀ (s : State) (k : Fin 8), s.canonical = true → s.hostMay (CLE_LAT k) → ∃ t, exec (.cleLatClr k) s = .next t ∧ t.rd (CLE_LAT k) = 0 ∧
    ∀ b, b ≠ CLE_LAT k → t.rd b = s.rd b) ∧
  (∀ (s : State) (j : Fin 96), s.canonical = true → s.flag (SD_STAT j) SD_STAT_LOST = true → ∃ t, exec (.streamReturn j) s = .next t ∧
    t.flag (SD_STAT j) SD_STAT_LOST = false ∧ t.tick = max s.tick (s.sdSample j))

/-- Each command that carries a register image leaves the state with the image applied and completes OK where the whole image applies. (17_command_reference.md R506). -/
def Obligations.ImageCommandsComplete : Prop :=
  (∀ (s s1 : State) (c : Cmd) (r : Req), s.admits c 0x0400 = some (s1, r) → s1.imageTaken (imageItems (imageOf 0x0400 r.unit s1.imageShort)) r.data = true →
    exec (.axisConfig c) s = .next ((s1.imagePut (imageItems (imageOf 0x0400 r.unit s1.imageShort)) r.data).finish r.tag .ok)) ∧
  (∀ (s s1 : State) (c : Cmd) (r : Req), s.admits c 0x0404 = some (s1, r) → s1.imageTaken (imageItems (imageOf 0x0404 r.unit s1.imageShort)) r.data = true →
    exec (.auxConfig c) s = .next ((s1.imagePut (imageItems (imageOf 0x0404 r.unit s1.imageShort)) r.data).finish r.tag .ok)) ∧
  (∀ (s s1 : State) (c : Cmd) (r : Req), s.admits c 0x0405 = some (s1, r) → s1.imageTaken (imageItems (imageOf 0x0405 r.unit s1.imageShort)) r.data = true →
    exec (.atcConfig c) s = .next ((s1.imagePut (imageItems (imageOf 0x0405 r.unit s1.imageShort)) r.data).finish r.tag .ok)) ∧
  (∀ (s s1 : State) (c : Cmd) (r : Req), s.admits c 0x0808 = some (s1, r) → s1.imageTaken (imageItems (imageOf 0x0808 r.unit s1.imageShort)) r.data = true →
    exec (.groupConfig c) s = .next ((s1.imagePut (imageItems (imageOf 0x0808 r.unit s1.imageShort)) r.data).finish r.tag .ok)) ∧
  (∀ (s s1 : State) (c : Cmd) (r : Req), s.admits c 0x0C04 = some (s1, r) → s1.imageTaken (imageItems (imageOf 0x0C04 r.unit s1.imageShort)) r.data = true →
    exec (.lsConfig c) s = .next ((s1.imagePut (imageItems (imageOf 0x0C04 r.unit s1.imageShort)) r.data).finish r.tag .ok)) ∧
  (∀ (s s1 : State) (c : Cmd) (r : Req), s.admits c 0x0C05 = some (s1, r) → s1.imageTaken (imageItems (imageOf 0x0C05 r.unit s1.imageShort)) r.data = true →
    exec (.vxConfig c) s = .next ((s1.imagePut (imageItems (imageOf 0x0C05 r.unit s1.imageShort)) r.data).finish r.tag .ok)) ∧
  (∀ (s s1 : State) (c : Cmd) (r : Req), s.admits c 0x1001 = some (s1, r) → s1.imageTaken (imageItems (imageOf 0x1001 r.unit s1.imageShort)) r.data = true →
    exec (.loopFb c) s = .next ((s1.imagePut (imageItems (imageOf 0x1001 r.unit s1.imageShort)) r.data).finish r.tag .ok)) ∧
  (∀ (s s1 : State) (c : Cmd) (r : Req), s.admits c 0x1003 = some (s1, r) → s1.imageTaken (imageItems (imageOf 0x1003 r.unit s1.imageShort)) r.data = true →
    exec (.cleConfig c) s = .next ((s1.imagePut (imageItems (imageOf 0x1003 r.unit s1.imageShort)) r.data).finish r.tag .ok)) ∧
  (∀ (s s1 : State) (c : Cmd) (r : Req), s.admits c 0x1007 = some (s1, r) → s1.imageTaken (imageItems (imageOf 0x1007 r.unit s1.imageShort)) r.data = true →
    exec (.lawsel c) s = .next ((s1.imagePut (imageItems (imageOf 0x1007 r.unit s1.imageShort)) r.data).finish r.tag .ok)) ∧
  (∀ (s s1 : State) (c : Cmd) (r : Req), s.admits c 0x1400 = some (s1, r) → s1.imageTaken (imageItems (imageOf 0x1400 r.unit s1.imageShort)) r.data = true →
    exec (.portConfig c) s = .next ((s1.imagePut (imageItems (imageOf 0x1400 r.unit s1.imageShort)) r.data).finish r.tag .ok)) ∧
  (∀ (s s1 : State) (c : Cmd) (r : Req), s.admits c 0x1800 = some (s1, r) → s1.imageTaken (imageItems (imageOf 0x1800 r.unit s1.imageShort)) r.data = true →
    exec (.latchConfig c) s = .next ((s1.imagePut (imageItems (imageOf 0x1800 r.unit s1.imageShort)) r.data).finish r.tag .ok)) ∧
  (∀ (s s1 : State) (c : Cmd) (r : Req), s.admits c 0x1804 = some (s1, r) → s1.imageTaken (imageItems (imageOf 0x1804 r.unit s1.imageShort)) r.data = true →
    exec (.coConfig c) s = .next ((s1.imagePut (imageItems (imageOf 0x1804 r.unit s1.imageShort)) r.data).finish r.tag .ok)) ∧
  (∀ (s s1 : State) (c : Cmd) (r : Req), s.admits c 0x1805 = some (s1, r) → s1.imageTaken (imageItems (imageOf 0x1805 r.unit s1.imageShort)) r.data = true →
    exec (.regConfig c) s = .next ((s1.imagePut (imageItems (imageOf 0x1805 r.unit s1.imageShort)) r.data).finish r.tag .ok)) ∧
  (∀ (s s1 : State) (c : Cmd) (r : Req), s.admits c 0x2400 = some (s1, r) → s1.imageTaken (imageItems (imageOf 0x2400 r.unit s1.imageShort)) r.data = true →
    exec (.ioConfig c) s = .next ((s1.imagePut (imageItems (imageOf 0x2400 r.unit s1.imageShort)) r.data).finish r.tag .ok)) ∧
  (∀ (s s1 : State) (c : Cmd) (r : Req), s.admits c 0x3800 = some (s1, r) → s1.imageTaken (imageItems (imageOf 0x3800 r.unit s1.imageShort)) r.data = true →
    exec (.twinConfig c) s = .next ((s1.imagePut (imageItems (imageOf 0x3800 r.unit s1.imageShort)) r.data).finish r.tag .ok)) ∧
  (∀ (s s1 : State) (c : Cmd) (r : Req), s.admits c 0x1800 = some (s1, r) → s1.imageTaken [(LI_CFG r.unit, 4)] r.data = false →
    exec (.latchConfig c) s = .next (s1.finish r.tag .badParam (2 ^ 31))) ∧
  (∀ (s s1 : State) (c : Cmd) (r : Req), s.admits c 0x2C00 = some (s1, r) → s1.cuPhase r.unit = 0 → s1.imageTaken (imageItems (cuImage r.unit)) r.data = true →
    exec (.captureConfig c) s = .next ((s1.imagePut (imageItems (cuImage r.unit)) r.data).finish r.tag .ok)) ∧
  (∀ (s s1 : State) (c : Cmd) (r : Req), s.admits c 0x2C00 = some (s1, r) → s1.cuPhase r.unit ≠ 0 → exec (.captureConfig c) s = .next (s1.finish r.tag .busy)) ∧
  (∀ (s s1 : State) (c : Cmd) (r : Req), s.admits c 0x1C00 = some (s1, r) → s1.imageTaken (imageItems (imageOf 0x1C00 r.unit s1.imageShort)) r.data = true →
    let t := s1.imagePut (imageItems (imageOf 0x1C00 r.unit s1.imageShort)) r.data;
    exec (.switchConfig c) s = .next (if r.bit 0 0 then (t.gclChg r.unit).await r.tag .gate r.unit else t.finish r.tag .ok)) ∧
  (∀ (s s1 : State) (c : Cmd) (r : Req), s.admits c 0x1C05 = some (s1, r) → s1.imageTaken (imageItems ((imageOf 0x1C05 r.unit false).drop 1)) (r.data.drop 4) = true →
    let t := s1.imagePut (imageItems ((imageOf 0x1C05 r.unit false).drop 1)) (r.data.drop 4); t.imageTaken [(RM_CFG, 4)] (r.data.take 4) = true →
    exec (.ramauxConfig c) s = .next ((t.imagePut [(RM_CFG, 4)] (r.data.take 4)).finish r.tag .ok)) ∧
  (∀ (s s1 : State) (c : Cmd) (r : Req), s.admits c 0x2000 = some (s1, r) →
    let h := (s1.putB (CAN_CTRL r.unit) CAN_CTRL_HALT true).canHaltWritten r.unit; let b := leBytes 4 (nsetBit (bU r.data 0 4) CAN_CTRL_HALT.lo true) ++ r.data.drop 4;
    h.imageTaken (imageItems (canImage r.unit)) b = true →
    let t := h.imagePut (imageItems (canImage r.unit)) b;
    exec (.canConfig c) s = .next ((if nbit (bU r.data 0 4) CAN_CTRL_HALT.lo then t else (t.putB (CAN_CTRL r.unit) CAN_CTRL_HALT false).canHaltWritten r.unit).finish r.tag .ok))

/-- NOP, IDENTIFY, ABORT, SET_STATE, EXPERT, SET_HAMODE, TOKEN, SET_CLOCK, ASSIGN, READ_REG, ENABLE, TRIP_CLEAR, HOLD_TORQUE and its end answer the next state of their own effect. (17_command_reference.md R508, 17_command_reference.md R511, 17_command_reference.md R512, 16_host_rings.md R494, 16_host_rings.md R496). -/
def Obligations.SystemAxisCommandsComplete : Prop :=
  (∀ (s s1 : State) (c : Cmd) (r : Req), s.admits c 0x0000 = some (s1, r) → exec (.nop c) s = .next (s1.finish r.tag .ok)) ∧
  (∀ (s s1 : State) (c : Cmd) (r : Req), s.admits c 0x0001 = some (s1, r) →
    exec (.identify c) s = .next (s1.finish r.tag .ok s1.sysId 0x00040200 (s1.opState + 16 * s1.get TW_STAT TW_STAT_ROLE))) ∧
  (∀ (s s1 : State) (c : Cmd) (r : Req) (i : Inflight), s.admits c 0x0002 = some (s1, r) →
    s1.inflight.find? (fun i => i.tag == r.P 0 % 65536 && !i.done && i.opcode != 2) = some i → i.started = false →
    exec (.abort c) s = .next ((s1.finish (r.P 0 % 65536) .aborted).finish r.tag .ok (r.P 0 % 65536))) ∧
  (∀ (s s1 : State) (c : Cmd) (r : Req) (i : Inflight) (w : Wait), s.admits c 0x0002 = some (s1, r) →
    s1.inflight.find? (fun i => i.tag == r.P 0 % 65536 && !i.done && i.opcode != 2) = some i → i.started = true →
    s1.waits.find? (fun w => w.tag == r.P 0 % 65536) = some w → w.kind = .moveEnd →
    exec (.abort c) s = .next ((s1.finish (r.P 0 % 65536) .aborted 2).finish r.tag .ok (r.P 0 % 65536))) ∧
  (∀ (s s1 : State) (c : Cmd) (r : Req), s.admits c 0x0002 = some (s1, r) → s1.inflight.find? (fun i => i.tag == r.P 0 % 65536 && !i.done && i.opcode != 2) = none →
    exec (.abort c) s = .next (s1.finish r.tag .notFound)) ∧
  (∀ (s s1 : State) (c : Cmd) (r : Req), s.admits c 0x0003 = some (s1, r) → s1.mayEnter (r.P 0) = true → s1.pw.want = none → (r.P 0 = 2 → s1.noonCheck = none) →
    (r.P 0 = 2 → s1.flag SF_STAT SF_STAT_SWS4ON = false) → ∃ t, exec (.setState c) s = .next t ∧
    t.pw.want = some (r.P 0, r.tag, if r.P 0 = 1 ∧ s1.inNight = false then 7 else 1) ∧ t.regs = s1.regs ∧ t.completions = s1.completions) ∧
  (∀ (s s1 : State) (c : Cmd) (r : Req), s.admits c 0x0003 = some (s1, r) → s1.mayEnter (r.P 0) = false → (r.P 0 = 3 → s1.inDusk = true → s1.pw.duskAt ≠ some s1.tick) → exec (.setState c) s = .next (s1.finish r.tag .badState s1.opState)) ∧
  (∀ (s s1 : State) (c : Cmd) (r : Req) (cause n : Nat), s.admits c 0x0003 = some (s1, r) → r.P 0 = 2 → s1.mayEnter 2 = true → s1.pw.want = none → s1.noonCheck = some (cause, n) →
    exec (.setState c) s = .next (s1.finish r.tag .checkFailed cause n)) ∧
  (∀ (s s1 : State) (c : Cmd) (r : Req), s.admits c 0x0004 = some (s1, r) → exec (.expert c) s = .next ((s1.wr SYS_EXPERT (if r.bit 1 0 then s1.rd SYS_EXPERT ||| BitVec.ofNat 32 (r.P 0)
      else s1.rd SYS_EXPERT &&& ~~~BitVec.ofNat 32 (r.P 0))).finish r.tag .ok)) ∧
  (∀ (s s1 : State) (c : Cmd) (r : Req), s.admits c 0x0005 = some (s1, r) → s.canonical = true → ∃ t, exec (.setHamode c) s = .next t ∧ t.host.stream = r.P64 1 ∧
    t.rd SYS_HAMODE = BitVec.ofNat 32 (nsetBit (r.P 0) 0 (r.P64 1 != 0)) ∧ ∀ n < 64, t.flag (AXL_RCFG n) AXL_RCFG_HOST = r.bit 0 4) ∧
  (∀ (s s1 : State) (c : Cmd) (r : Req), s.admits c 0x0006 = some (s1, r) → let k := r.P 0 % 8; s1.tokState k ≠ 1 →
    let t := (((((s1.putB (CTOK_CTRL k) CTOK_CTRL_NEXT (r.bit 0 8)).wrN (CTOK_PWM k) (r.P 1)).wrN (CTOK_CLE k) (r.P 2)).wrN (CTOK_LP k)
      (r.P 3)).wr64N (CTOK_TARGET k) (r.P64 4)).tokenArm k;
    exec (.token c) s = .next (if t.tokState k = 1 then t.await r.tag .token k else t.finish r.tag .tokenRefused (t.tokState k))) ∧
  (∀ (s s1 : State) (c : Cmd) (r : Req), s.admits c 0x0006 = some (s1, r) → s1.tokState (r.P 0 % 8) = 1 → exec (.token c) s = .next (s1.finish r.tag .tokenRefused 1)) ∧
  (∀ (s s1 : State) (c : Cmd) (r : Req), s.admits c 0x0007 = some (s1, r) → exec (.setClock c) s = .next ((s1.sysClk (r.P 0)).finish r.tag .ok)) ∧
  (∀ (s s1 : State) (c : Cmd) (r : Req), s.admits c 0x0008 = some (s1, r) → r.unit < 80 → r.P 0 ≠ s1.lpOf r.unit → s1.lpMode (r.P 0) ≠ 3 →
    s1.demandOf (r.P 0) (s1.lpBank (r.P 0)) (r.unit :: (s1.served (r.P 0)).filter (· != r.unit)) ≤ 720000000 → ∃ t, exec (.assign c) s = .next t ∧
    t.lpOf r.unit = r.P 0 ∧ ∀ n < 80, n ≠ r.unit → t.lpOf n = s1.lpOf n) ∧
  (∀ (s s1 : State) (c : Cmd) (r : Req), s.admits c 0x0009 = some (s1, r) →
    exec (.readReg c) s = .next ((s1.readWords (r.P 0) (r.P 1)).2.finish r.tag .ok 0 0 0 (s1.readWords (r.P 0) (r.P 1)).1)) ∧
  (∀ (s : State) (n : Fin 32) (h : Int) (t0 : Nat), (s.loop n).hold = some (h, t0) → nbit (s.rd64N (SFAX_AX n)) 22 = true → ∃ t,
    exec (.holdTorqueEnd n) s = .next t ∧ (t.loop n).hold = none ∧ t.tick = max s.tick t0 ∧ t.regs = s.regs) ∧
  (∀ (s : State) (n : Fin 32), (s.loop n).hold = none → exec (.holdTorqueEnd n) s = .next s) ∧
  (∀ (s s1 : State) (c : Cmd) (r : Req), s.admits c 0x0401 = some (s1, r) → s.canonical = true → r.bit 0 0 = true → r.unit < 32 → (s1.loop r.unit).enabled = false → s1.ramping r.unit = false →
    s1.enableCheck r.unit = none → ∃ t, exec (.enable c) s = .next t ∧ (t.loop r.unit).enabled = true ∧
    t.flag (SLOT_STAT r.unit) SLOT_STAT_RUN = true ∧ (t.loop r.unit).toff = none) ∧
  (∀ (s s1 : State) (c : Cmd) (r : Req), s.admits c 0x0401 = some (s1, r) → r.bit 0 0 = true → 32 ≤ r.unit → r.unit < 64 → (s1.loop r.unit).enabled = false → s1.ramping r.unit = false → ∃ t,
    exec (.enable c) s = .next t ∧ (t.loop r.unit).enabled = true) ∧
  (∀ (s s1 : State) (c : Cmd) (r : Req), s.admits c 0x0401 = some (s1, r) → s.canonical = true → r.bit 0 0 = false → r.unit < 32 → ∃ t, exec (.enable c) s = .next t ∧
    (t.loop r.unit).enabled = false ∧ (t.loop r.unit).toff = none ∧ t.flag (SLOT_STAT r.unit) SLOT_STAT_RUN = false) ∧
  (∀ (s s1 : State) (c : Cmd) (r : Req), s.admits c 0x0402 = some (s1, r) → r.unit < 32 → let t := s1.pwmTclr r.unit;
    exec (.tripClear c) s = .next (if t.flag (PWM_STAT r.unit) PWM_STAT_LCAUSE || t.flag (PWM_STAT r.unit) PWM_STAT_OCAUSE ||
      t.flag (PWM_STAT r.unit) PWM_STAT_SCAUSE then t.finish r.tag .clearRefused (t.rdN (PWM_STAT r.unit)) else t.finish r.tag .ok)) ∧
  (∀ (s s1 : State) (c : Cmd) (r : Req), s.admits c 0x0402 = some (s1, r) → 32 ≤ r.unit → let t := s1.gtripTclr (r.unit - 0xE0);
    exec (.tripClear c) s = .next (if t.flag (GTRIP_STAT (r.unit - 0xE0)) GTRIP_STAT_LATCHED
      then t.finish r.tag .clearRefused (t.rdN (GTRIP_STAT (r.unit - 0xE0))) else t.finish r.tag .ok)) ∧
  (∀ (s s1 : State) (c : Cmd) (r : Req), s.admits c 0x0403 = some (s1, r) → r.unit < 32 → s1.variantF = false → nbit (s1.rd64N (SFAX_AX r.unit)) 22 = true → ∃ t, exec (.holdTorque c) s = .next t ∧
    (t.loop r.unit).hold = some (wrapS 32 (r.P 0), s1.tick + 400000 * r.P 1) ∧ t.regs = s1.regs) ∧
  (∀ (s s1 : State) (c : Cmd) (r : Req), s.admits c 0x0403 = some (s1, r) → nbit (s1.rd64N (SFAX_AX r.unit)) 22 = false → exec (.holdTorque c) s = .next (s1.finish r.tag .btNotRunning))

/-- The commands of the classes SEC and UPDATE, tamper alarms, the debug challenge, the security version and memory errors answer the next state of their own effect. (21_security_integrity.md R588, 21_security_integrity.md R589, 21_security_integrity.md R590, 21_security_integrity.md R592, 21_security_integrity.md R594, 21_security_integrity.md R595, 21_security_integrity.md R596, 12_twin_and_changeover.md R390, 13_safety.md R425, 17_command_reference.md R518). -/
def Obligations.SecurityUpdateCommandsComplete : Prop :=
  (∀ s : State, s.canonical = true → s.flag SYS_CLK SYS_CLK_LOCK = false → s.flag TW_STAT TW_STAT_ACTOUT = true → s.inDawn = false → ∃ t,
    exec .activeRelease s = .next t ∧ t.get TW_STAT TW_STAT_ROLE = 2 ∧ t.flag TW_STAT TW_STAT_ACTOUT = false) ∧
  (∀ (s : State) (n t0 : Nat), s.sec.challenge = some (n, t0) → ∃ t : State, exec .challengeExpiry s = .next t ∧ t.sec.challenge = none ∧
    t.tick = max s.tick (t0 + 24000000000) ∧ t.regs = s.regs) ∧
  (∀ (s : State) (m : BitVec 5) (utc : Word64), s.canonical = true → nbit m.toNat 0 = true → s.sec.polWas = none → ∃ t : State, exec (.tamperAlarm m utc) s = .next t ∧
    nbit (t.rdN SEC_TAMPER) 0 = true ∧ t.flag SEC_STAT SEC_STAT_ALARM = true ∧
    (nbits (s.rdN SEC_POLICY) 1 0 = 2 → t.rd (SEC_SLOTS 0) = 0 ∧ t.rd (SEC_SLOTS 3) = 0 ∧ t.sec.mkeys = [] ∧ t.sec.erasedAt = some (s.tick, true))) ∧
  (∀ (s : State) (v : Word), s.canonical = true → s.hostMay SEC_POLICY → wordOk SEC_POLICY v.toNat = true → ∃ t,
    exec (.secPolicyWrite v) s = .next t ∧ t.rd SEC_POLICY = BitVec.ofNat 32 (setPolicy (s.rdN SEC_POLICY) v.toNat true) ∧ t.sec = s.sec) ∧
  (∀ s : State, s.canonical = true → s.hostMay SEC_CMD → ∃ t : State, exec .secClrcnt s = .next t ∧ t.rd SEC_INTCNT0 = 0 ∧ t.rd SEC_INTCNT1 = 0 ∧
    ∀ b, b ≠ SEC_INTCNT0 → b ≠ SEC_INTCNT1 → t.rd b = s.rd b) ∧
  (∀ (s : State) (v t0 : Nat), s.canonical = true → s.pw.newSvn = some (v, t0) → s.inMorning = true → v < 2 ^ 32 → ∃ t : State, exec .svnAdvance s = .next t ∧
    t.rdN SEC_SVN = max v (s.rdN SEC_SVN) ∧ t.pw.newSvn = none ∧ t.tick = max s.tick (t0 + 24000000000)) ∧
  (∀ s : State, s.canonical = true → s.isActive = false → ∃ t : State, exec (.uncorrectableError .dram) s = .next t ∧
    t.get SEC_INTCNT1 SEC_INTCNT1_UNCORR = incSat SEC_INTCNT1_UNCORR.w (s.get SEC_INTCNT1 SEC_INTCNT1_UNCORR) ∧
    t.events.getLast?.map (fun (e : Event) => (e.kind, e.unit)) = some (EventKind.uncorrectable, 0)) ∧
  (∀ (s : State) (g : Fin 40), s.canonical = true → ∃ t : State, exec (.uncorrectableError (.pwmShadow g)) s = .next t ∧
    t.get SEC_INTCNT1 SEC_INTCNT1_SHPAR = incSat SEC_INTCNT1_SHPAR.w (s.get SEC_INTCNT1 SEC_INTCNT1_SHPAR) ∧ (t.pwm g).caps = [] ∧
    (t.pwm g).parBad = true) ∧
  (∀ s : State, s.canonical = true → ∃ t : State, exec (.eccCorrected .dram) s = .next t ∧
    t.get SEC_INTCNT0 SEC_INTCNT0_DRAM = incSat SEC_INTCNT0_DRAM.w (s.get SEC_INTCNT0 SEC_INTCNT0_DRAM)) ∧
  (∀ (s : State) (g : Fin 40), exec (.eccCorrected (.pwmShadow g)) s = .next s) ∧
  (∀ (s s1 : State) (c : Cmd) (r : Req), s.admits c 0x3400 = some (s1, r) → let x := s1.keyLoad r.data; exec (.keyLoad c) s =
    .next ((if x.1 = .ok then x.2.modSec (fun k => { k with loaded := some (s1.tick, bU r.data 0 1, r.tag) }) else x.2).finish r.tag x.1
      (if x.1 = .badParam then 2 ^ 31 + keyLoadBad r.data else 0))) ∧
  (∀ (s s1 : State) (c : Cmd) (r : Req), s.admits c 0x3400 = some (s1, r) → s.canonical = true → s1.flag SEC_STAT SEC_STAT_DBGOPEN = false → bU r.data 0 1 = 1 → bU r.data 1 1 < 8 → bU r.data 2 1 = 0xFF →
    bZero r.data 3 5 = true → bZero r.data 120 8 = true → bZero r.data 80 40 = true → bU r.data 8 8 = s1.rd64N SEC_NONCE → s1.rd (SEC_SLOTS 0) = 0 →
    s1.erasedNow 1 = false → ∃ t, exec (.keyLoad c) s = .next t ∧
    (Config.sigOk ((r.data.drop 16).take 64) (r.data.take 128) ((r.data.drop 128).take 64) = true → t.keyValid 1 (bU r.data 1 1) = true ∧
      t.sec.mkeys.lookup (bU r.data 1 1) = some ((r.data.drop 16).take 64) ∧ t.sec.loaded = some (s1.tick, 1, r.tag)) ∧
    (Config.sigOk ((r.data.drop 16).take 64) (r.data.take 128) ((r.data.drop 128).take 64) = false → t = s1.newNonce.finish r.tag .signature)) ∧
  (∀ (s s1 : State) (c : Cmd) (r : Req), s.admits c 0x3401 = some (s1, r) → s.canonical = true → bU r.data 1 1 < slotsOf (bU r.data 0 1) → bZero r.data 2 14 = true → bU r.data 16 1 < 8 →
    bZero r.data 17 7 = true → s1.rdN (SEC_SLOTS 0) ≠ 2 ^ bU r.data 1 1 → ∃ t : State,
    exec (.keyErase c) s = .next t ∧ (s1.signed96 r.data = false → t = s1.newNonce.finish r.tag .signature) ∧
    (s1.signed96 r.data = true → t.keyValid (bU r.data 0 1) (bU r.data 1 1) = false ∧
      t.events.getLast?.map (fun (e : Event) => e.kind) = some EventKind.security ∧ (bU r.data 0 1 = 1 → t.sec.mkeys.lookup (bU r.data 1 1) = none))) ∧
  (∀ (s s1 : State) (c : Cmd) (r : Req), s.admits c 0x3402 = some (s1, r) → s.canonical = true → bU r.data 0 4 < 1024 → bZero r.data 4 12 = true → bU r.data 16 1 < 8 → bZero r.data 17 7 = true →
    ∃ t : State, exec (.tamperPolicy c) s = .next t ∧ (s1.signed96 r.data = false → t = s1.newNonce.finish r.tag .signature) ∧
    (s1.signed96 r.data = true → t.rd SEC_POLICY = BitVec.ofNat 32 (setPolicy (s1.rdN SEC_POLICY) (bU r.data 0 4) false) ∧
      t.events.getLast?.map (fun (e : Event) => e.kind) = some EventKind.security)) ∧
  (∀ (s s1 : State) (c : Cmd) (r : Req), s.admits c 0x3402 = some (s1, r) → 1024 ≤ bU r.data 0 4 → exec (.tamperPolicy c) s = .next (s1.finish r.tag .badParam (2 ^ 31))) ∧
  (∀ (s s1 : State) (c : Cmd) (r : Req), s.admits c 0x3403 = some (s1, r) → ∃ t : State, exec (.debugChallenge c) s = .next t ∧
    t.sec.challenge.map (fun (x : Nat × Nat) => (decide (x.1 < 2 ^ 96), x.2)) = some (true, s1.tick) ∧ t.regs = s1.regs) ∧
  (∀ (s s1 : State) (c : Cmd) (r : Req) (n t0 : Nat), s.admits c 0x3404 = some (s1, r) → s.canonical = true → s1.sec.challenge = some (n, t0) → s1.tick < t0 + 24000000000 →
    s1.get SEC_STAT SEC_STAT_DBGCNT < 32 → ∃ t : State, exec (.debugOpen c) s = .next t ∧
    (Config.sha256 (r.data.take 64) = Config.dbgkh → Config.sigOk (r.data.take 64) (leBytes 12 n ++ s1.r4 SYS_ID ++ Config.devPub) ((r.data.drop 64).take 64) = true →
      t.flag SEC_STAT SEC_STAT_DBGOPEN = true ∧ t.get SEC_STAT SEC_STAT_DBGCNT = s1.get SEC_STAT SEC_STAT_DBGCNT + 1 ∧ t.rd (SEC_SLOTS 0) = 0 ∧ t.sec.challenge = none) ∧
    (Config.sha256 (r.data.take 64) ≠ Config.dbgkh → t = s1.finish r.tag .signature)) ∧
  (∀ (s s1 : State) (c : Cmd) (r : Req), s.admits c 0x3404 = some (s1, r) → s1.sec.challenge = none → exec (.debugOpen c) s = .next (s1.finish r.tag .signature)) ∧
  (∀ (s s1 : State) (c : Cmd) (r : Req), s.admits c 0x3C00 = some (s1, r) → r.P 0 + r.data.length ≤ 2 ^ 32 → ∃ t : State, exec (.fwWrite c) s = .next t ∧
    t.mem.fw = memWrite s1.mem.fw (2 ^ 32 * s1.otherImage + r.P 0) r.data ∧ t.pw.verified = false ∧ t.regs = s1.regs) ∧
  (∀ (s s1 : State) (c : Cmd) (r : Req), s.admits c 0x3C01 = some (s1, r) →
    let v := Config.bundleSvn ((s1.mem.fw.filter fun (x : Host.Cell) => x.1 / 2 ^ 32 == s1.otherImage).map fun (x : Host.Cell) => (x.1 - 2 ^ 32 * s1.otherImage, x.2));
    ∃ t : State, exec (.fwVerify c) s = .next t ∧ t.completions.getLast?.map (fun (x : Completion) => (x.tag, x.status)) = some (r.tag, if t.pw.verified then Status.ok else Status.signature) ∧
    t.pw.verified = v.any (fun (n : Nat) => decide (s1.rdN SEC_SVN ≤ n)) ∧ t.mem = s1.mem ∧ t.regs = s1.regs) ∧
  (∀ (s s1 : State) (c : Cmd) (r : Req), s.admits c 0x3C02 = some (s1, r) → ∃ t : State, exec (.fwRestart c) s = .next t ∧ t.pw.fwRun = false ∧ t.pw.restart = some (s1.tick, !s1.pw.imageB, some r.tag) ∧
    t.groom.stopped = true ∧ t.regs = s1.regs) ∧
  (∀ (s s1 : State) (c : Cmd) (r : Req), s.admits c 0x3C03 = some (s1, r) → (r.data.length - 132) % 4 ≠ 0 → exec (.lpImage c) s = .next (s1.finish r.tag .badParam 8)) ∧
  (∀ (s s1 : State) (c : Cmd) (r : Req), s.admits c 0x3C03 = some (s1, r) → let n := r.data.length - 132; let key := (r.data.drop (n + 4)).take 64; n % 4 = 0 →
    let good := decide (s1.rdN SEC_SVN ≤ bU r.data n 4) && Config.sha256 key == Config.fwkh && Config.sigOk key (r.data.take (n + 4)) ((r.data.drop (n + 68)).take 64);
    let b := !s1.lpBank r.unit;
    let u := ((List.range (n / 4)).foldl (fun s i => s.lpMemWrite r.unit (16384 * b2n b + i) (BitVec.ofNat 32 (bU r.data (4 * i) 4))) s1).event .update r.unit (b2n b);
    exec (.lpImage c) s = .next (if good then (if r.bit 0 0 then (u.lpVerify r.unit b).await r.tag .verify r.unit else u.finish r.tag .ok)
      else (s1.event .update r.unit ((b2n b + 2 * Status.signature.code : Nat) : Int)).finish r.tag .signature)) ∧
  (∀ (s s1 : State) (c : Cmd) (r : Req), s.admits c 0x3C04 = some (s1, r) → r.P 0 < 16 → ∃ t : State, exec (.safetySlot c) s = .next t ∧ (t.slot (r.P 0)).bytes = r.data ∧
    ∀ i < 16, i ≠ r.P 0 → t.slot i = s1.slot i)

/-- Moves, STOP, sources, gears, cams, tables, loop parameters and injections answer the next state of their own effect, or the refusal of a ramping axis, a bad parameter or a busy table. (04_trajectory_gearing_line_shaft.md R115, 04_trajectory_gearing_line_shaft.md R117, 04_trajectory_gearing_line_shaft.md R119, 04_trajectory_gearing_line_shaft.md R121, 04_trajectory_gearing_line_shaft.md R122, 04_trajectory_gearing_line_shaft.md R123, 04_trajectory_gearing_line_shaft.md R124, 04_trajectory_gearing_line_shaft.md R125, 04_trajectory_gearing_line_shaft.md R126, 04_trajectory_gearing_line_shaft.md R129, 17_command_reference.md R513, 17_command_reference.md R514). -/
def Obligations.MotionClassCommandsComplete : Prop :=
  (∀ (s s1 : State) (c : Cmd) (r : Req), s.admits c 0x0800 = some (s1, r) → s1.inMorning = true → r.P 0 % 16 ≠ 4 → r.P 0 % 16 ≠ 5 → s1.ramping r.unit = false →
    exec (.setSource c) s = .next ((s1.setSourceNow r.unit (r.P 0 % 16) (nbits (r.P 0) 15 8) (r.bit 0 16)).finish r.tag .ok)) ∧
  (∀ (s s1 : State) (c : Cmd) (r : Req), s.admits c 0x0800 = some (s1, r) → s1.inMorning = false → r.P 0 % 16 ≠ 4 → r.P 0 % 16 ≠ 5 → r.unit < 80 → s1.ramping r.unit = false → ∃ (t : State) (x : SrcChange), exec (.setSource c) s = .next t ∧
    (t.mo r.unit).chgs = (s1.mo r.unit).chgs ++ [x] ∧ x.src = r.P 0 % 16 ∧ x.msel = nbits (r.P 0) 15 8 ∧ x.mact = r.bit 0 16 ∧ x.tag = some r.tag ∧ x.sched = false ∧
    t.waits = s1.waits ++ [(⟨r.tag, .source, r.unit⟩ : Wait)] ∧ t.completions = s1.completions ∧ t.mem = s1.mem) ∧
  (∀ (s s1 : State) (c : Cmd) (r : Req), s.admits c 0x0800 = some (s1, r) → r.P 0 % 16 ≠ 4 → r.P 0 % 16 ≠ 5 → s1.ramping r.unit = true → exec (.setSource c) s = .next (s1.finish r.tag .protected_ (s1.rdN (AX_STAT r.unit)))) ∧
  (∀ (s s1 : State) (c : Cmd) (r : Req), s.admits c 0x0801 = some (s1, r) → r.unit < 80 → 0 < r.fld 0 → 0 < r.fld 1 → 0 < r.fld 2 → s1.ramping r.unit = false → s1.groupOf r.unit = none →
    let d := if r.bit 0 0 then r.fld 3 else r.fld 3 - s1.endPos r.unit; d ≠ 0 →
    let t := s1.ptpAxis r.unit (s1.startFrame [r.unit]) d (s1.ptpFrames (absI d : Int) (r.fld 0 : Int) (r.fld 1 : Int) (r.fld 2 : Int));
    exec (.movePtp c) s = .next (if r.wait then t.await r.tag .moveEnd (moveUnit r.unit (t.mo r.unit).moveNo) else t.finish r.tag .ok)) ∧
  (∀ (s s1 : State) (c : Cmd) (r : Req), s.admits c 0x0801 = some (s1, r) → r.unit < 80 → 0 < r.fld 0 → 0 < r.fld 1 → 0 < r.fld 2 → s1.ramping r.unit = false → s1.groupOf r.unit = none → r.bit 0 0 = false →
    r.fld 3 = s1.endPos r.unit → exec (.movePtp c) s = .next (s1.finish r.tag .ok)) ∧
  (∀ (s s1 : State) (c : Cmd) (r : Req), s.admits c 0x0801 = some (s1, r) → r.fld 0 ≤ 0 → exec (.movePtp c) s = .next (s1.finish r.tag .badParam (2 ^ 31))) ∧
  (∀ (s s1 : State) (c : Cmd) (r : Req), s.admits c 0x0802 = some (s1, r) → 0 < r.fld 0 → s1.moveBlocked r.unit = none → r.unit - 0x90 < 16 → s1.planLow (r.unit - 0x90) = false → let g := r.unit - 0x90; let a := s1.pathStart g; ∃ t : State, exec (.moveLinear c) s = .next t ∧
    (t.grpPlan g).moves = (s1.grpPlan g).moves ++ [({ tag := some r.tag, wait := r.wait, feed := r.fld 0, geo := .line a ((List.range a.length).map fun i =>
      r.fld (1 + i) + (if r.bit 0 0 then a.getD i 0 else 0)) } : PlanMove)] ∧ t.motion = s1.motion ∧ t.regs = s1.regs ∧ t.completions = s1.completions) ∧
  (∀ (s s1 : State) (c : Cmd) (r : Req) (n : Nat), s.admits c 0x0802 = some (s1, r) → 0 < r.fld 0 → s1.moveBlocked r.unit = some n → exec (.moveLinear c) s = .next (s1.finish r.tag .protected_ (s1.rdN (AX_STAT n)))) ∧
  (∀ (s s1 : State) (c : Cmd) (r : Req), s.admits c 0x0803 = some (s1, r) → 0 < r.fld 0 → s1.moveBlocked r.unit = none → let g := r.unit - 0x90; let a := s1.pathStart g; let i := bU r.data 8 1; let j := bU r.data 9 1;
    i < a.length → j < a.length → j ≠ i → r.bit 0 1 = false → bZero r.data 11 5 = true →
    let r0 := norm [((a.getD i 0 - r.fld 2 : Int) : Rat), ((a.getD j 0 - r.fld 3 : Int) : Rat)];
    let r1 := norm [((r.fld 4 - r.fld 2 : Int) : Rat), ((r.fld 5 - r.fld 3 : Int) : Rat)];
    r0 ≠ 0 → ratAbs (r1 - r0) ≤ (s1.rd64N (GRP_CHTOL g) : Nat) → s1.chordOk g = true →
    exec (.moveCirc c) s = .next (s1.planPath g r.tag r.wait (.arc a i j none (r.fld 2) (r.fld 3) (r.fld 4) (r.fld 5) (r.fld 6) (r.bit 0 0)) (r.fld 0))) ∧
  (∀ (s s1 : State) (c : Cmd) (r : Req), s.admits c 0x0803 = some (s1, r) → 0 < r.fld 0 → s1.moveBlocked r.unit = none → let a := s1.pathStart (r.unit - 0x90); bU r.data 8 1 < a.length → bU r.data 9 1 = bU r.data 8 1 →
    exec (.moveCirc c) s = .next (s1.finish r.tag .badParam (2 ^ 31 + 9))) ∧
  (∀ (s s1 : State) (c : Cmd) (r : Req), s.admits c 0x0804 = some (s1, r) → 0 < r.fld 0 → s1.moveBlocked r.unit = none → r.bit 0 0 = false → let g := r.unit - 0x90; let a := s1.pathStart g;
    let pts := r.rows a.length 1 ((r.data.length / 8 - 1) / max 1 a.length);
    ((a.zip (pts.headD [])).all fun x => decide (absI (x.1 - x.2) ≤ 16777216)) = true → (∀ q, q + 1 < pts.length → pts.getD q [] ≠ pts.getD (q + 1) []) →
    s1.chordOk g = true → exec (.moveSpline c) s = .next (s1.planPath g r.tag r.wait (.spline (a :: pts.drop 1) none) (r.fld 0))) ∧
  (∀ (s s1 : State) (c : Cmd) (r : Req), s.admits c 0x0805 = some (s1, r) → s1.ramping r.unit = false → r.unit < 80 → let k := r.data.length / 24; 2 ≤ k → let ofs := if r.bit 0 0 then s1.endPos r.unit else 0;
    let pts := (List.range k).map fun i => (r.fld (3 * i) + ofs, r.fld (3 * i + 1), bU r.data (24 * i + 16) 8);
    (∀ i, i + 1 < k → 100000 ≤ ((pts.getD (i + 1) (0, 0, 0)).2.2 - (pts.getD i (0, 0, 0)).2.2) * s1.frameLen) → k - 1 ≤ 512 - (s1.planned r.unit).length →
    let mv := ((s1.mo r.unit).moveNo + 1) % 65536;
    let t := (s1.nextMove r.unit).2.addSegs r.unit ((List.range (k - 1)).map fun i => s1.pvtSeg mv (i + 2 == k) (pts.getD i (0, 0, 0)) (pts.getD (i + 1) (0, 0, 0)));
    exec (.movePvt c) s = .next (if r.wait then t.await r.tag .moveEnd (moveUnit r.unit (t.mo r.unit).moveNo) else t.finish r.tag .ok)) ∧
  (∀ (s s1 : State) (c : Cmd) (r : Req), s.admits c 0x0805 = some (s1, r) → s1.ramping r.unit = true → exec (.movePvt c) s = .next (s1.finish r.tag .protected_ (s1.rdN (AX_STAT r.unit)))) ∧
  (∀ (s s1 : State) (c : Cmd) (r : Req), s.admits c 0x0806 = some (s1, r) → (r.unit < 0x90 → s1.ramping r.unit = false) → ∃ t : State, exec (.stop c) s = .next t ∧ t.stops = s1.stops ++ [({ tag := r.tag, unit := r.unit, frame := s1.stopFrame } : StopReq)] ∧
    t.waits = s1.waits ++ [(⟨r.tag, .stopBoundary, r.unit⟩ : Wait)] ∧ t.regs = s1.regs ∧ t.motion = s1.motion ∧ t.completions = s1.completions) ∧
  (∀ (s s1 : State) (c : Cmd) (r : Req), s.admits c 0x0806 = some (s1, r) → r.unit < 0x90 → s1.ramping r.unit = true → exec (.stop c) s = .next (s1.finish r.tag .ok)) ∧
  (∀ (s s1 : State) (c : Cmd) (r : Req), s.admits c 0x0807 = some (s1, r) → r.unit < 80 → r.bit 0 0 = false → 0 < r.fld 1 → 0 < r.fld 2 → 0 < r.fld 3 → s1.ramping r.unit = false → r.fld 0 ≠ 0 → (s1.mo r.unit).phaseDist = none → ∃ t : State,
    exec (.phaseMove c) s = .next t ∧ (t.mo r.unit).phaseTag = (if r.wait then some r.tag else none) ∧ (t.mo r.unit).phaseTime =
      some (let x := s1.phaseNow r.unit (s1.nextTarget r.unit); phaseRamp (s1.nextTarget r.unit) (x.1, x.2.1, x.2.2.1) (r.fld 0) (r.fld 1) (r.fld 2) (r.fld 3)) ∧ t.regs = s1.regs) ∧
  (∀ (s s1 : State) (c : Cmd) (r : Req), s.admits c 0x0807 = some (s1, r) → r.unit < 80 → r.bit 0 0 = true → 0 < r.fld 2 → s1.ramping r.unit = false → r.fld 0 ≠ 0 → (s1.mo r.unit).phaseTime = none → (s1.mo r.unit).phaseNext = none →
    (s1.mo r.unit).phaseDist = none → ∃ t : State, exec (.phaseMove c) s = .next t ∧ (t.mo r.unit).phaseDist =
      some ({ dphi := r.fld 0, len := r.fld 2, m0 := r.fld 1, tag := if r.wait then some r.tag else none } : DistMove) ∧ t.regs = s1.regs) ∧
  (∀ (s s1 : State) (c : Cmd) (r : Req), s.admits c 0x0807 = some (s1, r) → 0 < r.fld 1 → 0 < r.fld 2 → 0 < r.fld 3 → s1.ramping r.unit = true → exec (.phaseMove c) s = .next (s1.finish r.tag .inRamp)) ∧
  (∀ (s s1 : State) (c : Cmd) (r : Req), s.admits c 0x0C00 = some (s1, r) → r.unit < 80 → s1.ramping r.unit = false → ∃ (t : State) (x : SrcChange), exec (.gear c) s = .next t ∧ (t.mo r.unit).chgs = (s1.mo r.unit).chgs ++ [x] ∧ x.src = 2 ∧
    x.n = wrapS 32 (r.P 0) ∧ x.d = r.P 1 ∧ x.msel = r.P 2 % 256 ∧ x.mact = r.bit 2 8 ∧ x.sched = r.bit 2 16 ∧ x.tag = some r.tag ∧
    t.waits = s1.waits ++ [(⟨r.tag, .source, r.unit⟩ : Wait)] ∧ t.completions = s1.completions) ∧
  (∀ (s s1 : State) (c : Cmd) (r : Req), s.admits c 0x0C00 = some (s1, r) → s1.ramping r.unit = true → exec (.gear c) s = .next (s1.finish r.tag .protected_ (s1.rdN (AX_STAT r.unit)))) ∧
  (∀ (s s1 : State) (c : Cmd) (r : Req), s.admits c 0x0C01 = some (s1, r) → let t := r.P 0; let k := r.P 1; 2 ≤ k → (∀ i < k, bZero r.data (32 * i + 24) 8 = true) →
    (∀ n < 80, s1.get (AX_SRC n) AX_SRC_SRC = 3 → s1.get (AX_CAM n) AX_CAM_TABLE ≠ t) → k ≤ 65536 - ((s1.cams.filter fun c => c.table != t).map fun c => c.pts.length).sum →
    (∀ i, i + 1 < k → r.fld (4 * i) < r.fld (4 * (i + 1))) → r.bit 2 0 = false → (r.bit 2 1 = true → r.fld 2 = r.fld (4 * (k - 1) + 2)) → ∃ u : State,
    exec (.camLoad c) s = .next u ∧ u.cams = ({ table := t, periodic := r.bit 2 1, pts := r.camPts } : Cam) :: s1.cams.filter (fun c => c.table != t) ∧ u.regs = s1.regs ∧ u.motion = s1.motion) ∧
  (∀ (s s1 : State) (c : Cmd) (r : Req) (n : Nat), s.admits c 0x0C01 = some (s1, r) → n < 80 → (∀ i < r.P 1, bZero r.data (32 * i + 24) 8 = true) → s1.get (AX_SRC n) AX_SRC_SRC = 3 → s1.get (AX_CAM n) AX_CAM_TABLE = r.P 0 →
    exec (.camLoad c) s = .next (s1.finish r.tag .tableBusy)) ∧
  (∀ (s s1 : State) (c : Cmd) (r : Req), s.admits c 0x0C02 = some (s1, r) → r.unit < 80 → s1.ramping r.unit = false → ∃ (t : State) (x : SrcChange), exec (.camEngage c) s = .next t ∧ (t.mo r.unit).chgs = (s1.mo r.unit).chgs ++ [x] ∧ x.src = 3 ∧
    x.table = r.P 0 ∧ x.abs = r.bit 1 0 ∧ x.sched = r.bit 1 1 ∧ x.msel = nbits (r.P 1) 15 8 ∧ x.tag = some r.tag ∧
    t.waits = s1.waits ++ [(⟨r.tag, .source, r.unit⟩ : Wait)] ∧ t.completions = s1.completions) ∧
  (∀ (s s1 : State) (c : Cmd) (r : Req), s.admits c 0x0C03 = some (s1, r) → r.unit < 80 → s1.ramping r.unit = false → (∀ x ∈ (s1.mo r.unit).chgs, x.camSwitch = false) → ∃ (t : State) (x : SrcChange), exec (.camSwitch c) s = .next t ∧
    (t.mo r.unit).chgs = (s1.mo r.unit).chgs ++ [x] ∧ x.camSwitch = true ∧ x.table = r.P 0 ∧ x.sched = true ∧ x.tag = some r.tag ∧
    t.waits = s1.waits ++ [(⟨r.tag, .source, r.unit⟩ : Wait)] ∧ t.completions = s1.completions) ∧
  (∀ (s s1 : State) (c : Cmd) (r : Req), s.admits c 0x0C03 = some (s1, r) → s1.ramping r.unit = true → exec (.camSwitch c) s = .next (s1.finish r.tag .protected_ (s1.rdN (AX_STAT r.unit)))) ∧
  (∀ (s s1 : State) (c : Cmd) (r : Req), s.admits c 0x1000 = some (s1, r) → let t := s1.imagePut (imageItems (imageOf 0x1000 r.unit false)) r.data; s1.imageTaken (imageItems (imageOf 0x1000 r.unit false)) r.data = true → r.bit 0 0 = true → r.unit < 64 → ∃ u : State, exec (.loopParam c) s = .next u ∧
    (u.loop r.unit).cap = (loopWords r.unit).map t.rd ∧ (u.loop r.unit).capAt = some t.tick ∧ u.act = t.act ∧
    u.waits = t.waits ++ [(⟨r.tag, .apply, r.unit⟩ : Wait)]) ∧
  (∀ (s s1 : State) (c : Cmd) (r : Req), s.admits c 0x1000 = some (s1, r) → let t := s1.imagePut (imageItems (imageOf 0x1000 r.unit false)) r.data; s1.imageTaken (imageItems (imageOf 0x1000 r.unit false)) r.data = true → r.bit 0 0 = false → exec (.loopParam c) s = .next (t.finish r.tag .ok)) ∧
  (∀ (s s1 : State) (c : Cmd) (r : Req), s.admits c 0x1002 = some (s1, r) → let a := r.unit; let t := s1.imagePut (imageItems (spanOf (BANK_SHA a (1 - s1.bankOf a) - 0x24) 17)) r.data; s1.imageTaken (imageItems (spanOf (BANK_SHA a (1 - s1.bankOf a) - 0x24) 17)) r.data = true → r.bit 0 0 = false → exec (.cleBank c) s = .next (t.finish r.tag .ok)) ∧
  (∀ (s s1 : State) (c : Cmd) (r : Req), s.admits c 0x1002 = some (s1, r) → let a := r.unit; let t := s1.imagePut (imageItems (spanOf (BANK_SHA a (1 - s1.bankOf a) - 0x24) 17)) r.data; s1.imageTaken (imageItems (spanOf (BANK_SHA a (1 - s1.bankOf a) - 0x24) 17)) r.data = true → r.bit 0 0 = true → s1.tokenHolds CTOK_CLE a = none → a < 32 →
    (t.cle a).swapAt = none → ∃ u : State, exec (.cleBank c) s = .next u ∧ (u.cle a).swapAt = some t.tick ∧ u.waits = t.waits ++ [(⟨r.tag, .bankSwap, a⟩ : Wait)] ∧ u.mem = t.mem) ∧
  (∀ (s s1 : State) (c : Cmd) (r : Req) (k : Nat), s.admits c 0x1002 = some (s1, r) → r.bit 0 0 = true → s1.tokenHolds CTOK_CLE r.unit = some k → exec (.cleBank c) s = .next (s1.finish r.tag .busy)) ∧
  (∀ (s s1 : State) (c : Cmd) (r : Req), s.admits c 0x1004 = some (s1, r) → s.canonical = true → (∀ n < 64, s1.aflag (AXL_RCFG n) AXL_RCFG_REN = true →
    overlaps (r.P 0, r.P 1) (s1.aget (AXL_RCFG n) AXL_RCFG_BASE, 2 ^ s1.aget (AXL_RCFG n) AXL_RCFG_SZ) = false) → ∃ t : State, exec (.tableLoad c) s = .next t ∧
    (∀ i < r.P 1, t.bin (r.P 0 + i) = bS r.data (4 * i) 4) ∧ (∀ j, (j < r.P 0 ∨ r.P 0 + r.P 1 ≤ j) → t.bin j = s1.bin j) ∧ t.regs = s1.regs) ∧
  (∀ (s s1 : State) (c : Cmd) (r : Req) (n : Nat), s.admits c 0x1004 = some (s1, r) → n < 64 → s1.aflag (AXL_RCFG n) AXL_RCFG_REN = true →
    overlaps (r.P 0, r.P 1) (s1.aget (AXL_RCFG n) AXL_RCFG_BASE, 2 ^ s1.aget (AXL_RCFG n) AXL_RCFG_SZ) = true → exec (.tableLoad c) s = .next (s1.finish r.tag .tableBusy)) ∧
  (∀ (s s1 : State) (c : Cmd) (r : Req), s.admits c 0x1005 = some (s1, r) →
    exec (.tableRead c) s = .next (s1.finish r.tag .ok 0 0 0 ((List.range (r.P 1)).flatMap fun i => leBytes 4 (wmGet s1.mem.pool (r.P 0 + i)).toNat))) ∧
  (∀ (s s1 : State) (c : Cmd) (r : Req), s.admits c 0x1006 = some (s1, r) → s1.flag (LPINJ_STAT r.unit) LPINJ_STAT_RUNNING = false → let t := s1.imagePut (imageItems (imageOf 0x1006 r.unit false)) r.data; s1.imageTaken (imageItems (imageOf 0x1006 r.unit false)) r.data = true → r.bit 0 0 = true →
    (t.injStart r.unit).flag (LPINJ_STAT r.unit) LPINJ_STAT_RUNNING = true → exec (.inject c) s = .next ((t.injStart r.unit).await r.tag .injection r.unit)) ∧
  (∀ (s s1 : State) (c : Cmd) (r : Req), s.admits c 0x1006 = some (s1, r) → s1.flag (LPINJ_STAT r.unit) LPINJ_STAT_RUNNING = false → let t := s1.imagePut (imageItems (imageOf 0x1006 r.unit false)) r.data; s1.imageTaken (imageItems (imageOf 0x1006 r.unit false)) r.data = true → r.bit 0 0 = false → exec (.inject c) s = .next (t.finish r.tag .ok)) ∧
  (∀ (s s1 : State) (c : Cmd) (r : Req), s.admits c 0x1006 = some (s1, r) → s1.flag (LPINJ_STAT r.unit) LPINJ_STAT_RUNNING = true → exec (.inject c) s = .next (s1.finish r.tag .busy))

/-- The commands of the classes FEEDBACK, LATCH, NET, CAN, IO, SAFE, ACQ, LOG and TWIN answer the next state of their own effect, or their refusal. (05_latch_compare_register.md R153, 05_latch_compare_register.md R164, 11_ramaux.md R358, 12_twin_and_changeover.md R388, 12_twin_and_changeover.md R393, 17_command_reference.md R515, 17_command_reference.md R516, 17_command_reference.md R517, 17_command_reference.md R518, 19_acquisition_hayloft.md R552, 20_stud_book.md R577, 20_stud_book.md R579). -/
def Obligations.DeviceClassCommandsComplete : Prop :=
  (∀ (s s1 : State) (c : Cmd) (r : Req), s.admits c 0x1401 = some (s1, r) → r.unit < 16 → r.P 0 % 32 = 1 → s.canonical = true → ∃ t : State, exec (.portCmd c) s = .next t ∧ (t.port r.unit).load = true ∧ t.rd64N (EP_PRESET r.unit) = r.P64 1 ∧
    t.waits = s1.waits ++ [(⟨r.tag, .portLoad, r.unit⟩ : Wait)] ∧ t.completions = s1.completions) ∧
  (∀ (s s1 : State) (c : Cmd) (r : Req), s.admits c 0x1401 = some (s1, r) → r.P 0 % 32 = 0 → exec (.portCmd c) s = .next (s1.finish r.tag .ok)) ∧
  (∀ (s s1 : State) (c : Cmd) (r : Req), s.admits c 0x1801 = some (s1, r) → (s1.latch r.unit).fifo = [] → exec (.latchRead c) s = .next (s1.finish r.tag .ok)) ∧
  (∀ (s s1 : State) (c : Cmd) (r : Req), s.admits c 0x1801 = some (s1, r) → (s1.latch r.unit).fifo ≠ [] → r.P 0 = 1 → exec (.latchRead c) s = .next ((s1.latchPop r.unit).finish r.tag .ok 1 0 0
    (leBytes 8 (s1.rd64N (LI_ESTAMP r.unit)) ++ leBytes 8 (s1.rd64N (LI_EPOS r.unit)) ++ leBytes 4 (s1.rdN (LI_EFLAG r.unit)) ++ leBytes 4 0))) ∧
  (∀ (s s1 : State) (c : Cmd) (r : Req), s.admits c 0x1802 = some (s1, r) → s.canonical = true → (∀ i < r.P 1, bU r.data (16 * i + 11) 1 < 32 ∧ bU r.data (16 * i + 12) 4 = 0) → ∃ t : State, exec (.compareLoad c) s = .next t ∧
    (∀ i < 4 * r.P 1, wmGet t.mem.cmpRam (4 * r.P 0 + i) = BitVec.ofNat 32 (bU r.data (4 * i) 4)) ∧
    ∀ j, (j < 4 * r.P 0 ∨ 4 * r.P 0 + 4 * r.P 1 ≤ j) → wmGet t.mem.cmpRam j = wmGet s1.mem.cmpRam j) ∧
  (∀ (s s1 : State) (c : Cmd) (r : Req), s.admits c 0x1803 = some (s1, r) → r.P 0 % 4 = 0 → exec (.compareArm c) s = .next (((s1.regStore (CO_LIST r.unit) (r.P 1)).regStore (CO_CYCOFS r.unit) (r.P64 2)).finish r.tag .ok)) ∧
  (∀ (s s1 : State) (c : Cmd) (r : Req), s.admits c 0x1803 = some (s1, r) → r.P 0 % 4 = 1 →
    exec (.compareArm c) s = .next ((((s1.regStore (CO_LIST r.unit) (r.P 1)).regStore (CO_CYCOFS r.unit) (r.P64 2)).coArm r.unit (nbits (r.P 0) 27 16)).finish r.tag .ok)) ∧
  (∀ (s s1 : State) (c : Cmd) (r : Req), s.admits c 0x1806 = some (s1, r) → s.canonical = true → r.unit < 8 → nbit (s1.rdN SYS_HAMODE) 3 = true → s1.ramping (s1.get (RC_CFG r.unit) RC_CFG_FAX) = false →
    -(s1.rd64I (RC_LIMIT r.unit)) ≤ r.S64 0 → r.S64 0 ≤ s1.rd64I (RC_LIMIT r.unit) → ∃ t : State, exec (.regTarget c) s = .next t ∧ t.rd64I (RC_TGT r.unit) = r.S64 0 ∧ t.rd64N (RC_HTGT r.unit) = r.P64 0 ∧
    (t.rc r.unit).tgts.head? = some (s1.tick + 32, r.S64 0)) ∧
  (∀ (s s1 : State) (c : Cmd) (r : Req), s.admits c 0x1806 = some (s1, r) → nbit (s1.rdN SYS_HAMODE) 3 = false → exec (.regTarget c) s = .next (s1.finish r.tag .hamode (s1.rdN SYS_HAMODE))) ∧
  (∀ (s s1 : State) (c : Cmd) (r : Req), s.admits c 0x1C01 = some (s1, r) → ∃ t : State, exec (.ptpConfig c) s = .next t ∧ t.nw.ptp.kp = wrapS 32 (r.P 0) ∧ t.nw.ptp.ki = wrapS 32 (r.P 1) ∧ t.nw.ptp.kpSh = r.P 2 % 64 ∧ t.nw.ptp.kiSh = nbits (r.P 2) 11 6 ∧
    t.nw.ptp.logSync = wrapS 32 (r.P 3) ∧ t.nw.ptp.mech = r.P 4 ∧ t.nw.ptp.thr = r.P 5 ∧ t.regs = s1.regs ∧ t.time = s1.time) ∧
  (∀ (s s1 : State) (c : Cmd) (r : Req), s.admits c 0x1C02 = some (s1, r) → s1.ptpHost = true → r.S64 1 = 0 → exec (.ptpCorrect c) s = .next (((s1.modPtp fun p => { p with corrAt := s1.tick }).ntTrim (wrapS 32 (r.P 0))).finish r.tag .ok)) ∧
  (∀ (s s1 : State) (c : Cmd) (r : Req), s.admits c 0x1C02 = some (s1, r) → s1.ptpHost = false → exec (.ptpCorrect c) s = .next (s1.finish r.tag .hamode (s1.rdN SYS_HAMODE))) ∧
  (∀ (s s1 : State) (c : Cmd) (r : Req) (t : State), s.admits c 0x1C03 = some (s1, r) → s1.tableSteps (!r.bit 0 0) (r.P 2) (r.P 1) 0 r.data = .ok t → exec (.ramauxTable c) s = .next (t.finish r.tag .ok)) ∧
  (∀ (s s1 : State) (c : Cmd) (r : Req) (o : Nat), s.admits c 0x1C03 = some (s1, r) → s1.tableSteps (!r.bit 0 0) (r.P 2) (r.P 1) 0 r.data = .error o → exec (.ramauxTable c) s = .next (s1.finish r.tag .badParam (2 ^ 31 + o))) ∧
  (∀ (s s1 : State) (c : Cmd) (r : Req), s.admits c 0x1C04 = some (s1, r) → s.canonical = true → r.P 0 ≠ 0 → r.P 0 < 65536 → r.P 0 ≠ s1.epoch → s1.time.frameNum + 3 ≤ r.P64 1 → s1.rm.change = none → s1.flag RM_NEXT RM_NEXT_PEND = false →
    ∃ t : State, exec (.epochArm c) s = .next t ∧ t.flag RM_NEXT RM_NEXT_PEND = true ∧ t.rm.armed = some (r.P 0, r.P64 1) ∧ t.waits = s1.waits ++ [(⟨r.tag, .epoch, 0⟩ : Wait)] ∧ t.completions = s1.completions) ∧
  (∀ (s s1 : State) (c : Cmd) (r : Req), s.admits c 0x1C04 = some (s1, r) → s1.flag RM_NEXT RM_NEXT_PEND = true → exec (.epochArm c) s = .next ((s1.setf RM_NEXT RM_NEXT_EPREFUSED).finish r.tag .epochRefused)) ∧
  (∀ (s s1 : State) (c : Cmd) (r : Req), s.admits c 0x2001 = some (s1, r) → let k := r.P 0 % 64; nbit (s1.rd64N (CAN_BDIR r.unit)) k = true → s1.canPending r.unit k = false →
    s1.imageTaken (imageItems (spanOf (CANBUF_W0 r.unit k) 24)) r.data = true → let t := s1.imagePut (imageItems (spanOf (CANBUF_W0 r.unit k) 24)) r.data;
    exec (.canSend c) s = .next (if r.bit 0 8 then (t.canTxgo r.unit (2 ^ k)).await r.tag .canTx (64 * r.unit + k) else (t.canTxgo r.unit (2 ^ k)).finish r.tag .ok)) ∧
  (∀ (s s1 : State) (c : Cmd) (r : Req), s.admits c 0x2001 = some (s1, r) → nbit (s1.rd64N (CAN_BDIR r.unit)) (r.P 0 % 64) = true → s1.canPending r.unit (r.P 0 % 64) = true → exec (.canSend c) s = .next (s1.finish r.tag .busy)) ∧
  (∀ (s s1 : State) (c : Cmd) (r : Req), s.admits c 0x2002 = some (s1, r) → r.P 0 = 0 → let t := s1.freshClear r.unit (r.P 1);
    exec (.canRead c) s = .next (t.finish r.tag .ok 1 0 0 ((spanOf (CANBUF_W0 r.unit (r.P 1)) 24).flatMap fun x => leBytes 4 (t.rdN x)))) ∧
  (∀ (s s1 : State) (c : Cmd) (r : Req), s.admits c 0x2002 = some (s1, r) → r.P 0 ≠ 0 → s1.get (canFifo r.unit (r.P 0 - 1)) CAN_FIFO0_LEVEL = 0 → exec (.canRead c) s = .next (s1.finish r.tag .ok)) ∧
  (∀ (s s1 : State) (c : Cmd) (r : Req), s.admits c 0x2003 = some (s1, r) → r.unit < 4 → s1.canBusOff r.unit = true → ∃ t : State, exec (.canRecover c) s = .next t ∧ (t.can r.unit).recov = true ∧ t.regs = s1.regs) ∧
  (∀ (s s1 : State) (c : Cmd) (r : Req), s.admits c 0x2003 = some (s1, r) → s1.canBusOff r.unit = false → exec (.canRecover c) s = .next (s1.finish r.tag .ok)) ∧
  (∀ (s s1 : State) (c : Cmd) (r : Req), s.admits c 0x2401 = some (s1, r) → s.canonical = true → ∃ t : State, exec (.ioWrite c) s = .next t ∧ t.rd DIOG_OUT = ((s1.rd DIOG_OUT ||| BitVec.ofNat 32 (r.P 0)) &&& ~~~BitVec.ofNat 32 (r.P 1)) ∧
    ∀ a, a ≠ DIOG_OUT → t.rd a = s1.rd a) ∧
  (∀ (s s1 : State) (c : Cmd) (r : Req), s.admits c 0x2402 = some (s1, r) → exec (.ioRead c) s = .next (s1.finish r.tag .ok (s1.rdN DIOG_IN) (s1.rdN DIOG_VALID) 0
    (((List.range 8).flatMap fun i => leBytes 4 (s1.reading (AI_VAL i))) ++ (List.range 8).flatMap fun i => leBytes 4 (s1.reading (AI_STAT i))))) ∧
  (∀ (s s1 : State) (c : Cmd) (r : Req), s.admits c 0x2403 = some (s1, r) → s1.fgState r.unit = 0 → exec (.groupRearm c) s = .next ((s1.clrf (FG_STAT r.unit) FG_STAT_HOLD).finish r.tag .ok)) ∧
  (∀ (s s1 : State) (c : Cmd) (r : Req), s.admits c 0x2403 = some (s1, r) → s1.fgState r.unit ≠ 0 → let t := s1.setf (FG_STAT r.unit) FG_STAT_REARM_REFUSED; exec (.groupRearm c) s = .next (t.finish r.tag .clearRefused (t.rdN (FG_STAT r.unit)))) ∧
  (∀ (s s1 : State) (c : Cmd) (r : Req), s.admits c 0x2800 = some (s1, r) → let x := s1.readWords SF_STAT 192; exec (.safeStatus c) s = .next (x.2.finish r.tag .ok (bU x.1 0 4) 0 0 x.1)) ∧
  (∀ (s s1 : State) (c : Cmd) (r : Req), s.admits c 0x2C01 = some (s1, r) → s1.armCause r.unit = 0 → let t := (s1.cuArm r.unit).2; exec (.captureArm c) s = .next (if r.bit 0 0 then t.await r.tag .captureTrigger r.unit else t.finish r.tag .ok)) ∧
  (∀ (s s1 : State) (c : Cmd) (r : Req), s.admits c 0x2C01 = some (s1, r) → s1.armCause r.unit = 2 → exec (.captureArm c) s = .next ((((s1.setf (CU_STAT r.unit) CU_STAT_ARMREF).put (CU_STAT r.unit) CU_STAT_ARMCAUSE 2)).finish r.tag .busy)) ∧
  (∀ (s s1 : State) (c : Cmd) (r : Req), s.admits c 0x2C02 = some (s1, r) → r.P64 0 + r.P 2 ≤ s1.cuDepth r.unit * s1.cuSegs r.unit → exec (.captureRead c) s = .next (s1.finish r.tag .ok 0 0 0 ((List.range (r.P 2)).flatMap fun i =>
    (List.range (s1.rowWords r.unit)).flatMap fun j => leBytes 4 (s1.capWord r.unit
      (s1.rowAt r.unit ((r.P64 0 + i) / max 1 (s1.cuDepth r.unit)) ((r.P64 0 + i) % max 1 (s1.cuDepth r.unit)) + j)).toNat))) ∧
  (∀ (s s1 : State) (c : Cmd) (r : Req), s.admits c 0x2C02 = some (s1, r) → s1.cuDepth r.unit * s1.cuSegs r.unit < r.P64 0 → exec (.captureRead c) s = .next (s1.bad r 24)) ∧
  (∀ (s s1 : State) (c : Cmd) (r : Req), s.admits c 0x3000 = some (s1, r) → r.bit 2 0 = false → let x := s1.logRead (r.P64 0) (s1.roomOf r.tag) false; exec (.logRead c) s = .next (s1.finish r.tag .ok (x.2 % 2 ^ 32) (x.2 / 2 ^ 32) 0 x.1)) ∧
  (∀ (s s1 : State) (c : Cmd) (r : Req), s.admits c 0x3000 = some (s1, r) → r.bit 2 0 = true → nbit (s1.rdN SYS_HAMODE) 5 = false → exec (.logRead c) s = .next (s1.finish r.tag .hamode (s1.rdN SYS_HAMODE))) ∧
  (∀ (s s1 : State) (c : Cmd) (r : Req), s.admits c 0x3001 = some (s1, r) → s.canonical = true → r.bit 0 0 = true → s1.frozen = false → s1.log.appAt ≠ s1.tick → ∃ t : State, exec (.logFreeze c) s = .next t ∧ t.log.frozen = some s1.tick ∧ t.flag LOG_STAT LOG_STAT_FROZEN = true ∧
    t.get LOG_LOST LOG_LOST_FRZ = 0 ∧ t.log.buffer = s1.log.buffer ∧ t.log.store = s1.log.store) ∧
  (∀ (s s1 : State) (c : Cmd) (r : Req), s.admits c 0x3001 = some (s1, r) → s.canonical = true → r.bit 0 0 = false → s1.frozen = true → s1.get LOG_LOST LOG_LOST_FRZ = 0 → ∃ t : State, exec (.logFreeze c) s = .next t ∧ t.frozen = false ∧
    t.log.buffer = s1.log.buffer ++ s1.log.staging ∧ t.log.staging = [] ∧ t.log.store = s1.log.store) ∧
  (∀ (s s1 : State) (c : Cmd) (r : Req), s.admits c 0x3002 = some (s1, r) → s1.frozen = true → exec (.logClear c) s = .next (s1.finish r.tag .busy)) ∧
  (∀ (s s1 : State) (c : Cmd) (r : Req), s.admits c 0x3002 = some (s1, r) → s1.frozen = false → exec (.logClear c) s = .next ((s1.logClear r.data).2.finish r.tag (s1.logClear r.data).1
    (if (s1.logClear r.data).1 = .badParam then 2 ^ 31 + s1.clearBad r.data else 0))) ∧
  (∀ (s s1 : State) (c : Cmd) (r : Req), s.admits c 0x3801 = some (s1, r) → r.bit 0 0 = true → ∃ t : State, exec (.twinStart c) s = .next t ∧ t.tw.named = 1 ∧ t.regs = s1.regs) ∧
  (∀ (s s1 : State) (c : Cmd) (r : Req), s.admits c 0x3801 = some (s1, r) → r.bit 0 0 = false → exec (.twinStart c) s = .next (((s1.modTw fun t => { t with named := 2 }).setRole 2 0).finish r.tag .ok)) ∧
  (∀ (s s1 : State) (c : Cmd) (r : Req), s.admits c 0x3802 = some (s1, r) → s1.isActive = false → exec (.join c) s = .next (s1.finish r.tag .ok)) ∧
  (∀ (s s1 : State) (c : Cmd) (r : Req), s.admits c 0x3802 = some (s1, r) → s1.isActive = true → exec (.join c) s = .next (s1.freeWord.2.finish r.tag .ok s1.freeWord.1.toNat)) ∧
  (∀ (s s1 : State) (c : Cmd) (r : Req), s.admits c 0x3803 = some (s1, r) → s.canonical = true → s1.flag TW_HO TW_HO_PEND = false → s1.flag TW_STAT TW_STAT_PEER_READY = true → s1.time.frameNum + 2 ≤ r.P64 0 → ∃ t : State, exec (.handover c) s = .next t ∧
    t.flag TW_HO TW_HO_PEND = true ∧ t.rd64N TW_HOFRAME = r.P64 0 ∧ t.waits = s1.waits ++ [(⟨r.tag, .hoframe, 0⟩ : Wait)] ∧ t.completions = s1.completions) ∧
  (∀ (s s1 : State) (c : Cmd) (r : Req), s.admits c 0x3803 = some (s1, r) → s1.flag TW_HO TW_HO_PEND = true → exec (.handover c) s = .next ((s1.setf TW_HO TW_HO_HOREF).finish r.tag .horef))
end

