-- ==== Sys2Proof/Laws/Sparse.lean ====
section
/-! SUPPORT. The laws of a memory held as a canonical list: what a read gives after a write, and that every memory operation
keeps the canonical form. -/

namespace Sys2Proof.Machine

variable {β : Type} [DecidableEq β] {d : Nat → β}

/-- A list that starts at `hi` starts at every lower address. -/
theorem spWfFrom_le {lo hi : Nat} (h : lo ≤ hi) {l : List (Nat × β)} (hw : spWfFrom d hi l = true) : spWfFrom d lo l = true := by
  cases l with
  | nil => rfl
  | cons p rest =>
    obtain ⟨k, v⟩ := p
    simp only [spWfFrom, Bool.and_eq_true, decide_eq_true_eq] at hw ⊢
    exact ⟨⟨Nat.le_trans h hw.1.1, hw.1.2⟩, hw.2⟩

/-- A write keeps the canonical form. -/
theorem spSet_wfFrom {l : List (Nat × β)} : ∀ {lo a : Nat} {v : β}, spWfFrom d lo l = true → lo ≤ a →
    spWfFrom d lo (spSet d l a v) = true := by
  induction l with
  | nil =>
    intro lo a v _ hle
    unfold spSet
    split
    · rfl
    · rename_i hv
      simp [spWfFrom, hle, hv]
  | cons p rest ih =>
    obtain ⟨k, w⟩ := p
    intro lo a v hw hle
    simp only [spWfFrom, Bool.and_eq_true, decide_eq_true_eq] at hw
    unfold spSet
    split
    · rename_i hak
      subst hak
      split
      · exact spWfFrom_le (Nat.le_succ_of_le hle) hw.2
      · rename_i hv
        simp [spWfFrom, hle, hv, hw.2]
    · split
      · rename_i hak hlt
        split
        · simpa [spWfFrom] using hw
        · rename_i hv
          have h2 : a + 1 ≤ k := hlt
          simp only [spWfFrom, Bool.and_eq_true, decide_eq_true_eq, Bool.not_eq_true', decide_eq_false_iff_not]
          exact ⟨⟨hle, hv⟩, ⟨h2, by simpa using hw.1.2⟩, hw.2⟩
      · rename_i hne hnl
        have h3 : k + 1 ≤ a := by omega
        simp only [spWfFrom, Bool.and_eq_true, decide_eq_true_eq]
        exact ⟨hw.1, ih hw.2 h3⟩

theorem spSet_wf {l : List (Nat × β)} {a : Nat} {v : β} (h : spWf d l = true) : spWf d (spSet d l a v) = true :=
  spSet_wfFrom h (Nat.zero_le a)

/-- The empty memory is canonical. -/
@[simp] theorem spWf_nil : spWf d ([] : List (Nat × β)) = true := rfl

/-- An address below a list's first address reads as unlisted. -/
theorem spGet_below {l : List (Nat × β)} : ∀ {lo a : Nat}, spWfFrom d lo l = true → a < lo → spGet d l a = d a := by
  cases l with
  | nil => intros; rfl
  | cons p rest =>
    obtain ⟨k, w⟩ := p
    intro lo a hw hlt
    simp only [spWfFrom, Bool.and_eq_true, decide_eq_true_eq] at hw
    have : a < k := Nat.lt_of_lt_of_le hlt hw.1.1
    have hne : a ≠ k := Nat.ne_of_lt this
    simp [spGet, hne, this]

/-- A read after a write: the value at the address written, what was there elsewhere. -/
theorem spGet_spSetFrom {l : List (Nat × β)} : ∀ {lo a b : Nat} {v : β}, spWfFrom d lo l = true →
    spGet d (spSet d l a v) b = if b = a then v else spGet d l b := by
  induction l with
  | nil =>
    intro lo a b v _
    unfold spSet
    split
    · rename_i hv
      by_cases hb : b = a
      · subst hb; simp [spGet, hv]
      · simp [spGet, hb]
    · by_cases hb : b = a
      · simp [spGet, hb]
      · simp [spGet, hb]
  | cons p rest ih =>
    obtain ⟨k, w⟩ := p
    intro lo a b v hw
    simp only [spWfFrom, Bool.and_eq_true, decide_eq_true_eq] at hw
    unfold spSet
    split
    · rename_i hak
      subst hak
      split
      · rename_i hv
        by_cases hb : b = a
        · subst hb
          rw [spGet_below hw.2 (Nat.lt_succ_self b)]
          simp [hv]
        · by_cases hlt : b < a
          · rw [spGet_below hw.2 (Nat.lt_succ_of_lt hlt)]
            simp [spGet, hb, hlt]
          · simp [spGet, hb, hlt]
      · by_cases hb : b = a
        · simp [spGet, hb]
        · simp [spGet, hb]
    · rename_i hak
      split
      · rename_i hlt
        split
        · rename_i hv
          by_cases hb : b = a
          · subst hb
            simp [spGet, hak, hlt, hv]
          · simp [hb]
        · by_cases hb : b = a
          · simp [spGet, hb]
          · by_cases hba : b < a
            · have h1 : b < k := Nat.lt_trans hba hlt
              have h2 : b ≠ k := Nat.ne_of_lt h1
              simp [spGet, hb, hba, h1, h2]
            · simp [spGet, hb, hba]
      · rename_i hnl
        by_cases hbk : b = k
        · subst hbk
          have hba : b ≠ a := fun h => hak h.symm
          simp [spGet, hba]
        · by_cases hlt : b < k
          · have hba : b ≠ a := by omega
            simp [spGet, hbk, hlt, hba]
          · simp only [spGet, hbk, hlt, if_false]
            exact ih hw.2

theorem spGet_spSet {l : List (Nat × β)} {a b : Nat} {v : β} (h : spWf d l = true) :
    spGet d (spSet d l a v) b = if b = a then v else spGet d l b := spGet_spSetFrom h

/-! ### Word and byte memories -/

theorem wmSet_wf {m : WordMem} {i : Nat} {v : Word} (h : wmWf m = true) : wmWf (wmSet m i v) = true := spSet_wf h
theorem memSet_wf {m : ByteMem} {a : Nat} {v : Byte} (h : memWf m = true) : memWf (memSet m a v) = true := spSet_wf h

theorem wmWrite_wf {ws : List Word} : ∀ {m : WordMem} {i : Nat}, wmWf m = true → wmWf (wmWrite m i ws) = true := by
  induction ws with
  | nil => intro m i h; exact h
  | cons w ws ih => intro m i h; exact ih (wmSet_wf h)

theorem memWrite_wf {bs : List Byte} : ∀ {m : ByteMem} {a : Nat}, memWf m = true → memWf (memWrite m a bs) = true := by
  induction bs with
  | nil => intro m a h; exact h
  | cons b bs ih => intro m a h; exact ih (memSet_wf h)

theorem wmPutByte_wf {m : WordMem} {o : Nat} {b : Byte} (h : wmWf m = true) : wmWf (wmPutByte m o b) = true := wmSet_wf h
theorem wmPut_wf {bs : List Byte} : ∀ {m : WordMem} {o : Nat}, wmWf m = true → wmWf (wmPut m o bs) = true := by
  induction bs with
  | nil => intro m o h; exact h
  | cons b bs ih => intro m o h; exact ih (wmPutByte_wf h)

/-- What a word memory reads after a write. -/
theorem wmGet_wmSet {m : WordMem} {i j : Nat} {v : Word} (h : wmWf m = true) :
    wmGet (wmSet m i v) j = if j = i then v else wmGet m j := spGet_spSet h
/-- What a byte memory reads after a write. -/
theorem memGet_memSet {m : ByteMem} {a b : Nat} {v : Byte} (h : memWf m = true) :
    memGet (memSet m a v) b = if b = a then v else memGet m b := spGet_spSet h

/-! ### Registers -/

/-- What a register reads after a register is written. -/
theorem rd_wr {s : State} {a b : Nat} {v : Word} (h : spWf regReset s.regs = true) :
    (s.wr a v).rd b = if b = a then v else s.rd b := spGet_spSet h
/-- What a value in effect is after one is taken over. -/
theorem ard_awr {s : State} {a b : Nat} {v : Word} (h : spWf regReset s.act = true) :
    (s.awr a v).ard b = if b = a then v else s.ard b := spGet_spSet h

end Sys2Proof.Machine
end

