-- ==== Sys2Proof/Laws/Keeps.lean ====
section
/-! SUPPORT. What every operation of the model keeps, as one relation between the state before and the state after: the queue of
waiting commands and the ordering code stay, free values are not used again, registers and memories stay canonical, and the parts
of the state outside a mask stay as they are. -/

namespace Sys2Proof.Machine

/-- A mask holds every bit of another one. -/
theorem sub_trans {c m M : Nat} (h : Nat.land c m = c) (k : Nat.land m M = m) : Nat.land c M = c := by
  have h' : c &&& m = c := h
  have k' : m &&& M = m := k
  show c &&& M = c
  rw [← h', Nat.land_assoc, k']
theorem sub_bit {c M i : Nat} (h : Nat.land c M = c) (hc : c.testBit i = true) : M.testBit i = true := by
  have h' : c &&& M = c := h
  rw [← h', Nat.testBit_land, Bool.and_eq_true] at hc
  exact hc.2
theorem out_bit {c M i : Nat} {P : Prop} (h : Nat.land c M = c) (hc : c.testBit i = true) (hM : M.testBit i = false) : P := by
  rw [sub_bit h hc] at hM
  cases hM

/-- The parts whose bit is not in the mask are the same. -/
def Frame (M : Nat) (s t : State) : Prop := ∀ p : Part, M.testBit p.ctorIdx = false → p.same s t

theorem Part.same_refl {p : Part} {s : State} : p.same s s := by cases p <;> exact rfl
theorem Part.same_trans {p : Part} {s t u : State} (h : p.same s t) (k : p.same t u) : p.same s u := by
  cases p <;> exact Eq.trans k h

/-- From `s` to `t` the queue and the ordering code are the same, the count of used free values does not fall, the canonical
form is kept, and so is every part outside the mask. -/
structure Keeps (M : Nat) (s t : State) : Prop where
  pending : t.pending = s.pending
  variant : t.variantF = s.variantF
  free : s.freeCount ≤ t.freeCount
  canon : s.canonical = true → t.canonical = true
  frame : Frame M s t

/-- The state of a pair, of a triple, of an optional result, of a checked result. -/
def KP {α : Type} (M : Nat) (s0 : State) (p : α × State) : Prop := Keeps M s0 p.2
def KP3 {α β : Type} (M : Nat) (s0 : State) (p : α × β × State) : Prop := Keeps M s0 p.2.2
def KO (M : Nat) (s0 : State) (o : Option State) : Prop := ∀ t, o = some t → Keeps M s0 t
def KOP {α : Type} (M : Nat) (s0 : State) (o : Option (α × State)) : Prop := ∀ p, o = some p → Keeps M s0 p.2
def KE {ε : Type} (M : Nat) (s0 : State) (e : Except ε State) : Prop := ∀ t, e = .ok t → Keeps M s0 t

theorem Keeps.refl {M : Nat} (s : State) : Keeps M s s := ⟨rfl, rfl, Nat.le_refl _, id, fun _ _ => Part.same_refl⟩
theorem Keeps.trans {M : Nat} {s t u : State} (h : Keeps M s t) (k : Keeps M t u) : Keeps M s u :=
  ⟨k.pending.trans h.pending, k.variant.trans h.variant, Nat.le_trans h.free k.free, fun x => k.canon (h.canon x),
    fun p hp => Part.same_trans (h.frame p hp) (k.frame p hp)⟩

theorem full_frame {M : Nat} (hM : Nat.land 144115188075855871 M = 144115188075855871) {s t : State} : Frame M s t := fun p hp => by
  cases p <;> exact out_bit hM rfl hp

theorem canonical_parts {s : State} : s.canonical = true ↔
    (spWf regReset s.regs = true ∧ spWf regReset s.act = true) ∧ Memory.wf s.mem = true := by
  simp only [State.canonical, regsWf, Bool.and_eq_true]


theorem Memory.wf_parts {m : Mems} : Memory.wf m = true ↔ ((((((((wmWf m.cmpRam = true ∧ wmWf m.pool = true) ∧ wmWf m.lpData = true) ∧
    wmWf m.lpCode = true) ∧ wmWf m.user = true) ∧ wmWf m.sram = true) ∧ wmWf m.hay = true) ∧ wmWf m.dram = true) ∧ memWf m.fw = true) := by
  simp only [Memory.wf, Bool.and_eq_true]

/-- Every memory is replaced by a canonical one. -/
theorem Memory.wf_of {m n : Mems} (h1 : wmWf m.cmpRam = true → wmWf n.cmpRam = true) (h2 : wmWf m.pool = true → wmWf n.pool = true)
    (h3 : wmWf m.lpData = true → wmWf n.lpData = true) (h4 : wmWf m.lpCode = true → wmWf n.lpCode = true)
    (h5 : wmWf m.user = true → wmWf n.user = true) (h6 : wmWf m.sram = true → wmWf n.sram = true)
    (h7 : wmWf m.hay = true → wmWf n.hay = true) (h8 : wmWf m.dram = true → wmWf n.dram = true)
    (h9 : memWf m.fw = true → memWf n.fw = true) : Memory.wf m = true → Memory.wf n = true := by
  simp only [Memory.wf_parts]
  rintro ⟨⟨⟨⟨⟨⟨⟨⟨a1, a2⟩, a3⟩, a4⟩, a5⟩, a6⟩, a7⟩, a8⟩, a9⟩
  exact ⟨⟨⟨⟨⟨⟨⟨⟨h1 a1, h2 a2⟩, h3 a3⟩, h4 a4⟩, h5 a5⟩, h6 a6⟩, h7 a7⟩, h8 a8⟩, h9 a9⟩

/-! ### One memory is written -/

theorem Memory.wf_cmpRam {m : Mems} {x : WordMem} (h : wmWf m.cmpRam = true → wmWf x = true) :
    Memory.wf m = true → Memory.wf { m with cmpRam := x } = true := Memory.wf_of h id id id id id id id id
theorem Memory.wf_pool {m : Mems} {x : WordMem} (h : wmWf m.pool = true → wmWf x = true) :
    Memory.wf m = true → Memory.wf { m with pool := x } = true := Memory.wf_of id h id id id id id id id
theorem Memory.wf_lpData {m : Mems} {x : WordMem} (h : wmWf m.lpData = true → wmWf x = true) :
    Memory.wf m = true → Memory.wf { m with lpData := x } = true := Memory.wf_of id id h id id id id id id
theorem Memory.wf_lpCode {m : Mems} {x : WordMem} (h : wmWf m.lpCode = true → wmWf x = true) :
    Memory.wf m = true → Memory.wf { m with lpCode := x } = true := Memory.wf_of id id id h id id id id id
theorem Memory.wf_user {m : Mems} {x : WordMem} (h : wmWf m.user = true → wmWf x = true) :
    Memory.wf m = true → Memory.wf { m with user := x } = true := Memory.wf_of id id id id h id id id id
theorem Memory.wf_sram {m : Mems} {x : WordMem} (h : wmWf m.sram = true → wmWf x = true) :
    Memory.wf m = true → Memory.wf { m with sram := x } = true := Memory.wf_of id id id id id h id id id
theorem Memory.wf_hay {m : Mems} {x : WordMem} (h : wmWf m.hay = true → wmWf x = true) :
    Memory.wf m = true → Memory.wf { m with hay := x } = true := Memory.wf_of id id id id id id h id id
theorem Memory.wf_dram {m : Mems} {x : WordMem} (h : wmWf m.dram = true → wmWf x = true) :
    Memory.wf m = true → Memory.wf { m with dram := x } = true := Memory.wf_of id id id id id id id h id
theorem Memory.wf_fw {m : Mems} {x : ByteMem} (h : memWf m.fw = true → memWf x = true) :
    Memory.wf m = true → Memory.wf { m with fw := x } = true := Memory.wf_of id id id id id id id id h


/-! ### Record updates, one lemma for each set of parts -/

theorem Keeps.up_acq {M : Nat} (hM : Nat.land 9007199254740992 M = 9007199254740992) {s0 s : State} {x_acq : AcqSt} (h : Keeps M s0 s) :
    Keeps M s0 { s with acq := x_acq } :=
  h.trans ⟨rfl, rfl, Nat.le_refl _, id, fun p hp => by cases p <;> first | exact rfl | exact out_bit hM rfl hp⟩
theorem Keeps.up_agents {M : Nat} (hM : Nat.land 2199023255552 M = 2199023255552) {s0 s : State} {x_agents : Vector AgentSt 29} (h : Keeps M s0 s) :
    Keeps M s0 { s with agents := x_agents } :=
  h.trans ⟨rfl, rfl, Nat.le_refl _, id, fun p hp => by cases p <;> first | exact rfl | exact out_bit hM rfl hp⟩
theorem Keeps.up_assign {M : Nat} (hM : Nat.land 2147483648 M = 2147483648) {s0 s : State} {x_assign : Vector Nat 80} (h : Keeps M s0 s) :
    Keeps M s0 { s with assign := x_assign } :=
  h.trans ⟨rfl, rfl, Nat.le_refl _, id, fun p hp => by cases p <;> first | exact rfl | exact out_bit hM rfl hp⟩
theorem Keeps.up_atcs {M : Nat} (hM : Nat.land 34359738368 M = 34359738368) {s0 s : State} {x_atcs : Vector AtcSt 16} (h : Keeps M s0 s) :
    Keeps M s0 { s with atcs := x_atcs } :=
  h.trans ⟨rfl, rfl, Nat.le_refl _, id, fun p hp => by cases p <;> first | exact rfl | exact out_bit hM rfl hp⟩
theorem Keeps.up_cams {M : Nat} (hM : Nat.land 16777216 M = 16777216) {s0 s : State} {x_cams : List Cam} (h : Keeps M s0 s) :
    Keeps M s0 { s with cams := x_cams } :=
  h.trans ⟨rfl, rfl, Nat.le_refl _, id, fun p hp => by cases p <;> first | exact rfl | exact out_bit hM rfl hp⟩
theorem Keeps.up_cans {M : Nat} (hM : Nat.land 4503599627370496 M = 4503599627370496) {s0 s : State} {x_cans : Vector CanSt 4} (h : Keeps M s0 s) :
    Keeps M s0 { s with cans := x_cans } :=
  h.trans ⟨rfl, rfl, Nat.le_refl _, id, fun p hp => by cases p <;> first | exact rfl | exact out_bit hM rfl hp⟩
theorem Keeps.up_cles {M : Nat} (hM : Nat.land 137438953472 M = 137438953472) {s0 s : State} {x_cles : Vector CleSt 32} (h : Keeps M s0 s) :
    Keeps M s0 { s with cles := x_cles } :=
  h.trans ⟨rfl, rfl, Nat.le_refl _, id, fun p hp => by cases p <;> first | exact rfl | exact out_bit hM rfl hp⟩
theorem Keeps.up_compares {M : Nat} (hM : Nat.land 262144 M = 262144) {s0 s : State} {x_compares : Vector CompareSt 16} (h : Keeps M s0 s) :
    Keeps M s0 { s with compares := x_compares } :=
  h.trans ⟨rfl, rfl, Nat.le_refl _, id, fun p hp => by cases p <;> first | exact rfl | exact out_bit hM rfl hp⟩
theorem Keeps.up_completions {M : Nat} (hM : Nat.land 134217728 M = 134217728) {s0 s : State} {x_completions : List Completion} (h : Keeps M s0 s) :
    Keeps M s0 { s with completions := x_completions } :=
  h.trans ⟨rfl, rfl, Nat.le_refl _, id, fun p hp => by cases p <;> first | exact rfl | exact out_bit hM rfl hp⟩
theorem Keeps.up_events {M : Nat} (hM : Nat.land 2048 M = 2048) {s0 s : State} {x_events : List Event} (h : Keeps M s0 s) :
    Keeps M s0 { s with events := x_events } :=
  h.trans ⟨rfl, rfl, Nat.le_refl _, id, fun p hp => by cases p <;> first | exact rfl | exact out_bit hM rfl hp⟩
theorem Keeps.up_freeCount {M : Nat} (_hM : Nat.land 0 M = 0) {s0 s : State} {k : Nat} (h : Keeps M s0 s) (hk : s.freeCount ≤ k) :
    Keeps M s0 { s with freeCount := k } :=
  h.trans ⟨rfl, rfl, hk, id, fun p _ => by cases p <;> exact rfl⟩
theorem Keeps.up_grids {M : Nat} (hM : Nat.land 16384 M = 16384) {s0 s : State} {x_grids : Vector GridSt 80} (h : Keeps M s0 s) :
    Keeps M s0 { s with grids := x_grids } :=
  h.trans ⟨rfl, rfl, Nat.le_refl _, id, fun p hp => by cases p <;> first | exact rfl | exact out_bit hM rfl hp⟩
theorem Keeps.up_groom {M : Nat} (hM : Nat.land 549755813888 M = 549755813888) {s0 s : State} {x_groom : GroomSt} (h : Keeps M s0 s) :
    Keeps M s0 { s with groom := x_groom } :=
  h.trans ⟨rfl, rfl, Nat.le_refl _, id, fun p hp => by cases p <;> first | exact rfl | exact out_bit hM rfl hp⟩
theorem Keeps.up_groom_stalls_agents_lockPtr {M : Nat} (hM : Nat.land 21440476741632 M = 21440476741632) {s0 s : State} {x_groom : GroomSt} {x_stalls : List (Nat × StallSt)} {x_agents : Vector AgentSt 29} {x_lockPtr : Vector Nat 2} (h : Keeps M s0 s) :
    Keeps M s0 { s with groom := x_groom, stalls := x_stalls, agents := x_agents, lockPtr := x_lockPtr } :=
  h.trans ⟨rfl, rfl, Nat.le_refl _, id, fun p hp => by cases p <;> first | exact rfl | exact out_bit hM rfl hp⟩
theorem Keeps.up_host {M : Nat} (hM : Nat.land 36028797018963968 M = 36028797018963968) {s0 s : State} {x_host : HostSt} (h : Keeps M s0 s) :
    Keeps M s0 { s with host := x_host } :=
  h.trans ⟨rfl, rfl, Nat.le_refl _, id, fun p hp => by cases p <;> first | exact rfl | exact out_bit hM rfl hp⟩
theorem Keeps.up_inflight {M : Nat} (hM : Nat.land 33554432 M = 33554432) {s0 s : State} {x_inflight : List Inflight} (h : Keeps M s0 s) :
    Keeps M s0 { s with inflight := x_inflight } :=
  h.trans ⟨rfl, rfl, Nat.le_refl _, id, fun p hp => by cases p <;> first | exact rfl | exact out_bit hM rfl hp⟩
theorem Keeps.up_inflight_completions {M : Nat} (hM : Nat.land 167772160 M = 167772160) {s0 s : State} {x_inflight : List Inflight} {x_completions : List Completion} (h : Keeps M s0 s) :
    Keeps M s0 { s with inflight := x_inflight, completions := x_completions } :=
  h.trans ⟨rfl, rfl, Nat.le_refl _, id, fun p hp => by cases p <;> first | exact rfl | exact out_bit hM rfl hp⟩
theorem Keeps.up_inflight_waits_completions {M : Nat} (hM : Nat.land 234881024 M = 234881024) {s0 s : State} {x_inflight : List Inflight} {x_waits : List Wait} {x_completions : List Completion} (h : Keeps M s0 s) :
    Keeps M s0 { s with inflight := x_inflight, waits := x_waits, completions := x_completions } :=
  h.trans ⟨rfl, rfl, Nat.le_refl _, id, fun p hp => by cases p <;> first | exact rfl | exact out_bit hM rfl hp⟩
theorem Keeps.up_injs {M : Nat} (hM : Nat.land 1073741824 M = 1073741824) {s0 s : State} {x_injs : Vector InjSt 16} (h : Keeps M s0 s) :
    Keeps M s0 { s with injs := x_injs } :=
  h.trans ⟨rfl, rfl, Nat.le_refl _, id, fun p hp => by cases p <;> first | exact rfl | exact out_bit hM rfl hp⟩
theorem Keeps.up_io {M : Nat} (hM : Nat.land 2251799813685248 M = 2251799813685248) {s0 s : State} {x_io : IoSt} (h : Keeps M s0 s) :
    Keeps M s0 { s with io := x_io } :=
  h.trans ⟨rfl, rfl, Nat.le_refl _, id, fun p hp => by cases p <;> first | exact rfl | exact out_bit hM rfl hp⟩
theorem Keeps.up_latches {M : Nat} (hM : Nat.land 131072 M = 131072) {s0 s : State} {x_latches : Vector LatchSt 32} (h : Keeps M s0 s) :
    Keeps M s0 { s with latches := x_latches } :=
  h.trans ⟨rfl, rfl, Nat.le_refl _, id, fun p hp => by cases p <;> first | exact rfl | exact out_bit hM rfl hp⟩
theorem Keeps.up_locks {M : Nat} (hM : Nat.land 8796093022208 M = 8796093022208) {s0 s : State} {x_locks : Vector (Option Nat) 64} (h : Keeps M s0 s) :
    Keeps M s0 { s with locks := x_locks } :=
  h.trans ⟨rfl, rfl, Nat.le_refl _, id, fun p hp => by cases p <;> first | exact rfl | exact out_bit hM rfl hp⟩
theorem Keeps.up_locks_lockPtr {M : Nat} (hM : Nat.land 26388279066624 M = 26388279066624) {s0 s : State} {x_locks : Vector (Option Nat) 64} {x_lockPtr : Vector Nat 2} (h : Keeps M s0 s) :
    Keeps M s0 { s with locks := x_locks, lockPtr := x_lockPtr } :=
  h.trans ⟨rfl, rfl, Nat.le_refl _, id, fun p hp => by cases p <;> first | exact rfl | exact out_bit hM rfl hp⟩
theorem Keeps.up_log {M : Nat} (hM : Nat.land 18014398509481984 M = 18014398509481984) {s0 s : State} {x_log : LogSt} (h : Keeps M s0 s) :
    Keeps M s0 { s with log := x_log } :=
  h.trans ⟨rfl, rfl, Nat.le_refl _, id, fun p hp => by cases p <;> first | exact rfl | exact out_bit hM rfl hp⟩
theorem Keeps.up_loops {M : Nat} (hM : Nat.land 536870912 M = 536870912) {s0 s : State} {x_loops : Vector AxLoop 80} (h : Keeps M s0 s) :
    Keeps M s0 { s with loops := x_loops } :=
  h.trans ⟨rfl, rfl, Nat.le_refl _, id, fun p hp => by cases p <;> first | exact rfl | exact out_bit hM rfl hp⟩
theorem Keeps.up_lps {M : Nat} (hM : Nat.land 35184372088832 M = 35184372088832) {s0 s : State} {x_lps : Vector LpSt 16} (h : Keeps M s0 s) :
    Keeps M s0 { s with lps := x_lps } :=
  h.trans ⟨rfl, rfl, Nat.le_refl _, id, fun p hp => by cases p <;> first | exact rfl | exact out_bit hM rfl hp⟩
theorem Keeps.up_mem_cmpRam {M : Nat} (hM : Nat.land 4 M = 4) {s0 s : State} {y_cmpRam : WordMem} (h : Keeps M s0 s) (hm : Memory.wf s.mem = true → Memory.wf { s.mem with cmpRam := y_cmpRam } = true) :
    Keeps M s0 { s with mem := { s.mem with cmpRam := y_cmpRam } } :=
  h.trans ⟨rfl, rfl, Nat.le_refl _, fun hc => canonical_parts.2 ⟨(canonical_parts.1 hc).1, hm (canonical_parts.1 hc).2⟩, fun p hp => by cases p <;> first | exact rfl | exact out_bit hM rfl hp⟩
theorem Keeps.up_mem_cmpRam_pool_lpData_lpCode_user_sram_hay_dram {M : Nat} (hM : Nat.land 1020 M = 1020) {s0 s : State} {y_cmpRam : WordMem} {y_pool : WordMem} {y_lpData : WordMem} {y_lpCode : WordMem} {y_user : WordMem} {y_sram : WordMem} {y_hay : WordMem} {y_dram : WordMem} (h : Keeps M s0 s) (hm : Memory.wf s.mem = true → Memory.wf { s.mem with cmpRam := y_cmpRam, pool := y_pool, lpData := y_lpData, lpCode := y_lpCode, user := y_user, sram := y_sram, hay := y_hay, dram := y_dram } = true) :
    Keeps M s0 { s with mem := { s.mem with cmpRam := y_cmpRam, pool := y_pool, lpData := y_lpData, lpCode := y_lpCode, user := y_user, sram := y_sram, hay := y_hay, dram := y_dram } } :=
  h.trans ⟨rfl, rfl, Nat.le_refl _, fun hc => canonical_parts.2 ⟨(canonical_parts.1 hc).1, hm (canonical_parts.1 hc).2⟩, fun p hp => by cases p <;> first | exact rfl | exact out_bit hM rfl hp⟩
theorem Keeps.up_mem_dram {M : Nat} (hM : Nat.land 512 M = 512) {s0 s : State} {y_dram : WordMem} (h : Keeps M s0 s) (hm : Memory.wf s.mem = true → Memory.wf { s.mem with dram := y_dram } = true) :
    Keeps M s0 { s with mem := { s.mem with dram := y_dram } } :=
  h.trans ⟨rfl, rfl, Nat.le_refl _, fun hc => canonical_parts.2 ⟨(canonical_parts.1 hc).1, hm (canonical_parts.1 hc).2⟩, fun p hp => by cases p <;> first | exact rfl | exact out_bit hM rfl hp⟩
theorem Keeps.up_mem_fw {M : Nat} (hM : Nat.land 1024 M = 1024) {s0 s : State} {y_fw : ByteMem} (h : Keeps M s0 s) (hm : Memory.wf s.mem = true → Memory.wf { s.mem with fw := y_fw } = true) :
    Keeps M s0 { s with mem := { s.mem with fw := y_fw } } :=
  h.trans ⟨rfl, rfl, Nat.le_refl _, fun hc => canonical_parts.2 ⟨(canonical_parts.1 hc).1, hm (canonical_parts.1 hc).2⟩, fun p hp => by cases p <;> first | exact rfl | exact out_bit hM rfl hp⟩
theorem Keeps.up_mem_hay {M : Nat} (hM : Nat.land 256 M = 256) {s0 s : State} {y_hay : WordMem} (h : Keeps M s0 s) (hm : Memory.wf s.mem = true → Memory.wf { s.mem with hay := y_hay } = true) :
    Keeps M s0 { s with mem := { s.mem with hay := y_hay } } :=
  h.trans ⟨rfl, rfl, Nat.le_refl _, fun hc => canonical_parts.2 ⟨(canonical_parts.1 hc).1, hm (canonical_parts.1 hc).2⟩, fun p hp => by cases p <;> first | exact rfl | exact out_bit hM rfl hp⟩
theorem Keeps.up_mem_lpCode {M : Nat} (hM : Nat.land 32 M = 32) {s0 s : State} {y_lpCode : WordMem} (h : Keeps M s0 s) (hm : Memory.wf s.mem = true → Memory.wf { s.mem with lpCode := y_lpCode } = true) :
    Keeps M s0 { s with mem := { s.mem with lpCode := y_lpCode } } :=
  h.trans ⟨rfl, rfl, Nat.le_refl _, fun hc => canonical_parts.2 ⟨(canonical_parts.1 hc).1, hm (canonical_parts.1 hc).2⟩, fun p hp => by cases p <;> first | exact rfl | exact out_bit hM rfl hp⟩
theorem Keeps.up_mem_lpData {M : Nat} (hM : Nat.land 16 M = 16) {s0 s : State} {y_lpData : WordMem} (h : Keeps M s0 s) (hm : Memory.wf s.mem = true → Memory.wf { s.mem with lpData := y_lpData } = true) :
    Keeps M s0 { s with mem := { s.mem with lpData := y_lpData } } :=
  h.trans ⟨rfl, rfl, Nat.le_refl _, fun hc => canonical_parts.2 ⟨(canonical_parts.1 hc).1, hm (canonical_parts.1 hc).2⟩, fun p hp => by cases p <;> first | exact rfl | exact out_bit hM rfl hp⟩
theorem Keeps.up_mem_pool {M : Nat} (hM : Nat.land 8 M = 8) {s0 s : State} {y_pool : WordMem} (h : Keeps M s0 s) (hm : Memory.wf s.mem = true → Memory.wf { s.mem with pool := y_pool } = true) :
    Keeps M s0 { s with mem := { s.mem with pool := y_pool } } :=
  h.trans ⟨rfl, rfl, Nat.le_refl _, fun hc => canonical_parts.2 ⟨(canonical_parts.1 hc).1, hm (canonical_parts.1 hc).2⟩, fun p hp => by cases p <;> first | exact rfl | exact out_bit hM rfl hp⟩
theorem Keeps.up_mem_sram {M : Nat} (hM : Nat.land 128 M = 128) {s0 s : State} {y_sram : WordMem} (h : Keeps M s0 s) (hm : Memory.wf s.mem = true → Memory.wf { s.mem with sram := y_sram } = true) :
    Keeps M s0 { s with mem := { s.mem with sram := y_sram } } :=
  h.trans ⟨rfl, rfl, Nat.le_refl _, fun hc => canonical_parts.2 ⟨(canonical_parts.1 hc).1, hm (canonical_parts.1 hc).2⟩, fun p hp => by cases p <;> first | exact rfl | exact out_bit hM rfl hp⟩
theorem Keeps.up_mem_user {M : Nat} (hM : Nat.land 64 M = 64) {s0 s : State} {y_user : WordMem} (h : Keeps M s0 s) (hm : Memory.wf s.mem = true → Memory.wf { s.mem with user := y_user } = true) :
    Keeps M s0 { s with mem := { s.mem with user := y_user } } :=
  h.trans ⟨rfl, rfl, Nat.le_refl _, fun hc => canonical_parts.2 ⟨(canonical_parts.1 hc).1, hm (canonical_parts.1 hc).2⟩, fun p hp => by cases p <;> first | exact rfl | exact out_bit hM rfl hp⟩
theorem Keeps.up_motion {M : Nat} (hM : Nat.land 1048576 M = 1048576) {s0 s : State} {x_motion : Vector AxMo 80} (h : Keeps M s0 s) :
    Keeps M s0 { s with motion := x_motion } :=
  h.trans ⟨rfl, rfl, Nat.le_refl _, id, fun p hp => by cases p <;> first | exact rfl | exact out_bit hM rfl hp⟩
theorem Keeps.up_netAxes {M : Nat} (hM : Nat.land 268435456 M = 268435456) {s0 s : State} {x_netAxes : Vector NetAx 32} (h : Keeps M s0 s) :
    Keeps M s0 { s with netAxes := x_netAxes } :=
  h.trans ⟨rfl, rfl, Nat.le_refl _, id, fun p hp => by cases p <;> first | exact rfl | exact out_bit hM rfl hp⟩
theorem Keeps.up_nw {M : Nat} (hM : Nat.land 70368744177664 M = 70368744177664) {s0 s : State} {x_nw : NetSt} (h : Keeps M s0 s) :
    Keeps M s0 { s with nw := x_nw } :=
  h.trans ⟨rfl, rfl, Nat.le_refl _, id, fun p hp => by cases p <;> first | exact rfl | exact out_bit hM rfl hp⟩
theorem Keeps.up_plans {M : Nat} (hM : Nat.land 2097152 M = 2097152) {s0 s : State} {x_plans : Vector GrpPlan 16} (h : Keeps M s0 s) :
    Keeps M s0 { s with plans := x_plans } :=
  h.trans ⟨rfl, rfl, Nat.le_refl _, id, fun p hp => by cases p <;> first | exact rfl | exact out_bit hM rfl hp⟩
theorem Keeps.up_ports {M : Nat} (hM : Nat.land 65536 M = 65536) {s0 s : State} {x_ports : Vector EPort 40} (h : Keeps M s0 s) :
    Keeps M s0 { s with ports := x_ports } :=
  h.trans ⟨rfl, rfl, Nat.le_refl _, id, fun p hp => by cases p <;> first | exact rfl | exact out_bit hM rfl hp⟩
theorem Keeps.up_pw {M : Nat} (hM : Nat.land 72057594037927936 M = 72057594037927936) {s0 s : State} {x_pw : PowerSt} (h : Keeps M s0 s) :
    Keeps M s0 { s with pw := x_pw } :=
  h.trans ⟨rfl, rfl, Nat.le_refl _, id, fun p hp => by cases p <;> first | exact rfl | exact out_bit hM rfl hp⟩
theorem Keeps.up_pwms {M : Nat} (hM : Nat.land 8589934592 M = 8589934592) {s0 s : State} {x_pwms : Vector PwmSt 40} (h : Keeps M s0 s) :
    Keeps M s0 { s with pwms := x_pwms } :=
  h.trans ⟨rfl, rfl, Nat.le_refl _, id, fun p hp => by cases p <;> first | exact rfl | exact out_bit hM rfl hp⟩
theorem Keeps.up_rcs {M : Nat} (hM : Nat.land 524288 M = 524288) {s0 s : State} {x_rcs : Vector RcSt 32} (h : Keeps M s0 s) :
    Keeps M s0 { s with rcs := x_rcs } :=
  h.trans ⟨rfl, rfl, Nat.le_refl _, id, fun p hp => by cases p <;> first | exact rfl | exact out_bit hM rfl hp⟩
theorem Keeps.up_rdata {M : Nat} (hM : Nat.land 274877906944 M = 274877906944) {s0 s : State} {x_rdata : Word} (h : Keeps M s0 s) :
    Keeps M s0 { s with rdata := x_rdata } :=
  h.trans ⟨rfl, rfl, Nat.le_refl _, id, fun p hp => by cases p <;> first | exact rfl | exact out_bit hM rfl hp⟩
theorem Keeps.up_reqs {M : Nat} (hM : Nat.land 32768 M = 32768) {s0 s : State} {x_reqs : Vector ReqSt 10} (h : Keeps M s0 s) :
    Keeps M s0 { s with reqs := x_reqs } :=
  h.trans ⟨rfl, rfl, Nat.le_refl _, id, fun p hp => by cases p <;> first | exact rfl | exact out_bit hM rfl hp⟩
theorem Keeps.up_rm {M : Nat} (hM : Nat.land 281474976710656 M = 281474976710656) {s0 s : State} {x_rm : RmSt} (h : Keeps M s0 s) :
    Keeps M s0 { s with rm := x_rm } :=
  h.trans ⟨rfl, rfl, Nat.le_refl _, id, fun p hp => by cases p <;> first | exact rfl | exact out_bit hM rfl hp⟩
theorem Keeps.up_runQ {M : Nat} (hM : Nat.land 4294967296 M = 4294967296) {s0 s : State} {x_runQ : Vector (List RunReq) 16} (h : Keeps M s0 s) :
    Keeps M s0 { s with runQ := x_runQ } :=
  h.trans ⟨rfl, rfl, Nat.le_refl _, id, fun p hp => by cases p <;> first | exact rfl | exact out_bit hM rfl hp⟩
theorem Keeps.up_safe {M : Nat} (hM : Nat.land 140737488355328 M = 140737488355328) {s0 s : State} {x_safe : SafeSt} (h : Keeps M s0 s) :
    Keeps M s0 { s with safe := x_safe } :=
  h.trans ⟨rfl, rfl, Nat.le_refl _, id, fun p hp => by cases p <;> first | exact rfl | exact out_bit hM rfl hp⟩
theorem Keeps.up_sds {M : Nat} (hM : Nat.land 68719476736 M = 68719476736) {s0 s : State} {x_sds : Vector SdSt 96} (h : Keeps M s0 s) :
    Keeps M s0 { s with sds := x_sds } :=
  h.trans ⟨rfl, rfl, Nat.le_refl _, id, fun p hp => by cases p <;> first | exact rfl | exact out_bit hM rfl hp⟩
theorem Keeps.up_sec {M : Nat} (hM : Nat.land 1125899906842624 M = 1125899906842624) {s0 s : State} {x_sec : SecSt} (h : Keeps M s0 s) :
    Keeps M s0 { s with sec := x_sec } :=
  h.trans ⟨rfl, rfl, Nat.le_refl _, id, fun p hp => by cases p <;> first | exact rfl | exact out_bit hM rfl hp⟩
theorem Keeps.up_shafts {M : Nat} (hM : Nat.land 8388608 M = 8388608) {s0 s : State} {x_shafts : Vector LsSt 16} (h : Keeps M s0 s) :
    Keeps M s0 { s with shafts := x_shafts } :=
  h.trans ⟨rfl, rfl, Nat.le_refl _, id, fun p hp => by cases p <;> first | exact rfl | exact out_bit hM rfl hp⟩
theorem Keeps.up_stalls {M : Nat} (hM : Nat.land 1099511627776 M = 1099511627776) {s0 s : State} {x_stalls : List (Nat × StallSt)} (h : Keeps M s0 s) :
    Keeps M s0 { s with stalls := x_stalls } :=
  h.trans ⟨rfl, rfl, Nat.le_refl _, id, fun p hp => by cases p <;> first | exact rfl | exact out_bit hM rfl hp⟩
theorem Keeps.up_stops {M : Nat} (hM : Nat.land 4194304 M = 4194304) {s0 s : State} {x_stops : List StopReq} (h : Keeps M s0 s) :
    Keeps M s0 { s with stops := x_stops } :=
  h.trans ⟨rfl, rfl, Nat.le_refl _, id, fun p hp => by cases p <;> first | exact rfl | exact out_bit hM rfl hp⟩
theorem Keeps.up_time {M : Nat} (hM : Nat.land 8192 M = 8192) {s0 s : State} {x_time : TimeSt} (h : Keeps M s0 s) :
    Keeps M s0 { s with time := x_time } :=
  h.trans ⟨rfl, rfl, Nat.le_refl _, id, fun p hp => by cases p <;> first | exact rfl | exact out_bit hM rfl hp⟩
theorem Keeps.up_trips {M : Nat} (hM : Nat.land 17179869184 M = 17179869184) {s0 s : State} {x_trips : Vector TripSt 36} (h : Keeps M s0 s) :
    Keeps M s0 { s with trips := x_trips } :=
  h.trans ⟨rfl, rfl, Nat.le_refl _, id, fun p hp => by cases p <;> first | exact rfl | exact out_bit hM rfl hp⟩
theorem Keeps.up_tw {M : Nat} (hM : Nat.land 562949953421312 M = 562949953421312) {s0 s : State} {x_tw : TwinSt} (h : Keeps M s0 s) :
    Keeps M s0 { s with tw := x_tw } :=
  h.trans ⟨rfl, rfl, Nat.le_refl _, id, fun p hp => by cases p <;> first | exact rfl | exact out_bit hM rfl hp⟩
theorem Keeps.up_vectors {M : Nat} (hM : Nat.land 4096 M = 4096) {s0 s : State} {x_vectors : List Nat} (h : Keeps M s0 s) :
    Keeps M s0 { s with vectors := x_vectors } :=
  h.trans ⟨rfl, rfl, Nat.le_refl _, id, fun p hp => by cases p <;> first | exact rfl | exact out_bit hM rfl hp⟩
theorem Keeps.up_waits {M : Nat} (hM : Nat.land 67108864 M = 67108864) {s0 s : State} {x_waits : List Wait} (h : Keeps M s0 s) :
    Keeps M s0 { s with waits := x_waits } :=
  h.trans ⟨rfl, rfl, Nat.le_refl _, id, fun p hp => by cases p <;> first | exact rfl | exact out_bit hM rfl hp⟩
theorem Keeps.up_xtime {M : Nat} (hM : Nat.land 4398046511104 M = 4398046511104) {s0 s : State} {x_xtime : Nat} (h : Keeps M s0 s) :
    Keeps M s0 { s with xtime := x_xtime } :=
  h.trans ⟨rfl, rfl, Nat.le_refl _, id, fun p hp => by cases p <;> first | exact rfl | exact out_bit hM rfl hp⟩
/-! ### Branches, folds and parts of results -/

theorem ite_of {α : Type} {P : α → Prop} {c : Prop} [Decidable c] {a b : α} (ha : P a) (hb : P b) : P (if c then a else b) := by
  split
  · exact ha
  · exact hb
theorem dite_of {α : Type} {P : α → Prop} {c : Prop} [Decidable c] {a : c → α} {b : ¬c → α} (ha : ∀ h, P (a h)) (hb : ∀ h, P (b h)) :
    P (if h : c then a h else b h) := by
  split
  · exact ha _
  · exact hb _
theorem cond_of {α : Type} {P : α → Prop} {c : Bool} {a b : α} (ha : P a) (hb : P b) : P (bif c then a else b) := by
  cases c
  · exact hb
  · exact ha
theorem foldl_of {α β : Type} {P : β → Prop} {f : β → α → β} {l : List α} {i : β} (hi : P i) (hf : ∀ b a, P b → P (f b a)) :
    P (l.foldl f i) := by
  induction l generalizing i with
  | nil => exact hi
  | cons a l ih => exact ih (hf i a hi)
theorem Keeps.forEach {M : Nat} {s0 s : State} {l : List Nat} {f : State → Nat → State} (h : Keeps M s0 s)
    (hf : ∀ t x, Keeps M s0 t → Keeps M s0 (f t x)) : Keeps M s0 (s.forEach l f) := foldl_of (P := Keeps M s0) h hf

theorem KP.mk {α : Type} {M : Nat} {s0 t : State} {a : α} (h : Keeps M s0 t) : KP M s0 (a, t) := h
theorem KP.snd {α : Type} {M : Nat} {s0 : State} {p : α × State} (h : KP M s0 p) : Keeps M s0 p.2 := h
theorem KP.out {α : Type} {M : Nat} {s0 t : State} {a : α} {p : α × State} (he : p = (a, t)) (h : KP M s0 p) : Keeps M s0 t := by
  subst he; exact h
theorem KP3.mk {α β : Type} {M : Nat} {s0 t : State} {a : α} {b : β} (h : Keeps M s0 t) : KP3 M s0 (a, b, t) := h
theorem KP3.out {α β : Type} {M : Nat} {s0 t : State} {a : α} {b : β} {p : α × β × State} (he : p = (a, b, t)) (h : KP3 M s0 p) : Keeps M s0 t := by
  subst he; exact h
theorem KO.none {M : Nat} {s0 : State} : KO M s0 none := fun _ h => by cases h
theorem KO.some {M : Nat} {s0 t : State} (h : Keeps M s0 t) : KO M s0 (some t) := fun u hu => by cases hu; exact h
theorem KO.out {M : Nat} {s0 t : State} {o : Option State} (he : o = .some t) (h : KO M s0 o) : Keeps M s0 t := h t he
theorem KOP.none {α : Type} {M : Nat} {s0 : State} : KOP (α := α) M s0 none := fun _ h => by cases h
theorem KOP.some {α : Type} {M : Nat} {s0 : State} {p : α × State} (h : KP M s0 p) : KOP M s0 (some p) := fun u hu => by cases hu; exact h
theorem KOP.out {α : Type} {M : Nat} {s0 t : State} {a : α} {o : Option (α × State)} (he : o = .some (a, t)) (h : KOP M s0 o) : Keeps M s0 t := h _ he
theorem KE.none {ε : Type} {M : Nat} {s0 : State} {e : ε} : KE M s0 (.error e) := fun _ h => by cases h
theorem KE.some {ε : Type} {M : Nat} {s0 t : State} (h : Keeps M s0 t) : KE (ε := ε) M s0 (.ok t) := fun u hu => by cases hu; exact h
theorem KE.out {ε : Type} {M : Nat} {s0 t : State} {o : Except ε State} (he : o = .ok t) (h : KE M s0 o) : Keeps M s0 t := h t he

/-- What an LP instruction leaves, before its flow takes effect. -/
def KL (M : Nat) (s0 : State) (o : LpOut) : Prop := Keeps M s0 o.s
theorem KL.mk {M : Nat} {s0 t : State} {q : LpSet} {f : Nat} {a b c : Option Nat} (h : Keeps M s0 t) : KL M s0 ⟨t, q, f, a, b, c⟩ := h
theorem KL.s {M : Nat} {s0 : State} {o : LpOut} (h : KL M s0 o) : Keeps M s0 o.s := h

/-- What a command leaves, where it answers a next state. -/
def KX (M : Nat) (s0 : State) (o : Host.Outcome State Fault Refusal) : Prop := ∀ t, o = .next t → Keeps M s0 t
theorem KX.next {M : Nat} {s0 t : State} (h : Keeps M s0 t) : KX M s0 (.next t) := fun u hu => by cases hu; exact h
theorem KX.none {M : Nat} {s0 : State} {o : Host.Outcome State Fault Refusal} (h : ∀ t, o ≠ .next t) : KX M s0 o := fun t ht => absurd ht (h t)


/-! ### The operations over registers -/

theorem keeps_State_wr {M : Nat} (hM : Nat.land 1 M = 1) {s0 : State} {s : State} {a : Nat} {v : Word} (h : Keeps M s0 s) : Keeps M s0 (s.wr a v) := by
  refine h.trans ⟨rfl, rfl, Nat.le_refl _, fun hc => ?_, fun p hp => by cases p <;> first | exact out_bit hM rfl hp | exact rfl⟩
  rw [canonical_parts] at hc ⊢
  exact ⟨⟨spSet_wf hc.1.1, hc.1.2⟩, hc.2⟩
theorem keeps_State_awr {M : Nat} (hM : Nat.land 2 M = 2) {s0 : State} {s : State} {a : Nat} {v : Word} (h : Keeps M s0 s) : Keeps M s0 (s.awr a v) := by
  refine h.trans ⟨rfl, rfl, Nat.le_refl _, fun hc => ?_, fun p hp => by cases p <;> first | exact out_bit hM rfl hp | exact rfl⟩
  rw [canonical_parts] at hc ⊢
  exact ⟨⟨hc.1.1, spSet_wf hc.1.2⟩, hc.2⟩
theorem keeps_State_commitN {M : Nat} (hM : Nat.land 2 M = 2) {s0 : State} {k : Nat} : ∀ {s : State} {a : Nat}, Keeps M s0 s → Keeps M s0 (s.commitN a k) := by
  induction k with
  | zero => intro s a h; exact h
  | succ k ih => intro s a h; exact ih (keeps_State_awr hM h)
theorem keeps_State_freeWord {M : Nat} (hM : Nat.land 0 M = 0) {s0 : State} {s : State} (h : Keeps M s0 s) : KP M s0 (s.freeWord) :=
  h.trans ⟨rfl, rfl, Nat.le_succ _, id, fun p _ => by cases p <;> exact rfl⟩
theorem keeps_State_freeWord64 {M : Nat} (hM : Nat.land 0 M = 0) {s0 : State} {s : State} (h : Keeps M s0 s) : KP M s0 (s.freeWord64) :=
  h.trans ⟨rfl, rfl, Nat.le_succ _, id, fun p _ => by cases p <;> exact rfl⟩

end Sys2Proof.Machine
end

