-- ==== Sys2Proof/Laws/KeepOps.lean ====
section
/-! SUPPORT. The operations of Machine/Ops.lean keep what `Keeps` says. -/

namespace Sys2Proof.Machine

theorem keeps_State_modStall {M : Nat} (hM : Nat.land 1099511627776 M = 1099511627776) {s0 : State} {s : State} {p1 : Nat} {p2 : Nat} {p3 : StallSt → StallSt} (h : Keeps M s0 s) : Keeps M s0 (State.modStall s p1 p2 p3) := by
  unfold State.modStall
  refine Keeps.up_stalls (sub_trans rfl hM) ?_
  exact h

theorem keeps_State_stallPut {M : Nat} (hM : Nat.land 1099511627776 M = 1099511627776) {s0 : State} {s : State} {p1 : Nat} {p2 : Nat} {p3 : Nat} {p4 : List Word} (h : Keeps M s0 s) : Keeps M s0 (State.stallPut s p1 p2 p3 p4) := by
  unfold State.stallPut
  refine (keeps_State_modStall (sub_trans rfl hM)) ?_
  exact h

theorem keeps_State_finish {M : Nat} (hM : Nat.land 234881024 M = 234881024) {s0 : State} {s : State} {p1 : Nat} {p2 : Status} {p3 : optParam Nat 0} {p4 : optParam Nat 0} {p5 : optParam Nat 0} {p6 : optParam (List Byte) []} (h : Keeps M s0 s) : Keeps M s0 (State.finish s p1 p2 p3 p4 p5 p6) := by
  unfold State.finish
  split
  ·
    refine Keeps.up_waits (sub_trans rfl hM) ?_
    exact h
  ·
    refine Keeps.up_inflight_waits_completions (sub_trans rfl hM) ?_
    exact h

theorem keeps_State_resolve {M : Nat} (hM : Nat.land 234881024 M = 234881024) {s0 : State} {s : State} {p1 : WaitKind} {p2 : Nat} {p3 : Status} {p4 : optParam Nat 0} {p5 : optParam Nat 0} {p6 : optParam Nat 0} {p7 : optParam (List Byte) []} (h : Keeps M s0 s) : Keeps M s0 (State.resolve s p1 p2 p3 p4 p5 p6 p7) := by
  unfold State.resolve
  refine foldl_of (P := Keeps M s0) ?_ ?_
  ·
    exact h
  · intro t0 x1 h2
    beta_reduce
    refine (keeps_State_finish (sub_trans rfl hM)) ?_
    exact h2

theorem keeps_State_wrI {M : Nat} (hM : Nat.land 1 M = 1) {s0 : State} {s : State} {p1 : Nat} {p2 : Int} (h : Keeps M s0 s) : Keeps M s0 (State.wrI s p1 p2) := by
  unfold State.wrI
  refine (keeps_State_wr (sub_trans rfl hM)) ?_
  exact h

theorem keeps_State_modShaft {M : Nat} (hM : Nat.land 8388608 M = 8388608) {s0 : State} {s : State} {p1 : Nat} {p2 : LsSt → LsSt} (h : Keeps M s0 s) : Keeps M s0 (State.modShaft s p1 p2) := by
  unfold State.modShaft
  refine Keeps.up_shafts (sub_trans rfl hM) ?_
  exact h

theorem keeps_State_event {M : Nat} (hM : Nat.land 2048 M = 2048) {s0 : State} {s : State} {p1 : EventKind} {p2 : Nat} {p3 : optParam Int 0} (h : Keeps M s0 s) : Keeps M s0 (State.event s p1 p2 p3) := by
  unfold State.event
  refine Keeps.up_events (sub_trans rfl hM) ?_
  exact h

theorem keeps_State_modGrid {M : Nat} (hM : Nat.land 16384 M = 16384) {s0 : State} {s : State} {p1 : Nat} {p2 : GridSt → GridSt} (h : Keeps M s0 s) : Keeps M s0 (State.modGrid s p1 p2) := by
  unfold State.modGrid
  refine Keeps.up_grids (sub_trans rfl hM) ?_
  exact h

theorem keeps_State_wrN {M : Nat} (hM : Nat.land 1 M = 1) {s0 : State} {s : State} {p1 : Nat} {p2 : Nat} (h : Keeps M s0 s) : Keeps M s0 (State.wrN s p1 p2) := by
  unfold State.wrN
  refine (keeps_State_wr (sub_trans rfl hM)) ?_
  exact h

theorem keeps_State_raiseVector {M : Nat} (hM : Nat.land 4097 M = 4097) {s0 : State} {s : State} {p1 : Nat} (h : Keeps M s0 s) : Keeps M s0 (State.raiseVector s p1) := by
  unfold State.raiseVector
  refine ite_of (P := Keeps M s0) ?_ ?_
  ·
    refine (keeps_State_wrN (sub_trans rfl hM)) ?_
    exact h
  ·
    refine Keeps.up_vectors (sub_trans rfl hM) ?_
    exact h

theorem keeps_State_group {M : Nat} (hM : Nat.land 4097 M = 4097) {s0 : State} {s : State} {p1 : Nat} (h : Keeps M s0 s) : Keeps M s0 (State.group s p1) := by
  unfold State.group
  extract_lets -merge -useContext -underBinder v0 v1
  try clear_value v0
  have h2 : Keeps M s0 v1 := by
    unfold v1
    refine (keeps_State_wrN (sub_trans rfl hM)) ?_
    exact h
  try clear_value v1
  refine ite_of (P := Keeps M s0) ?_ ?_
  ·
    refine (keeps_State_raiseVector (sub_trans rfl hM)) ?_
    exact h2
  ·
    exact h2

theorem keeps_State_wr64 {M : Nat} (hM : Nat.land 1 M = 1) {s0 : State} {s : State} {p1 : Nat} {p2 : Word64} (h : Keeps M s0 s) : Keeps M s0 (State.wr64 s p1 p2) := by
  unfold State.wr64
  refine (keeps_State_wr (sub_trans rfl hM)) ?_
  refine (keeps_State_wr (sub_trans rfl hM)) ?_
  exact h

theorem keeps_State_wr64I {M : Nat} (hM : Nat.land 1 M = 1) {s0 : State} {s : State} {p1 : Nat} {p2 : Int} (h : Keeps M s0 s) : Keeps M s0 (State.wr64I s p1 p2) := by
  unfold State.wr64I
  refine (keeps_State_wr64 (sub_trans rfl hM)) ?_
  exact h

theorem keeps_State_put {M : Nat} (hM : Nat.land 1 M = 1) {s0 : State} {s : State} {p1 : Nat} {p2 : Fld} {p3 : Nat} (h : Keeps M s0 s) : Keeps M s0 (State.put s p1 p2 p3) := by
  unfold State.put
  extract_lets -merge -useContext -underBinder v0
  try clear_value v0
  refine (keeps_State_wrN (sub_trans rfl hM)) ?_
  exact h

theorem keeps_State_clrf {M : Nat} (hM : Nat.land 1 M = 1) {s0 : State} {s : State} {p1 : Nat} {p2 : Fld} (h : Keeps M s0 s) : Keeps M s0 (State.clrf s p1 p2) := by
  unfold State.clrf
  refine (keeps_State_put (sub_trans rfl hM)) ?_
  exact h

theorem keeps_State_modMo {M : Nat} (hM : Nat.land 1048576 M = 1048576) {s0 : State} {s : State} {p1 : Nat} {p2 : AxMo → AxMo} (h : Keeps M s0 s) : Keeps M s0 (State.modMo s p1 p2) := by
  unfold State.modMo
  refine Keeps.up_motion (sub_trans rfl hM) ?_
  exact h

theorem keeps_State_post {M : Nat} (hM : Nat.land 1099511627776 M = 1099511627776) {s0 : State} {s : State} {p1 : Nat} {p2 : Nat} (h : Keeps M s0 s) : KP M s0 (State.post s p1 p2) := by
  unfold State.post
  refine ite_of (P := KP M s0) ?_ ?_
  ·
    refine KP.mk ?_
    exact h
  ·
    extract_lets -merge -useContext -underBinder v0
    try clear_value v0
    refine ite_of (P := KP M s0) ?_ ?_
    ·
      refine KP.mk ?_
      exact h
    ·
      refine ite_of (P := KP M s0) ?_ ?_
      ·
        refine KP.mk ?_
        exact h
      ·
        refine KP.mk ?_
        refine (keeps_State_stallPut (sub_trans rfl hM)) ?_
        exact h

theorem keeps_State_modLoop {M : Nat} (hM : Nat.land 536870912 M = 536870912) {s0 : State} {s : State} {p1 : Nat} {p2 : AxLoop → AxLoop} (h : Keeps M s0 s) : Keeps M s0 (State.modLoop s p1 p2) := by
  unfold State.modLoop
  refine Keeps.up_loops (sub_trans rfl hM) ?_
  exact h

theorem keeps_State_clrBits {M : Nat} (hM : Nat.land 1 M = 1) {s0 : State} {s : State} {p1 : Nat} {p2 : Word} (h : Keeps M s0 s) : Keeps M s0 (State.clrBits s p1 p2) := by
  unfold State.clrBits
  refine (keeps_State_wr (sub_trans rfl hM)) ?_
  exact h

theorem keeps_State_modAgent {M : Nat} (hM : Nat.land 2199023255552 M = 2199023255552) {s0 : State} {s : State} {p1 : Nat} {p2 : AgentSt → AgentSt} (h : Keeps M s0 s) : Keeps M s0 (State.modAgent s p1 p2) := by
  unfold State.modAgent
  refine Keeps.up_agents (sub_trans rfl hM) ?_
  exact h

theorem keeps_State_count {M : Nat} (hM : Nat.land 1 M = 1) {s0 : State} {s : State} {p1 : Nat} {p2 : Fld} (h : Keeps M s0 s) : Keeps M s0 (State.count s p1 p2) := by
  unfold State.count
  refine (keeps_State_put (sub_trans rfl hM)) ?_
  exact h

theorem keeps_State_putB {M : Nat} (hM : Nat.land 1 M = 1) {s0 : State} {s : State} {p1 : Nat} {p2 : Fld} {p3 : Bool} (h : Keeps M s0 s) : Keeps M s0 (State.putB s p1 p2 p3) := by
  unfold State.putB
  refine (keeps_State_put (sub_trans rfl hM)) ?_
  exact h

theorem keeps_State_badAcc {M : Nat} (hM : Nat.land 1 M = 1) {s0 : State} {s : State} {p1 : Nat} {p2 : Bool} (h : Keeps M s0 s) : Keeps M s0 (State.badAcc s p1 p2) := by
  unfold State.badAcc
  refine (keeps_State_putB (sub_trans rfl hM)) ?_
  refine (keeps_State_put (sub_trans rfl hM)) ?_
  refine (keeps_State_count (sub_trans rfl hM)) ?_
  exact h

theorem keeps_State_wr64N {M : Nat} (hM : Nat.land 1 M = 1) {s0 : State} {s : State} {p1 : Nat} {p2 : Nat} (h : Keeps M s0 s) : Keeps M s0 (State.wr64N s p1 p2) := by
  unfold State.wr64N
  refine (keeps_State_wr64 (sub_trans rfl hM)) ?_
  exact h

theorem keeps_State_lpNotice {M : Nat} (hM : Nat.land 1099511627776 M = 1099511627776) {s0 : State} {s : State} {p1 : Nat} {p2 : EventKind} (h : Keeps M s0 s) : Keeps M s0 (State.lpNotice s p1 p2) := by
  unfold State.lpNotice
  refine ite_of (P := Keeps M s0) ?_ ?_
  ·
    exact h
  ·
    extract_lets -merge -useContext -underBinder v0
    try clear_value v0
    split
    ·
      rename_i t1 q3
      have h2 : Keeps M s0 t1 := by
        refine KP.out q3 ?_
        refine (keeps_State_freeWord (sub_trans rfl hM)) ?_
        exact h
      refine ite_of (P := Keeps M s0) ?_ ?_
      ·
        exact h2
      ·
        refine (keeps_State_stallPut (sub_trans rfl hM)) ?_
        exact h2

theorem keeps_State_commit {M : Nat} (hM : Nat.land 2 M = 2) {s0 : State} {s : State} {p1 : Nat} (h : Keeps M s0 s) : Keeps M s0 (State.commit s p1) := by
  unfold State.commit
  refine (keeps_State_awr (sub_trans rfl hM)) ?_
  exact h

theorem keeps_State_await {M : Nat} (hM : Nat.land 67108864 M = 67108864) {s0 : State} {s : State} {p1 : Nat} {p2 : WaitKind} {p3 : Nat} (h : Keeps M s0 s) : Keeps M s0 (State.await s p1 p2 p3) := by
  unfold State.await
  refine Keeps.up_waits (sub_trans rfl hM) ?_
  exact h

theorem keeps_State_modNet {M : Nat} (hM : Nat.land 268435456 M = 268435456) {s0 : State} {s : State} {p1 : Nat} {p2 : NetAx → NetAx} (h : Keeps M s0 s) : Keeps M s0 (State.modNet s p1 p2) := by
  unfold State.modNet
  refine Keeps.up_netAxes (sub_trans rfl hM) ?_
  exact h

theorem keeps_State_discardStall {M : Nat} (hM : Nat.land 1099511627776 M = 1099511627776) {s0 : State} {s : State} {p1 : Nat} {p2 : Nat} (h : Keeps M s0 s) : Keeps M s0 (State.discardStall s p1 p2) := by
  unfold State.discardStall
  split
  ·
    exact h
  ·
    refine (keeps_State_modStall (sub_trans rfl hM)) ?_
    exact h

theorem keeps_State_modLatch {M : Nat} (hM : Nat.land 131072 M = 131072) {s0 : State} {s : State} {p1 : Nat} {p2 : LatchSt → LatchSt} (h : Keeps M s0 s) : Keeps M s0 (State.modLatch s p1 p2) := by
  unfold State.modLatch
  refine Keeps.up_latches (sub_trans rfl hM) ?_
  exact h

theorem keeps_State_advanceTo {M : Nat} (hM : Nat.land 8192 M = 8192) {s0 : State} {s : State} {p1 : Nat} (h : Keeps M s0 s) : Keeps M s0 (State.advanceTo s p1) := by
  unfold State.advanceTo
  refine ite_of (P := Keeps M s0) ?_ ?_
  ·
    extract_lets -merge -useContext -underBinder v0 v1
    try clear_value v0
    try clear_value v1
    refine Keeps.up_time (sub_trans rfl hM) ?_
    exact h
  ·
    exact h

theorem keeps_State_modRc {M : Nat} (hM : Nat.land 524288 M = 524288) {s0 : State} {s : State} {p1 : Nat} {p2 : RcSt → RcSt} (h : Keeps M s0 s) : Keeps M s0 (State.modRc s p1 p2) := by
  unfold State.modRc
  refine Keeps.up_rcs (sub_trans rfl hM) ?_
  exact h

theorem keeps_State_modPort {M : Nat} (hM : Nat.land 65536 M = 65536) {s0 : State} {s : State} {p1 : Nat} {p2 : EPort → EPort} (h : Keeps M s0 s) : Keeps M s0 (State.modPort s p1 p2) := by
  unfold State.modPort
  refine Keeps.up_ports (sub_trans rfl hM) ?_
  exact h

theorem keeps_State_setf {M : Nat} (hM : Nat.land 1 M = 1) {s0 : State} {s : State} {p1 : Nat} {p2 : Fld} (h : Keeps M s0 s) : Keeps M s0 (State.setf s p1 p2) := by
  unfold State.setf
  refine (keeps_State_put (sub_trans rfl hM)) ?_
  exact h

theorem keeps_State_pop {M : Nat} (hM : Nat.land 1099511627776 M = 1099511627776) {s0 : State} {s : State} {p1 : Nat} {p2 : Nat} (h : Keeps M s0 s) : Keeps M s0 (State.pop s p1 p2) := by
  unfold State.pop
  split
  ·
    exact h
  ·
    refine (keeps_State_modStall (sub_trans rfl hM)) ?_
    exact h

theorem keeps_State_modInj {M : Nat} (hM : Nat.land 1073741824 M = 1073741824) {s0 : State} {s : State} {p1 : Nat} {p2 : InjSt → InjSt} (h : Keeps M s0 s) : Keeps M s0 (State.modInj s p1 p2) := by
  unfold State.modInj
  refine Keeps.up_injs (sub_trans rfl hM) ?_
  exact h

theorem keeps_State_modCompare {M : Nat} (hM : Nat.land 262144 M = 262144) {s0 : State} {s : State} {p1 : Nat} {p2 : CompareSt → CompareSt} (h : Keeps M s0 s) : Keeps M s0 (State.modCompare s p1 p2) := by
  unfold State.modCompare
  refine Keeps.up_compares (sub_trans rfl hM) ?_
  exact h

theorem keeps_State_rmCount {M : Nat} (hM : Nat.land 4097 M = 4097) {s0 : State} {s : State} {p1 : Nat} {p2 : Fld} (h : Keeps M s0 s) : Keeps M s0 (State.rmCount s p1 p2) := by
  unfold State.rmCount
  refine (keeps_State_group (sub_trans rfl hM)) ?_
  refine (keeps_State_count (sub_trans rfl hM)) ?_
  exact h

end Sys2Proof.Machine
end

