-- ==== Sys2Proof/Laws/KeepCan.lean ====
section
/-! SUPPORT. The operations of Machine/Can.lean keep what `Keeps` says. -/

namespace Sys2Proof.Machine

theorem keeps_State_canCancel {M : Nat} (hM : Nat.land 1 M = 1) {s0 : State} {s : State} {p1 : Nat} {p2 : Nat} (h : Keeps M s0 s) : Keeps M s0 (State.canCancel s p1 p2) := by
  unfold State.canCancel
  refine (keeps_State_wr64N (sub_trans rfl hM)) ?_
  exact h

theorem keeps_State_modCan {M : Nat} (hM : Nat.land 4503599627370496 M = 4503599627370496) {s0 : State} {s : State} {p1 : Nat} {p2 : CanSt → CanSt} (h : Keeps M s0 s) : Keeps M s0 (State.modCan s p1 p2) := by
  unfold State.modCan
  refine Keeps.up_cans (sub_trans rfl hM) ?_
  exact h

theorem keeps_State_canRequest {M : Nat} (hM : Nat.land 4503599627370497 M = 4503599627370497) {s0 : State} {s : State} {p1 : Nat} {p2 : Nat} (h : Keeps M s0 s) : Keeps M s0 (State.canRequest s p1 p2) := by
  unfold State.canRequest
  refine foldl_of (P := Keeps M s0) ?_ ?_
  ·
    exact h
  · intro t0 x1 h2
    beta_reduce
    refine (keeps_State_modCan (sub_trans rfl hM)) ?_
    refine (keeps_State_put (sub_trans rfl hM)) ?_
    refine (keeps_State_wr64N (sub_trans rfl hM)) ?_
    exact h2

theorem keeps_State_canMove {M : Nat} (hM : Nat.land 4503599627370497 M = 4503599627370497) {s0 : State} {n k : Nat} : ∀ {s : State}, Keeps M s0 s → Keeps M s0 (s.canMove n k) := by
  induction k with
  | zero => intro s h; exact h
  | succ k ih =>
    intro s h
    unfold State.canMove
    extract_lets -merge -useContext -underBinder v1 v2
    split
    · exact h
    · extract_lets -merge -useContext -underBinder v3
      split
      · extract_lets -merge -useContext -underBinder v4 v5 v6 v7
        refine ih ((keeps_State_canRequest (sub_trans rfl hM)) ((keeps_State_modCan (sub_trans rfl hM)) ((keeps_State_setf (sub_trans rfl hM)) ((keeps_State_canCancel (sub_trans rfl hM)) ?_))))
        refine Keeps.forEach ((keeps_State_wr (sub_trans rfl hM)) ((keeps_State_wr (sub_trans rfl hM)) h)) ?_
        intro t x ht
        exact (keeps_State_wr (sub_trans rfl hM)) ht
      · exact (keeps_State_setf (sub_trans rfl hM)) h

theorem keeps_State_canErrc {M : Nat} (hM : Nat.land 1 M = 1) {s0 : State} {s : State} {p1 : Nat} {p2 : Nat} {p3 : Nat} (h : Keeps M s0 s) : Keeps M s0 (State.canErrc s p1 p2 p3) := by
  unfold State.canErrc
  extract_lets -merge -useContext -underBinder v0 v1
  try clear_value v0
  have h2 : Keeps M s0 v1 := by
    unfold v1
    refine (keeps_State_put (sub_trans rfl hM)) ?_
    refine (keeps_State_put (sub_trans rfl hM)) ?_
    exact h
  try clear_value v1
  refine (keeps_State_putB (sub_trans rfl hM)) ?_
  refine (keeps_State_putB (sub_trans rfl hM)) ?_
  exact h2

theorem keeps_State_canDivertOwn {M : Nat} (hM : Nat.land 4503599627370497 M = 4503599627370497) {s0 : State} {s : State} {p1 : Nat} (h : Keeps M s0 s) : Keeps M s0 (State.canDivertOwn s p1) := by
  unfold State.canDivertOwn
  refine ite_of (P := Keeps M s0) ?_ ?_
  ·
    exact h
  ·
    extract_lets -merge -useContext -underBinder v0
    try clear_value v0
    refine (keeps_State_canMove (sub_trans rfl hM)) ?_
    refine (keeps_State_modCan (sub_trans rfl hM)) ?_
    exact h

theorem keeps_State_canUndo {M : Nat} (hM : Nat.land 4503599627370497 M = 4503599627370497) {s0 : State} {s : State} {p1 : Nat} (h : Keeps M s0 s) : Keeps M s0 (State.canUndo s p1) := by
  unfold State.canUndo
  split
  ·
    exact h
  ·
    extract_lets -merge -useContext -underBinder v0 v1
    try clear_value v0
    have h2 : Keeps M s0 v1 := by
      unfold v1
      refine foldl_of (P := Keeps M s0) ?_ ?_
      ·
        exact h
      · intro t3 x4 h5
        beta_reduce
        extract_lets -merge -useContext -underBinder v6
        have h7 : Keeps M s0 v6 := by
          unfold v6
          refine (keeps_State_wr64N (sub_trans rfl hM)) ?_
          refine (keeps_State_canCancel (sub_trans rfl hM)) ?_
          exact h5
        try clear_value v6
        refine (keeps_State_putB (sub_trans rfl hM)) ?_
        exact h7
    try clear_value v1
    refine (keeps_State_modCan (sub_trans rfl hM)) ?_
    refine (keeps_State_putB (sub_trans rfl hM)) ?_
    exact h2

theorem keeps_State_canDivert {M : Nat} (hM : Nat.land 4503599627370497 M = 4503599627370497) {s0 : State} {s : State} {p1 : Nat} (h : Keeps M s0 s) : Keeps M s0 (State.canDivert s p1) := by
  unfold State.canDivert
  extract_lets -merge -useContext -underBinder v0
  try clear_value v0
  refine foldl_of (P := Keeps M s0) ?_ ?_
  ·
    refine (keeps_State_canDivertOwn (sub_trans rfl hM)) ?_
    refine foldl_of (P := Keeps M s0) ?_ ?_
    ·
      exact h
    · intro t1 x2 h3
      beta_reduce
      refine (keeps_State_canUndo (sub_trans rfl hM)) ?_
      exact h3
  · intro t4 x5 h6
    beta_reduce
    refine (keeps_State_canDivertOwn (sub_trans rfl hM)) ?_
    exact h6

theorem keeps_State_canSspd {M : Nat} (hM : Nat.land 1 M = 1) {s0 : State} {s : State} {p1 : Nat} {p2 : Nat} {p3 : Option Nat} (h : Keeps M s0 s) : Keeps M s0 (State.canSspd s p1 p2 p3) := by
  unfold State.canSspd
  refine ite_of (P := Keeps M s0) ?_ ?_
  ·
    split
    ·
      refine (keeps_State_put (sub_trans rfl hM)) ?_
      exact h
    ·
      refine (keeps_State_setf (sub_trans rfl hM)) ?_
      exact h
  ·
    exact h

theorem keeps_State_canTxDone {M : Nat} (hM : Nat.land 4503599862251521 M = 4503599862251521) {s0 : State} {s : State} {p1 : Nat} {p2 : Nat} {p3 : Option Nat} (h : Keeps M s0 s) : Keeps M s0 (State.canTxDone s p1 p2 p3) := by
  unfold State.canTxDone
  refine ite_of (P := Keeps M s0) ?_ ?_
  ·
    exact h
  ·
    split
    ·
      exact h
    ·
      extract_lets -merge -useContext -underBinder v0 v1 v2
      have h3 : Keeps M s0 v0 := by
        unfold v0
        refine ite_of (P := Keeps M s0) ?_ ?_
        ·
          refine (keeps_State_modCan (sub_trans rfl hM)) ?_
          exact h
        ·
          refine (keeps_State_canCancel (sub_trans rfl hM)) ?_
          exact h
      try clear_value v0
      have h4 : Keeps M s0 v1 := by
        unfold v1
        refine (keeps_State_wrN (sub_trans rfl hM)) ?_
        refine (keeps_State_wr64N (sub_trans rfl hM)) ?_
        exact h3
      try clear_value v1
      have h5 : Keeps M s0 v2 := by
        unfold v2
        refine (keeps_State_canSspd (sub_trans rfl hM)) ?_
        refine (keeps_State_modCan (sub_trans rfl hM)) ?_
        refine (keeps_State_put (sub_trans rfl hM)) ?_
        exact h4
      try clear_value v2
      refine (keeps_State_resolve (sub_trans rfl hM)) ?_
      refine (keeps_State_canErrc (sub_trans rfl hM)) ?_
      exact h5

theorem keeps_State_canStore {M : Nat} (hM : Nat.land 1 M = 1) {s0 : State} {s : State} {p1 : Nat} {p2 : CanFrame} {p3 : Nat} (h : Keeps M s0 s) : Keeps M s0 (State.canStore s p1 p2 p3) := by
  unfold State.canStore
  extract_lets -merge -useContext -underBinder v0
  have h1 : Keeps M s0 v0 := by
    unfold v0
    refine (keeps_State_wrN (sub_trans rfl hM)) ?_
    refine (keeps_State_wrN (sub_trans rfl hM)) ?_
    refine (keeps_State_wrN (sub_trans rfl hM)) ?_
    exact h
  try clear_value v0
  refine foldl_of (P := Keeps M s0) ?_ ?_
  ·
    exact h1
  · intro t2 x3 h4
    beta_reduce
    refine (keeps_State_wr (sub_trans rfl hM)) ?_
    exact h4

theorem keeps_State_canLastErr {M : Nat} (hM : Nat.land 1 M = 1) {s0 : State} {s : State} {p1 : Nat} {p2 : Nat} {p3 : Bool} (h : Keeps M s0 s) : Keeps M s0 (State.canLastErr s p1 p2 p3) := by
  unfold State.canLastErr
  refine (keeps_State_put (sub_trans rfl hM)) ?_
  exact h

theorem keeps_State_canRxError {M : Nat} (hM : Nat.land 1 M = 1) {s0 : State} {s : State} {p1 : Nat} {p2 : Nat} {p3 : Bool} {p4 : Nat} (h : Keeps M s0 s) : Keeps M s0 (State.canRxError s p1 p2 p3 p4) := by
  unfold State.canRxError
  refine ite_of (P := Keeps M s0) ?_ ?_
  ·
    exact h
  ·
    refine (keeps_State_canErrc (sub_trans rfl hM)) ?_
    refine (keeps_State_canLastErr (sub_trans rfl hM)) ?_
    exact h

theorem keeps_State_canBuffer {M : Nat} (hM : Nat.land 4503599627370497 M = 4503599627370497) {s0 : State} {s : State} {p1 : Nat} {p2 : Nat} {p3 : CanFrame} {p4 : Nat} (h : Keeps M s0 s) : Keeps M s0 (State.canBuffer s p1 p2 p3 p4) := by
  unfold State.canBuffer
  extract_lets -merge -useContext -underBinder v0
  have h1 : Keeps M s0 v0 := by
    unfold v0
    refine ite_of (P := Keeps M s0) ?_ ?_
    ·
      refine (keeps_State_setf (sub_trans rfl hM)) ?_
      exact h
    ·
      exact h
  try clear_value v0
  refine (keeps_State_modCan (sub_trans rfl hM)) ?_
  refine (keeps_State_setf (sub_trans rfl hM)) ?_
  refine (keeps_State_canStore (sub_trans rfl hM)) ?_
  exact h1

theorem keeps_State_canRecovered {M : Nat} (hM : Nat.land 4503599627370497 M = 4503599627370497) {s0 : State} {s : State} {p1 : Nat} (h : Keeps M s0 s) : Keeps M s0 (State.canRecovered s p1) := by
  unfold State.canRecovered
  refine ite_of (P := Keeps M s0) ?_ ?_
  ·
    refine (keeps_State_modCan (sub_trans rfl hM)) ?_
    refine (keeps_State_clrf (sub_trans rfl hM)) ?_
    refine (keeps_State_canErrc (sub_trans rfl hM)) ?_
    exact h
  ·
    exact h

theorem keeps_State_canRecover {M : Nat} (hM : Nat.land 4503599627370496 M = 4503599627370496) {s0 : State} {s : State} {p1 : Nat} (h : Keeps M s0 s) : Keeps M s0 (State.canRecover s p1) := by
  unfold State.canRecover
  refine ite_of (P := Keeps M s0) ?_ ?_
  ·
    refine (keeps_State_modCan (sub_trans rfl hM)) ?_
    exact h
  ·
    exact h

theorem keeps_State_fifoFree {M : Nat} (hM : Nat.land 1 M = 1) {s0 : State} {s : State} {p1 : Nat} {p2 : Nat} (h : Keeps M s0 s) : Keeps M s0 (State.fifoFree s p1 p2) := by
  unfold State.fifoFree
  extract_lets -merge -useContext -underBinder v0 v1
  try clear_value v0
  try clear_value v1
  refine ite_of (P := Keeps M s0) ?_ ?_
  ·
    exact h
  ·
    refine (keeps_State_put (sub_trans rfl hM)) ?_
    refine (keeps_State_put (sub_trans rfl hM)) ?_
    exact h

theorem keeps_State_canGoBusOff {M : Nat} (hM : Nat.land 4503599627376641 M = 4503599627376641) {s0 : State} {s : State} {p1 : Nat} (h : Keeps M s0 s) : Keeps M s0 (State.canGoBusOff s p1) := by
  unfold State.canGoBusOff
  extract_lets -merge -useContext -underBinder v0
  have h1 : Keeps M s0 v0 := by
    unfold v0
    refine (keeps_State_group (sub_trans rfl hM)) ?_
    refine (keeps_State_event (sub_trans rfl hM)) ?_
    refine (keeps_State_modCan (sub_trans rfl hM)) ?_
    refine (keeps_State_count (sub_trans rfl hM)) ?_
    refine (keeps_State_setf (sub_trans rfl hM)) ?_
    exact h
  try clear_value v0
  refine (keeps_State_canDivert (sub_trans rfl hM)) ?_
  exact h1

theorem keeps_State_canClash {M : Nat} (hM : Nat.land 4503599627376641 M = 4503599627376641) {s0 : State} {s : State} {p1 : Nat} {p2 : Nat} (h : Keeps M s0 s) : Keeps M s0 (State.canClash s p1 p2) := by
  unfold State.canClash
  extract_lets -merge -useContext -underBinder v0 v1 v2 v3 v4 v5
  try clear_value v0
  try clear_value v1
  have h6 : Keeps M s0 v2 := by
    unfold v2
    refine (keeps_State_modCan (sub_trans rfl hM)) ?_
    refine (keeps_State_put (sub_trans rfl hM)) ?_
    exact h
  try clear_value v2
  try clear_value v3
  have h7 : Keeps M s0 v4 := by
    unfold v4
    refine ite_of (P := Keeps M s0) ?_ ?_
    ·
      refine (keeps_State_group (sub_trans rfl hM)) ?_
      refine (keeps_State_event (sub_trans rfl hM)) ?_
      refine (keeps_State_setf (sub_trans rfl hM)) ?_
      refine (keeps_State_wrN (sub_trans rfl hM)) ?_
      refine (keeps_State_count (sub_trans rfl hM)) ?_
      exact h6
    ·
      exact h6
  try clear_value v4
  try clear_value v5
  refine ite_of (P := Keeps M s0) ?_ ?_
  ·
    refine (keeps_State_setf (sub_trans rfl hM)) ?_
    refine (keeps_State_canCancel (sub_trans rfl hM)) ?_
    exact h7
  ·
    exact h7

theorem keeps_State_canTxError {M : Nat} (hM : Nat.land 4503599627376641 M = 4503599627376641) {s0 : State} {s : State} {p1 : Nat} {p2 : Nat} {p3 : Nat} {p4 : Bool} {p5 : Bool} {p6 : Bool} {p7 : Nat} (h : Keeps M s0 s) : Keeps M s0 (State.canTxError s p1 p2 p3 p4 p5 p6 p7) := by
  unfold State.canTxError
  refine ite_of (P := Keeps M s0) ?_ ?_
  ·
    exact h
  ·
    split
    ·
      exact h
    ·
      extract_lets -merge -useContext -underBinder v0 v1 v2 v3 v4
      have h5 : Keeps M s0 v0 := by
        unfold v0
        refine ite_of (P := Keeps M s0) ?_ ?_
        ·
          refine (keeps_State_modCan (sub_trans rfl hM)) ?_
          exact h
        ·
          refine ite_of (P := Keeps M s0) ?_ ?_
          ·
            refine (keeps_State_canCancel (sub_trans rfl hM)) ?_
            exact h
          ·
            exact h
      try clear_value v0
      try clear_value v1
      try clear_value v2
      have h6 : Keeps M s0 v3 := by
        unfold v3
        refine (keeps_State_canErrc (sub_trans rfl hM)) ?_
        refine (keeps_State_canLastErr (sub_trans rfl hM)) ?_
        exact h5
      try clear_value v3
      have h7 : Keeps M s0 v4 := by
        unfold v4
        refine ite_of (P := Keeps M s0) ?_ ?_
        ·
          refine (keeps_State_canClash (sub_trans rfl hM)) ?_
          exact h6
        ·
          refine (keeps_State_modCan (sub_trans rfl hM)) ?_
          exact h6
      try clear_value v4
      refine ite_of (P := Keeps M s0) ?_ ?_
      ·
        refine (keeps_State_modCan (sub_trans rfl hM)) ?_
        exact h5
      ·
        refine ite_of (P := Keeps M s0) ?_ ?_
        ·
          refine (keeps_State_canGoBusOff (sub_trans rfl hM)) ?_
          exact h7
        ·
          exact h7

theorem keeps_State_canFifoIn {M : Nat} (hM : Nat.land 4503599627370497 M = 4503599627370497) {s0 : State} {s : State} {p1 : Nat} {p2 : Nat} {p3 : CanFrame} {p4 : Nat} (h : Keeps M s0 s) : Keeps M s0 (State.canFifoIn s p1 p2 p3 p4) := by
  unfold State.canFifoIn
  extract_lets -merge -useContext -underBinder v0 v1 v2 v3 v4
  try clear_value v0
  try clear_value v1
  try clear_value v2
  have h5 : Keeps M s0 v3 := by
    unfold v3
    refine (keeps_State_modCan (sub_trans rfl hM)) ?_
    exact h
  try clear_value v3
  have h6 : Keeps M s0 v4 := by
    unfold v4
    refine (keeps_State_count (sub_trans rfl hM)) ?_
    exact h5
  try clear_value v4
  refine ite_of (P := Keeps M s0) ?_ ?_
  ·
    refine (keeps_State_put (sub_trans rfl hM)) ?_
    refine (keeps_State_canStore (sub_trans rfl hM)) ?_
    exact h5
  ·
    refine ite_of (P := Keeps M s0) ?_ ?_
    ·
      refine (keeps_State_put (sub_trans rfl hM)) ?_
      refine (keeps_State_canStore (sub_trans rfl hM)) ?_
      exact h6
    ·
      exact h6

theorem keeps_State_canRecDown {M : Nat} (hM : Nat.land 1 M = 1) {s0 : State} {s : State} {p1 : Nat} (h : Keeps M s0 s) : Keeps M s0 (State.canRecDown s p1) := by
  unfold State.canRecDown
  extract_lets -merge -useContext -underBinder v0
  try clear_value v0
  refine ite_of (P := Keeps M s0) ?_ ?_
  ·
    exact h
  ·
    refine ite_of (P := Keeps M s0) ?_ ?_
    ·
      refine (keeps_State_canErrc (sub_trans rfl hM)) ?_
      exact h
    ·
      split
      ·
        rename_i t1 q3
        have h2 : Keeps M s0 t1 := by
          refine KP.out q3 ?_
          refine (keeps_State_freeWord (sub_trans rfl hM)) ?_
          exact h
        refine (keeps_State_canErrc (sub_trans rfl hM)) ?_
        exact h2

theorem keeps_State_canReceive {M : Nat} (hM : Nat.land 4503599627370497 M = 4503599627370497) {s0 : State} {s : State} {p1 : Nat} {p2 : CanFrame} {p3 : Nat} (h : Keeps M s0 s) : Keeps M s0 (State.canReceive s p1 p2 p3) := by
  unfold State.canReceive
  refine ite_of (P := Keeps M s0) ?_ ?_
  ·
    exact h
  ·
    extract_lets -merge -useContext -underBinder v0 v1
    try clear_value v0
    have h2 : Keeps M s0 v1 := by
      unfold v1
      refine (keeps_State_canRecDown (sub_trans rfl hM)) ?_
      exact h
    try clear_value v1
    refine ite_of (P := Keeps M s0) ?_ ?_
    ·
      refine (keeps_State_canFifoIn (sub_trans rfl hM)) ?_
      exact h2
    ·
      split
      ·
        refine (keeps_State_canBuffer (sub_trans rfl hM)) ?_
        exact h2
      ·
        split
        ·
          split
          ·
            refine (keeps_State_canFifoIn (sub_trans rfl hM)) ?_
            exact h2
          ·
            refine (keeps_State_canFifoIn (sub_trans rfl hM)) ?_
            exact h2
          ·
            exact h2
        ·
          refine (keeps_State_count (sub_trans rfl hM)) ?_
          exact h2

theorem keeps_State_canTxwd {M : Nat} (hM : Nat.land 4503599627370497 M = 4503599627370497) {s0 : State} {s : State} {p1 : Nat} {p2 : Nat} (h : Keeps M s0 s) : Keeps M s0 (State.canTxwd s p1 p2) := by
  unfold State.canTxwd
  extract_lets -merge -useContext -underBinder v0
  have h1 : Keeps M s0 v0 := by
    unfold v0
    refine (keeps_State_modCan (sub_trans rfl hM)) ?_
    exact h
  try clear_value v0
  refine foldl_of (P := Keeps M s0) ?_ ?_
  ·
    exact h1
  · intro t2 x3 h4
    beta_reduce
    refine (keeps_State_modCan (sub_trans rfl hM)) ?_
    refine (keeps_State_canCancel (sub_trans rfl hM)) ?_
    exact h4

theorem keeps_State_canHalt {M : Nat} (hM : Nat.land 4503599627370496 M = 4503599627370496) {s0 : State} {s : State} {p1 : Nat} (h : Keeps M s0 s) : Keeps M s0 (State.canHalt s p1) := by
  unfold State.canHalt
  refine ite_of (P := Keeps M s0) ?_ ?_
  ·
    refine (keeps_State_modCan (sub_trans rfl hM)) ?_
    exact h
  ·
    exact h

theorem keeps_State_freshClear {M : Nat} (hM : Nat.land 1 M = 1) {s0 : State} {s : State} {p1 : Nat} {p2 : Nat} (h : Keeps M s0 s) : Keeps M s0 (State.freshClear s p1 p2) := by
  unfold State.freshClear
  refine ite_of (P := Keeps M s0) ?_ ?_
  ·
    exact h
  ·
    refine (keeps_State_clrf (sub_trans rfl hM)) ?_
    exact h

theorem keeps_State_canTxgo {M : Nat} (hM : Nat.land 4503599627370497 M = 4503599627370497) {s0 : State} {s : State} {p1 : Nat} {p2 : Nat} (h : Keeps M s0 s) : Keeps M s0 (State.canTxgo s p1 p2) := by
  unfold State.canTxgo
  extract_lets -merge -useContext -underBinder v0
  have h1 : Keeps M s0 v0 := by
    unfold v0
    refine (keeps_State_canRequest (sub_trans rfl hM)) ?_
    exact h
  try clear_value v0
  split
  ·
    refine ite_of (P := Keeps M s0) ?_ ?_
    ·
      refine (keeps_State_canDivert (sub_trans rfl hM)) ?_
      exact h1
    ·
      exact h1
  ·
    exact h1

theorem keeps_State_fifoRelease {M : Nat} (hM : Nat.land 4503599627370497 M = 4503599627370497) {s0 : State} {s : State} {p1 : Nat} {p2 : Nat} (h : Keeps M s0 s) : Keeps M s0 (State.fifoRelease s p1 p2) := by
  unfold State.fifoRelease
  extract_lets -merge -useContext -underBinder v0
  try clear_value v0
  split
  ·
    refine ite_of (P := Keeps M s0) ?_ ?_
    ·
      refine (keeps_State_fifoFree (sub_trans rfl hM)) ?_
      exact h
    ·
      refine ite_of (P := Keeps M s0) ?_ ?_
      ·
        exact h
      ·
        refine ite_of (P := Keeps M s0) ?_ ?_
        ·
          refine (keeps_State_fifoFree (sub_trans rfl hM)) ?_
          exact h
        ·
          extract_lets -merge -useContext -underBinder v1
          have h2 : Keeps M s0 v1 := by
            unfold v1
            refine (keeps_State_put (sub_trans rfl hM)) ?_
            refine (keeps_State_canStore (sub_trans rfl hM)) ?_
            exact h
          try clear_value v1
          refine (keeps_State_modCan (sub_trans rfl hM)) ?_
          refine (keeps_State_put (sub_trans rfl hM)) ?_
          exact h2
  ·
    refine (keeps_State_fifoFree (sub_trans rfl hM)) ?_
    exact h

theorem keeps_State_canHaltWritten {M : Nat} (hM : Nat.land 4503599627370497 M = 4503599627370497) {s0 : State} {s : State} {p1 : Nat} (h : Keeps M s0 s) : Keeps M s0 (State.canHaltWritten s p1) := by
  unfold State.canHaltWritten
  refine ite_of (P := Keeps M s0) ?_ ?_
  ·
    refine (keeps_State_setf (sub_trans rfl hM)) ?_
    exact h
  ·
    refine ite_of (P := Keeps M s0) ?_ ?_
    ·
      exact h
    ·
      refine (keeps_State_modCan (sub_trans rfl hM)) ?_
      exact h

end Sys2Proof.Machine
end

