-- ==== Sys2Proof/Laws/KeepMotion.lean ====
section
/-! SUPPORT. The operations of Machine/Motion.lean keep what `Keeps` says. -/

namespace Sys2Proof.Machine

theorem keeps_State_segRegs {M : Nat} (hM : Nat.land 1 M = 1) {s0 : State} {s : State} {p1 : Nat} (h : Keeps M s0 s) : Keeps M s0 (State.segRegs s p1) := by
  unfold State.segRegs
  extract_lets -merge -useContext -underBinder v0 v1 v2
  try clear_value v0
  have h3 : Keeps M s0 v1 := by
    unfold v1
    refine (keeps_State_put (sub_trans rfl hM)) ?_
    exact h
  try clear_value v1
  have h4 : Keeps M s0 v2 := by
    unfold v2
    split
    ·
      refine ite_of (P := Keeps M s0) ?_ ?_
      ·
        refine (keeps_State_put (sub_trans rfl hM)) ?_
        exact h3
      ·
        exact h3
    ·
      exact h3
  try clear_value v2
  refine (keeps_State_putB (sub_trans rfl hM)) ?_
  exact h4

theorem keeps_State_finishAny {M : Nat} (hM : Nat.land 234881024 M = 234881024) {s0 : State} {s : State} {p1 : Option Nat} {p2 : Status} {p3 : optParam Nat 0} (h : Keeps M s0 s) : Keeps M s0 (State.finishAny s p1 p2 p3) := by
  unfold State.finishAny
  split
  ·
    refine (keeps_State_finish (sub_trans rfl hM)) ?_
    exact h
  ·
    exact h

theorem keeps_State_changeDone {M : Nat} (hM : Nat.land 234881024 M = 234881024) {s0 : State} {s : State} {p1 : SrcChange} {p2 : Status} {p3 : optParam Nat 0} (h : Keeps M s0 s) : Keeps M s0 (State.changeDone s p1 p2 p3) := by
  unfold State.changeDone
  refine (keeps_State_finishAny (sub_trans rfl hM)) ?_
  exact h

theorem keeps_State_phaseStep {M : Nat} (hM : Nat.land 235929600 M = 235929600) {s0 : State} {s : State} {p1 : Nat} {p2 : Nat} (h : Keeps M s0 s) : Keeps M s0 (State.phaseStep s p1 p2) := by
  unfold State.phaseStep
  extract_lets -merge -useContext -underBinder v0
  try clear_value v0
  split
  ·
    refine ite_of (P := Keeps M s0) ?_ ?_
    ·
      refine (keeps_State_finishAny (sub_trans rfl hM)) ?_
      refine (keeps_State_modMo (sub_trans rfl hM)) ?_
      exact h
    ·
      exact h
  ·
    split
    ·
      refine ite_of (P := Keeps M s0) ?_ ?_
      ·
        refine (keeps_State_finishAny (sub_trans rfl hM)) ?_
        refine (keeps_State_modMo (sub_trans rfl hM)) ?_
        exact h
      ·
        exact h
    ·
      exact h

theorem keeps_State_carryBase {M : Nat} (hM : Nat.land 1048576 M = 1048576) {s0 : State} {s : State} {p1 : Nat} {p2 : Nat} (h : Keeps M s0 s) : Keeps M s0 (State.carryBase s p1 p2) := by
  unfold State.carryBase
  refine (keeps_State_modMo (sub_trans rfl hM)) ?_
  exact h

theorem keeps_State_dropMoves {M : Nat} (hM : Nat.land 238026752 M = 238026752) {s0 : State} {s : State} {p1 : Nat} (h : Keeps M s0 s) : Keeps M s0 (State.dropMoves s p1) := by
  unfold State.dropMoves
  extract_lets -merge -useContext -underBinder v0 v1 v2
  try clear_value v0
  have h3 : Keeps M s0 v1 := by
    unfold v1
    refine foldl_of (P := Keeps M s0) ?_ ?_
    ·
      exact h
    · intro t4 x5 h6
      beta_reduce
      refine (keeps_State_finish (sub_trans rfl hM)) ?_
      exact h6
  try clear_value v1
  have h7 : Keeps M s0 v2 := by
    unfold v2
    refine (keeps_State_modMo (sub_trans rfl hM)) ?_
    exact h3
  try clear_value v2
  split
  ·
    exact h7
  ·
    extract_lets -merge -useContext -underBinder v8
    have h9 : Keeps M s0 v8 := by
      unfold v8
      refine foldl_of (P := Keeps M s0) ?_ ?_
      ·
        exact h7
      · intro t10 x11 h12
        beta_reduce
        refine (keeps_State_finishAny (sub_trans rfl hM)) ?_
        exact h12
    try clear_value v8
    refine Keeps.up_plans (sub_trans rfl hM) ?_
    exact h9

theorem keeps_State_injAbort {M : Nat} (hM : Nat.land 234881025 M = 234881025) {s0 : State} {s : State} {p1 : Nat} (h : Keeps M s0 s) : Keeps M s0 (State.injAbort s p1) := by
  unfold State.injAbort
  extract_lets -merge -useContext -underBinder v0
  try clear_value v0
  refine ite_of (P := Keeps M s0) ?_ ?_
  ·
    refine (keeps_State_resolve (sub_trans rfl hM)) ?_
    refine (keeps_State_setf (sub_trans rfl hM)) ?_
    refine (keeps_State_clrf (sub_trans rfl hM)) ?_
    exact h
  ·
    exact h

theorem keeps_State_startRampAt {M : Nat} (hM : Nat.land 1099749660673 M = 1099749660673) {s0 : State} {s : State} {p1 : Nat} {p2 : Nat} {p3 : Int} {p4 : Int} {p5 : Int} {p6 : EventKind} (h : Keeps M s0 s) : Keeps M s0 (State.startRampAt s p1 p2 p3 p4 p5 p6) := by
  unfold State.startRampAt
  refine ite_of (P := Keeps M s0) ?_ ?_
  ·
    exact h
  ·
    extract_lets -merge -useContext -underBinder v0
    have h1 : Keeps M s0 v0 := by
      unfold v0
      refine (keeps_State_modMo (sub_trans rfl hM)) ?_
      refine (keeps_State_injAbort (sub_trans rfl hM)) ?_
      refine (keeps_State_clrf (sub_trans rfl hM)) ?_
      refine (keeps_State_setf (sub_trans rfl hM)) ?_
      exact h
    try clear_value v0
    refine (keeps_State_group (sub_trans rfl hM)) ?_
    refine (keeps_State_event (sub_trans rfl hM)) ?_
    refine (keeps_State_lpNotice (sub_trans rfl hM)) ?_
    refine (keeps_State_dropMoves (sub_trans rfl hM)) ?_
    refine (keeps_State_clrf (sub_trans rfl hM)) ?_
    refine (keeps_State_resolve (sub_trans rfl hM)) ?_
    exact h1

theorem keeps_State_analogueLost {M : Nat} (hM : Nat.land 1099749660673 M = 1099749660673) {s0 : State} {s : State} {p1 : Nat} {p2 : Nat} (h : Keeps M s0 s) : Keeps M s0 (State.analogueLost s p1 p2) := by
  unfold State.analogueLost
  extract_lets -merge -useContext -underBinder v0 v1
  have h2 : Keeps M s0 v0 := by
    unfold v0
    refine (keeps_State_carryBase (sub_trans rfl hM)) ?_
    refine (keeps_State_setf (sub_trans rfl hM)) ?_
    exact h
  try clear_value v0
  try clear_value v1
  refine (keeps_State_startRampAt (sub_trans rfl hM)) ?_
  exact h2

theorem keeps_State_analogueVel {M : Nat} (hM : Nat.land 1099749660673 M = 1099749660673) {s0 : State} {s : State} {p1 : Nat} {p2 : Nat} (h : Keeps M s0 s) : Keeps M s0 (State.analogueVel s p1 p2) := by
  unfold State.analogueVel
  refine ite_of (P := Keeps M s0) ?_ ?_
  ·
    extract_lets -merge -useContext -underBinder v0 v1 v2
    try clear_value v0
    try clear_value v1
    try clear_value v2
    refine (keeps_State_modMo (sub_trans rfl hM)) ?_
    exact h
  ·
    refine (keeps_State_analogueLost (sub_trans rfl hM)) ?_
    exact h

theorem keeps_State_analogueTorque {M : Nat} (hM : Nat.land 1099749660673 M = 1099749660673) {s0 : State} {s : State} {p1 : Nat} {p2 : Nat} (h : Keeps M s0 s) : Keeps M s0 (State.analogueTorque s p1 p2) := by
  unfold State.analogueTorque
  refine ite_of (P := Keeps M s0) ?_ ?_
  ·
    refine (keeps_State_modMo (sub_trans rfl hM)) ?_
    exact h
  ·
    refine (keeps_State_analogueLost (sub_trans rfl hM)) ?_
    exact h

theorem keeps_State_holdBase {M : Nat} (hM : Nat.land 1048576 M = 1048576) {s0 : State} {s : State} {p1 : Nat} (h : Keeps M s0 s) : Keeps M s0 (State.holdBase s p1) := by
  unfold State.holdBase
  refine (keeps_State_modMo (sub_trans rfl hM)) ?_
  exact h

theorem keeps_State_camRun {M : Nat} (hM : Nat.land 1048577 M = 1048577) {s0 : State} {s : State} {p1 : Nat} {p2 : Nat} (h : Keeps M s0 s) : Keeps M s0 (State.camRun s p1 p2) := by
  unfold State.camRun
  extract_lets -merge -useContext -underBinder v0
  try clear_value v0
  split
  ·
    extract_lets -merge -useContext -underBinder v1 v2
    try clear_value v1
    try clear_value v2
    refine (keeps_State_modMo (sub_trans rfl hM)) ?_
    refine (keeps_State_putB (sub_trans rfl hM)) ?_
    refine (keeps_State_wr64I (sub_trans rfl hM)) ?_
    exact h
  ·
    refine (keeps_State_holdBase (sub_trans rfl hM)) ?_
    exact h

theorem keeps_State_setBase {M : Nat} (hM : Nat.land 1048576 M = 1048576) {s0 : State} {s : State} {p1 : Nat} {p2 : Int} {p3 : Int} {p4 : Int} {p5 : optParam Int 0} (h : Keeps M s0 s) : Keeps M s0 (State.setBase s p1 p2 p3 p4 p5) := by
  unfold State.setBase
  refine (keeps_State_modMo (sub_trans rfl hM)) ?_
  exact h

theorem keeps_State_followRamp {M : Nat} (hM : Nat.land 1048577 M = 1048577) {s0 : State} {s : State} {p1 : Nat} {p2 : Nat} (h : Keeps M s0 s) : Keeps M s0 (State.followRamp s p1 p2) := by
  unfold State.followRamp
  split
  ·
    exact h
  ·
    extract_lets -merge -useContext -underBinder v0 v1
    try clear_value v0
    have h2 : Keeps M s0 v1 := by
      unfold v1
      refine (keeps_State_setBase (sub_trans rfl hM)) ?_
      exact h
    try clear_value v1
    refine ite_of (P := Keeps M s0) ?_ ?_
    ·
      refine (keeps_State_modMo (sub_trans rfl hM)) ?_
      refine (keeps_State_clrf (sub_trans rfl hM)) ?_
      refine (keeps_State_holdBase (sub_trans rfl hM)) ?_
      exact h2
    ·
      exact h2

theorem keeps_State_gear {M : Nat} (hM : Nat.land 1048577 M = 1048577) {s0 : State} {s : State} {p1 : Nat} {p2 : Nat} (h : Keeps M s0 s) : Keeps M s0 (State.gear s p1 p2) := by
  unfold State.gear
  extract_lets -merge -useContext -underBinder v0 v1
  try clear_value v0
  try clear_value v1
  split
  ·
    refine (keeps_State_holdBase (sub_trans rfl hM)) ?_
    exact h
  ·
    extract_lets -merge -useContext -underBinder v2 v3 v4 v5
    try clear_value v2
    try clear_value v3
    try clear_value v4
    try clear_value v5
    refine ite_of (P := Keeps M s0) ?_ ?_
    ·
      refine (keeps_State_holdBase (sub_trans rfl hM)) ?_
      exact h
    ·
      split
      ·
        refine (keeps_State_modMo (sub_trans rfl hM)) ?_
        refine (keeps_State_wr64I (sub_trans rfl hM)) ?_
        refine (keeps_State_wrN (sub_trans rfl hM)) ?_
        exact h

theorem keeps_State_hsLate {M : Nat} (hM : Nat.land 1099749660673 M = 1099749660673) {s0 : State} {s : State} {p1 : Nat} {p2 : Nat} {p3 : Nat} {p4 : State → State} (h : Keeps M s0 s) (hf0 : ∀ x0, Keeps M s0 x0 → Keeps M s0 (p4 x0)) : Keeps M s0 (State.hsLate s p1 p2 p3 p4) := by
  unfold State.hsLate
  refine ite_of (P := Keeps M s0) ?_ ?_
  ·
    refine (keeps_State_modMo (sub_trans rfl hM)) ?_
    refine hf0 _ ?_
    exact h
  ·
    extract_lets -merge -useContext -underBinder v0 v1 v2
    try clear_value v0
    have h3 : Keeps M s0 v1 := by
      unfold v1
      refine (keeps_State_modMo (sub_trans rfl hM)) ?_
      refine (keeps_State_put (sub_trans rfl hM)) ?_
      refine hf0 _ ?_
      refine (keeps_State_setf (sub_trans rfl hM)) ?_
      exact h
    try clear_value v1
    try clear_value v2
    refine ite_of (P := Keeps M s0) ?_ ?_
    ·
      exact h3
    ·
      refine (keeps_State_startRampAt (sub_trans rfl hM)) ?_
      exact h3

theorem keeps_State_hostPos {M : Nat} (hM : Nat.land 1099749660673 M = 1099749660673) {s0 : State} {s : State} {p1 : Nat} {p2 : Nat} (h : Keeps M s0 s) : Keeps M s0 (State.hostPos s p1 p2) := by
  unfold State.hostPos
  extract_lets -merge -useContext -underBinder v0 v1
  try clear_value v0
  try clear_value v1
  split
  ·
    extract_lets -merge -useContext -underBinder v2 v3
    try clear_value v2
    try clear_value v3
    refine (keeps_State_modMo (sub_trans rfl hM)) ?_
    refine (keeps_State_setBase (sub_trans rfl hM)) ?_
    exact h
  ·
    extract_lets -merge -useContext -underBinder v4
    try clear_value v4
    split
    ·
      refine (keeps_State_hsLate (sub_trans rfl hM)) ?_ ?_
      ·
        exact h
      · intro x5 h6
        try beta_reduce
        extract_lets -merge -useContext -underBinder v7 v8
        try clear_value v7
        try clear_value v8
        refine ite_of (P := Keeps M s0) ?_ ?_
        ·
          refine (keeps_State_holdBase (sub_trans rfl hM)) ?_
          exact h6
        ·
          refine (keeps_State_setBase (sub_trans rfl hM)) ?_
          exact h6
    ·
      refine (keeps_State_hsLate (sub_trans rfl hM)) ?_ ?_
      ·
        exact h
      · intro x9 h10
        try beta_reduce
        extract_lets -merge -useContext -underBinder v11 v12
        try clear_value v11
        try clear_value v12
        refine ite_of (P := Keeps M s0) ?_ ?_
        ·
          refine (keeps_State_holdBase (sub_trans rfl hM)) ?_
          exact h10
        ·
          refine (keeps_State_setBase (sub_trans rfl hM)) ?_
          exact h10
    ·
      refine (keeps_State_hsLate (sub_trans rfl hM)) ?_ ?_
      ·
        exact h
      · intro x13 h14
        try beta_reduce
        refine (keeps_State_setBase (sub_trans rfl hM)) ?_
        exact h14
  ·
    refine (keeps_State_holdBase (sub_trans rfl hM)) ?_
    exact h

theorem keeps_State_hostTorque {M : Nat} (hM : Nat.land 1099749660673 M = 1099749660673) {s0 : State} {s : State} {p1 : Nat} {p2 : Nat} (h : Keeps M s0 s) : Keeps M s0 (State.hostTorque s p1 p2) := by
  unfold State.hostTorque
  split
  ·
    refine (keeps_State_hsLate (sub_trans rfl hM)) ?_ ?_
    ·
      exact h
    · intro x0 h1
      try beta_reduce
      refine (keeps_State_modMo (sub_trans rfl hM)) ?_
      exact h1
  ·
    exact h

theorem keeps_State_moveDone {M : Nat} (hM : Nat.land 234881024 M = 234881024) {s0 : State} {s : State} {p1 : Nat} {p2 : Nat} (h : Keeps M s0 s) : Keeps M s0 (State.moveDone s p1 p2) := by
  unfold State.moveDone
  refine foldl_of (P := Keeps M s0) ?_ ?_
  ·
    exact h
  · intro t0 x1 h2
    beta_reduce
    extract_lets -merge -useContext -underBinder v3
    have h4 : Keeps M s0 v3 := by
      unfold v3
      refine Keeps.up_waits (sub_trans rfl hM) ?_
      exact h2
    try clear_value v3
    refine ite_of (P := Keeps M s0) ?_ ?_
    ·
      exact h4
    ·
      refine (keeps_State_finish (sub_trans rfl hM)) ?_
      exact h4

theorem keeps_State_trajectory {M : Nat} (hM : Nat.land 1099749660673 M = 1099749660673) {s0 : State} {n t k : Nat} : ∀ {s : State}, Keeps M s0 s → Keeps M s0 (State.trajectory n t k s) := by
  induction k with
  | zero => intro s h; exact h
  | succ k ih =>
    intro s h
    unfold State.trajectory
    extract_lets -merge -useContext -underBinder m
    split
    · exact (keeps_State_holdBase (sub_trans rfl hM)) h
    · refine ite_of (P := Keeps M s0) ?_ ?_
      · refine ite_of (P := Keeps M s0) ((keeps_State_holdBase (sub_trans rfl hM)) h) ?_
        refine ite_of (P := Keeps M s0) (ih ((keeps_State_modMo (sub_trans rfl hM)) h)) ?_
        exact (keeps_State_followRamp (sub_trans rfl hM)) ((keeps_State_startRampAt (sub_trans rfl hM)) ((keeps_State_setf (sub_trans rfl hM)) h))
      · extract_lets -merge -useContext -underBinder e
        refine ite_of (P := Keeps M s0) ((keeps_State_setBase (sub_trans rfl hM)) h) ?_
        extract_lets -merge -useContext -underBinder x pe
        split
        · refine ite_of (P := Keeps M s0) ((keeps_State_moveDone (sub_trans rfl hM)) ((keeps_State_modMo (sub_trans rfl hM)) ((keeps_State_setBase (sub_trans rfl hM)) h))) ?_
          exact (keeps_State_followRamp (sub_trans rfl hM)) ((keeps_State_startRampAt (sub_trans rfl hM)) ((keeps_State_setf (sub_trans rfl hM)) h))
        · refine ite_of (P := Keeps M s0) (ih ?_) ?_
          · extract_lets -merge -useContext -underBinder s1
            exact ite_of (P := Keeps M s0) ((keeps_State_moveDone (sub_trans rfl hM)) ((keeps_State_modMo (sub_trans rfl hM)) h)) ((keeps_State_modMo (sub_trans rfl hM)) h)
          · exact (keeps_State_followRamp (sub_trans rfl hM)) ((keeps_State_startRampAt (sub_trans rfl hM)) ((keeps_State_setf (sub_trans rfl hM)) h))

theorem keeps_State_baseRun {M : Nat} (hM : Nat.land 1099749660673 M = 1099749660673) {s0 : State} {s : State} {p1 : Nat} {p2 : Nat} (h : Keeps M s0 s) : Keeps M s0 (State.baseRun s p1 p2) := by
  unfold State.baseRun
  split
  ·
    refine (keeps_State_followRamp (sub_trans rfl hM)) ?_
    exact h
  ·
    split
    ·
      refine (keeps_State_trajectory (sub_trans rfl hM)) ?_
      exact h
    ·
      refine (keeps_State_gear (sub_trans rfl hM)) ?_
      exact h
    ·
      refine (keeps_State_camRun (sub_trans rfl hM)) ?_
      exact h
    ·
      refine (keeps_State_hostPos (sub_trans rfl hM)) ?_
      exact h
    ·
      refine (keeps_State_hostTorque (sub_trans rfl hM)) ?_
      refine (keeps_State_carryBase (sub_trans rfl hM)) ?_
      exact h
    ·
      refine (keeps_State_analogueVel (sub_trans rfl hM)) ?_
      exact h
    ·
      refine (keeps_State_analogueTorque (sub_trans rfl hM)) ?_
      refine (keeps_State_carryBase (sub_trans rfl hM)) ?_
      exact h
    ·
      refine (keeps_State_holdBase (sub_trans rfl hM)) ?_
      exact h

theorem keeps_State_camFlags {M : Nat} (hM : Nat.land 1 M = 1) {s0 : State} {s : State} {p1 : Nat} (h : Keeps M s0 s) : Keeps M s0 (State.camFlags s p1) := by
  unfold State.camFlags
  extract_lets -merge -useContext -underBinder v0
  try clear_value v0
  refine (keeps_State_clrf (sub_trans rfl hM)) ?_
  refine (keeps_State_putB (sub_trans rfl hM)) ?_
  exact h

theorem keeps_State_reengage {M : Nat} (hM : Nat.land 8388609 M = 8388609) {s0 : State} {s : State} {p1 : Nat} {p2 : Nat} (h : Keeps M s0 s) : Keeps M s0 (State.reengage s p1 p2) := by
  unfold State.reengage
  extract_lets -merge -useContext -underBinder v0 v1
  try clear_value v0
  have h2 : Keeps M s0 v1 := by
    unfold v1
    refine ite_of (P := Keeps M s0) ?_ ?_
    ·
      refine (keeps_State_putB (sub_trans rfl hM)) ?_
      refine (keeps_State_clrf (sub_trans rfl hM)) ?_
      refine (keeps_State_clrf (sub_trans rfl hM)) ?_
      refine (keeps_State_clrf (sub_trans rfl hM)) ?_
      exact h
    ·
      exact h
  try clear_value v1
  refine Keeps.forEach ?_ ?_
  ·
    exact h2
  · intro t3 x4 h5
    beta_reduce
    refine ite_of (P := Keeps M s0) ?_ ?_
    ·
      refine (keeps_State_modShaft (sub_trans rfl hM)) ?_
      refine (keeps_State_clrf (sub_trans rfl hM)) ?_
      refine (keeps_State_clrf (sub_trans rfl hM)) ?_
      exact h5
    ·
      exact h5

theorem keeps_State_applyChange {M : Nat} (hM : Nat.land 1099758049281 M = 1099758049281) {s0 : State} {s : State} {p1 : Nat} {p2 : Nat} {p3 : SrcChange} (h : Keeps M s0 s) : Keeps M s0 (State.applyChange s p1 p2 p3) := by
  unfold State.applyChange
  extract_lets -merge -useContext -underBinder v0 v1 v2 v3
  have h4 : Keeps M s0 v0 := by
    unfold v0
    refine (keeps_State_modMo (sub_trans rfl hM)) ?_
    refine (keeps_State_reengage (sub_trans rfl hM)) ?_
    exact h
  try clear_value v0
  have h5 : Keeps M s0 v1 := by
    unfold v1
    refine (keeps_State_putB (sub_trans rfl hM)) ?_
    refine (keeps_State_put (sub_trans rfl hM)) ?_
    refine (keeps_State_put (sub_trans rfl hM)) ?_
    exact h4
  try clear_value v1
  try clear_value v2
  have h6 : Keeps M s0 v3 := by
    unfold v3
    split
    ·
      extract_lets -merge -useContext -underBinder v7
      have h8 : Keeps M s0 v7 := by
        unfold v7
        refine (keeps_State_wrN (sub_trans rfl hM)) ?_
        refine (keeps_State_wrI (sub_trans rfl hM)) ?_
        exact h5
      try clear_value v7
      refine (keeps_State_modMo (sub_trans rfl hM)) ?_
      refine ite_of (P := Keeps M s0) ?_ ?_
      ·
        exact h8
      ·
        refine (keeps_State_wrN (sub_trans rfl hM)) ?_
        exact h8
    ·
      split
      ·
        extract_lets -merge -useContext -underBinder v9 v10
        try clear_value v9
        try clear_value v10
        refine (keeps_State_modMo (sub_trans rfl hM)) ?_
        refine (keeps_State_putB (sub_trans rfl hM)) ?_
        refine (keeps_State_put (sub_trans rfl hM)) ?_
        exact h5
      ·
        exact h5
    ·
      refine (keeps_State_modMo (sub_trans rfl hM)) ?_
      exact h5
  try clear_value v3
  refine (keeps_State_baseRun (sub_trans rfl hM)) ?_
  refine (keeps_State_changeDone (sub_trans rfl hM)) ?_
  refine (keeps_State_camFlags (sub_trans rfl hM)) ?_
  exact h6

theorem keeps_State_latNote {M : Nat} (hM : Nat.land 1 M = 1) {s0 : State} {s : State} {p1 : Nat} {p2 : Nat} (h : Keeps M s0 s) : Keeps M s0 (State.latNote s p1 p2) := by
  unfold State.latNote
  extract_lets -merge -useContext -underBinder v0 v1
  try clear_value v0
  have h2 : Keeps M s0 v1 := by
    unfold v1
    refine (keeps_State_put (sub_trans rfl hM)) ?_
    exact h
  try clear_value v1
  refine (keeps_State_put (sub_trans rfl hM)) ?_
  exact h2

theorem keeps_State_shaftLose {M : Nat} (hM : Nat.land 1099520022529 M = 1099520022529) {s0 : State} {s : State} {p1 : Nat} {p2 : MState} {p3 : Nat} (h : Keeps M s0 s) : Keeps M s0 (State.shaftLose s p1 p2 p3) := by
  unfold State.shaftLose
  extract_lets -merge -useContext -underBinder v0 v1
  try clear_value v0
  have h2 : Keeps M s0 v1 := by
    unfold v1
    refine (keeps_State_modShaft (sub_trans rfl hM)) ?_
    refine (keeps_State_setf (sub_trans rfl hM)) ?_
    exact h
  try clear_value v1
  refine (keeps_State_group (sub_trans rfl hM)) ?_
  refine (keeps_State_group (sub_trans rfl hM)) ?_
  refine (keeps_State_event (sub_trans rfl hM)) ?_
  refine Keeps.forEach ?_ ?_
  ·
    exact h2
  · intro t3 x4 h5
    beta_reduce
    refine (keeps_State_lpNotice (sub_trans rfl hM)) ?_
    refine (keeps_State_setf (sub_trans rfl hM)) ?_
    refine (keeps_State_setf (sub_trans rfl hM)) ?_
    refine (keeps_State_setf (sub_trans rfl hM)) ?_
    exact h5

theorem keeps_State_shaftFrame {M : Nat} (hM : Nat.land 1099520022529 M = 1099520022529) {s0 : State} {s : State} {p1 : Nat} (h : Keeps M s0 s) : Keeps M s0 (State.shaftFrame s p1) := by
  unfold State.shaftFrame
  extract_lets -merge -useContext -underBinder v0 v1 v2 v3 v4
  try clear_value v0
  have h5 : Keeps M s0 v1 := by
    unfold v1
    refine (keeps_State_modShaft (sub_trans rfl hM)) ?_
    exact h
  try clear_value v1
  try clear_value v2
  try clear_value v3
  try clear_value v4
  refine ite_of (P := Keeps M s0) ?_ ?_
  ·
    exact h
  ·
    split
    ·
      exact h5
    ·
      extract_lets -merge -useContext -underBinder v6 v7 v8 v9 v10 v11 v12
      try clear_value v6
      try clear_value v7
      try clear_value v8
      have h13 : Keeps M s0 v9 := by
        unfold v9
        refine (keeps_State_put (sub_trans rfl hM)) ?_
        exact h5
      try clear_value v9
      try clear_value v10
      have h14 : Keeps M s0 v11 := by
        unfold v11
        refine (keeps_State_count (sub_trans rfl hM)) ?_
        refine (keeps_State_setf (sub_trans rfl hM)) ?_
        exact h13
      try clear_value v11
      have h15 : Keeps M s0 v12 := by
        unfold v12
        refine ite_of (P := Keeps M s0) ?_ ?_
        ·
          refine (keeps_State_group (sub_trans rfl hM)) ?_
          refine (keeps_State_event (sub_trans rfl hM)) ?_
          exact h14
        ·
          exact h14
      try clear_value v12
      refine ite_of (P := Keeps M s0) ?_ ?_
      ·
        exact h13
      ·
        refine ite_of (P := Keeps M s0) ?_ ?_
        ·
          refine (keeps_State_shaftLose (sub_trans rfl hM)) ?_
          exact h13
        ·
          refine ite_of (P := Keeps M s0) ?_ ?_
          ·
            refine ite_of (P := Keeps M s0) ?_ ?_
            ·
              refine (keeps_State_clrf (sub_trans rfl hM)) ?_
              exact h13
            ·
              exact h13
          ·
            refine ite_of (P := Keeps M s0) ?_ ?_
            ·
              refine (keeps_State_shaftLose (sub_trans rfl hM)) ?_
              exact h15
            ·
              refine Keeps.forEach ?_ ?_
              ·
                exact h15
              · intro t16 x17 h18
                beta_reduce
                refine (keeps_State_count (sub_trans rfl hM)) ?_
                exact h18

theorem keeps_State_pendFlag {M : Nat} (hM : Nat.land 1 M = 1) {s0 : State} {s : State} {p1 : Nat} (h : Keeps M s0 s) : Keeps M s0 (State.pendFlag s p1) := by
  unfold State.pendFlag
  refine (keeps_State_putB (sub_trans rfl hM)) ?_
  exact h

theorem keeps_State_shaftAccept {M : Nat} (hM : Nat.land 8388609 M = 8388609) {s0 : State} {s : State} {p1 : Nat} {p2 : MState} {p3 : Nat} {p4 : Int} {p5 : Int} (h : Keeps M s0 s) : Keeps M s0 (State.shaftAccept s p1 p2 p3 p4 p5) := by
  unfold State.shaftAccept
  extract_lets -merge -useContext -underBinder v0 v1 v2 v3
  try clear_value v0
  try clear_value v1
  try clear_value v2
  have h4 : Keeps M s0 v3 := by
    unfold v3
    refine (keeps_State_wr64I (sub_trans rfl hM)) ?_
    refine (keeps_State_wr64I (sub_trans rfl hM)) ?_
    refine (keeps_State_put (sub_trans rfl hM)) ?_
    refine (keeps_State_wr64N (sub_trans rfl hM)) ?_
    exact h
  try clear_value v3
  refine ite_of (P := Keeps M s0) ?_ ?_
  ·
    exact h
  ·
    refine ite_of (P := Keeps M s0) ?_ ?_
    ·
      refine (keeps_State_count (sub_trans rfl hM)) ?_
      exact h
    ·
      refine ite_of (P := Keeps M s0) ?_ ?_
      ·
        refine (keeps_State_modShaft (sub_trans rfl hM)) ?_
        refine (keeps_State_setf (sub_trans rfl hM)) ?_
        exact h4
      ·
        refine (keeps_State_count (sub_trans rfl hM)) ?_
        exact h

theorem keeps_State_restEnded {M : Nat} (hM : Nat.land 1048577 M = 1048577) {s0 : State} {s : State} {p1 : Nat} (h : Keeps M s0 s) : Keeps M s0 (State.restEnded s p1) := by
  unfold State.restEnded
  split
  ·
    refine ite_of (P := Keeps M s0) ?_ ?_
    ·
      extract_lets -merge -useContext -underBinder v0 v1
      have h2 : Keeps M s0 v0 := by
        unfold v0
        refine (keeps_State_followRamp (sub_trans rfl hM)) ?_
        exact h
      try clear_value v0
      try clear_value v1
      refine (keeps_State_modMo (sub_trans rfl hM)) ?_
      refine (keeps_State_wr64I (sub_trans rfl hM)) ?_
      exact h2
    ·
      exact h
  ·
    exact h

theorem keeps_State_refuseChange {M : Nat} (hM : Nat.land 234883073 M = 234883073) {s0 : State} {s : State} {p1 : Nat} {p2 : SrcChange} (h : Keeps M s0 s) : Keeps M s0 (State.refuseChange s p1 p2) := by
  unfold State.refuseChange
  extract_lets -merge -useContext -underBinder v0
  have h1 : Keeps M s0 v0 := by
    unfold v0
    refine ite_of (P := Keeps M s0) ?_ ?_
    ·
      refine (keeps_State_setf (sub_trans rfl hM)) ?_
      exact h
    ·
      refine (keeps_State_setf (sub_trans rfl hM)) ?_
      exact h
  try clear_value v0
  refine (keeps_State_changeDone (sub_trans rfl hM)) ?_
  refine (keeps_State_event (sub_trans rfl hM)) ?_
  exact h1

theorem keeps_State_takeChange {M : Nat} (hM : Nat.land 1099758049281 M = 1099758049281) {s0 : State} {s : State} {p1 : Nat} {p2 : Nat} {p3 : SrcChange} (h : Keeps M s0 s) : Keeps M s0 (State.takeChange s p1 p2 p3) := by
  unfold State.takeChange
  extract_lets -merge -useContext -underBinder v0 v1 v2 v3 v4
  try clear_value v0
  try clear_value v1
  try clear_value v2
  try clear_value v3
  try clear_value v4
  refine ite_of (P := Keeps M s0) ?_ ?_
  ·
    refine (keeps_State_applyChange (sub_trans rfl hM)) ?_
    exact h
  ·
    refine (keeps_State_refuseChange (sub_trans rfl hM)) ?_
    exact h

theorem keeps_State_shaftReturn {M : Nat} (hM : Nat.land 8390657 M = 8390657) {s0 : State} {s : State} {p1 : Nat} {p2 : Nat} (h : Keeps M s0 s) : Keeps M s0 (State.shaftReturn s p1 p2) := by
  unfold State.shaftReturn
  extract_lets -merge -useContext -underBinder v0
  try clear_value v0
  split
  ·
    refine ite_of (P := Keeps M s0) ?_ ?_
    ·
      exact h
    ·
      refine ite_of (P := Keeps M s0) ?_ ?_
      ·
        refine (keeps_State_modShaft (sub_trans rfl hM)) ?_
        refine (keeps_State_clrf (sub_trans rfl hM)) ?_
        exact h
      ·
        refine (keeps_State_modShaft (sub_trans rfl hM)) ?_
        refine Keeps.forEach ?_ ?_
        ·
          exact h
        · intro t1 x2 h3
          beta_reduce
          refine (keeps_State_event (sub_trans rfl hM)) ?_
          refine (keeps_State_setf (sub_trans rfl hM)) ?_
          exact h3
  ·
    exact h

theorem keeps_State_shaftStatus {M : Nat} (hM : Nat.land 8390657 M = 8390657) {s0 : State} {s : State} {p1 : Nat} {p2 : Nat} (h : Keeps M s0 s) : Keeps M s0 (State.shaftStatus s p1 p2) := by
  unfold State.shaftStatus
  extract_lets -merge -useContext -underBinder v0 v1 v2 v3 v4
  try clear_value v0
  try clear_value v1
  try clear_value v2
  have h5 : Keeps M s0 v3 := by
    unfold v3
    refine (keeps_State_shaftReturn (sub_trans rfl hM)) ?_
    exact h
  try clear_value v3
  have h6 : Keeps M s0 v4 := by
    unfold v4
    refine (keeps_State_putB (sub_trans rfl hM)) ?_
    exact h5
  try clear_value v4
  refine ite_of (P := Keeps M s0) ?_ ?_
  ·
    split
    ·
      refine ite_of (P := Keeps M s0) ?_ ?_
      ·
        refine (keeps_State_clrf (sub_trans rfl hM)) ?_
        exact h6
      ·
        exact h6
    ·
      exact h6
  ·
    refine (keeps_State_clrf (sub_trans rfl hM)) ?_
    exact h

theorem keeps_State_startRamp {M : Nat} (hM : Nat.land 1099749660673 M = 1099749660673) {s0 : State} {s : State} {p1 : Nat} {p2 : EventKind} (h : Keeps M s0 s) : Keeps M s0 (State.startRamp s p1 p2) := by
  unfold State.startRamp
  extract_lets -merge -useContext -underBinder v0
  try clear_value v0
  refine (keeps_State_startRampAt (sub_trans rfl hM)) ?_
  exact h

theorem keeps_State_stopMotion {M : Nat} (hM : Nat.land 238026753 M = 238026753) {s0 : State} {s : State} {p1 : Nat} (h : Keeps M s0 s) : Keeps M s0 (State.stopMotion s p1) := by
  unfold State.stopMotion
  extract_lets -merge -useContext -underBinder v0 v1 v2 v3 v4 v5
  have h6 : Keeps M s0 v0 := by
    unfold v0
    refine (keeps_State_restEnded (sub_trans rfl hM)) ?_
    exact h
  try clear_value v0
  try clear_value v1
  try clear_value v2
  try clear_value v3
  have h7 : Keeps M s0 v4 := by
    unfold v4
    refine (keeps_State_modMo (sub_trans rfl hM)) ?_
    refine foldl_of (P := Keeps M s0) ?_ ?_
    ·
      refine (keeps_State_dropMoves (sub_trans rfl hM)) ?_
      exact h6
    · intro t8 x9 h10
      beta_reduce
      refine (keeps_State_finishAny (sub_trans rfl hM)) ?_
      exact h10
  try clear_value v4
  have h11 : Keeps M s0 v5 := by
    unfold v5
    refine (keeps_State_clrf (sub_trans rfl hM)) ?_
    refine (keeps_State_clrf (sub_trans rfl hM)) ?_
    exact h7
  try clear_value v5
  refine (keeps_State_segRegs (sub_trans rfl hM)) ?_
  refine ite_of (P := Keeps M s0) ?_ ?_
  ·
    refine (keeps_State_clrf (sub_trans rfl hM)) ?_
    exact h11
  ·
    exact h11

theorem keeps_State_publishSp {M : Nat} (hM : Nat.land 1048577 M = 1048577) {s0 : State} {s : State} {p1 : Nat} {p2 : Nat} {p3 : MState} (h : Keeps M s0 s) : Keeps M s0 (State.publishSp s p1 p2 p3) := by
  unfold State.publishSp
  refine (keeps_State_modMo (sub_trans rfl hM)) ?_
  refine (keeps_State_latNote (sub_trans rfl hM)) ?_
  exact h

theorem keeps_State_regChannel {M : Nat} (hM : Nat.land 1572865 M = 1572865) {s0 : State} {s : State} {p1 : Nat} {p2 : Nat} (h : Keeps M s0 s) : Keeps M s0 (State.regChannel s p1 p2) := by
  unfold State.regChannel
  refine Keeps.forEach ?_ ?_
  ·
    exact h
  · intro t0 x1 h2
    beta_reduce
    refine ite_of (P := Keeps M s0) ?_ ?_
    ·
      extract_lets -merge -useContext -underBinder v3 v4 v5 v6
      try clear_value v3
      try clear_value v4
      try clear_value v5
      try clear_value v6
      refine (keeps_State_putB (sub_trans rfl hM)) ?_
      refine (keeps_State_modRc (sub_trans rfl hM)) ?_
      refine (keeps_State_modMo (sub_trans rfl hM)) ?_
      exact h2
    ·
      exact h2

theorem keeps_State_sourceChange {M : Nat} (hM : Nat.land 1099758049281 M = 1099758049281) {s0 : State} {s : State} {p1 : Nat} {p2 : Nat} (h : Keeps M s0 s) : Keeps M s0 (State.sourceChange s p1 p2) := by
  unfold State.sourceChange
  extract_lets -merge -useContext -underBinder v0 v1 v2 v3
  try clear_value v0
  try clear_value v1
  try clear_value v2
  have h4 : Keeps M s0 v3 := by
    unfold v3
    refine (keeps_State_pendFlag (sub_trans rfl hM)) ?_
    refine (keeps_State_modMo (sub_trans rfl hM)) ?_
    exact h
  try clear_value v3
  refine ite_of (P := Keeps M s0) ?_ ?_
  ·
    exact h
  ·
    split
    ·
      exact h4
    ·
      refine (keeps_State_takeChange (sub_trans rfl hM)) ?_
      refine foldl_of (P := Keeps M s0) ?_ ?_
      ·
        exact h4
      · intro t5 x6 h7
        beta_reduce
        refine (keeps_State_changeDone (sub_trans rfl hM)) ?_
        exact h7

theorem keeps_State_setpoint {M : Nat} (hM : Nat.land 1099758573569 M = 1099758573569) {s0 : State} {s : State} {p1 : Nat} {p2 : Nat} (h : Keeps M s0 s) : Keeps M s0 (State.setpoint s p1 p2) := by
  unfold State.setpoint
  extract_lets -merge -useContext -underBinder v0 v1 v2 v3 v4 v5 v6 v7 v8 v9 v10 v11 v12
  try clear_value v0
  have h13 : Keeps M s0 v1 := by
    unfold v1
    refine (keeps_State_modMo (sub_trans rfl hM)) ?_
    exact h
  try clear_value v1
  try clear_value v2
  have h14 : Keeps M s0 v3 := by
    unfold v3
    refine (keeps_State_baseRun (sub_trans rfl hM)) ?_
    refine (keeps_State_shaftStatus (sub_trans rfl hM)) ?_
    exact h13
  try clear_value v3
  have h15 : Keeps M s0 v4 := by
    unfold v4
    refine ite_of (P := Keeps M s0) ?_ ?_
    ·
      exact h14
    ·
      refine (keeps_State_sourceChange (sub_trans rfl hM)) ?_
      exact h14
  try clear_value v4
  try clear_value v5
  have h16 : Keeps M s0 v6 := by
    unfold v6
    refine ite_of (P := Keeps M s0) ?_ ?_
    ·
      refine (keeps_State_modMo (sub_trans rfl hM)) ?_
      refine (keeps_State_startRampAt (sub_trans rfl hM)) ?_
      exact h15
    ·
      exact h15
  try clear_value v6
  have h17 : Keeps M s0 v7 := by
    unfold v7
    refine (keeps_State_modMo (sub_trans rfl hM)) ?_
    refine (keeps_State_regChannel (sub_trans rfl hM)) ?_
    refine (keeps_State_phaseStep (sub_trans rfl hM)) ?_
    exact h16
  try clear_value v7
  try clear_value v8
  try clear_value v9
  try clear_value v10
  try clear_value v11
  have h18 : Keeps M s0 v12 := by
    unfold v12
    refine (keeps_State_wr64I (sub_trans rfl hM)) ?_
    refine (keeps_State_wr64I (sub_trans rfl hM)) ?_
    refine (keeps_State_wr64I (sub_trans rfl hM)) ?_
    refine (keeps_State_wr64I (sub_trans rfl hM)) ?_
    exact h17
  try clear_value v12
  refine (keeps_State_publishSp (sub_trans rfl hM)) ?_
  refine (keeps_State_segRegs (sub_trans rfl hM)) ?_
  exact h18

theorem keeps_State_shaftFill {M : Nat} (hM : Nat.land 8388608 M = 8388608) {s0 : State} {s : State} {p1 : Nat} (h : Keeps M s0 s) : Keeps M s0 (State.shaftFill s p1) := by
  unfold State.shaftFill
  refine ite_of (P := Keeps M s0) ?_ ?_
  ·
    extract_lets -merge -useContext -underBinder v0 v1 v2 v3 v4 v5
    try clear_value v0
    try clear_value v1
    try clear_value v2
    try clear_value v3
    try clear_value v4
    try clear_value v5
    split
    ·
      refine (keeps_State_modShaft (sub_trans rfl hM)) ?_
      exact h
    ·
      exact h
  ·
    exact h

end Sys2Proof.Machine
end

