-- ==== Sys2Proof/Laws/KeepLoops.lean ====
section
/-! SUPPORT. The operations of Machine/Loops.lean keep what `Keeps` says. -/

namespace Sys2Proof.Machine

theorem keeps_State_setBin {M : Nat} (hM : Nat.land 8 M = 8) {s0 : State} {s : State} {p1 : Nat} {p2 : Int} (h : Keeps M s0 s) : Keeps M s0 (State.setBin s p1 p2) := by
  unfold State.setBin
  refine Keeps.up_mem_pool (sub_trans rfl hM) ?_ (Memory.wf_pool wmSet_wf)
  exact h

theorem keeps_State_loopApplyAt {M : Nat} (hM : Nat.land 771751939 M = 771751939) {s0 : State} {s : State} {p1 : Nat} {p2 : Nat} (h : Keeps M s0 s) : Keeps M s0 (State.loopApplyAt s p1 p2) := by
  unfold State.loopApplyAt
  split
  ·
    exact h
  ·
    refine ite_of (P := Keeps M s0) ?_ ?_
    ·
      exact h
    ·
      extract_lets -merge -useContext -underBinder v0 v1 v2
      try clear_value v0
      have h3 : Keeps M s0 v1 := by
        unfold v1
        refine foldl_of (P := Keeps M s0) ?_ ?_
        ·
          exact h
        · intro t4 x5 h6
          beta_reduce
          refine (keeps_State_awr (sub_trans rfl hM)) ?_
          exact h6
      try clear_value v1
      try clear_value v2
      split
      ·
        extract_lets -merge -useContext -underBinder v7 v8 v9 v10 v11 v12 v13 v14 v15
        try clear_value v7
        try clear_value v8
        have h16 : Keeps M s0 v9 := by
          unfold v9
          refine ite_of (P := Keeps M s0) ?_ ?_
          ·
            refine (keeps_State_setf (sub_trans rfl hM)) ?_
            exact h3
          ·
            exact h3
        try clear_value v9
        have h17 : Keeps M s0 v10 := by
          unfold v10
          refine ite_of (P := Keeps M s0) ?_ ?_
          ·
            refine (keeps_State_setf (sub_trans rfl hM)) ?_
            exact h16
          ·
            exact h16
        try clear_value v10
        try clear_value v11
        try clear_value v12
        have h18 : Keeps M s0 v13 := by
          unfold v13
          refine ite_of (P := Keeps M s0) ?_ ?_
          ·
            refine (keeps_State_setf (sub_trans rfl hM)) ?_
            exact h17
          ·
            exact h17
        try clear_value v13
        try clear_value v14
        try clear_value v15
        refine (keeps_State_resolve (sub_trans rfl hM)) ?_
        refine (keeps_State_modLoop (sub_trans rfl hM)) ?_
        refine (keeps_State_clrf (sub_trans rfl hM)) ?_
        exact h18

theorem keeps_State_actual {M : Nat} (hM : Nat.land 536870912 M = 536870912) {s0 : State} {s : State} {p1 : Nat} (h : Keeps M s0 s) : KP M s0 (State.actual s p1) := by
  unfold State.actual
  extract_lets -merge -useContext -underBinder v0 v1 v2 v3 v4 v5 v6
  try clear_value v0
  try clear_value v1
  try clear_value v2
  try clear_value v3
  try clear_value v4
  try clear_value v5
  try clear_value v6
  refine KP.mk ?_
  refine (keeps_State_modLoop (sub_trans rfl hM)) ?_
  exact h

theorem keeps_State_deviation {M : Nat} (hM : Nat.land 1099511629825 M = 1099511629825) {s0 : State} {s : State} {p1 : Nat} (h : Keeps M s0 s) : Keeps M s0 (State.deviation s p1) := by
  unfold State.deviation
  extract_lets -merge -useContext -underBinder v0 v1 v2
  try clear_value v0
  try clear_value v1
  try clear_value v2
  refine ite_of (P := Keeps M s0) ?_ ?_
  ·
    refine ite_of (P := Keeps M s0) ?_ ?_
    ·
      refine (keeps_State_event (sub_trans rfl hM)) ?_
      refine (keeps_State_lpNotice (sub_trans rfl hM)) ?_
      refine (keeps_State_setf (sub_trans rfl hM)) ?_
      exact h
    ·
      exact h
  ·
    exact h

theorem keeps_State_torqueOff {M : Nat} (hM : Nat.land 1100286531585 M = 1100286531585) {s0 : State} {s : State} {p1 : Nat} (h : Keeps M s0 s) : Keeps M s0 (State.torqueOff s p1) := by
  unfold State.torqueOff
  refine ite_of (P := Keeps M s0) ?_ ?_
  ·
    exact h
  ·
    extract_lets -merge -useContext -underBinder v0 v1
    have h2 : Keeps M s0 v0 := by
      unfold v0
      refine (keeps_State_injAbort (sub_trans rfl hM)) ?_
      refine (keeps_State_modLoop (sub_trans rfl hM)) ?_
      refine (keeps_State_setf (sub_trans rfl hM)) ?_
      exact h
    try clear_value v0
    have h3 : Keeps M s0 v1 := by
      unfold v1
      refine (keeps_State_clrf (sub_trans rfl hM)) ?_
      refine (keeps_State_resolve (sub_trans rfl hM)) ?_
      refine (keeps_State_modMo (sub_trans rfl hM)) ?_
      exact h2
    try clear_value v1
    refine (keeps_State_group (sub_trans rfl hM)) ?_
    refine (keeps_State_event (sub_trans rfl hM)) ?_
    refine (keeps_State_lpNotice (sub_trans rfl hM)) ?_
    refine (keeps_State_dropMoves (sub_trans rfl hM)) ?_
    exact h3

theorem keeps_State_superviseStop {M : Nat} (hM : Nat.land 1100286531585 M = 1100286531585) {s0 : State} {s : State} {p1 : Nat} {p2 : EventKind} {p3 : Nat} (h : Keeps M s0 s) : Keeps M s0 (State.superviseStop s p1 p2 p3) := by
  unfold State.superviseStop
  refine ite_of (P := Keeps M s0) ?_ ?_
  ·
    refine ite_of (P := Keeps M s0) ?_ ?_
    ·
      refine (keeps_State_event (sub_trans rfl hM)) ?_
      exact h
    ·
      refine (keeps_State_event (sub_trans rfl hM)) ?_
      refine (keeps_State_torqueOff (sub_trans rfl hM)) ?_
      exact h
  ·
    refine (keeps_State_modMo (sub_trans rfl hM)) ?_
    refine (keeps_State_startRamp (sub_trans rfl hM)) ?_
    exact h

theorem keeps_State_feCheck {M : Nat} (hM : Nat.land 1100286531585 M = 1100286531585) {s0 : State} {s : State} {p1 : Nat} {p2 : Int} (h : Keeps M s0 s) : Keeps M s0 (State.feCheck s p1 p2) := by
  unfold State.feCheck
  extract_lets -merge -useContext -underBinder v0
  try clear_value v0
  refine ite_of (P := Keeps M s0) ?_ ?_
  ·
    refine (keeps_State_superviseStop (sub_trans rfl hM)) ?_
    refine (keeps_State_count (sub_trans rfl hM)) ?_
    refine (keeps_State_setf (sub_trans rfl hM)) ?_
    exact h
  ·
    exact h

theorem keeps_State_fbLoss {M : Nat} (hM : Nat.land 1100286531585 M = 1100286531585) {s0 : State} {s : State} {p1 : Nat} (h : Keeps M s0 s) : Keeps M s0 (State.fbLoss s p1) := by
  unfold State.fbLoss
  refine (keeps_State_event (sub_trans rfl hM)) ?_
  refine (keeps_State_torqueOff (sub_trans rfl hM)) ?_
  refine (keeps_State_setf (sub_trans rfl hM)) ?_
  exact h

theorem keeps_State_posFallback {M : Nat} (hM : Nat.land 1100286531585 M = 1100286531585) {s0 : State} {s : State} {p1 : Nat} (h : Keeps M s0 s) : Keeps M s0 (State.posFallback s p1) := by
  unfold State.posFallback
  extract_lets -merge -useContext -underBinder v0 v1 v2 v3
  try clear_value v0
  try clear_value v1
  try clear_value v2
  try clear_value v3
  refine ite_of (P := Keeps M s0) ?_ ?_
  ·
    refine (keeps_State_startRamp (sub_trans rfl hM)) ?_
    refine (keeps_State_event (sub_trans rfl hM)) ?_
    refine (keeps_State_modLoop (sub_trans rfl hM)) ?_
    refine (keeps_State_setf (sub_trans rfl hM)) ?_
    exact h
  ·
    refine (keeps_State_fbLoss (sub_trans rfl hM)) ?_
    exact h

theorem keeps_State_posLaw {M : Nat} (hM : Nat.land 536870913 M = 536870913) {s0 : State} {s : State} {p1 : Nat} {p2 : Int} (h : Keeps M s0 s) : Keeps M s0 (State.posLaw s p1 p2) := by
  unfold State.posLaw
  extract_lets -merge -useContext -underBinder v0 v1 v2 v3 v4 v5 v6 v7 v8 v9 v10 v11 v12 v13 v14 v15 v16 v17 v18 v19
  try clear_value v0
  try clear_value v1
  try clear_value v2
  try clear_value v3
  have h20 : Keeps M s0 v4 := by
    unfold v4
    refine (keeps_State_wr64I (sub_trans rfl hM)) ?_
    exact h
  try clear_value v4
  have h21 : Keeps M s0 v5 := by
    unfold v5
    refine ite_of (P := Keeps M s0) ?_ ?_
    ·
      exact h20
    ·
      refine (keeps_State_count (sub_trans rfl hM)) ?_
      refine (keeps_State_setf (sub_trans rfl hM)) ?_
      exact h20
  try clear_value v5
  try clear_value v6
  try clear_value v7
  try clear_value v8
  try clear_value v9
  try clear_value v10
  try clear_value v11
  try clear_value v12
  try clear_value v13
  try clear_value v14
  try clear_value v15
  try clear_value v16
  try clear_value v17
  try clear_value v18
  try clear_value v19
  refine (keeps_State_modLoop (sub_trans rfl hM)) ?_
  refine (keeps_State_putB (sub_trans rfl hM)) ?_
  exact h21

theorem keeps_State_repLearn {M : Nat} (hM : Nat.land 8 M = 8) {s0 : State} {s : State} {p1 : Nat} {p2 : Nat} {p3 : Nat} {p4 : Int} {p5 : Int} {p6 : Int} {p7 : Nat} (h : Keeps M s0 s) : Keeps M s0 (State.repLearn s p1 p2 p3 p4 p5 p6 p7) := by
  unfold State.repLearn
  extract_lets -merge -useContext -underBinder v0 v1 v2 v3 v4 v5 v6 v7
  try clear_value v0
  try clear_value v1
  try clear_value v2
  try clear_value v3
  have h8 : Keeps M s0 v4 := by
    unfold v4
    refine (keeps_State_setBin (sub_trans rfl hM)) ?_
    exact h
  try clear_value v4
  try clear_value v5
  try clear_value v6
  try clear_value v7
  refine ite_of (P := Keeps M s0) ?_ ?_
  ·
    exact h8
  ·
    refine (keeps_State_setBin (sub_trans rfl hM)) ?_
    exact h8

theorem keeps_State_repetitive {M : Nat} (hM : Nat.land 536870921 M = 536870921) {s0 : State} {s : State} {p1 : Nat} {p2 : Int} {p3 : Int} {p4 : Nat} (h : Keeps M s0 s) : Keeps M s0 (State.repetitive s p1 p2 p3 p4) := by
  unfold State.repetitive
  refine ite_of (P := Keeps M s0) ?_ ?_
  ·
    refine (keeps_State_modLoop (sub_trans rfl hM)) ?_
    exact h
  ·
    extract_lets -merge -useContext -underBinder v0
    try clear_value v0
    split
    ·
      refine (keeps_State_modLoop (sub_trans rfl hM)) ?_
      refine (keeps_State_setf (sub_trans rfl hM)) ?_
      exact h
    ·
      refine ite_of (P := Keeps M s0) ?_ ?_
      ·
        refine (keeps_State_modLoop (sub_trans rfl hM)) ?_
        refine (keeps_State_setf (sub_trans rfl hM)) ?_
        exact h
      ·
        extract_lets -merge -useContext -underBinder v1 v2 v3 v4 v5 v6 v7 v8 v9 v10 v11 v12 v13 v14 v15 v16 v17 v18
        try clear_value v1
        try clear_value v2
        try clear_value v3
        try clear_value v4
        have h19 : Keeps M s0 v5 := by
          unfold v5
          refine (keeps_State_clrf (sub_trans rfl hM)) ?_
          exact h
        try clear_value v5
        try clear_value v6
        try clear_value v7
        try clear_value v8
        try clear_value v9
        try clear_value v10
        try clear_value v11
        try clear_value v12
        try clear_value v13
        try clear_value v14
        try clear_value v15
        try clear_value v16
        have h20 : Keeps M s0 v17 := by
          unfold v17
          refine ite_of (P := Keeps M s0) ?_ ?_
          ·
            exact h19
          ·
            refine ite_of (P := Keeps M s0) ?_ ?_
            ·
              refine (keeps_State_count (sub_trans rfl hM)) ?_
              refine (keeps_State_setf (sub_trans rfl hM)) ?_
              exact h19
            ·
              refine Keeps.forEach ?_ ?_
              ·
                exact h19
              · intro t21 x22 h23
                beta_reduce
                extract_lets -merge -useContext -underBinder v24 v25
                try clear_value v24
                try clear_value v25
                refine (keeps_State_repLearn (sub_trans rfl hM)) ?_
                exact h23
        try clear_value v17
        try clear_value v18
        refine (keeps_State_modLoop (sub_trans rfl hM)) ?_
        exact h20

theorem keeps_State_trackTorque {M : Nat} (hM : Nat.land 537919489 M = 537919489) {s0 : State} {s : State} {p1 : Nat} {p2 : Int} {p3 : Int} (h : Keeps M s0 s) : Keeps M s0 (State.trackTorque s p1 p2 p3) := by
  unfold State.trackTorque
  extract_lets -merge -useContext -underBinder v0 v1 v2 v3
  try clear_value v0
  try clear_value v1
  try clear_value v2
  have h4 : Keeps M s0 v3 := by
    unfold v3
    refine (keeps_State_wr64I (sub_trans rfl hM)) ?_
    refine (keeps_State_wr64I (sub_trans rfl hM)) ?_
    refine (keeps_State_wr64I (sub_trans rfl hM)) ?_
    exact h
  try clear_value v3
  refine (keeps_State_modLoop (sub_trans rfl hM)) ?_
  refine (keeps_State_modMo (sub_trans rfl hM)) ?_
  exact h4

theorem keeps_State_posBody {M : Nat} (hM : Nat.land 1100286531593 M = 1100286531593) {s0 : State} {s : State} {p1 : Nat} {p2 : Nat} (h : Keeps M s0 s) : Keeps M s0 (State.posBody s p1 p2) := by
  unfold State.posBody
  refine ite_of (P := Keeps M s0) ?_ ?_
  ·
    refine (keeps_State_posFallback (sub_trans rfl hM)) ?_
    exact h
  ·
    split
    ·
      rename_i t0 q2
      have h1 : Keeps M s0 t0 := by
        refine KP.out q2 ?_
        refine (keeps_State_actual (sub_trans rfl hM)) ?_
        exact h
      extract_lets -merge -useContext -underBinder v3 v4 v5
      have h6 : Keeps M s0 v3 := by
        unfold v3
        refine (keeps_State_deviation (sub_trans rfl hM)) ?_
        exact h1
      try clear_value v3
      have h7 : Keeps M s0 v4 := by
        unfold v4
        split
        ·
          refine (keeps_State_trackTorque (sub_trans rfl hM)) ?_
          exact h6
        ·
          extract_lets -merge -useContext -underBinder v8 v9
          have h10 : Keeps M s0 v8 := by
            unfold v8
            refine (keeps_State_feCheck (sub_trans rfl hM)) ?_
            exact h6
          try clear_value v8
          have h11 : Keeps M s0 v9 := by
            unfold v9
            refine (keeps_State_posLaw (sub_trans rfl hM)) ?_
            exact h10
          try clear_value v9
          refine ite_of (P := Keeps M s0) ?_ ?_
          ·
            refine (keeps_State_wr64I (sub_trans rfl hM)) ?_
            exact h10
          ·
            refine (keeps_State_repetitive (sub_trans rfl hM)) ?_
            exact h11
      try clear_value v4
      try clear_value v5
      refine (keeps_State_modLoop (sub_trans rfl hM)) ?_
      exact h7

theorem keeps_State_velFallback {M : Nat} (hM : Nat.land 1100286531585 M = 1100286531585) {s0 : State} {s : State} {p1 : Nat} (h : Keeps M s0 s) : Keeps M s0 (State.velFallback s p1) := by
  unfold State.velFallback
  extract_lets -merge -useContext -underBinder v0 v1 v2 v3
  try clear_value v0
  try clear_value v1
  try clear_value v2
  try clear_value v3
  refine ite_of (P := Keeps M s0) ?_ ?_
  ·
    refine (keeps_State_startRamp (sub_trans rfl hM)) ?_
    refine (keeps_State_event (sub_trans rfl hM)) ?_
    refine (keeps_State_modLoop (sub_trans rfl hM)) ?_
    refine (keeps_State_setf (sub_trans rfl hM)) ?_
    exact h
  ·
    refine (keeps_State_fbLoss (sub_trans rfl hM)) ?_
    exact h

theorem keeps_State_injStep {M : Nat} (hM : Nat.land 1308622849 M = 1308622849) {s0 : State} {s : State} {p1 : Nat} (h : Keeps M s0 s) : Keeps M s0 (State.injStep s p1) := by
  unfold State.injStep
  extract_lets -merge -useContext -underBinder v0 v1 v2 v3 v4 v5
  try clear_value v0
  try clear_value v1
  try clear_value v2
  try clear_value v3
  have h6 : Keeps M s0 v4 := by
    unfold v4
    refine (keeps_State_modInj (sub_trans rfl hM)) ?_
    refine (keeps_State_put (sub_trans rfl hM)) ?_
    exact h
  try clear_value v4
  try clear_value v5
  refine ite_of (P := Keeps M s0) ?_ ?_
  ·
    refine ite_of (P := Keeps M s0) ?_ ?_
    ·
      refine (keeps_State_resolve (sub_trans rfl hM)) ?_
      refine (keeps_State_setf (sub_trans rfl hM)) ?_
      refine (keeps_State_clrf (sub_trans rfl hM)) ?_
      exact h6
    ·
      exact h6
  ·
    exact h

theorem keeps_State_loopApply {M : Nat} (hM : Nat.land 536870913 M = 536870913) {s0 : State} {s : State} {p1 : Nat} (h : Keeps M s0 s) : Keeps M s0 (State.loopApply s p1) := by
  unfold State.loopApply
  refine (keeps_State_modLoop (sub_trans rfl hM)) ?_
  refine (keeps_State_setf (sub_trans rfl hM)) ?_
  exact h

theorem keeps_State_publishT {M : Nat} (hM : Nat.land 536870913 M = 536870913) {s0 : State} {s : State} {p1 : Nat} {p2 : Int} {p3 : Nat} (h : Keeps M s0 s) : Keeps M s0 (State.publishT s p1 p2 p3) := by
  unfold State.publishT
  refine (keeps_State_modLoop (sub_trans rfl hM)) ?_
  refine (keeps_State_latNote (sub_trans rfl hM)) ?_
  refine (keeps_State_wrI (sub_trans rfl hM)) ?_
  exact h

theorem keeps_State_virtRun {M : Nat} (hM : Nat.land 1100832315393 M = 1100832315393) {s0 : State} {s : State} {p1 : Nat} (h : Keeps M s0 s) : Keeps M s0 (State.virtRun s p1) := by
  unfold State.virtRun
  extract_lets -merge -useContext -underBinder v0 v1
  have h2 : Keeps M s0 v0 := by
    unfold v0
    refine (keeps_State_setpoint (sub_trans rfl hM)) ?_
    exact h
  try clear_value v0
  try clear_value v1
  refine (keeps_State_injStep (sub_trans rfl hM)) ?_
  refine (keeps_State_modMo (sub_trans rfl hM)) ?_
  refine (keeps_State_wr64I (sub_trans rfl hM)) ?_
  exact h2

theorem keeps_State_capturePos {M : Nat} (hM : Nat.land 536870912 M = 536870912) {s0 : State} {s : State} {p1 : Nat} {p2 : Nat} (h : Keeps M s0 s) : Keeps M s0 (State.capturePos s p1 p2) := by
  unfold State.capturePos
  refine (keeps_State_modLoop (sub_trans rfl hM)) ?_
  exact h

theorem keeps_State_measured {M : Nat} (hM : Nat.land 1 M = 1) {s0 : State} {s : State} {p1 : Nat} (h : Keeps M s0 s) : KP3 M s0 (State.measured s p1) := by
  unfold State.measured
  extract_lets -merge -useContext -underBinder v0 v1 v2 v3 v4 v5 v6 v7 v8 v9
  try clear_value v0
  try clear_value v1
  try clear_value v2
  try clear_value v3
  try clear_value v4
  try clear_value v5
  try clear_value v6
  try clear_value v7
  try clear_value v8
  try clear_value v9
  refine KP3.mk ?_
  refine ite_of (P := Keeps M s0) ?_ ?_
  ·
    exact h
  ·
    refine (keeps_State_setf (sub_trans rfl hM)) ?_
    exact h

theorem keeps_State_overspeed {M : Nat} (hM : Nat.land 1100286531585 M = 1100286531585) {s0 : State} {s : State} {p1 : Nat} {p2 : Int} (h : Keeps M s0 s) : Keeps M s0 (State.overspeed s p1 p2) := by
  unfold State.overspeed
  extract_lets -merge -useContext -underBinder v0 v1
  try clear_value v0
  have h2 : Keeps M s0 v1 := by
    unfold v1
    refine (keeps_State_modLoop (sub_trans rfl hM)) ?_
    exact h
  try clear_value v1
  refine ite_of (P := Keeps M s0) ?_ ?_
  ·
    refine ite_of (P := Keeps M s0) ?_ ?_
    ·
      exact h2
    ·
      refine (keeps_State_superviseStop (sub_trans rfl hM)) ?_
      refine (keeps_State_count (sub_trans rfl hM)) ?_
      refine (keeps_State_setf (sub_trans rfl hM)) ?_
      exact h2
  ·
    refine (keeps_State_modLoop (sub_trans rfl hM)) ?_
    exact h

theorem keeps_State_torqueOffStep {M : Nat} (hM : Nat.land 536870913 M = 536870913) {s0 : State} {s : State} {p1 : Nat} (h : Keeps M s0 s) : Keeps M s0 (State.torqueOffStep s p1) := by
  unfold State.torqueOffStep
  split
  ·
    exact h
  ·
    extract_lets -merge -useContext -underBinder v0
    try clear_value v0
    refine (keeps_State_publishT (sub_trans rfl hM)) ?_
    refine (keeps_State_modLoop (sub_trans rfl hM)) ?_
    exact h

theorem keeps_State_cogging {M : Nat} (hM : Nat.land 1 M = 1) {s0 : State} {s : State} {p1 : Nat} (h : Keeps M s0 s) : KP M s0 (State.cogging s p1) := by
  unfold State.cogging
  refine ite_of (P := KP M s0) ?_ ?_
  ·
    refine KP.mk ?_
    refine (keeps_State_clrf (sub_trans rfl hM)) ?_
    exact h
  ·
    split
    ·
      refine KP.mk ?_
      refine (keeps_State_setf (sub_trans rfl hM)) ?_
      exact h
    ·
      extract_lets -merge -useContext -underBinder v0
      try clear_value v0
      refine KP.mk ?_
      refine (keeps_State_clrf (sub_trans rfl hM)) ?_
      exact h

theorem keeps_State_velLaw {M : Nat} (hM : Nat.land 536870913 M = 536870913) {s0 : State} {s : State} {p1 : Nat} {p2 : Int} {p3 : Int} {p4 : Bool} (h : Keeps M s0 s) : Keeps M s0 (State.velLaw s p1 p2 p3 p4) := by
  unfold State.velLaw
  extract_lets -merge -useContext -underBinder v0 v1 v2 v3 v4 v5 v6 v7 v8 v9 v10 v11 v12 v13
  try clear_value v0
  try clear_value v1
  try clear_value v2
  try clear_value v3
  try clear_value v4
  try clear_value v5
  try clear_value v6
  try clear_value v7
  try clear_value v8
  try clear_value v9
  try clear_value v10
  try clear_value v11
  try clear_value v12
  try clear_value v13
  split
  ·
    rename_i t14 q16
    have h15 : Keeps M s0 t14 := by
      refine KP.out q16 ?_
      refine (keeps_State_cogging (sub_trans rfl hM)) ?_
      exact h
    extract_lets -merge -useContext -underBinder v17 v18 v19 v20
    try clear_value v17
    try clear_value v18
    try clear_value v19
    try clear_value v20
    split
    ·
      split
      ·
        split
        ·
          split
          ·
            extract_lets -merge -useContext -underBinder v21 v22
            try clear_value v21
            try clear_value v22
            refine (keeps_State_publishT (sub_trans rfl hM)) ?_
            refine (keeps_State_modLoop (sub_trans rfl hM)) ?_
            refine (keeps_State_putB (sub_trans rfl hM)) ?_
            exact h15

theorem keeps_State_velBody {M : Nat} (hM : Nat.land 1101360273409 M = 1101360273409) {s0 : State} {s : State} {p1 : Nat} {p2 : Bool} (h : Keeps M s0 s) : Keeps M s0 (State.velBody s p1 p2) := by
  unfold State.velBody
  refine ite_of (P := Keeps M s0) ?_ ?_
  ·
    refine (keeps_State_torqueOffStep (sub_trans rfl hM)) ?_
    exact h
  ·
    refine ite_of (P := Keeps M s0) ?_ ?_
    ·
      refine (keeps_State_torqueOffStep (sub_trans rfl hM)) ?_
      refine (keeps_State_velFallback (sub_trans rfl hM)) ?_
      exact h
    ·
      split
      ·
        rename_i t0 q2
        have h1 : Keeps M s0 t0 := by
          refine KP3.out q2 ?_
          refine (keeps_State_measured (sub_trans rfl hM)) ?_
          exact h
        extract_lets -merge -useContext -underBinder v3
        have h4 : Keeps M s0 v3 := by
          unfold v3
          refine (keeps_State_overspeed (sub_trans rfl hM)) ?_
          exact h1
        try clear_value v3
        refine ite_of (P := Keeps M s0) ?_ ?_
        ·
          refine (keeps_State_torqueOffStep (sub_trans rfl hM)) ?_
          exact h4
        ·
          refine (keeps_State_injStep (sub_trans rfl hM)) ?_
          refine (keeps_State_velLaw (sub_trans rfl hM)) ?_
          exact h4

theorem keeps_State_netRun {M : Nat} (hM : Nat.land 1101369186313 M = 1101369186313) {s0 : State} {s : State} {p1 : Nat} (h : Keeps M s0 s) : Keeps M s0 (State.netRun s p1) := by
  unfold State.netRun
  refine ite_of (P := Keeps M s0) ?_ ?_
  ·
    refine (keeps_State_torqueOffStep (sub_trans rfl hM)) ?_
    exact h
  ·
    extract_lets -merge -useContext -underBinder v0 v1
    try clear_value v0
    have h2 : Keeps M s0 v1 := by
      unfold v1
      refine (keeps_State_setpoint (sub_trans rfl hM)) ?_
      exact h
    try clear_value v1
    refine ite_of (P := Keeps M s0) ?_ ?_
    ·
      exact h2
    ·
      refine (keeps_State_velBody (sub_trans rfl hM)) ?_
      refine ite_of (P := Keeps M s0) ?_ ?_
      ·
        exact h2
      ·
        refine (keeps_State_posBody (sub_trans rfl hM)) ?_
        exact h2

theorem keeps_State_captureVel {M : Nat} (hM : Nat.land 536870912 M = 536870912) {s0 : State} {s : State} {p1 : Nat} {p2 : Nat} (h : Keeps M s0 s) : Keeps M s0 (State.captureVel s p1 p2) := by
  unfold State.captureVel
  extract_lets -merge -useContext -underBinder v0
  try clear_value v0
  refine (keeps_State_modLoop (sub_trans rfl hM)) ?_
  exact h

theorem keeps_State_posRun {M : Nat} (hM : Nat.land 1100295444489 M = 1100295444489) {s0 : State} {s : State} {p1 : Nat} (h : Keeps M s0 s) : Keeps M s0 (State.posRun s p1) := by
  unfold State.posRun
  refine ite_of (P := Keeps M s0) ?_ ?_
  ·
    exact h
  ·
    extract_lets -merge -useContext -underBinder v0 v1
    try clear_value v0
    have h2 : Keeps M s0 v1 := by
      unfold v1
      refine (keeps_State_setpoint (sub_trans rfl hM)) ?_
      exact h
    try clear_value v1
    refine ite_of (P := Keeps M s0) ?_ ?_
    ·
      refine (keeps_State_posBody (sub_trans rfl hM)) ?_
      exact h2
    ·
      exact h2

theorem keeps_State_injStop {M : Nat} (hM : Nat.land 234881025 M = 234881025) {s0 : State} {s : State} {p1 : Nat} (h : Keeps M s0 s) : Keeps M s0 (State.injStop s p1) := by
  unfold State.injStop
  refine ite_of (P := Keeps M s0) ?_ ?_
  ·
    refine (keeps_State_resolve (sub_trans rfl hM)) ?_
    refine (keeps_State_clrf (sub_trans rfl hM)) ?_
    exact h
  ·
    exact h

theorem keeps_State_velRun {M : Nat} (hM : Nat.land 1101360273409 M = 1101360273409) {s0 : State} {s : State} {p1 : Nat} (h : Keeps M s0 s) : Keeps M s0 (State.velRun s p1) := by
  unfold State.velRun
  refine ite_of (P := Keeps M s0) ?_ ?_
  ·
    refine (keeps_State_velBody (sub_trans rfl hM)) ?_
    exact h
  ·
    exact h

theorem keeps_State_injStart {M : Nat} (hM : Nat.land 1073741825 M = 1073741825) {s0 : State} {s : State} {p1 : Nat} (h : Keeps M s0 s) : Keeps M s0 (State.injStart s p1) := by
  unfold State.injStart
  extract_lets -merge -useContext -underBinder v0
  try clear_value v0
  refine ite_of (P := Keeps M s0) ?_ ?_
  ·
    exact h
  ·
    refine ite_of (P := Keeps M s0) ?_ ?_
    ·
      refine (keeps_State_modInj (sub_trans rfl hM)) ?_
      refine (keeps_State_put (sub_trans rfl hM)) ?_
      refine (keeps_State_setf (sub_trans rfl hM)) ?_
      exact h
    ·
      refine (keeps_State_setf (sub_trans rfl hM)) ?_
      exact h

end Sys2Proof.Machine
end

