-- ==== Sys2Proof/Laws/KeepNet.lean ====
section
/-! SUPPORT. The operations of Machine/Net.lean keep what `Keeps` says. -/

namespace Sys2Proof.Machine

theorem keeps_State_stepGrid {M : Nat} (hM : Nat.land 8193 M = 8193) {s0 : State} {s : State} (h : Keeps M s0 s) : Keeps M s0 (State.stepGrid s) := by
  unfold State.stepGrid
  refine ite_of (P := Keeps M s0) ?_ ?_
  ·
    refine (keeps_State_setf (sub_trans rfl hM)) ?_
    exact h
  ·
    refine ite_of (P := Keeps M s0) ?_ ?_
    ·
      exact h
    ·
      refine Keeps.up_time (sub_trans rfl hM) ?_
      exact h

theorem keeps_State_setGo {M : Nat} (hM : Nat.land 8193 M = 8193) {s0 : State} {s : State} (h : Keeps M s0 s) : Keeps M s0 (State.setGo s) := by
  unfold State.setGo
  refine ite_of (P := Keeps M s0) ?_ ?_
  ·
    refine (keeps_State_stepGrid (sub_trans rfl hM)) ?_
    refine Keeps.up_time (sub_trans rfl hM) ?_
    exact h
  ·
    exact h

theorem keeps_State_modNw {M : Nat} (hM : Nat.land 70368744177664 M = 70368744177664) {s0 : State} {s : State} {p1 : NetSt → NetSt} (h : Keeps M s0 s) : Keeps M s0 (State.modNw s p1) := by
  unfold State.modNw
  refine Keeps.up_nw (sub_trans rfl hM) ?_
  exact h

theorem keeps_State_modPtp {M : Nat} (hM : Nat.land 70368744177664 M = 70368744177664) {s0 : State} {s : State} {p1 : PtpSt → PtpSt} (h : Keeps M s0 s) : Keeps M s0 (State.modPtp s p1) := by
  unfold State.modPtp
  refine (keeps_State_modNw (sub_trans rfl hM)) ?_
  exact h

theorem keeps_State_setSync {M : Nat} (hM : Nat.land 6145 M = 6145) {s0 : State} {s : State} {p1 : Nat} (h : Keeps M s0 s) : Keeps M s0 (State.setSync s p1) := by
  unfold State.setSync
  refine ite_of (P := Keeps M s0) ?_ ?_
  ·
    exact h
  ·
    refine (keeps_State_group (sub_trans rfl hM)) ?_
    refine (keeps_State_event (sub_trans rfl hM)) ?_
    refine (keeps_State_put (sub_trans rfl hM)) ?_
    exact h

theorem keeps_State_ptpSync {M : Nat} (hM : Nat.land 70368744183809 M = 70368744183809) {s0 : State} {s : State} {p1 : Int} (h : Keeps M s0 s) : Keeps M s0 (State.ptpSync s p1) := by
  unfold State.ptpSync
  extract_lets -merge -useContext -underBinder v0
  try clear_value v0
  refine (keeps_State_setSync (sub_trans rfl hM)) ?_
  refine (keeps_State_modPtp (sub_trans rfl hM)) ?_
  exact h

theorem keeps_State_modGcl {M : Nat} (hM : Nat.land 70368744177664 M = 70368744177664) {s0 : State} {s : State} {p1 : Nat} {p2 : GclSt → GclSt} (h : Keeps M s0 s) : Keeps M s0 (State.modGcl s p1 p2) := by
  unfold State.modGcl
  refine (keeps_State_modNw (sub_trans rfl hM)) ?_
  exact h

theorem keeps_State_stepBy {M : Nat} (hM : Nat.land 10241 M = 10241) {s0 : State} {s : State} {p1 : Int} (h : Keeps M s0 s) : Keeps M s0 (State.stepBy s p1) := by
  unfold State.stepBy
  split
  ·
    exact h
  ·
    refine (keeps_State_event (sub_trans rfl hM)) ?_
    refine (keeps_State_stepGrid (sub_trans rfl hM)) ?_
    refine Keeps.up_time (sub_trans rfl hM) ?_
    exact h

theorem keeps_State_setTrim {M : Nat} (hM : Nat.land 8192 M = 8192) {s0 : State} {s : State} {p1 : Int} (h : Keeps M s0 s) : Keeps M s0 (State.setTrim s p1) := by
  unfold State.setTrim
  extract_lets -merge -useContext -underBinder v0 v1
  try clear_value v0
  try clear_value v1
  refine Keeps.up_time (sub_trans rfl hM) ?_
  exact h

theorem keeps_State_ntTrim {M : Nat} (hM : Nat.land 8193 M = 8193) {s0 : State} {s : State} {p1 : Int} (h : Keeps M s0 s) : Keeps M s0 (State.ntTrim s p1) := by
  unfold State.ntTrim
  extract_lets -merge -useContext -underBinder v0 v1
  try clear_value v0
  have h2 : Keeps M s0 v1 := by
    unfold v1
    refine (keeps_State_setTrim (sub_trans rfl hM)) ?_
    refine (keeps_State_wrI (sub_trans rfl hM)) ?_
    exact h
  try clear_value v1
  refine ite_of (P := Keeps M s0) ?_ ?_
  ·
    exact h2
  ·
    refine (keeps_State_setf (sub_trans rfl hM)) ?_
    exact h2

theorem keeps_State_ptpMeasure {M : Nat} (hM : Nat.land 70368744192001 M = 70368744192001) {s0 : State} {s : State} {p1 : Nat} {p2 : Int} {p3 : Int} {p4 : Nat} {p5 : Option Int} (h : Keeps M s0 s) : Keeps M s0 (State.ptpMeasure s p1 p2 p3 p4 p5) := by
  unfold State.ptpMeasure
  extract_lets -merge -useContext -underBinder v0 v1 v2 v3 v4
  have h5 : Keeps M s0 v0 := by
    unfold v0
    split
    ·
      refine (keeps_State_setf (sub_trans rfl hM)) ?_
      refine (keeps_State_put (sub_trans rfl hM)) ?_
      exact h
    ·
      exact h
  try clear_value v0
  have h6 : Keeps M s0 v1 := by
    unfold v1
    refine (keeps_State_ptpSync (sub_trans rfl hM)) ?_
    refine (keeps_State_clrf (sub_trans rfl hM)) ?_
    refine (keeps_State_modPtp (sub_trans rfl hM)) ?_
    refine (keeps_State_wrI (sub_trans rfl hM)) ?_
    exact h5
  try clear_value v1
  try clear_value v2
  try clear_value v3
  try clear_value v4
  refine ite_of (P := Keeps M s0) ?_ ?_
  ·
    exact h
  ·
    refine ite_of (P := Keeps M s0) ?_ ?_
    ·
      exact h6
    ·
      refine ite_of (P := Keeps M s0) ?_ ?_
      ·
        refine (keeps_State_event (sub_trans rfl hM)) ?_
        refine (keeps_State_modPtp (sub_trans rfl hM)) ?_
        exact h6
      ·
        refine ite_of (P := Keeps M s0) ?_ ?_
        ·
          refine (keeps_State_stepBy (sub_trans rfl hM)) ?_
          exact h6
        ·
          refine (keeps_State_ntTrim (sub_trans rfl hM)) ?_
          refine (keeps_State_modPtp (sub_trans rfl hM)) ?_
          exact h6

theorem keeps_State_gclCycle {M : Nat} (hM : Nat.land 70368744185857 M = 70368744185857) {s0 : State} {s : State} {p1 : Nat} (h : Keeps M s0 s) : Keeps M s0 (State.gclCycle s p1) := by
  unfold State.gclCycle
  extract_lets -merge -useContext -underBinder v0 v1 v2 v3
  try clear_value v0
  try clear_value v1
  try clear_value v2
  have h4 : Keeps M s0 v3 := by
    unfold v3
    refine (keeps_State_modGcl (sub_trans rfl hM)) ?_
    refine (keeps_State_advanceTo (sub_trans rfl hM)) ?_
    exact h
  try clear_value v3
  refine ite_of (P := Keeps M s0) ?_ ?_
  ·
    exact h
  ·
    refine ite_of (P := Keeps M s0) ?_ ?_
    ·
      refine (keeps_State_setf (sub_trans rfl hM)) ?_
      exact h4
    ·
      exact h4

theorem keeps_State_ppsIn {M : Nat} (hM : Nat.land 12289 M = 12289) {s0 : State} {s : State} {p1 : Nat} (h : Keeps M s0 s) : Keeps M s0 (State.ppsIn s p1) := by
  unfold State.ppsIn
  extract_lets -merge -useContext -underBinder v0 v1
  try clear_value v0
  have h2 : Keeps M s0 v1 := by
    unfold v1
    refine (keeps_State_group (sub_trans rfl hM)) ?_
    refine (keeps_State_setf (sub_trans rfl hM)) ?_
    refine (keeps_State_wr64N (sub_trans rfl hM)) ?_
    refine (keeps_State_wr64N (sub_trans rfl hM)) ?_
    exact h
  try clear_value v1
  refine ite_of (P := Keeps M s0) ?_ ?_
  ·
    split
    ·
      rename_i t3 q5
      have h4 : Keeps M s0 t3 := by
        refine KP.out q5 ?_
        refine (keeps_State_freeWord (sub_trans rfl hM)) ?_
        exact h2
      refine (keeps_State_ntTrim (sub_trans rfl hM)) ?_
      exact h4
  ·
    exact h2

theorem keeps_State_stepGo {M : Nat} (hM : Nat.land 10241 M = 10241) {s0 : State} {s : State} (h : Keeps M s0 s) : Keeps M s0 (State.stepGo s) := by
  unfold State.stepGo
  refine (keeps_State_stepBy (sub_trans rfl hM)) ?_
  exact h

theorem keeps_State_egress {M : Nat} (hM : Nat.land 70368744177664 M = 70368744177664) {s0 : State} {s : State} {p1 : EthFrame} {p2 : Nat} (h : Keeps M s0 s) : Keeps M s0 (State.egress s p1 p2) := by
  unfold State.egress
  refine ite_of (P := Keeps M s0) ?_ ?_
  ·
    refine (keeps_State_modNw (sub_trans rfl hM)) ?_
    exact h
  ·
    extract_lets -merge -useContext -underBinder v0
    try clear_value v0
    refine (keeps_State_modGcl (sub_trans rfl hM)) ?_
    exact h

theorem keeps_State_addCount {M : Nat} (hM : Nat.land 1 M = 1) {s0 : State} {s : State} {p1 : Nat} {p2 : Fld} {p3 : Nat} (h : Keeps M s0 s) : Keeps M s0 (State.addCount s p1 p2 p3) := by
  unfold State.addCount
  refine (keeps_State_put (sub_trans rfl hM)) ?_
  exact h

theorem keeps_State_frerIn {M : Nat} (hM : Nat.land 70368744177665 M = 70368744177665) {s0 : State} {s : State} {p1 : Nat} {p2 : EthFrame} {p3 : Nat} (h : Keeps M s0 s) : KP M s0 (State.frerIn s p1 p2 p3) := by
  unfold State.frerIn
  extract_lets -merge -useContext -underBinder v0 v1 v2 v3
  try clear_value v0
  try clear_value v1
  try clear_value v2
  try clear_value v3
  refine ite_of (P := KP M s0) ?_ ?_
  ·
    refine KP.mk ?_
    exact h
  ·
    split
    ·
      extract_lets -merge -useContext -underBinder v4
      have h5 : Keeps M s0 v4 := by
        unfold v4
        refine (keeps_State_modNw (sub_trans rfl hM)) ?_
        exact h
      try clear_value v4
      refine KP.mk ?_
      refine (keeps_State_addCount (sub_trans rfl hM)) ?_
      refine (keeps_State_addCount (sub_trans rfl hM)) ?_
      refine (keeps_State_addCount (sub_trans rfl hM)) ?_
      exact h5

theorem keeps_State_unqueue {M : Nat} (hM : Nat.land 70368744177664 M = 70368744177664) {s0 : State} {s : State} {p1 : List Nat} {p2 : Nat} {p3 : EthFrame → Bool} (h : Keeps M s0 s) : Keeps M s0 (State.unqueue s p1 p2 p3) := by
  unfold State.unqueue
  refine Keeps.forEach ?_ ?_
  ·
    exact h
  · intro t0 x1 h2
    beta_reduce
    refine (keeps_State_modGcl (sub_trans rfl hM)) ?_
    exact h2

theorem keeps_State_frerSwap {M : Nat} (hM : Nat.land 70368744177664 M = 70368744177664) {s0 : State} {s : State} {p1 : EthFrame} {p2 : Nat} {p3 : List Nat} (h : Keeps M s0 s) : Keeps M s0 (State.frerSwap s p1 p2 p3) := by
  unfold State.frerSwap
  extract_lets -merge -useContext -underBinder v0 v1
  try clear_value v0
  have h2 : Keeps M s0 v1 := by
    unfold v1
    refine (keeps_State_unqueue (sub_trans rfl hM)) ?_
    exact h
  try clear_value v1
  refine ite_of (P := Keeps M s0) ?_ ?_
  ·
    refine foldl_of (P := Keeps M s0) ?_ ?_
    ·
      exact h2
    · intro t3 x4 h5
      beta_reduce
      refine (keeps_State_egress (sub_trans rfl hM)) ?_
      exact h5
  ·
    exact h

theorem keeps_State_learn {M : Nat} (hM : Nat.land 70368744177664 M = 70368744177664) {s0 : State} {s : State} {p1 : Nat} {p2 : EthFrame} (h : Keeps M s0 s) : Keeps M s0 (State.learn s p1 p2) := by
  unfold State.learn
  extract_lets -merge -useContext -underBinder v0
  try clear_value v0
  refine ite_of (P := Keeps M s0) ?_ ?_
  ·
    refine (keeps_State_modNw (sub_trans rfl hM)) ?_
    exact h
  ·
    refine (keeps_State_modNw (sub_trans rfl hM)) ?_
    exact h

theorem keeps_State_useSak {M : Nat} (hM : Nat.land 70368744177664 M = 70368744177664) {s0 : State} {s : State} {p1 : Nat} (h : Keeps M s0 s) : Keeps M s0 (State.useSak s p1) := by
  unfold State.useSak
  refine ite_of (P := Keeps M s0) ?_ ?_
  ·
    exact h
  ·
    refine (keeps_State_modNw (sub_trans rfl hM)) ?_
    exact h

theorem keeps_State_macsecIn {M : Nat} (hM : Nat.land 70368744177665 M = 70368744177665) {s0 : State} {s : State} {p1 : Nat} {p2 : EthFrame} (h : Keeps M s0 s) : KP M s0 (State.macsecIn s p1 p2) := by
  unfold State.macsecIn
  extract_lets -merge -useContext -underBinder v0
  try clear_value v0
  refine ite_of (P := KP M s0) ?_ ?_
  ·
    refine KP.mk ?_
    exact h
  ·
    split
    ·
      refine KP.mk ?_
      refine (keeps_State_count (sub_trans rfl hM)) ?_
      exact h
    ·
      extract_lets -merge -useContext -underBinder v1 v2 v3 v4
      have h5 : Keeps M s0 v1 := by
        unfold v1
        refine (keeps_State_useSak (sub_trans rfl hM)) ?_
        exact h
      try clear_value v1
      try clear_value v2
      try clear_value v3
      try clear_value v4
      refine ite_of (P := KP M s0) ?_ ?_
      ·
        refine KP.mk ?_
        refine (keeps_State_count (sub_trans rfl hM)) ?_
        exact h5
      ·
        refine ite_of (P := KP M s0) ?_ ?_
        ·
          refine KP.mk ?_
          refine (keeps_State_count (sub_trans rfl hM)) ?_
          exact h5
        ·
          refine KP.mk ?_
          refine (keeps_State_modNw (sub_trans rfl hM)) ?_
          exact h5

theorem keeps_State_switchIn {M : Nat} (hM : Nat.land 70368744177665 M = 70368744177665) {s0 : State} {s : State} {p1 : Nat} {p2 : Nat} {p3 : EthFrame} (h : Keeps M s0 s) : Keeps M s0 (State.switchIn s p1 p2 p3) := by
  unfold State.switchIn
  refine ite_of (P := Keeps M s0) ?_ ?_
  ·
    exact h
  ·
    refine ite_of (P := Keeps M s0) ?_ ?_
    ·
      refine ite_of (P := Keeps M s0) ?_ ?_
      ·
        exact h
      ·
        refine (keeps_State_count (sub_trans rfl hM)) ?_
        exact h
    ·
      extract_lets -merge -useContext -underBinder v0 v1 v2 v3 v4
      try clear_value v0
      try clear_value v1
      try clear_value v2
      try clear_value v3
      try clear_value v4
      refine ite_of (P := Keeps M s0) ?_ ?_
      ·
        exact h
      ·
        refine ite_of (P := Keeps M s0) ?_ ?_
        ·
          exact h
        ·
          split
          ·
            extract_lets -merge -useContext -underBinder v5 v6
            have h7 : Keeps M s0 v5 := by
              unfold v5
              refine ite_of (P := Keeps M s0) ?_ ?_
              ·
                exact h
              ·
                refine (keeps_State_count (sub_trans rfl hM)) ?_
                exact h
            try clear_value v5
            have h8 : Keeps M s0 v6 := by
              unfold v6
              refine ite_of (P := Keeps M s0) ?_ ?_
              ·
                exact h7
              ·
                refine (keeps_State_count (sub_trans rfl hM)) ?_
                exact h7
            try clear_value v6
            refine ite_of (P := Keeps M s0) ?_ ?_
            ·
              exact h8
            ·
              refine ite_of (P := Keeps M s0) ?_ ?_
              ·
                refine Keeps.forEach ?_ ?_
                ·
                  exact h8
                · intro t9 x10 h11
                  beta_reduce
                  refine (keeps_State_egress (sub_trans rfl hM)) ?_
                  exact h11
              ·
                split
                ·
                  rename_i t12 q14
                  have h13 : Keeps M s0 t12 := by
                    refine KP.out q14 ?_
                    refine (keeps_State_macsecIn (sub_trans rfl hM)) ?_
                    exact h8
                  refine ite_of (P := Keeps M s0) ?_ ?_
                  ·
                    exact h13
                  ·
                    extract_lets -merge -useContext -underBinder v15 v16 v17
                    have h18 : Keeps M s0 v15 := by
                      unfold v15
                      refine (keeps_State_learn (sub_trans rfl hM)) ?_
                      exact h13
                    try clear_value v15
                    try clear_value v16
                    try clear_value v17
                    refine ite_of (P := Keeps M s0) ?_ ?_
                    ·
                      refine Keeps.forEach ?_ ?_
                      ·
                        refine (keeps_State_modNw (sub_trans rfl hM)) ?_
                        exact h18
                      · intro t19 x20 h21
                        beta_reduce
                        refine (keeps_State_egress (sub_trans rfl hM)) ?_
                        exact h21
                    ·
                      split
                      ·
                        refine Keeps.forEach ?_ ?_
                        ·
                          exact h18
                        · intro t22 x23 h24
                          beta_reduce
                          refine (keeps_State_egress (sub_trans rfl hM)) ?_
                          exact h24
                      ·
                        split
                        ·
                          rename_i t25 q27
                          have h26 : Keeps M s0 t25 := by
                            refine KP.out q27 ?_
                            refine (keeps_State_frerIn (sub_trans rfl hM)) ?_
                            exact h18
                          refine ite_of (P := Keeps M s0) ?_ ?_
                          ·
                            refine Keeps.forEach ?_ ?_
                            ·
                              exact h26
                            · intro t28 x29 h30
                              beta_reduce
                              refine (keeps_State_egress (sub_trans rfl hM)) ?_
                              exact h30
                          ·
                            refine ite_of (P := Keeps M s0) ?_ ?_
                            ·
                              refine (keeps_State_frerSwap (sub_trans rfl hM)) ?_
                              exact h26
                            ·
                              exact h26

theorem keeps_State_gateEnd {M : Nat} (hM : Nat.land 70368744185856 M = 70368744185856) {s0 : State} {s : State} {p1 : Nat} (h : Keeps M s0 s) : Keeps M s0 (State.gateEnd s p1) := by
  unfold State.gateEnd
  extract_lets -merge -useContext -underBinder v0 v1
  try clear_value v0
  try clear_value v1
  refine ite_of (P := Keeps M s0) ?_ ?_
  ·
    refine (keeps_State_modGcl (sub_trans rfl hM)) ?_
    refine (keeps_State_advanceTo (sub_trans rfl hM)) ?_
    exact h
  ·
    exact h

theorem keeps_State_ptpHoldover {M : Nat} (hM : Nat.land 70368744183809 M = 70368744183809) {s0 : State} {s : State} (h : Keeps M s0 s) : Keeps M s0 (State.ptpHoldover s) := by
  unfold State.ptpHoldover
  split
  ·
    rename_i t0 q2
    have h1 : Keeps M s0 t0 := by
      refine KP.out q2 ?_
      refine (keeps_State_freeWord (sub_trans rfl hM)) ?_
      exact h
    refine (keeps_State_setSync (sub_trans rfl hM)) ?_
    refine (keeps_State_putB (sub_trans rfl hM)) ?_
    refine (keeps_State_modPtp (sub_trans rfl hM)) ?_
    exact h1

theorem keeps_State_gclEffect {M : Nat} (hM : Nat.land 70368979066881 M = 70368979066881) {s0 : State} {s : State} {p1 : Nat} (h : Keeps M s0 s) : Keeps M s0 (State.gclEffect s p1) := by
  unfold State.gclEffect
  split
  ·
    exact h
  ·
    extract_lets -merge -useContext -underBinder v0 v1 v2
    try clear_value v0
    have h3 : Keeps M s0 v1 := by
      unfold v1
      refine (keeps_State_clrf (sub_trans rfl hM)) ?_
      refine (keeps_State_advanceTo (sub_trans rfl hM)) ?_
      exact h
    try clear_value v1
    have h4 : Keeps M s0 v2 := by
      unfold v2
      refine Keeps.forEach ?_ ?_
      ·
        exact h3
      · intro t5 x6 h7
        beta_reduce
        refine (keeps_State_wr (sub_trans rfl hM)) ?_
        exact h7
    try clear_value v2
    refine (keeps_State_resolve (sub_trans rfl hM)) ?_
    refine (keeps_State_modGcl (sub_trans rfl hM)) ?_
    exact h4

theorem keeps_State_servoTimeout {M : Nat} (hM : Nat.land 14337 M = 14337) {s0 : State} {s : State} (h : Keeps M s0 s) : Keeps M s0 (State.servoTimeout s) := by
  unfold State.servoTimeout
  extract_lets -merge -useContext -underBinder v0
  try clear_value v0
  refine ite_of (P := Keeps M s0) ?_ ?_
  ·
    exact h
  ·
    refine (keeps_State_group (sub_trans rfl hM)) ?_
    refine (keeps_State_event (sub_trans rfl hM)) ?_
    refine (keeps_State_setf (sub_trans rfl hM)) ?_
    refine (keeps_State_setSync (sub_trans rfl hM)) ?_
    refine (keeps_State_advanceTo (sub_trans rfl hM)) ?_
    exact h

theorem keeps_State_leapSecond {M : Nat} (hM : Nat.land 8193 M = 8193) {s0 : State} {s : State} (h : Keeps M s0 s) : Keeps M s0 (State.leapSecond s) := by
  unfold State.leapSecond
  extract_lets -merge -useContext -underBinder v0 v1 v2 v3 v4 v5
  try clear_value v0
  try clear_value v1
  try clear_value v2
  try clear_value v3
  try clear_value v4
  have h6 : Keeps M s0 v5 := by
    unfold v5
    refine (keeps_State_advanceTo (sub_trans rfl hM)) ?_
    exact h
  try clear_value v5
  refine ite_of (P := Keeps M s0) ?_ ?_
  ·
    refine (keeps_State_clrf (sub_trans rfl hM)) ?_
    refine (keeps_State_clrf (sub_trans rfl hM)) ?_
    refine (keeps_State_put (sub_trans rfl hM)) ?_
    exact h6
  ·
    exact h

theorem keeps_State_ntNsRead {M : Nat} (hM : Nat.land 70643622084608 M = 70643622084608) {s0 : State} {s : State} {p1 : Nat} (h : Keeps M s0 s) : Keeps M s0 (State.ntNsRead s p1) := by
  unfold State.ntNsRead
  extract_lets -merge -useContext -underBinder v0 v1
  try clear_value v0
  have h2 : Keeps M s0 v1 := by
    unfold v1
    refine (keeps_State_modNw (sub_trans rfl hM)) ?_
    exact h
  try clear_value v1
  refine Keeps.up_rdata (sub_trans rfl hM) ?_
  exact h2

theorem keeps_State_linkDown {M : Nat} (hM : Nat.land 2049 M = 2049) {s0 : State} {s : State} {p1 : Nat} (h : Keeps M s0 s) : Keeps M s0 (State.linkDown s p1) := by
  unfold State.linkDown
  refine ite_of (P := Keeps M s0) ?_ ?_
  ·
    refine (keeps_State_event (sub_trans rfl hM)) ?_
    refine (keeps_State_clrf (sub_trans rfl hM)) ?_
    exact h
  ·
    exact h

theorem keeps_State_linkUp {M : Nat} (hM : Nat.land 2049 M = 2049) {s0 : State} {s : State} {p1 : Nat} {p2 : Nat} {p3 : Bool} (h : Keeps M s0 s) : Keeps M s0 (State.linkUp s p1 p2 p3) := by
  unfold State.linkUp
  extract_lets -merge -useContext -underBinder v0 v1 v2
  try clear_value v0
  have h3 : Keeps M s0 v1 := by
    unfold v1
    refine (keeps_State_putB (sub_trans rfl hM)) ?_
    refine (keeps_State_put (sub_trans rfl hM)) ?_
    refine (keeps_State_setf (sub_trans rfl hM)) ?_
    exact h
  try clear_value v1
  have h4 : Keeps M s0 v2 := by
    unfold v2
    refine (keeps_State_event (sub_trans rfl hM)) ?_
    exact h3
  try clear_value v2
  refine ite_of (P := Keeps M s0) ?_ ?_
  ·
    exact h
  ·
    refine ite_of (P := Keeps M s0) ?_ ?_
    ·
      exact h4
    ·
      refine ite_of (P := Keeps M s0) ?_ ?_
      ·
        refine (keeps_State_wrN (sub_trans rfl hM)) ?_
        refine (keeps_State_wrN (sub_trans rfl hM)) ?_
        exact h4
      ·
        refine (keeps_State_wrN (sub_trans rfl hM)) ?_
        refine (keeps_State_wrN (sub_trans rfl hM)) ?_
        exact h4

theorem keeps_State_frerReset {M : Nat} (hM : Nat.land 70368744185857 M = 70368744185857) {s0 : State} {s : State} {p1 : Nat} (h : Keeps M s0 s) : Keeps M s0 (State.frerReset s p1) := by
  unfold State.frerReset
  split
  ·
    exact h
  ·
    refine ite_of (P := Keeps M s0) ?_ ?_
    ·
      exact h
    ·
      extract_lets -merge -useContext -underBinder v0
      have h1 : Keeps M s0 v0 := by
        unfold v0
        refine (keeps_State_advanceTo (sub_trans rfl hM)) ?_
        exact h
      try clear_value v0
      refine (keeps_State_modNw (sub_trans rfl hM)) ?_
      refine (keeps_State_count (sub_trans rfl hM)) ?_
      exact h1

theorem keeps_State_portTransmit {M : Nat} (hM : Nat.land 70368744177665 M = 70368744177665) {s0 : State} {s : State} {p1 : Nat} {p2 : Nat} {p3 : Nat} {p4 : Nat} (h : Keeps M s0 s) : Keeps M s0 (State.portTransmit s p1 p2 p3 p4) := by
  unfold State.portTransmit
  extract_lets -merge -useContext -underBinder v0
  try clear_value v0
  split
  ·
    exact h
  ·
    extract_lets -merge -useContext -underBinder v1 v2 v3 v4 v5 v6 v7 v8 v9
    try clear_value v1
    try clear_value v2
    try clear_value v3
    have h10 : Keeps M s0 v4 := by
      unfold v4
      refine (keeps_State_modGcl (sub_trans rfl hM)) ?_
      exact h
    try clear_value v4
    try clear_value v5
    try clear_value v6
    have h11 : Keeps M s0 v7 := by
      unfold v7
      refine ite_of (P := Keeps M s0) ?_ ?_
      ·
        refine (keeps_State_useSak (sub_trans rfl hM)) ?_
        exact h10
      ·
        exact h10
    try clear_value v7
    try clear_value v8
    try clear_value v9
    refine ite_of (P := Keeps M s0) ?_ ?_
    ·
      exact h
    ·
      refine ite_of (P := Keeps M s0) ?_ ?_
      ·
        refine (keeps_State_count (sub_trans rfl hM)) ?_
        exact h11
      ·
        split
        ·
          rename_i t12 q14
          have h13 : Keeps M s0 t12 := by
            refine KP.out q14 ?_
            refine ite_of (P := KP M s0) ?_ ?_
            ·
              refine (keeps_State_freeWord (sub_trans rfl hM)) ?_
              exact h11
            ·
              refine KP.mk ?_
              exact h11
          extract_lets -merge -useContext -underBinder v15 v16 v17
          try clear_value v15
          have h18 : Keeps M s0 v16 := by
            unfold v16
            refine ite_of (P := Keeps M s0) ?_ ?_
            ·
              refine (keeps_State_modNw (sub_trans rfl hM)) ?_
              exact h13
            ·
              exact h13
          try clear_value v16
          try clear_value v17
          refine (keeps_State_modGcl (sub_trans rfl hM)) ?_
          exact h18

theorem keeps_State_gclChg {M : Nat} (hM : Nat.land 70368744177665 M = 70368744177665) {s0 : State} {s : State} {p1 : Nat} (h : Keeps M s0 s) : Keeps M s0 (State.gclChg s p1) := by
  unfold State.gclChg
  extract_lets -merge -useContext -underBinder v0 v1 v2 v3
  try clear_value v0
  try clear_value v1
  try clear_value v2
  try clear_value v3
  refine ite_of (P := Keeps M s0) ?_ ?_
  ·
    refine (keeps_State_setf (sub_trans rfl hM)) ?_
    exact h
  ·
    refine (keeps_State_modGcl (sub_trans rfl hM)) ?_
    refine (keeps_State_setf (sub_trans rfl hM)) ?_
    exact h

theorem keeps_State_ppsEnd {M : Nat} (hM : Nat.land 70368744185856 M = 70368744185856) {s0 : State} {s : State} (h : Keeps M s0 s) : Keeps M s0 (State.ppsEnd s) := by
  unfold State.ppsEnd
  refine ite_of (P := Keeps M s0) ?_ ?_
  ·
    refine (keeps_State_modPtp (sub_trans rfl hM)) ?_
    refine (keeps_State_advanceTo (sub_trans rfl hM)) ?_
    exact h
  ·
    exact h

theorem keeps_State_ppsEdge {M : Nat} (hM : Nat.land 70368744189953 M = 70368744189953) {s0 : State} {s : State} (h : Keeps M s0 s) : Keeps M s0 (State.ppsEdge s) := by
  unfold State.ppsEdge
  refine ite_of (P := Keeps M s0) ?_ ?_
  ·
    extract_lets -merge -useContext -underBinder v0 v1 v2 v3 v4 v5
    have h6 : Keeps M s0 v0 := by
      unfold v0
      refine ite_of (P := Keeps M s0) ?_ ?_
      ·
        refine (keeps_State_advanceTo (sub_trans rfl hM)) ?_
        exact h
      ·
        exact h
    try clear_value v0
    try clear_value v1
    try clear_value v2
    try clear_value v3
    try clear_value v4
    have h7 : Keeps M s0 v5 := by
      unfold v5
      refine (keeps_State_group (sub_trans rfl hM)) ?_
      refine (keeps_State_modPtp (sub_trans rfl hM)) ?_
      refine (keeps_State_advanceTo (sub_trans rfl hM)) ?_
      exact h6
    try clear_value v5
    refine ite_of (P := Keeps M s0) ?_ ?_
    ·
      refine (keeps_State_setf (sub_trans rfl hM)) ?_
      exact h7
    ·
      exact h7
  ·
    exact h

theorem keeps_State_ptpCorrect {M : Nat} (hM : Nat.land 70368744187905 M = 70368744187905) {s0 : State} {s : State} {p1 : Int} {p2 : Int} (h : Keeps M s0 s) : Keeps M s0 (State.ptpCorrect s p1 p2) := by
  unfold State.ptpCorrect
  extract_lets -merge -useContext -underBinder v0
  have h1 : Keeps M s0 v0 := by
    unfold v0
    refine (keeps_State_ntTrim (sub_trans rfl hM)) ?_
    refine (keeps_State_modPtp (sub_trans rfl hM)) ?_
    exact h
  try clear_value v0
  refine ite_of (P := Keeps M s0) ?_ ?_
  ·
    exact h1
  ·
    refine (keeps_State_stepGo (sub_trans rfl hM)) ?_
    refine (keeps_State_wr64I (sub_trans rfl hM)) ?_
    exact h1

end Sys2Proof.Machine
end

