-- ==== Sys2Proof/Laws/KeepPwm.lean ====
section
/-! SUPPORT. The operations of Machine/Pwm.lean keep what `Keeps` says. -/

namespace Sys2Proof.Machine

theorem keeps_State_modAtc {M : Nat} (hM : Nat.land 34359738368 M = 34359738368) {s0 : State} {s : State} {p1 : Nat} {p2 : AtcSt → AtcSt} (h : Keeps M s0 s) : Keeps M s0 (State.modAtc s p1 p2) := by
  unfold State.modAtc
  refine Keeps.up_atcs (sub_trans rfl hM) ?_
  exact h

theorem keeps_State_atcAdopt {M : Nat} (hM : Nat.land 34359738370 M = 34359738370) {s0 : State} {s : State} {p1 : Nat} (h : Keeps M s0 s) : Keeps M s0 (State.atcAdopt s p1) := by
  unfold State.atcAdopt
  refine ite_of (P := Keeps M s0) ?_ ?_
  ·
    exact h
  ·
    refine (keeps_State_modAtc (sub_trans rfl hM)) ?_
    refine (keeps_State_commit (sub_trans rfl hM)) ?_
    refine (keeps_State_commit (sub_trans rfl hM)) ?_
    exact h

theorem keeps_State_atcSettings {M : Nat} (hM : Nat.land 34359738370 M = 34359738370) {s0 : State} {s : State} {p1 : Nat} (h : Keeps M s0 s) : Keeps M s0 (State.atcSettings s p1) := by
  unfold State.atcSettings
  refine Keeps.forEach ?_ ?_
  ·
    exact h
  · intro t0 x1 h2
    beta_reduce
    refine ite_of (P := Keeps M s0) ?_ ?_
    ·
      refine (keeps_State_atcAdopt (sub_trans rfl hM)) ?_
      exact h2
    ·
      exact h2

theorem keeps_State_modPwm {M : Nat} (hM : Nat.land 8589934592 M = 8589934592) {s0 : State} {s : State} {p1 : Nat} {p2 : PwmSt → PwmSt} (h : Keeps M s0 s) : Keeps M s0 (State.modPwm s p1 p2) := by
  unfold State.modPwm
  refine Keeps.up_pwms (sub_trans rfl hM) ?_
  exact h

theorem keeps_State_modLeg {M : Nat} (hM : Nat.land 8589934592 M = 8589934592) {s0 : State} {s : State} {p1 : Nat} {p2 : Nat} {p3 : LegSt → LegSt} (h : Keeps M s0 s) : Keeps M s0 (State.modLeg s p1 p2 p3) := by
  unfold State.modLeg
  refine (keeps_State_modPwm (sub_trans rfl hM)) ?_
  exact h

theorem keeps_State_legEvent {M : Nat} (hM : Nat.land 8589934593 M = 8589934593) {s0 : State} {s : State} {p1 : Nat} {p2 : Nat} (h : Keeps M s0 s) : Keeps M s0 (State.legEvent s p1 p2) := by
  unfold State.legEvent
  extract_lets -merge -useContext -underBinder v0 v1
  try clear_value v0
  try clear_value v1
  split
  ·
    exact h
  ·
    refine (keeps_State_modLeg (sub_trans rfl hM)) ?_
    exact h
  ·
    extract_lets -merge -useContext -underBinder v2 v3 v4 v5
    try clear_value v2
    try clear_value v3
    have h6 : Keeps M s0 v4 := by
      unfold v4
      refine (keeps_State_modLeg (sub_trans rfl hM)) ?_
      exact h
    try clear_value v4
    have h7 : Keeps M s0 v5 := by
      unfold v5
      refine ite_of (P := Keeps M s0) ?_ ?_
      ·
        refine (keeps_State_setf (sub_trans rfl hM)) ?_
        exact h6
      ·
        exact h6
    try clear_value v5
    refine ite_of (P := Keeps M s0) ?_ ?_
    ·
      exact h6
    ·
      refine (keeps_State_modLeg (sub_trans rfl hM)) ?_
      exact h7

theorem keeps_State_legTo {M : Nat} (hM : Nat.land 8589934593 M = 8589934593) {s0 : State} {g i t k : Nat} : ∀ {s : State}, Keeps M s0 s → Keeps M s0 (State.legTo g i t k s) := by
  induction k with
  | zero => intro s h; exact h
  | succ k ih =>
    intro s h
    unfold State.legTo
    split
    · exact ite_of (P := Keeps M s0) (ih ((keeps_State_legEvent (sub_trans rfl hM)) h)) h
    · exact h

theorem keeps_State_pwmTo {M : Nat} (hM : Nat.land 8589934593 M = 8589934593) {s0 : State} {s : State} {p1 : Nat} {p2 : Nat} (h : Keeps M s0 s) : Keeps M s0 (State.pwmTo s p1 p2) := by
  unfold State.pwmTo
  refine Keeps.forEach ?_ ?_
  ·
    exact h
  · intro t0 x1 h2
    beta_reduce
    refine (keeps_State_legTo (sub_trans rfl hM)) ?_
    exact h2

theorem keeps_State_pwmFollow {M : Nat} (hM : Nat.land 8589934592 M = 8589934592) {s0 : State} {s : State} {p1 : Nat} {p2 : Nat} (h : Keeps M s0 s) : Keeps M s0 (State.pwmFollow s p1 p2) := by
  unfold State.pwmFollow
  refine Keeps.forEach ?_ ?_
  ·
    exact h
  · intro t0 x1 h2
    beta_reduce
    refine (keeps_State_modLeg (sub_trans rfl hM)) ?_
    exact h2

theorem keeps_State_pwmDrive {M : Nat} (hM : Nat.land 8589934593 M = 8589934593) {s0 : State} {s : State} {p1 : Nat} {p2 : Nat} (h : Keeps M s0 s) : Keeps M s0 (State.pwmDrive s p1 p2) := by
  unfold State.pwmDrive
  extract_lets -merge -useContext -underBinder v0 v1 v2
  try clear_value v0
  have h3 : Keeps M s0 v1 := by
    unfold v1
    refine (keeps_State_modPwm (sub_trans rfl hM)) ?_
    refine (keeps_State_pwmTo (sub_trans rfl hM)) ?_
    exact h
  try clear_value v1
  have h4 : Keeps M s0 v2 := by
    unfold v2
    refine (keeps_State_pwmTo (sub_trans rfl hM)) ?_
    exact h
  try clear_value v2
  refine ite_of (P := Keeps M s0) ?_ ?_
  ·
    exact h
  ·
    refine ite_of (P := Keeps M s0) ?_ ?_
    ·
      refine ite_of (P := Keeps M s0) ?_ ?_
      ·
        exact h3
      ·
        refine (keeps_State_pwmFollow (sub_trans rfl hM)) ?_
        exact h3
    ·
      refine (keeps_State_modPwm (sub_trans rfl hM)) ?_
      exact h4

theorem keeps_State_pwmPeriod {M : Nat} (hM : Nat.land 8589934595 M = 8589934595) {s0 : State} {s : State} {p1 : Nat} {p2 : Word} {p3 : Nat} (h : Keeps M s0 s) : Keeps M s0 (State.pwmPeriod s p1 p2 p3) := by
  unfold State.pwmPeriod
  extract_lets -merge -useContext -underBinder v0 v1
  have h2 : Keeps M s0 v0 := by
    unfold v0
    refine (keeps_State_putB (sub_trans rfl hM)) ?_
    refine (keeps_State_awr (sub_trans rfl hM)) ?_
    exact h
  try clear_value v0
  have h3 : Keeps M s0 v1 := by
    unfold v1
    refine ite_of (P := Keeps M s0) ?_ ?_
    ·
      refine (keeps_State_wrN (sub_trans rfl hM)) ?_
      exact h2
    ·
      exact h2
  try clear_value v1
  refine ite_of (P := Keeps M s0) ?_ ?_
  ·
    refine (keeps_State_modPwm (sub_trans rfl hM)) ?_
    refine (keeps_State_pwmDrive (sub_trans rfl hM)) ?_
    exact h3
  ·
    exact h3

theorem keeps_State_modTrip {M : Nat} (hM : Nat.land 17179869184 M = 17179869184) {s0 : State} {s : State} {p1 : Nat} {p2 : TripSt → TripSt} (h : Keeps M s0 s) : Keeps M s0 (State.modTrip s p1 p2) := by
  unfold State.modTrip
  refine Keeps.up_trips (sub_trans rfl hM) ?_
  exact h

theorem keeps_State_pwmCut {M : Nat} (hM : Nat.land 8589934593 M = 8589934593) {s0 : State} {s : State} {p1 : Nat} {p2 : Nat} (h : Keeps M s0 s) : Keeps M s0 (State.pwmCut s p1 p2) := by
  unfold State.pwmCut
  extract_lets -merge -useContext -underBinder v0 v1 v2 v3 v4 v5 v6 v7 v8
  try clear_value v0
  have h9 : Keeps M s0 v1 := by
    unfold v1
    refine (keeps_State_pwmTo (sub_trans rfl hM)) ?_
    exact h
  try clear_value v1
  try clear_value v2
  try clear_value v3
  try clear_value v4
  try clear_value v5
  have h10 : Keeps M s0 v6 := by
    unfold v6
    refine Keeps.up_freeCount (sub_trans rfl hM) ?_ (Nat.le_add_right _ _)
    exact h9
  try clear_value v6
  have h11 : Keeps M s0 v7 := by
    unfold v7
    refine ite_of (P := Keeps M s0) ?_ ?_
    ·
      refine (keeps_State_setf (sub_trans rfl hM)) ?_
      exact h10
    ·
      exact h10
  try clear_value v7
  have h12 : Keeps M s0 v8 := by
    unfold v8
    refine (keeps_State_modPwm (sub_trans rfl hM)) ?_
    refine (keeps_State_setf (sub_trans rfl hM)) ?_
    exact h11
  try clear_value v8
  refine ite_of (P := Keeps M s0) ?_ ?_
  ·
    exact h
  ·
    refine ite_of (P := Keeps M s0) ?_ ?_
    ·
      exact h12
    ·
      refine Keeps.forEach ?_ ?_
      ·
        exact h12
      · intro t13 x14 h15
        beta_reduce
        refine (keeps_State_modLeg (sub_trans rfl hM)) ?_
        exact h15

theorem keeps_State_setGcause {M : Nat} (hM : Nat.land 1 M = 1) {s0 : State} {s : State} {p1 : Nat} {p2 : Nat} {p3 : Bool} (h : Keeps M s0 s) : Keeps M s0 (State.setGcause s p1 p2 p3) := by
  unfold State.setGcause
  refine (keeps_State_put (sub_trans rfl hM)) ?_
  exact h

theorem keeps_State_tripFlag {M : Nat} (hM : Nat.land 1 M = 1) {s0 : State} {s : State} {p1 : Nat} {p2 : Nat} (h : Keeps M s0 s) : Keeps M s0 (State.tripFlag s p1 p2) := by
  unfold State.tripFlag
  refine (keeps_State_wrN (sub_trans rfl hM)) ?_
  refine (keeps_State_count (sub_trans rfl hM)) ?_
  refine (keeps_State_setf (sub_trans rfl hM)) ?_
  exact h

theorem keeps_State_tripDetect {M : Nat} (hM : Nat.land 25769809921 M = 25769809921) {s0 : State} {s : State} {p1 : Nat} {p2 : Nat} (h : Keeps M s0 s) : Keeps M s0 (State.tripDetect s p1 p2) := by
  unfold State.tripDetect
  extract_lets -merge -useContext -underBinder v0 v1 v2 v3 v4 v5 v6 v7
  try clear_value v0
  try clear_value v1
  have h8 : Keeps M s0 v2 := by
    unfold v2
    refine (keeps_State_modTrip (sub_trans rfl hM)) ?_
    exact h
  try clear_value v2
  have h9 : Keeps M s0 v3 := by
    unfold v3
    refine (keeps_State_tripFlag (sub_trans rfl hM)) ?_
    exact h8
  try clear_value v3
  try clear_value v4
  have h10 : Keeps M s0 v5 := by
    unfold v5
    refine (keeps_State_wrN (sub_trans rfl hM)) ?_
    refine (keeps_State_count (sub_trans rfl hM)) ?_
    refine (keeps_State_setf (sub_trans rfl hM)) ?_
    exact h8
  try clear_value v5
  have h11 : Keeps M s0 v6 := by
    unfold v6
    refine ite_of (P := Keeps M s0) ?_ ?_
    ·
      refine ite_of (P := Keeps M s0) ?_ ?_
      ·
        refine (keeps_State_setf (sub_trans rfl hM)) ?_
        exact h9
      ·
        exact h9
    ·
      refine ite_of (P := Keeps M s0) ?_ ?_
      ·
        refine (keeps_State_setf (sub_trans rfl hM)) ?_
        exact h10
      ·
        exact h10
  try clear_value v6
  have h12 : Keeps M s0 v7 := by
    unfold v7
    refine Keeps.forEach ?_ ?_
    ·
      exact h11
    · intro t13 x14 h15
      beta_reduce
      extract_lets -merge -useContext -underBinder v16 v17 v18
      have h19 : Keeps M s0 v16 := by
        unfold v16
        refine (keeps_State_pwmCut (sub_trans rfl hM)) ?_
        exact h15
      try clear_value v16
      have h20 : Keeps M s0 v17 := by
        unfold v17
        refine ite_of (P := Keeps M s0) ?_ ?_
        ·
          exact h19
        ·
          refine (keeps_State_modPwm (sub_trans rfl hM)) ?_
          exact h19
      try clear_value v17
      have h21 : Keeps M s0 v18 := by
        unfold v18
        refine ite_of (P := Keeps M s0) ?_ ?_
        ·
          refine (keeps_State_setf (sub_trans rfl hM)) ?_
          exact h20
        ·
          exact h20
      try clear_value v18
      refine ite_of (P := Keeps M s0) ?_ ?_
      ·
        refine (keeps_State_setGcause (sub_trans rfl hM)) ?_
        exact h21
      ·
        exact h21
  try clear_value v7
  refine ite_of (P := Keeps M s0) ?_ ?_
  ·
    exact h12
  ·
    refine (keeps_State_group (sub_trans rfl hM)) ?_
    refine (keeps_State_event (sub_trans rfl hM)) ?_
    exact h12

theorem keeps_State_setTripIn {M : Nat} (hM : Nat.land 1 M = 1) {s0 : State} {s : State} {p1 : Nat} {p2 : Bool} (h : Keeps M s0 s) : Keeps M s0 (State.setTripIn s p1 p2) := by
  unfold State.setTripIn
  refine ite_of (P := Keeps M s0) ?_ ?_
  ·
    refine (keeps_State_putB (sub_trans rfl hM)) ?_
    exact h
  ·
    refine (keeps_State_putB (sub_trans rfl hM)) ?_
    exact h

theorem keeps_State_tripCheck {M : Nat} (hM : Nat.land 25769809921 M = 25769809921) {s0 : State} {s : State} {p1 : Nat} {p2 : Nat} (h : Keeps M s0 s) : Keeps M s0 (State.tripCheck s p1 p2) := by
  unfold State.tripCheck
  refine ite_of (P := Keeps M s0) ?_ ?_
  ·
    refine (keeps_State_tripDetect (sub_trans rfl hM)) ?_
    exact h
  ·
    exact h

theorem keeps_State_tripFiltered {M : Nat} (hM : Nat.land 25769818113 M = 25769818113) {s0 : State} {s : State} {p1 : Nat} (h : Keeps M s0 s) : Keeps M s0 (State.tripFiltered s p1) := by
  unfold State.tripFiltered
  split
  ·
    exact h
  ·
    extract_lets -merge -useContext -underBinder v0
    have h1 : Keeps M s0 v0 := by
      unfold v0
      refine (keeps_State_advanceTo (sub_trans rfl hM)) ?_
      exact h
    try clear_value v0
    refine (keeps_State_tripCheck (sub_trans rfl hM)) ?_
    refine ite_of (P := Keeps M s0) ?_ ?_
    ·
      refine (keeps_State_setTripIn (sub_trans rfl hM)) ?_
      exact h1
    ·
      exact h1

theorem keeps_State_pwmApply {M : Nat} (hM : Nat.land 8589934595 M = 8589934595) {s0 : State} {s : State} {p1 : Nat} {p2 : Nat} {p3 : Bool} {p4 : PwmCommit} (h : Keeps M s0 s) : Keeps M s0 (State.pwmApply s p1 p2 p3 p4) := by
  unfold State.pwmApply
  extract_lets -merge -useContext -underBinder v0 v1 v2 v3 v4
  try clear_value v0
  try clear_value v1
  try clear_value v2
  have h5 : Keeps M s0 v3 := by
    unfold v3
    refine (keeps_State_modPwm (sub_trans rfl hM)) ?_
    exact h
  try clear_value v3
  have h6 : Keeps M s0 v4 := by
    unfold v4
    refine foldl_of (P := Keeps M s0) ?_ ?_
    ·
      exact h5
    · intro t7 x8 h9
      beta_reduce
      refine (keeps_State_awr (sub_trans rfl hM)) ?_
      exact h9
  try clear_value v4
  split
  ·
    exact h6
  ·
    refine ite_of (P := Keeps M s0) ?_ ?_
    ·
      refine (keeps_State_setf (sub_trans rfl hM)) ?_
      exact h6
    ·
      extract_lets -merge -useContext -underBinder v10 v11 v12
      have h13 : Keeps M s0 v10 := by
        unfold v10
        refine ite_of (P := Keeps M s0) ?_ ?_
        ·
          refine (keeps_State_modPwm (sub_trans rfl hM)) ?_
          exact h6
        ·
          refine (keeps_State_pwmPeriod (sub_trans rfl hM)) ?_
          exact h6
      try clear_value v10
      have h14 : Keeps M s0 v11 := by
        unfold v11
        refine ite_of (P := Keeps M s0) ?_ ?_
        ·
          refine (keeps_State_setf (sub_trans rfl hM)) ?_
          exact h13
        ·
          exact h13
      try clear_value v11
      try clear_value v12
      refine (keeps_State_modPwm (sub_trans rfl hM)) ?_
      exact h14

theorem keeps_State_tripCause {M : Nat} (hM : Nat.land 8589940737 M = 8589940737) {s0 : State} {s : State} {p1 : Nat} {p2 : Fld} {p3 : EventKind} (h : Keeps M s0 s) : Keeps M s0 (State.tripCause s p1 p2 p3) := by
  unfold State.tripCause
  extract_lets -merge -useContext -underBinder v0 v1 v2
  try clear_value v0
  have h3 : Keeps M s0 v1 := by
    unfold v1
    refine (keeps_State_pwmCut (sub_trans rfl hM)) ?_
    refine (keeps_State_setf (sub_trans rfl hM)) ?_
    refine (keeps_State_tripFlag (sub_trans rfl hM)) ?_
    exact h
  try clear_value v1
  have h4 : Keeps M s0 v2 := by
    unfold v2
    refine ite_of (P := Keeps M s0) ?_ ?_
    ·
      refine (keeps_State_modPwm (sub_trans rfl hM)) ?_
      exact h3
    ·
      exact h3
  try clear_value v2
  refine ite_of (P := Keeps M s0) ?_ ?_
  ·
    exact h4
  ·
    refine (keeps_State_group (sub_trans rfl hM)) ?_
    refine (keeps_State_event (sub_trans rfl hM)) ?_
    exact h4

theorem keeps_State_blankStat {M : Nat} (hM : Nat.land 1 M = 1) {s0 : State} {s : State} (h : Keeps M s0 s) : Keeps M s0 (State.blankStat s) := by
  unfold State.blankStat
  extract_lets -merge -useContext -underBinder v0
  have h1 : Keeps M s0 v0 := by
    unfold v0
    refine Keeps.forEach ?_ ?_
    ·
      exact h
    · intro t2 x3 h4
      beta_reduce
      refine (keeps_State_putB (sub_trans rfl hM)) ?_
      exact h4
  try clear_value v0
  refine Keeps.forEach ?_ ?_
  ·
    exact h1
  · intro t5 x6 h7
    beta_reduce
    refine (keeps_State_putB (sub_trans rfl hM)) ?_
    exact h7

theorem keeps_State_pwmStart {M : Nat} (hM : Nat.land 8589934592 M = 8589934592) {s0 : State} {p0 : Nat} {s : State} (h : Keeps M s0 s) : Keeps M s0 (State.pwmStart p0 s) := by
  unfold State.pwmStart
  split
  ·
    refine ite_of (P := Keeps M s0) ?_ ?_
    ·
      refine (keeps_State_modPwm (sub_trans rfl hM)) ?_
      exact h
    ·
      exact h
  ·
    exact h

theorem keeps_State_pwmCaptureAt {M : Nat} (hM : Nat.land 8589934592 M = 8589934592) {s0 : State} {s : State} {p1 : Nat} {p2 : Bool} {p3 : Nat} (h : Keeps M s0 s) : Keeps M s0 (State.pwmCaptureAt s p1 p2 p3) := by
  unfold State.pwmCaptureAt
  extract_lets -merge -useContext -underBinder v0 v1 v2 v3
  try clear_value v0
  try clear_value v1
  try clear_value v2
  try clear_value v3
  refine (keeps_State_pwmStart (sub_trans rfl hM)) ?_
  refine (keeps_State_modPwm (sub_trans rfl hM)) ?_
  exact h

theorem keeps_State_pwmStageAt {M : Nat} (hM : Nat.land 8589934592 M = 8589934592) {s0 : State} {s : State} {p1 : Nat} {p2 : Nat} {p3 : Bool} {p4 : Nat} (h : Keeps M s0 s) : Keeps M s0 (State.pwmStageAt s p1 p2 p3 p4) := by
  unfold State.pwmStageAt
  refine (keeps_State_pwmStart (sub_trans rfl hM)) ?_
  split
  ·
    refine (keeps_State_modPwm (sub_trans rfl hM)) ?_
    exact h
  ·
    refine (keeps_State_modPwm (sub_trans rfl hM)) ?_
    exact h

theorem keeps_State_flyTo {M : Nat} (hM : Nat.land 8589934593 M = 8589934593) {s0 : State} {s : State} {p1 : Nat} (h : Keeps M s0 s) : Keeps M s0 (State.flyTo s p1) := by
  unfold State.flyTo
  split
  ·
    refine ite_of (P := Keeps M s0) ?_ ?_
    ·
      refine (keeps_State_pwmCaptureAt (sub_trans rfl hM)) ?_
      refine foldl_of (P := Keeps M s0) ?_ ?_
      ·
        refine (keeps_State_modPwm (sub_trans rfl hM)) ?_
        exact h
      · intro t0 x1 h2
        beta_reduce
        refine (keeps_State_pwmStageAt (sub_trans rfl hM)) ?_
        refine (keeps_State_wr (sub_trans rfl hM)) ?_
        exact h2
    ·
      exact h
  ·
    exact h

theorem keeps_State_tripSettle {M : Nat} (hM : Nat.land 25769809921 M = 25769809921) {s0 : State} {s : State} {p1 : Nat} (h : Keeps M s0 s) : Keeps M s0 (State.tripSettle s p1) := by
  unfold State.tripSettle
  split
  ·
    refine ite_of (P := Keeps M s0) ?_ ?_
    ·
      refine (keeps_State_tripCheck (sub_trans rfl hM)) ?_
      refine (keeps_State_setTripIn (sub_trans rfl hM)) ?_
      exact h
    ·
      exact h
  ·
    exact h

theorem keeps_State_atcClose {M : Nat} (hM : Nat.land 60129556481 M = 60129556481) {s0 : State} {s : State} {p1 : Nat} (h : Keeps M s0 s) : Keeps M s0 (State.atcClose s p1) := by
  unfold State.atcClose
  split
  ·
    exact h
  ·
    extract_lets -merge -useContext -underBinder v0
    have h1 : Keeps M s0 v0 := by
      unfold v0
      refine (keeps_State_blankStat (sub_trans rfl hM)) ?_
      refine (keeps_State_clrf (sub_trans rfl hM)) ?_
      refine (keeps_State_modAtc (sub_trans rfl hM)) ?_
      refine (keeps_State_advanceTo (sub_trans rfl hM)) ?_
      exact h
    try clear_value v0
    refine Keeps.forEach ?_ ?_
    ·
      exact h1
    · intro t2 x3 h4
      beta_reduce
      refine ite_of (P := Keeps M s0) ?_ ?_
      ·
        refine (keeps_State_tripCheck (sub_trans rfl hM)) ?_
        refine (keeps_State_tripSettle (sub_trans rfl hM)) ?_
        exact h4
      ·
        exact h4

theorem keeps_State_atcSpan {M : Nat} (hM : Nat.land 34359738368 M = 34359738368) {s0 : State} {s : State} {p1 : Nat} (h : Keeps M s0 s) : Keeps M s0 (State.atcSpan s p1) := by
  unfold State.atcSpan
  refine Keeps.forEach ?_ ?_
  ·
    exact h
  · intro t0 x1 h2
    beta_reduce
    refine Keeps.forEach ?_ ?_
    ·
      exact h2
    · intro t3 x4 h5
      beta_reduce
      refine foldl_of (P := Keeps M s0) ?_ ?_
      ·
        exact h5
      · intro t6 x7 h8
        beta_reduce
        refine ite_of (P := Keeps M s0) ?_ ?_
        ·
          refine (keeps_State_modAtc (sub_trans rfl hM)) ?_
          exact h8
        ·
          exact h8

theorem keeps_State_auxClrFlags {M : Nat} (hM : Nat.land 1 M = 1) {s0 : State} {s : State} {p1 : Nat} (h : Keeps M s0 s) : Keeps M s0 (State.auxClrFlags s p1) := by
  unfold State.auxClrFlags
  refine (keeps_State_clrBits (sub_trans rfl hM)) ?_
  exact h

theorem keeps_State_cutEnd {M : Nat} (hM : Nat.land 25769809921 M = 25769809921) {s0 : State} {s : State} {p1 : Nat} {p2 : Nat} (h : Keeps M s0 s) : Keeps M s0 (State.cutEnd s p1 p2) := by
  unfold State.cutEnd
  extract_lets -merge -useContext -underBinder v0 v1 v2 v3 v4 v5 v6
  have h7 : Keeps M s0 v0 := by
    unfold v0
    refine Keeps.forEach ?_ ?_
    ·
      exact h
    · intro t8 x9 h10
      beta_reduce
      refine (keeps_State_tripSettle (sub_trans rfl hM)) ?_
      exact h10
  try clear_value v0
  try clear_value v1
  try clear_value v2
  have h11 : Keeps M s0 v3 := by
    unfold v3
    refine (keeps_State_modPwm (sub_trans rfl hM)) ?_
    exact h7
  try clear_value v3
  have h12 : Keeps M s0 v4 := by
    unfold v4
    refine ite_of (P := Keeps M s0) ?_ ?_
    ·
      exact h11
    ·
      refine ite_of (P := Keeps M s0) ?_ ?_
      ·
        refine (keeps_State_count (sub_trans rfl hM)) ?_
        exact h11
      ·
        exact h11
  try clear_value v4
  have h13 : Keeps M s0 v5 := by
    unfold v5
    refine ite_of (P := Keeps M s0) ?_ ?_
    ·
      refine (keeps_State_put (sub_trans rfl hM)) ?_
      exact h12
    ·
      exact h12
  try clear_value v5
  have h14 : Keeps M s0 v6 := by
    unfold v6
    refine (keeps_State_modPwm (sub_trans rfl hM)) ?_
    refine (keeps_State_clrf (sub_trans rfl hM)) ?_
    refine (keeps_State_pwmTo (sub_trans rfl hM)) ?_
    exact h13
  try clear_value v6
  refine ite_of (P := Keeps M s0) ?_ ?_
  ·
    refine ite_of (P := Keeps M s0) ?_ ?_
    ·
      refine (keeps_State_pwmFollow (sub_trans rfl hM)) ?_
      exact h14
    ·
      exact h14
  ·
    exact h13

theorem keeps_State_pwmCommits {M : Nat} (hM : Nat.land 8589934595 M = 8589934595) {s0 : State} {s : State} {p1 : Nat} {p2 : Nat} {p3 : Bool} (h : Keeps M s0 s) : Keeps M s0 (State.pwmCommits s p1 p2 p3) := by
  unfold State.pwmCommits
  extract_lets -merge -useContext -underBinder v0
  try clear_value v0
  split
  ·
    refine foldl_of (P := Keeps M s0) ?_ ?_
    ·
      refine (keeps_State_modPwm (sub_trans rfl hM)) ?_
      exact h
    · intro t1 x2 h3
      beta_reduce
      refine (keeps_State_pwmApply (sub_trans rfl hM)) ?_
      exact h3

theorem keeps_State_pwmSpan {M : Nat} (hM : Nat.land 42949672963 M = 42949672963) {s0 : State} {s : State} {p1 : Nat} {p2 : Nat} {p3 : Nat} {p4 : Bool} (h : Keeps M s0 s) : Keeps M s0 (State.pwmSpan s p1 p2 p3 p4) := by
  unfold State.pwmSpan
  extract_lets -merge -useContext -underBinder v0 v1 v2
  have h3 : Keeps M s0 v0 := by
    unfold v0
    refine (keeps_State_modPwm (sub_trans rfl hM)) ?_
    refine (keeps_State_pwmTo (sub_trans rfl hM)) ?_
    exact h
  try clear_value v0
  try clear_value v1
  have h4 : Keeps M s0 v2 := by
    unfold v2
    refine Keeps.forEach ?_ ?_
    ·
      exact h3
    · intro t5 x6 h7
      beta_reduce
      extract_lets -merge -useContext -underBinder v8 v9 v10 v11
      try clear_value v8
      try clear_value v9
      try clear_value v10
      have h12 : Keeps M s0 v11 := by
        unfold v11
        refine ite_of (P := Keeps M s0) ?_ ?_
        ·
          refine (keeps_State_setf (sub_trans rfl hM)) ?_
          refine (keeps_State_awr (sub_trans rfl hM)) ?_
          exact h7
        ·
          exact h7
      try clear_value v11
      split
      ·
        extract_lets -merge -useContext -underBinder v13 v14 v15 v16
        have h17 : Keeps M s0 v13 := by
          unfold v13
          refine ite_of (P := Keeps M s0) ?_ ?_
          ·
            refine (keeps_State_setf (sub_trans rfl hM)) ?_
            exact h12
          ·
            exact h12
        try clear_value v13
        have h18 : Keeps M s0 v14 := by
          unfold v14
          refine ite_of (P := Keeps M s0) ?_ ?_
          ·
            refine (keeps_State_setf (sub_trans rfl hM)) ?_
            exact h17
          ·
            exact h17
        try clear_value v14
        try clear_value v15
        try clear_value v16
        refine (keeps_State_modPwm (sub_trans rfl hM)) ?_
        refine (keeps_State_modLeg (sub_trans rfl hM)) ?_
        refine (keeps_State_wrN (sub_trans rfl hM)) ?_
        exact h18
  try clear_value v2
  refine (keeps_State_atcSpan (sub_trans rfl hM)) ?_
  refine (keeps_State_modPwm (sub_trans rfl hM)) ?_
  exact h4

theorem keeps_State_pwmBoundary {M : Nat} (hM : Nat.land 60129548291 M = 60129548291) {s0 : State} {s : State} {p1 : Nat} {p2 : Nat} {p3 : Nat} {p4 : Bool} (h : Keeps M s0 s) : Keeps M s0 (State.pwmBoundary s p1 p2 p3 p4) := by
  unfold State.pwmBoundary
  extract_lets -merge -useContext -underBinder v0 v1 v2 v3 v4 v5
  have h6 : Keeps M s0 v0 := by
    unfold v0
    refine (keeps_State_pwmTo (sub_trans rfl hM)) ?_
    refine (keeps_State_flyTo (sub_trans rfl hM)) ?_
    exact h
  try clear_value v0
  have h7 : Keeps M s0 v1 := by
    unfold v1
    split
    ·
      refine (keeps_State_modPwm (sub_trans rfl hM)) ?_
      refine (keeps_State_pwmPeriod (sub_trans rfl hM)) ?_
      exact h6
    ·
      exact h6
  try clear_value v1
  have h8 : Keeps M s0 v2 := by
    unfold v2
    refine (keeps_State_pwmCommits (sub_trans rfl hM)) ?_
    exact h7
  try clear_value v2
  have h9 : Keeps M s0 v3 := by
    unfold v3
    refine ite_of (P := Keeps M s0) ?_ ?_
    ·
      exact h8
    ·
      refine (keeps_State_atcSettings (sub_trans rfl hM)) ?_
      exact h8
  try clear_value v3
  have h10 : Keeps M s0 v4 := by
    unfold v4
    refine (keeps_State_pwmSpan (sub_trans rfl hM)) ?_
    refine ite_of (P := Keeps M s0) ?_ ?_
    ·
      exact h9
    ·
      refine (keeps_State_wrN (sub_trans rfl hM)) ?_
      exact h9
  try clear_value v4
  have h11 : Keeps M s0 v5 := by
    unfold v5
    refine ite_of (P := Keeps M s0) ?_ ?_
    ·
      exact h10
    ·
      refine (keeps_State_cutEnd (sub_trans rfl hM)) ?_
      exact h10
  try clear_value v5
  refine ite_of (P := Keeps M s0) ?_ ?_
  ·
    exact h9
  ·
    refine (keeps_State_pwmDrive (sub_trans rfl hM)) ?_
    exact h11

theorem keeps_State_auxStart {M : Nat} (hM : Nat.land 60129556483 M = 60129556483) {s0 : State} {s : State} {p1 : Nat} (h : Keeps M s0 s) : Keeps M s0 (State.auxStart s p1) := by
  unfold State.auxStart
  extract_lets -merge -useContext -underBinder v0 v1
  try clear_value v0
  try clear_value v1
  refine ite_of (P := Keeps M s0) ?_ ?_
  ·
    exact h
  ·
    split
    ·
      extract_lets -merge -useContext -underBinder v2 v3 v4
      have h5 : Keeps M s0 v2 := by
        unfold v2
        refine (keeps_State_modPwm (sub_trans rfl hM)) ?_
        refine (keeps_State_advanceTo (sub_trans rfl hM)) ?_
        exact h
      try clear_value v2
      have h6 : Keeps M s0 v3 := by
        unfold v3
        refine (keeps_State_pwmCommits (sub_trans rfl hM)) ?_
        exact h5
      try clear_value v3
      try clear_value v4
      refine ite_of (P := Keeps M s0) ?_ ?_
      ·
        exact h6
      ·
        refine (keeps_State_pwmBoundary (sub_trans rfl hM)) ?_
        refine (keeps_State_atcSettings (sub_trans rfl hM)) ?_
        exact h6
    ·
      refine ite_of (P := Keeps M s0) ?_ ?_
      ·
        exact h
      ·
        extract_lets -merge -useContext -underBinder v7 v8 v9
        try clear_value v7
        have h10 : Keeps M s0 v8 := by
          unfold v8
          refine (keeps_State_advanceTo (sub_trans rfl hM)) ?_
          exact h
        try clear_value v8
        have h11 : Keeps M s0 v9 := by
          unfold v9
          refine (keeps_State_pwmCommits (sub_trans rfl hM)) ?_
          exact h10
        try clear_value v9
        refine (keeps_State_pwmBoundary (sub_trans rfl hM)) ?_
        exact h11

theorem keeps_State_tripActive {M : Nat} (hM : Nat.land 25769809921 M = 25769809921) {s0 : State} {s : State} {p1 : Nat} {p2 : Nat} (h : Keeps M s0 s) : Keeps M s0 (State.tripActive s p1 p2) := by
  unfold State.tripActive
  extract_lets -merge -useContext -underBinder v0
  have h1 : Keeps M s0 v0 := by
    unfold v0
    refine (keeps_State_modTrip (sub_trans rfl hM)) ?_
    exact h
  try clear_value v0
  refine ite_of (P := Keeps M s0) ?_ ?_
  ·
    refine (keeps_State_tripCheck (sub_trans rfl hM)) ?_
    refine (keeps_State_setTripIn (sub_trans rfl hM)) ?_
    exact h1
  ·
    exact h1

theorem keeps_State_tripWatch {M : Nat} (hM : Nat.land 25769809921 M = 25769809921) {s0 : State} {s : State} {p1 : Nat} {p2 : Nat} (h : Keeps M s0 s) : Keeps M s0 (State.tripWatch s p1 p2) := by
  unfold State.tripWatch
  refine ite_of (P := Keeps M s0) ?_ ?_
  ·
    refine (keeps_State_tripActive (sub_trans rfl hM)) ?_
    exact h
  ·
    refine (keeps_State_modTrip (sub_trans rfl hM)) ?_
    refine (keeps_State_setTripIn (sub_trans rfl hM)) ?_
    exact h

theorem keeps_State_gtripTclr {M : Nat} (hM : Nat.land 25769809921 M = 25769809921) {s0 : State} {s : State} {p1 : Nat} (h : Keeps M s0 s) : Keeps M s0 (State.gtripTclr s p1) := by
  unfold State.gtripTclr
  extract_lets -merge -useContext -underBinder v0 v1
  have h2 : Keeps M s0 v0 := by
    unfold v0
    refine (keeps_State_tripSettle (sub_trans rfl hM)) ?_
    exact h
  try clear_value v0
  have h3 : Keeps M s0 v1 := by
    unfold v1
    refine (keeps_State_clrf (sub_trans rfl hM)) ?_
    exact h2
  try clear_value v1
  refine ite_of (P := Keeps M s0) ?_ ?_
  ·
    exact h2
  ·
    refine ite_of (P := Keeps M s0) ?_ ?_
    ·
      refine (keeps_State_event (sub_trans rfl hM)) ?_
      refine (keeps_State_setf (sub_trans rfl hM)) ?_
      exact h2
    ·
      refine Keeps.forEach ?_ ?_
      ·
        exact h3
      · intro t4 x5 h6
        beta_reduce
        refine (keeps_State_setGcause (sub_trans rfl hM)) ?_
        exact h6

theorem keeps_State_pwmCapture {M : Nat} (hM : Nat.land 8589934593 M = 8589934593) {s0 : State} {s : State} {p1 : Nat} {p2 : Bool} (h : Keeps M s0 s) : Keeps M s0 (State.pwmCapture s p1 p2) := by
  unfold State.pwmCapture
  refine (keeps_State_pwmCaptureAt (sub_trans rfl hM)) ?_
  refine (keeps_State_flyTo (sub_trans rfl hM)) ?_
  exact h

theorem keeps_State_pwmAll {M : Nat} (hM : Nat.land 8589934593 M = 8589934593) {s0 : State} {s : State} {p1 : Nat} (h : Keeps M s0 s) : Keeps M s0 (State.pwmAll s p1) := by
  unfold State.pwmAll
  split
  ·
    refine (keeps_State_setf (sub_trans rfl hM)) ?_
    exact h
  ·
    refine (keeps_State_pwmCapture (sub_trans rfl hM)) ?_
    exact h

theorem keeps_State_pwmCmpc {M : Nat} (hM : Nat.land 8589934593 M = 8589934593) {s0 : State} {s : State} {p1 : Nat} (h : Keeps M s0 s) : Keeps M s0 (State.pwmCmpc s p1) := by
  unfold State.pwmCmpc
  refine (keeps_State_pwmCapture (sub_trans rfl hM)) ?_
  exact h

theorem keeps_State_pwmEdge {M : Nat} (hM : Nat.land 8589942785 M = 8589942785) {s0 : State} {s : State} {p1 : Nat} {p2 : Nat} (h : Keeps M s0 s) : Keeps M s0 (State.pwmEdge s p1 p2) := by
  unfold State.pwmEdge
  extract_lets -merge -useContext -underBinder v0
  try clear_value v0
  split
  ·
    exact h
  ·
    refine ite_of (P := Keeps M s0) ?_ ?_
    ·
      exact h
    ·
      refine (keeps_State_legEvent (sub_trans rfl hM)) ?_
      refine (keeps_State_advanceTo (sub_trans rfl hM)) ?_
      exact h

theorem keeps_State_pwmClrCnt {M : Nat} (hM : Nat.land 1 M = 1) {s0 : State} {s : State} {p1 : Nat} (h : Keeps M s0 s) : Keeps M s0 (State.pwmClrCnt s p1) := by
  unfold State.pwmClrCnt
  refine (keeps_State_wrN (sub_trans rfl hM)) ?_
  exact h

theorem keeps_State_tripLand {M : Nat} (hM : Nat.land 25769818113 M = 25769818113) {s0 : State} {s : State} {p1 : Nat} {p2 : Bool} {p3 : Nat} (h : Keeps M s0 s) : Keeps M s0 (State.tripLand s p1 p2 p3) := by
  unfold State.tripLand
  extract_lets -merge -useContext -underBinder v0 v1 v2
  have h3 : Keeps M s0 v0 := by
    unfold v0
    refine (keeps_State_advanceTo (sub_trans rfl hM)) ?_
    exact h
  try clear_value v0
  try clear_value v1
  have h4 : Keeps M s0 v2 := by
    unfold v2
    refine (keeps_State_modTrip (sub_trans rfl hM)) ?_
    exact h3
  try clear_value v2
  refine ite_of (P := Keeps M s0) ?_ ?_
  ·
    exact h4
  ·
    refine ite_of (P := Keeps M s0) ?_ ?_
    ·
      split
      ·
        refine ite_of (P := Keeps M s0) ?_ ?_
        ·
          refine (keeps_State_modTrip (sub_trans rfl hM)) ?_
          refine (keeps_State_setTripIn (sub_trans rfl hM)) ?_
          exact h4
        ·
          refine (keeps_State_tripActive (sub_trans rfl hM)) ?_
          exact h4
      ·
        refine (keeps_State_tripActive (sub_trans rfl hM)) ?_
        exact h4
    ·
      refine (keeps_State_modTrip (sub_trans rfl hM)) ?_
      refine (keeps_State_setTripIn (sub_trans rfl hM)) ?_
      exact h4

theorem keeps_State_atcOpen {M : Nat} (hM : Nat.land 34359746561 M = 34359746561) {s0 : State} {s : State} {p1 : Nat} (h : Keeps M s0 s) : Keeps M s0 (State.atcOpen s p1) := by
  unfold State.atcOpen
  split
  ·
    exact h
  ·
    refine ite_of (P := Keeps M s0) ?_ ?_
    ·
      exact h
    ·
      extract_lets -merge -useContext -underBinder v0
      have h1 : Keeps M s0 v0 := by
        unfold v0
        refine (keeps_State_modAtc (sub_trans rfl hM)) ?_
        refine (keeps_State_advanceTo (sub_trans rfl hM)) ?_
        exact h
      try clear_value v0
      refine (keeps_State_blankStat (sub_trans rfl hM)) ?_
      refine (keeps_State_count (sub_trans rfl hM)) ?_
      refine (keeps_State_setf (sub_trans rfl hM)) ?_
      exact h1

theorem keeps_State_auxCommit {M : Nat} (hM : Nat.land 8589934593 M = 8589934593) {s0 : State} {s : State} {p1 : Nat} (h : Keeps M s0 s) : Keeps M s0 (State.auxCommit s p1) := by
  unfold State.auxCommit
  refine ite_of (P := Keeps M s0) ?_ ?_
  ·
    refine (keeps_State_pwmCapture (sub_trans rfl hM)) ?_
    exact h
  ·
    exact h

theorem keeps_State_gtripClrCnt {M : Nat} (hM : Nat.land 1 M = 1) {s0 : State} {s : State} {p1 : Nat} (h : Keeps M s0 s) : Keeps M s0 (State.gtripClrCnt s p1) := by
  unfold State.gtripClrCnt
  refine (keeps_State_put (sub_trans rfl hM)) ?_
  exact h

theorem keeps_State_pwmStage {M : Nat} (hM : Nat.land 8589934592 M = 8589934592) {s0 : State} {s : State} {p1 : Nat} {p2 : Nat} {p3 : Bool} (h : Keeps M s0 s) : Keeps M s0 (State.pwmStage s p1 p2 p3) := by
  unfold State.pwmStage
  refine (keeps_State_pwmStageAt (sub_trans rfl hM)) ?_
  exact h

theorem keeps_State_pwmCommitWrite {M : Nat} (hM : Nat.land 8589934593 M = 8589934593) {s0 : State} {s : State} {p1 : Nat} {p2 : Bool} {p3 : Bool} (h : Keeps M s0 s) : Keeps M s0 (State.pwmCommitWrite s p1 p2 p3) := by
  unfold State.pwmCommitWrite
  refine ite_of (P := Keeps M s0) ?_ ?_
  ·
    split
    ·
      extract_lets -merge -useContext -underBinder v0
      have h1 : Keeps M s0 v0 := by
        unfold v0
        refine (keeps_State_setf (sub_trans rfl hM)) ?_
        exact h
      try clear_value v0
      refine ite_of (P := Keeps M s0) ?_ ?_
      ·
        refine (keeps_State_pwmCmpc (sub_trans rfl hM)) ?_
        exact h1
      ·
        exact h1
    ·
      refine (keeps_State_pwmAll (sub_trans rfl hM)) ?_
      exact h
  ·
    refine ite_of (P := Keeps M s0) ?_ ?_
    ·
      refine (keeps_State_pwmCmpc (sub_trans rfl hM)) ?_
      exact h
    ·
      exact h

theorem keeps_State_pwmTclr {M : Nat} (hM : Nat.land 25769809921 M = 25769809921) {s0 : State} {s : State} {p1 : Nat} (h : Keeps M s0 s) : Keeps M s0 (State.pwmTclr s p1) := by
  unfold State.pwmTclr
  extract_lets -merge -useContext -underBinder v0 v1 v2 v3
  have h4 : Keeps M s0 v0 := by
    unfold v0
    refine (keeps_State_tripSettle (sub_trans rfl hM)) ?_
    exact h
  try clear_value v0
  try clear_value v1
  try clear_value v2
  try clear_value v3
  refine ite_of (P := Keeps M s0) ?_ ?_
  ·
    exact h4
  ·
    refine ite_of (P := Keeps M s0) ?_ ?_
    ·
      refine (keeps_State_event (sub_trans rfl hM)) ?_
      refine (keeps_State_setf (sub_trans rfl hM)) ?_
      exact h4
    ·
      refine (keeps_State_clrf (sub_trans rfl hM)) ?_
      refine (keeps_State_clrf (sub_trans rfl hM)) ?_
      refine (keeps_State_clrf (sub_trans rfl hM)) ?_
      exact h4

theorem keeps_State_pwmClrFlags {M : Nat} (hM : Nat.land 1 M = 1) {s0 : State} {s : State} {p1 : Nat} (h : Keeps M s0 s) : Keeps M s0 (State.pwmClrFlags s p1) := by
  unfold State.pwmClrFlags
  refine (keeps_State_clrBits (sub_trans rfl hM)) ?_
  exact h

end Sys2Proof.Machine
end

