-- ==== Sys2Proof/Laws/KeepCle.lean ====
section
/-! SUPPORT. The operations of Machine/Cle.lean keep what `Keeps` says. -/

namespace Sys2Proof.Machine

theorem keeps_State_cleLeave {M : Nat} (hM : Nat.land 8589934593 M = 8589934593) {s0 : State} {s : State} {p1 : Nat} (h : Keeps M s0 s) : Keeps M s0 (State.cleLeave s p1) := by
  unfold State.cleLeave
  refine ite_of (P := Keeps M s0) ?_ ?_
  ·
    refine (keeps_State_pwmDrive (sub_trans rfl hM)) ?_
    refine (keeps_State_modPwm (sub_trans rfl hM)) ?_
    refine (keeps_State_clrf (sub_trans rfl hM)) ?_
    refine (keeps_State_clrf (sub_trans rfl hM)) ?_
    refine (keeps_State_clrf (sub_trans rfl hM)) ?_
    exact h
  ·
    exact h

theorem keeps_State_angLoss {M : Nat} (hM : Nat.land 8589936641 M = 8589936641) {s0 : State} {s : State} {p1 : Nat} (h : Keeps M s0 s) : Keeps M s0 (State.angLoss s p1) := by
  unfold State.angLoss
  refine ite_of (P := Keeps M s0) ?_ ?_
  ·
    refine (keeps_State_event (sub_trans rfl hM)) ?_
    refine (keeps_State_setf (sub_trans rfl hM)) ?_
    refine (keeps_State_cleLeave (sub_trans rfl hM)) ?_
    exact h
  ·
    exact h

theorem keeps_State_modCle {M : Nat} (hM : Nat.land 137438953472 M = 137438953472) {s0 : State} {s : State} {p1 : Nat} {p2 : CleSt → CleSt} (h : Keeps M s0 s) : Keeps M s0 (State.modCle s p1 p2) := by
  unfold State.modCle
  refine Keeps.up_cles (sub_trans rfl hM) ?_
  exact h

theorem keeps_State_swapRequest {M : Nat} (hM : Nat.land 137438953473 M = 137438953473) {s0 : State} {s : State} {p1 : Nat} (h : Keeps M s0 s) : Keeps M s0 (State.swapRequest s p1) := by
  unfold State.swapRequest
  refine ite_of (P := Keeps M s0) ?_ ?_
  ·
    exact h
  ·
    refine (keeps_State_modCle (sub_trans rfl hM)) ?_
    refine (keeps_State_setf (sub_trans rfl hM)) ?_
    exact h

theorem keeps_State_cleBswap {M : Nat} (hM : Nat.land 137438953473 M = 137438953473) {s0 : State} {s : State} {p1 : Nat} (h : Keeps M s0 s) : Keeps M s0 (State.cleBswap s p1) := by
  unfold State.cleBswap
  split
  ·
    refine (keeps_State_setf (sub_trans rfl hM)) ?_
    exact h
  ·
    refine (keeps_State_swapRequest (sub_trans rfl hM)) ?_
    exact h

theorem keeps_State_cleEnter {M : Nat} (hM : Nat.land 146028888065 M = 146028888065) {s0 : State} {s : State} {p1 : Nat} (h : Keeps M s0 s) : Keeps M s0 (State.cleEnter s p1) := by
  unfold State.cleEnter
  refine ite_of (P := Keeps M s0) ?_ ?_
  ·
    exact h
  ·
    extract_lets -merge -useContext -underBinder v0
    have h1 : Keeps M s0 v0 := by
      unfold v0
      refine (keeps_State_clrf (sub_trans rfl hM)) ?_
      refine (keeps_State_wrN (sub_trans rfl hM)) ?_
      refine (keeps_State_wrN (sub_trans rfl hM)) ?_
      refine (keeps_State_setf (sub_trans rfl hM)) ?_
      exact h
    try clear_value v0
    refine (keeps_State_pwmDrive (sub_trans rfl hM)) ?_
    refine (keeps_State_modCle (sub_trans rfl hM)) ?_
    refine (keeps_State_clrf (sub_trans rfl hM)) ?_
    exact h1

theorem keeps_State_cleLate {M : Nat} (hM : Nat.land 137438953473 M = 137438953473) {s0 : State} {s : State} {p1 : Nat} (h : Keeps M s0 s) : Keeps M s0 (State.cleLate s p1) := by
  unfold State.cleLate
  refine (keeps_State_modCle (sub_trans rfl hM)) ?_
  refine foldl_of (P := Keeps M s0) ?_ ?_
  ·
    exact h
  · intro t0 x1 h2
    beta_reduce
    refine (keeps_State_wr (sub_trans rfl hM)) ?_
    refine (keeps_State_wr (sub_trans rfl hM)) ?_
    exact h2

theorem keeps_State_cleKeep {M : Nat} (hM : Nat.land 137438953472 M = 137438953472) {s0 : State} {s : State} {p1 : Nat} {p2 : Nat} (h : Keeps M s0 s) : Keeps M s0 (State.cleKeep s p1 p2) := by
  unfold State.cleKeep
  refine ite_of (P := Keeps M s0) ?_ ?_
  ·
    exact h
  ·
    refine (keeps_State_modCle (sub_trans rfl hM)) ?_
    exact h

theorem keeps_State_angle {M : Nat} (hM : Nat.land 137438953473 M = 137438953473) {s0 : State} {s : State} {p1 : Nat} {p2 : Nat} (h : Keeps M s0 s) : KP M s0 (State.angle s p1 p2) := by
  unfold State.angle
  extract_lets -merge -useContext -underBinder v0 v1 v2 v3 v4 v5
  try clear_value v0
  try clear_value v1
  try clear_value v2
  try clear_value v3
  try clear_value v4
  have h6 : Keeps M s0 v5 := by
    unfold v5
    refine ite_of (P := Keeps M s0) ?_ ?_
    ·
      refine (keeps_State_modCle (sub_trans rfl hM)) ?_
      refine (keeps_State_clrf (sub_trans rfl hM)) ?_
      refine (keeps_State_setf (sub_trans rfl hM)) ?_
      exact h
    ·
      exact h
  try clear_value v5
  refine ite_of (P := KP M s0) ?_ ?_
  ·
    split
    ·
      extract_lets -merge -useContext -underBinder v7 v8
      try clear_value v7
      try clear_value v8
      refine KP.mk ?_
      exact h6
    ·
      refine KP.mk ?_
      exact h6
  ·
    split
    ·
      refine ite_of (P := KP M s0) ?_ ?_
      ·
        refine KP.mk ?_
        exact h6
      ·
        refine KP.mk ?_
        exact h6
    ·
      refine ite_of (P := KP M s0) ?_ ?_
      ·
        refine ite_of (P := KP M s0) ?_ ?_
        ·
          refine KP.mk ?_
          exact h6
        ·
          refine KP.mk ?_
          exact h6
      ·
        refine ite_of (P := KP M s0) ?_ ?_
        ·
          refine KP.mk ?_
          exact h6
        ·
          refine KP.mk ?_
          exact h6

theorem keeps_State_modSd {M : Nat} (hM : Nat.land 68719476736 M = 68719476736) {s0 : State} {s : State} {p1 : Nat} {p2 : SdSt → SdSt} (h : Keeps M s0 s) : Keeps M s0 (State.modSd s p1 p2) := by
  unfold State.modSd
  refine Keeps.up_sds (sub_trans rfl hM) ?_
  exact h

theorem keeps_State_dcWord {M : Nat} (hM : Nat.land 68719476736 M = 68719476736) {s0 : State} {s : State} {p1 : Nat} {p2 : Nat} {p3 : List Bool} (h : Keeps M s0 s) : KP M s0 (State.dcWord s p1 p2 p3) := by
  unfold State.dcWord
  extract_lets -merge -useContext -underBinder v0
  try clear_value v0
  split
  ·
    refine KP.mk ?_
    exact h
  ·
    extract_lets -merge -useContext -underBinder v1 v2
    try clear_value v1
    try clear_value v2
    refine ite_of (P := KP M s0) ?_ ?_
    ·
      refine KP.mk ?_
      exact h
    ·
      refine ite_of (P := KP M s0) ?_ ?_
      ·
        refine KP.mk ?_
        exact h
      ·
        refine KP.mk ?_
        refine (keeps_State_modSd (sub_trans rfl hM)) ?_
        exact h

theorem keeps_State_ocLatest {M : Nat} (hM : Nat.land 68719476736 M = 68719476736) {s0 : State} {s : State} {p1 : Nat} {p2 : List Bool} (h : Keeps M s0 s) : Keeps M s0 (State.ocLatest s p1 p2) := by
  unfold State.ocLatest
  refine (keeps_State_modSd (sub_trans rfl hM)) ?_
  exact h

theorem keeps_State_cleLatClr {M : Nat} (hM : Nat.land 1 M = 1) {s0 : State} {s : State} {p1 : Nat} (h : Keeps M s0 s) : Keeps M s0 (State.cleLatClr s p1) := by
  unfold State.cleLatClr
  refine (keeps_State_wrN (sub_trans rfl hM)) ?_
  exact h

theorem keeps_State_bankSwap {M : Nat} (hM : Nat.land 137673834497 M = 137673834497) {s0 : State} {s : State} {p1 : Nat} (h : Keeps M s0 s) : Keeps M s0 (State.bankSwap s p1) := by
  unfold State.bankSwap
  split
  ·
    refine ite_of (P := Keeps M s0) ?_ ?_
    ·
      refine (keeps_State_resolve (sub_trans rfl hM)) ?_
      refine (keeps_State_cleLate (sub_trans rfl hM)) ?_
      refine (keeps_State_modCle (sub_trans rfl hM)) ?_
      refine (keeps_State_clrf (sub_trans rfl hM)) ?_
      refine (keeps_State_putB (sub_trans rfl hM)) ?_
      exact h
    ·
      exact h
  ·
    exact h

theorem keeps_State_angleOr {M : Nat} (hM : Nat.land 137438953473 M = 137438953473) {s0 : State} {s : State} {p1 : Nat} {p2 : Nat} (h : Keeps M s0 s) : KP3 M s0 (State.angleOr s p1 p2) := by
  unfold State.angleOr
  extract_lets -merge -useContext -underBinder v0 v1 v2 v3
  try clear_value v0
  try clear_value v1
  try clear_value v2
  have h4 : ∀ x5 x7 x8, Keeps M s0 x5 → Keeps M s0 (v3 x5 x7 x8) := by
    intro x5 x7 x8 h6
    unfold v3
    beta_reduce
    refine (keeps_State_modCle (sub_trans rfl hM)) ?_
    refine (keeps_State_clrf (sub_trans rfl hM)) ?_
    exact h6
  try clear_value v3
  split
  ·
    rename_i t9 q11
    have h10 : Keeps M s0 t9 := by
      refine KP.out q11 ?_
      refine (keeps_State_angle (sub_trans rfl hM)) ?_
      exact h
    refine KP3.mk ?_
    refine h4 _ _ _ ?_
    exact h10
  ·
    rename_i t12 q14
    have h13 : Keeps M s0 t12 := by
      refine KP.out q14 ?_
      refine (keeps_State_angle (sub_trans rfl hM)) ?_
      exact h
    extract_lets -merge -useContext -underBinder v15 v16 v17
    try clear_value v15
    try clear_value v16
    have h18 : Keeps M s0 v17 := by
      unfold v17
      refine (keeps_State_modCle (sub_trans rfl hM)) ?_
      refine (keeps_State_setf (sub_trans rfl hM)) ?_
      exact h13
    try clear_value v17
    refine ite_of (P := KP3 M s0) ?_ ?_
    ·
      refine KP3.mk ?_
      refine h4 _ _ _ ?_
      exact h18
    ·
      refine KP3.mk ?_
      refine (keeps_State_modCle (sub_trans rfl hM)) ?_
      refine (keeps_State_setf (sub_trans rfl hM)) ?_
      exact h13

theorem keeps_State_pipeline {M : Nat} (hM : Nat.land 146028888065 M = 146028888065) {s0 : State} {s : State} {p1 : Nat} {p2 : Int} {p3 : Int} {p4 : Int} {p5 : Int} {p6 : Int} {p7 : Int} {p8 : Int} {p9 : Bool} {p10 : Int × Int} {p11 : Nat} {p12 : Nat} (h : Keeps M s0 s) : Keeps M s0 (State.pipeline s p1 p2 p3 p4 p5 p6 p7 p8 p9 p10 p11 p12) := by
  unfold State.pipeline
  extract_lets -merge -useContext -underBinder v0 v1 v2
  try clear_value v0
  try clear_value v1
  try clear_value v2
  split
  ·
    extract_lets -merge -useContext -underBinder v3
    try clear_value v3
    split
    ·
      extract_lets -merge -useContext -underBinder v4
      try clear_value v4
      split
      ·
        extract_lets -merge -useContext -underBinder v5 v6 v7 v8 v9 v10 v11 v12 v13 v14 v15 v16 v17 v18 v19 v20 v21 v22 v23 v24 v25
        try clear_value v5
        try clear_value v6
        try clear_value v7
        try clear_value v8
        try clear_value v9
        try clear_value v10
        try clear_value v11
        try clear_value v12
        try clear_value v13
        try clear_value v14
        try clear_value v15
        try clear_value v16
        try clear_value v17
        try clear_value v18
        try clear_value v19
        try clear_value v20
        try clear_value v21
        try clear_value v22
        try clear_value v23
        try clear_value v24
        try clear_value v25
        split
        ·
          extract_lets -merge -useContext -underBinder v26 v27 v28 v29 v30 v31 v32 v33 v34 v35 v36 v37 v38 v39
          try clear_value v26
          try clear_value v27
          try clear_value v28
          try clear_value v29
          try clear_value v30
          try clear_value v31
          try clear_value v32
          try clear_value v33
          try clear_value v34
          try clear_value v35
          try clear_value v36
          have h40 : Keeps M s0 v37 := by
            unfold v37
            refine (keeps_State_wrI (sub_trans rfl hM)) ?_
            refine (keeps_State_wrI (sub_trans rfl hM)) ?_
            refine (keeps_State_wrI (sub_trans rfl hM)) ?_
            refine (keeps_State_wrI (sub_trans rfl hM)) ?_
            exact h
          try clear_value v37
          have h41 : Keeps M s0 v38 := by
            unfold v38
            refine (keeps_State_putB (sub_trans rfl hM)) ?_
            refine (keeps_State_wrI (sub_trans rfl hM)) ?_
            refine (keeps_State_wrI (sub_trans rfl hM)) ?_
            exact h40
          try clear_value v38
          have h42 : Keeps M s0 v39 := by
            unfold v39
            refine (keeps_State_modCle (sub_trans rfl hM)) ?_
            refine (keeps_State_putB (sub_trans rfl hM)) ?_
            exact h41
          try clear_value v39
          refine (keeps_State_modPwm (sub_trans rfl hM)) ?_
          exact h42

theorem keeps_State_udcCount {M : Nat} (hM : Nat.land 137438953473 M = 137438953473) {s0 : State} {s : State} {p1 : Nat} (h : Keeps M s0 s) : Keeps M s0 (State.udcCount s p1) := by
  unfold State.udcCount
  split
  ·
    exact h
  ·
    refine ite_of (P := Keeps M s0) ?_ ?_
    ·
      refine (keeps_State_modCle (sub_trans rfl hM)) ?_
      refine (keeps_State_setf (sub_trans rfl hM)) ?_
      exact h
    ·
      refine (keeps_State_modCle (sub_trans rfl hM)) ?_
      exact h

theorem keeps_State_cleCompute {M : Nat} (hM : Nat.land 214748364801 M = 214748364801) {s0 : State} {s : State} {p1 : Nat} {p2 : Nat} {p3 : Nat} {p4 : List Bool} {p5 : Bool} (h : Keeps M s0 s) : Keeps M s0 (State.cleCompute s p1 p2 p3 p4 p5) := by
  unfold State.cleCompute
  extract_lets -merge -useContext -underBinder v0
  try clear_value v0
  split
  ·
    rename_i t1 q3
    have h2 : Keeps M s0 t1 := by
      refine KP.out q3 ?_
      refine (keeps_State_dcWord (sub_trans rfl hM)) ?_
      exact h
    extract_lets -merge -useContext -underBinder v4
    have h5 : Keeps M s0 v4 := by
      unfold v4
      refine (keeps_State_udcCount (sub_trans rfl hM)) ?_
      exact h2
    try clear_value v4
    split
    ·
      rename_i t6 q8
      have h7 : Keeps M s0 t6 := by
        refine KP3.out q8 ?_
        refine (keeps_State_angleOr (sub_trans rfl hM)) ?_
        exact h5
      extract_lets -merge -useContext -underBinder v9 v10 v11 v12 v13 v14 v15 v16 v17 v18 v19 v20
      try clear_value v9
      try clear_value v10
      try clear_value v11
      try clear_value v12
      try clear_value v13
      try clear_value v14
      try clear_value v15
      try clear_value v16
      have h21 : Keeps M s0 v17 := by
        unfold v17
        refine (keeps_State_modCle (sub_trans rfl hM)) ?_
        refine (keeps_State_wrI (sub_trans rfl hM)) ?_
        refine (keeps_State_wrI (sub_trans rfl hM)) ?_
        refine (keeps_State_wrI (sub_trans rfl hM)) ?_
        exact h7
      try clear_value v17
      try clear_value v18
      try clear_value v19
      have h22 : Keeps M s0 v20 := by
        unfold v20
        refine (keeps_State_pipeline (sub_trans rfl hM)) ?_
        exact h21
      try clear_value v20
      refine (keeps_State_put (sub_trans rfl hM)) ?_
      refine (keeps_State_put (sub_trans rfl hM)) ?_
      exact h22

theorem keeps_State_cleMeasure {M : Nat} (hM : Nat.land 68719476737 M = 68719476737) {s0 : State} {s : State} {p1 : Nat} {p2 : Nat} {p3 : Nat} {p4 : List Bool} (h : Keeps M s0 s) : Keeps M s0 (State.cleMeasure s p1 p2 p3 p4) := by
  unfold State.cleMeasure
  split
  ·
    rename_i t0 q2
    have h1 : Keeps M s0 t0 := by
      refine KP.out q2 ?_
      refine (keeps_State_dcWord (sub_trans rfl hM)) ?_
      exact h
    -- opaque state discr
    split
    ·
      extract_lets -merge -useContext -underBinder v3 v4 v5 v6
      try clear_value v3
      try clear_value v4
      try clear_value v5
      try clear_value v6
      split
      ·
        refine (keeps_State_wrI (sub_trans rfl hM)) ?_
        refine (keeps_State_wrI (sub_trans rfl hM)) ?_
        refine (keeps_State_wrI (sub_trans rfl hM)) ?_
        refine (keeps_State_wrI (sub_trans rfl hM)) ?_
        refine (keeps_State_wrI (sub_trans rfl hM)) ?_
        exact h1

theorem keeps_State_sdSee {M : Nat} (hM : Nat.land 562949953421312 M = 562949953421312) {s0 : State} {s : State} {p1 : Nat} {p2 : Nat} (h : Keeps M s0 s) : Keeps M s0 (State.sdSee s p1 p2) := by
  unfold State.sdSee
  refine ite_of (P := Keeps M s0) ?_ ?_
  ·
    exact h
  ·
    refine Keeps.up_tw (sub_trans rfl hM) ?_
    exact h

theorem keeps_State_sdWord {M : Nat} (hM : Nat.land 68719476737 M = 68719476737) {s0 : State} {s : State} {p1 : Nat} {p2 : Nat} {p3 : Nat} {p4 : List Bool} (h : Keeps M s0 s) : Keeps M s0 (State.sdWord s p1 p2 p3 p4) := by
  unfold State.sdWord
  extract_lets -merge -useContext -underBinder v0 v1
  try clear_value v0
  try clear_value v1
  refine ite_of (P := Keeps M s0) ?_ ?_
  ·
    exact h
  ·
    refine (keeps_State_ocLatest (sub_trans rfl hM)) ?_
    refine (keeps_State_modSd (sub_trans rfl hM)) ?_
    refine (keeps_State_wrI (sub_trans rfl hM)) ?_
    exact h

theorem keeps_State_udcExpired {M : Nat} (hM : Nat.land 1246315419649 M = 1246315419649) {s0 : State} {s : State} {p1 : Nat} (h : Keeps M s0 s) : Keeps M s0 (State.udcExpired s p1) := by
  unfold State.udcExpired
  refine ite_of (P := Keeps M s0) ?_ ?_
  ·
    refine (keeps_State_torqueOff (sub_trans rfl hM)) ?_
    refine (keeps_State_tripCause (sub_trans rfl hM)) ?_
    refine (keeps_State_modCle (sub_trans rfl hM)) ?_
    refine (keeps_State_setf (sub_trans rfl hM)) ?_
    exact h
  ·
    exact h

theorem keeps_State_clePresent {M : Nat} (hM : Nat.land 564264988325889 M = 564264988325889) {s0 : State} {s : State} {p1 : Nat} {p2 : List Bool} {p3 : List Bool} {p4 : List Bool} {p5 : List Bool} {p6 : Nat} (h : Keeps M s0 s) : Keeps M s0 (State.clePresent s p1 p2 p3 p4 p5 p6) := by
  unfold State.clePresent
  extract_lets -merge -useContext -underBinder v0 v1 v2 v3 v4 v5 v6 v7 v8 v9 v10 v11
  have h12 : Keeps M s0 v0 := by
    unfold v0
    refine (keeps_State_sdSee (sub_trans rfl hM)) ?_
    exact h
  try clear_value v0
  try clear_value v1
  have h13 : Keeps M s0 v2 := by
    unfold v2
    refine (keeps_State_modCle (sub_trans rfl hM)) ?_
    refine (keeps_State_advanceTo (sub_trans rfl hM)) ?_
    exact h12
  try clear_value v2
  try clear_value v3
  try clear_value v4
  try clear_value v5
  have h14 : Keeps M s0 v6 := by
    unfold v6
    refine (keeps_State_sdWord (sub_trans rfl hM)) ?_
    refine (keeps_State_sdWord (sub_trans rfl hM)) ?_
    refine (keeps_State_sdWord (sub_trans rfl hM)) ?_
    exact h13
  try clear_value v6
  try clear_value v7
  try clear_value v8
  have h15 : Keeps M s0 v9 := by
    unfold v9
    refine ite_of (P := Keeps M s0) ?_ ?_
    ·
      refine (keeps_State_count (sub_trans rfl hM)) ?_
      refine (keeps_State_setf (sub_trans rfl hM)) ?_
      exact h14
    ·
      exact h14
  try clear_value v9
  have h16 : Keeps M s0 v10 := by
    unfold v10
    refine ite_of (P := Keeps M s0) ?_ ?_
    ·
      refine (keeps_State_count (sub_trans rfl hM)) ?_
      refine (keeps_State_setf (sub_trans rfl hM)) ?_
      exact h15
    ·
      exact h15
  try clear_value v10
  have h17 : Keeps M s0 v11 := by
    unfold v11
    refine (keeps_State_bankSwap (sub_trans rfl hM)) ?_
    refine (keeps_State_wrN (sub_trans rfl hM)) ?_
    refine (keeps_State_wrN (sub_trans rfl hM)) ?_
    exact h16
  try clear_value v11
  refine ite_of (P := Keeps M s0) ?_ ?_
  ·
    exact h12
  ·
    refine ite_of (P := Keeps M s0) ?_ ?_
    ·
      refine (keeps_State_cleMeasure (sub_trans rfl hM)) ?_
      exact h17
    ·
      refine ite_of (P := Keeps M s0) ?_ ?_
      ·
        refine (keeps_State_udcExpired (sub_trans rfl hM)) ?_
        exact h17
      ·
        refine ite_of (P := Keeps M s0) ?_ ?_
        ·
          refine (keeps_State_angLoss (sub_trans rfl hM)) ?_
          exact h17
        ·
          refine (keeps_State_cleCompute (sub_trans rfl hM)) ?_
          exact h17

theorem keeps_State_cleClrCnt {M : Nat} (hM : Nat.land 1 M = 1) {s0 : State} {s : State} {p1 : Nat} (h : Keeps M s0 s) : Keeps M s0 (State.cleClrCnt s p1) := by
  unfold State.cleClrCnt
  refine (keeps_State_wrN (sub_trans rfl hM)) ?_
  exact h

theorem keeps_State_streamLoss {M : Nat} (hM : Nat.land 1108876474369 M = 1108876474369) {s0 : State} {s : State} {p1 : Nat} {p2 : List Bool} (h : Keeps M s0 s) : Keeps M s0 (State.streamLoss s p1 p2) := by
  unfold State.streamLoss
  refine ite_of (P := Keeps M s0) ?_ ?_
  ·
    exact h
  ·
    extract_lets -merge -useContext -underBinder v0 v1 v2
    have h3 : Keeps M s0 v0 := by
      unfold v0
      refine (keeps_State_advanceTo (sub_trans rfl hM)) ?_
      exact h
    try clear_value v0
    have h4 : Keeps M s0 v1 := by
      unfold v1
      refine (keeps_State_count (sub_trans rfl hM)) ?_
      refine (keeps_State_setf (sub_trans rfl hM)) ?_
      refine (keeps_State_setf (sub_trans rfl hM)) ?_
      exact h3
    try clear_value v1
    try clear_value v2
    refine ite_of (P := Keeps M s0) ?_ ?_
    ·
      refine (keeps_State_torqueOff (sub_trans rfl hM)) ?_
      refine (keeps_State_tripCause (sub_trans rfl hM)) ?_
      refine (keeps_State_setf (sub_trans rfl hM)) ?_
      exact h4
    ·
      exact h4

theorem keeps_State_cleClrFlags {M : Nat} (hM : Nat.land 1 M = 1) {s0 : State} {s : State} {p1 : Nat} (h : Keeps M s0 s) : Keeps M s0 (State.cleClrFlags s p1) := by
  unfold State.cleClrFlags
  refine (keeps_State_clrBits (sub_trans rfl hM)) ?_
  exact h

theorem keeps_State_streamReturn {M : Nat} (hM : Nat.land 8193 M = 8193) {s0 : State} {s : State} {p1 : Nat} (h : Keeps M s0 s) : Keeps M s0 (State.streamReturn s p1) := by
  unfold State.streamReturn
  refine ite_of (P := Keeps M s0) ?_ ?_
  ·
    refine (keeps_State_clrf (sub_trans rfl hM)) ?_
    refine (keeps_State_advanceTo (sub_trans rfl hM)) ?_
    exact h
  ·
    exact h

theorem keeps_State_overcurrent {M : Nat} (hM : Nat.land 77309425665 M = 77309425665) {s0 : State} {s : State} {p1 : Nat} {p2 : List Bool} (h : Keeps M s0 s) : Keeps M s0 (State.overcurrent s p1 p2) := by
  unfold State.overcurrent
  refine ite_of (P := Keeps M s0) ?_ ?_
  ·
    exact h
  ·
    extract_lets -merge -useContext -underBinder v0 v1
    have h2 : Keeps M s0 v0 := by
      unfold v0
      refine (keeps_State_ocLatest (sub_trans rfl hM)) ?_
      refine (keeps_State_advanceTo (sub_trans rfl hM)) ?_
      exact h
    try clear_value v0
    try clear_value v1
    refine ite_of (P := Keeps M s0) ?_ ?_
    ·
      exact h2
    ·
      refine (keeps_State_tripCause (sub_trans rfl hM)) ?_
      refine (keeps_State_setf (sub_trans rfl hM)) ?_
      refine (keeps_State_count (sub_trans rfl hM)) ?_
      refine (keeps_State_setf (sub_trans rfl hM)) ?_
      exact h2

theorem keeps_State_sdHold {M : Nat} (hM : Nat.land 68719476736 M = 68719476736) {s0 : State} {s : State} {p1 : Nat} (h : Keeps M s0 s) : Keeps M s0 (State.sdHold s p1) := by
  unfold State.sdHold
  extract_lets -merge -useContext -underBinder v0
  try clear_value v0
  refine (keeps_State_modSd (sub_trans rfl hM)) ?_
  exact h

theorem keeps_State_placeWindow {M : Nat} (hM : Nat.land 137438953473 M = 137438953473) {s0 : State} {s : State} {p1 : Nat} {p2 : Nat} {p3 : Nat} (h : Keeps M s0 s) : Keeps M s0 (State.placeWindow s p1 p2 p3) := by
  unfold State.placeWindow
  extract_lets -merge -useContext -underBinder v0 v1 v2 v3 v4 v5 v6 v7 v8 v9
  try clear_value v0
  try clear_value v1
  try clear_value v2
  try clear_value v3
  try clear_value v4
  try clear_value v5
  try clear_value v6
  try clear_value v7
  try clear_value v8
  have h10 : Keeps M s0 v9 := by
    unfold v9
    refine (keeps_State_modCle (sub_trans rfl hM)) ?_
    exact h
  try clear_value v9
  refine ite_of (P := Keeps M s0) ?_ ?_
  ·
    refine (keeps_State_modCle (sub_trans rfl hM)) ?_
    exact h
  ·
    refine ite_of (P := Keeps M s0) ?_ ?_
    ·
      exact h10
    ·
      refine (keeps_State_count (sub_trans rfl hM)) ?_
      refine (keeps_State_setf (sub_trans rfl hM)) ?_
      exact h10

theorem keeps_State_sdEnable {M : Nat} (hM : Nat.land 68719476736 M = 68719476736) {s0 : State} {s : State} {p1 : Nat} (h : Keeps M s0 s) : Keeps M s0 (State.sdEnable s p1) := by
  unfold State.sdEnable
  refine (keeps_State_modSd (sub_trans rfl hM)) ?_
  exact h

end Sys2Proof.Machine
end

