-- ==== Sys2Proof/Laws/KeepGroom.lean ====
section
/-! SUPPORT. The operations of Machine/Groom.lean keep what `Keeps` says. -/

namespace Sys2Proof.Machine

theorem keeps_State_waitReturn {M : Nat} (hM : Nat.land 2473901162496 M = 2473901162496) {s0 : State} {s : State} {p1 : Nat} (h : Keeps M s0 s) : Keeps M s0 (State.waitReturn s p1) := by
  unfold State.waitReturn
  split
  ·
    extract_lets -merge -useContext -underBinder v0
    have h1 : Keeps M s0 v0 := by
      unfold v0
      refine (keeps_State_modAgent (sub_trans rfl hM)) ?_
      exact h
    try clear_value v0
    refine Keeps.up_rdata (sub_trans rfl hM) ?_
    exact h1
  ·
    exact h

theorem keeps_State_lockRead {M : Nat} (hM : Nat.land 26388279066624 M = 26388279066624) {s0 : State} {s : State} {p1 : Nat} {p2 : Nat} {p3 : Bool} (h : Keeps M s0 s) : KP M s0 (State.lockRead s p1 p2 p3) := by
  unfold State.lockRead
  split
  ·
    refine ite_of (P := KP M s0) ?_ ?_
    ·
      refine KP.mk ?_
      exact h
    ·
      refine ite_of (P := KP M s0) ?_ ?_
      ·
        refine KP.mk ?_
        exact h
      ·
        refine KP.mk ?_
        exact h
  ·
    refine ite_of (P := KP M s0) ?_ ?_
    ·
      refine KP.mk ?_
      exact h
    ·
      refine KP.mk ?_
      refine Keeps.up_locks_lockPtr (sub_trans rfl hM) ?_
      exact h

theorem keeps_State_waitRead {M : Nat} (hM : Nat.land 2199023255552 M = 2199023255552) {s0 : State} {s : State} {p1 : Nat} (h : Keeps M s0 s) : KP M s0 (State.waitRead s p1) := by
  unfold State.waitRead
  split
  ·
    refine KP.mk ?_
    exact h
  ·
    refine ite_of (P := KP M s0) ?_ ?_
    ·
      refine KP.mk ?_
      exact h
    ·
      refine KP.mk ?_
      refine (keeps_State_modAgent (sub_trans rfl hM)) ?_
      exact h

theorem keeps_State_winRead {M : Nat} (hM : Nat.land 29686813949953 M = 29686813949953) {s0 : State} {s : State} {p1 : Nat} {p2 : Nat} {p3 : Bool} (h : Keeps M s0 s) : KP M s0 (State.winRead s p1 p2 p3) := by
  unfold State.winRead
  extract_lets -merge -useContext -underBinder v0 v1 v2 v3 v4 v5
  try clear_value v0
  try clear_value v1
  try clear_value v2
  try clear_value v3
  try clear_value v4
  try clear_value v5
  refine ite_of (P := KP M s0) ?_ ?_
  ·
    refine KP.mk ?_
    exact h
  ·
    refine ite_of (P := KP M s0) ?_ ?_
    ·
      refine ite_of (P := KP M s0) ?_ ?_
      ·
        refine KP.mk ?_
        exact h
      ·
        refine ite_of (P := KP M s0) ?_ ?_
        ·
          refine KP.mk ?_
          exact h
        ·
          refine ite_of (P := KP M s0) ?_ ?_
          ·
            refine KP.mk ?_
            exact h
          ·
            refine ite_of (P := KP M s0) ?_ ?_
            ·
              refine ite_of (P := KP M s0) ?_ ?_
              ·
                split
                ·
                  rename_i t6 q8
                  have h7 : Keeps M s0 t6 := by
                    refine KP.out q8 ?_
                    refine (keeps_State_post (sub_trans rfl hM)) ?_
                    exact h
                  refine KP.mk ?_
                  exact h7
              ·
                refine KP.mk ?_
                exact h
            ·
              refine ite_of (P := KP M s0) ?_ ?_
              ·
                refine KP.mk ?_
                exact h
              ·
                refine KP.mk ?_
                refine (keeps_State_badAcc (sub_trans rfl hM)) ?_
                exact h
    ·
      refine ite_of (P := KP M s0) ?_ ?_
      ·
        refine ite_of (P := KP M s0) ?_ ?_
        ·
          refine KP.mk ?_
          exact h
        ·
          refine ite_of (P := KP M s0) ?_ ?_
          ·
            refine KP.mk ?_
            exact h
          ·
            refine ite_of (P := KP M s0) ?_ ?_
            ·
              refine KP.mk ?_
              exact h
            ·
              refine ite_of (P := KP M s0) ?_ ?_
              ·
                refine KP.mk ?_
                exact h
              ·
                refine ite_of (P := KP M s0) ?_ ?_
                ·
                  refine KP.mk ?_
                  exact h
                ·
                  refine ite_of (P := KP M s0) ?_ ?_
                  ·
                    refine KP.mk ?_
                    exact h
                  ·
                    refine ite_of (P := KP M s0) ?_ ?_
                    ·
                      refine KP.mk ?_
                      exact h
                    ·
                      refine KP.mk ?_
                      refine (keeps_State_badAcc (sub_trans rfl hM)) ?_
                      exact h
      ·
        split
        ·
          refine KP.mk ?_
          exact h
        ·
          refine KP.mk ?_
          exact h
        ·
          refine KP.mk ?_
          exact h
        ·
          refine ite_of (P := KP M s0) ?_ ?_
          ·
            refine (keeps_State_waitRead (sub_trans rfl hM)) ?_
            exact h
          ·
            refine KP.mk ?_
            exact h
        ·
          refine KP.mk ?_
          exact h
        ·
          refine KP.mk ?_
          exact h
        ·
          refine KP.mk ?_
          exact h
        ·
          refine ite_of (P := KP M s0) ?_ ?_
          ·
            split
            ·
              rename_i t9 q11
              have h10 : Keeps M s0 t9 := by
                refine KP.out q11 ?_
                refine (keeps_State_lockRead (sub_trans rfl hM)) ?_
                exact h
              refine KP.mk ?_
              exact h10
          ·
            refine KP.mk ?_
            refine (keeps_State_badAcc (sub_trans rfl hM)) ?_
            exact h

theorem keeps_State_postRow {M : Nat} (hM : Nat.land 29961691856897 M = 29961691856897) {s0 : State} {s : State} {p1 : Nat} {p2 : Nat} (h : Keeps M s0 s) : Keeps M s0 (State.postRow s p1 p2) := by
  unfold State.postRow
  split
  ·
    rename_i t0 q2
    have h1 : Keeps M s0 t0 := by
      refine KP.out q2 ?_
      refine (keeps_State_winRead (sub_trans rfl hM)) ?_
      exact h
    refine Keeps.up_rdata (sub_trans rfl hM) ?_
    exact h1
  ·
    rename_i t3 q5
    have h4 : Keeps M s0 t3 := by
      refine KP.out q5 ?_
      refine (keeps_State_winRead (sub_trans rfl hM)) ?_
      exact h
    exact h4

theorem keeps_State_lockWrite {M : Nat} (hM : Nat.land 10995116277760 M = 10995116277760) {s0 : State} {s : State} {p1 : Nat} {p2 : Nat} {p3 : Word} (h : Keeps M s0 s) : Keeps M s0 (State.lockWrite s p1 p2 p3) := by
  unfold State.lockWrite
  refine ite_of (P := Keeps M s0) ?_ ?_
  ·
    refine ite_of (P := Keeps M s0) ?_ ?_
    ·
      refine Keeps.up_locks (sub_trans rfl hM) ?_
      exact h
    ·
      exact h
  ·
    refine (keeps_State_modAgent (sub_trans rfl hM)) ?_
    exact h

theorem keeps_State_lockForce {M : Nat} (hM : Nat.land 8796093024256 M = 8796093024256) {s0 : State} {s : State} {p1 : Nat → Bool} (h : Keeps M s0 s) : Keeps M s0 (State.lockForce s p1) := by
  unfold State.lockForce
  refine Keeps.forEach ?_ ?_
  ·
    exact h
  · intro t0 x1 h2
    beta_reduce
    split
    ·
      refine ite_of (P := Keeps M s0) ?_ ?_
      ·
        refine (keeps_State_event (sub_trans rfl hM)) ?_
        refine Keeps.up_locks (sub_trans rfl hM) ?_
        exact h2
      ·
        exact h2
    ·
      exact h2

theorem keeps_State_groomDawn {M : Nat} (hM : Nat.land 30236569765888 M = 30236569765888) {s0 : State} {s : State} (h : Keeps M s0 s) : Keeps M s0 (State.groomDawn s) := by
  unfold State.groomDawn
  extract_lets -merge -useContext -underBinder v0
  have h1 : Keeps M s0 v0 := by
    unfold v0
    refine (keeps_State_lockForce (sub_trans rfl hM)) ?_
    exact h
  try clear_value v0
  refine Keeps.up_groom_stalls_agents_lockPtr (sub_trans rfl hM) ?_
  exact h1

theorem keeps_State_groomHold {M : Nat} (hM : Nat.land 549755813888 M = 549755813888) {s0 : State} {s : State} (h : Keeps M s0 s) : Keeps M s0 (State.groomHold s) := by
  unfold State.groomHold
  extract_lets -merge -useContext -underBinder v0 v1
  try clear_value v0
  try clear_value v1
  refine Keeps.up_groom (sub_trans rfl hM) ?_
  exact h

theorem keeps_State_groomServe {M : Nat} (hM : Nat.land 549755813888 M = 549755813888) {s0 : State} {s : State} {p1 : GItem} {p2 : Nat} (h : Keeps M s0 s) : Keeps M s0 (State.groomServe s p1 p2) := by
  unfold State.groomServe
  extract_lets -merge -useContext -underBinder v0
  try clear_value v0
  refine Keeps.up_groom (sub_trans rfl hM) ?_
  exact h

theorem keeps_State_groomDispatch {M : Nat} (hM : Nat.land 549755813888 M = 549755813888) {s0 : State} {s : State} (h : Keeps M s0 s) : Keeps M s0 (State.groomDispatch s) := by
  unfold State.groomDispatch
  refine ite_of (P := Keeps M s0) ?_ ?_
  ·
    exact h
  ·
    extract_lets -merge -useContext -underBinder v0
    have h1 : Keeps M s0 v0 := by
      unfold v0
      refine (keeps_State_groomHold (sub_trans rfl hM)) ?_
      exact h
    try clear_value v0
    split
    ·
      refine (keeps_State_groomHold (sub_trans rfl hM)) ?_
      refine (keeps_State_groomServe (sub_trans rfl hM)) ?_
      exact h1
    ·
      exact h1

theorem keeps_State_groomAffinityEnd {M : Nat} (hM : Nat.land 549755822080 M = 549755822080) {s0 : State} {s : State} (h : Keeps M s0 s) : Keeps M s0 (State.groomAffinityEnd s) := by
  unfold State.groomAffinityEnd
  extract_lets -merge -useContext -underBinder v0 v1
  try clear_value v0
  try clear_value v1
  split
  ·
    refine (keeps_State_groomDispatch (sub_trans rfl hM)) ?_
    refine (keeps_State_advanceTo (sub_trans rfl hM)) ?_
    exact h
  ·
    exact h

theorem keeps_State_groomLpGone {M : Nat} (hM : Nat.land 9895604652032 M = 9895604652032) {s0 : State} {s : State} {p1 : Nat} (h : Keeps M s0 s) : Keeps M s0 (State.groomLpGone s p1) := by
  unfold State.groomLpGone
  refine (keeps_State_lockForce (sub_trans rfl hM)) ?_
  refine Keeps.forEach ?_ ?_
  ·
    exact h
  · intro t0 x1 h2
    beta_reduce
    refine (keeps_State_discardStall (sub_trans rfl hM)) ?_
    exact h2

theorem keeps_State_winWrite {M : Nat} (hM : Nat.land 16492674416641 M = 16492674416641) {s0 : State} {s : State} {p1 : Nat} {p2 : Nat} {p3 : Word} (h : Keeps M s0 s) : Keeps M s0 (State.winWrite s p1 p2 p3) := by
  unfold State.winWrite
  extract_lets -merge -useContext -underBinder v0 v1
  try clear_value v0
  try clear_value v1
  refine ite_of (P := Keeps M s0) ?_ ?_
  ·
    exact h
  ·
    refine ite_of (P := Keeps M s0) ?_ ?_
    ·
      refine ite_of (P := Keeps M s0) ?_ ?_
      ·
        exact h
      ·
        refine ite_of (P := Keeps M s0) ?_ ?_
        ·
          refine (keeps_State_modStall (sub_trans rfl hM)) ?_
          exact h
        ·
          refine ite_of (P := Keeps M s0) ?_ ?_
          ·
            refine ite_of (P := Keeps M s0) ?_ ?_
            ·
              refine (keeps_State_modStall (sub_trans rfl hM)) ?_
              exact h
            ·
              exact h
          ·
            refine ite_of (P := Keeps M s0) ?_ ?_
            ·
              exact h
            ·
              refine (keeps_State_badAcc (sub_trans rfl hM)) ?_
              exact h
    ·
      refine ite_of (P := Keeps M s0) ?_ ?_
      ·
        refine ite_of (P := Keeps M s0) ?_ ?_
        ·
          refine ite_of (P := Keeps M s0) ?_ ?_
          ·
            refine (keeps_State_pop (sub_trans rfl hM)) ?_
            exact h
          ·
            exact h
        ·
          refine ite_of (P := Keeps M s0) ?_ ?_
          ·
            exact h
          ·
            refine (keeps_State_badAcc (sub_trans rfl hM)) ?_
            exact h
      ·
        split
        ·
          exact h
        ·
          refine (keeps_State_modAgent (sub_trans rfl hM)) ?_
          exact h
        ·
          refine (keeps_State_modAgent (sub_trans rfl hM)) ?_
          exact h
        ·
          exact h
        ·
          refine ite_of (P := Keeps M s0) ?_ ?_
          ·
            refine (keeps_State_modAgent (sub_trans rfl hM)) ?_
            exact h
          ·
            exact h
        ·
          refine ite_of (P := Keeps M s0) ?_ ?_
          ·
            refine Keeps.up_xtime (sub_trans rfl hM) ?_
            exact h
          ·
            exact h
        ·
          exact h
        ·
          refine ite_of (P := Keeps M s0) ?_ ?_
          ·
            refine (keeps_State_lockWrite (sub_trans rfl hM)) ?_
            exact h
          ·
            refine (keeps_State_badAcc (sub_trans rfl hM)) ?_
            exact h

theorem keeps_State_groomAdmit {M : Nat} (hM : Nat.land 549755813888 M = 549755813888) {s0 : State} {s : State} {p1 : GItem} (h : Keeps M s0 s) : Keeps M s0 (State.groomAdmit s p1) := by
  unfold State.groomAdmit
  extract_lets -merge -useContext -underBinder v0 v1
  try clear_value v0
  try clear_value v1
  refine (keeps_State_groomHold (sub_trans rfl hM)) ?_
  refine Keeps.up_groom (sub_trans rfl hM) ?_
  exact h

theorem keeps_State_waitRow {M : Nat} (hM : Nat.land 29961691856897 M = 29961691856897) {s0 : State} {s : State} {p1 : Nat} (h : Keeps M s0 s) : Keeps M s0 (State.waitRow s p1) := by
  unfold State.waitRow
  split
  ·
    rename_i t0 q2
    have h1 : Keeps M s0 t0 := by
      refine KP.out q2 ?_
      refine (keeps_State_winRead (sub_trans rfl hM)) ?_
      exact h
    refine Keeps.up_rdata (sub_trans rfl hM) ?_
    exact h1
  ·
    rename_i t3 q5
    have h4 : Keeps M s0 t3 := by
      refine KP.out q5 ?_
      refine (keeps_State_winRead (sub_trans rfl hM)) ?_
      exact h
    exact h4

theorem keeps_State_crossing {M : Nat} (hM : Nat.land 2473901172736 M = 2473901172736) {s0 : State} {s : State} {p1 : Nat} {p2 : Nat} (h : Keeps M s0 s) : Keeps M s0 (State.crossing s p1 p2) := by
  unfold State.crossing
  split
  ·
    refine ite_of (P := Keeps M s0) ?_ ?_
    ·
      exact h
    ·
      extract_lets -merge -useContext -underBinder v0 v1 v2
      have h3 : Keeps M s0 v0 := by
        unfold v0
        refine (keeps_State_advanceTo (sub_trans rfl hM)) ?_
        exact h
      try clear_value v0
      have h4 : ∀ x5 x7 x8, Keeps M s0 x5 → Keeps M s0 (v1 x5 x7 x8) := by
        intro x5 x7 x8 h6
        unfold v1
        beta_reduce
        refine (keeps_State_modAgent (sub_trans rfl hM)) ?_
        exact h6
      try clear_value v1
      have h9 : Keeps M s0 v2 := by
        unfold v2
        refine (keeps_State_event (sub_trans rfl hM)) ?_
        refine h4 _ _ _ ?_
        refine h4 _ _ _ ?_
        exact h3
      try clear_value v2
      refine Keeps.up_rdata (sub_trans rfl hM) ?_
      exact h9
  ·
    exact h

theorem keeps_State_lockAcquire {M : Nat} (hM : Nat.land 26663156973568 M = 26663156973568) {s0 : State} {s : State} {p1 : Nat} {p2 : Nat} {p3 : List Nat} (h : Keeps M s0 s) : Keeps M s0 (State.lockAcquire s p1 p2 p3) := by
  unfold State.lockAcquire
  extract_lets -merge -useContext -underBinder v0
  try clear_value v0
  split
  ·
    extract_lets -merge -useContext -underBinder v1
    have h2 : Keeps M s0 v1 := by
      unfold v1
      refine KP.snd ?_
      refine (keeps_State_lockRead (sub_trans rfl hM)) ?_
      exact h
    try clear_value v1
    refine Keeps.up_rdata (sub_trans rfl hM) ?_
    exact h2
  ·
    split
    ·
      rename_i t3 q5
      have h4 : Keeps M s0 t3 := by
        refine KP.out q5 ?_
        refine (keeps_State_lockRead (sub_trans rfl hM)) ?_
        exact h
      refine Keeps.up_rdata (sub_trans rfl hM) ?_
      exact h4

theorem keeps_State_popRow {M : Nat} (hM : Nat.land 16492674416641 M = 16492674416641) {s0 : State} {s : State} {p1 : Nat} {p2 : Nat} (h : Keeps M s0 s) : Keeps M s0 (State.popRow s p1 p2) := by
  unfold State.popRow
  refine ite_of (P := Keeps M s0) ?_ ?_
  ·
    refine (keeps_State_badAcc (sub_trans rfl hM)) ?_
    exact h
  ·
    refine (keeps_State_winWrite (sub_trans rfl hM)) ?_
    exact h

theorem keeps_State_lockRelease {M : Nat} (hM : Nat.land 10995116277761 M = 10995116277761) {s0 : State} {s : State} {p1 : Nat} {p2 : Nat} (h : Keeps M s0 s) : Keeps M s0 (State.lockRelease s p1 p2) := by
  unfold State.lockRelease
  refine ite_of (P := Keeps M s0) ?_ ?_
  ·
    refine (keeps_State_badAcc (sub_trans rfl hM)) ?_
    exact h
  ·
    refine (keeps_State_lockWrite (sub_trans rfl hM)) ?_
    exact h

theorem keeps_State_groomPost {M : Nat} (hM : Nat.land 824633720832 M = 824633720832) {s0 : State} {s : State} {p1 : Nat} {p2 : Nat} {p3 : Nat} {p4 : Nat} {p5 : Word} {p6 : Word64} {p7 : Word64} (h : Keeps M s0 s) : Keeps M s0 (State.groomPost s p1 p2 p3 p4 p5 p6 p7) := by
  unfold State.groomPost
  extract_lets -merge -useContext -underBinder v0 v1 v2 v3
  try clear_value v0
  try clear_value v1
  try clear_value v2
  have h4 : Keeps M s0 v3 := by
    unfold v3
    refine (keeps_State_groomAdmit (sub_trans rfl hM)) ?_
    exact h
  try clear_value v3
  refine ite_of (P := Keeps M s0) ?_ ?_
  ·
    refine ite_of (P := Keeps M s0) ?_ ?_
    ·
      refine (keeps_State_groomAdmit (sub_trans rfl hM)) ?_
      exact h
    ·
      split
      ·
        refine Keeps.up_groom (sub_trans rfl hM) ?_
        exact h
      ·
        refine Keeps.up_groom (sub_trans rfl hM) ?_
        exact h
  ·
    refine ite_of (P := Keeps M s0) ?_ ?_
    ·
      refine Keeps.up_rdata (sub_trans rfl hM) ?_
      exact h4
    ·
      refine ite_of (P := Keeps M s0) ?_ ?_
      ·
        exact h
      ·
        refine Keeps.up_rdata (sub_trans rfl hM) ?_
        exact h

theorem keeps_State_groomDone {M : Nat} (hM : Nat.land 824633720832 M = 824633720832) {s0 : State} {s : State} {p1 : Nat} (h : Keeps M s0 s) : Keeps M s0 (State.groomDone s p1) := by
  unfold State.groomDone
  extract_lets -merge -useContext -underBinder v0
  try clear_value v0
  split
  ·
    exact h
  ·
    split
    ·
      extract_lets -merge -useContext -underBinder v1 v2 v3
      try clear_value v1
      try clear_value v2
      have h4 : Keeps M s0 v3 := by
        unfold v3
        refine (keeps_State_groomHold (sub_trans rfl hM)) ?_
        refine Keeps.up_groom (sub_trans rfl hM) ?_
        exact h
      try clear_value v3
      split
      ·
        refine (keeps_State_groomPost (sub_trans rfl hM)) ?_
        refine Keeps.up_groom (sub_trans rfl hM) ?_
        exact h4
      ·
        exact h4

end Sys2Proof.Machine
end

