-- ==== Sys2Proof/Laws/KeepLp.lean ====
section
/-! SUPPORT. The operations of Machine/Lp.lean keep what `Keeps` says. -/

namespace Sys2Proof.Machine

theorem keeps_State_mapAng {M : Nat} (hM : Nat.land 536870913 M = 536870913) {s0 : State} {s : State} {p1 : Nat} {p2 : Word} (h : Keeps M s0 s) : Keeps M s0 (State.mapAng s p1 p2) := by
  unfold State.mapAng
  refine (keeps_State_modLoop (sub_trans rfl hM)) ?_
  refine (keeps_State_latNote (sub_trans rfl hM)) ?_
  exact h

theorem keeps_State_mapCmp4 {M : Nat} (hM : Nat.land 8589934593 M = 8589934593) {s0 : State} {s : State} {p1 : Nat} {p2 : Word} (h : Keeps M s0 s) : Keeps M s0 (State.mapCmp4 s p1 p2) := by
  unfold State.mapCmp4
  split
  ·
    refine (keeps_State_pwmStage (sub_trans rfl hM)) ?_
    refine (keeps_State_wrN (sub_trans rfl hM)) ?_
    refine (keeps_State_flyTo (sub_trans rfl hM)) ?_
    exact h
  ·
    exact h

theorem keeps_State_mapIq {M : Nat} (hM : Nat.land 536870913 M = 536870913) {s0 : State} {s : State} {p1 : Nat} {p2 : Word} (h : Keeps M s0 s) : Keeps M s0 (State.mapIq s p1 p2) := by
  unfold State.mapIq
  refine (keeps_State_modLoop (sub_trans rfl hM)) ?_
  refine (keeps_State_latNote (sub_trans rfl hM)) ?_
  exact h

theorem keeps_State_mapWrite {M : Nat} (hM : Nat.land 833760528449 M = 833760528449) {s0 : State} {s : State} {p1 : Nat} {p2 : Nat} {p3 : Nat} {p4 : Word} {p5 : Bool} (h : Keeps M s0 s) : Keeps M s0 (State.mapWrite s p1 p2 p3 p4 p5) := by
  unfold State.mapWrite
  refine ite_of (P := Keeps M s0) ?_ ?_
  ·
    exact h
  ·
    refine ite_of (P := Keeps M s0) ?_ ?_
    ·
      refine Keeps.up_mem_user (sub_trans rfl hM) ?_ (Memory.wf_user wmSet_wf)
      exact h
    ·
      refine ite_of (P := Keeps M s0) ?_ ?_
      ·
        refine (keeps_State_groomPost (sub_trans rfl hM)) ?_
        refine (keeps_State_event (sub_trans rfl hM)) ?_
        exact h
      ·
        refine ite_of (P := Keeps M s0) ?_ ?_
        ·
          exact h
        ·
          refine ite_of (P := Keeps M s0) ?_ ?_
          ·
            refine (keeps_State_modLoop (sub_trans rfl hM)) ?_
            refine (keeps_State_publishT (sub_trans rfl hM)) ?_
            exact h
          ·
            refine ite_of (P := Keeps M s0) ?_ ?_
            ·
              exact h
            ·
              split
              ·
                refine (keeps_State_modLoop (sub_trans rfl hM)) ?_
                exact h
              ·
                refine (keeps_State_mapIq (sub_trans rfl hM)) ?_
                exact h
              ·
                refine (keeps_State_modLoop (sub_trans rfl hM)) ?_
                exact h
              ·
                refine (keeps_State_modLoop (sub_trans rfl hM)) ?_
                exact h
              ·
                refine (keeps_State_mapAng (sub_trans rfl hM)) ?_
                exact h
              ·
                refine (keeps_State_mapCmp4 (sub_trans rfl hM)) ?_
                exact h
              ·
                refine ite_of (P := Keeps M s0) ?_ ?_
                ·
                  refine (keeps_State_pwmCmpc (sub_trans rfl hM)) ?_
                  exact h
                ·
                  exact h
              ·
                exact h

theorem keeps_State_mapRow {M : Nat} (hM : Nat.land 833760528449 M = 833760528449) {s0 : State} {s : State} {p1 : Nat} {p2 : Nat} {p3 : Word} (h : Keeps M s0 s) : Keeps M s0 (State.mapRow s p1 p2 p3) := by
  unfold State.mapRow
  refine (keeps_State_mapWrite (sub_trans rfl hM)) ?_
  exact h

theorem keeps_State_modLp {M : Nat} (hM : Nat.land 35184372088832 M = 35184372088832) {s0 : State} {s : State} {p1 : Nat} {p2 : LpSt → LpSt} (h : Keeps M s0 s) : Keeps M s0 (State.modLp s p1 p2) := by
  unfold State.modLp
  refine Keeps.up_lps (sub_trans rfl hM) ?_
  exact h

theorem keeps_State_lpFault {M : Nat} (hM : Nat.land 45089103554561 M = 45089103554561) {s0 : State} {s : State} {p1 : Nat} {p2 : Nat} (h : Keeps M s0 s) : Keeps M s0 (State.lpFault s p1 p2) := by
  unfold State.lpFault
  refine ite_of (P := Keeps M s0) ?_ ?_
  ·
    exact h
  ·
    extract_lets -merge -useContext -underBinder v0 v1 v2 v3 v4 v5 v6 v7 v8
    try clear_value v0
    try clear_value v1
    try clear_value v2
    have h9 : Keeps M s0 v3 := by
      unfold v3
      refine (keeps_State_advanceTo (sub_trans rfl hM)) ?_
      exact h
    try clear_value v3
    have h10 : Keeps M s0 v4 := by
      unfold v4
      refine (keeps_State_put (sub_trans rfl hM)) ?_
      refine (keeps_State_putB (sub_trans rfl hM)) ?_
      refine (keeps_State_put (sub_trans rfl hM)) ?_
      exact h9
    try clear_value v4
    have h11 : Keeps M s0 v5 := by
      unfold v5
      refine (keeps_State_clrf (sub_trans rfl hM)) ?_
      refine (keeps_State_put (sub_trans rfl hM)) ?_
      exact h10
    try clear_value v5
    have h12 : Keeps M s0 v6 := by
      unfold v6
      refine (keeps_State_groomLpGone (sub_trans rfl hM)) ?_
      refine (keeps_State_modLp (sub_trans rfl hM)) ?_
      exact h11
    try clear_value v6
    have h13 : Keeps M s0 v7 := by
      unfold v7
      refine (keeps_State_setf (sub_trans rfl hM)) ?_
      exact h12
    try clear_value v7
    have h14 : Keeps M s0 v8 := by
      unfold v8
      refine Keeps.forEach ?_ ?_
      ·
        exact h13
      · intro t15 x16 h17
        beta_reduce
        refine ite_of (P := Keeps M s0) ?_ ?_
        ·
          refine (keeps_State_cleLeave (sub_trans rfl hM)) ?_
          exact h17
        ·
          refine ite_of (P := Keeps M s0) ?_ ?_
          ·
            refine (keeps_State_modLoop (sub_trans rfl hM)) ?_
            refine (keeps_State_wrN (sub_trans rfl hM)) ?_
            exact h17
          ·
            exact h17
    try clear_value v8
    refine ite_of (P := Keeps M s0) ?_ ?_
    ·
      refine (keeps_State_event (sub_trans rfl hM)) ?_
      exact h12
    ·
      refine (keeps_State_event (sub_trans rfl hM)) ?_
      exact h14

theorem keeps_State_bankMark {M : Nat} (hM : Nat.land 1 M = 1) {s0 : State} {s : State} {p1 : Nat} {p2 : Bool} (h : Keeps M s0 s) : Keeps M s0 (State.bankMark s p1 p2) := by
  unfold State.bankMark
  refine (keeps_State_put (sub_trans rfl hM)) ?_
  refine (keeps_State_put (sub_trans rfl hM)) ?_
  exact h

theorem keeps_State_lpRegs {M : Nat} (hM : Nat.land 1 M = 1) {s0 : State} {s : State} {p1 : Nat} (h : Keeps M s0 s) : Keeps M s0 (State.lpRegs s p1) := by
  unfold State.lpRegs
  refine (keeps_State_put (sub_trans rfl hM)) ?_
  exact h

theorem keeps_State_verifyAbort {M : Nat} (hM : Nat.land 35184606969857 M = 35184606969857) {s0 : State} {s : State} {p1 : Nat} {p2 : Bool} (h : Keeps M s0 s) : Keeps M s0 (State.verifyAbort s p1 p2) := by
  unfold State.verifyAbort
  refine (keeps_State_resolve (sub_trans rfl hM)) ?_
  refine (keeps_State_modLp (sub_trans rfl hM)) ?_
  refine (keeps_State_put (sub_trans rfl hM)) ?_
  refine (keeps_State_put (sub_trans rfl hM)) ?_
  exact h

theorem keeps_State_bankStale {M : Nat} (hM : Nat.land 35184606969857 M = 35184606969857) {s0 : State} {s : State} {p1 : Nat} (h : Keeps M s0 s) : Keeps M s0 (State.bankStale s p1) := by
  unfold State.bankStale
  extract_lets -merge -useContext -underBinder v0 v1 v2
  try clear_value v0
  try clear_value v1
  have h3 : Keeps M s0 v2 := by
    unfold v2
    refine ite_of (P := Keeps M s0) ?_ ?_
    ·
      refine (keeps_State_verifyAbort (sub_trans rfl hM)) ?_
      refine (keeps_State_bankMark (sub_trans rfl hM)) ?_
      exact h
    ·
      refine ite_of (P := Keeps M s0) ?_ ?_
      ·
        refine (keeps_State_bankMark (sub_trans rfl hM)) ?_
        exact h
      ·
        exact h
  try clear_value v2
  refine (keeps_State_lpRegs (sub_trans rfl hM)) ?_
  exact h3

theorem copyWords_wf {n : Nat} : ∀ {m : WordMem} {a b : Nat}, wmWf m = true → wmWf (copyWords m a b n) = true := by -- mod Lp
  induction n with
  | zero => intro m a b h; exact h
  | succ n ih => intro m a b h; exact ih (wmSet_wf h)

theorem keeps_State_lpForget {M : Nat} (hM : Nat.land 35184372088832 M = 35184372088832) {s0 : State} {s : State} {k : Nat} (h : Keeps M s0 s) : Keeps M s0 (s.lpForget k) :=
  Keeps.up_freeCount (sub_trans rfl hM) ((keeps_State_modLp (sub_trans rfl hM)) h) (Nat.le_add_right _ _)

theorem keeps_State_bankFlip {M : Nat} (hM : Nat.land 35184372088849 M = 35184372088849) {s0 : State} {s : State} {k : Nat} (h : Keeps M s0 s) : Keeps M s0 (s.bankFlip k) := by
  unfold State.bankFlip
  extract_lets -merge -useContext -underBinder s b n src m s1 words
  have h1 : Keeps M s0 s1 := by
    refine Keeps.up_mem_lpData (sub_trans rfl hM) ((keeps_State_lpForget (sub_trans rfl hM)) h) (Memory.wf_lpData ?_)
    intro hm
    refine foldl_of (P := fun x => wmWf x = true) hm ?_
    intro x i hx
    exact copyWords_wf hx
  exact (keeps_State_lpRegs (sub_trans rfl hM)) ((keeps_State_modLp (sub_trans rfl hM)) ((keeps_State_count (sub_trans rfl hM)) ((keeps_State_putB (sub_trans rfl hM)) ((keeps_State_putB (sub_trans rfl hM)) h1))))

theorem keeps_State_lpSwap {M : Nat} (hM : Nat.land 35184372088849 M = 35184372088849) {s0 : State} {s : State} {p1 : Nat} (h : Keeps M s0 s) : Keeps M s0 (State.lpSwap s p1) := by
  unfold State.lpSwap
  extract_lets -merge -useContext -underBinder v0
  have h1 : Keeps M s0 v0 := by
    unfold v0
    refine (keeps_State_clrf (sub_trans rfl hM)) ?_
    exact h
  try clear_value v0
  refine ite_of (P := Keeps M s0) ?_ ?_
  ·
    refine (keeps_State_modLp (sub_trans rfl hM)) ?_
    exact h1
  ·
    refine (keeps_State_bankFlip (sub_trans rfl hM)) ?_
    exact h1

theorem keeps_State_verifyDone {M : Nat} (hM : Nat.land 35184606978049 M = 35184606978049) {s0 : State} {s : State} {p1 : Nat} (h : Keeps M s0 s) : Keeps M s0 (State.verifyDone s p1) := by
  unfold State.verifyDone
  split
  ·
    exact h
  ·
    extract_lets -merge -useContext -underBinder v0 v1 v2 v3 v4 v5
    try clear_value v0
    try clear_value v1
    have h6 : Keeps M s0 v2 := by
      unfold v2
      refine (keeps_State_modLp (sub_trans rfl hM)) ?_
      refine (keeps_State_advanceTo (sub_trans rfl hM)) ?_
      exact h
    try clear_value v2
    try clear_value v3
    have h7 : Keeps M s0 v4 := by
      unfold v4
      refine (keeps_State_put (sub_trans rfl hM)) ?_
      refine (keeps_State_put (sub_trans rfl hM)) ?_
      refine (keeps_State_put (sub_trans rfl hM)) ?_
      exact h6
    try clear_value v4
    have h8 : Keeps M s0 v5 := by
      unfold v5
      refine (keeps_State_modLp (sub_trans rfl hM)) ?_
      refine (keeps_State_put (sub_trans rfl hM)) ?_
      exact h7
    try clear_value v5
    refine (keeps_State_resolve (sub_trans rfl hM)) ?_
    refine (keeps_State_lpRegs (sub_trans rfl hM)) ?_
    exact h8

theorem keeps_State_lpVerify {M : Nat} (hM : Nat.land 35184372088833 M = 35184372088833) {s0 : State} {s : State} {p1 : Nat} {p2 : Bool} (h : Keeps M s0 s) : Keeps M s0 (State.lpVerify s p1 p2) := by
  unfold State.lpVerify
  split
  ·
    exact h
  ·
    refine (keeps_State_modLp (sub_trans rfl hM)) ?_
    refine (keeps_State_put (sub_trans rfl hM)) ?_
    exact h

theorem keeps_State_lpInterrupt {M : Nat} (hM : Nat.land 35184372088833 M = 35184372088833) {s0 : State} {s : State} {p1 : Nat} (h : Keeps M s0 s) : Keeps M s0 (State.lpInterrupt s p1) := by
  unfold State.lpInterrupt
  extract_lets -merge -useContext -underBinder v0 v1
  try clear_value v0
  try clear_value v1
  refine ite_of (P := Keeps M s0) ?_ ?_
  ·
    exact h
  ·
    refine (keeps_State_modLp (sub_trans rfl hM)) ?_
    refine (keeps_State_setf (sub_trans rfl hM)) ?_
    refine (keeps_State_count (sub_trans rfl hM)) ?_
    exact h

theorem keeps_State_lpActivate {M : Nat} (hM : Nat.land 1 M = 1) {s0 : State} {s : State} {p1 : Nat} {p2 : Bool} (h : Keeps M s0 s) : Keeps M s0 (State.lpActivate s p1 p2) := by
  unfold State.lpActivate
  refine ite_of (P := Keeps M s0) ?_ ?_
  ·
    refine (keeps_State_lpRegs (sub_trans rfl hM)) ?_
    refine (keeps_State_putB (sub_trans rfl hM)) ?_
    refine (keeps_State_putB (sub_trans rfl hM)) ?_
    exact h
  ·
    exact h

theorem keeps_State_modQueue {M : Nat} (hM : Nat.land 4294967296 M = 4294967296) {s0 : State} {s : State} {p1 : Nat} {p2 : List RunReq → List RunReq} (h : Keeps M s0 s) : Keeps M s0 (State.modQueue s p1 p2) := by
  unfold State.modQueue
  refine Keeps.up_runQ (sub_trans rfl hM) ?_
  exact h

theorem keeps_State_bankLoaded {M : Nat} (hM : Nat.land 35184606969857 M = 35184606969857) {s0 : State} {s : State} {p1 : Nat} {p2 : Bool} (h : Keeps M s0 s) : Keeps M s0 (State.bankLoaded s p1 p2) := by
  unfold State.bankLoaded
  extract_lets -merge -useContext -underBinder v0
  have h1 : Keeps M s0 v0 := by
    unfold v0
    refine (keeps_State_modLp (sub_trans rfl hM)) ?_
    refine (keeps_State_bankMark (sub_trans rfl hM)) ?_
    exact h
  try clear_value v0
  split
  ·
    refine ite_of (P := Keeps M s0) ?_ ?_
    ·
      refine (keeps_State_verifyAbort (sub_trans rfl hM)) ?_
      exact h1
    ·
      exact h1
  ·
    exact h1

theorem keeps_State_lpMemWrite {M : Nat} (hM : Nat.land 35184606969905 M = 35184606969905) {s0 : State} {s : State} {p1 : Nat} {p2 : Nat} {p3 : Word} (h : Keeps M s0 s) : Keeps M s0 (State.lpMemWrite s p1 p2 p3) := by
  unfold State.lpMemWrite
  extract_lets -merge -useContext -underBinder v0 v1 v2 v3
  try clear_value v0
  try clear_value v1
  refine ite_of (P := Keeps M s0) ?_ ?_
  ·
    refine ite_of (P := Keeps M s0) ?_ ?_
    ·
      refine (keeps_State_badAcc (sub_trans rfl hM)) ?_
      exact h
    ·
      refine (keeps_State_bankLoaded (sub_trans rfl hM)) ?_
      refine Keeps.up_mem_lpCode (sub_trans rfl hM) ?_ (Memory.wf_lpCode wmSet_wf)
      exact h
  ·
    refine ite_of (P := Keeps M s0) ?_ ?_
    ·
      refine Keeps.up_mem_lpData (sub_trans rfl hM) ?_ (Memory.wf_lpData wmSet_wf)
      exact h
    ·
      refine (keeps_State_badAcc (sub_trans rfl hM)) ?_
      exact h

theorem keeps_State_recoveryRun {M : Nat} (hM : Nat.land 1100295444481 M = 1100295444481) {s0 : State} {s : State} {p1 : Nat} (h : Keeps M s0 s) : Keeps M s0 (State.recoveryRun s p1) := by
  unfold State.recoveryRun
  extract_lets -merge -useContext -underBinder v0 v1 v2 v3 v4 v5 v6
  try clear_value v0
  have h7 : Keeps M s0 v1 := by
    unfold v1
    refine (keeps_State_modLoop (sub_trans rfl hM)) ?_
    exact h
  try clear_value v1
  try clear_value v2
  try clear_value v3
  have h8 : ∀ x9, Keeps M s0 x9 → Keeps M s0 (v4 x9) := by
    intro x9 h10
    unfold v4
    beta_reduce
    refine (keeps_State_modLoop (sub_trans rfl hM)) ?_
    exact h10
  try clear_value v4
  have h11 : Keeps M s0 v5 := by
    unfold v5
    refine ite_of (P := Keeps M s0) ?_ ?_
    ·
      exact h7
    ·
      refine (keeps_State_startRamp (sub_trans rfl hM)) ?_
      exact h7
  try clear_value v5
  have h12 : Keeps M s0 v6 := by
    unfold v6
    refine (keeps_State_setpoint (sub_trans rfl hM)) ?_
    exact h11
  try clear_value v6
  refine ite_of (P := Keeps M s0) ?_ ?_
  ·
    exact h
  ·
    refine ite_of (P := Keeps M s0) ?_ ?_
    ·
      refine h8 _ ?_
      refine (keeps_State_torqueOffStep (sub_trans rfl hM)) ?_
      exact h7
    ·
      refine ite_of (P := Keeps M s0) ?_ ?_
      ·
        refine h8 _ ?_
        exact h12
      ·
        refine ite_of (P := Keeps M s0) ?_ ?_
        ·
          refine h8 _ ?_
          refine (keeps_State_torqueOffStep (sub_trans rfl hM)) ?_
          refine (keeps_State_torqueOff (sub_trans rfl hM)) ?_
          exact h12
        ·
          split
          ·
            rename_i t13 q15
            have h14 : Keeps M s0 t13 := by
              refine KP.out q15 ?_
              refine (keeps_State_actual (sub_trans rfl hM)) ?_
              exact h12
            extract_lets -merge -useContext -underBinder v16 v17 v18
            try clear_value v16
            try clear_value v17
            try clear_value v18
            split
            ·
              rename_i t19 q21
              have h20 : Keeps M s0 t19 := by
                refine KP3.out q21 ?_
                refine (keeps_State_measured (sub_trans rfl hM)) ?_
                exact h14
              extract_lets -merge -useContext -underBinder v22
              try clear_value v22
              refine ite_of (P := Keeps M s0) ?_ ?_
              ·
                refine (keeps_State_torqueOffStep (sub_trans rfl hM)) ?_
                refine (keeps_State_torqueOff (sub_trans rfl hM)) ?_
                exact h20
              ·
                refine (keeps_State_publishT (sub_trans rfl hM)) ?_
                exact h20

end Sys2Proof.Machine
end

