-- ==== Sys2Proof/Laws/KeepRuns.lean ====
section
/-! SUPPORT. The operations of Machine/Runs.lean keep what `Keeps` says. -/

namespace Sys2Proof.Machine

theorem keeps_State_lateRun {M : Nat} (hM : Nat.land 1099749660673 M = 1099749660673) {s0 : State} {s : State} {p1 : Nat} {p2 : optParam Bool false} (h : Keeps M s0 s) : Keeps M s0 (State.lateRun s p1 p2) := by
  unfold State.lateRun
  extract_lets -merge -useContext -underBinder v0
  have h1 : Keeps M s0 v0 := by
    unfold v0
    refine (keeps_State_count (sub_trans rfl hM)) ?_
    refine (keeps_State_count (sub_trans rfl hM)) ?_
    exact h
  try clear_value v0
  refine ite_of (P := Keeps M s0) ?_ ?_
  ·
    refine (keeps_State_startRamp (sub_trans rfl hM)) ?_
    exact h1
  ·
    exact h1

theorem keeps_State_enqueue {M : Nat} (hM : Nat.land 1104313063425 M = 1104313063425) {s0 : State} {s : State} {p1 : RunReq} (h : Keeps M s0 s) : Keeps M s0 (State.enqueue s p1) := by
  unfold State.enqueue
  extract_lets -merge -useContext -underBinder v0 v1 v2 v3 v4 v5
  try clear_value v0
  try clear_value v1
  try clear_value v2
  try clear_value v3
  have h6 : Keeps M s0 v4 := by
    unfold v4
    refine ite_of (P := Keeps M s0) ?_ ?_
    ·
      refine (keeps_State_lateRun (sub_trans rfl hM)) ?_
      exact h
    ·
      exact h
  try clear_value v4
  have h7 : Keeps M s0 v5 := by
    unfold v5
    refine ite_of (P := Keeps M s0) ?_ ?_
    ·
      refine (keeps_State_modNet (sub_trans rfl hM)) ?_
      exact h6
    ·
      exact h6
  try clear_value v5
  refine (keeps_State_modQueue (sub_trans rfl hM)) ?_
  exact h7

theorem keeps_State_onTime {M : Nat} (hM : Nat.land 1 M = 1) {s0 : State} {s : State} {p1 : Nat} (h : Keeps M s0 s) : Keeps M s0 (State.onTime s p1) := by
  unfold State.onTime
  refine (keeps_State_put (sub_trans rfl hM)) ?_
  exact h

end Sys2Proof.Machine
end

