-- ==== Sys2Proof/Laws/KeepSafeSet.lean ====
section
/-! SUPPORT. The operations of Machine/SafeSet.lean keep what `Keeps` says. -/

namespace Sys2Proof.Machine

theorem keeps_State_slotRegs {M : Nat} (hM : Nat.land 1 M = 1) {s0 : State} {s : State} (h : Keeps M s0 s) : Keeps M s0 (State.slotRegs s) := by
  unfold State.slotRegs
  extract_lets -merge -useContext -underBinder v0 v1 v2
  try clear_value v0
  try clear_value v1
  try clear_value v2
  refine (keeps_State_wrN (sub_trans rfl hM)) ?_
  refine (keeps_State_wrN (sub_trans rfl hM)) ?_
  refine (keeps_State_wr64N (sub_trans rfl hM)) ?_
  exact h

theorem keeps_State_modSafe {M : Nat} (hM : Nat.land 140737488355328 M = 140737488355328) {s0 : State} {s : State} {p1 : SafeSt → SafeSt} (h : Keeps M s0 s) : Keeps M s0 (State.modSafe s p1) := by
  unfold State.modSafe
  refine Keeps.up_safe (sub_trans rfl hM) ?_
  exact h

end Sys2Proof.Machine
end

