-- ==== Sys2Proof/Laws/KeepSafeCh.lean ====
section
/-! SUPPORT. The operations of Machine/SafeCh.lean keep what `Keeps` says. -/

namespace Sys2Proof.Machine

theorem keeps_State_modCh {M : Nat} (hM : Nat.land 140737488355328 M = 140737488355328) {s0 : State} {s : State} {p1 : Nat} {p2 : SafeCh → SafeCh} (h : Keeps M s0 s) : Keeps M s0 (State.modCh s p1 p2) := by
  unfold State.modCh
  refine (keeps_State_modSafe (sub_trans rfl hM)) ?_
  exact h

theorem keeps_State_modChAx {M : Nat} (hM : Nat.land 140737488355328 M = 140737488355328) {s0 : State} {s : State} {p1 : Nat} {p2 : Nat} {p3 : ChAx → ChAx} (h : Keeps M s0 s) : Keeps M s0 (State.modChAx s p1 p2 p3) := by
  unfold State.modChAx
  refine (keeps_State_modCh (sub_trans rfl hM)) ?_
  exact h

theorem keeps_State_setLine {M : Nat} (hM : Nat.land 140737488355328 M = 140737488355328) {s0 : State} {s : State} {p1 : Nat} {p2 : Nat} {p3 : Bool} (h : Keeps M s0 s) : Keeps M s0 (State.setLine s p1 p2 p3) := by
  unfold State.setLine
  refine (keeps_State_modCh (sub_trans rfl hM)) ?_
  exact h

theorem keeps_State_setOut {M : Nat} (hM : Nat.land 140737488355328 M = 140737488355328) {s0 : State} {s : State} {p1 : Nat} {p2 : Nat} {p3 : Bool} (h : Keeps M s0 s) : Keeps M s0 (State.setOut s p1 p2 p3) := by
  unfold State.setOut
  extract_lets -merge -useContext -underBinder v0 v1
  try clear_value v0
  have h2 : Keeps M s0 v1 := by
    unfold v1
    refine (keeps_State_modCh (sub_trans rfl hM)) ?_
    exact h
  try clear_value v1
  refine ite_of (P := Keeps M s0) ?_ ?_
  ·
    refine (keeps_State_modSafe (sub_trans rfl hM)) ?_
    exact h2
  ·
    exact h2

theorem keeps_State_driveAxis {M : Nat} (hM : Nat.land 140737488355328 M = 140737488355328) {s0 : State} {s : State} {p1 : Nat} {p2 : Nat} (h : Keeps M s0 s) : Keeps M s0 (State.driveAxis s p1 p2) := by
  unfold State.driveAxis
  extract_lets -merge -useContext -underBinder v0 v1 v2 v3 v4
  try clear_value v0
  try clear_value v1
  try clear_value v2
  try clear_value v3
  have h5 : Keeps M s0 v4 := by
    unfold v4
    refine ite_of (P := Keeps M s0) ?_ ?_
    ·
      refine (keeps_State_setLine (sub_trans rfl hM)) ?_
      refine (keeps_State_modCh (sub_trans rfl hM)) ?_
      exact h
    ·
      refine ite_of (P := Keeps M s0) ?_ ?_
      ·
        refine ite_of (P := Keeps M s0) ?_ ?_
        ·
          exact h
        ·
          refine (keeps_State_modCh (sub_trans rfl hM)) ?_
          exact h
      ·
        refine (keeps_State_setLine (sub_trans rfl hM)) ?_
        exact h
  try clear_value v4
  split
  ·
    exact h5
  ·
    refine ite_of (P := Keeps M s0) ?_ ?_
    ·
      refine (keeps_State_setOut (sub_trans rfl hM)) ?_
      exact h5
    ·
      refine ite_of (P := Keeps M s0) ?_ ?_
      ·
        refine ite_of (P := Keeps M s0) ?_ ?_
        ·
          exact h5
        ·
          refine (keeps_State_modCh (sub_trans rfl hM)) ?_
          exact h5
      ·
        refine ite_of (P := Keeps M s0) ?_ ?_
        ·
          exact h5
        ·
          refine (keeps_State_setOut (sub_trans rfl hM)) ?_
          exact h5

theorem keeps_State_driveAll {M : Nat} (hM : Nat.land 140737488355328 M = 140737488355328) {s0 : State} {s : State} {p1 : Nat} (h : Keeps M s0 s) : Keeps M s0 (State.driveAll s p1) := by
  unfold State.driveAll
  extract_lets -merge -useContext -underBinder v0
  have h1 : Keeps M s0 v0 := by
    unfold v0
    refine Keeps.forEach ?_ ?_
    ·
      exact h
    · intro t2 x3 h4
      beta_reduce
      refine (keeps_State_driveAxis (sub_trans rfl hM)) ?_
      exact h4
  try clear_value v0
  refine Keeps.forEach ?_ ?_
  ·
    exact h1
  · intro t5 x6 h7
    beta_reduce
    refine ite_of (P := Keeps M s0) ?_ ?_
    ·
      exact h7
    ·
      refine (keeps_State_setOut (sub_trans rfl hM)) ?_
      exact h7

theorem keeps_State_sfAx {M : Nat} (hM : Nat.land 6145 M = 6145) {s0 : State} {s : State} {p1 : Nat} (h : Keeps M s0 s) : Keeps M s0 (State.sfAx s p1) := by
  unfold State.sfAx
  extract_lets -merge -useContext -underBinder v0 v1 v2 v3 v4 v5 v6 v7 v8 v9 v10
  try clear_value v0
  try clear_value v1
  try clear_value v2
  try clear_value v3
  try clear_value v4
  try clear_value v5
  try clear_value v6
  try clear_value v7
  try clear_value v8
  try clear_value v9
  have h11 : Keeps M s0 v10 := by
    unfold v10
    refine (keeps_State_wrI (sub_trans rfl hM)) ?_
    refine (keeps_State_wrN (sub_trans rfl hM)) ?_
    exact h
  try clear_value v10
  refine ite_of (P := Keeps M s0) ?_ ?_
  ·
    exact h11
  ·
    refine (keeps_State_group (sub_trans rfl hM)) ?_
    refine (keeps_State_event (sub_trans rfl hM)) ?_
    exact h11

theorem keeps_State_sfRegs {M : Nat} (hM : Nat.land 1 M = 1) {s0 : State} {s : State} (h : Keeps M s0 s) : Keeps M s0 (State.sfRegs s) := by
  unfold State.sfRegs
  extract_lets -merge -useContext -underBinder v0 v1 v2 v3 v4
  try clear_value v0
  try clear_value v1
  have h5 : Keeps M s0 v2 := by
    unfold v2
    refine (keeps_State_put (sub_trans rfl hM)) ?_
    exact h
  try clear_value v2
  have h6 : Keeps M s0 v3 := by
    unfold v3
    refine (keeps_State_put (sub_trans rfl hM)) ?_
    refine (keeps_State_put (sub_trans rfl hM)) ?_
    refine (keeps_State_put (sub_trans rfl hM)) ?_
    exact h5
  try clear_value v3
  try clear_value v4
  refine (keeps_State_put (sub_trans rfl hM)) ?_
  refine (keeps_State_put (sub_trans rfl hM)) ?_
  refine (keeps_State_putB (sub_trans rfl hM)) ?_
  exact h6

theorem keeps_State_setPending {M : Nat} (hM : Nat.land 140737488361473 M = 140737488361473) {s0 : State} {s : State} (h : Keeps M s0 s) : Keeps M s0 (State.setPending s) := by
  unfold State.setPending
  extract_lets -merge -useContext -underBinder v0
  have h1 : Keeps M s0 v0 := by
    unfold v0
    refine Keeps.forEach ?_ ?_
    ·
      refine (keeps_State_setf (sub_trans rfl hM)) ?_
      refine (keeps_State_setf (sub_trans rfl hM)) ?_
      exact h
    · intro t2 x3 h4
      beta_reduce
      refine Keeps.forEach ?_ ?_
      ·
        exact h4
      · intro t5 x6 h7
        beta_reduce
        refine (keeps_State_modChAx (sub_trans rfl hM)) ?_
        exact h7
  try clear_value v0
  refine (keeps_State_sfRegs (sub_trans rfl hM)) ?_
  refine Keeps.forEach ?_ ?_
  ·
    refine (keeps_State_driveAll (sub_trans rfl hM)) ?_
    refine (keeps_State_driveAll (sub_trans rfl hM)) ?_
    exact h1
  · intro t8 x9 h10
    beta_reduce
    refine (keeps_State_sfAx (sub_trans rfl hM)) ?_
    exact h10

theorem keeps_State_chbPort {M : Nat} (hM : Nat.land 140737488355328 M = 140737488355328) {s0 : State} {s : State} {p1 : Nat} {p2 : Nat} (h : Keeps M s0 s) : Keeps M s0 (State.chbPort s p1 p2) := by
  unfold State.chbPort
  extract_lets -merge -useContext -underBinder v0
  try clear_value v0
  refine (keeps_State_modSafe (sub_trans rfl hM)) ?_
  exact h

theorem keeps_State_chbWire {M : Nat} (hM : Nat.land 140737488355328 M = 140737488355328) {s0 : State} {s : State} {p1 : Wire} {p2 : Nat} (h : Keeps M s0 s) : Keeps M s0 (State.chbWire s p1 p2) := by
  unfold State.chbWire
  split
  ·
    refine ite_of (P := Keeps M s0) ?_ ?_
    ·
      refine (keeps_State_chbPort (sub_trans rfl hM)) ?_
      exact h
    ·
      exact h
  ·
    exact h

theorem keeps_State_fixOffs {M : Nat} (hM : Nat.land 140737488355328 M = 140737488355328) {s0 : State} {s : State} (h : Keeps M s0 s) : Keeps M s0 (State.fixOffs s) := by
  unfold State.fixOffs
  refine (keeps_State_modSafe (sub_trans rfl hM)) ?_
  exact h

theorem keeps_State_raiseGlobal {M : Nat} (hM : Nat.land 140737488361473 M = 140737488361473) {s0 : State} {s : State} {p1 : Nat} {p2 : Fld} (h : Keeps M s0 s) : Keeps M s0 (State.raiseGlobal s p1 p2) := by
  unfold State.raiseGlobal
  extract_lets -merge -useContext -underBinder v0 v1
  have h2 : Keeps M s0 v0 := by
    unfold v0
    refine ite_of (P := Keeps M s0) ?_ ?_
    ·
      exact h
    ·
      refine (keeps_State_group (sub_trans rfl hM)) ?_
      refine (keeps_State_event (sub_trans rfl hM)) ?_
      refine (keeps_State_setf (sub_trans rfl hM)) ?_
      exact h
  try clear_value v0
  have h3 : Keeps M s0 v1 := by
    unfold v1
    refine Keeps.forEach ?_ ?_
    ·
      refine (keeps_State_setf (sub_trans rfl hM)) ?_
      exact h2
    · intro t4 x5 h6
      beta_reduce
      refine (keeps_State_modChAx (sub_trans rfl hM)) ?_
      exact h6
  try clear_value v1
  refine (keeps_State_sfRegs (sub_trans rfl hM)) ?_
  refine (keeps_State_driveAll (sub_trans rfl hM)) ?_
  exact h3

theorem keeps_State_sampleInputs {M : Nat} (hM : Nat.land 140737488355328 M = 140737488355328) {s0 : State} {s : State} {p1 : Nat} (h : Keeps M s0 s) : Keeps M s0 (State.sampleInputs s p1) := by
  unfold State.sampleInputs
  refine (keeps_State_modCh (sub_trans rfl hM)) ?_
  exact h

theorem keeps_State_safetyCycle {M : Nat} (hM : Nat.land 140737489418241 M = 140737489418241) {s0 : State} {s : State} {p1 : Nat} {p2 : List (Nat × Int)} {p3 : List Nat} (h : Keeps M s0 s) : Keeps M s0 (State.safetyCycle s p1 p2 p3) := by
  unfold State.safetyCycle
  refine ite_of (P := Keeps M s0) ?_ ?_
  ·
    exact h
  ·
    extract_lets -merge -useContext -underBinder v0 v1 v2 v3 v4 v5 v6 v7 v8 v9
    have h10 : Keeps M s0 v0 := by
      unfold v0
      refine (keeps_State_sampleInputs (sub_trans rfl hM)) ?_
      refine ite_of (P := Keeps M s0) ?_ ?_
      ·
        refine (keeps_State_advanceTo (sub_trans rfl hM)) ?_
        exact h
      ·
        refine Keeps.forEach ?_ ?_
        ·
          exact h
        · intro t11 x12 h13
          beta_reduce
          refine (keeps_State_chbPort (sub_trans rfl hM)) ?_
          exact h13
    try clear_value v0
    try clear_value v1
    try clear_value v2
    have h14 : Keeps M s0 v3 := by
      unfold v3
      refine Keeps.forEach ?_ ?_
      ·
        exact h10
      · intro t15 x16 h17
        beta_reduce
        split
        ·
          extract_lets -merge -useContext -underBinder v18 v19 v20 v21 v22 v23 v24 v25 v26 v27 v28
          try clear_value v18
          try clear_value v19
          try clear_value v20
          try clear_value v21
          try clear_value v22
          try clear_value v23
          try clear_value v24
          try clear_value v25
          have h29 : Keeps M s0 v26 := by
            unfold v26
            refine (keeps_State_modChAx (sub_trans rfl hM)) ?_
            exact h17
          try clear_value v26
          have h30 : Keeps M s0 v27 := by
            unfold v27
            refine ite_of (P := Keeps M s0) ?_ ?_
            ·
              refine (keeps_State_modMo (sub_trans rfl hM)) ?_
              exact h29
            ·
              exact h29
          try clear_value v27
          have h31 : Keeps M s0 v28 := by
            unfold v28
            split
            ·
              refine (keeps_State_modSafe (sub_trans rfl hM)) ?_
              refine (keeps_State_event (sub_trans rfl hM)) ?_
              exact h30
            ·
              exact h30
          try clear_value v28
          refine ite_of (P := Keeps M s0) ?_ ?_
          ·
            refine (keeps_State_event (sub_trans rfl hM)) ?_
            refine (keeps_State_setf (sub_trans rfl hM)) ?_
            exact h31
          ·
            exact h31
    try clear_value v3
    have h32 : Keeps M s0 v4 := by
      unfold v4
      refine (keeps_State_fixOffs (sub_trans rfl hM)) ?_
      refine (keeps_State_modCh (sub_trans rfl hM)) ?_
      exact h14
    try clear_value v4
    try clear_value v5
    have h33 : Keeps M s0 v6 := by
      unfold v6
      refine ite_of (P := Keeps M s0) ?_ ?_
      ·
        refine (keeps_State_count (sub_trans rfl hM)) ?_
        exact h32
      ·
        exact h32
    try clear_value v6
    have h34 : Keeps M s0 v7 := by
      unfold v7
      refine (keeps_State_modCh (sub_trans rfl hM)) ?_
      exact h33
    try clear_value v7
    have h35 : Keeps M s0 v8 := by
      unfold v8
      refine ite_of (P := Keeps M s0) ?_ ?_
      ·
        refine (keeps_State_raiseGlobal (sub_trans rfl hM)) ?_
        exact h34
      ·
        exact h34
    try clear_value v8
    have h36 : Keeps M s0 v9 := by
      unfold v9
      refine ite_of (P := Keeps M s0) ?_ ?_
      ·
        refine Keeps.forEach ?_ ?_
        ·
          exact h35
        · intro t37 x38 h39
          beta_reduce
          refine (keeps_State_modChAx (sub_trans rfl hM)) ?_
          exact h39
      ·
        exact h35
    try clear_value v9
    refine (keeps_State_sfRegs (sub_trans rfl hM)) ?_
    refine Keeps.forEach ?_ ?_
    ·
      refine (keeps_State_driveAll (sub_trans rfl hM)) ?_
      exact h36
    · intro t40 x41 h42
      beta_reduce
      refine (keeps_State_sfAx (sub_trans rfl hM)) ?_
      exact h42

theorem keeps_State_modConn {M : Nat} (hM : Nat.land 140737488355328 M = 140737488355328) {s0 : State} {s : State} {p1 : Nat} {p2 : SafeConn → SafeConn} (h : Keeps M s0 s) : Keeps M s0 (State.modConn s p1 p2) := by
  unfold State.modConn
  refine (keeps_State_modSafe (sub_trans rfl hM)) ?_
  exact h

theorem keeps_State_safeConnViol {M : Nat} (hM : Nat.land 140737488361473 M = 140737488361473) {s0 : State} {s : State} {p1 : Nat} (h : Keeps M s0 s) : Keeps M s0 (State.safeConnViol s p1) := by
  unfold State.safeConnViol
  extract_lets -merge -useContext -underBinder v0 v1
  try clear_value v0
  try clear_value v1
  refine (keeps_State_sfAx (sub_trans rfl hM)) ?_
  refine (keeps_State_modChAx (sub_trans rfl hM)) ?_
  refine (keeps_State_modChAx (sub_trans rfl hM)) ?_
  exact h

theorem keeps_State_connExpire {M : Nat} (hM : Nat.land 140737488361473 M = 140737488361473) {s0 : State} {s : State} {p1 : Nat} (h : Keeps M s0 s) : Keeps M s0 (State.connExpire s p1) := by
  unfold State.connExpire
  refine (keeps_State_safeConnViol (sub_trans rfl hM)) ?_
  refine (keeps_State_setf (sub_trans rfl hM)) ?_
  refine (keeps_State_modConn (sub_trans rfl hM)) ?_
  exact h

theorem keeps_State_brakeOverdue {M : Nat} (hM : Nat.land 10241 M = 10241) {s0 : State} {s : State} {p1 : Nat} (h : Keeps M s0 s) : Keeps M s0 (State.brakeOverdue s p1) := by
  unfold State.brakeOverdue
  split
  ·
    exact h
  ·
    extract_lets -merge -useContext -underBinder v0
    try clear_value v0
    refine ite_of (P := Keeps M s0) ?_ ?_
    ·
      exact h
    ·
      refine (keeps_State_event (sub_trans rfl hM)) ?_
      refine (keeps_State_setf (sub_trans rfl hM)) ?_
      refine (keeps_State_advanceTo (sub_trans rfl hM)) ?_
      exact h

theorem keeps_State_safeContainer {M : Nat} (hM : Nat.land 140737488361473 M = 140737488361473) {s0 : State} {s : State} {p1 : Nat} (h : Keeps M s0 s) : KP M s0 (State.safeContainer s p1) := by
  unfold State.safeContainer
  extract_lets -merge -useContext -underBinder v0 v1 v2 v3 v4
  try clear_value v0
  have h5 : Keeps M s0 v1 := by
    unfold v1
    refine (keeps_State_modConn (sub_trans rfl hM)) ?_
    exact h
  try clear_value v1
  try clear_value v2
  try clear_value v3
  try clear_value v4
  refine ite_of (P := KP M s0) ?_ ?_
  ·
    refine KP.mk ?_
    exact h
  ·
    refine ite_of (P := KP M s0) ?_ ?_
    ·
      refine KP.mk ?_
      refine ite_of (P := Keeps M s0) ?_ ?_
      ·
        refine (keeps_State_raiseGlobal (sub_trans rfl hM)) ?_
        exact h5
      ·
        exact h5
    ·
      refine KP.mk ?_
      refine (keeps_State_modConn (sub_trans rfl hM)) ?_
      refine (keeps_State_put (sub_trans rfl hM)) ?_
      exact h

theorem keeps_State_modSin {M : Nat} (hM : Nat.land 140737488355328 M = 140737488355328) {s0 : State} {s : State} {p1 : Nat} {p2 : SafeIn → SafeIn} (h : Keeps M s0 s) : Keeps M s0 (State.modSin s p1 p2) := by
  unfold State.modSin
  refine (keeps_State_modSafe (sub_trans rfl hM)) ?_
  exact h

theorem keeps_State_safeInput {M : Nat} (hM : Nat.land 140737488355329 M = 140737488355329) {s0 : State} {s : State} {p1 : Nat} {p2 : Bool} {p3 : Bool} (h : Keeps M s0 s) : Keeps M s0 (State.safeInput s p1 p2 p3) := by
  unfold State.safeInput
  refine ite_of (P := Keeps M s0) ?_ ?_
  ·
    exact h
  ·
    extract_lets -merge -useContext -underBinder v0 v1 v2
    have h3 : Keeps M s0 v0 := by
      unfold v0
      refine (keeps_State_modSin (sub_trans rfl hM)) ?_
      exact h
    try clear_value v0
    try clear_value v1
    try clear_value v2
    refine (keeps_State_sfRegs (sub_trans rfl hM)) ?_
    refine (keeps_State_modSin (sub_trans rfl hM)) ?_
    exact h3

theorem keeps_State_safetySupplyLoss {M : Nat} (hM : Nat.land 140737488361473 M = 140737488361473) {s0 : State} {s : State} (h : Keeps M s0 s) : Keeps M s0 (State.safetySupplyLoss s) := by
  unfold State.safetySupplyLoss
  refine ite_of (P := Keeps M s0) ?_ ?_
  ·
    exact h
  ·
    extract_lets -merge -useContext -underBinder v0 v1 v2
    have h3 : Keeps M s0 v0 := by
      unfold v0
      refine (keeps_State_modCh (sub_trans rfl hM)) ?_
      exact h
    try clear_value v0
    have h4 : Keeps M s0 v1 := by
      unfold v1
      refine (keeps_State_setf (sub_trans rfl hM)) ?_
      refine (keeps_State_event (sub_trans rfl hM)) ?_
      exact h3
    try clear_value v1
    have h5 : Keeps M s0 v2 := by
      unfold v2
      refine Keeps.forEach ?_ ?_
      ·
        exact h4
      · intro t6 x7 h8
        beta_reduce
        refine Keeps.forEach ?_ ?_
        ·
          exact h8
        · intro t9 x10 h11
          beta_reduce
          refine (keeps_State_modChAx (sub_trans rfl hM)) ?_
          exact h11
    try clear_value v2
    refine (keeps_State_sfRegs (sub_trans rfl hM)) ?_
    refine Keeps.forEach ?_ ?_
    ·
      refine (keeps_State_driveAll (sub_trans rfl hM)) ?_
      exact h5
    · intro t12 x13 h14
      beta_reduce
      refine (keeps_State_sfAx (sub_trans rfl hM)) ?_
      exact h14

theorem keeps_State_resetLongHigh {M : Nat} (hM : Nat.land 140737488355329 M = 140737488355329) {s0 : State} {s : State} (h : Keeps M s0 s) : Keeps M s0 (State.resetLongHigh s) := by
  unfold State.resetLongHigh
  refine (keeps_State_modSafe (sub_trans rfl hM)) ?_
  refine (keeps_State_setf (sub_trans rfl hM)) ?_
  exact h

theorem keeps_State_sbcDelayEnd {M : Nat} (hM : Nat.land 140737488363521 M = 140737488363521) {s0 : State} {s : State} {p1 : Nat} (h : Keeps M s0 s) : Keeps M s0 (State.sbcDelayEnd s p1) := by
  unfold State.sbcDelayEnd
  extract_lets -merge -useContext -underBinder v0
  try clear_value v0
  split
  ·
    exact h
  ·
    extract_lets -merge -useContext -underBinder v1
    have h2 : Keeps M s0 v1 := by
      unfold v1
      refine (keeps_State_advanceTo (sub_trans rfl hM)) ?_
      exact h
    try clear_value v1
    refine (keeps_State_sfRegs (sub_trans rfl hM)) ?_
    refine foldl_of (P := Keeps M s0) ?_ ?_
    ·
      exact h2
    · intro t3 x4 h5
      beta_reduce
      extract_lets -merge -useContext -underBinder v6 v7
      try clear_value v6
      have h8 : Keeps M s0 v7 := by
        unfold v7
        refine (keeps_State_modCh (sub_trans rfl hM)) ?_
        exact h5
      try clear_value v7
      refine foldl_of (P := Keeps M s0) ?_ ?_
      ·
        exact h8
      · intro t9 x10 h11
        beta_reduce
        refine ite_of (P := Keeps M s0) ?_ ?_
        ·
          split
          ·
            refine (keeps_State_setOut (sub_trans rfl hM)) ?_
            exact h11
          ·
            exact h11
        ·
          refine (keeps_State_setLine (sub_trans rfl hM)) ?_
          exact h11

theorem keeps_State_activateSet {M : Nat} (hM : Nat.land 140737488355329 M = 140737488355329) {s0 : State} {s : State} {p1 : Nat} (h : Keeps M s0 s) : Keeps M s0 (State.activateSet s p1) := by
  unfold State.activateSet
  extract_lets -merge -useContext -underBinder v0 v1 v2 v3
  try clear_value v0
  have h4 : Keeps M s0 v1 := by
    unfold v1
    refine (keeps_State_modSafe (sub_trans rfl hM)) ?_
    exact h
  try clear_value v1
  have h5 : Keeps M s0 v2 := by
    unfold v2
    refine Keeps.forEach ?_ ?_
    ·
      exact h4
    · intro t6 x7 h8
      beta_reduce
      refine Keeps.forEach ?_ ?_
      ·
        exact h8
      · intro t9 x10 h11
        beta_reduce
        refine (keeps_State_modChAx (sub_trans rfl hM)) ?_
        exact h11
  try clear_value v2
  have h12 : Keeps M s0 v3 := by
    unfold v3
    refine (keeps_State_wrN (sub_trans rfl hM)) ?_
    refine (keeps_State_put (sub_trans rfl hM)) ?_
    refine (keeps_State_put (sub_trans rfl hM)) ?_
    exact h5
  try clear_value v3
  refine Keeps.forEach ?_ ?_
  ·
    exact h12
  · intro t13 x14 h15
    beta_reduce
    extract_lets -merge -useContext -underBinder v16 v17
    try clear_value v16
    have h18 : Keeps M s0 v17 := by
      unfold v17
      refine (keeps_State_wrN (sub_trans rfl hM)) ?_
      exact h15
    try clear_value v17
    refine (keeps_State_wrN (sub_trans rfl hM)) ?_
    refine (keeps_State_wrN (sub_trans rfl hM)) ?_
    refine (keeps_State_wrN (sub_trans rfl hM)) ?_
    exact h18

theorem keeps_State_resetEdge {M : Nat} (hM : Nat.land 140737488361473 M = 140737488361473) {s0 : State} {s : State} (h : Keeps M s0 s) : Keeps M s0 (State.resetEdge s) := by
  unfold State.resetEdge
  extract_lets -merge -useContext -underBinder v0 v1 v2 v3 v4 v5 v6 v7 v8 v9 v10 v11 v12 v13 v14 v15 v16 v17 v18
  have h19 : Keeps M s0 v0 := by
    unfold v0
    refine (keeps_State_event (sub_trans rfl hM)) ?_
    refine (keeps_State_clrf (sub_trans rfl hM)) ?_
    refine (keeps_State_clrf (sub_trans rfl hM)) ?_
    refine (keeps_State_count (sub_trans rfl hM)) ?_
    exact h
  try clear_value v0
  try clear_value v1
  try clear_value v2
  try clear_value v3
  have h20 : Keeps M s0 v4 := by
    unfold v4
    refine ite_of (P := Keeps M s0) ?_ ?_
    ·
      refine (keeps_State_modSafe (sub_trans rfl hM)) ?_
      exact h19
    ·
      exact h19
  try clear_value v4
  try clear_value v5
  have h21 : Keeps M s0 v6 := by
    unfold v6
    refine Keeps.forEach ?_ ?_
    ·
      exact h20
    · intro t22 x23 h24
      beta_reduce
      refine Keeps.forEach ?_ ?_
      ·
        exact h24
      · intro t25 x26 h27
        beta_reduce
        refine (keeps_State_modChAx (sub_trans rfl hM)) ?_
        exact h27
  try clear_value v6
  have h28 : Keeps M s0 v7 := by
    unfold v7
    refine (keeps_State_modSafe (sub_trans rfl hM)) ?_
    exact h21
  try clear_value v7
  have h29 : Keeps M s0 v8 := by
    unfold v8
    refine Keeps.forEach ?_ ?_
    ·
      exact h28
    · intro t30 x31 h32
      beta_reduce
      refine (keeps_State_putB (sub_trans rfl hM)) ?_
      exact h32
  try clear_value v8
  try clear_value v9
  have h33 : Keeps M s0 v10 := by
    unfold v10
    refine ite_of (P := Keeps M s0) ?_ ?_
    ·
      refine (keeps_State_clrf (sub_trans rfl hM)) ?_
      exact h29
    ·
      exact h29
  try clear_value v10
  have h34 : Keeps M s0 v11 := by
    unfold v11
    refine ite_of (P := Keeps M s0) ?_ ?_
    ·
      refine (keeps_State_clrf (sub_trans rfl hM)) ?_
      exact h33
    ·
      exact h33
  try clear_value v11
  have h35 : Keeps M s0 v12 := by
    unfold v12
    refine ite_of (P := Keeps M s0) ?_ ?_
    ·
      refine (keeps_State_clrf (sub_trans rfl hM)) ?_
      exact h34
    ·
      exact h34
  try clear_value v12
  try clear_value v13
  have h36 : Keeps M s0 v14 := by
    unfold v14
    refine (keeps_State_put (sub_trans rfl hM)) ?_
    refine (keeps_State_putB (sub_trans rfl hM)) ?_
    exact h35
  try clear_value v14
  have h37 : Keeps M s0 v15 := by
    unfold v15
    refine ite_of (P := Keeps M s0) ?_ ?_
    ·
      exact h36
    ·
      refine ite_of (P := Keeps M s0) ?_ ?_
      ·
        refine (keeps_State_clrf (sub_trans rfl hM)) ?_
        refine (keeps_State_activateSet (sub_trans rfl hM)) ?_
        exact h36
      ·
        refine (keeps_State_setf (sub_trans rfl hM)) ?_
        exact h36
  try clear_value v15
  have h38 : Keeps M s0 v16 := by
    unfold v16
    refine ite_of (P := Keeps M s0) ?_ ?_
    ·
      refine (keeps_State_event (sub_trans rfl hM)) ?_
      exact h37
    ·
      exact h37
  try clear_value v16
  try clear_value v17
  have h39 : Keeps M s0 v18 := by
    unfold v18
    refine ite_of (P := Keeps M s0) ?_ ?_
    ·
      refine Keeps.forEach ?_ ?_
      ·
        refine (keeps_State_modSafe (sub_trans rfl hM)) ?_
        refine (keeps_State_clrf (sub_trans rfl hM)) ?_
        exact h38
      · intro t40 x41 h42
        beta_reduce
        refine Keeps.forEach ?_ ?_
        ·
          exact h42
        · intro t43 x44 h45
          beta_reduce
          refine ite_of (P := Keeps M s0) ?_ ?_
          ·
            exact h45
          ·
            refine (keeps_State_modChAx (sub_trans rfl hM)) ?_
            exact h45
    ·
      exact h38
  try clear_value v18
  refine (keeps_State_sfRegs (sub_trans rfl hM)) ?_
  refine (keeps_State_slotRegs (sub_trans rfl hM)) ?_
  refine Keeps.forEach ?_ ?_
  ·
    exact h39
  · intro t46 x47 h48
    beta_reduce
    refine (keeps_State_sfAx (sub_trans rfl hM)) ?_
    exact h48

theorem keeps_State_safeResetEdge {M : Nat} (hM : Nat.land 140737488361473 M = 140737488361473) {s0 : State} {s : State} {p1 : Nat} {p2 : Nat} {p3 : Nat} (h : Keeps M s0 s) : Keeps M s0 (State.safeResetEdge s p1 p2 p3) := by
  unfold State.safeResetEdge
  refine ite_of (P := Keeps M s0) ?_ ?_
  ·
    refine (keeps_State_modSafe (sub_trans rfl hM)) ?_
    exact h
  ·
    extract_lets -merge -useContext -underBinder v0
    try clear_value v0
    refine ite_of (P := Keeps M s0) ?_ ?_
    ·
      refine ite_of (P := Keeps M s0) ?_ ?_
      ·
        refine (keeps_State_modSafe (sub_trans rfl hM)) ?_
        refine (keeps_State_event (sub_trans rfl hM)) ?_
        exact h
      ·
        exact h
    ·
      refine ite_of (P := Keeps M s0) ?_ ?_
      ·
        refine ite_of (P := Keeps M s0) ?_ ?_
        ·
          exact h
        ·
          refine (keeps_State_resetEdge (sub_trans rfl hM)) ?_
          exact h
      ·
        refine ite_of (P := Keeps M s0) ?_ ?_
        ·
          refine (keeps_State_setf (sub_trans rfl hM)) ?_
          exact h
        ·
          exact h

theorem keeps_State_setAtPowerUp {M : Nat} (hM : Nat.land 140737488361473 M = 140737488361473) {s0 : State} {s : State} (h : Keeps M s0 s) : Keeps M s0 (State.setAtPowerUp s) := by
  unfold State.setAtPowerUp
  extract_lets -merge -useContext -underBinder v0 v1
  try clear_value v0
  try clear_value v1
  refine ite_of (P := Keeps M s0) ?_ ?_
  ·
    refine (keeps_State_raiseGlobal (sub_trans rfl hM)) ?_
    exact h
  ·
    refine ite_of (P := Keeps M s0) ?_ ?_
    ·
      refine (keeps_State_activateSet (sub_trans rfl hM)) ?_
      exact h
    ·
      refine (keeps_State_setPending (sub_trans rfl hM)) ?_
      exact h

theorem keeps_State_brakeLock {M : Nat} (hM : Nat.land 8193 M = 8193) {s0 : State} {s : State} {p1 : Nat} (h : Keeps M s0 s) : Keeps M s0 (State.brakeLock s p1) := by
  unfold State.brakeLock
  split
  ·
    exact h
  ·
    refine ite_of (P := Keeps M s0) ?_ ?_
    ·
      refine (keeps_State_setf (sub_trans rfl hM)) ?_
      refine (keeps_State_advanceTo (sub_trans rfl hM)) ?_
      exact h
    ·
      exact h

theorem keeps_State_brakeTestEnd {M : Nat} (hM : Nat.land 140738025240577 M = 140738025240577) {s0 : State} {s : State} {p1 : Nat} {p2 : Int} (h : Keeps M s0 s) : Keeps M s0 (State.brakeTestEnd s p1 p2) := by
  unfold State.brakeTestEnd
  extract_lets -merge -useContext -underBinder v0 v1
  try clear_value v0
  try clear_value v1
  split
  ·
    extract_lets -merge -useContext -underBinder v2 v3 v4 v5
    have h6 : Keeps M s0 v2 := by
      unfold v2
      refine (keeps_State_advanceTo (sub_trans rfl hM)) ?_
      exact h
    try clear_value v2
    try clear_value v3
    have h7 : Keeps M s0 v4 := by
      unfold v4
      refine (keeps_State_modSafe (sub_trans rfl hM)) ?_
      exact h6
    try clear_value v4
    have h8 : Keeps M s0 v5 := by
      unfold v5
      refine Keeps.forEach ?_ ?_
      ·
        refine (keeps_State_setf (sub_trans rfl hM)) ?_
        exact h7
      · intro t9 x10 h11
        beta_reduce
        refine (keeps_State_modChAx (sub_trans rfl hM)) ?_
        exact h11
    try clear_value v5
    refine ite_of (P := Keeps M s0) ?_ ?_
    ·
      refine (keeps_State_sfRegs (sub_trans rfl hM)) ?_
      refine (keeps_State_sfAx (sub_trans rfl hM)) ?_
      refine (keeps_State_event (sub_trans rfl hM)) ?_
      refine (keeps_State_driveAxis (sub_trans rfl hM)) ?_
      refine (keeps_State_driveAxis (sub_trans rfl hM)) ?_
      exact h8
    ·
      refine ite_of (P := Keeps M s0) ?_ ?_
      ·
        refine (keeps_State_modSafe (sub_trans rfl hM)) ?_
        exact h6
      ·
        refine (keeps_State_modLoop (sub_trans rfl hM)) ?_
        refine (keeps_State_event (sub_trans rfl hM)) ?_
        refine (keeps_State_modSafe (sub_trans rfl hM)) ?_
        refine (keeps_State_clrf (sub_trans rfl hM)) ?_
        refine (keeps_State_clrf (sub_trans rfl hM)) ?_
        exact h7
  ·
    exact h

theorem keeps_State_switchConfirm {M : Nat} (hM : Nat.land 140737488361473 M = 140737488361473) {s0 : State} {s : State} (h : Keeps M s0 s) : Keeps M s0 (State.switchConfirm s) := by
  unfold State.switchConfirm
  split
  ·
    refine ite_of (P := Keeps M s0) ?_ ?_
    ·
      exact h
    ·
      extract_lets -merge -useContext -underBinder v0 v1 v2 v3 v4
      try clear_value v0
      try clear_value v1
      have h5 : Keeps M s0 v2 := by
        unfold v2
        refine (keeps_State_put (sub_trans rfl hM)) ?_
        refine (keeps_State_putB (sub_trans rfl hM)) ?_
        refine (keeps_State_put (sub_trans rfl hM)) ?_
        refine (keeps_State_put (sub_trans rfl hM)) ?_
        exact h
      try clear_value v2
      have h6 : Keeps M s0 v3 := by
        unfold v3
        refine (keeps_State_slotRegs (sub_trans rfl hM)) ?_
        refine ite_of (P := Keeps M s0) ?_ ?_
        ·
          refine (keeps_State_raiseGlobal (sub_trans rfl hM)) ?_
          exact h5
        ·
          exact h5
      try clear_value v3
      have h7 : Keeps M s0 v4 := by
        unfold v4
        refine (keeps_State_modSafe (sub_trans rfl hM)) ?_
        exact h6
      try clear_value v4
      refine ite_of (P := Keeps M s0) ?_ ?_
      ·
        refine (keeps_State_setAtPowerUp (sub_trans rfl hM)) ?_
        refine (keeps_State_modSafe (sub_trans rfl hM)) ?_
        exact h6
      ·
        refine ite_of (P := Keeps M s0) ?_ ?_
        ·
          exact h6
        ·
          refine ite_of (P := Keeps M s0) ?_ ?_
          ·
            refine (keeps_State_raiseGlobal (sub_trans rfl hM)) ?_
            exact h7
          ·
            refine ite_of (P := Keeps M s0) ?_ ?_
            ·
              refine (keeps_State_setPending (sub_trans rfl hM)) ?_
              exact h7
            ·
              exact h7
  ·
    exact h

theorem keeps_State_switchSample {M : Nat} (hM : Nat.land 140737488369665 M = 140737488369665) {s0 : State} {s : State} {p1 : Nat} {p2 : Nat} (h : Keeps M s0 s) : Keeps M s0 (State.switchSample s p1 p2) := by
  unfold State.switchSample
  refine ite_of (P := Keeps M s0) ?_ ?_
  ·
    exact h
  ·
    extract_lets -merge -useContext -underBinder v0 v1 v2 v3 v4 v5
    have h6 : Keeps M s0 v0 := by
      unfold v0
      refine (keeps_State_advanceTo (sub_trans rfl hM)) ?_
      exact h
    try clear_value v0
    try clear_value v1
    have h7 : Keeps M s0 v2 := by
      unfold v2
      refine (keeps_State_modCh (sub_trans rfl hM)) ?_
      refine (keeps_State_modCh (sub_trans rfl hM)) ?_
      exact h6
    try clear_value v2
    try clear_value v3
    have h8 : Keeps M s0 v4 := by
      unfold v4
      refine (keeps_State_modSafe (sub_trans rfl hM)) ?_
      exact h7
    try clear_value v4
    have h9 : Keeps M s0 v5 := by
      unfold v5
      split
      ·
        refine ite_of (P := Keeps M s0) ?_ ?_
        ·
          refine (keeps_State_raiseGlobal (sub_trans rfl hM)) ?_
          exact h8
        ·
          exact h8
      ·
        exact h8
    try clear_value v5
    refine ite_of (P := Keeps M s0) ?_ ?_
    ·
      exact h9
    ·
      refine (keeps_State_switchConfirm (sub_trans rfl hM)) ?_
      exact h9

theorem keeps_State_safeReceive {M : Nat} (hM : Nat.land 140737488361473 M = 140737488361473) {s0 : State} {s : State} {p1 : Nat} {p2 : List Byte} (h : Keeps M s0 s) : Keeps M s0 (State.safeReceive s p1 p2) := by
  unfold State.safeReceive
  extract_lets -merge -useContext -underBinder v0 v1 v2 v3 v4 v5 v6
  try clear_value v0
  try clear_value v1
  have h7 : Keeps M s0 v2 := by
    unfold v2
    refine ite_of (P := Keeps M s0) ?_ ?_
    ·
      refine (keeps_State_connExpire (sub_trans rfl hM)) ?_
      exact h
    ·
      exact h
  try clear_value v2
  try clear_value v3
  try clear_value v4
  try clear_value v5
  have h8 : Keeps M s0 v6 := by
    unfold v6
    refine (keeps_State_modConn (sub_trans rfl hM)) ?_
    refine (keeps_State_put (sub_trans rfl hM)) ?_
    exact h7
  try clear_value v6
  refine ite_of (P := Keeps M s0) ?_ ?_
  ·
    exact h
  ·
    refine ite_of (P := Keeps M s0) ?_ ?_
    ·
      refine ite_of (P := Keeps M s0) ?_ ?_
      ·
        refine (keeps_State_safeConnViol (sub_trans rfl hM)) ?_
        exact h8
      ·
        exact h8
    ·
      refine (keeps_State_count (sub_trans rfl hM)) ?_
      exact h7

theorem keeps_State_safeNight {M : Nat} (hM : Nat.land 140737488361473 M = 140737488361473) {s0 : State} {s : State} (h : Keeps M s0 s) : Keeps M s0 (State.safeNight s) := by
  unfold State.safeNight
  extract_lets -merge -useContext -underBinder v0 v1
  have h2 : Keeps M s0 v0 := by
    unfold v0
    refine (keeps_State_modSafe (sub_trans rfl hM)) ?_
    exact h
  try clear_value v0
  have h3 : Keeps M s0 v1 := by
    unfold v1
    refine Keeps.forEach ?_ ?_
    ·
      refine (keeps_State_setf (sub_trans rfl hM)) ?_
      exact h2
    · intro t4 x5 h6
      beta_reduce
      refine Keeps.forEach ?_ ?_
      ·
        exact h6
      · intro t7 x8 h9
        beta_reduce
        refine (keeps_State_modChAx (sub_trans rfl hM)) ?_
        exact h9
  try clear_value v1
  refine ite_of (P := Keeps M s0) ?_ ?_
  ·
    refine (keeps_State_sfRegs (sub_trans rfl hM)) ?_
    refine Keeps.forEach ?_ ?_
    ·
      refine (keeps_State_driveAll (sub_trans rfl hM)) ?_
      refine (keeps_State_driveAll (sub_trans rfl hM)) ?_
      exact h3
    · intro t10 x11 h12
      beta_reduce
      refine (keeps_State_sfAx (sub_trans rfl hM)) ?_
      exact h12
  ·
    exact h2

theorem keeps_State_safeWdt {M : Nat} (hM : Nat.land 140737488369665 M = 140737488369665) {s0 : State} {s : State} {p1 : Nat} (h : Keeps M s0 s) : Keeps M s0 (State.safeWdt s p1) := by
  unfold State.safeWdt
  extract_lets -merge -useContext -underBinder v0
  try clear_value v0
  refine ite_of (P := Keeps M s0) ?_ ?_
  ·
    exact h
  ·
    refine (keeps_State_connExpire (sub_trans rfl hM)) ?_
    refine (keeps_State_advanceTo (sub_trans rfl hM)) ?_
    exact h

theorem keeps_State_safeDiscrepancy {M : Nat} (hM : Nat.land 140737488363521 M = 140737488363521) {s0 : State} {s : State} {p1 : Nat} (h : Keeps M s0 s) : Keeps M s0 (State.safeDiscrepancy s p1) := by
  unfold State.safeDiscrepancy
  split
  ·
    exact h
  ·
    refine ite_of (P := Keeps M s0) ?_ ?_
    ·
      exact h
    ·
      refine (keeps_State_sfRegs (sub_trans rfl hM)) ?_
      refine (keeps_State_modSin (sub_trans rfl hM)) ?_
      refine (keeps_State_advanceTo (sub_trans rfl hM)) ?_
      exact h

theorem keeps_State_offPulse {M : Nat} (hM : Nat.land 140737488369665 M = 140737488369665) {s0 : State} {s : State} {p1 : Nat} {p2 : Nat} {p3 : Bool} (h : Keeps M s0 s) : Keeps M s0 (State.offPulse s p1 p2 p3) := by
  unfold State.offPulse
  refine ite_of (P := Keeps M s0) ?_ ?_
  ·
    exact h
  ·
    extract_lets -merge -useContext -underBinder v0 v1 v2 v3 v4 v5
    try clear_value v0
    try clear_value v1
    try clear_value v2
    try clear_value v3
    have h6 : Keeps M s0 v4 := by
      unfold v4
      refine (keeps_State_modSafe (sub_trans rfl hM)) ?_
      refine ite_of (P := Keeps M s0) ?_ ?_
      ·
        refine (keeps_State_advanceTo (sub_trans rfl hM)) ?_
        exact h
      ·
        exact h
    try clear_value v4
    have h7 : Keeps M s0 v5 := by
      unfold v5
      refine (keeps_State_setOut (sub_trans rfl hM)) ?_
      refine (keeps_State_setOut (sub_trans rfl hM)) ?_
      exact h6
    try clear_value v5
    refine ite_of (P := Keeps M s0) ?_ ?_
    ·
      exact h6
    ·
      refine (keeps_State_raiseGlobal (sub_trans rfl hM)) ?_
      refine (keeps_State_put (sub_trans rfl hM)) ?_
      exact h7

theorem keeps_State_channelStart {M : Nat} (hM : Nat.land 140737488357377 M = 140737488357377) {s0 : State} {s : State} {p1 : Nat} {p2 : Bool} (h : Keeps M s0 s) : Keeps M s0 (State.channelStart s p1 p2) := by
  unfold State.channelStart
  refine ite_of (P := Keeps M s0) ?_ ?_
  ·
    exact h
  ·
    extract_lets -merge -useContext -underBinder v0
    have h1 : Keeps M s0 v0 := by
      unfold v0
      refine (keeps_State_modCh (sub_trans rfl hM)) ?_
      exact h
    try clear_value v0
    refine (keeps_State_slotRegs (sub_trans rfl hM)) ?_
    refine (keeps_State_sfRegs (sub_trans rfl hM)) ?_
    refine ite_of (P := Keeps M s0) ?_ ?_
    ·
      exact h1
    ·
      refine (keeps_State_event (sub_trans rfl hM)) ?_
      exact h1

theorem keeps_State_safeGroup {M : Nat} (hM : Nat.land 4097 M = 4097) {s0 : State} {s t : State} (h : Keeps M s0 t) : Keeps M s0 (s.safeGroup t) :=
  ite_of (P := Keeps M s0) ((keeps_State_group (sub_trans rfl hM)) h) h -- mod SafeCh

end Sys2Proof.Machine
end

