-- ==== Sys2Proof/Laws/KeepRamaux.lean ====
section
/-! SUPPORT. The operations of Machine/Ramaux.lean keep what `Keeps` says. -/

namespace Sys2Proof.Machine

theorem keeps_State_modRm {M : Nat} (hM : Nat.land 281474976710656 M = 281474976710656) {s0 : State} {s : State} {p1 : RmSt → RmSt} (h : Keeps M s0 s) : Keeps M s0 (State.modRm s p1) := by
  unfold State.modRm
  refine Keeps.up_rm (sub_trans rfl hM) ?_
  exact h

theorem keeps_State_rmBoundary {M : Nat} (hM : Nat.land 282579289774081 M = 282579289774081) {s0 : State} {s : State} (h : Keeps M s0 s) : Keeps M s0 (State.rmBoundary s) := by
  unfold State.rmBoundary
  extract_lets -merge -useContext -underBinder v0 v1 v2 v3 v4 v5 v6 v7 v8 v9 v10
  try clear_value v0
  try clear_value v1
  try clear_value v2
  have h11 : Keeps M s0 v3 := by
    unfold v3
    refine ite_of (P := Keeps M s0) ?_ ?_
    ·
      exact h
    ·
      refine Keeps.forEach ?_ ?_
      ·
        exact h
      · intro t12 x13 h14
        beta_reduce
        refine (keeps_State_count (sub_trans rfl hM)) ?_
        exact h14
  try clear_value v3
  try clear_value v4
  try clear_value v5
  try clear_value v6
  have h15 : Keeps M s0 v7 := by
    unfold v7
    refine (keeps_State_modRm (sub_trans rfl hM)) ?_
    exact h11
  try clear_value v7
  try clear_value v8
  have h16 : Keeps M s0 v9 := by
    unfold v9
    refine (keeps_State_modRm (sub_trans rfl hM)) ?_
    refine Keeps.forEach ?_ ?_
    ·
      exact h15
    · intro t17 x18 h19
      beta_reduce
      refine (keeps_State_rmCount (sub_trans rfl hM)) ?_
      exact h19
  try clear_value v9
  have h20 : Keeps M s0 v10 := by
    unfold v10
    refine Keeps.forEach ?_ ?_
    ·
      exact h16
    · intro t21 x22 h23
      beta_reduce
      refine ite_of (P := Keeps M s0) ?_ ?_
      ·
        refine (keeps_State_put (sub_trans rfl hM)) ?_
        exact h23
      ·
        exact h23
  try clear_value v10
  refine Keeps.forEach ?_ ?_
  ·
    exact h20
  · intro t24 x25 h26
    beta_reduce
    extract_lets -merge -useContext -underBinder v27
    have h28 : Keeps M s0 v27 := by
      unfold v27
      refine (keeps_State_modNet (sub_trans rfl hM)) ?_
      exact h26
    try clear_value v27
    refine ite_of (P := Keeps M s0) ?_ ?_
    ·
      refine (keeps_State_enqueue (sub_trans rfl hM)) ?_
      exact h28
    ·
      exact h28

theorem keeps_State_bellToP0 {M : Nat} (hM : Nat.land 281474976714753 M = 281474976714753) {s0 : State} {s : State} {p1 : Bell} (h : Keeps M s0 s) : Keeps M s0 (State.bellToP0 s p1) := by
  unfold State.bellToP0
  extract_lets -merge -useContext -underBinder v0 v1
  try clear_value v0
  have h2 : Keeps M s0 v1 := by
    unfold v1
    refine ite_of (P := Keeps M s0) ?_ ?_
    ·
      refine (keeps_State_rmCount (sub_trans rfl hM)) ?_
      exact h
    ·
      exact h
  try clear_value v1
  refine (keeps_State_modRm (sub_trans rfl hM)) ?_
  exact h2

theorem keeps_State_bellIn {M : Nat} (hM : Nat.land 351843720892417 M = 351843720892417) {s0 : State} {s : State} {p1 : Nat} {p2 : Bell} (h : Keeps M s0 s) : Keeps M s0 (State.bellIn s p1 p2) := by
  unfold State.bellIn
  extract_lets -merge -useContext -underBinder v0 v1 v2
  try clear_value v0
  try clear_value v1
  have h3 : ∀ x4, Keeps M s0 x4 → Keeps M s0 (v2 x4) := by
    intro x4 h5
    unfold v2
    beta_reduce
    extract_lets -merge -useContext -underBinder v6 v7 v8 v9
    try clear_value v6
    try clear_value v7
    try clear_value v8
    try clear_value v9
    refine ite_of (P := Keeps M s0) ?_ ?_
    ·
      exact h5
    ·
      refine Keeps.forEach ?_ ?_
      ·
        exact h5
      · intro t10 x11 h12
        beta_reduce
        refine (keeps_State_egress (sub_trans rfl hM)) ?_
        exact h12
  try clear_value v2
  refine ite_of (P := Keeps M s0) ?_ ?_
  ·
    refine (keeps_State_rmCount (sub_trans rfl hM)) ?_
    exact h
  ·
    split
    ·
      extract_lets -merge -useContext -underBinder v13
      have h14 : Keeps M s0 v13 := by
        unfold v13
        refine (keeps_State_rmCount (sub_trans rfl hM)) ?_
        refine (keeps_State_count (sub_trans rfl hM)) ?_
        exact h
      try clear_value v13
      split
      ·
        refine ite_of (P := Keeps M s0) ?_ ?_
        ·
          refine h3 _ ?_
          refine (keeps_State_modRm (sub_trans rfl hM)) ?_
          refine (keeps_State_unqueue (sub_trans rfl hM)) ?_
          exact h14
        ·
          exact h14
    ·
      extract_lets -merge -useContext -underBinder v15
      have h16 : Keeps M s0 v15 := by
        unfold v15
        split
        ·
          refine (keeps_State_modRm (sub_trans rfl hM)) ?_
          refine (keeps_State_wrN (sub_trans rfl hM)) ?_
          refine (keeps_State_wrN (sub_trans rfl hM)) ?_
          refine (keeps_State_wrN (sub_trans rfl hM)) ?_
          exact h
        ·
          refine (keeps_State_rmCount (sub_trans rfl hM)) ?_
          exact h
      try clear_value v15
      refine h3 _ ?_
      refine ite_of (P := Keeps M s0) ?_ ?_
      ·
        exact h16
      ·
        refine (keeps_State_bellToP0 (sub_trans rfl hM)) ?_
        exact h16

theorem keeps_State_bellNotice {M : Nat} (hM : Nat.land 351843720892417 M = 351843720892417) {s0 : State} {s : State} (h : Keeps M s0 s) : Keeps M s0 (State.bellNotice s) := by
  unfold State.bellNotice
  split
  ·
    exact h
  ·
    refine ite_of (P := Keeps M s0) ?_ ?_
    ·
      exact h
    ·
      extract_lets -merge -useContext -underBinder v0
      have h1 : Keeps M s0 v0 := by
        unfold v0
        refine (keeps_State_modRm (sub_trans rfl hM)) ?_
        exact h
      try clear_value v0
      refine (keeps_State_bellIn (sub_trans rfl hM)) ?_
      refine (keeps_State_rmCount (sub_trans rfl hM)) ?_
      exact h1

theorem keeps_State_netArrive {M : Nat} (hM : Nat.land 1104313063425 M = 1104313063425) {s0 : State} {s : State} {p1 : Nat} {p2 : List Byte} (h : Keeps M s0 s) : Keeps M s0 (State.netArrive s p1 p2) := by
  unfold State.netArrive
  extract_lets -merge -useContext -underBinder v0 v1 v2
  try clear_value v0
  try clear_value v1
  have h3 : Keeps M s0 v2 := by
    unfold v2
    refine (keeps_State_modNet (sub_trans rfl hM)) ?_
    exact h
  try clear_value v2
  refine ite_of (P := Keeps M s0) ?_ ?_
  ·
    refine (keeps_State_enqueue (sub_trans rfl hM)) ?_
    exact h3
  ·
    exact h3

theorem keeps_State_sramPut {M : Nat} (hM : Nat.land 128 M = 128) {s0 : State} {s : State} {p1 : Nat} {p2 : List Byte} (h : Keeps M s0 s) : Keeps M s0 (State.sramPut s p1 p2) := by
  unfold State.sramPut
  refine Keeps.up_mem_sram (sub_trans rfl hM) ?_ (Memory.wf_sram wmWrite_wf)
  exact h

theorem keeps_State_deliver {M : Nat} (hM : Nat.land 423316786518145 M = 423316786518145) {s0 : State} {s : State} {p1 : Nat} {p2 : Nat} {p3 : List Byte} (h : Keeps M s0 s) : Keeps M s0 (State.deliver s p1 p2 p3) := by
  unfold State.deliver
  extract_lets -merge -useContext -underBinder v0 v1 v2 v3 v4 v5
  try clear_value v0
  try clear_value v1
  try clear_value v2
  try clear_value v3
  try clear_value v4
  have h6 : Keeps M s0 v5 := by
    unfold v5
    refine (keeps_State_modRm (sub_trans rfl hM)) ?_
    refine (keeps_State_wrN (sub_trans rfl hM)) ?_
    exact h
  try clear_value v5
  split
  ·
    refine (keeps_State_netArrive (sub_trans rfl hM)) ?_
    refine (keeps_State_sramPut (sub_trans rfl hM)) ?_
    exact h6
  ·
    extract_lets -merge -useContext -underBinder v7
    try clear_value v7
    refine (keeps_State_shaftAccept (sub_trans rfl hM)) ?_
    refine (keeps_State_sramPut (sub_trans rfl hM)) ?_
    exact h6
  ·
    refine (keeps_State_safeReceive (sub_trans rfl hM)) ?_
    refine (keeps_State_sramPut (sub_trans rfl hM)) ?_
    exact h6
  ·
    extract_lets -merge -useContext -underBinder v8 v9 v10 v11
    try clear_value v8
    try clear_value v9
    have h12 : Keeps M s0 v10 := by
      unfold v10
      refine (keeps_State_sramPut (sub_trans rfl hM)) ?_
      exact h6
    try clear_value v10
    refine (keeps_State_modRm (sub_trans rfl hM)) ?_
    refine Keeps.up_mem_sram (sub_trans rfl hM) ?_ (Memory.wf_sram wmSet_wf)
    exact h12
  ·
    exact h6

theorem keeps_State_notice {M : Nat} (hM : Nat.land 281474976710656 M = 281474976710656) {s0 : State} {s : State} {p1 : Nat} (h : Keeps M s0 s) : Keeps M s0 (State.notice s p1) := by
  unfold State.notice
  refine (keeps_State_modRm (sub_trans rfl hM)) ?_
  exact h

theorem keeps_State_netSlot {M : Nat} (hM : Nat.land 1100554967041 M = 1100554967041) {s0 : State} {s : State} {p1 : Nat} (h : Keeps M s0 s) : KP M s0 (State.netSlot s p1) := by
  unfold State.netSlot
  extract_lets -merge -useContext -underBinder v0 v1 v2 v3 v4 v5
  try clear_value v0
  try clear_value v1
  have h6 : Keeps M s0 v2 := by
    unfold v2
    refine (keeps_State_modNet (sub_trans rfl hM)) ?_
    refine (keeps_State_lateRun (sub_trans rfl hM)) ?_
    exact h
  try clear_value v2
  have h7 : Keeps M s0 v3 := by
    unfold v3
    refine (keeps_State_modNet (sub_trans rfl hM)) ?_
    exact h6
  try clear_value v3
  have h8 : Keeps M s0 v4 := by
    unfold v4
    refine ite_of (P := Keeps M s0) ?_ ?_
    ·
      exact h7
    ·
      refine (keeps_State_posFallback (sub_trans rfl hM)) ?_
      exact h7
  try clear_value v4
  have h9 : Keeps M s0 v5 := by
    unfold v5
    refine ite_of (P := Keeps M s0) ?_ ?_
    ·
      exact h8
    ·
      refine (keeps_State_velFallback (sub_trans rfl hM)) ?_
      exact h8
  try clear_value v5
  refine ite_of (P := KP M s0) ?_ ?_
  ·
    refine KP.mk ?_
    exact h
  ·
    refine ite_of (P := KP M s0) ?_ ?_
    ·
      refine KP.mk ?_
      refine (keeps_State_torqueOffStep (sub_trans rfl hM)) ?_
      exact h
    ·
      refine ite_of (P := KP M s0) ?_ ?_
      ·
        refine KP.mk ?_
        refine (keeps_State_onTime (sub_trans rfl hM)) ?_
        exact h
      ·
        refine ite_of (P := KP M s0) ?_ ?_
        ·
          refine KP.mk ?_
          refine ite_of (P := Keeps M s0) ?_ ?_
          ·
            refine (keeps_State_torqueOffStep (sub_trans rfl hM)) ?_
            exact h9
          ·
            exact h9
        ·
          refine KP.mk ?_
          exact h6

theorem keeps_State_blocks {M : Nat} (hM : Nat.land 423316786518145 M = 423316786518145) {s0 : State} {node cycle k : Nat} : ∀ {s : State} {b : List Byte}, Keeps M s0 s →
    Keeps M s0 (State.blocks node cycle k b s) := by
  induction k with
  | zero => intro s b h; exact h
  | succ k ih =>
    intro s b h
    unfold State.blocks
    extract_lets -merge -useContext -underBinder v1 v2 v3 v4
    refine ite_of (P := Keeps M s0) ((keeps_State_rmCount (sub_trans rfl hM)) h) ?_
    refine ite_of (P := Keeps M s0) (ih ((keeps_State_rmCount (sub_trans rfl hM)) h)) ?_
    split
    · exact ih ((keeps_State_rmCount (sub_trans rfl hM)) h)
    · refine ite_of (P := Keeps M s0) (ih ((keeps_State_count (sub_trans rfl hM)) ((keeps_State_rmCount (sub_trans rfl hM)) h))) ?_
      refine ite_of (P := Keeps M s0) ?_ (ih ((keeps_State_deliver (sub_trans rfl hM)) h))
      exact ite_of (P := Keeps M s0) (ih h) (ih ((keeps_State_count (sub_trans rfl hM)) ((keeps_State_rmCount (sub_trans rfl hM)) h)))

theorem keeps_State_bellAgeout {M : Nat} (hM : Nat.land 1 M = 1) {s0 : State} {s : State} {p1 : Nat} (h : Keeps M s0 s) : Keeps M s0 (State.bellAgeout s p1) := by
  unfold State.bellAgeout
  refine ite_of (P := Keeps M s0) ?_ ?_
  ·
    refine (keeps_State_wrN (sub_trans rfl hM)) ?_
    refine (keeps_State_wrN (sub_trans rfl hM)) ?_
    refine (keeps_State_wrN (sub_trans rfl hM)) ?_
    exact h
  ·
    exact h

theorem keeps_State_bellReport {M : Nat} (hM : Nat.land 351843720892417 M = 351843720892417) {s0 : State} {s : State} {p1 : Nat} (h : Keeps M s0 s) : Keeps M s0 (State.bellReport s p1) := by
  unfold State.bellReport
  split
  ·
    exact h
  ·
    extract_lets -merge -useContext -underBinder v0
    have h1 : ∀ x2, Keeps M s0 (v0 x2) := by
      intro x2 
      unfold v0
      beta_reduce
      refine (keeps_State_modRm (sub_trans rfl hM)) ?_
      exact h
    try clear_value v0
    refine ite_of (P := Keeps M s0) ?_ ?_
    ·
      exact h
    ·
      refine ite_of (P := Keeps M s0) ?_ ?_
      ·
        exact h1 _
      ·
        refine ite_of (P := Keeps M s0) ?_ ?_
        ·
          refine (keeps_State_rmCount (sub_trans rfl hM)) ?_
          exact h1 _
        ·
          refine (keeps_State_bellIn (sub_trans rfl hM)) ?_
          refine (keeps_State_rmCount (sub_trans rfl hM)) ?_
          exact h1 _

theorem keeps_State_epochChange {M : Nat} (hM : Nat.land 281475211593729 M = 281475211593729) {s0 : State} {s : State} (h : Keeps M s0 s) : Keeps M s0 (State.epochChange s) := by
  unfold State.epochChange
  split
  ·
    exact h
  ·
    refine ite_of (P := Keeps M s0) ?_ ?_
    ·
      exact h
    ·
      extract_lets -merge -useContext -underBinder v0 v1
      try clear_value v0
      have h2 : Keeps M s0 v1 := by
        unfold v1
        refine (keeps_State_putB (sub_trans rfl hM)) ?_
        refine (keeps_State_clrf (sub_trans rfl hM)) ?_
        refine (keeps_State_put (sub_trans rfl hM)) ?_
        exact h
      try clear_value v1
      refine (keeps_State_resolve (sub_trans rfl hM)) ?_
      refine (keeps_State_event (sub_trans rfl hM)) ?_
      refine (keeps_State_modRm (sub_trans rfl hM)) ?_
      exact h2

theorem keeps_State_entryWrite {M : Nat} (hM : Nat.land 1 M = 1) {s0 : State} {s : State} {p1 : Bool} {p2 : Nat} {p3 : Nat} {p4 : Nat} {p5 : Nat} {p6 : Nat} (h : Keeps M s0 s) : Keeps M s0 (State.entryWrite s p1 p2 p3 p4 p5 p6) := by
  unfold State.entryWrite
  extract_lets -merge -useContext -underBinder v0
  try clear_value v0
  refine ite_of (P := Keeps M s0) ?_ ?_
  ·
    exact h
  ·
    refine ite_of (P := Keeps M s0) ?_ ?_
    ·
      refine (keeps_State_wrN (sub_trans rfl hM)) ?_
      refine (keeps_State_wrN (sub_trans rfl hM)) ?_
      refine (keeps_State_wrN (sub_trans rfl hM)) ?_
      refine (keeps_State_wrN (sub_trans rfl hM)) ?_
      exact h
    ·
      refine (keeps_State_setf (sub_trans rfl hM)) ?_
      exact h

theorem keeps_State_cyclicIn {M : Nat} (hM : Nat.land 423316786518145 M = 423316786518145) {s0 : State} {s : State} {p1 : List Byte} (h : Keeps M s0 s) : Keeps M s0 (State.cyclicIn s p1) := by
  unfold State.cyclicIn
  refine ite_of (P := Keeps M s0) ?_ ?_
  ·
    exact h
  ·
    refine ite_of (P := Keeps M s0) ?_ ?_
    ·
      refine (keeps_State_rmCount (sub_trans rfl hM)) ?_
      exact h
    ·
      extract_lets -merge -useContext -underBinder v0
      try clear_value v0
      refine ite_of (P := Keeps M s0) ?_ ?_
      ·
        refine (keeps_State_rmCount (sub_trans rfl hM)) ?_
        exact h
      ·
        refine (keeps_State_blocks (sub_trans rfl hM)) ?_
        exact h

theorem keeps_State_pubEntry {M : Nat} (hM : Nat.land 141838051711105 M = 141838051711105) {s0 : State} {s : State} {p1 : Nat} (h : Keeps M s0 s) : KP M s0 (State.pubEntry s p1) := by
  unfold State.pubEntry
  extract_lets -merge -useContext -underBinder v0 v1 v2 v3 v4
  try clear_value v0
  try clear_value v1
  try clear_value v2
  try clear_value v3
  try clear_value v4
  split
  ·
    split
    ·
      rename_i t5 q7
      have h6 : Keeps M s0 t5 := by
        refine KP.out q7 ?_
        refine (keeps_State_netSlot (sub_trans rfl hM)) ?_
        exact h
      extract_lets -merge -useContext -underBinder v8 v9
      try clear_value v8
      have h10 : Keeps M s0 v9 := by
        unfold v9
        refine ite_of (P := Keeps M s0) ?_ ?_
        ·
          refine (keeps_State_rmCount (sub_trans rfl hM)) ?_
          exact h6
        ·
          exact h6
      try clear_value v9
      refine KP.mk ?_
      refine (keeps_State_sramPut (sub_trans rfl hM)) ?_
      exact h10
  ·
    refine ite_of (P := KP M s0) ?_ ?_
    ·
      extract_lets -merge -useContext -underBinder v11 v12 v13 v14
      have h15 : Keeps M s0 v11 := by
        unfold v11
        refine (keeps_State_shaftFill (sub_trans rfl hM)) ?_
        exact h
      try clear_value v11
      try clear_value v12
      try clear_value v13
      have h16 : Keeps M s0 v14 := by
        unfold v14
        refine (keeps_State_shaftAccept (sub_trans rfl hM)) ?_
        refine (keeps_State_sramPut (sub_trans rfl hM)) ?_
        exact h15
      try clear_value v14
      refine KP.mk ?_
      exact h16
    ·
      refine KP.mk ?_
      exact h
  ·
    split
    ·
      rename_i t17 q19
      have h18 : Keeps M s0 t17 := by
        refine KP.out q19 ?_
        refine (keeps_State_safeContainer (sub_trans rfl hM)) ?_
        exact h
      refine KP.mk ?_
      refine (keeps_State_sramPut (sub_trans rfl hM)) ?_
      exact h18
    ·
      rename_i t20 q22
      have h21 : Keeps M s0 t20 := by
        refine KP.out q22 ?_
        refine (keeps_State_safeContainer (sub_trans rfl hM)) ?_
        exact h
      refine KP.mk ?_
      exact h21
  ·
    refine KP.mk ?_
    exact h
  ·
    refine KP.mk ?_
    exact h

theorem keeps_State_bellRecord {M : Nat} (hM : Nat.land 281474976712704 M = 281474976712704) {s0 : State} {s : State} {p1 : Nat} (h : Keeps M s0 s) : Keeps M s0 (State.bellRecord s p1) := by
  unfold State.bellRecord
  extract_lets -merge -useContext -underBinder v0
  try clear_value v0
  split
  ·
    refine (keeps_State_event (sub_trans rfl hM)) ?_
    refine (keeps_State_modRm (sub_trans rfl hM)) ?_
    exact h
  ·
    split
    ·
      refine (keeps_State_event (sub_trans rfl hM)) ?_
      refine (keeps_State_modRm (sub_trans rfl hM)) ?_
      exact h
    ·
      exact h

theorem keeps_State_graceEnd {M : Nat} (hM : Nat.land 1 M = 1) {s0 : State} {s : State} (h : Keeps M s0 s) : Keeps M s0 (State.graceEnd s) := by
  unfold State.graceEnd
  refine ite_of (P := Keeps M s0) ?_ ?_
  ·
    refine (keeps_State_clrf (sub_trans rfl hM)) ?_
    exact h
  ·
    exact h

theorem keeps_State_switchFrame {M : Nat} (hM : Nat.land 351843720892417 M = 351843720892417) {s0 : State} {s : State} {p1 : Nat} {p2 : Nat} {p3 : EthFrame} (h : Keeps M s0 s) : Keeps M s0 (State.switchFrame s p1 p2 p3) := by
  unfold State.switchFrame
  split
  ·
    refine ite_of (P := Keeps M s0) ?_ ?_
    ·
      refine (keeps_State_switchIn (sub_trans rfl hM)) ?_
      exact h
    ·
      refine ite_of (P := Keeps M s0) ?_ ?_
      ·
        refine (keeps_State_rmCount (sub_trans rfl hM)) ?_
        exact h
      ·
        extract_lets -merge -useContext -underBinder v0
        try clear_value v0
        refine (keeps_State_bellIn (sub_trans rfl hM)) ?_
        exact h
  ·
    refine (keeps_State_switchIn (sub_trans rfl hM)) ?_
    exact h

theorem keeps_State_epochArm {M : Nat} (hM : Nat.land 281474976710657 M = 281474976710657) {s0 : State} {s : State} {p1 : Nat} {p2 : Nat} (h : Keeps M s0 s) : KP M s0 (State.epochArm s p1 p2) := by
  unfold State.epochArm
  extract_lets -merge -useContext -underBinder v0
  try clear_value v0
  refine ite_of (P := KP M s0) ?_ ?_
  ·
    refine KP.mk ?_
    refine (keeps_State_setf (sub_trans rfl hM)) ?_
    exact h
  ·
    refine KP.mk ?_
    refine (keeps_State_modRm (sub_trans rfl hM)) ?_
    refine (keeps_State_setf (sub_trans rfl hM)) ?_
    exact h

theorem keeps_State_txSlot {M : Nat} (hM : Nat.land 212206795896961 M = 212206795896961) {s0 : State} {s : State} (h : Keeps M s0 s) : Keeps M s0 (State.txSlot s) := by
  unfold State.txSlot
  refine ite_of (P := Keeps M s0) ?_ ?_
  ·
    exact h
  ·
    extract_lets -merge -useContext -underBinder v0
    have h1 : Keeps M s0 v0 := by
      unfold v0
      refine (keeps_State_advanceTo (sub_trans rfl hM)) ?_
      exact h
    try clear_value v0
    split
    ·
      rename_i t2 q4
      have h3 : Keeps M s0 t2 := by
        refine KP.out q4 ?_
        refine foldl_of (P := KP M s0) ?_ ?_
        ·
          refine KP.mk ?_
          exact h1
        · intro t5 x6 h7
          beta_reduce
          split
          ·
            rename_i t8 q10
            have h9 : Keeps M s0 t8 := by
              refine KP.out q10 ?_
              refine (keeps_State_pubEntry (sub_trans rfl hM)) ?_
              refine KP.snd ?_
              exact h7
            refine KP.mk ?_
            exact h9
          ·
            rename_i t11 q13
            have h12 : Keeps M s0 t11 := by
              refine KP.out q13 ?_
              refine (keeps_State_pubEntry (sub_trans rfl hM)) ?_
              refine KP.snd ?_
              exact h7
            refine KP.mk ?_
            exact h12
      split
      ·
        extract_lets -merge -useContext -underBinder v14
        have h15 : Keeps M s0 v14 := by
          unfold v14
          refine ite_of (P := Keeps M s0) ?_ ?_
          ·
            exact h3
          ·
            refine (keeps_State_addCount (sub_trans rfl hM)) ?_
            refine (keeps_State_setf (sub_trans rfl hM)) ?_
            exact h3
        try clear_value v14
        refine foldl_of (P := Keeps M s0) ?_ ?_
        ·
          exact h15
        · intro t16 x17 h18
          beta_reduce
          extract_lets -merge -useContext -underBinder v19 v20 v21
          try clear_value v19
          try clear_value v20
          try clear_value v21
          refine (keeps_State_switchIn (sub_trans rfl hM)) ?_
          exact h18

theorem keeps_State_rmEnable {M : Nat} (hM : Nat.land 351843720888321 M = 351843720888321) {s0 : State} {s : State} {p1 : Nat} (h : Keeps M s0 s) : Keeps M s0 (State.rmEnable s p1) := by
  unfold State.rmEnable
  extract_lets -merge -useContext -underBinder v0 v1 v2 v3 v4 v5
  try clear_value v0
  try clear_value v1
  try clear_value v2
  have h6 : Keeps M s0 v3 := by
    unfold v3
    refine (keeps_State_wrN (sub_trans rfl hM)) ?_
    exact h
  try clear_value v3
  try clear_value v4
  have h7 : Keeps M s0 v5 := by
    unfold v5
    refine (keeps_State_wrN (sub_trans rfl hM)) ?_
    exact h
  try clear_value v5
  refine ite_of (P := Keeps M s0) ?_ ?_
  ·
    exact h
  ·
    refine ite_of (P := Keeps M s0) ?_ ?_
    ·
      refine ite_of (P := Keeps M s0) ?_ ?_
      ·
        refine Keeps.forEach ?_ ?_
        ·
          exact h6
        · intro t8 x9 h10
          beta_reduce
          extract_lets -merge -useContext -underBinder v11 v12
          have h13 : Keeps M s0 v11 := by
            unfold v11
            refine (keeps_State_wrN (sub_trans rfl hM)) ?_
            refine (keeps_State_wrN (sub_trans rfl hM)) ?_
            refine (keeps_State_wrN (sub_trans rfl hM)) ?_
            exact h10
          try clear_value v11
          have h14 : Keeps M s0 v12 := by
            unfold v12
            refine (keeps_State_put (sub_trans rfl hM)) ?_
            refine (keeps_State_put (sub_trans rfl hM)) ?_
            exact h13
          try clear_value v12
          refine (keeps_State_gclChg (sub_trans rfl hM)) ?_
          refine (keeps_State_wr64N (sub_trans rfl hM)) ?_
          refine (keeps_State_wr64N (sub_trans rfl hM)) ?_
          exact h14
      ·
        refine (keeps_State_setf (sub_trans rfl hM)) ?_
        exact h
    ·
      refine ite_of (P := Keeps M s0) ?_ ?_
      ·
        refine (keeps_State_modRm (sub_trans rfl hM)) ?_
        exact h7
      ·
        exact h7

end Sys2Proof.Machine
end

