-- ==== Sys2Proof/Laws/KeepCapture.lean ====
section
/-! SUPPORT. The operations of Machine/Capture.lean keep what `Keeps` says. -/

namespace Sys2Proof.Machine

theorem keeps_State_capEnd {M : Nat} (hM : Nat.land 234885121 M = 234885121) {s0 : State} {s : State} {p1 : Nat} {p2 : Bool} (h : Keeps M s0 s) : Keeps M s0 (State.capEnd s p1 p2) := by
  unfold State.capEnd
  extract_lets -merge -useContext -underBinder v0 v1 v2 v3 v4 v5 v6 v7 v8 v9
  try clear_value v0
  try clear_value v1
  try clear_value v2
  try clear_value v3
  try clear_value v4
  try clear_value v5
  try clear_value v6
  try clear_value v7
  have h10 : Keeps M s0 v8 := by
    unfold v8
    refine (keeps_State_wrN (sub_trans rfl hM)) ?_
    refine (keeps_State_wr64N (sub_trans rfl hM)) ?_
    refine (keeps_State_wr64N (sub_trans rfl hM)) ?_
    exact h
  try clear_value v8
  try clear_value v9
  refine (keeps_State_group (sub_trans rfl hM)) ?_
  refine (keeps_State_resolve (sub_trans rfl hM)) ?_
  refine (keeps_State_wrN (sub_trans rfl hM)) ?_
  refine (keeps_State_wrN (sub_trans rfl hM)) ?_
  refine (keeps_State_wrN (sub_trans rfl hM)) ?_
  exact h10

theorem keeps_State_modAcq {M : Nat} (hM : Nat.land 9007199254740992 M = 9007199254740992) {s0 : State} {s : State} {p1 : AcqSt → AcqSt} (h : Keeps M s0 s) : Keeps M s0 (State.modAcq s p1) := by
  unfold State.modAcq
  refine Keeps.up_acq (sub_trans rfl hM) ?_
  exact h

theorem keeps_State_modCu {M : Nat} (hM : Nat.land 9007199254740992 M = 9007199254740992) {s0 : State} {s : State} {p1 : Nat} {p2 : CapSt → CapSt} (h : Keeps M s0 s) : Keeps M s0 (State.modCu s p1 p2) := by
  unfold State.modCu
  refine (keeps_State_modAcq (sub_trans rfl hM)) ?_
  exact h

theorem keeps_State_capDone {M : Nat} (hM : Nat.land 9007199489626113 M = 9007199489626113) {s0 : State} {s : State} {p1 : Nat} (h : Keeps M s0 s) : Keeps M s0 (State.capDone s p1) := by
  unfold State.capDone
  split
  ·
    refine ite_of (P := Keeps M s0) ?_ ?_
    ·
      refine (keeps_State_modCu (sub_trans rfl hM)) ?_
      refine (keeps_State_put (sub_trans rfl hM)) ?_
      refine (keeps_State_capEnd (sub_trans rfl hM)) ?_
      exact h
    ·
      exact h
  ·
    exact h

theorem keeps_State_tcSample {M : Nat} (hM : Nat.land 9007199254740992 M = 9007199254740992) {s0 : State} {s : State} {p1 : Nat} {p2 : List Nat} (h : Keeps M s0 s) : KP3 M s0 (State.tcSample s p1 p2) := by
  unfold State.tcSample
  extract_lets -merge -useContext -underBinder v0 v1 v2 v3 v4 v5 v6 v7 v8
  try clear_value v0
  try clear_value v1
  try clear_value v2
  try clear_value v3
  try clear_value v4
  try clear_value v5
  try clear_value v6
  try clear_value v7
  have h9 : Keeps M s0 v8 := by
    unfold v8
    refine (keeps_State_modCu (sub_trans rfl hM)) ?_
    exact h
  try clear_value v8
  refine KP3.mk ?_
  exact h9

theorem keeps_State_trigger {M : Nat} (hM : Nat.land 9007199489626113 M = 9007199489626113) {s0 : State} {s : State} {p1 : Nat} {p2 : CapTrig} (h : Keeps M s0 s) : Keeps M s0 (State.trigger s p1 p2) := by
  unfold State.trigger
  extract_lets -merge -useContext -underBinder v0 v1 v2 v3 v4 v5 v6
  have h7 : Keeps M s0 v0 := by
    unfold v0
    refine (keeps_State_modCu (sub_trans rfl hM)) ?_
    refine (keeps_State_put (sub_trans rfl hM)) ?_
    exact h
  try clear_value v0
  have h8 : Keeps M s0 v1 := by
    unfold v1
    refine Keeps.up_waits (sub_trans rfl hM) ?_
    exact h7
  try clear_value v1
  try clear_value v2
  try clear_value v3
  try clear_value v4
  have h9 : Keeps M s0 v5 := by
    unfold v5
    refine (keeps_State_modAcq (sub_trans rfl hM)) ?_
    refine (keeps_State_modCu (sub_trans rfl hM)) ?_
    refine (keeps_State_count (sub_trans rfl hM)) ?_
    exact h8
  try clear_value v5
  have h10 : Keeps M s0 v6 := by
    unfold v6
    refine ite_of (P := Keeps M s0) ?_ ?_
    ·
      refine ite_of (P := Keeps M s0) ?_ ?_
      ·
        exact h9
      ·
        refine ite_of (P := Keeps M s0) ?_ ?_
        ·
          refine (keeps_State_modAcq (sub_trans rfl hM)) ?_
          exact h9
        ·
          refine (keeps_State_setf (sub_trans rfl hM)) ?_
          refine (keeps_State_count (sub_trans rfl hM)) ?_
          exact h9
    ·
      exact h8
  try clear_value v6
  refine (keeps_State_capDone (sub_trans rfl hM)) ?_
  exact h10

theorem keeps_State_remoteTrigger {M : Nat} (hM : Nat.land 9007199489626113 M = 9007199489626113) {s0 : State} {s : State} {p1 : Nat} {p2 : Nat} (h : Keeps M s0 s) : Keeps M s0 (State.remoteTrigger s p1 p2) := by
  unfold State.remoteTrigger
  extract_lets -merge -useContext -underBinder v0
  try clear_value v0
  split
  ·
    extract_lets -merge -useContext -underBinder v1 v2
    try clear_value v1
    try clear_value v2
    refine ite_of (P := Keeps M s0) ?_ ?_
    ·
      refine (keeps_State_trigger (sub_trans rfl hM)) ?_
      exact h
    ·
      refine (keeps_State_trigger (sub_trans rfl hM)) ?_
      exact h

theorem keeps_State_fireAt {M : Nat} (hM : Nat.land 9007199489626113 M = 9007199489626113) {s0 : State} {s : State} {p1 : Nat} {p2 : Nat} {p3 : Nat} (h : Keeps M s0 s) : Keeps M s0 (State.fireAt s p1 p2 p3) := by
  unfold State.fireAt
  extract_lets -merge -useContext -underBinder v0 v1 v2
  try clear_value v0
  try clear_value v1
  have h3 : Keeps M s0 v2 := by
    unfold v2
    refine (keeps_State_count (sub_trans rfl hM)) ?_
    exact h
  try clear_value v2
  refine ite_of (P := Keeps M s0) ?_ ?_
  ·
    exact h
  ·
    refine ite_of (P := Keeps M s0) ?_ ?_
    ·
      refine (keeps_State_modCu (sub_trans rfl hM)) ?_
      refine (keeps_State_count (sub_trans rfl hM)) ?_
      exact h
    ·
      refine ite_of (P := Keeps M s0) ?_ ?_
      ·
        refine (keeps_State_count (sub_trans rfl hM)) ?_
        exact h
      ·
        split
        ·
          refine ite_of (P := Keeps M s0) ?_ ?_
          ·
            refine (keeps_State_modCu (sub_trans rfl hM)) ?_
            exact h3
          ·
            refine (keeps_State_remoteTrigger (sub_trans rfl hM)) ?_
            exact h3
        ·
          refine (keeps_State_modCu (sub_trans rfl hM)) ?_
          exact h3

theorem keeps_State_fireReceive {M : Nat} (hM : Nat.land 9007199489626113 M = 9007199489626113) {s0 : State} {s : State} {p1 : FireVia} (h : Keeps M s0 s) : Keeps M s0 (State.fireReceive s p1) := by
  unfold State.fireReceive
  split
  ·
    split
    ·
      refine Keeps.forEach ?_ ?_
      ·
        refine (keeps_State_modAcq (sub_trans rfl hM)) ?_
        exact h
      · intro t0 x1 h2
        beta_reduce
        refine (keeps_State_fireAt (sub_trans rfl hM)) ?_
        exact h2
    ·
      exact h
  ·
    refine Keeps.forEach ?_ ?_
    ·
      exact h
    · intro t3 x4 h5
      beta_reduce
      refine (keeps_State_fireAt (sub_trans rfl hM)) ?_
      exact h5
  ·
    extract_lets -merge -useContext -underBinder v6 v7 v8
    try clear_value v6
    try clear_value v7
    try clear_value v8
    refine ite_of (P := Keeps M s0) ?_ ?_
    ·
      exact h
    ·
      refine ite_of (P := Keeps M s0) ?_ ?_
      ·
        exact h
      ·
        refine Keeps.forEach ?_ ?_
        ·
          refine (keeps_State_modAcq (sub_trans rfl hM)) ?_
          exact h
        · intro t9 x10 h11
          beta_reduce
          refine (keeps_State_fireAt (sub_trans rfl hM)) ?_
          exact h11

theorem keeps_State_armSegment {M : Nat} (hM : Nat.land 9007199254740993 M = 9007199254740993) {s0 : State} {s : State} {p1 : Nat} {p2 : Nat} (h : Keeps M s0 s) : Keeps M s0 (State.armSegment s p1 p2) := by
  unfold State.armSegment
  refine (keeps_State_modCu (sub_trans rfl hM)) ?_
  refine (keeps_State_put (sub_trans rfl hM)) ?_
  refine (keeps_State_put (sub_trans rfl hM)) ?_
  exact h

theorem keeps_State_writeRow {M : Nat} (hM : Nat.land 768 M = 768) {s0 : State} {s : State} {p1 : Nat} {p2 : Nat} {p3 : List Word} (h : Keeps M s0 s) : Keeps M s0 (State.writeRow s p1 p2 p3) := by
  unfold State.writeRow
  refine ite_of (P := Keeps M s0) ?_ ?_
  ·
    refine Keeps.up_mem_dram (sub_trans rfl hM) ?_ (Memory.wf_dram wmWrite_wf)
    exact h
  ·
    refine Keeps.up_mem_hay (sub_trans rfl hM) ?_ (Memory.wf_hay wmWrite_wf)
    exact h

theorem keeps_State_holdoffEnd {M : Nat} (hM : Nat.land 9007199254753281 M = 9007199254753281) {s0 : State} {s : State} {p1 : Nat} (h : Keeps M s0 s) : Keeps M s0 (State.holdoffEnd s p1) := by
  unfold State.holdoffEnd
  refine ite_of (P := Keeps M s0) ?_ ?_
  ·
    exact h
  ·
    extract_lets -merge -useContext -underBinder v0 v1 v2 v3
    try clear_value v0
    try clear_value v1
    try clear_value v2
    have h4 : ∀ x5, Keeps M s0 x5 → Keeps M s0 (v3 x5) := by
      intro x5 h6
      unfold v3
      beta_reduce
      extract_lets -merge -useContext -underBinder v7
      try clear_value v7
      refine ite_of (P := Keeps M s0) ?_ ?_
      ·
        refine (keeps_State_armSegment (sub_trans rfl hM)) ?_
        exact h6
      ·
        refine (keeps_State_group (sub_trans rfl hM)) ?_
        refine (keeps_State_modCu (sub_trans rfl hM)) ?_
        refine (keeps_State_put (sub_trans rfl hM)) ?_
        refine (keeps_State_setf (sub_trans rfl hM)) ?_
        exact h6
    try clear_value v3
    split
    ·
      refine h4 _ ?_
      refine (keeps_State_advanceTo (sub_trans rfl hM)) ?_
      exact h
    ·
      refine ite_of (P := Keeps M s0) ?_ ?_
      ·
        refine h4 _ ?_
        exact h
      ·
        exact h
    ·
      refine ite_of (P := Keeps M s0) ?_ ?_
      ·
        refine h4 _ ?_
        refine (keeps_State_advanceTo (sub_trans rfl hM)) ?_
        exact h
      ·
        exact h
    ·
      refine ite_of (P := Keeps M s0) ?_ ?_
      ·
        refine h4 _ ?_
        exact h
      ·
        refine h4 _ ?_
        refine (keeps_State_advanceTo (sub_trans rfl hM)) ?_
        exact h

theorem keeps_State_untrigger {M : Nat} (hM : Nat.land 9007199254740993 M = 9007199254740993) {s0 : State} {s : State} {p1 : Nat} (h : Keeps M s0 s) : Keeps M s0 (State.untrigger s p1) := by
  unfold State.untrigger
  extract_lets -merge -useContext -underBinder v0 v1 v2 v3
  try clear_value v0
  try clear_value v1
  try clear_value v2
  have h4 : Keeps M s0 v3 := by
    unfold v3
    refine (keeps_State_modCu (sub_trans rfl hM)) ?_
    refine (keeps_State_modAcq (sub_trans rfl hM)) ?_
    exact h
  try clear_value v3
  refine ite_of (P := Keeps M s0) ?_ ?_
  ·
    exact h
  ·
    refine (keeps_State_putB (sub_trans rfl hM)) ?_
    refine (keeps_State_wr (sub_trans rfl hM)) ?_
    exact h4

theorem keeps_State_cuDisarm {M : Nat} (hM : Nat.land 9007199489626113 M = 9007199489626113) {s0 : State} {s : State} {p1 : Nat} (h : Keeps M s0 s) : Keeps M s0 (State.cuDisarm s p1) := by
  unfold State.cuDisarm
  extract_lets -merge -useContext -underBinder v0 v1 v2
  have h3 : Keeps M s0 v0 := by
    unfold v0
    refine (keeps_State_untrigger (sub_trans rfl hM)) ?_
    exact h
  try clear_value v0
  try clear_value v1
  have h4 : Keeps M s0 v2 := by
    unfold v2
    refine ite_of (P := Keeps M s0) ?_ ?_
    ·
      refine (keeps_State_capEnd (sub_trans rfl hM)) ?_
      exact h3
    ·
      exact h3
  try clear_value v2
  refine (keeps_State_resolve (sub_trans rfl hM)) ?_
  refine (keeps_State_modCu (sub_trans rfl hM)) ?_
  refine (keeps_State_put (sub_trans rfl hM)) ?_
  exact h4

theorem keeps_State_cuArm {M : Nat} (hM : Nat.land 9007199254740993 M = 9007199254740993) {s0 : State} {s : State} {p1 : Nat} (h : Keeps M s0 s) : KP M s0 (State.cuArm s p1) := by
  unfold State.cuArm
  extract_lets -merge -useContext -underBinder v0 v1
  try clear_value v0
  have h2 : Keeps M s0 v1 := by
    unfold v1
    refine Keeps.forEach ?_ ?_
    ·
      exact h
    · intro t3 x4 h5
      beta_reduce
      refine (keeps_State_wrN (sub_trans rfl hM)) ?_
      exact h5
  try clear_value v1
  refine ite_of (P := KP M s0) ?_ ?_
  ·
    refine KP.mk ?_
    refine (keeps_State_put (sub_trans rfl hM)) ?_
    refine (keeps_State_setf (sub_trans rfl hM)) ?_
    exact h
  ·
    refine KP.mk ?_
    refine (keeps_State_armSegment (sub_trans rfl hM)) ?_
    refine (keeps_State_modCu (sub_trans rfl hM)) ?_
    exact h2

theorem keeps_State_capTick {M : Nat} (hM : Nat.land 9007199254740992 M = 9007199254740992) {s0 : State} {s : State} {p1 : Nat} {p2 : Nat} {p3 : Nat} (h : Keeps M s0 s) : Keeps M s0 (State.capTick s p1 p2 p3) := by
  unfold State.capTick
  refine Keeps.forEach ?_ ?_
  ·
    exact h
  · intro t0 x1 h2
    beta_reduce
    refine ite_of (P := Keeps M s0) ?_ ?_
    ·
      refine (keeps_State_modCu (sub_trans rfl hM)) ?_
      exact h2
    ·
      exact h2

theorem keeps_State_fireWrite {M : Nat} (hM : Nat.land 9007199254741120 M = 9007199254741120) {s0 : State} {s : State} (h : Keeps M s0 s) : Keeps M s0 (State.fireWrite s) := by
  unfold State.fireWrite
  split
  ·
    exact h
  ·
    extract_lets -merge -useContext -underBinder v0 v1 v2 v3 v4 v5
    try clear_value v0
    try clear_value v1
    try clear_value v2
    have h6 : Keeps M s0 v3 := by
      unfold v3
      refine (keeps_State_sramPut (sub_trans rfl hM)) ?_
      exact h
    try clear_value v3
    try clear_value v4
    refine ite_of (P := Keeps M s0) ?_ ?_
    ·
      exact h
    ·
      refine (keeps_State_modAcq (sub_trans rfl hM)) ?_
      refine Keeps.up_mem_sram (sub_trans rfl hM) ?_ (Memory.wf_sram wmSet_wf)
      exact h6

theorem keeps_State_capSample {M : Nat} (hM : Nat.land 9007199489635073 M = 9007199489635073) {s0 : State} {s : State} {p1 : Nat} {p2 : Bool × Bool} (h : Keeps M s0 s) : Keeps M s0 (State.capSample s p1 p2) := by
  unfold State.capSample
  split
  ·
    exact h
  ·
    extract_lets -merge -useContext -underBinder v0 v1 v2 v3 v4
    have h5 : Keeps M s0 v0 := by
      unfold v0
      refine (keeps_State_advanceTo (sub_trans rfl hM)) ?_
      exact h
    try clear_value v0
    have h6 : Keeps M s0 v1 := by
      unfold v1
      split
      ·
        refine ite_of (P := Keeps M s0) ?_ ?_
        ·
          refine (keeps_State_holdoffEnd (sub_trans rfl hM)) ?_
          exact h5
        ·
          exact h5
      ·
        exact h5
    try clear_value v1
    have h7 : Keeps M s0 v2 := by
      unfold v2
      refine (keeps_State_modCu (sub_trans rfl hM)) ?_
      exact h6
    try clear_value v2
    try clear_value v3
    try clear_value v4
    refine ite_of (P := Keeps M s0) ?_ ?_
    ·
      exact h6
    ·
      split
      ·
        rename_i t8 q10
        have h9 : Keeps M s0 t8 := by
          refine KP3.out q10 ?_
          refine (keeps_State_tcSample (sub_trans rfl hM)) ?_
          exact h7
        refine ite_of (P := Keeps M s0) ?_ ?_
        ·
          refine ite_of (P := Keeps M s0) ?_ ?_
          ·
            refine (keeps_State_modCu (sub_trans rfl hM)) ?_
            exact h9
          ·
            exact h9
        ·
          extract_lets -merge -useContext -underBinder v11 v12 v13 v14 v15
          try clear_value v11
          try clear_value v12
          try clear_value v13
          have h16 : Keeps M s0 v14 := by
            unfold v14
            refine (keeps_State_modCu (sub_trans rfl hM)) ?_
            refine (keeps_State_writeRow (sub_trans rfl hM)) ?_
            exact h9
          try clear_value v14
          try clear_value v15
          refine ite_of (P := Keeps M s0) ?_ ?_
          ·
            refine (keeps_State_capDone (sub_trans rfl hM)) ?_
            exact h16
          ·
            split
            ·
              refine ite_of (P := Keeps M s0) ?_ ?_
              ·
                refine ite_of (P := Keeps M s0) ?_ ?_
                ·
                  refine (keeps_State_trigger (sub_trans rfl hM)) ?_
                  exact h16
                ·
                  refine (keeps_State_remoteTrigger (sub_trans rfl hM)) ?_
                  exact h16
              ·
                refine ite_of (P := Keeps M s0) ?_ ?_
                ·
                  refine (keeps_State_trigger (sub_trans rfl hM)) ?_
                  exact h16
                ·
                  exact h16
            ·
              refine ite_of (P := Keeps M s0) ?_ ?_
              ·
                refine (keeps_State_trigger (sub_trans rfl hM)) ?_
                exact h16
              ·
                exact h16

theorem keeps_State_cuFire {M : Nat} (hM : Nat.land 9007199254740992 M = 9007199254740992) {s0 : State} {s : State} {p1 : Nat} (h : Keeps M s0 s) : Keeps M s0 (State.cuFire s p1) := by
  unfold State.cuFire
  refine ite_of (P := Keeps M s0) ?_ ?_
  ·
    refine (keeps_State_modCu (sub_trans rfl hM)) ?_
    exact h
  ·
    exact h

end Sys2Proof.Machine
end

