-- ==== Sys2Proof/Laws/KeepCompare.lean ====
section
/-! SUPPORT. The operations of Machine/Compare.lean keep what `Keeps` says. -/

namespace Sys2Proof.Machine

theorem keeps_State_coFire {M : Nat} (hM : Nat.land 262145 M = 262145) {s0 : State} {s : State} {p1 : Nat} {p2 : Nat} (h : Keeps M s0 s) : Keeps M s0 (State.coFire s p1 p2) := by
  unfold State.coFire
  extract_lets -merge -useContext -underBinder v0 v1 v2 v3
  try clear_value v0
  try clear_value v1
  try clear_value v2
  have h4 : Keeps M s0 v3 := by
    unfold v3
    refine ite_of (P := Keeps M s0) ?_ ?_
    ·
      refine (keeps_State_setf (sub_trans rfl hM)) ?_
      exact h
    ·
      exact h
  try clear_value v3
  refine (keeps_State_modCompare (sub_trans rfl hM)) ?_
  refine (keeps_State_wrN (sub_trans rfl hM)) ?_
  exact h4

theorem keeps_State_coDisarm {M : Nat} (hM : Nat.land 262145 M = 262145) {s0 : State} {s : State} {p1 : Nat} (h : Keeps M s0 s) : Keeps M s0 (State.coDisarm s p1) := by
  unfold State.coDisarm
  refine (keeps_State_modCompare (sub_trans rfl hM)) ?_
  refine (keeps_State_clrf (sub_trans rfl hM)) ?_
  exact h

theorem keeps_State_coLoad {M : Nat} (hM : Nat.land 262145 M = 262145) {s0 : State} {n t k : Nat} : ∀ {s : State} {idx : Nat}, Keeps M s0 s →
    Keeps M s0 (State.coLoad n t k s idx) := by
  induction k with
  | zero => intro s idx h; exact (keeps_State_coDisarm (sub_trans rfl hM)) h
  | succ k ih =>
    intro s idx h
    unfold State.coLoad
    refine ite_of (P := Keeps M s0) ((keeps_State_coDisarm (sub_trans rfl hM)) h) ?_
    refine ite_of (P := Keeps M s0) ?_ ?_
    · exact ite_of (P := Keeps M s0) (ih ((keeps_State_modCompare (sub_trans rfl hM)) ((keeps_State_wrN (sub_trans rfl hM)) h))) ((keeps_State_setf (sub_trans rfl hM)) ((keeps_State_coDisarm (sub_trans rfl hM)) h))
    · extract_lets -merge -useContext -underBinder v1
      exact ite_of (P := Keeps M s0) (ih ((keeps_State_setf (sub_trans rfl hM)) h)) ((keeps_State_modCompare (sub_trans rfl hM)) ((keeps_State_setf (sub_trans rfl hM)) ((keeps_State_wrN (sub_trans rfl hM)) h)))

theorem keeps_State_coNext {M : Nat} (hM : Nat.land 262144 M = 262144) {s0 : State} {s : State} {p1 : Nat} {p2 : Nat} (h : Keeps M s0 s) : Keeps M s0 (State.coNext s p1 p2) := by
  unfold State.coNext
  refine (keeps_State_modCompare (sub_trans rfl hM)) ?_
  exact h

theorem keeps_State_coCheck {M : Nat} (hM : Nat.land 262145 M = 262145) {s0 : State} {s : State} {p1 : Nat} {p2 : Nat} {p3 : Bool} {p4 : Int} (h : Keeps M s0 s) : Keeps M s0 (State.coCheck s p1 p2 p3 p4) := by
  unfold State.coCheck
  extract_lets -merge -useContext -underBinder v0
  have h1 : Keeps M s0 v0 := by
    unfold v0
    refine (keeps_State_modCompare (sub_trans rfl hM)) ?_
    exact h
  try clear_value v0
  split
  ·
    exact h1
  ·
    extract_lets -merge -useContext -underBinder v2 v3 v4 v5 v6
    have h7 : Keeps M s0 v2 := by
      unfold v2
      refine ite_of (P := Keeps M s0) ?_ ?_
      ·
        refine (keeps_State_coLoad (sub_trans rfl hM)) ?_
        exact h1
      ·
        exact h1
    try clear_value v2
    try clear_value v3
    try clear_value v4
    have h8 : Keeps M s0 v5 := by
      unfold v5
      refine (keeps_State_modCompare (sub_trans rfl hM)) ?_
      exact h7
    try clear_value v5
    have h9 : Keeps M s0 v6 := by
      unfold v6
      refine (keeps_State_setf (sub_trans rfl hM)) ?_
      exact h8
    try clear_value v6
    refine ite_of (P := Keeps M s0) ?_ ?_
    ·
      exact h7
    ·
      refine ite_of (P := Keeps M s0) ?_ ?_
      ·
        refine (keeps_State_coNext (sub_trans rfl hM)) ?_
        refine (keeps_State_setf (sub_trans rfl hM)) ?_
        refine (keeps_State_coFire (sub_trans rfl hM)) ?_
        exact h7
      ·
        refine ite_of (P := Keeps M s0) ?_ ?_
        ·
          refine ite_of (P := Keeps M s0) ?_ ?_
          ·
            refine (keeps_State_coNext (sub_trans rfl hM)) ?_
            refine (keeps_State_setf (sub_trans rfl hM)) ?_
            refine (keeps_State_coFire (sub_trans rfl hM)) ?_
            exact h9
          ·
            exact h9
        ·
          exact h8

theorem keeps_State_coSettle {M : Nat} (hM : Nat.land 262145 M = 262145) {s0 : State} {n t k : Nat} {count : Int} : ∀ {s : State}, Keeps M s0 s →
    Keeps M s0 (State.coSettle n t count k s) := by
  induction k with
  | zero => intro s h; exact h
  | succ k ih =>
    intro s h
    unfold State.coSettle
    split
    · exact ite_of (P := Keeps M s0) (ih ((keeps_State_coNext (sub_trans rfl hM)) ((keeps_State_coFire (sub_trans rfl hM)) h))) h
    · exact ite_of (P := Keeps M s0) (ih ((keeps_State_coCheck (sub_trans rfl hM)) h)) h
    · exact h

theorem keeps_State_coUpdate {M : Nat} (hM : Nat.land 262145 M = 262145) {s0 : State} {s : State} {p1 : Nat} (h : Keeps M s0 s) : Keeps M s0 (State.coUpdate s p1) := by
  unfold State.coUpdate
  extract_lets -merge -useContext -underBinder v0
  try clear_value v0
  refine (keeps_State_modCompare (sub_trans rfl hM)) ?_
  refine (keeps_State_coSettle (sub_trans rfl hM)) ?_
  exact h

theorem keeps_State_coAllIdle {M : Nat} (hM : Nat.land 262145 M = 262145) {s0 : State} {s : State} (h : Keeps M s0 s) : Keeps M s0 (State.coAllIdle s) := by
  unfold State.coAllIdle
  refine Keeps.forEach ?_ ?_
  ·
    exact h
  · intro t0 x1 h2
    beta_reduce
    refine (keeps_State_modCompare (sub_trans rfl hM)) ?_
    refine (keeps_State_coDisarm (sub_trans rfl hM)) ?_
    exact h2

theorem keeps_State_cmpRamWrite {M : Nat} (hM : Nat.land 262149 M = 262149) {s0 : State} {s : State} {p1 : Nat} {p2 : Word} (h : Keeps M s0 s) : Keeps M s0 (State.cmpRamWrite s p1 p2) := by
  unfold State.cmpRamWrite
  extract_lets -merge -useContext -underBinder v0 v1 v2
  have h3 : Keeps M s0 v0 := by
    unfold v0
    refine Keeps.forEach ?_ ?_
    ·
      exact h
    · intro t4 x5 h6
      beta_reduce
      refine (keeps_State_coUpdate (sub_trans rfl hM)) ?_
      exact h6
  try clear_value v0
  have h7 : Keeps M s0 v2 := by
    unfold v2
    refine Keeps.up_mem_cmpRam (sub_trans rfl hM) ?_ (Memory.wf_cmpRam wmSet_wf)
    exact h3
  try clear_value v2
  refine ite_of (P := Keeps M s0) ?_ ?_
  ·
    refine Keeps.forEach ?_ ?_
    ·
      exact h7
    · intro t8 x9 h10
      beta_reduce
      split
      ·
        exact h10
      ·
        refine ite_of (P := Keeps M s0) ?_ ?_
        ·
          refine (keeps_State_modCompare (sub_trans rfl hM)) ?_
          exact h10
        ·
          exact h10
  ·
    exact h7

theorem keeps_State_coCountJump {M : Nat} (hM : Nat.land 262144 M = 262144) {s0 : State} {s : State} {p1 : Nat} (h : Keeps M s0 s) : Keeps M s0 (State.coCountJump s p1) := by
  unfold State.coCountJump
  refine Keeps.forEach ?_ ?_
  ·
    exact h
  · intro t0 x1 h2
    beta_reduce
    refine ite_of (P := Keeps M s0) ?_ ?_
    ·
      refine (keeps_State_modCompare (sub_trans rfl hM)) ?_
      exact h2
    ·
      exact h2

theorem keeps_State_coCountChange {M : Nat} (hM : Nat.land 262145 M = 262145) {s0 : State} {s : State} {p1 : Nat} {p2 : Bool} {p3 : Int} {p4 : Int} (h : Keeps M s0 s) : Keeps M s0 (State.coCountChange s p1 p2 p3 p4) := by
  unfold State.coCountChange
  refine Keeps.forEach ?_ ?_
  ·
    exact h
  · intro t0 x1 h2
    beta_reduce
    refine ite_of (P := Keeps M s0) ?_ ?_
    ·
      refine ite_of (P := Keeps M s0) ?_ ?_
      ·
        extract_lets -merge -useContext -underBinder v3
        try clear_value v3
        refine ite_of (P := Keeps M s0) ?_ ?_
        ·
          refine (keeps_State_modCompare (sub_trans rfl hM)) ?_
          exact h2
        ·
          exact h2
      ·
        refine (keeps_State_setf (sub_trans rfl hM)) ?_
        exact h2
    ·
      exact h2

theorem keeps_State_coPort {M : Nat} (hM : Nat.land 262145 M = 262145) {s0 : State} {s : State} {p1 : Nat} (h : Keeps M s0 s) : Keeps M s0 (State.coPort s p1) := by
  unfold State.coPort
  refine Keeps.forEach ?_ ?_
  ·
    exact h
  · intro t0 x1 h2
    beta_reduce
    refine ite_of (P := Keeps M s0) ?_ ?_
    ·
      refine (keeps_State_coUpdate (sub_trans rfl hM)) ?_
      exact h2
    ·
      exact h2

theorem keeps_State_coSrcOne {M : Nat} (hM : Nat.land 1 M = 1) {s0 : State} {s : State} {p1 : Nat} (h : Keeps M s0 s) : Keeps M s0 (State.coSrcOne s p1) := by
  unfold State.coSrcOne
  refine (keeps_State_putB (sub_trans rfl hM)) ?_
  exact h

theorem keeps_State_coPulseEnd {M : Nat} (hM : Nat.land 270337 M = 270337) {s0 : State} {s : State} {p1 : Nat} (h : Keeps M s0 s) : Keeps M s0 (State.coPulseEnd s p1) := by
  unfold State.coPulseEnd
  extract_lets -merge -useContext -underBinder v0
  have h1 : Keeps M s0 v0 := by
    unfold v0
    refine (keeps_State_coUpdate (sub_trans rfl hM)) ?_
    exact h
  try clear_value v0
  split
  ·
    exact h
  ·
    refine (keeps_State_modCompare (sub_trans rfl hM)) ?_
    refine (keeps_State_advanceTo (sub_trans rfl hM)) ?_
    exact h1

theorem keeps_State_coArm {M : Nat} (hM : Nat.land 262145 M = 262145) {s0 : State} {s : State} {p1 : Nat} {p2 : Nat} (h : Keeps M s0 s) : Keeps M s0 (State.coArm s p1 p2) := by
  unfold State.coArm
  refine ite_of (P := Keeps M s0) ?_ ?_
  ·
    refine (keeps_State_modCompare (sub_trans rfl hM)) ?_
    refine (keeps_State_setf (sub_trans rfl hM)) ?_
    refine (keeps_State_wrN (sub_trans rfl hM)) ?_
    refine (keeps_State_coUpdate (sub_trans rfl hM)) ?_
    exact h
  ·
    exact h

theorem keeps_State_coStop {M : Nat} (hM : Nat.land 262145 M = 262145) {s0 : State} {s : State} {p1 : Nat} (h : Keeps M s0 s) : Keeps M s0 (State.coStop s p1) := by
  unfold State.coStop
  refine (keeps_State_coDisarm (sub_trans rfl hM)) ?_
  refine (keeps_State_coUpdate (sub_trans rfl hM)) ?_
  exact h

theorem keeps_State_coSrcValid {M : Nat} (hM : Nat.land 1 M = 1) {s0 : State} {s : State} {p1 : Nat} (h : Keeps M s0 s) : Keeps M s0 (State.coSrcValid s p1) := by
  unfold State.coSrcValid
  refine Keeps.forEach ?_ ?_
  ·
    exact h
  · intro t0 x1 h2
    beta_reduce
    refine ite_of (P := Keeps M s0) ?_ ?_
    ·
      refine (keeps_State_coSrcOne (sub_trans rfl hM)) ?_
      exact h2
    ·
      exact h2

end Sys2Proof.Machine
end

