-- ==== Sys2Proof/Laws/KeepHost.lean ====
section
/-! SUPPORT. The operations of Machine/Host.lean keep what `Keeps` says. -/

namespace Sys2Proof.Machine

theorem keeps_State_modHost {M : Nat} (hM : Nat.land 36028797018963968 M = 36028797018963968) {s0 : State} {s : State} {p1 : HostSt → HostSt} (h : Keeps M s0 s) : Keeps M s0 (State.modHost s p1) := by
  unfold State.modHost
  refine Keeps.up_host (sub_trans rfl hM) ?_
  exact h

theorem keeps_State_ringIdle {M : Nat} (hM : Nat.land 1 M = 1) {s0 : State} {s : State} {p1 : Nat} (h : Keeps M s0 s) : Keeps M s0 (State.ringIdle s p1) := by
  unfold State.ringIdle
  refine ite_of (P := Keeps M s0) ?_ ?_
  ·
    refine (keeps_State_clrf (sub_trans rfl hM)) ?_
    exact h
  ·
    exact h

theorem keeps_State_ringStop {M : Nat} (hM : Nat.land 234881025 M = 234881025) {s0 : State} {s : State} {p1 : Nat} (h : Keeps M s0 s) : Keeps M s0 (State.ringStop s p1) := by
  unfold State.ringStop
  extract_lets -merge -useContext -underBinder v0
  have h1 : Keeps M s0 v0 := by
    unfold v0
    refine (keeps_State_clrf (sub_trans rfl hM)) ?_
    exact h
  try clear_value v0
  refine (keeps_State_ringIdle (sub_trans rfl hM)) ?_
  refine foldl_of (P := Keeps M s0) ?_ ?_
  ·
    exact h1
  · intro t2 x3 h4
    beta_reduce
    refine (keeps_State_finish (sub_trans rfl hM)) ?_
    exact h4

theorem keeps_State_dmaError {M : Nat} (hM : Nat.land 234885121 M = 234885121) {s0 : State} {s : State} {p1 : Nat} (h : Keeps M s0 s) : Keeps M s0 (State.dmaError s p1) := by
  unfold State.dmaError
  refine (keeps_State_ringStop (sub_trans rfl hM)) ?_
  refine (keeps_State_group (sub_trans rfl hM)) ?_
  refine (keeps_State_setf (sub_trans rfl hM)) ?_
  exact h

theorem keeps_State_pcieUp {M : Nat} (hM : Nat.land 36028797018963969 M = 36028797018963969) {s0 : State} {s : State} {p1 : Nat} {p2 : Bool} (h : Keeps M s0 s) : Keeps M s0 (State.pcieUp s p1 p2) := by
  unfold State.pcieUp
  refine ite_of (P := Keeps M s0) ?_ ?_
  ·
    exact h
  ·
    refine (keeps_State_modHost (sub_trans rfl hM)) ?_
    refine (keeps_State_put (sub_trans rfl hM)) ?_
    refine (keeps_State_put (sub_trans rfl hM)) ?_
    exact h

theorem keeps_State_modRing {M : Nat} (hM : Nat.land 36028797018963968 M = 36028797018963968) {s0 : State} {s : State} {p1 : Nat} {p2 : RingSt → RingSt} (h : Keeps M s0 s) : Keeps M s0 (State.modRing s p1 p2) := by
  unfold State.modRing
  refine (keeps_State_modHost (sub_trans rfl hM)) ?_
  exact h

theorem keeps_State_coalesce {M : Nat} (hM : Nat.land 36028797018976257 M = 36028797018976257) {s0 : State} {s : State} {p1 : Nat} (h : Keeps M s0 s) : Keeps M s0 (State.coalesce s p1) := by
  unfold State.coalesce
  extract_lets -merge -useContext -underBinder v0 v1 v2
  try clear_value v0
  try clear_value v1
  have h3 : Keeps M s0 v2 := by
    unfold v2
    refine (keeps_State_advanceTo (sub_trans rfl hM)) ?_
    exact h
  try clear_value v2
  refine ite_of (P := Keeps M s0) ?_ ?_
  ·
    exact h
  ·
    refine (keeps_State_modRing (sub_trans rfl hM)) ?_
    refine ite_of (P := Keeps M s0) ?_ ?_
    ·
      exact h3
    ·
      refine (keeps_State_raiseVector (sub_trans rfl hM)) ?_
      exact h3

theorem keeps_State_streamPoint {M : Nat} (hM : Nat.land 36028797020012545 M = 36028797020012545) {s0 : State} {s : State} {p1 : Nat} {p2 : Nat} {p3 : List Byte} (h : Keeps M s0 s) : Keeps M s0 (State.streamPoint s p1 p2 p3) := by
  unfold State.streamPoint
  refine ite_of (P := Keeps M s0) ?_ ?_
  ·
    exact h
  ·
    extract_lets -merge -useContext -underBinder v0
    try clear_value v0
    split
    ·
      refine ite_of (P := Keeps M s0) ?_ ?_
      ·
        refine (keeps_State_setf (sub_trans rfl hM)) ?_
        exact h
      ·
        refine (keeps_State_modMo (sub_trans rfl hM)) ?_
        refine (keeps_State_modRing (sub_trans rfl hM)) ?_
        exact h
    ·
      refine (keeps_State_modMo (sub_trans rfl hM)) ?_
      refine (keeps_State_modRing (sub_trans rfl hM)) ?_
      exact h

theorem keeps_State_streamMove {M : Nat} (hM : Nat.land 36028797254897665 M = 36028797254897665) {s0 : State} {s : State} {p1 : Nat} {p2 : List Byte} {p3 : Bool} (h : Keeps M s0 s) : Keeps M s0 (State.streamMove s p1 p2 p3) := by
  unfold State.streamMove
  extract_lets -merge -useContext -underBinder v0 v1 v2 v3
  try clear_value v0
  try clear_value v1
  have h4 : Keeps M s0 v2 := by
    unfold v2
    refine (keeps_State_wrN (sub_trans rfl hM)) ?_
    refine (keeps_State_streamPoint (sub_trans rfl hM)) ?_
    refine (keeps_State_streamPoint (sub_trans rfl hM)) ?_
    exact h
  try clear_value v2
  try clear_value v3
  refine ite_of (P := Keeps M s0) ?_ ?_
  ·
    exact h
  ·
    refine ite_of (P := Keeps M s0) ?_ ?_
    ·
      refine (keeps_State_dmaError (sub_trans rfl hM)) ?_
      exact h
    ·
      refine ite_of (P := Keeps M s0) ?_ ?_
      ·
        refine (keeps_State_raiseVector (sub_trans rfl hM)) ?_
        exact h4
      ·
        exact h4

theorem keeps_State_dramPut {M : Nat} (hM : Nat.land 512 M = 512) {s0 : State} {s : State} {p1 : Nat} {p2 : List Byte} (h : Keeps M s0 s) : Keeps M s0 (State.dramPut s p1 p2) := by
  unfold State.dramPut
  refine Keeps.up_mem_dram (sub_trans rfl hM) ?_ (Memory.wf_dram wmPut_wf)
  exact h

theorem keeps_State_cqUndo {M : Nat} (hM : Nat.land 36028797018968577 M = 36028797018968577) {s0 : State} {s : State} (h : Keeps M s0 s) : Keeps M s0 (State.cqUndo s) := by
  unfold State.cqUndo
  split
  ·
    exact h
  ·
    refine ite_of (P := Keeps M s0) ?_ ?_
    ·
      exact h
    ·
      extract_lets -merge -useContext -underBinder v0 v1
      have h2 : Keeps M s0 v0 := by
        unfold v0
        refine ite_of (P := Keeps M s0) ?_ ?_
        ·
          refine (keeps_State_dramPut (sub_trans rfl hM)) ?_
          exact h
        ·
          refine (keeps_State_modHost (sub_trans rfl hM)) ?_
          exact h
      try clear_value v0
      have h3 : Keeps M s0 v1 := by
        unfold v1
        refine (keeps_State_modRing (sub_trans rfl hM)) ?_
        refine (keeps_State_wrN (sub_trans rfl hM)) ?_
        exact h2
      try clear_value v1
      refine (keeps_State_count (sub_trans rfl hM)) ?_
      refine (keeps_State_modHost (sub_trans rfl hM)) ?_
      refine Keeps.up_vectors (sub_trans rfl hM) ?_
      exact h3

theorem keeps_State_hostReset {M : Nat} (hM : Nat.land 36037593279764993 M = 36037593279764993) {s0 : State} {s : State} (h : Keeps M s0 s) : Keeps M s0 (State.hostReset s) := by
  unfold State.hostReset
  extract_lets -merge -useContext -underBinder v0 v1 v2 v3 v4
  have h5 : Keeps M s0 v0 := by
    unfold v0
    refine (keeps_State_cqUndo (sub_trans rfl hM)) ?_
    exact h
  try clear_value v0
  have h6 : Keeps M s0 v1 := by
    unfold v1
    refine Keeps.forEach ?_ ?_
    ·
      exact h5
    · intro t7 x8 h9
      beta_reduce
      refine (keeps_State_clrf (sub_trans rfl hM)) ?_
      refine (keeps_State_clrf (sub_trans rfl hM)) ?_
      exact h9
  try clear_value v1
  try clear_value v2
  have h10 : Keeps M s0 v3 := by
    unfold v3
    refine Keeps.up_inflight_completions (sub_trans rfl hM) ?_
    exact h6
  try clear_value v3
  try clear_value v4
  refine (keeps_State_lockForce (sub_trans rfl hM)) ?_
  refine (keeps_State_setf (sub_trans rfl hM)) ?_
  refine (keeps_State_addCount (sub_trans rfl hM)) ?_
  exact h10

theorem keeps_State_pcieDown {M : Nat} (hM : Nat.land 36037593279764993 M = 36037593279764993) {s0 : State} {s : State} (h : Keeps M s0 s) : Keeps M s0 (State.pcieDown s) := by
  unfold State.pcieDown
  refine (keeps_State_put (sub_trans rfl hM)) ?_
  refine (keeps_State_put (sub_trans rfl hM)) ?_
  refine (keeps_State_hostReset (sub_trans rfl hM)) ?_
  exact h

theorem keeps_State_dupCompletion {M : Nat} (hM : Nat.land 134217728 M = 134217728) {s0 : State} {s : State} {p1 : Nat} {p2 : Nat} {p3 : List Byte} {p4 : Status} (h : Keeps M s0 s) : Keeps M s0 (State.dupCompletion s p1 p2 p3 p4) := by
  unfold State.dupCompletion
  refine Keeps.up_completions (sub_trans rfl hM) ?_
  exact h

theorem keeps_State_ringFetch {M : Nat} (hM : Nat.land 36029621887569921 M = 36029621887569921) {s0 : State} {s : State} {p1 : Nat} {p2 : List Byte} {p3 : Bool} (h : Keeps M s0 s) : Keeps M s0 (State.ringFetch s p1 p2 p3) := by
  unfold State.ringFetch
  refine ite_of (P := Keeps M s0) ?_ ?_
  ·
    exact h
  ·
    extract_lets -merge -useContext -underBinder v0 v1 v2 v3 v4 v5 v6 v7 v8
    try clear_value v0
    try clear_value v1
    try clear_value v2
    have h9 : Keeps M s0 v3 := by
      unfold v3
      refine (keeps_State_modHost (sub_trans rfl hM)) ?_
      exact h
    try clear_value v3
    try clear_value v4
    have h10 : Keeps M s0 v5 := by
      unfold v5
      refine (keeps_State_wrN (sub_trans rfl hM)) ?_
      exact h9
    try clear_value v5
    have h11 : ∀ x12 x14, Keeps M s0 x12 → Keeps M s0 (v6 x12 x14) := by
      intro x12 x14 h13
      unfold v6
      beta_reduce
      refine (keeps_State_dupCompletion (sub_trans rfl hM)) ?_
      refine (keeps_State_count (sub_trans rfl hM)) ?_
      exact h13
    try clear_value v6
    try clear_value v7
    have h15 : Keeps M s0 v8 := by
      unfold v8
      refine Keeps.up_inflight (sub_trans rfl hM) ?_
      exact h10
    try clear_value v8
    refine ite_of (P := Keeps M s0) ?_ ?_
    ·
      refine (keeps_State_dmaError (sub_trans rfl hM)) ?_
      exact h9
    ·
      refine ite_of (P := Keeps M s0) ?_ ?_
      ·
        refine h11 _ _ ?_
        exact h10
      ·
        refine ite_of (P := Keeps M s0) ?_ ?_
        ·
          refine h11 _ _ ?_
          refine (keeps_State_setf (sub_trans rfl hM)) ?_
          exact h10
        ·
          refine ite_of (P := Keeps M s0) ?_ ?_
          ·
            refine h11 _ _ ?_
            exact h10
          ·
            refine ite_of (P := Keeps M s0) ?_ ?_
            ·
              refine (keeps_State_dupCompletion (sub_trans rfl hM)) ?_
              refine (keeps_State_count (sub_trans rfl hM)) ?_
              exact h10
            ·
              refine ite_of (P := Keeps M s0) ?_ ?_
              ·
                refine (keeps_State_finish (sub_trans rfl hM)) ?_
                exact h15
              ·
                refine (keeps_State_groomPost (sub_trans rfl hM)) ?_
                exact h15

theorem keeps_State_bar2Write {M : Nat} (hM : Nat.land 513 M = 513) {s0 : State} {s : State} {p1 : Nat} {p2 : List Byte} (h : Keeps M s0 s) : Keeps M s0 (State.bar2Write s p1 p2) := by
  unfold State.bar2Write
  extract_lets -merge -useContext -underBinder v0
  try clear_value v0
  refine ite_of (P := Keeps M s0) ?_ ?_
  ·
    exact h
  ·
    refine ite_of (P := Keeps M s0) ?_ ?_
    ·
      refine (keeps_State_count (sub_trans rfl hM)) ?_
      exact h
    ·
      refine (keeps_State_dramPut (sub_trans rfl hM)) ?_
      exact h

theorem keeps_State_hostPut {M : Nat} (hM : Nat.land 36028797018964480 M = 36028797018964480) {s0 : State} {s : State} {p1 : Bool} {p2 : Nat} {p3 : List Byte} (h : Keeps M s0 s) : Keeps M s0 (State.hostPut s p1 p2 p3) := by
  unfold State.hostPut
  refine ite_of (P := Keeps M s0) ?_ ?_
  ·
    refine (keeps_State_dramPut (sub_trans rfl hM)) ?_
    exact h
  ·
    refine (keeps_State_modHost (sub_trans rfl hM)) ?_
    exact h

theorem keeps_State_ringSignal {M : Nat} (hM : Nat.land 36028797018968065 M = 36028797018968065) {s0 : State} {s : State} {p1 : Nat} (h : Keeps M s0 s) : Keeps M s0 (State.ringSignal s p1) := by
  unfold State.ringSignal
  extract_lets -merge -useContext -underBinder v0 v1
  try clear_value v0
  try clear_value v1
  refine ite_of (P := Keeps M s0) ?_ ?_
  ·
    refine (keeps_State_modRing (sub_trans rfl hM)) ?_
    refine ite_of (P := Keeps M s0) ?_ ?_
    ·
      exact h
    ·
      refine (keeps_State_raiseVector (sub_trans rfl hM)) ?_
      exact h
  ·
    refine (keeps_State_modRing (sub_trans rfl hM)) ?_
    exact h

theorem keeps_State_completionWrite {M : Nat} (hM : Nat.land 36028797253849601 M = 36028797253849601) {s0 : State} {s : State} {p1 : Bool} (h : Keeps M s0 s) : Keeps M s0 (State.completionWrite s p1) := by
  unfold State.completionWrite
  split
  ·
    exact h
  ·
    extract_lets -merge -useContext -underBinder v0 v1 v2 v3 v4 v5 v6 v7 v8 v9
    have h10 : Keeps M s0 v0 := by
      unfold v0
      refine Keeps.up_completions (sub_trans rfl hM) ?_
      exact h
    try clear_value v0
    try clear_value v1
    have h11 : Keeps M s0 v2 := by
      unfold v2
      refine Keeps.up_inflight (sub_trans rfl hM) ?_
      exact h10
    try clear_value v2
    try clear_value v3
    try clear_value v4
    try clear_value v5
    have h12 : Keeps M s0 v6 := by
      unfold v6
      refine ite_of (P := Keeps M s0) ?_ ?_
      ·
        exact h11
      ·
        refine (keeps_State_hostPut (sub_trans rfl hM)) ?_
        exact h11
    try clear_value v6
    try clear_value v7
    try clear_value v8
    have h13 : Keeps M s0 v9 := by
      unfold v9
      refine (keeps_State_hostPut (sub_trans rfl hM)) ?_
      refine (keeps_State_modHost (sub_trans rfl hM)) ?_
      exact h12
    try clear_value v9
    refine ite_of (P := Keeps M s0) ?_ ?_
    ·
      exact h11
    ·
      refine ite_of (P := Keeps M s0) ?_ ?_
      ·
        refine (keeps_State_count (sub_trans rfl hM)) ?_
        exact h11
      ·
        refine ite_of (P := Keeps M s0) ?_ ?_
        ·
          refine (keeps_State_count (sub_trans rfl hM)) ?_
          exact h11
        ·
          refine ite_of (P := Keeps M s0) ?_ ?_
          ·
            refine (keeps_State_ringIdle (sub_trans rfl hM)) ?_
            refine (keeps_State_dmaError (sub_trans rfl hM)) ?_
            exact h11
          ·
            refine (keeps_State_ringIdle (sub_trans rfl hM)) ?_
            refine (keeps_State_ringSignal (sub_trans rfl hM)) ?_
            refine (keeps_State_wrN (sub_trans rfl hM)) ?_
            exact h13

theorem keeps_State_hostWatchdog {M : Nat} (hM : Nat.land 36028797020026881 M = 36028797020026881) {s0 : State} {s : State} (h : Keeps M s0 s) : Keeps M s0 (State.hostWatchdog s) := by
  unfold State.hostWatchdog
  extract_lets -merge -useContext -underBinder v0 v1 v2
  try clear_value v0
  have h3 : Keeps M s0 v1 := by
    unfold v1
    refine (keeps_State_modHost (sub_trans rfl hM)) ?_
    refine (keeps_State_advanceTo (sub_trans rfl hM)) ?_
    exact h
  try clear_value v1
  have h4 : Keeps M s0 v2 := by
    unfold v2
    refine (keeps_State_group (sub_trans rfl hM)) ?_
    refine (keeps_State_event (sub_trans rfl hM)) ?_
    refine (keeps_State_setf (sub_trans rfl hM)) ?_
    exact h3
  try clear_value v2
  refine ite_of (P := Keeps M s0) ?_ ?_
  ·
    exact h
  ·
    refine ite_of (P := Keeps M s0) ?_ ?_
    ·
      refine Keeps.forEach ?_ ?_
      ·
        exact h4
      · intro t5 x6 h7
        beta_reduce
        refine (keeps_State_modMo (sub_trans rfl hM)) ?_
        exact h7
    ·
      exact h4

theorem keeps_State_hostKick {M : Nat} (hM : Nat.land 36028797020026881 M = 36028797020026881) {s0 : State} {s : State} (h : Keeps M s0 s) : Keeps M s0 (State.hostKick s) := by
  unfold State.hostKick
  extract_lets -merge -useContext -underBinder v0
  try clear_value v0
  refine (keeps_State_modHost (sub_trans rfl hM)) ?_
  refine ite_of (P := Keeps M s0) ?_ ?_
  ·
    refine (keeps_State_hostWatchdog (sub_trans rfl hM)) ?_
    exact h
  ·
    exact h

theorem keeps_State_deliverRecord {M : Nat} (hM : Nat.land 36028797018968577 M = 36028797018968577) {s0 : State} {s : State} {p1 : Nat} {p2 : Nat} {p3 : Nat} {p4 : Nat} {p5 : List Byte} (h : Keeps M s0 s) : Keeps M s0 (State.deliverRecord s p1 p2 p3 p4 p5) := by
  unfold State.deliverRecord
  extract_lets -merge -useContext -underBinder v0 v1 v2 v3 v4
  try clear_value v0
  try clear_value v1
  try clear_value v2
  have h5 : Keeps M s0 v3 := by
    unfold v3
    refine (keeps_State_hostPut (sub_trans rfl hM)) ?_
    exact h
  try clear_value v3
  have h6 : Keeps M s0 v4 := by
    unfold v4
    refine ite_of (P := Keeps M s0) ?_ ?_
    ·
      exact h5
    ·
      refine (keeps_State_setf (sub_trans rfl hM)) ?_
      exact h5
  try clear_value v4
  refine (keeps_State_ringSignal (sub_trans rfl hM)) ?_
  refine (keeps_State_wrN (sub_trans rfl hM)) ?_
  exact h6

theorem keeps_State_hostClrCnt {M : Nat} (hM : Nat.land 1 M = 1) {s0 : State} {s : State} (h : Keeps M s0 s) : Keeps M s0 (State.hostClrCnt s) := by
  unfold State.hostClrCnt
  refine Keeps.forEach ?_ ?_
  ·
    refine (keeps_State_wrN (sub_trans rfl hM)) ?_
    exact h
  · intro t0 x1 h2
    beta_reduce
    refine (keeps_State_wrN (sub_trans rfl hM)) ?_
    exact h2

theorem keeps_State_ringCfg {M : Nat} (hM : Nat.land 36028797253849089 M = 36028797253849089) {s0 : State} {s : State} {p1 : Bool} {p2 : Nat} {p3 : Nat} (h : Keeps M s0 s) : Keeps M s0 (State.ringCfg s p1 p2 p3) := by
  unfold State.ringCfg
  refine ite_of (P := Keeps M s0) ?_ ?_
  ·
    refine ite_of (P := Keeps M s0) ?_ ?_
    ·
      exact h
    ·
      refine (keeps_State_ringStop (sub_trans rfl hM)) ?_
      exact h
  ·
    extract_lets -merge -useContext -underBinder v0 v1 v2 v3 v4
    try clear_value v0
    try clear_value v1
    have h5 : Keeps M s0 v2 := by
      unfold v2
      refine (keeps_State_wrN (sub_trans rfl hM)) ?_
      exact h
    try clear_value v2
    try clear_value v3
    have h6 : Keeps M s0 v4 := by
      unfold v4
      refine (keeps_State_wrN (sub_trans rfl hM)) ?_
      refine (keeps_State_wrN (sub_trans rfl hM)) ?_
      refine (keeps_State_wrN (sub_trans rfl hM)) ?_
      refine (keeps_State_wrN (sub_trans rfl hM)) ?_
      exact h5
    try clear_value v4
    refine ite_of (P := Keeps M s0) ?_ ?_
    ·
      exact h
    ·
      refine ite_of (P := Keeps M s0) ?_ ?_
      ·
        exact h5
      ·
        refine ite_of (P := Keeps M s0) ?_ ?_
        ·
          exact h5
        ·
          refine ite_of (P := Keeps M s0) ?_ ?_
          ·
            exact h5
          ·
            refine ite_of (P := Keeps M s0) ?_ ?_
            ·
              refine (keeps_State_group (sub_trans rfl hM)) ?_
              refine (keeps_State_setf (sub_trans rfl hM)) ?_
              exact h5
            ·
              refine (keeps_State_modRing (sub_trans rfl hM)) ?_
              refine (keeps_State_setf (sub_trans rfl hM)) ?_
              refine (keeps_State_putB (sub_trans rfl hM)) ?_
              refine (keeps_State_setf (sub_trans rfl hM)) ?_
              exact h6

theorem keeps_State_deliveryWrite {M : Nat} (hM : Nat.land 40602765625397761 M = 40602765625397761) {s0 : State} {s : State} {p1 : Nat} {p2 : Bool} (h : Keeps M s0 s) : Keeps M s0 (State.deliveryWrite s p1 p2) := by
  unfold State.deliveryWrite
  extract_lets -merge -useContext -underBinder v0 v1 v2 v3 v4
  try clear_value v0
  try clear_value v1
  try clear_value v2
  try clear_value v3
  try clear_value v4
  refine ite_of (P := Keeps M s0) ?_ ?_
  ·
    exact h
  ·
    refine ite_of (P := Keeps M s0) ?_ ?_
    ·
      refine ite_of (P := Keeps M s0) ?_ ?_
      ·
        exact h
      ·
        refine ite_of (P := Keeps M s0) ?_ ?_
        ·
          refine (keeps_State_dmaError (sub_trans rfl hM)) ?_
          exact h
        ·
          refine (keeps_State_fifoRelease (sub_trans rfl hM)) ?_
          refine (keeps_State_modRing (sub_trans rfl hM)) ?_
          refine (keeps_State_deliverRecord (sub_trans rfl hM)) ?_
          exact h
    ·
      refine ite_of (P := Keeps M s0) ?_ ?_
      ·
        split
        ·
          exact h
        ·
          extract_lets -merge -useContext -underBinder v5
          have h6 : Keeps M s0 v5 := by
            unfold v5
            refine (keeps_State_modPtp (sub_trans rfl hM)) ?_
            exact h
          try clear_value v5
          refine ite_of (P := Keeps M s0) ?_ ?_
          ·
            refine (keeps_State_modPtp (sub_trans rfl hM)) ?_
            exact h6
          ·
            refine ite_of (P := Keeps M s0) ?_ ?_
            ·
              refine (keeps_State_dmaError (sub_trans rfl hM)) ?_
              exact h6
            ·
              refine (keeps_State_modPtp (sub_trans rfl hM)) ?_
              refine (keeps_State_deliverRecord (sub_trans rfl hM)) ?_
              exact h6
      ·
        exact h

theorem keeps_State_doorbellRing {M : Nat} (hM : Nat.land 36028797020026881 M = 36028797020026881) {s0 : State} {s : State} {p1 : Nat} {p2 : Nat} (h : Keeps M s0 s) : Keeps M s0 (State.doorbellRing s p1 p2) := by
  unfold State.doorbellRing
  extract_lets -merge -useContext -underBinder v0 v1 v2
  try clear_value v0
  try clear_value v1
  have h3 : Keeps M s0 v2 := by
    unfold v2
    refine ite_of (P := Keeps M s0) ?_ ?_
    ·
      refine (keeps_State_hostKick (sub_trans rfl hM)) ?_
      exact h
    ·
      exact h
  try clear_value v2
  refine ite_of (P := Keeps M s0) ?_ ?_
  ·
    refine (keeps_State_setf (sub_trans rfl hM)) ?_
    exact h3
  ·
    refine (keeps_State_modRing (sub_trans rfl hM)) ?_
    refine (keeps_State_wrN (sub_trans rfl hM)) ?_
    exact h3

theorem keeps_State_perst {M : Nat} (hM : Nat.land 36037593279764993 M = 36037593279764993) {s0 : State} {s : State} (h : Keeps M s0 s) : Keeps M s0 (State.perst s) := by
  unfold State.perst
  refine (keeps_State_modHost (sub_trans rfl hM)) ?_
  refine (keeps_State_pcieDown (sub_trans rfl hM)) ?_
  exact h

theorem keeps_State_cqHeadWrite {M : Nat} (hM : Nat.land 36028797018963969 M = 36028797018963969) {s0 : State} {s : State} {p1 : Nat} {p2 : Nat} (h : Keeps M s0 s) : Keeps M s0 (State.cqHeadWrite s p1 p2) := by
  unfold State.cqHeadWrite
  refine (keeps_State_wrN (sub_trans rfl hM)) ?_
  refine (keeps_State_modRing (sub_trans rfl hM)) ?_
  exact h

end Sys2Proof.Machine
end

