-- ==== Sys2Proof/Laws/KeepIo.lean ====
section
/-! SUPPORT. The operations of Machine/Io.lean keep what `Keeps` says. -/

namespace Sys2Proof.Machine

theorem keeps_State_modDio {M : Nat} (hM : Nat.land 2251799813685248 M = 2251799813685248) {s0 : State} {s : State} {p1 : Nat} {p2 : DioSt → DioSt} (h : Keeps M s0 s) : Keeps M s0 (State.modDio s p1 p2) := by
  unfold State.modDio
  refine Keeps.up_io (sub_trans rfl hM) ?_
  exact h

theorem keeps_State_dioFault {M : Nat} (hM : Nat.land 2251799813691393 M = 2251799813691393) {s0 : State} {s : State} {p1 : Nat} {p2 : Fld} (h : Keeps M s0 s) : Keeps M s0 (State.dioFault s p1 p2) := by
  unfold State.dioFault
  extract_lets -merge -useContext -underBinder v0 v1
  try clear_value v0
  have h2 : Keeps M s0 v1 := by
    unfold v1
    refine (keeps_State_setf (sub_trans rfl hM)) ?_
    exact h
  try clear_value v1
  refine ite_of (P := Keeps M s0) ?_ ?_
  ·
    exact h2
  ·
    refine (keeps_State_group (sub_trans rfl hM)) ?_
    refine (keeps_State_event (sub_trans rfl hM)) ?_
    refine (keeps_State_modDio (sub_trans rfl hM)) ?_
    exact h2

theorem keeps_State_shuntReconnect {M : Nat} (hM : Nat.land 8193 M = 8193) {s0 : State} {s : State} {p1 : Nat} (h : Keeps M s0 s) : Keeps M s0 (State.shuntReconnect s p1) := by
  unfold State.shuntReconnect
  refine ite_of (P := Keeps M s0) ?_ ?_
  ·
    refine (keeps_State_clrf (sub_trans rfl hM)) ?_
    refine (keeps_State_advanceTo (sub_trans rfl hM)) ?_
    exact h
  ·
    exact h

theorem keeps_State_modAi {M : Nat} (hM : Nat.land 2251799813685248 M = 2251799813685248) {s0 : State} {s : State} {p1 : Nat} {p2 : AiSt → AiSt} (h : Keeps M s0 s) : Keeps M s0 (State.modAi s p1 p2) := by
  unfold State.modAi
  refine Keeps.up_io (sub_trans rfl hM) ?_
  exact h

theorem keeps_State_modFg {M : Nat} (hM : Nat.land 2251799813685248 M = 2251799813685248) {s0 : State} {s : State} {p1 : Nat} {p2 : FgSt → FgSt} (h : Keeps M s0 s) : Keeps M s0 (State.modFg s p1 p2) := by
  unfold State.modFg
  refine Keeps.up_io (sub_trans rfl hM) ?_
  exact h

theorem keeps_State_fgEnter {M : Nat} (hM : Nat.land 2251799813691393 M = 2251799813691393) {s0 : State} {s : State} {p1 : Nat} {p2 : Nat} {p3 : Nat} (h : Keeps M s0 s) : Keeps M s0 (State.fgEnter s p1 p2 p3) := by
  unfold State.fgEnter
  extract_lets -merge -useContext -underBinder v0 v1 v2 v3
  try clear_value v0
  try clear_value v1
  try clear_value v2
  have h4 : Keeps M s0 v3 := by
    unfold v3
    refine (keeps_State_group (sub_trans rfl hM)) ?_
    refine (keeps_State_event (sub_trans rfl hM)) ?_
    refine (keeps_State_put (sub_trans rfl hM)) ?_
    exact h
  try clear_value v3
  split
  ·
    extract_lets -merge -useContext -underBinder v5
    have h6 : Keeps M s0 v5 := by
      unfold v5
      refine (keeps_State_modFg (sub_trans rfl hM)) ?_
      refine (keeps_State_wrN (sub_trans rfl hM)) ?_
      refine (keeps_State_wrN (sub_trans rfl hM)) ?_
      exact h4
    try clear_value v5
    refine ite_of (P := Keeps M s0) ?_ ?_
    ·
      exact h6
    ·
      refine (keeps_State_setf (sub_trans rfl hM)) ?_
      exact h6
  ·
    refine (keeps_State_count (sub_trans rfl hM)) ?_
    exact h4
  ·
    refine (keeps_State_clrBits (sub_trans rfl hM)) ?_
    refine (keeps_State_clrBits (sub_trans rfl hM)) ?_
    refine (keeps_State_count (sub_trans rfl hM)) ?_
    exact h4

theorem keeps_State_readback {M : Nat} (hM : Nat.land 6145 M = 6145) {s0 : State} {s : State} {p1 : Nat} {p2 : Bool} (h : Keeps M s0 s) : Keeps M s0 (State.readback s p1 p2) := by
  unfold State.readback
  extract_lets -merge -useContext -underBinder v0 v1
  have h2 : Keeps M s0 v0 := by
    unfold v0
    refine (keeps_State_putB (sub_trans rfl hM)) ?_
    exact h
  try clear_value v0
  try clear_value v1
  refine ite_of (P := Keeps M s0) ?_ ?_
  ·
    exact h2
  ·
    refine ite_of (P := Keeps M s0) ?_ ?_
    ·
      refine (keeps_State_group (sub_trans rfl hM)) ?_
      refine (keeps_State_event (sub_trans rfl hM)) ?_
      refine (keeps_State_setf (sub_trans rfl hM)) ?_
      exact h2
    ·
      refine ite_of (P := Keeps M s0) ?_ ?_
      ·
        refine (keeps_State_group (sub_trans rfl hM)) ?_
        refine (keeps_State_event (sub_trans rfl hM)) ?_
        refine (keeps_State_setf (sub_trans rfl hM)) ?_
        exact h2
      ·
        exact h2

theorem keeps_State_outputRetry {M : Nat} (hM : Nat.land 2251799813693440 M = 2251799813693440) {s0 : State} {s : State} {p1 : Nat} (h : Keeps M s0 s) : Keeps M s0 (State.outputRetry s p1) := by
  unfold State.outputRetry
  extract_lets -merge -useContext -underBinder v0
  try clear_value v0
  split
  ·
    refine ite_of (P := Keeps M s0) ?_ ?_
    ·
      exact h
    ·
      extract_lets -merge -useContext -underBinder v1
      have h2 : Keeps M s0 v1 := by
        unfold v1
        refine (keeps_State_advanceTo (sub_trans rfl hM)) ?_
        exact h
      try clear_value v1
      refine (keeps_State_modDio (sub_trans rfl hM)) ?_
      exact h2
  ·
    exact h

theorem keeps_State_dioOut {M : Nat} (hM : Nat.land 2251799813685249 M = 2251799813685249) {s0 : State} {s : State} {p1 : Nat} (h : Keeps M s0 s) : Keeps M s0 (State.dioOut s p1) := by
  unfold State.dioOut
  refine Keeps.forEach ?_ ?_
  ·
    refine (keeps_State_wrN (sub_trans rfl hM)) ?_
    exact h
  · intro t0 x1 h2
    beta_reduce
    refine ite_of (P := Keeps M s0) ?_ ?_
    ·
      exact h2
    ·
      refine (keeps_State_modDio (sub_trans rfl hM)) ?_
      exact h2

theorem keeps_State_fgClrFlags {M : Nat} (hM : Nat.land 1 M = 1) {s0 : State} {s : State} {p1 : Nat} (h : Keeps M s0 s) : Keeps M s0 (State.fgClrFlags s p1) := by
  unfold State.fgClrFlags
  refine Keeps.forEach ?_ ?_
  ·
    refine (keeps_State_clrf (sub_trans rfl hM)) ?_
    exact h
  · intro t0 x1 h2
    beta_reduce
    refine (keeps_State_clrBits (sub_trans rfl hM)) ?_
    exact h2

theorem keeps_State_dioSet {M : Nat} (hM : Nat.land 2251799813685249 M = 2251799813685249) {s0 : State} {s : State} {p1 : Nat} (h : Keeps M s0 s) : Keeps M s0 (State.dioSet s p1) := by
  unfold State.dioSet
  refine (keeps_State_dioOut (sub_trans rfl hM)) ?_
  exact h

theorem keeps_State_fgSample {M : Nat} (hM : Nat.land 2251799813699585 M = 2251799813699585) {s0 : State} {s : State} {p1 : Nat} {p2 : Nat} {p3 : Nat} (h : Keeps M s0 s) : Keeps M s0 (State.fgSample s p1 p2 p3) := by
  unfold State.fgSample
  extract_lets -merge -useContext -underBinder v0 v1 v2 v3 v4 v5 v6 v7 v8 v9 v10 v11
  have h12 : Keeps M s0 v0 := by
    unfold v0
    refine (keeps_State_advanceTo (sub_trans rfl hM)) ?_
    exact h
  try clear_value v0
  have h13 : Keeps M s0 v1 := by
    unfold v1
    refine Keeps.forEach ?_ ?_
    ·
      refine (keeps_State_put (sub_trans rfl hM)) ?_
      exact h12
    · intro t14 x15 h16
      beta_reduce
      refine (keeps_State_putB (sub_trans rfl hM)) ?_
      exact h16
  try clear_value v1
  try clear_value v2
  try clear_value v3
  try clear_value v4
  try clear_value v5
  try clear_value v6
  try clear_value v7
  have h17 : Keeps M s0 v8 := by
    unfold v8
    refine (keeps_State_modFg (sub_trans rfl hM)) ?_
    exact h13
  try clear_value v8
  try clear_value v9
  try clear_value v10
  try clear_value v11
  refine ite_of (P := Keeps M s0) ?_ ?_
  ·
    exact h17
  ·
    refine (keeps_State_fgEnter (sub_trans rfl hM)) ?_
    exact h17

theorem keeps_State_outputHot {M : Nat} (hM : Nat.land 2251799813691393 M = 2251799813691393) {s0 : State} {s : State} {p1 : Nat} {p2 : Nat} (h : Keeps M s0 s) : Keeps M s0 (State.outputHot s p1 p2) := by
  unfold State.outputHot
  refine ite_of (P := Keeps M s0) ?_ ?_
  ·
    refine (keeps_State_modDio (sub_trans rfl hM)) ?_
    refine (keeps_State_dioFault (sub_trans rfl hM)) ?_
    exact h
  ·
    exact h

theorem keeps_State_aiSample {M : Nat} (hM : Nat.land 2251799813691393 M = 2251799813691393) {s0 : State} {s : State} {p1 : Nat} {p2 : Nat} (h : Keeps M s0 s) : Keeps M s0 (State.aiSample s p1 p2) := by
  unfold State.aiSample
  extract_lets -merge -useContext -underBinder v0 v1 v2 v3 v4 v5 v6 v7 v8 v9 v10 v11 v12 v13 v14 v15
  try clear_value v0
  try clear_value v1
  try clear_value v2
  try clear_value v3
  try clear_value v4
  try clear_value v5
  try clear_value v6
  try clear_value v7
  try clear_value v8
  have h16 : Keeps M s0 v9 := by
    unfold v9
    refine ite_of (P := Keeps M s0) ?_ ?_
    ·
      refine (keeps_State_group (sub_trans rfl hM)) ?_
      refine (keeps_State_event (sub_trans rfl hM)) ?_
      refine (keeps_State_setf (sub_trans rfl hM)) ?_
      exact h
    ·
      exact h
  try clear_value v9
  try clear_value v10
  try clear_value v11
  try clear_value v12
  try clear_value v13
  try clear_value v14
  try clear_value v15
  refine ite_of (P := Keeps M s0) ?_ ?_
  ·
    refine (keeps_State_modAi (sub_trans rfl hM)) ?_
    refine (keeps_State_wrN (sub_trans rfl hM)) ?_
    refine (keeps_State_wrI (sub_trans rfl hM)) ?_
    exact h16
  ·
    refine (keeps_State_modAi (sub_trans rfl hM)) ?_
    exact h16

theorem keeps_State_analogueSample {M : Nat} (hM : Nat.land 2251799813699585 M = 2251799813699585) {s0 : State} {s : State} {p1 : Vector (BitVec 16) 8} (h : Keeps M s0 s) : Keeps M s0 (State.analogueSample s p1) := by
  unfold State.analogueSample
  refine Keeps.forEach ?_ ?_
  ·
    refine (keeps_State_advanceTo (sub_trans rfl hM)) ?_
    exact h
  · intro t0 x1 h2
    beta_reduce
    refine (keeps_State_aiSample (sub_trans rfl hM)) ?_
    exact h2

theorem keeps_State_dioClear {M : Nat} (hM : Nat.land 2251799813685249 M = 2251799813685249) {s0 : State} {s : State} {p1 : Nat} (h : Keeps M s0 s) : Keeps M s0 (State.dioClear s p1) := by
  unfold State.dioClear
  extract_lets -merge -useContext -underBinder v0 v1
  have h2 : Keeps M s0 v0 := by
    unfold v0
    refine (keeps_State_dioOut (sub_trans rfl hM)) ?_
    exact h
  try clear_value v0
  try clear_value v1
  refine Keeps.up_io (sub_trans rfl hM) ?_
  exact h2

theorem keeps_State_fgRearm {M : Nat} (hM : Nat.land 1 M = 1) {s0 : State} {s : State} {p1 : Nat} (h : Keeps M s0 s) : KP M s0 (State.fgRearm s p1) := by
  unfold State.fgRearm
  refine ite_of (P := KP M s0) ?_ ?_
  ·
    refine KP.mk ?_
    refine (keeps_State_clrf (sub_trans rfl hM)) ?_
    exact h
  ·
    refine KP.mk ?_
    refine (keeps_State_setf (sub_trans rfl hM)) ?_
    exact h

theorem keeps_State_outputShort {M : Nat} (hM : Nat.land 2251799813691393 M = 2251799813691393) {s0 : State} {s : State} {p1 : Nat} (h : Keeps M s0 s) : Keeps M s0 (State.outputShort s p1) := by
  unfold State.outputShort
  refine ite_of (P := Keeps M s0) ?_ ?_
  ·
    refine (keeps_State_dioFault (sub_trans rfl hM)) ?_
    exact h
  ·
    exact h

theorem keeps_State_dioAccept {M : Nat} (hM : Nat.land 1 M = 1) {s0 : State} {s : State} {p1 : Nat} {p2 : Bool} {p3 : Nat} (h : Keeps M s0 s) : Keeps M s0 (State.dioAccept s p1 p2 p3) := by
  unfold State.dioAccept
  refine ite_of (P := Keeps M s0) ?_ ?_
  ·
    exact h
  ·
    extract_lets -merge -useContext -underBinder v0 v1
    try clear_value v0
    try clear_value v1
    refine (keeps_State_wrN (sub_trans rfl hM)) ?_
    refine (keeps_State_putB (sub_trans rfl hM)) ?_
    refine (keeps_State_wrN (sub_trans rfl hM)) ?_
    exact h

theorem keeps_State_shuntOpen {M : Nat} (hM : Nat.land 2251799813691393 M = 2251799813691393) {s0 : State} {s : State} {p1 : Nat} (h : Keeps M s0 s) : Keeps M s0 (State.shuntOpen s p1) := by
  unfold State.shuntOpen
  refine ite_of (P := Keeps M s0) ?_ ?_
  ·
    refine (keeps_State_group (sub_trans rfl hM)) ?_
    refine (keeps_State_event (sub_trans rfl hM)) ?_
    refine (keeps_State_modAi (sub_trans rfl hM)) ?_
    refine (keeps_State_setf (sub_trans rfl hM)) ?_
    exact h
  ·
    exact h

theorem keeps_State_fgClrCnt {M : Nat} (hM : Nat.land 1 M = 1) {s0 : State} {s : State} {p1 : Nat} (h : Keeps M s0 s) : Keeps M s0 (State.fgClrCnt s p1) := by
  unfold State.fgClrCnt
  refine (keeps_State_wrN (sub_trans rfl hM)) ?_
  exact h

end Sys2Proof.Machine
end

