-- ==== Sys2Proof/Laws/KeepPorts.lean ====
section
/-! SUPPORT. The operations of Machine/Ports.lean keep what `Keeps` says. -/

namespace Sys2Proof.Machine

theorem keeps_State_devRefs {M : Nat} (hM : Nat.land 536870912 M = 536870912) {s0 : State} {s : State} {p1 : Nat} {p2 : Nat} (h : Keeps M s0 s) : Keeps M s0 (State.devRefs s p1 p2) := by
  unfold State.devRefs
  extract_lets -merge -useContext -underBinder v0 v1
  try clear_value v0
  try clear_value v1
  refine (keeps_State_modLoop (sub_trans rfl hM)) ?_
  exact h

theorem keeps_State_devPreset {M : Nat} (hM : Nat.land 536870912 M = 536870912) {s0 : State} {s : State} {p1 : Nat} {p2 : Nat} (h : Keeps M s0 s) : Keeps M s0 (State.devPreset s p1 p2) := by
  unfold State.devPreset
  refine Keeps.forEach ?_ ?_
  ·
    exact h
  · intro t0 x1 h2
    beta_reduce
    refine (keeps_State_devRefs (sub_trans rfl hM)) ?_
    exact h2

theorem keeps_State_presetApply {M : Nat} (hM : Nat.land 772079617 M = 772079617) {s0 : State} {s : State} {p1 : Nat} {p2 : Nat} (h : Keeps M s0 s) : Keeps M s0 (State.presetApply s p1 p2) := by
  unfold State.presetApply
  refine ite_of (P := Keeps M s0) ?_ ?_
  ·
    extract_lets -merge -useContext -underBinder v0 v1 v2 v3
    have h4 : Keeps M s0 v0 := by
      unfold v0
      refine (keeps_State_coPort (sub_trans rfl hM)) ?_
      exact h
    try clear_value v0
    try clear_value v1
    try clear_value v2
    try clear_value v3
    refine (keeps_State_resolve (sub_trans rfl hM)) ?_
    refine (keeps_State_devPreset (sub_trans rfl hM)) ?_
    refine (keeps_State_coCountJump (sub_trans rfl hM)) ?_
    refine (keeps_State_modPort (sub_trans rfl hM)) ?_
    refine (keeps_State_putB (sub_trans rfl hM)) ?_
    exact h4
  ·
    exact h

theorem keeps_State_portSettings {M : Nat} (hM : Nat.land 2 M = 2) {s0 : State} {s : State} {p1 : Nat} {p2 : Nat} (h : Keeps M s0 s) : Keeps M s0 (State.portSettings s p1 p2) := by
  unfold State.portSettings
  extract_lets -merge -useContext -underBinder v0
  try clear_value v0
  refine foldl_of (P := Keeps M s0) ?_ ?_
  ·
    exact h
  · intro t1 x2 h3
    beta_reduce
    split
    ·
      refine (keeps_State_awr (sub_trans rfl hM)) ?_
      exact h3
    ·
      refine (keeps_State_commit (sub_trans rfl hM)) ?_
      exact h3

theorem keeps_State_portInvalid {M : Nat} (hM : Nat.land 1 M = 1) {s0 : State} {s : State} {p1 : Nat} (h : Keeps M s0 s) : Keeps M s0 (State.portInvalid s p1) := by
  unfold State.portInvalid
  refine (keeps_State_coSrcValid (sub_trans rfl hM)) ?_
  refine (keeps_State_clrf (sub_trans rfl hM)) ?_
  exact h

theorem keeps_State_portIndex {M : Nat} (hM : Nat.land 333825 M = 333825) {s0 : State} {s : State} {p1 : Nat} (h : Keeps M s0 s) : Keeps M s0 (State.portIndex s p1) := by
  unfold State.portIndex
  extract_lets -merge -useContext -underBinder v0 v1 v2 v3 v4 v5 v6
  have h7 : Keeps M s0 v0 := by
    unfold v0
    refine (keeps_State_coPort (sub_trans rfl hM)) ?_
    exact h
  try clear_value v0
  try clear_value v1
  try clear_value v2
  try clear_value v3
  have h8 : Keeps M s0 v4 := by
    unfold v4
    refine (keeps_State_modPort (sub_trans rfl hM)) ?_
    refine (keeps_State_wrI (sub_trans rfl hM)) ?_
    exact h7
  try clear_value v4
  try clear_value v5
  have h9 : Keeps M s0 v6 := by
    unfold v6
    refine (keeps_State_group (sub_trans rfl hM)) ?_
    refine (keeps_State_event (sub_trans rfl hM)) ?_
    refine (keeps_State_count (sub_trans rfl hM)) ?_
    refine (keeps_State_setf (sub_trans rfl hM)) ?_
    exact h8
  try clear_value v6
  refine ite_of (P := Keeps M s0) ?_ ?_
  ·
    exact h7
  ·
    refine ite_of (P := Keeps M s0) ?_ ?_
    ·
      refine ite_of (P := Keeps M s0) ?_ ?_
      ·
        refine (keeps_State_modPort (sub_trans rfl hM)) ?_
        refine (keeps_State_setf (sub_trans rfl hM)) ?_
        exact h7
      ·
        exact h7
    ·
      refine ite_of (P := Keeps M s0) ?_ ?_
      ·
        exact h8
      ·
        refine ite_of (P := Keeps M s0) ?_ ?_
        ·
          exact h9
        ·
          refine ite_of (P := Keeps M s0) ?_ ?_
          ·
            refine (keeps_State_coCountJump (sub_trans rfl hM)) ?_
            refine (keeps_State_modPort (sub_trans rfl hM)) ?_
            exact h9
          ·
            refine (keeps_State_event (sub_trans rfl hM)) ?_
            refine (keeps_State_portInvalid (sub_trans rfl hM)) ?_
            refine (keeps_State_clrf (sub_trans rfl hM)) ?_
            refine (keeps_State_setf (sub_trans rfl hM)) ?_
            exact h9

theorem keeps_State_ssiError {M : Nat} (hM : Nat.land 67585 M = 67585) {s0 : State} {s : State} {p1 : Nat} (h : Keeps M s0 s) : Keeps M s0 (State.ssiError s p1) := by
  unfold State.ssiError
  extract_lets -merge -useContext -underBinder v0 v1 v2
  try clear_value v0
  try clear_value v1
  have h3 : Keeps M s0 v2 := by
    unfold v2
    refine (keeps_State_modPort (sub_trans rfl hM)) ?_
    refine (keeps_State_count (sub_trans rfl hM)) ?_
    refine (keeps_State_setf (sub_trans rfl hM)) ?_
    exact h
  try clear_value v2
  refine ite_of (P := Keeps M s0) ?_ ?_
  ·
    refine (keeps_State_event (sub_trans rfl hM)) ?_
    refine (keeps_State_portInvalid (sub_trans rfl hM)) ?_
    exact h3
  ·
    exact h3

theorem keeps_State_portMissCheck {M : Nat} (hM : Nat.land 71681 M = 71681) {s0 : State} {s : State} {p1 : Nat} (h : Keeps M s0 s) : Keeps M s0 (State.portMissCheck s p1) := by
  unfold State.portMissCheck
  extract_lets -merge -useContext -underBinder v0
  try clear_value v0
  split
  ·
    refine ite_of (P := Keeps M s0) ?_ ?_
    ·
      refine (keeps_State_group (sub_trans rfl hM)) ?_
      refine (keeps_State_event (sub_trans rfl hM)) ?_
      refine (keeps_State_modPort (sub_trans rfl hM)) ?_
      refine (keeps_State_count (sub_trans rfl hM)) ?_
      refine (keeps_State_setf (sub_trans rfl hM)) ?_
      exact h
    ·
      exact h
  ·
    exact h

theorem keeps_State_ssiValue {M : Nat} (hM : Nat.land 333825 M = 333825) {s0 : State} {s : State} {p1 : Nat} {p2 : Nat} {p3 : Nat} (h : Keeps M s0 s) : Keeps M s0 (State.ssiValue s p1 p2 p3) := by
  unfold State.ssiValue
  extract_lets -merge -useContext -underBinder v0 v1 v2
  have h3 : Keeps M s0 v0 := by
    unfold v0
    refine (keeps_State_coPort (sub_trans rfl hM)) ?_
    exact h
  try clear_value v0
  try clear_value v1
  try clear_value v2
  split
  ·
    refine (keeps_State_modPort (sub_trans rfl hM)) ?_
    refine (keeps_State_coSrcValid (sub_trans rfl hM)) ?_
    refine (keeps_State_setf (sub_trans rfl hM)) ?_
    exact h3
  ·
    extract_lets -merge -useContext -underBinder v4 v5 v6 v7 v8 v9 v10
    try clear_value v4
    try clear_value v5
    try clear_value v6
    try clear_value v7
    have h11 : Keeps M s0 v8 := by
      unfold v8
      refine (keeps_State_modPort (sub_trans rfl hM)) ?_
      exact h3
    try clear_value v8
    have h12 : Keeps M s0 v9 := by
      unfold v9
      refine (keeps_State_wrI (sub_trans rfl hM)) ?_
      exact h11
    try clear_value v9
    have h13 : Keeps M s0 v10 := by
      unfold v10
      refine ite_of (P := Keeps M s0) ?_ ?_
      ·
        exact h12
      ·
        refine (keeps_State_putB (sub_trans rfl hM)) ?_
        exact h12
    try clear_value v10
    refine (keeps_State_portMissCheck (sub_trans rfl hM)) ?_
    refine (keeps_State_coCountChange (sub_trans rfl hM)) ?_
    exact h13

theorem keeps_State_ssiEnd {M : Nat} (hM : Nat.land 342017 M = 342017) {s0 : State} {s : State} {p1 : Nat} {p2 : Nat} (h : Keeps M s0 s) : Keeps M s0 (State.ssiEnd s p1 p2) := by
  unfold State.ssiEnd
  split
  ·
    exact h
  ·
    extract_lets -merge -useContext -underBinder v0 v1 v2 v3 v4 v5 v6 v7 v8 v9
    try clear_value v0
    try clear_value v1
    try clear_value v2
    try clear_value v3
    try clear_value v4
    try clear_value v5
    have h10 : Keeps M s0 v6 := by
      unfold v6
      refine (keeps_State_modPort (sub_trans rfl hM)) ?_
      refine (keeps_State_advanceTo (sub_trans rfl hM)) ?_
      exact h
    try clear_value v6
    try clear_value v7
    have h11 : Keeps M s0 v8 := by
      unfold v8
      refine (keeps_State_wr64N (sub_trans rfl hM)) ?_
      exact h10
    try clear_value v8
    try clear_value v9
    split
    ·
      refine (keeps_State_ssiError (sub_trans rfl hM)) ?_
      exact h11
    ·
      refine ite_of (P := Keeps M s0) ?_ ?_
      ·
        refine (keeps_State_ssiError (sub_trans rfl hM)) ?_
        exact h11
      ·
        extract_lets -merge -useContext -underBinder v12 v13
        try clear_value v12
        have h14 : Keeps M s0 v13 := by
          unfold v13
          refine ite_of (P := Keeps M s0) ?_ ?_
          ·
            refine (keeps_State_put (sub_trans rfl hM)) ?_
            exact h11
          ·
            exact h11
        try clear_value v13
        refine ite_of (P := Keeps M s0) ?_ ?_
        ·
          refine (keeps_State_modPort (sub_trans rfl hM)) ?_
          exact h14
        ·
          refine (keeps_State_ssiValue (sub_trans rfl hM)) ?_
          exact h14

theorem keeps_State_portCount {M : Nat} (hM : Nat.land 333825 M = 333825) {s0 : State} {s : State} {p1 : Nat} {p2 : Bool} {p3 : Nat} (h : Keeps M s0 s) : Keeps M s0 (State.portCount s p1 p2 p3) := by
  unfold State.portCount
  extract_lets -merge -useContext -underBinder v0 v1 v2 v3 v4
  have h5 : Keeps M s0 v0 := by
    unfold v0
    refine (keeps_State_coPort (sub_trans rfl hM)) ?_
    exact h
  try clear_value v0
  try clear_value v1
  try clear_value v2
  try clear_value v3
  have h6 : Keeps M s0 v4 := by
    unfold v4
    refine (keeps_State_modPort (sub_trans rfl hM)) ?_
    refine (keeps_State_clrf (sub_trans rfl hM)) ?_
    refine (keeps_State_putB (sub_trans rfl hM)) ?_
    exact h5
  try clear_value v4
  refine (keeps_State_portMissCheck (sub_trans rfl hM)) ?_
  refine (keeps_State_coCountChange (sub_trans rfl hM)) ?_
  exact h6

theorem keeps_State_portError {M : Nat} (hM : Nat.land 65537 M = 65537) {s0 : State} {s : State} {p1 : Nat} (h : Keeps M s0 s) : Keeps M s0 (State.portError s p1) := by
  unfold State.portError
  refine (keeps_State_modPort (sub_trans rfl hM)) ?_
  refine (keeps_State_setf (sub_trans rfl hM)) ?_
  refine (keeps_State_count (sub_trans rfl hM)) ?_
  exact h

theorem keeps_State_hallStep {M : Nat} (hM : Nat.land 333825 M = 333825) {s0 : State} {s : State} {p1 : Nat} {p2 : Nat} (h : Keeps M s0 s) : Keeps M s0 (State.hallStep s p1 p2) := by
  unfold State.hallStep
  split
  ·
    refine (keeps_State_modPort (sub_trans rfl hM)) ?_
    refine (keeps_State_put (sub_trans rfl hM)) ?_
    exact h
  ·
    extract_lets -merge -useContext -underBinder v0 v1
    try clear_value v0
    have h2 : Keeps M s0 v1 := by
      unfold v1
      refine (keeps_State_modPort (sub_trans rfl hM)) ?_
      refine (keeps_State_put (sub_trans rfl hM)) ?_
      exact h
    try clear_value v1
    split
    ·
      exact h2
    ·
      refine ite_of (P := Keeps M s0) ?_ ?_
      ·
        exact h2
      ·
        refine ite_of (P := Keeps M s0) ?_ ?_
        ·
          refine (keeps_State_portCount (sub_trans rfl hM)) ?_
          exact h2
        ·
          refine ite_of (P := Keeps M s0) ?_ ?_
          ·
            refine (keeps_State_portCount (sub_trans rfl hM)) ?_
            exact h2
          ·
            refine (keeps_State_portError (sub_trans rfl hM)) ?_
            exact h2

theorem keeps_State_modPair {M : Nat} (hM : Nat.land 65536 M = 65536) {s0 : State} {s : State} {p1 : Nat} {p2 : Nat} {p3 : PairSt → PairSt} (h : Keeps M s0 s) : Keeps M s0 (State.modPair s p1 p2 p3) := by
  unfold State.modPair
  refine (keeps_State_modPort (sub_trans rfl hM)) ?_
  exact h

theorem keeps_State_acceptPair {M : Nat} (hM : Nat.land 65536 M = 65536) {s0 : State} {s : State} {p1 : Nat} {p2 : Nat} (h : Keeps M s0 s) : Keeps M s0 (State.acceptPair s p1 p2) := by
  unfold State.acceptPair
  refine (keeps_State_modPair (sub_trans rfl hM)) ?_
  exact h

theorem keeps_State_indexToLatches {M : Nat} (hM : Nat.land 131072 M = 131072) {s0 : State} {s : State} {p1 : Nat} {p2 : Nat} (h : Keeps M s0 s) : Keeps M s0 (State.indexToLatches s p1 p2) := by
  unfold State.indexToLatches
  refine Keeps.forEach ?_ ?_
  ·
    exact h
  · intro t0 x1 h2
    beta_reduce
    refine ite_of (P := Keeps M s0) ?_ ?_
    ·
      refine (keeps_State_modLatch (sub_trans rfl hM)) ?_
      exact h2
    ·
      exact h2

theorem keeps_State_decode {M : Nat} (hM : Nat.land 464897 M = 464897) {s0 : State} {s : State} {p1 : Nat} {p2 : Nat} {p3 : Nat} {p4 : Bool} (h : Keeps M s0 s) : Keeps M s0 (State.decode s p1 p2 p3 p4) := by
  unfold State.decode
  extract_lets -merge -useContext -underBinder v0 v1 v2
  try clear_value v0
  try clear_value v1
  try clear_value v2
  split
  ·
    refine ite_of (P := Keeps M s0) ?_ ?_
    ·
      refine ite_of (P := Keeps M s0) ?_ ?_
      ·
        refine (keeps_State_portIndex (sub_trans rfl hM)) ?_
        refine (keeps_State_indexToLatches (sub_trans rfl hM)) ?_
        exact h
      ·
        exact h
    ·
      refine ite_of (P := Keeps M s0) ?_ ?_
      ·
        refine (keeps_State_portError (sub_trans rfl hM)) ?_
        exact h
      ·
        refine ite_of (P := Keeps M s0) ?_ ?_
        ·
          refine (keeps_State_portCount (sub_trans rfl hM)) ?_
          exact h
        ·
          refine (keeps_State_portCount (sub_trans rfl hM)) ?_
          exact h
  ·
    refine (keeps_State_hallStep (sub_trans rfl hM)) ?_
    exact h
  ·
    refine ite_of (P := Keeps M s0) ?_ ?_
    ·
      refine ite_of (P := Keeps M s0) ?_ ?_
      ·
        refine (keeps_State_portIndex (sub_trans rfl hM)) ?_
        refine (keeps_State_indexToLatches (sub_trans rfl hM)) ?_
        exact h
      ·
        exact h
    ·
      refine ite_of (P := Keeps M s0) ?_ ?_
      ·
        extract_lets -merge -useContext -underBinder v3
        try clear_value v3
        refine ite_of (P := Keeps M s0) ?_ ?_
        ·
          refine (keeps_State_portCount (sub_trans rfl hM)) ?_
          exact h
        ·
          exact h
      ·
        refine (keeps_State_modPort (sub_trans rfl hM)) ?_
        exact h
  ·
    exact h

theorem keeps_State_acceptOne {M : Nat} (hM : Nat.land 464897 M = 464897) {s0 : State} {s : State} {p1 : Nat} {p2 : Nat} {p3 : Nat} {p4 : Nat} (h : Keeps M s0 s) : Keeps M s0 (State.acceptOne s p1 p2 p3 p4) := by
  unfold State.acceptOne
  refine ite_of (P := Keeps M s0) ?_ ?_
  ·
    refine (keeps_State_decode (sub_trans rfl hM)) ?_
    refine foldl_of (P := Keeps M s0) ?_ ?_
    ·
      exact h
    · intro t0 x1 h2
      beta_reduce
      refine ite_of (P := Keeps M s0) ?_ ?_
      ·
        refine (keeps_State_acceptPair (sub_trans rfl hM)) ?_
        exact h2
      ·
        exact h2
  ·
    extract_lets -merge -useContext -underBinder v3
    try clear_value v3
    refine (keeps_State_decode (sub_trans rfl hM)) ?_
    refine (keeps_State_acceptPair (sub_trans rfl hM)) ?_
    refine ite_of (P := Keeps M s0) ?_ ?_
    ·
      refine (keeps_State_acceptPair (sub_trans rfl hM)) ?_
      exact h
    ·
      exact h

theorem keeps_State_ssiRelease {M : Nat} (hM : Nat.land 65536 M = 65536) {s0 : State} {s : State} (h : Keeps M s0 s) : Keeps M s0 (State.ssiRelease s) := by
  unfold State.ssiRelease
  refine Keeps.forEach ?_ ?_
  ·
    exact h
  · intro t0 x1 h2
    beta_reduce
    refine (keeps_State_modPort (sub_trans rfl hM)) ?_
    exact h2

theorem keeps_State_portWireFault {M : Nat} (hM : Nat.land 79873 M = 79873) {s0 : State} {s : State} {p1 : Nat} {p2 : Nat} {p3 : Nat} (h : Keeps M s0 s) : Keeps M s0 (State.portWireFault s p1 p2 p3) := by
  unfold State.portWireFault
  extract_lets -merge -useContext -underBinder v0 v1
  have h2 : Keeps M s0 v0 := by
    unfold v0
    refine (keeps_State_advanceTo (sub_trans rfl hM)) ?_
    exact h
  try clear_value v0
  try clear_value v1
  refine (keeps_State_group (sub_trans rfl hM)) ?_
  refine (keeps_State_event (sub_trans rfl hM)) ?_
  refine (keeps_State_portInvalid (sub_trans rfl hM)) ?_
  refine (keeps_State_modPort (sub_trans rfl hM)) ?_
  refine (keeps_State_clrf (sub_trans rfl hM)) ?_
  refine (keeps_State_count (sub_trans rfl hM)) ?_
  refine (keeps_State_put (sub_trans rfl hM)) ?_
  refine (keeps_State_setf (sub_trans rfl hM)) ?_
  exact h2

theorem keeps_State_wireFault {M : Nat} (hM : Nat.land 79873 M = 79873) {s0 : State} {s : State} {p1 : Nat} {p2 : Nat} (h : Keeps M s0 s) : Keeps M s0 (State.wireFault s p1 p2) := by
  unfold State.wireFault
  extract_lets -merge -useContext -underBinder v0 v1
  try clear_value v0
  try clear_value v1
  split
  ·
    refine ite_of (P := Keeps M s0) ?_ ?_
    ·
      exact h
    ·
      refine (keeps_State_portWireFault (sub_trans rfl hM)) ?_
      exact h
  ·
    exact h

theorem keeps_State_speedWindow {M : Nat} (hM : Nat.land 2049 M = 2049) {s0 : State} {s : State} {p1 : Nat} {p2 : Nat} (h : Keeps M s0 s) : Keeps M s0 (State.speedWindow s p1 p2) := by
  unfold State.speedWindow
  extract_lets -merge -useContext -underBinder v0 v1 v2 v3 v4 v5 v6 v7 v8 v9 v10 v11 v12 v13 v14 v15 v16 v17 v18
  try clear_value v0
  try clear_value v1
  try clear_value v2
  try clear_value v3
  try clear_value v4
  try clear_value v5
  try clear_value v6
  try clear_value v7
  try clear_value v8
  try clear_value v9
  try clear_value v10
  try clear_value v11
  try clear_value v12
  try clear_value v13
  have h19 : Keeps M s0 v14 := by
    unfold v14
    refine (keeps_State_wrI (sub_trans rfl hM)) ?_
    refine (keeps_State_wrN (sub_trans rfl hM)) ?_
    refine (keeps_State_wrN (sub_trans rfl hM)) ?_
    refine (keeps_State_wrI (sub_trans rfl hM)) ?_
    exact h
  try clear_value v14
  have h20 : Keeps M s0 v15 := by
    unfold v15
    refine (keeps_State_putB (sub_trans rfl hM)) ?_
    refine (keeps_State_putB (sub_trans rfl hM)) ?_
    exact h19
  try clear_value v15
  have h21 : Keeps M s0 v16 := by
    unfold v16
    refine ite_of (P := Keeps M s0) ?_ ?_
    ·
      refine (keeps_State_setf (sub_trans rfl hM)) ?_
      exact h20
    ·
      exact h20
  try clear_value v16
  try clear_value v17
  try clear_value v18
  refine ite_of (P := Keeps M s0) ?_ ?_
  ·
    refine (keeps_State_event (sub_trans rfl hM)) ?_
    refine (keeps_State_portInvalid (sub_trans rfl hM)) ?_
    exact h21
  ·
    exact h21

theorem keeps_State_portTake {M : Nat} (hM : Nat.land 67585 M = 67585) {s0 : State} {s : State} {p1 : Nat} {p2 : Nat} (h : Keeps M s0 s) : Keeps M s0 (State.portTake s p1 p2) := by
  unfold State.portTake
  refine ite_of (P := Keeps M s0) ?_ ?_
  ·
    extract_lets -merge -useContext -underBinder v0 v1 v2 v3 v4
    try clear_value v0
    have h5 : Keeps M s0 v1 := by
      unfold v1
      refine (keeps_State_wrN (sub_trans rfl hM)) ?_
      refine (keeps_State_wr64I (sub_trans rfl hM)) ?_
      exact h
    try clear_value v1
    have h6 : Keeps M s0 v2 := by
      unfold v2
      refine ite_of (P := Keeps M s0) ?_ ?_
      ·
        exact h5
      ·
        refine (keeps_State_speedWindow (sub_trans rfl hM)) ?_
        exact h5
    try clear_value v2
    try clear_value v3
    try clear_value v4
    refine (keeps_State_modPort (sub_trans rfl hM)) ?_
    exact h6
  ·
    exact h

theorem keeps_State_portRearm {M : Nat} (hM : Nat.land 65537 M = 65537) {s0 : State} {s : State} {p1 : Nat} (h : Keeps M s0 s) : Keeps M s0 (State.portRearm s p1) := by
  unfold State.portRearm
  refine (keeps_State_modPort (sub_trans rfl hM)) ?_
  refine (keeps_State_clrf (sub_trans rfl hM)) ?_
  exact h

theorem keeps_State_ssiWire {M : Nat} (hM : Nat.land 65536 M = 65536) {s0 : State} {s : State} {p1 : Nat} {p2 : Nat} {p3 : Bool} {p4 : Nat} (h : Keeps M s0 s) : Keeps M s0 (State.ssiWire s p1 p2 p3 p4) := by
  unfold State.ssiWire
  refine ite_of (P := Keeps M s0) ?_ ?_
  ·
    exact h
  ·
    refine ite_of (P := Keeps M s0) ?_ ?_
    ·
      refine (keeps_State_modPort (sub_trans rfl hM)) ?_
      exact h
    ·
      refine ite_of (P := Keeps M s0) ?_ ?_
      ·
        refine (keeps_State_modPort (sub_trans rfl hM)) ?_
        exact h
      ·
        exact h

theorem keeps_State_portAfter {M : Nat} (hM : Nat.land 772079619 M = 772079619) {s0 : State} {s : State} {p1 : Nat} {p2 : Nat} (h : Keeps M s0 s) : Keeps M s0 (State.portAfter s p1 p2) := by
  unfold State.portAfter
  refine (keeps_State_portSettings (sub_trans rfl hM)) ?_
  refine ite_of (P := Keeps M s0) ?_ ?_
  ·
    refine (keeps_State_presetApply (sub_trans rfl hM)) ?_
    exact h
  ·
    exact h

theorem keeps_State_hallTake {M : Nat} (hM : Nat.land 65537 M = 65537) {s0 : State} {s : State} {p1 : Nat} (h : Keeps M s0 s) : Keeps M s0 (State.hallTake s p1) := by
  unfold State.hallTake
  extract_lets -merge -useContext -underBinder v0
  try clear_value v0
  refine (keeps_State_modPort (sub_trans rfl hM)) ?_
  refine (keeps_State_put (sub_trans rfl hM)) ?_
  exact h

theorem keeps_State_portReval {M : Nat} (hM : Nat.land 65537 M = 65537) {s0 : State} {s : State} {p1 : Nat} (h : Keeps M s0 s) : Keeps M s0 (State.portReval s p1) := by
  unfold State.portReval
  refine ite_of (P := Keeps M s0) ?_ ?_
  ·
    exact h
  ·
    extract_lets -merge -useContext -underBinder v0
    have h1 : Keeps M s0 v0 := by
      unfold v0
      refine (keeps_State_coSrcValid (sub_trans rfl hM)) ?_
      refine (keeps_State_setf (sub_trans rfl hM)) ?_
      exact h
    try clear_value v0
    refine ite_of (P := Keeps M s0) ?_ ?_
    ·
      refine (keeps_State_hallTake (sub_trans rfl hM)) ?_
      refine (keeps_State_modPort (sub_trans rfl hM)) ?_
      exact h1
    ·
      exact h1

theorem keeps_State_lineBad {M : Nat} (hM : Nat.land 1 M = 1) {s0 : State} {s : State} {p1 : Nat} (h : Keeps M s0 s) : Keeps M s0 (State.lineBad s p1) := by
  unfold State.lineBad
  refine (keeps_State_putB (sub_trans rfl hM)) ?_
  exact h

theorem keeps_State_suspects {M : Nat} (hM : Nat.land 65537 M = 65537) {s0 : State} {s : State} {p1 : Nat} (h : Keeps M s0 s) : Keeps M s0 (State.suspects s p1) := by
  unfold State.suspects
  refine (keeps_State_lineBad (sub_trans rfl hM)) ?_
  refine foldl_of (P := Keeps M s0) ?_ ?_
  ·
    exact h
  · intro t0 x1 h2
    beta_reduce
    refine (keeps_State_modPair (sub_trans rfl hM)) ?_
    exact h2

theorem keeps_State_portEnable {M : Nat} (hM : Nat.land 65537 M = 65537) {s0 : State} {s : State} {p1 : Nat} (h : Keeps M s0 s) : Keeps M s0 (State.portEnable s p1) := by
  unfold State.portEnable
  extract_lets -merge -useContext -underBinder v0 v1
  have h2 : Keeps M s0 v0 := by
    unfold v0
    refine (keeps_State_putB (sub_trans rfl hM)) ?_
    refine (keeps_State_clrf (sub_trans rfl hM)) ?_
    exact h
  try clear_value v0
  try clear_value v1
  refine (keeps_State_coSrcValid (sub_trans rfl hM)) ?_
  refine (keeps_State_hallTake (sub_trans rfl hM)) ?_
  refine (keeps_State_modPort (sub_trans rfl hM)) ?_
  refine (keeps_State_clrf (sub_trans rfl hM)) ?_
  exact h2

theorem keeps_State_portClrFlags {M : Nat} (hM : Nat.land 1 M = 1) {s0 : State} {s : State} {p1 : Nat} (h : Keeps M s0 s) : Keeps M s0 (State.portClrFlags s p1) := by
  unfold State.portClrFlags
  refine (keeps_State_clrBits (sub_trans rfl hM)) ?_
  exact h

theorem keeps_State_ssiStart {M : Nat} (hM : Nat.land 65537 M = 65537) {s0 : State} {s : State} {p1 : Nat} {p2 : Nat} (h : Keeps M s0 s) : Keeps M s0 (State.ssiStart s p1 p2) := by
  unfold State.ssiStart
  extract_lets -merge -useContext -underBinder v0 v1
  try clear_value v0
  have h2 : Keeps M s0 v1 := by
    unfold v1
    refine (keeps_State_modPort (sub_trans rfl hM)) ?_
    exact h
  try clear_value v1
  refine ite_of (P := Keeps M s0) ?_ ?_
  ·
    exact h
  ·
    refine ite_of (P := Keeps M s0) ?_ ?_
    ·
      refine (keeps_State_modPort (sub_trans rfl hM)) ?_
      refine (keeps_State_setf (sub_trans rfl hM)) ?_
      exact h2
    ·
      refine (keeps_State_modPort (sub_trans rfl hM)) ?_
      exact h2

theorem keeps_State_portClrCnt {M : Nat} (hM : Nat.land 1 M = 1) {s0 : State} {s : State} {p1 : Nat} (h : Keeps M s0 s) : Keeps M s0 (State.portClrCnt s p1) := by
  unfold State.portClrCnt
  refine (keeps_State_wrN (sub_trans rfl hM)) ?_
  exact h

theorem keeps_State_stillTimeout {M : Nat} (hM : Nat.land 8193 M = 8193) {s0 : State} {s : State} {p1 : Nat} (h : Keeps M s0 s) : Keeps M s0 (State.stillTimeout s p1) := by
  unfold State.stillTimeout
  extract_lets -merge -useContext -underBinder v0
  try clear_value v0
  refine ite_of (P := Keeps M s0) ?_ ?_
  ·
    refine (keeps_State_setf (sub_trans rfl hM)) ?_
    refine (keeps_State_advanceTo (sub_trans rfl hM)) ?_
    exact h
  ·
    exact h

theorem keeps_State_portLoad {M : Nat} (hM : Nat.land 65536 M = 65536) {s0 : State} {s : State} {p1 : Nat} (h : Keeps M s0 s) : Keeps M s0 (State.portLoad s p1) := by
  unfold State.portLoad
  refine (keeps_State_modPort (sub_trans rfl hM)) ?_
  exact h

theorem keeps_State_levelAccepted {M : Nat} (hM : Nat.land 473089 M = 473089) {s0 : State} {s : State} {p1 : Nat} {p2 : Nat} (h : Keeps M s0 s) : Keeps M s0 (State.levelAccepted s p1 p2) := by
  unfold State.levelAccepted
  extract_lets -merge -useContext -underBinder v0
  try clear_value v0
  split
  ·
    extract_lets -merge -useContext -underBinder v1 v2
    have h3 : Keeps M s0 v1 := by
      unfold v1
      refine (keeps_State_advanceTo (sub_trans rfl hM)) ?_
      exact h
    try clear_value v1
    have h4 : ∀ x5 x7, Keeps M s0 x5 → Keeps M s0 (v2 x5 x7) := by
      intro x5 x7 h6
      unfold v2
      beta_reduce
      refine ite_of (P := Keeps M s0) ?_ ?_
      ·
        refine (keeps_State_acceptOne (sub_trans rfl hM)) ?_
        exact h6
      ·
        exact h6
    try clear_value v2
    refine ite_of (P := Keeps M s0) ?_ ?_
    ·
      refine (keeps_State_acceptPair (sub_trans rfl hM)) ?_
      exact h3
    ·
      refine ite_of (P := Keeps M s0) ?_ ?_
      ·
        refine (keeps_State_acceptOne (sub_trans rfl hM)) ?_
        refine h4 _ _ ?_
        refine h4 _ _ ?_
        exact h3
      ·
        refine (keeps_State_acceptOne (sub_trans rfl hM)) ?_
        exact h3
  ·
    exact h

theorem keeps_State_portStage {M : Nat} (hM : Nat.land 65536 M = 65536) {s0 : State} {s : State} {p1 : Nat} {p2 : Nat} (h : Keeps M s0 s) : Keeps M s0 (State.portStage s p1 p2) := by
  unfold State.portStage
  refine (keeps_State_modPort (sub_trans rfl hM)) ?_
  exact h

theorem keeps_State_portSync {M : Nat} (hM : Nat.land 772081667 M = 772081667) {s0 : State} {s : State} {p1 : Nat} {p2 : Nat} (h : Keeps M s0 s) : Keeps M s0 (State.portSync s p1 p2) := by
  unfold State.portSync
  refine (keeps_State_portAfter (sub_trans rfl hM)) ?_
  refine (keeps_State_portTake (sub_trans rfl hM)) ?_
  exact h

theorem keeps_State_pairTransition {M : Nat} (hM : Nat.land 473089 M = 473089) {s0 : State} {s : State} {p1 : Nat} {p2 : Nat} {p3 : Bool} {p4 : Bool} {p5 : Nat} (h : Keeps M s0 s) : Keeps M s0 (State.pairTransition s p1 p2 p3 p4 p5) := by
  unfold State.pairTransition
  extract_lets -merge -useContext -underBinder v0 v1 v2 v3 v4 v5 v6 v7 v8 v9
  try clear_value v0
  have h10 : Keeps M s0 v1 := by
    unfold v1
    refine (keeps_State_advanceTo (sub_trans rfl hM)) ?_
    exact h
  try clear_value v1
  try clear_value v2
  have h11 : Keeps M s0 v3 := by
    unfold v3
    refine ite_of (P := Keeps M s0) ?_ ?_
    ·
      refine (keeps_State_levelAccepted (sub_trans rfl hM)) ?_
      exact h10
    ·
      exact h10
  try clear_value v3
  try clear_value v4
  try clear_value v5
  try clear_value v6
  try clear_value v7
  have h12 : Keeps M s0 v8 := by
    unfold v8
    refine (keeps_State_put (sub_trans rfl hM)) ?_
    exact h11
  try clear_value v8
  have h13 : Keeps M s0 v9 := by
    unfold v9
    refine (keeps_State_suspects (sub_trans rfl hM)) ?_
    refine (keeps_State_modPair (sub_trans rfl hM)) ?_
    exact h12
  try clear_value v9
  refine ite_of (P := Keeps M s0) ?_ ?_
  ·
    exact h13
  ·
    refine (keeps_State_ssiWire (sub_trans rfl hM)) ?_
    exact h13

end Sys2Proof.Machine
end

