-- ==== Sys2Proof/Laws/KeepLatch.lean ====
section
/-! SUPPORT. The operations of Machine/Latch.lean keep what `Keeps` says. -/

namespace Sys2Proof.Machine

theorem keeps_State_latchRegs {M : Nat} (hM : Nat.land 1 M = 1) {s0 : State} {s : State} {p1 : Nat} (h : Keeps M s0 s) : Keeps M s0 (State.latchRegs s p1) := by
  unfold State.latchRegs
  extract_lets -merge -useContext -underBinder v0 v1
  try clear_value v0
  have h2 : Keeps M s0 v1 := by
    unfold v1
    refine (keeps_State_put (sub_trans rfl hM)) ?_
    exact h
  try clear_value v1
  split
  ·
    refine (keeps_State_wrN (sub_trans rfl hM)) ?_
    refine (keeps_State_wr64N (sub_trans rfl hM)) ?_
    refine (keeps_State_wr64N (sub_trans rfl hM)) ?_
    exact h2
  ·
    refine (keeps_State_wrN (sub_trans rfl hM)) ?_
    refine (keeps_State_wr64I (sub_trans rfl hM)) ?_
    refine (keeps_State_wr64N (sub_trans rfl hM)) ?_
    exact h2

theorem keeps_State_latchClr {M : Nat} (hM : Nat.land 131073 M = 131073) {s0 : State} {s : State} {p1 : Nat} (h : Keeps M s0 s) : Keeps M s0 (State.latchClr s p1) := by
  unfold State.latchClr
  refine (keeps_State_latchRegs (sub_trans rfl hM)) ?_
  refine (keeps_State_modLatch (sub_trans rfl hM)) ?_
  exact h

theorem keeps_State_latchPush {M : Nat} (hM : Nat.land 131073 M = 131073) {s0 : State} {s : State} {p1 : Nat} {p2 : LatchEnt} (h : Keeps M s0 s) : Keeps M s0 (State.latchPush s p1 p2) := by
  unfold State.latchPush
  extract_lets -merge -useContext -underBinder v0 v1
  try clear_value v0
  have h2 : Keeps M s0 v1 := by
    unfold v1
    refine (keeps_State_modLatch (sub_trans rfl hM)) ?_
    refine (keeps_State_count (sub_trans rfl hM)) ?_
    refine (keeps_State_setf (sub_trans rfl hM)) ?_
    exact h
  try clear_value v1
  refine ite_of (P := Keeps M s0) ?_ ?_
  ·
    refine ite_of (P := Keeps M s0) ?_ ?_
    ·
      refine (keeps_State_latchRegs (sub_trans rfl hM)) ?_
      refine (keeps_State_modLatch (sub_trans rfl hM)) ?_
      exact h2
    ·
      exact h2
  ·
    refine (keeps_State_latchRegs (sub_trans rfl hM)) ?_
    refine (keeps_State_modLatch (sub_trans rfl hM)) ?_
    exact h

theorem keeps_State_regTarget {M : Nat} (hM : Nat.land 524289 M = 524289) {s0 : State} {s : State} {p1 : Nat} {p2 : Int} {p3 : Nat} (h : Keeps M s0 s) : Keeps M s0 (State.regTarget s p1 p2 p3) := by
  unfold State.regTarget
  extract_lets -merge -useContext -underBinder v0 v1 v2
  try clear_value v0
  try clear_value v1
  have h3 : Keeps M s0 v2 := by
    unfold v2
    refine ite_of (P := Keeps M s0) ?_ ?_
    ·
      exact h
    ·
      refine (keeps_State_setf (sub_trans rfl hM)) ?_
      exact h
  try clear_value v2
  refine (keeps_State_wr64I (sub_trans rfl hM)) ?_
  refine (keeps_State_modRc (sub_trans rfl hM)) ?_
  exact h3

theorem keeps_State_regClrTgt {M : Nat} (hM : Nat.land 524289 M = 524289) {s0 : State} {s : State} {p1 : Nat} (h : Keeps M s0 s) : Keeps M s0 (State.regClrTgt s p1) := by
  unfold State.regClrTgt
  refine ite_of (P := Keeps M s0) ?_ ?_
  ·
    refine (keeps_State_modRc (sub_trans rfl hM)) ?_
    refine (keeps_State_regTarget (sub_trans rfl hM)) ?_
    exact h
  ·
    exact h

theorem keeps_State_regFlags {M : Nat} (hM : Nat.land 1 M = 1) {s0 : State} {s : State} {p1 : Nat} (h : Keeps M s0 s) : Keeps M s0 (State.regFlags s p1) := by
  unfold State.regFlags
  extract_lets -merge -useContext -underBinder v0
  try clear_value v0
  refine (keeps_State_putB (sub_trans rfl hM)) ?_
  refine (keeps_State_putB (sub_trans rfl hM)) ?_
  exact h

theorem keeps_State_regMark {M : Nat} (hM : Nat.land 524289 M = 524289) {s0 : State} {s : State} {p1 : Nat} {p2 : LatchEnt} (h : Keeps M s0 s) : Keeps M s0 (State.regMark s p1 p2) := by
  unfold State.regMark
  extract_lets -merge -useContext -underBinder v0 v1 v2 v3 v4 v5 v6 v7 v8 v9
  have h10 : Keeps M s0 v0 := by
    unfold v0
    refine (keeps_State_regFlags (sub_trans rfl hM)) ?_
    exact h
  try clear_value v0
  try clear_value v1
  try clear_value v2
  try clear_value v3
  try clear_value v4
  try clear_value v5
  try clear_value v6
  have h11 : Keeps M s0 v7 := by
    unfold v7
    refine (keeps_State_modRc (sub_trans rfl hM)) ?_
    refine (keeps_State_clrf (sub_trans rfl hM)) ?_
    refine (keeps_State_setf (sub_trans rfl hM)) ?_
    refine (keeps_State_wr64I (sub_trans rfl hM)) ?_
    exact h10
  try clear_value v7
  try clear_value v8
  have h12 : Keeps M s0 v9 := by
    unfold v9
    refine (keeps_State_modRc (sub_trans rfl hM)) ?_
    exact h11
  try clear_value v9
  refine ite_of (P := Keeps M s0) ?_ ?_
  ·
    exact h10
  ·
    refine ite_of (P := Keeps M s0) ?_ ?_
    ·
      refine (keeps_State_count (sub_trans rfl hM)) ?_
      exact h10
    ·
      refine ite_of (P := Keeps M s0) ?_ ?_
      ·
        refine (keeps_State_count (sub_trans rfl hM)) ?_
        exact h10
      ·
        refine ite_of (P := Keeps M s0) ?_ ?_
        ·
          refine (keeps_State_count (sub_trans rfl hM)) ?_
          exact h10
        ·
          refine ite_of (P := Keeps M s0) ?_ ?_
          ·
            exact h11
          ·
            refine ite_of (P := Keeps M s0) ?_ ?_
            ·
              exact h12
            ·
              refine (keeps_State_regTarget (sub_trans rfl hM)) ?_
              exact h12

theorem keeps_State_latchEdge {M : Nat} (hM : Nat.land 139264 M = 139264) {s0 : State} {s : State} {p1 : Nat} (h : Keeps M s0 s) : Keeps M s0 (State.latchEdge s p1) := by
  unfold State.latchEdge
  extract_lets -merge -useContext -underBinder v0
  try clear_value v0
  split
  ·
    exact h
  ·
    extract_lets -merge -useContext -underBinder v1 v2
    have h3 : Keeps M s0 v1 := by
      unfold v1
      refine (keeps_State_modLatch (sub_trans rfl hM)) ?_
      refine (keeps_State_advanceTo (sub_trans rfl hM)) ?_
      exact h
    try clear_value v1
    try clear_value v2
    refine ite_of (P := Keeps M s0) ?_ ?_
    ·
      refine (keeps_State_modLatch (sub_trans rfl hM)) ?_
      exact h3
    ·
      exact h3

theorem keeps_State_latchWire {M : Nat} (hM : Nat.land 139265 M = 139265) {s0 : State} {s : State} {p1 : Nat} {p2 : Bool} {p3 : Bool} {p4 : Nat} (h : Keeps M s0 s) : Keeps M s0 (State.latchWire s p1 p2 p3 p4) := by
  unfold State.latchWire
  extract_lets -merge -useContext -underBinder v0 v1 v2 v3 v4 v5 v6 v7
  try clear_value v0
  have h8 : Keeps M s0 v1 := by
    unfold v1
    refine (keeps_State_advanceTo (sub_trans rfl hM)) ?_
    exact h
  try clear_value v1
  have h9 : Keeps M s0 v2 := by
    unfold v2
    refine ite_of (P := Keeps M s0) ?_ ?_
    ·
      refine (keeps_State_latchEdge (sub_trans rfl hM)) ?_
      exact h8
    ·
      exact h8
  try clear_value v2
  try clear_value v3
  try clear_value v4
  try clear_value v5
  try clear_value v6
  have h10 : ∀ x11 x13, Keeps M s0 x11 → Keeps M s0 (v7 x11 x13) := by
    intro x11 x13 h12
    unfold v7
    beta_reduce
    refine (keeps_State_modLatch (sub_trans rfl hM)) ?_
    exact h12
  try clear_value v7
  refine ite_of (P := Keeps M s0) ?_ ?_
  ·
    refine h10 _ _ ?_
    exact h9
  ·
    refine ite_of (P := Keeps M s0) ?_ ?_
    ·
      refine (keeps_State_count (sub_trans rfl hM)) ?_
      refine h10 _ _ ?_
      exact h9
    ·
      refine ite_of (P := Keeps M s0) ?_ ?_
      ·
        refine h10 _ _ ?_
        exact h9
      ·
        refine (keeps_State_modLatch (sub_trans rfl hM)) ?_
        refine h10 _ _ ?_
        exact h9

theorem keeps_State_wireTransition {M : Nat} (hM : Nat.land 473089 M = 473089) {s0 : State} {s : State} {p1 : Wire} {p2 : Bool} {p3 : Bool} {p4 : Nat} (h : Keeps M s0 s) : Keeps M s0 (State.wireTransition s p1 p2 p3 p4) := by
  unfold State.wireTransition
  split
  ·
    refine (keeps_State_pairTransition (sub_trans rfl hM)) ?_
    exact h
  ·
    refine (keeps_State_latchWire (sub_trans rfl hM)) ?_
    exact h

theorem keeps_State_latchPop {M : Nat} (hM : Nat.land 131073 M = 131073) {s0 : State} {s : State} {p1 : Nat} (h : Keeps M s0 s) : Keeps M s0 (State.latchPop s p1) := by
  unfold State.latchPop
  split
  ·
    refine ite_of (P := Keeps M s0) ?_ ?_
    ·
      extract_lets -merge -useContext -underBinder v0
      have h1 : Keeps M s0 v0 := by
        unfold v0
        refine (keeps_State_put (sub_trans rfl hM)) ?_
        refine (keeps_State_put (sub_trans rfl hM)) ?_
        exact h
      try clear_value v0
      refine (keeps_State_latchRegs (sub_trans rfl hM)) ?_
      refine (keeps_State_modLatch (sub_trans rfl hM)) ?_
      exact h1
    ·
      refine (keeps_State_latchRegs (sub_trans rfl hM)) ?_
      refine (keeps_State_modLatch (sub_trans rfl hM)) ?_
      exact h
  ·
    refine (keeps_State_latchRegs (sub_trans rfl hM)) ?_
    refine (keeps_State_modLatch (sub_trans rfl hM)) ?_
    exact h

theorem keeps_State_latchComplete {M : Nat} (hM : Nat.land 663553 M = 663553) {s0 : State} {s : State} {p1 : Nat} (h : Keeps M s0 s) : Keeps M s0 (State.latchComplete s p1) := by
  unfold State.latchComplete
  split
  ·
    exact h
  ·
    extract_lets -merge -useContext -underBinder v0 v1 v2 v3 v4 v5 v6
    try clear_value v0
    try clear_value v1
    try clear_value v2
    try clear_value v3
    try clear_value v4
    have h7 : Keeps M s0 v5 := by
      unfold v5
      refine (keeps_State_modLatch (sub_trans rfl hM)) ?_
      refine (keeps_State_advanceTo (sub_trans rfl hM)) ?_
      exact h
    try clear_value v5
    try clear_value v6
    refine (keeps_State_regMark (sub_trans rfl hM)) ?_
    refine (keeps_State_latchPush (sub_trans rfl hM)) ?_
    exact h7

theorem keeps_State_latchClrCnt {M : Nat} (hM : Nat.land 1 M = 1) {s0 : State} {s : State} {p1 : Nat} (h : Keeps M s0 s) : Keeps M s0 (State.latchClrCnt s p1) := by
  unfold State.latchClrCnt
  refine (keeps_State_put (sub_trans rfl hM)) ?_
  refine (keeps_State_put (sub_trans rfl hM)) ?_
  exact h

theorem keeps_State_regMiss {M : Nat} (hM : Nat.land 526337 M = 526337) {s0 : State} {s : State} {p1 : Nat} {p2 : Nat} (h : Keeps M s0 s) : Keeps M s0 (State.regMiss s p1 p2) := by
  unfold State.regMiss
  extract_lets -merge -useContext -underBinder v0 v1
  try clear_value v0
  try clear_value v1
  refine ite_of (P := Keeps M s0) ?_ ?_
  ·
    exact h
  ·
    refine ite_of (P := Keeps M s0) ?_ ?_
    ·
      refine (keeps_State_modRc (sub_trans rfl hM)) ?_
      exact h
    ·
      split
      ·
        refine (keeps_State_modRc (sub_trans rfl hM)) ?_
        exact h
      ·
        refine ite_of (P := Keeps M s0) ?_ ?_
        ·
          exact h
        ·
          extract_lets -merge -useContext -underBinder v2 v3 v4 v5 v6
          try clear_value v2
          try clear_value v3
          try clear_value v4
          try clear_value v5
          have h7 : Keeps M s0 v6 := by
            unfold v6
            refine (keeps_State_put (sub_trans rfl hM)) ?_
            refine (keeps_State_modRc (sub_trans rfl hM)) ?_
            exact h
          try clear_value v6
          refine ite_of (P := Keeps M s0) ?_ ?_
          ·
            refine (keeps_State_event (sub_trans rfl hM)) ?_
            refine (keeps_State_setf (sub_trans rfl hM)) ?_
            exact h7
          ·
            exact h7

theorem keeps_State_regMissOf {M : Nat} (hM : Nat.land 526337 M = 526337) {s0 : State} {s : State} {p1 : Nat} {p2 : Nat} (h : Keeps M s0 s) : Keeps M s0 (State.regMissOf s p1 p2) := by
  unfold State.regMissOf
  refine Keeps.forEach ?_ ?_
  ·
    exact h
  · intro t0 x1 h2
    beta_reduce
    refine ite_of (P := Keeps M s0) ?_ ?_
    ·
      refine (keeps_State_regMiss (sub_trans rfl hM)) ?_
      exact h2
    ·
      exact h2

end Sys2Proof.Machine
end

