-- ==== Sys2Proof/Laws/KeepLog.lean ====
section
/-! SUPPORT. The operations of Machine/Log.lean keep what `Keeps` says. -/

namespace Sys2Proof.Machine

theorem keeps_State_modLog {M : Nat} (hM : Nat.land 18014398509481984 M = 18014398509481984) {s0 : State} {s : State} {p1 : LogSt → LogSt} (h : Keeps M s0 s) : Keeps M s0 (State.modLog s p1) := by
  unfold State.modLog
  refine Keeps.up_log (sub_trans rfl hM) ?_
  exact h

theorem keeps_State_stageRegs {M : Nat} (hM : Nat.land 1 M = 1) {s0 : State} {s : State} (h : Keeps M s0 s) : Keeps M s0 (State.stageRegs s) := by
  unfold State.stageRegs
  extract_lets -merge -useContext -underBinder v0
  try clear_value v0
  refine (keeps_State_put (sub_trans rfl hM)) ?_
  refine (keeps_State_putB (sub_trans rfl hM)) ?_
  exact h

theorem keeps_State_appendRec {M : Nat} (hM : Nat.land 18014398509481985 M = 18014398509481985) {s0 : State} {s : State} {p1 : Nat} {p2 : Nat} {p3 : Nat} {p4 : Nat} {p5 : Bool} {p6 : Bool} {p7 : List Byte} (h : Keeps M s0 s) : KP M s0 (State.appendRec s p1 p2 p3 p4 p5 p6 p7) := by
  unfold State.appendRec
  extract_lets -merge -useContext -underBinder v0 v1 v2
  try clear_value v0
  try clear_value v1
  try clear_value v2
  refine ite_of (P := KP M s0) ?_ ?_
  ·
    split
    ·
      refine ite_of (P := KP M s0) ?_ ?_
      ·
        extract_lets -merge -useContext -underBinder v3 v4
        have h5 : Keeps M s0 v3 := by
          unfold v3
          refine (keeps_State_modLog (sub_trans rfl hM)) ?_
          refine (keeps_State_count (sub_trans rfl hM)) ?_
          exact h
        try clear_value v3
        try clear_value v4
        refine ite_of (P := KP M s0) ?_ ?_
        ·
          refine KP.mk ?_
          refine (keeps_State_modLog (sub_trans rfl hM)) ?_
          exact h5
        ·
          refine KP.mk ?_
          refine (keeps_State_modLog (sub_trans rfl hM)) ?_
          exact h5
      ·
        refine KP.mk ?_
        refine (keeps_State_modLog (sub_trans rfl hM)) ?_
        exact h
    ·
      refine KP.mk ?_
      refine (keeps_State_modLog (sub_trans rfl hM)) ?_
      exact h
  ·
    refine ite_of (P := KP M s0) ?_ ?_
    ·
      refine KP.mk ?_
      refine (keeps_State_stageRegs (sub_trans rfl hM)) ?_
      refine (keeps_State_modLog (sub_trans rfl hM)) ?_
      exact h
    ·
      refine KP.mk ?_
      refine (keeps_State_modLog (sub_trans rfl hM)) ?_
      refine (keeps_State_count (sub_trans rfl hM)) ?_
      refine (keeps_State_count (sub_trans rfl hM)) ?_
      exact h

theorem keeps_State_closeKey {M : Nat} (hM : Nat.land 18014398509481985 M = 18014398509481985) {s0 : State} {s : State} {p1 : MergeKey} (h : Keeps M s0 s) : Keeps M s0 (State.closeKey s p1) := by
  unfold State.closeKey
  extract_lets -merge -useContext -underBinder v0
  have h1 : Keeps M s0 v0 := by
    unfold v0
    refine (keeps_State_modLog (sub_trans rfl hM)) ?_
    exact h
  try clear_value v0
  refine ite_of (P := Keeps M s0) ?_ ?_
  ·
    exact h1
  ·
    refine KP.snd ?_
    refine (keeps_State_appendRec (sub_trans rfl hM)) ?_
    exact h1

theorem keeps_State_mergeEnd {M : Nat} (hM : Nat.land 18014398509490177 M = 18014398509490177) {s0 : State} {s : State} (h : Keeps M s0 s) : Keeps M s0 (State.mergeEnd s) := by
  unfold State.mergeEnd
  refine ite_of (P := Keeps M s0) ?_ ?_
  ·
    exact h
  ·
    split
    ·
      refine (keeps_State_closeKey (sub_trans rfl hM)) ?_
      refine (keeps_State_advanceTo (sub_trans rfl hM)) ?_
      exact h
    ·
      exact h

theorem keeps_State_freeze {M : Nat} (hM : Nat.land 18014398509481985 M = 18014398509481985) {s0 : State} {s : State} (h : Keeps M s0 s) : Keeps M s0 (State.freeze s) := by
  unfold State.freeze
  refine ite_of (P := Keeps M s0) ?_ ?_
  ·
    exact h
  ·
    extract_lets -merge -useContext -underBinder v0
    try clear_value v0
    refine (keeps_State_stageRegs (sub_trans rfl hM)) ?_
    refine (keeps_State_modLog (sub_trans rfl hM)) ?_
    refine (keeps_State_put (sub_trans rfl hM)) ?_
    refine (keeps_State_setf (sub_trans rfl hM)) ?_
    exact h

theorem keeps_State_rangeRegs {M : Nat} (hM : Nat.land 1 M = 1) {s0 : State} {s : State} (h : Keeps M s0 s) : Keeps M s0 (State.rangeRegs s) := by
  unfold State.rangeRegs
  split
  ·
    refine (keeps_State_wr64N (sub_trans rfl hM)) ?_
    refine (keeps_State_wr64N (sub_trans rfl hM)) ?_
    exact h
  ·
    exact h

theorem keeps_State_logEntry {M : Nat} (hM : Nat.land 18014398509481985 M = 18014398509481985) {s0 : State} {s : State} {p1 : Entry} {p2 : Nat} {p3 : Bool} (h : Keeps M s0 s) : Keeps M s0 (State.logEntry s p1 p2 p3) := by
  unfold State.logEntry
  extract_lets -merge -useContext -underBinder v0 v1 v2 v3
  try clear_value v0
  try clear_value v1
  try clear_value v2
  have h4 : ∀ x5, Keeps M s0 x5 → KP M s0 (v3 x5) := by
    intro x5 h6
    unfold v3
    beta_reduce
    refine (keeps_State_appendRec (sub_trans rfl hM)) ?_
    exact h6
  try clear_value v3
  refine ite_of (P := Keeps M s0) ?_ ?_
  ·
    refine KP.snd ?_
    refine h4 _ ?_
    exact h
  ·
    split
    ·
      refine ite_of (P := Keeps M s0) ?_ ?_
      ·
        refine (keeps_State_modLog (sub_trans rfl hM)) ?_
        exact h
      ·
        split
        ·
          rename_i t7 q9
          have h8 : Keeps M s0 t7 := by
            refine KP.out q9 ?_
            refine h4 _ ?_
            refine (keeps_State_closeKey (sub_trans rfl hM)) ?_
            exact h
          refine (keeps_State_modLog (sub_trans rfl hM)) ?_
          exact h8
    ·
      extract_lets -merge -useContext -underBinder v10
      have h11 : Keeps M s0 v10 := by
        unfold v10
        split
        ·
          refine ite_of (P := Keeps M s0) ?_ ?_
          ·
            refine (keeps_State_closeKey (sub_trans rfl hM)) ?_
            exact h
          ·
            exact h
        ·
          exact h
      try clear_value v10
      split
      ·
        rename_i t12 q14
        have h13 : Keeps M s0 t12 := by
          refine KP.out q14 ?_
          refine h4 _ ?_
          exact h11
        refine (keeps_State_modLog (sub_trans rfl hM)) ?_
        exact h13

theorem keeps_State_recordAppend {M : Nat} (hM : Nat.land 18014398509486081 M = 18014398509486081) {s0 : State} {s : State} (h : Keeps M s0 s) : Keeps M s0 (State.recordAppend s) := by
  unfold State.recordAppend
  refine ite_of (P := Keeps M s0) ?_ ?_
  ·
    exact h
  ·
    extract_lets -merge -useContext -underBinder v0 v1
    try clear_value v0
    try clear_value v1
    split
    ·
      refine (keeps_State_modLog (sub_trans rfl hM)) ?_
      exact h
    ·
      extract_lets -merge -useContext -underBinder v2
      have h3 : Keeps M s0 v2 := by
        unfold v2
        refine (keeps_State_modLog (sub_trans rfl hM)) ?_
        exact h
      try clear_value v2
      split
      ·
        refine (keeps_State_group (sub_trans rfl hM)) ?_
        refine (keeps_State_logEntry (sub_trans rfl hM)) ?_
        exact h3
      ·
        exact h3

theorem keeps_State_logLoaded {M : Nat} (hM : Nat.land 18014398509481985 M = 18014398509481985) {s0 : State} {s : State} (h : Keeps M s0 s) : Keeps M s0 (State.logLoaded s) := by
  unfold State.logLoaded
  refine ite_of (P := Keeps M s0) ?_ ?_
  ·
    exact h
  ·
    split
    ·
      exact h
    ·
      extract_lets -merge -useContext -underBinder v0
      have h1 : Keeps M s0 v0 := by
        unfold v0
        refine (keeps_State_modLog (sub_trans rfl hM)) ?_
        refine (keeps_State_clrf (sub_trans rfl hM)) ?_
        exact h
      try clear_value v0
      refine ite_of (P := Keeps M s0) ?_ ?_
      ·
        refine (keeps_State_setf (sub_trans rfl hM)) ?_
        exact h1
      ·
        split
        ·
          exact h1
        ·
          extract_lets -merge -useContext -underBinder v2 v3
          have h4 : Keeps M s0 v2 := by
            unfold v2
            refine (keeps_State_putB (sub_trans rfl hM)) ?_
            refine (keeps_State_putB (sub_trans rfl hM)) ?_
            refine (keeps_State_setf (sub_trans rfl hM)) ?_
            exact h1
          try clear_value v2
          have h5 : Keeps M s0 v3 := by
            unfold v3
            refine Keeps.forEach ?_ ?_
            ·
              exact h4
            · intro t6 x7 h8
              beta_reduce
              refine (keeps_State_wrN (sub_trans rfl hM)) ?_
              exact h8
          try clear_value v3
          refine (keeps_State_modLog (sub_trans rfl hM)) ?_
          refine Keeps.forEach ?_ ?_
          ·
            exact h5
          · intro t9 x10 h11
            beta_reduce
            refine (keeps_State_wrN (sub_trans rfl hM)) ?_
            exact h11

theorem keeps_State_logLoad {M : Nat} (hM : Nat.land 18014398509481985 M = 18014398509481985) {s0 : State} {s : State} {p1 : Nat} (h : Keeps M s0 s) : Keeps M s0 (State.logLoad s p1) := by
  unfold State.logLoad
  refine (keeps_State_modLog (sub_trans rfl hM)) ?_
  refine (keeps_State_wrN (sub_trans rfl hM)) ?_
  exact h

theorem keeps_State_logCursor {M : Nat} (hM : Nat.land 18014398509481985 M = 18014398509481985) {s0 : State} {s : State} {p1 : Nat} (h : Keeps M s0 s) : Keeps M s0 (State.logCursor s p1) := by
  unfold State.logCursor
  refine (keeps_State_logLoad (sub_trans rfl hM)) ?_
  refine (keeps_State_wr64N (sub_trans rfl hM)) ?_
  exact h

theorem keeps_State_wearRegs {M : Nat} (hM : Nat.land 1 M = 1) {s0 : State} {s : State} (h : Keeps M s0 s) : Keeps M s0 (State.wearRegs s) := by
  unfold State.wearRegs
  extract_lets -merge -useContext -underBinder v0
  try clear_value v0
  refine (keeps_State_putB (sub_trans rfl hM)) ?_
  refine (keeps_State_put (sub_trans rfl hM)) ?_
  refine (keeps_State_put (sub_trans rfl hM)) ?_
  exact h

theorem keeps_State_nextErase {M : Nat} (hM : Nat.land 18014398509484033 M = 18014398509484033) {s0 : State} {s : State} {p1 : Bool} (h : Keeps M s0 s) : Keeps M s0 (State.nextErase s p1) := by
  unfold State.nextErase
  extract_lets -merge -useContext -underBinder v0 v1 v2 v3 v4
  try clear_value v0
  try clear_value v1
  try clear_value v2
  try clear_value v3
  have h5 : Keeps M s0 v4 := by
    unfold v4
    refine ite_of (P := Keeps M s0) ?_ ?_
    ·
      refine (keeps_State_event (sub_trans rfl hM)) ?_
      exact h
    ·
      exact h
  try clear_value v4
  refine (keeps_State_wearRegs (sub_trans rfl hM)) ?_
  refine (keeps_State_rangeRegs (sub_trans rfl hM)) ?_
  refine (keeps_State_modLog (sub_trans rfl hM)) ?_
  exact h5

theorem keeps_State_programOne {M : Nat} (hM : Nat.land 18014398509484033 M = 18014398509484033) {s0 : State} {s : State} {p1 : Nat} {p2 : List Byte} {p3 : Bool} (h : Keeps M s0 s) : Keeps M s0 (State.programOne s p1 p2 p3) := by
  unfold State.programOne
  extract_lets -merge -useContext -underBinder v0
  have h1 : Keeps M s0 v0 := by
    unfold v0
    refine ite_of (P := Keeps M s0) ?_ ?_
    ·
      refine (keeps_State_nextErase (sub_trans rfl hM)) ?_
      exact h
    ·
      exact h
  try clear_value v0
  refine (keeps_State_rangeRegs (sub_trans rfl hM)) ?_
  refine (keeps_State_modLog (sub_trans rfl hM)) ?_
  exact h1

theorem keeps_State_recordProgram {M : Nat} (hM : Nat.land 18014398509484033 M = 18014398509484033) {s0 : State} {s : State} {p1 : Bool} {p2 : Bool} (h : Keeps M s0 s) : Keeps M s0 (State.recordProgram s p1 p2) := by
  unfold State.recordProgram
  split
  ·
    exact h
  ·
    refine ite_of (P := Keeps M s0) ?_ ?_
    ·
      exact h
    ·
      extract_lets -merge -useContext -underBinder v0
      have h1 : Keeps M s0 v0 := by
        unfold v0
        refine ite_of (P := Keeps M s0) ?_ ?_
        ·
          refine (keeps_State_event (sub_trans rfl hM)) ?_
          refine (keeps_State_nextErase (sub_trans rfl hM)) ?_
          refine (keeps_State_modLog (sub_trans rfl hM)) ?_
          exact h
        ·
          exact h
      try clear_value v0
      refine (keeps_State_programOne (sub_trans rfl hM)) ?_
      refine (keeps_State_modLog (sub_trans rfl hM)) ?_
      exact h1

theorem keeps_State_unfreeze {M : Nat} (hM : Nat.land 18014398509481985 M = 18014398509481985) {s0 : State} {s : State} (h : Keeps M s0 s) : Keeps M s0 (State.unfreeze s) := by
  unfold State.unfreeze
  refine ite_of (P := Keeps M s0) ?_ ?_
  ·
    exact h
  ·
    extract_lets -merge -useContext -underBinder v0 v1 v2
    try clear_value v0
    have h3 : Keeps M s0 v1 := by
      unfold v1
      refine (keeps_State_stageRegs (sub_trans rfl hM)) ?_
      refine (keeps_State_modLog (sub_trans rfl hM)) ?_
      refine (keeps_State_clrf (sub_trans rfl hM)) ?_
      exact h
    try clear_value v1
    have h4 : Keeps M s0 v2 := by
      unfold v2
      refine ite_of (P := Keeps M s0) ?_ ?_
      ·
        exact h3
      ·
        refine KP.snd ?_
        refine (keeps_State_appendRec (sub_trans rfl hM)) ?_
        exact h3
    try clear_value v2
    refine (keeps_State_modLog (sub_trans rfl hM)) ?_
    refine (keeps_State_put (sub_trans rfl hM)) ?_
    exact h4

theorem keeps_State_freezeTimeout {M : Nat} (hM : Nat.land 18014398509490177 M = 18014398509490177) {s0 : State} {s : State} (h : Keeps M s0 s) : Keeps M s0 (State.freezeTimeout s) := by
  unfold State.freezeTimeout
  refine ite_of (P := Keeps M s0) ?_ ?_
  ·
    exact h
  ·
    split
    ·
      refine (keeps_State_setf (sub_trans rfl hM)) ?_
      refine (keeps_State_unfreeze (sub_trans rfl hM)) ?_
      refine (keeps_State_advanceTo (sub_trans rfl hM)) ?_
      exact h
    ·
      exact h

theorem keeps_State_unfreezeCmd {M : Nat} (hM : Nat.land 18014398509490177 M = 18014398509490177) {s0 : State} {s : State} (h : Keeps M s0 s) : Keeps M s0 (State.unfreezeCmd s) := by
  unfold State.unfreezeCmd
  split
  ·
    refine ite_of (P := Keeps M s0) ?_ ?_
    ·
      refine (keeps_State_freezeTimeout (sub_trans rfl hM)) ?_
      exact h
    ·
      refine (keeps_State_unfreeze (sub_trans rfl hM)) ?_
      exact h
  ·
    exact h

theorem keeps_State_logClear {M : Nat} (hM : Nat.land 18014398509481985 M = 18014398509481985) {s0 : State} {s : State} {p1 : List Byte} (h : Keeps M s0 s) : KP M s0 (State.logClear s p1) := by
  unfold State.logClear
  extract_lets -merge -useContext -underBinder v0 v1 v2
  try clear_value v0
  try clear_value v1
  try clear_value v2
  refine ite_of (P := KP M s0) ?_ ?_
  ·
    refine KP.mk ?_
    exact h
  ·
    refine ite_of (P := KP M s0) ?_ ?_
    ·
      refine KP.mk ?_
      exact h
    ·
      split
      ·
        rename_i t3 q5
        have h4 : Keeps M s0 t3 := by
          refine KP.out q5 ?_
          refine (keeps_State_freeWord64 (sub_trans rfl hM)) ?_
          exact h
        extract_lets -merge -useContext -underBinder v6 v7 v8 v9
        have h10 : Keeps M s0 v6 := by
          unfold v6
          refine (keeps_State_wr64 (sub_trans rfl hM)) ?_
          exact h4
        try clear_value v6
        try clear_value v7
        try clear_value v8
        have h11 : Keeps M s0 v9 := by
          unfold v9
          refine (keeps_State_wr64N (sub_trans rfl hM)) ?_
          refine (keeps_State_wrN (sub_trans rfl hM)) ?_
          refine (keeps_State_modLog (sub_trans rfl hM)) ?_
          exact h10
        try clear_value v9
        refine ite_of (P := KP M s0) ?_ ?_
        ·
          refine KP.mk ?_
          exact h10
        ·
          refine KP.mk ?_
          refine KP.snd ?_
          refine (keeps_State_appendRec (sub_trans rfl hM)) ?_
          exact h11

theorem keeps_State_logNext {M : Nat} (hM : Nat.land 18014398509481985 M = 18014398509481985) {s0 : State} {s : State} (h : Keeps M s0 s) : Keeps M s0 (State.logNext s) := by
  unfold State.logNext
  refine ite_of (P := Keeps M s0) ?_ ?_
  ·
    exact h
  ·
    refine (keeps_State_logLoad (sub_trans rfl hM)) ?_
    exact h

end Sys2Proof.Machine
end

