-- ==== Sys2Proof/Laws/KeepTwin.lean ====
section
/-! SUPPORT. The operations of Machine/Twin.lean keep what `Keeps` says. -/

namespace Sys2Proof.Machine

theorem keeps_State_roleLands {M : Nat} (hM : Nat.land 65537 M = 65537) {s0 : State} {s : State} {p1 : Bool} (h : Keeps M s0 s) : Keeps M s0 (State.roleLands s p1) := by
  unfold State.roleLands
  extract_lets -merge -useContext -underBinder v0
  have h1 : Keeps M s0 v0 := by
    unfold v0
    refine Keeps.forEach ?_ ?_
    ·
      exact h
    · intro t2 x3 h4
      beta_reduce
      refine (keeps_State_putB (sub_trans rfl hM)) ?_
      exact h4
  try clear_value v0
  refine ite_of (P := Keeps M s0) ?_ ?_
  ·
    refine (keeps_State_ssiRelease (sub_trans rfl hM)) ?_
    exact h1
  ·
    exact h1

theorem keeps_State_setRole {M : Nat} (hM : Nat.land 71681 M = 71681) {s0 : State} {s : State} {p1 : Nat} {p2 : Nat} (h : Keeps M s0 s) : Keeps M s0 (State.setRole s p1 p2) := by
  unfold State.setRole
  extract_lets -merge -useContext -underBinder v0 v1
  have h2 : Keeps M s0 v0 := by
    unfold v0
    refine (keeps_State_putB (sub_trans rfl hM)) ?_
    refine (keeps_State_putB (sub_trans rfl hM)) ?_
    refine (keeps_State_roleLands (sub_trans rfl hM)) ?_
    refine (keeps_State_put (sub_trans rfl hM)) ?_
    exact h
  try clear_value v0
  have h3 : Keeps M s0 v1 := by
    unfold v1
    refine ite_of (P := Keeps M s0) ?_ ?_
    ·
      exact h2
    ·
      refine (keeps_State_clrf (sub_trans rfl hM)) ?_
      exact h2
  try clear_value v1
  refine ite_of (P := Keeps M s0) ?_ ?_
  ·
    exact h3
  ·
    refine (keeps_State_group (sub_trans rfl hM)) ?_
    refine (keeps_State_event (sub_trans rfl hM)) ?_
    exact h3

theorem keeps_State_twinRelease {M : Nat} (hM : Nat.land 71681 M = 71681) {s0 : State} {s : State} {p1 : Nat} (h : Keeps M s0 s) : Keeps M s0 (State.twinRelease s p1) := by
  unfold State.twinRelease
  refine ite_of (P := Keeps M s0) ?_ ?_
  ·
    refine (keeps_State_event (sub_trans rfl hM)) ?_
    refine (keeps_State_setRole (sub_trans rfl hM)) ?_
    exact h
  ·
    exact h

theorem keeps_State_twClrFlags {M : Nat} (hM : Nat.land 1 M = 1) {s0 : State} {s : State} (h : Keeps M s0 s) : Keeps M s0 (State.twClrFlags s) := by
  unfold State.twClrFlags
  refine (keeps_State_clrBits (sub_trans rfl hM)) ?_
  exact h

theorem keeps_State_velStates {M : Nat} (hM : Nat.land 536870912 M = 536870912) {s0 : State} {s : State} {p1 : Nat} {p2 : TackVel} (h : Keeps M s0 s) : Keeps M s0 (State.velStates s p1 p2) := by
  unfold State.velStates
  extract_lets -merge -useContext -underBinder v0 v1
  try clear_value v0
  try clear_value v1
  refine (keeps_State_modLoop (sub_trans rfl hM)) ?_
  exact h

theorem keeps_State_twinOk {M : Nat} (hM : Nat.land 1 M = 1) {s0 : State} {s : State} (h : Keeps M s0 s) : Keeps M s0 (State.twinOk s) := by
  unfold State.twinOk
  extract_lets -merge -useContext -underBinder v0 v1 v2
  try clear_value v0
  try clear_value v1
  try clear_value v2
  refine (keeps_State_putB (sub_trans rfl hM)) ?_
  exact h

theorem keeps_State_curRecord {M : Nat} (hM : Nat.land 146028890113 M = 146028890113) {s0 : State} {s : State} {p1 : Nat} {p2 : Vector Word 3} {p3 : Word} {p4 : Word} {p5 : Word} {p6 : Word} {p7 : Word} {p8 : Word} {p9 : Vector Word 3} (h : Keeps M s0 s) : Keeps M s0 (State.curRecord s p1 p2 p3 p4 p5 p6 p7 p8 p9) := by
  unfold State.curRecord
  extract_lets -merge -useContext -underBinder v0 v1 v2 v3 v4 v5 v6 v7 v8 v9 v10 v11 v12 v13 v14 v15
  try clear_value v0
  try clear_value v1
  try clear_value v2
  try clear_value v3
  try clear_value v4
  try clear_value v5
  try clear_value v6
  try clear_value v7
  try clear_value v8
  try clear_value v9
  try clear_value v10
  try clear_value v11
  try clear_value v12
  have h16 : Keeps M s0 v13 := by
    unfold v13
    refine (keeps_State_pipeline (sub_trans rfl hM)) ?_
    exact h
  try clear_value v13
  try clear_value v14
  have h17 : Keeps M s0 v15 := by
    unfold v15
    refine ite_of (P := Keeps M s0) ?_ ?_
    ·
      exact h
    ·
      refine (keeps_State_event (sub_trans rfl hM)) ?_
      refine (keeps_State_count (sub_trans rfl hM)) ?_
      refine (keeps_State_setf (sub_trans rfl hM)) ?_
      exact h
  try clear_value v15
  refine (keeps_State_wr (sub_trans rfl hM)) ?_
  refine (keeps_State_wr (sub_trans rfl hM)) ?_
  refine (keeps_State_wr (sub_trans rfl hM)) ?_
  refine (keeps_State_wr (sub_trans rfl hM)) ?_
  refine (keeps_State_wr (sub_trans rfl hM)) ?_
  exact h17

theorem keeps_State_modTw {M : Nat} (hM : Nat.land 562949953421312 M = 562949953421312) {s0 : State} {s : State} {p1 : TwinSt → TwinSt} (h : Keeps M s0 s) : Keeps M s0 (State.modTw s p1) := by
  unfold State.modTw
  refine Keeps.up_tw (sub_trans rfl hM) ?_
  exact h

theorem keeps_State_hbReceive {M : Nat} (hM : Nat.land 562950188310529 M = 562950188310529) {s0 : State} {s : State} {p1 : Nat} {p2 : Nat} {p3 : Bool} {p4 : Nat} {p5 : Nat} (h : Keeps M s0 s) : Keeps M s0 (State.hbReceive s p1 p2 p3 p4 p5) := by
  unfold State.hbReceive
  extract_lets -merge -useContext -underBinder v0 v1 v2 v3 v4 v5
  try clear_value v0
  have h6 : Keeps M s0 v1 := by
    unfold v1
    refine ite_of (P := Keeps M s0) ?_ ?_
    ·
      exact h
    ·
      refine (keeps_State_addCount (sub_trans rfl hM)) ?_
      exact h
  try clear_value v1
  try clear_value v2
  have h7 : Keeps M s0 v3 := by
    unfold v3
    refine (keeps_State_modTw (sub_trans rfl hM)) ?_
    refine (keeps_State_putB (sub_trans rfl hM)) ?_
    refine (keeps_State_put (sub_trans rfl hM)) ?_
    exact h6
  try clear_value v3
  try clear_value v4
  have h8 : Keeps M s0 v5 := by
    unfold v5
    refine ite_of (P := Keeps M s0) ?_ ?_
    ·
      split
      ·
        rename_i t9 q11
        have h10 : Keeps M s0 t9 := by
          refine KP.out q11 ?_
          refine (keeps_State_freeWord (sub_trans rfl hM)) ?_
          exact h7
        extract_lets -merge -useContext -underBinder v12
        try clear_value v12
        refine (keeps_State_setTrim (sub_trans rfl hM)) ?_
        refine (keeps_State_wrI (sub_trans rfl hM)) ?_
        refine (keeps_State_putB (sub_trans rfl hM)) ?_
        refine (keeps_State_wrI (sub_trans rfl hM)) ?_
        exact h10
    ·
      exact h7
  try clear_value v5
  refine ite_of (P := Keeps M s0) ?_ ?_
  ·
    refine (keeps_State_resolve (sub_trans rfl hM)) ?_
    refine (keeps_State_setf (sub_trans rfl hM)) ?_
    refine (keeps_State_clrf (sub_trans rfl hM)) ?_
    exact h8
  ·
    exact h8

theorem keeps_State_ltol {M : Nat} (hM : Nat.land 2049 M = 2049) {s0 : State} {s : State} {p1 : Nat} {p2 : Int} {p3 : Int} (h : Keeps M s0 s) : Keeps M s0 (State.ltol s p1 p2 p3) := by
  unfold State.ltol
  refine ite_of (P := Keeps M s0) ?_ ?_
  ·
    exact h
  ·
    refine ite_of (P := Keeps M s0) ?_ ?_
    ·
      refine (keeps_State_event (sub_trans rfl hM)) ?_
      refine (keeps_State_count (sub_trans rfl hM)) ?_
      refine (keeps_State_setf (sub_trans rfl hM)) ?_
      exact h
    ·
      exact h

theorem keeps_State_posStates {M : Nat} (hM : Nat.land 537919489 M = 537919489) {s0 : State} {s : State} {p1 : Nat} {p2 : TackPos} (h : Keeps M s0 s) : Keeps M s0 (State.posStates s p1 p2) := by
  unfold State.posStates
  extract_lets -merge -useContext -underBinder v0 v1
  have h2 : Keeps M s0 v0 := by
    unfold v0
    refine (keeps_State_modLoop (sub_trans rfl hM)) ?_
    exact h
  try clear_value v0
  have h3 : Keeps M s0 v1 := by
    unfold v1
    refine (keeps_State_wr64 (sub_trans rfl hM)) ?_
    refine (keeps_State_wr64 (sub_trans rfl hM)) ?_
    refine (keeps_State_wr64 (sub_trans rfl hM)) ?_
    refine (keeps_State_wr64 (sub_trans rfl hM)) ?_
    exact h2
  try clear_value v1
  refine (keeps_State_setBase (sub_trans rfl hM)) ?_
  refine (keeps_State_wr (sub_trans rfl hM)) ?_
  exact h3

theorem keeps_State_twinReady {M : Nat} (hM : Nat.land 1 M = 1) {s0 : State} {s : State} (h : Keeps M s0 s) : Keeps M s0 (State.twinReady s) := by
  unfold State.twinReady
  extract_lets -merge -useContext -underBinder v0 v1 v2
  try clear_value v0
  try clear_value v1
  try clear_value v2
  refine (keeps_State_putB (sub_trans rfl hM)) ?_
  exact h

theorem keeps_State_tackReceive {M : Nat} (hM : Nat.land 564196283525121 M = 564196283525121) {s0 : State} {s : State} {p1 : Bool} {p2 : TackFrame} (h : Keeps M s0 s) : Keeps M s0 (State.tackReceive s p1 p2) := by
  unfold State.tackReceive
  refine ite_of (P := Keeps M s0) ?_ ?_
  ·
    exact h
  ·
    refine ite_of (P := Keeps M s0) ?_ ?_
    ·
      refine (keeps_State_modTw (sub_trans rfl hM)) ?_
      refine (keeps_State_count (sub_trans rfl hM)) ?_
      exact h
    ·
      extract_lets -merge -useContext -underBinder v0
      have h1 : Keeps M s0 v0 := by
        unfold v0
        split
        ·
          refine (keeps_State_hbReceive (sub_trans rfl hM)) ?_
          exact h
        ·
          refine ite_of (P := Keeps M s0) ?_ ?_
          ·
            refine (keeps_State_curRecord (sub_trans rfl hM)) ?_
            exact h
          ·
            exact h
        ·
          refine ite_of (P := Keeps M s0) ?_ ?_
          ·
            refine (keeps_State_velStates (sub_trans rfl hM)) ?_
            refine (keeps_State_ltol (sub_trans rfl hM)) ?_
            exact h
          ·
            exact h
        ·
          refine ite_of (P := Keeps M s0) ?_ ?_
          ·
            refine (keeps_State_posStates (sub_trans rfl hM)) ?_
            refine (keeps_State_ltol (sub_trans rfl hM)) ?_
            exact h
          ·
            exact h
        ·
          refine ite_of (P := Keeps M s0) ?_ ?_
          ·
            refine (keeps_State_posStates (sub_trans rfl hM)) ?_
            refine (keeps_State_velStates (sub_trans rfl hM)) ?_
            refine (keeps_State_ltol (sub_trans rfl hM)) ?_
            exact h
          ·
            exact h
        ·
          refine ite_of (P := Keeps M s0) ?_ ?_
          ·
            refine foldl_of (P := Keeps M s0) ?_ ?_
            ·
              exact h
            · intro t2 x3 h4
              beta_reduce
              refine (keeps_State_wr (sub_trans rfl hM)) ?_
              exact h4
          ·
            exact h
        ·
          refine ite_of (P := Keeps M s0) ?_ ?_
          ·
            refine (keeps_State_modMo (sub_trans rfl hM)) ?_
            exact h
          ·
            exact h
        ·
          refine ite_of (P := Keeps M s0) ?_ ?_
          ·
            refine Keeps.up_cams (sub_trans rfl hM) ?_
            exact h
          ·
            exact h
        ·
          refine ite_of (P := Keeps M s0) ?_ ?_
          ·
            refine (keeps_State_put (sub_trans rfl hM)) ?_
            exact h
          ·
            exact h
        ·
          refine ite_of (P := Keeps M s0) ?_ ?_
          ·
            refine (keeps_State_modTw (sub_trans rfl hM)) ?_
            exact h
          ·
            exact h
        ·
          extract_lets -merge -useContext -underBinder v5
          have h6 : Keeps M s0 v5 := by
            unfold v5
            refine (keeps_State_modStall (sub_trans rfl hM)) ?_
            exact h
          try clear_value v5
          refine KP.snd ?_
          refine (keeps_State_post (sub_trans rfl hM)) ?_
          exact h6
        ·
          extract_lets -merge -useContext -underBinder v7
          have h8 : Keeps M s0 v7 := by
            unfold v7
            refine (keeps_State_modTw (sub_trans rfl hM)) ?_
            exact h
          try clear_value v7
          refine (keeps_State_putB (sub_trans rfl hM)) ?_
          exact h8
        ·
          refine (keeps_State_modTw (sub_trans rfl hM)) ?_
          exact h
      try clear_value v0
      refine (keeps_State_twinOk (sub_trans rfl hM)) ?_
      refine (keeps_State_twinReady (sub_trans rfl hM)) ?_
      refine (keeps_State_modTw (sub_trans rfl hM)) ?_
      exact h1

theorem keeps_State_actOutAssert {M : Nat} (hM : Nat.land 844424931260417 M = 844424931260417) {s0 : State} {s : State} (h : Keeps M s0 s) : Keeps M s0 (State.actOutAssert s) := by
  unfold State.actOutAssert
  extract_lets -merge -useContext -underBinder v0 v1 v2 v3 v4 v5
  try clear_value v0
  try clear_value v1
  try clear_value v2
  have h6 : Keeps M s0 v3 := by
    unfold v3
    refine (keeps_State_clrf (sub_trans rfl hM)) ?_
    refine (keeps_State_advanceTo (sub_trans rfl hM)) ?_
    exact h
  try clear_value v3
  have h7 : Keeps M s0 v4 := by
    unfold v4
    refine (keeps_State_modTw (sub_trans rfl hM)) ?_
    refine (keeps_State_setRole (sub_trans rfl hM)) ?_
    exact h6
  try clear_value v4
  have h8 : Keeps M s0 v5 := by
    unfold v5
    refine (keeps_State_event (sub_trans rfl hM)) ?_
    refine (keeps_State_notice (sub_trans rfl hM)) ?_
    refine (keeps_State_count (sub_trans rfl hM)) ?_
    exact h7
  try clear_value v5
  refine ite_of (P := Keeps M s0) ?_ ?_
  ·
    exact h
  ·
    refine ite_of (P := Keeps M s0) ?_ ?_
    ·
      exact h7
    ·
      refine ite_of (P := Keeps M s0) ?_ ?_
      ·
        exact h8
      ·
        refine Keeps.forEach ?_ ?_
        ·
          refine (keeps_State_setf (sub_trans rfl hM)) ?_
          exact h8
        · intro t9 x10 h11
          beta_reduce
          refine (keeps_State_modMo (sub_trans rfl hM)) ?_
          exact h11

theorem keeps_State_twClrCnt {M : Nat} (hM : Nat.land 1 M = 1) {s0 : State} {s : State} (h : Keeps M s0 s) : Keeps M s0 (State.twClrCnt s) := by
  unfold State.twClrCnt
  refine (keeps_State_wrN (sub_trans rfl hM)) ?_
  refine (keeps_State_wrN (sub_trans rfl hM)) ?_
  refine (keeps_State_wrN (sub_trans rfl hM)) ?_
  exact h

theorem keeps_State_handoverGo {M : Nat} (hM : Nat.land 1 M = 1) {s0 : State} {s : State} (h : Keeps M s0 s) : KP M s0 (State.handoverGo s) := by
  unfold State.handoverGo
  refine ite_of (P := KP M s0) ?_ ?_
  ·
    refine KP.mk ?_
    refine (keeps_State_setf (sub_trans rfl hM)) ?_
    exact h
  ·
    refine KP.mk ?_
    refine (keeps_State_setf (sub_trans rfl hM)) ?_
    exact h

theorem keeps_State_heartbeat {M : Nat} (hM : Nat.land 562949953429504 M = 562949953429504) {s0 : State} {s : State} (h : Keeps M s0 s) : Keeps M s0 (State.heartbeat s) := by
  unfold State.heartbeat
  refine ite_of (P := Keeps M s0) ?_ ?_
  ·
    exact h
  ·
    extract_lets -merge -useContext -underBinder v0
    try clear_value v0
    refine ite_of (P := Keeps M s0) ?_ ?_
    ·
      refine (keeps_State_advanceTo (sub_trans rfl hM)) ?_
      exact h
    ·
      refine (keeps_State_modTw (sub_trans rfl hM)) ?_
      refine (keeps_State_advanceTo (sub_trans rfl hM)) ?_
      exact h

theorem keeps_State_keeperExpiry {M : Nat} (hM : Nat.land 234960897 M = 234960897) {s0 : State} {s : State} (h : Keeps M s0 s) : Keeps M s0 (State.keeperExpiry s) := by
  unfold State.keeperExpiry
  refine ite_of (P := Keeps M s0) ?_ ?_
  ·
    extract_lets -merge -useContext -underBinder v0
    have h1 : Keeps M s0 v0 := by
      unfold v0
      refine (keeps_State_advanceTo (sub_trans rfl hM)) ?_
      exact h
    try clear_value v0
    refine ite_of (P := Keeps M s0) ?_ ?_
    ·
      refine (keeps_State_resolve (sub_trans rfl hM)) ?_
      refine (keeps_State_twinRelease (sub_trans rfl hM)) ?_
      refine (keeps_State_clrf (sub_trans rfl hM)) ?_
      exact h1
    ·
      refine (keeps_State_twinRelease (sub_trans rfl hM)) ?_
      exact h1
  ·
    exact h

theorem keeps_State_handoverRelease {M : Nat} (hM : Nat.land 234952705 M = 234952705) {s0 : State} {s : State} (h : Keeps M s0 s) : Keeps M s0 (State.handoverRelease s) := by
  unfold State.handoverRelease
  refine ite_of (P := Keeps M s0) ?_ ?_
  ·
    refine (keeps_State_resolve (sub_trans rfl hM)) ?_
    refine (keeps_State_twinRelease (sub_trans rfl hM)) ?_
    refine (keeps_State_clrf (sub_trans rfl hM)) ?_
    exact h
  ·
    exact h

theorem keeps_State_rmClrCnt {M : Nat} (hM : Nat.land 1 M = 1) {s0 : State} {s : State} (h : Keeps M s0 s) : Keeps M s0 (State.rmClrCnt s) := by
  unfold State.rmClrCnt
  refine Keeps.forEach ?_ ?_
  ·
    exact h
  · intro t0 x1 h2
    beta_reduce
    refine (keeps_State_wrN (sub_trans rfl hM)) ?_
    exact h2

theorem keeps_State_tackLostRow {M : Nat} (hM : Nat.land 1099511638017 M = 1099511638017) {s0 : State} {s : State} (h : Keeps M s0 s) : Keeps M s0 (State.tackLostRow s) := by
  unfold State.tackLostRow
  refine ite_of (P := Keeps M s0) ?_ ?_
  ·
    exact h
  ·
    extract_lets -merge -useContext -underBinder v0
    have h1 : Keeps M s0 v0 := by
      unfold v0
      refine (keeps_State_event (sub_trans rfl hM)) ?_
      refine (keeps_State_setf (sub_trans rfl hM)) ?_
      refine (keeps_State_advanceTo (sub_trans rfl hM)) ?_
      exact h
    try clear_value v0
    refine (keeps_State_twinOk (sub_trans rfl hM)) ?_
    refine Keeps.forEach ?_ ?_
    ·
      exact h1
    · intro t2 x3 h4
      beta_reduce
      refine (keeps_State_discardStall (sub_trans rfl hM)) ?_
      exact h4

theorem keeps_State_actConflict {M : Nat} (hM : Nat.land 79873 M = 79873) {s0 : State} {s : State} (h : Keeps M s0 s) : Keeps M s0 (State.actConflict s) := by
  unfold State.actConflict
  extract_lets -merge -useContext -underBinder v0
  have h1 : Keeps M s0 v0 := by
    unfold v0
    refine (keeps_State_setf (sub_trans rfl hM)) ?_
    exact h
  try clear_value v0
  refine ite_of (P := Keeps M s0) ?_ ?_
  ·
    exact h1
  ·
    refine ite_of (P := Keeps M s0) ?_ ?_
    ·
      refine (keeps_State_event (sub_trans rfl hM)) ?_
      exact h1
    ·
      refine (keeps_State_event (sub_trans rfl hM)) ?_
      refine (keeps_State_setRole (sub_trans rfl hM)) ?_
      refine (keeps_State_advanceTo (sub_trans rfl hM)) ?_
      exact h1

theorem keeps_State_lane {M : Nat} (hM : Nat.land 1 M = 1) {s0 : State} {s : State} {p1 : Nat} {p2 : Bool} (h : Keeps M s0 s) : Keeps M s0 (State.lane s p1 p2) := by
  unfold State.lane
  refine (keeps_State_twinOk (sub_trans rfl hM)) ?_
  refine (keeps_State_putB (sub_trans rfl hM)) ?_
  exact h

theorem keeps_State_twinStart {M : Nat} (hM : Nat.land 562949953492993 M = 562949953492993) {s0 : State} {s : State} {p1 : Bool} (h : Keeps M s0 s) : Keeps M s0 (State.twinStart s p1) := by
  unfold State.twinStart
  extract_lets -merge -useContext -underBinder v0
  have h1 : Keeps M s0 v0 := by
    unfold v0
    refine (keeps_State_modTw (sub_trans rfl hM)) ?_
    exact h
  try clear_value v0
  refine ite_of (P := Keeps M s0) ?_ ?_
  ·
    refine (keeps_State_setRole (sub_trans rfl hM)) ?_
    exact h1
  ·
    exact h1

end Sys2Proof.Machine
end

