-- ==== Sys2Proof/Laws/KeepSecurity.lean ====
section
/-! SUPPORT. The operations of Machine/Security.lean keep what `Keeps` says. -/

namespace Sys2Proof.Machine

theorem keeps_State_activeRelease {M : Nat} (hM : Nat.land 71681 M = 71681) {s0 : State} {s : State} (h : Keeps M s0 s) : Keeps M s0 (State.activeRelease s) := by
  unfold State.activeRelease
  refine ite_of (P := Keeps M s0) ?_ ?_
  ·
    refine (keeps_State_twinRelease (sub_trans rfl hM)) ?_
    exact h
  ·
    refine ite_of (P := Keeps M s0) ?_ ?_
    ·
      refine (keeps_State_twinRelease (sub_trans rfl hM)) ?_
      exact h
    ·
      exact h

theorem keeps_State_modSec {M : Nat} (hM : Nat.land 1125899906842624 M = 1125899906842624) {s0 : State} {s : State} {p1 : SecSt → SecSt} (h : Keeps M s0 s) : Keeps M s0 (State.modSec s p1) := by
  unfold State.modSec
  refine Keeps.up_sec (sub_trans rfl hM) ?_
  exact h

theorem keeps_State_secPolicyWrite {M : Nat} (hM : Nat.land 1 M = 1) {s0 : State} {s : State} {p1 : Nat} (h : Keeps M s0 s) : Keeps M s0 (State.secPolicyWrite s p1) := by
  unfold State.secPolicyWrite
  refine (keeps_State_wrN (sub_trans rfl hM)) ?_
  exact h

theorem keeps_State_challengeExpiry {M : Nat} (hM : Nat.land 1125899906850816 M = 1125899906850816) {s0 : State} {s : State} (h : Keeps M s0 s) : Keeps M s0 (State.challengeExpiry s) := by
  unfold State.challengeExpiry
  split
  ·
    refine (keeps_State_modSec (sub_trans rfl hM)) ?_
    refine (keeps_State_advanceTo (sub_trans rfl hM)) ?_
    exact h
  ·
    exact h

theorem keeps_State_uncorrectable {M : Nat} (hM : Nat.land 8590006273 M = 8590006273) {s0 : State} {s : State} {p1 : MemPart} (h : Keeps M s0 s) : Keeps M s0 (State.uncorrectable s p1) := by
  unfold State.uncorrectable
  extract_lets -merge -useContext -underBinder v0
  have h1 : Keeps M s0 v0 := by
    unfold v0
    refine (keeps_State_event (sub_trans rfl hM)) ?_
    refine (keeps_State_count (sub_trans rfl hM)) ?_
    exact h
  try clear_value v0
  split
  ·
    extract_lets -merge -useContext -underBinder v2
    have h3 : Keeps M s0 v2 := by
      unfold v2
      refine (keeps_State_modPwm (sub_trans rfl hM)) ?_
      refine (keeps_State_count (sub_trans rfl hM)) ?_
      exact h
    try clear_value v2
    refine (keeps_State_event (sub_trans rfl hM)) ?_
    refine (keeps_State_modPwm (sub_trans rfl hM)) ?_
    refine (keeps_State_pwmCut (sub_trans rfl hM)) ?_
    exact h3
  ·
    exact h1
  ·
    refine ite_of (P := Keeps M s0) ?_ ?_
    ·
      refine (keeps_State_twinRelease (sub_trans rfl hM)) ?_
      refine (keeps_State_event (sub_trans rfl hM)) ?_
      refine (keeps_State_count (sub_trans rfl hM)) ?_
      exact h
    ·
      exact h1

theorem keeps_State_debugChallenge {M : Nat} (hM : Nat.land 1125899906842624 M = 1125899906842624) {s0 : State} {s : State} (h : Keeps M s0 s) : KP M s0 (State.debugChallenge s) := by
  unfold State.debugChallenge
  split
  ·
    rename_i t0 q2
    have h1 : Keeps M s0 t0 := by
      refine KP.out q2 ?_
      refine (keeps_State_freeWord64 (sub_trans rfl hM)) ?_
      exact h
    split
    ·
      rename_i t3 q5
      have h4 : Keeps M s0 t3 := by
        refine KP.out q5 ?_
        refine (keeps_State_freeWord (sub_trans rfl hM)) ?_
        exact h1
      extract_lets -merge -useContext -underBinder v6
      try clear_value v6
      refine KP.mk ?_
      refine (keeps_State_modSec (sub_trans rfl hM)) ?_
      exact h4

theorem keeps_State_alarmRecords {M : Nat} (hM : Nat.land 1125899906848769 M = 1125899906848769) {s0 : State} {s : State} (h : Keeps M s0 s) : Keeps M s0 (State.alarmRecords s) := by
  unfold State.alarmRecords
  refine (keeps_State_modSec (sub_trans rfl hM)) ?_
  refine foldl_of (P := Keeps M s0) ?_ ?_
  ·
    exact h
  · intro t0 x1 h2
    beta_reduce
    refine (keeps_State_group (sub_trans rfl hM)) ?_
    refine (keeps_State_event (sub_trans rfl hM)) ?_
    exact h2

theorem keeps_State_eccCorrected {M : Nat} (hM : Nat.land 1 M = 1) {s0 : State} {s : State} {p1 : MemPart} (h : Keeps M s0 s) : Keeps M s0 (State.eccCorrected s p1) := by
  unfold State.eccCorrected
  split
  ·
    refine (keeps_State_count (sub_trans rfl hM)) ?_
    exact h
  ·
    refine (keeps_State_count (sub_trans rfl hM)) ?_
    exact h
  ·
    refine (keeps_State_count (sub_trans rfl hM)) ?_
    exact h
  ·
    exact h

theorem keeps_State_newNonce {M : Nat} (hM : Nat.land 1 M = 1) {s0 : State} {s : State} (h : Keeps M s0 s) : Keeps M s0 (State.newNonce s) := by
  unfold State.newNonce
  split
  ·
    rename_i t0 q2
    have h1 : Keeps M s0 t0 := by
      refine KP.out q2 ?_
      refine (keeps_State_freeWord64 (sub_trans rfl hM)) ?_
      exact h
    refine (keeps_State_wr64 (sub_trans rfl hM)) ?_
    exact h1

theorem keeps_State_tamperPolicy {M : Nat} (hM : Nat.land 1125899906848769 M = 1125899906848769) {s0 : State} {s : State} {p1 : List Byte} (h : Keeps M s0 s) : KP M s0 (State.tamperPolicy s p1) := by
  unfold State.tamperPolicy
  extract_lets -merge -useContext -underBinder v0
  try clear_value v0
  refine ite_of (P := KP M s0) ?_ ?_
  ·
    refine KP.mk ?_
    exact h
  ·
    refine ite_of (P := KP M s0) ?_ ?_
    ·
      refine KP.mk ?_
      refine (keeps_State_newNonce (sub_trans rfl hM)) ?_
      exact h
    ·
      refine KP.mk ?_
      refine (keeps_State_group (sub_trans rfl hM)) ?_
      refine (keeps_State_event (sub_trans rfl hM)) ?_
      refine (keeps_State_modSec (sub_trans rfl hM)) ?_
      refine (keeps_State_wrN (sub_trans rfl hM)) ?_
      refine (keeps_State_newNonce (sub_trans rfl hM)) ?_
      exact h

theorem keeps_State_setKeyValid {M : Nat} (hM : Nat.land 1 M = 1) {s0 : State} {s : State} {p1 : Nat} {p2 : Nat} {p3 : Bool} (h : Keeps M s0 s) : Keeps M s0 (State.setKeyValid s p1 p2 p3) := by
  unfold State.setKeyValid
  refine (keeps_State_wrN (sub_trans rfl hM)) ?_
  exact h

theorem keeps_State_keyLoad {M : Nat} (hM : Nat.land 1125899906848769 M = 1125899906848769) {s0 : State} {s : State} {p1 : List Byte} (h : Keeps M s0 s) : KP M s0 (State.keyLoad s p1) := by
  unfold State.keyLoad
  extract_lets -merge -useContext -underBinder v0 v1 v2 v3 v4 v5 v6 v7 v8 v9
  try clear_value v0
  try clear_value v1
  try clear_value v2
  try clear_value v3
  try clear_value v4
  have h10 : Keeps M s0 v5 := by
    unfold v5
    refine (keeps_State_newNonce (sub_trans rfl hM)) ?_
    exact h
  try clear_value v5
  try clear_value v6
  try clear_value v7
  try clear_value v8
  try clear_value v9
  refine ite_of (P := KP M s0) ?_ ?_
  ·
    refine KP.mk ?_
    exact h
  ·
    refine ite_of (P := KP M s0) ?_ ?_
    ·
      refine KP.mk ?_
      exact h
    ·
      refine ite_of (P := KP M s0) ?_ ?_
      ·
        refine KP.mk ?_
        exact h10
      ·
        split
        ·
          refine KP.mk ?_
          exact h10
        ·
          refine ite_of (P := KP M s0) ?_ ?_
          ·
            refine KP.mk ?_
            exact h10
          ·
            extract_lets -merge -useContext -underBinder v11
            have h12 : Keeps M s0 v11 := by
              unfold v11
              refine (keeps_State_modSec (sub_trans rfl hM)) ?_
              refine (keeps_State_setKeyValid (sub_trans rfl hM)) ?_
              exact h10
            try clear_value v11
            refine KP.mk ?_
            refine (keeps_State_group (sub_trans rfl hM)) ?_
            refine (keeps_State_event (sub_trans rfl hM)) ?_
            exact h12

theorem keeps_State_eraseSlot {M : Nat} (hM : Nat.land 1125899906842625 M = 1125899906842625) {s0 : State} {s : State} {p1 : Nat} {p2 : Nat} (h : Keeps M s0 s) : Keeps M s0 (State.eraseSlot s p1 p2) := by
  unfold State.eraseSlot
  extract_lets -merge -useContext -underBinder v0
  have h1 : Keeps M s0 v0 := by
    unfold v0
    refine (keeps_State_setKeyValid (sub_trans rfl hM)) ?_
    exact h
  try clear_value v0
  split
  ·
    refine (keeps_State_modSec (sub_trans rfl hM)) ?_
    exact h1
  ·
    refine (keeps_State_modSec (sub_trans rfl hM)) ?_
    exact h1
  ·
    exact h1

theorem keeps_State_keyErase {M : Nat} (hM : Nat.land 1125899906848769 M = 1125899906848769) {s0 : State} {s : State} {p1 : List Byte} (h : Keeps M s0 s) : KP M s0 (State.keyErase s p1) := by
  unfold State.keyErase
  extract_lets -merge -useContext -underBinder v0 v1
  try clear_value v0
  try clear_value v1
  refine ite_of (P := KP M s0) ?_ ?_
  ·
    refine KP.mk ?_
    exact h
  ·
    refine ite_of (P := KP M s0) ?_ ?_
    ·
      refine KP.mk ?_
      exact h
    ·
      refine ite_of (P := KP M s0) ?_ ?_
      ·
        refine KP.mk ?_
        refine (keeps_State_newNonce (sub_trans rfl hM)) ?_
        exact h
      ·
        refine KP.mk ?_
        refine (keeps_State_group (sub_trans rfl hM)) ?_
        refine (keeps_State_event (sub_trans rfl hM)) ?_
        refine (keeps_State_eraseSlot (sub_trans rfl hM)) ?_
        refine (keeps_State_newNonce (sub_trans rfl hM)) ?_
        exact h

theorem keeps_State_eraseKeys {M : Nat} (hM : Nat.land 1125899906842625 M = 1125899906842625) {s0 : State} {s : State} {p1 : Bool} (h : Keeps M s0 s) : Keeps M s0 (State.eraseKeys s p1) := by
  unfold State.eraseKeys
  extract_lets -merge -useContext -underBinder v0
  have h1 : Keeps M s0 v0 := by
    unfold v0
    refine (keeps_State_wrN (sub_trans rfl hM)) ?_
    refine (keeps_State_wrN (sub_trans rfl hM)) ?_
    refine (keeps_State_wrN (sub_trans rfl hM)) ?_
    exact h
  try clear_value v0
  refine ite_of (P := Keeps M s0) ?_ ?_
  ·
    refine (keeps_State_modSec (sub_trans rfl hM)) ?_
    refine (keeps_State_wrN (sub_trans rfl hM)) ?_
    refine (keeps_State_wrN (sub_trans rfl hM)) ?_
    exact h1
  ·
    exact h1

theorem keeps_State_unload {M : Nat} (hM : Nat.land 134217728 M = 134217728) {s0 : State} {s : State} (h : Keeps M s0 s) : Keeps M s0 (State.unload s) := by
  unfold State.unload
  split
  ·
    refine ite_of (P := Keeps M s0) ?_ ?_
    ·
      refine Keeps.up_completions (sub_trans rfl hM) ?_
      exact h
    ·
      exact h
  ·
    exact h

theorem keeps_State_tamperAlarm {M : Nat} (hM : Nat.land 1125900041066497 M = 1125900041066497) {s0 : State} {s : State} {p1 : Nat} {p2 : Nat} (h : Keeps M s0 s) : Keeps M s0 (State.tamperAlarm s p1 p2) := by
  unfold State.tamperAlarm
  extract_lets -merge -useContext -underBinder v0 v1 v2 v3 v4 v5 v6 v7
  try clear_value v0
  try clear_value v1
  try clear_value v2
  try clear_value v3
  have h8 : Keeps M s0 v4 := by
    unfold v4
    refine foldl_of (P := Keeps M s0) ?_ ?_
    ·
      exact h
    · intro t9 x10 h11
      beta_reduce
      refine (keeps_State_wrN (sub_trans rfl hM)) ?_
      exact h11
  try clear_value v4
  have h12 : Keeps M s0 v5 := by
    unfold v5
    refine (keeps_State_setf (sub_trans rfl hM)) ?_
    refine ite_of (P := Keeps M s0) ?_ ?_
    ·
      refine (keeps_State_wr64N (sub_trans rfl hM)) ?_
      exact h8
    ·
      exact h8
  try clear_value v5
  have h13 : Keeps M s0 v6 := by
    unfold v6
    refine ite_of (P := Keeps M s0) ?_ ?_
    ·
      exact h12
    ·
      refine (keeps_State_unload (sub_trans rfl hM)) ?_
      refine (keeps_State_modSec (sub_trans rfl hM)) ?_
      refine (keeps_State_eraseKeys (sub_trans rfl hM)) ?_
      exact h12
  try clear_value v6
  have h14 : Keeps M s0 v7 := by
    unfold v7
    refine (keeps_State_modSec (sub_trans rfl hM)) ?_
    exact h13
  try clear_value v7
  refine ite_of (P := Keeps M s0) ?_ ?_
  ·
    exact h
  ·
    refine ite_of (P := Keeps M s0) ?_ ?_
    ·
      refine (keeps_State_alarmRecords (sub_trans rfl hM)) ?_
      exact h14
    ·
      exact h14

theorem keeps_State_alarmBit {M : Nat} (hM : Nat.land 1 M = 1) {s0 : State} {s : State} (h : Keeps M s0 s) : Keeps M s0 (State.alarmBit s) := by
  unfold State.alarmBit
  refine (keeps_State_putB (sub_trans rfl hM)) ?_
  exact h

theorem keeps_State_debugOpen {M : Nat} (hM : Nat.land 1125899906848769 M = 1125899906848769) {s0 : State} {s : State} {p1 : List Byte} (h : Keeps M s0 s) : KP M s0 (State.debugOpen s p1) := by
  unfold State.debugOpen
  extract_lets -merge -useContext -underBinder v0 v1 v2 v3
  try clear_value v0
  try clear_value v1
  try clear_value v2
  have h4 : Keeps M s0 v3 := by
    unfold v3
    refine (keeps_State_put (sub_trans rfl hM)) ?_
    refine (keeps_State_modSec (sub_trans rfl hM)) ?_
    refine (keeps_State_eraseKeys (sub_trans rfl hM)) ?_
    exact h
  try clear_value v3
  refine ite_of (P := KP M s0) ?_ ?_
  ·
    refine KP.mk ?_
    exact h
  ·
    refine KP.mk ?_
    refine (keeps_State_setf (sub_trans rfl hM)) ?_
    refine (keeps_State_group (sub_trans rfl hM)) ?_
    refine (keeps_State_event (sub_trans rfl hM)) ?_
    exact h4

end Sys2Proof.Machine
end

