-- ==== Sys2Proof/Laws/KeepSource.lean ====
section
/-! SUPPORT. The operations of Machine/Source.lean keep what `Keeps` says. -/

namespace Sys2Proof.Machine

theorem keeps_State_requestChange {M : Nat} (hM : Nat.land 68157441 M = 68157441) {s0 : State} {s : State} {p1 : Nat} {p2 : SrcChange} (h : Keeps M s0 s) : Keeps M s0 (State.requestChange s p1 p2) := by
  unfold State.requestChange
  extract_lets -merge -useContext -underBinder v0
  have h1 : Keeps M s0 v0 := by
    unfold v0
    refine (keeps_State_pendFlag (sub_trans rfl hM)) ?_
    refine (keeps_State_modMo (sub_trans rfl hM)) ?_
    exact h
  try clear_value v0
  split
  ·
    refine (keeps_State_await (sub_trans rfl hM)) ?_
    exact h1
  ·
    exact h1

theorem keeps_State_armCamSwitch {M : Nat} (hM : Nat.land 235929601 M = 235929601) {s0 : State} {s : State} {p1 : Nat} {p2 : Option Nat} (h : Keeps M s0 s) : Keeps M s0 (State.armCamSwitch s p1 p2) := by
  unfold State.armCamSwitch
  extract_lets -merge -useContext -underBinder v0 v1
  try clear_value v0
  have h2 : Keeps M s0 v1 := by
    unfold v1
    refine (keeps_State_modMo (sub_trans rfl hM)) ?_
    refine foldl_of (P := Keeps M s0) ?_ ?_
    ·
      exact h
    · intro t3 x4 h5
      beta_reduce
      refine (keeps_State_changeDone (sub_trans rfl hM)) ?_
      exact h5
  try clear_value v1
  refine (keeps_State_requestChange (sub_trans rfl hM)) ?_
  exact h2

theorem keeps_State_camArm {M : Nat} (hM : Nat.land 235929601 M = 235929601) {s0 : State} {s : State} {p1 : Nat} (h : Keeps M s0 s) : Keeps M s0 (State.camArm s p1) := by
  unfold State.camArm
  refine (keeps_State_armCamSwitch (sub_trans rfl hM)) ?_
  exact h

theorem keeps_State_setSourceNow {M : Nat} (hM : Nat.land 9437185 M = 9437185) {s0 : State} {s : State} {p1 : Nat} {p2 : Nat} {p3 : Nat} {p4 : Bool} (h : Keeps M s0 s) : Keeps M s0 (State.setSourceNow s p1 p2 p3 p4) := by
  unfold State.setSourceNow
  extract_lets -merge -useContext -underBinder v0
  have h1 : Keeps M s0 v0 := by
    unfold v0
    refine (keeps_State_wrN (sub_trans rfl hM)) ?_
    refine (keeps_State_putB (sub_trans rfl hM)) ?_
    refine (keeps_State_put (sub_trans rfl hM)) ?_
    refine (keeps_State_put (sub_trans rfl hM)) ?_
    refine (keeps_State_reengage (sub_trans rfl hM)) ?_
    exact h
  try clear_value v0
  refine (keeps_State_camFlags (sub_trans rfl hM)) ?_
  refine (keeps_State_modMo (sub_trans rfl hM)) ?_
  exact h1

theorem keeps_State_srcWrite {M : Nat} (hM : Nat.land 9437185 M = 9437185) {s0 : State} {s : State} {p1 : Nat} {p2 : Nat} (h : Keeps M s0 s) : Keeps M s0 (State.srcWrite s p1 p2) := by
  unfold State.srcWrite
  refine ite_of (P := Keeps M s0) ?_ ?_
  ·
    refine (keeps_State_setSourceNow (sub_trans rfl hM)) ?_
    exact h
  ·
    exact h

theorem keeps_State_trajectoryEnd {M : Nat} (hM : Nat.land 1099749660673 M = 1099749660673) {s0 : State} {s : State} {p1 : Nat} (h : Keeps M s0 s) : Keeps M s0 (State.trajectoryEnd s p1) := by
  unfold State.trajectoryEnd
  extract_lets -merge -useContext -underBinder v0 v1
  try clear_value v0
  try clear_value v1
  split
  ·
    refine ite_of (P := Keeps M s0) ?_ ?_
    ·
      refine (keeps_State_segRegs (sub_trans rfl hM)) ?_
      refine (keeps_State_trajectory (sub_trans rfl hM)) ?_
      exact h
    ·
      exact h
  ·
    exact h

theorem keeps_State_dropChange {M : Nat} (hM : Nat.land 1048577 M = 1048577) {s0 : State} {s : State} {p1 : Nat} {p2 : Nat} (h : Keeps M s0 s) : Keeps M s0 (State.dropChange s p1 p2) := by
  unfold State.dropChange
  refine (keeps_State_pendFlag (sub_trans rfl hM)) ?_
  refine (keeps_State_modMo (sub_trans rfl hM)) ?_
  exact h

end Sys2Proof.Machine
end

