-- ==== Sys2Proof/Laws/KeepGrid.lean ====
section
/-! SUPPORT. The operations of Machine/Grid.lean keep what `Keeps` says. -/

namespace Sys2Proof.Machine

theorem keeps_State_gridRestart {M : Nat} (hM : Nat.land 16384 M = 16384) {s0 : State} {s : State} {p1 : Nat} (h : Keeps M s0 s) : Keeps M s0 (State.gridRestart s p1) := by
  unfold State.gridRestart
  split
  ·
    refine (keeps_State_modGrid (sub_trans rfl hM)) ?_
    exact h

theorem keeps_State_gridAdopt {M : Nat} (hM : Nat.land 16384 M = 16384) {s0 : State} {s : State} {p1 : Nat} (h : Keeps M s0 s) : Keeps M s0 (State.gridAdopt s p1) := by
  unfold State.gridAdopt
  refine (keeps_State_gridRestart (sub_trans rfl hM)) ?_
  refine (keeps_State_modGrid (sub_trans rfl hM)) ?_
  exact h

end Sys2Proof.Machine
end

