-- ==== Sys2Proof/Laws/KeepMolpin.lean ====
section
/-! SUPPORT. The operations of Machine/Molpin.lean keep what `Keeps` says. -/

namespace Sys2Proof.Machine

theorem keeps_State_lpIssue {M : Nat} (hM : Nat.land 45089103554561 M = 45089103554561) {s0 : State} {s : State} {p1 : Nat} {p2 : Nat} {p3 : Bool} {p4 : Bool} {p5 : State → LpSet → LpOut} {p6 : optParam Bool false} (h : Keeps M s0 s) (hf0 : ∀ x0 x1, Keeps M s0 x0 → KL M s0 (p5 x0 x1)) : Keeps M s0 (State.lpIssue s p1 p2 p3 p4 p5 p6) := by
  unfold State.lpIssue
  extract_lets -merge -useContext -underBinder v0 v1 v2 v3 v4 v5
  try clear_value v0
  try clear_value v1
  have h6 : Keeps M s0 v2 := by
    unfold v2
    refine (keeps_State_modLp (sub_trans rfl hM)) ?_
    exact h
  try clear_value v2
  try clear_value v3
  try clear_value v4
  have h7 : KL M s0 v5 := by
    unfold v5
    refine hf0 _ _ ?_
    exact h6
  try clear_value v5
  refine ite_of (P := Keeps M s0) ?_ ?_
  ·
    exact h
  ·
    refine ite_of (P := Keeps M s0) ?_ ?_
    ·
      refine (keeps_State_lpFault (sub_trans rfl hM)) ?_
      exact h6
    ·
      refine ite_of (P := Keeps M s0) ?_ ?_
      ·
        refine (keeps_State_lpFault (sub_trans rfl hM)) ?_
        exact h6
      ·
        refine ite_of (P := Keeps M s0) ?_ ?_
        ·
          refine (keeps_State_lpFault (sub_trans rfl hM)) ?_
          refine KL.s ?_
          exact h7
        ·
          split
          ·
            refine (keeps_State_modLp (sub_trans rfl hM)) ?_
            refine KL.s ?_
            exact h7

theorem keeps_State_lpCmulr {M : Nat} (hM : Nat.land 45089103554561 M = 45089103554561) {s0 : State} {s : State} {p1 : Nat} {p2 : Nat} {p3 : Nat} {p4 : Nat} {p5 : Nat} (h : Keeps M s0 s) : Keeps M s0 (State.lpCmulr s p1 p2 p3 p4 p5) := by
  unfold State.lpCmulr
  refine (keeps_State_lpIssue (sub_trans rfl hM)) ?_ ?_
  ·
    exact h
  · intro x0 x2 h1
    try beta_reduce
    extract_lets -merge -useContext -underBinder v3 v4
    try clear_value v3
    try clear_value v4
    refine KL.mk ?_
    exact h1

theorem keeps_State_lpRead {M : Nat} (hM : Nat.land 29686813949953 M = 29686813949953) {s0 : State} {s : State} {p1 : Nat} {p2 : Nat} (h : Keeps M s0 s) : KP M s0 (State.lpRead s p1 p2) := by
  unfold State.lpRead
  refine ite_of (P := KP M s0) ?_ ?_
  ·
    refine KP.mk ?_
    exact h
  ·
    refine ite_of (P := KP M s0) ?_ ?_
    ·
      refine KP.mk ?_
      exact h
    ·
      refine ite_of (P := KP M s0) ?_ ?_
      ·
        refine KP.mk ?_
        exact h
      ·
        refine ite_of (P := KP M s0) ?_ ?_
        ·
          extract_lets -merge -useContext -underBinder v0 v1
          try clear_value v0
          try clear_value v1
          refine KP.mk ?_
          exact h
        ·
          refine ite_of (P := KP M s0) ?_ ?_
          ·
            refine KP.mk ?_
            exact h
          ·
            refine ite_of (P := KP M s0) ?_ ?_
            ·
              refine KP.mk ?_
              exact h
            ·
              refine ite_of (P := KP M s0) ?_ ?_
              ·
                split
                ·
                  rename_i t2 q4
                  have h3 : Keeps M s0 t2 := by
                    refine KP.out q4 ?_
                    refine (keeps_State_winRead (sub_trans rfl hM)) ?_
                    exact h
                  refine KP.mk ?_
                  exact h3
                ·
                  rename_i t5 q7
                  have h6 : Keeps M s0 t5 := by
                    refine KP.out q7 ?_
                    refine (keeps_State_winRead (sub_trans rfl hM)) ?_
                    exact h
                  refine KP.mk ?_
                  exact h6
              ·
                refine KP.mk ?_
                exact h

theorem keeps_State_lpWrite {M : Nat} (hM : Nat.land 17326434945241 M = 17326434945241) {s0 : State} {s : State} {p1 : Nat} {p2 : Nat} {p3 : Word} (h : Keeps M s0 s) : KO M s0 (State.lpWrite s p1 p2 p3) := by
  unfold State.lpWrite
  refine ite_of (P := KO M s0) ?_ ?_
  ·
    exact KO.none
  ·
    refine ite_of (P := KO M s0) ?_ ?_
    ·
      refine KO.some ?_
      refine Keeps.up_mem_lpData (sub_trans rfl hM) ?_ (Memory.wf_lpData wmSet_wf)
      exact h
    ·
      refine ite_of (P := KO M s0) ?_ ?_
      ·
        refine KO.some ?_
        refine (keeps_State_mapWrite (sub_trans rfl hM)) ?_
        exact h
      ·
        refine ite_of (P := KO M s0) ?_ ?_
        ·
          refine KO.some ?_
          exact h
        ·
          refine ite_of (P := KO M s0) ?_ ?_
          ·
            refine KO.some ?_
            refine Keeps.up_mem_pool (sub_trans rfl hM) ?_ (Memory.wf_pool wmSet_wf)
            exact h
          ·
            refine ite_of (P := KO M s0) ?_ ?_
            ·
              refine KO.some ?_
              refine Keeps.up_mem_sram (sub_trans rfl hM) ?_ (Memory.wf_sram wmSet_wf)
              exact h
            ·
              refine ite_of (P := KO M s0) ?_ ?_
              ·
                refine KO.some ?_
                refine (keeps_State_winWrite (sub_trans rfl hM)) ?_
                exact h
              ·
                exact KO.none

theorem keeps_lpMove {M : Nat} (hM : Nat.land 34918620989657 M = 34918620989657) {s0 : State} {p0 : Nat} {p1 : LpSet} {p2 : MvKind} {p3 : Nat} {p4 : Nat} {s : LpOut} (h : KL M s0 s) : KL M s0 (lpMove p0 p1 p2 p3 p4 s) := by
  unfold lpMove
  refine ite_of (P := KL M s0) ?_ ?_
  ·
    refine KL.mk ?_
    refine KL.s ?_
    exact h
  ·
    extract_lets -merge -useContext -underBinder v0
    try clear_value v0
    split
    ·
      exact h
    ·
      refine KL.mk ?_
      refine KL.s ?_
      exact h
    ·
      split
      ·
        rename_i t1 q3
        have h2 : Keeps M s0 t1 := by
          refine KP.out q3 ?_
          refine (keeps_State_lpRead (sub_trans rfl hM)) ?_
          refine KL.s ?_
          exact h
        refine KL.mk ?_
        exact h2
      ·
        rename_i t4 q6
        have h5 : Keeps M s0 t4 := by
          refine KP.out q6 ?_
          refine (keeps_State_lpRead (sub_trans rfl hM)) ?_
          refine KL.s ?_
          exact h
        refine KL.mk ?_
        exact h5
      ·
        rename_i t7 q9
        have h8 : Keeps M s0 t7 := by
          refine KP.out q9 ?_
          refine (keeps_State_lpRead (sub_trans rfl hM)) ?_
          refine KL.s ?_
          exact h
        refine KL.mk ?_
        exact h8
    ·
      split
      ·
        refine KL.mk ?_
        refine KL.s ?_
        exact h
      ·
        rename_i t10 q12
        have h11 : Keeps M s0 t10 := by
          refine KO.out q12 ?_
          refine (keeps_State_lpWrite (sub_trans rfl hM)) ?_
          refine KL.s ?_
          exact h
        refine KL.mk ?_
        exact h11

theorem keeps_lpMove1 {M : Nat} (hM : Nat.land 34918620989657 M = 34918620989657) {s0 : State} {p0 : Nat} {p1 : LpSet} {p2 : Move} {s : LpOut} (h : KL M s0 s) : KL M s0 (lpMove1 p0 p1 p2 s) := by
  unfold lpMove1
  refine (keeps_lpMove (sub_trans rfl hM)) ?_
  exact h

theorem keeps_State_lpAcc {M : Nat} (hM : Nat.land 70102993086681 M = 70102993086681) {s0 : State} {s : State} {p1 : Nat} {p2 : Nat} {p3 : Bool} {p4 : Move} {p5 : LpSet → LpSet} (h : Keeps M s0 s) : Keeps M s0 (State.lpAcc s p1 p2 p3 p4 p5) := by
  unfold State.lpAcc
  refine (keeps_State_lpIssue (sub_trans rfl hM)) ?_ ?_
  ·
    exact h
  · intro x0 x2 h1
    try beta_reduce
    refine (keeps_lpMove1 (sub_trans rfl hM)) ?_
    refine KL.mk ?_
    exact h1

theorem keeps_State_lpMovta {M : Nat} (hM : Nat.land 70102993086681 M = 70102993086681) {s0 : State} {s : State} {p1 : Nat} {p2 : Nat} {p3 : Nat} {p4 : AccPart} {p5 : Move} (h : Keeps M s0 s) : Keeps M s0 (State.lpMovta s p1 p2 p3 p4 p5) := by
  unfold State.lpMovta
  refine (keeps_State_lpAcc (sub_trans rfl hM)) ?_
  exact h

theorem keeps_State_lpDivs {M : Nat} (hM : Nat.land 45089103554561 M = 45089103554561) {s0 : State} {s : State} {p1 : Nat} {p2 : Nat} {p3 : Nat} {p4 : Nat} {p5 : Nat} (h : Keeps M s0 s) : Keeps M s0 (State.lpDivs s p1 p2 p3 p4 p5) := by
  unfold State.lpDivs
  refine (keeps_State_lpIssue (sub_trans rfl hM)) ?_ ?_
  ·
    exact h
  · intro x0 x2 h1
    try beta_reduce
    extract_lets -merge -useContext -underBinder v3 v4 v5 v6 v7 v8
    try clear_value v3
    try clear_value v4
    try clear_value v5
    try clear_value v6
    try clear_value v7
    try clear_value v8
    refine ite_of (P := KL M s0) ?_ ?_
    ·
      refine KL.mk ?_
      exact h1
    ·
      refine KL.mk ?_
      exact h1

theorem keeps_State_lpMtsr {M : Nat} (hM : Nat.land 45089103554561 M = 45089103554561) {s0 : State} {s : State} {p1 : Nat} {p2 : Nat} (h : Keeps M s0 s) : Keeps M s0 (State.lpMtsr s p1 p2) := by
  unfold State.lpMtsr
  refine (keeps_State_lpIssue (sub_trans rfl hM)) ?_ ?_
  ·
    exact h
  · intro x0 x2 h1
    try beta_reduce
    refine KL.mk ?_
    exact h1

theorem keeps_State_lpAdda {M : Nat} (hM : Nat.land 70102993086681 M = 70102993086681) {s0 : State} {s : State} {p1 : Nat} {p2 : Nat} {p3 : Nat} {p4 : Move} (h : Keeps M s0 s) : Keeps M s0 (State.lpAdda s p1 p2 p3 p4) := by
  unfold State.lpAdda
  extract_lets -merge -useContext -underBinder v0
  try clear_value v0
  refine (keeps_State_lpAcc (sub_trans rfl hM)) ?_
  exact h

theorem keeps_State_lpLd {M : Nat} (hM : Nat.land 64880312854529 M = 64880312854529) {s0 : State} {s : State} {p1 : Nat} {p2 : Nat} {p3 : Nat} {p4 : AMode} (h : Keeps M s0 s) : Keeps M s0 (State.lpLd s p1 p2 p3 p4) := by
  unfold State.lpLd
  refine (keeps_State_lpIssue (sub_trans rfl hM)) ?_ ?_
  ·
    exact h
  · intro x0 x2 h1
    try beta_reduce
    split
    ·
      split
      ·
        rename_i t3 q5
        have h4 : Keeps M s0 t3 := by
          refine KP.out q5 ?_
          refine (keeps_State_lpRead (sub_trans rfl hM)) ?_
          exact h1
        refine KL.mk ?_
        exact h4
      ·
        rename_i t6 q8
        have h7 : Keeps M s0 t6 := by
          refine KP.out q8 ?_
          refine (keeps_State_lpRead (sub_trans rfl hM)) ?_
          exact h1
        refine KL.mk ?_
        exact h7
      ·
        rename_i t9 q11
        have h10 : Keeps M s0 t9 := by
          refine KP.out q11 ?_
          refine (keeps_State_lpRead (sub_trans rfl hM)) ?_
          exact h1
        refine KL.mk ?_
        exact h10

theorem keeps_State_lpMovr64 {M : Nat} (hM : Nat.land 70102993086681 M = 70102993086681) {s0 : State} {s : State} {p1 : Nat} {p2 : Nat} {p3 : Nat} {p4 : LpCount} {p5 : Move} (h : Keeps M s0 s) : Keeps M s0 (State.lpMovr64 s p1 p2 p3 p4 p5) := by
  unfold State.lpMovr64
  refine (keeps_State_lpAcc (sub_trans rfl hM)) ?_
  exact h

theorem keeps_lpMoves {M : Nat} (hM : Nat.land 34918620989657 M = 34918620989657) {s0 : State} {p0 : Nat} {p1 : LpSet} {p2 : Move2} {p3 : Move2} {s : LpOut} (h : KL M s0 s) : KL M s0 (lpMoves p0 p1 p2 p3 s) := by
  unfold lpMoves
  refine (keeps_lpMove (sub_trans rfl hM)) ?_
  refine (keeps_lpMove (sub_trans rfl hM)) ?_
  exact h

theorem keeps_lpMac {M : Nat} (hM : Nat.land 70102993086681 M = 70102993086681) {s0 : State} {p0 : MacOp} {p1 : Nat} {p2 : Nat} {p3 : Nat} {p4 : Nat} {p5 : Move2} {p6 : Move2} {s : State} (h : Keeps M s0 s) : Keeps M s0 (lpMac p0 p1 p2 p3 p4 p5 p6 s) := by
  unfold lpMac
  extract_lets -merge -useContext -underBinder v0
  try clear_value v0
  refine (keeps_State_lpIssue (sub_trans rfl hM)) ?_ ?_
  ·
    exact h
  · intro x1 x3 h2
    try beta_reduce
    extract_lets -merge -useContext -underBinder v4 v5
    try clear_value v4
    try clear_value v5
    split
    ·
      refine (keeps_lpMoves (sub_trans rfl hM)) ?_
      refine KL.mk ?_
      exact h2

theorem keeps_State_lpSetx {M : Nat} (hM : Nat.land 45089103554561 M = 45089103554561) {s0 : State} {s : State} {p1 : Nat} {p2 : Nat} {p3 : Nat} {p4 : SetxSrc} (h : Keeps M s0 s) : Keeps M s0 (State.lpSetx s p1 p2 p3 p4) := by
  unfold State.lpSetx
  refine (keeps_State_lpIssue (sub_trans rfl hM)) ?_ ?_
  ·
    exact h
  · intro x0 x2 h1
    try beta_reduce
    extract_lets -merge -useContext -underBinder v3 v4
    try clear_value v3
    try clear_value v4
    split
    ·
      refine KL.mk ?_
      exact h1
    ·
      refine KL.mk ?_
      exact h1
    ·
      refine KL.mk ?_
      exact h1
    ·
      refine ite_of (P := KL M s0) ?_ ?_
      ·
        refine KL.mk ?_
        exact h1
      ·
        refine KL.mk ?_
        exact h1
    ·
      refine KL.mk ?_
      exact h1
    ·
      refine KL.mk ?_
      exact h1

theorem keeps_State_lpClra {M : Nat} (hM : Nat.land 70102993086681 M = 70102993086681) {s0 : State} {s : State} {p1 : Nat} {p2 : Nat} {p3 : Move} (h : Keeps M s0 s) : Keeps M s0 (State.lpClra s p1 p2 p3) := by
  unfold State.lpClra
  refine (keeps_State_lpAcc (sub_trans rfl hM)) ?_
  exact h

theorem keeps_State_waitReturnRow {M : Nat} (hM : Nat.land 37658273251328 M = 37658273251328) {s0 : State} {s : State} {p1 : Nat} (h : Keeps M s0 s) : Keeps M s0 (State.waitReturnRow s p1) := by
  unfold State.waitReturnRow
  extract_lets -merge -useContext -underBinder v0
  have h1 : Keeps M s0 v0 := by
    unfold v0
    refine (keeps_State_waitReturn (sub_trans rfl hM)) ?_
    exact h
  try clear_value v0
  refine ite_of (P := Keeps M s0) ?_ ?_
  ·
    refine (keeps_State_modLp (sub_trans rfl hM)) ?_
    exact h1
  ·
    exact h1

theorem keeps_State_lpMovp {M : Nat} (hM : Nat.land 70102993086681 M = 70102993086681) {s0 : State} {s : State} {p1 : Nat} {p2 : Move2} {p3 : Move2} (h : Keeps M s0 s) : Keeps M s0 (State.lpMovp s p1 p2 p3) := by
  unfold State.lpMovp
  refine (keeps_State_lpIssue (sub_trans rfl hM)) ?_ ?_
  ·
    exact h
  · intro x0 x2 h1
    try beta_reduce
    refine (keeps_lpMoves (sub_trans rfl hM)) ?_
    refine KL.mk ?_
    exact h1

theorem keeps_State_lpLdi {M : Nat} (hM : Nat.land 45089103554561 M = 45089103554561) {s0 : State} {s : State} {p1 : Nat} {p2 : Nat} {p3 : Word} (h : Keeps M s0 s) : Keeps M s0 (State.lpLdi s p1 p2 p3) := by
  unfold State.lpLdi
  refine (keeps_State_lpIssue (sub_trans rfl hM)) ?_ ?_
  ·
    exact h
  · intro x0 x2 h1
    try beta_reduce
    refine KL.mk ?_
    exact h1

theorem keeps_State_lpMova {M : Nat} (hM : Nat.land 70102993086681 M = 70102993086681) {s0 : State} {s : State} {p1 : Nat} {p2 : Nat} {p3 : Nat} {p4 : AccPart} {p5 : Move} (h : Keeps M s0 s) : Keeps M s0 (State.lpMova s p1 p2 p3 p4 p5) := by
  unfold State.lpMova
  refine (keeps_State_lpAcc (sub_trans rfl hM)) ?_
  exact h

theorem keeps_State_lpNorm {M : Nat} (hM : Nat.land 70102993086681 M = 70102993086681) {s0 : State} {s : State} {p1 : Nat} {p2 : Nat} {p3 : Nat} {p4 : Move} (h : Keeps M s0 s) : Keeps M s0 (State.lpNorm s p1 p2 p3 p4) := by
  unfold State.lpNorm
  refine (keeps_State_lpAcc (sub_trans rfl hM)) ?_
  exact h

theorem keeps_State_lpTbr {M : Nat} (hM : Nat.land 45089103554561 M = 45089103554561) {s0 : State} {s : State} {p1 : Nat} {p2 : Nat} (h : Keeps M s0 s) : Keeps M s0 (State.lpTbr s p1 p2) := by
  unfold State.lpTbr
  refine (keeps_State_lpIssue (sub_trans rfl hM)) ?_ ?_
  ·
    exact h
  · intro x0 x2 h1
    try beta_reduce
    refine KL.mk ?_
    exact h1

theorem keeps_State_lpNop {M : Nat} (hM : Nat.land 45089103554561 M = 45089103554561) {s0 : State} {s : State} {p1 : Nat} (h : Keeps M s0 s) : Keeps M s0 (State.lpNop s p1) := by
  unfold State.lpNop
  refine (keeps_State_lpIssue (sub_trans rfl hM)) ?_ ?_
  ·
    exact h
  · intro x0 x2 h1
    try beta_reduce
    refine KL.mk ?_
    exact h1

theorem keeps_State_lpB {M : Nat} (hM : Nat.land 45089103554561 M = 45089103554561) {s0 : State} {s : State} {p1 : Nat} {p2 : Nat} {p3 : Nat} (h : Keeps M s0 s) : Keeps M s0 (State.lpB s p1 p2 p3) := by
  unfold State.lpB
  refine (keeps_State_lpIssue (sub_trans rfl hM)) ?_ ?_
  ·
    exact h
  · intro x0 x2 h1
    try beta_reduce
    refine ite_of (P := KL M s0) ?_ ?_
    ·
      refine KL.mk ?_
      exact h1
    ·
      refine KL.mk ?_
      exact h1

theorem keeps_State_lpSha {M : Nat} (hM : Nat.land 70102993086681 M = 70102993086681) {s0 : State} {s : State} {p1 : Nat} {p2 : Nat} {p3 : Bool} {p4 : Nat} {p5 : Move} (h : Keeps M s0 s) : Keeps M s0 (State.lpSha s p1 p2 p3 p4 p5) := by
  unfold State.lpSha
  extract_lets -merge -useContext -underBinder v0
  try clear_value v0
  refine (keeps_State_lpAcc (sub_trans rfl hM)) ?_
  exact h

theorem keeps_State_lpLd64 {M : Nat} (hM : Nat.land 64880312854529 M = 64880312854529) {s0 : State} {s : State} {p1 : Nat} {p2 : Nat} {p3 : Nat} {p4 : AMode} (h : Keeps M s0 s) : Keeps M s0 (State.lpLd64 s p1 p2 p3 p4) := by
  unfold State.lpLd64
  refine (keeps_State_lpIssue (sub_trans rfl hM)) ?_ ?_
  ·
    exact h
  · intro x0 x2 h1
    try beta_reduce
    split
    ·
      refine ite_of (P := KL M s0) ?_ ?_
      ·
        refine KL.mk ?_
        exact h1
      ·
        split
        ·
          rename_i t3 q5
          have h4 : Keeps M s0 t3 := by
            refine KP.out q5 ?_
            refine (keeps_State_lpRead (sub_trans rfl hM)) ?_
            exact h1
          split
          ·
            rename_i t6 q8
            have h7 : Keeps M s0 t6 := by
              refine KP.out q8 ?_
              refine (keeps_State_lpRead (sub_trans rfl hM)) ?_
              exact h4
            refine KL.mk ?_
            exact h7
          ·
            rename_i t9 q11
            have h10 : Keeps M s0 t9 := by
              refine KP.out q11 ?_
              refine (keeps_State_lpRead (sub_trans rfl hM)) ?_
              exact h4
            refine KL.mk ?_
            exact h10
          ·
            rename_i t12 q14
            have h13 : Keeps M s0 t12 := by
              refine KP.out q14 ?_
              refine (keeps_State_lpRead (sub_trans rfl hM)) ?_
              exact h4
            refine KL.mk ?_
            exact h13
        ·
          rename_i t15 q17
          have h16 : Keeps M s0 t15 := by
            refine KP.out q17 ?_
            refine (keeps_State_lpRead (sub_trans rfl hM)) ?_
            exact h1
          refine KL.mk ?_
          exact h16
        ·
          rename_i t18 q20
          have h19 : Keeps M s0 t18 := by
            refine KP.out q20 ?_
            refine (keeps_State_lpRead (sub_trans rfl hM)) ?_
            exact h1
          refine KL.mk ?_
          exact h19

theorem keeps_State_lpRet {M : Nat} (hM : Nat.land 45089103554561 M = 45089103554561) {s0 : State} {s : State} {p1 : Nat} (h : Keeps M s0 s) : Keeps M s0 (State.lpRet s p1) := by
  unfold State.lpRet
  refine (keeps_State_lpIssue (sub_trans rfl hM)) ?_ ?_
  ·
    exact h
  · intro x0 x2 h1
    try beta_reduce
    split
    ·
      refine KL.mk ?_
      exact h1
    ·
      refine KL.mk ?_
      exact h1

theorem keeps_State_lpSt {M : Nat} (hM : Nat.land 52510807042265 M = 52510807042265) {s0 : State} {s : State} {p1 : Nat} {p2 : Nat} {p3 : Nat} {p4 : AMode} (h : Keeps M s0 s) : Keeps M s0 (State.lpSt s p1 p2 p3 p4) := by
  unfold State.lpSt
  refine (keeps_State_lpIssue (sub_trans rfl hM)) ?_ ?_
  ·
    exact h
  · intro x0 x2 h1
    try beta_reduce
    split
    ·
      split
      ·
        refine KL.mk ?_
        exact h1
      ·
        rename_i t3 q5
        have h4 : Keeps M s0 t3 := by
          refine KO.out q5 ?_
          refine (keeps_State_lpWrite (sub_trans rfl hM)) ?_
          exact h1
        refine KL.mk ?_
        exact h4

theorem keeps_lpAlu {M : Nat} (hM : Nat.land 70102993086681 M = 70102993086681) {s0 : State} {p0 : AluOp} {p1 : Nat} {p2 : Nat} {p3 : AluSrc} {s : State} (h : Keeps M s0 s) : Keeps M s0 (lpAlu p0 p1 p2 p3 s) := by
  unfold lpAlu
  extract_lets -merge -useContext -underBinder v0
  try clear_value v0
  refine (keeps_State_lpIssue (sub_trans rfl hM)) ?_ ?_
  ·
    exact h
  · intro x1 x3 h2
    try beta_reduce
    extract_lets -merge -useContext -underBinder v4
    try clear_value v4
    split
    ·
      extract_lets -merge -useContext -underBinder v5 v6 v7 v8
      try clear_value v5
      try clear_value v6
      try clear_value v7
      have h9 : KL M s0 v8 := by
        unfold v8
        refine KL.mk ?_
        exact h2
      try clear_value v8
      split
      ·
        refine (keeps_lpMove1 (sub_trans rfl hM)) ?_
        exact h9
      ·
        exact h9

theorem keeps_lpCmac {M : Nat} (hM : Nat.land 70102993086681 M = 70102993086681) {s0 : State} {p0 : Bool} {p1 : Nat} {p2 : Bool} {p3 : Nat} {p4 : Nat} {p5 : Move2} {p6 : Move2} {s : State} (h : Keeps M s0 s) : Keeps M s0 (lpCmac p0 p1 p2 p3 p4 p5 p6 s) := by
  unfold lpCmac
  refine (keeps_State_lpIssue (sub_trans rfl hM)) ?_ ?_
  ·
    exact h
  · intro x0 x2 h1
    try beta_reduce
    extract_lets -merge -useContext -underBinder v3 v4 v5 v6 v7
    try clear_value v3
    try clear_value v4
    try clear_value v5
    try clear_value v6
    try clear_value v7
    split
    ·
      split
      ·
        refine (keeps_lpMoves (sub_trans rfl hM)) ?_
        refine KL.mk ?_
        exact h1

theorem keeps_State_lpExp {M : Nat} (hM : Nat.land 70102993086681 M = 70102993086681) {s0 : State} {s : State} {p1 : Nat} {p2 : Nat} {p3 : ExpSrc} {p4 : Move} (h : Keeps M s0 s) : Keeps M s0 (State.lpExp s p1 p2 p3 p4) := by
  unfold State.lpExp
  extract_lets -merge -useContext -underBinder v0
  try clear_value v0
  refine (keeps_State_lpAcc (sub_trans rfl hM)) ?_
  exact h

theorem keeps_State_lpRep {M : Nat} (hM : Nat.land 45089103554561 M = 45089103554561) {s0 : State} {s : State} {p1 : Nat} {p2 : LpCount} {p3 : Nat} (h : Keeps M s0 s) : Keeps M s0 (State.lpRep s p1 p2 p3) := by
  unfold State.lpRep
  refine (keeps_State_lpIssue (sub_trans rfl hM)) ?_ ?_
  ·
    exact h
  · intro x0 x2 h1
    try beta_reduce
    extract_lets -merge -useContext -underBinder v3
    try clear_value v3
    refine ite_of (P := KL M s0) ?_ ?_
    ·
      split
      ·
        refine KL.mk ?_
        exact h1
    ·
      refine ite_of (P := KL M s0) ?_ ?_
      ·
        refine KL.mk ?_
        exact h1
      ·
        refine KL.mk ?_
        exact h1

theorem keeps_State_lpMfsr {M : Nat} (hM : Nat.land 45089103554561 M = 45089103554561) {s0 : State} {s : State} {p1 : Nat} {p2 : Nat} (h : Keeps M s0 s) : Keeps M s0 (State.lpMfsr s p1 p2) := by
  unfold State.lpMfsr
  refine (keeps_State_lpIssue (sub_trans rfl hM)) ?_ ?_
  ·
    exact h
  · intro x0 x2 h1
    try beta_reduce
    refine KL.mk ?_
    exact h1

theorem keeps_State_lpSt64 {M : Nat} (hM : Nat.land 52510807042265 M = 52510807042265) {s0 : State} {s : State} {p1 : Nat} {p2 : Nat} {p3 : Nat} {p4 : AMode} (h : Keeps M s0 s) : Keeps M s0 (State.lpSt64 s p1 p2 p3 p4) := by
  unfold State.lpSt64
  refine (keeps_State_lpIssue (sub_trans rfl hM)) ?_ ?_
  ·
    exact h
  · intro x0 x2 h1
    try beta_reduce
    split
    ·
      refine ite_of (P := KL M s0) ?_ ?_
      ·
        refine KL.mk ?_
        exact h1
      ·
        split
        ·
          refine KL.mk ?_
          exact h1
        ·
          rename_i t3 q5
          have h4 : Keeps M s0 t3 := by
            refine KO.out q5 ?_
            refine (keeps_State_lpWrite (sub_trans rfl hM)) ?_
            exact h1
          split
          ·
            refine KL.mk ?_
            exact h4
          ·
            rename_i t6 q8
            have h7 : Keeps M s0 t6 := by
              refine KO.out q8 ?_
              refine (keeps_State_lpWrite (sub_trans rfl hM)) ?_
              exact h4
            refine KL.mk ?_
            exact h7

theorem keeps_State_lpSincos {M : Nat} (hM : Nat.land 45089103554561 M = 45089103554561) {s0 : State} {s : State} {p1 : Nat} {p2 : Nat} {p3 : Nat} (h : Keeps M s0 s) : Keeps M s0 (State.lpSincos s p1 p2 p3) := by
  unfold State.lpSincos
  refine (keeps_State_lpIssue (sub_trans rfl hM)) ?_ ?_
  ·
    exact h
  · intro x0 x2 h1
    try beta_reduce
    extract_lets -merge -useContext -underBinder v3
    try clear_value v3
    refine KL.mk ?_
    exact h1

theorem keeps_State_lpSwapDue {M : Nat} (hM : Nat.land 35184372088849 M = 35184372088849) {s0 : State} {s : State} {p1 : Nat} (h : Keeps M s0 s) : Keeps M s0 (State.lpSwapDue s p1) := by
  unfold State.lpSwapDue
  refine ite_of (P := Keeps M s0) ?_ ?_
  ·
    refine (keeps_State_bankFlip (sub_trans rfl hM)) ?_
    exact h
  ·
    exact h

theorem keeps_State_lpMovr {M : Nat} (hM : Nat.land 70102993086681 M = 70102993086681) {s0 : State} {s : State} {p1 : Nat} {p2 : Nat} {p3 : Nat} {p4 : LpCount} {p5 : Move} (h : Keeps M s0 s) : Keeps M s0 (State.lpMovr s p1 p2 p3 p4 p5) := by
  unfold State.lpMovr
  refine (keeps_State_lpAcc (sub_trans rfl hM)) ?_
  exact h

theorem keeps_State_lpCall {M : Nat} (hM : Nat.land 45089103554561 M = 45089103554561) {s0 : State} {s : State} {p1 : Nat} {p2 : Nat} (h : Keeps M s0 s) : Keeps M s0 (State.lpCall s p1 p2) := by
  unfold State.lpCall
  refine (keeps_State_lpIssue (sub_trans rfl hM)) ?_ ?_
  ·
    exact h
  · intro x0 x2 h1
    try beta_reduce
    refine ite_of (P := KL M s0) ?_ ?_
    ·
      refine KL.mk ?_
      exact h1
    ·
      refine KL.mk ?_
      exact h1

theorem keeps_State_lpBl {M : Nat} (hM : Nat.land 45089103554561 M = 45089103554561) {s0 : State} {s : State} {p1 : Nat} {p2 : Nat} (h : Keeps M s0 s) : Keeps M s0 (State.lpBl s p1 p2) := by
  unfold State.lpBl
  refine (keeps_State_lpIssue (sub_trans rfl hM)) ?_ ?_
  ·
    exact h
  · intro x0 x2 h1
    try beta_reduce
    refine KL.mk ?_
    exact h1

theorem keeps_State_lpEnd {M : Nat} (hM : Nat.land 45089103554577 M = 45089103554577) {s0 : State} {s : State} {p1 : Nat} (h : Keeps M s0 s) : Keeps M s0 (State.lpEnd s p1) := by
  unfold State.lpEnd
  extract_lets -merge -useContext -underBinder v0
  have h1 : Keeps M s0 v0 := by
    unfold v0
    refine (keeps_State_lpIssue (sub_trans rfl hM)) ?_ ?_
    ·
      exact h
    · intro x2 x4 h3
      try beta_reduce
      refine KL.mk ?_
      exact h3
  try clear_value v0
  refine ite_of (P := Keeps M s0) ?_ ?_
  ·
    exact h1
  ·
    refine (keeps_State_lpSwapDue (sub_trans rfl hM)) ?_
    refine (keeps_State_modLp (sub_trans rfl hM)) ?_
    exact h1

theorem keeps_State_lpClrf {M : Nat} (hM : Nat.land 45089103554561 M = 45089103554561) {s0 : State} {s : State} {p1 : Nat} (h : Keeps M s0 s) : Keeps M s0 (State.lpClrf s p1) := by
  unfold State.lpClrf
  refine (keeps_State_lpIssue (sub_trans rfl hM)) ?_ ?_
  ·
    exact h
  · intro x0 x2 h1
    try beta_reduce
    refine KL.mk ?_
    exact h1

theorem keeps_State_lpRti {M : Nat} (hM : Nat.land 45089103554577 M = 45089103554577) {s0 : State} {s : State} {p1 : Nat} (h : Keeps M s0 s) : Keeps M s0 (State.lpRti s p1) := by
  unfold State.lpRti
  extract_lets -merge -useContext -underBinder v0
  have h1 : Keeps M s0 v0 := by
    unfold v0
    refine (keeps_State_lpIssue (sub_trans rfl hM)) ?_ ?_
    ·
      exact h
    · intro x2 x4 h3
      try beta_reduce
      refine KL.mk ?_
      exact h3
  try clear_value v0
  refine ite_of (P := Keeps M s0) ?_ ?_
  ·
    refine (keeps_State_lpSwapDue (sub_trans rfl hM)) ?_
    refine (keeps_State_modLp (sub_trans rfl hM)) ?_
    refine (keeps_State_clrf (sub_trans rfl hM)) ?_
    exact h1
  ·
    exact h1

end Sys2Proof.Machine
end

