-- ==== Sys2Proof/Laws/KeepPlan.lean ====
section
/-! SUPPORT. The operations of Machine/Plan.lean keep what `Keeps` says. -/

namespace Sys2Proof.Machine

theorem keeps_State_refill {M : Nat} (hM : Nat.land 1048577 M = 1048577) {s0 : State} {s : State} {p1 : Nat} (h : Keeps M s0 s) : Keeps M s0 (State.refill s p1) := by
  unfold State.refill
  extract_lets -merge -useContext -underBinder v0
  try clear_value v0
  refine (keeps_State_segRegs (sub_trans rfl hM)) ?_
  refine (keeps_State_modMo (sub_trans rfl hM)) ?_
  exact h

theorem keeps_State_addSegs {M : Nat} (hM : Nat.land 1048577 M = 1048577) {s0 : State} {s : State} {p1 : Nat} {p2 : List Seg} (h : Keeps M s0 s) : Keeps M s0 (State.addSegs s p1 p2) := by
  unfold State.addSegs
  refine (keeps_State_refill (sub_trans rfl hM)) ?_
  refine (keeps_State_modMo (sub_trans rfl hM)) ?_
  exact h

theorem keeps_State_modPlan {M : Nat} (hM : Nat.land 2097152 M = 2097152) {s0 : State} {s : State} {p1 : Nat} {p2 : GrpPlan → GrpPlan} (h : Keeps M s0 s) : Keeps M s0 (State.modPlan s p1 p2) := by
  unfold State.modPlan
  refine Keeps.up_plans (sub_trans rfl hM) ?_
  exact h

theorem keeps_State_moveQueued {M : Nat} (hM : Nat.land 234881024 M = 234881024) {s0 : State} {s : State} {p1 : Option Nat} {p2 : Bool} {p3 : List Nat} (h : Keeps M s0 s) : Keeps M s0 (State.moveQueued s p1 p2 p3) := by
  unfold State.moveQueued
  split
  ·
    exact h
  ·
    refine ite_of (P := Keeps M s0) ?_ ?_
    ·
      refine foldl_of (P := Keeps M s0) ?_ ?_
      ·
        exact h
      · intro t0 x1 h2
        beta_reduce
        refine (keeps_State_await (sub_trans rfl hM)) ?_
        exact h2
    ·
      refine (keeps_State_finish (sub_trans rfl hM)) ?_
      exact h

theorem keeps_State_nextMove {M : Nat} (hM : Nat.land 1048576 M = 1048576) {s0 : State} {s : State} {p1 : Nat} (h : Keeps M s0 s) : KP M s0 (State.nextMove s p1) := by
  unfold State.nextMove
  extract_lets -merge -useContext -underBinder v0
  try clear_value v0
  refine KP.mk ?_
  refine (keeps_State_modMo (sub_trans rfl hM)) ?_
  exact h

theorem keeps_State_standTo {M : Nat} (hM : Nat.land 1048577 M = 1048577) {s0 : State} {s : State} {p1 : Nat} {p2 : Nat} (h : Keeps M s0 s) : Keeps M s0 (State.standTo s p1 p2) := by
  unfold State.standTo
  split
  ·
    refine ite_of (P := Keeps M s0) ?_ ?_
    ·
      refine (keeps_State_addSegs (sub_trans rfl hM)) ?_
      exact h
    ·
      exact h
  ·
    exact h

theorem keeps_State_planCommit {M : Nat} (hM : Nat.land 238026753 M = 238026753) {s0 : State} {s : State} {p1 : Nat} (h : Keeps M s0 s) : Keeps M s0 (State.planCommit s p1) := by
  unfold State.planCommit
  extract_lets -merge -useContext -underBinder v0
  try clear_value v0
  split
  ·
    exact h
  ·
    extract_lets -merge -useContext -underBinder v1 v2 v3 v4 v5 v6 v7 v8 v9 v10 v11 v12 v13 v14 v15 v16 v17 v18 v19 v20
    try clear_value v1
    try clear_value v2
    have h21 : Keeps M s0 v3 := by
      unfold v3
      refine (keeps_State_modPlan (sub_trans rfl hM)) ?_
      exact h
    try clear_value v3
    try clear_value v4
    try clear_value v5
    try clear_value v6
    try clear_value v7
    try clear_value v8
    try clear_value v9
    try clear_value v10
    try clear_value v11
    try clear_value v12
    try clear_value v13
    try clear_value v14
    try clear_value v15
    try clear_value v16
    try clear_value v17
    try clear_value v18
    have h22 : Keeps M s0 v19 := by
      unfold v19
      refine foldl_of (P := Keeps M s0) ?_ ?_
      ·
        exact h21
      · intro t23 x24 h25
        beta_reduce
        extract_lets -merge -useContext -underBinder v26
        try clear_value v26
        split
        ·
          rename_i t27 q29
          have h28 : Keeps M s0 t27 := by
            refine KP.out q29 ?_
            refine (keeps_State_nextMove (sub_trans rfl hM)) ?_
            refine (keeps_State_standTo (sub_trans rfl hM)) ?_
            exact h25
          refine (keeps_State_addSegs (sub_trans rfl hM)) ?_
          exact h28
    try clear_value v19
    have h30 : Keeps M s0 v20 := by
      unfold v20
      refine (keeps_State_modPlan (sub_trans rfl hM)) ?_
      exact h22
    try clear_value v20
    refine ite_of (P := Keeps M s0) ?_ ?_
    ·
      refine (keeps_State_finishAny (sub_trans rfl hM)) ?_
      exact h21
    ·
      refine ite_of (P := Keeps M s0) ?_ ?_
      ·
        refine (keeps_State_finishAny (sub_trans rfl hM)) ?_
        exact h30
      ·
        refine (keeps_State_moveQueued (sub_trans rfl hM)) ?_
        exact h30

theorem keeps_State_stopAxes {M : Nat} (hM : Nat.land 235929601 M = 235929601) {s0 : State} {s : State} {p1 : Nat} {p2 : Nat} {p3 : List (Nat × Rat)} {p4 : Rat} {p5 : Rat} (h : Keeps M s0 s) : Keeps M s0 (State.stopAxes s p1 p2 p3 p4 p5) := by
  unfold State.stopAxes
  extract_lets -merge -useContext -underBinder v0 v1 v2 v3 v4 v5 v6 v7 v8 v9 v10 v11 v12 v13
  try clear_value v0
  try clear_value v1
  try clear_value v2
  try clear_value v3
  try clear_value v4
  try clear_value v5
  try clear_value v6
  try clear_value v7
  try clear_value v8
  try clear_value v9
  try clear_value v10
  try clear_value v11
  try clear_value v12
  try clear_value v13
  refine foldl_of (P := Keeps M s0) ?_ ?_
  ·
    exact h
  · intro t14 x15 h16
    beta_reduce
    extract_lets -merge -useContext -underBinder v17 v18 v19 v20 v21 v22 v23 v24 v25 v26 v27 v28 v29
    try clear_value v17
    try clear_value v18
    try clear_value v19
    try clear_value v20
    try clear_value v21
    try clear_value v22
    try clear_value v23
    try clear_value v24
    try clear_value v25
    try clear_value v26
    try clear_value v27
    have h30 : Keeps M s0 v28 := by
      unfold v28
      refine (keeps_State_modMo (sub_trans rfl hM)) ?_
      exact h16
    try clear_value v28
    try clear_value v29
    refine (keeps_State_segRegs (sub_trans rfl hM)) ?_
    refine foldl_of (P := Keeps M s0) ?_ ?_
    ·
      exact h30
    · intro t31 x32 h33
      beta_reduce
      refine (keeps_State_finish (sub_trans rfl hM)) ?_
      exact h33

theorem keeps_State_stopNow {M : Nat} (hM : Nat.land 238026753 M = 238026753) {s0 : State} {s : State} {p1 : StopReq} (h : Keeps M s0 s) : Keeps M s0 (State.stopNow s p1) := by
  unfold State.stopNow
  extract_lets -merge -useContext -underBinder v0 v1 v2
  try clear_value v0
  have h3 : Keeps M s0 v1 := by
    unfold v1
    refine foldl_of (P := Keeps M s0) ?_ ?_
    ·
      exact h
    · intro t4 x5 h6
      beta_reduce
      refine (keeps_State_finishAny (sub_trans rfl hM)) ?_
      exact h6
  try clear_value v1
  have h7 : Keeps M s0 v2 := by
    unfold v2
    refine ite_of (P := Keeps M s0) ?_ ?_
    ·
      refine (keeps_State_stopAxes (sub_trans rfl hM)) ?_
      exact h
    ·
      refine (keeps_State_stopAxes (sub_trans rfl hM)) ?_
      refine (keeps_State_modPlan (sub_trans rfl hM)) ?_
      exact h3
  try clear_value v2
  refine (keeps_State_finish (sub_trans rfl hM)) ?_
  exact h7

theorem keeps_State_stopBoundary {M : Nat} (hM : Nat.land 242221057 M = 242221057) {s0 : State} {s : State} (h : Keeps M s0 s) : Keeps M s0 (State.stopBoundary s) := by
  unfold State.stopBoundary
  extract_lets -merge -useContext -underBinder v0
  try clear_value v0
  refine foldl_of (P := Keeps M s0) ?_ ?_
  ·
    refine Keeps.up_stops (sub_trans rfl hM) ?_
    exact h
  · intro t1 x2 h3
    beta_reduce
    refine (keeps_State_stopNow (sub_trans rfl hM)) ?_
    exact h3

theorem keeps_State_planPath {M : Nat} (hM : Nat.land 238026753 M = 238026753) {s0 : State} {s : State} {p1 : Nat} {p2 : Nat} {p3 : Bool} {p4 : PathGeo} {p5 : Int} (h : Keeps M s0 s) : Keeps M s0 (State.planPath s p1 p2 p3 p4 p5) := by
  unfold State.planPath
  extract_lets -merge -useContext -underBinder v0
  have h1 : Keeps M s0 v0 := by
    unfold v0
    refine (keeps_State_modPlan (sub_trans rfl hM)) ?_
    exact h
  try clear_value v0
  refine ite_of (P := Keeps M s0) ?_ ?_
  ·
    refine (keeps_State_planCommit (sub_trans rfl hM)) ?_
    exact h1
  ·
    exact h1

theorem keeps_State_planTick {M : Nat} (hM : Nat.land 238026753 M = 238026753) {s0 : State} {s : State} (h : Keeps M s0 s) : Keeps M s0 (State.planTick s) := by
  unfold State.planTick
  refine ite_of (P := Keeps M s0) ?_ ?_
  ·
    exact h
  ·
    extract_lets -merge -useContext -underBinder v0
    have h1 : Keeps M s0 v0 := by
      unfold v0
      refine Keeps.forEach ?_ ?_
      ·
        exact h
      · intro t2 x3 h4
        beta_reduce
        refine (keeps_State_refill (sub_trans rfl hM)) ?_
        exact h4
    try clear_value v0
    refine Keeps.forEach ?_ ?_
    ·
      exact h1
    · intro t5 x6 h7
      beta_reduce
      refine foldl_of (P := Keeps M s0) ?_ ?_
      ·
        exact h7
      · intro t8 x9 h10
        beta_reduce
        refine ite_of (P := Keeps M s0) ?_ ?_
        ·
          refine (keeps_State_planCommit (sub_trans rfl hM)) ?_
          exact h10
        ·
          exact h10

theorem keeps_State_ptpAxis {M : Nat} (hM : Nat.land 1048577 M = 1048577) {s0 : State} {s : State} {p1 : Nat} {p2 : Nat} {p3 : Int} {p4 : Nat × Nat × Nat} (h : Keeps M s0 s) : Keeps M s0 (State.ptpAxis s p1 p2 p3 p4) := by
  unfold State.ptpAxis
  refine ite_of (P := Keeps M s0) ?_ ?_
  ·
    exact h
  ·
    extract_lets -merge -useContext -underBinder v0
    try clear_value v0
    split
    ·
      rename_i t1 q3
      have h2 : Keeps M s0 t1 := by
        refine KP.out q3 ?_
        refine (keeps_State_nextMove (sub_trans rfl hM)) ?_
        refine (keeps_State_standTo (sub_trans rfl hM)) ?_
        exact h
      refine (keeps_State_addSegs (sub_trans rfl hM)) ?_
      exact h2

theorem keeps_State_planPtp {M : Nat} (hM : Nat.land 235929601 M = 235929601) {s0 : State} {s : State} {p1 : Nat} {p2 : Bool} {p3 : Bool} {p4 : List Rat} {p5 : List Rat} {p6 : List Rat} {p7 : List (Nat × Int)} (h : Keeps M s0 s) : Keeps M s0 (State.planPtp s p1 p2 p3 p4 p5 p6 p7) := by
  unfold State.planPtp
  extract_lets -merge -useContext -underBinder v0 v1 v2 v3 v4
  try clear_value v0
  try clear_value v1
  try clear_value v2
  try clear_value v3
  have h5 : Keeps M s0 v4 := by
    unfold v4
    refine foldl_of (P := Keeps M s0) ?_ ?_
    ·
      exact h
    · intro t6 x7 h8
      beta_reduce
      refine (keeps_State_ptpAxis (sub_trans rfl hM)) ?_
      exact h8
  try clear_value v4
  refine (keeps_State_moveQueued (sub_trans rfl hM)) ?_
  exact h5

theorem keeps_State_planFlush {M : Nat} (hM : Nat.land 238026753 M = 238026753) {s0 : State} {s : State} {p1 : Nat} (h : Keeps M s0 s) : Keeps M s0 (State.planFlush s p1) := by
  unfold State.planFlush
  refine foldl_of (P := Keeps M s0) ?_ ?_
  ·
    exact h
  · intro t0 x1 h2
    beta_reduce
    refine (keeps_State_planCommit (sub_trans rfl hM)) ?_
    exact h2

end Sys2Proof.Machine
end

