-- ==== Sys2Proof/Laws/KeepTimebase.lean ====
section
/-! SUPPORT. The operations of Machine/Timebase.lean keep what `Keeps` says. -/

namespace Sys2Proof.Machine

theorem keeps_State_duskCheck {M : Nat} (hM : Nat.land 1 M = 1) {s0 : State} {s : State} (h : Keeps M s0 s) : Keeps M s0 (State.duskCheck s) := by
  unfold State.duskCheck
  refine ite_of (P := Keeps M s0) ?_ ?_
  ·
    refine (keeps_State_setf (sub_trans rfl hM)) ?_
    exact h
  ·
    exact h

theorem keeps_State_recoveryRow {M : Nat} (hM : Nat.land 1100295444481 M = 1100295444481) {s0 : State} {s : State} {p1 : Nat} (h : Keeps M s0 s) : Keeps M s0 (State.recoveryRow s p1) := by
  unfold State.recoveryRow
  refine (keeps_State_duskCheck (sub_trans rfl hM)) ?_
  refine (keeps_State_recoveryRun (sub_trans rfl hM)) ?_
  exact h

theorem keeps_State_runEnd {M : Nat} (hM : Nat.land 1099749660673 M = 1099749660673) {s0 : State} {s : State} {p1 : RunReq} {p2 : Nat} (h : Keeps M s0 s) : Keeps M s0 (State.runEnd s p1 p2) := by
  unfold State.runEnd
  refine ite_of (P := Keeps M s0) ?_ ?_
  ·
    exact h
  ·
    refine ite_of (P := Keeps M s0) ?_ ?_
    ·
      refine (keeps_State_lateRun (sub_trans rfl hM)) ?_
      exact h
    ·
      refine (keeps_State_onTime (sub_trans rfl hM)) ?_
      exact h

theorem keeps_State_ssiStartRow {M : Nat} (hM : Nat.land 73729 M = 73729) {s0 : State} {s : State} {p1 : Nat} (h : Keeps M s0 s) : Keeps M s0 (State.ssiStartRow s p1) := by
  unfold State.ssiStartRow
  split
  ·
    extract_lets -merge -useContext -underBinder v0 v1 v2
    try clear_value v0
    try clear_value v1
    try clear_value v2
    refine ite_of (P := Keeps M s0) ?_ ?_
    ·
      refine (keeps_State_ssiStart (sub_trans rfl hM)) ?_
      refine (keeps_State_advanceTo (sub_trans rfl hM)) ?_
      exact h
    ·
      exact h

theorem keeps_State_joinRun {M : Nat} (hM : Nat.land 1104313063425 M = 1104313063425) {s0 : State} {s : State} {p1 : RunReq} (h : Keeps M s0 s) : Keeps M s0 (State.joinRun s p1) := by
  unfold State.joinRun
  refine ite_of (P := Keeps M s0) ?_ ?_
  ·
    refine (keeps_State_enqueue (sub_trans rfl hM)) ?_
    exact h
  ·
    exact h

theorem keeps_State_joinPos {M : Nat} (hM : Nat.land 1104313079809 M = 1104313079809) {s0 : State} {s : State} {p1 : Nat} (h : Keeps M s0 s) : Keeps M s0 (State.joinPos s p1) := by
  unfold State.joinPos
  refine ite_of (P := Keeps M s0) ?_ ?_
  ·
    exact h
  ·
    extract_lets -merge -useContext -underBinder v0 v1
    try clear_value v0
    have h2 : Keeps M s0 v1 := by
      unfold v1
      refine (keeps_State_modGrid (sub_trans rfl hM)) ?_
      exact h
    try clear_value v1
    refine ite_of (P := Keeps M s0) ?_ ?_
    ·
      refine (keeps_State_joinRun (sub_trans rfl hM)) ?_
      exact h2
    ·
      exact h2

theorem keeps_State_joinVel {M : Nat} (hM : Nat.land 1104313079809 M = 1104313079809) {s0 : State} {s : State} {p1 : Nat} (h : Keeps M s0 s) : Keeps M s0 (State.joinVel s p1) := by
  unfold State.joinVel
  refine ite_of (P := Keeps M s0) ?_ ?_
  ·
    exact h
  ·
    extract_lets -merge -useContext -underBinder v0
    try clear_value v0
    refine (keeps_State_joinRun (sub_trans rfl hM)) ?_
    refine (keeps_State_modGrid (sub_trans rfl hM)) ?_
    exact h

theorem keeps_State_slip {M : Nat} (hM : Nat.land 2049 M = 2049) {s0 : State} {s : State} {p1 : Bool} (h : Keeps M s0 s) : Keeps M s0 (State.slip s p1) := by
  unfold State.slip
  refine ite_of (P := Keeps M s0) ?_ ?_
  ·
    refine (keeps_State_event (sub_trans rfl hM)) ?_
    refine (keeps_State_setf (sub_trans rfl hM)) ?_
    exact h
  ·
    exact h

theorem keeps_State_axisBoundary {M : Nat} (hM : Nat.land 9008501673523203 M = 9008501673523203) {s0 : State} {s : State} {p1 : Nat} {p2 : Nat} (h : Keeps M s0 s) : Keeps M s0 (State.axisBoundary s p1 p2) := by
  unfold State.axisBoundary
  split
  ·
    refine ite_of (P := Keeps M s0) ?_ ?_
    ·
      exact h
    ·
      extract_lets -merge -useContext -underBinder v0 v1 v2 v3 v4 v5 v6 v7 v8 v9 v10 v11 v12 v13 v14 v15
      have h16 : Keeps M s0 v0 := by
        unfold v0
        refine (keeps_State_joinVel (sub_trans rfl hM)) ?_
        refine (keeps_State_joinPos (sub_trans rfl hM)) ?_
        exact h
      try clear_value v0
      try clear_value v1
      try clear_value v2
      have h17 : Keeps M s0 v3 := by
        unfold v3
        refine (keeps_State_slip (sub_trans rfl hM)) ?_
        refine (keeps_State_modGrid (sub_trans rfl hM)) ?_
        refine (keeps_State_advanceTo (sub_trans rfl hM)) ?_
        exact h16
      try clear_value v3
      try clear_value v4
      try clear_value v5
      try clear_value v6
      have h18 : Keeps M s0 v7 := by
        unfold v7
        refine (keeps_State_pwmBoundary (sub_trans rfl hM)) ?_
        exact h17
      try clear_value v7
      have h19 : Keeps M s0 v8 := by
        unfold v8
        refine ite_of (P := Keeps M s0) ?_ ?_
        ·
          exact h18
        ·
          refine (keeps_State_capTick (sub_trans rfl hM)) ?_
          exact h18
      try clear_value v8
      have h20 : Keeps M s0 v9 := by
        unfold v9
        refine Keeps.forEach ?_ ?_
        ·
          exact h19
        · intro t21 x22 h23
          beta_reduce
          refine (keeps_State_capTick (sub_trans rfl hM)) ?_
          refine (keeps_State_pwmBoundary (sub_trans rfl hM)) ?_
          exact h23
      try clear_value v9
      have h24 : Keeps M s0 v10 := by
        unfold v10
        refine ite_of (P := Keeps M s0) ?_ ?_
        ·
          refine (keeps_State_capTick (sub_trans rfl hM)) ?_
          refine (keeps_State_placeWindow (sub_trans rfl hM)) ?_
          exact h20
        ·
          exact h17
      try clear_value v10
      try clear_value v11
      have h25 : Keeps M s0 v12 := by
        unfold v12
        refine ite_of (P := Keeps M s0) ?_ ?_
        ·
          refine (keeps_State_loopApplyAt (sub_trans rfl hM)) ?_
          exact h24
        ·
          exact h24
      try clear_value v12
      have h26 : Keeps M s0 v13 := by
        unfold v13
        refine Keeps.forEach ?_ ?_
        ·
          exact h25
        · intro t27 x28 h29
          beta_reduce
          refine (keeps_State_portTake (sub_trans rfl hM)) ?_
          exact h29
      try clear_value v13
      have h30 : Keeps M s0 v14 := by
        unfold v14
        refine ite_of (P := Keeps M s0) ?_ ?_
        ·
          refine (keeps_State_capTick (sub_trans rfl hM)) ?_
          refine (keeps_State_modGrid (sub_trans rfl hM)) ?_
          refine ite_of (P := Keeps M s0) ?_ ?_
          ·
            refine (keeps_State_captureVel (sub_trans rfl hM)) ?_
            exact h26
          ·
            exact h26
        ·
          exact h26
      try clear_value v14
      have h31 : Keeps M s0 v15 := by
        unfold v15
        refine ite_of (P := Keeps M s0) ?_ ?_
        ·
          refine (keeps_State_capTick (sub_trans rfl hM)) ?_
          refine (keeps_State_modGrid (sub_trans rfl hM)) ?_
          refine ite_of (P := Keeps M s0) ?_ ?_
          ·
            refine (keeps_State_capturePos (sub_trans rfl hM)) ?_
            exact h30
          ·
            refine (keeps_State_modLoop (sub_trans rfl hM)) ?_
            exact h30
        ·
          exact h30
      try clear_value v15
      refine Keeps.forEach ?_ ?_
      ·
        exact h31
      · intro t32 x33 h34
        beta_reduce
        refine (keeps_State_portAfter (sub_trans rfl hM)) ?_
        exact h34

theorem keeps_State_gridsRestart {M : Nat} (hM : Nat.land 16384 M = 16384) {s0 : State} {s : State} (h : Keeps M s0 s) : Keeps M s0 (State.gridsRestart s) := by
  unfold State.gridsRestart
  refine Keeps.forEach ?_ ?_
  ·
    exact h
  · intro t0 x1 h2
    beta_reduce
    refine (keeps_State_gridRestart (sub_trans rfl hM)) ?_
    exact h2

theorem keeps_State_frameBoundary {M : Nat} (hM : Nat.land 9289779090126851 M = 9289779090126851) {s0 : State} {s : State} (h : Keeps M s0 s) : Keeps M s0 (State.frameBoundary s) := by
  unfold State.frameBoundary
  refine ite_of (P := Keeps M s0) ?_ ?_
  ·
    exact h
  ·
    extract_lets -merge -useContext -underBinder v0
    have h1 : Keeps M s0 v0 := by
      unfold v0
      refine ite_of (P := Keeps M s0) ?_ ?_
      ·
        refine (keeps_State_advanceTo (sub_trans rfl hM)) ?_
        exact h
      ·
        exact h
    try clear_value v0
    split
    ·
      extract_lets -merge -useContext -underBinder v2 v3 v4 v5 v6 v7 v8 v9 v10 v11 v12 v13
      try clear_value v2
      have h14 : Keeps M s0 v3 := by
        unfold v3
        refine (keeps_State_advanceTo (sub_trans rfl hM)) ?_
        exact h1
      try clear_value v3
      try clear_value v4
      have h15 : Keeps M s0 v5 := by
        unfold v5
        refine Keeps.up_time (sub_trans rfl hM) ?_
        exact h14
      try clear_value v5
      have h16 : Keeps M s0 v6 := by
        unfold v6
        refine (keeps_State_slip (sub_trans rfl hM)) ?_
        refine (keeps_State_wrI (sub_trans rfl hM)) ?_
        refine (keeps_State_wr64N (sub_trans rfl hM)) ?_
        exact h15
      try clear_value v6
      have h17 : Keeps M s0 v7 := by
        unfold v7
        refine ite_of (P := Keeps M s0) ?_ ?_
        ·
          refine (keeps_State_clrf (sub_trans rfl hM)) ?_
          exact h16
        ·
          exact h16
      try clear_value v7
      have h18 : Keeps M s0 v8 := by
        unfold v8
        refine ite_of (P := Keeps M s0) ?_ ?_
        ·
          refine (keeps_State_gridsRestart (sub_trans rfl hM)) ?_
          exact h17
        ·
          exact h17
      try clear_value v8
      have h19 : Keeps M s0 v9 := by
        unfold v9
        refine (keeps_State_graceEnd (sub_trans rfl hM)) ?_
        refine (keeps_State_epochChange (sub_trans rfl hM)) ?_
        refine (keeps_State_rmBoundary (sub_trans rfl hM)) ?_
        refine Keeps.forEach ?_ ?_
        ·
          exact h18
        · intro t20 x21 h22
          beta_reduce
          refine (keeps_State_portSync (sub_trans rfl hM)) ?_
          exact h22
      try clear_value v9
      have h23 : Keeps M s0 v10 := by
        unfold v10
        refine Keeps.forEach ?_ ?_
        ·
          exact h19
        · intro t24 x25 h26
          beta_reduce
          refine (keeps_State_loopApplyAt (sub_trans rfl hM)) ?_
          exact h26
      try clear_value v10
      have h27 : Keeps M s0 v11 := by
        unfold v11
        refine Keeps.forEach ?_ ?_
        ·
          exact h23
        · intro t28 x29 h30
          beta_reduce
          refine (keeps_State_shaftFrame (sub_trans rfl hM)) ?_
          exact h30
      try clear_value v11
      have h31 : Keeps M s0 v12 := by
        unfold v12
        refine (keeps_State_capTick (sub_trans rfl hM)) ?_
        exact h27
      try clear_value v12
      have h32 : Keeps M s0 v13 := by
        unfold v13
        refine ite_of (P := Keeps M s0) ?_ ?_
        ·
          refine Keeps.forEach ?_ ?_
          ·
            exact h31
          · intro t33 x34 h35
            beta_reduce
            refine (keeps_State_enqueue (sub_trans rfl hM)) ?_
            exact h35
        ·
          exact h31
      try clear_value v13
      refine (keeps_State_duskCheck (sub_trans rfl hM)) ?_
      refine (keeps_State_planTick (sub_trans rfl hM)) ?_
      exact h32

theorem keeps_State_syncRun {M : Nat} (hM : Nat.land 9289976658622467 M = 9289976658622467) {s0 : State} {s : State} {p1 : Nat} (h : Keeps M s0 s) : Keeps M s0 (State.syncRun s p1) := by
  unfold State.syncRun
  extract_lets -merge -useContext -underBinder v0 v1
  try clear_value v0
  have h2 : Keeps M s0 v1 := by
    unfold v1
    refine ite_of (P := Keeps M s0) ?_ ?_
    ·
      refine (keeps_State_frameBoundary (sub_trans rfl hM)) ?_
      exact h
    ·
      exact h
  try clear_value v1
  refine ite_of (P := Keeps M s0) ?_ ?_
  ·
    refine (keeps_State_frameBoundary (sub_trans rfl hM)) ?_
    exact h
  ·
    refine (keeps_State_axisBoundary (sub_trans rfl hM)) ?_
    exact h2

theorem keeps_State_dispatchLaw {M : Nat} (hM : Nat.land 35184372088832 M = 35184372088832) {s0 : State} {s : State} {p1 : Nat} {p2 : RunReq} (h : Keeps M s0 s) : Keeps M s0 (State.dispatchLaw s p1 p2) := by
  unfold State.dispatchLaw
  extract_lets -merge -useContext -underBinder v0 v1 v2
  try clear_value v0
  try clear_value v1
  try clear_value v2
  refine (keeps_State_modLp (sub_trans rfl hM)) ?_
  exact h

theorem keeps_State_withInputs {M : Nat} (hM : Nat.land 536870912 M = 536870912) {s0 : State} {s : State} {p1 : RunReq} {p2 : State → State} (h : Keeps M s0 s) (hf0 : ∀ x0, Keeps M s0 x0 → Keeps M s0 (p2 x0)) : Keeps M s0 (State.withInputs s p1 p2) := by
  unfold State.withInputs
  split
  ·
    extract_lets -merge -useContext -underBinder v0
    try clear_value v0
    refine (keeps_State_modLoop (sub_trans rfl hM)) ?_
    refine hf0 _ ?_
    refine (keeps_State_modLoop (sub_trans rfl hM)) ?_
    exact h
  ·
    extract_lets -merge -useContext -underBinder v1
    try clear_value v1
    refine (keeps_State_modLoop (sub_trans rfl hM)) ?_
    refine hf0 _ ?_
    refine (keeps_State_modLoop (sub_trans rfl hM)) ?_
    exact h
  ·
    extract_lets -merge -useContext -underBinder v2
    try clear_value v2
    refine (keeps_State_modLoop (sub_trans rfl hM)) ?_
    refine hf0 _ ?_
    refine (keeps_State_modLoop (sub_trans rfl hM)) ?_
    exact h
  ·
    refine hf0 _ ?_
    exact h

theorem keeps_State_runLaw {M : Nat} (hM : Nat.land 36288953595921 M = 36288953595921) {s0 : State} {s : State} {p1 : RunKind} {p2 : Nat} {p3 : State → State} (h : Keeps M s0 s) (hf0 : ∀ x0, Keeps M s0 x0 → Keeps M s0 (p3 x0)) : Keeps M s0 (State.runLaw s p1 p2 p3) := by
  unfold State.runLaw
  extract_lets -merge -useContext -underBinder v0
  try clear_value v0
  split
  ·
    exact h
  ·
    refine ite_of (P := Keeps M s0) ?_ ?_
    ·
      exact h
    ·
      extract_lets -merge -useContext -underBinder v1 v2 v3 v4 v5 v6 v7 v8
      try clear_value v1
      have h9 : Keeps M s0 v2 := by
        unfold v2
        refine ite_of (P := Keeps M s0) ?_ ?_
        ·
          refine (keeps_State_lpSwapDue (sub_trans rfl hM)) ?_
          exact h
        ·
          exact h
      try clear_value v2
      try clear_value v3
      have h10 : Keeps M s0 v4 := by
        unfold v4
        refine (keeps_State_modQueue (sub_trans rfl hM)) ?_
        exact h9
      try clear_value v4
      try clear_value v5
      try clear_value v6
      have h11 : Keeps M s0 v7 := by
        unfold v7
        refine Keeps.up_time (sub_trans rfl hM) ?_
        exact h10
      try clear_value v7
      have h12 : Keeps M s0 v8 := by
        unfold v8
        refine (keeps_State_withInputs (sub_trans rfl hM)) ?_ ?_
        ·
          exact h11
        · intro x13 h14
          try beta_reduce
          refine hf0 _ ?_
          exact h14
      try clear_value v8
      refine ite_of (P := Keeps M s0) ?_ ?_
      ·
        refine (keeps_State_dispatchLaw (sub_trans rfl hM)) ?_
        refine (keeps_State_advanceTo (sub_trans rfl hM)) ?_
        exact h10
      ·
        refine (keeps_State_duskCheck (sub_trans rfl hM)) ?_
        refine (keeps_State_runEnd (sub_trans rfl hM)) ?_
        refine (keeps_State_modLp (sub_trans rfl hM)) ?_
        refine Keeps.up_time (sub_trans rfl hM) ?_
        exact h12

theorem keeps_State_withOuts {M : Nat} (hM : Nat.land 536870912 M = 536870912) {s0 : State} {s : State} {p1 : Nat} {p2 : State → State} (h : Keeps M s0 s) (hf0 : ∀ x0, Keeps M s0 x0 → Keeps M s0 (p2 x0)) : Keeps M s0 (State.withOuts s p1 p2) := by
  unfold State.withOuts
  refine (keeps_State_modLoop (sub_trans rfl hM)) ?_
  refine hf0 _ ?_
  refine (keeps_State_modLoop (sub_trans rfl hM)) ?_
  exact h

theorem keeps_State_networkRun {M : Nat} (hM : Nat.land 36290304686105 M = 36290304686105) {s0 : State} {s : State} {p1 : Nat} (h : Keeps M s0 s) : Keeps M s0 (State.networkRun s p1) := by
  unfold State.networkRun
  extract_lets -merge -useContext -underBinder v0
  try clear_value v0
  refine (keeps_State_runLaw (sub_trans rfl hM)) ?_ ?_
  ·
    exact h
  · intro x1 h2
    try beta_reduce
    extract_lets -merge -useContext -underBinder v3 v4
    try clear_value v3
    have h5 : Keeps M s0 v4 := by
      unfold v4
      refine (keeps_State_modNet (sub_trans rfl hM)) ?_
      refine (keeps_State_capturePos (sub_trans rfl hM)) ?_
      refine (keeps_State_captureVel (sub_trans rfl hM)) ?_
      exact h2
    try clear_value v4
    refine (keeps_State_withOuts (sub_trans rfl hM)) ?_ ?_
    ·
      refine (keeps_State_regMissOf (sub_trans rfl hM)) ?_
      exact h5
    · intro x6 h7
      try beta_reduce
      refine (keeps_State_netRun (sub_trans rfl hM)) ?_
      exact h7

theorem keeps_State_velocityRun {M : Nat} (hM : Nat.land 36290027337745 M = 36290027337745) {s0 : State} {s : State} {p1 : Nat} (h : Keeps M s0 s) : Keeps M s0 (State.velocityRun s p1) := by
  unfold State.velocityRun
  refine (keeps_State_runLaw (sub_trans rfl hM)) ?_ ?_
  ·
    exact h
  · intro x0 h1
    try beta_reduce
    refine (keeps_State_withOuts (sub_trans rfl hM)) ?_ ?_
    ·
      exact h1
    · intro x2 h3
      try beta_reduce
      refine (keeps_State_velRun (sub_trans rfl hM)) ?_
      exact h3

theorem keeps_State_virtualRun {M : Nat} (hM : Nat.land 36290036250641 M = 36290036250641) {s0 : State} {s : State} {p1 : Nat} (h : Keeps M s0 s) : Keeps M s0 (State.virtualRun s p1) := by
  unfold State.virtualRun
  refine (keeps_State_runLaw (sub_trans rfl hM)) ?_ ?_
  ·
    exact h
  · intro x0 h1
    try beta_reduce
    refine (keeps_State_withOuts (sub_trans rfl hM)) ?_ ?_
    ·
      refine (keeps_State_regMissOf (sub_trans rfl hM)) ?_
      exact h1
    · intro x2 h3
      try beta_reduce
      refine (keeps_State_virtRun (sub_trans rfl hM)) ?_
      exact h3

theorem keeps_State_injDoneRow {M : Nat} (hM : Nat.land 36290304686105 M = 36290304686105) {s0 : State} {s : State} {p1 : Nat} (h : Keeps M s0 s) : Keeps M s0 (State.injDoneRow s p1) := by
  unfold State.injDoneRow
  extract_lets -merge -useContext -underBinder v0 v1
  try clear_value v0
  try clear_value v1
  refine ite_of (P := Keeps M s0) ?_ ?_
  ·
    exact h
  ·
    refine ite_of (P := Keeps M s0) ?_ ?_
    ·
      refine (keeps_State_velocityRun (sub_trans rfl hM)) ?_
      exact h
    ·
      refine ite_of (P := Keeps M s0) ?_ ?_
      ·
        refine (keeps_State_networkRun (sub_trans rfl hM)) ?_
        exact h
      ·
        refine (keeps_State_virtualRun (sub_trans rfl hM)) ?_
        exact h

theorem keeps_State_overheadRun {M : Nat} (hM : Nat.land 36288953595921 M = 36288953595921) {s0 : State} {s : State} {p1 : Nat} (h : Keeps M s0 s) : Keeps M s0 (State.overheadRun s p1) := by
  unfold State.overheadRun
  refine (keeps_State_runLaw (sub_trans rfl hM)) ?_ ?_
  ·
    exact h
  · intro x0 h1
    try beta_reduce
    exact h1

theorem keeps_State_presetRow {M : Nat} (hM : Nat.land 9289976658622467 M = 9289976658622467) {s0 : State} {s : State} {p1 : Nat} (h : Keeps M s0 s) : Keeps M s0 (State.presetRow s p1) := by
  unfold State.presetRow
  refine ite_of (P := Keeps M s0) ?_ ?_
  ·
    refine (keeps_State_syncRun (sub_trans rfl hM)) ?_
    exact h
  ·
    exact h

theorem keeps_State_tokSwap {M : Nat} (hM : Nat.land 1 M = 1) {s0 : State} {s : State} {p1 : Nat} {p2 : Bool} (h : Keeps M s0 s) : Keeps M s0 (State.tokSwap s p1 p2) := by
  unfold State.tokSwap
  refine Keeps.forEach ?_ ?_
  ·
    exact h
  · intro t0 x1 h2
    beta_reduce
    refine (keeps_State_putB (sub_trans rfl hM)) ?_
    exact h2

theorem keeps_State_tokenDrop {M : Nat} (hM : Nat.land 146263769089 M = 146263769089) {s0 : State} {s : State} {p1 : Nat} {p2 : Nat} (h : Keeps M s0 s) : Keeps M s0 (State.tokenDrop s p1 p2) := by
  unfold State.tokenDrop
  extract_lets -merge -useContext -underBinder v0
  have h1 : Keeps M s0 v0 := by
    unfold v0
    refine Keeps.forEach ?_ ?_
    ·
      refine (keeps_State_tokSwap (sub_trans rfl hM)) ?_
      refine (keeps_State_put (sub_trans rfl hM)) ?_
      exact h
    · intro t2 x3 h4
      beta_reduce
      refine (keeps_State_modPwm (sub_trans rfl hM)) ?_
      exact h4
  try clear_value v0
  refine (keeps_State_resolve (sub_trans rfl hM)) ?_
  refine Keeps.forEach ?_ ?_
  ·
    exact h1
  · intro t5 x6 h7
    beta_reduce
    refine (keeps_State_modCle (sub_trans rfl hM)) ?_
    exact h7

theorem keeps_State_tokenCancel {M : Nat} (hM : Nat.land 146263769089 M = 146263769089) {s0 : State} {s : State} {p1 : Nat} (h : Keeps M s0 s) : Keeps M s0 (State.tokenCancel s p1) := by
  unfold State.tokenCancel
  refine ite_of (P := Keeps M s0) ?_ ?_
  ·
    refine (keeps_State_tokenDrop (sub_trans rfl hM)) ?_
    exact h
  ·
    exact h

theorem keeps_State_tokenExecute {M : Nat} (hM : Nat.land 35330635857937 M = 35330635857937) {s0 : State} {s : State} {p1 : Nat} (h : Keeps M s0 s) : Keeps M s0 (State.tokenExecute s p1) := by
  unfold State.tokenExecute
  refine ite_of (P := Keeps M s0) ?_ ?_
  ·
    exact h
  ·
    refine ite_of (P := Keeps M s0) ?_ ?_
    ·
      refine (keeps_State_tokenDrop (sub_trans rfl hM)) ?_
      exact h
    ·
      extract_lets -merge -useContext -underBinder v0 v1 v2 v3
      try clear_value v0
      have h4 : Keeps M s0 v1 := by
        unfold v1
        refine Keeps.forEach ?_ ?_
        ·
          exact h
        · intro t5 x6 h7
          beta_reduce
          extract_lets -merge -useContext -underBinder v8 v9
          try clear_value v8
          try clear_value v9
          refine (keeps_State_modPwm (sub_trans rfl hM)) ?_
          exact h7
      try clear_value v1
      have h10 : Keeps M s0 v2 := by
        unfold v2
        refine Keeps.forEach ?_ ?_
        ·
          exact h4
        · intro t11 x12 h13
          beta_reduce
          refine (keeps_State_modCle (sub_trans rfl hM)) ?_
          refine (keeps_State_swapRequest (sub_trans rfl hM)) ?_
          exact h13
      try clear_value v2
      have h14 : Keeps M s0 v3 := by
        unfold v3
        refine Keeps.forEach ?_ ?_
        ·
          exact h10
        · intro t15 x16 h17
          beta_reduce
          refine (keeps_State_lpSwap (sub_trans rfl hM)) ?_
          exact h17
      try clear_value v3
      refine (keeps_State_resolve (sub_trans rfl hM)) ?_
      refine (keeps_State_wrN (sub_trans rfl hM)) ?_
      refine (keeps_State_put (sub_trans rfl hM)) ?_
      exact h14

theorem keeps_State_lpEndRow {M : Nat} (hM : Nat.land 45089341585425 M = 45089341585425) {s0 : State} {s : State} {p1 : Nat} (h : Keeps M s0 s) : Keeps M s0 (State.lpEndRow s p1) := by
  unfold State.lpEndRow
  extract_lets -merge -useContext -underBinder v0
  have h1 : Keeps M s0 v0 := by
    unfold v0
    refine (keeps_State_lpEnd (sub_trans rfl hM)) ?_
    exact h
  try clear_value v0
  split
  ·
    refine ite_of (P := Keeps M s0) ?_ ?_
    ·
      refine (keeps_State_runEnd (sub_trans rfl hM)) ?_
      exact h1
    ·
      exact h1
  ·
    exact h1

theorem keeps_State_settingsRow {M : Nat} (hM : Nat.land 9289976658622467 M = 9289976658622467) {s0 : State} {s : State} {p1 : Nat} (h : Keeps M s0 s) : Keeps M s0 (State.settingsRow s p1) := by
  unfold State.settingsRow
  refine ite_of (P := Keeps M s0) ?_ ?_
  ·
    refine (keeps_State_syncRun (sub_trans rfl hM)) ?_
    exact h
  ·
    exact h

theorem keeps_State_levelRow {M : Nat} (hM : Nat.land 9289976658753539 M = 9289976658753539) {s0 : State} {s : State} {p1 : Nat} {p2 : Nat} (h : Keeps M s0 s) : Keeps M s0 (State.levelRow s p1 p2) := by
  unfold State.levelRow
  extract_lets -merge -useContext -underBinder v0 v1
  try clear_value v0
  have h2 : ∀ x3 x5, Keeps M s0 x3 → Keeps M s0 (v1 x3 x5) := by
    intro x3 x5 h4
    unfold v1
    beta_reduce
    refine ite_of (P := Keeps M s0) ?_ ?_
    ·
      refine (keeps_State_levelAccepted (sub_trans rfl hM)) ?_
      exact h4
    ·
      exact h4
  try clear_value v1
  refine ite_of (P := Keeps M s0) ?_ ?_
  ·
    refine (keeps_State_levelAccepted (sub_trans rfl hM)) ?_
    refine (keeps_State_syncRun (sub_trans rfl hM)) ?_
    refine h2 _ _ ?_
    refine h2 _ _ ?_
    exact h
  ·
    refine (keeps_State_levelAccepted (sub_trans rfl hM)) ?_
    exact h

theorem keeps_State_tokensCancel {M : Nat} (hM : Nat.land 146263769089 M = 146263769089) {s0 : State} {s : State} (h : Keeps M s0 s) : Keeps M s0 (State.tokensCancel s) := by
  unfold State.tokensCancel
  refine Keeps.forEach ?_ ?_
  ·
    exact h
  · intro t0 x1 h2
    beta_reduce
    refine (keeps_State_tokenDrop (sub_trans rfl hM)) ?_
    exact h2

theorem keeps_State_velocityBoundary {M : Nat} (hM : Nat.land 9008501673523203 M = 9008501673523203) {s0 : State} {s : State} {p1 : Nat} (h : Keeps M s0 s) : Keeps M s0 (State.velocityBoundary s p1) := by
  unfold State.velocityBoundary
  refine (keeps_State_joinVel (sub_trans rfl hM)) ?_
  refine ite_of (P := Keeps M s0) ?_ ?_
  ·
    exact h
  ·
    refine (keeps_State_axisBoundary (sub_trans rfl hM)) ?_
    exact h

theorem keeps_State_tbEffect {M : Nat} (hM : Nat.land 16384 M = 16384) {s0 : State} {s : State} {p1 : Nat} (h : Keeps M s0 s) : Keeps M s0 (State.tbEffect s p1) := by
  unfold State.tbEffect
  refine ite_of (P := Keeps M s0) ?_ ?_
  ·
    refine (keeps_State_gridAdopt (sub_trans rfl hM)) ?_
    exact h
  ·
    exact h

theorem keeps_State_groupBoundary {M : Nat} (hM : Nat.land 9008501673523203 M = 9008501673523203) {s0 : State} {s : State} {p1 : Nat} (h : Keeps M s0 s) : Keeps M s0 (State.groupBoundary s p1) := by
  unfold State.groupBoundary
  refine ite_of (P := Keeps M s0) ?_ ?_
  ·
    refine (keeps_State_axisBoundary (sub_trans rfl hM)) ?_
    exact h
  ·
    refine ite_of (P := Keeps M s0) ?_ ?_
    ·
      refine (keeps_State_auxStart (sub_trans rfl hM)) ?_
      exact h
    ·
      refine (keeps_State_axisBoundary (sub_trans rfl hM)) ?_
      exact h

theorem keeps_State_loopApplyRow {M : Nat} (hM : Nat.land 9289976658622467 M = 9289976658622467) {s0 : State} {s : State} {p1 : Nat} (h : Keeps M s0 s) : Keeps M s0 (State.loopApplyRow s p1) := by
  unfold State.loopApplyRow
  extract_lets -merge -useContext -underBinder v0
  have h1 : ∀ x2, Keeps M s0 x2 → Keeps M s0 (v0 x2) := by
    intro x2 h3
    unfold v0
    beta_reduce
    refine ite_of (P := Keeps M s0) ?_ ?_
    ·
      exact h3
    ·
      refine ite_of (P := Keeps M s0) ?_ ?_
      ·
        refine (keeps_State_frameBoundary (sub_trans rfl hM)) ?_
        exact h3
      ·
        extract_lets -merge -useContext -underBinder v4
        have h5 : Keeps M s0 v4 := by
          unfold v4
          refine ite_of (P := Keeps M s0) ?_ ?_
          ·
            refine (keeps_State_frameBoundary (sub_trans rfl hM)) ?_
            exact h3
          ·
            exact h3
        try clear_value v4
        refine (keeps_State_axisBoundary (sub_trans rfl hM)) ?_
        exact h5
  try clear_value v0
  refine h1 _ ?_
  refine h1 _ ?_
  exact h

theorem keeps_State_commitEffect {M : Nat} (hM : Nat.land 9008501673523203 M = 9008501673523203) {s0 : State} {s : State} {p1 : Nat} (h : Keeps M s0 s) : Keeps M s0 (State.commitEffect s p1) := by
  unfold State.commitEffect
  refine ite_of (P := Keeps M s0) ?_ ?_
  ·
    exact h
  ·
    refine (keeps_State_groupBoundary (sub_trans rfl hM)) ?_
    exact h

theorem keeps_State_atcEffect {M : Nat} (hM : Nat.land 9008501673523203 M = 9008501673523203) {s0 : State} {s : State} {p1 : Nat} (h : Keeps M s0 s) : Keeps M s0 (State.atcEffect s p1) := by
  unfold State.atcEffect
  refine ite_of (P := Keeps M s0) ?_ ?_
  ·
    exact h
  ·
    refine (keeps_State_groupBoundary (sub_trans rfl hM)) ?_
    exact h

theorem keeps_State_positionRun {M : Nat} (hM : Nat.land 36288962508825 M = 36288962508825) {s0 : State} {s : State} {p1 : Nat} (h : Keeps M s0 s) : Keeps M s0 (State.positionRun s p1) := by
  unfold State.positionRun
  refine (keeps_State_runLaw (sub_trans rfl hM)) ?_ ?_
  ·
    exact h
  · intro x0 h1
    try beta_reduce
    refine (keeps_State_withOuts (sub_trans rfl hM)) ?_ ?_
    ·
      refine (keeps_State_regMissOf (sub_trans rfl hM)) ?_
      exact h1
    · intro x2 h3
      try beta_reduce
      refine (keeps_State_posRun (sub_trans rfl hM)) ?_
      exact h3

theorem keeps_State_lateClr {M : Nat} (hM : Nat.land 1 M = 1) {s0 : State} {s : State} {p1 : Nat} (h : Keeps M s0 s) : Keeps M s0 (State.lateClr s p1) := by
  unfold State.lateClr
  refine (keeps_State_put (sub_trans rfl hM)) ?_
  refine (keeps_State_put (sub_trans rfl hM)) ?_
  refine (keeps_State_put (sub_trans rfl hM)) ?_
  exact h

theorem keeps_State_positionBoundary {M : Nat} (hM : Nat.land 9008501673523203 M = 9008501673523203) {s0 : State} {s : State} {p1 : Nat} (h : Keeps M s0 s) : Keeps M s0 (State.positionBoundary s p1) := by
  unfold State.positionBoundary
  refine (keeps_State_joinPos (sub_trans rfl hM)) ?_
  refine ite_of (P := Keeps M s0) ?_ ?_
  ·
    exact h
  ·
    refine (keeps_State_axisBoundary (sub_trans rfl hM)) ?_
    exact h

theorem keeps_State_tokenArm {M : Nat} (hM : Nat.land 8193 M = 8193) {s0 : State} {s : State} {p1 : Nat} (h : Keeps M s0 s) : Keeps M s0 (State.tokenArm s p1) := by
  unfold State.tokenArm
  refine ite_of (P := Keeps M s0) ?_ ?_
  ·
    exact h
  ·
    split
    ·
      extract_lets -merge -useContext -underBinder v0 v1 v2 v3 v4
      try clear_value v0
      try clear_value v1
      try clear_value v2
      have h5 : Keeps M s0 v3 := by
        unfold v3
        refine (keeps_State_put (sub_trans rfl hM)) ?_
        exact h
      try clear_value v3
      try clear_value v4
      refine ite_of (P := Keeps M s0) ?_ ?_
      ·
        refine (keeps_State_tokSwap (sub_trans rfl hM)) ?_
        refine Keeps.up_time (sub_trans rfl hM) ?_
        exact h5
      ·
        exact h5

theorem keeps_State_tokenHold {M : Nat} (hM : Nat.land 8589934592 M = 8589934592) {s0 : State} {s : State} {p1 : Nat} (h : Keeps M s0 s) : Keeps M s0 (State.tokenHold s p1) := by
  unfold State.tokenHold
  split
  ·
    exact h
  ·
    refine ite_of (P := Keeps M s0) ?_ ?_
    ·
      refine (keeps_State_modPwm (sub_trans rfl hM)) ?_
      exact h
    ·
      exact h

theorem keeps_State_currentBoundary {M : Nat} (hM : Nat.land 9008501673523203 M = 9008501673523203) {s0 : State} {s : State} {p1 : Nat} (h : Keeps M s0 s) : Keeps M s0 (State.currentBoundary s p1) := by
  unfold State.currentBoundary
  refine (keeps_State_modGrid (sub_trans rfl hM)) ?_
  refine ite_of (P := Keeps M s0) ?_ ?_
  ·
    exact h
  ·
    refine (keeps_State_axisBoundary (sub_trans rfl hM)) ?_
    exact h

end Sys2Proof.Machine
end

