-- ==== Sys2Proof/Laws/KeepStartup.lean ====
section
/-! SUPPORT. The operations of Machine/Startup.lean keep what `Keeps` says. -/

namespace Sys2Proof.Machine

theorem keeps_State_modPw {M : Nat} (hM : Nat.land 72057594037927936 M = 72057594037927936) {s0 : State} {s : State} {p1 : PowerSt → PowerSt} (h : Keeps M s0 s) : Keeps M s0 (State.modPw s p1) := by
  unfold State.modPw
  refine Keeps.up_pw (sub_trans rfl hM) ?_
  exact h

theorem keeps_State_beginRestart {M : Nat} (hM : Nat.land 72629889840187392 M = 72629889840187392) {s0 : State} {s : State} {p1 : Bool} {p2 : Option Nat} (h : Keeps M s0 s) : Keeps M s0 (State.beginRestart s p1 p2) := by
  unfold State.beginRestart
  refine Keeps.up_groom (sub_trans rfl hM) ?_
  refine (keeps_State_modTw (sub_trans rfl hM)) ?_
  refine (keeps_State_lockForce (sub_trans rfl hM)) ?_
  refine (keeps_State_modPw (sub_trans rfl hM)) ?_
  exact h

theorem keeps_State_resetRelease {M : Nat} (hM : Nat.land 73183519714580481 M = 73183519714580481) {s0 : State} {s : State} (h : Keeps M s0 s) : Keeps M s0 (State.resetRelease s) := by
  unfold State.resetRelease
  refine ite_of (P := Keeps M s0) ?_ ?_
  ·
    exact h
  ·
    extract_lets -merge -useContext -underBinder v0 v1
    have h2 : Keeps M s0 v0 := by
      unfold v0
      refine (keeps_State_wr (sub_trans rfl hM)) ?_
      refine (keeps_State_wrN (sub_trans rfl hM)) ?_
      refine (keeps_State_modPw (sub_trans rfl hM)) ?_
      exact h
    try clear_value v0
    have h3 : Keeps M s0 v1 := by
      unfold v1
      refine ite_of (P := Keeps M s0) ?_ ?_
      ·
        refine (keeps_State_event (sub_trans rfl hM)) ?_
        refine (keeps_State_modSec (sub_trans rfl hM)) ?_
        refine (keeps_State_setf (sub_trans rfl hM)) ?_
        refine (keeps_State_eraseKeys (sub_trans rfl hM)) ?_
        exact h2
      ·
        exact h2
    try clear_value v1
    refine Keeps.forEach ?_ ?_
    ·
      refine (keeps_State_newNonce (sub_trans rfl hM)) ?_
      exact h3
    · intro t4 x5 h6
      beta_reduce
      refine (keeps_State_tripWatch (sub_trans rfl hM)) ?_
      exact h6

theorem keeps_State_keepRegs {M : Nat} (hM : Nat.land 1 M = 1) {s0 : State} {s old : State} {as : List Nat} (h : Keeps M s0 s) : Keeps M s0 (s.keepRegs old as) :=
  foldl_of (P := Keeps M s0) h fun _ _ ht => (keeps_State_wr (sub_trans rfl hM)) ht -- mod Startup

theorem keeps_State_moduleReset {M : Nat} (hM : Nat.land 144115188075855871 M = 144115188075855871) {s0 : State} {s : State} {c : Nat} (h : Keeps M s0 s) : Keeps M s0 (s.moduleReset c) := by
  unfold State.moduleReset
  extract_lets -merge -useContext -underBinder sec b s1
  have hb : Keeps M s0 b := by
    refine h.trans ⟨rfl, rfl, Nat.le_refl _, fun hc => ?_, full_frame hM⟩
    have hm := Memory.wf_parts.1 (canonical_parts.1 hc).2
    exact canonical_parts.2 ⟨⟨rfl, rfl⟩, Memory.wf_parts.2 ⟨⟨⟨⟨⟨⟨⟨⟨rfl, rfl⟩, rfl⟩, rfl⟩, rfl⟩, rfl⟩, hm.1.1.2⟩, hm.1.2⟩, hm.2⟩⟩
  clear_value b
  exact (keeps_State_alarmBit (sub_trans rfl hM)) ((keeps_State_putB (sub_trans rfl hM)) ((keeps_State_put (sub_trans rfl hM)) ((keeps_State_keepRegs (sub_trans rfl hM)) hb)))

theorem keeps_State_clockReset {M : Nat} (hM : Nat.land 144115188075855871 M = 144115188075855871) {s0 : State} {s : State} (h : Keeps M s0 s) : Keeps M s0 (State.clockReset s) := by
  unfold State.clockReset
  refine ite_of (P := Keeps M s0) ?_ ?_
  ·
    refine (keeps_State_moduleReset (sub_trans rfl hM)) ?_
    exact h
  ·
    exact h

theorem keeps_State_noonAxis {M : Nat} (hM : Nat.land 537919489 M = 537919489) {s0 : State} {s : State} {p1 : Nat} (h : Keeps M s0 s) : Keeps M s0 (State.noonAxis s p1) := by
  unfold State.noonAxis
  extract_lets -merge -useContext -underBinder v0 v1 v2
  try clear_value v0
  try clear_value v1
  have h3 : Keeps M s0 v2 := by
    unfold v2
    refine (keeps_State_modMo (sub_trans rfl hM)) ?_
    refine (keeps_State_modLoop (sub_trans rfl hM)) ?_
    exact h
  try clear_value v2
  refine ite_of (P := Keeps M s0) ?_ ?_
  ·
    refine (keeps_State_devRefs (sub_trans rfl hM)) ?_
    refine (keeps_State_putB (sub_trans rfl hM)) ?_
    exact h3
  ·
    exact h3

theorem keeps_State_stopLoops {M : Nat} (hM : Nat.land 13659799553 M = 13659799553) {s0 : State} {s : State} (h : Keeps M s0 s) : Keeps M s0 (State.stopLoops s) := by
  unfold State.stopLoops
  extract_lets -merge -useContext -underBinder v0 v1
  have h2 : Keeps M s0 v0 := by
    unfold v0
    refine Keeps.forEach ?_ ?_
    ·
      exact h
    · intro t3 x4 h5
      beta_reduce
      refine (keeps_State_cleLeave (sub_trans rfl hM)) ?_
      exact h5
  try clear_value v0
  have h6 : Keeps M s0 v1 := by
    unfold v1
    refine Keeps.forEach ?_ ?_
    ·
      exact h2
    · intro t7 x8 h9
      beta_reduce
      refine (keeps_State_modLoop (sub_trans rfl hM)) ?_
      refine (keeps_State_stopMotion (sub_trans rfl hM)) ?_
      refine (keeps_State_injAbort (sub_trans rfl hM)) ?_
      exact h9
  try clear_value v1
  refine Keeps.up_runQ (sub_trans rfl hM) ?_
  exact h6

theorem keeps_State_enter {M : Nat} (hM : Nat.land 72233666997393409 M = 72233666997393409) {s0 : State} {s : State} {p1 : Nat} {p2 : Nat} (h : Keeps M s0 s) : Keeps M s0 (State.enter s p1 p2) := by
  unfold State.enter
  extract_lets -merge -useContext -underBinder v0 v1 v2 v3 v4
  try clear_value v0
  have h5 : Keeps M s0 v1 := by
    unfold v1
    refine (keeps_State_clrf (sub_trans rfl hM)) ?_
    refine (keeps_State_put (sub_trans rfl hM)) ?_
    refine (keeps_State_put (sub_trans rfl hM)) ?_
    exact h
  try clear_value v1
  have h6 : Keeps M s0 v2 := by
    unfold v2
    refine ite_of (P := Keeps M s0) ?_ ?_
    ·
      refine (keeps_State_stopLoops (sub_trans rfl hM)) ?_
      exact h5
    ·
      exact h5
  try clear_value v2
  have h7 : Keeps M s0 v3 := by
    unfold v3
    split
    ·
      extract_lets -merge -useContext -underBinder v8
      have h9 : Keeps M s0 v8 := by
        unfold v8
        refine Keeps.forEach ?_ ?_
        ·
          exact h6
        · intro t10 x11 h12
          beta_reduce
          refine (keeps_State_modLp (sub_trans rfl hM)) ?_
          exact h12
      try clear_value v8
      refine ite_of (P := Keeps M s0) ?_ ?_
      ·
        refine Keeps.forEach ?_ ?_
        ·
          exact h9
        · intro t13 x14 h15
          beta_reduce
          refine ite_of (P := Keeps M s0) ?_ ?_
          ·
            refine (keeps_State_lpRegs (sub_trans rfl hM)) ?_
            refine (keeps_State_put (sub_trans rfl hM)) ?_
            exact h15
          ·
            exact h15
      ·
        exact h9
    ·
      refine Keeps.forEach ?_ ?_
      ·
        exact h6
      · intro t16 x17 h18
        beta_reduce
        refine (keeps_State_noonAxis (sub_trans rfl hM)) ?_
        exact h18
    ·
      refine Keeps.forEach ?_ ?_
      ·
        refine (keeps_State_tokensCancel (sub_trans rfl hM)) ?_
        refine (keeps_State_modPw (sub_trans rfl hM)) ?_
        exact h6
      · intro t19 x20 h21
        beta_reduce
        extract_lets -merge -useContext -underBinder v22 v23
        try clear_value v22
        have h24 : Keeps M s0 v23 := by
          unfold v23
          refine (keeps_State_injAbort (sub_trans rfl hM)) ?_
          exact h21
        try clear_value v23
        refine ite_of (P := Keeps M s0) ?_ ?_
        ·
          refine (keeps_State_modMo (sub_trans rfl hM)) ?_
          exact h24
        ·
          exact h24
    ·
      refine (keeps_State_coAllIdle (sub_trans rfl hM)) ?_
      refine (keeps_State_safeNight (sub_trans rfl hM)) ?_
      refine (keeps_State_tokensCancel (sub_trans rfl hM)) ?_
      exact h6
    ·
      exact h6
  try clear_value v3
  have h25 : Keeps M s0 v4 := by
    unfold v4
    refine Keeps.forEach ?_ ?_
    ·
      exact h7
    · intro t26 x27 h28
      beta_reduce
      refine (keeps_State_pwmDrive (sub_trans rfl hM)) ?_
      exact h28
  try clear_value v4
  refine (keeps_State_duskCheck (sub_trans rfl hM)) ?_
  refine (keeps_State_group (sub_trans rfl hM)) ?_
  refine (keeps_State_event (sub_trans rfl hM)) ?_
  exact h25

theorem keeps_State_wantDone {M : Nat} (hM : Nat.land 72057594272808960 M = 72057594272808960) {s0 : State} {s : State} {p1 : Status} {p2 : Nat} (h : Keeps M s0 s) : Keeps M s0 (State.wantDone s p1 p2) := by
  unfold State.wantDone
  split
  ·
    refine (keeps_State_finish (sub_trans rfl hM)) ?_
    refine (keeps_State_modPw (sub_trans rfl hM)) ?_
    exact h
  ·
    exact h

theorem keeps_State_stateChange {M : Nat} (hM : Nat.land 72233666997393409 M = 72233666997393409) {s0 : State} {s : State} (h : Keeps M s0 s) : Keeps M s0 (State.stateChange s) := by
  unfold State.stateChange
  split
  ·
    refine (keeps_State_wantDone (sub_trans rfl hM)) ?_
    refine (keeps_State_enter (sub_trans rfl hM)) ?_
    refine (keeps_State_modPw (sub_trans rfl hM)) ?_
    exact h
  ·
    refine ite_of (P := Keeps M s0) ?_ ?_
    ·
      exact h
    ·
      extract_lets -merge -useContext -underBinder v0 v1
      have h2 : Keeps M s0 v0 := by
        unfold v0
        refine (keeps_State_modPw (sub_trans rfl hM)) ?_
        exact h
      try clear_value v0
      have h3 : Keeps M s0 v1 := by
        unfold v1
        refine (keeps_State_enter (sub_trans rfl hM)) ?_
        exact h2
      try clear_value v1
      refine ite_of (P := Keeps M s0) ?_ ?_
      ·
        split
        ·
          refine (keeps_State_wantDone (sub_trans rfl hM)) ?_
          exact h3
        ·
          exact h3
      ·
        exact h2
  ·
    refine ite_of (P := Keeps M s0) ?_ ?_
    ·
      exact h
    ·
      refine ite_of (P := Keeps M s0) ?_ ?_
      ·
        refine ite_of (P := Keeps M s0) ?_ ?_
        ·
          refine (keeps_State_enter (sub_trans rfl hM)) ?_
          exact h
        ·
          refine ite_of (P := Keeps M s0) ?_ ?_
          ·
            refine ite_of (P := Keeps M s0) ?_ ?_
            ·
              refine (keeps_State_wantDone (sub_trans rfl hM)) ?_
              refine (keeps_State_enter (sub_trans rfl hM)) ?_
              exact h
            ·
              exact h
          ·
            refine (keeps_State_wantDone (sub_trans rfl hM)) ?_
            refine (keeps_State_enter (sub_trans rfl hM)) ?_
            exact h
      ·
        refine ite_of (P := Keeps M s0) ?_ ?_
        ·
          refine (keeps_State_wantDone (sub_trans rfl hM)) ?_
          refine (keeps_State_enter (sub_trans rfl hM)) ?_
          exact h
        ·
          refine (keeps_State_wantDone (sub_trans rfl hM)) ?_
          refine ite_of (P := Keeps M s0) ?_ ?_
          ·
            refine (keeps_State_enter (sub_trans rfl hM)) ?_
            exact h
          ·
            exact h
  ·
    exact h

theorem keeps_State_testsEnd {M : Nat} (hM : Nat.land 6145 M = 6145) {s0 : State} {s : State} (h : Keeps M s0 s) : Keeps M s0 (State.testsEnd s) := by
  unfold State.testsEnd
  refine ite_of (P := Keeps M s0) ?_ ?_
  ·
    exact h
  ·
    extract_lets -merge -useContext -underBinder v0 v1 v2
    try clear_value v0
    try clear_value v1
    have h3 : Keeps M s0 v2 := by
      unfold v2
      refine (keeps_State_putB (sub_trans rfl hM)) ?_
      refine (keeps_State_setf (sub_trans rfl hM)) ?_
      exact h
    try clear_value v2
    refine ite_of (P := Keeps M s0) ?_ ?_
    ·
      refine (keeps_State_group (sub_trans rfl hM)) ?_
      refine (keeps_State_event (sub_trans rfl hM)) ?_
      exact h3
    ·
      exact h3

theorem keeps_State_selfTest {M : Nat} (hM : Nat.land 72092778410031105 M = 72092778410031105) {s0 : State} {s : State} {p1 : Bool} {p2 : Bool} {p3 : Bool} {p4 : Byte} {p5 : BitVec 16} (h : Keeps M s0 s) : Keeps M s0 (State.selfTest s p1 p2 p3 p4 p5) := by
  unfold State.selfTest
  refine ite_of (P := Keeps M s0) ?_ ?_
  ·
    exact h
  ·
    extract_lets -merge -useContext -underBinder v0 v1 v2
    try clear_value v0
    have h3 : Keeps M s0 v1 := by
      unfold v1
      refine (keeps_State_modPw (sub_trans rfl hM)) ?_
      refine (keeps_State_wrN (sub_trans rfl hM)) ?_
      refine (keeps_State_advanceTo (sub_trans rfl hM)) ?_
      exact h
    try clear_value v1
    have h4 : Keeps M s0 v2 := by
      unfold v2
      refine Keeps.forEach ?_ ?_
      ·
        exact h3
      · intro t5 x6 h7
        beta_reduce
        refine ite_of (P := Keeps M s0) ?_ ?_
        ·
          refine (keeps_State_put (sub_trans rfl hM)) ?_
          exact h7
        ·
          refine (keeps_State_lpRegs (sub_trans rfl hM)) ?_
          refine (keeps_State_modLp (sub_trans rfl hM)) ?_
          refine (keeps_State_put (sub_trans rfl hM)) ?_
          refine (keeps_State_put (sub_trans rfl hM)) ?_
          exact h7
    try clear_value v2
    refine (keeps_State_testsEnd (sub_trans rfl hM)) ?_
    exact h4

theorem keeps_State_dramDone {M : Nat} (hM : Nat.land 72057594037942273 M = 72057594037942273) {s0 : State} {s : State} {p1 : Bool} (h : Keeps M s0 s) : Keeps M s0 (State.dramDone s p1) := by
  unfold State.dramDone
  refine ite_of (P := Keeps M s0) ?_ ?_
  ·
    exact h
  ·
    extract_lets -merge -useContext -underBinder v0
    have h1 : Keeps M s0 v0 := by
      unfold v0
      refine (keeps_State_modPw (sub_trans rfl hM)) ?_
      refine (keeps_State_advanceTo (sub_trans rfl hM)) ?_
      exact h
    try clear_value v0
    refine (keeps_State_testsEnd (sub_trans rfl hM)) ?_
    refine ite_of (P := Keeps M s0) ?_ ?_
    ·
      refine (keeps_State_setf (sub_trans rfl hM)) ?_
      exact h1
    ·
      exact h1

theorem keeps_State_pllLock {M : Nat} (hM : Nat.land 72057594037927937 M = 72057594037927937) {s0 : State} {s : State} (h : Keeps M s0 s) : Keeps M s0 (State.pllLock s) := by
  unfold State.pllLock
  refine ite_of (P := Keeps M s0) ?_ ?_
  ·
    exact h
  ·
    refine (keeps_State_setf (sub_trans rfl hM)) ?_
    refine (keeps_State_modPw (sub_trans rfl hM)) ?_
    exact h

theorem keeps_State_refReturn {M : Nat} (hM : Nat.land 8193 M = 8193) {s0 : State} {s : State} (h : Keeps M s0 s) : Keeps M s0 (State.refReturn s) := by
  unfold State.refReturn
  refine ite_of (P := Keeps M s0) ?_ ?_
  ·
    extract_lets -merge -useContext -underBinder v0 v1
    have h2 : Keeps M s0 v0 := by
      unfold v0
      refine (keeps_State_put (sub_trans rfl hM)) ?_
      exact h
    try clear_value v0
    try clear_value v1
    refine Keeps.up_time (sub_trans rfl hM) ?_
    exact h2
  ·
    exact h

theorem keeps_State_firmwareStart {M : Nat} (hM : Nat.land 91197892454266881 M = 91197892454266881) {s0 : State} {s : State} {p1 : Option Word64} {p2 : Bool} (h : Keeps M s0 s) : Keeps M s0 (State.firmwareStart s p1 p2) := by
  unfold State.firmwareStart
  refine ite_of (P := Keeps M s0) ?_ ?_
  ·
    exact h
  ·
    extract_lets -merge -useContext -underBinder v0 v1 v2
    have h3 : Keeps M s0 v0 := by
      unfold v0
      refine (keeps_State_modPw (sub_trans rfl hM)) ?_
      refine (keeps_State_advanceTo (sub_trans rfl hM)) ?_
      exact h
    try clear_value v0
    have h4 : Keeps M s0 v1 := by
      unfold v1
      refine (keeps_State_put (sub_trans rfl hM)) ?_
      exact h3
    try clear_value v1
    have h5 : Keeps M s0 v2 := by
      unfold v2
      split
      ·
        refine ite_of (P := Keeps M s0) ?_ ?_
        ·
          exact h4
        ·
          refine Keeps.up_time (sub_trans rfl hM) ?_
          exact h4
      ·
        refine Keeps.up_log (sub_trans rfl hM) ?_
        exact h4
    try clear_value v2
    split
    ·
      rename_i t6 q8
      have h7 : Keeps M s0 t6 := by
        refine KP.out q8 ?_
        refine (keeps_State_freeWord64 (sub_trans rfl hM)) ?_
        exact h5
      extract_lets -merge -useContext -underBinder v9
      have h10 : Keeps M s0 v9 := by
        unfold v9
        refine (keeps_State_wearRegs (sub_trans rfl hM)) ?_
        refine (keeps_State_rangeRegs (sub_trans rfl hM)) ?_
        refine (keeps_State_modLog (sub_trans rfl hM)) ?_
        refine (keeps_State_wrN (sub_trans rfl hM)) ?_
        refine (keeps_State_wr64 (sub_trans rfl hM)) ?_
        exact h7
      try clear_value v9
      refine (keeps_State_alarmRecords (sub_trans rfl hM)) ?_
      refine (keeps_State_event (sub_trans rfl hM)) ?_
      exact h10

theorem keeps_State_brownOut {M : Nat} (hM : Nat.land 144115188075855871 M = 144115188075855871) {s0 : State} {s : State} (h : Keeps M s0 s) : Keeps M s0 (State.brownOut s) := by
  unfold State.brownOut
  refine ite_of (P := Keeps M s0) ?_ ?_
  ·
    refine (keeps_State_moduleReset (sub_trans rfl hM)) ?_
    exact h
  ·
    exact h

theorem keeps_State_refAcquire {M : Nat} (hM : Nat.land 8193 M = 8193) {s0 : State} {s : State} (h : Keeps M s0 s) : Keeps M s0 (State.refAcquire s) := by
  unfold State.refAcquire
  refine ite_of (P := Keeps M s0) ?_ ?_
  ·
    extract_lets -merge -useContext -underBinder v0 v1
    have h2 : Keeps M s0 v0 := by
      unfold v0
      refine (keeps_State_put (sub_trans rfl hM)) ?_
      exact h
    try clear_value v0
    try clear_value v1
    refine Keeps.up_time (sub_trans rfl hM) ?_
    exact h2
  ·
    exact h

theorem keeps_State_bootSelect {M : Nat} (hM : Nat.land 72057594037936129 M = 72057594037936129) {s0 : State} {s : State} {p1 : BootImage} {p2 : BootImage} (h : Keeps M s0 s) : Keeps M s0 (State.bootSelect s p1 p2) := by
  unfold State.bootSelect
  refine ite_of (P := Keeps M s0) ?_ ?_
  ·
    exact h
  ·
    extract_lets -merge -useContext -underBinder v0 v1 v2 v3 v4 v5 v6
    try clear_value v0
    try clear_value v1
    try clear_value v2
    try clear_value v3
    try clear_value v4
    try clear_value v5
    try clear_value v6
    refine (keeps_State_modPw (sub_trans rfl hM)) ?_
    refine (keeps_State_wrN (sub_trans rfl hM)) ?_
    refine (keeps_State_advanceTo (sub_trans rfl hM)) ?_
    exact h

theorem keeps_State_restartDone {M : Nat} (hM : Nat.land 90635492491528193 M = 90635492491528193) {s0 : State} {s : State} {p1 : Bool} {p2 : Word} (h : Keeps M s0 s) : Keeps M s0 (State.restartDone s p1 p2) := by
  unfold State.restartDone
  split
  ·
    exact h
  ·
    extract_lets -merge -useContext -underBinder v0 v1
    try clear_value v0
    try clear_value v1
    split
    ·
      rename_i t2 q4
      have h3 : Keeps M s0 t2 := by
        refine KP.out q4 ?_
        refine (keeps_State_freeWord (sub_trans rfl hM)) ?_
        exact h
      split
      ·
        rename_i t5 q7
        have h6 : Keeps M s0 t5 := by
          refine KP.out q7 ?_
          refine (keeps_State_freeWord (sub_trans rfl hM)) ?_
          exact h3
        extract_lets -merge -useContext -underBinder v8 v9 v10 v11 v12
        have h13 : Keeps M s0 v8 := by
          unfold v8
          refine (keeps_State_modPw (sub_trans rfl hM)) ?_
          exact h6
        try clear_value v8
        have h14 : Keeps M s0 v9 := by
          unfold v9
          refine (keeps_State_modTw (sub_trans rfl hM)) ?_
          refine (keeps_State_putB (sub_trans rfl hM)) ?_
          exact h13
        try clear_value v9
        try clear_value v10
        have h15 : Keeps M s0 v11 := by
          unfold v11
          refine (keeps_State_modLog (sub_trans rfl hM)) ?_
          refine (keeps_State_modPw (sub_trans rfl hM)) ?_
          refine Keeps.up_groom (sub_trans rfl hM) ?_
          exact h14
        try clear_value v11
        have h16 : Keeps M s0 v12 := by
          unfold v12
          refine (keeps_State_event (sub_trans rfl hM)) ?_
          refine (keeps_State_event (sub_trans rfl hM)) ?_
          exact h15
        try clear_value v12
        split
        ·
          refine (keeps_State_finish (sub_trans rfl hM)) ?_
          exact h16
        ·
          exact h16

theorem keeps_State_powerOn {M : Nat} (hM : Nat.land 144115188075855871 M = 144115188075855871) {s0 : State} {s : State} (h : Keeps M s0 s) : Keeps M s0 (State.powerOn s) := by
  unfold State.powerOn
  refine ite_of (P := Keeps M s0) ?_ ?_
  ·
    exact h
  ·
    refine (keeps_State_modPw (sub_trans rfl hM)) ?_
    refine (keeps_State_moduleReset (sub_trans rfl hM)) ?_
    exact h

theorem keeps_State_sysReset {M : Nat} (hM : Nat.land 144115188075855871 M = 144115188075855871) {s0 : State} {s : State} {p1 : Nat} (h : Keeps M s0 s) : Keeps M s0 (State.sysReset s p1) := by
  unfold State.sysReset
  extract_lets -merge -useContext -underBinder v0
  try clear_value v0
  refine ite_of (P := Keeps M s0) ?_ ?_
  ·
    refine (keeps_State_moduleReset (sub_trans rfl hM)) ?_
    exact h
  ·
    refine (keeps_State_badAcc (sub_trans rfl hM)) ?_
    exact h

theorem keeps_State_svnAdvance {M : Nat} (hM : Nat.land 72057594037936129 M = 72057594037936129) {s0 : State} {s : State} (h : Keeps M s0 s) : Keeps M s0 (State.svnAdvance s) := by
  unfold State.svnAdvance
  split
  ·
    refine ite_of (P := Keeps M s0) ?_ ?_
    ·
      refine (keeps_State_modPw (sub_trans rfl hM)) ?_
      refine (keeps_State_wrN (sub_trans rfl hM)) ?_
      refine (keeps_State_advanceTo (sub_trans rfl hM)) ?_
      exact h
    ·
      exact h
  ·
    exact h

theorem keeps_State_sysClk {M : Nat} (hM : Nat.land 8193 M = 8193) {s0 : State} {s : State} {p1 : Nat} (h : Keeps M s0 s) : Keeps M s0 (State.sysClk s p1) := by
  unfold State.sysClk
  extract_lets -merge -useContext -underBinder v0 v1 v2 v3 v4 v5 v6
  have h7 : Keeps M s0 v0 := by
    unfold v0
    refine (keeps_State_putB (sub_trans rfl hM)) ?_
    exact h
  try clear_value v0
  have h8 : Keeps M s0 v1 := by
    unfold v1
    refine ite_of (P := Keeps M s0) ?_ ?_
    ·
      refine (keeps_State_clrf (sub_trans rfl hM)) ?_
      exact h7
    ·
      exact h7
  try clear_value v1
  try clear_value v2
  have h9 : Keeps M s0 v3 := by
    unfold v3
    refine (keeps_State_put (sub_trans rfl hM)) ?_
    exact h8
  try clear_value v3
  try clear_value v4
  try clear_value v5
  have h10 : Keeps M s0 v6 := by
    unfold v6
    refine Keeps.up_time (sub_trans rfl hM) ?_
    exact h9
  try clear_value v6
  refine ite_of (P := Keeps M s0) ?_ ?_
  ·
    exact h8
  ·
    refine ite_of (P := Keeps M s0) ?_ ?_
    ·
      exact h10
    ·
      refine (keeps_State_put (sub_trans rfl hM)) ?_
      exact h10

theorem keeps_State_morningEntry {M : Nat} (hM : Nat.land 72233666997393409 M = 72233666997393409) {s0 : State} {s : State} (h : Keeps M s0 s) : Keeps M s0 (State.morningEntry s) := by
  unfold State.morningEntry
  extract_lets -merge -useContext -underBinder v0
  try clear_value v0
  refine ite_of (P := Keeps M s0) ?_ ?_
  ·
    refine (keeps_State_enter (sub_trans rfl hM)) ?_
    exact h
  ·
    exact h

theorem keeps_State_firmwareDecision {M : Nat} (hM : Nat.land 72339078141444097 M = 72339078141444097) {s0 : State} {s : State} (h : Keeps M s0 s) : Keeps M s0 (State.firmwareDecision s) := by
  unfold State.firmwareDecision
  refine ite_of (P := Keeps M s0) ?_ ?_
  ·
    exact h
  ·
    extract_lets -merge -useContext -underBinder v0 v1
    have h2 : Keeps M s0 v0 := by
      unfold v0
      refine foldl_of (P := Keeps M s0) ?_ ?_
      ·
        exact h
      · intro t3 x4 h5
        beta_reduce
        split
        ·
          exact h5
        ·
          extract_lets -merge -useContext -underBinder v6
          try clear_value v6
          refine ite_of (P := Keeps M s0) ?_ ?_
          ·
            exact h5
          ·
            refine (keeps_State_notice (sub_trans rfl hM)) ?_
            refine (keeps_State_modPw (sub_trans rfl hM)) ?_
            exact h5
    try clear_value v0
    have h7 : Keeps M s0 v1 := by
      unfold v1
      refine (keeps_State_modPw (sub_trans rfl hM)) ?_
      exact h2
    try clear_value v1
    refine Keeps.forEach ?_ ?_
    ·
      exact h7
    · intro t8 x9 h10
      beta_reduce
      refine ite_of (P := Keeps M s0) ?_ ?_
      ·
        extract_lets -merge -useContext -underBinder v11
        have h12 : Keeps M s0 v11 := by
          unfold v11
          refine (keeps_State_modLoop (sub_trans rfl hM)) ?_
          exact h10
        try clear_value v11
        refine ite_of (P := Keeps M s0) ?_ ?_
        ·
          refine (keeps_State_cleLeave (sub_trans rfl hM)) ?_
          exact h12
        ·
          exact h12
      ·
        exact h10

theorem keeps_State_powerLoss {M : Nat} (hM : Nat.land 144115188075855871 M = 144115188075855871) {s0 : State} {s : State} {vbat : Bool} (h : Keeps M s0 s) : Keeps M s0 (s.powerLoss vbat) := by
  unfold State.powerLoss
  extract_lets -merge -useContext -underBinder s1 s2
  have h1 : Keeps M s0 s1 := (keeps_State_modPw (sub_trans rfl hM)) ((keeps_State_moduleReset (sub_trans rfl hM)) h)
  clear_value s1
  have h2 : Keeps M s0 s2 := by
    refine ⟨h1.pending, h1.variant, h1.free, fun hc => ?_, full_frame hM⟩
    have a := canonical_parts.1 (h1.canon hc)
    have b := Memory.wf_parts.1 (canonical_parts.1 (h.canon hc)).2
    exact canonical_parts.2 ⟨a.1, Memory.wf_parts.2 ⟨⟨⟨⟨⟨⟨⟨⟨rfl, rfl⟩, rfl⟩, rfl⟩, rfl⟩, rfl⟩, rfl⟩, rfl⟩, b.2⟩⟩
  clear_value s2
  exact ite_of (P := Keeps M s0) h2 ((keeps_State_modLog (sub_trans rfl hM)) ((keeps_State_modSec (sub_trans rfl hM)) ((keeps_State_eraseKeys (sub_trans rfl hM)) h2)))

theorem keeps_State_refLost {M : Nat} (hM : Nat.land 10241 M = 10241) {s0 : State} {s : State} (h : Keeps M s0 s) : Keeps M s0 (State.refLost s) := by
  unfold State.refLost
  refine ite_of (P := Keeps M s0) ?_ ?_
  ·
    exact h
  ·
    extract_lets -merge -useContext -underBinder v0 v1
    have h2 : Keeps M s0 v0 := by
      unfold v0
      refine (keeps_State_event (sub_trans rfl hM)) ?_
      refine (keeps_State_put (sub_trans rfl hM)) ?_
      refine (keeps_State_setf (sub_trans rfl hM)) ?_
      exact h
    try clear_value v0
    try clear_value v1
    refine Keeps.up_time (sub_trans rfl hM) ?_
    exact h2

theorem keeps_State_yardWatchdog {M : Nat} (hM : Nat.land 144115188075855871 M = 144115188075855871) {s0 : State} {s : State} (h : Keeps M s0 s) : Keeps M s0 (State.yardWatchdog s) := by
  unfold State.yardWatchdog
  refine ite_of (P := Keeps M s0) ?_ ?_
  ·
    exact h
  ·
    extract_lets -merge -useContext -underBinder v0
    try clear_value v0
    refine ite_of (P := Keeps M s0) ?_ ?_
    ·
      refine (keeps_State_moduleReset (sub_trans rfl hM)) ?_
      exact h
    ·
      refine (keeps_State_beginRestart (sub_trans rfl hM)) ?_
      refine (keeps_State_modPw (sub_trans rfl hM)) ?_
      exact h

end Sys2Proof.Machine
end

