-- ==== Sys2Proof/Laws/KeepBar0.lean ====
section
/-! SUPPORT. The operations of Machine/Bar0.lean keep what `Keeps` says. -/

namespace Sys2Proof.Machine

theorem keeps_State_regionWrite {M : Nat} (hM : Nat.land 51677281648701 M = 51677281648701) {s0 : State} {s : State} {p1 : Nat} {p2 : Region} {p3 : Word} (h : Keeps M s0 s) : Keeps M s0 (State.regionWrite s p1 p2 p3) := by
  unfold State.regionWrite
  split
  ·
    refine (keeps_State_winWrite (sub_trans rfl hM)) ?_
    exact h
  ·
    refine (keeps_State_cmpRamWrite (sub_trans rfl hM)) ?_
    exact h
  ·
    refine ite_of (P := Keeps M s0) ?_ ?_
    ·
      refine (keeps_State_badAcc (sub_trans rfl hM)) ?_
      exact h
    ·
      refine (keeps_State_setBin (sub_trans rfl hM)) ?_
      exact h
  ·
    refine (keeps_State_lpMemWrite (sub_trans rfl hM)) ?_
    exact h
  ·
    exact h

theorem keeps_State_modReq {M : Nat} (hM : Nat.land 32768 M = 32768) {s0 : State} {s : State} {p1 : Nat} {p2 : ReqSt → ReqSt} (h : Keeps M s0 s) : Keeps M s0 (State.modReq s p1 p2) := by
  unfold State.modReq
  refine Keeps.up_reqs (sub_trans rfl hM) ?_
  exact h

theorem keeps_State_store {M : Nat} (hM : Nat.land 1 M = 1) {s0 : State} {s : State} {p1 : Hit} {p2 : Nat} {p3 : Nat} (h : Keeps M s0 s) : Keeps M s0 (State.store s p1 p2 p3) := by
  unfold State.store
  extract_lets -merge -useContext -underBinder v0
  try clear_value v0
  refine ite_of (P := Keeps M s0) ?_ ?_
  ·
    refine (keeps_State_wr64N (sub_trans rfl hM)) ?_
    exact h
  ·
    refine (keeps_State_wrN (sub_trans rfl hM)) ?_
    exact h

theorem keeps_State_onBit {M : Nat} (hM : Nat.land 0 M = 0) {s0 : State} {s : State} {p1 : Nat} {p2 : Nat} {p3 : State → State} (h : Keeps M s0 s) (hf0 : ∀ x0, Keeps M s0 x0 → Keeps M s0 (p3 x0)) : Keeps M s0 (State.onBit s p1 p2 p3) := by
  unfold State.onBit
  refine ite_of (P := Keeps M s0) ?_ ?_
  ·
    refine hf0 _ ?_
    exact h
  ·
    exact h

theorem keeps_State_writeAx {M : Nat} (hM : Nat.land 244318209 M = 244318209) {s0 : State} {s : State} {p1 : Hit} {p2 : Nat} {p3 : Nat} (h : Keeps M s0 s) : Keeps M s0 (State.writeAx s p1 p2 p3) := by
  unfold State.writeAx
  extract_lets -merge -useContext -underBinder v0
  try clear_value v0
  refine ite_of (P := Keeps M s0) ?_ ?_
  ·
    refine ite_of (P := Keeps M s0) ?_ ?_
    ·
      exact h
    ·
      refine ite_of (P := Keeps M s0) ?_ ?_
      ·
        refine (keeps_State_store (sub_trans rfl hM)) ?_
        exact h
      ·
        refine (keeps_State_store (sub_trans rfl hM)) ?_
        exact h
  ·
    refine ite_of (P := Keeps M s0) ?_ ?_
    ·
      refine ite_of (P := Keeps M s0) ?_ ?_
      ·
        refine (keeps_State_store (sub_trans rfl hM)) ?_
        exact h
      ·
        exact h
    ·
      refine ite_of (P := Keeps M s0) ?_ ?_
      ·
        refine (keeps_State_onBit (sub_trans rfl hM)) ?_ ?_
        ·
          exact h
        · intro x1 h2
          try beta_reduce
          refine (keeps_State_lateClr (sub_trans rfl hM)) ?_
          exact h2
      ·
        refine ite_of (P := Keeps M s0) ?_ ?_
        ·
          refine ite_of (P := Keeps M s0) ?_ ?_
          ·
            refine (keeps_State_srcWrite (sub_trans rfl hM)) ?_
            exact h
          ·
            exact h
        ·
          refine ite_of (P := Keeps M s0) ?_ ?_
          ·
            refine (keeps_State_onBit (sub_trans rfl hM)) ?_ ?_
            ·
              refine (keeps_State_store (sub_trans rfl hM)) ?_
              exact h
            · intro x3 h4
              try beta_reduce
              refine (keeps_State_camArm (sub_trans rfl hM)) ?_
              exact h4
          ·
            refine (keeps_State_store (sub_trans rfl hM)) ?_
            exact h

theorem keeps_State_writeAxl {M : Nat} (hM : Nat.land 536870913 M = 536870913) {s0 : State} {s : State} {p1 : Hit} {p2 : Nat} {p3 : Nat} (h : Keeps M s0 s) : Keeps M s0 (State.writeAxl s p1 p2 p3) := by
  unfold State.writeAxl
  extract_lets -merge -useContext -underBinder v0
  try clear_value v0
  refine ite_of (P := Keeps M s0) ?_ ?_
  ·
    refine ite_of (P := Keeps M s0) ?_ ?_
    ·
      refine (keeps_State_store (sub_trans rfl hM)) ?_
      exact h
    ·
      exact h
  ·
    refine ite_of (P := Keeps M s0) ?_ ?_
    ·
      refine (keeps_State_onBit (sub_trans rfl hM)) ?_ ?_
      ·
        refine (keeps_State_store (sub_trans rfl hM)) ?_
        exact h
      · intro x1 h2
        try beta_reduce
        refine (keeps_State_loopApply (sub_trans rfl hM)) ?_
        exact h2
    ·
      refine (keeps_State_store (sub_trans rfl hM)) ?_
      exact h

theorem keeps_State_writeCan {M : Nat} (hM : Nat.land 4503599627370497 M = 4503599627370497) {s0 : State} {s : State} {p1 : Hit} {p2 : Nat} {p3 : Nat} (h : Keeps M s0 s) : Keeps M s0 (State.writeCan s p1 p2 p3) := by
  unfold State.writeCan
  extract_lets -merge -useContext -underBinder v0
  try clear_value v0
  split
  ·
    refine ite_of (P := Keeps M s0) ?_ ?_
    ·
      refine (keeps_State_onBit (sub_trans rfl hM)) ?_ ?_
      ·
        refine (keeps_State_canHaltWritten (sub_trans rfl hM)) ?_
        refine (keeps_State_store (sub_trans rfl hM)) ?_
        exact h
      · intro x1 h2
        try beta_reduce
        refine (keeps_State_canRecover (sub_trans rfl hM)) ?_
        exact h2
    ·
      refine ite_of (P := Keeps M s0) ?_ ?_
      ·
        extract_lets -merge -useContext -underBinder v3
        have h4 : Keeps M s0 v3 := by
          unfold v3
          refine (keeps_State_store (sub_trans rfl hM)) ?_
          exact h
        try clear_value v3
        refine ite_of (P := Keeps M s0) ?_ ?_
        ·
          exact h
        ·
          exact h4
      ·
        refine ite_of (P := Keeps M s0) ?_ ?_
        ·
          refine ite_of (P := Keeps M s0) ?_ ?_
          ·
            exact h
          ·
            refine (keeps_State_store (sub_trans rfl hM)) ?_
            exact h
        ·
          refine ite_of (P := Keeps M s0) ?_ ?_
          ·
            refine (keeps_State_canTxgo (sub_trans rfl hM)) ?_
            exact h
          ·
            refine ite_of (P := Keeps M s0) ?_ ?_
            ·
              refine (keeps_State_canTxwd (sub_trans rfl hM)) ?_
              exact h
            ·
              refine ite_of (P := Keeps M s0) ?_ ?_
              ·
                refine (keeps_State_onBit (sub_trans rfl hM)) ?_ ?_
                ·
                  refine (keeps_State_onBit (sub_trans rfl hM)) ?_ ?_
                  ·
                    exact h
                  · intro x5 h6
                    try beta_reduce
                    refine (keeps_State_fifoRelease (sub_trans rfl hM)) ?_
                    exact h6
                · intro x7 h8
                  try beta_reduce
                  refine (keeps_State_fifoRelease (sub_trans rfl hM)) ?_
                  exact h8
              ·
                refine (keeps_State_store (sub_trans rfl hM)) ?_
                exact h
  ·
    extract_lets -merge -useContext -underBinder v9
    try clear_value v9
    refine ite_of (P := Keeps M s0) ?_ ?_
    ·
      exact h
    ·
      refine ite_of (P := Keeps M s0) ?_ ?_
      ·
        refine (keeps_State_store (sub_trans rfl hM)) ?_
        exact h
      ·
        refine (keeps_State_store (sub_trans rfl hM)) ?_
        exact h
  ·
    refine (keeps_State_store (sub_trans rfl hM)) ?_
    exact h

theorem keeps_State_writeCo {M : Nat} (hM : Nat.land 262145 M = 262145) {s0 : State} {s : State} {p1 : Hit} {p2 : Nat} {p3 : Nat} (h : Keeps M s0 s) : Keeps M s0 (State.writeCo s p1 p2 p3) := by
  unfold State.writeCo
  extract_lets -merge -useContext -underBinder v0 v1 v2
  try clear_value v0
  have h3 : Keeps M s0 v1 := by
    unfold v1
    refine (keeps_State_store (sub_trans rfl hM)) ?_
    refine (keeps_State_coUpdate (sub_trans rfl hM)) ?_
    exact h
  try clear_value v1
  have h4 : Keeps M s0 v2 := by
    unfold v2
    refine (keeps_State_coSrcOne (sub_trans rfl hM)) ?_
    refine (keeps_State_store (sub_trans rfl hM)) ?_
    refine (keeps_State_coUpdate (sub_trans rfl hM)) ?_
    exact h
  try clear_value v2
  refine ite_of (P := Keeps M s0) ?_ ?_
  ·
    refine ite_of (P := Keeps M s0) ?_ ?_
    ·
      exact h
    ·
      refine ite_of (P := Keeps M s0) ?_ ?_
      ·
        refine (keeps_State_coDisarm (sub_trans rfl hM)) ?_
        exact h3
      ·
        exact h3
  ·
    refine ite_of (P := Keeps M s0) ?_ ?_
    ·
      refine ite_of (P := Keeps M s0) ?_ ?_
      ·
        refine (keeps_State_coDisarm (sub_trans rfl hM)) ?_
        exact h4
      ·
        exact h4
    ·
      refine ite_of (P := Keeps M s0) ?_ ?_
      ·
        refine (keeps_State_onBit (sub_trans rfl hM)) ?_ ?_
        ·
          refine (keeps_State_onBit (sub_trans rfl hM)) ?_ ?_
          ·
            refine (keeps_State_onBit (sub_trans rfl hM)) ?_ ?_
            ·
              exact h
            · intro x5 h6
              try beta_reduce
              refine (keeps_State_wrN (sub_trans rfl hM)) ?_
              exact h6
          · intro x7 h8
            try beta_reduce
            refine (keeps_State_coStop (sub_trans rfl hM)) ?_
            exact h8
        · intro x9 h10
          try beta_reduce
          refine (keeps_State_coArm (sub_trans rfl hM)) ?_
          exact h10
      ·
        refine (keeps_State_store (sub_trans rfl hM)) ?_
        exact h

theorem keeps_State_writeCu {M : Nat} (hM : Nat.land 9007199489626113 M = 9007199489626113) {s0 : State} {s : State} {p1 : Hit} {p2 : Nat} {p3 : Nat} (h : Keeps M s0 s) : Keeps M s0 (State.writeCu s p1 p2 p3) := by
  unfold State.writeCu
  extract_lets -merge -useContext -underBinder v0
  try clear_value v0
  refine ite_of (P := Keeps M s0) ?_ ?_
  ·
    refine (keeps_State_store (sub_trans rfl hM)) ?_
    exact h
  ·
    refine ite_of (P := Keeps M s0) ?_ ?_
    ·
      refine (keeps_State_onBit (sub_trans rfl hM)) ?_ ?_
      ·
        refine (keeps_State_onBit (sub_trans rfl hM)) ?_ ?_
        ·
          refine (keeps_State_onBit (sub_trans rfl hM)) ?_ ?_
          ·
            exact h
          · intro x1 h2
            try beta_reduce
            refine KP.snd ?_
            refine (keeps_State_cuArm (sub_trans rfl hM)) ?_
            exact h2
        · intro x3 h4
          try beta_reduce
          refine (keeps_State_cuFire (sub_trans rfl hM)) ?_
          exact h4
      · intro x5 h6
        try beta_reduce
        refine (keeps_State_cuDisarm (sub_trans rfl hM)) ?_
        exact h6
    ·
      refine ite_of (P := Keeps M s0) ?_ ?_
      ·
        refine (keeps_State_store (sub_trans rfl hM)) ?_
        exact h
      ·
        exact h

theorem keeps_State_writeGrp {M : Nat} (hM : Nat.land 1 M = 1) {s0 : State} {s : State} {p1 : Hit} {p2 : Nat} {p3 : Nat} (h : Keeps M s0 s) : Keeps M s0 (State.writeGrp s p1 p2 p3) := by
  unfold State.writeGrp
  extract_lets -merge -useContext -underBinder v0
  try clear_value v0
  refine ite_of (P := Keeps M s0) ?_ ?_
  ·
    refine ite_of (P := Keeps M s0) ?_ ?_
    ·
      refine (keeps_State_store (sub_trans rfl hM)) ?_
      exact h
    ·
      exact h
  ·
    refine (keeps_State_store (sub_trans rfl hM)) ?_
    exact h

theorem keeps_State_tripRewatch {M : Nat} (hM : Nat.land 25769809921 M = 25769809921) {s0 : State} {s : State} {p1 : Nat} {p2 : Bool × Bool} (h : Keeps M s0 s) : Keeps M s0 (State.tripRewatch s p1 p2) := by
  unfold State.tripRewatch
  refine ite_of (P := Keeps M s0) ?_ ?_
  ·
    exact h
  ·
    refine (keeps_State_tripWatch (sub_trans rfl hM)) ?_
    exact h

theorem keeps_State_writeGtrip {M : Nat} (hM : Nat.land 25769809921 M = 25769809921) {s0 : State} {s : State} {p1 : Hit} {p2 : Nat} {p3 : Nat} (h : Keeps M s0 s) : Keeps M s0 (State.writeGtrip s p1 p2 p3) := by
  unfold State.writeGtrip
  extract_lets -merge -useContext -underBinder v0
  try clear_value v0
  refine ite_of (P := Keeps M s0) ?_ ?_
  ·
    refine ite_of (P := Keeps M s0) ?_ ?_
    ·
      refine (keeps_State_tripRewatch (sub_trans rfl hM)) ?_
      refine (keeps_State_store (sub_trans rfl hM)) ?_
      exact h
    ·
      exact h
  ·
    refine ite_of (P := Keeps M s0) ?_ ?_
    ·
      refine (keeps_State_onBit (sub_trans rfl hM)) ?_ ?_
      ·
        refine (keeps_State_onBit (sub_trans rfl hM)) ?_ ?_
        ·
          exact h
        · intro x1 h2
          try beta_reduce
          refine (keeps_State_gtripClrCnt (sub_trans rfl hM)) ?_
          exact h2
      · intro x3 h4
        try beta_reduce
        refine (keeps_State_gtripTclr (sub_trans rfl hM)) ?_
        exact h4
    ·
      refine (keeps_State_store (sub_trans rfl hM)) ?_
      exact h

theorem keeps_State_writeHost {M : Nat} (hM : Nat.land 36028797020026881 M = 36028797020026881) {s0 : State} {s : State} {p1 : Hit} {p2 : Nat} {p3 : Nat} (h : Keeps M s0 s) : Keeps M s0 (State.writeHost s p1 p2 p3) := by
  unfold State.writeHost
  refine ite_of (P := Keeps M s0) ?_ ?_
  ·
    refine (keeps_State_hostKick (sub_trans rfl hM)) ?_
    exact h
  ·
    refine ite_of (P := Keeps M s0) ?_ ?_
    ·
      refine (keeps_State_onBit (sub_trans rfl hM)) ?_ ?_
      ·
        exact h
      · intro x0 h1
        try beta_reduce
        refine (keeps_State_hostClrCnt (sub_trans rfl hM)) ?_
        exact h1
    ·
      refine ite_of (P := Keeps M s0) ?_ ?_
      ·
        extract_lets -merge -useContext -underBinder v2
        have h3 : Keeps M s0 v2 := by
          unfold v2
          refine (keeps_State_store (sub_trans rfl hM)) ?_
          exact h
        try clear_value v2
        refine ite_of (P := Keeps M s0) ?_ ?_
        ·
          exact h3
        ·
          refine (keeps_State_modHost (sub_trans rfl hM)) ?_
          exact h3
      ·
        refine ite_of (P := Keeps M s0) ?_ ?_
        ·
          extract_lets -merge -useContext -underBinder v4 v5
          try clear_value v4
          have h6 : Keeps M s0 v5 := by
            unfold v5
            refine (keeps_State_store (sub_trans rfl hM)) ?_
            exact h
          try clear_value v5
          refine ite_of (P := Keeps M s0) ?_ ?_
          ·
            refine (keeps_State_raiseVector (sub_trans rfl hM)) ?_
            refine (keeps_State_wrN (sub_trans rfl hM)) ?_
            exact h6
          ·
            exact h6
        ·
          refine (keeps_State_store (sub_trans rfl hM)) ?_
          exact h

theorem keeps_State_writeInj {M : Nat} (hM : Nat.land 1308622849 M = 1308622849) {s0 : State} {s : State} {p1 : Hit} {p2 : Nat} {p3 : Nat} (h : Keeps M s0 s) : Keeps M s0 (State.writeInj s p1 p2 p3) := by
  unfold State.writeInj
  extract_lets -merge -useContext -underBinder v0 v1
  try clear_value v0
  have h2 : Keeps M s0 v1 := by
    unfold v1
    refine (keeps_State_store (sub_trans rfl hM)) ?_
    exact h
  try clear_value v1
  refine ite_of (P := Keeps M s0) ?_ ?_
  ·
    refine (keeps_State_onBit (sub_trans rfl hM)) ?_ ?_
    ·
      refine (keeps_State_onBit (sub_trans rfl hM)) ?_ ?_
      ·
        exact h2
      · intro x3 h4
        try beta_reduce
        refine (keeps_State_injStop (sub_trans rfl hM)) ?_
        exact h4
    · intro x5 h6
      try beta_reduce
      refine (keeps_State_injStart (sub_trans rfl hM)) ?_
      exact h6
  ·
    exact h2

theorem keeps_State_writeIo {M : Nat} (hM : Nat.land 2251799813685249 M = 2251799813685249) {s0 : State} {s : State} {p1 : Hit} {p2 : Nat} {p3 : Nat} (h : Keeps M s0 s) : Keeps M s0 (State.writeIo s p1 p2 p3) := by
  unfold State.writeIo
  extract_lets -merge -useContext -underBinder v0
  try clear_value v0
  refine ite_of (P := Keeps M s0) ?_ ?_
  ·
    refine (keeps_State_dioOut (sub_trans rfl hM)) ?_
    exact h
  ·
    refine ite_of (P := Keeps M s0) ?_ ?_
    ·
      refine (keeps_State_dioSet (sub_trans rfl hM)) ?_
      exact h
    ·
      refine ite_of (P := Keeps M s0) ?_ ?_
      ·
        refine (keeps_State_dioClear (sub_trans rfl hM)) ?_
        exact h
      ·
        refine ite_of (P := Keeps M s0) ?_ ?_
        ·
          split
          ·
            refine (keeps_State_store (sub_trans rfl hM)) ?_
            exact h
          ·
            exact h
        ·
          refine ite_of (P := Keeps M s0) ?_ ?_
          ·
            refine (keeps_State_onBit (sub_trans rfl hM)) ?_ ?_
            ·
              refine (keeps_State_onBit (sub_trans rfl hM)) ?_ ?_
              ·
                refine (keeps_State_onBit (sub_trans rfl hM)) ?_ ?_
                ·
                  exact h
                · intro x1 h2
                  try beta_reduce
                  refine (keeps_State_fgClrCnt (sub_trans rfl hM)) ?_
                  exact h2
              · intro x3 h4
                try beta_reduce
                refine (keeps_State_fgClrFlags (sub_trans rfl hM)) ?_
                exact h4
            · intro x5 h6
              try beta_reduce
              refine KP.snd ?_
              refine (keeps_State_fgRearm (sub_trans rfl hM)) ?_
              exact h6
          ·
            refine (keeps_State_store (sub_trans rfl hM)) ?_
            exact h

theorem keeps_State_writeLi {M : Nat} (hM : Nat.land 131073 M = 131073) {s0 : State} {s : State} {p1 : Hit} {p2 : Nat} {p3 : Nat} (h : Keeps M s0 s) : Keeps M s0 (State.writeLi s p1 p2 p3) := by
  unfold State.writeLi
  extract_lets -merge -useContext -underBinder v0
  try clear_value v0
  refine ite_of (P := Keeps M s0) ?_ ?_
  ·
    refine ite_of (P := Keeps M s0) ?_ ?_
    ·
      refine (keeps_State_store (sub_trans rfl hM)) ?_
      exact h
    ·
      exact h
  ·
    refine ite_of (P := Keeps M s0) ?_ ?_
    ·
      refine (keeps_State_onBit (sub_trans rfl hM)) ?_ ?_
      ·
        refine (keeps_State_onBit (sub_trans rfl hM)) ?_ ?_
        ·
          refine (keeps_State_onBit (sub_trans rfl hM)) ?_ ?_
          ·
            exact h
          · intro x1 h2
            try beta_reduce
            refine (keeps_State_latchClrCnt (sub_trans rfl hM)) ?_
            exact h2
        · intro x3 h4
          try beta_reduce
          refine (keeps_State_latchClr (sub_trans rfl hM)) ?_
          exact h4
      · intro x5 h6
        try beta_reduce
        refine (keeps_State_latchPop (sub_trans rfl hM)) ?_
        exact h6
    ·
      refine (keeps_State_store (sub_trans rfl hM)) ?_
      exact h

theorem keeps_State_writeLogSec {M : Nat} (hM : Nat.land 18014398509481985 M = 18014398509481985) {s0 : State} {s : State} {p1 : Hit} {p2 : Nat} {p3 : Nat} (h : Keeps M s0 s) : Keeps M s0 (State.writeLogSec s p1 p2 p3) := by
  unfold State.writeLogSec
  refine ite_of (P := Keeps M s0) ?_ ?_
  ·
    refine (keeps_State_logCursor (sub_trans rfl hM)) ?_
    exact h
  ·
    refine ite_of (P := Keeps M s0) ?_ ?_
    ·
      refine (keeps_State_onBit (sub_trans rfl hM)) ?_ ?_
      ·
        exact h
      · intro x0 h1
        try beta_reduce
        refine (keeps_State_logNext (sub_trans rfl hM)) ?_
        exact h1
    ·
      refine ite_of (P := Keeps M s0) ?_ ?_
      ·
        refine (keeps_State_secPolicyWrite (sub_trans rfl hM)) ?_
        exact h
      ·
        refine ite_of (P := Keeps M s0) ?_ ?_
        ·
          refine (keeps_State_alarmBit (sub_trans rfl hM)) ?_
          refine (keeps_State_store (sub_trans rfl hM)) ?_
          exact h
        ·
          refine ite_of (P := Keeps M s0) ?_ ?_
          ·
            refine ite_of (P := Keeps M s0) ?_ ?_
            ·
              refine (keeps_State_wr64N (sub_trans rfl hM)) ?_
              exact h
            ·
              exact h
          ·
            refine ite_of (P := Keeps M s0) ?_ ?_
            ·
              refine (keeps_State_onBit (sub_trans rfl hM)) ?_ ?_
              ·
                exact h
              · intro x2 h3
                try beta_reduce
                refine (keeps_State_wrN (sub_trans rfl hM)) ?_
                refine (keeps_State_wrN (sub_trans rfl hM)) ?_
                exact h3
            ·
              refine (keeps_State_store (sub_trans rfl hM)) ?_
              exact h

theorem keeps_State_writeLp {M : Nat} (hM : Nat.land 35184606969857 M = 35184606969857) {s0 : State} {s : State} {p1 : Hit} {p2 : Nat} {p3 : Nat} (h : Keeps M s0 s) : Keeps M s0 (State.writeLp s p1 p2 p3) := by
  unfold State.writeLp
  extract_lets -merge -useContext -underBinder v0 v1 v2
  try clear_value v0
  have h3 : Keeps M s0 v1 := by
    unfold v1
    refine (keeps_State_store (sub_trans rfl hM)) ?_
    exact h
  try clear_value v1
  have h4 : Keeps M s0 v2 := by
    unfold v2
    refine (keeps_State_store (sub_trans rfl hM)) ?_
    exact h
  try clear_value v2
  refine ite_of (P := Keeps M s0) ?_ ?_
  ·
    refine ite_of (P := Keeps M s0) ?_ ?_
    ·
      refine (keeps_State_lpActivate (sub_trans rfl hM)) ?_
      exact h3
    ·
      exact h3
  ·
    refine ite_of (P := Keeps M s0) ?_ ?_
    ·
      refine (keeps_State_onBit (sub_trans rfl hM)) ?_ ?_
      ·
        refine (keeps_State_onBit (sub_trans rfl hM)) ?_ ?_
        ·
          refine (keeps_State_onBit (sub_trans rfl hM)) ?_ ?_
          ·
            exact h
          · intro x5 h6
            try beta_reduce
            refine (keeps_State_wrN (sub_trans rfl hM)) ?_
            exact h6
        · intro x7 h8
          try beta_reduce
          refine (keeps_State_lpVerify (sub_trans rfl hM)) ?_
          exact h8
      · intro x9 h10
        try beta_reduce
        refine (keeps_State_lpVerify (sub_trans rfl hM)) ?_
        exact h10
    ·
      refine ite_of (P := Keeps M s0) ?_ ?_
      ·
        refine ite_of (P := Keeps M s0) ?_ ?_
        ·
          exact h4
        ·
          refine (keeps_State_lpRegs (sub_trans rfl hM)) ?_
          refine (keeps_State_bankStale (sub_trans rfl hM)) ?_
          exact h4
      ·
        refine (keeps_State_store (sub_trans rfl hM)) ?_
        exact h

theorem keeps_State_writeLs {M : Nat} (hM : Nat.land 8388609 M = 8388609) {s0 : State} {s : State} {p1 : Hit} {p2 : Nat} {p3 : Nat} (h : Keeps M s0 s) : Keeps M s0 (State.writeLs s p1 p2 p3) := by
  unfold State.writeLs
  extract_lets -merge -useContext -underBinder v0 v1
  try clear_value v0
  have h2 : Keeps M s0 v1 := by
    unfold v1
    refine (keeps_State_store (sub_trans rfl hM)) ?_
    exact h
  try clear_value v1
  refine ite_of (P := Keeps M s0) ?_ ?_
  ·
    refine ite_of (P := Keeps M s0) ?_ ?_
    ·
      refine (keeps_State_store (sub_trans rfl hM)) ?_
      exact h
    ·
      exact h
  ·
    refine ite_of (P := Keeps M s0) ?_ ?_
    ·
      refine ite_of (P := Keeps M s0) ?_ ?_
      ·
        refine (keeps_State_modShaft (sub_trans rfl hM)) ?_
        refine (keeps_State_wrN (sub_trans rfl hM)) ?_
        exact h2
      ·
        exact h2
    ·
      refine (keeps_State_store (sub_trans rfl hM)) ?_
      exact h

theorem keeps_State_writeNet {M : Nat} (hM : Nat.land 70368744187905 M = 70368744187905) {s0 : State} {s : State} {p1 : Hit} {p2 : Nat} {p3 : Nat} (h : Keeps M s0 s) : Keeps M s0 (State.writeNet s p1 p2 p3) := by
  unfold State.writeNet
  extract_lets -merge -useContext -underBinder v0
  try clear_value v0
  split
  ·
    refine ite_of (P := Keeps M s0) ?_ ?_
    ·
      refine ite_of (P := Keeps M s0) ?_ ?_
      ·
        exact h
      ·
        refine (keeps_State_ntTrim (sub_trans rfl hM)) ?_
        exact h
    ·
      refine ite_of (P := Keeps M s0) ?_ ?_
      ·
        refine ite_of (P := Keeps M s0) ?_ ?_
        ·
          exact h
        ·
          refine ite_of (P := Keeps M s0) ?_ ?_
          ·
            refine (keeps_State_setGo (sub_trans rfl hM)) ?_
            exact h
          ·
            refine ite_of (P := Keeps M s0) ?_ ?_
            ·
              refine (keeps_State_stepGo (sub_trans rfl hM)) ?_
              exact h
            ·
              exact h
      ·
        refine (keeps_State_store (sub_trans rfl hM)) ?_
        exact h
  ·
    extract_lets -merge -useContext -underBinder v1
    have h2 : Keeps M s0 v1 := by
      unfold v1
      refine (keeps_State_store (sub_trans rfl hM)) ?_
      exact h
    try clear_value v1
    refine ite_of (P := Keeps M s0) ?_ ?_
    ·
      refine (keeps_State_onBit (sub_trans rfl hM)) ?_ ?_
      ·
        exact h2
      · intro x3 h4
        try beta_reduce
        refine (keeps_State_gclChg (sub_trans rfl hM)) ?_
        exact h4
    ·
      exact h2
  ·
    refine (keeps_State_store (sub_trans rfl hM)) ?_
    exact h

theorem keeps_State_writePort {M : Nat} (hM : Nat.land 65537 M = 65537) {s0 : State} {s : State} {p1 : Hit} {p2 : Nat} {p3 : Nat} (h : Keeps M s0 s) : Keeps M s0 (State.writePort s p1 p2 p3) := by
  unfold State.writePort
  extract_lets -merge -useContext -underBinder v0 v1
  try clear_value v0
  have h2 : Keeps M s0 v1 := by
    unfold v1
    refine (keeps_State_store (sub_trans rfl hM)) ?_
    exact h
  try clear_value v1
  refine ite_of (P := Keeps M s0) ?_ ?_
  ·
    refine ite_of (P := Keeps M s0) ?_ ?_
    ·
      exact h
    ·
      refine (keeps_State_store (sub_trans rfl hM)) ?_
      exact h
  ·
    refine ite_of (P := Keeps M s0) ?_ ?_
    ·
      refine (keeps_State_store (sub_trans rfl hM)) ?_
      exact h
    ·
      refine ite_of (P := Keeps M s0) ?_ ?_
      ·
        refine (keeps_State_store (sub_trans rfl hM)) ?_
        exact h
      ·
        refine ite_of (P := Keeps M s0) ?_ ?_
        ·
          refine (keeps_State_suspects (sub_trans rfl hM)) ?_
          refine ite_of (P := Keeps M s0) ?_ ?_
          ·
            refine (keeps_State_portEnable (sub_trans rfl hM)) ?_
            exact h2
          ·
            exact h2
        ·
          refine ite_of (P := Keeps M s0) ?_ ?_
          ·
            refine (keeps_State_store (sub_trans rfl hM)) ?_
            refine (keeps_State_portStage (sub_trans rfl hM)) ?_
            exact h
          ·
            refine ite_of (P := Keeps M s0) ?_ ?_
            ·
              refine (keeps_State_onBit (sub_trans rfl hM)) ?_ ?_
              ·
                refine (keeps_State_onBit (sub_trans rfl hM)) ?_ ?_
                ·
                  refine (keeps_State_onBit (sub_trans rfl hM)) ?_ ?_
                  ·
                    refine (keeps_State_onBit (sub_trans rfl hM)) ?_ ?_
                    ·
                      refine (keeps_State_onBit (sub_trans rfl hM)) ?_ ?_
                      ·
                        exact h
                      · intro x3 h4
                        try beta_reduce
                        refine (keeps_State_portClrFlags (sub_trans rfl hM)) ?_
                        exact h4
                    · intro x5 h6
                      try beta_reduce
                      refine (keeps_State_portClrCnt (sub_trans rfl hM)) ?_
                      exact h6
                  · intro x7 h8
                    try beta_reduce
                    refine (keeps_State_portRearm (sub_trans rfl hM)) ?_
                    exact h8
                · intro x9 h10
                  try beta_reduce
                  refine (keeps_State_portReval (sub_trans rfl hM)) ?_
                  exact h10
              · intro x11 h12
                try beta_reduce
                refine (keeps_State_portLoad (sub_trans rfl hM)) ?_
                exact h12
            ·
              refine (keeps_State_store (sub_trans rfl hM)) ?_
              exact h

theorem keeps_State_writeStaged {M : Nat} (hM : Nat.land 8589934593 M = 8589934593) {s0 : State} {s : State} {p1 : Hit} {p2 : Nat} {p3 : Nat} {p4 : Nat} {p5 : Bool} (h : Keeps M s0 s) : Keeps M s0 (State.writeStaged s p1 p2 p3 p4 p5) := by
  unfold State.writeStaged
  extract_lets -merge -useContext -underBinder v0
  have h1 : Keeps M s0 v0 := by
    unfold v0
    refine (keeps_State_flyTo (sub_trans rfl hM)) ?_
    exact h
  try clear_value v0
  refine ite_of (P := Keeps M s0) ?_ ?_
  ·
    refine (keeps_State_pwmStage (sub_trans rfl hM)) ?_
    refine (keeps_State_store (sub_trans rfl hM)) ?_
    refine ite_of (P := Keeps M s0) ?_ ?_
    ·
      refine (keeps_State_tokenHold (sub_trans rfl hM)) ?_
      exact h1
    ·
      exact h1
  ·
    exact h1

theorem keeps_State_writePwm {M : Nat} (hM : Nat.land 25769809921 M = 25769809921) {s0 : State} {s : State} {p1 : Hit} {p2 : Nat} {p3 : Nat} (h : Keeps M s0 s) : Keeps M s0 (State.writePwm s p1 p2 p3) := by
  unfold State.writePwm
  extract_lets -merge -useContext -underBinder v0 v1
  try clear_value v0
  try clear_value v1
  refine ite_of (P := Keeps M s0) ?_ ?_
  ·
    refine (keeps_State_writeStaged (sub_trans rfl hM)) ?_
    exact h
  ·
    refine ite_of (P := Keeps M s0) ?_ ?_
    ·
      refine ite_of (P := Keeps M s0) ?_ ?_
      ·
        refine (keeps_State_tripRewatch (sub_trans rfl hM)) ?_
        refine (keeps_State_store (sub_trans rfl hM)) ?_
        exact h
      ·
        exact h
    ·
      refine ite_of (P := Keeps M s0) ?_ ?_
      ·
        refine (keeps_State_pwmCommitWrite (sub_trans rfl hM)) ?_
        exact h
      ·
        refine ite_of (P := Keeps M s0) ?_ ?_
        ·
          refine (keeps_State_onBit (sub_trans rfl hM)) ?_ ?_
          ·
            refine (keeps_State_onBit (sub_trans rfl hM)) ?_ ?_
            ·
              refine (keeps_State_onBit (sub_trans rfl hM)) ?_ ?_
              ·
                exact h
              · intro x2 h3
                try beta_reduce
                refine (keeps_State_pwmClrCnt (sub_trans rfl hM)) ?_
                exact h3
            · intro x4 h5
              try beta_reduce
              refine (keeps_State_pwmClrFlags (sub_trans rfl hM)) ?_
              exact h5
          · intro x6 h7
            try beta_reduce
            refine (keeps_State_pwmTclr (sub_trans rfl hM)) ?_
            exact h7
        ·
          refine (keeps_State_store (sub_trans rfl hM)) ?_
          exact h

theorem keeps_State_writePwmx {M : Nat} (hM : Nat.land 8589934593 M = 8589934593) {s0 : State} {s : State} {p1 : Hit} {p2 : Nat} {p3 : Nat} (h : Keeps M s0 s) : Keeps M s0 (State.writePwmx s p1 p2 p3) := by
  unfold State.writePwmx
  extract_lets -merge -useContext -underBinder v0
  try clear_value v0
  refine ite_of (P := Keeps M s0) ?_ ?_
  ·
    refine ite_of (P := Keeps M s0) ?_ ?_
    ·
      exact h
    ·
      refine (keeps_State_pwmDrive (sub_trans rfl hM)) ?_
      refine (keeps_State_store (sub_trans rfl hM)) ?_
      exact h
  ·
    refine ite_of (P := Keeps M s0) ?_ ?_
    ·
      refine ite_of (P := Keeps M s0) ?_ ?_
      ·
        refine (keeps_State_writeStaged (sub_trans rfl hM)) ?_
        exact h
      ·
        exact h
    ·
      refine ite_of (P := Keeps M s0) ?_ ?_
      ·
        refine (keeps_State_writeStaged (sub_trans rfl hM)) ?_
        exact h
      ·
        refine ite_of (P := Keeps M s0) ?_ ?_
        ·
          refine (keeps_State_onBit (sub_trans rfl hM)) ?_ ?_
          ·
            exact h
          · intro x1 h2
            try beta_reduce
            refine (keeps_State_auxCommit (sub_trans rfl hM)) ?_
            exact h2
        ·
          refine ite_of (P := Keeps M s0) ?_ ?_
          ·
            refine (keeps_State_onBit (sub_trans rfl hM)) ?_ ?_
            ·
              exact h
            · intro x3 h4
              try beta_reduce
              refine (keeps_State_auxClrFlags (sub_trans rfl hM)) ?_
              exact h4
          ·
            refine (keeps_State_store (sub_trans rfl hM)) ?_
            exact h

theorem keeps_State_writeRc {M : Nat} (hM : Nat.land 524289 M = 524289) {s0 : State} {s : State} {p1 : Hit} {p2 : Nat} {p3 : Nat} (h : Keeps M s0 s) : Keeps M s0 (State.writeRc s p1 p2 p3) := by
  unfold State.writeRc
  extract_lets -merge -useContext -underBinder v0 v1 v2 v3
  try clear_value v0
  have h4 : Keeps M s0 v1 := by
    unfold v1
    refine (keeps_State_store (sub_trans rfl hM)) ?_
    exact h
  try clear_value v1
  have h5 : Keeps M s0 v2 := by
    unfold v2
    refine ite_of (P := Keeps M s0) ?_ ?_
    ·
      refine ite_of (P := Keeps M s0) ?_ ?_
      ·
        refine (keeps_State_modRc (sub_trans rfl hM)) ?_
        refine (keeps_State_clrf (sub_trans rfl hM)) ?_
        exact h4
      ·
        exact h4
    ·
      exact h
  try clear_value v2
  have h6 : Keeps M s0 v3 := by
    unfold v3
    refine (keeps_State_store (sub_trans rfl hM)) ?_
    exact h
  try clear_value v3
  refine ite_of (P := Keeps M s0) ?_ ?_
  ·
    refine (keeps_State_onBit (sub_trans rfl hM)) ?_ ?_
    ·
      exact h5
    · intro x7 h8
      try beta_reduce
      refine (keeps_State_regClrTgt (sub_trans rfl hM)) ?_
      exact h8
  ·
    refine ite_of (P := Keeps M s0) ?_ ?_
    ·
      refine (keeps_State_store (sub_trans rfl hM)) ?_
      exact h
    ·
      refine ite_of (P := Keeps M s0) ?_ ?_
      ·
        refine (keeps_State_store (sub_trans rfl hM)) ?_
        exact h
      ·
        refine ite_of (P := Keeps M s0) ?_ ?_
        ·
          refine ite_of (P := Keeps M s0) ?_ ?_
          ·
            refine (keeps_State_regTarget (sub_trans rfl hM)) ?_
            exact h6
          ·
            exact h6
        ·
          refine (keeps_State_store (sub_trans rfl hM)) ?_
          exact h

theorem keeps_State_writeRing {M : Nat} (hM : Nat.land 36028797254907905 M = 36028797254907905) {s0 : State} {s : State} {p1 : Bool} {p2 : Hit} {p3 : Nat} {p4 : Nat} (h : Keeps M s0 s) : Keeps M s0 (State.writeRing s p1 p2 p3 p4) := by
  unfold State.writeRing
  extract_lets -merge -useContext -underBinder v0
  try clear_value v0
  refine ite_of (P := Keeps M s0) ?_ ?_
  ·
    refine (keeps_State_ringCfg (sub_trans rfl hM)) ?_
    exact h
  ·
    refine ite_of (P := Keeps M s0) ?_ ?_
    ·
      refine (keeps_State_doorbellRing (sub_trans rfl hM)) ?_
      exact h
    ·
      refine ite_of (P := Keeps M s0) ?_ ?_
      ·
        refine (keeps_State_cqHeadWrite (sub_trans rfl hM)) ?_
        exact h
      ·
        refine ite_of (P := Keeps M s0) ?_ ?_
        ·
          refine ite_of (P := Keeps M s0) ?_ ?_
          ·
            refine (keeps_State_store (sub_trans rfl hM)) ?_
            exact h
          ·
            exact h
        ·
          refine ite_of (P := Keeps M s0) ?_ ?_
          ·
            refine ite_of (P := Keeps M s0) ?_ ?_
            ·
              refine (keeps_State_store (sub_trans rfl hM)) ?_
              exact h
            ·
              exact h
          ·
            refine (keeps_State_store (sub_trans rfl hM)) ?_
            exact h

theorem keeps_State_writeRm {M : Nat} (hM : Nat.land 351843720888321 M = 351843720888321) {s0 : State} {s : State} {p1 : Hit} {p2 : Nat} {p3 : Nat} (h : Keeps M s0 s) : Keeps M s0 (State.writeRm s p1 p2 p3) := by
  unfold State.writeRm
  split
  ·
    extract_lets -merge -useContext -underBinder v0 v1 v2 v3
    try clear_value v0
    try clear_value v1
    try clear_value v2
    try clear_value v3
    refine (keeps_State_entryWrite (sub_trans rfl hM)) ?_
    exact h
  ·
    extract_lets -merge -useContext -underBinder v4 v5 v6 v7
    try clear_value v4
    try clear_value v5
    try clear_value v6
    try clear_value v7
    refine (keeps_State_entryWrite (sub_trans rfl hM)) ?_
    exact h
  ·
    refine ite_of (P := Keeps M s0) ?_ ?_
    ·
      refine (keeps_State_rmEnable (sub_trans rfl hM)) ?_
      exact h
    ·
      refine ite_of (P := Keeps M s0) ?_ ?_
      ·
        refine ite_of (P := Keeps M s0) ?_ ?_
        ·
          exact h
        ·
          refine (keeps_State_store (sub_trans rfl hM)) ?_
          exact h
      ·
        refine ite_of (P := Keeps M s0) ?_ ?_
        ·
          refine ite_of (P := Keeps M s0) ?_ ?_
          ·
            refine (keeps_State_store (sub_trans rfl hM)) ?_
            exact h
          ·
            exact h
        ·
          refine ite_of (P := Keeps M s0) ?_ ?_
          ·
            extract_lets -merge -useContext -underBinder v8
            have h9 : Keeps M s0 v8 := by
              unfold v8
              refine (keeps_State_store (sub_trans rfl hM)) ?_
              exact h
            try clear_value v8
            refine (keeps_State_onBit (sub_trans rfl hM)) ?_ ?_
            ·
              exact h9
            · intro x10 h11
              try beta_reduce
              refine KP.snd ?_
              refine (keeps_State_epochArm (sub_trans rfl hM)) ?_
              exact h11
          ·
            refine ite_of (P := Keeps M s0) ?_ ?_
            ·
              refine (keeps_State_onBit (sub_trans rfl hM)) ?_ ?_
              ·
                exact h
              · intro x12 h13
                try beta_reduce
                refine (keeps_State_rmClrCnt (sub_trans rfl hM)) ?_
                exact h13
            ·
              refine (keeps_State_store (sub_trans rfl hM)) ?_
              exact h

theorem keeps_State_writeSd {M : Nat} (hM : Nat.land 563018672898049 M = 563018672898049) {s0 : State} {s : State} {p1 : Hit} {p2 : Nat} {p3 : Nat} (h : Keeps M s0 s) : Keeps M s0 (State.writeSd s p1 p2 p3) := by
  unfold State.writeSd
  extract_lets -merge -useContext -underBinder v0 v1 v2 v3 v4
  try clear_value v0
  try clear_value v1
  try clear_value v2
  have h5 : Keeps M s0 v3 := by
    unfold v3
    refine (keeps_State_store (sub_trans rfl hM)) ?_
    refine Keeps.forEach ?_ ?_
    ·
      exact h
    · intro t6 x7 h8
      beta_reduce
      refine (keeps_State_sdHold (sub_trans rfl hM)) ?_
      exact h8
  try clear_value v3
  try clear_value v4
  refine ite_of (P := Keeps M s0) ?_ ?_
  ·
    refine Keeps.forEach ?_ ?_
    ·
      refine ite_of (P := Keeps M s0) ?_ ?_
      ·
        refine Keeps.up_tw (sub_trans rfl hM) ?_
        exact h5
      ·
        exact h5
    · intro t9 x10 h11
      beta_reduce
      refine (keeps_State_sdEnable (sub_trans rfl hM)) ?_
      exact h11
  ·
    refine ite_of (P := Keeps M s0) ?_ ?_
    ·
      refine (keeps_State_sdEnable (sub_trans rfl hM)) ?_
      refine (keeps_State_store (sub_trans rfl hM)) ?_
      exact h
    ·
      refine ite_of (P := Keeps M s0) ?_ ?_
      ·
        refine (keeps_State_store (sub_trans rfl hM)) ?_
        exact h
      ·
        refine (keeps_State_store (sub_trans rfl hM)) ?_
        exact h

theorem keeps_State_writeSlot {M : Nat} (hM : Nat.land 137438953473 M = 137438953473) {s0 : State} {s : State} {p1 : Hit} {p2 : Nat} {p3 : Nat} (h : Keeps M s0 s) : Keeps M s0 (State.writeSlot s p1 p2 p3) := by
  unfold State.writeSlot
  extract_lets -merge -useContext -underBinder v0
  try clear_value v0
  refine ite_of (P := Keeps M s0) ?_ ?_
  ·
    refine ite_of (P := Keeps M s0) ?_ ?_
    ·
      refine (keeps_State_cleLatClr (sub_trans rfl hM)) ?_
      exact h
    ·
      exact h
  ·
    refine ite_of (P := Keeps M s0) ?_ ?_
    ·
      refine ite_of (P := Keeps M s0) ?_ ?_
      ·
        refine (keeps_State_store (sub_trans rfl hM)) ?_
        exact h
      ·
        exact h
    ·
      refine ite_of (P := Keeps M s0) ?_ ?_
      ·
        refine (keeps_State_onBit (sub_trans rfl hM)) ?_ ?_
        ·
          refine (keeps_State_onBit (sub_trans rfl hM)) ?_ ?_
          ·
            refine (keeps_State_onBit (sub_trans rfl hM)) ?_ ?_
            ·
              exact h
            · intro x1 h2
              try beta_reduce
              refine (keeps_State_cleClrCnt (sub_trans rfl hM)) ?_
              exact h2
          · intro x3 h4
            try beta_reduce
            refine (keeps_State_cleClrFlags (sub_trans rfl hM)) ?_
            exact h4
        · intro x5 h6
          try beta_reduce
          refine (keeps_State_cleBswap (sub_trans rfl hM)) ?_
          exact h6
      ·
        refine (keeps_State_store (sub_trans rfl hM)) ?_
        exact h

theorem keeps_State_writeSys {M : Nat} (hM : Nat.land 144115188075855871 M = 144115188075855871) {s0 : State} {s : State} {p1 : Hit} {p2 : Nat} {p3 : Nat} (h : Keeps M s0 s) : Keeps M s0 (State.writeSys s p1 p2 p3) := by
  unfold State.writeSys
  refine ite_of (P := Keeps M s0) ?_ ?_
  ·
    refine (keeps_State_sysClk (sub_trans rfl hM)) ?_
    exact h
  ·
    refine ite_of (P := Keeps M s0) ?_ ?_
    ·
      refine ite_of (P := Keeps M s0) ?_ ?_
      ·
        refine (keeps_State_wrN (sub_trans rfl hM)) ?_
        exact h
      ·
        exact h
    ·
      refine ite_of (P := Keeps M s0) ?_ ?_
      ·
        refine ite_of (P := Keeps M s0) ?_ ?_
        ·
          refine Keeps.up_groom (sub_trans rfl hM) ?_
          exact h
        ·
          exact h
      ·
        refine ite_of (P := Keeps M s0) ?_ ?_
        ·
          refine (keeps_State_sysReset (sub_trans rfl hM)) ?_
          exact h
        ·
          refine (keeps_State_store (sub_trans rfl hM)) ?_
          exact h

theorem keeps_State_writeTb {M : Nat} (hM : Nat.land 8193 M = 8193) {s0 : State} {s : State} {p1 : Hit} {p2 : Nat} {p3 : Nat} (h : Keeps M s0 s) : Keeps M s0 (State.writeTb s p1 p2 p3) := by
  unfold State.writeTb
  extract_lets -merge -useContext -underBinder v0 v1
  have h2 : Keeps M s0 v0 := by
    unfold v0
    refine (keeps_State_store (sub_trans rfl hM)) ?_
    exact h
  try clear_value v0
  try clear_value v1
  refine ite_of (P := Keeps M s0) ?_ ?_
  ·
    refine Keeps.up_time (sub_trans rfl hM) ?_
    exact h2
  ·
    exact h2

theorem keeps_State_writeToken {M : Nat} (hM : Nat.land 146263777281 M = 146263777281) {s0 : State} {s : State} {p1 : Hit} {p2 : Nat} {p3 : Nat} (h : Keeps M s0 s) : Keeps M s0 (State.writeToken s p1 p2 p3) := by
  unfold State.writeToken
  extract_lets -merge -useContext -underBinder v0 v1
  try clear_value v0
  have h2 : Keeps M s0 v1 := by
    unfold v1
    refine (keeps_State_store (sub_trans rfl hM)) ?_
    exact h
  try clear_value v1
  refine ite_of (P := Keeps M s0) ?_ ?_
  ·
    refine (keeps_State_onBit (sub_trans rfl hM)) ?_ ?_
    ·
      refine (keeps_State_onBit (sub_trans rfl hM)) ?_ ?_
      ·
        exact h2
      · intro x3 h4
        try beta_reduce
        refine (keeps_State_tokenCancel (sub_trans rfl hM)) ?_
        exact h4
    · intro x5 h6
      try beta_reduce
      refine (keeps_State_tokenArm (sub_trans rfl hM)) ?_
      exact h6
  ·
    exact h2

theorem keeps_State_writeTw {M : Nat} (hM : Nat.land 1 M = 1) {s0 : State} {s : State} {p1 : Hit} {p2 : Nat} {p3 : Nat} (h : Keeps M s0 s) : Keeps M s0 (State.writeTw s p1 p2 p3) := by
  unfold State.writeTw
  refine ite_of (P := Keeps M s0) ?_ ?_
  ·
    refine (keeps_State_onBit (sub_trans rfl hM)) ?_ ?_
    ·
      refine (keeps_State_store (sub_trans rfl hM)) ?_
      exact h
    · intro x0 h1
      try beta_reduce
      refine KP.snd ?_
      refine (keeps_State_handoverGo (sub_trans rfl hM)) ?_
      exact h1
  ·
    refine ite_of (P := Keeps M s0) ?_ ?_
    ·
      refine (keeps_State_onBit (sub_trans rfl hM)) ?_ ?_
      ·
        refine (keeps_State_onBit (sub_trans rfl hM)) ?_ ?_
        ·
          exact h
        · intro x2 h3
          try beta_reduce
          refine (keeps_State_twClrCnt (sub_trans rfl hM)) ?_
          exact h3
      · intro x4 h5
        try beta_reduce
        refine (keeps_State_twClrFlags (sub_trans rfl hM)) ?_
        exact h5
    ·
      refine (keeps_State_store (sub_trans rfl hM)) ?_
      exact h

theorem keeps_State_regApply {M : Nat} (hM : Nat.land 144115188075855871 M = 144115188075855871) {s0 : State} {s : State} {p1 : Bool} {p2 : Hit} {p3 : Nat} {p4 : Nat} (h : Keeps M s0 s) : Keeps M s0 (State.regApply s p1 p2 p3 p4) := by
  unfold State.regApply
  split
  ·
    refine (keeps_State_writeSys (sub_trans rfl hM)) ?_
    exact h
  ·
    refine (keeps_State_writeSys (sub_trans rfl hM)) ?_
    exact h
  ·
    refine (keeps_State_writeTb (sub_trans rfl hM)) ?_
    exact h
  ·
    refine (keeps_State_writeToken (sub_trans rfl hM)) ?_
    exact h
  ·
    refine (keeps_State_writePort (sub_trans rfl hM)) ?_
    exact h
  ·
    refine (keeps_State_writeAx (sub_trans rfl hM)) ?_
    exact h
  ·
    refine (keeps_State_writeLs (sub_trans rfl hM)) ?_
    exact h
  ·
    refine (keeps_State_writeGrp (sub_trans rfl hM)) ?_
    exact h
  ·
    refine (keeps_State_writeLi (sub_trans rfl hM)) ?_
    exact h
  ·
    refine (keeps_State_writeCo (sub_trans rfl hM)) ?_
    exact h
  ·
    refine (keeps_State_writeRc (sub_trans rfl hM)) ?_
    exact h
  ·
    refine (keeps_State_writeAxl (sub_trans rfl hM)) ?_
    exact h
  ·
    refine (keeps_State_writeInj (sub_trans rfl hM)) ?_
    exact h
  ·
    refine (keeps_State_writeSd (sub_trans rfl hM)) ?_
    exact h
  ·
    refine (keeps_State_writeSd (sub_trans rfl hM)) ?_
    exact h
  ·
    refine (keeps_State_writeSlot (sub_trans rfl hM)) ?_
    exact h
  ·
    refine (keeps_State_writeSlot (sub_trans rfl hM)) ?_
    exact h
  ·
    refine (keeps_State_writePwm (sub_trans rfl hM)) ?_
    exact h
  ·
    refine (keeps_State_writePwmx (sub_trans rfl hM)) ?_
    exact h
  ·
    refine (keeps_State_writeGtrip (sub_trans rfl hM)) ?_
    exact h
  ·
    refine (keeps_State_writeLp (sub_trans rfl hM)) ?_
    exact h
  ·
    refine (keeps_State_writeNet (sub_trans rfl hM)) ?_
    exact h
  ·
    refine (keeps_State_writeNet (sub_trans rfl hM)) ?_
    exact h
  ·
    refine (keeps_State_writeNet (sub_trans rfl hM)) ?_
    exact h
  ·
    refine (keeps_State_writeRm (sub_trans rfl hM)) ?_
    exact h
  ·
    refine (keeps_State_writeRm (sub_trans rfl hM)) ?_
    exact h
  ·
    refine (keeps_State_writeRm (sub_trans rfl hM)) ?_
    exact h
  ·
    refine (keeps_State_writeTw (sub_trans rfl hM)) ?_
    exact h
  ·
    refine (keeps_State_writeIo (sub_trans rfl hM)) ?_
    exact h
  ·
    refine (keeps_State_writeIo (sub_trans rfl hM)) ?_
    exact h
  ·
    refine (keeps_State_writeIo (sub_trans rfl hM)) ?_
    exact h
  ·
    refine (keeps_State_writeIo (sub_trans rfl hM)) ?_
    exact h
  ·
    refine (keeps_State_writeCan (sub_trans rfl hM)) ?_
    exact h
  ·
    refine (keeps_State_writeCan (sub_trans rfl hM)) ?_
    exact h
  ·
    refine (keeps_State_writeRing (sub_trans rfl hM)) ?_
    exact h
  ·
    refine (keeps_State_writeHost (sub_trans rfl hM)) ?_
    exact h
  ·
    refine (keeps_State_writeHost (sub_trans rfl hM)) ?_
    exact h
  ·
    refine (keeps_State_writeCu (sub_trans rfl hM)) ?_
    exact h
  ·
    refine (keeps_State_writeCu (sub_trans rfl hM)) ?_
    exact h
  ·
    refine (keeps_State_writeLogSec (sub_trans rfl hM)) ?_
    exact h
  ·
    refine (keeps_State_writeLogSec (sub_trans rfl hM)) ?_
    exact h
  ·
    refine (keeps_State_store (sub_trans rfl hM)) ?_
    refine ite_of (P := Keeps M s0) ?_ ?_
    ·
      refine (keeps_State_cleKeep (sub_trans rfl hM)) ?_
      exact h
    ·
      exact h
  ·
    refine (keeps_State_store (sub_trans rfl hM)) ?_
    exact h
  ·
    refine (keeps_State_store (sub_trans rfl hM)) ?_
    exact h
  ·
    refine (keeps_State_store (sub_trans rfl hM)) ?_
    exact h
  ·
    refine (keeps_State_store (sub_trans rfl hM)) ?_
    exact h
  ·
    refine (keeps_State_store (sub_trans rfl hM)) ?_
    exact h
  ·
    refine (keeps_State_store (sub_trans rfl hM)) ?_
    exact h
  ·
    refine (keeps_State_store (sub_trans rfl hM)) ?_
    exact h
  ·
    refine (keeps_State_store (sub_trans rfl hM)) ?_
    exact h
  ·
    refine (keeps_State_store (sub_trans rfl hM)) ?_
    exact h
  ·
    refine (keeps_State_store (sub_trans rfl hM)) ?_
    exact h
  ·
    refine (keeps_State_store (sub_trans rfl hM)) ?_
    exact h
  ·
    refine (keeps_State_store (sub_trans rfl hM)) ?_
    exact h

theorem keeps_State_wordWrite {M : Nat} (hM : Nat.land 144115188075855871 M = 144115188075855871) {s0 : State} {s : State} {p1 : Nat} {p2 : Hit} {p3 : Nat} {p4 : Word} (h : Keeps M s0 s) : Keeps M s0 (State.wordWrite s p1 p2 p3 p4) := by
  unfold State.wordWrite
  extract_lets -merge -useContext -underBinder v0
  try clear_value v0
  refine ite_of (P := Keeps M s0) ?_ ?_
  ·
    refine (keeps_State_regApply (sub_trans rfl hM)) ?_
    exact h
  ·
    refine ite_of (P := Keeps M s0) ?_ ?_
    ·
      refine (keeps_State_modReq (sub_trans rfl hM)) ?_
      exact h
    ·
      split
      ·
        refine ite_of (P := Keeps M s0) ?_ ?_
        ·
          refine (keeps_State_regApply (sub_trans rfl hM)) ?_
          refine (keeps_State_modReq (sub_trans rfl hM)) ?_
          exact h
        ·
          refine (keeps_State_regApply (sub_trans rfl hM)) ?_
          exact h
      ·
        refine (keeps_State_regApply (sub_trans rfl hM)) ?_
        exact h

theorem keeps_State_bar0Write {M : Nat} (hM : Nat.land 144115188075855871 M = 144115188075855871) {s0 : State} {s : State} {p1 : Nat} {p2 : Nat} {p3 : Word} (h : Keeps M s0 s) : KO M s0 (State.bar0Write s p1 p2 p3) := by
  unfold State.bar0Write
  refine ite_of (P := KO M s0) ?_ ?_
  ·
    refine KO.some ?_
    exact h
  ·
    refine ite_of (P := KO M s0) ?_ ?_
    ·
      refine KO.some ?_
      refine (keeps_State_badAcc (sub_trans rfl hM)) ?_
      exact h
    ·
      split
      ·
        refine ite_of (P := KO M s0) ?_ ?_
        ·
          refine KO.some ?_
          refine (keeps_State_badAcc (sub_trans rfl hM)) ?_
          exact h
        ·
          refine ite_of (P := KO M s0) ?_ ?_
          ·
            exact KO.none
          ·
            refine KO.some ?_
            refine (keeps_State_wordWrite (sub_trans rfl hM)) ?_
            exact h
      ·
        split
        ·
          refine KO.some ?_
          refine ite_of (P := Keeps M s0) ?_ ?_
          ·
            refine (keeps_State_regionWrite (sub_trans rfl hM)) ?_
            exact h
          ·
            refine (keeps_State_badAcc (sub_trans rfl hM)) ?_
            exact h
        ·
          refine KO.some ?_
          refine (keeps_State_badAcc (sub_trans rfl hM)) ?_
          exact h
      ·
        refine KO.some ?_
        refine (keeps_State_badAcc (sub_trans rfl hM)) ?_
        exact h

theorem keeps_State_regionRead {M : Nat} (hM : Nat.land 29686813949953 M = 29686813949953) {s0 : State} {s : State} {p1 : Nat} {p2 : Region} (h : Keeps M s0 s) : KP M s0 (State.regionRead s p1 p2) := by
  unfold State.regionRead
  split
  ·
    refine (keeps_State_winRead (sub_trans rfl hM)) ?_
    exact h
  ·
    refine KP.mk ?_
    exact h
  ·
    refine KP.mk ?_
    exact h
  ·
    refine KP.mk ?_
    exact h
  ·
    refine KP.mk ?_
    exact h

theorem keeps_State_bar0Read {M : Nat} (hM : Nat.land 100330436067329 M = 100330436067329) {s0 : State} {s : State} {p1 : Nat} {p2 : Nat} (h : Keeps M s0 s) : KP M s0 (State.bar0Read s p1 p2) := by
  unfold State.bar0Read
  refine ite_of (P := KP M s0) ?_ ?_
  ·
    refine KP.mk ?_
    exact h
  ·
    refine ite_of (P := KP M s0) ?_ ?_
    ·
      refine KP.mk ?_
      refine (keeps_State_badAcc (sub_trans rfl hM)) ?_
      exact h
    ·
      split
      ·
        refine ite_of (P := KP M s0) ?_ ?_
        ·
          extract_lets -merge -useContext -underBinder v0
          try clear_value v0
          refine KP.mk ?_
          refine ite_of (P := Keeps M s0) ?_ ?_
          ·
            refine (keeps_State_ntNsRead (sub_trans rfl hM)) ?_
            exact h
          ·
            exact h
        ·
          refine ite_of (P := KP M s0) ?_ ?_
          ·
            extract_lets -merge -useContext -underBinder v1
            try clear_value v1
            refine KP.mk ?_
            refine (keeps_State_modReq (sub_trans rfl hM)) ?_
            exact h
          ·
            split
            ·
              refine ite_of (P := KP M s0) ?_ ?_
              ·
                refine KP.mk ?_
                exact h
              ·
                refine KP.mk ?_
                exact h
            ·
              refine KP.mk ?_
              exact h
      ·
        refine (keeps_State_regionRead (sub_trans rfl hM)) ?_
        exact h
      ·
        refine KP.mk ?_
        refine (keeps_State_badAcc (sub_trans rfl hM)) ?_
        exact h

theorem keeps_State_hqWord {M : Nat} (hM : Nat.land 100330436067329 M = 100330436067329) {s0 : State} {s : State} {p1 : Nat} (h : Keeps M s0 s) : KP M s0 (State.hqWord s p1) := by
  unfold State.hqWord
  refine ite_of (P := KP M s0) ?_ ?_
  ·
    split
    ·
      rename_i t0 q2
      have h1 : Keeps M s0 t0 := by
        refine KP.out q2 ?_
        refine (keeps_State_bar0Read (sub_trans rfl hM)) ?_
        exact h
      refine KP.mk ?_
      exact h1
  ·
    refine ite_of (P := KP M s0) ?_ ?_
    ·
      refine KP.mk ?_
      exact h
    ·
      refine KP.mk ?_
      exact h

theorem keeps_State_hqReadN {M : Nat} (hM : Nat.land 36129127455031297 M = 36129127455031297) {s0 : State} {k : Nat} : ∀ {s : State} {a : Nat}, Keeps M s0 s → Keeps M s0 (s.hqReadN a k) := by
  induction k with
  | zero => intro s a h; exact h
  | succ k ih =>
    intro s a h
    unfold State.hqReadN
    split
    rename_i t q
    have h1 : Keeps M s0 t := KP.out q ((keeps_State_hqWord (sub_trans rfl hM)) h)
    exact ih ((keeps_State_modHost (sub_trans rfl hM)) (Keeps.up_rdata (sub_trans rfl hM) h1))

theorem keeps_State_badAccClr {M : Nat} (hM : Nat.land 1 M = 1) {s0 : State} {s : State} {p1 : Nat} (h : Keeps M s0 s) : Keeps M s0 (State.badAccClr s p1) := by
  unfold State.badAccClr
  refine ite_of (P := Keeps M s0) ?_ ?_
  ·
    exact h
  ·
    refine ite_of (P := Keeps M s0) ?_ ?_
    ·
      refine (keeps_State_wrN (sub_trans rfl hM)) ?_
      exact h
    ·
      refine (keeps_State_badAcc (sub_trans rfl hM)) ?_
      exact h

theorem keeps_State_unmappedRow {M : Nat} (hM : Nat.land 274877906945 M = 274877906945) {s0 : State} {s : State} {p1 : Nat} {p2 : Bool} {p3 : Bool} (h : Keeps M s0 s) : Keeps M s0 (State.unmappedRow s p1 p2 p3) := by
  unfold State.unmappedRow
  refine ite_of (P := Keeps M s0) ?_ ?_
  ·
    exact h
  ·
    refine ite_of (P := Keeps M s0) ?_ ?_
    ·
      refine (keeps_State_badAcc (sub_trans rfl hM)) ?_
      exact h
    ·
      extract_lets -merge -useContext -underBinder v0
      have h1 : Keeps M s0 v0 := by
        unfold v0
        refine (keeps_State_badAcc (sub_trans rfl hM)) ?_
        exact h
      try clear_value v0
      refine Keeps.up_rdata (sub_trans rfl hM) ?_
      exact h1

theorem keeps_State_bar0ReadRow {M : Nat} (hM : Nat.land 100330436067329 M = 100330436067329) {s0 : State} {s : State} {p1 : Nat} {p2 : Nat} (h : Keeps M s0 s) : Keeps M s0 (State.bar0ReadRow s p1 p2) := by
  unfold State.bar0ReadRow
  split
  ·
    rename_i t0 q2
    have h1 : Keeps M s0 t0 := by
      refine KP.out q2 ?_
      refine (keeps_State_bar0Read (sub_trans rfl hM)) ?_
      exact h
    refine Keeps.up_rdata (sub_trans rfl hM) ?_
    exact h1
  ·
    rename_i t3 q5
    have h4 : Keeps M s0 t3 := by
      refine KP.out q5 ?_
      refine (keeps_State_bar0Read (sub_trans rfl hM)) ?_
      exact h
    exact h4

theorem keeps_State_readLow {M : Nat} (hM : Nat.land 100330436067329 M = 100330436067329) {s0 : State} {s : State} {p1 : Nat} {p2 : Nat} (h : Keeps M s0 s) : Keeps M s0 (State.readLow s p1 p2) := by
  unfold State.readLow
  refine ite_of (P := Keeps M s0) ?_ ?_
  ·
    exact h
  ·
    refine (keeps_State_bar0ReadRow (sub_trans rfl hM)) ?_
    exact h

theorem keeps_writeRow {M : Nat} (hM : Nat.land 144115188075855871 M = 144115188075855871) {s0 : State} {s : State} {p1 : Nat} {p2 : Nat} {p3 : Word} {p4 : Bool} (h : Keeps M s0 s) : KX M s0 (writeRow s p1 p2 p3 p4) := by
  unfold writeRow
  refine ite_of (P := KX M s0) ?_ ?_
  ·
    refine KX.next ?_
    exact h
  ·
    split
    ·
      rename_i t0 q2
      have h1 : Keeps M s0 t0 := by
        refine KO.out q2 ?_
        refine (keeps_State_bar0Write (sub_trans rfl hM)) ?_
        exact h
      refine KX.next ?_
      exact h1
    ·
      exact KX.none (fun _ h => by cases h)

theorem keeps_State_hqReadRow {M : Nat} (hM : Nat.land 36129127455031297 M = 36129127455031297) {s0 : State} {s : State} {p1 : Nat} {p2 : Nat} (h : Keeps M s0 s) : Keeps M s0 (State.hqReadRow s p1 p2) := by
  unfold State.hqReadRow
  refine (keeps_State_hqReadN (sub_trans rfl hM)) ?_
  refine (keeps_State_modHost (sub_trans rfl hM)) ?_
  exact h

theorem keeps_State_hqWriteN {M : Nat} (hM : Nat.land 144115188075855871 M = 144115188075855871) {s0 : State} {ws : List Word} : ∀ {s : State} {a : Nat}, Keeps M s0 s → KO M s0 (s.hqWriteN a ws) := by
  induction ws with
  | nil => intro s a h; exact KO.some h
  | cons w ws ih =>
    intro s a h
    unfold State.hqWriteN
    refine ite_of (P := KO M s0) ?_ ?_
    · split
      · rename_i t q
        exact ih ((keeps_State_modHost (sub_trans rfl hM)) (KO.out q ((keeps_State_bar0Write (sub_trans rfl hM)) h)))
      · exact KO.none
    · extract_lets -merge -useContext -underBinder v1
      have h1 : Keeps M s0 v1 := ite_of (P := Keeps M s0) ((keeps_State_dramPut (sub_trans rfl hM)) h) h
      exact ih ((keeps_State_modHost (sub_trans rfl hM)) h1)

theorem keeps_hqWriteRow {M : Nat} (hM : Nat.land 144115188075855871 M = 144115188075855871) {s0 : State} {s : State} {p1 : Nat} {p2 : List Word} (h : Keeps M s0 s) : KX M s0 (hqWriteRow s p1 p2) := by
  unfold hqWriteRow
  split
  ·
    rename_i t0 q2
    have h1 : Keeps M s0 t0 := by
      refine KO.out q2 ?_
      refine (keeps_State_hqWriteN (sub_trans rfl hM)) ?_
      exact h
    refine KX.next ?_
    exact h1
  ·
    exact KX.none (fun _ h => by cases h)

theorem keeps_State_hqStatus {M : Nat} (hM : Nat.land 274877906944 M = 274877906944) {s0 : State} {s : State} (h : Keeps M s0 s) : Keeps M s0 (State.hqStatus s) := by
  unfold State.hqStatus
  refine Keeps.up_rdata (sub_trans rfl hM) ?_
  exact h

theorem keeps_hostWord {M : Nat} (hM : Nat.land 1 M = 1) {s0 : State} {s : State} {p1 : Nat} {p2 : Nat} {p3 : State → State} (h : Keeps M s0 s) (hf0 : ∀ x0, Keeps M s0 x0 → Keeps M s0 (p3 x0)) : KX M s0 (hostWord s p1 p2 p3) := by
  unfold hostWord
  refine ite_of (P := KX M s0) ?_ ?_
  ·
    refine KX.next ?_
    exact h
  ·
    refine ite_of (P := KX M s0) ?_ ?_
    ·
      refine KX.next ?_
      refine (keeps_State_badAcc (sub_trans rfl hM)) ?_
      exact h
    ·
      split
      ·
        refine ite_of (P := KX M s0) ?_ ?_
        ·
          exact KX.none (fun _ h => by cases h)
        ·
          refine KX.next ?_
          refine hf0 _ ?_
          exact h
      ·
        refine KX.next ?_
        refine hf0 _ ?_
        exact h

theorem keeps_State_regStore {M : Nat} (hM : Nat.land 144115188075855871 M = 144115188075855871) {s0 : State} {s : State} {p1 : Nat} {p2 : Nat} (h : Keeps M s0 s) : Keeps M s0 (State.regStore s p1 p2) := by
  unfold State.regStore
  split
  ·
    refine (keeps_State_regApply (sub_trans rfl hM)) ?_
    exact h
  ·
    exact h

theorem keeps_State_hostCmd {M : Nat} (hM : Nat.land 1 M = 1) {s0 : State} {s : State} {p1 : Nat} {p2 : State → State} (h : Keeps M s0 s) (hf0 : ∀ x0, Keeps M s0 x0 → Keeps M s0 (p2 x0)) : Keeps M s0 (State.hostCmd s p1 p2) := by
  unfold State.hostCmd
  refine ite_of (P := Keeps M s0) ?_ ?_
  ·
    exact h
  ·
    refine ite_of (P := Keeps M s0) ?_ ?_
    ·
      refine hf0 _ ?_
      exact h
    ·
      refine (keeps_State_badAcc (sub_trans rfl hM)) ?_
      exact h

theorem keeps_State_readHigh {M : Nat} (hM : Nat.land 100330436067329 M = 100330436067329) {s0 : State} {s : State} {p1 : Nat} {p2 : Nat} (h : Keeps M s0 s) : Keeps M s0 (State.readHigh s p1 p2) := by
  unfold State.readHigh
  refine ite_of (P := Keeps M s0) ?_ ?_
  ·
    refine (keeps_State_bar0ReadRow (sub_trans rfl hM)) ?_
    exact h
  ·
    exact h

end Sys2Proof.Machine
end

