-- ==== Sys2Proof/Laws/KeepImage.lean ====
section
/-! SUPPORT. The operations of Machine/Image.lean keep what `Keeps` says. -/

namespace Sys2Proof.Machine

theorem keeps_State_imageReg {M : Nat} (hM : Nat.land 144115188075855871 M = 144115188075855871) {s0 : State} {s : State} {p1 : Hit} {p2 : Nat} {p3 : Nat} (h : Keeps M s0 s) : KO M s0 (State.imageReg s p1 p2 p3) := by
  unfold State.imageReg
  refine ite_of (P := KO M s0) ?_ ?_
  ·
    refine KO.some ?_
    exact h
  ·
    refine ite_of (P := KO M s0) ?_ ?_
    ·
      exact KO.none
    ·
      extract_lets -merge -useContext -underBinder v0 v1 v2
      have h3 : Keeps M s0 v0 := by
        unfold v0
        refine (keeps_State_regApply (sub_trans rfl hM)) ?_
        exact h
      try clear_value v0
      try clear_value v1
      try clear_value v2
      refine ite_of (P := KO M s0) ?_ ?_
      ·
        refine KO.some ?_
        exact h3
      ·
        exact KO.none

theorem keeps_State_imageSteps {M : Nat} (hM : Nat.land 144115188075855871 M = 144115188075855871) {s0 : State} {l : List (Nat × Nat)} : ∀ {s : State} {o : Nat} {b : List Byte}, Keeps M s0 s →
    KE M s0 (s.imageSteps o l b) := by
  induction l with
  | nil => intro s o b h; exact KE.some h
  | cons p rest ih =>
    obtain ⟨a, k⟩ := p
    intro s o b h
    unfold State.imageSteps
    split
    · exact ite_of (P := KE M s0) (ih h) KE.none
    · split
      · rename_i t q
        exact ih (KO.out q ((keeps_State_imageReg (sub_trans rfl hM)) h))
      · exact KE.none

theorem keeps_State_applyImage {M : Nat} (hM : Nat.land 144115188075855871 M = 144115188075855871) {s0 : State} {s : State} {p1 : List Nat} {p2 : List Byte} (h : Keeps M s0 s) : KE M s0 (State.applyImage s p1 p2) := by
  unfold State.applyImage
  refine (keeps_State_imageSteps (sub_trans rfl hM)) ?_
  exact h

end Sys2Proof.Machine
end

