-- ==== Sys2Proof/Laws/KeepCommand.lean ====
section
/-! SUPPORT. The operations of Machine/Command.lean keep what `Keeps` says. -/

namespace Sys2Proof.Machine

theorem keeps_State_protAxis {M : Nat} (hM : Nat.land 234881024 M = 234881024) {s0 : State} {s : State} {p1 : Req} {p2 : Nat} (h : Keeps M s0 s) : Keeps M s0 (State.protAxis s p1 p2) := by
  unfold State.protAxis
  refine (keeps_State_finish (sub_trans rfl hM)) ?_
  exact h

theorem keeps_State_badPay {M : Nat} (hM : Nat.land 234881024 M = 234881024) {s0 : State} {s : State} {p1 : Req} {p2 : Nat} (h : Keeps M s0 s) : Keeps M s0 (State.badPay s p1 p2) := by
  unfold State.badPay
  refine (keeps_State_finish (sub_trans rfl hM)) ?_
  exact h

theorem keeps_State_startWith {M : Nat} (hM : Nat.land 33554432 M = 33554432) {s0 : State} {s : State} {p1 : Cmd} {p2 : Nat} {p3 : State → Req → Nat → Nat → Option Nat → State} (h : Keeps M s0 s) (hf0 : ∀ x0 x1 x2 x3 x4, Keeps M s0 x0 → Keeps M s0 (p3 x0 x1 x2 x3 x4)) : Keeps M s0 (State.startWith s p1 p2 p3) := by
  unfold State.startWith
  extract_lets -merge -useContext -underBinder v0
  try clear_value v0
  refine ite_of (P := Keeps M s0) ?_ ?_
  ·
    exact h
  ·
    split
    ·
      refine hf0 _ _ _ _ _ ?_
      refine Keeps.up_inflight (sub_trans rfl hM) ?_
      exact h
    ·
      refine ite_of (P := Keeps M s0) ?_ ?_
      ·
        exact h
      ·
        extract_lets -merge -useContext -underBinder v1
        have h2 : Keeps M s0 v1 := by
          unfold v1
          refine Keeps.up_inflight (sub_trans rfl hM) ?_
          exact h
        try clear_value v1
        refine hf0 _ _ _ _ _ ?_
        exact h2

theorem keeps_State_noHamode {M : Nat} (hM : Nat.land 234881024 M = 234881024) {s0 : State} {s : State} {p1 : Req} (h : Keeps M s0 s) : Keeps M s0 (State.noHamode s p1) := by
  unfold State.noHamode
  refine (keeps_State_finish (sub_trans rfl hM)) ?_
  exact h

theorem keeps_State_serveWith {M : Nat} (hM : Nat.land 234881024 M = 234881024) {s0 : State} {s : State} {p1 : Req} {p2 : Nat} {p3 : Nat} {p4 : Option Nat} {p5 : State → Req → State} (h : Keeps M s0 s) (hf0 : ∀ x0 x1, Keeps M s0 x0 → Keeps M s0 (p5 x0 x1)) : Keeps M s0 (State.serveWith s p1 p2 p3 p4 p5) := by
  unfold State.serveWith
  split
  ·
    refine (keeps_State_finish (sub_trans rfl hM)) ?_
    exact h
  ·
    refine ite_of (P := Keeps M s0) ?_ ?_
    ·
      refine (keeps_State_finish (sub_trans rfl hM)) ?_
      exact h
    ·
      refine ite_of (P := Keeps M s0) ?_ ?_
      ·
        refine (keeps_State_finish (sub_trans rfl hM)) ?_
        exact h
      ·
        refine hf0 _ _ ?_
        exact h

theorem keeps_State_command {M : Nat} (hM : Nat.land 234881024 M = 234881024) {s0 : State} {s : State} {p1 : Cmd} {p2 : Nat} {p3 : State → Req → State} (h : Keeps M s0 s) (hf0 : ∀ x0 x1, Keeps M s0 x0 → Keeps M s0 (p3 x0 x1)) : Keeps M s0 (State.command s p1 p2 p3) := by
  unfold State.command
  refine (keeps_State_startWith (sub_trans rfl hM)) ?_ ?_
  ·
    exact h
  · intro x0 x2 x3 x4 x5 h1
    try beta_reduce
    refine (keeps_State_serveWith (sub_trans rfl hM)) ?_ ?_
    ·
      exact h1
    · intro x6 x8 h7
      try beta_reduce
      refine hf0 _ _ ?_
      exact h7

theorem keeps_State_cmdImage {M : Nat} (hM : Nat.land 144115188075855871 M = 144115188075855871) {s0 : State} {s : State} {p1 : Req} (h : Keeps M s0 s) : Keeps M s0 (State.cmdImage s p1) := by
  unfold State.cmdImage
  split
  ·
    rename_i t0 q2
    have h1 : Keeps M s0 t0 := by
      refine KE.out q2 ?_
      refine (keeps_State_applyImage (sub_trans rfl hM)) ?_
      exact h
    refine (keeps_State_finish (sub_trans rfl hM)) ?_
    exact h1
  ·
    refine (keeps_State_badPay (sub_trans rfl hM)) ?_
    exact h

theorem keeps_State_bad {M : Nat} (hM : Nat.land 234881024 M = 234881024) {s0 : State} {s : State} {p1 : Req} {p2 : Nat} (h : Keeps M s0 s) : Keeps M s0 (State.bad s p1 p2) := by
  unfold State.bad
  refine (keeps_State_finish (sub_trans rfl hM)) ?_
  exact h

end Sys2Proof.Machine
end

