-- ==== Sys2Proof/Laws/KeepCmdMotion.lean ====
section
/-! SUPPORT. The operations of Machine/CmdMotion.lean keep what `Keeps` says. -/

namespace Sys2Proof.Machine

theorem keeps_State_cmdLoopParam {M : Nat} (hM : Nat.land 144115188075855871 M = 144115188075855871) {s0 : State} {s : State} {p1 : Req} (h : Keeps M s0 s) : Keeps M s0 (State.cmdLoopParam s p1) := by
  unfold State.cmdLoopParam
  split
  ·
    refine (keeps_State_badPay (sub_trans rfl hM)) ?_
    exact h
  ·
    rename_i t0 q2
    have h1 : Keeps M s0 t0 := by
      refine KE.out q2 ?_
      refine (keeps_State_applyImage (sub_trans rfl hM)) ?_
      exact h
    refine ite_of (P := Keeps M s0) ?_ ?_
    ·
      refine (keeps_State_await (sub_trans rfl hM)) ?_
      refine (keeps_State_loopApply (sub_trans rfl hM)) ?_
      exact h1
    ·
      refine (keeps_State_finish (sub_trans rfl hM)) ?_
      exact h1

theorem keeps_State_scheduleAt {M : Nat} (hM : Nat.land 1 M = 1) {s0 : State} {s : State} {p1 : Nat} {p2 : Bool} {p3 : Bool} {p4 : Nat} (h : Keeps M s0 s) : Keeps M s0 (State.scheduleAt s p1 p2 p3 p4) := by
  unfold State.scheduleAt
  refine ite_of (P := Keeps M s0) ?_ ?_
  ·
    refine (keeps_State_putB (sub_trans rfl hM)) ?_
    refine (keeps_State_wr64N (sub_trans rfl hM)) ?_
    exact h
  ·
    exact h

theorem keeps_State_cmdGear {M : Nat} (hM : Nat.land 235929601 M = 235929601) {s0 : State} {s : State} {p1 : Req} (h : Keeps M s0 s) : Keeps M s0 (State.cmdGear s p1) := by
  unfold State.cmdGear
  extract_lets -merge -useContext -underBinder v0
  try clear_value v0
  refine ite_of (P := Keeps M s0) ?_ ?_
  ·
    refine (keeps_State_protAxis (sub_trans rfl hM)) ?_
    exact h
  ·
    refine (keeps_State_requestChange (sub_trans rfl hM)) ?_
    refine (keeps_State_scheduleAt (sub_trans rfl hM)) ?_
    exact h

theorem keeps_State_pathMove {M : Nat} (hM : Nat.land 234881024 M = 234881024) {s0 : State} {s : State} {p1 : Req} {p2 : State → List Int → State} (h : Keeps M s0 s) (hf0 : ∀ x0 x1, Keeps M s0 x0 → Keeps M s0 (p2 x0 x1)) : Keeps M s0 (State.pathMove s p1 p2) := by
  unfold State.pathMove
  split
  ·
    refine (keeps_State_badPay (sub_trans rfl hM)) ?_
    exact h
  ·
    refine (keeps_State_protAxis (sub_trans rfl hM)) ?_
    exact h
  ·
    refine hf0 _ _ ?_
    exact h

theorem keeps_State_tableSteps {M : Nat} (hM : Nat.land 1 M = 1) {s0 : State} {pub : Bool} {k : Nat} : ∀ {s : State} {i o : Nat} {b : List Byte}, Keeps M s0 s →
    KE M s0 (s.tableSteps pub k i o b) := by
  induction k with
  | zero => intro s i o b h; exact KE.some h
  | succ k ih =>
    intro s i o b h
    unfold State.tableSteps
    extract_lets -merge -useContext -underBinder v1 v2 v3 v4
    exact ite_of (P := KE M s0) (ih ((keeps_State_entryWrite (sub_trans rfl hM)) h)) KE.none

theorem keeps_State_cmdRamauxTable {M : Nat} (hM : Nat.land 234881025 M = 234881025) {s0 : State} {s : State} {p1 : Req} (h : Keeps M s0 s) : Keeps M s0 (State.cmdRamauxTable s p1) := by
  unfold State.cmdRamauxTable
  split
  ·
    rename_i t0 q2
    have h1 : Keeps M s0 t0 := by
      refine KE.out q2 ?_
      refine (keeps_State_tableSteps (sub_trans rfl hM)) ?_
      exact h
    refine (keeps_State_finish (sub_trans rfl hM)) ?_
    exact h1
  ·
    refine (keeps_State_badPay (sub_trans rfl hM)) ?_
    exact h

theorem keeps_State_latchDrain {M : Nat} (hM : Nat.land 131073 M = 131073) {s0 : State} {n k : Nat} : ∀ {s : State}, Keeps M s0 s → KP M s0 (s.latchDrain n k) := by
  induction k with
  | zero => intro s h; exact h
  | succ k ih =>
    intro s h
    unfold State.latchDrain
    refine ite_of (P := KP M s0) h ?_
    extract_lets -merge -useContext -underBinder v1
    split
    rename_i t q
    exact KP.mk (KP.out q (ih ((keeps_State_latchPop (sub_trans rfl hM)) h)))

theorem keeps_State_cmdSwitchConfig {M : Nat} (hM : Nat.land 144115188075855871 M = 144115188075855871) {s0 : State} {s : State} {p1 : Req} (h : Keeps M s0 s) : Keeps M s0 (State.cmdSwitchConfig s p1) := by
  unfold State.cmdSwitchConfig
  split
  ·
    refine (keeps_State_badPay (sub_trans rfl hM)) ?_
    exact h
  ·
    rename_i t0 q2
    have h1 : Keeps M s0 t0 := by
      refine KE.out q2 ?_
      refine (keeps_State_applyImage (sub_trans rfl hM)) ?_
      exact h
    refine ite_of (P := Keeps M s0) ?_ ?_
    ·
      refine (keeps_State_await (sub_trans rfl hM)) ?_
      refine (keeps_State_gclChg (sub_trans rfl hM)) ?_
      exact h1
    ·
      refine (keeps_State_finish (sub_trans rfl hM)) ?_
      exact h1

theorem keeps_State_cmdMoveLinear {M : Nat} (hM : Nat.land 238026753 M = 238026753) {s0 : State} {s : State} {p1 : Req} (h : Keeps M s0 s) : Keeps M s0 (State.cmdMoveLinear s p1) := by
  unfold State.cmdMoveLinear
  refine (keeps_State_pathMove (sub_trans rfl hM)) ?_ ?_
  ·
    exact h
  · intro x0 x2 h1
    try beta_reduce
    extract_lets -merge -useContext -underBinder v3
    try clear_value v3
    refine (keeps_State_planPath (sub_trans rfl hM)) ?_
    exact h1

theorem keeps_State_cmdMovePvt {M : Nat} (hM : Nat.land 235929601 M = 235929601) {s0 : State} {s : State} {p1 : Req} (h : Keeps M s0 s) : Keeps M s0 (State.cmdMovePvt s p1) := by
  unfold State.cmdMovePvt
  extract_lets -merge -useContext -underBinder v0 v1 v2 v3 v4
  try clear_value v0
  try clear_value v1
  try clear_value v2
  try clear_value v3
  try clear_value v4
  refine ite_of (P := Keeps M s0) ?_ ?_
  ·
    refine (keeps_State_protAxis (sub_trans rfl hM)) ?_
    exact h
  ·
    split
    ·
      refine (keeps_State_finish (sub_trans rfl hM)) ?_
      exact h
    ·
      extract_lets -merge -useContext -underBinder v5
      try clear_value v5
      refine ite_of (P := Keeps M s0) ?_ ?_
      ·
        refine (keeps_State_finish (sub_trans rfl hM)) ?_
        exact h
      ·
        refine ite_of (P := Keeps M s0) ?_ ?_
        ·
          refine (keeps_State_finish (sub_trans rfl hM)) ?_
          exact h
        ·
          split
          ·
            rename_i t6 q8
            have h7 : Keeps M s0 t6 := by
              refine KP.out q8 ?_
              refine (keeps_State_nextMove (sub_trans rfl hM)) ?_
              exact h
            extract_lets -merge -useContext -underBinder v9
            try clear_value v9
            refine (keeps_State_moveQueued (sub_trans rfl hM)) ?_
            refine (keeps_State_addSegs (sub_trans rfl hM)) ?_
            exact h7

theorem keeps_State_cmdRegTarget {M : Nat} (hM : Nat.land 235405313 M = 235405313) {s0 : State} {s : State} {p1 : Req} (h : Keeps M s0 s) : Keeps M s0 (State.cmdRegTarget s p1) := by
  unfold State.cmdRegTarget
  extract_lets -merge -useContext -underBinder v0
  try clear_value v0
  refine ite_of (P := Keeps M s0) ?_ ?_
  ·
    refine (keeps_State_noHamode (sub_trans rfl hM)) ?_
    exact h
  ·
    refine ite_of (P := Keeps M s0) ?_ ?_
    ·
      refine (keeps_State_finish (sub_trans rfl hM)) ?_
      exact h
    ·
      refine (keeps_State_finish (sub_trans rfl hM)) ?_
      refine (keeps_State_regTarget (sub_trans rfl hM)) ?_
      refine (keeps_State_wr64N (sub_trans rfl hM)) ?_
      exact h

theorem keeps_State_cmdCamSwitch {M : Nat} (hM : Nat.land 235929601 M = 235929601) {s0 : State} {s : State} {p1 : Req} (h : Keeps M s0 s) : Keeps M s0 (State.cmdCamSwitch s p1) := by
  unfold State.cmdCamSwitch
  extract_lets -merge -useContext -underBinder v0
  try clear_value v0
  refine ite_of (P := Keeps M s0) ?_ ?_
  ·
    refine (keeps_State_protAxis (sub_trans rfl hM)) ?_
    exact h
  ·
    refine (keeps_State_armCamSwitch (sub_trans rfl hM)) ?_
    refine (keeps_State_put (sub_trans rfl hM)) ?_
    refine (keeps_State_scheduleAt (sub_trans rfl hM)) ?_
    exact h

theorem keeps_State_cmdCleBank {M : Nat} (hM : Nat.land 144115188075855871 M = 144115188075855871) {s0 : State} {s : State} {p1 : Req} (h : Keeps M s0 s) : Keeps M s0 (State.cmdCleBank s p1) := by
  unfold State.cmdCleBank
  extract_lets -merge -useContext -underBinder v0
  try clear_value v0
  refine ite_of (P := Keeps M s0) ?_ ?_
  ·
    refine (keeps_State_finish (sub_trans rfl hM)) ?_
    exact h
  ·
    split
    ·
      refine (keeps_State_badPay (sub_trans rfl hM)) ?_
      exact h
    ·
      rename_i t1 q3
      have h2 : Keeps M s0 t1 := by
        refine KE.out q3 ?_
        refine (keeps_State_applyImage (sub_trans rfl hM)) ?_
        exact h
      refine ite_of (P := Keeps M s0) ?_ ?_
      ·
        refine (keeps_State_await (sub_trans rfl hM)) ?_
        refine (keeps_State_swapRequest (sub_trans rfl hM)) ?_
        exact h2
      ·
        refine (keeps_State_finish (sub_trans rfl hM)) ?_
        exact h2

theorem keeps_State_flushFor {M : Nat} (hM : Nat.land 238026753 M = 238026753) {s0 : State} {s : State} {p1 : Nat} (h : Keeps M s0 s) : Keeps M s0 (State.flushFor s p1) := by
  unfold State.flushFor
  refine ite_of (P := Keeps M s0) ?_ ?_
  ·
    refine (keeps_State_planFlush (sub_trans rfl hM)) ?_
    exact h
  ·
    split
    ·
      refine (keeps_State_planFlush (sub_trans rfl hM)) ?_
      exact h
    ·
      exact h

theorem keeps_State_cmdMovePtp {M : Nat} (hM : Nat.land 238026753 M = 238026753) {s0 : State} {s : State} {p1 : Req} (h : Keeps M s0 s) : Keeps M s0 (State.cmdMovePtp s p1) := by
  unfold State.cmdMovePtp
  split
  ·
    refine (keeps_State_badPay (sub_trans rfl hM)) ?_
    exact h
  ·
    refine (keeps_State_protAxis (sub_trans rfl hM)) ?_
    exact h
  ·
    extract_lets -merge -useContext -underBinder v0 v1 v2 v3 v4 v5 v6 v7 v8
    have h9 : Keeps M s0 v0 := by
      unfold v0
      refine (keeps_State_flushFor (sub_trans rfl hM)) ?_
      exact h
    try clear_value v0
    try clear_value v1
    try clear_value v2
    try clear_value v3
    try clear_value v4
    try clear_value v5
    try clear_value v6
    try clear_value v7
    try clear_value v8
    refine (keeps_State_planPtp (sub_trans rfl hM)) ?_
    exact h9

theorem keeps_State_cmdMoveSpline {M : Nat} (hM : Nat.land 238026753 M = 238026753) {s0 : State} {s : State} {p1 : Req} (h : Keeps M s0 s) : Keeps M s0 (State.cmdMoveSpline s p1) := by
  unfold State.cmdMoveSpline
  refine (keeps_State_pathMove (sub_trans rfl hM)) ?_ ?_
  ·
    exact h
  · intro x0 x2 h1
    try beta_reduce
    extract_lets -merge -useContext -underBinder v3 v4 v5 v6 v7 v8
    try clear_value v3
    try clear_value v4
    try clear_value v5
    try clear_value v6
    try clear_value v7
    try clear_value v8
    refine ite_of (P := Keeps M s0) ?_ ?_
    ·
      refine (keeps_State_finish (sub_trans rfl hM)) ?_
      exact h1
    ·
      split
      ·
        refine (keeps_State_finish (sub_trans rfl hM)) ?_
        exact h1
      ·
        refine ite_of (P := Keeps M s0) ?_ ?_
        ·
          refine (keeps_State_finish (sub_trans rfl hM)) ?_
          exact h1
        ·
          extract_lets -merge -useContext -underBinder v9
          try clear_value v9
          refine (keeps_State_planPath (sub_trans rfl hM)) ?_
          exact h1

theorem keeps_State_cmdRamauxConfig {M : Nat} (hM : Nat.land 144115188075855871 M = 144115188075855871) {s0 : State} {s : State} {p1 : Req} (h : Keeps M s0 s) : Keeps M s0 (State.cmdRamauxConfig s p1) := by
  unfold State.cmdRamauxConfig
  extract_lets -merge -useContext -underBinder v0
  try clear_value v0
  split
  ·
    refine (keeps_State_badPay (sub_trans rfl hM)) ?_
    exact h
  ·
    rename_i t1 q3
    have h2 : Keeps M s0 t1 := by
      refine KE.out q3 ?_
      refine (keeps_State_imageSteps (sub_trans rfl hM)) ?_
      exact h
    split
    ·
      refine (keeps_State_badPay (sub_trans rfl hM)) ?_
      exact h
    ·
      rename_i t4 q6
      have h5 : Keeps M s0 t4 := by
        refine KE.out q6 ?_
        refine (keeps_State_imageSteps (sub_trans rfl hM)) ?_
        exact h2
      refine (keeps_State_finish (sub_trans rfl hM)) ?_
      exact h5

theorem keeps_State_cmdPtpConfig {M : Nat} (hM : Nat.land 70368979058688 M = 70368979058688) {s0 : State} {s : State} {p1 : Req} (h : Keeps M s0 s) : Keeps M s0 (State.cmdPtpConfig s p1) := by
  unfold State.cmdPtpConfig
  refine (keeps_State_finish (sub_trans rfl hM)) ?_
  refine (keeps_State_modPtp (sub_trans rfl hM)) ?_
  exact h

theorem keeps_State_cmdSetSource {M : Nat} (hM : Nat.land 244318209 M = 244318209) {s0 : State} {s : State} {p1 : Req} (h : Keeps M s0 s) : Keeps M s0 (State.cmdSetSource s p1) := by
  unfold State.cmdSetSource
  extract_lets -merge -useContext -underBinder v0 v1 v2
  try clear_value v0
  try clear_value v1
  try clear_value v2
  refine ite_of (P := Keeps M s0) ?_ ?_
  ·
    refine (keeps_State_noHamode (sub_trans rfl hM)) ?_
    exact h
  ·
    refine ite_of (P := Keeps M s0) ?_ ?_
    ·
      refine (keeps_State_protAxis (sub_trans rfl hM)) ?_
      exact h
    ·
      refine ite_of (P := Keeps M s0) ?_ ?_
      ·
        refine (keeps_State_finish (sub_trans rfl hM)) ?_
        refine (keeps_State_setSourceNow (sub_trans rfl hM)) ?_
        exact h
      ·
        refine (keeps_State_requestChange (sub_trans rfl hM)) ?_
        exact h

theorem keeps_State_cmdStop {M : Nat} (hM : Nat.land 239075328 M = 239075328) {s0 : State} {s : State} {p1 : Req} (h : Keeps M s0 s) : Keeps M s0 (State.cmdStop s p1) := by
  unfold State.cmdStop
  refine ite_of (P := Keeps M s0) ?_ ?_
  ·
    refine (keeps_State_finish (sub_trans rfl hM)) ?_
    exact h
  ·
    extract_lets -merge -useContext -underBinder v0
    have h1 : Keeps M s0 v0 := by
      unfold v0
      refine Keeps.up_stops (sub_trans rfl hM) ?_
      exact h
    try clear_value v0
    refine (keeps_State_await (sub_trans rfl hM)) ?_
    exact h1

theorem keeps_State_cmdInject {M : Nat} (hM : Nat.land 144115188075855871 M = 144115188075855871) {s0 : State} {s : State} {p1 : Req} (h : Keeps M s0 s) : Keeps M s0 (State.cmdInject s p1) := by
  unfold State.cmdInject
  extract_lets -merge -useContext -underBinder v0
  try clear_value v0
  refine ite_of (P := Keeps M s0) ?_ ?_
  ·
    refine (keeps_State_finish (sub_trans rfl hM)) ?_
    exact h
  ·
    split
    ·
      refine (keeps_State_badPay (sub_trans rfl hM)) ?_
      exact h
    ·
      rename_i t1 q3
      have h2 : Keeps M s0 t1 := by
        refine KE.out q3 ?_
        refine (keeps_State_applyImage (sub_trans rfl hM)) ?_
        exact h
      refine ite_of (P := Keeps M s0) ?_ ?_
      ·
        refine (keeps_State_finish (sub_trans rfl hM)) ?_
        exact h2
      ·
        extract_lets -merge -useContext -underBinder v4
        have h5 : Keeps M s0 v4 := by
          unfold v4
          refine (keeps_State_injStart (sub_trans rfl hM)) ?_
          exact h2
        try clear_value v4
        refine ite_of (P := Keeps M s0) ?_ ?_
        ·
          refine (keeps_State_await (sub_trans rfl hM)) ?_
          exact h5
        ·
          refine ite_of (P := Keeps M s0) ?_ ?_
          ·
            refine (keeps_State_protAxis (sub_trans rfl hM)) ?_
            exact h5
          ·
            refine (keeps_State_badPay (sub_trans rfl hM)) ?_
            exact h

theorem keeps_State_cmdPhaseMove {M : Nat} (hM : Nat.land 235929600 M = 235929600) {s0 : State} {s : State} {p1 : Req} (h : Keeps M s0 s) : Keeps M s0 (State.cmdPhaseMove s p1) := by
  unfold State.cmdPhaseMove
  extract_lets -merge -useContext -underBinder v0 v1 v2 v3 v4 v5
  try clear_value v0
  try clear_value v1
  try clear_value v2
  try clear_value v3
  try clear_value v4
  try clear_value v5
  split
  ·
    refine (keeps_State_badPay (sub_trans rfl hM)) ?_
    exact h
  ·
    refine ite_of (P := Keeps M s0) ?_ ?_
    ·
      refine (keeps_State_finish (sub_trans rfl hM)) ?_
      exact h
    ·
      refine ite_of (P := Keeps M s0) ?_ ?_
      ·
        refine (keeps_State_finish (sub_trans rfl hM)) ?_
        exact h
      ·
        refine ite_of (P := Keeps M s0) ?_ ?_
        ·
          extract_lets -merge -useContext -underBinder v6 v7
          try clear_value v6
          have h8 : Keeps M s0 v7 := by
            unfold v7
            refine (keeps_State_modMo (sub_trans rfl hM)) ?_
            exact h
          try clear_value v7
          refine ite_of (P := Keeps M s0) ?_ ?_
          ·
            refine (keeps_State_finish (sub_trans rfl hM)) ?_
            exact h
          ·
            refine ite_of (P := Keeps M s0) ?_ ?_
            ·
              exact h8
            ·
              refine (keeps_State_finish (sub_trans rfl hM)) ?_
              exact h8
        ·
          refine ite_of (P := Keeps M s0) ?_ ?_
          ·
            refine (keeps_State_finish (sub_trans rfl hM)) ?_
            exact h
          ·
            extract_lets -merge -useContext -underBinder v9 v10 v11
            try clear_value v9
            try clear_value v10
            have h12 : Keeps M s0 v11 := by
              unfold v11
              refine (keeps_State_modMo (sub_trans rfl hM)) ?_
              refine (keeps_State_finishAny (sub_trans rfl hM)) ?_
              exact h
            try clear_value v11
            refine ite_of (P := Keeps M s0) ?_ ?_
            ·
              exact h12
            ·
              refine (keeps_State_finish (sub_trans rfl hM)) ?_
              exact h12

theorem keeps_State_cmdCompareArm {M : Nat} (hM : Nat.land 144115188075855871 M = 144115188075855871) {s0 : State} {s : State} {p1 : Req} (h : Keeps M s0 s) : Keeps M s0 (State.cmdCompareArm s p1) := by
  unfold State.cmdCompareArm
  extract_lets -merge -useContext -underBinder v0 v1 v2
  try clear_value v0
  have h3 : Keeps M s0 v1 := by
    unfold v1
    refine (keeps_State_regStore (sub_trans rfl hM)) ?_
    refine (keeps_State_regStore (sub_trans rfl hM)) ?_
    exact h
  try clear_value v1
  have h4 : Keeps M s0 v2 := by
    unfold v2
    refine (keeps_State_onBit (sub_trans rfl hM)) ?_ ?_
    ·
      exact h3
    · intro x5 h6
      try beta_reduce
      refine (keeps_State_coStop (sub_trans rfl hM)) ?_
      exact h6
  try clear_value v2
  refine (keeps_State_finish (sub_trans rfl hM)) ?_
  refine (keeps_State_onBit (sub_trans rfl hM)) ?_ ?_
  ·
    exact h4
  · intro x7 h8
    try beta_reduce
    refine (keeps_State_coArm (sub_trans rfl hM)) ?_
    exact h8

theorem keeps_State_cmdMoveCirc {M : Nat} (hM : Nat.land 238026753 M = 238026753) {s0 : State} {s : State} {p1 : Req} (h : Keeps M s0 s) : Keeps M s0 (State.cmdMoveCirc s p1) := by
  unfold State.cmdMoveCirc
  refine (keeps_State_pathMove (sub_trans rfl hM)) ?_ ?_
  ·
    exact h
  · intro x0 x2 h1
    try beta_reduce
    extract_lets -merge -useContext -underBinder v3 v4 v5 v6 v7 v8 v9 v10 v11 v12 v13
    try clear_value v3
    try clear_value v4
    try clear_value v5
    try clear_value v6
    try clear_value v7
    try clear_value v8
    try clear_value v9
    try clear_value v10
    try clear_value v11
    try clear_value v12
    try clear_value v13
    refine ite_of (P := Keeps M s0) ?_ ?_
    ·
      refine (keeps_State_badPay (sub_trans rfl hM)) ?_
      exact h1
    ·
      refine ite_of (P := Keeps M s0) ?_ ?_
      ·
        refine (keeps_State_badPay (sub_trans rfl hM)) ?_
        exact h1
      ·
        refine ite_of (P := Keeps M s0) ?_ ?_
        ·
          refine (keeps_State_badPay (sub_trans rfl hM)) ?_
          exact h1
        ·
          refine ite_of (P := Keeps M s0) ?_ ?_
          ·
            refine (keeps_State_badPay (sub_trans rfl hM)) ?_
            exact h1
          ·
            refine ite_of (P := Keeps M s0) ?_ ?_
            ·
              refine (keeps_State_finish (sub_trans rfl hM)) ?_
              exact h1
            ·
              refine (keeps_State_planPath (sub_trans rfl hM)) ?_
              exact h1

theorem keeps_State_cmdPtpCorrect {M : Nat} (hM : Nat.land 70368979068929 M = 70368979068929) {s0 : State} {s : State} {p1 : Req} (h : Keeps M s0 s) : Keeps M s0 (State.cmdPtpCorrect s p1) := by
  unfold State.cmdPtpCorrect
  refine ite_of (P := Keeps M s0) ?_ ?_
  ·
    refine (keeps_State_noHamode (sub_trans rfl hM)) ?_
    exact h
  ·
    refine (keeps_State_finish (sub_trans rfl hM)) ?_
    refine (keeps_State_ptpCorrect (sub_trans rfl hM)) ?_
    exact h

theorem keeps_State_cmdEpochArm {M : Nat} (hM : Nat.land 281475211591681 M = 281475211591681) {s0 : State} {s : State} {p1 : Req} (h : Keeps M s0 s) : Keeps M s0 (State.cmdEpochArm s p1) := by
  unfold State.cmdEpochArm
  extract_lets -merge -useContext -underBinder v0
  have h1 : Keeps M s0 v0 := by
    unfold v0
    refine ite_of (P := Keeps M s0) ?_ ?_
    ·
      exact h
    ·
      refine (keeps_State_wr64N (sub_trans rfl hM)) ?_
      refine (keeps_State_put (sub_trans rfl hM)) ?_
      exact h
  try clear_value v0
  split
  ·
    rename_i t2 q4
    have h3 : Keeps M s0 t2 := by
      refine KP.out q4 ?_
      refine (keeps_State_epochArm (sub_trans rfl hM)) ?_
      exact h1
    refine (keeps_State_await (sub_trans rfl hM)) ?_
    exact h3
  ·
    rename_i t5 q7
    have h6 : Keeps M s0 t5 := by
      refine KP.out q7 ?_
      refine (keeps_State_epochArm (sub_trans rfl hM)) ?_
      exact h1
    refine (keeps_State_finish (sub_trans rfl hM)) ?_
    exact h6

theorem keeps_State_cmdTableRead {M : Nat} (hM : Nat.land 234881024 M = 234881024) {s0 : State} {s : State} {p1 : Req} (h : Keeps M s0 s) : Keeps M s0 (State.cmdTableRead s p1) := by
  unfold State.cmdTableRead
  refine (keeps_State_finish (sub_trans rfl hM)) ?_
  exact h

theorem keeps_State_cmdCamLoad {M : Nat} (hM : Nat.land 251658240 M = 251658240) {s0 : State} {s : State} {p1 : Req} (h : Keeps M s0 s) : Keeps M s0 (State.cmdCamLoad s p1) := by
  unfold State.cmdCamLoad
  extract_lets -merge -useContext -underBinder v0 v1 v2 v3 v4
  try clear_value v0
  try clear_value v1
  try clear_value v2
  try clear_value v3
  try clear_value v4
  split
  ·
    refine (keeps_State_badPay (sub_trans rfl hM)) ?_
    exact h
  ·
    refine ite_of (P := Keeps M s0) ?_ ?_
    ·
      refine (keeps_State_finish (sub_trans rfl hM)) ?_
      exact h
    ·
      refine ite_of (P := Keeps M s0) ?_ ?_
      ·
        refine (keeps_State_finish (sub_trans rfl hM)) ?_
        exact h
      ·
        refine ite_of (P := Keeps M s0) ?_ ?_
        ·
          refine (keeps_State_finish (sub_trans rfl hM)) ?_
          exact h
        ·
          split
          ·
            refine (keeps_State_finish (sub_trans rfl hM)) ?_
            exact h
          ·
            extract_lets -merge -useContext -underBinder v5 v6 v7 v8 v9
            try clear_value v5
            try clear_value v6
            try clear_value v7
            try clear_value v8
            have h10 : Keeps M s0 v9 := by
              unfold v9
              refine Keeps.up_cams (sub_trans rfl hM) ?_
              exact h
            try clear_value v9
            refine ite_of (P := Keeps M s0) ?_ ?_
            ·
              refine (keeps_State_finish (sub_trans rfl hM)) ?_
              exact h
            ·
              refine (keeps_State_finish (sub_trans rfl hM)) ?_
              exact h10

theorem keeps_State_cmdCompareLoad {M : Nat} (hM : Nat.land 235143173 M = 235143173) {s0 : State} {s : State} {p1 : Req} (h : Keeps M s0 s) : Keeps M s0 (State.cmdCompareLoad s p1) := by
  unfold State.cmdCompareLoad
  extract_lets -merge -useContext -underBinder v0
  try clear_value v0
  split
  ·
    refine (keeps_State_badPay (sub_trans rfl hM)) ?_
    exact h
  ·
    refine (keeps_State_finish (sub_trans rfl hM)) ?_
    refine foldl_of (P := Keeps M s0) ?_ ?_
    ·
      exact h
    · intro t1 x2 h3
      beta_reduce
      refine (keeps_State_cmpRamWrite (sub_trans rfl hM)) ?_
      exact h3

theorem keeps_State_cmdPort {M : Nat} (hM : Nat.land 234946561 M = 234946561) {s0 : State} {s : State} {p1 : Req} (h : Keeps M s0 s) : Keeps M s0 (State.cmdPort s p1) := by
  unfold State.cmdPort
  extract_lets -merge -useContext -underBinder v0 v1 v2 v3 v4
  try clear_value v0
  try clear_value v1
  have h5 : Keeps M s0 v2 := by
    unfold v2
    refine (keeps_State_onBit (sub_trans rfl hM)) ?_ ?_
    ·
      refine (keeps_State_onBit (sub_trans rfl hM)) ?_ ?_
      ·
        refine (keeps_State_onBit (sub_trans rfl hM)) ?_ ?_
        ·
          exact h
        · intro x6 h7
          try beta_reduce
          refine (keeps_State_portClrFlags (sub_trans rfl hM)) ?_
          exact h7
      · intro x8 h9
        try beta_reduce
        refine (keeps_State_portClrCnt (sub_trans rfl hM)) ?_
        exact h9
    · intro x10 h11
      try beta_reduce
      refine (keeps_State_portRearm (sub_trans rfl hM)) ?_
      exact h11
  try clear_value v2
  try clear_value v3
  have h12 : Keeps M s0 v4 := by
    unfold v4
    refine (keeps_State_onBit (sub_trans rfl hM)) ?_ ?_
    ·
      exact h5
    · intro x13 h14
      try beta_reduce
      refine (keeps_State_portReval (sub_trans rfl hM)) ?_
      exact h14
  try clear_value v4
  refine ite_of (P := Keeps M s0) ?_ ?_
  ·
    refine (keeps_State_finish (sub_trans rfl hM)) ?_
    exact h12
  ·
    refine ite_of (P := Keeps M s0) ?_ ?_
    ·
      refine (keeps_State_await (sub_trans rfl hM)) ?_
      refine (keeps_State_portLoad (sub_trans rfl hM)) ?_
      refine (keeps_State_wr64N (sub_trans rfl hM)) ?_
      exact h12
    ·
      refine (keeps_State_finish (sub_trans rfl hM)) ?_
      exact h12

theorem keeps_State_cmdLatchRead {M : Nat} (hM : Nat.land 235012097 M = 235012097) {s0 : State} {s : State} {p1 : Req} (h : Keeps M s0 s) : Keeps M s0 (State.cmdLatchRead s p1) := by
  unfold State.cmdLatchRead
  split
  ·
    rename_i t0 q2
    have h1 : Keeps M s0 t0 := by
      refine KP.out q2 ?_
      refine (keeps_State_latchDrain (sub_trans rfl hM)) ?_
      exact h
    refine (keeps_State_finish (sub_trans rfl hM)) ?_
    exact h1

theorem keeps_State_cmdCamEngage {M : Nat} (hM : Nat.land 235929601 M = 235929601) {s0 : State} {s : State} {p1 : Req} (h : Keeps M s0 s) : Keeps M s0 (State.cmdCamEngage s p1) := by
  unfold State.cmdCamEngage
  extract_lets -merge -useContext -underBinder v0
  try clear_value v0
  refine ite_of (P := Keeps M s0) ?_ ?_
  ·
    refine (keeps_State_protAxis (sub_trans rfl hM)) ?_
    exact h
  ·
    refine (keeps_State_requestChange (sub_trans rfl hM)) ?_
    refine (keeps_State_scheduleAt (sub_trans rfl hM)) ?_
    exact h

theorem keeps_State_cmdTableLoad {M : Nat} (hM : Nat.land 234881032 M = 234881032) {s0 : State} {s : State} {p1 : Req} (h : Keeps M s0 s) : Keeps M s0 (State.cmdTableLoad s p1) := by
  unfold State.cmdTableLoad
  refine ite_of (P := Keeps M s0) ?_ ?_
  ·
    refine (keeps_State_finish (sub_trans rfl hM)) ?_
    exact h
  ·
    refine (keeps_State_finish (sub_trans rfl hM)) ?_
    refine foldl_of (P := Keeps M s0) ?_ ?_
    ·
      exact h
    · intro t0 x1 h2
      beta_reduce
      refine (keeps_State_setBin (sub_trans rfl hM)) ?_
      exact h2

end Sys2Proof.Machine
end

