-- ==== Sys2Proof/Laws/KeepCmdSys.lean ====
section
/-! SUPPORT. The operations of Machine/CmdSys.lean keep what `Keeps` says. -/

namespace Sys2Proof.Machine

theorem keeps_State_readWords {M : Nat} (hM : Nat.land 100330436067329 M = 100330436067329) {s0 : State} {k : Nat} : ∀ {s : State} {a : Nat}, Keeps M s0 s → KP M s0 (s.readWords a k) := by
  induction k with
  | zero => intro s a h; exact h
  | succ k ih =>
    intro s a h
    unfold State.readWords
    split
    rename_i t q
    split
    rename_i t2 q2
    exact KP.mk (KP.out q2 (ih (KP.out q ((keeps_State_bar0Read (sub_trans rfl hM)) h))))

theorem keeps_State_cmdSafeStatus {M : Nat} (hM : Nat.land 100330670948353 M = 100330670948353) {s0 : State} {s : State} {p1 : Req} (h : Keeps M s0 s) : Keeps M s0 (State.cmdSafeStatus s p1) := by
  unfold State.cmdSafeStatus
  split
  ·
    rename_i t0 q2
    have h1 : Keeps M s0 t0 := by
      refine KP.out q2 ?_
      refine (keeps_State_readWords (sub_trans rfl hM)) ?_
      exact h
    refine (keeps_State_finish (sub_trans rfl hM)) ?_
    exact h1

theorem keeps_State_endWith {M : Nat} (hM : Nat.land 234881024 M = 234881024) {s0 : State} {r : Req} {bad : Nat} {x : Status × State} (h : KP M s0 x) : Keeps M s0 (State.endWith r bad x) :=
  (keeps_State_finish (sub_trans rfl hM)) h -- mod CmdSys

theorem keeps_State_cmdDebugOpen {M : Nat} (hM : Nat.land 1125900141729793 M = 1125900141729793) {s0 : State} {s : State} {r : Req} (h : Keeps M s0 s) : Keeps M s0 (s.cmdDebugOpen r) :=
  (keeps_State_endWith (sub_trans rfl hM)) ((keeps_State_debugOpen (sub_trans rfl hM)) h)

theorem keeps_State_untagMoves {M : Nat} (hM : Nat.land 3145728 M = 3145728) {s0 : State} {s : State} {p1 : Nat} (h : Keeps M s0 s) : Keeps M s0 (State.untagMoves s p1) := by
  unfold State.untagMoves
  extract_lets -merge -useContext -underBinder v0 v1
  try clear_value v0
  have h2 : Keeps M s0 v1 := by
    unfold v1
    refine Keeps.forEach ?_ ?_
    ·
      exact h
    · intro t3 x4 h5
      beta_reduce
      refine (keeps_State_modMo (sub_trans rfl hM)) ?_
      exact h5
  try clear_value v1
  refine Keeps.forEach ?_ ?_
  ·
    exact h2
  · intro t6 x7 h8
    beta_reduce
    refine (keeps_State_modPlan (sub_trans rfl hM)) ?_
    exact h8

theorem keeps_State_cmdLogRead {M : Nat} (hM : Nat.land 234881024 M = 234881024) {s0 : State} {s : State} {p1 : Req} (h : Keeps M s0 s) : Keeps M s0 (State.cmdLogRead s p1) := by
  unfold State.cmdLogRead
  refine ite_of (P := Keeps M s0) ?_ ?_
  ·
    refine (keeps_State_noHamode (sub_trans rfl hM)) ?_
    exact h
  ·
    split
    ·
      refine (keeps_State_finish (sub_trans rfl hM)) ?_
      exact h

theorem keeps_State_cmdSetClock {M : Nat} (hM : Nat.land 234889217 M = 234889217) {s0 : State} {s : State} {p1 : Req} (h : Keeps M s0 s) : Keeps M s0 (State.cmdSetClock s p1) := by
  unfold State.cmdSetClock
  refine (keeps_State_finish (sub_trans rfl hM)) ?_
  refine (keeps_State_sysClk (sub_trans rfl hM)) ?_
  exact h

theorem keeps_State_cmdCanRecover {M : Nat} (hM : Nat.land 4503599862251520 M = 4503599862251520) {s0 : State} {s : State} {p1 : Req} (h : Keeps M s0 s) : Keeps M s0 (State.cmdCanRecover s p1) := by
  unfold State.cmdCanRecover
  refine (keeps_State_finish (sub_trans rfl hM)) ?_
  refine (keeps_State_canRecover (sub_trans rfl hM)) ?_
  exact h

theorem keeps_State_cmdHoldTorque {M : Nat} (hM : Nat.land 771751936 M = 771751936) {s0 : State} {s : State} {p1 : Req} (h : Keeps M s0 s) : Keeps M s0 (State.cmdHoldTorque s p1) := by
  unfold State.cmdHoldTorque
  refine ite_of (P := Keeps M s0) ?_ ?_
  ·
    refine (keeps_State_finish (sub_trans rfl hM)) ?_
    exact h
  ·
    refine (keeps_State_finish (sub_trans rfl hM)) ?_
    refine (keeps_State_modLoop (sub_trans rfl hM)) ?_
    exact h

theorem keeps_State_cmdIoWrite {M : Nat} (hM : Nat.land 2251800048566273 M = 2251800048566273) {s0 : State} {s : State} {p1 : Req} (h : Keeps M s0 s) : Keeps M s0 (State.cmdIoWrite s p1) := by
  unfold State.cmdIoWrite
  refine (keeps_State_finish (sub_trans rfl hM)) ?_
  refine (keeps_State_dioOut (sub_trans rfl hM)) ?_
  exact h

theorem keeps_State_cmdKeyErase {M : Nat} (hM : Nat.land 1125900141729793 M = 1125900141729793) {s0 : State} {s : State} {r : Req} (h : Keeps M s0 s) : Keeps M s0 (s.cmdKeyErase r) :=
  (keeps_State_endWith (sub_trans rfl hM)) ((keeps_State_keyErase (sub_trans rfl hM)) h)

theorem keeps_State_cmdCanConfig {M : Nat} (hM : Nat.land 144115188075855871 M = 144115188075855871) {s0 : State} {s : State} {p1 : Req} (h : Keeps M s0 s) : Keeps M s0 (State.cmdCanConfig s p1) := by
  unfold State.cmdCanConfig
  extract_lets -merge -useContext -underBinder v0 v1 v2 v3 v4
  try clear_value v0
  try clear_value v1
  try clear_value v2
  try clear_value v3
  have h5 : Keeps M s0 v4 := by
    unfold v4
    refine (keeps_State_canHaltWritten (sub_trans rfl hM)) ?_
    refine (keeps_State_putB (sub_trans rfl hM)) ?_
    exact h
  try clear_value v4
  split
  ·
    rename_i t6 q8
    have h7 : Keeps M s0 t6 := by
      refine KE.out q8 ?_
      refine (keeps_State_applyImage (sub_trans rfl hM)) ?_
      exact h5
    refine (keeps_State_finish (sub_trans rfl hM)) ?_
    refine ite_of (P := Keeps M s0) ?_ ?_
    ·
      exact h7
    ·
      refine (keeps_State_canHaltWritten (sub_trans rfl hM)) ?_
      refine (keeps_State_putB (sub_trans rfl hM)) ?_
      exact h7
  ·
    refine (keeps_State_badPay (sub_trans rfl hM)) ?_
    exact h

theorem keeps_State_cmdFwWrite {M : Nat} (hM : Nat.land 72057594272812032 M = 72057594272812032) {s0 : State} {s : State} {p1 : Req} (h : Keeps M s0 s) : Keeps M s0 (State.cmdFwWrite s p1) := by
  unfold State.cmdFwWrite
  refine ite_of (P := Keeps M s0) ?_ ?_
  ·
    refine (keeps_State_bad (sub_trans rfl hM)) ?_
    exact h
  ·
    extract_lets -merge -useContext -underBinder v0 v1
    have h2 : Keeps M s0 v1 := by
      unfold v1
      refine Keeps.up_mem_fw (sub_trans rfl hM) ?_ (Memory.wf_fw memWrite_wf)
      exact h
    try clear_value v1
    refine (keeps_State_finish (sub_trans rfl hM)) ?_
    refine (keeps_State_event (sub_trans rfl hM)) ?_
    refine (keeps_State_modPw (sub_trans rfl hM)) ?_
    exact h2

theorem keeps_State_cmdSetState {M : Nat} (hM : Nat.land 72057594272808960 M = 72057594272808960) {s0 : State} {s : State} {p1 : Req} (h : Keeps M s0 s) : Keeps M s0 (State.cmdSetState s p1) := by
  unfold State.cmdSetState
  extract_lets -merge -useContext -underBinder v0
  try clear_value v0
  refine ite_of (P := Keeps M s0) ?_ ?_
  ·
    refine (keeps_State_finish (sub_trans rfl hM)) ?_
    exact h
  ·
    refine ite_of (P := Keeps M s0) ?_ ?_
    ·
      refine (keeps_State_finish (sub_trans rfl hM)) ?_
      exact h
    ·
      refine ite_of (P := Keeps M s0) ?_ ?_
      ·
        refine (keeps_State_finish (sub_trans rfl hM)) ?_
        exact h
      ·
        split
        ·
          refine (keeps_State_finish (sub_trans rfl hM)) ?_
          exact h
        ·
          refine ite_of (P := Keeps M s0) ?_ ?_
          ·
            refine (keeps_State_finish (sub_trans rfl hM)) ?_
            exact h
          ·
            refine (keeps_State_modPw (sub_trans rfl hM)) ?_
            exact h

theorem keeps_State_cmdGroupRearm {M : Nat} (hM : Nat.land 234881025 M = 234881025) {s0 : State} {s : State} {p1 : Req} (h : Keeps M s0 s) : Keeps M s0 (State.cmdGroupRearm s p1) := by
  unfold State.cmdGroupRearm
  split
  ·
    rename_i t0 q2
    have h1 : Keeps M s0 t0 := by
      refine KP.out q2 ?_
      refine (keeps_State_fgRearm (sub_trans rfl hM)) ?_
      exact h
    refine (keeps_State_finish (sub_trans rfl hM)) ?_
    exact h1
  ·
    rename_i t3 q5
    have h4 : Keeps M s0 t3 := by
      refine KP.out q5 ?_
      refine (keeps_State_fgRearm (sub_trans rfl hM)) ?_
      exact h
    refine (keeps_State_finish (sub_trans rfl hM)) ?_
    exact h4

theorem keeps_State_cmdIoRead {M : Nat} (hM : Nat.land 234881024 M = 234881024) {s0 : State} {s : State} {p1 : Req} (h : Keeps M s0 s) : Keeps M s0 (State.cmdIoRead s p1) := by
  unfold State.cmdIoRead
  extract_lets -merge -useContext -underBinder v0 v1
  try clear_value v0
  try clear_value v1
  refine (keeps_State_finish (sub_trans rfl hM)) ?_
  exact h

theorem keeps_State_cmdLogClear {M : Nat} (hM : Nat.land 18014398744363009 M = 18014398744363009) {s0 : State} {s : State} {r : Req} (h : Keeps M s0 s) : Keeps M s0 (s.cmdLogClear r) :=
  (keeps_State_endWith (sub_trans rfl hM)) ((keeps_State_logClear (sub_trans rfl hM)) h)

theorem keeps_State_cmdToken {M : Nat} (hM : Nat.land 234889217 M = 234889217) {s0 : State} {s : State} {p1 : Req} (h : Keeps M s0 s) : Keeps M s0 (State.cmdToken s p1) := by
  unfold State.cmdToken
  extract_lets -merge -useContext -underBinder v0 v1 v2
  try clear_value v0
  have h3 : Keeps M s0 v1 := by
    unfold v1
    refine (keeps_State_wr64N (sub_trans rfl hM)) ?_
    refine (keeps_State_wrN (sub_trans rfl hM)) ?_
    refine (keeps_State_wrN (sub_trans rfl hM)) ?_
    refine (keeps_State_wrN (sub_trans rfl hM)) ?_
    refine (keeps_State_putB (sub_trans rfl hM)) ?_
    exact h
  try clear_value v1
  have h4 : Keeps M s0 v2 := by
    unfold v2
    refine (keeps_State_tokenArm (sub_trans rfl hM)) ?_
    exact h3
  try clear_value v2
  refine ite_of (P := Keeps M s0) ?_ ?_
  ·
    refine (keeps_State_finish (sub_trans rfl hM)) ?_
    exact h
  ·
    refine ite_of (P := Keeps M s0) ?_ ?_
    ·
      refine (keeps_State_await (sub_trans rfl hM)) ?_
      exact h4
    ·
      refine (keeps_State_finish (sub_trans rfl hM)) ?_
      exact h4

theorem keeps_State_cmdCaptureRead {M : Nat} (hM : Nat.land 234881024 M = 234881024) {s0 : State} {s : State} {p1 : Req} (h : Keeps M s0 s) : Keeps M s0 (State.cmdCaptureRead s p1) := by
  unfold State.cmdCaptureRead
  extract_lets -merge -useContext -underBinder v0 v1 v2 v3 v4
  try clear_value v0
  try clear_value v1
  try clear_value v2
  try clear_value v3
  try clear_value v4
  refine ite_of (P := Keeps M s0) ?_ ?_
  ·
    refine (keeps_State_bad (sub_trans rfl hM)) ?_
    exact h
  ·
    refine (keeps_State_finish (sub_trans rfl hM)) ?_
    exact h

theorem keeps_State_cmdTwinStart {M : Nat} (hM : Nat.land 562950188374017 M = 562950188374017) {s0 : State} {s : State} {p1 : Req} (h : Keeps M s0 s) : Keeps M s0 (State.cmdTwinStart s p1) := by
  unfold State.cmdTwinStart
  refine (keeps_State_finish (sub_trans rfl hM)) ?_
  refine (keeps_State_twinStart (sub_trans rfl hM)) ?_
  exact h

theorem keeps_State_cmdJoin {M : Nat} (hM : Nat.land 234881024 M = 234881024) {s0 : State} {s : State} {p1 : Req} (h : Keeps M s0 s) : Keeps M s0 (State.cmdJoin s p1) := by
  unfold State.cmdJoin
  refine ite_of (P := Keeps M s0) ?_ ?_
  ·
    split
    ·
      rename_i t0 q2
      have h1 : Keeps M s0 t0 := by
        refine KP.out q2 ?_
        refine (keeps_State_freeWord (sub_trans rfl hM)) ?_
        exact h
      refine (keeps_State_finish (sub_trans rfl hM)) ?_
      exact h1
  ·
    refine (keeps_State_finish (sub_trans rfl hM)) ?_
    exact h

theorem keeps_State_cmdLogFreeze {M : Nat} (hM : Nat.land 18014398744371201 M = 18014398744371201) {s0 : State} {s : State} {p1 : Req} (h : Keeps M s0 s) : Keeps M s0 (State.cmdLogFreeze s p1) := by
  unfold State.cmdLogFreeze
  refine (keeps_State_finish (sub_trans rfl hM)) ?_
  refine ite_of (P := Keeps M s0) ?_ ?_
  ·
    refine (keeps_State_freeze (sub_trans rfl hM)) ?_
    exact h
  ·
    refine (keeps_State_unfreezeCmd (sub_trans rfl hM)) ?_
    exact h

theorem keeps_State_cmdHandover {M : Nat} (hM : Nat.land 234881025 M = 234881025) {s0 : State} {s : State} {p1 : Req} (h : Keeps M s0 s) : Keeps M s0 (State.cmdHandover s p1) := by
  unfold State.cmdHandover
  extract_lets -merge -useContext -underBinder v0
  have h1 : Keeps M s0 v0 := by
    unfold v0
    refine ite_of (P := Keeps M s0) ?_ ?_
    ·
      exact h
    ·
      refine (keeps_State_wr64N (sub_trans rfl hM)) ?_
      exact h
  try clear_value v0
  split
  ·
    rename_i t2 q4
    have h3 : Keeps M s0 t2 := by
      refine KP.out q4 ?_
      refine (keeps_State_handoverGo (sub_trans rfl hM)) ?_
      exact h1
    refine (keeps_State_await (sub_trans rfl hM)) ?_
    exact h3
  ·
    rename_i t5 q7
    have h6 : Keeps M s0 t5 := by
      refine KP.out q7 ?_
      refine (keeps_State_handoverGo (sub_trans rfl hM)) ?_
      exact h1
    refine (keeps_State_finish (sub_trans rfl hM)) ?_
    exact h6

theorem keeps_State_cmdSetHamode {M : Nat} (hM : Nat.land 36028797253844993 M = 36028797253844993) {s0 : State} {s : State} {p1 : Req} (h : Keeps M s0 s) : Keeps M s0 (State.cmdSetHamode s p1) := by
  unfold State.cmdSetHamode
  extract_lets -merge -useContext -underBinder v0 v1
  try clear_value v0
  have h2 : Keeps M s0 v1 := by
    unfold v1
    refine (keeps_State_modHost (sub_trans rfl hM)) ?_
    refine (keeps_State_wrN (sub_trans rfl hM)) ?_
    exact h
  try clear_value v1
  refine (keeps_State_finish (sub_trans rfl hM)) ?_
  refine Keeps.forEach ?_ ?_
  ·
    exact h2
  · intro t3 x4 h5
    beta_reduce
    refine (keeps_State_putB (sub_trans rfl hM)) ?_
    exact h5

theorem keeps_State_cmdExpert {M : Nat} (hM : Nat.land 234881025 M = 234881025) {s0 : State} {s : State} {p1 : Req} (h : Keeps M s0 s) : Keeps M s0 (State.cmdExpert s p1) := by
  unfold State.cmdExpert
  extract_lets -merge -useContext -underBinder v0 v1
  try clear_value v0
  try clear_value v1
  refine (keeps_State_finish (sub_trans rfl hM)) ?_
  refine (keeps_State_wr (sub_trans rfl hM)) ?_
  exact h

theorem keeps_State_cmdCaptureConfig {M : Nat} (hM : Nat.land 144115188075855871 M = 144115188075855871) {s0 : State} {s : State} {p1 : Req} (h : Keeps M s0 s) : Keeps M s0 (State.cmdCaptureConfig s p1) := by
  unfold State.cmdCaptureConfig
  refine ite_of (P := Keeps M s0) ?_ ?_
  ·
    refine (keeps_State_finish (sub_trans rfl hM)) ?_
    exact h
  ·
    refine (keeps_State_cmdImage (sub_trans rfl hM)) ?_
    exact h

theorem keeps_State_cmdSafetySlot {M : Nat} (hM : Nat.land 140737723236353 M = 140737723236353) {s0 : State} {s : State} {p1 : Req} (h : Keeps M s0 s) : Keeps M s0 (State.cmdSafetySlot s p1) := by
  unfold State.cmdSafetySlot
  refine (keeps_State_finish (sub_trans rfl hM)) ?_
  refine (keeps_State_slotRegs (sub_trans rfl hM)) ?_
  refine (keeps_State_modSafe (sub_trans rfl hM)) ?_
  exact h

theorem keeps_State_cmdFwRestart {M : Nat} (hM : Nat.land 72629889840187392 M = 72629889840187392) {s0 : State} {s : State} {p1 : Req} (h : Keeps M s0 s) : Keeps M s0 (State.cmdFwRestart s p1) := by
  unfold State.cmdFwRestart
  refine (keeps_State_beginRestart (sub_trans rfl hM)) ?_
  exact h

theorem keeps_State_abortTrigger {M : Nat} (hM : Nat.land 9288820496273409 M = 9288820496273409) {s0 : State} {s : State} {p1 : Wait} (h : Keeps M s0 s) : Keeps M s0 (State.abortTrigger s p1) := by
  unfold State.abortTrigger
  split
  ·
    refine (keeps_State_dropChange (sub_trans rfl hM)) ?_
    exact h
  ·
    refine (keeps_State_tokenCancel (sub_trans rfl hM)) ?_
    exact h
  ·
    refine (keeps_State_clrf (sub_trans rfl hM)) ?_
    refine (keeps_State_modRm (sub_trans rfl hM)) ?_
    exact h
  ·
    refine (keeps_State_clrf (sub_trans rfl hM)) ?_
    exact h
  ·
    refine (keeps_State_cuDisarm (sub_trans rfl hM)) ?_
    exact h
  ·
    refine (keeps_State_modRm (sub_trans rfl hM)) ?_
    exact h
  ·
    exact h

theorem keeps_State_cmdTamperPolicy {M : Nat} (hM : Nat.land 1125900141729793 M = 1125900141729793) {s0 : State} {s : State} {r : Req} (h : Keeps M s0 s) : Keeps M s0 (s.cmdTamperPolicy r) :=
  (keeps_State_endWith (sub_trans rfl hM)) ((keeps_State_tamperPolicy (sub_trans rfl hM)) h)

theorem keeps_State_cmdFwVerify {M : Nat} (hM : Nat.land 72057594272811008 M = 72057594272811008) {s0 : State} {s : State} {p1 : Req} (h : Keeps M s0 s) : Keeps M s0 (State.cmdFwVerify s p1) := by
  unfold State.cmdFwVerify
  extract_lets -merge -useContext -underBinder v0 v1 v2
  try clear_value v0
  try clear_value v1
  try clear_value v2
  refine (keeps_State_finish (sub_trans rfl hM)) ?_
  refine (keeps_State_event (sub_trans rfl hM)) ?_
  refine (keeps_State_modPw (sub_trans rfl hM)) ?_
  exact h

theorem keeps_State_canDrain {M : Nat} (hM : Nat.land 4503599627370497 M = 4503599627370497) {s0 : State} {n j k : Nat} : ∀ {s : State}, Keeps M s0 s → KP M s0 (s.canDrain n j k) := by
  induction k with
  | zero => intro s h; exact h
  | succ k ih =>
    intro s h
    unfold State.canDrain
    refine ite_of (P := KP M s0) h ?_
    extract_lets -merge -useContext -underBinder v1 v2
    split
    rename_i t q
    exact KP.mk (KP.out q (ih ((keeps_State_fifoRelease (sub_trans rfl hM)) h)))

theorem keeps_State_cmdKeyLoad {M : Nat} (hM : Nat.land 1125900141729793 M = 1125900141729793) {s0 : State} {s : State} {r : Req} (h : Keeps M s0 s) : Keeps M s0 (s.cmdKeyLoad r) := by
  unfold State.cmdKeyLoad
  have h1 : Keeps M s0 (s.keyLoad r.data).2 := (keeps_State_keyLoad (sub_trans rfl hM)) h
  exact (keeps_State_endWith (sub_trans rfl hM)) (ite_of (P := Keeps M s0) ((keeps_State_modSec (sub_trans rfl hM)) h1) h1)

theorem keeps_State_cmdNop {M : Nat} (hM : Nat.land 234881024 M = 234881024) {s0 : State} {s : State} {p1 : Req} (h : Keeps M s0 s) : Keeps M s0 (State.cmdNop s p1) := by
  unfold State.cmdNop
  refine (keeps_State_finish (sub_trans rfl hM)) ?_
  exact h

theorem keeps_State_cmdReadReg {M : Nat} (hM : Nat.land 100330670948353 M = 100330670948353) {s0 : State} {s : State} {p1 : Req} (h : Keeps M s0 s) : Keeps M s0 (State.cmdReadReg s p1) := by
  unfold State.cmdReadReg
  split
  ·
    rename_i t0 q2
    have h1 : Keeps M s0 t0 := by
      refine KP.out q2 ?_
      refine (keeps_State_readWords (sub_trans rfl hM)) ?_
      exact h
    refine (keeps_State_finish (sub_trans rfl hM)) ?_
    exact h1

theorem keeps_State_cmdTripClear {M : Nat} (hM : Nat.land 26004690945 M = 26004690945) {s0 : State} {s : State} {p1 : Req} (h : Keeps M s0 s) : Keeps M s0 (State.cmdTripClear s p1) := by
  unfold State.cmdTripClear
  refine ite_of (P := Keeps M s0) ?_ ?_
  ·
    extract_lets -merge -useContext -underBinder v0 v1 v2
    try clear_value v0
    try clear_value v1
    have h3 : Keeps M s0 v2 := by
      unfold v2
      refine (keeps_State_pwmTclr (sub_trans rfl hM)) ?_
      exact h
    try clear_value v2
    refine ite_of (P := Keeps M s0) ?_ ?_
    ·
      refine (keeps_State_finish (sub_trans rfl hM)) ?_
      exact h3
    ·
      refine (keeps_State_finish (sub_trans rfl hM)) ?_
      exact h3
  ·
    extract_lets -merge -useContext -underBinder v4 v5
    try clear_value v4
    have h6 : Keeps M s0 v5 := by
      unfold v5
      refine (keeps_State_gtripTclr (sub_trans rfl hM)) ?_
      exact h
    try clear_value v5
    refine ite_of (P := Keeps M s0) ?_ ?_
    ·
      refine (keeps_State_finish (sub_trans rfl hM)) ?_
      exact h6
    ·
      refine (keeps_State_finish (sub_trans rfl hM)) ?_
      exact h6

theorem keeps_State_cmdDebugChallenge {M : Nat} (hM : Nat.land 1125900141723648 M = 1125900141723648) {s0 : State} {s : State} {p1 : Req} (h : Keeps M s0 s) : Keeps M s0 (State.cmdDebugChallenge s p1) := by
  unfold State.cmdDebugChallenge
  split
  ·
    rename_i t0 q2
    have h1 : Keeps M s0 t0 := by
      refine KP.out q2 ?_
      refine (keeps_State_debugChallenge (sub_trans rfl hM)) ?_
      exact h
    refine (keeps_State_finish (sub_trans rfl hM)) ?_
    exact h1

theorem keeps_State_cmdAbort {M : Nat} (hM : Nat.land 9288820498370561 M = 9288820498370561) {s0 : State} {s : State} {p1 : Req} (h : Keeps M s0 s) : Keeps M s0 (State.cmdAbort s p1) := by
  unfold State.cmdAbort
  extract_lets -merge -useContext -underBinder v0
  try clear_value v0
  split
  ·
    refine (keeps_State_finish (sub_trans rfl hM)) ?_
    exact h
  ·
    refine ite_of (P := Keeps M s0) ?_ ?_
    ·
      refine (keeps_State_finish (sub_trans rfl hM)) ?_
      refine (keeps_State_finish (sub_trans rfl hM)) ?_
      exact h
    ·
      split
      ·
        split
        ·
          split
          ·
            rename_i t1 q3
            have h2 : Keeps M s0 t1 := by
              refine KP.out q3 ?_
              refine (keeps_State_freeWord (sub_trans rfl hM)) ?_
              exact h
            refine (keeps_State_finish (sub_trans rfl hM)) ?_
            refine (keeps_State_abortTrigger (sub_trans rfl hM)) ?_
            refine (keeps_State_finish (sub_trans rfl hM)) ?_
            exact h2
        ·
          refine (keeps_State_finish (sub_trans rfl hM)) ?_
          refine (keeps_State_abortTrigger (sub_trans rfl hM)) ?_
          refine (keeps_State_finish (sub_trans rfl hM)) ?_
          exact h
        ·
          refine (keeps_State_finish (sub_trans rfl hM)) ?_
          exact h
      ·
        refine ite_of (P := Keeps M s0) ?_ ?_
        ·
          refine (keeps_State_finish (sub_trans rfl hM)) ?_
          refine (keeps_State_finish (sub_trans rfl hM)) ?_
          refine (keeps_State_untagMoves (sub_trans rfl hM)) ?_
          exact h
        ·
          refine (keeps_State_finish (sub_trans rfl hM)) ?_
          exact h

theorem keeps_State_cmdAssign {M : Nat} (hM : Nat.land 35186754453505 M = 35186754453505) {s0 : State} {s : State} {p1 : Req} (h : Keeps M s0 s) : Keeps M s0 (State.cmdAssign s p1) := by
  unfold State.cmdAssign
  extract_lets -merge -useContext -underBinder v0 v1 v2 v3
  try clear_value v0
  try clear_value v1
  try clear_value v2
  have h4 : Keeps M s0 v3 := by
    unfold v3
    refine Keeps.up_assign (sub_trans rfl hM) ?_
    exact h
  try clear_value v3
  refine ite_of (P := Keeps M s0) ?_ ?_
  ·
    refine (keeps_State_finish (sub_trans rfl hM)) ?_
    exact h
  ·
    refine ite_of (P := Keeps M s0) ?_ ?_
    ·
      refine (keeps_State_finish (sub_trans rfl hM)) ?_
      exact h
    ·
      refine (keeps_State_finish (sub_trans rfl hM)) ?_
      refine (keeps_State_bankStale (sub_trans rfl hM)) ?_
      refine (keeps_State_bankStale (sub_trans rfl hM)) ?_
      exact h4

theorem keeps_State_holdTorqueEnd {M : Nat} (hM : Nat.land 536879104 M = 536879104) {s0 : State} {s : State} {p1 : Nat} (h : Keeps M s0 s) : Keeps M s0 (State.holdTorqueEnd s p1) := by
  unfold State.holdTorqueEnd
  split
  ·
    exact h
  ·
    refine (keeps_State_modLoop (sub_trans rfl hM)) ?_
    refine ite_of (P := Keeps M s0) ?_ ?_
    ·
      refine (keeps_State_advanceTo (sub_trans rfl hM)) ?_
      exact h
    ·
      exact h

theorem keeps_State_cmdIdentify {M : Nat} (hM : Nat.land 234881024 M = 234881024) {s0 : State} {s : State} {p1 : Req} (h : Keeps M s0 s) : Keeps M s0 (State.cmdIdentify s p1) := by
  unfold State.cmdIdentify
  refine (keeps_State_finish (sub_trans rfl hM)) ?_
  exact h

theorem keeps_State_cmdLpImage {M : Nat} (hM : Nat.land 35184606971953 M = 35184606971953) {s0 : State} {s : State} {p1 : Req} (h : Keeps M s0 s) : Keeps M s0 (State.cmdLpImage s p1) := by
  unfold State.cmdLpImage
  extract_lets -merge -useContext -underBinder v0 v1 v2 v3 v4 v5
  try clear_value v0
  try clear_value v1
  try clear_value v2
  try clear_value v3
  try clear_value v4
  have h6 : Keeps M s0 v5 := by
    unfold v5
    refine (keeps_State_event (sub_trans rfl hM)) ?_
    refine foldl_of (P := Keeps M s0) ?_ ?_
    ·
      exact h
    · intro t7 x8 h9
      beta_reduce
      refine (keeps_State_lpMemWrite (sub_trans rfl hM)) ?_
      exact h9
  try clear_value v5
  refine ite_of (P := Keeps M s0) ?_ ?_
  ·
    refine (keeps_State_bad (sub_trans rfl hM)) ?_
    exact h
  ·
    refine ite_of (P := Keeps M s0) ?_ ?_
    ·
      refine (keeps_State_finish (sub_trans rfl hM)) ?_
      refine (keeps_State_event (sub_trans rfl hM)) ?_
      exact h
    ·
      refine ite_of (P := Keeps M s0) ?_ ?_
      ·
        refine (keeps_State_await (sub_trans rfl hM)) ?_
        refine (keeps_State_lpVerify (sub_trans rfl hM)) ?_
        exact h6
      ·
        refine (keeps_State_finish (sub_trans rfl hM)) ?_
        exact h6

theorem keeps_State_cmdEnable {M : Nat} (hM : Nat.land 146800640001 M = 146800640001) {s0 : State} {s : State} {p1 : Req} (h : Keeps M s0 s) : Keeps M s0 (State.cmdEnable s p1) := by
  unfold State.cmdEnable
  extract_lets -merge -useContext -underBinder v0 v1
  try clear_value v0
  have h2 : Keeps M s0 v1 := by
    unfold v1
    refine (keeps_State_modLoop (sub_trans rfl hM)) ?_
    refine (keeps_State_injAbort (sub_trans rfl hM)) ?_
    exact h
  try clear_value v1
  refine ite_of (P := Keeps M s0) ?_ ?_
  ·
    refine ite_of (P := Keeps M s0) ?_ ?_
    ·
      refine (keeps_State_finish (sub_trans rfl hM)) ?_
      exact h
    ·
      refine ite_of (P := Keeps M s0) ?_ ?_
      ·
        refine (keeps_State_protAxis (sub_trans rfl hM)) ?_
        exact h
      ·
        split
        ·
          refine (keeps_State_finish (sub_trans rfl hM)) ?_
          exact h
        ·
          refine (keeps_State_finish (sub_trans rfl hM)) ?_
          refine (keeps_State_setf (sub_trans rfl hM)) ?_
          exact h
        ·
          extract_lets -merge -useContext -underBinder v3 v4
          have h5 : Keeps M s0 v3 := by
            unfold v3
            refine (keeps_State_clrf (sub_trans rfl hM)) ?_
            exact h
          try clear_value v3
          have h6 : Keeps M s0 v4 := by
            unfold v4
            refine (keeps_State_modLoop (sub_trans rfl hM)) ?_
            refine ite_of (P := Keeps M s0) ?_ ?_
            ·
              refine (keeps_State_clrf (sub_trans rfl hM)) ?_
              exact h5
            ·
              exact h5
          try clear_value v4
          refine (keeps_State_finish (sub_trans rfl hM)) ?_
          refine ite_of (P := Keeps M s0) ?_ ?_
          ·
            refine (keeps_State_pwmDrive (sub_trans rfl hM)) ?_
            refine (keeps_State_cleEnter (sub_trans rfl hM)) ?_
            exact h6
          ·
            exact h6
  ·
    refine (keeps_State_finish (sub_trans rfl hM)) ?_
    refine ite_of (P := Keeps M s0) ?_ ?_
    ·
      refine (keeps_State_pwmDrive (sub_trans rfl hM)) ?_
      refine (keeps_State_cleLeave (sub_trans rfl hM)) ?_
      exact h2
    ·
      exact h2

theorem keeps_State_cmdCanSend {M : Nat} (hM : Nat.land 144115188075855871 M = 144115188075855871) {s0 : State} {s : State} {p1 : Req} (h : Keeps M s0 s) : Keeps M s0 (State.cmdCanSend s p1) := by
  unfold State.cmdCanSend
  extract_lets -merge -useContext -underBinder v0 v1
  try clear_value v0
  try clear_value v1
  refine ite_of (P := Keeps M s0) ?_ ?_
  ·
    refine (keeps_State_bad (sub_trans rfl hM)) ?_
    exact h
  ·
    refine ite_of (P := Keeps M s0) ?_ ?_
    ·
      refine (keeps_State_finish (sub_trans rfl hM)) ?_
      exact h
    ·
      split
      ·
        refine (keeps_State_badPay (sub_trans rfl hM)) ?_
        exact h
      ·
        rename_i t2 q4
        have h3 : Keeps M s0 t2 := by
          refine KE.out q4 ?_
          refine (keeps_State_applyImage (sub_trans rfl hM)) ?_
          exact h
        extract_lets -merge -useContext -underBinder v5
        have h6 : Keeps M s0 v5 := by
          unfold v5
          refine (keeps_State_canTxgo (sub_trans rfl hM)) ?_
          exact h3
        try clear_value v5
        refine ite_of (P := Keeps M s0) ?_ ?_
        ·
          refine (keeps_State_await (sub_trans rfl hM)) ?_
          exact h6
        ·
          refine (keeps_State_finish (sub_trans rfl hM)) ?_
          exact h6

theorem keeps_State_cmdCaptureArm {M : Nat} (hM : Nat.land 9007199489622017 M = 9007199489622017) {s0 : State} {s : State} {r : Req} (h : Keeps M s0 s) : Keeps M s0 (s.cmdCaptureArm r) := by
  unfold State.cmdCaptureArm
  split
  · rename_i t q
    have ht : Keeps M s0 t := KP.out q ((keeps_State_cuArm (sub_trans rfl hM)) h)
    exact ite_of (P := Keeps M s0) ((keeps_State_await (sub_trans rfl hM)) ht) ((keeps_State_finish (sub_trans rfl hM)) ht)
  · rename_i t _ q
    have ht : Keeps M s0 t := KP.out q ((keeps_State_cuArm (sub_trans rfl hM)) h)
    exact ite_of (P := Keeps M s0) ((keeps_State_finish (sub_trans rfl hM)) ht) (ite_of (P := Keeps M s0) ((keeps_State_finish (sub_trans rfl hM)) ht) ((keeps_State_finish (sub_trans rfl hM)) ht))

theorem keeps_State_cmdCanRead {M : Nat} (hM : Nat.land 4503599862251521 M = 4503599862251521) {s0 : State} {s : State} {p1 : Req} (h : Keeps M s0 s) : Keeps M s0 (State.cmdCanRead s p1) := by
  unfold State.cmdCanRead
  extract_lets -merge -useContext -underBinder v0 v1
  try clear_value v0
  have h2 : Keeps M s0 v1 := by
    unfold v1
    refine (keeps_State_freshClear (sub_trans rfl hM)) ?_
    exact h
  try clear_value v1
  refine ite_of (P := Keeps M s0) ?_ ?_
  ·
    refine (keeps_State_finish (sub_trans rfl hM)) ?_
    exact h2
  ·
    split
    ·
      rename_i t3 q5
      have h4 : Keeps M s0 t3 := by
        refine KP.out q5 ?_
        refine (keeps_State_canDrain (sub_trans rfl hM)) ?_
        exact h
      refine (keeps_State_finish (sub_trans rfl hM)) ?_
      exact h4

end Sys2Proof.Machine
end

