-- ==== Sys2Proof/Laws/KeepAcyclic.lean ====
section
/-! SUPPORT. The operations of Machine/Acyclic.lean keep what `Keeps` says. -/

namespace Sys2Proof.Machine

theorem keepsGo_cons {M : Nat} {k : Nat} {f : State → Req → State} {l : List (Nat × (State → Req → State))}
    (hf : ∀ {s0 s : State} {r : Req}, Keeps M s0 s → Keeps M s0 (f s r))
    (hl : ∀ p ∈ l, ∀ (s0 s : State) (r : Req), Keeps M s0 s → Keeps M s0 (p.2 s r)) :
    ∀ p ∈ (k, f) :: l, ∀ (s0 s : State) (r : Req), Keeps M s0 s → Keeps M s0 (p.2 s r) := by -- mod Acyclic
  intro p hp
  rcases List.mem_cons.1 hp with rfl | hp
  · exact fun _ _ _ h => hf h
  · exact hl p hp

theorem keepsGo_nil {M : Nat} : ∀ p ∈ ([] : List (Nat × (State → Req → State))), ∀ (s0 s : State) (r : Req), Keeps M s0 s → Keeps M s0 (p.2 s r) :=
  fun _ hp => absurd hp List.not_mem_nil -- mod Acyclic

theorem keeps_goTableA {M : Nat} (hM : Nat.land 144115188075855871 M = 144115188075855871) : ∀ p ∈ goTableA, ∀ (s0 s : State) (r : Req), Keeps M s0 s → Keeps M s0 (p.2 s r) := -- mod Acyclic
  keepsGo_cons (keeps_State_cmdNop (sub_trans rfl hM)) <|
  keepsGo_cons (keeps_State_cmdIdentify (sub_trans rfl hM)) <|
  keepsGo_cons (keeps_State_cmdAbort (sub_trans rfl hM)) <|
  keepsGo_cons (keeps_State_cmdSetState (sub_trans rfl hM)) <|
  keepsGo_cons (keeps_State_cmdExpert (sub_trans rfl hM)) <|
  keepsGo_cons (keeps_State_cmdSetHamode (sub_trans rfl hM)) <|
  keepsGo_cons (keeps_State_cmdToken (sub_trans rfl hM)) <|
  keepsGo_cons (keeps_State_cmdSetClock (sub_trans rfl hM)) <|
  keepsGo_cons (keeps_State_cmdAssign (sub_trans rfl hM)) <|
  keepsGo_cons (keeps_State_cmdReadReg (sub_trans rfl hM)) <|
  keepsGo_cons (keeps_State_cmdImage (sub_trans rfl hM)) <|
  keepsGo_cons (keeps_State_cmdEnable (sub_trans rfl hM)) <|
  keepsGo_cons (keeps_State_cmdTripClear (sub_trans rfl hM)) <|
  keepsGo_cons (keeps_State_cmdHoldTorque (sub_trans rfl hM)) <|
  keepsGo_cons (keeps_State_cmdImage (sub_trans rfl hM)) <|
  keepsGo_cons (keeps_State_cmdImage (sub_trans rfl hM)) <|
  keepsGo_cons (keeps_State_cmdSetSource (sub_trans rfl hM)) <|
  keepsGo_cons (keeps_State_cmdMovePtp (sub_trans rfl hM)) <|
  keepsGo_cons (keeps_State_cmdMoveLinear (sub_trans rfl hM)) <|
  keepsGo_cons (keeps_State_cmdMoveCirc (sub_trans rfl hM)) <|
  keepsGo_cons (keeps_State_cmdMoveSpline (sub_trans rfl hM)) <|
  keepsGo_cons (keeps_State_cmdMovePvt (sub_trans rfl hM)) <|
  keepsGo_cons (keeps_State_cmdStop (sub_trans rfl hM)) <|
  keepsGo_cons (keeps_State_cmdPhaseMove (sub_trans rfl hM)) <|
  keepsGo_cons (keeps_State_cmdImage (sub_trans rfl hM)) <| keepsGo_nil

theorem keeps_goTableB {M : Nat} (hM : Nat.land 144115188075855871 M = 144115188075855871) : ∀ p ∈ goTableB, ∀ (s0 s : State) (r : Req), Keeps M s0 s → Keeps M s0 (p.2 s r) := -- mod Acyclic
  keepsGo_cons (keeps_State_cmdGear (sub_trans rfl hM)) <|
  keepsGo_cons (keeps_State_cmdCamLoad (sub_trans rfl hM)) <|
  keepsGo_cons (keeps_State_cmdCamEngage (sub_trans rfl hM)) <|
  keepsGo_cons (keeps_State_cmdCamSwitch (sub_trans rfl hM)) <|
  keepsGo_cons (keeps_State_cmdImage (sub_trans rfl hM)) <|
  keepsGo_cons (keeps_State_cmdImage (sub_trans rfl hM)) <|
  keepsGo_cons (keeps_State_cmdLoopParam (sub_trans rfl hM)) <|
  keepsGo_cons (keeps_State_cmdImage (sub_trans rfl hM)) <|
  keepsGo_cons (keeps_State_cmdCleBank (sub_trans rfl hM)) <|
  keepsGo_cons (keeps_State_cmdImage (sub_trans rfl hM)) <|
  keepsGo_cons (keeps_State_cmdTableLoad (sub_trans rfl hM)) <|
  keepsGo_cons (keeps_State_cmdTableRead (sub_trans rfl hM)) <|
  keepsGo_cons (keeps_State_cmdInject (sub_trans rfl hM)) <|
  keepsGo_cons (keeps_State_cmdImage (sub_trans rfl hM)) <|
  keepsGo_cons (keeps_State_cmdImage (sub_trans rfl hM)) <|
  keepsGo_cons (keeps_State_cmdPort (sub_trans rfl hM)) <|
  keepsGo_cons (keeps_State_cmdImage (sub_trans rfl hM)) <|
  keepsGo_cons (keeps_State_cmdLatchRead (sub_trans rfl hM)) <|
  keepsGo_cons (keeps_State_cmdCompareLoad (sub_trans rfl hM)) <|
  keepsGo_cons (keeps_State_cmdCompareArm (sub_trans rfl hM)) <|
  keepsGo_cons (keeps_State_cmdImage (sub_trans rfl hM)) <|
  keepsGo_cons (keeps_State_cmdImage (sub_trans rfl hM)) <|
  keepsGo_cons (keeps_State_cmdRegTarget (sub_trans rfl hM)) <| keepsGo_nil

theorem keeps_State_acySend {M : Nat} (hM : Nat.land 70368744177665 M = 70368744177665) {s0 : State} {s : State} {p1 : Nat} {p2 : Nat} {p3 : Nat} {p4 : List Byte} (h : Keeps M s0 s) : Keeps M s0 (State.acySend s p1 p2 p3 p4) := by
  unfold State.acySend
  refine ite_of (P := Keeps M s0) ?_ ?_
  ·
    exact h
  ·
    extract_lets -merge -useContext -underBinder v0
    try clear_value v0
    refine Keeps.forEach ?_ ?_
    ·
      exact h
    · intro t1 x2 h3
      beta_reduce
      extract_lets -merge -useContext -underBinder v4
      try clear_value v4
      refine (keeps_State_switchIn (sub_trans rfl hM)) ?_
      exact h3

theorem keeps_State_cmdAcyclic {M : Nat} (hM : Nat.land 351843787997185 M = 351843787997185) {s0 : State} {s : State} {p1 : Req} (h : Keeps M s0 s) : Keeps M s0 (State.cmdAcyclic s p1) := by
  unfold State.cmdAcyclic
  extract_lets -merge -useContext -underBinder v0 v1
  try clear_value v0
  have h2 : Keeps M s0 v1 := by
    unfold v1
    refine (keeps_State_modRm (sub_trans rfl hM)) ?_
    exact h
  try clear_value v1
  refine (keeps_State_await (sub_trans rfl hM)) ?_
  refine (keeps_State_acySend (sub_trans rfl hM)) ?_
  exact h2

theorem keeps_goTableC {M : Nat} (hM : Nat.land 144115188075855871 M = 144115188075855871) : ∀ p ∈ goTableC, ∀ (s0 s : State) (r : Req), Keeps M s0 s → Keeps M s0 (p.2 s r) := -- mod Acyclic
  keepsGo_cons (keeps_State_cmdSwitchConfig (sub_trans rfl hM)) <|
  keepsGo_cons (keeps_State_cmdPtpConfig (sub_trans rfl hM)) <|
  keepsGo_cons (keeps_State_cmdPtpCorrect (sub_trans rfl hM)) <|
  keepsGo_cons (keeps_State_cmdRamauxTable (sub_trans rfl hM)) <|
  keepsGo_cons (keeps_State_cmdEpochArm (sub_trans rfl hM)) <|
  keepsGo_cons (keeps_State_cmdRamauxConfig (sub_trans rfl hM)) <|
  keepsGo_cons (keeps_State_cmdAcyclic (sub_trans rfl hM)) <|
  keepsGo_cons (keeps_State_cmdCanConfig (sub_trans rfl hM)) <|
  keepsGo_cons (keeps_State_cmdCanSend (sub_trans rfl hM)) <|
  keepsGo_cons (keeps_State_cmdCanRead (sub_trans rfl hM)) <|
  keepsGo_cons (keeps_State_cmdCanRecover (sub_trans rfl hM)) <|
  keepsGo_cons (keeps_State_cmdImage (sub_trans rfl hM)) <|
  keepsGo_cons (keeps_State_cmdIoWrite (sub_trans rfl hM)) <|
  keepsGo_cons (keeps_State_cmdIoRead (sub_trans rfl hM)) <|
  keepsGo_cons (keeps_State_cmdGroupRearm (sub_trans rfl hM)) <|
  keepsGo_cons (keeps_State_cmdSafeStatus (sub_trans rfl hM)) <|
  keepsGo_cons (keeps_State_cmdCaptureConfig (sub_trans rfl hM)) <|
  keepsGo_cons (keeps_State_cmdCaptureArm (sub_trans rfl hM)) <|
  keepsGo_cons (keeps_State_cmdCaptureRead (sub_trans rfl hM)) <|
  keepsGo_cons (keeps_State_cmdLogRead (sub_trans rfl hM)) <|
  keepsGo_cons (keeps_State_cmdLogFreeze (sub_trans rfl hM)) <|
  keepsGo_cons (keeps_State_cmdLogClear (sub_trans rfl hM)) <| keepsGo_nil

theorem keeps_goTableD {M : Nat} (hM : Nat.land 144115188075855871 M = 144115188075855871) : ∀ p ∈ goTableD, ∀ (s0 s : State) (r : Req), Keeps M s0 s → Keeps M s0 (p.2 s r) := -- mod Acyclic
  keepsGo_cons (keeps_State_cmdKeyLoad (sub_trans rfl hM)) <|
  keepsGo_cons (keeps_State_cmdKeyErase (sub_trans rfl hM)) <|
  keepsGo_cons (keeps_State_cmdTamperPolicy (sub_trans rfl hM)) <|
  keepsGo_cons (keeps_State_cmdDebugChallenge (sub_trans rfl hM)) <|
  keepsGo_cons (keeps_State_cmdDebugOpen (sub_trans rfl hM)) <|
  keepsGo_cons (keeps_State_cmdImage (sub_trans rfl hM)) <|
  keepsGo_cons (keeps_State_cmdTwinStart (sub_trans rfl hM)) <|
  keepsGo_cons (keeps_State_cmdJoin (sub_trans rfl hM)) <|
  keepsGo_cons (keeps_State_cmdHandover (sub_trans rfl hM)) <|
  keepsGo_cons (keeps_State_cmdFwWrite (sub_trans rfl hM)) <|
  keepsGo_cons (keeps_State_cmdFwVerify (sub_trans rfl hM)) <|
  keepsGo_cons (keeps_State_cmdFwRestart (sub_trans rfl hM)) <|
  keepsGo_cons (keeps_State_cmdLpImage (sub_trans rfl hM)) <|
  keepsGo_cons (keeps_State_cmdSafetySlot (sub_trans rfl hM)) <| keepsGo_nil

theorem mem_of_lookup {β : Type} {k : Nat} {v : β} {l : List (Nat × β)} (h : l.lookup k = some v) : (k, v) ∈ l := by -- mod Acyclic
  induction l with
  | nil => cases h
  | cons p l ih =>
    obtain ⟨a, b⟩ := p
    rw [List.lookup_cons] at h
    split at h
    · rename_i e
      cases h
      exact List.mem_cons.2 (.inl (by rw [beq_iff_eq.1 e]))
    · exact List.mem_cons.2 (.inr (ih h))

theorem keeps_State_cmdGo {M : Nat} (hM : Nat.land 144115188075855871 M = 144115188075855871) {s0 : State} {s : State} {r : Req} (h : Keeps M s0 s) : Keeps M s0 (s.cmdGo r) := by
  unfold State.cmdGo
  split
  · rename_i go q
    have hm := mem_of_lookup q
    simp only [List.mem_append] at hm
    rcases hm with ((hm | hm) | hm) | hm
    · exact (keeps_goTableA (sub_trans rfl hM)) _ hm _ _ _ h
    · exact (keeps_goTableB (sub_trans rfl hM)) _ hm _ _ _ h
    · exact (keeps_goTableC (sub_trans rfl hM)) _ hm _ _ _ h
    · exact (keeps_goTableD (sub_trans rfl hM)) _ hm _ _ _ h
  · exact (keeps_State_finish (sub_trans rfl hM)) h

theorem keeps_State_nxGo {M : Nat} (hM : Nat.land 144115188075855871 M = 144115188075855871) {s0 : State} {s : State} {p1 : Nat} {p2 : Req} (h : Keeps M s0 s) : Keeps M s0 (State.nxGo s p1 p2) := by
  unfold State.nxGo
  refine ite_of (P := Keeps M s0) ?_ ?_
  ·
    refine (keeps_State_finish (sub_trans rfl hM)) ?_
    exact h
  ·
    refine (keeps_State_cmdGo (sub_trans rfl hM)) ?_
    exact h

theorem keeps_State_servePacket {M : Nat} (hM : Nat.land 144115188075855871 M = 144115188075855871) {s0 : State} {s : State} {p1 : Req} {p2 : Nat} (h : Keeps M s0 s) : Keeps M s0 (State.servePacket s p1 p2) := by
  unfold State.servePacket
  split
  ·
    refine (keeps_State_finish (sub_trans rfl hM)) ?_
    exact h
  ·
    split
    ·
      refine (keeps_State_nxGo (sub_trans rfl hM)) ?_
      exact h
    ·
      refine (keeps_State_finish (sub_trans rfl hM)) ?_
      exact h
    ·
      refine (keeps_State_finish (sub_trans rfl hM)) ?_
      exact h
    ·
      refine (keeps_State_finish (sub_trans rfl hM)) ?_
      exact h

theorem keeps_State_packet {M : Nat} (hM : Nat.land 144115188075855871 M = 144115188075855871) {s0 : State} {s : State} {p1 : Cmd} {p2 : Nat} (h : Keeps M s0 s) : Keeps M s0 (State.packet s p1 p2) := by
  unfold State.packet
  refine (keeps_State_startWith (sub_trans rfl hM)) ?_ ?_
  ·
    exact h
  · intro x0 x2 x3 x4 x5 h1
    try beta_reduce
    refine (keeps_State_servePacket (sub_trans rfl hM)) ?_
    exact h1

theorem keeps_State_acyResponse {M : Nat} (hM : Nat.land 281475211591680 M = 281475211591680) {s0 : State} {s : State} {p1 : Nat} {p2 : List Byte} (h : Keeps M s0 s) : Keeps M s0 (State.acyResponse s p1 p2) := by
  unfold State.acyResponse
  refine ite_of (P := Keeps M s0) ?_ ?_
  ·
    exact h
  ·
    split
    ·
      exact h
    ·
      split
      ·
        exact h
      ·
        refine ite_of (P := Keeps M s0) ?_ ?_
        ·
          exact h
        ·
          extract_lets -merge -useContext -underBinder v0 v1
          have h2 : ∀ x3, Keeps M s0 x3 → Keeps M s0 (v0 x3) := by
            intro x3 h4
            unfold v0
            beta_reduce
            refine (keeps_State_modRm (sub_trans rfl hM)) ?_
            exact h4
          try clear_value v0
          try clear_value v1
          refine ite_of (P := Keeps M s0) ?_ ?_
          ·
            refine (keeps_State_finish (sub_trans rfl hM)) ?_
            refine h2 _ ?_
            exact h
          ·
            split
            ·
              refine (keeps_State_finish (sub_trans rfl hM)) ?_
              refine h2 _ ?_
              exact h
            ·
              refine (keeps_State_modRm (sub_trans rfl hM)) ?_
              exact h

theorem keeps_State_acyTimeout {M : Nat} (hM : Nat.land 281475211591680 M = 281475211591680) {s0 : State} {s : State} (h : Keeps M s0 s) : Keeps M s0 (State.acyTimeout s) := by
  unfold State.acyTimeout
  extract_lets -merge -useContext -underBinder v0 v1
  try clear_value v0
  try clear_value v1
  refine foldl_of (P := Keeps M s0) ?_ ?_
  ·
    refine (keeps_State_modRm (sub_trans rfl hM)) ?_
    exact h
  · intro t2 x3 h4
    beta_reduce
    refine (keeps_State_finish (sub_trans rfl hM)) ?_
    exact h4

theorem keeps_State_acyRefuse {M : Nat} (hM : Nat.land 70368744177665 M = 70368744177665) {s0 : State} {s : State} {p1 : Nat} {p2 : Nat} (h : Keeps M s0 s) : Keeps M s0 (State.acyRefuse s p1 p2) := by
  unfold State.acyRefuse
  refine (keeps_State_acySend (sub_trans rfl hM)) ?_
  refine (keeps_State_count (sub_trans rfl hM)) ?_
  exact h

theorem keeps_State_acyRun {M : Nat} (hM : Nat.land 144115188075855871 M = 144115188075855871) {s0 : State} {s : State} {p1 : Nat} {p2 : Nat} {p3 : List Byte} (h : Keeps M s0 s) : Keeps M s0 (State.acyRun s p1 p2 p3) := by
  unfold State.acyRun
  extract_lets -merge -useContext -underBinder v0 v1 v2 v3 v4 v5
  try clear_value v0
  try clear_value v1
  try clear_value v2
  try clear_value v3
  have h6 : Keeps M s0 v4 := by
    unfold v4
    refine (keeps_State_modRm (sub_trans rfl hM)) ?_
    refine Keeps.up_inflight (sub_trans rfl hM) ?_
    exact h
  try clear_value v4
  try clear_value v5
  refine ite_of (P := Keeps M s0) ?_ ?_
  ·
    refine (keeps_State_finish (sub_trans rfl hM)) ?_
    exact h6
  ·
    refine ite_of (P := Keeps M s0) ?_ ?_
    ·
      refine (keeps_State_finish (sub_trans rfl hM)) ?_
      exact h6
    ·
      refine ite_of (P := Keeps M s0) ?_ ?_
      ·
        refine (keeps_State_finish (sub_trans rfl hM)) ?_
        exact h6
      ·
        refine ite_of (P := Keeps M s0) ?_ ?_
        ·
          refine (keeps_State_bad (sub_trans rfl hM)) ?_
          exact h6
        ·
          refine ite_of (P := Keeps M s0) ?_ ?_
          ·
            refine (keeps_State_bad (sub_trans rfl hM)) ?_
            exact h6
          ·
            refine ite_of (P := Keeps M s0) ?_ ?_
            ·
              refine (keeps_State_servePacket (sub_trans rfl hM)) ?_
              exact h6
            ·
              refine (keeps_State_serveWith (sub_trans rfl hM)) ?_ ?_
              ·
                exact h6
              · intro x7 x9 h8
                try beta_reduce
                refine (keeps_State_cmdGo (sub_trans rfl hM)) ?_
                exact h8

theorem keeps_State_acyRequest {M : Nat} (hM : Nat.land 144115188075855871 M = 144115188075855871) {s0 : State} {s : State} {p1 : Nat} {p2 : Bool} {p3 : List Byte} (h : Keeps M s0 s) : Keeps M s0 (State.acyRequest s p1 p2 p3) := by
  unfold State.acyRequest
  refine ite_of (P := Keeps M s0) ?_ ?_
  ·
    exact h
  ·
    split
    ·
      exact h
    ·
      refine ite_of (P := Keeps M s0) ?_ ?_
      ·
        exact h
      ·
        split
        ·
          refine ite_of (P := Keeps M s0) ?_ ?_
          ·
            refine (keeps_State_acySend (sub_trans rfl hM)) ?_
            refine (keeps_State_count (sub_trans rfl hM)) ?_
            exact h
          ·
            exact h
        ·
          refine ite_of (P := Keeps M s0) ?_ ?_
          ·
            exact h
          ·
            extract_lets -merge -useContext -underBinder v0 v1 v2
            try clear_value v0
            try clear_value v1
            try clear_value v2
            split
            ·
              refine (keeps_State_modRm (sub_trans rfl hM)) ?_
              exact h
            ·
              extract_lets -merge -useContext -underBinder v3
              have h4 : Keeps M s0 v3 := by
                unfold v3
                refine (keeps_State_modRm (sub_trans rfl hM)) ?_
                exact h
              try clear_value v3
              refine ite_of (P := Keeps M s0) ?_ ?_
              ·
                exact h4
              ·
                refine ite_of (P := Keeps M s0) ?_ ?_
                ·
                  refine (keeps_State_acyRefuse (sub_trans rfl hM)) ?_
                  exact h4
                ·
                  refine (keeps_State_acyRun (sub_trans rfl hM)) ?_
                  exact h4

theorem keeps_State_completionOut {M : Nat} (hM : Nat.land 36380640974737921 M = 36380640974737921) {s0 : State} {s : State} {p1 : Bool} (h : Keeps M s0 s) : Keeps M s0 (State.completionOut s p1) := by
  unfold State.completionOut
  split
  ·
    exact h
  ·
    split
    ·
      refine (keeps_State_completionWrite (sub_trans rfl hM)) ?_
      exact h
    ·
      extract_lets -merge -useContext -underBinder v0 v1 v2 v3
      try clear_value v0
      try clear_value v1
      try clear_value v2
      have h4 : Keeps M s0 v3 := by
        unfold v3
        refine Keeps.up_inflight_completions (sub_trans rfl hM) ?_
        exact h
      try clear_value v3
      refine (keeps_State_acySend (sub_trans rfl hM)) ?_
      refine (keeps_State_modRm (sub_trans rfl hM)) ?_
      exact h4

end Sys2Proof.Machine
end

