-- ==== Sys2Proof/Laws/KeepRows.lean ====
section
/-! SUPPORT. The meanings of the commands keep what `Keeps` says. -/

namespace Sys2Proof.Machine

theorem keeps_execExpert {M : Nat} (hM : Nat.land 234881025 M = 234881025) {s0 : State} {p0 : Cmd} {s : State} (h : Keeps M s0 s) : KX M s0 (execExpert p0 s) := by
  unfold execExpert
  refine KX.next ?_
  refine (keeps_State_command (sub_trans rfl hM)) ?_ ?_
  ·
    exact h
  · intro x0 x2 h1
    try beta_reduce
    refine (keeps_State_cmdExpert (sub_trans rfl hM)) ?_
    exact h1

theorem keeps_execStillTimeout {M : Nat} (hM : Nat.land 8193 M = 8193) {s0 : State} {p0 : Fin 40} {s : State} (h : Keeps M s0 s) : KX M s0 (execStillTimeout p0 s) := by
  unfold execStillTimeout
  refine KX.next ?_
  refine (keeps_State_stillTimeout (sub_trans rfl hM)) ?_
  exact h

theorem keeps_execAtcConfig {M : Nat} (hM : Nat.land 144115188075855871 M = 144115188075855871) {s0 : State} {p0 : Cmd} {s : State} (h : Keeps M s0 s) : KX M s0 (execAtcConfig p0 s) := by
  unfold execAtcConfig
  refine KX.next ?_
  refine (keeps_State_command (sub_trans rfl hM)) ?_ ?_
  ·
    exact h
  · intro x0 x2 h1
    try beta_reduce
    refine (keeps_State_cmdImage (sub_trans rfl hM)) ?_
    exact h1

theorem keeps_execAuxPeriodStart {M : Nat} (hM : Nat.land 60129556483 M = 60129556483) {s0 : State} {p0 : Fin 8} {s : State} (h : Keeps M s0 s) : KX M s0 (execAuxPeriodStart p0 s) := by
  unfold execAuxPeriodStart
  refine KX.next ?_
  refine (keeps_State_auxStart (sub_trans rfl hM)) ?_
  exact h

theorem keeps_execHandoverGo {M : Nat} (hM : Nat.land 1 M = 1) {s0 : State} {s : State} (h : Keeps M s0 s) : KX M s0 (execHandoverGo s) := by
  unfold execHandoverGo
  refine KX.next ?_
  refine (keeps_State_hostCmd (sub_trans rfl hM)) ?_ ?_
  ·
    exact h
  · intro x0 h1
    try beta_reduce
    refine KP.snd ?_
    refine (keeps_State_handoverGo (sub_trans rfl hM)) ?_
    exact h1

theorem keeps_execPwmCommitAll {M : Nat} (hM : Nat.land 8589934593 M = 8589934593) {s0 : State} {p0 : Fin 32} {s : State} (h : Keeps M s0 s) : KX M s0 (execPwmCommitAll p0 s) := by
  unfold execPwmCommitAll
  refine KX.next ?_
  refine (keeps_State_hostCmd (sub_trans rfl hM)) ?_ ?_
  ·
    exact h
  · intro x0 h1
    try beta_reduce
    refine (keeps_State_pwmAll (sub_trans rfl hM)) ?_
    exact h1

theorem keeps_execSafeResetLongHigh {M : Nat} (hM : Nat.land 140737488359425 M = 140737488359425) {s0 : State} {s : State} (h : Keeps M s0 s) : KX M s0 (execSafeResetLongHigh s) := by
  unfold execSafeResetLongHigh
  refine KX.next ?_
  refine (keeps_State_safeGroup (sub_trans rfl hM)) ?_
  refine (keeps_State_resetLongHigh (sub_trans rfl hM)) ?_
  exact h

theorem keeps_execReadReg {M : Nat} (hM : Nat.land 100330670948353 M = 100330670948353) {s0 : State} {p0 : Cmd} {s : State} (h : Keeps M s0 s) : KX M s0 (execReadReg p0 s) := by
  unfold execReadReg
  refine KX.next ?_
  refine (keeps_State_command (sub_trans rfl hM)) ?_ ?_
  ·
    exact h
  · intro x0 x2 h1
    try beta_reduce
    refine (keeps_State_cmdReadReg (sub_trans rfl hM)) ?_
    exact h1

theorem keeps_execSetState {M : Nat} (hM : Nat.land 72057594272808960 M = 72057594272808960) {s0 : State} {p0 : Cmd} {s : State} (h : Keeps M s0 s) : KX M s0 (execSetState p0 s) := by
  unfold execSetState
  refine KX.next ?_
  refine (keeps_State_command (sub_trans rfl hM)) ?_ ?_
  ·
    exact h
  · intro x0 x2 h1
    try beta_reduce
    refine (keeps_State_cmdSetState (sub_trans rfl hM)) ?_
    exact h1

theorem keeps_execVerifyDone {M : Nat} (hM : Nat.land 35184606978049 M = 35184606978049) {s0 : State} {p0 : Fin 16} {s : State} (h : Keeps M s0 s) : KX M s0 (execVerifyDone p0 s) := by
  unfold execVerifyDone
  refine KX.next ?_
  refine (keeps_State_verifyDone (sub_trans rfl hM)) ?_
  exact h

theorem keeps_execSwitchBankSample {M : Nat} (hM : Nat.land 140737488369665 M = 140737488369665) {s0 : State} {p0 : BitVec 8} {p1 : BitVec 8} {s : State} (h : Keeps M s0 s) : KX M s0 (execSwitchBankSample p0 p1 s) := by
  unfold execSwitchBankSample
  refine KX.next ?_
  refine (keeps_State_safeGroup (sub_trans rfl hM)) ?_
  refine (keeps_State_switchSample (sub_trans rfl hM)) ?_
  exact h

theorem keeps_execSsiFrameStart {M : Nat} (hM : Nat.land 73729 M = 73729) {s0 : State} {p0 : Fin 40} {s : State} (h : Keeps M s0 s) : KX M s0 (execSsiFrameStart p0 s) := by
  unfold execSsiFrameStart
  refine KX.next ?_
  refine (keeps_State_ssiStartRow (sub_trans rfl hM)) ?_
  exact h

theorem keeps_execRecordAppend {M : Nat} (hM : Nat.land 18014398509486081 M = 18014398509486081) {s0 : State} {s : State} (h : Keeps M s0 s) : KX M s0 (execRecordAppend s) := by
  unfold execRecordAppend
  refine KX.next ?_
  refine (keeps_State_recordAppend (sub_trans rfl hM)) ?_
  exact h

theorem keeps_execMergeWindowEnd {M : Nat} (hM : Nat.land 18014398509490177 M = 18014398509490177) {s0 : State} {s : State} (h : Keeps M s0 s) : KX M s0 (execMergeWindowEnd s) := by
  unfold execMergeWindowEnd
  refine KX.next ?_
  refine (keeps_State_mergeEnd (sub_trans rfl hM)) ?_
  exact h

theorem keeps_execLockRelease {M : Nat} (hM : Nat.land 10995116277761 M = 10995116277761) {s0 : State} {p0 : Fin 29} {p1 : Fin 64} {s : State} (h : Keeps M s0 s) : KX M s0 (execLockRelease p0 p1 s) := by
  unfold execLockRelease
  refine KX.next ?_
  refine (keeps_State_lockRelease (sub_trans rfl hM)) ?_
  exact h

theorem keeps_execInjDone {M : Nat} (hM : Nat.land 36290304686105 M = 36290304686105) {s0 : State} {p0 : Fin 16} {s : State} (h : Keeps M s0 s) : KX M s0 (execInjDone p0 s) := by
  unfold execInjDone
  refine KX.next ?_
  refine (keeps_State_injDoneRow (sub_trans rfl hM)) ?_
  exact h

theorem keeps_execCanTxwd {M : Nat} (hM : Nat.land 4503599627370497 M = 4503599627370497) {s0 : State} {p0 : Fin 4} {p1 : Word64} {s : State} (h : Keeps M s0 s) : KX M s0 (execCanTxwd p0 p1 s) := by
  unfold execCanTxwd
  refine KX.next ?_
  refine (keeps_State_hostCmd (sub_trans rfl hM)) ?_ ?_
  ·
    exact h
  · intro x0 h1
    try beta_reduce
    refine (keeps_State_canTxwd (sub_trans rfl hM)) ?_
    exact h1

theorem keeps_execHostKick {M : Nat} (hM : Nat.land 36028797020026881 M = 36028797020026881) {s0 : State} {s : State} (h : Keeps M s0 s) : KX M s0 (execHostKick s) := by
  unfold execHostKick
  refine KX.next ?_
  refine (keeps_State_hostCmd (sub_trans rfl hM)) ?_ ?_
  ·
    exact h
  · intro x0 h1
    try beta_reduce
    refine (keeps_State_hostKick (sub_trans rfl hM)) ?_
    exact h1

theorem keeps_execPpsOutEdge {M : Nat} (hM : Nat.land 70368744189953 M = 70368744189953) {s0 : State} {s : State} (h : Keeps M s0 s) : KX M s0 (execPpsOutEdge s) := by
  unfold execPpsOutEdge
  refine KX.next ?_
  refine (keeps_State_ppsEdge (sub_trans rfl hM)) ?_
  exact h

theorem keeps_execSysResetWrite {M : Nat} (hM : Nat.land 144115188075855871 M = 144115188075855871) {s0 : State} {p0 : Word} {s : State} (h : Keeps M s0 s) : KX M s0 (execSysResetWrite p0 s) := by
  unfold execSysResetWrite
  refine (keeps_hostWord (sub_trans rfl hM)) ?_ ?_
  ·
    exact h
  · intro x0 h1
    try beta_reduce
    refine (keeps_State_sysReset (sub_trans rfl hM)) ?_
    exact h1

theorem keeps_execKeeperExpiry {M : Nat} (hM : Nat.land 234960897 M = 234960897) {s0 : State} {s : State} (h : Keeps M s0 s) : KX M s0 (execKeeperExpiry s) := by
  unfold execKeeperExpiry
  refine KX.next ?_
  refine (keeps_State_keeperExpiry (sub_trans rfl hM)) ?_
  exact h

theorem keeps_execStatus {M : Nat} (hM : Nat.land 144115188075855871 M = 144115188075855871) {s0 : State} {p0 : Cmd} {s : State} (h : Keeps M s0 s) : KX M s0 (execStatus p0 s) := by
  unfold execStatus
  refine KX.next ?_
  refine (keeps_State_packet (sub_trans rfl hM)) ?_
  exact h

theorem keeps_execLd64 {M : Nat} (hM : Nat.land 64880312854529 M = 64880312854529) {s0 : State} {p0 : Fin 16} {p1 : Fin 8} {p2 : Fin 8} {p3 : AMode} {s : State} (h : Keeps M s0 s) : KX M s0 (execLd64 p0 p1 p2 p3 s) := by
  unfold execLd64
  refine KX.next ?_
  refine (keeps_State_lpLd64 (sub_trans rfl hM)) ?_
  exact h

theorem keeps_execBellReport {M : Nat} (hM : Nat.land 351843720892417 M = 351843720892417) {s0 : State} {p0 : Fin 1024} {s : State} (h : Keeps M s0 s) : KX M s0 (execBellReport p0 s) := by
  unfold execBellReport
  refine KX.next ?_
  refine (keeps_State_bellReport (sub_trans rfl hM)) ?_
  exact h

theorem keeps_execHandoverRelease {M : Nat} (hM : Nat.land 234952705 M = 234952705) {s0 : State} {s : State} (h : Keeps M s0 s) : KX M s0 (execHandoverRelease s) := by
  unfold execHandoverRelease
  refine KX.next ?_
  refine (keeps_State_handoverRelease (sub_trans rfl hM)) ?_
  exact h

theorem keeps_execDebugChallenge {M : Nat} (hM : Nat.land 1125900141723648 M = 1125900141723648) {s0 : State} {p0 : Cmd} {s : State} (h : Keeps M s0 s) : KX M s0 (execDebugChallenge p0 s) := by
  unfold execDebugChallenge
  refine KX.next ?_
  refine (keeps_State_command (sub_trans rfl hM)) ?_ ?_
  ·
    exact h
  · intro x0 x2 h1
    try beta_reduce
    refine (keeps_State_cmdDebugChallenge (sub_trans rfl hM)) ?_
    exact h1

theorem keeps_execLatchClr {M : Nat} (hM : Nat.land 131073 M = 131073) {s0 : State} {p0 : Fin 32} {s : State} (h : Keeps M s0 s) : KX M s0 (execLatchClr p0 s) := by
  unfold execLatchClr
  refine KX.next ?_
  refine (keeps_State_hostCmd (sub_trans rfl hM)) ?_ ?_
  ·
    exact h
  · intro x0 h1
    try beta_reduce
    refine (keeps_State_latchClr (sub_trans rfl hM)) ?_
    exact h1

theorem keeps_execCleBank {M : Nat} (hM : Nat.land 144115188075855871 M = 144115188075855871) {s0 : State} {p0 : Cmd} {s : State} (h : Keeps M s0 s) : KX M s0 (execCleBank p0 s) := by
  unfold execCleBank
  refine KX.next ?_
  refine (keeps_State_command (sub_trans rfl hM)) ?_ ?_
  ·
    exact h
  · intro x0 x2 h1
    try beta_reduce
    refine (keeps_State_cmdCleBank (sub_trans rfl hM)) ?_
    exact h1

theorem keeps_execAcyclicRequestReceive {M : Nat} (hM : Nat.land 144115188075855871 M = 144115188075855871) {s0 : State} {p0 : Fin 1024} {p1 : Bool} {p2 : List Byte} {s : State} (h : Keeps M s0 s) : KX M s0 (execAcyclicRequestReceive p0 p1 p2 s) := by
  unfold execAcyclicRequestReceive
  refine KX.next ?_
  refine (keeps_State_acyRequest (sub_trans rfl hM)) ?_
  exact h

theorem keeps_execCanHaltEffect {M : Nat} (hM : Nat.land 4503599627370496 M = 4503599627370496) {s0 : State} {p0 : Fin 4} {s : State} (h : Keeps M s0 s) : KX M s0 (execCanHaltEffect p0 s) := by
  unfold execCanHaltEffect
  refine KX.next ?_
  refine (keeps_State_canHalt (sub_trans rfl hM)) ?_
  exact h

theorem keeps_execMov {M : Nat} (hM : Nat.land 70102993086681 M = 70102993086681) {s0 : State} {p0 : Fin 16} {p1 : Fin 16} {p2 : AluSrc} {s : State} (h : Keeps M s0 s) : KX M s0 (execMov p0 p1 p2 s) := by
  unfold execMov
  refine KX.next ?_
  refine (keeps_lpAlu (sub_trans rfl hM)) ?_
  exact h

theorem keeps_execLevelAccepted {M : Nat} (hM : Nat.land 9289976658753539 M = 9289976658753539) {s0 : State} {p0 : Fin 40} {p1 : Fin 3} {s : State} (h : Keeps M s0 s) : KX M s0 (execLevelAccepted p0 p1 s) := by
  unfold execLevelAccepted
  refine KX.next ?_
  refine (keeps_State_levelRow (sub_trans rfl hM)) ?_
  exact h

theorem keeps_execHoldTorqueEnd {M : Nat} (hM : Nat.land 536879104 M = 536879104) {s0 : State} {p0 : Fin 32} {s : State} (h : Keeps M s0 s) : KX M s0 (execHoldTorqueEnd p0 s) := by
  unfold execHoldTorqueEnd
  refine KX.next ?_
  refine (keeps_State_holdTorqueEnd (sub_trans rfl hM)) ?_
  exact h

theorem keeps_execRefInAcquire {M : Nat} (hM : Nat.land 8193 M = 8193) {s0 : State} {s : State} (h : Keeps M s0 s) : KX M s0 (execRefInAcquire s) := by
  unfold execRefInAcquire
  refine KX.next ?_
  refine (keeps_State_refAcquire (sub_trans rfl hM)) ?_
  exact h

theorem keeps_execSwitchFrameReceive {M : Nat} (hM : Nat.land 351843720892417 M = 351843720892417) {s0 : State} {p0 : Fin 4} {p1 : Fin 8} {p2 : EthFrame} {s : State} (h : Keeps M s0 s) : KX M s0 (execSwitchFrameReceive p0 p1 p2 s) := by
  unfold execSwitchFrameReceive
  refine KX.next ?_
  refine (keeps_State_switchFrame (sub_trans rfl hM)) ?_
  exact h

theorem keeps_execCamEngage {M : Nat} (hM : Nat.land 235929601 M = 235929601) {s0 : State} {p0 : Cmd} {s : State} (h : Keeps M s0 s) : KX M s0 (execCamEngage p0 s) := by
  unfold execCamEngage
  refine KX.next ?_
  refine (keeps_State_command (sub_trans rfl hM)) ?_ ?_
  ·
    exact h
  · intro x0 x2 h1
    try beta_reduce
    refine (keeps_State_cmdCamEngage (sub_trans rfl hM)) ?_
    exact h1

theorem keeps_execHoldTorque {M : Nat} (hM : Nat.land 771751936 M = 771751936) {s0 : State} {p0 : Cmd} {s : State} (h : Keeps M s0 s) : KX M s0 (execHoldTorque p0 s) := by
  unfold execHoldTorque
  refine KX.next ?_
  refine (keeps_State_command (sub_trans rfl hM)) ?_ ?_
  ·
    exact h
  · intro x0 x2 h1
    try beta_reduce
    refine (keeps_State_cmdHoldTorque (sub_trans rfl hM)) ?_
    exact h1

theorem keeps_execRep {M : Nat} (hM : Nat.land 45089103554561 M = 45089103554561) {s0 : State} {p0 : Fin 16} {p1 : LpCount} {p2 : BitVec 18} {s : State} (h : Keeps M s0 s) : KX M s0 (execRep p0 p1 p2 s) := by
  unfold execRep
  refine KX.next ?_
  refine (keeps_State_lpRep (sub_trans rfl hM)) ?_
  exact h

theorem keeps_execCompareRamWrite {M : Nat} (hM : Nat.land 262149 M = 262149) {s0 : State} {p0 : Fin 262144} {p1 : Word} {s : State} (h : Keeps M s0 s) : KX M s0 (execCompareRamWrite p0 p1 s) := by
  unfold execCompareRamWrite
  refine KX.next ?_
  refine (keeps_State_hostCmd (sub_trans rfl hM)) ?_ ?_
  ·
    exact h
  · intro x0 h1
    try beta_reduce
    refine (keeps_State_cmpRamWrite (sub_trans rfl hM)) ?_
    exact h1

theorem keeps_execEpochChange {M : Nat} (hM : Nat.land 281475211593729 M = 281475211593729) {s0 : State} {s : State} (h : Keeps M s0 s) : KX M s0 (execEpochChange s) := by
  unfold execEpochChange
  refine KX.next ?_
  refine (keeps_State_epochChange (sub_trans rfl hM)) ?_
  exact h

theorem keeps_execExp {M : Nat} (hM : Nat.land 70102993086681 M = 70102993086681) {s0 : State} {p0 : Fin 16} {p1 : Fin 16} {p2 : ExpSrc} {p3 : Move} {s : State} (h : Keeps M s0 s) : KX M s0 (execExp p0 p1 p2 p3 s) := by
  unfold execExp
  refine KX.next ?_
  refine (keeps_State_lpExp (sub_trans rfl hM)) ?_
  exact h

theorem keeps_execLineShaftCoast {M : Nat} (hM : Nat.land 1099520022529 M = 1099520022529) {s0 : State} {p0 : Fin 16} {s : State} (h : Keeps M s0 s) : KX M s0 (execLineShaftCoast p0 s) := by
  unfold execLineShaftCoast
  refine KX.next ?_
  refine (keeps_State_shaftFrame (sub_trans rfl hM)) ?_
  exact h

theorem keeps_execStopBoundary {M : Nat} (hM : Nat.land 242221057 M = 242221057) {s0 : State} {s : State} (h : Keeps M s0 s) : KX M s0 (execStopBoundary s) := by
  unfold execStopBoundary
  refine KX.next ?_
  refine (keeps_State_stopBoundary (sub_trans rfl hM)) ?_
  exact h

theorem keeps_execClockReset {M : Nat} (hM : Nat.land 144115188075855871 M = 144115188075855871) {s0 : State} {s : State} (h : Keeps M s0 s) : KX M s0 (execClockReset s) := by
  unfold execClockReset
  refine KX.next ?_
  refine (keeps_State_clockReset (sub_trans rfl hM)) ?_
  exact h

theorem keeps_execLpImage {M : Nat} (hM : Nat.land 35184606971953 M = 35184606971953) {s0 : State} {p0 : Cmd} {s : State} (h : Keeps M s0 s) : KX M s0 (execLpImage p0 s) := by
  unfold execLpImage
  refine KX.next ?_
  refine (keeps_State_command (sub_trans rfl hM)) ?_ ?_
  ·
    exact h
  · intro x0 x2 h1
    try beta_reduce
    refine (keeps_State_cmdLpImage (sub_trans rfl hM)) ?_
    exact h1

theorem keeps_execPerstAssert {M : Nat} (hM : Nat.land 36037593279764993 M = 36037593279764993) {s0 : State} {s : State} (h : Keeps M s0 s) : KX M s0 (execPerstAssert s) := by
  unfold execPerstAssert
  refine KX.next ?_
  refine (keeps_State_perst (sub_trans rfl hM)) ?_
  exact h

theorem keeps_execAdds {M : Nat} (hM : Nat.land 70102993086681 M = 70102993086681) {s0 : State} {p0 : Fin 16} {p1 : Fin 16} {p2 : Fin 16} {p3 : Fin 16} {p4 : Move} {s : State} (h : Keeps M s0 s) : KX M s0 (execAdds p0 p1 p2 p3 p4 s) := by
  unfold execAdds
  refine KX.next ?_
  refine (keeps_lpAlu (sub_trans rfl hM)) ?_
  exact h

theorem keeps_execActOutAssert {M : Nat} (hM : Nat.land 844424931260417 M = 844424931260417) {s0 : State} {s : State} (h : Keeps M s0 s) : KX M s0 (execActOutAssert s) := by
  unfold execActOutAssert
  refine KX.next ?_
  refine (keeps_State_actOutAssert (sub_trans rfl hM)) ?_
  exact h

theorem keeps_execLatchConfig {M : Nat} (hM : Nat.land 144115188075855871 M = 144115188075855871) {s0 : State} {p0 : Cmd} {s : State} (h : Keeps M s0 s) : KX M s0 (execLatchConfig p0 s) := by
  unfold execLatchConfig
  refine KX.next ?_
  refine (keeps_State_command (sub_trans rfl hM)) ?_ ?_
  ·
    exact h
  · intro x0 x2 h1
    try beta_reduce
    refine (keeps_State_cmdImage (sub_trans rfl hM)) ?_
    exact h1

theorem keeps_execCuDisarm {M : Nat} (hM : Nat.land 9007199489626113 M = 9007199489626113) {s0 : State} {p0 : Fin 8} {s : State} (h : Keeps M s0 s) : KX M s0 (execCuDisarm p0 s) := by
  unfold execCuDisarm
  refine KX.next ?_
  refine (keeps_State_hostCmd (sub_trans rfl hM)) ?_ ?_
  ·
    exact h
  · intro x0 h1
    try beta_reduce
    refine (keeps_State_cuDisarm (sub_trans rfl hM)) ?_
    exact h1

theorem keeps_execPwmClrcnt {M : Nat} (hM : Nat.land 1 M = 1) {s0 : State} {p0 : Fin 32} {s : State} (h : Keeps M s0 s) : KX M s0 (execPwmClrcnt p0 s) := by
  unfold execPwmClrcnt
  refine KX.next ?_
  refine (keeps_State_hostCmd (sub_trans rfl hM)) ?_ ?_
  ·
    exact h
  · intro x0 h1
    try beta_reduce
    refine (keeps_State_pwmClrCnt (sub_trans rfl hM)) ?_
    exact h1

theorem keeps_execBadaccClr {M : Nat} (hM : Nat.land 1 M = 1) {s0 : State} {p0 : Fin 10} {s : State} (h : Keeps M s0 s) : KX M s0 (execBadaccClr p0 s) := by
  unfold execBadaccClr
  refine KX.next ?_
  refine (keeps_State_badAccClr (sub_trans rfl hM)) ?_
  exact h

theorem keeps_execMovePtp {M : Nat} (hM : Nat.land 238026753 M = 238026753) {s0 : State} {p0 : Cmd} {s : State} (h : Keeps M s0 s) : KX M s0 (execMovePtp p0 s) := by
  unfold execMovePtp
  refine KX.next ?_
  refine (keeps_State_command (sub_trans rfl hM)) ?_ ?_
  ·
    exact h
  · intro x0 x2 h1
    try beta_reduce
    refine (keeps_State_cmdMovePtp (sub_trans rfl hM)) ?_
    exact h1

theorem keeps_execFgRearm {M : Nat} (hM : Nat.land 1 M = 1) {s0 : State} {p0 : Fin 4} {s : State} (h : Keeps M s0 s) : KX M s0 (execFgRearm p0 s) := by
  unfold execFgRearm
  refine KX.next ?_
  refine (keeps_State_hostCmd (sub_trans rfl hM)) ?_ ?_
  ·
    exact h
  · intro x0 h1
    try beta_reduce
    refine KP.snd ?_
    refine (keeps_State_fgRearm (sub_trans rfl hM)) ?_
    exact h1

theorem keeps_execCuFire {M : Nat} (hM : Nat.land 9007199254740993 M = 9007199254740993) {s0 : State} {p0 : Fin 8} {s : State} (h : Keeps M s0 s) : KX M s0 (execCuFire p0 s) := by
  unfold execCuFire
  refine KX.next ?_
  refine (keeps_State_hostCmd (sub_trans rfl hM)) ?_ ?_
  ·
    exact h
  · intro x0 h1
    try beta_reduce
    refine (keeps_State_cuFire (sub_trans rfl hM)) ?_
    exact h1

theorem keeps_execPwmTclr {M : Nat} (hM : Nat.land 25769809921 M = 25769809921) {s0 : State} {p0 : Fin 32} {s : State} (h : Keeps M s0 s) : KX M s0 (execPwmTclr p0 s) := by
  unfold execPwmTclr
  refine KX.next ?_
  refine (keeps_State_hostCmd (sub_trans rfl hM)) ?_ ?_
  ·
    exact h
  · intro x0 h1
    try beta_reduce
    refine (keeps_State_pwmTclr (sub_trans rfl hM)) ?_
    exact h1

theorem keeps_execReadbackError {M : Nat} (hM : Nat.land 6145 M = 6145) {s0 : State} {p0 : Fin 32} {p1 : Bool} {s : State} (h : Keeps M s0 s) : KX M s0 (execReadbackError p0 p1 s) := by
  unfold execReadbackError
  refine KX.next ?_
  refine (keeps_State_readback (sub_trans rfl hM)) ?_
  exact h

theorem keeps_execCommandCompletion {M : Nat} (hM : Nat.land 36380640974737921 M = 36380640974737921) {s0 : State} {p0 : Bool} {s : State} (h : Keeps M s0 s) : KX M s0 (execCommandCompletion p0 s) := by
  unfold execCommandCompletion
  refine KX.next ?_
  refine (keeps_State_completionOut (sub_trans rfl hM)) ?_
  exact h

theorem keeps_execLogNext {M : Nat} (hM : Nat.land 18014398509481985 M = 18014398509481985) {s0 : State} {s : State} (h : Keeps M s0 s) : KX M s0 (execLogNext s) := by
  unfold execLogNext
  refine KX.next ?_
  refine (keeps_State_hostCmd (sub_trans rfl hM)) ?_ ?_
  ·
    exact h
  · intro x0 h1
    try beta_reduce
    refine (keeps_State_logNext (sub_trans rfl hM)) ?_
    exact h1

theorem keeps_execTokenExecute {M : Nat} (hM : Nat.land 35330635857937 M = 35330635857937) {s0 : State} {p0 : Fin 8} {s : State} (h : Keeps M s0 s) : KX M s0 (execTokenExecute p0 s) := by
  unfold execTokenExecute
  refine KX.next ?_
  refine (keeps_State_tokenExecute (sub_trans rfl hM)) ?_
  exact h

theorem keeps_execBootImageSelect {M : Nat} (hM : Nat.land 72057594037936129 M = 72057594037936129) {s0 : State} {p0 : BootImage} {p1 : BootImage} {s : State} (h : Keeps M s0 s) : KX M s0 (execBootImageSelect p0 p1 s) := by
  unfold execBootImageSelect
  refine KX.next ?_
  refine (keeps_State_bootSelect (sub_trans rfl hM)) ?_
  exact h

theorem keeps_execCleLatClr {M : Nat} (hM : Nat.land 1 M = 1) {s0 : State} {p0 : Fin 8} {s : State} (h : Keeps M s0 s) : KX M s0 (execCleLatClr p0 s) := by
  unfold execCleLatClr
  refine KX.next ?_
  refine (keeps_State_hostCmd (sub_trans rfl hM)) ?_ ?_
  ·
    exact h
  · intro x0 h1
    try beta_reduce
    refine (keeps_State_cleLatClr (sub_trans rfl hM)) ?_
    exact h1

theorem keeps_execCoConfig {M : Nat} (hM : Nat.land 144115188075855871 M = 144115188075855871) {s0 : State} {p0 : Cmd} {s : State} (h : Keeps M s0 s) : KX M s0 (execCoConfig p0 s) := by
  unfold execCoConfig
  refine KX.next ?_
  refine (keeps_State_command (sub_trans rfl hM)) ?_ ?_
  ·
    exact h
  · intro x0 x2 h1
    try beta_reduce
    refine (keeps_State_cmdImage (sub_trans rfl hM)) ?_
    exact h1

theorem keeps_execCoArm {M : Nat} (hM : Nat.land 262145 M = 262145) {s0 : State} {p0 : Fin 16} {p1 : BitVec 12} {s : State} (h : Keeps M s0 s) : KX M s0 (execCoArm p0 p1 s) := by
  unfold execCoArm
  refine KX.next ?_
  refine (keeps_State_hostCmd (sub_trans rfl hM)) ?_ ?_
  ·
    exact h
  · intro x0 h1
    try beta_reduce
    refine (keeps_State_coArm (sub_trans rfl hM)) ?_
    exact h1

theorem keeps_execLpClrcnt {M : Nat} (hM : Nat.land 1 M = 1) {s0 : State} {p0 : Fin 16} {s : State} (h : Keeps M s0 s) : KX M s0 (execLpClrcnt p0 s) := by
  unfold execLpClrcnt
  refine KX.next ?_
  refine (keeps_State_hostCmd (sub_trans rfl hM)) ?_ ?_
  ·
    exact h
  · intro x0 h1
    try beta_reduce
    refine (keeps_State_wrN (sub_trans rfl hM)) ?_
    exact h1

theorem keeps_execPairTransition {M : Nat} (hM : Nat.land 140737488828417 M = 140737488828417) {s0 : State} {p0 : Wire} {p1 : Bool} {p2 : Bool} {p3 : Nat} {s : State} (h : Keeps M s0 s) : KX M s0 (execPairTransition p0 p1 p2 p3 s) := by
  unfold execPairTransition
  refine KX.next ?_
  refine (keeps_State_chbWire (sub_trans rfl hM)) ?_
  refine (keeps_State_wireTransition (sub_trans rfl hM)) ?_
  exact h

theorem keeps_execHqRead {M : Nat} (hM : Nat.land 36129127455031297 M = 36129127455031297) {s0 : State} {p0 : Word} {p1 : Fin 65536} {s : State} (h : Keeps M s0 s) : KX M s0 (execHqRead p0 p1 s) := by
  unfold execHqRead
  refine KX.next ?_
  refine (keeps_State_hqReadRow (sub_trans rfl hM)) ?_
  exact h

theorem keeps_execMorningEntry {M : Nat} (hM : Nat.land 72233666997393409 M = 72233666997393409) {s0 : State} {s : State} (h : Keeps M s0 s) : KX M s0 (execMorningEntry s) := by
  unfold execMorningEntry
  refine KX.next ?_
  refine (keeps_State_morningEntry (sub_trans rfl hM)) ?_
  exact h

theorem keeps_execSafetyCycle {M : Nat} (hM : Nat.land 140737489418241 M = 140737489418241) {s0 : State} {p0 : Bool} {p1 : List (Fin 40 × BitVec 40)} {p2 : List (Fin 40)} {s : State} (h : Keeps M s0 s) : KX M s0 (execSafetyCycle p0 p1 p2 s) := by
  unfold execSafetyCycle
  refine KX.next ?_
  refine (keeps_State_safeGroup (sub_trans rfl hM)) ?_
  refine (keeps_State_safetyCycle (sub_trans rfl hM)) ?_
  exact h

theorem keeps_execAuxConfig {M : Nat} (hM : Nat.land 144115188075855871 M = 144115188075855871) {s0 : State} {p0 : Cmd} {s : State} (h : Keeps M s0 s) : KX M s0 (execAuxConfig p0 s) := by
  unfold execAuxConfig
  refine KX.next ?_
  refine (keeps_State_command (sub_trans rfl hM)) ?_ ?_
  ·
    exact h
  · intro x0 x2 h1
    try beta_reduce
    refine (keeps_State_cmdImage (sub_trans rfl hM)) ?_
    exact h1

theorem keeps_execOutWrite {M : Nat} (hM : Nat.land 144115188075855871 M = 144115188075855871) {s0 : State} {p0 : Cmd} {s : State} (h : Keeps M s0 s) : KX M s0 (execOutWrite p0 s) := by
  unfold execOutWrite
  refine KX.next ?_
  refine (keeps_State_packet (sub_trans rfl hM)) ?_
  exact h

theorem keeps_execBl {M : Nat} (hM : Nat.land 45089103554561 M = 45089103554561) {s0 : State} {p0 : Fin 16} {p1 : Word} {s : State} (h : Keeps M s0 s) : KX M s0 (execBl p0 p1 s) := by
  unfold execBl
  refine KX.next ?_
  refine (keeps_State_lpBl (sub_trans rfl hM)) ?_
  exact h

theorem keeps_execNetworkRun {M : Nat} (hM : Nat.land 36290304686105 M = 36290304686105) {s0 : State} {p0 : Fin 32} {s : State} (h : Keeps M s0 s) : KX M s0 (execNetworkRun p0 s) := by
  unfold execNetworkRun
  refine KX.next ?_
  refine (keeps_State_networkRun (sub_trans rfl hM)) ?_
  exact h

theorem keeps_execLogRead {M : Nat} (hM : Nat.land 234881024 M = 234881024) {s0 : State} {p0 : Cmd} {s : State} (h : Keeps M s0 s) : KX M s0 (execLogRead p0 s) := by
  unfold execLogRead
  refine KX.next ?_
  refine (keeps_State_command (sub_trans rfl hM)) ?_ ?_
  ·
    exact h
  · intro x0 x2 h1
    try beta_reduce
    refine (keeps_State_cmdLogRead (sub_trans rfl hM)) ?_
    exact h1

theorem keeps_execStreamPointMove {M : Nat} (hM : Nat.land 36028797254897665 M = 36028797254897665) {s0 : State} {p0 : Fin 128} {p1 : List Byte} {p2 : Bool} {s : State} (h : Keeps M s0 s) : KX M s0 (execStreamPointMove p0 p1 p2 s) := by
  unfold execStreamPointMove
  refine KX.next ?_
  refine (keeps_State_streamMove (sub_trans rfl hM)) ?_
  exact h

theorem keeps_execNx2416Nop {M : Nat} (hM : Nat.land 144115188075855871 M = 144115188075855871) {s0 : State} {p0 : Cmd} {s : State} (h : Keeps M s0 s) : KX M s0 (execNx2416Nop p0 s) := by
  unfold execNx2416Nop
  refine KX.next ?_
  refine (keeps_State_packet (sub_trans rfl hM)) ?_
  exact h

theorem keeps_execOvercurrent {M : Nat} (hM : Nat.land 77309425665 M = 77309425665) {s0 : State} {p0 : Fin 96} {p1 : List Bool} {s : State} (h : Keeps M s0 s) : KX M s0 (execOvercurrent p0 p1 s) := by
  unfold execOvercurrent
  refine KX.next ?_
  refine (keeps_State_overcurrent (sub_trans rfl hM)) ?_
  exact h

theorem keeps_execCaptureArm {M : Nat} (hM : Nat.land 9007199489622017 M = 9007199489622017) {s0 : State} {p0 : Cmd} {s : State} (h : Keeps M s0 s) : KX M s0 (execCaptureArm p0 s) := by
  unfold execCaptureArm
  refine KX.next ?_
  refine (keeps_State_command (sub_trans rfl hM)) ?_ ?_
  ·
    exact h
  · intro x0 x2 h1
    try beta_reduce
    refine (keeps_State_cmdCaptureArm (sub_trans rfl hM)) ?_
    exact h1

theorem keeps_execLogClear {M : Nat} (hM : Nat.land 18014398744363009 M = 18014398744363009) {s0 : State} {p0 : Cmd} {s : State} (h : Keeps M s0 s) : KX M s0 (execLogClear p0 s) := by
  unfold execLogClear
  refine KX.next ?_
  refine (keeps_State_command (sub_trans rfl hM)) ?_ ?_
  ·
    exact h
  · intro x0 x2 h1
    try beta_reduce
    refine (keeps_State_cmdLogClear (sub_trans rfl hM)) ?_
    exact h1

theorem keeps_execBrakeTestOverdue {M : Nat} (hM : Nat.land 14337 M = 14337) {s0 : State} {p0 : Fin 8} {s : State} (h : Keeps M s0 s) : KX M s0 (execBrakeTestOverdue p0 s) := by
  unfold execBrakeTestOverdue
  refine KX.next ?_
  refine (keeps_State_safeGroup (sub_trans rfl hM)) ?_
  refine (keeps_State_brakeOverdue (sub_trans rfl hM)) ?_
  exact h

theorem keeps_execPositionRun {M : Nat} (hM : Nat.land 36288962508825 M = 36288962508825) {s0 : State} {p0 : Fin 32} {s : State} (h : Keeps M s0 s) : KX M s0 (execPositionRun p0 s) := by
  unfold execPositionRun
  refine KX.next ?_
  refine (keeps_State_positionRun (sub_trans rfl hM)) ?_
  exact h

theorem keeps_execCleBswap {M : Nat} (hM : Nat.land 137438953473 M = 137438953473) {s0 : State} {p0 : Fin 32} {s : State} (h : Keeps M s0 s) : KX M s0 (execCleBswap p0 s) := by
  unfold execCleBswap
  refine KX.next ?_
  refine (keeps_State_hostCmd (sub_trans rfl hM)) ?_ ?_
  ·
    exact h
  · intro x0 h1
    try beta_reduce
    refine (keeps_State_cleBswap (sub_trans rfl hM)) ?_
    exact h1

theorem keeps_execLoopFb {M : Nat} (hM : Nat.land 144115188075855871 M = 144115188075855871) {s0 : State} {p0 : Cmd} {s : State} (h : Keeps M s0 s) : KX M s0 (execLoopFb p0 s) := by
  unfold execLoopFb
  refine KX.next ?_
  refine (keeps_State_command (sub_trans rfl hM)) ?_ ?_
  ·
    exact h
  · intro x0 x2 h1
    try beta_reduce
    refine (keeps_State_cmdImage (sub_trans rfl hM)) ?_
    exact h1

theorem keeps_execAffinityWindowEnd {M : Nat} (hM : Nat.land 549755822080 M = 549755822080) {s0 : State} {s : State} (h : Keeps M s0 s) : KX M s0 (execAffinityWindowEnd s) := by
  unfold execAffinityWindowEnd
  refine KX.next ?_
  refine (keeps_State_groomAffinityEnd (sub_trans rfl hM)) ?_
  exact h

theorem keeps_execRingEnable {M : Nat} (hM : Nat.land 36028797253849089 M = 36028797253849089) {s0 : State} {p0 : Fin 128} {p1 : Word} {s : State} (h : Keeps M s0 s) : KX M s0 (execRingEnable p0 p1 s) := by
  unfold execRingEnable
  refine (keeps_hostWord (sub_trans rfl hM)) ?_ ?_
  ·
    exact h
  · intro x0 h1
    try beta_reduce
    refine ite_of (P := Keeps M s0) ?_ ?_
    ·
      refine (keeps_State_ringCfg (sub_trans rfl hM)) ?_
      exact h1
    ·
      exact h1

theorem keeps_execRegClrtgt {M : Nat} (hM : Nat.land 524289 M = 524289) {s0 : State} {p0 : Fin 32} {s : State} (h : Keeps M s0 s) : KX M s0 (execRegClrtgt p0 s) := by
  unfold execRegClrtgt
  refine KX.next ?_
  refine (keeps_State_hostCmd (sub_trans rfl hM)) ?_ ?_
  ·
    exact h
  · intro x0 h1
    try beta_reduce
    refine (keeps_State_regClrTgt (sub_trans rfl hM)) ?_
    exact h1

theorem keeps_execWait {M : Nat} (hM : Nat.land 29961691856897 M = 29961691856897) {s0 : State} {p0 : Fin 29} {s : State} (h : Keeps M s0 s) : KX M s0 (execWait p0 s) := by
  unfold execWait
  refine KX.next ?_
  refine (keeps_State_waitRow (sub_trans rfl hM)) ?_
  exact h

theorem keeps_execFrerReset {M : Nat} (hM : Nat.land 70368744185857 M = 70368744185857) {s0 : State} {p0 : Fin 64} {s : State} (h : Keeps M s0 s) : KX M s0 (execFrerReset p0 s) := by
  unfold execFrerReset
  refine KX.next ?_
  refine (keeps_State_frerReset (sub_trans rfl hM)) ?_
  exact h

theorem keeps_execGearOn {M : Nat} (hM : Nat.land 144115188075855871 M = 144115188075855871) {s0 : State} {p0 : Cmd} {s : State} (h : Keeps M s0 s) : KX M s0 (execGearOn p0 s) := by
  unfold execGearOn
  refine KX.next ?_
  refine (keeps_State_packet (sub_trans rfl hM)) ?_
  exact h

theorem keeps_execRefReturn {M : Nat} (hM : Nat.land 8193 M = 8193) {s0 : State} {s : State} (h : Keeps M s0 s) : KX M s0 (execRefReturn s) := by
  unfold execRefReturn
  refine KX.next ?_
  refine (keeps_State_refReturn (sub_trans rfl hM)) ?_
  exact h

theorem keeps_execEccCorrected {M : Nat} (hM : Nat.land 1 M = 1) {s0 : State} {p0 : MemPart} {s : State} (h : Keeps M s0 s) : KX M s0 (execEccCorrected p0 s) := by
  unfold execEccCorrected
  refine KX.next ?_
  refine (keeps_State_eccCorrected (sub_trans rfl hM)) ?_
  exact h

theorem keeps_execOutputShortCircuit {M : Nat} (hM : Nat.land 2251799813691393 M = 2251799813691393) {s0 : State} {p0 : Fin 32} {s : State} (h : Keeps M s0 s) : KX M s0 (execOutputShortCircuit p0 s) := by
  unfold execOutputShortCircuit
  refine KX.next ?_
  refine (keeps_State_outputShort (sub_trans rfl hM)) ?_
  exact h

theorem keeps_execRamauxEnable {M : Nat} (hM : Nat.land 351843720888321 M = 351843720888321) {s0 : State} {p0 : Word} {s : State} (h : Keeps M s0 s) : KX M s0 (execRamauxEnable p0 s) := by
  unfold execRamauxEnable
  refine (keeps_hostWord (sub_trans rfl hM)) ?_ ?_
  ·
    exact h
  · intro x0 h1
    try beta_reduce
    refine (keeps_State_rmEnable (sub_trans rfl hM)) ?_
    exact h1

theorem keeps_execMtsr {M : Nat} (hM : Nat.land 45089103554561 M = 45089103554561) {s0 : State} {p0 : Fin 16} {p1 : Fin 16} {s : State} (h : Keeps M s0 s) : KX M s0 (execMtsr p0 p1 s) := by
  unfold execMtsr
  refine KX.next ?_
  refine (keeps_State_lpMtsr (sub_trans rfl hM)) ?_
  exact h

theorem keeps_execAsr {M : Nat} (hM : Nat.land 70102993086681 M = 70102993086681) {s0 : State} {p0 : Fin 16} {p1 : Fin 16} {p2 : AluSrc} {s : State} (h : Keeps M s0 s) : KX M s0 (execAsr p0 p1 p2 s) := by
  unfold execAsr
  refine KX.next ?_
  refine (keeps_lpAlu (sub_trans rfl hM)) ?_
  exact h

theorem keeps_execYardWatchdogExpire {M : Nat} (hM : Nat.land 144115188075855871 M = 144115188075855871) {s0 : State} {s : State} (h : Keeps M s0 s) : KX M s0 (execYardWatchdogExpire s) := by
  unfold execYardWatchdogExpire
  refine KX.next ?_
  refine (keeps_State_yardWatchdog (sub_trans rfl hM)) ?_
  exact h

theorem keeps_execAbs {M : Nat} (hM : Nat.land 70102993086681 M = 70102993086681) {s0 : State} {p0 : Fin 16} {p1 : Fin 16} {p2 : AluSrc} {s : State} (h : Keeps M s0 s) : KX M s0 (execAbs p0 p1 p2 s) := by
  unfold execAbs
  refine KX.next ?_
  refine (keeps_lpAlu (sub_trans rfl hM)) ?_
  exact h

theorem keeps_execCanTxDone {M : Nat} (hM : Nat.land 4503599862251521 M = 4503599862251521) {s0 : State} {p0 : Fin 4} {p1 : BitVec 24} {p2 : Option (BitVec 7)} {s : State} (h : Keeps M s0 s) : KX M s0 (execCanTxDone p0 p1 p2 s) := by
  unfold execCanTxDone
  refine KX.next ?_
  refine (keeps_State_canTxDone (sub_trans rfl hM)) ?_
  exact h

theorem keeps_execWorkItemPost {M : Nat} (hM : Nat.land 824633720832 M = 824633720832) {s0 : State} {p0 : Fin 10} {p1 : BitVec 16} {p2 : Byte} {p3 : Byte} {p4 : Word} {p5 : Word64} {p6 : Word64} {s : State} (h : Keeps M s0 s) : KX M s0 (execWorkItemPost p0 p1 p2 p3 p4 p5 p6 s) := by
  unfold execWorkItemPost
  refine KX.next ?_
  refine (keeps_State_groomPost (sub_trans rfl hM)) ?_
  exact h

theorem keeps_execFrameLengthWrite {M : Nat} (hM : Nat.land 144115188075855871 M = 144115188075855871) {s0 : State} {p0 : Word} {s : State} (h : Keeps M s0 s) : KX M s0 (execFrameLengthWrite p0 s) := by
  unfold execFrameLengthWrite
  refine (keeps_hostWord (sub_trans rfl hM)) ?_ ?_
  ·
    exact h
  · intro x0 h1
    try beta_reduce
    refine (keeps_State_regStore (sub_trans rfl hM)) ?_
    exact h1

theorem keeps_execMsu {M : Nat} (hM : Nat.land 70102993086681 M = 70102993086681) {s0 : State} {p0 : Fin 16} {p1 : Fin 4} {p2 : Fin 16} {p3 : Fin 16} {p4 : Move2} {p5 : Move2} {s : State} (h : Keeps M s0 s) : KX M s0 (execMsu p0 p1 p2 p3 p4 p5 s) := by
  unfold execMsu
  refine KX.next ?_
  refine (keeps_lpMac (sub_trans rfl hM)) ?_
  exact h

theorem keeps_execHeartbeatSend {M : Nat} (hM : Nat.land 562949953429504 M = 562949953429504) {s0 : State} {s : State} (h : Keeps M s0 s) : KX M s0 (execHeartbeatSend s) := by
  unfold execHeartbeatSend
  refine KX.next ?_
  refine (keeps_State_heartbeat (sub_trans rfl hM)) ?_
  exact h

theorem keeps_execKeyErase {M : Nat} (hM : Nat.land 1125900141729793 M = 1125900141729793) {s0 : State} {p0 : Cmd} {s : State} (h : Keeps M s0 s) : KX M s0 (execKeyErase p0 s) := by
  unfold execKeyErase
  refine KX.next ?_
  refine (keeps_State_command (sub_trans rfl hM)) ?_ ?_
  ·
    exact h
  · intro x0 x2 h1
    try beta_reduce
    refine (keeps_State_cmdKeyErase (sub_trans rfl hM)) ?_
    exact h1

theorem keeps_execFirmwareStart {M : Nat} (hM : Nat.land 91197892454266881 M = 91197892454266881) {s0 : State} {p0 : Option Word64} {p1 : Bool} {s : State} (h : Keeps M s0 s) : KX M s0 (execFirmwareStart p0 p1 s) := by
  unfold execFirmwareStart
  refine KX.next ?_
  refine (keeps_State_firmwareStart (sub_trans rfl hM)) ?_
  exact h

theorem keeps_execInRead {M : Nat} (hM : Nat.land 144115188075855871 M = 144115188075855871) {s0 : State} {p0 : Cmd} {s : State} (h : Keeps M s0 s) : KX M s0 (execInRead p0 s) := by
  unfold execInRead
  refine KX.next ?_
  refine (keeps_State_packet (sub_trans rfl hM)) ?_
  exact h

theorem keeps_execAngloss {M : Nat} (hM : Nat.land 8589936641 M = 8589936641) {s0 : State} {p0 : Fin 32} {s : State} (h : Keeps M s0 s) : KX M s0 (execAngloss p0 s) := by
  unfold execAngloss
  refine KX.next ?_
  refine (keeps_State_angLoss (sub_trans rfl hM)) ?_
  exact h

theorem keeps_execMoveAbs {M : Nat} (hM : Nat.land 144115188075855871 M = 144115188075855871) {s0 : State} {p0 : Cmd} {s : State} (h : Keeps M s0 s) : KX M s0 (execMoveAbs p0 s) := by
  unfold execMoveAbs
  refine KX.next ?_
  refine (keeps_State_packet (sub_trans rfl hM)) ?_
  exact h

theorem keeps_execMapEventWrite {M : Nat} (hM : Nat.land 833760528449 M = 833760528449) {s0 : State} {p0 : Fin 80} {p1 : Word} {s : State} (h : Keeps M s0 s) : KX M s0 (execMapEventWrite p0 p1 s) := by
  unfold execMapEventWrite
  refine KX.next ?_
  refine (keeps_State_mapRow (sub_trans rfl hM)) ?_
  exact h

theorem keeps_execBellReceive {M : Nat} (hM : Nat.land 351843720892417 M = 351843720892417) {s0 : State} {p0 : Fin 4} {p1 : Bell} {s : State} (h : Keeps M s0 s) : KX M s0 (execBellReceive p0 p1 s) := by
  unfold execBellReceive
  refine KX.next ?_
  refine (keeps_State_bellIn (sub_trans rfl hM)) ?_
  exact h

theorem keeps_execGclChangeEffect {M : Nat} (hM : Nat.land 70368979066881 M = 70368979066881) {s0 : State} {p0 : Fin 3} {s : State} (h : Keeps M s0 s) : KX M s0 (execGclChangeEffect p0 s) := by
  unfold execGclChangeEffect
  refine KX.next ?_
  refine (keeps_State_gclEffect (sub_trans rfl hM)) ?_
  exact h

theorem keeps_execPpsInEdge {M : Nat} (hM : Nat.land 12289 M = 12289) {s0 : State} {p0 : Fin 8} {s : State} (h : Keeps M s0 s) : KX M s0 (execPpsInEdge p0 s) := by
  unfold execPpsInEdge
  refine KX.next ?_
  refine (keeps_State_ppsIn (sub_trans rfl hM)) ?_
  exact h

theorem keeps_execB {M : Nat} (hM : Nat.land 45089103554561 M = 45089103554561) {s0 : State} {p0 : Fin 16} {p1 : BitVec 4} {p2 : BitVec 18} {s : State} (h : Keeps M s0 s) : KX M s0 (execB p0 p1 p2 s) := by
  unfold execB
  refine KX.next ?_
  refine (keeps_State_lpB (sub_trans rfl hM)) ?_
  exact h

theorem keeps_execAnalogueSample {M : Nat} (hM : Nat.land 2251799813699585 M = 2251799813699585) {s0 : State} {p0 : Vector (BitVec 16) 8} {s : State} (h : Keeps M s0 s) : KX M s0 (execAnalogueSample p0 s) := by
  unfold execAnalogueSample
  refine KX.next ?_
  refine (keeps_State_analogueSample (sub_trans rfl hM)) ?_
  exact h

theorem keeps_execCaptureRead {M : Nat} (hM : Nat.land 234881024 M = 234881024) {s0 : State} {p0 : Cmd} {s : State} (h : Keeps M s0 s) : KX M s0 (execCaptureRead p0 s) := by
  unfold execCaptureRead
  refine KX.next ?_
  refine (keeps_State_command (sub_trans rfl hM)) ?_ ?_
  ·
    exact h
  · intro x0 x2 h1
    try beta_reduce
    refine (keeps_State_cmdCaptureRead (sub_trans rfl hM)) ?_
    exact h1

theorem keeps_execHoldoffEnd {M : Nat} (hM : Nat.land 9007199254753281 M = 9007199254753281) {s0 : State} {p0 : Fin 8} {s : State} (h : Keeps M s0 s) : KX M s0 (execHoldoffEnd p0 s) := by
  unfold execHoldoffEnd
  refine KX.next ?_
  refine (keeps_State_holdoffEnd (sub_trans rfl hM)) ?_
  exact h

theorem keeps_execBar0ReadHighWord {M : Nat} (hM : Nat.land 100330436067329 M = 100330436067329) {s0 : State} {p0 : Fin 10} {p1 : BitVec 24} {s : State} (h : Keeps M s0 s) : KX M s0 (execBar0ReadHighWord p0 p1 s) := by
  unfold execBar0ReadHighWord
  refine KX.next ?_
  refine (keeps_State_readHigh (sub_trans rfl hM)) ?_
  exact h

theorem keeps_execLogLoadDone {M : Nat} (hM : Nat.land 18014398509481985 M = 18014398509481985) {s0 : State} {s : State} (h : Keeps M s0 s) : KX M s0 (execLogLoadDone s) := by
  unfold execLogLoadDone
  refine KX.next ?_
  refine (keeps_State_logLoaded (sub_trans rfl hM)) ?_
  exact h

theorem keeps_execTripDetect {M : Nat} (hM : Nat.land 25769818113 M = 25769818113) {s0 : State} {p0 : Fin 36} {s : State} (h : Keeps M s0 s) : KX M s0 (execTripDetect p0 s) := by
  unfold execTripDetect
  refine KX.next ?_
  refine (keeps_State_tripFiltered (sub_trans rfl hM)) ?_
  exact h

theorem keeps_execGearOff {M : Nat} (hM : Nat.land 144115188075855871 M = 144115188075855871) {s0 : State} {p0 : Cmd} {s : State} (h : Keeps M s0 s) : KX M s0 (execGearOff p0 s) := by
  unfold execGearOff
  refine KX.next ?_
  refine (keeps_State_packet (sub_trans rfl hM)) ?_
  exact h

theorem keeps_execLpFault {M : Nat} (hM : Nat.land 45089103554561 M = 45089103554561) {s0 : State} {p0 : Fin 16} {p1 : BitVec 6} {s : State} (h : Keeps M s0 s) : KX M s0 (execLpFault p0 p1 s) := by
  unfold execLpFault
  refine KX.next ?_
  refine (keeps_State_lpFault (sub_trans rfl hM)) ?_
  exact h

theorem keeps_execCoDisarm {M : Nat} (hM : Nat.land 262145 M = 262145) {s0 : State} {p0 : Fin 16} {s : State} (h : Keeps M s0 s) : KX M s0 (execCoDisarm p0 s) := by
  unfold execCoDisarm
  refine KX.next ?_
  refine (keeps_State_hostCmd (sub_trans rfl hM)) ?_ ?_
  ·
    exact h
  · intro x0 h1
    try beta_reduce
    refine (keeps_State_coStop (sub_trans rfl hM)) ?_
    exact h1

theorem keeps_execBar0ReadLowWord {M : Nat} (hM : Nat.land 100330436067329 M = 100330436067329) {s0 : State} {p0 : Fin 10} {p1 : BitVec 24} {s : State} (h : Keeps M s0 s) : KX M s0 (execBar0ReadLowWord p0 p1 s) := by
  unfold execBar0ReadLowWord
  refine KX.next ?_
  refine (keeps_State_readLow (sub_trans rfl hM)) ?_
  exact h

theorem keeps_execFgClrcnt {M : Nat} (hM : Nat.land 1 M = 1) {s0 : State} {p0 : Fin 4} {s : State} (h : Keeps M s0 s) : KX M s0 (execFgClrcnt p0 s) := by
  unfold execFgClrcnt
  refine KX.next ?_
  refine (keeps_State_hostCmd (sub_trans rfl hM)) ?_ ?_
  ·
    exact h
  · intro x0 h1
    try beta_reduce
    refine (keeps_State_fgClrCnt (sub_trans rfl hM)) ?_
    exact h1

theorem keeps_execCuArm {M : Nat} (hM : Nat.land 9007199254740993 M = 9007199254740993) {s0 : State} {p0 : Fin 8} {s : State} (h : Keeps M s0 s) : KX M s0 (execCuArm p0 s) := by
  unfold execCuArm
  refine KX.next ?_
  refine (keeps_State_hostCmd (sub_trans rfl hM)) ?_ ?_
  ·
    exact h
  · intro x0 h1
    try beta_reduce
    refine KP.snd ?_
    refine (keeps_State_cuArm (sub_trans rfl hM)) ?_
    exact h1

theorem keeps_execRingDoorbell {M : Nat} (hM : Nat.land 36028797020026881 M = 36028797020026881) {s0 : State} {p0 : Fin 128} {p1 : Word} {s : State} (h : Keeps M s0 s) : KX M s0 (execRingDoorbell p0 p1 s) := by
  unfold execRingDoorbell
  refine (keeps_hostWord (sub_trans rfl hM)) ?_ ?_
  ·
    exact h
  · intro x0 h1
    try beta_reduce
    refine (keeps_State_doorbellRing (sub_trans rfl hM)) ?_
    exact h1

theorem keeps_execTwinConfig {M : Nat} (hM : Nat.land 144115188075855871 M = 144115188075855871) {s0 : State} {p0 : Cmd} {s : State} (h : Keeps M s0 s) : KX M s0 (execTwinConfig p0 s) := by
  unfold execTwinConfig
  refine KX.next ?_
  refine (keeps_State_command (sub_trans rfl hM)) ?_ ?_
  ·
    exact h
  · intro x0 x2 h1
    try beta_reduce
    refine (keeps_State_cmdImage (sub_trans rfl hM)) ?_
    exact h1

theorem keeps_execShuntOpen {M : Nat} (hM : Nat.land 2251799813691393 M = 2251799813691393) {s0 : State} {p0 : Fin 8} {s : State} (h : Keeps M s0 s) : KX M s0 (execShuntOpen p0 s) := by
  unfold execShuntOpen
  refine KX.next ?_
  refine (keeps_State_shuntOpen (sub_trans rfl hM)) ?_
  exact h

theorem keeps_execPortLinkDown {M : Nat} (hM : Nat.land 2049 M = 2049) {s0 : State} {p0 : Fin 3} {s : State} (h : Keeps M s0 s) : KX M s0 (execPortLinkDown p0 s) := by
  unfold execPortLinkDown
  refine KX.next ?_
  refine (keeps_State_linkDown (sub_trans rfl hM)) ?_
  exact h

theorem keeps_execCmac {M : Nat} (hM : Nat.land 70102993086681 M = 70102993086681) {s0 : State} {p0 : Fin 16} {p1 : Bool} {p2 : Fin 8} {p3 : Fin 8} {p4 : Move2} {p5 : Move2} {s : State} (h : Keeps M s0 s) : KX M s0 (execCmac p0 p1 p2 p3 p4 p5 s) := by
  unfold execCmac
  refine KX.next ?_
  refine (keeps_lpCmac (sub_trans rfl hM)) ?_
  exact h

theorem keeps_execCanRecover {M : Nat} (hM : Nat.land 4503599862251520 M = 4503599862251520) {s0 : State} {p0 : Cmd} {s : State} (h : Keeps M s0 s) : KX M s0 (execCanRecover p0 s) := by
  unfold execCanRecover
  refine KX.next ?_
  refine (keeps_State_command (sub_trans rfl hM)) ?_ ?_
  ·
    exact h
  · intro x0 x2 h1
    try beta_reduce
    refine (keeps_State_cmdCanRecover (sub_trans rfl hM)) ?_
    exact h1

theorem keeps_execMovePvt {M : Nat} (hM : Nat.land 235929601 M = 235929601) {s0 : State} {p0 : Cmd} {s : State} (h : Keeps M s0 s) : KX M s0 (execMovePvt p0 s) := by
  unfold execMovePvt
  refine KX.next ?_
  refine (keeps_State_command (sub_trans rfl hM)) ?_ ?_
  ·
    exact h
  · intro x0 x2 h1
    try beta_reduce
    refine (keeps_State_cmdMovePvt (sub_trans rfl hM)) ?_
    exact h1

theorem keeps_execHostWatchdogExpire {M : Nat} (hM : Nat.land 36028797020026881 M = 36028797020026881) {s0 : State} {s : State} (h : Keeps M s0 s) : KX M s0 (execHostWatchdogExpire s) := by
  unfold execHostWatchdogExpire
  refine KX.next ?_
  refine (keeps_State_hostWatchdog (sub_trans rfl hM)) ?_
  exact h

theorem keeps_execNorm {M : Nat} (hM : Nat.land 70102993086681 M = 70102993086681) {s0 : State} {p0 : Fin 16} {p1 : Fin 4} {p2 : Fin 16} {p3 : Move} {s : State} (h : Keeps M s0 s) : KX M s0 (execNorm p0 p1 p2 p3 s) := by
  unfold execNorm
  refine KX.next ?_
  refine (keeps_State_lpNorm (sub_trans rfl hM)) ?_
  exact h

theorem keeps_execLatchEntryComplete {M : Nat} (hM : Nat.land 663553 M = 663553) {s0 : State} {p0 : Fin 32} {s : State} (h : Keeps M s0 s) : KX M s0 (execLatchEntryComplete p0 s) := by
  unfold execLatchEntryComplete
  refine KX.next ?_
  refine (keeps_State_latchComplete (sub_trans rfl hM)) ?_
  exact h

theorem keeps_execAtcSettingsEffect {M : Nat} (hM : Nat.land 9008501673523203 M = 9008501673523203) {s0 : State} {p0 : Fin 16} {s : State} (h : Keeps M s0 s) : KX M s0 (execAtcSettingsEffect p0 s) := by
  unfold execAtcSettingsEffect
  refine KX.next ?_
  refine (keeps_State_atcEffect (sub_trans rfl hM)) ?_
  exact h

theorem keeps_execInjStart {M : Nat} (hM : Nat.land 1073741825 M = 1073741825) {s0 : State} {p0 : Fin 16} {s : State} (h : Keeps M s0 s) : KX M s0 (execInjStart p0 s) := by
  unfold execInjStart
  refine KX.next ?_
  refine (keeps_State_hostCmd (sub_trans rfl hM)) ?_ ?_
  ·
    exact h
  · intro x0 h1
    try beta_reduce
    refine (keeps_State_injStart (sub_trans rfl hM)) ?_
    exact h1

theorem keeps_execCanTxError {M : Nat} (hM : Nat.land 4503599627376641 M = 4503599627376641) {s0 : State} {p0 : Fin 4} {p1 : BitVec 24} {p2 : Fin 7} {p3 : Bool} {p4 : Bool} {p5 : Bool} {p6 : Fin 32} {s : State} (h : Keeps M s0 s) : KX M s0 (execCanTxError p0 p1 p2 p3 p4 p5 p6 s) := by
  unfold execCanTxError
  refine KX.next ?_
  refine (keeps_State_canTxError (sub_trans rfl hM)) ?_
  exact h

theorem keeps_execTableRead {M : Nat} (hM : Nat.land 234881024 M = 234881024) {s0 : State} {p0 : Cmd} {s : State} (h : Keeps M s0 s) : KX M s0 (execTableRead p0 s) := by
  unfold execTableRead
  refine KX.next ?_
  refine (keeps_State_command (sub_trans rfl hM)) ?_ ?_
  ·
    exact h
  · intro x0 x2 h1
    try beta_reduce
    refine (keeps_State_cmdTableRead (sub_trans rfl hM)) ?_
    exact h1

theorem keeps_execSetClock {M : Nat} (hM : Nat.land 234889217 M = 234889217) {s0 : State} {p0 : Cmd} {s : State} (h : Keeps M s0 s) : KX M s0 (execSetClock p0 s) := by
  unfold execSetClock
  refine KX.next ?_
  refine (keeps_State_command (sub_trans rfl hM)) ?_ ?_
  ·
    exact h
  · intro x0 x2 h1
    try beta_reduce
    refine (keeps_State_cmdSetClock (sub_trans rfl hM)) ?_
    exact h1

theorem keeps_execCmp {M : Nat} (hM : Nat.land 70102993086681 M = 70102993086681) {s0 : State} {p0 : Fin 16} {p1 : Fin 16} {p2 : AluSrc} {s : State} (h : Keeps M s0 s) : KX M s0 (execCmp p0 p1 p2 s) := by
  unfold execCmp
  refine KX.next ?_
  refine (keeps_lpAlu (sub_trans rfl hM)) ?_
  exact h

theorem keeps_execPwmEdge {M : Nat} (hM : Nat.land 8589942785 M = 8589942785) {s0 : State} {p0 : Fin 40} {p1 : Fin 4} {s : State} (h : Keeps M s0 s) : KX M s0 (execPwmEdge p0 p1 s) := by
  unfold execPwmEdge
  refine KX.next ?_
  refine (keeps_State_pwmEdge (sub_trans rfl hM)) ?_
  exact h

theorem keeps_execCanConfig {M : Nat} (hM : Nat.land 144115188075855871 M = 144115188075855871) {s0 : State} {p0 : Cmd} {s : State} (h : Keeps M s0 s) : KX M s0 (execCanConfig p0 s) := by
  unfold execCanConfig
  refine KX.next ?_
  refine (keeps_State_command (sub_trans rfl hM)) ?_ ?_
  ·
    exact h
  · intro x0 x2 h1
    try beta_reduce
    refine (keeps_State_cmdCanConfig (sub_trans rfl hM)) ?_
    exact h1

theorem keeps_execLogCursorWrite {M : Nat} (hM : Nat.land 18014398509481985 M = 18014398509481985) {s0 : State} {p0 : Word64} {s : State} (h : Keeps M s0 s) : KX M s0 (execLogCursorWrite p0 s) := by
  unfold execLogCursorWrite
  refine KX.next ?_
  refine (keeps_State_hostCmd (sub_trans rfl hM)) ?_ ?_
  ·
    exact h
  · intro x0 h1
    try beta_reduce
    refine (keeps_State_logCursor (sub_trans rfl hM)) ?_
    exact h1

theorem keeps_execEpochArm {M : Nat} (hM : Nat.land 281475211591681 M = 281475211591681) {s0 : State} {p0 : Cmd} {s : State} (h : Keeps M s0 s) : KX M s0 (execEpochArm p0 s) := by
  unfold execEpochArm
  refine KX.next ?_
  refine (keeps_State_command (sub_trans rfl hM)) ?_ ?_
  ·
    exact h
  · intro x0 x2 h1
    try beta_reduce
    refine (keeps_State_cmdEpochArm (sub_trans rfl hM)) ?_
    exact h1

theorem keeps_execToken {M : Nat} (hM : Nat.land 234889217 M = 234889217) {s0 : State} {p0 : Cmd} {s : State} (h : Keeps M s0 s) : KX M s0 (execToken p0 s) := by
  unfold execToken
  refine KX.next ?_
  refine (keeps_State_command (sub_trans rfl hM)) ?_ ?_
  ·
    exact h
  · intro x0 x2 h1
    try beta_reduce
    refine (keeps_State_cmdToken (sub_trans rfl hM)) ?_
    exact h1

theorem keeps_execLatchClrcnt {M : Nat} (hM : Nat.land 1 M = 1) {s0 : State} {p0 : Fin 32} {s : State} (h : Keeps M s0 s) : KX M s0 (execLatchClrcnt p0 s) := by
  unfold execLatchClrcnt
  refine KX.next ?_
  refine (keeps_State_hostCmd (sub_trans rfl hM)) ?_ ?_
  ·
    exact h
  · intro x0 h1
    try beta_reduce
    refine (keeps_State_latchClrCnt (sub_trans rfl hM)) ?_
    exact h1

theorem keeps_execBrownOut {M : Nat} (hM : Nat.land 144115188075855871 M = 144115188075855871) {s0 : State} {s : State} (h : Keeps M s0 s) : KX M s0 (execBrownOut s) := by
  unfold execBrownOut
  refine KX.next ?_
  refine (keeps_State_brownOut (sub_trans rfl hM)) ?_
  exact h

theorem keeps_execSvnAdvance {M : Nat} (hM : Nat.land 72057594037936129 M = 72057594037936129) {s0 : State} {s : State} (h : Keeps M s0 s) : KX M s0 (execSvnAdvance s) := by
  unfold execSvnAdvance
  refine KX.next ?_
  refine (keeps_State_svnAdvance (sub_trans rfl hM)) ?_
  exact h

theorem keeps_execMovr {M : Nat} (hM : Nat.land 70102993086681 M = 70102993086681) {s0 : State} {p0 : Fin 16} {p1 : Fin 16} {p2 : Fin 4} {p3 : LpCount} {p4 : Move} {s : State} (h : Keeps M s0 s) : KX M s0 (execMovr p0 p1 p2 p3 p4 s) := by
  unfold execMovr
  refine KX.next ?_
  refine (keeps_State_lpMovr (sub_trans rfl hM)) ?_
  exact h

theorem keeps_execSsiFrameEnd {M : Nat} (hM : Nat.land 342017 M = 342017) {s0 : State} {p0 : Fin 40} {p1 : BitVec 16} {p2 : Word} {p3 : Bool} {s : State} (h : Keeps M s0 s) : KX M s0 (execSsiFrameEnd p0 p1 p2 p3 s) := by
  unfold execSsiFrameEnd
  refine KX.next ?_
  refine (keeps_State_ssiEnd (sub_trans rfl hM)) ?_
  exact h

theorem keeps_execCleBankSwap {M : Nat} (hM : Nat.land 137673834497 M = 137673834497) {s0 : State} {p0 : Fin 32} {s : State} (h : Keeps M s0 s) : KX M s0 (execCleBankSwap p0 s) := by
  unfold execCleBankSwap
  refine KX.next ?_
  refine (keeps_State_bankSwap (sub_trans rfl hM)) ?_
  exact h

theorem keeps_execPop {M : Nat} (hM : Nat.land 16492674416641 M = 16492674416641) {s0 : State} {p0 : Fin 29} {p1 : Fin 29} {s : State} (h : Keeps M s0 s) : KX M s0 (execPop p0 p1 s) := by
  unfold execPop
  refine KX.next ?_
  refine (keeps_State_popRow (sub_trans rfl hM)) ?_
  exact h

theorem keeps_execAtcWindowClose {M : Nat} (hM : Nat.land 60129556481 M = 60129556481) {s0 : State} {p0 : Fin 16} {s : State} (h : Keeps M s0 s) : KX M s0 (execAtcWindowClose p0 s) := by
  unfold execAtcWindowClose
  refine KX.next ?_
  refine (keeps_State_atcClose (sub_trans rfl hM)) ?_
  exact h

theorem keeps_execOverheadRun {M : Nat} (hM : Nat.land 36288953595921 M = 36288953595921) {s0 : State} {p0 : Fin 16} {s : State} (h : Keeps M s0 s) : KX M s0 (execOverheadRun p0 s) := by
  unfold execOverheadRun
  refine KX.next ?_
  refine (keeps_State_overheadRun (sub_trans rfl hM)) ?_
  exact h

theorem keeps_execPresetApply {M : Nat} (hM : Nat.land 9289976658622467 M = 9289976658622467) {s0 : State} {p0 : Fin 40} {s : State} (h : Keeps M s0 s) : KX M s0 (execPresetApply p0 s) := by
  unfold execPresetApply
  refine KX.next ?_
  refine (keeps_State_presetRow (sub_trans rfl hM)) ?_
  exact h

theorem keeps_execTableLoad {M : Nat} (hM : Nat.land 234881032 M = 234881032) {s0 : State} {p0 : Cmd} {s : State} (h : Keeps M s0 s) : KX M s0 (execTableLoad p0 s) := by
  unfold execTableLoad
  refine KX.next ?_
  refine (keeps_State_command (sub_trans rfl hM)) ?_ ?_
  ·
    exact h
  · intro x0 x2 h1
    try beta_reduce
    refine (keeps_State_cmdTableLoad (sub_trans rfl hM)) ?_
    exact h1

theorem keeps_execFwRestart {M : Nat} (hM : Nat.land 72629890075068416 M = 72629890075068416) {s0 : State} {p0 : Cmd} {s : State} (h : Keeps M s0 s) : KX M s0 (execFwRestart p0 s) := by
  unfold execFwRestart
  refine KX.next ?_
  refine (keeps_State_command (sub_trans rfl hM)) ?_ ?_
  ·
    exact h
  · intro x0 x2 h1
    try beta_reduce
    refine (keeps_State_cmdFwRestart (sub_trans rfl hM)) ?_
    exact h1

theorem keeps_execSafetyChannelStart {M : Nat} (hM : Nat.land 140737488361473 M = 140737488361473) {s0 : State} {p0 : Bool} {p1 : Bool} {s : State} (h : Keeps M s0 s) : KX M s0 (execSafetyChannelStart p0 p1 s) := by
  unfold execSafetyChannelStart
  refine KX.next ?_
  refine (keeps_State_safeGroup (sub_trans rfl hM)) ?_
  refine (keeps_State_channelStart (sub_trans rfl hM)) ?_
  exact h

theorem keeps_execChallengeExpiry {M : Nat} (hM : Nat.land 1125899906850816 M = 1125899906850816) {s0 : State} {s : State} (h : Keeps M s0 s) : KX M s0 (execChallengeExpiry s) := by
  unfold execChallengeExpiry
  refine KX.next ?_
  refine (keeps_State_challengeExpiry (sub_trans rfl hM)) ?_
  exact h

theorem keeps_execHandover {M : Nat} (hM : Nat.land 234881025 M = 234881025) {s0 : State} {p0 : Cmd} {s : State} (h : Keeps M s0 s) : KX M s0 (execHandover p0 s) := by
  unfold execHandover
  refine KX.next ?_
  refine (keeps_State_command (sub_trans rfl hM)) ?_ ?_
  ·
    exact h
  · intro x0 x2 h1
    try beta_reduce
    refine (keeps_State_cmdHandover (sub_trans rfl hM)) ?_
    exact h1

theorem keeps_execPowerLoss {M : Nat} (hM : Nat.land 144115188075855871 M = 144115188075855871) {s0 : State} {p0 : Bool} {s : State} (h : Keeps M s0 s) : KX M s0 (execPowerLoss p0 s) := by
  unfold execPowerLoss
  refine KX.next ?_
  refine (keeps_State_powerLoss (sub_trans rfl hM)) ?_
  exact h

theorem keeps_execCoClrcnt {M : Nat} (hM : Nat.land 1 M = 1) {s0 : State} {p0 : Fin 16} {s : State} (h : Keeps M s0 s) : KX M s0 (execCoClrcnt p0 s) := by
  unfold execCoClrcnt
  refine KX.next ?_
  refine (keeps_State_hostCmd (sub_trans rfl hM)) ?_ ?_
  ·
    exact h
  · intro x0 h1
    try beta_reduce
    refine (keeps_State_wrN (sub_trans rfl hM)) ?_
    exact h1

theorem keeps_execDioInputAccept {M : Nat} (hM : Nat.land 1 M = 1) {s0 : State} {p0 : Fin 32} {p1 : Bool} {p2 : BitVec 17} {s : State} (h : Keeps M s0 s) : KX M s0 (execDioInputAccept p0 p1 p2 s) := by
  unfold execDioInputAccept
  refine KX.next ?_
  refine (keeps_State_dioAccept (sub_trans rfl hM)) ?_
  exact h

theorem keeps_execCanRead {M : Nat} (hM : Nat.land 4503599862251521 M = 4503599862251521) {s0 : State} {p0 : Cmd} {s : State} (h : Keeps M s0 s) : KX M s0 (execCanRead p0 s) := by
  unfold execCanRead
  refine KX.next ?_
  refine (keeps_State_command (sub_trans rfl hM)) ?_ ?_
  ·
    exact h
  · intro x0 x2 h1
    try beta_reduce
    refine (keeps_State_cmdCanRead (sub_trans rfl hM)) ?_
    exact h1

theorem keeps_execMpysu {M : Nat} (hM : Nat.land 70102993086681 M = 70102993086681) {s0 : State} {p0 : Fin 16} {p1 : Fin 4} {p2 : Fin 16} {p3 : Fin 16} {p4 : Move2} {p5 : Move2} {s : State} (h : Keeps M s0 s) : KX M s0 (execMpysu p0 p1 p2 p3 p4 p5 s) := by
  unfold execMpysu
  refine KX.next ?_
  refine (keeps_lpMac (sub_trans rfl hM)) ?_
  exact h

theorem keeps_execSafeWdtExpire {M : Nat} (hM : Nat.land 140737488369665 M = 140737488369665) {s0 : State} {p0 : Fin 32} {s : State} (h : Keeps M s0 s) : KX M s0 (execSafeWdtExpire p0 s) := by
  unfold execSafeWdtExpire
  refine KX.next ?_
  refine (keeps_State_safeGroup (sub_trans rfl hM)) ?_
  refine (keeps_State_safeWdt (sub_trans rfl hM)) ?_
  exact h

theorem keeps_execLsConfig {M : Nat} (hM : Nat.land 144115188075855871 M = 144115188075855871) {s0 : State} {p0 : Cmd} {s : State} (h : Keeps M s0 s) : KX M s0 (execLsConfig p0 s) := by
  unfold execLsConfig
  refine KX.next ?_
  refine (keeps_State_command (sub_trans rfl hM)) ?_ ?_
  ·
    exact h
  · intro x0 x2 h1
    try beta_reduce
    refine (keeps_State_cmdImage (sub_trans rfl hM)) ?_
    exact h1

theorem keeps_execFaultReset {M : Nat} (hM : Nat.land 144115188075855871 M = 144115188075855871) {s0 : State} {p0 : Cmd} {s : State} (h : Keeps M s0 s) : KX M s0 (execFaultReset p0 s) := by
  unfold execFaultReset
  refine KX.next ?_
  refine (keeps_State_packet (sub_trans rfl hM)) ?_
  exact h

theorem keeps_execPpsOutEnd {M : Nat} (hM : Nat.land 70368744185856 M = 70368744185856) {s0 : State} {s : State} (h : Keeps M s0 s) : KX M s0 (execPpsOutEnd s) := by
  unfold execPpsOutEnd
  refine KX.next ?_
  refine (keeps_State_ppsEnd (sub_trans rfl hM)) ?_
  exact h

theorem keeps_execPhaseMove {M : Nat} (hM : Nat.land 235929600 M = 235929600) {s0 : State} {p0 : Cmd} {s : State} (h : Keeps M s0 s) : KX M s0 (execPhaseMove p0 s) := by
  unfold execPhaseMove
  refine KX.next ?_
  refine (keeps_State_command (sub_trans rfl hM)) ?_ ?_
  ·
    exact h
  · intro x0 x2 h1
    try beta_reduce
    refine (keeps_State_cmdPhaseMove (sub_trans rfl hM)) ?_
    exact h1

theorem keeps_execCompareLoad {M : Nat} (hM : Nat.land 235143173 M = 235143173) {s0 : State} {p0 : Cmd} {s : State} (h : Keeps M s0 s) : KX M s0 (execCompareLoad p0 s) := by
  unfold execCompareLoad
  refine KX.next ?_
  refine (keeps_State_command (sub_trans rfl hM)) ?_ ?_
  ·
    exact h
  · intro x0 x2 h1
    try beta_reduce
    refine (keeps_State_cmdCompareLoad (sub_trans rfl hM)) ?_
    exact h1

theorem keeps_execSbcDelayEnd {M : Nat} (hM : Nat.land 140737488367617 M = 140737488367617) {s0 : State} {p0 : Fin 32} {s : State} (h : Keeps M s0 s) : KX M s0 (execSbcDelayEnd p0 s) := by
  unfold execSbcDelayEnd
  refine KX.next ?_
  refine (keeps_State_safeGroup (sub_trans rfl hM)) ?_
  refine (keeps_State_sbcDelayEnd (sub_trans rfl hM)) ?_
  exact h

theorem keeps_execPwmClrflags {M : Nat} (hM : Nat.land 1 M = 1) {s0 : State} {p0 : Fin 32} {s : State} (h : Keeps M s0 s) : KX M s0 (execPwmClrflags p0 s) := by
  unfold execPwmClrflags
  refine KX.next ?_
  refine (keeps_State_hostCmd (sub_trans rfl hM)) ?_ ?_
  ·
    exact h
  · intro x0 h1
    try beta_reduce
    refine (keeps_State_pwmClrFlags (sub_trans rfl hM)) ?_
    exact h1

theorem keeps_execBar2Write {M : Nat} (hM : Nat.land 513 M = 513) {s0 : State} {p0 : BitVec 28} {p1 : List Byte} {s : State} (h : Keeps M s0 s) : KX M s0 (execBar2Write p0 p1 s) := by
  unfold execBar2Write
  refine KX.next ?_
  refine (keeps_State_bar2Write (sub_trans rfl hM)) ?_
  exact h

theorem keeps_execGoRun {M : Nat} (hM : Nat.land 144115188075855871 M = 144115188075855871) {s0 : State} {p0 : Cmd} {s : State} (h : Keeps M s0 s) : KX M s0 (execGoRun p0 s) := by
  unfold execGoRun
  refine KX.next ?_
  refine (keeps_State_packet (sub_trans rfl hM)) ?_
  exact h

theorem keeps_execMovta {M : Nat} (hM : Nat.land 70102993086681 M = 70102993086681) {s0 : State} {p0 : Fin 16} {p1 : Fin 4} {p2 : Fin 16} {p3 : AccPart} {p4 : Move} {s : State} (h : Keeps M s0 s) : KX M s0 (execMovta p0 p1 p2 p3 p4 s) := by
  unfold execMovta
  refine KX.next ?_
  refine (keeps_State_lpMovta (sub_trans rfl hM)) ?_
  exact h

theorem keeps_execFreezeTimeout {M : Nat} (hM : Nat.land 18014398509490177 M = 18014398509490177) {s0 : State} {s : State} (h : Keeps M s0 s) : KX M s0 (execFreezeTimeout s) := by
  unfold execFreezeTimeout
  refine KX.next ?_
  refine (keeps_State_freezeTimeout (sub_trans rfl hM)) ?_
  exact h

theorem keeps_execInjStop {M : Nat} (hM : Nat.land 234881025 M = 234881025) {s0 : State} {p0 : Fin 16} {s : State} (h : Keeps M s0 s) : KX M s0 (execInjStop p0 s) := by
  unfold execInjStop
  refine KX.next ?_
  refine (keeps_State_hostCmd (sub_trans rfl hM)) ?_ ?_
  ·
    exact h
  · intro x0 h1
    try beta_reduce
    refine (keeps_State_injStop (sub_trans rfl hM)) ?_
    exact h1

theorem keeps_execUncorrectableError {M : Nat} (hM : Nat.land 8590006273 M = 8590006273) {s0 : State} {p0 : MemPart} {s : State} (h : Keeps M s0 s) : KX M s0 (execUncorrectableError p0 s) := by
  unfold execUncorrectableError
  refine KX.next ?_
  refine (keeps_State_uncorrectable (sub_trans rfl hM)) ?_
  exact h

theorem keeps_execLatchRead {M : Nat} (hM : Nat.land 235012097 M = 235012097) {s0 : State} {p0 : Cmd} {s : State} (h : Keeps M s0 s) : KX M s0 (execLatchRead p0 s) := by
  unfold execLatchRead
  refine KX.next ?_
  refine (keeps_State_command (sub_trans rfl hM)) ?_ ?_
  ·
    exact h
  · intro x0 x2 h1
    try beta_reduce
    refine (keeps_State_cmdLatchRead (sub_trans rfl hM)) ?_
    exact h1

theorem keeps_execIoConfig {M : Nat} (hM : Nat.land 144115188075855871 M = 144115188075855871) {s0 : State} {p0 : Cmd} {s : State} (h : Keeps M s0 s) : KX M s0 (execIoConfig p0 s) := by
  unfold execIoConfig
  refine KX.next ?_
  refine (keeps_State_command (sub_trans rfl hM)) ?_ ?_
  ·
    exact h
  · intro x0 x2 h1
    try beta_reduce
    refine (keeps_State_cmdImage (sub_trans rfl hM)) ?_
    exact h1

theorem keeps_execStop {M : Nat} (hM : Nat.land 239075328 M = 239075328) {s0 : State} {p0 : Cmd} {s : State} (h : Keeps M s0 s) : KX M s0 (execStop p0 s) := by
  unfold execStop
  refine KX.next ?_
  refine (keeps_State_command (sub_trans rfl hM)) ?_ ?_
  ·
    exact h
  · intro x0 x2 h1
    try beta_reduce
    refine (keeps_State_cmdStop (sub_trans rfl hM)) ?_
    exact h1

theorem keeps_execFunctionLevelReset {M : Nat} (hM : Nat.land 36037593279764993 M = 36037593279764993) {s0 : State} {s : State} (h : Keeps M s0 s) : KX M s0 (execFunctionLevelReset s) := by
  unfold execFunctionLevelReset
  refine KX.next ?_
  refine (keeps_State_hostReset (sub_trans rfl hM)) ?_
  exact h

theorem keeps_execCaptureSample {M : Nat} (hM : Nat.land 9007199489635073 M = 9007199489635073) {s0 : State} {p0 : Fin 8} {p1 : Bool} {p2 : Bool} {s : State} (h : Keeps M s0 s) : KX M s0 (execCaptureSample p0 p1 p2 s) := by
  unfold execCaptureSample
  refine KX.next ?_
  refine (keeps_State_capSample (sub_trans rfl hM)) ?_
  exact h

theorem keeps_execRegMiss {M : Nat} (hM : Nat.land 526337 M = 526337) {s0 : State} {p0 : Fin 32} {s : State} (h : Keeps M s0 s) : KX M s0 (execRegMiss p0 s) := by
  unfold execRegMiss
  refine KX.next ?_
  refine (keeps_State_regMiss (sub_trans rfl hM)) ?_
  exact h

theorem keeps_execPwmCommitCmpc {M : Nat} (hM : Nat.land 8589934593 M = 8589934593) {s0 : State} {p0 : Fin 32} {s : State} (h : Keeps M s0 s) : KX M s0 (execPwmCommitCmpc p0 s) := by
  unfold execPwmCommitCmpc
  refine KX.next ?_
  refine (keeps_State_hostCmd (sub_trans rfl hM)) ?_ ?_
  ·
    exact h
  · intro x0 h1
    try beta_reduce
    refine (keeps_State_pwmCmpc (sub_trans rfl hM)) ?_
    exact h1

theorem keeps_execRingFetch {M : Nat} (hM : Nat.land 36029621887569921 M = 36029621887569921) {s0 : State} {p0 : Fin 128} {p1 : List Byte} {p2 : Bool} {s : State} (h : Keeps M s0 s) : KX M s0 (execRingFetch p0 p1 p2 s) := by
  unfold execRingFetch
  refine KX.next ?_
  refine (keeps_State_ringFetch (sub_trans rfl hM)) ?_
  exact h

theorem keeps_execPortCmd {M : Nat} (hM : Nat.land 234946561 M = 234946561) {s0 : State} {p0 : Cmd} {s : State} (h : Keeps M s0 s) : KX M s0 (execPortCmd p0 s) := by
  unfold execPortCmd
  refine KX.next ?_
  refine (keeps_State_command (sub_trans rfl hM)) ?_ ?_
  ·
    exact h
  · intro x0 x2 h1
    try beta_reduce
    refine (keeps_State_cmdPort (sub_trans rfl hM)) ?_
    exact h1

theorem keeps_execMfsr {M : Nat} (hM : Nat.land 45089103554561 M = 45089103554561) {s0 : State} {p0 : Fin 16} {p1 : Fin 16} {s : State} (h : Keeps M s0 s) : KX M s0 (execMfsr p0 p1 s) := by
  unfold execMfsr
  refine KX.next ?_
  refine (keeps_State_lpMfsr (sub_trans rfl hM)) ?_
  exact h

theorem keeps_execRmNextArm {M : Nat} (hM : Nat.land 281474976710657 M = 281474976710657) {s0 : State} {s : State} (h : Keeps M s0 s) : KX M s0 (execRmNextArm s) := by
  unfold execRmNextArm
  refine KX.next ?_
  refine (keeps_State_hostCmd (sub_trans rfl hM)) ?_ ?_
  ·
    exact h
  · intro x0 h1
    try beta_reduce
    refine KP.snd ?_
    refine (keeps_State_epochArm (sub_trans rfl hM)) ?_
    exact h1

theorem keeps_execTackLaneUp {M : Nat} (hM : Nat.land 1 M = 1) {s0 : State} {p0 : Fin 2} {s : State} (h : Keeps M s0 s) : KX M s0 (execTackLaneUp p0 s) := by
  unfold execTackLaneUp
  refine KX.next ?_
  refine (keeps_State_lane (sub_trans rfl hM)) ?_
  exact h

theorem keeps_execVirtualRun {M : Nat} (hM : Nat.land 36290036250641 M = 36290036250641) {s0 : State} {p0 : Fin 16} {s : State} (h : Keeps M s0 s) : KX M s0 (execVirtualRun p0 s) := by
  unfold execVirtualRun
  refine KX.next ?_
  refine (keeps_State_virtualRun (sub_trans rfl hM)) ?_
  exact h

theorem keeps_execCamSwitch {M : Nat} (hM : Nat.land 235929601 M = 235929601) {s0 : State} {p0 : Cmd} {s : State} (h : Keeps M s0 s) : KX M s0 (execCamSwitch p0 s) := by
  unfold execCamSwitch
  refine KX.next ?_
  refine (keeps_State_command (sub_trans rfl hM)) ?_ ?_
  ·
    exact h
  · intro x0 x2 h1
    try beta_reduce
    refine (keeps_State_cmdCamSwitch (sub_trans rfl hM)) ?_
    exact h1

theorem keeps_execNtNsRead {M : Nat} (hM : Nat.land 70643622084608 M = 70643622084608) {s0 : State} {p0 : Fin 10} {s : State} (h : Keeps M s0 s) : KX M s0 (execNtNsRead p0 s) := by
  unfold execNtNsRead
  refine KX.next ?_
  refine (keeps_State_ntNsRead (sub_trans rfl hM)) ?_
  exact h

theorem keeps_execMoveLinear {M : Nat} (hM : Nat.land 238026753 M = 238026753) {s0 : State} {p0 : Cmd} {s : State} (h : Keeps M s0 s) : KX M s0 (execMoveLinear p0 s) := by
  unfold execMoveLinear
  refine KX.next ?_
  refine (keeps_State_command (sub_trans rfl hM)) ?_ ?_
  ·
    exact h
  · intro x0 x2 h1
    try beta_reduce
    refine (keeps_State_cmdMoveLinear (sub_trans rfl hM)) ?_
    exact h1

theorem keeps_execCamLoad {M : Nat} (hM : Nat.land 251658240 M = 251658240) {s0 : State} {p0 : Cmd} {s : State} (h : Keeps M s0 s) : KX M s0 (execCamLoad p0 s) := by
  unfold execCamLoad
  refine KX.next ?_
  refine (keeps_State_command (sub_trans rfl hM)) ?_ ?_
  ·
    exact h
  · intro x0 x2 h1
    try beta_reduce
    refine (keeps_State_cmdCamLoad (sub_trans rfl hM)) ?_
    exact h1

theorem keeps_execLockAcquire {M : Nat} (hM : Nat.land 26663156973568 M = 26663156973568) {s0 : State} {p0 : Contest} {p1 : Fin 64} {s : State} (h : Keeps M s0 s) : KX M s0 (execLockAcquire p0 p1 s) := by
  unfold execLockAcquire
  refine KX.next ?_
  refine (keeps_State_lockAcquire (sub_trans rfl hM)) ?_
  exact h

theorem keeps_execTbr {M : Nat} (hM : Nat.land 45089103554561 M = 45089103554561) {s0 : State} {p0 : Fin 16} {p1 : Fin 8} {s : State} (h : Keeps M s0 s) : KX M s0 (execTbr p0 p1 s) := by
  unfold execTbr
  refine KX.next ?_
  refine (keeps_State_lpTbr (sub_trans rfl hM)) ?_
  exact h

theorem keeps_execSincos {M : Nat} (hM : Nat.land 45089103554561 M = 45089103554561) {s0 : State} {p0 : Fin 16} {p1 : Fin 8} {p2 : Fin 16} {s : State} (h : Keeps M s0 s) : KX M s0 (execSincos p0 p1 p2 s) := by
  unfold execSincos
  refine KX.next ?_
  refine (keeps_State_lpSincos (sub_trans rfl hM)) ?_
  exact h

theorem keeps_execRefLost {M : Nat} (hM : Nat.land 10241 M = 10241) {s0 : State} {s : State} (h : Keeps M s0 s) : KX M s0 (execRefLost s) := by
  unfold execRefLost
  refine KX.next ?_
  refine (keeps_State_refLost (sub_trans rfl hM)) ?_
  exact h

theorem keeps_execCurrentUpdateBoundary {M : Nat} (hM : Nat.land 9008501673523203 M = 9008501673523203) {s0 : State} {p0 : Fin 32} {s : State} (h : Keeps M s0 s) : KX M s0 (execCurrentUpdateBoundary p0 s) := by
  unfold execCurrentUpdateBoundary
  refine KX.next ?_
  refine (keeps_State_currentBoundary (sub_trans rfl hM)) ?_
  exact h

theorem keeps_execJoin {M : Nat} (hM : Nat.land 234881024 M = 234881024) {s0 : State} {p0 : Cmd} {s : State} (h : Keeps M s0 s) : KX M s0 (execJoin p0 s) := by
  unfold execJoin
  refine KX.next ?_
  refine (keeps_State_command (sub_trans rfl hM)) ?_ ?_
  ·
    exact h
  · intro x0 x2 h1
    try beta_reduce
    refine (keeps_State_cmdJoin (sub_trans rfl hM)) ?_
    exact h1

theorem keeps_execLoopApplyEffect {M : Nat} (hM : Nat.land 9289976658622467 M = 9289976658622467) {s0 : State} {p0 : Fin 64} {s : State} (h : Keeps M s0 s) : KX M s0 (execLoopApplyEffect p0 s) := by
  unfold execLoopApplyEffect
  refine KX.next ?_
  refine (keeps_State_loopApplyRow (sub_trans rfl hM)) ?_
  exact h

theorem keeps_execBrakeTestEnd {M : Nat} (hM : Nat.land 140738025240577 M = 140738025240577) {s0 : State} {p0 : Fin 32} {p1 : Word} {s : State} (h : Keeps M s0 s) : KX M s0 (execBrakeTestEnd p0 p1 s) := by
  unfold execBrakeTestEnd
  refine KX.next ?_
  refine (keeps_State_safeGroup (sub_trans rfl hM)) ?_
  refine (keeps_State_brakeTestEnd (sub_trans rfl hM)) ?_
  exact h

theorem keeps_execPortLoad {M : Nat} (hM : Nat.land 65537 M = 65537) {s0 : State} {p0 : Fin 40} {s : State} (h : Keeps M s0 s) : KX M s0 (execPortLoad p0 s) := by
  unfold execPortLoad
  refine KX.next ?_
  refine (keeps_State_hostCmd (sub_trans rfl hM)) ?_ ?_
  ·
    exact h
  · intro x0 h1
    try beta_reduce
    refine (keeps_State_portLoad (sub_trans rfl hM)) ?_
    exact h1

theorem keeps_execNeg {M : Nat} (hM : Nat.land 70102993086681 M = 70102993086681) {s0 : State} {p0 : Fin 16} {p1 : Fin 16} {p2 : AluSrc} {s : State} (h : Keeps M s0 s) : KX M s0 (execNeg p0 p1 p2 s) := by
  unfold execNeg
  refine KX.next ?_
  refine (keeps_lpAlu (sub_trans rfl hM)) ?_
  exact h

theorem keeps_execCmacc {M : Nat} (hM : Nat.land 70102993086681 M = 70102993086681) {s0 : State} {p0 : Fin 16} {p1 : Bool} {p2 : Fin 8} {p3 : Fin 8} {p4 : Move2} {p5 : Move2} {s : State} (h : Keeps M s0 s) : KX M s0 (execCmacc p0 p1 p2 p3 p4 p5 s) := by
  unfold execCmacc
  refine KX.next ?_
  refine (keeps_lpCmac (sub_trans rfl hM)) ?_
  exact h

theorem keeps_execLawsel {M : Nat} (hM : Nat.land 144115188075855871 M = 144115188075855871) {s0 : State} {p0 : Cmd} {s : State} (h : Keeps M s0 s) : KX M s0 (execLawsel p0 s) := by
  unfold execLawsel
  refine KX.next ?_
  refine (keeps_State_command (sub_trans rfl hM)) ?_ ?_
  ·
    exact h
  · intro x0 x2 h1
    try beta_reduce
    refine (keeps_State_cmdImage (sub_trans rfl hM)) ?_
    exact h1

theorem keeps_execVelocityRun {M : Nat} (hM : Nat.land 36290027337745 M = 36290027337745) {s0 : State} {p0 : Fin 32} {s : State} (h : Keeps M s0 s) : KX M s0 (execVelocityRun p0 s) := by
  unfold execVelocityRun
  refine KX.next ?_
  refine (keeps_State_velocityRun (sub_trans rfl hM)) ?_
  exact h

theorem keeps_execPtpServoUpdate {M : Nat} (hM : Nat.land 70368744192001 M = 70368744192001) {s0 : State} {p0 : Fin 3} {p1 : Word64} {p2 : Word64} {p3 : BitVec 16} {p4 : Option (BitVec 16)} {s : State} (h : Keeps M s0 s) : KX M s0 (execPtpServoUpdate p0 p1 p2 p3 p4 s) := by
  unfold execPtpServoUpdate
  refine KX.next ?_
  refine (keeps_State_ptpMeasure (sub_trans rfl hM)) ?_
  exact h

theorem keeps_execAdd {M : Nat} (hM : Nat.land 70102993086681 M = 70102993086681) {s0 : State} {p0 : Fin 16} {p1 : Fin 16} {p2 : AluSrc} {s : State} (h : Keeps M s0 s) : KX M s0 (execAdd p0 p1 p2 s) := by
  unfold execAdd
  refine KX.next ?_
  refine (keeps_lpAlu (sub_trans rfl hM)) ?_
  exact h

theorem keeps_execCanRxError {M : Nat} (hM : Nat.land 1 M = 1) {s0 : State} {p0 : Fin 4} {p1 : Fin 7} {p2 : Bool} {p3 : Fin 32} {s : State} (h : Keeps M s0 s) : KX M s0 (execCanRxError p0 p1 p2 p3 s) := by
  unfold execCanRxError
  refine KX.next ?_
  refine (keeps_State_canRxError (sub_trans rfl hM)) ?_
  exact h

theorem keeps_execCtokCancel {M : Nat} (hM : Nat.land 146263769089 M = 146263769089) {s0 : State} {p0 : Fin 8} {s : State} (h : Keeps M s0 s) : KX M s0 (execCtokCancel p0 s) := by
  unfold execCtokCancel
  refine KX.next ?_
  refine (keeps_State_hostCmd (sub_trans rfl hM)) ?_ ?_
  ·
    exact h
  · intro x0 h1
    try beta_reduce
    refine (keeps_State_tokenCancel (sub_trans rfl hM)) ?_
    exact h1

theorem keeps_execSt64 {M : Nat} (hM : Nat.land 52510807042265 M = 52510807042265) {s0 : State} {p0 : Fin 16} {p1 : Fin 8} {p2 : Fin 8} {p3 : AMode} {s : State} (h : Keeps M s0 s) : KX M s0 (execSt64 p0 p1 p2 p3 s) := by
  unfold execSt64
  refine KX.next ?_
  refine (keeps_State_lpSt64 (sub_trans rfl hM)) ?_
  exact h

theorem keeps_execLineShaftLost {M : Nat} (hM : Nat.land 1099520022529 M = 1099520022529) {s0 : State} {p0 : Fin 16} {s : State} (h : Keeps M s0 s) : KX M s0 (execLineShaftLost p0 s) := by
  unfold execLineShaftLost
  refine KX.next ?_
  refine (keeps_State_shaftFrame (sub_trans rfl hM)) ?_
  exact h

theorem keeps_execPositionBoundary {M : Nat} (hM : Nat.land 9008501673523203 M = 9008501673523203) {s0 : State} {p0 : Fin 80} {s : State} (h : Keeps M s0 s) : KX M s0 (execPositionBoundary p0 s) := by
  unfold execPositionBoundary
  refine KX.next ?_
  refine (keeps_State_positionBoundary (sub_trans rfl hM)) ?_
  exact h

theorem keeps_execMovr64 {M : Nat} (hM : Nat.land 70102993086681 M = 70102993086681) {s0 : State} {p0 : Fin 16} {p1 : Fin 8} {p2 : Fin 4} {p3 : LpCount} {p4 : Move} {s : State} (h : Keeps M s0 s) : KX M s0 (execMovr64 p0 p1 p2 p3 p4 s) := by
  unfold execMovr64
  refine KX.next ?_
  refine (keeps_State_lpMovr64 (sub_trans rfl hM)) ?_
  exact h

theorem keeps_execTwClrflags {M : Nat} (hM : Nat.land 1 M = 1) {s0 : State} {s : State} (h : Keeps M s0 s) : KX M s0 (execTwClrflags s) := by
  unfold execTwClrflags
  refine KX.next ?_
  refine (keeps_State_hostCmd (sub_trans rfl hM)) ?_ ?_
  ·
    exact h
  · intro x0 h1
    try beta_reduce
    refine (keeps_State_twClrFlags (sub_trans rfl hM)) ?_
    exact h1

theorem keeps_execCoalesceTimer {M : Nat} (hM : Nat.land 36028797018976257 M = 36028797018976257) {s0 : State} {p0 : Fin 128} {s : State} (h : Keeps M s0 s) : KX M s0 (execCoalesceTimer p0 s) := by
  unfold execCoalesceTimer
  refine KX.next ?_
  refine (keeps_State_coalesce (sub_trans rfl hM)) ?_
  exact h

theorem keeps_execFireRecordWrite {M : Nat} (hM : Nat.land 9007199254741120 M = 9007199254741120) {s0 : State} {s : State} (h : Keeps M s0 s) : KX M s0 (execFireRecordWrite s) := by
  unfold execFireRecordWrite
  refine KX.next ?_
  refine (keeps_State_fireWrite (sub_trans rfl hM)) ?_
  exact h

theorem keeps_execGclChg {M : Nat} (hM : Nat.land 70368744177665 M = 70368744177665) {s0 : State} {p0 : Fin 3} {s : State} (h : Keeps M s0 s) : KX M s0 (execGclChg p0 s) := by
  unfold execGclChg
  refine KX.next ?_
  refine (keeps_State_hostCmd (sub_trans rfl hM)) ?_ ?_
  ·
    exact h
  · intro x0 h1
    try beta_reduce
    refine (keeps_State_gclChg (sub_trans rfl hM)) ?_
    exact h1

theorem keeps_execMapCmpcWrite {M : Nat} (hM : Nat.land 833760528449 M = 833760528449) {s0 : State} {p0 : Fin 80} {p1 : Word} {s : State} (h : Keeps M s0 s) : KX M s0 (execMapCmpcWrite p0 p1 s) := by
  unfold execMapCmpcWrite
  refine KX.next ?_
  refine (keeps_State_mapRow (sub_trans rfl hM)) ?_
  exact h

theorem keeps_execLatchPop {M : Nat} (hM : Nat.land 131073 M = 131073) {s0 : State} {p0 : Fin 32} {s : State} (h : Keeps M s0 s) : KX M s0 (execLatchPop p0 s) := by
  unfold execLatchPop
  refine KX.next ?_
  refine (keeps_State_hostCmd (sub_trans rfl hM)) ?_ ?_
  ·
    exact h
  · intro x0 h1
    try beta_reduce
    refine (keeps_State_latchPop (sub_trans rfl hM)) ?_
    exact h1

theorem keeps_execDioOclr {M : Nat} (hM : Nat.land 2251799813685249 M = 2251799813685249) {s0 : State} {p0 : Word} {s : State} (h : Keeps M s0 s) : KX M s0 (execDioOclr p0 s) := by
  unfold execDioOclr
  refine (keeps_hostWord (sub_trans rfl hM)) ?_ ?_
  ·
    exact h
  · intro x0 h1
    try beta_reduce
    refine (keeps_State_dioClear (sub_trans rfl hM)) ?_
    exact h1

theorem keeps_execPllLock {M : Nat} (hM : Nat.land 72057594037927937 M = 72057594037927937) {s0 : State} {s : State} (h : Keeps M s0 s) : KX M s0 (execPllLock s) := by
  unfold execPllLock
  refine KX.next ?_
  refine (keeps_State_pllLock (sub_trans rfl hM)) ?_
  exact h

theorem keeps_execBellRecord {M : Nat} (hM : Nat.land 281474976712704 M = 281474976712704) {s0 : State} {p0 : Fin 1024} {s : State} (h : Keeps M s0 s) : KX M s0 (execBellRecord p0 s) := by
  unfold execBellRecord
  refine KX.next ?_
  refine (keeps_State_bellRecord (sub_trans rfl hM)) ?_
  exact h

theorem keeps_execSafeInputAccept {M : Nat} (hM : Nat.land 140737488359425 M = 140737488359425) {s0 : State} {p0 : Fin 8} {p1 : Bool} {p2 : Bool} {s : State} (h : Keeps M s0 s) : KX M s0 (execSafeInputAccept p0 p1 p2 s) := by
  unfold execSafeInputAccept
  refine KX.next ?_
  refine (keeps_State_safeGroup (sub_trans rfl hM)) ?_
  refine (keeps_State_safeInput (sub_trans rfl hM)) ?_
  exact h

theorem keeps_execSub {M : Nat} (hM : Nat.land 70102993086681 M = 70102993086681) {s0 : State} {p0 : Fin 16} {p1 : Fin 16} {p2 : AluSrc} {s : State} (h : Keeps M s0 s) : KX M s0 (execSub p0 p1 p2 s) := by
  unfold execSub
  refine KX.next ?_
  refine (keeps_lpAlu (sub_trans rfl hM)) ?_
  exact h

theorem keeps_execSubs {M : Nat} (hM : Nat.land 70102993086681 M = 70102993086681) {s0 : State} {p0 : Fin 16} {p1 : Fin 16} {p2 : Fin 16} {p3 : Fin 16} {p4 : Move} {s : State} (h : Keeps M s0 s) : KX M s0 (execSubs p0 p1 p2 p3 p4 s) := by
  unfold execSubs
  refine KX.next ?_
  refine (keeps_lpAlu (sub_trans rfl hM)) ?_
  exact h

theorem keeps_execRecoveryLawRun {M : Nat} (hM : Nat.land 1100295444481 M = 1100295444481) {s0 : State} {p0 : Fin 80} {s : State} (h : Keeps M s0 s) : KX M s0 (execRecoveryLawRun p0 s) := by
  unfold execRecoveryLawRun
  refine KX.next ?_
  refine (keeps_State_recoveryRow (sub_trans rfl hM)) ?_
  exact h

theorem keeps_execDeliveryRecordWrite {M : Nat} (hM : Nat.land 40602765625397761 M = 40602765625397761) {s0 : State} {p0 : Fin 128} {p1 : Bool} {s : State} (h : Keeps M s0 s) : KX M s0 (execDeliveryRecordWrite p0 p1 s) := by
  unfold execDeliveryRecordWrite
  refine KX.next ?_
  refine (keeps_State_deliveryWrite (sub_trans rfl hM)) ?_
  exact h

theorem keeps_execCrossingDetected {M : Nat} (hM : Nat.land 2473901172736 M = 2473901172736) {s0 : State} {p0 : Fin 29} {p1 : Fin 29} {s : State} (h : Keeps M s0 s) : KX M s0 (execCrossingDetected p0 p1 s) := by
  unfold execCrossingDetected
  refine KX.next ?_
  refine (keeps_State_crossing (sub_trans rfl hM)) ?_
  exact h

theorem keeps_execCanFrameReceive {M : Nat} (hM : Nat.land 4503599627370497 M = 4503599627370497) {s0 : State} {p0 : Fin 4} {p1 : CanFrame} {p2 : BitVec 24} {s : State} (h : Keeps M s0 s) : KX M s0 (execCanFrameReceive p0 p1 p2 s) := by
  unfold execCanFrameReceive
  refine KX.next ?_
  refine (keeps_State_canReceive (sub_trans rfl hM)) ?_
  exact h

theorem keeps_execSafeStatus {M : Nat} (hM : Nat.land 100330670948353 M = 100330670948353) {s0 : State} {p0 : Cmd} {s : State} (h : Keeps M s0 s) : KX M s0 (execSafeStatus p0 s) := by
  unfold execSafeStatus
  refine KX.next ?_
  refine (keeps_State_command (sub_trans rfl hM)) ?_ ?_
  ·
    exact h
  · intro x0 x2 h1
    try beta_reduce
    refine (keeps_State_cmdSafeStatus (sub_trans rfl hM)) ?_
    exact h1

theorem keeps_execOffPulse {M : Nat} (hM : Nat.land 140737488369665 M = 140737488369665) {s0 : State} {p0 : Bool} {p1 : Fin 12} {p2 : Bool} {s : State} (h : Keeps M s0 s) : KX M s0 (execOffPulse p0 p1 p2 s) := by
  unfold execOffPulse
  refine KX.next ?_
  refine (keeps_State_safeGroup (sub_trans rfl hM)) ?_
  refine (keeps_State_offPulse (sub_trans rfl hM)) ?_
  exact h

theorem keeps_execTamperAlarm {M : Nat} (hM : Nat.land 1125900041066497 M = 1125900041066497) {s0 : State} {p0 : BitVec 5} {p1 : Word64} {s : State} (h : Keeps M s0 s) : KX M s0 (execTamperAlarm p0 p1 s) := by
  unfold execTamperAlarm
  refine KX.next ?_
  refine (keeps_State_tamperAlarm (sub_trans rfl hM)) ?_
  exact h

theorem keeps_execAxisOnOff {M : Nat} (hM : Nat.land 144115188075855871 M = 144115188075855871) {s0 : State} {p0 : Cmd} {s : State} (h : Keeps M s0 s) : KX M s0 (execAxisOnOff p0 s) := by
  unfold execAxisOnOff
  refine KX.next ?_
  refine (keeps_State_packet (sub_trans rfl hM)) ?_
  exact h

theorem keeps_execBrakeTestLock {M : Nat} (hM : Nat.land 12289 M = 12289) {s0 : State} {p0 : Fin 8} {s : State} (h : Keeps M s0 s) : KX M s0 (execBrakeTestLock p0 s) := by
  unfold execBrakeTestLock
  refine KX.next ?_
  refine (keeps_State_safeGroup (sub_trans rfl hM)) ?_
  refine (keeps_State_brakeLock (sub_trans rfl hM)) ?_
  exact h

theorem keeps_execFifo0Release {M : Nat} (hM : Nat.land 4503599627370497 M = 4503599627370497) {s0 : State} {p0 : Fin 4} {s : State} (h : Keeps M s0 s) : KX M s0 (execFifo0Release p0 s) := by
  unfold execFifo0Release
  refine KX.next ?_
  refine (keeps_State_hostCmd (sub_trans rfl hM)) ?_ ?_
  ·
    exact h
  · intro x0 h1
    try beta_reduce
    refine (keeps_State_fifoRelease (sub_trans rfl hM)) ?_
    exact h1

theorem keeps_execSetx {M : Nat} (hM : Nat.land 45089103554561 M = 45089103554561) {s0 : State} {p0 : Fin 16} {p1 : Fin 8} {p2 : Fin 8} {p3 : SetxSrc} {s : State} (h : Keeps M s0 s) : KX M s0 (execSetx p0 p1 p2 p3 s) := by
  unfold execSetx
  refine KX.next ?_
  refine (keeps_State_lpSetx (sub_trans rfl hM)) ?_
  exact h

theorem keeps_execGtripTclr {M : Nat} (hM : Nat.land 25769809921 M = 25769809921) {s0 : State} {p0 : Fin 4} {s : State} (h : Keeps M s0 s) : KX M s0 (execGtripTclr p0 s) := by
  unfold execGtripTclr
  refine KX.next ?_
  refine (keeps_State_hostCmd (sub_trans rfl hM)) ?_ ?_
  ·
    exact h
  · intro x0 h1
    try beta_reduce
    refine (keeps_State_gtripTclr (sub_trans rfl hM)) ?_
    exact h1

theorem keeps_execClra {M : Nat} (hM : Nat.land 70102993086681 M = 70102993086681) {s0 : State} {p0 : Fin 16} {p1 : Fin 4} {p2 : Move} {s : State} (h : Keeps M s0 s) : KX M s0 (execClra p0 p1 p2 s) := by
  unfold execClra
  refine KX.next ?_
  refine (keeps_State_lpClra (sub_trans rfl hM)) ?_
  exact h

theorem keeps_execHqWrite {M : Nat} (hM : Nat.land 144115188075855871 M = 144115188075855871) {s0 : State} {p0 : Word} {p1 : List Word} {s : State} (h : Keeps M s0 s) : KX M s0 (execHqWrite p0 p1 s) := by
  unfold execHqWrite
  refine (keeps_hqWriteRow (sub_trans rfl hM)) ?_
  exact h

theorem keeps_execAdda {M : Nat} (hM : Nat.land 70102993086681 M = 70102993086681) {s0 : State} {p0 : Fin 16} {p1 : Fin 4} {p2 : Fin 8} {p3 : Move} {s : State} (h : Keeps M s0 s) : KX M s0 (execAdda p0 p1 p2 p3 s) := by
  unfold execAdda
  refine KX.next ?_
  refine (keeps_State_lpAdda (sub_trans rfl hM)) ?_
  exact h

theorem keeps_execCanFreshClear {M : Nat} (hM : Nat.land 1 M = 1) {s0 : State} {p0 : Fin 4} {p1 : Fin 64} {s : State} (h : Keeps M s0 s) : KX M s0 (execCanFreshClear p0 p1 s) := by
  unfold execCanFreshClear
  refine KX.next ?_
  refine (keeps_State_hostCmd (sub_trans rfl hM)) ?_ ?_
  ·
    exact h
  · intro x0 h1
    try beta_reduce
    refine (keeps_State_freshClear (sub_trans rfl hM)) ?_
    exact h1

theorem keeps_execSafeResetEdge {M : Nat} (hM : Nat.land 140737488361473 M = 140737488361473) {s0 : State} {p0 : Word} {p1 : Word} {p2 : Word} {s : State} (h : Keeps M s0 s) : KX M s0 (execSafeResetEdge p0 p1 p2 s) := by
  unfold execSafeResetEdge
  refine KX.next ?_
  refine (keeps_State_safeGroup (sub_trans rfl hM)) ?_
  refine (keeps_State_safeResetEdge (sub_trans rfl hM)) ?_
  exact h

theorem keeps_execCamArm {M : Nat} (hM : Nat.land 235929601 M = 235929601) {s0 : State} {p0 : Fin 80} {s : State} (h : Keeps M s0 s) : KX M s0 (execCamArm p0 s) := by
  unfold execCamArm
  refine KX.next ?_
  refine (keeps_State_hostCmd (sub_trans rfl hM)) ?_ ?_
  ·
    exact h
  · intro x0 h1
    try beta_reduce
    refine (keeps_State_camArm (sub_trans rfl hM)) ?_
    exact h1

theorem keeps_execCaptureConfig {M : Nat} (hM : Nat.land 144115188075855871 M = 144115188075855871) {s0 : State} {p0 : Cmd} {s : State} (h : Keeps M s0 s) : KX M s0 (execCaptureConfig p0 s) := by
  unfold execCaptureConfig
  refine KX.next ?_
  refine (keeps_State_command (sub_trans rfl hM)) ?_ ?_
  ·
    exact h
  · intro x0 x2 h1
    try beta_reduce
    refine (keeps_State_cmdCaptureConfig (sub_trans rfl hM)) ?_
    exact h1

theorem keeps_execServoTimeout {M : Nat} (hM : Nat.land 14337 M = 14337) {s0 : State} {s : State} (h : Keeps M s0 s) : KX M s0 (execServoTimeout s) := by
  unfold execServoTimeout
  refine KX.next ?_
  refine (keeps_State_servoTimeout (sub_trans rfl hM)) ?_
  exact h

theorem keeps_execFirmwareStateDecision {M : Nat} (hM : Nat.land 72339078141444097 M = 72339078141444097) {s0 : State} {s : State} (h : Keeps M s0 s) : KX M s0 (execFirmwareStateDecision s) := by
  unfold execFirmwareStateDecision
  refine KX.next ?_
  refine (keeps_State_firmwareDecision (sub_trans rfl hM)) ?_
  exact h

theorem keeps_execAcyclic {M : Nat} (hM : Nat.land 351843955769345 M = 351843955769345) {s0 : State} {p0 : Cmd} {s : State} (h : Keeps M s0 s) : KX M s0 (execAcyclic p0 s) := by
  unfold execAcyclic
  refine KX.next ?_
  refine (keeps_State_command (sub_trans rfl hM)) ?_ ?_
  ·
    exact h
  · intro x0 x2 h1
    try beta_reduce
    refine (keeps_State_cmdAcyclic (sub_trans rfl hM)) ?_
    exact h1

theorem keeps_execHqStatus {M : Nat} (hM : Nat.land 274877906944 M = 274877906944) {s0 : State} {s : State} (h : Keeps M s0 s) : KX M s0 (execHqStatus s) := by
  unfold execHqStatus
  refine KX.next ?_
  refine (keeps_State_hqStatus (sub_trans rfl hM)) ?_
  exact h

theorem keeps_execOutputRetry {M : Nat} (hM : Nat.land 2251799813693440 M = 2251799813693440) {s0 : State} {p0 : Fin 32} {s : State} (h : Keeps M s0 s) : KX M s0 (execOutputRetry p0 s) := by
  unfold execOutputRetry
  refine KX.next ?_
  refine (keeps_State_outputRetry (sub_trans rfl hM)) ?_
  exact h

theorem keeps_execWorkItemDone {M : Nat} (hM : Nat.land 824633720832 M = 824633720832) {s0 : State} {p0 : Fin 8} {s : State} (h : Keeps M s0 s) : KX M s0 (execWorkItemDone p0 s) := by
  unfold execWorkItemDone
  refine KX.next ?_
  refine (keeps_State_groomDone (sub_trans rfl hM)) ?_
  exact h

theorem keeps_execMapTrefWrite {M : Nat} (hM : Nat.land 833760528449 M = 833760528449) {s0 : State} {p0 : Fin 80} {p1 : Word} {s : State} (h : Keeps M s0 s) : KX M s0 (execMapTrefWrite p0 p1 s) := by
  unfold execMapTrefWrite
  refine KX.next ?_
  refine (keeps_State_mapRow (sub_trans rfl hM)) ?_
  exact h

theorem keeps_execRti {M : Nat} (hM : Nat.land 45089103554577 M = 45089103554577) {s0 : State} {p0 : Fin 16} {s : State} (h : Keeps M s0 s) : KX M s0 (execRti p0 s) := by
  unfold execRti
  refine KX.next ?_
  refine (keeps_State_lpRti (sub_trans rfl hM)) ?_
  exact h

theorem keeps_execGoConfig {M : Nat} (hM : Nat.land 144115188075855871 M = 144115188075855871) {s0 : State} {p0 : Cmd} {s : State} (h : Keeps M s0 s) : KX M s0 (execGoConfig p0 s) := by
  unfold execGoConfig
  refine KX.next ?_
  refine (keeps_State_packet (sub_trans rfl hM)) ?_
  exact h

theorem keeps_execGraceEnd {M : Nat} (hM : Nat.land 1 M = 1) {s0 : State} {s : State} (h : Keeps M s0 s) : KX M s0 (execGraceEnd s) := by
  unfold execGraceEnd
  refine KX.next ?_
  refine (keeps_State_graceEnd (sub_trans rfl hM)) ?_
  exact h

theorem keeps_execCleConfig {M : Nat} (hM : Nat.land 144115188075855871 M = 144115188075855871) {s0 : State} {p0 : Cmd} {s : State} (h : Keeps M s0 s) : KX M s0 (execCleConfig p0 s) := by
  unfold execCleConfig
  refine KX.next ?_
  refine (keeps_State_command (sub_trans rfl hM)) ?_ ?_
  ·
    exact h
  · intro x0 x2 h1
    try beta_reduce
    refine (keeps_State_cmdImage (sub_trans rfl hM)) ?_
    exact h1

theorem keeps_execFrameBoundary {M : Nat} (hM : Nat.land 9289779090126851 M = 9289779090126851) {s0 : State} {s : State} (h : Keeps M s0 s) : KX M s0 (execFrameBoundary s) := by
  unfold execFrameBoundary
  refine KX.next ?_
  refine (keeps_State_frameBoundary (sub_trans rfl hM)) ?_
  exact h

theorem keeps_execLd {M : Nat} (hM : Nat.land 64880312854529 M = 64880312854529) {s0 : State} {p0 : Fin 16} {p1 : Fin 16} {p2 : Fin 8} {p3 : AMode} {s : State} (h : Keeps M s0 s) : KX M s0 (execLd p0 p1 p2 p3 s) := by
  unfold execLd
  refine KX.next ?_
  refine (keeps_State_lpLd (sub_trans rfl hM)) ?_
  exact h

theorem keeps_execOutputOvertemp {M : Nat} (hM : Nat.land 2251799813691393 M = 2251799813691393) {s0 : State} {p0 : Fin 32} {p1 : Word64} {s : State} (h : Keeps M s0 s) : KX M s0 (execOutputOvertemp p0 p1 s) := by
  unfold execOutputOvertemp
  refine KX.next ?_
  refine (keeps_State_outputHot (sub_trans rfl hM)) ?_
  exact h

theorem keeps_execLogFreeze {M : Nat} (hM : Nat.land 18014398744371201 M = 18014398744371201) {s0 : State} {p0 : Cmd} {s : State} (h : Keeps M s0 s) : KX M s0 (execLogFreeze p0 s) := by
  unfold execLogFreeze
  refine KX.next ?_
  refine (keeps_State_command (sub_trans rfl hM)) ?_ ?_
  ·
    exact h
  · intro x0 x2 h1
    try beta_reduce
    refine (keeps_State_cmdLogFreeze (sub_trans rfl hM)) ?_
    exact h1

theorem keeps_execCleClrflags {M : Nat} (hM : Nat.land 1 M = 1) {s0 : State} {p0 : Fin 32} {s : State} (h : Keeps M s0 s) : KX M s0 (execCleClrflags p0 s) := by
  unfold execCleClrflags
  refine KX.next ?_
  refine (keeps_State_hostCmd (sub_trans rfl hM)) ?_ ?_
  ·
    exact h
  · intro x0 h1
    try beta_reduce
    refine (keeps_State_cleClrFlags (sub_trans rfl hM)) ?_
    exact h1

theorem keeps_execXor_ {M : Nat} (hM : Nat.land 70102993086681 M = 70102993086681) {s0 : State} {p0 : Fin 16} {p1 : Fin 16} {p2 : AluSrc} {s : State} (h : Keeps M s0 s) : KX M s0 (execXor_ p0 p1 p2 s) := by
  unfold execXor_
  refine KX.next ?_
  refine (keeps_lpAlu (sub_trans rfl hM)) ?_
  exact h

theorem keeps_execDramInitDone {M : Nat} (hM : Nat.land 72057594037942273 M = 72057594037942273) {s0 : State} {p0 : Bool} {s : State} (h : Keeps M s0 s) : KX M s0 (execDramInitDone p0 s) := by
  unfold execDramInitDone
  refine KX.next ?_
  refine (keeps_State_dramDone (sub_trans rfl hM)) ?_
  exact h

theorem keeps_execBellEntryAgeout {M : Nat} (hM : Nat.land 1 M = 1) {s0 : State} {p0 : Fin 64} {s : State} (h : Keeps M s0 s) : KX M s0 (execBellEntryAgeout p0 s) := by
  unfold execBellEntryAgeout
  refine KX.next ?_
  refine (keeps_State_bellAgeout (sub_trans rfl hM)) ?_
  exact h

theorem keeps_execLoopApply {M : Nat} (hM : Nat.land 536870913 M = 536870913) {s0 : State} {p0 : Fin 64} {s : State} (h : Keeps M s0 s) : KX M s0 (execLoopApply p0 s) := by
  unfold execLoopApply
  refine KX.next ?_
  refine (keeps_State_hostCmd (sub_trans rfl hM)) ?_ ?_
  ·
    exact h
  · intro x0 h1
    try beta_reduce
    refine (keeps_State_loopApply (sub_trans rfl hM)) ?_
    exact h1

theorem keeps_execNop {M : Nat} (hM : Nat.land 234881024 M = 234881024) {s0 : State} {p0 : Cmd} {s : State} (h : Keeps M s0 s) : KX M s0 (execNop p0 s) := by
  unfold execNop
  refine KX.next ?_
  refine (keeps_State_command (sub_trans rfl hM)) ?_ ?_
  ·
    exact h
  · intro x0 x2 h1
    try beta_reduce
    refine (keeps_State_cmdNop (sub_trans rfl hM)) ?_
    exact h1

theorem keeps_execPortConfig {M : Nat} (hM : Nat.land 144115188075855871 M = 144115188075855871) {s0 : State} {p0 : Cmd} {s : State} (h : Keeps M s0 s) : KX M s0 (execPortConfig p0 s) := by
  unfold execPortConfig
  refine KX.next ?_
  refine (keeps_State_command (sub_trans rfl hM)) ?_ ?_
  ·
    exact h
  · intro x0 x2 h1
    try beta_reduce
    refine (keeps_State_cmdImage (sub_trans rfl hM)) ?_
    exact h1

theorem keeps_execPortReval {M : Nat} (hM : Nat.land 65537 M = 65537) {s0 : State} {p0 : Fin 40} {s : State} (h : Keeps M s0 s) : KX M s0 (execPortReval p0 s) := by
  unfold execPortReval
  refine KX.next ?_
  refine (keeps_State_hostCmd (sub_trans rfl hM)) ?_ ?_
  ·
    exact h
  · intro x0 h1
    try beta_reduce
    refine (keeps_State_portReval (sub_trans rfl hM)) ?_
    exact h1

theorem keeps_execFwWrite {M : Nat} (hM : Nat.land 72057594272812032 M = 72057594272812032) {s0 : State} {p0 : Cmd} {s : State} (h : Keeps M s0 s) : KX M s0 (execFwWrite p0 s) := by
  unfold execFwWrite
  refine KX.next ?_
  refine (keeps_State_command (sub_trans rfl hM)) ?_ ?_
  ·
    exact h
  · intro x0 x2 h1
    try beta_reduce
    refine (keeps_State_cmdFwWrite (sub_trans rfl hM)) ?_
    exact h1

theorem keeps_execFwVerify {M : Nat} (hM : Nat.land 72057594272811008 M = 72057594272811008) {s0 : State} {p0 : Cmd} {s : State} (h : Keeps M s0 s) : KX M s0 (execFwVerify p0 s) := by
  unfold execFwVerify
  refine KX.next ?_
  refine (keeps_State_command (sub_trans rfl hM)) ?_ ?_
  ·
    exact h
  · intro x0 x2 h1
    try beta_reduce
    refine (keeps_State_cmdFwVerify (sub_trans rfl hM)) ?_
    exact h1

theorem keeps_execCanRecoverBit {M : Nat} (hM : Nat.land 4503599627370497 M = 4503599627370497) {s0 : State} {p0 : Fin 4} {s : State} (h : Keeps M s0 s) : KX M s0 (execCanRecoverBit p0 s) := by
  unfold execCanRecoverBit
  refine KX.next ?_
  refine (keeps_State_hostCmd (sub_trans rfl hM)) ?_ ?_
  ·
    exact h
  · intro x0 h1
    try beta_reduce
    refine (keeps_State_canRecover (sub_trans rfl hM)) ?_
    exact h1

theorem keeps_execAssign {M : Nat} (hM : Nat.land 35186754453505 M = 35186754453505) {s0 : State} {p0 : Cmd} {s : State} (h : Keeps M s0 s) : KX M s0 (execAssign p0 s) := by
  unfold execAssign
  refine KX.next ?_
  refine (keeps_State_command (sub_trans rfl hM)) ?_ ?_
  ·
    exact h
  · intro x0 x2 h1
    try beta_reduce
    refine (keeps_State_cmdAssign (sub_trans rfl hM)) ?_
    exact h1

theorem keeps_execMoveEnd {M : Nat} (hM : Nat.land 1099749660673 M = 1099749660673) {s0 : State} {p0 : Fin 80} {s : State} (h : Keeps M s0 s) : KX M s0 (execMoveEnd p0 s) := by
  unfold execMoveEnd
  refine KX.next ?_
  refine (keeps_State_trajectoryEnd (sub_trans rfl hM)) ?_
  exact h

theorem keeps_execSetSource {M : Nat} (hM : Nat.land 244318209 M = 244318209) {s0 : State} {p0 : Cmd} {s : State} (h : Keeps M s0 s) : KX M s0 (execSetSource p0 s) := by
  unfold execSetSource
  refine KX.next ?_
  refine (keeps_State_command (sub_trans rfl hM)) ?_ ?_
  ·
    exact h
  · intro x0 x2 h1
    try beta_reduce
    refine (keeps_State_cmdSetSource (sub_trans rfl hM)) ?_
    exact h1

theorem keeps_execGateIntervalEnd {M : Nat} (hM : Nat.land 70368744185856 M = 70368744185856) {s0 : State} {p0 : Fin 3} {s : State} (h : Keeps M s0 s) : KX M s0 (execGateIntervalEnd p0 s) := by
  unfold execGateIntervalEnd
  refine KX.next ?_
  refine (keeps_State_gateEnd (sub_trans rfl hM)) ?_
  exact h

theorem keeps_execMpy {M : Nat} (hM : Nat.land 70102993086681 M = 70102993086681) {s0 : State} {p0 : Fin 16} {p1 : Fin 4} {p2 : Fin 16} {p3 : Fin 16} {p4 : Move2} {p5 : Move2} {s : State} (h : Keeps M s0 s) : KX M s0 (execMpy p0 p1 p2 p3 p4 p5 s) := by
  unfold execMpy
  refine KX.next ?_
  refine (keeps_lpMac (sub_trans rfl hM)) ?_
  exact h

theorem keeps_execBellNotice {M : Nat} (hM : Nat.land 351843720892417 M = 351843720892417) {s0 : State} {s : State} (h : Keeps M s0 s) : KX M s0 (execBellNotice s) := by
  unfold execBellNotice
  refine KX.next ?_
  refine (keeps_State_bellNotice (sub_trans rfl hM)) ?_
  exact h

theorem keeps_execStreamReturn {M : Nat} (hM : Nat.land 8193 M = 8193) {s0 : State} {p0 : Fin 96} {s : State} (h : Keeps M s0 s) : KX M s0 (execStreamReturn p0 s) := by
  unfold execStreamReturn
  refine KX.next ?_
  refine (keeps_State_streamReturn (sub_trans rfl hM)) ?_
  exact h

theorem keeps_execSetgo {M : Nat} (hM : Nat.land 8193 M = 8193) {s0 : State} {s : State} (h : Keeps M s0 s) : KX M s0 (execSetgo s) := by
  unfold execSetgo
  refine KX.next ?_
  refine (keeps_State_hostCmd (sub_trans rfl hM)) ?_ ?_
  ·
    exact h
  · intro x0 h1
    try beta_reduce
    refine ite_of (P := Keeps M s0) ?_ ?_
    ·
      exact h1
    ·
      refine (keeps_State_setGo (sub_trans rfl hM)) ?_
      exact h1

theorem keeps_execPcieLinkUp {M : Nat} (hM : Nat.land 36028797018963969 M = 36028797018963969) {s0 : State} {p0 : Fin 3} {p1 : Bool} {s : State} (h : Keeps M s0 s) : KX M s0 (execPcieLinkUp p0 p1 s) := by
  unfold execPcieLinkUp
  refine KX.next ?_
  refine (keeps_State_pcieUp (sub_trans rfl hM)) ?_
  exact h

theorem keeps_execMapAstampWrite {M : Nat} (hM : Nat.land 833760528449 M = 833760528449) {s0 : State} {p0 : Fin 80} {p1 : Word} {s : State} (h : Keeps M s0 s) : KX M s0 (execMapAstampWrite p0 p1 s) := by
  unfold execMapAstampWrite
  refine KX.next ?_
  refine (keeps_State_mapRow (sub_trans rfl hM)) ?_
  exact h

theorem keeps_execMax {M : Nat} (hM : Nat.land 70102993086681 M = 70102993086681) {s0 : State} {p0 : Fin 16} {p1 : Fin 16} {p2 : AluSrc} {s : State} (h : Keeps M s0 s) : KX M s0 (execMax p0 p1 p2 s) := by
  unfold execMax
  refine KX.next ?_
  refine (keeps_lpAlu (sub_trans rfl hM)) ?_
  exact h

theorem keeps_execGoStop {M : Nat} (hM : Nat.land 144115188075855871 M = 144115188075855871) {s0 : State} {p0 : Cmd} {s : State} (h : Keeps M s0 s) : KX M s0 (execGoStop p0 s) := by
  unfold execGoStop
  refine KX.next ?_
  refine (keeps_State_packet (sub_trans rfl hM)) ?_
  exact h

theorem keeps_execMoveSpline {M : Nat} (hM : Nat.land 238026753 M = 238026753) {s0 : State} {p0 : Cmd} {s : State} (h : Keeps M s0 s) : KX M s0 (execMoveSpline p0 s) := by
  unfold execMoveSpline
  refine KX.next ?_
  refine (keeps_State_command (sub_trans rfl hM)) ?_ ?_
  ·
    exact h
  · intro x0 x2 h1
    try beta_reduce
    refine (keeps_State_cmdMoveSpline (sub_trans rfl hM)) ?_
    exact h1

theorem keeps_execMapCmp4Write {M : Nat} (hM : Nat.land 833760528449 M = 833760528449) {s0 : State} {p0 : Fin 80} {p1 : Word} {s : State} (h : Keeps M s0 s) : KX M s0 (execMapCmp4Write p0 p1 s) := by
  unfold execMapCmp4Write
  refine KX.next ?_
  refine (keeps_State_mapRow (sub_trans rfl hM)) ?_
  exact h

theorem keeps_execRecordProgram {M : Nat} (hM : Nat.land 18014398509484033 M = 18014398509484033) {s0 : State} {p0 : ProgramEnd} {s : State} (h : Keeps M s0 s) : KX M s0 (execRecordProgram p0 s) := by
  unfold execRecordProgram
  refine KX.next ?_
  refine (keeps_State_recordProgram (sub_trans rfl hM)) ?_
  exact h

theorem keeps_execStateChange {M : Nat} (hM : Nat.land 72233666997393409 M = 72233666997393409) {s0 : State} {s : State} (h : Keeps M s0 s) : KX M s0 (execStateChange s) := by
  unfold execStateChange
  refine KX.next ?_
  refine (keeps_State_stateChange (sub_trans rfl hM)) ?_
  exact h

theorem keeps_execLdi32 {M : Nat} (hM : Nat.land 45089103554561 M = 45089103554561) {s0 : State} {p0 : Fin 16} {p1 : Fin 16} {p2 : Word} {s : State} (h : Keeps M s0 s) : KX M s0 (execLdi32 p0 p1 p2 s) := by
  unfold execLdi32
  refine KX.next ?_
  refine (keeps_State_lpLdi (sub_trans rfl hM)) ?_
  exact h

theorem keeps_execPortRearm {M : Nat} (hM : Nat.land 65537 M = 65537) {s0 : State} {p0 : Fin 40} {s : State} (h : Keeps M s0 s) : KX M s0 (execPortRearm p0 s) := by
  unfold execPortRearm
  refine KX.next ?_
  refine (keeps_State_hostCmd (sub_trans rfl hM)) ?_ ?_
  ·
    exact h
  · intro x0 h1
    try beta_reduce
    refine (keeps_State_portRearm (sub_trans rfl hM)) ?_
    exact h1

theorem keeps_execPwmCommitEffect {M : Nat} (hM : Nat.land 9008501673523203 M = 9008501673523203) {s0 : State} {p0 : Fin 40} {s : State} (h : Keeps M s0 s) : KX M s0 (execPwmCommitEffect p0 s) := by
  unfold execPwmCommitEffect
  refine KX.next ?_
  refine (keeps_State_commitEffect (sub_trans rfl hM)) ?_
  exact h

theorem keeps_execCanTxgo {M : Nat} (hM : Nat.land 4503599627370497 M = 4503599627370497) {s0 : State} {p0 : Fin 4} {p1 : Word64} {s : State} (h : Keeps M s0 s) : KX M s0 (execCanTxgo p0 p1 s) := by
  unfold execCanTxgo
  refine KX.next ?_
  refine (keeps_State_hostCmd (sub_trans rfl hM)) ?_ ?_
  ·
    exact h
  · intro x0 h1
    try beta_reduce
    refine (keeps_State_canTxgo (sub_trans rfl hM)) ?_
    exact h1

theorem keeps_execSha {M : Nat} (hM : Nat.land 70102993086681 M = 70102993086681) {s0 : State} {p0 : Fin 16} {p1 : Fin 4} {p2 : Bool} {p3 : Fin 64} {p4 : Move} {s : State} (h : Keeps M s0 s) : KX M s0 (execSha p0 p1 p2 p3 p4 s) := by
  unfold execSha
  refine KX.next ?_
  refine (keeps_State_lpSha (sub_trans rfl hM)) ?_
  exact h

theorem keeps_execPcieLinkDown {M : Nat} (hM : Nat.land 36037593279764993 M = 36037593279764993) {s0 : State} {s : State} (h : Keeps M s0 s) : KX M s0 (execPcieLinkDown s) := by
  unfold execPcieLinkDown
  refine KX.next ?_
  refine (keeps_State_pcieDown (sub_trans rfl hM)) ?_
  exact h

theorem keeps_execCanSend {M : Nat} (hM : Nat.land 144115188075855871 M = 144115188075855871) {s0 : State} {p0 : Cmd} {s : State} (h : Keeps M s0 s) : KX M s0 (execCanSend p0 s) := by
  unfold execCanSend
  refine KX.next ?_
  refine (keeps_State_command (sub_trans rfl hM)) ?_ ?_
  ·
    exact h
  · intro x0 x2 h1
    try beta_reduce
    refine (keeps_State_cmdCanSend (sub_trans rfl hM)) ?_
    exact h1

theorem keeps_execIdentify {M : Nat} (hM : Nat.land 234881024 M = 234881024) {s0 : State} {p0 : Cmd} {s : State} (h : Keeps M s0 s) : KX M s0 (execIdentify p0 s) := by
  unfold execIdentify
  refine KX.next ?_
  refine (keeps_State_command (sub_trans rfl hM)) ?_ ?_
  ·
    exact h
  · intro x0 x2 h1
    try beta_reduce
    refine (keeps_State_cmdIdentify (sub_trans rfl hM)) ?_
    exact h1

theorem keeps_execLateClr {M : Nat} (hM : Nat.land 1 M = 1) {s0 : State} {p0 : Fin 80} {s : State} (h : Keeps M s0 s) : KX M s0 (execLateClr p0 s) := by
  unfold execLateClr
  refine KX.next ?_
  refine (keeps_State_hostCmd (sub_trans rfl hM)) ?_ ?_
  ·
    exact h
  · intro x0 h1
    try beta_reduce
    refine (keeps_State_lateClr (sub_trans rfl hM)) ?_
    exact h1

theorem keeps_execWaitReturn {M : Nat} (hM : Nat.land 37658273251328 M = 37658273251328) {s0 : State} {p0 : Fin 29} {s : State} (h : Keeps M s0 s) : KX M s0 (execWaitReturn p0 s) := by
  unfold execWaitReturn
  refine KX.next ?_
  refine (keeps_State_waitReturnRow (sub_trans rfl hM)) ?_
  exact h

theorem keeps_execRamauxConfig {M : Nat} (hM : Nat.land 144115188075855871 M = 144115188075855871) {s0 : State} {p0 : Cmd} {s : State} (h : Keeps M s0 s) : KX M s0 (execRamauxConfig p0 s) := by
  unfold execRamauxConfig
  refine KX.next ?_
  refine (keeps_State_command (sub_trans rfl hM)) ?_ ?_
  ·
    exact h
  · intro x0 x2 h1
    try beta_reduce
    refine (keeps_State_cmdRamauxConfig (sub_trans rfl hM)) ?_
    exact h1

theorem keeps_execMolpinNop {M : Nat} (hM : Nat.land 45089103554561 M = 45089103554561) {s0 : State} {p0 : Fin 16} {s : State} (h : Keeps M s0 s) : KX M s0 (execMolpinNop p0 s) := by
  unfold execMolpinNop
  refine KX.next ?_
  refine (keeps_State_lpNop (sub_trans rfl hM)) ?_
  exact h

theorem keeps_execDioOutWrite {M : Nat} (hM : Nat.land 2251799813685249 M = 2251799813685249) {s0 : State} {p0 : Word} {s : State} (h : Keeps M s0 s) : KX M s0 (execDioOutWrite p0 s) := by
  unfold execDioOutWrite
  refine (keeps_hostWord (sub_trans rfl hM)) ?_ ?_
  ·
    exact h
  · intro x0 h1
    try beta_reduce
    refine (keeps_State_dioOut (sub_trans rfl hM)) ?_
    exact h1

theorem keeps_execPtpHoldover {M : Nat} (hM : Nat.land 70368744183809 M = 70368744183809) {s0 : State} {s : State} (h : Keeps M s0 s) : KX M s0 (execPtpHoldover s) := by
  unfold execPtpHoldover
  refine KX.next ?_
  refine (keeps_State_ptpHoldover (sub_trans rfl hM)) ?_
  exact h

theorem keeps_execOr_ {M : Nat} (hM : Nat.land 70102993086681 M = 70102993086681) {s0 : State} {p0 : Fin 16} {p1 : Fin 16} {p2 : AluSrc} {s : State} (h : Keeps M s0 s) : KX M s0 (execOr_ p0 p1 p2 s) := by
  unfold execOr_
  refine KX.next ?_
  refine (keeps_lpAlu (sub_trans rfl hM)) ?_
  exact h

theorem keeps_execEnd_ {M : Nat} (hM : Nat.land 45089341585425 M = 45089341585425) {s0 : State} {p0 : Fin 16} {s : State} (h : Keeps M s0 s) : KX M s0 (execEnd_ p0 s) := by
  unfold execEnd_
  refine KX.next ?_
  refine (keeps_State_lpEndRow (sub_trans rfl hM)) ?_
  exact h

theorem keeps_execComparePulseEnd {M : Nat} (hM : Nat.land 270337 M = 270337) {s0 : State} {p0 : Fin 16} {s : State} (h : Keeps M s0 s) : KX M s0 (execComparePulseEnd p0 s) := by
  unfold execComparePulseEnd
  refine KX.next ?_
  refine (keeps_State_coPulseEnd (sub_trans rfl hM)) ?_
  exact h

theorem keeps_execMova {M : Nat} (hM : Nat.land 70102993086681 M = 70102993086681) {s0 : State} {p0 : Fin 16} {p1 : Fin 16} {p2 : Fin 4} {p3 : AccPart} {p4 : Move} {s : State} (h : Keeps M s0 s) : KX M s0 (execMova p0 p1 p2 p3 p4 s) := by
  unfold execMova
  refine KX.next ?_
  refine (keeps_State_lpMova (sub_trans rfl hM)) ?_
  exact h

theorem keeps_execLatchEdge {M : Nat} (hM : Nat.land 139264 M = 139264) {s0 : State} {p0 : Fin 32} {s : State} (h : Keeps M s0 s) : KX M s0 (execLatchEdge p0 s) := by
  unfold execLatchEdge
  refine KX.next ?_
  refine (keeps_State_latchEdge (sub_trans rfl hM)) ?_
  exact h

theorem keeps_execTwClrcnt {M : Nat} (hM : Nat.land 1 M = 1) {s0 : State} {s : State} (h : Keeps M s0 s) : KX M s0 (execTwClrcnt s) := by
  unfold execTwClrcnt
  refine KX.next ?_
  refine (keeps_State_hostCmd (sub_trans rfl hM)) ?_ ?_
  ·
    exact h
  · intro x0 h1
    try beta_reduce
    refine (keeps_State_twClrCnt (sub_trans rfl hM)) ?_
    exact h1

theorem keeps_execGclCycleStart {M : Nat} (hM : Nat.land 70368744185857 M = 70368744185857) {s0 : State} {p0 : Fin 3} {s : State} (h : Keeps M s0 s) : KX M s0 (execGclCycleStart p0 s) := by
  unfold execGclCycleStart
  refine KX.next ?_
  refine (keeps_State_gclCycle (sub_trans rfl hM)) ?_
  exact h

theorem keeps_execFgClrflags {M : Nat} (hM : Nat.land 1 M = 1) {s0 : State} {p0 : Fin 4} {s : State} (h : Keeps M s0 s) : KX M s0 (execFgClrflags p0 s) := by
  unfold execFgClrflags
  refine KX.next ?_
  refine (keeps_State_hostCmd (sub_trans rfl hM)) ?_ ?_
  ·
    exact h
  · intro x0 h1
    try beta_reduce
    refine (keeps_State_fgClrFlags (sub_trans rfl hM)) ?_
    exact h1

theorem keeps_execCyclicFrameReceive {M : Nat} (hM : Nat.land 423316786518145 M = 423316786518145) {s0 : State} {p0 : List Byte} {s : State} (h : Keeps M s0 s) : KX M s0 (execCyclicFrameReceive p0 s) := by
  unfold execCyclicFrameReceive
  refine KX.next ?_
  refine (keeps_State_cyclicIn (sub_trans rfl hM)) ?_
  exact h

theorem keeps_execCall {M : Nat} (hM : Nat.land 45089103554561 M = 45089103554561) {s0 : State} {p0 : Fin 16} {p1 : BitVec 18} {s : State} (h : Keeps M s0 s) : KX M s0 (execCall p0 p1 s) := by
  unfold execCall
  refine KX.next ?_
  refine (keeps_State_lpCall (sub_trans rfl hM)) ?_
  exact h

theorem keeps_execCompareArm {M : Nat} (hM : Nat.land 144115188075855871 M = 144115188075855871) {s0 : State} {p0 : Cmd} {s : State} (h : Keeps M s0 s) : KX M s0 (execCompareArm p0 s) := by
  unfold execCompareArm
  refine KX.next ?_
  refine (keeps_State_command (sub_trans rfl hM)) ?_ ?_
  ·
    exact h
  · intro x0 x2 h1
    try beta_reduce
    refine (keeps_State_cmdCompareArm (sub_trans rfl hM)) ?_
    exact h1

theorem keeps_execAtcWindowOpen {M : Nat} (hM : Nat.land 34359746561 M = 34359746561) {s0 : State} {p0 : Fin 16} {s : State} (h : Keeps M s0 s) : KX M s0 (execAtcWindowOpen p0 s) := by
  unfold execAtcWindowOpen
  refine KX.next ?_
  refine (keeps_State_atcOpen (sub_trans rfl hM)) ?_
  exact h

theorem keeps_execMoveCirc {M : Nat} (hM : Nat.land 238026753 M = 238026753) {s0 : State} {p0 : Cmd} {s : State} (h : Keeps M s0 s) : KX M s0 (execMoveCirc p0 s) := by
  unfold execMoveCirc
  refine KX.next ?_
  refine (keeps_State_command (sub_trans rfl hM)) ?_ ?_
  ·
    exact h
  · intro x0 x2 h1
    try beta_reduce
    refine (keeps_State_cmdMoveCirc (sub_trans rfl hM)) ?_
    exact h1

theorem keeps_execAuxCommitAll {M : Nat} (hM : Nat.land 8589934593 M = 8589934593) {s0 : State} {p0 : Fin 8} {s : State} (h : Keeps M s0 s) : KX M s0 (execAuxCommitAll p0 s) := by
  unfold execAuxCommitAll
  refine KX.next ?_
  refine (keeps_State_hostCmd (sub_trans rfl hM)) ?_ ?_
  ·
    exact h
  · intro x0 h1
    try beta_reduce
    refine (keeps_State_auxCommit (sub_trans rfl hM)) ?_
    exact h1

theorem keeps_execAbort {M : Nat} (hM : Nat.land 9288820498370561 M = 9288820498370561) {s0 : State} {p0 : Cmd} {s : State} (h : Keeps M s0 s) : KX M s0 (execAbort p0 s) := by
  unfold execAbort
  refine KX.next ?_
  refine (keeps_State_command (sub_trans rfl hM)) ?_ ?_
  ·
    exact h
  · intro x0 x2 h1
    try beta_reduce
    refine (keeps_State_cmdAbort (sub_trans rfl hM)) ?_
    exact h1

theorem keeps_execLsl {M : Nat} (hM : Nat.land 70102993086681 M = 70102993086681) {s0 : State} {p0 : Fin 16} {p1 : Fin 16} {p2 : AluSrc} {s : State} (h : Keeps M s0 s) : KX M s0 (execLsl p0 p1 p2 s) := by
  unfold execLsl
  refine KX.next ?_
  refine (keeps_lpAlu (sub_trans rfl hM)) ?_
  exact h

theorem keeps_execSysClkWrite {M : Nat} (hM : Nat.land 8193 M = 8193) {s0 : State} {p0 : Word} {s : State} (h : Keeps M s0 s) : KX M s0 (execSysClkWrite p0 s) := by
  unfold execSysClkWrite
  refine (keeps_hostWord (sub_trans rfl hM)) ?_ ?_
  ·
    exact h
  · intro x0 h1
    try beta_reduce
    refine (keeps_State_sysClk (sub_trans rfl hM)) ?_
    exact h1

theorem keeps_execAxisConfig {M : Nat} (hM : Nat.land 144115188075855871 M = 144115188075855871) {s0 : State} {p0 : Cmd} {s : State} (h : Keeps M s0 s) : KX M s0 (execAxisConfig p0 s) := by
  unfold execAxisConfig
  refine KX.next ?_
  refine (keeps_State_command (sub_trans rfl hM)) ?_ ?_
  ·
    exact h
  · intro x0 x2 h1
    try beta_reduce
    refine (keeps_State_cmdImage (sub_trans rfl hM)) ?_
    exact h1

theorem keeps_execSelfTestDone {M : Nat} (hM : Nat.land 72092778410031105 M = 72092778410031105) {s0 : State} {p0 : Bool} {p1 : Bool} {p2 : Bool} {p3 : Byte} {p4 : BitVec 16} {s : State} (h : Keeps M s0 s) : KX M s0 (execSelfTestDone p0 p1 p2 p3 p4 s) := by
  unfold execSelfTestDone
  refine KX.next ?_
  refine (keeps_State_selfTest (sub_trans rfl hM)) ?_
  exact h

theorem keeps_execNtTrimWrite {M : Nat} (hM : Nat.land 8193 M = 8193) {s0 : State} {p0 : Word} {s : State} (h : Keeps M s0 s) : KX M s0 (execNtTrimWrite p0 s) := by
  unfold execNtTrimWrite
  refine (keeps_hostWord (sub_trans rfl hM)) ?_ ?_
  ·
    exact h
  · intro x0 h1
    try beta_reduce
    refine ite_of (P := Keeps M s0) ?_ ?_
    ·
      exact h1
    ·
      refine (keeps_State_ntTrim (sub_trans rfl hM)) ?_
      exact h1

theorem keeps_execUdcHoldExpired {M : Nat} (hM : Nat.land 1246315419649 M = 1246315419649) {s0 : State} {p0 : Fin 32} {s : State} (h : Keeps M s0 s) : KX M s0 (execUdcHoldExpired p0 s) := by
  unfold execUdcHoldExpired
  refine KX.next ?_
  refine (keeps_State_udcExpired (sub_trans rfl hM)) ?_
  exact h

theorem keeps_execBar0WriteLowWord {M : Nat} (hM : Nat.land 144115188075855871 M = 144115188075855871) {s0 : State} {p0 : Fin 10} {p1 : BitVec 24} {p2 : Word} {s : State} (h : Keeps M s0 s) : KX M s0 (execBar0WriteLowWord p0 p1 p2 s) := by
  unfold execBar0WriteLowWord
  refine (keeps_writeRow (sub_trans rfl hM)) ?_
  exact h

theorem keeps_execTripLandChange {M : Nat} (hM : Nat.land 25769818113 M = 25769818113) {s0 : State} {p0 : Fin 36} {p1 : Bool} {p2 : Nat} {s : State} (h : Keeps M s0 s) : KX M s0 (execTripLandChange p0 p1 p2 s) := by
  unfold execTripLandChange
  refine KX.next ?_
  refine (keeps_State_tripLand (sub_trans rfl hM)) ?_
  exact h

theorem keeps_execTripClear {M : Nat} (hM : Nat.land 26004690945 M = 26004690945) {s0 : State} {p0 : Cmd} {s : State} (h : Keeps M s0 s) : KX M s0 (execTripClear p0 s) := by
  unfold execTripClear
  refine KX.next ?_
  refine (keeps_State_command (sub_trans rfl hM)) ?_ ?_
  ·
    exact h
  · intro x0 x2 h1
    try beta_reduce
    refine (keeps_State_cmdTripClear (sub_trans rfl hM)) ?_
    exact h1

theorem keeps_execPortClrflags {M : Nat} (hM : Nat.land 1 M = 1) {s0 : State} {p0 : Fin 40} {s : State} (h : Keeps M s0 s) : KX M s0 (execPortClrflags p0 s) := by
  unfold execPortClrflags
  refine KX.next ?_
  refine (keeps_State_hostCmd (sub_trans rfl hM)) ?_ ?_
  ·
    exact h
  · intro x0 h1
    try beta_reduce
    refine (keeps_State_portClrFlags (sub_trans rfl hM)) ?_
    exact h1

theorem keeps_execAnd_ {M : Nat} (hM : Nat.land 70102993086681 M = 70102993086681) {s0 : State} {p0 : Fin 16} {p1 : Fin 16} {p2 : AluSrc} {s : State} (h : Keeps M s0 s) : KX M s0 (execAnd_ p0 p1 p2 s) := by
  unfold execAnd_
  refine KX.next ?_
  refine (keeps_lpAlu (sub_trans rfl hM)) ?_
  exact h

theorem keeps_execIoWrite {M : Nat} (hM : Nat.land 2251800048566273 M = 2251800048566273) {s0 : State} {p0 : Cmd} {s : State} (h : Keeps M s0 s) : KX M s0 (execIoWrite p0 s) := by
  unfold execIoWrite
  refine KX.next ?_
  refine (keeps_State_command (sub_trans rfl hM)) ?_ ?_
  ·
    exact h
  · intro x0 x2 h1
    try beta_reduce
    refine (keeps_State_cmdIoWrite (sub_trans rfl hM)) ?_
    exact h1

theorem keeps_execLoopParam {M : Nat} (hM : Nat.land 144115188075855871 M = 144115188075855871) {s0 : State} {p0 : Cmd} {s : State} (h : Keeps M s0 s) : KX M s0 (execLoopParam p0 s) := by
  unfold execLoopParam
  refine KX.next ?_
  refine (keeps_State_command (sub_trans rfl hM)) ?_ ?_
  ·
    exact h
  · intro x0 x2 h1
    try beta_reduce
    refine (keeps_State_cmdLoopParam (sub_trans rfl hM)) ?_
    exact h1

theorem keeps_execInject {M : Nat} (hM : Nat.land 144115188075855871 M = 144115188075855871) {s0 : State} {p0 : Cmd} {s : State} (h : Keeps M s0 s) : KX M s0 (execInject p0 s) := by
  unfold execInject
  refine KX.next ?_
  refine (keeps_State_command (sub_trans rfl hM)) ?_ ?_
  ·
    exact h
  · intro x0 x2 h1
    try beta_reduce
    refine (keeps_State_cmdInject (sub_trans rfl hM)) ?_
    exact h1

theorem keeps_execGear {M : Nat} (hM : Nat.land 235929601 M = 235929601) {s0 : State} {p0 : Cmd} {s : State} (h : Keeps M s0 s) : KX M s0 (execGear p0 s) := by
  unfold execGear
  refine KX.next ?_
  refine (keeps_State_command (sub_trans rfl hM)) ?_ ?_
  ·
    exact h
  · intro x0 x2 h1
    try beta_reduce
    refine (keeps_State_cmdGear (sub_trans rfl hM)) ?_
    exact h1

theorem keeps_execLpVerifya {M : Nat} (hM : Nat.land 35184372088833 M = 35184372088833) {s0 : State} {p0 : Fin 16} {s : State} (h : Keeps M s0 s) : KX M s0 (execLpVerifya p0 s) := by
  unfold execLpVerifya
  refine KX.next ?_
  refine (keeps_State_hostCmd (sub_trans rfl hM)) ?_ ?_
  ·
    exact h
  · intro x0 h1
    try beta_reduce
    refine (keeps_State_lpVerify (sub_trans rfl hM)) ?_
    exact h1

theorem keeps_execFifo1Release {M : Nat} (hM : Nat.land 4503599627370497 M = 4503599627370497) {s0 : State} {p0 : Fin 4} {s : State} (h : Keeps M s0 s) : KX M s0 (execFifo1Release p0 s) := by
  unfold execFifo1Release
  refine KX.next ?_
  refine (keeps_State_hostCmd (sub_trans rfl hM)) ?_ ?_
  ·
    exact h
  · intro x0 h1
    try beta_reduce
    refine (keeps_State_fifoRelease (sub_trans rfl hM)) ?_
    exact h1

theorem keeps_execSecClrcnt {M : Nat} (hM : Nat.land 1 M = 1) {s0 : State} {s : State} (h : Keeps M s0 s) : KX M s0 (execSecClrcnt s) := by
  unfold execSecClrcnt
  refine KX.next ?_
  refine (keeps_State_hostCmd (sub_trans rfl hM)) ?_ ?_
  ·
    exact h
  · intro x0 h1
    try beta_reduce
    refine (keeps_State_wrN (sub_trans rfl hM)) ?_
    refine (keeps_State_wrN (sub_trans rfl hM)) ?_
    exact h1

theorem keeps_execFieldSupplySample {M : Nat} (hM : Nat.land 2251799813699585 M = 2251799813699585) {s0 : State} {p0 : Fin 4} {p1 : BitVec 16} {p2 : Byte} {s : State} (h : Keeps M s0 s) : KX M s0 (execFieldSupplySample p0 p1 p2 s) := by
  unfold execFieldSupplySample
  refine KX.next ?_
  refine (keeps_State_fgSample (sub_trans rfl hM)) ?_
  exact h

theorem keeps_execPtpCorrect {M : Nat} (hM : Nat.land 70368979068929 M = 70368979068929) {s0 : State} {p0 : Cmd} {s : State} (h : Keeps M s0 s) : KX M s0 (execPtpCorrect p0 s) := by
  unfold execPtpCorrect
  refine KX.next ?_
  refine (keeps_State_command (sub_trans rfl hM)) ?_ ?_
  ·
    exact h
  · intro x0 x2 h1
    try beta_reduce
    refine (keeps_State_cmdPtpCorrect (sub_trans rfl hM)) ?_
    exact h1

theorem keeps_execTwinStart {M : Nat} (hM : Nat.land 562950188374017 M = 562950188374017) {s0 : State} {p0 : Cmd} {s : State} (h : Keeps M s0 s) : KX M s0 (execTwinStart p0 s) := by
  unfold execTwinStart
  refine KX.next ?_
  refine (keeps_State_command (sub_trans rfl hM)) ?_ ?_
  ·
    exact h
  · intro x0 x2 h1
    try beta_reduce
    refine (keeps_State_cmdTwinStart (sub_trans rfl hM)) ?_
    exact h1

theorem keeps_execShuntReconnect {M : Nat} (hM : Nat.land 8193 M = 8193) {s0 : State} {p0 : Fin 8} {s : State} (h : Keeps M s0 s) : KX M s0 (execShuntReconnect p0 s) := by
  unfold execShuntReconnect
  refine KX.next ?_
  refine (keeps_State_shuntReconnect (sub_trans rfl hM)) ?_
  exact h

theorem keeps_execTamperPolicy {M : Nat} (hM : Nat.land 1125900141729793 M = 1125900141729793) {s0 : State} {p0 : Cmd} {s : State} (h : Keeps M s0 s) : KX M s0 (execTamperPolicy p0 s) := by
  unfold execTamperPolicy
  refine KX.next ?_
  refine (keeps_State_command (sub_trans rfl hM)) ?_ ?_
  ·
    exact h
  · intro x0 x2 h1
    try beta_reduce
    refine (keeps_State_cmdTamperPolicy (sub_trans rfl hM)) ?_
    exact h1

theorem keeps_execSetHamode {M : Nat} (hM : Nat.land 36028797253844993 M = 36028797253844993) {s0 : State} {p0 : Cmd} {s : State} (h : Keeps M s0 s) : KX M s0 (execSetHamode p0 s) := by
  unfold execSetHamode
  refine KX.next ?_
  refine (keeps_State_command (sub_trans rfl hM)) ?_ ?_
  ·
    exact h
  · intro x0 x2 h1
    try beta_reduce
    refine (keeps_State_cmdSetHamode (sub_trans rfl hM)) ?_
    exact h1

theorem keeps_execMapIqrefWrite {M : Nat} (hM : Nat.land 833760528449 M = 833760528449) {s0 : State} {p0 : Fin 80} {p1 : Word} {s : State} (h : Keeps M s0 s) : KX M s0 (execMapIqrefWrite p0 p1 s) := by
  unfold execMapIqrefWrite
  refine KX.next ?_
  refine (keeps_State_mapRow (sub_trans rfl hM)) ?_
  exact h

theorem keeps_execClePresentation {M : Nat} (hM : Nat.land 564264988325889 M = 564264988325889) {s0 : State} {p0 : Fin 32} {p1 : List Bool} {p2 : List Bool} {p3 : List Bool} {p4 : DcBits} {s : State} (h : Keeps M s0 s) : KX M s0 (execClePresentation p0 p1 p2 p3 p4 s) := by
  unfold execClePresentation
  refine KX.next ?_
  refine (keeps_State_clePresent (sub_trans rfl hM)) ?_
  exact h

theorem keeps_execBusOffRecoveryDone {M : Nat} (hM : Nat.land 4503599627370497 M = 4503599627370497) {s0 : State} {p0 : Fin 4} {s : State} (h : Keeps M s0 s) : KX M s0 (execBusOffRecoveryDone p0 s) := by
  unfold execBusOffRecoveryDone
  refine KX.next ?_
  refine (keeps_State_canRecovered (sub_trans rfl hM)) ?_
  exact h

theorem keeps_execFireReceive {M : Nat} (hM : Nat.land 9007199489626113 M = 9007199489626113) {s0 : State} {p0 : FireVia} {s : State} (h : Keeps M s0 s) : KX M s0 (execFireReceive p0 s) := by
  unfold execFireReceive
  refine KX.next ?_
  refine (keeps_State_fireReceive (sub_trans rfl hM)) ?_
  exact h

theorem keeps_execResetRelease {M : Nat} (hM : Nat.land 73183519714580481 M = 73183519714580481) {s0 : State} {s : State} (h : Keeps M s0 s) : KX M s0 (execResetRelease s) := by
  unfold execResetRelease
  refine KX.next ?_
  refine (keeps_State_resetRelease (sub_trans rfl hM)) ?_
  exact h

theorem keeps_execKeyLoad {M : Nat} (hM : Nat.land 1125900141729793 M = 1125900141729793) {s0 : State} {p0 : Cmd} {s : State} (h : Keeps M s0 s) : KX M s0 (execKeyLoad p0 s) := by
  unfold execKeyLoad
  refine KX.next ?_
  refine (keeps_State_command (sub_trans rfl hM)) ?_ ?_
  ·
    exact h
  · intro x0 x2 h1
    try beta_reduce
    refine (keeps_State_cmdKeyLoad (sub_trans rfl hM)) ?_
    exact h1

theorem keeps_execRmClrcnt {M : Nat} (hM : Nat.land 1 M = 1) {s0 : State} {s : State} (h : Keeps M s0 s) : KX M s0 (execRmClrcnt s) := by
  unfold execRmClrcnt
  refine KX.next ?_
  refine (keeps_State_hostCmd (sub_trans rfl hM)) ?_ ?_
  ·
    exact h
  · intro x0 h1
    try beta_reduce
    refine (keeps_State_rmClrCnt (sub_trans rfl hM)) ?_
    exact h1

theorem keeps_execSafetySlot {M : Nat} (hM : Nat.land 140737723236353 M = 140737723236353) {s0 : State} {p0 : Cmd} {s : State} (h : Keeps M s0 s) : KX M s0 (execSafetySlot p0 s) := by
  unfold execSafetySlot
  refine KX.next ?_
  refine (keeps_State_command (sub_trans rfl hM)) ?_ ?_
  ·
    exact h
  · intro x0 x2 h1
    try beta_reduce
    refine (keeps_State_cmdSafetySlot (sub_trans rfl hM)) ?_
    exact h1

theorem keeps_execVelocityBoundary {M : Nat} (hM : Nat.land 9008501673523203 M = 9008501673523203) {s0 : State} {p0 : Fin 32} {s : State} (h : Keeps M s0 s) : KX M s0 (execVelocityBoundary p0 s) := by
  unfold execVelocityBoundary
  refine KX.next ?_
  refine (keeps_State_velocityBoundary (sub_trans rfl hM)) ?_
  exact h

theorem keeps_execAuxClrcnt {M : Nat} (hM : Nat.land 1 M = 1) {s0 : State} {p0 : Fin 8} {s : State} (h : Keeps M s0 s) : KX M s0 (execAuxClrcnt p0 s) := by
  unfold execAuxClrcnt
  refine KX.next ?_
  refine (keeps_State_hostCmd (sub_trans rfl hM)) ?_ ?_
  ·
    exact h
  · intro x0 h1
    try beta_reduce
    exact h1

theorem keeps_execRegConfig {M : Nat} (hM : Nat.land 144115188075855871 M = 144115188075855871) {s0 : State} {p0 : Cmd} {s : State} (h : Keeps M s0 s) : KX M s0 (execRegConfig p0 s) := by
  unfold execRegConfig
  refine KX.next ?_
  refine (keeps_State_command (sub_trans rfl hM)) ?_ ?_
  ·
    exact h
  · intro x0 x2 h1
    try beta_reduce
    refine (keeps_State_cmdImage (sub_trans rfl hM)) ?_
    exact h1

theorem keeps_execPost {M : Nat} (hM : Nat.land 29961691856897 M = 29961691856897) {s0 : State} {p0 : Fin 29} {p1 : Fin 29} {s : State} (h : Keeps M s0 s) : KX M s0 (execPost p0 p1 s) := by
  unfold execPost
  refine KX.next ?_
  refine (keeps_State_postRow (sub_trans rfl hM)) ?_
  exact h

theorem keeps_execActiveRelease {M : Nat} (hM : Nat.land 71681 M = 71681) {s0 : State} {s : State} (h : Keeps M s0 s) : KX M s0 (execActiveRelease s) := by
  unfold execActiveRelease
  refine KX.next ?_
  refine (keeps_State_activeRelease (sub_trans rfl hM)) ?_
  exact h

theorem keeps_execDioOset {M : Nat} (hM : Nat.land 2251799813685249 M = 2251799813685249) {s0 : State} {p0 : Word} {s : State} (h : Keeps M s0 s) : KX M s0 (execDioOset p0 s) := by
  unfold execDioOset
  refine (keeps_hostWord (sub_trans rfl hM)) ?_ ?_
  ·
    exact h
  · intro x0 h1
    try beta_reduce
    refine (keeps_State_dioSet (sub_trans rfl hM)) ?_
    exact h1

theorem keeps_execRamauxTransmitSlot {M : Nat} (hM : Nat.land 212206795896961 M = 212206795896961) {s0 : State} {s : State} (h : Keeps M s0 s) : KX M s0 (execRamauxTransmitSlot s) := by
  unfold execRamauxTransmitSlot
  refine KX.next ?_
  refine (keeps_State_txSlot (sub_trans rfl hM)) ?_
  exact h

theorem keeps_execCmulr {M : Nat} (hM : Nat.land 45089103554561 M = 45089103554561) {s0 : State} {p0 : Fin 16} {p1 : Fin 16} {p2 : Fin 16} {p3 : Fin 16} {p4 : Fin 64} {s : State} (h : Keeps M s0 s) : KX M s0 (execCmulr p0 p1 p2 p3 p4 s) := by
  unfold execCmulr
  refine KX.next ?_
  refine (keeps_State_lpCmulr (sub_trans rfl hM)) ?_
  exact h

theorem keeps_execSwitchConfig {M : Nat} (hM : Nat.land 144115188075855871 M = 144115188075855871) {s0 : State} {p0 : Cmd} {s : State} (h : Keeps M s0 s) : KX M s0 (execSwitchConfig p0 s) := by
  unfold execSwitchConfig
  refine KX.next ?_
  refine (keeps_State_command (sub_trans rfl hM)) ?_ ?_
  ·
    exact h
  · intro x0 x2 h1
    try beta_reduce
    refine (keeps_State_cmdSwitchConfig (sub_trans rfl hM)) ?_
    exact h1

theorem keeps_execIoRead {M : Nat} (hM : Nat.land 234881024 M = 234881024) {s0 : State} {p0 : Cmd} {s : State} (h : Keeps M s0 s) : KX M s0 (execIoRead p0 s) := by
  unfold execIoRead
  refine KX.next ?_
  refine (keeps_State_command (sub_trans rfl hM)) ?_ ?_
  ·
    exact h
  · intro x0 x2 h1
    try beta_reduce
    refine (keeps_State_cmdIoRead (sub_trans rfl hM)) ?_
    exact h1

theorem keeps_execClrf {M : Nat} (hM : Nat.land 45089103554561 M = 45089103554561) {s0 : State} {p0 : Fin 16} {s : State} (h : Keeps M s0 s) : KX M s0 (execClrf p0 s) := by
  unfold execClrf
  refine KX.next ?_
  refine (keeps_State_lpClrf (sub_trans rfl hM)) ?_
  exact h

theorem keeps_execCtokArm {M : Nat} (hM : Nat.land 8193 M = 8193) {s0 : State} {p0 : Fin 8} {s : State} (h : Keeps M s0 s) : KX M s0 (execCtokArm p0 s) := by
  unfold execCtokArm
  refine KX.next ?_
  refine (keeps_State_hostCmd (sub_trans rfl hM)) ?_ ?_
  ·
    exact h
  · intro x0 h1
    try beta_reduce
    refine (keeps_State_tokenArm (sub_trans rfl hM)) ?_
    exact h1

theorem keeps_execPortFrameTransmit {M : Nat} (hM : Nat.land 70368744177665 M = 70368744177665) {s0 : State} {p0 : Fin 3} {p1 : Fin 8} {p2 : Fin 8} {p3 : Fin 48} {s : State} (h : Keeps M s0 s) : KX M s0 (execPortFrameTransmit p0 p1 p2 p3 s) := by
  unfold execPortFrameTransmit
  refine KX.next ?_
  refine (keeps_State_portTransmit (sub_trans rfl hM)) ?_
  exact h

theorem keeps_execPortClrcnt {M : Nat} (hM : Nat.land 1 M = 1) {s0 : State} {p0 : Fin 40} {s : State} (h : Keeps M s0 s) : KX M s0 (execPortClrcnt p0 s) := by
  unfold execPortClrcnt
  refine KX.next ?_
  refine (keeps_State_hostCmd (sub_trans rfl hM)) ?_ ?_
  ·
    exact h
  · intro x0 h1
    try beta_reduce
    refine (keeps_State_portClrCnt (sub_trans rfl hM)) ?_
    exact h1

theorem keeps_execRegTarget {M : Nat} (hM : Nat.land 235405313 M = 235405313) {s0 : State} {p0 : Cmd} {s : State} (h : Keeps M s0 s) : KX M s0 (execRegTarget p0 s) := by
  unfold execRegTarget
  refine KX.next ?_
  refine (keeps_State_command (sub_trans rfl hM)) ?_ ?_
  ·
    exact h
  · intro x0 x2 h1
    try beta_reduce
    refine (keeps_State_cmdRegTarget (sub_trans rfl hM)) ?_
    exact h1

theorem keeps_execPortSettingsEffect {M : Nat} (hM : Nat.land 9289976658622467 M = 9289976658622467) {s0 : State} {p0 : Fin 40} {s : State} (h : Keeps M s0 s) : KX M s0 (execPortSettingsEffect p0 s) := by
  unfold execPortSettingsEffect
  refine KX.next ?_
  refine (keeps_State_settingsRow (sub_trans rfl hM)) ?_
  exact h

theorem keeps_execMovp {M : Nat} (hM : Nat.land 70102993086681 M = 70102993086681) {s0 : State} {p0 : Fin 16} {p1 : Move2} {p2 : Move2} {s : State} (h : Keeps M s0 s) : KX M s0 (execMovp p0 p1 p2 s) := by
  unfold execMovp
  refine KX.next ?_
  refine (keeps_State_lpMovp (sub_trans rfl hM)) ?_
  exact h

theorem keeps_execRegisterWrite {M : Nat} (hM : Nat.land 144115188075855871 M = 144115188075855871) {s0 : State} {p0 : Fin 10} {p1 : BitVec 24} {p2 : Word} {s : State} (h : Keeps M s0 s) : KX M s0 (execRegisterWrite p0 p1 p2 s) := by
  unfold execRegisterWrite
  refine (keeps_writeRow (sub_trans rfl hM)) ?_
  exact h

theorem keeps_execLsr {M : Nat} (hM : Nat.land 70102993086681 M = 70102993086681) {s0 : State} {p0 : Fin 16} {p1 : Fin 16} {p2 : AluSrc} {s : State} (h : Keeps M s0 s) : KX M s0 (execLsr p0 p1 p2 s) := by
  unfold execLsr
  refine KX.next ?_
  refine (keeps_lpAlu (sub_trans rfl hM)) ?_
  exact h

theorem keeps_execSafeInputDiscrepancy {M : Nat} (hM : Nat.land 140737488367617 M = 140737488367617) {s0 : State} {p0 : Fin 8} {s : State} (h : Keeps M s0 s) : KX M s0 (execSafeInputDiscrepancy p0 s) := by
  unfold execSafeInputDiscrepancy
  refine KX.next ?_
  refine (keeps_State_safeGroup (sub_trans rfl hM)) ?_
  refine (keeps_State_safeDiscrepancy (sub_trans rfl hM)) ?_
  exact h

theorem keeps_execLpMemoryWrite {M : Nat} (hM : Nat.land 35184606969905 M = 35184606969905) {s0 : State} {p0 : Fin 16} {p1 : Fin 65536} {p2 : Word} {s : State} (h : Keeps M s0 s) : KX M s0 (execLpMemoryWrite p0 p1 p2 s) := by
  unfold execLpMemoryWrite
  refine KX.next ?_
  refine (keeps_State_hostCmd (sub_trans rfl hM)) ?_ ?_
  ·
    exact h
  · intro x0 h1
    try beta_reduce
    refine (keeps_State_lpMemWrite (sub_trans rfl hM)) ?_
    exact h1

theorem keeps_execSafetySupplyLoss {M : Nat} (hM : Nat.land 140737488361473 M = 140737488361473) {s0 : State} {s : State} (h : Keeps M s0 s) : KX M s0 (execSafetySupplyLoss s) := by
  unfold execSafetySupplyLoss
  refine KX.next ?_
  refine (keeps_State_safeGroup (sub_trans rfl hM)) ?_
  refine (keeps_State_safetySupplyLoss (sub_trans rfl hM)) ?_
  exact h

theorem keeps_execVxConfig {M : Nat} (hM : Nat.land 144115188075855871 M = 144115188075855871) {s0 : State} {p0 : Cmd} {s : State} (h : Keeps M s0 s) : KX M s0 (execVxConfig p0 s) := by
  unfold execVxConfig
  refine KX.next ?_
  refine (keeps_State_command (sub_trans rfl hM)) ?_ ?_
  ·
    exact h
  · intro x0 x2 h1
    try beta_reduce
    refine (keeps_State_cmdImage (sub_trans rfl hM)) ?_
    exact h1

theorem keeps_execGtripClrcnt {M : Nat} (hM : Nat.land 1 M = 1) {s0 : State} {p0 : Fin 4} {s : State} (h : Keeps M s0 s) : KX M s0 (execGtripClrcnt p0 s) := by
  unfold execGtripClrcnt
  refine KX.next ?_
  refine (keeps_State_hostCmd (sub_trans rfl hM)) ?_ ?_
  ·
    exact h
  · intro x0 h1
    try beta_reduce
    refine (keeps_State_gtripClrCnt (sub_trans rfl hM)) ?_
    exact h1

theorem keeps_execPtpConfig {M : Nat} (hM : Nat.land 70368979058688 M = 70368979058688) {s0 : State} {p0 : Cmd} {s : State} (h : Keeps M s0 s) : KX M s0 (execPtpConfig p0 s) := by
  unfold execPtpConfig
  refine KX.next ?_
  refine (keeps_State_command (sub_trans rfl hM)) ?_ ?_
  ·
    exact h
  · intro x0 x2 h1
    try beta_reduce
    refine (keeps_State_cmdPtpConfig (sub_trans rfl hM)) ?_
    exact h1

theorem keeps_execPowerOnReset {M : Nat} (hM : Nat.land 144115188075855871 M = 144115188075855871) {s0 : State} {s : State} (h : Keeps M s0 s) : KX M s0 (execPowerOnReset s) := by
  unfold execPowerOnReset
  refine KX.next ?_
  refine (keeps_State_powerOn (sub_trans rfl hM)) ?_
  exact h

theorem keeps_execAuxClrflags {M : Nat} (hM : Nat.land 1 M = 1) {s0 : State} {p0 : Fin 8} {s : State} (h : Keeps M s0 s) : KX M s0 (execAuxClrflags p0 s) := by
  unfold execAuxClrflags
  refine KX.next ?_
  refine (keeps_State_hostCmd (sub_trans rfl hM)) ?_ ?_
  ·
    exact h
  · intro x0 h1
    try beta_reduce
    refine (keeps_State_auxClrFlags (sub_trans rfl hM)) ?_
    exact h1

theorem keeps_execSecPolicyWrite {M : Nat} (hM : Nat.land 1 M = 1) {s0 : State} {p0 : Word} {s : State} (h : Keeps M s0 s) : KX M s0 (execSecPolicyWrite p0 s) := by
  unfold execSecPolicyWrite
  refine (keeps_hostWord (sub_trans rfl hM)) ?_ ?_
  ·
    exact h
  · intro x0 h1
    try beta_reduce
    refine (keeps_State_secPolicyWrite (sub_trans rfl hM)) ?_
    exact h1

theorem keeps_execHostClrcnt {M : Nat} (hM : Nat.land 1 M = 1) {s0 : State} {s : State} (h : Keeps M s0 s) : KX M s0 (execHostClrcnt s) := by
  unfold execHostClrcnt
  refine KX.next ?_
  refine (keeps_State_hostCmd (sub_trans rfl hM)) ?_ ?_
  ·
    exact h
  · intro x0 h1
    try beta_reduce
    refine (keeps_State_hostClrCnt (sub_trans rfl hM)) ?_
    exact h1

theorem keeps_execLinkUp {M : Nat} (hM : Nat.land 2049 M = 2049) {s0 : State} {p0 : Fin 3} {p1 : Fin 4} {p2 : Bool} {s : State} (h : Keeps M s0 s) : KX M s0 (execLinkUp p0 p1 p2 s) := by
  unfold execLinkUp
  refine KX.next ?_
  refine (keeps_State_linkUp (sub_trans rfl hM)) ?_
  exact h

theorem keeps_execDebugOpen {M : Nat} (hM : Nat.land 1125900141729793 M = 1125900141729793) {s0 : State} {p0 : Cmd} {s : State} (h : Keeps M s0 s) : KX M s0 (execDebugOpen p0 s) := by
  unfold execDebugOpen
  refine KX.next ?_
  refine (keeps_State_command (sub_trans rfl hM)) ?_ ?_
  ·
    exact h
  · intro x0 x2 h1
    try beta_reduce
    refine (keeps_State_cmdDebugOpen (sub_trans rfl hM)) ?_
    exact h1

theorem keeps_execTackFrameReceive {M : Nat} (hM : Nat.land 564196283525121 M = 564196283525121) {s0 : State} {p0 : Bool} {p1 : TackFrame} {s : State} (h : Keeps M s0 s) : KX M s0 (execTackFrameReceive p0 p1 s) := by
  unfold execTackFrameReceive
  refine KX.next ?_
  refine (keeps_State_tackReceive (sub_trans rfl hM)) ?_
  exact h

theorem keeps_execDivs {M : Nat} (hM : Nat.land 45089103554561 M = 45089103554561) {s0 : State} {p0 : Fin 16} {p1 : Fin 16} {p2 : Fin 16} {p3 : Fin 16} {p4 : Fin 32} {s : State} (h : Keeps M s0 s) : KX M s0 (execDivs p0 p1 p2 p3 p4 s) := by
  unfold execDivs
  refine KX.next ?_
  refine (keeps_State_lpDivs (sub_trans rfl hM)) ?_
  exact h

theorem keeps_execMac {M : Nat} (hM : Nat.land 70102993086681 M = 70102993086681) {s0 : State} {p0 : Fin 16} {p1 : Fin 4} {p2 : Fin 16} {p3 : Fin 16} {p4 : Move2} {p5 : Move2} {s : State} (h : Keeps M s0 s) : KX M s0 (execMac p0 p1 p2 p3 p4 p5 s) := by
  unfold execMac
  refine KX.next ?_
  refine (keeps_lpMac (sub_trans rfl hM)) ?_
  exact h

theorem keeps_execBar0WriteHighWord {M : Nat} (hM : Nat.land 144115188075855871 M = 144115188075855871) {s0 : State} {p0 : Fin 10} {p1 : BitVec 24} {p2 : Word} {s : State} (h : Keeps M s0 s) : KX M s0 (execBar0WriteHighWord p0 p1 p2 s) := by
  unfold execBar0WriteHighWord
  refine (keeps_writeRow (sub_trans rfl hM)) ?_
  exact h

theorem keeps_execAcyclicSegmentTimeout {M : Nat} (hM : Nat.land 281475211591680 M = 281475211591680) {s0 : State} {s : State} (h : Keeps M s0 s) : KX M s0 (execAcyclicSegmentTimeout s) := by
  unfold execAcyclicSegmentTimeout
  refine KX.next ?_
  refine (keeps_State_acyTimeout (sub_trans rfl hM)) ?_
  exact h

theorem keeps_execRet {M : Nat} (hM : Nat.land 45089103554561 M = 45089103554561) {s0 : State} {p0 : Fin 16} {s : State} (h : Keeps M s0 s) : KX M s0 (execRet p0 s) := by
  unfold execRet
  refine KX.next ?_
  refine (keeps_State_lpRet (sub_trans rfl hM)) ?_
  exact h

theorem keeps_execWorkItemDispatch {M : Nat} (hM : Nat.land 549755813888 M = 549755813888) {s0 : State} {s : State} (h : Keeps M s0 s) : KX M s0 (execWorkItemDispatch s) := by
  unfold execWorkItemDispatch
  refine KX.next ?_
  refine (keeps_State_groomDispatch (sub_trans rfl hM)) ?_
  exact h

theorem keeps_execRingDisable {M : Nat} (hM : Nat.land 36028797253849089 M = 36028797253849089) {s0 : State} {p0 : Fin 128} {p1 : Word} {s : State} (h : Keeps M s0 s) : KX M s0 (execRingDisable p0 p1 s) := by
  unfold execRingDisable
  refine (keeps_hostWord (sub_trans rfl hM)) ?_ ?_
  ·
    exact h
  · intro x0 h1
    try beta_reduce
    refine ite_of (P := Keeps M s0) ?_ ?_
    ·
      exact h1
    ·
      refine (keeps_State_ringCfg (sub_trans rfl hM)) ?_
      exact h1

theorem keeps_execLpVerifyb {M : Nat} (hM : Nat.land 35184372088833 M = 35184372088833) {s0 : State} {p0 : Fin 16} {s : State} (h : Keeps M s0 s) : KX M s0 (execLpVerifyb p0 s) := by
  unfold execLpVerifyb
  refine KX.next ?_
  refine (keeps_State_hostCmd (sub_trans rfl hM)) ?_ ?_
  ·
    exact h
  · intro x0 h1
    try beta_reduce
    refine (keeps_State_lpVerify (sub_trans rfl hM)) ?_
    exact h1

theorem keeps_execMin {M : Nat} (hM : Nat.land 70102993086681 M = 70102993086681) {s0 : State} {p0 : Fin 16} {p1 : Fin 16} {p2 : AluSrc} {s : State} (h : Keeps M s0 s) : KX M s0 (execMin p0 p1 p2 s) := by
  unfold execMin
  refine KX.next ?_
  refine (keeps_lpAlu (sub_trans rfl hM)) ?_
  exact h

theorem keeps_execActConflict {M : Nat} (hM : Nat.land 79873 M = 79873) {s0 : State} {s : State} (h : Keeps M s0 s) : KX M s0 (execActConflict s) := by
  unfold execActConflict
  refine KX.next ?_
  refine (keeps_State_actConflict (sub_trans rfl hM)) ?_
  exact h

theorem keeps_execAcyclicResponseReceive {M : Nat} (hM : Nat.land 281475211591680 M = 281475211591680) {s0 : State} {p0 : Fin 1024} {p1 : List Byte} {s : State} (h : Keeps M s0 s) : KX M s0 (execAcyclicResponseReceive p0 p1 s) := by
  unfold execAcyclicResponseReceive
  refine KX.next ?_
  refine (keeps_State_acyResponse (sub_trans rfl hM)) ?_
  exact h

theorem keeps_execTackLaneDown {M : Nat} (hM : Nat.land 1 M = 1) {s0 : State} {p0 : Fin 2} {s : State} (h : Keeps M s0 s) : KX M s0 (execTackLaneDown p0 s) := by
  unfold execTackLaneDown
  refine KX.next ?_
  refine (keeps_State_lane (sub_trans rfl hM)) ?_
  exact h

theorem keeps_execTackLost {M : Nat} (hM : Nat.land 1099511638017 M = 1099511638017) {s0 : State} {s : State} (h : Keeps M s0 s) : KX M s0 (execTackLost s) := by
  unfold execTackLost
  refine KX.next ?_
  refine (keeps_State_tackLostRow (sub_trans rfl hM)) ?_
  exact h

theorem keeps_execTbChangeEffect {M : Nat} (hM : Nat.land 16384 M = 16384) {s0 : State} {p0 : Fin 80} {s : State} (h : Keeps M s0 s) : KX M s0 (execTbChangeEffect p0 s) := by
  unfold execTbChangeEffect
  refine KX.next ?_
  refine (keeps_State_tbEffect (sub_trans rfl hM)) ?_
  exact h

theorem keeps_execStreamLoss {M : Nat} (hM : Nat.land 1108876474369 M = 1108876474369) {s0 : State} {p0 : StreamBits} {s : State} (h : Keeps M s0 s) : KX M s0 (execStreamLoss p0 s) := by
  unfold execStreamLoss
  refine KX.next ?_
  refine (keeps_State_streamLoss (sub_trans rfl hM)) ?_
  exact h

theorem keeps_execCleClrcnt {M : Nat} (hM : Nat.land 1 M = 1) {s0 : State} {p0 : Fin 32} {s : State} (h : Keeps M s0 s) : KX M s0 (execCleClrcnt p0 s) := by
  unfold execCleClrcnt
  refine KX.next ?_
  refine (keeps_State_hostCmd (sub_trans rfl hM)) ?_ ?_
  ·
    exact h
  · intro x0 h1
    try beta_reduce
    refine (keeps_State_cleClrCnt (sub_trans rfl hM)) ?_
    exact h1

theorem keeps_execLeapSecond {M : Nat} (hM : Nat.land 8193 M = 8193) {s0 : State} {s : State} (h : Keeps M s0 s) : KX M s0 (execLeapSecond s) := by
  unfold execLeapSecond
  refine KX.next ?_
  refine (keeps_State_leapSecond (sub_trans rfl hM)) ?_
  exact h

theorem keeps_execWireFault {M : Nat} (hM : Nat.land 79873 M = 79873) {s0 : State} {p0 : Fin 40} {p1 : Fin 4} {s : State} (h : Keeps M s0 s) : KX M s0 (execWireFault p0 p1 s) := by
  unfold execWireFault
  refine KX.next ?_
  refine (keeps_State_wireFault (sub_trans rfl hM)) ?_
  exact h

theorem keeps_execStepgo {M : Nat} (hM : Nat.land 10241 M = 10241) {s0 : State} {s : State} (h : Keeps M s0 s) : KX M s0 (execStepgo s) := by
  unfold execStepgo
  refine KX.next ?_
  refine (keeps_State_hostCmd (sub_trans rfl hM)) ?_ ?_
  ·
    exact h
  · intro x0 h1
    try beta_reduce
    refine ite_of (P := Keeps M s0) ?_ ?_
    ·
      exact h1
    ·
      refine (keeps_State_stepGo (sub_trans rfl hM)) ?_
      exact h1

theorem keeps_execUnmappedAccess {M : Nat} (hM : Nat.land 274877906945 M = 274877906945) {s0 : State} {p0 : Fin 10} {p1 : BitVec 24} {p2 : Bool} {p3 : Bool} {s : State} (h : Keeps M s0 s) : KX M s0 (execUnmappedAccess p0 p1 p2 p3 s) := by
  unfold execUnmappedAccess
  refine KX.next ?_
  refine (keeps_State_unmappedRow (sub_trans rfl hM)) ?_
  exact h

theorem keeps_execFirmwareRestartDone {M : Nat} (hM : Nat.land 90635492491528193 M = 90635492491528193) {s0 : State} {p0 : Bool} {p1 : Word} {s : State} (h : Keeps M s0 s) : KX M s0 (execFirmwareRestartDone p0 p1 s) := by
  unfold execFirmwareRestartDone
  refine KX.next ?_
  refine (keeps_State_restartDone (sub_trans rfl hM)) ?_
  exact h

theorem keeps_execGroupConfig {M : Nat} (hM : Nat.land 144115188075855871 M = 144115188075855871) {s0 : State} {p0 : Cmd} {s : State} (h : Keeps M s0 s) : KX M s0 (execGroupConfig p0 s) := by
  unfold execGroupConfig
  refine KX.next ?_
  refine (keeps_State_command (sub_trans rfl hM)) ?_ ?_
  ·
    exact h
  · intro x0 x2 h1
    try beta_reduce
    refine (keeps_State_cmdImage (sub_trans rfl hM)) ?_
    exact h1

theorem keeps_execRamauxTable {M : Nat} (hM : Nat.land 234881025 M = 234881025) {s0 : State} {p0 : Cmd} {s : State} (h : Keeps M s0 s) : KX M s0 (execRamauxTable p0 s) := by
  unfold execRamauxTable
  refine KX.next ?_
  refine (keeps_State_command (sub_trans rfl hM)) ?_ ?_
  ·
    exact h
  · intro x0 x2 h1
    try beta_reduce
    refine (keeps_State_cmdRamauxTable (sub_trans rfl hM)) ?_
    exact h1

theorem keeps_execMoveStop {M : Nat} (hM : Nat.land 144115188075855871 M = 144115188075855871) {s0 : State} {p0 : Cmd} {s : State} (h : Keeps M s0 s) : KX M s0 (execMoveStop p0 s) := by
  unfold execMoveStop
  refine KX.next ?_
  refine (keeps_State_packet (sub_trans rfl hM)) ?_
  exact h

theorem keeps_execGroupRearm {M : Nat} (hM : Nat.land 234881025 M = 234881025) {s0 : State} {p0 : Cmd} {s : State} (h : Keeps M s0 s) : KX M s0 (execGroupRearm p0 s) := by
  unfold execGroupRearm
  refine KX.next ?_
  refine (keeps_State_command (sub_trans rfl hM)) ?_ ?_
  ·
    exact h
  · intro x0 x2 h1
    try beta_reduce
    refine (keeps_State_cmdGroupRearm (sub_trans rfl hM)) ?_
    exact h1

theorem keeps_execSt {M : Nat} (hM : Nat.land 52510807042265 M = 52510807042265) {s0 : State} {p0 : Fin 16} {p1 : Fin 16} {p2 : Fin 8} {p3 : AMode} {s : State} (h : Keeps M s0 s) : KX M s0 (execSt p0 p1 p2 p3 s) := by
  unfold execSt
  refine KX.next ?_
  refine (keeps_State_lpSt (sub_trans rfl hM)) ?_
  exact h

theorem keeps_execEnable {M : Nat} (hM : Nat.land 146800640001 M = 146800640001) {s0 : State} {p0 : Cmd} {s : State} (h : Keeps M s0 s) : KX M s0 (execEnable p0 s) := by
  unfold execEnable
  refine KX.next ?_
  refine (keeps_State_command (sub_trans rfl hM)) ?_ ?_
  ·
    exact h
  · intro x0 x2 h1
    try beta_reduce
    refine (keeps_State_cmdEnable (sub_trans rfl hM)) ?_
    exact h1

theorem keeps_execLpInterrupt {M : Nat} (hM : Nat.land 35184372088833 M = 35184372088833) {s0 : State} {p0 : Fin 16} {s : State} (h : Keeps M s0 s) : KX M s0 (execLpInterrupt p0 s) := by
  unfold execLpInterrupt
  refine KX.next ?_
  refine (keeps_State_lpInterrupt (sub_trans rfl hM)) ?_
  exact h

end Sys2Proof.Machine
end

