-- ==== Sys2Proof/Laws/KeepExec.lean ====
section
/-! SUPPORT. Every command keeps what `Keeps` says, outside the parts that `touches` names. -/

namespace Sys2Proof.Machine

/-- The bits of a list of parts. -/
def partMask (l : List Part) : Nat := l.foldr (fun p m => Nat.lor (Nat.pow 2 p.ctorIdx) m) 0

theorem Part.ctorIdx_inj {p q : Part} (h : p.ctorIdx = q.ctorIdx) : p = q := by
  cases p <;> cases q <;> first | rfl | cases h

theorem partMask_out {p : Part} {l : List Part} (h : p ∉ l) : (partMask l).testBit p.ctorIdx = false := by
  induction l with
  | nil => exact Nat.zero_testBit _
  | cons q l ih =>
    rw [List.mem_cons, not_or] at h
    show (2 ^ q.ctorIdx ||| partMask l).testBit p.ctorIdx = false
    rw [Nat.testBit_or, ih h.2, Bool.or_false]
    exact Nat.testBit_two_pow_of_ne fun e => h.1 (Part.ctorIdx_inj e).symm

/-- The mask of the parts that a command may change. -/
def maskOf (c : Instr) : Nat :=
  match c with
  | .pairTransition _ _ _ _ => 140737488828417
  | .levelAccepted _ _ => 9289976658753539
  | .stillTimeout _ => 8193
  | .wireFault _ _ => 79873
  | .presetApply _ => 9289976658622467
  | .portSettingsEffect _ => 9289976658622467
  | .ssiFrameStart _ => 73729
  | .ssiFrameEnd _ _ _ _ => 342017
  | .portLoad _ => 65537
  | .portReval _ => 65537
  | .portRearm _ => 65537
  | .portClrflags _ => 1
  | .portClrcnt _ => 1
  | .coArm _ _ => 262145
  | .coDisarm _ => 262145
  | .coClrcnt _ => 1
  | .compareRamWrite _ _ => 262149
  | .comparePulseEnd _ => 270337
  | .latchEdge _ => 139264
  | .latchEntryComplete _ => 663553
  | .latchPop _ => 131073
  | .latchClr _ => 131073
  | .latchClrcnt _ => 1
  | .regClrtgt _ => 524289
  | .moveEnd _ => 1099749660673
  | .lineShaftCoast _ => 1099520022529
  | .lineShaftLost _ => 1099520022529
  | .regMiss _ => 526337
  | .camArm _ => 235929601
  | .stopBoundary => 242221057
  | .loopApply _ => 536870913
  | .loopApplyEffect _ => 9289976658622467
  | .injStart _ => 1073741825
  | .injStop _ => 234881025
  | .injDone _ => 36290304686105
  | .overcurrent _ _ => 77309425665
  | .streamLoss _ => 1108876474369
  | .streamReturn _ => 8193
  | .udcHoldExpired _ => 1246315419649
  | .clePresentation _ _ _ _ _ => 564264988325889
  | .angloss _ => 8589936641
  | .cleBswap _ => 137438953473
  | .cleBankSwap _ => 137673834497
  | .cleClrflags _ => 1
  | .cleClrcnt _ => 1
  | .cleLatClr _ => 1
  | .pwmCommitCmpc _ => 8589934593
  | .pwmCommitAll _ => 8589934593
  | .auxCommitAll _ => 8589934593
  | .pwmCommitEffect _ => 9008501673523203
  | .auxPeriodStart _ => 60129556483
  | .tripLandChange _ _ _ => 25769818113
  | .tripDetect _ => 25769818113
  | .atcWindowOpen _ => 34359746561
  | .atcWindowClose _ => 60129556481
  | .atcSettingsEffect _ => 9008501673523203
  | .pwmTclr _ => 25769809921
  | .pwmClrflags _ => 1
  | .pwmClrcnt _ => 1
  | .auxClrflags _ => 1
  | .auxClrcnt _ => 1
  | .gtripTclr _ => 25769809921
  | .gtripClrcnt _ => 1
  | .pwmEdge _ _ => 8589942785
  | .workItemPost _ _ _ _ _ _ _ => 824633720832
  | .workItemDispatch => 549755813888
  | .affinityWindowEnd => 549755822080
  | .workItemDone _ => 824633720832
  | .post _ _ => 29961691856897
  | .pop _ _ => 16492674416641
  | .wait _ => 29961691856897
  | .waitReturn _ => 37658273251328
  | .crossingDetected _ _ => 2473901172736
  | .lockAcquire _ _ => 26663156973568
  | .lockRelease _ _ => 10995116277761
  | .lpMemoryWrite _ _ _ => 35184606969905
  | .lpVerifya _ => 35184372088833
  | .lpVerifyb _ => 35184372088833
  | .verifyDone _ => 35184606978049
  | .lpClrcnt _ => 1
  | .lpInterrupt _ => 35184372088833
  | .lpFault _ _ => 45089103554561
  | .mapTrefWrite _ _ => 833760528449
  | .mapIqrefWrite _ _ => 833760528449
  | .mapAstampWrite _ _ => 833760528449
  | .mapCmp4Write _ _ => 833760528449
  | .mapCmpcWrite _ _ => 833760528449
  | .mapEventWrite _ _ => 833760528449
  | .molpinNop _ => 45089103554561
  | .b _ _ _ => 45089103554561
  | .call _ _ => 45089103554561
  | .ret _ => 45089103554561
  | .rep _ _ _ => 45089103554561
  | .end_ _ => 45089341585425
  | .rti _ => 45089103554577
  | .add _ _ _ => 70102993086681
  | .sub _ _ _ => 70102993086681
  | .and_ _ _ _ => 70102993086681
  | .or_ _ _ _ => 70102993086681
  | .xor_ _ _ _ => 70102993086681
  | .asr _ _ _ => 70102993086681
  | .lsr _ _ _ => 70102993086681
  | .lsl _ _ _ => 70102993086681
  | .adds _ _ _ _ _ => 70102993086681
  | .subs _ _ _ _ _ => 70102993086681
  | .min _ _ _ => 70102993086681
  | .max _ _ _ => 70102993086681
  | .abs _ _ _ => 70102993086681
  | .neg _ _ _ => 70102993086681
  | .cmp _ _ _ => 70102993086681
  | .mov _ _ _ => 70102993086681
  | .ld _ _ _ _ => 64880312854529
  | .st _ _ _ _ => 52510807042265
  | .ld64 _ _ _ _ => 64880312854529
  | .st64 _ _ _ _ => 52510807042265
  | .movp _ _ _ => 70102993086681
  | .mpy _ _ _ _ _ _ => 70102993086681
  | .mac _ _ _ _ _ _ => 70102993086681
  | .msu _ _ _ _ _ _ => 70102993086681
  | .mpysu _ _ _ _ _ _ => 70102993086681
  | .cmac _ _ _ _ _ _ => 70102993086681
  | .cmacc _ _ _ _ _ _ => 70102993086681
  | .clra _ _ _ => 70102993086681
  | .sha _ _ _ _ _ => 70102993086681
  | .adda _ _ _ _ => 70102993086681
  | .movr _ _ _ _ _ => 70102993086681
  | .movr64 _ _ _ _ _ => 70102993086681
  | .mova _ _ _ _ _ => 70102993086681
  | .movta _ _ _ _ _ => 70102993086681
  | .exp _ _ _ _ => 70102993086681
  | .norm _ _ _ _ => 70102993086681
  | .cmulr _ _ _ _ _ => 45089103554561
  | .sincos _ _ _ => 45089103554561
  | .divs _ _ _ _ _ => 45089103554561
  | .setx _ _ _ _ => 45089103554561
  | .tbr _ _ => 45089103554561
  | .mtsr _ _ => 45089103554561
  | .mfsr _ _ => 45089103554561
  | .clrf _ => 45089103554561
  | .ldi32 _ _ _ => 45089103554561
  | .bl _ _ => 45089103554561
  | .switchFrameReceive _ _ _ => 351843720892417
  | .portFrameTransmit _ _ _ _ => 70368744177665
  | .gclCycleStart _ => 70368744185857
  | .gateIntervalEnd _ => 70368744185856
  | .gclChg _ => 70368744177665
  | .gclChangeEffect _ => 70368979066881
  | .frerReset _ => 70368744185857
  | .linkUp _ _ _ => 2049
  | .portLinkDown _ => 2049
  | .ntTrimWrite _ => 8193
  | .stepgo => 10241
  | .setgo => 8193
  | .ntNsRead _ => 70643622084608
  | .leapSecond => 8193
  | .ptpServoUpdate _ _ _ _ _ => 70368744192001
  | .ptpHoldover => 70368744183809
  | .servoTimeout => 14337
  | .ppsOutEdge => 70368744189953
  | .ppsOutEnd => 70368744185856
  | .ppsInEdge _ => 12289
  | .safetyCycle _ _ _ => 140737489418241
  | .safeInputAccept _ _ _ => 140737488359425
  | .safeInputDiscrepancy _ => 140737488367617
  | .offPulse _ _ _ => 140737488369665
  | .safeResetEdge _ _ _ => 140737488361473
  | .safeResetLongHigh => 140737488359425
  | .switchBankSample _ _ => 140737488369665
  | .sbcDelayEnd _ => 140737488367617
  | .brakeTestEnd _ _ => 140738025240577
  | .brakeTestOverdue _ => 14337
  | .brakeTestLock _ => 12289
  | .safeWdtExpire _ => 140737488369665
  | .safetySupplyLoss => 140737488361473
  | .safetyChannelStart _ _ => 140737488361473
  | .ramauxTransmitSlot => 212206795896961
  | .cyclicFrameReceive _ => 423316786518145
  | .ramauxEnable _ => 351843720888321
  | .rmNextArm => 281474976710657
  | .epochChange => 281475211593729
  | .graceEnd => 1
  | .rmClrcnt => 1
  | .bellNotice => 351843720892417
  | .bellReport _ => 351843720892417
  | .bellReceive _ _ => 351843720892417
  | .bellEntryAgeout _ => 1
  | .bellRecord _ => 281474976712704
  | .actOutAssert => 844424931260417
  | .actConflict => 79873
  | .keeperExpiry => 234960897
  | .heartbeatSend => 562949953429504
  | .tackFrameReceive _ _ => 564196283525121
  | .tackLost => 1099511638017
  | .handoverGo => 1
  | .handoverRelease => 234952705
  | .twClrflags => 1
  | .twClrcnt => 1
  | .tackLaneDown _ => 1
  | .tackLaneUp _ => 1
  | .dioInputAccept _ _ _ => 1
  | .dioOutWrite _ => 2251799813685249
  | .dioOset _ => 2251799813685249
  | .dioOclr _ => 2251799813685249
  | .outputShortCircuit _ => 2251799813691393
  | .outputOvertemp _ _ => 2251799813691393
  | .outputRetry _ => 2251799813693440
  | .readbackError _ _ => 6145
  | .fieldSupplySample _ _ _ => 2251799813699585
  | .fgRearm _ => 1
  | .fgClrflags _ => 1
  | .fgClrcnt _ => 1
  | .analogueSample _ => 2251799813699585
  | .shuntOpen _ => 2251799813691393
  | .shuntReconnect _ => 8193
  | .canFrameReceive _ _ _ => 4503599627370497
  | .canTxgo _ _ => 4503599627370497
  | .canTxwd _ _ => 4503599627370497
  | .canTxDone _ _ _ => 4503599862251521
  | .canTxError _ _ _ _ _ _ _ => 4503599627376641
  | .canRxError _ _ _ _ => 1
  | .canRecoverBit _ => 4503599627370497
  | .busOffRecoveryDone _ => 4503599627370497
  | .canFreshClear _ _ => 1
  | .fifo0Release _ => 4503599627370497
  | .fifo1Release _ => 4503599627370497
  | .canHaltEffect _ => 4503599627370496
  | .cuArm _ => 9007199254740993
  | .cuDisarm _ => 9007199489626113
  | .cuFire _ => 9007199254740993
  | .captureSample _ _ _ => 9007199489635073
  | .fireRecordWrite => 9007199254741120
  | .fireReceive _ => 9007199489626113
  | .holdoffEnd _ => 9007199254753281
  | .recordAppend => 18014398509486081
  | .recordProgram _ => 18014398509484033
  | .mergeWindowEnd => 18014398509490177
  | .freezeTimeout => 18014398509490177
  | .logCursorWrite _ => 18014398509481985
  | .logNext => 18014398509481985
  | .logLoadDone => 18014398509481985
  | .tamperAlarm _ _ => 1125900041066497
  | .secPolicyWrite _ => 1
  | .secClrcnt => 1
  | .challengeExpiry => 1125899906850816
  | .uncorrectableError _ => 8590006273
  | .eccCorrected _ => 1
  | .activeRelease => 71681
  | .svnAdvance => 72057594037936129
  | .frameBoundary => 9289779090126851
  | .frameLengthWrite _ => 144115188075855871
  | .positionBoundary _ => 9008501673523203
  | .velocityBoundary _ => 9008501673523203
  | .currentUpdateBoundary _ => 9008501673523203
  | .tbChangeEffect _ => 16384
  | .positionRun _ => 36288962508825
  | .velocityRun _ => 36290027337745
  | .networkRun _ => 36290304686105
  | .virtualRun _ => 36290036250641
  | .overheadRun _ => 36288953595921
  | .recoveryLawRun _ => 1100295444481
  | .lateClr _ => 1
  | .ctokArm _ => 8193
  | .ctokCancel _ => 146263769089
  | .tokenExecute _ => 35330635857937
  | .powerOnReset => 144115188075855871
  | .brownOut => 144115188075855871
  | .clockReset => 144115188075855871
  | .powerLoss _ => 144115188075855871
  | .resetRelease => 73183519714580481
  | .pllLock => 72057594037927937
  | .dramInitDone _ => 72057594037942273
  | .bootImageSelect _ _ => 72057594037936129
  | .firmwareStart _ _ => 91197892454266881
  | .selfTestDone _ _ _ _ _ => 72092778410031105
  | .morningEntry => 72233666997393409
  | .stateChange => 72233666997393409
  | .firmwareStateDecision => 72339078141444097
  | .yardWatchdogExpire => 144115188075855871
  | .firmwareRestartDone _ _ => 90635492491528193
  | .sysResetWrite _ => 144115188075855871
  | .refLost => 10241
  | .refReturn => 8193
  | .refInAcquire => 8193
  | .sysClkWrite _ => 8193
  | .bar0ReadLowWord _ _ => 100330436067329
  | .bar0ReadHighWord _ _ => 100330436067329
  | .bar0WriteLowWord _ _ _ => 144115188075855871
  | .bar0WriteHighWord _ _ _ => 144115188075855871
  | .unmappedAccess _ _ _ _ => 274877906945
  | .registerWrite _ _ _ => 144115188075855871
  | .badaccClr _ => 1
  | .bar2Write _ _ => 513
  | .ringEnable _ _ => 36028797253849089
  | .ringDisable _ _ => 36028797253849089
  | .ringDoorbell _ _ => 36028797020026881
  | .ringFetch _ _ _ => 36029621887569921
  | .commandCompletion _ => 36380640974737921
  | .coalesceTimer _ => 36028797018976257
  | .functionLevelReset => 36037593279764993
  | .pcieLinkDown => 36037593279764993
  | .hqRead _ _ => 36129127455031297
  | .hqWrite _ _ => 144115188075855871
  | .hqStatus => 274877906944
  | .hostKick => 36028797020026881
  | .hostWatchdogExpire => 36028797020026881
  | .hostClrcnt => 1
  | .streamPointMove _ _ _ => 36028797254897665
  | .deliveryRecordWrite _ _ => 40602765625397761
  | .pcieLinkUp _ _ => 36028797018963969
  | .perstAssert => 36037593279764993
  | .acyclicRequestReceive _ _ _ => 144115188075855871
  | .acyclicSegmentTimeout => 281475211591680
  | .acyclicResponseReceive _ _ => 281475211591680
  | .acyclic _ => 351843955769345
  | .holdTorqueEnd _ => 536879104
  | .nop _ => 234881024
  | .identify _ => 234881024
  | .abort _ => 9288820498370561
  | .setState _ => 72057594272808960
  | .expert _ => 234881025
  | .setHamode _ => 36028797253844993
  | .token _ => 234889217
  | .setClock _ => 234889217
  | .assign _ => 35186754453505
  | .readReg _ => 100330670948353
  | .axisConfig _ => 144115188075855871
  | .enable _ => 146800640001
  | .tripClear _ => 26004690945
  | .holdTorque _ => 771751936
  | .auxConfig _ => 144115188075855871
  | .atcConfig _ => 144115188075855871
  | .setSource _ => 244318209
  | .movePtp _ => 238026753
  | .moveLinear _ => 238026753
  | .moveCirc _ => 238026753
  | .moveSpline _ => 238026753
  | .movePvt _ => 235929601
  | .stop _ => 239075328
  | .phaseMove _ => 235929600
  | .groupConfig _ => 144115188075855871
  | .gear _ => 235929601
  | .camLoad _ => 251658240
  | .camEngage _ => 235929601
  | .camSwitch _ => 235929601
  | .lsConfig _ => 144115188075855871
  | .vxConfig _ => 144115188075855871
  | .loopParam _ => 144115188075855871
  | .loopFb _ => 144115188075855871
  | .cleBank _ => 144115188075855871
  | .cleConfig _ => 144115188075855871
  | .tableLoad _ => 234881032
  | .tableRead _ => 234881024
  | .inject _ => 144115188075855871
  | .lawsel _ => 144115188075855871
  | .portConfig _ => 144115188075855871
  | .portCmd _ => 234946561
  | .latchConfig _ => 144115188075855871
  | .latchRead _ => 235012097
  | .compareLoad _ => 235143173
  | .compareArm _ => 144115188075855871
  | .coConfig _ => 144115188075855871
  | .regConfig _ => 144115188075855871
  | .regTarget _ => 235405313
  | .switchConfig _ => 144115188075855871
  | .ptpConfig _ => 70368979058688
  | .ptpCorrect _ => 70368979068929
  | .ramauxTable _ => 234881025
  | .epochArm _ => 281475211591681
  | .ramauxConfig _ => 144115188075855871
  | .canConfig _ => 144115188075855871
  | .canSend _ => 144115188075855871
  | .canRead _ => 4503599862251521
  | .canRecover _ => 4503599862251520
  | .ioConfig _ => 144115188075855871
  | .ioWrite _ => 2251800048566273
  | .ioRead _ => 234881024
  | .groupRearm _ => 234881025
  | .safeStatus _ => 100330670948353
  | .captureConfig _ => 144115188075855871
  | .captureArm _ => 9007199489622017
  | .captureRead _ => 234881024
  | .logRead _ => 234881024
  | .logFreeze _ => 18014398744371201
  | .logClear _ => 18014398744363009
  | .keyLoad _ => 1125900141729793
  | .keyErase _ => 1125900141729793
  | .tamperPolicy _ => 1125900141729793
  | .debugChallenge _ => 1125900141723648
  | .debugOpen _ => 1125900141729793
  | .fwWrite _ => 72057594272812032
  | .fwVerify _ => 72057594272811008
  | .fwRestart _ => 72629890075068416
  | .lpImage _ => 35184606971953
  | .safetySlot _ => 140737723236353
  | .twinConfig _ => 144115188075855871
  | .twinStart _ => 562950188374017
  | .join _ => 234881024
  | .handover _ => 234881025
  | .nx2416Nop _ => 144115188075855871
  | .status _ => 144115188075855871
  | .goRun _ => 144115188075855871
  | .goStop _ => 144115188075855871
  | .goConfig _ => 144115188075855871
  | .axisOnOff _ => 144115188075855871
  | .faultReset _ => 144115188075855871
  | .moveAbs _ => 144115188075855871
  | .moveStop _ => 144115188075855871
  | .gearOn _ => 144115188075855871
  | .gearOff _ => 144115188075855871
  | .outWrite _ => 144115188075855871
  | .inRead _ => 144115188075855871

theorem maskOf_eq (c : Instr) : partMask (touches c) = maskOf c := by
  cases c <;> exact of_decide_eq_true (Eq.refl true)

/-- What every command keeps. -/
theorem exec_keeps (c : Instr) (s : State) : KX (maskOf c) s (exec c s) := by
  cases c with
  | pairTransition _ _ _ _ => exact keeps_execPairTransition (M := 140737488828417) rfl (Keeps.refl s)
  | levelAccepted _ _ => exact keeps_execLevelAccepted (M := 9289976658753539) rfl (Keeps.refl s)
  | stillTimeout _ => exact keeps_execStillTimeout (M := 8193) rfl (Keeps.refl s)
  | wireFault _ _ => exact keeps_execWireFault (M := 79873) rfl (Keeps.refl s)
  | presetApply _ => exact keeps_execPresetApply (M := 9289976658622467) rfl (Keeps.refl s)
  | portSettingsEffect _ => exact keeps_execPortSettingsEffect (M := 9289976658622467) rfl (Keeps.refl s)
  | ssiFrameStart _ => exact keeps_execSsiFrameStart (M := 73729) rfl (Keeps.refl s)
  | ssiFrameEnd _ _ _ _ => exact keeps_execSsiFrameEnd (M := 342017) rfl (Keeps.refl s)
  | portLoad _ => exact keeps_execPortLoad (M := 65537) rfl (Keeps.refl s)
  | portReval _ => exact keeps_execPortReval (M := 65537) rfl (Keeps.refl s)
  | portRearm _ => exact keeps_execPortRearm (M := 65537) rfl (Keeps.refl s)
  | portClrflags _ => exact keeps_execPortClrflags (M := 1) rfl (Keeps.refl s)
  | portClrcnt _ => exact keeps_execPortClrcnt (M := 1) rfl (Keeps.refl s)
  | coArm _ _ => exact keeps_execCoArm (M := 262145) rfl (Keeps.refl s)
  | coDisarm _ => exact keeps_execCoDisarm (M := 262145) rfl (Keeps.refl s)
  | coClrcnt _ => exact keeps_execCoClrcnt (M := 1) rfl (Keeps.refl s)
  | compareRamWrite _ _ => exact keeps_execCompareRamWrite (M := 262149) rfl (Keeps.refl s)
  | comparePulseEnd _ => exact keeps_execComparePulseEnd (M := 270337) rfl (Keeps.refl s)
  | latchEdge _ => exact keeps_execLatchEdge (M := 139264) rfl (Keeps.refl s)
  | latchEntryComplete _ => exact keeps_execLatchEntryComplete (M := 663553) rfl (Keeps.refl s)
  | latchPop _ => exact keeps_execLatchPop (M := 131073) rfl (Keeps.refl s)
  | latchClr _ => exact keeps_execLatchClr (M := 131073) rfl (Keeps.refl s)
  | latchClrcnt _ => exact keeps_execLatchClrcnt (M := 1) rfl (Keeps.refl s)
  | regClrtgt _ => exact keeps_execRegClrtgt (M := 524289) rfl (Keeps.refl s)
  | moveEnd _ => exact keeps_execMoveEnd (M := 1099749660673) rfl (Keeps.refl s)
  | lineShaftCoast _ => exact keeps_execLineShaftCoast (M := 1099520022529) rfl (Keeps.refl s)
  | lineShaftLost _ => exact keeps_execLineShaftLost (M := 1099520022529) rfl (Keeps.refl s)
  | regMiss _ => exact keeps_execRegMiss (M := 526337) rfl (Keeps.refl s)
  | camArm _ => exact keeps_execCamArm (M := 235929601) rfl (Keeps.refl s)
  | stopBoundary => exact keeps_execStopBoundary (M := 242221057) rfl (Keeps.refl s)
  | loopApply _ => exact keeps_execLoopApply (M := 536870913) rfl (Keeps.refl s)
  | loopApplyEffect _ => exact keeps_execLoopApplyEffect (M := 9289976658622467) rfl (Keeps.refl s)
  | injStart _ => exact keeps_execInjStart (M := 1073741825) rfl (Keeps.refl s)
  | injStop _ => exact keeps_execInjStop (M := 234881025) rfl (Keeps.refl s)
  | injDone _ => exact keeps_execInjDone (M := 36290304686105) rfl (Keeps.refl s)
  | overcurrent _ _ => exact keeps_execOvercurrent (M := 77309425665) rfl (Keeps.refl s)
  | streamLoss _ => exact keeps_execStreamLoss (M := 1108876474369) rfl (Keeps.refl s)
  | streamReturn _ => exact keeps_execStreamReturn (M := 8193) rfl (Keeps.refl s)
  | udcHoldExpired _ => exact keeps_execUdcHoldExpired (M := 1246315419649) rfl (Keeps.refl s)
  | clePresentation _ _ _ _ _ => exact keeps_execClePresentation (M := 564264988325889) rfl (Keeps.refl s)
  | angloss _ => exact keeps_execAngloss (M := 8589936641) rfl (Keeps.refl s)
  | cleBswap _ => exact keeps_execCleBswap (M := 137438953473) rfl (Keeps.refl s)
  | cleBankSwap _ => exact keeps_execCleBankSwap (M := 137673834497) rfl (Keeps.refl s)
  | cleClrflags _ => exact keeps_execCleClrflags (M := 1) rfl (Keeps.refl s)
  | cleClrcnt _ => exact keeps_execCleClrcnt (M := 1) rfl (Keeps.refl s)
  | cleLatClr _ => exact keeps_execCleLatClr (M := 1) rfl (Keeps.refl s)
  | pwmCommitCmpc _ => exact keeps_execPwmCommitCmpc (M := 8589934593) rfl (Keeps.refl s)
  | pwmCommitAll _ => exact keeps_execPwmCommitAll (M := 8589934593) rfl (Keeps.refl s)
  | auxCommitAll _ => exact keeps_execAuxCommitAll (M := 8589934593) rfl (Keeps.refl s)
  | pwmCommitEffect _ => exact keeps_execPwmCommitEffect (M := 9008501673523203) rfl (Keeps.refl s)
  | auxPeriodStart _ => exact keeps_execAuxPeriodStart (M := 60129556483) rfl (Keeps.refl s)
  | tripLandChange _ _ _ => exact keeps_execTripLandChange (M := 25769818113) rfl (Keeps.refl s)
  | tripDetect _ => exact keeps_execTripDetect (M := 25769818113) rfl (Keeps.refl s)
  | atcWindowOpen _ => exact keeps_execAtcWindowOpen (M := 34359746561) rfl (Keeps.refl s)
  | atcWindowClose _ => exact keeps_execAtcWindowClose (M := 60129556481) rfl (Keeps.refl s)
  | atcSettingsEffect _ => exact keeps_execAtcSettingsEffect (M := 9008501673523203) rfl (Keeps.refl s)
  | pwmTclr _ => exact keeps_execPwmTclr (M := 25769809921) rfl (Keeps.refl s)
  | pwmClrflags _ => exact keeps_execPwmClrflags (M := 1) rfl (Keeps.refl s)
  | pwmClrcnt _ => exact keeps_execPwmClrcnt (M := 1) rfl (Keeps.refl s)
  | auxClrflags _ => exact keeps_execAuxClrflags (M := 1) rfl (Keeps.refl s)
  | auxClrcnt _ => exact keeps_execAuxClrcnt (M := 1) rfl (Keeps.refl s)
  | gtripTclr _ => exact keeps_execGtripTclr (M := 25769809921) rfl (Keeps.refl s)
  | gtripClrcnt _ => exact keeps_execGtripClrcnt (M := 1) rfl (Keeps.refl s)
  | pwmEdge _ _ => exact keeps_execPwmEdge (M := 8589942785) rfl (Keeps.refl s)
  | workItemPost _ _ _ _ _ _ _ => exact keeps_execWorkItemPost (M := 824633720832) rfl (Keeps.refl s)
  | workItemDispatch => exact keeps_execWorkItemDispatch (M := 549755813888) rfl (Keeps.refl s)
  | affinityWindowEnd => exact keeps_execAffinityWindowEnd (M := 549755822080) rfl (Keeps.refl s)
  | workItemDone _ => exact keeps_execWorkItemDone (M := 824633720832) rfl (Keeps.refl s)
  | post _ _ => exact keeps_execPost (M := 29961691856897) rfl (Keeps.refl s)
  | pop _ _ => exact keeps_execPop (M := 16492674416641) rfl (Keeps.refl s)
  | wait _ => exact keeps_execWait (M := 29961691856897) rfl (Keeps.refl s)
  | waitReturn _ => exact keeps_execWaitReturn (M := 37658273251328) rfl (Keeps.refl s)
  | crossingDetected _ _ => exact keeps_execCrossingDetected (M := 2473901172736) rfl (Keeps.refl s)
  | lockAcquire _ _ => exact keeps_execLockAcquire (M := 26663156973568) rfl (Keeps.refl s)
  | lockRelease _ _ => exact keeps_execLockRelease (M := 10995116277761) rfl (Keeps.refl s)
  | lpMemoryWrite _ _ _ => exact keeps_execLpMemoryWrite (M := 35184606969905) rfl (Keeps.refl s)
  | lpVerifya _ => exact keeps_execLpVerifya (M := 35184372088833) rfl (Keeps.refl s)
  | lpVerifyb _ => exact keeps_execLpVerifyb (M := 35184372088833) rfl (Keeps.refl s)
  | verifyDone _ => exact keeps_execVerifyDone (M := 35184606978049) rfl (Keeps.refl s)
  | lpClrcnt _ => exact keeps_execLpClrcnt (M := 1) rfl (Keeps.refl s)
  | lpInterrupt _ => exact keeps_execLpInterrupt (M := 35184372088833) rfl (Keeps.refl s)
  | lpFault _ _ => exact keeps_execLpFault (M := 45089103554561) rfl (Keeps.refl s)
  | mapTrefWrite _ _ => exact keeps_execMapTrefWrite (M := 833760528449) rfl (Keeps.refl s)
  | mapIqrefWrite _ _ => exact keeps_execMapIqrefWrite (M := 833760528449) rfl (Keeps.refl s)
  | mapAstampWrite _ _ => exact keeps_execMapAstampWrite (M := 833760528449) rfl (Keeps.refl s)
  | mapCmp4Write _ _ => exact keeps_execMapCmp4Write (M := 833760528449) rfl (Keeps.refl s)
  | mapCmpcWrite _ _ => exact keeps_execMapCmpcWrite (M := 833760528449) rfl (Keeps.refl s)
  | mapEventWrite _ _ => exact keeps_execMapEventWrite (M := 833760528449) rfl (Keeps.refl s)
  | molpinNop _ => exact keeps_execMolpinNop (M := 45089103554561) rfl (Keeps.refl s)
  | b _ _ _ => exact keeps_execB (M := 45089103554561) rfl (Keeps.refl s)
  | call _ _ => exact keeps_execCall (M := 45089103554561) rfl (Keeps.refl s)
  | ret _ => exact keeps_execRet (M := 45089103554561) rfl (Keeps.refl s)
  | rep _ _ _ => exact keeps_execRep (M := 45089103554561) rfl (Keeps.refl s)
  | end_ _ => exact keeps_execEnd_ (M := 45089341585425) rfl (Keeps.refl s)
  | rti _ => exact keeps_execRti (M := 45089103554577) rfl (Keeps.refl s)
  | add _ _ _ => exact keeps_execAdd (M := 70102993086681) rfl (Keeps.refl s)
  | sub _ _ _ => exact keeps_execSub (M := 70102993086681) rfl (Keeps.refl s)
  | and_ _ _ _ => exact keeps_execAnd_ (M := 70102993086681) rfl (Keeps.refl s)
  | or_ _ _ _ => exact keeps_execOr_ (M := 70102993086681) rfl (Keeps.refl s)
  | xor_ _ _ _ => exact keeps_execXor_ (M := 70102993086681) rfl (Keeps.refl s)
  | asr _ _ _ => exact keeps_execAsr (M := 70102993086681) rfl (Keeps.refl s)
  | lsr _ _ _ => exact keeps_execLsr (M := 70102993086681) rfl (Keeps.refl s)
  | lsl _ _ _ => exact keeps_execLsl (M := 70102993086681) rfl (Keeps.refl s)
  | adds _ _ _ _ _ => exact keeps_execAdds (M := 70102993086681) rfl (Keeps.refl s)
  | subs _ _ _ _ _ => exact keeps_execSubs (M := 70102993086681) rfl (Keeps.refl s)
  | min _ _ _ => exact keeps_execMin (M := 70102993086681) rfl (Keeps.refl s)
  | max _ _ _ => exact keeps_execMax (M := 70102993086681) rfl (Keeps.refl s)
  | abs _ _ _ => exact keeps_execAbs (M := 70102993086681) rfl (Keeps.refl s)
  | neg _ _ _ => exact keeps_execNeg (M := 70102993086681) rfl (Keeps.refl s)
  | cmp _ _ _ => exact keeps_execCmp (M := 70102993086681) rfl (Keeps.refl s)
  | mov _ _ _ => exact keeps_execMov (M := 70102993086681) rfl (Keeps.refl s)
  | ld _ _ _ _ => exact keeps_execLd (M := 64880312854529) rfl (Keeps.refl s)
  | st _ _ _ _ => exact keeps_execSt (M := 52510807042265) rfl (Keeps.refl s)
  | ld64 _ _ _ _ => exact keeps_execLd64 (M := 64880312854529) rfl (Keeps.refl s)
  | st64 _ _ _ _ => exact keeps_execSt64 (M := 52510807042265) rfl (Keeps.refl s)
  | movp _ _ _ => exact keeps_execMovp (M := 70102993086681) rfl (Keeps.refl s)
  | mpy _ _ _ _ _ _ => exact keeps_execMpy (M := 70102993086681) rfl (Keeps.refl s)
  | mac _ _ _ _ _ _ => exact keeps_execMac (M := 70102993086681) rfl (Keeps.refl s)
  | msu _ _ _ _ _ _ => exact keeps_execMsu (M := 70102993086681) rfl (Keeps.refl s)
  | mpysu _ _ _ _ _ _ => exact keeps_execMpysu (M := 70102993086681) rfl (Keeps.refl s)
  | cmac _ _ _ _ _ _ => exact keeps_execCmac (M := 70102993086681) rfl (Keeps.refl s)
  | cmacc _ _ _ _ _ _ => exact keeps_execCmacc (M := 70102993086681) rfl (Keeps.refl s)
  | clra _ _ _ => exact keeps_execClra (M := 70102993086681) rfl (Keeps.refl s)
  | sha _ _ _ _ _ => exact keeps_execSha (M := 70102993086681) rfl (Keeps.refl s)
  | adda _ _ _ _ => exact keeps_execAdda (M := 70102993086681) rfl (Keeps.refl s)
  | movr _ _ _ _ _ => exact keeps_execMovr (M := 70102993086681) rfl (Keeps.refl s)
  | movr64 _ _ _ _ _ => exact keeps_execMovr64 (M := 70102993086681) rfl (Keeps.refl s)
  | mova _ _ _ _ _ => exact keeps_execMova (M := 70102993086681) rfl (Keeps.refl s)
  | movta _ _ _ _ _ => exact keeps_execMovta (M := 70102993086681) rfl (Keeps.refl s)
  | exp _ _ _ _ => exact keeps_execExp (M := 70102993086681) rfl (Keeps.refl s)
  | norm _ _ _ _ => exact keeps_execNorm (M := 70102993086681) rfl (Keeps.refl s)
  | cmulr _ _ _ _ _ => exact keeps_execCmulr (M := 45089103554561) rfl (Keeps.refl s)
  | sincos _ _ _ => exact keeps_execSincos (M := 45089103554561) rfl (Keeps.refl s)
  | divs _ _ _ _ _ => exact keeps_execDivs (M := 45089103554561) rfl (Keeps.refl s)
  | setx _ _ _ _ => exact keeps_execSetx (M := 45089103554561) rfl (Keeps.refl s)
  | tbr _ _ => exact keeps_execTbr (M := 45089103554561) rfl (Keeps.refl s)
  | mtsr _ _ => exact keeps_execMtsr (M := 45089103554561) rfl (Keeps.refl s)
  | mfsr _ _ => exact keeps_execMfsr (M := 45089103554561) rfl (Keeps.refl s)
  | clrf _ => exact keeps_execClrf (M := 45089103554561) rfl (Keeps.refl s)
  | ldi32 _ _ _ => exact keeps_execLdi32 (M := 45089103554561) rfl (Keeps.refl s)
  | bl _ _ => exact keeps_execBl (M := 45089103554561) rfl (Keeps.refl s)
  | switchFrameReceive _ _ _ => exact keeps_execSwitchFrameReceive (M := 351843720892417) rfl (Keeps.refl s)
  | portFrameTransmit _ _ _ _ => exact keeps_execPortFrameTransmit (M := 70368744177665) rfl (Keeps.refl s)
  | gclCycleStart _ => exact keeps_execGclCycleStart (M := 70368744185857) rfl (Keeps.refl s)
  | gateIntervalEnd _ => exact keeps_execGateIntervalEnd (M := 70368744185856) rfl (Keeps.refl s)
  | gclChg _ => exact keeps_execGclChg (M := 70368744177665) rfl (Keeps.refl s)
  | gclChangeEffect _ => exact keeps_execGclChangeEffect (M := 70368979066881) rfl (Keeps.refl s)
  | frerReset _ => exact keeps_execFrerReset (M := 70368744185857) rfl (Keeps.refl s)
  | linkUp _ _ _ => exact keeps_execLinkUp (M := 2049) rfl (Keeps.refl s)
  | portLinkDown _ => exact keeps_execPortLinkDown (M := 2049) rfl (Keeps.refl s)
  | ntTrimWrite _ => exact keeps_execNtTrimWrite (M := 8193) rfl (Keeps.refl s)
  | stepgo => exact keeps_execStepgo (M := 10241) rfl (Keeps.refl s)
  | setgo => exact keeps_execSetgo (M := 8193) rfl (Keeps.refl s)
  | ntNsRead _ => exact keeps_execNtNsRead (M := 70643622084608) rfl (Keeps.refl s)
  | leapSecond => exact keeps_execLeapSecond (M := 8193) rfl (Keeps.refl s)
  | ptpServoUpdate _ _ _ _ _ => exact keeps_execPtpServoUpdate (M := 70368744192001) rfl (Keeps.refl s)
  | ptpHoldover => exact keeps_execPtpHoldover (M := 70368744183809) rfl (Keeps.refl s)
  | servoTimeout => exact keeps_execServoTimeout (M := 14337) rfl (Keeps.refl s)
  | ppsOutEdge => exact keeps_execPpsOutEdge (M := 70368744189953) rfl (Keeps.refl s)
  | ppsOutEnd => exact keeps_execPpsOutEnd (M := 70368744185856) rfl (Keeps.refl s)
  | ppsInEdge _ => exact keeps_execPpsInEdge (M := 12289) rfl (Keeps.refl s)
  | safetyCycle _ _ _ => exact keeps_execSafetyCycle (M := 140737489418241) rfl (Keeps.refl s)
  | safeInputAccept _ _ _ => exact keeps_execSafeInputAccept (M := 140737488359425) rfl (Keeps.refl s)
  | safeInputDiscrepancy _ => exact keeps_execSafeInputDiscrepancy (M := 140737488367617) rfl (Keeps.refl s)
  | offPulse _ _ _ => exact keeps_execOffPulse (M := 140737488369665) rfl (Keeps.refl s)
  | safeResetEdge _ _ _ => exact keeps_execSafeResetEdge (M := 140737488361473) rfl (Keeps.refl s)
  | safeResetLongHigh => exact keeps_execSafeResetLongHigh (M := 140737488359425) rfl (Keeps.refl s)
  | switchBankSample _ _ => exact keeps_execSwitchBankSample (M := 140737488369665) rfl (Keeps.refl s)
  | sbcDelayEnd _ => exact keeps_execSbcDelayEnd (M := 140737488367617) rfl (Keeps.refl s)
  | brakeTestEnd _ _ => exact keeps_execBrakeTestEnd (M := 140738025240577) rfl (Keeps.refl s)
  | brakeTestOverdue _ => exact keeps_execBrakeTestOverdue (M := 14337) rfl (Keeps.refl s)
  | brakeTestLock _ => exact keeps_execBrakeTestLock (M := 12289) rfl (Keeps.refl s)
  | safeWdtExpire _ => exact keeps_execSafeWdtExpire (M := 140737488369665) rfl (Keeps.refl s)
  | safetySupplyLoss => exact keeps_execSafetySupplyLoss (M := 140737488361473) rfl (Keeps.refl s)
  | safetyChannelStart _ _ => exact keeps_execSafetyChannelStart (M := 140737488361473) rfl (Keeps.refl s)
  | ramauxTransmitSlot => exact keeps_execRamauxTransmitSlot (M := 212206795896961) rfl (Keeps.refl s)
  | cyclicFrameReceive _ => exact keeps_execCyclicFrameReceive (M := 423316786518145) rfl (Keeps.refl s)
  | ramauxEnable _ => exact keeps_execRamauxEnable (M := 351843720888321) rfl (Keeps.refl s)
  | rmNextArm => exact keeps_execRmNextArm (M := 281474976710657) rfl (Keeps.refl s)
  | epochChange => exact keeps_execEpochChange (M := 281475211593729) rfl (Keeps.refl s)
  | graceEnd => exact keeps_execGraceEnd (M := 1) rfl (Keeps.refl s)
  | rmClrcnt => exact keeps_execRmClrcnt (M := 1) rfl (Keeps.refl s)
  | bellNotice => exact keeps_execBellNotice (M := 351843720892417) rfl (Keeps.refl s)
  | bellReport _ => exact keeps_execBellReport (M := 351843720892417) rfl (Keeps.refl s)
  | bellReceive _ _ => exact keeps_execBellReceive (M := 351843720892417) rfl (Keeps.refl s)
  | bellEntryAgeout _ => exact keeps_execBellEntryAgeout (M := 1) rfl (Keeps.refl s)
  | bellRecord _ => exact keeps_execBellRecord (M := 281474976712704) rfl (Keeps.refl s)
  | actOutAssert => exact keeps_execActOutAssert (M := 844424931260417) rfl (Keeps.refl s)
  | actConflict => exact keeps_execActConflict (M := 79873) rfl (Keeps.refl s)
  | keeperExpiry => exact keeps_execKeeperExpiry (M := 234960897) rfl (Keeps.refl s)
  | heartbeatSend => exact keeps_execHeartbeatSend (M := 562949953429504) rfl (Keeps.refl s)
  | tackFrameReceive _ _ => exact keeps_execTackFrameReceive (M := 564196283525121) rfl (Keeps.refl s)
  | tackLost => exact keeps_execTackLost (M := 1099511638017) rfl (Keeps.refl s)
  | handoverGo => exact keeps_execHandoverGo (M := 1) rfl (Keeps.refl s)
  | handoverRelease => exact keeps_execHandoverRelease (M := 234952705) rfl (Keeps.refl s)
  | twClrflags => exact keeps_execTwClrflags (M := 1) rfl (Keeps.refl s)
  | twClrcnt => exact keeps_execTwClrcnt (M := 1) rfl (Keeps.refl s)
  | tackLaneDown _ => exact keeps_execTackLaneDown (M := 1) rfl (Keeps.refl s)
  | tackLaneUp _ => exact keeps_execTackLaneUp (M := 1) rfl (Keeps.refl s)
  | dioInputAccept _ _ _ => exact keeps_execDioInputAccept (M := 1) rfl (Keeps.refl s)
  | dioOutWrite _ => exact keeps_execDioOutWrite (M := 2251799813685249) rfl (Keeps.refl s)
  | dioOset _ => exact keeps_execDioOset (M := 2251799813685249) rfl (Keeps.refl s)
  | dioOclr _ => exact keeps_execDioOclr (M := 2251799813685249) rfl (Keeps.refl s)
  | outputShortCircuit _ => exact keeps_execOutputShortCircuit (M := 2251799813691393) rfl (Keeps.refl s)
  | outputOvertemp _ _ => exact keeps_execOutputOvertemp (M := 2251799813691393) rfl (Keeps.refl s)
  | outputRetry _ => exact keeps_execOutputRetry (M := 2251799813693440) rfl (Keeps.refl s)
  | readbackError _ _ => exact keeps_execReadbackError (M := 6145) rfl (Keeps.refl s)
  | fieldSupplySample _ _ _ => exact keeps_execFieldSupplySample (M := 2251799813699585) rfl (Keeps.refl s)
  | fgRearm _ => exact keeps_execFgRearm (M := 1) rfl (Keeps.refl s)
  | fgClrflags _ => exact keeps_execFgClrflags (M := 1) rfl (Keeps.refl s)
  | fgClrcnt _ => exact keeps_execFgClrcnt (M := 1) rfl (Keeps.refl s)
  | analogueSample _ => exact keeps_execAnalogueSample (M := 2251799813699585) rfl (Keeps.refl s)
  | shuntOpen _ => exact keeps_execShuntOpen (M := 2251799813691393) rfl (Keeps.refl s)
  | shuntReconnect _ => exact keeps_execShuntReconnect (M := 8193) rfl (Keeps.refl s)
  | canFrameReceive _ _ _ => exact keeps_execCanFrameReceive (M := 4503599627370497) rfl (Keeps.refl s)
  | canTxgo _ _ => exact keeps_execCanTxgo (M := 4503599627370497) rfl (Keeps.refl s)
  | canTxwd _ _ => exact keeps_execCanTxwd (M := 4503599627370497) rfl (Keeps.refl s)
  | canTxDone _ _ _ => exact keeps_execCanTxDone (M := 4503599862251521) rfl (Keeps.refl s)
  | canTxError _ _ _ _ _ _ _ => exact keeps_execCanTxError (M := 4503599627376641) rfl (Keeps.refl s)
  | canRxError _ _ _ _ => exact keeps_execCanRxError (M := 1) rfl (Keeps.refl s)
  | canRecoverBit _ => exact keeps_execCanRecoverBit (M := 4503599627370497) rfl (Keeps.refl s)
  | busOffRecoveryDone _ => exact keeps_execBusOffRecoveryDone (M := 4503599627370497) rfl (Keeps.refl s)
  | canFreshClear _ _ => exact keeps_execCanFreshClear (M := 1) rfl (Keeps.refl s)
  | fifo0Release _ => exact keeps_execFifo0Release (M := 4503599627370497) rfl (Keeps.refl s)
  | fifo1Release _ => exact keeps_execFifo1Release (M := 4503599627370497) rfl (Keeps.refl s)
  | canHaltEffect _ => exact keeps_execCanHaltEffect (M := 4503599627370496) rfl (Keeps.refl s)
  | cuArm _ => exact keeps_execCuArm (M := 9007199254740993) rfl (Keeps.refl s)
  | cuDisarm _ => exact keeps_execCuDisarm (M := 9007199489626113) rfl (Keeps.refl s)
  | cuFire _ => exact keeps_execCuFire (M := 9007199254740993) rfl (Keeps.refl s)
  | captureSample _ _ _ => exact keeps_execCaptureSample (M := 9007199489635073) rfl (Keeps.refl s)
  | fireRecordWrite => exact keeps_execFireRecordWrite (M := 9007199254741120) rfl (Keeps.refl s)
  | fireReceive _ => exact keeps_execFireReceive (M := 9007199489626113) rfl (Keeps.refl s)
  | holdoffEnd _ => exact keeps_execHoldoffEnd (M := 9007199254753281) rfl (Keeps.refl s)
  | recordAppend => exact keeps_execRecordAppend (M := 18014398509486081) rfl (Keeps.refl s)
  | recordProgram _ => exact keeps_execRecordProgram (M := 18014398509484033) rfl (Keeps.refl s)
  | mergeWindowEnd => exact keeps_execMergeWindowEnd (M := 18014398509490177) rfl (Keeps.refl s)
  | freezeTimeout => exact keeps_execFreezeTimeout (M := 18014398509490177) rfl (Keeps.refl s)
  | logCursorWrite _ => exact keeps_execLogCursorWrite (M := 18014398509481985) rfl (Keeps.refl s)
  | logNext => exact keeps_execLogNext (M := 18014398509481985) rfl (Keeps.refl s)
  | logLoadDone => exact keeps_execLogLoadDone (M := 18014398509481985) rfl (Keeps.refl s)
  | tamperAlarm _ _ => exact keeps_execTamperAlarm (M := 1125900041066497) rfl (Keeps.refl s)
  | secPolicyWrite _ => exact keeps_execSecPolicyWrite (M := 1) rfl (Keeps.refl s)
  | secClrcnt => exact keeps_execSecClrcnt (M := 1) rfl (Keeps.refl s)
  | challengeExpiry => exact keeps_execChallengeExpiry (M := 1125899906850816) rfl (Keeps.refl s)
  | uncorrectableError _ => exact keeps_execUncorrectableError (M := 8590006273) rfl (Keeps.refl s)
  | eccCorrected _ => exact keeps_execEccCorrected (M := 1) rfl (Keeps.refl s)
  | activeRelease => exact keeps_execActiveRelease (M := 71681) rfl (Keeps.refl s)
  | svnAdvance => exact keeps_execSvnAdvance (M := 72057594037936129) rfl (Keeps.refl s)
  | frameBoundary => exact keeps_execFrameBoundary (M := 9289779090126851) rfl (Keeps.refl s)
  | frameLengthWrite _ => exact keeps_execFrameLengthWrite (M := 144115188075855871) rfl (Keeps.refl s)
  | positionBoundary _ => exact keeps_execPositionBoundary (M := 9008501673523203) rfl (Keeps.refl s)
  | velocityBoundary _ => exact keeps_execVelocityBoundary (M := 9008501673523203) rfl (Keeps.refl s)
  | currentUpdateBoundary _ => exact keeps_execCurrentUpdateBoundary (M := 9008501673523203) rfl (Keeps.refl s)
  | tbChangeEffect _ => exact keeps_execTbChangeEffect (M := 16384) rfl (Keeps.refl s)
  | positionRun _ => exact keeps_execPositionRun (M := 36288962508825) rfl (Keeps.refl s)
  | velocityRun _ => exact keeps_execVelocityRun (M := 36290027337745) rfl (Keeps.refl s)
  | networkRun _ => exact keeps_execNetworkRun (M := 36290304686105) rfl (Keeps.refl s)
  | virtualRun _ => exact keeps_execVirtualRun (M := 36290036250641) rfl (Keeps.refl s)
  | overheadRun _ => exact keeps_execOverheadRun (M := 36288953595921) rfl (Keeps.refl s)
  | recoveryLawRun _ => exact keeps_execRecoveryLawRun (M := 1100295444481) rfl (Keeps.refl s)
  | lateClr _ => exact keeps_execLateClr (M := 1) rfl (Keeps.refl s)
  | ctokArm _ => exact keeps_execCtokArm (M := 8193) rfl (Keeps.refl s)
  | ctokCancel _ => exact keeps_execCtokCancel (M := 146263769089) rfl (Keeps.refl s)
  | tokenExecute _ => exact keeps_execTokenExecute (M := 35330635857937) rfl (Keeps.refl s)
  | powerOnReset => exact keeps_execPowerOnReset (M := 144115188075855871) rfl (Keeps.refl s)
  | brownOut => exact keeps_execBrownOut (M := 144115188075855871) rfl (Keeps.refl s)
  | clockReset => exact keeps_execClockReset (M := 144115188075855871) rfl (Keeps.refl s)
  | powerLoss _ => exact keeps_execPowerLoss (M := 144115188075855871) rfl (Keeps.refl s)
  | resetRelease => exact keeps_execResetRelease (M := 73183519714580481) rfl (Keeps.refl s)
  | pllLock => exact keeps_execPllLock (M := 72057594037927937) rfl (Keeps.refl s)
  | dramInitDone _ => exact keeps_execDramInitDone (M := 72057594037942273) rfl (Keeps.refl s)
  | bootImageSelect _ _ => exact keeps_execBootImageSelect (M := 72057594037936129) rfl (Keeps.refl s)
  | firmwareStart _ _ => exact keeps_execFirmwareStart (M := 91197892454266881) rfl (Keeps.refl s)
  | selfTestDone _ _ _ _ _ => exact keeps_execSelfTestDone (M := 72092778410031105) rfl (Keeps.refl s)
  | morningEntry => exact keeps_execMorningEntry (M := 72233666997393409) rfl (Keeps.refl s)
  | stateChange => exact keeps_execStateChange (M := 72233666997393409) rfl (Keeps.refl s)
  | firmwareStateDecision => exact keeps_execFirmwareStateDecision (M := 72339078141444097) rfl (Keeps.refl s)
  | yardWatchdogExpire => exact keeps_execYardWatchdogExpire (M := 144115188075855871) rfl (Keeps.refl s)
  | firmwareRestartDone _ _ => exact keeps_execFirmwareRestartDone (M := 90635492491528193) rfl (Keeps.refl s)
  | sysResetWrite _ => exact keeps_execSysResetWrite (M := 144115188075855871) rfl (Keeps.refl s)
  | refLost => exact keeps_execRefLost (M := 10241) rfl (Keeps.refl s)
  | refReturn => exact keeps_execRefReturn (M := 8193) rfl (Keeps.refl s)
  | refInAcquire => exact keeps_execRefInAcquire (M := 8193) rfl (Keeps.refl s)
  | sysClkWrite _ => exact keeps_execSysClkWrite (M := 8193) rfl (Keeps.refl s)
  | bar0ReadLowWord _ _ => exact keeps_execBar0ReadLowWord (M := 100330436067329) rfl (Keeps.refl s)
  | bar0ReadHighWord _ _ => exact keeps_execBar0ReadHighWord (M := 100330436067329) rfl (Keeps.refl s)
  | bar0WriteLowWord _ _ _ => exact keeps_execBar0WriteLowWord (M := 144115188075855871) rfl (Keeps.refl s)
  | bar0WriteHighWord _ _ _ => exact keeps_execBar0WriteHighWord (M := 144115188075855871) rfl (Keeps.refl s)
  | unmappedAccess r _ _ _ => exact keeps_execUnmappedAccess (M := 274877906945) (p0 := r) rfl (Keeps.refl s)
  | registerWrite _ _ _ => exact keeps_execRegisterWrite (M := 144115188075855871) rfl (Keeps.refl s)
  | badaccClr _ => exact keeps_execBadaccClr (M := 1) rfl (Keeps.refl s)
  | bar2Write _ _ => exact keeps_execBar2Write (M := 513) rfl (Keeps.refl s)
  | ringEnable _ _ => exact keeps_execRingEnable (M := 36028797253849089) rfl (Keeps.refl s)
  | ringDisable _ _ => exact keeps_execRingDisable (M := 36028797253849089) rfl (Keeps.refl s)
  | ringDoorbell _ _ => exact keeps_execRingDoorbell (M := 36028797020026881) rfl (Keeps.refl s)
  | ringFetch _ _ _ => exact keeps_execRingFetch (M := 36029621887569921) rfl (Keeps.refl s)
  | commandCompletion _ => exact keeps_execCommandCompletion (M := 36380640974737921) rfl (Keeps.refl s)
  | coalesceTimer _ => exact keeps_execCoalesceTimer (M := 36028797018976257) rfl (Keeps.refl s)
  | functionLevelReset => exact keeps_execFunctionLevelReset (M := 36037593279764993) rfl (Keeps.refl s)
  | pcieLinkDown => exact keeps_execPcieLinkDown (M := 36037593279764993) rfl (Keeps.refl s)
  | hqRead _ _ => exact keeps_execHqRead (M := 36129127455031297) rfl (Keeps.refl s)
  | hqWrite _ _ => exact keeps_execHqWrite (M := 144115188075855871) rfl (Keeps.refl s)
  | hqStatus => exact keeps_execHqStatus (M := 274877906944) rfl (Keeps.refl s)
  | hostKick => exact keeps_execHostKick (M := 36028797020026881) rfl (Keeps.refl s)
  | hostWatchdogExpire => exact keeps_execHostWatchdogExpire (M := 36028797020026881) rfl (Keeps.refl s)
  | hostClrcnt => exact keeps_execHostClrcnt (M := 1) rfl (Keeps.refl s)
  | streamPointMove _ _ _ => exact keeps_execStreamPointMove (M := 36028797254897665) rfl (Keeps.refl s)
  | deliveryRecordWrite _ _ => exact keeps_execDeliveryRecordWrite (M := 40602765625397761) rfl (Keeps.refl s)
  | pcieLinkUp _ _ => exact keeps_execPcieLinkUp (M := 36028797018963969) rfl (Keeps.refl s)
  | perstAssert => exact keeps_execPerstAssert (M := 36037593279764993) rfl (Keeps.refl s)
  | acyclicRequestReceive _ _ _ => exact keeps_execAcyclicRequestReceive (M := 144115188075855871) rfl (Keeps.refl s)
  | acyclicSegmentTimeout => exact keeps_execAcyclicSegmentTimeout (M := 281475211591680) rfl (Keeps.refl s)
  | acyclicResponseReceive _ _ => exact keeps_execAcyclicResponseReceive (M := 281475211591680) rfl (Keeps.refl s)
  | acyclic _ => exact keeps_execAcyclic (M := 351843955769345) rfl (Keeps.refl s)
  | holdTorqueEnd _ => exact keeps_execHoldTorqueEnd (M := 536879104) rfl (Keeps.refl s)
  | nop _ => exact keeps_execNop (M := 234881024) rfl (Keeps.refl s)
  | identify _ => exact keeps_execIdentify (M := 234881024) rfl (Keeps.refl s)
  | abort _ => exact keeps_execAbort (M := 9288820498370561) rfl (Keeps.refl s)
  | setState _ => exact keeps_execSetState (M := 72057594272808960) rfl (Keeps.refl s)
  | expert _ => exact keeps_execExpert (M := 234881025) rfl (Keeps.refl s)
  | setHamode _ => exact keeps_execSetHamode (M := 36028797253844993) rfl (Keeps.refl s)
  | token _ => exact keeps_execToken (M := 234889217) rfl (Keeps.refl s)
  | setClock _ => exact keeps_execSetClock (M := 234889217) rfl (Keeps.refl s)
  | assign _ => exact keeps_execAssign (M := 35186754453505) rfl (Keeps.refl s)
  | readReg _ => exact keeps_execReadReg (M := 100330670948353) rfl (Keeps.refl s)
  | axisConfig _ => exact keeps_execAxisConfig (M := 144115188075855871) rfl (Keeps.refl s)
  | enable _ => exact keeps_execEnable (M := 146800640001) rfl (Keeps.refl s)
  | tripClear _ => exact keeps_execTripClear (M := 26004690945) rfl (Keeps.refl s)
  | holdTorque _ => exact keeps_execHoldTorque (M := 771751936) rfl (Keeps.refl s)
  | auxConfig _ => exact keeps_execAuxConfig (M := 144115188075855871) rfl (Keeps.refl s)
  | atcConfig _ => exact keeps_execAtcConfig (M := 144115188075855871) rfl (Keeps.refl s)
  | setSource _ => exact keeps_execSetSource (M := 244318209) rfl (Keeps.refl s)
  | movePtp _ => exact keeps_execMovePtp (M := 238026753) rfl (Keeps.refl s)
  | moveLinear _ => exact keeps_execMoveLinear (M := 238026753) rfl (Keeps.refl s)
  | moveCirc _ => exact keeps_execMoveCirc (M := 238026753) rfl (Keeps.refl s)
  | moveSpline _ => exact keeps_execMoveSpline (M := 238026753) rfl (Keeps.refl s)
  | movePvt _ => exact keeps_execMovePvt (M := 235929601) rfl (Keeps.refl s)
  | stop _ => exact keeps_execStop (M := 239075328) rfl (Keeps.refl s)
  | phaseMove _ => exact keeps_execPhaseMove (M := 235929600) rfl (Keeps.refl s)
  | groupConfig _ => exact keeps_execGroupConfig (M := 144115188075855871) rfl (Keeps.refl s)
  | gear _ => exact keeps_execGear (M := 235929601) rfl (Keeps.refl s)
  | camLoad _ => exact keeps_execCamLoad (M := 251658240) rfl (Keeps.refl s)
  | camEngage _ => exact keeps_execCamEngage (M := 235929601) rfl (Keeps.refl s)
  | camSwitch _ => exact keeps_execCamSwitch (M := 235929601) rfl (Keeps.refl s)
  | lsConfig _ => exact keeps_execLsConfig (M := 144115188075855871) rfl (Keeps.refl s)
  | vxConfig _ => exact keeps_execVxConfig (M := 144115188075855871) rfl (Keeps.refl s)
  | loopParam _ => exact keeps_execLoopParam (M := 144115188075855871) rfl (Keeps.refl s)
  | loopFb _ => exact keeps_execLoopFb (M := 144115188075855871) rfl (Keeps.refl s)
  | cleBank _ => exact keeps_execCleBank (M := 144115188075855871) rfl (Keeps.refl s)
  | cleConfig _ => exact keeps_execCleConfig (M := 144115188075855871) rfl (Keeps.refl s)
  | tableLoad _ => exact keeps_execTableLoad (M := 234881032) rfl (Keeps.refl s)
  | tableRead _ => exact keeps_execTableRead (M := 234881024) rfl (Keeps.refl s)
  | inject _ => exact keeps_execInject (M := 144115188075855871) rfl (Keeps.refl s)
  | lawsel _ => exact keeps_execLawsel (M := 144115188075855871) rfl (Keeps.refl s)
  | portConfig _ => exact keeps_execPortConfig (M := 144115188075855871) rfl (Keeps.refl s)
  | portCmd _ => exact keeps_execPortCmd (M := 234946561) rfl (Keeps.refl s)
  | latchConfig _ => exact keeps_execLatchConfig (M := 144115188075855871) rfl (Keeps.refl s)
  | latchRead _ => exact keeps_execLatchRead (M := 235012097) rfl (Keeps.refl s)
  | compareLoad _ => exact keeps_execCompareLoad (M := 235143173) rfl (Keeps.refl s)
  | compareArm _ => exact keeps_execCompareArm (M := 144115188075855871) rfl (Keeps.refl s)
  | coConfig _ => exact keeps_execCoConfig (M := 144115188075855871) rfl (Keeps.refl s)
  | regConfig _ => exact keeps_execRegConfig (M := 144115188075855871) rfl (Keeps.refl s)
  | regTarget _ => exact keeps_execRegTarget (M := 235405313) rfl (Keeps.refl s)
  | switchConfig _ => exact keeps_execSwitchConfig (M := 144115188075855871) rfl (Keeps.refl s)
  | ptpConfig _ => exact keeps_execPtpConfig (M := 70368979058688) rfl (Keeps.refl s)
  | ptpCorrect _ => exact keeps_execPtpCorrect (M := 70368979068929) rfl (Keeps.refl s)
  | ramauxTable _ => exact keeps_execRamauxTable (M := 234881025) rfl (Keeps.refl s)
  | epochArm _ => exact keeps_execEpochArm (M := 281475211591681) rfl (Keeps.refl s)
  | ramauxConfig _ => exact keeps_execRamauxConfig (M := 144115188075855871) rfl (Keeps.refl s)
  | canConfig _ => exact keeps_execCanConfig (M := 144115188075855871) rfl (Keeps.refl s)
  | canSend _ => exact keeps_execCanSend (M := 144115188075855871) rfl (Keeps.refl s)
  | canRead _ => exact keeps_execCanRead (M := 4503599862251521) rfl (Keeps.refl s)
  | canRecover _ => exact keeps_execCanRecover (M := 4503599862251520) rfl (Keeps.refl s)
  | ioConfig _ => exact keeps_execIoConfig (M := 144115188075855871) rfl (Keeps.refl s)
  | ioWrite _ => exact keeps_execIoWrite (M := 2251800048566273) rfl (Keeps.refl s)
  | ioRead _ => exact keeps_execIoRead (M := 234881024) rfl (Keeps.refl s)
  | groupRearm _ => exact keeps_execGroupRearm (M := 234881025) rfl (Keeps.refl s)
  | safeStatus _ => exact keeps_execSafeStatus (M := 100330670948353) rfl (Keeps.refl s)
  | captureConfig _ => exact keeps_execCaptureConfig (M := 144115188075855871) rfl (Keeps.refl s)
  | captureArm _ => exact keeps_execCaptureArm (M := 9007199489622017) rfl (Keeps.refl s)
  | captureRead _ => exact keeps_execCaptureRead (M := 234881024) rfl (Keeps.refl s)
  | logRead _ => exact keeps_execLogRead (M := 234881024) rfl (Keeps.refl s)
  | logFreeze _ => exact keeps_execLogFreeze (M := 18014398744371201) rfl (Keeps.refl s)
  | logClear _ => exact keeps_execLogClear (M := 18014398744363009) rfl (Keeps.refl s)
  | keyLoad _ => exact keeps_execKeyLoad (M := 1125900141729793) rfl (Keeps.refl s)
  | keyErase _ => exact keeps_execKeyErase (M := 1125900141729793) rfl (Keeps.refl s)
  | tamperPolicy _ => exact keeps_execTamperPolicy (M := 1125900141729793) rfl (Keeps.refl s)
  | debugChallenge _ => exact keeps_execDebugChallenge (M := 1125900141723648) rfl (Keeps.refl s)
  | debugOpen _ => exact keeps_execDebugOpen (M := 1125900141729793) rfl (Keeps.refl s)
  | fwWrite _ => exact keeps_execFwWrite (M := 72057594272812032) rfl (Keeps.refl s)
  | fwVerify _ => exact keeps_execFwVerify (M := 72057594272811008) rfl (Keeps.refl s)
  | fwRestart _ => exact keeps_execFwRestart (M := 72629890075068416) rfl (Keeps.refl s)
  | lpImage _ => exact keeps_execLpImage (M := 35184606971953) rfl (Keeps.refl s)
  | safetySlot _ => exact keeps_execSafetySlot (M := 140737723236353) rfl (Keeps.refl s)
  | twinConfig _ => exact keeps_execTwinConfig (M := 144115188075855871) rfl (Keeps.refl s)
  | twinStart _ => exact keeps_execTwinStart (M := 562950188374017) rfl (Keeps.refl s)
  | join _ => exact keeps_execJoin (M := 234881024) rfl (Keeps.refl s)
  | handover _ => exact keeps_execHandover (M := 234881025) rfl (Keeps.refl s)
  | nx2416Nop _ => exact keeps_execNx2416Nop (M := 144115188075855871) rfl (Keeps.refl s)
  | status _ => exact keeps_execStatus (M := 144115188075855871) rfl (Keeps.refl s)
  | goRun _ => exact keeps_execGoRun (M := 144115188075855871) rfl (Keeps.refl s)
  | goStop _ => exact keeps_execGoStop (M := 144115188075855871) rfl (Keeps.refl s)
  | goConfig _ => exact keeps_execGoConfig (M := 144115188075855871) rfl (Keeps.refl s)
  | axisOnOff _ => exact keeps_execAxisOnOff (M := 144115188075855871) rfl (Keeps.refl s)
  | faultReset _ => exact keeps_execFaultReset (M := 144115188075855871) rfl (Keeps.refl s)
  | moveAbs _ => exact keeps_execMoveAbs (M := 144115188075855871) rfl (Keeps.refl s)
  | moveStop _ => exact keeps_execMoveStop (M := 144115188075855871) rfl (Keeps.refl s)
  | gearOn _ => exact keeps_execGearOn (M := 144115188075855871) rfl (Keeps.refl s)
  | gearOff _ => exact keeps_execGearOff (M := 144115188075855871) rfl (Keeps.refl s)
  | outWrite _ => exact keeps_execOutWrite (M := 144115188075855871) rfl (Keeps.refl s)
  | inRead _ => exact keeps_execInRead (M := 144115188075855871) rfl (Keeps.refl s)

/-- A part that a command does not touch. -/
theorem exec_same {c : Instr} {s t : State} (h : exec c s = .next t) {p : Part} (hp : p ∉ touches c) : p.same s t :=
  (exec_keeps c s t h).frame p (maskOf_eq c ▸ partMask_out hp)

end Sys2Proof.Machine
end

