-- ==== Sys2Proof/Laws/KeepSafety.lean ====
section
/-! SUPPORT. The operations of Machine/Safety.lean keep what `Keeps` says. -/

namespace Sys2Proof.Machine

theorem keeps_State_lpThen {M : Nat} (hM : Nat.land 35184372088832 M = 35184372088832) {s0 : State} {s : State} {p1 : Nat} {p2 : Nat} {p3 : LpSet} (h : Keeps M s0 s) : Keeps M s0 (State.lpThen s p1 p2 p3) := by
  unfold State.lpThen
  refine (keeps_State_modLp (sub_trans rfl hM)) ?_
  exact h

theorem keeps_State_imageRegPut {M : Nat} (hM : Nat.land 144115188075855871 M = 144115188075855871) {s0 : State} {s : State} {p1 : Hit} {p2 : Nat} {p3 : Nat} (h : Keeps M s0 s) : Keeps M s0 (State.imageRegPut s p1 p2 p3) := by
  unfold State.imageRegPut
  refine ite_of (P := Keeps M s0) ?_ ?_
  ·
    exact h
  ·
    refine (keeps_State_regApply (sub_trans rfl hM)) ?_
    exact h

end Sys2Proof.Machine
end

