-- ==== Sys2Proof/Laws/KeepStep.lean ====
section
/-! SUPPORT. The operations of Machine/Step.lean keep what `Keeps` says. -/

namespace Sys2Proof.Machine

theorem keeps_idleStep {M : Nat} (hM : Nat.land 8192 M = 8192) {s0 : State} {s : State} (h : Keeps M s0 s) : Keeps M s0 (idleStep s) := by
  unfold idleStep
  refine ite_of (P := Keeps M s0) ?_ ?_
  ·
    refine (keeps_State_advanceTo (sub_trans rfl hM)) ?_
    exact h
  ·
    exact h

end Sys2Proof.Machine
end

