-- ==== Sys2Proof/Laws/State.lean ====
section
/-! SUPPORT. What every named update of the state does to every field: one lemma a field and an update. -/

namespace Sys2Proof.Machine

/-! `State.wr` -/
@[simp] theorem State.wr_pending (s : State) (a : Nat) (v : Word) : (s.wr a v).pending = s.pending := (rfl)
@[simp] theorem State.wr_regs (s : State) (a : Nat) (v : Word) : (s.wr a v).regs = spSet regReset s.regs a v := (rfl)
@[simp] theorem State.wr_act (s : State) (a : Nat) (v : Word) : (s.wr a v).act = s.act := (rfl)
@[simp] theorem State.wr_mem (s : State) (a : Nat) (v : Word) : (s.wr a v).mem = s.mem := (rfl)
@[simp] theorem State.wr_variantF (s : State) (a : Nat) (v : Word) : (s.wr a v).variantF = s.variantF := (rfl)
@[simp] theorem State.wr_events (s : State) (a : Nat) (v : Word) : (s.wr a v).events = s.events := (rfl)
@[simp] theorem State.wr_vectors (s : State) (a : Nat) (v : Word) : (s.wr a v).vectors = s.vectors := (rfl)
@[simp] theorem State.wr_freeCount (s : State) (a : Nat) (v : Word) : (s.wr a v).freeCount = s.freeCount := (rfl)
@[simp] theorem State.wr_time (s : State) (a : Nat) (v : Word) : (s.wr a v).time = s.time := (rfl)
@[simp] theorem State.wr_grids (s : State) (a : Nat) (v : Word) : (s.wr a v).grids = s.grids := (rfl)
@[simp] theorem State.wr_reqs (s : State) (a : Nat) (v : Word) : (s.wr a v).reqs = s.reqs := (rfl)
@[simp] theorem State.wr_ports (s : State) (a : Nat) (v : Word) : (s.wr a v).ports = s.ports := (rfl)
@[simp] theorem State.wr_latches (s : State) (a : Nat) (v : Word) : (s.wr a v).latches = s.latches := (rfl)
@[simp] theorem State.wr_compares (s : State) (a : Nat) (v : Word) : (s.wr a v).compares = s.compares := (rfl)
@[simp] theorem State.wr_rcs (s : State) (a : Nat) (v : Word) : (s.wr a v).rcs = s.rcs := (rfl)
@[simp] theorem State.wr_motion (s : State) (a : Nat) (v : Word) : (s.wr a v).motion = s.motion := (rfl)
@[simp] theorem State.wr_plans (s : State) (a : Nat) (v : Word) : (s.wr a v).plans = s.plans := (rfl)
@[simp] theorem State.wr_stops (s : State) (a : Nat) (v : Word) : (s.wr a v).stops = s.stops := (rfl)
@[simp] theorem State.wr_shafts (s : State) (a : Nat) (v : Word) : (s.wr a v).shafts = s.shafts := (rfl)
@[simp] theorem State.wr_cams (s : State) (a : Nat) (v : Word) : (s.wr a v).cams = s.cams := (rfl)
@[simp] theorem State.wr_inflight (s : State) (a : Nat) (v : Word) : (s.wr a v).inflight = s.inflight := (rfl)
@[simp] theorem State.wr_waits (s : State) (a : Nat) (v : Word) : (s.wr a v).waits = s.waits := (rfl)
@[simp] theorem State.wr_completions (s : State) (a : Nat) (v : Word) : (s.wr a v).completions = s.completions := (rfl)
@[simp] theorem State.wr_netAxes (s : State) (a : Nat) (v : Word) : (s.wr a v).netAxes = s.netAxes := (rfl)
@[simp] theorem State.wr_loops (s : State) (a : Nat) (v : Word) : (s.wr a v).loops = s.loops := (rfl)
@[simp] theorem State.wr_injs (s : State) (a : Nat) (v : Word) : (s.wr a v).injs = s.injs := (rfl)
@[simp] theorem State.wr_assign (s : State) (a : Nat) (v : Word) : (s.wr a v).assign = s.assign := (rfl)
@[simp] theorem State.wr_runQ (s : State) (a : Nat) (v : Word) : (s.wr a v).runQ = s.runQ := (rfl)
@[simp] theorem State.wr_pwms (s : State) (a : Nat) (v : Word) : (s.wr a v).pwms = s.pwms := (rfl)
@[simp] theorem State.wr_trips (s : State) (a : Nat) (v : Word) : (s.wr a v).trips = s.trips := (rfl)
@[simp] theorem State.wr_atcs (s : State) (a : Nat) (v : Word) : (s.wr a v).atcs = s.atcs := (rfl)
@[simp] theorem State.wr_sds (s : State) (a : Nat) (v : Word) : (s.wr a v).sds = s.sds := (rfl)
@[simp] theorem State.wr_cles (s : State) (a : Nat) (v : Word) : (s.wr a v).cles = s.cles := (rfl)
@[simp] theorem State.wr_rdata (s : State) (a : Nat) (v : Word) : (s.wr a v).rdata = s.rdata := (rfl)
@[simp] theorem State.wr_groom (s : State) (a : Nat) (v : Word) : (s.wr a v).groom = s.groom := (rfl)
@[simp] theorem State.wr_stalls (s : State) (a : Nat) (v : Word) : (s.wr a v).stalls = s.stalls := (rfl)
@[simp] theorem State.wr_agents (s : State) (a : Nat) (v : Word) : (s.wr a v).agents = s.agents := (rfl)
@[simp] theorem State.wr_xtime (s : State) (a : Nat) (v : Word) : (s.wr a v).xtime = s.xtime := (rfl)
@[simp] theorem State.wr_locks (s : State) (a : Nat) (v : Word) : (s.wr a v).locks = s.locks := (rfl)
@[simp] theorem State.wr_lockPtr (s : State) (a : Nat) (v : Word) : (s.wr a v).lockPtr = s.lockPtr := (rfl)
@[simp] theorem State.wr_lps (s : State) (a : Nat) (v : Word) : (s.wr a v).lps = s.lps := (rfl)
@[simp] theorem State.wr_nw (s : State) (a : Nat) (v : Word) : (s.wr a v).nw = s.nw := (rfl)
@[simp] theorem State.wr_safe (s : State) (a : Nat) (v : Word) : (s.wr a v).safe = s.safe := (rfl)
@[simp] theorem State.wr_rm (s : State) (a : Nat) (v : Word) : (s.wr a v).rm = s.rm := (rfl)
@[simp] theorem State.wr_tw (s : State) (a : Nat) (v : Word) : (s.wr a v).tw = s.tw := (rfl)
@[simp] theorem State.wr_sec (s : State) (a : Nat) (v : Word) : (s.wr a v).sec = s.sec := (rfl)
@[simp] theorem State.wr_io (s : State) (a : Nat) (v : Word) : (s.wr a v).io = s.io := (rfl)
@[simp] theorem State.wr_cans (s : State) (a : Nat) (v : Word) : (s.wr a v).cans = s.cans := (rfl)
@[simp] theorem State.wr_acq (s : State) (a : Nat) (v : Word) : (s.wr a v).acq = s.acq := (rfl)
@[simp] theorem State.wr_log (s : State) (a : Nat) (v : Word) : (s.wr a v).log = s.log := (rfl)
@[simp] theorem State.wr_host (s : State) (a : Nat) (v : Word) : (s.wr a v).host = s.host := (rfl)
@[simp] theorem State.wr_pw (s : State) (a : Nat) (v : Word) : (s.wr a v).pw = s.pw := (rfl)
@[simp] theorem State.wr_ard (s : State) (a : Nat) (v : Word) (j : Nat) : (s.wr a v).ard j = s.ard j := (rfl)
/-! `State.wrN` -/
@[simp] theorem State.wrN_pending (s : State) (a v : Nat) : (s.wrN a v).pending = s.pending := (rfl)
@[simp] theorem State.wrN_regs (s : State) (a v : Nat) : (s.wrN a v).regs = spSet regReset s.regs a (BitVec.ofNat 32 v) := (rfl)
@[simp] theorem State.wrN_act (s : State) (a v : Nat) : (s.wrN a v).act = s.act := (rfl)
@[simp] theorem State.wrN_mem (s : State) (a v : Nat) : (s.wrN a v).mem = s.mem := (rfl)
@[simp] theorem State.wrN_variantF (s : State) (a v : Nat) : (s.wrN a v).variantF = s.variantF := (rfl)
@[simp] theorem State.wrN_events (s : State) (a v : Nat) : (s.wrN a v).events = s.events := (rfl)
@[simp] theorem State.wrN_vectors (s : State) (a v : Nat) : (s.wrN a v).vectors = s.vectors := (rfl)
@[simp] theorem State.wrN_freeCount (s : State) (a v : Nat) : (s.wrN a v).freeCount = s.freeCount := (rfl)
@[simp] theorem State.wrN_time (s : State) (a v : Nat) : (s.wrN a v).time = s.time := (rfl)
@[simp] theorem State.wrN_grids (s : State) (a v : Nat) : (s.wrN a v).grids = s.grids := (rfl)
@[simp] theorem State.wrN_reqs (s : State) (a v : Nat) : (s.wrN a v).reqs = s.reqs := (rfl)
@[simp] theorem State.wrN_ports (s : State) (a v : Nat) : (s.wrN a v).ports = s.ports := (rfl)
@[simp] theorem State.wrN_latches (s : State) (a v : Nat) : (s.wrN a v).latches = s.latches := (rfl)
@[simp] theorem State.wrN_compares (s : State) (a v : Nat) : (s.wrN a v).compares = s.compares := (rfl)
@[simp] theorem State.wrN_rcs (s : State) (a v : Nat) : (s.wrN a v).rcs = s.rcs := (rfl)
@[simp] theorem State.wrN_motion (s : State) (a v : Nat) : (s.wrN a v).motion = s.motion := (rfl)
@[simp] theorem State.wrN_plans (s : State) (a v : Nat) : (s.wrN a v).plans = s.plans := (rfl)
@[simp] theorem State.wrN_stops (s : State) (a v : Nat) : (s.wrN a v).stops = s.stops := (rfl)
@[simp] theorem State.wrN_shafts (s : State) (a v : Nat) : (s.wrN a v).shafts = s.shafts := (rfl)
@[simp] theorem State.wrN_cams (s : State) (a v : Nat) : (s.wrN a v).cams = s.cams := (rfl)
@[simp] theorem State.wrN_inflight (s : State) (a v : Nat) : (s.wrN a v).inflight = s.inflight := (rfl)
@[simp] theorem State.wrN_waits (s : State) (a v : Nat) : (s.wrN a v).waits = s.waits := (rfl)
@[simp] theorem State.wrN_completions (s : State) (a v : Nat) : (s.wrN a v).completions = s.completions := (rfl)
@[simp] theorem State.wrN_netAxes (s : State) (a v : Nat) : (s.wrN a v).netAxes = s.netAxes := (rfl)
@[simp] theorem State.wrN_loops (s : State) (a v : Nat) : (s.wrN a v).loops = s.loops := (rfl)
@[simp] theorem State.wrN_injs (s : State) (a v : Nat) : (s.wrN a v).injs = s.injs := (rfl)
@[simp] theorem State.wrN_assign (s : State) (a v : Nat) : (s.wrN a v).assign = s.assign := (rfl)
@[simp] theorem State.wrN_runQ (s : State) (a v : Nat) : (s.wrN a v).runQ = s.runQ := (rfl)
@[simp] theorem State.wrN_pwms (s : State) (a v : Nat) : (s.wrN a v).pwms = s.pwms := (rfl)
@[simp] theorem State.wrN_trips (s : State) (a v : Nat) : (s.wrN a v).trips = s.trips := (rfl)
@[simp] theorem State.wrN_atcs (s : State) (a v : Nat) : (s.wrN a v).atcs = s.atcs := (rfl)
@[simp] theorem State.wrN_sds (s : State) (a v : Nat) : (s.wrN a v).sds = s.sds := (rfl)
@[simp] theorem State.wrN_cles (s : State) (a v : Nat) : (s.wrN a v).cles = s.cles := (rfl)
@[simp] theorem State.wrN_rdata (s : State) (a v : Nat) : (s.wrN a v).rdata = s.rdata := (rfl)
@[simp] theorem State.wrN_groom (s : State) (a v : Nat) : (s.wrN a v).groom = s.groom := (rfl)
@[simp] theorem State.wrN_stalls (s : State) (a v : Nat) : (s.wrN a v).stalls = s.stalls := (rfl)
@[simp] theorem State.wrN_agents (s : State) (a v : Nat) : (s.wrN a v).agents = s.agents := (rfl)
@[simp] theorem State.wrN_xtime (s : State) (a v : Nat) : (s.wrN a v).xtime = s.xtime := (rfl)
@[simp] theorem State.wrN_locks (s : State) (a v : Nat) : (s.wrN a v).locks = s.locks := (rfl)
@[simp] theorem State.wrN_lockPtr (s : State) (a v : Nat) : (s.wrN a v).lockPtr = s.lockPtr := (rfl)
@[simp] theorem State.wrN_lps (s : State) (a v : Nat) : (s.wrN a v).lps = s.lps := (rfl)
@[simp] theorem State.wrN_nw (s : State) (a v : Nat) : (s.wrN a v).nw = s.nw := (rfl)
@[simp] theorem State.wrN_safe (s : State) (a v : Nat) : (s.wrN a v).safe = s.safe := (rfl)
@[simp] theorem State.wrN_rm (s : State) (a v : Nat) : (s.wrN a v).rm = s.rm := (rfl)
@[simp] theorem State.wrN_tw (s : State) (a v : Nat) : (s.wrN a v).tw = s.tw := (rfl)
@[simp] theorem State.wrN_sec (s : State) (a v : Nat) : (s.wrN a v).sec = s.sec := (rfl)
@[simp] theorem State.wrN_io (s : State) (a v : Nat) : (s.wrN a v).io = s.io := (rfl)
@[simp] theorem State.wrN_cans (s : State) (a v : Nat) : (s.wrN a v).cans = s.cans := (rfl)
@[simp] theorem State.wrN_acq (s : State) (a v : Nat) : (s.wrN a v).acq = s.acq := (rfl)
@[simp] theorem State.wrN_log (s : State) (a v : Nat) : (s.wrN a v).log = s.log := (rfl)
@[simp] theorem State.wrN_host (s : State) (a v : Nat) : (s.wrN a v).host = s.host := (rfl)
@[simp] theorem State.wrN_pw (s : State) (a v : Nat) : (s.wrN a v).pw = s.pw := (rfl)
@[simp] theorem State.wrN_ard (s : State) (a v : Nat) (j : Nat) : (s.wrN a v).ard j = s.ard j := (rfl)
/-! `State.wrI` -/
@[simp] theorem State.wrI_pending (s : State) (a : Nat) (v : Int) : (s.wrI a v).pending = s.pending := (rfl)
@[simp] theorem State.wrI_regs (s : State) (a : Nat) (v : Int) : (s.wrI a v).regs = spSet regReset s.regs a (BitVec.ofInt 32 v) := (rfl)
@[simp] theorem State.wrI_act (s : State) (a : Nat) (v : Int) : (s.wrI a v).act = s.act := (rfl)
@[simp] theorem State.wrI_mem (s : State) (a : Nat) (v : Int) : (s.wrI a v).mem = s.mem := (rfl)
@[simp] theorem State.wrI_variantF (s : State) (a : Nat) (v : Int) : (s.wrI a v).variantF = s.variantF := (rfl)
@[simp] theorem State.wrI_events (s : State) (a : Nat) (v : Int) : (s.wrI a v).events = s.events := (rfl)
@[simp] theorem State.wrI_vectors (s : State) (a : Nat) (v : Int) : (s.wrI a v).vectors = s.vectors := (rfl)
@[simp] theorem State.wrI_freeCount (s : State) (a : Nat) (v : Int) : (s.wrI a v).freeCount = s.freeCount := (rfl)
@[simp] theorem State.wrI_time (s : State) (a : Nat) (v : Int) : (s.wrI a v).time = s.time := (rfl)
@[simp] theorem State.wrI_grids (s : State) (a : Nat) (v : Int) : (s.wrI a v).grids = s.grids := (rfl)
@[simp] theorem State.wrI_reqs (s : State) (a : Nat) (v : Int) : (s.wrI a v).reqs = s.reqs := (rfl)
@[simp] theorem State.wrI_ports (s : State) (a : Nat) (v : Int) : (s.wrI a v).ports = s.ports := (rfl)
@[simp] theorem State.wrI_latches (s : State) (a : Nat) (v : Int) : (s.wrI a v).latches = s.latches := (rfl)
@[simp] theorem State.wrI_compares (s : State) (a : Nat) (v : Int) : (s.wrI a v).compares = s.compares := (rfl)
@[simp] theorem State.wrI_rcs (s : State) (a : Nat) (v : Int) : (s.wrI a v).rcs = s.rcs := (rfl)
@[simp] theorem State.wrI_motion (s : State) (a : Nat) (v : Int) : (s.wrI a v).motion = s.motion := (rfl)
@[simp] theorem State.wrI_plans (s : State) (a : Nat) (v : Int) : (s.wrI a v).plans = s.plans := (rfl)
@[simp] theorem State.wrI_stops (s : State) (a : Nat) (v : Int) : (s.wrI a v).stops = s.stops := (rfl)
@[simp] theorem State.wrI_shafts (s : State) (a : Nat) (v : Int) : (s.wrI a v).shafts = s.shafts := (rfl)
@[simp] theorem State.wrI_cams (s : State) (a : Nat) (v : Int) : (s.wrI a v).cams = s.cams := (rfl)
@[simp] theorem State.wrI_inflight (s : State) (a : Nat) (v : Int) : (s.wrI a v).inflight = s.inflight := (rfl)
@[simp] theorem State.wrI_waits (s : State) (a : Nat) (v : Int) : (s.wrI a v).waits = s.waits := (rfl)
@[simp] theorem State.wrI_completions (s : State) (a : Nat) (v : Int) : (s.wrI a v).completions = s.completions := (rfl)
@[simp] theorem State.wrI_netAxes (s : State) (a : Nat) (v : Int) : (s.wrI a v).netAxes = s.netAxes := (rfl)
@[simp] theorem State.wrI_loops (s : State) (a : Nat) (v : Int) : (s.wrI a v).loops = s.loops := (rfl)
@[simp] theorem State.wrI_injs (s : State) (a : Nat) (v : Int) : (s.wrI a v).injs = s.injs := (rfl)
@[simp] theorem State.wrI_assign (s : State) (a : Nat) (v : Int) : (s.wrI a v).assign = s.assign := (rfl)
@[simp] theorem State.wrI_runQ (s : State) (a : Nat) (v : Int) : (s.wrI a v).runQ = s.runQ := (rfl)
@[simp] theorem State.wrI_pwms (s : State) (a : Nat) (v : Int) : (s.wrI a v).pwms = s.pwms := (rfl)
@[simp] theorem State.wrI_trips (s : State) (a : Nat) (v : Int) : (s.wrI a v).trips = s.trips := (rfl)
@[simp] theorem State.wrI_atcs (s : State) (a : Nat) (v : Int) : (s.wrI a v).atcs = s.atcs := (rfl)
@[simp] theorem State.wrI_sds (s : State) (a : Nat) (v : Int) : (s.wrI a v).sds = s.sds := (rfl)
@[simp] theorem State.wrI_cles (s : State) (a : Nat) (v : Int) : (s.wrI a v).cles = s.cles := (rfl)
@[simp] theorem State.wrI_rdata (s : State) (a : Nat) (v : Int) : (s.wrI a v).rdata = s.rdata := (rfl)
@[simp] theorem State.wrI_groom (s : State) (a : Nat) (v : Int) : (s.wrI a v).groom = s.groom := (rfl)
@[simp] theorem State.wrI_stalls (s : State) (a : Nat) (v : Int) : (s.wrI a v).stalls = s.stalls := (rfl)
@[simp] theorem State.wrI_agents (s : State) (a : Nat) (v : Int) : (s.wrI a v).agents = s.agents := (rfl)
@[simp] theorem State.wrI_xtime (s : State) (a : Nat) (v : Int) : (s.wrI a v).xtime = s.xtime := (rfl)
@[simp] theorem State.wrI_locks (s : State) (a : Nat) (v : Int) : (s.wrI a v).locks = s.locks := (rfl)
@[simp] theorem State.wrI_lockPtr (s : State) (a : Nat) (v : Int) : (s.wrI a v).lockPtr = s.lockPtr := (rfl)
@[simp] theorem State.wrI_lps (s : State) (a : Nat) (v : Int) : (s.wrI a v).lps = s.lps := (rfl)
@[simp] theorem State.wrI_nw (s : State) (a : Nat) (v : Int) : (s.wrI a v).nw = s.nw := (rfl)
@[simp] theorem State.wrI_safe (s : State) (a : Nat) (v : Int) : (s.wrI a v).safe = s.safe := (rfl)
@[simp] theorem State.wrI_rm (s : State) (a : Nat) (v : Int) : (s.wrI a v).rm = s.rm := (rfl)
@[simp] theorem State.wrI_tw (s : State) (a : Nat) (v : Int) : (s.wrI a v).tw = s.tw := (rfl)
@[simp] theorem State.wrI_sec (s : State) (a : Nat) (v : Int) : (s.wrI a v).sec = s.sec := (rfl)
@[simp] theorem State.wrI_io (s : State) (a : Nat) (v : Int) : (s.wrI a v).io = s.io := (rfl)
@[simp] theorem State.wrI_cans (s : State) (a : Nat) (v : Int) : (s.wrI a v).cans = s.cans := (rfl)
@[simp] theorem State.wrI_acq (s : State) (a : Nat) (v : Int) : (s.wrI a v).acq = s.acq := (rfl)
@[simp] theorem State.wrI_log (s : State) (a : Nat) (v : Int) : (s.wrI a v).log = s.log := (rfl)
@[simp] theorem State.wrI_host (s : State) (a : Nat) (v : Int) : (s.wrI a v).host = s.host := (rfl)
@[simp] theorem State.wrI_pw (s : State) (a : Nat) (v : Int) : (s.wrI a v).pw = s.pw := (rfl)
@[simp] theorem State.wrI_ard (s : State) (a : Nat) (v : Int) (j : Nat) : (s.wrI a v).ard j = s.ard j := (rfl)
/-! `State.put` -/
@[simp] theorem State.put_pending (s : State) (a : Nat) (f : Fld) (v : Nat) : (s.put a f v).pending = s.pending := (rfl)
@[simp] theorem State.put_act (s : State) (a : Nat) (f : Fld) (v : Nat) : (s.put a f v).act = s.act := (rfl)
@[simp] theorem State.put_mem (s : State) (a : Nat) (f : Fld) (v : Nat) : (s.put a f v).mem = s.mem := (rfl)
@[simp] theorem State.put_variantF (s : State) (a : Nat) (f : Fld) (v : Nat) : (s.put a f v).variantF = s.variantF := (rfl)
@[simp] theorem State.put_events (s : State) (a : Nat) (f : Fld) (v : Nat) : (s.put a f v).events = s.events := (rfl)
@[simp] theorem State.put_vectors (s : State) (a : Nat) (f : Fld) (v : Nat) : (s.put a f v).vectors = s.vectors := (rfl)
@[simp] theorem State.put_freeCount (s : State) (a : Nat) (f : Fld) (v : Nat) : (s.put a f v).freeCount = s.freeCount := (rfl)
@[simp] theorem State.put_time (s : State) (a : Nat) (f : Fld) (v : Nat) : (s.put a f v).time = s.time := (rfl)
@[simp] theorem State.put_grids (s : State) (a : Nat) (f : Fld) (v : Nat) : (s.put a f v).grids = s.grids := (rfl)
@[simp] theorem State.put_reqs (s : State) (a : Nat) (f : Fld) (v : Nat) : (s.put a f v).reqs = s.reqs := (rfl)
@[simp] theorem State.put_ports (s : State) (a : Nat) (f : Fld) (v : Nat) : (s.put a f v).ports = s.ports := (rfl)
@[simp] theorem State.put_latches (s : State) (a : Nat) (f : Fld) (v : Nat) : (s.put a f v).latches = s.latches := (rfl)
@[simp] theorem State.put_compares (s : State) (a : Nat) (f : Fld) (v : Nat) : (s.put a f v).compares = s.compares := (rfl)
@[simp] theorem State.put_rcs (s : State) (a : Nat) (f : Fld) (v : Nat) : (s.put a f v).rcs = s.rcs := (rfl)
@[simp] theorem State.put_motion (s : State) (a : Nat) (f : Fld) (v : Nat) : (s.put a f v).motion = s.motion := (rfl)
@[simp] theorem State.put_plans (s : State) (a : Nat) (f : Fld) (v : Nat) : (s.put a f v).plans = s.plans := (rfl)
@[simp] theorem State.put_stops (s : State) (a : Nat) (f : Fld) (v : Nat) : (s.put a f v).stops = s.stops := (rfl)
@[simp] theorem State.put_shafts (s : State) (a : Nat) (f : Fld) (v : Nat) : (s.put a f v).shafts = s.shafts := (rfl)
@[simp] theorem State.put_cams (s : State) (a : Nat) (f : Fld) (v : Nat) : (s.put a f v).cams = s.cams := (rfl)
@[simp] theorem State.put_inflight (s : State) (a : Nat) (f : Fld) (v : Nat) : (s.put a f v).inflight = s.inflight := (rfl)
@[simp] theorem State.put_waits (s : State) (a : Nat) (f : Fld) (v : Nat) : (s.put a f v).waits = s.waits := (rfl)
@[simp] theorem State.put_completions (s : State) (a : Nat) (f : Fld) (v : Nat) : (s.put a f v).completions = s.completions := (rfl)
@[simp] theorem State.put_netAxes (s : State) (a : Nat) (f : Fld) (v : Nat) : (s.put a f v).netAxes = s.netAxes := (rfl)
@[simp] theorem State.put_loops (s : State) (a : Nat) (f : Fld) (v : Nat) : (s.put a f v).loops = s.loops := (rfl)
@[simp] theorem State.put_injs (s : State) (a : Nat) (f : Fld) (v : Nat) : (s.put a f v).injs = s.injs := (rfl)
@[simp] theorem State.put_assign (s : State) (a : Nat) (f : Fld) (v : Nat) : (s.put a f v).assign = s.assign := (rfl)
@[simp] theorem State.put_runQ (s : State) (a : Nat) (f : Fld) (v : Nat) : (s.put a f v).runQ = s.runQ := (rfl)
@[simp] theorem State.put_pwms (s : State) (a : Nat) (f : Fld) (v : Nat) : (s.put a f v).pwms = s.pwms := (rfl)
@[simp] theorem State.put_trips (s : State) (a : Nat) (f : Fld) (v : Nat) : (s.put a f v).trips = s.trips := (rfl)
@[simp] theorem State.put_atcs (s : State) (a : Nat) (f : Fld) (v : Nat) : (s.put a f v).atcs = s.atcs := (rfl)
@[simp] theorem State.put_sds (s : State) (a : Nat) (f : Fld) (v : Nat) : (s.put a f v).sds = s.sds := (rfl)
@[simp] theorem State.put_cles (s : State) (a : Nat) (f : Fld) (v : Nat) : (s.put a f v).cles = s.cles := (rfl)
@[simp] theorem State.put_rdata (s : State) (a : Nat) (f : Fld) (v : Nat) : (s.put a f v).rdata = s.rdata := (rfl)
@[simp] theorem State.put_groom (s : State) (a : Nat) (f : Fld) (v : Nat) : (s.put a f v).groom = s.groom := (rfl)
@[simp] theorem State.put_stalls (s : State) (a : Nat) (f : Fld) (v : Nat) : (s.put a f v).stalls = s.stalls := (rfl)
@[simp] theorem State.put_agents (s : State) (a : Nat) (f : Fld) (v : Nat) : (s.put a f v).agents = s.agents := (rfl)
@[simp] theorem State.put_xtime (s : State) (a : Nat) (f : Fld) (v : Nat) : (s.put a f v).xtime = s.xtime := (rfl)
@[simp] theorem State.put_locks (s : State) (a : Nat) (f : Fld) (v : Nat) : (s.put a f v).locks = s.locks := (rfl)
@[simp] theorem State.put_lockPtr (s : State) (a : Nat) (f : Fld) (v : Nat) : (s.put a f v).lockPtr = s.lockPtr := (rfl)
@[simp] theorem State.put_lps (s : State) (a : Nat) (f : Fld) (v : Nat) : (s.put a f v).lps = s.lps := (rfl)
@[simp] theorem State.put_nw (s : State) (a : Nat) (f : Fld) (v : Nat) : (s.put a f v).nw = s.nw := (rfl)
@[simp] theorem State.put_safe (s : State) (a : Nat) (f : Fld) (v : Nat) : (s.put a f v).safe = s.safe := (rfl)
@[simp] theorem State.put_rm (s : State) (a : Nat) (f : Fld) (v : Nat) : (s.put a f v).rm = s.rm := (rfl)
@[simp] theorem State.put_tw (s : State) (a : Nat) (f : Fld) (v : Nat) : (s.put a f v).tw = s.tw := (rfl)
@[simp] theorem State.put_sec (s : State) (a : Nat) (f : Fld) (v : Nat) : (s.put a f v).sec = s.sec := (rfl)
@[simp] theorem State.put_io (s : State) (a : Nat) (f : Fld) (v : Nat) : (s.put a f v).io = s.io := (rfl)
@[simp] theorem State.put_cans (s : State) (a : Nat) (f : Fld) (v : Nat) : (s.put a f v).cans = s.cans := (rfl)
@[simp] theorem State.put_acq (s : State) (a : Nat) (f : Fld) (v : Nat) : (s.put a f v).acq = s.acq := (rfl)
@[simp] theorem State.put_log (s : State) (a : Nat) (f : Fld) (v : Nat) : (s.put a f v).log = s.log := (rfl)
@[simp] theorem State.put_host (s : State) (a : Nat) (f : Fld) (v : Nat) : (s.put a f v).host = s.host := (rfl)
@[simp] theorem State.put_pw (s : State) (a : Nat) (f : Fld) (v : Nat) : (s.put a f v).pw = s.pw := (rfl)
@[simp] theorem State.put_ard (s : State) (a : Nat) (f : Fld) (v : Nat) (j : Nat) : (s.put a f v).ard j = s.ard j := (rfl)
/-! `State.putB` -/
@[simp] theorem State.putB_pending (s : State) (a : Nat) (f : Fld) (b : Bool) : (s.putB a f b).pending = s.pending := (rfl)
@[simp] theorem State.putB_act (s : State) (a : Nat) (f : Fld) (b : Bool) : (s.putB a f b).act = s.act := (rfl)
@[simp] theorem State.putB_mem (s : State) (a : Nat) (f : Fld) (b : Bool) : (s.putB a f b).mem = s.mem := (rfl)
@[simp] theorem State.putB_variantF (s : State) (a : Nat) (f : Fld) (b : Bool) : (s.putB a f b).variantF = s.variantF := (rfl)
@[simp] theorem State.putB_events (s : State) (a : Nat) (f : Fld) (b : Bool) : (s.putB a f b).events = s.events := (rfl)
@[simp] theorem State.putB_vectors (s : State) (a : Nat) (f : Fld) (b : Bool) : (s.putB a f b).vectors = s.vectors := (rfl)
@[simp] theorem State.putB_freeCount (s : State) (a : Nat) (f : Fld) (b : Bool) : (s.putB a f b).freeCount = s.freeCount := (rfl)
@[simp] theorem State.putB_time (s : State) (a : Nat) (f : Fld) (b : Bool) : (s.putB a f b).time = s.time := (rfl)
@[simp] theorem State.putB_grids (s : State) (a : Nat) (f : Fld) (b : Bool) : (s.putB a f b).grids = s.grids := (rfl)
@[simp] theorem State.putB_reqs (s : State) (a : Nat) (f : Fld) (b : Bool) : (s.putB a f b).reqs = s.reqs := (rfl)
@[simp] theorem State.putB_ports (s : State) (a : Nat) (f : Fld) (b : Bool) : (s.putB a f b).ports = s.ports := (rfl)
@[simp] theorem State.putB_latches (s : State) (a : Nat) (f : Fld) (b : Bool) : (s.putB a f b).latches = s.latches := (rfl)
@[simp] theorem State.putB_compares (s : State) (a : Nat) (f : Fld) (b : Bool) : (s.putB a f b).compares = s.compares := (rfl)
@[simp] theorem State.putB_rcs (s : State) (a : Nat) (f : Fld) (b : Bool) : (s.putB a f b).rcs = s.rcs := (rfl)
@[simp] theorem State.putB_motion (s : State) (a : Nat) (f : Fld) (b : Bool) : (s.putB a f b).motion = s.motion := (rfl)
@[simp] theorem State.putB_plans (s : State) (a : Nat) (f : Fld) (b : Bool) : (s.putB a f b).plans = s.plans := (rfl)
@[simp] theorem State.putB_stops (s : State) (a : Nat) (f : Fld) (b : Bool) : (s.putB a f b).stops = s.stops := (rfl)
@[simp] theorem State.putB_shafts (s : State) (a : Nat) (f : Fld) (b : Bool) : (s.putB a f b).shafts = s.shafts := (rfl)
@[simp] theorem State.putB_cams (s : State) (a : Nat) (f : Fld) (b : Bool) : (s.putB a f b).cams = s.cams := (rfl)
@[simp] theorem State.putB_inflight (s : State) (a : Nat) (f : Fld) (b : Bool) : (s.putB a f b).inflight = s.inflight := (rfl)
@[simp] theorem State.putB_waits (s : State) (a : Nat) (f : Fld) (b : Bool) : (s.putB a f b).waits = s.waits := (rfl)
@[simp] theorem State.putB_completions (s : State) (a : Nat) (f : Fld) (b : Bool) : (s.putB a f b).completions = s.completions := (rfl)
@[simp] theorem State.putB_netAxes (s : State) (a : Nat) (f : Fld) (b : Bool) : (s.putB a f b).netAxes = s.netAxes := (rfl)
@[simp] theorem State.putB_loops (s : State) (a : Nat) (f : Fld) (b : Bool) : (s.putB a f b).loops = s.loops := (rfl)
@[simp] theorem State.putB_injs (s : State) (a : Nat) (f : Fld) (b : Bool) : (s.putB a f b).injs = s.injs := (rfl)
@[simp] theorem State.putB_assign (s : State) (a : Nat) (f : Fld) (b : Bool) : (s.putB a f b).assign = s.assign := (rfl)
@[simp] theorem State.putB_runQ (s : State) (a : Nat) (f : Fld) (b : Bool) : (s.putB a f b).runQ = s.runQ := (rfl)
@[simp] theorem State.putB_pwms (s : State) (a : Nat) (f : Fld) (b : Bool) : (s.putB a f b).pwms = s.pwms := (rfl)
@[simp] theorem State.putB_trips (s : State) (a : Nat) (f : Fld) (b : Bool) : (s.putB a f b).trips = s.trips := (rfl)
@[simp] theorem State.putB_atcs (s : State) (a : Nat) (f : Fld) (b : Bool) : (s.putB a f b).atcs = s.atcs := (rfl)
@[simp] theorem State.putB_sds (s : State) (a : Nat) (f : Fld) (b : Bool) : (s.putB a f b).sds = s.sds := (rfl)
@[simp] theorem State.putB_cles (s : State) (a : Nat) (f : Fld) (b : Bool) : (s.putB a f b).cles = s.cles := (rfl)
@[simp] theorem State.putB_rdata (s : State) (a : Nat) (f : Fld) (b : Bool) : (s.putB a f b).rdata = s.rdata := (rfl)
@[simp] theorem State.putB_groom (s : State) (a : Nat) (f : Fld) (b : Bool) : (s.putB a f b).groom = s.groom := (rfl)
@[simp] theorem State.putB_stalls (s : State) (a : Nat) (f : Fld) (b : Bool) : (s.putB a f b).stalls = s.stalls := (rfl)
@[simp] theorem State.putB_agents (s : State) (a : Nat) (f : Fld) (b : Bool) : (s.putB a f b).agents = s.agents := (rfl)
@[simp] theorem State.putB_xtime (s : State) (a : Nat) (f : Fld) (b : Bool) : (s.putB a f b).xtime = s.xtime := (rfl)
@[simp] theorem State.putB_locks (s : State) (a : Nat) (f : Fld) (b : Bool) : (s.putB a f b).locks = s.locks := (rfl)
@[simp] theorem State.putB_lockPtr (s : State) (a : Nat) (f : Fld) (b : Bool) : (s.putB a f b).lockPtr = s.lockPtr := (rfl)
@[simp] theorem State.putB_lps (s : State) (a : Nat) (f : Fld) (b : Bool) : (s.putB a f b).lps = s.lps := (rfl)
@[simp] theorem State.putB_nw (s : State) (a : Nat) (f : Fld) (b : Bool) : (s.putB a f b).nw = s.nw := (rfl)
@[simp] theorem State.putB_safe (s : State) (a : Nat) (f : Fld) (b : Bool) : (s.putB a f b).safe = s.safe := (rfl)
@[simp] theorem State.putB_rm (s : State) (a : Nat) (f : Fld) (b : Bool) : (s.putB a f b).rm = s.rm := (rfl)
@[simp] theorem State.putB_tw (s : State) (a : Nat) (f : Fld) (b : Bool) : (s.putB a f b).tw = s.tw := (rfl)
@[simp] theorem State.putB_sec (s : State) (a : Nat) (f : Fld) (b : Bool) : (s.putB a f b).sec = s.sec := (rfl)
@[simp] theorem State.putB_io (s : State) (a : Nat) (f : Fld) (b : Bool) : (s.putB a f b).io = s.io := (rfl)
@[simp] theorem State.putB_cans (s : State) (a : Nat) (f : Fld) (b : Bool) : (s.putB a f b).cans = s.cans := (rfl)
@[simp] theorem State.putB_acq (s : State) (a : Nat) (f : Fld) (b : Bool) : (s.putB a f b).acq = s.acq := (rfl)
@[simp] theorem State.putB_log (s : State) (a : Nat) (f : Fld) (b : Bool) : (s.putB a f b).log = s.log := (rfl)
@[simp] theorem State.putB_host (s : State) (a : Nat) (f : Fld) (b : Bool) : (s.putB a f b).host = s.host := (rfl)
@[simp] theorem State.putB_pw (s : State) (a : Nat) (f : Fld) (b : Bool) : (s.putB a f b).pw = s.pw := (rfl)
@[simp] theorem State.putB_ard (s : State) (a : Nat) (f : Fld) (b : Bool) (j : Nat) : (s.putB a f b).ard j = s.ard j := (rfl)
/-! `State.setf` -/
@[simp] theorem State.setf_pending (s : State) (a : Nat) (f : Fld) : (s.setf a f).pending = s.pending := (rfl)
@[simp] theorem State.setf_act (s : State) (a : Nat) (f : Fld) : (s.setf a f).act = s.act := (rfl)
@[simp] theorem State.setf_mem (s : State) (a : Nat) (f : Fld) : (s.setf a f).mem = s.mem := (rfl)
@[simp] theorem State.setf_variantF (s : State) (a : Nat) (f : Fld) : (s.setf a f).variantF = s.variantF := (rfl)
@[simp] theorem State.setf_events (s : State) (a : Nat) (f : Fld) : (s.setf a f).events = s.events := (rfl)
@[simp] theorem State.setf_vectors (s : State) (a : Nat) (f : Fld) : (s.setf a f).vectors = s.vectors := (rfl)
@[simp] theorem State.setf_freeCount (s : State) (a : Nat) (f : Fld) : (s.setf a f).freeCount = s.freeCount := (rfl)
@[simp] theorem State.setf_time (s : State) (a : Nat) (f : Fld) : (s.setf a f).time = s.time := (rfl)
@[simp] theorem State.setf_grids (s : State) (a : Nat) (f : Fld) : (s.setf a f).grids = s.grids := (rfl)
@[simp] theorem State.setf_reqs (s : State) (a : Nat) (f : Fld) : (s.setf a f).reqs = s.reqs := (rfl)
@[simp] theorem State.setf_ports (s : State) (a : Nat) (f : Fld) : (s.setf a f).ports = s.ports := (rfl)
@[simp] theorem State.setf_latches (s : State) (a : Nat) (f : Fld) : (s.setf a f).latches = s.latches := (rfl)
@[simp] theorem State.setf_compares (s : State) (a : Nat) (f : Fld) : (s.setf a f).compares = s.compares := (rfl)
@[simp] theorem State.setf_rcs (s : State) (a : Nat) (f : Fld) : (s.setf a f).rcs = s.rcs := (rfl)
@[simp] theorem State.setf_motion (s : State) (a : Nat) (f : Fld) : (s.setf a f).motion = s.motion := (rfl)
@[simp] theorem State.setf_plans (s : State) (a : Nat) (f : Fld) : (s.setf a f).plans = s.plans := (rfl)
@[simp] theorem State.setf_stops (s : State) (a : Nat) (f : Fld) : (s.setf a f).stops = s.stops := (rfl)
@[simp] theorem State.setf_shafts (s : State) (a : Nat) (f : Fld) : (s.setf a f).shafts = s.shafts := (rfl)
@[simp] theorem State.setf_cams (s : State) (a : Nat) (f : Fld) : (s.setf a f).cams = s.cams := (rfl)
@[simp] theorem State.setf_inflight (s : State) (a : Nat) (f : Fld) : (s.setf a f).inflight = s.inflight := (rfl)
@[simp] theorem State.setf_waits (s : State) (a : Nat) (f : Fld) : (s.setf a f).waits = s.waits := (rfl)
@[simp] theorem State.setf_completions (s : State) (a : Nat) (f : Fld) : (s.setf a f).completions = s.completions := (rfl)
@[simp] theorem State.setf_netAxes (s : State) (a : Nat) (f : Fld) : (s.setf a f).netAxes = s.netAxes := (rfl)
@[simp] theorem State.setf_loops (s : State) (a : Nat) (f : Fld) : (s.setf a f).loops = s.loops := (rfl)
@[simp] theorem State.setf_injs (s : State) (a : Nat) (f : Fld) : (s.setf a f).injs = s.injs := (rfl)
@[simp] theorem State.setf_assign (s : State) (a : Nat) (f : Fld) : (s.setf a f).assign = s.assign := (rfl)
@[simp] theorem State.setf_runQ (s : State) (a : Nat) (f : Fld) : (s.setf a f).runQ = s.runQ := (rfl)
@[simp] theorem State.setf_pwms (s : State) (a : Nat) (f : Fld) : (s.setf a f).pwms = s.pwms := (rfl)
@[simp] theorem State.setf_trips (s : State) (a : Nat) (f : Fld) : (s.setf a f).trips = s.trips := (rfl)
@[simp] theorem State.setf_atcs (s : State) (a : Nat) (f : Fld) : (s.setf a f).atcs = s.atcs := (rfl)
@[simp] theorem State.setf_sds (s : State) (a : Nat) (f : Fld) : (s.setf a f).sds = s.sds := (rfl)
@[simp] theorem State.setf_cles (s : State) (a : Nat) (f : Fld) : (s.setf a f).cles = s.cles := (rfl)
@[simp] theorem State.setf_rdata (s : State) (a : Nat) (f : Fld) : (s.setf a f).rdata = s.rdata := (rfl)
@[simp] theorem State.setf_groom (s : State) (a : Nat) (f : Fld) : (s.setf a f).groom = s.groom := (rfl)
@[simp] theorem State.setf_stalls (s : State) (a : Nat) (f : Fld) : (s.setf a f).stalls = s.stalls := (rfl)
@[simp] theorem State.setf_agents (s : State) (a : Nat) (f : Fld) : (s.setf a f).agents = s.agents := (rfl)
@[simp] theorem State.setf_xtime (s : State) (a : Nat) (f : Fld) : (s.setf a f).xtime = s.xtime := (rfl)
@[simp] theorem State.setf_locks (s : State) (a : Nat) (f : Fld) : (s.setf a f).locks = s.locks := (rfl)
@[simp] theorem State.setf_lockPtr (s : State) (a : Nat) (f : Fld) : (s.setf a f).lockPtr = s.lockPtr := (rfl)
@[simp] theorem State.setf_lps (s : State) (a : Nat) (f : Fld) : (s.setf a f).lps = s.lps := (rfl)
@[simp] theorem State.setf_nw (s : State) (a : Nat) (f : Fld) : (s.setf a f).nw = s.nw := (rfl)
@[simp] theorem State.setf_safe (s : State) (a : Nat) (f : Fld) : (s.setf a f).safe = s.safe := (rfl)
@[simp] theorem State.setf_rm (s : State) (a : Nat) (f : Fld) : (s.setf a f).rm = s.rm := (rfl)
@[simp] theorem State.setf_tw (s : State) (a : Nat) (f : Fld) : (s.setf a f).tw = s.tw := (rfl)
@[simp] theorem State.setf_sec (s : State) (a : Nat) (f : Fld) : (s.setf a f).sec = s.sec := (rfl)
@[simp] theorem State.setf_io (s : State) (a : Nat) (f : Fld) : (s.setf a f).io = s.io := (rfl)
@[simp] theorem State.setf_cans (s : State) (a : Nat) (f : Fld) : (s.setf a f).cans = s.cans := (rfl)
@[simp] theorem State.setf_acq (s : State) (a : Nat) (f : Fld) : (s.setf a f).acq = s.acq := (rfl)
@[simp] theorem State.setf_log (s : State) (a : Nat) (f : Fld) : (s.setf a f).log = s.log := (rfl)
@[simp] theorem State.setf_host (s : State) (a : Nat) (f : Fld) : (s.setf a f).host = s.host := (rfl)
@[simp] theorem State.setf_pw (s : State) (a : Nat) (f : Fld) : (s.setf a f).pw = s.pw := (rfl)
@[simp] theorem State.setf_ard (s : State) (a : Nat) (f : Fld) (j : Nat) : (s.setf a f).ard j = s.ard j := (rfl)
/-! `State.clrf` -/
@[simp] theorem State.clrf_pending (s : State) (a : Nat) (f : Fld) : (s.clrf a f).pending = s.pending := (rfl)
@[simp] theorem State.clrf_act (s : State) (a : Nat) (f : Fld) : (s.clrf a f).act = s.act := (rfl)
@[simp] theorem State.clrf_mem (s : State) (a : Nat) (f : Fld) : (s.clrf a f).mem = s.mem := (rfl)
@[simp] theorem State.clrf_variantF (s : State) (a : Nat) (f : Fld) : (s.clrf a f).variantF = s.variantF := (rfl)
@[simp] theorem State.clrf_events (s : State) (a : Nat) (f : Fld) : (s.clrf a f).events = s.events := (rfl)
@[simp] theorem State.clrf_vectors (s : State) (a : Nat) (f : Fld) : (s.clrf a f).vectors = s.vectors := (rfl)
@[simp] theorem State.clrf_freeCount (s : State) (a : Nat) (f : Fld) : (s.clrf a f).freeCount = s.freeCount := (rfl)
@[simp] theorem State.clrf_time (s : State) (a : Nat) (f : Fld) : (s.clrf a f).time = s.time := (rfl)
@[simp] theorem State.clrf_grids (s : State) (a : Nat) (f : Fld) : (s.clrf a f).grids = s.grids := (rfl)
@[simp] theorem State.clrf_reqs (s : State) (a : Nat) (f : Fld) : (s.clrf a f).reqs = s.reqs := (rfl)
@[simp] theorem State.clrf_ports (s : State) (a : Nat) (f : Fld) : (s.clrf a f).ports = s.ports := (rfl)
@[simp] theorem State.clrf_latches (s : State) (a : Nat) (f : Fld) : (s.clrf a f).latches = s.latches := (rfl)
@[simp] theorem State.clrf_compares (s : State) (a : Nat) (f : Fld) : (s.clrf a f).compares = s.compares := (rfl)
@[simp] theorem State.clrf_rcs (s : State) (a : Nat) (f : Fld) : (s.clrf a f).rcs = s.rcs := (rfl)
@[simp] theorem State.clrf_motion (s : State) (a : Nat) (f : Fld) : (s.clrf a f).motion = s.motion := (rfl)
@[simp] theorem State.clrf_plans (s : State) (a : Nat) (f : Fld) : (s.clrf a f).plans = s.plans := (rfl)
@[simp] theorem State.clrf_stops (s : State) (a : Nat) (f : Fld) : (s.clrf a f).stops = s.stops := (rfl)
@[simp] theorem State.clrf_shafts (s : State) (a : Nat) (f : Fld) : (s.clrf a f).shafts = s.shafts := (rfl)
@[simp] theorem State.clrf_cams (s : State) (a : Nat) (f : Fld) : (s.clrf a f).cams = s.cams := (rfl)
@[simp] theorem State.clrf_inflight (s : State) (a : Nat) (f : Fld) : (s.clrf a f).inflight = s.inflight := (rfl)
@[simp] theorem State.clrf_waits (s : State) (a : Nat) (f : Fld) : (s.clrf a f).waits = s.waits := (rfl)
@[simp] theorem State.clrf_completions (s : State) (a : Nat) (f : Fld) : (s.clrf a f).completions = s.completions := (rfl)
@[simp] theorem State.clrf_netAxes (s : State) (a : Nat) (f : Fld) : (s.clrf a f).netAxes = s.netAxes := (rfl)
@[simp] theorem State.clrf_loops (s : State) (a : Nat) (f : Fld) : (s.clrf a f).loops = s.loops := (rfl)
@[simp] theorem State.clrf_injs (s : State) (a : Nat) (f : Fld) : (s.clrf a f).injs = s.injs := (rfl)
@[simp] theorem State.clrf_assign (s : State) (a : Nat) (f : Fld) : (s.clrf a f).assign = s.assign := (rfl)
@[simp] theorem State.clrf_runQ (s : State) (a : Nat) (f : Fld) : (s.clrf a f).runQ = s.runQ := (rfl)
@[simp] theorem State.clrf_pwms (s : State) (a : Nat) (f : Fld) : (s.clrf a f).pwms = s.pwms := (rfl)
@[simp] theorem State.clrf_trips (s : State) (a : Nat) (f : Fld) : (s.clrf a f).trips = s.trips := (rfl)
@[simp] theorem State.clrf_atcs (s : State) (a : Nat) (f : Fld) : (s.clrf a f).atcs = s.atcs := (rfl)
@[simp] theorem State.clrf_sds (s : State) (a : Nat) (f : Fld) : (s.clrf a f).sds = s.sds := (rfl)
@[simp] theorem State.clrf_cles (s : State) (a : Nat) (f : Fld) : (s.clrf a f).cles = s.cles := (rfl)
@[simp] theorem State.clrf_rdata (s : State) (a : Nat) (f : Fld) : (s.clrf a f).rdata = s.rdata := (rfl)
@[simp] theorem State.clrf_groom (s : State) (a : Nat) (f : Fld) : (s.clrf a f).groom = s.groom := (rfl)
@[simp] theorem State.clrf_stalls (s : State) (a : Nat) (f : Fld) : (s.clrf a f).stalls = s.stalls := (rfl)
@[simp] theorem State.clrf_agents (s : State) (a : Nat) (f : Fld) : (s.clrf a f).agents = s.agents := (rfl)
@[simp] theorem State.clrf_xtime (s : State) (a : Nat) (f : Fld) : (s.clrf a f).xtime = s.xtime := (rfl)
@[simp] theorem State.clrf_locks (s : State) (a : Nat) (f : Fld) : (s.clrf a f).locks = s.locks := (rfl)
@[simp] theorem State.clrf_lockPtr (s : State) (a : Nat) (f : Fld) : (s.clrf a f).lockPtr = s.lockPtr := (rfl)
@[simp] theorem State.clrf_lps (s : State) (a : Nat) (f : Fld) : (s.clrf a f).lps = s.lps := (rfl)
@[simp] theorem State.clrf_nw (s : State) (a : Nat) (f : Fld) : (s.clrf a f).nw = s.nw := (rfl)
@[simp] theorem State.clrf_safe (s : State) (a : Nat) (f : Fld) : (s.clrf a f).safe = s.safe := (rfl)
@[simp] theorem State.clrf_rm (s : State) (a : Nat) (f : Fld) : (s.clrf a f).rm = s.rm := (rfl)
@[simp] theorem State.clrf_tw (s : State) (a : Nat) (f : Fld) : (s.clrf a f).tw = s.tw := (rfl)
@[simp] theorem State.clrf_sec (s : State) (a : Nat) (f : Fld) : (s.clrf a f).sec = s.sec := (rfl)
@[simp] theorem State.clrf_io (s : State) (a : Nat) (f : Fld) : (s.clrf a f).io = s.io := (rfl)
@[simp] theorem State.clrf_cans (s : State) (a : Nat) (f : Fld) : (s.clrf a f).cans = s.cans := (rfl)
@[simp] theorem State.clrf_acq (s : State) (a : Nat) (f : Fld) : (s.clrf a f).acq = s.acq := (rfl)
@[simp] theorem State.clrf_log (s : State) (a : Nat) (f : Fld) : (s.clrf a f).log = s.log := (rfl)
@[simp] theorem State.clrf_host (s : State) (a : Nat) (f : Fld) : (s.clrf a f).host = s.host := (rfl)
@[simp] theorem State.clrf_pw (s : State) (a : Nat) (f : Fld) : (s.clrf a f).pw = s.pw := (rfl)
@[simp] theorem State.clrf_ard (s : State) (a : Nat) (f : Fld) (j : Nat) : (s.clrf a f).ard j = s.ard j := (rfl)
/-! `State.count` -/
@[simp] theorem State.count_pending (s : State) (a : Nat) (f : Fld) : (s.count a f).pending = s.pending := (rfl)
@[simp] theorem State.count_act (s : State) (a : Nat) (f : Fld) : (s.count a f).act = s.act := (rfl)
@[simp] theorem State.count_mem (s : State) (a : Nat) (f : Fld) : (s.count a f).mem = s.mem := (rfl)
@[simp] theorem State.count_variantF (s : State) (a : Nat) (f : Fld) : (s.count a f).variantF = s.variantF := (rfl)
@[simp] theorem State.count_events (s : State) (a : Nat) (f : Fld) : (s.count a f).events = s.events := (rfl)
@[simp] theorem State.count_vectors (s : State) (a : Nat) (f : Fld) : (s.count a f).vectors = s.vectors := (rfl)
@[simp] theorem State.count_freeCount (s : State) (a : Nat) (f : Fld) : (s.count a f).freeCount = s.freeCount := (rfl)
@[simp] theorem State.count_time (s : State) (a : Nat) (f : Fld) : (s.count a f).time = s.time := (rfl)
@[simp] theorem State.count_grids (s : State) (a : Nat) (f : Fld) : (s.count a f).grids = s.grids := (rfl)
@[simp] theorem State.count_reqs (s : State) (a : Nat) (f : Fld) : (s.count a f).reqs = s.reqs := (rfl)
@[simp] theorem State.count_ports (s : State) (a : Nat) (f : Fld) : (s.count a f).ports = s.ports := (rfl)
@[simp] theorem State.count_latches (s : State) (a : Nat) (f : Fld) : (s.count a f).latches = s.latches := (rfl)
@[simp] theorem State.count_compares (s : State) (a : Nat) (f : Fld) : (s.count a f).compares = s.compares := (rfl)
@[simp] theorem State.count_rcs (s : State) (a : Nat) (f : Fld) : (s.count a f).rcs = s.rcs := (rfl)
@[simp] theorem State.count_motion (s : State) (a : Nat) (f : Fld) : (s.count a f).motion = s.motion := (rfl)
@[simp] theorem State.count_plans (s : State) (a : Nat) (f : Fld) : (s.count a f).plans = s.plans := (rfl)
@[simp] theorem State.count_stops (s : State) (a : Nat) (f : Fld) : (s.count a f).stops = s.stops := (rfl)
@[simp] theorem State.count_shafts (s : State) (a : Nat) (f : Fld) : (s.count a f).shafts = s.shafts := (rfl)
@[simp] theorem State.count_cams (s : State) (a : Nat) (f : Fld) : (s.count a f).cams = s.cams := (rfl)
@[simp] theorem State.count_inflight (s : State) (a : Nat) (f : Fld) : (s.count a f).inflight = s.inflight := (rfl)
@[simp] theorem State.count_waits (s : State) (a : Nat) (f : Fld) : (s.count a f).waits = s.waits := (rfl)
@[simp] theorem State.count_completions (s : State) (a : Nat) (f : Fld) : (s.count a f).completions = s.completions := (rfl)
@[simp] theorem State.count_netAxes (s : State) (a : Nat) (f : Fld) : (s.count a f).netAxes = s.netAxes := (rfl)
@[simp] theorem State.count_loops (s : State) (a : Nat) (f : Fld) : (s.count a f).loops = s.loops := (rfl)
@[simp] theorem State.count_injs (s : State) (a : Nat) (f : Fld) : (s.count a f).injs = s.injs := (rfl)
@[simp] theorem State.count_assign (s : State) (a : Nat) (f : Fld) : (s.count a f).assign = s.assign := (rfl)
@[simp] theorem State.count_runQ (s : State) (a : Nat) (f : Fld) : (s.count a f).runQ = s.runQ := (rfl)
@[simp] theorem State.count_pwms (s : State) (a : Nat) (f : Fld) : (s.count a f).pwms = s.pwms := (rfl)
@[simp] theorem State.count_trips (s : State) (a : Nat) (f : Fld) : (s.count a f).trips = s.trips := (rfl)
@[simp] theorem State.count_atcs (s : State) (a : Nat) (f : Fld) : (s.count a f).atcs = s.atcs := (rfl)
@[simp] theorem State.count_sds (s : State) (a : Nat) (f : Fld) : (s.count a f).sds = s.sds := (rfl)
@[simp] theorem State.count_cles (s : State) (a : Nat) (f : Fld) : (s.count a f).cles = s.cles := (rfl)
@[simp] theorem State.count_rdata (s : State) (a : Nat) (f : Fld) : (s.count a f).rdata = s.rdata := (rfl)
@[simp] theorem State.count_groom (s : State) (a : Nat) (f : Fld) : (s.count a f).groom = s.groom := (rfl)
@[simp] theorem State.count_stalls (s : State) (a : Nat) (f : Fld) : (s.count a f).stalls = s.stalls := (rfl)
@[simp] theorem State.count_agents (s : State) (a : Nat) (f : Fld) : (s.count a f).agents = s.agents := (rfl)
@[simp] theorem State.count_xtime (s : State) (a : Nat) (f : Fld) : (s.count a f).xtime = s.xtime := (rfl)
@[simp] theorem State.count_locks (s : State) (a : Nat) (f : Fld) : (s.count a f).locks = s.locks := (rfl)
@[simp] theorem State.count_lockPtr (s : State) (a : Nat) (f : Fld) : (s.count a f).lockPtr = s.lockPtr := (rfl)
@[simp] theorem State.count_lps (s : State) (a : Nat) (f : Fld) : (s.count a f).lps = s.lps := (rfl)
@[simp] theorem State.count_nw (s : State) (a : Nat) (f : Fld) : (s.count a f).nw = s.nw := (rfl)
@[simp] theorem State.count_safe (s : State) (a : Nat) (f : Fld) : (s.count a f).safe = s.safe := (rfl)
@[simp] theorem State.count_rm (s : State) (a : Nat) (f : Fld) : (s.count a f).rm = s.rm := (rfl)
@[simp] theorem State.count_tw (s : State) (a : Nat) (f : Fld) : (s.count a f).tw = s.tw := (rfl)
@[simp] theorem State.count_sec (s : State) (a : Nat) (f : Fld) : (s.count a f).sec = s.sec := (rfl)
@[simp] theorem State.count_io (s : State) (a : Nat) (f : Fld) : (s.count a f).io = s.io := (rfl)
@[simp] theorem State.count_cans (s : State) (a : Nat) (f : Fld) : (s.count a f).cans = s.cans := (rfl)
@[simp] theorem State.count_acq (s : State) (a : Nat) (f : Fld) : (s.count a f).acq = s.acq := (rfl)
@[simp] theorem State.count_log (s : State) (a : Nat) (f : Fld) : (s.count a f).log = s.log := (rfl)
@[simp] theorem State.count_host (s : State) (a : Nat) (f : Fld) : (s.count a f).host = s.host := (rfl)
@[simp] theorem State.count_pw (s : State) (a : Nat) (f : Fld) : (s.count a f).pw = s.pw := (rfl)
@[simp] theorem State.count_ard (s : State) (a : Nat) (f : Fld) (j : Nat) : (s.count a f).ard j = s.ard j := (rfl)
/-! `State.clrBits` -/
@[simp] theorem State.clrBits_pending (s : State) (a : Nat) (v : Word) : (s.clrBits a v).pending = s.pending := (rfl)
@[simp] theorem State.clrBits_act (s : State) (a : Nat) (v : Word) : (s.clrBits a v).act = s.act := (rfl)
@[simp] theorem State.clrBits_mem (s : State) (a : Nat) (v : Word) : (s.clrBits a v).mem = s.mem := (rfl)
@[simp] theorem State.clrBits_variantF (s : State) (a : Nat) (v : Word) : (s.clrBits a v).variantF = s.variantF := (rfl)
@[simp] theorem State.clrBits_events (s : State) (a : Nat) (v : Word) : (s.clrBits a v).events = s.events := (rfl)
@[simp] theorem State.clrBits_vectors (s : State) (a : Nat) (v : Word) : (s.clrBits a v).vectors = s.vectors := (rfl)
@[simp] theorem State.clrBits_freeCount (s : State) (a : Nat) (v : Word) : (s.clrBits a v).freeCount = s.freeCount := (rfl)
@[simp] theorem State.clrBits_time (s : State) (a : Nat) (v : Word) : (s.clrBits a v).time = s.time := (rfl)
@[simp] theorem State.clrBits_grids (s : State) (a : Nat) (v : Word) : (s.clrBits a v).grids = s.grids := (rfl)
@[simp] theorem State.clrBits_reqs (s : State) (a : Nat) (v : Word) : (s.clrBits a v).reqs = s.reqs := (rfl)
@[simp] theorem State.clrBits_ports (s : State) (a : Nat) (v : Word) : (s.clrBits a v).ports = s.ports := (rfl)
@[simp] theorem State.clrBits_latches (s : State) (a : Nat) (v : Word) : (s.clrBits a v).latches = s.latches := (rfl)
@[simp] theorem State.clrBits_compares (s : State) (a : Nat) (v : Word) : (s.clrBits a v).compares = s.compares := (rfl)
@[simp] theorem State.clrBits_rcs (s : State) (a : Nat) (v : Word) : (s.clrBits a v).rcs = s.rcs := (rfl)
@[simp] theorem State.clrBits_motion (s : State) (a : Nat) (v : Word) : (s.clrBits a v).motion = s.motion := (rfl)
@[simp] theorem State.clrBits_plans (s : State) (a : Nat) (v : Word) : (s.clrBits a v).plans = s.plans := (rfl)
@[simp] theorem State.clrBits_stops (s : State) (a : Nat) (v : Word) : (s.clrBits a v).stops = s.stops := (rfl)
@[simp] theorem State.clrBits_shafts (s : State) (a : Nat) (v : Word) : (s.clrBits a v).shafts = s.shafts := (rfl)
@[simp] theorem State.clrBits_cams (s : State) (a : Nat) (v : Word) : (s.clrBits a v).cams = s.cams := (rfl)
@[simp] theorem State.clrBits_inflight (s : State) (a : Nat) (v : Word) : (s.clrBits a v).inflight = s.inflight := (rfl)
@[simp] theorem State.clrBits_waits (s : State) (a : Nat) (v : Word) : (s.clrBits a v).waits = s.waits := (rfl)
@[simp] theorem State.clrBits_completions (s : State) (a : Nat) (v : Word) : (s.clrBits a v).completions = s.completions := (rfl)
@[simp] theorem State.clrBits_netAxes (s : State) (a : Nat) (v : Word) : (s.clrBits a v).netAxes = s.netAxes := (rfl)
@[simp] theorem State.clrBits_loops (s : State) (a : Nat) (v : Word) : (s.clrBits a v).loops = s.loops := (rfl)
@[simp] theorem State.clrBits_injs (s : State) (a : Nat) (v : Word) : (s.clrBits a v).injs = s.injs := (rfl)
@[simp] theorem State.clrBits_assign (s : State) (a : Nat) (v : Word) : (s.clrBits a v).assign = s.assign := (rfl)
@[simp] theorem State.clrBits_runQ (s : State) (a : Nat) (v : Word) : (s.clrBits a v).runQ = s.runQ := (rfl)
@[simp] theorem State.clrBits_pwms (s : State) (a : Nat) (v : Word) : (s.clrBits a v).pwms = s.pwms := (rfl)
@[simp] theorem State.clrBits_trips (s : State) (a : Nat) (v : Word) : (s.clrBits a v).trips = s.trips := (rfl)
@[simp] theorem State.clrBits_atcs (s : State) (a : Nat) (v : Word) : (s.clrBits a v).atcs = s.atcs := (rfl)
@[simp] theorem State.clrBits_sds (s : State) (a : Nat) (v : Word) : (s.clrBits a v).sds = s.sds := (rfl)
@[simp] theorem State.clrBits_cles (s : State) (a : Nat) (v : Word) : (s.clrBits a v).cles = s.cles := (rfl)
@[simp] theorem State.clrBits_rdata (s : State) (a : Nat) (v : Word) : (s.clrBits a v).rdata = s.rdata := (rfl)
@[simp] theorem State.clrBits_groom (s : State) (a : Nat) (v : Word) : (s.clrBits a v).groom = s.groom := (rfl)
@[simp] theorem State.clrBits_stalls (s : State) (a : Nat) (v : Word) : (s.clrBits a v).stalls = s.stalls := (rfl)
@[simp] theorem State.clrBits_agents (s : State) (a : Nat) (v : Word) : (s.clrBits a v).agents = s.agents := (rfl)
@[simp] theorem State.clrBits_xtime (s : State) (a : Nat) (v : Word) : (s.clrBits a v).xtime = s.xtime := (rfl)
@[simp] theorem State.clrBits_locks (s : State) (a : Nat) (v : Word) : (s.clrBits a v).locks = s.locks := (rfl)
@[simp] theorem State.clrBits_lockPtr (s : State) (a : Nat) (v : Word) : (s.clrBits a v).lockPtr = s.lockPtr := (rfl)
@[simp] theorem State.clrBits_lps (s : State) (a : Nat) (v : Word) : (s.clrBits a v).lps = s.lps := (rfl)
@[simp] theorem State.clrBits_nw (s : State) (a : Nat) (v : Word) : (s.clrBits a v).nw = s.nw := (rfl)
@[simp] theorem State.clrBits_safe (s : State) (a : Nat) (v : Word) : (s.clrBits a v).safe = s.safe := (rfl)
@[simp] theorem State.clrBits_rm (s : State) (a : Nat) (v : Word) : (s.clrBits a v).rm = s.rm := (rfl)
@[simp] theorem State.clrBits_tw (s : State) (a : Nat) (v : Word) : (s.clrBits a v).tw = s.tw := (rfl)
@[simp] theorem State.clrBits_sec (s : State) (a : Nat) (v : Word) : (s.clrBits a v).sec = s.sec := (rfl)
@[simp] theorem State.clrBits_io (s : State) (a : Nat) (v : Word) : (s.clrBits a v).io = s.io := (rfl)
@[simp] theorem State.clrBits_cans (s : State) (a : Nat) (v : Word) : (s.clrBits a v).cans = s.cans := (rfl)
@[simp] theorem State.clrBits_acq (s : State) (a : Nat) (v : Word) : (s.clrBits a v).acq = s.acq := (rfl)
@[simp] theorem State.clrBits_log (s : State) (a : Nat) (v : Word) : (s.clrBits a v).log = s.log := (rfl)
@[simp] theorem State.clrBits_host (s : State) (a : Nat) (v : Word) : (s.clrBits a v).host = s.host := (rfl)
@[simp] theorem State.clrBits_pw (s : State) (a : Nat) (v : Word) : (s.clrBits a v).pw = s.pw := (rfl)
@[simp] theorem State.clrBits_ard (s : State) (a : Nat) (v : Word) (j : Nat) : (s.clrBits a v).ard j = s.ard j := (rfl)
/-! `State.wr64` -/
@[simp] theorem State.wr64_pending (s : State) (a : Nat) (v : Word64) : (s.wr64 a v).pending = s.pending := (rfl)
@[simp] theorem State.wr64_act (s : State) (a : Nat) (v : Word64) : (s.wr64 a v).act = s.act := (rfl)
@[simp] theorem State.wr64_mem (s : State) (a : Nat) (v : Word64) : (s.wr64 a v).mem = s.mem := (rfl)
@[simp] theorem State.wr64_variantF (s : State) (a : Nat) (v : Word64) : (s.wr64 a v).variantF = s.variantF := (rfl)
@[simp] theorem State.wr64_events (s : State) (a : Nat) (v : Word64) : (s.wr64 a v).events = s.events := (rfl)
@[simp] theorem State.wr64_vectors (s : State) (a : Nat) (v : Word64) : (s.wr64 a v).vectors = s.vectors := (rfl)
@[simp] theorem State.wr64_freeCount (s : State) (a : Nat) (v : Word64) : (s.wr64 a v).freeCount = s.freeCount := (rfl)
@[simp] theorem State.wr64_time (s : State) (a : Nat) (v : Word64) : (s.wr64 a v).time = s.time := (rfl)
@[simp] theorem State.wr64_grids (s : State) (a : Nat) (v : Word64) : (s.wr64 a v).grids = s.grids := (rfl)
@[simp] theorem State.wr64_reqs (s : State) (a : Nat) (v : Word64) : (s.wr64 a v).reqs = s.reqs := (rfl)
@[simp] theorem State.wr64_ports (s : State) (a : Nat) (v : Word64) : (s.wr64 a v).ports = s.ports := (rfl)
@[simp] theorem State.wr64_latches (s : State) (a : Nat) (v : Word64) : (s.wr64 a v).latches = s.latches := (rfl)
@[simp] theorem State.wr64_compares (s : State) (a : Nat) (v : Word64) : (s.wr64 a v).compares = s.compares := (rfl)
@[simp] theorem State.wr64_rcs (s : State) (a : Nat) (v : Word64) : (s.wr64 a v).rcs = s.rcs := (rfl)
@[simp] theorem State.wr64_motion (s : State) (a : Nat) (v : Word64) : (s.wr64 a v).motion = s.motion := (rfl)
@[simp] theorem State.wr64_plans (s : State) (a : Nat) (v : Word64) : (s.wr64 a v).plans = s.plans := (rfl)
@[simp] theorem State.wr64_stops (s : State) (a : Nat) (v : Word64) : (s.wr64 a v).stops = s.stops := (rfl)
@[simp] theorem State.wr64_shafts (s : State) (a : Nat) (v : Word64) : (s.wr64 a v).shafts = s.shafts := (rfl)
@[simp] theorem State.wr64_cams (s : State) (a : Nat) (v : Word64) : (s.wr64 a v).cams = s.cams := (rfl)
@[simp] theorem State.wr64_inflight (s : State) (a : Nat) (v : Word64) : (s.wr64 a v).inflight = s.inflight := (rfl)
@[simp] theorem State.wr64_waits (s : State) (a : Nat) (v : Word64) : (s.wr64 a v).waits = s.waits := (rfl)
@[simp] theorem State.wr64_completions (s : State) (a : Nat) (v : Word64) : (s.wr64 a v).completions = s.completions := (rfl)
@[simp] theorem State.wr64_netAxes (s : State) (a : Nat) (v : Word64) : (s.wr64 a v).netAxes = s.netAxes := (rfl)
@[simp] theorem State.wr64_loops (s : State) (a : Nat) (v : Word64) : (s.wr64 a v).loops = s.loops := (rfl)
@[simp] theorem State.wr64_injs (s : State) (a : Nat) (v : Word64) : (s.wr64 a v).injs = s.injs := (rfl)
@[simp] theorem State.wr64_assign (s : State) (a : Nat) (v : Word64) : (s.wr64 a v).assign = s.assign := (rfl)
@[simp] theorem State.wr64_runQ (s : State) (a : Nat) (v : Word64) : (s.wr64 a v).runQ = s.runQ := (rfl)
@[simp] theorem State.wr64_pwms (s : State) (a : Nat) (v : Word64) : (s.wr64 a v).pwms = s.pwms := (rfl)
@[simp] theorem State.wr64_trips (s : State) (a : Nat) (v : Word64) : (s.wr64 a v).trips = s.trips := (rfl)
@[simp] theorem State.wr64_atcs (s : State) (a : Nat) (v : Word64) : (s.wr64 a v).atcs = s.atcs := (rfl)
@[simp] theorem State.wr64_sds (s : State) (a : Nat) (v : Word64) : (s.wr64 a v).sds = s.sds := (rfl)
@[simp] theorem State.wr64_cles (s : State) (a : Nat) (v : Word64) : (s.wr64 a v).cles = s.cles := (rfl)
@[simp] theorem State.wr64_rdata (s : State) (a : Nat) (v : Word64) : (s.wr64 a v).rdata = s.rdata := (rfl)
@[simp] theorem State.wr64_groom (s : State) (a : Nat) (v : Word64) : (s.wr64 a v).groom = s.groom := (rfl)
@[simp] theorem State.wr64_stalls (s : State) (a : Nat) (v : Word64) : (s.wr64 a v).stalls = s.stalls := (rfl)
@[simp] theorem State.wr64_agents (s : State) (a : Nat) (v : Word64) : (s.wr64 a v).agents = s.agents := (rfl)
@[simp] theorem State.wr64_xtime (s : State) (a : Nat) (v : Word64) : (s.wr64 a v).xtime = s.xtime := (rfl)
@[simp] theorem State.wr64_locks (s : State) (a : Nat) (v : Word64) : (s.wr64 a v).locks = s.locks := (rfl)
@[simp] theorem State.wr64_lockPtr (s : State) (a : Nat) (v : Word64) : (s.wr64 a v).lockPtr = s.lockPtr := (rfl)
@[simp] theorem State.wr64_lps (s : State) (a : Nat) (v : Word64) : (s.wr64 a v).lps = s.lps := (rfl)
@[simp] theorem State.wr64_nw (s : State) (a : Nat) (v : Word64) : (s.wr64 a v).nw = s.nw := (rfl)
@[simp] theorem State.wr64_safe (s : State) (a : Nat) (v : Word64) : (s.wr64 a v).safe = s.safe := (rfl)
@[simp] theorem State.wr64_rm (s : State) (a : Nat) (v : Word64) : (s.wr64 a v).rm = s.rm := (rfl)
@[simp] theorem State.wr64_tw (s : State) (a : Nat) (v : Word64) : (s.wr64 a v).tw = s.tw := (rfl)
@[simp] theorem State.wr64_sec (s : State) (a : Nat) (v : Word64) : (s.wr64 a v).sec = s.sec := (rfl)
@[simp] theorem State.wr64_io (s : State) (a : Nat) (v : Word64) : (s.wr64 a v).io = s.io := (rfl)
@[simp] theorem State.wr64_cans (s : State) (a : Nat) (v : Word64) : (s.wr64 a v).cans = s.cans := (rfl)
@[simp] theorem State.wr64_acq (s : State) (a : Nat) (v : Word64) : (s.wr64 a v).acq = s.acq := (rfl)
@[simp] theorem State.wr64_log (s : State) (a : Nat) (v : Word64) : (s.wr64 a v).log = s.log := (rfl)
@[simp] theorem State.wr64_host (s : State) (a : Nat) (v : Word64) : (s.wr64 a v).host = s.host := (rfl)
@[simp] theorem State.wr64_pw (s : State) (a : Nat) (v : Word64) : (s.wr64 a v).pw = s.pw := (rfl)
@[simp] theorem State.wr64_ard (s : State) (a : Nat) (v : Word64) (j : Nat) : (s.wr64 a v).ard j = s.ard j := (rfl)
/-! `State.wr64N` -/
@[simp] theorem State.wr64N_pending (s : State) (a v : Nat) : (s.wr64N a v).pending = s.pending := (rfl)
@[simp] theorem State.wr64N_act (s : State) (a v : Nat) : (s.wr64N a v).act = s.act := (rfl)
@[simp] theorem State.wr64N_mem (s : State) (a v : Nat) : (s.wr64N a v).mem = s.mem := (rfl)
@[simp] theorem State.wr64N_variantF (s : State) (a v : Nat) : (s.wr64N a v).variantF = s.variantF := (rfl)
@[simp] theorem State.wr64N_events (s : State) (a v : Nat) : (s.wr64N a v).events = s.events := (rfl)
@[simp] theorem State.wr64N_vectors (s : State) (a v : Nat) : (s.wr64N a v).vectors = s.vectors := (rfl)
@[simp] theorem State.wr64N_freeCount (s : State) (a v : Nat) : (s.wr64N a v).freeCount = s.freeCount := (rfl)
@[simp] theorem State.wr64N_time (s : State) (a v : Nat) : (s.wr64N a v).time = s.time := (rfl)
@[simp] theorem State.wr64N_grids (s : State) (a v : Nat) : (s.wr64N a v).grids = s.grids := (rfl)
@[simp] theorem State.wr64N_reqs (s : State) (a v : Nat) : (s.wr64N a v).reqs = s.reqs := (rfl)
@[simp] theorem State.wr64N_ports (s : State) (a v : Nat) : (s.wr64N a v).ports = s.ports := (rfl)
@[simp] theorem State.wr64N_latches (s : State) (a v : Nat) : (s.wr64N a v).latches = s.latches := (rfl)
@[simp] theorem State.wr64N_compares (s : State) (a v : Nat) : (s.wr64N a v).compares = s.compares := (rfl)
@[simp] theorem State.wr64N_rcs (s : State) (a v : Nat) : (s.wr64N a v).rcs = s.rcs := (rfl)
@[simp] theorem State.wr64N_motion (s : State) (a v : Nat) : (s.wr64N a v).motion = s.motion := (rfl)
@[simp] theorem State.wr64N_plans (s : State) (a v : Nat) : (s.wr64N a v).plans = s.plans := (rfl)
@[simp] theorem State.wr64N_stops (s : State) (a v : Nat) : (s.wr64N a v).stops = s.stops := (rfl)
@[simp] theorem State.wr64N_shafts (s : State) (a v : Nat) : (s.wr64N a v).shafts = s.shafts := (rfl)
@[simp] theorem State.wr64N_cams (s : State) (a v : Nat) : (s.wr64N a v).cams = s.cams := (rfl)
@[simp] theorem State.wr64N_inflight (s : State) (a v : Nat) : (s.wr64N a v).inflight = s.inflight := (rfl)
@[simp] theorem State.wr64N_waits (s : State) (a v : Nat) : (s.wr64N a v).waits = s.waits := (rfl)
@[simp] theorem State.wr64N_completions (s : State) (a v : Nat) : (s.wr64N a v).completions = s.completions := (rfl)
@[simp] theorem State.wr64N_netAxes (s : State) (a v : Nat) : (s.wr64N a v).netAxes = s.netAxes := (rfl)
@[simp] theorem State.wr64N_loops (s : State) (a v : Nat) : (s.wr64N a v).loops = s.loops := (rfl)
@[simp] theorem State.wr64N_injs (s : State) (a v : Nat) : (s.wr64N a v).injs = s.injs := (rfl)
@[simp] theorem State.wr64N_assign (s : State) (a v : Nat) : (s.wr64N a v).assign = s.assign := (rfl)
@[simp] theorem State.wr64N_runQ (s : State) (a v : Nat) : (s.wr64N a v).runQ = s.runQ := (rfl)
@[simp] theorem State.wr64N_pwms (s : State) (a v : Nat) : (s.wr64N a v).pwms = s.pwms := (rfl)
@[simp] theorem State.wr64N_trips (s : State) (a v : Nat) : (s.wr64N a v).trips = s.trips := (rfl)
@[simp] theorem State.wr64N_atcs (s : State) (a v : Nat) : (s.wr64N a v).atcs = s.atcs := (rfl)
@[simp] theorem State.wr64N_sds (s : State) (a v : Nat) : (s.wr64N a v).sds = s.sds := (rfl)
@[simp] theorem State.wr64N_cles (s : State) (a v : Nat) : (s.wr64N a v).cles = s.cles := (rfl)
@[simp] theorem State.wr64N_rdata (s : State) (a v : Nat) : (s.wr64N a v).rdata = s.rdata := (rfl)
@[simp] theorem State.wr64N_groom (s : State) (a v : Nat) : (s.wr64N a v).groom = s.groom := (rfl)
@[simp] theorem State.wr64N_stalls (s : State) (a v : Nat) : (s.wr64N a v).stalls = s.stalls := (rfl)
@[simp] theorem State.wr64N_agents (s : State) (a v : Nat) : (s.wr64N a v).agents = s.agents := (rfl)
@[simp] theorem State.wr64N_xtime (s : State) (a v : Nat) : (s.wr64N a v).xtime = s.xtime := (rfl)
@[simp] theorem State.wr64N_locks (s : State) (a v : Nat) : (s.wr64N a v).locks = s.locks := (rfl)
@[simp] theorem State.wr64N_lockPtr (s : State) (a v : Nat) : (s.wr64N a v).lockPtr = s.lockPtr := (rfl)
@[simp] theorem State.wr64N_lps (s : State) (a v : Nat) : (s.wr64N a v).lps = s.lps := (rfl)
@[simp] theorem State.wr64N_nw (s : State) (a v : Nat) : (s.wr64N a v).nw = s.nw := (rfl)
@[simp] theorem State.wr64N_safe (s : State) (a v : Nat) : (s.wr64N a v).safe = s.safe := (rfl)
@[simp] theorem State.wr64N_rm (s : State) (a v : Nat) : (s.wr64N a v).rm = s.rm := (rfl)
@[simp] theorem State.wr64N_tw (s : State) (a v : Nat) : (s.wr64N a v).tw = s.tw := (rfl)
@[simp] theorem State.wr64N_sec (s : State) (a v : Nat) : (s.wr64N a v).sec = s.sec := (rfl)
@[simp] theorem State.wr64N_io (s : State) (a v : Nat) : (s.wr64N a v).io = s.io := (rfl)
@[simp] theorem State.wr64N_cans (s : State) (a v : Nat) : (s.wr64N a v).cans = s.cans := (rfl)
@[simp] theorem State.wr64N_acq (s : State) (a v : Nat) : (s.wr64N a v).acq = s.acq := (rfl)
@[simp] theorem State.wr64N_log (s : State) (a v : Nat) : (s.wr64N a v).log = s.log := (rfl)
@[simp] theorem State.wr64N_host (s : State) (a v : Nat) : (s.wr64N a v).host = s.host := (rfl)
@[simp] theorem State.wr64N_pw (s : State) (a v : Nat) : (s.wr64N a v).pw = s.pw := (rfl)
@[simp] theorem State.wr64N_ard (s : State) (a v : Nat) (j : Nat) : (s.wr64N a v).ard j = s.ard j := (rfl)
/-! `State.wr64I` -/
@[simp] theorem State.wr64I_pending (s : State) (a : Nat) (v : Int) : (s.wr64I a v).pending = s.pending := (rfl)
@[simp] theorem State.wr64I_act (s : State) (a : Nat) (v : Int) : (s.wr64I a v).act = s.act := (rfl)
@[simp] theorem State.wr64I_mem (s : State) (a : Nat) (v : Int) : (s.wr64I a v).mem = s.mem := (rfl)
@[simp] theorem State.wr64I_variantF (s : State) (a : Nat) (v : Int) : (s.wr64I a v).variantF = s.variantF := (rfl)
@[simp] theorem State.wr64I_events (s : State) (a : Nat) (v : Int) : (s.wr64I a v).events = s.events := (rfl)
@[simp] theorem State.wr64I_vectors (s : State) (a : Nat) (v : Int) : (s.wr64I a v).vectors = s.vectors := (rfl)
@[simp] theorem State.wr64I_freeCount (s : State) (a : Nat) (v : Int) : (s.wr64I a v).freeCount = s.freeCount := (rfl)
@[simp] theorem State.wr64I_time (s : State) (a : Nat) (v : Int) : (s.wr64I a v).time = s.time := (rfl)
@[simp] theorem State.wr64I_grids (s : State) (a : Nat) (v : Int) : (s.wr64I a v).grids = s.grids := (rfl)
@[simp] theorem State.wr64I_reqs (s : State) (a : Nat) (v : Int) : (s.wr64I a v).reqs = s.reqs := (rfl)
@[simp] theorem State.wr64I_ports (s : State) (a : Nat) (v : Int) : (s.wr64I a v).ports = s.ports := (rfl)
@[simp] theorem State.wr64I_latches (s : State) (a : Nat) (v : Int) : (s.wr64I a v).latches = s.latches := (rfl)
@[simp] theorem State.wr64I_compares (s : State) (a : Nat) (v : Int) : (s.wr64I a v).compares = s.compares := (rfl)
@[simp] theorem State.wr64I_rcs (s : State) (a : Nat) (v : Int) : (s.wr64I a v).rcs = s.rcs := (rfl)
@[simp] theorem State.wr64I_motion (s : State) (a : Nat) (v : Int) : (s.wr64I a v).motion = s.motion := (rfl)
@[simp] theorem State.wr64I_plans (s : State) (a : Nat) (v : Int) : (s.wr64I a v).plans = s.plans := (rfl)
@[simp] theorem State.wr64I_stops (s : State) (a : Nat) (v : Int) : (s.wr64I a v).stops = s.stops := (rfl)
@[simp] theorem State.wr64I_shafts (s : State) (a : Nat) (v : Int) : (s.wr64I a v).shafts = s.shafts := (rfl)
@[simp] theorem State.wr64I_cams (s : State) (a : Nat) (v : Int) : (s.wr64I a v).cams = s.cams := (rfl)
@[simp] theorem State.wr64I_inflight (s : State) (a : Nat) (v : Int) : (s.wr64I a v).inflight = s.inflight := (rfl)
@[simp] theorem State.wr64I_waits (s : State) (a : Nat) (v : Int) : (s.wr64I a v).waits = s.waits := (rfl)
@[simp] theorem State.wr64I_completions (s : State) (a : Nat) (v : Int) : (s.wr64I a v).completions = s.completions := (rfl)
@[simp] theorem State.wr64I_netAxes (s : State) (a : Nat) (v : Int) : (s.wr64I a v).netAxes = s.netAxes := (rfl)
@[simp] theorem State.wr64I_loops (s : State) (a : Nat) (v : Int) : (s.wr64I a v).loops = s.loops := (rfl)
@[simp] theorem State.wr64I_injs (s : State) (a : Nat) (v : Int) : (s.wr64I a v).injs = s.injs := (rfl)
@[simp] theorem State.wr64I_assign (s : State) (a : Nat) (v : Int) : (s.wr64I a v).assign = s.assign := (rfl)
@[simp] theorem State.wr64I_runQ (s : State) (a : Nat) (v : Int) : (s.wr64I a v).runQ = s.runQ := (rfl)
@[simp] theorem State.wr64I_pwms (s : State) (a : Nat) (v : Int) : (s.wr64I a v).pwms = s.pwms := (rfl)
@[simp] theorem State.wr64I_trips (s : State) (a : Nat) (v : Int) : (s.wr64I a v).trips = s.trips := (rfl)
@[simp] theorem State.wr64I_atcs (s : State) (a : Nat) (v : Int) : (s.wr64I a v).atcs = s.atcs := (rfl)
@[simp] theorem State.wr64I_sds (s : State) (a : Nat) (v : Int) : (s.wr64I a v).sds = s.sds := (rfl)
@[simp] theorem State.wr64I_cles (s : State) (a : Nat) (v : Int) : (s.wr64I a v).cles = s.cles := (rfl)
@[simp] theorem State.wr64I_rdata (s : State) (a : Nat) (v : Int) : (s.wr64I a v).rdata = s.rdata := (rfl)
@[simp] theorem State.wr64I_groom (s : State) (a : Nat) (v : Int) : (s.wr64I a v).groom = s.groom := (rfl)
@[simp] theorem State.wr64I_stalls (s : State) (a : Nat) (v : Int) : (s.wr64I a v).stalls = s.stalls := (rfl)
@[simp] theorem State.wr64I_agents (s : State) (a : Nat) (v : Int) : (s.wr64I a v).agents = s.agents := (rfl)
@[simp] theorem State.wr64I_xtime (s : State) (a : Nat) (v : Int) : (s.wr64I a v).xtime = s.xtime := (rfl)
@[simp] theorem State.wr64I_locks (s : State) (a : Nat) (v : Int) : (s.wr64I a v).locks = s.locks := (rfl)
@[simp] theorem State.wr64I_lockPtr (s : State) (a : Nat) (v : Int) : (s.wr64I a v).lockPtr = s.lockPtr := (rfl)
@[simp] theorem State.wr64I_lps (s : State) (a : Nat) (v : Int) : (s.wr64I a v).lps = s.lps := (rfl)
@[simp] theorem State.wr64I_nw (s : State) (a : Nat) (v : Int) : (s.wr64I a v).nw = s.nw := (rfl)
@[simp] theorem State.wr64I_safe (s : State) (a : Nat) (v : Int) : (s.wr64I a v).safe = s.safe := (rfl)
@[simp] theorem State.wr64I_rm (s : State) (a : Nat) (v : Int) : (s.wr64I a v).rm = s.rm := (rfl)
@[simp] theorem State.wr64I_tw (s : State) (a : Nat) (v : Int) : (s.wr64I a v).tw = s.tw := (rfl)
@[simp] theorem State.wr64I_sec (s : State) (a : Nat) (v : Int) : (s.wr64I a v).sec = s.sec := (rfl)
@[simp] theorem State.wr64I_io (s : State) (a : Nat) (v : Int) : (s.wr64I a v).io = s.io := (rfl)
@[simp] theorem State.wr64I_cans (s : State) (a : Nat) (v : Int) : (s.wr64I a v).cans = s.cans := (rfl)
@[simp] theorem State.wr64I_acq (s : State) (a : Nat) (v : Int) : (s.wr64I a v).acq = s.acq := (rfl)
@[simp] theorem State.wr64I_log (s : State) (a : Nat) (v : Int) : (s.wr64I a v).log = s.log := (rfl)
@[simp] theorem State.wr64I_host (s : State) (a : Nat) (v : Int) : (s.wr64I a v).host = s.host := (rfl)
@[simp] theorem State.wr64I_pw (s : State) (a : Nat) (v : Int) : (s.wr64I a v).pw = s.pw := (rfl)
@[simp] theorem State.wr64I_ard (s : State) (a : Nat) (v : Int) (j : Nat) : (s.wr64I a v).ard j = s.ard j := (rfl)
/-! `State.badAcc` -/
@[simp] theorem State.badAcc_pending (s : State) (a : Nat) (b : Bool) : (s.badAcc a b).pending = s.pending := (rfl)
@[simp] theorem State.badAcc_act (s : State) (a : Nat) (b : Bool) : (s.badAcc a b).act = s.act := (rfl)
@[simp] theorem State.badAcc_mem (s : State) (a : Nat) (b : Bool) : (s.badAcc a b).mem = s.mem := (rfl)
@[simp] theorem State.badAcc_variantF (s : State) (a : Nat) (b : Bool) : (s.badAcc a b).variantF = s.variantF := (rfl)
@[simp] theorem State.badAcc_events (s : State) (a : Nat) (b : Bool) : (s.badAcc a b).events = s.events := (rfl)
@[simp] theorem State.badAcc_vectors (s : State) (a : Nat) (b : Bool) : (s.badAcc a b).vectors = s.vectors := (rfl)
@[simp] theorem State.badAcc_freeCount (s : State) (a : Nat) (b : Bool) : (s.badAcc a b).freeCount = s.freeCount := (rfl)
@[simp] theorem State.badAcc_time (s : State) (a : Nat) (b : Bool) : (s.badAcc a b).time = s.time := (rfl)
@[simp] theorem State.badAcc_grids (s : State) (a : Nat) (b : Bool) : (s.badAcc a b).grids = s.grids := (rfl)
@[simp] theorem State.badAcc_reqs (s : State) (a : Nat) (b : Bool) : (s.badAcc a b).reqs = s.reqs := (rfl)
@[simp] theorem State.badAcc_ports (s : State) (a : Nat) (b : Bool) : (s.badAcc a b).ports = s.ports := (rfl)
@[simp] theorem State.badAcc_latches (s : State) (a : Nat) (b : Bool) : (s.badAcc a b).latches = s.latches := (rfl)
@[simp] theorem State.badAcc_compares (s : State) (a : Nat) (b : Bool) : (s.badAcc a b).compares = s.compares := (rfl)
@[simp] theorem State.badAcc_rcs (s : State) (a : Nat) (b : Bool) : (s.badAcc a b).rcs = s.rcs := (rfl)
@[simp] theorem State.badAcc_motion (s : State) (a : Nat) (b : Bool) : (s.badAcc a b).motion = s.motion := (rfl)
@[simp] theorem State.badAcc_plans (s : State) (a : Nat) (b : Bool) : (s.badAcc a b).plans = s.plans := (rfl)
@[simp] theorem State.badAcc_stops (s : State) (a : Nat) (b : Bool) : (s.badAcc a b).stops = s.stops := (rfl)
@[simp] theorem State.badAcc_shafts (s : State) (a : Nat) (b : Bool) : (s.badAcc a b).shafts = s.shafts := (rfl)
@[simp] theorem State.badAcc_cams (s : State) (a : Nat) (b : Bool) : (s.badAcc a b).cams = s.cams := (rfl)
@[simp] theorem State.badAcc_inflight (s : State) (a : Nat) (b : Bool) : (s.badAcc a b).inflight = s.inflight := (rfl)
@[simp] theorem State.badAcc_waits (s : State) (a : Nat) (b : Bool) : (s.badAcc a b).waits = s.waits := (rfl)
@[simp] theorem State.badAcc_completions (s : State) (a : Nat) (b : Bool) : (s.badAcc a b).completions = s.completions := (rfl)
@[simp] theorem State.badAcc_netAxes (s : State) (a : Nat) (b : Bool) : (s.badAcc a b).netAxes = s.netAxes := (rfl)
@[simp] theorem State.badAcc_loops (s : State) (a : Nat) (b : Bool) : (s.badAcc a b).loops = s.loops := (rfl)
@[simp] theorem State.badAcc_injs (s : State) (a : Nat) (b : Bool) : (s.badAcc a b).injs = s.injs := (rfl)
@[simp] theorem State.badAcc_assign (s : State) (a : Nat) (b : Bool) : (s.badAcc a b).assign = s.assign := (rfl)
@[simp] theorem State.badAcc_runQ (s : State) (a : Nat) (b : Bool) : (s.badAcc a b).runQ = s.runQ := (rfl)
@[simp] theorem State.badAcc_pwms (s : State) (a : Nat) (b : Bool) : (s.badAcc a b).pwms = s.pwms := (rfl)
@[simp] theorem State.badAcc_trips (s : State) (a : Nat) (b : Bool) : (s.badAcc a b).trips = s.trips := (rfl)
@[simp] theorem State.badAcc_atcs (s : State) (a : Nat) (b : Bool) : (s.badAcc a b).atcs = s.atcs := (rfl)
@[simp] theorem State.badAcc_sds (s : State) (a : Nat) (b : Bool) : (s.badAcc a b).sds = s.sds := (rfl)
@[simp] theorem State.badAcc_cles (s : State) (a : Nat) (b : Bool) : (s.badAcc a b).cles = s.cles := (rfl)
@[simp] theorem State.badAcc_rdata (s : State) (a : Nat) (b : Bool) : (s.badAcc a b).rdata = s.rdata := (rfl)
@[simp] theorem State.badAcc_groom (s : State) (a : Nat) (b : Bool) : (s.badAcc a b).groom = s.groom := (rfl)
@[simp] theorem State.badAcc_stalls (s : State) (a : Nat) (b : Bool) : (s.badAcc a b).stalls = s.stalls := (rfl)
@[simp] theorem State.badAcc_agents (s : State) (a : Nat) (b : Bool) : (s.badAcc a b).agents = s.agents := (rfl)
@[simp] theorem State.badAcc_xtime (s : State) (a : Nat) (b : Bool) : (s.badAcc a b).xtime = s.xtime := (rfl)
@[simp] theorem State.badAcc_locks (s : State) (a : Nat) (b : Bool) : (s.badAcc a b).locks = s.locks := (rfl)
@[simp] theorem State.badAcc_lockPtr (s : State) (a : Nat) (b : Bool) : (s.badAcc a b).lockPtr = s.lockPtr := (rfl)
@[simp] theorem State.badAcc_lps (s : State) (a : Nat) (b : Bool) : (s.badAcc a b).lps = s.lps := (rfl)
@[simp] theorem State.badAcc_nw (s : State) (a : Nat) (b : Bool) : (s.badAcc a b).nw = s.nw := (rfl)
@[simp] theorem State.badAcc_safe (s : State) (a : Nat) (b : Bool) : (s.badAcc a b).safe = s.safe := (rfl)
@[simp] theorem State.badAcc_rm (s : State) (a : Nat) (b : Bool) : (s.badAcc a b).rm = s.rm := (rfl)
@[simp] theorem State.badAcc_tw (s : State) (a : Nat) (b : Bool) : (s.badAcc a b).tw = s.tw := (rfl)
@[simp] theorem State.badAcc_sec (s : State) (a : Nat) (b : Bool) : (s.badAcc a b).sec = s.sec := (rfl)
@[simp] theorem State.badAcc_io (s : State) (a : Nat) (b : Bool) : (s.badAcc a b).io = s.io := (rfl)
@[simp] theorem State.badAcc_cans (s : State) (a : Nat) (b : Bool) : (s.badAcc a b).cans = s.cans := (rfl)
@[simp] theorem State.badAcc_acq (s : State) (a : Nat) (b : Bool) : (s.badAcc a b).acq = s.acq := (rfl)
@[simp] theorem State.badAcc_log (s : State) (a : Nat) (b : Bool) : (s.badAcc a b).log = s.log := (rfl)
@[simp] theorem State.badAcc_host (s : State) (a : Nat) (b : Bool) : (s.badAcc a b).host = s.host := (rfl)
@[simp] theorem State.badAcc_pw (s : State) (a : Nat) (b : Bool) : (s.badAcc a b).pw = s.pw := (rfl)
@[simp] theorem State.badAcc_ard (s : State) (a : Nat) (b : Bool) (j : Nat) : (s.badAcc a b).ard j = s.ard j := (rfl)
/-! `State.awr` -/
@[simp] theorem State.awr_pending (s : State) (a : Nat) (v : Word) : (s.awr a v).pending = s.pending := (rfl)
@[simp] theorem State.awr_regs (s : State) (a : Nat) (v : Word) : (s.awr a v).regs = s.regs := (rfl)
@[simp] theorem State.awr_act (s : State) (a : Nat) (v : Word) : (s.awr a v).act = spSet regReset s.act a v := (rfl)
@[simp] theorem State.awr_mem (s : State) (a : Nat) (v : Word) : (s.awr a v).mem = s.mem := (rfl)
@[simp] theorem State.awr_variantF (s : State) (a : Nat) (v : Word) : (s.awr a v).variantF = s.variantF := (rfl)
@[simp] theorem State.awr_events (s : State) (a : Nat) (v : Word) : (s.awr a v).events = s.events := (rfl)
@[simp] theorem State.awr_vectors (s : State) (a : Nat) (v : Word) : (s.awr a v).vectors = s.vectors := (rfl)
@[simp] theorem State.awr_freeCount (s : State) (a : Nat) (v : Word) : (s.awr a v).freeCount = s.freeCount := (rfl)
@[simp] theorem State.awr_time (s : State) (a : Nat) (v : Word) : (s.awr a v).time = s.time := (rfl)
@[simp] theorem State.awr_grids (s : State) (a : Nat) (v : Word) : (s.awr a v).grids = s.grids := (rfl)
@[simp] theorem State.awr_reqs (s : State) (a : Nat) (v : Word) : (s.awr a v).reqs = s.reqs := (rfl)
@[simp] theorem State.awr_ports (s : State) (a : Nat) (v : Word) : (s.awr a v).ports = s.ports := (rfl)
@[simp] theorem State.awr_latches (s : State) (a : Nat) (v : Word) : (s.awr a v).latches = s.latches := (rfl)
@[simp] theorem State.awr_compares (s : State) (a : Nat) (v : Word) : (s.awr a v).compares = s.compares := (rfl)
@[simp] theorem State.awr_rcs (s : State) (a : Nat) (v : Word) : (s.awr a v).rcs = s.rcs := (rfl)
@[simp] theorem State.awr_motion (s : State) (a : Nat) (v : Word) : (s.awr a v).motion = s.motion := (rfl)
@[simp] theorem State.awr_plans (s : State) (a : Nat) (v : Word) : (s.awr a v).plans = s.plans := (rfl)
@[simp] theorem State.awr_stops (s : State) (a : Nat) (v : Word) : (s.awr a v).stops = s.stops := (rfl)
@[simp] theorem State.awr_shafts (s : State) (a : Nat) (v : Word) : (s.awr a v).shafts = s.shafts := (rfl)
@[simp] theorem State.awr_cams (s : State) (a : Nat) (v : Word) : (s.awr a v).cams = s.cams := (rfl)
@[simp] theorem State.awr_inflight (s : State) (a : Nat) (v : Word) : (s.awr a v).inflight = s.inflight := (rfl)
@[simp] theorem State.awr_waits (s : State) (a : Nat) (v : Word) : (s.awr a v).waits = s.waits := (rfl)
@[simp] theorem State.awr_completions (s : State) (a : Nat) (v : Word) : (s.awr a v).completions = s.completions := (rfl)
@[simp] theorem State.awr_netAxes (s : State) (a : Nat) (v : Word) : (s.awr a v).netAxes = s.netAxes := (rfl)
@[simp] theorem State.awr_loops (s : State) (a : Nat) (v : Word) : (s.awr a v).loops = s.loops := (rfl)
@[simp] theorem State.awr_injs (s : State) (a : Nat) (v : Word) : (s.awr a v).injs = s.injs := (rfl)
@[simp] theorem State.awr_assign (s : State) (a : Nat) (v : Word) : (s.awr a v).assign = s.assign := (rfl)
@[simp] theorem State.awr_runQ (s : State) (a : Nat) (v : Word) : (s.awr a v).runQ = s.runQ := (rfl)
@[simp] theorem State.awr_pwms (s : State) (a : Nat) (v : Word) : (s.awr a v).pwms = s.pwms := (rfl)
@[simp] theorem State.awr_trips (s : State) (a : Nat) (v : Word) : (s.awr a v).trips = s.trips := (rfl)
@[simp] theorem State.awr_atcs (s : State) (a : Nat) (v : Word) : (s.awr a v).atcs = s.atcs := (rfl)
@[simp] theorem State.awr_sds (s : State) (a : Nat) (v : Word) : (s.awr a v).sds = s.sds := (rfl)
@[simp] theorem State.awr_cles (s : State) (a : Nat) (v : Word) : (s.awr a v).cles = s.cles := (rfl)
@[simp] theorem State.awr_rdata (s : State) (a : Nat) (v : Word) : (s.awr a v).rdata = s.rdata := (rfl)
@[simp] theorem State.awr_groom (s : State) (a : Nat) (v : Word) : (s.awr a v).groom = s.groom := (rfl)
@[simp] theorem State.awr_stalls (s : State) (a : Nat) (v : Word) : (s.awr a v).stalls = s.stalls := (rfl)
@[simp] theorem State.awr_agents (s : State) (a : Nat) (v : Word) : (s.awr a v).agents = s.agents := (rfl)
@[simp] theorem State.awr_xtime (s : State) (a : Nat) (v : Word) : (s.awr a v).xtime = s.xtime := (rfl)
@[simp] theorem State.awr_locks (s : State) (a : Nat) (v : Word) : (s.awr a v).locks = s.locks := (rfl)
@[simp] theorem State.awr_lockPtr (s : State) (a : Nat) (v : Word) : (s.awr a v).lockPtr = s.lockPtr := (rfl)
@[simp] theorem State.awr_lps (s : State) (a : Nat) (v : Word) : (s.awr a v).lps = s.lps := (rfl)
@[simp] theorem State.awr_nw (s : State) (a : Nat) (v : Word) : (s.awr a v).nw = s.nw := (rfl)
@[simp] theorem State.awr_safe (s : State) (a : Nat) (v : Word) : (s.awr a v).safe = s.safe := (rfl)
@[simp] theorem State.awr_rm (s : State) (a : Nat) (v : Word) : (s.awr a v).rm = s.rm := (rfl)
@[simp] theorem State.awr_tw (s : State) (a : Nat) (v : Word) : (s.awr a v).tw = s.tw := (rfl)
@[simp] theorem State.awr_sec (s : State) (a : Nat) (v : Word) : (s.awr a v).sec = s.sec := (rfl)
@[simp] theorem State.awr_io (s : State) (a : Nat) (v : Word) : (s.awr a v).io = s.io := (rfl)
@[simp] theorem State.awr_cans (s : State) (a : Nat) (v : Word) : (s.awr a v).cans = s.cans := (rfl)
@[simp] theorem State.awr_acq (s : State) (a : Nat) (v : Word) : (s.awr a v).acq = s.acq := (rfl)
@[simp] theorem State.awr_log (s : State) (a : Nat) (v : Word) : (s.awr a v).log = s.log := (rfl)
@[simp] theorem State.awr_host (s : State) (a : Nat) (v : Word) : (s.awr a v).host = s.host := (rfl)
@[simp] theorem State.awr_pw (s : State) (a : Nat) (v : Word) : (s.awr a v).pw = s.pw := (rfl)
@[simp] theorem State.awr_rd (s : State) (a : Nat) (v : Word) (j : Nat) : (s.awr a v).rd j = s.rd j := (rfl)
/-! `State.commit` -/
@[simp] theorem State.commit_pending (s : State) (a : Nat) : (s.commit a).pending = s.pending := (rfl)
@[simp] theorem State.commit_regs (s : State) (a : Nat) : (s.commit a).regs = s.regs := (rfl)
@[simp] theorem State.commit_act (s : State) (a : Nat) : (s.commit a).act = spSet regReset s.act a (s.rd a) := (rfl)
@[simp] theorem State.commit_mem (s : State) (a : Nat) : (s.commit a).mem = s.mem := (rfl)
@[simp] theorem State.commit_variantF (s : State) (a : Nat) : (s.commit a).variantF = s.variantF := (rfl)
@[simp] theorem State.commit_events (s : State) (a : Nat) : (s.commit a).events = s.events := (rfl)
@[simp] theorem State.commit_vectors (s : State) (a : Nat) : (s.commit a).vectors = s.vectors := (rfl)
@[simp] theorem State.commit_freeCount (s : State) (a : Nat) : (s.commit a).freeCount = s.freeCount := (rfl)
@[simp] theorem State.commit_time (s : State) (a : Nat) : (s.commit a).time = s.time := (rfl)
@[simp] theorem State.commit_grids (s : State) (a : Nat) : (s.commit a).grids = s.grids := (rfl)
@[simp] theorem State.commit_reqs (s : State) (a : Nat) : (s.commit a).reqs = s.reqs := (rfl)
@[simp] theorem State.commit_ports (s : State) (a : Nat) : (s.commit a).ports = s.ports := (rfl)
@[simp] theorem State.commit_latches (s : State) (a : Nat) : (s.commit a).latches = s.latches := (rfl)
@[simp] theorem State.commit_compares (s : State) (a : Nat) : (s.commit a).compares = s.compares := (rfl)
@[simp] theorem State.commit_rcs (s : State) (a : Nat) : (s.commit a).rcs = s.rcs := (rfl)
@[simp] theorem State.commit_motion (s : State) (a : Nat) : (s.commit a).motion = s.motion := (rfl)
@[simp] theorem State.commit_plans (s : State) (a : Nat) : (s.commit a).plans = s.plans := (rfl)
@[simp] theorem State.commit_stops (s : State) (a : Nat) : (s.commit a).stops = s.stops := (rfl)
@[simp] theorem State.commit_shafts (s : State) (a : Nat) : (s.commit a).shafts = s.shafts := (rfl)
@[simp] theorem State.commit_cams (s : State) (a : Nat) : (s.commit a).cams = s.cams := (rfl)
@[simp] theorem State.commit_inflight (s : State) (a : Nat) : (s.commit a).inflight = s.inflight := (rfl)
@[simp] theorem State.commit_waits (s : State) (a : Nat) : (s.commit a).waits = s.waits := (rfl)
@[simp] theorem State.commit_completions (s : State) (a : Nat) : (s.commit a).completions = s.completions := (rfl)
@[simp] theorem State.commit_netAxes (s : State) (a : Nat) : (s.commit a).netAxes = s.netAxes := (rfl)
@[simp] theorem State.commit_loops (s : State) (a : Nat) : (s.commit a).loops = s.loops := (rfl)
@[simp] theorem State.commit_injs (s : State) (a : Nat) : (s.commit a).injs = s.injs := (rfl)
@[simp] theorem State.commit_assign (s : State) (a : Nat) : (s.commit a).assign = s.assign := (rfl)
@[simp] theorem State.commit_runQ (s : State) (a : Nat) : (s.commit a).runQ = s.runQ := (rfl)
@[simp] theorem State.commit_pwms (s : State) (a : Nat) : (s.commit a).pwms = s.pwms := (rfl)
@[simp] theorem State.commit_trips (s : State) (a : Nat) : (s.commit a).trips = s.trips := (rfl)
@[simp] theorem State.commit_atcs (s : State) (a : Nat) : (s.commit a).atcs = s.atcs := (rfl)
@[simp] theorem State.commit_sds (s : State) (a : Nat) : (s.commit a).sds = s.sds := (rfl)
@[simp] theorem State.commit_cles (s : State) (a : Nat) : (s.commit a).cles = s.cles := (rfl)
@[simp] theorem State.commit_rdata (s : State) (a : Nat) : (s.commit a).rdata = s.rdata := (rfl)
@[simp] theorem State.commit_groom (s : State) (a : Nat) : (s.commit a).groom = s.groom := (rfl)
@[simp] theorem State.commit_stalls (s : State) (a : Nat) : (s.commit a).stalls = s.stalls := (rfl)
@[simp] theorem State.commit_agents (s : State) (a : Nat) : (s.commit a).agents = s.agents := (rfl)
@[simp] theorem State.commit_xtime (s : State) (a : Nat) : (s.commit a).xtime = s.xtime := (rfl)
@[simp] theorem State.commit_locks (s : State) (a : Nat) : (s.commit a).locks = s.locks := (rfl)
@[simp] theorem State.commit_lockPtr (s : State) (a : Nat) : (s.commit a).lockPtr = s.lockPtr := (rfl)
@[simp] theorem State.commit_lps (s : State) (a : Nat) : (s.commit a).lps = s.lps := (rfl)
@[simp] theorem State.commit_nw (s : State) (a : Nat) : (s.commit a).nw = s.nw := (rfl)
@[simp] theorem State.commit_safe (s : State) (a : Nat) : (s.commit a).safe = s.safe := (rfl)
@[simp] theorem State.commit_rm (s : State) (a : Nat) : (s.commit a).rm = s.rm := (rfl)
@[simp] theorem State.commit_tw (s : State) (a : Nat) : (s.commit a).tw = s.tw := (rfl)
@[simp] theorem State.commit_sec (s : State) (a : Nat) : (s.commit a).sec = s.sec := (rfl)
@[simp] theorem State.commit_io (s : State) (a : Nat) : (s.commit a).io = s.io := (rfl)
@[simp] theorem State.commit_cans (s : State) (a : Nat) : (s.commit a).cans = s.cans := (rfl)
@[simp] theorem State.commit_acq (s : State) (a : Nat) : (s.commit a).acq = s.acq := (rfl)
@[simp] theorem State.commit_log (s : State) (a : Nat) : (s.commit a).log = s.log := (rfl)
@[simp] theorem State.commit_host (s : State) (a : Nat) : (s.commit a).host = s.host := (rfl)
@[simp] theorem State.commit_pw (s : State) (a : Nat) : (s.commit a).pw = s.pw := (rfl)
@[simp] theorem State.commit_rd (s : State) (a : Nat) (j : Nat) : (s.commit a).rd j = s.rd j := (rfl)
/-! `State.event` -/
@[simp] theorem State.event_pending (s : State) (k : EventKind) (u : Nat) (v : Int) : (s.event k u v).pending = s.pending := (rfl)
@[simp] theorem State.event_regs (s : State) (k : EventKind) (u : Nat) (v : Int) : (s.event k u v).regs = s.regs := (rfl)
@[simp] theorem State.event_act (s : State) (k : EventKind) (u : Nat) (v : Int) : (s.event k u v).act = s.act := (rfl)
@[simp] theorem State.event_mem (s : State) (k : EventKind) (u : Nat) (v : Int) : (s.event k u v).mem = s.mem := (rfl)
@[simp] theorem State.event_variantF (s : State) (k : EventKind) (u : Nat) (v : Int) : (s.event k u v).variantF = s.variantF := (rfl)
@[simp] theorem State.event_events (s : State) (k : EventKind) (u : Nat) (v : Int) : (s.event k u v).events = s.events ++ [⟨k, u, v, s.time.mt⟩] := (rfl)
@[simp] theorem State.event_vectors (s : State) (k : EventKind) (u : Nat) (v : Int) : (s.event k u v).vectors = s.vectors := (rfl)
@[simp] theorem State.event_freeCount (s : State) (k : EventKind) (u : Nat) (v : Int) : (s.event k u v).freeCount = s.freeCount := (rfl)
@[simp] theorem State.event_time (s : State) (k : EventKind) (u : Nat) (v : Int) : (s.event k u v).time = s.time := (rfl)
@[simp] theorem State.event_grids (s : State) (k : EventKind) (u : Nat) (v : Int) : (s.event k u v).grids = s.grids := (rfl)
@[simp] theorem State.event_reqs (s : State) (k : EventKind) (u : Nat) (v : Int) : (s.event k u v).reqs = s.reqs := (rfl)
@[simp] theorem State.event_ports (s : State) (k : EventKind) (u : Nat) (v : Int) : (s.event k u v).ports = s.ports := (rfl)
@[simp] theorem State.event_latches (s : State) (k : EventKind) (u : Nat) (v : Int) : (s.event k u v).latches = s.latches := (rfl)
@[simp] theorem State.event_compares (s : State) (k : EventKind) (u : Nat) (v : Int) : (s.event k u v).compares = s.compares := (rfl)
@[simp] theorem State.event_rcs (s : State) (k : EventKind) (u : Nat) (v : Int) : (s.event k u v).rcs = s.rcs := (rfl)
@[simp] theorem State.event_motion (s : State) (k : EventKind) (u : Nat) (v : Int) : (s.event k u v).motion = s.motion := (rfl)
@[simp] theorem State.event_plans (s : State) (k : EventKind) (u : Nat) (v : Int) : (s.event k u v).plans = s.plans := (rfl)
@[simp] theorem State.event_stops (s : State) (k : EventKind) (u : Nat) (v : Int) : (s.event k u v).stops = s.stops := (rfl)
@[simp] theorem State.event_shafts (s : State) (k : EventKind) (u : Nat) (v : Int) : (s.event k u v).shafts = s.shafts := (rfl)
@[simp] theorem State.event_cams (s : State) (k : EventKind) (u : Nat) (v : Int) : (s.event k u v).cams = s.cams := (rfl)
@[simp] theorem State.event_inflight (s : State) (k : EventKind) (u : Nat) (v : Int) : (s.event k u v).inflight = s.inflight := (rfl)
@[simp] theorem State.event_waits (s : State) (k : EventKind) (u : Nat) (v : Int) : (s.event k u v).waits = s.waits := (rfl)
@[simp] theorem State.event_completions (s : State) (k : EventKind) (u : Nat) (v : Int) : (s.event k u v).completions = s.completions := (rfl)
@[simp] theorem State.event_netAxes (s : State) (k : EventKind) (u : Nat) (v : Int) : (s.event k u v).netAxes = s.netAxes := (rfl)
@[simp] theorem State.event_loops (s : State) (k : EventKind) (u : Nat) (v : Int) : (s.event k u v).loops = s.loops := (rfl)
@[simp] theorem State.event_injs (s : State) (k : EventKind) (u : Nat) (v : Int) : (s.event k u v).injs = s.injs := (rfl)
@[simp] theorem State.event_assign (s : State) (k : EventKind) (u : Nat) (v : Int) : (s.event k u v).assign = s.assign := (rfl)
@[simp] theorem State.event_runQ (s : State) (k : EventKind) (u : Nat) (v : Int) : (s.event k u v).runQ = s.runQ := (rfl)
@[simp] theorem State.event_pwms (s : State) (k : EventKind) (u : Nat) (v : Int) : (s.event k u v).pwms = s.pwms := (rfl)
@[simp] theorem State.event_trips (s : State) (k : EventKind) (u : Nat) (v : Int) : (s.event k u v).trips = s.trips := (rfl)
@[simp] theorem State.event_atcs (s : State) (k : EventKind) (u : Nat) (v : Int) : (s.event k u v).atcs = s.atcs := (rfl)
@[simp] theorem State.event_sds (s : State) (k : EventKind) (u : Nat) (v : Int) : (s.event k u v).sds = s.sds := (rfl)
@[simp] theorem State.event_cles (s : State) (k : EventKind) (u : Nat) (v : Int) : (s.event k u v).cles = s.cles := (rfl)
@[simp] theorem State.event_rdata (s : State) (k : EventKind) (u : Nat) (v : Int) : (s.event k u v).rdata = s.rdata := (rfl)
@[simp] theorem State.event_groom (s : State) (k : EventKind) (u : Nat) (v : Int) : (s.event k u v).groom = s.groom := (rfl)
@[simp] theorem State.event_stalls (s : State) (k : EventKind) (u : Nat) (v : Int) : (s.event k u v).stalls = s.stalls := (rfl)
@[simp] theorem State.event_agents (s : State) (k : EventKind) (u : Nat) (v : Int) : (s.event k u v).agents = s.agents := (rfl)
@[simp] theorem State.event_xtime (s : State) (k : EventKind) (u : Nat) (v : Int) : (s.event k u v).xtime = s.xtime := (rfl)
@[simp] theorem State.event_locks (s : State) (k : EventKind) (u : Nat) (v : Int) : (s.event k u v).locks = s.locks := (rfl)
@[simp] theorem State.event_lockPtr (s : State) (k : EventKind) (u : Nat) (v : Int) : (s.event k u v).lockPtr = s.lockPtr := (rfl)
@[simp] theorem State.event_lps (s : State) (k : EventKind) (u : Nat) (v : Int) : (s.event k u v).lps = s.lps := (rfl)
@[simp] theorem State.event_nw (s : State) (k : EventKind) (u : Nat) (v : Int) : (s.event k u v).nw = s.nw := (rfl)
@[simp] theorem State.event_safe (s : State) (k : EventKind) (u : Nat) (v : Int) : (s.event k u v).safe = s.safe := (rfl)
@[simp] theorem State.event_rm (s : State) (k : EventKind) (u : Nat) (v : Int) : (s.event k u v).rm = s.rm := (rfl)
@[simp] theorem State.event_tw (s : State) (k : EventKind) (u : Nat) (v : Int) : (s.event k u v).tw = s.tw := (rfl)
@[simp] theorem State.event_sec (s : State) (k : EventKind) (u : Nat) (v : Int) : (s.event k u v).sec = s.sec := (rfl)
@[simp] theorem State.event_io (s : State) (k : EventKind) (u : Nat) (v : Int) : (s.event k u v).io = s.io := (rfl)
@[simp] theorem State.event_cans (s : State) (k : EventKind) (u : Nat) (v : Int) : (s.event k u v).cans = s.cans := (rfl)
@[simp] theorem State.event_acq (s : State) (k : EventKind) (u : Nat) (v : Int) : (s.event k u v).acq = s.acq := (rfl)
@[simp] theorem State.event_log (s : State) (k : EventKind) (u : Nat) (v : Int) : (s.event k u v).log = s.log := (rfl)
@[simp] theorem State.event_host (s : State) (k : EventKind) (u : Nat) (v : Int) : (s.event k u v).host = s.host := (rfl)
@[simp] theorem State.event_pw (s : State) (k : EventKind) (u : Nat) (v : Int) : (s.event k u v).pw = s.pw := (rfl)
@[simp] theorem State.event_rd (s : State) (k : EventKind) (u : Nat) (v : Int) (j : Nat) : (s.event k u v).rd j = s.rd j := (rfl)
@[simp] theorem State.event_canonical (s : State) (k : EventKind) (u : Nat) (v : Int) : (s.event k u v).canonical = s.canonical := (rfl)
@[simp] theorem State.event_ard (s : State) (k : EventKind) (u : Nat) (v : Int) (j : Nat) : (s.event k u v).ard j = s.ard j := (rfl)
/-! `State.await` -/
@[simp] theorem State.await_pending (s : State) (tag : Nat) (k : WaitKind) (u : Nat) : (s.await tag k u).pending = s.pending := (rfl)
@[simp] theorem State.await_regs (s : State) (tag : Nat) (k : WaitKind) (u : Nat) : (s.await tag k u).regs = s.regs := (rfl)
@[simp] theorem State.await_act (s : State) (tag : Nat) (k : WaitKind) (u : Nat) : (s.await tag k u).act = s.act := (rfl)
@[simp] theorem State.await_mem (s : State) (tag : Nat) (k : WaitKind) (u : Nat) : (s.await tag k u).mem = s.mem := (rfl)
@[simp] theorem State.await_variantF (s : State) (tag : Nat) (k : WaitKind) (u : Nat) : (s.await tag k u).variantF = s.variantF := (rfl)
@[simp] theorem State.await_events (s : State) (tag : Nat) (k : WaitKind) (u : Nat) : (s.await tag k u).events = s.events := (rfl)
@[simp] theorem State.await_vectors (s : State) (tag : Nat) (k : WaitKind) (u : Nat) : (s.await tag k u).vectors = s.vectors := (rfl)
@[simp] theorem State.await_freeCount (s : State) (tag : Nat) (k : WaitKind) (u : Nat) : (s.await tag k u).freeCount = s.freeCount := (rfl)
@[simp] theorem State.await_time (s : State) (tag : Nat) (k : WaitKind) (u : Nat) : (s.await tag k u).time = s.time := (rfl)
@[simp] theorem State.await_grids (s : State) (tag : Nat) (k : WaitKind) (u : Nat) : (s.await tag k u).grids = s.grids := (rfl)
@[simp] theorem State.await_reqs (s : State) (tag : Nat) (k : WaitKind) (u : Nat) : (s.await tag k u).reqs = s.reqs := (rfl)
@[simp] theorem State.await_ports (s : State) (tag : Nat) (k : WaitKind) (u : Nat) : (s.await tag k u).ports = s.ports := (rfl)
@[simp] theorem State.await_latches (s : State) (tag : Nat) (k : WaitKind) (u : Nat) : (s.await tag k u).latches = s.latches := (rfl)
@[simp] theorem State.await_compares (s : State) (tag : Nat) (k : WaitKind) (u : Nat) : (s.await tag k u).compares = s.compares := (rfl)
@[simp] theorem State.await_rcs (s : State) (tag : Nat) (k : WaitKind) (u : Nat) : (s.await tag k u).rcs = s.rcs := (rfl)
@[simp] theorem State.await_motion (s : State) (tag : Nat) (k : WaitKind) (u : Nat) : (s.await tag k u).motion = s.motion := (rfl)
@[simp] theorem State.await_plans (s : State) (tag : Nat) (k : WaitKind) (u : Nat) : (s.await tag k u).plans = s.plans := (rfl)
@[simp] theorem State.await_stops (s : State) (tag : Nat) (k : WaitKind) (u : Nat) : (s.await tag k u).stops = s.stops := (rfl)
@[simp] theorem State.await_shafts (s : State) (tag : Nat) (k : WaitKind) (u : Nat) : (s.await tag k u).shafts = s.shafts := (rfl)
@[simp] theorem State.await_cams (s : State) (tag : Nat) (k : WaitKind) (u : Nat) : (s.await tag k u).cams = s.cams := (rfl)
@[simp] theorem State.await_inflight (s : State) (tag : Nat) (k : WaitKind) (u : Nat) : (s.await tag k u).inflight = s.inflight := (rfl)
@[simp] theorem State.await_waits (s : State) (tag : Nat) (k : WaitKind) (u : Nat) : (s.await tag k u).waits = s.waits ++ [⟨tag, k, u⟩] := (rfl)
@[simp] theorem State.await_completions (s : State) (tag : Nat) (k : WaitKind) (u : Nat) : (s.await tag k u).completions = s.completions := (rfl)
@[simp] theorem State.await_netAxes (s : State) (tag : Nat) (k : WaitKind) (u : Nat) : (s.await tag k u).netAxes = s.netAxes := (rfl)
@[simp] theorem State.await_loops (s : State) (tag : Nat) (k : WaitKind) (u : Nat) : (s.await tag k u).loops = s.loops := (rfl)
@[simp] theorem State.await_injs (s : State) (tag : Nat) (k : WaitKind) (u : Nat) : (s.await tag k u).injs = s.injs := (rfl)
@[simp] theorem State.await_assign (s : State) (tag : Nat) (k : WaitKind) (u : Nat) : (s.await tag k u).assign = s.assign := (rfl)
@[simp] theorem State.await_runQ (s : State) (tag : Nat) (k : WaitKind) (u : Nat) : (s.await tag k u).runQ = s.runQ := (rfl)
@[simp] theorem State.await_pwms (s : State) (tag : Nat) (k : WaitKind) (u : Nat) : (s.await tag k u).pwms = s.pwms := (rfl)
@[simp] theorem State.await_trips (s : State) (tag : Nat) (k : WaitKind) (u : Nat) : (s.await tag k u).trips = s.trips := (rfl)
@[simp] theorem State.await_atcs (s : State) (tag : Nat) (k : WaitKind) (u : Nat) : (s.await tag k u).atcs = s.atcs := (rfl)
@[simp] theorem State.await_sds (s : State) (tag : Nat) (k : WaitKind) (u : Nat) : (s.await tag k u).sds = s.sds := (rfl)
@[simp] theorem State.await_cles (s : State) (tag : Nat) (k : WaitKind) (u : Nat) : (s.await tag k u).cles = s.cles := (rfl)
@[simp] theorem State.await_rdata (s : State) (tag : Nat) (k : WaitKind) (u : Nat) : (s.await tag k u).rdata = s.rdata := (rfl)
@[simp] theorem State.await_groom (s : State) (tag : Nat) (k : WaitKind) (u : Nat) : (s.await tag k u).groom = s.groom := (rfl)
@[simp] theorem State.await_stalls (s : State) (tag : Nat) (k : WaitKind) (u : Nat) : (s.await tag k u).stalls = s.stalls := (rfl)
@[simp] theorem State.await_agents (s : State) (tag : Nat) (k : WaitKind) (u : Nat) : (s.await tag k u).agents = s.agents := (rfl)
@[simp] theorem State.await_xtime (s : State) (tag : Nat) (k : WaitKind) (u : Nat) : (s.await tag k u).xtime = s.xtime := (rfl)
@[simp] theorem State.await_locks (s : State) (tag : Nat) (k : WaitKind) (u : Nat) : (s.await tag k u).locks = s.locks := (rfl)
@[simp] theorem State.await_lockPtr (s : State) (tag : Nat) (k : WaitKind) (u : Nat) : (s.await tag k u).lockPtr = s.lockPtr := (rfl)
@[simp] theorem State.await_lps (s : State) (tag : Nat) (k : WaitKind) (u : Nat) : (s.await tag k u).lps = s.lps := (rfl)
@[simp] theorem State.await_nw (s : State) (tag : Nat) (k : WaitKind) (u : Nat) : (s.await tag k u).nw = s.nw := (rfl)
@[simp] theorem State.await_safe (s : State) (tag : Nat) (k : WaitKind) (u : Nat) : (s.await tag k u).safe = s.safe := (rfl)
@[simp] theorem State.await_rm (s : State) (tag : Nat) (k : WaitKind) (u : Nat) : (s.await tag k u).rm = s.rm := (rfl)
@[simp] theorem State.await_tw (s : State) (tag : Nat) (k : WaitKind) (u : Nat) : (s.await tag k u).tw = s.tw := (rfl)
@[simp] theorem State.await_sec (s : State) (tag : Nat) (k : WaitKind) (u : Nat) : (s.await tag k u).sec = s.sec := (rfl)
@[simp] theorem State.await_io (s : State) (tag : Nat) (k : WaitKind) (u : Nat) : (s.await tag k u).io = s.io := (rfl)
@[simp] theorem State.await_cans (s : State) (tag : Nat) (k : WaitKind) (u : Nat) : (s.await tag k u).cans = s.cans := (rfl)
@[simp] theorem State.await_acq (s : State) (tag : Nat) (k : WaitKind) (u : Nat) : (s.await tag k u).acq = s.acq := (rfl)
@[simp] theorem State.await_log (s : State) (tag : Nat) (k : WaitKind) (u : Nat) : (s.await tag k u).log = s.log := (rfl)
@[simp] theorem State.await_host (s : State) (tag : Nat) (k : WaitKind) (u : Nat) : (s.await tag k u).host = s.host := (rfl)
@[simp] theorem State.await_pw (s : State) (tag : Nat) (k : WaitKind) (u : Nat) : (s.await tag k u).pw = s.pw := (rfl)
@[simp] theorem State.await_rd (s : State) (tag : Nat) (k : WaitKind) (u : Nat) (j : Nat) : (s.await tag k u).rd j = s.rd j := (rfl)
@[simp] theorem State.await_canonical (s : State) (tag : Nat) (k : WaitKind) (u : Nat) : (s.await tag k u).canonical = s.canonical := (rfl)
@[simp] theorem State.await_ard (s : State) (tag : Nat) (k : WaitKind) (u : Nat) (j : Nat) : (s.await tag k u).ard j = s.ard j := (rfl)
/-! `State.modReq` -/
@[simp] theorem State.modReq_pending (s : State) (r : Nat) (f : ReqSt → ReqSt) : (s.modReq r f).pending = s.pending := (rfl)
@[simp] theorem State.modReq_regs (s : State) (r : Nat) (f : ReqSt → ReqSt) : (s.modReq r f).regs = s.regs := (rfl)
@[simp] theorem State.modReq_act (s : State) (r : Nat) (f : ReqSt → ReqSt) : (s.modReq r f).act = s.act := (rfl)
@[simp] theorem State.modReq_mem (s : State) (r : Nat) (f : ReqSt → ReqSt) : (s.modReq r f).mem = s.mem := (rfl)
@[simp] theorem State.modReq_variantF (s : State) (r : Nat) (f : ReqSt → ReqSt) : (s.modReq r f).variantF = s.variantF := (rfl)
@[simp] theorem State.modReq_events (s : State) (r : Nat) (f : ReqSt → ReqSt) : (s.modReq r f).events = s.events := (rfl)
@[simp] theorem State.modReq_vectors (s : State) (r : Nat) (f : ReqSt → ReqSt) : (s.modReq r f).vectors = s.vectors := (rfl)
@[simp] theorem State.modReq_freeCount (s : State) (r : Nat) (f : ReqSt → ReqSt) : (s.modReq r f).freeCount = s.freeCount := (rfl)
@[simp] theorem State.modReq_time (s : State) (r : Nat) (f : ReqSt → ReqSt) : (s.modReq r f).time = s.time := (rfl)
@[simp] theorem State.modReq_grids (s : State) (r : Nat) (f : ReqSt → ReqSt) : (s.modReq r f).grids = s.grids := (rfl)
@[simp] theorem State.modReq_reqs (s : State) (r : Nat) (f : ReqSt → ReqSt) : (s.modReq r f).reqs = vmod s.reqs r f := (rfl)
@[simp] theorem State.modReq_ports (s : State) (r : Nat) (f : ReqSt → ReqSt) : (s.modReq r f).ports = s.ports := (rfl)
@[simp] theorem State.modReq_latches (s : State) (r : Nat) (f : ReqSt → ReqSt) : (s.modReq r f).latches = s.latches := (rfl)
@[simp] theorem State.modReq_compares (s : State) (r : Nat) (f : ReqSt → ReqSt) : (s.modReq r f).compares = s.compares := (rfl)
@[simp] theorem State.modReq_rcs (s : State) (r : Nat) (f : ReqSt → ReqSt) : (s.modReq r f).rcs = s.rcs := (rfl)
@[simp] theorem State.modReq_motion (s : State) (r : Nat) (f : ReqSt → ReqSt) : (s.modReq r f).motion = s.motion := (rfl)
@[simp] theorem State.modReq_plans (s : State) (r : Nat) (f : ReqSt → ReqSt) : (s.modReq r f).plans = s.plans := (rfl)
@[simp] theorem State.modReq_stops (s : State) (r : Nat) (f : ReqSt → ReqSt) : (s.modReq r f).stops = s.stops := (rfl)
@[simp] theorem State.modReq_shafts (s : State) (r : Nat) (f : ReqSt → ReqSt) : (s.modReq r f).shafts = s.shafts := (rfl)
@[simp] theorem State.modReq_cams (s : State) (r : Nat) (f : ReqSt → ReqSt) : (s.modReq r f).cams = s.cams := (rfl)
@[simp] theorem State.modReq_inflight (s : State) (r : Nat) (f : ReqSt → ReqSt) : (s.modReq r f).inflight = s.inflight := (rfl)
@[simp] theorem State.modReq_waits (s : State) (r : Nat) (f : ReqSt → ReqSt) : (s.modReq r f).waits = s.waits := (rfl)
@[simp] theorem State.modReq_completions (s : State) (r : Nat) (f : ReqSt → ReqSt) : (s.modReq r f).completions = s.completions := (rfl)
@[simp] theorem State.modReq_netAxes (s : State) (r : Nat) (f : ReqSt → ReqSt) : (s.modReq r f).netAxes = s.netAxes := (rfl)
@[simp] theorem State.modReq_loops (s : State) (r : Nat) (f : ReqSt → ReqSt) : (s.modReq r f).loops = s.loops := (rfl)
@[simp] theorem State.modReq_injs (s : State) (r : Nat) (f : ReqSt → ReqSt) : (s.modReq r f).injs = s.injs := (rfl)
@[simp] theorem State.modReq_assign (s : State) (r : Nat) (f : ReqSt → ReqSt) : (s.modReq r f).assign = s.assign := (rfl)
@[simp] theorem State.modReq_runQ (s : State) (r : Nat) (f : ReqSt → ReqSt) : (s.modReq r f).runQ = s.runQ := (rfl)
@[simp] theorem State.modReq_pwms (s : State) (r : Nat) (f : ReqSt → ReqSt) : (s.modReq r f).pwms = s.pwms := (rfl)
@[simp] theorem State.modReq_trips (s : State) (r : Nat) (f : ReqSt → ReqSt) : (s.modReq r f).trips = s.trips := (rfl)
@[simp] theorem State.modReq_atcs (s : State) (r : Nat) (f : ReqSt → ReqSt) : (s.modReq r f).atcs = s.atcs := (rfl)
@[simp] theorem State.modReq_sds (s : State) (r : Nat) (f : ReqSt → ReqSt) : (s.modReq r f).sds = s.sds := (rfl)
@[simp] theorem State.modReq_cles (s : State) (r : Nat) (f : ReqSt → ReqSt) : (s.modReq r f).cles = s.cles := (rfl)
@[simp] theorem State.modReq_rdata (s : State) (r : Nat) (f : ReqSt → ReqSt) : (s.modReq r f).rdata = s.rdata := (rfl)
@[simp] theorem State.modReq_groom (s : State) (r : Nat) (f : ReqSt → ReqSt) : (s.modReq r f).groom = s.groom := (rfl)
@[simp] theorem State.modReq_stalls (s : State) (r : Nat) (f : ReqSt → ReqSt) : (s.modReq r f).stalls = s.stalls := (rfl)
@[simp] theorem State.modReq_agents (s : State) (r : Nat) (f : ReqSt → ReqSt) : (s.modReq r f).agents = s.agents := (rfl)
@[simp] theorem State.modReq_xtime (s : State) (r : Nat) (f : ReqSt → ReqSt) : (s.modReq r f).xtime = s.xtime := (rfl)
@[simp] theorem State.modReq_locks (s : State) (r : Nat) (f : ReqSt → ReqSt) : (s.modReq r f).locks = s.locks := (rfl)
@[simp] theorem State.modReq_lockPtr (s : State) (r : Nat) (f : ReqSt → ReqSt) : (s.modReq r f).lockPtr = s.lockPtr := (rfl)
@[simp] theorem State.modReq_lps (s : State) (r : Nat) (f : ReqSt → ReqSt) : (s.modReq r f).lps = s.lps := (rfl)
@[simp] theorem State.modReq_nw (s : State) (r : Nat) (f : ReqSt → ReqSt) : (s.modReq r f).nw = s.nw := (rfl)
@[simp] theorem State.modReq_safe (s : State) (r : Nat) (f : ReqSt → ReqSt) : (s.modReq r f).safe = s.safe := (rfl)
@[simp] theorem State.modReq_rm (s : State) (r : Nat) (f : ReqSt → ReqSt) : (s.modReq r f).rm = s.rm := (rfl)
@[simp] theorem State.modReq_tw (s : State) (r : Nat) (f : ReqSt → ReqSt) : (s.modReq r f).tw = s.tw := (rfl)
@[simp] theorem State.modReq_sec (s : State) (r : Nat) (f : ReqSt → ReqSt) : (s.modReq r f).sec = s.sec := (rfl)
@[simp] theorem State.modReq_io (s : State) (r : Nat) (f : ReqSt → ReqSt) : (s.modReq r f).io = s.io := (rfl)
@[simp] theorem State.modReq_cans (s : State) (r : Nat) (f : ReqSt → ReqSt) : (s.modReq r f).cans = s.cans := (rfl)
@[simp] theorem State.modReq_acq (s : State) (r : Nat) (f : ReqSt → ReqSt) : (s.modReq r f).acq = s.acq := (rfl)
@[simp] theorem State.modReq_log (s : State) (r : Nat) (f : ReqSt → ReqSt) : (s.modReq r f).log = s.log := (rfl)
@[simp] theorem State.modReq_host (s : State) (r : Nat) (f : ReqSt → ReqSt) : (s.modReq r f).host = s.host := (rfl)
@[simp] theorem State.modReq_pw (s : State) (r : Nat) (f : ReqSt → ReqSt) : (s.modReq r f).pw = s.pw := (rfl)
@[simp] theorem State.modReq_rd (s : State) (r : Nat) (f : ReqSt → ReqSt) (j : Nat) : (s.modReq r f).rd j = s.rd j := (rfl)
@[simp] theorem State.modReq_canonical (s : State) (r : Nat) (f : ReqSt → ReqSt) : (s.modReq r f).canonical = s.canonical := (rfl)
@[simp] theorem State.modReq_ard (s : State) (r : Nat) (f : ReqSt → ReqSt) (j : Nat) : (s.modReq r f).ard j = s.ard j := (rfl)
/-! `State.modCan` -/
@[simp] theorem State.modCan_pending (s : State) (n : Nat) (f : CanSt → CanSt) : (s.modCan n f).pending = s.pending := (rfl)
@[simp] theorem State.modCan_regs (s : State) (n : Nat) (f : CanSt → CanSt) : (s.modCan n f).regs = s.regs := (rfl)
@[simp] theorem State.modCan_act (s : State) (n : Nat) (f : CanSt → CanSt) : (s.modCan n f).act = s.act := (rfl)
@[simp] theorem State.modCan_mem (s : State) (n : Nat) (f : CanSt → CanSt) : (s.modCan n f).mem = s.mem := (rfl)
@[simp] theorem State.modCan_variantF (s : State) (n : Nat) (f : CanSt → CanSt) : (s.modCan n f).variantF = s.variantF := (rfl)
@[simp] theorem State.modCan_events (s : State) (n : Nat) (f : CanSt → CanSt) : (s.modCan n f).events = s.events := (rfl)
@[simp] theorem State.modCan_vectors (s : State) (n : Nat) (f : CanSt → CanSt) : (s.modCan n f).vectors = s.vectors := (rfl)
@[simp] theorem State.modCan_freeCount (s : State) (n : Nat) (f : CanSt → CanSt) : (s.modCan n f).freeCount = s.freeCount := (rfl)
@[simp] theorem State.modCan_time (s : State) (n : Nat) (f : CanSt → CanSt) : (s.modCan n f).time = s.time := (rfl)
@[simp] theorem State.modCan_grids (s : State) (n : Nat) (f : CanSt → CanSt) : (s.modCan n f).grids = s.grids := (rfl)
@[simp] theorem State.modCan_reqs (s : State) (n : Nat) (f : CanSt → CanSt) : (s.modCan n f).reqs = s.reqs := (rfl)
@[simp] theorem State.modCan_ports (s : State) (n : Nat) (f : CanSt → CanSt) : (s.modCan n f).ports = s.ports := (rfl)
@[simp] theorem State.modCan_latches (s : State) (n : Nat) (f : CanSt → CanSt) : (s.modCan n f).latches = s.latches := (rfl)
@[simp] theorem State.modCan_compares (s : State) (n : Nat) (f : CanSt → CanSt) : (s.modCan n f).compares = s.compares := (rfl)
@[simp] theorem State.modCan_rcs (s : State) (n : Nat) (f : CanSt → CanSt) : (s.modCan n f).rcs = s.rcs := (rfl)
@[simp] theorem State.modCan_motion (s : State) (n : Nat) (f : CanSt → CanSt) : (s.modCan n f).motion = s.motion := (rfl)
@[simp] theorem State.modCan_plans (s : State) (n : Nat) (f : CanSt → CanSt) : (s.modCan n f).plans = s.plans := (rfl)
@[simp] theorem State.modCan_stops (s : State) (n : Nat) (f : CanSt → CanSt) : (s.modCan n f).stops = s.stops := (rfl)
@[simp] theorem State.modCan_shafts (s : State) (n : Nat) (f : CanSt → CanSt) : (s.modCan n f).shafts = s.shafts := (rfl)
@[simp] theorem State.modCan_cams (s : State) (n : Nat) (f : CanSt → CanSt) : (s.modCan n f).cams = s.cams := (rfl)
@[simp] theorem State.modCan_inflight (s : State) (n : Nat) (f : CanSt → CanSt) : (s.modCan n f).inflight = s.inflight := (rfl)
@[simp] theorem State.modCan_waits (s : State) (n : Nat) (f : CanSt → CanSt) : (s.modCan n f).waits = s.waits := (rfl)
@[simp] theorem State.modCan_completions (s : State) (n : Nat) (f : CanSt → CanSt) : (s.modCan n f).completions = s.completions := (rfl)
@[simp] theorem State.modCan_netAxes (s : State) (n : Nat) (f : CanSt → CanSt) : (s.modCan n f).netAxes = s.netAxes := (rfl)
@[simp] theorem State.modCan_loops (s : State) (n : Nat) (f : CanSt → CanSt) : (s.modCan n f).loops = s.loops := (rfl)
@[simp] theorem State.modCan_injs (s : State) (n : Nat) (f : CanSt → CanSt) : (s.modCan n f).injs = s.injs := (rfl)
@[simp] theorem State.modCan_assign (s : State) (n : Nat) (f : CanSt → CanSt) : (s.modCan n f).assign = s.assign := (rfl)
@[simp] theorem State.modCan_runQ (s : State) (n : Nat) (f : CanSt → CanSt) : (s.modCan n f).runQ = s.runQ := (rfl)
@[simp] theorem State.modCan_pwms (s : State) (n : Nat) (f : CanSt → CanSt) : (s.modCan n f).pwms = s.pwms := (rfl)
@[simp] theorem State.modCan_trips (s : State) (n : Nat) (f : CanSt → CanSt) : (s.modCan n f).trips = s.trips := (rfl)
@[simp] theorem State.modCan_atcs (s : State) (n : Nat) (f : CanSt → CanSt) : (s.modCan n f).atcs = s.atcs := (rfl)
@[simp] theorem State.modCan_sds (s : State) (n : Nat) (f : CanSt → CanSt) : (s.modCan n f).sds = s.sds := (rfl)
@[simp] theorem State.modCan_cles (s : State) (n : Nat) (f : CanSt → CanSt) : (s.modCan n f).cles = s.cles := (rfl)
@[simp] theorem State.modCan_rdata (s : State) (n : Nat) (f : CanSt → CanSt) : (s.modCan n f).rdata = s.rdata := (rfl)
@[simp] theorem State.modCan_groom (s : State) (n : Nat) (f : CanSt → CanSt) : (s.modCan n f).groom = s.groom := (rfl)
@[simp] theorem State.modCan_stalls (s : State) (n : Nat) (f : CanSt → CanSt) : (s.modCan n f).stalls = s.stalls := (rfl)
@[simp] theorem State.modCan_agents (s : State) (n : Nat) (f : CanSt → CanSt) : (s.modCan n f).agents = s.agents := (rfl)
@[simp] theorem State.modCan_xtime (s : State) (n : Nat) (f : CanSt → CanSt) : (s.modCan n f).xtime = s.xtime := (rfl)
@[simp] theorem State.modCan_locks (s : State) (n : Nat) (f : CanSt → CanSt) : (s.modCan n f).locks = s.locks := (rfl)
@[simp] theorem State.modCan_lockPtr (s : State) (n : Nat) (f : CanSt → CanSt) : (s.modCan n f).lockPtr = s.lockPtr := (rfl)
@[simp] theorem State.modCan_lps (s : State) (n : Nat) (f : CanSt → CanSt) : (s.modCan n f).lps = s.lps := (rfl)
@[simp] theorem State.modCan_nw (s : State) (n : Nat) (f : CanSt → CanSt) : (s.modCan n f).nw = s.nw := (rfl)
@[simp] theorem State.modCan_safe (s : State) (n : Nat) (f : CanSt → CanSt) : (s.modCan n f).safe = s.safe := (rfl)
@[simp] theorem State.modCan_rm (s : State) (n : Nat) (f : CanSt → CanSt) : (s.modCan n f).rm = s.rm := (rfl)
@[simp] theorem State.modCan_tw (s : State) (n : Nat) (f : CanSt → CanSt) : (s.modCan n f).tw = s.tw := (rfl)
@[simp] theorem State.modCan_sec (s : State) (n : Nat) (f : CanSt → CanSt) : (s.modCan n f).sec = s.sec := (rfl)
@[simp] theorem State.modCan_io (s : State) (n : Nat) (f : CanSt → CanSt) : (s.modCan n f).io = s.io := (rfl)
@[simp] theorem State.modCan_cans (s : State) (n : Nat) (f : CanSt → CanSt) : (s.modCan n f).cans = vmod s.cans n f := (rfl)
@[simp] theorem State.modCan_acq (s : State) (n : Nat) (f : CanSt → CanSt) : (s.modCan n f).acq = s.acq := (rfl)
@[simp] theorem State.modCan_log (s : State) (n : Nat) (f : CanSt → CanSt) : (s.modCan n f).log = s.log := (rfl)
@[simp] theorem State.modCan_host (s : State) (n : Nat) (f : CanSt → CanSt) : (s.modCan n f).host = s.host := (rfl)
@[simp] theorem State.modCan_pw (s : State) (n : Nat) (f : CanSt → CanSt) : (s.modCan n f).pw = s.pw := (rfl)
@[simp] theorem State.modCan_rd (s : State) (n : Nat) (f : CanSt → CanSt) (j : Nat) : (s.modCan n f).rd j = s.rd j := (rfl)
@[simp] theorem State.modCan_canonical (s : State) (n : Nat) (f : CanSt → CanSt) : (s.modCan n f).canonical = s.canonical := (rfl)
@[simp] theorem State.modCan_ard (s : State) (n : Nat) (f : CanSt → CanSt) (j : Nat) : (s.modCan n f).ard j = s.ard j := (rfl)
/-! `State.modAcq` -/
@[simp] theorem State.modAcq_pending (s : State) (f : AcqSt → AcqSt) : (s.modAcq f).pending = s.pending := (rfl)
@[simp] theorem State.modAcq_regs (s : State) (f : AcqSt → AcqSt) : (s.modAcq f).regs = s.regs := (rfl)
@[simp] theorem State.modAcq_act (s : State) (f : AcqSt → AcqSt) : (s.modAcq f).act = s.act := (rfl)
@[simp] theorem State.modAcq_mem (s : State) (f : AcqSt → AcqSt) : (s.modAcq f).mem = s.mem := (rfl)
@[simp] theorem State.modAcq_variantF (s : State) (f : AcqSt → AcqSt) : (s.modAcq f).variantF = s.variantF := (rfl)
@[simp] theorem State.modAcq_events (s : State) (f : AcqSt → AcqSt) : (s.modAcq f).events = s.events := (rfl)
@[simp] theorem State.modAcq_vectors (s : State) (f : AcqSt → AcqSt) : (s.modAcq f).vectors = s.vectors := (rfl)
@[simp] theorem State.modAcq_freeCount (s : State) (f : AcqSt → AcqSt) : (s.modAcq f).freeCount = s.freeCount := (rfl)
@[simp] theorem State.modAcq_time (s : State) (f : AcqSt → AcqSt) : (s.modAcq f).time = s.time := (rfl)
@[simp] theorem State.modAcq_grids (s : State) (f : AcqSt → AcqSt) : (s.modAcq f).grids = s.grids := (rfl)
@[simp] theorem State.modAcq_reqs (s : State) (f : AcqSt → AcqSt) : (s.modAcq f).reqs = s.reqs := (rfl)
@[simp] theorem State.modAcq_ports (s : State) (f : AcqSt → AcqSt) : (s.modAcq f).ports = s.ports := (rfl)
@[simp] theorem State.modAcq_latches (s : State) (f : AcqSt → AcqSt) : (s.modAcq f).latches = s.latches := (rfl)
@[simp] theorem State.modAcq_compares (s : State) (f : AcqSt → AcqSt) : (s.modAcq f).compares = s.compares := (rfl)
@[simp] theorem State.modAcq_rcs (s : State) (f : AcqSt → AcqSt) : (s.modAcq f).rcs = s.rcs := (rfl)
@[simp] theorem State.modAcq_motion (s : State) (f : AcqSt → AcqSt) : (s.modAcq f).motion = s.motion := (rfl)
@[simp] theorem State.modAcq_plans (s : State) (f : AcqSt → AcqSt) : (s.modAcq f).plans = s.plans := (rfl)
@[simp] theorem State.modAcq_stops (s : State) (f : AcqSt → AcqSt) : (s.modAcq f).stops = s.stops := (rfl)
@[simp] theorem State.modAcq_shafts (s : State) (f : AcqSt → AcqSt) : (s.modAcq f).shafts = s.shafts := (rfl)
@[simp] theorem State.modAcq_cams (s : State) (f : AcqSt → AcqSt) : (s.modAcq f).cams = s.cams := (rfl)
@[simp] theorem State.modAcq_inflight (s : State) (f : AcqSt → AcqSt) : (s.modAcq f).inflight = s.inflight := (rfl)
@[simp] theorem State.modAcq_waits (s : State) (f : AcqSt → AcqSt) : (s.modAcq f).waits = s.waits := (rfl)
@[simp] theorem State.modAcq_completions (s : State) (f : AcqSt → AcqSt) : (s.modAcq f).completions = s.completions := (rfl)
@[simp] theorem State.modAcq_netAxes (s : State) (f : AcqSt → AcqSt) : (s.modAcq f).netAxes = s.netAxes := (rfl)
@[simp] theorem State.modAcq_loops (s : State) (f : AcqSt → AcqSt) : (s.modAcq f).loops = s.loops := (rfl)
@[simp] theorem State.modAcq_injs (s : State) (f : AcqSt → AcqSt) : (s.modAcq f).injs = s.injs := (rfl)
@[simp] theorem State.modAcq_assign (s : State) (f : AcqSt → AcqSt) : (s.modAcq f).assign = s.assign := (rfl)
@[simp] theorem State.modAcq_runQ (s : State) (f : AcqSt → AcqSt) : (s.modAcq f).runQ = s.runQ := (rfl)
@[simp] theorem State.modAcq_pwms (s : State) (f : AcqSt → AcqSt) : (s.modAcq f).pwms = s.pwms := (rfl)
@[simp] theorem State.modAcq_trips (s : State) (f : AcqSt → AcqSt) : (s.modAcq f).trips = s.trips := (rfl)
@[simp] theorem State.modAcq_atcs (s : State) (f : AcqSt → AcqSt) : (s.modAcq f).atcs = s.atcs := (rfl)
@[simp] theorem State.modAcq_sds (s : State) (f : AcqSt → AcqSt) : (s.modAcq f).sds = s.sds := (rfl)
@[simp] theorem State.modAcq_cles (s : State) (f : AcqSt → AcqSt) : (s.modAcq f).cles = s.cles := (rfl)
@[simp] theorem State.modAcq_rdata (s : State) (f : AcqSt → AcqSt) : (s.modAcq f).rdata = s.rdata := (rfl)
@[simp] theorem State.modAcq_groom (s : State) (f : AcqSt → AcqSt) : (s.modAcq f).groom = s.groom := (rfl)
@[simp] theorem State.modAcq_stalls (s : State) (f : AcqSt → AcqSt) : (s.modAcq f).stalls = s.stalls := (rfl)
@[simp] theorem State.modAcq_agents (s : State) (f : AcqSt → AcqSt) : (s.modAcq f).agents = s.agents := (rfl)
@[simp] theorem State.modAcq_xtime (s : State) (f : AcqSt → AcqSt) : (s.modAcq f).xtime = s.xtime := (rfl)
@[simp] theorem State.modAcq_locks (s : State) (f : AcqSt → AcqSt) : (s.modAcq f).locks = s.locks := (rfl)
@[simp] theorem State.modAcq_lockPtr (s : State) (f : AcqSt → AcqSt) : (s.modAcq f).lockPtr = s.lockPtr := (rfl)
@[simp] theorem State.modAcq_lps (s : State) (f : AcqSt → AcqSt) : (s.modAcq f).lps = s.lps := (rfl)
@[simp] theorem State.modAcq_nw (s : State) (f : AcqSt → AcqSt) : (s.modAcq f).nw = s.nw := (rfl)
@[simp] theorem State.modAcq_safe (s : State) (f : AcqSt → AcqSt) : (s.modAcq f).safe = s.safe := (rfl)
@[simp] theorem State.modAcq_rm (s : State) (f : AcqSt → AcqSt) : (s.modAcq f).rm = s.rm := (rfl)
@[simp] theorem State.modAcq_tw (s : State) (f : AcqSt → AcqSt) : (s.modAcq f).tw = s.tw := (rfl)
@[simp] theorem State.modAcq_sec (s : State) (f : AcqSt → AcqSt) : (s.modAcq f).sec = s.sec := (rfl)
@[simp] theorem State.modAcq_io (s : State) (f : AcqSt → AcqSt) : (s.modAcq f).io = s.io := (rfl)
@[simp] theorem State.modAcq_cans (s : State) (f : AcqSt → AcqSt) : (s.modAcq f).cans = s.cans := (rfl)
@[simp] theorem State.modAcq_acq (s : State) (f : AcqSt → AcqSt) : (s.modAcq f).acq = f s.acq := (rfl)
@[simp] theorem State.modAcq_log (s : State) (f : AcqSt → AcqSt) : (s.modAcq f).log = s.log := (rfl)
@[simp] theorem State.modAcq_host (s : State) (f : AcqSt → AcqSt) : (s.modAcq f).host = s.host := (rfl)
@[simp] theorem State.modAcq_pw (s : State) (f : AcqSt → AcqSt) : (s.modAcq f).pw = s.pw := (rfl)
@[simp] theorem State.modAcq_rd (s : State) (f : AcqSt → AcqSt) (j : Nat) : (s.modAcq f).rd j = s.rd j := (rfl)
@[simp] theorem State.modAcq_canonical (s : State) (f : AcqSt → AcqSt) : (s.modAcq f).canonical = s.canonical := (rfl)
@[simp] theorem State.modAcq_ard (s : State) (f : AcqSt → AcqSt) (j : Nat) : (s.modAcq f).ard j = s.ard j := (rfl)
/-! `State.modSd` -/
@[simp] theorem State.modSd_pending (s : State) (j : Nat) (f : SdSt → SdSt) : (s.modSd j f).pending = s.pending := (rfl)
@[simp] theorem State.modSd_regs (s : State) (j : Nat) (f : SdSt → SdSt) : (s.modSd j f).regs = s.regs := (rfl)
@[simp] theorem State.modSd_act (s : State) (j : Nat) (f : SdSt → SdSt) : (s.modSd j f).act = s.act := (rfl)
@[simp] theorem State.modSd_mem (s : State) (j : Nat) (f : SdSt → SdSt) : (s.modSd j f).mem = s.mem := (rfl)
@[simp] theorem State.modSd_variantF (s : State) (j : Nat) (f : SdSt → SdSt) : (s.modSd j f).variantF = s.variantF := (rfl)
@[simp] theorem State.modSd_events (s : State) (j : Nat) (f : SdSt → SdSt) : (s.modSd j f).events = s.events := (rfl)
@[simp] theorem State.modSd_vectors (s : State) (j : Nat) (f : SdSt → SdSt) : (s.modSd j f).vectors = s.vectors := (rfl)
@[simp] theorem State.modSd_freeCount (s : State) (j : Nat) (f : SdSt → SdSt) : (s.modSd j f).freeCount = s.freeCount := (rfl)
@[simp] theorem State.modSd_time (s : State) (j : Nat) (f : SdSt → SdSt) : (s.modSd j f).time = s.time := (rfl)
@[simp] theorem State.modSd_grids (s : State) (j : Nat) (f : SdSt → SdSt) : (s.modSd j f).grids = s.grids := (rfl)
@[simp] theorem State.modSd_reqs (s : State) (j : Nat) (f : SdSt → SdSt) : (s.modSd j f).reqs = s.reqs := (rfl)
@[simp] theorem State.modSd_ports (s : State) (j : Nat) (f : SdSt → SdSt) : (s.modSd j f).ports = s.ports := (rfl)
@[simp] theorem State.modSd_latches (s : State) (j : Nat) (f : SdSt → SdSt) : (s.modSd j f).latches = s.latches := (rfl)
@[simp] theorem State.modSd_compares (s : State) (j : Nat) (f : SdSt → SdSt) : (s.modSd j f).compares = s.compares := (rfl)
@[simp] theorem State.modSd_rcs (s : State) (j : Nat) (f : SdSt → SdSt) : (s.modSd j f).rcs = s.rcs := (rfl)
@[simp] theorem State.modSd_motion (s : State) (j : Nat) (f : SdSt → SdSt) : (s.modSd j f).motion = s.motion := (rfl)
@[simp] theorem State.modSd_plans (s : State) (j : Nat) (f : SdSt → SdSt) : (s.modSd j f).plans = s.plans := (rfl)
@[simp] theorem State.modSd_stops (s : State) (j : Nat) (f : SdSt → SdSt) : (s.modSd j f).stops = s.stops := (rfl)
@[simp] theorem State.modSd_shafts (s : State) (j : Nat) (f : SdSt → SdSt) : (s.modSd j f).shafts = s.shafts := (rfl)
@[simp] theorem State.modSd_cams (s : State) (j : Nat) (f : SdSt → SdSt) : (s.modSd j f).cams = s.cams := (rfl)
@[simp] theorem State.modSd_inflight (s : State) (j : Nat) (f : SdSt → SdSt) : (s.modSd j f).inflight = s.inflight := (rfl)
@[simp] theorem State.modSd_waits (s : State) (j : Nat) (f : SdSt → SdSt) : (s.modSd j f).waits = s.waits := (rfl)
@[simp] theorem State.modSd_completions (s : State) (j : Nat) (f : SdSt → SdSt) : (s.modSd j f).completions = s.completions := (rfl)
@[simp] theorem State.modSd_netAxes (s : State) (j : Nat) (f : SdSt → SdSt) : (s.modSd j f).netAxes = s.netAxes := (rfl)
@[simp] theorem State.modSd_loops (s : State) (j : Nat) (f : SdSt → SdSt) : (s.modSd j f).loops = s.loops := (rfl)
@[simp] theorem State.modSd_injs (s : State) (j : Nat) (f : SdSt → SdSt) : (s.modSd j f).injs = s.injs := (rfl)
@[simp] theorem State.modSd_assign (s : State) (j : Nat) (f : SdSt → SdSt) : (s.modSd j f).assign = s.assign := (rfl)
@[simp] theorem State.modSd_runQ (s : State) (j : Nat) (f : SdSt → SdSt) : (s.modSd j f).runQ = s.runQ := (rfl)
@[simp] theorem State.modSd_pwms (s : State) (j : Nat) (f : SdSt → SdSt) : (s.modSd j f).pwms = s.pwms := (rfl)
@[simp] theorem State.modSd_trips (s : State) (j : Nat) (f : SdSt → SdSt) : (s.modSd j f).trips = s.trips := (rfl)
@[simp] theorem State.modSd_atcs (s : State) (j : Nat) (f : SdSt → SdSt) : (s.modSd j f).atcs = s.atcs := (rfl)
@[simp] theorem State.modSd_sds (s : State) (j : Nat) (f : SdSt → SdSt) : (s.modSd j f).sds = vmod s.sds j f := (rfl)
@[simp] theorem State.modSd_cles (s : State) (j : Nat) (f : SdSt → SdSt) : (s.modSd j f).cles = s.cles := (rfl)
@[simp] theorem State.modSd_rdata (s : State) (j : Nat) (f : SdSt → SdSt) : (s.modSd j f).rdata = s.rdata := (rfl)
@[simp] theorem State.modSd_groom (s : State) (j : Nat) (f : SdSt → SdSt) : (s.modSd j f).groom = s.groom := (rfl)
@[simp] theorem State.modSd_stalls (s : State) (j : Nat) (f : SdSt → SdSt) : (s.modSd j f).stalls = s.stalls := (rfl)
@[simp] theorem State.modSd_agents (s : State) (j : Nat) (f : SdSt → SdSt) : (s.modSd j f).agents = s.agents := (rfl)
@[simp] theorem State.modSd_xtime (s : State) (j : Nat) (f : SdSt → SdSt) : (s.modSd j f).xtime = s.xtime := (rfl)
@[simp] theorem State.modSd_locks (s : State) (j : Nat) (f : SdSt → SdSt) : (s.modSd j f).locks = s.locks := (rfl)
@[simp] theorem State.modSd_lockPtr (s : State) (j : Nat) (f : SdSt → SdSt) : (s.modSd j f).lockPtr = s.lockPtr := (rfl)
@[simp] theorem State.modSd_lps (s : State) (j : Nat) (f : SdSt → SdSt) : (s.modSd j f).lps = s.lps := (rfl)
@[simp] theorem State.modSd_nw (s : State) (j : Nat) (f : SdSt → SdSt) : (s.modSd j f).nw = s.nw := (rfl)
@[simp] theorem State.modSd_safe (s : State) (j : Nat) (f : SdSt → SdSt) : (s.modSd j f).safe = s.safe := (rfl)
@[simp] theorem State.modSd_rm (s : State) (j : Nat) (f : SdSt → SdSt) : (s.modSd j f).rm = s.rm := (rfl)
@[simp] theorem State.modSd_tw (s : State) (j : Nat) (f : SdSt → SdSt) : (s.modSd j f).tw = s.tw := (rfl)
@[simp] theorem State.modSd_sec (s : State) (j : Nat) (f : SdSt → SdSt) : (s.modSd j f).sec = s.sec := (rfl)
@[simp] theorem State.modSd_io (s : State) (j : Nat) (f : SdSt → SdSt) : (s.modSd j f).io = s.io := (rfl)
@[simp] theorem State.modSd_cans (s : State) (j : Nat) (f : SdSt → SdSt) : (s.modSd j f).cans = s.cans := (rfl)
@[simp] theorem State.modSd_acq (s : State) (j : Nat) (f : SdSt → SdSt) : (s.modSd j f).acq = s.acq := (rfl)
@[simp] theorem State.modSd_log (s : State) (j : Nat) (f : SdSt → SdSt) : (s.modSd j f).log = s.log := (rfl)
@[simp] theorem State.modSd_host (s : State) (j : Nat) (f : SdSt → SdSt) : (s.modSd j f).host = s.host := (rfl)
@[simp] theorem State.modSd_pw (s : State) (j : Nat) (f : SdSt → SdSt) : (s.modSd j f).pw = s.pw := (rfl)
@[simp] theorem State.modSd_rd (s : State) (j : Nat) (f : SdSt → SdSt) (j : Nat) : (s.modSd j f).rd j = s.rd j := (rfl)
@[simp] theorem State.modSd_canonical (s : State) (j : Nat) (f : SdSt → SdSt) : (s.modSd j f).canonical = s.canonical := (rfl)
@[simp] theorem State.modSd_ard (s : State) (j : Nat) (f : SdSt → SdSt) (j : Nat) : (s.modSd j f).ard j = s.ard j := (rfl)
/-! `State.modCle` -/
@[simp] theorem State.modCle_pending (s : State) (a : Nat) (f : CleSt → CleSt) : (s.modCle a f).pending = s.pending := (rfl)
@[simp] theorem State.modCle_regs (s : State) (a : Nat) (f : CleSt → CleSt) : (s.modCle a f).regs = s.regs := (rfl)
@[simp] theorem State.modCle_act (s : State) (a : Nat) (f : CleSt → CleSt) : (s.modCle a f).act = s.act := (rfl)
@[simp] theorem State.modCle_mem (s : State) (a : Nat) (f : CleSt → CleSt) : (s.modCle a f).mem = s.mem := (rfl)
@[simp] theorem State.modCle_variantF (s : State) (a : Nat) (f : CleSt → CleSt) : (s.modCle a f).variantF = s.variantF := (rfl)
@[simp] theorem State.modCle_events (s : State) (a : Nat) (f : CleSt → CleSt) : (s.modCle a f).events = s.events := (rfl)
@[simp] theorem State.modCle_vectors (s : State) (a : Nat) (f : CleSt → CleSt) : (s.modCle a f).vectors = s.vectors := (rfl)
@[simp] theorem State.modCle_freeCount (s : State) (a : Nat) (f : CleSt → CleSt) : (s.modCle a f).freeCount = s.freeCount := (rfl)
@[simp] theorem State.modCle_time (s : State) (a : Nat) (f : CleSt → CleSt) : (s.modCle a f).time = s.time := (rfl)
@[simp] theorem State.modCle_grids (s : State) (a : Nat) (f : CleSt → CleSt) : (s.modCle a f).grids = s.grids := (rfl)
@[simp] theorem State.modCle_reqs (s : State) (a : Nat) (f : CleSt → CleSt) : (s.modCle a f).reqs = s.reqs := (rfl)
@[simp] theorem State.modCle_ports (s : State) (a : Nat) (f : CleSt → CleSt) : (s.modCle a f).ports = s.ports := (rfl)
@[simp] theorem State.modCle_latches (s : State) (a : Nat) (f : CleSt → CleSt) : (s.modCle a f).latches = s.latches := (rfl)
@[simp] theorem State.modCle_compares (s : State) (a : Nat) (f : CleSt → CleSt) : (s.modCle a f).compares = s.compares := (rfl)
@[simp] theorem State.modCle_rcs (s : State) (a : Nat) (f : CleSt → CleSt) : (s.modCle a f).rcs = s.rcs := (rfl)
@[simp] theorem State.modCle_motion (s : State) (a : Nat) (f : CleSt → CleSt) : (s.modCle a f).motion = s.motion := (rfl)
@[simp] theorem State.modCle_plans (s : State) (a : Nat) (f : CleSt → CleSt) : (s.modCle a f).plans = s.plans := (rfl)
@[simp] theorem State.modCle_stops (s : State) (a : Nat) (f : CleSt → CleSt) : (s.modCle a f).stops = s.stops := (rfl)
@[simp] theorem State.modCle_shafts (s : State) (a : Nat) (f : CleSt → CleSt) : (s.modCle a f).shafts = s.shafts := (rfl)
@[simp] theorem State.modCle_cams (s : State) (a : Nat) (f : CleSt → CleSt) : (s.modCle a f).cams = s.cams := (rfl)
@[simp] theorem State.modCle_inflight (s : State) (a : Nat) (f : CleSt → CleSt) : (s.modCle a f).inflight = s.inflight := (rfl)
@[simp] theorem State.modCle_waits (s : State) (a : Nat) (f : CleSt → CleSt) : (s.modCle a f).waits = s.waits := (rfl)
@[simp] theorem State.modCle_completions (s : State) (a : Nat) (f : CleSt → CleSt) : (s.modCle a f).completions = s.completions := (rfl)
@[simp] theorem State.modCle_netAxes (s : State) (a : Nat) (f : CleSt → CleSt) : (s.modCle a f).netAxes = s.netAxes := (rfl)
@[simp] theorem State.modCle_loops (s : State) (a : Nat) (f : CleSt → CleSt) : (s.modCle a f).loops = s.loops := (rfl)
@[simp] theorem State.modCle_injs (s : State) (a : Nat) (f : CleSt → CleSt) : (s.modCle a f).injs = s.injs := (rfl)
@[simp] theorem State.modCle_assign (s : State) (a : Nat) (f : CleSt → CleSt) : (s.modCle a f).assign = s.assign := (rfl)
@[simp] theorem State.modCle_runQ (s : State) (a : Nat) (f : CleSt → CleSt) : (s.modCle a f).runQ = s.runQ := (rfl)
@[simp] theorem State.modCle_pwms (s : State) (a : Nat) (f : CleSt → CleSt) : (s.modCle a f).pwms = s.pwms := (rfl)
@[simp] theorem State.modCle_trips (s : State) (a : Nat) (f : CleSt → CleSt) : (s.modCle a f).trips = s.trips := (rfl)
@[simp] theorem State.modCle_atcs (s : State) (a : Nat) (f : CleSt → CleSt) : (s.modCle a f).atcs = s.atcs := (rfl)
@[simp] theorem State.modCle_sds (s : State) (a : Nat) (f : CleSt → CleSt) : (s.modCle a f).sds = s.sds := (rfl)
@[simp] theorem State.modCle_cles (s : State) (a : Nat) (f : CleSt → CleSt) : (s.modCle a f).cles = vmod s.cles a f := (rfl)
@[simp] theorem State.modCle_rdata (s : State) (a : Nat) (f : CleSt → CleSt) : (s.modCle a f).rdata = s.rdata := (rfl)
@[simp] theorem State.modCle_groom (s : State) (a : Nat) (f : CleSt → CleSt) : (s.modCle a f).groom = s.groom := (rfl)
@[simp] theorem State.modCle_stalls (s : State) (a : Nat) (f : CleSt → CleSt) : (s.modCle a f).stalls = s.stalls := (rfl)
@[simp] theorem State.modCle_agents (s : State) (a : Nat) (f : CleSt → CleSt) : (s.modCle a f).agents = s.agents := (rfl)
@[simp] theorem State.modCle_xtime (s : State) (a : Nat) (f : CleSt → CleSt) : (s.modCle a f).xtime = s.xtime := (rfl)
@[simp] theorem State.modCle_locks (s : State) (a : Nat) (f : CleSt → CleSt) : (s.modCle a f).locks = s.locks := (rfl)
@[simp] theorem State.modCle_lockPtr (s : State) (a : Nat) (f : CleSt → CleSt) : (s.modCle a f).lockPtr = s.lockPtr := (rfl)
@[simp] theorem State.modCle_lps (s : State) (a : Nat) (f : CleSt → CleSt) : (s.modCle a f).lps = s.lps := (rfl)
@[simp] theorem State.modCle_nw (s : State) (a : Nat) (f : CleSt → CleSt) : (s.modCle a f).nw = s.nw := (rfl)
@[simp] theorem State.modCle_safe (s : State) (a : Nat) (f : CleSt → CleSt) : (s.modCle a f).safe = s.safe := (rfl)
@[simp] theorem State.modCle_rm (s : State) (a : Nat) (f : CleSt → CleSt) : (s.modCle a f).rm = s.rm := (rfl)
@[simp] theorem State.modCle_tw (s : State) (a : Nat) (f : CleSt → CleSt) : (s.modCle a f).tw = s.tw := (rfl)
@[simp] theorem State.modCle_sec (s : State) (a : Nat) (f : CleSt → CleSt) : (s.modCle a f).sec = s.sec := (rfl)
@[simp] theorem State.modCle_io (s : State) (a : Nat) (f : CleSt → CleSt) : (s.modCle a f).io = s.io := (rfl)
@[simp] theorem State.modCle_cans (s : State) (a : Nat) (f : CleSt → CleSt) : (s.modCle a f).cans = s.cans := (rfl)
@[simp] theorem State.modCle_acq (s : State) (a : Nat) (f : CleSt → CleSt) : (s.modCle a f).acq = s.acq := (rfl)
@[simp] theorem State.modCle_log (s : State) (a : Nat) (f : CleSt → CleSt) : (s.modCle a f).log = s.log := (rfl)
@[simp] theorem State.modCle_host (s : State) (a : Nat) (f : CleSt → CleSt) : (s.modCle a f).host = s.host := (rfl)
@[simp] theorem State.modCle_pw (s : State) (a : Nat) (f : CleSt → CleSt) : (s.modCle a f).pw = s.pw := (rfl)
@[simp] theorem State.modCle_rd (s : State) (a : Nat) (f : CleSt → CleSt) (j : Nat) : (s.modCle a f).rd j = s.rd j := (rfl)
@[simp] theorem State.modCle_canonical (s : State) (a : Nat) (f : CleSt → CleSt) : (s.modCle a f).canonical = s.canonical := (rfl)
@[simp] theorem State.modCle_ard (s : State) (a : Nat) (f : CleSt → CleSt) (j : Nat) : (s.modCle a f).ard j = s.ard j := (rfl)
/-! `State.modHost` -/
@[simp] theorem State.modHost_pending (s : State) (f : HostSt → HostSt) : (s.modHost f).pending = s.pending := (rfl)
@[simp] theorem State.modHost_regs (s : State) (f : HostSt → HostSt) : (s.modHost f).regs = s.regs := (rfl)
@[simp] theorem State.modHost_act (s : State) (f : HostSt → HostSt) : (s.modHost f).act = s.act := (rfl)
@[simp] theorem State.modHost_mem (s : State) (f : HostSt → HostSt) : (s.modHost f).mem = s.mem := (rfl)
@[simp] theorem State.modHost_variantF (s : State) (f : HostSt → HostSt) : (s.modHost f).variantF = s.variantF := (rfl)
@[simp] theorem State.modHost_events (s : State) (f : HostSt → HostSt) : (s.modHost f).events = s.events := (rfl)
@[simp] theorem State.modHost_vectors (s : State) (f : HostSt → HostSt) : (s.modHost f).vectors = s.vectors := (rfl)
@[simp] theorem State.modHost_freeCount (s : State) (f : HostSt → HostSt) : (s.modHost f).freeCount = s.freeCount := (rfl)
@[simp] theorem State.modHost_time (s : State) (f : HostSt → HostSt) : (s.modHost f).time = s.time := (rfl)
@[simp] theorem State.modHost_grids (s : State) (f : HostSt → HostSt) : (s.modHost f).grids = s.grids := (rfl)
@[simp] theorem State.modHost_reqs (s : State) (f : HostSt → HostSt) : (s.modHost f).reqs = s.reqs := (rfl)
@[simp] theorem State.modHost_ports (s : State) (f : HostSt → HostSt) : (s.modHost f).ports = s.ports := (rfl)
@[simp] theorem State.modHost_latches (s : State) (f : HostSt → HostSt) : (s.modHost f).latches = s.latches := (rfl)
@[simp] theorem State.modHost_compares (s : State) (f : HostSt → HostSt) : (s.modHost f).compares = s.compares := (rfl)
@[simp] theorem State.modHost_rcs (s : State) (f : HostSt → HostSt) : (s.modHost f).rcs = s.rcs := (rfl)
@[simp] theorem State.modHost_motion (s : State) (f : HostSt → HostSt) : (s.modHost f).motion = s.motion := (rfl)
@[simp] theorem State.modHost_plans (s : State) (f : HostSt → HostSt) : (s.modHost f).plans = s.plans := (rfl)
@[simp] theorem State.modHost_stops (s : State) (f : HostSt → HostSt) : (s.modHost f).stops = s.stops := (rfl)
@[simp] theorem State.modHost_shafts (s : State) (f : HostSt → HostSt) : (s.modHost f).shafts = s.shafts := (rfl)
@[simp] theorem State.modHost_cams (s : State) (f : HostSt → HostSt) : (s.modHost f).cams = s.cams := (rfl)
@[simp] theorem State.modHost_inflight (s : State) (f : HostSt → HostSt) : (s.modHost f).inflight = s.inflight := (rfl)
@[simp] theorem State.modHost_waits (s : State) (f : HostSt → HostSt) : (s.modHost f).waits = s.waits := (rfl)
@[simp] theorem State.modHost_completions (s : State) (f : HostSt → HostSt) : (s.modHost f).completions = s.completions := (rfl)
@[simp] theorem State.modHost_netAxes (s : State) (f : HostSt → HostSt) : (s.modHost f).netAxes = s.netAxes := (rfl)
@[simp] theorem State.modHost_loops (s : State) (f : HostSt → HostSt) : (s.modHost f).loops = s.loops := (rfl)
@[simp] theorem State.modHost_injs (s : State) (f : HostSt → HostSt) : (s.modHost f).injs = s.injs := (rfl)
@[simp] theorem State.modHost_assign (s : State) (f : HostSt → HostSt) : (s.modHost f).assign = s.assign := (rfl)
@[simp] theorem State.modHost_runQ (s : State) (f : HostSt → HostSt) : (s.modHost f).runQ = s.runQ := (rfl)
@[simp] theorem State.modHost_pwms (s : State) (f : HostSt → HostSt) : (s.modHost f).pwms = s.pwms := (rfl)
@[simp] theorem State.modHost_trips (s : State) (f : HostSt → HostSt) : (s.modHost f).trips = s.trips := (rfl)
@[simp] theorem State.modHost_atcs (s : State) (f : HostSt → HostSt) : (s.modHost f).atcs = s.atcs := (rfl)
@[simp] theorem State.modHost_sds (s : State) (f : HostSt → HostSt) : (s.modHost f).sds = s.sds := (rfl)
@[simp] theorem State.modHost_cles (s : State) (f : HostSt → HostSt) : (s.modHost f).cles = s.cles := (rfl)
@[simp] theorem State.modHost_rdata (s : State) (f : HostSt → HostSt) : (s.modHost f).rdata = s.rdata := (rfl)
@[simp] theorem State.modHost_groom (s : State) (f : HostSt → HostSt) : (s.modHost f).groom = s.groom := (rfl)
@[simp] theorem State.modHost_stalls (s : State) (f : HostSt → HostSt) : (s.modHost f).stalls = s.stalls := (rfl)
@[simp] theorem State.modHost_agents (s : State) (f : HostSt → HostSt) : (s.modHost f).agents = s.agents := (rfl)
@[simp] theorem State.modHost_xtime (s : State) (f : HostSt → HostSt) : (s.modHost f).xtime = s.xtime := (rfl)
@[simp] theorem State.modHost_locks (s : State) (f : HostSt → HostSt) : (s.modHost f).locks = s.locks := (rfl)
@[simp] theorem State.modHost_lockPtr (s : State) (f : HostSt → HostSt) : (s.modHost f).lockPtr = s.lockPtr := (rfl)
@[simp] theorem State.modHost_lps (s : State) (f : HostSt → HostSt) : (s.modHost f).lps = s.lps := (rfl)
@[simp] theorem State.modHost_nw (s : State) (f : HostSt → HostSt) : (s.modHost f).nw = s.nw := (rfl)
@[simp] theorem State.modHost_safe (s : State) (f : HostSt → HostSt) : (s.modHost f).safe = s.safe := (rfl)
@[simp] theorem State.modHost_rm (s : State) (f : HostSt → HostSt) : (s.modHost f).rm = s.rm := (rfl)
@[simp] theorem State.modHost_tw (s : State) (f : HostSt → HostSt) : (s.modHost f).tw = s.tw := (rfl)
@[simp] theorem State.modHost_sec (s : State) (f : HostSt → HostSt) : (s.modHost f).sec = s.sec := (rfl)
@[simp] theorem State.modHost_io (s : State) (f : HostSt → HostSt) : (s.modHost f).io = s.io := (rfl)
@[simp] theorem State.modHost_cans (s : State) (f : HostSt → HostSt) : (s.modHost f).cans = s.cans := (rfl)
@[simp] theorem State.modHost_acq (s : State) (f : HostSt → HostSt) : (s.modHost f).acq = s.acq := (rfl)
@[simp] theorem State.modHost_log (s : State) (f : HostSt → HostSt) : (s.modHost f).log = s.log := (rfl)
@[simp] theorem State.modHost_host (s : State) (f : HostSt → HostSt) : (s.modHost f).host = f s.host := (rfl)
@[simp] theorem State.modHost_pw (s : State) (f : HostSt → HostSt) : (s.modHost f).pw = s.pw := (rfl)
@[simp] theorem State.modHost_rd (s : State) (f : HostSt → HostSt) (j : Nat) : (s.modHost f).rd j = s.rd j := (rfl)
@[simp] theorem State.modHost_canonical (s : State) (f : HostSt → HostSt) : (s.modHost f).canonical = s.canonical := (rfl)
@[simp] theorem State.modHost_ard (s : State) (f : HostSt → HostSt) (j : Nat) : (s.modHost f).ard j = s.ard j := (rfl)
/-! `State.modDio` -/
@[simp] theorem State.modDio_pending (s : State) (c : Nat) (f : DioSt → DioSt) : (s.modDio c f).pending = s.pending := (rfl)
@[simp] theorem State.modDio_regs (s : State) (c : Nat) (f : DioSt → DioSt) : (s.modDio c f).regs = s.regs := (rfl)
@[simp] theorem State.modDio_act (s : State) (c : Nat) (f : DioSt → DioSt) : (s.modDio c f).act = s.act := (rfl)
@[simp] theorem State.modDio_mem (s : State) (c : Nat) (f : DioSt → DioSt) : (s.modDio c f).mem = s.mem := (rfl)
@[simp] theorem State.modDio_variantF (s : State) (c : Nat) (f : DioSt → DioSt) : (s.modDio c f).variantF = s.variantF := (rfl)
@[simp] theorem State.modDio_events (s : State) (c : Nat) (f : DioSt → DioSt) : (s.modDio c f).events = s.events := (rfl)
@[simp] theorem State.modDio_vectors (s : State) (c : Nat) (f : DioSt → DioSt) : (s.modDio c f).vectors = s.vectors := (rfl)
@[simp] theorem State.modDio_freeCount (s : State) (c : Nat) (f : DioSt → DioSt) : (s.modDio c f).freeCount = s.freeCount := (rfl)
@[simp] theorem State.modDio_time (s : State) (c : Nat) (f : DioSt → DioSt) : (s.modDio c f).time = s.time := (rfl)
@[simp] theorem State.modDio_grids (s : State) (c : Nat) (f : DioSt → DioSt) : (s.modDio c f).grids = s.grids := (rfl)
@[simp] theorem State.modDio_reqs (s : State) (c : Nat) (f : DioSt → DioSt) : (s.modDio c f).reqs = s.reqs := (rfl)
@[simp] theorem State.modDio_ports (s : State) (c : Nat) (f : DioSt → DioSt) : (s.modDio c f).ports = s.ports := (rfl)
@[simp] theorem State.modDio_latches (s : State) (c : Nat) (f : DioSt → DioSt) : (s.modDio c f).latches = s.latches := (rfl)
@[simp] theorem State.modDio_compares (s : State) (c : Nat) (f : DioSt → DioSt) : (s.modDio c f).compares = s.compares := (rfl)
@[simp] theorem State.modDio_rcs (s : State) (c : Nat) (f : DioSt → DioSt) : (s.modDio c f).rcs = s.rcs := (rfl)
@[simp] theorem State.modDio_motion (s : State) (c : Nat) (f : DioSt → DioSt) : (s.modDio c f).motion = s.motion := (rfl)
@[simp] theorem State.modDio_plans (s : State) (c : Nat) (f : DioSt → DioSt) : (s.modDio c f).plans = s.plans := (rfl)
@[simp] theorem State.modDio_stops (s : State) (c : Nat) (f : DioSt → DioSt) : (s.modDio c f).stops = s.stops := (rfl)
@[simp] theorem State.modDio_shafts (s : State) (c : Nat) (f : DioSt → DioSt) : (s.modDio c f).shafts = s.shafts := (rfl)
@[simp] theorem State.modDio_cams (s : State) (c : Nat) (f : DioSt → DioSt) : (s.modDio c f).cams = s.cams := (rfl)
@[simp] theorem State.modDio_inflight (s : State) (c : Nat) (f : DioSt → DioSt) : (s.modDio c f).inflight = s.inflight := (rfl)
@[simp] theorem State.modDio_waits (s : State) (c : Nat) (f : DioSt → DioSt) : (s.modDio c f).waits = s.waits := (rfl)
@[simp] theorem State.modDio_completions (s : State) (c : Nat) (f : DioSt → DioSt) : (s.modDio c f).completions = s.completions := (rfl)
@[simp] theorem State.modDio_netAxes (s : State) (c : Nat) (f : DioSt → DioSt) : (s.modDio c f).netAxes = s.netAxes := (rfl)
@[simp] theorem State.modDio_loops (s : State) (c : Nat) (f : DioSt → DioSt) : (s.modDio c f).loops = s.loops := (rfl)
@[simp] theorem State.modDio_injs (s : State) (c : Nat) (f : DioSt → DioSt) : (s.modDio c f).injs = s.injs := (rfl)
@[simp] theorem State.modDio_assign (s : State) (c : Nat) (f : DioSt → DioSt) : (s.modDio c f).assign = s.assign := (rfl)
@[simp] theorem State.modDio_runQ (s : State) (c : Nat) (f : DioSt → DioSt) : (s.modDio c f).runQ = s.runQ := (rfl)
@[simp] theorem State.modDio_pwms (s : State) (c : Nat) (f : DioSt → DioSt) : (s.modDio c f).pwms = s.pwms := (rfl)
@[simp] theorem State.modDio_trips (s : State) (c : Nat) (f : DioSt → DioSt) : (s.modDio c f).trips = s.trips := (rfl)
@[simp] theorem State.modDio_atcs (s : State) (c : Nat) (f : DioSt → DioSt) : (s.modDio c f).atcs = s.atcs := (rfl)
@[simp] theorem State.modDio_sds (s : State) (c : Nat) (f : DioSt → DioSt) : (s.modDio c f).sds = s.sds := (rfl)
@[simp] theorem State.modDio_cles (s : State) (c : Nat) (f : DioSt → DioSt) : (s.modDio c f).cles = s.cles := (rfl)
@[simp] theorem State.modDio_rdata (s : State) (c : Nat) (f : DioSt → DioSt) : (s.modDio c f).rdata = s.rdata := (rfl)
@[simp] theorem State.modDio_groom (s : State) (c : Nat) (f : DioSt → DioSt) : (s.modDio c f).groom = s.groom := (rfl)
@[simp] theorem State.modDio_stalls (s : State) (c : Nat) (f : DioSt → DioSt) : (s.modDio c f).stalls = s.stalls := (rfl)
@[simp] theorem State.modDio_agents (s : State) (c : Nat) (f : DioSt → DioSt) : (s.modDio c f).agents = s.agents := (rfl)
@[simp] theorem State.modDio_xtime (s : State) (c : Nat) (f : DioSt → DioSt) : (s.modDio c f).xtime = s.xtime := (rfl)
@[simp] theorem State.modDio_locks (s : State) (c : Nat) (f : DioSt → DioSt) : (s.modDio c f).locks = s.locks := (rfl)
@[simp] theorem State.modDio_lockPtr (s : State) (c : Nat) (f : DioSt → DioSt) : (s.modDio c f).lockPtr = s.lockPtr := (rfl)
@[simp] theorem State.modDio_lps (s : State) (c : Nat) (f : DioSt → DioSt) : (s.modDio c f).lps = s.lps := (rfl)
@[simp] theorem State.modDio_nw (s : State) (c : Nat) (f : DioSt → DioSt) : (s.modDio c f).nw = s.nw := (rfl)
@[simp] theorem State.modDio_safe (s : State) (c : Nat) (f : DioSt → DioSt) : (s.modDio c f).safe = s.safe := (rfl)
@[simp] theorem State.modDio_rm (s : State) (c : Nat) (f : DioSt → DioSt) : (s.modDio c f).rm = s.rm := (rfl)
@[simp] theorem State.modDio_tw (s : State) (c : Nat) (f : DioSt → DioSt) : (s.modDio c f).tw = s.tw := (rfl)
@[simp] theorem State.modDio_sec (s : State) (c : Nat) (f : DioSt → DioSt) : (s.modDio c f).sec = s.sec := (rfl)
@[simp] theorem State.modDio_io (s : State) (c : Nat) (f : DioSt → DioSt) : (s.modDio c f).io = { s.io with dios := vmod s.io.dios c f } := (rfl)
@[simp] theorem State.modDio_cans (s : State) (c : Nat) (f : DioSt → DioSt) : (s.modDio c f).cans = s.cans := (rfl)
@[simp] theorem State.modDio_acq (s : State) (c : Nat) (f : DioSt → DioSt) : (s.modDio c f).acq = s.acq := (rfl)
@[simp] theorem State.modDio_log (s : State) (c : Nat) (f : DioSt → DioSt) : (s.modDio c f).log = s.log := (rfl)
@[simp] theorem State.modDio_host (s : State) (c : Nat) (f : DioSt → DioSt) : (s.modDio c f).host = s.host := (rfl)
@[simp] theorem State.modDio_pw (s : State) (c : Nat) (f : DioSt → DioSt) : (s.modDio c f).pw = s.pw := (rfl)
@[simp] theorem State.modDio_rd (s : State) (c : Nat) (f : DioSt → DioSt) (j : Nat) : (s.modDio c f).rd j = s.rd j := (rfl)
@[simp] theorem State.modDio_canonical (s : State) (c : Nat) (f : DioSt → DioSt) : (s.modDio c f).canonical = s.canonical := (rfl)
@[simp] theorem State.modDio_ard (s : State) (c : Nat) (f : DioSt → DioSt) (j : Nat) : (s.modDio c f).ard j = s.ard j := (rfl)
/-! `State.modFg` -/
@[simp] theorem State.modFg_pending (s : State) (k : Nat) (f : FgSt → FgSt) : (s.modFg k f).pending = s.pending := (rfl)
@[simp] theorem State.modFg_regs (s : State) (k : Nat) (f : FgSt → FgSt) : (s.modFg k f).regs = s.regs := (rfl)
@[simp] theorem State.modFg_act (s : State) (k : Nat) (f : FgSt → FgSt) : (s.modFg k f).act = s.act := (rfl)
@[simp] theorem State.modFg_mem (s : State) (k : Nat) (f : FgSt → FgSt) : (s.modFg k f).mem = s.mem := (rfl)
@[simp] theorem State.modFg_variantF (s : State) (k : Nat) (f : FgSt → FgSt) : (s.modFg k f).variantF = s.variantF := (rfl)
@[simp] theorem State.modFg_events (s : State) (k : Nat) (f : FgSt → FgSt) : (s.modFg k f).events = s.events := (rfl)
@[simp] theorem State.modFg_vectors (s : State) (k : Nat) (f : FgSt → FgSt) : (s.modFg k f).vectors = s.vectors := (rfl)
@[simp] theorem State.modFg_freeCount (s : State) (k : Nat) (f : FgSt → FgSt) : (s.modFg k f).freeCount = s.freeCount := (rfl)
@[simp] theorem State.modFg_time (s : State) (k : Nat) (f : FgSt → FgSt) : (s.modFg k f).time = s.time := (rfl)
@[simp] theorem State.modFg_grids (s : State) (k : Nat) (f : FgSt → FgSt) : (s.modFg k f).grids = s.grids := (rfl)
@[simp] theorem State.modFg_reqs (s : State) (k : Nat) (f : FgSt → FgSt) : (s.modFg k f).reqs = s.reqs := (rfl)
@[simp] theorem State.modFg_ports (s : State) (k : Nat) (f : FgSt → FgSt) : (s.modFg k f).ports = s.ports := (rfl)
@[simp] theorem State.modFg_latches (s : State) (k : Nat) (f : FgSt → FgSt) : (s.modFg k f).latches = s.latches := (rfl)
@[simp] theorem State.modFg_compares (s : State) (k : Nat) (f : FgSt → FgSt) : (s.modFg k f).compares = s.compares := (rfl)
@[simp] theorem State.modFg_rcs (s : State) (k : Nat) (f : FgSt → FgSt) : (s.modFg k f).rcs = s.rcs := (rfl)
@[simp] theorem State.modFg_motion (s : State) (k : Nat) (f : FgSt → FgSt) : (s.modFg k f).motion = s.motion := (rfl)
@[simp] theorem State.modFg_plans (s : State) (k : Nat) (f : FgSt → FgSt) : (s.modFg k f).plans = s.plans := (rfl)
@[simp] theorem State.modFg_stops (s : State) (k : Nat) (f : FgSt → FgSt) : (s.modFg k f).stops = s.stops := (rfl)
@[simp] theorem State.modFg_shafts (s : State) (k : Nat) (f : FgSt → FgSt) : (s.modFg k f).shafts = s.shafts := (rfl)
@[simp] theorem State.modFg_cams (s : State) (k : Nat) (f : FgSt → FgSt) : (s.modFg k f).cams = s.cams := (rfl)
@[simp] theorem State.modFg_inflight (s : State) (k : Nat) (f : FgSt → FgSt) : (s.modFg k f).inflight = s.inflight := (rfl)
@[simp] theorem State.modFg_waits (s : State) (k : Nat) (f : FgSt → FgSt) : (s.modFg k f).waits = s.waits := (rfl)
@[simp] theorem State.modFg_completions (s : State) (k : Nat) (f : FgSt → FgSt) : (s.modFg k f).completions = s.completions := (rfl)
@[simp] theorem State.modFg_netAxes (s : State) (k : Nat) (f : FgSt → FgSt) : (s.modFg k f).netAxes = s.netAxes := (rfl)
@[simp] theorem State.modFg_loops (s : State) (k : Nat) (f : FgSt → FgSt) : (s.modFg k f).loops = s.loops := (rfl)
@[simp] theorem State.modFg_injs (s : State) (k : Nat) (f : FgSt → FgSt) : (s.modFg k f).injs = s.injs := (rfl)
@[simp] theorem State.modFg_assign (s : State) (k : Nat) (f : FgSt → FgSt) : (s.modFg k f).assign = s.assign := (rfl)
@[simp] theorem State.modFg_runQ (s : State) (k : Nat) (f : FgSt → FgSt) : (s.modFg k f).runQ = s.runQ := (rfl)
@[simp] theorem State.modFg_pwms (s : State) (k : Nat) (f : FgSt → FgSt) : (s.modFg k f).pwms = s.pwms := (rfl)
@[simp] theorem State.modFg_trips (s : State) (k : Nat) (f : FgSt → FgSt) : (s.modFg k f).trips = s.trips := (rfl)
@[simp] theorem State.modFg_atcs (s : State) (k : Nat) (f : FgSt → FgSt) : (s.modFg k f).atcs = s.atcs := (rfl)
@[simp] theorem State.modFg_sds (s : State) (k : Nat) (f : FgSt → FgSt) : (s.modFg k f).sds = s.sds := (rfl)
@[simp] theorem State.modFg_cles (s : State) (k : Nat) (f : FgSt → FgSt) : (s.modFg k f).cles = s.cles := (rfl)
@[simp] theorem State.modFg_rdata (s : State) (k : Nat) (f : FgSt → FgSt) : (s.modFg k f).rdata = s.rdata := (rfl)
@[simp] theorem State.modFg_groom (s : State) (k : Nat) (f : FgSt → FgSt) : (s.modFg k f).groom = s.groom := (rfl)
@[simp] theorem State.modFg_stalls (s : State) (k : Nat) (f : FgSt → FgSt) : (s.modFg k f).stalls = s.stalls := (rfl)
@[simp] theorem State.modFg_agents (s : State) (k : Nat) (f : FgSt → FgSt) : (s.modFg k f).agents = s.agents := (rfl)
@[simp] theorem State.modFg_xtime (s : State) (k : Nat) (f : FgSt → FgSt) : (s.modFg k f).xtime = s.xtime := (rfl)
@[simp] theorem State.modFg_locks (s : State) (k : Nat) (f : FgSt → FgSt) : (s.modFg k f).locks = s.locks := (rfl)
@[simp] theorem State.modFg_lockPtr (s : State) (k : Nat) (f : FgSt → FgSt) : (s.modFg k f).lockPtr = s.lockPtr := (rfl)
@[simp] theorem State.modFg_lps (s : State) (k : Nat) (f : FgSt → FgSt) : (s.modFg k f).lps = s.lps := (rfl)
@[simp] theorem State.modFg_nw (s : State) (k : Nat) (f : FgSt → FgSt) : (s.modFg k f).nw = s.nw := (rfl)
@[simp] theorem State.modFg_safe (s : State) (k : Nat) (f : FgSt → FgSt) : (s.modFg k f).safe = s.safe := (rfl)
@[simp] theorem State.modFg_rm (s : State) (k : Nat) (f : FgSt → FgSt) : (s.modFg k f).rm = s.rm := (rfl)
@[simp] theorem State.modFg_tw (s : State) (k : Nat) (f : FgSt → FgSt) : (s.modFg k f).tw = s.tw := (rfl)
@[simp] theorem State.modFg_sec (s : State) (k : Nat) (f : FgSt → FgSt) : (s.modFg k f).sec = s.sec := (rfl)
@[simp] theorem State.modFg_io (s : State) (k : Nat) (f : FgSt → FgSt) : (s.modFg k f).io = { s.io with fgs := vmod s.io.fgs k f } := (rfl)
@[simp] theorem State.modFg_cans (s : State) (k : Nat) (f : FgSt → FgSt) : (s.modFg k f).cans = s.cans := (rfl)
@[simp] theorem State.modFg_acq (s : State) (k : Nat) (f : FgSt → FgSt) : (s.modFg k f).acq = s.acq := (rfl)
@[simp] theorem State.modFg_log (s : State) (k : Nat) (f : FgSt → FgSt) : (s.modFg k f).log = s.log := (rfl)
@[simp] theorem State.modFg_host (s : State) (k : Nat) (f : FgSt → FgSt) : (s.modFg k f).host = s.host := (rfl)
@[simp] theorem State.modFg_pw (s : State) (k : Nat) (f : FgSt → FgSt) : (s.modFg k f).pw = s.pw := (rfl)
@[simp] theorem State.modFg_rd (s : State) (k : Nat) (f : FgSt → FgSt) (j : Nat) : (s.modFg k f).rd j = s.rd j := (rfl)
@[simp] theorem State.modFg_canonical (s : State) (k : Nat) (f : FgSt → FgSt) : (s.modFg k f).canonical = s.canonical := (rfl)
@[simp] theorem State.modFg_ard (s : State) (k : Nat) (f : FgSt → FgSt) (j : Nat) : (s.modFg k f).ard j = s.ard j := (rfl)
/-! `State.modAi` -/
@[simp] theorem State.modAi_pending (s : State) (i : Nat) (f : AiSt → AiSt) : (s.modAi i f).pending = s.pending := (rfl)
@[simp] theorem State.modAi_regs (s : State) (i : Nat) (f : AiSt → AiSt) : (s.modAi i f).regs = s.regs := (rfl)
@[simp] theorem State.modAi_act (s : State) (i : Nat) (f : AiSt → AiSt) : (s.modAi i f).act = s.act := (rfl)
@[simp] theorem State.modAi_mem (s : State) (i : Nat) (f : AiSt → AiSt) : (s.modAi i f).mem = s.mem := (rfl)
@[simp] theorem State.modAi_variantF (s : State) (i : Nat) (f : AiSt → AiSt) : (s.modAi i f).variantF = s.variantF := (rfl)
@[simp] theorem State.modAi_events (s : State) (i : Nat) (f : AiSt → AiSt) : (s.modAi i f).events = s.events := (rfl)
@[simp] theorem State.modAi_vectors (s : State) (i : Nat) (f : AiSt → AiSt) : (s.modAi i f).vectors = s.vectors := (rfl)
@[simp] theorem State.modAi_freeCount (s : State) (i : Nat) (f : AiSt → AiSt) : (s.modAi i f).freeCount = s.freeCount := (rfl)
@[simp] theorem State.modAi_time (s : State) (i : Nat) (f : AiSt → AiSt) : (s.modAi i f).time = s.time := (rfl)
@[simp] theorem State.modAi_grids (s : State) (i : Nat) (f : AiSt → AiSt) : (s.modAi i f).grids = s.grids := (rfl)
@[simp] theorem State.modAi_reqs (s : State) (i : Nat) (f : AiSt → AiSt) : (s.modAi i f).reqs = s.reqs := (rfl)
@[simp] theorem State.modAi_ports (s : State) (i : Nat) (f : AiSt → AiSt) : (s.modAi i f).ports = s.ports := (rfl)
@[simp] theorem State.modAi_latches (s : State) (i : Nat) (f : AiSt → AiSt) : (s.modAi i f).latches = s.latches := (rfl)
@[simp] theorem State.modAi_compares (s : State) (i : Nat) (f : AiSt → AiSt) : (s.modAi i f).compares = s.compares := (rfl)
@[simp] theorem State.modAi_rcs (s : State) (i : Nat) (f : AiSt → AiSt) : (s.modAi i f).rcs = s.rcs := (rfl)
@[simp] theorem State.modAi_motion (s : State) (i : Nat) (f : AiSt → AiSt) : (s.modAi i f).motion = s.motion := (rfl)
@[simp] theorem State.modAi_plans (s : State) (i : Nat) (f : AiSt → AiSt) : (s.modAi i f).plans = s.plans := (rfl)
@[simp] theorem State.modAi_stops (s : State) (i : Nat) (f : AiSt → AiSt) : (s.modAi i f).stops = s.stops := (rfl)
@[simp] theorem State.modAi_shafts (s : State) (i : Nat) (f : AiSt → AiSt) : (s.modAi i f).shafts = s.shafts := (rfl)
@[simp] theorem State.modAi_cams (s : State) (i : Nat) (f : AiSt → AiSt) : (s.modAi i f).cams = s.cams := (rfl)
@[simp] theorem State.modAi_inflight (s : State) (i : Nat) (f : AiSt → AiSt) : (s.modAi i f).inflight = s.inflight := (rfl)
@[simp] theorem State.modAi_waits (s : State) (i : Nat) (f : AiSt → AiSt) : (s.modAi i f).waits = s.waits := (rfl)
@[simp] theorem State.modAi_completions (s : State) (i : Nat) (f : AiSt → AiSt) : (s.modAi i f).completions = s.completions := (rfl)
@[simp] theorem State.modAi_netAxes (s : State) (i : Nat) (f : AiSt → AiSt) : (s.modAi i f).netAxes = s.netAxes := (rfl)
@[simp] theorem State.modAi_loops (s : State) (i : Nat) (f : AiSt → AiSt) : (s.modAi i f).loops = s.loops := (rfl)
@[simp] theorem State.modAi_injs (s : State) (i : Nat) (f : AiSt → AiSt) : (s.modAi i f).injs = s.injs := (rfl)
@[simp] theorem State.modAi_assign (s : State) (i : Nat) (f : AiSt → AiSt) : (s.modAi i f).assign = s.assign := (rfl)
@[simp] theorem State.modAi_runQ (s : State) (i : Nat) (f : AiSt → AiSt) : (s.modAi i f).runQ = s.runQ := (rfl)
@[simp] theorem State.modAi_pwms (s : State) (i : Nat) (f : AiSt → AiSt) : (s.modAi i f).pwms = s.pwms := (rfl)
@[simp] theorem State.modAi_trips (s : State) (i : Nat) (f : AiSt → AiSt) : (s.modAi i f).trips = s.trips := (rfl)
@[simp] theorem State.modAi_atcs (s : State) (i : Nat) (f : AiSt → AiSt) : (s.modAi i f).atcs = s.atcs := (rfl)
@[simp] theorem State.modAi_sds (s : State) (i : Nat) (f : AiSt → AiSt) : (s.modAi i f).sds = s.sds := (rfl)
@[simp] theorem State.modAi_cles (s : State) (i : Nat) (f : AiSt → AiSt) : (s.modAi i f).cles = s.cles := (rfl)
@[simp] theorem State.modAi_rdata (s : State) (i : Nat) (f : AiSt → AiSt) : (s.modAi i f).rdata = s.rdata := (rfl)
@[simp] theorem State.modAi_groom (s : State) (i : Nat) (f : AiSt → AiSt) : (s.modAi i f).groom = s.groom := (rfl)
@[simp] theorem State.modAi_stalls (s : State) (i : Nat) (f : AiSt → AiSt) : (s.modAi i f).stalls = s.stalls := (rfl)
@[simp] theorem State.modAi_agents (s : State) (i : Nat) (f : AiSt → AiSt) : (s.modAi i f).agents = s.agents := (rfl)
@[simp] theorem State.modAi_xtime (s : State) (i : Nat) (f : AiSt → AiSt) : (s.modAi i f).xtime = s.xtime := (rfl)
@[simp] theorem State.modAi_locks (s : State) (i : Nat) (f : AiSt → AiSt) : (s.modAi i f).locks = s.locks := (rfl)
@[simp] theorem State.modAi_lockPtr (s : State) (i : Nat) (f : AiSt → AiSt) : (s.modAi i f).lockPtr = s.lockPtr := (rfl)
@[simp] theorem State.modAi_lps (s : State) (i : Nat) (f : AiSt → AiSt) : (s.modAi i f).lps = s.lps := (rfl)
@[simp] theorem State.modAi_nw (s : State) (i : Nat) (f : AiSt → AiSt) : (s.modAi i f).nw = s.nw := (rfl)
@[simp] theorem State.modAi_safe (s : State) (i : Nat) (f : AiSt → AiSt) : (s.modAi i f).safe = s.safe := (rfl)
@[simp] theorem State.modAi_rm (s : State) (i : Nat) (f : AiSt → AiSt) : (s.modAi i f).rm = s.rm := (rfl)
@[simp] theorem State.modAi_tw (s : State) (i : Nat) (f : AiSt → AiSt) : (s.modAi i f).tw = s.tw := (rfl)
@[simp] theorem State.modAi_sec (s : State) (i : Nat) (f : AiSt → AiSt) : (s.modAi i f).sec = s.sec := (rfl)
@[simp] theorem State.modAi_io (s : State) (i : Nat) (f : AiSt → AiSt) : (s.modAi i f).io = { s.io with ais := vmod s.io.ais i f } := (rfl)
@[simp] theorem State.modAi_cans (s : State) (i : Nat) (f : AiSt → AiSt) : (s.modAi i f).cans = s.cans := (rfl)
@[simp] theorem State.modAi_acq (s : State) (i : Nat) (f : AiSt → AiSt) : (s.modAi i f).acq = s.acq := (rfl)
@[simp] theorem State.modAi_log (s : State) (i : Nat) (f : AiSt → AiSt) : (s.modAi i f).log = s.log := (rfl)
@[simp] theorem State.modAi_host (s : State) (i : Nat) (f : AiSt → AiSt) : (s.modAi i f).host = s.host := (rfl)
@[simp] theorem State.modAi_pw (s : State) (i : Nat) (f : AiSt → AiSt) : (s.modAi i f).pw = s.pw := (rfl)
@[simp] theorem State.modAi_rd (s : State) (i : Nat) (f : AiSt → AiSt) (j : Nat) : (s.modAi i f).rd j = s.rd j := (rfl)
@[simp] theorem State.modAi_canonical (s : State) (i : Nat) (f : AiSt → AiSt) : (s.modAi i f).canonical = s.canonical := (rfl)
@[simp] theorem State.modAi_ard (s : State) (i : Nat) (f : AiSt → AiSt) (j : Nat) : (s.modAi i f).ard j = s.ard j := (rfl)
/-! `State.modLog` -/
@[simp] theorem State.modLog_pending (s : State) (f : LogSt → LogSt) : (s.modLog f).pending = s.pending := (rfl)
@[simp] theorem State.modLog_regs (s : State) (f : LogSt → LogSt) : (s.modLog f).regs = s.regs := (rfl)
@[simp] theorem State.modLog_act (s : State) (f : LogSt → LogSt) : (s.modLog f).act = s.act := (rfl)
@[simp] theorem State.modLog_mem (s : State) (f : LogSt → LogSt) : (s.modLog f).mem = s.mem := (rfl)
@[simp] theorem State.modLog_variantF (s : State) (f : LogSt → LogSt) : (s.modLog f).variantF = s.variantF := (rfl)
@[simp] theorem State.modLog_events (s : State) (f : LogSt → LogSt) : (s.modLog f).events = s.events := (rfl)
@[simp] theorem State.modLog_vectors (s : State) (f : LogSt → LogSt) : (s.modLog f).vectors = s.vectors := (rfl)
@[simp] theorem State.modLog_freeCount (s : State) (f : LogSt → LogSt) : (s.modLog f).freeCount = s.freeCount := (rfl)
@[simp] theorem State.modLog_time (s : State) (f : LogSt → LogSt) : (s.modLog f).time = s.time := (rfl)
@[simp] theorem State.modLog_grids (s : State) (f : LogSt → LogSt) : (s.modLog f).grids = s.grids := (rfl)
@[simp] theorem State.modLog_reqs (s : State) (f : LogSt → LogSt) : (s.modLog f).reqs = s.reqs := (rfl)
@[simp] theorem State.modLog_ports (s : State) (f : LogSt → LogSt) : (s.modLog f).ports = s.ports := (rfl)
@[simp] theorem State.modLog_latches (s : State) (f : LogSt → LogSt) : (s.modLog f).latches = s.latches := (rfl)
@[simp] theorem State.modLog_compares (s : State) (f : LogSt → LogSt) : (s.modLog f).compares = s.compares := (rfl)
@[simp] theorem State.modLog_rcs (s : State) (f : LogSt → LogSt) : (s.modLog f).rcs = s.rcs := (rfl)
@[simp] theorem State.modLog_motion (s : State) (f : LogSt → LogSt) : (s.modLog f).motion = s.motion := (rfl)
@[simp] theorem State.modLog_plans (s : State) (f : LogSt → LogSt) : (s.modLog f).plans = s.plans := (rfl)
@[simp] theorem State.modLog_stops (s : State) (f : LogSt → LogSt) : (s.modLog f).stops = s.stops := (rfl)
@[simp] theorem State.modLog_shafts (s : State) (f : LogSt → LogSt) : (s.modLog f).shafts = s.shafts := (rfl)
@[simp] theorem State.modLog_cams (s : State) (f : LogSt → LogSt) : (s.modLog f).cams = s.cams := (rfl)
@[simp] theorem State.modLog_inflight (s : State) (f : LogSt → LogSt) : (s.modLog f).inflight = s.inflight := (rfl)
@[simp] theorem State.modLog_waits (s : State) (f : LogSt → LogSt) : (s.modLog f).waits = s.waits := (rfl)
@[simp] theorem State.modLog_completions (s : State) (f : LogSt → LogSt) : (s.modLog f).completions = s.completions := (rfl)
@[simp] theorem State.modLog_netAxes (s : State) (f : LogSt → LogSt) : (s.modLog f).netAxes = s.netAxes := (rfl)
@[simp] theorem State.modLog_loops (s : State) (f : LogSt → LogSt) : (s.modLog f).loops = s.loops := (rfl)
@[simp] theorem State.modLog_injs (s : State) (f : LogSt → LogSt) : (s.modLog f).injs = s.injs := (rfl)
@[simp] theorem State.modLog_assign (s : State) (f : LogSt → LogSt) : (s.modLog f).assign = s.assign := (rfl)
@[simp] theorem State.modLog_runQ (s : State) (f : LogSt → LogSt) : (s.modLog f).runQ = s.runQ := (rfl)
@[simp] theorem State.modLog_pwms (s : State) (f : LogSt → LogSt) : (s.modLog f).pwms = s.pwms := (rfl)
@[simp] theorem State.modLog_trips (s : State) (f : LogSt → LogSt) : (s.modLog f).trips = s.trips := (rfl)
@[simp] theorem State.modLog_atcs (s : State) (f : LogSt → LogSt) : (s.modLog f).atcs = s.atcs := (rfl)
@[simp] theorem State.modLog_sds (s : State) (f : LogSt → LogSt) : (s.modLog f).sds = s.sds := (rfl)
@[simp] theorem State.modLog_cles (s : State) (f : LogSt → LogSt) : (s.modLog f).cles = s.cles := (rfl)
@[simp] theorem State.modLog_rdata (s : State) (f : LogSt → LogSt) : (s.modLog f).rdata = s.rdata := (rfl)
@[simp] theorem State.modLog_groom (s : State) (f : LogSt → LogSt) : (s.modLog f).groom = s.groom := (rfl)
@[simp] theorem State.modLog_stalls (s : State) (f : LogSt → LogSt) : (s.modLog f).stalls = s.stalls := (rfl)
@[simp] theorem State.modLog_agents (s : State) (f : LogSt → LogSt) : (s.modLog f).agents = s.agents := (rfl)
@[simp] theorem State.modLog_xtime (s : State) (f : LogSt → LogSt) : (s.modLog f).xtime = s.xtime := (rfl)
@[simp] theorem State.modLog_locks (s : State) (f : LogSt → LogSt) : (s.modLog f).locks = s.locks := (rfl)
@[simp] theorem State.modLog_lockPtr (s : State) (f : LogSt → LogSt) : (s.modLog f).lockPtr = s.lockPtr := (rfl)
@[simp] theorem State.modLog_lps (s : State) (f : LogSt → LogSt) : (s.modLog f).lps = s.lps := (rfl)
@[simp] theorem State.modLog_nw (s : State) (f : LogSt → LogSt) : (s.modLog f).nw = s.nw := (rfl)
@[simp] theorem State.modLog_safe (s : State) (f : LogSt → LogSt) : (s.modLog f).safe = s.safe := (rfl)
@[simp] theorem State.modLog_rm (s : State) (f : LogSt → LogSt) : (s.modLog f).rm = s.rm := (rfl)
@[simp] theorem State.modLog_tw (s : State) (f : LogSt → LogSt) : (s.modLog f).tw = s.tw := (rfl)
@[simp] theorem State.modLog_sec (s : State) (f : LogSt → LogSt) : (s.modLog f).sec = s.sec := (rfl)
@[simp] theorem State.modLog_io (s : State) (f : LogSt → LogSt) : (s.modLog f).io = s.io := (rfl)
@[simp] theorem State.modLog_cans (s : State) (f : LogSt → LogSt) : (s.modLog f).cans = s.cans := (rfl)
@[simp] theorem State.modLog_acq (s : State) (f : LogSt → LogSt) : (s.modLog f).acq = s.acq := (rfl)
@[simp] theorem State.modLog_log (s : State) (f : LogSt → LogSt) : (s.modLog f).log = f s.log := (rfl)
@[simp] theorem State.modLog_host (s : State) (f : LogSt → LogSt) : (s.modLog f).host = s.host := (rfl)
@[simp] theorem State.modLog_pw (s : State) (f : LogSt → LogSt) : (s.modLog f).pw = s.pw := (rfl)
@[simp] theorem State.modLog_rd (s : State) (f : LogSt → LogSt) (j : Nat) : (s.modLog f).rd j = s.rd j := (rfl)
@[simp] theorem State.modLog_canonical (s : State) (f : LogSt → LogSt) : (s.modLog f).canonical = s.canonical := (rfl)
@[simp] theorem State.modLog_ard (s : State) (f : LogSt → LogSt) (j : Nat) : (s.modLog f).ard j = s.ard j := (rfl)
/-! `State.modLp` -/
@[simp] theorem State.modLp_pending (s : State) (k : Nat) (f : LpSt → LpSt) : (s.modLp k f).pending = s.pending := (rfl)
@[simp] theorem State.modLp_regs (s : State) (k : Nat) (f : LpSt → LpSt) : (s.modLp k f).regs = s.regs := (rfl)
@[simp] theorem State.modLp_act (s : State) (k : Nat) (f : LpSt → LpSt) : (s.modLp k f).act = s.act := (rfl)
@[simp] theorem State.modLp_mem (s : State) (k : Nat) (f : LpSt → LpSt) : (s.modLp k f).mem = s.mem := (rfl)
@[simp] theorem State.modLp_variantF (s : State) (k : Nat) (f : LpSt → LpSt) : (s.modLp k f).variantF = s.variantF := (rfl)
@[simp] theorem State.modLp_events (s : State) (k : Nat) (f : LpSt → LpSt) : (s.modLp k f).events = s.events := (rfl)
@[simp] theorem State.modLp_vectors (s : State) (k : Nat) (f : LpSt → LpSt) : (s.modLp k f).vectors = s.vectors := (rfl)
@[simp] theorem State.modLp_freeCount (s : State) (k : Nat) (f : LpSt → LpSt) : (s.modLp k f).freeCount = s.freeCount := (rfl)
@[simp] theorem State.modLp_time (s : State) (k : Nat) (f : LpSt → LpSt) : (s.modLp k f).time = s.time := (rfl)
@[simp] theorem State.modLp_grids (s : State) (k : Nat) (f : LpSt → LpSt) : (s.modLp k f).grids = s.grids := (rfl)
@[simp] theorem State.modLp_reqs (s : State) (k : Nat) (f : LpSt → LpSt) : (s.modLp k f).reqs = s.reqs := (rfl)
@[simp] theorem State.modLp_ports (s : State) (k : Nat) (f : LpSt → LpSt) : (s.modLp k f).ports = s.ports := (rfl)
@[simp] theorem State.modLp_latches (s : State) (k : Nat) (f : LpSt → LpSt) : (s.modLp k f).latches = s.latches := (rfl)
@[simp] theorem State.modLp_compares (s : State) (k : Nat) (f : LpSt → LpSt) : (s.modLp k f).compares = s.compares := (rfl)
@[simp] theorem State.modLp_rcs (s : State) (k : Nat) (f : LpSt → LpSt) : (s.modLp k f).rcs = s.rcs := (rfl)
@[simp] theorem State.modLp_motion (s : State) (k : Nat) (f : LpSt → LpSt) : (s.modLp k f).motion = s.motion := (rfl)
@[simp] theorem State.modLp_plans (s : State) (k : Nat) (f : LpSt → LpSt) : (s.modLp k f).plans = s.plans := (rfl)
@[simp] theorem State.modLp_stops (s : State) (k : Nat) (f : LpSt → LpSt) : (s.modLp k f).stops = s.stops := (rfl)
@[simp] theorem State.modLp_shafts (s : State) (k : Nat) (f : LpSt → LpSt) : (s.modLp k f).shafts = s.shafts := (rfl)
@[simp] theorem State.modLp_cams (s : State) (k : Nat) (f : LpSt → LpSt) : (s.modLp k f).cams = s.cams := (rfl)
@[simp] theorem State.modLp_inflight (s : State) (k : Nat) (f : LpSt → LpSt) : (s.modLp k f).inflight = s.inflight := (rfl)
@[simp] theorem State.modLp_waits (s : State) (k : Nat) (f : LpSt → LpSt) : (s.modLp k f).waits = s.waits := (rfl)
@[simp] theorem State.modLp_completions (s : State) (k : Nat) (f : LpSt → LpSt) : (s.modLp k f).completions = s.completions := (rfl)
@[simp] theorem State.modLp_netAxes (s : State) (k : Nat) (f : LpSt → LpSt) : (s.modLp k f).netAxes = s.netAxes := (rfl)
@[simp] theorem State.modLp_loops (s : State) (k : Nat) (f : LpSt → LpSt) : (s.modLp k f).loops = s.loops := (rfl)
@[simp] theorem State.modLp_injs (s : State) (k : Nat) (f : LpSt → LpSt) : (s.modLp k f).injs = s.injs := (rfl)
@[simp] theorem State.modLp_assign (s : State) (k : Nat) (f : LpSt → LpSt) : (s.modLp k f).assign = s.assign := (rfl)
@[simp] theorem State.modLp_runQ (s : State) (k : Nat) (f : LpSt → LpSt) : (s.modLp k f).runQ = s.runQ := (rfl)
@[simp] theorem State.modLp_pwms (s : State) (k : Nat) (f : LpSt → LpSt) : (s.modLp k f).pwms = s.pwms := (rfl)
@[simp] theorem State.modLp_trips (s : State) (k : Nat) (f : LpSt → LpSt) : (s.modLp k f).trips = s.trips := (rfl)
@[simp] theorem State.modLp_atcs (s : State) (k : Nat) (f : LpSt → LpSt) : (s.modLp k f).atcs = s.atcs := (rfl)
@[simp] theorem State.modLp_sds (s : State) (k : Nat) (f : LpSt → LpSt) : (s.modLp k f).sds = s.sds := (rfl)
@[simp] theorem State.modLp_cles (s : State) (k : Nat) (f : LpSt → LpSt) : (s.modLp k f).cles = s.cles := (rfl)
@[simp] theorem State.modLp_rdata (s : State) (k : Nat) (f : LpSt → LpSt) : (s.modLp k f).rdata = s.rdata := (rfl)
@[simp] theorem State.modLp_groom (s : State) (k : Nat) (f : LpSt → LpSt) : (s.modLp k f).groom = s.groom := (rfl)
@[simp] theorem State.modLp_stalls (s : State) (k : Nat) (f : LpSt → LpSt) : (s.modLp k f).stalls = s.stalls := (rfl)
@[simp] theorem State.modLp_agents (s : State) (k : Nat) (f : LpSt → LpSt) : (s.modLp k f).agents = s.agents := (rfl)
@[simp] theorem State.modLp_xtime (s : State) (k : Nat) (f : LpSt → LpSt) : (s.modLp k f).xtime = s.xtime := (rfl)
@[simp] theorem State.modLp_locks (s : State) (k : Nat) (f : LpSt → LpSt) : (s.modLp k f).locks = s.locks := (rfl)
@[simp] theorem State.modLp_lockPtr (s : State) (k : Nat) (f : LpSt → LpSt) : (s.modLp k f).lockPtr = s.lockPtr := (rfl)
@[simp] theorem State.modLp_lps (s : State) (k : Nat) (f : LpSt → LpSt) : (s.modLp k f).lps = vmod s.lps k f := (rfl)
@[simp] theorem State.modLp_nw (s : State) (k : Nat) (f : LpSt → LpSt) : (s.modLp k f).nw = s.nw := (rfl)
@[simp] theorem State.modLp_safe (s : State) (k : Nat) (f : LpSt → LpSt) : (s.modLp k f).safe = s.safe := (rfl)
@[simp] theorem State.modLp_rm (s : State) (k : Nat) (f : LpSt → LpSt) : (s.modLp k f).rm = s.rm := (rfl)
@[simp] theorem State.modLp_tw (s : State) (k : Nat) (f : LpSt → LpSt) : (s.modLp k f).tw = s.tw := (rfl)
@[simp] theorem State.modLp_sec (s : State) (k : Nat) (f : LpSt → LpSt) : (s.modLp k f).sec = s.sec := (rfl)
@[simp] theorem State.modLp_io (s : State) (k : Nat) (f : LpSt → LpSt) : (s.modLp k f).io = s.io := (rfl)
@[simp] theorem State.modLp_cans (s : State) (k : Nat) (f : LpSt → LpSt) : (s.modLp k f).cans = s.cans := (rfl)
@[simp] theorem State.modLp_acq (s : State) (k : Nat) (f : LpSt → LpSt) : (s.modLp k f).acq = s.acq := (rfl)
@[simp] theorem State.modLp_log (s : State) (k : Nat) (f : LpSt → LpSt) : (s.modLp k f).log = s.log := (rfl)
@[simp] theorem State.modLp_host (s : State) (k : Nat) (f : LpSt → LpSt) : (s.modLp k f).host = s.host := (rfl)
@[simp] theorem State.modLp_pw (s : State) (k : Nat) (f : LpSt → LpSt) : (s.modLp k f).pw = s.pw := (rfl)
@[simp] theorem State.modLp_rd (s : State) (k : Nat) (f : LpSt → LpSt) (j : Nat) : (s.modLp k f).rd j = s.rd j := (rfl)
@[simp] theorem State.modLp_canonical (s : State) (k : Nat) (f : LpSt → LpSt) : (s.modLp k f).canonical = s.canonical := (rfl)
@[simp] theorem State.modLp_ard (s : State) (k : Nat) (f : LpSt → LpSt) (j : Nat) : (s.modLp k f).ard j = s.ard j := (rfl)
/-! `State.modQueue` -/
@[simp] theorem State.modQueue_pending (s : State) (k : Nat) (f : List RunReq → List RunReq) : (s.modQueue k f).pending = s.pending := (rfl)
@[simp] theorem State.modQueue_regs (s : State) (k : Nat) (f : List RunReq → List RunReq) : (s.modQueue k f).regs = s.regs := (rfl)
@[simp] theorem State.modQueue_act (s : State) (k : Nat) (f : List RunReq → List RunReq) : (s.modQueue k f).act = s.act := (rfl)
@[simp] theorem State.modQueue_mem (s : State) (k : Nat) (f : List RunReq → List RunReq) : (s.modQueue k f).mem = s.mem := (rfl)
@[simp] theorem State.modQueue_variantF (s : State) (k : Nat) (f : List RunReq → List RunReq) : (s.modQueue k f).variantF = s.variantF := (rfl)
@[simp] theorem State.modQueue_events (s : State) (k : Nat) (f : List RunReq → List RunReq) : (s.modQueue k f).events = s.events := (rfl)
@[simp] theorem State.modQueue_vectors (s : State) (k : Nat) (f : List RunReq → List RunReq) : (s.modQueue k f).vectors = s.vectors := (rfl)
@[simp] theorem State.modQueue_freeCount (s : State) (k : Nat) (f : List RunReq → List RunReq) : (s.modQueue k f).freeCount = s.freeCount := (rfl)
@[simp] theorem State.modQueue_time (s : State) (k : Nat) (f : List RunReq → List RunReq) : (s.modQueue k f).time = s.time := (rfl)
@[simp] theorem State.modQueue_grids (s : State) (k : Nat) (f : List RunReq → List RunReq) : (s.modQueue k f).grids = s.grids := (rfl)
@[simp] theorem State.modQueue_reqs (s : State) (k : Nat) (f : List RunReq → List RunReq) : (s.modQueue k f).reqs = s.reqs := (rfl)
@[simp] theorem State.modQueue_ports (s : State) (k : Nat) (f : List RunReq → List RunReq) : (s.modQueue k f).ports = s.ports := (rfl)
@[simp] theorem State.modQueue_latches (s : State) (k : Nat) (f : List RunReq → List RunReq) : (s.modQueue k f).latches = s.latches := (rfl)
@[simp] theorem State.modQueue_compares (s : State) (k : Nat) (f : List RunReq → List RunReq) : (s.modQueue k f).compares = s.compares := (rfl)
@[simp] theorem State.modQueue_rcs (s : State) (k : Nat) (f : List RunReq → List RunReq) : (s.modQueue k f).rcs = s.rcs := (rfl)
@[simp] theorem State.modQueue_motion (s : State) (k : Nat) (f : List RunReq → List RunReq) : (s.modQueue k f).motion = s.motion := (rfl)
@[simp] theorem State.modQueue_plans (s : State) (k : Nat) (f : List RunReq → List RunReq) : (s.modQueue k f).plans = s.plans := (rfl)
@[simp] theorem State.modQueue_stops (s : State) (k : Nat) (f : List RunReq → List RunReq) : (s.modQueue k f).stops = s.stops := (rfl)
@[simp] theorem State.modQueue_shafts (s : State) (k : Nat) (f : List RunReq → List RunReq) : (s.modQueue k f).shafts = s.shafts := (rfl)
@[simp] theorem State.modQueue_cams (s : State) (k : Nat) (f : List RunReq → List RunReq) : (s.modQueue k f).cams = s.cams := (rfl)
@[simp] theorem State.modQueue_inflight (s : State) (k : Nat) (f : List RunReq → List RunReq) : (s.modQueue k f).inflight = s.inflight := (rfl)
@[simp] theorem State.modQueue_waits (s : State) (k : Nat) (f : List RunReq → List RunReq) : (s.modQueue k f).waits = s.waits := (rfl)
@[simp] theorem State.modQueue_completions (s : State) (k : Nat) (f : List RunReq → List RunReq) : (s.modQueue k f).completions = s.completions := (rfl)
@[simp] theorem State.modQueue_netAxes (s : State) (k : Nat) (f : List RunReq → List RunReq) : (s.modQueue k f).netAxes = s.netAxes := (rfl)
@[simp] theorem State.modQueue_loops (s : State) (k : Nat) (f : List RunReq → List RunReq) : (s.modQueue k f).loops = s.loops := (rfl)
@[simp] theorem State.modQueue_injs (s : State) (k : Nat) (f : List RunReq → List RunReq) : (s.modQueue k f).injs = s.injs := (rfl)
@[simp] theorem State.modQueue_assign (s : State) (k : Nat) (f : List RunReq → List RunReq) : (s.modQueue k f).assign = s.assign := (rfl)
@[simp] theorem State.modQueue_runQ (s : State) (k : Nat) (f : List RunReq → List RunReq) : (s.modQueue k f).runQ = vmod s.runQ k f := (rfl)
@[simp] theorem State.modQueue_pwms (s : State) (k : Nat) (f : List RunReq → List RunReq) : (s.modQueue k f).pwms = s.pwms := (rfl)
@[simp] theorem State.modQueue_trips (s : State) (k : Nat) (f : List RunReq → List RunReq) : (s.modQueue k f).trips = s.trips := (rfl)
@[simp] theorem State.modQueue_atcs (s : State) (k : Nat) (f : List RunReq → List RunReq) : (s.modQueue k f).atcs = s.atcs := (rfl)
@[simp] theorem State.modQueue_sds (s : State) (k : Nat) (f : List RunReq → List RunReq) : (s.modQueue k f).sds = s.sds := (rfl)
@[simp] theorem State.modQueue_cles (s : State) (k : Nat) (f : List RunReq → List RunReq) : (s.modQueue k f).cles = s.cles := (rfl)
@[simp] theorem State.modQueue_rdata (s : State) (k : Nat) (f : List RunReq → List RunReq) : (s.modQueue k f).rdata = s.rdata := (rfl)
@[simp] theorem State.modQueue_groom (s : State) (k : Nat) (f : List RunReq → List RunReq) : (s.modQueue k f).groom = s.groom := (rfl)
@[simp] theorem State.modQueue_stalls (s : State) (k : Nat) (f : List RunReq → List RunReq) : (s.modQueue k f).stalls = s.stalls := (rfl)
@[simp] theorem State.modQueue_agents (s : State) (k : Nat) (f : List RunReq → List RunReq) : (s.modQueue k f).agents = s.agents := (rfl)
@[simp] theorem State.modQueue_xtime (s : State) (k : Nat) (f : List RunReq → List RunReq) : (s.modQueue k f).xtime = s.xtime := (rfl)
@[simp] theorem State.modQueue_locks (s : State) (k : Nat) (f : List RunReq → List RunReq) : (s.modQueue k f).locks = s.locks := (rfl)
@[simp] theorem State.modQueue_lockPtr (s : State) (k : Nat) (f : List RunReq → List RunReq) : (s.modQueue k f).lockPtr = s.lockPtr := (rfl)
@[simp] theorem State.modQueue_lps (s : State) (k : Nat) (f : List RunReq → List RunReq) : (s.modQueue k f).lps = s.lps := (rfl)
@[simp] theorem State.modQueue_nw (s : State) (k : Nat) (f : List RunReq → List RunReq) : (s.modQueue k f).nw = s.nw := (rfl)
@[simp] theorem State.modQueue_safe (s : State) (k : Nat) (f : List RunReq → List RunReq) : (s.modQueue k f).safe = s.safe := (rfl)
@[simp] theorem State.modQueue_rm (s : State) (k : Nat) (f : List RunReq → List RunReq) : (s.modQueue k f).rm = s.rm := (rfl)
@[simp] theorem State.modQueue_tw (s : State) (k : Nat) (f : List RunReq → List RunReq) : (s.modQueue k f).tw = s.tw := (rfl)
@[simp] theorem State.modQueue_sec (s : State) (k : Nat) (f : List RunReq → List RunReq) : (s.modQueue k f).sec = s.sec := (rfl)
@[simp] theorem State.modQueue_io (s : State) (k : Nat) (f : List RunReq → List RunReq) : (s.modQueue k f).io = s.io := (rfl)
@[simp] theorem State.modQueue_cans (s : State) (k : Nat) (f : List RunReq → List RunReq) : (s.modQueue k f).cans = s.cans := (rfl)
@[simp] theorem State.modQueue_acq (s : State) (k : Nat) (f : List RunReq → List RunReq) : (s.modQueue k f).acq = s.acq := (rfl)
@[simp] theorem State.modQueue_log (s : State) (k : Nat) (f : List RunReq → List RunReq) : (s.modQueue k f).log = s.log := (rfl)
@[simp] theorem State.modQueue_host (s : State) (k : Nat) (f : List RunReq → List RunReq) : (s.modQueue k f).host = s.host := (rfl)
@[simp] theorem State.modQueue_pw (s : State) (k : Nat) (f : List RunReq → List RunReq) : (s.modQueue k f).pw = s.pw := (rfl)
@[simp] theorem State.modQueue_rd (s : State) (k : Nat) (f : List RunReq → List RunReq) (j : Nat) : (s.modQueue k f).rd j = s.rd j := (rfl)
@[simp] theorem State.modQueue_canonical (s : State) (k : Nat) (f : List RunReq → List RunReq) : (s.modQueue k f).canonical = s.canonical := (rfl)
@[simp] theorem State.modQueue_ard (s : State) (k : Nat) (f : List RunReq → List RunReq) (j : Nat) : (s.modQueue k f).ard j = s.ard j := (rfl)
/-! `State.modNw` -/
@[simp] theorem State.modNw_pending (s : State) (f : NetSt → NetSt) : (s.modNw f).pending = s.pending := (rfl)
@[simp] theorem State.modNw_regs (s : State) (f : NetSt → NetSt) : (s.modNw f).regs = s.regs := (rfl)
@[simp] theorem State.modNw_act (s : State) (f : NetSt → NetSt) : (s.modNw f).act = s.act := (rfl)
@[simp] theorem State.modNw_mem (s : State) (f : NetSt → NetSt) : (s.modNw f).mem = s.mem := (rfl)
@[simp] theorem State.modNw_variantF (s : State) (f : NetSt → NetSt) : (s.modNw f).variantF = s.variantF := (rfl)
@[simp] theorem State.modNw_events (s : State) (f : NetSt → NetSt) : (s.modNw f).events = s.events := (rfl)
@[simp] theorem State.modNw_vectors (s : State) (f : NetSt → NetSt) : (s.modNw f).vectors = s.vectors := (rfl)
@[simp] theorem State.modNw_freeCount (s : State) (f : NetSt → NetSt) : (s.modNw f).freeCount = s.freeCount := (rfl)
@[simp] theorem State.modNw_time (s : State) (f : NetSt → NetSt) : (s.modNw f).time = s.time := (rfl)
@[simp] theorem State.modNw_grids (s : State) (f : NetSt → NetSt) : (s.modNw f).grids = s.grids := (rfl)
@[simp] theorem State.modNw_reqs (s : State) (f : NetSt → NetSt) : (s.modNw f).reqs = s.reqs := (rfl)
@[simp] theorem State.modNw_ports (s : State) (f : NetSt → NetSt) : (s.modNw f).ports = s.ports := (rfl)
@[simp] theorem State.modNw_latches (s : State) (f : NetSt → NetSt) : (s.modNw f).latches = s.latches := (rfl)
@[simp] theorem State.modNw_compares (s : State) (f : NetSt → NetSt) : (s.modNw f).compares = s.compares := (rfl)
@[simp] theorem State.modNw_rcs (s : State) (f : NetSt → NetSt) : (s.modNw f).rcs = s.rcs := (rfl)
@[simp] theorem State.modNw_motion (s : State) (f : NetSt → NetSt) : (s.modNw f).motion = s.motion := (rfl)
@[simp] theorem State.modNw_plans (s : State) (f : NetSt → NetSt) : (s.modNw f).plans = s.plans := (rfl)
@[simp] theorem State.modNw_stops (s : State) (f : NetSt → NetSt) : (s.modNw f).stops = s.stops := (rfl)
@[simp] theorem State.modNw_shafts (s : State) (f : NetSt → NetSt) : (s.modNw f).shafts = s.shafts := (rfl)
@[simp] theorem State.modNw_cams (s : State) (f : NetSt → NetSt) : (s.modNw f).cams = s.cams := (rfl)
@[simp] theorem State.modNw_inflight (s : State) (f : NetSt → NetSt) : (s.modNw f).inflight = s.inflight := (rfl)
@[simp] theorem State.modNw_waits (s : State) (f : NetSt → NetSt) : (s.modNw f).waits = s.waits := (rfl)
@[simp] theorem State.modNw_completions (s : State) (f : NetSt → NetSt) : (s.modNw f).completions = s.completions := (rfl)
@[simp] theorem State.modNw_netAxes (s : State) (f : NetSt → NetSt) : (s.modNw f).netAxes = s.netAxes := (rfl)
@[simp] theorem State.modNw_loops (s : State) (f : NetSt → NetSt) : (s.modNw f).loops = s.loops := (rfl)
@[simp] theorem State.modNw_injs (s : State) (f : NetSt → NetSt) : (s.modNw f).injs = s.injs := (rfl)
@[simp] theorem State.modNw_assign (s : State) (f : NetSt → NetSt) : (s.modNw f).assign = s.assign := (rfl)
@[simp] theorem State.modNw_runQ (s : State) (f : NetSt → NetSt) : (s.modNw f).runQ = s.runQ := (rfl)
@[simp] theorem State.modNw_pwms (s : State) (f : NetSt → NetSt) : (s.modNw f).pwms = s.pwms := (rfl)
@[simp] theorem State.modNw_trips (s : State) (f : NetSt → NetSt) : (s.modNw f).trips = s.trips := (rfl)
@[simp] theorem State.modNw_atcs (s : State) (f : NetSt → NetSt) : (s.modNw f).atcs = s.atcs := (rfl)
@[simp] theorem State.modNw_sds (s : State) (f : NetSt → NetSt) : (s.modNw f).sds = s.sds := (rfl)
@[simp] theorem State.modNw_cles (s : State) (f : NetSt → NetSt) : (s.modNw f).cles = s.cles := (rfl)
@[simp] theorem State.modNw_rdata (s : State) (f : NetSt → NetSt) : (s.modNw f).rdata = s.rdata := (rfl)
@[simp] theorem State.modNw_groom (s : State) (f : NetSt → NetSt) : (s.modNw f).groom = s.groom := (rfl)
@[simp] theorem State.modNw_stalls (s : State) (f : NetSt → NetSt) : (s.modNw f).stalls = s.stalls := (rfl)
@[simp] theorem State.modNw_agents (s : State) (f : NetSt → NetSt) : (s.modNw f).agents = s.agents := (rfl)
@[simp] theorem State.modNw_xtime (s : State) (f : NetSt → NetSt) : (s.modNw f).xtime = s.xtime := (rfl)
@[simp] theorem State.modNw_locks (s : State) (f : NetSt → NetSt) : (s.modNw f).locks = s.locks := (rfl)
@[simp] theorem State.modNw_lockPtr (s : State) (f : NetSt → NetSt) : (s.modNw f).lockPtr = s.lockPtr := (rfl)
@[simp] theorem State.modNw_lps (s : State) (f : NetSt → NetSt) : (s.modNw f).lps = s.lps := (rfl)
@[simp] theorem State.modNw_nw (s : State) (f : NetSt → NetSt) : (s.modNw f).nw = f s.nw := (rfl)
@[simp] theorem State.modNw_safe (s : State) (f : NetSt → NetSt) : (s.modNw f).safe = s.safe := (rfl)
@[simp] theorem State.modNw_rm (s : State) (f : NetSt → NetSt) : (s.modNw f).rm = s.rm := (rfl)
@[simp] theorem State.modNw_tw (s : State) (f : NetSt → NetSt) : (s.modNw f).tw = s.tw := (rfl)
@[simp] theorem State.modNw_sec (s : State) (f : NetSt → NetSt) : (s.modNw f).sec = s.sec := (rfl)
@[simp] theorem State.modNw_io (s : State) (f : NetSt → NetSt) : (s.modNw f).io = s.io := (rfl)
@[simp] theorem State.modNw_cans (s : State) (f : NetSt → NetSt) : (s.modNw f).cans = s.cans := (rfl)
@[simp] theorem State.modNw_acq (s : State) (f : NetSt → NetSt) : (s.modNw f).acq = s.acq := (rfl)
@[simp] theorem State.modNw_log (s : State) (f : NetSt → NetSt) : (s.modNw f).log = s.log := (rfl)
@[simp] theorem State.modNw_host (s : State) (f : NetSt → NetSt) : (s.modNw f).host = s.host := (rfl)
@[simp] theorem State.modNw_pw (s : State) (f : NetSt → NetSt) : (s.modNw f).pw = s.pw := (rfl)
@[simp] theorem State.modNw_rd (s : State) (f : NetSt → NetSt) (j : Nat) : (s.modNw f).rd j = s.rd j := (rfl)
@[simp] theorem State.modNw_canonical (s : State) (f : NetSt → NetSt) : (s.modNw f).canonical = s.canonical := (rfl)
@[simp] theorem State.modNw_ard (s : State) (f : NetSt → NetSt) (j : Nat) : (s.modNw f).ard j = s.ard j := (rfl)
/-! `State.modPort` -/
@[simp] theorem State.modPort_pending (s : State) (n : Nat) (f : EPort → EPort) : (s.modPort n f).pending = s.pending := (rfl)
@[simp] theorem State.modPort_regs (s : State) (n : Nat) (f : EPort → EPort) : (s.modPort n f).regs = s.regs := (rfl)
@[simp] theorem State.modPort_act (s : State) (n : Nat) (f : EPort → EPort) : (s.modPort n f).act = s.act := (rfl)
@[simp] theorem State.modPort_mem (s : State) (n : Nat) (f : EPort → EPort) : (s.modPort n f).mem = s.mem := (rfl)
@[simp] theorem State.modPort_variantF (s : State) (n : Nat) (f : EPort → EPort) : (s.modPort n f).variantF = s.variantF := (rfl)
@[simp] theorem State.modPort_events (s : State) (n : Nat) (f : EPort → EPort) : (s.modPort n f).events = s.events := (rfl)
@[simp] theorem State.modPort_vectors (s : State) (n : Nat) (f : EPort → EPort) : (s.modPort n f).vectors = s.vectors := (rfl)
@[simp] theorem State.modPort_freeCount (s : State) (n : Nat) (f : EPort → EPort) : (s.modPort n f).freeCount = s.freeCount := (rfl)
@[simp] theorem State.modPort_time (s : State) (n : Nat) (f : EPort → EPort) : (s.modPort n f).time = s.time := (rfl)
@[simp] theorem State.modPort_grids (s : State) (n : Nat) (f : EPort → EPort) : (s.modPort n f).grids = s.grids := (rfl)
@[simp] theorem State.modPort_reqs (s : State) (n : Nat) (f : EPort → EPort) : (s.modPort n f).reqs = s.reqs := (rfl)
@[simp] theorem State.modPort_ports (s : State) (n : Nat) (f : EPort → EPort) : (s.modPort n f).ports = vmod s.ports n f := (rfl)
@[simp] theorem State.modPort_latches (s : State) (n : Nat) (f : EPort → EPort) : (s.modPort n f).latches = s.latches := (rfl)
@[simp] theorem State.modPort_compares (s : State) (n : Nat) (f : EPort → EPort) : (s.modPort n f).compares = s.compares := (rfl)
@[simp] theorem State.modPort_rcs (s : State) (n : Nat) (f : EPort → EPort) : (s.modPort n f).rcs = s.rcs := (rfl)
@[simp] theorem State.modPort_motion (s : State) (n : Nat) (f : EPort → EPort) : (s.modPort n f).motion = s.motion := (rfl)
@[simp] theorem State.modPort_plans (s : State) (n : Nat) (f : EPort → EPort) : (s.modPort n f).plans = s.plans := (rfl)
@[simp] theorem State.modPort_stops (s : State) (n : Nat) (f : EPort → EPort) : (s.modPort n f).stops = s.stops := (rfl)
@[simp] theorem State.modPort_shafts (s : State) (n : Nat) (f : EPort → EPort) : (s.modPort n f).shafts = s.shafts := (rfl)
@[simp] theorem State.modPort_cams (s : State) (n : Nat) (f : EPort → EPort) : (s.modPort n f).cams = s.cams := (rfl)
@[simp] theorem State.modPort_inflight (s : State) (n : Nat) (f : EPort → EPort) : (s.modPort n f).inflight = s.inflight := (rfl)
@[simp] theorem State.modPort_waits (s : State) (n : Nat) (f : EPort → EPort) : (s.modPort n f).waits = s.waits := (rfl)
@[simp] theorem State.modPort_completions (s : State) (n : Nat) (f : EPort → EPort) : (s.modPort n f).completions = s.completions := (rfl)
@[simp] theorem State.modPort_netAxes (s : State) (n : Nat) (f : EPort → EPort) : (s.modPort n f).netAxes = s.netAxes := (rfl)
@[simp] theorem State.modPort_loops (s : State) (n : Nat) (f : EPort → EPort) : (s.modPort n f).loops = s.loops := (rfl)
@[simp] theorem State.modPort_injs (s : State) (n : Nat) (f : EPort → EPort) : (s.modPort n f).injs = s.injs := (rfl)
@[simp] theorem State.modPort_assign (s : State) (n : Nat) (f : EPort → EPort) : (s.modPort n f).assign = s.assign := (rfl)
@[simp] theorem State.modPort_runQ (s : State) (n : Nat) (f : EPort → EPort) : (s.modPort n f).runQ = s.runQ := (rfl)
@[simp] theorem State.modPort_pwms (s : State) (n : Nat) (f : EPort → EPort) : (s.modPort n f).pwms = s.pwms := (rfl)
@[simp] theorem State.modPort_trips (s : State) (n : Nat) (f : EPort → EPort) : (s.modPort n f).trips = s.trips := (rfl)
@[simp] theorem State.modPort_atcs (s : State) (n : Nat) (f : EPort → EPort) : (s.modPort n f).atcs = s.atcs := (rfl)
@[simp] theorem State.modPort_sds (s : State) (n : Nat) (f : EPort → EPort) : (s.modPort n f).sds = s.sds := (rfl)
@[simp] theorem State.modPort_cles (s : State) (n : Nat) (f : EPort → EPort) : (s.modPort n f).cles = s.cles := (rfl)
@[simp] theorem State.modPort_rdata (s : State) (n : Nat) (f : EPort → EPort) : (s.modPort n f).rdata = s.rdata := (rfl)
@[simp] theorem State.modPort_groom (s : State) (n : Nat) (f : EPort → EPort) : (s.modPort n f).groom = s.groom := (rfl)
@[simp] theorem State.modPort_stalls (s : State) (n : Nat) (f : EPort → EPort) : (s.modPort n f).stalls = s.stalls := (rfl)
@[simp] theorem State.modPort_agents (s : State) (n : Nat) (f : EPort → EPort) : (s.modPort n f).agents = s.agents := (rfl)
@[simp] theorem State.modPort_xtime (s : State) (n : Nat) (f : EPort → EPort) : (s.modPort n f).xtime = s.xtime := (rfl)
@[simp] theorem State.modPort_locks (s : State) (n : Nat) (f : EPort → EPort) : (s.modPort n f).locks = s.locks := (rfl)
@[simp] theorem State.modPort_lockPtr (s : State) (n : Nat) (f : EPort → EPort) : (s.modPort n f).lockPtr = s.lockPtr := (rfl)
@[simp] theorem State.modPort_lps (s : State) (n : Nat) (f : EPort → EPort) : (s.modPort n f).lps = s.lps := (rfl)
@[simp] theorem State.modPort_nw (s : State) (n : Nat) (f : EPort → EPort) : (s.modPort n f).nw = s.nw := (rfl)
@[simp] theorem State.modPort_safe (s : State) (n : Nat) (f : EPort → EPort) : (s.modPort n f).safe = s.safe := (rfl)
@[simp] theorem State.modPort_rm (s : State) (n : Nat) (f : EPort → EPort) : (s.modPort n f).rm = s.rm := (rfl)
@[simp] theorem State.modPort_tw (s : State) (n : Nat) (f : EPort → EPort) : (s.modPort n f).tw = s.tw := (rfl)
@[simp] theorem State.modPort_sec (s : State) (n : Nat) (f : EPort → EPort) : (s.modPort n f).sec = s.sec := (rfl)
@[simp] theorem State.modPort_io (s : State) (n : Nat) (f : EPort → EPort) : (s.modPort n f).io = s.io := (rfl)
@[simp] theorem State.modPort_cans (s : State) (n : Nat) (f : EPort → EPort) : (s.modPort n f).cans = s.cans := (rfl)
@[simp] theorem State.modPort_acq (s : State) (n : Nat) (f : EPort → EPort) : (s.modPort n f).acq = s.acq := (rfl)
@[simp] theorem State.modPort_log (s : State) (n : Nat) (f : EPort → EPort) : (s.modPort n f).log = s.log := (rfl)
@[simp] theorem State.modPort_host (s : State) (n : Nat) (f : EPort → EPort) : (s.modPort n f).host = s.host := (rfl)
@[simp] theorem State.modPort_pw (s : State) (n : Nat) (f : EPort → EPort) : (s.modPort n f).pw = s.pw := (rfl)
@[simp] theorem State.modPort_rd (s : State) (n : Nat) (f : EPort → EPort) (j : Nat) : (s.modPort n f).rd j = s.rd j := (rfl)
@[simp] theorem State.modPort_canonical (s : State) (n : Nat) (f : EPort → EPort) : (s.modPort n f).canonical = s.canonical := (rfl)
@[simp] theorem State.modPort_ard (s : State) (n : Nat) (f : EPort → EPort) (j : Nat) : (s.modPort n f).ard j = s.ard j := (rfl)
/-! `State.modLatch` -/
@[simp] theorem State.modLatch_pending (s : State) (n : Nat) (f : LatchSt → LatchSt) : (s.modLatch n f).pending = s.pending := (rfl)
@[simp] theorem State.modLatch_regs (s : State) (n : Nat) (f : LatchSt → LatchSt) : (s.modLatch n f).regs = s.regs := (rfl)
@[simp] theorem State.modLatch_act (s : State) (n : Nat) (f : LatchSt → LatchSt) : (s.modLatch n f).act = s.act := (rfl)
@[simp] theorem State.modLatch_mem (s : State) (n : Nat) (f : LatchSt → LatchSt) : (s.modLatch n f).mem = s.mem := (rfl)
@[simp] theorem State.modLatch_variantF (s : State) (n : Nat) (f : LatchSt → LatchSt) : (s.modLatch n f).variantF = s.variantF := (rfl)
@[simp] theorem State.modLatch_events (s : State) (n : Nat) (f : LatchSt → LatchSt) : (s.modLatch n f).events = s.events := (rfl)
@[simp] theorem State.modLatch_vectors (s : State) (n : Nat) (f : LatchSt → LatchSt) : (s.modLatch n f).vectors = s.vectors := (rfl)
@[simp] theorem State.modLatch_freeCount (s : State) (n : Nat) (f : LatchSt → LatchSt) : (s.modLatch n f).freeCount = s.freeCount := (rfl)
@[simp] theorem State.modLatch_time (s : State) (n : Nat) (f : LatchSt → LatchSt) : (s.modLatch n f).time = s.time := (rfl)
@[simp] theorem State.modLatch_grids (s : State) (n : Nat) (f : LatchSt → LatchSt) : (s.modLatch n f).grids = s.grids := (rfl)
@[simp] theorem State.modLatch_reqs (s : State) (n : Nat) (f : LatchSt → LatchSt) : (s.modLatch n f).reqs = s.reqs := (rfl)
@[simp] theorem State.modLatch_ports (s : State) (n : Nat) (f : LatchSt → LatchSt) : (s.modLatch n f).ports = s.ports := (rfl)
@[simp] theorem State.modLatch_latches (s : State) (n : Nat) (f : LatchSt → LatchSt) : (s.modLatch n f).latches = vmod s.latches n f := (rfl)
@[simp] theorem State.modLatch_compares (s : State) (n : Nat) (f : LatchSt → LatchSt) : (s.modLatch n f).compares = s.compares := (rfl)
@[simp] theorem State.modLatch_rcs (s : State) (n : Nat) (f : LatchSt → LatchSt) : (s.modLatch n f).rcs = s.rcs := (rfl)
@[simp] theorem State.modLatch_motion (s : State) (n : Nat) (f : LatchSt → LatchSt) : (s.modLatch n f).motion = s.motion := (rfl)
@[simp] theorem State.modLatch_plans (s : State) (n : Nat) (f : LatchSt → LatchSt) : (s.modLatch n f).plans = s.plans := (rfl)
@[simp] theorem State.modLatch_stops (s : State) (n : Nat) (f : LatchSt → LatchSt) : (s.modLatch n f).stops = s.stops := (rfl)
@[simp] theorem State.modLatch_shafts (s : State) (n : Nat) (f : LatchSt → LatchSt) : (s.modLatch n f).shafts = s.shafts := (rfl)
@[simp] theorem State.modLatch_cams (s : State) (n : Nat) (f : LatchSt → LatchSt) : (s.modLatch n f).cams = s.cams := (rfl)
@[simp] theorem State.modLatch_inflight (s : State) (n : Nat) (f : LatchSt → LatchSt) : (s.modLatch n f).inflight = s.inflight := (rfl)
@[simp] theorem State.modLatch_waits (s : State) (n : Nat) (f : LatchSt → LatchSt) : (s.modLatch n f).waits = s.waits := (rfl)
@[simp] theorem State.modLatch_completions (s : State) (n : Nat) (f : LatchSt → LatchSt) : (s.modLatch n f).completions = s.completions := (rfl)
@[simp] theorem State.modLatch_netAxes (s : State) (n : Nat) (f : LatchSt → LatchSt) : (s.modLatch n f).netAxes = s.netAxes := (rfl)
@[simp] theorem State.modLatch_loops (s : State) (n : Nat) (f : LatchSt → LatchSt) : (s.modLatch n f).loops = s.loops := (rfl)
@[simp] theorem State.modLatch_injs (s : State) (n : Nat) (f : LatchSt → LatchSt) : (s.modLatch n f).injs = s.injs := (rfl)
@[simp] theorem State.modLatch_assign (s : State) (n : Nat) (f : LatchSt → LatchSt) : (s.modLatch n f).assign = s.assign := (rfl)
@[simp] theorem State.modLatch_runQ (s : State) (n : Nat) (f : LatchSt → LatchSt) : (s.modLatch n f).runQ = s.runQ := (rfl)
@[simp] theorem State.modLatch_pwms (s : State) (n : Nat) (f : LatchSt → LatchSt) : (s.modLatch n f).pwms = s.pwms := (rfl)
@[simp] theorem State.modLatch_trips (s : State) (n : Nat) (f : LatchSt → LatchSt) : (s.modLatch n f).trips = s.trips := (rfl)
@[simp] theorem State.modLatch_atcs (s : State) (n : Nat) (f : LatchSt → LatchSt) : (s.modLatch n f).atcs = s.atcs := (rfl)
@[simp] theorem State.modLatch_sds (s : State) (n : Nat) (f : LatchSt → LatchSt) : (s.modLatch n f).sds = s.sds := (rfl)
@[simp] theorem State.modLatch_cles (s : State) (n : Nat) (f : LatchSt → LatchSt) : (s.modLatch n f).cles = s.cles := (rfl)
@[simp] theorem State.modLatch_rdata (s : State) (n : Nat) (f : LatchSt → LatchSt) : (s.modLatch n f).rdata = s.rdata := (rfl)
@[simp] theorem State.modLatch_groom (s : State) (n : Nat) (f : LatchSt → LatchSt) : (s.modLatch n f).groom = s.groom := (rfl)
@[simp] theorem State.modLatch_stalls (s : State) (n : Nat) (f : LatchSt → LatchSt) : (s.modLatch n f).stalls = s.stalls := (rfl)
@[simp] theorem State.modLatch_agents (s : State) (n : Nat) (f : LatchSt → LatchSt) : (s.modLatch n f).agents = s.agents := (rfl)
@[simp] theorem State.modLatch_xtime (s : State) (n : Nat) (f : LatchSt → LatchSt) : (s.modLatch n f).xtime = s.xtime := (rfl)
@[simp] theorem State.modLatch_locks (s : State) (n : Nat) (f : LatchSt → LatchSt) : (s.modLatch n f).locks = s.locks := (rfl)
@[simp] theorem State.modLatch_lockPtr (s : State) (n : Nat) (f : LatchSt → LatchSt) : (s.modLatch n f).lockPtr = s.lockPtr := (rfl)
@[simp] theorem State.modLatch_lps (s : State) (n : Nat) (f : LatchSt → LatchSt) : (s.modLatch n f).lps = s.lps := (rfl)
@[simp] theorem State.modLatch_nw (s : State) (n : Nat) (f : LatchSt → LatchSt) : (s.modLatch n f).nw = s.nw := (rfl)
@[simp] theorem State.modLatch_safe (s : State) (n : Nat) (f : LatchSt → LatchSt) : (s.modLatch n f).safe = s.safe := (rfl)
@[simp] theorem State.modLatch_rm (s : State) (n : Nat) (f : LatchSt → LatchSt) : (s.modLatch n f).rm = s.rm := (rfl)
@[simp] theorem State.modLatch_tw (s : State) (n : Nat) (f : LatchSt → LatchSt) : (s.modLatch n f).tw = s.tw := (rfl)
@[simp] theorem State.modLatch_sec (s : State) (n : Nat) (f : LatchSt → LatchSt) : (s.modLatch n f).sec = s.sec := (rfl)
@[simp] theorem State.modLatch_io (s : State) (n : Nat) (f : LatchSt → LatchSt) : (s.modLatch n f).io = s.io := (rfl)
@[simp] theorem State.modLatch_cans (s : State) (n : Nat) (f : LatchSt → LatchSt) : (s.modLatch n f).cans = s.cans := (rfl)
@[simp] theorem State.modLatch_acq (s : State) (n : Nat) (f : LatchSt → LatchSt) : (s.modLatch n f).acq = s.acq := (rfl)
@[simp] theorem State.modLatch_log (s : State) (n : Nat) (f : LatchSt → LatchSt) : (s.modLatch n f).log = s.log := (rfl)
@[simp] theorem State.modLatch_host (s : State) (n : Nat) (f : LatchSt → LatchSt) : (s.modLatch n f).host = s.host := (rfl)
@[simp] theorem State.modLatch_pw (s : State) (n : Nat) (f : LatchSt → LatchSt) : (s.modLatch n f).pw = s.pw := (rfl)
@[simp] theorem State.modLatch_rd (s : State) (n : Nat) (f : LatchSt → LatchSt) (j : Nat) : (s.modLatch n f).rd j = s.rd j := (rfl)
@[simp] theorem State.modLatch_canonical (s : State) (n : Nat) (f : LatchSt → LatchSt) : (s.modLatch n f).canonical = s.canonical := (rfl)
@[simp] theorem State.modLatch_ard (s : State) (n : Nat) (f : LatchSt → LatchSt) (j : Nat) : (s.modLatch n f).ard j = s.ard j := (rfl)
/-! `State.modCompare` -/
@[simp] theorem State.modCompare_pending (s : State) (n : Nat) (f : CompareSt → CompareSt) : (s.modCompare n f).pending = s.pending := (rfl)
@[simp] theorem State.modCompare_regs (s : State) (n : Nat) (f : CompareSt → CompareSt) : (s.modCompare n f).regs = s.regs := (rfl)
@[simp] theorem State.modCompare_act (s : State) (n : Nat) (f : CompareSt → CompareSt) : (s.modCompare n f).act = s.act := (rfl)
@[simp] theorem State.modCompare_mem (s : State) (n : Nat) (f : CompareSt → CompareSt) : (s.modCompare n f).mem = s.mem := (rfl)
@[simp] theorem State.modCompare_variantF (s : State) (n : Nat) (f : CompareSt → CompareSt) : (s.modCompare n f).variantF = s.variantF := (rfl)
@[simp] theorem State.modCompare_events (s : State) (n : Nat) (f : CompareSt → CompareSt) : (s.modCompare n f).events = s.events := (rfl)
@[simp] theorem State.modCompare_vectors (s : State) (n : Nat) (f : CompareSt → CompareSt) : (s.modCompare n f).vectors = s.vectors := (rfl)
@[simp] theorem State.modCompare_freeCount (s : State) (n : Nat) (f : CompareSt → CompareSt) : (s.modCompare n f).freeCount = s.freeCount := (rfl)
@[simp] theorem State.modCompare_time (s : State) (n : Nat) (f : CompareSt → CompareSt) : (s.modCompare n f).time = s.time := (rfl)
@[simp] theorem State.modCompare_grids (s : State) (n : Nat) (f : CompareSt → CompareSt) : (s.modCompare n f).grids = s.grids := (rfl)
@[simp] theorem State.modCompare_reqs (s : State) (n : Nat) (f : CompareSt → CompareSt) : (s.modCompare n f).reqs = s.reqs := (rfl)
@[simp] theorem State.modCompare_ports (s : State) (n : Nat) (f : CompareSt → CompareSt) : (s.modCompare n f).ports = s.ports := (rfl)
@[simp] theorem State.modCompare_latches (s : State) (n : Nat) (f : CompareSt → CompareSt) : (s.modCompare n f).latches = s.latches := (rfl)
@[simp] theorem State.modCompare_compares (s : State) (n : Nat) (f : CompareSt → CompareSt) : (s.modCompare n f).compares = vmod s.compares n f := (rfl)
@[simp] theorem State.modCompare_rcs (s : State) (n : Nat) (f : CompareSt → CompareSt) : (s.modCompare n f).rcs = s.rcs := (rfl)
@[simp] theorem State.modCompare_motion (s : State) (n : Nat) (f : CompareSt → CompareSt) : (s.modCompare n f).motion = s.motion := (rfl)
@[simp] theorem State.modCompare_plans (s : State) (n : Nat) (f : CompareSt → CompareSt) : (s.modCompare n f).plans = s.plans := (rfl)
@[simp] theorem State.modCompare_stops (s : State) (n : Nat) (f : CompareSt → CompareSt) : (s.modCompare n f).stops = s.stops := (rfl)
@[simp] theorem State.modCompare_shafts (s : State) (n : Nat) (f : CompareSt → CompareSt) : (s.modCompare n f).shafts = s.shafts := (rfl)
@[simp] theorem State.modCompare_cams (s : State) (n : Nat) (f : CompareSt → CompareSt) : (s.modCompare n f).cams = s.cams := (rfl)
@[simp] theorem State.modCompare_inflight (s : State) (n : Nat) (f : CompareSt → CompareSt) : (s.modCompare n f).inflight = s.inflight := (rfl)
@[simp] theorem State.modCompare_waits (s : State) (n : Nat) (f : CompareSt → CompareSt) : (s.modCompare n f).waits = s.waits := (rfl)
@[simp] theorem State.modCompare_completions (s : State) (n : Nat) (f : CompareSt → CompareSt) : (s.modCompare n f).completions = s.completions := (rfl)
@[simp] theorem State.modCompare_netAxes (s : State) (n : Nat) (f : CompareSt → CompareSt) : (s.modCompare n f).netAxes = s.netAxes := (rfl)
@[simp] theorem State.modCompare_loops (s : State) (n : Nat) (f : CompareSt → CompareSt) : (s.modCompare n f).loops = s.loops := (rfl)
@[simp] theorem State.modCompare_injs (s : State) (n : Nat) (f : CompareSt → CompareSt) : (s.modCompare n f).injs = s.injs := (rfl)
@[simp] theorem State.modCompare_assign (s : State) (n : Nat) (f : CompareSt → CompareSt) : (s.modCompare n f).assign = s.assign := (rfl)
@[simp] theorem State.modCompare_runQ (s : State) (n : Nat) (f : CompareSt → CompareSt) : (s.modCompare n f).runQ = s.runQ := (rfl)
@[simp] theorem State.modCompare_pwms (s : State) (n : Nat) (f : CompareSt → CompareSt) : (s.modCompare n f).pwms = s.pwms := (rfl)
@[simp] theorem State.modCompare_trips (s : State) (n : Nat) (f : CompareSt → CompareSt) : (s.modCompare n f).trips = s.trips := (rfl)
@[simp] theorem State.modCompare_atcs (s : State) (n : Nat) (f : CompareSt → CompareSt) : (s.modCompare n f).atcs = s.atcs := (rfl)
@[simp] theorem State.modCompare_sds (s : State) (n : Nat) (f : CompareSt → CompareSt) : (s.modCompare n f).sds = s.sds := (rfl)
@[simp] theorem State.modCompare_cles (s : State) (n : Nat) (f : CompareSt → CompareSt) : (s.modCompare n f).cles = s.cles := (rfl)
@[simp] theorem State.modCompare_rdata (s : State) (n : Nat) (f : CompareSt → CompareSt) : (s.modCompare n f).rdata = s.rdata := (rfl)
@[simp] theorem State.modCompare_groom (s : State) (n : Nat) (f : CompareSt → CompareSt) : (s.modCompare n f).groom = s.groom := (rfl)
@[simp] theorem State.modCompare_stalls (s : State) (n : Nat) (f : CompareSt → CompareSt) : (s.modCompare n f).stalls = s.stalls := (rfl)
@[simp] theorem State.modCompare_agents (s : State) (n : Nat) (f : CompareSt → CompareSt) : (s.modCompare n f).agents = s.agents := (rfl)
@[simp] theorem State.modCompare_xtime (s : State) (n : Nat) (f : CompareSt → CompareSt) : (s.modCompare n f).xtime = s.xtime := (rfl)
@[simp] theorem State.modCompare_locks (s : State) (n : Nat) (f : CompareSt → CompareSt) : (s.modCompare n f).locks = s.locks := (rfl)
@[simp] theorem State.modCompare_lockPtr (s : State) (n : Nat) (f : CompareSt → CompareSt) : (s.modCompare n f).lockPtr = s.lockPtr := (rfl)
@[simp] theorem State.modCompare_lps (s : State) (n : Nat) (f : CompareSt → CompareSt) : (s.modCompare n f).lps = s.lps := (rfl)
@[simp] theorem State.modCompare_nw (s : State) (n : Nat) (f : CompareSt → CompareSt) : (s.modCompare n f).nw = s.nw := (rfl)
@[simp] theorem State.modCompare_safe (s : State) (n : Nat) (f : CompareSt → CompareSt) : (s.modCompare n f).safe = s.safe := (rfl)
@[simp] theorem State.modCompare_rm (s : State) (n : Nat) (f : CompareSt → CompareSt) : (s.modCompare n f).rm = s.rm := (rfl)
@[simp] theorem State.modCompare_tw (s : State) (n : Nat) (f : CompareSt → CompareSt) : (s.modCompare n f).tw = s.tw := (rfl)
@[simp] theorem State.modCompare_sec (s : State) (n : Nat) (f : CompareSt → CompareSt) : (s.modCompare n f).sec = s.sec := (rfl)
@[simp] theorem State.modCompare_io (s : State) (n : Nat) (f : CompareSt → CompareSt) : (s.modCompare n f).io = s.io := (rfl)
@[simp] theorem State.modCompare_cans (s : State) (n : Nat) (f : CompareSt → CompareSt) : (s.modCompare n f).cans = s.cans := (rfl)
@[simp] theorem State.modCompare_acq (s : State) (n : Nat) (f : CompareSt → CompareSt) : (s.modCompare n f).acq = s.acq := (rfl)
@[simp] theorem State.modCompare_log (s : State) (n : Nat) (f : CompareSt → CompareSt) : (s.modCompare n f).log = s.log := (rfl)
@[simp] theorem State.modCompare_host (s : State) (n : Nat) (f : CompareSt → CompareSt) : (s.modCompare n f).host = s.host := (rfl)
@[simp] theorem State.modCompare_pw (s : State) (n : Nat) (f : CompareSt → CompareSt) : (s.modCompare n f).pw = s.pw := (rfl)
@[simp] theorem State.modCompare_rd (s : State) (n : Nat) (f : CompareSt → CompareSt) (j : Nat) : (s.modCompare n f).rd j = s.rd j := (rfl)
@[simp] theorem State.modCompare_canonical (s : State) (n : Nat) (f : CompareSt → CompareSt) : (s.modCompare n f).canonical = s.canonical := (rfl)
@[simp] theorem State.modCompare_ard (s : State) (n : Nat) (f : CompareSt → CompareSt) (j : Nat) : (s.modCompare n f).ard j = s.ard j := (rfl)
/-! `State.modRc` -/
@[simp] theorem State.modRc_pending (s : State) (n : Nat) (f : RcSt → RcSt) : (s.modRc n f).pending = s.pending := (rfl)
@[simp] theorem State.modRc_regs (s : State) (n : Nat) (f : RcSt → RcSt) : (s.modRc n f).regs = s.regs := (rfl)
@[simp] theorem State.modRc_act (s : State) (n : Nat) (f : RcSt → RcSt) : (s.modRc n f).act = s.act := (rfl)
@[simp] theorem State.modRc_mem (s : State) (n : Nat) (f : RcSt → RcSt) : (s.modRc n f).mem = s.mem := (rfl)
@[simp] theorem State.modRc_variantF (s : State) (n : Nat) (f : RcSt → RcSt) : (s.modRc n f).variantF = s.variantF := (rfl)
@[simp] theorem State.modRc_events (s : State) (n : Nat) (f : RcSt → RcSt) : (s.modRc n f).events = s.events := (rfl)
@[simp] theorem State.modRc_vectors (s : State) (n : Nat) (f : RcSt → RcSt) : (s.modRc n f).vectors = s.vectors := (rfl)
@[simp] theorem State.modRc_freeCount (s : State) (n : Nat) (f : RcSt → RcSt) : (s.modRc n f).freeCount = s.freeCount := (rfl)
@[simp] theorem State.modRc_time (s : State) (n : Nat) (f : RcSt → RcSt) : (s.modRc n f).time = s.time := (rfl)
@[simp] theorem State.modRc_grids (s : State) (n : Nat) (f : RcSt → RcSt) : (s.modRc n f).grids = s.grids := (rfl)
@[simp] theorem State.modRc_reqs (s : State) (n : Nat) (f : RcSt → RcSt) : (s.modRc n f).reqs = s.reqs := (rfl)
@[simp] theorem State.modRc_ports (s : State) (n : Nat) (f : RcSt → RcSt) : (s.modRc n f).ports = s.ports := (rfl)
@[simp] theorem State.modRc_latches (s : State) (n : Nat) (f : RcSt → RcSt) : (s.modRc n f).latches = s.latches := (rfl)
@[simp] theorem State.modRc_compares (s : State) (n : Nat) (f : RcSt → RcSt) : (s.modRc n f).compares = s.compares := (rfl)
@[simp] theorem State.modRc_rcs (s : State) (n : Nat) (f : RcSt → RcSt) : (s.modRc n f).rcs = vmod s.rcs n f := (rfl)
@[simp] theorem State.modRc_motion (s : State) (n : Nat) (f : RcSt → RcSt) : (s.modRc n f).motion = s.motion := (rfl)
@[simp] theorem State.modRc_plans (s : State) (n : Nat) (f : RcSt → RcSt) : (s.modRc n f).plans = s.plans := (rfl)
@[simp] theorem State.modRc_stops (s : State) (n : Nat) (f : RcSt → RcSt) : (s.modRc n f).stops = s.stops := (rfl)
@[simp] theorem State.modRc_shafts (s : State) (n : Nat) (f : RcSt → RcSt) : (s.modRc n f).shafts = s.shafts := (rfl)
@[simp] theorem State.modRc_cams (s : State) (n : Nat) (f : RcSt → RcSt) : (s.modRc n f).cams = s.cams := (rfl)
@[simp] theorem State.modRc_inflight (s : State) (n : Nat) (f : RcSt → RcSt) : (s.modRc n f).inflight = s.inflight := (rfl)
@[simp] theorem State.modRc_waits (s : State) (n : Nat) (f : RcSt → RcSt) : (s.modRc n f).waits = s.waits := (rfl)
@[simp] theorem State.modRc_completions (s : State) (n : Nat) (f : RcSt → RcSt) : (s.modRc n f).completions = s.completions := (rfl)
@[simp] theorem State.modRc_netAxes (s : State) (n : Nat) (f : RcSt → RcSt) : (s.modRc n f).netAxes = s.netAxes := (rfl)
@[simp] theorem State.modRc_loops (s : State) (n : Nat) (f : RcSt → RcSt) : (s.modRc n f).loops = s.loops := (rfl)
@[simp] theorem State.modRc_injs (s : State) (n : Nat) (f : RcSt → RcSt) : (s.modRc n f).injs = s.injs := (rfl)
@[simp] theorem State.modRc_assign (s : State) (n : Nat) (f : RcSt → RcSt) : (s.modRc n f).assign = s.assign := (rfl)
@[simp] theorem State.modRc_runQ (s : State) (n : Nat) (f : RcSt → RcSt) : (s.modRc n f).runQ = s.runQ := (rfl)
@[simp] theorem State.modRc_pwms (s : State) (n : Nat) (f : RcSt → RcSt) : (s.modRc n f).pwms = s.pwms := (rfl)
@[simp] theorem State.modRc_trips (s : State) (n : Nat) (f : RcSt → RcSt) : (s.modRc n f).trips = s.trips := (rfl)
@[simp] theorem State.modRc_atcs (s : State) (n : Nat) (f : RcSt → RcSt) : (s.modRc n f).atcs = s.atcs := (rfl)
@[simp] theorem State.modRc_sds (s : State) (n : Nat) (f : RcSt → RcSt) : (s.modRc n f).sds = s.sds := (rfl)
@[simp] theorem State.modRc_cles (s : State) (n : Nat) (f : RcSt → RcSt) : (s.modRc n f).cles = s.cles := (rfl)
@[simp] theorem State.modRc_rdata (s : State) (n : Nat) (f : RcSt → RcSt) : (s.modRc n f).rdata = s.rdata := (rfl)
@[simp] theorem State.modRc_groom (s : State) (n : Nat) (f : RcSt → RcSt) : (s.modRc n f).groom = s.groom := (rfl)
@[simp] theorem State.modRc_stalls (s : State) (n : Nat) (f : RcSt → RcSt) : (s.modRc n f).stalls = s.stalls := (rfl)
@[simp] theorem State.modRc_agents (s : State) (n : Nat) (f : RcSt → RcSt) : (s.modRc n f).agents = s.agents := (rfl)
@[simp] theorem State.modRc_xtime (s : State) (n : Nat) (f : RcSt → RcSt) : (s.modRc n f).xtime = s.xtime := (rfl)
@[simp] theorem State.modRc_locks (s : State) (n : Nat) (f : RcSt → RcSt) : (s.modRc n f).locks = s.locks := (rfl)
@[simp] theorem State.modRc_lockPtr (s : State) (n : Nat) (f : RcSt → RcSt) : (s.modRc n f).lockPtr = s.lockPtr := (rfl)
@[simp] theorem State.modRc_lps (s : State) (n : Nat) (f : RcSt → RcSt) : (s.modRc n f).lps = s.lps := (rfl)
@[simp] theorem State.modRc_nw (s : State) (n : Nat) (f : RcSt → RcSt) : (s.modRc n f).nw = s.nw := (rfl)
@[simp] theorem State.modRc_safe (s : State) (n : Nat) (f : RcSt → RcSt) : (s.modRc n f).safe = s.safe := (rfl)
@[simp] theorem State.modRc_rm (s : State) (n : Nat) (f : RcSt → RcSt) : (s.modRc n f).rm = s.rm := (rfl)
@[simp] theorem State.modRc_tw (s : State) (n : Nat) (f : RcSt → RcSt) : (s.modRc n f).tw = s.tw := (rfl)
@[simp] theorem State.modRc_sec (s : State) (n : Nat) (f : RcSt → RcSt) : (s.modRc n f).sec = s.sec := (rfl)
@[simp] theorem State.modRc_io (s : State) (n : Nat) (f : RcSt → RcSt) : (s.modRc n f).io = s.io := (rfl)
@[simp] theorem State.modRc_cans (s : State) (n : Nat) (f : RcSt → RcSt) : (s.modRc n f).cans = s.cans := (rfl)
@[simp] theorem State.modRc_acq (s : State) (n : Nat) (f : RcSt → RcSt) : (s.modRc n f).acq = s.acq := (rfl)
@[simp] theorem State.modRc_log (s : State) (n : Nat) (f : RcSt → RcSt) : (s.modRc n f).log = s.log := (rfl)
@[simp] theorem State.modRc_host (s : State) (n : Nat) (f : RcSt → RcSt) : (s.modRc n f).host = s.host := (rfl)
@[simp] theorem State.modRc_pw (s : State) (n : Nat) (f : RcSt → RcSt) : (s.modRc n f).pw = s.pw := (rfl)
@[simp] theorem State.modRc_rd (s : State) (n : Nat) (f : RcSt → RcSt) (j : Nat) : (s.modRc n f).rd j = s.rd j := (rfl)
@[simp] theorem State.modRc_canonical (s : State) (n : Nat) (f : RcSt → RcSt) : (s.modRc n f).canonical = s.canonical := (rfl)
@[simp] theorem State.modRc_ard (s : State) (n : Nat) (f : RcSt → RcSt) (j : Nat) : (s.modRc n f).ard j = s.ard j := (rfl)
/-! `State.modGrid` -/
@[simp] theorem State.modGrid_pending (s : State) (n : Nat) (f : GridSt → GridSt) : (s.modGrid n f).pending = s.pending := (rfl)
@[simp] theorem State.modGrid_regs (s : State) (n : Nat) (f : GridSt → GridSt) : (s.modGrid n f).regs = s.regs := (rfl)
@[simp] theorem State.modGrid_act (s : State) (n : Nat) (f : GridSt → GridSt) : (s.modGrid n f).act = s.act := (rfl)
@[simp] theorem State.modGrid_mem (s : State) (n : Nat) (f : GridSt → GridSt) : (s.modGrid n f).mem = s.mem := (rfl)
@[simp] theorem State.modGrid_variantF (s : State) (n : Nat) (f : GridSt → GridSt) : (s.modGrid n f).variantF = s.variantF := (rfl)
@[simp] theorem State.modGrid_events (s : State) (n : Nat) (f : GridSt → GridSt) : (s.modGrid n f).events = s.events := (rfl)
@[simp] theorem State.modGrid_vectors (s : State) (n : Nat) (f : GridSt → GridSt) : (s.modGrid n f).vectors = s.vectors := (rfl)
@[simp] theorem State.modGrid_freeCount (s : State) (n : Nat) (f : GridSt → GridSt) : (s.modGrid n f).freeCount = s.freeCount := (rfl)
@[simp] theorem State.modGrid_time (s : State) (n : Nat) (f : GridSt → GridSt) : (s.modGrid n f).time = s.time := (rfl)
@[simp] theorem State.modGrid_grids (s : State) (n : Nat) (f : GridSt → GridSt) : (s.modGrid n f).grids = vmod s.grids n f := (rfl)
@[simp] theorem State.modGrid_reqs (s : State) (n : Nat) (f : GridSt → GridSt) : (s.modGrid n f).reqs = s.reqs := (rfl)
@[simp] theorem State.modGrid_ports (s : State) (n : Nat) (f : GridSt → GridSt) : (s.modGrid n f).ports = s.ports := (rfl)
@[simp] theorem State.modGrid_latches (s : State) (n : Nat) (f : GridSt → GridSt) : (s.modGrid n f).latches = s.latches := (rfl)
@[simp] theorem State.modGrid_compares (s : State) (n : Nat) (f : GridSt → GridSt) : (s.modGrid n f).compares = s.compares := (rfl)
@[simp] theorem State.modGrid_rcs (s : State) (n : Nat) (f : GridSt → GridSt) : (s.modGrid n f).rcs = s.rcs := (rfl)
@[simp] theorem State.modGrid_motion (s : State) (n : Nat) (f : GridSt → GridSt) : (s.modGrid n f).motion = s.motion := (rfl)
@[simp] theorem State.modGrid_plans (s : State) (n : Nat) (f : GridSt → GridSt) : (s.modGrid n f).plans = s.plans := (rfl)
@[simp] theorem State.modGrid_stops (s : State) (n : Nat) (f : GridSt → GridSt) : (s.modGrid n f).stops = s.stops := (rfl)
@[simp] theorem State.modGrid_shafts (s : State) (n : Nat) (f : GridSt → GridSt) : (s.modGrid n f).shafts = s.shafts := (rfl)
@[simp] theorem State.modGrid_cams (s : State) (n : Nat) (f : GridSt → GridSt) : (s.modGrid n f).cams = s.cams := (rfl)
@[simp] theorem State.modGrid_inflight (s : State) (n : Nat) (f : GridSt → GridSt) : (s.modGrid n f).inflight = s.inflight := (rfl)
@[simp] theorem State.modGrid_waits (s : State) (n : Nat) (f : GridSt → GridSt) : (s.modGrid n f).waits = s.waits := (rfl)
@[simp] theorem State.modGrid_completions (s : State) (n : Nat) (f : GridSt → GridSt) : (s.modGrid n f).completions = s.completions := (rfl)
@[simp] theorem State.modGrid_netAxes (s : State) (n : Nat) (f : GridSt → GridSt) : (s.modGrid n f).netAxes = s.netAxes := (rfl)
@[simp] theorem State.modGrid_loops (s : State) (n : Nat) (f : GridSt → GridSt) : (s.modGrid n f).loops = s.loops := (rfl)
@[simp] theorem State.modGrid_injs (s : State) (n : Nat) (f : GridSt → GridSt) : (s.modGrid n f).injs = s.injs := (rfl)
@[simp] theorem State.modGrid_assign (s : State) (n : Nat) (f : GridSt → GridSt) : (s.modGrid n f).assign = s.assign := (rfl)
@[simp] theorem State.modGrid_runQ (s : State) (n : Nat) (f : GridSt → GridSt) : (s.modGrid n f).runQ = s.runQ := (rfl)
@[simp] theorem State.modGrid_pwms (s : State) (n : Nat) (f : GridSt → GridSt) : (s.modGrid n f).pwms = s.pwms := (rfl)
@[simp] theorem State.modGrid_trips (s : State) (n : Nat) (f : GridSt → GridSt) : (s.modGrid n f).trips = s.trips := (rfl)
@[simp] theorem State.modGrid_atcs (s : State) (n : Nat) (f : GridSt → GridSt) : (s.modGrid n f).atcs = s.atcs := (rfl)
@[simp] theorem State.modGrid_sds (s : State) (n : Nat) (f : GridSt → GridSt) : (s.modGrid n f).sds = s.sds := (rfl)
@[simp] theorem State.modGrid_cles (s : State) (n : Nat) (f : GridSt → GridSt) : (s.modGrid n f).cles = s.cles := (rfl)
@[simp] theorem State.modGrid_rdata (s : State) (n : Nat) (f : GridSt → GridSt) : (s.modGrid n f).rdata = s.rdata := (rfl)
@[simp] theorem State.modGrid_groom (s : State) (n : Nat) (f : GridSt → GridSt) : (s.modGrid n f).groom = s.groom := (rfl)
@[simp] theorem State.modGrid_stalls (s : State) (n : Nat) (f : GridSt → GridSt) : (s.modGrid n f).stalls = s.stalls := (rfl)
@[simp] theorem State.modGrid_agents (s : State) (n : Nat) (f : GridSt → GridSt) : (s.modGrid n f).agents = s.agents := (rfl)
@[simp] theorem State.modGrid_xtime (s : State) (n : Nat) (f : GridSt → GridSt) : (s.modGrid n f).xtime = s.xtime := (rfl)
@[simp] theorem State.modGrid_locks (s : State) (n : Nat) (f : GridSt → GridSt) : (s.modGrid n f).locks = s.locks := (rfl)
@[simp] theorem State.modGrid_lockPtr (s : State) (n : Nat) (f : GridSt → GridSt) : (s.modGrid n f).lockPtr = s.lockPtr := (rfl)
@[simp] theorem State.modGrid_lps (s : State) (n : Nat) (f : GridSt → GridSt) : (s.modGrid n f).lps = s.lps := (rfl)
@[simp] theorem State.modGrid_nw (s : State) (n : Nat) (f : GridSt → GridSt) : (s.modGrid n f).nw = s.nw := (rfl)
@[simp] theorem State.modGrid_safe (s : State) (n : Nat) (f : GridSt → GridSt) : (s.modGrid n f).safe = s.safe := (rfl)
@[simp] theorem State.modGrid_rm (s : State) (n : Nat) (f : GridSt → GridSt) : (s.modGrid n f).rm = s.rm := (rfl)
@[simp] theorem State.modGrid_tw (s : State) (n : Nat) (f : GridSt → GridSt) : (s.modGrid n f).tw = s.tw := (rfl)
@[simp] theorem State.modGrid_sec (s : State) (n : Nat) (f : GridSt → GridSt) : (s.modGrid n f).sec = s.sec := (rfl)
@[simp] theorem State.modGrid_io (s : State) (n : Nat) (f : GridSt → GridSt) : (s.modGrid n f).io = s.io := (rfl)
@[simp] theorem State.modGrid_cans (s : State) (n : Nat) (f : GridSt → GridSt) : (s.modGrid n f).cans = s.cans := (rfl)
@[simp] theorem State.modGrid_acq (s : State) (n : Nat) (f : GridSt → GridSt) : (s.modGrid n f).acq = s.acq := (rfl)
@[simp] theorem State.modGrid_log (s : State) (n : Nat) (f : GridSt → GridSt) : (s.modGrid n f).log = s.log := (rfl)
@[simp] theorem State.modGrid_host (s : State) (n : Nat) (f : GridSt → GridSt) : (s.modGrid n f).host = s.host := (rfl)
@[simp] theorem State.modGrid_pw (s : State) (n : Nat) (f : GridSt → GridSt) : (s.modGrid n f).pw = s.pw := (rfl)
@[simp] theorem State.modGrid_rd (s : State) (n : Nat) (f : GridSt → GridSt) (j : Nat) : (s.modGrid n f).rd j = s.rd j := (rfl)
@[simp] theorem State.modGrid_canonical (s : State) (n : Nat) (f : GridSt → GridSt) : (s.modGrid n f).canonical = s.canonical := (rfl)
@[simp] theorem State.modGrid_ard (s : State) (n : Nat) (f : GridSt → GridSt) (j : Nat) : (s.modGrid n f).ard j = s.ard j := (rfl)
/-! `State.modMo` -/
@[simp] theorem State.modMo_pending (s : State) (n : Nat) (f : AxMo → AxMo) : (s.modMo n f).pending = s.pending := (rfl)
@[simp] theorem State.modMo_regs (s : State) (n : Nat) (f : AxMo → AxMo) : (s.modMo n f).regs = s.regs := (rfl)
@[simp] theorem State.modMo_act (s : State) (n : Nat) (f : AxMo → AxMo) : (s.modMo n f).act = s.act := (rfl)
@[simp] theorem State.modMo_mem (s : State) (n : Nat) (f : AxMo → AxMo) : (s.modMo n f).mem = s.mem := (rfl)
@[simp] theorem State.modMo_variantF (s : State) (n : Nat) (f : AxMo → AxMo) : (s.modMo n f).variantF = s.variantF := (rfl)
@[simp] theorem State.modMo_events (s : State) (n : Nat) (f : AxMo → AxMo) : (s.modMo n f).events = s.events := (rfl)
@[simp] theorem State.modMo_vectors (s : State) (n : Nat) (f : AxMo → AxMo) : (s.modMo n f).vectors = s.vectors := (rfl)
@[simp] theorem State.modMo_freeCount (s : State) (n : Nat) (f : AxMo → AxMo) : (s.modMo n f).freeCount = s.freeCount := (rfl)
@[simp] theorem State.modMo_time (s : State) (n : Nat) (f : AxMo → AxMo) : (s.modMo n f).time = s.time := (rfl)
@[simp] theorem State.modMo_grids (s : State) (n : Nat) (f : AxMo → AxMo) : (s.modMo n f).grids = s.grids := (rfl)
@[simp] theorem State.modMo_reqs (s : State) (n : Nat) (f : AxMo → AxMo) : (s.modMo n f).reqs = s.reqs := (rfl)
@[simp] theorem State.modMo_ports (s : State) (n : Nat) (f : AxMo → AxMo) : (s.modMo n f).ports = s.ports := (rfl)
@[simp] theorem State.modMo_latches (s : State) (n : Nat) (f : AxMo → AxMo) : (s.modMo n f).latches = s.latches := (rfl)
@[simp] theorem State.modMo_compares (s : State) (n : Nat) (f : AxMo → AxMo) : (s.modMo n f).compares = s.compares := (rfl)
@[simp] theorem State.modMo_rcs (s : State) (n : Nat) (f : AxMo → AxMo) : (s.modMo n f).rcs = s.rcs := (rfl)
@[simp] theorem State.modMo_motion (s : State) (n : Nat) (f : AxMo → AxMo) : (s.modMo n f).motion = vmod s.motion n f := (rfl)
@[simp] theorem State.modMo_plans (s : State) (n : Nat) (f : AxMo → AxMo) : (s.modMo n f).plans = s.plans := (rfl)
@[simp] theorem State.modMo_stops (s : State) (n : Nat) (f : AxMo → AxMo) : (s.modMo n f).stops = s.stops := (rfl)
@[simp] theorem State.modMo_shafts (s : State) (n : Nat) (f : AxMo → AxMo) : (s.modMo n f).shafts = s.shafts := (rfl)
@[simp] theorem State.modMo_cams (s : State) (n : Nat) (f : AxMo → AxMo) : (s.modMo n f).cams = s.cams := (rfl)
@[simp] theorem State.modMo_inflight (s : State) (n : Nat) (f : AxMo → AxMo) : (s.modMo n f).inflight = s.inflight := (rfl)
@[simp] theorem State.modMo_waits (s : State) (n : Nat) (f : AxMo → AxMo) : (s.modMo n f).waits = s.waits := (rfl)
@[simp] theorem State.modMo_completions (s : State) (n : Nat) (f : AxMo → AxMo) : (s.modMo n f).completions = s.completions := (rfl)
@[simp] theorem State.modMo_netAxes (s : State) (n : Nat) (f : AxMo → AxMo) : (s.modMo n f).netAxes = s.netAxes := (rfl)
@[simp] theorem State.modMo_loops (s : State) (n : Nat) (f : AxMo → AxMo) : (s.modMo n f).loops = s.loops := (rfl)
@[simp] theorem State.modMo_injs (s : State) (n : Nat) (f : AxMo → AxMo) : (s.modMo n f).injs = s.injs := (rfl)
@[simp] theorem State.modMo_assign (s : State) (n : Nat) (f : AxMo → AxMo) : (s.modMo n f).assign = s.assign := (rfl)
@[simp] theorem State.modMo_runQ (s : State) (n : Nat) (f : AxMo → AxMo) : (s.modMo n f).runQ = s.runQ := (rfl)
@[simp] theorem State.modMo_pwms (s : State) (n : Nat) (f : AxMo → AxMo) : (s.modMo n f).pwms = s.pwms := (rfl)
@[simp] theorem State.modMo_trips (s : State) (n : Nat) (f : AxMo → AxMo) : (s.modMo n f).trips = s.trips := (rfl)
@[simp] theorem State.modMo_atcs (s : State) (n : Nat) (f : AxMo → AxMo) : (s.modMo n f).atcs = s.atcs := (rfl)
@[simp] theorem State.modMo_sds (s : State) (n : Nat) (f : AxMo → AxMo) : (s.modMo n f).sds = s.sds := (rfl)
@[simp] theorem State.modMo_cles (s : State) (n : Nat) (f : AxMo → AxMo) : (s.modMo n f).cles = s.cles := (rfl)
@[simp] theorem State.modMo_rdata (s : State) (n : Nat) (f : AxMo → AxMo) : (s.modMo n f).rdata = s.rdata := (rfl)
@[simp] theorem State.modMo_groom (s : State) (n : Nat) (f : AxMo → AxMo) : (s.modMo n f).groom = s.groom := (rfl)
@[simp] theorem State.modMo_stalls (s : State) (n : Nat) (f : AxMo → AxMo) : (s.modMo n f).stalls = s.stalls := (rfl)
@[simp] theorem State.modMo_agents (s : State) (n : Nat) (f : AxMo → AxMo) : (s.modMo n f).agents = s.agents := (rfl)
@[simp] theorem State.modMo_xtime (s : State) (n : Nat) (f : AxMo → AxMo) : (s.modMo n f).xtime = s.xtime := (rfl)
@[simp] theorem State.modMo_locks (s : State) (n : Nat) (f : AxMo → AxMo) : (s.modMo n f).locks = s.locks := (rfl)
@[simp] theorem State.modMo_lockPtr (s : State) (n : Nat) (f : AxMo → AxMo) : (s.modMo n f).lockPtr = s.lockPtr := (rfl)
@[simp] theorem State.modMo_lps (s : State) (n : Nat) (f : AxMo → AxMo) : (s.modMo n f).lps = s.lps := (rfl)
@[simp] theorem State.modMo_nw (s : State) (n : Nat) (f : AxMo → AxMo) : (s.modMo n f).nw = s.nw := (rfl)
@[simp] theorem State.modMo_safe (s : State) (n : Nat) (f : AxMo → AxMo) : (s.modMo n f).safe = s.safe := (rfl)
@[simp] theorem State.modMo_rm (s : State) (n : Nat) (f : AxMo → AxMo) : (s.modMo n f).rm = s.rm := (rfl)
@[simp] theorem State.modMo_tw (s : State) (n : Nat) (f : AxMo → AxMo) : (s.modMo n f).tw = s.tw := (rfl)
@[simp] theorem State.modMo_sec (s : State) (n : Nat) (f : AxMo → AxMo) : (s.modMo n f).sec = s.sec := (rfl)
@[simp] theorem State.modMo_io (s : State) (n : Nat) (f : AxMo → AxMo) : (s.modMo n f).io = s.io := (rfl)
@[simp] theorem State.modMo_cans (s : State) (n : Nat) (f : AxMo → AxMo) : (s.modMo n f).cans = s.cans := (rfl)
@[simp] theorem State.modMo_acq (s : State) (n : Nat) (f : AxMo → AxMo) : (s.modMo n f).acq = s.acq := (rfl)
@[simp] theorem State.modMo_log (s : State) (n : Nat) (f : AxMo → AxMo) : (s.modMo n f).log = s.log := (rfl)
@[simp] theorem State.modMo_host (s : State) (n : Nat) (f : AxMo → AxMo) : (s.modMo n f).host = s.host := (rfl)
@[simp] theorem State.modMo_pw (s : State) (n : Nat) (f : AxMo → AxMo) : (s.modMo n f).pw = s.pw := (rfl)
@[simp] theorem State.modMo_rd (s : State) (n : Nat) (f : AxMo → AxMo) (j : Nat) : (s.modMo n f).rd j = s.rd j := (rfl)
@[simp] theorem State.modMo_canonical (s : State) (n : Nat) (f : AxMo → AxMo) : (s.modMo n f).canonical = s.canonical := (rfl)
@[simp] theorem State.modMo_ard (s : State) (n : Nat) (f : AxMo → AxMo) (j : Nat) : (s.modMo n f).ard j = s.ard j := (rfl)
/-! `State.modShaft` -/
@[simp] theorem State.modShaft_pending (s : State) (k : Nat) (f : LsSt → LsSt) : (s.modShaft k f).pending = s.pending := (rfl)
@[simp] theorem State.modShaft_regs (s : State) (k : Nat) (f : LsSt → LsSt) : (s.modShaft k f).regs = s.regs := (rfl)
@[simp] theorem State.modShaft_act (s : State) (k : Nat) (f : LsSt → LsSt) : (s.modShaft k f).act = s.act := (rfl)
@[simp] theorem State.modShaft_mem (s : State) (k : Nat) (f : LsSt → LsSt) : (s.modShaft k f).mem = s.mem := (rfl)
@[simp] theorem State.modShaft_variantF (s : State) (k : Nat) (f : LsSt → LsSt) : (s.modShaft k f).variantF = s.variantF := (rfl)
@[simp] theorem State.modShaft_events (s : State) (k : Nat) (f : LsSt → LsSt) : (s.modShaft k f).events = s.events := (rfl)
@[simp] theorem State.modShaft_vectors (s : State) (k : Nat) (f : LsSt → LsSt) : (s.modShaft k f).vectors = s.vectors := (rfl)
@[simp] theorem State.modShaft_freeCount (s : State) (k : Nat) (f : LsSt → LsSt) : (s.modShaft k f).freeCount = s.freeCount := (rfl)
@[simp] theorem State.modShaft_time (s : State) (k : Nat) (f : LsSt → LsSt) : (s.modShaft k f).time = s.time := (rfl)
@[simp] theorem State.modShaft_grids (s : State) (k : Nat) (f : LsSt → LsSt) : (s.modShaft k f).grids = s.grids := (rfl)
@[simp] theorem State.modShaft_reqs (s : State) (k : Nat) (f : LsSt → LsSt) : (s.modShaft k f).reqs = s.reqs := (rfl)
@[simp] theorem State.modShaft_ports (s : State) (k : Nat) (f : LsSt → LsSt) : (s.modShaft k f).ports = s.ports := (rfl)
@[simp] theorem State.modShaft_latches (s : State) (k : Nat) (f : LsSt → LsSt) : (s.modShaft k f).latches = s.latches := (rfl)
@[simp] theorem State.modShaft_compares (s : State) (k : Nat) (f : LsSt → LsSt) : (s.modShaft k f).compares = s.compares := (rfl)
@[simp] theorem State.modShaft_rcs (s : State) (k : Nat) (f : LsSt → LsSt) : (s.modShaft k f).rcs = s.rcs := (rfl)
@[simp] theorem State.modShaft_motion (s : State) (k : Nat) (f : LsSt → LsSt) : (s.modShaft k f).motion = s.motion := (rfl)
@[simp] theorem State.modShaft_plans (s : State) (k : Nat) (f : LsSt → LsSt) : (s.modShaft k f).plans = s.plans := (rfl)
@[simp] theorem State.modShaft_stops (s : State) (k : Nat) (f : LsSt → LsSt) : (s.modShaft k f).stops = s.stops := (rfl)
@[simp] theorem State.modShaft_shafts (s : State) (k : Nat) (f : LsSt → LsSt) : (s.modShaft k f).shafts = vmod s.shafts k f := (rfl)
@[simp] theorem State.modShaft_cams (s : State) (k : Nat) (f : LsSt → LsSt) : (s.modShaft k f).cams = s.cams := (rfl)
@[simp] theorem State.modShaft_inflight (s : State) (k : Nat) (f : LsSt → LsSt) : (s.modShaft k f).inflight = s.inflight := (rfl)
@[simp] theorem State.modShaft_waits (s : State) (k : Nat) (f : LsSt → LsSt) : (s.modShaft k f).waits = s.waits := (rfl)
@[simp] theorem State.modShaft_completions (s : State) (k : Nat) (f : LsSt → LsSt) : (s.modShaft k f).completions = s.completions := (rfl)
@[simp] theorem State.modShaft_netAxes (s : State) (k : Nat) (f : LsSt → LsSt) : (s.modShaft k f).netAxes = s.netAxes := (rfl)
@[simp] theorem State.modShaft_loops (s : State) (k : Nat) (f : LsSt → LsSt) : (s.modShaft k f).loops = s.loops := (rfl)
@[simp] theorem State.modShaft_injs (s : State) (k : Nat) (f : LsSt → LsSt) : (s.modShaft k f).injs = s.injs := (rfl)
@[simp] theorem State.modShaft_assign (s : State) (k : Nat) (f : LsSt → LsSt) : (s.modShaft k f).assign = s.assign := (rfl)
@[simp] theorem State.modShaft_runQ (s : State) (k : Nat) (f : LsSt → LsSt) : (s.modShaft k f).runQ = s.runQ := (rfl)
@[simp] theorem State.modShaft_pwms (s : State) (k : Nat) (f : LsSt → LsSt) : (s.modShaft k f).pwms = s.pwms := (rfl)
@[simp] theorem State.modShaft_trips (s : State) (k : Nat) (f : LsSt → LsSt) : (s.modShaft k f).trips = s.trips := (rfl)
@[simp] theorem State.modShaft_atcs (s : State) (k : Nat) (f : LsSt → LsSt) : (s.modShaft k f).atcs = s.atcs := (rfl)
@[simp] theorem State.modShaft_sds (s : State) (k : Nat) (f : LsSt → LsSt) : (s.modShaft k f).sds = s.sds := (rfl)
@[simp] theorem State.modShaft_cles (s : State) (k : Nat) (f : LsSt → LsSt) : (s.modShaft k f).cles = s.cles := (rfl)
@[simp] theorem State.modShaft_rdata (s : State) (k : Nat) (f : LsSt → LsSt) : (s.modShaft k f).rdata = s.rdata := (rfl)
@[simp] theorem State.modShaft_groom (s : State) (k : Nat) (f : LsSt → LsSt) : (s.modShaft k f).groom = s.groom := (rfl)
@[simp] theorem State.modShaft_stalls (s : State) (k : Nat) (f : LsSt → LsSt) : (s.modShaft k f).stalls = s.stalls := (rfl)
@[simp] theorem State.modShaft_agents (s : State) (k : Nat) (f : LsSt → LsSt) : (s.modShaft k f).agents = s.agents := (rfl)
@[simp] theorem State.modShaft_xtime (s : State) (k : Nat) (f : LsSt → LsSt) : (s.modShaft k f).xtime = s.xtime := (rfl)
@[simp] theorem State.modShaft_locks (s : State) (k : Nat) (f : LsSt → LsSt) : (s.modShaft k f).locks = s.locks := (rfl)
@[simp] theorem State.modShaft_lockPtr (s : State) (k : Nat) (f : LsSt → LsSt) : (s.modShaft k f).lockPtr = s.lockPtr := (rfl)
@[simp] theorem State.modShaft_lps (s : State) (k : Nat) (f : LsSt → LsSt) : (s.modShaft k f).lps = s.lps := (rfl)
@[simp] theorem State.modShaft_nw (s : State) (k : Nat) (f : LsSt → LsSt) : (s.modShaft k f).nw = s.nw := (rfl)
@[simp] theorem State.modShaft_safe (s : State) (k : Nat) (f : LsSt → LsSt) : (s.modShaft k f).safe = s.safe := (rfl)
@[simp] theorem State.modShaft_rm (s : State) (k : Nat) (f : LsSt → LsSt) : (s.modShaft k f).rm = s.rm := (rfl)
@[simp] theorem State.modShaft_tw (s : State) (k : Nat) (f : LsSt → LsSt) : (s.modShaft k f).tw = s.tw := (rfl)
@[simp] theorem State.modShaft_sec (s : State) (k : Nat) (f : LsSt → LsSt) : (s.modShaft k f).sec = s.sec := (rfl)
@[simp] theorem State.modShaft_io (s : State) (k : Nat) (f : LsSt → LsSt) : (s.modShaft k f).io = s.io := (rfl)
@[simp] theorem State.modShaft_cans (s : State) (k : Nat) (f : LsSt → LsSt) : (s.modShaft k f).cans = s.cans := (rfl)
@[simp] theorem State.modShaft_acq (s : State) (k : Nat) (f : LsSt → LsSt) : (s.modShaft k f).acq = s.acq := (rfl)
@[simp] theorem State.modShaft_log (s : State) (k : Nat) (f : LsSt → LsSt) : (s.modShaft k f).log = s.log := (rfl)
@[simp] theorem State.modShaft_host (s : State) (k : Nat) (f : LsSt → LsSt) : (s.modShaft k f).host = s.host := (rfl)
@[simp] theorem State.modShaft_pw (s : State) (k : Nat) (f : LsSt → LsSt) : (s.modShaft k f).pw = s.pw := (rfl)
@[simp] theorem State.modShaft_rd (s : State) (k : Nat) (f : LsSt → LsSt) (j : Nat) : (s.modShaft k f).rd j = s.rd j := (rfl)
@[simp] theorem State.modShaft_canonical (s : State) (k : Nat) (f : LsSt → LsSt) : (s.modShaft k f).canonical = s.canonical := (rfl)
@[simp] theorem State.modShaft_ard (s : State) (k : Nat) (f : LsSt → LsSt) (j : Nat) : (s.modShaft k f).ard j = s.ard j := (rfl)
/-! `State.modNet` -/
@[simp] theorem State.modNet_pending (s : State) (i : Nat) (f : NetAx → NetAx) : (s.modNet i f).pending = s.pending := (rfl)
@[simp] theorem State.modNet_regs (s : State) (i : Nat) (f : NetAx → NetAx) : (s.modNet i f).regs = s.regs := (rfl)
@[simp] theorem State.modNet_act (s : State) (i : Nat) (f : NetAx → NetAx) : (s.modNet i f).act = s.act := (rfl)
@[simp] theorem State.modNet_mem (s : State) (i : Nat) (f : NetAx → NetAx) : (s.modNet i f).mem = s.mem := (rfl)
@[simp] theorem State.modNet_variantF (s : State) (i : Nat) (f : NetAx → NetAx) : (s.modNet i f).variantF = s.variantF := (rfl)
@[simp] theorem State.modNet_events (s : State) (i : Nat) (f : NetAx → NetAx) : (s.modNet i f).events = s.events := (rfl)
@[simp] theorem State.modNet_vectors (s : State) (i : Nat) (f : NetAx → NetAx) : (s.modNet i f).vectors = s.vectors := (rfl)
@[simp] theorem State.modNet_freeCount (s : State) (i : Nat) (f : NetAx → NetAx) : (s.modNet i f).freeCount = s.freeCount := (rfl)
@[simp] theorem State.modNet_time (s : State) (i : Nat) (f : NetAx → NetAx) : (s.modNet i f).time = s.time := (rfl)
@[simp] theorem State.modNet_grids (s : State) (i : Nat) (f : NetAx → NetAx) : (s.modNet i f).grids = s.grids := (rfl)
@[simp] theorem State.modNet_reqs (s : State) (i : Nat) (f : NetAx → NetAx) : (s.modNet i f).reqs = s.reqs := (rfl)
@[simp] theorem State.modNet_ports (s : State) (i : Nat) (f : NetAx → NetAx) : (s.modNet i f).ports = s.ports := (rfl)
@[simp] theorem State.modNet_latches (s : State) (i : Nat) (f : NetAx → NetAx) : (s.modNet i f).latches = s.latches := (rfl)
@[simp] theorem State.modNet_compares (s : State) (i : Nat) (f : NetAx → NetAx) : (s.modNet i f).compares = s.compares := (rfl)
@[simp] theorem State.modNet_rcs (s : State) (i : Nat) (f : NetAx → NetAx) : (s.modNet i f).rcs = s.rcs := (rfl)
@[simp] theorem State.modNet_motion (s : State) (i : Nat) (f : NetAx → NetAx) : (s.modNet i f).motion = s.motion := (rfl)
@[simp] theorem State.modNet_plans (s : State) (i : Nat) (f : NetAx → NetAx) : (s.modNet i f).plans = s.plans := (rfl)
@[simp] theorem State.modNet_stops (s : State) (i : Nat) (f : NetAx → NetAx) : (s.modNet i f).stops = s.stops := (rfl)
@[simp] theorem State.modNet_shafts (s : State) (i : Nat) (f : NetAx → NetAx) : (s.modNet i f).shafts = s.shafts := (rfl)
@[simp] theorem State.modNet_cams (s : State) (i : Nat) (f : NetAx → NetAx) : (s.modNet i f).cams = s.cams := (rfl)
@[simp] theorem State.modNet_inflight (s : State) (i : Nat) (f : NetAx → NetAx) : (s.modNet i f).inflight = s.inflight := (rfl)
@[simp] theorem State.modNet_waits (s : State) (i : Nat) (f : NetAx → NetAx) : (s.modNet i f).waits = s.waits := (rfl)
@[simp] theorem State.modNet_completions (s : State) (i : Nat) (f : NetAx → NetAx) : (s.modNet i f).completions = s.completions := (rfl)
@[simp] theorem State.modNet_netAxes (s : State) (i : Nat) (f : NetAx → NetAx) : (s.modNet i f).netAxes = vmod s.netAxes i f := (rfl)
@[simp] theorem State.modNet_loops (s : State) (i : Nat) (f : NetAx → NetAx) : (s.modNet i f).loops = s.loops := (rfl)
@[simp] theorem State.modNet_injs (s : State) (i : Nat) (f : NetAx → NetAx) : (s.modNet i f).injs = s.injs := (rfl)
@[simp] theorem State.modNet_assign (s : State) (i : Nat) (f : NetAx → NetAx) : (s.modNet i f).assign = s.assign := (rfl)
@[simp] theorem State.modNet_runQ (s : State) (i : Nat) (f : NetAx → NetAx) : (s.modNet i f).runQ = s.runQ := (rfl)
@[simp] theorem State.modNet_pwms (s : State) (i : Nat) (f : NetAx → NetAx) : (s.modNet i f).pwms = s.pwms := (rfl)
@[simp] theorem State.modNet_trips (s : State) (i : Nat) (f : NetAx → NetAx) : (s.modNet i f).trips = s.trips := (rfl)
@[simp] theorem State.modNet_atcs (s : State) (i : Nat) (f : NetAx → NetAx) : (s.modNet i f).atcs = s.atcs := (rfl)
@[simp] theorem State.modNet_sds (s : State) (i : Nat) (f : NetAx → NetAx) : (s.modNet i f).sds = s.sds := (rfl)
@[simp] theorem State.modNet_cles (s : State) (i : Nat) (f : NetAx → NetAx) : (s.modNet i f).cles = s.cles := (rfl)
@[simp] theorem State.modNet_rdata (s : State) (i : Nat) (f : NetAx → NetAx) : (s.modNet i f).rdata = s.rdata := (rfl)
@[simp] theorem State.modNet_groom (s : State) (i : Nat) (f : NetAx → NetAx) : (s.modNet i f).groom = s.groom := (rfl)
@[simp] theorem State.modNet_stalls (s : State) (i : Nat) (f : NetAx → NetAx) : (s.modNet i f).stalls = s.stalls := (rfl)
@[simp] theorem State.modNet_agents (s : State) (i : Nat) (f : NetAx → NetAx) : (s.modNet i f).agents = s.agents := (rfl)
@[simp] theorem State.modNet_xtime (s : State) (i : Nat) (f : NetAx → NetAx) : (s.modNet i f).xtime = s.xtime := (rfl)
@[simp] theorem State.modNet_locks (s : State) (i : Nat) (f : NetAx → NetAx) : (s.modNet i f).locks = s.locks := (rfl)
@[simp] theorem State.modNet_lockPtr (s : State) (i : Nat) (f : NetAx → NetAx) : (s.modNet i f).lockPtr = s.lockPtr := (rfl)
@[simp] theorem State.modNet_lps (s : State) (i : Nat) (f : NetAx → NetAx) : (s.modNet i f).lps = s.lps := (rfl)
@[simp] theorem State.modNet_nw (s : State) (i : Nat) (f : NetAx → NetAx) : (s.modNet i f).nw = s.nw := (rfl)
@[simp] theorem State.modNet_safe (s : State) (i : Nat) (f : NetAx → NetAx) : (s.modNet i f).safe = s.safe := (rfl)
@[simp] theorem State.modNet_rm (s : State) (i : Nat) (f : NetAx → NetAx) : (s.modNet i f).rm = s.rm := (rfl)
@[simp] theorem State.modNet_tw (s : State) (i : Nat) (f : NetAx → NetAx) : (s.modNet i f).tw = s.tw := (rfl)
@[simp] theorem State.modNet_sec (s : State) (i : Nat) (f : NetAx → NetAx) : (s.modNet i f).sec = s.sec := (rfl)
@[simp] theorem State.modNet_io (s : State) (i : Nat) (f : NetAx → NetAx) : (s.modNet i f).io = s.io := (rfl)
@[simp] theorem State.modNet_cans (s : State) (i : Nat) (f : NetAx → NetAx) : (s.modNet i f).cans = s.cans := (rfl)
@[simp] theorem State.modNet_acq (s : State) (i : Nat) (f : NetAx → NetAx) : (s.modNet i f).acq = s.acq := (rfl)
@[simp] theorem State.modNet_log (s : State) (i : Nat) (f : NetAx → NetAx) : (s.modNet i f).log = s.log := (rfl)
@[simp] theorem State.modNet_host (s : State) (i : Nat) (f : NetAx → NetAx) : (s.modNet i f).host = s.host := (rfl)
@[simp] theorem State.modNet_pw (s : State) (i : Nat) (f : NetAx → NetAx) : (s.modNet i f).pw = s.pw := (rfl)
@[simp] theorem State.modNet_rd (s : State) (i : Nat) (f : NetAx → NetAx) (j : Nat) : (s.modNet i f).rd j = s.rd j := (rfl)
@[simp] theorem State.modNet_canonical (s : State) (i : Nat) (f : NetAx → NetAx) : (s.modNet i f).canonical = s.canonical := (rfl)
@[simp] theorem State.modNet_ard (s : State) (i : Nat) (f : NetAx → NetAx) (j : Nat) : (s.modNet i f).ard j = s.ard j := (rfl)
/-! `State.modLoop` -/
@[simp] theorem State.modLoop_pending (s : State) (n : Nat) (f : AxLoop → AxLoop) : (s.modLoop n f).pending = s.pending := (rfl)
@[simp] theorem State.modLoop_regs (s : State) (n : Nat) (f : AxLoop → AxLoop) : (s.modLoop n f).regs = s.regs := (rfl)
@[simp] theorem State.modLoop_act (s : State) (n : Nat) (f : AxLoop → AxLoop) : (s.modLoop n f).act = s.act := (rfl)
@[simp] theorem State.modLoop_mem (s : State) (n : Nat) (f : AxLoop → AxLoop) : (s.modLoop n f).mem = s.mem := (rfl)
@[simp] theorem State.modLoop_variantF (s : State) (n : Nat) (f : AxLoop → AxLoop) : (s.modLoop n f).variantF = s.variantF := (rfl)
@[simp] theorem State.modLoop_events (s : State) (n : Nat) (f : AxLoop → AxLoop) : (s.modLoop n f).events = s.events := (rfl)
@[simp] theorem State.modLoop_vectors (s : State) (n : Nat) (f : AxLoop → AxLoop) : (s.modLoop n f).vectors = s.vectors := (rfl)
@[simp] theorem State.modLoop_freeCount (s : State) (n : Nat) (f : AxLoop → AxLoop) : (s.modLoop n f).freeCount = s.freeCount := (rfl)
@[simp] theorem State.modLoop_time (s : State) (n : Nat) (f : AxLoop → AxLoop) : (s.modLoop n f).time = s.time := (rfl)
@[simp] theorem State.modLoop_grids (s : State) (n : Nat) (f : AxLoop → AxLoop) : (s.modLoop n f).grids = s.grids := (rfl)
@[simp] theorem State.modLoop_reqs (s : State) (n : Nat) (f : AxLoop → AxLoop) : (s.modLoop n f).reqs = s.reqs := (rfl)
@[simp] theorem State.modLoop_ports (s : State) (n : Nat) (f : AxLoop → AxLoop) : (s.modLoop n f).ports = s.ports := (rfl)
@[simp] theorem State.modLoop_latches (s : State) (n : Nat) (f : AxLoop → AxLoop) : (s.modLoop n f).latches = s.latches := (rfl)
@[simp] theorem State.modLoop_compares (s : State) (n : Nat) (f : AxLoop → AxLoop) : (s.modLoop n f).compares = s.compares := (rfl)
@[simp] theorem State.modLoop_rcs (s : State) (n : Nat) (f : AxLoop → AxLoop) : (s.modLoop n f).rcs = s.rcs := (rfl)
@[simp] theorem State.modLoop_motion (s : State) (n : Nat) (f : AxLoop → AxLoop) : (s.modLoop n f).motion = s.motion := (rfl)
@[simp] theorem State.modLoop_plans (s : State) (n : Nat) (f : AxLoop → AxLoop) : (s.modLoop n f).plans = s.plans := (rfl)
@[simp] theorem State.modLoop_stops (s : State) (n : Nat) (f : AxLoop → AxLoop) : (s.modLoop n f).stops = s.stops := (rfl)
@[simp] theorem State.modLoop_shafts (s : State) (n : Nat) (f : AxLoop → AxLoop) : (s.modLoop n f).shafts = s.shafts := (rfl)
@[simp] theorem State.modLoop_cams (s : State) (n : Nat) (f : AxLoop → AxLoop) : (s.modLoop n f).cams = s.cams := (rfl)
@[simp] theorem State.modLoop_inflight (s : State) (n : Nat) (f : AxLoop → AxLoop) : (s.modLoop n f).inflight = s.inflight := (rfl)
@[simp] theorem State.modLoop_waits (s : State) (n : Nat) (f : AxLoop → AxLoop) : (s.modLoop n f).waits = s.waits := (rfl)
@[simp] theorem State.modLoop_completions (s : State) (n : Nat) (f : AxLoop → AxLoop) : (s.modLoop n f).completions = s.completions := (rfl)
@[simp] theorem State.modLoop_netAxes (s : State) (n : Nat) (f : AxLoop → AxLoop) : (s.modLoop n f).netAxes = s.netAxes := (rfl)
@[simp] theorem State.modLoop_loops (s : State) (n : Nat) (f : AxLoop → AxLoop) : (s.modLoop n f).loops = vmod s.loops n f := (rfl)
@[simp] theorem State.modLoop_injs (s : State) (n : Nat) (f : AxLoop → AxLoop) : (s.modLoop n f).injs = s.injs := (rfl)
@[simp] theorem State.modLoop_assign (s : State) (n : Nat) (f : AxLoop → AxLoop) : (s.modLoop n f).assign = s.assign := (rfl)
@[simp] theorem State.modLoop_runQ (s : State) (n : Nat) (f : AxLoop → AxLoop) : (s.modLoop n f).runQ = s.runQ := (rfl)
@[simp] theorem State.modLoop_pwms (s : State) (n : Nat) (f : AxLoop → AxLoop) : (s.modLoop n f).pwms = s.pwms := (rfl)
@[simp] theorem State.modLoop_trips (s : State) (n : Nat) (f : AxLoop → AxLoop) : (s.modLoop n f).trips = s.trips := (rfl)
@[simp] theorem State.modLoop_atcs (s : State) (n : Nat) (f : AxLoop → AxLoop) : (s.modLoop n f).atcs = s.atcs := (rfl)
@[simp] theorem State.modLoop_sds (s : State) (n : Nat) (f : AxLoop → AxLoop) : (s.modLoop n f).sds = s.sds := (rfl)
@[simp] theorem State.modLoop_cles (s : State) (n : Nat) (f : AxLoop → AxLoop) : (s.modLoop n f).cles = s.cles := (rfl)
@[simp] theorem State.modLoop_rdata (s : State) (n : Nat) (f : AxLoop → AxLoop) : (s.modLoop n f).rdata = s.rdata := (rfl)
@[simp] theorem State.modLoop_groom (s : State) (n : Nat) (f : AxLoop → AxLoop) : (s.modLoop n f).groom = s.groom := (rfl)
@[simp] theorem State.modLoop_stalls (s : State) (n : Nat) (f : AxLoop → AxLoop) : (s.modLoop n f).stalls = s.stalls := (rfl)
@[simp] theorem State.modLoop_agents (s : State) (n : Nat) (f : AxLoop → AxLoop) : (s.modLoop n f).agents = s.agents := (rfl)
@[simp] theorem State.modLoop_xtime (s : State) (n : Nat) (f : AxLoop → AxLoop) : (s.modLoop n f).xtime = s.xtime := (rfl)
@[simp] theorem State.modLoop_locks (s : State) (n : Nat) (f : AxLoop → AxLoop) : (s.modLoop n f).locks = s.locks := (rfl)
@[simp] theorem State.modLoop_lockPtr (s : State) (n : Nat) (f : AxLoop → AxLoop) : (s.modLoop n f).lockPtr = s.lockPtr := (rfl)
@[simp] theorem State.modLoop_lps (s : State) (n : Nat) (f : AxLoop → AxLoop) : (s.modLoop n f).lps = s.lps := (rfl)
@[simp] theorem State.modLoop_nw (s : State) (n : Nat) (f : AxLoop → AxLoop) : (s.modLoop n f).nw = s.nw := (rfl)
@[simp] theorem State.modLoop_safe (s : State) (n : Nat) (f : AxLoop → AxLoop) : (s.modLoop n f).safe = s.safe := (rfl)
@[simp] theorem State.modLoop_rm (s : State) (n : Nat) (f : AxLoop → AxLoop) : (s.modLoop n f).rm = s.rm := (rfl)
@[simp] theorem State.modLoop_tw (s : State) (n : Nat) (f : AxLoop → AxLoop) : (s.modLoop n f).tw = s.tw := (rfl)
@[simp] theorem State.modLoop_sec (s : State) (n : Nat) (f : AxLoop → AxLoop) : (s.modLoop n f).sec = s.sec := (rfl)
@[simp] theorem State.modLoop_io (s : State) (n : Nat) (f : AxLoop → AxLoop) : (s.modLoop n f).io = s.io := (rfl)
@[simp] theorem State.modLoop_cans (s : State) (n : Nat) (f : AxLoop → AxLoop) : (s.modLoop n f).cans = s.cans := (rfl)
@[simp] theorem State.modLoop_acq (s : State) (n : Nat) (f : AxLoop → AxLoop) : (s.modLoop n f).acq = s.acq := (rfl)
@[simp] theorem State.modLoop_log (s : State) (n : Nat) (f : AxLoop → AxLoop) : (s.modLoop n f).log = s.log := (rfl)
@[simp] theorem State.modLoop_host (s : State) (n : Nat) (f : AxLoop → AxLoop) : (s.modLoop n f).host = s.host := (rfl)
@[simp] theorem State.modLoop_pw (s : State) (n : Nat) (f : AxLoop → AxLoop) : (s.modLoop n f).pw = s.pw := (rfl)
@[simp] theorem State.modLoop_rd (s : State) (n : Nat) (f : AxLoop → AxLoop) (j : Nat) : (s.modLoop n f).rd j = s.rd j := (rfl)
@[simp] theorem State.modLoop_canonical (s : State) (n : Nat) (f : AxLoop → AxLoop) : (s.modLoop n f).canonical = s.canonical := (rfl)
@[simp] theorem State.modLoop_ard (s : State) (n : Nat) (f : AxLoop → AxLoop) (j : Nat) : (s.modLoop n f).ard j = s.ard j := (rfl)
/-! `State.modInj` -/
@[simp] theorem State.modInj_pending (s : State) (k : Nat) (f : InjSt → InjSt) : (s.modInj k f).pending = s.pending := (rfl)
@[simp] theorem State.modInj_regs (s : State) (k : Nat) (f : InjSt → InjSt) : (s.modInj k f).regs = s.regs := (rfl)
@[simp] theorem State.modInj_act (s : State) (k : Nat) (f : InjSt → InjSt) : (s.modInj k f).act = s.act := (rfl)
@[simp] theorem State.modInj_mem (s : State) (k : Nat) (f : InjSt → InjSt) : (s.modInj k f).mem = s.mem := (rfl)
@[simp] theorem State.modInj_variantF (s : State) (k : Nat) (f : InjSt → InjSt) : (s.modInj k f).variantF = s.variantF := (rfl)
@[simp] theorem State.modInj_events (s : State) (k : Nat) (f : InjSt → InjSt) : (s.modInj k f).events = s.events := (rfl)
@[simp] theorem State.modInj_vectors (s : State) (k : Nat) (f : InjSt → InjSt) : (s.modInj k f).vectors = s.vectors := (rfl)
@[simp] theorem State.modInj_freeCount (s : State) (k : Nat) (f : InjSt → InjSt) : (s.modInj k f).freeCount = s.freeCount := (rfl)
@[simp] theorem State.modInj_time (s : State) (k : Nat) (f : InjSt → InjSt) : (s.modInj k f).time = s.time := (rfl)
@[simp] theorem State.modInj_grids (s : State) (k : Nat) (f : InjSt → InjSt) : (s.modInj k f).grids = s.grids := (rfl)
@[simp] theorem State.modInj_reqs (s : State) (k : Nat) (f : InjSt → InjSt) : (s.modInj k f).reqs = s.reqs := (rfl)
@[simp] theorem State.modInj_ports (s : State) (k : Nat) (f : InjSt → InjSt) : (s.modInj k f).ports = s.ports := (rfl)
@[simp] theorem State.modInj_latches (s : State) (k : Nat) (f : InjSt → InjSt) : (s.modInj k f).latches = s.latches := (rfl)
@[simp] theorem State.modInj_compares (s : State) (k : Nat) (f : InjSt → InjSt) : (s.modInj k f).compares = s.compares := (rfl)
@[simp] theorem State.modInj_rcs (s : State) (k : Nat) (f : InjSt → InjSt) : (s.modInj k f).rcs = s.rcs := (rfl)
@[simp] theorem State.modInj_motion (s : State) (k : Nat) (f : InjSt → InjSt) : (s.modInj k f).motion = s.motion := (rfl)
@[simp] theorem State.modInj_plans (s : State) (k : Nat) (f : InjSt → InjSt) : (s.modInj k f).plans = s.plans := (rfl)
@[simp] theorem State.modInj_stops (s : State) (k : Nat) (f : InjSt → InjSt) : (s.modInj k f).stops = s.stops := (rfl)
@[simp] theorem State.modInj_shafts (s : State) (k : Nat) (f : InjSt → InjSt) : (s.modInj k f).shafts = s.shafts := (rfl)
@[simp] theorem State.modInj_cams (s : State) (k : Nat) (f : InjSt → InjSt) : (s.modInj k f).cams = s.cams := (rfl)
@[simp] theorem State.modInj_inflight (s : State) (k : Nat) (f : InjSt → InjSt) : (s.modInj k f).inflight = s.inflight := (rfl)
@[simp] theorem State.modInj_waits (s : State) (k : Nat) (f : InjSt → InjSt) : (s.modInj k f).waits = s.waits := (rfl)
@[simp] theorem State.modInj_completions (s : State) (k : Nat) (f : InjSt → InjSt) : (s.modInj k f).completions = s.completions := (rfl)
@[simp] theorem State.modInj_netAxes (s : State) (k : Nat) (f : InjSt → InjSt) : (s.modInj k f).netAxes = s.netAxes := (rfl)
@[simp] theorem State.modInj_loops (s : State) (k : Nat) (f : InjSt → InjSt) : (s.modInj k f).loops = s.loops := (rfl)
@[simp] theorem State.modInj_injs (s : State) (k : Nat) (f : InjSt → InjSt) : (s.modInj k f).injs = vmod s.injs k f := (rfl)
@[simp] theorem State.modInj_assign (s : State) (k : Nat) (f : InjSt → InjSt) : (s.modInj k f).assign = s.assign := (rfl)
@[simp] theorem State.modInj_runQ (s : State) (k : Nat) (f : InjSt → InjSt) : (s.modInj k f).runQ = s.runQ := (rfl)
@[simp] theorem State.modInj_pwms (s : State) (k : Nat) (f : InjSt → InjSt) : (s.modInj k f).pwms = s.pwms := (rfl)
@[simp] theorem State.modInj_trips (s : State) (k : Nat) (f : InjSt → InjSt) : (s.modInj k f).trips = s.trips := (rfl)
@[simp] theorem State.modInj_atcs (s : State) (k : Nat) (f : InjSt → InjSt) : (s.modInj k f).atcs = s.atcs := (rfl)
@[simp] theorem State.modInj_sds (s : State) (k : Nat) (f : InjSt → InjSt) : (s.modInj k f).sds = s.sds := (rfl)
@[simp] theorem State.modInj_cles (s : State) (k : Nat) (f : InjSt → InjSt) : (s.modInj k f).cles = s.cles := (rfl)
@[simp] theorem State.modInj_rdata (s : State) (k : Nat) (f : InjSt → InjSt) : (s.modInj k f).rdata = s.rdata := (rfl)
@[simp] theorem State.modInj_groom (s : State) (k : Nat) (f : InjSt → InjSt) : (s.modInj k f).groom = s.groom := (rfl)
@[simp] theorem State.modInj_stalls (s : State) (k : Nat) (f : InjSt → InjSt) : (s.modInj k f).stalls = s.stalls := (rfl)
@[simp] theorem State.modInj_agents (s : State) (k : Nat) (f : InjSt → InjSt) : (s.modInj k f).agents = s.agents := (rfl)
@[simp] theorem State.modInj_xtime (s : State) (k : Nat) (f : InjSt → InjSt) : (s.modInj k f).xtime = s.xtime := (rfl)
@[simp] theorem State.modInj_locks (s : State) (k : Nat) (f : InjSt → InjSt) : (s.modInj k f).locks = s.locks := (rfl)
@[simp] theorem State.modInj_lockPtr (s : State) (k : Nat) (f : InjSt → InjSt) : (s.modInj k f).lockPtr = s.lockPtr := (rfl)
@[simp] theorem State.modInj_lps (s : State) (k : Nat) (f : InjSt → InjSt) : (s.modInj k f).lps = s.lps := (rfl)
@[simp] theorem State.modInj_nw (s : State) (k : Nat) (f : InjSt → InjSt) : (s.modInj k f).nw = s.nw := (rfl)
@[simp] theorem State.modInj_safe (s : State) (k : Nat) (f : InjSt → InjSt) : (s.modInj k f).safe = s.safe := (rfl)
@[simp] theorem State.modInj_rm (s : State) (k : Nat) (f : InjSt → InjSt) : (s.modInj k f).rm = s.rm := (rfl)
@[simp] theorem State.modInj_tw (s : State) (k : Nat) (f : InjSt → InjSt) : (s.modInj k f).tw = s.tw := (rfl)
@[simp] theorem State.modInj_sec (s : State) (k : Nat) (f : InjSt → InjSt) : (s.modInj k f).sec = s.sec := (rfl)
@[simp] theorem State.modInj_io (s : State) (k : Nat) (f : InjSt → InjSt) : (s.modInj k f).io = s.io := (rfl)
@[simp] theorem State.modInj_cans (s : State) (k : Nat) (f : InjSt → InjSt) : (s.modInj k f).cans = s.cans := (rfl)
@[simp] theorem State.modInj_acq (s : State) (k : Nat) (f : InjSt → InjSt) : (s.modInj k f).acq = s.acq := (rfl)
@[simp] theorem State.modInj_log (s : State) (k : Nat) (f : InjSt → InjSt) : (s.modInj k f).log = s.log := (rfl)
@[simp] theorem State.modInj_host (s : State) (k : Nat) (f : InjSt → InjSt) : (s.modInj k f).host = s.host := (rfl)
@[simp] theorem State.modInj_pw (s : State) (k : Nat) (f : InjSt → InjSt) : (s.modInj k f).pw = s.pw := (rfl)
@[simp] theorem State.modInj_rd (s : State) (k : Nat) (f : InjSt → InjSt) (j : Nat) : (s.modInj k f).rd j = s.rd j := (rfl)
@[simp] theorem State.modInj_canonical (s : State) (k : Nat) (f : InjSt → InjSt) : (s.modInj k f).canonical = s.canonical := (rfl)
@[simp] theorem State.modInj_ard (s : State) (k : Nat) (f : InjSt → InjSt) (j : Nat) : (s.modInj k f).ard j = s.ard j := (rfl)
/-! `State.modStall` -/
@[simp] theorem State.modStall_pending (s : State) (a b : Nat) (f : StallSt → StallSt) : (s.modStall a b f).pending = s.pending := (rfl)
@[simp] theorem State.modStall_regs (s : State) (a b : Nat) (f : StallSt → StallSt) : (s.modStall a b f).regs = s.regs := (rfl)
@[simp] theorem State.modStall_act (s : State) (a b : Nat) (f : StallSt → StallSt) : (s.modStall a b f).act = s.act := (rfl)
@[simp] theorem State.modStall_mem (s : State) (a b : Nat) (f : StallSt → StallSt) : (s.modStall a b f).mem = s.mem := (rfl)
@[simp] theorem State.modStall_variantF (s : State) (a b : Nat) (f : StallSt → StallSt) : (s.modStall a b f).variantF = s.variantF := (rfl)
@[simp] theorem State.modStall_events (s : State) (a b : Nat) (f : StallSt → StallSt) : (s.modStall a b f).events = s.events := (rfl)
@[simp] theorem State.modStall_vectors (s : State) (a b : Nat) (f : StallSt → StallSt) : (s.modStall a b f).vectors = s.vectors := (rfl)
@[simp] theorem State.modStall_freeCount (s : State) (a b : Nat) (f : StallSt → StallSt) : (s.modStall a b f).freeCount = s.freeCount := (rfl)
@[simp] theorem State.modStall_time (s : State) (a b : Nat) (f : StallSt → StallSt) : (s.modStall a b f).time = s.time := (rfl)
@[simp] theorem State.modStall_grids (s : State) (a b : Nat) (f : StallSt → StallSt) : (s.modStall a b f).grids = s.grids := (rfl)
@[simp] theorem State.modStall_reqs (s : State) (a b : Nat) (f : StallSt → StallSt) : (s.modStall a b f).reqs = s.reqs := (rfl)
@[simp] theorem State.modStall_ports (s : State) (a b : Nat) (f : StallSt → StallSt) : (s.modStall a b f).ports = s.ports := (rfl)
@[simp] theorem State.modStall_latches (s : State) (a b : Nat) (f : StallSt → StallSt) : (s.modStall a b f).latches = s.latches := (rfl)
@[simp] theorem State.modStall_compares (s : State) (a b : Nat) (f : StallSt → StallSt) : (s.modStall a b f).compares = s.compares := (rfl)
@[simp] theorem State.modStall_rcs (s : State) (a b : Nat) (f : StallSt → StallSt) : (s.modStall a b f).rcs = s.rcs := (rfl)
@[simp] theorem State.modStall_motion (s : State) (a b : Nat) (f : StallSt → StallSt) : (s.modStall a b f).motion = s.motion := (rfl)
@[simp] theorem State.modStall_plans (s : State) (a b : Nat) (f : StallSt → StallSt) : (s.modStall a b f).plans = s.plans := (rfl)
@[simp] theorem State.modStall_stops (s : State) (a b : Nat) (f : StallSt → StallSt) : (s.modStall a b f).stops = s.stops := (rfl)
@[simp] theorem State.modStall_shafts (s : State) (a b : Nat) (f : StallSt → StallSt) : (s.modStall a b f).shafts = s.shafts := (rfl)
@[simp] theorem State.modStall_cams (s : State) (a b : Nat) (f : StallSt → StallSt) : (s.modStall a b f).cams = s.cams := (rfl)
@[simp] theorem State.modStall_inflight (s : State) (a b : Nat) (f : StallSt → StallSt) : (s.modStall a b f).inflight = s.inflight := (rfl)
@[simp] theorem State.modStall_waits (s : State) (a b : Nat) (f : StallSt → StallSt) : (s.modStall a b f).waits = s.waits := (rfl)
@[simp] theorem State.modStall_completions (s : State) (a b : Nat) (f : StallSt → StallSt) : (s.modStall a b f).completions = s.completions := (rfl)
@[simp] theorem State.modStall_netAxes (s : State) (a b : Nat) (f : StallSt → StallSt) : (s.modStall a b f).netAxes = s.netAxes := (rfl)
@[simp] theorem State.modStall_loops (s : State) (a b : Nat) (f : StallSt → StallSt) : (s.modStall a b f).loops = s.loops := (rfl)
@[simp] theorem State.modStall_injs (s : State) (a b : Nat) (f : StallSt → StallSt) : (s.modStall a b f).injs = s.injs := (rfl)
@[simp] theorem State.modStall_assign (s : State) (a b : Nat) (f : StallSt → StallSt) : (s.modStall a b f).assign = s.assign := (rfl)
@[simp] theorem State.modStall_runQ (s : State) (a b : Nat) (f : StallSt → StallSt) : (s.modStall a b f).runQ = s.runQ := (rfl)
@[simp] theorem State.modStall_pwms (s : State) (a b : Nat) (f : StallSt → StallSt) : (s.modStall a b f).pwms = s.pwms := (rfl)
@[simp] theorem State.modStall_trips (s : State) (a b : Nat) (f : StallSt → StallSt) : (s.modStall a b f).trips = s.trips := (rfl)
@[simp] theorem State.modStall_atcs (s : State) (a b : Nat) (f : StallSt → StallSt) : (s.modStall a b f).atcs = s.atcs := (rfl)
@[simp] theorem State.modStall_sds (s : State) (a b : Nat) (f : StallSt → StallSt) : (s.modStall a b f).sds = s.sds := (rfl)
@[simp] theorem State.modStall_cles (s : State) (a b : Nat) (f : StallSt → StallSt) : (s.modStall a b f).cles = s.cles := (rfl)
@[simp] theorem State.modStall_rdata (s : State) (a b : Nat) (f : StallSt → StallSt) : (s.modStall a b f).rdata = s.rdata := (rfl)
@[simp] theorem State.modStall_groom (s : State) (a b : Nat) (f : StallSt → StallSt) : (s.modStall a b f).groom = s.groom := (rfl)
@[simp] theorem State.modStall_stalls (s : State) (a b : Nat) (f : StallSt → StallSt) : (s.modStall a b f).stalls = spSet (fun _ => {}) s.stalls (32 * a + b) (f (s.stall a b)) := (rfl)
@[simp] theorem State.modStall_agents (s : State) (a b : Nat) (f : StallSt → StallSt) : (s.modStall a b f).agents = s.agents := (rfl)
@[simp] theorem State.modStall_xtime (s : State) (a b : Nat) (f : StallSt → StallSt) : (s.modStall a b f).xtime = s.xtime := (rfl)
@[simp] theorem State.modStall_locks (s : State) (a b : Nat) (f : StallSt → StallSt) : (s.modStall a b f).locks = s.locks := (rfl)
@[simp] theorem State.modStall_lockPtr (s : State) (a b : Nat) (f : StallSt → StallSt) : (s.modStall a b f).lockPtr = s.lockPtr := (rfl)
@[simp] theorem State.modStall_lps (s : State) (a b : Nat) (f : StallSt → StallSt) : (s.modStall a b f).lps = s.lps := (rfl)
@[simp] theorem State.modStall_nw (s : State) (a b : Nat) (f : StallSt → StallSt) : (s.modStall a b f).nw = s.nw := (rfl)
@[simp] theorem State.modStall_safe (s : State) (a b : Nat) (f : StallSt → StallSt) : (s.modStall a b f).safe = s.safe := (rfl)
@[simp] theorem State.modStall_rm (s : State) (a b : Nat) (f : StallSt → StallSt) : (s.modStall a b f).rm = s.rm := (rfl)
@[simp] theorem State.modStall_tw (s : State) (a b : Nat) (f : StallSt → StallSt) : (s.modStall a b f).tw = s.tw := (rfl)
@[simp] theorem State.modStall_sec (s : State) (a b : Nat) (f : StallSt → StallSt) : (s.modStall a b f).sec = s.sec := (rfl)
@[simp] theorem State.modStall_io (s : State) (a b : Nat) (f : StallSt → StallSt) : (s.modStall a b f).io = s.io := (rfl)
@[simp] theorem State.modStall_cans (s : State) (a b : Nat) (f : StallSt → StallSt) : (s.modStall a b f).cans = s.cans := (rfl)
@[simp] theorem State.modStall_acq (s : State) (a b : Nat) (f : StallSt → StallSt) : (s.modStall a b f).acq = s.acq := (rfl)
@[simp] theorem State.modStall_log (s : State) (a b : Nat) (f : StallSt → StallSt) : (s.modStall a b f).log = s.log := (rfl)
@[simp] theorem State.modStall_host (s : State) (a b : Nat) (f : StallSt → StallSt) : (s.modStall a b f).host = s.host := (rfl)
@[simp] theorem State.modStall_pw (s : State) (a b : Nat) (f : StallSt → StallSt) : (s.modStall a b f).pw = s.pw := (rfl)
@[simp] theorem State.modStall_rd (s : State) (a b : Nat) (f : StallSt → StallSt) (j : Nat) : (s.modStall a b f).rd j = s.rd j := (rfl)
@[simp] theorem State.modStall_canonical (s : State) (a b : Nat) (f : StallSt → StallSt) : (s.modStall a b f).canonical = s.canonical := (rfl)
@[simp] theorem State.modStall_ard (s : State) (a b : Nat) (f : StallSt → StallSt) (j : Nat) : (s.modStall a b f).ard j = s.ard j := (rfl)
/-! `State.modAgent` -/
@[simp] theorem State.modAgent_pending (s : State) (i : Nat) (f : AgentSt → AgentSt) : (s.modAgent i f).pending = s.pending := (rfl)
@[simp] theorem State.modAgent_regs (s : State) (i : Nat) (f : AgentSt → AgentSt) : (s.modAgent i f).regs = s.regs := (rfl)
@[simp] theorem State.modAgent_act (s : State) (i : Nat) (f : AgentSt → AgentSt) : (s.modAgent i f).act = s.act := (rfl)
@[simp] theorem State.modAgent_mem (s : State) (i : Nat) (f : AgentSt → AgentSt) : (s.modAgent i f).mem = s.mem := (rfl)
@[simp] theorem State.modAgent_variantF (s : State) (i : Nat) (f : AgentSt → AgentSt) : (s.modAgent i f).variantF = s.variantF := (rfl)
@[simp] theorem State.modAgent_events (s : State) (i : Nat) (f : AgentSt → AgentSt) : (s.modAgent i f).events = s.events := (rfl)
@[simp] theorem State.modAgent_vectors (s : State) (i : Nat) (f : AgentSt → AgentSt) : (s.modAgent i f).vectors = s.vectors := (rfl)
@[simp] theorem State.modAgent_freeCount (s : State) (i : Nat) (f : AgentSt → AgentSt) : (s.modAgent i f).freeCount = s.freeCount := (rfl)
@[simp] theorem State.modAgent_time (s : State) (i : Nat) (f : AgentSt → AgentSt) : (s.modAgent i f).time = s.time := (rfl)
@[simp] theorem State.modAgent_grids (s : State) (i : Nat) (f : AgentSt → AgentSt) : (s.modAgent i f).grids = s.grids := (rfl)
@[simp] theorem State.modAgent_reqs (s : State) (i : Nat) (f : AgentSt → AgentSt) : (s.modAgent i f).reqs = s.reqs := (rfl)
@[simp] theorem State.modAgent_ports (s : State) (i : Nat) (f : AgentSt → AgentSt) : (s.modAgent i f).ports = s.ports := (rfl)
@[simp] theorem State.modAgent_latches (s : State) (i : Nat) (f : AgentSt → AgentSt) : (s.modAgent i f).latches = s.latches := (rfl)
@[simp] theorem State.modAgent_compares (s : State) (i : Nat) (f : AgentSt → AgentSt) : (s.modAgent i f).compares = s.compares := (rfl)
@[simp] theorem State.modAgent_rcs (s : State) (i : Nat) (f : AgentSt → AgentSt) : (s.modAgent i f).rcs = s.rcs := (rfl)
@[simp] theorem State.modAgent_motion (s : State) (i : Nat) (f : AgentSt → AgentSt) : (s.modAgent i f).motion = s.motion := (rfl)
@[simp] theorem State.modAgent_plans (s : State) (i : Nat) (f : AgentSt → AgentSt) : (s.modAgent i f).plans = s.plans := (rfl)
@[simp] theorem State.modAgent_stops (s : State) (i : Nat) (f : AgentSt → AgentSt) : (s.modAgent i f).stops = s.stops := (rfl)
@[simp] theorem State.modAgent_shafts (s : State) (i : Nat) (f : AgentSt → AgentSt) : (s.modAgent i f).shafts = s.shafts := (rfl)
@[simp] theorem State.modAgent_cams (s : State) (i : Nat) (f : AgentSt → AgentSt) : (s.modAgent i f).cams = s.cams := (rfl)
@[simp] theorem State.modAgent_inflight (s : State) (i : Nat) (f : AgentSt → AgentSt) : (s.modAgent i f).inflight = s.inflight := (rfl)
@[simp] theorem State.modAgent_waits (s : State) (i : Nat) (f : AgentSt → AgentSt) : (s.modAgent i f).waits = s.waits := (rfl)
@[simp] theorem State.modAgent_completions (s : State) (i : Nat) (f : AgentSt → AgentSt) : (s.modAgent i f).completions = s.completions := (rfl)
@[simp] theorem State.modAgent_netAxes (s : State) (i : Nat) (f : AgentSt → AgentSt) : (s.modAgent i f).netAxes = s.netAxes := (rfl)
@[simp] theorem State.modAgent_loops (s : State) (i : Nat) (f : AgentSt → AgentSt) : (s.modAgent i f).loops = s.loops := (rfl)
@[simp] theorem State.modAgent_injs (s : State) (i : Nat) (f : AgentSt → AgentSt) : (s.modAgent i f).injs = s.injs := (rfl)
@[simp] theorem State.modAgent_assign (s : State) (i : Nat) (f : AgentSt → AgentSt) : (s.modAgent i f).assign = s.assign := (rfl)
@[simp] theorem State.modAgent_runQ (s : State) (i : Nat) (f : AgentSt → AgentSt) : (s.modAgent i f).runQ = s.runQ := (rfl)
@[simp] theorem State.modAgent_pwms (s : State) (i : Nat) (f : AgentSt → AgentSt) : (s.modAgent i f).pwms = s.pwms := (rfl)
@[simp] theorem State.modAgent_trips (s : State) (i : Nat) (f : AgentSt → AgentSt) : (s.modAgent i f).trips = s.trips := (rfl)
@[simp] theorem State.modAgent_atcs (s : State) (i : Nat) (f : AgentSt → AgentSt) : (s.modAgent i f).atcs = s.atcs := (rfl)
@[simp] theorem State.modAgent_sds (s : State) (i : Nat) (f : AgentSt → AgentSt) : (s.modAgent i f).sds = s.sds := (rfl)
@[simp] theorem State.modAgent_cles (s : State) (i : Nat) (f : AgentSt → AgentSt) : (s.modAgent i f).cles = s.cles := (rfl)
@[simp] theorem State.modAgent_rdata (s : State) (i : Nat) (f : AgentSt → AgentSt) : (s.modAgent i f).rdata = s.rdata := (rfl)
@[simp] theorem State.modAgent_groom (s : State) (i : Nat) (f : AgentSt → AgentSt) : (s.modAgent i f).groom = s.groom := (rfl)
@[simp] theorem State.modAgent_stalls (s : State) (i : Nat) (f : AgentSt → AgentSt) : (s.modAgent i f).stalls = s.stalls := (rfl)
@[simp] theorem State.modAgent_agents (s : State) (i : Nat) (f : AgentSt → AgentSt) : (s.modAgent i f).agents = vmod s.agents i f := (rfl)
@[simp] theorem State.modAgent_xtime (s : State) (i : Nat) (f : AgentSt → AgentSt) : (s.modAgent i f).xtime = s.xtime := (rfl)
@[simp] theorem State.modAgent_locks (s : State) (i : Nat) (f : AgentSt → AgentSt) : (s.modAgent i f).locks = s.locks := (rfl)
@[simp] theorem State.modAgent_lockPtr (s : State) (i : Nat) (f : AgentSt → AgentSt) : (s.modAgent i f).lockPtr = s.lockPtr := (rfl)
@[simp] theorem State.modAgent_lps (s : State) (i : Nat) (f : AgentSt → AgentSt) : (s.modAgent i f).lps = s.lps := (rfl)
@[simp] theorem State.modAgent_nw (s : State) (i : Nat) (f : AgentSt → AgentSt) : (s.modAgent i f).nw = s.nw := (rfl)
@[simp] theorem State.modAgent_safe (s : State) (i : Nat) (f : AgentSt → AgentSt) : (s.modAgent i f).safe = s.safe := (rfl)
@[simp] theorem State.modAgent_rm (s : State) (i : Nat) (f : AgentSt → AgentSt) : (s.modAgent i f).rm = s.rm := (rfl)
@[simp] theorem State.modAgent_tw (s : State) (i : Nat) (f : AgentSt → AgentSt) : (s.modAgent i f).tw = s.tw := (rfl)
@[simp] theorem State.modAgent_sec (s : State) (i : Nat) (f : AgentSt → AgentSt) : (s.modAgent i f).sec = s.sec := (rfl)
@[simp] theorem State.modAgent_io (s : State) (i : Nat) (f : AgentSt → AgentSt) : (s.modAgent i f).io = s.io := (rfl)
@[simp] theorem State.modAgent_cans (s : State) (i : Nat) (f : AgentSt → AgentSt) : (s.modAgent i f).cans = s.cans := (rfl)
@[simp] theorem State.modAgent_acq (s : State) (i : Nat) (f : AgentSt → AgentSt) : (s.modAgent i f).acq = s.acq := (rfl)
@[simp] theorem State.modAgent_log (s : State) (i : Nat) (f : AgentSt → AgentSt) : (s.modAgent i f).log = s.log := (rfl)
@[simp] theorem State.modAgent_host (s : State) (i : Nat) (f : AgentSt → AgentSt) : (s.modAgent i f).host = s.host := (rfl)
@[simp] theorem State.modAgent_pw (s : State) (i : Nat) (f : AgentSt → AgentSt) : (s.modAgent i f).pw = s.pw := (rfl)
@[simp] theorem State.modAgent_rd (s : State) (i : Nat) (f : AgentSt → AgentSt) (j : Nat) : (s.modAgent i f).rd j = s.rd j := (rfl)
@[simp] theorem State.modAgent_canonical (s : State) (i : Nat) (f : AgentSt → AgentSt) : (s.modAgent i f).canonical = s.canonical := (rfl)
@[simp] theorem State.modAgent_ard (s : State) (i : Nat) (f : AgentSt → AgentSt) (j : Nat) : (s.modAgent i f).ard j = s.ard j := (rfl)
/-! `State.modPlan` -/
@[simp] theorem State.modPlan_pending (s : State) (g : Nat) (f : GrpPlan → GrpPlan) : (s.modPlan g f).pending = s.pending := (rfl)
@[simp] theorem State.modPlan_regs (s : State) (g : Nat) (f : GrpPlan → GrpPlan) : (s.modPlan g f).regs = s.regs := (rfl)
@[simp] theorem State.modPlan_act (s : State) (g : Nat) (f : GrpPlan → GrpPlan) : (s.modPlan g f).act = s.act := (rfl)
@[simp] theorem State.modPlan_mem (s : State) (g : Nat) (f : GrpPlan → GrpPlan) : (s.modPlan g f).mem = s.mem := (rfl)
@[simp] theorem State.modPlan_variantF (s : State) (g : Nat) (f : GrpPlan → GrpPlan) : (s.modPlan g f).variantF = s.variantF := (rfl)
@[simp] theorem State.modPlan_events (s : State) (g : Nat) (f : GrpPlan → GrpPlan) : (s.modPlan g f).events = s.events := (rfl)
@[simp] theorem State.modPlan_vectors (s : State) (g : Nat) (f : GrpPlan → GrpPlan) : (s.modPlan g f).vectors = s.vectors := (rfl)
@[simp] theorem State.modPlan_freeCount (s : State) (g : Nat) (f : GrpPlan → GrpPlan) : (s.modPlan g f).freeCount = s.freeCount := (rfl)
@[simp] theorem State.modPlan_time (s : State) (g : Nat) (f : GrpPlan → GrpPlan) : (s.modPlan g f).time = s.time := (rfl)
@[simp] theorem State.modPlan_grids (s : State) (g : Nat) (f : GrpPlan → GrpPlan) : (s.modPlan g f).grids = s.grids := (rfl)
@[simp] theorem State.modPlan_reqs (s : State) (g : Nat) (f : GrpPlan → GrpPlan) : (s.modPlan g f).reqs = s.reqs := (rfl)
@[simp] theorem State.modPlan_ports (s : State) (g : Nat) (f : GrpPlan → GrpPlan) : (s.modPlan g f).ports = s.ports := (rfl)
@[simp] theorem State.modPlan_latches (s : State) (g : Nat) (f : GrpPlan → GrpPlan) : (s.modPlan g f).latches = s.latches := (rfl)
@[simp] theorem State.modPlan_compares (s : State) (g : Nat) (f : GrpPlan → GrpPlan) : (s.modPlan g f).compares = s.compares := (rfl)
@[simp] theorem State.modPlan_rcs (s : State) (g : Nat) (f : GrpPlan → GrpPlan) : (s.modPlan g f).rcs = s.rcs := (rfl)
@[simp] theorem State.modPlan_motion (s : State) (g : Nat) (f : GrpPlan → GrpPlan) : (s.modPlan g f).motion = s.motion := (rfl)
@[simp] theorem State.modPlan_plans (s : State) (g : Nat) (f : GrpPlan → GrpPlan) : (s.modPlan g f).plans = vmod s.plans g f := (rfl)
@[simp] theorem State.modPlan_stops (s : State) (g : Nat) (f : GrpPlan → GrpPlan) : (s.modPlan g f).stops = s.stops := (rfl)
@[simp] theorem State.modPlan_shafts (s : State) (g : Nat) (f : GrpPlan → GrpPlan) : (s.modPlan g f).shafts = s.shafts := (rfl)
@[simp] theorem State.modPlan_cams (s : State) (g : Nat) (f : GrpPlan → GrpPlan) : (s.modPlan g f).cams = s.cams := (rfl)
@[simp] theorem State.modPlan_inflight (s : State) (g : Nat) (f : GrpPlan → GrpPlan) : (s.modPlan g f).inflight = s.inflight := (rfl)
@[simp] theorem State.modPlan_waits (s : State) (g : Nat) (f : GrpPlan → GrpPlan) : (s.modPlan g f).waits = s.waits := (rfl)
@[simp] theorem State.modPlan_completions (s : State) (g : Nat) (f : GrpPlan → GrpPlan) : (s.modPlan g f).completions = s.completions := (rfl)
@[simp] theorem State.modPlan_netAxes (s : State) (g : Nat) (f : GrpPlan → GrpPlan) : (s.modPlan g f).netAxes = s.netAxes := (rfl)
@[simp] theorem State.modPlan_loops (s : State) (g : Nat) (f : GrpPlan → GrpPlan) : (s.modPlan g f).loops = s.loops := (rfl)
@[simp] theorem State.modPlan_injs (s : State) (g : Nat) (f : GrpPlan → GrpPlan) : (s.modPlan g f).injs = s.injs := (rfl)
@[simp] theorem State.modPlan_assign (s : State) (g : Nat) (f : GrpPlan → GrpPlan) : (s.modPlan g f).assign = s.assign := (rfl)
@[simp] theorem State.modPlan_runQ (s : State) (g : Nat) (f : GrpPlan → GrpPlan) : (s.modPlan g f).runQ = s.runQ := (rfl)
@[simp] theorem State.modPlan_pwms (s : State) (g : Nat) (f : GrpPlan → GrpPlan) : (s.modPlan g f).pwms = s.pwms := (rfl)
@[simp] theorem State.modPlan_trips (s : State) (g : Nat) (f : GrpPlan → GrpPlan) : (s.modPlan g f).trips = s.trips := (rfl)
@[simp] theorem State.modPlan_atcs (s : State) (g : Nat) (f : GrpPlan → GrpPlan) : (s.modPlan g f).atcs = s.atcs := (rfl)
@[simp] theorem State.modPlan_sds (s : State) (g : Nat) (f : GrpPlan → GrpPlan) : (s.modPlan g f).sds = s.sds := (rfl)
@[simp] theorem State.modPlan_cles (s : State) (g : Nat) (f : GrpPlan → GrpPlan) : (s.modPlan g f).cles = s.cles := (rfl)
@[simp] theorem State.modPlan_rdata (s : State) (g : Nat) (f : GrpPlan → GrpPlan) : (s.modPlan g f).rdata = s.rdata := (rfl)
@[simp] theorem State.modPlan_groom (s : State) (g : Nat) (f : GrpPlan → GrpPlan) : (s.modPlan g f).groom = s.groom := (rfl)
@[simp] theorem State.modPlan_stalls (s : State) (g : Nat) (f : GrpPlan → GrpPlan) : (s.modPlan g f).stalls = s.stalls := (rfl)
@[simp] theorem State.modPlan_agents (s : State) (g : Nat) (f : GrpPlan → GrpPlan) : (s.modPlan g f).agents = s.agents := (rfl)
@[simp] theorem State.modPlan_xtime (s : State) (g : Nat) (f : GrpPlan → GrpPlan) : (s.modPlan g f).xtime = s.xtime := (rfl)
@[simp] theorem State.modPlan_locks (s : State) (g : Nat) (f : GrpPlan → GrpPlan) : (s.modPlan g f).locks = s.locks := (rfl)
@[simp] theorem State.modPlan_lockPtr (s : State) (g : Nat) (f : GrpPlan → GrpPlan) : (s.modPlan g f).lockPtr = s.lockPtr := (rfl)
@[simp] theorem State.modPlan_lps (s : State) (g : Nat) (f : GrpPlan → GrpPlan) : (s.modPlan g f).lps = s.lps := (rfl)
@[simp] theorem State.modPlan_nw (s : State) (g : Nat) (f : GrpPlan → GrpPlan) : (s.modPlan g f).nw = s.nw := (rfl)
@[simp] theorem State.modPlan_safe (s : State) (g : Nat) (f : GrpPlan → GrpPlan) : (s.modPlan g f).safe = s.safe := (rfl)
@[simp] theorem State.modPlan_rm (s : State) (g : Nat) (f : GrpPlan → GrpPlan) : (s.modPlan g f).rm = s.rm := (rfl)
@[simp] theorem State.modPlan_tw (s : State) (g : Nat) (f : GrpPlan → GrpPlan) : (s.modPlan g f).tw = s.tw := (rfl)
@[simp] theorem State.modPlan_sec (s : State) (g : Nat) (f : GrpPlan → GrpPlan) : (s.modPlan g f).sec = s.sec := (rfl)
@[simp] theorem State.modPlan_io (s : State) (g : Nat) (f : GrpPlan → GrpPlan) : (s.modPlan g f).io = s.io := (rfl)
@[simp] theorem State.modPlan_cans (s : State) (g : Nat) (f : GrpPlan → GrpPlan) : (s.modPlan g f).cans = s.cans := (rfl)
@[simp] theorem State.modPlan_acq (s : State) (g : Nat) (f : GrpPlan → GrpPlan) : (s.modPlan g f).acq = s.acq := (rfl)
@[simp] theorem State.modPlan_log (s : State) (g : Nat) (f : GrpPlan → GrpPlan) : (s.modPlan g f).log = s.log := (rfl)
@[simp] theorem State.modPlan_host (s : State) (g : Nat) (f : GrpPlan → GrpPlan) : (s.modPlan g f).host = s.host := (rfl)
@[simp] theorem State.modPlan_pw (s : State) (g : Nat) (f : GrpPlan → GrpPlan) : (s.modPlan g f).pw = s.pw := (rfl)
@[simp] theorem State.modPlan_rd (s : State) (g : Nat) (f : GrpPlan → GrpPlan) (j : Nat) : (s.modPlan g f).rd j = s.rd j := (rfl)
@[simp] theorem State.modPlan_canonical (s : State) (g : Nat) (f : GrpPlan → GrpPlan) : (s.modPlan g f).canonical = s.canonical := (rfl)
@[simp] theorem State.modPlan_ard (s : State) (g : Nat) (f : GrpPlan → GrpPlan) (j : Nat) : (s.modPlan g f).ard j = s.ard j := (rfl)
/-! `State.modPwm` -/
@[simp] theorem State.modPwm_pending (s : State) (g : Nat) (f : PwmSt → PwmSt) : (s.modPwm g f).pending = s.pending := (rfl)
@[simp] theorem State.modPwm_regs (s : State) (g : Nat) (f : PwmSt → PwmSt) : (s.modPwm g f).regs = s.regs := (rfl)
@[simp] theorem State.modPwm_act (s : State) (g : Nat) (f : PwmSt → PwmSt) : (s.modPwm g f).act = s.act := (rfl)
@[simp] theorem State.modPwm_mem (s : State) (g : Nat) (f : PwmSt → PwmSt) : (s.modPwm g f).mem = s.mem := (rfl)
@[simp] theorem State.modPwm_variantF (s : State) (g : Nat) (f : PwmSt → PwmSt) : (s.modPwm g f).variantF = s.variantF := (rfl)
@[simp] theorem State.modPwm_events (s : State) (g : Nat) (f : PwmSt → PwmSt) : (s.modPwm g f).events = s.events := (rfl)
@[simp] theorem State.modPwm_vectors (s : State) (g : Nat) (f : PwmSt → PwmSt) : (s.modPwm g f).vectors = s.vectors := (rfl)
@[simp] theorem State.modPwm_freeCount (s : State) (g : Nat) (f : PwmSt → PwmSt) : (s.modPwm g f).freeCount = s.freeCount := (rfl)
@[simp] theorem State.modPwm_time (s : State) (g : Nat) (f : PwmSt → PwmSt) : (s.modPwm g f).time = s.time := (rfl)
@[simp] theorem State.modPwm_grids (s : State) (g : Nat) (f : PwmSt → PwmSt) : (s.modPwm g f).grids = s.grids := (rfl)
@[simp] theorem State.modPwm_reqs (s : State) (g : Nat) (f : PwmSt → PwmSt) : (s.modPwm g f).reqs = s.reqs := (rfl)
@[simp] theorem State.modPwm_ports (s : State) (g : Nat) (f : PwmSt → PwmSt) : (s.modPwm g f).ports = s.ports := (rfl)
@[simp] theorem State.modPwm_latches (s : State) (g : Nat) (f : PwmSt → PwmSt) : (s.modPwm g f).latches = s.latches := (rfl)
@[simp] theorem State.modPwm_compares (s : State) (g : Nat) (f : PwmSt → PwmSt) : (s.modPwm g f).compares = s.compares := (rfl)
@[simp] theorem State.modPwm_rcs (s : State) (g : Nat) (f : PwmSt → PwmSt) : (s.modPwm g f).rcs = s.rcs := (rfl)
@[simp] theorem State.modPwm_motion (s : State) (g : Nat) (f : PwmSt → PwmSt) : (s.modPwm g f).motion = s.motion := (rfl)
@[simp] theorem State.modPwm_plans (s : State) (g : Nat) (f : PwmSt → PwmSt) : (s.modPwm g f).plans = s.plans := (rfl)
@[simp] theorem State.modPwm_stops (s : State) (g : Nat) (f : PwmSt → PwmSt) : (s.modPwm g f).stops = s.stops := (rfl)
@[simp] theorem State.modPwm_shafts (s : State) (g : Nat) (f : PwmSt → PwmSt) : (s.modPwm g f).shafts = s.shafts := (rfl)
@[simp] theorem State.modPwm_cams (s : State) (g : Nat) (f : PwmSt → PwmSt) : (s.modPwm g f).cams = s.cams := (rfl)
@[simp] theorem State.modPwm_inflight (s : State) (g : Nat) (f : PwmSt → PwmSt) : (s.modPwm g f).inflight = s.inflight := (rfl)
@[simp] theorem State.modPwm_waits (s : State) (g : Nat) (f : PwmSt → PwmSt) : (s.modPwm g f).waits = s.waits := (rfl)
@[simp] theorem State.modPwm_completions (s : State) (g : Nat) (f : PwmSt → PwmSt) : (s.modPwm g f).completions = s.completions := (rfl)
@[simp] theorem State.modPwm_netAxes (s : State) (g : Nat) (f : PwmSt → PwmSt) : (s.modPwm g f).netAxes = s.netAxes := (rfl)
@[simp] theorem State.modPwm_loops (s : State) (g : Nat) (f : PwmSt → PwmSt) : (s.modPwm g f).loops = s.loops := (rfl)
@[simp] theorem State.modPwm_injs (s : State) (g : Nat) (f : PwmSt → PwmSt) : (s.modPwm g f).injs = s.injs := (rfl)
@[simp] theorem State.modPwm_assign (s : State) (g : Nat) (f : PwmSt → PwmSt) : (s.modPwm g f).assign = s.assign := (rfl)
@[simp] theorem State.modPwm_runQ (s : State) (g : Nat) (f : PwmSt → PwmSt) : (s.modPwm g f).runQ = s.runQ := (rfl)
@[simp] theorem State.modPwm_pwms (s : State) (g : Nat) (f : PwmSt → PwmSt) : (s.modPwm g f).pwms = vmod s.pwms g f := (rfl)
@[simp] theorem State.modPwm_trips (s : State) (g : Nat) (f : PwmSt → PwmSt) : (s.modPwm g f).trips = s.trips := (rfl)
@[simp] theorem State.modPwm_atcs (s : State) (g : Nat) (f : PwmSt → PwmSt) : (s.modPwm g f).atcs = s.atcs := (rfl)
@[simp] theorem State.modPwm_sds (s : State) (g : Nat) (f : PwmSt → PwmSt) : (s.modPwm g f).sds = s.sds := (rfl)
@[simp] theorem State.modPwm_cles (s : State) (g : Nat) (f : PwmSt → PwmSt) : (s.modPwm g f).cles = s.cles := (rfl)
@[simp] theorem State.modPwm_rdata (s : State) (g : Nat) (f : PwmSt → PwmSt) : (s.modPwm g f).rdata = s.rdata := (rfl)
@[simp] theorem State.modPwm_groom (s : State) (g : Nat) (f : PwmSt → PwmSt) : (s.modPwm g f).groom = s.groom := (rfl)
@[simp] theorem State.modPwm_stalls (s : State) (g : Nat) (f : PwmSt → PwmSt) : (s.modPwm g f).stalls = s.stalls := (rfl)
@[simp] theorem State.modPwm_agents (s : State) (g : Nat) (f : PwmSt → PwmSt) : (s.modPwm g f).agents = s.agents := (rfl)
@[simp] theorem State.modPwm_xtime (s : State) (g : Nat) (f : PwmSt → PwmSt) : (s.modPwm g f).xtime = s.xtime := (rfl)
@[simp] theorem State.modPwm_locks (s : State) (g : Nat) (f : PwmSt → PwmSt) : (s.modPwm g f).locks = s.locks := (rfl)
@[simp] theorem State.modPwm_lockPtr (s : State) (g : Nat) (f : PwmSt → PwmSt) : (s.modPwm g f).lockPtr = s.lockPtr := (rfl)
@[simp] theorem State.modPwm_lps (s : State) (g : Nat) (f : PwmSt → PwmSt) : (s.modPwm g f).lps = s.lps := (rfl)
@[simp] theorem State.modPwm_nw (s : State) (g : Nat) (f : PwmSt → PwmSt) : (s.modPwm g f).nw = s.nw := (rfl)
@[simp] theorem State.modPwm_safe (s : State) (g : Nat) (f : PwmSt → PwmSt) : (s.modPwm g f).safe = s.safe := (rfl)
@[simp] theorem State.modPwm_rm (s : State) (g : Nat) (f : PwmSt → PwmSt) : (s.modPwm g f).rm = s.rm := (rfl)
@[simp] theorem State.modPwm_tw (s : State) (g : Nat) (f : PwmSt → PwmSt) : (s.modPwm g f).tw = s.tw := (rfl)
@[simp] theorem State.modPwm_sec (s : State) (g : Nat) (f : PwmSt → PwmSt) : (s.modPwm g f).sec = s.sec := (rfl)
@[simp] theorem State.modPwm_io (s : State) (g : Nat) (f : PwmSt → PwmSt) : (s.modPwm g f).io = s.io := (rfl)
@[simp] theorem State.modPwm_cans (s : State) (g : Nat) (f : PwmSt → PwmSt) : (s.modPwm g f).cans = s.cans := (rfl)
@[simp] theorem State.modPwm_acq (s : State) (g : Nat) (f : PwmSt → PwmSt) : (s.modPwm g f).acq = s.acq := (rfl)
@[simp] theorem State.modPwm_log (s : State) (g : Nat) (f : PwmSt → PwmSt) : (s.modPwm g f).log = s.log := (rfl)
@[simp] theorem State.modPwm_host (s : State) (g : Nat) (f : PwmSt → PwmSt) : (s.modPwm g f).host = s.host := (rfl)
@[simp] theorem State.modPwm_pw (s : State) (g : Nat) (f : PwmSt → PwmSt) : (s.modPwm g f).pw = s.pw := (rfl)
@[simp] theorem State.modPwm_rd (s : State) (g : Nat) (f : PwmSt → PwmSt) (j : Nat) : (s.modPwm g f).rd j = s.rd j := (rfl)
@[simp] theorem State.modPwm_canonical (s : State) (g : Nat) (f : PwmSt → PwmSt) : (s.modPwm g f).canonical = s.canonical := (rfl)
@[simp] theorem State.modPwm_ard (s : State) (g : Nat) (f : PwmSt → PwmSt) (j : Nat) : (s.modPwm g f).ard j = s.ard j := (rfl)
/-! `State.modTrip` -/
@[simp] theorem State.modTrip_pending (s : State) (i : Nat) (f : TripSt → TripSt) : (s.modTrip i f).pending = s.pending := (rfl)
@[simp] theorem State.modTrip_regs (s : State) (i : Nat) (f : TripSt → TripSt) : (s.modTrip i f).regs = s.regs := (rfl)
@[simp] theorem State.modTrip_act (s : State) (i : Nat) (f : TripSt → TripSt) : (s.modTrip i f).act = s.act := (rfl)
@[simp] theorem State.modTrip_mem (s : State) (i : Nat) (f : TripSt → TripSt) : (s.modTrip i f).mem = s.mem := (rfl)
@[simp] theorem State.modTrip_variantF (s : State) (i : Nat) (f : TripSt → TripSt) : (s.modTrip i f).variantF = s.variantF := (rfl)
@[simp] theorem State.modTrip_events (s : State) (i : Nat) (f : TripSt → TripSt) : (s.modTrip i f).events = s.events := (rfl)
@[simp] theorem State.modTrip_vectors (s : State) (i : Nat) (f : TripSt → TripSt) : (s.modTrip i f).vectors = s.vectors := (rfl)
@[simp] theorem State.modTrip_freeCount (s : State) (i : Nat) (f : TripSt → TripSt) : (s.modTrip i f).freeCount = s.freeCount := (rfl)
@[simp] theorem State.modTrip_time (s : State) (i : Nat) (f : TripSt → TripSt) : (s.modTrip i f).time = s.time := (rfl)
@[simp] theorem State.modTrip_grids (s : State) (i : Nat) (f : TripSt → TripSt) : (s.modTrip i f).grids = s.grids := (rfl)
@[simp] theorem State.modTrip_reqs (s : State) (i : Nat) (f : TripSt → TripSt) : (s.modTrip i f).reqs = s.reqs := (rfl)
@[simp] theorem State.modTrip_ports (s : State) (i : Nat) (f : TripSt → TripSt) : (s.modTrip i f).ports = s.ports := (rfl)
@[simp] theorem State.modTrip_latches (s : State) (i : Nat) (f : TripSt → TripSt) : (s.modTrip i f).latches = s.latches := (rfl)
@[simp] theorem State.modTrip_compares (s : State) (i : Nat) (f : TripSt → TripSt) : (s.modTrip i f).compares = s.compares := (rfl)
@[simp] theorem State.modTrip_rcs (s : State) (i : Nat) (f : TripSt → TripSt) : (s.modTrip i f).rcs = s.rcs := (rfl)
@[simp] theorem State.modTrip_motion (s : State) (i : Nat) (f : TripSt → TripSt) : (s.modTrip i f).motion = s.motion := (rfl)
@[simp] theorem State.modTrip_plans (s : State) (i : Nat) (f : TripSt → TripSt) : (s.modTrip i f).plans = s.plans := (rfl)
@[simp] theorem State.modTrip_stops (s : State) (i : Nat) (f : TripSt → TripSt) : (s.modTrip i f).stops = s.stops := (rfl)
@[simp] theorem State.modTrip_shafts (s : State) (i : Nat) (f : TripSt → TripSt) : (s.modTrip i f).shafts = s.shafts := (rfl)
@[simp] theorem State.modTrip_cams (s : State) (i : Nat) (f : TripSt → TripSt) : (s.modTrip i f).cams = s.cams := (rfl)
@[simp] theorem State.modTrip_inflight (s : State) (i : Nat) (f : TripSt → TripSt) : (s.modTrip i f).inflight = s.inflight := (rfl)
@[simp] theorem State.modTrip_waits (s : State) (i : Nat) (f : TripSt → TripSt) : (s.modTrip i f).waits = s.waits := (rfl)
@[simp] theorem State.modTrip_completions (s : State) (i : Nat) (f : TripSt → TripSt) : (s.modTrip i f).completions = s.completions := (rfl)
@[simp] theorem State.modTrip_netAxes (s : State) (i : Nat) (f : TripSt → TripSt) : (s.modTrip i f).netAxes = s.netAxes := (rfl)
@[simp] theorem State.modTrip_loops (s : State) (i : Nat) (f : TripSt → TripSt) : (s.modTrip i f).loops = s.loops := (rfl)
@[simp] theorem State.modTrip_injs (s : State) (i : Nat) (f : TripSt → TripSt) : (s.modTrip i f).injs = s.injs := (rfl)
@[simp] theorem State.modTrip_assign (s : State) (i : Nat) (f : TripSt → TripSt) : (s.modTrip i f).assign = s.assign := (rfl)
@[simp] theorem State.modTrip_runQ (s : State) (i : Nat) (f : TripSt → TripSt) : (s.modTrip i f).runQ = s.runQ := (rfl)
@[simp] theorem State.modTrip_pwms (s : State) (i : Nat) (f : TripSt → TripSt) : (s.modTrip i f).pwms = s.pwms := (rfl)
@[simp] theorem State.modTrip_trips (s : State) (i : Nat) (f : TripSt → TripSt) : (s.modTrip i f).trips = vmod s.trips i f := (rfl)
@[simp] theorem State.modTrip_atcs (s : State) (i : Nat) (f : TripSt → TripSt) : (s.modTrip i f).atcs = s.atcs := (rfl)
@[simp] theorem State.modTrip_sds (s : State) (i : Nat) (f : TripSt → TripSt) : (s.modTrip i f).sds = s.sds := (rfl)
@[simp] theorem State.modTrip_cles (s : State) (i : Nat) (f : TripSt → TripSt) : (s.modTrip i f).cles = s.cles := (rfl)
@[simp] theorem State.modTrip_rdata (s : State) (i : Nat) (f : TripSt → TripSt) : (s.modTrip i f).rdata = s.rdata := (rfl)
@[simp] theorem State.modTrip_groom (s : State) (i : Nat) (f : TripSt → TripSt) : (s.modTrip i f).groom = s.groom := (rfl)
@[simp] theorem State.modTrip_stalls (s : State) (i : Nat) (f : TripSt → TripSt) : (s.modTrip i f).stalls = s.stalls := (rfl)
@[simp] theorem State.modTrip_agents (s : State) (i : Nat) (f : TripSt → TripSt) : (s.modTrip i f).agents = s.agents := (rfl)
@[simp] theorem State.modTrip_xtime (s : State) (i : Nat) (f : TripSt → TripSt) : (s.modTrip i f).xtime = s.xtime := (rfl)
@[simp] theorem State.modTrip_locks (s : State) (i : Nat) (f : TripSt → TripSt) : (s.modTrip i f).locks = s.locks := (rfl)
@[simp] theorem State.modTrip_lockPtr (s : State) (i : Nat) (f : TripSt → TripSt) : (s.modTrip i f).lockPtr = s.lockPtr := (rfl)
@[simp] theorem State.modTrip_lps (s : State) (i : Nat) (f : TripSt → TripSt) : (s.modTrip i f).lps = s.lps := (rfl)
@[simp] theorem State.modTrip_nw (s : State) (i : Nat) (f : TripSt → TripSt) : (s.modTrip i f).nw = s.nw := (rfl)
@[simp] theorem State.modTrip_safe (s : State) (i : Nat) (f : TripSt → TripSt) : (s.modTrip i f).safe = s.safe := (rfl)
@[simp] theorem State.modTrip_rm (s : State) (i : Nat) (f : TripSt → TripSt) : (s.modTrip i f).rm = s.rm := (rfl)
@[simp] theorem State.modTrip_tw (s : State) (i : Nat) (f : TripSt → TripSt) : (s.modTrip i f).tw = s.tw := (rfl)
@[simp] theorem State.modTrip_sec (s : State) (i : Nat) (f : TripSt → TripSt) : (s.modTrip i f).sec = s.sec := (rfl)
@[simp] theorem State.modTrip_io (s : State) (i : Nat) (f : TripSt → TripSt) : (s.modTrip i f).io = s.io := (rfl)
@[simp] theorem State.modTrip_cans (s : State) (i : Nat) (f : TripSt → TripSt) : (s.modTrip i f).cans = s.cans := (rfl)
@[simp] theorem State.modTrip_acq (s : State) (i : Nat) (f : TripSt → TripSt) : (s.modTrip i f).acq = s.acq := (rfl)
@[simp] theorem State.modTrip_log (s : State) (i : Nat) (f : TripSt → TripSt) : (s.modTrip i f).log = s.log := (rfl)
@[simp] theorem State.modTrip_host (s : State) (i : Nat) (f : TripSt → TripSt) : (s.modTrip i f).host = s.host := (rfl)
@[simp] theorem State.modTrip_pw (s : State) (i : Nat) (f : TripSt → TripSt) : (s.modTrip i f).pw = s.pw := (rfl)
@[simp] theorem State.modTrip_rd (s : State) (i : Nat) (f : TripSt → TripSt) (j : Nat) : (s.modTrip i f).rd j = s.rd j := (rfl)
@[simp] theorem State.modTrip_canonical (s : State) (i : Nat) (f : TripSt → TripSt) : (s.modTrip i f).canonical = s.canonical := (rfl)
@[simp] theorem State.modTrip_ard (s : State) (i : Nat) (f : TripSt → TripSt) (j : Nat) : (s.modTrip i f).ard j = s.ard j := (rfl)
/-! `State.modAtc` -/
@[simp] theorem State.modAtc_pending (s : State) (k : Nat) (f : AtcSt → AtcSt) : (s.modAtc k f).pending = s.pending := (rfl)
@[simp] theorem State.modAtc_regs (s : State) (k : Nat) (f : AtcSt → AtcSt) : (s.modAtc k f).regs = s.regs := (rfl)
@[simp] theorem State.modAtc_act (s : State) (k : Nat) (f : AtcSt → AtcSt) : (s.modAtc k f).act = s.act := (rfl)
@[simp] theorem State.modAtc_mem (s : State) (k : Nat) (f : AtcSt → AtcSt) : (s.modAtc k f).mem = s.mem := (rfl)
@[simp] theorem State.modAtc_variantF (s : State) (k : Nat) (f : AtcSt → AtcSt) : (s.modAtc k f).variantF = s.variantF := (rfl)
@[simp] theorem State.modAtc_events (s : State) (k : Nat) (f : AtcSt → AtcSt) : (s.modAtc k f).events = s.events := (rfl)
@[simp] theorem State.modAtc_vectors (s : State) (k : Nat) (f : AtcSt → AtcSt) : (s.modAtc k f).vectors = s.vectors := (rfl)
@[simp] theorem State.modAtc_freeCount (s : State) (k : Nat) (f : AtcSt → AtcSt) : (s.modAtc k f).freeCount = s.freeCount := (rfl)
@[simp] theorem State.modAtc_time (s : State) (k : Nat) (f : AtcSt → AtcSt) : (s.modAtc k f).time = s.time := (rfl)
@[simp] theorem State.modAtc_grids (s : State) (k : Nat) (f : AtcSt → AtcSt) : (s.modAtc k f).grids = s.grids := (rfl)
@[simp] theorem State.modAtc_reqs (s : State) (k : Nat) (f : AtcSt → AtcSt) : (s.modAtc k f).reqs = s.reqs := (rfl)
@[simp] theorem State.modAtc_ports (s : State) (k : Nat) (f : AtcSt → AtcSt) : (s.modAtc k f).ports = s.ports := (rfl)
@[simp] theorem State.modAtc_latches (s : State) (k : Nat) (f : AtcSt → AtcSt) : (s.modAtc k f).latches = s.latches := (rfl)
@[simp] theorem State.modAtc_compares (s : State) (k : Nat) (f : AtcSt → AtcSt) : (s.modAtc k f).compares = s.compares := (rfl)
@[simp] theorem State.modAtc_rcs (s : State) (k : Nat) (f : AtcSt → AtcSt) : (s.modAtc k f).rcs = s.rcs := (rfl)
@[simp] theorem State.modAtc_motion (s : State) (k : Nat) (f : AtcSt → AtcSt) : (s.modAtc k f).motion = s.motion := (rfl)
@[simp] theorem State.modAtc_plans (s : State) (k : Nat) (f : AtcSt → AtcSt) : (s.modAtc k f).plans = s.plans := (rfl)
@[simp] theorem State.modAtc_stops (s : State) (k : Nat) (f : AtcSt → AtcSt) : (s.modAtc k f).stops = s.stops := (rfl)
@[simp] theorem State.modAtc_shafts (s : State) (k : Nat) (f : AtcSt → AtcSt) : (s.modAtc k f).shafts = s.shafts := (rfl)
@[simp] theorem State.modAtc_cams (s : State) (k : Nat) (f : AtcSt → AtcSt) : (s.modAtc k f).cams = s.cams := (rfl)
@[simp] theorem State.modAtc_inflight (s : State) (k : Nat) (f : AtcSt → AtcSt) : (s.modAtc k f).inflight = s.inflight := (rfl)
@[simp] theorem State.modAtc_waits (s : State) (k : Nat) (f : AtcSt → AtcSt) : (s.modAtc k f).waits = s.waits := (rfl)
@[simp] theorem State.modAtc_completions (s : State) (k : Nat) (f : AtcSt → AtcSt) : (s.modAtc k f).completions = s.completions := (rfl)
@[simp] theorem State.modAtc_netAxes (s : State) (k : Nat) (f : AtcSt → AtcSt) : (s.modAtc k f).netAxes = s.netAxes := (rfl)
@[simp] theorem State.modAtc_loops (s : State) (k : Nat) (f : AtcSt → AtcSt) : (s.modAtc k f).loops = s.loops := (rfl)
@[simp] theorem State.modAtc_injs (s : State) (k : Nat) (f : AtcSt → AtcSt) : (s.modAtc k f).injs = s.injs := (rfl)
@[simp] theorem State.modAtc_assign (s : State) (k : Nat) (f : AtcSt → AtcSt) : (s.modAtc k f).assign = s.assign := (rfl)
@[simp] theorem State.modAtc_runQ (s : State) (k : Nat) (f : AtcSt → AtcSt) : (s.modAtc k f).runQ = s.runQ := (rfl)
@[simp] theorem State.modAtc_pwms (s : State) (k : Nat) (f : AtcSt → AtcSt) : (s.modAtc k f).pwms = s.pwms := (rfl)
@[simp] theorem State.modAtc_trips (s : State) (k : Nat) (f : AtcSt → AtcSt) : (s.modAtc k f).trips = s.trips := (rfl)
@[simp] theorem State.modAtc_atcs (s : State) (k : Nat) (f : AtcSt → AtcSt) : (s.modAtc k f).atcs = vmod s.atcs k f := (rfl)
@[simp] theorem State.modAtc_sds (s : State) (k : Nat) (f : AtcSt → AtcSt) : (s.modAtc k f).sds = s.sds := (rfl)
@[simp] theorem State.modAtc_cles (s : State) (k : Nat) (f : AtcSt → AtcSt) : (s.modAtc k f).cles = s.cles := (rfl)
@[simp] theorem State.modAtc_rdata (s : State) (k : Nat) (f : AtcSt → AtcSt) : (s.modAtc k f).rdata = s.rdata := (rfl)
@[simp] theorem State.modAtc_groom (s : State) (k : Nat) (f : AtcSt → AtcSt) : (s.modAtc k f).groom = s.groom := (rfl)
@[simp] theorem State.modAtc_stalls (s : State) (k : Nat) (f : AtcSt → AtcSt) : (s.modAtc k f).stalls = s.stalls := (rfl)
@[simp] theorem State.modAtc_agents (s : State) (k : Nat) (f : AtcSt → AtcSt) : (s.modAtc k f).agents = s.agents := (rfl)
@[simp] theorem State.modAtc_xtime (s : State) (k : Nat) (f : AtcSt → AtcSt) : (s.modAtc k f).xtime = s.xtime := (rfl)
@[simp] theorem State.modAtc_locks (s : State) (k : Nat) (f : AtcSt → AtcSt) : (s.modAtc k f).locks = s.locks := (rfl)
@[simp] theorem State.modAtc_lockPtr (s : State) (k : Nat) (f : AtcSt → AtcSt) : (s.modAtc k f).lockPtr = s.lockPtr := (rfl)
@[simp] theorem State.modAtc_lps (s : State) (k : Nat) (f : AtcSt → AtcSt) : (s.modAtc k f).lps = s.lps := (rfl)
@[simp] theorem State.modAtc_nw (s : State) (k : Nat) (f : AtcSt → AtcSt) : (s.modAtc k f).nw = s.nw := (rfl)
@[simp] theorem State.modAtc_safe (s : State) (k : Nat) (f : AtcSt → AtcSt) : (s.modAtc k f).safe = s.safe := (rfl)
@[simp] theorem State.modAtc_rm (s : State) (k : Nat) (f : AtcSt → AtcSt) : (s.modAtc k f).rm = s.rm := (rfl)
@[simp] theorem State.modAtc_tw (s : State) (k : Nat) (f : AtcSt → AtcSt) : (s.modAtc k f).tw = s.tw := (rfl)
@[simp] theorem State.modAtc_sec (s : State) (k : Nat) (f : AtcSt → AtcSt) : (s.modAtc k f).sec = s.sec := (rfl)
@[simp] theorem State.modAtc_io (s : State) (k : Nat) (f : AtcSt → AtcSt) : (s.modAtc k f).io = s.io := (rfl)
@[simp] theorem State.modAtc_cans (s : State) (k : Nat) (f : AtcSt → AtcSt) : (s.modAtc k f).cans = s.cans := (rfl)
@[simp] theorem State.modAtc_acq (s : State) (k : Nat) (f : AtcSt → AtcSt) : (s.modAtc k f).acq = s.acq := (rfl)
@[simp] theorem State.modAtc_log (s : State) (k : Nat) (f : AtcSt → AtcSt) : (s.modAtc k f).log = s.log := (rfl)
@[simp] theorem State.modAtc_host (s : State) (k : Nat) (f : AtcSt → AtcSt) : (s.modAtc k f).host = s.host := (rfl)
@[simp] theorem State.modAtc_pw (s : State) (k : Nat) (f : AtcSt → AtcSt) : (s.modAtc k f).pw = s.pw := (rfl)
@[simp] theorem State.modAtc_rd (s : State) (k : Nat) (f : AtcSt → AtcSt) (j : Nat) : (s.modAtc k f).rd j = s.rd j := (rfl)
@[simp] theorem State.modAtc_canonical (s : State) (k : Nat) (f : AtcSt → AtcSt) : (s.modAtc k f).canonical = s.canonical := (rfl)
@[simp] theorem State.modAtc_ard (s : State) (k : Nat) (f : AtcSt → AtcSt) (j : Nat) : (s.modAtc k f).ard j = s.ard j := (rfl)
/-! `State.modRm` -/
@[simp] theorem State.modRm_pending (s : State) (f : RmSt → RmSt) : (s.modRm f).pending = s.pending := (rfl)
@[simp] theorem State.modRm_regs (s : State) (f : RmSt → RmSt) : (s.modRm f).regs = s.regs := (rfl)
@[simp] theorem State.modRm_act (s : State) (f : RmSt → RmSt) : (s.modRm f).act = s.act := (rfl)
@[simp] theorem State.modRm_mem (s : State) (f : RmSt → RmSt) : (s.modRm f).mem = s.mem := (rfl)
@[simp] theorem State.modRm_variantF (s : State) (f : RmSt → RmSt) : (s.modRm f).variantF = s.variantF := (rfl)
@[simp] theorem State.modRm_events (s : State) (f : RmSt → RmSt) : (s.modRm f).events = s.events := (rfl)
@[simp] theorem State.modRm_vectors (s : State) (f : RmSt → RmSt) : (s.modRm f).vectors = s.vectors := (rfl)
@[simp] theorem State.modRm_freeCount (s : State) (f : RmSt → RmSt) : (s.modRm f).freeCount = s.freeCount := (rfl)
@[simp] theorem State.modRm_time (s : State) (f : RmSt → RmSt) : (s.modRm f).time = s.time := (rfl)
@[simp] theorem State.modRm_grids (s : State) (f : RmSt → RmSt) : (s.modRm f).grids = s.grids := (rfl)
@[simp] theorem State.modRm_reqs (s : State) (f : RmSt → RmSt) : (s.modRm f).reqs = s.reqs := (rfl)
@[simp] theorem State.modRm_ports (s : State) (f : RmSt → RmSt) : (s.modRm f).ports = s.ports := (rfl)
@[simp] theorem State.modRm_latches (s : State) (f : RmSt → RmSt) : (s.modRm f).latches = s.latches := (rfl)
@[simp] theorem State.modRm_compares (s : State) (f : RmSt → RmSt) : (s.modRm f).compares = s.compares := (rfl)
@[simp] theorem State.modRm_rcs (s : State) (f : RmSt → RmSt) : (s.modRm f).rcs = s.rcs := (rfl)
@[simp] theorem State.modRm_motion (s : State) (f : RmSt → RmSt) : (s.modRm f).motion = s.motion := (rfl)
@[simp] theorem State.modRm_plans (s : State) (f : RmSt → RmSt) : (s.modRm f).plans = s.plans := (rfl)
@[simp] theorem State.modRm_stops (s : State) (f : RmSt → RmSt) : (s.modRm f).stops = s.stops := (rfl)
@[simp] theorem State.modRm_shafts (s : State) (f : RmSt → RmSt) : (s.modRm f).shafts = s.shafts := (rfl)
@[simp] theorem State.modRm_cams (s : State) (f : RmSt → RmSt) : (s.modRm f).cams = s.cams := (rfl)
@[simp] theorem State.modRm_inflight (s : State) (f : RmSt → RmSt) : (s.modRm f).inflight = s.inflight := (rfl)
@[simp] theorem State.modRm_waits (s : State) (f : RmSt → RmSt) : (s.modRm f).waits = s.waits := (rfl)
@[simp] theorem State.modRm_completions (s : State) (f : RmSt → RmSt) : (s.modRm f).completions = s.completions := (rfl)
@[simp] theorem State.modRm_netAxes (s : State) (f : RmSt → RmSt) : (s.modRm f).netAxes = s.netAxes := (rfl)
@[simp] theorem State.modRm_loops (s : State) (f : RmSt → RmSt) : (s.modRm f).loops = s.loops := (rfl)
@[simp] theorem State.modRm_injs (s : State) (f : RmSt → RmSt) : (s.modRm f).injs = s.injs := (rfl)
@[simp] theorem State.modRm_assign (s : State) (f : RmSt → RmSt) : (s.modRm f).assign = s.assign := (rfl)
@[simp] theorem State.modRm_runQ (s : State) (f : RmSt → RmSt) : (s.modRm f).runQ = s.runQ := (rfl)
@[simp] theorem State.modRm_pwms (s : State) (f : RmSt → RmSt) : (s.modRm f).pwms = s.pwms := (rfl)
@[simp] theorem State.modRm_trips (s : State) (f : RmSt → RmSt) : (s.modRm f).trips = s.trips := (rfl)
@[simp] theorem State.modRm_atcs (s : State) (f : RmSt → RmSt) : (s.modRm f).atcs = s.atcs := (rfl)
@[simp] theorem State.modRm_sds (s : State) (f : RmSt → RmSt) : (s.modRm f).sds = s.sds := (rfl)
@[simp] theorem State.modRm_cles (s : State) (f : RmSt → RmSt) : (s.modRm f).cles = s.cles := (rfl)
@[simp] theorem State.modRm_rdata (s : State) (f : RmSt → RmSt) : (s.modRm f).rdata = s.rdata := (rfl)
@[simp] theorem State.modRm_groom (s : State) (f : RmSt → RmSt) : (s.modRm f).groom = s.groom := (rfl)
@[simp] theorem State.modRm_stalls (s : State) (f : RmSt → RmSt) : (s.modRm f).stalls = s.stalls := (rfl)
@[simp] theorem State.modRm_agents (s : State) (f : RmSt → RmSt) : (s.modRm f).agents = s.agents := (rfl)
@[simp] theorem State.modRm_xtime (s : State) (f : RmSt → RmSt) : (s.modRm f).xtime = s.xtime := (rfl)
@[simp] theorem State.modRm_locks (s : State) (f : RmSt → RmSt) : (s.modRm f).locks = s.locks := (rfl)
@[simp] theorem State.modRm_lockPtr (s : State) (f : RmSt → RmSt) : (s.modRm f).lockPtr = s.lockPtr := (rfl)
@[simp] theorem State.modRm_lps (s : State) (f : RmSt → RmSt) : (s.modRm f).lps = s.lps := (rfl)
@[simp] theorem State.modRm_nw (s : State) (f : RmSt → RmSt) : (s.modRm f).nw = s.nw := (rfl)
@[simp] theorem State.modRm_safe (s : State) (f : RmSt → RmSt) : (s.modRm f).safe = s.safe := (rfl)
@[simp] theorem State.modRm_rm (s : State) (f : RmSt → RmSt) : (s.modRm f).rm = f s.rm := (rfl)
@[simp] theorem State.modRm_tw (s : State) (f : RmSt → RmSt) : (s.modRm f).tw = s.tw := (rfl)
@[simp] theorem State.modRm_sec (s : State) (f : RmSt → RmSt) : (s.modRm f).sec = s.sec := (rfl)
@[simp] theorem State.modRm_io (s : State) (f : RmSt → RmSt) : (s.modRm f).io = s.io := (rfl)
@[simp] theorem State.modRm_cans (s : State) (f : RmSt → RmSt) : (s.modRm f).cans = s.cans := (rfl)
@[simp] theorem State.modRm_acq (s : State) (f : RmSt → RmSt) : (s.modRm f).acq = s.acq := (rfl)
@[simp] theorem State.modRm_log (s : State) (f : RmSt → RmSt) : (s.modRm f).log = s.log := (rfl)
@[simp] theorem State.modRm_host (s : State) (f : RmSt → RmSt) : (s.modRm f).host = s.host := (rfl)
@[simp] theorem State.modRm_pw (s : State) (f : RmSt → RmSt) : (s.modRm f).pw = s.pw := (rfl)
@[simp] theorem State.modRm_rd (s : State) (f : RmSt → RmSt) (j : Nat) : (s.modRm f).rd j = s.rd j := (rfl)
@[simp] theorem State.modRm_canonical (s : State) (f : RmSt → RmSt) : (s.modRm f).canonical = s.canonical := (rfl)
@[simp] theorem State.modRm_ard (s : State) (f : RmSt → RmSt) (j : Nat) : (s.modRm f).ard j = s.ard j := (rfl)
/-! `State.modSafe` -/
@[simp] theorem State.modSafe_pending (s : State) (f : SafeSt → SafeSt) : (s.modSafe f).pending = s.pending := (rfl)
@[simp] theorem State.modSafe_regs (s : State) (f : SafeSt → SafeSt) : (s.modSafe f).regs = s.regs := (rfl)
@[simp] theorem State.modSafe_act (s : State) (f : SafeSt → SafeSt) : (s.modSafe f).act = s.act := (rfl)
@[simp] theorem State.modSafe_mem (s : State) (f : SafeSt → SafeSt) : (s.modSafe f).mem = s.mem := (rfl)
@[simp] theorem State.modSafe_variantF (s : State) (f : SafeSt → SafeSt) : (s.modSafe f).variantF = s.variantF := (rfl)
@[simp] theorem State.modSafe_events (s : State) (f : SafeSt → SafeSt) : (s.modSafe f).events = s.events := (rfl)
@[simp] theorem State.modSafe_vectors (s : State) (f : SafeSt → SafeSt) : (s.modSafe f).vectors = s.vectors := (rfl)
@[simp] theorem State.modSafe_freeCount (s : State) (f : SafeSt → SafeSt) : (s.modSafe f).freeCount = s.freeCount := (rfl)
@[simp] theorem State.modSafe_time (s : State) (f : SafeSt → SafeSt) : (s.modSafe f).time = s.time := (rfl)
@[simp] theorem State.modSafe_grids (s : State) (f : SafeSt → SafeSt) : (s.modSafe f).grids = s.grids := (rfl)
@[simp] theorem State.modSafe_reqs (s : State) (f : SafeSt → SafeSt) : (s.modSafe f).reqs = s.reqs := (rfl)
@[simp] theorem State.modSafe_ports (s : State) (f : SafeSt → SafeSt) : (s.modSafe f).ports = s.ports := (rfl)
@[simp] theorem State.modSafe_latches (s : State) (f : SafeSt → SafeSt) : (s.modSafe f).latches = s.latches := (rfl)
@[simp] theorem State.modSafe_compares (s : State) (f : SafeSt → SafeSt) : (s.modSafe f).compares = s.compares := (rfl)
@[simp] theorem State.modSafe_rcs (s : State) (f : SafeSt → SafeSt) : (s.modSafe f).rcs = s.rcs := (rfl)
@[simp] theorem State.modSafe_motion (s : State) (f : SafeSt → SafeSt) : (s.modSafe f).motion = s.motion := (rfl)
@[simp] theorem State.modSafe_plans (s : State) (f : SafeSt → SafeSt) : (s.modSafe f).plans = s.plans := (rfl)
@[simp] theorem State.modSafe_stops (s : State) (f : SafeSt → SafeSt) : (s.modSafe f).stops = s.stops := (rfl)
@[simp] theorem State.modSafe_shafts (s : State) (f : SafeSt → SafeSt) : (s.modSafe f).shafts = s.shafts := (rfl)
@[simp] theorem State.modSafe_cams (s : State) (f : SafeSt → SafeSt) : (s.modSafe f).cams = s.cams := (rfl)
@[simp] theorem State.modSafe_inflight (s : State) (f : SafeSt → SafeSt) : (s.modSafe f).inflight = s.inflight := (rfl)
@[simp] theorem State.modSafe_waits (s : State) (f : SafeSt → SafeSt) : (s.modSafe f).waits = s.waits := (rfl)
@[simp] theorem State.modSafe_completions (s : State) (f : SafeSt → SafeSt) : (s.modSafe f).completions = s.completions := (rfl)
@[simp] theorem State.modSafe_netAxes (s : State) (f : SafeSt → SafeSt) : (s.modSafe f).netAxes = s.netAxes := (rfl)
@[simp] theorem State.modSafe_loops (s : State) (f : SafeSt → SafeSt) : (s.modSafe f).loops = s.loops := (rfl)
@[simp] theorem State.modSafe_injs (s : State) (f : SafeSt → SafeSt) : (s.modSafe f).injs = s.injs := (rfl)
@[simp] theorem State.modSafe_assign (s : State) (f : SafeSt → SafeSt) : (s.modSafe f).assign = s.assign := (rfl)
@[simp] theorem State.modSafe_runQ (s : State) (f : SafeSt → SafeSt) : (s.modSafe f).runQ = s.runQ := (rfl)
@[simp] theorem State.modSafe_pwms (s : State) (f : SafeSt → SafeSt) : (s.modSafe f).pwms = s.pwms := (rfl)
@[simp] theorem State.modSafe_trips (s : State) (f : SafeSt → SafeSt) : (s.modSafe f).trips = s.trips := (rfl)
@[simp] theorem State.modSafe_atcs (s : State) (f : SafeSt → SafeSt) : (s.modSafe f).atcs = s.atcs := (rfl)
@[simp] theorem State.modSafe_sds (s : State) (f : SafeSt → SafeSt) : (s.modSafe f).sds = s.sds := (rfl)
@[simp] theorem State.modSafe_cles (s : State) (f : SafeSt → SafeSt) : (s.modSafe f).cles = s.cles := (rfl)
@[simp] theorem State.modSafe_rdata (s : State) (f : SafeSt → SafeSt) : (s.modSafe f).rdata = s.rdata := (rfl)
@[simp] theorem State.modSafe_groom (s : State) (f : SafeSt → SafeSt) : (s.modSafe f).groom = s.groom := (rfl)
@[simp] theorem State.modSafe_stalls (s : State) (f : SafeSt → SafeSt) : (s.modSafe f).stalls = s.stalls := (rfl)
@[simp] theorem State.modSafe_agents (s : State) (f : SafeSt → SafeSt) : (s.modSafe f).agents = s.agents := (rfl)
@[simp] theorem State.modSafe_xtime (s : State) (f : SafeSt → SafeSt) : (s.modSafe f).xtime = s.xtime := (rfl)
@[simp] theorem State.modSafe_locks (s : State) (f : SafeSt → SafeSt) : (s.modSafe f).locks = s.locks := (rfl)
@[simp] theorem State.modSafe_lockPtr (s : State) (f : SafeSt → SafeSt) : (s.modSafe f).lockPtr = s.lockPtr := (rfl)
@[simp] theorem State.modSafe_lps (s : State) (f : SafeSt → SafeSt) : (s.modSafe f).lps = s.lps := (rfl)
@[simp] theorem State.modSafe_nw (s : State) (f : SafeSt → SafeSt) : (s.modSafe f).nw = s.nw := (rfl)
@[simp] theorem State.modSafe_safe (s : State) (f : SafeSt → SafeSt) : (s.modSafe f).safe = f s.safe := (rfl)
@[simp] theorem State.modSafe_rm (s : State) (f : SafeSt → SafeSt) : (s.modSafe f).rm = s.rm := (rfl)
@[simp] theorem State.modSafe_tw (s : State) (f : SafeSt → SafeSt) : (s.modSafe f).tw = s.tw := (rfl)
@[simp] theorem State.modSafe_sec (s : State) (f : SafeSt → SafeSt) : (s.modSafe f).sec = s.sec := (rfl)
@[simp] theorem State.modSafe_io (s : State) (f : SafeSt → SafeSt) : (s.modSafe f).io = s.io := (rfl)
@[simp] theorem State.modSafe_cans (s : State) (f : SafeSt → SafeSt) : (s.modSafe f).cans = s.cans := (rfl)
@[simp] theorem State.modSafe_acq (s : State) (f : SafeSt → SafeSt) : (s.modSafe f).acq = s.acq := (rfl)
@[simp] theorem State.modSafe_log (s : State) (f : SafeSt → SafeSt) : (s.modSafe f).log = s.log := (rfl)
@[simp] theorem State.modSafe_host (s : State) (f : SafeSt → SafeSt) : (s.modSafe f).host = s.host := (rfl)
@[simp] theorem State.modSafe_pw (s : State) (f : SafeSt → SafeSt) : (s.modSafe f).pw = s.pw := (rfl)
@[simp] theorem State.modSafe_rd (s : State) (f : SafeSt → SafeSt) (j : Nat) : (s.modSafe f).rd j = s.rd j := (rfl)
@[simp] theorem State.modSafe_canonical (s : State) (f : SafeSt → SafeSt) : (s.modSafe f).canonical = s.canonical := (rfl)
@[simp] theorem State.modSafe_ard (s : State) (f : SafeSt → SafeSt) (j : Nat) : (s.modSafe f).ard j = s.ard j := (rfl)
/-! `State.modSec` -/
@[simp] theorem State.modSec_pending (s : State) (f : SecSt → SecSt) : (s.modSec f).pending = s.pending := (rfl)
@[simp] theorem State.modSec_regs (s : State) (f : SecSt → SecSt) : (s.modSec f).regs = s.regs := (rfl)
@[simp] theorem State.modSec_act (s : State) (f : SecSt → SecSt) : (s.modSec f).act = s.act := (rfl)
@[simp] theorem State.modSec_mem (s : State) (f : SecSt → SecSt) : (s.modSec f).mem = s.mem := (rfl)
@[simp] theorem State.modSec_variantF (s : State) (f : SecSt → SecSt) : (s.modSec f).variantF = s.variantF := (rfl)
@[simp] theorem State.modSec_events (s : State) (f : SecSt → SecSt) : (s.modSec f).events = s.events := (rfl)
@[simp] theorem State.modSec_vectors (s : State) (f : SecSt → SecSt) : (s.modSec f).vectors = s.vectors := (rfl)
@[simp] theorem State.modSec_freeCount (s : State) (f : SecSt → SecSt) : (s.modSec f).freeCount = s.freeCount := (rfl)
@[simp] theorem State.modSec_time (s : State) (f : SecSt → SecSt) : (s.modSec f).time = s.time := (rfl)
@[simp] theorem State.modSec_grids (s : State) (f : SecSt → SecSt) : (s.modSec f).grids = s.grids := (rfl)
@[simp] theorem State.modSec_reqs (s : State) (f : SecSt → SecSt) : (s.modSec f).reqs = s.reqs := (rfl)
@[simp] theorem State.modSec_ports (s : State) (f : SecSt → SecSt) : (s.modSec f).ports = s.ports := (rfl)
@[simp] theorem State.modSec_latches (s : State) (f : SecSt → SecSt) : (s.modSec f).latches = s.latches := (rfl)
@[simp] theorem State.modSec_compares (s : State) (f : SecSt → SecSt) : (s.modSec f).compares = s.compares := (rfl)
@[simp] theorem State.modSec_rcs (s : State) (f : SecSt → SecSt) : (s.modSec f).rcs = s.rcs := (rfl)
@[simp] theorem State.modSec_motion (s : State) (f : SecSt → SecSt) : (s.modSec f).motion = s.motion := (rfl)
@[simp] theorem State.modSec_plans (s : State) (f : SecSt → SecSt) : (s.modSec f).plans = s.plans := (rfl)
@[simp] theorem State.modSec_stops (s : State) (f : SecSt → SecSt) : (s.modSec f).stops = s.stops := (rfl)
@[simp] theorem State.modSec_shafts (s : State) (f : SecSt → SecSt) : (s.modSec f).shafts = s.shafts := (rfl)
@[simp] theorem State.modSec_cams (s : State) (f : SecSt → SecSt) : (s.modSec f).cams = s.cams := (rfl)
@[simp] theorem State.modSec_inflight (s : State) (f : SecSt → SecSt) : (s.modSec f).inflight = s.inflight := (rfl)
@[simp] theorem State.modSec_waits (s : State) (f : SecSt → SecSt) : (s.modSec f).waits = s.waits := (rfl)
@[simp] theorem State.modSec_completions (s : State) (f : SecSt → SecSt) : (s.modSec f).completions = s.completions := (rfl)
@[simp] theorem State.modSec_netAxes (s : State) (f : SecSt → SecSt) : (s.modSec f).netAxes = s.netAxes := (rfl)
@[simp] theorem State.modSec_loops (s : State) (f : SecSt → SecSt) : (s.modSec f).loops = s.loops := (rfl)
@[simp] theorem State.modSec_injs (s : State) (f : SecSt → SecSt) : (s.modSec f).injs = s.injs := (rfl)
@[simp] theorem State.modSec_assign (s : State) (f : SecSt → SecSt) : (s.modSec f).assign = s.assign := (rfl)
@[simp] theorem State.modSec_runQ (s : State) (f : SecSt → SecSt) : (s.modSec f).runQ = s.runQ := (rfl)
@[simp] theorem State.modSec_pwms (s : State) (f : SecSt → SecSt) : (s.modSec f).pwms = s.pwms := (rfl)
@[simp] theorem State.modSec_trips (s : State) (f : SecSt → SecSt) : (s.modSec f).trips = s.trips := (rfl)
@[simp] theorem State.modSec_atcs (s : State) (f : SecSt → SecSt) : (s.modSec f).atcs = s.atcs := (rfl)
@[simp] theorem State.modSec_sds (s : State) (f : SecSt → SecSt) : (s.modSec f).sds = s.sds := (rfl)
@[simp] theorem State.modSec_cles (s : State) (f : SecSt → SecSt) : (s.modSec f).cles = s.cles := (rfl)
@[simp] theorem State.modSec_rdata (s : State) (f : SecSt → SecSt) : (s.modSec f).rdata = s.rdata := (rfl)
@[simp] theorem State.modSec_groom (s : State) (f : SecSt → SecSt) : (s.modSec f).groom = s.groom := (rfl)
@[simp] theorem State.modSec_stalls (s : State) (f : SecSt → SecSt) : (s.modSec f).stalls = s.stalls := (rfl)
@[simp] theorem State.modSec_agents (s : State) (f : SecSt → SecSt) : (s.modSec f).agents = s.agents := (rfl)
@[simp] theorem State.modSec_xtime (s : State) (f : SecSt → SecSt) : (s.modSec f).xtime = s.xtime := (rfl)
@[simp] theorem State.modSec_locks (s : State) (f : SecSt → SecSt) : (s.modSec f).locks = s.locks := (rfl)
@[simp] theorem State.modSec_lockPtr (s : State) (f : SecSt → SecSt) : (s.modSec f).lockPtr = s.lockPtr := (rfl)
@[simp] theorem State.modSec_lps (s : State) (f : SecSt → SecSt) : (s.modSec f).lps = s.lps := (rfl)
@[simp] theorem State.modSec_nw (s : State) (f : SecSt → SecSt) : (s.modSec f).nw = s.nw := (rfl)
@[simp] theorem State.modSec_safe (s : State) (f : SecSt → SecSt) : (s.modSec f).safe = s.safe := (rfl)
@[simp] theorem State.modSec_rm (s : State) (f : SecSt → SecSt) : (s.modSec f).rm = s.rm := (rfl)
@[simp] theorem State.modSec_tw (s : State) (f : SecSt → SecSt) : (s.modSec f).tw = s.tw := (rfl)
@[simp] theorem State.modSec_sec (s : State) (f : SecSt → SecSt) : (s.modSec f).sec = f s.sec := (rfl)
@[simp] theorem State.modSec_io (s : State) (f : SecSt → SecSt) : (s.modSec f).io = s.io := (rfl)
@[simp] theorem State.modSec_cans (s : State) (f : SecSt → SecSt) : (s.modSec f).cans = s.cans := (rfl)
@[simp] theorem State.modSec_acq (s : State) (f : SecSt → SecSt) : (s.modSec f).acq = s.acq := (rfl)
@[simp] theorem State.modSec_log (s : State) (f : SecSt → SecSt) : (s.modSec f).log = s.log := (rfl)
@[simp] theorem State.modSec_host (s : State) (f : SecSt → SecSt) : (s.modSec f).host = s.host := (rfl)
@[simp] theorem State.modSec_pw (s : State) (f : SecSt → SecSt) : (s.modSec f).pw = s.pw := (rfl)
@[simp] theorem State.modSec_rd (s : State) (f : SecSt → SecSt) (j : Nat) : (s.modSec f).rd j = s.rd j := (rfl)
@[simp] theorem State.modSec_canonical (s : State) (f : SecSt → SecSt) : (s.modSec f).canonical = s.canonical := (rfl)
@[simp] theorem State.modSec_ard (s : State) (f : SecSt → SecSt) (j : Nat) : (s.modSec f).ard j = s.ard j := (rfl)
/-! `State.modPw` -/
@[simp] theorem State.modPw_pending (s : State) (f : PowerSt → PowerSt) : (s.modPw f).pending = s.pending := (rfl)
@[simp] theorem State.modPw_regs (s : State) (f : PowerSt → PowerSt) : (s.modPw f).regs = s.regs := (rfl)
@[simp] theorem State.modPw_act (s : State) (f : PowerSt → PowerSt) : (s.modPw f).act = s.act := (rfl)
@[simp] theorem State.modPw_mem (s : State) (f : PowerSt → PowerSt) : (s.modPw f).mem = s.mem := (rfl)
@[simp] theorem State.modPw_variantF (s : State) (f : PowerSt → PowerSt) : (s.modPw f).variantF = s.variantF := (rfl)
@[simp] theorem State.modPw_events (s : State) (f : PowerSt → PowerSt) : (s.modPw f).events = s.events := (rfl)
@[simp] theorem State.modPw_vectors (s : State) (f : PowerSt → PowerSt) : (s.modPw f).vectors = s.vectors := (rfl)
@[simp] theorem State.modPw_freeCount (s : State) (f : PowerSt → PowerSt) : (s.modPw f).freeCount = s.freeCount := (rfl)
@[simp] theorem State.modPw_time (s : State) (f : PowerSt → PowerSt) : (s.modPw f).time = s.time := (rfl)
@[simp] theorem State.modPw_grids (s : State) (f : PowerSt → PowerSt) : (s.modPw f).grids = s.grids := (rfl)
@[simp] theorem State.modPw_reqs (s : State) (f : PowerSt → PowerSt) : (s.modPw f).reqs = s.reqs := (rfl)
@[simp] theorem State.modPw_ports (s : State) (f : PowerSt → PowerSt) : (s.modPw f).ports = s.ports := (rfl)
@[simp] theorem State.modPw_latches (s : State) (f : PowerSt → PowerSt) : (s.modPw f).latches = s.latches := (rfl)
@[simp] theorem State.modPw_compares (s : State) (f : PowerSt → PowerSt) : (s.modPw f).compares = s.compares := (rfl)
@[simp] theorem State.modPw_rcs (s : State) (f : PowerSt → PowerSt) : (s.modPw f).rcs = s.rcs := (rfl)
@[simp] theorem State.modPw_motion (s : State) (f : PowerSt → PowerSt) : (s.modPw f).motion = s.motion := (rfl)
@[simp] theorem State.modPw_plans (s : State) (f : PowerSt → PowerSt) : (s.modPw f).plans = s.plans := (rfl)
@[simp] theorem State.modPw_stops (s : State) (f : PowerSt → PowerSt) : (s.modPw f).stops = s.stops := (rfl)
@[simp] theorem State.modPw_shafts (s : State) (f : PowerSt → PowerSt) : (s.modPw f).shafts = s.shafts := (rfl)
@[simp] theorem State.modPw_cams (s : State) (f : PowerSt → PowerSt) : (s.modPw f).cams = s.cams := (rfl)
@[simp] theorem State.modPw_inflight (s : State) (f : PowerSt → PowerSt) : (s.modPw f).inflight = s.inflight := (rfl)
@[simp] theorem State.modPw_waits (s : State) (f : PowerSt → PowerSt) : (s.modPw f).waits = s.waits := (rfl)
@[simp] theorem State.modPw_completions (s : State) (f : PowerSt → PowerSt) : (s.modPw f).completions = s.completions := (rfl)
@[simp] theorem State.modPw_netAxes (s : State) (f : PowerSt → PowerSt) : (s.modPw f).netAxes = s.netAxes := (rfl)
@[simp] theorem State.modPw_loops (s : State) (f : PowerSt → PowerSt) : (s.modPw f).loops = s.loops := (rfl)
@[simp] theorem State.modPw_injs (s : State) (f : PowerSt → PowerSt) : (s.modPw f).injs = s.injs := (rfl)
@[simp] theorem State.modPw_assign (s : State) (f : PowerSt → PowerSt) : (s.modPw f).assign = s.assign := (rfl)
@[simp] theorem State.modPw_runQ (s : State) (f : PowerSt → PowerSt) : (s.modPw f).runQ = s.runQ := (rfl)
@[simp] theorem State.modPw_pwms (s : State) (f : PowerSt → PowerSt) : (s.modPw f).pwms = s.pwms := (rfl)
@[simp] theorem State.modPw_trips (s : State) (f : PowerSt → PowerSt) : (s.modPw f).trips = s.trips := (rfl)
@[simp] theorem State.modPw_atcs (s : State) (f : PowerSt → PowerSt) : (s.modPw f).atcs = s.atcs := (rfl)
@[simp] theorem State.modPw_sds (s : State) (f : PowerSt → PowerSt) : (s.modPw f).sds = s.sds := (rfl)
@[simp] theorem State.modPw_cles (s : State) (f : PowerSt → PowerSt) : (s.modPw f).cles = s.cles := (rfl)
@[simp] theorem State.modPw_rdata (s : State) (f : PowerSt → PowerSt) : (s.modPw f).rdata = s.rdata := (rfl)
@[simp] theorem State.modPw_groom (s : State) (f : PowerSt → PowerSt) : (s.modPw f).groom = s.groom := (rfl)
@[simp] theorem State.modPw_stalls (s : State) (f : PowerSt → PowerSt) : (s.modPw f).stalls = s.stalls := (rfl)
@[simp] theorem State.modPw_agents (s : State) (f : PowerSt → PowerSt) : (s.modPw f).agents = s.agents := (rfl)
@[simp] theorem State.modPw_xtime (s : State) (f : PowerSt → PowerSt) : (s.modPw f).xtime = s.xtime := (rfl)
@[simp] theorem State.modPw_locks (s : State) (f : PowerSt → PowerSt) : (s.modPw f).locks = s.locks := (rfl)
@[simp] theorem State.modPw_lockPtr (s : State) (f : PowerSt → PowerSt) : (s.modPw f).lockPtr = s.lockPtr := (rfl)
@[simp] theorem State.modPw_lps (s : State) (f : PowerSt → PowerSt) : (s.modPw f).lps = s.lps := (rfl)
@[simp] theorem State.modPw_nw (s : State) (f : PowerSt → PowerSt) : (s.modPw f).nw = s.nw := (rfl)
@[simp] theorem State.modPw_safe (s : State) (f : PowerSt → PowerSt) : (s.modPw f).safe = s.safe := (rfl)
@[simp] theorem State.modPw_rm (s : State) (f : PowerSt → PowerSt) : (s.modPw f).rm = s.rm := (rfl)
@[simp] theorem State.modPw_tw (s : State) (f : PowerSt → PowerSt) : (s.modPw f).tw = s.tw := (rfl)
@[simp] theorem State.modPw_sec (s : State) (f : PowerSt → PowerSt) : (s.modPw f).sec = s.sec := (rfl)
@[simp] theorem State.modPw_io (s : State) (f : PowerSt → PowerSt) : (s.modPw f).io = s.io := (rfl)
@[simp] theorem State.modPw_cans (s : State) (f : PowerSt → PowerSt) : (s.modPw f).cans = s.cans := (rfl)
@[simp] theorem State.modPw_acq (s : State) (f : PowerSt → PowerSt) : (s.modPw f).acq = s.acq := (rfl)
@[simp] theorem State.modPw_log (s : State) (f : PowerSt → PowerSt) : (s.modPw f).log = s.log := (rfl)
@[simp] theorem State.modPw_host (s : State) (f : PowerSt → PowerSt) : (s.modPw f).host = s.host := (rfl)
@[simp] theorem State.modPw_pw (s : State) (f : PowerSt → PowerSt) : (s.modPw f).pw = f s.pw := (rfl)
@[simp] theorem State.modPw_rd (s : State) (f : PowerSt → PowerSt) (j : Nat) : (s.modPw f).rd j = s.rd j := (rfl)
@[simp] theorem State.modPw_canonical (s : State) (f : PowerSt → PowerSt) : (s.modPw f).canonical = s.canonical := (rfl)
@[simp] theorem State.modPw_ard (s : State) (f : PowerSt → PowerSt) (j : Nat) : (s.modPw f).ard j = s.ard j := (rfl)
/-! `State.modTw` -/
@[simp] theorem State.modTw_pending (s : State) (f : TwinSt → TwinSt) : (s.modTw f).pending = s.pending := (rfl)
@[simp] theorem State.modTw_regs (s : State) (f : TwinSt → TwinSt) : (s.modTw f).regs = s.regs := (rfl)
@[simp] theorem State.modTw_act (s : State) (f : TwinSt → TwinSt) : (s.modTw f).act = s.act := (rfl)
@[simp] theorem State.modTw_mem (s : State) (f : TwinSt → TwinSt) : (s.modTw f).mem = s.mem := (rfl)
@[simp] theorem State.modTw_variantF (s : State) (f : TwinSt → TwinSt) : (s.modTw f).variantF = s.variantF := (rfl)
@[simp] theorem State.modTw_events (s : State) (f : TwinSt → TwinSt) : (s.modTw f).events = s.events := (rfl)
@[simp] theorem State.modTw_vectors (s : State) (f : TwinSt → TwinSt) : (s.modTw f).vectors = s.vectors := (rfl)
@[simp] theorem State.modTw_freeCount (s : State) (f : TwinSt → TwinSt) : (s.modTw f).freeCount = s.freeCount := (rfl)
@[simp] theorem State.modTw_time (s : State) (f : TwinSt → TwinSt) : (s.modTw f).time = s.time := (rfl)
@[simp] theorem State.modTw_grids (s : State) (f : TwinSt → TwinSt) : (s.modTw f).grids = s.grids := (rfl)
@[simp] theorem State.modTw_reqs (s : State) (f : TwinSt → TwinSt) : (s.modTw f).reqs = s.reqs := (rfl)
@[simp] theorem State.modTw_ports (s : State) (f : TwinSt → TwinSt) : (s.modTw f).ports = s.ports := (rfl)
@[simp] theorem State.modTw_latches (s : State) (f : TwinSt → TwinSt) : (s.modTw f).latches = s.latches := (rfl)
@[simp] theorem State.modTw_compares (s : State) (f : TwinSt → TwinSt) : (s.modTw f).compares = s.compares := (rfl)
@[simp] theorem State.modTw_rcs (s : State) (f : TwinSt → TwinSt) : (s.modTw f).rcs = s.rcs := (rfl)
@[simp] theorem State.modTw_motion (s : State) (f : TwinSt → TwinSt) : (s.modTw f).motion = s.motion := (rfl)
@[simp] theorem State.modTw_plans (s : State) (f : TwinSt → TwinSt) : (s.modTw f).plans = s.plans := (rfl)
@[simp] theorem State.modTw_stops (s : State) (f : TwinSt → TwinSt) : (s.modTw f).stops = s.stops := (rfl)
@[simp] theorem State.modTw_shafts (s : State) (f : TwinSt → TwinSt) : (s.modTw f).shafts = s.shafts := (rfl)
@[simp] theorem State.modTw_cams (s : State) (f : TwinSt → TwinSt) : (s.modTw f).cams = s.cams := (rfl)
@[simp] theorem State.modTw_inflight (s : State) (f : TwinSt → TwinSt) : (s.modTw f).inflight = s.inflight := (rfl)
@[simp] theorem State.modTw_waits (s : State) (f : TwinSt → TwinSt) : (s.modTw f).waits = s.waits := (rfl)
@[simp] theorem State.modTw_completions (s : State) (f : TwinSt → TwinSt) : (s.modTw f).completions = s.completions := (rfl)
@[simp] theorem State.modTw_netAxes (s : State) (f : TwinSt → TwinSt) : (s.modTw f).netAxes = s.netAxes := (rfl)
@[simp] theorem State.modTw_loops (s : State) (f : TwinSt → TwinSt) : (s.modTw f).loops = s.loops := (rfl)
@[simp] theorem State.modTw_injs (s : State) (f : TwinSt → TwinSt) : (s.modTw f).injs = s.injs := (rfl)
@[simp] theorem State.modTw_assign (s : State) (f : TwinSt → TwinSt) : (s.modTw f).assign = s.assign := (rfl)
@[simp] theorem State.modTw_runQ (s : State) (f : TwinSt → TwinSt) : (s.modTw f).runQ = s.runQ := (rfl)
@[simp] theorem State.modTw_pwms (s : State) (f : TwinSt → TwinSt) : (s.modTw f).pwms = s.pwms := (rfl)
@[simp] theorem State.modTw_trips (s : State) (f : TwinSt → TwinSt) : (s.modTw f).trips = s.trips := (rfl)
@[simp] theorem State.modTw_atcs (s : State) (f : TwinSt → TwinSt) : (s.modTw f).atcs = s.atcs := (rfl)
@[simp] theorem State.modTw_sds (s : State) (f : TwinSt → TwinSt) : (s.modTw f).sds = s.sds := (rfl)
@[simp] theorem State.modTw_cles (s : State) (f : TwinSt → TwinSt) : (s.modTw f).cles = s.cles := (rfl)
@[simp] theorem State.modTw_rdata (s : State) (f : TwinSt → TwinSt) : (s.modTw f).rdata = s.rdata := (rfl)
@[simp] theorem State.modTw_groom (s : State) (f : TwinSt → TwinSt) : (s.modTw f).groom = s.groom := (rfl)
@[simp] theorem State.modTw_stalls (s : State) (f : TwinSt → TwinSt) : (s.modTw f).stalls = s.stalls := (rfl)
@[simp] theorem State.modTw_agents (s : State) (f : TwinSt → TwinSt) : (s.modTw f).agents = s.agents := (rfl)
@[simp] theorem State.modTw_xtime (s : State) (f : TwinSt → TwinSt) : (s.modTw f).xtime = s.xtime := (rfl)
@[simp] theorem State.modTw_locks (s : State) (f : TwinSt → TwinSt) : (s.modTw f).locks = s.locks := (rfl)
@[simp] theorem State.modTw_lockPtr (s : State) (f : TwinSt → TwinSt) : (s.modTw f).lockPtr = s.lockPtr := (rfl)
@[simp] theorem State.modTw_lps (s : State) (f : TwinSt → TwinSt) : (s.modTw f).lps = s.lps := (rfl)
@[simp] theorem State.modTw_nw (s : State) (f : TwinSt → TwinSt) : (s.modTw f).nw = s.nw := (rfl)
@[simp] theorem State.modTw_safe (s : State) (f : TwinSt → TwinSt) : (s.modTw f).safe = s.safe := (rfl)
@[simp] theorem State.modTw_rm (s : State) (f : TwinSt → TwinSt) : (s.modTw f).rm = s.rm := (rfl)
@[simp] theorem State.modTw_tw (s : State) (f : TwinSt → TwinSt) : (s.modTw f).tw = f s.tw := (rfl)
@[simp] theorem State.modTw_sec (s : State) (f : TwinSt → TwinSt) : (s.modTw f).sec = s.sec := (rfl)
@[simp] theorem State.modTw_io (s : State) (f : TwinSt → TwinSt) : (s.modTw f).io = s.io := (rfl)
@[simp] theorem State.modTw_cans (s : State) (f : TwinSt → TwinSt) : (s.modTw f).cans = s.cans := (rfl)
@[simp] theorem State.modTw_acq (s : State) (f : TwinSt → TwinSt) : (s.modTw f).acq = s.acq := (rfl)
@[simp] theorem State.modTw_log (s : State) (f : TwinSt → TwinSt) : (s.modTw f).log = s.log := (rfl)
@[simp] theorem State.modTw_host (s : State) (f : TwinSt → TwinSt) : (s.modTw f).host = s.host := (rfl)
@[simp] theorem State.modTw_pw (s : State) (f : TwinSt → TwinSt) : (s.modTw f).pw = s.pw := (rfl)
@[simp] theorem State.modTw_rd (s : State) (f : TwinSt → TwinSt) (j : Nat) : (s.modTw f).rd j = s.rd j := (rfl)
@[simp] theorem State.modTw_canonical (s : State) (f : TwinSt → TwinSt) : (s.modTw f).canonical = s.canonical := (rfl)
@[simp] theorem State.modTw_ard (s : State) (f : TwinSt → TwinSt) (j : Nat) : (s.modTw f).ard j = s.ard j := (rfl)
/-! `State.advanceTo` -/
@[simp] theorem State.advanceTo_pending (s : State) (t : Nat) : (s.advanceTo t).pending = s.pending := by unfold State.advanceTo; split <;> rfl
@[simp] theorem State.advanceTo_regs (s : State) (t : Nat) : (s.advanceTo t).regs = s.regs := by unfold State.advanceTo; split <;> rfl
@[simp] theorem State.advanceTo_act (s : State) (t : Nat) : (s.advanceTo t).act = s.act := by unfold State.advanceTo; split <;> rfl
@[simp] theorem State.advanceTo_mem (s : State) (t : Nat) : (s.advanceTo t).mem = s.mem := by unfold State.advanceTo; split <;> rfl
@[simp] theorem State.advanceTo_variantF (s : State) (t : Nat) : (s.advanceTo t).variantF = s.variantF := by unfold State.advanceTo; split <;> rfl
@[simp] theorem State.advanceTo_events (s : State) (t : Nat) : (s.advanceTo t).events = s.events := by unfold State.advanceTo; split <;> rfl
@[simp] theorem State.advanceTo_vectors (s : State) (t : Nat) : (s.advanceTo t).vectors = s.vectors := by unfold State.advanceTo; split <;> rfl
@[simp] theorem State.advanceTo_freeCount (s : State) (t : Nat) : (s.advanceTo t).freeCount = s.freeCount := by unfold State.advanceTo; split <;> rfl
@[simp] theorem State.advanceTo_grids (s : State) (t : Nat) : (s.advanceTo t).grids = s.grids := by unfold State.advanceTo; split <;> rfl
@[simp] theorem State.advanceTo_reqs (s : State) (t : Nat) : (s.advanceTo t).reqs = s.reqs := by unfold State.advanceTo; split <;> rfl
@[simp] theorem State.advanceTo_ports (s : State) (t : Nat) : (s.advanceTo t).ports = s.ports := by unfold State.advanceTo; split <;> rfl
@[simp] theorem State.advanceTo_latches (s : State) (t : Nat) : (s.advanceTo t).latches = s.latches := by unfold State.advanceTo; split <;> rfl
@[simp] theorem State.advanceTo_compares (s : State) (t : Nat) : (s.advanceTo t).compares = s.compares := by unfold State.advanceTo; split <;> rfl
@[simp] theorem State.advanceTo_rcs (s : State) (t : Nat) : (s.advanceTo t).rcs = s.rcs := by unfold State.advanceTo; split <;> rfl
@[simp] theorem State.advanceTo_motion (s : State) (t : Nat) : (s.advanceTo t).motion = s.motion := by unfold State.advanceTo; split <;> rfl
@[simp] theorem State.advanceTo_plans (s : State) (t : Nat) : (s.advanceTo t).plans = s.plans := by unfold State.advanceTo; split <;> rfl
@[simp] theorem State.advanceTo_stops (s : State) (t : Nat) : (s.advanceTo t).stops = s.stops := by unfold State.advanceTo; split <;> rfl
@[simp] theorem State.advanceTo_shafts (s : State) (t : Nat) : (s.advanceTo t).shafts = s.shafts := by unfold State.advanceTo; split <;> rfl
@[simp] theorem State.advanceTo_cams (s : State) (t : Nat) : (s.advanceTo t).cams = s.cams := by unfold State.advanceTo; split <;> rfl
@[simp] theorem State.advanceTo_inflight (s : State) (t : Nat) : (s.advanceTo t).inflight = s.inflight := by unfold State.advanceTo; split <;> rfl
@[simp] theorem State.advanceTo_waits (s : State) (t : Nat) : (s.advanceTo t).waits = s.waits := by unfold State.advanceTo; split <;> rfl
@[simp] theorem State.advanceTo_completions (s : State) (t : Nat) : (s.advanceTo t).completions = s.completions := by unfold State.advanceTo; split <;> rfl
@[simp] theorem State.advanceTo_netAxes (s : State) (t : Nat) : (s.advanceTo t).netAxes = s.netAxes := by unfold State.advanceTo; split <;> rfl
@[simp] theorem State.advanceTo_loops (s : State) (t : Nat) : (s.advanceTo t).loops = s.loops := by unfold State.advanceTo; split <;> rfl
@[simp] theorem State.advanceTo_injs (s : State) (t : Nat) : (s.advanceTo t).injs = s.injs := by unfold State.advanceTo; split <;> rfl
@[simp] theorem State.advanceTo_assign (s : State) (t : Nat) : (s.advanceTo t).assign = s.assign := by unfold State.advanceTo; split <;> rfl
@[simp] theorem State.advanceTo_runQ (s : State) (t : Nat) : (s.advanceTo t).runQ = s.runQ := by unfold State.advanceTo; split <;> rfl
@[simp] theorem State.advanceTo_pwms (s : State) (t : Nat) : (s.advanceTo t).pwms = s.pwms := by unfold State.advanceTo; split <;> rfl
@[simp] theorem State.advanceTo_trips (s : State) (t : Nat) : (s.advanceTo t).trips = s.trips := by unfold State.advanceTo; split <;> rfl
@[simp] theorem State.advanceTo_atcs (s : State) (t : Nat) : (s.advanceTo t).atcs = s.atcs := by unfold State.advanceTo; split <;> rfl
@[simp] theorem State.advanceTo_sds (s : State) (t : Nat) : (s.advanceTo t).sds = s.sds := by unfold State.advanceTo; split <;> rfl
@[simp] theorem State.advanceTo_cles (s : State) (t : Nat) : (s.advanceTo t).cles = s.cles := by unfold State.advanceTo; split <;> rfl
@[simp] theorem State.advanceTo_rdata (s : State) (t : Nat) : (s.advanceTo t).rdata = s.rdata := by unfold State.advanceTo; split <;> rfl
@[simp] theorem State.advanceTo_groom (s : State) (t : Nat) : (s.advanceTo t).groom = s.groom := by unfold State.advanceTo; split <;> rfl
@[simp] theorem State.advanceTo_stalls (s : State) (t : Nat) : (s.advanceTo t).stalls = s.stalls := by unfold State.advanceTo; split <;> rfl
@[simp] theorem State.advanceTo_agents (s : State) (t : Nat) : (s.advanceTo t).agents = s.agents := by unfold State.advanceTo; split <;> rfl
@[simp] theorem State.advanceTo_xtime (s : State) (t : Nat) : (s.advanceTo t).xtime = s.xtime := by unfold State.advanceTo; split <;> rfl
@[simp] theorem State.advanceTo_locks (s : State) (t : Nat) : (s.advanceTo t).locks = s.locks := by unfold State.advanceTo; split <;> rfl
@[simp] theorem State.advanceTo_lockPtr (s : State) (t : Nat) : (s.advanceTo t).lockPtr = s.lockPtr := by unfold State.advanceTo; split <;> rfl
@[simp] theorem State.advanceTo_lps (s : State) (t : Nat) : (s.advanceTo t).lps = s.lps := by unfold State.advanceTo; split <;> rfl
@[simp] theorem State.advanceTo_nw (s : State) (t : Nat) : (s.advanceTo t).nw = s.nw := by unfold State.advanceTo; split <;> rfl
@[simp] theorem State.advanceTo_safe (s : State) (t : Nat) : (s.advanceTo t).safe = s.safe := by unfold State.advanceTo; split <;> rfl
@[simp] theorem State.advanceTo_rm (s : State) (t : Nat) : (s.advanceTo t).rm = s.rm := by unfold State.advanceTo; split <;> rfl
@[simp] theorem State.advanceTo_tw (s : State) (t : Nat) : (s.advanceTo t).tw = s.tw := by unfold State.advanceTo; split <;> rfl
@[simp] theorem State.advanceTo_sec (s : State) (t : Nat) : (s.advanceTo t).sec = s.sec := by unfold State.advanceTo; split <;> rfl
@[simp] theorem State.advanceTo_io (s : State) (t : Nat) : (s.advanceTo t).io = s.io := by unfold State.advanceTo; split <;> rfl
@[simp] theorem State.advanceTo_cans (s : State) (t : Nat) : (s.advanceTo t).cans = s.cans := by unfold State.advanceTo; split <;> rfl
@[simp] theorem State.advanceTo_acq (s : State) (t : Nat) : (s.advanceTo t).acq = s.acq := by unfold State.advanceTo; split <;> rfl
@[simp] theorem State.advanceTo_log (s : State) (t : Nat) : (s.advanceTo t).log = s.log := by unfold State.advanceTo; split <;> rfl
@[simp] theorem State.advanceTo_host (s : State) (t : Nat) : (s.advanceTo t).host = s.host := by unfold State.advanceTo; split <;> rfl
@[simp] theorem State.advanceTo_pw (s : State) (t : Nat) : (s.advanceTo t).pw = s.pw := by unfold State.advanceTo; split <;> rfl
@[simp] theorem State.advanceTo_rd (s : State) (t j : Nat) : (s.advanceTo t).rd j = s.rd j := by unfold State.rd; rw [State.advanceTo_regs]
@[simp] theorem State.advanceTo_ard (s : State) (t j : Nat) : (s.advanceTo t).ard j = s.ard j := by unfold State.ard; rw [State.advanceTo_act]
/-! `State.raiseVector`, `State.group`, `State.finish` -/
@[simp] theorem State.raiseVector_pending (s : State) (n : Nat) : (s.raiseVector n).pending = s.pending := by unfold State.raiseVector; split <;> rfl
@[simp] theorem State.group_pending (s : State) (n : Nat) : (s.group n).pending = s.pending := by unfold State.group; simp only []; split <;> simp
@[simp] theorem State.finish_pending (s : State) (t : Nat) (st : Status) (a b c : Nat) (d : List Byte) : (s.finish t st a b c d).pending = s.pending := by unfold State.finish; split <;> rfl
@[simp] theorem State.finish_regs (s : State) (t : Nat) (st : Status) (a b c : Nat) (d : List Byte) : (s.finish t st a b c d).regs = s.regs := by unfold State.finish; split <;> rfl
@[simp] theorem State.raiseVector_act (s : State) (n : Nat) : (s.raiseVector n).act = s.act := by unfold State.raiseVector; split <;> rfl
@[simp] theorem State.group_act (s : State) (n : Nat) : (s.group n).act = s.act := by unfold State.group; simp only []; split <;> simp
@[simp] theorem State.finish_act (s : State) (t : Nat) (st : Status) (a b c : Nat) (d : List Byte) : (s.finish t st a b c d).act = s.act := by unfold State.finish; split <;> rfl
@[simp] theorem State.raiseVector_mem (s : State) (n : Nat) : (s.raiseVector n).mem = s.mem := by unfold State.raiseVector; split <;> rfl
@[simp] theorem State.group_mem (s : State) (n : Nat) : (s.group n).mem = s.mem := by unfold State.group; simp only []; split <;> simp
@[simp] theorem State.finish_mem (s : State) (t : Nat) (st : Status) (a b c : Nat) (d : List Byte) : (s.finish t st a b c d).mem = s.mem := by unfold State.finish; split <;> rfl
@[simp] theorem State.raiseVector_variantF (s : State) (n : Nat) : (s.raiseVector n).variantF = s.variantF := by unfold State.raiseVector; split <;> rfl
@[simp] theorem State.group_variantF (s : State) (n : Nat) : (s.group n).variantF = s.variantF := by unfold State.group; simp only []; split <;> simp
@[simp] theorem State.finish_variantF (s : State) (t : Nat) (st : Status) (a b c : Nat) (d : List Byte) : (s.finish t st a b c d).variantF = s.variantF := by unfold State.finish; split <;> rfl
@[simp] theorem State.raiseVector_events (s : State) (n : Nat) : (s.raiseVector n).events = s.events := by unfold State.raiseVector; split <;> rfl
@[simp] theorem State.group_events (s : State) (n : Nat) : (s.group n).events = s.events := by unfold State.group; simp only []; split <;> simp
@[simp] theorem State.finish_events (s : State) (t : Nat) (st : Status) (a b c : Nat) (d : List Byte) : (s.finish t st a b c d).events = s.events := by unfold State.finish; split <;> rfl
@[simp] theorem State.finish_vectors (s : State) (t : Nat) (st : Status) (a b c : Nat) (d : List Byte) : (s.finish t st a b c d).vectors = s.vectors := by unfold State.finish; split <;> rfl
@[simp] theorem State.raiseVector_freeCount (s : State) (n : Nat) : (s.raiseVector n).freeCount = s.freeCount := by unfold State.raiseVector; split <;> rfl
@[simp] theorem State.group_freeCount (s : State) (n : Nat) : (s.group n).freeCount = s.freeCount := by unfold State.group; simp only []; split <;> simp
@[simp] theorem State.finish_freeCount (s : State) (t : Nat) (st : Status) (a b c : Nat) (d : List Byte) : (s.finish t st a b c d).freeCount = s.freeCount := by unfold State.finish; split <;> rfl
@[simp] theorem State.raiseVector_time (s : State) (n : Nat) : (s.raiseVector n).time = s.time := by unfold State.raiseVector; split <;> rfl
@[simp] theorem State.group_time (s : State) (n : Nat) : (s.group n).time = s.time := by unfold State.group; simp only []; split <;> simp
@[simp] theorem State.finish_time (s : State) (t : Nat) (st : Status) (a b c : Nat) (d : List Byte) : (s.finish t st a b c d).time = s.time := by unfold State.finish; split <;> rfl
@[simp] theorem State.raiseVector_grids (s : State) (n : Nat) : (s.raiseVector n).grids = s.grids := by unfold State.raiseVector; split <;> rfl
@[simp] theorem State.group_grids (s : State) (n : Nat) : (s.group n).grids = s.grids := by unfold State.group; simp only []; split <;> simp
@[simp] theorem State.finish_grids (s : State) (t : Nat) (st : Status) (a b c : Nat) (d : List Byte) : (s.finish t st a b c d).grids = s.grids := by unfold State.finish; split <;> rfl
@[simp] theorem State.raiseVector_reqs (s : State) (n : Nat) : (s.raiseVector n).reqs = s.reqs := by unfold State.raiseVector; split <;> rfl
@[simp] theorem State.group_reqs (s : State) (n : Nat) : (s.group n).reqs = s.reqs := by unfold State.group; simp only []; split <;> simp
@[simp] theorem State.finish_reqs (s : State) (t : Nat) (st : Status) (a b c : Nat) (d : List Byte) : (s.finish t st a b c d).reqs = s.reqs := by unfold State.finish; split <;> rfl
@[simp] theorem State.raiseVector_ports (s : State) (n : Nat) : (s.raiseVector n).ports = s.ports := by unfold State.raiseVector; split <;> rfl
@[simp] theorem State.group_ports (s : State) (n : Nat) : (s.group n).ports = s.ports := by unfold State.group; simp only []; split <;> simp
@[simp] theorem State.finish_ports (s : State) (t : Nat) (st : Status) (a b c : Nat) (d : List Byte) : (s.finish t st a b c d).ports = s.ports := by unfold State.finish; split <;> rfl
@[simp] theorem State.raiseVector_latches (s : State) (n : Nat) : (s.raiseVector n).latches = s.latches := by unfold State.raiseVector; split <;> rfl
@[simp] theorem State.group_latches (s : State) (n : Nat) : (s.group n).latches = s.latches := by unfold State.group; simp only []; split <;> simp
@[simp] theorem State.finish_latches (s : State) (t : Nat) (st : Status) (a b c : Nat) (d : List Byte) : (s.finish t st a b c d).latches = s.latches := by unfold State.finish; split <;> rfl
@[simp] theorem State.raiseVector_compares (s : State) (n : Nat) : (s.raiseVector n).compares = s.compares := by unfold State.raiseVector; split <;> rfl
@[simp] theorem State.group_compares (s : State) (n : Nat) : (s.group n).compares = s.compares := by unfold State.group; simp only []; split <;> simp
@[simp] theorem State.finish_compares (s : State) (t : Nat) (st : Status) (a b c : Nat) (d : List Byte) : (s.finish t st a b c d).compares = s.compares := by unfold State.finish; split <;> rfl
@[simp] theorem State.raiseVector_rcs (s : State) (n : Nat) : (s.raiseVector n).rcs = s.rcs := by unfold State.raiseVector; split <;> rfl
@[simp] theorem State.group_rcs (s : State) (n : Nat) : (s.group n).rcs = s.rcs := by unfold State.group; simp only []; split <;> simp
@[simp] theorem State.finish_rcs (s : State) (t : Nat) (st : Status) (a b c : Nat) (d : List Byte) : (s.finish t st a b c d).rcs = s.rcs := by unfold State.finish; split <;> rfl
@[simp] theorem State.raiseVector_motion (s : State) (n : Nat) : (s.raiseVector n).motion = s.motion := by unfold State.raiseVector; split <;> rfl
@[simp] theorem State.group_motion (s : State) (n : Nat) : (s.group n).motion = s.motion := by unfold State.group; simp only []; split <;> simp
@[simp] theorem State.finish_motion (s : State) (t : Nat) (st : Status) (a b c : Nat) (d : List Byte) : (s.finish t st a b c d).motion = s.motion := by unfold State.finish; split <;> rfl
@[simp] theorem State.raiseVector_plans (s : State) (n : Nat) : (s.raiseVector n).plans = s.plans := by unfold State.raiseVector; split <;> rfl
@[simp] theorem State.group_plans (s : State) (n : Nat) : (s.group n).plans = s.plans := by unfold State.group; simp only []; split <;> simp
@[simp] theorem State.finish_plans (s : State) (t : Nat) (st : Status) (a b c : Nat) (d : List Byte) : (s.finish t st a b c d).plans = s.plans := by unfold State.finish; split <;> rfl
@[simp] theorem State.raiseVector_stops (s : State) (n : Nat) : (s.raiseVector n).stops = s.stops := by unfold State.raiseVector; split <;> rfl
@[simp] theorem State.group_stops (s : State) (n : Nat) : (s.group n).stops = s.stops := by unfold State.group; simp only []; split <;> simp
@[simp] theorem State.finish_stops (s : State) (t : Nat) (st : Status) (a b c : Nat) (d : List Byte) : (s.finish t st a b c d).stops = s.stops := by unfold State.finish; split <;> rfl
@[simp] theorem State.raiseVector_shafts (s : State) (n : Nat) : (s.raiseVector n).shafts = s.shafts := by unfold State.raiseVector; split <;> rfl
@[simp] theorem State.group_shafts (s : State) (n : Nat) : (s.group n).shafts = s.shafts := by unfold State.group; simp only []; split <;> simp
@[simp] theorem State.finish_shafts (s : State) (t : Nat) (st : Status) (a b c : Nat) (d : List Byte) : (s.finish t st a b c d).shafts = s.shafts := by unfold State.finish; split <;> rfl
@[simp] theorem State.raiseVector_cams (s : State) (n : Nat) : (s.raiseVector n).cams = s.cams := by unfold State.raiseVector; split <;> rfl
@[simp] theorem State.group_cams (s : State) (n : Nat) : (s.group n).cams = s.cams := by unfold State.group; simp only []; split <;> simp
@[simp] theorem State.finish_cams (s : State) (t : Nat) (st : Status) (a b c : Nat) (d : List Byte) : (s.finish t st a b c d).cams = s.cams := by unfold State.finish; split <;> rfl
@[simp] theorem State.raiseVector_inflight (s : State) (n : Nat) : (s.raiseVector n).inflight = s.inflight := by unfold State.raiseVector; split <;> rfl
@[simp] theorem State.group_inflight (s : State) (n : Nat) : (s.group n).inflight = s.inflight := by unfold State.group; simp only []; split <;> simp
@[simp] theorem State.raiseVector_waits (s : State) (n : Nat) : (s.raiseVector n).waits = s.waits := by unfold State.raiseVector; split <;> rfl
@[simp] theorem State.group_waits (s : State) (n : Nat) : (s.group n).waits = s.waits := by unfold State.group; simp only []; split <;> simp
@[simp] theorem State.raiseVector_completions (s : State) (n : Nat) : (s.raiseVector n).completions = s.completions := by unfold State.raiseVector; split <;> rfl
@[simp] theorem State.group_completions (s : State) (n : Nat) : (s.group n).completions = s.completions := by unfold State.group; simp only []; split <;> simp
@[simp] theorem State.raiseVector_netAxes (s : State) (n : Nat) : (s.raiseVector n).netAxes = s.netAxes := by unfold State.raiseVector; split <;> rfl
@[simp] theorem State.group_netAxes (s : State) (n : Nat) : (s.group n).netAxes = s.netAxes := by unfold State.group; simp only []; split <;> simp
@[simp] theorem State.finish_netAxes (s : State) (t : Nat) (st : Status) (a b c : Nat) (d : List Byte) : (s.finish t st a b c d).netAxes = s.netAxes := by unfold State.finish; split <;> rfl
@[simp] theorem State.raiseVector_loops (s : State) (n : Nat) : (s.raiseVector n).loops = s.loops := by unfold State.raiseVector; split <;> rfl
@[simp] theorem State.group_loops (s : State) (n : Nat) : (s.group n).loops = s.loops := by unfold State.group; simp only []; split <;> simp
@[simp] theorem State.finish_loops (s : State) (t : Nat) (st : Status) (a b c : Nat) (d : List Byte) : (s.finish t st a b c d).loops = s.loops := by unfold State.finish; split <;> rfl
@[simp] theorem State.raiseVector_injs (s : State) (n : Nat) : (s.raiseVector n).injs = s.injs := by unfold State.raiseVector; split <;> rfl
@[simp] theorem State.group_injs (s : State) (n : Nat) : (s.group n).injs = s.injs := by unfold State.group; simp only []; split <;> simp
@[simp] theorem State.finish_injs (s : State) (t : Nat) (st : Status) (a b c : Nat) (d : List Byte) : (s.finish t st a b c d).injs = s.injs := by unfold State.finish; split <;> rfl
@[simp] theorem State.raiseVector_assign (s : State) (n : Nat) : (s.raiseVector n).assign = s.assign := by unfold State.raiseVector; split <;> rfl
@[simp] theorem State.group_assign (s : State) (n : Nat) : (s.group n).assign = s.assign := by unfold State.group; simp only []; split <;> simp
@[simp] theorem State.finish_assign (s : State) (t : Nat) (st : Status) (a b c : Nat) (d : List Byte) : (s.finish t st a b c d).assign = s.assign := by unfold State.finish; split <;> rfl
@[simp] theorem State.raiseVector_runQ (s : State) (n : Nat) : (s.raiseVector n).runQ = s.runQ := by unfold State.raiseVector; split <;> rfl
@[simp] theorem State.group_runQ (s : State) (n : Nat) : (s.group n).runQ = s.runQ := by unfold State.group; simp only []; split <;> simp
@[simp] theorem State.finish_runQ (s : State) (t : Nat) (st : Status) (a b c : Nat) (d : List Byte) : (s.finish t st a b c d).runQ = s.runQ := by unfold State.finish; split <;> rfl
@[simp] theorem State.raiseVector_pwms (s : State) (n : Nat) : (s.raiseVector n).pwms = s.pwms := by unfold State.raiseVector; split <;> rfl
@[simp] theorem State.group_pwms (s : State) (n : Nat) : (s.group n).pwms = s.pwms := by unfold State.group; simp only []; split <;> simp
@[simp] theorem State.finish_pwms (s : State) (t : Nat) (st : Status) (a b c : Nat) (d : List Byte) : (s.finish t st a b c d).pwms = s.pwms := by unfold State.finish; split <;> rfl
@[simp] theorem State.raiseVector_trips (s : State) (n : Nat) : (s.raiseVector n).trips = s.trips := by unfold State.raiseVector; split <;> rfl
@[simp] theorem State.group_trips (s : State) (n : Nat) : (s.group n).trips = s.trips := by unfold State.group; simp only []; split <;> simp
@[simp] theorem State.finish_trips (s : State) (t : Nat) (st : Status) (a b c : Nat) (d : List Byte) : (s.finish t st a b c d).trips = s.trips := by unfold State.finish; split <;> rfl
@[simp] theorem State.raiseVector_atcs (s : State) (n : Nat) : (s.raiseVector n).atcs = s.atcs := by unfold State.raiseVector; split <;> rfl
@[simp] theorem State.group_atcs (s : State) (n : Nat) : (s.group n).atcs = s.atcs := by unfold State.group; simp only []; split <;> simp
@[simp] theorem State.finish_atcs (s : State) (t : Nat) (st : Status) (a b c : Nat) (d : List Byte) : (s.finish t st a b c d).atcs = s.atcs := by unfold State.finish; split <;> rfl
@[simp] theorem State.raiseVector_sds (s : State) (n : Nat) : (s.raiseVector n).sds = s.sds := by unfold State.raiseVector; split <;> rfl
@[simp] theorem State.group_sds (s : State) (n : Nat) : (s.group n).sds = s.sds := by unfold State.group; simp only []; split <;> simp
@[simp] theorem State.finish_sds (s : State) (t : Nat) (st : Status) (a b c : Nat) (d : List Byte) : (s.finish t st a b c d).sds = s.sds := by unfold State.finish; split <;> rfl
@[simp] theorem State.raiseVector_cles (s : State) (n : Nat) : (s.raiseVector n).cles = s.cles := by unfold State.raiseVector; split <;> rfl
@[simp] theorem State.group_cles (s : State) (n : Nat) : (s.group n).cles = s.cles := by unfold State.group; simp only []; split <;> simp
@[simp] theorem State.finish_cles (s : State) (t : Nat) (st : Status) (a b c : Nat) (d : List Byte) : (s.finish t st a b c d).cles = s.cles := by unfold State.finish; split <;> rfl
@[simp] theorem State.raiseVector_rdata (s : State) (n : Nat) : (s.raiseVector n).rdata = s.rdata := by unfold State.raiseVector; split <;> rfl
@[simp] theorem State.group_rdata (s : State) (n : Nat) : (s.group n).rdata = s.rdata := by unfold State.group; simp only []; split <;> simp
@[simp] theorem State.finish_rdata (s : State) (t : Nat) (st : Status) (a b c : Nat) (d : List Byte) : (s.finish t st a b c d).rdata = s.rdata := by unfold State.finish; split <;> rfl
@[simp] theorem State.raiseVector_groom (s : State) (n : Nat) : (s.raiseVector n).groom = s.groom := by unfold State.raiseVector; split <;> rfl
@[simp] theorem State.group_groom (s : State) (n : Nat) : (s.group n).groom = s.groom := by unfold State.group; simp only []; split <;> simp
@[simp] theorem State.finish_groom (s : State) (t : Nat) (st : Status) (a b c : Nat) (d : List Byte) : (s.finish t st a b c d).groom = s.groom := by unfold State.finish; split <;> rfl
@[simp] theorem State.raiseVector_stalls (s : State) (n : Nat) : (s.raiseVector n).stalls = s.stalls := by unfold State.raiseVector; split <;> rfl
@[simp] theorem State.group_stalls (s : State) (n : Nat) : (s.group n).stalls = s.stalls := by unfold State.group; simp only []; split <;> simp
@[simp] theorem State.finish_stalls (s : State) (t : Nat) (st : Status) (a b c : Nat) (d : List Byte) : (s.finish t st a b c d).stalls = s.stalls := by unfold State.finish; split <;> rfl
@[simp] theorem State.raiseVector_agents (s : State) (n : Nat) : (s.raiseVector n).agents = s.agents := by unfold State.raiseVector; split <;> rfl
@[simp] theorem State.group_agents (s : State) (n : Nat) : (s.group n).agents = s.agents := by unfold State.group; simp only []; split <;> simp
@[simp] theorem State.finish_agents (s : State) (t : Nat) (st : Status) (a b c : Nat) (d : List Byte) : (s.finish t st a b c d).agents = s.agents := by unfold State.finish; split <;> rfl
@[simp] theorem State.raiseVector_xtime (s : State) (n : Nat) : (s.raiseVector n).xtime = s.xtime := by unfold State.raiseVector; split <;> rfl
@[simp] theorem State.group_xtime (s : State) (n : Nat) : (s.group n).xtime = s.xtime := by unfold State.group; simp only []; split <;> simp
@[simp] theorem State.finish_xtime (s : State) (t : Nat) (st : Status) (a b c : Nat) (d : List Byte) : (s.finish t st a b c d).xtime = s.xtime := by unfold State.finish; split <;> rfl
@[simp] theorem State.raiseVector_locks (s : State) (n : Nat) : (s.raiseVector n).locks = s.locks := by unfold State.raiseVector; split <;> rfl
@[simp] theorem State.group_locks (s : State) (n : Nat) : (s.group n).locks = s.locks := by unfold State.group; simp only []; split <;> simp
@[simp] theorem State.finish_locks (s : State) (t : Nat) (st : Status) (a b c : Nat) (d : List Byte) : (s.finish t st a b c d).locks = s.locks := by unfold State.finish; split <;> rfl
@[simp] theorem State.raiseVector_lockPtr (s : State) (n : Nat) : (s.raiseVector n).lockPtr = s.lockPtr := by unfold State.raiseVector; split <;> rfl
@[simp] theorem State.group_lockPtr (s : State) (n : Nat) : (s.group n).lockPtr = s.lockPtr := by unfold State.group; simp only []; split <;> simp
@[simp] theorem State.finish_lockPtr (s : State) (t : Nat) (st : Status) (a b c : Nat) (d : List Byte) : (s.finish t st a b c d).lockPtr = s.lockPtr := by unfold State.finish; split <;> rfl
@[simp] theorem State.raiseVector_lps (s : State) (n : Nat) : (s.raiseVector n).lps = s.lps := by unfold State.raiseVector; split <;> rfl
@[simp] theorem State.group_lps (s : State) (n : Nat) : (s.group n).lps = s.lps := by unfold State.group; simp only []; split <;> simp
@[simp] theorem State.finish_lps (s : State) (t : Nat) (st : Status) (a b c : Nat) (d : List Byte) : (s.finish t st a b c d).lps = s.lps := by unfold State.finish; split <;> rfl
@[simp] theorem State.raiseVector_nw (s : State) (n : Nat) : (s.raiseVector n).nw = s.nw := by unfold State.raiseVector; split <;> rfl
@[simp] theorem State.group_nw (s : State) (n : Nat) : (s.group n).nw = s.nw := by unfold State.group; simp only []; split <;> simp
@[simp] theorem State.finish_nw (s : State) (t : Nat) (st : Status) (a b c : Nat) (d : List Byte) : (s.finish t st a b c d).nw = s.nw := by unfold State.finish; split <;> rfl
@[simp] theorem State.raiseVector_safe (s : State) (n : Nat) : (s.raiseVector n).safe = s.safe := by unfold State.raiseVector; split <;> rfl
@[simp] theorem State.group_safe (s : State) (n : Nat) : (s.group n).safe = s.safe := by unfold State.group; simp only []; split <;> simp
@[simp] theorem State.finish_safe (s : State) (t : Nat) (st : Status) (a b c : Nat) (d : List Byte) : (s.finish t st a b c d).safe = s.safe := by unfold State.finish; split <;> rfl
@[simp] theorem State.raiseVector_rm (s : State) (n : Nat) : (s.raiseVector n).rm = s.rm := by unfold State.raiseVector; split <;> rfl
@[simp] theorem State.group_rm (s : State) (n : Nat) : (s.group n).rm = s.rm := by unfold State.group; simp only []; split <;> simp
@[simp] theorem State.finish_rm (s : State) (t : Nat) (st : Status) (a b c : Nat) (d : List Byte) : (s.finish t st a b c d).rm = s.rm := by unfold State.finish; split <;> rfl
@[simp] theorem State.raiseVector_tw (s : State) (n : Nat) : (s.raiseVector n).tw = s.tw := by unfold State.raiseVector; split <;> rfl
@[simp] theorem State.group_tw (s : State) (n : Nat) : (s.group n).tw = s.tw := by unfold State.group; simp only []; split <;> simp
@[simp] theorem State.finish_tw (s : State) (t : Nat) (st : Status) (a b c : Nat) (d : List Byte) : (s.finish t st a b c d).tw = s.tw := by unfold State.finish; split <;> rfl
@[simp] theorem State.raiseVector_sec (s : State) (n : Nat) : (s.raiseVector n).sec = s.sec := by unfold State.raiseVector; split <;> rfl
@[simp] theorem State.group_sec (s : State) (n : Nat) : (s.group n).sec = s.sec := by unfold State.group; simp only []; split <;> simp
@[simp] theorem State.finish_sec (s : State) (t : Nat) (st : Status) (a b c : Nat) (d : List Byte) : (s.finish t st a b c d).sec = s.sec := by unfold State.finish; split <;> rfl
@[simp] theorem State.raiseVector_io (s : State) (n : Nat) : (s.raiseVector n).io = s.io := by unfold State.raiseVector; split <;> rfl
@[simp] theorem State.group_io (s : State) (n : Nat) : (s.group n).io = s.io := by unfold State.group; simp only []; split <;> simp
@[simp] theorem State.finish_io (s : State) (t : Nat) (st : Status) (a b c : Nat) (d : List Byte) : (s.finish t st a b c d).io = s.io := by unfold State.finish; split <;> rfl
@[simp] theorem State.raiseVector_cans (s : State) (n : Nat) : (s.raiseVector n).cans = s.cans := by unfold State.raiseVector; split <;> rfl
@[simp] theorem State.group_cans (s : State) (n : Nat) : (s.group n).cans = s.cans := by unfold State.group; simp only []; split <;> simp
@[simp] theorem State.finish_cans (s : State) (t : Nat) (st : Status) (a b c : Nat) (d : List Byte) : (s.finish t st a b c d).cans = s.cans := by unfold State.finish; split <;> rfl
@[simp] theorem State.raiseVector_acq (s : State) (n : Nat) : (s.raiseVector n).acq = s.acq := by unfold State.raiseVector; split <;> rfl
@[simp] theorem State.group_acq (s : State) (n : Nat) : (s.group n).acq = s.acq := by unfold State.group; simp only []; split <;> simp
@[simp] theorem State.finish_acq (s : State) (t : Nat) (st : Status) (a b c : Nat) (d : List Byte) : (s.finish t st a b c d).acq = s.acq := by unfold State.finish; split <;> rfl
@[simp] theorem State.raiseVector_log (s : State) (n : Nat) : (s.raiseVector n).log = s.log := by unfold State.raiseVector; split <;> rfl
@[simp] theorem State.group_log (s : State) (n : Nat) : (s.group n).log = s.log := by unfold State.group; simp only []; split <;> simp
@[simp] theorem State.finish_log (s : State) (t : Nat) (st : Status) (a b c : Nat) (d : List Byte) : (s.finish t st a b c d).log = s.log := by unfold State.finish; split <;> rfl
@[simp] theorem State.raiseVector_host (s : State) (n : Nat) : (s.raiseVector n).host = s.host := by unfold State.raiseVector; split <;> rfl
@[simp] theorem State.group_host (s : State) (n : Nat) : (s.group n).host = s.host := by unfold State.group; simp only []; split <;> simp
@[simp] theorem State.finish_host (s : State) (t : Nat) (st : Status) (a b c : Nat) (d : List Byte) : (s.finish t st a b c d).host = s.host := by unfold State.finish; split <;> rfl
@[simp] theorem State.raiseVector_pw (s : State) (n : Nat) : (s.raiseVector n).pw = s.pw := by unfold State.raiseVector; split <;> rfl
@[simp] theorem State.group_pw (s : State) (n : Nat) : (s.group n).pw = s.pw := by unfold State.group; simp only []; split <;> simp
@[simp] theorem State.finish_pw (s : State) (t : Nat) (st : Status) (a b c : Nat) (d : List Byte) : (s.finish t st a b c d).pw = s.pw := by unfold State.finish; split <;> rfl
@[simp] theorem State.finish_rd (s : State) (t : Nat) (st : Status) (a b c : Nat) (d : List Byte) (j : Nat) : (s.finish t st a b c d).rd j = s.rd j := by unfold State.rd; rw [State.finish_regs]

end Sys2Proof.Machine
end

