-- ==== Sys2Proof/Laws/Ops.lean ====
section
/-! SUPPORT. What the operations over registers, events and completions do: what a read gives after a write, field by field. -/

namespace Sys2Proof.Machine

/-! ### Numbers -/

/-- A field after it is replaced. -/
theorem field_put (old lo w v : Nat) :
    (old - (old / 2 ^ lo % 2 ^ w) * 2 ^ lo + (v % 2 ^ w) * 2 ^ lo) / 2 ^ lo % 2 ^ w = v % 2 ^ w := by
  have hp : 0 < 2 ^ lo := Nat.two_pow_pos lo
  have hw : 0 < 2 ^ w := Nat.two_pow_pos w
  have h1 : old / 2 ^ lo % 2 ^ w ≤ old / 2 ^ lo := Nat.mod_le _ _
  have h2 : (old / 2 ^ lo % 2 ^ w) * 2 ^ lo ≤ old := Nat.le_trans (Nat.mul_le_mul_right _ h1) (Nat.div_mul_le_self _ _)
  have h3 : old - (old / 2 ^ lo % 2 ^ w) * 2 ^ lo = (old / 2 ^ lo - old / 2 ^ lo % 2 ^ w) * 2 ^ lo + old % 2 ^ lo := by
    rw [Nat.sub_mul]
    have h4 := Nat.div_add_mod old (2 ^ lo)
    have h5 : 2 ^ lo * (old / 2 ^ lo) = old / 2 ^ lo * 2 ^ lo := Nat.mul_comm _ _
    have h6 : (old / 2 ^ lo % 2 ^ w) * 2 ^ lo ≤ old / 2 ^ lo * 2 ^ lo := Nat.mul_le_mul_right _ h1
    omega
  rw [h3, Nat.add_right_comm, ← Nat.add_mul, Nat.add_comm, Nat.add_mul_div_right _ _ hp,
    Nat.div_eq_of_lt (Nat.mod_lt _ hp), Nat.zero_add]
  have h7 : (old / 2 ^ lo - old / 2 ^ lo % 2 ^ w) = 2 ^ w * (old / 2 ^ lo / 2 ^ w) := by
    have := Nat.div_add_mod (old / 2 ^ lo) (2 ^ w)
    omega
  rw [h7, Nat.mul_add_mod]
  exact Nat.mod_mod _ _

/-- Replacing a field keeps a number within its width. -/
theorem put_lt {old lo w v n : Nat} (ho : old < 2 ^ n) (h : lo + w ≤ n) :
    old - (old / 2 ^ lo % 2 ^ w) * 2 ^ lo + (v % 2 ^ w) * 2 ^ lo < 2 ^ n := by
  have hp : 0 < 2 ^ lo := Nat.two_pow_pos lo
  have hw : 0 < 2 ^ w := Nat.two_pow_pos w
  have h0 := Nat.div_add_mod old (2 ^ lo)
  have h1 := Nat.div_add_mod (old / 2 ^ lo) (2 ^ w)
  have h2 : old / 2 ^ lo / 2 ^ w < 2 ^ (n - lo - w) := by
    rw [Nat.div_div_eq_div_mul, ← Nat.pow_add, Nat.div_lt_iff_lt_mul (Nat.two_pow_pos _), ← Nat.pow_add]
    have : n - lo - w + (lo + w) = n := by omega
    rwa [this]
  have h3 : v % 2 ^ w + 1 ≤ 2 ^ w := Nat.mod_lt _ hw
  have h4 : old % 2 ^ lo < 2 ^ lo := Nat.mod_lt _ hp
  have e : old = (2 ^ w * (old / 2 ^ lo / 2 ^ w)) * 2 ^ lo + (old / 2 ^ lo % 2 ^ w) * 2 ^ lo + old % 2 ^ lo := by
    rw [← Nat.add_mul, h1, Nat.mul_comm]; exact h0.symm
  have h5 : old - (old / 2 ^ lo % 2 ^ w) * 2 ^ lo = (2 ^ w * (old / 2 ^ lo / 2 ^ w)) * 2 ^ lo + old % 2 ^ lo := by omega
  rw [h5]
  have h6 : (2 ^ w * (old / 2 ^ lo / 2 ^ w)) * 2 ^ lo + (v % 2 ^ w) * 2 ^ lo + 2 ^ lo ≤
      (2 ^ w * (old / 2 ^ lo / 2 ^ w + 1)) * 2 ^ lo := by
    rw [← Nat.add_mul, ← Nat.succ_mul]
    refine Nat.mul_le_mul_right _ ?_
    rw [Nat.mul_add]
    omega
  have h7 : (2 ^ w * (old / 2 ^ lo / 2 ^ w + 1)) * 2 ^ lo ≤ 2 ^ n := by
    have h8 : 2 ^ n = (2 ^ w * 2 ^ (n - lo - w)) * 2 ^ lo := by
      rw [← Nat.pow_add, ← Nat.pow_add]
      congr 1
      omega
    rw [h8]
    exact Nat.mul_le_mul_right _ (Nat.mul_le_mul_left _ h2)
  omega

/-- Replacing a field leaves a field that shares no bit with it. -/
theorem field_put_other {old lo w v lo2 w2 : Nat} (h : lo + w ≤ lo2 ∨ lo2 + w2 ≤ lo) :
    (old - (old / 2 ^ lo % 2 ^ w) * 2 ^ lo + (v % 2 ^ w) * 2 ^ lo) / 2 ^ lo2 % 2 ^ w2 = old / 2 ^ lo2 % 2 ^ w2 := by
  have hp : 0 < 2 ^ lo := Nat.two_pow_pos lo
  have h0 := Nat.div_add_mod old (2 ^ lo)
  have h1 := Nat.div_add_mod (old / 2 ^ lo) (2 ^ w)
  have e : old = (2 ^ w * (old / 2 ^ lo / 2 ^ w)) * 2 ^ lo + (old / 2 ^ lo % 2 ^ w) * 2 ^ lo + old % 2 ^ lo := by
    rw [← Nat.add_mul, h1, Nat.mul_comm]; exact h0.symm
  have h5 : old - (old / 2 ^ lo % 2 ^ w) * 2 ^ lo = (2 ^ w * (old / 2 ^ lo / 2 ^ w)) * 2 ^ lo + old % 2 ^ lo := by omega
  have h4 : old % 2 ^ lo < 2 ^ lo := Nat.mod_lt _ hp
  have hv : v % 2 ^ w < 2 ^ w := Nat.mod_lt _ (Nat.two_pow_pos w)
  rw [h5]
  rcases h with h | h
  · obtain ⟨k, rfl⟩ := Nat.exists_eq_add_of_le h
    have h6 : (2 ^ w * (old / 2 ^ lo / 2 ^ w)) * 2 ^ lo + old % 2 ^ lo + (v % 2 ^ w) * 2 ^ lo =
        old % 2 ^ lo + (v % 2 ^ w + 2 ^ w * (old / 2 ^ lo / 2 ^ w)) * 2 ^ lo := by rw [Nat.add_mul]; omega
    rw [h6, Nat.pow_add, Nat.pow_add, ← Nat.div_div_eq_div_mul, ← Nat.div_div_eq_div_mul, Nat.add_mul_div_right _ _ hp,
      Nat.div_eq_of_lt h4, Nat.zero_add, Nat.add_mul_div_left _ _ (Nat.two_pow_pos w), Nat.div_eq_of_lt hv, Nat.zero_add,
      ← Nat.div_div_eq_div_mul, ← Nat.div_div_eq_div_mul]
  · obtain ⟨k, rfl⟩ := Nat.exists_eq_add_of_le h
    have h6 : ∀ x y : Nat, x % 2 ^ (lo2 + w2 + k) = y % 2 ^ (lo2 + w2 + k) → x / 2 ^ lo2 % 2 ^ w2 = y / 2 ^ lo2 % 2 ^ w2 := by
      intro x y hxy
      have hd : 2 ^ (lo2 + w2) ∣ 2 ^ (lo2 + w2 + k) := Nat.pow_dvd_pow 2 (Nat.le_add_right _ _)
      have h7 : x % 2 ^ (lo2 + w2) = y % 2 ^ (lo2 + w2) := by
        rw [← Nat.mod_mod_of_dvd x hd, hxy, Nat.mod_mod_of_dvd y hd]
      rw [Nat.pow_add] at h7
      rw [← Nat.mod_mul_right_div_self, ← Nat.mod_mul_right_div_self, h7]
    apply h6
    rw [Nat.add_mul_mod_self_right, Nat.mul_add_mod_self_right, Nat.mod_mod]

/-! ### Vectors of units -/

theorem vget_vmod_same {α : Type} {k : Nat} {v : Vector α k} {i : Nat} {d : α} {f : α → α} (h : i < k) :
    vget (vmod v i f) i d = f (vget v i d) := by
  simp [vget, vmod, h]
theorem vget_vmod_ne {α : Type} {k : Nat} {v : Vector α k} {i j : Nat} {d : α} {f : α → α} (h : j ≠ i) :
    vget (vmod v i f) j d = vget v j d := by
  unfold vget vmod
  by_cases hj : j < k
  · by_cases hi : i < k
    · simp [hj, hi, Vector.getElem_set, Ne.symm h]
    · simp [hj, hi]
  · simp [hj]

/-! ### Registers -/

theorem canonical_regs {s : State} (h : s.canonical = true) : spWf regReset s.regs = true := (canonical_parts.1 h).1.1
theorem canonical_act {s : State} (h : s.canonical = true) : spWf regReset s.act = true := (canonical_parts.1 h).1.2

theorem Keeps.same {M : Nat} {s t : State} (h : Keeps M s t) (p : Part) (hp : M.testBit p.ctorIdx = false) : p.same s t := h.frame p hp
theorem forEach_same {p : Part} {s : State} {l : List Nat} {f : State → Nat → State} (h : ∀ t x, p.same t (f t x)) : p.same s (s.forEach l f) := by
  induction l generalizing s with
  | nil => exact Part.same_refl
  | cons x l ih => exact Part.same_trans (h s x) (ih (s := f s x))
@[simp] theorem wr_canonical {s : State} {a : Nat} {v : Word} (h : s.canonical = true) : (s.wr a v).canonical = true :=
  (keeps_State_wr (M := 1) rfl (Keeps.refl s)).canon h
@[simp] theorem put_canonical {s : State} {a : Nat} {f : Fld} {v : Nat} (h : s.canonical = true) : (s.put a f v).canonical = true :=
  wr_canonical h
@[simp] theorem wrN_canonical {s : State} {a v : Nat} (h : s.canonical = true) : (s.wrN a v).canonical = true := wr_canonical h
@[simp] theorem wrI_canonical {s : State} {a : Nat} {v : Int} (h : s.canonical = true) : (s.wrI a v).canonical = true := wr_canonical h
@[simp] theorem putB_canonical {s : State} {a : Nat} {f : Fld} {v : Bool} (h : s.canonical = true) : (s.putB a f v).canonical = true := wr_canonical h
@[simp] theorem setf_canonical {s : State} {a : Nat} {f : Fld} (h : s.canonical = true) : (s.setf a f).canonical = true := wr_canonical h
@[simp] theorem clrf_canonical {s : State} {a : Nat} {f : Fld} (h : s.canonical = true) : (s.clrf a f).canonical = true := wr_canonical h
@[simp] theorem count_canonical {s : State} {a : Nat} {f : Fld} (h : s.canonical = true) : (s.count a f).canonical = true := wr_canonical h
@[simp] theorem clrBits_canonical {s : State} {a : Nat} {m : Word} (h : s.canonical = true) : (s.clrBits a m).canonical = true := wr_canonical h
@[simp] theorem wr64_canonical {s : State} {a : Nat} {v : Word64} (h : s.canonical = true) : (s.wr64 a v).canonical = true := wr_canonical (wr_canonical h)
@[simp] theorem wr64N_canonical {s : State} {a v : Nat} (h : s.canonical = true) : (s.wr64N a v).canonical = true := wr64_canonical h
@[simp] theorem awr_canonical {s : State} {a : Nat} {v : Word} (h : s.canonical = true) : (s.awr a v).canonical = true :=
  (keeps_State_awr (M := 2) rfl (Keeps.refl s)).canon h

theorem rd_wr_same {s : State} {a : Nat} {v : Word} (h : s.canonical = true) : (s.wr a v).rd a = v := by
  rw [rd_wr (canonical_regs h), if_pos rfl]
theorem rd_wr_ne {s : State} {a b : Nat} {v : Word} (h : s.canonical = true) (hb : b ≠ a) : (s.wr a v).rd b = s.rd b := by
  rw [rd_wr (canonical_regs h), if_neg hb]
theorem rdN_wrN_same {s : State} {a v : Nat} (h : s.canonical = true) (hv : v < 2 ^ 32) : (s.wrN a v).rdN a = v := by
  rw [State.rdN, State.wrN, rd_wr_same h, BitVec.toNat_ofNat, Nat.mod_eq_of_lt hv]
theorem rdN_wrN_mod {s : State} {a v : Nat} (h : s.canonical = true) : (s.wrN a v).rdN a = v % 2 ^ 32 := by
  rw [State.rdN, State.wrN, rd_wr_same h, BitVec.toNat_ofNat]

/-- A field that has been put reads as the number put, modulo its width. -/
theorem get_put_same {s : State} {a : Nat} {f : Fld} {v : Nat} (h : s.canonical = true) (hf : f.lo + f.w ≤ 32) :
    (s.put a f v).get a f = v % 2 ^ f.w := by
  have hb : s.rdN a < 2 ^ 32 := (s.rd a).isLt
  rw [State.get, State.put, rdN_wrN_same h (put_lt hb hf), field_put]
/-- Putting a field leaves every other register. -/
theorem rd_put_ne {s : State} {a b : Nat} {f : Fld} {v : Nat} (h : s.canonical = true) (hb : b ≠ a) : (s.put a f v).rd b = s.rd b :=
  rd_wr_ne h hb
theorem get_put_other {s : State} {a : Nat} {f g : Fld} {v : Nat} (h : s.canonical = true) (hf : f.lo + f.w ≤ 32)
    (hg : f.lo + f.w ≤ g.lo ∨ g.lo + g.w ≤ f.lo) : (s.put a f v).get a g = s.get a g := by
  have hb : s.rdN a < 2 ^ 32 := (s.rd a).isLt
  rw [State.get, State.put, rdN_wrN_same h (put_lt hb hf), field_put_other hg]; rfl
theorem get_put_ne {s : State} {a b : Nat} {f g : Fld} {v : Nat} (h : s.canonical = true) (hb : b ≠ a) : (s.put a f v).get b g = s.get b g := by
  simp only [State.get, State.rdN, rd_put_ne h hb]
theorem flag_setf {s : State} {a : Nat} {f : Fld} (h : s.canonical = true) (hf : f.lo + f.w ≤ 32) (hw : f.w = 1) :
    (s.setf a f).flag a f = true := by
  rw [State.flag, State.setf, get_put_same h hf, hw]; rfl
theorem flag_clrf {s : State} {a : Nat} {f : Fld} (h : s.canonical = true) (hf : f.lo + f.w ≤ 32) :
    (s.clrf a f).flag a f = false := by
  rw [State.flag, State.clrf, get_put_same h hf, Nat.zero_mod]; rfl
theorem flag_putB {s : State} {a : Nat} {f : Fld} {b : Bool} (h : s.canonical = true) (hf : f.lo + f.w ≤ 32) (hw : f.w = 1) :
    (s.putB a f b).flag a f = b := by
  rw [State.flag, State.putB, get_put_same h hf, hw]; cases b <;> rfl
/-- A 64-bit register after a write. -/
theorem rd64_wr64 {s : State} {a : Nat} {v : Word64} (h : s.canonical = true) : (s.wr64 a v).rd64 a = v := by
  have h1 : a ≠ a + 4 := by omega
  rw [State.rd64, State.wr64, rd_wr_same (wr_canonical h), rd_wr_ne (wr_canonical h) h1, rd_wr_same h]
  apply BitVec.eq_of_toNat_eq
  simp only [BitVec.toNat_append, BitVec.toNat_setWidth, BitVec.toNat_ushiftRight, Nat.shiftRight_eq_div_pow]
  have := v.isLt
  rw [← Nat.shiftLeft_add_eq_or_of_lt (by omega), Nat.shiftLeft_eq]
  omega

theorem rd_congr {s t : State} (h : t.regs = s.regs) (a : Nat) : t.rd a = s.rd a := by unfold State.rd; rw [h]
theorem incSat_lt (w x : Nat) : incSat w x < 2 ^ w := by
  have h : 0 < 2 ^ w := Nat.two_pow_pos w
  unfold incSat
  generalize 2 ^ w = k at h ⊢
  split <;> omega
/-- A counter counts one, up to its top. -/
theorem get_count_same {s : State} {a : Nat} {f : Fld} (h : s.canonical = true) (hf : f.lo + f.w ≤ 32) :
    (s.count a f).get a f = incSat f.w (s.get a f) := by
  rw [State.count, get_put_same h hf]
  exact Nat.mod_eq_of_lt (incSat_lt _ _)
/-- A refused or unmapped access counts, and leaves its word and its reason (R38). -/
theorem badAcc_regs {s : State} {a : Nat} {b : Bool} (h : s.canonical = true) :
    (s.badAcc a b).get SYS_BADACC SYS_BADACC_COUNT = incSat SYS_BADACC_COUNT.w (s.get SYS_BADACC SYS_BADACC_COUNT) ∧
    (s.badAcc a b).get SYS_BADACC SYS_BADACC_OFFSET = a / 4 % 2 ^ SYS_BADACC_OFFSET.w ∧
    (s.badAcc a b).flag SYS_BADACC SYS_BADACC_REASON = b ∧ ∀ c, c ≠ SYS_BADACC → (s.badAcc a b).rd c = s.rd c := by
  refine ⟨?_, ?_, flag_putB (by simp [h]) (by decide) (by decide), fun c hc => ?_⟩
  · unfold State.badAcc State.putB
    rw [get_put_other (by simp [h]) (by decide) (by decide), get_put_other (by simp [h]) (by decide) (by decide), get_count_same h (by decide)]
  · unfold State.badAcc State.putB
    rw [get_put_other (by simp [h]) (by decide) (by decide), get_put_same (by simp [h]) (by decide)]
  · unfold State.badAcc State.putB State.count
    rw [rd_put_ne (by simp [h]) hc, rd_put_ne (by simp [h]) hc, rd_put_ne h hc]

/-! ### Host writes and commands -/

/-- A host command on a register that the host may write has its effect. -/
theorem hostCmd_may {s : State} {a : Nat} {f : State → State} (h : s.hostMay a) : s.hostCmd a f = f s := by
  rw [State.hostCmd, if_neg (not_not.2 h.1), if_pos h.2]
/-- A host command on a register that it may not write is recorded as refused. -/
theorem hostCmd_not {s : State} {a : Nat} {f : State → State} (h : s.pw.phase = .running) (hw : s.mayWrite 0 a = false) :
    s.hostCmd a f = s.badAcc a true := by
  rw [State.hostCmd, if_neg (not_not.2 h), hw]; rfl
/-- The same for a write of a word with no reserved bit. -/
theorem hostWord_may {s : State} {a v : Nat} {f : State → State} (h : s.hostMay a) (hv : wordOk a v = true) :
    hostWord s a v f = .next (f s) := by
  rw [hostWord, if_neg (not_not.2 h.1), h.2]
  unfold wordOk at hv
  revert hv
  cases regHit a with
  | none => intro _; rfl
  | some x =>
    intro hv
    simp only [Bool.not_eq_true'] at hv
    simp [hv]
/-- A word with a reserved bit stops. -/
theorem hostWord_reserved {s : State} {a v : Nat} {f : State → State} (h : s.hostMay a) (hv : wordOk a v = false) :
    hostWord s a v f = .fault .reservedBit := by
  rw [hostWord, if_neg (not_not.2 h.1), h.2]
  unfold wordOk at hv
  revert hv
  cases regHit a with
  | none => intro hv; cases hv
  | some x =>
    intro hv
    simp only [Bool.not_eq_false'] at hv
    simp [hv]

theorem serveWith_passes {s : State} {r : Req} {plen rlen : Nat} {pcrc : Option Nat} {go : State → Req → State}
    (h : s.passes r plen rlen pcrc = true) : s.serveWith r plen rlen pcrc go = go s r := by
  simp only [State.passes, Bool.and_eq_true, Option.isNone_iff_eq_none, Bool.not_eq_true'] at h
  unfold State.serveWith
  rw [h.1.1]
  simp only [h.1.2, Bool.false_eq_true, ↓reduceIte]
  refine if_neg fun hh => ?_
  have h2 := h.2
  cases pcrc with
  | none => simp at hh
  | some c => exact Bool.false_ne_true (h2.symm.trans hh)
/-- A command that is admitted does what it does. -/
theorem command_admits {s s1 : State} {c : Cmd} {op : Nat} {r : Req} {go : State → Req → State} (h : s.admits c op = some (s1, r)) :
    s.command c op go = go s1 r := by
  unfold State.admits at h
  unfold State.command State.startWith
  simp only at h ⊢
  split at h
  · cases h
  · rename_i hs
    rw [if_neg hs]
    split at h
    · rename_i hf
      try rw [hf]
      split at h
      · rename_i hp
        cases h
        exact serveWith_passes hp
      · cases h
    · rename_i i hf
      try rw [hf]
      try simp only
      by_cases hn : (!s.startsNow i (cmdReq c op)) = true
      · rw [if_pos hn] at h
        cases h
      · rw [if_neg hn] at h ⊢
        rw [Option.ite_none_right_eq_some] at h
        obtain ⟨hp, h⟩ := h
        cases h
        exact serveWith_passes hp

/-! ### Records in shared SRAM -/

@[simp] theorem leBytes_length (k v : Nat) : (leBytes k v).length = k := by
  induction k generalizing v with
  | zero => rfl
  | succ k ih => simp [leBytes, ih]
@[simp] theorem leS64_length (x : Int) : (leS64 x).length = 8 := leBytes_length 8 _
/-- A segment occupies 64 bytes (R110). -/
theorem Seg.bytes_length (g : Seg) : g.bytes.length = 64 := by simp [Seg.bytes]
/-- A cam table occupies 32 bytes for each of its points (R125). -/
theorem Cam.bytes_length (c : Cam) : c.bytes.length = 32 * c.pts.length := by
  simp [Cam.bytes, List.length_flatMap, Nat.mul_comm]

end Sys2Proof.Machine
end

