-- ==== Sys2Proof/WellFormed.lean ====
section
/-! DEFINITION. Operands that the types do not bound: lengths of byte and word lists.  A command with other lengths cannot be
formed on the wire; the machine is total on them all the same. -/

namespace Sys2Proof

/-- A payload fits the longest that an entry can name, 64 MiB (R486). -/
def Cmd.wf (c : Cmd) : Bool := decide (c.payload.length ≤ 67108864)

/-- The data of a CAN frame: 8 bytes at most, 64 with FDF (R456). -/
def CanFrame.wf (f : CanFrame) : Bool := decide (f.data.length ≤ if f.fdf then 64 else 8)

/-- The operands have lengths that the interfaces carry. -/
def Instr.wf : Instr → Bool
  | .bar2Write o data => decide (1 ≤ data.length) && decide (o.toNat % 64 + data.length ≤ 64)
  | .hqRead _ k => decide (1 ≤ k.val)
  | .hqWrite _ ws => decide (1 ≤ ws.length)
  | .ringFetch _ bus fault => fault || decide (bus.length = 64)
  | .streamPointMove _ e fault => fault || decide (e.length = 64)
  | .acyclicRequestReceive _ _ body => decide (8 ≤ body.length) && decide (body.length ≤ 1928)
  | .acyclicResponseReceive _ body => decide (8 ≤ body.length) && decide (body.length ≤ 1928)
  | .canFrameReceive _ f _ => f.wf
  | .fwWrite c => c.wf
  | .lpImage c => c.wf
  | .camLoad c => c.wf
  | .tableLoad c => c.wf
  | _ => true

end Sys2Proof
end

