-- ==== Sys2Proof/Tests/Slice0.lean ====
section
/-! SUPPORT. Tests: ill-formed operands are refused; small steps; and for each statement states and operands that meet the
hypotheses of each of its clauses. -/

open Sys2Proof Sys2Proof.Machine

/-! ### One ill-formed term for each check of WellFormed -/

theorem test_wf_bar2_empty : (Instr.bar2Write 0 []).wf = false := by decide
theorem test_wf_bar2_crosses : (Instr.bar2Write 63 [0, 0]).wf = false := by decide
theorem test_wf_hq_read : (Instr.hqRead 0 0).wf = false := by decide
theorem test_wf_hq_write : (Instr.hqWrite 0 []).wf = false := by decide
theorem test_wf_ring_fetch : (Instr.ringFetch 0 [0] false).wf = false := by decide
theorem test_wf_stream : (Instr.streamPointMove 0 [0] false).wf = false := by decide
theorem test_wf_acyclic_request : (Instr.acyclicRequestReceive 0 false [0]).wf = false := by decide
theorem test_wf_acyclic_response : (Instr.acyclicResponseReceive 0 [0]).wf = false := by decide
theorem test_wf_can_classical :
    (Instr.canFrameReceive 0 ⟨false, false, 0, false, false, false, 9, [0, 0, 0, 0, 0, 0, 0, 0, 0]⟩ 0).wf = false := by decide
theorem test_wf_payload (c : Cmd) (h : c.payload.length = 67108865) :
    (Instr.fwWrite c).wf = false ∧ (Instr.lpImage c).wf = false ∧ (Instr.camLoad c).wf = false ∧ (Instr.tableLoad c).wf = false := by
  simp [Instr.wf, Cmd.wf, h]

/-! ### States for witnesses -/

/-- A module that runs in operating state `st`, with every right for its host. -/
def W (st : Nat) : State :=
  (({ State.reset with pw := { State.reset.pw with phase := .running, fwRun := true } } : State).wrN SYS_STATE st).wrN SYS_EXPERT 0xFFFFFFFF
/-- The command is in flight. -/
def adm (s : State) (c : Cmd) (op : Nat) : State := { s with inflight := s.inflight ++ [{ tag := c.tag.toNat, opcode := op, ring := 128 }] }
theorem admits_fresh {s : State} {c : Cmd} {op : Nat} (h : (s.inflight.find? fun i => i.tag == c.tag.toNat && !i.done) = none)
    (hs : s.serves op = true) (hp : (adm s c op).passes (cmdReq c op) (cmdReq c op).data.length 0 none = true) :
    s.admits c op = some (adm s c op, cmdReq c op) := by
  have h' : (s.inflight.find? fun i => i.tag == (cmdReq c op).tag && !i.done) = none := h
  unfold State.admits
  simp only [hs, h', Bool.not_true, Bool.false_eq_true, if_false]
  exact if_pos hp
theorem admitsPacket_fresh {s : State} {c : Cmd} {op : Nat} (h : (s.inflight.find? fun i => i.tag == c.tag.toNat && !i.done) = none)
    (hs : s.serves op = true) (hn : (nxReq (cmdReq c op)).isSome = true)
    (he : ((adm s c op).entryFail ((nxReq (cmdReq c op)).getD (cmdReq c 0)) ((nxReq (cmdReq c op)).getD (cmdReq c 0)).data.length 0).isNone = true)
    (hb : (nxBad (cmdReq c op)).isNone = true) :
    s.admitsPacket c op = some (adm s c op, (nxReq (cmdReq c op)).getD (cmdReq c 0)) := by
  have h' : (s.inflight.find? fun i => i.tag == (cmdReq c op).tag && !i.done) = none := h
  obtain ⟨t, ht⟩ := Option.isSome_iff_exists.1 hn
  rw [ht] at he ⊢
  unfold State.admitsPacket
  simp only [hs, h', ht, Bool.not_true, Bool.false_eq_true, if_false]
  exact if_pos (by simp [adm, hb] at he ⊢; exact he)
def mpw (s : State) (f : PowerSt → PowerSt) : State := { s with pw := f s.pw }
def mtm (s : State) (f : TimeSt → TimeSt) : State := { s with time := f s.time }
def img (svn : Word) (a b : Bool) : BootImage := { reads := a, signed := b, svn := svn, mib := 3 }
def tst0 : TimeSt := {}

def ringOnS (mode bind : Nat) : State := ((((W 1).wrN (RING_CFG 1) (2 ^ 31 + mode * 2 ^ 26 + 16)).wrN (RING_TAIL 1) 1).wrN (RING_BIND 1) bind)
def zeros (k : Nat) : List Byte := List.replicate k 0
def mhost (s : State) (f : HostSt → HostSt) : State := { s with host := f s.host }
def hit (a : Nat) : Hit := match regHit a with
  | some h => h
  | none => ⟨.sys, .any, [], RegSpec.mk 0 false 1 0 false [], 0, false⟩
def mlp (s : State) (k : Nat) (f : LpSt → LpSt) : State := s.modLp k f
def mloop (s : State) (n : Nat) (f : AxLoop → AxLoop) : State := s.modLoop n f
/-- LP0 to 3 in NORMAL, a run waiting -/
def lpN (s : State) (k : Nat) : State := s.put (LP_STAT k) LP_STAT_MODE 1
def runS (kd : RunKind) (ax k : Nat) : State := (lpN (mlp (W 2) k fun l => { l with stdA := true }) k).modQueue k fun _ => [{ kind := kd, axis := ax, at_ := 5, b := 160, due := 9999999 }]
def mport (s : State) (n : Nat) (f : EPort → EPort) : State := s.modPort n f
def prt (mode : Nat) : State := (W 1).wrN (EP_CFG 3) (mode + 2 ^ EP_CFG_EN.lo)
def mpair (s : State) (n i : Nat) (f : PairSt → PairSt) : State := s.modPair n i f
def mlatch (s : State) (n : Nat) (f : LatchSt → LatchSt) : State := s.modLatch n f
def mcmp (s : State) (n : Nat) (f : CompareSt → CompareSt) : State := s.modCompare n f
def mrc (s : State) (k : Nat) (f : RcSt → RcSt) : State := s.modRc k f
def mshaft (s : State) (k : Nat) (f : LsSt → LsSt) : State := s.modShaft k f
def mmo (s : State) (n : Nat) (f : AxMo → AxMo) : State := s.modMo n f
def mcu (s : State) (u : Nat) (f : CapSt → CapSt) : State := s.modCu u f
def git (f : Nat) (e : Option Nat) (hw : Bool) (h : Option Nat) : GItem := { flow := f, cls := 1, tap := false, handler := 3, arg0 := 0, arg1 := 0, arg2 := 0, agent := 0, ptick := 0, hw := hw, elig := e, held := h }
def mgr (s : State) (f : GroomSt → GroomSt) : State := { s with groom := f s.groom }
def mv0 : Move := { kind := .none, d := 0, x := 0 }
def m20 : Move2 := { kind := .none, d := 0, x := 0 }
/-- LP2 in NORMAL with law code running: registers `f` -/
def mol (f : LpSet → LpSet) : State := mlp ((W 2).put (LP_STAT 2) LP_STAT_MODE 1) 2 fun l => { l with run := some { kind := .pos, axis := 5, at_ := 5, b := 160, due := 9 }, pc := 100, main := f { l.main with d := ((l.main.d.set 4 0x80000001).set 5 7).set 6 0x1005 } }
def mgcl (s : State) (p : Nat) (f : GclSt → GclSt) : State := s.modGcl p f
def mptp (s : State) (f : PtpSt → PtpSt) : State := s.modPtp f
def up (p : Nat) : State := (((W 2).setf (PORT_CFG p) PORT_CFG_EN).setf (PORT_STAT p) PORT_STAT_LINK).put (PORT_STAT p) PORT_STAT_SPEED 1
def frm : EthFrame := { dst := Config.macAddress, src := 5 }
def mrm (s : State) (f : RmSt → RmSt) : State := s.modRm f
/-- A cyclic frame from node 7 with one user block of PUBID 9, 4 bytes -/
def cyc (s : State) : List Byte := let b := pubBlock 9 5 0 4 s.epoch [1, 2, 3, 4]; rmHeader 1 1 7 (s.time.frameNum % 2 ^ 32) b.length 1 ++ b
def subS : State := (((W 2).wrN (SUB_W0 3) (2 ^ 31 + 5 * 2 ^ 24 + (W 2).epoch * 2 ^ 16 + 9)).wrN (SUB_W1 3) (7 * 2 ^ 16 + 4)).wrN (SUB_BUF 3) 64
def bel : Bell := { origin := 7, epoch := 1, bkind := 1, reporter := 7, cause := 1, hops := 3, dcycle := 5, nsub := 0 }
/-- Zeros with a few bytes: a safety set for a witness -/
def patch (l : List Byte) (o : Nat) (b : List Byte) : List Byte := l.take o ++ b ++ l.drop (o + b.length)
def sset : List Byte := patch (patch (zeros 9152) 8640 [1, 0, 5, 0, 3, 2, 8, 0]) (128 + 3 * 128 + 84) [100, 0]
def msafe (s : State) (f : SafeSt → SafeSt) : State := { s with safe := f s.safe }
/-- Both safety channels run -/
def chS (st : Nat) : State := ((W st).modCh 0 fun x => { x with st := 1 }).modCh 1 fun x => { x with st := 1 }
/-- A module of a pair in role `r` -/
def tws (st r : Nat) : State := ((W st).setf TW_CFG TW_CFG_EN).put TW_STAT TW_STAT_ROLE r
/-- CAN controller 1 running in Noon -/
def cans (f : CanSt → CanSt) : State := ((W 2).clrf (CAN_CTRL 1) CAN_CTRL_HALT).modCan 1 fun c => f { c with halted := false }
def cfr : CanFrame := { ide := false, rtr := false, id := 0x1234 * 2 ^ 18 % 2 ^ 29, fdf := false, brs := false, esi := false, dlc := 2, data := [7, 8] }
/-- Buffer 5 of CAN1 waits to be sent -/
def ctx : State := ((cans fun c => c).wr64N (CAN_BDIR 1) 32).wr64N (CAN_TXGO 1) 32
def fio : State := ((W 2).wrN (FG_STAT 0) 0).wrN (FG_STAT 1) 0
def mkc (u : Byte) (p : Vector Word 6) (d : List Byte) : Cmd := { tag := 5, unit := u, p := p, payload := d }
def p0 : Vector Word 6 := #v[0, 0, 0, 0, 0, 0]
/-- The image that the registers hold -/
def imgd (s : State) (as : List Nat) : List Byte := as.flatMap fun a => leBytes 4 (s.rdN a)
def imgc (s : State) (op : Nat) (u : Byte) : Cmd := mkc u p0 (imgd s (imageOf op u.toNat s.imageShort))
def inf (s : State) (i : Inflight) : State := { s with inflight := i :: s.inflight }
def ramp1 (s : State) (n : Nat) : State := s.modMo n fun m => { m with ramp := some { t0 := 0, p := 0, v := 0, a := 0, phases := [] } }
/-- Group 2 of axes 3 and 4, with limits -/
def grp : State := ((((((W 2).wrN (GRP_MEMB0 2) 0xFFFF0403).wrN (GRP_SCALE 2 0) 65536).wrN (GRP_SCALE 2 1) 65536).wr64N (GRP_VMAX 2) 1000).wr64N (GRP_AMAX 2) 1000).wr64N (GRP_JMAX 2) 1000
def pl8 (l : List Nat) : List Byte := l.flatMap fun x => leBytes 8 x
def far : List Seg := [{ start := 100000, p0 := 0, v0 := 0, a0 := 0, j := 0, dur := 10, move := 1, last := true }]
def mlog (s : State) (f : LogSt → LogSt) : State := { s with log := f s.log }
/-- A segment: REQID 9 to node 0 -/
def seg (fl n : Nat) (l : List Byte) : List Byte := leBytes 2 9 ++ leBytes 2 0 ++ leBytes 1 fl ++ leBytes 1 n ++ leBytes 2 l.length ++ l
theorem all_succ_lt {P : Nat → Prop} {n : Nat} (h : ∀ q < n - 1, P q) : ∀ q, q + 1 < n → P q := fun q hq => h q (by omega)

/-! ### The spec's worked examples -/

/-- R10's worked example: gain 0.75 on 0.5 pu, on 127 pu, and with shift 29. -/
theorem test_coefficient_example : coef 0x60000000 31 0x00800000 = 0x00600000 ∧ coef 0x60000000 31 0x7F000000 = 0x5F400000 ∧
    coef 0x60000000 29 0x7F000000 = 0x7FFFFFFF := by decide +kernel
/-- The example of R87: the third index after the reference, 3 counts late. -/
theorem test_index_error_example : indexError 196611 0 65536 = 3 := by decide +kernel
/-- The addresses of the example of R26: EP13, AX13, AX45, CLE3, PWM13, LP6. -/
theorem test_address_example : (EP_CFG 13 / 0x1000 * 0x1000, AX_SRC 13 / 0x200 * 0x200, AX_SRC 45 / 0x200 * 0x200, SLOT_CFG 13 / 0x2000 * 0x2000,
    PWM_PER 13 / 0x800 * 0x800, LP_STAT 6 / 0x1000 * 0x1000) = (0x4D000, 0xD1A00, 0xD5A00, 0x96000, 0xA6800, 0xE6000) := by decide +kernel
/-- The example of R82: 25 bits at 200 ticks and a delay of 504 ticks take 5 704 ticks. -/
theorem test_ssi_frame_example : 
    (((W 1).wrN (EP_SSI 34) (200 * 2 ^ EP_SSI_CLKPER.lo + 25 * 2 ^ EP_SSI_LEN.lo)).put (EP_SSIT 34) EP_SSIT_DELAY 504).ssiFrameTime 34 = 5704 := by
  decide +kernel
/-- The reset values of R46, R96 and R97. -/
theorem test_reset_values : State.reset.rdN TB_FRAME = 4 ∧ State.reset.rdN (EP_CFG 3) = 0x4380 := by decide +kernel

/-! ### Witnesses of the statements -/

section
set_option Elab.async false

/-- States and operands that meet the hypotheses of each clause of StartupResetCommandsComplete. -/
theorem witness_StartupResetCommandsComplete :
  (∃ (s : State), s.pw.vin = false ∧ s.pw.low = true) ∧
  (∃ (s : State), s.pw.vin = true) ∧
  (∃ (s : State), s.pw.vin = true) ∧
  (∃ (s : State), s.pw.vin = true ∧ s.pw.phase = .held ∧ s.sec.dirBad = false) ∧
  (∃ (s : State), s.canonical = true ∧ s.pw.phase = .released) ∧
  (∃ (s : State), s.pw.phase = .running ∧ s.pw.dram = false) ∧
  (∃ (s : State) (pref : BootImage), s.pw.phase = .running ∧ s.pw.booted = false ∧ s.bootFault pref = 0) ∧
  (∃ (s : State) (pref : BootImage) (other : BootImage), s.pw.phase = .running ∧ s.pw.booted = false ∧ s.bootFault pref ≠ 0 ∧
    s.bootFault other = 0) ∧
  (∃ (s : State), s.pw.booted = true ∧ s.pw.fwRun = false ∧ s.inDawn = true ∧ s.pw.phase = .running ∧ s.pw.restart = none) ∧
  (∃ (s : State), s.pw.booted = true ∧ s.pw.fwRun = false ∧ s.inDawn = true ∧ s.pw.phase = .running ∧ s.pw.restart = none ∧
    s.log.calBad = false) :=
  ⟨⟨mpw State.reset fun p => { p with vin := false, low := true, resets := 65535 }, by decide +kernel⟩,
   ⟨W 2, by decide +kernel⟩,
   ⟨W 2, by decide +kernel⟩,
   ⟨mpw State.reset fun p => { p with vin := true }, by decide +kernel⟩,
   ⟨mpw State.reset fun p => { p with phase := .released }, by decide +kernel⟩,
   ⟨W 0, by decide +kernel⟩,
   ⟨W 0, img 5 true true, by decide +kernel⟩,
   ⟨W 0, img 0 false false, img 5 true true, by decide +kernel⟩,
   ⟨mpw (W 0) fun p => { p with booted := true, fwRun := false, bootAt := 7 }, by decide +kernel⟩,
   ⟨mpw (W 0) fun p => { p with booted := true, fwRun := false, bootAt := 7 }, by decide +kernel⟩⟩

/-- States and operands that meet the hypotheses of each clause of StateChangeCommandsComplete. -/
theorem witness_StateChangeCommandsComplete :
  (∃ (s : State), s.pw.fwRun = true ∧ s.inDawn = true ∧ s.pw.tested = false) ∧
  (∃ (s : State), s.inDawn = true ∧ s.pw.fwRun = true ∧ s.pw.dram = true ∧ s.pw.tested = true ∧ s.flag SYS_STEST SYS_STEST_PASS = true ∧
    s.atFrame = true ∧ (∀ k < 16, s.get (LP_BANKA k) LP_BANKA_STATE = 2 ∨ s.lpMode k = 3)) ∧
  (∃ (s : State) (c : Nat), s.pw.decided = some (4, c) ∧ s.pw.want = none) ∧
  (∃ (s : State) (c : Nat) (tag : Nat), s.pw.decided = none ∧ s.pw.want = some (2, tag, c) ∧ s.atFrame = true) ∧
  (∃ (s : State) (c : Nat) (tag : Nat), s.pw.decided = none ∧ s.pw.want = some (1, tag, c) ∧ s.atFrame = true ∧ s.inNoon = true) ∧
  (∃ (s : State), s.pw.fwRun = true) ∧
  (∃ (s : State), s.pw.fwRun = true ∧ s.pw.wdFirst = none) ∧
  (∃ (s : State) (t0 : Nat), s.pw.fwRun = true ∧ s.pw.wdFirst = some t0 ∧ s.tick ≤ t0 + 24000000000) ∧
  (∃ (s : State) (v : Word), s.hostMay SYS_RESET ∧ wordOk SYS_RESET v.toNat = true ∧ v.toNat % 65536 = 0xDA57 ∧
    ((s.inNight = true ∨ s.inMorning = true ∧ (s.atFrame = true → s.pw.decided = none → ∀ x, s.pw.want ≠ some (2, x))))) ∧
  (∃ (s : State) (v : Word) (x : Nat × Nat), s.hostMay SYS_RESET ∧ wordOk SYS_RESET v.toNat = true ∧ s.inMorning = true ∧ s.atFrame = true ∧
    s.pw.decided = none ∧ s.pw.want = some (2, x)) ∧
  (∃ (s : State), s.canonical = true ∧ s.time.refWait = true) ∧
  (∃ (s : State), s.canonical = true ∧ s.time.refGone = true ∧ s.flag SYS_CLK SYS_CLK_AUTO_RET = true) ∧
  (∃ (s : State), s.canonical = true ∧ s.time.refWait = true) ∧
  (∃ (s : State) (v : Word), s.canonical = true ∧ s.hostMay SYS_CLK ∧ wordOk SYS_CLK v.toNat = true ∧ s.inMorning = true ∧ v.toNat % 4 ≠ 3) ∧
  (∃ (s : State) (t0 : Nat) (b : Bool), s.pw.restart = some (t0, b, none)) :=
  ⟨⟨W 0, by decide +kernel⟩,
   
     ⟨(mpw (W 0) fun p => { p with dram := true, tested := true }).setf SYS_STEST SYS_STEST_PASS |>.forEach (List.range 16) fun s k => s.put (LP_BANKA k) LP_BANKA_STATE 2,
     by decide +kernel⟩,
   ⟨mpw (W 2) fun p => { p with decided := some (4, 3) }, 3, by decide +kernel⟩,
   ⟨mpw (W 1) fun p => { p with want := some (2, 9, 8) }, 8, 9, by decide +kernel⟩,
   ⟨mpw (W 2) fun p => { p with want := some (1, 9, 8) }, 8, 9, by decide +kernel⟩,
   ⟨({ W 2 with events := [⟨.globalFault, 0, 0, 0⟩] } : State), by decide +kernel⟩,
   ⟨W 1, by decide +kernel⟩,
   ⟨mpw (W 1) fun p => { p with wdFirst := some 0 }, 0, by decide +kernel⟩,
   ⟨W 4, 0xDA57, ⟨by decide +kernel, by decide +kernel⟩, by decide +kernel, by decide +kernel, Or.inl (by decide +kernel)⟩,
   ⟨mpw (W 1) fun p => { p with want := some (2, 9, 8) }, 0xDA57, (9, 8), ⟨by decide +kernel, by decide +kernel⟩, by decide +kernel,
     by decide +kernel, by decide +kernel, by decide +kernel, by decide +kernel⟩,
   ⟨mtm (W 1) fun t => { t with refWait := true }, by decide +kernel⟩,
   ⟨(mtm (W 1) fun t => { t with refGone := true }).setf SYS_CLK SYS_CLK_AUTO_RET, by decide +kernel⟩,
   ⟨mtm (W 1) fun t => { t with refWait := true }, by decide +kernel⟩,
   ⟨W 1, 0x49, by decide +kernel, ⟨by decide +kernel, by decide +kernel⟩, by decide +kernel, by decide +kernel, by decide +kernel⟩,
   ⟨mpw (W 1) fun p => { p with restart := some (0, true, none) }, 0, true, by decide +kernel⟩⟩

/-- States and operands that meet the hypotheses of each clause of Bar0CommandsComplete. -/
theorem witness_Bar0CommandsComplete :
  (∃ (s : State) (a : BitVec 24) (h : Hit), s.pw.phase = .running ∧ a.toNat % 4 = 0 ∧ regHit a.toNat = some h ∧ h.reg.wide = true ∧
    h.high = false) ∧
  (∃ (s : State) (r : Fin 10) (a : BitVec 24) (h : Hit) (v : Word64), s.pw.phase = .running ∧ a.toNat % 4 = 0 ∧ regHit a.toNat = some h ∧
    h.reg.wide = true ∧ h.high = true ∧ (s.reqOf r).latch = some (a.toNat - 4, v)) ∧
  (∃ (s : State) (r : Fin 10) (a : BitVec 24) (h : Hit), s.pw.phase = .running ∧ a.toNat % 4 = 0 ∧ regHit a.toNat = some h ∧
    h.reg.wide = true ∧ h.high = true ∧ (s.reqOf r).latch = none) ∧
  (∃ (s : State) (r : Fin 10) (a : BitVec 24) (v : Word) (h : Hit), s.pw.phase = .running ∧ a.toNat % 4 = 0 ∧ regHit a.toNat = some h ∧
    h.reg.wide = true ∧ h.high = false ∧ s.classOk r h = true ∧ h.reserved v.toNat = false) ∧
  (∃ (s : State) (r : Fin 10) (a : BitVec 24) (v : Word) (lo : Word) (h : Hit), s.pw.phase = .running ∧ a.toNat % 4 = 0 ∧
    regHit a.toNat = some h ∧ h.reg.wide = true ∧ h.high = true ∧ s.classOk r h = true ∧ h.reserved (v.toNat * 2 ^ 32) = false ∧
    (s.reqOf r).hold = some (a.toNat - 4, lo)) ∧
  (∃ (s : State) (a : BitVec 24) (odd : Bool), s.canonical = true ∧ s.pw.phase = .running ∧ (odd = true ∨ isUnmapped a.toNat = true)) ∧
  (∃ (s : State) (a : BitVec 24) (odd : Bool), s.pw.phase = .running ∧ (odd = true ∨ isUnmapped a.toNat = true)) ∧
  (∃ (s : State) (r : Fin 10) (a : BitVec 24) (v : Word) (h : Hit), s.pw.phase = .running ∧ a.toNat % 4 = 0 ∧ regHit a.toNat = some h ∧
    h.reg.wide = false ∧ h.high = false ∧ s.classOk r h = true ∧ h.reserved v.toNat = false) ∧
  (∃ (s : State) (r : Fin 10), s.canonical = true ∧ s.pw.phase = .running ∧ s.mayWrite r SYS_BADACC = true) ∧
  (∃ (s : State) (o : BitVec 28) (data : List Byte), data ≠ [] ∧ o.toNat % 64 + data.length ≤ 64 ∧ 12 ≤ s.get HOST_B2PAGE HOST_B2PAGE_V) ∧
  (∃ (s : State) (o : BitVec 28) (data : List Byte), data ≠ [] ∧ o.toNat % 64 + data.length ≤ 64 ∧ s.get HOST_B2PAGE HOST_B2PAGE_V < 12) :=
  ⟨⟨W 1, 0x41050, hit 0x41050, by decide +kernel⟩,
   
     ⟨({ W 1 with reqs := vmod (W 1).reqs 0 fun q => { q with latch := some (0x41050, 0x700000000) } } : State), 0, 0x41054, hit 0x41054, 0x700000000,
     by decide +kernel⟩,
   ⟨W 1, 0, 0x41054, hit 0x41054, by decide +kernel⟩,
   ⟨W 1, 0, 0x41050, 5, hit 0x41050, by decide +kernel⟩,
   ⟨({ W 1 with reqs := vmod (W 1).reqs 0 fun q => { q with hold := some (0x41050, 9) } } : State), 0, 0x41054, 1, 9, hit 0x41054,
     by decide +kernel⟩,
   ⟨W 1, 0x3, false, by decide +kernel⟩,
   ⟨W 1, 0x3, false, by decide +kernel⟩,
   ⟨W 1, 0, 0x41000, 0x4000, hit 0x41000, by decide +kernel⟩,
   ⟨W 1, 0, by decide +kernel⟩,
   ⟨(W 1).wrN HOST_B2PAGE 12, 0x40, [1, 2, 3], by decide +kernel⟩,
   ⟨(W 1).wrN HOST_B2PAGE 11, 0x40, [1, 2, 3], by decide +kernel⟩⟩

/-- States and operands that meet the hypotheses of each clause of RingCommandsComplete. -/
theorem witness_RingCommandsComplete :
  (∃ (s : State) (n : Fin 128) (v : Word), s.canonical = true ∧ s.hostMay (RING_CFG n) ∧ wordOk (RING_CFG n) v.toNat = true ∧
    nbit v.toNat 31 = true ∧ nbits v.toNat 27 26 = 0 ∧ depthOk (v.toNat % 8192) = true ∧ v.toNat % 8192 ≠ 0 ∧ s.ringOn n = false ∧
    s.flag (RING_STAT n) RING_STAT_ACTIVE = false) ∧
  (∃ (s : State) (n : Fin 128) (v : Word), s.hostMay (RING_CFG n) ∧ wordOk (RING_CFG n) v.toNat = true ∧ nbit v.toNat 31 = false ∧
    s.ringOn n = true) ∧
  (∃ (s : State) (n : Fin 128) (v : Word), s.canonical = true ∧ s.hostMay (RING_TAIL n) ∧ wordOk (RING_TAIL n) v.toNat = true ∧
    s.ringMode n ≠ 1 ∧ s.flag HOST_WDT HOST_WDT_KICKDB = false ∧ count16 (v.toNat % 65536) (s.cqHead n) ≤ s.ringDepth n) ∧
  (∃ (s : State) (n : Fin 128) (bus : List Byte), s.canonical = true ∧ s.ringNext = some n.val ∧ s.flag (RING_CFG n) RING_CFG_LOC = false ∧
    bus.length = 64 ∧ s.flag (RING_CFG n) RING_CFG_CRCREQ = false ∧ nbit (eFlags bus) 0 = false ∧ eReserved bus = false ∧
    ((∀ i ∈ s.inflight, i.peer = none → i.tag % 4096 ≠ eTag bus % 4096)) ∧ (s.ring n).hq = false) ∧
  (∃ (s : State) (c : Completion) (rest : List Completion), s.completions = c :: rest ∧ c.dup = false ∧ c.peer = none ∧ c.ring < 128 ∧
    (∃ i ∈ s.inflight, i.tag = c.tag) ∧ ((∀ i ∈ s.inflight, i.tag = c.tag → i.drop = false))) ∧
  (∃ (s : State) (n : Fin 128), s.get (RING_IMOD n) RING_IMOD_ITIME ≠ 0 ∧ (s.ring n).unsig ≠ 0 ∧ (s.ring n).hq = false ∧
    s.flag (MSIX_CTRL n) MSIX_CTRL_MASK = false) ∧
  (∃ (s : State), s.canonical = true) ∧
  (∃ (s : State), s.canonical = true) ∧
  (∃ (a : Word), 0x80000000 ≤ a.toNat ∧ a.toNat < 0xC0000000 ∧ a.toNat % 4 = 0) :=
  ⟨⟨W 1, 1, 0x80000010, by decide +kernel, ⟨by decide +kernel, by decide +kernel⟩, by decide +kernel, by decide +kernel, by decide +kernel,
     by decide +kernel, by decide +kernel, by decide +kernel, by decide +kernel⟩,
   ⟨ringOnS 0 0, 1, 16, ⟨by decide +kernel, by decide +kernel⟩, by decide +kernel, by decide +kernel, by decide +kernel⟩,
   ⟨ringOnS 0 0, 1, 2, by decide +kernel, ⟨by decide +kernel, by decide +kernel⟩, by decide +kernel, by decide +kernel, by decide +kernel,
     by decide +kernel⟩,
   ⟨ringOnS 0 0, 1, zeros 64, by decide +kernel⟩,
   
     ⟨({ ringOnS 0 0 with inflight := [{ tag := 1, opcode := 0, ring := 1 }], completions := [{ tag := 1, status := .ok, opcode := 0, ring := 1, sqidx := 0, dup := false, r0 := 0, r1 := 0, r2 := 0, raddr := 0, rlen := 0, data := [] }] } : State), { tag := 1, status := .ok, opcode := 0, ring := 1, sqidx := 0, dup := false, r0 := 0, r1 := 0, r2 := 0, raddr := 0, rlen := 0, data := [] }, [],
     by decide +kernel⟩,
   
     ⟨mhost ((ringOnS 0 0).wrN (RING_IMOD 1) 0x00050005) fun h => { h with rings := vmod h.rings 1 fun r => { r with unsig := 1, unsigAt := 3 } }, 1,
     by decide +kernel⟩,
   ⟨({ ringOnS 0 0 with inflight := [{ tag := 1, opcode := 0, ring := 1 }, { tag := 2, opcode := 0, ring := 1, started := false }] } : State),
     by decide +kernel⟩,
   ⟨({ ringOnS 0 0 with inflight := [{ tag := 1, opcode := 0, ring := 1 }, { tag := 2, opcode := 0, ring := 1, started := false }] } : State),
     by decide +kernel⟩,
   ⟨0x80000010, by decide +kernel⟩⟩

/-- States and operands that meet the hypotheses of each clause of HostLinkCommandsComplete. -/
theorem witness_HostLinkCommandsComplete :
  (∃ (a : Word), 0x80000000 ≤ a.toNat ∧ a.toNat < 0xC0000000) ∧
  (∃ (s : State), s.hostMay HOST_KICK) ∧
  (∃ (s : State), s.get HOST_WDT HOST_WDT_TIMEOUT ≠ 0 ∧ s.host.wdOff = false) ∧
  (∃ (s : State), s.canonical = true ∧ s.hostMay HOST_CMD) ∧
  (∃ (s : State) (n : Fin 128) (e : List Byte), s.canonical = true ∧ s.ringOn n = true ∧ s.ringMode n = 1 ∧ s.ringHead n ≠ s.ringTail n ∧
    s.get (RING_BIND n) RING_BIND_UNIT < 80 ∧ (s.mo (s.get (RING_BIND n) RING_BIND_UNIT)).points.length ≤ 62 ∧
    s.get (RING_BIND n) RING_BIND_LOWAT = 0 ∧ nbit (bU (e.take 32) 16 1) 0 = true ∧ nbit (bU (e.drop 32) 16 1) 0 = false ∧
    (s.ring n).lastFrame = none) ∧
  
    (∃ (s : State) (n : Fin 128) (port : Nat) (st : Nat) (seq : Nat) (off : Int) (delay : Int) (rest : List (Nat × Int × Int × Nat × Nat)), s.ringOn n = true ∧
    s.ringMode n = 2 ∧ s.get (RING_BIND n) RING_BIND_UNIT = 0x10 ∧ s.nw.ptp.recs = (port, off, delay, st, seq) :: rest ∧
    1 ≤ s.ringDepth n - count16 (s.cqTail n) (s.cqHead n)) ∧
  (∃ (s : State), s.canonical = true ∧ s.pw.phase = .running) :=
  ⟨⟨0x80000010, by decide +kernel⟩,
   ⟨W 1, ⟨by decide +kernel, by decide +kernel⟩⟩,
   ⟨(W 1).wrN HOST_WDT 0x10000, by decide +kernel⟩,
   ⟨ringOnS 0 0, by decide +kernel, ⟨by decide +kernel, by decide +kernel⟩⟩,
   ⟨ringOnS 1 3, 1, leBytes 8 5 ++ leBytes 8 77 ++ leBytes 16 1 ++ zeros 32, by decide +kernel⟩,
   ⟨({ ringOnS 2 0x10 with nw := { (W 1).nw with ptp := { (W 1).nw.ptp with recs := [(1, 5, 6, 7, 8)] } } } : State), 1, 1, 7, 8, 5, 6, [],
     by decide +kernel⟩,
   ⟨W 1, by decide +kernel⟩⟩

/-- States and operands that meet the hypotheses of each clause of BoundaryCommandsComplete. -/
theorem witness_BoundaryCommandsComplete :
  (∃ (s : State), s.pw.phase = .running ∧ s.time.stepPend = none) ∧
  (∃ (s : State) (v : Word), s.hostMay TB_FRAME ∧ wordOk TB_FRAME v.toNat = true) ∧
  (∃ (s : State) (n : Fin 80), s.pw.phase = .running ∧ (s.grid n).posDue = false ∧ (s.nextBoundary n (s.posCells n)).1 ≤ s.time.frameNum) ∧
  (∃ (s : State) (n : Fin 32), s.pw.phase = .running ∧ (s.grid n).velDue = false ∧ (s.nextBoundary n (s.velCells n)).1 ≤ s.time.frameNum) ∧
  (∃ (s : State) (n : Fin 32), s.pw.phase = .running ∧ (s.grid n).curDue = false ∧ (s.nextBoundary n 1).1 ≤ s.time.frameNum) ∧
  (∃ (s : State) (n : Fin 80), s.gridStale n = true ∧ s.atFrame = true) :=
  ⟨⟨W 2, by decide +kernel⟩,
   ⟨W 1, 20, ⟨by decide +kernel, by decide +kernel⟩, by decide +kernel⟩,
   ⟨mtm (W 2) fun t => { t with frameNum := 5 }, 3, by decide +kernel⟩,
   ⟨mtm (W 2) fun t => { t with frameNum := 5 }, 3, by decide +kernel⟩,
   ⟨mtm (W 2) fun t => { t with frameNum := 5 }, 3, by decide +kernel⟩,
   ⟨(W 2).wrN (AX_TB 3) 0x00010101, 3, by decide +kernel⟩⟩

/-- States and operands that meet the hypotheses of each clause of LawRunAndTokenCommandsComplete. -/
theorem witness_LawRunAndTokenCommandsComplete :
  (∃ (s : State) (n : Fin 32) (r : RunReq) (rest : List RunReq), s.queue (s.lpOf n) = r :: rest ∧ r.kind = .pos ∧ r.axis = n ∧
    (s.lp (s.lpOf n)).run = none ∧ s.lpMode (s.lpOf n) = 1 ∧ s.isStd (s.lpOf n) (s.lpBank (s.lpOf n)) = true ∧
    ((∀ T, (s.lp (s.lpOf n)).swapWait = some T → max r.at_ (s.lp (s.lpOf n)).free < T))) ∧
  (∃ (s : State) (n : Fin 32) (r : RunReq) (rest : List RunReq), s.queue (s.lpOf n) = r :: rest ∧ r.kind = .vel ∧ r.axis = n ∧
    (s.lp (s.lpOf n)).run = none ∧ s.lpMode (s.lpOf n) = 1 ∧ s.isStd (s.lpOf n) (s.lpBank (s.lpOf n)) = true ∧
    ((∀ T, (s.lp (s.lpOf n)).swapWait = some T → max r.at_ (s.lp (s.lpOf n)).free < T))) ∧
  (∃ (s : State) (i : Fin 32) (r : RunReq) (rest : List RunReq), s.queue (s.lpOf (32 + i)) = r :: rest ∧ r.kind = .net ∧ r.axis = 32 + i.val ∧
    (s.lp (s.lpOf (32 + i))).run = none ∧ s.lpMode (s.lpOf (32 + i)) = 1 ∧ s.isStd (s.lpOf (32 + i)) (s.lpBank (s.lpOf (32 + i))) = true ∧
    ((∀ T, (s.lp (s.lpOf (32 + i))).swapWait = some T → max r.at_ (s.lp (s.lpOf (32 + i))).free < T))) ∧
  (∃ (s : State) (j : Fin 16) (r : RunReq) (rest : List RunReq), s.queue (s.lpOf (64 + j)) = r :: rest ∧ r.kind = .virt ∧
    r.axis = 64 + j.val ∧ (s.lp (s.lpOf (64 + j))).run = none ∧ s.lpMode (s.lpOf (64 + j)) = 1 ∧
    s.isStd (s.lpOf (64 + j)) (s.lpBank (s.lpOf (64 + j))) = true ∧ ((∀ T, (s.lp (s.lpOf (64 + j))).swapWait = some T →
    max r.at_ (s.lp (s.lpOf (64 + j))).free < T))) ∧
  (∃ (s : State) (k : Fin 16) (r : RunReq) (rest : List RunReq), s.queue k = r :: rest ∧ r.kind = .overhead ∧ r.axis = k ∧
    (s.lp k).run = none ∧ s.lpMode k = 1 ∧ s.isStd k (s.lpBank k) = true ∧ ((∀ T, (s.lp k).swapWait = some T →
    max r.at_ (s.lp k).free < T))) ∧
  (∃ (s : State) (k : Fin 16) (r : RunReq) (rest : List RunReq) (T : Nat), s.queue k = r :: rest ∧ r.kind = .overhead ∧ r.axis = k ∧
    (s.lp k).run = none ∧ s.lpMode k = 1 ∧ (s.lp k).sh = false ∧ (s.lp k).swapWait = some T ∧ T ≤ max r.at_ (s.lp k).free) ∧
  (∃ (s : State) (n : Fin 32) (r : RunReq) (rest : List RunReq), s.queue (s.lpOf n) = r :: rest ∧ r.kind = .pos ∧ r.axis = n ∧
    (s.lp (s.lpOf n)).run = none ∧ s.lpMode (s.lpOf n) = 1 ∧ s.isStd (s.lpOf n) (s.lpBank (s.lpOf n)) = false ∧
    (s.lp (s.lpOf n)).swapWait = none) ∧
  (∃ (s : State) (n : Fin 80), s.lpMode (s.lpOf n) ≠ 2) ∧
  (∃ (s : State) (n : Fin 80), s.lpMode (s.lpOf n) = 2 ∧ s.running = true ∧ (s.loop n).posAt ≠ some (s.loop n).inp.b) ∧
  (∃ (s : State) (n : Fin 80), n.val < 64 ∧ s.lpMode (s.lpOf n) = 2 ∧ s.running = true ∧ (s.loop n).posAt ≠ some (s.loop n).inp.b ∧
    (s.loop n).enabled = true ∧ (s.loop n).inp.posValid = false) ∧
  (∃ (s : State) (n : Fin 80), s.canonical = true ∧ s.hostMay (AX_LATE n)) ∧
  (∃ (s : State) (k : Fin 8), s.canonical = true ∧ s.hostMay (CTOK_CTRL k) ∧ s.tokState k ≠ 1 ∧ s.flag (CTOK_CTRL k) CTOK_CTRL_NEXT = false ∧
    s.nextFrame.1 ≤ s.rd64N (CTOK_TARGET k) ∧ s.tokenLead ≤ s.ticksTo (s.rd64N (CTOK_TARGET k)) ∧ s.tokUnready k = false) ∧
  (∃ (s : State) (k : Fin 8), s.canonical = true ∧ s.hostMay (CTOK_CTRL k) ∧ s.tokState k ≠ 1 ∧ s.flag (CTOK_CTRL k) CTOK_CTRL_NEXT = false ∧
    s.rd64N (CTOK_TARGET k) < s.nextFrame.1) ∧
  (∃ (s : State) (k : Fin 8), s.canonical = true ∧ s.hostMay (CTOK_CTRL k) ∧ s.tokState k = 1 ∧ s.tokenLead ≤ s.ticksTo (vget s.time.tok k 0)) ∧
  (∃ (s : State) (k : Fin 8), s.canonical = true ∧ s.tokState k = 1 ∧ vget s.time.tok k 0 ≤ s.time.frameNum ∧ s.atFrame = true ∧
    s.leaving = true) ∧
  (∃ (s : State) (k : Fin 8), s.canonical = true ∧ s.tokState k = 1 ∧ vget s.time.tok k 0 ≤ s.time.frameNum ∧
    (s.atFrame && s.leaving) = false) :=
  ⟨⟨runS .pos 3 ((W 2).lpOf 3), 3, { kind := .pos, axis := 3, at_ := 5, b := 160, due := 9999999 }, [], by decide +kernel⟩,
   ⟨runS .vel 3 ((W 2).lpOf 3), 3, { kind := .vel, axis := 3, at_ := 5, b := 160, due := 9999999 }, [], by decide +kernel⟩,
   ⟨runS .net 35 ((W 2).lpOf 35), 3, { kind := .net, axis := 35, at_ := 5, b := 160, due := 9999999 }, [], by decide +kernel⟩,
   ⟨runS .virt 67 ((W 2).lpOf 67), 3, { kind := .virt, axis := 67, at_ := 5, b := 160, due := 9999999 }, [], by decide +kernel⟩,
   ⟨runS .overhead 2 2, 2, { kind := .overhead, axis := 2, at_ := 5, b := 160, due := 9999999 }, [], by decide +kernel⟩,
   
     ⟨mlp (runS .overhead 2 2) 2 fun l => { l with swapWait := some 4 }, 2, { kind := .overhead, axis := 2, at_ := 5, b := 160, due := 9999999 }, [], 4,
     by decide +kernel⟩,
   
     ⟨mlp (runS .pos 3 ((W 2).lpOf 3)) ((W 2).lpOf 3) fun l => { l with stdA := false }, 3, { kind := .pos, axis := 3, at_ := 5, b := 160, due := 9999999 }, [],
     by decide +kernel⟩,
   ⟨W 2, 3, by decide +kernel⟩,
   ⟨(W 2).put (LP_STAT ((W 2).lpOf 3)) LP_STAT_MODE 2, 3, by decide +kernel⟩,
   ⟨mloop ((W 2).put (LP_STAT ((W 2).lpOf 3)) LP_STAT_MODE 2) 3 fun l => { l with enabled := true }, 3, by decide +kernel⟩,
   ⟨(W 2).wrN (AX_LATE 3) 0x00050005, 3, by decide +kernel, ⟨by decide +kernel, by decide +kernel⟩⟩,
   ⟨(W 2).wrN (CTOK_TARGET 1) 3, 1, by decide +kernel, ⟨by decide +kernel, by decide +kernel⟩, by decide +kernel, by decide +kernel,
     by decide +kernel, by decide +kernel, by decide +kernel⟩,
   ⟨W 2, 1, by decide +kernel, ⟨by decide +kernel, by decide +kernel⟩, by decide +kernel, by decide +kernel, by decide +kernel⟩,
   ⟨(((mtm (W 2) fun t => { t with tok := vmod t.tok 1 fun _ => 9 }).put (CTOK_CTRL 1) CTOK_CTRL_STATE 1)), 1,
     by decide +kernel, ⟨by decide +kernel, by decide +kernel⟩, by decide +kernel, by decide +kernel⟩,
   
     ⟨mpw (mtm (W 2) fun t => { t with tok := vmod t.tok 1 fun _ => 0 }) (fun p => { p with decided := some (3, 1) }) |>.put (CTOK_CTRL 1) CTOK_CTRL_STATE 1, 1,
     by decide +kernel⟩,
   ⟨(mtm (W 2) fun t => { t with tok := vmod t.tok 1 fun _ => 0 }).put (CTOK_CTRL 1) CTOK_CTRL_STATE 1, 1, by decide +kernel⟩⟩

/-- States and operands that meet the hypotheses of each clause of SwitchCommandsComplete. -/
theorem witness_SwitchCommandsComplete :
  (∃ (s : State) (p : Fin 4) (f : EthFrame), p.val ≠ 0 ∧ s.linkUp? p = true ∧ f.len ≤ 2048 ∧ f.fcsOk = true ∧ f.kind = .other ∧
    f.rtag = none ∧ f.dst = Config.macAddress ∧ s.flag (MS_CFG p) MS_CFG_EN = false) ∧
  (∃ (s : State) (p : Fin 4) (f : EthFrame), s.canonical = true ∧ p.val ≠ 0 ∧ s.linkUp? p = true ∧ 2048 < f.len) ∧
  (∃ (s : State) (c : Fin 8) (p : Fin 3) (f : EthFrame) (rest : List EthFrame), vget (s.gcl (p + 1)).queues c [] = f :: rest ∧
    s.linkUp? (p + 1) = true ∧ (s.gcl (p + 1)).busy ≤ s.now ∧ (s.gcl (p + 1)).count = 0 ∧ ((∀ k : Fin 8, c < k →
    vget (s.gcl (p + 1)).queues k [] = [])) ∧ s.flag (MS_CFG (p + 1)) MS_CFG_EN = false ∧ f.kind = .other) ∧
  (∃ (s : State) (p : Fin 3), (s.gcl (p + 1)).count ≠ 0) ∧
  (∃ (s : State) (p : Fin 3), (s.gcl (p + 1)).idx + 1 < (s.gcl (p + 1)).count ∧
    s.entryEnd (p + 1) < (s.gcl (p + 1)).cycAt + 32 * (s.gcl (p + 1)).cycle) ∧
  (∃ (s : State) (p : Fin 3), s.canonical = true ∧ s.hostMay (GCL_CTRL (p + 1)) ∧
    (∀ i < s.get (GCL_CTRL (p + 1)) GCL_CTRL_COUNT, 0 < (s.rd (GCL_ADM (p + 1) i)).toNat % 2 ^ 21 ∧
    (s.rd (GCL_ADM (p + 1) i)).toNat % 2 ^ 21 ≤ 1600000)) ∧
  (∃ (s : State) (p : Fin 3) (i : Nat), s.canonical = true ∧ s.hostMay (GCL_CTRL (p + 1)) ∧ i < s.get (GCL_CTRL (p + 1)) GCL_CTRL_COUNT ∧
    1600000 < (s.rd (GCL_ADM (p + 1) i)).toNat % 2 ^ 21) ∧
  (∃ (s : State) (p : Fin 3) (base : Nat) (cycle : Nat) (least : Nat) (adm : List Word), s.canonical = true ∧
    (s.gcl (p + 1)).pend = some (base, cycle, adm, least)) ∧
  (∃ (s : State) (i : Fin 64) (r : FrerSt), s.canonical = true ∧ s.nw.frer[i.val]? = some r ∧ r.takeAny = false) ∧
  (∃ (s : State) (p : Fin 3) (speed : Fin 4), s.canonical = true ∧ s.flag (PORT_CFG (p + 1)) PORT_CFG_EN = true ∧ speed.val = 1 ∧
    nbit (s.get (PORT_CFG (p + 1)) PORT_CFG_ADV) 0 = true ∧ s.flag (PORT_CFG (p + 1)) PORT_CFG_LATLOCK = false) ∧
  (∃ (s : State) (p : Fin 3), s.canonical = true ∧ s.flag (PORT_STAT (p + 1)) PORT_STAT_LINK = true) :=
  ⟨⟨up 2, 2, frm, by decide +kernel, by decide +kernel, by decide +kernel, by decide +kernel, by decide +kernel, by decide +kernel, rfl,
     by decide +kernel⟩,
   ⟨up 2, 2, { frm with len := 3000 }, by decide +kernel⟩,
   ⟨mgcl (up 2) 2 fun g => { g with queues := vmod g.queues 3 fun _ => [{ dst := 7, src := 5 }] }, 3, 1, { dst := 7, src := 5 }, [],
     by decide +kernel⟩,
   ⟨mgcl (W 2) 2 fun g => { g with count := 3 }, 1, by decide +kernel⟩,
   ⟨(mgcl (W 2) 2 fun g => { g with count := 3 }).wrN (GCL_OPER 2 0) 100, 1, by decide +kernel⟩,
   ⟨(((W 2).put (GCL_CTRL 2) GCL_CTRL_COUNT 1).wrN (GCL_ADM 2 0) 100), 1, by decide +kernel, ⟨by decide +kernel, by decide +kernel⟩,
     by decide +kernel⟩,
   ⟨(((W 2).put (GCL_CTRL 2) GCL_CTRL_COUNT 1).wrN (GCL_ADM 2 0) 1700000), 1, 0, by decide +kernel, ⟨by decide +kernel, by decide +kernel⟩,
     by decide +kernel, by decide +kernel⟩,
   ⟨mgcl (W 2) 2 fun g => { g with pend := some (0, 100, [5], 50) }, 1, 0, 100, 50, [5], by decide +kernel⟩,
   
     ⟨(W 2).modNw fun w => { w with frer := [{ dst := 5, vid := 7, takeAny := false, at_ := 3 }] }, 0, { dst := 5, vid := 7, takeAny := false, at_ := 3 },
     by decide +kernel⟩,
   ⟨(((W 2).setf (PORT_CFG 2) PORT_CFG_EN).put (PORT_CFG 2) PORT_CFG_ADV 1).clrf (PORT_CFG 2) PORT_CFG_LATLOCK, 1, 1, by decide +kernel⟩,
   ⟨up 2, 1, by decide +kernel⟩⟩

/-- States and operands that meet the hypotheses of each clause of NetworkTimeCommandsComplete. -/
theorem witness_NetworkTimeCommandsComplete :
  (∃ (s : State) (v : Word), s.canonical = true ∧ s.hostMay NT_TRIM ∧ wordOk NT_TRIM v.toNat = true ∧ s.isWatch = false) ∧
  (∃ (s : State), s.hostMay NT_CTRL ∧ s.isWatch = false ∧ s.time.stepPend = none) ∧
  (∃ (s : State), s.hostMay NT_CTRL ∧ s.isWatch = false ∧ s.inMorning = true) ∧
  (∃ (s : State), s.hostMay NT_CTRL ∧ s.isWatch = false ∧ s.inMorning = false) ∧
  (∃ (s : State), s.canonical = true ∧ s.flag NT_UTC NT_UTC_LEAP61 = true ∧ s.flag NT_UTC NT_UTC_LEAP59 = false) ∧
  (∃ (s : State), s.pw.fwRun = true ∧ s.isWatch = false ∧ s.ptpHost = true) ∧
  (∃ (s : State) (o : Word64), s.canonical = true ∧ s.pw.fwRun = true ∧ s.isWatch = false ∧ s.ptpHost = false ∧ s.time.stepPend = none ∧
    (s.nw.ptp.thr : Int) * 65536 < absI o.toInt) ∧
  (∃ (s : State), s.pw.fwRun = false) ∧
  (∃ (s : State), s.canonical = true) ∧
  (∃ (s : State), s.canonical = true ∧ s.ptpHost = true ∧ s.get NT_SRVTO NT_SRVTO_V ≠ 0 ∧ s.flag NT_STAT NT_STAT_SRV_LATE = false) ∧
  (∃ (s : State), s.flag NT_PPSCFG NT_PPSCFG_PPSEN = true ∧ s.time.stepPend = none) ∧
  (∃ (s : State), s.nw.ptp.ppsOn = true) ∧
  (∃ (s : State), s.canonical = true ∧ s.flag NT_PPSCFG NT_PPSCFG_PPSDISC = false) ∧
  (∃ (s : State), s.canonical = true ∧ s.flag NT_PPSCFG NT_PPSCFG_PPSDISC = true ∧ s.flag NT_STAT NT_STAT_GM = true ∧ s.pw.fwRun = true) :=
  ⟨⟨W 2, 0x7FFFFFFF, by decide +kernel, ⟨by decide +kernel, by decide +kernel⟩, by decide +kernel, by decide +kernel⟩,
   ⟨W 2, ⟨by decide +kernel, by decide +kernel⟩, by decide +kernel, by decide +kernel⟩,
   ⟨W 1, ⟨by decide +kernel, by decide +kernel⟩, by decide +kernel, by decide +kernel⟩,
   ⟨W 2, ⟨by decide +kernel, by decide +kernel⟩, by decide +kernel, by decide +kernel⟩,
   ⟨(W 2).setf NT_UTC NT_UTC_LEAP61, by decide +kernel⟩,
   ⟨(W 2).wrN SYS_HAMODE 2, by decide +kernel⟩,
   ⟨W 2, 0xF000000000000000, by decide +kernel⟩,
   ⟨mpw (W 2) fun p => { p with fwRun := false }, by decide +kernel⟩,
   ⟨W 2, by decide +kernel⟩,
   ⟨((W 2).wrN SYS_HAMODE 2).put NT_SRVTO NT_SRVTO_V 3, by decide +kernel⟩,
   ⟨(W 2).setf NT_PPSCFG NT_PPSCFG_PPSEN, by decide +kernel⟩,
   ⟨mptp (W 2) fun p => { p with ppsOn := true }, by decide +kernel⟩,
   ⟨W 2, by decide +kernel⟩,
   ⟨((W 2).setf NT_PPSCFG NT_PPSCFG_PPSDISC).setf NT_STAT NT_STAT_GM, by decide +kernel⟩⟩

/-- States and operands that meet the hypotheses of each clause of PwmCommandsComplete. -/
theorem witness_PwmCommandsComplete :
  (∃ (s : State) (n : Fin 32), s.hostMay (PWM_COMMIT n) ∧ (s.pwm n).fly = none ∧ (s.pwm n).caps = []) ∧
  (∃ (s : State) (n : Fin 32), s.hostMay (PWM_COMMIT n) ∧ s.tokenHolds CTOK_PWM n = none ∧ (s.pwm n).fly = none ∧ (s.pwm n).caps = []) ∧
  (∃ (s : State) (n : Fin 32) (k : Nat), s.canonical = true ∧ s.hostMay (PWM_COMMIT n) ∧ s.tokenHolds CTOK_PWM n = some k) ∧
  (∃ (s : State) (j : Fin 8), s.hostMay (PWMX_COMMIT j) ∧ s.standalone j = true ∧ (s.pwm (32 + j)).fly = none ∧ (s.pwm (32 + j)).caps = []) ∧
  (∃ (s : State) (j : Fin 8), s.hostMay (PWMX_COMMIT j) ∧ s.standalone j = false) ∧
  (∃ (s : State) (g : Fin 40), s.pw.phase = .running ∧ g.val < 32 ∧ (s.pwm g).caps ≠ [] ∧ (s.nextBoundary g 1).1 ≤ s.time.frameNum) ∧
  (∃ (s : State) (j : Fin 8), s.freeRun (32 + j) = true ∧ (s.pwm (32 + j)).startAt = none ∧ s.stopped (32 + j) = false) ∧
  (∃ (s : State) (k : Fin 16), s.pw.phase = .running ∧ s.rd (ATC_CFG k) ≠ s.ard (ATC_CFG k) ∧ s.get (ATC_CFG k) ATC_CFG_SRC < 32 ∧
    (s.nextBoundary (s.get (ATC_CFG k) ATC_CFG_SRC) 1).1 ≤ s.time.frameNum) ∧
  (∃ (s : State) (g : Fin 40) (i : Fin 4) (x : Nat) (hi : Bool), (s.leg g i).due = some (x, hi) ∧ (s.leg g i).edges = [] ∧
    ((s.stopped g = false → x < (s.pwm g).b0 + (s.pwm g).span))) ∧
  (∃ (s : State) (g : Fin 40) (i : Fin 4) (x : Nat) (on : Bool) (rest : List (Nat × Bool)), (s.leg g i).due = none ∧
    (s.leg g i).edges = (x, on) :: rest ∧ (s.pwm g).drv = true ∧ (s.pwm g).cut = false ∧ ((s.stopped g = false →
    x < (s.pwm g).b0 + (s.pwm g).span))) ∧
  (∃ (s : State) (n : Fin 32), s.canonical = true ∧ s.hostMay (PWM_CMD n)) ∧
  (∃ (s : State) (n : Fin 32), s.canonical = true ∧ s.hostMay (PWM_CMD n)) ∧
  (∃ (s : State) (j : Fin 8), s.canonical = true ∧ s.hostMay (PWMX_CMD j)) ∧
  (∃ (s : State) (j : Fin 8), s.hostMay (PWMX_CMD j)) :=
  ⟨⟨(W 2).modPwm 3 fun q => { q with cmpPart := [PWM_CMPU 3], fieldPart := [PWM_PER 3] }, 3, ⟨by decide +kernel, by decide +kernel⟩,
     by decide +kernel, by decide +kernel⟩,
   ⟨(W 2).modPwm 3 fun q => { q with cmpPart := [PWM_CMPU 3], fieldPart := [PWM_PER 3] }, 3, ⟨by decide +kernel, by decide +kernel⟩,
     by decide +kernel, by decide +kernel, by decide +kernel⟩,
   ⟨(((W 2).put (CTOK_CTRL 2) CTOK_CTRL_STATE 1).wrN (CTOK_PWM 2) 8), 3, 2, by decide +kernel, ⟨by decide +kernel, by decide +kernel⟩,
     by decide +kernel⟩,
   ⟨(W 2).modPwm 35 fun q => { q with cmpPart := [PWMX_CMP 3], fieldPart := [PWMX_PER 3] }, 3, ⟨by decide +kernel, by decide +kernel⟩,
     by decide +kernel, by decide +kernel, by decide +kernel⟩,
   ⟨(W 2).setf (PWMX_CFG 3) PWMX_CFG_ROLE, 3, ⟨by decide +kernel, by decide +kernel⟩, by decide +kernel⟩,
   ⟨(W 2).modPwm 3 fun q => { q with caps := [⟨0, [(PWM_CMPU 3, 9)], true⟩] }, 3, by decide +kernel⟩,
   ⟨((W 2).modPwm 35 fun q => { q with span := 640 }).clrf (PWMX_STAT 3) PWM_STAT_STOPPED, 3, by decide +kernel⟩,
   ⟨(W 2).wrN (ATC_CFG 3) 1, 3, by decide +kernel⟩,
   ⟨(W 2).modLeg 3 1 fun l => { l with due := some (64, true) }, 3, 1, 64, true, by decide +kernel⟩,
   ⟨((W 2).modPwm 3 fun q => { q with drv := true }).modLeg 3 1 fun l => { l with edges := [(64, true)] }, 3, 1, 64, true, [],
     by decide +kernel⟩,
   ⟨(W 2).wrN (PWM_STAT 3) 0x1F0, 3, by decide +kernel, ⟨by decide +kernel, by decide +kernel⟩⟩,
   ⟨(W 2).wrN (PWM_STAT 3) 0x1F0, 3, by decide +kernel, ⟨by decide +kernel, by decide +kernel⟩⟩,
   ⟨(W 2).wrN (PWM_STAT 3) 0x1F0, 3, by decide +kernel, ⟨by decide +kernel, by decide +kernel⟩⟩,
   ⟨(W 2).wrN (PWM_STAT 3) 0x1F0, 3, ⟨by decide +kernel, by decide +kernel⟩⟩⟩

/-- States and operands that meet the hypotheses of each clause of TripCommandsComplete. -/
theorem witness_TripCommandsComplete :
  (∃ (s : State) (i : Fin 36), s.tripEn i = false) ∧
  (∃ (s : State) (i : Fin 36) (lvl : Bool) (t32 : Nat), s.canonical = true ∧ s.tripEn i = true ∧ (s.trip i).level ≠ lvl ∧ lvl = s.tripPol i ∧
    (s.trip i).gap = none ∧ s.tripFilt i = 0 ∧ (s.advanceTo (t32 / 32)).blanked i = false) ∧
  (∃ (s : State) (i : Fin 36) (lvl : Bool), s.canonical = true ∧ s.tripEn i = true ∧ (s.trip i).level ≠ lvl ∧ lvl ≠ s.tripPol i) ∧
  (∃ (s : State) (i : Fin 36) (a : Nat), s.canonical = true ∧ (s.trip i).since = some a ∧ (s.trip i).det = false ∧
    (s.advanceTo ((a + 31) / 32 + (s.tripFilt i - 1))).blanked i = false) ∧
  (∃ (s : State) (k : Fin 16) (a : Nat) (b : Nat) (rest : List (Nat × Nat)), s.canonical = true ∧ (s.atc k).wins = (a, b) :: rest ∧
    (s.atc k).closeAt = none) ∧
  (∃ (s : State) (k : Fin 16) (b : Nat), s.canonical = true ∧ (s.atc k).closeAt = some b) ∧
  (∃ (s : State) (n : Fin 32), s.canonical = true ∧ s.hostMay (PWM_CMD n) ∧ (s.tripSettle n).flag (PWM_STAT n) PWM_STAT_LCAUSE = true ∧
    (s.tripSettle n).tripIn n = false ∧ (((s.tripSettle n).flag (PWM_STAT n) PWM_STAT_OCAUSE = true →
    (s.tripSettle n).ocActive n = false)) ∧ (((s.tripSettle n).flag (PWM_STAT n) PWM_STAT_SCAUSE = true →
    (s.tripSettle n).lossActive n = false))) ∧
  (∃ (s : State) (n : Fin 32), s.canonical = true ∧ s.hostMay (PWM_CMD n) ∧ (s.tripSettle n).flag (PWM_STAT n) PWM_STAT_LCAUSE = true ∧
    (s.tripSettle n).tripIn n = true) ∧
  (∃ (s : State) (k : Fin 4), s.canonical = true ∧ s.hostMay (GTRIP_CMD k) ∧
    (s.tripSettle (32 + k)).flag (GTRIP_STAT k) GTRIP_STAT_LATCHED = true ∧ (s.tripSettle (32 + k)).tripIn (32 + k) = false) ∧
  (∃ (s : State) (k : Fin 4), s.canonical = true ∧ s.hostMay (GTRIP_CMD k)) :=
  ⟨⟨(W 2).clrf (PWM_TRIP 3) PWM_TRIP_TEN, 3, by decide +kernel⟩,
   ⟨((W 2).put (PWM_TRIP 3) PWM_TRIP_TFILT 0).modTrip 3 fun x => { x with level := !((W 2).tripPol 3) }, 3, (W 2).tripPol 3, 644,
     by decide +kernel⟩,
   ⟨(W 2).modTrip 3 fun x => { x with level := (W 2).tripPol 3, since := some 3 }, 3, !((W 2).tripPol 3), by decide +kernel⟩,
   ⟨(((W 2).setf (PWM_TRIP 3) PWM_TRIP_TEN).put (PWM_TRIP 3) PWM_TRIP_TFILT 5).modTrip 3 fun x => { x with since := some 3 }, 3, 3,
     by decide +kernel⟩,
   ⟨(W 2).modAtc 3 fun x => { x with wins := [(7,9)] }, 3, 7, 9, [], by decide +kernel⟩,
   ⟨(W 2).modAtc 3 fun x => { x with closeAt := some 9 }, 3, 9, by decide +kernel⟩,
   ⟨(W 2).setf (PWM_STAT 3) PWM_STAT_LCAUSE, 3, by decide +kernel, ⟨by decide +kernel, by decide +kernel⟩, by decide +kernel,
     by decide +kernel, by decide +kernel, by decide +kernel⟩,
   ⟨((W 2).setf (PWM_STAT 3) PWM_STAT_LCAUSE).setf (PWM_STAT 3) PWM_STAT_TIN, 3, by decide +kernel, ⟨by decide +kernel, by decide +kernel⟩,
     by decide +kernel, by decide +kernel⟩,
   ⟨(W 2).setf (GTRIP_STAT 3) GTRIP_STAT_LATCHED, 3, by decide +kernel, ⟨by decide +kernel, by decide +kernel⟩, by decide +kernel,
     by decide +kernel⟩,
   ⟨(W 2).wrN (GTRIP_STAT 3) 0xFFFF, 3, by decide +kernel, ⟨by decide +kernel, by decide +kernel⟩⟩⟩

/-- States and operands that meet the hypotheses of each clause of LpAluCommandsComplete. -/
theorem witness_LpAluCommandsComplete :
  (∃ (s : State) (k : Fin 16) (mv : Move), s.lpReady k ∧ mv.kind = .none) ∧
  (∃ (s : State) (k : Fin 16), s.lpReady k) ∧
  (∃ (s : State) (k : Fin 16) (mv : Move), s.lpReady k ∧ mv.kind = .none) ∧
  (∃ (s : State) (k : Fin 16), s.lpReady k) ∧
  (∃ (s : State) (k : Fin 16) (mv : Move), s.lpReady k ∧ mv.kind = .none) ∧
  (∃ (s : State) (k : Fin 16), s.lpReady k) ∧
  (∃ (s : State) (k : Fin 16) (mv : Move), s.lpReady k ∧ mv.kind = .none) ∧
  (∃ (s : State) (k : Fin 16), s.lpReady k) ∧
  (∃ (s : State) (k : Fin 16) (mv : Move), s.lpReady k ∧ mv.kind = .none) ∧
  (∃ (s : State) (k : Fin 16), s.lpReady k) ∧
  (∃ (s : State) (k : Fin 16) (y : Fin 16) (mv : Move), s.lpReady k ∧ mv.kind = .none ∧ ((s.lpSet k).D y).toNat < 32) ∧
  (∃ (s : State) (k : Fin 16) (v : BitVec 16), s.lpReady k ∧ (imm16 v).toNat < 32) ∧
  (∃ (s : State) (k : Fin 16) (y : Fin 16) (mv : Move), s.lpReady k ∧ mv.kind = .none ∧ ((s.lpSet k).D y).toNat < 32) ∧
  (∃ (s : State) (k : Fin 16) (v : BitVec 16), s.lpReady k ∧ (imm16 v).toNat < 32) ∧
  (∃ (s : State) (k : Fin 16) (y : Fin 16) (mv : Move), s.lpReady k ∧ mv.kind = .none ∧ ((s.lpSet k).D y).toNat < 32) ∧
  (∃ (s : State) (k : Fin 16) (v : BitVec 16), s.lpReady k ∧ (imm16 v).toNat < 32) ∧
  (∃ (s : State) (k : Fin 16) (mv : Move), s.lpReady k ∧ mv.kind = .none) ∧
  (∃ (s : State) (k : Fin 16), s.lpReady k) :=
  ⟨⟨mol id, 2, mv0, by unfold State.lpReady; decide +kernel, by decide +kernel⟩,
   ⟨mol id, 2, by unfold State.lpReady; decide +kernel⟩,
   ⟨mol id, 2, mv0, by unfold State.lpReady; decide +kernel, by decide +kernel⟩,
   ⟨mol id, 2, by unfold State.lpReady; decide +kernel⟩,
   ⟨mol id, 2, mv0, by unfold State.lpReady; decide +kernel, by decide +kernel⟩,
   ⟨mol id, 2, by unfold State.lpReady; decide +kernel⟩,
   ⟨mol id, 2, mv0, by unfold State.lpReady; decide +kernel, by decide +kernel⟩,
   ⟨mol id, 2, by unfold State.lpReady; decide +kernel⟩,
   ⟨mol id, 2, mv0, by unfold State.lpReady; decide +kernel, by decide +kernel⟩,
   ⟨mol id, 2, by unfold State.lpReady; decide +kernel⟩,
   ⟨mol id, 2, 5, mv0, by unfold State.lpReady; decide +kernel, by decide +kernel, by decide +kernel⟩,
   ⟨mol id, 2, 3, by unfold State.lpReady; decide +kernel, by unfold imm16; split <;> decide⟩,
   ⟨mol id, 2, 5, mv0, by unfold State.lpReady; decide +kernel, by decide +kernel, by decide +kernel⟩,
   ⟨mol id, 2, 3, by unfold State.lpReady; decide +kernel, by unfold imm16; split <;> decide⟩,
   ⟨mol id, 2, 5, mv0, by unfold State.lpReady; decide +kernel, by decide +kernel, by decide +kernel⟩,
   ⟨mol id, 2, 3, by unfold State.lpReady; decide +kernel, by unfold imm16; split <;> decide⟩,
   ⟨mol id, 2, mv0, by unfold State.lpReady; decide +kernel, by decide +kernel⟩,
   ⟨mol id, 2, by unfold State.lpReady; decide +kernel⟩⟩

/-- States and operands that meet the hypotheses of each clause of LpMoveAluCommandsComplete. -/
theorem witness_LpMoveAluCommandsComplete :
  (∃ (s : State) (k : Fin 16) (mv : Move), s.lpReady k ∧ mv.kind = .none) ∧
  (∃ (s : State) (k : Fin 16), s.lpReady k) ∧
  (∃ (s : State) (k : Fin 16) (x : Fin 16) (mv : Move), s.lpReady k ∧ mv.kind = .none ∧ ((s.lpSet k).D x) ≠ 0x80000000) ∧
  (∃ (s : State) (k : Fin 16) (v : BitVec 16), s.lpReady k ∧ (imm16 v) ≠ 0x80000000) ∧
  (∃ (s : State) (k : Fin 16) (x : Fin 16) (mv : Move), s.lpReady k ∧ mv.kind = .none ∧ ((s.lpSet k).D x) ≠ 0x80000000) ∧
  (∃ (s : State) (k : Fin 16) (v : BitVec 16), s.lpReady k ∧ (imm16 v) ≠ 0x80000000) ∧
  (∃ (s : State) (k : Fin 16) (mv : Move), s.lpReady k ∧ mv.kind = .none) ∧
  (∃ (s : State) (k : Fin 16), s.lpReady k) ∧
  (∃ (s : State) (k : Fin 16) (mv : Move), s.lpReady k ∧ mv.kind = .none) ∧
  (∃ (s : State) (k : Fin 16), s.lpReady k) ∧
  (∃ (s : State) (k : Fin 16) (mv : Move), s.lpReady k ∧ mv.kind = .none) ∧
  (∃ (s : State) (k : Fin 16) (mv : Move), s.lpReady k ∧ mv.kind = .none) ∧
  (∃ (s : State) (k : Fin 16) (y : Fin 16) (mv : Move), s.lpReady k ∧ mv.kind = .none ∧ 32 ≤ ((s.lpSet k).D y).toNat) ∧
  (∃ (s : State) (k : Fin 16) (y : Fin 16) (mv : Move), s.lpReady k ∧ mv.kind = .none ∧ 32 ≤ ((s.lpSet k).D y).toNat) ∧
  (∃ (s : State) (k : Fin 16) (y : Fin 16) (mv : Move), s.lpReady k ∧ mv.kind = .none ∧ 32 ≤ ((s.lpSet k).D y).toNat) ∧
  (∃ (s : State) (k : Fin 16) (x : Fin 16) (mv : Move), s.lpReady k ∧ mv.kind = .none ∧ ((s.lpSet k).D x) = 0x80000000) ∧
  (∃ (s : State) (k : Fin 16) (x : Fin 16) (mv : Move), s.lpReady k ∧ mv.kind = .none ∧ ((s.lpSet k).D x) = 0x80000000) :=
  ⟨⟨mol id, 2, mv0, by unfold State.lpReady; decide +kernel, by decide +kernel⟩,
   ⟨mol id, 2, by unfold State.lpReady; decide +kernel⟩,
   ⟨mol id, 2, 4, mv0, by unfold State.lpReady; decide +kernel, by decide +kernel, by decide +kernel⟩,
   ⟨mol id, 2, 3, by unfold State.lpReady; decide +kernel, by unfold imm16; split <;> decide⟩,
   ⟨mol id, 2, 4, mv0, by unfold State.lpReady; decide +kernel, by decide +kernel, by decide +kernel⟩,
   ⟨mol id, 2, 3, by unfold State.lpReady; decide +kernel, by unfold imm16; split <;> decide⟩,
   ⟨mol id, 2, mv0, by unfold State.lpReady; decide +kernel, by decide +kernel⟩,
   ⟨mol id, 2, by unfold State.lpReady; decide +kernel⟩,
   ⟨mol id, 2, mv0, by unfold State.lpReady; decide +kernel, by decide +kernel⟩,
   ⟨mol id, 2, by unfold State.lpReady; decide +kernel⟩,
   ⟨mol id, 2, mv0, by unfold State.lpReady; decide +kernel, by decide +kernel⟩,
   ⟨mol id, 2, mv0, by unfold State.lpReady; decide +kernel, by decide +kernel⟩,
   ⟨mol id, 2, 6, mv0, by unfold State.lpReady; decide +kernel, by decide +kernel, by decide +kernel⟩,
   ⟨mol id, 2, 6, mv0, by unfold State.lpReady; decide +kernel, by decide +kernel, by decide +kernel⟩,
   ⟨mol id, 2, 6, mv0, by unfold State.lpReady; decide +kernel, by decide +kernel, by decide +kernel⟩,
   ⟨mol fun q => { q with d := q.d.set 4 0x80000000 }, 2, 4, mv0, by unfold State.lpReady; decide +kernel, by decide +kernel,
     by decide +kernel⟩,
   ⟨mol fun q => { q with d := q.d.set 4 0x80000000 }, 2, 4, mv0, by unfold State.lpReady; decide +kernel, by decide +kernel,
     by decide +kernel⟩⟩

/-- States and operands that meet the hypotheses of each clause of LpMemoryCommandsComplete. -/
theorem witness_LpMemoryCommandsComplete :
  (∃ (s : State) (k : Fin 16), s.lpReady k) ∧
  (∃ (s : State) (k : Fin 16) (x : Fin 8) (m : AMode), s.lpReady k ∧ ((s.lpSet k).addr x m).1 % 4 = 0 ∧ ((s.lpSet k).addr x m).1 < 0x20000) ∧
  (∃ (s : State) (k : Fin 16) (x : Fin 8) (m : AMode), s.lpReady k ∧ ((s.lpSet k).addr x m).1 % 4 = 0 ∧ ((s.lpSet k).addr x m).1 < 0x20000) ∧
  (∃ (s : State) (k : Fin 16) (x : Fin 8) (m : AMode), s.lpReady k ∧ ((s.lpSet k).addr x m).1 % 4 = 0 ∧ 0x40000 ≤ ((s.lpSet k).addr x m).1 ∧
    ((s.lpSet k).addr x m).1 < 0x80000) ∧
  (∃ (s : State) (k : Fin 16) (x : Fin 8) (m : AMode), s.lpReady k ∧ ((s.lpSet k).addr x m).1 % 4 = 0 ∧ 0x40000 ≤ ((s.lpSet k).addr x m).1 ∧
    ((s.lpSet k).addr x m).1 < 0x80000) ∧
  (∃ (s : State) (k : Fin 16) (x : Fin 8) (m : AMode), s.lpReady k ∧ ((s.lpSet k).addr x m).1 % 4 = 0 ∧ 0x800000 ≤ ((s.lpSet k).addr x m).1 ∧
    ((s.lpSet k).addr x m).1 < 0x1000000) ∧
  (∃ (s : State) (k : Fin 16) (x : Fin 8) (m : AMode), s.lpReady k ∧ ((s.lpSet k).addr x m).1 % 4 = 0 ∧ 0x800000 ≤ ((s.lpSet k).addr x m).1 ∧
    ((s.lpSet k).addr x m).1 < 0x1000000) ∧
  (∃ (s : State) (k : Fin 16) (x : Fin 8) (m : AMode), s.lpReady k ∧ ((s.lpSet k).addr x m).1 % 8 = 0 ∧ ((s.lpSet k).addr x m).1 < 0x20000) ∧
  (∃ (s : State) (k : Fin 16) (x : Fin 8) (m : AMode), s.lpReady k ∧ ((s.lpSet k).addr x m).1 % 8 = 0 ∧ ((s.lpSet k).addr x m).1 < 0x20000) ∧
  (∃ (s : State) (k : Fin 16) (x : Fin 8) (m : AMode), s.canonical = true ∧ s.lpReady k ∧ ((s.lpSet k).addr x m).1 % 4 ≠ 0) ∧
  (∃ (s : State) (k : Fin 16) (x : Fin 8) (m : AMode), s.canonical = true ∧ s.lpReady k ∧ ((s.lpSet k).addr x m).1 % 4 ≠ 0) ∧
  (∃ (s : State) (k : Fin 16) (m1 : Move2) (m2 : Move2), s.lpReady k ∧ m1.kind = .none ∧ m2.kind = .none) ∧
  (∃ (s : State) (k : Fin 16) (m1 : Move2) (m2 : Move2), s.lpReady k ∧ m1.kind = .load ∧ m2.kind = .none ∧
    ((s.lpSet k).X m1.x).toNat % 4 = 0 ∧ ((s.lpSet k).X m1.x).toNat < 0x20000) ∧
  (∃ (s : State) (k : Fin 16) (m1 : Move2) (m2 : Move2), s.lpReady k ∧ m1.kind = .none ∧ m2.kind = .store ∧
    ((s.lpSet k).X (m2.x + 4)).toNat % 4 = 0 ∧ ((s.lpSet k).X (m2.x + 4)).toNat < 0x20000) :=
  ⟨⟨mol id, 2, by unfold State.lpReady; decide +kernel⟩,
   ⟨mol fun q => { q with x := q.x.set 1 16 }, 2, 1, .ind, by unfold State.lpReady; decide +kernel, by decide +kernel, by decide +kernel⟩,
   ⟨mol fun q => { q with x := q.x.set 1 16 }, 2, 1, .ind, by unfold State.lpReady; decide +kernel, by decide +kernel, by decide +kernel⟩,
   ⟨mol fun q => { q with x := q.x.set 1 0x40010 }, 2, 1, .ind, by unfold State.lpReady; decide +kernel, by decide +kernel, by decide +kernel,
     by decide +kernel⟩,
   ⟨mol fun q => { q with x := q.x.set 1 0x40010 }, 2, 1, .ind, by unfold State.lpReady; decide +kernel, by decide +kernel, by decide +kernel,
     by decide +kernel⟩,
   ⟨mol fun q => { q with x := q.x.set 1 0x800010 }, 2, 1, .ind, by unfold State.lpReady; decide +kernel, by decide +kernel, by decide +kernel,
     by decide +kernel⟩,
   ⟨mol fun q => { q with x := q.x.set 1 0x800010 }, 2, 1, .ind, by unfold State.lpReady; decide +kernel, by decide +kernel, by decide +kernel,
     by decide +kernel⟩,
   ⟨mol fun q => { q with x := q.x.set 1 16 }, 2, 1, .ind, by unfold State.lpReady; decide +kernel, by decide +kernel, by decide +kernel⟩,
   ⟨mol fun q => { q with x := q.x.set 1 16 }, 2, 1, .ind, by unfold State.lpReady; decide +kernel, by decide +kernel, by decide +kernel⟩,
   ⟨mol fun q => { q with x := q.x.set 1 17 }, 2, 1, .ind, by decide +kernel, by unfold State.lpReady; decide +kernel, by decide +kernel⟩,
   ⟨mol fun q => { q with x := q.x.set 1 17 }, 2, 1, .ind, by decide +kernel, by unfold State.lpReady; decide +kernel, by decide +kernel⟩,
   ⟨mol id, 2, m20, m20, by unfold State.lpReady; decide +kernel, by decide +kernel, by decide +kernel⟩,
   ⟨mol fun q => { q with x := q.x.set 1 16 }, 2, ⟨.load, 3, 1⟩, m20, by unfold State.lpReady; decide +kernel, by decide +kernel,
     by decide +kernel, by decide +kernel, by decide +kernel⟩,
   ⟨mol fun q => { q with x := q.x.set 5 16 }, 2, m20, ⟨.store, 5, 1⟩, by unfold State.lpReady; decide +kernel, by decide +kernel,
     by decide +kernel, by decide +kernel, by decide +kernel⟩⟩

/-- States and operands that meet the hypotheses of each clause of LpSystemCommandsComplete. -/
theorem witness_LpSystemCommandsComplete :
  (∃ (s : State) (k : Fin 16) (kind : Fin 8), s.lpReady k ∧ kind.val = 0) ∧
  (∃ (s : State) (k : Fin 16) (kind : Fin 8), s.lpReady k ∧ kind.val = 1) ∧
  (∃ (s : State) (k : Fin 16) (kind : Fin 8), s.lpReady k ∧ kind.val = 2) ∧
  (∃ (s : State) (k : Fin 16) (kind : Fin 8), s.lpReady k ∧ kind.val = 4) ∧
  (∃ (s : State) (k : Fin 16) (kind : Fin 8) (d : Fin 16) (j : Fin 15), s.lpReady k ∧ kind.val = 3 ∧
    ((s.lpSet k).D d).toNat % 2 ^ 18 = 2 ^ (j.val + 3)) ∧
  (∃ (s : State) (k : Fin 16) (kind : Fin 8), s.canonical = true ∧ s.lpReady k ∧ 4 < kind.val) ∧
  (∃ (s : State) (k : Fin 16), s.lpReady k) ∧
  (∃ (s : State) (k : Fin 16), s.lpReady k) ∧
  (∃ (s : State) (k : Fin 16), s.lpReady k) ∧
  (∃ (s : State) (k : Fin 16), s.lpReady k) ∧
  (∃ (s : State) (k : Fin 16), s.lpReady k) :=
  ⟨⟨mol id, 2, 0, by unfold State.lpReady; decide +kernel, by decide +kernel⟩,
   ⟨mol id, 2, 1, by unfold State.lpReady; decide +kernel, by decide +kernel⟩,
   ⟨mol id, 2, 2, by unfold State.lpReady; decide +kernel, by decide +kernel⟩,
   ⟨mol id, 2, 4, by unfold State.lpReady; decide +kernel, by decide +kernel⟩,
   ⟨mol fun q => { q with d := q.d.set 5 64 }, 2, 3, 5, 3, by unfold State.lpReady; decide +kernel, by decide +kernel, by decide +kernel⟩,
   ⟨mol id, 2, 5, by decide +kernel, by unfold State.lpReady; decide +kernel, by decide +kernel⟩,
   ⟨mol id, 2, by unfold State.lpReady; decide +kernel⟩,
   ⟨mol id, 2, by unfold State.lpReady; decide +kernel⟩,
   ⟨mol id, 2, by unfold State.lpReady; decide +kernel⟩,
   ⟨mol id, 2, by unfold State.lpReady; decide +kernel⟩,
   ⟨mol id, 2, by unfold State.lpReady; decide +kernel⟩⟩

/-- States and operands that meet the hypotheses of each clause of LpMultiplyCommandsComplete. -/
theorem witness_LpMultiplyCommandsComplete :
  (∃ (s : State) (k : Fin 16) (m1 : Move2) (m2 : Move2), s.lpReady k ∧ m1.kind = .none ∧ m2.kind = .none) ∧
  (∃ (s : State) (k : Fin 16) (m1 : Move2) (m2 : Move2), s.lpReady k ∧ m1.kind = .none ∧ m2.kind = .none) ∧
  (∃ (s : State) (k : Fin 16) (m1 : Move2) (m2 : Move2), s.lpReady k ∧ m1.kind = .none ∧ m2.kind = .none) ∧
  (∃ (s : State) (k : Fin 16) (m1 : Move2) (m2 : Move2), s.lpReady k ∧ m1.kind = .none ∧ m2.kind = .none) ∧
  (∃ (s : State) (k : Fin 16) (m1 : Move2) (m2 : Move2), s.lpReady k ∧ m1.kind = .none ∧ m2.kind = .none) ∧
  (∃ (s : State) (k : Fin 16) (m1 : Move2) (m2 : Move2), s.lpReady k ∧ m1.kind = .none ∧ m2.kind = .none) ∧
  (∃ (s : State) (k : Fin 16) (mv : Move), s.lpReady k ∧ mv.kind = .none) ∧
  (∃ (s : State) (k : Fin 16) (am : Fin 4) (left : Bool) (sh : Fin 64) (mv : Move), s.lpReady k ∧ mv.kind = .none ∧
    satS 80 (if left then (s.lpSet k).accVI am * 2 ^ sh.val else (s.lpSet k).accVI am / 2 ^ sh.val) = (if left then (s.lpSet k).accVI am * 2 ^ sh.val else (s.lpSet k).accVI am / 2 ^ sh.val)) ∧
  (∃ (s : State) (k : Fin 16) (am : Fin 4) (sh : Fin 64) (mv : Move), s.lpReady k ∧ mv.kind = .none ∧
    satS 80 ((s.lpSet k).accVI am * 2 ^ sh.val) ≠ (s.lpSet k).accVI am * 2 ^ sh.val) ∧
  (∃ (s : State) (k : Fin 16) (mv : Move), s.lpReady k ∧ mv.kind = .none) ∧
  (∃ (s : State) (k : Fin 16) (mv : Move), s.lpReady k ∧ mv.kind = .none) :=
  ⟨⟨mol fun q => { q with acc := q.acc.set 1 0x123456789ABC, accV := q.accV.set 1 0x123456789ABC }, 2, m20, m20,
     by unfold State.lpReady; decide +kernel, by decide +kernel, by decide +kernel⟩,
   ⟨mol fun q => { q with acc := q.acc.set 1 0x123456789ABC, accV := q.accV.set 1 0x123456789ABC }, 2, m20, m20,
     by unfold State.lpReady; decide +kernel, by decide +kernel, by decide +kernel⟩,
   ⟨mol fun q => { q with acc := q.acc.set 1 0x123456789ABC, accV := q.accV.set 1 0x123456789ABC }, 2, m20, m20,
     by unfold State.lpReady; decide +kernel, by decide +kernel, by decide +kernel⟩,
   ⟨mol fun q => { q with acc := q.acc.set 1 0x123456789ABC, accV := q.accV.set 1 0x123456789ABC }, 2, m20, m20,
     by unfold State.lpReady; decide +kernel, by decide +kernel, by decide +kernel⟩,
   ⟨mol fun q => { q with acc := q.acc.set 1 0x123456789ABC, accV := q.accV.set 1 0x123456789ABC }, 2, m20, m20,
     by unfold State.lpReady; decide +kernel, by decide +kernel, by decide +kernel⟩,
   ⟨mol fun q => { q with acc := q.acc.set 1 0x123456789ABC, accV := q.accV.set 1 0x123456789ABC }, 2, m20, m20,
     by unfold State.lpReady; decide +kernel, by decide +kernel, by decide +kernel⟩,
   ⟨mol fun q => { q with acc := q.acc.set 1 0x123456789ABC, accV := q.accV.set 1 0x123456789ABC }, 2, mv0,
     by unfold State.lpReady; decide +kernel, by decide +kernel⟩,
   ⟨mol fun q => { q with acc := q.acc.set 1 0x123456789ABC, accV := q.accV.set 1 0x123456789ABC }, 2, 1, true, 3, mv0,
     by unfold State.lpReady; decide +kernel, by decide +kernel, by decide +kernel⟩,
   ⟨mol fun q => { q with acc := q.acc.set 1 0x123456789ABC, accV := q.accV.set 1 0x123456789ABC }, 2, 1, 60, mv0,
     by unfold State.lpReady; decide +kernel, by decide +kernel, by decide +kernel⟩,
   ⟨mol fun q => { q with acc := q.acc.set 1 0x123456789ABC, accV := q.accV.set 1 0x123456789ABC }, 2, mv0,
     by unfold State.lpReady; decide +kernel, by decide +kernel⟩,
   ⟨mol fun q => { q with acc := q.acc.set 1 0x123456789ABC, accV := q.accV.set 1 0x123456789ABC }, 2, mv0,
     by unfold State.lpReady; decide +kernel, by decide +kernel⟩⟩

/-- States and operands that meet the hypotheses of each clause of LpAccumulatorCommandsComplete. -/
theorem witness_LpAccumulatorCommandsComplete :
  (∃ (s : State) (k : Fin 16) (mv : Move), s.lpReady k ∧ mv.kind = .none) ∧
  (∃ (s : State) (k : Fin 16) (mv : Move), s.lpReady k ∧ mv.kind = .none) ∧
  (∃ (s : State) (k : Fin 16) (mv : Move), s.lpReady k ∧ mv.kind = .none) ∧
  (∃ (s : State) (k : Fin 16) (mv : Move), s.lpReady k ∧ mv.kind = .none) ∧
  (∃ (s : State) (k : Fin 16) (mv : Move), s.lpReady k ∧ mv.kind = .none) ∧
  (∃ (s : State) (k : Fin 16) (mv : Move), s.lpReady k ∧ mv.kind = .none) ∧
  (∃ (s : State) (k : Fin 16) (mv : Move), s.lpReady k ∧ mv.kind = .none) ∧
  (∃ (s : State) (k : Fin 16) (mv : Move), s.lpReady k ∧ mv.kind = .none) ∧
  (∃ (s : State) (k : Fin 16), s.lpReady k) ∧
  (∃ (s : State) (k : Fin 16), s.lpReady k) ∧
  (∃ (s : State) (k : Fin 16) (y : Fin 16), s.lpReady k ∧ ((s.lpSet k).D y).toInt ≠ 0) ∧
  (∃ (s : State) (k : Fin 16) (x : Fin 16) (y : Fin 16), s.lpReady k ∧ ((s.lpSet k).D y).toInt = 0 ∧ 0 < ((s.lpSet k).D x).toInt) :=
  ⟨⟨mol fun q => { q with acc := q.acc.set 1 0x123456789ABC, accV := q.accV.set 1 0x123456789ABC }, 2, mv0,
     by unfold State.lpReady; decide +kernel, by decide +kernel⟩,
   ⟨mol fun q => { q with acc := q.acc.set 1 0x123456789ABC, accV := q.accV.set 1 0x123456789ABC }, 2, mv0,
     by unfold State.lpReady; decide +kernel, by decide +kernel⟩,
   ⟨mol fun q => { q with acc := q.acc.set 1 0x123456789ABC, accV := q.accV.set 1 0x123456789ABC }, 2, mv0,
     by unfold State.lpReady; decide +kernel, by decide +kernel⟩,
   ⟨mol fun q => { q with acc := q.acc.set 1 0x123456789ABC, accV := q.accV.set 1 0x123456789ABC }, 2, mv0,
     by unfold State.lpReady; decide +kernel, by decide +kernel⟩,
   ⟨mol fun q => { q with acc := q.acc.set 1 0x123456789ABC, accV := q.accV.set 1 0x123456789ABC }, 2, mv0,
     by unfold State.lpReady; decide +kernel, by decide +kernel⟩,
   ⟨mol fun q => { q with acc := q.acc.set 1 0x123456789ABC, accV := q.accV.set 1 0x123456789ABC }, 2, mv0,
     by unfold State.lpReady; decide +kernel, by decide +kernel⟩,
   ⟨mol fun q => { q with acc := q.acc.set 1 0x123456789ABC, accV := q.accV.set 1 0x123456789ABC }, 2, mv0,
     by unfold State.lpReady; decide +kernel, by decide +kernel⟩,
   ⟨mol fun q => { q with acc := q.acc.set 1 0x123456789ABC, accV := q.accV.set 1 0x123456789ABC }, 2, mv0,
     by unfold State.lpReady; decide +kernel, by decide +kernel⟩,
   ⟨mol fun q => { q with acc := q.acc.set 1 0x123456789ABC, accV := q.accV.set 1 0x123456789ABC }, 2, by unfold State.lpReady; decide +kernel⟩,
   ⟨mol fun q => { q with acc := q.acc.set 1 0x123456789ABC, accV := q.accV.set 1 0x123456789ABC }, 2, by unfold State.lpReady; decide +kernel⟩,
   ⟨mol fun q => { q with acc := q.acc.set 1 0x123456789ABC, accV := q.accV.set 1 0x123456789ABC }, 2, 5,
     by unfold State.lpReady; decide +kernel, by decide +kernel⟩,
   ⟨mol fun q => { q with acc := q.acc.set 1 0x123456789ABC, accV := q.accV.set 1 0x123456789ABC }, 2, 5, 7,
     by unfold State.lpReady; decide +kernel, by decide +kernel, by decide +kernel⟩⟩

/-- States and operands that meet the hypotheses of each clause of LpControlCommandsComplete. -/
theorem witness_LpControlCommandsComplete :
  (∃ (s : State) (k : Fin 16), s.lpReady k) ∧
  (∃ (s : State) (k : Fin 16), s.lpReady k) ∧
  (∃ (s : State) (k : Fin 16), s.lpReady k ∧ (s.lpSet k).call.length < 16) ∧
  (∃ (s : State) (k : Fin 16), s.canonical = true ∧ s.lpReady k ∧ 16 ≤ (s.lpSet k).call.length) ∧
  (∃ (s : State) (k : Fin 16) (a : Nat) (rest : List Nat), s.lpReady k ∧ (s.lpSet k).call = a :: rest) ∧
  (∃ (s : State) (k : Fin 16) (n : BitVec 16) (last : BitVec 18), s.lpReady k ∧ n.toNat ≠ 0 ∧ last.toNat ≠ (s.lp k).pc) ∧
  (∃ (s : State) (k : Fin 16) (n : BitVec 16), s.lpReady k ∧ n.toNat = 0) ∧
  (∃ (s : State) (k : Fin 16) (r : RunReq), s.lpReady k ∧ (s.lp k).run = some r ∧ (s.lp k).swapWait = none) ∧
  (∃ (s : State) (k : Fin 16), s.canonical = true ∧ s.lpReady k ∧ (s.lp k).sh = true ∧ (s.lp k).swapWait = none) :=
  ⟨⟨mol id, 2, by unfold State.lpReady; decide +kernel⟩,
   ⟨mol id, 2, by unfold State.lpReady; decide +kernel⟩,
   ⟨mol id, 2, by unfold State.lpReady; decide +kernel, by decide +kernel⟩,
   ⟨mol fun q => { q with call := List.replicate 16 3 }, 2, by decide +kernel, by unfold State.lpReady; decide +kernel, by decide +kernel⟩,
   ⟨mol fun q => { q with call := [7, 3] }, 2, 7, [3], by unfold State.lpReady; decide +kernel, by decide +kernel⟩,
   ⟨mol id, 2, 3, 110, by unfold State.lpReady; decide +kernel, by decide +kernel, by decide +kernel⟩,
   ⟨mol id, 2, 0, by unfold State.lpReady; decide +kernel, by decide +kernel⟩,
   ⟨mol id, 2, { kind := .pos, axis := 5, at_ := 5, b := 160, due := 9 }, by unfold State.lpReady; decide +kernel, by decide +kernel,
     by decide +kernel⟩,
   ⟨mlp (mol id) 2 fun l => { l with sh := true, resume := 55 }, 2, by decide +kernel, by unfold State.lpReady; decide +kernel,
     by decide +kernel, by decide +kernel⟩⟩

/-- States and operands that meet the hypotheses of each clause of FieldIoCommandsComplete. -/
theorem witness_FieldIoCommandsComplete :
  (∃ (s : State) (c : Fin 32) (lvl : Bool), s.canonical = true ∧ s.isOutput c = false ∧ s.fgOk (c / 8) = true ∧ nbit (s.rdN DIOG_IN) c ≠ lvl ∧
    s.flag (DIO_CFG c) DIO_CFG_FTYPE = false) ∧
  (∃ (s : State) (v : Word), s.canonical = true ∧ s.hostMay DIOG_OUT ∧ wordOk DIOG_OUT v.toNat = true) ∧
  (∃ (s : State) (v : Word), s.canonical = true ∧ s.hostMay DIOG_OSET ∧ wordOk DIOG_OSET v.toNat = true) ∧
  (∃ (s : State) (v : Word), s.canonical = true ∧ s.hostMay DIOG_OCLR ∧ wordOk DIOG_OCLR v.toNat = true) ∧
  (∃ (s : State) (c : Fin 32), s.canonical = true ∧ s.dioOn c = true) ∧
  (∃ (s : State) (c : Fin 32), s.canonical = true ∧ s.dioOn c = true) ∧
  (∃ (s : State) (c : Fin 32) (t0 : Nat), (s.dio (s.dioLead c)).off = some t0 ∧ s.flag (DIO_CFG (s.dioLead c)) DIO_CFG_AUTORST = true ∧
    nbit (s.rdN DIOG_OUT) (s.dioLead c) = true ∧ (s.dio (s.dioLead c)).coolAt ≤ t0 + 40000000) ∧
  (∃ (s : State) (c : Fin 32), s.canonical = true ∧ s.isOutput c = true ∧ s.fgOk (c / 8) = true ∧ (s.fg (c / 8)).rbFrom ≤ s.tick ∧
    s.dioDriven c = true ∧ s.flag (DIO_ST (s.dioLead c)) DIO_ST_SCFLT = false ∧ s.flag (DIO_ST (s.dioLead c)) DIO_ST_THFLT = false) ∧
  (∃ (s : State), s.canonical = true) :=
  ⟨⟨fio, 3, true, by decide +kernel⟩,
   ⟨W 2, 5, by decide +kernel, ⟨by decide +kernel, by decide +kernel⟩, by decide +kernel⟩,
   ⟨W 2, 5, by decide +kernel, ⟨by decide +kernel, by decide +kernel⟩, by decide +kernel⟩,
   ⟨W 2, 5, by decide +kernel, ⟨by decide +kernel, by decide +kernel⟩, by decide +kernel⟩,
   ⟨(((fio).setf (DIO_CFG 3) DIO_CFG_DIR).wrN DIOG_OUT 8), 3, by decide +kernel⟩,
   ⟨(((fio).setf (DIO_CFG 3) DIO_CFG_DIR).wrN DIOG_OUT 8), 3, by decide +kernel⟩,
   ⟨((((fio).setf (DIO_CFG 3) DIO_CFG_DIR).wrN DIOG_OUT 8).setf (DIO_CFG 3) DIO_CFG_AUTORST).modDio 3 fun d => { d with off := some 5 }, 3, 5,
     by decide +kernel⟩,
   ⟨(((fio).setf (DIO_CFG 3) DIO_CFG_DIR).wrN DIOG_OUT 8), 3, by decide +kernel⟩,
   ⟨W 2, by decide +kernel⟩⟩

/-- States and operands that meet the hypotheses of each clause of SupplyAndAnalogueCommandsComplete. -/
theorem witness_SupplyAndAnalogueCommandsComplete :
  (∃ (s : State) (k : Fin 4) (v : BitVec 16), s.canonical = true ∧ s.fgState k ≤ 1 ∧ 1 ≤ (s.fg k).n2 ∧ 900 ≤ v.toNat ∧ v.toNat < 1600) ∧
  (∃ (s : State) (k : Fin 4), s.canonical = true ∧ s.hostMay (FG_CMD k) ∧ s.fgState k = 0) ∧
  (∃ (s : State) (k : Fin 4), s.canonical = true ∧ s.hostMay (FG_CMD k) ∧ s.fgState k ≠ 0) ∧
  (∃ (s : State) (k : Fin 4), s.canonical = true ∧ s.hostMay (FG_CMD k)) ∧
  (∃ (s : State) (k : Fin 4), s.canonical = true ∧ s.hostMay (FG_CMD k)) ∧
  (∃ (s : State), s.canonical = true) ∧
  (∃ (s : State) (i : Fin 8), s.canonical = true ∧ s.get (AI_CFG i) AI_CFG_RANGE = 1 ∧ s.flag (AI_STAT i) AI_STAT_SHOPEN = false) ∧
  (∃ (s : State) (i : Fin 8), s.canonical = true ∧ s.flag (AI_STAT i) AI_STAT_SHOPEN = true) :=
  ⟨⟨fio.modFg 1 fun g => { g with n2 := 1 }, 1, 1000, by decide +kernel⟩,
   ⟨fio, 1, by decide +kernel, ⟨by decide +kernel, by decide +kernel⟩, by decide +kernel⟩,
   ⟨(W 2).put (FG_STAT 1) FG_STAT_STATE 2, 1, by decide +kernel, ⟨by decide +kernel, by decide +kernel⟩, by decide +kernel⟩,
   ⟨W 2, 1, by decide +kernel, ⟨by decide +kernel, by decide +kernel⟩⟩,
   ⟨W 2, 1, by decide +kernel, ⟨by decide +kernel, by decide +kernel⟩⟩,
   ⟨W 2, by decide +kernel⟩,
   ⟨(W 2).put (AI_CFG 2) AI_CFG_RANGE 1, 2, by decide +kernel⟩,
   ⟨(W 2).setf (AI_STAT 2) AI_STAT_SHOPEN, 2, by decide +kernel⟩⟩

/-- States and operands that meet the hypotheses of each clause of SafetyCommandsComplete. -/
theorem witness_SafetyCommandsComplete :
  (∃ (s : State) (c : Fin 32), s.canonical = true ∧ s.isS = true ∧ s.safe.set ≠ [] ∧ connUsed (setConn s.safe.set c) = true ∧
    (s.conn c).exp = false ∧ bU (setConn s.safe.set c) 4 1 < 64) ∧
  (∃ (s : State), s.isS = true ∧ s.chRuns 0 = true) ∧
  (∃ (s : State), s.isS = true ∧ s.chRuns 1 = true) ∧
  (∃ (s : State) (b : Bool), s.chRuns (b2n b) = false) ∧
  (∃ (s : State), s.isS = true) ∧
  (∃ (s : State) (i : Fin 8) (t0 : Int), (s.sin i).since = some t0 ∧ s.safe.set ≠ [] ∧ (s.sin i).disc = false) ∧
  (∃ (s : State) (b : Bool), s.canonical = true ∧ s.isS = true ∧ s.chRuns (b2n b) = true) ∧
  (∃ (s : State) (b : Bool), s.isS = true ∧ s.chRuns (b2n b) = true) ∧
  (∃ (s : State), s.safe.longHigh = true) ∧
  (∃ (s : State) (hiA : Word) (hiB : Word) (skew : Word), s.canonical = true ∧ s.isS = true ∧ s.safe.longHigh = false ∧ 20000000 ≤ hiA.toNat ∧
    hiA.toNat ≤ 1200000000 ∧ 20000000 ≤ hiB.toNat ∧ hiB.toNat ≤ 1200000000 ∧ skew.toNat ≤ 4000000 ∧
    (s.safe.swAt.any fun (x : Nat) => x / 100000 == s.tick / 100000) = false) ∧
  (∃ (s : State) (hiA : Word) (hiB : Word), s.canonical = true ∧ s.isS = true ∧ s.safe.longHigh = false ∧ 20000000 ≤ hiA.toNat ∧
    hiA.toNat ≤ 1200000000 ∧ hiB.toNat < 20000000) ∧
  (∃ (s : State), s.canonical = true) :=
  ⟨⟨msafe (chS 1) fun x => { x with set := sset }, 0, by decide +kernel⟩,
   ⟨chS 2, by decide +kernel⟩,
   ⟨chS 2, by decide +kernel⟩,
   ⟨W 1, true, by decide +kernel⟩,
   ⟨W 1, by decide +kernel⟩,
   ⟨msafe ((W 1).modSin 2 fun x => { x with since := some 700 }) fun x => { x with set := sset }, 2, 700, by decide +kernel⟩,
   ⟨chS 2, true, by decide +kernel⟩,
   ⟨chS 2, true, by decide +kernel⟩,
   ⟨msafe (chS 2) fun x => { x with longHigh := true }, by decide +kernel⟩,
   ⟨(chS 1).setf SF_STAT SF_STAT_IOFAULT, 30000000, 40000000, 7, by decide +kernel⟩,
   ⟨chS 1, 30000000, 4, by decide +kernel⟩,
   ⟨chS 1, by decide +kernel⟩⟩

/-- States and operands that meet the hypotheses of each clause of SafetyTestCommandsComplete. -/
theorem witness_SafetyTestCommandsComplete :
  (∃ (s : State), s.isS = true) ∧
  (∃ (s : State) (n : Fin 32) (at_ : Nat) (o : Nat), (s.ch 0).sbc = [(n.val, at_, true)] ∧ (s.ch 1).sbc = [] ∧ s.brakeOf n = some o) ∧
  (∃ (s : State) (n : Fin 32) (at_ : Nat), (s.ch 0).sbc = [(n.val, at_, false)] ∧ (s.ch 1).sbc = []) ∧
  (∃ (s : State) (n : Fin 32) (iq : Word) (t0 : Nat) (pa : Int) (pb : Int), s.canonical = true ∧ s.safe.btAt.lookup n.val = some t0 ∧
    (s.chAx 0 n).bt = some pa ∧ (s.chAx 1 n).bt = some pb ∧ absI ((s.chAx 0 n).hist.headD 0 - pa) ≤ bU (s.sRec n) 88 4 ∧
    absI ((s.chAx 1 n).hist.headD 0 - pb) ≤ bU (s.sRec n) 88 4 ∧ absI (bS (s.sRec n) 92 4) ≤ absI iq.toInt) ∧
  (∃ (s : State) (n : Fin 32) (t0 : Nat) (pa : Int) (pb : Int), s.canonical = true ∧ s.safe.btAt.lookup n.val = some t0 ∧
    (s.chAx 0 n).bt = some pa ∧ (s.chAx 1 n).bt = some pb ∧ (bU (s.sRec n) 88 4 : Int) < absI ((s.chAx 0 n).hist.headD 0 - pa)) ∧
  (∃ (s : State) (k : Fin 8) (n : Nat), s.canonical = true ∧ s.brakeAxis k = some n ∧ bU (s.sRec n) 80 2 ≠ 0) ∧
  (∃ (s : State) (k : Fin 8) (n : Nat), s.canonical = true ∧ s.brakeAxis k = some n ∧ s.flag (SF_BT k) SF_BT_OVERDUE = true) ∧
  (∃ (s : State), s.canonical = true ∧ s.isS = true) ∧
  (∃ (s : State) (b : Bool), s.isS = true ∧ (s.ch (b2n b)).st = 0) :=
  ⟨⟨chS 1, by decide +kernel⟩,
   
     ⟨msafe ((W 1).modCh 0 fun x => { x with sbc := [(3, 900, true)] }) fun x => { x with set := patch sset (128 + 3 * 128) [64, 0, 0, 0, 0, 0, 0, 0, 0, 0, 0, 2] }, 3, 900, 6,
     by decide +kernel⟩,
   ⟨(W 1).modCh 0 fun x => { x with sbc := [(3, 900, false)] }, 3, 900, by decide +kernel⟩,
   
     ⟨msafe (((chS 2).modChAx 0 3 fun x => { x with bt := some 5, hist := [5] }).modChAx 1 3 fun x => { x with bt := some 6, hist := [6] }) fun x => { x with set := sset, btAt := [(3, 40)] }, 3, 5, 40, 5, 6,
     by decide +kernel⟩,
   
     ⟨msafe (((chS 2).modChAx 0 3 fun x => { x with bt := some 5, hist := [9] }).modChAx 1 3 fun x => { x with bt := some 6, hist := [6] }) fun x => { x with set := sset, btAt := [(3, 40)] }, 3, 40, 5, 6,
     by decide +kernel⟩,
   
     ⟨msafe (chS 1) fun x => { x with set := patch (patch sset (128 + 3 * 128) [64, 0, 0, 0, 0, 0, 0, 0, 0, 0, 0, 2]) (128 + 3 * 128 + 80) [8, 0, 1] }, 2, 3,
     by decide +kernel⟩,
   
     ⟨(msafe (chS 1) fun x => { x with set := patch (patch sset (128 + 3 * 128) [64, 0, 0, 0, 0, 0, 0, 0, 0, 0, 0, 2]) (128 + 3 * 128 + 80) [8, 0, 1] }).setf (SF_BT 2) SF_BT_OVERDUE, 2, 3,
     by decide +kernel⟩,
   ⟨chS 1, by decide +kernel⟩,
   ⟨W 1, true, by decide +kernel⟩⟩

/-- States and operands that meet the hypotheses of each clause of PacketCommandsComplete. -/
theorem witness_PacketCommandsComplete :
  (∃ (s : State) (c : Cmd) (s1 : State) (t : Req), s.admitsPacket c 0x8000 = some (s1, t)) ∧
  (∃ (s : State) (c : Cmd) (s1 : State) (t : Req), s.admitsPacket c 0x8001 = some (s1, t)) ∧
  (∃ (s : State) (c : Cmd) (s1 : State) (t : Req), s.admitsPacket c 0x8010 = some (s1, t)) ∧
  (∃ (s : State) (c : Cmd) (s1 : State) (t : Req), s.admitsPacket c 0x8011 = some (s1, t)) ∧
  (∃ (s : State) (c : Cmd) (s1 : State) (t : Req), s.admitsPacket c 0x8012 = some (s1, t)) ∧
  (∃ (s : State) (c : Cmd) (s1 : State) (t : Req), s.admitsPacket c 0x8100 = some (s1, t) ∧ nxUnit c.unit.toNat = some t.unit) ∧
  (∃ (s : State) (c : Cmd) (s1 : State) (t : Req), s.admitsPacket c 0x8101 = some (s1, t) ∧ nxUnit c.unit.toNat = some t.unit) ∧
  (∃ (s : State) (c : Cmd) (s1 : State) (t : Req), s.admitsPacket c 0x8200 = some (s1, t) ∧ nxUnit c.unit.toNat = some t.unit) ∧
  (∃ (s : State) (c : Cmd) (s1 : State) (t : Req), s.admitsPacket c 0x8201 = some (s1, t) ∧ nxUnit c.unit.toNat = some t.unit) ∧
  (∃ (s : State) (c : Cmd) (s1 : State) (t : Req) (m : Nat), s.admitsPacket c 0x8300 = some (s1, t) ∧ nxUnit c.unit.toNat = some t.unit ∧
    nxUnit ((cmdReq c 0x8300).P 1 % 256) = some m) ∧
  (∃ (s : State) (c : Cmd) (s1 : State) (t : Req), s.admitsPacket c 0x8301 = some (s1, t) ∧ nxUnit c.unit.toNat = some t.unit) ∧
  (∃ (s : State) (c : Cmd) (s1 : State) (t : Req), s.admitsPacket c 0x8900 = some (s1, t)) ∧
  (∃ (s : State) (c : Cmd) (s1 : State) (t : Req), s.admitsPacket c 0x8901 = some (s1, t)) :=
  ⟨
     ⟨W 2, { tag := 5, unit := 0xFF }, adm (W 2) ({ tag := 5, unit := 0xFF }) 0x8000, (nxReq (cmdReq ({ tag := 5, unit := 0xFF }) 0x8000)).getD (cmdReq ({ tag := 5, unit := 0xFF }) 0), admitsPacket_fresh (by decide +kernel) (by decide +kernel) (by decide +kernel) (by decide +kernel) (by decide +kernel)⟩,
   
     ⟨W 1, { tag := 5, unit := 0xFF }, adm (W 1) ({ tag := 5, unit := 0xFF }) 0x8001, (nxReq (cmdReq ({ tag := 5, unit := 0xFF }) 0x8001)).getD (cmdReq ({ tag := 5, unit := 0xFF }) 0), admitsPacket_fresh (by decide +kernel) (by decide +kernel) (by decide +kernel) (by decide +kernel) (by decide +kernel)⟩,
   
     ⟨W 1, { tag := 5, unit := 0xFF }, adm (W 1) ({ tag := 5, unit := 0xFF }) 0x8010, (nxReq (cmdReq ({ tag := 5, unit := 0xFF }) 0x8010)).getD (cmdReq ({ tag := 5, unit := 0xFF }) 0), admitsPacket_fresh (by decide +kernel) (by decide +kernel) (by decide +kernel) (by decide +kernel) (by decide +kernel)⟩,
   
     ⟨W 2, { tag := 5, unit := 0xFF }, adm (W 2) ({ tag := 5, unit := 0xFF }) 0x8011, (nxReq (cmdReq ({ tag := 5, unit := 0xFF }) 0x8011)).getD (cmdReq ({ tag := 5, unit := 0xFF }) 0), admitsPacket_fresh (by decide +kernel) (by decide +kernel) (by decide +kernel) (by decide +kernel) (by decide +kernel)⟩,
   
     ⟨W 2, { tag := 5, unit := 0xFF }, adm (W 2) ({ tag := 5, unit := 0xFF }) 0x8012, (nxReq (cmdReq ({ tag := 5, unit := 0xFF }) 0x8012)).getD (cmdReq ({ tag := 5, unit := 0xFF }) 0), admitsPacket_fresh (by decide +kernel) (by decide +kernel) (by decide +kernel) (by decide +kernel) (by decide +kernel)⟩,
   
     ⟨W 2, { tag := 5, unit := 3, p := #v[1, 0, 0, 0, 0, 0] }, adm (W 2) ({ tag := 5, unit := 3, p := #v[1, 0, 0, 0, 0, 0] }) 0x8100, (nxReq (cmdReq ({ tag := 5, unit := 3, p := #v[1, 0, 0, 0, 0, 0] }) 0x8100)).getD (cmdReq ({ tag := 5, unit := 3, p := #v[1, 0, 0, 0, 0, 0] }) 0), admitsPacket_fresh (by decide +kernel) (by decide +kernel) (by decide +kernel) (by decide +kernel) (by decide +kernel),
     by decide +kernel⟩,
   
     ⟨W 2, { tag := 5, unit := 3 }, adm (W 2) ({ tag := 5, unit := 3 }) 0x8101, (nxReq (cmdReq ({ tag := 5, unit := 3 }) 0x8101)).getD (cmdReq ({ tag := 5, unit := 3 }) 0), admitsPacket_fresh (by decide +kernel) (by decide +kernel) (by decide +kernel) (by decide +kernel) (by decide +kernel),
     by decide +kernel⟩,
   
     ⟨W 2, { tag := 5, unit := 3, p := #v[7, 0, 8, 9, 10, 0] }, adm (W 2) ({ tag := 5, unit := 3, p := #v[7, 0, 8, 9, 10, 0] }) 0x8200, (nxReq (cmdReq ({ tag := 5, unit := 3, p := #v[7, 0, 8, 9, 10, 0] }) 0x8200)).getD (cmdReq ({ tag := 5, unit := 3, p := #v[7, 0, 8, 9, 10, 0] }) 0), admitsPacket_fresh (by decide +kernel) (by decide +kernel) (by decide +kernel) (by decide +kernel) (by decide +kernel),
     by decide +kernel⟩,
   
     ⟨W 2, { tag := 5, unit := 3 }, adm (W 2) ({ tag := 5, unit := 3 }) 0x8201, (nxReq (cmdReq ({ tag := 5, unit := 3 }) 0x8201)).getD (cmdReq ({ tag := 5, unit := 3 }) 0), admitsPacket_fresh (by decide +kernel) (by decide +kernel) (by decide +kernel) (by decide +kernel) (by decide +kernel),
     by decide +kernel⟩,
   
     ⟨W 2, { tag := 5, unit := 3, p := #v[0x00030002, 4, 0, 0, 0, 0] }, adm (W 2) ({ tag := 5, unit := 3, p := #v[0x00030002, 4, 0, 0, 0, 0] }) 0x8300, (nxReq (cmdReq ({ tag := 5, unit := 3, p := #v[0x00030002, 4, 0, 0, 0, 0] }) 0x8300)).getD (cmdReq ({ tag := 5, unit := 3, p := #v[0x00030002, 4, 0, 0, 0, 0] }) 0), 4, admitsPacket_fresh (by decide +kernel) (by decide +kernel) (by decide +kernel) (by decide +kernel) (by decide +kernel),
     by decide +kernel, by decide +kernel⟩,
   
     ⟨W 2, { tag := 5, unit := 3 }, adm (W 2) ({ tag := 5, unit := 3 }) 0x8301, (nxReq (cmdReq ({ tag := 5, unit := 3 }) 0x8301)).getD (cmdReq ({ tag := 5, unit := 3 }) 0), admitsPacket_fresh (by decide +kernel) (by decide +kernel) (by decide +kernel) (by decide +kernel) (by decide +kernel),
     by decide +kernel⟩,
   
     ⟨W 2, { tag := 5, unit := 0xFF, p := #v[0x00030002, 0, 0, 0, 0, 0] }, adm (W 2) ({ tag := 5, unit := 0xFF, p := #v[0x00030002, 0, 0, 0, 0, 0] }) 0x8900, (nxReq (cmdReq ({ tag := 5, unit := 0xFF, p := #v[0x00030002, 0, 0, 0, 0, 0] }) 0x8900)).getD (cmdReq ({ tag := 5, unit := 0xFF, p := #v[0x00030002, 0, 0, 0, 0, 0] }) 0), admitsPacket_fresh (by decide +kernel) (by decide +kernel) (by decide +kernel) (by decide +kernel) (by decide +kernel)⟩,
   
     ⟨W 2, { tag := 5, unit := 0xFF }, adm (W 2) ({ tag := 5, unit := 0xFF }) 0x8901, (nxReq (cmdReq ({ tag := 5, unit := 0xFF }) 0x8901)).getD (cmdReq ({ tag := 5, unit := 0xFF }) 0), admitsPacket_fresh (by decide +kernel) (by decide +kernel) (by decide +kernel) (by decide +kernel) (by decide +kernel)⟩⟩

/-- States and operands that meet the hypotheses of each clause of LoopProcessorCommandsComplete. -/
theorem witness_LoopProcessorCommandsComplete :
  (∃ (s : State) (k : Fin 16) (i : Fin 65536), s.canonical = true ∧ s.hostMay (0x400000 + 0x40000 * k + 4 * i) ∧ i.val < 32768 ∧
    decide (16384 ≤ i.val) ≠ s.lpBank k) ∧
  (∃ (s : State) (k : Fin 16) (i : Fin 65536), s.canonical = true ∧ s.hostMay (0x400000 + 0x40000 * k + 4 * i) ∧ i.val < 32768 ∧
    decide (16384 ≤ i.val) = s.lpBank k) ∧
  (∃ (s : State) (k : Fin 16) (i : Fin 65536), s.canonical = true ∧ s.hostMay (0x400000 + 0x40000 * k + 4 * i) ∧ 32768 ≤ i.val ∧
    s.inMorning = true) ∧
  (∃ (s : State) (k : Fin 16), s.canonical = true ∧ s.hostMay (LP_CMD k) ∧ (s.lp k).verify = none) ∧
  (∃ (s : State) (k : Fin 16), s.canonical = true ∧ s.hostMay (LP_CMD k) ∧ (s.lp k).verify = none) ∧
  (∃ (s : State) (k : Fin 16) (b : Bool) (t0 : Nat), s.canonical = true ∧ (s.lp k).verify = some (b, t0)) ∧
  (∃ (s : State) (k : Fin 16), s.canonical = true ∧ s.hostMay (LP_CMD k)) ∧
  (∃ (s : State) (k : Fin 16), s.canonical = true ∧ s.lpPend k &&& s.get (LP_CTRL k) LP_CTRL_IRQEN ≠ 0 ∧ (s.lp k).sh = false ∧
    (s.lp k).main.age.ie = true ∧ (s.lp k).target = none ∧ (s.lp k).waitD = none ∧ s.lpMode k < 2) ∧
  (∃ (s : State) (k : Fin 16) (causes : BitVec 6), s.canonical = true ∧ causes ≠ 0 ∧ s.lpMode k < 2) ∧
  (∃ (s : State) (k : Fin 16) (causes : BitVec 6), s.canonical = true ∧ causes ≠ 0 ∧ s.lpMode k = 2) ∧
  (∃ (s : State) (a : Fin 80), (s.lp (s.lpOf a)).sh = false ∧ a.val < 64 ∧ s.canonical = true) ∧
  (∃ (s : State) (a : Fin 80), (s.lp (s.lpOf a)).sh = false ∧ a.val < 32) ∧
  (∃ (s : State) (a : Fin 80), s.canonical = true ∧ (s.lp (s.lpOf a)).sh = false ∧ a.val < 32) ∧
  (∃ (s : State) (a : Fin 80) (j : Nat), s.canonical = true ∧ (s.lp (s.lpOf a)).sh = false ∧ a.val < 32 ∧ s.fourth a = some j) ∧
  (∃ (s : State) (a : Fin 80), (s.lp (s.lpOf a)).sh = false ∧ a.val < 32 ∧ s.fourth a = none) ∧
  (∃ (s : State) (a : Fin 80) (v : Word), (s.lp (s.lpOf a)).sh = false ∧ a.val < 32 ∧ nbit v.toNat 0 = true) ∧
  (∃ (s : State) (a : Fin 80), (s.lp (s.lpOf a)).sh = true) :=
  ⟨⟨(W 1), 2, 16390, by decide +kernel, ⟨by decide +kernel, by decide +kernel⟩, by decide +kernel, by decide +kernel⟩,
   ⟨(W 1), 2, 6, by decide +kernel, ⟨by decide +kernel, by decide +kernel⟩, by decide +kernel, by decide +kernel⟩,
   ⟨(W 1), 2, 32770, by decide +kernel, ⟨by decide +kernel, by decide +kernel⟩, by decide +kernel, by decide +kernel⟩,
   ⟨W 2, 2, by decide +kernel, ⟨by decide +kernel, by decide +kernel⟩, by decide +kernel⟩,
   ⟨W 2, 2, by decide +kernel, ⟨by decide +kernel, by decide +kernel⟩, by decide +kernel⟩,
   ⟨mlp (W 2) 2 fun l => { l with verify := some (true, 3) }, 2, true, 3, by decide +kernel⟩,
   ⟨(W 2).wrN (LP_CNT 2) 77, 2, by decide +kernel, ⟨by decide +kernel, by decide +kernel⟩⟩,
   
     ⟨mlp ((((W 2).put (LP_CTRL 2) LP_CTRL_IRQEN 7).put (LP_STAT 2) LP_STAT_MODE 1)) 2 fun l => { l with evPend := 2, main := { l.main with ie := true } }, 2,
     by decide +kernel⟩,
   ⟨(W 2).put (LP_STAT 2) LP_STAT_MODE 1, 2, 5, by decide +kernel⟩,
   ⟨(W 2).put (LP_STAT 2) LP_STAT_MODE 2, 2, 5, by decide +kernel⟩,
   ⟨W 2, 5, by decide +kernel⟩,
   ⟨W 2, 5, by decide +kernel⟩,
   ⟨W 2, 5, by decide +kernel⟩,
   ⟨(W 2).wrN (PWMX_CFG 3) (2 ^ PWMX_CFG_ROLE.lo + 5 * 2 ^ PWMX_CFG_AXIS.lo), 5, 3, by decide +kernel⟩,
   ⟨W 2, 5, by decide +kernel⟩,
   ⟨W 2, 5, 7, by decide +kernel⟩,
   ⟨mlp (W 2) ((W 2).lpOf 5) fun l => { l with sh := true }, 5, by decide +kernel⟩⟩

/-- States and operands that meet the hypotheses of each clause of StudBookCommandsComplete. -/
theorem witness_StudBookCommandsComplete :
  (∃ (s : State) (e : Event) (rest : List Event) (x : Entry), s.events.drop s.log.seen = e :: rest ∧ s.entryOf e = some x ∧
    s.pw.fwRun = true ∧ s.log.thaw = none ∧ (s.mergeTicks = 0 ∨ neverMerged x.type = true) ∧ s.frozen = false) ∧
  (∃ (s : State) (q : Nat) (r : List Byte) (rest : List (Nat × List Byte)), s.canonical = true ∧ s.log.buffer = (q, r) :: rest ∧
    s.frozen = false ∧ s.pw.fwRun = true ∧ s.log.used + r.length ≤ 262144) ∧
  (∃ (s : State) (q : Nat) (r : List Byte) (rest : List (Nat × List Byte)), s.canonical = true ∧ s.log.buffer = (q, r) :: rest ∧
    s.frozen = false ∧ s.pw.fwRun = true ∧ r.length ≤ 262144) ∧
  (∃ (s : State) (k : MergeKey) (rest : List MergeKey), s.log.keys = k :: rest ∧ s.pw.fwRun = true ∧ k.count = 0) ∧
  (∃ (s : State) (k : MergeKey) (rest : List MergeKey), s.log.keys = k :: rest ∧ s.pw.fwRun = true ∧ k.count ≠ 0 ∧ s.frozen = false ∧
    s.log.thaw = none) ∧
  (∃ (s : State) (t0 : Nat), s.canonical = true ∧ s.log.frozen = some t0 ∧ s.pw.fwRun = true) ∧
  (∃ (s : State), s.canonical = true ∧ s.hostMay LOG_CURSOR) ∧
  (∃ (s : State) (q : Nat), s.canonical = true ∧ s.hostMay LOG_CTRL ∧ s.flag LOG_RSTAT LOG_RSTAT_BUSY = false ∧ s.log.shown = some q) ∧
  (∃ (s : State), s.hostMay LOG_CTRL ∧ s.flag LOG_RSTAT LOG_RSTAT_BUSY = true) ∧
  (∃ (s : State) (q : Nat), s.canonical = true ∧ s.log.load = some q ∧ s.pw.fwRun = true ∧ s.rd64N LOG_NEWEST < q) ∧
  (∃ (s : State) (q : Nat) (n : Nat) (r : List Byte), s.canonical = true ∧ s.log.load = some q ∧ s.pw.fwRun = true ∧ q ≤ s.rd64N LOG_NEWEST ∧
    s.logFind q = some (n, r)) :=
  ⟨
     ⟨({ W 2 with events := [{ kind := .stateChange, unit := 0xFF, val := 0x10201, mt := 0 }] } : State), { kind := .stateChange, unit := 0xFF, val := 0x10201, mt := 0 }, [], ⟨0x0002, 0x10, 0xFF, [1, 2, 1]⟩,
     by decide +kernel⟩,
   ⟨mlog (W 2) fun l => { l with buffer := [(3, [1, 2])] }, 3, [1, 2], [], by decide +kernel⟩,
   ⟨mlog (W 2) fun l => { l with buffer := [(3, [1, 2])] }, 3, [1, 2], [], by decide +kernel⟩,
   
     ⟨mlog (W 2) fun l => { l with keys := [{ type := 5, unit := 0, head := [], seq := 2, at_ := 6, agent := 1 }] }, { type := 5, unit := 0, head := [], seq := 2, at_ := 6, agent := 1 }, [],
     by decide +kernel⟩,
   
     ⟨mlog (W 2) fun l => { l with keys := [{ type := 5, unit := 0, head := [], seq := 2, at_ := 6, agent := 1, count := 4 }] }, { type := 5, unit := 0, head := [], seq := 2, at_ := 6, agent := 1, count := 4 }, [],
     by decide +kernel⟩,
   ⟨(mlog (W 2) fun l => { l with frozen := some 7 }).setf LOG_STAT LOG_STAT_FROZEN, 7, by decide +kernel⟩,
   ⟨W 2, by decide +kernel, ⟨by decide +kernel, by decide +kernel⟩⟩,
   ⟨mlog (W 2) fun l => { l with shown := some 4 }, 4, by decide +kernel, ⟨by decide +kernel, by decide +kernel⟩, by decide +kernel,
     by decide +kernel⟩,
   ⟨(W 2).setf LOG_RSTAT LOG_RSTAT_BUSY, ⟨by decide +kernel, by decide +kernel⟩, by decide +kernel⟩,
   ⟨mlog (W 2) fun l => { l with load := some 4 }, 4, by decide +kernel⟩,
   
     ⟨(mlog (W 2) fun l => { l with load := some 4, store := [(0, 5, logRecord 2 0x10 0xFF 5 0 false false false [1, 2, 1])] }).wr64N LOG_NEWEST 5, 4, 5, logRecord 2 0x10 0xFF 5 0 false false false [1, 2, 1],
     by decide +kernel⟩⟩

/-- States and operands that meet the hypotheses of each clause of AcyclicCommandsComplete. -/
theorem witness_AcyclicCommandsComplete :
  (∃ (s : State) (peer : Fin 1024) (body : List Byte) (bs : List Byte) (id : Nat) (fl : Nat) (seg : Nat), s.inDawn = false ∧
    acyParse body = some (id, s.node, fl, seg, bs) ∧ fl % 2 = 0 ∧ nbit fl 1 = true ∧ (∀ k ∈ s.rm.kept, ¬(k.1 = peer.val ∧ k.2.1 = id)) ∧
    (∀ x ∈ s.rm.executing, ¬(x.1 = peer.val ∧ x.2.1 = id)) ∧ (∀ q ∈ s.rm.reqs, ¬(q.peer = peer.val ∧ q.id = id))) ∧
  (∃ (s : State) (peer : Fin 1024) (sec : Bool) (body : List Byte) (bs : List Byte) (id : Nat) (fl : Nat), s.inDawn = false ∧
    acyParse body = some (id, s.node, fl, 0, bs) ∧ fl % 2 = 0 ∧ nbit fl 1 = false ∧ (∀ k ∈ s.rm.kept, ¬(k.1 = peer.val ∧ k.2.1 = id)) ∧
    (∀ x ∈ s.rm.executing, ¬(x.1 = peer.val ∧ x.2.1 = id)) ∧ (∀ q ∈ s.rm.reqs, ¬(q.peer = peer.val ∧ q.id = id)) ∧ 64 ≤ bs.length ∧
    s.flag RM_ACY RM_ACY_ACYEN = true ∧ s.aclHas peer = true ∧ ((s.flag RM_ACY RM_ACY_ACYSEC = true → sec = true)) ∧
    portRefuses (eOpcode bs) (eP bs) = false) ∧
  (∃ (s : State) (peer : Fin 1024) (body : List Byte) (bs : List Byte) (id : Nat) (fl : Nat), s.inDawn = false ∧
    acyParse body = some (id, s.node, fl, 0, bs) ∧ fl % 2 = 0 ∧ nbit fl 1 = false ∧ (∀ k ∈ s.rm.kept, ¬(k.1 = peer.val ∧ k.2.1 = id)) ∧
    (∀ x ∈ s.rm.executing, ¬(x.1 = peer.val ∧ x.2.1 = id)) ∧ (∀ q ∈ s.rm.reqs, ¬(q.peer = peer.val ∧ q.id = id)) ∧ 64 ≤ bs.length ∧
    s.aclHas peer = false) ∧
  (∃ (s : State) (node : Fin 1024) (body : List Byte) (bs : List Byte) (id : Nat) (fl : Nat) (a : AcyAsk), s.inDawn = false ∧
    acyParse body = some (id, s.node, fl, 0, bs) ∧ fl % 2 = 1 ∧ nbit fl 1 = false ∧ nbit fl 2 = false ∧
    (s.rm.asked.find? fun a => a.id == id && a.node == node.val) = some a ∧ a.segs = []) ∧
  (∃ (s : State) (node : Fin 1024) (body : List Byte) (bs : List Byte) (id : Nat) (fl : Nat) (seg : Nat) (a : AcyAsk), s.inDawn = false ∧
    acyParse body = some (id, s.node, fl, seg, bs) ∧ fl % 2 = 1 ∧ nbit fl 2 = true ∧
    (s.rm.asked.find? fun a => a.id == id && a.node == node.val) = some a) ∧
  (∃ (s : State) (c : Cmd) (s1 : State) (r : Req), s.admits c 0x1C06 = some (s1, r)) :=
  ⟨⟨W 2, 7, seg 2 1 [5], [5], 9, 2, 1, by decide +kernel⟩,
   ⟨((W 2).setf RM_ACY RM_ACY_ACYEN).wrN (RM_ACL 2) (2 ^ RM_ACL_EN.lo + 7 * 2 ^ RM_ACL_NODE.lo), 7, false, seg 0 0 (zeros 64), zeros 64, 9, 0,
     by decide +kernel⟩,
   ⟨W 2, 7, seg 0 0 (zeros 64), zeros 64, 9, 0, by decide +kernel⟩,
   
     ⟨mrm (W 2) fun m => { m with asked := [{ id := 9, node := 7, tag := 5, frame := 0 }] }, 7, seg 1 0 [5], [5], 9, 1, { id := 9, node := 7, tag := 5, frame := 0 },
     by decide +kernel⟩,
   
     ⟨mrm (W 2) fun m => { m with asked := [{ id := 9, node := 7, tag := 5, frame := 0 }] }, 7, seg 5 0 [5], [5], 9, 5, 0, { id := 9, node := 7, tag := 5, frame := 0 },
     by decide +kernel⟩,
   
     ⟨W 2, mkc 0xFF #v[7, 0, 0, 0, 0, 0] (zeros 64), adm (W 2) (mkc 0xFF #v[7, 0, 0, 0, 0, 0] (zeros 64)) 0x1C06, cmdReq (mkc 0xFF #v[7, 0, 0, 0, 0, 0] (zeros 64)) 0x1C06, admits_fresh (by decide +kernel) (by decide +kernel) (by decide +kernel)⟩⟩

/-- States and operands that meet the hypotheses of each clause of LatchCompareCommandsComplete. -/
theorem witness_LatchCompareCommandsComplete :
  (∃ (s : State) (n : Fin 32) (st : Nat), (s.latch n).pair.pend = some st ∧ s.flag (LI_CFG n) LI_CFG_EN = true ∧
    s.flag (LI_CFG n) LI_CFG_ISEL = false ∧ nbit (s.get (LI_CFG n) LI_CFG_EDGE) (b2n (s.latch n).pair.lvl) = true) ∧
  (∃ (s : State) (n : Fin 32) (st : Nat), (s.latch n).pair.pend = some st ∧ s.flag (LI_CFG n) LI_CFG_EN = true ∧
    s.flag (LI_CFG n) LI_CFG_ISEL = false ∧ nbit (s.get (LI_CFG n) LI_CFG_EDGE) (b2n (s.latch n).pair.lvl) = false) ∧
  (∃ (s : State) (n : Fin 32) (st : Nat) (rising : Bool) (rest : List (Nat × Bool)), s.canonical = true ∧
    (s.latch n).open_ = (st, rising) :: rest ∧ s.get (LI_CFG n) LI_CFG_SRC = 0xFF ∧ s.flag (LI_CFG n) LI_CFG_ISEL = false ∧
    (s.latch n).fifo = [] ∧ s.flag (RC_CFG n) RC_CFG_EN = false) ∧
  (∃ (s : State) (n : Fin 32) (e : LatchEnt) (rest : List LatchEnt), s.canonical = true ∧ s.hostMay (LI_CMD n) ∧
    (s.latch n).fifo = e :: rest ∧ ((∀ x, (s.latch n).ovf = some x → x.1 ≠ s.tick))) ∧
  (∃ (s : State) (n : Fin 32) (e : LatchEnt) (x : LatchEnt) (rest : List LatchEnt) (w : Word), s.canonical = true ∧ s.hostMay (LI_CMD n) ∧
    (s.latch n).fifo = e :: rest ∧ (s.latch n).ovf = some (s.tick, x, w) ∧ s.flag (LI_CFG n) LI_CFG_OVFMODE = false) ∧
  (∃ (s : State) (n : Fin 32), s.canonical = true ∧ s.hostMay (LI_CMD n)) ∧
  (∃ (s : State) (n : Fin 32), s.canonical = true ∧ s.hostMay (LI_CMD n)) ∧
  (∃ (s : State) (n : Fin 16) (start : BitVec 12), s.canonical = true ∧ s.hostMay (CO_CMD n) ∧ s.flag (CO_CFG n) CO_CFG_EN = true ∧
    start.toNat < s.get (CO_LIST n) CO_LIST_COUNT ∧ (s.inMorning || s.running) = true) ∧
  (∃ (s : State) (n : Fin 16) (start : BitVec 12), s.hostMay (CO_CMD n) ∧ s.get (CO_LIST n) CO_LIST_COUNT ≤ start.toNat) ∧
  (∃ (s : State) (n : Fin 16), s.canonical = true ∧ s.hostMay (CO_CMD n)) ∧
  (∃ (s : State) (n : Fin 16), s.canonical = true ∧ s.hostMay (CO_CMD n)) ∧
  (∃ (s : State) (j : Fin 262144), s.canonical = true ∧ s.hostMay (0x100000 + 4 * j)) ∧
  (∃ (s : State) (j : Fin 262144) (n : Fin 16) (i : Nat), s.hostMay (0x100000 + 4 * j) ∧ j.val % 4 = 2 ∧ (s.compare n).hit = none ∧
    (s.compare n).check = none ∧ (s.compare n).armed = some i ∧ s.get (CO_LIST n) CO_LIST_BASE + i = j.val / 4) ∧
  (∃ (s : State) (n : Fin 16) (e : Nat), ((s.coUpdate n).compare n).lands = [] ∧ ((s.coUpdate n).compare n).pulseEnd = some e) ∧
  (∃ (s : State) (k : Fin 32), s.canonical = true ∧ s.hostMay (RC_CFG k) ∧ 0 ≤ s.rd64I (RC_LIMIT k) ∧ (s.inMorning = true ∨ s.inNoon = true ∧
    s.flag (RC_CFG k) RC_CFG_EN = false)) ∧
  (∃ (s : State) (k : Fin 32), s.hostMay (RC_CFG k) ∧ s.inMorning = false ∧ (s.inNoon = false ∨ s.flag (RC_CFG k) RC_CFG_EN = true)) :=
  ⟨
     ⟨(mlatch (W 1) 3 fun l => { l with pair := { l.pair with pend := some 64, rx := true } }).wrN (LI_CFG 3) (2 ^ LI_CFG_EN.lo + 2 ^ LI_CFG_EDGE.lo), 3, 64,
     by decide +kernel⟩,
   
     ⟨(mlatch (W 1) 3 fun l => { l with pair := { l.pair with pend := some 64, rx := true } }).wrN (LI_CFG 3) (2 ^ LI_CFG_EN.lo + 2 * 2 ^ LI_CFG_EDGE.lo), 3, 64,
     by decide +kernel⟩,
   ⟨(mlatch (W 1) 3 fun l => { l with open_ := [(64, true)] }).wrN (LI_CFG 3) (2 ^ LI_CFG_EN.lo + 0xFF * 2 ^ LI_CFG_SRC.lo), 3, 64, true, [],
     by decide +kernel⟩,
   
     ⟨mlatch (W 1) 3 fun l => { l with fifo := [{ stamp := 1, rising := true, pos := 0, pinv := false }, { stamp := 2, rising := true, pos := 0, pinv := false }] }, 3, { stamp := 1, rising := true, pos := 0, pinv := false }, [{ stamp := 2, rising := true, pos := 0, pinv := false }],
     by decide +kernel, ⟨by decide +kernel, by decide +kernel⟩, by decide +kernel, by decide +kernel⟩,
   
     ⟨mlatch (W 1) 3 fun l => { l with fifo := [{ stamp := 1, rising := true, pos := 0, pinv := false }, { stamp := 2, rising := true, pos := 0, pinv := false }], ovf := some (0, { stamp := 3, rising := true, pos := 0, pinv := false }, 0) }, 3, { stamp := 1, rising := true, pos := 0, pinv := false }, { stamp := 3, rising := true, pos := 0, pinv := false }, [{ stamp := 2, rising := true, pos := 0, pinv := false }], 0,
     by decide +kernel, ⟨by decide +kernel, by decide +kernel⟩, by decide +kernel, by decide +kernel, by decide +kernel⟩,
   ⟨W 1, 3, by decide +kernel, ⟨by decide +kernel, by decide +kernel⟩⟩,
   ⟨W 1, 3, by decide +kernel, ⟨by decide +kernel, by decide +kernel⟩⟩,
   ⟨((W 1).wrN (CO_CFG 3) (2 ^ CO_CFG_EN.lo)).wrN (CO_LIST 3) (5 * 2 ^ CO_LIST_COUNT.lo), 3, 4, by decide +kernel, ⟨by decide +kernel,
     by decide +kernel⟩, by decide +kernel, by decide +kernel, by decide +kernel⟩,
   ⟨((W 1).wrN (CO_CFG 3) (2 ^ CO_CFG_EN.lo)).wrN (CO_LIST 3) (5 * 2 ^ CO_LIST_COUNT.lo), 3, 5, ⟨by decide +kernel, by decide +kernel⟩,
     by decide +kernel⟩,
   ⟨(mcmp (W 1) 3 fun c => { c with armed := some 1, active := true, pulseEnd := some 9 }).wrN (CO_FIRED 3) 8, 3,
     by decide +kernel, ⟨by decide +kernel, by decide +kernel⟩⟩,
   ⟨(mcmp (W 1) 3 fun c => { c with armed := some 1, active := true, pulseEnd := some 9 }).wrN (CO_FIRED 3) 8, 3,
     by decide +kernel, ⟨by decide +kernel, by decide +kernel⟩⟩,
   ⟨W 1, 5, by decide +kernel, ⟨by decide +kernel, by decide +kernel⟩⟩,
   
     ⟨mcmp ((W 1).wrN (CO_LIST 3) (1 * 2 ^ CO_LIST_BASE.lo + 5 * 2 ^ CO_LIST_COUNT.lo)) 3 fun c => { c with armed := some 2 }, 14, 3, 2, ⟨by decide +kernel,
     by decide +kernel⟩, by decide +kernel, by decide +kernel, by decide +kernel, by decide +kernel, by decide +kernel⟩,
   ⟨mcmp (W 1) 3 fun c => { c with active := true, pulseEnd := some 9 }, 3, 9, by decide +kernel⟩,
   ⟨(W 1).wr64N (RC_LIMIT 3) 5, 3, by decide +kernel, ⟨by decide +kernel, by decide +kernel⟩, by decide +kernel, by decide +kernel⟩,
   ⟨(W 2).wrN (RC_CFG 3) (2 ^ RC_CFG_EN.lo), 3, ⟨by decide +kernel, by decide +kernel⟩, by decide +kernel, by decide +kernel⟩⟩

/-- States and operands that meet the hypotheses of each clause of CaptureCommandsComplete. -/
theorem witness_CaptureCommandsComplete :
  (∃ (s : State) (u : Fin 8), s.canonical = true ∧ s.hostMay (CU_CMD u) ∧ s.armCause u = 0) ∧
  (∃ (s : State) (u : Fin 8), s.canonical = true ∧ s.hostMay (CU_CMD u) ∧ s.armCause u ≠ 0) ∧
  (∃ (s : State) (u : Fin 8), s.canonical = true ∧ s.hostMay (CU_CMD u)) ∧
  (∃ (s : State) (u : Fin 8), s.canonical = true ∧ s.hostMay (CU_CMD u) ∧ s.cuPhase u = 1 ∧ (s.cu u).trig = none) ∧
  (∃ (s : State) (u : Fin 8), s.hostMay (CU_CMD u) ∧ s.cuPhase u = 1) ∧
  (∃ (s : State) (u : Fin 8), s.hostMay (CU_CMD u) ∧ s.cuPhase u ≠ 1) ∧
  (∃ (s : State) (u : Fin 8) (t32 : Nat), s.sampleAt u = some t32 ∧ s.cuPhase u = 1 ∧ (∀ m < 8, s.flag (CU_TCCFG u m) CU_TCCFG_EN = false) ∧
    (s.cu u).fire = false ∧ (s.cu u).await_ = none) ∧
  (∃ (s : State) (u : Fin 8) (t32 : Nat), s.canonical = true ∧ s.sampleAt u = some t32 ∧ s.cuPhase u = 1 ∧ (s.cu u).fire = true ∧
    (s.cu u).await_ = none ∧ 1 ≤ s.cuPost u) ∧
  (∃ (s : State), s.acq.queue = []) ∧
  (∃ (s : State) (m : FireMsg) (rest : List FireMsg), s.acq.queue = m :: rest ∧ s.flag CUG_FIREPUB CUG_FIREPUB_EN = true ∧
    s.acq.pubFrame ≠ some s.time.frameNum ∧ s.get (PUB_W0 (s.get CUG_FIREPUB CUG_FIREPUB_IDX)) PUB_W0_KIND = 5 ∧
    s.get (PUB_W1 (s.get CUG_FIREPUB CUG_FIREPUB_IDX)) PUB_W1_PLEN = 24) ∧
  (∃ (s : State) (u : Fin 8) (ses : BitVec 16), s.canonical = true ∧ ses ≠ 0 ∧ s.flag (CU_CFG u) CU_CFG_RXFIRE = true ∧
    s.get (CU_SESS u) CU_SESS_SESSION = ses.toNat ∧ s.cuPhase u = 1 ∧ (s.cu u).await_ = none ∧ (s.cu u).stamps = []) ∧
  (∃ (s : State) (m : FireMsg) (rest : List FireMsg), s.acq.fires = m :: rest ∧ (∀ u < 8, s.flag (CU_CFG u) CU_CFG_RXFIRE = false)) ∧
  (∃ (s : State) (u : Fin 8), s.canonical = true ∧ s.cuPhase u = 3 ∧ s.get (CU_CFG u) CU_CFG_HOMODE = 0 ∧
    s.get (CU_STAT u) CU_STAT_SEG + 1 < s.cuSegs u) ∧
  (∃ (s : State) (u : Fin 8), s.canonical = true ∧ s.cuPhase u = 3 ∧ s.get (CU_CFG u) CU_CFG_HOMODE = 0 ∧
    s.cuSegs u ≤ s.get (CU_STAT u) CU_STAT_SEG + 1) :=
  ⟨⟨((W 2).wrN (CU_CFG 3) (2 ^ CU_CFG_FAST.lo + 2 ^ CU_CFG_NCH.lo)).wrN (CU_MEM 3) (2 ^ CU_MEM_SIZE.lo), 3,
     by decide +kernel, ⟨by decide +kernel, by decide +kernel⟩, by decide +kernel⟩,
   ⟨W 2, 3, by decide +kernel, ⟨by decide +kernel, by decide +kernel⟩, by decide +kernel⟩,
   ⟨W 2, 3, by decide +kernel, ⟨by decide +kernel, by decide +kernel⟩⟩,
   ⟨(W 2).put (CU_STAT 3) CU_STAT_PHASE 1, 3, by decide +kernel, ⟨by decide +kernel, by decide +kernel⟩, by decide +kernel, by decide +kernel⟩,
   ⟨(W 2).put (CU_STAT 3) CU_STAT_PHASE 1, 3, ⟨by decide +kernel, by decide +kernel⟩, by decide +kernel⟩,
   ⟨W 2, 3, ⟨by decide +kernel, by decide +kernel⟩, by decide +kernel⟩,
   ⟨mcu ((W 2).put (CU_STAT 3) CU_STAT_PHASE 1) 3 fun c => { c with due := some 640 }, 3, 640, by decide +kernel⟩,
   
     ⟨mcu (((W 2).put (CU_STAT 3) CU_STAT_PHASE 1).wrN (CU_MEM 3) (2 ^ CU_MEM_SIZE.lo) |>.wrN (CU_POST 3) 5 |>.wrN (CU_CFG 3) (2 ^ CU_CFG_NCH.lo)) 3 fun c => { c with due := some 640, fire := true }, 3, 640,
     by decide +kernel⟩,
   ⟨W 2, by decide +kernel⟩,
   
     ⟨(((W 2).setf CUG_FIREPUB CUG_FIREPUB_EN).put (PUB_W0 0) PUB_W0_KIND 5 |>.put (PUB_W1 0) PUB_W1_PLEN 24).modAcq fun a => { a with queue := [⟨1, 3, 0, true, 9, 1⟩] }, ⟨1, 3, 0, true, 9, 1⟩, [],
     by decide +kernel⟩,
   ⟨(((W 2).put (CU_STAT 3) CU_STAT_PHASE 1).setf (CU_CFG 3) CU_CFG_RXFIRE).put (CU_SESS 3) CU_SESS_SESSION 7, 3, 7, by decide +kernel⟩,
   ⟨(W 2).modAcq fun a => { a with fires := [⟨1, 3, 0, true, 9, 1⟩] }, ⟨1, 3, 0, true, 9, 1⟩, [], by decide +kernel⟩,
   ⟨((W 2).put (CU_STAT 3) CU_STAT_PHASE 3).put (CU_CFG 3) CU_CFG_SEGS 3, 3, by decide +kernel⟩,
   ⟨((W 2).put (CU_STAT 3) CU_STAT_PHASE 3).put (CU_CFG 3) CU_CFG_SEGS 0, 3, by decide +kernel⟩⟩

/-- States and operands that meet the hypotheses of each clause of MotionEventCommandsComplete. -/
theorem witness_MotionEventCommandsComplete :
  (∃ (s : State) (n : Fin 80) (g : Seg), s.canonical = true ∧ (s.mo n).segs = [g] ∧ s.running = true ∧ (s.mo n).ramp = none ∧
    (s.mo n).inUse = true ∧ g.last = true ∧ s.srcOf n = 1 ∧ s.frameTime (g.start + g.dur) ≤ s.mt16 (s.targetOf n s.now) ∧
    near (s.segAt g (s.frameTime (g.start + g.dur))).2.1 0 = true ∧ near (s.segAt g (s.frameTime (g.start + g.dur))).2.2 0 = true) ∧
  (∃ (s : State) (k : Fin 32) (o : Int), s.canonical = true ∧ s.flag (RC_CFG k) RC_CFG_EN = true ∧
    s.regGeared (s.get (RC_CFG k) RC_CFG_FAX) = true ∧ s.get (LI_CFG k) LI_CFG_SRC < 0x80 ∧ (s.rc k).seenRep = some o ∧ (s.rc k).reps = [] ∧
    s.flag (RC_STAT k) RC_STAT_MISS = false ∧ s.get (RC_MISS k) RC_MISS_MISSLIM ≠ 0 ∧
    o < (s.regRepeat k (s.sourcePos (s.get (LI_CFG k) LI_CFG_SRC) s.now (s.now / 32))) ∧
    s.get (RC_MISS k) RC_MISS_MISSLIM ≤ (s.rc k).missRun + ((s.regRepeat k (s.sourcePos (s.get (LI_CFG k) LI_CFG_SRC) s.now (s.now / 32))) - o).toNat) ∧
  (∃ (s : State) (k : Fin 16) (m : MState), s.canonical = true ∧ s.flag (LS_CFG k) LS_CFG_EN = true ∧ (s.shaft k).newest = some m ∧
    (s.shaft k).frame ≠ some s.time.frameNum ∧ (s.shaft k).at_ ≠ s.tick ∧ (s.shaft k).cont = none ∧ (s.shaft k).stepPend = false ∧
    1 < ((s.frameTime s.time.frameNum - m.ts + s.frameTime 1 / 2) / max 1 (s.frameTime 1)) ∧
    ((s.frameTime s.time.frameNum - m.ts + s.frameTime 1 / 2) / max 1 (s.frameTime 1)) - 1 ≤ (s.shaft k).coast) ∧
  (∃ (s : State) (k : Fin 16), s.flag (LS_CFG k) LS_CFG_EN = true ∧ (s.shaft k).frame = some s.time.frameNum) ∧
  (∃ (s : State) (k : Fin 16) (m : MState), s.canonical = true ∧ s.flag (LS_CFG k) LS_CFG_EN = true ∧ (s.shaft k).newest = some m ∧
    (s.shaft k).frame ≠ some s.time.frameNum ∧ (s.shaft k).at_ ≠ s.tick ∧ (s.shaft k).cont = none ∧ (s.shaft k).stepPend = false ∧
    1 < ((s.frameTime s.time.frameNum - m.ts + s.frameTime 1 / 2) / max 1 (s.frameTime 1)) ∧
    (s.shaft k).coast < ((s.frameTime s.time.frameNum - m.ts + s.frameTime 1 / 2) / max 1 (s.frameTime 1)) - 1) ∧
  (∃ (s : State) (n : Fin 80), s.canonical = true ∧ s.hostMay (AX_CAM n)) ∧
  (∃ (s : State) (n : Fin 64), s.canonical = true ∧ s.hostMay (AXL_LCFG n)) ∧
  (∃ (s : State) (n : Fin 64) (t0 : Nat) (f : Nat → Word), s.canonical = true ∧ s.pw.phase = .running ∧ (s.loop n).capAt = some t0 ∧
    (s.loop n).cap = (loopWords n).map f ∧ n.val < 32 ∧ (s.nextBoundary n (s.posCells n)).1 ≤ s.time.frameNum ∧
    32 * (t0 + 16) ≤ (s.nextBoundary n (s.posCells n)).2.2.1) ∧
  (∃ (s : State) (n : Fin 64) (t0 : Nat) (f : Nat → Word), s.canonical = true ∧ s.pw.phase = .running ∧ s.time.stepPend = none ∧
    (s.loop n).capAt = some t0 ∧ (s.loop n).cap = (loopWords n).map f ∧ 32 ≤ n.val ∧ 32 * (t0 + 16) ≤ s.nextFrame.2.1) ∧
  (∃ (s : State) (k : Fin 16), s.canonical = true ∧ s.hostMay (LPINJ_CFG k) ∧ s.flag (LPINJ_STAT k) LPINJ_STAT_RUNNING = false ∧
    s.inNoon = true ∧ s.injBad k = none ∧ (s.mo (s.get (LPINJ_CFG k) LPINJ_CFG_AXIS)).ramp = none) ∧
  (∃ (s : State) (k : Fin 16), s.canonical = true ∧ s.hostMay (LPINJ_CFG k) ∧ s.flag (LPINJ_STAT k) LPINJ_STAT_RUNNING = false ∧
    s.inNoon = false) ∧
  (∃ (s : State) (k : Fin 16), s.canonical = true ∧ s.hostMay (LPINJ_CFG k) ∧ s.flag (LPINJ_STAT k) LPINJ_STAT_RUNNING = true) ∧
  (∃ (s : State) (k : Fin 16) (r : RunReq) (rest : List RunReq), s.canonical = true ∧ s.flag (LPINJ_STAT k) LPINJ_STAT_RUNNING = true ∧
    s.lpOf (s.get (LPINJ_CFG k) LPINJ_CFG_AXIS) = k.val ∧ (s.get (LPINJ_CFG k) LPINJ_CFG_AXIS) < 32 ∧ s.queue k = r :: rest ∧
    r.kind = .vel ∧ r.axis = (s.get (LPINJ_CFG k) LPINJ_CFG_AXIS) ∧ (s.lp k).run = none ∧ s.lpMode k = 1 ∧ s.isStd k (s.lpBank k) = true ∧
    (s.lp k).swapWait = none ∧ (s.inj k).startAt + 16 ≤ max r.at_ (s.lp k).free ∧
    (s.loop (s.get (LPINJ_CFG k) LPINJ_CFG_AXIS)).enabled = true ∧ (s.loop (s.get (LPINJ_CFG k) LPINJ_CFG_AXIS)).toff = none ∧
    (s.loop (s.get (LPINJ_CFG k) LPINJ_CFG_AXIS)).ovRuns = 0 ∧ r.inp.velValid = true ∧ s.rdN (LPINJ_DUR k) ≠ 0 ∧
    s.rdN (LPINJ_DUR k) ≤ (s.inj k).k + 1) :=
  ⟨
     ⟨mmo (mtm ((W 2).put (AX_SRC 70) AX_SRC_SRC 1) fun t => { t with frameNum := 100, tick := 10 ^ 7, mt := 10 ^ 9 * 2 ^ 32 }) 70 fun m => { m with segs := [{ start := 1, dur := 8, p0 := 5, v0 := 0, a0 := 0, j := 0, last := true, move := 1 }], inUse := true }, 70, { start := 1, dur := 8, p0 := 5, v0 := 0, a0 := 0, j := 0, last := true, move := 1 },
     by decide +kernel⟩,
   
     ⟨mrc ((((W 2).wrN (RC_CFG 3) (2 ^ RC_CFG_EN.lo + 5 * 2 ^ RC_CFG_FAX.lo)).put (AX_SRC 5) AX_SRC_SRC 2 |>.put (LI_CFG 3) LI_CFG_SRC 5 |>.put (RC_MISS 3) RC_MISS_MISSLIM 2).wr64N (RC_REPEAT 3) 1000) 3 fun r => { r with seenRep := some (-4) }, 3, -4,
     by decide +kernel⟩,
   
     ⟨mshaft ((mtm (W 2) fun t => { t with frameNum := 10, tick := 5 }).setf (LS_CFG 3) LS_CFG_EN) 3 fun l => { l with newest := some { ts := (W 2).frameTime 7 } }, 3, { ts := (W 2).frameTime 7 },
     by decide +kernel⟩,
   ⟨mshaft ((mtm (W 2) fun t => { t with frameNum := 10, tick := 5 }).setf (LS_CFG 3) LS_CFG_EN) 3 fun l => { l with frame := some 10 }, 3,
     by decide +kernel⟩,
   
     ⟨mshaft (((mtm (W 2) fun t => { t with frameNum := 30, tick := 5 }).setf (LS_CFG 3) LS_CFG_EN).put (AX_SRC 5) AX_SRC_SRC 2 |>.put (AX_SRC 5) AX_SRC_MSEL 0x83) 3 fun l => { l with newest := some { ts := (W 2).frameTime 7 } }, 3, { ts := (W 2).frameTime 7 },
     by decide +kernel⟩,
   ⟨W 2, 70, by decide +kernel, ⟨by decide +kernel, by decide +kernel⟩⟩,
   ⟨W 2, 5, by decide +kernel, ⟨by decide +kernel, by decide +kernel⟩⟩,
   
     ⟨mloop (mtm (W 2) fun t => { t with frameNum := 5 }) 5 fun l => { l with capAt := some 0, cap := (loopWords 5).map fun _ => 0 }, 5, 0, fun _ => 0,
     by decide +kernel⟩,
   ⟨mloop (W 2) 35 fun l => { l with capAt := some 0, cap := (loopWords 35).map fun _ => 0 }, 35, 0, fun _ => 0, by decide +kernel⟩,
   ⟨((W 2).put (LPINJ_CFG ((W 2).lpOf 5)) LPINJ_CFG_AXIS 5), ⟨(W 2).lpOf 5 % 16, by decide⟩, by decide +kernel, ⟨by decide +kernel,
     by decide +kernel⟩, by decide +kernel, by decide +kernel, by decide +kernel, by decide +kernel⟩,
   ⟨W 1, 2, by decide +kernel, ⟨by decide +kernel, by decide +kernel⟩, by decide +kernel, by decide +kernel⟩,
   ⟨(W 2).setf (LPINJ_STAT 2) LPINJ_STAT_RUNNING, 2, by decide +kernel, ⟨by decide +kernel, by decide +kernel⟩, by decide +kernel⟩,
   
     ⟨(mloop ((((runS .vel 5 ((W 2).lpOf 5)).put (LPINJ_CFG ((W 2).lpOf 5)) LPINJ_CFG_AXIS 5).setf (LPINJ_STAT ((W 2).lpOf 5)) LPINJ_STAT_RUNNING |>.wrN (LPINJ_DUR ((W 2).lpOf 5)) 1).modLp ((W 2).lpOf 5) fun l => { l with free := 100 }) 5 fun l => { l with enabled := true }).modQueue ((W 2).lpOf 5) fun _ => [{ kind := .vel, axis := 5, at_ := 5, b := 160, due := 9999999, inp := { velValid := true } }], ⟨(W 2).lpOf 5 % 16,
     by decide⟩, { kind := .vel, axis := 5, at_ := 5, b := 160, due := 9999999, inp := { velValid := true } }, [], by decide +kernel⟩⟩

/-- States and operands that meet the hypotheses of each clause of EncoderPortCommandsComplete. -/
theorem witness_EncoderPortCommandsComplete :
  (∃ (s : State) (n : Fin 40) (i : Fin 3) (lvl : Bool), (vget (s.port n).pairs i {}).pend = none ∧ (vget (s.port n).pairs i {}).n = !lvl ∧
    (vget (s.port n).pairs i {}).rx = !lvl) ∧
  (∃ (s : State) (n : Fin 32) (lvl : Bool), (s.latch n).pair.pend = none ∧ (s.latch n).pair.n = !lvl ∧ (s.latch n).pair.rx = !lvl ∧
    (s.latch n).pair.lvl = !lvl ∧ (s.latch n).lastTick = none) ∧
  (∃ (s : State) (n : Fin 40) (st : Nat), s.canonical = true ∧ (vget (s.port n).pairs 0 {}).pend = some st ∧ s.portOn n = true ∧
    s.portMode n = 1 ∧ (s.port n).frozen = none ∧ (vget (s.port n).pairs 0 {}).suspect = none ∧ (vget (s.port n).pairs 1 {}).pend = none ∧
    s.flag (EP_CFG n) EP_CFG_DIRINV = false) ∧
  (∃ (s : State) (n : Fin 40) (st : Nat) (st1 : Nat), s.canonical = true ∧ (vget (s.port n).pairs 0 {}).pend = some st ∧ s.portOn n = true ∧
    s.portMode n = 1 ∧ (s.port n).frozen = none ∧ (vget (s.port n).pairs 0 {}).suspect = none ∧
    (vget (s.port n).pairs 1 {}).suspect = none ∧ (vget (s.port n).pairs 1 {}).pend = some st1 ∧ st1 / 32 = st / 32) ∧
  (∃ (s : State) (n : Fin 40) (st : Nat), s.canonical = true ∧ s.portOn n = true ∧ s.portSsi n = false ∧ (s.port n).lastEdge = some st) ∧
  (∃ (s : State) (n : Fin 40) (i : Fin 3) (t0 : Nat), s.canonical = true ∧ (vget (s.port n).pairs i {}).suspect = some t0 ∧
    s.aget (EP_FILT n) EP_FILT_WFT ≠ 0 ∧ s.portOn n = true ∧ (s.port n).frozen = none) ∧
  (∃ (s : State) (n : Fin 40), s.canonical = true ∧ (s.port n).load = true ∧ s.portOn n = true ∧ s.pw.phase = .running ∧
    s.time.stepPend = none ∧ s.get (EP_SYNC n) EP_SYNC_CYCLE = 3 ∧ (∀ x ∈ (s.port n).edges, x.1 ≤ (s.nextFrame.2.1) ∧
    x.2.2 ≤ (s.nextFrame.2.1) / 32) ∧ (∀ x ∈ (s.port n).shifts, x.1 ≤ (s.nextFrame.2.1))) ∧
  (∃ (s : State) (n : Fin 40), s.canonical = true ∧ (s.port n).load = true ∧ s.portOn n = true ∧ s.pw.phase = .running ∧
    s.get (EP_SYNC n) EP_SYNC_CYCLE ≠ 3 ∧ (s.get (EP_SYNC n) EP_SYNC_AXIS) < 80 ∧
    (s.nextBoundary (s.get (EP_SYNC n) EP_SYNC_AXIS) (s.syncCells n)).1 ≤ s.time.frameNum ∧
    (∀ x ∈ (s.port n).edges, x.1 ≤ ((s.nextBoundary (s.get (EP_SYNC n) EP_SYNC_AXIS) (s.syncCells n)).2.2.1) ∧
    x.2.2 ≤ ((s.nextBoundary (s.get (EP_SYNC n) EP_SYNC_AXIS) (s.syncCells n)).2.2.1) / 32) ∧
    (∀ x ∈ (s.port n).shifts, x.1 ≤ ((s.nextBoundary (s.get (EP_SYNC n) EP_SYNC_AXIS) (s.syncCells n)).2.2.1))) ∧
  (∃ (s : State) (n : Fin 40), s.canonical = true ∧ s.pw.phase = .running ∧ s.time.stepPend = none ∧ s.get (EP_SYNC n) EP_SYNC_CYCLE = 3 ∧
    s.rd (EP_FILT n) ≠ s.ard (EP_FILT n) ∧ (s.port n).setTick ≠ some ((s.nextFrame.2.1) / 32)) ∧
  (∃ (s : State) (n : Fin 40), (∀ a ∈ staged n, s.rd a = s.ard a)) ∧
  (∃ (s : State) (n : Fin 40), s.portOn n = true ∧ s.portSsi n = true ∧ s.drivesLands = true ∧ (s.port n).ssi.start = none ∧
    (s.port n).ssi.forB = none ∧ s.now + (32 * (s.ssiFrameTime n + 8)) ≤ ((s.syncInstant n).1) ∧
    (s.port n).ssi.busyUntil ≤ (((s.syncInstant n).1) - (32 * (s.ssiFrameTime n + 8))) / 32) ∧
  (∃ (s : State) (n : Fin 40), s.canonical = true ∧ s.portOn n = true ∧ s.portSsi n = true ∧ s.drivesLands = true ∧
    (s.port n).ssi.forB = none ∧ s.now + (32 * (s.ssiFrameTime n + 8)) ≤ ((s.syncInstant n).1) ∧
    max s.tick ((((s.syncInstant n).1) - (32 * (s.ssiFrameTime n + 8))) / 32) < (s.port n).ssi.busyUntil) ∧
  (∃ (s : State) (n : Fin 40) (S : Nat) (f : Nat), s.canonical = true ∧ (s.port n).ssi.start = some S ∧ (s.port n).ssi.cal = true ∧
    s.flag (EP_STAT n) EP_STAT_WIRE_FAULT = false ∧
    ((s.port n).ssi.data.filter fun d => !d.2 && decide (d.1 ≤ S + 32 * (s.ssiFrameTime n + 4 * s.get (EP_SSI n) EP_SSI_CLKPER))).getLast? = some (f, false)) ∧
  (∃ (s : State) (n : Fin 40) (S : Nat) (f : Nat), s.canonical = true ∧ (s.port n).ssi.start = some S ∧ (s.port n).ssi.cal = false ∧
    (s.port n).ssi.prev = none ∧ s.flag (EP_STAT n) EP_STAT_WIRE_FAULT = false ∧ s.ssiBit n S (s.get (EP_SSI n) EP_SSI_LEN + 1) = false ∧
    ((s.port n).ssi.data.filter fun d => !d.2 && decide (d.1 ≤ S + 32 * (s.ssiFrameTime n + 4 * s.get (EP_SSI n) EP_SSI_CLKPER))).getLast? = some (f, false)) ∧
  (∃ (s : State) (n : Fin 40) (S : Nat), s.canonical = true ∧ (s.port n).ssi.start = some S ∧
    ((∀ d ∈ (s.port n).ssi.data, d.2 = true) ∨ (s.port n).ssi.cal = false ∧ s.ssiBit n S (s.get (EP_SSI n) EP_SSI_LEN + 1) = true)) ∧
  (∃ (s : State) (n : Fin 40), s.hostMay (EP_CMD n)) ∧
  (∃ (s : State) (n : Fin 40), s.canonical = true ∧ s.hostMay (EP_CMD n) ∧ s.revalRefused n = false) ∧
  (∃ (s : State) (n : Fin 40), s.hostMay (EP_CMD n) ∧ (s.flag (EP_STAT n) EP_STAT_LINE_BAD = true ∨ s.portSsi n = true ∧
    (s.port n).ssi.lastGood = false)) ∧
  (∃ (s : State) (n : Fin 40), s.canonical = true ∧ s.hostMay (EP_CMD n)) ∧
  (∃ (s : State) (n : Fin 40), s.canonical = true ∧ s.hostMay (EP_CMD n)) ∧
  (∃ (s : State) (n : Fin 40), s.canonical = true ∧ s.hostMay (EP_CMD n)) :=
  ⟨⟨mpair (prt 1) 3 1 fun q => { q with n := false, rx := false }, 3, 1, true, by decide +kernel⟩,
   ⟨W 1, 3, true, by decide +kernel⟩,
   ⟨mpair (prt 1) 3 0 fun q => { q with pend := some 64, rx := true }, 3, 64, by decide +kernel⟩,
   ⟨mpair (mpair (prt 1) 3 0 fun q => { q with pend := some 64, rx := true }) 3 1 fun q => { q with pend := some 70, rx := true }, 3, 64, 70,
     by decide +kernel⟩,
   ⟨mport (prt 1) 3 fun e => { e with lastEdge := some 640 }, 3, 640, by decide +kernel⟩,
   ⟨mpair ((prt 1).awr (EP_FILT 3) (BitVec.ofNat 32 (7 * 2 ^ EP_FILT_WFT.lo))) 3 2 fun q => { q with suspect := some 5 }, 3, 2, 5,
     by decide +kernel⟩,
   ⟨((mport (prt 1) 3 fun e => { e with load := true }).wrN (EP_SYNC 3) (3 * 2 ^ EP_SYNC_CYCLE.lo)).wr64N (EP_PRESET 3) (5 * 2 ^ 24), 3,
     by decide +kernel⟩,
   ⟨(mtm (mport (prt 1) 3 fun e => { e with load := true }) fun t => { t with frameNum := 5 }).wr64N (EP_PRESET 3) (5 * 2 ^ 24), 3,
     by decide +kernel⟩,
   ⟨((prt 1).wrN (EP_SYNC 3) (3 * 2 ^ EP_SYNC_CYCLE.lo)).wrN (EP_FILT 3) 9, 3, by decide +kernel⟩,
   ⟨W 1, 3, by decide +kernel⟩,
   ⟨((prt 4).wrN (EP_SYNC 3) (3 * 2 ^ EP_SYNC_CYCLE.lo)).wrN (EP_SSI 3) (100 * 2 ^ EP_SSI_CLKPER.lo + 10 * 2 ^ EP_SSI_LEN.lo), 3,
     by decide +kernel⟩,
   
     ⟨mport (((prt 4).wrN (EP_SYNC 3) (3 * 2 ^ EP_SYNC_CYCLE.lo)).wrN (EP_SSI 3) (100 * 2 ^ EP_SSI_CLKPER.lo + 10 * 2 ^ EP_SSI_LEN.lo)) 3 (fun e => { e with ssi := { e.ssi with busyUntil := 99999999 } }), 3,
     by decide +kernel⟩,
   
     ⟨mport ((prt 4).wrN (EP_SSI 3) (100 * 2 ^ EP_SSI_CLKPER.lo + 10 * 2 ^ EP_SSI_LEN.lo)) 3 (fun e => { e with ssi := { e.ssi with start := some 3200, cal := true, data := [(6000, true), (5000, false)] } }), 3, 3200, 5000,
     by decide +kernel⟩,
   
     ⟨mport ((prt 4).wrN (EP_SSI 3) (100 * 2 ^ EP_SSI_CLKPER.lo + 10 * 2 ^ EP_SSI_LEN.lo + 8 * 2 ^ EP_SSI_POSLEN.lo)) 3 (fun e => { e with ssi := { e.ssi with start := some 3200, cal := false, data := [(30000, false), (26000, true), (5000, false)] } }), 3, 3200, 5000,
     by decide +kernel⟩,
   
     ⟨mport ((prt 4).wrN (EP_SSI 3) (100 * 2 ^ EP_SSI_CLKPER.lo + 10 * 2 ^ EP_SSI_LEN.lo)) 3 (fun e => { e with ssi := { e.ssi with start := some 3200, cal := false, lvl0 := true } }), 3, 3200,
     by decide +kernel⟩,
   ⟨prt 1, 3, ⟨by decide +kernel, by decide +kernel⟩⟩,
   ⟨mport (prt 1) 3 fun e => { e with frozen := some 8 }, 3, by decide +kernel, ⟨by decide +kernel, by decide +kernel⟩, by decide +kernel⟩,
   ⟨(prt 1).setf (EP_STAT 3) EP_STAT_LINE_BAD, 3, ⟨by decide +kernel, by decide +kernel⟩, by decide +kernel⟩,
   ⟨((prt 1).setf (EP_STAT 3) EP_STAT_ERR).wrN (EP_CNT 3) 77, 3, by decide +kernel, ⟨by decide +kernel, by decide +kernel⟩⟩,
   ⟨((prt 1).setf (EP_STAT 3) EP_STAT_ERR).wrN (EP_CNT 3) 77, 3, by decide +kernel, ⟨by decide +kernel, by decide +kernel⟩⟩,
   ⟨((prt 1).setf (EP_STAT 3) EP_STAT_ERR).wrN (EP_CNT 3) 77, 3, by decide +kernel, ⟨by decide +kernel, by decide +kernel⟩⟩⟩

/-- States and operands that meet the hypotheses of each clause of TwinCommandsComplete. -/
theorem witness_TwinCommandsComplete :
  (∃ (s : State), s.canonical = true ∧ s.paired = true ∧ s.flag TW_STAT TW_STAT_ACTOUT = false ∧ s.running = true ∧ s.tw.unhealthy = false ∧
    s.isWatch = false) ∧
  (∃ (s : State), s.canonical = true ∧ s.paired = true ∧ s.flag TW_STAT TW_STAT_ACTOUT = false ∧ s.running = true ∧ s.tw.unhealthy = false ∧
    s.isWatch = true ∧ s.flag TW_STAT TW_STAT_READY = true) ∧
  (∃ (s : State), s.paired = false) ∧
  (∃ (s : State), s.canonical = true ∧ s.flag TW_STAT TW_STAT_ACTOUT = true ∧ s.primary = false) ∧
  (∃ (s : State), s.canonical = true ∧ s.flag TW_STAT TW_STAT_ACTOUT = true ∧ s.primary = true) ∧
  (∃ (s : State), s.canonical = true ∧ s.flag TW_STAT TW_STAT_ACTOUT = true ∧ s.inDawn = false) ∧
  (∃ (s : State), s.flag TW_STAT TW_STAT_ACTOUT = false) ∧
  (∃ (s : State), s.paired = true ∧ s.inDawn = false ∧ s.tw.unhealthy = false) ∧
  (∃ (s : State), s.canonical = true ∧ s.paired = true) ∧
  (∃ (s : State), s.canonical = true ∧ s.paired = true) ∧
  (∃ (s : State), s.paired = true ∧ s.isWatch = true) ∧
  (∃ (s : State), s.paired = true) ∧
  (∃ (s : State), s.canonical = true ∧ s.paired = true ∧ s.isWatch = true) ∧
  (∃ (s : State), s.canonical = true ∧ s.paired = true ∧ s.flag TW_STAT TW_STAT_TACK_LOST = false) ∧
  (∃ (s : State), s.canonical = true ∧ s.hostMay TW_HO ∧ s.flag TW_STAT TW_STAT_PEER_READY = true ∧ s.time.frameNum + 2 ≤ s.rd64N TW_HOFRAME ∧
    s.flag TW_HO TW_HO_PEND = false) ∧
  (∃ (s : State), s.canonical = true ∧ s.hostMay TW_HO ∧ s.flag TW_STAT TW_STAT_PEER_READY = false) ∧
  (∃ (s : State), s.canonical = true ∧ s.flag TW_HO TW_HO_PEND = true ∧ s.rd64N TW_HOFRAME ≤ s.time.frameNum ∧
    s.flag TW_STAT TW_STAT_ACTOUT = true ∧ s.inDawn = false) ∧
  (∃ (s : State), s.canonical = true ∧ s.hostMay TW_CMD) ∧
  (∃ (s : State), s.canonical = true ∧ s.hostMay TW_CMD) ∧
  (∃ (s : State), s.canonical = true) ∧
  (∃ (s : State), s.canonical = true) :=
  ⟨⟨tws 2 0, by decide +kernel⟩,
   ⟨(tws 2 2).setf TW_STAT TW_STAT_READY, by decide +kernel⟩,
   ⟨W 1, by decide +kernel⟩,
   ⟨(tws 2 1).setf TW_STAT TW_STAT_ACTOUT, by decide +kernel⟩,
   ⟨((tws 2 1).setf TW_STAT TW_STAT_ACTOUT).setf TW_STAT TW_STAT_PRIMARY, by decide +kernel⟩,
   ⟨(tws 2 1).setf TW_STAT TW_STAT_ACTOUT, by decide +kernel⟩,
   ⟨tws 2 0, by decide +kernel⟩,
   ⟨tws 2 0, by decide +kernel⟩,
   ⟨tws 2 0, by decide +kernel⟩,
   ⟨tws 2 1, by decide +kernel⟩,
   ⟨tws 2 2, by decide +kernel⟩,
   ⟨tws 2 1, by decide +kernel⟩,
   ⟨tws 2 2, by decide +kernel⟩,
   ⟨tws 2 1, by decide +kernel⟩,
   ⟨((tws 2 1).setf TW_STAT TW_STAT_PEER_READY).wr64N TW_HOFRAME 9, by decide +kernel, ⟨by decide +kernel, by decide +kernel⟩,
     by decide +kernel, by decide +kernel, by decide +kernel⟩,
   ⟨tws 2 1, by decide +kernel, ⟨by decide +kernel, by decide +kernel⟩, by decide +kernel⟩,
   ⟨((tws 2 1).setf TW_STAT TW_STAT_ACTOUT).setf TW_HO TW_HO_PEND, by decide +kernel⟩,
   ⟨tws 2 1, by decide +kernel, ⟨by decide +kernel, by decide +kernel⟩⟩,
   ⟨tws 2 1, by decide +kernel, ⟨by decide +kernel, by decide +kernel⟩⟩,
   ⟨tws 2 1, by decide +kernel⟩,
   ⟨tws 2 1, by decide +kernel⟩⟩

/-- States and operands that meet the hypotheses of each clause of RamauxCommandsComplete. -/
theorem witness_RamauxCommandsComplete :
  (∃ (s : State), s.inDawn = false ∧ s.rmOn = true ∧ (List.range 128).filter s.pubInForce = []) ∧
  (∃ (s : State) (i : Nat), s.inDawn = false ∧ s.rmOn = true ∧ (List.range 128).filter s.pubInForce = [i] ∧ s.get (PUB_W0 i) PUB_W0_KIND = 5) ∧
  (∃ (s : State) (f : List Byte), s.canonical = true ∧ s.inDawn = false ∧ bU f 0 1 ≠ 0x11) ∧
  (∃ (s : State) (f : List Byte) (i : Nat), s.inDawn = false ∧ bU f 0 1 = 0x11 ∧ crc32 (f.take 12) = bU f 12 4 ∧
    (s.time.frameNum + 2 ^ 32 - bU f 4 4 % 2 ^ 32) % 2 ^ 32 ≤ s.get RM_EPOCH RM_EPOCH_MAXAGE ∧ bU f 10 1 = 1 ∧
    (bU ((f.drop 16).take (bU f 8 2)) 4 2) + 12 ≤ ((f.drop 16).take (bU f 8 2)).length ∧ 1 ≤ bU ((f.drop 16).take (bU f 8 2)) 2 1 ∧
    bU ((f.drop 16).take (bU f 8 2)) 2 1 ≤ 5 ∧
    crc32 (((f.drop 16).take (bU f 8 2)).take (8 + (bU ((f.drop 16).take (bU f 8 2)) 4 2))) = bU ((f.drop 16).take (bU f 8 2)) (8 + (bU ((f.drop 16).take (bU f 8 2)) 4 2)) 4 ∧
    (List.range 256).find? (fun i => s.subInForce i && s.get (SUB_W0 i) SUB_W0_PUBID == bU ((f.drop 16).take (bU f 8 2)) 0 2 && s.get (SUB_W1 i) SUB_W1_SRCNODE == bU f 2 2 % 1024) = some i ∧
    bU ((f.drop 16).take (bU f 8 2)) 2 1 = s.get (SUB_W0 i) SUB_W0_KIND ∧
    (bU ((f.drop 16).take (bU f 8 2)) 4 2) = s.get (SUB_W1 i) SUB_W1_PLEN ∧ bU ((f.drop 16).take (bU f 8 2)) 6 1 = s.epoch) ∧
  (∃ (s : State) (v : Word), s.canonical = true ∧ s.hostMay RM_CFG ∧ wordOk RM_CFG v.toNat = true ∧ s.inMorning = true ∧
    nbit v.toNat 31 = true ∧ s.get RM_BELL RM_BELL_BELLWIN < s.get RM_CYC RM_CYC_TXSLOT ∧
    s.get RM_CYC RM_CYC_TXSLOT < s.get RM_CYCEND RM_CYCEND_CYCEND ∧ s.get RM_CYCEND RM_CYCEND_CYCEND ≤ s.frameLen) ∧
  (∃ (s : State) (v : Word), s.canonical = true ∧ s.hostMay RM_CFG ∧ wordOk RM_CFG v.toNat = true ∧ s.inMorning = true ∧
    nbit v.toNat 31 = true ∧ s.frameLen < s.get RM_CYCEND RM_CYCEND_CYCEND) ∧
  (∃ (s : State) (v : Word), s.canonical = true ∧ s.hostMay RM_CFG ∧ wordOk RM_CFG v.toNat = true ∧ s.inMorning = true ∧
    nbit v.toNat 31 = false) ∧
  (∃ (s : State), s.canonical = true ∧ s.hostMay RM_NEXT ∧ s.rm.change = none ∧ s.get RM_NEXT RM_NEXT_NEPOCH ≠ 0 ∧
    s.get RM_NEXT RM_NEXT_NEPOCH ≠ s.epoch ∧ s.time.frameNum + 3 ≤ s.rd64N RM_ACTFRAME ∧ s.flag RM_NEXT RM_NEXT_PEND = false) ∧
  (∃ (s : State), s.canonical = true ∧ s.hostMay RM_NEXT ∧ s.rd64N RM_ACTFRAME < s.time.frameNum + 3) ∧
  (∃ (s : State) (ne : Nat) (act : Nat), s.canonical = true ∧ s.rm.armed = some (ne, act) ∧ act ≤ s.time.frameNum ∧ ne < 256) ∧
  (∃ (s : State) (ne : Nat) (act : Nat), s.rm.armed = some (ne, act) ∧ s.time.frameNum < act) ∧
  (∃ (s : State), s.canonical = true ∧ s.inGrace = true ∧ s.rm.graceEnd ≤ s.time.frameNum) ∧
  (∃ (s : State), s.canonical = true ∧ s.hostMay RM_CMD) ∧
  (∃ (s : State) (cause : Nat) (d : Nat) (r : Bool) (rest : List (Nat × Nat × Bool × Bool)), s.rm.notices = (cause, d, false, r) :: rest ∧
    d < s.time.frameNum ∧ s.isWatch = false ∧ s.pw.fwRun = true ∧ s.inDawn = false ∧ s.rmOn = true) ∧
  (∃ (s : State) (o : Fin 1024) (l : LostNode) (rest : List LostNode), s.rm.lost = l :: rest ∧ l.node = o.val ∧ l.role = 0 ∧ l.back = false ∧
    l.d + s.get RM_BELL RM_BELL_HUSH + s.node % 32 ≤ s.time.frameNum ∧ s.isWatch = false ∧ s.pw.fwRun = true ∧
    (∀ i < 64, s.btMatch i o l.epoch = false)) ∧
  (∃ (s : State) (b : Bell), s.canonical = true ∧ b.crcOk = false) ∧
  (∃ (s : State) (b : Bell), s.canonical = true ∧ b.crcOk = true ∧ b.bkind = 1 ∧ (∀ i < 64, s.btMatch i b.origin b.epoch.toNat = false) ∧
    s.flag (BT_KEY 0) BT_KEY_USED = false) ∧
  (∃ (s : State) (b : Bell), s.canonical = true ∧ b.crcOk = true ∧ b.bkind = 1 ∧ s.btMatch 0 b.origin b.epoch.toNat = true ∧
    s.get (BT_KEY 0) BT_KEY_BKIND = 1) ∧
  (∃ (s : State) (i : Fin 64), s.canonical = true ∧ s.flag (BT_KEY i) BT_KEY_USED = true ∧
    s.get RM_BELL RM_BELL_BELLAGE ≤ (s.time.frameNum + 2 ^ 32 - s.rdN (BT_FIRST i)) % 2 ^ 32) ∧
  (∃ (s : State) (o : Fin 1024) (l : LostNode) (rest : List LostNode), s.rm.lost = l :: rest ∧ l.node = o.val ∧ l.recorded = false ∧
    s.pw.fwRun = true ∧ l.d + s.get RM_BELL RM_BELL_HUSH + 32 ≤ s.time.frameNum) :=
  ⟨⟨(W 2).setf RM_CFG RM_CFG_EN, by decide +kernel⟩,
   ⟨(((W 2).setf RM_CFG RM_CFG_EN).wrN (PUB_W0 3) (2 ^ 31 + 5 * 2 ^ 24 + (W 2).epoch * 2 ^ 16 + 9)).wrN (PUB_W1 3) 4, 3, by decide +kernel⟩,
   ⟨W 2, [0x13], by decide +kernel⟩,
   ⟨subS, cyc subS, 3, by decide +kernel⟩,
   ⟨(((W 1).put RM_BELL RM_BELL_BELLWIN 10).put RM_CYC RM_CYC_TXSLOT 100).put RM_CYCEND RM_CYCEND_CYCEND 1000, 0x80000005,
     by decide +kernel, ⟨by decide +kernel, by decide +kernel⟩, by decide +kernel, by decide +kernel, by decide +kernel, by decide +kernel,
     by decide +kernel, by decide +kernel⟩,
   ⟨((W 1).put RM_CYCEND RM_CYCEND_CYCEND 999999), 0x80000005, by decide +kernel, ⟨by decide +kernel, by decide +kernel⟩, by decide +kernel,
     by decide +kernel, by decide +kernel, by decide +kernel⟩,
   ⟨((W 1).put RM_CYCEND RM_CYCEND_CYCEND 999999), 0x00000005, by decide +kernel, ⟨by decide +kernel, by decide +kernel⟩, by decide +kernel,
     by decide +kernel, by decide +kernel⟩,
   ⟨((W 2).put RM_NEXT RM_NEXT_NEPOCH 7).wr64N RM_ACTFRAME 30, by decide +kernel, ⟨by decide +kernel, by decide +kernel⟩, by decide +kernel,
     by decide +kernel, by decide +kernel, by decide +kernel, by decide +kernel⟩,
   ⟨((W 2).put RM_NEXT RM_NEXT_NEPOCH 7), by decide +kernel, ⟨by decide +kernel, by decide +kernel⟩, by decide +kernel⟩,
   ⟨mrm (W 2) fun r => { r with armed := some (7, 0) }, 7, 0, by decide +kernel⟩,
   ⟨mrm (W 2) fun r => { r with armed := some (7, 10) }, 7, 10, by decide +kernel⟩,
   ⟨(W 2).setf RM_STAT RM_STAT_GRACERUN, by decide +kernel⟩,
   ⟨(W 2).wrN RM_CNT3 55, by decide +kernel, ⟨by decide +kernel, by decide +kernel⟩⟩,
   
     ⟨mrm (mtm ((W 2).setf RM_CFG RM_CFG_EN) fun t => { t with frameNum := 4 }) fun r => { r with notices := [(2, 3, false, false)] }, 2, 3, false, [],
     by decide +kernel⟩,
   
     ⟨mrm (mtm ((W 2).setf RM_CFG RM_CFG_EN) fun t => { t with frameNum := 4000 }) fun r => { r with lost := [{ node := 7, d := 3, epoch := 1, nsub := 1 }] }, 7, { node := 7, d := 3, epoch := 1, nsub := 1 }, [],
     by decide +kernel⟩,
   ⟨W 2, { bel with crcOk := false }, by decide +kernel⟩,
   ⟨W 2, bel, by decide +kernel⟩,
   ⟨(W 2).wrN (BT_KEY 0) (2 ^ 31 + 1 * 2 ^ 24 + 1 * 2 ^ 16 + 7), bel, by decide +kernel⟩,
   ⟨mtm ((W 2).wrN (BT_KEY 4) (2 ^ 31 + 1 * 2 ^ 24 + 1 * 2 ^ 16 + 7)) fun t => { t with frameNum := 4000000 }, 4, by decide +kernel⟩,
   
     ⟨mrm (mtm ((W 2).setf RM_CFG RM_CFG_EN) fun t => { t with frameNum := 4000 }) fun r => { r with lost := [{ node := 7, d := 3, epoch := 1, nsub := 1 }] }, 7, { node := 7, d := 3, epoch := 1, nsub := 1 }, [],
     by decide +kernel⟩⟩

/-- States and operands that meet the hypotheses of each clause of CanCommandsComplete. -/
theorem witness_CanCommandsComplete :
  (∃ (s : State) (n : Fin 4) (f : CanFrame) (k : Nat), s.canonical = true ∧ s.canOn n = true ∧ ((f.fdf = true →
    s.flag (CAN_CTRL n) CAN_CTRL_FDEN = true)) ∧ nbit (s.rdN SYS_HAMODE) 2 = false ∧ (List.range 64).find? (s.canBufMatch n f) = some k) ∧
  (∃ (s : State) (n : Fin 4) (f : CanFrame), s.canonical = true ∧ s.canOn n = true ∧ ((f.fdf = true →
    s.flag (CAN_CTRL n) CAN_CTRL_FDEN = true)) ∧ nbit (s.rdN SYS_HAMODE) 2 = true ∧ s.get (CAN_FIFO0 n) CAN_FIFO0_LEVEL < 32) ∧
  (∃ (s : State) (n : Fin 4), s.canOn n = false) ∧
  (∃ (s : State) (n : Fin 4) (m : Word64) (k : Fin 64), s.canonical = true ∧ s.hostMay (CAN_TXGO n) ∧ nbit m.toNat k = true ∧
    nbit (s.rd64N (CAN_BDIR n)) k = true ∧ s.canPending n k = false ∧ s.canWd n k = false ∧ s.canBusOff n = false) ∧
  (∃ (s : State) (n : Fin 4) (m : Word64) (k : Fin 64), s.canonical = true ∧ s.hostMay (CAN_TXWD n) ∧ nbit m.toNat k = true) ∧
  (∃ (s : State) (n : Fin 4) (back : BitVec 24) (k : Nat), s.canonical = true ∧ s.canSends n = true ∧
    s.canSending n (s.tick - 5 * back.toNat) = some (k, false)) ∧
  (∃ (s : State) (n : Fin 4) (back : BitVec 24) (k : Nat), s.canSends n = true ∧ s.flag (CAN_CTRL n) CAN_CTRL_ONESHOT = false ∧
    s.canSending n (s.tick - 5 * back.toNat) = some (k, false)) ∧
  (∃ (s : State) (n : Fin 4) (back : BitVec 24) (code : Fin 7) (more : Fin 32) (k : Nat), s.canonical = true ∧ s.canSends n = true ∧
    s.canSending n (s.tick - 5 * back.toNat) = some (k, false) ∧ code ≠ 0 ∧ s.canTec n + 8 + 8 * more.val ≤ 255) ∧
  (∃ (s : State) (n : Fin 4) (back : BitVec 24) (code : Fin 7) (more : Fin 32) (k : Nat), s.canonical = true ∧ s.canSends n = true ∧
    s.canSending n (s.tick - 5 * back.toNat) = some (k, false) ∧ code ≠ 0 ∧ 255 < s.canTec n + 8 + 8 * more.val ∧
    s.flag (CAN_URG n) CAN_URG_DIVEN = false) ∧
  (∃ (s : State) (n : Fin 4), s.hostMay (CAN_CTRL n) ∧ s.canBusOff n = true) ∧
  (∃ (s : State) (n : Fin 4), s.hostMay (CAN_CTRL n) ∧ s.canBusOff n = false) ∧
  (∃ (s : State) (n : Fin 4), s.canonical = true ∧ s.canBusOff n = true ∧ (s.can n).recov = true) ∧
  (∃ (s : State) (n : Fin 4) (k : Fin 64), s.canonical = true ∧ s.hostMay (CANBUF_FLAGS n k) ∧ (s.can n).stored ≠ some (s.cclk, k.val)) ∧
  (∃ (s : State) (n : Fin 4), s.canonical = true ∧ s.hostMay (CAN_FREL n) ∧ s.get (CAN_FIFO0 n) CAN_FIFO0_LEVEL ≠ 0 ∧
    (s.can n).fifoIn.all (fun (x : CanIn) => x.cyc != s.cclk || x.fifo != 0) = true) ∧
  (∃ (s : State) (n : Fin 4), s.canonical = true ∧ s.hostMay (CAN_FREL n) ∧ s.get (CAN_FIFO1 n) CAN_FIFO0_LEVEL ≠ 0 ∧
    (s.can n).fifoIn.all (fun (x : CanIn) => x.cyc != s.cclk || x.fifo != 1) = true) ∧
  (∃ (s : State) (n : Fin 4) (x : CanIn), s.hostMay (CAN_FREL n) ∧ (s.can n).fifoIn = some x ∧ x.cyc = s.cclk ∧ x.fifo = 0 ∧ x.level = 0) ∧
  (∃ (s : State) (n : Fin 4) (k : Fin 64), s.hostMay (CANBUF_FLAGS n k) ∧ (s.can n).stored = some (s.cclk, k.val)) ∧
  (∃ (s : State) (n : Fin 4), s.flag (CAN_CTRL n) CAN_CTRL_HALT = true) ∧
  (∃ (s : State) (n : Fin 4), s.canonical = true ∧ s.canOn n = true) :=
  ⟨⟨cans fun c => c, 1, cfr, 0, by decide +kernel⟩,
   ⟨(cans fun c => c).wrN SYS_HAMODE 4, 1, cfr, by decide +kernel⟩,
   ⟨W 2, 1, by decide +kernel⟩,
   ⟨(cans fun c => c).wr64N (CAN_BDIR 1) 32, 1, 32, 5, by decide +kernel, ⟨by decide +kernel, by decide +kernel⟩, by decide +kernel,
     by decide +kernel, by decide +kernel, by decide +kernel, by decide +kernel⟩,
   ⟨ctx, 1, 32, 5, by decide +kernel, ⟨by decide +kernel, by decide +kernel⟩, by decide +kernel⟩,
   ⟨ctx, 1, 0, 5, by decide +kernel⟩,
   ⟨ctx, 1, 0, 5, by decide +kernel⟩,
   ⟨ctx, 1, 0, 3, 1, 5, by decide +kernel⟩,
   ⟨ctx.put (CAN_ERRC 1) CAN_ERRC_TEC 250, 1, 0, 3, 1, 5, by decide +kernel⟩,
   ⟨ctx.setf (CAN_STAT 1) CAN_STAT_BUSOFF, 1, ⟨by decide +kernel, by decide +kernel⟩, by decide +kernel⟩,
   ⟨ctx, 1, ⟨by decide +kernel, by decide +kernel⟩, by decide +kernel⟩,
   ⟨(ctx.setf (CAN_STAT 1) CAN_STAT_BUSOFF).modCan 1 fun c => { c with recov := true }, 1, by decide +kernel⟩,
   ⟨ctx, 1, 5, by decide +kernel, ⟨by decide +kernel, by decide +kernel⟩, by decide +kernel⟩,
   ⟨ctx.put (CAN_FIFO0 1) CAN_FIFO0_LEVEL 3, 1, by decide +kernel, ⟨by decide +kernel, by decide +kernel⟩, by decide +kernel,
     by decide +kernel⟩,
   ⟨ctx.put (CAN_FIFO1 1) CAN_FIFO0_LEVEL 3, 1, by decide +kernel, ⟨by decide +kernel, by decide +kernel⟩, by decide +kernel,
     by decide +kernel⟩,
   ⟨cans fun c => { c with fifoIn := some { frame := cfr } }, 1, { frame := cfr }, ⟨by decide +kernel, by decide +kernel⟩, by decide +kernel,
     by decide +kernel, by decide +kernel, by decide +kernel⟩,
   ⟨cans fun c => { c with stored := some (0, 5) }, 1, 5, ⟨by decide +kernel, by decide +kernel⟩, by decide +kernel⟩,
   ⟨W 2, 1, by decide +kernel⟩,
   ⟨ctx, 1, by decide +kernel⟩⟩

/-- States and operands that meet the hypotheses of each clause of GroomMailboxLockCommandsComplete. -/
theorem witness_GroomMailboxLockCommandsComplete :
  (∃ (s : State) (src : Fin 10), src ≠ 1 ∧ s.groom.placed false < 15360) ∧
  (∃ (s : State) (src : Fin 10), 2 ≤ src.val ∧ 15360 ≤ s.groom.placed false) ∧
  (∃ (s : State) (h : Byte), 1024 ≤ s.groom.placed true ∧ s.groom.merged.find? (fun m => m.1 == h.toNat) = none) ∧
  (∃ (s : State) (c : Nat) (i : GItem) (rest : List GItem) (cs : List Nat), s.groom.stopped = false ∧ s.groom.ready = i :: rest ∧
    s.groom.affinity.lookup i.flow = none ∧ s.groom.idle = c :: cs) ∧
  (∃ (s : State), s.groom.stopped = true) ∧
  
    (∃ (s : State) (i : GItem) (h : Nat), s.groom.ready.find? (fun (i : GItem) => i.held.isSome && (match s.groom.affinity.lookup i.flow with | some c => !s.groom.idle.contains c && !s.groom.idle.isEmpty | none => false)) = some i ∧
    i.held = some h) ∧
  (∃ (s : State) (c : Fin 8) (i : GItem), vget s.groom.svc c none = some i ∧ i.hw = false) ∧
  (∃ (s : State) (a : Fin 29) (b : Fin 29), s.stallExists a b = true ∧ s.winRight a = true ∧ b ≠ 28 ∧ (s.stall a b).msgs.length < 4) ∧
  (∃ (s : State) (a : Fin 29) (b : Fin 29), s.canonical = true ∧ s.stallExists a b = true ∧ s.winRight a = true ∧ b ≠ 28 ∧
    (s.stall a b).msgs.length < 4) ∧
  (∃ (s : State) (a : Fin 29) (b : Fin 29), s.stallExists a b = true ∧ s.winRight a = true ∧ b ≠ 28 ∧ 4 ≤ (s.stall a b).msgs.length) ∧
  (∃ (s : State) (b : Fin 29) (a : Fin 29) (m : Msg) (rest : List Msg), s.canonical = true ∧ s.stallExists a b = true ∧ s.winRight b = true ∧
    (s.stall a b).msgs = m :: rest) ∧
  (∃ (s : State) (a : Fin 29) (w : Word), s.winRight a = true ∧ s.waitResult a = some w) ∧
  (∃ (s : State) (a : Fin 29), 2 ≤ a.val ∧ s.waitResult a = none) ∧
  (∃ (s : State) (a : Fin 29), a.val < 2 ∧ s.waitResult a = none) ∧
  (∃ (s : State) (a : Fin 29) (w : Word) (t0 : Nat), (s.agent a).waiting = some t0 ∧ s.waitResult a = some w) ∧
  (∃ (s : State) (a : Fin 29), s.waitResult a = none) ∧
  (∃ (s : State) (a : Fin 29) (b : Fin 29) (t0 : Nat), s.crossSince a b = some t0 ∧ s.xtime ≠ 0 ∧ a ≠ b) ∧
  (∃ (s : State) (a : Fin 29) (n : Fin 64) (rs : List (Fin 29)), s.winRight a = true ∧ (∀ r ∈ rs, s.winRight r = false) ∧
    vget s.locks n none = none) ∧
  (∃ (s : State) (a : Fin 29) (w : Fin 29) (n : Fin 64) (rs : List (Fin 29)), s.winRight a = true ∧ vget s.locks n none = none ∧
    s.lockContend n ((a.val :: rs.map (·.val)).filter s.winRight) = some w.val) ∧
  (∃ (s : State) (a : Fin 29) (n : Fin 64) (o : Nat), s.winRight a = true ∧ vget s.locks n none = some o ∧ o ≠ a.val) ∧
  (∃ (s : State) (a : Fin 29) (n : Fin 64), s.winRight a = true ∧ vget s.locks n none = some a.val) ∧
  (∃ (s : State) (a : Fin 29) (n : Fin 64), s.winRight a = true ∧ vget s.locks n none ≠ some a.val) :=
  ⟨⟨W 2, 3, by decide +kernel⟩,
   ⟨mgr (W 2) fun g => { g with items := List.replicate 15360 (git 1 none false none) }, 3, by decide +kernel⟩,
   ⟨mgr (W 2) fun g => { g with items := List.replicate 1024 (git 1 none true none) }, 0, by decide +kernel⟩,
   ⟨mgr (W 2) fun g => { g with items := [git 1 (some 4) false none] }, 0, git 1 (some 4) false none, [], [1,2,3,4,5,6,7], by decide +kernel⟩,
   ⟨mgr (W 2) fun g => { g with stopped := true }, by decide +kernel⟩,
   
     ⟨mgr (W 2) fun g => { g with items := [git 1 (some 4) false (some 5)], affinity := [(1, 3)], svc := vmod g.svc 3 fun _ => some (git 2 none false none) }, git 1 (some 4) false (some 5), 5,
     by decide +kernel⟩,
   
     ⟨mgr (W 2) fun g => { g with items := [git 1 (some 4) false (some 5)], svc := vmod g.svc 3 fun _ => some (git 2 none false none) }, 3, git 2 none false none,
     by decide +kernel⟩,
   ⟨W 2, 3, 4, by decide +kernel⟩,
   ⟨W 2, 3, 4, by decide +kernel⟩,
   ⟨(W 2).modStall 3 4 fun q => { q with msgs := List.replicate 4 ⟨1, 1, [], 0, 0⟩ }, 3, 4, by decide +kernel⟩,
   ⟨(W 2).modStall 3 4 fun q => { q with msgs := [⟨1, 1, [], 0, 0⟩] }, 4, 3, ⟨1, 1, [], 0, 0⟩, [], by decide +kernel⟩,
   ⟨((W 2).modStall 3 4 fun q => { q with ackSeq := 5 }).modAgent 3 fun g => { g with armStall := 4, armSeq := 5 }, 3, 0, by decide +kernel⟩,
   ⟨(W 2).modAgent 3 fun g => { g with armStall := 4, armSeq := 5 }, 3, by decide +kernel⟩,
   ⟨(W 2).modAgent 0 fun g => { g with armStall := 4, armSeq := 5 }, 0, by decide +kernel⟩,
   
     ⟨((W 2).modStall 3 4 fun q => { q with ackSeq := 5 }).modAgent 3 fun g => { g with armStall := 4, armSeq := 5, waiting := some 3 }, 3, 0, 3,
     by decide +kernel⟩,
   ⟨(W 2).modAgent 3 fun g => { g with armStall := 4, armSeq := 5, waiting := some 3 }, 3, by decide +kernel⟩,
   
     ⟨(((({ W 2 with xtime := 5 } : State).modStall 3 4 fun q => { q with msgs := [⟨6, 1, [], 0, 0⟩], since := 7 }).modStall 4 3 fun q => { q with msgs := [⟨6, 1, [], 0, 0⟩], since := 8 }).modAgent 3 fun g => { g with armStall := 4, armSeq := 6, waiting := some 3 }).modAgent 4 fun g => { g with armStall := 3, armSeq := 6, waiting := some 3 }, 3, 4, 8,
     by decide +kernel⟩,
   ⟨W 2, 3, 5, [1], by decide +kernel⟩,
   ⟨W 2, 3, 2, 5, [2], by decide +kernel⟩,
   ⟨({ W 2 with locks := vmod (W 2).locks 5 fun _ => some 4 } : State), 3, 5, 4, by decide +kernel⟩,
   ⟨({ W 2 with locks := vmod (W 2).locks 5 fun _ => some 3 } : State), 3, 5, by decide +kernel⟩,
   ⟨({ W 2 with locks := vmod (W 2).locks 5 fun _ => some 4 } : State), 3, 5, by decide +kernel⟩⟩

/-- States and operands that meet the hypotheses of each clause of CurrentLoopCommandsComplete. -/
theorem witness_CurrentLoopCommandsComplete :
  (∃ (s : State) (j : Fin 96) (bits : List Bool), s.canonical = true ∧ s.sdOn j = true ∧ s.isCurrent j = true ∧ s.ocDetects j bits = true) ∧
  (∃ (s : State) (j : Fin 96) (bits : List Bool), s.sdOn j = true ∧ s.isCurrent j = true ∧ s.ocDetects j bits = false) ∧
  (∃ (s : State) (j : Fin 96), s.sdOn j = false) ∧
  (∃ (s : State) (j : Fin 96) (bits : List Bool), s.sdStuck j bits = false) ∧
  (∃ (s : State) (j : Fin 96) (bits : List Bool), s.canonical = true ∧ s.sdOn j = true ∧ s.sdStuck j bits = true ∧
    s.flag (SD_STAT j) SD_STAT_LOST = false) ∧
  (∃ (s : State) (j : Fin 96) (bits : List Bool), s.canonical = true ∧ s.sdOn j = true ∧ s.sdStuck j bits = true ∧
    s.flag (SD_STAT j) SD_STAT_LOST = false ∧ s.isCurrent j = true ∧ s.flag (SLOT_STAT (j / 3)) SLOT_STAT_RUN = true) ∧
  (∃ (s : State) (a : Fin 32), s.canonical = true ∧ s.flag (SLOT_STAT a) SLOT_STAT_RUN = true ∧ s.udcLost a = true ∧
    s.get (SLOT_LIM a) SLOT_LIM_UDCHOLD ≤ (s.cle a).udcRun ∧ (s.cle a).udcTrip = false) ∧
  (∃ (s : State) (a : Fin 32), (s.cle a).doneB = true) ∧
  (∃ (s : State) (a : Fin 32), s.canonical = true ∧ (s.cle a).doneB = false) ∧
  (∃ (s : State) (a : Fin 32), s.canonical = true ∧ (s.cle a).doneB = false ∧ s.flag (SLOT_STAT a) SLOT_STAT_RUN = true ∧
    s.udcLost a = false ∧ s.flag (SLOT_STAT a) SLOT_STAT_ANGX = false) ∧
  (∃ (s : State) (a : Fin 32), s.canonical = true ∧ s.flag (SLOT_STAT a) SLOT_STAT_RUN = true ∧ s.angOver a = true) ∧
  (∃ (s : State) (a : Fin 32), s.canonical = true ∧ s.hostMay (SLOT_CMD a) ∧ s.tokenHolds CTOK_CLE a = none ∧ (s.cle a).swapAt = none) ∧
  (∃ (s : State) (a : Fin 32) (k : Nat), s.canonical = true ∧ s.hostMay (SLOT_CMD a) ∧ s.tokenHolds CTOK_CLE a = some k) ∧
  (∃ (s : State) (a : Fin 32) (t0 : Nat), s.canonical = true ∧ (s.cle a).swapAt = some t0 ∧ 32 * (t0 + 16) ≤ (s.grid a).last) ∧
  (∃ (s : State) (a : Fin 32), s.canonical = true ∧ s.hostMay (SLOT_CMD a)) ∧
  (∃ (s : State) (a : Fin 32), s.canonical = true ∧ s.hostMay (SLOT_CMD a)) ∧
  (∃ (s : State) (k : Fin 8), s.canonical = true ∧ s.hostMay (CLE_LAT k)) ∧
  (∃ (s : State) (j : Fin 96), s.canonical = true ∧ s.flag (SD_STAT j) SD_STAT_LOST = true) :=
  ⟨
     ⟨(((W 2).setf (SDCLK_CFG 0) SDCLK_CFG_EN).setf (SD_CFG 3) SD_CFG_EN).wrN (SLOT_GAIN0 1) 1 |>.wrI (SD_OCLIM 3) (sinc2 4 false ((List.replicate 20 true ++ List.replicate 30 false).drop 2)), 3, List.replicate 20 true ++ List.replicate 30 false,
     by decide +kernel⟩,
   ⟨(((W 2).setf (SDCLK_CFG 0) SDCLK_CFG_EN).setf (SD_CFG 3) SD_CFG_EN), 3, [], by decide +kernel⟩,
   ⟨W 2, 3, by decide +kernel⟩,
   ⟨W 2, 3, [true,false], by decide +kernel⟩,
   ⟨(((W 2).setf (SDCLK_CFG 0) SDCLK_CFG_EN).setf (SD_CFG 3) SD_CFG_EN), 3, List.replicate 300 true, by decide +kernel⟩,
   ⟨(((W 2).setf (SDCLK_CFG 0) SDCLK_CFG_EN).setf (SD_CFG 3) SD_CFG_EN).setf (SLOT_STAT 1) SLOT_STAT_RUN, 3, List.replicate 300 true,
     by decide +kernel⟩,
   
     ⟨(((W 2).put (SLOT_CFG 1) SLOT_CFG_UDCSRC 1).setf (SD_STAT 5) SD_STAT_LOST).setf (SLOT_STAT 1) SLOT_STAT_RUN |>.put (SLOT_LIM 1) SLOT_LIM_UDCHOLD 0, 1,
     by decide +kernel⟩,
   ⟨(W 2).modCle 1 fun c => { c with doneB := true }, 1, by decide +kernel⟩,
   ⟨(W 2).modCle 1 fun c => { c with doneB := false, b := 64000 }, 1, by decide +kernel⟩,
   
     ⟨((W 2).modCle 1 fun c => { c with doneB := false, b := 64000 }).setf (SLOT_STAT 1) SLOT_STAT_RUN |>.put (SLOT_CFG 1) SLOT_CFG_UDCSRC 63, 1,
     by decide +kernel⟩,
   ⟨((W 2).setf (SLOT_STAT 1) SLOT_STAT_RUN).setf (SLOT_STAT 1) SLOT_STAT_ANGX |>.modCle 1 fun c => { c with xRuns := 3000 }, 1,
     by decide +kernel⟩,
   ⟨W 2, 1, by decide +kernel, ⟨by decide +kernel, by decide +kernel⟩, by decide +kernel, by decide +kernel⟩,
   ⟨((W 2).put (CTOK_CTRL 2) CTOK_CTRL_STATE 1).wrN (CTOK_CLE 2) 2, 1, 2, by decide +kernel, ⟨by decide +kernel, by decide +kernel⟩,
     by decide +kernel⟩,
   ⟨((W 2).modCle 1 fun c => { c with swapAt := some 1 }).modGrid 1 fun g => { g with last := 32000 }, 1, 1, by decide +kernel⟩,
   ⟨(W 2).wrN (SLOT_STAT 1) 0xFFFF, 1, by decide +kernel, ⟨by decide +kernel, by decide +kernel⟩⟩,
   ⟨(W 2).wrN (SLOT_CNT 1) 0xFFFF, 1, by decide +kernel, ⟨by decide +kernel, by decide +kernel⟩⟩,
   ⟨(W 2).wrN (CLE_LAT 1) 0xFFFF, 1, by decide +kernel, ⟨by decide +kernel, by decide +kernel⟩⟩,
   ⟨(W 2).setf (SD_STAT 3) SD_STAT_LOST, 3, by decide +kernel⟩⟩

/-- States and operands that meet the hypotheses of each clause of ImageCommandsComplete. -/
theorem witness_ImageCommandsComplete :
  (∃ (s : State) (c : Cmd) (s1 : State) (r : Req), s.admits c 0x0400 = some (s1, r) ∧
    s1.imageTaken (imageItems (imageOf 0x0400 r.unit s1.imageShort)) r.data = true) ∧
  (∃ (s : State) (c : Cmd) (s1 : State) (r : Req), s.admits c 0x0404 = some (s1, r) ∧
    s1.imageTaken (imageItems (imageOf 0x0404 r.unit s1.imageShort)) r.data = true) ∧
  (∃ (s : State) (c : Cmd) (s1 : State) (r : Req), s.admits c 0x0405 = some (s1, r) ∧
    s1.imageTaken (imageItems (imageOf 0x0405 r.unit s1.imageShort)) r.data = true) ∧
  (∃ (s : State) (c : Cmd) (s1 : State) (r : Req), s.admits c 0x0808 = some (s1, r) ∧
    s1.imageTaken (imageItems (imageOf 0x0808 r.unit s1.imageShort)) r.data = true) ∧
  (∃ (s : State) (c : Cmd) (s1 : State) (r : Req), s.admits c 0x0C04 = some (s1, r) ∧
    s1.imageTaken (imageItems (imageOf 0x0C04 r.unit s1.imageShort)) r.data = true) ∧
  (∃ (s : State) (c : Cmd) (s1 : State) (r : Req), s.admits c 0x0C05 = some (s1, r) ∧
    s1.imageTaken (imageItems (imageOf 0x0C05 r.unit s1.imageShort)) r.data = true) ∧
  (∃ (s : State) (c : Cmd) (s1 : State) (r : Req), s.admits c 0x1001 = some (s1, r) ∧
    s1.imageTaken (imageItems (imageOf 0x1001 r.unit s1.imageShort)) r.data = true) ∧
  (∃ (s : State) (c : Cmd) (s1 : State) (r : Req), s.admits c 0x1003 = some (s1, r) ∧
    s1.imageTaken (imageItems (imageOf 0x1003 r.unit s1.imageShort)) r.data = true) ∧
  (∃ (s : State) (c : Cmd) (s1 : State) (r : Req), s.admits c 0x1007 = some (s1, r) ∧
    s1.imageTaken (imageItems (imageOf 0x1007 r.unit s1.imageShort)) r.data = true) ∧
  (∃ (s : State) (c : Cmd) (s1 : State) (r : Req), s.admits c 0x1400 = some (s1, r) ∧
    s1.imageTaken (imageItems (imageOf 0x1400 r.unit s1.imageShort)) r.data = true) ∧
  (∃ (s : State) (c : Cmd) (s1 : State) (r : Req), s.admits c 0x1800 = some (s1, r) ∧
    s1.imageTaken (imageItems (imageOf 0x1800 r.unit s1.imageShort)) r.data = true) ∧
  (∃ (s : State) (c : Cmd) (s1 : State) (r : Req), s.admits c 0x1804 = some (s1, r) ∧
    s1.imageTaken (imageItems (imageOf 0x1804 r.unit s1.imageShort)) r.data = true) ∧
  (∃ (s : State) (c : Cmd) (s1 : State) (r : Req), s.admits c 0x1805 = some (s1, r) ∧
    s1.imageTaken (imageItems (imageOf 0x1805 r.unit s1.imageShort)) r.data = true) ∧
  (∃ (s : State) (c : Cmd) (s1 : State) (r : Req), s.admits c 0x2400 = some (s1, r) ∧
    s1.imageTaken (imageItems (imageOf 0x2400 r.unit s1.imageShort)) r.data = true) ∧
  (∃ (s : State) (c : Cmd) (s1 : State) (r : Req), s.admits c 0x3800 = some (s1, r) ∧
    s1.imageTaken (imageItems (imageOf 0x3800 r.unit s1.imageShort)) r.data = true) ∧
  (∃ (s : State) (c : Cmd) (s1 : State) (r : Req), s.admits c 0x1800 = some (s1, r) ∧ s1.imageTaken [(LI_CFG r.unit, 4)] r.data = false) ∧
  (∃ (s : State) (c : Cmd) (s1 : State) (r : Req), s.admits c 0x2C00 = some (s1, r) ∧ s1.cuPhase r.unit = 0 ∧
    s1.imageTaken (imageItems (cuImage r.unit)) r.data = true) ∧
  (∃ (s : State) (c : Cmd) (s1 : State) (r : Req), s.admits c 0x2C00 = some (s1, r) ∧ s1.cuPhase r.unit ≠ 0) ∧
  (∃ (s : State) (c : Cmd) (s1 : State) (r : Req), s.admits c 0x1C00 = some (s1, r) ∧
    s1.imageTaken (imageItems (imageOf 0x1C00 r.unit s1.imageShort)) r.data = true) ∧
  (∃ (s : State) (c : Cmd) (s1 : State) (r : Req), s.admits c 0x1C05 = some (s1, r) ∧
    s1.imageTaken (imageItems ((imageOf 0x1C05 r.unit false).drop 1)) (r.data.drop 4) = true ∧
    (s1.imagePut (imageItems ((imageOf 0x1C05 r.unit false).drop 1)) (r.data.drop 4)).imageTaken [(RM_CFG, 4)] (r.data.take 4) = true) ∧
  (∃ (s : State) (c : Cmd) (s1 : State) (r : Req), s.admits c 0x2000 = some (s1, r) ∧
    ((s1.putB (CAN_CTRL r.unit) CAN_CTRL_HALT true).canHaltWritten r.unit).imageTaken (imageItems (canImage r.unit)) (leBytes 4 (nsetBit (bU r.data 0 4) CAN_CTRL_HALT.lo true) ++ r.data.drop 4) = true) :=
  ⟨
     ⟨W 1, imgc (W 1) 0x0400 3, adm (W 1) (imgc (W 1) 0x0400 3) 0x0400, cmdReq (imgc (W 1) 0x0400 3) 0x0400, admits_fresh (by decide +kernel) (by decide +kernel) (by decide +kernel),
     by decide +kernel⟩,
   
     ⟨W 1, imgc (W 1) 0x0404 3, adm (W 1) (imgc (W 1) 0x0404 3) 0x0404, cmdReq (imgc (W 1) 0x0404 3) 0x0404, admits_fresh (by decide +kernel) (by decide +kernel) (by decide +kernel),
     by decide +kernel⟩,
   
     ⟨W 1, imgc (W 1) 0x0405 3, adm (W 1) (imgc (W 1) 0x0405 3) 0x0405, cmdReq (imgc (W 1) 0x0405 3) 0x0405, admits_fresh (by decide +kernel) (by decide +kernel) (by decide +kernel),
     by decide +kernel⟩,
   
     ⟨W 1, imgc (W 1) 0x0808 0x92, adm (W 1) (imgc (W 1) 0x0808 0x92) 0x0808, cmdReq (imgc (W 1) 0x0808 0x92) 0x0808, admits_fresh (by decide +kernel) (by decide +kernel) (by decide +kernel),
     by decide +kernel⟩,
   
     ⟨W 1, imgc (W 1) 0x0C04 3, adm (W 1) (imgc (W 1) 0x0C04 3) 0x0C04, cmdReq (imgc (W 1) 0x0C04 3) 0x0C04, admits_fresh (by decide +kernel) (by decide +kernel) (by decide +kernel),
     by decide +kernel⟩,
   
     ⟨W 1, imgc (W 1) 0x0C05 0x41, adm (W 1) (imgc (W 1) 0x0C05 0x41) 0x0C05, cmdReq (imgc (W 1) 0x0C05 0x41) 0x0C05, admits_fresh (by decide +kernel) (by decide +kernel) (by decide +kernel),
     by decide +kernel⟩,
   
     ⟨W 1, imgc (W 1) 0x1001 3, adm (W 1) (imgc (W 1) 0x1001 3) 0x1001, cmdReq (imgc (W 1) 0x1001 3) 0x1001, admits_fresh (by decide +kernel) (by decide +kernel) (by decide +kernel),
     by decide +kernel⟩,
   
     ⟨W 1, imgc (W 1) 0x1003 3, adm (W 1) (imgc (W 1) 0x1003 3) 0x1003, cmdReq (imgc (W 1) 0x1003 3) 0x1003, admits_fresh (by decide +kernel) (by decide +kernel) (by decide +kernel),
     by decide +kernel⟩,
   
     ⟨W 1, imgc (W 1) 0x1007 3, adm (W 1) (imgc (W 1) 0x1007 3) 0x1007, cmdReq (imgc (W 1) 0x1007 3) 0x1007, admits_fresh (by decide +kernel) (by decide +kernel) (by decide +kernel),
     by decide +kernel⟩,
   
     ⟨W 1, imgc (W 1) 0x1400 3, adm (W 1) (imgc (W 1) 0x1400 3) 0x1400, cmdReq (imgc (W 1) 0x1400 3) 0x1400, admits_fresh (by decide +kernel) (by decide +kernel) (by decide +kernel),
     by decide +kernel⟩,
   
     ⟨W 1, imgc (W 1) 0x1800 3, adm (W 1) (imgc (W 1) 0x1800 3) 0x1800, cmdReq (imgc (W 1) 0x1800 3) 0x1800, admits_fresh (by decide +kernel) (by decide +kernel) (by decide +kernel),
     by decide +kernel⟩,
   
     ⟨W 1, imgc (W 1) 0x1804 3, adm (W 1) (imgc (W 1) 0x1804 3) 0x1804, cmdReq (imgc (W 1) 0x1804 3) 0x1804, admits_fresh (by decide +kernel) (by decide +kernel) (by decide +kernel),
     by decide +kernel⟩,
   
     ⟨W 1, imgc (W 1) 0x1805 3, adm (W 1) (imgc (W 1) 0x1805 3) 0x1805, cmdReq (imgc (W 1) 0x1805 3) 0x1805, admits_fresh (by decide +kernel) (by decide +kernel) (by decide +kernel),
     by decide +kernel⟩,
   
     ⟨W 1, imgc (W 1) 0x2400 0xFF, adm (W 1) (imgc (W 1) 0x2400 0xFF) 0x2400, cmdReq (imgc (W 1) 0x2400 0xFF) 0x2400, admits_fresh (by decide +kernel) (by decide +kernel) (by decide +kernel),
     by decide +kernel⟩,
   
     ⟨W 1, imgc (W 1) 0x3800 0xFF, adm (W 1) (imgc (W 1) 0x3800 0xFF) 0x3800, cmdReq (imgc (W 1) 0x3800 0xFF) 0x3800, admits_fresh (by decide +kernel) (by decide +kernel) (by decide +kernel),
     by decide +kernel⟩,
   
     ⟨W 1, mkc 3 p0 [0xFF, 0xFF, 0xFF, 0xFF], adm (W 1) (mkc 3 p0 [0xFF, 0xFF, 0xFF, 0xFF]) 0x1800, cmdReq (mkc 3 p0 [0xFF, 0xFF, 0xFF, 0xFF]) 0x1800, admits_fresh (by decide +kernel) (by decide +kernel) (by decide +kernel),
     by decide +kernel⟩,
   
     ⟨W 1, imgc (W 1) 0x2C00 3, adm (W 1) (imgc (W 1) 0x2C00 3) 0x2C00, cmdReq (imgc (W 1) 0x2C00 3) 0x2C00, admits_fresh (by decide +kernel) (by decide +kernel) (by decide +kernel),
     by decide +kernel, by decide +kernel⟩,
   
     ⟨(W 1).put (CU_STAT 3) CU_STAT_PHASE 1, imgc (W 1) 0x2C00 3, adm ((W 1).put (CU_STAT 3) CU_STAT_PHASE 1) (imgc (W 1) 0x2C00 3) 0x2C00, cmdReq (imgc (W 1) 0x2C00 3) 0x2C00, admits_fresh (by decide +kernel) (by decide +kernel) (by decide +kernel),
     by decide +kernel⟩,
   
     ⟨W 1, imgc (W 1) 0x1C00 2, adm (W 1) (imgc (W 1) 0x1C00 2) 0x1C00, cmdReq (imgc (W 1) 0x1C00 2) 0x1C00, admits_fresh (by decide +kernel) (by decide +kernel) (by decide +kernel),
     by decide +kernel⟩,
   
     ⟨W 1, imgc (W 1) 0x1C05 0xFF, adm (W 1) (imgc (W 1) 0x1C05 0xFF) 0x1C05, cmdReq (imgc (W 1) 0x1C05 0xFF) 0x1C05, admits_fresh (by decide +kernel) (by decide +kernel) (by decide +kernel),
     by decide +kernel, by decide +kernel⟩,
   
     ⟨W 1, imgc (W 1) 0x2000 3, adm (W 1) (imgc (W 1) 0x2000 3) 0x2000, cmdReq (imgc (W 1) 0x2000 3) 0x2000, admits_fresh (by decide +kernel) (by decide +kernel) (by decide +kernel),
     by decide +kernel⟩⟩

/-- States and operands that meet the hypotheses of each clause of SystemAxisCommandsComplete. -/
theorem witness_SystemAxisCommandsComplete :
  (∃ (s : State) (c : Cmd) (s1 : State) (r : Req), s.admits c 0x0000 = some (s1, r)) ∧
  (∃ (s : State) (c : Cmd) (s1 : State) (r : Req), s.admits c 0x0001 = some (s1, r)) ∧
  (∃ (s : State) (c : Cmd) (s1 : State) (r : Req) (i : Inflight), s.admits c 0x0002 = some (s1, r) ∧
    s1.inflight.find? (fun i => i.tag == r.P 0 % 65536 && !i.done && i.opcode != 2) = some i ∧ i.started = false) ∧
  (∃ (s : State) (c : Cmd) (s1 : State) (r : Req) (i : Inflight) (w : Wait), s.admits c 0x0002 = some (s1, r) ∧
    s1.inflight.find? (fun i => i.tag == r.P 0 % 65536 && !i.done && i.opcode != 2) = some i ∧ i.started = true ∧
    s1.waits.find? (fun w => w.tag == r.P 0 % 65536) = some w ∧ w.kind = .moveEnd) ∧
  (∃ (s : State) (c : Cmd) (s1 : State) (r : Req), s.admits c 0x0002 = some (s1, r) ∧
    s1.inflight.find? (fun i => i.tag == r.P 0 % 65536 && !i.done && i.opcode != 2) = none) ∧
  (∃ (s : State) (c : Cmd) (s1 : State) (r : Req), s.admits c 0x0003 = some (s1, r) ∧ s1.mayEnter (r.P 0) = true ∧ s1.pw.want = none ∧
    ((r.P 0 = 2 → s1.noonCheck = none)) ∧ ((r.P 0 = 2 → s1.flag SF_STAT SF_STAT_SWS4ON = false))) ∧
  (∃ (s : State) (c : Cmd) (s1 : State) (r : Req), s.admits c 0x0003 = some (s1, r) ∧ s1.mayEnter (r.P 0) = false ∧ ((r.P 0 = 3 →
    s1.inDusk = true → s1.pw.duskAt ≠ some s1.tick))) ∧
  (∃ (s : State) (c : Cmd) (s1 : State) (r : Req) (cause : Nat) (n : Nat), s.admits c 0x0003 = some (s1, r) ∧ r.P 0 = 2 ∧
    s1.mayEnter 2 = true ∧ s1.pw.want = none ∧ s1.noonCheck = some (cause, n)) ∧
  (∃ (s : State) (c : Cmd) (s1 : State) (r : Req), s.admits c 0x0004 = some (s1, r)) ∧
  (∃ (s : State) (c : Cmd) (s1 : State) (r : Req), s.admits c 0x0005 = some (s1, r) ∧ s.canonical = true) ∧
  (∃ (s : State) (c : Cmd) (s1 : State) (r : Req), s.admits c 0x0006 = some (s1, r) ∧ s1.tokState (r.P 0 % 8) ≠ 1) ∧
  (∃ (s : State) (c : Cmd) (s1 : State) (r : Req), s.admits c 0x0006 = some (s1, r) ∧ s1.tokState (r.P 0 % 8) = 1) ∧
  (∃ (s : State) (c : Cmd) (s1 : State) (r : Req), s.admits c 0x0007 = some (s1, r)) ∧
  (∃ (s : State) (c : Cmd) (s1 : State) (r : Req), s.admits c 0x0008 = some (s1, r) ∧ r.unit < 80 ∧ r.P 0 ≠ s1.lpOf r.unit ∧
    s1.lpMode (r.P 0) ≠ 3 ∧ s1.demandOf (r.P 0) (s1.lpBank (r.P 0)) (r.unit :: (s1.served (r.P 0)).filter (· != r.unit)) ≤ 720000000) ∧
  (∃ (s : State) (c : Cmd) (s1 : State) (r : Req), s.admits c 0x0009 = some (s1, r)) ∧
  (∃ (s : State) (n : Fin 32) (h : Int) (t0 : Nat), (s.loop n).hold = some (h, t0) ∧ nbit (s.rd64N (SFAX_AX n)) 22 = true) ∧
  (∃ (s : State) (n : Fin 32), (s.loop n).hold = none) ∧
  (∃ (s : State) (c : Cmd) (s1 : State) (r : Req), s.admits c 0x0401 = some (s1, r) ∧ s.canonical = true ∧ r.bit 0 0 = true ∧ r.unit < 32 ∧
    (s1.loop r.unit).enabled = false ∧ s1.ramping r.unit = false ∧ s1.enableCheck r.unit = none) ∧
  (∃ (s : State) (c : Cmd) (s1 : State) (r : Req), s.admits c 0x0401 = some (s1, r) ∧ r.bit 0 0 = true ∧ 32 ≤ r.unit ∧ r.unit < 64 ∧
    (s1.loop r.unit).enabled = false ∧ s1.ramping r.unit = false) ∧
  (∃ (s : State) (c : Cmd) (s1 : State) (r : Req), s.admits c 0x0401 = some (s1, r) ∧ s.canonical = true ∧ r.bit 0 0 = false ∧ r.unit < 32) ∧
  (∃ (s : State) (c : Cmd) (s1 : State) (r : Req), s.admits c 0x0402 = some (s1, r) ∧ r.unit < 32) ∧
  (∃ (s : State) (c : Cmd) (s1 : State) (r : Req), s.admits c 0x0402 = some (s1, r) ∧ 32 ≤ r.unit) ∧
  (∃ (s : State) (c : Cmd) (s1 : State) (r : Req), s.admits c 0x0403 = some (s1, r) ∧ r.unit < 32 ∧ s1.variantF = false ∧
    nbit (s1.rd64N (SFAX_AX r.unit)) 22 = true) ∧
  (∃ (s : State) (c : Cmd) (s1 : State) (r : Req), s.admits c 0x0403 = some (s1, r) ∧ nbit (s1.rd64N (SFAX_AX r.unit)) 22 = false) :=
  ⟨
     ⟨W 1, mkc 0xFF p0 [], adm (W 1) (mkc 0xFF p0 []) 0x0000, cmdReq (mkc 0xFF p0 []) 0x0000, admits_fresh (by decide +kernel) (by decide +kernel) (by decide +kernel)⟩,
   
     ⟨W 0, mkc 0xFF p0 [], adm (W 0) (mkc 0xFF p0 []) 0x0001, cmdReq (mkc 0xFF p0 []) 0x0001, admits_fresh (by decide +kernel) (by decide +kernel) (by decide +kernel)⟩,
   
     ⟨inf (W 1) { tag := 9, opcode := 1, ring := 1, started := false }, mkc 0xFF #v[9, 0, 0, 0, 0, 0] [], adm (inf (W 1) { tag := 9, opcode := 1, ring := 1, started := false }) (mkc 0xFF #v[9, 0, 0, 0, 0, 0] []) 0x0002, cmdReq (mkc 0xFF #v[9, 0, 0, 0, 0, 0] []) 0x0002, { tag := 9, opcode := 1, ring := 1, started := false }, admits_fresh (by decide +kernel) (by decide +kernel) (by decide +kernel),
     by decide +kernel, by decide +kernel⟩,
   
     ⟨(inf (W 1) { tag := 9, opcode := 0x801, ring := 1 }).await 9 .moveEnd 3, mkc 0xFF #v[9, 0, 0, 0, 0, 0] [], adm ((inf (W 1) { tag := 9, opcode := 0x801, ring := 1 }).await 9 .moveEnd 3) (mkc 0xFF #v[9, 0, 0, 0, 0, 0] []) 0x0002, cmdReq (mkc 0xFF #v[9, 0, 0, 0, 0, 0] []) 0x0002, { tag := 9, opcode := 0x801, ring := 1 }, { tag := 9, kind := .moveEnd, unit := 3 }, admits_fresh (by decide +kernel) (by decide +kernel) (by decide +kernel),
     by decide +kernel, by decide +kernel, by decide +kernel, by decide +kernel⟩,
   
     ⟨W 1, mkc 0xFF #v[9, 0, 0, 0, 0, 0] [], adm (W 1) (mkc 0xFF #v[9, 0, 0, 0, 0, 0] []) 0x0002, cmdReq (mkc 0xFF #v[9, 0, 0, 0, 0, 0] []) 0x0002, admits_fresh (by decide +kernel) (by decide +kernel) (by decide +kernel),
     by decide +kernel⟩,
   
     ⟨W 2, mkc 0xFF #v[3, 0, 0, 0, 0, 0] [], adm (W 2) (mkc 0xFF #v[3, 0, 0, 0, 0, 0] []) 0x0003, cmdReq (mkc 0xFF #v[3, 0, 0, 0, 0, 0] []) 0x0003, admits_fresh (by decide +kernel) (by decide +kernel) (by decide +kernel),
     by decide +kernel, by decide +kernel, by decide +kernel, by decide +kernel⟩,
   
     ⟨W 4, mkc 0xFF #v[1, 0, 0, 0, 0, 0] [], adm (W 4) (mkc 0xFF #v[1, 0, 0, 0, 0, 0] []) 0x0003, cmdReq (mkc 0xFF #v[1, 0, 0, 0, 0, 0] []) 0x0003, admits_fresh (by decide +kernel) (by decide +kernel) (by decide +kernel),
     by decide +kernel, by decide +kernel⟩,
   
     ⟨(W 1).put TB_FRAME TB_FRAME_M 0, mkc 0xFF #v[2, 0, 0, 0, 0, 0] [], adm ((W 1).put TB_FRAME TB_FRAME_M 0) (mkc 0xFF #v[2, 0, 0, 0, 0, 0] []) 0x0003, cmdReq (mkc 0xFF #v[2, 0, 0, 0, 0, 0] []) 0x0003, 1, 0, admits_fresh (by decide +kernel) (by decide +kernel) (by decide +kernel),
     by decide +kernel, by decide +kernel, by decide +kernel, by decide +kernel⟩,
   
     ⟨W 1, mkc 0xFF #v[3, 1, 0, 0, 0, 0] [], adm (W 1) (mkc 0xFF #v[3, 1, 0, 0, 0, 0] []) 0x0004, cmdReq (mkc 0xFF #v[3, 1, 0, 0, 0, 0] []) 0x0004, admits_fresh (by decide +kernel) (by decide +kernel) (by decide +kernel)⟩,
   
     ⟨W 1, mkc 0xFF #v[0x10, 5, 0, 0, 0, 0] [], adm (W 1) (mkc 0xFF #v[0x10, 5, 0, 0, 0, 0] []) 0x0005, cmdReq (mkc 0xFF #v[0x10, 5, 0, 0, 0, 0] []) 0x0005, admits_fresh (by decide +kernel) (by decide +kernel) (by decide +kernel),
     by decide +kernel⟩,
   
     ⟨W 2, mkc 0xFF #v[2, 5, 0, 0, 0x1000, 0] [], adm (W 2) (mkc 0xFF #v[2, 5, 0, 0, 0x1000, 0] []) 0x0006, cmdReq (mkc 0xFF #v[2, 5, 0, 0, 0x1000, 0] []) 0x0006, admits_fresh (by decide +kernel) (by decide +kernel) (by decide +kernel),
     by decide +kernel⟩,
   
     ⟨(W 2).put (CTOK_CTRL 2) CTOK_CTRL_STATE 1, mkc 0xFF #v[2, 5, 0, 0, 0x1000, 0] [], adm ((W 2).put (CTOK_CTRL 2) CTOK_CTRL_STATE 1) (mkc 0xFF #v[2, 5, 0, 0, 0x1000, 0] []) 0x0006, cmdReq (mkc 0xFF #v[2, 5, 0, 0, 0x1000, 0] []) 0x0006, admits_fresh (by decide +kernel) (by decide +kernel) (by decide +kernel),
     by decide +kernel⟩,
   
     ⟨W 1, mkc 0xFF #v[1, 0, 0, 0, 0, 0] [], adm (W 1) (mkc 0xFF #v[1, 0, 0, 0, 0, 0] []) 0x0007, cmdReq (mkc 0xFF #v[1, 0, 0, 0, 0, 0] []) 0x0007, admits_fresh (by decide +kernel) (by decide +kernel) (by decide +kernel)⟩,
   
     ⟨W 1, mkc 3 #v[7, 0, 0, 0, 0, 0] [], adm (W 1) (mkc 3 #v[7, 0, 0, 0, 0, 0] []) 0x0008, cmdReq (mkc 3 #v[7, 0, 0, 0, 0, 0] []) 0x0008, admits_fresh (by decide +kernel) (by decide +kernel) (by decide +kernel),
     by decide +kernel, by decide +kernel, by decide +kernel, by decide +kernel⟩,
   
     ⟨W 1, mkc 0xFF #v[0x41000, 3, 0, 0, 0, 0] [], adm (W 1) (mkc 0xFF #v[0x41000, 3, 0, 0, 0, 0] []) 0x0009, cmdReq (mkc 0xFF #v[0x41000, 3, 0, 0, 0, 0] []) 0x0009, admits_fresh (by decide +kernel) (by decide +kernel) (by decide +kernel)⟩,
   ⟨((W 2).wr64N (SFAX_AX 3) (2 ^ 22)).modLoop 3 fun l => { l with hold := some (7, 900) }, 3, 7, 900, by decide +kernel⟩,
   ⟨W 2, 3, by decide +kernel⟩,
   
     ⟨((((W 2).put (SLOT_CFG 3) SLOT_CFG_CMODE 1).put (SLOT_CFG 3) SLOT_CFG_UDCSRC 32).put (SLOT_CFG 3) SLOT_CFG_HPORT 5).put (SLOT_WIN 3) SLOT_WIN_OSR 3, mkc 3 #v[1, 0, 0, 0, 0, 0] [], adm (((((W 2).put (SLOT_CFG 3) SLOT_CFG_CMODE 1).put (SLOT_CFG 3) SLOT_CFG_UDCSRC 32).put (SLOT_CFG 3) SLOT_CFG_HPORT 5).put (SLOT_WIN 3) SLOT_WIN_OSR 3) (mkc 3 #v[1, 0, 0, 0, 0, 0] []) 0x0401, cmdReq (mkc 3 #v[1, 0, 0, 0, 0, 0] []) 0x0401, admits_fresh (by decide +kernel) (by decide +kernel) (by decide +kernel),
     by decide +kernel, by decide +kernel, by decide +kernel, by decide +kernel, by decide +kernel, by decide +kernel⟩,
   
     ⟨W 2, mkc 33 #v[1, 0, 0, 0, 0, 0] [], adm (W 2) (mkc 33 #v[1, 0, 0, 0, 0, 0] []) 0x0401, cmdReq (mkc 33 #v[1, 0, 0, 0, 0, 0] []) 0x0401, admits_fresh (by decide +kernel) (by decide +kernel) (by decide +kernel),
     by decide +kernel, by decide +kernel, by decide +kernel, by decide +kernel, by decide +kernel⟩,
   
     ⟨(W 2).modLoop 3 fun l => { l with enabled := true }, mkc 3 p0 [], adm ((W 2).modLoop 3 fun l => { l with enabled := true }) (mkc 3 p0 []) 0x0401, cmdReq (mkc 3 p0 []) 0x0401, admits_fresh (by decide +kernel) (by decide +kernel) (by decide +kernel),
     by decide +kernel, by decide +kernel, by decide +kernel⟩,
   
     ⟨W 2, mkc 3 p0 [], adm (W 2) (mkc 3 p0 []) 0x0402, cmdReq (mkc 3 p0 []) 0x0402, admits_fresh (by decide +kernel) (by decide +kernel) (by decide +kernel),
     by decide +kernel⟩,
   
     ⟨W 2, mkc 0xE1 p0 [], adm (W 2) (mkc 0xE1 p0 []) 0x0402, cmdReq (mkc 0xE1 p0 []) 0x0402, admits_fresh (by decide +kernel) (by decide +kernel) (by decide +kernel),
     by decide +kernel⟩,
   
     ⟨(W 2).wr64N (SFAX_AX 3) (2 ^ 22), mkc 3 #v[7, 5, 0, 0, 0, 0] [], adm ((W 2).wr64N (SFAX_AX 3) (2 ^ 22)) (mkc 3 #v[7, 5, 0, 0, 0, 0] []) 0x0403, cmdReq (mkc 3 #v[7, 5, 0, 0, 0, 0] []) 0x0403, admits_fresh (by decide +kernel) (by decide +kernel) (by decide +kernel),
     by decide +kernel, by decide +kernel, by decide +kernel⟩,
   
     ⟨W 2, mkc 3 #v[7, 5, 0, 0, 0, 0] [], adm (W 2) (mkc 3 #v[7, 5, 0, 0, 0, 0] []) 0x0403, cmdReq (mkc 3 #v[7, 5, 0, 0, 0, 0] []) 0x0403, admits_fresh (by decide +kernel) (by decide +kernel) (by decide +kernel),
     by decide +kernel⟩⟩

/-- States and operands that meet the hypotheses of each clause of SecurityUpdateCommandsComplete. -/
theorem witness_SecurityUpdateCommandsComplete :
  (∃ (s : State), s.canonical = true ∧ s.flag SYS_CLK SYS_CLK_LOCK = false ∧ s.flag TW_STAT TW_STAT_ACTOUT = true ∧ s.inDawn = false) ∧
  (∃ (s : State) (n : Nat) (t0 : Nat), s.sec.challenge = some (n, t0)) ∧
  (∃ (s : State) (m : BitVec 5), s.canonical = true ∧ nbit m.toNat 0 = true ∧ s.sec.polWas = none) ∧
  (∃ (s : State) (v : Word), s.canonical = true ∧ s.hostMay SEC_POLICY ∧ wordOk SEC_POLICY v.toNat = true) ∧
  (∃ (s : State), s.canonical = true ∧ s.hostMay SEC_CMD) ∧
  (∃ (s : State) (v : Nat) (t0 : Nat), s.canonical = true ∧ s.pw.newSvn = some (v, t0) ∧ s.inMorning = true ∧ v < 2 ^ 32) ∧
  (∃ (s : State), s.canonical = true ∧ s.isActive = false) ∧
  (∃ (s : State), s.canonical = true) ∧
  (∃ (s : State), s.canonical = true) ∧
  (∃ (s : State) (c : Cmd) (s1 : State) (r : Req), s.admits c 0x3400 = some (s1, r)) ∧
  (∃ (s : State) (c : Cmd) (s1 : State) (r : Req), s.admits c 0x3400 = some (s1, r) ∧ s.canonical = true ∧
    s1.flag SEC_STAT SEC_STAT_DBGOPEN = false ∧ bU r.data 0 1 = 1 ∧ bU r.data 1 1 < 8 ∧ bU r.data 2 1 = 0xFF ∧ bZero r.data 3 5 = true ∧
    bZero r.data 120 8 = true ∧ bZero r.data 80 40 = true ∧ bU r.data 8 8 = s1.rd64N SEC_NONCE ∧ s1.rd (SEC_SLOTS 0) = 0 ∧
    s1.erasedNow 1 = false) ∧
  (∃ (s : State) (c : Cmd) (s1 : State) (r : Req), s.admits c 0x3401 = some (s1, r) ∧ s.canonical = true ∧
    bU r.data 1 1 < slotsOf (bU r.data 0 1) ∧ bZero r.data 2 14 = true ∧ bU r.data 16 1 < 8 ∧ bZero r.data 17 7 = true ∧
    s1.rdN (SEC_SLOTS 0) ≠ 2 ^ bU r.data 1 1) ∧
  (∃ (s : State) (c : Cmd) (s1 : State) (r : Req), s.admits c 0x3402 = some (s1, r) ∧ s.canonical = true ∧ bU r.data 0 4 < 1024 ∧
    bZero r.data 4 12 = true ∧ bU r.data 16 1 < 8 ∧ bZero r.data 17 7 = true) ∧
  (∃ (s : State) (c : Cmd) (s1 : State) (r : Req), s.admits c 0x3402 = some (s1, r) ∧ 1024 ≤ bU r.data 0 4) ∧
  (∃ (s : State) (c : Cmd) (s1 : State) (r : Req), s.admits c 0x3403 = some (s1, r)) ∧
  (∃ (s : State) (c : Cmd) (s1 : State) (r : Req) (n : Nat) (t0 : Nat), s.admits c 0x3404 = some (s1, r) ∧ s.canonical = true ∧
    s1.sec.challenge = some (n, t0) ∧ s1.tick < t0 + 24000000000 ∧ s1.get SEC_STAT SEC_STAT_DBGCNT < 32) ∧
  (∃ (s : State) (c : Cmd) (s1 : State) (r : Req), s.admits c 0x3404 = some (s1, r) ∧ s1.sec.challenge = none) ∧
  (∃ (s : State) (c : Cmd) (s1 : State) (r : Req), s.admits c 0x3C00 = some (s1, r) ∧ r.P 0 + r.data.length ≤ 2 ^ 32) ∧
  (∃ (s : State) (c : Cmd) (s1 : State) (r : Req), s.admits c 0x3C01 = some (s1, r)) ∧
  (∃ (s : State) (c : Cmd) (s1 : State) (r : Req), s.admits c 0x3C02 = some (s1, r)) ∧
  (∃ (s : State) (c : Cmd) (s1 : State) (r : Req), s.admits c 0x3C03 = some (s1, r) ∧ (r.data.length - 132) % 4 ≠ 0) ∧
  (∃ (s : State) (c : Cmd) (s1 : State) (r : Req), s.admits c 0x3C03 = some (s1, r) ∧ (r.data.length - 132) % 4 = 0) ∧
  (∃ (s : State) (c : Cmd) (s1 : State) (r : Req), s.admits c 0x3C04 = some (s1, r) ∧ r.P 0 < 16) :=
  ⟨⟨((W 2).clrf SYS_CLK SYS_CLK_LOCK).setf TW_STAT TW_STAT_ACTOUT, by decide +kernel⟩,
   ⟨({ W 2 with sec := { (W 2).sec with challenge := some (7, 9) } } : State), 7, 9, by decide +kernel⟩,
   ⟨({ (W 2).wrN SEC_POLICY 2 with pw := { (W 2).pw with vin := true } } : State), 1, by decide +kernel⟩,
   ⟨W 2, 5, by decide +kernel, ⟨by decide +kernel, by decide +kernel⟩, by decide +kernel⟩,
   ⟨W 2, by decide +kernel, ⟨by decide +kernel, by decide +kernel⟩⟩,
   ⟨mpw (W 1) fun p => { p with newSvn := some (7, 9) }, 7, 9, by decide +kernel⟩,
   ⟨W 2, by decide +kernel⟩,
   ⟨W 2, by decide +kernel⟩,
   ⟨W 2, by decide +kernel⟩,
   
     ⟨W 1, mkc 0xFF p0 (zeros 192), adm (W 1) (mkc 0xFF p0 (zeros 192)) 0x3400, cmdReq (mkc 0xFF p0 (zeros 192)) 0x3400, admits_fresh (by decide +kernel) (by decide +kernel) (by decide +kernel)⟩,
   
     ⟨W 1, mkc 0xFF p0 ([1, 2, 0xFF] ++ zeros 189), adm (W 1) (mkc 0xFF p0 ([1, 2, 0xFF] ++ zeros 189)) 0x3400, cmdReq (mkc 0xFF p0 ([1, 2, 0xFF] ++ zeros 189)) 0x3400, admits_fresh (by decide +kernel) (by decide +kernel) (by decide +kernel),
     by decide +kernel, by decide +kernel, by decide +kernel, by decide +kernel, by decide +kernel, by decide +kernel, by decide +kernel,
     by decide +kernel, by decide +kernel, by decide +kernel, by decide +kernel⟩,
   
     ⟨W 2, mkc 0xFF #v[1, 0, 0, 0, 0, 0] ([2, 3] ++ zeros 94), adm (W 2) (mkc 0xFF #v[1, 0, 0, 0, 0, 0] ([2, 3] ++ zeros 94)) 0x3401, cmdReq (mkc 0xFF #v[1, 0, 0, 0, 0, 0] ([2, 3] ++ zeros 94)) 0x3401, admits_fresh (by decide +kernel) (by decide +kernel) (by decide +kernel),
     by decide +kernel, by decide +kernel, by decide +kernel, by decide +kernel, by decide +kernel, by decide +kernel⟩,
   
     ⟨W 1, mkc 0xFF p0 ([5] ++ zeros 95), adm (W 1) (mkc 0xFF p0 ([5] ++ zeros 95)) 0x3402, cmdReq (mkc 0xFF p0 ([5] ++ zeros 95)) 0x3402, admits_fresh (by decide +kernel) (by decide +kernel) (by decide +kernel),
     by decide +kernel, by decide +kernel, by decide +kernel, by decide +kernel, by decide +kernel⟩,
   
     ⟨W 1, mkc 0xFF p0 ([5, 5] ++ zeros 94), adm (W 1) (mkc 0xFF p0 ([5, 5] ++ zeros 94)) 0x3402, cmdReq (mkc 0xFF p0 ([5, 5] ++ zeros 94)) 0x3402, admits_fresh (by decide +kernel) (by decide +kernel) (by decide +kernel),
     by decide +kernel⟩,
   
     ⟨W 1, mkc 0xFF p0 [], adm (W 1) (mkc 0xFF p0 []) 0x3403, cmdReq (mkc 0xFF p0 []) 0x3403, admits_fresh (by decide +kernel) (by decide +kernel) (by decide +kernel)⟩,
   
     ⟨({ W 1 with sec := { (W 2).sec with challenge := some (7, 9) } } : State), mkc 0xFF p0 (zeros 128), adm (({ W 1 with sec := { (W 2).sec with challenge := some (7, 9) } } : State)) (mkc 0xFF p0 (zeros 128)) 0x3404, cmdReq (mkc 0xFF p0 (zeros 128)) 0x3404, 7, 9, admits_fresh (by decide +kernel) (by decide +kernel) (by decide +kernel),
     by decide +kernel, by decide +kernel, by decide +kernel, by decide +kernel⟩,
   
     ⟨W 1, mkc 0xFF p0 (zeros 128), adm (W 1) (mkc 0xFF p0 (zeros 128)) 0x3404, cmdReq (mkc 0xFF p0 (zeros 128)) 0x3404, admits_fresh (by decide +kernel) (by decide +kernel) (by decide +kernel),
     by decide +kernel⟩,
   
     ⟨W 2, mkc 0xFF #v[77, 0, 0, 0, 0, 0] [1, 2, 3], adm (W 2) (mkc 0xFF #v[77, 0, 0, 0, 0, 0] [1, 2, 3]) 0x3C00, cmdReq (mkc 0xFF #v[77, 0, 0, 0, 0, 0] [1, 2, 3]) 0x3C00, admits_fresh (by decide +kernel) (by decide +kernel) (by decide +kernel),
     by decide +kernel⟩,
   
     ⟨W 2, mkc 0xFF p0 [], adm (W 2) (mkc 0xFF p0 []) 0x3C01, cmdReq (mkc 0xFF p0 []) 0x3C01, admits_fresh (by decide +kernel) (by decide +kernel) (by decide +kernel)⟩,
   
     ⟨W 2, mkc 0xFF p0 [], adm (W 2) (mkc 0xFF p0 []) 0x3C02, cmdReq (mkc 0xFF p0 []) 0x3C02, admits_fresh (by decide +kernel) (by decide +kernel) (by decide +kernel)⟩,
   
     ⟨W 2, mkc 3 p0 (zeros 133), adm (W 2) (mkc 3 p0 (zeros 133)) 0x3C03, cmdReq (mkc 3 p0 (zeros 133)) 0x3C03, admits_fresh (by decide +kernel) (by decide +kernel) (by decide +kernel),
     by decide +kernel⟩,
   
     ⟨W 2, mkc 3 p0 (zeros 136), adm (W 2) (mkc 3 p0 (zeros 136)) 0x3C03, cmdReq (mkc 3 p0 (zeros 136)) 0x3C03, admits_fresh (by decide +kernel) (by decide +kernel) (by decide +kernel),
     by decide +kernel⟩,
   
     ⟨W 1, mkc 0xFF #v[5, 0, 0, 0, 0, 0] [1, 2, 3], adm (W 1) (mkc 0xFF #v[5, 0, 0, 0, 0, 0] [1, 2, 3]) 0x3C04, cmdReq (mkc 0xFF #v[5, 0, 0, 0, 0, 0] [1, 2, 3]) 0x3C04, admits_fresh (by decide +kernel) (by decide +kernel) (by decide +kernel),
     by decide +kernel⟩⟩

/-- States and operands that meet the hypotheses of each clause of MotionClassCommandsComplete. -/
theorem witness_MotionClassCommandsComplete :
  (∃ (s : State) (c : Cmd) (s1 : State) (r : Req), s.admits c 0x0800 = some (s1, r) ∧ s1.inMorning = true ∧ r.P 0 % 16 ≠ 4 ∧ r.P 0 % 16 ≠ 5 ∧
    s1.ramping r.unit = false) ∧
  (∃ (s : State) (c : Cmd) (s1 : State) (r : Req), s.admits c 0x0800 = some (s1, r) ∧ s1.inMorning = false ∧ r.P 0 % 16 ≠ 4 ∧ r.P 0 % 16 ≠ 5 ∧
    r.unit < 80 ∧ s1.ramping r.unit = false) ∧
  (∃ (s : State) (c : Cmd) (s1 : State) (r : Req), s.admits c 0x0800 = some (s1, r) ∧ r.P 0 % 16 ≠ 4 ∧ r.P 0 % 16 ≠ 5 ∧
    s1.ramping r.unit = true) ∧
  (∃ (s : State) (c : Cmd) (s1 : State) (r : Req), s.admits c 0x0801 = some (s1, r) ∧ r.unit < 80 ∧ 0 < r.fld 0 ∧ 0 < r.fld 1 ∧ 0 < r.fld 2 ∧
    s1.ramping r.unit = false ∧ s1.groupOf r.unit = none ∧ (if r.bit 0 0 then r.fld 3 else r.fld 3 - s1.endPos r.unit) ≠ 0) ∧
  (∃ (s : State) (c : Cmd) (s1 : State) (r : Req), s.admits c 0x0801 = some (s1, r) ∧ r.unit < 80 ∧ 0 < r.fld 0 ∧ 0 < r.fld 1 ∧ 0 < r.fld 2 ∧
    s1.ramping r.unit = false ∧ s1.groupOf r.unit = none ∧ r.bit 0 0 = false ∧ r.fld 3 = s1.endPos r.unit) ∧
  (∃ (s : State) (c : Cmd) (s1 : State) (r : Req), s.admits c 0x0801 = some (s1, r) ∧ r.fld 0 ≤ 0) ∧
  (∃ (s : State) (c : Cmd) (s1 : State) (r : Req), s.admits c 0x0802 = some (s1, r) ∧ 0 < r.fld 0 ∧ s1.moveBlocked r.unit = none ∧
    r.unit - 0x90 < 16 ∧ s1.planLow (r.unit - 0x90) = false) ∧
  (∃ (s : State) (c : Cmd) (s1 : State) (r : Req) (n : Nat), s.admits c 0x0802 = some (s1, r) ∧ 0 < r.fld 0 ∧ s1.moveBlocked r.unit = some n) ∧
  (∃ (s : State) (c : Cmd) (s1 : State) (r : Req), s.admits c 0x0803 = some (s1, r) ∧ 0 < r.fld 0 ∧ s1.moveBlocked r.unit = none ∧
    (bU r.data 8 1) < (s1.pathStart (r.unit - 0x90)).length ∧ (bU r.data 9 1) < (s1.pathStart (r.unit - 0x90)).length ∧
    (bU r.data 9 1) ≠ (bU r.data 8 1) ∧ r.bit 0 1 = false ∧ bZero r.data 11 5 = true ∧
    (norm [(((s1.pathStart (r.unit - 0x90)).getD (bU r.data 8 1) 0 - r.fld 2 : Int) : Rat), (((s1.pathStart (r.unit - 0x90)).getD (bU r.data 9 1) 0 - r.fld 3 : Int) : Rat)]) ≠ 0 ∧
    ratAbs ((norm [((r.fld 4 - r.fld 2 : Int) : Rat), ((r.fld 5 - r.fld 3 : Int) : Rat)]) - (norm [(((s1.pathStart (r.unit - 0x90)).getD (bU r.data 8 1) 0 - r.fld 2 : Int) : Rat), (((s1.pathStart (r.unit - 0x90)).getD (bU r.data 9 1) 0 - r.fld 3 : Int) : Rat)])) ≤ (s1.rd64N (GRP_CHTOL (r.unit - 0x90)) : Nat) ∧
    s1.chordOk (r.unit - 0x90) = true) ∧
  (∃ (s : State) (c : Cmd) (s1 : State) (r : Req), s.admits c 0x0803 = some (s1, r) ∧ 0 < r.fld 0 ∧ s1.moveBlocked r.unit = none ∧
    bU r.data 8 1 < (s1.pathStart (r.unit - 0x90)).length ∧ bU r.data 9 1 = bU r.data 8 1) ∧
  (∃ (s : State) (c : Cmd) (s1 : State) (r : Req), s.admits c 0x0804 = some (s1, r) ∧ 0 < r.fld 0 ∧ s1.moveBlocked r.unit = none ∧
    r.bit 0 0 = false ∧
    (((s1.pathStart (r.unit - 0x90)).zip ((r.rows (s1.pathStart (r.unit - 0x90)).length 1 ((r.data.length / 8 - 1) / max 1 (s1.pathStart (r.unit - 0x90)).length)).headD [])).all fun x => decide (absI (x.1 - x.2) ≤ 16777216)) = true ∧
    ((∀ q, q + 1 < (r.rows (s1.pathStart (r.unit - 0x90)).length 1 ((r.data.length / 8 - 1) / max 1 (s1.pathStart (r.unit - 0x90)).length)).length →
    (r.rows (s1.pathStart (r.unit - 0x90)).length 1 ((r.data.length / 8 - 1) / max 1 (s1.pathStart (r.unit - 0x90)).length)).getD q [] ≠ (r.rows (s1.pathStart (r.unit - 0x90)).length 1 ((r.data.length / 8 - 1) / max 1 (s1.pathStart (r.unit - 0x90)).length)).getD (q + 1) [])) ∧
    s1.chordOk (r.unit - 0x90) = true) ∧
  (∃ (s : State) (c : Cmd) (s1 : State) (r : Req), s.admits c 0x0805 = some (s1, r) ∧ s1.ramping r.unit = false ∧ r.unit < 80 ∧
    2 ≤ (r.data.length / 24) ∧ ((∀ i, i + 1 < (r.data.length / 24) →
    100000 ≤ ((((List.range (r.data.length / 24)).map fun i => (r.fld (3 * i) + (if r.bit 0 0 then s1.endPos r.unit else 0), r.fld (3 * i + 1), bU r.data (24 * i + 16) 8)).getD (i + 1) (0, 0, 0)).2.2 - (((List.range (r.data.length / 24)).map fun i => (r.fld (3 * i) + (if r.bit 0 0 then s1.endPos r.unit else 0), r.fld (3 * i + 1), bU r.data (24 * i + 16) 8)).getD i (0, 0, 0)).2.2) * s1.frameLen)) ∧
    (r.data.length / 24) - 1 ≤ 512 - (s1.planned r.unit).length) ∧
  (∃ (s : State) (c : Cmd) (s1 : State) (r : Req), s.admits c 0x0805 = some (s1, r) ∧ s1.ramping r.unit = true) ∧
  (∃ (s : State) (c : Cmd) (s1 : State) (r : Req), s.admits c 0x0806 = some (s1, r) ∧ ((r.unit < 0x90 → s1.ramping r.unit = false))) ∧
  (∃ (s : State) (c : Cmd) (s1 : State) (r : Req), s.admits c 0x0806 = some (s1, r) ∧ r.unit < 0x90 ∧ s1.ramping r.unit = true) ∧
  (∃ (s : State) (c : Cmd) (s1 : State) (r : Req), s.admits c 0x0807 = some (s1, r) ∧ r.unit < 80 ∧ r.bit 0 0 = false ∧ 0 < r.fld 1 ∧
    0 < r.fld 2 ∧ 0 < r.fld 3 ∧ s1.ramping r.unit = false ∧ r.fld 0 ≠ 0 ∧ (s1.mo r.unit).phaseDist = none) ∧
  (∃ (s : State) (c : Cmd) (s1 : State) (r : Req), s.admits c 0x0807 = some (s1, r) ∧ r.unit < 80 ∧ r.bit 0 0 = true ∧ 0 < r.fld 2 ∧
    s1.ramping r.unit = false ∧ r.fld 0 ≠ 0 ∧ (s1.mo r.unit).phaseTime = none ∧ (s1.mo r.unit).phaseNext = none ∧
    (s1.mo r.unit).phaseDist = none) ∧
  (∃ (s : State) (c : Cmd) (s1 : State) (r : Req), s.admits c 0x0807 = some (s1, r) ∧ 0 < r.fld 1 ∧ 0 < r.fld 2 ∧ 0 < r.fld 3 ∧
    s1.ramping r.unit = true) ∧
  (∃ (s : State) (c : Cmd) (s1 : State) (r : Req), s.admits c 0x0C00 = some (s1, r) ∧ r.unit < 80 ∧ s1.ramping r.unit = false) ∧
  (∃ (s : State) (c : Cmd) (s1 : State) (r : Req), s.admits c 0x0C00 = some (s1, r) ∧ s1.ramping r.unit = true) ∧
  (∃ (s : State) (c : Cmd) (s1 : State) (r : Req), s.admits c 0x0C01 = some (s1, r) ∧ 2 ≤ (r.P 1) ∧
    (∀ i < (r.P 1), bZero r.data (32 * i + 24) 8 = true) ∧ ((∀ n < 80, s1.get (AX_SRC n) AX_SRC_SRC = 3 →
    s1.get (AX_CAM n) AX_CAM_TABLE ≠ (r.P 0))) ∧
    (r.P 1) ≤ 65536 - ((s1.cams.filter fun c => c.table != (r.P 0)).map fun c => c.pts.length).sum ∧ ((∀ i, i + 1 < (r.P 1) →
    r.fld (4 * i) < r.fld (4 * (i + 1)))) ∧ r.bit 2 0 = false ∧ ((r.bit 2 1 = true → r.fld 2 = r.fld (4 * ((r.P 1) - 1) + 2)))) ∧
  (∃ (s : State) (c : Cmd) (s1 : State) (r : Req) (n : Nat), s.admits c 0x0C01 = some (s1, r) ∧ n < 80 ∧
    (∀ i < r.P 1, bZero r.data (32 * i + 24) 8 = true) ∧ s1.get (AX_SRC n) AX_SRC_SRC = 3 ∧ s1.get (AX_CAM n) AX_CAM_TABLE = r.P 0) ∧
  (∃ (s : State) (c : Cmd) (s1 : State) (r : Req), s.admits c 0x0C02 = some (s1, r) ∧ r.unit < 80 ∧ s1.ramping r.unit = false) ∧
  (∃ (s : State) (c : Cmd) (s1 : State) (r : Req), s.admits c 0x0C03 = some (s1, r) ∧ r.unit < 80 ∧ s1.ramping r.unit = false ∧
    (∀ x ∈ (s1.mo r.unit).chgs, x.camSwitch = false)) ∧
  (∃ (s : State) (c : Cmd) (s1 : State) (r : Req), s.admits c 0x0C03 = some (s1, r) ∧ s1.ramping r.unit = true) ∧
  (∃ (s : State) (c : Cmd) (s1 : State) (r : Req), s.admits c 0x1000 = some (s1, r) ∧
    s1.imageTaken (imageItems (imageOf 0x1000 r.unit false)) r.data = true ∧ r.bit 0 0 = true ∧ r.unit < 64) ∧
  (∃ (s : State) (c : Cmd) (s1 : State) (r : Req), s.admits c 0x1000 = some (s1, r) ∧
    s1.imageTaken (imageItems (imageOf 0x1000 r.unit false)) r.data = true ∧ r.bit 0 0 = false) ∧
  (∃ (s : State) (c : Cmd) (s1 : State) (r : Req), s.admits c 0x1002 = some (s1, r) ∧
    s1.imageTaken (imageItems (spanOf (BANK_SHA (r.unit) (1 - s1.bankOf (r.unit)) - 0x24) 17)) r.data = true ∧ r.bit 0 0 = false) ∧
  (∃ (s : State) (c : Cmd) (s1 : State) (r : Req), s.admits c 0x1002 = some (s1, r) ∧
    s1.imageTaken (imageItems (spanOf (BANK_SHA (r.unit) (1 - s1.bankOf (r.unit)) - 0x24) 17)) r.data = true ∧ r.bit 0 0 = true ∧
    s1.tokenHolds CTOK_CLE (r.unit) = none ∧ (r.unit) < 32 ∧
    ((s1.imagePut (imageItems (spanOf (BANK_SHA (r.unit) (1 - s1.bankOf (r.unit)) - 0x24) 17)) r.data).cle (r.unit)).swapAt = none) ∧
  (∃ (s : State) (c : Cmd) (s1 : State) (r : Req) (k : Nat), s.admits c 0x1002 = some (s1, r) ∧ r.bit 0 0 = true ∧
    s1.tokenHolds CTOK_CLE r.unit = some k) ∧
  (∃ (s : State) (c : Cmd) (s1 : State) (r : Req), s.admits c 0x1004 = some (s1, r) ∧ s.canonical = true ∧
    ((∀ n < 64, s1.aflag (AXL_RCFG n) AXL_RCFG_REN = true →
    overlaps (r.P 0, r.P 1) (s1.aget (AXL_RCFG n) AXL_RCFG_BASE, 2 ^ s1.aget (AXL_RCFG n) AXL_RCFG_SZ) = false))) ∧
  (∃ (s : State) (c : Cmd) (s1 : State) (r : Req) (n : Nat), s.admits c 0x1004 = some (s1, r) ∧ n < 64 ∧
    s1.aflag (AXL_RCFG n) AXL_RCFG_REN = true ∧
    overlaps (r.P 0, r.P 1) (s1.aget (AXL_RCFG n) AXL_RCFG_BASE, 2 ^ s1.aget (AXL_RCFG n) AXL_RCFG_SZ) = true) ∧
  (∃ (s : State) (c : Cmd) (s1 : State) (r : Req), s.admits c 0x1005 = some (s1, r)) ∧
  (∃ (s : State) (c : Cmd) (s1 : State) (r : Req), s.admits c 0x1006 = some (s1, r) ∧ s1.flag (LPINJ_STAT r.unit) LPINJ_STAT_RUNNING = false ∧
    s1.imageTaken (imageItems (imageOf 0x1006 r.unit false)) r.data = true ∧ r.bit 0 0 = true ∧
    ((s1.imagePut (imageItems (imageOf 0x1006 r.unit false)) r.data).injStart r.unit).flag (LPINJ_STAT r.unit) LPINJ_STAT_RUNNING = true) ∧
  (∃ (s : State) (c : Cmd) (s1 : State) (r : Req), s.admits c 0x1006 = some (s1, r) ∧ s1.flag (LPINJ_STAT r.unit) LPINJ_STAT_RUNNING = false ∧
    s1.imageTaken (imageItems (imageOf 0x1006 r.unit false)) r.data = true ∧ r.bit 0 0 = false) ∧
  (∃ (s : State) (c : Cmd) (s1 : State) (r : Req), s.admits c 0x1006 = some (s1, r) ∧ s1.flag (LPINJ_STAT r.unit) LPINJ_STAT_RUNNING = true) :=
  ⟨
     ⟨W 1, mkc 3 #v[1, 0, 0, 0, 0, 0] [], adm (W 1) (mkc 3 #v[1, 0, 0, 0, 0, 0] []) 0x0800, cmdReq (mkc 3 #v[1, 0, 0, 0, 0, 0] []) 0x0800, admits_fresh (by decide +kernel) (by decide +kernel) (by decide +kernel),
     by decide +kernel, by decide +kernel, by decide +kernel, by decide +kernel⟩,
   
     ⟨W 2, mkc 3 #v[1, 0, 0, 0, 0, 0] [], adm (W 2) (mkc 3 #v[1, 0, 0, 0, 0, 0] []) 0x0800, cmdReq (mkc 3 #v[1, 0, 0, 0, 0, 0] []) 0x0800, admits_fresh (by decide +kernel) (by decide +kernel) (by decide +kernel),
     by decide +kernel, by decide +kernel, by decide +kernel, by decide +kernel, by decide +kernel⟩,
   
     ⟨ramp1 (W 2) 3, mkc 3 #v[1, 0, 0, 0, 0, 0] [], adm (ramp1 (W 2) 3) (mkc 3 #v[1, 0, 0, 0, 0, 0] []) 0x0800, cmdReq (mkc 3 #v[1, 0, 0, 0, 0, 0] []) 0x0800, admits_fresh (by decide +kernel) (by decide +kernel) (by decide +kernel),
     by decide +kernel, by decide +kernel, by decide +kernel⟩,
   
     ⟨W 2, mkc 3 p0 (pl8 [1000, 1000, 1000, 5000]), adm (W 2) (mkc 3 p0 (pl8 [1000, 1000, 1000, 5000])) 0x0801, cmdReq (mkc 3 p0 (pl8 [1000, 1000, 1000, 5000])) 0x0801, admits_fresh (by decide +kernel) (by decide +kernel) (by decide +kernel),
     by decide +kernel, by decide +kernel, by decide +kernel, by decide +kernel, by decide +kernel, by decide +kernel, by decide +kernel⟩,
   
     ⟨W 2, mkc 3 p0 (pl8 [1000, 1000, 1000, 0]), adm (W 2) (mkc 3 p0 (pl8 [1000, 1000, 1000, 0])) 0x0801, cmdReq (mkc 3 p0 (pl8 [1000, 1000, 1000, 0])) 0x0801, admits_fresh (by decide +kernel) (by decide +kernel) (by decide +kernel),
     by decide +kernel, by decide +kernel, by decide +kernel, by decide +kernel, by decide +kernel, by decide +kernel, by decide +kernel,
     by decide +kernel⟩,
   
     ⟨W 2, mkc 3 p0 (pl8 [0, 1000, 1000, 0]), adm (W 2) (mkc 3 p0 (pl8 [0, 1000, 1000, 0])) 0x0801, cmdReq (mkc 3 p0 (pl8 [0, 1000, 1000, 0])) 0x0801, admits_fresh (by decide +kernel) (by decide +kernel) (by decide +kernel),
     by decide +kernel⟩,
   
     ⟨(grp.modMo 3 fun m => { m with plan := far }).modMo 4 fun m => { m with plan := far }, mkc 0x92 p0 (pl8 [10, 5, 6]), adm ((grp.modMo 3 fun m => { m with plan := far }).modMo 4 fun m => { m with plan := far }) (mkc 0x92 p0 (pl8 [10, 5, 6])) 0x0802, cmdReq (mkc 0x92 p0 (pl8 [10, 5, 6])) 0x0802, admits_fresh (by decide +kernel) (by decide +kernel) (by decide +kernel),
     by decide +kernel, by decide +kernel, by decide +kernel, by decide +kernel⟩,
   
     ⟨ramp1 grp 3, mkc 0x92 p0 (pl8 [10, 5, 6]), adm (ramp1 grp 3) (mkc 0x92 p0 (pl8 [10, 5, 6])) 0x0802, cmdReq (mkc 0x92 p0 (pl8 [10, 5, 6])) 0x0802, 3, admits_fresh (by decide +kernel) (by decide +kernel) (by decide +kernel),
     by decide +kernel, by decide +kernel⟩,
   
     ⟨grp.wr64N (GRP_CHTOL 2) 1000, mkc 0x92 p0 (pl8 [10, 0x100, 10, 0, 20, 0]), adm (grp.wr64N (GRP_CHTOL 2) 1000) (mkc 0x92 p0 (pl8 [10, 0x100, 10, 0, 20, 0])) 0x0803, cmdReq (mkc 0x92 p0 (pl8 [10, 0x100, 10, 0, 20, 0])) 0x0803, admits_fresh (by decide +kernel) (by decide +kernel) (by decide +kernel),
     by decide +kernel, by decide +kernel, by decide +kernel, by decide +kernel, by decide +kernel, by decide +kernel, by decide +kernel,
     by decide +kernel, by decide +kernel, by decide +kernel⟩,
   
     ⟨grp, mkc 0x92 p0 (pl8 [10, 0, 10, 0, 20, 0]), adm (grp) (mkc 0x92 p0 (pl8 [10, 0, 10, 0, 20, 0])) 0x0803, cmdReq (mkc 0x92 p0 (pl8 [10, 0, 10, 0, 20, 0])) 0x0803, admits_fresh (by decide +kernel) (by decide +kernel) (by decide +kernel),
     by decide +kernel, by decide +kernel, by decide +kernel, by decide +kernel⟩,
   
     ⟨grp.wr64N (GRP_CHTOL 2) 1000, mkc 0x92 p0 (pl8 [10, 0, 0, 5, 5]), adm (grp.wr64N (GRP_CHTOL 2) 1000) (mkc 0x92 p0 (pl8 [10, 0, 0, 5, 5])) 0x0804, cmdReq (mkc 0x92 p0 (pl8 [10, 0, 0, 5, 5])) 0x0804, admits_fresh (by decide +kernel) (by decide +kernel) (by decide +kernel),
     by decide +kernel, by decide +kernel, by decide +kernel, by decide +kernel, all_succ_lt (by decide +kernel), by decide +kernel⟩,
   
     ⟨W 2, mkc 3 p0 (pl8 [0, 0, 100, 5, 0, 200]), adm (W 2) (mkc 3 p0 (pl8 [0, 0, 100, 5, 0, 200])) 0x0805, cmdReq (mkc 3 p0 (pl8 [0, 0, 100, 5, 0, 200])) 0x0805, admits_fresh (by decide +kernel) (by decide +kernel) (by decide +kernel),
     by decide +kernel, by decide +kernel, by decide +kernel, all_succ_lt (by decide +kernel), by decide +kernel⟩,
   
     ⟨ramp1 (W 2) 3, mkc 3 p0 (pl8 [0, 0, 100, 5, 0, 200]), adm (ramp1 (W 2) 3) (mkc 3 p0 (pl8 [0, 0, 100, 5, 0, 200])) 0x0805, cmdReq (mkc 3 p0 (pl8 [0, 0, 100, 5, 0, 200])) 0x0805, admits_fresh (by decide +kernel) (by decide +kernel) (by decide +kernel),
     by decide +kernel⟩,
   
     ⟨W 2, mkc 3 p0 [], adm (W 2) (mkc 3 p0 []) 0x0806, cmdReq (mkc 3 p0 []) 0x0806, admits_fresh (by decide +kernel) (by decide +kernel) (by decide +kernel),
     by decide +kernel⟩,
   
     ⟨ramp1 (W 2) 3, mkc 3 p0 [], adm (ramp1 (W 2) 3) (mkc 3 p0 []) 0x0806, cmdReq (mkc 3 p0 []) 0x0806, admits_fresh (by decide +kernel) (by decide +kernel) (by decide +kernel),
     by decide +kernel, by decide +kernel⟩,
   
     ⟨W 2, mkc 3 p0 (pl8 [7, 1000, 1000, 1000]), adm (W 2) (mkc 3 p0 (pl8 [7, 1000, 1000, 1000])) 0x0807, cmdReq (mkc 3 p0 (pl8 [7, 1000, 1000, 1000])) 0x0807, admits_fresh (by decide +kernel) (by decide +kernel) (by decide +kernel),
     by decide +kernel, by decide +kernel, by decide +kernel, by decide +kernel, by decide +kernel, by decide +kernel, by decide +kernel,
     by decide +kernel⟩,
   
     ⟨W 2, mkc 3 #v[1, 0, 0, 0, 0, 0] (pl8 [7, 100, 1000]), adm (W 2) (mkc 3 #v[1, 0, 0, 0, 0, 0] (pl8 [7, 100, 1000])) 0x0807, cmdReq (mkc 3 #v[1, 0, 0, 0, 0, 0] (pl8 [7, 100, 1000])) 0x0807, admits_fresh (by decide +kernel) (by decide +kernel) (by decide +kernel),
     by decide +kernel, by decide +kernel, by decide +kernel, by decide +kernel, by decide +kernel, by decide +kernel, by decide +kernel,
     by decide +kernel⟩,
   
     ⟨ramp1 (W 2) 3, mkc 3 p0 (pl8 [7, 1000, 1000, 1000]), adm (ramp1 (W 2) 3) (mkc 3 p0 (pl8 [7, 1000, 1000, 1000])) 0x0807, cmdReq (mkc 3 p0 (pl8 [7, 1000, 1000, 1000])) 0x0807, admits_fresh (by decide +kernel) (by decide +kernel) (by decide +kernel),
     by decide +kernel, by decide +kernel, by decide +kernel, by decide +kernel⟩,
   
     ⟨W 2, mkc 3 #v[2, 3, 4, 0, 0, 0] [], adm (W 2) (mkc 3 #v[2, 3, 4, 0, 0, 0] []) 0x0C00, cmdReq (mkc 3 #v[2, 3, 4, 0, 0, 0] []) 0x0C00, admits_fresh (by decide +kernel) (by decide +kernel) (by decide +kernel),
     by decide +kernel, by decide +kernel⟩,
   
     ⟨ramp1 (W 2) 3, mkc 3 #v[2, 3, 4, 0, 0, 0] [], adm (ramp1 (W 2) 3) (mkc 3 #v[2, 3, 4, 0, 0, 0] []) 0x0C00, cmdReq (mkc 3 #v[2, 3, 4, 0, 0, 0] []) 0x0C00, admits_fresh (by decide +kernel) (by decide +kernel) (by decide +kernel),
     by decide +kernel⟩,
   
     ⟨W 2, mkc 0xFF #v[7, 2, 0, 0, 0, 0] (pl8 [0, 0, 0, 0, 0x1000000, 5, 0, 0]), adm (W 2) (mkc 0xFF #v[7, 2, 0, 0, 0, 0] (pl8 [0, 0, 0, 0, 0x1000000, 5, 0, 0])) 0x0C01, cmdReq (mkc 0xFF #v[7, 2, 0, 0, 0, 0] (pl8 [0, 0, 0, 0, 0x1000000, 5, 0, 0])) 0x0C01, admits_fresh (by decide +kernel) (by decide +kernel) (by decide +kernel),
     by decide +kernel, by decide +kernel, by decide +kernel, by decide +kernel, all_succ_lt (by decide +kernel), by decide +kernel,
     by decide +kernel⟩,
   
     ⟨(W 2).put (AX_SRC 3) AX_SRC_SRC 3, mkc 0xFF p0 [], adm ((W 2).put (AX_SRC 3) AX_SRC_SRC 3) (mkc 0xFF p0 []) 0x0C01, cmdReq (mkc 0xFF p0 []) 0x0C01, 3, admits_fresh (by decide +kernel) (by decide +kernel) (by decide +kernel),
     by decide +kernel, by decide +kernel, by decide +kernel, by decide +kernel⟩,
   
     ⟨W 2, mkc 3 #v[7, 0x400, 0, 0, 0, 0] [], adm (W 2) (mkc 3 #v[7, 0x400, 0, 0, 0, 0] []) 0x0C02, cmdReq (mkc 3 #v[7, 0x400, 0, 0, 0, 0] []) 0x0C02, admits_fresh (by decide +kernel) (by decide +kernel) (by decide +kernel),
     by decide +kernel, by decide +kernel⟩,
   
     ⟨W 2, mkc 3 #v[7, 1, 0, 0, 0, 0] [], adm (W 2) (mkc 3 #v[7, 1, 0, 0, 0, 0] []) 0x0C03, cmdReq (mkc 3 #v[7, 1, 0, 0, 0, 0] []) 0x0C03, admits_fresh (by decide +kernel) (by decide +kernel) (by decide +kernel),
     by decide +kernel, by decide +kernel, by decide +kernel⟩,
   
     ⟨ramp1 (W 2) 3, mkc 3 #v[7, 1, 0, 0, 0, 0] [], adm (ramp1 (W 2) 3) (mkc 3 #v[7, 1, 0, 0, 0, 0] []) 0x0C03, cmdReq (mkc 3 #v[7, 1, 0, 0, 0, 0] []) 0x0C03, admits_fresh (by decide +kernel) (by decide +kernel) (by decide +kernel),
     by decide +kernel⟩,
   
     ⟨W 2, mkc 3 #v[1, 0, 0, 0, 0, 0] (imgd (W 2) (imageOf 0x1000 3 false)), adm (W 2) (mkc 3 #v[1, 0, 0, 0, 0, 0] (imgd (W 2) (imageOf 0x1000 3 false))) 0x1000, cmdReq (mkc 3 #v[1, 0, 0, 0, 0, 0] (imgd (W 2) (imageOf 0x1000 3 false))) 0x1000, admits_fresh (by decide +kernel) (by decide +kernel) (by decide +kernel),
     by decide +kernel, by decide +kernel, by decide +kernel⟩,
   
     ⟨W 2, mkc 3 p0 (imgd (W 2) (imageOf 0x1000 3 false)), adm (W 2) (mkc 3 p0 (imgd (W 2) (imageOf 0x1000 3 false))) 0x1000, cmdReq (mkc 3 p0 (imgd (W 2) (imageOf 0x1000 3 false))) 0x1000, admits_fresh (by decide +kernel) (by decide +kernel) (by decide +kernel),
     by decide +kernel, by decide +kernel⟩,
   
     ⟨W 2, mkc 3 p0 (imgd (W 2) (spanOf (BANK_SHA 3 (1 - (W 2).bankOf 3) - 0x24) 17)), adm (W 2) (mkc 3 p0 (imgd (W 2) (spanOf (BANK_SHA 3 (1 - (W 2).bankOf 3) - 0x24) 17))) 0x1002, cmdReq (mkc 3 p0 (imgd (W 2) (spanOf (BANK_SHA 3 (1 - (W 2).bankOf 3) - 0x24) 17))) 0x1002, admits_fresh (by decide +kernel) (by decide +kernel) (by decide +kernel),
     by decide +kernel, by decide +kernel⟩,
   
     ⟨W 2, mkc 3 #v[1, 0, 0, 0, 0, 0] (imgd (W 2) (spanOf (BANK_SHA 3 (1 - (W 2).bankOf 3) - 0x24) 17)), adm (W 2) (mkc 3 #v[1, 0, 0, 0, 0, 0] (imgd (W 2) (spanOf (BANK_SHA 3 (1 - (W 2).bankOf 3) - 0x24) 17))) 0x1002, cmdReq (mkc 3 #v[1, 0, 0, 0, 0, 0] (imgd (W 2) (spanOf (BANK_SHA 3 (1 - (W 2).bankOf 3) - 0x24) 17))) 0x1002, admits_fresh (by decide +kernel) (by decide +kernel) (by decide +kernel),
     by decide +kernel, by decide +kernel, by decide +kernel, by decide +kernel, by decide +kernel⟩,
   
     ⟨((W 2).put (CTOK_CTRL 4) CTOK_CTRL_STATE 1).wrN (CTOK_CLE 4) 8, mkc 3 #v[1, 0, 0, 0, 0, 0] (zeros 68), adm (((W 2).put (CTOK_CTRL 4) CTOK_CTRL_STATE 1).wrN (CTOK_CLE 4) 8) (mkc 3 #v[1, 0, 0, 0, 0, 0] (zeros 68)) 0x1002, cmdReq (mkc 3 #v[1, 0, 0, 0, 0, 0] (zeros 68)) 0x1002, 4, admits_fresh (by decide +kernel) (by decide +kernel) (by decide +kernel),
     by decide +kernel, by decide +kernel⟩,
   
     ⟨W 2, mkc 0xFF #v[10, 2, 0, 0, 0, 0] [1, 2, 3, 4, 5, 6, 7, 8], adm (W 2) (mkc 0xFF #v[10, 2, 0, 0, 0, 0] [1, 2, 3, 4, 5, 6, 7, 8]) 0x1004, cmdReq (mkc 0xFF #v[10, 2, 0, 0, 0, 0] [1, 2, 3, 4, 5, 6, 7, 8]) 0x1004, admits_fresh (by decide +kernel) (by decide +kernel) (by decide +kernel),
     by decide +kernel, by decide +kernel⟩,
   
     ⟨(W 2).awr (AXL_RCFG 3) 0x80000000, mkc 0xFF #v[0, 2, 0, 0, 0, 0] [1, 2, 3, 4, 5, 6, 7, 8], adm ((W 2).awr (AXL_RCFG 3) 0x80000000) (mkc 0xFF #v[0, 2, 0, 0, 0, 0] [1, 2, 3, 4, 5, 6, 7, 8]) 0x1004, cmdReq (mkc 0xFF #v[0, 2, 0, 0, 0, 0] [1, 2, 3, 4, 5, 6, 7, 8]) 0x1004, 3, admits_fresh (by decide +kernel) (by decide +kernel) (by decide +kernel),
     by decide +kernel, by decide +kernel, by decide +kernel⟩,
   
     ⟨W 2, mkc 0xFF #v[10, 2, 0, 0, 0, 0] [], adm (W 2) (mkc 0xFF #v[10, 2, 0, 0, 0, 0] []) 0x1005, cmdReq (mkc 0xFF #v[10, 2, 0, 0, 0, 0] []) 0x1005, admits_fresh (by decide +kernel) (by decide +kernel) (by decide +kernel)⟩,
   
     ⟨(W 2).put (LPINJ_CFG ((W 2).lpOf 3)) LPINJ_CFG_AXIS 3, mkc (BitVec.ofNat 8 ((W 2).lpOf 3)) #v[1, 0, 0, 0, 0, 0] (imgd ((W 2).put (LPINJ_CFG ((W 2).lpOf 3)) LPINJ_CFG_AXIS 3) (imageOf 0x1006 ((W 2).lpOf 3) false)), adm ((W 2).put (LPINJ_CFG ((W 2).lpOf 3)) LPINJ_CFG_AXIS 3) (mkc (BitVec.ofNat 8 ((W 2).lpOf 3)) #v[1, 0, 0, 0, 0, 0] (imgd ((W 2).put (LPINJ_CFG ((W 2).lpOf 3)) LPINJ_CFG_AXIS 3) (imageOf 0x1006 ((W 2).lpOf 3) false))) 0x1006, cmdReq (mkc (BitVec.ofNat 8 ((W 2).lpOf 3)) #v[1, 0, 0, 0, 0, 0] (imgd ((W 2).put (LPINJ_CFG ((W 2).lpOf 3)) LPINJ_CFG_AXIS 3) (imageOf 0x1006 ((W 2).lpOf 3) false))) 0x1006, admits_fresh (by decide +kernel) (by decide +kernel) (by decide +kernel),
     by decide +kernel, by decide +kernel, by decide +kernel, by decide +kernel⟩,
   
     ⟨W 2, mkc 3 p0 (imgd (W 2) (imageOf 0x1006 3 false)), adm (W 2) (mkc 3 p0 (imgd (W 2) (imageOf 0x1006 3 false))) 0x1006, cmdReq (mkc 3 p0 (imgd (W 2) (imageOf 0x1006 3 false))) 0x1006, admits_fresh (by decide +kernel) (by decide +kernel) (by decide +kernel),
     by decide +kernel, by decide +kernel, by decide +kernel⟩,
   
     ⟨(W 2).setf (LPINJ_STAT 3) LPINJ_STAT_RUNNING, mkc 3 p0 (zeros 24), adm ((W 2).setf (LPINJ_STAT 3) LPINJ_STAT_RUNNING) (mkc 3 p0 (zeros 24)) 0x1006, cmdReq (mkc 3 p0 (zeros 24)) 0x1006, admits_fresh (by decide +kernel) (by decide +kernel) (by decide +kernel),
     by decide +kernel⟩⟩

/-- States and operands that meet the hypotheses of each clause of DeviceClassCommandsComplete. -/
theorem witness_DeviceClassCommandsComplete :
  (∃ (s : State) (c : Cmd) (s1 : State) (r : Req), s.admits c 0x1401 = some (s1, r) ∧ r.unit < 16 ∧ r.P 0 % 32 = 1 ∧ s.canonical = true) ∧
  (∃ (s : State) (c : Cmd) (s1 : State) (r : Req), s.admits c 0x1401 = some (s1, r) ∧ r.P 0 % 32 = 0) ∧
  (∃ (s : State) (c : Cmd) (s1 : State) (r : Req), s.admits c 0x1801 = some (s1, r) ∧ (s1.latch r.unit).fifo = []) ∧
  (∃ (s : State) (c : Cmd) (s1 : State) (r : Req), s.admits c 0x1801 = some (s1, r) ∧ (s1.latch r.unit).fifo ≠ [] ∧ r.P 0 = 1) ∧
  (∃ (s : State) (c : Cmd) (s1 : State) (r : Req), s.admits c 0x1802 = some (s1, r) ∧ s.canonical = true ∧
    (∀ i < r.P 1, bU r.data (16 * i + 11) 1 < 32 ∧ bU r.data (16 * i + 12) 4 = 0)) ∧
  (∃ (s : State) (c : Cmd) (s1 : State) (r : Req), s.admits c 0x1803 = some (s1, r) ∧ r.P 0 % 4 = 0) ∧
  (∃ (s : State) (c : Cmd) (s1 : State) (r : Req), s.admits c 0x1803 = some (s1, r) ∧ r.P 0 % 4 = 1) ∧
  (∃ (s : State) (c : Cmd) (s1 : State) (r : Req), s.admits c 0x1806 = some (s1, r) ∧ s.canonical = true ∧ r.unit < 8 ∧
    nbit (s1.rdN SYS_HAMODE) 3 = true ∧ s1.ramping (s1.get (RC_CFG r.unit) RC_CFG_FAX) = false ∧ -(s1.rd64I (RC_LIMIT r.unit)) ≤ r.S64 0 ∧
    r.S64 0 ≤ s1.rd64I (RC_LIMIT r.unit)) ∧
  (∃ (s : State) (c : Cmd) (s1 : State) (r : Req), s.admits c 0x1806 = some (s1, r) ∧ nbit (s1.rdN SYS_HAMODE) 3 = false) ∧
  (∃ (s : State) (c : Cmd) (s1 : State) (r : Req), s.admits c 0x1C01 = some (s1, r)) ∧
  (∃ (s : State) (c : Cmd) (s1 : State) (r : Req), s.admits c 0x1C02 = some (s1, r) ∧ s1.ptpHost = true ∧ r.S64 1 = 0) ∧
  (∃ (s : State) (c : Cmd) (s1 : State) (r : Req), s.admits c 0x1C02 = some (s1, r) ∧ s1.ptpHost = false) ∧
  (∃ (s : State) (c : Cmd) (s1 : State) (r : Req) (t : State), s.admits c 0x1C03 = some (s1, r) ∧
    s1.tableSteps (!r.bit 0 0) (r.P 2) (r.P 1) 0 r.data = .ok t) ∧
  (∃ (s : State) (c : Cmd) (s1 : State) (r : Req) (o : Nat), s.admits c 0x1C03 = some (s1, r) ∧
    s1.tableSteps (!r.bit 0 0) (r.P 2) (r.P 1) 0 r.data = .error o) ∧
  (∃ (s : State) (c : Cmd) (s1 : State) (r : Req), s.admits c 0x1C04 = some (s1, r) ∧ s.canonical = true ∧ r.P 0 ≠ 0 ∧ r.P 0 < 65536 ∧
    r.P 0 ≠ s1.epoch ∧ s1.time.frameNum + 3 ≤ r.P64 1 ∧ s1.rm.change = none ∧ s1.flag RM_NEXT RM_NEXT_PEND = false) ∧
  (∃ (s : State) (c : Cmd) (s1 : State) (r : Req), s.admits c 0x1C04 = some (s1, r) ∧ s1.flag RM_NEXT RM_NEXT_PEND = true) ∧
  (∃ (s : State) (c : Cmd) (s1 : State) (r : Req), s.admits c 0x2001 = some (s1, r) ∧ nbit (s1.rd64N (CAN_BDIR r.unit)) (r.P 0 % 64) = true ∧
    s1.canPending r.unit (r.P 0 % 64) = false ∧ s1.imageTaken (imageItems (spanOf (CANBUF_W0 r.unit (r.P 0 % 64)) 24)) r.data = true) ∧
  (∃ (s : State) (c : Cmd) (s1 : State) (r : Req), s.admits c 0x2001 = some (s1, r) ∧ nbit (s1.rd64N (CAN_BDIR r.unit)) (r.P 0 % 64) = true ∧
    s1.canPending r.unit (r.P 0 % 64) = true) ∧
  (∃ (s : State) (c : Cmd) (s1 : State) (r : Req), s.admits c 0x2002 = some (s1, r) ∧ r.P 0 = 0) ∧
  (∃ (s : State) (c : Cmd) (s1 : State) (r : Req), s.admits c 0x2002 = some (s1, r) ∧ r.P 0 ≠ 0 ∧
    s1.get (canFifo r.unit (r.P 0 - 1)) CAN_FIFO0_LEVEL = 0) ∧
  (∃ (s : State) (c : Cmd) (s1 : State) (r : Req), s.admits c 0x2003 = some (s1, r) ∧ r.unit < 4 ∧ s1.canBusOff r.unit = true) ∧
  (∃ (s : State) (c : Cmd) (s1 : State) (r : Req), s.admits c 0x2003 = some (s1, r) ∧ s1.canBusOff r.unit = false) ∧
  (∃ (s : State) (c : Cmd) (s1 : State) (r : Req), s.admits c 0x2401 = some (s1, r) ∧ s.canonical = true) ∧
  (∃ (s : State) (c : Cmd) (s1 : State) (r : Req), s.admits c 0x2402 = some (s1, r)) ∧
  (∃ (s : State) (c : Cmd) (s1 : State) (r : Req), s.admits c 0x2403 = some (s1, r) ∧ s1.fgState r.unit = 0) ∧
  (∃ (s : State) (c : Cmd) (s1 : State) (r : Req), s.admits c 0x2403 = some (s1, r) ∧ s1.fgState r.unit ≠ 0) ∧
  (∃ (s : State) (c : Cmd) (s1 : State) (r : Req), s.admits c 0x2800 = some (s1, r)) ∧
  (∃ (s : State) (c : Cmd) (s1 : State) (r : Req), s.admits c 0x2C01 = some (s1, r) ∧ s1.armCause r.unit = 0) ∧
  (∃ (s : State) (c : Cmd) (s1 : State) (r : Req), s.admits c 0x2C01 = some (s1, r) ∧ s1.armCause r.unit = 2) ∧
  (∃ (s : State) (c : Cmd) (s1 : State) (r : Req), s.admits c 0x2C02 = some (s1, r) ∧ r.P64 0 + r.P 2 ≤ s1.cuDepth r.unit * s1.cuSegs r.unit) ∧
  (∃ (s : State) (c : Cmd) (s1 : State) (r : Req), s.admits c 0x2C02 = some (s1, r) ∧ s1.cuDepth r.unit * s1.cuSegs r.unit < r.P64 0) ∧
  (∃ (s : State) (c : Cmd) (s1 : State) (r : Req), s.admits c 0x3000 = some (s1, r) ∧ r.bit 2 0 = false) ∧
  (∃ (s : State) (c : Cmd) (s1 : State) (r : Req), s.admits c 0x3000 = some (s1, r) ∧ r.bit 2 0 = true ∧ nbit (s1.rdN SYS_HAMODE) 5 = false) ∧
  (∃ (s : State) (c : Cmd) (s1 : State) (r : Req), s.admits c 0x3001 = some (s1, r) ∧ s.canonical = true ∧ r.bit 0 0 = true ∧
    s1.frozen = false ∧ s1.log.appAt ≠ s1.tick) ∧
  (∃ (s : State) (c : Cmd) (s1 : State) (r : Req), s.admits c 0x3001 = some (s1, r) ∧ s.canonical = true ∧ r.bit 0 0 = false ∧
    s1.frozen = true ∧ s1.get LOG_LOST LOG_LOST_FRZ = 0) ∧
  (∃ (s : State) (c : Cmd) (s1 : State) (r : Req), s.admits c 0x3002 = some (s1, r) ∧ s1.frozen = true) ∧
  (∃ (s : State) (c : Cmd) (s1 : State) (r : Req), s.admits c 0x3002 = some (s1, r) ∧ s1.frozen = false) ∧
  (∃ (s : State) (c : Cmd) (s1 : State) (r : Req), s.admits c 0x3801 = some (s1, r) ∧ r.bit 0 0 = true) ∧
  (∃ (s : State) (c : Cmd) (s1 : State) (r : Req), s.admits c 0x3801 = some (s1, r) ∧ r.bit 0 0 = false) ∧
  (∃ (s : State) (c : Cmd) (s1 : State) (r : Req), s.admits c 0x3802 = some (s1, r) ∧ s1.isActive = false) ∧
  (∃ (s : State) (c : Cmd) (s1 : State) (r : Req), s.admits c 0x3802 = some (s1, r) ∧ s1.isActive = true) ∧
  (∃ (s : State) (c : Cmd) (s1 : State) (r : Req), s.admits c 0x3803 = some (s1, r) ∧ s.canonical = true ∧ s1.flag TW_HO TW_HO_PEND = false ∧
    s1.flag TW_STAT TW_STAT_PEER_READY = true ∧ s1.time.frameNum + 2 ≤ r.P64 0) ∧
  (∃ (s : State) (c : Cmd) (s1 : State) (r : Req), s.admits c 0x3803 = some (s1, r) ∧ s1.flag TW_HO TW_HO_PEND = true) :=
  ⟨
     ⟨W 1, mkc 3 #v[1, 77, 0, 0, 0, 0] [], adm (W 1) (mkc 3 #v[1, 77, 0, 0, 0, 0] []) 0x1401, cmdReq (mkc 3 #v[1, 77, 0, 0, 0, 0] []) 0x1401, admits_fresh (by decide +kernel) (by decide +kernel) (by decide +kernel),
     by decide +kernel, by decide +kernel, by decide +kernel⟩,
   
     ⟨W 1, mkc 3 p0 [], adm (W 1) (mkc 3 p0 []) 0x1401, cmdReq (mkc 3 p0 []) 0x1401, admits_fresh (by decide +kernel) (by decide +kernel) (by decide +kernel),
     by decide +kernel⟩,
   
     ⟨W 1, mkc 3 #v[1, 0, 0, 0, 0, 0] [], adm (W 1) (mkc 3 #v[1, 0, 0, 0, 0, 0] []) 0x1801, cmdReq (mkc 3 #v[1, 0, 0, 0, 0, 0] []) 0x1801, admits_fresh (by decide +kernel) (by decide +kernel) (by decide +kernel),
     by decide +kernel⟩,
   
     ⟨mlatch (W 1) 3 fun l => { l with fifo := [{ stamp := 5, pos := 7, pinv := false, rising := true }] }, mkc 3 #v[1, 0, 0, 0, 0, 0] [], adm (mlatch (W 1) 3 fun l => { l with fifo := [{ stamp := 5, pos := 7, pinv := false, rising := true }] }) (mkc 3 #v[1, 0, 0, 0, 0, 0] []) 0x1801, cmdReq (mkc 3 #v[1, 0, 0, 0, 0, 0] []) 0x1801, admits_fresh (by decide +kernel) (by decide +kernel) (by decide +kernel),
     by decide +kernel, by decide +kernel⟩,
   
     ⟨W 1, mkc 0xFF #v[10, 1, 0, 0, 0, 0] [1, 0, 0, 0, 0, 0, 0, 0, 2, 3, 4, 5, 0, 0, 0, 0], adm (W 1) (mkc 0xFF #v[10, 1, 0, 0, 0, 0] [1, 0, 0, 0, 0, 0, 0, 0, 2, 3, 4, 5, 0, 0, 0, 0]) 0x1802, cmdReq (mkc 0xFF #v[10, 1, 0, 0, 0, 0] [1, 0, 0, 0, 0, 0, 0, 0, 2, 3, 4, 5, 0, 0, 0, 0]) 0x1802, admits_fresh (by decide +kernel) (by decide +kernel) (by decide +kernel),
     by decide +kernel, by decide +kernel⟩,
   
     ⟨W 1, mkc 3 #v[0, 0x00050004, 9, 0, 0, 0] [], adm (W 1) (mkc 3 #v[0, 0x00050004, 9, 0, 0, 0] []) 0x1803, cmdReq (mkc 3 #v[0, 0x00050004, 9, 0, 0, 0] []) 0x1803, admits_fresh (by decide +kernel) (by decide +kernel) (by decide +kernel),
     by decide +kernel⟩,
   
     ⟨W 1, mkc 3 #v[1, 0x00050004, 9, 0, 0, 0] [], adm (W 1) (mkc 3 #v[1, 0x00050004, 9, 0, 0, 0] []) 0x1803, cmdReq (mkc 3 #v[1, 0x00050004, 9, 0, 0, 0] []) 0x1803, admits_fresh (by decide +kernel) (by decide +kernel) (by decide +kernel),
     by decide +kernel⟩,
   
     ⟨((W 2).wrN SYS_HAMODE 8).wr64N (RC_LIMIT 3) 100, mkc 3 #v[7, 0, 0, 0, 0, 0] [], adm (((W 2).wrN SYS_HAMODE 8).wr64N (RC_LIMIT 3) 100) (mkc 3 #v[7, 0, 0, 0, 0, 0] []) 0x1806, cmdReq (mkc 3 #v[7, 0, 0, 0, 0, 0] []) 0x1806, admits_fresh (by decide +kernel) (by decide +kernel) (by decide +kernel),
     by decide +kernel, by decide +kernel, by decide +kernel, by decide +kernel, by decide +kernel, by decide +kernel⟩,
   
     ⟨W 2, mkc 3 #v[7, 0, 0, 0, 0, 0] [], adm (W 2) (mkc 3 #v[7, 0, 0, 0, 0, 0] []) 0x1806, cmdReq (mkc 3 #v[7, 0, 0, 0, 0, 0] []) 0x1806, admits_fresh (by decide +kernel) (by decide +kernel) (by decide +kernel),
     by decide +kernel⟩,
   
     ⟨W 1, mkc 0xFF #v[7, 5, 0x82, 0, 1, 9] [], adm (W 1) (mkc 0xFF #v[7, 5, 0x82, 0, 1, 9] []) 0x1C01, cmdReq (mkc 0xFF #v[7, 5, 0x82, 0, 1, 9] []) 0x1C01, admits_fresh (by decide +kernel) (by decide +kernel) (by decide +kernel)⟩,
   
     ⟨(W 2).wrN SYS_HAMODE 2, mkc 0xFF #v[7, 0, 0, 0, 0, 0] [], adm ((W 2).wrN SYS_HAMODE 2) (mkc 0xFF #v[7, 0, 0, 0, 0, 0] []) 0x1C02, cmdReq (mkc 0xFF #v[7, 0, 0, 0, 0, 0] []) 0x1C02, admits_fresh (by decide +kernel) (by decide +kernel) (by decide +kernel),
     by decide +kernel, by decide +kernel⟩,
   
     ⟨W 2, mkc 0xFF #v[7, 0, 0, 0, 0, 0] [], adm (W 2) (mkc 0xFF #v[7, 0, 0, 0, 0, 0] []) 0x1C02, cmdReq (mkc 0xFF #v[7, 0, 0, 0, 0, 0] []) 0x1C02, admits_fresh (by decide +kernel) (by decide +kernel) (by decide +kernel),
     by decide +kernel⟩,
   
     ⟨W 1, mkc 0xFF p0 [], adm (W 1) (mkc 0xFF p0 []) 0x1C03, cmdReq (mkc 0xFF p0 []) 0x1C03, adm (W 1) (mkc 0xFF p0 []) 0x1C03, admits_fresh (by decide +kernel) (by decide +kernel) (by decide +kernel), rfl⟩,
   
     ⟨W 1, mkc 0xFF #v[0, 3, 1, 0, 0, 0] [0, 0, 0, 0, 0, 0, 0, 0, 0, 0, 0, 0, 0, 0, 0, 0xFF], adm (W 1) (mkc 0xFF #v[0, 3, 1, 0, 0, 0] [0, 0, 0, 0, 0, 0, 0, 0, 0, 0, 0, 0, 0, 0, 0, 0xFF]) 0x1C03, cmdReq (mkc 0xFF #v[0, 3, 1, 0, 0, 0] [0, 0, 0, 0, 0, 0, 0, 0, 0, 0, 0, 0, 0, 0, 0, 0xFF]) 0x1C03, 0, admits_fresh (by decide +kernel) (by decide +kernel) (by decide +kernel),
     by decide +kernel⟩,
   
     ⟨W 2, mkc 0xFF #v[7, 9, 0, 0, 0, 0] [], adm (W 2) (mkc 0xFF #v[7, 9, 0, 0, 0, 0] []) 0x1C04, cmdReq (mkc 0xFF #v[7, 9, 0, 0, 0, 0] []) 0x1C04, admits_fresh (by decide +kernel) (by decide +kernel) (by decide +kernel),
     by decide +kernel, by decide +kernel, by decide +kernel, by decide +kernel, by decide +kernel, by decide +kernel, by decide +kernel⟩,
   
     ⟨(W 2).setf RM_NEXT RM_NEXT_PEND, mkc 0xFF #v[7, 9, 0, 0, 0, 0] [], adm ((W 2).setf RM_NEXT RM_NEXT_PEND) (mkc 0xFF #v[7, 9, 0, 0, 0, 0] []) 0x1C04, cmdReq (mkc 0xFF #v[7, 9, 0, 0, 0, 0] []) 0x1C04, admits_fresh (by decide +kernel) (by decide +kernel) (by decide +kernel),
     by decide +kernel⟩,
   
     ⟨(W 2).wr64N (CAN_BDIR 1) 32, mkc 1 #v[5, 0, 0, 0, 0, 0] (zeros 96), adm ((W 2).wr64N (CAN_BDIR 1) 32) (mkc 1 #v[5, 0, 0, 0, 0, 0] (zeros 96)) 0x2001, cmdReq (mkc 1 #v[5, 0, 0, 0, 0, 0] (zeros 96)) 0x2001, admits_fresh (by decide +kernel) (by decide +kernel) (by decide +kernel),
     by decide +kernel, by decide +kernel, by decide +kernel⟩,
   
     ⟨ctx, mkc 1 #v[5, 0, 0, 0, 0, 0] (zeros 96), adm (ctx) (mkc 1 #v[5, 0, 0, 0, 0, 0] (zeros 96)) 0x2001, cmdReq (mkc 1 #v[5, 0, 0, 0, 0, 0] (zeros 96)) 0x2001, admits_fresh (by decide +kernel) (by decide +kernel) (by decide +kernel),
     by decide +kernel, by decide +kernel⟩,
   
     ⟨W 2, mkc 1 #v[0, 5, 0, 0, 0, 0] [], adm (W 2) (mkc 1 #v[0, 5, 0, 0, 0, 0] []) 0x2002, cmdReq (mkc 1 #v[0, 5, 0, 0, 0, 0] []) 0x2002, admits_fresh (by decide +kernel) (by decide +kernel) (by decide +kernel),
     by decide +kernel⟩,
   
     ⟨W 2, mkc 1 #v[1, 5, 0, 0, 0, 0] [], adm (W 2) (mkc 1 #v[1, 5, 0, 0, 0, 0] []) 0x2002, cmdReq (mkc 1 #v[1, 5, 0, 0, 0, 0] []) 0x2002, admits_fresh (by decide +kernel) (by decide +kernel) (by decide +kernel),
     by decide +kernel, by decide +kernel⟩,
   
     ⟨ctx.setf (CAN_STAT 1) CAN_STAT_BUSOFF, mkc 1 p0 [], adm (ctx.setf (CAN_STAT 1) CAN_STAT_BUSOFF) (mkc 1 p0 []) 0x2003, cmdReq (mkc 1 p0 []) 0x2003, admits_fresh (by decide +kernel) (by decide +kernel) (by decide +kernel),
     by decide +kernel, by decide +kernel⟩,
   
     ⟨ctx, mkc 1 p0 [], adm (ctx) (mkc 1 p0 []) 0x2003, cmdReq (mkc 1 p0 []) 0x2003, admits_fresh (by decide +kernel) (by decide +kernel) (by decide +kernel),
     by decide +kernel⟩,
   
     ⟨(W 2).wrN DIOG_OUT 6, mkc 0xFF #v[9, 2, 0, 0, 0, 0] [], adm ((W 2).wrN DIOG_OUT 6) (mkc 0xFF #v[9, 2, 0, 0, 0, 0] []) 0x2401, cmdReq (mkc 0xFF #v[9, 2, 0, 0, 0, 0] []) 0x2401, admits_fresh (by decide +kernel) (by decide +kernel) (by decide +kernel),
     by decide +kernel⟩,
   
     ⟨W 2, mkc 0xFF p0 [], adm (W 2) (mkc 0xFF p0 []) 0x2402, cmdReq (mkc 0xFF p0 []) 0x2402, admits_fresh (by decide +kernel) (by decide +kernel) (by decide +kernel)⟩,
   
     ⟨fio.setf (FG_STAT 1) FG_STAT_HOLD, mkc 1 p0 [], adm (fio.setf (FG_STAT 1) FG_STAT_HOLD) (mkc 1 p0 []) 0x2403, cmdReq (mkc 1 p0 []) 0x2403, admits_fresh (by decide +kernel) (by decide +kernel) (by decide +kernel),
     by decide +kernel⟩,
   
     ⟨W 2, mkc 2 p0 [], adm (W 2) (mkc 2 p0 []) 0x2403, cmdReq (mkc 2 p0 []) 0x2403, admits_fresh (by decide +kernel) (by decide +kernel) (by decide +kernel),
     by decide +kernel⟩,
   
     ⟨W 2, mkc 0xFF p0 [], adm (W 2) (mkc 0xFF p0 []) 0x2800, cmdReq (mkc 0xFF p0 []) 0x2800, admits_fresh (by decide +kernel) (by decide +kernel) (by decide +kernel)⟩,
   
     ⟨((W 2).wrN (CU_CFG 3) (2 ^ CU_CFG_FAST.lo + 2 ^ CU_CFG_NCH.lo)).wrN (CU_MEM 3) (2 ^ CU_MEM_SIZE.lo), mkc 3 #v[1, 0, 0, 0, 0, 0] [], adm (((W 2).wrN (CU_CFG 3) (2 ^ CU_CFG_FAST.lo + 2 ^ CU_CFG_NCH.lo)).wrN (CU_MEM 3) (2 ^ CU_MEM_SIZE.lo)) (mkc 3 #v[1, 0, 0, 0, 0, 0] []) 0x2C01, cmdReq (mkc 3 #v[1, 0, 0, 0, 0, 0] []) 0x2C01, admits_fresh (by decide +kernel) (by decide +kernel) (by decide +kernel),
     by decide +kernel⟩,
   
     ⟨((W 2).wrN (CU_CFG 3) (2 ^ CU_CFG_FAST.lo + 2 ^ CU_CFG_NCH.lo)).wrN (CU_MEM 3) (4096 * 2 ^ CU_MEM_BASE.lo + 2 ^ CU_MEM_SIZE.lo), mkc 3 p0 [], adm (((W 2).wrN (CU_CFG 3) (2 ^ CU_CFG_FAST.lo + 2 ^ CU_CFG_NCH.lo)).wrN (CU_MEM 3) (4096 * 2 ^ CU_MEM_BASE.lo + 2 ^ CU_MEM_SIZE.lo)) (mkc 3 p0 []) 0x2C01, cmdReq (mkc 3 p0 []) 0x2C01, admits_fresh (by decide +kernel) (by decide +kernel) (by decide +kernel),
     by decide +kernel⟩,
   
     ⟨W 2, mkc 2 p0 [], adm (W 2) (mkc 2 p0 []) 0x2C02, cmdReq (mkc 2 p0 []) 0x2C02, admits_fresh (by decide +kernel) (by decide +kernel) (by decide +kernel),
     by decide +kernel⟩,
   
     ⟨W 2, mkc 2 #v[0, 5, 0, 0, 0, 0] [], adm (W 2) (mkc 2 #v[0, 5, 0, 0, 0, 0] []) 0x2C02, cmdReq (mkc 2 #v[0, 5, 0, 0, 0, 0] []) 0x2C02, admits_fresh (by decide +kernel) (by decide +kernel) (by decide +kernel),
     by decide +kernel⟩,
   
     ⟨W 2, mkc 0xFF p0 [], adm (W 2) (mkc 0xFF p0 []) 0x3000, cmdReq (mkc 0xFF p0 []) 0x3000, admits_fresh (by decide +kernel) (by decide +kernel) (by decide +kernel),
     by decide +kernel⟩,
   
     ⟨W 2, mkc 0xFF #v[0, 0, 1, 0, 0, 0] [], adm (W 2) (mkc 0xFF #v[0, 0, 1, 0, 0, 0] []) 0x3000, cmdReq (mkc 0xFF #v[0, 0, 1, 0, 0, 0] []) 0x3000, admits_fresh (by decide +kernel) (by decide +kernel) (by decide +kernel),
     by decide +kernel, by decide +kernel⟩,
   
     ⟨({ W 2 with log := { (W 2).log with appAt := 7, buffer := [(3, [1])] } } : State), mkc 0xFF #v[1, 0, 0, 0, 0, 0] [], adm (({ W 2 with log := { (W 2).log with appAt := 7, buffer := [(3, [1])] } } : State)) (mkc 0xFF #v[1, 0, 0, 0, 0, 0] []) 0x3001, cmdReq (mkc 0xFF #v[1, 0, 0, 0, 0, 0] []) 0x3001, admits_fresh (by decide +kernel) (by decide +kernel) (by decide +kernel),
     by decide +kernel, by decide +kernel, by decide +kernel, by decide +kernel⟩,
   
     ⟨({ W 2 with log := { (W 2).log with frozen := some 0, staging := [(4, [7])], buffer := [(3, [1])] } } : State), mkc 0xFF p0 [], adm (({ W 2 with log := { (W 2).log with frozen := some 0, staging := [(4, [7])], buffer := [(3, [1])] } } : State)) (mkc 0xFF p0 []) 0x3001, cmdReq (mkc 0xFF p0 []) 0x3001, admits_fresh (by decide +kernel) (by decide +kernel) (by decide +kernel),
     by decide +kernel, by decide +kernel, by decide +kernel, by decide +kernel⟩,
   
     ⟨({ W 1 with log := { (W 1).log with frozen := some 0 } } : State), mkc 0xFF p0 (zeros 96), adm (({ W 1 with log := { (W 1).log with frozen := some 0 } } : State)) (mkc 0xFF p0 (zeros 96)) 0x3002, cmdReq (mkc 0xFF p0 (zeros 96)) 0x3002, admits_fresh (by decide +kernel) (by decide +kernel) (by decide +kernel),
     by decide +kernel⟩,
   
     ⟨W 1, mkc 0xFF p0 (1 :: zeros 95), adm (W 1) (mkc 0xFF p0 (1 :: zeros 95)) 0x3002, cmdReq (mkc 0xFF p0 (1 :: zeros 95)) 0x3002, admits_fresh (by decide +kernel) (by decide +kernel) (by decide +kernel),
     by decide +kernel⟩,
   
     ⟨W 1, mkc 0xFF #v[1, 0, 0, 0, 0, 0] [], adm (W 1) (mkc 0xFF #v[1, 0, 0, 0, 0, 0] []) 0x3801, cmdReq (mkc 0xFF #v[1, 0, 0, 0, 0, 0] []) 0x3801, admits_fresh (by decide +kernel) (by decide +kernel) (by decide +kernel),
     by decide +kernel⟩,
   
     ⟨W 1, mkc 0xFF p0 [], adm (W 1) (mkc 0xFF p0 []) 0x3801, cmdReq (mkc 0xFF p0 []) 0x3801, admits_fresh (by decide +kernel) (by decide +kernel) (by decide +kernel),
     by decide +kernel⟩,
   
     ⟨W 1, mkc 0xFF p0 [], adm (W 1) (mkc 0xFF p0 []) 0x3802, cmdReq (mkc 0xFF p0 []) 0x3802, admits_fresh (by decide +kernel) (by decide +kernel) (by decide +kernel),
     by decide +kernel⟩,
   
     ⟨(W 1).put TW_STAT TW_STAT_ROLE 1, mkc 0xFF p0 [], adm ((W 1).put TW_STAT TW_STAT_ROLE 1) (mkc 0xFF p0 []) 0x3802, cmdReq (mkc 0xFF p0 []) 0x3802, admits_fresh (by decide +kernel) (by decide +kernel) (by decide +kernel),
     by decide +kernel⟩,
   
     ⟨(W 2).setf TW_STAT TW_STAT_PEER_READY, mkc 0xFF #v[9, 0, 0, 0, 0, 0] [], adm ((W 2).setf TW_STAT TW_STAT_PEER_READY) (mkc 0xFF #v[9, 0, 0, 0, 0, 0] []) 0x3803, cmdReq (mkc 0xFF #v[9, 0, 0, 0, 0, 0] []) 0x3803, admits_fresh (by decide +kernel) (by decide +kernel) (by decide +kernel),
     by decide +kernel, by decide +kernel, by decide +kernel, by decide +kernel⟩,
   
     ⟨(W 2).setf TW_HO TW_HO_PEND, mkc 0xFF #v[9, 0, 0, 0, 0, 0] [], adm ((W 2).setf TW_HO TW_HO_PEND) (mkc 0xFF #v[9, 0, 0, 0, 0, 0] []) 0x3803, cmdReq (mkc 0xFF #v[9, 0, 0, 0, 0, 0] []) 0x3803, admits_fresh (by decide +kernel) (by decide +kernel) (by decide +kernel),
     by decide +kernel⟩⟩

/-- States and operands that meet the hypotheses of each clause of IdleStepIsOneTick. -/
theorem witness_IdleStepIsOneTick :
  (∃ (s : State), s.pending = [] ∧ s.pw.phase = .running) ∧
  (∃ (s : State), s.pending = [] ∧ s.pw.phase ≠ .running) :=
  ⟨⟨W 2, by decide +kernel⟩,
   ⟨State.reset, by decide +kernel⟩⟩

/-- States and operands that meet the hypotheses of each clause of ReservedBitWriteFaults. -/
theorem witness_ReservedBitWriteFaults :
  (∃ (s : State) (r : Fin 10) (a : BitVec 24) (v : Word) (h : Hit), s.pw.phase = .running ∧ a.toNat % 4 = 0 ∧ regHit a.toNat = some h ∧
    h.high = false ∧ s.classOk r h = true ∧ h.reserved v.toNat = true) :=
  ⟨W 2, 0, BitVec.ofNat 24 TB_FRAME, 0xFFFFFFFF, hit TB_FRAME, by decide +kernel⟩

/-- States and operands that meet the hypotheses of each clause of UnmappedOffsets. -/
theorem witness_UnmappedOffsets :
  (∃ (s : State) (a : BitVec 24) (odd : Bool), s.canonical = true ∧ s.pw.phase = .running ∧ (odd = true ∨ isUnmapped a.toNat = true)) :=
  ⟨W 2, 0x31, true, by decide +kernel⟩

/-- States and operands that meet the hypotheses of each clause of LoopCoefficient. -/
theorem witness_LoopCoefficient :
  (∃ (sh : Nat), sh ≤ 62) :=
  ⟨0, by decide +kernel⟩

/-- States and operands that meet the hypotheses of each clause of CmulrFormsTheCoefficient. -/
theorem witness_CmulrFormsTheCoefficient :
  (∃ (s : State) (k : Fin 16), s.lpReady k) :=
  ⟨mol id, 2, by unfold State.lpReady; decide +kernel⟩

/-- States and operands that meet the hypotheses of each clause of ModuleTimeFollowsTrim. -/
theorem witness_ModuleTimeFollowsTrim :
  (∃ (s : State), s.pending = [] ∧ s.pw.phase = .running ∧ s.time.stepPend = none ∧ absI s.time.trim ≤ 10737418) ∧
  (∃ (s : State) (v : Word), s.canonical = true ∧ s.hostMay NT_TRIM ∧ wordOk NT_TRIM v.toNat = true ∧ s.isWatch = false) :=
  ⟨⟨mtm (W 2) fun t => { t with trim := -55, mt := 99999 }, by decide +kernel⟩,
   ⟨W 2, 0x7FFFFFFF, by decide +kernel, ⟨by decide +kernel, by decide +kernel⟩, by decide +kernel, by decide +kernel⟩⟩

/-- States and operands that meet the hypotheses of each clause of StepsAndSettingsOfModuleTime. -/
theorem witness_StepsAndSettingsOfModuleTime :
  (∃ (s : State), s.hostMay NT_CTRL ∧ s.isWatch = false ∧ s.time.stepPend = none) ∧
  (∃ (s : State), s.hostMay NT_CTRL ∧ s.isWatch = false ∧ s.inMorning = true) ∧
  (∃ (s : State), s.hostMay NT_CTRL ∧ s.isWatch = false ∧ s.inMorning = false) :=
  ⟨⟨(mtm (W 2) fun t => { t with trim := -55, mt := 99999 }).wr64N NT_STEP 77, ⟨by decide +kernel, by decide +kernel⟩, by decide +kernel,
     by decide +kernel⟩,
   ⟨((mtm (W 1) fun t => { t with trim := -55, mt := 99999 }).wr64N NT_SETSEC 77).wrN NT_SETNS 5, ⟨by decide +kernel, by decide +kernel⟩,
     by decide +kernel, by decide +kernel⟩,
   ⟨W 2, ⟨by decide +kernel, by decide +kernel⟩, by decide +kernel, by decide +kernel⟩⟩

/-- States and operands that meet the hypotheses of each clause of FailedBusAccessStopsRing. -/
theorem witness_FailedBusAccessStopsRing :
  (∃ (s : State) (n : Fin 128), s.canonical = true ∧ s.ringNext = some n.val ∧ s.flag (RING_CFG n) RING_CFG_LOC = false) ∧
  (∃ (s : State) (c : Completion) (rest : List Completion), s.canonical = true ∧ s.completions = c :: rest ∧ c.dup = false ∧ c.peer = none ∧
    c.ring < 128 ∧ (∃ i ∈ s.inflight, i.tag = c.tag) ∧ ((∀ i ∈ s.inflight, i.tag = c.tag → i.drop = false))) :=
  ⟨⟨(((W 2).wrN (RING_CFG 3) (0x80000000 + 16)).setf (RING_STAT 3) RING_STAT_ACTIVE).wrN (RING_TAIL 3) 2, 3, by decide +kernel⟩,
   
     ⟨{ ((((W 2).wrN (RING_CFG 3) (0x80000000 + 16)).setf (RING_STAT 3) RING_STAT_ACTIVE).wrN (RING_TAIL 3) 2) with completions := [⟨5, .ok, 1, 3, 0, false, 0,0,0,0,0,[], false, none⟩], inflight := [{ tag := 5, opcode := 1, ring := 3 }] }, ⟨5, .ok, 1, 3, 0, false, 0,0,0,0,0,[], false, none⟩, [],
     by decide +kernel⟩⟩

/-- States and operands that meet the hypotheses of each clause of BitReversedLengths. -/
theorem witness_BitReversedLengths :
  (∃ (s : State) (k : Fin 16) (kind : Fin 8) (d : Fin 16) (j : Fin 15), s.lpReady k ∧ kind.val = 3 ∧
    ((s.lpSet k).D d).toNat % 2 ^ 18 = 2 ^ (j.val + 3)) ∧
  (∃ (s : State) (k : Fin 16) (kind : Fin 8) (d : Fin 16), s.lpReady k ∧ kind.val = 3 ∧
    (∀ j < 15, ((s.lpSet k).D d).toNat % 2 ^ 18 ≠ 2 ^ (j + 3))) :=
  ⟨⟨mol fun q => { q with d := q.d.set 4 8 }, 2, 3, 4, 0, by unfold State.lpReady; decide +kernel, by decide +kernel, by decide +kernel⟩,
   ⟨mol fun q => { q with d := q.d.set 4 7 }, 2, 3, 4, by unfold State.lpReady; decide +kernel, by decide +kernel, by decide +kernel⟩⟩

/-- States and operands that meet the hypotheses of each clause of BoundaryCorrectionIsBounded. -/
theorem witness_BoundaryCorrectionIsBounded :
  (∃ (nominal : Nat) (p : Nat), p / 250 ≤ nominal) :=
  ⟨0, 0, by decide +kernel⟩

/-- States and operands that meet the hypotheses of each clause of GroomWindowSetting. -/
theorem witness_GroomWindowSetting :
  (∃ (s : State) (r : Fin 10) (v : Word), s.pw.phase = .running ∧ s.mayWrite r SYS_GROOM = true ∧ wordOk SYS_GROOM v.toNat = true ∧
    s.inMorning = true ∧ v.toNat ≤ 800) ∧
  (∃ (s : State) (r : Fin 10) (v : Word), s.pw.phase = .running ∧ s.mayWrite r SYS_GROOM = true ∧ wordOk SYS_GROOM v.toNat = true ∧
    (s.inMorning = false ∨ 800 < v.toNat)) :=
  ⟨⟨W 1, 0, 800, by decide +kernel⟩,
   ⟨W 1, 0, 801, by decide +kernel⟩⟩

/-- States and operands that meet the hypotheses of each clause of AdmittedRequestIsTheCommand. -/
theorem witness_AdmittedRequestIsTheCommand :
  (∃ (s : State) (c : Cmd) (s1 : State) (op : Nat) (r : Req), s.admits c op = some (s1, r) ∧ (∀ i ∈ s.inflight, i.tag ≠ c.tag.toNat)) :=
  
     ⟨W 1, { tag := 1, unit := 0xFF }, adm (W 1) { tag := 1, unit := 0xFF } 0, 0, cmdReq { tag := 1, unit := 0xFF } 0, admits_fresh (by decide +kernel) (by decide +kernel) (by decide +kernel),
     by decide +kernel⟩

/-- A state in canonical form that steps to a next one, with a command in front and without. -/
theorem witness_Steps :
  (∃ (s t : State) (c : Instr) (rest : List Instr) (p : Part), s.canonical = true ∧ s.pending = c :: rest ∧ step s = .next t ∧ p ∉ touches c) ∧
  (∃ (s t : State), s.canonical = true ∧ s.pending = [] ∧ step s = .next t) :=
  ⟨⟨{ W 1 with pending := [.hqStatus] }, (W 1).hqStatus, .hqStatus, [], .cans, by decide +kernel, by decide +kernel, rfl, by decide +kernel⟩,
   ⟨W 1, (W 1).advanceTo ((W 1).tick + 1), by decide +kernel, by decide +kernel, rfl⟩⟩

end
end

section
/-! PROOFS. The scope (00_scope.md): a command consumes itself only, a reserved bit alone stops the module, and a loop coefficient
is rounded convergently and saturated. -/

namespace Sys2Proof.Machine

/-! ### What a command keeps (R1) -/

/-- Settles O7: `exec_keeps` on the state that holds the queue's rest. -/
theorem commandsKeepQueueAndFreeValues : Obligations.CommandsKeepQueueAndFreeValues := by
  intro s t c rest hq hstep
  rw [step, hq] at hstep
  have hk : Keeps (maskOf c) { s with pending := rest } t := exec_keeps c _ t hstep
  exact ⟨hk.pending, hk.variant, hk.free⟩

/-! ### How a command ends (R5) -/

/-- A command ends in a next state, or stops at a reserved bit. -/
def EndsOrReserved (o : Host.Outcome State Fault Refusal) : Prop := (∃ t, o = .next t) ∨ o = .fault .reservedBit

theorem endsOrReserved_next (t : State) : EndsOrReserved (.next t) := .inl ⟨t, rfl⟩
theorem endsOrReserved_reservedBit : EndsOrReserved (.fault .reservedBit) := .inr rfl

theorem hostWord_endsOrReserved (s : State) (a v : Nat) (f : State → State) : EndsOrReserved (hostWord s a v f) := by
  unfold hostWord
  by_cases hrun : s.pw.phase ≠ .running
  · rw [if_pos hrun]
    exact endsOrReserved_next s
  rw [if_neg hrun]
  by_cases hmay : (!s.mayWrite 0 a) = true
  · rw [if_pos hmay]
    exact endsOrReserved_next _
  rw [if_neg hmay]
  cases regHit a with
  | none => exact endsOrReserved_next _
  | some h =>
    by_cases hres : h.reserved v = true
    · simpa only [if_pos hres] using endsOrReserved_reservedBit
    · simpa only [if_neg hres] using endsOrReserved_next _

theorem writeRow_endsOrReserved (s : State) (r a : Nat) (v : Word) (mine : Bool) : EndsOrReserved (writeRow s r a v mine) := by
  unfold writeRow
  cases mine with
  | false => exact endsOrReserved_next s
  | true =>
    cases hw : s.bar0Write r a v with
    | none => exact endsOrReserved_reservedBit
    | some t => exact endsOrReserved_next t

theorem hqWriteRow_endsOrReserved (s : State) (a : Nat) (ws : List Word) : EndsOrReserved (hqWriteRow s a ws) := by
  unfold hqWriteRow
  cases s.hqWriteN a ws with
  | none => exact endsOrReserved_reservedBit
  | some t => exact endsOrReserved_next t

/-- The rows that write a register with a whole word go through `writeRow`, `hqWriteRow` or `hostWord`; every other row is total. -/
theorem exec_endsOrReserved (c : Instr) (s : State) : EndsOrReserved (exec c s) := by
  cases c with
  | bar0WriteLowWord r a v => exact (writeRow_endsOrReserved .. : EndsOrReserved (execBar0WriteLowWord r a v s))
  | bar0WriteHighWord r a v => exact (writeRow_endsOrReserved .. : EndsOrReserved (execBar0WriteHighWord r a v s))
  | registerWrite r a v => exact (writeRow_endsOrReserved .. : EndsOrReserved (execRegisterWrite r a v s))
  | hqWrite a ws => exact (hqWriteRow_endsOrReserved .. : EndsOrReserved (execHqWrite a ws s))
  | ringEnable n v => exact (hostWord_endsOrReserved .. : EndsOrReserved (execRingEnable n v s))
  | ringDisable n v => exact (hostWord_endsOrReserved .. : EndsOrReserved (execRingDisable n v s))
  | ringDoorbell n v => exact (hostWord_endsOrReserved .. : EndsOrReserved (execRingDoorbell n v s))
  | dioOutWrite v => exact (hostWord_endsOrReserved .. : EndsOrReserved (execDioOutWrite v s))
  | dioOset v => exact (hostWord_endsOrReserved .. : EndsOrReserved (execDioOset v s))
  | dioOclr v => exact (hostWord_endsOrReserved .. : EndsOrReserved (execDioOclr v s))
  | ntTrimWrite v => exact (hostWord_endsOrReserved .. : EndsOrReserved (execNtTrimWrite v s))
  | ramauxEnable v => exact (hostWord_endsOrReserved .. : EndsOrReserved (execRamauxEnable v s))
  | secPolicyWrite v => exact (hostWord_endsOrReserved .. : EndsOrReserved (execSecPolicyWrite v s))
  | sysResetWrite v => exact (hostWord_endsOrReserved .. : EndsOrReserved (execSysResetWrite v s))
  | sysClkWrite v => exact (hostWord_endsOrReserved .. : EndsOrReserved (execSysClkWrite v s))
  | frameLengthWrite v => exact (hostWord_endsOrReserved .. : EndsOrReserved (execFrameLengthWrite v s))
  | _ => exact endsOrReserved_next _

/-- Settles O8: a command ends in a next state or in the fault `reservedBit`. -/
theorem onlyReservedBitsStop : Obligations.OnlyReservedBitsStop := by
  intro c s
  rcases exec_endsOrReserved c s with ⟨t, ht⟩ | hf
  · simp [ht]
  · simp [hf]

/-- The word of a single register, or the low word of a 64-bit one, is not written where it sets a reserved bit. -/
theorem bar0Write_reserved {s : State} {r a : Nat} {v : Word} {h : Hit} (hrun : s.pw.phase = .running) (halign : a % 4 = 0)
    (hhit : regHit a = some h) (hlow : h.high = false) (hclass : s.classOk r h = true) (hres : h.reserved v.toNat = true) :
    s.bar0Write r a v = none := by
  simp [State.bar0Write, hrun, halign, hhit, hlow, hclass, hres]

/-- Settles O9: the write is none, and REGISTER_WRITE answers none by the fault. -/
theorem reservedBitWriteFaults : Obligations.ReservedBitWriteFaults := by
  intro s r a v h hrun halign hhit hlow hclass hres
  change writeRow s r a.toNat v true = _
  simp [writeRow, bar0Write_reserved hrun halign hhit hlow hclass hres]

/-! ### Loop coefficients (R10) -/

/-- A convergent quotient is within half a unit of the exact one, and even where it is half a unit away. -/
theorem divConv_spec (num : Int) {den : Int} (hden : 0 < den) :
    2 * absI (num - divConv num den * den) ≤ den ∧
    (2 * absI (num - divConv num den * den) = den → divConv num den % 2 = 0) := by
  have hr0 : 0 ≤ num % den := Int.emod_nonneg _ hden.ne'
  have hr1 : num % den < den := Int.emod_lt_of_pos _ hden
  have hdown : num - num / den * den = num % den := by rw [mul_comm]; exact (Int.emod_def ..).symm
  have hup : num - (num / den + 1) * den = num % den - den := by rw [add_mul, one_mul, ← sub_sub, hdown]
  unfold divConv absI
  rw [if_neg (not_le.2 hden)]
  dsimp only
  by_cases hlo : 2 * (num % den) < den
  · rw [if_pos hlo, hdown]
    omega
  by_cases hhi : 2 * (num % den) > den
  · rw [if_neg hlo, if_pos hhi, hup]
    omega
  rw [if_neg hlo, if_neg hhi]
  by_cases heven : num / den % 2 = 0
  · rw [if_pos heven, hdown]
    omega
  · rw [if_neg heven, hup]
    omega

theorem shrConv_zero (x : Int) : shrConv x 0 = x := by simp [shrConv, divConv]

theorem sat32_bounds (x : Int) : -2 ^ 31 ≤ sat32 x ∧ sat32 x < 2 ^ 31 := by
  unfold sat32 satS
  omega

/-- The product of two words fits in 64 bits. -/
theorem toInt_mul_toInt_bounds (m x : Word) : -2 ^ 63 ≤ m.toInt * x.toInt ∧ m.toInt * x.toInt < 2 ^ 63 := by
  have hword : ∀ w : Word, |w.toInt| ≤ 2 ^ 31 := fun w => abs_le.2 ⟨w.le_toInt, w.toInt_lt.le⟩
  have hprod : |m.toInt * x.toInt| ≤ 2 ^ 31 * 2 ^ 31 := by
    rw [abs_mul]
    exact mul_le_mul (hword m) (hword x) (abs_nonneg _) (by decide)
  obtain ⟨hlo, hhi⟩ := abs_le.1 hprod
  omega

/-- Settles O11: the number q is the convergent right shift of the product. -/
theorem loopCoefficient : Obligations.LoopCoefficient := by
  intro m x sh _
  obtain ⟨hhalf, heven⟩ := divConv_spec (m.toInt * x.toInt) (den := 2 ^ sh) (by positivity)
  obtain ⟨hlo, hhi⟩ := toInt_mul_toInt_bounds m x
  obtain ⟨hclo, hchi⟩ := sat32_bounds (shrConv (m.toInt * x.toInt) sh)
  exact ⟨shrConv (m.toInt * x.toInt) sh, rfl, hhalf, heven, fun h => by rw [h, shrConv_zero], hlo, hhi, hclo, hchi⟩

end Sys2Proof.Machine
end

section
/-! PROOFS. The architecture (01_architecture.md): a step keeps the canonical form and every part outside the front command's
list, and an access to an unmapped offset is recorded and does nothing else. -/

namespace Sys2Proof.Machine

/-! ### What a step keeps -/

/-- With no command waiting, no part but time changes. -/
theorem idleStep_keeps (s : State) : Keeps (partMask [.time]) s (idleStep s) := keeps_idleStep rfl (Keeps.refl s)

theorem step_nil {s : State} (h : s.pending = []) : step s = .next (idleStep s) := by rw [step, h]
theorem step_cons {s : State} {c : Instr} {rest : List Instr} (h : s.pending = c :: rest) :
    step s = exec c { s with pending := rest } := by rw [step, h]

/-- Settles O5: an idle step and every command keep the canonical form, and taking a command off the queue leaves registers
and memories alone. -/
theorem stepKeepsCanonicalForm : Obligations.StepKeepsCanonicalForm := by
  intro s t hcanon hstep
  cases hq : s.pending with
  | nil =>
    cases (step_nil hq).symm.trans hstep
    exact (idleStep_keeps s).canon hcanon
  | cons c rest => exact (exec_keeps c { s with pending := rest } t (step_cons hq ▸ hstep)).canon hcanon

/-- Settles O6: the mask of `exec_keeps` is that of the command's list. -/
theorem stepChangesOnlyTouchedParts : Obligations.StepChangesOnlyTouchedParts := by
  intro s t c rest p hq hstep hp
  exact exec_same (step_cons hq ▸ hstep) hp

/-! ### Unmapped offsets (R36 to R38) -/

theorem get_congr {s t : State} (h : t.regs = s.regs) (a : Nat) (f : Fld) : t.get a f = s.get a f := by
  rw [State.get, State.rdN, rd_congr h, State.get, State.rdN]

theorem exec_unmappedAccess (r : Fin 10) (a : BitVec 24) (wr odd : Bool) (s : State) :
    exec (.unmappedAccess r a wr odd) s = .next (s.unmappedRow a.toNat wr odd) := rfl

section
variable {s : State} {a : Nat} {odd : Bool} (wr : Bool) (hrun : s.pw.phase = .running) (hun : odd = true ∨ isUnmapped a = true)
include hrun hun

/-- Where the row acts, the access is recorded, and a read returns 0. -/
theorem unmappedRow_eq : s.unmappedRow a wr odd = if wr then s.badAcc a false else { s.badAcc a false with rdata := 0 } := by
  rw [← Bool.or_eq_true] at hun
  exact if_neg (by simp [hrun, hun])

theorem unmappedRow_rdata : (s.unmappedRow a false odd).rdata = 0 := by rw [unmappedRow_eq false hrun hun]; rfl
theorem unmappedRow_regs : (s.unmappedRow a wr odd).regs = (s.badAcc a false).regs := by
  rw [unmappedRow_eq wr hrun hun]
  cases wr <;> rfl
theorem unmappedRow_act : (s.unmappedRow a wr odd).act = s.act := by
  rw [unmappedRow_eq wr hrun hun]
  cases wr <;> rfl
theorem unmappedRow_mem : (s.unmappedRow a wr odd).mem = s.mem := by
  rw [unmappedRow_eq wr hrun hun]
  cases wr <;> rfl

end

/-- Settles O10: after a read and after a write alike the registers are those of `badAcc`. -/
theorem unmappedOffsets : Obligations.UnmappedOffsets := by
  intro s r a wr odd hcanon hrun hun
  have hregs : (s.unmappedRow a.toNat wr odd).regs = (s.badAcc a.toNat false).regs := unmappedRow_regs wr hrun hun
  obtain ⟨hcount, hoffset, -, hother⟩ := badAcc_regs (a := a.toNat) (b := false) hcanon
  refine ⟨_, exec_unmappedAccess r a wr odd s, fun hwr => ?_, (get_congr hregs ..).trans hcount, (get_congr hregs ..).trans hoffset,
    fun b hb => (rd_congr hregs b).trans (hother b hb), unmappedRow_act wr hrun hun, unmappedRow_mem wr hrun hun⟩
  subst hwr
  exact unmappedRow_rdata hrun hun

end Sys2Proof.Machine
end

section
/-! PROOFS. The control cycle and the timebase (02_cycle_and_timebase.md): the corrected period, the boundaries of the frame and of the
axes, the law runs of the LPs, and commit tokens. -/

namespace Sys2Proof.Machine

/-- The mask of every part but those of a list. -/
abbrev maskBut (l : List Part) : Nat := partMask (Part.all.filter fun p => p ∉ l)

/-! ### The corrected period (R47) -/

theorem absI_le_iff {x l : Int} : absI x ≤ l ↔ -l ≤ x ∧ x ≤ l := by
  unfold absI
  split <;> omega

/-- Settles O17: the error is clamped to the allowance, so that the boundary stays at its ideal instant where the error is within it. -/
theorem boundaryCorrectionIsBounded : Obligations.BoundaryCorrectionIsBounded := by
  intro nominal ideal p hp
  have hplace : (correct nominal ideal p).1 =
      ((nominal : Int) + max (-((p / 250 : Nat) : Int)) (min ((p / 250 : Nat) : Int) ((ideal : Int) - nominal))).toNat := rfl
  have hslip : (correct nominal ideal p).2 = true ↔ ((p / 250 : Nat) : Int) < absI ((ideal : Int) - nominal) := decide_eq_true_iff
  rw [hplace, absI_le_iff]
  exact ⟨by omega, by omega, by omega, hslip⟩

/-! ### Reset values (R46, R96, R97, R613) -/

/-- No register has been written at reset. -/
theorem reset_rdN (a : Nat) : State.reset.rdN a = (regReset a).toNat := rfl

/-- Settles O4: the values are those of the register map. -/
theorem registersAtReset : Obligations.RegistersAtReset := by
  unfold Obligations.RegistersAtReset State.opState State.get
  simp only [reset_rdN]
  exact ⟨by decide +kernel, by decide +kernel, by decide +kernel⟩

/-! ### Frame boundaries (R45, R48) -/

theorem advanceTo_tick (s : State) (t : Nat) : (s.advanceTo t).tick = max s.tick t := by
  unfold State.advanceTo State.tick
  by_cases hlt : s.time.tick < t
  · rw [if_pos hlt, max_eq_right hlt.le]
  · rw [if_neg hlt, max_eq_left (not_lt.1 hlt)]

theorem exec_frameLengthWrite (v : Word) (s : State) :
    exec (.frameLengthWrite v) s = hostWord s TB_FRAME v.toNat (fun s => s.regStore TB_FRAME v.toNat) := rfl

/-- The state in which the next frame boundary has been placed, before what follows from it happens. -/
def State.framePlaced (s : State) : State :=
  let s1 := s.advanceTo (s.nextFrame.2.1 / 32)
  { s1 with time := { s1.time with
    m := s1.get TB_FRAME TB_FRAME_M, frameStart := s.nextFrame.2.1, frameNum := s.nextFrame.1, frameNext := s.nextFrame.1 + 1
    rephase := false } }

/-- What follows a frame boundary leaves time alone. -/
theorem frameBoundary_keeps_framePlaced {s : State} (hrun : s.pw.phase = .running) (hstep : s.time.stepPend = none) :
    Keeps (maskBut [.time]) s.framePlaced s.frameBoundary := by
  unfold State.frameBoundary
  rw [if_neg (by simp [hrun])]
  extract_lets s0
  have hs0 : s0 = s := if_neg (by simp [hstep])
  clear_value s0
  subst hs0
  split
  rename_i num t err slip hN
  extract_lets again s1 s2 s3 s4 s5 s6 s6b s7 s8 s9
  have h2 : Keeps (maskBut [.time]) s0.framePlaced s2 := by
    simp only [State.framePlaced, hN]
    exact Keeps.refl _
  clear_value s2
  have h3 : Keeps (maskBut [.time]) s0.framePlaced s3 := keeps_State_slip rfl (keeps_State_wrI rfl (keeps_State_wr64N rfl h2))
  have h4 : Keeps (maskBut [.time]) s0.framePlaced s4 := ite_of (keeps_State_clrf rfl h3) h3
  have h5 : Keeps (maskBut [.time]) s0.framePlaced s5 := ite_of (keeps_State_gridsRestart rfl h4) h4
  have h6 : Keeps (maskBut [.time]) s0.framePlaced s6 := keeps_State_graceEnd rfl (keeps_State_epochChange rfl (keeps_State_rmBoundary rfl
    (h5.forEach fun _ _ h => keeps_State_portSync rfl h)))
  have h6b : Keeps (maskBut [.time]) s0.framePlaced s6b := h6.forEach fun _ _ h => keeps_State_loopApplyAt rfl h
  have h7 : Keeps (maskBut [.time]) s0.framePlaced s7 := h6b.forEach fun _ _ h => keeps_State_shaftFrame rfl h
  have h8 : Keeps (maskBut [.time]) s0.framePlaced s8 := keeps_State_capTick rfl h7
  have h9 : Keeps (maskBut [.time]) s0.framePlaced s9 := ite_of (h8.forEach fun _ _ h => keeps_State_enqueue rfl h) h8
  exact keeps_State_duskCheck rfl (keeps_State_planTick rfl h9)

theorem frameBoundary_time {s : State} (hrun : s.pw.phase = .running) (hstep : s.time.stepPend = none) :
    s.frameBoundary.time = s.framePlaced.time := (frameBoundary_keeps_framePlaced hrun hstep).same .time rfl

theorem tick_congr {s t : State} (h : t.time = s.time) : t.tick = s.tick := by rw [State.tick, h]; rfl

/-! ### Boundaries of an axis (R49) -/

theorem grid_modGrid_same {s : State} {n : Nat} (f : GridSt → GridSt) (hn : n < 80) : (s.modGrid n f).grid n = f (s.grid n) :=
  vget_vmod_same hn

/-- Axis `n` stands at the same boundary in both states, and time is the same. -/
structure SameBoundary (n : Nat) (s t : State) : Prop where
  time : t.time = s.time
  fr : (t.grid n).fr = (s.grid n).fr
  k : (t.grid n).k = (s.grid n).k
  last : (t.grid n).last = (s.grid n).last

theorem SameBoundary.refl {n : Nat} (s : State) : SameBoundary n s s := ⟨rfl, rfl, rfl, rfl⟩

section
variable {n : Nat} {a s t : State} (h : SameBoundary n a s)
include h

theorem SameBoundary.trans (k : SameBoundary n s t) : SameBoundary n a t :=
  ⟨k.time.trans h.time, k.fr.trans h.fr, k.k.trans h.k, k.last.trans h.last⟩

/-- An operation that touches neither time nor grids. -/
theorem SameBoundary.keeps (k : Keeps (maskBut [.time, .grids]) s t) : SameBoundary n a t := by
  have hgrid : t.grid n = s.grid n := by rw [State.grid, show t.grids = s.grids from k.same .grids rfl]; rfl
  exact h.trans ⟨k.same .time rfl, by rw [hgrid], by rw [hgrid], by rw [hgrid]⟩

/-- An update of an axis's grid that leaves its boundary. -/
theorem SameBoundary.modGrid {j : Nat} {f : GridSt → GridSt} (hf : ∀ g, (f g).fr = g.fr ∧ (f g).k = g.k ∧ (f g).last = g.last) :
    SameBoundary n a (s.modGrid j f) := by
  refine h.trans ?_
  by_cases hj : n = j
  · subst hj
    by_cases hn : n < 80
    · obtain ⟨hfr, hk, hlast⟩ := hf (s.grid n)
      rw [← grid_modGrid_same f hn] at hfr hk hlast
      exact ⟨rfl, hfr, hk, hlast⟩
    · have hsame : s.modGrid n f = s := by simp [State.modGrid, vmod, hn]
      rw [hsame]
      exact .refl s
  · have hgrid : (s.modGrid j f).grid n = s.grid n := vget_vmod_ne hj
    exact ⟨rfl, by rw [hgrid], by rw [hgrid], by rw [hgrid]⟩

theorem SameBoundary.velDue {j : Nat} {b : Bool} : SameBoundary n a (s.modGrid j fun g => { g with velDue := b }) :=
  h.modGrid fun _ => ⟨rfl, rfl, rfl⟩
theorem SameBoundary.posDue {j : Nat} {b : Bool} : SameBoundary n a (s.modGrid j fun g => { g with posDue := b }) :=
  h.modGrid fun _ => ⟨rfl, rfl, rfl⟩
theorem SameBoundary.curDue {j : Nat} {b : Bool} : SameBoundary n a (s.modGrid j fun g => { g with curDue := b }) :=
  h.modGrid fun _ => ⟨rfl, rfl, rfl⟩

theorem SameBoundary.joinVel : SameBoundary n a (s.joinVel n) := by
  unfold State.joinVel
  exact ite_of h (h.velDue.keeps (keeps_State_joinRun rfl (Keeps.refl _)))

theorem SameBoundary.joinPos : SameBoundary n a (s.joinPos n) := by
  unfold State.joinPos
  exact ite_of h (ite_of (h.posDue.keeps (keeps_State_joinRun rfl (Keeps.refl _))) h.posDue)

end

/-- The state in which the next boundary of axis `n` has been placed, before what follows from it happens (R49). -/
def State.axisPlaced (s : State) (n m : Nat) : State :=
  (((s.joinPos n).joinVel n).advanceTo ((s.nextBoundary n m).2.2.1 / 32)).modGrid n fun g =>
    { g with fr := (s.nextBoundary n m).1, k := (s.nextBoundary n m).2.1, last := (s.nextBoundary n m).2.2.1, curDue := true }

/-- What follows a boundary of an axis moves neither the boundary nor time. -/
theorem axisBoundary_same {s : State} {n m : Nat} (hrun : s.pw.phase = .running) (hfr : (s.nextBoundary n m).1 ≤ s.time.frameNum) :
    SameBoundary n (s.axisPlaced n m) (s.axisBoundary n m) := by
  unfold State.axisBoundary
  split
  rename_i fr k t slip hN
  rw [if_neg (by simpa [hrun, hN] using hfr)]
  extract_lets s0 vel pos s1 S second aux pwm0 pwm1 pwm2 s2 here s2b s3 s4 s5
  have h1 : SameBoundary n (s.axisPlaced n m) s1 := by
    have hplaced : s.axisPlaced n m = (s0.advanceTo (t / 32)).modGrid n fun g => { g with fr := fr, k := k, last := t, curDue := true } := by
      simp only [State.axisPlaced, hN, s0]
    rw [hplaced]
    exact (SameBoundary.refl _).keeps (keeps_State_slip rfl (Keeps.refl _))
  have h2 : Keeps (maskBut [.time, .grids]) s1 s2 := by
    have hp0 : Keeps (maskBut [.time, .grids]) s1 pwm0 := keeps_State_pwmBoundary rfl (Keeps.refl _)
    have hp1 : Keeps (maskBut [.time, .grids]) s1 pwm1 := ite_of hp0 (keeps_State_capTick rfl hp0)
    have hp2 : Keeps (maskBut [.time, .grids]) s1 pwm2 := hp1.forEach fun _ _ h => keeps_State_capTick rfl (keeps_State_pwmBoundary rfl h)
    exact ite_of (keeps_State_capTick rfl (keeps_State_placeWindow rfl hp2)) (Keeps.refl _)
  have h2b : Keeps (maskBut [.time, .grids]) s1 s2b := ite_of (keeps_State_loopApplyAt rfl h2) h2
  have h3 : SameBoundary n (s.axisPlaced n m) s3 := h1.keeps (h2b.forEach fun _ _ h => keeps_State_portTake rfl h)
  have h4 : SameBoundary n (s.axisPlaced n m) s4 := by
    refine ite_of ?_ h3
    have hcap : SameBoundary n (s.axisPlaced n m) (if n < 64 then s3.captureVel n t else s3) :=
      ite_of (h3.keeps (keeps_State_captureVel rfl (Keeps.refl _))) h3
    exact hcap.velDue.keeps (keeps_State_capTick rfl (Keeps.refl _))
  have h5 : SameBoundary n (s.axisPlaced n m) s5 := by
    refine ite_of ?_ h4
    have hcap : SameBoundary n (s.axisPlaced n m) (if n < 64 then s4.capturePos n t else s4.modLoop n fun l => { l with inp := { b := t } }) :=
      h4.keeps (ite_of (keeps_State_capturePos rfl (Keeps.refl _)) (keeps_State_modLoop rfl (Keeps.refl _)))
    exact hcap.posDue.keeps (keeps_State_capTick rfl (Keeps.refl _))
  exact h5.keeps ((Keeps.refl _).forEach fun _ _ h => keeps_State_portAfter rfl h)

/-- In `t` axis `n` stands at the boundary that is its next one in `s`, and time has run on to it. -/
def AtNextBoundary (s : State) (n m : Nat) (t : State) : Prop :=
  (t.grid n).fr = (s.nextBoundary n m).1 ∧ (t.grid n).k = (s.nextBoundary n m).2.1 ∧ (t.grid n).last = (s.nextBoundary n m).2.2.1 ∧
    t.tick = max s.tick ((s.nextBoundary n m).2.2.1 / 32)

theorem axisPlaced_atNextBoundary {s : State} {n m : Nat} (hn : n < 80) : AtNextBoundary s n m (s.axisPlaced n m) := by
  have hjoin : ((s.joinPos n).joinVel n).time = s.time := (SameBoundary.refl s (n := n)).joinPos.joinVel.time
  unfold AtNextBoundary State.axisPlaced
  rw [grid_modGrid_same _ hn]
  exact ⟨rfl, rfl, rfl, (advanceTo_tick ..).trans (by rw [tick_congr hjoin])⟩

theorem AtNextBoundary.same {s t u : State} {n m : Nat} (h : AtNextBoundary s n m t) (k : SameBoundary n t u) : AtNextBoundary s n m u := by
  unfold AtNextBoundary
  rw [k.fr, k.k, k.last, tick_congr k.time]
  exact h

theorem axisBoundary_atNextBoundary {s : State} {n m : Nat} (hn : n < 80) (hrun : s.pw.phase = .running)
    (hfr : (s.nextBoundary n m).1 ≤ s.time.frameNum) : AtNextBoundary s n m (s.axisBoundary n m) :=
  (axisPlaced_atNextBoundary hn).same (axisBoundary_same hrun hfr)

section
variable {s : State} {n : Nat} (hn : n < 80) (hrun : s.pw.phase = .running)
include hn hrun

theorem positionBoundary_atNextBoundary (hdue : (s.grid n).posDue = false) (hfr : (s.nextBoundary n (s.posCells n)).1 ≤ s.time.frameNum) :
    AtNextBoundary s n (s.posCells n) (s.positionBoundary n) := by
  unfold State.positionBoundary
  rw [if_neg (by simp [hdue])]
  exact (axisBoundary_atNextBoundary hn hrun hfr).same (SameBoundary.refl _).joinPos

theorem velocityBoundary_atNextBoundary (hdue : (s.grid n).velDue = false) (hfr : (s.nextBoundary n (s.velCells n)).1 ≤ s.time.frameNum) :
    AtNextBoundary s n (s.velCells n) (s.velocityBoundary n) := by
  unfold State.velocityBoundary
  rw [if_neg (by simp [hdue])]
  exact (axisBoundary_atNextBoundary hn hrun hfr).same (SameBoundary.refl _).joinVel

theorem currentBoundary_atNextBoundary (hdue : (s.grid n).curDue = false) (hfr : (s.nextBoundary n 1).1 ≤ s.time.frameNum) :
    AtNextBoundary s n 1 (s.currentBoundary n) := by
  unfold State.currentBoundary
  rw [if_neg (by simp [hdue])]
  exact (axisBoundary_atNextBoundary hn hrun hfr).same (SameBoundary.refl _).curDue

end

/-! ### Changes of an axis's grid (R50, R51) -/

/-- Where the written fields differ from those in effect at a frame boundary, the axis takes them up (R50, R51). -/
theorem tbEffect_gridAdopt {s : State} {n : Nat} (hstale : s.gridStale n = true) (hat : s.atFrame = true) : s.tbEffect n = s.gridAdopt n := by
  rw [State.tbEffect, hstale, hat]
  rfl

theorem gridAdopt_fields {s : State} {n : Nat} (hn : n < 80) : ((s.gridAdopt n).grid n).a = s.get (AX_TB n) AX_TB_A ∧
    ((s.gridAdopt n).grid n).b = s.get (AX_TB n) AX_TB_B ∧ ((s.gridAdopt n).grid n).c = s.get (AX_TB n) AX_TB_C ∧
    ((s.gridAdopt n).grid n).phase = if n < 32 then s.get (AX_PHASE n) AX_PHASE_PHASE else 0 := by
  unfold State.gridAdopt State.gridRestart
  dsimp only
  rw [grid_modGrid_same _ hn, grid_modGrid_same _ hn]
  exact ⟨rfl, rfl, rfl, rfl⟩

/-- Settles O25: a frame boundary is `State.framePlaced` in time, a boundary of an axis `State.axisPlaced` in grid and time, and what follows
either one keeps these. -/
theorem boundaryCommandsComplete : Obligations.BoundaryCommandsComplete := by
  refine ⟨?frame, ?frameLength, ?position, ?velocity, ?current, ?change⟩
  case frame =>
    intro s hrun hstep
    have htime := frameBoundary_time hrun hstep
    refine ⟨s.frameBoundary, rfl, by rw [htime]; rfl, by rw [htime]; rfl, by rw [htime]; rfl, ?_, by rw [htime]; rfl, ?_⟩
    · rw [htime]
      exact get_congr (State.advanceTo_regs ..) ..
    · rw [tick_congr htime]
      exact advanceTo_tick ..
  case frameLength =>
    intro s v hmay hv
    exact (exec_frameLengthWrite v s).trans (hostWord_may hmay hv)
  case position =>
    intro s n hrun hdue hfr
    exact ⟨_, rfl, positionBoundary_atNextBoundary n.isLt hrun hdue hfr⟩
  case velocity =>
    intro s n hrun hdue hfr
    exact ⟨_, rfl, velocityBoundary_atNextBoundary (Nat.lt_trans n.isLt (by decide)) hrun hdue hfr⟩
  case current =>
    intro s n hrun hdue hfr
    exact ⟨_, rfl, currentBoundary_atNextBoundary (Nat.lt_trans n.isLt (by decide)) hrun hdue hfr⟩
  case change =>
    intro s n hstale hat
    obtain ⟨ha, hb, hc, hphase⟩ := gridAdopt_fields (s := s) n.isLt
    refine ⟨s.gridAdopt n, congrArg _ (tbEffect_gridAdopt hstale hat), ha, hb, hc, fun hn => ?_, rfl⟩
    rw [hphase, if_pos hn]

/-! ### Law runs (R56, R59, R289) -/

/-- A queue in which a run waits is that of an LP of the module. -/
theorem lt_of_queue {s : State} {k : Nat} {r : RunReq} {rest : List RunReq} (h : s.queue k = r :: rest) : k < 16 := by
  by_contra hk
  rw [State.queue, vget, dif_neg hk] at h
  cases h

theorem lp_modLp_same {s : State} {k : Nat} {f : LpSt → LpSt} (hk : k < 16) : (s.modLp k f).lp k = f (s.lp k) := vget_vmod_same hk
theorem queue_modQueue_same {s : State} {k : Nat} {f : List RunReq → List RunReq} (hk : k < 16) : (s.modQueue k f).queue k = f (s.queue k) :=
  vget_vmod_same hk
theorem queue_congr {s t : State} (h : t.runQ = s.runQ) (k : Nat) : t.queue k = s.queue k := by rw [State.queue, h]; rfl
theorem lp_congr {s t : State} (h : t.lps = s.lps) (k : Nat) : t.lp k = s.lp k := by rw [State.lp, h]; rfl

/-- The head of the queue of LPk is a run of this kind and axis, and LPk is free to make it. -/
structure HeadRun (s : State) (kind : RunKind) (axis k : Nat) (r : RunReq) (rest : List RunReq) : Prop where
  lp : (if kind == .overhead then axis else s.lpOf axis) = k
  queue : s.queue k = r :: rest
  kind : r.kind = kind
  axis : r.axis = axis
  idle : (s.lp k).run = none
  normal : s.lpMode k = 1

/-- The tick in which LPk starts run `r`. -/
def State.runStart (s : State) (k : Nat) (r : RunReq) : Nat := max r.at_ (s.lp k).free

/-- A swap that waits for LPk is made ahead of run `r` (R63). -/
def State.swapsBefore (s : State) (k : Nat) (r : RunReq) : Bool :=
  match (s.lp k).swapWait with
  | some T => decide (T ≤ s.runStart k r)
  | none => false

/-- LPk has made the standard run `r` with effect `f`: the run is over at its end, and time stands where it stood. -/
def State.runOver (s : State) (k : Nat) (r : RunReq) (f : State → State) : State :=
  let e := s.runStart k r + s.runTicks r
  let s1 := { s.modQueue k fun q => q.drop 1 with time := { s.time with tick := e, mt := s.mtAt (32 * e), runAt := s.runStart k r } }
  ({ s1.withInputs r f with time := s.time } : State).modLp k fun l => { l with free := e }

/-- The two ways in which `State.runLaw` ends: a standard run that R59 judges, and the dispatch of a run to law code; by the active bank. -/
def State.runStd (s : State) (k : Nat) (r : RunReq) (f : State → State) : State :=
  ((s.runOver k r f).runEnd r (s.runStart k r + s.runTicks r)).duskCheck
def State.runCode (s : State) (k : Nat) (r : RunReq) : State :=
  ((s.modQueue k fun q => q.drop 1).advanceTo (s.runStart k r)).dispatchLaw k r
def State.runHead (s : State) (k : Nat) (r : RunReq) (f : State → State) : State :=
  if !s.isStd k (s.lpBank k) then s.runCode k r else s.runStd k r f

section
variable {s : State} {kind : RunKind} {axis k : Nat} {r : RunReq} {rest : List RunReq} {f : State → State}

/-- What `State.runLaw` does where there is a run to make. -/
theorem HeadRun.runLaw_eq (h : HeadRun s kind axis k r rest) :
    s.runLaw kind axis f = (if s.swapsBefore k r then s.lpSwapDue k else s).runHead k r f := by
  obtain ⟨hlp, hq, hkind, haxis, hidle, hnormal⟩ := h
  unfold State.runLaw
  dsimp only
  rw [hlp, hq]
  dsimp only
  rw [if_neg (by simp [hkind, haxis, hidle, hnormal])]
  rfl

theorem HeadRun.lt (h : HeadRun s kind axis k r rest) : k < 16 := lt_of_queue h.queue

/-- The queue of LPk after its head has been taken. -/
theorem HeadRun.drop (h : HeadRun s kind axis k r rest) : (s.modQueue k fun q => q.drop 1).queue k = rest := by
  rw [queue_modQueue_same h.lt, h.queue]
  rfl

/-- A run keeps the queues where its law does. -/
theorem withInputs_runQ (hf : ∀ x, Keeps (maskBut [.runQ]) x (f x)) : (s.withInputs r f).runQ = s.runQ :=
  (keeps_State_withInputs (M := maskBut [.runQ]) rfl (Keeps.refl s) fun x hx => hx.trans (hf x)).same .runQ rfl

/-- The run at the head of the queue is made: it leaves the queue and takes its ticks, and TB_TICK stays (R56). -/
def RunMade (s : State) (k : Nat) (r : RunReq) (rest : List RunReq) (t : State) : Prop :=
  t.queue k = rest ∧ (t.lp k).free = s.runStart k r + s.runTicks r ∧ t.time = s.time

theorem HeadRun.runOver_made (h : HeadRun s kind axis k r rest) (hf : ∀ x, Keeps (maskBut [.runQ]) x (f x)) :
    RunMade s k r rest (s.runOver k r f) := by
  refine ⟨?_, congrArg LpSt.free (lp_modLp_same h.lt), rfl⟩
  exact (queue_congr (withInputs_runQ hf) k).trans h.drop

/-- What an operation outside time, queues and LPs leaves of it. -/
theorem RunMade.keeps {t u : State} (h : RunMade s k r rest t) (hk : Keeps (maskBut [.time, .runQ, .lps]) t u) : RunMade s k r rest u := by
  obtain ⟨hq, hfree, htime⟩ := h
  exact ⟨(queue_congr (hk.same .runQ rfl) k).trans hq, (congrArg LpSt.free (lp_congr (hk.same .lps rfl) k)).trans hfree,
    (hk.same .time rfl).trans htime⟩

theorem HeadRun.runStd_made (h : HeadRun s kind axis k r rest) (hf : ∀ x, Keeps (maskBut [.runQ]) x (f x)) :
    RunMade s k r rest (s.runStd k r f) :=
  (h.runOver_made hf).keeps (keeps_State_duskCheck rfl (keeps_State_runEnd rfl (Keeps.refl _)))

/-- No swap waits for a run that starts before the swap is due. -/
theorem swapsBefore_eq_false (hswap : ∀ T, (s.lp k).swapWait = some T → s.runStart k r < T) : s.swapsBefore k r = false := by
  unfold State.swapsBefore
  cases hw : (s.lp k).swapWait with
  | none => rfl
  | some T => exact decide_eq_false (not_le.2 (hswap T hw))

/-- A standard run is made where no swap is due ahead of it. -/
theorem HeadRun.runLaw_made (h : HeadRun s kind axis k r rest) (hstd : s.isStd k (s.lpBank k) = true)
    (hswap : ∀ T, (s.lp k).swapWait = some T → s.runStart k r < T) (hf : ∀ x, Keeps (maskBut [.runQ]) x (f x)) :
    RunMade s k r rest (s.runLaw kind axis f) := by
  rw [h.runLaw_eq, swapsBefore_eq_false hswap, if_neg Bool.false_ne_true, State.runHead, hstd]
  exact h.runStd_made hf

/-- The entry of an axis's law depends on registers and code memory alone. -/
theorem lawEntry_congr {s t : State} (hregs : t.regs = s.regs) (hmem : t.mem = s.mem) (k a kind : Nat) :
    t.lawEntry k (t.lpBank k) (t.lawSlot k a) kind = s.lawEntry k (s.lpBank k) (s.lawSlot k a) kind := by
  have hbank : t.lpBank k = s.lpBank k := by rw [State.lpBank, State.flag, get_congr hregs]; rfl
  have hslot : t.lawSlot k a = s.lawSlot k a := by rw [State.lawSlot, State.rdN, rd_congr hregs]; rfl
  rw [hbank, hslot, State.lawEntry, State.codeU16, State.codeWord, hmem]
  rfl

/-- Dispatch loads the run and the entry of its law (R289). -/
theorem dispatchLaw_lp (hk : k < 16) (hkind : r.kind = .pos) : ((s.dispatchLaw k r).lp k).run = some r ∧
    ((s.dispatchLaw k r).lp k).pc = s.lawEntry k (s.lpBank k) (s.lawSlot k r.axis) 0 := by
  rw [State.dispatchLaw, lp_modLp_same hk, hkind]
  exact ⟨rfl, rfl⟩

/-- Time runs on to the start of a run that is dispatched, and the LP is at its law's entry. -/
theorem HeadRun.runCode_dispatched (h : HeadRun s .pos axis k r rest) : (s.runCode k r).queue k = rest ∧ ((s.runCode k r).lp k).run = some r ∧
    ((s.runCode k r).lp k).pc = s.lawEntry k (s.lpBank k) (s.lawSlot k axis) 0 ∧ (s.runCode k r).tick = max s.tick (s.runStart k r) := by
  obtain ⟨hrun, hpc⟩ := dispatchLaw_lp (s := (s.modQueue k fun q => q.drop 1).advanceTo (s.runStart k r)) h.lt h.kind
  refine ⟨?_, hrun, hpc.trans ?_, advanceTo_tick ..⟩
  · exact (queue_congr (State.advanceTo_runQ ..) k).trans h.drop
  · rw [h.axis]
    exact lawEntry_congr (State.advanceTo_regs ..) (State.advanceTo_mem ..) ..

/-- A run of a bank that does not hold the standard law is dispatched. -/
theorem HeadRun.runLaw_code (h : HeadRun s kind axis k r rest) (hstd : s.isStd k (s.lpBank k) = false) (hswap : (s.lp k).swapWait = none) :
    s.runLaw kind axis f = s.runCode k r := by
  have hno : s.swapsBefore k r = false := swapsBefore_eq_false (by simp [hswap])
  rw [h.runLaw_eq, hno, if_neg Bool.false_ne_true, State.runHead, hstd]
  rfl

end

/-! ### The swap of an LP's banks (R63, R299)

A list of any form, canonical or not: a write leaves what a higher address reads, and a write of another value than the default is
read back and leaves what a lower address reads. (A write of the default may uncover a second entry of the address.) -/

section
variable {β : Type} [DecidableEq β] {d : Nat → β} {l : List (Nat × β)} {a b : Nat} {v : β}

theorem spGet_spSet_above (hab : a < b) : spGet d (spSet d l a v) b = spGet d l b := by
  have hskip : ∀ (w : β) (m : List (Nat × β)), spGet d ((a, w) :: m) b = spGet d m b := fun w m => by
    rw [spGet, if_neg hab.ne', if_neg hab.not_gt]
  induction l with
  | nil =>
    rw [spSet, apply_ite (spGet d · b), hskip, ite_self]
  | cons p rest ih =>
    obtain ⟨k, w⟩ := p
    unfold spSet
    rcases lt_trichotomy a k with hlt | rfl | hgt
    · rw [if_neg hlt.ne, if_pos hlt, apply_ite (spGet d · b), hskip, ite_self]
    · rw [if_pos rfl, apply_ite (spGet d · b), hskip, hskip, ite_self]
    · rw [if_neg hgt.ne', if_neg hgt.not_gt, spGet, spGet, ih]

theorem spGet_spSet_same_of_ne (hv : v ≠ d a) : spGet d (spSet d l a v) a = v := by
  induction l with
  | nil => simp [spSet, hv, spGet]
  | cons p rest ih =>
    obtain ⟨k, w⟩ := p
    unfold spSet
    rcases lt_trichotomy a k with hlt | rfl | hgt
    · simp [hlt.ne, hlt, hv, spGet]
    · simp [hv, spGet]
    · rw [if_neg hgt.ne', if_neg hgt.not_gt, spGet, if_neg hgt.ne', if_neg hgt.not_gt, ih]

theorem spGet_spSet_below_of_ne (hab : b < a) (hv : v ≠ d a) : spGet d (spSet d l a v) b = spGet d l b := by
  induction l with
  | nil => simp [spSet, hv, spGet, hab, hab.ne]
  | cons p rest ih =>
    obtain ⟨k, w⟩ := p
    unfold spSet
    rcases lt_trichotomy a k with hlt | rfl | hgt
    · simp [hlt.ne, hlt, hv, spGet, hab.ne, hab, hab.trans hlt, (hab.trans hlt).ne]
    · simp [hv, spGet, hab.ne, hab]
    · rw [if_neg hgt.ne', if_neg hgt.not_gt, spGet, spGet, ih]

end

theorem rd_wr_above {s : State} {a b : Nat} {v : Word} (hab : a < b) : (s.wr a v).rd b = s.rd b := spGet_spSet_above hab
theorem rd_wr_same_of_ne {s : State} {a : Nat} {v : Word} (hv : v ≠ regReset a) : (s.wr a v).rd a = v := spGet_spSet_same_of_ne hv
theorem rd_wr_below_of_ne {s : State} {a b : Nat} {v : Word} (hab : b < a) (hv : v ≠ regReset a) : (s.wr a v).rd b = s.rd b :=
  spGet_spSet_below_of_ne hab hv

theorem lpMode_congr {s t : State} {k : Nat} (h : t.rd (LP_STAT k) = s.rd (LP_STAT k)) : t.lpMode k = s.lpMode k := by
  rw [State.lpMode, State.get, State.rdN, h]; rfl

/-- After a reset no LP is in NORMAL, and LPk_CNT counts nothing. -/
theorem regReset_LP_STAT_mode : ∀ k < 16, (regReset (LP_STAT k)).toNat / 2 ^ 30 % 2 ^ 2 ≠ 1 := by decide +kernel
theorem regReset_LP_CNT : ∀ k < 16, regReset (LP_CNT k) = 0 := by decide +kernel

/-- A field update writes one word: it holds the number in the field and the register's own bits elsewhere. -/
theorem put_eq_wr {s : State} {a : Nat} {f : Fld} (v : Nat) (hf : f.lo + f.w ≤ 32) : ∃ w : Word, s.put a f v = s.wr a w ∧
    w.toNat / 2 ^ f.lo % 2 ^ f.w = v % 2 ^ f.w ∧
    ∀ g : Fld, f.lo + f.w ≤ g.lo ∨ g.lo + g.w ≤ f.lo → w.toNat / 2 ^ g.lo % 2 ^ g.w = s.get a g := by
  refine ⟨_, rfl, ?_⟩
  have hlt : s.rdN a < 2 ^ 32 := (s.rd a).isLt
  rw [BitVec.toNat_ofNat, Nat.mod_eq_of_lt (put_lt hlt hf)]
  exact ⟨field_put .., fun g hg => field_put_other hg⟩

/-- An update of LPk_STAT outside MODE leaves NORMAL. -/
theorem lpMode_put {s : State} {k v : Nat} {f : Fld} (hk : k < 16) (hf : f.lo + f.w ≤ LP_STAT_MODE.lo) (h : s.lpMode k = 1) :
    (s.put (LP_STAT k) f v).lpMode k = 1 := by
  obtain ⟨w, hw, -, hother⟩ := put_eq_wr (s := s) (a := LP_STAT k) v (hf.trans (by decide))
  have hmode : w.toNat / 2 ^ LP_STAT_MODE.lo % 2 ^ LP_STAT_MODE.w = 1 := (hother _ (.inl hf)).trans h
  rw [hw, State.lpMode, State.get, State.rdN, rd_wr_same_of_ne fun he => regReset_LP_STAT_mode k hk (he ▸ hmode), hmode]

/-- LPk_CNT counts a swap, and the mode of LPk stays. -/
theorem lpMode_count {s : State} {k : Nat} (hk : k < 16) : (s.count (LP_CNT k) LP_CNT_SWAPS).lpMode k = s.lpMode k := by
  obtain ⟨w, hw, hcount, -⟩ := put_eq_wr (s := s) (a := LP_CNT k) (f := LP_CNT_SWAPS) (incSat 16 (s.get (LP_CNT k) LP_CNT_SWAPS)) (by decide)
  have hpos : 0 < incSat 16 (s.get (LP_CNT k) LP_CNT_SWAPS) := by
    unfold incSat
    split <;> omega
  rw [show LP_CNT_SWAPS.w = 16 from rfl, Nat.mod_eq_of_lt (incSat_lt 16 _)] at hcount
  refine lpMode_congr ((congrArg (State.rd · (LP_STAT k)) hw).trans (rd_wr_below_of_ne (by unfold LP_STAT LP_CNT; omega) fun he => ?_))
  rw [he, regReset_LP_CNT k hk] at hcount
  exact hpos.ne hcount

theorem bankFlip_runQ (s : State) (k : Nat) : (s.bankFlip k).runQ = s.runQ :=
  (keeps_State_bankFlip (M := maskBut [.runQ]) rfl (Keeps.refl s)).same .runQ rfl

/-- The end of a swap of banks: the registers and the LP that it leaves, where `g` is what it makes of the LP. -/
def State.flipRegs (s : State) (k : Nat) (b : Bool) (g : LpSt → LpSt) : State :=
  ((((s.putB (LP_STAT k) LP_STAT_BANK b).putB (LP_CTRL k) LP_CTRL_ACTIVE b).count (LP_CNT k) LP_CNT_SWAPS).modLp k g).lpRegs k

/-- A swap copies the state map, forgets the LP's registers, and makes no run wait for it any more. -/
theorem bankFlip_eq (s : State) (k : Nat) : ∃ (s1 : State) (b : Bool) (g : LpSt → LpSt), s.bankFlip k = s1.flipRegs k b g ∧ s1.regs = s.regs ∧
    s1.lps = (s.lpForget k).lps ∧ ∀ l, (g l).run = l.run ∧ (g l).swapWait = none :=
  ⟨_, _, _, rfl, rfl, rfl, fun _ => ⟨rfl, rfl⟩⟩

theorem flipRegs_lp {s : State} {k : Nat} {b : Bool} {g : LpSt → LpSt} (hk : k < 16) : (s.flipRegs k b g).lp k = g (s.lp k) :=
  (lp_congr (State.put_lps ..) k).trans (lp_modLp_same hk)

/-- An LP in NORMAL stays there: no register of the three holds its reset value. -/
theorem flipRegs_lpMode {s : State} {k : Nat} {b : Bool} {g : LpSt → LpSt} (hk : k < 16) (h : s.lpMode k = 1) :
    (s.flipRegs k b g).lpMode k = 1 := by
  have hbank : (s.putB (LP_STAT k) LP_STAT_BANK b).lpMode k = 1 := lpMode_put hk (by decide) h
  have hactive : ((s.putB (LP_STAT k) LP_STAT_BANK b).putB (LP_CTRL k) LP_CTRL_ACTIVE b).lpMode k = 1 :=
    (lpMode_congr (rd_wr_above (by unfold LP_CTRL LP_STAT; omega))).trans hbank
  exact lpMode_put hk (by decide) ((lpMode_congr (State.modLp_rd ..)).trans ((lpMode_count hk).trans hactive))

theorem lpForget_lp_run {s : State} {k : Nat} (hk : k < 16) : ((s.lpForget k).lp k).run = (s.lp k).run := by
  have hlps : (s.lpForget k).lps = (s.modLp k fun l => { l with main := LpSet.free s.freeCount, shadow := LpSet.free (s.freeCount + 80) }).lps := rfl
  rw [lp_congr hlps, lp_modLp_same hk]

theorem bankFlip_lp {s : State} {k : Nat} (hk : k < 16) : ((s.bankFlip k).lp k).run = (s.lp k).run ∧ ((s.bankFlip k).lp k).swapWait = none := by
  obtain ⟨s1, b, g, hflip, -, hlps, hg⟩ := bankFlip_eq s k
  obtain ⟨hrun, hwait⟩ := hg (s1.lp k)
  rw [hflip, flipRegs_lp hk]
  exact ⟨hrun.trans ((congrArg LpSt.run (lp_congr hlps k)).trans (lpForget_lp_run hk)), hwait⟩

theorem bankFlip_lpMode {s : State} {k : Nat} (hk : k < 16) (h : s.lpMode k = 1) : (s.bankFlip k).lpMode k = 1 := by
  obtain ⟨s1, b, g, hflip, hregs, -, -⟩ := bankFlip_eq s k
  rw [hflip]
  exact flipRegs_lpMode hk ((lpMode_congr (rd_congr hregs _)).trans h)

theorem lpSwapDue_bankFlip {s : State} {k : Nat} (hwait : (s.lp k).swapWait.isSome = true) (hidle : (s.lp k).run = none)
    (hsh : (s.lp k).sh = false) : s.lpSwapDue k = s.bankFlip k := by simp [State.lpSwapDue, hwait, hidle, hsh]

/-- A swap that is due is made ahead of the run, and none is due after it. -/
theorem overheadRun_bankFlip {s : State} {k T : Nat} {r : RunReq} {rest : List RunReq} (h : HeadRun s .overhead k k r rest)
    (hsh : (s.lp k).sh = false) (hwait : (s.lp k).swapWait = some T) (hT : T ≤ s.runStart k r) :
    s.overheadRun k = (s.bankFlip k).overheadRun k := by
  obtain ⟨hrun, hnone⟩ := bankFlip_lp (s := s) h.lt
  have hflip : HeadRun (s.bankFlip k) .overhead k k r rest :=
    ⟨rfl, (queue_congr (bankFlip_runQ s k) k).trans h.queue, h.kind, h.axis, hrun.trans h.idle, bankFlip_lpMode h.lt h.normal⟩
  have hdue : s.swapsBefore k r = true := by simp [State.swapsBefore, hwait, hT]
  have hno : (s.bankFlip k).swapsBefore k r = false := swapsBefore_eq_false (by simp [hnone])
  rw [State.overheadRun, State.overheadRun, h.runLaw_eq, hflip.runLaw_eq, hdue, hno, if_pos rfl, if_neg Bool.false_ne_true,
    lpSwapDue_bankFlip (by simp [hwait]) h.idle hsh]

/-! ### The recovery law (R296) -/

theorem loop_modLoop_same {s : State} {n : Nat} {f : AxLoop → AxLoop} (hn : n < 80) : (s.modLoop n f).loop n = f (s.loop n) :=
  vget_vmod_same hn
theorem loop_congr {s t : State} (h : t.loops = s.loops) (n : Nat) : t.loop n = s.loop n := by rw [State.loop, h]; rfl
theorem loop_keeps {s t : State} (h : Keeps (maskBut [.loops]) s t) (n : Nat) : t.loop n = s.loop n := loop_congr (h.same .loops rfl) n

section
variable {s : State} {n : Nat} (hn : n < 80)
include hn

/-- A published torque leaves the run of the position law and a torque-off as they are. -/
theorem publishT_loop {T : Int} {b : Nat} : ((s.publishT n T b).loop n).posAt = (s.loop n).posAt ∧
    ((s.publishT n T b).loop n).toff = (s.loop n).toff := by
  rw [State.publishT, loop_modLoop_same hn]
  exact ⟨rfl, rfl⟩

theorem torqueOffStep_loop : ((s.torqueOffStep n).loop n).posAt = (s.loop n).posAt ∧
    ((s.torqueOffStep n).loop n).toff.isSome = (s.loop n).toff.isSome := by
  unfold State.torqueOffStep
  cases htoff : (s.loop n).toff with
  | none => simp only [htoff, and_self]
  | some x =>
    obtain ⟨T0, k⟩ := x
    dsimp only
    obtain ⟨hpos, hoff⟩ := publishT_loop (s := s.modLoop n fun l => { l with toff := some (T0, min 64 (k + 1)) }) hn
      (T := divOpen (T0 * (64 - ((min 64 (k + 1) : Nat) : Int))) 64) (b := (s.loop n).inpV.b)
    rw [hpos, hoff, loop_modLoop_same hn]
    exact ⟨rfl, rfl⟩

theorem torqueOff_loop : ((s.torqueOff n).loop n).posAt = (s.loop n).posAt ∧ ((s.torqueOff n).loop n).toff.isSome = true := by
  unfold State.torqueOff
  by_cases htoff : (s.loop n).toff.isSome = true
  · rw [if_pos htoff]
    exact ⟨rfl, htoff⟩
  rw [if_neg htoff]
  extract_lets s1 s2
  have h1 : s1.loop n = ((s.setf (AXL_LSTAT n) AXL_LSTAT_TOFF).modLoop n fun l => { l with toff := some (l.tRef, 0), iP := 0, iV := 0 }).loop n :=
    loop_keeps (keeps_State_injAbort rfl (Keeps.refl _)) n
  have h2 : Keeps (maskBut [.loops]) s1 s2 := keeps_State_clrf rfl (keeps_State_resolve rfl (keeps_State_modMo rfl (Keeps.refl _)))
  have hend : (((((s2.dropMoves n).lpNotice n .torqueOff).event .torqueOff n).group 2).loop n) = s1.loop n :=
    loop_keeps (keeps_State_group rfl (keeps_State_event rfl (keeps_State_lpNotice rfl (keeps_State_dropMoves rfl h2)))) n
  rw [hend, h1, loop_modLoop_same hn]
  exact ⟨rfl, rfl⟩

theorem actual_loop : ((s.actual n).2.loop n).posAt = some (s.loop n).inp.b := congrArg AxLoop.posAt (loop_modLoop_same hn)

end

/-- The recovery law runs where LPk is in RECOVERY, loops run, and the axis has not run at its boundary yet. -/
structure RecoveryDue (s : State) (n : Nat) : Prop where
  axis : n < 80
  mode : s.lpMode (s.lpOf n) = 2
  running : s.running = true
  fresh : (s.loop n).posAt ≠ some (s.loop n).inp.b

/-- The velocity inputs of a recovery run are those of its position boundary. -/
theorem RecoveryDue.loop_start {s : State} {n : Nat} (h : RecoveryDue s n) :
    (s.modLoop n fun l => { l with inpV := l.inp }).loop n = { s.loop n with inpV := (s.loop n).inp } := loop_modLoop_same h.axis

theorem RecoveryDue.recoveryRun_posAt {s : State} {n : Nat} (h : RecoveryDue s n) : ((s.recoveryRun n).loop n).posAt = some (s.loop n).inp.b := by
  have hstart := h.loop_start
  obtain ⟨hn, hmode, hrunning, hfresh⟩ := h
  unfold State.recoveryRun
  extract_lets b s0 l active mark s1 s2
  rw [if_neg (by simp [hmode, hrunning, hfresh, b])]
  have hmark : ∀ t : State, (mark t).loop n = { t.loop n with posAt := some b } := fun t => loop_modLoop_same hn
  have hs1 : Keeps (maskBut [.loops]) s0 s1 := ite_of (Keeps.refl _) (keeps_State_startRamp rfl (Keeps.refl _))
  have hs2 : s2.loop n = s0.loop n := loop_keeps (keeps_State_setpoint rfl hs1) n
  by_cases htoff : l.toff.isSome = true
  · rw [if_pos htoff, hmark]
  rw [if_neg htoff]
  by_cases hopen : (decide (64 ≤ n) || !l.enabled) = true
  · rw [if_pos hopen, hmark]
  rw [if_neg hopen]
  by_cases hlost : (!l.inp.posValid || !l.inp.velValid) = true
  · rw [if_pos hlost, hmark]
  rw [if_neg hlost]
  split
  rename_i pact s3 hact
  extract_lets e vlim vc
  split
  rename_i vm dw s4 hmeas
  extract_lets T
  have h3 : (s3.loop n).posAt = some b := by
    have hpos := actual_loop (s := s2) hn
    rwa [hact, hs2, hstart] at hpos
  have h4 : (s4.loop n).posAt = some b := by
    rw [loop_keeps (KP3.out hmeas (keeps_State_measured rfl (Keeps.refl _))) n, h3]
  refine ite_of (P := fun t : State => (t.loop n).posAt = some b) ?_ ?_
  · rw [(torqueOffStep_loop hn).1, (torqueOff_loop hn).1, h4]
  · rw [(publishT_loop hn).1, h4]

/-- An enabled axis whose position is not valid is brought to torque-off. -/
theorem RecoveryDue.recoveryRun_toff {s : State} {n : Nat} (h : RecoveryDue s n) (haxis : n < 64) (hen : (s.loop n).enabled = true)
    (hvalid : (s.loop n).inp.posValid = false) : ((s.recoveryRun n).loop n).toff.isSome = true := by
  have hstart := h.loop_start
  obtain ⟨hn, hmode, hrunning, hfresh⟩ := h
  unfold State.recoveryRun
  extract_lets b s0 l active mark s1 s2
  rw [if_neg (by simp [hmode, hrunning, hfresh, b])]
  have hmark : ∀ t : State, (mark t).loop n = { t.loop n with posAt := some b } := fun t => loop_modLoop_same hn
  by_cases htoff : l.toff.isSome = true
  · rw [if_pos htoff, hmark, (torqueOffStep_loop hn).2]
    exact htoff
  have hl : l = { s.loop n with inpV := (s.loop n).inp } := hstart
  rw [if_neg htoff, if_neg (by simp [hl, hen, haxis]), if_pos (by simp [hl, hvalid]), hmark, (torqueOffStep_loop hn).2,
    (torqueOff_loop hn).2]

theorem exec_recoveryLawRun (n : Fin 80) (s : State) : exec (.recoveryLawRun n) s = .next (s.recoveryRun n).duskCheck := rfl

theorem duskCheck_loop (s : State) (n : Nat) : s.duskCheck.loop n = s.loop n := loop_keeps (keeps_State_duskCheck rfl (Keeps.refl s)) n

/-! ### Lateness (R59) -/

theorem lateClr_regs {s : State} (n : Nat) (hcanon : s.canonical = true) : (s.lateClr n).get (AX_LATE n) AX_LATE_COUNT = 0 ∧
    (s.lateClr n).get (AX_LATE n) AX_LATE_RUN = 0 ∧ (s.lateClr n).get (AX_LAT n) AX_LAT_MAX = 0 ∧
    ∀ a, a ≠ AX_LATE n → a ≠ AX_LAT n → (s.lateClr n).rd a = s.rd a := by
  have hne : AX_LATE n ≠ AX_LAT n := by unfold AX_LATE AX_LAT; omega
  unfold State.lateClr
  refine ⟨?_, ?_, ?_, fun a hlate hlat => ?_⟩
  · rw [get_put_ne (by simp [hcanon]) hne, get_put_other (by simp [hcanon]) (by decide) (by decide), get_put_same hcanon (by decide)]
    rfl
  · rw [get_put_ne (by simp [hcanon]) hne, get_put_same (by simp [hcanon]) (by decide)]
    rfl
  · rw [get_put_same (by simp [hcanon]) (by decide)]
    rfl
  · rw [rd_put_ne (by simp [hcanon]) hlat, rd_put_ne (by simp [hcanon]) hlate, rd_put_ne hcanon hlate]

/-! ### Commit tokens (R61 to R64) -/

theorem tokState_put {s : State} {k st : Nat} (hcanon : s.canonical = true) (hst : st < 8) :
    (s.put (CTOK_CTRL k) CTOK_CTRL_STATE st).tokState k = st := (get_put_same hcanon (by decide)).trans (Nat.mod_eq_of_lt hst)
theorem tokState_congr {s t : State} {k : Nat} (h : t.rd (CTOK_CTRL k) = s.rd (CTOK_CTRL k)) : t.tokState k = s.tokState k := by
  rw [State.tokState, State.get, State.rdN, h]; rfl

theorem ctokCtrl_ne_lpStat {k : Nat} (_ : k < 8) (l : Nat) : CTOK_CTRL k ≠ LP_STAT l := by
  unfold CTOK_CTRL LP_STAT
  omega

/-- SWAPPEND stands in the LPs' own registers. -/
theorem tokSwap_tokState {s : State} {k : Nat} {b : Bool} (hcanon : s.canonical = true) (hk : k < 8) : (s.tokSwap k b).tokState k = s.tokState k := by
  have hreg : (s.tokSwap k b).canonical = true ∧ (s.tokSwap k b).rd (CTOK_CTRL k) = s.rd (CTOK_CTRL k) := by
    refine foldl_of (P := fun t : State => t.canonical = true ∧ t.rd (CTOK_CTRL k) = s.rd (CTOK_CTRL k)) ⟨hcanon, rfl⟩ ?_
    intro t l ⟨hc, hrd⟩
    exact ⟨putB_canonical hc, (rd_put_ne hc (ctokCtrl_ne_lpStat hk l)).trans hrd⟩
  exact tokState_congr hreg.2

theorem tokSwap_time (s : State) (k : Nat) (b : Bool) : (s.tokSwap k b).time = s.time :=
  (keeps_State_tokSwap (M := maskBut [.time]) rfl (Keeps.refl s)).same .time rfl

/-- A token that ends without execution shows why. -/
theorem tokenDrop_tokState {s : State} {k st : Nat} (hcanon : s.canonical = true) (hk : k < 8) (hst : st < 8) :
    (s.tokenDrop k st).tokState k = st := by
  have hswap : ((s.put (CTOK_CTRL k) CTOK_CTRL_STATE st).tokSwap k false).tokState k = st :=
    (tokSwap_tokState (put_canonical hcanon) hk).trans (tokState_put hcanon hst)
  have hregs : Keeps (maskBut [.regs]) ((s.put (CTOK_CTRL k) CTOK_CTRL_STATE st).tokSwap k false) (s.tokenDrop k st) :=
    keeps_State_resolve rfl (((Keeps.refl _).forEach fun t n h => keeps_State_modPwm rfl h).forEach fun t n h => keeps_State_modCle rfl h)
  exact (tokState_congr (rd_congr (hregs.same .regs rfl) _)).trans hswap

theorem tokenDrop_time (s : State) (k st : Nat) : (s.tokenDrop k st).time = s.time :=
  (keeps_State_tokenDrop (M := maskBut [.time]) rfl (Keeps.refl s)).same .time rfl

/-- ARM with a target that lies ahead and ready members (R62). -/
theorem tokenArm_pending {s : State} {k : Nat} (hcanon : s.canonical = true) (hk : k < 8) (hfree : s.tokState k ≠ 1)
    (hnext : s.flag (CTOK_CTRL k) CTOK_CTRL_NEXT = false) (htarget : s.nextFrame.1 ≤ s.rd64N (CTOK_TARGET k))
    (hlead : s.tokenLead ≤ s.ticksTo (s.rd64N (CTOK_TARGET k))) (hready : s.tokUnready k = false) :
    (s.tokenArm k).tokState k = 1 ∧ vget (s.tokenArm k).time.tok k 0 = s.rd64N (CTOK_TARGET k) := by
  have harm : s.tokenArm k = ({ s.put (CTOK_CTRL k) CTOK_CTRL_STATE 1 with
      time := { s.time with tok := vmod s.time.tok k fun _ => s.rd64N (CTOK_TARGET k) } } : State).tokSwap k true := by
    unfold State.tokenArm
    rw [if_neg hfree]
    simp only [hnext, Bool.false_eq_true, ↓reduceIte, hready, htarget.not_gt, hlead.not_gt, decide_false, Bool.or_false]
    rfl
  have htime : Keeps (maskBut [.regs]) (s.put (CTOK_CTRL k) CTOK_CTRL_STATE 1) { s.put (CTOK_CTRL k) CTOK_CTRL_STATE 1 with
      time := { s.time with tok := vmod s.time.tok k fun _ => s.rd64N (CTOK_TARGET k) } } := Keeps.up_time rfl (Keeps.refl _)
  rw [harm, tokSwap_time, tokSwap_tokState (htime.canon (put_canonical hcanon)) hk, tokState_congr (rd_congr (htime.same .regs rfl) _),
    tokState_put hcanon (by decide)]
  exact ⟨rfl, vget_vmod_same hk⟩

/-- ARM with a target that has passed is refused (R62). -/
theorem tokenArm_passed {s : State} {k : Nat} (hfree : s.tokState k ≠ 1) (hnext : s.flag (CTOK_CTRL k) CTOK_CTRL_NEXT = false)
    (htarget : s.rd64N (CTOK_TARGET k) < s.nextFrame.1) : s.tokenArm k = s.put (CTOK_CTRL k) CTOK_CTRL_STATE 3 := by
  unfold State.tokenArm
  rw [if_neg hfree]
  simp only [hnext, Bool.false_eq_true, ↓reduceIte, htarget, decide_true, Bool.true_or]
  rfl

theorem tokenCancel_drop {s : State} {k : Nat} (hpending : s.tokState k = 1) (hlead : s.tokenLead ≤ s.ticksTo (vget s.time.tok k 0)) :
    s.tokenCancel k = s.tokenDrop k 5 := if_pos (by simp [hpending, hlead])

section
variable {s : State} {k : Nat} (hpending : s.tokState k = 1) (hreached : vget s.time.tok k 0 ≤ s.time.frameNum)
include hpending hreached

theorem tokenExecute_leaving (hleave : (s.atFrame && s.leaving) = true) : s.tokenExecute k = s.tokenDrop k 6 := by
  unfold State.tokenExecute
  rw [if_neg (by simp [hpending, hreached]), if_pos hleave]

/-- The members have switched, in `s3`; then the token shows EXECUTED and its instant, and its commands complete (R63). -/
theorem tokenExecute_members (hstay : (s.atFrame && s.leaving) = false) : ∃ s3 : State, Keeps (maskBut [.time]) s s3 ∧
    s.tokenExecute k = ((s3.put (CTOK_CTRL k) CTOK_CTRL_STATE 2).wrN (CTOK_DONE k) (s.time.frameStart / 32)).resolve .token k .ok 2
      (s.time.frameStart / 32 % 2 ^ 32) := by
  unfold State.tokenExecute
  rw [if_neg (by simp [hpending, hreached]), if_neg (by simp [hstay])]
  extract_lets t s1 s2 s3
  have h1 : Keeps (maskBut [.time]) s s1 := (Keeps.refl s).forEach fun x n h => keeps_State_modPwm rfl h
  have h2 : Keeps (maskBut [.time]) s s2 := h1.forEach fun x n h => keeps_State_modCle rfl (keeps_State_swapRequest rfl h)
  exact ⟨s3, h2.forEach fun x l h => keeps_State_lpSwap rfl h, rfl⟩

theorem tokenExecute_done (hcanon : s.canonical = true) (hstay : (s.atFrame && s.leaving) = false) :
    (s.tokenExecute k).tokState k = 2 ∧ (s.tokenExecute k).rdN (CTOK_DONE k) = s.time.frameStart / 32 % 2 ^ 32 ∧
    (s.tokenExecute k).time = s.time := by
  obtain ⟨s3, h3, hexec⟩ := tokenExecute_members hpending hreached hstay
  have hcanon3 : s3.canonical = true := h3.canon hcanon
  have hend : Keeps (maskBut [.regs, .time]) ((s3.put (CTOK_CTRL k) CTOK_CTRL_STATE 2).wrN (CTOK_DONE k) (s.time.frameStart / 32))
      (s.tokenExecute k) := by
    rw [hexec]
    exact keeps_State_resolve rfl (Keeps.refl _)
  have hregs : (s.tokenExecute k).regs = ((s3.put (CTOK_CTRL k) CTOK_CTRL_STATE 2).wrN (CTOK_DONE k) (s.time.frameStart / 32)).regs :=
    hend.same .regs rfl
  have hne : CTOK_CTRL k ≠ CTOK_DONE k := by unfold CTOK_CTRL CTOK_DONE; omega
  refine ⟨?_, ?_, (hend.same .time rfl).trans (h3.same .time rfl)⟩
  · exact (tokState_congr ((rd_congr hregs _).trans (rd_wr_ne (put_canonical hcanon3) hne))).trans (tokState_put hcanon3 (by decide))
  · rw [State.rdN, rd_congr hregs]
    exact rdN_wrN_mod (put_canonical hcanon3)

end

/-! ### Law runs and tokens as commands -/

section
variable (n : Nat) (x : State)

/-- The laws leave the queues of the LPs alone. -/
theorem posRun_keeps : Keeps (maskBut [.runQ]) x ((x.regMissOf n (x.loop n).inp.b).withOuts n fun s => s.posRun n) :=
  keeps_State_withOuts rfl (keeps_State_regMissOf rfl (Keeps.refl x)) fun _ h => keeps_State_posRun rfl h
theorem velRun_keeps : Keeps (maskBut [.runQ]) x (x.withOuts n fun s => s.velRun n) :=
  keeps_State_withOuts rfl (Keeps.refl x) fun _ h => keeps_State_velRun rfl h
theorem netRun_keeps (b slot : Nat) : Keeps (maskBut [.runQ]) x
    (((((x.captureVel n b).capturePos n b).modNet (n - 32) fun y => { y with due := false, ran := decide (x.tick < slot) }).regMissOf n b).withOuts n
      fun s => s.netRun n) :=
  keeps_State_withOuts rfl
    (keeps_State_regMissOf rfl (keeps_State_modNet rfl (keeps_State_capturePos rfl (keeps_State_captureVel rfl (Keeps.refl x)))))
    fun _ h => keeps_State_netRun rfl h
theorem virtRun_keeps : Keeps (maskBut [.runQ]) x ((x.regMissOf n (x.loop n).inp.b).withOuts n fun s => s.virtRun n) :=
  keeps_State_withOuts rfl (keeps_State_regMissOf rfl (Keeps.refl x)) fun _ h => keeps_State_virtRun rfl h

end

theorem runTicks_overhead {s : State} {r : RunReq} (h : r.kind = .overhead) : s.runTicks r = 1000 := by
  simp [State.runTicks, h]

theorem recoveryRun_of_mode {s : State} {n : Nat} (h : s.lpMode (s.lpOf n) ≠ 2) : s.recoveryRun n = s := by
  unfold State.recoveryRun
  exact if_pos (by simp [h])

/-- Settles O26: a run at the head of its queue is made or dispatched (`HeadRun`), the recovery law runs once for each boundary
(`RecoveryDue`), and a token's row changes its state. -/
theorem lawRunAndTokenCommandsComplete : Obligations.LawRunAndTokenCommandsComplete := by
  refine ⟨?posRun, ?velRun, ?netRun, ?virtRun, ?overheadRun, ?overheadSwap, ?posDispatch, ?recoveryNone, ?recovery, ?recoveryLost, ?lateClr,
    ?armed, ?armPassed, ?cancelled, ?leaving, ?executed⟩
  case posRun =>
    intro s n r rest hq hkind haxis hidle hmode hstd hswap
    have h : HeadRun s .pos n (s.lpOf n) r rest := ⟨rfl, hq, hkind, haxis, hidle, hmode⟩
    exact ⟨_, rfl, h.runLaw_made hstd hswap (posRun_keeps n)⟩
  case velRun =>
    intro s n r rest hq hkind haxis hidle hmode hstd hswap
    have h : HeadRun s .vel n (s.lpOf n) r rest := ⟨rfl, hq, hkind, haxis, hidle, hmode⟩
    exact ⟨_, rfl, h.runLaw_made hstd hswap (velRun_keeps n)⟩
  case netRun =>
    intro s i r rest hq hkind haxis hidle hmode hstd hswap
    have h : HeadRun s .net (32 + i) (s.lpOf (32 + i)) r rest := ⟨rfl, hq, hkind, haxis, hidle, hmode⟩
    exact ⟨_, rfl, h.runLaw_made hstd hswap fun x => netRun_keeps (32 + i) x _ _⟩
  case virtRun =>
    intro s j r rest hq hkind haxis hidle hmode hstd hswap
    have h : HeadRun s .virt (64 + j) (s.lpOf (64 + j)) r rest := ⟨rfl, hq, hkind, haxis, hidle, hmode⟩
    exact ⟨_, rfl, h.runLaw_made hstd hswap (virtRun_keeps (64 + j))⟩
  case overheadRun =>
    intro s k r rest hq hkind haxis hidle hmode hstd hswap
    have h : HeadRun s .overhead k k r rest := ⟨rfl, hq, hkind, haxis, hidle, hmode⟩
    obtain ⟨hrest, hfree, htime⟩ := h.runLaw_made (f := id) hstd hswap Keeps.refl
    exact ⟨_, rfl, hrest, hfree.trans (by rw [runTicks_overhead hkind]; rfl), htime⟩
  case overheadSwap =>
    intro s k r rest T hq hkind haxis hidle hmode hsh hwait hT
    have h : HeadRun s .overhead k k r rest := ⟨rfl, hq, hkind, haxis, hidle, hmode⟩
    exact congrArg Host.Outcome.next (overheadRun_bankFlip h hsh hwait hT)
  case posDispatch =>
    intro s n r rest hq hkind haxis hidle hmode hstd hswap
    have h : HeadRun s .pos n (s.lpOf n) r rest := ⟨rfl, hq, hkind, haxis, hidle, hmode⟩
    exact ⟨_, congrArg Host.Outcome.next (h.runLaw_code hstd hswap), h.runCode_dispatched⟩
  case recoveryNone =>
    intro s n hmode
    have hdusk : Keeps (maskBut [.motion, .loops]) s s.duskCheck := keeps_State_duskCheck rfl (Keeps.refl s)
    exact ⟨s.duskCheck, by rw [exec_recoveryLawRun, recoveryRun_of_mode hmode], hdusk.same .motion rfl, hdusk.same .loops rfl⟩
  case recovery =>
    intro s n hmode hrunning hfresh
    have h : RecoveryDue s n := ⟨n.isLt, hmode, hrunning, hfresh⟩
    have hkeep : Keeps (maskBut [.time, .runQ]) s (s.recoveryRun n).duskCheck :=
      keeps_State_duskCheck rfl (keeps_State_recoveryRun rfl (Keeps.refl s))
    exact ⟨_, rfl, (congrArg AxLoop.posAt (duskCheck_loop ..)).trans h.recoveryRun_posAt, hkeep.same .time rfl, hkeep.same .runQ rfl⟩
  case recoveryLost =>
    intro s n haxis hmode hrunning hfresh hen hvalid
    have h : RecoveryDue s n := ⟨n.isLt, hmode, hrunning, hfresh⟩
    have hkeep : Keeps (maskBut [.time]) s (s.recoveryRun n).duskCheck :=
      keeps_State_duskCheck rfl (keeps_State_recoveryRun rfl (Keeps.refl s))
    exact ⟨_, rfl, (congrArg (fun l : AxLoop => l.toff.isSome) (duskCheck_loop ..)).trans (h.recoveryRun_toff haxis hen hvalid),
      hkeep.same .time rfl⟩
  case lateClr =>
    intro s n hcanon hmay
    exact ⟨s.lateClr n, congrArg Host.Outcome.next (hostCmd_may hmay), lateClr_regs n hcanon⟩
  case armed =>
    intro s k hcanon hmay hfree hnext htarget hlead hready
    exact ⟨s.tokenArm k, congrArg Host.Outcome.next (hostCmd_may hmay), tokenArm_pending hcanon k.isLt hfree hnext htarget hlead hready⟩
  case armPassed =>
    intro s k hcanon hmay hfree hnext htarget
    have hpassed : s.hostCmd (CTOK_CTRL k) (fun s => s.tokenArm k) = s.put (CTOK_CTRL k) CTOK_CTRL_STATE 3 :=
      (hostCmd_may hmay).trans (tokenArm_passed hfree hnext htarget)
    exact ⟨_, congrArg Host.Outcome.next hpassed, tokState_put hcanon (by decide), rfl⟩
  case cancelled =>
    intro s k hcanon hmay hpending hlead
    have hdrop : s.hostCmd (CTOK_CTRL k) (fun s => s.tokenCancel k) = s.tokenDrop k 5 :=
      (hostCmd_may hmay).trans (tokenCancel_drop hpending hlead)
    exact ⟨_, congrArg Host.Outcome.next hdrop, tokenDrop_tokState hcanon k.isLt (by decide), tokenDrop_time ..⟩
  case leaving =>
    intro s k hcanon hpending hreached hat hleave
    have hdrop : s.tokenExecute k = s.tokenDrop k 6 := tokenExecute_leaving hpending hreached (by rw [hat, hleave]; rfl)
    exact ⟨_, congrArg Host.Outcome.next hdrop, tokenDrop_tokState hcanon k.isLt (by decide), tokenDrop_time ..⟩
  case executed =>
    intro s k hcanon hpending hreached hstay
    exact ⟨_, rfl, tokenExecute_done hpending hreached hcanon hstay⟩

end Sys2Proof.Machine
end

section
/-! PROOFS. The feedback ports (03_feedback_ports.md): the statement on their commands fails where an axis's compare values on the way
to its PWM name a register of a port. -/

namespace Sys2Proof.Machine

/-! ### A preset at an axis's boundary (R93) -/

/-- A running module in canonical form. EP3 counts, holds a LOAD of the preset 0 and follows the current boundaries of AX3; the compare
values that AX3 has on the way to its PWM hold one word, and it is addressed to EP3_PRESET. -/
def State.strayCompare : State :=
  let running : State := { State.reset with pw := { State.reset.pw with phase := .running } }
  let counting := (running.setf (EP_CFG 3) EP_CFG_EN).put (EP_SYNC 3) EP_SYNC_CYCLE 0
  (counting.modPort 3 fun e => { e with load := true }).modPwm 3 fun q => { q with fly := some (0, [(EP_PRESET 3, 2 ^ 24)]) }

/-- AX3 is the axis of EP3, at whose next boundary, in the present frame, the LOAD falls. -/
theorem strayCompare_sync : State.strayCompare.get (EP_SYNC 3) EP_SYNC_CYCLE = 0 ∧ State.strayCompare.get (EP_SYNC 3) EP_SYNC_AXIS = 3 ∧
    (State.strayCompare.nextBoundary 3 (State.strayCompare.syncCells 3)).1 ≤ State.strayCompare.time.frameNum := by decide +kernel

/-- No edge and no jump of EP3's count is on record. -/
theorem strayCompare_history : (State.strayCompare.port 3).edges = [] ∧ (State.strayCompare.port 3).shifts = [] := by decide +kernel

theorem strayCompare_preset : State.strayCompare.rd64I (EP_PRESET 3) = 0 := by decide +kernel

/-- The compare values land ahead of the preset: EP3 counts on from 1, the word that they left in EP3_PRESET. -/
theorem strayCompare_presetRow_count : ((State.strayCompare.presetRow 3).port 3).count = 1 := by decide +kernel

theorem exec_presetApply (n : Fin 40) (s : State) : exec (.presetApply n) s = .next (s.presetRow n) := rfl

/-- Refutes O49, in its clause on a LOAD at an axis's boundary (R93): it speaks of every canonical state, and neither canonical form nor
another premise bounds the addresses in `PwmSt.fly`, whose words `State.flyTo` writes at that boundary, ahead of the preset. No command
brings the module into such a state: the model fills `fly` with the compare registers of the axis's own PWM alone (R216). With the premise
`fly = none`, which the statement on PWM commits has, this counterexample is gone. -/
theorem not_encoderPortCommandsComplete : ¬ Obligations.EncoderPortCommandsComplete := by
  rintro ⟨-, -, -, -, -, -, -, hload, -⟩
  obtain ⟨hcycle, haxis, hframe⟩ := strayCompare_sync
  obtain ⟨hedges, hshifts⟩ := strayCompare_history
  have hcanon : State.strayCompare.canonical = true := by decide +kernel
  have hon : State.strayCompare.portOn 3 = true := by decide +kernel
  obtain ⟨t, hexec, -, hcount, -⟩ := hload State.strayCompare 3 hcanon rfl hon rfl (by simp [hcycle]) (by simp [haxis]) (by simpa [haxis] using hframe)
    (by simp [hedges]) (by simp [hshifts])
  have ht : State.strayCompare.presetRow 3 = t := Host.Outcome.next.inj ((exec_presetApply 3 _).symm.trans hexec)
  rw [← ht] at hcount
  have hzero : (1 : Int) = wrapS 40 (0 / 2 ^ 24) := by simpa [strayCompare_presetRow_count, strayCompare_preset] using hcount
  exact absurd hzero (by decide)

end Sys2Proof.Machine
end

section
/-! PROOFS. The commands of the classes MOTION, GEAR/CAM and LOOP (04_trajectory_gearing_line_shaft.md, 17_command_reference.md): the statement
on them fails where a register list that is not in canonical form does not read back what CAM_SWITCH writes. -/

namespace Sys2Proof.Machine

/-! ### CAM_SWITCH on a list with an address listed thrice (R129, R514) -/

/-- A running module in Noon whose register list is not canonical: AX0_CAM is listed three times, twice with its reset value and then with
NEXT = 5. A write of the reset value takes one entry off and uncovers the next. -/
def State.doubledCam : State :=
  { State.reset with
    regs := [(SYS_STATE, 2), (AX_CAM 0, 0), (AX_CAM 0, 0), (AX_CAM 0, 0x50000)]
    pw := { State.reset.pw with phase := .running, fwRun := true } }

/-- CAM_SWITCH of AX0 to table 0, at master position 0, upwards. -/
def camSwitchToZero : Cmd := { tag := 1, unit := 0 }

/-- The command is admitted, to a state in which AX0 does not ramp and no change of its source waits. -/
theorem doubledCam_admits : ∃ s1, State.doubledCam.admits camSwitchToZero 0x0C03 = some (s1, cmdReq camSwitchToZero 0x0C03) ∧
    s1.ramping 0 = false ∧ (s1.mo 0).chgs = [] ∧ ((s1.cmdCamSwitch (cmdReq camSwitchToZero 0x0C03)).mo 0).chgs.map (·.table) = [5] :=
  ⟨{ State.doubledCam with inflight := [{ tag := 1, opcode := 0x0C03, ring := 128 }] }, by decide +kernel, by decide +kernel, by decide +kernel,
    by decide +kernel⟩

theorem exec_camSwitch (c : Cmd) (s : State) : exec (.camSwitch c) s = .next (s.command c 0x0C03 State.cmdCamSwitch) := rfl

/-- Refutes O58, in its clause on CAM_SWITCH (R129): it says that the change carries the table of P0 and, unlike the clause on TABLE_LOAD, it
lacks the premise that the state is canonical. CAM_SWITCH writes P0 to AXn_CAM NEXT and the change takes NEXT from there; in
`State.doubledCam` the register reads 5 after 0 has been written. No run from reset comes to such a list (`stepKeepsCanonicalForm`); with
the premise `s.canonical` this counterexample is gone. -/
theorem not_motionClassCommandsComplete : ¬ Obligations.MotionClassCommandsComplete := by
  rintro ⟨-, -, -, -, -, -, -, -, -, -, -, -, -, -, -, -, -, -, -, -, -, -, -, hswitch, -⟩
  obtain ⟨s1, hadmits, hramp, hidle, htable⟩ := doubledCam_admits
  obtain ⟨t, x, hexec, hchgs, -, hx, -⟩ := hswitch _ s1 camSwitchToZero _ hadmits (by decide) hramp (by simp [hidle, cmdReq, camSwitchToZero])
  have ht : s1.cmdCamSwitch (cmdReq camSwitchToZero 0x0C03) = t :=
    Host.Outcome.next.inj ((congrArg Host.Outcome.next (command_admits hadmits)).symm.trans ((exec_camSwitch ..).symm.trans hexec))
  have hlist : [x.table] = [5] := by
    rw [← htable, ht]
    exact (congrArg (List.map (·.table)) (hchgs.trans (congrArg (· ++ [x]) hidle))).symm
  rw [hx] at hlist
  exact absurd hlist (by decide)

end Sys2Proof.Machine
end

section
/-! PROOFS. Words that an operation leaves alone: what the ports, the axes, the line shafts and the planner write of the register file and of
the values in effect. -/

namespace Sys2Proof.Machine

/-! ### Words left alone -/

/-- From canonical `s`, state `t` is canonical, and the words at the addresses of `A` hold the same in the registers and in effect. -/
structure Leaves (A : Nat → Prop) (s t : State) : Prop where
  canon : s.canonical = true → t.canonical = true
  rd : s.canonical = true → ∀ a, A a → t.rd a = s.rd a
  ard : s.canonical = true → ∀ a, A a → t.ard a = s.ard a

theorem Leaves.refl {A : Nat → Prop} (s : State) : Leaves A s s := ⟨id, fun _ _ _ => rfl, fun _ _ _ => rfl⟩

theorem Leaves.trans {A : Nat → Prop} {s t u : State} (h : Leaves A s t) (k : Leaves A t u) : Leaves A s u :=
  ⟨fun hc => k.canon (h.canon hc), fun hc a ha => (k.rd (h.canon hc) a ha).trans (h.rd hc a ha),
    fun hc a ha => (k.ard (h.canon hc) a ha).trans (h.ard hc a ha)⟩

theorem Leaves.get {A : Nat → Prop} {s t : State} (h : Leaves A s t) (hc : s.canonical = true) {a : Nat} (ha : A a) (f : Fld) :
    t.get a f = s.get a f := by
  rw [State.get, State.rdN, h.rd hc a ha, State.get, State.rdN]

theorem Leaves.flag {A : Nat → Prop} {s t : State} (h : Leaves A s t) (hc : s.canonical = true) {a : Nat} (ha : A a) (f : Fld) :
    t.flag a f = s.flag a f := by
  rw [State.flag, h.get hc ha, State.flag]

/-- What stays outside the parts of one mask stays outside those of a wider one. -/
theorem Keeps.wider {M N : Nat} {s t : State} (k : Keeps M s t) (hMN : Nat.land M N = M) : Keeps N s t := by
  refine ⟨k.pending, k.variant, k.free, k.canon, fun p hp => k.frame p ?_⟩
  have hand : M &&& N = M := hMN
  rw [← hand, Nat.testBit_and, hp, Bool.and_false]

/-- An operation outside the register file and the values in effect. -/
theorem Keeps.leaves {A : Nat → Prop} {s t : State} (k : Keeps (maskBut [.regs, .act]) s t) : Leaves A s t :=
  ⟨k.canon, fun _ a _ => rd_congr (k.same .regs rfl) a, fun _ _ _ => by
    rw [State.ard, show t.act = s.act from k.same .act rfl, State.ard]⟩

section
variable {A : Nat → Prop} {s0 s : State} (h : Leaves A s0 s)
include h

theorem Leaves.keeps {t : State} (k : Keeps (maskBut [.regs, .act]) s t) : Leaves A s0 t := h.trans k.leaves

theorem Leaves.wr {b : Nat} {v : Word} (hb : ¬A b) : Leaves A s0 (s.wr b v) :=
  h.trans ⟨wr_canonical, fun hc _ ha => rd_wr_ne hc (ne_of_apply_ne A fun hab => hb (hab ▸ ha)), fun _ _ _ => State.wr_ard ..⟩
theorem Leaves.wrI {b : Nat} {v : Int} (hb : ¬A b) : Leaves A s0 (s.wrI b v) := h.wr hb
theorem Leaves.put {b v : Nat} {f : Fld} (hb : ¬A b) : Leaves A s0 (s.put b f v) := h.wr hb
theorem Leaves.putB {b : Nat} {f : Fld} {v : Bool} (hb : ¬A b) : Leaves A s0 (s.putB b f v) := h.wr hb
theorem Leaves.setf {b : Nat} {f : Fld} (hb : ¬A b) : Leaves A s0 (s.setf b f) := h.wr hb
theorem Leaves.clrf {b : Nat} {f : Fld} (hb : ¬A b) : Leaves A s0 (s.clrf b f) := h.wr hb
theorem Leaves.count {b : Nat} {f : Fld} (hb : ¬A b) : Leaves A s0 (s.count b f) := h.wr hb

theorem Leaves.awr {b : Nat} {v : Word} (hb : ¬A b) : Leaves A s0 (s.awr b v) :=
  h.trans ⟨awr_canonical, fun _ _ _ => rfl, fun hc _ ha => (ard_awr (canonical_act hc)).trans (if_neg (ne_of_apply_ne A fun hab => hb (hab ▸ ha)))⟩

theorem Leaves.foldl {α : Type} {l : List α} {f : State → α → State} (hf : ∀ t, ∀ x ∈ l, Leaves A s0 t → Leaves A s0 (f t x)) :
    Leaves A s0 (l.foldl f s) := by
  exact List.foldlRecOn l f h fun t ht x hx => hf t x hx ht

theorem Leaves.forEach {l : List Nat} {f : State → Nat → State} (hf : ∀ t, ∀ x ∈ l, Leaves A s0 t → Leaves A s0 (f t x)) :
    Leaves A s0 (s.forEach l f) := h.foldl hf

end

/-! ### What the ports and the compare outputs write (R78, R93, R94, R153) -/

/-- The words of `A` lie at or above the registers of the axes. -/
def FromAxes (A : Nat → Prop) : Prop := ∀ a, A a → 0xD0000 ≤ a

theorem staged_lt {p : Nat} (hp : p < 40) : ∀ a ∈ staged p, a < 0xD0000 := by
  simp only [staged, List.mem_cons, List.not_mem_nil, or_false]
  unfold EP_FILT EP_WIN EP_STILL EP_IDX
  omega

section
variable {A : Nat → Prop} {s0 s : State} (h : Leaves A s0 s) (hA : FromAxes A)
include h

theorem Leaves.event {k : EventKind} {u : Nat} {v : Int} : Leaves A s0 (s.event k u v) := h.keeps (keeps_State_event rfl (Keeps.refl s))
theorem Leaves.modCompare {n : Nat} {f : CompareSt → CompareSt} : Leaves A s0 (s.modCompare n f) :=
  h.keeps (keeps_State_modCompare rfl (Keeps.refl s))
theorem Leaves.coNext {n t : Nat} : Leaves A s0 (s.coNext n t) := h.modCompare

include hA

/-- A word below the registers of the axes. -/
theorem Leaves.putLow {b v : Nat} {f : Fld} (hb : b < 0xD0000) : Leaves A s0 (s.put b f v) := h.put fun ha => absurd (hA b ha) (not_le.2 hb)
theorem Leaves.wrLow {b : Nat} {v : Word} (hb : b < 0xD0000) : Leaves A s0 (s.wr b v) := h.wr fun ha => absurd (hA b ha) (not_le.2 hb)

variable {p n : Nat}

theorem Leaves.coDisarm (hn : n < 16) : Leaves A s0 (s.coDisarm n) :=
  (h.putLow hA (by unfold CO_STAT; omega)).modCompare

theorem Leaves.coSrcValid : Leaves A s0 (s.coSrcValid p) :=
  h.forEach fun t n hn ht => ite_of (ht.putLow hA (by have := List.mem_range.1 hn; unfold CO_STAT; omega)) ht

theorem Leaves.portInvalid (hp : p < 40) : Leaves A s0 (s.portInvalid p) :=
  (h.putLow hA (by unfold EP_STAT; omega)).coSrcValid hA

theorem Leaves.coFire (hn : n < 16) {t : Nat} : Leaves A s0 (s.coFire n t) := by
  unfold State.coFire
  extract_lets e w0 w s1
  have h1 : Leaves A s0 s1 := ite_of (h.putLow hA (by unfold CO_STAT; omega)) h
  exact (h1.wrLow hA (by unfold CO_FIRED; omega)).modCompare

theorem Leaves.coLoad (hn : n < 16) {t fuel : Nat} {idx : Nat} : Leaves A s0 (State.coLoad n t fuel s idx) := by
  have hstat : CO_STAT n < 0xD0000 := by unfold CO_STAT; omega
  induction fuel generalizing s idx with
  | zero => exact h.coDisarm hA hn
  | succ fuel ih =>
    unfold State.coLoad
    refine ite_of (h.coDisarm hA hn) (ite_of (ite_of ?wrap ((h.coDisarm hA hn).putLow hA hstat)) (ite_of (ih (h.putLow hA hstat)) ?armed))
    case wrap => exact ih (h.wrLow hA (by unfold CO_CYC; omega)).modCompare
    case armed => exact ((h.wrLow hA (by unfold CO_PTR; omega)).putLow hA hstat).modCompare

theorem Leaves.coCheck (hn : n < 16) {t : Nat} {read : Bool} {count : Int} : Leaves A s0 (s.coCheck n t read count) := by
  have hstat : CO_STAT n < 0xD0000 := by unfold CO_STAT; omega
  unfold State.coCheck
  extract_lets s1
  have h1 : Leaves A s0 s1 := h.modCompare
  clear_value s1
  split
  · exact h1
  · extract_lets s2 c hit s3 s4
    have h2 : Leaves A s0 s2 := ite_of (h1.coLoad hA hn) h1
    have h3 : Leaves A s0 s3 := h2.modCompare
    have h4 : Leaves A s0 s4 := h3.putLow hA hstat
    exact ite_of h2 (ite_of (((h2.coFire hA hn).putLow hA hstat).coNext) (ite_of (ite_of (((h4.coFire hA hn).putLow hA hstat).coNext) h4) h3))

theorem Leaves.coSettle (hn : n < 16) {t fuel : Nat} {count : Int} : Leaves A s0 (State.coSettle n t count fuel s) := by
  induction fuel generalizing s with
  | zero => exact h
  | succ fuel ih =>
    unfold State.coSettle
    split
    · exact ite_of (ih ((h.coFire hA hn).coNext)) h
    · exact ite_of (ih (h.coCheck hA hn)) h
    · exact h

theorem Leaves.coPort : Leaves A s0 (s.coPort p) :=
  h.forEach fun _ _ hn ht => ite_of (ht.coSettle hA (List.mem_range.1 hn)).modCompare ht

theorem Leaves.speedWindow (hp : p < 40) {t : Nat} : Leaves A s0 (s.speedWindow p t) := by
  have hstat : EP_STAT p < 0xD0000 := by unfold EP_STAT; omega
  unfold State.speedWindow
  extract_lets e win still start all ws net first last run up prevInt elapsed speed s1 s2 s3 lim errs
  have h1 : Leaves A s0 s1 := (((h.wrLow hA (by unfold EP_EDGES; omega)).wrLow hA (by unfold EP_TFIRST; omega)).wrLow hA
    (by unfold EP_TLAST; omega)).wrLow hA (by unfold EP_SPEED; omega)
  have h2 : Leaves A s0 s2 := (h1.putLow hA hstat).putLow hA hstat
  have h3 : Leaves A s0 s3 := ite_of (h2.putLow hA hstat) h2
  exact ite_of (h3.portInvalid hA hp).event h3

theorem Leaves.portTake (hp : p < 40) {t : Nat} : Leaves A s0 (s.portTake p t) := by
  unfold State.portTake
  refine ite_of ?_ h
  extract_lets st s1 s2 v ts
  have h1 : Leaves A s0 s1 := ((h.wrLow hA (by unfold EP_POS; omega)).wrLow hA (by unfold EP_POS; omega)).wrLow hA (by unfold EP_PSTAMP; omega)
  have h2 : Leaves A s0 s2 := ite_of h1 (h1.speedWindow hA hp)
  exact h2.keeps (keeps_State_modPort rfl (Keeps.refl _))

theorem Leaves.presetApply (hp : p < 40) {t : Nat} : Leaves A s0 (s.presetApply p t) := by
  unfold State.presetApply
  refine ite_of ?_ h
  extract_lets s1 e later v
  have h1 : Leaves A s0 s1 := h.coPort hA
  have hset : Leaves A s0 (s1.putB (EP_STAT p) EP_STAT_REFD (s1.rdN (EP_CPR p) == 0)) := h1.putLow hA (by unfold EP_STAT; omega)
  exact hset.keeps <| keeps_State_resolve rfl (keeps_State_devPreset rfl (keeps_State_coCountJump rfl (keeps_State_modPort rfl (Keeps.refl _))))

theorem Leaves.portSettings (hp : p < 40) {t : Nat} : Leaves A s0 (s.portSettings p t) := by
  refine h.foldl fun u a ha hu => ?_
  have hout : ¬A a := fun hin => absurd (hA a hin) (not_le.2 (staged_lt hp a ha))
  split
  · exact hu.awr hout
  · exact hu.awr hout

end

/-! ### What line shafts, the planner and APPLY write (R115, R133, R134, R195) -/

theorem lt_of_mem_followers {s : State} {k n : Nat} (hn : n ∈ s.followers k) : n < 80 := by
  unfold State.followers idxWhere at hn
  exact List.mem_range.1 (List.mem_of_mem_filter hn)

section
variable {A : Nat → Prop} {s0 s : State} (h : Leaves A s0 s)
include h

theorem Leaves.group (hA : FromAxes A) {g : Nat} (hg : g < 32) : Leaves A s0 (s.group g) := by
  unfold State.group
  extract_lets ev s1
  have h1 : Leaves A s0 s1 := h.wrLow hA (by decide)
  refine ite_of ?_ h1
  unfold State.raiseVector
  refine ite_of (h1.wrLow hA ?_) (h1.keeps (Keeps.up_vectors rfl (Keeps.refl _)))
  unfold MSIXPBA_PBA
  omega

theorem Leaves.lpNotice {n : Nat} {k : EventKind} : Leaves A s0 (s.lpNotice n k) := h.keeps (keeps_State_lpNotice rfl (Keeps.refl s))
theorem Leaves.modMo {n : Nat} {f : AxMo → AxMo} : Leaves A s0 (s.modMo n f) := h.keeps (keeps_State_modMo rfl (Keeps.refl s))
theorem Leaves.modShaft {n : Nat} {f : LsSt → LsSt} : Leaves A s0 (s.modShaft n f) := h.keeps (keeps_State_modShaft rfl (Keeps.refl s))
theorem Leaves.modPlan {n : Nat} {f : GrpPlan → GrpPlan} : Leaves A s0 (s.modPlan n f) := h.keeps (keeps_State_modPlan rfl (Keeps.refl s))
theorem Leaves.modLoop {n : Nat} {f : AxLoop → AxLoop} : Leaves A s0 (s.modLoop n f) := h.keeps (keeps_State_modLoop rfl (Keeps.refl s))
theorem Leaves.finishAny {tag : Option Nat} {st : Status} {r : Nat} : Leaves A s0 (s.finishAny tag st r) :=
  h.keeps (keeps_State_finishAny rfl (Keeps.refl s))
theorem Leaves.resolve {k : WaitKind} {u r0 r1 r2 : Nat} {st : Status} {d : List Byte} : Leaves A s0 (s.resolve k u st r0 r1 r2 d) :=
  h.keeps (keeps_State_resolve rfl (Keeps.refl s))

theorem Leaves.duskCheck (hA : FromAxes A) : Leaves A s0 s.duskCheck := by
  unfold State.duskCheck
  exact ite_of (h.putLow hA (by decide)) h

/-- A master's continuation and its report (R134). -/
theorem Leaves.shaftLose (hA : FromAxes A) {k : Nat} {m : MState} {td : Nat} (hls : ¬A (LS_STAT k)) (hax : ∀ n < 80, ¬A (AX_STAT n)) :
    Leaves A s0 (s.shaftLose k m td) := by
  unfold State.shaftLose
  extract_lets x s1
  have h1 : Leaves A s0 s1 := (h.setf hls).modShaft
  have h2 := h1.forEach (l := s1.followers k) (f := fun s n =>
    (((s.setf (AX_STAT n) AX_STAT_MLOST).setf (AX_STAT n) AX_STAT_MSYNC_STOP).setf (AX_STAT n) AX_STAT_DUSK).lpNotice n .shaftLost)
    fun t n hn ht => by
      have hstat : ¬A (AX_STAT n) := hax n (lt_of_mem_followers hn)
      exact (((ht.setf hstat).setf hstat).setf hstat).lpNotice
  exact (h2.event.group hA (by decide)).group hA (by decide)

/-- The lag of a shaft at a frame boundary (R133). -/
theorem Leaves.shaftFrame (hA : FromAxes A) {k : Nat} (hstat : ¬A (LS_STAT k)) (hcnt : ¬A (LS_CNT k)) (hax : ∀ n < 80, ¬A (AX_STAT n))
    (haxc : ∀ n < 80, ¬A (AX_CNT n)) : Leaves A s0 (s.shaftFrame k) := by
  unfold State.shaftFrame
  extract_lets -merge -useContext -underBinder l s1 b lagOf earlier
  refine ite_of h ?_
  have h1 : Leaves A s0 s1 := h.modShaft
  clear_value s1
  split
  · exact h1
  · extract_lets -merge -useContext -underBinder lost m lag s2 first s3 s4
    have h2 : Leaves A s0 s2 := h1.put hstat
    have h3 : Leaves A s0 s3 := (h2.setf hstat).count hcnt
    have h4 : Leaves A s0 s4 := ite_of (h3.event.group hA (by decide)) h3
    refine ite_of h2 (ite_of (h2.shaftLose hA hstat hax) (ite_of (ite_of (h2.clrf hstat) h2) (ite_of (h4.shaftLose hA hstat hax) ?_)))
    exact h4.forEach fun t n hn ht => ht.count (haxc n (lt_of_mem_followers hn))

variable {n : Nat} (hseg : ∀ n, ¬A (AX_SEGQ n)) (hax : ∀ n, ¬A (AX_STAT n))
include hseg hax

theorem Leaves.segRegs : Leaves A s0 (s.segRegs n) := by
  unfold State.segRegs
  extract_lets m s1 s2
  have h1 : Leaves A s0 s1 := h.put (hseg n)
  have h2 : Leaves A s0 s2 := by
    unfold s2
    split
    · exact ite_of (h1.put (hseg n)) h1
    · exact h1
  exact h2.putB (hax n)

theorem Leaves.addSegs {l : List Seg} : Leaves A s0 (s.addSegs n l) := h.modMo.modMo.segRegs hseg hax

theorem Leaves.standTo {f : Nat} : Leaves A s0 (s.standTo n f) := by
  unfold State.standTo
  split
  · exact ite_of (h.addSegs hseg hax) h
  · exact h

theorem Leaves.planCommit {g : Nat} : Leaves A s0 (s.planCommit g) := by
  unfold State.planCommit
  extract_lets -merge -useContext -underBinder pl
  split
  · exact h
  · extract_lets -merge -useContext -underBinder L ms s1 fresh h' f hs v0 win v1 law T t0 k pts e ctl m s2 s3
    have h1 : Leaves A s0 s1 := h.modPlan
    have h2 : Leaves A s0 s2 := h1.foldl fun t i _ ht => ((ht.standTo hseg hax).modMo).addSegs hseg hax
    have h3 : Leaves A s0 s3 := h2.modPlan
    exact ite_of h1.finishAny (ite_of h3.finishAny (h3.keeps (keeps_State_moveQueued rfl (Keeps.refl _))))

theorem Leaves.planTick : Leaves A s0 s.planTick := by
  unfold State.planTick
  refine ite_of h ?_
  extract_lets s1
  have h1 : Leaves A s0 s1 := h.forEach fun t n _ ht => ht.modMo.segRegs hseg hax
  exact h1.forEach fun t g _ ht => ht.foldl fun u i _ hu => ite_of (hu.planCommit hseg hax) hu

end

/-- The captured set of axis `n` takes effect (R195). -/
theorem Leaves.loopApplyAt {A : Nat → Prop} {s0 s : State} (h : Leaves A s0 s) {n t : Nat} (hstat : ¬A (AXL_LSTAT n)) (hwords : ∀ a ∈ loopWords n, ¬A a) :
    Leaves A s0 (s.loopApplyAt n t) := by
  unfold State.loopApplyAt
  split
  · exact h
  · refine ite_of h ?_
    extract_lets -merge -useContext -underBinder oldBq s1 newBq
    have h1 : Leaves A s0 s1 := h.foldl fun u p hp hu => hu.awr (hwords p.1 (List.of_mem_zip hp).1)
    clear_value s1
    split
    extract_lets -merge -useContext -underBinder rport noRef s3 s4 noCpr nt s5 ip iv
    have h3 : Leaves A s0 s3 := ite_of (h1.setf hstat) h1
    have h4 : Leaves A s0 s4 := ite_of (h3.setf hstat) h3
    have h5 : Leaves A s0 s5 := ite_of (h4.setf hstat) h4
    exact (h5.clrf hstat).modLoop.resolve

end Sys2Proof.Machine
end

section
/-! PROOFS. The effect of APPLY (R195): the captured set from the command to the boundary, the boundary, and the words in effect after it. -/

namespace Sys2Proof.Machine

/-! ### The effect of APPLY (R195) -/

/-- The words of the loop registers of axis `n`: its staged parameters and its status. -/
def LoopBlock (n : Nat) (a : Nat) : Prop := 0xD0100 + 0x200 * n ≤ a ∧ a < 0xD0200 + 0x200 * n

theorem loopBlock_lstat (n : Nat) : LoopBlock n (AXL_LSTAT n) := by
  unfold LoopBlock AXL_LSTAT
  omega

theorem loopBlock_of_mem_loopWords {n a : Nat} (ha : a ∈ loopWords n) : LoopBlock n a := by
  unfold loopWords at ha
  obtain ⟨i, hi, rfl⟩ := List.mem_map.1 (List.mem_of_mem_filter ha)
  have := List.mem_range.1 hi
  unfold LoopBlock AXL_LCFG
  omega

theorem fromAxes_loopBlock (n : Nat) : FromAxes (LoopBlock n) := by
  rintro a ⟨ha, -⟩
  omega

/-- The blocks of two axes have no word in common. -/
theorem not_loopBlock {n m a : Nat} (hnm : m ≠ n) (ha : LoopBlock m a) : ¬LoopBlock n a := by
  unfold LoopBlock at ha ⊢
  omega

/-- From `s` to `t` the loop registers of axis `n` hold what they held, and so does the set that an APPLY of the axis has captured. -/
structure LeavesLoop (n : Nat) (s t : State) : Prop where
  words : Leaves (LoopBlock n) s t
  capAt : (t.loop n).capAt = (s.loop n).capAt
  cap : (t.loop n).cap = (s.loop n).cap

theorem LeavesLoop.trans {n : Nat} {s t u : State} (h : LeavesLoop n s t) (k : LeavesLoop n t u) : LeavesLoop n s u :=
  ⟨h.words.trans k.words, k.capAt.trans h.capAt, k.cap.trans h.cap⟩

theorem LeavesLoop.refl {n : Nat} (s : State) : LeavesLoop n s s := ⟨.refl s, rfl, rfl⟩

/-- An operation outside the loops. -/
theorem Leaves.leavesLoop {n : Nat} {s t : State} (h : Leaves (LoopBlock n) s t) (k : Keeps (maskBut [.loops]) s t) : LeavesLoop n s t := by
  have hloop : t.loop n = s.loop n := by rw [State.loop, show t.loops = s.loops from k.same .loops rfl, State.loop]
  exact ⟨h, by rw [hloop], by rw [hloop]⟩

/-- An operation outside the loops and the registers. -/
theorem Keeps.leavesLoop {n : Nat} {s t : State} (k : Keeps (maskBut [.loops, .regs, .act]) s t) : LeavesLoop n s t := by
  have hregs : Keeps (maskBut [.regs, .act]) s t := k.wider rfl
  exact hregs.leaves.leavesLoop (k.wider rfl)

/-- An update of an axis's loop that leaves what is captured. -/
theorem leavesLoop_modLoop {n m : Nat} {s : State} {f : AxLoop → AxLoop} (hf : ∀ l, (f l).capAt = l.capAt ∧ (f l).cap = l.cap) :
    LeavesLoop n s (s.modLoop m f) := by
  have hsame : ((s.modLoop m f).loop n).capAt = (s.loop n).capAt ∧ ((s.modLoop m f).loop n).cap = (s.loop n).cap := by
    by_cases hnm : n = m
    · subst hnm
      by_cases hn : n < 80
      · rw [loop_modLoop_same hn]
        exact hf _
      · simp [State.modLoop, vmod, hn]
    · rw [show (s.modLoop m f).loop n = s.loop n from vget_vmod_ne hnm]
      exact ⟨rfl, rfl⟩
  exact ⟨(Leaves.refl s).modLoop, hsame.1, hsame.2⟩

theorem LeavesLoop.forEach {n : Nat} {s : State} {l : List Nat} {f : State → Nat → State} (hf : ∀ t, ∀ x ∈ l, LeavesLoop n t (f t x)) :
    LeavesLoop n s (s.forEach l f) := by
  exact List.foldlRecOn l f (.refl s) fun t ht x hx => ht.trans (hf t x hx)

/-- An APPLY of axis `n` in tick `t0` has captured the words that `f` gives, and has not taken effect. -/
structure Captured (n t0 : Nat) (f : Nat → Word) (s : State) : Prop where
  canon : s.canonical = true
  capAt : (s.loop n).capAt = some t0
  cap : (s.loop n).cap = (loopWords n).map f

/-- The words that `f` gives are in effect for axis `n`, and no APPLY of it is pending. -/
structure InEffect (n : Nat) (f : Nat → Word) (s : State) : Prop where
  canon : s.canonical = true
  idle : (s.loop n).capAt = none
  pend : s.flag (AXL_LSTAT n) AXL_LSTAT_APPLYPEND = false
  words : ∀ a ∈ loopWords n, s.ard a = f a

section
variable {n t0 : Nat} {f : Nat → Word} {s t : State}

theorem Captured.leaves (h : Captured n t0 f s) (k : LeavesLoop n s t) : Captured n t0 f t :=
  ⟨k.words.canon h.canon, k.capAt.trans h.capAt, k.cap.trans h.cap⟩

/-- Whatever the registers are. -/
theorem Captured.keeps (h : Captured n t0 f s) (k : Keeps (maskBut [.loops]) s t) : Captured n t0 f t := by
  have hloop : t.loop n = s.loop n := by rw [State.loop, show t.loops = s.loops from k.same .loops rfl, State.loop]
  exact ⟨k.canon h.canon, hloop ▸ h.capAt, hloop ▸ h.cap⟩

theorem InEffect.leaves (h : InEffect n f s) (k : LeavesLoop n s t) : InEffect n f t :=
  ⟨k.words.canon h.canon, k.capAt.trans h.idle, (k.words.flag h.canon (loopBlock_lstat n) _).trans h.pend,
    fun a ha => (k.words.ard h.canon a (loopBlock_of_mem_loopWords ha)).trans (h.words a ha)⟩

/-- The captured words in effect, one after the other. -/
theorem foldl_awr_map {l : List Nat} (hc : s.canonical = true) (f : Nat → Word) :
    (l.foldl (fun s a => s.awr a (f a)) s).canonical = true ∧
    ∀ a, (l.foldl (fun s a => s.awr a (f a)) s).ard a = if a ∈ l then f a else s.ard a := by
  induction l generalizing s with
  | nil => exact ⟨hc, fun a => by simp⟩
  | cons x l ih =>
    obtain ⟨hcanon, hard⟩ := ih (s := s.awr x (f x)) (awr_canonical hc)
    refine ⟨hcanon, fun a => (hard a).trans ?_⟩
    rw [ard_awr (canonical_act hc)]
    by_cases hl : a ∈ l
    · simp [hl]
    · by_cases hx : a = x
      · simp [hx]
      · simp [hl, hx]

/-- The captured set takes effect at a boundary at least 16 ticks after the APPLY. -/
theorem Captured.loopApplyAt (h : Captured n t0 f s) (hn : n < 80) {b : Nat} (hb : t0 + 16 ≤ b) : InEffect n f (s.loopApplyAt n b) := by
  unfold State.loopApplyAt
  split
  case h_1 hnone => cases hnone.symm.trans h.capAt
  rename_i t1 hsome
  cases hsome.symm.trans h.capAt
  rw [if_neg (not_lt.2 hb)]
  extract_lets -merge -useContext -underBinder oldBq s1 newBq
  have hfold : s1 = (loopWords n).foldl (fun s a => s.awr a (f a)) s := by
    have hzip : (loopWords n).zip (s.loop n).cap = (loopWords n).map fun a => (a, f a) := by
      rw [h.cap, List.zip, List.zipWith_map_right, List.zipWith_self]
    rw [show s1 = ((loopWords n).zip (s.loop n).cap).foldl (fun s p => s.awr p.1 p.2) s from rfl, hzip, List.foldl_map]
  obtain ⟨hcanon, hard⟩ := foldl_awr_map (l := loopWords n) h.canon f
  rw [← hfold] at hcanon hard
  clear_value s1
  split
  extract_lets -merge -useContext -underBinder rport noRef s3 s4 noCpr nt s5 ip iv
  have h3 : Keeps (maskBut [.act]) s1 s3 := ite_of (keeps_State_setf rfl (Keeps.refl _)) (Keeps.refl _)
  have h4 : Keeps (maskBut [.act]) s1 s4 := ite_of (keeps_State_setf rfl h3) h3
  have h5 : Keeps (maskBut [.act]) s1 s5 := ite_of (keeps_State_setf rfl h4) h4
  clear_value s3 s4 s5
  have hcanon5 : s5.canonical = true := h5.canon hcanon
  refine InEffect.leaves (s := (s5.clrf (AXL_LSTAT n) AXL_LSTAT_APPLYPEND).modLoop n _) ?_ (keeps_State_resolve rfl (Keeps.refl _)).leavesLoop
  refine ⟨(Leaves.refl (A := LoopBlock n) _).modLoop.canon (clrf_canonical hcanon5), by rw [loop_modLoop_same hn], flag_clrf hcanon5 (by decide),
    fun a ha => ?_⟩
  rw [← (hard a).trans (if_pos ha)]
  show spGet regReset s5.act a = spGet regReset s1.act a
  rw [h5.same .act rfl]

end

/-! ### APPLY at a position boundary -/

section
variable {n p t : Nat}

/-- A port takes its words at a boundary, and what follows from it there. -/
theorem portTake_leavesLoop (hp : p < 40) (s : State) : LeavesLoop n s (s.portTake p t) :=
  ((Leaves.refl s).portTake (fromAxes_loopBlock n) hp).leavesLoop (keeps_State_portTake rfl (Keeps.refl s))

/-- A preset of a port changes the references of the feedback deviation (R177), and nothing else of a loop. -/
theorem devPreset_leavesLoop (s : State) : LeavesLoop n s (s.devPreset p t) :=
  LeavesLoop.forEach fun _ _ _ => leavesLoop_modLoop fun _ => ⟨rfl, rfl⟩

theorem presetApply_leavesLoop (hp : p < 40) (s : State) : LeavesLoop n s (s.presetApply p t) := by
  have hwords : Leaves (LoopBlock n) s (s.presetApply p t) := (Leaves.refl s).presetApply (fromAxes_loopBlock n) hp
  suffices hsame : ((s.presetApply p t).loop n).capAt = (s.loop n).capAt ∧ ((s.presetApply p t).loop n).cap = (s.loop n).cap from
    ⟨hwords, hsame.1, hsame.2⟩
  unfold State.presetApply
  split
  case isFalse => exact ⟨rfl, rfl⟩
  extract_lets s1 e later v
  set s2 := ((s1.putB (EP_STAT p) EP_STAT_REFD (s1.rdN (EP_CPR p) == 0)).modPort p _).coCountJump p with hs2
  have h2 : Keeps (maskBut [.loops]) s s2 := by
    rw [hs2]
    exact keeps_State_coCountJump rfl (keeps_State_modPort rfl (keeps_State_putB rfl (keeps_State_coPort rfl (Keeps.refl s))))
  have h3 : LeavesLoop n s2 ((s2.devPreset p (32 * (t / 32 + 1))).resolve .portLoad p .ok) :=
    (devPreset_leavesLoop s2).trans (keeps_State_resolve rfl (Keeps.refl _)).leavesLoop
  have hloop : s2.loop n = s.loop n := by rw [State.loop, show s2.loops = s.loops from h2.same .loops rfl, State.loop]
  rw [← hloop]
  exact ⟨h3.capAt, h3.cap⟩

theorem portAfter_leavesLoop (hp : p < 40) (s : State) : LeavesLoop n s (s.portAfter p t) := by
  have hpreset : LeavesLoop n s (if s.portOn p then s.presetApply p t else s) := ite_of (presetApply_leavesLoop hp s) (.refl s)
  exact hpreset.trans (((Leaves.refl _).portSettings (fromAxes_loopBlock n) hp).leavesLoop (keeps_State_portSettings rfl (Keeps.refl _)))

end

theorem lt_of_mem_portsAt {s : State} {n e : Nat} {p : Nat → Bool} (he : e ∈ s.portsAt n p) : e < 40 := by
  unfold State.portsAt idxWhere at he
  exact List.mem_range.1 (List.mem_of_mem_filter he)

/-- The fields of an axis's grid that give its periods (R49). -/
def GridSt.periods (g : GridSt) : Nat × Nat × Nat × Nat := (g.a, g.b, g.c, g.phase)

theorem gridOk_congr {s t : State} {n : Nat} (htime : t.time = s.time) (hgrid : (t.grid n).periods = (s.grid n).periods) :
    t.gridOk n = s.gridOk n := by
  simp only [GridSt.periods, Prod.mk.injEq] at hgrid
  obtain ⟨ha, hb, hc, hphase⟩ := hgrid
  have hlen : t.frameLen = s.frameLen := by rw [State.frameLen, htime, State.frameLen]
  dsimp only [State.gridOk]
  rw [hlen, ha, hb, hc, hphase]

theorem posCells_congr {s t : State} {n : Nat} (htime : t.time = s.time) (hgrid : (t.grid n).periods = (s.grid n).periods) :
    t.posCells n = s.posCells n := by
  have hok : t.gridOk n = s.gridOk n := gridOk_congr htime hgrid
  simp only [GridSt.periods, Prod.mk.injEq] at hgrid
  obtain ⟨-, hb, hc, -⟩ := hgrid
  rw [State.posCells, hok, hb, hc, State.posCells]

theorem posCells_dvd_cells (s : State) {n : Nat} (hn : n < 32) : s.posCells n ∣ (s.cells n).2 := by
  unfold State.posCells State.cells
  by_cases hok : s.gridOk n = true
  · rw [if_pos (by simp [hn, hok]), if_pos (by simp [hn, hok]), mul_assoc]
    exact dvd_mul_left ..
  · simp [hok]

theorem cells_pos (s : State) {n : Nat} (hn : n < 32) : 0 < (s.cells n).2 := by
  unfold State.cells
  by_cases hok : s.gridOk n = true
  · have hnz : (s.grid n).a ≠ 0 ∧ (s.grid n).b ≠ 0 ∧ (s.grid n).c ≠ 0 := by
      simp only [State.gridOk, if_pos hn, Bool.and_eq_true, decide_eq_true_eq] at hok
      tauto
    rw [if_pos (by simp [hn, hok])]
    have := Nat.mul_ne_zero (Nat.mul_ne_zero hnz.1 hnz.2.1) hnz.2.2
    omega
  · simp [hok, show ¬64 ≤ n by omega]

/-- The next position boundary lies on a multiple of the position period (R49). -/
theorem nextBoundary_posCells (s : State) {n : Nat} (hn : n < 32) :
    (s.nextBoundary n (s.posCells n)).2.1 % max 1 (s.posCells n) = 0 := by
  have hpos : 0 < s.posCells n := Nat.pos_of_dvd_of_pos (posCells_dvd_cells s hn) (cells_pos s hn)
  have hdvd := posCells_dvd_cells s hn
  have hK := cells_pos s hn
  unfold State.nextBoundary
  generalize hc : s.cells n = cs at *
  obtain ⟨p, K⟩ := cs
  rw [max_eq_right hpos]
  dsimp only at hdvd hK ⊢
  rw [max_eq_right (show 1 ≤ K from hK)]
  have hq : ∀ q, q * s.posCells n % K % s.posCells n = 0 := fun q => (Nat.mod_mod_of_dvd _ hdvd).trans (Nat.mul_mod_left ..)
  split
  · split
    · exact Nat.mul_mod_left ..
    · exact hq _
  · generalize (if (s.grid n).fr = s.time.frameNum then s.time.frameNext else (s.grid n).fr + 1) = fr
    split
    · exact Nat.zero_mod _
    · exact hq _

theorem periods_modGrid {s : State} {n m : Nat} {f : GridSt → GridSt} (hf : ∀ g, (f g).periods = g.periods) :
    ((s.modGrid n f).grid m).periods = (s.grid m).periods := by
  by_cases hnm : m = n
  · subst hnm
    by_cases hm : m < 80
    · rw [grid_modGrid_same f hm, hf]
    · simp [State.modGrid, vmod, hm]
  · rw [show (s.modGrid n f).grid m = s.grid m from vget_vmod_ne hnm]

/-- From `s` to `t` the position period of axis `n` is the same. -/
def SamePeriods (n : Nat) (s t : State) : Prop := t.time = s.time ∧ (t.grid n).periods = (s.grid n).periods

theorem SamePeriods.joinRun {n : Nat} {s t : State} {r : RunReq} (h : SamePeriods n s t) : SamePeriods n s (t.joinRun r) := by
  have hk : Keeps 1104313063425 t (t.joinRun r) := keeps_State_joinRun rfl (Keeps.refl t)
  obtain ⟨htime, hgrid⟩ := h
  exact ⟨(hk.same .time rfl).trans htime, by rw [State.grid, show (t.joinRun r).grids = t.grids from hk.same .grids rfl]; exact hgrid⟩

/-- The laws that join before a boundary leave the grids' periods. -/
theorem posCells_joined (s : State) (n : Nat) : ((s.joinPos n).joinVel n).posCells n = s.posCells n := by
  have hpos : SamePeriods n s (s.joinPos n) := by
    unfold State.joinPos
    have h1 : SamePeriods n s (s.modGrid n fun g => { g with posDue := false }) := ⟨rfl, periods_modGrid fun _ => rfl⟩
    exact ite_of ⟨rfl, rfl⟩ (ite_of h1.joinRun h1)
  have hvel : ∀ t : State, SamePeriods n t (t.joinVel n) := fun t => by
    unfold State.joinVel
    have h1 : SamePeriods n t (t.modGrid n fun g => { g with velDue := false }) := ⟨rfl, periods_modGrid fun _ => rfl⟩
    exact ite_of ⟨rfl, rfl⟩ h1.joinRun
  rw [posCells_congr (hvel _).1 (hvel _).2, posCells_congr hpos.1 hpos.2]

/-- What an APPLY has captured takes effect at the axis's next position boundary (R195). -/
theorem inEffect_axisBoundary {s : State} {n t0 : Nat} {f : Nat → Word} (h : Captured n t0 f s) (hn : n < 32) (hrun : s.pw.phase = .running)
    (hfr : (s.nextBoundary n (s.posCells n)).1 ≤ s.time.frameNum) (hb : 32 * (t0 + 16) ≤ (s.nextBoundary n (s.posCells n)).2.2.1) :
    InEffect n f (s.axisBoundary n (s.posCells n)) := by
  have hmul := nextBoundary_posCells s hn
  unfold State.axisBoundary
  split
  rename_i fr k t slip hN
  rw [hN] at hfr hb hmul
  rw [if_neg (by simpa [hrun] using hfr)]
  extract_lets s0 vel pos s1 S second aux pwm0 pwm1 pwm2 s2 here s2b s3 s4 s5
  have hpos : pos := by
    unfold pos
    rw [posCells_joined]
    exact hmul
  have h2 : Keeps (maskBut [.loops]) s s2 := by
    have h0 : Keeps (maskBut [.loops]) s s0 := keeps_State_joinVel rfl (keeps_State_joinPos rfl (Keeps.refl _))
    have h1 : Keeps (maskBut [.loops]) s s1 := keeps_State_slip rfl (keeps_State_modGrid rfl (keeps_State_advanceTo rfl h0))
    have hp0 : Keeps (maskBut [.loops]) s pwm0 := keeps_State_pwmBoundary rfl h1
    have hp1 : Keeps (maskBut [.loops]) s pwm1 := ite_of hp0 (keeps_State_capTick rfl hp0)
    have hp2 : Keeps (maskBut [.loops]) s pwm2 := hp1.forEach fun _ _ h => keeps_State_capTick rfl (keeps_State_pwmBoundary rfl h)
    exact ite_of (keeps_State_capTick rfl (keeps_State_placeWindow rfl hp2)) h1
  have h2b : InEffect n f s2b := by
    rw [show s2b = s2.loopApplyAt n (t / 32) from if_pos (by simp [hpos, hn])]
    exact (h.keeps h2).loopApplyAt (by omega) (by dsimp only at hb; omega)
  have h3 : InEffect n f s3 := h2b.leaves (.forEach fun u _ he => portTake_leavesLoop (lt_of_mem_portsAt he) u)
  have h4 : InEffect n f s4 := by
    refine ite_of (h3.leaves ?_) h3
    have hcap : LeavesLoop n s3 (if n < 64 then s3.captureVel n t else s3) := ite_of (leavesLoop_modLoop fun _ => ⟨rfl, rfl⟩) (.refl _)
    exact hcap.trans (keeps_State_capTick rfl (keeps_State_modGrid rfl (Keeps.refl _))).leavesLoop
  have h5 : InEffect n f s5 := by
    refine ite_of (h4.leaves ?_) h4
    have hcap : LeavesLoop n s4 (if n < 64 then s4.capturePos n t else s4.modLoop n fun l => { l with inp := { b := t } }) :=
      ite_of (leavesLoop_modLoop fun _ => ⟨rfl, rfl⟩) (leavesLoop_modLoop fun _ => ⟨rfl, rfl⟩)
    exact hcap.trans (keeps_State_capTick rfl (keeps_State_modGrid rfl (Keeps.refl _))).leavesLoop
  exact h5.leaves (.forEach fun u _ he => portAfter_leavesLoop (lt_of_mem_portsAt he) u)

/-- The first of the two boundaries that an APPLY waits for brings it into effect. -/
theorem loopApplyRow_first {s t : State} {n t0 : Nat} (hcap : (s.loop n).capAt = some t0) (ht : (t.loop n).capAt = none)
    (hfirst : (if 32 ≤ n then s.frameBoundary
      else (if s.time.frameNum < (s.nextBoundary n (s.posCells n)).1 then s.frameBoundary else s).axisBoundary n (s.posCells n)) = t) :
    s.loopApplyRow n = t := by
  unfold State.loopApplyRow
  extract_lets next
  have hs : next s = t := (if_neg (by simp [hcap])).trans hfirst
  rw [hs]
  exact if_pos (by simp [ht])

theorem loopApplyRow_position {s : State} {n t0 : Nat} {f : Nat → Word} (h : Captured n t0 f s) (hn : n < 32) (hrun : s.pw.phase = .running)
    (hfr : (s.nextBoundary n (s.posCells n)).1 ≤ s.time.frameNum) (hb : 32 * (t0 + 16) ≤ (s.nextBoundary n (s.posCells n)).2.2.1) :
    s.loopApplyRow n = s.axisBoundary n (s.posCells n) := by
  refine loopApplyRow_first h.capAt (inEffect_axisBoundary h hn hrun hfr hb).idle ?_
  rw [if_neg (not_le.2 hn), if_neg (not_lt.2 hfr)]

/-! ### APPLY at a frame boundary -/

/-- A fold over distinct indices in which one index turns `P` into `Q` and the others keep both. -/
theorem forEach_turn {P Q : State → Prop} {g : State → Nat → State} {i : Nat} {l : List Nat} (hi : i ∈ l) (hnd : l.Nodup) {s : State} (h : P s)
    (hP : ∀ t, ∀ j ∈ l, j ≠ i → P t → P (g t j)) (hturn : ∀ t, P t → Q (g t i)) (hQ : ∀ t, ∀ j ∈ l, j ≠ i → Q t → Q (g t j)) :
    Q (s.forEach l g) := by
  induction l generalizing s with
  | nil => cases hi
  | cons x l ih =>
    obtain ⟨hx, hnd⟩ := List.nodup_cons.1 hnd
    by_cases hxi : x = i
    · subst hxi
      exact List.foldlRecOn l g (hturn s h) fun t ht j hj => hQ t j (List.mem_cons_of_mem _ hj) (fun hjx => hx (hjx ▸ hj)) ht
    · exact ih ((List.mem_cons.1 hi).resolve_left (Ne.symm hxi)) hnd (hP s x List.mem_cons_self hxi h)
        (fun t j hj => hP t j (List.mem_cons_of_mem _ hj)) fun t j hj => hQ t j (List.mem_cons_of_mem _ hj)

/-- The captured set of one axis leaves the loop of another. -/
theorem loopApplyAt_leavesLoop {n m t : Nat} (hnm : m ≠ n) (s : State) : LeavesLoop n s (s.loopApplyAt m t) := by
  have hwords : Leaves (LoopBlock n) s (s.loopApplyAt m t) :=
    (Leaves.refl s).loopApplyAt (not_loopBlock hnm (loopBlock_lstat m)) fun a ha => not_loopBlock hnm (loopBlock_of_mem_loopWords ha)
  suffices hloop : (s.loopApplyAt m t).loop n = s.loop n from ⟨hwords, by rw [hloop], by rw [hloop]⟩
  unfold State.loopApplyAt
  split
  · rfl
  · split
    · rfl
    · extract_lets -merge -useContext -underBinder oldBq s1 newBq
      have h1 : s1.loops = s.loops := foldl_of (P := fun u : State => u.loops = s.loops) rfl fun _ _ h => h
      clear_value s1
      split
      extract_lets -merge -useContext -underBinder rport noRef s3 s4 noCpr nt s5 ip iv
      have h3 : s3.loops = s.loops := ite_of (P := fun u : State => u.loops = s.loops) h1 h1
      have h4 : s4.loops = s.loops := ite_of (P := fun u : State => u.loops = s.loops) h3 h3
      have h5 : s5.loops = s.loops := ite_of (P := fun u : State => u.loops = s.loops) h4 h4
      clear_value s5
      have hres : ∀ u : State, (u.resolve .apply m .ok).loop n = u.loop n := fun u => by
        rw [State.loop, (keeps_State_resolve (M := maskBut [.loops]) rfl (Keeps.refl u)).same .loops rfl, State.loop]
      have hclr : (s5.clrf (AXL_LSTAT m) AXL_LSTAT_APPLYPEND).loops = s.loops := h5
      exact (hres _).trans ((vget_vmod_ne hnm.symm).trans (by rw [hclr, State.loop]))

theorem portSync_leavesLoop {n p t : Nat} (hp : p < 40) (s : State) : LeavesLoop n s (s.portSync p t) :=
  (portTake_leavesLoop hp s).trans (portAfter_leavesLoop hp _)

theorem shaftFrame_leavesLoop {n k : Nat} (hn : n < 64) (hk : k < 16) (s : State) : LeavesLoop n s (s.shaftFrame k) := by
  refine Leaves.leavesLoop ((Leaves.refl s).shaftFrame (fromAxes_loopBlock n) ?_ ?_ ?_ ?_) (keeps_State_shaftFrame rfl (Keeps.refl s)) <;>
    simp only [LoopBlock, LS_STAT, LS_CNT, AX_STAT, AX_CNT] <;> omega

theorem planTick_leavesLoop {n : Nat} (s : State) : LeavesLoop n s s.planTick := by
  refine Leaves.leavesLoop ((Leaves.refl s).planTick ?_ ?_) (keeps_State_planTick rfl (Keeps.refl s)) <;>
    simp only [LoopBlock, AX_SEGQ, AX_STAT] <;> omega

/-- An overhead run joins a queue without making another late (R56). -/
theorem keeps_enqueue_overhead {s : State} {r : RunReq} (hr : r.kind = .overhead) : Keeps (maskBut [.loops, .regs, .act]) s (s.enqueue r) := by
  unfold State.enqueue
  extract_lets k same m counted s0 s1
  have hcounted : counted = true := by simp [counted, hr]
  have h0 : s0 = s := if_neg (by simp [hcounted])
  have h1 : s1 = s0 := if_neg (by simp [hr])
  rw [h1, h0]
  exact keeps_State_modQueue rfl (Keeps.refl s)

theorem inEffect_frameBoundary {s : State} {n t0 : Nat} {f : Nat → Word} (h : Captured n t0 f s) (hn : 32 ≤ n) (hn64 : n < 64)
    (hrun : s.pw.phase = .running) (hstep : s.time.stepPend = none) (hb : 32 * (t0 + 16) ≤ s.nextFrame.2.1) :
    InEffect n f s.frameBoundary := by
  unfold State.frameBoundary
  rw [if_neg (by simp [hrun])]
  extract_lets s0
  have hs0 : s0 = s := if_neg (by simp [hstep])
  clear_value s0
  subst hs0
  split
  rename_i num t err slip hN
  rw [hN] at hb
  extract_lets s1 src s2 s3 s4 s5 s6 s6b s7 s8 s9
  have h5 : Keeps (maskBut [.loops]) s0 s5 := by
    have h1 : Keeps (maskBut [.loops]) s0 s1 := keeps_State_advanceTo rfl (Keeps.refl _)
    have h2 : Keeps (maskBut [.loops]) s0 s2 := h1.trans (Keeps.up_time rfl (Keeps.refl _))
    have h3 : Keeps (maskBut [.loops]) s0 s3 := keeps_State_slip rfl (keeps_State_wrI rfl (keeps_State_wr64N rfl h2))
    have h4 : Keeps (maskBut [.loops]) s0 s4 := ite_of (keeps_State_clrf rfl h3) h3
    exact ite_of (keeps_State_gridsRestart rfl h4) h4
  have h6 : Captured n t0 f s6 := by
    have hports : LeavesLoop n s5 (s5.forEach (idxWhere 40 fun e => s5.get (EP_SYNC e) EP_SYNC_CYCLE == 3) fun s e => s.portSync e t) :=
      .forEach fun u e he => portSync_leavesLoop (List.mem_range.1 (List.mem_of_mem_filter he)) u
    exact ((h.keeps h5).leaves hports).keeps (keeps_State_graceEnd rfl (keeps_State_epochChange rfl (keeps_State_rmBoundary rfl (Keeps.refl _))))
  have h6b : InEffect n f s6b := by
    refine forEach_turn (P := Captured n t0 f) (i := n - 32) (List.mem_range.2 (by omega)) List.nodup_range h6
      (fun u j _ hj hu => hu.leaves (loopApplyAt_leavesLoop (by omega) u)) (fun u hu => ?_)
      (fun u j _ hj hu => hu.leaves (loopApplyAt_leavesLoop (by omega) u))
    rw [Nat.add_sub_cancel' hn]
    exact hu.loopApplyAt (by omega) (by dsimp only at hb; omega)
  have h7 : InEffect n f s7 := h6b.leaves (.forEach fun u k hk => shaftFrame_leavesLoop hn64 (List.mem_range.1 hk) u)
  have h8 : InEffect n f s8 := h7.leaves (keeps_State_capTick rfl (Keeps.refl _)).leavesLoop
  have h9 : InEffect n f s9 := ite_of (h8.leaves (.forEach fun u k _ => by
    exact (keeps_enqueue_overhead rfl).leavesLoop)) h8
  have hdusk : LeavesLoop n s9.planTick s9.planTick.duskCheck :=
    ((Leaves.refl _).duskCheck (fromAxes_loopBlock n)).leavesLoop (keeps_State_duskCheck rfl (Keeps.refl _))
  exact h9.leaves ((planTick_leavesLoop s9).trans hdusk)

theorem loopApplyRow_frame {s : State} {n t0 : Nat} {f : Nat → Word} (h : Captured n t0 f s) (hn : 32 ≤ n) (hn64 : n < 64)
    (hrun : s.pw.phase = .running) (hstep : s.time.stepPend = none) (hb : 32 * (t0 + 16) ≤ s.nextFrame.2.1) :
    s.loopApplyRow n = s.frameBoundary :=
  loopApplyRow_first h.capAt (inEffect_frameBoundary h hn hn64 hrun hstep hb).idle (if_pos hn)

theorem frameBoundary_tick {s : State} (hrun : s.pw.phase = .running) (hstep : s.time.stepPend = none) :
    s.frameBoundary.tick = max s.tick (s.nextFrame.2.1 / 32) := by
  rw [tick_congr (frameBoundary_time hrun hstep)]
  exact advanceTo_tick s _

/-- An axis with a current loop takes an APPLY at its position boundary, a network axis at the frame boundary (R195). -/
theorem exec_loopApplyEffect_position {s : State} {n : Fin 64} {t0 : Nat} {f : Nat → Word} (h : Captured n t0 f s) (hn : n.val < 32)
    (hrun : s.pw.phase = .running) (hfr : (s.nextBoundary n (s.posCells n)).1 ≤ s.time.frameNum)
    (hb : 32 * (t0 + 16) ≤ (s.nextBoundary n (s.posCells n)).2.2.1) :
    ∃ t, exec (.loopApplyEffect n) s = .next t ∧ t.flag (AXL_LSTAT n) AXL_LSTAT_APPLYPEND = false ∧ (t.loop n).capAt = none ∧
    (∀ a ∈ loopWords n, t.ard a = f a) ∧ t.tick = max s.tick ((s.nextBoundary n (s.posCells n)).2.2.1 / 32) := by
  have heff := inEffect_axisBoundary h hn hrun hfr hb
  obtain ⟨-, -, -, htick⟩ := axisBoundary_atNextBoundary (m := s.posCells n) (show n.val < 80 by omega) hrun hfr
  exact ⟨_, congrArg Host.Outcome.next (loopApplyRow_position h hn hrun hfr hb), heff.pend, heff.idle, heff.words, htick⟩

theorem exec_loopApplyEffect_frame {s : State} {n : Fin 64} {t0 : Nat} {f : Nat → Word} (h : Captured n t0 f s) (hn : 32 ≤ n.val)
    (hrun : s.pw.phase = .running) (hstep : s.time.stepPend = none) (hb : 32 * (t0 + 16) ≤ s.nextFrame.2.1) :
    ∃ t, exec (.loopApplyEffect n) s = .next t ∧ t.flag (AXL_LSTAT n) AXL_LSTAT_APPLYPEND = false ∧ (t.loop n).capAt = none ∧
    (∀ a ∈ loopWords n, t.ard a = f a) ∧ t.tick = max s.tick (s.nextFrame.2.1 / 32) := by
  have heff := inEffect_frameBoundary h hn n.isLt hrun hstep hb
  exact ⟨_, congrArg Host.Outcome.next (loopApplyRow_frame h hn n.isLt hrun hstep hb), heff.pend, heff.idle, heff.words, frameBoundary_tick hrun hstep⟩

end Sys2Proof.Machine
end

section
/-! PROOFS. STOP boundaries, the end of a move, a missed mark, arming a cam switch, and the commands APPLY, START and STOP of loops and injections. -/

namespace Sys2Proof.Machine

/-! ### A STOP boundary (R119) -/

theorem waits_finish (s : State) (tag : Nat) (st : Status) (r0 r1 r2 : Nat) (d : List Byte) :
    (s.finish tag st r0 r1 r2 d).waits = s.waits.filter fun w => w.tag != tag := by
  unfold State.finish
  split <;> rfl

/-- No waiting command has joined. -/
def FewerWaits (s t : State) : Prop := ∀ w ∈ t.waits, w ∈ s.waits

theorem FewerWaits.refl (s : State) : FewerWaits s s := fun _ => id

section
variable {s0 s t : State} (h : FewerWaits s0 s)
include h

theorem FewerWaits.same (k : t.waits = s.waits) : FewerWaits s0 t := fun w hw => h w (k ▸ hw)

theorem FewerWaits.finish {tag : Nat} {st : Status} {r0 r1 r2 : Nat} {d : List Byte} : FewerWaits s0 (s.finish tag st r0 r1 r2 d) := fun w hw => by
  rw [waits_finish] at hw
  exact h w (List.mem_of_mem_filter hw)

theorem FewerWaits.finishAny {tag : Option Nat} {st : Status} {r : Nat} : FewerWaits s0 (s.finishAny tag st r) := by
  unfold State.finishAny
  split
  · exact h.finish
  · exact h

theorem FewerWaits.stopAxes {tag b : Nat} {axs : List (Nat × Rat)} {A J : Rat} : FewerWaits s0 (s.stopAxes tag b axs A J) := by
  unfold State.stopAxes
  extract_lets -merge -useContext -underBinder tb moving at0 vs V A0 law T point us path hm hs k
  refine foldl_of h fun u x hu => ?_
  extract_lets -merge -useContext -underBinder n l x0 pos c0 c1 cm e mv new kept s1 gone
  have hfold : FewerWaits s0 (gone.foldl (fun s w => s.finish w.tag .superseded tag) s1) :=
    foldl_of (P := FewerWaits s0) (hu.same rfl) fun _ _ hv => hv.finish
  exact hfold.same ((keeps_State_segRegs (M := maskBut [.waits]) rfl (Keeps.refl _)).same .waits rfl)

theorem FewerWaits.stopNow {r : StopReq} : FewerWaits s0 (s.stopNow r) := by
  unfold State.stopNow
  extract_lets g u s1
  have hu : FewerWaits s0 u := by
    unfold u
    exact foldl_of h fun _ _ hv => hv.finishAny
  clear_value u
  have hplan : FewerWaits s0 (u.modPlan g fun _ => {}) :=
    hu.same ((keeps_State_modPlan (M := maskBut [.waits]) rfl (Keeps.refl u)).same .waits rfl)
  have h1 : FewerWaits s0 s1 := ite_of h.stopAxes hplan.stopAxes
  exact h1.finish

end

/-- The command of a STOP waits no more once the STOP is placed. -/
theorem tag_ne_of_mem_waits_stopNow {s : State} {r : StopReq} : ∀ w ∈ (s.stopNow r).waits, w.tag ≠ r.tag := by
  intro w hw
  rw [State.stopNow, waits_finish] at hw
  simpa using (List.mem_filter.1 hw).2

theorem stops_stopNow (s : State) (r : StopReq) : (s.stopNow r).stops = s.stops :=
  (keeps_State_stopNow (M := maskBut [.stops]) rfl (Keeps.refl s)).same .stops rfl

theorem stops_foldl_stopNow (l : List StopReq) (s : State) : (l.foldl State.stopNow s).stops = s.stops :=
  foldl_of (P := fun u : State => u.stops = s.stops) rfl fun u r hu => (stops_stopNow u r).trans hu

theorem tag_ne_of_mem_waits_foldl {l : List StopReq} {r : StopReq} (hr : r ∈ l) (s : State) : ∀ w ∈ (l.foldl State.stopNow s).waits, w.tag ≠ r.tag := by
  induction l generalizing s with
  | nil => cases hr
  | cons x l ih =>
    obtain rfl | hr := List.mem_cons.1 hr
    · have hfew : FewerWaits (s.stopNow r) (l.foldl State.stopNow (s.stopNow r)) := foldl_of (.refl _) fun _ _ hu => hu.stopNow
      exact fun w hw => tag_ne_of_mem_waits_stopNow w (hfew w hw)
    · exact ih hr _

theorem exec_stopBoundary_places (s : State) : ∃ t, exec .stopBoundary s = .next t ∧ (∀ r ∈ t.stops, r ∈ s.stops ∧ s.time.frameNum < r.frame) ∧
    ∀ r ∈ s.stops, r.frame ≤ s.time.frameNum → ∀ w ∈ t.waits, w.tag ≠ r.tag := by
  refine ⟨s.stopBoundary, rfl, fun r hr => ?_, fun r hr hdue => ?_⟩
  · rw [State.stopBoundary, stops_foldl_stopNow] at hr
    obtain ⟨hmem, hlate⟩ := List.mem_filter.1 hr
    exact ⟨hmem, by simpa using hlate⟩
  · exact tag_ne_of_mem_waits_foldl (List.mem_filter.2 ⟨hr, decide_eq_true hdue⟩) _

/-! ### The last end of a move (R113) -/

theorem mo_modMo_same {s : State} {n : Nat} {f : AxMo → AxMo} (hn : n < 80) : (s.modMo n f).mo n = f (s.mo n) := vget_vmod_same hn

theorem get_segRegs {s : State} {n : Nat} (hc : s.canonical = true) :
    (s.segRegs n).get (AX_SEGQ n) AX_SEGQ_QUEUED = (s.mo n).segs.length % 2 ^ AX_SEGQ_QUEUED.w := by
  unfold State.segRegs
  extract_lets m s1 s2
  have h1 : s1.canonical = true ∧ s1.get (AX_SEGQ n) AX_SEGQ_QUEUED = m.segs.length % 2 ^ AX_SEGQ_QUEUED.w :=
    ⟨wr_canonical hc, get_put_same hc (by decide)⟩
  have h2 : s2.canonical = true ∧ s2.get (AX_SEGQ n) AX_SEGQ_QUEUED = m.segs.length % 2 ^ AX_SEGQ_QUEUED.w := by
    unfold s2
    split
    · exact ite_of (P := fun t : State => t.canonical = true ∧ t.get (AX_SEGQ n) AX_SEGQ_QUEUED = m.segs.length % 2 ^ AX_SEGQ_QUEUED.w)
        ⟨wr_canonical h1.1, (get_put_other h1.1 (by decide) (by decide)).trans h1.2⟩ h1
    · exact h1
  have hne : AX_SEGQ n ≠ AX_STAT n := by
    unfold AX_SEGQ AX_STAT
    omega
  exact (get_put_ne h2.1 hne).trans h2.2

theorem trajectory_last {s : State} {n t fuel : Nat} {g : Seg} (hsegs : (s.mo n).segs = [g]) (huse : (s.mo n).inUse = true)
    (ht : s.frameTime (g.start + g.dur) ≤ t) (hlast : g.last = true)
    (hv : near (s.segAt g (s.frameTime (g.start + g.dur))).2.1 0 = true) (ha : near (s.segAt g (s.frameTime (g.start + g.dur))).2.2 0 = true) :
    State.trajectory n t (fuel + 1) s =
      ((s.setBase n (roundQ (s.segAt g (s.frameTime (g.start + g.dur))).1) 0 0).modMo n fun m => { m with segs := [], inUse := false }).moveDone n g.move := by
  rw [State.trajectory]
  simp [hsegs, huse, not_lt.2 ht, hlast, hv, ha]

theorem exec_moveEnd_last {s : State} {n : Fin 80} {g : Seg} (hc : s.canonical = true) (hsegs : (s.mo n).segs = [g]) (hrun : s.running = true)
    (hramp : (s.mo n).ramp = none) (huse : (s.mo n).inUse = true) (hlast : g.last = true) (hsrc : s.srcOf n = 1)
    (ht : s.frameTime (g.start + g.dur) ≤ s.mt16 (s.targetOf n s.now))
    (hv : near (s.segAt g (s.frameTime (g.start + g.dur))).2.1 0 = true) (ha : near (s.segAt g (s.frameTime (g.start + g.dur))).2.2 0 = true) :
    ∃ t, exec (.moveEnd n) s = .next t ∧ (t.mo n).segs = [] ∧ (t.mo n).inUse = false ∧
    (t.mo n).base = roundQ (s.segAt g (s.frameTime (g.start + g.dur))).1 ∧ (t.mo n).vBase = 0 ∧ (t.mo n).aBase = 0 ∧
    t.get (AX_SEGQ n) AX_SEGQ_QUEUED = 0 := by
  set x := s.segAt g (s.frameTime (g.start + g.dur)) with hx
  set u := (s.setBase n (roundQ x.1) 0 0).modMo n fun m => { m with segs := [], inUse := false } with hu
  have hend : s.trajectoryEnd n = (u.moveDone n g.move).segRegs n := by
    unfold State.trajectoryEnd
    simp only [hsegs]
    rw [if_pos (by simp [hrun, hramp, huse, hlast, hsrc, ht]), trajectory_last hsegs huse ht hlast hv ha]
  have hmo : u.mo n = { s.mo n with base := roundQ x.1, vBase := 0, aBase := 0, jBase := 0, segs := [], inUse := false } := by
    rw [hu, mo_modMo_same n.isLt, State.setBase, mo_modMo_same n.isLt]
  have hdone : Keeps (maskBut [.motion, .regs]) u (u.moveDone n g.move) := keeps_State_moveDone rfl (Keeps.refl u)
  have hmo' : ((u.moveDone n g.move).segRegs n).mo n = u.mo n := by
    rw [State.mo, (keeps_State_segRegs (M := maskBut [.motion]) rfl (keeps_State_moveDone rfl (Keeps.refl u))).same .motion rfl, State.mo]
  refine ⟨_, rfl, ?_⟩
  rw [hend, hmo', hmo]
  refine ⟨rfl, rfl, rfl, rfl, rfl, ?_⟩
  rw [get_segRegs (hdone.canon hc)]
  have hsegs' : ((u.moveDone n g.move).mo n).segs = [] := by
    rw [State.mo, (keeps_State_moveDone (M := maskBut [.motion]) rfl (Keeps.refl u)).same .motion rfl]
    exact congrArg AxMo.segs hmo
  rw [hsegs']
  rfl

/-! ### A missed mark (R163) -/

theorem rc_modRc_same {s : State} {k : Nat} {f : RcSt → RcSt} (hk : k < 32) : (s.modRc k f).rc k = f (s.rc k) := vget_vmod_same hk

theorem exec_regMiss_sticky {s : State} {k : Fin 32} {o : Int} (hc : s.canonical = true) (hen : s.flag (RC_CFG k) RC_CFG_EN = true)
    (hgear : s.regGeared (s.get (RC_CFG k) RC_CFG_FAX) = true) (hsrc : s.get (LI_CFG k) LI_CFG_SRC < 0x80) (hseen : (s.rc k).seenRep = some o)
    (hreps : (s.rc k).reps = []) (hmiss : s.flag (RC_STAT k) RC_STAT_MISS = false) (hlim : s.get (RC_MISS k) RC_MISS_MISSLIM ≠ 0) {idx : Int}
    (hidx : s.regRepeat k (s.sourcePos (s.get (LI_CFG k) LI_CFG_SRC) s.now (s.now / 32)) = idx) (hlt : o < idx)
    (hrun : s.get (RC_MISS k) RC_MISS_MISSLIM ≤ (s.rc k).missRun + (idx - o).toNat) : ∃ t, exec (.regMiss k) s = .next t ∧
    t.flag (RC_STAT k) RC_STAT_MISS = true ∧ (t.rc k).seenRep = some idx ∧
    t.get (RC_CNT k) RC_CNT_MISSED = min 255 (s.get (RC_CNT k) RC_CNT_MISSED + (idx - o).toNat) := by
  set u := (s.modRc k fun r =>
    { r with seenRep := some idx, missRun := (s.rc k).missRun + (idx - o).toNat, reps := r.reps.filter fun r => decide (idx ≤ r + 2) }).put
    (RC_CNT k) RC_CNT_MISSED (min 255 (s.get (RC_CNT k) RC_CNT_MISSED + (idx - o).toNat)) with hu
  have hne : RC_STAT k ≠ RC_CNT k := by unfold RC_STAT RC_CNT; omega
  have hustat : u.flag (RC_STAT k) RC_STAT_MISS = false := by
    rw [State.flag, hu, get_put_ne (by exact hc) hne, ← hmiss]
    rfl
  have hstep : s.regMiss k s.now = (u.setf (RC_STAT k) RC_STAT_MISS).event .regMiss k := by
    unfold State.regMiss
    rw [if_neg (by simp [hen]), if_neg (by simp [hgear, not_le.2 hsrc])]
    simp only [hseen, hidx, hreps, if_neg (not_le.2 hlt), List.filter_nil, List.foldl_nil, List.length_nil, Nat.sub_zero]
    exact if_pos (by simp [← hu, hustat, hlim, hrun])
  refine ⟨_, congrArg Host.Outcome.next hstep, flag_setf (put_canonical hc) (by decide) (by decide), ?_, ?_⟩
  · exact (congrArg RcSt.seenRep (rc_modRc_same k.isLt)).trans rfl
  · show (u.setf (RC_STAT k) RC_STAT_MISS).get (RC_CNT k) RC_CNT_MISSED = _
    rw [State.setf, get_put_ne (by rw [hu]; exact put_canonical hc) hne.symm, hu, get_put_same (by exact hc) (by decide)]
    exact Nat.mod_eq_of_lt (lt_of_le_of_lt (min_le_left ..) (by decide))

/-! ### Arming a cam switch (R129) -/

/-- A requested change that answers no command joins the axis's changes, and PEND tells whether one of them is scheduled. -/
theorem requestChange_untagged {s : State} {n : Nat} {c : SrcChange} (hc : s.canonical = true) (hn : n < 80) (htag : c.tag = none) :
    ((s.requestChange n c).mo n).chgs = (s.mo n).chgs ++ [c] ∧
    (s.requestChange n c).flag (AX_CAM n) AX_CAM_PEND = ((s.mo n).chgs ++ [c]).any (·.sched) := by
  set u := s.modMo n fun m => { m with chgs := m.chgs ++ [c] } with hu
  have hchgs : (u.mo n).chgs = (s.mo n).chgs ++ [c] := by rw [hu, mo_modMo_same hn]
  have hstep : s.requestChange n c = u.pendFlag n := by rw [State.requestChange, htag]
  rw [hstep]
  refine ⟨hchgs, ?_⟩
  rw [State.pendFlag, flag_putB (s := u) hc (by decide) (by decide), hchgs]

/-- The change that the arming of a cam switch requests, without a command (R129). -/
def State.camSwitchAsked (s : State) (n : Nat) : SrcChange where
  src := 3
  msel := s.get (AX_SRC n) AX_SRC_MSEL
  mact := s.flag (AX_SRC n) AX_SRC_MACT
  n := 1
  d := 1
  table := s.get (AX_CAM n) AX_CAM_NEXT
  abs := s.flag (AX_CAM n) AX_CAM_ABS
  sched := true
  tag := none
  camSwitch := true

theorem exec_camArm_arms {s : State} {n : Fin 80} (hc : s.canonical = true) (hmay : s.hostMay (AX_CAM n)) : ∃ t, exec (.camArm n) s = .next t ∧
    t.flag (AX_CAM n) AX_CAM_PEND = true ∧ (∃ c ∈ (t.mo n).chgs, c.camSwitch = true) ∧ ∀ c ∈ (t.mo n).chgs, c.camSwitch = true →
      c.src = 3 ∧ c.sched = true ∧ c.table = s.get (AX_CAM n) AX_CAM_NEXT ∧ c.abs = s.flag (AX_CAM n) AX_CAM_ABS := by
  refine ⟨s.camArm n, congrArg Host.Outcome.next (hostCmd_may hmay), ?_⟩
  unfold State.camArm State.armCamSwitch
  extract_lets old s1
  have h1 : Keeps (maskBut [.regs]) s s1 := by
    have hfold : Keeps (maskBut [.regs]) s (old.foldl (fun s c => s.changeDone c .superseded ((none : Option Nat).getD 0)) s) :=
      foldl_of (P := Keeps (maskBut [.regs]) s) (Keeps.refl s) fun _ _ hu => keeps_State_changeDone rfl hu
    exact keeps_State_modMo rfl hfold
  have hchgs : ∀ c ∈ (s1.mo n).chgs, c.camSwitch = false := by
    intro c hmem
    rw [show s1.mo n = _ from mo_modMo_same n.isLt] at hmem
    simpa using (List.mem_filter.1 hmem).2
  clear_value s1
  obtain ⟨hlist, hpend⟩ := requestChange_untagged (c := s.camSwitchAsked n) (h1.canon hc) n.isLt rfl
  show (s1.requestChange n (s.camSwitchAsked n)).flag (AX_CAM n) AX_CAM_PEND = true ∧
    (∃ c ∈ ((s1.requestChange n (s.camSwitchAsked n)).mo n).chgs, c.camSwitch = true) ∧
    ∀ c ∈ ((s1.requestChange n (s.camSwitchAsked n)).mo n).chgs, c.camSwitch = true →
      c.src = 3 ∧ c.sched = true ∧ c.table = s.get (AX_CAM n) AX_CAM_NEXT ∧ c.abs = s.flag (AX_CAM n) AX_CAM_ABS
  rw [hpend, hlist]
  refine ⟨by simp [State.camSwitchAsked], ⟨_, List.mem_append_right _ List.mem_cons_self, rfl⟩, fun c hmem hsw => ?_⟩
  obtain hold | hnew := List.mem_append.1 hmem
  · cases (hchgs c hold).symm.trans hsw
  · cases List.mem_singleton.1 hnew
    exact ⟨rfl, rfl, rfl, rfl⟩

/-! ### APPLY (R195) -/

theorem exec_loopApply_captures {s : State} {n : Fin 64} (hc : s.canonical = true) (hmay : s.hostMay (AXL_LCFG n)) : ∃ t, exec (.loopApply n) s = .next t ∧
    t.flag (AXL_LSTAT n) AXL_LSTAT_APPLYPEND = true ∧ (t.loop n).cap = (loopWords n).map s.rd ∧ (t.loop n).capAt = some s.tick ∧ t.act = s.act := by
  have hloop : (s.loopApply n).loop n = { s.loop n with cap := (loopWords n).map s.rd, capAt := some s.tick } := by
    rw [State.loopApply, loop_modLoop_same (by omega)]
    rfl
  have hregs : (s.loopApply n).regs = (s.setf (AXL_LSTAT n) AXL_LSTAT_APPLYPEND).regs := by rw [State.loopApply, State.modLoop]
  have hstat : (s.loopApply n).flag (AXL_LSTAT n) AXL_LSTAT_APPLYPEND = true := by
    rw [State.flag, get_congr hregs]
    exact flag_setf hc (by decide) (by decide)
  exact ⟨s.loopApply n, congrArg Host.Outcome.next (hostCmd_may hmay), hstat, by rw [hloop], by rw [hloop],
    (keeps_State_loopApply (M := maskBut [.act]) rfl (Keeps.refl s)).same .act rfl⟩

/-! ### Injections (R194) -/

theorem inj_modInj_same {s : State} {k : Nat} {f : InjSt → InjSt} (hk : k < 16) : (s.modInj k f).inj k = f (s.inj k) := vget_vmod_same hk

theorem exec_injStart_runs {s : State} {k : Fin 16} (hc : s.canonical = true) (hmay : s.hostMay (LPINJ_CFG k))
    (hrun : s.flag (LPINJ_STAT k) LPINJ_STAT_RUNNING = false) (hnoon : s.inNoon = true) (hbad : s.injBad k = none)
    (hramp : (s.mo (s.get (LPINJ_CFG k) LPINJ_CFG_AXIS)).ramp = none) : ∃ t, exec (.injStart k) s = .next t ∧
    t.flag (LPINJ_STAT k) LPINJ_STAT_RUNNING = true ∧ t.get (LPINJ_STAT k) LPINJ_STAT_RUNS = 0 ∧ (t.inj k).startAt = s.tick ∧ (t.inj k).k = 0 := by
  set u := (s.setf (LPINJ_STAT k) LPINJ_STAT_RUNNING).put (LPINJ_STAT k) LPINJ_STAT_RUNS 0 with hu
  have hstep : s.injStart k = u.modInj k fun _ =>
      { startAt := s.tick, k := 0, phase := 0, prbs := 2 ^ prbsLen (s.get (LPINJ_CFG k) LPINJ_CFG_PRBSN) - 1 } := by
    simp [State.injStart, hrun, hnoon, hbad, hramp, hu]
  refine ⟨_, congrArg Host.Outcome.next ((hostCmd_may hmay).trans hstep), ?_, ?_, ?_, ?_⟩
  · rw [State.flag, get_congr (State.modInj_regs ..), hu, get_put_other (setf_canonical hc) (by decide) (by decide)]
    exact flag_setf hc (by decide) (by decide)
  · rw [get_congr (State.modInj_regs ..), hu, get_put_same (setf_canonical hc) (by decide)]
    rfl
  · rw [inj_modInj_same k.isLt]
  · rw [inj_modInj_same k.isLt]

theorem exec_injStart_aborts {s : State} {k : Fin 16} (hc : s.canonical = true) (hmay : s.hostMay (LPINJ_CFG k))
    (hrun : s.flag (LPINJ_STAT k) LPINJ_STAT_RUNNING = false) (hnoon : s.inNoon = false) : ∃ t,
    exec (.injStart k) s = .next t ∧ t.flag (LPINJ_STAT k) LPINJ_STAT_ABORTED = true ∧ t.injs = s.injs := by
  have hstep : s.injStart k = s.setf (LPINJ_STAT k) LPINJ_STAT_ABORTED := by simp [State.injStart, hrun, hnoon]
  exact ⟨_, congrArg Host.Outcome.next ((hostCmd_may hmay).trans hstep), flag_setf hc (by decide) (by decide), rfl⟩

theorem exec_injStop_stops {s : State} {k : Fin 16} (hc : s.canonical = true) (hmay : s.hostMay (LPINJ_CFG k))
    (hrun : s.flag (LPINJ_STAT k) LPINJ_STAT_RUNNING = true) : ∃ t,
    exec (.injStop k) s = .next t ∧ t.flag (LPINJ_STAT k) LPINJ_STAT_RUNNING = false ∧ t.injs = s.injs := by
  set u := s.clrf (LPINJ_STAT k) LPINJ_STAT_RUNNING with hu
  have hstep : s.injStop k = u.resolve .injection k .ok (s.get (LPINJ_STAT k) LPINJ_STAT_RUNS) := if_pos hrun
  have hres : Keeps (maskBut [.regs, .injs]) u (u.resolve .injection k .ok (s.get (LPINJ_STAT k) LPINJ_STAT_RUNS)) :=
    keeps_State_resolve rfl (Keeps.refl u)
  refine ⟨_, congrArg Host.Outcome.next ((hostCmd_may hmay).trans hstep), ?_, hres.same .injs rfl⟩
  rw [State.flag, get_congr (hres.same .regs rfl)]
  exact flag_clrf hc (by decide)

end Sys2Proof.Machine
end

section
/-! PROOFS. Coast and loss of a line shaft (R133, R134). -/

namespace Sys2Proof.Machine

/-! ### Coast and loss of a line shaft (R133, R134) -/

theorem shaft_modShaft_same {s : State} {k : Nat} {f : LsSt → LsSt} (hk : k < 16) : (s.modShaft k f).shaft k = f (s.shaft k) := vget_vmod_same hk

/-- Frames between the time of a master's state and the frame boundary (R133). -/
def State.shaftLag (s : State) (m : MState) : Nat :=
  (s.frameTime s.time.frameNum - m.ts + s.frameTime 1 / 2) / max 1 (s.frameTime 1)

/-- A frame without a state from the master of shaft `k`: its lag, COAST and MISSED (R133). -/
def State.shaftMissed (s : State) (k lag : Nat) : State :=
  (((s.modShaft k fun l => { l with frame := some s.time.frameNum }).put (LS_STAT k) LS_STAT_LAG (min 255 lag)).setf (LS_STAT k) LS_STAT_COAST).count
    (LS_CNT k) LS_CNT_MISSED

/-- With the report of the first such frame. -/
def State.shaftCoasts (s : State) (k lag : Nat) : State :=
  if !s.flag (LS_STAT k) LS_STAT_COAST then ((s.shaftMissed k lag).event .shaftCoast k).group 3 else s.shaftMissed k lag

theorem shaftFrame_late {s : State} {k : Nat} {m : MState} (hen : s.flag (LS_CFG k) LS_CFG_EN = true) (hnew : (s.shaft k).newest = some m)
    (hframe : (s.shaft k).frame ≠ some s.time.frameNum) (hat : (s.shaft k).at_ ≠ s.tick) (hcont : (s.shaft k).cont = none)
    (hstep : (s.shaft k).stepPend = false) (hlag : 1 < s.shaftLag m) :
    s.shaftFrame k =
      if (s.shaft k).coast < s.shaftLag m - 1 then
        (s.shaftCoasts k (s.shaftLag m)).shaftLose k m (m.ts + ((s.shaft k).coast + 2) * s.frameTime 1)
      else (s.shaftCoasts k (s.shaftLag m)).forEach ((s.shaftCoasts k (s.shaftLag m)).followers k) fun s n => s.count (AX_CNT n) AX_CNT_COASTED := by
  unfold State.shaftFrame
  rw [if_neg (by simp [hen, hframe])]
  extract_lets -merge -useContext -underBinder u b lagOf earlier
  have htime : ∀ f, u.frameTime f = s.frameTime f := fun f => by rw [State.frameTime, State.modShaft_time, State.frameTime]
  have hl : lagOf m = s.shaftLag m := by
    simp only [lagOf, b, htime]
    rw [State.modShaft_time, State.shaftLag]
  have hearlier : earlier = some m := (if_neg hat).trans hnew
  split
  case h_1 hnone => cases hnone.symm.trans hnew
  rename_i m' hm'
  cases hm'.symm.trans hnew
  extract_lets -merge -useContext -underBinder lost m' lag s1 first s2 s3
  have hm : m' = m := ite_of (P := (· = m)) (by rw [hearlier, Option.getD_some]) rfl
  have hlost : lost m = decide ((s.shaft k).coast < s.shaftLag m - 1) := by
    simp only [lost, hl, decide_eq_true (show 2 ≤ s.shaftLag m from hlag), Bool.true_and]
  have hlag' : lag = s.shaftLag m := (congrArg lagOf hm).trans hl
  have h3 : s3 = s.shaftCoasts k (s.shaftLag m) := by
    have h2 : s2 = s.shaftMissed k lag := rfl
    have hfirst : u.flag (LS_STAT k) LS_STAT_COAST = s.flag (LS_STAT k) LS_STAT_COAST := by
      rw [State.flag, get_congr (State.modShaft_regs ..), State.flag]
    rw [← hlag', State.shaftCoasts, ← h2, ← hfirst]
  clear_value m' s3
  subst hm
  rw [if_neg (by simp [hcont]), if_neg (by simp [hstep]), if_neg (by simpa [lag, hl] using hlag), hlost, h3]
  simp only [decide_eq_true_eq, htime]

/-- What a frame without a state leaves of the shaft and the other words. -/
theorem shaftMissed_spec {s : State} {k lag : Nat} (hc : s.canonical = true) (hk : k < 16) :
    (s.shaftMissed k lag).canonical = true ∧ (s.shaftMissed k lag).flag (LS_STAT k) LS_STAT_COAST = true ∧
    (s.shaftMissed k lag).get (LS_STAT k) LS_STAT_LAG = min 255 lag ∧
    (s.shaftMissed k lag).get (LS_CNT k) LS_CNT_MISSED = incSat LS_CNT_MISSED.w (s.get (LS_CNT k) LS_CNT_MISSED) ∧
    (s.shaftMissed k lag).shaft k = { s.shaft k with frame := some s.time.frameNum } := by
  have hne : LS_CNT k ≠ LS_STAT k := by unfold LS_CNT LS_STAT; omega
  unfold State.shaftMissed
  set u := s.modShaft k fun l => { l with frame := some s.time.frameNum } with hu
  have hcu : u.canonical = true := hc
  have hc1 := put_canonical (a := LS_STAT k) (f := LS_STAT_LAG) (v := min 255 lag) hcu
  have hc2 := setf_canonical (a := LS_STAT k) (f := LS_STAT_COAST) hc1
  refine ⟨wr_canonical hc2, ?_, ?_, ?_, ?_⟩
  · rw [State.flag, State.count, get_put_ne hc2 hne.symm]
    exact flag_setf hc1 (by decide) (by decide)
  · rw [State.count, get_put_ne hc2 hne.symm, State.setf, get_put_other hc1 (by decide) (by decide), get_put_same hcu (by decide)]
    exact Nat.mod_eq_of_lt (lt_of_le_of_lt (min_le_left ..) (by decide))
  · rw [get_count_same hc2 (by decide), State.setf, get_put_ne hc1 hne, get_put_ne hcu hne, hu, get_congr (State.modShaft_regs ..)]
  · rw [State.shaft, State.count_shafts, State.setf_shafts, State.put_shafts]
    exact shaft_modShaft_same hk

theorem shaftMissed_leaves {A : Nat → Prop} {s : State} {k lag : Nat} (hstat : ¬A (LS_STAT k)) (hcnt : ¬A (LS_CNT k)) :
    Leaves A s (s.shaftMissed k lag) := ((((Leaves.refl s).modShaft).put hstat).setf hstat).count hcnt

theorem shaftCoasts_leaves {A : Nat → Prop} (hA : FromAxes A) (s : State) (k lag : Nat) : Leaves A (s.shaftMissed k lag) (s.shaftCoasts k lag) :=
  ite_of ((Leaves.refl _).event.group hA (by decide)) (Leaves.refl _)

theorem shaftCoasts_keeps {M : Nat} (hM : Nat.land 6145 M = 6145) (s : State) (k lag : Nat) : Keeps M (s.shaftMissed k lag) (s.shaftCoasts k lag) :=
  ite_of (keeps_State_group (sub_trans rfl hM) (keeps_State_event (sub_trans rfl hM) (Keeps.refl _))) (Keeps.refl _)

theorem fromAxes_eq {b : Nat} (hb : 0xD0000 ≤ b) : FromAxes (· = b) := fun _ ha => ha ▸ hb

theorem exec_lineShaftCoast_counts {s : State} {k : Fin 16} {m : MState} (hc : s.canonical = true) (hen : s.flag (LS_CFG k) LS_CFG_EN = true)
    (hnew : (s.shaft k).newest = some m) (hframe : (s.shaft k).frame ≠ some s.time.frameNum) (hat : (s.shaft k).at_ ≠ s.tick)
    (hcont : (s.shaft k).cont = none) (hstep : (s.shaft k).stepPend = false) (hlag : 1 < s.shaftLag m) (hcoast : s.shaftLag m - 1 ≤ (s.shaft k).coast) :
    ∃ t, exec (.lineShaftCoast k) s = .next t ∧ t.flag (LS_STAT k) LS_STAT_COAST = true ∧ t.get (LS_STAT k) LS_STAT_LAG = min 255 (s.shaftLag m) ∧
    t.get (LS_CNT k) LS_CNT_MISSED = incSat LS_CNT_MISSED.w (s.get (LS_CNT k) LS_CNT_MISSED) ∧
    t.shaft k = { s.shaft k with frame := some s.time.frameNum } := by
  obtain ⟨hcanon, hflag, hval, hcnt, hshaft⟩ := shaftMissed_spec (lag := s.shaftLag m) hc k.isLt
  set u := s.shaftMissed k (s.shaftLag m)
  set v := s.shaftCoasts k (s.shaftLag m)
  set t := v.forEach (v.followers k) fun s n => s.count (AX_CNT n) AX_CNT_COASTED with ht
  have hleaves : ∀ b, 0xDC000 ≤ b → Leaves (· = b) u t := fun b hb =>
    (shaftCoasts_leaves (fromAxes_eq (by omega)) s k _).forEach fun w n hn hw => hw.count (by
      have := lt_of_mem_followers hn
      unfold AX_CNT
      omega)
  have hkeeps : Keeps (maskBut [.shafts]) u t :=
    (shaftCoasts_keeps rfl s k _).forEach fun _ _ hw => keeps_State_count rfl hw
  have hstat := hleaves (LS_STAT k) (by unfold LS_STAT; omega)
  refine ⟨t, congrArg Host.Outcome.next ((shaftFrame_late hen hnew hframe hat hcont hstep hlag).trans (if_neg (not_lt.2 hcoast))), ?_, ?_, ?_, ?_⟩
  · exact (hstat.flag hcanon rfl _).trans hflag
  · exact (hstat.get hcanon rfl _).trans hval
  · exact ((hleaves (LS_CNT k) (by unfold LS_CNT; omega)).get hcanon rfl _).trans hcnt
  · rw [State.shaft, hkeeps.same .shafts rfl]
    exact hshaft

/-- The followers of a shaft hang on the sources of the axes alone. -/
theorem followers_congr {s t : State} {k : Nat} (hmo : t.motion = s.motion) (hsrc : ∀ n < 80, t.rd (AX_SRC n) = s.rd (AX_SRC n)) :
    t.followers k = s.followers k := by
  unfold State.followers idxWhere
  refine List.filter_congr fun n hn => ?_
  have hget : ∀ f, t.get (AX_SRC n) f = s.get (AX_SRC n) f := fun f => by
    rw [State.get, State.rdN, hsrc n (List.mem_range.1 hn), State.get, State.rdN]
  have hoff : (t.mo n).off = (s.mo n).off := by rw [State.mo, hmo, State.mo]
  simp only [State.srcOf, hget, hoff]

/-- A follower is told of the loss of its master: its status, and its local processor (R134). -/
def State.toldLost (s : State) (n : Nat) : State :=
  (((s.setf (AX_STAT n) AX_STAT_MLOST).setf (AX_STAT n) AX_STAT_MSYNC_STOP).setf (AX_STAT n) AX_STAT_DUSK).lpNotice n .shaftLost

theorem toldLost_leaves {A : Nat → Prop} {n : Nat} (hA : ¬A (AX_STAT n)) (s : State) : Leaves A s (s.toldLost n) :=
  ((((Leaves.refl s).setf hA).setf hA).setf hA).lpNotice

theorem toldLost_flags {s : State} {n : Nat} (hc : s.canonical = true) :
    (s.toldLost n).flag (AX_STAT n) AX_STAT_MLOST = true ∧ (s.toldLost n).flag (AX_STAT n) AX_STAT_DUSK = true := by
  have hc1 := setf_canonical (a := AX_STAT n) (f := AX_STAT_MLOST) hc
  have hc2 := setf_canonical (a := AX_STAT n) (f := AX_STAT_MSYNC_STOP) hc1
  unfold State.toldLost
  set u := ((s.setf (AX_STAT n) AX_STAT_MLOST).setf (AX_STAT n) AX_STAT_MSYNC_STOP).setf (AX_STAT n) AX_STAT_DUSK with hu
  have hnotice : Leaves (· = AX_STAT n) u (u.lpNotice n .shaftLost) := (Leaves.refl u).lpNotice
  have hcu : u.canonical = true := setf_canonical hc2
  rw [hnotice.flag hcu rfl, hnotice.flag hcu rfl]
  refine ⟨?_, flag_setf hc2 (by decide) (by decide)⟩
  rw [hu, State.setf, State.flag, get_put_other hc2 (by decide) (by decide), State.setf, get_put_other hc1 (by decide) (by decide)]
  exact flag_setf hc (by decide) (by decide)

theorem forEach_toldLost_flags {s : State} {k n : Nat} (hc : s.canonical = true) (hn : n ∈ s.followers k) :
    ((s.forEach (s.followers k) State.toldLost).flag (AX_STAT n) AX_STAT_MLOST = true ∧
      (s.forEach (s.followers k) State.toldLost).flag (AX_STAT n) AX_STAT_DUSK = true) := by
  have hne : ∀ {j}, j ≠ n → ¬AX_STAT j = AX_STAT n := fun hj => by unfold AX_STAT; omega
  have hleaves : ∀ (t : State) (j : Nat), j ≠ n → Leaves (· = AX_STAT n) t (t.toldLost j) :=
    fun t j hj => toldLost_leaves (A := (· = AX_STAT n)) (hne hj) t
  refine (forEach_turn (P := fun t => t.canonical = true) (Q := fun t => t.canonical = true ∧ t.flag (AX_STAT n) AX_STAT_MLOST = true ∧
    t.flag (AX_STAT n) AX_STAT_DUSK = true) hn (List.nodup_range.filter _) hc ?_ ?_ ?_).2
  · exact fun t j _ hj ht => (hleaves t j hj).canon ht
  · exact fun t ht => ⟨(toldLost_leaves (A := fun _ => False) not_false t).canon ht, toldLost_flags ht⟩
  · rintro t j - hj ⟨ht, hml, hdusk⟩
    exact ⟨(hleaves t j hj).canon ht, ((hleaves t j hj).flag ht rfl _).trans hml, ((hleaves t j hj).flag ht rfl _).trans hdusk⟩

theorem missed_shaftLose {s : State} {k td : Nat} {m : MState} (hc : s.canonical = true) :
    (s.shaftLose k m td).get (LS_CNT k) LS_CNT_MISSED = s.get (LS_CNT k) LS_CNT_MISSED := by
  have hcnt : Leaves (· = LS_CNT k) s (s.shaftLose k m td) :=
    (Leaves.refl s).shaftLose (fromAxes_eq (by unfold LS_CNT; omega)) (by unfold LS_CNT LS_STAT; omega) fun n hn => by unfold LS_CNT AX_STAT; omega
  exact hcnt.get hc rfl _

/-- The loss of a shaft's master: its shaft runs on alone, and its followers are told (R134). -/
theorem shaftLose_spec {s : State} {k td : Nat} {m : MState} (hc : s.canonical = true) (hk : k < 16) :
    (s.shaftLose k m td).flag (LS_STAT k) LS_STAT_LOST = true ∧ ((s.shaftLose k m td).shaft k).cont.isSome = true ∧
    ∀ n ∈ s.followers k, (s.shaftLose k m td).flag (AX_STAT n) AX_STAT_MLOST = true ∧ (s.shaftLose k m td).flag (AX_STAT n) AX_STAT_DUSK = true := by
  unfold State.shaftLose
  extract_lets x u
  have hcu : u.canonical = true := setf_canonical hc
  have hflag : u.flag (LS_STAT k) LS_STAT_LOST = true := flag_setf hc (by decide) (by decide)
  have hcont : (u.shaft k).cont.isSome = true := by rw [show u.shaft k = _ from shaft_modShaft_same hk]; rfl
  have hfollow : u.followers k = s.followers k := by
    have hsrc : Leaves (fun a => ∃ n < 80, a = AX_SRC n) s u := ((Leaves.refl s).setf (by
      rintro ⟨n, hn, hna⟩
      unfold LS_STAT AX_SRC at hna
      omega)).modShaft
    exact followers_congr rfl fun n hn => hsrc.rd hc _ ⟨n, hn, rfl⟩
  clear_value u
  set v := u.forEach (u.followers k) fun s n =>
    (((s.setf (AX_STAT n) AX_STAT_MLOST).setf (AX_STAT n) AX_STAT_MSYNC_STOP).setf (AX_STAT n) AX_STAT_DUSK).lpNotice n .shaftLost with hv
  have hvtold : v = u.forEach (u.followers k) State.toldLost := rfl
  have hlate : ∀ b, 0xD0000 ≤ b → Leaves (· = b) v (((v.event .shaftLost k).group 3).group 2) := fun b hb =>
    ((Leaves.refl v).event.group (fromAxes_eq hb) (by decide)).group (fromAxes_eq hb) (by decide)
  have hvfold : Leaves (fun a => 0xDC000 ≤ a) u v := (Leaves.refl u).forEach fun t n hn ht => ht.trans (toldLost_leaves (by
    have := lt_of_mem_followers hn
    unfold AX_STAT
    omega) t)
  have hcv : v.canonical = true := hvfold.canon hcu
  have hshaft : Keeps (maskBut [.shafts]) u (((v.event .shaftLost k).group 3).group 2) := by
    refine keeps_State_group rfl (keeps_State_group rfl (keeps_State_event rfl ?_))
    exact (Keeps.refl u).forEach fun t n ht => keeps_State_lpNotice rfl (keeps_State_setf rfl (keeps_State_setf rfl (keeps_State_setf rfl ht)))
  refine ⟨?_, ?_, fun n hn => ?_⟩
  · exact ((hlate (LS_STAT k) (by unfold LS_STAT; omega)).flag hcv rfl _).trans ((hvfold.flag hcu (by unfold LS_STAT; omega) _).trans hflag)
  · rw [State.shaft, hshaft.same .shafts rfl]
    exact hcont
  · have hl := hlate (AX_STAT n) (by unfold AX_STAT; omega)
    rw [hl.flag hcv rfl, hl.flag hcv rfl, hvtold]
    exact forEach_toldLost_flags hcu (hfollow ▸ hn)

theorem exec_lineShaftLost_continues {s : State} {k : Fin 16} {m : MState} (hc : s.canonical = true) (hen : s.flag (LS_CFG k) LS_CFG_EN = true)
    (hnew : (s.shaft k).newest = some m) (hframe : (s.shaft k).frame ≠ some s.time.frameNum) (hat : (s.shaft k).at_ ≠ s.tick)
    (hcont : (s.shaft k).cont = none) (hstep : (s.shaft k).stepPend = false) (hlag : 1 < s.shaftLag m) (hcoast : (s.shaft k).coast < s.shaftLag m - 1) :
    ∃ t, exec (.lineShaftLost k) s = .next t ∧ t.flag (LS_STAT k) LS_STAT_LOST = true ∧ (t.shaft k).cont.isSome = true ∧
    t.get (LS_CNT k) LS_CNT_MISSED = incSat LS_CNT_MISSED.w (s.get (LS_CNT k) LS_CNT_MISSED) ∧
    ∀ n ∈ s.followers k, t.flag (AX_STAT n) AX_STAT_MLOST = true ∧ t.flag (AX_STAT n) AX_STAT_DUSK = true := by
  obtain ⟨hcanon, -, -, hcnt, -⟩ := shaftMissed_spec (lag := s.shaftLag m) hc k.isLt
  set lag := s.shaftLag m
  have hcoasts := shaftCoasts_leaves (A := (· = LS_CNT k)) (fromAxes_eq (by unfold LS_CNT; omega)) s k lag
  have hfollow : (s.shaftCoasts k lag).followers k = s.followers k := by
    have hmotion : (s.shaftCoasts k lag).motion = s.motion := (shaftCoasts_keeps (M := maskBut [.motion]) rfl s k lag).same .motion rfl
    have hsrc : Leaves (fun a => ∃ n < 80, a = AX_SRC n) s (s.shaftCoasts k lag) := by
      refine (shaftMissed_leaves ?_ ?_).trans (shaftCoasts_leaves ?_ s k lag)
      · rintro ⟨n, hn, hna⟩
        unfold LS_STAT AX_SRC at hna
        omega
      · rintro ⟨n, hn, hna⟩
        unfold LS_CNT AX_SRC at hna
        omega
      · rintro a ⟨n, hn, rfl⟩
        unfold AX_SRC
        omega
    exact followers_congr hmotion fun n hn => hsrc.rd hc _ ⟨n, hn, rfl⟩
  obtain ⟨hlost, hruns, htold⟩ := shaftLose_spec (m := m) (td := m.ts + ((s.shaft k).coast + 2) * s.frameTime 1) (hcoasts.canon hcanon) k.isLt
  exact ⟨_, congrArg Host.Outcome.next ((shaftFrame_late hen hnew hframe hat hcont hstep hlag).trans (if_pos hcoast)), hlost, hruns,
    (missed_shaftLose (hcoasts.canon hcanon)).trans ((hcoasts.get hcanon rfl _).trans hcnt), fun n hn => htold n (hfollow.symm ▸ hn)⟩

theorem exec_lineShaft_judged {s : State} {k : Fin 16} (hframe : (s.shaft k).frame = some s.time.frameNum) :
    exec (.lineShaftCoast k) s = .next s ∧ exec (.lineShaftLost k) s = .next s := by
  have hstep : s.shaftFrame k = s := by
    unfold State.shaftFrame
    exact if_pos (by simp [hframe])
  exact ⟨congrArg Host.Outcome.next hstep, congrArg Host.Outcome.next hstep⟩

end Sys2Proof.Machine
end

section
/-! PROOFS. The last step of an injection (R193, R194). -/

namespace Sys2Proof.Machine

/-! ### The last step of an injection (R193, R194) -/

/-- From `s` to `t` the words of the local processors, the injections and the assignment of axes hold what they held. -/
structure LeavesInj (s t : State) : Prop where
  words : Leaves (0xE0000 ≤ ·) s t
  injs : t.injs = s.injs
  assign : t.assign = s.assign

theorem fromAxes_inj : FromAxes (0xE0000 ≤ ·) := fun _ ha => le_trans (by decide) ha

theorem Leaves.leavesInj {s t : State} (h : Leaves (0xE0000 ≤ ·) s t) (k : Keeps (maskBut [.injs, .assign]) s t) : LeavesInj s t :=
  ⟨h, k.same .injs rfl, k.same .assign rfl⟩

/-- An operation outside the registers, the injections and the assignment of axes. -/
theorem Keeps.leavesInj {s t : State} (k : Keeps (maskBut [.regs, .act, .injs, .assign]) s t) : LeavesInj s t := by
  have hregs : Keeps (maskBut [.regs, .act]) s t := k.wider rfl
  exact ⟨hregs.leaves, k.same .injs rfl, k.same .assign rfl⟩

/-- An injection of LPk into axis `n` stands at `i`, of `d` runs, and the run that is made is one of its own. -/
structure InjDue (k n : Nat) (i : InjSt) (d : Nat) (s : State) : Prop where
  canon : s.canonical = true
  running : s.flag (LPINJ_STAT k) LPINJ_STAT_RUNNING = true
  axis : s.get (LPINJ_CFG k) LPINJ_CFG_AXIS = n
  dur : s.rdN (LPINJ_DUR k) = d
  inj : s.inj k = i
  lp : s.lpOf n = k
  reached : i.startAt + 16 ≤ s.time.runAt

/-- The injection of LPk has made `j` runs and is done. -/
structure InjEnded (k n j : Nat) (s : State) : Prop where
  canon : s.canonical = true
  stopped : s.flag (LPINJ_STAT k) LPINJ_STAT_RUNNING = false
  done : s.flag (LPINJ_STAT k) LPINJ_STAT_DONE = true
  steps : (s.inj k).k = j
  lp : s.lpOf n = k

theorem le_lpinj (k : Nat) : 0xE0000 ≤ LPINJ_STAT k ∧ 0xE0000 ≤ LPINJ_CFG k ∧ 0xE0000 ≤ LPINJ_DUR k := by
  unfold LPINJ_STAT LPINJ_CFG LPINJ_DUR
  omega

section
variable {k n j d : Nat} {i : InjSt} {s t : State}

theorem InjDue.leaves (h : InjDue k n i d s) (hl : LeavesInj s t) (ht : t.time = s.time) : InjDue k n i d t := by
  obtain ⟨hstat, hcfg, hdur⟩ := le_lpinj k
  refine ⟨hl.words.canon h.canon, (hl.words.flag h.canon hstat _).trans h.running, (hl.words.get h.canon hcfg _).trans h.axis, ?_, ?_, ?_, ht ▸ h.reached⟩
  · rw [State.rdN, hl.words.rd h.canon _ hdur]
    exact h.dur
  · rw [State.inj, hl.injs]
    exact h.inj
  · rw [State.lpOf, hl.assign]
    exact h.lp

theorem InjEnded.leaves (h : InjEnded k n j s) (hl : LeavesInj s t) : InjEnded k n j t := by
  obtain ⟨hstat, -, -⟩ := le_lpinj k
  refine ⟨hl.words.canon h.canon, (hl.words.flag h.canon hstat _).trans h.stopped, (hl.words.flag h.canon hstat _).trans h.done, ?_, ?_⟩
  · rw [State.inj, hl.injs]
    exact h.steps
  · rw [State.lpOf, hl.assign]
    exact h.lp

/-- An injection whose last run has been counted ends. -/
theorem injEnded_of_step (hc : s.canonical = true) (hlp : s.lpOf n = k) (hk : k < 16) {v : Nat} {f : InjSt → InjSt} (hf : (f (s.inj k)).k = j) :
    InjEnded k n j (((((s.put (LPINJ_STAT k) LPINJ_STAT_RUNS v).modInj k f).clrf (LPINJ_STAT k) LPINJ_STAT_RUNNING).setf (LPINJ_STAT k)
      LPINJ_STAT_DONE).resolve .injection k .ok j) := by
  set u := (s.put (LPINJ_STAT k) LPINJ_STAT_RUNS v).modInj k f with hu
  have hcu : u.canonical = true := put_canonical hc
  have hinj : (u.inj k).k = j := by rw [hu, inj_modInj_same hk, State.inj, State.put_injs]; exact hf
  have hlpu : u.lpOf n = k := by rw [hu, State.lpOf, State.modInj_assign, State.put_assign]; exact hlp
  clear_value u
  set w := (u.clrf (LPINJ_STAT k) LPINJ_STAT_RUNNING).setf (LPINJ_STAT k) LPINJ_STAT_DONE with hw
  have hended : InjEnded k n j w := by
    refine ⟨setf_canonical (clrf_canonical hcu), ?_, flag_setf (clrf_canonical hcu) (by decide) (by decide), ?_, ?_⟩
    · rw [hw, State.setf, State.flag, get_put_other (clrf_canonical hcu) (by decide) (by decide)]
      exact flag_clrf hcu (by decide)
    · rw [hw, State.inj, State.setf_injs, State.clrf_injs]
      exact hinj
    · rw [hw, State.lpOf, State.setf_assign, State.clrf_assign]
      exact hlpu
  exact hended.leaves (keeps_State_resolve rfl (Keeps.refl w)).leavesInj

/-- The last run of an injection ends it. -/
theorem InjDue.injStep (h : InjDue k n i d s) (hk : k < 16) (hd : d ≠ 0) (hlast : d ≤ i.k + 1) : InjEnded k n (i.k + 1) (s.injStep n) := by
  obtain ⟨hcanon, hrunning, haxis, hdur, hinj, hlp, hreached⟩ := h
  have hactive : s.injActive n = true := by
    unfold State.injActive
    simp [hlp, hrunning, haxis, hinj, hreached]
  unfold State.injStep
  rw [if_pos hactive, hlp, hinj]
  extract_lets -merge -useContext -underBinder i' adv f0 s1 dur
  have hdone : (dur ≠ 0 && dur ≤ i'.k + 1) = true := by simp [dur, i', hdur, hd, hlast]
  rw [if_pos hdone]
  exact injEnded_of_step hcanon hlp hk (by rw [hinj])

/-- A ramp does not abort an injection that has ended. -/
theorem InjEnded.injAbort (h : InjEnded k n j s) : s.injAbort n = s := by
  unfold State.injAbort
  rw [h.lp]
  exact if_neg (by simp [h.stopped])

theorem InjEnded.startRampAt (h : InjEnded k n j s) (hn : n < 80) {t : Nat} {p v a : Int} {cause : EventKind} :
    InjEnded k n j (s.startRampAt n t p v a cause) := by
  have hstat : ¬0xE0000 ≤ AX_STAT n := by unfold AX_STAT; omega
  have hcam : ¬0xE0000 ≤ AX_CAM n := by unfold AX_CAM; omega
  unfold State.startRampAt
  refine ite_of h ?_
  extract_lets s1
  have h0 : InjEnded k n j ((s.setf (AX_STAT n) AX_STAT_DUSK).clrf (AX_STAT n) AX_STAT_MSYNC_STOP) :=
    h.leaves ((((Leaves.refl s).setf hstat).clrf hstat).leavesInj (keeps_State_clrf rfl (keeps_State_setf rfl (Keeps.refl s))))
  have h1 : InjEnded k n j s1 := by
    unfold s1
    rw [h0.injAbort]
    exact h0.leaves (keeps_State_modMo rfl (Keeps.refl _)).leavesInj
  clear_value s1
  refine h1.leaves (Leaves.leavesInj ?_ ?_)
  · have hres := ((Leaves.refl (A := (0xE0000 ≤ ·)) s1).resolve (k := .source) (u := n) (r0 := s1.rdN (AX_STAT n)) (r1 := 0) (r2 := 0)
      (st := .protected_) (d := [])).clrf (f := AX_CAM_PEND) hcam
    exact (hres.keeps (keeps_State_dropMoves rfl (Keeps.refl _))).lpNotice.event.group fromAxes_inj (by decide)
  · exact keeps_State_group rfl (keeps_State_event rfl (keeps_State_lpNotice rfl (keeps_State_dropMoves rfl (keeps_State_clrf rfl
      (keeps_State_resolve rfl (Keeps.refl _))))))

theorem InjEnded.runEnd (h : InjEnded k n j s) {r : RunReq} (hr : r.axis = n) (hn : n < 80) {e : Nat} : InjEnded k n j (s.runEnd r e) := by
  have hlate : ¬0xE0000 ≤ AX_LATE n := by unfold AX_LATE; omega
  unfold State.runEnd
  rw [hr]
  refine ite_of h (ite_of ?_ ?_)
  · unfold State.lateRun
    extract_lets s1
    have h1 : InjEnded k n j s1 :=
      h.leaves ((((Leaves.refl s).count hlate).count hlate).leavesInj (keeps_State_count rfl (keeps_State_count rfl (Keeps.refl s))))
    exact ite_of (h1.startRampAt hn) h1
  · exact h.leaves (((Leaves.refl s).put hlate).leavesInj (keeps_State_put rfl (Keeps.refl s)))

/-! ### The velocity law (R180) around it -/

theorem measured_state (s : State) (n : Nat) : (s.measured n).2.2 = s ∨ (s.measured n).2.2 = s.setf (AXL_LSTAT n) AXL_LSTAT_VDSAT := by
  unfold State.measured
  extract_lets
  dsimp only
  split
  · exact .inl rfl
  · exact .inr rfl

theorem cogging_leaves {A : Nat → Prop} {n : Nat} (hA : ¬A (AXL_LSTAT n)) (s : State) : Leaves A s (s.cogging n).2 := by
  unfold State.cogging
  split
  · exact (Leaves.refl s).clrf hA
  · split
    · exact (Leaves.refl s).setf hA
    · exact (Leaves.refl s).clrf hA

theorem publishT_leaves {A : Nat → Prop} {n b : Nat} {T : Int} (htref : ¬A (AXL_TREF n)) (hlat : ¬A (AX_LAT n)) (s : State) :
    Leaves A s (s.publishT n T b) := ((((Leaves.refl s).wrI htref).put hlat).put hlat).modLoop

theorem velLaw_leaves {A : Nat → Prop} {n : Nat} {vm dw : Int} {same : Bool} (hstat : ¬A (AXL_LSTAT n)) (htref : ¬A (AXL_TREF n)) (hlat : ¬A (AX_LAT n))
    (s : State) : Leaves A s (s.velLaw n vm dw same) := by
  unfold State.velLaw
  extract_lets -merge -useContext -underBinder l0 l obs eps vHat tL vfb ev ki imax iV vth ratio fric
  split
  rename_i cog s1 hcog
  have h1 : Leaves A s s1 := by
    have := cogging_leaves hstat s
    rwa [hcog] at this
  extract_lets -merge -useContext -underBinder sum T0 bqen nten
  split
  split
  split
  split
  exact ((h1.putB hstat).modLoop).trans (publishT_leaves htref hlat _)

/-- The velocity limit is judged without a torque-off where the run before it was within the limit (R186). -/
theorem overspeed_first {s : State} {n : Nat} {vm : Int} (hn : n < 80) (hov : (s.loop n).ovRuns = 0) (htoff : (s.loop n).toff = none) :
    LeavesInj s (s.overspeed n vm) ∧ (s.overspeed n vm).time = s.time ∧ ((s.overspeed n vm).loop n).toff = none := by
  have hmod : ∀ f : AxLoop → AxLoop, (∀ l, (f l).toff = l.toff) →
      LeavesInj s (s.modLoop n f) ∧ (s.modLoop n f).time = s.time ∧ ((s.modLoop n f).loop n).toff = none := fun f hf =>
    ⟨(keeps_State_modLoop rfl (Keeps.refl s)).leavesInj, rfl, by rw [loop_modLoop_same hn, hf, htoff]⟩
  unfold State.overspeed
  extract_lets vlim s1
  rw [if_pos hov]
  exact ite_of (P := fun u => LeavesInj s u ∧ u.time = s.time ∧ (u.loop n).toff = none) (hmod _ fun _ => rfl) (hmod _ fun _ => rfl)

theorem InjDue.velRun (h : InjDue k n i d s) (hk : k < 16) (hd : d ≠ 0) (hlast : d ≤ i.k + 1) (hn : n < 32) (henabled : (s.loop n).enabled = true)
    (htoff : (s.loop n).toff = none) (hov : (s.loop n).ovRuns = 0) (hvalid : (s.loop n).inpV.velValid = true) :
    InjEnded k n (i.k + 1) (s.velRun n) := by
  have hlstat : ¬0xE0000 ≤ AXL_LSTAT n := by unfold AXL_LSTAT; omega
  unfold State.velRun State.velBody
  rw [if_pos henabled, if_neg (by simp [htoff]), if_neg (by simp [hvalid])]
  split
  rename_i vm dw s1 hm
  have hs1 : s1 = s ∨ s1 = s.setf (AXL_LSTAT n) AXL_LSTAT_VDSAT := by
    have := measured_state s n
    rwa [hm] at this
  have h1 : InjDue k n i d s1 ∧ s1.loop n = s.loop n := by
    obtain rfl | rfl := hs1
    · exact ⟨h, rfl⟩
    · exact ⟨h.leaves (((Leaves.refl s).setf hlstat).leavesInj (keeps_State_setf rfl (Keeps.refl s))) rfl, rfl⟩
  obtain ⟨hdue1, hloop⟩ := h1
  obtain ⟨hleaves, htime, htoff2⟩ := overspeed_first (vm := vm) (show n < 80 by omega) (hloop ▸ hov) (hloop ▸ htoff)
  extract_lets s2
  rw [if_neg (by simp [s2, htoff2])]
  have hlaw : ∀ u : State, LeavesInj u (u.velLaw n vm dw false) := fun u =>
    (velLaw_leaves hlstat (by unfold AXL_TREF; omega) (by unfold AX_LAT; omega) u).leavesInj (keeps_State_velLaw rfl (Keeps.refl u))
  have hdue3 := (hdue1.leaves hleaves htime).leaves (hlaw s2) ((keeps_State_velLaw (M := maskBut [.time]) rfl (Keeps.refl s2)).same .time rfl)
  exact hdue3.injStep hk hd hlast

/-- The state in which the law of a standard run begins: the run has left its queue, and the time is that of its end (R56). -/
def State.runBegun (s : State) (k : Nat) (r : RunReq) : State :=
  { s.modQueue k fun q => q.drop 1 with
    time := { s.time with tick := s.runStart k r + s.runTicks r, mt := s.mtAt (32 * (s.runStart k r + s.runTicks r)), runAt := s.runStart k r } }

theorem InjDue.runStd {r : RunReq} (h : InjDue k n i d (s.runBegun k r)) (hk : k < 16) (hd : d ≠ 0) (hlast : d ≤ i.k + 1) (hn : n < 32)
    (hkind : r.kind = .vel) (hr : r.axis = n) (henabled : (s.loop n).enabled = true) (htoff : (s.loop n).toff = none)
    (hov : (s.loop n).ovRuns = 0) (hvalid : r.inp.velValid = true) :
    InjEnded k n (i.k + 1) (s.runStd k r fun s => s.withOuts n fun s => s.velRun n) := by
  have hn80 : n < 80 := by omega
  have hlaw : InjEnded k n (i.k + 1) ((s.runBegun k r).withInputs r fun s => s.withOuts n fun s => s.velRun n) := by
    unfold State.withInputs
    rw [hkind]
    dsimp only
    rw [hr]
    generalize ((s.runBegun k r).loop n).inpV = own
    set u := (s.runBegun k r).modLoop n fun l => { l with inpV := r.inp } with hu
    unfold State.withOuts
    generalize u.axisOuts n = outs
    set w := u.modLoop n fun l => { l with outs := outs } with hw
    have hdue : InjDue k n i d w := h.leaves (keeps_State_modLoop rfl (keeps_State_modLoop rfl (Keeps.refl _))).leavesInj rfl
    have hloop : w.loop n = { s.loop n with inpV := r.inp, outs := outs } := by
      rw [hw, loop_modLoop_same hn80, hu, loop_modLoop_same hn80]
      rfl
    have hended : InjEnded k n (i.k + 1) (w.velRun n) := by
      refine hdue.velRun hk hd hlast hn ?_ ?_ ?_ ?_ <;> rw [hloop]
      · exact henabled
      · exact htoff
      · exact hov
      · exact hvalid
    exact hended.leaves (keeps_State_modLoop rfl (keeps_State_modLoop rfl (Keeps.refl _))).leavesInj
  have hover : InjEnded k n (i.k + 1) (s.runOver k r fun s => s.withOuts n fun s => s.velRun n) :=
    hlaw.leaves (keeps_State_modLp rfl (Keeps.up_time rfl (Keeps.refl _))).leavesInj
  have hend := hover.runEnd hr hn80 (e := s.runStart k r + s.runTicks r)
  exact hend.leaves (((Leaves.refl _).duskCheck fromAxes_inj).leavesInj (keeps_State_duskCheck rfl (Keeps.refl _)))

end

/-- The last run of an injection at a velocity run ends it (R194). -/
theorem exec_injDone_ends {s : State} {k : Fin 16} {r : RunReq} {rest : List RunReq} {n : Nat} (hc : s.canonical = true)
    (haxis : s.get (LPINJ_CFG k) LPINJ_CFG_AXIS = n) (hrunning : s.flag (LPINJ_STAT k) LPINJ_STAT_RUNNING = true) (hlp : s.lpOf n = k.val) (hn : n < 32)
    (hqueue : s.queue k = r :: rest) (hkind : r.kind = .vel) (hr : r.axis = n) (hidle : (s.lp k).run = none) (hmode : s.lpMode k = 1)
    (hstd : s.isStd k (s.lpBank k) = true) (hswap : (s.lp k).swapWait = none) (hreached : (s.inj k).startAt + 16 ≤ max r.at_ (s.lp k).free)
    (henabled : (s.loop n).enabled = true) (htoff : (s.loop n).toff = none) (hov : (s.loop n).ovRuns = 0) (hvalid : r.inp.velValid = true)
    (hd : s.rdN (LPINJ_DUR k) ≠ 0) (hlast : s.rdN (LPINJ_DUR k) ≤ (s.inj k).k + 1) : ∃ t, exec (.injDone k) s = .next t ∧
    t.queue k = rest ∧ t.flag (LPINJ_STAT k) LPINJ_STAT_RUNNING = false ∧
    t.flag (LPINJ_STAT k) LPINJ_STAT_DONE = true ∧ (t.inj k).k = (s.inj k).k + 1 := by
  have hhead : HeadRun s .vel n k r rest := ⟨hlp, hqueue, hkind, hr, hidle, hmode⟩
  have hnoswap : ∀ T, (s.lp k).swapWait = some T → s.runStart k r < T := by simp [hswap]
  have hrow : s.injDoneRow k = s.velocityRun n := by
    unfold State.injDoneRow
    rw [haxis]
    dsimp only
    rw [if_neg (by simp [hrunning, hd, hlast]), if_pos hn]
  refine ⟨s.velocityRun n, congrArg Host.Outcome.next hrow, ?_⟩
  have hmade : RunMade s k r rest (s.velocityRun n) := hhead.runLaw_made hstd hnoswap (velRun_keeps n)
  suffices hended : InjEnded k n ((s.inj k).k + 1) (s.velocityRun n) from ⟨hmade.1, hended.stopped, hended.done, hended.steps⟩
  rw [State.velocityRun, hhead.runLaw_eq, swapsBefore_eq_false hnoswap, if_neg Bool.false_ne_true, State.runHead, hstd]
  rw [if_neg (by decide)]
  have hdue : InjDue k n (s.inj k) (s.rdN (LPINJ_DUR k)) (s.runBegun k r) := ⟨hc, hrunning, haxis, rfl, rfl, hlp, hreached⟩
  exact hdue.runStd k.isLt hd hlast hn hkind hr henabled htoff hov hvalid

end Sys2Proof.Machine
end

section
/-! PROOFS. The events and commands of motion (O48). -/

namespace Sys2Proof.Machine

/-- Settles O48: each event and command has the effect that its own rule states. The end of a move and a STOP boundary by what they finish, APPLY by
the captured set that no operation before the boundary touches, the line shaft by the words that its report leaves, and an injection by the
velocity run that makes its last step. -/
theorem motionEventCommandsComplete : Obligations.MotionEventCommandsComplete := by
  unfold Obligations.MotionEventCommandsComplete
  refine ⟨?moveEnd, ?regMiss, ?coast, ?judged, ?lost, ?stop, ?camArm, ?apply, ?position, ?frame, ?injStart, ?injRefused, ?injStop, ?injDone⟩
  case moveEnd => exact fun s n g hc hsegs hrun hramp huse hlast hsrc ht hv ha => exec_moveEnd_last hc hsegs hrun hramp huse hlast hsrc ht hv ha
  case regMiss =>
    exact fun s k o hc hen hgear hsrc hseen hreps hmiss hlim hlt hrun => exec_regMiss_sticky hc hen hgear hsrc hseen hreps hmiss hlim rfl hlt hrun
  case coast =>
    exact fun s k m hc hen hnew hframe hat hcont hstep hlag hcoast => exec_lineShaftCoast_counts hc hen hnew hframe hat hcont hstep hlag hcoast
  case judged => exact fun s k _ hframe => exec_lineShaft_judged hframe
  case lost =>
    exact fun s k m hc hen hnew hframe hat hcont hstep hlag hcoast => exec_lineShaftLost_continues hc hen hnew hframe hat hcont hstep hlag hcoast
  case stop => exact exec_stopBoundary_places
  case camArm => exact fun s n hc hmay => exec_camArm_arms hc hmay
  case apply => exact fun s n hc hmay => exec_loopApply_captures hc hmay
  case position => exact fun s n t0 f hc hrun hat hcap hn hfr hb => exec_loopApplyEffect_position ⟨hc, hat, hcap⟩ hn hrun hfr hb
  case frame => exact fun s n t0 f hc hrun hstep hat hcap hn hb => exec_loopApplyEffect_frame ⟨hc, hat, hcap⟩ hn hrun hstep hb
  case injStart => exact fun s k hc hmay hrun hnoon hbad hramp => exec_injStart_runs hc hmay hrun hnoon hbad hramp
  case injRefused => exact fun s k hc hmay hrun hnoon => exec_injStart_aborts hc hmay hrun hnoon
  case injStop => exact fun s k hc hmay hrun => exec_injStop_stops hc hmay hrun
  case injDone =>
    exact fun s k r rest hc hrun hlp hn hqueue hkind hr hidle hmode hstd hswap hreached henabled htoff hov hvalid hd hlast =>
      exec_injDone_ends hc rfl hrun hlp hn hqueue hkind hr hidle hmode hstd hswap hreached henabled htoff hov hvalid hd hlast

end Sys2Proof.Machine
end
section
/-! PROOFS. Latch inputs, compare outputs and register control (05_latch_compare_register.md): the statement on them fails where a register
list that is not in canonical form reads back another list of a compare output once an unrelated output has disarmed. -/

namespace Sys2Proof.Machine

/-! ### A write to compare RAM on an unordered register list (R153, R157) -/

/-- A running module that may write compare RAM. CO0 has entry 0 armed. CO15 is due to load from a list without entries, so that it
disarms. The register list is not canonical: CO0_LIST, BASE = 8, stands behind CO15_STAT, whose address is higher, and reads 0 until the
clearing of ARMED takes CO15_STAT off the list. -/
def State.uncoveredList : State :=
  { State.reset with
    regs := [(SYS_EXPERT, 0x40), (CO_STAT 15, 0x80), (CO_LIST 0, 0x80000)]
    compares := (State.reset.compares.set 0 { armed := some 0 }).set 15 { armed := some 0, check := some (0, true) }
    pw := { State.reset.pw with phase := .running, fwRun := true } }

theorem uncoveredList_hostMay : State.uncoveredList.hostMay (0x100000 + 4 * 2) := ⟨rfl, by decide +kernel⟩

/-- CO0 is idle, and its armed entry is that of word 2. -/
theorem uncoveredList_armed : (State.uncoveredList.compare 0).hit = none ∧ (State.uncoveredList.compare 0).check = none ∧
    (State.uncoveredList.compare 0).armed = some 0 ∧ State.uncoveredList.get (CO_LIST 0) CO_LIST_BASE = 0 := by decide +kernel

/-- CO15 disarms ahead of the write, CO0_LIST then reads 8, and CO0 sees no write of its entry. -/
theorem uncoveredList_cmpRamWrite : ((State.uncoveredList.cmpRamWrite 2 0).get (CO_LIST 0) CO_LIST_BASE) = 8 ∧
    ((State.uncoveredList.cmpRamWrite 2 0).compare 0).check = none := by decide +kernel

theorem exec_compareRamWrite (j : Fin 262144) (v : Word) (s : State) :
    exec (.compareRamWrite j v) s = .next (s.hostCmd (0x100000 + 4 * j) fun s => s.cmpRamWrite j v) := rfl

/-- Refutes O46, in its clause on the re-reading of an armed entry (R157): unlike the clause on the write itself it lacks the premise that
the state is canonical. The write first lets every output work off what is due, and in `State.uncoveredList` the disarming of CO15
changes what CO0_LIST reads, so that the entry written is no longer the armed one. No run from reset comes to such a list
(`stepKeepsCanonicalForm`); with the premise `s.canonical` this counterexample is gone. -/
theorem not_latchCompareCommandsComplete : ¬ Obligations.LatchCompareCommandsComplete := by
  rintro ⟨-, -, -, -, -, -, -, -, -, -, -, -, hreread, -⟩
  obtain ⟨hhit, hcheck, harmed, hbase⟩ := uncoveredList_armed
  obtain ⟨t, hexec, hdue⟩ := hreread State.uncoveredList 2 0 0 0 uncoveredList_hostMay rfl hhit hcheck harmed (by simp [hbase])
  have ht : State.uncoveredList.cmpRamWrite 2 0 = t := by
    refine (hostCmd_may (f := fun s => s.cmpRamWrite 2 0) uncoveredList_hostMay).symm.trans ?_
    exact Host.Outcome.next.inj ((exec_compareRamWrite 2 0 _).symm.trans hexec)
  rw [← ht] at hdue
  cases uncoveredList_cmpRamWrite.2.symm.trans hdue

end Sys2Proof.Machine
end
section
/-! PROOFS. Support for the commands of the device classes: the words that 64-bit registers hold, and what the admission of a command says of
the state that it enters and of its parameters. -/

namespace Sys2Proof.Machine

/-! ### 64-bit registers -/

section
variable {s t : State} {a b : Nat}

theorem rd64_congr (h : t.regs = s.regs) (a : Nat) : t.rd64 a = s.rd64 a := by
  rw [State.rd64, rd_congr h, rd_congr h, State.rd64]

theorem rd_wr64_ne {v : Word64} (hc : s.canonical = true) (hlow : b ≠ a) (hhigh : b ≠ a + 4) : (s.wr64 a v).rd b = s.rd b := by
  rw [State.wr64, rd_wr_ne (wr_canonical hc) hhigh, rd_wr_ne hc hlow]

theorem get_wr64N_ne {v : Nat} {f : Fld} (hc : s.canonical = true) (hlow : b ≠ a) (hhigh : b ≠ a + 4) :
    (s.wr64N a v).get b f = s.get b f := by
  rw [State.get, State.rdN, State.wr64N, rd_wr64_ne hc hlow hhigh, State.get, State.rdN]

/-- A write leaves the 64-bit registers that share no word with it. -/
theorem rd64_wr64_ne {v : Word64} (hc : s.canonical = true) (h : b + 4 < a ∨ a + 4 < b) : (s.wr64 a v).rd64 b = s.rd64 b := by
  rw [State.rd64, rd_wr64_ne hc (by omega) (by omega), rd_wr64_ne hc (by omega) (by omega), State.rd64]

theorem rd64N_wr64N {v : Nat} (hc : s.canonical = true) (hv : v < 2 ^ 64) : (s.wr64N a v).rd64N a = v := by
  rw [State.rd64N, State.wr64N, rd64_wr64 hc, BitVec.toNat_ofNat, Nat.mod_eq_of_lt hv]

theorem rd64I_wr64I_wrapS {v : Int} (hc : s.canonical = true) : (s.wr64I a (wrapS 64 v)).rd64I a = wrapS 64 v := by
  rw [State.rd64I, State.wr64I, rd64_wr64 hc, wrapS, BitVec.ofInt_toInt]

theorem rd64_put_ne {f : Fld} {v : Nat} (hc : s.canonical = true) (hlow : b ≠ a) (hhigh : b + 4 ≠ a) : (s.put a f v).rd64 b = s.rd64 b := by
  rw [State.rd64, rd_put_ne hc hlow, rd_put_ne hc hhigh, State.rd64]

end

/-! ### Bits of a parameter -/

theorem nbit_of_mod {v k n : Nat} {p : Nat → Bool} (hv : v % 2 ^ n = k) (hk : ∀ i < n, nbit k i = p i) : ∀ i < n, nbit v i = p i := by
  have htest : ∀ x i, nbit x i = x.testBit i := fun x i => Nat.testBit_eq_decide_div_mod_eq.symm
  intro i hi
  rw [← hk i hi, htest, htest, ← hv, Nat.testBit_mod_two_pow, decide_eq_true hi, Bool.true_and]

/-! ### Admission (R484, R504) -/

theorem entryPayload_p (s : State) (e : List Byte) (r : Req) : (s.entryPayload e r).p = r.p := by
  unfold State.entryPayload
  split
  · split <;> rfl
  · rfl

/-- An admitted command is served, only the commands in flight change, and its parameters are those of its words. -/
theorem admits_spec {s s1 : State} {c : Cmd} {op : Nat} {r : Req} (h : s.admits c op = some (s1, r)) :
    s.serves op = true ∧ s1 = { s with inflight := s1.inflight } ∧ r.p = c.p.toList.map (·.toNat) := by
  unfold State.admits at h
  extract_lets r0 at h
  by_cases hserves : s.serves op = true
  · rw [if_neg (by simp [hserves])] at h
    refine ⟨hserves, ?_⟩
    split at h
    · obtain ⟨-, hpair⟩ := Option.ite_none_right_eq_some.1 h
      obtain ⟨hstate, hreq⟩ := Prod.mk.inj (Option.some.inj hpair)
      rw [← hstate, ← hreq]
      exact ⟨rfl, rfl⟩
    · obtain ⟨-, h⟩ := Option.ite_none_left_eq_some.1 h
      obtain ⟨-, hpair⟩ := Option.ite_none_right_eq_some.1 h
      obtain ⟨hstate, hreq⟩ := Prod.mk.inj (Option.some.inj hpair)
      rw [← hstate, ← hreq]
      exact ⟨rfl, entryPayload_p ..⟩
  · rw [if_pos (by simp [hserves])] at h
    cases h

section
variable {s s1 : State} {c : Cmd} {op : Nat} {r : Req} (h : s.admits c op = some (s1, r))
include h

theorem admits_canonical (hc : s.canonical = true) : s1.canonical = true := by
  rw [(admits_spec h).2.1]
  exact hc

theorem admits_P_lt (i : Nat) : r.P i < 2 ^ 32 := by
  rw [Req.P, (admits_spec h).2.2, List.getD_eq_getElem?_getD, List.getElem?_map]
  cases c.p.toList[i]? with
  | none => decide
  | some w => exact w.isLt

theorem admits_P64_lt (i : Nat) : r.P64 i < 2 ^ 64 := by
  have hlow := admits_P_lt h i
  have hhigh := admits_P_lt h (i + 1)
  unfold Req.P64
  omega

/-- Every command but IDENTIFY is served by running firmware (R605). -/
theorem admits_fwRun (hop : op ≠ 1) : s1.pw.fwRun = true := by
  obtain ⟨hserves, hstate, -⟩ := admits_spec h
  rw [hstate]
  simpa [State.serves, hop] using (Bool.and_eq_true_iff.1 hserves).2

/-- A row that is a command answers what the command does to the state that admits it. -/
theorem exec_admits {i : Instr} {go : State → Req → State} (hrow : exec i s = .next (s.command c op go)) : exec i s = .next (go s1 r) :=
  hrow.trans (congrArg Host.Outcome.next (command_admits h))

end

end Sys2Proof.Machine
end
section
/-! PROOFS. The commands of the classes FEEDBACK and LATCH/COMPARE (R153, R164, R515). -/

namespace Sys2Proof.Machine

section
variable {s : State} {r : Req}

/-! ### PORT_CMD (R515) -/

/-- LOAD alone. -/
theorem cmdPort_load (hbits : r.P 0 % 32 = 1) :
    s.cmdPort r = ((s.wr64N (EP_PRESET r.unit) (r.P64 1)).portLoad r.unit).await r.tag .portLoad r.unit := by
  have hbit := nbit_of_mod (n := 5) (p := (· == 0)) hbits (by decide)
  simp [State.cmdPort, State.onBit, hbit]

/-- None of the commands. -/
theorem cmdPort_none (hbits : r.P 0 % 32 = 0) : s.cmdPort r = s.finish r.tag .ok := by
  have hbit := nbit_of_mod (n := 5) (p := fun _ => false) hbits (by decide)
  simp [State.cmdPort, State.onBit, hbit]

theorem port_modPort_same {p : Nat} {f : EPort → EPort} (hp : p < 40) : (s.modPort p f).port p = f (s.port p) := vget_vmod_same hp

/-! ### LATCH_READ (R515) -/

theorem latchDrain_empty {n : Nat} (hfifo : (s.latch n).fifo = []) (k : Nat) : s.latchDrain n k = ([], s) := by
  cases k with
  | zero => rfl
  | succ k => rw [State.latchDrain, if_pos (by simp [hfifo])]

theorem cmdLatchRead_empty (hfifo : (s.latch r.unit).fifo = []) : s.cmdLatchRead r = s.finish r.tag .ok := by
  rw [State.cmdLatchRead, latchDrain_empty hfifo]
  rfl

/-- The 24 bytes of the head entry as LATCH_READ returns it. -/
def State.latchHead (s : State) (n : Nat) : List Byte :=
  leBytes 8 (s.rd64N (LI_ESTAMP n)) ++ leBytes 8 (s.rd64N (LI_EPOS n)) ++ leBytes 4 (s.rdN (LI_EFLAG n)) ++ leBytes 4 0

theorem latchDrain_one {n : Nat} (hfifo : (s.latch n).fifo ≠ []) : s.latchDrain n 1 = (s.latchHead n, s.latchPop n) := by
  rw [State.latchDrain, if_neg (by simpa using hfifo)]
  exact Prod.ext (List.append_nil _) rfl

theorem cmdLatchRead_one (hfifo : (s.latch r.unit).fifo ≠ []) (hcount : r.P 0 = 1) :
    s.cmdLatchRead r = (s.latchPop r.unit).finish r.tag .ok 1 0 0 (s.latchHead r.unit) := by
  have hlen : (s.latchHead r.unit).length / 24 = 1 := by simp [State.latchHead]
  rw [State.cmdLatchRead, hcount, latchDrain_one hfifo]
  dsimp only
  rw [hlen]

/-! ### COMPARE_LOAD (R515) -/

/-- What is due to the outputs before the write leaves compare RAM alone. -/
theorem cmpRamWrite_cmpRam (s : State) (j : Nat) (v : Word) : (s.cmpRamWrite j v).mem.cmpRam = wmSet s.mem.cmpRam j v := by
  unfold State.cmpRamWrite
  extract_lets s0 m s1
  have hupdate : s0.mem.cmpRam = s.mem.cmpRam :=
    ((Keeps.refl s).forEach fun _ _ h => keeps_State_coUpdate (M := maskBut [.cmpRam]) rfl h).same .cmpRam rfl
  clear_value s0
  have hwrite : s1.mem.cmpRam = wmSet s.mem.cmpRam j v := by rw [← hupdate]
  split
  · refine (forEach_same (p := .cmpRam) fun t n => ?_).trans hwrite
    split
    · rfl
    · split <;> rfl
  · exact hwrite

theorem canonical_cmpRam (hc : s.canonical = true) : wmWf s.mem.cmpRam = true := by
  obtain ⟨-, hmem⟩ := canonical_parts.1 hc
  obtain ⟨⟨⟨⟨⟨⟨⟨⟨hcmp, -⟩, -⟩, -⟩, -⟩, -⟩, -⟩, -⟩, -⟩ := Memory.wf_parts.1 hmem
  exact hcmp

/-- Words written one after another from word `b` of compare RAM. -/
def State.cmpRamFill (s : State) (b : Nat) (f : Nat → Word) (k : Nat) : State :=
  (List.range k).foldl (fun s i => s.cmpRamWrite (b + i) (f i)) s

theorem cmpRamFill_succ (s : State) (b : Nat) (f : Nat → Word) (k : Nat) :
    s.cmpRamFill b f (k + 1) = (s.cmpRamFill b f k).cmpRamWrite (b + k) (f k) := by
  simp [State.cmpRamFill, List.range_succ]

theorem cmpRamFill_canonical (hc : s.canonical = true) (b : Nat) (f : Nat → Word) (k : Nat) : (s.cmpRamFill b f k).canonical = true :=
  foldl_of (P := fun t : State => t.canonical = true) hc fun t _ ht =>
    (keeps_State_cmpRamWrite (M := partMask Part.all) rfl (Keeps.refl t)).canon ht

theorem cmpRamFill_get (hc : s.canonical = true) (b : Nat) (f : Nat → Word) (k j : Nat) :
    wmGet (s.cmpRamFill b f k).mem.cmpRam j = if b ≤ j ∧ j < b + k then f (j - b) else wmGet s.mem.cmpRam j := by
  induction k with
  | zero => exact (if_neg (by omega)).symm
  | succ k ih =>
    rw [cmpRamFill_succ, cmpRamWrite_cmpRam, wmGet_wmSet (canonical_cmpRam (cmpRamFill_canonical hc b f k)), ih]
    by_cases hlast : j = b + k
    · rw [if_pos hlast, if_pos (by omega), hlast, Nat.add_sub_cancel_left]
    · rw [if_neg hlast]
      exact if_congr (by omega) rfl rfl

theorem cmdCompareLoad_fill (hentries : ∀ i < r.P 1, bU r.data (16 * i + 11) 1 < 32 ∧ bU r.data (16 * i + 12) 4 = 0) :
    s.cmdCompareLoad r =
      (s.cmpRamFill (4 * r.P 0) (fun i => BitVec.ofNat 32 (bU r.data (4 * i) 4)) (4 * r.P 1)).finish r.tag .ok := by
  unfold State.cmdCompareLoad
  extract_lets wrong
  have hwrong : wrong = none := by
    refine List.findSome?_eq_none_iff.2 fun i hi => ?_
    obtain ⟨hflags, hrest⟩ := hentries i (List.mem_range.1 hi)
    simp [Nat.div_eq_of_lt hflags, hrest]
  rw [hwrong]
  rfl

/-! ### COMPARE_ARM (R153) -/

theorem cmdCompareArm_list (hbits : r.P 0 % 4 = 0) :
    s.cmdCompareArm r = ((s.regStore (CO_LIST r.unit) (r.P 1)).regStore (CO_CYCOFS r.unit) (r.P64 2)).finish r.tag .ok := by
  have hbit := nbit_of_mod (n := 2) (p := fun _ => false) hbits (by decide)
  simp [State.cmdCompareArm, State.onBit, hbit]

theorem cmdCompareArm_arm (hbits : r.P 0 % 4 = 1) :
    s.cmdCompareArm r = (((s.regStore (CO_LIST r.unit) (r.P 1)).regStore (CO_CYCOFS r.unit) (r.P64 2)).coArm r.unit
      (nbits (r.P 0) 27 16)).finish r.tag .ok := by
  have hbit := nbit_of_mod (n := 2) (p := (· == 0)) hbits (by decide)
  simp [State.cmdCompareArm, State.onBit, hbit]

/-! ### REG_TARGET (R164) -/

theorem cmdRegTarget_write (hhost : nbit (s.rdN SYS_HAMODE) 3 = true) (hramp : s.ramping (s.get (RC_CFG r.unit) RC_CFG_FAX) = false) :
    s.cmdRegTarget r = ((s.wr64N (RC_HTGT r.unit) (r.P64 0)).regTarget r.unit (r.S64 0) (s.tick + 32)).finish r.tag .ok := by
  rw [State.cmdRegTarget, if_neg (by simp [hhost]), if_neg (by simp [hramp])]

theorem cmdRegTarget_noHamode (hhost : nbit (s.rdN SYS_HAMODE) 3 = false) :
    s.cmdRegTarget r = s.finish r.tag .hamode (s.rdN SYS_HAMODE) := if_pos (by simp [hhost])

theorem clampI_of_mem {lo hi x : Int} (hlo : lo ≤ x) (hhi : x ≤ hi) : clampI lo hi x = x := by
  rw [clampI, min_eq_right hhi, max_eq_right hlo]

/-- A target within the limit, written from 64 bits. -/
theorem regTarget_spec {k from_ : Nat} {v : Int} (hc : s.canonical = true) (hk : k < 32) (hlo : -(s.rd64I (RC_LIMIT k)) ≤ wrapS 64 v)
    (hhi : wrapS 64 v ≤ s.rd64I (RC_LIMIT k)) : (s.regTarget k (wrapS 64 v) from_).rd64I (RC_TGT k) = wrapS 64 v ∧
    ((s.regTarget k (wrapS 64 v) from_).rc k).tgts.head? = some (from_, wrapS 64 v) ∧
    (s.regTarget k (wrapS 64 v) from_).rd64 (RC_HTGT k) = s.rd64 (RC_HTGT k) := by
  have hclamp : clampI (-(s.rd64I (RC_LIMIT k))) (s.rd64I (RC_LIMIT k)) (wrapS 64 v) = wrapS 64 v := clampI_of_mem hlo hhi
  unfold State.regTarget
  extract_lets lim c s1
  have hs1 : s1 = s := if_pos hclamp
  rw [show c = wrapS 64 v from hclamp, hs1]
  refine ⟨rd64I_wr64I_wrapS (by exact hc), ?_, ?_⟩
  · rw [State.rc, State.wr64I_rcs]
    exact congrArg (fun r : RcSt => r.tgts.head?) (rc_modRc_same hk)
  · exact rd64_wr64_ne (by exact hc) (.inr (by unfold RC_TGT RC_HTGT; omega))

end

end Sys2Proof.Machine
end
section
/-! PROOFS. The commands of the classes NET and CAN (R329, R358, R376, R459, R463, R516). -/

namespace Sys2Proof.Machine

section
variable {s : State} {r : Req}

/-! ### PTP_CORRECT, RAMAUX_TABLE and EPOCH_ARM (R329, R358, R376) -/

theorem cmdPtpCorrect_trim (hhost : s.ptpHost = true) (hstep : r.S64 1 = 0) :
    s.cmdPtpCorrect r = ((s.modPtp fun p => { p with corrAt := s.tick }).ntTrim (wrapS 32 (r.P 0))).finish r.tag .ok := by
  rw [State.cmdPtpCorrect, if_neg (by simp [hhost]), State.ptpCorrect, hstep]
  rfl

theorem cmdPtpCorrect_noHamode (hhost : s.ptpHost = false) : s.cmdPtpCorrect r = s.finish r.tag .hamode (s.rdN SYS_HAMODE) :=
  if_pos (by simp [hhost])

theorem cmdRamauxTable_ok {t : State} (h : s.tableSteps (!r.bit 0 0) (r.P 2) (r.P 1) 0 r.data = .ok t) :
    s.cmdRamauxTable r = t.finish r.tag .ok := by
  rw [State.cmdRamauxTable, h]

theorem cmdRamauxTable_error {o : Nat} (h : s.tableSteps (!r.bit 0 0) (r.P 2) (r.P 1) 0 r.data = .error o) :
    s.cmdRamauxTable r = s.finish r.tag .badParam (2 ^ 31 + o) := by
  rw [State.cmdRamauxTable, h]
  rfl

/-- The registers of an epoch change as EPOCH_ARM fills them. -/
def State.epochFilled (s : State) (r : Req) : State := (s.put RM_NEXT RM_NEXT_NEPOCH (r.P 0)).wr64N RM_ACTFRAME (r.P64 1)

theorem epochFilled_canonical (hc : s.canonical = true) : (s.epochFilled r).canonical = true := wr64N_canonical (put_canonical hc)

theorem epochFilled_regs (hc : s.canonical = true) : (s.epochFilled r).epoch = s.epoch ∧
    (s.epochFilled r).flag RM_NEXT RM_NEXT_PEND = s.flag RM_NEXT RM_NEXT_PEND := by
  unfold State.epochFilled State.epoch State.flag
  rw [get_wr64N_ne (put_canonical hc) (by decide) (by decide), get_put_ne hc (by decide),
    get_wr64N_ne (put_canonical hc) (by decide) (by decide), get_put_other hc (by decide) (by decide)]
  exact ⟨rfl, rfl⟩

/-- The change is armed and the command waits for it: another epoch, no change before, and ACTFRAME at least 3 frames ahead. -/
theorem cmdEpochArm_armed (hc : s.canonical = true) (hzero : r.P 0 ≠ 0) (hepoch : r.P 0 ≠ s.epoch) (hact : s.time.frameNum + 3 ≤ r.P64 1)
    (hchange : s.rm.change = none) (hidle : s.flag RM_NEXT RM_NEXT_PEND = false) :
    s.cmdEpochArm r = (((s.epochFilled r).setf RM_NEXT RM_NEXT_PEND).modRm fun m => { m with armed := some (r.P 0, r.P64 1) }).await
      r.tag .epoch 0 := by
  obtain ⟨hsame, hpend⟩ := epochFilled_regs (r := r) hc
  have harm : (s.epochFilled r).epochArm (r.P 0) (r.P64 1) =
      (true, ((s.epochFilled r).setf RM_NEXT RM_NEXT_PEND).modRm fun m => { m with armed := some (r.P 0, r.P64 1) }) := by
    have hnone : (s.epochFilled r).rm.change = none := hchange
    have htime : (s.epochFilled r).time = s.time := rfl
    rw [State.epochArm, hnone]
    exact if_neg (by simp [hsame, hpend, htime, hzero, hepoch, hidle, hact])
  unfold State.cmdEpochArm
  rw [if_neg (by simp [hidle])]
  dsimp only
  rw [← State.epochFilled, harm]

theorem cmdEpochArm_pending (hpend : s.flag RM_NEXT RM_NEXT_PEND = true) :
    s.cmdEpochArm r = (s.setf RM_NEXT RM_NEXT_EPREFUSED).finish r.tag .epochRefused := by
  have harm : s.epochArm (r.P 0) (r.P64 1) = (false, s.setf RM_NEXT RM_NEXT_EPREFUSED) := if_pos (by simp [hpend])
  unfold State.cmdEpochArm
  rw [if_pos hpend]
  dsimp only
  rw [harm]

/-! ### Images (R506) -/

/-- A register takes its value whole where `State.imageRegTaken` says so, and becomes what `State.imageRegPut` says. -/
theorem imageReg_of_taken {h : Hit} {a v : Nat} (htaken : s.imageRegTaken h a v = true) : s.imageReg h a v = some (s.imageRegPut h a v) := by
  by_cases hro : h.reg.fields.all (fun f => f.acc.isRo) = true
  · rw [State.imageReg, if_pos hro, State.imageRegPut, if_pos hro]
  · have hput : s.imageRegPut h a v = s.regApply false h a (v - h.bitsOf Acc.isRo v) := if_neg hro
    simp only [State.imageRegTaken, hro, Bool.false_or, Bool.and_eq_true, Bool.not_eq_true', beq_iff_eq, hput] at htaken
    obtain ⟨⟨hreserved, hwo⟩, hheld⟩ := htaken
    rw [State.imageReg, if_neg hro, if_neg (by simp [hreserved, hwo]), hput]
    exact if_pos hheld

theorem imageSteps_of_taken {items : List (Nat × Nat)} : ∀ {s : State} {b : List Byte} {o : Nat}, s.imageTaken items b = true →
    s.imageSteps o items b = .ok (s.imagePut items b) := by
  induction items with
  | nil => intros; rfl
  | cons x rest ih =>
    obtain ⟨a, k⟩ := x
    intro s b o htaken
    unfold State.imageTaken at htaken
    unfold State.imageSteps State.imagePut
    cases hhit : regHit a with
    | none =>
      simp only [hhit, Bool.and_eq_true, beq_iff_eq] at htaken
      simp only [htaken.1, ↓reduceIte]
      exact ih htaken.2
    | some h =>
      simp only [hhit, Bool.and_eq_true] at htaken
      simp only [imageReg_of_taken htaken.1]
      exact ih htaken.2

/-! ### CAN_SEND, CAN_READ and CAN_RECOVER (R459, R463, R516) -/

/-- The words of transmit buffer `k` as an image. -/
def canBufItems (n k : Nat) : List (Nat × Nat) := imageItems (spanOf (CANBUF_W0 n k) 24)

theorem cmdCanSend_request (hdir : nbit (s.rd64N (CAN_BDIR r.unit)) (r.P 0 % 64) = true) (hidle : s.canPending r.unit (r.P 0 % 64) = false)
    (htaken : s.imageTaken (canBufItems r.unit (r.P 0 % 64)) r.data = true) :
    let t := (s.imagePut (canBufItems r.unit (r.P 0 % 64)) r.data).canTxgo r.unit (2 ^ (r.P 0 % 64))
    s.cmdCanSend r = if r.bit 0 8 then t.await r.tag .canTx (64 * r.unit + r.P 0 % 64) else t.finish r.tag .ok := by
  have himage : s.applyImage (spanOf (CANBUF_W0 r.unit (r.P 0 % 64)) 24) r.data = .ok (s.imagePut (canBufItems r.unit (r.P 0 % 64)) r.data) :=
    imageSteps_of_taken htaken
  unfold State.cmdCanSend
  dsimp only
  rw [if_neg (by simp [hdir]), if_neg (by simp [hidle]), himage]

theorem cmdCanSend_busy (hdir : nbit (s.rd64N (CAN_BDIR r.unit)) (r.P 0 % 64) = true) (hpending : s.canPending r.unit (r.P 0 % 64) = true) :
    s.cmdCanSend r = s.finish r.tag .busy := by
  unfold State.cmdCanSend
  dsimp only
  rw [if_neg (by simp [hdir]), if_pos hpending]

theorem cmdCanRead_buffer (hsel : r.P 0 = 0) :
    s.cmdCanRead r = (s.freshClear r.unit (r.P 1)).finish r.tag .ok 1 0 0
      ((spanOf (CANBUF_W0 r.unit (r.P 1)) 24).flatMap fun x => leBytes 4 ((s.freshClear r.unit (r.P 1)).rdN x)) := if_pos hsel

theorem canDrain_empty {n j : Nat} (hlevel : s.get (canFifo n j) CAN_FIFO0_LEVEL = 0) (k : Nat) : s.canDrain n j k = ([], s) := by
  cases k with
  | zero => rfl
  | succ k => rw [State.canDrain, if_pos hlevel]

theorem cmdCanRead_empty (hsel : r.P 0 ≠ 0) (hlevel : s.get (canFifo r.unit (r.P 0 - 1)) CAN_FIFO0_LEVEL = 0) :
    s.cmdCanRead r = s.finish r.tag .ok := by
  unfold State.cmdCanRead
  dsimp only
  rw [if_neg hsel, canDrain_empty hlevel]
  dsimp only
  rw [List.length_nil, Nat.zero_div]

theorem can_modCan_same {n : Nat} {f : CanSt → CanSt} (hn : n < 4) : (s.modCan n f).can n = f (s.can n) := vget_vmod_same hn

theorem cmdCanRecover_busOff (hoff : s.canBusOff r.unit = true) :
    s.cmdCanRecover r = (s.modCan r.unit fun c => { c with recov := true }).finish r.tag .ok := by
  rw [State.cmdCanRecover, State.canRecover, if_pos hoff]

theorem cmdCanRecover_busOn (hon : s.canBusOff r.unit = false) : s.cmdCanRecover r = s.finish r.tag .ok := by
  rw [State.cmdCanRecover, State.canRecover, if_neg (by simp [hon])]

end

end Sys2Proof.Machine
end
section
/-! PROOFS. The commands of the classes IO, SAFE, ACQ, LOG and TWIN (R379, R388, R393, R446, R450, R552, R577, R579). -/

namespace Sys2Proof.Machine

section
variable {s : State} {r : Req}

/-! ### IO_WRITE, GROUP_REARM and SAFE_STATUS (R446, R450, R517) -/

theorem dioOut_regs (s : State) (w : Word) : (s.dioOut w.toNat).regs = (s.wr DIOG_OUT w).regs := by
  have hword : s.wrN DIOG_OUT w.toNat = s.wr DIOG_OUT w := by rw [State.wrN, BitVec.ofNat_toNat, BitVec.setWidth_eq]
  rw [State.dioOut, hword]
  refine forEach_same (p := .regs) fun t n => ?_
  split <;> rfl

theorem cmdGroupRearm_done (hstate : s.fgState r.unit = 0) :
    s.cmdGroupRearm r = (s.clrf (FG_STAT r.unit) FG_STAT_HOLD).finish r.tag .ok := by
  rw [State.cmdGroupRearm, State.fgRearm, if_pos hstate]

theorem cmdGroupRearm_refused (hstate : s.fgState r.unit ≠ 0) :
    s.cmdGroupRearm r = (s.setf (FG_STAT r.unit) FG_STAT_REARM_REFUSED).finish r.tag .clearRefused
      ((s.setf (FG_STAT r.unit) FG_STAT_REARM_REFUSED).rdN (FG_STAT r.unit)) := by
  rw [State.cmdGroupRearm, State.fgRearm, if_neg hstate]

theorem cmdSafeStatus_words (s : State) (r : Req) : s.cmdSafeStatus r =
    (s.readWords SF_STAT 192).2.finish r.tag .ok (bU (s.readWords SF_STAT 192).1 0 4) 0 0 (s.readWords SF_STAT 192).1 := by
  unfold State.cmdSafeStatus
  generalize s.readWords SF_STAT 192 = x
  rfl

/-! ### CAPTURE_ARM and CAPTURE_READ (R517, R552) -/

theorem cmdCaptureArm_armed (hcause : s.armCause r.unit = 0) :
    s.cmdCaptureArm r = if r.bit 0 0 then (s.cuArm r.unit).2.await r.tag .captureTrigger r.unit else (s.cuArm r.unit).2.finish r.tag .ok := by
  have hzero : s.cuArm r.unit = (0, (s.cuArm r.unit).2) := by
    unfold State.cuArm
    dsimp only
    rw [if_neg (by simp [hcause])]
  rw [State.cmdCaptureArm, hzero]
  rfl

/-- Cause 2: the unit's memory does not fit, or another unit has it. -/
theorem cmdCaptureArm_busy (hcause : s.armCause r.unit = 2) :
    s.cmdCaptureArm r = ((s.setf (CU_STAT r.unit) CU_STAT_ARMREF).put (CU_STAT r.unit) CU_STAT_ARMCAUSE 2).finish r.tag .busy := by
  have hrefused : s.cuArm r.unit = (2, (s.setf (CU_STAT r.unit) CU_STAT_ARMREF).put (CU_STAT r.unit) CU_STAT_ARMCAUSE 2) := by
    unfold State.cuArm
    dsimp only
    rw [hcause, if_pos (by decide)]
  rw [State.cmdCaptureArm, hrefused]
  rfl

theorem cmdCaptureRead_rows (hrange : r.P64 0 + r.P 2 ≤ s.cuDepth r.unit * s.cuSegs r.unit) :
    s.cmdCaptureRead r = s.finish r.tag .ok 0 0 0 ((List.range (r.P 2)).flatMap fun i =>
      (List.range (s.rowWords r.unit)).flatMap fun j => leBytes 4 (s.capWord r.unit
        (s.rowAt r.unit ((r.P64 0 + i) / max 1 (s.cuDepth r.unit)) ((r.P64 0 + i) % max 1 (s.cuDepth r.unit)) + j)).toNat) :=
  if_neg (Nat.not_lt.2 hrange)

theorem cmdCaptureRead_first (hrange : s.cuDepth r.unit * s.cuSegs r.unit < r.P64 0) : s.cmdCaptureRead r = s.bad r 24 := by
  unfold State.cmdCaptureRead
  dsimp only
  rw [if_pos (by omega), if_pos hrange]

/-! ### LOG_READ, LOG_FREEZE and LOG_CLEAR (R576, R577, R579) -/

theorem cmdLogRead_records (hraw : r.bit 2 0 = false) :
    s.cmdLogRead r = s.finish r.tag .ok ((s.logRead (r.P64 0) (s.roomOf r.tag) false).2 % 2 ^ 32)
      ((s.logRead (r.P64 0) (s.roomOf r.tag) false).2 / 2 ^ 32) 0 (s.logRead (r.P64 0) (s.roomOf r.tag) false).1 := by
  rw [State.cmdLogRead, if_neg (by simp [hraw]), hraw]

theorem cmdLogRead_noHamode (hraw : r.bit 2 0 = true) (hhost : nbit (s.rdN SYS_HAMODE) 5 = false) :
    s.cmdLogRead r = s.finish r.tag .hamode (s.rdN SYS_HAMODE) := if_pos (by simp [hraw, hhost])

/-- The measure of the staging RAM lies in LOG_STAT beside FROZEN. -/
theorem stageRegs_flags (hc : s.canonical = true) : s.stageRegs.flag LOG_STAT LOG_STAT_FROZEN = s.flag LOG_STAT LOG_STAT_FROZEN ∧
    s.stageRegs.get LOG_LOST LOG_LOST_FRZ = s.get LOG_LOST LOG_LOST_FRZ := by
  unfold State.stageRegs State.putB State.flag
  extract_lets u
  rw [get_put_other (put_canonical hc) (by decide) (by decide), get_put_other hc (by decide) (by decide),
    get_put_ne (put_canonical hc) (by decide), get_put_ne hc (by decide)]
  exact ⟨rfl, rfl⟩

/-- The registers of a frozen book: FROZEN is set, and no record counts as lost. -/
theorem frozenRegs_flags (hc : s.canonical = true) :
    ((s.setf LOG_STAT LOG_STAT_FROZEN).put LOG_LOST LOG_LOST_FRZ 0).flag LOG_STAT LOG_STAT_FROZEN = true ∧
    ((s.setf LOG_STAT LOG_STAT_FROZEN).put LOG_LOST LOG_LOST_FRZ 0).get LOG_LOST LOG_LOST_FRZ = 0 := by
  refine ⟨?_, get_put_same (setf_canonical hc) (by decide)⟩
  rw [State.flag, get_put_ne (setf_canonical hc) (by decide)]
  exact flag_setf hc (by decide) (by decide)

/-- A freeze of a book that took no record in this tick stages none of them. -/
theorem freeze_spec (hc : s.canonical = true) (hthawed : s.frozen = false) (hquiet : s.log.appAt ≠ s.tick) :
    s.freeze.log = { s.log with frozen := some s.tick, thaw := none, staging := [] } ∧ s.freeze.flag LOG_STAT LOG_STAT_FROZEN = true ∧
    s.freeze.get LOG_LOST LOG_LOST_FRZ = 0 := by
  obtain ⟨hflag, hlost⟩ := frozenRegs_flags hc
  unfold State.freeze
  rw [if_neg (by simp [hthawed])]
  extract_lets now
  have hnow : now = fun _ => false := funext fun x => by simp [now, hquiet]
  set u := (s.setf LOG_STAT LOG_STAT_FROZEN).put LOG_LOST LOG_LOST_FRZ 0 with hu
  have huc : u.canonical = true := put_canonical (setf_canonical hc)
  have hulog : u.log = s.log := rfl
  clear_value u
  set m := u.modLog fun l => { l with frozen := some s.tick, thaw := none, buffer := l.buffer.filter fun x => !now x, staging := l.buffer.filter now }
  have hlog : m.stageRegs.log = { s.log with frozen := some s.tick, thaw := none, staging := [] } := by
    simp [m, State.stageRegs, hnow, hulog]
  have hregs : m.regs = u.regs := State.modLog_regs ..
  obtain ⟨hmflag, hmlost⟩ := stageRegs_flags (s := m) ((keeps_State_modLog (M := partMask [.log]) rfl (Keeps.refl u)).canon huc)
  refine ⟨hlog, ?_, ?_⟩
  · rw [hmflag, State.flag, get_congr hregs, ← State.flag, hflag]
  · rw [hmlost, get_congr hregs, hlost]

/-- An unfreeze after which no GAP record is due puts the staged records behind the buffered ones. -/
structure Thawed (s t : State) : Prop where
  frozen : t.log.frozen = none
  buffer : t.log.buffer = s.log.buffer ++ s.log.staging
  staging : t.log.staging = []
  store : t.log.store = s.log.store

theorem unfreeze_thawed (hfrozen : s.frozen = true) (hlost : s.get LOG_LOST LOG_LOST_FRZ = 0) : Thawed s s.unfreeze := by
  unfold State.unfreeze
  rw [if_neg (by simp [hfrozen])]
  dsimp only
  rw [if_pos hlost]
  exact ⟨rfl, rfl, rfl, rfl⟩

theorem advanceTo_of_le {t : Nat} (h : t ≤ s.tick) : s.advanceTo t = s := if_neg (Nat.not_lt.2 h)

/-- The unfreeze command, before and after the end of FRZMAX. -/
theorem unfreezeCmd_thawed (hfrozen : s.frozen = true) (hlost : s.get LOG_LOST LOG_LOST_FRZ = 0) (hrun : s.pw.fwRun = true) :
    Thawed s s.unfreezeCmd := by
  have hthaw := unfreeze_thawed hfrozen hlost
  obtain ⟨t0, ht0⟩ := Option.isSome_iff_exists.1 hfrozen
  unfold State.unfreezeCmd
  rw [ht0]
  dsimp only
  split
  next hdue =>
    rw [State.freezeTimeout, if_neg (by simp [hrun]), ht0]
    dsimp only
    rw [advanceTo_of_le hdue]
    exact ⟨hthaw.frozen, hthaw.buffer, hthaw.staging, hthaw.store⟩
  next => exact hthaw

theorem cmdLogClear_frozen (hfrozen : s.frozen = true) : s.cmdLogClear r = s.finish r.tag .busy := by
  have hclear : s.logClear r.data = (.busy, s) := if_pos hfrozen
  rw [State.cmdLogClear, hclear]
  rfl

/-! ### TWIN_START, JOIN and HANDOVER (R379, R388, R393) -/

theorem cmdTwinStart_active (hactive : r.bit 0 0 = true) : s.cmdTwinStart r = (s.modTw fun t => { t with named := 1 }).finish r.tag .ok := by
  rw [State.cmdTwinStart, hactive]
  rfl

theorem cmdTwinStart_watch (hwatch : r.bit 0 0 = false) :
    s.cmdTwinStart r = ((s.modTw fun t => { t with named := 2 }).setRole 2 0).finish r.tag .ok := by
  rw [State.cmdTwinStart, hwatch]
  rfl

theorem cmdHandover_armed (hc : s.canonical = true) (hidle : s.flag TW_HO TW_HO_PEND = false) (hready : s.flag TW_STAT TW_STAT_PEER_READY = true)
    (hlead : s.time.frameNum + 2 ≤ r.P64 0) (hframe : r.P64 0 < 2 ^ 64) :
    s.cmdHandover r = ((s.wr64N TW_HOFRAME (r.P64 0)).setf TW_HO TW_HO_PEND).await r.tag .hoframe 0 := by
  set u := s.wr64N TW_HOFRAME (r.P64 0) with hu
  have hpend : u.flag TW_HO TW_HO_PEND = false := by rw [State.flag, hu, get_wr64N_ne hc (by decide) (by decide), ← State.flag, hidle]
  have hpeer : u.flag TW_STAT TW_STAT_PEER_READY = true := by
    rw [State.flag, hu, get_wr64N_ne hc (by decide) (by decide), ← State.flag, hready]
  have hgo : u.handoverGo = (true, u.setf TW_HO TW_HO_PEND) := by
    have htime : u.time = s.time := rfl
    have hat : u.rd64N TW_HOFRAME = r.P64 0 := rd64N_wr64N hc hframe
    exact if_pos (by simp [hpend, hpeer, htime, hat, hlead])
  unfold State.cmdHandover
  rw [if_neg (by simp [hidle])]
  dsimp only
  rw [← hu, hgo]

theorem cmdHandover_pending (hpend : s.flag TW_HO TW_HO_PEND = true) :
    s.cmdHandover r = (s.setf TW_HO TW_HO_HOREF).finish r.tag .horef := by
  have hgo : s.handoverGo = (false, s.setf TW_HO TW_HO_HOREF) := if_neg (by simp [hpend])
  unfold State.cmdHandover
  rw [if_pos hpend]
  dsimp only
  rw [hgo]

end

end Sys2Proof.Machine
end
section
/-! PROOFS. The commands of the device classes (O59). -/

namespace Sys2Proof.Machine

/-! ### The commands that change more than their completion -/

section
variable {s s1 : State} {c : Cmd} {r : Req}

theorem exec_portCmd_load (h : s.admits c 0x1401 = some (s1, r)) (hunit : r.unit < 16) (hbits : r.P 0 % 32 = 1) (hc : s.canonical = true) :
    ∃ t : State, exec (.portCmd c) s = .next t ∧ (t.port r.unit).load = true ∧ t.rd64N (EP_PRESET r.unit) = r.P64 1 ∧
    t.waits = s1.waits ++ [(⟨r.tag, .portLoad, r.unit⟩ : Wait)] ∧ t.completions = s1.completions := by
  refine ⟨_, (exec_admits h rfl).trans (congrArg _ (cmdPort_load hbits)), ?_, ?_, rfl, rfl⟩
  · exact congrArg EPort.load (port_modPort_same (by omega))
  · exact rd64N_wr64N (admits_canonical h hc) (admits_P64_lt h 1)

theorem exec_compareLoad_fill (h : s.admits c 0x1802 = some (s1, r)) (hc : s.canonical = true)
    (hentries : ∀ i < r.P 1, bU r.data (16 * i + 11) 1 < 32 ∧ bU r.data (16 * i + 12) 4 = 0) :
    ∃ t : State, exec (.compareLoad c) s = .next t ∧
    (∀ i < 4 * r.P 1, wmGet t.mem.cmpRam (4 * r.P 0 + i) = BitVec.ofNat 32 (bU r.data (4 * i) 4)) ∧
    ∀ j, (j < 4 * r.P 0 ∨ 4 * r.P 0 + 4 * r.P 1 ≤ j) → wmGet t.mem.cmpRam j = wmGet s1.mem.cmpRam j := by
  refine ⟨_, (exec_admits h rfl).trans (congrArg _ (cmdCompareLoad_fill hentries)), fun i hi => ?_, fun j hj => ?_⟩
  · rw [State.finish_mem, cmpRamFill_get (admits_canonical h hc), if_pos (by omega), Nat.add_sub_cancel_left]
  · rw [State.finish_mem, cmpRamFill_get (admits_canonical h hc), if_neg (by omega)]

theorem exec_regTarget_written (h : s.admits c 0x1806 = some (s1, r)) (hc : s.canonical = true) (hunit : r.unit < 8)
    (hhost : nbit (s1.rdN SYS_HAMODE) 3 = true) (hramp : s1.ramping (s1.get (RC_CFG r.unit) RC_CFG_FAX) = false)
    (hlo : -(s1.rd64I (RC_LIMIT r.unit)) ≤ r.S64 0) (hhi : r.S64 0 ≤ s1.rd64I (RC_LIMIT r.unit)) :
    ∃ t : State, exec (.regTarget c) s = .next t ∧ t.rd64I (RC_TGT r.unit) = r.S64 0 ∧ t.rd64N (RC_HTGT r.unit) = r.P64 0 ∧
    (t.rc r.unit).tgts.head? = some (s1.tick + 32, r.S64 0) := by
  have hc1 := admits_canonical h hc
  have hlimit : (s1.wr64N (RC_HTGT r.unit) (r.P64 0)).rd64I (RC_LIMIT r.unit) = s1.rd64I (RC_LIMIT r.unit) := by
    rw [State.rd64I, State.wr64N, rd64_wr64_ne hc1 (.inl (by unfold RC_LIMIT RC_HTGT; omega)), State.rd64I]
  obtain ⟨htgt, hhead, hhtgt⟩ := regTarget_spec (s := s1.wr64N (RC_HTGT r.unit) (r.P64 0)) (k := r.unit) (from_ := s1.tick + 32)
    (v := (r.P64 0 : Int)) (wr64N_canonical hc1) (by omega) (by rw [hlimit]; exact hlo) (by rw [hlimit]; exact hhi)
  refine ⟨_, (exec_admits h rfl).trans (congrArg _ (cmdRegTarget_write hhost hramp)), ?_, ?_, ?_⟩
  · rw [State.rd64I, rd64_congr (State.finish_regs ..), ← State.rd64I]
    exact htgt
  · rw [State.rd64N, rd64_congr (State.finish_regs ..), Req.S64, hhtgt, ← State.rd64N]
    exact rd64N_wr64N hc1 (admits_P64_lt h 0)
  · rw [State.rc, State.finish_rcs]
    exact hhead

theorem exec_ptpConfig_servo (h : s.admits c 0x1C01 = some (s1, r)) : ∃ t : State, exec (.ptpConfig c) s = .next t ∧
    t.nw.ptp.kp = wrapS 32 (r.P 0) ∧ t.nw.ptp.ki = wrapS 32 (r.P 1) ∧ t.nw.ptp.kpSh = r.P 2 % 64 ∧ t.nw.ptp.kiSh = nbits (r.P 2) 11 6 ∧
    t.nw.ptp.logSync = wrapS 32 (r.P 3) ∧ t.nw.ptp.mech = r.P 4 ∧ t.nw.ptp.thr = r.P 5 ∧ t.regs = s1.regs ∧ t.time = s1.time := by
  refine ⟨s1.cmdPtpConfig r, exec_admits h rfl, ?_⟩
  rw [State.cmdPtpConfig, State.finish_nw, State.finish_regs, State.finish_time]
  exact ⟨rfl, rfl, rfl, rfl, rfl, rfl, rfl, rfl, rfl⟩

theorem exec_epochArm_armed (h : s.admits c 0x1C04 = some (s1, r)) (hc : s.canonical = true) (hzero : r.P 0 ≠ 0) (hepoch : r.P 0 ≠ s1.epoch)
    (hact : s1.time.frameNum + 3 ≤ r.P64 1) (hchange : s1.rm.change = none) (hidle : s1.flag RM_NEXT RM_NEXT_PEND = false) :
    ∃ t : State, exec (.epochArm c) s = .next t ∧ t.flag RM_NEXT RM_NEXT_PEND = true ∧ t.rm.armed = some (r.P 0, r.P64 1) ∧
    t.waits = s1.waits ++ [(⟨r.tag, .epoch, 0⟩ : Wait)] ∧ t.completions = s1.completions := by
  have hc1 := admits_canonical h hc
  refine ⟨_, (exec_admits h rfl).trans (congrArg _ (cmdEpochArm_armed hc1 hzero hepoch hact hchange hidle)), ?_, rfl, rfl, rfl⟩
  rw [State.flag, get_congr (State.await_regs ..), get_congr (State.modRm_regs ..)]
  exact flag_setf (epochFilled_canonical hc1) (by decide) (by decide)

theorem exec_canRecover_starts (h : s.admits c 0x2003 = some (s1, r)) (hunit : r.unit < 4) (hoff : s1.canBusOff r.unit = true) :
    ∃ t : State, exec (.canRecover c) s = .next t ∧ (t.can r.unit).recov = true ∧ t.regs = s1.regs := by
  refine ⟨_, (exec_admits h rfl).trans (congrArg _ (cmdCanRecover_busOff hoff)), ?_, State.finish_regs ..⟩
  rw [State.can, State.finish_cans]
  exact congrArg CanSt.recov (can_modCan_same hunit)

theorem exec_ioWrite_outputs (h : s.admits c 0x2401 = some (s1, r)) (hc : s.canonical = true) : ∃ t : State, exec (.ioWrite c) s = .next t ∧
    t.rd DIOG_OUT = ((s1.rd DIOG_OUT ||| BitVec.ofNat 32 (r.P 0)) &&& ~~~BitVec.ofNat 32 (r.P 1)) ∧ ∀ a, a ≠ DIOG_OUT → t.rd a = s1.rd a := by
  have hc1 := admits_canonical h hc
  refine ⟨s1.cmdIoWrite r, exec_admits h rfl, ?_⟩
  have hregs := (State.finish_regs _ r.tag .ok 0 0 0 []).trans
    (dioOut_regs s1 ((s1.rd DIOG_OUT ||| BitVec.ofNat 32 (r.P 0)) &&& ~~~BitVec.ofNat 32 (r.P 1)))
  exact ⟨(rd_congr hregs _).trans (rd_wr_same hc1), fun a ha => (rd_congr hregs a).trans (rd_wr_ne hc1 ha)⟩

theorem exec_logFreeze_freezes (h : s.admits c 0x3001 = some (s1, r)) (hc : s.canonical = true) (hbit : r.bit 0 0 = true)
    (hthawed : s1.frozen = false) (hquiet : s1.log.appAt ≠ s1.tick) : ∃ t : State, exec (.logFreeze c) s = .next t ∧
    t.log.frozen = some s1.tick ∧ t.flag LOG_STAT LOG_STAT_FROZEN = true ∧ t.get LOG_LOST LOG_LOST_FRZ = 0 ∧
    t.log.buffer = s1.log.buffer ∧ t.log.store = s1.log.store := by
  obtain ⟨hlog, hflag, hlost⟩ := freeze_spec (admits_canonical h hc) hthawed hquiet
  refine ⟨_, (exec_admits h rfl).trans (congrArg (fun t : State => Host.Outcome.next (t.finish r.tag .ok)) (if_pos hbit)), ?_⟩
  rw [State.finish_log, hlog, State.flag, get_congr (State.finish_regs ..), ← State.flag, get_congr (State.finish_regs ..)]
  exact ⟨rfl, hflag, hlost, rfl, rfl⟩

theorem exec_logFreeze_unfreezes (h : s.admits c 0x3001 = some (s1, r)) (hbit : r.bit 0 0 = false) (hfrozen : s1.frozen = true)
    (hlost : s1.get LOG_LOST LOG_LOST_FRZ = 0) : ∃ t : State, exec (.logFreeze c) s = .next t ∧ t.frozen = false ∧
    t.log.buffer = s1.log.buffer ++ s1.log.staging ∧ t.log.staging = [] ∧ t.log.store = s1.log.store := by
  obtain ⟨hopen, hbuffer, hstaging, hstore⟩ := unfreezeCmd_thawed hfrozen hlost (admits_fwRun h (by decide))
  refine ⟨_, (exec_admits h rfl).trans (congrArg (fun t : State => Host.Outcome.next (t.finish r.tag .ok)) (if_neg (by simp [hbit]))), ?_⟩
  rw [State.frozen, State.finish_log, hopen]
  exact ⟨rfl, hbuffer, hstaging, hstore⟩

theorem exec_twinStart_active (h : s.admits c 0x3801 = some (s1, r)) (hactive : r.bit 0 0 = true) : ∃ t : State,
    exec (.twinStart c) s = .next t ∧ t.tw.named = 1 ∧ t.regs = s1.regs := by
  refine ⟨_, (exec_admits h rfl).trans (congrArg _ (cmdTwinStart_active hactive)), ?_, State.finish_regs ..⟩
  rw [State.finish_tw]
  rfl

theorem exec_handover_armed (h : s.admits c 0x3803 = some (s1, r)) (hc : s.canonical = true) (hidle : s1.flag TW_HO TW_HO_PEND = false)
    (hready : s1.flag TW_STAT TW_STAT_PEER_READY = true) (hlead : s1.time.frameNum + 2 ≤ r.P64 0) : ∃ t : State,
    exec (.handover c) s = .next t ∧ t.flag TW_HO TW_HO_PEND = true ∧ t.rd64N TW_HOFRAME = r.P64 0 ∧
    t.waits = s1.waits ++ [(⟨r.tag, .hoframe, 0⟩ : Wait)] ∧ t.completions = s1.completions := by
  have hc1 := admits_canonical h hc
  have hframe := admits_P64_lt h 0
  refine ⟨_, (exec_admits h rfl).trans (congrArg _ (cmdHandover_armed hc1 hidle hready hlead hframe)), ?_, ?_, rfl, rfl⟩
  · rw [State.flag, get_congr (State.await_regs ..)]
    exact flag_setf (wr64N_canonical hc1) (by decide) (by decide)
  · rw [State.rd64N, rd64_congr (State.await_regs ..), State.setf, rd64_put_ne (wr64N_canonical hc1) (by decide) (by decide), ← State.rd64N]
    exact rd64N_wr64N hc1 hframe

end

/-- Settles O59: an admitted command answers what its definition makes of the state that admits it (`exec_admits`), and that is worked out
for each command in the case of its clause. -/
theorem deviceClassCommandsComplete : Obligations.DeviceClassCommandsComplete := by
  unfold Obligations.DeviceClassCommandsComplete
  refine ⟨?portLoad, ?portNone, ?latchEmpty, ?latchOne, ?compareLoad, ?compareList, ?compareArm, ?regTarget, ?regHamode, ?ptpConfig, ?ptpCorrect,
    ?ptpHamode, ?tableOk, ?tableError, ?epochArm, ?epochPending, ?canSend, ?canSendBusy, ?canBuffer, ?canFifoEmpty, ?canRecover, ?canOn, ?ioWrite,
    ?ioRead, ?rearm, ?rearmRefused, ?safeStatus, ?captureArm, ?captureBusy, ?captureRows, ?captureFirst, ?logRead, ?logHamode, ?freeze,
    ?unfreeze, ?clearFrozen, ?clear, ?twinActive, ?twinWatch, ?joinWatch, ?joinActive, ?handover, ?handoverPending⟩
  case portLoad => exact fun s s1 c r h hunit hbits hc => exec_portCmd_load h hunit hbits hc
  case portNone => exact fun s s1 c r h hbits => (exec_admits h rfl).trans (congrArg _ (cmdPort_none hbits))
  case latchEmpty => exact fun s s1 c r h hfifo => (exec_admits h rfl).trans (congrArg _ (cmdLatchRead_empty hfifo))
  case latchOne => exact fun s s1 c r h hfifo hcount => (exec_admits h rfl).trans (congrArg _ (cmdLatchRead_one hfifo hcount))
  case compareLoad => exact fun s s1 c r h hc hentries => exec_compareLoad_fill h hc hentries
  case compareList => exact fun s s1 c r h hbits => (exec_admits h rfl).trans (congrArg _ (cmdCompareArm_list hbits))
  case compareArm => exact fun s s1 c r h hbits => (exec_admits h rfl).trans (congrArg _ (cmdCompareArm_arm hbits))
  case regTarget => exact fun s s1 c r h hc hunit hhost hramp hlo hhi => exec_regTarget_written h hc hunit hhost hramp hlo hhi
  case regHamode => exact fun s s1 c r h hhost => (exec_admits h rfl).trans (congrArg _ (cmdRegTarget_noHamode hhost))
  case ptpConfig => exact fun s s1 c r h => exec_ptpConfig_servo h
  case ptpCorrect => exact fun s s1 c r h hhost hstep => (exec_admits h rfl).trans (congrArg _ (cmdPtpCorrect_trim hhost hstep))
  case ptpHamode => exact fun s s1 c r h hhost => (exec_admits h rfl).trans (congrArg _ (cmdPtpCorrect_noHamode hhost))
  case tableOk => exact fun s s1 c r t h hsteps => (exec_admits h rfl).trans (congrArg _ (cmdRamauxTable_ok hsteps))
  case tableError => exact fun s s1 c r o h hsteps => (exec_admits h rfl).trans (congrArg _ (cmdRamauxTable_error hsteps))
  case epochArm =>
    exact fun s s1 c r h hc hzero _ hepoch hact hchange hidle => exec_epochArm_armed h hc hzero hepoch hact hchange hidle
  case epochPending => exact fun s s1 c r h hpend => (exec_admits h rfl).trans (congrArg _ (cmdEpochArm_pending hpend))
  case canSend => exact fun s s1 c r h hdir hidle htaken => (exec_admits h rfl).trans (congrArg _ (cmdCanSend_request hdir hidle htaken))
  case canSendBusy => exact fun s s1 c r h hdir hpending => (exec_admits h rfl).trans (congrArg _ (cmdCanSend_busy hdir hpending))
  case canBuffer => exact fun s s1 c r h hsel => (exec_admits h rfl).trans (congrArg _ (cmdCanRead_buffer hsel))
  case canFifoEmpty => exact fun s s1 c r h hsel hlevel => (exec_admits h rfl).trans (congrArg _ (cmdCanRead_empty hsel hlevel))
  case canRecover => exact fun s s1 c r h hunit hoff => exec_canRecover_starts h hunit hoff
  case canOn => exact fun s s1 c r h hon => (exec_admits h rfl).trans (congrArg _ (cmdCanRecover_busOn hon))
  case ioWrite => exact fun s s1 c r h hc => exec_ioWrite_outputs h hc
  case ioRead => exact fun s s1 c r h => exec_admits (go := State.cmdIoRead) h rfl
  case rearm => exact fun s s1 c r h hstate => (exec_admits h rfl).trans (congrArg _ (cmdGroupRearm_done hstate))
  case rearmRefused => exact fun s s1 c r h hstate => (exec_admits h rfl).trans (congrArg _ (cmdGroupRearm_refused hstate))
  case safeStatus => exact fun s s1 c r h => (exec_admits h rfl).trans (congrArg _ (cmdSafeStatus_words s1 r))
  case captureArm => exact fun s s1 c r h hcause => (exec_admits h rfl).trans (congrArg _ (cmdCaptureArm_armed hcause))
  case captureBusy => exact fun s s1 c r h hcause => (exec_admits h rfl).trans (congrArg _ (cmdCaptureArm_busy hcause))
  case captureRows => exact fun s s1 c r h hrange => (exec_admits h rfl).trans (congrArg _ (cmdCaptureRead_rows hrange))
  case captureFirst => exact fun s s1 c r h hrange => (exec_admits h rfl).trans (congrArg _ (cmdCaptureRead_first hrange))
  case logRead => exact fun s s1 c r h hraw => (exec_admits h rfl).trans (congrArg _ (cmdLogRead_records hraw))
  case logHamode => exact fun s s1 c r h hraw hhost => (exec_admits h rfl).trans (congrArg _ (cmdLogRead_noHamode hraw hhost))
  case freeze => exact fun s s1 c r h hc hbit hthawed hquiet => exec_logFreeze_freezes h hc hbit hthawed hquiet
  case unfreeze => exact fun s s1 c r h _ hbit hfrozen hlost => exec_logFreeze_unfreezes h hbit hfrozen hlost
  case clearFrozen => exact fun s s1 c r h hfrozen => (exec_admits h rfl).trans (congrArg _ (cmdLogClear_frozen hfrozen))
  case clear => exact fun s s1 c r h _ => exec_admits (go := State.cmdLogClear) h rfl
  case twinActive => exact fun s s1 c r h hactive => exec_twinStart_active h hactive
  case twinWatch => exact fun s s1 c r h hwatch => (exec_admits h rfl).trans (congrArg _ (cmdTwinStart_watch hwatch))
  case joinWatch => exact fun s s1 c r h hrole => (exec_admits h rfl).trans (congrArg Host.Outcome.next (if_neg (by simp [hrole])))
  case joinActive => exact fun s s1 c r h hrole => (exec_admits h rfl).trans (congrArg Host.Outcome.next (if_pos hrole))
  case handover => exact fun s s1 c r h hc hidle hready hlead => exec_handover_armed h hc hidle hready hlead
  case handoverPending => exact fun s s1 c r h hpend => (exec_admits h rfl).trans (congrArg _ (cmdHandover_pending hpend))

end Sys2Proof.Machine
end

section
/-! PROOFS. The current loop (07_current_loop.md): the statement on its commands fails where the words kept for a bank swap name a register
that is no bank word. -/

namespace Sys2Proof.Machine

/-! ### A bank swap that puts a word back to SLOT_STAT (R64, R227) -/

/-- A running module in canonical form. Slot 3 uses bank A; a swap requested at tick 0 is due, as the update boundary before the next
computation lies at tick 16. The one word kept for that swap is addressed to CLE3_SSTAT itself. -/
def State.strayBankWord : State :=
  let running : State := { State.reset with pw := { State.reset.pw with phase := .running } }
  (running.modCle 3 fun c => { c with swapAt := some 0, late := [(SLOT_STAT 3, 0)] }).modGrid 3 fun g => { g with last := 32 * 16 }

theorem strayBankWord_swapAt : (State.strayBankWord.cle 3).swapAt = some 0 := by decide +kernel

theorem strayBankWord_due : 32 * (0 + 16) ≤ (State.strayBankWord.grid 3).last := by decide +kernel

theorem strayBankWord_bank : State.strayBankWord.bankOf 3 = 0 := by decide +kernel

/-- The word kept lands after BANK has gone to 1, and takes it back. -/
theorem strayBankWord_bankSwap_bank : (State.strayBankWord.bankSwap 3).bankOf 3 = 0 := by decide +kernel

theorem exec_cleBankSwap (a : Fin 32) (s : State) : exec (.cleBankSwap a) s = .next (s.bankSwap a) := rfl

/-- Refutes O54, in its clause on CLE_BANK_SWAP (R227): it speaks of every canonical state, and neither canonical form nor another premise
bounds the addresses in `CleSt.late`, whose words `State.cleLate` writes in the course of the swap, after BANK has changed. No command brings
the module into such a state: the model fills `late` with words of the axis's own banks alone (R64). With the premise `late = []`, this
counterexample is gone. -/
theorem not_currentLoopCommandsComplete : ¬ Obligations.CurrentLoopCommandsComplete := by
  rintro ⟨-, -, -, -, -, -, -, -, -, -, -, -, -, hswap, -⟩
  have hcanon : State.strayBankWord.canonical = true := by decide +kernel
  obtain ⟨t, hexec, hbank, -, -⟩ := hswap State.strayBankWord 3 0 hcanon strayBankWord_swapAt strayBankWord_due
  have ht : State.strayBankWord.bankSwap 3 = t := Host.Outcome.next.inj ((exec_cleBankSwap 3 _).symm.trans hexec)
  have hkept : (0 : Nat) = 1 - 0 :=
    calc (0 : Nat) = t.bankOf 3 := by rw [← ht, strayBankWord_bankSwap_bank]
      _ = 1 - State.strayBankWord.bankOf 3 := hbank
      _ = 1 - 0 := by rw [strayBankWord_bank]
  exact absurd hkept (by decide)

end Sys2Proof.Machine
end

section
/-! PROOFS. What an operation writes of the register file, field by field. -/

namespace Sys2Proof.Machine

/-! ### Fields written -/

/-- Two fields share no bit. -/
abbrev Fld.Apart (f g : Fld) : Prop := f.lo + f.w ≤ g.lo ∨ g.lo + g.w ≤ f.lo

/-- A whole register as one field. -/
abbrev Fld.word : Fld := ⟨0, 32⟩

/-- From canonical `s`, state `t` is canonical, and a field that shares no bit with those that `W` names holds the same. -/
structure OnlyWrites (W : Nat → Fld → Prop) (s t : State) : Prop where
  canon : s.canonical = true → t.canonical = true
  get : s.canonical = true → ∀ a f, (∀ g, W a g → g.Apart f) → t.get a f = s.get a f

theorem get_word (s : State) (a : Nat) : s.get a Fld.word = s.rdN a := by
  rw [State.get, Nat.pow_zero, Nat.div_one]
  exact Nat.mod_eq_of_lt (s.rd a).isLt

theorem wrN_eq_put_word (s : State) (a v : Nat) : s.wrN a v = s.put a Fld.word v := by
  have hold : s.rdN a < 2 ^ 32 := (s.rd a).isLt
  refine congrArg (s.wr a) (BitVec.eq_of_toNat_eq ?_)
  simp only [BitVec.toNat_ofNat, Nat.pow_zero, Nat.div_one, Nat.mul_one]
  omega

theorem OnlyWrites.refl {W : Nat → Fld → Prop} (s : State) : OnlyWrites W s s := ⟨id, fun _ _ _ _ => rfl⟩

theorem OnlyWrites.trans {W : Nat → Fld → Prop} {s t u : State} (h : OnlyWrites W s t) (k : OnlyWrites W t u) : OnlyWrites W s u :=
  ⟨fun hc => k.canon (h.canon hc), fun hc a f hf => (k.get (h.canon hc) a f hf).trans (h.get hc a f hf)⟩

theorem OnlyWrites.wider {V W : Nat → Fld → Prop} {s t : State} (h : OnlyWrites V s t) (hVW : ∀ a f, V a f → W a f) : OnlyWrites W s t :=
  ⟨h.canon, fun hc a f hf => h.get hc a f fun g hg => hf g (hVW a g hg)⟩

/-- An operation outside the register file. -/
theorem Keeps.onlyWrites {W : Nat → Fld → Prop} {s t : State} (k : Keeps (maskBut [.regs]) s t) : OnlyWrites W s t :=
  ⟨k.canon, fun _ a f _ => get_congr (k.same .regs rfl) a f⟩

section
variable {W : Nat → Fld → Prop} {s0 s t : State} {a : Nat}

theorem OnlyWrites.flag (h : OnlyWrites W s t) (hc : s.canonical = true) {f : Fld} (hf : ∀ g, W a g → g.Apart f) : t.flag a f = s.flag a f := by
  rw [State.flag, h.get hc a f hf, State.flag]

theorem OnlyWrites.rdN (h : OnlyWrites W s t) (hc : s.canonical = true) (ha : ∀ g, ¬W a g) : t.rdN a = s.rdN a := by
  rw [← get_word, ← get_word, h.get hc a _ fun g hg => absurd hg (ha g)]

theorem OnlyWrites.rd (h : OnlyWrites W s t) (hc : s.canonical = true) (ha : ∀ g, ¬W a g) : t.rd a = s.rd a :=
  BitVec.eq_of_toNat_eq (h.rdN hc ha)

variable (h : OnlyWrites W s0 s)
include h

theorem OnlyWrites.keeps (k : Keeps (maskBut [.regs]) s t) : OnlyWrites W s0 t := h.trans k.onlyWrites

theorem OnlyWrites.put {f : Fld} {v : Nat} (ha : W a f) (hf : f.lo + f.w ≤ 32) : OnlyWrites W s0 (s.put a f v) := by
  refine h.trans ⟨put_canonical, fun hc b g hg => ?_⟩
  by_cases hb : b = a
  · subst hb
    exact get_put_other hc hf (hg f ha)
  · exact get_put_ne hc hb

theorem OnlyWrites.putB {f : Fld} {v : Bool} (ha : W a f) (hf : f.lo + f.w ≤ 32) : OnlyWrites W s0 (s.putB a f v) := h.put ha hf
theorem OnlyWrites.setf {f : Fld} (ha : W a f) (hf : f.lo + f.w ≤ 32) : OnlyWrites W s0 (s.setf a f) := h.put ha hf
theorem OnlyWrites.clrf {f : Fld} (ha : W a f) (hf : f.lo + f.w ≤ 32) : OnlyWrites W s0 (s.clrf a f) := h.put ha hf
theorem OnlyWrites.count {f : Fld} (ha : W a f) (hf : f.lo + f.w ≤ 32) : OnlyWrites W s0 (s.count a f) := h.put ha hf
theorem OnlyWrites.wrN {v : Nat} (ha : W a Fld.word) : OnlyWrites W s0 (s.wrN a v) := by
  rw [wrN_eq_put_word]
  exact h.put ha (by decide)

theorem OnlyWrites.forEach {l : List Nat} {f : State → Nat → State} (hf : ∀ t, ∀ x ∈ l, OnlyWrites W s0 t → OnlyWrites W s0 (f t x)) :
    OnlyWrites W s0 (s.forEach l f) :=
  List.foldlRecOn l f h fun t ht x hx => hf t x hx ht

theorem OnlyWrites.modPwm {g : Nat} {f : PwmSt → PwmSt} : OnlyWrites W s0 (s.modPwm g f) := h.keeps (keeps_State_modPwm rfl (Keeps.refl s))
theorem OnlyWrites.modLeg {g i : Nat} {f : LegSt → LegSt} : OnlyWrites W s0 (s.modLeg g i f) := h.modPwm
theorem OnlyWrites.modTrip {i : Nat} {f : TripSt → TripSt} : OnlyWrites W s0 (s.modTrip i f) := h.keeps (keeps_State_modTrip rfl (Keeps.refl s))
theorem OnlyWrites.event {k : EventKind} {u : Nat} {v : Int} : OnlyWrites W s0 (s.event k u v) := h.keeps (keeps_State_event rfl (Keeps.refl s))

/-- An event of group E`g` writes HOST_EVT and one word of the pending-bit array (R475). -/
theorem OnlyWrites.group {g : Nat} (hevt : W HOST_EVT Fld.word) (hpba : W (MSIXPBA_PBA ((128 + g) / 32)) Fld.word) : OnlyWrites W s0 (s.group g) := by
  unfold State.group
  extract_lets ev s1
  have h1 : OnlyWrites W s0 s1 := h.wrN hevt
  refine ite_of ?_ h1
  unfold State.raiseVector
  exact ite_of (h1.wrN hpba) (h1.keeps (Keeps.up_vectors rfl (Keeps.refl _)))

end

/-! ### The state of one leg group -/

theorem pwm_modPwm_same {s : State} {g : Nat} {f : PwmSt → PwmSt} (hg : g < 40) : (s.modPwm g f).pwm g = f (s.pwm g) := vget_vmod_same hg
theorem pwm_modPwm_ne {s : State} {g j : Nat} {f : PwmSt → PwmSt} (h : j ≠ g) : (s.modPwm g f).pwm j = s.pwm j := vget_vmod_ne h
theorem modPwm_out {s : State} {g : Nat} {f : PwmSt → PwmSt} (hg : ¬g < 40) : s.modPwm g f = s := by simp [State.modPwm, vmod, hg]
theorem pwm_congr {s t : State} (h : t.pwms = s.pwms) (g : Nat) : t.pwm g = s.pwm g := by rw [State.pwm, h, State.pwm]
theorem leg_modLeg_same {s : State} {g i : Nat} {f : LegSt → LegSt} (hg : g < 40) (hi : i < 4) : (s.modLeg g i f).leg g i = f (s.leg g i) := by
  rw [State.leg, State.modLeg, pwm_modPwm_same hg]
  exact vget_vmod_same hi

/-! ### What holds a group -/

/-- Every group is cut in `t` as it is in `s`, and the same sources hold it for the period. -/
def SameHold (s t : State) : Prop := ∀ g, (t.pwm g).cut = (s.pwm g).cut ∧ (t.pwm g).cbc = (s.pwm g).cbc

theorem SameHold.refl (s : State) : SameHold s s := fun _ => ⟨rfl, rfl⟩

section
variable {s0 s : State} (h : SameHold s0 s)
include h

theorem SameHold.trans {t : State} (k : SameHold s t) : SameHold s0 t := fun g =>
  ⟨(k g).1.trans (h g).1, (k g).2.trans (h g).2⟩

theorem SameHold.keeps {t : State} (k : Keeps (maskBut [.pwms]) s t) : SameHold s0 t :=
  h.trans fun g => by rw [pwm_congr (k.same .pwms rfl)]; exact ⟨rfl, rfl⟩

theorem SameHold.modPwm {g : Nat} {f : PwmSt → PwmSt}
    (hf : ∀ q, (f q).cut = q.cut ∧ (f q).cbc = q.cbc := by exact fun _ => ⟨rfl, rfl⟩) : SameHold s0 (s.modPwm g f) := by
  by_cases hg : g < 40
  · refine h.trans fun j => ?_
    by_cases hj : j = g
    · subst hj
      rw [pwm_modPwm_same hg]
      exact hf _
    · rw [pwm_modPwm_ne hj]
      exact ⟨rfl, rfl⟩
  · rw [modPwm_out hg]
    exact h

theorem SameHold.modLeg {g i : Nat} {f : LegSt → LegSt} : SameHold s0 (s.modLeg g i f) := h.modPwm
theorem SameHold.put {a v : Nat} {f : Fld} : SameHold s0 (s.put a f v) := h.keeps (keeps_State_put rfl (Keeps.refl s))
theorem SameHold.setf {a : Nat} {f : Fld} : SameHold s0 (s.setf a f) := h.put
theorem SameHold.wr {a : Nat} {v : Word} : SameHold s0 (s.wr a v) := h.keeps (keeps_State_wr rfl (Keeps.refl s))
theorem SameHold.awr {a : Nat} {v : Word} : SameHold s0 (s.awr a v) := h.keeps (keeps_State_awr rfl (Keeps.refl s))

theorem SameHold.foldl {α : Type} {l : List α} {f : State → α → State} (hf : ∀ t x, SameHold s0 t → SameHold s0 (f t x)) :
    SameHold s0 (l.foldl f s) := foldl_of h hf
theorem SameHold.forEach {l : List Nat} {f : State → Nat → State} (hf : ∀ t x, SameHold s0 t → SameHold s0 (f t x)) :
    SameHold s0 (s.forEach l f) := h.foldl hf

variable {g t : Nat}

theorem SameHold.legEvent {i : Nat} : SameHold s0 (s.legEvent g i) := by
  unfold State.legEvent
  extract_lets -merge -useContext -underBinder q l
  split
  · exact h
  · exact h.modLeg
  · extract_lets -merge -useContext -underBinder on drop s1 s2
    have h1 : SameHold s0 s1 := h.modLeg
    have h2 : SameHold s0 s2 := ite_of h1.setf h1
    exact ite_of h1 h2.modLeg

theorem SameHold.legTo {i k : Nat} : SameHold s0 (State.legTo g i t k s) := by
  induction k generalizing s with
  | zero => exact h
  | succ k ih =>
    unfold State.legTo
    split
    · exact ite_of (ih h.legEvent) h
    · exact h

theorem SameHold.pwmTo : SameHold s0 (s.pwmTo g t) := h.forEach fun _ _ hu => hu.legTo

end

/-! ### What a cut writes (R254, R261) -/

/-- What the events of a leg group's gates and its cut write: bits of its own status, and of the fourth leg's. -/
def CutWrites (a : Nat) (f : Fld) : Prop := (∃ g < 40, a = statOf g) ∧ f ∈ [PWM_STAT_TDT, PWM_STAT_DTSUP, PWM_STAT_CUT]

theorem statReg_eq_statOf {s : State} {g : Nat} (hg : g < 40) (i : Nat) : ∃ j < 40, s.statReg g i = statOf j := by
  unfold State.statReg
  by_cases haux : 32 ≤ g
  · exact ⟨g, hg, by simp [statOf, haux, not_lt.2 haux]⟩
  by_cases hi : i = 3
  · have hj : (s.fourth g).getD 0 < 8 := by
      unfold State.fourth
      cases hf : (List.range 8).find? fun j => s.flag (PWMX_CFG j) PWMX_CFG_ROLE && s.get (PWMX_CFG j) PWMX_CFG_AXIS == g with
      | none => decide
      | some j => exact List.mem_range.1 (List.mem_of_find?_eq_some hf)
    exact ⟨32 + (s.fourth g).getD 0, by omega, by simp [statOf, haux, hi]⟩
  · exact ⟨g, hg, by simp [statOf, haux, hi, not_le.1 haux]⟩

section
variable {s0 s : State} {g t : Nat} (h : OnlyWrites CutWrites s0 s) (hg : g < 40)
include h hg

theorem OnlyWrites.legEvent {i : Nat} : OnlyWrites CutWrites s0 (s.legEvent g i) := by
  unfold State.legEvent
  extract_lets -merge -useContext -underBinder q l
  split
  · exact h
  · exact h.modLeg
  · extract_lets -merge -useContext -underBinder on drop s1 s2
    have h1 : OnlyWrites CutWrites s0 s1 := h.modLeg
    have h2 : OnlyWrites CutWrites s0 s2 := ite_of (h1.setf ⟨statReg_eq_statOf hg i, by simp⟩ (by decide)) h1
    exact ite_of h1 h2.modLeg

theorem OnlyWrites.legTo {i k : Nat} : OnlyWrites CutWrites s0 (State.legTo g i t k s) := by
  induction k generalizing s with
  | zero => exact h
  | succ k ih =>
    unfold State.legTo
    split
    · exact ite_of (ih (h.legEvent hg)) h
    · exact h

theorem OnlyWrites.pwmTo : OnlyWrites CutWrites s0 (s.pwmTo g t) := h.forEach fun _ _ _ hu => hu.legTo hg

theorem OnlyWrites.pwmCut : OnlyWrites CutWrites s0 (s.pwmCut g t) := by
  unfold State.pwmCut
  extract_lets -merge -useContext -underBinder q u0 u low drv supp u1 u2 u3
  have h0 : OnlyWrites CutWrites s0 u0 := h.pwmTo hg
  have h1 : OnlyWrites CutWrites s0 u1 := h0.keeps (keeps_State_freeWord rfl (Keeps.refl _)).snd
  have h2 : OnlyWrites CutWrites s0 u2 := ite_of (h1.setf ⟨⟨g, hg, rfl⟩, by simp⟩ (by decide)) h1
  have h3 : OnlyWrites CutWrites s0 u3 := (h2.setf ⟨⟨g, hg, rfl⟩, by simp⟩ (by decide)).modPwm
  exact ite_of h (ite_of h3 (h3.forEach fun _ _ _ hu => hu.modLeg))

end

/-! ### What a cut leaves of the groups -/

/-- A group that is cut stays cut. -/
def StaysCut (s t : State) : Prop := ∀ g, (s.pwm g).cut = true → (t.pwm g).cut = true

theorem SameHold.staysCut {s t : State} (h : SameHold s t) : StaysCut s t := fun g hcut => (h g).1.trans hcut
theorem StaysCut.trans {s t u : State} (h : StaysCut s t) (k : StaysCut t u) : StaysCut s u := fun g hcut => k g (h g hcut)

/-- After a cut its group is cut, and no group is cut no longer. -/
theorem pwmCut_cut {s : State} {g : Nat} (hg : g < 40) (t : Nat) : StaysCut s (s.pwmCut g t) ∧ ((s.pwmCut g t).pwm g).cut = true := by
  unfold State.pwmCut
  extract_lets -merge -useContext -underBinder q u0 u low drv supp u1 u2 u3
  by_cases hcut : q.cut = true
  · rw [if_pos hcut]
    exact ⟨(SameHold.refl s).staysCut, hcut⟩
  rw [if_neg hcut]
  have h2 : SameHold s u2 := ite_of ((SameHold.refl s).pwmTo.keeps (keeps_State_freeWord rfl (Keeps.refl _)).snd).setf
    ((SameHold.refl s).pwmTo.keeps (keeps_State_freeWord rfl (Keeps.refl _)).snd)
  have h3 : StaysCut u2 u3 := fun j hj => by
    by_cases hjg : j = g
    · subst hjg
      exact congrArg PwmSt.cut (pwm_modPwm_same hg)
    · exact (congrArg PwmSt.cut (pwm_modPwm_ne hjg)).trans (((SameHold.refl u2).setf j).1.trans hj)
  have hnow : (u3.pwm g).cut = true := congrArg PwmSt.cut (pwm_modPwm_same hg)
  have hstay : StaysCut s u3 := h2.staysCut.trans h3
  have hof : ∀ v, SameHold u3 v → StaysCut s v ∧ (v.pwm g).cut = true := fun v hv => ⟨hstay.trans hv.staysCut, hv.staysCut g hnow⟩
  exact ite_of (P := fun v => StaysCut s v ∧ (v.pwm g).cut = true) (hof _ (.refl u3)) (hof _ ((SameHold.refl u3).forEach fun _ _ hv => hv.modLeg))

end Sys2Proof.Machine
end

section
/-! PROOFS. The trips (08_pwm_and_trips.md): what a detection by a trip land does to its land, its status and the groups it acts on. -/

namespace Sys2Proof.Machine

/-! ### What a detection writes (R255, R263) -/

/-- A detection flags, counts and stamps its trip, and sets its latch. -/
def MarkWrites (a : Nat) (f : Fld) : Prop :=
  (∃ n < 32, a = PWM_STAT n ∧ f ∈ [PWM_STAT_TRIPPED, PWM_STAT_LCAUSE]) ∨ (∃ n < 32, a = PWM_CNT n ∨ a = PWM_TSTAMP n) ∨
    (∃ k < 4, a = GTRIP_STAT k ∧ f ∈ [GTRIP_STAT_TRIPPED, GTRIP_STAT_TRIPS, GTRIP_STAT_LATCHED]) ∨ ∃ k < 4, a = GTRIP_TSTAMP k

/-- It cuts the groups that the trip acts on, shows itself in their status, and is reported. -/
def SpreadWrites (a : Nat) (f : Fld) : Prop :=
  CutWrites a f ∨ (∃ n < 32, a = PWM_STAT n ∧ f = PWM_STAT_GCAUSE) ∨ (∃ j < 8, a = PWMX_STAT j ∧ f = PWM_STAT_TRIPPED) ∨
    a = HOST_EVT ∨ a = MSIXPBA_PBA 4

def DetectWrites (a : Nat) (f : Fld) : Prop := MarkWrites a f ∨ SpreadWrites a f

/-- The register that shows the filtered level of a trip land, and its bit there. -/
def tripReg (i : Nat) : Nat := if i < 32 then PWM_STAT i else GTRIP_STAT (i - 32)
def tripInFld (i : Nat) : Fld := if i < 32 then PWM_STAT_TIN else GTRIP_STAT_TIN

theorem tripIn_eq (s : State) (i : Nat) : s.tripIn i = s.flag (tripReg i) (tripInFld i) := by
  unfold State.tripIn tripReg tripInFld
  split <;> rfl
theorem setTripIn_eq (s : State) (i : Nat) (b : Bool) : s.setTripIn i b = s.putB (tripReg i) (tripInFld i) b := by
  unfold State.setTripIn tripReg tripInFld
  split <;> rfl

theorem tripInFld_fits (i : Nat) : (tripInFld i).lo + (tripInFld i).w ≤ 32 ∧ (tripInFld i).w = 1 := by
  unfold tripInFld
  split <;> decide

theorem tripIn_setTripIn {s : State} {i : Nat} {b : Bool} (hc : s.canonical = true) : (s.setTripIn i b).tripIn i = b := by
  obtain ⟨hfits, hone⟩ := tripInFld_fits i
  rw [tripIn_eq, setTripIn_eq, flag_putB hc hfits hone]

/-! ### The blocks of registers -/

theorem statOf_mem {g : Nat} (hg : g < 40) : (∃ n < 32, statOf g = PWM_STAT n) ∨ ∃ j < 8, statOf g = PWMX_STAT j := by
  unfold statOf
  by_cases haxis : g < 32
  · exact .inl ⟨g, haxis, if_pos haxis⟩
  · exact .inr ⟨g - 32, by omega, if_neg haxis⟩

/-- Where the words lie that a detection writes: HOST_EVT, a pending-bit word, and three words in the block of each axis, one in that of
each auxiliary leg and two in that of each global trip. -/
theorem detectWrites_range {a : Nat} {f : Fld} (h : DetectWrites a f) :
    a = 0x410 ∨ a = 0x21010 ∨ (0xA0000 ≤ a ∧ a < 0xB0000 ∧ 0x30 ≤ a % 0x800 ∧ a % 0x800 < 0x3C) ∨
      (0xB0000 ≤ a ∧ a < 0xB0800 ∧ a % 0x100 = 0x1C) ∨ (0xB2000 ≤ a ∧ a < 0xB2080 ∧ 0x10 ≤ a % 0x20) := by
  have haxis : ∀ n < 32, ∀ o, 0x30 ≤ o → o < 0x3C → a = 0xA0000 + o + 0x800 * n →
      0xA0000 ≤ a ∧ a < 0xB0000 ∧ 0x30 ≤ a % 0x800 ∧ a % 0x800 < 0x3C := fun n hn o hlo hhi ha => by omega
  have hleg : ∀ j < 8, a = PWMX_STAT j → 0xB0000 ≤ a ∧ a < 0xB0800 ∧ a % 0x100 = 0x1C := fun j hj ha => by
    unfold PWMX_STAT at ha
    omega
  rcases h with (⟨n, hn, ha, -⟩ | ⟨n, hn, ha | ha⟩ | ⟨k, hk, ha, -⟩ | ⟨k, hk, ha⟩) | ⟨⟨g, hg, ha⟩, -⟩ | ⟨n, hn, ha, -⟩ | ⟨j, hj, ha, -⟩ | ha | ha
  · exact .inr (.inr (.inl (haxis n hn 0x30 (by decide) (by decide) ha)))
  · exact .inr (.inr (.inl (haxis n hn 0x34 (by decide) (by decide) ha)))
  · exact .inr (.inr (.inl (haxis n hn 0x38 (by decide) (by decide) ha)))
  · unfold GTRIP_STAT at ha
    omega
  · unfold GTRIP_TSTAMP at ha
    omega
  · rcases statOf_mem hg with ⟨n, hn, h⟩ | ⟨j, hj, h⟩
    · exact .inr (.inr (.inl (haxis n hn 0x30 (by decide) (by decide) (ha.trans h))))
    · exact .inr (.inr (.inr (.inl (hleg j hj (ha.trans h)))))
  · exact .inr (.inr (.inl (haxis n hn 0x30 (by decide) (by decide) ha)))
  · exact .inr (.inr (.inr (.inl (hleg j hj ha))))
  · exact .inl ha
  · exact .inr (.inl ha)

/-- What a land writes that passes its filter or is detected. -/
def LandWrites (a : Nat) (f : Fld) : Prop := DetectWrites a f ∨ ∃ i < 36, a = tripReg i ∧ f = tripInFld i

theorem landWrites_range {a : Nat} {f : Fld} (h : LandWrites a f) :
    a = 0x410 ∨ a = 0x21010 ∨ (0xA0000 ≤ a ∧ a < 0xB0000 ∧ 0x30 ≤ a % 0x800 ∧ a % 0x800 < 0x3C) ∨
      (0xB0000 ≤ a ∧ a < 0xB0800 ∧ a % 0x100 = 0x1C) ∨ (0xB2000 ≤ a ∧ a < 0xB2080 ∧ 0x10 ≤ a % 0x20) := by
  rcases h with h | ⟨i, hi, ha, -⟩
  · exact detectWrites_range h
  unfold tripReg PWM_STAT GTRIP_STAT at ha
  split at ha <;> omega

/-- A land writes none of the registers that say which groups its trip acts on and what masks it, and no status of a timer channel. -/
theorem not_landWrites {a : Nat} (ha : (∃ j, a = PWMX_CFG j) ∨ (∃ k, a = GTRIP_CFG k ∨ a = GTRIP_AXMASK k ∨ a = GTRIP_XMASK k) ∨
    (∃ n, a = PWM_TRIP n) ∨ ∃ k < 16, a = ATC_STAT k) (f : Fld) : ¬LandWrites a f := fun h => by
  have hrange := landWrites_range h
  rcases ha with ⟨j, rfl⟩ | ⟨k, rfl | rfl | rfl⟩ | ⟨n, rfl⟩ | ⟨k, hk, rfl⟩
  · unfold PWMX_CFG at hrange
    omega
  · unfold GTRIP_CFG at hrange
    omega
  · unfold GTRIP_AXMASK at hrange
    omega
  · unfold GTRIP_XMASK at hrange
    omega
  · unfold PWM_TRIP at hrange
    omega
  · unfold ATC_STAT at hrange
    omega

/-- Of an axis's status the groups' cuts write these fields. -/
theorem spreadWrites_pwmStat {n : Nat} {f : Fld} (hn : n < 32) (h : SpreadWrites (PWM_STAT n) f) :
    f ∈ [PWM_STAT_TDT, PWM_STAT_DTSUP, PWM_STAT_CUT, PWM_STAT_GCAUSE] := by
  rcases h with ⟨-, hf⟩ | ⟨-, -, -, rfl⟩ | ⟨j, hj, ha, -⟩ | ha | ha
  · exact List.mem_append_left [PWM_STAT_GCAUSE] hf
  · decide
  all_goals
    simp only [PWM_STAT, PWMX_STAT, HOST_EVT, MSIXPBA_PBA] at ha
    omega

/-- A stamp is written by the detection itself alone. -/
theorem not_spreadWrites_pwmTstamp {n : Nat} (hn : n < 32) (f : Fld) : ¬SpreadWrites (PWM_TSTAMP n) f := by
  rintro (⟨⟨g, hg, ha⟩, -⟩ | ⟨m, -, ha, -⟩ | ⟨j, hj, ha, -⟩ | ha | ha)
  · rcases statOf_mem hg with ⟨m, -, h⟩ | ⟨j, hj, h⟩ <;> simp only [h, PWM_TSTAMP, PWM_STAT, PWMX_STAT] at ha <;> omega
  all_goals
    simp only [PWM_TSTAMP, PWM_STAT, PWMX_STAT, HOST_EVT, MSIXPBA_PBA] at ha
    omega

/-- Of an axis's status a detection writes these fields. -/
theorem detectWrites_pwmStat {n : Nat} {f : Fld} (hn : n < 32) (h : DetectWrites (PWM_STAT n) f) :
    f ∈ [PWM_STAT_TRIPPED, PWM_STAT_LCAUSE, PWM_STAT_TDT, PWM_STAT_DTSUP, PWM_STAT_CUT, PWM_STAT_GCAUSE] := by
  rcases h with (⟨-, -, -, hf⟩ | ⟨m, -, ha | ha⟩ | ⟨k, -, ha, -⟩ | ⟨k, -, ha⟩) | h
  · exact List.mem_append_left [PWM_STAT_TDT, PWM_STAT_DTSUP, PWM_STAT_CUT, PWM_STAT_GCAUSE] hf
  case inr => exact List.mem_append_right [PWM_STAT_TRIPPED, PWM_STAT_LCAUSE] (spreadWrites_pwmStat hn h)
  all_goals
    simp only [PWM_STAT, PWM_CNT, PWM_TSTAMP, GTRIP_STAT, GTRIP_TSTAMP] at ha
    omega

/-- Of a global trip's status a detection writes these fields. -/
theorem detectWrites_gtripStat {k : Nat} {f : Fld} (h : DetectWrites (GTRIP_STAT k) f) :
    f ∈ [GTRIP_STAT_TRIPPED, GTRIP_STAT_TRIPS, GTRIP_STAT_LATCHED] := by
  rcases h with (⟨n, hn, ha, -⟩ | ⟨n, hn, ha | ha⟩ | ⟨-, -, -, hf⟩ | ⟨m, -, ha⟩) | ⟨⟨g, hg, ha⟩, -⟩ | ⟨n, hn, ha, -⟩ | ⟨j, hj, ha, -⟩ | ha | ha
  case inl.inr.inr.inl => exact hf
  case inr.inl =>
    rcases statOf_mem hg with ⟨n, hn, h⟩ | ⟨j, hj, h⟩ <;> simp only [h, GTRIP_STAT, PWM_STAT, PWMX_STAT] at ha <;> omega
  all_goals
    simp only [GTRIP_STAT, PWM_STAT, PWM_CNT, PWM_TSTAMP, GTRIP_TSTAMP, PWMX_STAT, HOST_EVT, MSIXPBA_PBA] at ha
    omega

/-- The filtered level of a land shares no bit with what a detection writes. -/
theorem detectWrites_apart_tripIn (i : Nat) (f : Fld) (h : DetectWrites (tripReg i) f) : f.Apart (tripInFld i) := by
  unfold tripReg at h
  unfold tripInFld
  by_cases haxis : i < 32
  · rw [if_pos haxis] at h ⊢
    exact (by decide : ∀ f ∈ [PWM_STAT_TRIPPED, PWM_STAT_LCAUSE, PWM_STAT_TDT, PWM_STAT_DTSUP, PWM_STAT_CUT, PWM_STAT_GCAUSE],
      f.Apart PWM_STAT_TIN) f (detectWrites_pwmStat haxis h)
  · rw [if_neg haxis] at h ⊢
    exact (by decide : ∀ f ∈ [GTRIP_STAT_TRIPPED, GTRIP_STAT_TRIPS, GTRIP_STAT_LATCHED], f.Apart GTRIP_STAT_TIN) f (detectWrites_gtripStat h)

/-! ### A detection (R255, R256, R263) -/

/-- A detection flags, counts and stamps its trip, and sets its latch. -/
def State.tripMark (s : State) (i t : Nat) : State :=
  let s0 := s.modTrip i fun x => { x with det := true, detAt := some (t / 32) }
  if i < 32 then
    let a := s0.tripFlag i t
    if s0.tripLatched i then a.setf (PWM_STAT i) PWM_STAT_LCAUSE else a
  else
    let k := i - 32
    let a := ((s0.setf (GTRIP_STAT k) GTRIP_STAT_TRIPPED).count (GTRIP_STAT k) GTRIP_STAT_TRIPS).wrN (GTRIP_TSTAMP k) (stampOf t)
    if s0.tripLatched i then a.setf (GTRIP_STAT k) GTRIP_STAT_LATCHED else a

/-- It cuts a group that the trip acts on, and shows itself in the group's status. -/
def State.tripSpread (i t : Nat) (s : State) (g : Nat) : State :=
  let a := s.pwmCut g t
  let b := if s.tripLatched i then a else a.modPwm g fun q => { q with cbc := i :: q.cbc.filter (· != i) }
  let c := if 32 ≤ g then b.setf (statOf g) PWM_STAT_TRIPPED else b
  if 32 ≤ i && g < 32 then c.setGcause g (i - 32) true else c

theorem tripDetect_eq (s : State) (i t : Nat) :
    s.tripDetect i t =
      let u := (s.tripMark i t).forEach ((s.tripMark i t).actsOn i) (State.tripSpread i t)
      if (s.tripHeld i || (s.actsOn i).any fun g => (s.pwm g).cbc.contains i) ||
        (!s.tripLatched i && (s.actsOn i).any fun g => (s.pwm g).cutPrev) then u
      else (u.event .trip i (b2n (s.tripLatched i))).group 2 := rfl

theorem lt_of_mem_idxWhere {n i : Nat} {p : Nat → Bool} (h : i ∈ idxWhere n p) : i < n := List.mem_range.1 (List.mem_of_mem_filter h)

/-- A trip acts on leg groups alone. -/
theorem lt_of_mem_actsOn {s : State} {i g : Nat} (h : g ∈ s.actsOn i) : g < 40 := by
  unfold State.actsOn at h
  have hleg : ∀ p, g ∈ (idxWhere 8 p).map (· + 32) → g < 40 := fun p hg => by
    obtain ⟨j, hj, rfl⟩ := List.mem_map.1 hg
    have := lt_of_mem_idxWhere hj
    omega
  by_cases hi : i < 32
  · rw [if_pos hi] at h
    rcases List.mem_cons.1 h with rfl | h
    · omega
    · exact hleg _ h
  · rw [if_neg hi] at h
    rcases List.mem_append.1 h with h | h
    · exact Nat.lt_trans (lt_of_mem_idxWhere h) (by decide)
    · exact hleg _ h

/-- The groups that a trip acts on hang on the configuration of the auxiliary legs and on the masks of the global trips. -/
theorem actsOn_congr {s t : State} (h : OnlyWrites LandWrites s t) (hc : s.canonical = true) (i : Nat) : t.actsOn i = s.actsOn i := by
  have hcfg : ∀ j f, t.get (PWMX_CFG j) f = s.get (PWMX_CFG j) f := fun j f =>
    h.get hc _ _ fun g hg => absurd hg (not_landWrites (.inl ⟨j, rfl⟩) g)
  have hax : ∀ k, t.rdN (GTRIP_AXMASK k) = s.rdN (GTRIP_AXMASK k) := fun k => h.rdN hc (not_landWrites (.inr (.inl ⟨k, .inr (.inl rfl)⟩)))
  have hx : ∀ k, t.rdN (GTRIP_XMASK k) = s.rdN (GTRIP_XMASK k) := fun k => h.rdN hc (not_landWrites (.inr (.inl ⟨k, .inr (.inr rfl)⟩)))
  unfold State.actsOn State.standalone State.flag
  simp only [hcfg, hax, hx]

section
variable {s : State} {i t : Nat}

theorem tripMark_onlyWrites (hi : i < 36) : OnlyWrites MarkWrites s (s.tripMark i t) := by
  unfold State.tripMark State.tripFlag
  extract_lets -merge -useContext -underBinder s0 a k b
  have h0 : OnlyWrites MarkWrites s s0 := (OnlyWrites.refl s).modTrip
  split
  case isTrue haxis =>
    have hstat : ∀ f ∈ [PWM_STAT_TRIPPED, PWM_STAT_LCAUSE], MarkWrites (PWM_STAT i) f := fun f hf => .inl ⟨i, haxis, rfl, hf⟩
    have ha : OnlyWrites MarkWrites s a := ((h0.setf (hstat _ (by simp)) (by decide)).count (.inr (.inl ⟨i, haxis, .inl rfl⟩)) (by decide)).wrN
      (.inr (.inl ⟨i, haxis, .inr rfl⟩))
    exact ite_of (ha.setf (hstat _ (by simp)) (by decide)) ha
  case isFalse haxis =>
    have hk : k < 4 := by omega
    have hstat : ∀ f ∈ [GTRIP_STAT_TRIPPED, GTRIP_STAT_TRIPS, GTRIP_STAT_LATCHED], MarkWrites (GTRIP_STAT k) f := fun f hf =>
      .inr (.inr (.inl ⟨k, hk, rfl, hf⟩))
    have hb : OnlyWrites MarkWrites s b := ((h0.setf (hstat _ (by simp)) (by decide)).count (hstat _ (by simp)) (by decide)).wrN
      (.inr (.inr (.inr ⟨k, hk, rfl⟩)))
    exact ite_of (hb.setf (hstat _ (by simp)) (by decide)) hb

theorem tripSpread_onlyWrites {s0 : State} {g : Nat} (h : OnlyWrites SpreadWrites s0 s) (hg : g < 40) :
    OnlyWrites SpreadWrites s0 (State.tripSpread i t s g) := by
  unfold State.tripSpread
  extract_lets -merge -useContext -underBinder a b c
  have ha : OnlyWrites SpreadWrites s0 a := h.trans (((OnlyWrites.refl s).pwmCut hg).wider fun _ _ => .inl)
  have hb : OnlyWrites SpreadWrites s0 b := ite_of ha ha.modPwm
  have hc : OnlyWrites SpreadWrites s0 c := by
    unfold c
    split
    case isTrue haux => exact hb.setf (.inr (.inr (.inl ⟨g - 32, by omega, if_neg (not_lt.2 haux), rfl⟩))) (by decide)
    case isFalse => exact hb
  split
  case isTrue hcause =>
    have haxis : g < 32 := by simpa using (Bool.and_eq_true_iff.1 hcause).2
    exact hc.put (.inr (.inl ⟨g, haxis, rfl, rfl⟩)) (by decide)
  case isFalse => exact hc

/-- After its flags a detection writes what `SpreadWrites` names. -/
theorem tripMark_tripDetect_onlyWrites : OnlyWrites SpreadWrites (s.tripMark i t) (s.tripDetect i t) := by
  rw [tripDetect_eq]
  extract_lets u
  have hu : OnlyWrites SpreadWrites (s.tripMark i t) u :=
    (OnlyWrites.refl _).forEach fun _ _ hg hv => tripSpread_onlyWrites hv (lt_of_mem_actsOn hg)
  exact ite_of hu (hu.event.group (.inr (.inr (.inr (.inl rfl)))) (.inr (.inr (.inr (.inr rfl)))))

theorem tripDetect_onlyWrites (hi : i < 36) : OnlyWrites DetectWrites s (s.tripDetect i t) :=
  ((tripMark_onlyWrites hi).wider fun _ _ => .inl).trans (tripMark_tripDetect_onlyWrites.wider fun _ _ => .inr)

end

theorem setGcause_staysCut (s : State) (n k : Nat) (b : Bool) : StaysCut s (s.setGcause n k b) := (SameHold.refl s).put.staysCut

theorem tripSpread_cut {s : State} {i t g : Nat} (hg : g < 40) :
    StaysCut s (State.tripSpread i t s g) ∧ ((State.tripSpread i t s g).pwm g).cut = true := by
  obtain ⟨hstay, hnow⟩ := pwmCut_cut hg t (s := s)
  unfold State.tripSpread
  extract_lets -merge -useContext -underBinder a b c
  have hb : StaysCut a b := by
    refine ite_of (P := StaysCut a) (fun _ h => h) fun j hj => ?_
    by_cases hjg : j = g
    · subst hjg
      exact (congrArg PwmSt.cut (pwm_modPwm_same hg)).trans hj
    · exact (congrArg PwmSt.cut (pwm_modPwm_ne hjg)).trans hj
  have hc : StaysCut a c := ite_of (P := StaysCut a) (hb.trans (SameHold.refl b).setf.staysCut) hb
  have hlast := ite_of (P := StaysCut a) (c := (decide (32 ≤ i) && decide (g < 32)) = true) (hc.trans (setGcause_staysCut c g (i - 32) true)) hc
  exact ⟨hstay.trans hlast, hlast g hnow⟩

/-- Every group of the list is cut in the end. -/
theorem forEach_tripSpread_cut {i t : Nat} {l : List Nat} (hl : ∀ g ∈ l, g < 40) :
    ∀ s : State, StaysCut s (s.forEach l (State.tripSpread i t)) ∧ ∀ g ∈ l, ((s.forEach l (State.tripSpread i t)).pwm g).cut = true := by
  induction l with
  | nil => exact fun s => ⟨fun _ h => h, fun _ h => absurd h List.not_mem_nil⟩
  | cons x l ih =>
    intro s
    obtain ⟨hstay, hnow⟩ := tripSpread_cut (i := i) (t := t) (s := s) (hl x List.mem_cons_self)
    obtain ⟨hrest, hcut⟩ := ih (fun g hg => hl g (List.mem_cons_of_mem x hg)) (State.tripSpread i t s x)
    refine ⟨hstay.trans hrest, fun g hg => ?_⟩
    rcases List.mem_cons.1 hg with rfl | hg
    · exact hrest g hnow
    · exact hcut g hg

theorem trip_modTrip_same {s : State} {i : Nat} {f : TripSt → TripSt} (hi : i < 36) : (s.modTrip i f).trip i = f (s.trip i) := vget_vmod_same hi
theorem trip_congr {s t : State} (h : t.trips = s.trips) (i : Nat) : t.trip i = s.trip i := by rw [State.trip, h, State.trip]

/-- The land of a detection is marked as detected, and nothing that follows changes the lands. -/
theorem tripDetect_trips (s : State) (i t : Nat) :
    (s.tripDetect i t).trips = (s.modTrip i fun x => { x with det := true, detAt := some (t / 32) }).trips := by
  set s0 := s.modTrip i fun x => { x with det := true, detAt := some (t / 32) }
  have hmark : Keeps (maskBut [.trips]) s0 (s.tripMark i t) := by
    unfold State.tripMark
    extract_lets -merge -useContext -underBinder v a k b
    have ha : Keeps (maskBut [.trips]) s0 a := keeps_State_tripFlag rfl (Keeps.refl _)
    have hb : Keeps (maskBut [.trips]) s0 b := keeps_State_wrN rfl (keeps_State_count rfl (keeps_State_setf rfl (Keeps.refl _)))
    exact ite_of (ite_of (keeps_State_setf rfl ha) ha) (ite_of (keeps_State_setf rfl hb) hb)
  have hspread : ∀ u g, Keeps (maskBut [.trips]) s0 u → Keeps (maskBut [.trips]) s0 (State.tripSpread i t u g) := fun u g h => by
    unfold State.tripSpread
    extract_lets -merge -useContext -underBinder a b c
    have ha : Keeps (maskBut [.trips]) s0 a := keeps_State_pwmCut rfl h
    have hb : Keeps (maskBut [.trips]) s0 b := ite_of ha (keeps_State_modPwm rfl ha)
    have hc : Keeps (maskBut [.trips]) s0 c := ite_of (keeps_State_setf rfl hb) hb
    exact ite_of (keeps_State_setGcause rfl hc) hc
  rw [tripDetect_eq]
  extract_lets u
  have hu : Keeps (maskBut [.trips]) s0 u := hmark.forEach hspread
  exact (ite_of (P := fun v => Keeps (maskBut [.trips]) s0 v) hu (keeps_State_group rfl (keeps_State_event rfl hu))).same .trips rfl

/-- What a detection by the land `i` at instant `t` leaves, from a state `s` in which the land's filtered level is active (R255). -/
structure Detected (s : State) (i t : Nat) (u : State) : Prop where
  det : (u.trip i).det = true
  tripIn : u.tripIn i = true
  cut : ∀ g ∈ s.actsOn i, (u.pwm g).cut = true
  stamp : i < 32 → u.flag (PWM_STAT i) PWM_STAT_TRIPPED = true ∧ u.rdN (PWM_TSTAMP i) = stampOf t

theorem tripMark_axis {s : State} {i t : Nat} (hc : s.canonical = true) (hi : i < 32) :
    (s.tripMark i t).flag (PWM_STAT i) PWM_STAT_TRIPPED = true ∧ (s.tripMark i t).rdN (PWM_TSTAMP i) = stampOf t := by
  have hcnt : PWM_STAT i ≠ PWM_CNT i := by unfold PWM_STAT PWM_CNT; omega
  have hstamp : PWM_STAT i ≠ PWM_TSTAMP i := by unfold PWM_STAT PWM_TSTAMP; omega
  unfold State.tripMark State.tripFlag
  extract_lets -merge -useContext -underBinder s0 a
  rw [if_pos hi]
  have h0 : s0.canonical = true := hc
  have ha : a.canonical = true := wrN_canonical (count_canonical (setf_canonical h0))
  have hflag : a.flag (PWM_STAT i) PWM_STAT_TRIPPED = true := by
    rw [← flag_setf (a := PWM_STAT i) (f := PWM_STAT_TRIPPED) h0 (by decide) (by decide)]
    simp only [State.flag, State.get, State.rdN, a, State.wrN, State.count]
    rw [rd_wr_ne (put_canonical (setf_canonical h0)) hstamp, rd_put_ne (setf_canonical h0) hcnt]
  have htime : a.rdN (PWM_TSTAMP i) = stampOf t :=
    rdN_wrN_same (count_canonical (setf_canonical h0)) (Nat.mod_lt _ (by decide))
  refine ite_of (P := fun v : State => v.flag (PWM_STAT i) PWM_STAT_TRIPPED = true ∧ v.rdN (PWM_TSTAMP i) = stampOf t) ⟨?_, ?_⟩ ⟨hflag, htime⟩
  · rw [State.flag, State.setf, get_put_other ha (by decide) (by decide)]
    exact hflag
  · rw [State.rdN, State.setf, rd_put_ne ha hstamp.symm]
    exact htime

theorem tripDetect_detected {s : State} {i t : Nat} (hc : s.canonical = true) (hi : i < 36) (hin : s.tripIn i = true) :
    Detected s i t (s.tripDetect i t) := by
  have hmark : OnlyWrites DetectWrites s (s.tripMark i t) := (tripMark_onlyWrites hi).wider fun _ _ => .inl
  have hspread := tripMark_tripDetect_onlyWrites (s := s) (i := i) (t := t)
  refine ⟨?_, ?_, ?_, fun haxis => ?_⟩
  · rw [trip_congr (tripDetect_trips s i t), trip_modTrip_same hi]
  · rw [tripIn_eq] at hin ⊢
    exact ((tripDetect_onlyWrites hi).flag hc (detectWrites_apart_tripIn i)).trans hin
  · rw [← actsOn_congr (hmark.wider fun _ _ => .inl) hc i, tripDetect_eq]
    extract_lets u
    intro g hg
    have hcut : (u.pwm g).cut = true := (forEach_tripSpread_cut (fun _ => lt_of_mem_actsOn) _).2 g hg
    have hreport : SameHold u ((u.event .trip i (b2n (s.tripLatched i))).group 2) :=
      (SameHold.refl u).keeps (keeps_State_group rfl (keeps_State_event rfl (Keeps.refl u)))
    exact ite_of (P := fun v : State => (v.pwm g).cut = true) hcut (hreport.staysCut g hcut)
  · obtain ⟨hflag, hstamp⟩ := tripMark_axis (t := t) hc haxis
    refine ⟨(hspread.flag (hmark.canon hc) fun f hf => ?_).trans hflag, (hspread.rdN (hmark.canon hc) (not_spreadWrites_pwmTstamp haxis)).trans hstamp⟩
    exact (by decide : ∀ f ∈ [PWM_STAT_TDT, PWM_STAT_DTSUP, PWM_STAT_CUT, PWM_STAT_GCAUSE], f.Apart PWM_STAT_TRIPPED) f (spreadWrites_pwmStat haxis hf)

end Sys2Proof.Machine
end

section
/-! PROOFS. The commands of trip lands and blanking windows, and the clears of trips (O30). -/

namespace Sys2Proof.Machine

/-! ### A land past its filter (R255, R258) -/

theorem setTripIn_keeps (s : State) (i : Nat) (b : Bool) : Keeps (partMask [.regs]) s (s.setTripIn i b) :=
  keeps_State_setTripIn rfl (Keeps.refl s)

theorem setTripIn_onlyWrites {i : Nat} (hi : i < 36) (s : State) (b : Bool) : OnlyWrites LandWrites s (s.setTripIn i b) := by
  rw [setTripIn_eq]
  exact (OnlyWrites.refl s).putB (.inr ⟨i, hi, rfl, rfl⟩) (tripInFld_fits i).1

theorem tripCheck_eq_tripDetect {s : State} {i t : Nat} (hin : s.tripIn i = true) (hdet : (s.trip i).det = false) (hopen : s.blanked i = false) :
    s.tripCheck i t = s.tripDetect i t := by
  rw [State.tripCheck, hin, hdet, hopen]
  rfl

theorem tripCheck_onlyWrites {i : Nat} (hi : i < 36) (s : State) (t : Nat) : OnlyWrites LandWrites s (s.tripCheck i t) :=
  ite_of ((tripDetect_onlyWrites hi).wider fun _ _ => .inl) (.refl s)

/-- What masks a land hangs on its settings, on the windows and on time. -/
theorem blanked_congr {s t : State} (h : OnlyWrites LandWrites s t) (hc : s.canonical = true) (hatcs : t.atcs = s.atcs) (htime : t.time = s.time)
    (i : Nat) : t.blanked i = s.blanked i := by
  have hblk : t.tripBlk i = s.tripBlk i := by
    unfold State.tripBlk
    rw [h.get hc _ _ fun g hg => absurd hg (not_landWrites (.inr (.inr (.inl ⟨i, rfl⟩))) g),
      h.get hc _ _ fun g hg => absurd hg (not_landWrites (.inr (.inl ⟨i - 32, .inl rfl⟩)) g)]
  unfold State.blanked State.atcCovers State.atc
  rw [hblk, hatcs, tick_congr htime]

/-- A land that passes its filter unmasked is detected. -/
theorem setTripIn_tripCheck_detected {s : State} {i t : Nat} (hc : s.canonical = true) (hi : i < 36) (hdet : (s.trip i).det = false)
    (hopen : s.blanked i = false) : Detected s i t ((s.setTripIn i true).tripCheck i t) := by
  have hwrites := setTripIn_onlyWrites hi s true
  have hkeeps := setTripIn_keeps s i true
  have hin : (s.setTripIn i true).tripIn i = true := tripIn_setTripIn hc
  have hdet' : ((s.setTripIn i true).trip i).det = false := by rw [trip_congr (hkeeps.same .trips rfl), hdet]
  rw [tripCheck_eq_tripDetect hin hdet' ((blanked_congr hwrites hc (hkeeps.same .atcs rfl) (hkeeps.same .time rfl) i).trans hopen)]
  have h := tripDetect_detected (t := t) (hwrites.canon hc) hi hin
  exact ⟨h.det, h.tripIn, fun g hg => h.cut g (by rwa [actsOn_congr hwrites hc]), h.stamp⟩

/-! ### A change of a land (R255) -/

/-- The land takes its level. -/
def State.landed (s : State) (i : Nat) (lvl : Bool) (t32 : Nat) : State :=
  (s.advanceTo (t32 / 32)).modTrip i fun x => { x with level := lvl, gap := none }

theorem advanceTo_keeps (s : State) (t : Nat) : Keeps (partMask [.time]) s (s.advanceTo t) := keeps_State_advanceTo rfl (Keeps.refl s)

theorem landed_keeps (s : State) (i : Nat) (lvl : Bool) (t32 : Nat) : Keeps (partMask [.time, .trips]) s (s.landed i lvl t32) :=
  keeps_State_modTrip rfl (keeps_State_advanceTo rfl (Keeps.refl s))

theorem landed_tick (s : State) (i : Nat) (lvl : Bool) (t32 : Nat) : (s.landed i lvl t32).tick = max s.tick (t32 / 32) := advanceTo_tick ..

theorem tripSettings_congr {s t : State} (h : t.regs = s.regs) (i : Nat) :
    t.tripEn i = s.tripEn i ∧ t.tripPol i = s.tripPol i ∧ t.tripFilt i = s.tripFilt i := by
  unfold State.tripEn State.tripPol State.tripFilt State.flag
  simp only [get_congr h, and_self]

section
variable {s : State} {i t32 : Nat} {lvl : Bool} (hen : s.tripEn i = true) (hne : (s.trip i).level ≠ lvl)

theorem landed_tripEn (s : State) (i : Nat) (lvl : Bool) (t32 : Nat) : (s.landed i lvl t32).tripEn i = s.tripEn i :=
  (tripSettings_congr ((landed_keeps s i lvl t32).same .regs rfl) i).1

/-- A land that is not watched takes its level, and that is all. -/
theorem tripLand_unwatched (hoff : s.tripEn i = false) : s.tripLand i lvl t32 = s.landed i lvl t32 :=
  if_pos (by rw [← State.landed, landed_tripEn, hoff]; rfl)

include hen hne

theorem landed_changes : ¬((!(s.landed i lvl t32).tripEn i || lvl == ((s.advanceTo (t32 / 32)).trip i).level) = true) := by
  have hlevel : (s.advanceTo (t32 / 32)).trip i = s.trip i := trip_congr (State.advanceTo_trips ..) i
  rw [landed_tripEn, hen, hlevel]
  simpa using hne.symm

/-- A watched land becomes active. -/
theorem tripLand_active (hpol : lvl = s.tripPol i) (hgap : (s.trip i).gap = none) :
    s.tripLand i lvl t32 = (s.landed i lvl t32).tripActive i t32 := by
  obtain ⟨-, hpol', -⟩ := tripSettings_congr ((landed_keeps s i lvl t32).same .regs rfl) i
  have hgap' : ((s.advanceTo (t32 / 32)).trip i).gap = none := by rw [trip_congr (State.advanceTo_trips ..) i, hgap]
  unfold State.tripLand
  extract_lets s0 x0 s1
  refine (if_neg (landed_changes hen hne)).trans ((if_pos (beq_iff_eq.2 (hpol.trans hpol'.symm))).trans ?_)
  rw [show x0.gap = none from hgap']
  rfl

/-- A watched land becomes inactive. -/
theorem tripLand_inactive (hpol : lvl ≠ s.tripPol i) :
    s.tripLand i lvl t32 = ((s.landed i lvl t32).setTripIn i false).modTrip i fun x =>
      { x with
        since := none, det := false
        gap := (s.trip i).since.map fun a => (a, t32, (s.trip i).det, (s.landed i lvl t32).tripIn i) } := by
  obtain ⟨-, hpol', -⟩ := tripSettings_congr ((landed_keeps s i lvl t32).same .regs rfl) i
  have htrip : (s.advanceTo (t32 / 32)).trip i = s.trip i := trip_congr (State.advanceTo_trips ..) i
  unfold State.tripLand
  extract_lets s0 x0 s1
  refine (if_neg (landed_changes hen hne)).trans ((if_neg fun h => hpol ((beq_iff_eq.1 h).trans hpol')).trans ?_)
  simp only [show x0 = s.trip i from htrip]
  rfl

end

/-- An active land without a filter is detected at once unless it is masked (R255). -/
theorem tripActive_detected {s : State} {i t : Nat} (hc : s.canonical = true) (hi : i < 36) (hfilt : s.tripFilt i = 0)
    (hopen : s.blanked i = false) : Detected s i t (s.tripActive i t) := by
  unfold State.tripActive
  extract_lets u
  have hu : u.canonical = true := hc
  have hdet : (u.trip i).det = false := congrArg TripSt.det (trip_modTrip_same hi)
  rw [if_pos (show u.tripFilt i = 0 from hfilt)]
  obtain ⟨hd, hin, hcut, hstamp⟩ := setTripIn_tripCheck_detected (t := t) hu hi hdet hopen
  exact ⟨hd, hin, hcut, hstamp⟩

/-! ### A filter that reaches TFILT (R255) -/

/-- The filter of a land active since `a` reaches TFILT, and the source is detected unless it is masked. -/
theorem tripFiltered_eq {s : State} {i a : Nat} (hsince : (s.trip i).since = some a) :
    s.tripFiltered i =
      let u := s.advanceTo ((a + 31) / 32 + (s.tripFilt i - 1))
      (u.setTripIn i true).tripCheck i u.now := by
  have htick : s.tripTick i = some ((a + 31) / 32 + (s.tripFilt i - 1)) := by rw [State.tripTick, hsince]; rfl
  unfold State.tripFiltered
  rw [htick]
  extract_lets u
  simp only [u]
  rw [if_pos (by rw [advanceTo_tick]; exact le_max_right _ _)]

/-- A filter that has reached TFILT, as a command that reads it settles it. -/
theorem tripSettle_onlyWrites {i : Nat} (hi : i < 36) (s : State) : OnlyWrites LandWrites s (s.tripSettle i) := by
  unfold State.tripSettle
  split
  · exact ite_of ((setTripIn_onlyWrites hi s true).trans (tripCheck_onlyWrites hi _ _)) (.refl s)
  · exact .refl s

theorem tripSettle_canonical {s : State} {i : Nat} (hc : s.canonical = true) : (s.tripSettle i).canonical = true :=
  (keeps_State_tripSettle (M := partMask Part.all) rfl (Keeps.refl s)).canon hc

/-! ### Blanking windows (R257, R258) -/

/-- What shows a mask or a global trip in the status of the leg groups. -/
def StatusWrites (a : Nat) (_ : Fld) : Prop := ∃ g < 40, a = statOf g

theorem statOf_lt {g : Nat} (hg : g < 40) : statOf g < 0xB1000 := by
  rcases statOf_mem hg with ⟨n, hn, h⟩ | ⟨j, hj, h⟩
  · rw [h]
    unfold PWM_STAT
    omega
  · rw [h]
    unfold PWMX_STAT
    omega

theorem not_statusWrites {a : Nat} (ha : 0xB1000 ≤ a) (f : Fld) : ¬StatusWrites a f := fun ⟨_, hg, h⟩ =>
  absurd (h ▸ statOf_lt hg) (not_lt.2 ha)

theorem statusWrites_pwm {n : Nat} (hn : n < 32) (f : Fld) : StatusWrites (PWM_STAT n) f := ⟨n, by omega, (if_pos hn).symm⟩
theorem statusWrites_aux {j : Nat} (hj : j < 8) (f : Fld) : StatusWrites (PWMX_STAT j) f :=
  ⟨32 + j, by omega, by rw [statOf, if_neg (by omega), Nat.add_sub_cancel_left]⟩

theorem blankStat_onlyWrites (s : State) : OnlyWrites StatusWrites s s.blankStat :=
  ((OnlyWrites.refl s).forEach fun _ _ hn h => h.putB (statusWrites_pwm (List.mem_range.1 hn) _) (by decide)).forEach
    fun _ _ hj h => h.putB (statusWrites_aux (List.mem_range.1 hj) _) (by decide)

theorem atc_modAtc_same {s : State} {k : Nat} {f : AtcSt → AtcSt} (hk : k < 16) : (s.modAtc k f).atc k = f (s.atc k) := vget_vmod_same hk
theorem atc_congr {s t : State} (h : t.atcs = s.atcs) (k : Nat) : t.atc k = s.atc k := by rw [State.atc, h, State.atc]

theorem le_atcStat (k : Nat) : 0xB1000 ≤ ATC_STAT k := by unfold ATC_STAT; omega

/-- A window opens: it is the channel's open one, which its status shows, and time has run on to it. -/
theorem atcOpen_opens {s : State} {k a b : Nat} {rest : List (Nat × Nat)} (hc : s.canonical = true) (hk : k < 16)
    (hwins : (s.atc k).wins = (a, b) :: rest) (hclosed : (s.atc k).closeAt = none) :
    ((s.atcOpen k).atc k).wins = rest ∧ ((s.atcOpen k).atc k).closeAt = some b ∧
      (s.atcOpen k).flag (ATC_STAT k) ATC_STAT_OPEN = true ∧ (s.atcOpen k).tick = max s.tick a := by
  unfold State.atcOpen
  rw [hwins, hclosed]
  simp only [Option.isSome_none, Bool.false_eq_true, if_false]
  set u := (s.advanceTo a).modAtc k fun x => { x with wins := rest, closeAt := some b }
  have hcu : u.canonical = true := (advanceTo_keeps s a).canon hc
  have hkeeps : Keeps (partMask [.regs]) u ((u.setf (ATC_STAT k) ATC_STAT_OPEN).count (ATC_STAT k) ATC_STAT_WINS).blankStat :=
    keeps_State_blankStat rfl (keeps_State_count rfl (keeps_State_setf rfl (Keeps.refl u)))
  have hatc := (atc_congr (hkeeps.same .atcs rfl) k).trans (atc_modAtc_same hk)
  refine ⟨congrArg AtcSt.wins hatc, congrArg AtcSt.closeAt hatc, ?_, (tick_congr (hkeeps.same .time rfl)).trans (advanceTo_tick s a)⟩
  rw [(blankStat_onlyWrites _).flag (count_canonical (setf_canonical hcu)) fun f hf => absurd hf (not_statusWrites (le_atcStat k) f),
    State.flag, State.count, get_put_other (setf_canonical hcu) (by decide) (by decide)]
  exact flag_setf hcu (by decide) (by decide)

/-- A window closes: the channel has no open one, which its status shows, and time has run on to its end. -/
theorem atcClose_closes {s : State} {k b : Nat} (hc : s.canonical = true) (hk : k < 16) (hopen : (s.atc k).closeAt = some b) :
    ((s.atcClose k).atc k).closeAt = none ∧ (s.atcClose k).flag (ATC_STAT k) ATC_STAT_OPEN = false ∧ (s.atcClose k).tick = max s.tick b := by
  unfold State.atcClose
  rw [hopen]
  dsimp only
  set u := (s.advanceTo b).modAtc k fun x => { x with closeAt := none } with hu
  set v := (u.clrf (ATC_STAT k) ATC_STAT_OPEN).blankStat
  have hcu : u.canonical = true := (advanceTo_keeps s b).canon hc
  have hblank := blankStat_onlyWrites (u.clrf (ATC_STAT k) ATC_STAT_OPEN)
  have hcv : v.canonical = true := hblank.canon (clrf_canonical hcu)
  set t := v.forEach (List.range 36) fun s i => if s.tripBlk i = k then (s.tripSettle i).tripCheck i s.now else s
  have hkeeps : Keeps (maskBut [.atcs, .time]) u t :=
    (keeps_State_blankStat rfl (keeps_State_clrf rfl (Keeps.refl u))).forEach fun _ _ h =>
      ite_of (keeps_State_tripCheck rfl (keeps_State_tripSettle rfl h)) h
  have hwrites : OnlyWrites LandWrites v t := (OnlyWrites.refl v).forEach fun w i hi h =>
    ite_of (h.trans ((tripSettle_onlyWrites (List.mem_range.1 hi) w).trans (tripCheck_onlyWrites (List.mem_range.1 hi) _ _))) h
  refine ⟨?_, ?_, (tick_congr (hkeeps.same .time rfl)).trans (advanceTo_tick s b)⟩
  · rw [atc_congr (hkeeps.same .atcs rfl) k, hu, atc_modAtc_same hk]
  · rw [hwrites.flag hcv fun f hf => absurd hf (not_landWrites (.inr (.inr (.inr ⟨k, hk, rfl⟩))) f),
      hblank.flag (clrf_canonical hcu) fun f hf => absurd hf (not_statusWrites (le_atcStat k) f)]
    exact flag_clrf hcu (by decide)

/-! ### Clears of trips (R260, R263, R269) -/

section
variable {s : State} {n : Nat} (hlatch : (s.tripSettle n).flag (PWM_STAT n) PWM_STAT_LCAUSE = true)
include hlatch

/-- TCLR with every latched cause inactive clears the latches. -/
theorem pwmTclr_accepted (hin : (s.tripSettle n).tripIn n = false)
    (hoc : (s.tripSettle n).flag (PWM_STAT n) PWM_STAT_OCAUSE = true → (s.tripSettle n).ocActive n = false)
    (hloss : (s.tripSettle n).flag (PWM_STAT n) PWM_STAT_SCAUSE = true → (s.tripSettle n).lossActive n = false) :
    s.pwmTclr n = (((s.tripSettle n).clrf (PWM_STAT n) PWM_STAT_LCAUSE).clrf (PWM_STAT n) PWM_STAT_OCAUSE).clrf (PWM_STAT n) PWM_STAT_SCAUSE := by
  unfold State.pwmTclr
  extract_lets u l o x
  have hl : l = true := hlatch
  have ho : (o && u.ocActive n) = false := Bool.and_eq_false_imp.2 hoc
  have hx : (x && u.lossActive n) = false := Bool.and_eq_false_imp.2 hloss
  have hland : u.tripIn n = false := hin
  rw [if_neg (by simp [hl]), if_neg (by simp [hl, ho, hx, hland])]

/-- TCLR with the land still active is refused. -/
theorem pwmTclr_refused (hin : (s.tripSettle n).tripIn n = true) :
    s.pwmTclr n = ((s.tripSettle n).setf (PWM_STAT n) PWM_STAT_CLR_REFUSED).event .clrRefused n := by
  unfold State.pwmTclr
  extract_lets u l o x
  have hl : l = true := hlatch
  have hland : u.tripIn n = true := hin
  rw [if_neg (by simp [hl]), if_pos (by simp [hl, hland])]

end

/-- The three latches of an axis are cleared, and nothing else is. -/
theorem clrf_causes {u : State} {n : Nat} (hc : u.canonical = true) :
    let t := ((u.clrf (PWM_STAT n) PWM_STAT_LCAUSE).clrf (PWM_STAT n) PWM_STAT_OCAUSE).clrf (PWM_STAT n) PWM_STAT_SCAUSE
    t.flag (PWM_STAT n) PWM_STAT_LCAUSE = false ∧ t.flag (PWM_STAT n) PWM_STAT_OCAUSE = false ∧ t.flag (PWM_STAT n) PWM_STAT_SCAUSE = false ∧
      ∀ a, a ≠ PWM_STAT n → t.rd a = u.rd a := by
  have h1 : (u.clrf (PWM_STAT n) PWM_STAT_LCAUSE).canonical = true := clrf_canonical hc
  have h2 : ((u.clrf (PWM_STAT n) PWM_STAT_LCAUSE).clrf (PWM_STAT n) PWM_STAT_OCAUSE).canonical = true := clrf_canonical h1
  refine ⟨?_, ?_, flag_clrf h2 (by decide), fun a ha => ?_⟩
  · rw [State.flag, State.clrf, get_put_other h2 (by decide) (by decide), State.clrf, get_put_other h1 (by decide) (by decide)]
    exact flag_clrf hc (by decide)
  · rw [State.flag, State.clrf, get_put_other h2 (by decide) (by decide)]
    exact flag_clrf h1 (by decide)
  · rw [State.clrf, rd_put_ne h2 ha, State.clrf, rd_put_ne h1 ha, State.clrf, rd_put_ne hc ha]

/-- TCLR of a global trip whose land is inactive clears its latch, and leaves the groups. -/
theorem gtripTclr_accepted {s : State} {k : Nat} (hc : s.canonical = true)
    (hlatch : (s.tripSettle (32 + k)).flag (GTRIP_STAT k) GTRIP_STAT_LATCHED = true) (hin : (s.tripSettle (32 + k)).tripIn (32 + k) = false) :
    (s.gtripTclr k).flag (GTRIP_STAT k) GTRIP_STAT_LATCHED = false ∧ (s.gtripTclr k).pwms = (s.tripSettle (32 + k)).pwms := by
  have hcu := tripSettle_canonical hc (i := 32 + k)
  unfold State.gtripTclr
  extract_lets -merge -useContext -underBinder u v
  rw [if_neg (by simp [u, hlatch]), if_neg (by simp [u, hin])]
  have hwrites := (OnlyWrites.refl (W := StatusWrites) v).forEach (l := List.range 32) (f := fun s n => s.setGcause n k (s.holds (32 + k) n))
    fun _ _ hn h => h.put (statusWrites_pwm (List.mem_range.1 hn) _) (by decide)
  have hkeeps : Keeps (partMask [.regs]) u (v.forEach (List.range 32) fun s n => s.setGcause n k (s.holds (32 + k) n)) :=
    (keeps_State_clrf rfl (Keeps.refl u)).forEach fun _ _ h => keeps_State_setGcause rfl h
  refine ⟨?_, hkeeps.same .pwms rfl⟩
  rw [hwrites.flag (clrf_canonical hcu) fun f hf => absurd hf (not_statusWrites (by unfold GTRIP_STAT; omega) f)]
  exact flag_clrf hcu (by decide)

/-- Settles O30: a land past its filter is detected unless it is masked (`Detected`), a window opens and closes in its status, and a clear takes
the latches whose causes are inactive. -/
theorem tripCommandsComplete : Obligations.TripCommandsComplete := by
  refine ⟨?unwatched, ?active, ?inactive, ?filtered, ?opens, ?closes, ?tclr, ?refused, ?gtclr, ?clrcnt⟩
  case unwatched =>
    intro s i lvl t32 hen
    have hkeeps := landed_keeps s i lvl t32
    refine ⟨s.landed i lvl t32, congrArg Host.Outcome.next (tripLand_unwatched hen), ?_, hkeeps.same .regs rfl, hkeeps.same .pwms rfl, landed_tick ..⟩
    exact congrArg TripSt.level (trip_modTrip_same i.isLt)
  case active =>
    intro s i lvl t32 hc hen hne hpol hgap hfilt hopen
    have hkeeps := landed_keeps s i lvl t32
    have hregs : (s.landed i lvl t32).regs = s.regs := hkeeps.same .regs rfl
    obtain ⟨-, -, hfilt'⟩ := tripSettings_congr hregs i
    obtain ⟨hdet, hin, hcut, hstamp⟩ := tripActive_detected (t := t32) (hkeeps.canon hc) i.isLt (hfilt'.trans hfilt) hopen
    refine ⟨(s.landed i lvl t32).tripActive i t32, congrArg Host.Outcome.next (tripLand_active hen hne hpol hgap), hdet, hin, fun g hg => hcut g ?_, hstamp⟩
    rwa [actsOn_congr ⟨hkeeps.canon, fun _ a f _ => get_congr hregs a f⟩ hc]
  case inactive =>
    intro s i lvl t32 hc hen hne hpol
    have hkeeps := landed_keeps s i lvl t32
    have htin := setTripIn_keeps (s.landed i lvl t32) i false
    refine ⟨_, congrArg Host.Outcome.next (tripLand_inactive hen hne hpol), ?_, ?_, ?_, (htin.same .pwms rfl).trans (hkeeps.same .pwms rfl)⟩
    · exact congrArg TripSt.since (trip_modTrip_same i.isLt)
    · exact congrArg TripSt.det (trip_modTrip_same i.isLt)
    · exact tripIn_setTripIn (hkeeps.canon hc)
  case filtered =>
    intro s i a hc hsince hdet hopen
    have hkeeps := advanceTo_keeps s ((a + 31) / 32 + (s.tripFilt i - 1))
    refine ⟨_, congrArg Host.Outcome.next (tripFiltered_eq hsince), ?_⟩
    extract_lets u
    have hdet' : (u.trip i).det = false := by rw [trip_congr (State.advanceTo_trips ..) i, hdet]
    obtain ⟨hd, hin, hcut, -⟩ := setTripIn_tripCheck_detected (t := u.now) (hkeeps.canon hc) i.isLt hdet' hopen
    refine ⟨hd, hin, fun g hg => hcut g ?_, ?_⟩
    · rwa [actsOn_congr ⟨hkeeps.canon, fun _ a f _ => get_congr (hkeeps.same .regs rfl) a f⟩ hc]
    · have htime : Keeps (maskBut [.time]) u ((u.setTripIn i true).tripCheck i u.now) :=
        keeps_State_tripCheck rfl (keeps_State_setTripIn rfl (Keeps.refl u))
      exact (tick_congr (htime.same .time rfl)).trans (advanceTo_tick ..)
  case opens =>
    intro s k a b rest hc hwins hclosed
    exact ⟨s.atcOpen k, rfl, atcOpen_opens hc k.isLt hwins hclosed⟩
  case closes =>
    intro s k b hc hopen
    exact ⟨s.atcClose k, rfl, atcClose_closes hc k.isLt hopen⟩
  case tclr =>
    intro s n u hc hmay hlatch hin hoc hloss
    exact ⟨_, congrArg Host.Outcome.next ((hostCmd_may hmay).trans (pwmTclr_accepted hlatch hin hoc hloss)), clrf_causes (tripSettle_canonical hc)⟩
  case refused =>
    intro s n u hc hmay hlatch hin
    have hcu : u.canonical = true := tripSettle_canonical hc
    refine ⟨_, congrArg Host.Outcome.next ((hostCmd_may hmay).trans (pwmTclr_refused hlatch hin)), ?_, flag_setf hcu (by decide) (by decide), by simp [State.event, u]⟩
    change (u.setf (PWM_STAT n) PWM_STAT_CLR_REFUSED).flag (PWM_STAT n) PWM_STAT_LCAUSE = true
    rw [State.flag, State.setf, get_put_other hcu (by decide) (by decide)]
    exact hlatch
  case gtclr =>
    intro s k u hc hmay hlatch hin
    exact ⟨s.gtripTclr k, congrArg Host.Outcome.next (hostCmd_may hmay), gtripTclr_accepted hc hlatch hin⟩
  case clrcnt =>
    intro s k hc hmay
    refine ⟨s.gtripClrCnt k, congrArg Host.Outcome.next (hostCmd_may hmay), ?_, fun a ha => rd_put_ne hc ha⟩
    exact (get_put_same hc (by decide)).trans (Nat.zero_mod _)

end Sys2Proof.Machine
end

section
/-! PROOFS. The boundaries of the leg groups (08_pwm_and_trips.md): what holds a group stays as it is until a cut ends, and without a source
that holds it for the period a boundary reports no event. -/

namespace Sys2Proof.Machine

/-! ### What commits, spans and gates leave held (R238, R241 to R250) -/

section
variable {s0 s : State} (h : SameHold s0 s) {g t : Nat}
include h

theorem SameHold.pwmFollow : SameHold s0 (s.pwmFollow g t) := h.forEach fun _ _ hu => hu.modLeg

theorem SameHold.pwmDrive : SameHold s0 (s.pwmDrive g t) := by
  unfold State.pwmDrive
  extract_lets -merge -useContext -underBinder d s1 s2
  have h1 : SameHold s0 s1 := h.pwmTo.modPwm
  have h2 : SameHold s0 s2 := h.pwmTo
  exact ite_of h (ite_of (ite_of h1 h1.pwmFollow) (h2.modPwm))

theorem SameHold.pwmPeriod {v : Word} : SameHold s0 (s.pwmPeriod g v t) := by
  unfold State.pwmPeriod
  extract_lets -merge -useContext -underBinder s1 s2
  have h1 : SameHold s0 s1 := h.awr.put
  have h2 : SameHold s0 s2 := ite_of h1.wr h1
  exact ite_of (h2.pwmDrive.modPwm) h2

theorem SameHold.pwmApply {mid : Bool} {c : PwmCommit} : SameHold s0 (s.pwmApply g t mid c) := by
  unfold State.pwmApply
  extract_lets -merge -useContext -underBinder per cmps bad u0 u1
  have h0 : SameHold s0 u0 := h.modPwm
  have h1 : SameHold s0 u1 := h0.foldl fun _ _ hv => hv.awr
  clear_value u1 bad cmps per
  split
  · exact h1
  · refine ite_of h1.setf ?_
    extract_lets -merge -useContext -underBinder u2 u3 rest
    have h2 : SameHold s0 u2 := ite_of (h1.modPwm) h1.pwmPeriod
    have h3 : SameHold s0 u3 := ite_of h2.setf h2
    exact h3.modPwm fun _ => by split <;> exact ⟨rfl, rfl⟩

theorem SameHold.pwmCommits {mid : Bool} : SameHold s0 (s.pwmCommits g t mid) := by
  unfold State.pwmCommits
  extract_lets q
  split
  exact (h.modPwm).foldl fun _ _ hv => hv.pwmApply

theorem SameHold.pwmStart : SameHold s0 (State.pwmStart g s) := by
  unfold State.pwmStart
  split
  · exact ite_of (h.modPwm) h
  · exact h

theorem SameHold.pwmStageAt {a : Nat} {cmp : Bool} : SameHold s0 (s.pwmStageAt g a cmp t) := by
  unfold State.pwmStageAt
  split
  · exact (h.modPwm).pwmStart
  · exact (h.modPwm fun _ => by split <;> exact ⟨rfl, rfl⟩).pwmStart

theorem SameHold.pwmCaptureAt {all : Bool} : SameHold s0 (s.pwmCaptureAt g all t) := by
  unfold State.pwmCaptureAt
  extract_lets -merge -useContext -underBinder q as words caps
  exact (h.modPwm).pwmStart

theorem SameHold.flyTo : SameHold s0 (s.flyTo g) := by
  unfold State.flyTo
  split
  · exact ite_of ((h.modPwm).foldl fun _ _ hv => hv.wr.pwmStageAt).pwmCaptureAt h
  · exact h

theorem SameHold.atcSettings : SameHold s0 (s.atcSettings g) := h.keeps (keeps_State_atcSettings rfl (Keeps.refl s))

theorem SameHold.pwmSpan {b0 S : Nat} {second : Bool} : SameHold s0 (s.pwmSpan g b0 S second) := by
  unfold State.pwmSpan
  extract_lets -merge -useContext -underBinder u0 m u1
  have h0 : SameHold s0 u0 := h.pwmTo.modPwm
  have h1 : SameHold s0 u1 := by
    refine h0.forEach fun v i hv => ?_
    extract_lets -merge -useContext -underBinder C clamp C1 sA
    have hA : SameHold s0 sA := ite_of hv.awr.setf hv
    split
    extract_lets -merge -useContext -underBinder sB sC es dt
    have hB : SameHold s0 sB := ite_of hA.setf hA
    have hC : SameHold s0 sC := ite_of hB.setf hB
    exact hC.wr.modLeg.modPwm
  exact (h1.modPwm).keeps (keeps_State_atcSpan rfl (Keeps.refl _))

end

/-! ### Events at a boundary (R259, R260) -/

/-- Where no source holds a group for its period, the end of its cut reports nothing. -/
theorem cutEnd_keeps_events {s : State} {g t : Nat} (hcbc : (s.pwm g).cbc = []) : Keeps (maskBut [.events]) s (s.cutEnd g t) := by
  unfold State.cutEnd
  rw [hcbc]
  extract_lets -merge -useContext -underBinder u q still u1 u2 u3 u4
  have h1 : Keeps (maskBut [.events]) s u1 := keeps_State_modPwm rfl (Keeps.refl s)
  have h2 : Keeps (maskBut [.events]) s u2 := ite_of h1 (ite_of (keeps_State_count rfl h1) h1)
  have h3 : Keeps (maskBut [.events]) s u3 := ite_of (keeps_State_put rfl h2) h2
  have h4 : Keeps (maskBut [.events]) s u4 := keeps_State_modPwm rfl (keeps_State_clrf rfl (keeps_State_pwmTo rfl h3))
  exact ite_of (ite_of (keeps_State_pwmFollow rfl h4) h4) h3

/-- So a boundary of that group reports nothing. -/
theorem pwmBoundary_keeps_events {s : State} {g t S : Nat} {second : Bool} (hcbc : (s.pwm g).cbc = []) :
    Keeps (maskBut [.events]) s (s.pwmBoundary g t S second) := by
  unfold State.pwmBoundary
  extract_lets -merge -useContext -underBinder u0 u1 u2 u3 u4 u5
  have k0 : Keeps (maskBut [.events]) s u0 := keeps_State_pwmTo rfl (keeps_State_flyTo rfl (Keeps.refl s))
  have h0 : SameHold s u0 := (SameHold.refl s).flyTo.pwmTo
  have k1 : Keeps (maskBut [.events]) s u1 := by
    unfold u1
    split
    · exact keeps_State_modPwm rfl (keeps_State_pwmPeriod rfl k0)
    · exact k0
  have h1 : SameHold s u1 := by
    unfold u1
    split
    · exact h0.pwmPeriod.modPwm
    · exact h0
  have k2 : Keeps (maskBut [.events]) s u2 := keeps_State_pwmCommits rfl k1
  have h2 : SameHold s u2 := h1.pwmCommits
  have k3 : Keeps (maskBut [.events]) s u3 := ite_of k2 (keeps_State_atcSettings rfl k2)
  have h3 : SameHold s u3 := ite_of h2 h2.atcSettings
  have k4 : Keeps (maskBut [.events]) s u4 := keeps_State_pwmSpan rfl (ite_of k3 (keeps_State_wrN rfl k3))
  have h4 : SameHold s u4 := (ite_of (P := SameHold s) h3 h3.wr).pwmSpan
  have k5 : Keeps (maskBut [.events]) s u5 := ite_of k4 (k4.trans (cutEnd_keeps_events ((h4 g).2.trans hcbc)))
  exact ite_of k3 (keeps_State_pwmDrive rfl k5)

/-! ### The period of a free-running leg (R240) -/

/-- The next period of a running free-running leg starts at the end of its span. -/
theorem auxStart_eq {s : State} {j : Nat} (hfree : s.freeRun (32 + j) = true) (hidle : (s.pwm (32 + j)).startAt = none)
    (hrun : s.stopped (32 + j) = false) :
    s.auxStart j =
      let t := (s.pwm (32 + j)).b0 + (s.pwm (32 + j)).span
      let u := (s.advanceTo (t / 32)).pwmCommits (32 + j) t false
      u.pwmBoundary (32 + j) t (32 * u.ardN (perReg (32 + j))) false := by
  unfold State.auxStart
  extract_lets -merge -useContext -underBinder g q
  refine (if_neg (by simp [g, hfree])).trans ?_
  rw [show q.startAt = none from hidle]
  exact if_neg (by simp [g, hrun])

end Sys2Proof.Machine
end

section
/-! PROOFS. The commands of the leg groups and auxiliary legs (O29). -/

namespace Sys2Proof.Machine

/-! ### Commits (R248, R249) -/

theorem flyTo_of_none {s : State} {g : Nat} (h : (s.pwm g).fly = none) : s.flyTo g = s := by
  unfold State.flyTo
  rw [h]

/-- A capture may start a stopped free-running leg, and changes nothing else beyond it (R241). -/
theorem pwmStart_pwm {s : State} {g : Nat} (hg : g < 40) : ∃ o, (State.pwmStart g s).pwm g = { s.pwm g with startAt := o } := by
  unfold State.pwmStart
  split
  · split
    · exact ⟨_, pwm_modPwm_same hg⟩
    · exact ⟨_, rfl⟩
  · exact ⟨_, rfl⟩

/-- Leg group `g` has captured one commit, of the present tick, with the compare part and, for `all`, the other fields of `s`. -/
structure Captured1 (s : State) (g : Nat) (all : Bool) (t : State) : Prop where
  caps : (t.pwm g).caps = [⟨s.tick, ((s.pwm g).cmpPart ++ if all then (s.pwm g).fieldPart else []).map fun a => (a, s.rd a), all⟩]
  cmpPart : (t.pwm g).cmpPart = []
  fieldPart : (t.pwm g).fieldPart = if all then [] else (s.pwm g).fieldPart
  regs : t.regs = s.regs
  act : t.act = s.act

/-- Leg group `g` with one commit captured at tick `t`. -/
def State.captured (s : State) (g : Nat) (all : Bool) (t : Nat) : State :=
  s.modPwm g fun q =>
    { q with
      cmpPart := [], fieldPart := if all then [] else q.fieldPart
      caps := [⟨t, ((s.pwm g).cmpPart ++ if all then (s.pwm g).fieldPart else []).map fun a => (a, s.rd a), all⟩] }

theorem pwmCaptureAt_of_none {s : State} {g t : Nat} {all : Bool} (hcaps : (s.pwm g).caps = []) :
    s.pwmCaptureAt g all t = State.pwmStart g (s.captured g all t) := by
  have hsame : s.pwmSameCycle g t = none := by rw [State.pwmSameCycle, hcaps]; rfl
  unfold State.pwmCaptureAt
  rw [hsame]
  extract_lets -merge -useContext -underBinder q as words caps
  rw [show caps = [⟨t, words, all⟩] from congrArg (· ++ [(⟨t, words, all⟩ : PwmCommit)]) hcaps]
  rfl

/-- A commit of a group without one captures the parts that it names. -/
theorem pwmCapture_captured1 {s : State} {g : Nat} {all : Bool} (hg : g < 40) (hfly : (s.pwm g).fly = none) (hcaps : (s.pwm g).caps = []) :
    Captured1 s g all (s.pwmCapture g all) := by
  have hkeeps : Keeps (partMask [.pwms]) s (s.pwmCapture g all) := by
    rw [State.pwmCapture, flyTo_of_none hfly]
    exact keeps_State_pwmCaptureAt rfl (Keeps.refl s)
  obtain ⟨o, ho⟩ := pwmStart_pwm (s := s.captured g all s.tick) hg
  rw [← pwmCaptureAt_of_none hcaps, State.captured, pwm_modPwm_same hg] at ho
  rw [State.pwmCapture, flyTo_of_none hfly] at hkeeps ⊢
  exact ⟨congrArg PwmSt.caps ho, congrArg PwmSt.cmpPart ho, congrArg PwmSt.fieldPart ho, hkeeps.same .regs rfl, hkeeps.same .act rfl⟩

theorem pwmAll_of_free {s : State} {n : Nat} (h : s.tokenHolds CTOK_PWM n = none) : s.pwmAll n = s.pwmCapture n true := by
  unfold State.pwmAll
  rw [h]
theorem pwmAll_of_held {s : State} {n k : Nat} (h : s.tokenHolds CTOK_PWM n = some k) : s.pwmAll n = s.setf (CTOK_CTRL k) CTOK_CTRL_HELD := by
  unfold State.pwmAll
  rw [h]

/-! ### Gate edges (R244, R245) -/

theorem next_of_due {l : LegSt} {x : Nat} {hi : Bool} (hdue : l.due = some (x, hi)) (hedges : l.edges = []) : l.next = some (x, true) := by
  unfold LegSt.next
  rw [hdue, hedges]
theorem next_of_edge {l : LegSt} {x : Nat} {on : Bool} {rest : List (Nat × Bool)} (hdue : l.due = none) (hedges : l.edges = (x, on) :: rest) :
    l.next = some (x, false) := by
  unfold LegSt.next
  rw [hdue, hedges]

/-- The next event of a leg happens where it lies within the span. -/
theorem pwmEdge_eq {s : State} {g i x : Nat} {b : Bool} (hnext : (s.leg g i).next = some (x, b))
    (hspan : s.stopped g = false → x < (s.pwm g).b0 + (s.pwm g).span) : s.pwmEdge g i = (s.advanceTo (x / 32)).legEvent g i := by
  unfold State.pwmEdge
  rw [hnext]
  exact if_neg (by simpa using hspan)

section
variable {s : State} {g i : Nat} (hg : g < 40) (hi : i < 4)
include hg hi

/-- A turn-on whose dead time is over turns its gate on. -/
theorem legEvent_due {x : Nat} {high : Bool} (hdue : (s.leg g i).due = some (x, high)) (hedges : (s.leg g i).edges = []) :
    (s.legEvent g i).leg g i = (if high then { s.leg g i with h := true, due := none } else { s.leg g i with l := true, due := none }) ∧
      (s.legEvent g i).regs = s.regs := by
  unfold State.legEvent
  extract_lets -merge -useContext -underBinder q l
  rw [show l.next = some (x, true) from next_of_due hdue hedges]
  refine ⟨(leg_modLeg_same hg hi).trans ?_, rfl⟩
  rw [hdue]
  cases high <;> rfl

/-- An ideal edge of a driven leg turns one gate off, and the other on after its dead time. -/
theorem legEvent_edge {x : Nat} {on : Bool} {rest : List (Nat × Bool)} (hdue : (s.leg g i).due = none)
    (hedges : (s.leg g i).edges = (x, on) :: rest) (hdrv : (s.pwm g).drv = true) (hcut : (s.pwm g).cut = false) :
    (s.legEvent g i).leg g i = { ({ s.leg g i with edges := rest, ideal := on } : LegSt).offAt (!on) x with
        due := some (x + (if on then s.dtr g i else s.dtf g i), on) } ∧ (s.legEvent g i).regs = s.regs := by
  unfold State.legEvent
  extract_lets -merge -useContext -underBinder q l
  have hl : l.edges = (x, on) :: rest := hedges
  rw [show l.next = some (x, false) from next_of_edge hdue hedges]
  have hdrop : (q.drv && l.due.isSome && !q.cut) = false := by rw [show l.due = none from hdue, Option.isSome_none, Bool.and_false, Bool.false_and]
  have hdriven : (!q.drv || q.cut) = false := by rw [show q.drv = true from hdrv, show q.cut = false from hcut]; rfl
  simp only [hdrop, hdriven, hl, Bool.false_eq_true, if_false, List.head?_cons, Option.map_some, Option.getD_some]
  refine ⟨?_, rfl⟩
  rw [leg_modLeg_same hg hi, leg_modLeg_same hg hi, hedges, List.drop_one, List.tail_cons]

end

theorem offAt_fields (l : LegSt) (high : Bool) (t : Nat) : (l.offAt high t).edges = l.edges ∧ (l.offAt high t).ideal = l.ideal ∧
    (high = true → (l.offAt high t).h = false) ∧ (high = false → (l.offAt high t).l = false) := by
  unfold LegSt.offAt
  cases high with
  | true => by_cases hon : l.h = true <;> simp [hon]
  | false => by_cases hon : l.l = true <;> simp [hon]

/-- The dead times in effect hang on registers and values in effect. -/
theorem deadTimes_congr {s t : State} (hregs : t.regs = s.regs) (hact : t.act = s.act) (g i : Nat) :
    t.dtr g i = s.dtr g i ∧ t.dtf g i = s.dtf g i := by
  have hard : ∀ a, t.ardN a = s.ardN a := fun a => by rw [State.ardN, State.ard, hact, State.ardN, State.ard]
  unfold State.dtr State.dtf State.dtReg State.fourth State.flag
  simp only [hard, get_congr hregs, and_self]

/-- Settles O29: a commit captures its parts (`Captured1`), a boundary of a group is one of its axis's grid, an edge is `legEvent_due` or
`legEvent_edge`, and the clears write one register. -/
theorem pwmCommandsComplete : Obligations.PwmCommandsComplete := by
  refine ⟨?cmpc, ?all, ?held, ?aux, ?fourth, ?effect, ?period, ?settings, ?due, ?edge, ?clrflags, ?clrcnt, ?auxClrflags, ?auxClrcnt⟩
  case cmpc =>
    intro s n hmay hfly hcaps
    obtain ⟨h1, h2, h3, hregs, hact⟩ := pwmCapture_captured1 (all := false) (Nat.lt_trans n.isLt (by decide)) hfly hcaps
    rw [if_neg Bool.false_ne_true, List.append_nil] at h1
    exact ⟨s.pwmCapture n false, congrArg Host.Outcome.next (hostCmd_may hmay), h1, h2, h3, hregs, hact⟩
  case all =>
    intro s n hmay hfree hfly hcaps
    obtain ⟨h1, h2, h3, hregs, hact⟩ := pwmCapture_captured1 (all := true) (Nat.lt_trans n.isLt (by decide)) hfly hcaps
    exact ⟨s.pwmCapture n true, congrArg Host.Outcome.next ((hostCmd_may hmay).trans (pwmAll_of_free hfree)), h1, h2, h3, hregs, hact⟩
  case held =>
    intro s n k hc hmay hheld
    exact ⟨s.setf (CTOK_CTRL k) CTOK_CTRL_HELD, congrArg Host.Outcome.next ((hostCmd_may hmay).trans (pwmAll_of_held hheld)),
      flag_setf hc (by decide) (by decide), rfl⟩
  case aux =>
    intro s j hmay halone hfly hcaps
    obtain ⟨h1, h2, h3, hregs, hact⟩ := pwmCapture_captured1 (all := true) (by omega) hfly hcaps
    exact ⟨s.pwmCapture (32 + j) true, congrArg Host.Outcome.next ((hostCmd_may hmay).trans (if_pos halone)), h2, h3, h1, hregs, hact⟩
  case fourth =>
    intro s j hmay hfourth
    exact congrArg Host.Outcome.next ((hostCmd_may hmay).trans (if_neg (by simp [hfourth])))
  case effect =>
    intro s g hrun hg hcaps hfr
    have hgroup : s.commitEffect g = s.axisBoundary g 1 := (if_neg (by simpa using hcaps)).trans (if_pos hg)
    obtain ⟨-, -, hlast, htick⟩ := axisBoundary_atNextBoundary (Nat.lt_trans hg (by decide)) hrun hfr
    exact ⟨s.axisBoundary g 1, congrArg Host.Outcome.next hgroup, hlast, htick⟩
  case period =>
    intro s j hfree hidle hrun
    refine ⟨_, congrArg Host.Outcome.next (auxStart_eq hfree hidle hrun), ?_⟩
    extract_lets t u
    have htime : Keeps (maskBut [.time]) (s.advanceTo (t / 32)) (u.pwmBoundary (32 + j) t (32 * u.ardN (perReg (32 + j))) false) :=
      keeps_State_pwmBoundary rfl (keeps_State_pwmCommits rfl (Keeps.refl _))
    refine ⟨(tick_congr (htime.same .time rfl)).trans (advanceTo_tick ..), fun hcbc => ?_⟩
    have hold : SameHold s u := ((SameHold.refl s).keeps (keeps_State_advanceTo rfl (Keeps.refl s))).pwmCommits
    have hu : Keeps (maskBut [.events]) s u := keeps_State_pwmCommits rfl (keeps_State_advanceTo rfl (Keeps.refl s))
    exact (hu.trans (pwmBoundary_keeps_events ((hold (32 + j)).2.trans hcbc))).same .events rfl
  case settings =>
    intro s k hrun hstale hsrc hfr
    have hgroup : s.atcEffect k = s.axisBoundary (s.get (ATC_CFG k) ATC_CFG_SRC) 1 := (if_neg (by simp [hstale])).trans (if_pos hsrc)
    obtain ⟨-, -, -, htick⟩ := axisBoundary_atNextBoundary (Nat.lt_trans hsrc (by decide)) hrun hfr
    exact ⟨s.axisBoundary (s.get (ATC_CFG k) ATC_CFG_SRC) 1, congrArg Host.Outcome.next hgroup, htick⟩
  case due =>
    intro s g i x high hdue hedges hspan
    have hleg : (s.advanceTo (x / 32)).leg g i = s.leg g i := by rw [State.leg, pwm_congr (State.advanceTo_pwms ..), State.leg]
    obtain ⟨hnew, hregs⟩ := legEvent_due (s := s.advanceTo (x / 32)) g.isLt i.isLt (hleg ▸ hdue) (hleg ▸ hedges)
    have htime : Keeps (maskBut [.time]) (s.advanceTo (x / 32)) ((s.advanceTo (x / 32)).legEvent g i) := keeps_State_legEvent rfl (Keeps.refl _)
    refine ⟨(s.advanceTo (x / 32)).legEvent g i, congrArg Host.Outcome.next (pwmEdge_eq (next_of_due hdue hedges) hspan), ?_, ?_, ?_,
      (tick_congr (htime.same .time rfl)).trans (advanceTo_tick ..), hregs.trans (State.advanceTo_regs ..)⟩
    · rw [hnew]
      cases high <;> rfl
    · rintro rfl
      rw [hnew]
      rfl
    · rintro rfl
      rw [hnew]
      rfl
  case edge =>
    intro s g i x on rest hdue hedges hdrv hcut hspan
    have hpwm : (s.advanceTo (x / 32)).pwm g = s.pwm g := pwm_congr (State.advanceTo_pwms ..) g
    have hleg : (s.advanceTo (x / 32)).leg g i = s.leg g i := by rw [State.leg, hpwm, State.leg]
    obtain ⟨hdtr, hdtf⟩ := deadTimes_congr (State.advanceTo_regs s (x / 32)) (State.advanceTo_act s (x / 32)) g i
    obtain ⟨hnew, hregs⟩ := legEvent_edge (s := s.advanceTo (x / 32)) g.isLt i.isLt (hleg ▸ hdue) (hleg ▸ hedges) (hpwm ▸ hdrv) (hpwm ▸ hcut)
    obtain ⟨hedges', hideal, hhigh, hlow⟩ := offAt_fields { s.leg g i with edges := rest, ideal := on } (!on) x
    rw [hleg, hdtr, hdtf] at hnew
    refine ⟨(s.advanceTo (x / 32)).legEvent g i, congrArg Host.Outcome.next (pwmEdge_eq (next_of_edge hdue hedges) hspan), ?_⟩
    rw [hnew]
    exact ⟨hedges', hideal, fun h => hlow (by simp [h]), fun h => hhigh (by simp [h]), rfl, hregs.trans (State.advanceTo_regs ..)⟩
  case clrflags =>
    intro s n hc hmay
    exact ⟨s.pwmClrFlags n, congrArg Host.Outcome.next (hostCmd_may hmay), rd_wr_same hc, fun a ha => rd_wr_ne hc ha⟩
  case clrcnt =>
    intro s n hc hmay
    exact ⟨s.pwmClrCnt n, congrArg Host.Outcome.next (hostCmd_may hmay), rd_wr_same hc, fun a ha => rd_wr_ne hc ha⟩
  case auxClrflags =>
    intro s j hc hmay
    exact ⟨s.auxClrFlags j, congrArg Host.Outcome.next (hostCmd_may hmay), rd_wr_same hc, fun a ha => rd_wr_ne hc ha⟩
  case auxClrcnt =>
    intro s j hmay
    exact congrArg Host.Outcome.next (hostCmd_may hmay)

end Sys2Proof.Machine
end

section
/-! PROOFS. Loop processors (09_loop_processor.md): writes of local memory, VERIFY, interrupts, faults and the writes of the loop data map
(O43). -/

namespace Sys2Proof.Machine

/-! ### Code banks (R271, R297) -/

theorem lpStat_ne_bankReg (k : Nat) (b : Bool) : LP_STAT k ≠ bankReg k b := by
  unfold LP_STAT bankReg LP_BANKA LP_BANKB
  cases b <;> simp

theorem resolve_regs (s : State) (w : WaitKind) (n r : Nat) (st : Status) : (s.resolve w n st r).regs = s.regs :=
  (keeps_State_resolve (M := maskBut [.regs]) rfl (Keeps.refl s)).same .regs rfl

theorem bankMark_state {s : State} (hc : s.canonical = true) (k : Nat) (b : Bool) :
    (s.bankMark k b).get (bankReg k b) LP_BANKA_STATE = 1 := by
  rw [State.bankMark, get_put_other (put_canonical hc) (by decide) (by decide), get_put_same hc (by decide)]
  rfl

/-- An aborted VERIFY leaves the state of its bank. -/
theorem verifyAbort_state {s : State} (hc : s.canonical = true) (k : Nat) (b : Bool) :
    (s.verifyAbort k b).get (bankReg k b) LP_BANKA_STATE = s.get (bankReg k b) LP_BANKA_STATE := by
  rw [State.verifyAbort, get_congr (resolve_regs ..), get_congr (State.modLp_regs ..),
    get_put_other (put_canonical hc) (by decide) (by decide), get_put_other hc (by decide) (by decide)]

/-- A bank written to is LOADED, whether a VERIFY of it ends thereby or not. -/
theorem bankLoaded_state {s : State} (hc : s.canonical = true) (k : Nat) (b : Bool) :
    (s.bankLoaded k b).get (bankReg k b) LP_BANKA_STATE = 1 := by
  unfold State.bankLoaded
  extract_lets s1
  have hc1 : s1.canonical = true := (State.modLp_canonical ..).trans (put_canonical (put_canonical hc))
  have h1 : s1.get (bankReg k b) LP_BANKA_STATE = 1 := (get_congr (State.modLp_regs ..) _ _).trans (bankMark_state hc k b)
  clear_value s1
  split
  · split
    · subst_vars
      exact (verifyAbort_state hc1 k _).trans h1
    · exact h1
  · exact h1

theorem bankLoaded_keeps (s : State) (k : Nat) (b : Bool) : Keeps (maskBut [.lpCode, .lpData]) s (s.bankLoaded k b) :=
  keeps_State_bankLoaded rfl (Keeps.refl s)

section
variable {s : State} {k i : Nat} {v : Word}

/-- The state with word `i` of the code memory of LPk written. -/
def State.lpCodeSet (s : State) (k i : Nat) (v : Word) : State :=
  { s with mem := { s.mem with lpCode := wmSet s.mem.lpCode (32768 * k + i) v } }

theorem canonical_lpCode (hc : s.canonical = true) : wmWf s.mem.lpCode = true := by
  obtain ⟨⟨⟨⟨⟨⟨-, hcode⟩, -⟩, -⟩, -⟩, -⟩, -⟩ := Memory.wf_parts.1 (canonical_parts.1 hc).2
  exact hcode

theorem canonical_lpData (hc : s.canonical = true) : wmWf s.mem.lpData = true := by
  obtain ⟨⟨⟨⟨⟨⟨⟨-, hdata⟩, -⟩, -⟩, -⟩, -⟩, -⟩, -⟩ := Memory.wf_parts.1 (canonical_parts.1 hc).2
  exact hdata

theorem lpCodeSet_canonical (hc : s.canonical = true) : (s.lpCodeSet k i v).canonical = true := by
  obtain ⟨hregs, hmem⟩ := canonical_parts.1 hc
  exact canonical_parts.2 ⟨hregs, Memory.wf_lpCode wmSet_wf hmem⟩

/-- A write to the inactive bank. -/
theorem lpMemWrite_inactive (hi : i < 32768) (hbank : decide (16384 ≤ i) ≠ s.lpBank k) :
    s.lpMemWrite k i v = (s.lpCodeSet k i v).bankLoaded k (decide (16384 ≤ i)) := (if_pos hi).trans (if_neg hbank)

/-- A write to the active bank is refused. -/
theorem lpMemWrite_active (hi : i < 32768) (hbank : decide (16384 ≤ i) = s.lpBank k) :
    s.lpMemWrite k i v = s.badAcc (0x400000 + 0x40000 * k + 4 * i) true := (if_pos hi).trans (if_pos hbank)

/-- A write to local data in Morning. -/
theorem lpMemWrite_data (hi : 32768 ≤ i) (hmorning : s.inMorning = true) : s.lpMemWrite k i v =
    { s with mem := { s.mem with lpData := wmSet s.mem.lpData (32768 * k + (i - 32768)) v } } :=
  (if_neg (not_lt.2 hi)).trans (if_pos hmorning)

end

/-! ### VERIFY (R298) -/

theorem lpVerify_start {s : State} {k : Nat} (hc : s.canonical = true) (hk : k < 16) (hidle : (s.lp k).verify = none) (b : Bool) :
    (s.lpVerify k b).flag (bankReg k b) LP_BANKA_VBUSY = true ∧ ((s.lpVerify k b).lp k).verify = some (b, s.tick) ∧
      (s.lpVerify k b).mem = s.mem := by
  unfold State.lpVerify
  rw [hidle]
  exact ⟨flag_setf hc (by decide) (by decide), congrArg LpSt.verify (lp_modLp_same hk), rfl⟩

theorem verifyImage_le (s : State) (k : Nat) (b : Bool) : s.verifyImage k b ≤ 5 := by
  unfold State.verifyImage
  repeat' refine ite_of (P := (· ≤ 5)) (by decide) ?_
  decide

/-- A result of VERIFY fits VRES. -/
theorem verifyCheck_lt (s : State) (k : Nat) (b : Bool) : s.verifyCheck k b < 8 := by
  unfold State.verifyCheck
  extract_lets r
  have hr : r < 8 := ite_of (P := (· < 8)) (ite_of (P := (· < 8)) (by decide) (by decide)) (lt_of_le_of_lt (verifyImage_le s k b) (by decide))
  exact ite_of (P := (· < 8)) hr (ite_of (P := (· < 8)) (by decide) (by decide))

/-- A VERIFY of bank `b` of LPk ends with result `r` for an image of `lenw` words. -/
def State.verifyEnded (s : State) (k : Nat) (b : Bool) (r lenw : Nat) : State :=
  ((((s.put (bankReg k b) LP_BANKA_VBUSY 0).put (bankReg k b) LP_BANKA_VRES r).put (bankReg k b) LP_BANKA_STATE (if r = 0 then 2 else 3)).put
    (bankReg k b) LP_BANKA_LENW (if r = 0 then lenw else 0)).modLp k fun l => { l with verify := none }

theorem verifyEnded_canonical {s : State} (hc : s.canonical = true) (k : Nat) (b : Bool) (r lenw : Nat) :
    (s.verifyEnded k b r lenw).canonical = true :=
  (State.modLp_canonical ..).trans (put_canonical (put_canonical (put_canonical (put_canonical hc))))

theorem verifyEnded_fields {s : State} {r : Nat} (hc : s.canonical = true) (hr : r < 8) (k : Nat) (b : Bool) (lenw : Nat) :
    (s.verifyEnded k b r lenw).get (bankReg k b) LP_BANKA_VBUSY = 0 ∧ (s.verifyEnded k b r lenw).get (bankReg k b) LP_BANKA_VRES = r ∧
      (s.verifyEnded k b r lenw).get (bankReg k b) LP_BANKA_STATE = if r = 0 then 2 else 3 := by
  have hc1 : (s.put (bankReg k b) LP_BANKA_VBUSY 0).canonical = true := put_canonical hc
  have hc2 := put_canonical (a := bankReg k b) (f := LP_BANKA_VRES) (v := r) hc1
  have hc3 := put_canonical (a := bankReg k b) (f := LP_BANKA_STATE) (v := if r = 0 then 2 else 3) hc2
  unfold State.verifyEnded
  simp only [get_congr (State.modLp_regs ..)]
  refine ⟨?_, ?_, ?_⟩
  · rw [get_put_other hc3 (by decide) (by decide), get_put_other hc2 (by decide) (by decide), get_put_other hc1 (by decide) (by decide),
      get_put_same hc (by decide)]
    rfl
  · rw [get_put_other hc3 (by decide) (by decide), get_put_other hc2 (by decide) (by decide), get_put_same hc1 (by decide)]
    exact Nat.mod_eq_of_lt hr
  · rw [get_put_other hc3 (by decide) (by decide), get_put_same hc2 (by decide)]
    exact Nat.mod_eq_of_lt (ite_of (P := (· < 4)) (by decide) (by decide))

/-- The LP with the kind of law that the image checked holds. -/
def LpSt.judged (l : LpSt) (b std : Bool) : LpSt :=
  { l with stdA := if b then l.stdA else std, stdB := if b then std else l.stdB }

/-- LPk at the end of a VERIFY of bank `b` that began at tick `t`, before the checks. -/
def State.verifyRead (s : State) (k : Nat) (b : Bool) (t : Nat) : State :=
  (s.advanceTo (t + (s.imageLen k b / 8 + 65) / 2)).modLp k fun l => l.judged b (s.isBuilt k b || nbit (s.codeU16 k b 6) 0)

theorem verifyRead_canonical {s : State} (hc : s.canonical = true) (k : Nat) (b : Bool) (t : Nat) : (s.verifyRead k b t).canonical = true :=
  (State.modLp_canonical ..).trans ((advanceTo_keeps s _).canon hc)

/-- The end of a VERIFY is its verdict, after which NAX is refreshed and those who wait are told. -/
theorem verifyDone_ended {s : State} {k t : Nat} {b : Bool} (hverify : (s.lp k).verify = some (b, t)) :
    Keeps (maskBut [.regs, .time, .lps]) (((s.verifyRead k b t).verifyEnded k b ((s.verifyRead k b t).verifyCheck k b) (s.imageLen k b / 4)).lpRegs k)
      (s.verifyDone k) := by
  unfold State.verifyDone
  rw [hverify]
  exact keeps_State_resolve rfl (Keeps.refl _)

theorem verifyDone_spec {s : State} {k t : Nat} {b : Bool} (hc : s.canonical = true) (hk : k < 16) (hverify : (s.lp k).verify = some (b, t)) :
    let r := (s.verifyRead k b t).verifyCheck k b
    ((s.verifyDone k).lp k).verify = none ∧ (s.verifyDone k).flag (bankReg k b) LP_BANKA_VBUSY = false ∧
      (s.verifyDone k).tick = max s.tick (t + (s.imageLen k b / 8 + 65) / 2) ∧ (s.verifyDone k).get (bankReg k b) LP_BANKA_VRES = r ∧
      (s.verifyDone k).get (bankReg k b) LP_BANKA_STATE = if r = 0 then 2 else 3 := by
  have hkeeps := verifyDone_ended hverify
  have htick : (s.verifyRead k b t).tick = max s.tick (t + (s.imageLen k b / 8 + 65) / 2) :=
    (tick_congr (State.modLp_time ..)).trans (advanceTo_tick ..)
  have hread := verifyRead_canonical hc k b t
  obtain ⟨hbusy, hres, hstate⟩ := verifyEnded_fields hread (verifyCheck_lt _ k b) k b (s.imageLen k b / 4)
  have hget := fun f => (get_congr (hkeeps.same .regs rfl) (bankReg k b) f).trans
    (get_put_ne (verifyEnded_canonical hread ..) (lpStat_ne_bankReg k b).symm)
  refine ⟨?_, ?_, (tick_congr (hkeeps.same .time rfl)).trans htick, (hget _).trans hres, (hget _).trans hstate⟩
  · rw [lp_congr (hkeeps.same .lps rfl), State.lpRegs, lp_congr (State.put_lps ..), State.verifyEnded, lp_modLp_same hk]
  · rw [State.flag, hget, hbusy]
    rfl

/-! ### Interrupts (R293) -/

/-- LPk enters its handler. -/
def State.handlerEntered (s : State) (k : Nat) : State :=
  ((s.count (LP_CNT k) LP_CNT_IRQS).setf (LP_STAT k) LP_STAT_IRQACT).modLp k fun l =>
    { l with
      main := l.main.flush, shadow := { l.shadow.flush with ie := false }, sh := true, resume := l.pc
      pc := s.codeU16 k (s.lpBank k) 16, evSeen := s.events.length
      evPend := s.lpPend k &&& 6 &&& (7 - (s.lpPend k &&& s.get (LP_CTRL k) LP_CTRL_IRQEN)) }

theorem handlerEntered_fields {s : State} (hc : s.canonical = true) (k : Nat) : (s.handlerEntered k).flag (LP_STAT k) LP_STAT_IRQACT = true ∧
    (s.handlerEntered k).get (LP_CNT k) LP_CNT_IRQS = incSat LP_CNT_IRQS.w (s.get (LP_CNT k) LP_CNT_IRQS) := by
  have hne : LP_CNT k ≠ LP_STAT k := by unfold LP_CNT LP_STAT; omega
  have hcount : (s.count (LP_CNT k) LP_CNT_IRQS).canonical = true := count_canonical hc
  unfold State.handlerEntered State.flag
  simp only [get_congr (State.modLp_regs ..)]
  exact ⟨flag_setf hcount (by decide) (by decide), (get_put_ne hcount hne).trans (get_count_same hc (by decide))⟩

theorem lpInterrupt_taken {s : State} {k : Nat} (hpend : s.lpPend k &&& s.get (LP_CTRL k) LP_CTRL_IRQEN ≠ 0) (hsh : (s.lp k).sh = false)
    (hie : (s.lp k).main.age.ie = true) (htarget : (s.lp k).target = none) (hwait : (s.lp k).waitD = none) (hmode : s.lpMode k < 2) :
    s.lpInterrupt k = s.handlerEntered k :=
  if_neg (by simp [hpend, hsh, hie, htarget, hwait, hmode])

/-! ### Faults (R295, R296) -/

/-- An LP that has abandoned its run and its handler for the recovery law. -/
def LpSt.faulted (l : LpSt) : LpSt := { l with run := none, sh := false, target := none, waitD := none, pc := 16384 }

/-- LPk with a fault recorded, in MODE `mode` and at the start of the recovery law. -/
def State.faulted (s : State) (k causes mode : Nat) : State :=
  let s1 := (((s.advanceTo (s.tick + 1)).put (LP_FAULT k) LP_FAULT_CAUSE (causes % 64)).putB (LP_FAULT k) LP_FAULT_MULTI
    (decide (1 < ((List.range 6).filter fun i => nbit causes i).length))).put (LP_FAULT k) LP_FAULT_PC (s.lp k).pc
  ((s1.put (LP_STAT k) LP_STAT_MODE mode).clrf (LP_STAT k) LP_STAT_IRQACT).modLp k LpSt.faulted

section
variable {s : State} {k causes mode : Nat}

theorem faulted_lp (hk : k < 16) : (s.faulted k causes mode).lp k = (s.lp k).faulted :=
  (lp_modLp_same hk).trans (congrArg LpSt.faulted (lp_congr (State.advanceTo_lps s (s.tick + 1)) k))

theorem faulted_tick : (s.faulted k causes mode).tick = s.tick + 1 :=
  (advanceTo_tick s (s.tick + 1)).trans (Nat.max_eq_right (Nat.le_succ _))

theorem faulted_regs (hc : s.canonical = true) (hmode : mode < 4) : (s.faulted k causes mode).lpMode k = mode ∧
    (s.faulted k causes mode).get (LP_FAULT k) LP_FAULT_CAUSE = causes % 64 ∧
    (s.faulted k causes mode).get (LP_FAULT k) LP_FAULT_PC = (s.lp k).pc % 2 ^ LP_FAULT_PC.w := by
  have hne : LP_FAULT k ≠ LP_STAT k := by unfold LP_FAULT LP_STAT; omega
  have hc0 := (advanceTo_keeps s (s.tick + 1)).canon hc
  unfold State.faulted State.lpMode State.clrf State.putB
  extract_lets s1
  have hc1 : s1.canonical = true := put_canonical (put_canonical (put_canonical hc0))
  have hc2 := put_canonical (a := LP_STAT k) (f := LP_STAT_MODE) (v := mode) hc1
  simp only [get_congr (State.modLp_regs ..)]
  refine ⟨?_, ?_, ?_⟩
  · rw [get_put_other hc2 (by decide) (by decide), get_put_same hc1 (by decide)]
    exact Nat.mod_eq_of_lt hmode
  · rw [get_put_ne hc2 hne, get_put_ne hc1 hne, get_put_other (put_canonical (put_canonical hc0)) (by decide) (by decide),
      get_put_other (put_canonical hc0) (by decide) (by decide), get_put_same hc0 (by decide)]
    exact Nat.mod_mod _ _
  · rw [get_put_ne hc2 hne, get_put_ne hc1 hne, get_put_same (put_canonical (put_canonical hc0)) (by decide)]

/-- The first fault starts the recovery law. -/
theorem lpFault_first (hcauses : causes % 64 ≠ 0) (hmode : s.lpMode k < 2) :
    s.lpFault k causes = ((s.faulted k causes 2).groomLpGone k).event .lpFault k causes := by
  have hgo : ¬(decide (3 ≤ s.lpMode k) || decide (causes % 64 = 0)) = true := by
    simp only [Bool.or_eq_true, decide_eq_true_eq]
    omega
  have hfirst : (s.lpMode k == 2) = false := by simp [hmode.ne]
  unfold State.lpFault
  rw [if_neg hgo, hfirst]
  exact (if_pos rfl).trans rfl

/-- A fault within the recovery law halts the LP. -/
theorem lpFault_second (hcauses : causes % 64 ≠ 0) (hmode : s.lpMode k = 2) :
    ∃ u : State, Keeps (maskBut [.time, .lps]) (s.faulted k causes 3) u ∧ s.lpFault k causes = u.event .lpHalted k causes := by
  have hgo : ¬(decide (3 ≤ s.lpMode k) || decide (causes % 64 = 0)) = true := by simp [hcauses, hmode]
  have hsecond : (s.lpMode k == 2) = true := by simp [hmode]
  unfold State.lpFault
  rw [if_neg hgo, hsecond]
  refine ⟨_, ?_, if_neg Bool.false_ne_true⟩
  refine Keeps.forEach (keeps_State_setf rfl (keeps_State_groomLpGone rfl (Keeps.refl (s.faulted k causes 3)))) fun t a ht => ?_
  exact ite_of (keeps_State_cleLeave rfl ht) (ite_of (keeps_State_modLoop rfl (keeps_State_wrN rfl ht)) ht)

end

/-! ### Writes of the loop data map (R290, R291, R294) -/

section
variable {s : State} {a : Nat} {v : Word}

/-- What a handler writes below USER has no effect, EVENT apart. -/
theorem mapRow_handler {off : Nat} (hsh : (s.lp (s.lpOf a)).sh = true) (hoff : off < 0x60) : s.mapRow a off v = s := by
  unfold State.mapRow State.mapWrite
  refine ite_of (P := (· = s)) rfl ?_
  rw [hsh, if_neg (show ¬0x80 ≤ off by omega), if_neg hoff.ne]
  exact if_pos rfl

theorem mapRow_tref (hsh : (s.lp (s.lpOf a)).sh = false) (ha : a < 64) : s.mapRow a 0x40 v =
    (s.publishT a v.toInt (s.mapIn a).b).modLoop a fun l => { l with tRefAt := s.tick + 1, iRefAt := s.tick + 1 } := by
  simp [State.mapRow, State.mapWrite, hsh, ha]

/-- What law code of a current loop's axis writes. -/
theorem mapRow_current (hsh : (s.lp (s.lpOf a)).sh = false) (ha : a < 32) : s.mapRow a 0x48 v = s.mapIq a v ∧ s.mapRow a 0x54 v = s.mapAng a v ∧
    s.mapRow a 0x58 v = s.mapCmp4 a v ∧ s.mapRow a 0x5C v = if nbit v.toNat 0 then s.pwmCmpc a else s := by
  have h64 : a < 64 := Nat.lt_trans ha (by decide)
  simp [State.mapRow, State.mapWrite, hsh, not_le.2 ha, not_le.2 h64]

theorem mapRow_event : s.mapRow a 0x60 v = (s.event .mapEvent a v.toInt).groomPost 1 0x80 0 0 v 0 0 := by
  simp [State.mapRow, State.mapWrite]

/-- The delay noted with a publication writes AXn_LAT alone. -/
theorem latNote_rd_ne {b c : Nat} (hc : s.canonical = true) (hb : c ≠ AX_LAT a) : (s.latNote a b).rd c = s.rd c := by
  unfold State.latNote
  rw [rd_put_ne (put_canonical hc) hb, rd_put_ne hc hb]

/-! ### Compare parts and commits (R216, R248) -/

section
variable {g t : Nat} (hg : g < 40)
include hg

theorem pwmStart_fieldPart : ((State.pwmStart g s).pwm g).fieldPart = (s.pwm g).fieldPart := by
  obtain ⟨o, ho⟩ := pwmStart_pwm (s := s) hg
  rw [ho]

/-- A staged compare value leaves the other fields staged. -/
theorem pwmStageAt_fieldPart {c : Nat} : ((s.pwmStageAt g c true t).pwm g).fieldPart = (s.pwm g).fieldPart := by
  rw [State.pwmStageAt, pwmStart_fieldPart hg]
  split
  · rw [pwm_modPwm_same hg]
  · rw [pwm_modPwm_same hg, if_pos rfl]

/-- A commit of the compare part takes all of it, and leaves the other fields staged. -/
theorem pwmCaptureAt_parts : ((s.pwmCaptureAt g false t).pwm g).cmpPart = [] ∧
    ((s.pwmCaptureAt g false t).pwm g).fieldPart = (s.pwm g).fieldPart := by
  unfold State.pwmCaptureAt
  extract_lets -merge -useContext -underBinder q as words caps
  obtain ⟨o, ho⟩ := pwmStart_pwm (s := s.modPwm g fun q => { q with cmpPart := [], fieldPart := if false then [] else q.fieldPart, caps := caps }) hg
  rw [ho, pwm_modPwm_same hg]
  exact ⟨rfl, rfl⟩

/-- Compare values that a CLE has computed reach the shadow and leave the other fields staged. -/
theorem flyTo_fieldPart : ((s.flyTo g).pwm g).fieldPart = (s.pwm g).fieldPart := by
  unfold State.flyTo
  split
  · split
    · rw [(pwmCaptureAt_parts hg).2]
      refine foldl_of (P := fun u : State => (u.pwm g).fieldPart = (s.pwm g).fieldPart) ?_ fun u w hu => (pwmStageAt_fieldPart hg).trans hu
      rw [pwm_modPwm_same hg]
    · rfl
  · rfl

end

end

/-- Settles O43: a write of code memory is `lpMemWrite_inactive`, `lpMemWrite_active` or `lpMemWrite_data`, VERIFY ends with a `State.verifyEnded`, an
interrupt is `State.handlerEntered`, a fault `State.faulted`, and what law code writes goes by `mapRow_tref`, `mapRow_current` and `mapRow_event`. -/
theorem loopProcessorCommandsComplete : Obligations.LoopProcessorCommandsComplete := by
  refine ⟨?inactive, ?active, ?data, ?verifya, ?verifyb, ?done, ?clrcnt, ?interrupt, ?first, ?second, ?tref, ?iqref, ?astamp, ?cmp4, ?noCmp4,
    ?cmpc, ?event, ?handler⟩
  case inactive =>
    intro s k i v hc hmay hi hbank
    have hkeeps := bankLoaded_keeps (s.lpCodeSet k i v) k (decide (16384 ≤ i.val))
    refine ⟨(s.lpCodeSet k i v).bankLoaded k (decide (16384 ≤ i.val)),
      congrArg Host.Outcome.next ((hostCmd_may hmay).trans (lpMemWrite_inactive hi hbank)), ?_, bankLoaded_state (lpCodeSet_canonical hc) .., ?_⟩
    · have hcode : _ = (s.lpCodeSet k i v).mem.lpCode := hkeeps.same .lpCode rfl
      rw [hcode]
      exact (wmGet_wmSet (canonical_lpCode hc)).trans (if_pos rfl)
    · exact hkeeps.same .lpData rfl
  case active =>
    intro s k i v hc hmay hi hbank
    obtain ⟨-, -, hreason, -⟩ := badAcc_regs (a := 0x400000 + 0x40000 * k + 4 * i) (b := true) hc
    exact ⟨_, congrArg Host.Outcome.next ((hostCmd_may hmay).trans (lpMemWrite_active hi hbank)), rfl, hreason⟩
  case data =>
    intro s k i v hc hmay hi hmorning
    exact ⟨_, congrArg Host.Outcome.next ((hostCmd_may hmay).trans (lpMemWrite_data hi hmorning)),
      (wmGet_wmSet (canonical_lpData hc)).trans (if_pos rfl), rfl, rfl⟩
  case verifya =>
    intro s k hc hmay hidle
    exact ⟨s.lpVerify k false, congrArg Host.Outcome.next (hostCmd_may hmay), lpVerify_start hc k.isLt hidle false⟩
  case verifyb =>
    intro s k hc hmay hidle
    exact ⟨s.lpVerify k true, congrArg Host.Outcome.next (hostCmd_may hmay), lpVerify_start hc k.isLt hidle true⟩
  case done =>
    intro s k b t0 std u hc hverify
    exact ⟨s.verifyDone k, rfl, verifyDone_spec hc k.isLt hverify⟩
  case clrcnt =>
    intro s k hc hmay
    exact ⟨s.wrN (LP_CNT k) 0, congrArg Host.Outcome.next (hostCmd_may hmay), rd_wr_same hc, rfl⟩
  case interrupt =>
    intro s k hc hpend hsh hie htarget hwait hmode
    have hlp : (s.handlerEntered k).lp k = _ := lp_modLp_same k.isLt
    refine ⟨s.handlerEntered k, congrArg Host.Outcome.next (lpInterrupt_taken hpend hsh hie htarget hwait hmode), ?_, ?_, ?_, ?_,
      handlerEntered_fields hc k⟩
    · rw [hlp]
    · rw [hlp]
      rfl
    · rw [hlp]
    · rw [hlp]
  case first =>
    intro s k causes hc hcauses hmode
    have hnonzero : causes.toNat % 64 ≠ 0 := by bv_omega
    have hkeeps : Keeps (maskBut [.regs, .time, .lps]) (s.faulted k causes.toNat 2)
      (((s.faulted k causes.toNat 2).groomLpGone k).event .lpFault k causes.toNat) :=
      keeps_State_event rfl (keeps_State_groomLpGone rfl (Keeps.refl _))
    have hregs := hkeeps.same .regs rfl
    obtain ⟨hrec, hcause, hpc⟩ := faulted_regs (k := k) (causes := causes.toNat) (mode := 2) hc (by decide)
    have hlp := (lp_congr (hkeeps.same .lps rfl) k).trans (faulted_lp k.isLt)
    refine ⟨_, congrArg Host.Outcome.next (lpFault_first hnonzero hmode), (get_congr hregs ..).trans hrec, ?_, (get_congr hregs ..).trans hpc,
      congrArg LpSt.pc hlp, congrArg LpSt.run hlp, congrArg LpSt.sh hlp, (tick_congr (hkeeps.same .time rfl)).trans faulted_tick⟩
    exact ((get_congr hregs ..).trans hcause).trans (Nat.mod_eq_of_lt causes.isLt)
  case second =>
    intro s k causes hc hcauses hmode
    have hnonzero : causes.toNat % 64 ≠ 0 := by bv_omega
    obtain ⟨u, hkeeps, hhalt⟩ := lpFault_second hnonzero hmode
    have hlp := (lp_congr (hkeeps.same .lps rfl) k).trans (faulted_lp k.isLt)
    refine ⟨u.event .lpHalted k causes.toNat, congrArg Host.Outcome.next hhalt, congrArg LpSt.run hlp, congrArg LpSt.sh hlp,
      (tick_congr (hkeeps.same .time rfl)).trans faulted_tick, ?_⟩
    rw [State.event_events, List.getLast?_concat]
    rfl
  case tref =>
    intro s a v hsh ha hc
    refine ⟨_, congrArg Host.Outcome.next (mapRow_tref hsh ha), ?_, ?_, ?_⟩
    · rw [loop_modLoop_same a.isLt, State.publishT, loop_modLoop_same a.isLt]
    · rw [loop_modLoop_same a.isLt]
    · have hne : AXL_TREF a ≠ AX_LAT a := by unfold AXL_TREF AX_LAT; omega
      rw [State.modLoop_rd, State.publishT, State.modLoop_rd]
      exact (latNote_rd_ne (wrI_canonical hc) hne).trans ((rd_wr_same hc).trans (BitVec.ofInt_toInt))
  case iqref =>
    intro s a v hsh ha
    obtain ⟨hrow, -⟩ := mapRow_current (v := v) hsh ha
    have hloop : (s.mapIq a v).loop a = _ := loop_modLoop_same a.isLt
    exact ⟨_, congrArg Host.Outcome.next hrow, by rw [hloop]; rfl, by rw [hloop]⟩
  case astamp =>
    intro s a v hc hsh ha
    obtain ⟨-, hrow, -⟩ := mapRow_current (v := v) hsh ha
    have hloop : (s.mapAng a v).loop a = _ := loop_modLoop_same a.isLt
    exact ⟨_, congrArg Host.Outcome.next hrow, by rw [hloop]; rfl, by rw [hloop], fun b hb => (State.modLoop_rd ..).trans (latNote_rd_ne hc hb)⟩
  case cmp4 =>
    intro s a v j hc hsh ha hfourth
    obtain ⟨-, -, hrow, -⟩ := mapRow_current (v := v) hsh ha
    have hput : s.mapCmp4 a v = ((s.flyTo a).wrN (PWMX_CMP j) (v.toNat % 2 ^ 25)).pwmStage a (PWMX_CMP j) true := by rw [State.mapCmp4, hfourth]
    have hfly : (s.flyTo a).canonical = true := (keeps_State_flyTo (M := maskBut []) rfl (Keeps.refl s)).canon hc
    have hstage : Keeps (maskBut [.regs]) ((s.flyTo a).wrN (PWMX_CMP j) (v.toNat % 2 ^ 25))
      (((s.flyTo a).wrN (PWMX_CMP j) (v.toNat % 2 ^ 25)).pwmStage a (PWMX_CMP j) true) := keeps_State_pwmStage rfl (Keeps.refl _)
    refine ⟨_, congrArg Host.Outcome.next (hrow.trans hput), ?_⟩
    rw [State.rdN, rd_congr (hstage.same .regs rfl)]
    exact rdN_wrN_same hfly (Nat.lt_trans (Nat.mod_lt _ (by decide)) (by decide))
  case noCmp4 =>
    intro s a v hsh ha hfourth
    obtain ⟨-, -, hrow, -⟩ := mapRow_current (v := v) hsh ha
    exact congrArg Host.Outcome.next (hrow.trans (by rw [State.mapCmp4, hfourth]))
  case cmpc =>
    intro s a v hsh ha hbit
    obtain ⟨-, -, -, hrow⟩ := mapRow_current (v := v) hsh ha
    have hg : a.val < 40 := Nat.lt_trans ha (by decide)
    obtain ⟨hcmp, hfield⟩ := pwmCaptureAt_parts (s := s.flyTo a) (t := s.tick) hg
    refine ⟨s.pwmCmpc a, congrArg Host.Outcome.next (hrow.trans (if_pos hbit)), hcmp, hfield.trans (flyTo_fieldPart hg), fun hfly => ?_⟩
    rw [State.pwmCmpc, State.pwmCapture, flyTo_of_none hfly]
    exact (keeps_State_pwmCaptureAt (M := maskBut [.regs]) rfl (Keeps.refl s)).same .regs rfl
  case event =>
    intro s a v
    have hpost : Keeps (maskBut [.regs, .events]) (s.event .mapEvent a v.toInt) ((s.event .mapEvent a v.toInt).groomPost 1 0x80 0 0 v 0 0) :=
      keeps_State_groomPost rfl (Keeps.refl _)
    refine ⟨_, congrArg Host.Outcome.next mapRow_event, hpost.same .regs rfl, ?_⟩
    have hevents : _ = (s.event .mapEvent a v.toInt).events := hpost.same .events rfl
    rw [hevents, State.event_events]
    simp
  case handler =>
    intro s a v hsh
    have hrow : ∀ off < 0x60, Host.Outcome.next (s.mapRow a off v) = (.next s : Host.Outcome State Fault Refusal) := fun off hoff =>
      congrArg Host.Outcome.next (mapRow_handler hsh hoff)
    exact ⟨hrow _ (by decide), hrow _ (by decide), hrow _ (by decide), hrow _ (by decide), hrow _ (by decide)⟩

end Sys2Proof.Machine
end

section
/-! PROOFS. Module time (10_network_time.md): its rate, TRIM, steps and settings (O13, O14). -/

namespace Sys2Proof.Machine

/-! ### Module time in the next tick (R318, R320) -/

section
variable {s : State} {v : Int}

theorem advanceTo_next_mt (h : s.time.stepPend = none) :
    (s.advanceTo (s.tick + 1)).time.mt = ((s.time.mt : Int) + s.rate).toNat := by
  simp [State.advanceTo, State.tick, h]

/-- A step that waits is added to what the tick adds. -/
theorem advanceTo_next_mt_step (h : s.time.stepPend = some (false, v)) :
    (s.advanceTo (s.tick + 1)).time.mt = ((((s.time.mt : Int) + s.rate).toNat : Int) + v).toNat := by
  simp [State.advanceTo, State.tick, h]

/-- A setting that waits is what module time reads. -/
theorem advanceTo_next_mt_set (h : s.time.stepPend = some (true, v)) : (s.advanceTo (s.tick + 1)).time.mt = v.toNat := by
  simp [State.advanceTo, State.tick, h]

end

/-! ### TRIM (R319) -/

section
variable {s : State} {v : Int}

theorem clampI_ne_of_out {lo hi x : Int} (hle : lo ≤ hi) (h : x < lo ∨ hi < x) : clampI lo hi x ≠ x := by
  unfold clampI
  omega

theorem clampI_idem {lo hi x : Int} (hle : lo ≤ hi) : clampI lo hi (clampI lo hi x) = clampI lo hi x := by
  unfold clampI
  omega

theorem ntTrim_time (s : State) (v : Int) :
    (s.ntTrim v).time.trim = clampI (-10737418) 10737418 v ∧ (s.ntTrim v).time.mt = s.time.mt := by
  unfold State.ntTrim
  extract_lets t s1
  split
  · exact ⟨rfl, rfl⟩
  · exact ⟨rfl, rfl⟩

theorem ntTrim_freeCount (s : State) (v : Int) : (s.ntTrim v).freeCount = s.freeCount := by
  unfold State.ntTrim
  extract_lets t s1
  exact ite_of (P := fun u : State => u.freeCount = s.freeCount) rfl rfl

/-- NT_TRIM reads the value in effect, one that was clamped sets TRIMCLAMP, and no other register changes. -/
theorem ntTrim_regs (hc : s.canonical = true) : (s.ntTrim v).rd NT_TRIM = BitVec.ofInt 32 (clampI (-10737418) 10737418 v) ∧
    (v < -10737418 ∨ 10737418 < v → (s.ntTrim v).flag NT_STAT NT_STAT_TRIMCLAMP = true) ∧
    ∀ a, a ≠ NT_TRIM → a ≠ NT_STAT → (s.ntTrim v).rd a = s.rd a := by
  unfold State.ntTrim
  extract_lets t s1
  have hc1 : s1.canonical = true := wrI_canonical hc
  have htrim : s1.rd NT_TRIM = BitVec.ofInt 32 t := rd_wr_same hc
  have hother : ∀ a, a ≠ NT_TRIM → s1.rd a = s.rd a := fun a ha => rd_wr_ne hc ha
  by_cases hclamp : t = v
  · rw [if_pos hclamp]
    exact ⟨htrim, fun hout => absurd hclamp (clampI_ne_of_out (by decide) hout), fun a ha _ => hother a ha⟩
  · rw [if_neg hclamp]
    exact ⟨(rd_put_ne hc1 (by decide)).trans htrim, fun _ => flag_setf hc1 (by decide) rfl,
      fun a ha hstat => (rd_put_ne hc1 hstat).trans (hother a ha)⟩

theorem exec_ntTrimWrite {w : Word} (hmay : s.hostMay NT_TRIM) (hw : wordOk NT_TRIM w.toNat = true) (hwatch : s.isWatch = false) :
    exec (.ntTrimWrite w) s = .next (s.ntTrim w.toInt) :=
  (hostWord_may (f := fun s => if s.isWatch then s else s.ntTrim w.toInt) hmay hw).trans
    (congrArg Host.Outcome.next (if_neg (by simp [hwatch])))

end

/-- Settles O13: an idle tick is `advanceTo_next_mt`, a write of NT_TRIM is `State.ntTrim`. -/
theorem moduleTimeFollowsTrim : Obligations.ModuleTimeFollowsTrim := by
  refine ⟨fun s hq hrun hstep htrim => ?_, fun s v hc hmay hw hwatch => ?_⟩
  · have hnext : step s = .next (s.advanceTo (s.tick + 1)) := (step_nil hq).trans (congrArg Host.Outcome.next (if_pos hrun))
    obtain ⟨hlo, -⟩ := absI_le_iff.1 htrim
    refine ⟨_, hnext, ?_⟩
    rw [advanceTo_next_mt hstep, State.rate, Int.toNat_of_nonneg (by omega)]
    omega
  · obtain ⟨htrim, hmt⟩ := ntTrim_time s v.toInt
    obtain ⟨-, hclamp, -⟩ := ntTrim_regs (v := v.toInt) hc
    refine ⟨_, exec_ntTrimWrite hmay hw hwatch, hmt, htrim.trans ?_, hclamp⟩
    unfold clampI
    split_ifs <;> omega

/-! ### Steps and settings (R48, R320) -/

/-- A step, or a setting, of `v` (2^−32 ns) waits for the next tick. -/
def State.stepWaits (s : State) (sets : Bool) (v : Int) : State := { s with time := { s.time with stepPend := some (sets, v) } }

/-- The module time that NT_SETSEC and NT_SETNS hold (2^−32 ns). -/
def State.settingMt (s : State) : Nat := (s.rd64N NT_SETSEC % 2 ^ 48 * 1000000000 + s.get NT_SETNS NT_SETNS_V) * 2 ^ 32

section
variable {s : State} {d : Int}

/-- Of the clock only the mark that the grid is placed anew may change. -/
theorem stepGrid_time (s : State) : ∃ b, s.stepGrid.time = { s.time with rephase := b } := by
  unfold State.stepGrid
  by_cases hrun : s.running = true
  · rw [if_pos hrun]
    exact ⟨s.time.rephase, rfl⟩
  by_cases hnight : s.inNight = true
  · rw [if_neg hrun, if_pos hnight]
    exact ⟨s.time.rephase, rfl⟩
  · rw [if_neg hrun, if_neg hnight]
    exact ⟨true, rfl⟩

theorem stepGrid_morning (h : s.inMorning = true) : s.stepGrid = { s with time := { s.time with rephase := true } } := by
  have hstate : s.opState = 1 := eq_of_beq h
  have hrun : s.running = false := by simp [State.running, State.inNoon, State.inDusk, hstate]
  have hnight : s.inNight = false := by simp [State.inNight, hstate]
  rw [State.stepGrid, if_neg (by simp [hrun]), if_neg (by simp [hnight])]

theorem stepBy_of_none (h : s.time.stepPend = none) :
    s.stepBy d = (s.stepWaits false (d * 65536)).stepGrid.event .timeStep 0 d := by
  unfold State.stepBy
  rw [h]
  rfl

theorem stepBy_clock (h : s.time.stepPend = none) : (s.stepBy d).time.stepPend = some (false, d * 65536) ∧
    (s.stepBy d).time.trim = s.time.trim ∧ (s.stepBy d).time.mt = s.time.mt ∧ (s.stepBy d).time.tick = s.time.tick := by
  obtain ⟨b, hb⟩ := stepGrid_time (s.stepWaits false (d * 65536))
  rw [stepBy_of_none h, State.event_time, hb]
  exact ⟨rfl, rfl, rfl, rfl⟩

theorem stepBy_events (h : s.time.stepPend = none) : (s.stepBy d).events.length = s.events.length + 1 := by
  have hgrid : (s.stepWaits false (d * 65536)).stepGrid.events = s.events :=
    (keeps_State_stepGrid (M := maskBut [.events]) rfl (Keeps.refl (s.stepWaits false (d * 65536)))).same .events rfl
  rw [stepBy_of_none h, State.event_events, hgrid, List.length_append]
  rfl

theorem setGo_clock (h : s.inMorning = true) : s.setGo.time.stepPend = some (true, (s.settingMt : Int)) ∧
    s.setGo.time.trim = s.time.trim ∧ s.setGo.time.mt = s.time.mt ∧ s.setGo.time.rephase = true := by
  have hset : s.setGo = (s.stepWaits true s.settingMt).stepGrid := if_pos h
  rw [hset, stepGrid_morning (show (s.stepWaits true s.settingMt).inMorning = true from h)]
  exact ⟨rfl, rfl, rfl, rfl⟩

theorem exec_stepgo (hmay : s.hostMay NT_CTRL) (hwatch : s.isWatch = false) : exec .stepgo s = .next s.stepGo :=
  congrArg Host.Outcome.next ((hostCmd_may hmay).trans (if_neg (by simp [hwatch])))

theorem exec_setgo (hmay : s.hostMay NT_CTRL) (hwatch : s.isWatch = false) : exec .setgo s = .next s.setGo :=
  congrArg Host.Outcome.next ((hostCmd_may hmay).trans (if_neg (by simp [hwatch])))

/-- SETGO outside Morning. -/
theorem exec_setgo_ignored (hmay : s.hostMay NT_CTRL) (hwatch : s.isWatch = false) (h : s.inMorning = false) : exec .setgo s = .next s :=
  (exec_setgo hmay hwatch).trans (congrArg Host.Outcome.next (if_neg (by simp [h])))

end

/-- Settles O14: both commands leave a step or a setting that waits, which the next tick takes up. -/
theorem stepsAndSettingsOfModuleTime : Obligations.StepsAndSettingsOfModuleTime := by
  refine ⟨fun s hmay hwatch hnone => ?_, fun s hmay hwatch hmorning => ?_, fun s hmay hwatch => exec_setgo_ignored hmay hwatch⟩
  · obtain ⟨hwait, htrim, hmt, htick⟩ := stepBy_clock (d := s.rd64I NT_STEP) hnone
    have hrate : (s.stepBy (s.rd64I NT_STEP)).rate = s.rate := congrArg (10737418240 + ·) htrim
    refine ⟨s.stepBy (s.rd64I NT_STEP), exec_stepgo hmay hwatch, htrim, ?_, ?_⟩
    · rw [advanceTo_next_mt_step hwait, hmt, hrate]
      rfl
    · rw [advanceTo_tick, max_eq_right (Nat.le_succ _)]
      exact congrArg (· + 1) htick
  · obtain ⟨hwait, htrim, -, -⟩ := setGo_clock hmorning
    refine ⟨s.setGo, exec_setgo hmay hwatch, htrim, ?_⟩
    rw [advanceTo_next_mt_set hwait, Int.toNat_natCast, State.settingMt]

end Sys2Proof.Machine
end

section
/-! PROOFS. The commands on module time (10_network_time.md): TRIM, steps, reads, leap seconds, the PTP servo, holdover, its timeout and PPS (O28). -/

namespace Sys2Proof.Machine

theorem advanceTo_trim (s : State) (t : Nat) : (s.advanceTo t).time.trim = s.time.trim := by
  unfold State.advanceTo
  split
  · rfl
  · rfl

/-! ### Leap seconds (R322) -/

/-- OFS is read as signed, and counts up modulo its 16 bits. -/
theorem utcOfs_succ {g : Nat} (hg : g < 2 ^ 16) :
    ((BitVec.ofNat 16 g).toInt + b2n true - b2n false + 65536).toNat % 2 ^ 16 = (g + 1) % 2 ^ 16 := by
  have hval := BitVec.toInt_eq_toNat_cond (BitVec.ofNat 16 g)
  rw [BitVec.toNat_ofNat, Nat.mod_eq_of_lt hg] at hval
  rw [hval, b2n, b2n, if_pos rfl, if_neg Bool.false_ne_true]
  split <;> omega

/-- The end of a UTC day with LEAP61 alone set. -/
theorem leapSecond_eq {s : State} (h61 : s.flag NT_UTC NT_UTC_LEAP61 = true) (h59 : s.flag NT_UTC NT_UTC_LEAP59 = false) :
    ∃ t, s.leapSecond = (((s.advanceTo t).put NT_UTC NT_UTC_OFS (s.getI NT_UTC NT_UTC_OFS + b2n true - b2n false + 65536).toNat).clrf
      NT_UTC NT_UTC_LEAP61).clrf NT_UTC NT_UTC_LEAP59 := by
  rw [State.leapSecond, h61, h59]
  exact ⟨_, if_pos rfl⟩

theorem leapSecond_leap61 {s : State} (hc : s.canonical = true) (h61 : s.flag NT_UTC NT_UTC_LEAP61 = true)
    (h59 : s.flag NT_UTC NT_UTC_LEAP59 = false) : s.leapSecond.get NT_UTC NT_UTC_OFS = (s.get NT_UTC NT_UTC_OFS + 1) % 2 ^ NT_UTC_OFS.w ∧
    s.leapSecond.flag NT_UTC NT_UTC_LEAP61 = false ∧ s.leapSecond.flag NT_UTC NT_UTC_LEAP59 = false ∧
    ∀ a, a ≠ NT_UTC → s.leapSecond.rd a = s.rd a := by
  obtain ⟨t, ht⟩ := leapSecond_eq h61 h59
  have hc1 : (s.advanceTo t).canonical = true := (advanceTo_keeps s t).canon hc
  have hc2 : ∀ v, ((s.advanceTo t).put NT_UTC NT_UTC_OFS v).canonical = true := fun v => put_canonical hc1
  rw [ht]
  refine ⟨?_, ?_, flag_clrf (clrf_canonical (hc2 _)) (by decide), fun a ha => ?_⟩
  · rw [State.clrf, get_put_other (clrf_canonical (hc2 _)) (by decide) (by decide), State.clrf, get_put_other (hc2 _) (by decide) (by decide),
      get_put_same hc1 (by decide)]
    exact utcOfs_succ (Nat.mod_lt _ (by decide))
  · rw [State.flag, State.clrf, get_put_other (clrf_canonical (hc2 _)) (by decide) (by decide)]
    exact flag_clrf (hc2 _) (by decide)
  · rw [State.clrf, rd_put_ne (clrf_canonical (hc2 _)) ha, State.clrf, rd_put_ne (hc2 _) ha, rd_put_ne hc1 ha]
    exact State.advanceTo_rd ..

/-! ### SYNC (R329) -/

/-- What an event of group E4 writes (R475). -/
def EvtWrites (a : Nat) (_ : Fld) : Prop := a = HOST_EVT ∨ a = MSIXPBA_PBA 4

/-- What a change of SYNC writes. -/
def SyncWrites (a : Nat) (f : Fld) : Prop := (a = NT_STAT ∧ f = NT_STAT_SYNC) ∨ EvtWrites a f

section
variable {s : State} {v : Nat} {a : Nat} {f : Fld}

/-- The registers of the ports and of module time lie above. -/
theorem not_evtWrites (ha : NT_CTRL ≤ a) (f : Fld) : ¬EvtWrites a f := by
  unfold EvtWrites HOST_EVT MSIXPBA_PBA
  unfold NT_CTRL at ha
  omega

theorem group_evtWrites (s : State) : OnlyWrites EvtWrites s (s.group 4) := (OnlyWrites.refl s).group (.inl rfl) (.inr rfl)

theorem group_get (hc : s.canonical = true) (ha : NT_CTRL ≤ a) : (s.group 4).get a f = s.get a f :=
  (group_evtWrites s).get hc a f fun g hg => absurd hg (not_evtWrites ha g)

theorem event_group_get {k : EventKind} {u : Nat} {x : Int} (hc : s.canonical = true) (ha : NT_CTRL ≤ a) :
    ((s.event k u x).group 4).get a f = s.get a f := group_get (s := s.event k u x) hc ha

theorem group_rd (hc : s.canonical = true) (ha : NT_CTRL ≤ a) : (s.group 4).rd a = s.rd a := (group_evtWrites s).rd hc (not_evtWrites ha)

theorem setSync_syncWrites (s : State) (v : Nat) : OnlyWrites SyncWrites s (s.setSync v) := by
  unfold State.setSync
  have hput : OnlyWrites SyncWrites s (s.put NT_STAT NT_STAT_SYNC v) := (OnlyWrites.refl s).put (.inl ⟨rfl, rfl⟩) (by decide)
  exact ite_of (.refl s) (hput.event.trans ((group_evtWrites _).wider fun _ _ h => .inr h))

theorem setSync_keeps (s : State) (v : Nat) : Keeps (partMask [.regs, .events, .vectors]) s (s.setSync v) := keeps_State_setSync rfl (Keeps.refl s)

theorem setSync_sync (hc : s.canonical = true) (hv : v < 4) : (s.setSync v).get NT_STAT NT_STAT_SYNC = v := by
  unfold State.setSync
  by_cases h : s.get NT_STAT NT_STAT_SYNC = v
  · rw [if_pos h, h]
  · rw [if_neg h, event_group_get (put_canonical hc) (by decide)]
    exact (get_put_same hc (by decide)).trans (Nat.mod_eq_of_lt hv)

/-- A change of SYNC leaves the other fields of NT_STAT. -/
theorem setSync_flag (hc : s.canonical = true) (hf : NT_STAT_SYNC.Apart f) : (s.setSync v).flag NT_STAT f = s.flag NT_STAT f := by
  refine (setSync_syncWrites s v).flag hc fun g hg => ?_
  rcases hg with ⟨-, rfl⟩ | hg
  · exact hf
  · exact absurd hg (not_evtWrites (by decide) g)

end

/-! ### The PTP servo (R328, R329) -/

/-- What a measurement and a step write, beside the link delay of the port. -/
def ServoWrites (a : Nat) (f : Fld) : Prop := a = NT_STAT ∨ a = TB_FRAME ∨ SyncWrites a f

/-- A measurement has been taken: the delay, the offset and SYNC. -/
def State.ptpMeasured (s : State) (port : Nat) (off delay : Int) : State :=
  (((s.wrI (PORT_LDELAY port) delay).modPtp fun p => { p with lastOff := off }).clrf NT_STAT NT_STAT_GM).ptpSync off

theorem portLdelay_not_servoWrites (port : Nat) (f : Fld) : ¬ServoWrites (PORT_LDELAY port) f := by
  unfold ServoWrites SyncWrites EvtWrites PORT_LDELAY NT_STAT TB_FRAME HOST_EVT MSIXPBA_PBA
  omega

section
variable {s : State} {port : Nat} {off delay : Int} {seq : Nat}

theorem ptpSync_servoWrites (s : State) (off : Int) : OnlyWrites ServoWrites s (s.ptpSync off) := by
  unfold State.ptpSync
  exact ((OnlyWrites.refl s).keeps (keeps_State_modPtp rfl (Keeps.refl s))).trans ((setSync_syncWrites _ _).wider fun _ _ h => .inr (.inr h))

theorem ptpSync_ptp (s : State) (off : Int) : (s.ptpSync off).nw.ptp.recs = s.nw.ptp.recs ∧ (s.ptpSync off).nw.ptp.lastOff = s.nw.ptp.lastOff := by
  unfold State.ptpSync
  extract_lets r
  rw [(setSync_keeps _ _).same .nw rfl]
  exact ⟨rfl, rfl⟩

theorem ptpMeasured_canonical (hc : s.canonical = true) : (s.ptpMeasured port off delay).canonical = true :=
  (ptpSync_servoWrites _ _).canon (clrf_canonical (wrI_canonical hc))

theorem ptpMeasured_ldelay (hc : s.canonical = true) : (s.ptpMeasured port off delay).rd (PORT_LDELAY port) = BitVec.ofInt 32 delay := by
  have hne : PORT_LDELAY port ≠ NT_STAT := fun h => portLdelay_not_servoWrites port Fld.word (.inl h)
  have hc1 : ((s.wrI (PORT_LDELAY port) delay).modPtp fun p => { p with lastOff := off }).canonical = true := wrI_canonical hc
  rw [State.ptpMeasured, (ptpSync_servoWrites _ _).rd (clrf_canonical hc1) (portLdelay_not_servoWrites port), State.clrf, rd_put_ne hc1 hne]
  exact rd_wr_same hc

theorem ptpMeasured_time (s : State) (port : Nat) (off delay : Int) : (s.ptpMeasured port off delay).time = s.time :=
  (keeps_State_ptpSync (M := maskBut [.time]) rfl (Keeps.refl _)).same .time rfl

theorem ptpMeasured_ptp (s : State) (port : Nat) (off delay : Int) :
    (s.ptpMeasured port off delay).nw.ptp.recs = s.nw.ptp.recs ∧ (s.ptpMeasured port off delay).nw.ptp.lastOff = off := ptpSync_ptp ..

theorem stepBy_servoWrites {d : Int} (h : s.time.stepPend = none) : OnlyWrites ServoWrites s (s.stepBy d) := by
  have hwait : OnlyWrites ServoWrites s (s.stepWaits false (d * 65536)) := (OnlyWrites.refl s).keeps (Keeps.up_time rfl (Keeps.refl s))
  rw [stepBy_of_none h, State.stepGrid]
  exact (ite_of (hwait.setf (.inr (.inl rfl)) (by decide)) (ite_of hwait (hwait.keeps (Keeps.up_time rfl (Keeps.refl _))))).event

/-- Without the yard cores there is no measurement (R43). -/
theorem ptpMeasure_stopped (hfw : s.pw.fwRun = false) : s.ptpMeasure port off delay seq none = s := if_pos (by simp [hfw])

/-- The host runs the servo: the measurement goes to its delivery ring. -/
theorem ptpMeasure_host (hfw : s.pw.fwRun = true) (hwatch : s.isWatch = false) (hhost : s.ptpHost = true) :
    s.ptpMeasure port off delay seq none = ((s.ptpMeasured port off delay).modPtp fun p =>
      { p with recs := p.recs ++ [(port, off, delay, lsCode s.time.mt, seq)] }).event .measurement port := by
  rw [State.ptpMeasure, if_neg (by simp [hfw]), if_neg (by simp [hwatch]), if_pos hhost]
  rfl

/-- The firmware's servo steps where the offset is above its threshold. -/
theorem ptpMeasure_step (hfw : s.pw.fwRun = true) (hwatch : s.isWatch = false) (hhost : s.ptpHost = false)
    (hoff : (s.nw.ptp.thr : Int) * 65536 < absI off) : s.ptpMeasure port off delay seq none = (s.ptpMeasured port off delay).stepBy (-off) := by
  rw [State.ptpMeasure, if_neg (by simp [hfw]), if_neg (by simp [hwatch]), if_neg (by simp [hhost]), if_pos hoff]
  rfl

end

/-! ### Holdover and the timeout of the host's servo (R329) -/

section
variable {s : State}

theorem ptpHoldover_spec (hc : s.canonical = true) : s.ptpHoldover.flag NT_STAT NT_STAT_GM = nbit (Config.freeWord s.freeCount).toNat 0 ∧
    s.ptpHoldover.get NT_STAT NT_STAT_SYNC = 3 ∧ s.ptpHoldover.time = s.time ∧ s.ptpHoldover.nw.ptp.run = 0 := by
  unfold State.ptpHoldover State.freeWord
  dsimp only
  have hc1 : (({ s with freeCount := s.freeCount + 1 } : State).modPtp fun p => { p with run := 0 }).canonical = true := hc
  refine ⟨?_, setSync_sync (putB_canonical hc1) (by decide), (setSync_keeps _ _).same .time rfl, ?_⟩
  · rw [setSync_flag (putB_canonical hc1) (by decide), flag_putB hc1 (by decide) rfl]
  · rw [(setSync_keeps _ _).same .nw rfl]
    rfl

/-- At tick `t` no correction of the host has come in time. -/
def State.servoLate (s : State) (t : Nat) : State :=
  ((((s.advanceTo t).setSync 3).setf NT_STAT NT_STAT_SRV_LATE).event .syncChange 4).group 4

theorem servoTimeout_eq_servoLate (hhost : s.ptpHost = true) (hto : s.get NT_SRVTO NT_SRVTO_V ≠ 0)
    (hlate : s.flag NT_STAT NT_STAT_SRV_LATE = false) :
    s.servoTimeout = s.servoLate (s.nw.ptp.corrAt + s.get NT_SRVTO NT_SRVTO_V * 400000000) := by
  unfold State.servoTimeout State.servoLate
  dsimp only
  rw [if_neg (by simp [hhost, hto, hlate])]

theorem servoLate_spec (hc : s.canonical = true) (t : Nat) : (s.servoLate t).flag NT_STAT NT_STAT_SRV_LATE = true ∧
    (s.servoLate t).get NT_STAT NT_STAT_SYNC = 3 ∧ (s.servoLate t).time.trim = s.time.trim ∧ (s.servoLate t).tick = max s.tick t := by
  have hc1 : (s.advanceTo t).canonical = true := (advanceTo_keeps s t).canon hc
  have hc2 : ((s.advanceTo t).setSync 3).canonical = true := (setSync_keeps _ 3).canon hc1
  have htime : (s.servoLate t).time = (s.advanceTo t).time := (State.group_time ..).trans ((setSync_keeps _ 3).same .time rfl)
  refine ⟨?_, ?_, ?_, ?_⟩
  · rw [State.flag, State.servoLate, event_group_get (setf_canonical hc2) (by decide)]
    exact flag_setf hc2 (by decide) rfl
  · rw [State.servoLate, event_group_get (setf_canonical hc2) (by decide)]
    exact (get_put_other hc2 (by decide) (by decide)).trans (setSync_sync hc1 (by decide))
  · rw [htime, advanceTo_trim]
  · rw [tick_congr htime, advanceTo_tick]

end

/-! ### PPS (R330, R331) -/

section
variable {s : State} {e : Nat}

theorem ppsEdge_spec (hen : s.flag NT_PPSCFG NT_PPSCFG_PPSEN = true) (hstep : s.time.stepPend = none) : s.ppsEdge.nw.ptp.ppsOn = true ∧
    s.ppsEdge.nw.ptp.ppsSec = some (((s.time.mt : Int) + s.rdI NT_PPSOFS * 2 ^ 32) / second32 + 1).toNat := by
  unfold State.ppsEdge
  rw [if_pos hen]
  extract_lets s0 ofs k t dup s1
  have hs0 : s0 = s := if_neg (by simp [hstep])
  have hptp : s1.nw.ptp.ppsOn = true ∧ s1.nw.ptp.ppsSec = some k.toNat := by
    unfold s1
    rw [State.group_nw]
    exact ⟨rfl, rfl⟩
  have hk : k = ((s.time.mt : Int) + s.rdI NT_PPSOFS * 2 ^ 32) / second32 + 1 := by
    unfold k
    rw [hs0]
  rw [← hk]
  exact ite_of (P := fun u : State => u.nw.ptp.ppsOn = true ∧ u.nw.ptp.ppsSec = some k.toNat) hptp hptp

theorem ppsEnd_spec (hon : s.nw.ptp.ppsOn = true) : s.ppsEnd.nw.ptp.ppsOn = false ∧
    s.ppsEnd.tick = max s.tick (s.nw.ptp.ppsAt / 32 + 400 * s.get NT_PPSCFG NT_PPSCFG_PPSW) ∧ s.ppsEnd.regs = s.regs := by
  rw [State.ppsEnd, if_pos hon]
  exact ⟨rfl, advanceTo_tick .., State.advanceTo_regs ..⟩

/-- The edge on PPS_IN is stamped with module time `m`. -/
def State.ppsStamped (s : State) (m : Nat) : State :=
  (((s.wr64N NT_PPSINSEC (secOf m)).wr64N NT_PPSINNSF (nsOf m * 65536 + fracOf m)).setf NT_STAT NT_STAT_PPSIN_NEW).group 4

theorem ppsStamped_regs {m : Nat} (hc : s.canonical = true) : (s.ppsStamped m).rd64N NT_PPSINSEC = secOf m ∧
    (s.ppsStamped m).flag NT_STAT NT_STAT_PPSIN_NEW = true := by
  have hc1 : (s.wr64N NT_PPSINSEC (secOf m)).canonical = true := wr64N_canonical hc
  have hc2 : ((s.wr64N NT_PPSINSEC (secOf m)).wr64N NT_PPSINNSF (nsOf m * 65536 + fracOf m)).canonical = true := wr64N_canonical hc1
  have hsec : secOf m < 2 ^ 64 := Nat.lt_trans (Nat.mod_lt _ (by decide)) (by decide : 2 ^ 48 < 2 ^ 64)
  refine ⟨?_, ?_⟩
  · rw [State.rd64N, State.rd64, State.ppsStamped, group_rd (setf_canonical hc2) (by decide), group_rd (setf_canonical hc2) (by decide),
      ← State.rd64, State.setf, rd64_put_ne hc2 (by decide) (by decide), State.wr64N, rd64_wr64_ne hc1 (by decide)]
    exact rd64N_wr64N hc hsec
  · rw [State.flag, State.ppsStamped, group_get (setf_canonical hc2) (by decide)]
    exact flag_setf hc2 (by decide) rfl

theorem ppsStamped_time (s : State) (m : Nat) : (s.ppsStamped m).time = s.time := State.group_time ..

theorem ppsStamped_freeCount (s : State) (m : Nat) : (s.ppsStamped m).freeCount = s.freeCount := State.group_freeCount ..

theorem ppsIn_stamped (hdisc : s.flag NT_PPSCFG NT_PPSCFG_PPSDISC = false) (he : e < 8) :
    s.ppsIn e = s.ppsStamped (s.mtAt (s.now + 4 * e)) := by
  rw [State.ppsIn, Nat.mod_eq_of_lt he]
  exact if_neg (by simp [hdisc])

/-- The grandmaster's firmware disciplines module time to PPS_IN: TRIM takes a free value. -/
theorem ppsIn_disciplined (hdisc : s.flag NT_PPSCFG NT_PPSCFG_PPSDISC = true) (hgm : s.flag NT_STAT NT_STAT_GM = true)
    (hfw : s.pw.fwRun = true) : (s.ppsIn e).freeCount = s.freeCount + 1 ∧
    (s.ppsIn e).time.trim = clampI (-10737418) 10737418 (Config.freeWord s.freeCount).toInt := by
  have hcount := ppsStamped_freeCount s (s.mtAt (s.now + 4 * (e % 8)))
  have hin : s.ppsIn e = ((s.ppsStamped (s.mtAt (s.now + 4 * (e % 8)))).freeWord.2).ntTrim
      (clampI (-10737418) 10737418 (s.ppsStamped (s.mtAt (s.now + 4 * (e % 8)))).freeWord.1.toInt) := if_pos (by simp [hdisc, hgm, hfw])
  rw [hin]
  refine ⟨?_, ?_⟩
  · rw [ntTrim_freeCount]
    exact congrArg (· + 1) hcount
  · rw [(ntTrim_time _ _).1, State.freeWord, hcount]
    exact clampI_idem (by decide)

end

/-! ### The commands -/

/-- Settles O28: NT_TRIM, STEPGO and SETGO go by `ntTrim_regs`, `stepBy_clock` and `setGo_clock`, the servo by `State.ptpMeasured`, and every other
command by the lemma on its one operation. -/
theorem networkTimeCommandsComplete : Obligations.NetworkTimeCommandsComplete := by
  refine ⟨?trim, ?stepgo, ?setgo, ?ignored, ?read, ?leap, ?host, ?step, ?stopped, ?holdover, ?timeout, ?ppsEdge, ?ppsEnd, ?ppsIn, ?disciplined⟩
  case trim =>
    intro s v hc hmay hw hwatch
    obtain ⟨htrim, -⟩ := ntTrim_time s v.toInt
    exact ⟨s.ntTrim v.toInt, exec_ntTrimWrite hmay hw hwatch, htrim, ntTrim_regs hc⟩
  case stepgo =>
    intro s hmay hwatch hnone
    obtain ⟨hwait, -, hmt, -⟩ := stepBy_clock (d := s.rd64I NT_STEP) hnone
    exact ⟨s.stepGo, exec_stepgo hmay hwatch, hwait, hmt, stepBy_events hnone⟩
  case setgo =>
    intro s hmay hwatch hmorning
    obtain ⟨hwait, -, hmt, hrephase⟩ := setGo_clock hmorning
    exact ⟨s.setGo, exec_setgo hmay hwatch, hwait, hrephase, hmt⟩
  case ignored => exact fun s hmay hwatch => exec_setgo_ignored hmay hwatch
  case read => exact fun s r => ⟨s.ntNsRead r, rfl, rfl, vget_vmod_same r.isLt, rfl, rfl⟩
  case leap => exact fun s hc h61 h59 => ⟨s.leapSecond, rfl, leapSecond_leap61 hc h61 h59⟩
  case host =>
    intro s p o d seq hfw hwatch hhost
    obtain ⟨hrecs, hoff⟩ := ptpMeasured_ptp s (p + 1) o.toInt d.toInt
    exact ⟨_, congrArg Host.Outcome.next (ptpMeasure_host hfw hwatch hhost), congrArg (· ++ _) hrecs, hoff, ptpMeasured_time ..⟩
  case step =>
    intro s p o d seq hc hfw hwatch hhost hnone habove
    have hmt := ptpMeasured_time s (p + 1) o.toInt d.toInt
    have hnone1 : (s.ptpMeasured (p + 1) o.toInt d.toInt).time.stepPend = none := (congrArg TimeSt.stepPend hmt).trans hnone
    obtain ⟨hwait, htrim, -, -⟩ := stepBy_clock (d := -o.toInt) hnone1
    exact ⟨_, congrArg Host.Outcome.next (ptpMeasure_step hfw hwatch hhost habove), hwait,
      htrim.trans (congrArg TimeSt.trim hmt),
      ((stepBy_servoWrites hnone1).rd (ptpMeasured_canonical hc) (portLdelay_not_servoWrites _)).trans (ptpMeasured_ldelay hc)⟩
  case stopped => exact fun s p o d seq hfw => congrArg Host.Outcome.next (ptpMeasure_stopped hfw)
  case holdover => exact fun s hc => ⟨s.ptpHoldover, rfl, ptpHoldover_spec hc⟩
  case timeout =>
    exact fun s hc hhost hto hlate => ⟨_, congrArg Host.Outcome.next (servoTimeout_eq_servoLate hhost hto hlate), servoLate_spec hc _⟩
  case ppsEdge => exact fun s hen hstep => ⟨s.ppsEdge, rfl, ppsEdge_spec hen hstep⟩
  case ppsEnd => exact fun s hon => ⟨s.ppsEnd, rfl, ppsEnd_spec hon⟩
  case ppsIn =>
    intro s e hc hdisc
    obtain ⟨hsec, hnew⟩ := ppsStamped_regs (m := s.mtAt (s.now + 4 * e)) hc
    exact ⟨_, congrArg Host.Outcome.next (ppsIn_stamped hdisc e.isLt), hsec, hnew, ppsStamped_time ..⟩
  case disciplined => exact fun s e hc hdisc hgm hfw => ⟨s.ppsIn e, rfl, ppsIn_disciplined hdisc hgm hfw⟩

end Sys2Proof.Machine
end

section
/-! PROOFS. The switch, its gate lists and its ports (10_network_time.md): the statement on their commands fails where a frame that is too long
carries a bell. -/

namespace Sys2Proof.Machine

/-! ### A bell in a frame of more than 2 048 bytes (R307, R366) -/

/-- A running module in canonical form whose port P1 is enabled and has link. -/
def State.linkedPort : State :=
  let running : State := { State.reset with pw := { State.reset.pw with phase := .running, fwRun := true } }
  (running.setf (PORT_CFG 1) PORT_CFG_EN).setf (PORT_STAT 1) PORT_STAT_LINK

/-- A frame of 2 049 bytes with a good FCS that carries a bell; its body does not begin as a Ramaux header does. -/
def longBell : EthFrame := { dst := 0, src := 5, kind := .bell, len := 2049 }

/-- A bell that comes in with a good FCS goes by its header, whatever the length of its frame. -/
theorem switchFrame_bell_badHeader {s : State} {p e : Nat} {f : EthFrame} (hkind : f.kind = .bell) (hup : s.linkUp? p = true)
    (hfcs : f.fcsOk = true) (hhead : bU f.body 0 1 ≠ 0x13) : s.switchFrame p e f = s.rmCount RM_CNT0 RM_CNT0_HI := by
  unfold State.switchFrame
  rw [hkind]
  dsimp only
  rw [if_neg (by simp [hup, hfcs]), if_pos (by simp [hhead])]

theorem linkedPort_linkUp : State.linkedPort.linkUp? 1 = true := by decide +kernel

theorem linkedPort_fcserr : State.linkedPort.get (PORT_CNT 1) PORT_CNT_FCSERR = 0 ∧
    (State.linkedPort.rmCount RM_CNT0 RM_CNT0_HI).get (PORT_CNT 1) PORT_CNT_FCSERR = 0 := by decide +kernel

theorem exec_switchFrameReceive (p : Fin 4) (e : Fin 8) (f : EthFrame) (s : State) :
    exec (.switchFrameReceive p e f) s = .next (s.switchFrame p e f) := rfl

/-- Refutes O27, in its clause on frames of more than 2 048 bytes (R307): it speaks of every frame, while `State.switchFrame` takes a bell with a
good FCS by the merge table before `State.switchIn` looks at the length. `longBell` is counted in RM_CNT0 for its header and not in FCSERR of
the port. R307 makes no exception for bells, so that it is the model which departs from the rule here; with the premise `f.kind ≠ .bell`, as
in the clause before it, this counterexample is gone. -/
theorem not_switchCommandsComplete : ¬ Obligations.SwitchCommandsComplete := by
  rintro ⟨-, hlong, -⟩
  have hcanon : State.linkedPort.canonical = true := by decide +kernel
  obtain ⟨t, hexec, hcount, -⟩ := hlong State.linkedPort 1 0 longBell hcanon (by decide) linkedPort_linkUp (by decide)
  obtain ⟨hbefore, hafter⟩ := linkedPort_fcserr
  have ht : State.linkedPort.rmCount RM_CNT0 RM_CNT0_HI = t := by
    rw [← switchFrame_bell_badHeader (e := 0) (f := longBell) rfl linkedPort_linkUp rfl (by decide)]
    exact Host.Outcome.next.inj ((exec_switchFrameReceive 1 0 longBell _).symm.trans hexec)
  have hkept : (0 : Nat) = incSat PORT_CNT_FCSERR.w 0 :=
    calc (0 : Nat) = t.get (PORT_CNT 1) PORT_CNT_FCSERR := by rw [← ht, hafter]
      _ = incSat PORT_CNT_FCSERR.w (State.linkedPort.get (PORT_CNT 1) PORT_CNT_FCSERR) := hcount
      _ = incSat PORT_CNT_FCSERR.w 0 := by rw [hbefore]
  exact absurd hkept (by decide)

end Sys2Proof.Machine
end

section
/-! PROOFS. The Ramaux acyclic channel (11_ramaux.md R360–R362) and the command ACYCLIC (R516). -/

namespace Sys2Proof.Machine

/-! ### One segment (R360) -/

theorem acyWhole_only (bs : List Byte) : acyWhole (acyAdd [] 0 false bs) = some bs := by
  simp [acyAdd, acyWhole]

theorem acyWhole_more (seg : Nat) (bs : List Byte) : acyWhole (acyAdd [] seg true bs) = none := by
  simp [acyAdd, acyWhole]

/-! ### A request of another node (R360, R361) -/

/-- A segment of a request reaches the module, and of this request of `peer` nothing is known: no response kept, no execution, no segment. -/
structure FreshSegment (s : State) (peer id fl seg : Nat) (bs body : List Byte) : Prop where
  awake : s.inDawn = false
  parse : acyParse body = some (id, s.node, fl, seg, bs)
  request : fl % 2 = 0
  kept : ∀ k ∈ s.rm.kept, ¬(k.1 = peer ∧ k.2.1 = id)
  executing : ∀ x ∈ s.rm.executing, ¬(x.1 = peer ∧ x.2.1 = id)
  reqs : ∀ q ∈ s.rm.reqs, ¬(q.peer = peer ∧ q.id = id)

/-- The request that the segment begins. -/
def State.begunReq (s : State) (peer id fl seg : Nat) (sec : Bool) (bs : List Byte) : AcyReq :=
  { peer := peer, id := id, frame := s.time.frameNum, segs := acyAdd [] seg (nbit fl 1) bs, sec := sec }

section
variable {s : State} {peer id fl seg : Nat} {sec : Bool} {bs body : List Byte} (h : FreshSegment s peer id fl seg bs body)
include h

/-- The first segment begins a request: it waits for the others, or, where it is all of it, it is refused or runs. -/
theorem FreshSegment.acyRequest_eq : s.acyRequest peer sec body =
    match acyWhole (s.begunReq peer id fl seg sec bs).segs with
    | none => s.modRm fun m => { m with reqs := s.rm.reqs ++ [s.begunReq peer id fl seg sec bs] }
    | some e =>
      if e.length < 64 then s
      else if !s.flag RM_ACY RM_ACY_ACYEN || !s.aclHas peer || (s.flag RM_ACY RM_ACY_ACYSEC && !sec) || portRefuses (eOpcode e) (eP e) then
        s.acyRefuse peer id
      else s.acyRun peer id e := by
  obtain ⟨hawake, hparse, hrequest, hkept, hexec, hreqs⟩ := h
  have hnokept : (s.rm.kept.find? fun k => k.1 == peer && k.2.1 == id) = none := by
    simpa [List.find?_eq_none] using hkept
  have hnoexec : (s.rm.executing.any fun x => x.1 == peer && x.2.1 == id) = false := by
    simpa [List.any_eq_false] using hexec
  have hnoreq : (s.rm.reqs.find? fun q => q.peer == peer && q.id == id) = none := by
    simpa [List.find?_eq_none] using hreqs
  have hrest : (s.rm.reqs.filter fun q => !(q.peer == peer && q.id == id)) = s.rm.reqs := by
    simpa [List.filter_eq_self, imp_iff_not_or] using hreqs
  unfold State.acyRequest
  rw [if_neg (by simp [hawake]), hparse]
  dsimp only
  rw [if_neg (by simp [hrequest]), hnokept]
  dsimp only
  rw [if_neg (by simp [hnoexec]), hnoreq, hrest]
  rfl

theorem FreshSegment.acyRequest_more (hmore : nbit fl 1 = true) : s.acyRequest peer sec body =
    s.modRm fun m => { m with reqs := s.rm.reqs ++ [{ peer := peer, id := id, frame := s.time.frameNum, segs := [(seg, true, bs)], sec := sec }] } := by
  rw [h.acyRequest_eq, State.begunReq, hmore, acyWhole_more]
  rfl

end

section
variable {s : State} {peer id fl : Nat} {sec : Bool} {bs body : List Byte} (h : FreshSegment s peer id fl 0 bs body)
  (hlast : nbit fl 1 = false) (hlen : 64 ≤ bs.length)
include h hlast hlen

/-- A request of one segment is refused or runs. -/
theorem FreshSegment.acyRequest_only : s.acyRequest peer sec body =
    if !s.flag RM_ACY RM_ACY_ACYEN || !s.aclHas peer || (s.flag RM_ACY RM_ACY_ACYSEC && !sec) || portRefuses (eOpcode bs) (eP bs) then
      s.acyRefuse peer id
    else s.acyRun peer id bs := by
  rw [h.acyRequest_eq, State.begunReq, hlast, acyWhole_only]
  exact if_neg (by omega)

theorem FreshSegment.acyRequest_runs (hen : s.flag RM_ACY RM_ACY_ACYEN = true) (hacl : s.aclHas peer = true)
    (hsec : s.flag RM_ACY RM_ACY_ACYSEC = true → sec = true) (hport : portRefuses (eOpcode bs) (eP bs) = false) :
    s.acyRequest peer sec body = s.acyRun peer id bs := by
  rw [h.acyRequest_only hlast hlen]
  refine if_neg ?_
  simpa [hen, hacl, hport] using hsec

theorem FreshSegment.acyRequest_refused (hacl : s.aclHas peer = false) : s.acyRequest peer sec body = s.acyRefuse peer id := by
  rw [h.acyRequest_only hlast hlen]
  exact if_pos (by simp [hacl])

end

/-! ### The segment timeout (R361, R516) -/

/-- Of commands that have completed none waits any more. -/
theorem tag_ne_of_mem_waits_foldl_finish {l : List AcyAsk} {st : Status} {a : AcyAsk} (ha : a ∈ l) (s : State) :
    ∀ w ∈ (l.foldl (fun s a => s.finish a.tag st) s).waits, w.tag ≠ a.tag := by
  induction l generalizing s with
  | nil => cases ha
  | cons x l ih =>
    obtain rfl | ha := List.mem_cons.1 ha
    · have hfew : FewerWaits (s.finish a.tag st) (l.foldl (fun s a => s.finish a.tag st) (s.finish a.tag st)) :=
        foldl_of (.refl _) fun _ _ hu => hu.finish
      intro w hw
      have hmem := hfew w hw
      rw [waits_finish] at hmem
      simpa using (List.mem_filter.1 hmem).2
    · exact ih ha _

/-- What is left of the requests and of the own requests after the timeout. -/
theorem acyTimeout_rm (s : State) : s.acyTimeout.rm = { s.rm with
    reqs := s.rm.reqs.filter fun q => !decide (q.frame + 10 ≤ s.time.frameNum)
    asked := s.rm.asked.filter fun a => !decide (a.frame + 10 ≤ s.time.frameNum) } :=
  foldl_of (P := fun u : State => u.rm = _) rfl fun _ _ hu => (State.finish_rm ..).trans hu

theorem acyTimeout_regs (s : State) : s.acyTimeout.regs = s.regs :=
  (keeps_State_acyTimeout (M := maskBut [.regs]) rfl (Keeps.refl s)).same .regs rfl

/-- The command of an own request that has waited too long waits no more. -/
theorem acyTimeout_waits {s : State} {a : AcyAsk} (ha : a ∈ s.rm.asked) (hold : a.frame + 10 ≤ s.time.frameNum) :
    ∀ w ∈ s.acyTimeout.waits, w.tag ≠ a.tag :=
  tag_ne_of_mem_waits_foldl_finish (List.mem_filter.2 ⟨ha, decide_eq_true hold⟩) _

/-! ### A response to an own request (R360) -/

/-- The own request `a` is closed: no response to it is awaited any more. -/
def State.acyClosed (s : State) (a : AcyAsk) : State := s.modRm fun m => { m with asked := m.asked.filter fun x => x.tag != a.tag }

/-- A segment of a response reaches the module, to its own request `a`. -/
structure AskedSegment (s : State) (node fl seg : Nat) (a : AcyAsk) (bs body : List Byte) : Prop where
  awake : s.inDawn = false
  response : fl % 2 = 1
  parse : ∃ id, acyParse body = some (id, s.node, fl, seg, bs) ∧ (s.rm.asked.find? fun a => a.id == id && a.node == node) = some a

section
variable {s : State} {node fl seg : Nat} {a : AcyAsk} {bs body : List Byte}

theorem AskedSegment.acyResponse_eq (h : AskedSegment s node fl seg a bs body) : s.acyResponse node body =
    if nbit fl 2 then (s.acyClosed a).finish a.tag .portRefused
    else
      match acyWhole (acyAdd a.segs seg (nbit fl 1) bs) with
      | some e => (s.acyClosed a).finish a.tag .ok 0 0 0 e
      | none => s.modRm fun m => { m with asked := m.asked.map fun x =>
          if x.tag == a.tag then { a with segs := acyAdd a.segs seg (nbit fl 1) bs } else x } := by
  obtain ⟨hawake, hresponse, id, hparse, hfind⟩ := h
  unfold State.acyResponse
  rw [if_neg (by simp [hawake]), hparse]
  dsimp only
  rw [hfind]
  dsimp only
  rw [if_neg (by simp [hresponse])]
  rfl

theorem AskedSegment.acyResponse_refused (h : AskedSegment s node fl seg a bs body) (hrefused : nbit fl 2 = true) :
    s.acyResponse node body = (s.acyClosed a).finish a.tag .portRefused := by
  rw [h.acyResponse_eq]
  exact if_pos hrefused

theorem AskedSegment.acyResponse_only (h : AskedSegment s node fl 0 a bs body) (hok : nbit fl 2 = false) (hlast : nbit fl 1 = false)
    (hfirst : a.segs = []) : s.acyResponse node body = (s.acyClosed a).finish a.tag .ok 0 0 0 bs := by
  rw [h.acyResponse_eq, if_neg (by simp [hok]), hfirst, hlast, acyWhole_only]

end

/-! ### The command ACYCLIC (R516) -/

theorem acySend_rm (s : State) (node id flags : Nat) (bs : List Byte) : (s.acySend node id flags bs).rm = s.rm :=
  (keeps_State_acySend (M := maskBut [.rm]) rfl (Keeps.refl s)).same .rm rfl

theorem cmdAcyclic_spec (s : State) (r : Req) :
    (s.cmdAcyclic r).rm.asked = s.rm.asked ++ [{ id := s.rm.nextId, node := r.P 0, tag := r.tag, frame := s.time.frameNum }] ∧
    (s.cmdAcyclic r).rm.nextId = (s.rm.nextId + 1) % 65536 ∧
    ((s.cmdAcyclic r).waits.any fun w => w.tag == r.tag && w.kind == WaitKind.acyclic) = true := by
  unfold State.cmdAcyclic
  dsimp only
  rw [State.await_rm, acySend_rm, State.await_waits, List.any_append]
  exact ⟨rfl, rfl, by simp⟩

/-! ### The commands -/

/-- Settles O45: a request goes by `FreshSegment.acyRequest_eq`, a response by `AskedSegment.acyResponse_eq`. -/
theorem acyclicCommandsComplete : Obligations.AcyclicCommandsComplete := by
  refine ⟨?more, ?runs, ?refused, ?timeout, ?response, ?responseRefused, ?acyclic⟩
  case more =>
    intro s peer sec body bs id fl seg hawake hparse hrequest hmore hkept hexec hreqs
    have h : FreshSegment s peer id fl seg bs body := ⟨hawake, hparse, hrequest, hkept, hexec, hreqs⟩
    exact ⟨_, congrArg Host.Outcome.next (h.acyRequest_more hmore), rfl, rfl⟩
  case runs =>
    intro s peer sec body bs id fl hawake hparse hrequest hlast hkept hexec hreqs hlen hen hacl hsec hport
    have h : FreshSegment s peer id fl 0 bs body := ⟨hawake, hparse, hrequest, hkept, hexec, hreqs⟩
    exact congrArg Host.Outcome.next (h.acyRequest_runs hlast hlen hen hacl hsec hport)
  case refused =>
    intro s peer sec body bs id fl hawake hparse hrequest hlast hkept hexec hreqs hlen hacl
    have h : FreshSegment s peer id fl 0 bs body := ⟨hawake, hparse, hrequest, hkept, hexec, hreqs⟩
    exact congrArg Host.Outcome.next (h.acyRequest_refused hlast hlen hacl)
  case timeout =>
    refine fun s => ⟨s.acyTimeout, rfl, fun q hq => ?_, fun a ha => ?_, fun a => acyTimeout_waits, acyTimeout_regs s⟩
    · rw [acyTimeout_rm] at hq
      simpa using hq
    · rw [acyTimeout_rm] at ha
      simpa using ha
  case response =>
    intro s node body bs id fl a hawake hparse hresponse hlast hok hfind hfirst
    have h : AskedSegment s node fl 0 a bs body := ⟨hawake, hresponse, id, hparse, hfind⟩
    exact congrArg Host.Outcome.next (h.acyResponse_only hok hlast hfirst)
  case responseRefused =>
    intro s node body bs id fl seg a hawake hparse hresponse hrefused hfind
    have h : AskedSegment s node fl seg a bs body := ⟨hawake, hresponse, id, hparse, hfind⟩
    exact congrArg Host.Outcome.next (h.acyResponse_refused hrefused)
  case acyclic => exact fun s s1 c r h => ⟨s1.cmdAcyclic r, exec_admits h rfl, cmdAcyclic_spec s1 r⟩

end Sys2Proof.Machine
end

section
/-! PROOFS. Ramaux (11_ramaux.md): the counters, the transmit slot and reception. -/

namespace Sys2Proof.Machine

/-! ### The counters (R375) -/

/-- What a Ramaux counter writes: its field, and what an event of group E3 does, whose pending bit lies in the word of E4. -/
def RmCountWrites (a : Nat) (f : Fld) (b : Nat) (g : Fld) : Prop := (b = a ∧ g = f) ∨ EvtWrites b g

section
variable {s : State} {a b : Nat} {f : Fld}

theorem rmCount_writes (hf : f.lo + f.w ≤ 32) : OnlyWrites (RmCountWrites a f) s (s.rmCount a f) :=
  ((OnlyWrites.refl s).count (.inl ⟨rfl, rfl⟩) hf).group (.inr (.inl rfl)) (.inr (.inr rfl))

theorem rmCount_keeps (s : State) (a : Nat) (f : Fld) : Keeps (partMask [.regs, .vectors]) s (s.rmCount a f) :=
  keeps_State_rmCount rfl (Keeps.refl s)

theorem rmCount_rm (s : State) (a : Nat) (f : Fld) : (s.rmCount a f).rm = s.rm := (rmCount_keeps s a f).same .rm rfl
theorem rmCount_nw (s : State) (a : Nat) (f : Fld) : (s.rmCount a f).nw = s.nw := (rmCount_keeps s a f).same .nw rfl

theorem rmCount_rd_ne (hc : s.canonical = true) (hf : f.lo + f.w ≤ 32) (hb : NT_CTRL ≤ b) (hne : b ≠ a) : (s.rmCount a f).rd b = s.rd b :=
  (rmCount_writes hf).rd hc fun _ hg => hg.elim (fun h => hne h.1) (not_evtWrites hb _)

theorem rmCount_get_same (hc : s.canonical = true) (hf : f.lo + f.w ≤ 32) (ha : NT_CTRL ≤ a) :
    (s.rmCount a f).get a f = incSat f.w (s.get a f) := by
  have hgroup : OnlyWrites EvtWrites (s.count a f) (s.rmCount a f) := (OnlyWrites.refl _).group (.inl rfl) (.inr rfl)
  rw [hgroup.get (count_canonical hc) a f fun g hg => absurd hg (not_evtWrites ha g)]
  exact get_count_same hc hf

end

theorem get_congr_rd {s t : State} {a : Nat} (h : t.rd a = s.rd a) (f : Fld) : t.get a f = s.get a f := by
  rw [State.get, State.rdN, h, State.get, State.rdN]

/-- Words that are cleared in turn read 0. -/
theorem forEach_clear_rd {s : State} (hc : s.canonical = true) (a n : Nat) :
    (s.forEach (List.range n) fun s i => s.wrN (a + 4 * i) 0).canonical = true ∧
    ∀ i < n, (s.forEach (List.range n) fun s i => s.wrN (a + 4 * i) 0).rd (a + 4 * i) = 0 := by
  induction n with
  | zero => exact ⟨hc, fun i hi => absurd hi (Nat.not_lt_zero i)⟩
  | succ n ih =>
    obtain ⟨hcn, hzero⟩ := ih
    rw [State.forEach] at hcn hzero ⊢
    rw [List.range_succ, List.foldl_append, List.foldl_cons, List.foldl_nil]
    refine ⟨wrN_canonical hcn, fun i hi => ?_⟩
    rcases Nat.lt_succ_iff_lt_or_eq.1 hi with hi | rfl
    · exact (rd_wr_ne hcn (by omega)).trans (hzero i hi)
    · exact rd_wr_same hcn

theorem exec_rmClrcnt {s : State} (hmay : s.hostMay RM_CMD) : exec .rmClrcnt s = .next s.rmClrCnt :=
  congrArg Host.Outcome.next (hostCmd_may hmay)

/-! ### The transmit slot (R348) -/

theorem advanceTo_pubInForce (s : State) (t : Nat) : (s.advanceTo t).pubInForce = s.pubInForce := by
  funext i
  simp only [State.pubInForce, State.epoch, State.flag, get_congr (State.advanceTo_regs s t)]

theorem advanceTo_frameNum (s : State) (t : Nat) : (s.advanceTo t).time.frameNum = s.time.frameNum := by
  unfold State.advanceTo
  split <;> rfl

theorem rmFrameOf_congr {s t : State} (h : t.regs = s.regs) (kind : EthKind) (low pcp : Nat) (bytes : List Byte) :
    t.rmFrameOf kind low pcp bytes = s.rmFrameOf kind low pcp bytes := by
  simp only [State.rmFrameOf, State.rmAddr, State.rd64N, rd64_congr h, get_congr h]

/-- The instant of the transmit slot of the frame in progress. -/
def State.txTick (s : State) : Nat := s.time.frameStart / 32 + s.get RM_CYC RM_CYC_TXSLOT

/-- The block of user data that entry `i` sends (R346). -/
def State.userBlock (s : State) (i : Nat) : List Byte :=
  pubBlock (s.get (PUB_W0 i) PUB_W0_PUBID) 5 0 (s.get (PUB_W1 i) PUB_W1_PLEN) s.epoch
    (s.sramBytes (s.userHalf (s.rdN (PUB_BUF i)) (s.get (PUB_W1 i) PUB_W1_PLEN) false) (s.get (PUB_W1 i) PUB_W1_PLEN))

section
variable {s : State}

theorem pubEntry_user {i : Nat} (hkind : s.get (PUB_W0 i) PUB_W0_KIND = 5) : s.pubEntry i = (some (s.userBlock i), s) := by
  unfold State.pubEntry
  rw [hkind]
  rfl

theorem userHalf_congr {t : State} (hmem : t.mem = s.mem) (buf plen : Nat) (other : Bool) : t.userHalf buf plen other = s.userHalf buf plen other := by
  rw [State.userHalf, hmem, State.userHalf]

theorem sramBytes_congr {t : State} (hmem : t.mem = s.mem) (o k : Nat) : t.sramBytes o k = s.sramBytes o k := by
  rw [State.sramBytes, hmem, State.sramBytes]

theorem userBlock_congr {t : State} (hregs : t.regs = s.regs) (hmem : t.mem = s.mem) (i : Nat) : t.userBlock i = s.userBlock i := by
  simp only [State.userBlock, State.epoch, State.rdN, rd_congr hregs, get_congr hregs, sramBytes_congr hmem, userHalf_congr hmem]

theorem txSlot_empty (hawake : s.inDawn = false) (hon : s.rmOn = true) (hpubs : (List.range 128).filter s.pubInForce = []) :
    s.txSlot = s.advanceTo s.txTick := by
  unfold State.txSlot
  rw [if_neg (by simp [hawake, hon])]
  dsimp only
  rw [advanceTo_pubInForce, hpubs]
  rfl

/-- One publication of user data makes one frame. -/
theorem txSlot_user {i : Nat} (hawake : s.inDawn = false) (hon : s.rmOn = true) (hpubs : (List.range 128).filter s.pubInForce = [i])
    (hkind : s.get (PUB_W0 i) PUB_W0_KIND = 5) :
    s.txSlot = (s.advanceTo s.txTick).switchIn 0 0 (s.rmFrameOf .cyclic s.node 6
      (rmHeader 1 1 s.node (s.time.frameNum % 2 ^ 32) (s.userBlock i).length 1 ++ s.userBlock i)) := by
  have hregs : (s.advanceTo s.txTick).regs = s.regs := State.advanceTo_regs ..
  have hentry : (s.advanceTo s.txTick).pubEntry i = (some (s.userBlock i), s.advanceTo s.txTick) := by
    rw [pubEntry_user ((get_congr hregs ..).trans hkind), userBlock_congr hregs (State.advanceTo_mem ..)]
  have hnode : (s.advanceTo s.txTick).node = s.node := get_congr hregs ..
  unfold State.txSlot
  rw [if_neg (by simp [hawake, hon])]
  dsimp only
  rw [advanceTo_pubInForce, hpubs, List.foldl_cons, List.foldl_nil, ← State.txTick, hentry]
  dsimp only
  change (s.advanceTo s.txTick).switchIn 0 0 ((s.advanceTo s.txTick).rmFrameOf .cyclic (s.advanceTo s.txTick).node 6
    (rmHeader 1 1 (s.advanceTo s.txTick).node ((s.advanceTo s.txTick).time.frameNum % 2 ^ 32) [s.userBlock i].flatten.length 1 ++
      [s.userBlock i].flatten)) = _
  rw [rmFrameOf_congr hregs, hnode, advanceTo_frameNum, List.flatten_singleton]

end

/-! ### Reception (R353, R354) -/

section
variable {s : State} {f : List Byte}

theorem cyclicIn_badHeader (hawake : s.inDawn = false) (hhead : bU f 0 1 ≠ 0x11) : s.cyclicIn f = s.rmCount RM_CNT0 RM_CNT0_HI := by
  unfold State.cyclicIn
  rw [if_neg (by simp [hawake]), if_pos (by simp [hhead])]

/-- A frame with a good header that is not too old is read block by block. -/
theorem cyclicIn_blocks (hawake : s.inDawn = false) (hhead : bU f 0 1 = 0x11) (hcrc : crc32 (f.take 12) = bU f 12 4)
    (hage : (s.time.frameNum + 2 ^ 32 - bU f 4 4 % 2 ^ 32) % 2 ^ 32 ≤ s.get RM_EPOCH RM_EPOCH_MAXAGE) :
    s.cyclicIn f = State.blocks (bU f 2 2 % 1024) (bU f 4 4) (bU f 10 1) ((f.drop 16).take (bU f 8 2)) s := by
  unfold State.cyclicIn
  rw [if_neg (by simp [hawake]), if_neg (by simp [hhead, hcrc])]
  exact if_neg (Nat.not_lt.2 hage)

/-- A block that passes every check is delivered to the subscription that names it. -/
theorem blocks_one_delivers {node cycle i plen : Nat} {b : List Byte} (hplen : bU b 4 2 = plen) (hlen : plen + 12 ≤ b.length)
    (hlo : 1 ≤ bU b 2 1) (hhi : bU b 2 1 ≤ 5) (hcrc : crc32 (b.take (8 + plen)) = bU b (8 + plen) 4)
    (hfind : (List.range 256).find? (fun i => s.subInForce i && s.get (SUB_W0 i) SUB_W0_PUBID == bU b 0 2 &&
      s.get (SUB_W1 i) SUB_W1_SRCNODE == node) = some i)
    (hkind : bU b 2 1 = s.get (SUB_W0 i) SUB_W0_KIND) (hsub : plen = s.get (SUB_W1 i) SUB_W1_PLEN) (hepoch : bU b 6 1 = s.epoch) :
    State.blocks node cycle 1 b s = s.deliver i cycle ((b.drop 8).take plen) := by
  subst hplen
  have hform : ¬(decide (b.length < 12) || decide (b.length < bU b 4 2 + 12) || decide (bU b 2 1 = 0) || decide (5 < bU b 2 1)) = true := by
    simp only [Bool.or_eq_true, decide_eq_true_eq]
    omega
  unfold State.blocks
  dsimp only
  rw [if_neg hform, if_neg (not_not.2 hcrc), hfind]
  dsimp only
  rw [if_neg (by simp [← hkind, ← hsub]), if_neg (not_not.2 hepoch)]
  rfl

end

end Sys2Proof.Machine
end

section
/-! PROOFS. Ramaux (11_ramaux.md): EN and epochs. -/

namespace Sys2Proof.Machine

/-! ### EN (R351) -/

section
variable {W : Nat → Fld → Prop} {s0 s : State} (h : OnlyWrites W s0 s) {a : Nat}
include h

theorem OnlyWrites.wr {v : Word} (ha : W a Fld.word) : OnlyWrites W s0 (s.wr a v) := by
  have hv : s.wr a v = s.wrN a v.toNat := by rw [State.wrN, BitVec.ofNat_toNat, BitVec.setWidth_eq]
  rw [hv]
  exact h.wrN ha

theorem OnlyWrites.wr64N {v : Nat} (hlow : W a Fld.word) (hhigh : W (a + 4) Fld.word) : OnlyWrites W s0 (s.wr64N a v) := (h.wr hlow).wr hhigh

end

/-- The registers of the gate control lists lie below those of Ramaux. -/
def GateWrites (a : Nat) (_ : Fld) : Prop := a < RM_CFG

/-- The administrative list of port `p` is the Ramaux list of R350: the bell window, the time up to CYCEND, and the rest of the frame. -/
def State.rmGateList (win ce base p : Nat) (s : State) : State :=
  let s1 := ((s.wrN (GCL_ADM p 0) (0x20 * 2 ^ 24 + win)).wrN (GCL_ADM p 1) (0xC0 * 2 ^ 24 + (ce - win))).wrN (GCL_ADM p 2)
    (0xDF * 2 ^ 24 + (s.frameLen - ce))
  let s2 := (s1.put (GCL_CTRL p) GCL_CTRL_COUNT (if ce = s.frameLen then 2 else 3)).put (GCL_CYCLE p) GCL_CYCLE_CYCLE s.frameLen
  (s2.wr64N (GCL_BASE p) base).wr64N (GCL_CHGTIME p) base

/-- The gate control lists of P1 to P3 are written and submitted. -/
def State.rmGates (win ce base : Nat) (s : State) : State := s.forEach [1, 2, 3] fun s p => (s.rmGateList win ce base p).gclChg p

section
variable {win ce base p : Nat}

theorem rmGateList_writes (hp : p < 4) (s : State) : OnlyWrites GateWrites s (s.rmGateList win ce base p) := by
  obtain ⟨hadm0, hadm1, hadm2, hctrl, hcycle⟩ : GCL_ADM p 0 < RM_CFG ∧ GCL_ADM p 1 < RM_CFG ∧ GCL_ADM p 2 < RM_CFG ∧ GCL_CTRL p < RM_CFG ∧
      GCL_CYCLE p < RM_CFG := by
    unfold GCL_ADM GCL_CTRL GCL_CYCLE RM_CFG
    omega
  obtain ⟨hbase, hbase4, hchg, hchg4⟩ : GCL_BASE p < RM_CFG ∧ GCL_BASE p + 4 < RM_CFG ∧ GCL_CHGTIME p < RM_CFG ∧ GCL_CHGTIME p + 4 < RM_CFG := by
    unfold GCL_BASE GCL_CHGTIME RM_CFG
    omega
  have hadm : OnlyWrites GateWrites s (((s.wrN (GCL_ADM p 0) (0x20 * 2 ^ 24 + win)).wrN (GCL_ADM p 1) (0xC0 * 2 ^ 24 + (ce - win))).wrN (GCL_ADM p 2)
      (0xDF * 2 ^ 24 + (s.frameLen - ce))) := (((OnlyWrites.refl s).wrN hadm0).wrN hadm1).wrN hadm2
  exact (((hadm.put hctrl (by decide)).put hcycle (by decide)).wr64N hbase hbase4).wr64N hchg hchg4

theorem gclChg_writes (hp : p < 4) (s : State) : OnlyWrites GateWrites s (s.gclChg p) := by
  have hstat : GCL_STAT p < RM_CFG := by unfold GCL_STAT RM_CFG; omega
  have hput : ∀ f : Fld, f.lo + f.w ≤ 32 → OnlyWrites GateWrites s (s.setf (GCL_STAT p) f) := fun f hf => (OnlyWrites.refl s).setf hstat hf
  unfold State.gclChg
  exact ite_of (hput _ (by decide)) ((hput _ (by decide)).keeps (keeps_State_modGcl rfl (Keeps.refl _)))

theorem rmGates_writes (s : State) : OnlyWrites GateWrites s (s.rmGates win ce base) :=
  (OnlyWrites.refl s).forEach fun t p hp ht =>
    have hp : p < 4 := by simp at hp; omega
    (ht.trans (rmGateList_writes hp t)).trans (gclChg_writes hp _)

theorem rmGates_rm (s : State) : (s.rmGates win ce base).rm = s.rm :=
  forEach_same (p := .rm) fun _ _ => (keeps_State_gclChg (M := partMask [.regs, .nw]) rfl (Keeps.refl _)).same .rm rfl

end

section
variable {s : State} {v : Nat}

theorem exec_ramauxEnable {w : Word} (hmay : s.hostMay RM_CFG) (hw : wordOk RM_CFG w.toNat = true) :
    exec (.ramauxEnable w) s = .next (s.rmEnable w.toNat) :=
  hostWord_may (f := fun s => s.rmEnable w.toNat) hmay hw

theorem rmEnable_on (hmorning : s.inMorning = true) (hen : nbit v 31 = true) (hwin : s.get RM_BELL RM_BELL_BELLWIN < s.get RM_CYC RM_CYC_TXSLOT)
    (htx : s.get RM_CYC RM_CYC_TXSLOT < s.get RM_CYCEND RM_CYCEND_CYCEND) (hce : s.get RM_CYCEND RM_CYCEND_CYCEND ≤ s.frameLen) :
    s.rmEnable v = (s.wrN RM_CFG (v % 2 ^ 26 + 2 ^ 31)).rmGates (s.get RM_BELL RM_BELL_BELLWIN) (s.get RM_CYCEND RM_CYCEND_CYCEND)
      (lsCode (s.frameTime (s.time.frameNum + 1) * 65536)) := by
  unfold State.rmEnable
  dsimp only
  rw [if_neg (by simp [hmorning]), if_pos hen, if_pos (by simp [hwin, htx, hce])]
  rfl

theorem rmEnable_bad (hmorning : s.inMorning = true) (hen : nbit v 31 = true) (hce : s.frameLen < s.get RM_CYCEND RM_CYCEND_CYCEND) :
    s.rmEnable v = s.setf RM_STAT RM_STAT_CFGBAD := by
  unfold State.rmEnable
  dsimp only
  rw [if_neg (by simp [hmorning]), if_pos hen]
  exact if_neg (by simp [hce])

theorem rmEnable_off_regs (hmorning : s.inMorning = true) (hen : nbit v 31 = false) : (s.rmEnable v).regs = (s.wrN RM_CFG (v % 2 ^ 26)).regs := by
  unfold State.rmEnable
  dsimp only
  rw [if_neg (by simp [hmorning]), if_neg (by simp [hen])]
  split <;> rfl

/-- EN as RM_CFG holds it. -/
theorem rmOn_of_rdN {x : Nat} (h : s.rdN RM_CFG = x) : s.rmOn = nbit x 31 := by
  rw [← h]
  rfl

theorem rmEnable_on_spec (hc : s.canonical = true) (hmorning : s.inMorning = true) (hen : nbit v 31 = true)
    (hwin : s.get RM_BELL RM_BELL_BELLWIN < s.get RM_CYC RM_CYC_TXSLOT) (htx : s.get RM_CYC RM_CYC_TXSLOT < s.get RM_CYCEND RM_CYCEND_CYCEND)
    (hce : s.get RM_CYCEND RM_CYCEND_CYCEND ≤ s.frameLen) :
    (s.rmEnable v).rmOn = true ∧ (s.rmEnable v).rdN RM_CFG = v % 2 ^ 26 + 2 ^ 31 ∧ (s.rmEnable v).rm = s.rm := by
  have hcfg : (s.rmEnable v).rdN RM_CFG = v % 2 ^ 26 + 2 ^ 31 := by
    rw [rmEnable_on hmorning hen hwin htx hce, (rmGates_writes _).rdN (wrN_canonical hc) fun _ hg => lt_irrefl RM_CFG hg]
    exact rdN_wrN_same hc (by omega)
  refine ⟨?_, hcfg, ?_⟩
  · rw [rmOn_of_rdN hcfg, nbit, beq_iff_eq]
    omega
  · rw [rmEnable_on hmorning hen hwin htx hce, rmGates_rm]
    rfl

theorem rmEnable_off_spec (hc : s.canonical = true) (hmorning : s.inMorning = true) (hen : nbit v 31 = false) :
    (s.rmEnable v).rmOn = false ∧ (s.rmEnable v).rdN RM_CFG = v % 2 ^ 26 := by
  have hcfg : (s.rmEnable v).rdN RM_CFG = v % 2 ^ 26 := by
    rw [State.rdN, rd_congr (rmEnable_off_regs hmorning hen), ← State.rdN]
    exact rdN_wrN_same hc (by omega)
  refine ⟨?_, hcfg⟩
  rw [rmOn_of_rdN hcfg, nbit, beq_eq_false_iff_ne]
  omega

theorem rmEnable_bad_spec (hc : s.canonical = true) (hmorning : s.inMorning = true) (hen : nbit v 31 = true)
    (hce : s.frameLen < s.get RM_CYCEND RM_CYCEND_CYCEND) :
    (s.rmEnable v).flag RM_STAT RM_STAT_CFGBAD = true ∧ (s.rmEnable v).rd RM_CFG = s.rd RM_CFG := by
  rw [rmEnable_bad hmorning hen hce]
  exact ⟨flag_setf hc (by decide) (by decide), rd_put_ne hc (by decide)⟩

end

/-! ### Epochs (R356–R358) -/

section
variable {s : State} {ne act : Nat}

theorem epochArm_accepted (hchange : s.rm.change = none) (hzero : ne ≠ 0) (hepoch : ne ≠ s.epoch) (hact : s.time.frameNum + 3 ≤ act)
    (hidle : s.flag RM_NEXT RM_NEXT_PEND = false) :
    s.epochArm ne act = (true, (s.setf RM_NEXT RM_NEXT_PEND).modRm fun m => { m with armed := some (ne, act) }) := by
  rw [State.epochArm, hchange]
  exact if_neg (by simp [hzero, hepoch, hact, hidle])

theorem epochArm_early (hact : act < s.time.frameNum + 3) : s.epochArm ne act = (false, s.setf RM_NEXT RM_NEXT_EPREFUSED) := by
  unfold State.epochArm
  exact if_pos (by simp [hact])

theorem exec_rmNextArm (hmay : s.hostMay RM_NEXT) :
    exec .rmNextArm s = .next (s.epochArm (s.get RM_NEXT RM_NEXT_NEPOCH) (s.rd64N RM_ACTFRAME)).2 :=
  congrArg Host.Outcome.next (hostCmd_may hmay)

theorem exec_rmNextArm_armed (hc : s.canonical = true) (hmay : s.hostMay RM_NEXT) (hchange : s.rm.change = none)
    (hzero : s.get RM_NEXT RM_NEXT_NEPOCH ≠ 0) (hepoch : s.get RM_NEXT RM_NEXT_NEPOCH ≠ s.epoch)
    (hact : s.time.frameNum + 3 ≤ s.rd64N RM_ACTFRAME) (hidle : s.flag RM_NEXT RM_NEXT_PEND = false) :
    ∃ t, exec .rmNextArm s = .next t ∧ t.flag RM_NEXT RM_NEXT_PEND = true ∧ t.rm.armed = some (s.get RM_NEXT RM_NEXT_NEPOCH, s.rd64N RM_ACTFRAME) := by
  rw [exec_rmNextArm hmay, epochArm_accepted hchange hzero hepoch hact hidle]
  exact ⟨_, rfl, flag_setf hc (by decide) (by decide), rfl⟩

theorem exec_rmNextArm_early (hc : s.canonical = true) (hmay : s.hostMay RM_NEXT) (hact : s.rd64N RM_ACTFRAME < s.time.frameNum + 3) :
    ∃ t, exec .rmNextArm s = .next t ∧ t.flag RM_NEXT RM_NEXT_EPREFUSED = true ∧ t.rm = s.rm := by
  rw [exec_rmNextArm hmay, epochArm_early hact]
  exact ⟨_, rfl, flag_setf hc (by decide) (by decide), rfl⟩

theorem resolve_rm (s : State) (k : WaitKind) (u : Nat) (st : Status) : (s.resolve k u st).rm = s.rm :=
  (keeps_State_resolve (M := maskBut [.rm]) rfl (Keeps.refl s)).same .rm rfl

/-- The registers of a change of epoch: the epoch in force, PEND and GRACERUN. -/
def State.epochRegs (s : State) (ne : Nat) : State :=
  ((s.put RM_EPOCH RM_EPOCH_EPOCH ne).clrf RM_NEXT RM_NEXT_PEND).putB RM_STAT RM_STAT_GRACERUN (0 < s.get RM_EPOCH RM_EPOCH_GRACE)

theorem epochRegs_spec (hc : s.canonical = true) (hne : ne < 256) : (s.epochRegs ne).epoch = ne ∧
    (s.epochRegs ne).flag RM_NEXT RM_NEXT_PEND = false ∧ (s.epochRegs ne).inGrace = decide (0 < s.get RM_EPOCH RM_EPOCH_GRACE) := by
  have hc1 : (s.put RM_EPOCH RM_EPOCH_EPOCH ne).canonical = true := put_canonical hc
  have hc2 : ((s.put RM_EPOCH RM_EPOCH_EPOCH ne).clrf RM_NEXT RM_NEXT_PEND).canonical = true := clrf_canonical hc1
  refine ⟨?_, ?_, flag_putB hc2 (by decide) (by decide)⟩
  · rw [State.epochRegs, State.epoch, State.putB, get_put_ne hc2 (by decide), State.clrf, get_put_ne hc1 (by decide), get_put_same hc (by decide)]
    exact Nat.mod_eq_of_lt hne
  · rw [State.epochRegs, State.putB, State.flag, get_put_ne hc2 (by decide)]
    exact flag_clrf hc1 (by decide)

/-- From the boundary of ACTFRAME on the armed change takes place. -/
theorem epochChange_due (harmed : s.rm.armed = some (ne, act)) (hdue : act ≤ s.time.frameNum) : s.epochChange.regs = (s.epochRegs ne).regs ∧
    s.epochChange.rm = { s.rm with armed := none, change := some s.time.frameNum, prev := s.epoch,
                                   graceEnd := s.time.frameNum + s.get RM_EPOCH RM_EPOCH_GRACE } := by
  unfold State.epochChange
  rw [harmed]
  dsimp only
  rw [if_neg (Nat.not_lt.2 hdue), resolve_regs, resolve_rm]
  exact ⟨rfl, rfl⟩

theorem epochChange_ahead (harmed : s.rm.armed = some (ne, act)) (hahead : s.time.frameNum < act) : s.epochChange = s := by
  unfold State.epochChange
  rw [harmed]
  exact if_pos hahead

theorem epochChange_spec (hc : s.canonical = true) (harmed : s.rm.armed = some (ne, act)) (hdue : act ≤ s.time.frameNum) (hne : ne < 256) :
    s.epochChange.epoch = ne ∧ s.epochChange.flag RM_NEXT RM_NEXT_PEND = false ∧ s.epochChange.rm.armed = none ∧
    s.epochChange.rm.prev = s.epoch ∧ s.epochChange.rm.graceEnd = s.time.frameNum + s.get RM_EPOCH RM_EPOCH_GRACE ∧
    s.epochChange.inGrace = decide (0 < s.get RM_EPOCH RM_EPOCH_GRACE) := by
  obtain ⟨hregs, hrm⟩ := epochChange_due harmed hdue
  obtain ⟨hepoch, hpend, hgrace⟩ := epochRegs_spec hc hne
  rw [hrm, State.epoch, State.inGrace, State.flag, State.flag, get_congr hregs, get_congr hregs, get_congr hregs]
  exact ⟨hepoch, hpend, rfl, rfl, rfl, hgrace⟩

theorem graceEnd_spec (hc : s.canonical = true) (hgrace : s.inGrace = true) (hend : s.rm.graceEnd ≤ s.time.frameNum) :
    s.graceEnd.inGrace = false ∧ s.graceEnd.rm = s.rm := by
  have hclr : s.graceEnd = s.clrf RM_STAT RM_STAT_GRACERUN := if_pos (by simp [hgrace, hend])
  rw [hclr]
  exact ⟨flag_clrf hc (by decide), rfl⟩

end

end Sys2Proof.Machine
end

section
/-! PROOFS. The Yard bell (11_ramaux.md R363–R368). -/

namespace Sys2Proof.Machine

/-! ### A bell reaches the switch (R366) -/

/-- A bell goes out on the other ports that have link, with one hop less. -/
def State.bellForward (s : State) (p : Nat) (b : Bell) : State :=
  if b.hops.toNat = 0 then s
  else
    let out := rmHeader 3 0 s.node (s.time.frameNum % 2 ^ 32) 24 0 ++ bellBytes b (b.hops.toNat - 1)
    let f := { s.rmFrameOf .bell 1024 5 out with inPort := p }
    s.forEach ([1, 2, 3].filter fun q => q != p && s.linkUp? q) fun s q => s.egress f q

/-- The bell can be read: its BCRC holds and its kind is one of the two. -/
def bellValid (b : Bell) : Bool := b.crcOk && b.bkind.toNat != 0 && decide (b.bkind.toNat ≤ 2)

/-- Entry `i` of the merge table is that of the bell's key. -/
def State.bellKey (s : State) (b : Bell) (i : Nat) : Bool :=
  s.btMatch i b.origin b.epoch.toNat && s.get (BT_KEY i) BT_KEY_BKIND == b.bkind.toNat

/-- A further bell of the key of entry `i` is counted. -/
def State.bellMerged (s : State) (i : Nat) : State := (s.count (BT_W1 i) BT_W1_COUNT).rmCount RM_CNT5 RM_CNT5_HI

/-- The copy that port `q` let in leaves the queues, and entry `i` counts as made by P1 (R373). -/
def State.bellRetaken (s : State) (b : Bell) (i t q : Nat) : State :=
  (s.unqueue [1, 2, 3] 5 fun f => f.kind == .bell && f.inPort == q && (f.body.drop 16).take 4 == (bellBytes b 0).take 4).modRm fun r =>
    { r with bellTook := (i, t, 1) }

/-- The key of a bell as BT_KEY holds it. -/
def bellKeyWord (b : Bell) : Nat := 2 ^ 31 + b.bkind.toNat * 2 ^ 24 + b.epoch.toNat * 2 ^ 16 + b.origin.val

/-- The key of a bell makes entry `i`. -/
def State.bellEntry (s : State) (p : Nat) (b : Bell) (i : Nat) : State :=
  (((s.wrN (BT_KEY i) (bellKeyWord b)).wrN (BT_W1 i) 0).wrN (BT_FIRST i) (s.time.frameNum % 2 ^ 32)).modRm fun r => { r with bellTook := (i, s.tick, p) }

/-- The key of a bell makes an entry where one is free. -/
def State.bellEntered (s : State) (p : Nat) (b : Bell) : State :=
  match (List.range 64).find? fun i => !s.flag (BT_KEY i) BT_KEY_USED with
  | some i => s.bellEntry p b i
  | none => s.rmCount RM_CNT5 RM_CNT5_LO

section
variable {s : State} {p : Nat} {b : Bell}

theorem bellForward_keeps (s : State) (p : Nat) (b : Bell) : Keeps (partMask [.nw]) s (s.bellForward p b) :=
  ite_of (Keeps.refl s) (Keeps.forEach (Keeps.refl s) fun _ _ ht => keeps_State_egress rfl ht)

theorem bellForward_regs (s : State) (p : Nat) (b : Bell) : (s.bellForward p b).regs = s.regs := (bellForward_keeps s p b).same .regs rfl
theorem bellForward_rm (s : State) (p : Nat) (b : Bell) : (s.bellForward p b).rm = s.rm := (bellForward_keeps s p b).same .rm rfl

theorem not_bellValid (h : bellValid b = false) : (!b.crcOk || decide (b.bkind.toNat = 0) || decide (2 < b.bkind.toNat)) = true := by
  simp only [bellValid, Bool.and_eq_false_iff, bne_eq_false_iff_eq, decide_eq_false_iff_not, not_le] at h
  simpa [or_assoc] using h

theorem of_bellValid (h : bellValid b = true) : ¬(!b.crcOk || decide (b.bkind.toNat = 0) || decide (2 < b.bkind.toNat)) = true := by
  simp only [bellValid, Bool.and_eq_true, bne_iff_ne, decide_eq_true_eq] at h
  simpa [and_assoc] using h

theorem bellIn_invalid (h : bellValid b = false) : s.bellIn p b = s.rmCount RM_CNT2 RM_CNT2_HI := if_pos (not_bellValid h)

theorem bellRetaken_keeps (s : State) (b : Bell) (i t q : Nat) : Keeps (partMask [.nw, .rm]) s (s.bellRetaken b i t q) :=
  keeps_State_modRm rfl (keeps_State_unqueue rfl (Keeps.refl s))

theorem bellIn_known_eq {i : Nat} (h : bellValid b = true) (hfind : (List.range 64).find? (s.bellKey b) = some i) :
    s.bellIn p b =
      if (decide (p = 1) && decide (s.rm.bellTook.2.2 ≠ 0) && decide (s.rm.bellTook.1 = i) && decide (s.rm.bellTook.2.1 = s.tick)) = true then
        ((s.bellMerged i).bellRetaken b i s.rm.bellTook.2.1 s.rm.bellTook.2.2).bellForward p b
      else s.bellMerged i := by
  unfold State.bellIn
  extract_lets kind mine go
  have hmine : (List.range 64).find? mine = some i := hfind
  rw [if_neg (of_bellValid h), hmine]
  rfl

/-- A bell of a known key is counted, and goes no further but for a P1 copy in the tick in which another port's copy made the entry (R373). -/
theorem bellIn_known {i : Nat} (h : bellValid b = true) (hfind : (List.range 64).find? (s.bellKey b) = some i) :
    s.bellIn p b = s.bellMerged i ∨
    (p = 1 ∧ s.rm.bellTook.2.2 ≠ 0 ∧ s.rm.bellTook.1 = i ∧ s.rm.bellTook.2.1 = s.tick) ∧
      Keeps (partMask [.nw, .rm]) (s.bellMerged i) (s.bellIn p b) := by
  rw [bellIn_known_eq h hfind]
  split
  · next hcond =>
    simp only [Bool.and_eq_true, decide_eq_true_eq, and_assoc] at hcond
    exact .inr ⟨hcond, (bellRetaken_keeps ..).trans ((bellForward_keeps ..).wider rfl)⟩
  · exact .inl rfl

/-- A bell of a new key makes an entry, and goes to P0 and out. -/
theorem bellIn_new (h : bellValid b = true) (hfind : (List.range 64).find? (s.bellKey b) = none) :
    s.bellIn p b = (if p = 0 then s.bellEntered p b else (s.bellEntered p b).bellToP0 b).bellForward p b := by
  unfold State.bellIn
  extract_lets kind mine go
  have hmine : (List.range 64).find? mine = none := hfind
  rw [if_neg (of_bellValid h), hmine]
  rfl

/-- A bell that P0 sends changes neither the lost nodes nor the notices. -/
theorem bellIn_host_rm (s : State) (b : Bell) : (s.bellIn 0 b).rm.lost = s.rm.lost ∧ (s.bellIn 0 b).rm.notices = s.rm.notices := by
  cases hvalid : bellValid b with
  | false =>
    rw [bellIn_invalid hvalid, rmCount_rm]
    exact ⟨rfl, rfl⟩
  | true =>
    cases hfind : (List.range 64).find? (s.bellKey b) with
    | some i =>
      obtain heq | ⟨⟨hp, -⟩, -⟩ := bellIn_known (p := 0) hvalid hfind
      · rw [heq, State.bellMerged, rmCount_rm]
        exact ⟨rfl, rfl⟩
      · cases hp
    | none =>
      rw [bellIn_new hvalid hfind, if_pos rfl, bellForward_rm]
      unfold State.bellEntered
      split
      · exact ⟨rfl, rfl⟩
      · rw [rmCount_rm]
        exact ⟨rfl, rfl⟩

theorem bellToP0_rd {a : Nat} (hc : s.canonical = true) (ha : NT_CTRL ≤ a) (hne : a ≠ RM_CNT4) : (s.bellToP0 b).rd a = s.rd a := by
  unfold State.bellToP0
  extract_lets hit s1
  exact ite_of (P := fun u : State => u.rd a = s.rd a) (rmCount_rd_ne hc (by decide) ha hne) rfl

/-- The first of the numbers from 0 that passes is 0 where 0 passes. -/
theorem find?_range_zero {n : Nat} {q : Nat → Bool} (h : q 0 = true) : (List.range (n + 1)).find? q = some 0 := by
  rw [List.range_succ_eq_map]
  exact List.find?_cons_of_pos h

theorem bellEntered_zero (hfree : s.flag (BT_KEY 0) BT_KEY_USED = false) : s.bellEntered p b = s.bellEntry p b 0 := by
  have hfind : ((List.range 64).find? fun i => !s.flag (BT_KEY i) BT_KEY_USED) = some 0 := find?_range_zero (by simp [hfree])
  rw [State.bellEntered, hfind]

theorem btRegs_ne (i : Nat) : BT_KEY i ≠ BT_W1 i ∧ BT_KEY i ≠ BT_FIRST i ∧ BT_W1 i ≠ BT_FIRST i := by
  unfold BT_KEY BT_W1 BT_FIRST
  omega

theorem bellEntry_key (hc : s.canonical = true) (i : Nat) : (s.bellEntry p b i).canonical = true ∧
    (s.bellEntry p b i).rdN (BT_KEY i) = bellKeyWord b % 2 ^ 32 := by
  have hc1 := wrN_canonical (a := BT_KEY i) (v := bellKeyWord b) hc
  have hc2 := wrN_canonical (a := BT_W1 i) (v := 0) hc1
  obtain ⟨hw1, hfirst, -⟩ := btRegs_ne i
  rw [State.bellEntry]
  refine ⟨(State.modRm_canonical ..).trans (wrN_canonical hc2), ?_⟩
  rw [State.rdN, State.modRm_rd, State.wrN, rd_wr_ne hc2 hfirst, State.wrN, rd_wr_ne hc1 hw1, ← State.rdN]
  exact rdN_wrN_mod hc

/-- A bell of a new key enters the free entry 0. -/
theorem bellIn_enters (hc : s.canonical = true) (hcrc : b.crcOk = true) (hkind : b.bkind = 1)
    (hnew : ∀ i < 64, s.btMatch i b.origin b.epoch.toNat = false) (hfree : s.flag (BT_KEY 0) BT_KEY_USED = false) :
    (s.bellIn p b).flag (BT_KEY 0) BT_KEY_USED = true ∧ (s.bellIn p b).get (BT_KEY 0) BT_KEY_ORIGIN = b.origin ∧
    (s.bellIn p b).get (BT_KEY 0) BT_KEY_EPOCH = b.epoch.toNat ∧ (s.bellIn p b).get (BT_KEY 0) BT_KEY_BKIND = 1 := by
  have hvalid : bellValid b = true := by rw [bellValid, hcrc, hkind]; rfl
  have hfind : (List.range 64).find? (s.bellKey b) = none := by
    refine List.find?_eq_none.2 fun i hi => ?_
    simp [State.bellKey, hnew i (List.mem_range.1 hi)]
  obtain ⟨hce, hkey⟩ := bellEntry_key (p := p) (b := b) hc 0
  have hrd : (s.bellIn p b).rd (BT_KEY 0) = (s.bellEntry p b 0).rd (BT_KEY 0) := by
    rw [bellIn_new hvalid hfind, rd_congr (bellForward_regs ..), bellEntered_zero hfree]
    exact ite_of (P := fun u : State => u.rd (BT_KEY 0) = _) rfl (bellToP0_rd hce (by decide) (by decide))
  have horigin := b.origin.isLt
  have hepoch := b.epoch.isLt
  have hval : (s.bellIn p b).rdN (BT_KEY 0) = 2 ^ 31 + 2 ^ 24 + b.epoch.toNat * 2 ^ 16 + b.origin.val := by
    have hone : b.bkind.toNat = 1 := by rw [hkind]; rfl
    rw [State.rdN, hrd, ← State.rdN, hkey, bellKeyWord, hone]
    omega
  rw [State.flag, State.get, State.get, State.get, State.get, hval, beq_iff_eq]
  simp only [BT_KEY_USED, BT_KEY_ORIGIN, BT_KEY_EPOCH, BT_KEY_BKIND]
  omega

/-- A bell of the key of entry 0 is counted there. -/
theorem bellIn_merges (hc : s.canonical = true) (hcrc : b.crcOk = true) (hkind : b.bkind = 1) (hmatch : s.btMatch 0 b.origin b.epoch.toNat = true)
    (hentry : s.get (BT_KEY 0) BT_KEY_BKIND = 1) :
    (s.bellIn p b).get (BT_W1 0) BT_W1_COUNT = incSat BT_W1_COUNT.w (s.get (BT_W1 0) BT_W1_COUNT) ∧
    (p ≠ 1 ∨ s.rm.bellTook.1 ≠ 0 ∨ s.rm.bellTook.2.1 ≠ s.tick ∨ s.rm.bellTook.2.2 = 0 → (s.bellIn p b).nw = s.nw) := by
  have hvalid : bellValid b = true := by rw [bellValid, hcrc, hkind]; rfl
  have hfind : (List.range 64).find? (s.bellKey b) = some 0 := find?_range_zero (by simp [State.bellKey, hmatch, hentry, hkind])
  have hcount : (s.bellMerged 0).get (BT_W1 0) BT_W1_COUNT = incSat BT_W1_COUNT.w (s.get (BT_W1 0) BT_W1_COUNT) := by
    rw [State.bellMerged, get_congr_rd (rmCount_rd_ne (count_canonical hc) (by decide) (by decide) (by decide))]
    exact get_count_same hc (by decide)
  obtain heq | ⟨⟨hp, hport, htook, htick⟩, hkeeps⟩ := bellIn_known (p := p) hvalid hfind
  · rw [heq]
    exact ⟨hcount, fun _ => rmCount_nw ..⟩
  · refine ⟨(get_congr (hkeeps.same .regs rfl) ..).trans hcount, fun hother => ?_⟩
    rcases hother with h | h | h | h
    · exact absurd hp h
    · exact absurd htook h
    · exact absurd htick h
    · exact absurd h hport

end

/-! ### Notices and reports (R364, R365) -/

section
variable {s : State}

theorem bellNotice_notices {cause d : Nat} {r : Bool} {rest : List (Nat × Nat × Bool × Bool)} (hnotices : s.rm.notices = (cause, d, false, r) :: rest)
    (hd : d < s.time.frameNum) (hwatch : s.isWatch = false) (hfw : s.pw.fwRun = true) (hawake : s.inDawn = false) (hon : s.rmOn = true) :
    s.bellNotice.rm.notices = (cause, d, true, r) :: rest := by
  have hfind : (s.rm.notices.find? fun x => !x.2.2.1) = some (cause, d, false, r) := by rw [hnotices]; rfl
  unfold State.bellNotice
  rw [hfind]
  dsimp only
  rw [if_neg (by simp [hd, hwatch, hfw, hawake, hon]), (bellIn_host_rm _ _).2, rmCount_rm, State.modRm_rm]
  simp [hnotices]

/-- The role of node `origin` in the nodes lost is set. -/
def State.lostRole (s : State) (origin r : Nat) : State := s.modRm fun x =>
  { x with lost := x.lost.map fun y => if y.node == origin && y.role == 0 then { y with role := r, supp := y.supp + b2n (r == 2) } else y }

section
variable {o : Nat} {l : LostNode} {rest : List LostNode} (hlost : s.rm.lost = l :: rest) (hnode : l.node = o) (hrole : l.role = 0)
  (hback : l.back = false) (hdue : l.d + s.get RM_BELL RM_BELL_HUSH + s.node % 32 ≤ s.time.frameNum) (hwatch : s.isWatch = false)
  (hfw : s.pw.fwRun = true) (hquiet : ∀ i < 64, s.btMatch i o l.epoch = false)
include hlost hnode hrole hback hdue hwatch hfw hquiet

/-- A partner whose hush is over, and that has heard no bell of the origin, reports it. -/
theorem bellReport_rings :
    s.bellReport o = ((s.lostRole o 1).rmCount RM_CNT4 RM_CNT4_HI).bellIn 0 (s.bellOf o 2 0x10 l.d l.nsub) := by
  have hfind : (s.rm.lost.find? fun l => l.node == o && l.role == 0) = some l := by
    rw [hlost]
    exact List.find?_cons_of_pos (by simp [hnode, hrole])
  have hany : ((List.range 64).any fun i => s.btMatch i o l.epoch) = false := by
    simpa [List.any_eq_false] using hquiet
  unfold State.bellReport
  rw [hfind]
  dsimp only
  rw [if_neg (by simp [hwatch, hfw, hdue]), if_neg (by simp [hback]), if_neg (by simp [hany])]
  rfl

theorem bellReport_spec :
    (s.bellReport o).rm.lost.head? = some { l with role := 1 } ∧ (s.bellReport o).rm.notices = s.rm.notices := by
  rw [bellReport_rings hlost hnode hrole hback hdue hwatch hfw hquiet]
  obtain ⟨hl, hn⟩ := bellIn_host_rm ((s.lostRole o 1).rmCount RM_CNT4 RM_CNT4_HI) (s.bellOf o 2 0x10 l.d l.nsub)
  rw [hl, hn, rmCount_rm]
  refine ⟨?_, rfl⟩
  rw [State.lostRole, State.modRm_rm, hlost, List.map_cons, List.head?_cons, if_pos (by simp [hnode, hrole])]
  rfl

end

/-! ### Age-out and record (R366, R368) -/

theorem bellAgeout_clears {i : Nat} (hc : s.canonical = true) (hused : s.flag (BT_KEY i) BT_KEY_USED = true)
    (hold : s.get RM_BELL RM_BELL_BELLAGE ≤ (s.time.frameNum + 2 ^ 32 - s.rdN (BT_FIRST i)) % 2 ^ 32) :
    (s.bellAgeout i).rd (BT_KEY i) = 0 ∧ (s.bellAgeout i).rd (BT_W1 i) = 0 ∧ (s.bellAgeout i).rd (BT_FIRST i) = 0 := by
  have hclear : s.bellAgeout i = ((s.wrN (BT_KEY i) 0).wrN (BT_W1 i) 0).wrN (BT_FIRST i) 0 := if_pos (Bool.and_eq_true_iff.2 ⟨hused, decide_eq_true hold⟩)
  have hc1 := wrN_canonical (a := BT_KEY i) (v := 0) hc
  have hc2 := wrN_canonical (a := BT_W1 i) (v := 0) hc1
  obtain ⟨hkw, hkf, hwf⟩ := btRegs_ne i
  rw [hclear]
  refine ⟨?_, ?_, rd_wr_same hc2⟩
  · exact (rd_wr_ne hc2 hkf).trans ((rd_wr_ne hc1 hkw).trans (rd_wr_same hc))
  · exact (rd_wr_ne hc2 hwf).trans (rd_wr_same hc1)

theorem bellRecord_spec {o : Nat} {l : LostNode} {rest : List LostNode} (hlost : s.rm.lost = l :: rest) (hnode : l.node = o)
    (hnew : l.recorded = false) (hfw : s.pw.fwRun = true) (hdue : l.d + s.get RM_BELL RM_BELL_HUSH + 32 ≤ s.time.frameNum) :
    (s.bellRecord o).rm.lost.head? = some { l with recorded := true } ∧
    (s.bellRecord o).events.getLast?.map (fun (e : Event) => (e.kind, e.unit)) = some (EventKind.bell, o) := by
  unfold State.bellRecord
  extract_lets due
  have hd : due l.d = true := by simp [due, hfw, hdue]
  have hfind : (s.rm.lost.find? fun l => l.node == o && !l.recorded && due l.d) = some l := by
    rw [hlost]
    exact List.find?_cons_of_pos (by simp [hnode, hnew, hd])
  rw [hfind]
  dsimp only
  rw [State.event_rm, State.modRm_rm, State.event_events, List.getLast?_concat, hlost, List.map_cons, List.head?_cons,
    if_pos (by simp [hnode, hnew, hd])]
  exact ⟨rfl, rfl⟩

end

/-! ### The commands -/

/-- Settles O51: each command by the lemma on its one operation; a bell that the module itself rings changes neither its notices nor the nodes
lost (`bellIn_host_rm`). -/
theorem ramauxCommandsComplete : Obligations.RamauxCommandsComplete := by
  refine ⟨?txEmpty, ?txUser, ?badHeader, ?delivered, ?enable, ?enableBad, ?disable, ?arm, ?armEarly, ?change, ?ahead, ?graceEnd, ?clear, ?notice,
    ?report, ?badBell, ?newBell, ?knownBell, ?ageout, ?record⟩
  case txEmpty => exact fun s hawake hon hpubs => congrArg Host.Outcome.next (txSlot_empty hawake hon hpubs)
  case txUser => exact fun s i hawake hon hpubs hkind => congrArg Host.Outcome.next (txSlot_user hawake hon hpubs hkind)
  case badHeader =>
    exact fun s f hc hawake hhead => ⟨_, congrArg Host.Outcome.next (cyclicIn_badHeader hawake hhead),
      rmCount_get_same hc (by decide) (by decide), State.group_mem .., rmCount_rm ..⟩
  case delivered =>
    intro s f i hawake hhead hcrc hage hone b plen hlen hlo hhi hbcrc hfind hkind hsub hepoch
    refine congrArg Host.Outcome.next ((cyclicIn_blocks hawake hhead hcrc hage).trans ?_)
    rw [hone]
    exact blocks_one_delivers rfl hlen hlo hhi hbcrc hfind hkind hsub hepoch
  case enable =>
    exact fun s v hc hmay hw hmorning hen hwin htx hce =>
      ⟨s.rmEnable v.toNat, exec_ramauxEnable hmay hw, rmEnable_on_spec hc hmorning hen hwin htx hce⟩
  case enableBad =>
    exact fun s v hc hmay hw hmorning hen hce => ⟨s.rmEnable v.toNat, exec_ramauxEnable hmay hw, rmEnable_bad_spec hc hmorning hen hce⟩
  case disable =>
    exact fun s v hc hmay hw hmorning hen => ⟨s.rmEnable v.toNat, exec_ramauxEnable hmay hw, rmEnable_off_spec hc hmorning hen⟩
  case arm => exact fun s hc hmay hchange hzero hepoch hact hidle => exec_rmNextArm_armed hc hmay hchange hzero hepoch hact hidle
  case armEarly => exact fun s hc hmay hact => exec_rmNextArm_early hc hmay hact
  case change => exact fun s ne act hc harmed hdue hne => ⟨s.epochChange, rfl, epochChange_spec hc harmed hdue hne⟩
  case ahead => exact fun s ne act harmed hahead => congrArg Host.Outcome.next (epochChange_ahead harmed hahead)
  case graceEnd => exact fun s hc hgrace hend => ⟨s.graceEnd, rfl, graceEnd_spec hc hgrace hend⟩
  case clear => exact fun s hc hmay => ⟨s.rmClrCnt, exec_rmClrcnt hmay, (forEach_clear_rd hc RM_CNT0 7).2⟩
  case notice =>
    exact fun s cause d r rest hnotices hd hwatch hfw hawake hon => ⟨s.bellNotice, rfl, bellNotice_notices hnotices hd hwatch hfw hawake hon⟩
  case report =>
    exact fun s o l rest hlost hnode hrole hback hdue hwatch hfw hquiet =>
      ⟨s.bellReport o, rfl, bellReport_spec hlost hnode hrole hback hdue hwatch hfw hquiet⟩
  case badBell =>
    intro s p b hc hcrc
    have hinvalid : bellValid b = false := by rw [bellValid, hcrc]; rfl
    exact ⟨_, congrArg Host.Outcome.next (bellIn_invalid hinvalid), rmCount_get_same hc (by decide) (by decide), rmCount_nw ..⟩
  case newBell => exact fun s p b hc hcrc hkind hnew hfree => ⟨s.bellIn p b, rfl, bellIn_enters hc hcrc hkind hnew hfree⟩
  case knownBell => exact fun s p b hc hcrc hkind hmatch hentry => ⟨s.bellIn p b, rfl, bellIn_merges hc hcrc hkind hmatch hentry⟩
  case ageout => exact fun s i hc hused hold => ⟨s.bellAgeout i, rfl, bellAgeout_clears hc hused hold⟩
  case record => exact fun s o l rest hlost hnode hnew hfw hdue => ⟨s.bellRecord o, rfl, bellRecord_spec hlost hnode hnew hfw hdue⟩

end Sys2Proof.Machine
end
